-- ==== Sys2Proof/Word.lean ====
section
/-! DEFINITION. The widths of words that the whole model shares: a flit of the Flue (R20), a command header on
TPI (R74) and a byte of an addressed buffer, and the name of a Flue hop. Counts, indexes and residues are naturals; every place that stores one in a
field of fixed width wraps it there. -/

namespace Sys2Proof

/-- One flit of the Flue: 128 data bits (R20). -/
abbrev Flit := BitVec 128

/-- A command header, the 256 bits of TPI_CMD_HDR and TPI_ICMD_HDR (R74). -/
abbrev Hdr := BitVec 256

/-- A byte of an addressed buffer (token buffer, Ledger flash, Ledger read buffer). -/
abbrev Byte := BitVec 8

/-- A Flue hop, named by its sender (R27, R197): a spine port of the Kiln, by region row; a mesh or spine port of a hub (0 N, 1 E, 2 S, 3 W,
4 spine); a column-chain port of a hub; a column-chain stage towards its hub, or away from it. -/
inductive HopId where
  | kiln (row : Nat)
  | hub (region port : Nat)
  | column (region col : Nat)
  | up (region tile : Nat)
  | down (region tile : Nat)
  deriving DecidableEq, Repr

end Sys2Proof
end

