-- ==== Sys2Proof/Charter.lean ====
section
/-! DEFINITION. What a Charter or an amendment declares (R412–R415), as the structured and generic entries of its sections. The
same record, as amended, is the configuration in force. The bytes of an image lie in host memory, which the block reads but does not
hold. -/

namespace Sys2Proof

/-- A pattern descriptor of the library (R120): header, fill kind, fill word, expected signature and beat count, MARGIN and cover. -/
structure Pattern where
  hdr : Hdr
  fill : Nat
  fillWord : Nat
  expA : Nat
  expB : Nat
  expBeats : Nat
  margin : Bool
  cover : Nat
  deriving DecidableEq, Repr

/-- An ENGINE entry (R414, R221). -/
structure EngineEntry where
  engine : Nat
  partition : Nat
  regions : List Nat
  deriving DecidableEq, Repr

/-- A PORT entry (R414): enabled, reserved, peer ordinal, QUALMAX. -/
structure PortEntry where
  clp : Nat
  enabled : Bool
  reserved : Bool
  peer : Nat
  qualmax : Nat
  deriving DecidableEq, Repr

/-- A WINDOW entry (R414, R375). -/
structure WindowEntry where
  index : Nat
  read : Bool
  write : Bool
  tenant : Nat
  base : Nat
  size : Nat
  deriving DecidableEq, Repr

/-- A KINDCLASS entry (R414, R202): service class 0 LOG to 4 L3, three-class entry 0 Corrected to 3 Fatal L3; N and W are 0 where not
set. -/
structure KindEntry where
  kind : Nat
  corr : Bool
  service : Nat
  three : Nat
  n : Nat
  w : Nat
  deriving DecidableEq, Repr

/-- A TCOEF entry (R414, R320). -/
structure TcoefEntry where
  region : Nat
  a : Nat
  bv : Nat
  bl : Nat
  amb : Nat
  deriving DecidableEq, Repr

/-- A CHANNEL entry (R414, R308): kind 0 UNUSED, 1 REGION, 2 AUX. -/
structure ChannelEntry where
  channel : Nat
  kind : Nat
  apportion : Bool
  rshunt : Nat
  gain : Nat
  offset : Int
  kbar : Nat
  regions : List Nat
  deriving DecidableEq, Repr

/-- A WEIGHTS entry (R414, R314): region 0xFFFF is every region. -/
structure WeightsEntry where
  region : Nat
  weights : List Nat
  overhead : Nat
  vref : Nat
  deriving DecidableEq, Repr

/-- A LEAK entry (R414, R314). -/
structure LeakEntry where
  region : Nat
  values : List Nat
  deriving DecidableEq, Repr

/-- A TENANT entry (R414). -/
structure TenantEntry where
  tenant : Nat
  valid : Bool
  standby : Bool
  seedGiven : Bool
  job : Nat
  slice : Nat
  d : Nat
  recBase : Nat
  recSize : Nat
  seed : Nat
  /-- CLP and peer slice. -/
  bindings : List (Nat × Nat)
  deriving DecidableEq, Repr

/-- An OFFICER entry (R414): KEYID and a name for its key pair. -/
structure OfficerEntry where
  keyid : Nat
  key : Nat
  deriving DecidableEq, Repr

/-- A generic entry (R413): section, kind 1 REGLOAD, 2 HUBALL, 3 PROBEALL. -/
structure LoadEntry where
  section_ : Nat
  kind : Nat
  addr : Nat
  mask : Nat
  data : Nat
  deriving DecidableEq, Repr

/-- The header fields of a Concordance message that its TYPE and VER leave open (R247). -/
structure ClpHdr where
  retx : Bool
  prim : Bool
  seen : Bool
  fresh : Bool
  seq : Nat
  ack : Nat
  crret : Nat
  arret : Nat
  ord : Nat
  pclp : Nat
  sess : Nat
  psess : Nat
  deriving DecidableEq, Repr

/-- What the sections declare. An unset optional entry is none or an empty list; defaults stand for a host with no Charter loaded
(assumption 3). -/
structure Charter where
  /-- Section codes present. -/
  sections : List Nat := []
  w : Nat := 1
  h : Nat := 1
  spine : Nat := 0
  /-- 0 ACC_FIXED, 1 ACC_FLOAT; accumulator word width; words to a beat. -/
  layout : Nat := 0
  accW : Nat := 64
  accWords : Nat := 1
  stepping : Nat := 0
  grade : Nat := 0
  detred : Bool := false
  rclk : Nat := 2000000
  engines : List EngineEntry := []
  quench : List (Nat × Nat × Nat) := []
  maxPark : Nat := 0xFFFF
  maxExh : Nat := 0xFFFF
  maxClosed : Nat := 0xFFFF
  /-- The CHIP entry: rack ordinal and MINUP. -/
  chip : Option (Nat × Nat) := none
  ports : List PortEntry := []
  iftKey : Option Nat := none
  patterns : List (Nat × Pattern) := []
  dkey : Option Nat := none
  windows : List WindowEntry := []
  kinds : List KindEntry := []
  tcoefs : List TcoefEntry := []
  channels : List ChannelEntry := []
  weights : List WeightsEntry := []
  leaks : List LeakEntry := []
  ring : Option (Nat × Nat) := none
  kilnFix : Option Nat := none
  tenants : List TenantEntry := []
  officers : List OfficerEntry := []
  loads : List LoadEntry := []
  /-- AMEND POLICY; a Charter without it locks every section and permits no amendment. -/
  policy : Option (Nat × Nat) := none
  deriving DecidableEq, Repr

/-- Rack ordinal of the chip (R246); 0 where no CHIP entry gives one. -/
def Charter.ordinal (c : Charter) : Nat := (c.chip.getD (0, 0)).1

/-- Ports that must qualify for READY (R414). -/
def Charter.minUp (c : Charter) : Nat := (c.chip.getD (0, 0)).2

/-- An image as the Charter unit sees it (R412, R417): its header fields, the verdicts of the checks over its bytes, and its content. -/
structure Image where
  /-- MAGIC, FORMAT, LENGTH and the reserved header bytes are valid for a Charter. -/
  headerOk : Bool
  /-- FORMAT 0x0309. -/
  isAmendment : Bool
  length : Nat
  release : Nat
  variant : Nat
  vmask : Nat
  serial : Nat
  mekor : Nat
  base : Nat
  /-- SHA-384 of M. -/
  digest : Nat
  keyHash : Nat
  ecdsaOk : Bool
  mldsaOk : Bool
  structureOk : Bool
  /-- No EXACT pattern has an operand that R120 rules out. -/
  patternsOk : Bool
  /-- Byte offset that BRU_DETAIL reports for a structure or content error. -/
  offset : Nat
  content : Charter
  deriving DecidableEq, Repr

end Sys2Proof
end

