-- ==== Sys2Proof/Syntax.lean ====
section
/-! DEFINITION. The commands of the block: one constructor for each row of the opcode table, with the operands its rule gives
it. A probe is named by its region and its tile-within-region (R18); a received message by the fields of its opcode table.
What the surroundings decide (data on a port, a measurement, the order of events) is an operand too. -/

namespace Sys2Proof

/-- A slot and the HTAG of the header that it is to hold (R117). -/
structure SlotTag where
  slot : Nat
  htag : Nat
  deriving DecidableEq, Repr

/-- The inputs CLP_LINK_UP and CLP_TX_READY of a port (R244). -/
structure LinkLines where
  up : Bool
  ready : Bool
  deriving DecidableEq, Repr

/-- The commands (spec/opcode_table.json). -/
inductive Instr where
  /-- TIME_ROUND (R29). Every 4,096 HCLK after training the Kiln sends a TIME message down each spine link. -/
  | timeRound
  /-- TIME (R30). A hub or probe receives a TIME message, compares and loads the compensated GT, counts any correction and
  forwards the message; a node's first TIME also lets it start stamping. -/
  | time (region : Nat) (tile : Option Nat) (round gt : Nat)
  /-- FLUE_NAK (R27). A hop sender receives a NAK and replays its unacknowledged flits; after three NAKs in a row the hop
  holds all traffic and retrains. -/
  | flueNak (hop : HopId) (again : Bool)
  /-- FLUE_RETRAIN_DONE (R27). A hop retraining ends; on failure the hop is down and both ends raise FLUE_HOPDOWN. -/
  | flueRetrainDone (hop : HopId) (ok : Bool) (latency : Nat)
  /-- FLUE_RESERVED_OPCODE (R22). A receiver meets a reserved opcode, or a hub meets a non-zero-TENANT message for a tile the
  tenant does not hold; it discards the message, raises FLUE_PROTO and answers a REQ with an error RSP. -/
  | flueReservedOpcode (region : Nat) (tile : Option Nat) (src tag opcode tenant : Nat) (dest : Option Nat) (req : Bool)
  /-- CMD_ACCEPT (R76). The probe accepts a command header on TPI, occupies or continues a slot and starts the rotation and
  reading draws. -/
  | cmdAccept (region tile : Nat) (hdr : Hdr) (early : Bool)
  /-- ROTATION_DRAW_DONE (R53). The rotation draw of an accepted header completes and the probe raises TPI_OP_READY. -/
  | rotationDrawDone (region tile : Nat) (slot : Nat)
  /-- OPERAND_BEAT (R78). The probe takes an operand beat on TPI and folds it into lanes A and B and the activity counts. -/
  | operandBeat (region tile : Nat) (slot kind opa opb sca scb : Nat)
  /-- TAP_READ_BEAT (R82). An accumulator read beat passes the Tap, which reduces each word to residues and passes them with
  parity to the probe. -/
  | tapReadBeat (region tile : Nat) (acc words : Nat) (first last parityBad : Bool)
  /-- EGRESS_BEAT (R91). A beat of rounded outputs enters egress staging; the probe folds it into the signature, digest
  contribution and release tag. -/
  | egressBeat (region tile : Nat) (slot data nel : Nat) (lastb lastc : Bool)
  /-- RELEASE_TAG_OUT (R91). Four PCLK after a LASTB beat the probe presents the block's release tag on TPI_ETAG. -/
  | releaseTagOut (region tile : Nat)
  /-- GATE_DECISION (R87). Once its last condition is met the probe decides a slot's outcome, pulses TPI_OUT_VALID and moves
  the slot by the slot table. -/
  | gateDecision (region tile : Nat) (slot : Nat)
  /-- SLOT_DRAIN (R88). TPI_DRAIN_VALID frees a RELEASED slot; a drain for any other slot is ignored and sets HDRERR. -/
  | slotDrain (region tile : Nat) (slot : Nat)
  /-- MESH_BLOCK (R92). The LAST flit of a mesh block arrives and the probe decides the block with TPI_MIN_OK or TPI_MIN_BAD.
  -/
  | meshBlock (region tile : Nat) (first last prot : Bool) (fmt nel data tag src line lines : Nat)
  /-- SRAM_ECC_EVENT (R93). An SRAM ECC event arrives on TPI; an uncorrectable one fences the probe, a corrected one raises
  SRAM_CORR. -/
  | sramEccEvent (region tile : Nat) (uncorrectable : Bool) (line : Nat)
  /-- FENCE_REQ (R93). A write of 1 to TP_CTRL.FENCE_REQ closes the fence, or acts on the remembered state in STOPPED. -/
  | fenceReq (region tile : Nat) (ten tag : Nat)
  /-- RETRY_TIMEOUT (R94). No retry header arrives within 16,384 PCLK of TPI_RETRY, and the probe goes FENCED with a RETRY_TMO
  flit. -/
  | retryTimeout (region tile : Nat)
  /-- FAULT_FLIT_DEPART (R512). A probe's waiting FAULT flit leaves, and a fence that is held closed only for it opens. -/
  | faultFlitDepart (region tile : Nat)
  /-- PROBE_GATE (R96). All idle conditions hold and the probe power-gates after a final WD_STAT and EN_ACT. -/
  | probeGate (region tile : Nat)
  /-- PROBE_WAKE (R96). TPI_IDLE falls and the probe powers up and raises TPI_CMD_READY within 48 PCLK. -/
  | probeWake (region tile : Nat)
  /-- XOWN_ACK (R73). The host raises TPI_XOWN_ACK and the probe's waiting copy, fill or move proceeds. -/
  | xownAck (region tile : Nat) (data : List Nat)
  /-- MOVE_XOWN_TIMEOUT (R148). TPI_XOWN_ACK is still missing at cycle 256 of a move, so the later CAT_MOVED will carry
  TIMEOUT. -/
  | moveXownTimeout (region tile : Nat)
  /-- COPY_UNIT_ARRIVE (R148). A 64 B beat arrives on the column copy path and the receiving probe writes it or loads it as
  context. -/
  | copyUnitArrive (region tile : Nat) (beat data : Nat)
  /-- MOVE_COMPLETE (R148). A probe in a move passes its last beat, lowers TPI_XOWN, and the destination sends CAT_MOVED. -/
  | moveComplete (region tile : Nat)
  /-- ICMD_ACCEPT (R106). The tile dispatcher accepts a header that the probe presents on TPI_ICMD. -/
  | icmdAccept (region tile : Nat)
  /-- CSHK_ACK (R126). The host acknowledges a clock-shrink step and the walk starts its settle time. -/
  | cshkAck (region tile : Nat)
  /-- CSHK_TIMEOUT (R134). TPI_CSHK_ACK is missing after 256 PCLK; the walk ends without a sample and the hub raises CSHK_TMO.
  -/
  | cshkTimeout (region tile : Nat)
  /-- MW_SETTLE_DONE (R126). The 64 PCLK settle time ends and the walk runs the MARGIN patterns at the current step. -/
  | mwSettleDone (region tile : Nat)
  /-- STOP_LEAF_RISE (R94). The global-stop leaf rises at a probe or hub, which enters STOPPED and pauses its work. -/
  | stopLeafRise (region : Nat) (tile : Option Nat)
  /-- STOP_LEAF_FALL (R476). The global-stop leaf falls and each probe returns to its remembered fence state. -/
  | stopLeafFall (region : Nat) (tile : Option Nat)
  /-- BAND_INPUT_CHANGE (R128). BAND changes at a probe during a margin walk, and the probe restarts, ends or suspends the
  walk. -/
  | bandInputChange (region tile : Nat) (band : Nat)
  /-- RD_REQ (R106). The hub receives a worker's RD_REQ and queues a reading record, dispatching it at once if the column's
  reader is free. -/
  | rdReq (region tile : Nat) (slot : Nat) (hdr : Hdr) (sa sb beats u dom count gtlo : Nat)
  /-- RD_COPY (R108). A worker receives RD_COPY and sends its operand units over the copy path or as RD_DATA bursts. -/
  | rdCopy (region tile : Nat) (acc : Nat) (flue : Bool) (dir slot : Nat)
  /-- RD_ORDER (R108). A reader receives RD_ORDER, abandons any IFT segment and prepares to receive the operands. -/
  | rdOrder (region tile : Nat) (acc : Nat) (flue : Bool) (hdr : Hdr) (units hops dir count u dom : Nat)
  /-- READER_SIGNATURE_CLOSE (R106). Eight PCLK after the reader's LASTC it closes its signature, discards slot 0 and queues
  RD_REPORT. -/
  | readerSignatureClose (region tile : Nat)
  /-- RD_REPORT (R109). The hub compares a reader's RD_REPORT with the record and agrees, opens a third reading or decides the
  majority. -/
  | rdReport (region tile : Nat) (sa sb beats : Nat) (readerFault : Bool)
  /-- RD_AGREE (R106). A worker receives RD_AGREE and its READING slot becomes RELEASABLE within 4 PCLK, or at the pad
  deadline. -/
  | rdAgree (region tile : Nat) (acc : Nat) (slot : SlotTag) (unread : Bool)
  /-- RD_DISCARD (R110). A worker receives RD_DISCARD, closes its fence and discards the READING slot. -/
  | rdDiscard (region tile : Nat) (acc : Nat) (slot : SlotTag) (fence : Bool) (reason : Nat)
  /-- RD_ABORT (R108). A probe receives RD_ABORT, stops any copy, lowers TPI_XOWN and, as a reader, discards slot 0. -/
  | rdAbort (region tile : Nat) (acc : Nat)
  /-- RD_DATA (R110). An RD_DATA unit reaches the hub, which forwards it to the third reader, or reaches the third reader,
  which writes it. -/
  | rdData (region : Nat) (atReader : Option Nat) (worker acc unit data : Nat)
  /-- PAD_DEADLINE (R114). A READING slot reaches its pad deadline and is released if RD_AGREE has already arrived. -/
  | padDeadline (region tile : Nat) (slot : Nat)
  /-- READING_SETTLE_TIMEOUT (R116). A reading is still in COPY or RUN 150 µs after a gap-step prepare, and the hub votes
  void. -/
  | readingSettleTimeout (region col : Nat)
  /-- IFT_QUOTA_TIMEOUT (R115). A column's IFT quota is still unmet after four dwell times, so the hub votes for the step and
  records a short visit. -/
  | iftQuotaTimeout (region col : Nat)
  /-- IFT_START (R124). The gap probe receives IFT_START, increments its visit count and begins pass 0. -/
  | iftStart (region tile : Nat) (acc : Nat) (mwen : Bool)
  /-- IFT_GET (R137). The hub receives IFT_GET and returns the descriptor in IFT_PAT. -/
  | iftGet (region tile : Nat) (index : Nat)
  /-- IFT_PAT (R137). The probe receives a pattern descriptor and fills the operands of its next segment. -/
  | iftPat (region tile : Nat) (acc index : Nat) (hdr : Hdr) (fill word expA expB beats : Nat) (margin : Bool) (cover : Nat)
  /-- SEGMENT_CLOSE (R123). Eight PCLK after a segment's LASTC the probe closes the signature and judges the segment. -/
  | segmentClose (region tile : Nat)
  /-- SEGMENT_TIMEOUT (R123). A segment gives no TPI_EGR_LASTC within 2^20 PCLK and fails with kind TMO. -/
  | segmentTimeout (region tile : Nat)
  /-- IFT_RESULT (R132). The hub receives a pass result and raises IFT_FAIL or IFT_TRANSIENT for failures. -/
  | iftResult (region tile : Nat) (pass : Nat) (complete allPassed : Bool) (first kind : Nat) (confirmed : Bool) (time : Nat)
  /-- MW_RESULT (R129). The hub appends the walk sample to the tile's history and evaluates the pre-emptive quench rules. -/
  | mwResult (region tile : Nat) (margin band : Nat) (valid bandchg cshkto : Bool)
  /-- IFT_STOP (R137). The probe receives IFT_STOP, abandons or ends its segment, drives step 0 and answers IFT_STOPPED. -/
  | iftStop (region tile : Nat) (acc : Nat) (abandon : Bool)
  /-- IFT_STOPPED (R136). The hub receives IFT_STOPPED and may now vote on the gap step. -/
  | iftStopped (region tile : Nat)
  /-- EXP_REPORT (R134). The Kiln receives an exposure report, merges it with reading windows, issues recalls and rollback
  requests. -/
  | expReport (region gt0 gt1 x y cover : Nat) (ovf : Bool) (seq : Nat) (last : Bool) (cause : Nat) (entries : List Flit)
  /-- IFT_OVERDUE (R135). A tile of a parked or exhausted column reaches the overdue interval since its last clearing visit
  and the hub raises IFT_OVERDUE. -/
  | iftOverdue (region tile : Nat) (dwells : Nat)
  /-- CAT_REQ_ASSIGN (R146). A CAT_REQ write with OP ASSIGN asks the Kiln for a Folio that gives shelfmarks to a tenant. -/
  | catReqAssign (x y count tenant ten tag : Nat)
  /-- CAT_REQ_UNASSIGN (R146). A CAT_REQ write with OP UNASSIGN asks the Kiln for a Folio that takes shelfmarks back from a
  tenant. -/
  | catReqUnassign (x y count tenant ten tag : Nat)
  /-- CAT_REQ_RESTORE (R159). A CAT_REQ write with OP RESTORE asks for a PARKED column's quenched position to return as GAP.
  -/
  | catReqRestore (x y ten tag : Nat)
  /-- CAT_REQ_QUENCH (R156). A CAT_REQ write with OP QUENCH asks for a quench Folio for a shelfmark. -/
  | catReqQuench (x y ten tag : Nat)
  /-- GAP_STEP_DUE (R151). A WALK column's step conditions all hold and the hub proposes a CAT_STEP Folio. -/
  | gapStepDue (region : Nat) (cols : List Nat)
  /-- CAT_HOLD (R152). A probe receives CAT_HOLD, holds or releases TPI_CMD_READY, and reports CAT_IDLE once its slots are
  FREE. -/
  | catHold (region tile : Nat) (acc : Nat) (hold : Bool)
  /-- CAT_IDLE (R152). The hub receives CAT_IDLE for a prepared step or quench. -/
  | catIdle (region tile : Nat)
  /-- CAT_IDLE_TIMEOUT (R152). CAT_IDLE is missing 150 µs after the prepare, and the hub votes void and prepares the change
  again. -/
  | catIdleTimeout (region col : Nat)
  /-- CAT_ROLE (R165). A probe receives its new role and move instructions, to take effect at the seal. -/
  | catRole (region tile : Nat) (acc role x y newAcc : Nat) (send : Bool) (sendDir : Nat) (recv fromLower : Bool) (hops gt : Nat)
  /-- CAT_CTX (R146). A probe receives CAT_CTX and installs or removes a tenant's rotation context. -/
  | catCtx (region tile : Nat) (acc : Nat) (install : Bool) (tenant key d : Nat)
  /-- CAT_MOVED (R150). The hub receives CAT_MOVED and, once every move of the column has reported, sends CAT_REPORT. -/
  | catMoved (region tile : Nat) (whole busy ecc timeout : Bool) (units : Nat)
  /-- CAT_REPORT (R213). The Kiln receives CAT_REPORT and can end the HANDLING of a waiting L1 reaction. -/
  | catReport (region col state q1 q2 : Nat) (isPartial : Bool) (x y : Nat)
  /-- CAT_BOUNCE (R162). The hub receives a bounce and re-resolves the message by its binding, or discards it. -/
  | catBounce (region tile : Nat) (probeAcc code : Nat) (header : Flit) (payload : List Flit)
  /-- FL_PROPOSE (R172). The Kiln receives a hub's proposal, numbers it and queues it, or refuses it as BUSY or malformed. -/
  | flPropose (region part pid : Nat) (last urgent : Bool) (acts : List Flit)
  /-- FL_ACCEPT (R173). A hub receives FL_ACCEPT and learns its proposal's number, or learns that it must propose again. -/
  | flAccept (region pid result number : Nat)
  /-- PROPOSE_RETRY (R173). Sixteen µs after a BUSY refusal the hub proposes again. -/
  | proposeRetry (region pid : Nat)
  /-- FOLIO_PREPARE (R174). A QUEUED Folio meets its prepare conditions and the coordinator sends FL_PREP and starts the
  timer. -/
  | folioPrepare (number : Nat)
  /-- FL_PREP (R180). A participant receives all parts of FL_PREP, applies pending seals, checks its actions, arms holds and
  votes. -/
  | flPrep (who part : Nat) (last replay : Bool) (number tenant count gt : Nat) (acts : List Flit)
  /-- FL_VOTE (R179). The coordinator registers a vote; the last yes fixes T and sends FL_SEAL, a void sends FL_VOID. -/
  | flVote (who number code gt : Nat)
  /-- FOLIO_PREPARE_TIMEOUT (R176). A Folio still lacks a vote after 200 µs and becomes VOID with reason 7. -/
  | folioPrepareTimeout (number : Nat)
  /-- FL_SEAL (R180). A participant receives FL_SEAL, sends its orders to its probes with T and arms the application instant.
  -/
  | flSeal (who number : Nat) (replay : Bool) (t : Nat)
  /-- FL_VOID (R180). A participant receives FL_VOID, releases its holds and answers FL_DONE. -/
  | flVoid (who number reason : Nat)
  /-- FOLIO_APPLY (R182). A participant's GT reaches T and it applies its actions, its probes act at the same edge, and it
  returns FL_DONE. -/
  | folioApply (who number : Nat)
  /-- FL_DONE (R179). The coordinator records FL_DONE and marks the Folio APPLIED when the last arrives. -/
  | flDone (who number : Nat) (late voidAck dup : Bool) (gt : Nat)
  /-- FOLIO_DONE_TIMEOUT (R179). No FL_DONE from a participant 100 µs after T, so the coordinator resends FL_SEAL and after
  three resends marks the hub behind. -/
  | folioDoneTimeout (number : Nat)
  /-- FL_SYNC (R186). A returning hub's FL_SYNC makes the Kiln replay its behind list or rebuild its Catalogue part. -/
  | flSync (region last : Nat)
  /-- FL_SYNCACK (R192). The hub receives FL_SYNCACK telling it how many Folios follow as replays. -/
  | flSyncack (region count : Nat) (failed : Bool)
  /-- FL_TDROP (R190). A probe receives FL_TDROP and, at T, discards the tenant's unreleased slots and contexts. -/
  | flTdrop (region tile acc tenant instant : Nat)
  /-- FOLIO_TREQ (R189). A write of a tenant to FOLIO_TREQ requests that tenant's reset Folio. -/
  | folioTreq (tenant ten tag : Nat)
  /-- RFI_MESSAGE (R200). The hub accepts an RFI message and builds a host fault message, or discards it for parity. -/
  | rfiMessage (region data : Nat) (parOk : Bool)
  /-- FAULT_CLASSIFY (R204). A hub takes a fault message from its queue, classifies and counts it, and forwards it unless
  rate-limited. -/
  | faultClassify (region : Nat)
  /-- BUCKET_LEAK (R203). A bucket reaches a multiple of its leak period and its level falls by one. -/
  | bucketLeak (region : Option Nat) (key kind : Nat)
  /-- FAULT_REGISTER (R208). The Kiln registers a FAULT flit with the next FSEQ, logs it and starts, merges or queues a
  reaction. -/
  | faultRegister
  /-- FLT_COUNT (R203). A hub receives a forwarded INGRESS_TAG and counts it in its bucket, answering FLT_ACKHUB. -/
  | fltCount (region src kind tenant addr gtlo : Nat)
  /-- FLT_ACKHUB (R217). The Kiln receives the answer to FLT_COUNT. -/
  | fltAckhub (region : Nat) (raised : Bool)
  /-- FLT_PHASE (R206). A hub receives FLT_PHASE and updates its phase copy. -/
  | fltPhase (region phase : Nat)
  /-- FLT_PHASE_WRITE (R206). A write to FLT_PHASE moves the phase between SERVICE and TEST where the phase table allows. -/
  | fltPhaseWrite (phase ten tag : Nat)
  /-- FLT_FENCE (R217). A probe receives a fence or unfence order, or a hub receives FLT_FENCE with ALL = 1 and orders its
  probes. -/
  | fltFence (region : Nat) (tile : Option Nat) (acc : Nat) (fence : Bool)
  /-- FLT_ACK (R213). A write of a RID to FLT_ACK acknowledges a reaction in AWAIT_ACK. -/
  | fltAck (rid ten tag : Nat)
  /-- FLT_NTAIL_WRITE (R215). The runtime advances FLT_NTAIL, and a reaction waiting for notice room writes its notice. -/
  | fltNtailWrite (tail ten tag : Nat)
  /-- L2_QUEUE_TIMEOUT (R212). An L2 queued behind L1 reactions for 1 ms of GT starts anyway. -/
  | l2QueueTimeout (rid : Nat)
  /-- L3_HOLD_EXPIRY (R214). L3HOLD ms after L3 the Kiln asserts TRAY_PCREQ. -/
  | l3HoldExpiry
  /-- WATCHDOG_TICK (R222). At each watchdog tick every powered probe sends WD_STAT to its hub. -/
  | watchdogTick (region tile : Nat)
  /-- WD_STAT (R222). The hub records a probe's OWING, PROG and HELD masks, or a clear-check answer. -/
  | wdStat (region tile : Nat) (answer : Bool) (owing prog held : Nat) (gated : Bool)
  /-- WATCHDOG_EVALUATE (R223). 128 HCLK after each tick the hub updates every context's count C. -/
  | watchdogEvaluate (region : Nat)
  /-- WD_SET (R227). The Kiln registers a suspect list and adds the suspects to the collecting case. -/
  | wdSet (region : Nat) (suspects : List Nat) (more : Bool)
  /-- CASE_COLLECT_TIMEOUT (R229). A case's 1 ms collection ends; the sequencer chooses a rung and sends RCV_ORDER. -/
  | caseCollectTimeout
  /-- RCV_ORDER (R232). A hub receives a rung order and sends WD_DROP to its SERVICE positions with T_r. -/
  | rcvOrder (region rung case instant : Nat) (tenants : List Nat)
  /-- WD_DROP (R232). A probe receives WD_DROP and drops the named tenants' unreleased slots at T_r. -/
  | wdDrop (region tile : Nat) (acc tenant : Nat) (every : Bool) (instant : Nat)
  /-- RESET_INSTANT (R230). GT reaches T_r and the scoped reset requests rise. -/
  | resetInstant (region : Option Nat)
  /-- RESET_HOLD_END (R230). A reset request's hold time ends; it falls, and the hub resets the next context or starts the
  clear check. -/
  | resetHoldEnd (region : Option Nat)
  /-- WD_CHECK (R232). A probe receives WD_CHECK and answers WD_STAT on the RSP VC. -/
  | wdCheck (region tile : Nat) (acc : Nat)
  /-- RCV_DONE (R229). The sequencer registers a hub's clear result and advances the case. -/
  | rcvDone (region : Nat) (clear : Bool) (held case : Nat)
  /-- RCV_DONE_TIMEOUT (R229). A hub of the scope is silent for the hold plus 4,096 HCLK, and the case climbs a rung. -/
  | rcvDoneTimeout (region : Nat)
  /-- RCV_GRANT (R233). A hub receives a grant, park or release for a suspect tenant. -/
  | rcvGrant (region tenant code : Nat)
  /-- REPLAY_TIMEOUT (R234). A granted tenant runs REPLAYMS without tripping and passes. -/
  | replayTimeout
  /-- HELLO_TICK (R252). Every 10 µs in HELLO with the link up the engine sends HELLO. -/
  | helloTick (clp : Nat)
  /-- HELLO (R252). An engine receives a HELLO and records the peer session, enters UP, refuses it or disputes it. -/
  | hello (clp : Nat) (h : ClpHdr) (rel cr : Nat) (dol : Bool)
  /-- HEARTBEAT (R257). An engine receives a HEARTBEAT with acknowledgement and credits, or a sealed-state heartbeat that
  counts as loss. -/
  | heartbeat (clp : Nat) (h : ClpHdr) (peerSealed : Bool)
  /-- HEARTBEAT_TICK (R257). 100 µs after its last heartbeat, or 500 HCLK after a scheduled acknowledgement, the engine sends
  HEARTBEAT. -/
  | heartbeatTick (clp : Nat)
  /-- RETRANSMIT_TIMEOUT (R255). The oldest unacknowledged message has waited 10 µs and the sender retransmits all of them. -/
  | retransmitTimeout (clp : Nat)
  /-- SEAL (R261). An engine accepts a SEAL on a MATCHED binding and updates the history, HIGHE and PEERE, or disputes it. -/
  | sealMsg (clp : Nat) (h : ClpHdr) (job epoch slice digest : Nat)
  /-- RECALL (R263). An engine accepts a RECALL, removes epochs, and the Kiln recalls dependent local epochs and propagates.
  -/
  | recallMsg (clp : Nat) (h : ClpHdr) (job first last slice origin rid cause : Nat)
  /-- ROLE (R259). An engine accepts a ROLE declare or withdraw and updates the binding's state. -/
  | role (clp : Nat) (h : ClpHdr) (job slice pslice : Nat) (withdraw : Bool)
  /-- FPREP (R270). A chip receives a peer's FPREP and prepares its own participants or votes void. -/
  | fprep (clp : Nat) (h : ClpHdr) (folio part : Nat) (last : Bool) (nact : Nat) (acts : List Flit)
  /-- FVOTE (R269). The coordinator receives a peer's cross-chip vote. -/
  | fvote (clp : Nat) (h : ClpHdr) (folio code lnum : Nat) (answer : Bool)
  /-- FSEAL (R270). A participant chip receives FSEAL and seals its own participants at T minus θ_L. -/
  | fseal (clp : Nat) (h : ClpHdr) (folio t : Nat) (replay : Bool)
  /-- FVOID (R270). A participant chip receives FVOID and voids its own participants. -/
  | fvoid (clp : Nat) (h : ClpHdr) (folio reason : Nat)
  /-- TPAIR (R265). An engine receives a time-pair request, reply or result and computes or stores θ and δ. -/
  | tpair (clp : Nat) (h : ClpHdr) (phase pid t1 t2 t3 theta delta : Nat)
  /-- TPAIR_TICK (R265). Every TPPER µs in UP the primary starts a time pair. -/
  | tpairTick (clp : Nat)
  /-- TPAIR_TIMEOUT (R266). A pair's reply or result is missing after 100 µs and the pair is discarded. -/
  | tpairTimeout (clp : Nat)
  /-- THETA_EXPIRY (R266). θ_L loses validity 10 ms after the latest kept result. -/
  | thetaExpiry (clp : Nat)
  /-- DISPUTE (R252). An engine receives DISPUTE from its peer and enters DISPUTED with cause 7. -/
  | dispute (clp : Nat) (h : ClpHdr) (cause job ref ev1 ev2 : Nat)
  /-- DISPUTE_RESEND (R274). Ten µs after a DISPUTE send the engine sends it again, three times in all. -/
  | disputeResend (clp : Nat)
  /-- PEER_LOSS (R275). No valid HEARTBEAT for 320 µs; the engine takes the loss actions and raises PEER_LOST. -/
  | peerLoss (clp : Nat)
  /-- LINK_UP_CHANGE (R244, R252). CLP_LINK_UP, CLP_TX_READY or CLP_LINK_PS changes; the engine stops or resumes presenting messages without a state
  change. -/
  | linkUpChange (clp : Nat) (up : LinkLines) (ps : Nat)
  /-- EPOCH_TIMEOUT (R264). A binding stays lagging for EPTMO ms and becomes WAITING with a Ledger record. -/
  | epochTimeout (clp : Nat) (job slice : Nat)
  /-- COLLISION_BACKOFF (R272). A secondary's collision back-off ends and it proposes its change again. -/
  | collisionBackoff
  /-- INDOUBT_TIMEOUT (R270). An in-doubt Folio sees 1 ms of UP in a later session without its FSEAL and is dropped as void.
  -/
  | indoubtTimeout (clp : Nat) (folio : Nat)
  /-- CCD_RESTART (R252). A write of 1 to CCD_CTRL.RESTART takes a DISPUTED or REFUSED port to HELLO with a new session. -/
  | ccdRestart (clp : Nat) (ten tag : Nat)
  /-- CCD_XREQ_XROLE (R268). A CCD_XREQ write with OP XROLE proposes a cross-chip role change. -/
  | ccdXreqXrole (clp job slice newclp : Nat) (withdraw : Bool) (ten tag : Nat)
  /-- CCD_XREQ_XSPARE (R278). A CCD_XREQ write with OP XSPARE proposes a spare-chip switch-in. -/
  | ccdXreqXspare (clp job slice newclp : Nat) (ten tag : Nat)
  /-- EPOCH_SEAL (R290). TEN_EP_CLOSE with OP SEAL starts the cut and sealing of the open epoch. -/
  | epochSeal (tenant epoch : Nat) (ten tag : Nat)
  /-- EPOCH_DISCARD (R290). TEN_EP_CLOSE with OP DISCARD cuts and closes the open epoch without a seal. -/
  | epochDiscard (tenant epoch : Nat) (ten tag : Nat)
  /-- EPOCH_REWIND (R300). TEN_EP_CLOSE with OP REWIND sets the chain head back to a sealed epoch and recalls later ones. -/
  | epochRewind (tenant epoch : Nat) (tagOk : Bool) (ten tag : Nat)
  /-- EPOCH_RESTART (R292). TEN_EP_CLOSE with OP RESTART writes a new GENESIS and sets the open epoch. -/
  | epochRestart (tenant epoch : Nat) (ten tag : Nat)
  /-- EP_CUT (R290). A hub receives EP_CUT and sends DG_CUT to every position holding the tenant. -/
  | epCut (region tenant : Nat) (discard : Bool) (epoch : Nat)
  /-- DG_CUT (R290). A probe receives DG_CUT and sends and zeroes its accumulator and coverage deltas. -/
  | dgCut (region tile acc tenant : Nat) (discard : Bool)
  /-- DG_REPORT (R287). The hub adds a probe's accumulator into its layer table. -/
  | dgReport (region tile tenant layer dA dB : Nat) (cut : Bool) (nslot nchunk nmvslot nmvchunk : Nat)
  /-- DG_COVER (R287). The hub adds a probe's coverage deltas into the tenant's totals and, after the last, sends EP_PART. -/
  | dgCover (region tile tenant : Nat) (macs elems : List Nat)
  /-- EP_PART (R290). The Kiln collects a hub's layer entries; with the last it sets CUT and builds the epoch table. -/
  | epPart (region tenant part : Nat) (last : Bool) (payload : List Flit)
  /-- EPOCH_HASH_DONE (R290). The chain hash of a sealing epoch completes; the Kiln writes the record, queues SEALs and clears
  BUSY. -/
  | epochHashDone (tenant : Nat)
  /-- EP_PART_TIMEOUT (R291). A hub gives no EP_PART within 1 ms and the close fails with RESULT 2. -/
  | epPartTimeout (tenant : Nat)
  /-- RECORD_RING_TIMEOUT (R291). The record ring has had no room for 10 ms and the close fails with RESULT 3. -/
  | recordRingTimeout (tenant : Nat)
  /-- TEN_REC_TAIL_WRITE (R293). The runtime advances TEN_REC_TAIL, giving room to a waiting record. -/
  | tenRecTailWrite (tenant offset : Nat) (ten tag : Nat)
  /-- COLOPHON_REQUEST (R297). A write of 1 to TEN_COLO_REQ.REQ starts a single-tenant sweep and a Colophon. -/
  | colophonRequest (tenant : Nat) (ten tag : Nat)
  /-- SENSE_CONVERSION (R310). A conversion period ends and each enabled channel commits, discards or counts its conversion
  under the open-wire test. -/
  | senseConversion (codes : List (Nat × Nat × Nat × Nat × Nat))
  /-- INTERVAL_END (R313). An anchoring interval ends and each probe sends EN_ACT for every context with counts. -/
  | intervalEnd (region : Nat)
  /-- EN_ACT (R313). The hub adds a probe's activity counts to the interval and, after the last, sends EN_MODEL. -/
  | enAct (region tile tenant gt : Nat) (isPartial : Bool) (counts : List Nat)
  /-- EN_MODEL (R317). The Kiln collects a hub's model total and, when all have arrived, forms and broadcasts the factors. -/
  | enModel (region gt total mv : Nat)
  /-- EN_MODEL_TIMEOUT (R318). A hub's EN_MODEL is missing 200 µs after the interval end and the channel is unanchored. -/
  | enModelTimeout (gt : Nat)
  /-- EN_ANCHOR (R319). A hub scales each tenant's model energy by its factor and adds whole µJ to the counters. -/
  | enAnchor (region gt mask : Nat) (factors : List Nat)
  /-- EN_MARK (R328). A probe receives EN_MARK and ends its interval at the sweep instant T. -/
  | enMark (region tile acc instant : Nat)
  /-- SUPPLY_READING (R314). Every 1,024 HCLK the hub reads its supply monitor and sends PW_NB to its neighbours. -/
  | supplyReading (region mv : Nat)
  /-- PW_NB (R455). A hub receives a neighbour's supply reading and checks the supply limit. -/
  | pwNb (region from_ mv : Nat)
  /-- THERMAL_STEP (R320). At each period the hub steps its thermal estimate, sets the band and THR and sends TH_NB. -/
  | thermalStep (region energy : Nat)
  /-- TH_NB (R321). A hub records a neighbour's estimate and checks the temperature limit. -/
  | thNb (region from_ t : Nat)
  /-- BOUNDARY_REPEAT (R455). Every 1 ms while a neighbour limit is exceeded the hub raises BOUNDARY again. -/
  | boundaryRepeat (region dir : Nat)
  /-- BH_RERUN (R326). A probe receives BH_RERUN and starts re-executing its BANDHELD slots in release order. -/
  | bhRerun (region tile acc : Nat)
  /-- BANDHELD_RETRY_PULSE (R326). Every 16 PCLK the probe pulses TPI_RETRY for the next BANDHELD slot. -/
  | bandheldRetryPulse (region tile : Nat)
  /-- SWEEP_PERIOD (R328). Every PERIODMS ms the Tally aggregator proposes a global sweep. -/
  | sweepPeriod
  /-- TL_REPORT (R328). The aggregator sums a hub's deltas; when all hubs have reported it commits the bank and broadcasts
  TL_COMMIT. -/
  | tlReport (region part : Nat) (last single : Bool) (sweep : Nat) (entries : List (Nat × Bool × Nat)) (flip : Bool)
  /-- TL_COMMIT (R328). A hub moves BASE to the pending base of the named sweep, or drops it on a discard. -/
  | tlCommit (region : Nat) (discard : Bool) (code sweep : Nat) (single : Bool) (tenant : Nat)
  /-- SWEEP_TIMEOUT (R329). A hub has not reported 2 ms after T and the sweep is discarded. -/
  | sweepTimeout
  /-- STATEMENT_REQUEST (R332). A 64-bit write to TEN_TLY_REQ requests a statement through a single-tenant sweep. -/
  | statementRequest (tenant reqid : Nat) (ten tag : Nat)
  /-- BATCH_TIMEOUT (R334). BATCHMS after its first statement the open batch closes and its root is built. -/
  | batchTimeout
  /-- BATCH_CLOSE (R334). A write of 1 to TLY_CTRL.CLOSE closes the open batch now. -/
  | batchClose (ten tag : Nat)
  /-- TLY_RTAIL_WRITE (R334). The runtime advances TLY_RTAIL, giving room to waiting Tally records. -/
  | tlyRtailWrite (offset : Nat) (ten tag : Nat)
  /-- VAULT_SELFTEST_DONE (R345). The Vault's start-up tests end, and it becomes OPERATIONAL, UNPROVISIONED or ERROR. -/
  | vaultSelftestDone (kind code : Nat) (bankOk aOk bOk : Bool)
  /-- PERIODIC_TEST_DUE (R361). The periodic interval elapses and the Vault runs its CASTs after the current request. -/
  | periodicTestDue
  /-- STNOW (R361). A write of 1 to VLT_CTRL.STNOW runs PERIODIC now. -/
  | stnow (ten tag : Nat)
  /-- ENTROPY_SAMPLE (R354). The entropy source takes a raw sample and runs its health tests. -/
  | entropySample (sample : Nat)
  /-- DRBG_RESEED (R354). After 2^20 requests or 1 s the CTR_DRBG reseeds. -/
  | drbgReseed
  /-- ENTROPY_RAW_END (R345). The time given in an ENTROPY_RAW token elapses and the Vault returns to its previous state. -/
  | entropyRawEnd
  /-- GLITCH_DETECT (R362). The voltage or clock glitch detector trips and the Vault enters ERROR. -/
  | glitchDetect
  /-- SCAN_MODE_ENABLE (R362). A host scan or test mode is enabled while the Vault is powered and the Vault enters ERROR. -/
  | scanModeEnable
  /-- RANDOM (R347). A Kiln unit asks the Vault for random values from the CTR_DRBG. -/
  | random (caller : Nat)
  /-- DERIVE_ROTKEY (R49). The Kiln asks the Vault to derive a region's rotation key. -/
  | deriveRotkey (region tenant : Nat)
  /-- HMAC_RECORD (R347). The epoch sealer asks for the RTAG of a record. -/
  | hmacRecord (len data : Nat)
  /-- HMAC_LEDGER (R402). The Ledger front end asks for a page seal. -/
  | hmacLedger
  /-- VERIFY_CHARTER (R417). The Charter unit asks the Vault to check the key hash and both signatures of an image. -/
  | verifyCharter
  /-- TENANT_KEYGEN (R352). The Vault generates a tenant's Colophon pair at GENESIS and zeroises the previous one. -/
  | tenantKeygen (tenant : Nat)
  /-- TENANT_KEYDROP (R352). The Vault zeroises a tenant's Colophon pair at its reset seal. -/
  | tenantKeydrop (tenant : Nat)
  /-- SIGN_COLOPHON (R297). The Colophon builder asks the Vault to sign a Colophon body with the tenant's pair. -/
  | signColophon (tenant : Nat)
  /-- SIGN_ROOT (R335). The Tally aggregator asks the Vault to sign a batch root record. -/
  | signRoot
  /-- VAULT_SERVICE_DONE (R365). A Vault engine finishes a queued service and returns its result to the caller. -/
  | vaultServiceDone (pairwise : Nat)
  /-- NONCE_REQUEST (R357). A write of a service code to VLT_NONCE_REQ draws a nonce into a slot and starts its lifetime. -/
  | nonceRequest (service ten tag : Nat)
  /-- NONCE_LIFETIME_END (R357). A nonce's lifetime of NONCETTL seconds ends. -/
  | nonceLifetimeEnd (slot : Nat)
  /-- LEDGER_CLEAR (R406). A LEDGER_CLEAR token, checked and accepted, makes the front end write CLEAR and erase archived
  blocks. -/
  | ledgerClear (ten tag : Nat)
  /-- ZEROISE (R363). A ZEROISE token zeroises the key store, blobs and volatile cache and leaves the Vault UNPROVISIONED. -/
  | zeroise (ten tag : Nat)
  /-- PROVISION (R356). A PROVISION token makes a new salt, generates DevID and Tally pairs and writes the key store. -/
  | provision (ten tag : Nat)
  /-- REKEY_TALLY (R356). A REKEY_TALLY token closes the open batch under the old pair and installs a new Tally pair. -/
  | rekeyTally (ten tag : Nat)
  /-- REVOKE_OFFICER (R356). A REVOKE_OFFICER token adds an officer key's hash to the revocation list. -/
  | revokeOfficer (ten tag : Nat)
  /-- DEBUG_UNLOCK (R477). A DEBUG_UNLOCK token lets writes to locked DEBUG fields take effect for the given seconds. -/
  | debugUnlock (ten tag : Nat)
  /-- ENTROPY_RAW (R354). An ENTROPY_RAW token puts the Vault in ENTROPY_RAW for the given seconds. -/
  | entropyRaw (ten tag : Nat)
  /-- STK_GO (R378). GO on a channel starts fetching its first descriptor, or sets PENDGO while a STACKER_DROP is prepared. -/
  | stkGo (channel value ten tag : Nat)
  /-- STK_ABORT (R378). ABORT drops a running channel at its burst boundary. -/
  | stkAbort (channel value ten tag : Nat)
  /-- DESCRIPTOR_ARRIVE (R374). A fetched descriptor arrives and the channel checks it and enters RUN or ERROR. -/
  | descriptorArrive (channel data : Nat)
  /-- BURST_GRANT (R377). The arbiter grants one burst start per HCLK, starting a read, a fill write or a descriptor fetch. -/
  | burstGrant
  /-- SMP_READ_BEAT (R387). A read beat arrives on the SMP and is buffered, compared or discarded as a flush read. -/
  | smpReadBeat (readTag data : Nat) (err parOk : Bool)
  /-- SMP_WRITE_BEAT (R386). A write beat is presented and accepted against a data credit; the last beat of a descriptor
  completes it. -/
  | smpWriteBeat
  /-- SMP_RQ_CRED (R386). The host returns a request credit. -/
  | smpRqCred
  /-- SMP_WD_CRED (R386). The host returns a data credit. -/
  | smpWdCred
  /-- SMP_WRITE_ERROR (R382). The host reports a failed write and the Stacker halts every channel. -/
  | smpWriteError (writeTag : Nat)
  /-- SMP_READ_TIMEOUT (R382). A read has not returned its last beat within 20 µs, a bus error that halts the Stacker. -/
  | smpReadTimeout (readTag : Nat)
  /-- STK_DISABLE (R381). A write of 0 to STK_CTRL.EN drops every channel at once. -/
  | stkDisable (ten tag : Nat)
  /-- STK_ENABLE (R381). A write of 1 to STK_CTRL.EN re-enables the Stacker and system channels resume. -/
  | stkEnable (ten tag : Nat)
  /-- STK_CLRHALT (R383). A write of 1 to STK_CTRL.CLRHALT clears the halt once the reaction is DONE. -/
  | stkClrhalt (ten tag : Nat)
  /-- SK_READ (R371). A hub receives SK_READ and returns trace or mirror data in SK_DATA. -/
  | skRead (region xferTag part off flits : Nat)
  /-- SK_DATA (R371). The Kiln receives space-1 read data for a Stacker channel. -/
  | skData (region xferTag status : Nat) (data : List Flit)
  /-- SK_READ_TIMEOUT (R371). An SK_READ has no SK_DATA after 20 µs, a bus error with code 4. -/
  | skReadTimeout (xferTag : Nat)
  /-- LEDGER_REFILL (R395). At each refill a hub adds a token and sends LG_SUPP for an entry with suppressed messages. -/
  | ledgerRefill (region : Nat)
  /-- LG_SUPP (R395). The Kiln receives LG_SUPP and writes a SUPPRESSED record. -/
  | lgSupp (region kind count src gt : Nat)
  /-- FOLD_TIMEOUT (R396). An open fold reaches 1 s and closes. -/
  | foldTimeout
  /-- FLASH_PROGRAM_DONE (R401). A flash program operation completes or fails; the buffer advances, retries once or closes the
  page. -/
  | flashProgramDone (ok : Bool)
  /-- FLASH_ERASE_DONE (R400). A block erase completes or fails, letting writes or the clear proceed. -/
  | flashEraseDone (ok : Bool)
  /-- LEDGER_FLUSH (R401). A write of 1 to LDG_CTRL.FLUSH closes the open page now. -/
  | ledgerFlush (ten tag : Nat)
  /-- LEDGER_READ_PAGE (R407). A 64-bit write to LDG_RDPAGE reads a page into the read buffer, optionally verifying its seal.
  -/
  | ledgerReadPage (page : Nat) (verify : Bool) (ten tag : Nat)
  /-- LEDGER_READ_DONE (R407). A page read ends and LDG_RDST reports its result. -/
  | ledgerReadDone (error : Bool)
  /-- LEDGER_APPEND (R407). A write of a code to LDG_APPEND appends a runtime annotation record, or sets APPENDBAD. -/
  | ledgerAppend (code : Nat) (ten tag : Nat)
  /-- LEDGER_RECOVERY (R405). After the Vault leaves SELFTEST the front end closes the open page as RECOVERED and writes
  POWERUP. -/
  | ledgerRecovery (sizeMib : Nat) (meets : Bool)
  /-- FUSE_WORD (R419). A fuse word returns and the Kiln loads it or rereads it on a parity error. -/
  | fuseWord (addr data : Nat) (parOk : Bool)
  /-- FLUE_TRAINING_DONE (R421). Flue training ends with the grid, spine column and hop latencies. -/
  | flueTrainingDone (w h spine : Nat) (hopsOk answered : Bool) (detail : Nat) (latencies : List (HopId × Nat))
  /-- PST_RESULT (R424). A hub records a probe's self-test result. -/
  | pstResult (region tile mask : Nat)
  /-- PST_TIMEOUT (R424). A probe sends no self-test result within 1 ms and counts as failed. -/
  | pstTimeout (region tile : Nat)
  /-- PST_SUM (R435). The Kiln receives a hub's self-test summary. -/
  | pstSum (region failures : Nat) (tiles : List Nat)
  /-- CHARTER_GO (R420). A write of 1 to CHR_CTRL.GO starts loading the Charter at CHR_SRC. -/
  | charterGo (ten tag : Nat)
  /-- CHARTER_GO_TIMEOUT (R420). GO is not written within 10 s of the Vault leaving SELFTEST and bring-up refuses with 0x0A.
  -/
  | charterGoTimeout
  /-- CHARTER_VERIFY_DONE (R417). Verification of a loaded image ends and bring-up applies it or refuses. -/
  | charterVerifyDone (image : Image) (ckh : Nat) (busErr : Option (Nat × Nat × Nat))
  /-- CH_DATA (R435). A hub receives its part of the Charter and answers CH_ACK. -/
  | chData (region part : Nat) (last : Bool) (sect : Nat)
  /-- CH_ACK (R422). The Kiln records a hub's acknowledgement; with the last it starts qualification or votes an amendment. -/
  | chAck (region : Nat) (valid : Bool) (sect : Nat)
  /-- CLP_QUAL_DONE (R426). The host reports a port's qualification result. -/
  | clpQualDone (clp res errs : Nat)
  /-- AMEND_GO (R431). A write of 1 to CHR_CTRL.AMGO loads and checks an amendment and applies it by a Folio. -/
  | amendGo (image : Image) (busErr : Option (Nat × Nat × Nat)) (ten tag : Nat)
  /-- LINK_REQUALIFY (R426). A write of a CLP number and GO to CHR_LQREQ qualifies a DISABLED port again. -/
  | linkRequalify (clp ten tag : Nat)
  /-- VAON_LOST (R439). VAON falls below its threshold and the banked domain switches to VBK and runs the loss flush. -/
  | vaonLost (half : Bool)
  /-- LOSS_FLUSH_DONE (R440). The loss flush ends and the domain enters retention or waits for VDD. -/
  | lossFlushDone
  /-- VAON_RETURN (R439). VAON has been good for 10 ms and the banked domain returns to it. -/
  | vaonReturn
  /-- VBK_LOST (R439). VBK falls below 0.66 V and the banked domain stops. -/
  | vbkLost
  /-- COLD_START (R452). The banked domain starts from zero and the Kiln restores time from the newest trailer. -/
  | coldStart
  /-- VDD_LOST (R440). VDD falls at the Kiln and the loss flush runs. -/
  | vddLost (half : Bool)
  /-- VDD_GOOD (R445). VDD becomes good and the domain may leave OFF or PU_WAIT. -/
  | vddGood
  /-- HOLDOVER_ENTER (R450). No BCLK edge for 1 µs; the banked domain counts time on its oscillator. -/
  | holdoverEnter (half : Bool)
  /-- HOLDOVER_EXIT (R450). After 65,536 clean BCLK edges the banked domain returns to BCLK counting. -/
  | holdoverExit
  /-- PORB_ASSERT (R456). PORB is asserted and the VDD side is reset, with a loss flush unless OFF. -/
  | porbAssert (half : Bool)
  /-- PORB_RELEASE (R456). PORB is released and acts as an on request. -/
  | porbRelease
  /-- PU_ISO_DONE (R445). Dividers lock and the crossing opens; the internal reset is released and bring-up begins. -/
  | puIsoDone
  /-- QUIESCE_DONE (R445). No Folio is DECIDED and every hub has acknowledged the fence; the domain enters PD_FLUSH. -/
  | quiesceDone
  /-- FLUSH_COMMIT (R445). Both flushes end or 50 ms pass; the commit point is recorded and reported on MGT. -/
  | flushCommit (timeLimit : Bool)
  /-- STOP_DONE (R445). The internal reset is asserted in PD_STOP and the domain enters OFF. -/
  | stopDone
  /-- PWR_OFF (R444). A write of 1 to PWR_CTRL.OFF latches an off request. -/
  | pwrOff (ten tag : Nat)
  /-- PWR_ON (R444). A write of 1 to PWR_CTRL.ON latches an on request. -/
  | pwrOn (ten tag : Nat)
  /-- PWR_PCREQ (R459). A write of 1 to PWR_CTRL.PCREQ raises TRAY_PCREQ. -/
  | pwrPcreq (ten tag : Nat)
  /-- VOLTAGE_TARGET (R442). A write to RH_PW_VTGT opens or retargets a region's voltage transition. -/
  | voltageTarget (region mv ten tag : Nat)
  /-- HRSTB (R457). HRSTB is sampled low and, in ON, Glelen applies the rung-4 effects of R232 without RST outputs. -/
  | hrstb
  /-- BTN_RELEASE (R458). A recognised BTN release acts by hold time: warm reset, on request or TRAY_PCREQ. -/
  | btnRelease (ms : Nat)
  /-- BTN_STUCK (R458). BTN stays pressed past 30 s; the banked domain writes BTN_STUCK and ignores BTN. -/
  | btnStuck
  /-- TRAY_ACK (R459). TRAY_ACK rises; the banked domain sets ACKED and raises an off request. -/
  | trayAck
  /-- GSTOP_WRITE (R473). A write of 1 to DBG_GSCTRL.STOP raises the global stop. -/
  | gstopWrite (ten tag : Nat)
  /-- GSTOP_RELEASE (R476). A write of 1 to DBG_GSCTRL.RELEASE clears software sources and releases the stop if none remain.
  -/
  | gstopRelease (ten tag : Nat)
  /-- STOP_IN_CHANGE (R473). DBG_STOP_IN changes while EXTEN is 1, adding or removing a stop source. -/
  | stopInChange (level : Bool)
  /-- GSTOP_SETTLE (R475). 1,024 HCLK after the stop the Kiln sets SETTLED. -/
  | gstopSettle
  /-- TR_REC (R470). A hub stores a probe's trace records in its ring, or drops them when full. -/
  | trRec (region tile : Nat)
  /-- TRACE_MARK (R470). Every 2^20 HCLK the hub writes a MARK record. -/
  | traceMark (region : Nat)
  /-- TR_LEVEL (R471). The Kiln receives a hub's half-full report and queues a drain. -/
  | trLevel (region held : Nat)
  /-- TR_CUT (R471). A hub writes a MARK and answers TR_RUN with its run. -/
  | trCut (region : Nat)
  /-- TR_RUN (R471). The Kiln drains a hub's run through channel 2 once the ring has room. -/
  | trRun (region first count : Nat)
  /-- TR_FREE (R471). A hub frees a drained run. -/
  | trFree (region count : Nat)
  /-- TRACE_DRAIN (R471). A write of 1 to DBG_TRCTRL.DRAIN cuts a run from every hub now. -/
  | traceDrain (ten tag : Nat)
  /-- TRACE_ENABLE (R471). A write of 1 to DBG_TRCTRL.EN enables the drain, or sets BADRING if the ring lies outside a
  writable window. -/
  | traceEnable (tpen : Bool) (ten tag : Nat)
  /-- UNLOCK_EXPIRY (R477). A debug unlock's time runs out and locked writes are refused again. -/
  | unlockExpiry
  /-- RG_READ (R495). A hub or probe serves a register read from the Kiln. -/
  | rgRead (region : Nat) (tile : Option Nat) (off : Nat) (sz64 : Bool) (ten tag : Nat)
  /-- RG_WRITE (R495). A hub or probe performs a register write from the Kiln. -/
  | rgWrite (region : Nat) (tile : Option Nat) (off : Nat) (sz64 : Bool) (data ten tag : Nat)
  /-- RG_RDATA (R495). The Kiln receives read data and completes the GHP request. -/
  | rgRdata (region : Nat) (tile : Option Nat) (tag status data : Nat)
  /-- RG_WACK (R495). The Kiln receives a write acknowledgement and completes the GHP request. -/
  | rgWack (region : Nat) (tile : Option Nat) (tag status : Nat)
  /-- MR_READ (R495). A hub serves a read of its region's mirror view or lens part. -/
  | mrRead (region off : Nat) (sz64 lens : Bool) (tag : Nat)
  /-- GHP_TIMEOUT (R490). No Flue response within 65,536 HCLK, and the request completes TIMEOUT. -/
  | ghpTimeout (tag : Nat)
  /-- REGISTER_WRITE (R490). A GHP write to a register without behaviour of its own is judged for status and performed. -/
  | registerWrite (addr data : Nat) (sz64 : Bool) (ten tag : Nat) (parOk : Bool)
  /-- GET_STATUS (R504). The MGT vendor command returns the identity and status registers. -/
  | getStatus
  /-- READ_REG (R504). The MGT vendor command reads a register with tenant-0 rights. -/
  | readReg (addr : Nat) (sz64 : Bool)
  /-- READ_MIRROR (R504). The MGT vendor command reads up to 48 B of the state mirror. -/
  | readMirror (offset count : Nat)
  /-- READ_LEDGER (R504). The MGT vendor command reads a 48 B chunk of a Ledger page. -/
  | readLedger (page chunk : Nat)
  /-- POWER (R504). The MGT vendor command makes an on or off request. -/
  | power (on : Bool)
  /-- GSTOP (R504). The MGT vendor command raises or releases the global stop. -/
  | gstop (stop : Bool)
  /-- SET_AMB (R504). The MGT vendor command sets T_amb for one or every region. -/
  | setAmb (region tamb : Nat)
  /-- WAKE_WRITE (R505). The I3C front end receives the wake write while the endpoint is down and latches ONLATCH. -/
  | wakeWrite
  /-- SET_ENDPOINT_ID (R502). The MCTP control command sets the endpoint ID. -/
  | setEndpointId (op eid : Nat)
  /-- GET_ENDPOINT_ID (R502). The MCTP control command returns the endpoint ID. -/
  | getEndpointId
  /-- GET_MCTP_VERSION_SUPPORT (R502). The MCTP control command returns the supported versions. -/
  | getMctpVersionSupport (type : Nat)
  /-- GET_MESSAGE_TYPE_SUPPORT (R502). The MCTP control command returns the supported message types. -/
  | getMessageTypeSupport
  /-- GET_VENDOR_DEFINED_MESSAGE_SUPPORT (R502). The MCTP control command returns the vendor message support. -/
  | getVendorDefinedMessageSupport (selector : Nat)
  /-- GETTID (R503). The PLDM base command returns the terminus ID. -/
  | gettid
  /-- GETPLDMVERSION (R503). The PLDM base command returns the PLDM version. -/
  | getpldmversion (type : Nat)
  /-- GETPLDMTYPES (R503). The PLDM base command returns the supported types. -/
  | getpldmtypes
  /-- GETPLDMCOMMANDS (R503). The PLDM base command returns the supported commands. -/
  | getpldmcommands (type : Nat)
  /-- GETPDRREPOSITORYINFO (R503). The PLDM monitoring command returns repository information. -/
  | getpdrrepositoryinfo
  /-- GETPDR (R503). The PLDM monitoring command returns a PDR. -/
  | getpdr (handle : Nat)
  /-- GETSENSORREADING (R503). The PLDM monitoring command returns a numeric sensor reading. -/
  | getsensorreading (sensor : Nat)
  /-- GETSTATESENSORREADINGS (R503). The PLDM monitoring command returns state sensor readings. -/
  | getstatesensorreadings (sensor : Nat)
  /-- ENTDAA (R501). The I3C CCC assigns a dynamic address by arbitration. -/
  | entdaa (addr : Nat)
  /-- SETDASA (R501). The I3C CCC assigns a dynamic address from the static address. -/
  | setdasa (sa addr : Nat)
  /-- SETNEWDA (R501). The I3C CCC changes the dynamic address. -/
  | setnewda (old new : Nat)
  /-- RSTDAA (R501). The I3C CCC resets the dynamic address. -/
  | rstdaa
  /-- ENEC (R501). The I3C CCC enables target events such as in-band interrupts. -/
  | enec (addr : Option Nat) (events : Nat)
  /-- DISEC (R501). The I3C CCC disables target events. -/
  | disec (addr : Option Nat) (events : Nat)
  /-- GETPID (R501). The I3C CCC returns the provisioned ID. -/
  | getpid (addr : Nat)
  /-- GETBCR (R501). The I3C CCC returns the bus characteristics register. -/
  | getbcr (addr : Nat)
  /-- GETDCR (R501). The I3C CCC returns the device characteristics register. -/
  | getdcr (addr : Nat)
  /-- GETSTATUS (R501). The I3C CCC returns the target status. -/
  | getstatus (addr : Nat)
  /-- GETMWL (R501). The I3C CCC returns the maximum write length of 69 B. -/
  | getmwl (addr : Nat)
  /-- GETMRL (R501). The I3C CCC returns the maximum read length of 69 B. -/
  | getmrl (addr : Nat)
  /-- SETMWL (R501). The I3C CCC sets the maximum write length. -/
  | setmwl (addr : Option Nat) (len : Nat)
  /-- SETMRL (R501). The I3C CCC sets the maximum read length. -/
  | setmrl (addr : Option Nat) (len : Nat)
  /-- CLP_MESSAGE_DROPPED (R249). A CLP message arrives that fails its CRC-32C, or has a reserved TYPE or a VER other than
  0x3, and is dropped, with CLP_CRC raised for a CRC failure. -/
  | clpMessageDropped (clp : Nat) (seq : Nat) (crcFailed : Bool)
  /-- TOKEN_REJECT (R358). A write of 1 to VLT_TOKGO.GO presents a token that fails a check of R358, so the Vault reports the
  reason and raises TOKEN_REJECT, consuming the nonce at step 4. -/
  | tokenReject (ecdsaOk mldsaOk : Bool) (ten tag : Nat)
  /-- PERIODIC_TEST_DONE (R361). The periodic CASTs finish, and the Vault returns to its previous state and resumes queued
  requests. -/
  | periodicTestDone (code : Nat)
  /-- BTN_STUCK_CLEAR (R458). After BTN_STUCK, the button has been recognised as released for 1 s without a break, so STUCK
  clears and BTN is heeded again. -/
  | btnStuckClear
  /-- HRSTB_RELEASE (R461). HRSTB rises after a host reset, and the HRST record with the saturated low time is written. -/
  | hrstbRelease (low : Nat)
  /-- DBG_TRTAIL_WRITE (R471). The runtime advances DBG_TRTAIL, giving room in the trace ring to a run that channel 2 is
  waiting to drain. -/
  | dbgTrtailWrite (offset : Nat) (ten tag : Nat)
  /-- KEY_STORE_PARTITION_ACCESS (R362). The key-store partition is accessed other than through the key-store crossing, and
  the Vault enters ERROR with VAULT_BOUNDARY cause 0x04. -/
  | keyStorePartitionAccess
  deriving DecidableEq, Repr

end Sys2Proof
end

