-- ==== Sys2Proof/Decode.lean ====
section
/-! DEFINITION. Commands that a word spells: none. No row of spec/opcode_table.json gives a field or a bit of an encoding. -/

namespace Sys2Proof

/-- The command that the low `nbits` bits of a word spell: the table encodes no command. -/
def decodeTableWord (_nbits _w : Nat) : Option Instr := none

end Sys2Proof
end

