-- ==== Sys2Proof/Machine/Bits.lean ====
section
/-! DEFINITION. Bit fields of naturals, packing of fields into a word, and modular counters (R6: bit 0 is the least
significant bit of every field, register, word and message). -/

namespace Sys2Proof.Machine

/-- The `w` bits of `x` that begin at bit `lo`. -/
def bits (x lo w : Nat) : Nat := (x >>> lo) % 2 ^ w

/-- Bit `i` of `x`. -/
def bit (x i : Nat) : Bool := bits x i 1 == 1

/-- `x` reduced to a counter of `w` bits. -/
def wrap (w x : Nat) : Nat := x % 2 ^ w

/-- `x` held at the largest value of `w` bits. -/
def saturate (w x : Nat) : Nat := min x (2 ^ w - 1)

/-- 1 for true, 0 for false. -/
def flag (b : Bool) : Nat := if b then 1 else 0

/-- A word made of fields: each entry gives the lowest bit, the width and the value of one field. -/
def pack : List (Nat × Nat × Nat) → Nat
  | [] => 0
  | (lo, w, v) :: rest => (wrap w v) <<< lo + pack rest

/-- A payload flit made of fields. -/
def flit (fields : List (Nat × Nat × Nat)) : Flit := BitVec.ofNat 128 (pack fields)

/-- A value of `w` bits read as two's complement. -/
def signed (w x : Nat) : Int := if bit x (w - 1) then Int.ofNat (wrap w x) - Int.ofNat (2 ^ w) else Int.ofNat (wrap w x)

/-- An integer reduced to `w` bits of two's complement. -/
def unsigned (w : Nat) (i : Int) : Nat := (i % Int.ofNat (2 ^ w)).toNat

/-- The number of ones among the low `w` bits of `x`. -/
def popcount : Nat → Nat → Nat
  | 0, _ => 0
  | w + 1, x => x % 2 + popcount w (x / 2)

/-- The least index at or after `i`, within `fuel` places, whose bit of `x` is clear. -/
def lowestClear (x : Nat) : Nat → Nat → Option Nat
  | 0, _ => none
  | fuel + 1, i => if bit x i then lowestClear x fuel (i + 1) else some i

/-- The indexes below `n` whose bit of `x` is set, in rising order. -/
def setBits (n x : Nat) : List Nat := (List.range n).filter (bit x)

/-- A mask with one bit set for each index of the list. -/
def maskOf (l : List Nat) : Nat := l.foldl (fun m i => m ||| (1 <<< i)) 0

/-- The next value of a counter of `w` bits that skips zero (FSEQ, RID: R208, R211). -/
def nextSkipZero (w x : Nat) : Nat := if wrap w (x + 1) = 0 then 1 else wrap w (x + 1)

/-- The low bytes of `x`, least significant first (R6). -/
def bytesLE : Nat → Nat → List Byte
  | 0, _ => []
  | n + 1, x => BitVec.ofNat 8 x :: bytesLE n (x / 256)

/-- The natural that a little-endian byte list spells. -/
def ofBytesLE : List Byte → Nat
  | [] => 0
  | b :: rest => b.toNat + 256 * ofBytesLE rest

end Sys2Proof.Machine
end

