-- ==== Sys2Proof/Machine/Sha.lean ====
section
/-! DEFINITION. SHA-384, HMAC-SHA-384 and the counter-mode key derivation that R49, R288 and R346 name. The spec gives the names of the standards
(FIPS 180-4, FIPS 198-1, SP 800-108) and not their text: PRESUMED (assumption 7). -/

namespace Sys2Proof.Machine

/-- A 64-bit word rotated right. -/
def rotr64 (x n : Nat) : Nat := wrap 64 (x >>> n ||| x <<< (64 - n))

/-- Round constants, eight at a time. -/
def shaK0 : List Nat := [
  0x428A2F98D728AE22, 0x7137449123EF65CD, 0xB5C0FBCFEC4D3B2F, 0xE9B5DBA58189DBBC,
  0x3956C25BF348B538, 0x59F111F1B605D019, 0x923F82A4AF194F9B, 0xAB1C5ED5DA6D8118]
/-- Eight more round constants. -/
def shaK1 : List Nat := [
  0xD807AA98A3030242, 0x12835B0145706FBE, 0x243185BE4EE4B28C, 0x550C7DC3D5FFB4E2,
  0x72BE5D74F27B896F, 0x80DEB1FE3B1696B1, 0x9BDC06A725C71235, 0xC19BF174CF692694]
/-- Eight more round constants. -/
def shaK2 : List Nat := [
  0xE49B69C19EF14AD2, 0xEFBE4786384F25E3, 0x0FC19DC68B8CD5B5, 0x240CA1CC77AC9C65,
  0x2DE92C6F592B0275, 0x4A7484AA6EA6E483, 0x5CB0A9DCBD41FBD4, 0x76F988DA831153B5]
/-- Eight more round constants. -/
def shaK3 : List Nat := [
  0x983E5152EE66DFAB, 0xA831C66D2DB43210, 0xB00327C898FB213F, 0xBF597FC7BEEF0EE4,
  0xC6E00BF33DA88FC2, 0xD5A79147930AA725, 0x06CA6351E003826F, 0x142929670A0E6E70]
/-- Eight more round constants. -/
def shaK4 : List Nat := [
  0x27B70A8546D22FFC, 0x2E1B21385C26C926, 0x4D2C6DFC5AC42AED, 0x53380D139D95B3DF,
  0x650A73548BAF63DE, 0x766A0ABB3C77B2A8, 0x81C2C92E47EDAEE6, 0x92722C851482353B]
/-- Eight more round constants. -/
def shaK5 : List Nat := [
  0xA2BFE8A14CF10364, 0xA81A664BBC423001, 0xC24B8B70D0F89791, 0xC76C51A30654BE30,
  0xD192E819D6EF5218, 0xD69906245565A910, 0xF40E35855771202A, 0x106AA07032BBD1B8]
/-- Eight more round constants. -/
def shaK6 : List Nat := [
  0x19A4C116B8D2D0C8, 0x1E376C085141AB53, 0x2748774CDF8EEB99, 0x34B0BCB5E19B48A8,
  0x391C0CB3C5C95A63, 0x4ED8AA4AE3418ACB, 0x5B9CCA4F7763E373, 0x682E6FF3D6B2B8A3]
/-- Eight more round constants. -/
def shaK7 : List Nat := [
  0x748F82EE5DEFB2FC, 0x78A5636F43172F60, 0x84C87814A1F0AB72, 0x8CC702081A6439EC,
  0x90BEFFFA23631E28, 0xA4506CEBDE82BDE9, 0xBEF9A3F7B2C67915, 0xC67178F2E372532B]
/-- Eight more round constants. -/
def shaK8 : List Nat := [
  0xCA273ECEEA26619C, 0xD186B8C721C0C207, 0xEADA7DD6CDE0EB1E, 0xF57D4F7FEE6ED178,
  0x06F067AA72176FBA, 0x0A637DC5A2C898A6, 0x113F9804BEF90DAE, 0x1B710B35131C471B]
/-- Eight more round constants. -/
def shaK9 : List Nat := [
  0x28DB77F523047D84, 0x32CAAB7B40C72493, 0x3C9EBE0A15C9BEBC, 0x431D67C49C100D4C,
  0x4CC5D4BECB3E42B6, 0x597F299CFC657E2A, 0x5FCB6FAB3AD6FAEC, 0x6C44198C4A475817]

/-- The 80 round constants: the first 64 bits of the fractional parts of the cube roots of the first 80 primes. -/
def shaK : List Nat := shaK0 ++ shaK1 ++ shaK2 ++ shaK3 ++ shaK4 ++ shaK5 ++ shaK6 ++ shaK7 ++ shaK8 ++ shaK9

/-- The initial value of SHA-384. -/
def shaInit : List Nat := [
  0xCBBB9D5DC1059ED8, 0x629A292A367CD507, 0x9159015A3070DD17, 0x152FECD8F70E5939,
  0x67332667FFC00B31, 0x8EB44A8768581511, 0xDB0C2E0D64F98FA7, 0x47B5481DBEFA4FA4]

/-- The message schedule, newest word first: `n` words more. -/
def shaSchedule : Nat → List Nat → List Nat
  | 0, w => w
  | n + 1, w =>
    let x2 := w.getD 1 0
    let x15 := w.getD 14 0
    let s1 := (rotr64 x2 19 ^^^ rotr64 x2 61) ^^^ (x2 >>> 6)
    let s0 := (rotr64 x15 1 ^^^ rotr64 x15 8) ^^^ (x15 >>> 7)
    shaSchedule n (wrap 64 (s1 + w.getD 6 0 + s0 + w.getD 15 0) :: w)

/-- One round over the working variables a to h. -/
def shaRound (v : List Nat) (k w : Nat) : List Nat :=
  match v with
  | [a, b, c, d, e, f, g, h] =>
    let s1 := (rotr64 e 14 ^^^ rotr64 e 18) ^^^ rotr64 e 41
    let ch := (e &&& f) ^^^ ((2 ^ 64 - 1 - e) &&& g)
    let t1 := h + s1 + ch + k + w
    let s0 := (rotr64 a 28 ^^^ rotr64 a 34) ^^^ rotr64 a 39
    let maj := ((a &&& b) ^^^ (a &&& c)) ^^^ (b &&& c)
    [wrap 64 (t1 + s0 + maj), a, b, c, wrap 64 (d + t1), e, f, g]
  | l => l

/-- One block of 16 words folded into the hash value. -/
def shaBlock (h block : List Nat) : List Nat :=
  let w := (shaSchedule 64 block.reverse).reverse
  let v := (List.zip shaK w).foldl (fun v e => shaRound v e.1 e.2) h
  (List.zip h v).map (fun e => wrap 64 (e.1 + e.2))

/-- A big-endian number of a byte list. -/
def ofBytesBE (l : List Nat) : Nat := l.foldl (fun n b => n * 256 + b % 256) 0

/-- The `n` bytes of a number, most significant first. -/
def bytesBE (n x : Nat) : List Nat := (List.range n).map (fun i => x >>> (8 * (n - 1 - i)) % 256)

/-- Blocks of 128 bytes, as words. -/
def shaBlocks (n : Nat) (l : List Nat) : List (List Nat) :=
  (List.range n).map (fun i => (List.range 16).map (fun j => ofBytesBE ((l.drop (128 * i + 8 * j)).take 8)))

/-- SHA-384 of a byte list, as a number of 384 bits whose leftmost byte is the digest's first. -/
def sha384 (m : List Nat) : Nat :=
  let n := (m.length + 17 + 127) / 128
  let padded := m ++ [0x80] ++ List.replicate (128 * n - m.length - 17) 0 ++ bytesBE 16 (8 * m.length)
  let h := (shaBlocks n padded).foldl shaBlock shaInit
  (h.take 6).foldl (fun x w => x * 2 ^ 64 + w) 0

/-- HMAC-SHA-384. -/
def hmac384 (key m : List Nat) : Nat :=
  let k := if key.length > 128 then bytesBE 48 (sha384 key) else key
  let k := k ++ List.replicate (128 - k.length) 0
  sha384 (k.map (· ^^^ 0x5C) ++ bytesBE 48 (sha384 (k.map (· ^^^ 0x36) ++ m)))

/-- Bytes of a text. -/
def textBytes (t : String) : List Nat := t.toList.map (fun c => c.toNat)

/-- The leftmost `w` bits, at most 384, of the counter-mode KDF with HMAC-SHA-384 (R49, R346). -/
def kdf384 (key : List Nat) (label : String) (context : List Nat) (w : Nat) : Nat :=
  hmac384 key (bytesBE 4 1 ++ textBytes label ++ [0] ++ context ++ bytesBE 4 w) >>> (384 - w)

end Sys2Proof.Machine
end

