-- ==== Sys2Proof/Config.lean ====
section
/-! DEFINITION. What no rule of the spec fixes and the model leaves open: constants without a body, so that nothing can be proved of
their values. -/

namespace Sys2Proof.Machine

/-- A value that the spec leaves open, by how many were drawn before it (assumption 6). -/
opaque Config.freeValue : Nat → Nat

/-- The device root secret of the fuses, 256 bits, which nothing outside the Vault ever reads (R44, R350; assumption 41). -/
opaque Config.deviceSecret : Nat

/-- Lower bounds of the bands B1 to B4 in units of 1/64 °C, which no rule states (R322, assumption 53). -/
opaque Config.bandBound : Nat → Int

/-- Number of the permutation in which the levels' fifteen grant slots stand, which no rule states (R377, assumption 60). -/
opaque Config.slotOrder : Nat

/-- The word of a part of the state mirror whose record layout, offsets or order no rule states, as a function of what the part shows: the number of the
part, the records, and the word's place (R364, R495, R497; assumption 81). -/
opaque Config.shown {α : Type} : Nat → α → Nat → Nat

/-- The key of the record at a place of a mirror table whose order no rule states, by the number of the part and the keys in use (R497; assumption 81). -/
opaque Config.shownKey : Nat → List Nat → Nat → Nat

/-- SECDED check of a Flue flit's data and sideband, 9 bits of a code that no rule states (R20; assumption 2). -/
opaque Config.flueEcc : Nat → Nat → Nat

/-- Credits of a channel on a hop, less one, a size that no rule states (R23; assumption 2). -/
opaque Config.flueCredits : Nat

/-- GTLO of a fault message that its source could not stamp, by the source (R29; assumption 4). -/
opaque Config.noStamp : Nat → Nat

/-- Static I3C address on the MGT_SA tie-offs, 7 bits (R501, R506; assumption 82). -/
opaque Config.staticAddress : Nat

/-- IANA enterprise number of the vendor messages, 32 bits of the netlist (R504, R506; assumption 82). -/
opaque Config.iana : Nat

/-- Provisioned ID, bus and device characteristics that the I3C target returns: 48, 8 and 8 bits that no rule states (R501; assumption 82). -/
opaque Config.i3cPid : Nat
opaque Config.i3cBcr : Nat
opaque Config.i3cDcr : Nat

end Sys2Proof.Machine
end

