-- ==== Sys2Proof/Machine/Table.lean ====
section
/-! DEFINITION. Sparse tables: a list of key and value pairs with strictly rising keys. They hold everything the
spec gives once per region, probe, column, tenant, port or number. A table is plain data. -/

namespace Sys2Proof.Machine

/-- A sparse table keyed by naturals. -/
abbrev Table (α : Type) := List (Nat × α)

/-- The entry at key `k`, if there is one. -/
def tget {α : Type} (k : Nat) : Table α → Option α
  | [] => none
  | (k', v) :: rest => if k = k' then some v else tget k rest

/-- The entry at key `k`, or `d` where there is none. -/
def tgetD {α : Type} (d : α) (k : Nat) (t : Table α) : α := (tget k t).getD d

/-- The table with `v` at key `k`; the order of keys is kept. -/
def tput {α : Type} (k : Nat) (v : α) : Table α → Table α
  | [] => [(k, v)]
  | (k', v') :: rest =>
    if k < k' then (k, v) :: (k', v') :: rest
    else if k = k' then (k, v) :: rest
    else (k', v') :: tput k v rest

/-- The table without any entry at key `k`. -/
def tdel {α : Type} (k : Nat) : Table α → Table α
  | [] => []
  | (k', v') :: rest => if k = k' then tdel k rest else (k', v') :: tdel k rest

/-- The table with `v` at key `k`, where an unlisted key reads as `d`: writing `d` removes the entry, so that equal
contents are equal lists. -/
def tset {α : Type} [DecidableEq α] (d : α) (k : Nat) (v : α) (t : Table α) : Table α :=
  if v = d then tdel k t else tput k v t

/-- The keys are strictly rising, each above `lo` where `lo` is given. -/
def tsorted {α : Type} : Option Nat → Table α → Bool
  | _, [] => true
  | lo, (k, _) :: rest => (match lo with | none => true | some l => decide (l < k)) && tsorted (some k) rest

/-- The canonical form of a table whose unlisted keys read as `d`: rising keys and no entry equal to `d`. -/
def twf {α : Type} [DecidableEq α] (d : α) (t : Table α) : Bool :=
  tsorted none t && t.all (fun e => decide (e.2 ≠ d))

/-- Apply `f` to the value of every entry. -/
def tmap {α : Type} (f : Nat → α → α) (t : Table α) : Table α := t.map (fun e => (e.1, f e.1 e.2))

/-- Bytes of an addressed buffer: what an unlisted address reads as is 0 (reset contents of a buffer register). -/
abbrev Buffer := List Host.Cell

/-- The byte at address `a` of a buffer. -/
def readByte (b : Buffer) (a : Nat) : Byte := tgetD (0 : Byte) a b

/-- The buffer with byte `v` at address `a`. -/
def writeByte (b : Buffer) (a : Nat) (v : Byte) : Buffer := tset (0 : Byte) a v b

/-- The buffer with the bytes of `l` from address `a` on. -/
def writeBytes : Buffer → Nat → List Byte → Buffer
  | b, _, [] => b
  | b, a, v :: rest => writeBytes (writeByte b a v) (a + 1) rest

/-- `n` bytes of a buffer from address `a` on. -/
def readBytes (b : Buffer) : Nat → Nat → List Byte
  | _, 0 => []
  | a, n + 1 => readByte b a :: readBytes b (a + 1) n

/-- The canonical form of a buffer: rising addresses, and no entry equal to what an unlisted address reads as. -/
def Buffer.wf (b : Buffer) : Bool := twf (0 : Byte) b

end Sys2Proof.Machine
end

