-- ==== Sys2Proof/Machine/Operands.lean ====
section
/-! DEFINITION. Operand forms: the residue map (R47, R48), the host formats (R58, R59), the accumulator layouts and the Tap's
reduction (R60), release-tag arithmetic (R70), the Trivium streams and their 5-bit amounts (R50, R51, R100, R101, R122, R283),
the reading signature (R102), the digest contribution (R282) and the fields of the command header (R74). -/

namespace Sys2Proof.Machine

/-! ## The residue map -/

/-- The Mersenne prime of every residue check, 2^31 − 1 (R47). -/
def mersenne : Nat := 2147483647

/-- Canonical residue of a natural: 0x7FFF_FFFF becomes 0 (R48). -/
def canon (x : Nat) : Nat := x % mersenne

/-- Addition modulo p (R54); the result is canonical. -/
def addp (x y : Nat) : Nat := (x + y) % mersenne

/-- Multiplication modulo p (R54). -/
def mulp (x y : Nat) : Nat := (x * y) % mersenne

/-- Negation modulo p: the 31-bit complement (R47). -/
def negp (x : Nat) : Nat := (mersenne - x % mersenne) % mersenne

/-- Left rotation by `k` within 31 bits, which is multiplication by 2^k modulo p (R47). -/
def rot (x k : Nat) : Nat := (x * 2 ^ (k % 31)) % mersenne

/-- Rotation by an exponent of either sign: e mod 31 is the non-negative remainder (R47). -/
def rotInt (x : Nat) (e : Int) : Nat := rot x (e % 31).toNat

/-- Residue of an integer. -/
def residueInt (v : Int) : Nat := (v % (mersenne : Int)).toNat

/-! ## Host formats -/

/-- Element formats: the eight operand formats of R58 and RAW8, which only ROFMT and TPI_MIN_FMT may name (R74). -/
inductive Fmt where
  | fp32 | bf16 | fp16 | e4m3 | e5m2 | e2m1 | int8 | int4 | raw8
  deriving DecidableEq, Repr

/-- Format of an FMTA, FMTB or ROFMT code; 9–15 are reserved, and 8 is RAW8 (R74). -/
def Fmt.ofCode : Nat → Option Fmt
  | 0 => some .fp32 | 1 => some .bf16 | 2 => some .fp16 | 3 => some .e4m3 | 4 => some .e5m2
  | 5 => some .e2m1 | 6 => some .int8 | 7 => some .int4 | 8 => some .raw8 | _ => none

/-- Element width w of a format: 32, 16, 8 or 4 bits, with 8 for RAW8 (R74, R511). -/
def Fmt.width : Fmt → Nat
  | .fp32 => 32 | .bf16 => 16 | .fp16 => 16 | .e4m3 => 8 | .e5m2 => 8
  | .e2m1 => 4 | .int8 => 8 | .int4 => 4 | .raw8 => 8

/-- The formats that may carry an MX shared scale (R59). -/
def Fmt.scalable : Fmt → Bool
  | .e4m3 => true | .e5m2 => true | .e2m1 => true | .int8 => true | _ => false

/-- A decoded element: sign, integer significand, exponent, and whether it makes the check not applicable (R58). -/
structure Elem where
  neg : Bool
  m : Nat
  e : Int
  na : Bool
  deriving DecidableEq, Repr

/-- A binary floating-point element with `ew` exponent bits and `fw` fraction bits: a normal has m = 2^fw + F and
e = E − bias, a subnormal m = F and e = 1 − bias (R58). -/
def decodeFloat (ew fw : Nat) (bias : Int) (isNa : Nat → Nat → Bool) (x : Nat) : Elem :=
  let f := bits x 0 fw
  let e := bits x fw ew
  { neg := bit x (ew + fw)
    m := if e = 0 then f else 2 ^ fw + f
    e := if e = 0 then 1 - bias else Int.ofNat e - bias
    na := isNa e f }

/-- A two's complement element of `w` bits; its exponent is 0 (R58). -/
def decodeInt (w x : Nat) : Elem :=
  let v := signed w x
  { neg := decide (v < 0), m := v.natAbs, e := 0, na := false }

/-- One element of a format (R58). `scaled` says that it stands under an MX shared scale: an INT8 element is then the
MXINT8 element, whose exponent is −6 (R59). RAW8 reads the byte as an unsigned integer. -/
def decodeElem (f : Fmt) (scaled : Bool) (x : Nat) : Elem :=
  match f with
  | .fp32 => decodeFloat 8 23 150 (fun e _ => e == 255) x
  | .bf16 => decodeFloat 8 7 134 (fun e _ => e == 255) x
  | .fp16 => decodeFloat 5 10 25 (fun e _ => e == 31) x
  | .e4m3 => decodeFloat 4 3 10 (fun e fr => e == 15 && fr == 7) x
  | .e5m2 => decodeFloat 5 2 17 (fun e _ => e == 31) x
  | .e2m1 => decodeFloat 2 1 2 (fun _ _ => false) x
  | .int8 => let d := decodeInt 8 x; if scaled then { d with e := -6 } else d
  | .int4 => decodeInt 4 x
  | .raw8 => { neg := false, m := bits x 0 8, e := 0, na := false }

/-- Residue of m·2^e with its sign, rotated further by `r`: rot(sig31, (r + ex) mod 31) of R54. -/
def Elem.rotated (d : Elem) (r : Int) : Nat :=
  let z := rotInt d.m (d.e + r)
  if d.neg then negp z else z

/-- Residue R(x) of an element (R47). -/
def Elem.residue (d : Elem) : Nat := d.rotated 0

/-- Element slot `i` of a lane or of egress data: bits [w·i + w − 1 : w·i]. -/
def elemAt (f : Fmt) (data i : Nat) : Nat := bits data (f.width * i) f.width

/-- Exponent of an E8M0 scale byte and whether it makes the check not applicable: 2^(S − 127), S = 255 (R59). -/
def scaleOf (s : Nat) : Int × Bool := (Int.ofNat s - 127, s == 255)

/-- The weighted sum Σ rot(sig31(x_i), (w_i + ex(x_i)) mod 31) of one lane over the elements of an operand beat, and whether
an element or a scale makes the check not applicable. `scale i` is the scale byte of element `i` where the header scales
the operand. -/
def foldBeat (f : Fmt) (data : Nat) (scale : Nat → Option Nat) : List Nat → Nat → Nat × Bool
  | [], _ => (0, false)
  | w :: ws, i =>
    let sc := (scale i).map scaleOf
    let d := decodeElem f sc.isSome (elemAt f data i)
    let z := d.rotated (Int.ofNat w + (match sc with | some (e, _) => e | none => 0))
    let rest := foldBeat f data scale ws (i + 1)
    (addp z rest.1, d.na || (match sc with | some (_, b) => b | none => false) || rest.2)

/-! ## Accumulator words -/

/-- Accumulator layouts of GEOMETRY (R60). -/
inductive AccLayout where
  | accFixed | accFloat
  deriving DecidableEq, Repr

/-- Residue of an n-bit two's complement word (R60). -/
def reduceWord (n v : Nat) : Nat := residueInt (signed n v)

/-- The Tap's residue of one accumulator word of width `w`: V·2^q for ACC_FIXED with q the header's signed ACCQ; V·2^X for
ACC_FLOAT with the 16-bit two's complement exponent in the top bits (R60). -/
def tapResidue (layout : AccLayout) (w q v : Nat) : Nat :=
  match layout with
  | .accFixed => rotInt (reduceWord w v) (signed 8 q)
  | .accFloat => rotInt (reduceWord (w - 16) (bits v 0 (w - 16))) (signed 16 (bits v (w - 16) 16))

/-! ## Release tags -/

/-- What one output element adds to a release tag: its residue, or its encoding as an unsigned integer where it is NaN or
infinity (R70). -/
def tagTerm (f : Fmt) (x : Nat) : Nat :=
  let d := decodeElem f false x
  if d.na then canon x else d.residue

/-- Sum of the tag terms of the first `n` elements of a beat (R70, R91, R92). -/
def tagBeat (f : Fmt) (data : Nat) : Nat → Nat
  | 0 => 0
  | n + 1 => addp (tagBeat f data n) (tagTerm f (elemAt f data n))

/-- The element count a probe uses for a beat: at most 512/w (R511). -/
def clipNel (f : Fmt) (nel : Nat) : Nat := min nel (512 / f.width)

/-! ## Trivium streams -/

/-- State of a Trivium generator: its three shift registers, with s1, s94 and s178 at bit 0. PRESUMED from ISO/IEC 29192-3,
which the spec cites and does not restate (assumption 5). -/
structure Trivium where
  a : Nat
  b : Nat
  c : Nat
  deriving DecidableEq, Repr

/-- The `n` low bits of `x` in reversed order: the standard's K1 and IV1 stand for bit 79. -/
def reverseBits : Nat → Nat → Nat
  | 0, _ => 0
  | n + 1, x => (x % 2) * 2 ^ n + reverseBits n (x / 2)

/-- One step of the generator: the keystream bit and the next state. -/
def Trivium.step (t : Trivium) : Nat × Trivium :=
  let g := fun x i => bits x i 1
  let t1 := g t.a 65 ^^^ g t.a 92
  let t2 := g t.b 68 ^^^ g t.b 83
  let t3 := g t.c 65 ^^^ g t.c 110
  let z := t1 ^^^ t2 ^^^ t3
  let u1 := t1 ^^^ (g t.a 90 &&& g t.a 91) ^^^ g t.b 77
  let u2 := t2 ^^^ (g t.b 81 &&& g t.b 82) ^^^ g t.c 86
  let u3 := t3 ^^^ (g t.c 108 &&& g t.c 109) ^^^ g t.a 68
  (z, { a := (t.a * 2 + u3) % 2 ^ 93, b := (t.b * 2 + u1) % 2 ^ 84, c := (t.c * 2 + u2) % 2 ^ 111 })

/-- `n` steps whose output is discarded. -/
def Trivium.skip : Nat → Trivium → Trivium
  | 0, t => t
  | n + 1, t => Trivium.skip n t.step.2

/-- The generator started with an 80-bit key and an 80-bit IV, after its 4 × 288 initial steps. -/
def Trivium.start (key iv : Nat) : Trivium :=
  Trivium.skip 1152 { a := reverseBits 80 key, b := reverseBits 80 iv, c := 7 * 2 ^ 108 }

/-- The next `n` keystream bits, the first of them most significant. -/
def Trivium.take : Nat → Trivium → Nat × Trivium
  | 0, t => (0, t)
  | n + 1, t =>
    let (z, t1) := t.step
    let (r, t2) := Trivium.take n t1
    (z * 2 ^ n + r, t2)

/-- The next `n` rotation amounts, within `fuel` 5-bit groups: the first keystream bit of a group is bit 4, and a group of
value 31 is discarded (R51). -/
def Trivium.amounts : Nat → Nat → Trivium → List Nat × Trivium
  | 0, _, t => ([], t)
  | _ + 1, 0, t => ([], t)
  | fuel + 1, n + 1, t =>
    let (g, t1) := t.take 5
    if g = 31 then Trivium.amounts fuel (n + 1) t1
    else
      let (l, t2) := Trivium.amounts fuel n t1
      (g :: l, t2)

/-- Groups allowed for `n` amounts. A draw that needs more has a probability far below that of R53. -/
def amountFuel (n : Nat) : Nat := 2 * n + 512

/-- `n` amounts drawn from a generator. -/
def Trivium.draw (n : Nat) (t : Trivium) : List Nat × Trivium := Trivium.amounts (amountFuel n) n t

/-- IV of a rotation stream (R50). -/
def ivRotation (x y count : Nat) : Nat := pack [(69, 11, x), (59, 10, y), (27, 32, count)]

/-- IV of a reading stream: domain 0b10 for a matrix product, 0b11 with u for other headers (R100). -/
def ivReading (x y count dom u : Nat) : Nat := pack [(69, 11, x), (59, 10, y), (27, 32, count), (25, 2, dom), (0, 25, u)]

/-- IV of an IFT stream of pattern `x`: stream 0 rotation amounts, 1 signature amounts, 2 operand fill (R122). -/
def ivIft (x visit pass stream : Nat) : Nat :=
  pack [(59, 21, x), (27, 32, if stream = 0 then pack [(8, 24, visit), (0, 8, pass)] else 0), (25, 2, 1), (0, 25, stream)]

/-- IV of a digest stream (R283). -/
def ivDigest (x y layer operator obase : Nat) : Nat :=
  pack [(69, 11, x), (59, 10, y), (43, 16, layer), (27, 16, operator), (16, 11, obase)]

/-- The amounts of a signature or digest stream: κA and κB, 33 each, and the generator from which ρA and ρB follow. -/
structure Kappa where
  kA : List Nat
  kB : List Nat
  gen : Trivium
  deriving DecidableEq, Repr

/-- Draw κA[0 … 32], then κB[0 … 32] (R101, R122, R283). -/
def Kappa.draw (t : Trivium) : Kappa :=
  let (a, t1) := t.draw 33
  let (b, t2) := t1.draw 33
  { kA := a, kB := b, gen := t2 }

/-- The next ρA and ρB, and the generator after them. -/
def Kappa.nextRho (k : Kappa) : (Nat × Nat) × Kappa :=
  let (l, t) := k.gen.draw 2
  ((l.getD 0 0, l.getD 1 0), { k with gen := t })

/-! ## Signature and digest -/

/-- Σ rot(chunk c, rho + kappa[c]) over the 16-bit chunks from chunk `c` on, within `n` of them (R102). -/
def chunkSum (rho : Nat) (kappa : List Nat) (data : Nat) : Nat → Nat → Nat
  | 0, _ => 0
  | n + 1, c => addp (rot (bits data (16 * c) 16) (rho + kappa.getD c 0)) (chunkSum rho kappa data n (c + 1))

/-- One lane of the signature folded over a beat: its 32 chunks with every bit at or above w·NEL taken as 0, then its NEL
(R102). -/
def sigBeat (s rho : Nat) (kappa : List Nat) (w nel data : Nat) : Nat :=
  let d := bits data 0 (w * nel)
  addp (addp s (chunkSum rho kappa d 32 0)) (rot nel (rho + kappa.getD 32 0))

/-- The 16-bit chunks of a beat's first `nel` elements, in egress order (R282). -/
def digestChunks (f : Fmt) (data nel : Nat) : List Nat :=
  (List.range nel).flatMap (fun t =>
    let x := elemAt f data t
    if f.width = 32 then [bits x 0 16, bits x 16 16] else [x])

/-- The header fields of R74, each read from the 256 bits. -/
def hdrField (h : Hdr) (lo w : Nat) : Nat := bits h.toNat lo w

end Sys2Proof.Machine

namespace Sys2Proof

open Machine

def Hdr.tenant (h : Hdr) : Nat := hdrField h 0 12
def Hdr.opclass (h : Hdr) : Nat := hdrField h 12 4
def Hdr.exact (h : Hdr) : Bool := hdrField h 16 1 == 1
def Hdr.mayvary (h : Hdr) : Bool := hdrField h 17 1 == 1
def Hdr.cont (h : Hdr) : Bool := hdrField h 18 1 == 1
def Hdr.readout (h : Hdr) : Bool := hdrField h 19 1 == 1
def Hdr.fmta (h : Hdr) : Nat := hdrField h 20 4
def Hdr.fmtb (h : Hdr) : Nat := hdrField h 24 4
def Hdr.sca (h : Hdr) : Bool := hdrField h 28 1 == 1
def Hdr.scb (h : Hdr) : Bool := hdrField h 29 1 == 1
def Hdr.dim0 (h : Hdr) : Nat := hdrField h 30 6
def Hdr.dim1 (h : Hdr) : Nat := hdrField h 36 6
def Hdr.steps (h : Hdr) : Nat := hdrField h 42 20
def Hdr.accq (h : Hdr) : Nat := hdrField h 62 8
def Hdr.layer (h : Hdr) : Nat := hdrField h 70 16
def Hdr.operator (h : Hdr) : Nat := hdrField h 86 16
def Hdr.outmesh (h : Hdr) : Bool := hdrField h 102 1 == 1
def Hdr.outsram (h : Hdr) : Bool := hdrField h 103 1 == 1
def Hdr.obase (h : Hdr) : Nat := hdrField h 104 11
def Hdr.olen (h : Hdr) : Nat := hdrField h 115 11
def Hdr.abase (h : Hdr) : Nat := hdrField h 126 11
def Hdr.alen (h : Hdr) : Nat := hdrField h 137 11
def Hdr.bbase (h : Hdr) : Nat := hdrField h 148 11
def Hdr.blen (h : Hdr) : Nat := hdrField h 159 11
def Hdr.rofmt (h : Hdr) : Nat := hdrField h 170 4
def Hdr.htag (h : Hdr) : Nat := hdrField h 174 8
def Hdr.reserved (h : Hdr) : Nat := hdrField h 182 74

/-- A matrix product: OPCLASS 0 or 1 (R74). -/
def Hdr.matrix (h : Hdr) : Bool := decide (h.opclass ≤ 1)

/-- Weight-stationary: OPCLASS 1. -/
def Hdr.ws (h : Hdr) : Bool := h.opclass == 1

/-- Output-stationary M; weight-stationary K: DIM0 + 1 (R74). -/
def Hdr.d0 (h : Hdr) : Nat := h.dim0 + 1

/-- N: DIM1 + 1. -/
def Hdr.n (h : Hdr) : Nat := h.dim1 + 1

/-- k-steps, or streamed rows: STEPS + 1. -/
def Hdr.k (h : Hdr) : Nat := h.steps + 1

/-- Released format of a slot; RAW8 where the code is reserved, which an accepted header never holds (R77). -/
def Hdr.rofmtOf (h : Hdr) : Fmt := (Fmt.ofCode h.rofmt).getD .raw8

end Sys2Proof

namespace Sys2Proof.Machine

/-- The shared scale byte of element `i` of an output-stationary beat: byte i (R78). -/
def scaleOS (on : Bool) (sc i : Nat) : Option Nat := if on then some (bits sc (8 * i) 8) else none

/-- The shared scale byte of element `k` of a streamed row: byte 0 for k below 32, byte 1 above (R79). -/
def scaleRow (on : Bool) (sc k : Nat) : Option Nat := if on then some (bits sc (8 * (k / 32)) 8) else none

/-- Do the line ranges [b1, b1 + l1) and [b2, b2 + l2) share a line? -/
def linesOverlap (b1 l1 b2 l2 : Nat) : Bool :=
  decide (0 < l1) && decide (0 < l2) && decide (b1 < b2 + l2) && decide (b2 < b1 + l1)

/-- The 64 B units that hold any line of [base, base + len), in ascending order (R105). -/
def unitsOf (base len : Nat) : List Nat :=
  if len = 0 then [] else (List.range ((base + len - 1) / 2 + 1 - base / 2)).map (· + base / 2)

/-- The units of a header's A and B regions, each once, ascending (R105). -/
def copyUnits (h : Hdr) : List Nat :=
  (List.range 768).filter (fun u => (unitsOf h.abase h.alen).contains u || (unitsOf h.bbase h.blen).contains u)

end Sys2Proof.Machine
end

