-- ==== Sys2Proof/Machine/Wire.lean ====
section
/-! DEFINITION. What travels on the Flue: Source IDs (R18, R196, R197), fault messages (R198) and the messages of the other
channels with their header (R21). -/

namespace Sys2Proof.Machine

/-- Region code of the Kiln in a Source ID (R196). -/
def kilnRegion : Nat := 0x7FF

/-- Tile code of a hub, or of the Kiln, in a Source ID (R196). -/
def noTile : Nat := 0x7FF

/-- A Source ID (R196). -/
def sourceId (region tile unit inst : Nat) : Nat := pack [(21, 11, region), (10, 11, tile), (5, 5, unit), (0, 5, inst)]

/-- Source ID of the probe of a position. -/
def probeSrc (region tile : Nat) : Nat := sourceId region tile 0 0

/-- Source ID of a hub core (R197). -/
def hubSrc (region : Nat) : Nat := sourceId region noTile 0x08 0

/-- Source ID of a unit of the Kiln (R197). -/
def kilnSrc (unit inst : Nat) : Nat := sourceId kilnRegion noTile unit inst

/-- REGION of a Source ID. -/
def srcRegion (src : Nat) : Nat := bits src 21 11

/-- TILE of a Source ID. -/
def srcTile (src : Nat) : Nat := bits src 10 11

/-- UNIT of a Source ID. -/
def srcUnit (src : Nat) : Nat := bits src 5 5

/-- INST of a Source ID. -/
def srcInst (src : Nat) : Nat := bits src 0 5

/-- A fault message: one flit on the FAULT channel (R198). -/
structure FaultMsg where
  src : Nat
  kind : Nat
  tenant : Nat
  addr : Nat
  gtlo : Nat
  /-- CORR of an RFI message, known to the hub that classifies it; the flit does not carry it (R200). -/
  corr : Bool := false
  deriving DecidableEq, Repr

/-- The 128 bits of a fault message (R198). -/
def FaultMsg.flit (m : FaultMsg) : Flit :=
  Machine.flit [(0, 32, m.src), (32, 12, m.kind), (44, 12, m.tenant), (56, 48, m.addr), (104, 24, m.gtlo)]

/-- ADDR of the check kinds: HTAG, outcome, slot, LAYER, OPERATOR and band (R198). -/
def checkAddr (htag outcome slot layer operator band : Nat) : Nat :=
  pack [(0, 8, htag), (8, 3, outcome), (11, 2, slot), (13, 16, layer), (29, 16, operator), (45, 3, band)]

/-- Virtual channels (R20, R23). -/
inductive Vc where
  | req | rsp | fault | bulk
  deriving DecidableEq, Repr

/-- A message of the REQ, RSP or BULK channel: the fields of its header and the flits that follow (R21). -/
structure Msg where
  dest : Nat
  src : Nat
  tag : Nat
  op : Nat
  tenant : Nat
  arg : Nat
  payload : List Flit
  deriving DecidableEq, Repr

/-- The header flit of a message (R21). -/
def Msg.header (m : Msg) : Flit :=
  Machine.flit [(96, 32, m.dest), (64, 32, m.src), (48, 16, m.tag), (40, 8, m.op), (37, 3, m.payload.length),
    (25, 12, m.tenant), (0, 25, m.arg)]

/-- A message of system traffic with tag 0. -/
def Msg.mk' (dest src op arg : Nat) (payload : List Flit) : Msg :=
  { dest := dest, src := src, tag := 0, op := op, tenant := 0, arg := arg, payload := payload }

/-- The channel an opcode travels on, as the opcode tables give it: R30, R137, R165, R192, R304, R435, R481, R495 name the RSP
messages and R108, R304, R338, R371, R409, R435, R481 the BULK ones. WD_STAT answers WD_CHECK on RSP (R241) with tag 1. -/
def Msg.vc (m : Msg) : Vc :=
  if [0x02, 0x03, 0x21, 0x23, 0x26, 0x4E, 0x71, 0x9C, 0xA3, 0xC0, 0xC9].contains m.op then .rsp
  else if [0x67, 0x80, 0x82, 0x84, 0x98, 0x9A, 0xA0, 0xA9, 0xBC, 0xC8].contains m.op then .bulk
  else if m.op = 0xD0 ∧ m.tag = 1 then .rsp
  else .req

/-- Opcodes that the opcode tables send to a probe (R30, R108, R137, R165, R192, R217, R241, R304, R338, R495). -/
def probeOps : List Nat :=
  [0x00, 0x01, 0x29, 0x40, 0x41, 0x43, 0x61, 0x62, 0x64, 0x65, 0x66, 0x67, 0x70, 0x71, 0x75, 0x81, 0x87, 0x99, 0xC0, 0xD1, 0xD2, 0xD8]

/-- Opcodes that they send to a hub (R30, R108, R137, R165, R192, R217, R241, R304, R338, R371, R409, R435, R462, R481, R495). -/
def hubOps : List Nat :=
  [0x00, 0x01, 0x04, 0x21, 0x22, 0x24, 0x25, 0x28, 0x42, 0x44, 0x4E, 0x60, 0x63, 0x67, 0x72, 0x73, 0x74, 0x76, 0x80, 0x83, 0x85, 0x86, 0x98, 0x9A, 0x9B,
   0xA0, 0xA2, 0xA4, 0xA8, 0xC0, 0xC6, 0xC8, 0xCA, 0xD0, 0xD4, 0xD6, 0xD8, 0xD9, 0xDA]

/-- Opcodes that they send to the Kiln: its units, the coordinator and the units that take part in a Folio among them. -/
def kilnOps : List Nat :=
  [0x02, 0x03, 0x20, 0x22, 0x23, 0x24, 0x25, 0x26, 0x27, 0x45, 0x77, 0x82, 0x84, 0x9C, 0xA1, 0xA3, 0xA9, 0xBC, 0xC9, 0xCB, 0xD3, 0xD5, 0xDB]

/-- The opcodes the opcode tables define; every other opcode is reserved (R22). -/
def opcodeDefined (op : Nat) : Bool := probeOps.contains op || hubOps.contains op || kilnOps.contains op

/-- The list cut into runs of `k` (the last may be shorter), with its length as fuel. -/
def chunksOf {α : Type} (k : Nat) (l : List α) : List (List α) :=
  (List.range ((l.length + k - 1) / k)).map (fun i => (l.drop (i * k)).take k)

/-- Consecutive payload flits of one long bit string. -/
def flitsOf : Nat → Nat → List Flit
  | 0, _ => []
  | n + 1, x => BitVec.ofNat 128 x :: flitsOf n (x >>> 128)

/-- A header as two payload flits, low half first. -/
def hdrFlits (h : Hdr) : List Flit := flitsOf 2 h.toNat

end Sys2Proof.Machine
end

