-- ==== Sys2Proof/Machine/RegMap.lean ====
section
/-! DEFINITION. The register map: every register of the spec's register tables with its window, offset, fields, access codes
and reset values (R9, R14, R486, R509). Reserved fields read 0 and are not listed (R10). The reset value is the field's value
after PORB; where a table gives none (TP_ID, RH_ID, TEN_ID, MGT_STATUS.SA, MGT_ID) the value is computed where the register
is read. -/

namespace Sys2Proof.Machine

/-- Access codes (R9). -/
inductive Access where
  | ro | rw | w1c | w1s | rwl | rs
  deriving DecidableEq, Repr

/-- Windows of the GHP address space whose registers come in instances (R486), and the Kiln windows, whose offsets are
addresses. A Concordance port, a Stacker channel and a Stacker window have a block each. -/
inductive Win where
  | kiln | clp | channel | stkwin | tenant | hub | probe
  deriving DecidableEq, Repr

/-- GHP byte address of instance `i` of a window. A probe's instance number is region × 2,048 + tile. -/
def Win.base : Win → Nat → Nat
  | .kiln, _ => 0
  | .clp, c => 0x00180000 + 0x2000 * c
  | .channel, n => 0x00140400 + 0x40 * n
  | .stkwin, w => 0x00140000 + 0x10 * w
  | .tenant, t => 0x01000000 + 0x1000 * t
  | .hub, r => 0x08000000 + 0x10000 * r
  | .probe, p => 0x10000000 + 0x80000 * (p / 2048) + 0x100 * (p % 2048)

/-- A field of a register: window, byte offset of the register, lowest bit, width, access code, value after PORB, and whether
the banked domain holds it. -/
structure RegField where
  win : Win
  off : Nat
  lo : Nat
  w : Nat
  acc : Access
  reset : Nat
  banked : Bool
  deriving DecidableEq, Repr

/-- A register: window, offset, size in bytes and fields. -/
structure RegRow where
  win : Win
  off : Nat
  size : Nat
  fields : List RegField
  deriving DecidableEq, Repr

/-- The unit whose registers a field belongs to: the Kiln's units, a port, a channel, a tenant page, the units of a hub, and a probe (R486). The port's own
registers count KILN_ID, KILN_GEOM and MIR_LENS among them. -/
inductive RegUnit where
  | ghp | mgt | bru | pwr | flt | rcv | ccd | vlt | stk | channel | sns | tly | ldg | dbg | folio | cat | clp
  | tenant | hubRd | hubIft | hubCat | hubFl | hubFlt | hubWd | hubEn | hubLg | hubPw | hubTr | probe
  deriving DecidableEq, Repr

/-- Every unit, in the order of its code. -/
def RegUnit.list : List RegUnit :=
  [.ghp, .mgt, .bru, .pwr, .flt, .rcv, .ccd, .vlt, .stk, .channel, .sns, .tly, .ldg, .dbg, .folio, .cat, .clp,
   .tenant, .hubRd, .hubIft, .hubCat, .hubFl, .hubFlt, .hubWd, .hubEn, .hubLg, .hubPw, .hubTr, .probe]

/-- The code of a unit in a key. -/
def RegUnit.code : RegUnit → Nat
  | .ghp => 0 | .mgt => 1 | .bru => 2 | .pwr => 3 | .flt => 4 | .rcv => 5 | .ccd => 6 | .vlt => 7 | .stk => 8 | .channel => 9
  | .sns => 10 | .tly => 11 | .ldg => 12 | .dbg => 13 | .folio => 14 | .cat => 15 | .clp => 16 | .tenant => 17 | .hubRd => 18 | .hubIft => 19
  | .hubCat => 20 | .hubFl => 21 | .hubFlt => 22 | .hubWd => 23 | .hubEn => 24 | .hubLg => 25 | .hubPw => 26 | .hubTr => 27 | .probe => 28

/-- The unit of a code. -/
def RegUnit.ofCode (n : Nat) : RegUnit := RegUnit.list.getD n .probe

/-- The unit of a register of the Kiln windows, by its offset (R486). -/
def kilnUnit (off : Nat) : RegUnit :=
  if off < 0x800 then (if 0x40 ≤ off ∧ off < 0x80 then .mgt else .ghp)
  else if off < 0x900 then .bru else if off < 0x1000 then .pwr else if off < 0x1100 then .flt else if off < 0x1200 then .rcv
  else if off < 0x100000 then .ccd else if off < 0x140000 then .vlt else if off < 0x1C0000 then .stk else if off < 0x1C0100 then .sns
  else if off < 0x200000 then .tly else if off < 0x204000 then .ldg else if off < 0x300000 then .dbg else if off < 0x340000 then .folio else .cat

/-- The unit of a register of a hub window, by its offset. -/
def hubUnit (off : Nat) : RegUnit :=
  if off < 0x500 then .hubRd else if off < 0x800 then .hubIft else if off < 0x900 then .hubCat else if off < 0xA00 then .hubFl
  else if off < 0xB00 then .hubFlt else if off < 0xC00 then .hubWd else if off < 0xD00 then .hubEn else if off < 0xE00 then .hubLg
  else if off < 0xF00 then .hubPw else .hubTr

/-- The unit of a field. -/
def RegField.unit (f : RegField) : RegUnit :=
  match f.win with
  | .kiln => kilnUnit f.off
  | .clp => .clp
  | .channel => .channel
  | .stkwin => .stk
  | .tenant => .tenant
  | .hub => hubUnit f.off
  | .probe => .probe

/-- The key of a field of instance `i` in the register store: its register's address, its lowest bit and the code of its unit. -/
def RegField.key (f : RegField) (i : Nat) : Nat := ((f.win.base i + f.off) * 1024 + f.lo) * 32 + f.unit.code

/-! `KILN_ID` (R506, 19_host_port_register_map.md) -/
def Reg.KILN_ID_VERSION : RegField := ⟨.kiln, 0x0, 0, 32, .ro, 196610, false⟩

/-! `KILN_GEOM` (R506, 19_host_port_register_map.md) -/
def Reg.KILN_GEOM_W : RegField := ⟨.kiln, 0x4, 0, 6, .ro, 0, false⟩
def Reg.KILN_GEOM_H : RegField := ⟨.kiln, 0x4, 6, 6, .ro, 0, false⟩
def Reg.KILN_GEOM_S : RegField := ⟨.kiln, 0x4, 12, 6, .ro, 0, false⟩

/-! `GHP_STATUS` (R506, 19_host_port_register_map.md) -/
def Reg.GHP_STATUS_OUTST : RegField := ⟨.kiln, 0x10, 0, 7, .ro, 0, false⟩

/-! `GHP_EVENT` (R506, 19_host_port_register_map.md) -/
def Reg.GHP_EVENT_PARITY : RegField := ⟨.kiln, 0x14, 0, 1, .w1c, 0, false⟩
def Reg.GHP_EVENT_ALIGN : RegField := ⟨.kiln, 0x14, 1, 1, .w1c, 0, false⟩
def Reg.GHP_EVENT_DENIED : RegField := ⟨.kiln, 0x14, 2, 1, .w1c, 0, false⟩
def Reg.GHP_EVENT_SEALED : RegField := ⟨.kiln, 0x14, 3, 1, .w1c, 0, false⟩
def Reg.GHP_EVENT_RSVD : RegField := ⟨.kiln, 0x14, 4, 1, .w1c, 0, false⟩
def Reg.GHP_EVENT_LOCKED : RegField := ⟨.kiln, 0x14, 5, 1, .w1c, 0, false⟩
def Reg.GHP_EVENT_TIMEOUT : RegField := ⟨.kiln, 0x14, 6, 1, .w1c, 0, false⟩
def Reg.GHP_EVENT_TAGDUP : RegField := ⟨.kiln, 0x14, 7, 1, .w1c, 0, false⟩

/-! `GHP_ERRLOG` (R506, 19_host_port_register_map.md) -/
def Reg.GHP_ERRLOG_ADDR : RegField := ⟨.kiln, 0x20, 0, 32, .rs, 0, false⟩
def Reg.GHP_ERRLOG_TEN : RegField := ⟨.kiln, 0x20, 32, 12, .rs, 0, false⟩
def Reg.GHP_ERRLOG_TAG : RegField := ⟨.kiln, 0x20, 44, 6, .rs, 0, false⟩
def Reg.GHP_ERRLOG_WR : RegField := ⟨.kiln, 0x20, 50, 1, .rs, 0, false⟩
def Reg.GHP_ERRLOG_SZ : RegField := ⟨.kiln, 0x20, 51, 1, .rs, 0, false⟩
def Reg.GHP_ERRLOG_STATUS : RegField := ⟨.kiln, 0x20, 52, 3, .rs, 0, false⟩
def Reg.GHP_ERRLOG_GT : RegField := ⟨.kiln, 0x20, 64, 64, .rs, 0, false⟩

/-! `MGT_STATUS` (R506, 19_host_port_register_map.md) -/
def Reg.MGT_STATUS_SA : RegField := ⟨.kiln, 0x40, 0, 7, .ro, 0, false⟩
def Reg.MGT_STATUS_DA : RegField := ⟨.kiln, 0x40, 7, 7, .ro, 0, true⟩
def Reg.MGT_STATUS_DAVALID : RegField := ⟨.kiln, 0x40, 14, 1, .ro, 0, true⟩
def Reg.MGT_STATUS_EID : RegField := ⟨.kiln, 0x40, 15, 8, .ro, 0, false⟩
def Reg.MGT_STATUS_UP : RegField := ⟨.kiln, 0x40, 23, 1, .ro, 0, false⟩

/-! `MGT_ID` (R506, 19_host_port_register_map.md) -/
def Reg.MGT_ID_IANA : RegField := ⟨.kiln, 0x44, 0, 32, .ro, 0, false⟩

/-! `MGT_EVENT` (R506, 19_host_port_register_map.md) -/
def Reg.MGT_EVENT_PEC : RegField := ⟨.kiln, 0x48, 0, 1, .w1c, 0, false⟩
def Reg.MGT_EVENT_DROP : RegField := ⟨.kiln, 0x48, 1, 1, .w1c, 0, false⟩
def Reg.MGT_EVENT_IBILOST : RegField := ⟨.kiln, 0x48, 2, 1, .w1c, 0, false⟩
def Reg.MGT_EVENT_WAKE : RegField := ⟨.kiln, 0x48, 3, 1, .w1c, 0, true⟩

/-! `MIR_LENS` (R506, 19_host_port_register_map.md) -/
def Reg.MIR_LENS_GROUP : RegField := ⟨.kiln, 0x80, 0, 5, .rw, 0, false⟩

/-! `BRU_STATUS` (R436, 16_charter_bringup.md) -/
def Reg.BRU_STATUS_STATE : RegField := ⟨.kiln, 0x800, 0, 3, .ro, 0, false⟩
def Reg.BRU_STATUS_CODE : RegField := ⟨.kiln, 0x800, 3, 8, .ro, 0, false⟩
def Reg.BRU_STATUS_CLASSH : RegField := ⟨.kiln, 0x800, 11, 1, .ro, 0, false⟩
def Reg.BRU_STATUS_UNPROV : RegField := ⟨.kiln, 0x800, 12, 1, .ro, 0, false⟩

/-! `BRU_TIME` (R436, 16_charter_bringup.md) -/
def Reg.BRU_TIME_US : RegField := ⟨.kiln, 0x804, 0, 32, .ro, 0, false⟩

/-! `BRU_DETAIL` (R436, 16_charter_bringup.md) -/
def Reg.BRU_DETAIL_DETAIL : RegField := ⟨.kiln, 0x808, 0, 32, .ro, 0, false⟩

/-! `CHR_SRC` (R436, 16_charter_bringup.md) -/
def Reg.CHR_SRC_ADDR : RegField := ⟨.kiln, 0x810, 6, 42, .rw, 0, false⟩

/-! `CHR_CTRL` (R436, 16_charter_bringup.md) -/
def Reg.CHR_CTRL_GO : RegField := ⟨.kiln, 0x818, 0, 1, .w1s, 0, false⟩
def Reg.CHR_CTRL_AMGO : RegField := ⟨.kiln, 0x818, 1, 1, .w1s, 0, false⟩

/-! `CHR_AMST` (R436, 16_charter_bringup.md) -/
def Reg.CHR_AMST_BUSY : RegField := ⟨.kiln, 0x81C, 0, 1, .ro, 0, false⟩
def Reg.CHR_AMST_RESULT : RegField := ⟨.kiln, 0x81C, 1, 2, .ro, 0, false⟩
def Reg.CHR_AMST_REASON : RegField := ⟨.kiln, 0x81C, 3, 4, .ro, 0, false⟩
def Reg.CHR_AMST_DROPPED : RegField := ⟨.kiln, 0x81C, 7, 1, .w1c, 0, false⟩

/-! `CHR_INFO` (R436, 16_charter_bringup.md) -/
def Reg.CHR_INFO_SERIAL : RegField := ⟨.kiln, 0x820, 0, 32, .rs, 0, false⟩
def Reg.CHR_INFO_MEKOR : RegField := ⟨.kiln, 0x820, 32, 32, .rs, 0, false⟩
def Reg.CHR_INFO_LENGTH : RegField := ⟨.kiln, 0x820, 64, 32, .rs, 0, false⟩
def Reg.CHR_INFO_AMSEQ : RegField := ⟨.kiln, 0x820, 96, 32, .rs, 0, false⟩
def Reg.CHR_INFO_EDIGEST : RegField := ⟨.kiln, 0x820, 128, 384, .rs, 0, false⟩

/-! `CHR_LOCK` (R436, 16_charter_bringup.md) -/
def Reg.CHR_LOCK_LOCKED : RegField := ⟨.kiln, 0x860, 0, 16, .ro, 0, false⟩
def Reg.CHR_LOCK_ALLOW : RegField := ⟨.kiln, 0x860, 16, 16, .ro, 0, false⟩

/-! `CHR_LQREQ` (R436, 16_charter_bringup.md) -/
def Reg.CHR_LQREQ_CLP : RegField := ⟨.kiln, 0x864, 0, 5, .rw, 0, false⟩
def Reg.CHR_LQREQ_GO : RegField := ⟨.kiln, 0x864, 8, 1, .w1s, 0, false⟩

/-! `CHR_LQPASS` (R436, 16_charter_bringup.md) -/
def Reg.CHR_LQPASS_CLP : RegField := ⟨.kiln, 0x868, 0, 32, .ro, 0, false⟩

/-! `CHR_LQFAIL` (R436, 16_charter_bringup.md) -/
def Reg.CHR_LQFAIL_CLP : RegField := ⟨.kiln, 0x86C, 0, 32, .ro, 0, false⟩

/-! `BRU_EVENT` (R436, 16_charter_bringup.md) -/
def Reg.BRU_EVENT_READY : RegField := ⟨.kiln, 0x870, 0, 1, .w1c, 0, false⟩
def Reg.BRU_EVENT_REFUSED : RegField := ⟨.kiln, 0x870, 1, 1, .w1c, 0, false⟩
def Reg.BRU_EVENT_AMEND : RegField := ⟨.kiln, 0x870, 2, 1, .w1c, 0, false⟩
def Reg.BRU_EVENT_AMREJ : RegField := ⟨.kiln, 0x870, 3, 1, .w1c, 0, false⟩
def Reg.BRU_EVENT_LQFAIL : RegField := ⟨.kiln, 0x870, 4, 1, .w1c, 0, false⟩
def Reg.BRU_EVENT_PSTFAIL : RegField := ⟨.kiln, 0x870, 5, 1, .w1c, 0, false⟩
def Reg.BRU_EVENT_GOBUSY : RegField := ⟨.kiln, 0x870, 6, 1, .w1c, 0, false⟩

/-! `BRU_PST` (R436, 16_charter_bringup.md) -/
def Reg.BRU_PST_FAILS : RegField := ⟨.kiln, 0x874, 0, 21, .ro, 0, false⟩

/-! `PWR_STATUS` (R463, 17_power_clocks_reset.md) -/
def Reg.PWR_STATUS_STATE : RegField := ⟨.kiln, 0x900, 0, 4, .ro, 0, true⟩
def Reg.PWR_STATUS_ONBK : RegField := ⟨.kiln, 0x900, 4, 1, .ro, 0, false⟩
def Reg.PWR_STATUS_HOLDOVER : RegField := ⟨.kiln, 0x900, 5, 1, .ro, 0, false⟩
def Reg.PWR_STATUS_TRANS : RegField := ⟨.kiln, 0x900, 6, 1, .ro, 0, false⟩
def Reg.PWR_STATUS_ONLATCH : RegField := ⟨.kiln, 0x900, 7, 1, .ro, 0, true⟩
def Reg.PWR_STATUS_PCREQ : RegField := ⟨.kiln, 0x900, 8, 1, .ro, 0, true⟩
def Reg.PWR_STATUS_ACKED : RegField := ⟨.kiln, 0x900, 9, 1, .ro, 0, true⟩

/-! `PWR_CTRL` (R463, 17_power_clocks_reset.md) -/
def Reg.PWR_CTRL_OFF : RegField := ⟨.kiln, 0x904, 0, 1, .w1s, 0, false⟩
def Reg.PWR_CTRL_ON : RegField := ⟨.kiln, 0x904, 1, 1, .w1s, 0, false⟩
def Reg.PWR_CTRL_PCREQ : RegField := ⟨.kiln, 0x904, 2, 1, .w1s, 0, false⟩

/-! `PWR_EVENT` (R463, 17_power_clocks_reset.md) -/
def Reg.PWR_EVENT_LOSS : RegField := ⟨.kiln, 0x908, 0, 1, .w1c, 0, true⟩
def Reg.PWR_EVENT_VBK : RegField := ⟨.kiln, 0x908, 1, 1, .w1c, 0, true⟩
def Reg.PWR_EVENT_HOLDOVER : RegField := ⟨.kiln, 0x908, 2, 1, .w1c, 0, true⟩
def Reg.PWR_EVENT_INCOMPLETE : RegField := ⟨.kiln, 0x908, 3, 1, .w1c, 0, true⟩
def Reg.PWR_EVENT_COLD : RegField := ⟨.kiln, 0x908, 4, 1, .w1c, 0, true⟩
def Reg.PWR_EVENT_BTNSTUCK : RegField := ⟨.kiln, 0x908, 5, 1, .w1c, 0, true⟩

/-! `PWR_HOLD` (R463, 17_power_clocks_reset.md) -/
def Reg.PWR_HOLD_US : RegField := ⟨.kiln, 0x910, 0, 64, .ro, 0, true⟩

/-! `PWR_TIME` (R463, 17_power_clocks_reset.md) -/
def Reg.PWR_TIME_TIME : RegField := ⟨.kiln, 0x920, 0, 76, .rs, 0, true⟩

/-! `BTN_STATUS` (R463, 17_power_clocks_reset.md) -/
def Reg.BTN_STATUS_PRESSED : RegField := ⟨.kiln, 0x930, 0, 1, .ro, 0, false⟩
def Reg.BTN_STATUS_STUCK : RegField := ⟨.kiln, 0x930, 1, 1, .ro, 0, true⟩

/-! `PWR_LASTLOSS` (R463, 17_power_clocks_reset.md) -/
def Reg.PWR_LASTLOSS_P0 : RegField := ⟨.kiln, 0x940, 0, 32, .rs, 0, true⟩
def Reg.PWR_LASTLOSS_P2 : RegField := ⟨.kiln, 0x940, 32, 32, .rs, 0, true⟩
def Reg.PWR_LASTLOSS_LOST : RegField := ⟨.kiln, 0x940, 64, 32, .rs, 0, true⟩
def Reg.PWR_LASTLOSS_SECS : RegField := ⟨.kiln, 0x940, 96, 32, .rs, 0, true⟩

/-! `FLT_BUCKET` (R218, 08_fault_collection.md) -/
def Reg.FLT_BUCKET_N : RegField := ⟨.kiln, 0x1000, 0, 4, .rwl, 8, false⟩
def Reg.FLT_BUCKET_WSEC : RegField := ⟨.kiln, 0x1000, 4, 12, .rwl, 10, false⟩

/-! `FLT_CTRL` (R218, 08_fault_collection.md) -/
def Reg.FLT_CTRL_L3HOLD : RegField := ⟨.kiln, 0x1004, 0, 16, .rwl, 1000, false⟩

/-! `FLT_PHASE` (R218, 08_fault_collection.md) -/
def Reg.FLT_PHASE_PHASE : RegField := ⟨.kiln, 0x1008, 0, 2, .rw, 0, false⟩

/-! `FLT_STATUS` (R218, 08_fault_collection.md) -/
def Reg.FLT_STATUS_PHASE : RegField := ⟨.kiln, 0x100C, 0, 2, .ro, 0, false⟩
def Reg.FLT_STATUS_SEALED : RegField := ⟨.kiln, 0x100C, 2, 1, .ro, 0, true⟩
def Reg.FLT_STATUS_L2OPEN : RegField := ⟨.kiln, 0x100C, 3, 1, .ro, 0, false⟩
def Reg.FLT_STATUS_QUEUED : RegField := ⟨.kiln, 0x100C, 4, 7, .ro, 0, false⟩
def Reg.FLT_STATUS_OPEN : RegField := ⟨.kiln, 0x100C, 11, 8, .ro, 0, false⟩

/-! `FLT_SEQ` (R218, 08_fault_collection.md) -/
def Reg.FLT_SEQ_NEXT : RegField := ⟨.kiln, 0x1010, 0, 32, .ro, 1, false⟩

/-! `FLT_ACK` (R218, 08_fault_collection.md) -/
def Reg.FLT_ACK_RID : RegField := ⟨.kiln, 0x1014, 0, 16, .rw, 0, false⟩

/-! `FLT_EVENT` (R218, 08_fault_collection.md) -/
def Reg.FLT_EVENT_L1 : RegField := ⟨.kiln, 0x1018, 0, 1, .w1c, 0, false⟩
def Reg.FLT_EVENT_L2 : RegField := ⟨.kiln, 0x1018, 1, 1, .w1c, 0, false⟩
def Reg.FLT_EVENT_ESC : RegField := ⟨.kiln, 0x1018, 2, 1, .w1c, 0, false⟩
def Reg.FLT_EVENT_QUEUED : RegField := ⟨.kiln, 0x1018, 3, 1, .w1c, 0, false⟩
def Reg.FLT_EVENT_QFULL : RegField := ⟨.kiln, 0x1018, 4, 1, .w1c, 0, false⟩
def Reg.FLT_EVENT_NFULL : RegField := ⟨.kiln, 0x1018, 5, 1, .w1c, 0, false⟩
def Reg.FLT_EVENT_ACKBAD : RegField := ⟨.kiln, 0x1018, 6, 1, .w1c, 0, false⟩
def Reg.FLT_EVENT_EVICT : RegField := ⟨.kiln, 0x1018, 7, 1, .w1c, 0, false⟩

/-! `FLT_NHEAD` (R218, 08_fault_collection.md) -/
def Reg.FLT_NHEAD_HEAD : RegField := ⟨.kiln, 0x1020, 0, 8, .ro, 0, false⟩

/-! `FLT_NTAIL` (R218, 08_fault_collection.md) -/
def Reg.FLT_NTAIL_TAIL : RegField := ⟨.kiln, 0x1024, 0, 8, .rw, 0, false⟩

/-! `FLT_FIRSTSEL` (R218, 08_fault_collection.md) -/
def Reg.FLT_FIRSTSEL_LEVEL : RegField := ⟨.kiln, 0x1028, 0, 2, .rw, 0, false⟩

/-! `FLT_FIRSTVAL` (R218, 08_fault_collection.md) -/
def Reg.FLT_FIRSTVAL_VALID : RegField := ⟨.kiln, 0x102C, 0, 4, .w1c, 0, false⟩

/-! `FLT_LOGSEL` (R218, 08_fault_collection.md) -/
def Reg.FLT_LOGSEL_INDEX : RegField := ⟨.kiln, 0x1030, 0, 12, .rw, 0, false⟩

/-! `FLT_RSEL` (R218, 08_fault_collection.md) -/
def Reg.FLT_RSEL_RID : RegField := ⟨.kiln, 0x1034, 0, 16, .rw, 0, false⟩

/-! `FLT_FIRST` (R218, 08_fault_collection.md) -/
def Reg.FLT_FIRST_ENTRY : RegField := ⟨.kiln, 0x1040, 0, 256, .rs, 0, false⟩

/-! `FLT_LOG` (R218, 08_fault_collection.md) -/
def Reg.FLT_LOG_ENTRY : RegField := ⟨.kiln, 0x1060, 0, 256, .rs, 0, false⟩

/-! `FLT_CNT0` (R218, 08_fault_collection.md) -/
def Reg.FLT_CNT0_COUNT : RegField := ⟨.kiln, 0x1080, 0, 64, .ro, 0, false⟩

/-! `FLT_CNT1` (R218, 08_fault_collection.md) -/
def Reg.FLT_CNT1_COUNT : RegField := ⟨.kiln, 0x1088, 0, 64, .ro, 0, false⟩

/-! `FLT_CNT2` (R218, 08_fault_collection.md) -/
def Reg.FLT_CNT2_COUNT : RegField := ⟨.kiln, 0x1090, 0, 64, .ro, 0, false⟩

/-! `FLT_CNT3` (R218, 08_fault_collection.md) -/
def Reg.FLT_CNT3_COUNT : RegField := ⟨.kiln, 0x1098, 0, 64, .ro, 0, false⟩

/-! `FLT_REACT` (R218, 08_fault_collection.md) -/
def Reg.FLT_REACT_RID : RegField := ⟨.kiln, 0x10A0, 0, 16, .rs, 0, false⟩
def Reg.FLT_REACT_LEVEL : RegField := ⟨.kiln, 0x10A0, 16, 2, .rs, 0, false⟩
def Reg.FLT_REACT_STATE : RegField := ⟨.kiln, 0x10A0, 18, 3, .rs, 0, false⟩
def Reg.FLT_REACT_SRC : RegField := ⟨.kiln, 0x10A0, 32, 32, .rs, 0, false⟩
def Reg.FLT_REACT_KIND : RegField := ⟨.kiln, 0x10A0, 64, 12, .rs, 0, false⟩
def Reg.FLT_REACT_FSEQ : RegField := ⟨.kiln, 0x10A0, 96, 32, .rs, 0, false⟩
def Reg.FLT_REACT_FOLIO : RegField := ⟨.kiln, 0x10A0, 128, 32, .rs, 0, false⟩
def Reg.FLT_REACT_MERGES : RegField := ⟨.kiln, 0x10A0, 160, 16, .rs, 0, false⟩

/-! `RCV_CTRL` (R242, 09_hang_recovery.md) -/
def Reg.RCV_CTRL_CTXHOLD : RegField := ⟨.kiln, 0x1100, 0, 16, .rwl, 2000, false⟩
def Reg.RCV_CTRL_REPLAYMS : RegField := ⟨.kiln, 0x1100, 16, 16, .rwl, 100, false⟩

/-! `RCV_ENGHOLD` (R242, 09_hang_recovery.md) -/
def Reg.RCV_ENGHOLD_HOLD : RegField := ⟨.kiln, 0x1104, 0, 32, .rwl, 50000, false⟩

/-! `RCV_PARTHOLD` (R242, 09_hang_recovery.md) -/
def Reg.RCV_PARTHOLD_HOLD : RegField := ⟨.kiln, 0x1108, 0, 32, .rwl, 500000, false⟩

/-! `RCV_CHIPHOLD` (R242, 09_hang_recovery.md) -/
def Reg.RCV_CHIPHOLD_HOLD : RegField := ⟨.kiln, 0x110C, 0, 32, .rwl, 5000000, false⟩

/-! `RCV_LADDER` (R242, 09_hang_recovery.md) -/
def Reg.RCV_LADDER_WINSEC : RegField := ⟨.kiln, 0x1110, 0, 16, .rwl, 10, false⟩

/-! `RCV_STATUS` (R242, 09_hang_recovery.md) -/
def Reg.RCV_STATUS_STATE : RegField := ⟨.kiln, 0x1114, 0, 2, .ro, 0, false⟩
def Reg.RCV_STATUS_RUNG : RegField := ⟨.kiln, 0x1114, 2, 3, .ro, 0, false⟩
def Reg.RCV_STATUS_NSUS : RegField := ⟨.kiln, 0x1114, 5, 6, .ro, 0, false⟩
def Reg.RCV_STATUS_CASE : RegField := ⟨.kiln, 0x1114, 16, 16, .ro, 0, false⟩

/-! `RCV_GRANT` (R242, 09_hang_recovery.md) -/
def Reg.RCV_GRANT_TENANT : RegField := ⟨.kiln, 0x1118, 0, 12, .ro, 0, false⟩
def Reg.RCV_GRANT_VALID : RegField := ⟨.kiln, 0x1118, 12, 1, .ro, 0, false⟩

/-! `RCV_SUSSEL` (R242, 09_hang_recovery.md) -/
def Reg.RCV_SUSSEL_INDEX : RegField := ⟨.kiln, 0x111C, 0, 6, .rw, 0, false⟩

/-! `RCV_SUS` (R242, 09_hang_recovery.md) -/
def Reg.RCV_SUS_TENANT : RegField := ⟨.kiln, 0x1120, 0, 12, .rs, 0, false⟩
def Reg.RCV_SUS_REGION : RegField := ⟨.kiln, 0x1120, 12, 11, .rs, 0, false⟩
def Reg.RCV_SUS_STATE : RegField := ⟨.kiln, 0x1120, 23, 3, .rs, 0, false⟩

/-! `RCV_EVENT` (R242, 09_hang_recovery.md) -/
def Reg.RCV_EVENT_CASE : RegField := ⟨.kiln, 0x1128, 0, 1, .w1c, 0, false⟩
def Reg.RCV_EVENT_CLRFAIL : RegField := ⟨.kiln, 0x1128, 1, 1, .w1c, 0, false⟩
def Reg.RCV_EVENT_ENGINE : RegField := ⟨.kiln, 0x1128, 2, 1, .w1c, 0, false⟩
def Reg.RCV_EVENT_PART : RegField := ⟨.kiln, 0x1128, 3, 1, .w1c, 0, false⟩
def Reg.RCV_EVENT_CHIP : RegField := ⟨.kiln, 0x1128, 4, 1, .w1c, 0, false⟩
def Reg.RCV_EVENT_POWER : RegField := ⟨.kiln, 0x1128, 5, 1, .w1c, 0, false⟩
def Reg.RCV_EVENT_GUILTY : RegField := ⟨.kiln, 0x1128, 6, 1, .w1c, 0, false⟩
def Reg.RCV_EVENT_INCONCL : RegField := ⟨.kiln, 0x1128, 7, 1, .w1c, 0, false⟩

/-! `RCV_LAST` (R242, 09_hang_recovery.md) -/
def Reg.RCV_LAST_CASE : RegField := ⟨.kiln, 0x1140, 0, 16, .rs, 0, false⟩
def Reg.RCV_LAST_RESULT : RegField := ⟨.kiln, 0x1140, 16, 3, .rs, 0, false⟩
def Reg.RCV_LAST_RUNG : RegField := ⟨.kiln, 0x1140, 19, 3, .rs, 0, false⟩
def Reg.RCV_LAST_NSUS : RegField := ⟨.kiln, 0x1140, 22, 6, .rs, 0, false⟩
def Reg.RCV_LAST_GUILTY : RegField := ⟨.kiln, 0x1140, 32, 12, .rs, 0, false⟩
def Reg.RCV_LAST_FSEQ : RegField := ⟨.kiln, 0x1140, 64, 32, .rs, 0, false⟩
def Reg.RCV_LAST_GTOPEN : RegField := ⟨.kiln, 0x1140, 96, 64, .rs, 0, false⟩
def Reg.RCV_LAST_GTDONE : RegField := ⟨.kiln, 0x1140, 160, 64, .rs, 0, false⟩

/-! `CCD_GCTRL` (R280, 10_concordance_protocol.md) -/
def Reg.CCD_GCTRL_DOLMODE : RegField := ⟨.kiln, 0x1200, 0, 1, .rwl, 0, false⟩
def Reg.CCD_GCTRL_EPTMO : RegField := ⟨.kiln, 0x1200, 1, 16, .rwl, 200, false⟩
def Reg.CCD_GCTRL_EPLAG : RegField := ⟨.kiln, 0x1200, 17, 4, .rwl, 1, false⟩
def Reg.CCD_GCTRL_DEPG : RegField := ⟨.kiln, 0x1200, 21, 4, .rwl, 1, false⟩

/-! `CCD_GID` (R280, 10_concordance_protocol.md) -/
def Reg.CCD_GID_ORD : RegField := ⟨.kiln, 0x1204, 0, 12, .ro, 0, false⟩

/-! `CCD_TPCTRL` (R280, 10_concordance_protocol.md) -/
def Reg.CCD_TPCTRL_TPPER : RegField := ⟨.kiln, 0x1208, 0, 16, .rwl, 1000, false⟩
def Reg.CCD_TPCTRL_TPMAX : RegField := ⟨.kiln, 0x1208, 16, 16, .rwl, 5000, false⟩

/-! `CCD_XREQ` (R280, 10_concordance_protocol.md) -/
def Reg.CCD_XREQ_OP : RegField := ⟨.kiln, 0x1210, 0, 2, .rw, 0, false⟩
def Reg.CCD_XREQ_CLP : RegField := ⟨.kiln, 0x1210, 2, 5, .rw, 0, false⟩
def Reg.CCD_XREQ_JOB : RegField := ⟨.kiln, 0x1210, 7, 32, .rw, 0, false⟩
def Reg.CCD_XREQ_SLICE : RegField := ⟨.kiln, 0x1210, 39, 12, .rw, 0, false⟩
def Reg.CCD_XREQ_NEWCLP : RegField := ⟨.kiln, 0x1210, 51, 5, .rw, 0, false⟩
def Reg.CCD_XREQ_WITHDRAW : RegField := ⟨.kiln, 0x1210, 56, 1, .rw, 0, false⟩

/-! `CCD_XREQST` (R280, 10_concordance_protocol.md) -/
def Reg.CCD_XREQST_BUSY : RegField := ⟨.kiln, 0x1218, 0, 1, .ro, 0, false⟩
def Reg.CCD_XREQST_RESULT : RegField := ⟨.kiln, 0x1218, 1, 3, .ro, 0, false⟩
def Reg.CCD_XREQST_DROPPED : RegField := ⟨.kiln, 0x1218, 4, 1, .w1c, 0, false⟩

/-! `CCD_XREQNUM` (R280, 10_concordance_protocol.md) -/
def Reg.CCD_XREQNUM_NUMBER : RegField := ⟨.kiln, 0x121C, 0, 32, .ro, 0, false⟩

/-! `CCD_GUP` (R280, 10_concordance_protocol.md) -/
def Reg.CCD_GUP_CLP : RegField := ⟨.kiln, 0x1220, 0, 32, .ro, 0, false⟩

/-! `CCD_GDISP` (R280, 10_concordance_protocol.md) -/
def Reg.CCD_GDISP_CLP : RegField := ⟨.kiln, 0x1224, 0, 32, .ro, 0, false⟩

/-! `VLT_ID` (R367, 13_vault_security.md) -/
def Reg.VLT_ID_DESIGN : RegField := ⟨.kiln, 0x100000, 0, 16, .ro, 770, false⟩

/-! `VLT_STATUS` (R367, 13_vault_security.md) -/
def Reg.VLT_STATUS_STATE : RegField := ⟨.kiln, 0x100004, 0, 3, .ro, 0, false⟩
def Reg.VLT_STATUS_ERRCODE : RegField := ⟨.kiln, 0x100004, 3, 8, .ro, 0, false⟩
def Reg.VLT_STATUS_ERRKIND : RegField := ⟨.kiln, 0x100004, 11, 2, .ro, 0, false⟩
def Reg.VLT_STATUS_QUEUE : RegField := ⟨.kiln, 0x100004, 13, 6, .ro, 0, false⟩
def Reg.VLT_STATUS_BLOB : RegField := ⟨.kiln, 0x100004, 19, 2, .ro, 0, true⟩

/-! `VLT_CTRL` (R367, 13_vault_security.md) -/
def Reg.VLT_CTRL_PERIOD : RegField := ⟨.kiln, 0x100008, 0, 8, .rwl, 24, false⟩
def Reg.VLT_CTRL_NONCETTL : RegField := ⟨.kiln, 0x100008, 8, 8, .rwl, 60, false⟩
def Reg.VLT_CTRL_STNOW : RegField := ⟨.kiln, 0x100008, 16, 1, .w1s, 0, false⟩

/-! `VLT_EVENT` (R367, 13_vault_security.md) -/
def Reg.VLT_EVENT_TOKOK : RegField := ⟨.kiln, 0x10000C, 0, 1, .w1c, 0, false⟩
def Reg.VLT_EVENT_TOKREJ : RegField := ⟨.kiln, 0x10000C, 1, 1, .w1c, 0, false⟩
def Reg.VLT_EVENT_HEALTH1 : RegField := ⟨.kiln, 0x10000C, 2, 1, .w1c, 0, false⟩
def Reg.VLT_EVENT_PERIODIC : RegField := ⟨.kiln, 0x10000C, 3, 1, .w1c, 0, false⟩
def Reg.VLT_EVENT_ZEROISED : RegField := ⟨.kiln, 0x10000C, 4, 1, .w1c, 0, false⟩
def Reg.VLT_EVENT_PROVISIONED : RegField := ⟨.kiln, 0x10000C, 5, 1, .w1c, 0, false⟩
def Reg.VLT_EVENT_TALLYKEY : RegField := ⟨.kiln, 0x10000C, 6, 1, .w1c, 0, false⟩

/-! `VLT_DEVID` (R367, 13_vault_security.md) -/
def Reg.VLT_DEVID_DEVID : RegField := ⟨.kiln, 0x100010, 0, 128, .ro, 0, false⟩

/-! `VLT_NONCE_REQ` (R367, 13_vault_security.md) -/
def Reg.VLT_NONCE_REQ_SERVICE : RegField := ⟨.kiln, 0x100020, 0, 8, .rw, 0, false⟩

/-! `VLT_NONCE` (R367, 13_vault_security.md) -/
def Reg.VLT_NONCE_NONCE : RegField := ⟨.kiln, 0x100028, 0, 128, .rs, 0, false⟩
def Reg.VLT_NONCE_SLOT : RegField := ⟨.kiln, 0x100028, 128, 2, .rs, 0, false⟩

/-! `VLT_TOKGO` (R367, 13_vault_security.md) -/
def Reg.VLT_TOKGO_GO : RegField := ⟨.kiln, 0x100040, 0, 1, .w1s, 0, false⟩

/-! `VLT_TOKST` (R367, 13_vault_security.md) -/
def Reg.VLT_TOKST_BUSY : RegField := ⟨.kiln, 0x100044, 0, 1, .ro, 0, false⟩
def Reg.VLT_TOKST_RESULT : RegField := ⟨.kiln, 0x100044, 1, 2, .ro, 0, false⟩
def Reg.VLT_TOKST_REASON : RegField := ⟨.kiln, 0x100044, 3, 4, .ro, 0, false⟩
def Reg.VLT_TOKST_DROPPED : RegField := ⟨.kiln, 0x100044, 7, 1, .w1c, 0, false⟩
def Reg.VLT_TOKST_APPROVED : RegField := ⟨.kiln, 0x100044, 8, 1, .ro, 0, false⟩

/-! `VLT_KSEL` (R367, 13_vault_security.md) -/
def Reg.VLT_KSEL_HANDLE : RegField := ⟨.kiln, 0x100050, 0, 16, .rw, 0, false⟩

/-! `VLT_KEY` (R367, 13_vault_security.md) -/
def Reg.VLT_KEY_STATE : RegField := ⟨.kiln, 0x100058, 0, 2, .rs, 0, false⟩
def Reg.VLT_KEY_GEN : RegField := ⟨.kiln, 0x100058, 32, 32, .rs, 0, false⟩
def Reg.VLT_KEY_USES : RegField := ⟨.kiln, 0x100058, 64, 64, .rs, 0, false⟩

/-! `VLT_RAW` (R367, 13_vault_security.md) -/
def Reg.VLT_RAW_SAMPLES : RegField := ⟨.kiln, 0x100070, 0, 64, .rs, 0, false⟩

/-! `VLT_STCNT` (R367, 13_vault_security.md) -/
def Reg.VLT_STCNT_COUNT : RegField := ⟨.kiln, 0x100080, 0, 32, .ro, 0, false⟩

/-! `STK_CTRL` (R389, 14_stacker_dma.md) -/
def Reg.STK_CTRL_EN : RegField := ⟨.kiln, 0x140000, 0, 1, .rw, 1, false⟩
def Reg.STK_CTRL_CLRHALT : RegField := ⟨.kiln, 0x140000, 1, 1, .w1s, 0, false⟩

/-! `STK_STATUS` (R389, 14_stacker_dma.md) -/
def Reg.STK_STATUS_HALTED : RegField := ⟨.kiln, 0x140004, 0, 1, .ro, 0, false⟩
def Reg.STK_STATUS_HCH : RegField := ⟨.kiln, 0x140004, 1, 5, .ro, 0, false⟩
def Reg.STK_STATUS_HCAUSE : RegField := ⟨.kiln, 0x140004, 6, 3, .ro, 0, false⟩
def Reg.STK_STATUS_INFLIGHT : RegField := ⟨.kiln, 0x140004, 9, 7, .ro, 0, false⟩

/-! `STK_HALTADDR` (R389, 14_stacker_dma.md) -/
def Reg.STK_HALTADDR_ADDR : RegField := ⟨.kiln, 0x140008, 0, 48, .ro, 0, false⟩
def Reg.STK_HALTADDR_TAG : RegField := ⟨.kiln, 0x140008, 48, 8, .ro, 0, false⟩

/-! `STK_EVENT` (R389, 14_stacker_dma.md) -/
def Reg.STK_EVENT_BUSERR : RegField := ⟨.kiln, 0x140010, 0, 1, .w1c, 0, false⟩
def Reg.STK_EVENT_DESCERR : RegField := ⟨.kiln, 0x140010, 1, 1, .w1c, 0, false⟩
def Reg.STK_EVENT_DROP : RegField := ⟨.kiln, 0x140010, 2, 1, .w1c, 0, false⟩
def Reg.STK_EVENT_DISABLED : RegField := ⟨.kiln, 0x140010, 3, 1, .w1c, 0, false⟩
def Reg.STK_EVENT_MISMATCH : RegField := ⟨.kiln, 0x140010, 4, 1, .w1c, 0, false⟩
def Reg.STK_EVENT_GOBUSY : RegField := ⟨.kiln, 0x140010, 5, 1, .w1c, 0, false⟩

/-! `STK_BUSY` (R389, 14_stacker_dma.md) -/
def Reg.STK_BUSY_CH : RegField := ⟨.kiln, 0x140014, 0, 32, .ro, 0, false⟩

/-! `SNS_CTRL` (R339, 12_energy_thermal_tally.md) -/
def Reg.SNS_CTRL_EN : RegField := ⟨.kiln, 0x1C0000, 0, 8, .rwl, 0, false⟩

/-! `SNS_PERIOD` (R339, 12_energy_thermal_tally.md) -/
def Reg.SNS_PERIOD_PERIOD : RegField := ⟨.kiln, 0x1C0004, 0, 20, .rwl, 31250, false⟩

/-! `SNS_STATUS` (R339, 12_energy_thermal_tally.md) -/
def Reg.SNS_STATUS_STATE : RegField := ⟨.kiln, 0x1C0008, 0, 24, .ro, 0, false⟩
def Reg.SNS_STATUS_ANCH : RegField := ⟨.kiln, 0x1C0008, 24, 8, .ro, 0, false⟩

/-! `SNS_EVENT` (R339, 12_energy_thermal_tally.md) -/
def Reg.SNS_EVENT_OPEN : RegField := ⟨.kiln, 0x1C000C, 0, 8, .w1c, 0, false⟩
def Reg.SNS_EVENT_OVER : RegField := ⟨.kiln, 0x1C000C, 8, 8, .w1c, 0, false⟩
def Reg.SNS_EVENT_FAR : RegField := ⟨.kiln, 0x1C000C, 16, 1, .w1c, 0, false⟩

/-! `SNS_CHSEL` (R339, 12_energy_thermal_tally.md) -/
def Reg.SNS_CHSEL_CH : RegField := ⟨.kiln, 0x1C0010, 0, 3, .rw, 0, false⟩

/-! `SNS_CH` (R339, 12_energy_thermal_tally.md) -/
def Reg.SNS_CH_VSH : RegField := ⟨.kiln, 0x1C0018, 0, 16, .rs, 0, false⟩
def Reg.SNS_CH_VBUS : RegField := ⟨.kiln, 0x1C0018, 16, 16, .rs, 0, false⟩
def Reg.SNS_CH_EPER : RegField := ⟨.kiln, 0x1C0018, 32, 32, .rs, 0, false⟩
def Reg.SNS_CH_K : RegField := ⟨.kiln, 0x1C0018, 64, 32, .rs, 0, false⟩
def Reg.SNS_CH_KBAR : RegField := ⟨.kiln, 0x1C0018, 96, 32, .rs, 1048576, false⟩
def Reg.SNS_CH_STATE : RegField := ⟨.kiln, 0x1C0018, 128, 3, .rs, 0, false⟩
def Reg.SNS_CH_PASSES : RegField := ⟨.kiln, 0x1C0018, 131, 2, .rs, 0, false⟩
def Reg.SNS_CH_OPENCNT : RegField := ⟨.kiln, 0x1C0018, 133, 32, .rs, 0, false⟩

/-! `TLY_CTRL` (R339, 12_energy_thermal_tally.md) -/
def Reg.TLY_CTRL_PERIODMS : RegField := ⟨.kiln, 0x1C0100, 0, 16, .rwl, 1000, false⟩
def Reg.TLY_CTRL_BATCHMS : RegField := ⟨.kiln, 0x1C0100, 16, 15, .rwl, 1000, false⟩
def Reg.TLY_CTRL_CLOSE : RegField := ⟨.kiln, 0x1C0100, 31, 1, .w1s, 0, false⟩

/-! `TLY_STATUS` (R339, 12_energy_thermal_tally.md) -/
def Reg.TLY_STATUS_SWBUSY : RegField := ⟨.kiln, 0x1C0104, 0, 1, .ro, 0, false⟩
def Reg.TLY_STATUS_NOSIGN : RegField := ⟨.kiln, 0x1C0104, 1, 1, .ro, 0, false⟩
def Reg.TLY_STATUS_QUEUE : RegField := ⟨.kiln, 0x1C0104, 2, 9, .ro, 0, false⟩
def Reg.TLY_STATUS_BANK : RegField := ⟨.kiln, 0x1C0104, 11, 1, .ro, 0, true⟩

/-! `TLY_SWNUM` (R339, 12_energy_thermal_tally.md) -/
def Reg.TLY_SWNUM_NEXT : RegField := ⟨.kiln, 0x1C0108, 0, 32, .ro, 1, true⟩

/-! `TLY_EVENT` (R339, 12_energy_thermal_tally.md) -/
def Reg.TLY_EVENT_DISCARD : RegField := ⟨.kiln, 0x1C010C, 0, 1, .w1c, 0, false⟩
def Reg.TLY_EVENT_GAP : RegField := ⟨.kiln, 0x1C010C, 1, 1, .w1c, 0, false⟩
def Reg.TLY_EVENT_QFULL : RegField := ⟨.kiln, 0x1C010C, 2, 1, .w1c, 0, false⟩
def Reg.TLY_EVENT_RINGWAIT : RegField := ⟨.kiln, 0x1C010C, 3, 1, .w1c, 0, false⟩

/-! `TLY_LAST` (R339, 12_energy_thermal_tally.md) -/
def Reg.TLY_LAST_SWEEP : RegField := ⟨.kiln, 0x1C0110, 0, 32, .rs, 0, false⟩
def Reg.TLY_LAST_COMPLETE : RegField := ⟨.kiln, 0x1C0110, 32, 1, .rs, 0, false⟩
def Reg.TLY_LAST_SINGLE : RegField := ⟨.kiln, 0x1C0110, 33, 1, .rs, 0, false⟩
def Reg.TLY_LAST_TENANT : RegField := ⟨.kiln, 0x1C0110, 34, 12, .rs, 0, false⟩
def Reg.TLY_LAST_CAUSE : RegField := ⟨.kiln, 0x1C0110, 46, 3, .rs, 0, false⟩
def Reg.TLY_LAST_T : RegField := ⟨.kiln, 0x1C0110, 64, 64, .rs, 0, false⟩

/-! `TLY_RHEAD` (R339, 12_energy_thermal_tally.md) -/
def Reg.TLY_RHEAD_OFFSET : RegField := ⟨.kiln, 0x1C0120, 0, 32, .ro, 0, false⟩

/-! `TLY_RTAIL` (R339, 12_energy_thermal_tally.md) -/
def Reg.TLY_RTAIL_OFFSET : RegField := ⟨.kiln, 0x1C0124, 0, 32, .rw, 0, false⟩

/-! `TLY_BATCHNUM` (R339, 12_energy_thermal_tally.md) -/
def Reg.TLY_BATCHNUM_BATCH : RegField := ⟨.kiln, 0x1C0128, 0, 32, .ro, 0, false⟩

/-! `LDG_STATUS` (R410, 15_ledger_event_recorder.md) -/
def Reg.LDG_STATUS_UNSEALED : RegField := ⟨.kiln, 0x200000, 0, 1, .ro, 0, false⟩
def Reg.LDG_STATUS_WRAPPED : RegField := ⟨.kiln, 0x200000, 1, 1, .ro, 0, true⟩
def Reg.LDG_STATUS_CLEARING : RegField := ⟨.kiln, 0x200000, 2, 1, .ro, 0, true⟩
def Reg.LDG_STATUS_OPENREC : RegField := ⟨.kiln, 0x200000, 3, 9, .ro, 0, false⟩
def Reg.LDG_STATUS_BUF : RegField := ⟨.kiln, 0x200000, 12, 7, .ro, 0, true⟩
def Reg.LDG_STATUS_STAGE : RegField := ⟨.kiln, 0x200000, 19, 11, .ro, 0, false⟩
def Reg.LDG_STATUS_FOLD : RegField := ⟨.kiln, 0x200000, 30, 1, .ro, 0, false⟩

/-! `LDG_OPEN` (R410, 15_ledger_event_recorder.md) -/
def Reg.LDG_OPEN_PAGENUM : RegField := ⟨.kiln, 0x200004, 0, 32, .ro, 0, true⟩

/-! `LDG_OLDEST` (R410, 15_ledger_event_recorder.md) -/
def Reg.LDG_OLDEST_PAGENUM : RegField := ⟨.kiln, 0x200008, 0, 32, .ro, 0, true⟩

/-! `LDG_LASTSEAL` (R410, 15_ledger_event_recorder.md) -/
def Reg.LDG_LASTSEAL_PAGENUM : RegField := ⟨.kiln, 0x20000C, 0, 32, .ro, 0, true⟩

/-! `LDG_CTRL` (R410, 15_ledger_event_recorder.md) -/
def Reg.LDG_CTRL_FLUSH : RegField := ⟨.kiln, 0x200010, 0, 1, .w1s, 0, false⟩
def Reg.LDG_CTRL_DDR : RegField := ⟨.kiln, 0x200010, 1, 1, .rwl, 1, false⟩

/-! `LDG_EVENT` (R410, 15_ledger_event_recorder.md) -/
def Reg.LDG_EVENT_LOST : RegField := ⟨.kiln, 0x200014, 0, 1, .w1c, 0, false⟩
def Reg.LDG_EVENT_WRAP : RegField := ⟨.kiln, 0x200014, 1, 1, .w1c, 0, false⟩
def Reg.LDG_EVENT_FLSERR : RegField := ⟨.kiln, 0x200014, 2, 1, .w1c, 0, false⟩
def Reg.LDG_EVENT_RECOVERED : RegField := ⟨.kiln, 0x200014, 3, 1, .w1c, 0, false⟩
def Reg.LDG_EVENT_UNSEALED : RegField := ⟨.kiln, 0x200014, 4, 1, .w1c, 0, false⟩
def Reg.LDG_EVENT_CLEARED : RegField := ⟨.kiln, 0x200014, 5, 1, .w1c, 0, false⟩
def Reg.LDG_EVENT_VERIFYFAIL : RegField := ⟨.kiln, 0x200014, 6, 1, .w1c, 0, false⟩
def Reg.LDG_EVENT_APPENDBAD : RegField := ⟨.kiln, 0x200014, 7, 1, .w1c, 0, false⟩

/-! `LDG_LOSTCNT` (R410, 15_ledger_event_recorder.md) -/
def Reg.LDG_LOSTCNT_COUNT : RegField := ⟨.kiln, 0x200018, 0, 32, .ro, 0, false⟩

/-! `LDG_RDPAGE` (R410, 15_ledger_event_recorder.md) -/
def Reg.LDG_RDPAGE_PAGENUM : RegField := ⟨.kiln, 0x200020, 0, 32, .rw, 0, false⟩
def Reg.LDG_RDPAGE_VERIFY : RegField := ⟨.kiln, 0x200020, 32, 1, .rw, 0, false⟩

/-! `LDG_RDST` (R410, 15_ledger_event_recorder.md) -/
def Reg.LDG_RDST_BUSY : RegField := ⟨.kiln, 0x200028, 0, 1, .ro, 0, false⟩
def Reg.LDG_RDST_RESULT : RegField := ⟨.kiln, 0x200028, 1, 2, .ro, 0, false⟩
def Reg.LDG_RDST_SEALCHK : RegField := ⟨.kiln, 0x200028, 3, 2, .ro, 0, false⟩
def Reg.LDG_RDST_DROPPED : RegField := ⟨.kiln, 0x200028, 5, 1, .w1c, 0, false⟩

/-! `LDG_APPEND` (R410, 15_ledger_event_recorder.md) -/
def Reg.LDG_APPEND_CODE : RegField := ⟨.kiln, 0x200030, 0, 16, .rw, 0, false⟩

/-! `LDG_AP0` (R410, 15_ledger_event_recorder.md) -/
def Reg.LDG_AP0_P : RegField := ⟨.kiln, 0x200034, 0, 32, .rw, 0, false⟩

/-! `LDG_AP1` (R410, 15_ledger_event_recorder.md) -/
def Reg.LDG_AP1_P : RegField := ⟨.kiln, 0x200038, 0, 32, .rw, 0, false⟩

/-! `LDG_AP2` (R410, 15_ledger_event_recorder.md) -/
def Reg.LDG_AP2_P : RegField := ⟨.kiln, 0x20003C, 0, 32, .rw, 0, false⟩

/-! `LDG_FLASH` (R410, 15_ledger_event_recorder.md) -/
def Reg.LDG_FLASH_SIZEMIB : RegField := ⟨.kiln, 0x200040, 0, 16, .ro, 0, false⟩
def Reg.LDG_FLASH_OK : RegField := ⟨.kiln, 0x200040, 16, 1, .ro, 0, false⟩

/-! `DBG_GSCTRL` (R484, 18_debug_trace.md) -/
def Reg.DBG_GSCTRL_STOP : RegField := ⟨.kiln, 0x204000, 0, 1, .w1s, 0, false⟩
def Reg.DBG_GSCTRL_RELEASE : RegField := ⟨.kiln, 0x204000, 1, 1, .w1s, 0, false⟩
def Reg.DBG_GSCTRL_EXTEN : RegField := ⟨.kiln, 0x204000, 2, 1, .rwl, 0, false⟩

/-! `DBG_GSSTATUS` (R484, 18_debug_trace.md) -/
def Reg.DBG_GSSTATUS_STOPPED : RegField := ⟨.kiln, 0x204004, 0, 1, .ro, 0, false⟩
def Reg.DBG_GSSTATUS_SOURCE : RegField := ⟨.kiln, 0x204004, 1, 4, .ro, 0, false⟩
def Reg.DBG_GSSTATUS_SETTLED : RegField := ⟨.kiln, 0x204004, 5, 1, .ro, 0, false⟩
def Reg.DBG_GSSTATUS_PIN : RegField := ⟨.kiln, 0x204004, 6, 1, .ro, 0, false⟩

/-! `DBG_GSTRIG` (R484, 18_debug_trace.md) -/
def Reg.DBG_GSTRIG_KIND : RegField := ⟨.kiln, 0x204008, 0, 12, .rw, 0, false⟩
def Reg.DBG_GSTRIG_KINDEN : RegField := ⟨.kiln, 0x204008, 12, 1, .rw, 0, false⟩
def Reg.DBG_GSTRIG_LEVEL : RegField := ⟨.kiln, 0x204008, 13, 2, .rw, 1, false⟩
def Reg.DBG_GSTRIG_LEVELEN : RegField := ⟨.kiln, 0x204008, 15, 1, .rw, 0, false⟩

/-! `DBG_GSTIME` (R484, 18_debug_trace.md) -/
def Reg.DBG_GSTIME_GT : RegField := ⟨.kiln, 0x204010, 0, 64, .ro, 0, false⟩

/-! `DBG_GSREL` (R484, 18_debug_trace.md) -/
def Reg.DBG_GSREL_GT : RegField := ⟨.kiln, 0x204018, 0, 64, .ro, 0, false⟩

/-! `DBG_EVSEL` (R484, 18_debug_trace.md) -/
def Reg.DBG_EVSEL_EV : RegField := ⟨.kiln, 0x204020, 0, 32, .rw, 0, false⟩

/-! `DBG_UNLOCK` (R484, 18_debug_trace.md) -/
def Reg.DBG_UNLOCK_SECS : RegField := ⟨.kiln, 0x204024, 0, 32, .ro, 0, false⟩

/-! `DBG_TRBASE` (R484, 18_debug_trace.md) -/
def Reg.DBG_TRBASE_BASE : RegField := ⟨.kiln, 0x204030, 12, 36, .rwl, 0, false⟩

/-! `DBG_TRSIZE` (R484, 18_debug_trace.md) -/
def Reg.DBG_TRSIZE_LOG2 : RegField := ⟨.kiln, 0x204038, 0, 5, .rwl, 16, false⟩

/-! `DBG_TRHEAD` (R484, 18_debug_trace.md) -/
def Reg.DBG_TRHEAD_OFFSET : RegField := ⟨.kiln, 0x20403C, 0, 32, .ro, 0, false⟩

/-! `DBG_TRTAIL` (R484, 18_debug_trace.md) -/
def Reg.DBG_TRTAIL_OFFSET : RegField := ⟨.kiln, 0x204040, 0, 32, .rw, 0, false⟩

/-! `DBG_TRCTRL` (R484, 18_debug_trace.md) -/
def Reg.DBG_TRCTRL_EN : RegField := ⟨.kiln, 0x204044, 0, 1, .rw, 0, false⟩
def Reg.DBG_TRCTRL_DRAIN : RegField := ⟨.kiln, 0x204044, 1, 1, .w1s, 0, false⟩
def Reg.DBG_TRCTRL_TPEN : RegField := ⟨.kiln, 0x204044, 2, 1, .rw, 0, false⟩

/-! `DBG_TRSTATUS` (R484, 18_debug_trace.md) -/
def Reg.DBG_TRSTATUS_BADRING : RegField := ⟨.kiln, 0x204048, 0, 1, .ro, 0, false⟩
def Reg.DBG_TRSTATUS_WAIT : RegField := ⟨.kiln, 0x204048, 1, 1, .ro, 0, false⟩
def Reg.DBG_TRSTATUS_PEND : RegField := ⟨.kiln, 0x204048, 2, 11, .ro, 0, false⟩

/-! `DBG_EVENT` (R484, 18_debug_trace.md) -/
def Reg.DBG_EVENT_STOP : RegField := ⟨.kiln, 0x20404C, 0, 1, .w1c, 0, false⟩
def Reg.DBG_EVENT_RELEASE : RegField := ⟨.kiln, 0x20404C, 1, 1, .w1c, 0, false⟩
def Reg.DBG_EVENT_RELBLOCK : RegField := ⟨.kiln, 0x20404C, 2, 1, .w1c, 0, false⟩
def Reg.DBG_EVENT_RINGWAIT : RegField := ⟨.kiln, 0x20404C, 3, 1, .w1c, 0, false⟩
def Reg.DBG_EVENT_BADRING : RegField := ⟨.kiln, 0x20404C, 4, 1, .w1c, 0, false⟩
def Reg.DBG_EVENT_UNLOCK : RegField := ⟨.kiln, 0x20404C, 5, 1, .w1c, 0, false⟩

/-! `FOLIO_CTRL` (R193, 07_folio_transactions.md) -/
def Reg.FOLIO_CTRL_LEAD : RegField := ⟨.kiln, 0x300000, 0, 16, .rwl, 2000, false⟩
def Reg.FOLIO_CTRL_XLEAD : RegField := ⟨.kiln, 0x300000, 16, 16, .rwl, 10000, false⟩

/-! `FOLIO_STATUS` (R193, 07_folio_transactions.md) -/
def Reg.FOLIO_STATUS_OPEN : RegField := ⟨.kiln, 0x300004, 0, 7, .ro, 0, false⟩
def Reg.FOLIO_STATUS_QUEUED : RegField := ⟨.kiln, 0x300004, 7, 8, .ro, 0, false⟩
def Reg.FOLIO_STATUS_PAUSED : RegField := ⟨.kiln, 0x300004, 15, 1, .ro, 0, false⟩
def Reg.FOLIO_STATUS_BEHIND : RegField := ⟨.kiln, 0x300004, 16, 11, .ro, 0, false⟩

/-! `FOLIO_NEXT` (R193, 07_folio_transactions.md) -/
def Reg.FOLIO_NEXT_NUMBER : RegField := ⟨.kiln, 0x300008, 0, 32, .ro, 1, false⟩

/-! `FOLIO_EVENT` (R193, 07_folio_transactions.md) -/
def Reg.FOLIO_EVENT_VOID : RegField := ⟨.kiln, 0x30000C, 0, 1, .w1c, 0, false⟩
def Reg.FOLIO_EVENT_TIMEOUT : RegField := ⟨.kiln, 0x30000C, 1, 1, .w1c, 0, false⟩
def Reg.FOLIO_EVENT_LATE : RegField := ⟨.kiln, 0x30000C, 2, 1, .w1c, 0, false⟩
def Reg.FOLIO_EVENT_BEHIND : RegField := ⟨.kiln, 0x30000C, 3, 1, .w1c, 0, false⟩
def Reg.FOLIO_EVENT_CATCHFAIL : RegField := ⟨.kiln, 0x30000C, 4, 1, .w1c, 0, false⟩
def Reg.FOLIO_EVENT_BUSY : RegField := ⟨.kiln, 0x30000C, 5, 1, .w1c, 0, false⟩
def Reg.FOLIO_EVENT_XVOID : RegField := ⟨.kiln, 0x30000C, 6, 1, .w1c, 0, false⟩
def Reg.FOLIO_EVENT_TRESET : RegField := ⟨.kiln, 0x30000C, 7, 1, .w1c, 0, false⟩

/-! `FOLIO_SEALED` (R193, 07_folio_transactions.md) -/
def Reg.FOLIO_SEALED_COUNT : RegField := ⟨.kiln, 0x300010, 0, 64, .ro, 0, false⟩

/-! `FOLIO_VOIDED` (R193, 07_folio_transactions.md) -/
def Reg.FOLIO_VOIDED_COUNT : RegField := ⟨.kiln, 0x300018, 0, 64, .ro, 0, false⟩

/-! `FOLIO_SEL` (R193, 07_folio_transactions.md) -/
def Reg.FOLIO_SEL_NUMBER : RegField := ⟨.kiln, 0x300020, 0, 32, .rw, 0, false⟩

/-! `FOLIO_LOG` (R193, 07_folio_transactions.md) -/
def Reg.FOLIO_LOG_HEADER : RegField := ⟨.kiln, 0x300040, 0, 512, .rs, 0, false⟩

/-! `FOLIO_TREQ` (R193, 07_folio_transactions.md) -/
def Reg.FOLIO_TREQ_TENANT : RegField := ⟨.kiln, 0x300080, 0, 12, .rw, 0, false⟩

/-! `FOLIO_TREQST` (R193, 07_folio_transactions.md) -/
def Reg.FOLIO_TREQST_BUSY : RegField := ⟨.kiln, 0x300084, 0, 1, .ro, 0, false⟩
def Reg.FOLIO_TREQST_RESULT : RegField := ⟨.kiln, 0x300084, 1, 2, .ro, 0, false⟩
def Reg.FOLIO_TREQST_DROPPED : RegField := ⟨.kiln, 0x300084, 3, 1, .w1c, 0, false⟩

/-! `FOLIO_TREQNUM` (R193, 07_folio_transactions.md) -/
def Reg.FOLIO_TREQNUM_NUMBER : RegField := ⟨.kiln, 0x300088, 0, 32, .ro, 0, false⟩

/-! `CAT_REQ` (R167, 06_catalogue_gap_quench.md) -/
def Reg.CAT_REQ_OP : RegField := ⟨.kiln, 0x340000, 0, 3, .rw, 0, false⟩
def Reg.CAT_REQ_X : RegField := ⟨.kiln, 0x340000, 3, 11, .rw, 0, false⟩
def Reg.CAT_REQ_Y : RegField := ⟨.kiln, 0x340000, 14, 11, .rw, 0, false⟩
def Reg.CAT_REQ_COUNT : RegField := ⟨.kiln, 0x340000, 25, 5, .rw, 0, false⟩
def Reg.CAT_REQ_TENANT : RegField := ⟨.kiln, 0x340000, 30, 12, .rw, 0, false⟩

/-! `CAT_REQST` (R167, 06_catalogue_gap_quench.md) -/
def Reg.CAT_REQST_BUSY : RegField := ⟨.kiln, 0x340008, 0, 1, .ro, 0, false⟩
def Reg.CAT_REQST_RESULT : RegField := ⟨.kiln, 0x340008, 1, 3, .ro, 0, false⟩
def Reg.CAT_REQST_DROPPED : RegField := ⟨.kiln, 0x340008, 4, 1, .w1c, 0, false⟩

/-! `CAT_REQFOLIO` (R167, 06_catalogue_gap_quench.md) -/
def Reg.CAT_REQFOLIO_FOLIO : RegField := ⟨.kiln, 0x34000C, 0, 32, .ro, 0, false⟩

/-! `CAT_SEL` (R167, 06_catalogue_gap_quench.md) -/
def Reg.CAT_SEL_REGION : RegField := ⟨.kiln, 0x340010, 0, 11, .rw, 0, false⟩
def Reg.CAT_SEL_COL : RegField := ⟨.kiln, 0x340010, 11, 5, .rw, 0, false⟩
def Reg.CAT_SEL_ROW : RegField := ⟨.kiln, 0x340010, 16, 6, .rw, 0, false⟩

/-! `CAT_COL` (R167, 06_catalogue_gap_quench.md) -/
def Reg.CAT_COL_RECORD : RegField := ⟨.kiln, 0x340018, 0, 64, .rs, 0, false⟩

/-! `CAT_POS` (R167, 06_catalogue_gap_quench.md) -/
def Reg.CAT_POS_RECORD : RegField := ⟨.kiln, 0x340020, 0, 64, .rs, 0, false⟩

/-! `CAT_COUNTS` (R167, 06_catalogue_gap_quench.md) -/
def Reg.CAT_COUNTS_PARKED : RegField := ⟨.kiln, 0x340028, 0, 16, .rs, 0, false⟩
def Reg.CAT_COUNTS_EXHAUSTED : RegField := ⟨.kiln, 0x340028, 32, 16, .rs, 0, false⟩
def Reg.CAT_COUNTS_CLOSED : RegField := ⟨.kiln, 0x340028, 48, 16, .rs, 0, false⟩

/-! `CCD_STATUS` (R281, 10_concordance_protocol.md) -/
def Reg.CCD_STATUS_STATE : RegField := ⟨.clp, 0x0, 0, 3, .ro, 0, false⟩
def Reg.CCD_STATUS_PRIM : RegField := ⟨.clp, 0x0, 3, 1, .ro, 0, false⟩
def Reg.CCD_STATUS_THVALID : RegField := ⟨.clp, 0x0, 4, 1, .ro, 0, false⟩
def Reg.CCD_STATUS_LINKUP : RegField := ⟨.clp, 0x0, 5, 1, .ro, 0, false⟩
def Reg.CCD_STATUS_LINKPS : RegField := ⟨.clp, 0x0, 6, 2, .ro, 0, false⟩
def Reg.CCD_STATUS_DCAUSE : RegField := ⟨.clp, 0x0, 8, 4, .ro, 0, false⟩
def Reg.CCD_STATUS_PEERGONE : RegField := ⟨.clp, 0x0, 12, 1, .ro, 0, false⟩
def Reg.CCD_STATUS_PDOL : RegField := ⟨.clp, 0x0, 13, 1, .ro, 0, false⟩
def Reg.CCD_STATUS_BINDS : RegField := ⟨.clp, 0x0, 14, 7, .ro, 0, false⟩
def Reg.CCD_STATUS_SESS : RegField := ⟨.clp, 0x0, 21, 8, .ro, 0, false⟩

/-! `CCD_CTRL` (R281, 10_concordance_protocol.md) -/
def Reg.CCD_CTRL_RESTART : RegField := ⟨.clp, 0x4, 0, 1, .w1s, 0, false⟩
def Reg.CCD_CTRL_CR : RegField := ⟨.clp, 0x4, 1, 6, .rwl, 16, false⟩

/-! `CCD_PEER` (R281, 10_concordance_protocol.md) -/
def Reg.CCD_PEER_ORD : RegField := ⟨.clp, 0x8, 0, 12, .ro, 0, false⟩
def Reg.CCD_PEER_PCLP : RegField := ⟨.clp, 0x8, 12, 5, .ro, 0, false⟩
def Reg.CCD_PEER_PSESS : RegField := ⟨.clp, 0x8, 17, 8, .ro, 0, false⟩

/-! `CCD_EVENT` (R281, 10_concordance_protocol.md) -/
def Reg.CCD_EVENT_LOST : RegField := ⟨.clp, 0xC, 0, 1, .w1c, 0, false⟩
def Reg.CCD_EVENT_DISPUTE : RegField := ⟨.clp, 0xC, 1, 1, .w1c, 0, false⟩
def Reg.CCD_EVENT_CRC : RegField := ⟨.clp, 0xC, 2, 1, .w1c, 0, false⟩
def Reg.CCD_EVENT_RETX : RegField := ⟨.clp, 0xC, 3, 1, .w1c, 0, false⟩
def Reg.CCD_EVENT_OOO : RegField := ⟨.clp, 0xC, 4, 1, .w1c, 0, false⟩
def Reg.CCD_EVENT_STALESESS : RegField := ⟨.clp, 0xC, 5, 1, .w1c, 0, false⟩
def Reg.CCD_EVENT_COLLIDE : RegField := ⟨.clp, 0xC, 6, 1, .w1c, 0, false⟩
def Reg.CCD_EVENT_LATE : RegField := ⟨.clp, 0xC, 7, 1, .w1c, 0, false⟩
def Reg.CCD_EVENT_EPTMO : RegField := ⟨.clp, 0xC, 8, 1, .w1c, 0, false⟩
def Reg.CCD_EVENT_MISMATCH : RegField := ⟨.clp, 0xC, 9, 1, .w1c, 0, false⟩
def Reg.CCD_EVENT_OLDSEAL : RegField := ⟨.clp, 0xC, 10, 1, .w1c, 0, false⟩
def Reg.CCD_EVENT_REFUSED : RegField := ⟨.clp, 0xC, 11, 1, .w1c, 0, false⟩
def Reg.CCD_EVENT_INDOUBT : RegField := ⟨.clp, 0xC, 12, 1, .w1c, 0, false⟩

/-! `CCD_CRED` (R281, 10_concordance_protocol.md) -/
def Reg.CCD_CRED_AVAIL : RegField := ⟨.clp, 0x14, 0, 6, .ro, 0, false⟩
def Reg.CCD_CRED_ANSAVAIL : RegField := ⟨.clp, 0x14, 6, 1, .ro, 0, false⟩
def Reg.CCD_CRED_RXFREE : RegField := ⟨.clp, 0x14, 7, 6, .ro, 0, false⟩

/-! `CCD_SEQ` (R281, 10_concordance_protocol.md) -/
def Reg.CCD_SEQ_TXNEXT : RegField := ⟨.clp, 0x18, 0, 16, .rs, 0, false⟩
def Reg.CCD_SEQ_TXOLD : RegField := ⟨.clp, 0x18, 16, 16, .rs, 0, false⟩
def Reg.CCD_SEQ_RXNEXT : RegField := ⟨.clp, 0x18, 32, 16, .rs, 0, false⟩
def Reg.CCD_SEQ_UNACK : RegField := ⟨.clp, 0x18, 48, 6, .rs, 0, false⟩

/-! `CCD_TP` (R281, 10_concordance_protocol.md) -/
def Reg.CCD_TP_THETA : RegField := ⟨.clp, 0x20, 0, 64, .rs, 0, false⟩
def Reg.CCD_TP_DELTA : RegField := ⟨.clp, 0x20, 64, 32, .rs, 0, false⟩
def Reg.CCD_TP_AGE : RegField := ⟨.clp, 0x20, 96, 32, .rs, 0, false⟩

/-! `CCD_TXCNT` (R281, 10_concordance_protocol.md) -/
def Reg.CCD_TXCNT_COUNT : RegField := ⟨.clp, 0x30, 0, 64, .ro, 0, false⟩

/-! `CCD_RXCNT` (R281, 10_concordance_protocol.md) -/
def Reg.CCD_RXCNT_COUNT : RegField := ⟨.clp, 0x38, 0, 64, .ro, 0, false⟩

/-! `CCD_CRCCNT` (R281, 10_concordance_protocol.md) -/
def Reg.CCD_CRCCNT_COUNT : RegField := ⟨.clp, 0x40, 0, 32, .ro, 0, false⟩

/-! `CCD_RETXCNT` (R281, 10_concordance_protocol.md) -/
def Reg.CCD_RETXCNT_COUNT : RegField := ⟨.clp, 0x44, 0, 32, .ro, 0, false⟩

/-! `CCD_LOSTCNT` (R281, 10_concordance_protocol.md) -/
def Reg.CCD_LOSTCNT_COUNT : RegField := ⟨.clp, 0x48, 0, 32, .ro, 0, false⟩

/-! `CCD_DROPCNT` (R281, 10_concordance_protocol.md) -/
def Reg.CCD_DROPCNT_COUNT : RegField := ⟨.clp, 0x4C, 0, 32, .ro, 0, false⟩

/-! `CCD_BSEL` (R281, 10_concordance_protocol.md) -/
def Reg.CCD_BSEL_INDEX : RegField := ⟨.clp, 0x100, 0, 6, .rw, 0, false⟩

/-! `CCD_BIND` (R281, 10_concordance_protocol.md) -/
def Reg.CCD_BIND_JOB : RegField := ⟨.clp, 0x108, 0, 32, .rs, 0, false⟩
def Reg.CCD_BIND_TENANT : RegField := ⟨.clp, 0x108, 32, 12, .rs, 0, false⟩
def Reg.CCD_BIND_SLICE : RegField := ⟨.clp, 0x108, 44, 12, .rs, 0, false⟩
def Reg.CCD_BIND_PSLICE : RegField := ⟨.clp, 0x108, 56, 12, .rs, 0, false⟩
def Reg.CCD_BIND_BSTATE : RegField := ⟨.clp, 0x108, 68, 3, .rs, 0, false⟩
def Reg.CCD_BIND_WAITING : RegField := ⟨.clp, 0x108, 71, 1, .rs, 0, false⟩
def Reg.CCD_BIND_HIGHE : RegField := ⟨.clp, 0x108, 72, 32, .rs, 0, false⟩
def Reg.CCD_BIND_PEERE : RegField := ⟨.clp, 0x108, 104, 32, .rs, 0, false⟩
def Reg.CCD_BIND_LOCALE : RegField := ⟨.clp, 0x108, 136, 32, .rs, 0, false⟩

/-! `CCD_DISP` (R281, 10_concordance_protocol.md) -/
def Reg.CCD_DISP_CAUSE : RegField := ⟨.clp, 0x200, 0, 4, .rs, 0, false⟩
def Reg.CCD_DISP_SEQ : RegField := ⟨.clp, 0x200, 16, 16, .rs, 0, false⟩
def Reg.CCD_DISP_JOB : RegField := ⟨.clp, 0x200, 32, 32, .rs, 0, false⟩
def Reg.CCD_DISP_REF : RegField := ⟨.clp, 0x200, 64, 32, .rs, 0, false⟩
def Reg.CCD_DISP_EV1 : RegField := ⟨.clp, 0x200, 96, 128, .rs, 0, false⟩
def Reg.CCD_DISP_EV2 : RegField := ⟨.clp, 0x200, 224, 128, .rs, 0, false⟩
def Reg.CCD_DISP_GT : RegField := ⟨.clp, 0x200, 352, 64, .rs, 0, false⟩

/-! `STK_CH_DESC` (R390, 14_stacker_dma.md) -/
def Reg.STK_CH_DESC_ADDR : RegField := ⟨.channel, 0x0, 6, 42, .rw, 0, false⟩

/-! `STK_CH_CTRL` (R390, 14_stacker_dma.md) -/
def Reg.STK_CH_CTRL_GO : RegField := ⟨.channel, 0x8, 0, 1, .w1s, 0, false⟩
def Reg.STK_CH_CTRL_ABORT : RegField := ⟨.channel, 0x8, 1, 1, .w1s, 0, false⟩
def Reg.STK_CH_CTRL_PRIO : RegField := ⟨.channel, 0x8, 2, 2, .rw, 0, false⟩
def Reg.STK_CH_CTRL_TENANT : RegField := ⟨.channel, 0x8, 4, 12, .rw, 0, false⟩
def Reg.STK_CH_CTRL_WINMASK : RegField := ⟨.channel, 0x8, 16, 16, .rw, 0, false⟩

/-! `STK_CH_STATUS` (R390, 14_stacker_dma.md) -/
def Reg.STK_CH_STATUS_STATE : RegField := ⟨.channel, 0xC, 0, 3, .ro, 0, false⟩
def Reg.STK_CH_STATUS_ERRCODE : RegField := ⟨.channel, 0xC, 3, 3, .ro, 0, false⟩
def Reg.STK_CH_STATUS_MISMATCH : RegField := ⟨.channel, 0xC, 6, 1, .ro, 0, false⟩
def Reg.STK_CH_STATUS_DROPPED : RegField := ⟨.channel, 0xC, 7, 1, .ro, 0, false⟩
def Reg.STK_CH_STATUS_PENDGO : RegField := ⟨.channel, 0xC, 8, 1, .ro, 0, false⟩

/-! `STK_CH_PROG` (R390, 14_stacker_dma.md) -/
def Reg.STK_CH_PROG_CURDESC : RegField := ⟨.channel, 0x10, 0, 48, .rs, 0, false⟩
def Reg.STK_CH_PROG_TAG : RegField := ⟨.channel, 0x10, 64, 32, .rs, 0, false⟩
def Reg.STK_CH_PROG_DESCS : RegField := ⟨.channel, 0x10, 96, 32, .rs, 0, false⟩
def Reg.STK_CH_PROG_BYTES : RegField := ⟨.channel, 0x10, 128, 64, .rs, 0, false⟩
def Reg.STK_CH_PROG_CMPOFF : RegField := ⟨.channel, 0x10, 192, 32, .rs, 0, false⟩
def Reg.STK_CH_PROG_CMPCNT : RegField := ⟨.channel, 0x10, 224, 32, .rs, 0, false⟩

/-! `STK_WIN` (R389, 14_stacker_dma.md) -/
def Reg.STK_WIN_BASE : RegField := ⟨.stkwin, 0x100, 0, 48, .ro, 0, false⟩
def Reg.STK_WIN_R : RegField := ⟨.stkwin, 0x100, 48, 1, .ro, 0, false⟩
def Reg.STK_WIN_W : RegField := ⟨.stkwin, 0x100, 49, 1, .ro, 0, false⟩
def Reg.STK_WIN_TENANT : RegField := ⟨.stkwin, 0x100, 52, 12, .ro, 0, false⟩
def Reg.STK_WIN_SIZE : RegField := ⟨.stkwin, 0x100, 64, 48, .ro, 0, false⟩

/-! `TEN_ID` (R494, 19_host_port_register_map.md) -/
def Reg.TEN_ID_TENANT : RegField := ⟨.tenant, 0x0, 0, 12, .ro, 0, false⟩
def Reg.TEN_ID_ACTIVE : RegField := ⟨.tenant, 0x0, 12, 1, .ro, 0, false⟩

/-! `TEN_EP_CLOSE` (R305, 11_colophons_determinism.md) -/
def Reg.TEN_EP_CLOSE_EPOCH : RegField := ⟨.tenant, 0x100, 0, 32, .rw, 0, false⟩
def Reg.TEN_EP_CLOSE_OP : RegField := ⟨.tenant, 0x100, 32, 2, .rw, 0, false⟩

/-! `TEN_EP_STATUS` (R305, 11_colophons_determinism.md) -/
def Reg.TEN_EP_STATUS_OPEN : RegField := ⟨.tenant, 0x108, 0, 32, .ro, 0, false⟩
def Reg.TEN_EP_STATUS_BUSY : RegField := ⟨.tenant, 0x108, 32, 1, .ro, 0, false⟩
def Reg.TEN_EP_STATUS_CUT : RegField := ⟨.tenant, 0x108, 33, 1, .ro, 1, false⟩
def Reg.TEN_EP_STATUS_RESULT : RegField := ⟨.tenant, 0x108, 34, 3, .ro, 0, false⟩
def Reg.TEN_EP_STATUS_DROPPED : RegField := ⟨.tenant, 0x108, 37, 1, .w1c, 0, false⟩

/-! `TEN_EP_LAST` (R305, 11_colophons_determinism.md) -/
def Reg.TEN_EP_LAST_EPOCH : RegField := ⟨.tenant, 0x110, 0, 32, .ro, 0, false⟩

/-! `TEN_COLO_REQ` (R305, 11_colophons_determinism.md) -/
def Reg.TEN_COLO_REQ_REQ : RegField := ⟨.tenant, 0x118, 0, 1, .w1s, 0, false⟩

/-! `TEN_COLO_STATUS` (R305, 11_colophons_determinism.md) -/
def Reg.TEN_COLO_STATUS_BUSY : RegField := ⟨.tenant, 0x11C, 0, 1, .ro, 0, false⟩
def Reg.TEN_COLO_STATUS_RESULT : RegField := ⟨.tenant, 0x11C, 1, 2, .ro, 0, false⟩

/-! `TEN_COLO_NUM` (R305, 11_colophons_determinism.md) -/
def Reg.TEN_COLO_NUM_COLNUM : RegField := ⟨.tenant, 0x120, 0, 32, .ro, 0, false⟩

/-! `TEN_REC_HEAD` (R305, 11_colophons_determinism.md) -/
def Reg.TEN_REC_HEAD_OFFSET : RegField := ⟨.tenant, 0x128, 0, 32, .ro, 0, false⟩

/-! `TEN_REC_TAIL` (R305, 11_colophons_determinism.md) -/
def Reg.TEN_REC_TAIL_OFFSET : RegField := ⟨.tenant, 0x12C, 0, 32, .rw, 0, false⟩

/-! `TEN_DG_CTRL` (R305, 11_colophons_determinism.md) -/
def Reg.TEN_DG_CTRL_TRLAYER : RegField := ⟨.tenant, 0x130, 0, 16, .rw, 0, false⟩
def Reg.TEN_DG_CTRL_DGTRACE : RegField := ⟨.tenant, 0x130, 16, 1, .rw, 0, false⟩

/-! `TEN_EP_CHAIN` (R305, 11_colophons_determinism.md) -/
def Reg.TEN_EP_CHAIN_HEAD : RegField := ⟨.tenant, 0x140, 0, 384, .rs, 0, false⟩

/-! `TEN_TLY_REQ` (R341, 12_energy_thermal_tally.md) -/
def Reg.TEN_TLY_REQ_REQID : RegField := ⟨.tenant, 0x200, 0, 64, .rw, 0, false⟩

/-! `TEN_TLY_STATUS` (R341, 12_energy_thermal_tally.md) -/
def Reg.TEN_TLY_STATUS_BUSY : RegField := ⟨.tenant, 0x208, 0, 1, .ro, 0, false⟩
def Reg.TEN_TLY_STATUS_RESULT : RegField := ⟨.tenant, 0x208, 1, 2, .ro, 0, false⟩
def Reg.TEN_TLY_STATUS_DROPPED : RegField := ⟨.tenant, 0x208, 3, 1, .w1c, 0, false⟩

/-! `TEN_TLY_CTRL` (R341, 12_energy_thermal_tally.md) -/
def Reg.TEN_TLY_CTRL_AUTO : RegField := ⟨.tenant, 0x20C, 0, 1, .rw, 0, false⟩

/-! `TEN_TLY_LAST` (R341, 12_energy_thermal_tally.md) -/
def Reg.TEN_TLY_LAST_ENERGY : RegField := ⟨.tenant, 0x210, 0, 64, .rs, 0, false⟩
def Reg.TEN_TLY_LAST_STNUM : RegField := ⟨.tenant, 0x210, 64, 32, .rs, 0, false⟩
def Reg.TEN_TLY_LAST_SWTO : RegField := ⟨.tenant, 0x210, 96, 32, .rs, 0, false⟩
def Reg.TEN_TLY_LAST_ACCCLASS : RegField := ⟨.tenant, 0x210, 128, 8, .rs, 0, false⟩
def Reg.TEN_TLY_LAST_UNANCHORED : RegField := ⟨.tenant, 0x210, 136, 1, .rs, 0, false⟩
def Reg.TEN_TLY_LAST_GAP : RegField := ⟨.tenant, 0x210, 137, 1, .rs, 0, false⟩

/-! `TEN_DBG_SEL` (R485, 18_debug_trace.md) -/
def Reg.TEN_DBG_SEL_X : RegField := ⟨.tenant, 0x300, 0, 11, .rw, 0, false⟩
def Reg.TEN_DBG_SEL_Y : RegField := ⟨.tenant, 0x300, 11, 10, .rw, 0, false⟩

/-! `TEN_DBG_LAST` (R485, 18_debug_trace.md) -/
def Reg.TEN_DBG_LAST_LAST : RegField := ⟨.tenant, 0x308, 0, 224, .rs, 0, false⟩

/-! `RH_ID` (R507, 19_host_port_register_map.md) -/
def Reg.RH_ID_SRCID : RegField := ⟨.hub, 0x0, 0, 32, .ro, 0, false⟩

/-! `RH_POS` (R507, 19_host_port_register_map.md) -/
def Reg.RH_POS_RX : RegField := ⟨.hub, 0x4, 0, 6, .ro, 0, false⟩
def Reg.RH_POS_RY : RegField := ⟨.hub, 0x4, 6, 5, .ro, 0, false⟩
def Reg.RH_POS_SPINE : RegField := ⟨.hub, 0x4, 11, 1, .ro, 0, false⟩

/-! `RH_RD_CTRL` (R119, 04_second_readings.md) -/
def Reg.RH_RD_CTRL_SHARE : RegField := ⟨.hub, 0x400, 0, 7, .rwl, 60, false⟩
def Reg.RH_RD_CTRL_PADEN : RegField := ⟨.hub, 0x400, 8, 1, .rwl, 0, false⟩

/-! `RH_RD_PAD` (R119, 04_second_readings.md) -/
def Reg.RH_RD_PAD_PADLEN : RegField := ⟨.hub, 0x404, 0, 20, .rwl, 0, false⟩

/-! `RH_RD_BUSY` (R119, 04_second_readings.md) -/
def Reg.RH_RD_BUSY_COL : RegField := ⟨.hub, 0x408, 0, 32, .ro, 0, false⟩

/-! `RH_RD_NOREADER` (R119, 04_second_readings.md) -/
def Reg.RH_RD_NOREADER_COL : RegField := ⟨.hub, 0x40C, 0, 32, .ro, 0, false⟩

/-! `RH_RD_EVENT` (R119, 04_second_readings.md) -/
def Reg.RH_RD_EVENT_DISAGREE : RegField := ⟨.hub, 0x410, 0, 1, .w1c, 0, false⟩
def Reg.RH_RD_EVENT_RDMIN : RegField := ⟨.hub, 0x410, 1, 1, .w1c, 0, false⟩
def Reg.RH_RD_EVENT_WKMIN : RegField := ⟨.hub, 0x410, 2, 1, .w1c, 0, false⟩
def Reg.RH_RD_EVENT_NOMAJ : RegField := ⟨.hub, 0x410, 3, 1, .w1c, 0, false⟩
def Reg.RH_RD_EVENT_NOTHIRD : RegField := ⟨.hub, 0x410, 4, 1, .w1c, 0, false⟩
def Reg.RH_RD_EVENT_ABANDON : RegField := ⟨.hub, 0x410, 5, 1, .w1c, 0, false⟩
def Reg.RH_RD_EVENT_OVERRUN : RegField := ⟨.hub, 0x410, 6, 1, .w1c, 0, false⟩
def Reg.RH_RD_EVENT_IFTSHORT : RegField := ⟨.hub, 0x410, 7, 1, .w1c, 0, false⟩
def Reg.RH_RD_EVENT_STEPVOID : RegField := ⟨.hub, 0x410, 8, 1, .w1c, 0, false⟩
def Reg.RH_RD_EVENT_NOREADER : RegField := ⟨.hub, 0x410, 9, 1, .w1c, 0, false⟩

/-! `RH_RD_LAST` (R119, 04_second_readings.md) -/
def Reg.RH_RD_LAST_WSA : RegField := ⟨.hub, 0x420, 0, 31, .rs, 0, false⟩
def Reg.RH_RD_LAST_WSB : RegField := ⟨.hub, 0x420, 32, 31, .rs, 0, false⟩
def Reg.RH_RD_LAST_GSA : RegField := ⟨.hub, 0x420, 64, 31, .rs, 0, false⟩
def Reg.RH_RD_LAST_GSB : RegField := ⟨.hub, 0x420, 96, 31, .rs, 0, false⟩
def Reg.RH_RD_LAST_TSA : RegField := ⟨.hub, 0x420, 128, 31, .rs, 0, false⟩
def Reg.RH_RD_LAST_TSB : RegField := ⟨.hub, 0x420, 160, 31, .rs, 0, false⟩
def Reg.RH_RD_LAST_TENANT : RegField := ⟨.hub, 0x420, 192, 12, .rs, 0, false⟩
def Reg.RH_RD_LAST_WCOL : RegField := ⟨.hub, 0x420, 204, 5, .rs, 0, false⟩
def Reg.RH_RD_LAST_WROW : RegField := ⟨.hub, 0x420, 209, 6, .rs, 0, false⟩
def Reg.RH_RD_LAST_GROW : RegField := ⟨.hub, 0x420, 215, 6, .rs, 0, false⟩
def Reg.RH_RD_LAST_TCOL : RegField := ⟨.hub, 0x420, 221, 5, .rs, 0, false⟩
def Reg.RH_RD_LAST_TROW : RegField := ⟨.hub, 0x420, 226, 6, .rs, 0, false⟩
def Reg.RH_RD_LAST_RESULT : RegField := ⟨.hub, 0x420, 232, 2, .rs, 0, false⟩
def Reg.RH_RD_LAST_TVALID : RegField := ⟨.hub, 0x420, 234, 1, .rs, 0, false⟩
def Reg.RH_RD_LAST_HTAG : RegField := ⟨.hub, 0x420, 235, 8, .rs, 0, false⟩

/-! `RH_RD_TSEL` (R119, 04_second_readings.md) -/
def Reg.RH_RD_TSEL_TENANT : RegField := ⟨.hub, 0x440, 0, 12, .rw, 0, false⟩

/-! `RH_RD_TCHOSEN` (R119, 04_second_readings.md) -/
def Reg.RH_RD_TCHOSEN_COUNT : RegField := ⟨.hub, 0x448, 0, 32, .rs, 0, false⟩

/-! `RH_RD_TAGREE` (R119, 04_second_readings.md) -/
def Reg.RH_RD_TAGREE_COUNT : RegField := ⟨.hub, 0x44C, 0, 32, .rs, 0, false⟩

/-! `RH_RD_TWMIN` (R119, 04_second_readings.md) -/
def Reg.RH_RD_TWMIN_COUNT : RegField := ⟨.hub, 0x450, 0, 32, .rs, 0, false⟩

/-! `RH_RD_TGMIN` (R119, 04_second_readings.md) -/
def Reg.RH_RD_TGMIN_COUNT : RegField := ⟨.hub, 0x454, 0, 32, .rs, 0, false⟩

/-! `RH_RD_TNOMAJ` (R119, 04_second_readings.md) -/
def Reg.RH_RD_TNOMAJ_COUNT : RegField := ⟨.hub, 0x458, 0, 32, .rs, 0, false⟩

/-! `RH_RD_TABAND` (R119, 04_second_readings.md) -/
def Reg.RH_RD_TABAND_COUNT : RegField := ⟨.hub, 0x45C, 0, 32, .rs, 0, false⟩

/-! `RH_RD_TUNREAD` (R119, 04_second_readings.md) -/
def Reg.RH_RD_TUNREAD_COUNT : RegField := ⟨.hub, 0x460, 0, 32, .rs, 0, false⟩

/-! `RH_RD_TOVR` (R119, 04_second_readings.md) -/
def Reg.RH_RD_TOVR_COUNT : RegField := ⟨.hub, 0x464, 0, 32, .rs, 0, false⟩

/-! `RH_RD_TMACS` (R119, 04_second_readings.md) -/
def Reg.RH_RD_TMACS_COUNT : RegField := ⟨.hub, 0x468, 0, 64, .rs, 0, false⟩

/-! `RH_RD_TELEMS` (R119, 04_second_readings.md) -/
def Reg.RH_RD_TELEMS_COUNT : RegField := ⟨.hub, 0x470, 0, 64, .rs, 0, false⟩

/-! `RH_IFT_CTRL` (R139, 05_infield_test_and_margin.md) -/
def Reg.RH_IFT_CTRL_MWEN : RegField := ⟨.hub, 0x500, 0, 1, .rwl, 1, false⟩
def Reg.RH_IFT_CTRL_NPAT : RegField := ⟨.hub, 0x500, 1, 7, .ro, 0, false⟩

/-! `RH_MW_THR` (R139, 05_infield_test_and_margin.md) -/
def Reg.RH_MW_THR_B0 : RegField := ⟨.hub, 0x504, 0, 4, .rwl, 6, false⟩
def Reg.RH_MW_THR_B1 : RegField := ⟨.hub, 0x504, 4, 4, .rwl, 5, false⟩
def Reg.RH_MW_THR_B2 : RegField := ⟨.hub, 0x504, 8, 4, .rwl, 4, false⟩
def Reg.RH_MW_THR_B3 : RegField := ⟨.hub, 0x504, 12, 4, .rwl, 3, false⟩

/-! `RH_MW_TREND` (R139, 05_infield_test_and_margin.md) -/
def Reg.RH_MW_TREND_HORIZON : RegField := ⟨.hub, 0x508, 0, 8, .rwl, 24, false⟩
def Reg.RH_MW_TREND_MINN : RegField := ⟨.hub, 0x508, 8, 7, .rwl, 16, false⟩
def Reg.RH_MW_TREND_MINSPAN : RegField := ⟨.hub, 0x508, 15, 16, .rwl, 900, false⟩
def Reg.RH_MW_TREND_TRENDEN : RegField := ⟨.hub, 0x508, 31, 1, .rwl, 1, false⟩

/-! `RH_IFT_OVERDUE` (R139, 05_infield_test_and_margin.md) -/
def Reg.RH_IFT_OVERDUE_DWELLS : RegField := ⟨.hub, 0x50C, 0, 16, .rwl, 128, false⟩

/-! `RH_IFT_EVENT` (R139, 05_infield_test_and_margin.md) -/
def Reg.RH_IFT_EVENT_IFTFAIL : RegField := ⟨.hub, 0x510, 0, 1, .w1c, 0, false⟩
def Reg.RH_IFT_EVENT_TRANSIENT : RegField := ⟨.hub, 0x510, 1, 1, .w1c, 0, false⟩
def Reg.RH_IFT_EVENT_MWLOW : RegField := ⟨.hub, 0x510, 2, 1, .w1c, 0, false⟩
def Reg.RH_IFT_EVENT_MWTREND : RegField := ⟨.hub, 0x510, 3, 1, .w1c, 0, false⟩
def Reg.RH_IFT_EVENT_CSHKTO : RegField := ⟨.hub, 0x510, 4, 1, .w1c, 0, false⟩
def Reg.RH_IFT_EVENT_OVERDUE : RegField := ⟨.hub, 0x510, 5, 1, .w1c, 0, false⟩
def Reg.RH_IFT_EVENT_EXPOVF : RegField := ⟨.hub, 0x510, 6, 1, .w1c, 0, false⟩
def Reg.RH_IFT_EVENT_BANDCHG : RegField := ⟨.hub, 0x510, 7, 1, .w1c, 0, false⟩

/-! `RH_MW_SEL` (R139, 05_infield_test_and_margin.md) -/
def Reg.RH_MW_SEL_TILE : RegField := ⟨.hub, 0x520, 0, 11, .rw, 0, false⟩

/-! `RH_MW_SUM` (R139, 05_infield_test_and_margin.md) -/
def Reg.RH_MW_SUM_NVALID : RegField := ⟨.hub, 0x528, 0, 7, .rs, 0, false⟩
def Reg.RH_MW_SUM_LOWRUN : RegField := ⟨.hub, 0x528, 7, 2, .rs, 0, false⟩
def Reg.RH_MW_SUM_FIT : RegField := ⟨.hub, 0x528, 9, 1, .rs, 0, false⟩
def Reg.RH_MW_SUM_PRED : RegField := ⟨.hub, 0x528, 32, 32, .rs, 0, false⟩
def Reg.RH_MW_SUM_LASTSECS : RegField := ⟨.hub, 0x528, 64, 32, .rs, 0, false⟩

/-! `RH_CAT_CTRL` (R168, 06_catalogue_gap_quench.md) -/
def Reg.RH_CAT_CTRL_TREN : RegField := ⟨.hub, 0x800, 0, 1, .rwl, 0, false⟩

/-! `RH_CAT_DWELL` (R168, 06_catalogue_gap_quench.md) -/
def Reg.RH_CAT_DWELL_MS : RegField := ⟨.hub, 0x804, 0, 16, .rwl, 1000, false⟩

/-! `RH_CAT_TRLIST` (R168, 06_catalogue_gap_quench.md) -/
def Reg.RH_CAT_TRLIST_PERIOD : RegField := ⟨.hub, 0x808, 0, 16, .rwl, 1, false⟩
def Reg.RH_CAT_TRLIST_PHASE : RegField := ⟨.hub, 0x808, 16, 16, .rwl, 0, false⟩

/-! `RH_CAT_HOLD` (R168, 06_catalogue_gap_quench.md) -/
def Reg.RH_CAT_HOLD_COL : RegField := ⟨.hub, 0x80C, 0, 32, .rw, 0, false⟩

/-! `RH_CAT_WALK` (R168, 06_catalogue_gap_quench.md) -/
def Reg.RH_CAT_WALK_COL : RegField := ⟨.hub, 0x810, 0, 32, .ro, 0, false⟩

/-! `RH_CAT_EVENT` (R168, 06_catalogue_gap_quench.md) -/
def Reg.RH_CAT_EVENT_STALE : RegField := ⟨.hub, 0x814, 0, 1, .w1c, 0, false⟩
def Reg.RH_CAT_EVENT_STALELOST : RegField := ⟨.hub, 0x814, 1, 1, .w1c, 0, false⟩
def Reg.RH_CAT_EVENT_AHEAD : RegField := ⟨.hub, 0x814, 2, 1, .w1c, 0, false⟩
def Reg.RH_CAT_EVENT_SUSPECT : RegField := ⟨.hub, 0x814, 3, 1, .w1c, 0, false⟩
def Reg.RH_CAT_EVENT_PARK : RegField := ⟨.hub, 0x814, 4, 1, .w1c, 0, false⟩
def Reg.RH_CAT_EVENT_EXHAUST : RegField := ⟨.hub, 0x814, 5, 1, .w1c, 0, false⟩
def Reg.RH_CAT_EVENT_CLOSE : RegField := ⟨.hub, 0x814, 6, 1, .w1c, 0, false⟩
def Reg.RH_CAT_EVENT_TRMISS : RegField := ⟨.hub, 0x814, 7, 1, .w1c, 0, false⟩
def Reg.RH_CAT_EVENT_HOLDVOID : RegField := ⟨.hub, 0x814, 8, 1, .w1c, 0, false⟩

/-! `RH_CAT_STALE` (R168, 06_catalogue_gap_quench.md) -/
def Reg.RH_CAT_STALE_COUNT : RegField := ⟨.hub, 0x818, 0, 32, .ro, 0, false⟩

/-! `RH_FL_STATUS` (R195, 07_folio_transactions.md) -/
def Reg.RH_FL_STATUS_OPEN : RegField := ⟨.hub, 0x900, 0, 7, .ro, 0, false⟩
def Reg.RH_FL_STATUS_BEHIND : RegField := ⟨.hub, 0x900, 7, 1, .ro, 0, false⟩

/-! `RH_FL_LAST` (R195, 07_folio_transactions.md) -/
def Reg.RH_FL_LAST_NUMBER : RegField := ⟨.hub, 0x904, 0, 32, .ro, 0, false⟩

/-! `RH_FL_EVENT` (R195, 07_folio_transactions.md) -/
def Reg.RH_FL_EVENT_LATE : RegField := ⟨.hub, 0x908, 0, 1, .w1c, 0, false⟩
def Reg.RH_FL_EVENT_VOTEVOID : RegField := ⟨.hub, 0x908, 1, 1, .w1c, 0, false⟩
def Reg.RH_FL_EVENT_REPLAY : RegField := ⟨.hub, 0x908, 2, 1, .w1c, 0, false⟩
def Reg.RH_FL_EVENT_REBUILT : RegField := ⟨.hub, 0x908, 3, 1, .w1c, 0, false⟩
def Reg.RH_FL_EVENT_DUP : RegField := ⟨.hub, 0x908, 4, 1, .w1c, 0, false⟩

/-! `RH_FL_LATE` (R195, 07_folio_transactions.md) -/
def Reg.RH_FL_LATE_COUNT : RegField := ⟨.hub, 0x90C, 0, 32, .ro, 0, false⟩

/-! `RH_FLT_STATUS` (R219, 08_fault_collection.md) -/
def Reg.RH_FLT_STATUS_BUCKETS : RegField := ⟨.hub, 0xA00, 0, 10, .ro, 0, false⟩
def Reg.RH_FLT_STATUS_QUEUE : RegField := ⟨.hub, 0xA00, 10, 7, .ro, 0, false⟩
def Reg.RH_FLT_STATUS_PHASE : RegField := ⟨.hub, 0xA00, 17, 2, .ro, 0, false⟩

/-! `RH_FLT_EVENT` (R219, 08_fault_collection.md) -/
def Reg.RH_FLT_EVENT_L1RAISED : RegField := ⟨.hub, 0xA04, 0, 1, .w1c, 0, false⟩
def Reg.RH_FLT_EVENT_EVICT : RegField := ⟨.hub, 0xA04, 1, 1, .w1c, 0, false⟩
def Reg.RH_FLT_EVENT_RFIPAR : RegField := ⟨.hub, 0xA04, 2, 1, .w1c, 0, false⟩
def Reg.RH_FLT_EVENT_RFIUNK : RegField := ⟨.hub, 0xA04, 3, 1, .w1c, 0, false⟩
def Reg.RH_FLT_EVENT_QFULL : RegField := ⟨.hub, 0xA04, 4, 1, .w1c, 0, false⟩

/-! `RH_FLT_EVICT` (R219, 08_fault_collection.md) -/
def Reg.RH_FLT_EVICT_COUNT : RegField := ⟨.hub, 0xA08, 0, 32, .ro, 0, false⟩

/-! `RH_FLT_RFICNT` (R219, 08_fault_collection.md) -/
def Reg.RH_FLT_RFICNT_COUNT : RegField := ⟨.hub, 0xA0C, 0, 32, .ro, 0, false⟩

/-! `RH_FLT_BSEL` (R219, 08_fault_collection.md) -/
def Reg.RH_FLT_BSEL_ENTRY : RegField := ⟨.hub, 0xA10, 0, 9, .rw, 0, false⟩

/-! `RH_FLT_FIRSTVAL` (R219, 08_fault_collection.md) -/
def Reg.RH_FLT_FIRSTVAL_VALID : RegField := ⟨.hub, 0xA14, 0, 1, .w1c, 0, false⟩

/-! `RH_FLT_BKT` (R219, 08_fault_collection.md) -/
def Reg.RH_FLT_BKT_KEY : RegField := ⟨.hub, 0xA18, 0, 32, .rs, 0, false⟩
def Reg.RH_FLT_BKT_KIND : RegField := ⟨.hub, 0xA18, 32, 12, .rs, 0, false⟩
def Reg.RH_FLT_BKT_LEVEL : RegField := ⟨.hub, 0xA18, 44, 4, .rs, 0, false⟩
def Reg.RH_FLT_BKT_NEXTLEAK : RegField := ⟨.hub, 0xA18, 48, 16, .rs, 0, false⟩

/-! `RH_FLT_FIRST` (R219, 08_fault_collection.md) -/
def Reg.RH_FLT_FIRST_MSG : RegField := ⟨.hub, 0xA40, 0, 128, .rs, 0, false⟩
def Reg.RH_FLT_FIRST_GT : RegField := ⟨.hub, 0xA40, 128, 64, .rs, 0, false⟩

/-! `RH_WD_CTRL` (R243, 09_hang_recovery.md) -/
def Reg.RH_WD_CTRL_WDT : RegField := ⟨.hub, 0xB00, 0, 14, .rwl, 50, false⟩
def Reg.RH_WD_CTRL_EN : RegField := ⟨.hub, 0xB00, 14, 1, .rwl, 1, false⟩

/-! `RH_WD_STATUS` (R243, 09_hang_recovery.md) -/
def Reg.RH_WD_STATUS_CTX : RegField := ⟨.hub, 0xB04, 0, 10, .ro, 0, false⟩
def Reg.RH_WD_STATUS_OWING : RegField := ⟨.hub, 0xB04, 10, 10, .ro, 0, false⟩
def Reg.RH_WD_STATUS_RSTCTX : RegField := ⟨.hub, 0xB04, 20, 1, .ro, 0, false⟩
def Reg.RH_WD_STATUS_RSTENG : RegField := ⟨.hub, 0xB04, 21, 1, .ro, 0, false⟩

/-! `RH_WD_EVENT` (R243, 09_hang_recovery.md) -/
def Reg.RH_WD_EVENT_TRIP : RegField := ⟨.hub, 0xB08, 0, 1, .w1c, 0, false⟩
def Reg.RH_WD_EVENT_CLRFAIL : RegField := ⟨.hub, 0xB08, 1, 1, .w1c, 0, false⟩
def Reg.RH_WD_EVENT_PARKRUN : RegField := ⟨.hub, 0xB08, 2, 1, .w1c, 0, false⟩
def Reg.RH_WD_EVENT_OVF : RegField := ⟨.hub, 0xB08, 3, 1, .w1c, 0, false⟩

/-! `RH_WD_TSEL` (R243, 09_hang_recovery.md) -/
def Reg.RH_WD_TSEL_TENANT : RegField := ⟨.hub, 0xB0C, 0, 12, .rw, 0, false⟩

/-! `RH_WD_TCTX` (R243, 09_hang_recovery.md) -/
def Reg.RH_WD_TCTX_COUNT : RegField := ⟨.hub, 0xB10, 0, 16, .rs, 0, false⟩
def Reg.RH_WD_TCTX_OWING : RegField := ⟨.hub, 0xB10, 16, 1, .rs, 0, false⟩
def Reg.RH_WD_TCTX_SUSPECT : RegField := ⟨.hub, 0xB10, 17, 1, .rs, 0, false⟩
def Reg.RH_WD_TCTX_PARKED : RegField := ⟨.hub, 0xB10, 18, 1, .rs, 0, false⟩
def Reg.RH_WD_TCTX_TRACKED : RegField := ⟨.hub, 0xB10, 19, 1, .rs, 0, false⟩
def Reg.RH_WD_TCTX_TRIPS : RegField := ⟨.hub, 0xB10, 32, 32, .rs, 0, false⟩

/-! `RH_TH_STATUS` (R340, 12_energy_thermal_tally.md) -/
def Reg.RH_TH_STATUS_TEST : RegField := ⟨.hub, 0xC00, 0, 16, .ro, 0, false⟩
def Reg.RH_TH_STATUS_BAND : RegField := ⟨.hub, 0xC00, 16, 3, .ro, 0, false⟩
def Reg.RH_TH_STATUS_THR : RegField := ⟨.hub, 0xC00, 19, 4, .ro, 0, false⟩

/-! `RH_TH_CTRL` (R340, 12_energy_thermal_tally.md) -/
def Reg.RH_TH_CTRL_TTHR : RegField := ⟨.hub, 0xC04, 0, 8, .rwl, 90, false⟩
def Reg.RH_TH_CTRL_GAIN : RegField := ⟨.hub, 0xC04, 8, 8, .rwl, 16, false⟩
def Reg.RH_TH_CTRL_HYST : RegField := ⟨.hub, 0xC04, 16, 4, .rwl, 2, false⟩

/-! `RH_TH_AMB` (R340, 12_energy_thermal_tally.md) -/
def Reg.RH_TH_AMB_AMB : RegField := ⟨.hub, 0xC08, 0, 16, .rw, 2560, false⟩

/-! `RH_EN_VLOC` (R340, 12_energy_thermal_tally.md) -/
def Reg.RH_EN_VLOC_MV : RegField := ⟨.hub, 0xC0C, 0, 12, .ro, 0, false⟩

/-! `RH_EN_EVENT` (R340, 12_energy_thermal_tally.md) -/
def Reg.RH_EN_EVENT_B4 : RegField := ⟨.hub, 0xC10, 0, 1, .w1c, 0, false⟩
def Reg.RH_EN_EVENT_NBMISS : RegField := ⟨.hub, 0xC10, 1, 1, .w1c, 0, false⟩
def Reg.RH_EN_EVENT_ENOVF : RegField := ⟨.hub, 0xC10, 2, 1, .w1c, 0, false⟩
def Reg.RH_EN_EVENT_UNANCH : RegField := ⟨.hub, 0xC10, 3, 1, .w1c, 0, false⟩

/-! `RH_EN_TSEL` (R340, 12_energy_thermal_tally.md) -/
def Reg.RH_EN_TSEL_TENANT : RegField := ⟨.hub, 0xC14, 0, 12, .rw, 0, false⟩

/-! `RH_EN_TCTR` (R340, 12_energy_thermal_tally.md) -/
def Reg.RH_EN_TCTR_COUNT : RegField := ⟨.hub, 0xC18, 0, 64, .rs, 0, false⟩
def Reg.RH_EN_TCTR_BASE : RegField := ⟨.hub, 0xC18, 64, 64, .rs, 0, false⟩
def Reg.RH_EN_TCTR_FRAC : RegField := ⟨.hub, 0xC18, 128, 10, .rs, 0, false⟩
def Reg.RH_EN_TCTR_UA : RegField := ⟨.hub, 0xC18, 138, 1, .rs, 0, false⟩
def Reg.RH_EN_TCTR_VALID : RegField := ⟨.hub, 0xC18, 139, 1, .rs, 0, false⟩

/-! `RH_LG_CTRL` (R411, 15_ledger_event_recorder.md) -/
def Reg.RH_LG_CTRL_BURST : RegField := ⟨.hub, 0xD00, 0, 4, .rwl, 8, false⟩
def Reg.RH_LG_CTRL_REFILLMS : RegField := ⟨.hub, 0xD00, 4, 16, .rwl, 10, false⟩

/-! `RH_LG_SUPP` (R411, 15_ledger_event_recorder.md) -/
def Reg.RH_LG_SUPP_COUNT : RegField := ⟨.hub, 0xD04, 0, 32, .ro, 0, false⟩

/-! `RH_LG_EVENT` (R411, 15_ledger_event_recorder.md) -/
def Reg.RH_LG_EVENT_SUPP : RegField := ⟨.hub, 0xD08, 0, 1, .w1c, 0, false⟩
def Reg.RH_LG_EVENT_OVF : RegField := ⟨.hub, 0xD08, 1, 1, .w1c, 0, false⟩

/-! `RH_PW_VTGT` (R464, 17_power_clocks_reset.md) -/
def Reg.RH_PW_VTGT_MV : RegField := ⟨.hub, 0xE00, 0, 12, .rw, 0, false⟩

/-! `RH_PW_STATUS` (R464, 17_power_clocks_reset.md) -/
def Reg.RH_PW_STATUS_TRANS : RegField := ⟨.hub, 0xE04, 0, 1, .ro, 0, false⟩
def Reg.RH_PW_STATUS_STAGE : RegField := ⟨.hub, 0xE04, 1, 4, .ro, 0, false⟩
def Reg.RH_PW_STATUS_VEXC : RegField := ⟨.hub, 0xE04, 5, 4, .ro, 0, false⟩
def Reg.RH_PW_STATUS_TEXC : RegField := ⟨.hub, 0xE04, 9, 4, .ro, 0, false⟩

/-! `RH_PW_EVENT` (R464, 17_power_clocks_reset.md) -/
def Reg.RH_PW_EVENT_VEXC : RegField := ⟨.hub, 0xE08, 0, 1, .w1c, 0, false⟩
def Reg.RH_PW_EVENT_TEXC : RegField := ⟨.hub, 0xE08, 1, 1, .w1c, 0, false⟩
def Reg.RH_PW_EVENT_STAGE : RegField := ⟨.hub, 0xE08, 2, 1, .w1c, 0, false⟩
def Reg.RH_PW_EVENT_NBMISS : RegField := ⟨.hub, 0xE08, 3, 1, .w1c, 0, false⟩

/-! `RH_TR_CTRL` (R483, 18_debug_trace.md) -/
def Reg.RH_TR_CTRL_CLASSEN : RegField := ⟨.hub, 0xF00, 0, 16, .rw, 0, false⟩
def Reg.RH_TR_CTRL_SAMPLE : RegField := ⟨.hub, 0xF00, 16, 4, .rw, 0, false⟩

/-! `RH_TR_FILT` (R483, 18_debug_trace.md) -/
def Reg.RH_TR_FILT_TENANT : RegField := ⟨.hub, 0xF04, 0, 12, .rw, 0, false⟩
def Reg.RH_TR_FILT_ANYT : RegField := ⟨.hub, 0xF04, 12, 1, .rw, 1, false⟩
def Reg.RH_TR_FILT_LAYER : RegField := ⟨.hub, 0xF04, 13, 16, .rw, 0, false⟩
def Reg.RH_TR_FILT_ANYL : RegField := ⟨.hub, 0xF04, 29, 1, .rw, 1, false⟩

/-! `RH_TR_STATUS` (R483, 18_debug_trace.md) -/
def Reg.RH_TR_STATUS_FILL : RegField := ⟨.hub, 0xF08, 0, 13, .ro, 0, false⟩
def Reg.RH_TR_STATUS_HEAD : RegField := ⟨.hub, 0xF08, 13, 12, .ro, 0, false⟩

/-! `RH_TR_DROPS` (R483, 18_debug_trace.md) -/
def Reg.RH_TR_DROPS_COUNT : RegField := ⟨.hub, 0xF0C, 0, 32, .ro, 0, false⟩

/-! `RH_TR_EVENT` (R483, 18_debug_trace.md) -/
def Reg.RH_TR_EVENT_DROP : RegField := ⟨.hub, 0xF10, 0, 1, .w1c, 0, false⟩
def Reg.RH_TR_EVENT_HALF : RegField := ⟨.hub, 0xF10, 1, 1, .w1c, 0, false⟩

/-! `TP_ID` (R97, 03_tile_probe_interface.md) -/
def Reg.TP_ID_SRCID : RegField := ⟨.probe, 0x0, 0, 32, .ro, 0, false⟩

/-! `TP_STATUS` (R97, 03_tile_probe_interface.md) -/
def Reg.TP_STATUS_FSTATE : RegField := ⟨.probe, 0x4, 0, 3, .ro, 2, false⟩
def Reg.TP_STATUS_FENCE : RegField := ⟨.probe, 0x4, 3, 1, .ro, 1, false⟩
def Reg.TP_STATUS_POWERED : RegField := ⟨.probe, 0x4, 4, 1, .ro, 1, false⟩
def Reg.TP_STATUS_SLOTBUSY : RegField := ⟨.probe, 0x4, 5, 4, .ro, 0, false⟩
def Reg.TP_STATUS_HEAD : RegField := ⟨.probe, 0x4, 9, 2, .ro, 0, false⟩
def Reg.TP_STATUS_BAND : RegField := ⟨.probe, 0x4, 11, 3, .ro, 0, false⟩
def Reg.TP_STATUS_FLTWAIT : RegField := ⟨.probe, 0x4, 14, 1, .ro, 0, false⟩
def Reg.TP_STATUS_XOWN : RegField := ⟨.probe, 0x4, 15, 1, .ro, 0, false⟩
def Reg.TP_STATUS_RETRIES : RegField := ⟨.probe, 0x4, 16, 4, .ro, 1, false⟩

/-! `TP_CTRL` (R97, 03_tile_probe_interface.md) -/
def Reg.TP_CTRL_RETRY : RegField := ⟨.probe, 0x8, 0, 2, .rwl, 1, false⟩
def Reg.TP_CTRL_FENCE_REQ : RegField := ⟨.probe, 0x8, 2, 1, .w1s, 0, false⟩

/-! `TP_EVENT` (R97, 03_tile_probe_interface.md) -/
def Reg.TP_EVENT_CHKFAIL : RegField := ⟨.probe, 0xC, 0, 1, .w1c, 0, false⟩
def Reg.TP_EVENT_TAPPAR : RegField := ⟨.probe, 0xC, 1, 1, .w1c, 0, false⟩
def Reg.TP_EVENT_TAGBAD : RegField := ⟨.probe, 0xC, 2, 1, .w1c, 0, false⟩
def Reg.TP_EVENT_OVERLAP : RegField := ⟨.probe, 0xC, 3, 1, .w1c, 0, false⟩
def Reg.TP_EVENT_ECCC : RegField := ⟨.probe, 0xC, 4, 1, .w1c, 0, false⟩
def Reg.TP_EVENT_ECCU : RegField := ⟨.probe, 0xC, 5, 1, .w1c, 0, false⟩
def Reg.TP_EVENT_HDRERR : RegField := ⟨.probe, 0xC, 6, 1, .w1c, 0, false⟩
def Reg.TP_EVENT_CNTERR : RegField := ⟨.probe, 0xC, 7, 1, .w1c, 0, false⟩
def Reg.TP_EVENT_RETRYTO : RegField := ⟨.probe, 0xC, 8, 1, .w1c, 0, false⟩
def Reg.TP_EVENT_RETRYPASS : RegField := ⟨.probe, 0xC, 9, 1, .w1c, 0, false⟩
def Reg.TP_EVENT_BANDSTOP : RegField := ⟨.probe, 0xC, 10, 1, .w1c, 0, false⟩
def Reg.TP_EVENT_NELCLIP : RegField := ⟨.probe, 0xC, 11, 1, .w1c, 0, false⟩

/-! `TP_LAST` (R97, 03_tile_probe_interface.md) -/
def Reg.TP_LAST_OUTCOME : RegField := ⟨.probe, 0x10, 0, 3, .ro, 0, false⟩
def Reg.TP_LAST_SLOT : RegField := ⟨.probe, 0x10, 3, 2, .ro, 0, false⟩
def Reg.TP_LAST_HTAG : RegField := ⟨.probe, 0x10, 5, 8, .ro, 0, false⟩
def Reg.TP_LAST_TENANT : RegField := ⟨.probe, 0x10, 13, 12, .ro, 0, false⟩

/-! `TP_HDRERR` (R97, 03_tile_probe_interface.md) -/
def Reg.TP_HDRERR_CODE : RegField := ⟨.probe, 0x14, 0, 4, .ro, 0, false⟩
def Reg.TP_HDRERR_HTAG : RegField := ⟨.probe, 0x14, 4, 8, .ro, 0, false⟩
def Reg.TP_HDRERR_TENANT : RegField := ⟨.probe, 0x14, 12, 12, .ro, 0, false⟩

/-! `TP_TAGERR` (R97, 03_tile_probe_interface.md) -/
def Reg.TP_TAGERR_TAG : RegField := ⟨.probe, 0x18, 0, 31, .rs, 0, false⟩
def Reg.TP_TAGERR_REASON : RegField := ⟨.probe, 0x18, 31, 1, .rs, 0, false⟩
def Reg.TP_TAGERR_SRCX : RegField := ⟨.probe, 0x18, 32, 11, .rs, 0, false⟩
def Reg.TP_TAGERR_SRCY : RegField := ⟨.probe, 0x18, 43, 11, .rs, 0, false⟩
def Reg.TP_TAGERR_FMTBAD : RegField := ⟨.probe, 0x18, 54, 1, .rs, 0, false⟩

/-! `TP_CTXSEL` (R97, 03_tile_probe_interface.md) -/
def Reg.TP_CTXSEL_SEL : RegField := ⟨.probe, 0x20, 0, 4, .rw, 0, false⟩

/-! `TP_CTXTEN` (R97, 03_tile_probe_interface.md) -/
def Reg.TP_CTXTEN_TENANT : RegField := ⟨.probe, 0x24, 0, 12, .ro, 0, false⟩
def Reg.TP_CTXTEN_VALID : RegField := ⟨.probe, 0x24, 12, 1, .ro, 0, false⟩

/-! `TP_CTXCNT` (R97, 03_tile_probe_interface.md) -/
def Reg.TP_CTXCNT_CMDCNT : RegField := ⟨.probe, 0x28, 0, 32, .ro, 0, false⟩

/-! `TP_CTXKEY` (R97, 03_tile_probe_interface.md) -/
def Reg.TP_CTXKEY_KEYLO : RegField := ⟨.probe, 0x30, 0, 64, .ro, 0, false⟩

/-! `TP_CTXKEYH` (R97, 03_tile_probe_interface.md) -/
def Reg.TP_CTXKEYH_KEYHI : RegField := ⟨.probe, 0x38, 0, 16, .ro, 0, false⟩

/-! `TP_CAPTURE` (R67, 02_residue_arithmetic.md) -/
def Reg.TP_CAPTURE_PA : RegField := ⟨.probe, 0x40, 0, 31, .rs, 0, false⟩
def Reg.TP_CAPTURE_TA : RegField := ⟨.probe, 0x40, 32, 31, .rs, 0, false⟩
def Reg.TP_CAPTURE_PB : RegField := ⟨.probe, 0x40, 64, 31, .rs, 0, false⟩
def Reg.TP_CAPTURE_TB : RegField := ⟨.probe, 0x40, 96, 31, .rs, 0, false⟩
def Reg.TP_CAPTURE_CMDCNT : RegField := ⟨.probe, 0x40, 128, 32, .rs, 0, false⟩
def Reg.TP_CAPTURE_TENANT : RegField := ⟨.probe, 0x40, 160, 12, .rs, 0, false⟩
def Reg.TP_CAPTURE_OUTCOME : RegField := ⟨.probe, 0x40, 172, 3, .rs, 0, false⟩
def Reg.TP_CAPTURE_BAND : RegField := ⟨.probe, 0x40, 175, 3, .rs, 0, false⟩
def Reg.TP_CAPTURE_DATAFLOW : RegField := ⟨.probe, 0x40, 178, 1, .rs, 0, false⟩
def Reg.TP_CAPTURE_STEPS : RegField := ⟨.probe, 0x40, 192, 20, .rs, 0, false⟩
def Reg.TP_CAPTURE_GTLO : RegField := ⟨.probe, 0x40, 224, 32, .rs, 0, false⟩

/-! `TP_CSHK` (R97, 03_tile_probe_interface.md) -/
def Reg.TP_CSHK_STEP : RegField := ⟨.probe, 0x60, 0, 4, .ro, 0, false⟩
def Reg.TP_CSHK_ACK : RegField := ⟨.probe, 0x60, 4, 1, .ro, 0, false⟩

/-! `TP_SHELF` (R97, 03_tile_probe_interface.md) -/
def Reg.TP_SHELF_X : RegField := ⟨.probe, 0x64, 0, 11, .ro, 0, false⟩
def Reg.TP_SHELF_Y : RegField := ⟨.probe, 0x64, 11, 10, .ro, 0, false⟩
def Reg.TP_SHELF_VALID : RegField := ⟨.probe, 0x64, 21, 1, .ro, 0, false⟩

/-! `TP_CNT0` (R482, 18_debug_trace.md) -/
def Reg.TP_CNT0_COUNT : RegField := ⟨.probe, 0x80, 0, 32, .ro, 0, false⟩

/-! `TP_CNT1` (R482, 18_debug_trace.md) -/
def Reg.TP_CNT1_COUNT : RegField := ⟨.probe, 0x84, 0, 32, .ro, 0, false⟩

/-! `TP_CNT2` (R482, 18_debug_trace.md) -/
def Reg.TP_CNT2_COUNT : RegField := ⟨.probe, 0x88, 0, 32, .ro, 0, false⟩

/-! `TP_CNT3` (R482, 18_debug_trace.md) -/
def Reg.TP_CNT3_COUNT : RegField := ⟨.probe, 0x8C, 0, 32, .ro, 0, false⟩

/-! `TP_CNT4` (R482, 18_debug_trace.md) -/
def Reg.TP_CNT4_COUNT : RegField := ⟨.probe, 0x90, 0, 32, .ro, 0, false⟩

/-! `TP_CNT5` (R482, 18_debug_trace.md) -/
def Reg.TP_CNT5_COUNT : RegField := ⟨.probe, 0x94, 0, 32, .ro, 0, false⟩

/-! `TP_CNT6` (R482, 18_debug_trace.md) -/
def Reg.TP_CNT6_COUNT : RegField := ⟨.probe, 0x98, 0, 32, .ro, 0, false⟩

/-! `TP_CNT7` (R482, 18_debug_trace.md) -/
def Reg.TP_CNT7_COUNT : RegField := ⟨.probe, 0x9C, 0, 32, .ro, 0, false⟩

/-! `TP_CNT_LAST` (R482, 18_debug_trace.md) -/
def Reg.TP_CNT_LAST_TENANT : RegField := ⟨.probe, 0xA0, 0, 12, .rs, 0, false⟩
def Reg.TP_CNT_LAST_HTAG : RegField := ⟨.probe, 0xA0, 12, 8, .rs, 0, false⟩
def Reg.TP_CNT_LAST_SLOT : RegField := ⟨.probe, 0xA0, 20, 2, .rs, 0, false⟩
def Reg.TP_CNT_LAST_OUTCOME : RegField := ⟨.probe, 0xA0, 22, 3, .rs, 0, false⟩
def Reg.TP_CNT_LAST_VALID : RegField := ⟨.probe, 0xA0, 25, 1, .rs, 0, false⟩
def Reg.TP_CNT_LAST_LAYER : RegField := ⟨.probe, 0xA0, 32, 16, .rs, 0, false⟩
def Reg.TP_CNT_LAST_OPERATOR : RegField := ⟨.probe, 0xA0, 48, 16, .rs, 0, false⟩
def Reg.TP_CNT_LAST_D : RegField := ⟨.probe, 0xA0, 64, 160, .rs, 0, false⟩

/-! `TP_CNTSEL` (R482, 18_debug_trace.md) -/
def Reg.TP_CNTSEL_EV6 : RegField := ⟨.probe, 0xBC, 0, 4, .rwl, 6, false⟩
def Reg.TP_CNTSEL_EV7 : RegField := ⟨.probe, 0xBC, 4, 4, .rwl, 7, false⟩

/-! `TP_IFT_STATUS` (R138, 05_infield_test_and_margin.md) -/
def Reg.TP_IFT_STATUS_ISTATE : RegField := ⟨.probe, 0xC0, 0, 3, .ro, 0, false⟩
def Reg.TP_IFT_STATUS_PAT : RegField := ⟨.probe, 0xC0, 3, 6, .ro, 0, false⟩
def Reg.TP_IFT_STATUS_STEP : RegField := ⟨.probe, 0xC0, 9, 4, .ro, 0, false⟩
def Reg.TP_IFT_STATUS_PASS : RegField := ⟨.probe, 0xC0, 13, 8, .ro, 0, false⟩
def Reg.TP_IFT_STATUS_MWEN : RegField := ⟨.probe, 0xC0, 21, 1, .ro, 0, false⟩

/-! `TP_IFT_VISIT` (R138, 05_infield_test_and_margin.md) -/
def Reg.TP_IFT_VISIT_VISITS : RegField := ⟨.probe, 0xC4, 0, 32, .ro, 0, false⟩

/-! `TP_IFT_TIME` (R138, 05_infield_test_and_margin.md) -/
def Reg.TP_IFT_TIME_TIME : RegField := ⟨.probe, 0xC8, 0, 32, .ro, 0, false⟩

/-! `TP_IFT_FAIL` (R138, 05_infield_test_and_margin.md) -/
def Reg.TP_IFT_FAIL_PAT : RegField := ⟨.probe, 0xCC, 0, 6, .ro, 0, false⟩
def Reg.TP_IFT_FAIL_KIND : RegField := ⟨.probe, 0xCC, 6, 3, .ro, 0, false⟩
def Reg.TP_IFT_FAIL_STEP : RegField := ⟨.probe, 0xCC, 9, 4, .ro, 0, false⟩
def Reg.TP_IFT_FAIL_PASS : RegField := ⟨.probe, 0xCC, 13, 8, .ro, 0, false⟩
def Reg.TP_IFT_FAIL_CONFIRMED : RegField := ⟨.probe, 0xCC, 21, 1, .ro, 0, false⟩

/-! `TP_IFT_SIG` (R138, 05_infield_test_and_margin.md) -/
def Reg.TP_IFT_SIG_SA : RegField := ⟨.probe, 0xD0, 0, 31, .rs, 0, false⟩
def Reg.TP_IFT_SIG_SB : RegField := ⟨.probe, 0xD0, 32, 31, .rs, 0, false⟩
def Reg.TP_IFT_SIG_BEATS : RegField := ⟨.probe, 0xD0, 64, 20, .rs, 0, false⟩
def Reg.TP_IFT_SIG_OUTCOME : RegField := ⟨.probe, 0xD0, 84, 3, .rs, 0, false⟩
def Reg.TP_IFT_SIG_PAT : RegField := ⟨.probe, 0xD0, 87, 6, .rs, 0, false⟩

/-! `TP_MW_LAST` (R138, 05_infield_test_and_margin.md) -/
def Reg.TP_MW_LAST_MARGIN : RegField := ⟨.probe, 0xE0, 0, 4, .ro, 0, false⟩
def Reg.TP_MW_LAST_BAND : RegField := ⟨.probe, 0xE0, 4, 3, .ro, 0, false⟩
def Reg.TP_MW_LAST_VALID : RegField := ⟨.probe, 0xE0, 7, 1, .ro, 0, false⟩
def Reg.TP_MW_LAST_BANDCHG : RegField := ⟨.probe, 0xE0, 8, 1, .ro, 0, false⟩
def Reg.TP_MW_LAST_CSHKTO : RegField := ⟨.probe, 0xE0, 9, 1, .ro, 0, false⟩
def Reg.TP_MW_LAST_B4STOP : RegField := ⟨.probe, 0xE0, 10, 1, .ro, 0, false⟩
def Reg.TP_MW_LAST_RESTARTS : RegField := ⟨.probe, 0xE0, 11, 2, .ro, 0, false⟩
def Reg.TP_MW_LAST_WOBBLES : RegField := ⟨.probe, 0xE0, 13, 4, .ro, 0, false⟩

/-- Registers of the kiln windows, part 0. -/
def kilnRows0 : List RegRow :=
  [⟨.kiln, 0x0, 4, [Reg.KILN_ID_VERSION]⟩,
   ⟨.kiln, 0x4, 4, [Reg.KILN_GEOM_W, Reg.KILN_GEOM_H, Reg.KILN_GEOM_S]⟩,
   ⟨.kiln, 0x10, 4, [Reg.GHP_STATUS_OUTST]⟩,
   ⟨.kiln, 0x14, 4, [Reg.GHP_EVENT_PARITY, Reg.GHP_EVENT_ALIGN, Reg.GHP_EVENT_DENIED, Reg.GHP_EVENT_SEALED, Reg.GHP_EVENT_RSVD, Reg.GHP_EVENT_LOCKED, Reg.GHP_EVENT_TIMEOUT, Reg.GHP_EVENT_TAGDUP]⟩,
   ⟨.kiln, 0x20, 16, [Reg.GHP_ERRLOG_ADDR, Reg.GHP_ERRLOG_TEN, Reg.GHP_ERRLOG_TAG, Reg.GHP_ERRLOG_WR, Reg.GHP_ERRLOG_SZ, Reg.GHP_ERRLOG_STATUS, Reg.GHP_ERRLOG_GT]⟩,
   ⟨.kiln, 0x40, 4, [Reg.MGT_STATUS_SA, Reg.MGT_STATUS_DA, Reg.MGT_STATUS_DAVALID, Reg.MGT_STATUS_EID, Reg.MGT_STATUS_UP]⟩,
   ⟨.kiln, 0x44, 4, [Reg.MGT_ID_IANA]⟩,
   ⟨.kiln, 0x48, 4, [Reg.MGT_EVENT_PEC, Reg.MGT_EVENT_DROP, Reg.MGT_EVENT_IBILOST, Reg.MGT_EVENT_WAKE]⟩,
   ⟨.kiln, 0x80, 4, [Reg.MIR_LENS_GROUP]⟩,
   ⟨.kiln, 0x800, 4, [Reg.BRU_STATUS_STATE, Reg.BRU_STATUS_CODE, Reg.BRU_STATUS_CLASSH, Reg.BRU_STATUS_UNPROV]⟩,
   ⟨.kiln, 0x804, 4, [Reg.BRU_TIME_US]⟩,
   ⟨.kiln, 0x808, 4, [Reg.BRU_DETAIL_DETAIL]⟩,
   ⟨.kiln, 0x810, 8, [Reg.CHR_SRC_ADDR]⟩,
   ⟨.kiln, 0x818, 4, [Reg.CHR_CTRL_GO, Reg.CHR_CTRL_AMGO]⟩,
   ⟨.kiln, 0x81C, 4, [Reg.CHR_AMST_BUSY, Reg.CHR_AMST_RESULT, Reg.CHR_AMST_REASON, Reg.CHR_AMST_DROPPED]⟩,
   ⟨.kiln, 0x820, 64, [Reg.CHR_INFO_SERIAL, Reg.CHR_INFO_MEKOR, Reg.CHR_INFO_LENGTH, Reg.CHR_INFO_AMSEQ, Reg.CHR_INFO_EDIGEST]⟩,
   ⟨.kiln, 0x860, 4, [Reg.CHR_LOCK_LOCKED, Reg.CHR_LOCK_ALLOW]⟩,
   ⟨.kiln, 0x864, 4, [Reg.CHR_LQREQ_CLP, Reg.CHR_LQREQ_GO]⟩,
   ⟨.kiln, 0x868, 4, [Reg.CHR_LQPASS_CLP]⟩,
   ⟨.kiln, 0x86C, 4, [Reg.CHR_LQFAIL_CLP]⟩]

/-- Registers of the kiln windows, part 1. -/
def kilnRows1 : List RegRow :=
  [⟨.kiln, 0x870, 4, [Reg.BRU_EVENT_READY, Reg.BRU_EVENT_REFUSED, Reg.BRU_EVENT_AMEND, Reg.BRU_EVENT_AMREJ, Reg.BRU_EVENT_LQFAIL, Reg.BRU_EVENT_PSTFAIL, Reg.BRU_EVENT_GOBUSY]⟩,
   ⟨.kiln, 0x874, 4, [Reg.BRU_PST_FAILS]⟩,
   ⟨.kiln, 0x900, 4, [Reg.PWR_STATUS_STATE, Reg.PWR_STATUS_ONBK, Reg.PWR_STATUS_HOLDOVER, Reg.PWR_STATUS_TRANS, Reg.PWR_STATUS_ONLATCH, Reg.PWR_STATUS_PCREQ, Reg.PWR_STATUS_ACKED]⟩,
   ⟨.kiln, 0x904, 4, [Reg.PWR_CTRL_OFF, Reg.PWR_CTRL_ON, Reg.PWR_CTRL_PCREQ]⟩,
   ⟨.kiln, 0x908, 4, [Reg.PWR_EVENT_LOSS, Reg.PWR_EVENT_VBK, Reg.PWR_EVENT_HOLDOVER, Reg.PWR_EVENT_INCOMPLETE, Reg.PWR_EVENT_COLD, Reg.PWR_EVENT_BTNSTUCK]⟩,
   ⟨.kiln, 0x910, 8, [Reg.PWR_HOLD_US]⟩,
   ⟨.kiln, 0x920, 16, [Reg.PWR_TIME_TIME]⟩,
   ⟨.kiln, 0x930, 4, [Reg.BTN_STATUS_PRESSED, Reg.BTN_STATUS_STUCK]⟩,
   ⟨.kiln, 0x940, 16, [Reg.PWR_LASTLOSS_P0, Reg.PWR_LASTLOSS_P2, Reg.PWR_LASTLOSS_LOST, Reg.PWR_LASTLOSS_SECS]⟩,
   ⟨.kiln, 0x1000, 4, [Reg.FLT_BUCKET_N, Reg.FLT_BUCKET_WSEC]⟩,
   ⟨.kiln, 0x1004, 4, [Reg.FLT_CTRL_L3HOLD]⟩,
   ⟨.kiln, 0x1008, 4, [Reg.FLT_PHASE_PHASE]⟩,
   ⟨.kiln, 0x100C, 4, [Reg.FLT_STATUS_PHASE, Reg.FLT_STATUS_SEALED, Reg.FLT_STATUS_L2OPEN, Reg.FLT_STATUS_QUEUED, Reg.FLT_STATUS_OPEN]⟩,
   ⟨.kiln, 0x1010, 4, [Reg.FLT_SEQ_NEXT]⟩,
   ⟨.kiln, 0x1014, 4, [Reg.FLT_ACK_RID]⟩,
   ⟨.kiln, 0x1018, 4, [Reg.FLT_EVENT_L1, Reg.FLT_EVENT_L2, Reg.FLT_EVENT_ESC, Reg.FLT_EVENT_QUEUED, Reg.FLT_EVENT_QFULL, Reg.FLT_EVENT_NFULL, Reg.FLT_EVENT_ACKBAD, Reg.FLT_EVENT_EVICT]⟩,
   ⟨.kiln, 0x1020, 4, [Reg.FLT_NHEAD_HEAD]⟩,
   ⟨.kiln, 0x1024, 4, [Reg.FLT_NTAIL_TAIL]⟩,
   ⟨.kiln, 0x1028, 4, [Reg.FLT_FIRSTSEL_LEVEL]⟩,
   ⟨.kiln, 0x102C, 4, [Reg.FLT_FIRSTVAL_VALID]⟩]

/-- Registers of the kiln windows, part 2. -/
def kilnRows2 : List RegRow :=
  [⟨.kiln, 0x1030, 4, [Reg.FLT_LOGSEL_INDEX]⟩,
   ⟨.kiln, 0x1034, 4, [Reg.FLT_RSEL_RID]⟩,
   ⟨.kiln, 0x1040, 32, [Reg.FLT_FIRST_ENTRY]⟩,
   ⟨.kiln, 0x1060, 32, [Reg.FLT_LOG_ENTRY]⟩,
   ⟨.kiln, 0x1080, 8, [Reg.FLT_CNT0_COUNT]⟩,
   ⟨.kiln, 0x1088, 8, [Reg.FLT_CNT1_COUNT]⟩,
   ⟨.kiln, 0x1090, 8, [Reg.FLT_CNT2_COUNT]⟩,
   ⟨.kiln, 0x1098, 8, [Reg.FLT_CNT3_COUNT]⟩,
   ⟨.kiln, 0x10A0, 32, [Reg.FLT_REACT_RID, Reg.FLT_REACT_LEVEL, Reg.FLT_REACT_STATE, Reg.FLT_REACT_SRC, Reg.FLT_REACT_KIND, Reg.FLT_REACT_FSEQ, Reg.FLT_REACT_FOLIO, Reg.FLT_REACT_MERGES]⟩,
   ⟨.kiln, 0x1100, 4, [Reg.RCV_CTRL_CTXHOLD, Reg.RCV_CTRL_REPLAYMS]⟩,
   ⟨.kiln, 0x1104, 4, [Reg.RCV_ENGHOLD_HOLD]⟩,
   ⟨.kiln, 0x1108, 4, [Reg.RCV_PARTHOLD_HOLD]⟩,
   ⟨.kiln, 0x110C, 4, [Reg.RCV_CHIPHOLD_HOLD]⟩,
   ⟨.kiln, 0x1110, 4, [Reg.RCV_LADDER_WINSEC]⟩,
   ⟨.kiln, 0x1114, 4, [Reg.RCV_STATUS_STATE, Reg.RCV_STATUS_RUNG, Reg.RCV_STATUS_NSUS, Reg.RCV_STATUS_CASE]⟩,
   ⟨.kiln, 0x1118, 4, [Reg.RCV_GRANT_TENANT, Reg.RCV_GRANT_VALID]⟩,
   ⟨.kiln, 0x111C, 4, [Reg.RCV_SUSSEL_INDEX]⟩,
   ⟨.kiln, 0x1120, 8, [Reg.RCV_SUS_TENANT, Reg.RCV_SUS_REGION, Reg.RCV_SUS_STATE]⟩,
   ⟨.kiln, 0x1128, 4, [Reg.RCV_EVENT_CASE, Reg.RCV_EVENT_CLRFAIL, Reg.RCV_EVENT_ENGINE, Reg.RCV_EVENT_PART, Reg.RCV_EVENT_CHIP, Reg.RCV_EVENT_POWER, Reg.RCV_EVENT_GUILTY, Reg.RCV_EVENT_INCONCL]⟩,
   ⟨.kiln, 0x1140, 32, [Reg.RCV_LAST_CASE, Reg.RCV_LAST_RESULT, Reg.RCV_LAST_RUNG, Reg.RCV_LAST_NSUS, Reg.RCV_LAST_GUILTY, Reg.RCV_LAST_FSEQ, Reg.RCV_LAST_GTOPEN, Reg.RCV_LAST_GTDONE]⟩]

/-- Registers of the kiln windows, part 3. -/
def kilnRows3 : List RegRow :=
  [⟨.kiln, 0x1200, 4, [Reg.CCD_GCTRL_DOLMODE, Reg.CCD_GCTRL_EPTMO, Reg.CCD_GCTRL_EPLAG, Reg.CCD_GCTRL_DEPG]⟩,
   ⟨.kiln, 0x1204, 4, [Reg.CCD_GID_ORD]⟩,
   ⟨.kiln, 0x1208, 4, [Reg.CCD_TPCTRL_TPPER, Reg.CCD_TPCTRL_TPMAX]⟩,
   ⟨.kiln, 0x1210, 8, [Reg.CCD_XREQ_OP, Reg.CCD_XREQ_CLP, Reg.CCD_XREQ_JOB, Reg.CCD_XREQ_SLICE, Reg.CCD_XREQ_NEWCLP, Reg.CCD_XREQ_WITHDRAW]⟩,
   ⟨.kiln, 0x1218, 4, [Reg.CCD_XREQST_BUSY, Reg.CCD_XREQST_RESULT, Reg.CCD_XREQST_DROPPED]⟩,
   ⟨.kiln, 0x121C, 4, [Reg.CCD_XREQNUM_NUMBER]⟩,
   ⟨.kiln, 0x1220, 4, [Reg.CCD_GUP_CLP]⟩,
   ⟨.kiln, 0x1224, 4, [Reg.CCD_GDISP_CLP]⟩,
   ⟨.kiln, 0x100000, 4, [Reg.VLT_ID_DESIGN]⟩,
   ⟨.kiln, 0x100004, 4, [Reg.VLT_STATUS_STATE, Reg.VLT_STATUS_ERRCODE, Reg.VLT_STATUS_ERRKIND, Reg.VLT_STATUS_QUEUE, Reg.VLT_STATUS_BLOB]⟩,
   ⟨.kiln, 0x100008, 4, [Reg.VLT_CTRL_PERIOD, Reg.VLT_CTRL_NONCETTL, Reg.VLT_CTRL_STNOW]⟩,
   ⟨.kiln, 0x10000C, 4, [Reg.VLT_EVENT_TOKOK, Reg.VLT_EVENT_TOKREJ, Reg.VLT_EVENT_HEALTH1, Reg.VLT_EVENT_PERIODIC, Reg.VLT_EVENT_ZEROISED, Reg.VLT_EVENT_PROVISIONED, Reg.VLT_EVENT_TALLYKEY]⟩,
   ⟨.kiln, 0x100010, 16, [Reg.VLT_DEVID_DEVID]⟩,
   ⟨.kiln, 0x100020, 4, [Reg.VLT_NONCE_REQ_SERVICE]⟩,
   ⟨.kiln, 0x100028, 24, [Reg.VLT_NONCE_NONCE, Reg.VLT_NONCE_SLOT]⟩,
   ⟨.kiln, 0x100040, 4, [Reg.VLT_TOKGO_GO]⟩,
   ⟨.kiln, 0x100044, 4, [Reg.VLT_TOKST_BUSY, Reg.VLT_TOKST_RESULT, Reg.VLT_TOKST_REASON, Reg.VLT_TOKST_DROPPED, Reg.VLT_TOKST_APPROVED]⟩,
   ⟨.kiln, 0x100050, 4, [Reg.VLT_KSEL_HANDLE]⟩,
   ⟨.kiln, 0x100058, 16, [Reg.VLT_KEY_STATE, Reg.VLT_KEY_GEN, Reg.VLT_KEY_USES]⟩,
   ⟨.kiln, 0x100070, 8, [Reg.VLT_RAW_SAMPLES]⟩]

/-- Registers of the kiln windows, part 4. -/
def kilnRows4 : List RegRow :=
  [⟨.kiln, 0x100080, 4, [Reg.VLT_STCNT_COUNT]⟩,
   ⟨.kiln, 0x140000, 4, [Reg.STK_CTRL_EN, Reg.STK_CTRL_CLRHALT]⟩,
   ⟨.kiln, 0x140004, 4, [Reg.STK_STATUS_HALTED, Reg.STK_STATUS_HCH, Reg.STK_STATUS_HCAUSE, Reg.STK_STATUS_INFLIGHT]⟩,
   ⟨.kiln, 0x140008, 8, [Reg.STK_HALTADDR_ADDR, Reg.STK_HALTADDR_TAG]⟩,
   ⟨.kiln, 0x140010, 4, [Reg.STK_EVENT_BUSERR, Reg.STK_EVENT_DESCERR, Reg.STK_EVENT_DROP, Reg.STK_EVENT_DISABLED, Reg.STK_EVENT_MISMATCH, Reg.STK_EVENT_GOBUSY]⟩,
   ⟨.kiln, 0x140014, 4, [Reg.STK_BUSY_CH]⟩,
   ⟨.kiln, 0x1C0000, 4, [Reg.SNS_CTRL_EN]⟩,
   ⟨.kiln, 0x1C0004, 4, [Reg.SNS_PERIOD_PERIOD]⟩,
   ⟨.kiln, 0x1C0008, 4, [Reg.SNS_STATUS_STATE, Reg.SNS_STATUS_ANCH]⟩,
   ⟨.kiln, 0x1C000C, 4, [Reg.SNS_EVENT_OPEN, Reg.SNS_EVENT_OVER, Reg.SNS_EVENT_FAR]⟩,
   ⟨.kiln, 0x1C0010, 4, [Reg.SNS_CHSEL_CH]⟩,
   ⟨.kiln, 0x1C0018, 24, [Reg.SNS_CH_VSH, Reg.SNS_CH_VBUS, Reg.SNS_CH_EPER, Reg.SNS_CH_K, Reg.SNS_CH_KBAR, Reg.SNS_CH_STATE, Reg.SNS_CH_PASSES, Reg.SNS_CH_OPENCNT]⟩,
   ⟨.kiln, 0x1C0100, 4, [Reg.TLY_CTRL_PERIODMS, Reg.TLY_CTRL_BATCHMS, Reg.TLY_CTRL_CLOSE]⟩,
   ⟨.kiln, 0x1C0104, 4, [Reg.TLY_STATUS_SWBUSY, Reg.TLY_STATUS_NOSIGN, Reg.TLY_STATUS_QUEUE, Reg.TLY_STATUS_BANK]⟩,
   ⟨.kiln, 0x1C0108, 4, [Reg.TLY_SWNUM_NEXT]⟩,
   ⟨.kiln, 0x1C010C, 4, [Reg.TLY_EVENT_DISCARD, Reg.TLY_EVENT_GAP, Reg.TLY_EVENT_QFULL, Reg.TLY_EVENT_RINGWAIT]⟩,
   ⟨.kiln, 0x1C0110, 16, [Reg.TLY_LAST_SWEEP, Reg.TLY_LAST_COMPLETE, Reg.TLY_LAST_SINGLE, Reg.TLY_LAST_TENANT, Reg.TLY_LAST_CAUSE, Reg.TLY_LAST_T]⟩,
   ⟨.kiln, 0x1C0120, 4, [Reg.TLY_RHEAD_OFFSET]⟩,
   ⟨.kiln, 0x1C0124, 4, [Reg.TLY_RTAIL_OFFSET]⟩,
   ⟨.kiln, 0x1C0128, 4, [Reg.TLY_BATCHNUM_BATCH]⟩]

/-- Registers of the kiln windows, part 5. -/
def kilnRows5 : List RegRow :=
  [⟨.kiln, 0x200000, 4, [Reg.LDG_STATUS_UNSEALED, Reg.LDG_STATUS_WRAPPED, Reg.LDG_STATUS_CLEARING, Reg.LDG_STATUS_OPENREC, Reg.LDG_STATUS_BUF, Reg.LDG_STATUS_STAGE, Reg.LDG_STATUS_FOLD]⟩,
   ⟨.kiln, 0x200004, 4, [Reg.LDG_OPEN_PAGENUM]⟩,
   ⟨.kiln, 0x200008, 4, [Reg.LDG_OLDEST_PAGENUM]⟩,
   ⟨.kiln, 0x20000C, 4, [Reg.LDG_LASTSEAL_PAGENUM]⟩,
   ⟨.kiln, 0x200010, 4, [Reg.LDG_CTRL_FLUSH, Reg.LDG_CTRL_DDR]⟩,
   ⟨.kiln, 0x200014, 4, [Reg.LDG_EVENT_LOST, Reg.LDG_EVENT_WRAP, Reg.LDG_EVENT_FLSERR, Reg.LDG_EVENT_RECOVERED, Reg.LDG_EVENT_UNSEALED, Reg.LDG_EVENT_CLEARED, Reg.LDG_EVENT_VERIFYFAIL, Reg.LDG_EVENT_APPENDBAD]⟩,
   ⟨.kiln, 0x200018, 4, [Reg.LDG_LOSTCNT_COUNT]⟩,
   ⟨.kiln, 0x200020, 8, [Reg.LDG_RDPAGE_PAGENUM, Reg.LDG_RDPAGE_VERIFY]⟩,
   ⟨.kiln, 0x200028, 4, [Reg.LDG_RDST_BUSY, Reg.LDG_RDST_RESULT, Reg.LDG_RDST_SEALCHK, Reg.LDG_RDST_DROPPED]⟩,
   ⟨.kiln, 0x200030, 4, [Reg.LDG_APPEND_CODE]⟩,
   ⟨.kiln, 0x200034, 4, [Reg.LDG_AP0_P]⟩,
   ⟨.kiln, 0x200038, 4, [Reg.LDG_AP1_P]⟩,
   ⟨.kiln, 0x20003C, 4, [Reg.LDG_AP2_P]⟩,
   ⟨.kiln, 0x200040, 4, [Reg.LDG_FLASH_SIZEMIB, Reg.LDG_FLASH_OK]⟩,
   ⟨.kiln, 0x204000, 4, [Reg.DBG_GSCTRL_STOP, Reg.DBG_GSCTRL_RELEASE, Reg.DBG_GSCTRL_EXTEN]⟩,
   ⟨.kiln, 0x204004, 4, [Reg.DBG_GSSTATUS_STOPPED, Reg.DBG_GSSTATUS_SOURCE, Reg.DBG_GSSTATUS_SETTLED, Reg.DBG_GSSTATUS_PIN]⟩,
   ⟨.kiln, 0x204008, 4, [Reg.DBG_GSTRIG_KIND, Reg.DBG_GSTRIG_KINDEN, Reg.DBG_GSTRIG_LEVEL, Reg.DBG_GSTRIG_LEVELEN]⟩,
   ⟨.kiln, 0x204010, 8, [Reg.DBG_GSTIME_GT]⟩,
   ⟨.kiln, 0x204018, 8, [Reg.DBG_GSREL_GT]⟩,
   ⟨.kiln, 0x204020, 4, [Reg.DBG_EVSEL_EV]⟩]

/-- Registers of the kiln windows, part 6. -/
def kilnRows6 : List RegRow :=
  [⟨.kiln, 0x204024, 4, [Reg.DBG_UNLOCK_SECS]⟩,
   ⟨.kiln, 0x204030, 8, [Reg.DBG_TRBASE_BASE]⟩,
   ⟨.kiln, 0x204038, 4, [Reg.DBG_TRSIZE_LOG2]⟩,
   ⟨.kiln, 0x20403C, 4, [Reg.DBG_TRHEAD_OFFSET]⟩,
   ⟨.kiln, 0x204040, 4, [Reg.DBG_TRTAIL_OFFSET]⟩,
   ⟨.kiln, 0x204044, 4, [Reg.DBG_TRCTRL_EN, Reg.DBG_TRCTRL_DRAIN, Reg.DBG_TRCTRL_TPEN]⟩,
   ⟨.kiln, 0x204048, 4, [Reg.DBG_TRSTATUS_BADRING, Reg.DBG_TRSTATUS_WAIT, Reg.DBG_TRSTATUS_PEND]⟩,
   ⟨.kiln, 0x20404C, 4, [Reg.DBG_EVENT_STOP, Reg.DBG_EVENT_RELEASE, Reg.DBG_EVENT_RELBLOCK, Reg.DBG_EVENT_RINGWAIT, Reg.DBG_EVENT_BADRING, Reg.DBG_EVENT_UNLOCK]⟩,
   ⟨.kiln, 0x300000, 4, [Reg.FOLIO_CTRL_LEAD, Reg.FOLIO_CTRL_XLEAD]⟩,
   ⟨.kiln, 0x300004, 4, [Reg.FOLIO_STATUS_OPEN, Reg.FOLIO_STATUS_QUEUED, Reg.FOLIO_STATUS_PAUSED, Reg.FOLIO_STATUS_BEHIND]⟩,
   ⟨.kiln, 0x300008, 4, [Reg.FOLIO_NEXT_NUMBER]⟩,
   ⟨.kiln, 0x30000C, 4, [Reg.FOLIO_EVENT_VOID, Reg.FOLIO_EVENT_TIMEOUT, Reg.FOLIO_EVENT_LATE, Reg.FOLIO_EVENT_BEHIND, Reg.FOLIO_EVENT_CATCHFAIL, Reg.FOLIO_EVENT_BUSY, Reg.FOLIO_EVENT_XVOID, Reg.FOLIO_EVENT_TRESET]⟩,
   ⟨.kiln, 0x300010, 8, [Reg.FOLIO_SEALED_COUNT]⟩,
   ⟨.kiln, 0x300018, 8, [Reg.FOLIO_VOIDED_COUNT]⟩,
   ⟨.kiln, 0x300020, 4, [Reg.FOLIO_SEL_NUMBER]⟩,
   ⟨.kiln, 0x300040, 64, [Reg.FOLIO_LOG_HEADER]⟩,
   ⟨.kiln, 0x300080, 4, [Reg.FOLIO_TREQ_TENANT]⟩,
   ⟨.kiln, 0x300084, 4, [Reg.FOLIO_TREQST_BUSY, Reg.FOLIO_TREQST_RESULT, Reg.FOLIO_TREQST_DROPPED]⟩,
   ⟨.kiln, 0x300088, 4, [Reg.FOLIO_TREQNUM_NUMBER]⟩,
   ⟨.kiln, 0x340000, 8, [Reg.CAT_REQ_OP, Reg.CAT_REQ_X, Reg.CAT_REQ_Y, Reg.CAT_REQ_COUNT, Reg.CAT_REQ_TENANT]⟩]

/-- Registers of the kiln windows, part 7. -/
def kilnRows7 : List RegRow :=
  [⟨.kiln, 0x340008, 4, [Reg.CAT_REQST_BUSY, Reg.CAT_REQST_RESULT, Reg.CAT_REQST_DROPPED]⟩,
   ⟨.kiln, 0x34000C, 4, [Reg.CAT_REQFOLIO_FOLIO]⟩,
   ⟨.kiln, 0x340010, 4, [Reg.CAT_SEL_REGION, Reg.CAT_SEL_COL, Reg.CAT_SEL_ROW]⟩,
   ⟨.kiln, 0x340018, 8, [Reg.CAT_COL_RECORD]⟩,
   ⟨.kiln, 0x340020, 8, [Reg.CAT_POS_RECORD]⟩,
   ⟨.kiln, 0x340028, 8, [Reg.CAT_COUNTS_PARKED, Reg.CAT_COUNTS_EXHAUSTED, Reg.CAT_COUNTS_CLOSED]⟩]

/-- Every register of the kiln window. -/
def kilnRows : List RegRow := kilnRows0 ++ kilnRows1 ++ kilnRows2 ++ kilnRows3 ++ kilnRows4 ++ kilnRows5 ++ kilnRows6 ++ kilnRows7

/-- Registers of the clp windows, part 0. -/
def clpRows0 : List RegRow :=
  [⟨.clp, 0x0, 4, [Reg.CCD_STATUS_STATE, Reg.CCD_STATUS_PRIM, Reg.CCD_STATUS_THVALID, Reg.CCD_STATUS_LINKUP, Reg.CCD_STATUS_LINKPS, Reg.CCD_STATUS_DCAUSE, Reg.CCD_STATUS_PEERGONE, Reg.CCD_STATUS_PDOL, Reg.CCD_STATUS_BINDS, Reg.CCD_STATUS_SESS]⟩,
   ⟨.clp, 0x4, 4, [Reg.CCD_CTRL_RESTART, Reg.CCD_CTRL_CR]⟩,
   ⟨.clp, 0x8, 4, [Reg.CCD_PEER_ORD, Reg.CCD_PEER_PCLP, Reg.CCD_PEER_PSESS]⟩,
   ⟨.clp, 0xC, 4, [Reg.CCD_EVENT_LOST, Reg.CCD_EVENT_DISPUTE, Reg.CCD_EVENT_CRC, Reg.CCD_EVENT_RETX, Reg.CCD_EVENT_OOO, Reg.CCD_EVENT_STALESESS, Reg.CCD_EVENT_COLLIDE, Reg.CCD_EVENT_LATE, Reg.CCD_EVENT_EPTMO, Reg.CCD_EVENT_MISMATCH, Reg.CCD_EVENT_OLDSEAL, Reg.CCD_EVENT_REFUSED, Reg.CCD_EVENT_INDOUBT]⟩,
   ⟨.clp, 0x14, 4, [Reg.CCD_CRED_AVAIL, Reg.CCD_CRED_ANSAVAIL, Reg.CCD_CRED_RXFREE]⟩,
   ⟨.clp, 0x18, 8, [Reg.CCD_SEQ_TXNEXT, Reg.CCD_SEQ_TXOLD, Reg.CCD_SEQ_RXNEXT, Reg.CCD_SEQ_UNACK]⟩,
   ⟨.clp, 0x20, 16, [Reg.CCD_TP_THETA, Reg.CCD_TP_DELTA, Reg.CCD_TP_AGE]⟩,
   ⟨.clp, 0x30, 8, [Reg.CCD_TXCNT_COUNT]⟩,
   ⟨.clp, 0x38, 8, [Reg.CCD_RXCNT_COUNT]⟩,
   ⟨.clp, 0x40, 4, [Reg.CCD_CRCCNT_COUNT]⟩,
   ⟨.clp, 0x44, 4, [Reg.CCD_RETXCNT_COUNT]⟩,
   ⟨.clp, 0x48, 4, [Reg.CCD_LOSTCNT_COUNT]⟩,
   ⟨.clp, 0x4C, 4, [Reg.CCD_DROPCNT_COUNT]⟩,
   ⟨.clp, 0x100, 4, [Reg.CCD_BSEL_INDEX]⟩,
   ⟨.clp, 0x108, 32, [Reg.CCD_BIND_JOB, Reg.CCD_BIND_TENANT, Reg.CCD_BIND_SLICE, Reg.CCD_BIND_PSLICE, Reg.CCD_BIND_BSTATE, Reg.CCD_BIND_WAITING, Reg.CCD_BIND_HIGHE, Reg.CCD_BIND_PEERE, Reg.CCD_BIND_LOCALE]⟩,
   ⟨.clp, 0x200, 64, [Reg.CCD_DISP_CAUSE, Reg.CCD_DISP_SEQ, Reg.CCD_DISP_JOB, Reg.CCD_DISP_REF, Reg.CCD_DISP_EV1, Reg.CCD_DISP_EV2, Reg.CCD_DISP_GT]⟩]

/-- Every register of the clp window. -/
def clpRows : List RegRow := clpRows0

/-- Registers of the channel windows, part 0. -/
def channelRows0 : List RegRow :=
  [⟨.channel, 0x0, 8, [Reg.STK_CH_DESC_ADDR]⟩,
   ⟨.channel, 0x8, 4, [Reg.STK_CH_CTRL_GO, Reg.STK_CH_CTRL_ABORT, Reg.STK_CH_CTRL_PRIO, Reg.STK_CH_CTRL_TENANT, Reg.STK_CH_CTRL_WINMASK]⟩,
   ⟨.channel, 0xC, 4, [Reg.STK_CH_STATUS_STATE, Reg.STK_CH_STATUS_ERRCODE, Reg.STK_CH_STATUS_MISMATCH, Reg.STK_CH_STATUS_DROPPED, Reg.STK_CH_STATUS_PENDGO]⟩,
   ⟨.channel, 0x10, 32, [Reg.STK_CH_PROG_CURDESC, Reg.STK_CH_PROG_TAG, Reg.STK_CH_PROG_DESCS, Reg.STK_CH_PROG_BYTES, Reg.STK_CH_PROG_CMPOFF, Reg.STK_CH_PROG_CMPCNT]⟩]

/-- Every register of the channel window. -/
def channelRows : List RegRow := channelRows0

/-- Registers of the stkwin windows, part 0. -/
def stkwinRows0 : List RegRow :=
  [⟨.stkwin, 0x100, 16, [Reg.STK_WIN_BASE, Reg.STK_WIN_R, Reg.STK_WIN_W, Reg.STK_WIN_TENANT, Reg.STK_WIN_SIZE]⟩]

/-- Every register of the stkwin window. -/
def stkwinRows : List RegRow := stkwinRows0

/-- Registers of the tenant windows, part 0. -/
def tenantRows0 : List RegRow :=
  [⟨.tenant, 0x0, 4, [Reg.TEN_ID_TENANT, Reg.TEN_ID_ACTIVE]⟩,
   ⟨.tenant, 0x100, 8, [Reg.TEN_EP_CLOSE_EPOCH, Reg.TEN_EP_CLOSE_OP]⟩,
   ⟨.tenant, 0x108, 8, [Reg.TEN_EP_STATUS_OPEN, Reg.TEN_EP_STATUS_BUSY, Reg.TEN_EP_STATUS_CUT, Reg.TEN_EP_STATUS_RESULT, Reg.TEN_EP_STATUS_DROPPED]⟩,
   ⟨.tenant, 0x110, 4, [Reg.TEN_EP_LAST_EPOCH]⟩,
   ⟨.tenant, 0x118, 4, [Reg.TEN_COLO_REQ_REQ]⟩,
   ⟨.tenant, 0x11C, 4, [Reg.TEN_COLO_STATUS_BUSY, Reg.TEN_COLO_STATUS_RESULT]⟩,
   ⟨.tenant, 0x120, 4, [Reg.TEN_COLO_NUM_COLNUM]⟩,
   ⟨.tenant, 0x128, 4, [Reg.TEN_REC_HEAD_OFFSET]⟩,
   ⟨.tenant, 0x12C, 4, [Reg.TEN_REC_TAIL_OFFSET]⟩,
   ⟨.tenant, 0x130, 4, [Reg.TEN_DG_CTRL_TRLAYER, Reg.TEN_DG_CTRL_DGTRACE]⟩,
   ⟨.tenant, 0x140, 48, [Reg.TEN_EP_CHAIN_HEAD]⟩,
   ⟨.tenant, 0x200, 8, [Reg.TEN_TLY_REQ_REQID]⟩,
   ⟨.tenant, 0x208, 4, [Reg.TEN_TLY_STATUS_BUSY, Reg.TEN_TLY_STATUS_RESULT, Reg.TEN_TLY_STATUS_DROPPED]⟩,
   ⟨.tenant, 0x20C, 4, [Reg.TEN_TLY_CTRL_AUTO]⟩,
   ⟨.tenant, 0x210, 32, [Reg.TEN_TLY_LAST_ENERGY, Reg.TEN_TLY_LAST_STNUM, Reg.TEN_TLY_LAST_SWTO, Reg.TEN_TLY_LAST_ACCCLASS, Reg.TEN_TLY_LAST_UNANCHORED, Reg.TEN_TLY_LAST_GAP]⟩,
   ⟨.tenant, 0x300, 4, [Reg.TEN_DBG_SEL_X, Reg.TEN_DBG_SEL_Y]⟩,
   ⟨.tenant, 0x308, 28, [Reg.TEN_DBG_LAST_LAST]⟩]

/-- Every register of the tenant window. -/
def tenantRows : List RegRow := tenantRows0

/-- Registers of the hub windows, part 0. -/
def hubRows0 : List RegRow :=
  [⟨.hub, 0x0, 4, [Reg.RH_ID_SRCID]⟩,
   ⟨.hub, 0x4, 4, [Reg.RH_POS_RX, Reg.RH_POS_RY, Reg.RH_POS_SPINE]⟩,
   ⟨.hub, 0x400, 4, [Reg.RH_RD_CTRL_SHARE, Reg.RH_RD_CTRL_PADEN]⟩,
   ⟨.hub, 0x404, 4, [Reg.RH_RD_PAD_PADLEN]⟩,
   ⟨.hub, 0x408, 4, [Reg.RH_RD_BUSY_COL]⟩,
   ⟨.hub, 0x40C, 4, [Reg.RH_RD_NOREADER_COL]⟩,
   ⟨.hub, 0x410, 4, [Reg.RH_RD_EVENT_DISAGREE, Reg.RH_RD_EVENT_RDMIN, Reg.RH_RD_EVENT_WKMIN, Reg.RH_RD_EVENT_NOMAJ, Reg.RH_RD_EVENT_NOTHIRD, Reg.RH_RD_EVENT_ABANDON, Reg.RH_RD_EVENT_OVERRUN, Reg.RH_RD_EVENT_IFTSHORT, Reg.RH_RD_EVENT_STEPVOID, Reg.RH_RD_EVENT_NOREADER]⟩,
   ⟨.hub, 0x420, 32, [Reg.RH_RD_LAST_WSA, Reg.RH_RD_LAST_WSB, Reg.RH_RD_LAST_GSA, Reg.RH_RD_LAST_GSB, Reg.RH_RD_LAST_TSA, Reg.RH_RD_LAST_TSB, Reg.RH_RD_LAST_TENANT, Reg.RH_RD_LAST_WCOL, Reg.RH_RD_LAST_WROW, Reg.RH_RD_LAST_GROW, Reg.RH_RD_LAST_TCOL, Reg.RH_RD_LAST_TROW, Reg.RH_RD_LAST_RESULT, Reg.RH_RD_LAST_TVALID, Reg.RH_RD_LAST_HTAG]⟩,
   ⟨.hub, 0x440, 4, [Reg.RH_RD_TSEL_TENANT]⟩,
   ⟨.hub, 0x448, 4, [Reg.RH_RD_TCHOSEN_COUNT]⟩,
   ⟨.hub, 0x44C, 4, [Reg.RH_RD_TAGREE_COUNT]⟩,
   ⟨.hub, 0x450, 4, [Reg.RH_RD_TWMIN_COUNT]⟩,
   ⟨.hub, 0x454, 4, [Reg.RH_RD_TGMIN_COUNT]⟩,
   ⟨.hub, 0x458, 4, [Reg.RH_RD_TNOMAJ_COUNT]⟩,
   ⟨.hub, 0x45C, 4, [Reg.RH_RD_TABAND_COUNT]⟩,
   ⟨.hub, 0x460, 4, [Reg.RH_RD_TUNREAD_COUNT]⟩,
   ⟨.hub, 0x464, 4, [Reg.RH_RD_TOVR_COUNT]⟩,
   ⟨.hub, 0x468, 8, [Reg.RH_RD_TMACS_COUNT]⟩,
   ⟨.hub, 0x470, 8, [Reg.RH_RD_TELEMS_COUNT]⟩,
   ⟨.hub, 0x500, 4, [Reg.RH_IFT_CTRL_MWEN, Reg.RH_IFT_CTRL_NPAT]⟩]

/-- Registers of the hub windows, part 1. -/
def hubRows1 : List RegRow :=
  [⟨.hub, 0x504, 4, [Reg.RH_MW_THR_B0, Reg.RH_MW_THR_B1, Reg.RH_MW_THR_B2, Reg.RH_MW_THR_B3]⟩,
   ⟨.hub, 0x508, 4, [Reg.RH_MW_TREND_HORIZON, Reg.RH_MW_TREND_MINN, Reg.RH_MW_TREND_MINSPAN, Reg.RH_MW_TREND_TRENDEN]⟩,
   ⟨.hub, 0x50C, 4, [Reg.RH_IFT_OVERDUE_DWELLS]⟩,
   ⟨.hub, 0x510, 4, [Reg.RH_IFT_EVENT_IFTFAIL, Reg.RH_IFT_EVENT_TRANSIENT, Reg.RH_IFT_EVENT_MWLOW, Reg.RH_IFT_EVENT_MWTREND, Reg.RH_IFT_EVENT_CSHKTO, Reg.RH_IFT_EVENT_OVERDUE, Reg.RH_IFT_EVENT_EXPOVF, Reg.RH_IFT_EVENT_BANDCHG]⟩,
   ⟨.hub, 0x520, 4, [Reg.RH_MW_SEL_TILE]⟩,
   ⟨.hub, 0x528, 16, [Reg.RH_MW_SUM_NVALID, Reg.RH_MW_SUM_LOWRUN, Reg.RH_MW_SUM_FIT, Reg.RH_MW_SUM_PRED, Reg.RH_MW_SUM_LASTSECS]⟩,
   ⟨.hub, 0x800, 4, [Reg.RH_CAT_CTRL_TREN]⟩,
   ⟨.hub, 0x804, 4, [Reg.RH_CAT_DWELL_MS]⟩,
   ⟨.hub, 0x808, 4, [Reg.RH_CAT_TRLIST_PERIOD, Reg.RH_CAT_TRLIST_PHASE]⟩,
   ⟨.hub, 0x80C, 4, [Reg.RH_CAT_HOLD_COL]⟩,
   ⟨.hub, 0x810, 4, [Reg.RH_CAT_WALK_COL]⟩,
   ⟨.hub, 0x814, 4, [Reg.RH_CAT_EVENT_STALE, Reg.RH_CAT_EVENT_STALELOST, Reg.RH_CAT_EVENT_AHEAD, Reg.RH_CAT_EVENT_SUSPECT, Reg.RH_CAT_EVENT_PARK, Reg.RH_CAT_EVENT_EXHAUST, Reg.RH_CAT_EVENT_CLOSE, Reg.RH_CAT_EVENT_TRMISS, Reg.RH_CAT_EVENT_HOLDVOID]⟩,
   ⟨.hub, 0x818, 4, [Reg.RH_CAT_STALE_COUNT]⟩,
   ⟨.hub, 0x900, 4, [Reg.RH_FL_STATUS_OPEN, Reg.RH_FL_STATUS_BEHIND]⟩,
   ⟨.hub, 0x904, 4, [Reg.RH_FL_LAST_NUMBER]⟩,
   ⟨.hub, 0x908, 4, [Reg.RH_FL_EVENT_LATE, Reg.RH_FL_EVENT_VOTEVOID, Reg.RH_FL_EVENT_REPLAY, Reg.RH_FL_EVENT_REBUILT, Reg.RH_FL_EVENT_DUP]⟩,
   ⟨.hub, 0x90C, 4, [Reg.RH_FL_LATE_COUNT]⟩,
   ⟨.hub, 0xA00, 4, [Reg.RH_FLT_STATUS_BUCKETS, Reg.RH_FLT_STATUS_QUEUE, Reg.RH_FLT_STATUS_PHASE]⟩,
   ⟨.hub, 0xA04, 4, [Reg.RH_FLT_EVENT_L1RAISED, Reg.RH_FLT_EVENT_EVICT, Reg.RH_FLT_EVENT_RFIPAR, Reg.RH_FLT_EVENT_RFIUNK, Reg.RH_FLT_EVENT_QFULL]⟩,
   ⟨.hub, 0xA08, 4, [Reg.RH_FLT_EVICT_COUNT]⟩]

/-- Registers of the hub windows, part 2. -/
def hubRows2 : List RegRow :=
  [⟨.hub, 0xA0C, 4, [Reg.RH_FLT_RFICNT_COUNT]⟩,
   ⟨.hub, 0xA10, 4, [Reg.RH_FLT_BSEL_ENTRY]⟩,
   ⟨.hub, 0xA14, 4, [Reg.RH_FLT_FIRSTVAL_VALID]⟩,
   ⟨.hub, 0xA18, 8, [Reg.RH_FLT_BKT_KEY, Reg.RH_FLT_BKT_KIND, Reg.RH_FLT_BKT_LEVEL, Reg.RH_FLT_BKT_NEXTLEAK]⟩,
   ⟨.hub, 0xA40, 32, [Reg.RH_FLT_FIRST_MSG, Reg.RH_FLT_FIRST_GT]⟩,
   ⟨.hub, 0xB00, 4, [Reg.RH_WD_CTRL_WDT, Reg.RH_WD_CTRL_EN]⟩,
   ⟨.hub, 0xB04, 4, [Reg.RH_WD_STATUS_CTX, Reg.RH_WD_STATUS_OWING, Reg.RH_WD_STATUS_RSTCTX, Reg.RH_WD_STATUS_RSTENG]⟩,
   ⟨.hub, 0xB08, 4, [Reg.RH_WD_EVENT_TRIP, Reg.RH_WD_EVENT_CLRFAIL, Reg.RH_WD_EVENT_PARKRUN, Reg.RH_WD_EVENT_OVF]⟩,
   ⟨.hub, 0xB0C, 4, [Reg.RH_WD_TSEL_TENANT]⟩,
   ⟨.hub, 0xB10, 8, [Reg.RH_WD_TCTX_COUNT, Reg.RH_WD_TCTX_OWING, Reg.RH_WD_TCTX_SUSPECT, Reg.RH_WD_TCTX_PARKED, Reg.RH_WD_TCTX_TRACKED, Reg.RH_WD_TCTX_TRIPS]⟩,
   ⟨.hub, 0xC00, 4, [Reg.RH_TH_STATUS_TEST, Reg.RH_TH_STATUS_BAND, Reg.RH_TH_STATUS_THR]⟩,
   ⟨.hub, 0xC04, 4, [Reg.RH_TH_CTRL_TTHR, Reg.RH_TH_CTRL_GAIN, Reg.RH_TH_CTRL_HYST]⟩,
   ⟨.hub, 0xC08, 4, [Reg.RH_TH_AMB_AMB]⟩,
   ⟨.hub, 0xC0C, 4, [Reg.RH_EN_VLOC_MV]⟩,
   ⟨.hub, 0xC10, 4, [Reg.RH_EN_EVENT_B4, Reg.RH_EN_EVENT_NBMISS, Reg.RH_EN_EVENT_ENOVF, Reg.RH_EN_EVENT_UNANCH]⟩,
   ⟨.hub, 0xC14, 4, [Reg.RH_EN_TSEL_TENANT]⟩,
   ⟨.hub, 0xC18, 32, [Reg.RH_EN_TCTR_COUNT, Reg.RH_EN_TCTR_BASE, Reg.RH_EN_TCTR_FRAC, Reg.RH_EN_TCTR_UA, Reg.RH_EN_TCTR_VALID]⟩,
   ⟨.hub, 0xD00, 4, [Reg.RH_LG_CTRL_BURST, Reg.RH_LG_CTRL_REFILLMS]⟩,
   ⟨.hub, 0xD04, 4, [Reg.RH_LG_SUPP_COUNT]⟩,
   ⟨.hub, 0xD08, 4, [Reg.RH_LG_EVENT_SUPP, Reg.RH_LG_EVENT_OVF]⟩]

/-- Registers of the hub windows, part 3. -/
def hubRows3 : List RegRow :=
  [⟨.hub, 0xE00, 4, [Reg.RH_PW_VTGT_MV]⟩,
   ⟨.hub, 0xE04, 4, [Reg.RH_PW_STATUS_TRANS, Reg.RH_PW_STATUS_STAGE, Reg.RH_PW_STATUS_VEXC, Reg.RH_PW_STATUS_TEXC]⟩,
   ⟨.hub, 0xE08, 4, [Reg.RH_PW_EVENT_VEXC, Reg.RH_PW_EVENT_TEXC, Reg.RH_PW_EVENT_STAGE, Reg.RH_PW_EVENT_NBMISS]⟩,
   ⟨.hub, 0xF00, 4, [Reg.RH_TR_CTRL_CLASSEN, Reg.RH_TR_CTRL_SAMPLE]⟩,
   ⟨.hub, 0xF04, 4, [Reg.RH_TR_FILT_TENANT, Reg.RH_TR_FILT_ANYT, Reg.RH_TR_FILT_LAYER, Reg.RH_TR_FILT_ANYL]⟩,
   ⟨.hub, 0xF08, 4, [Reg.RH_TR_STATUS_FILL, Reg.RH_TR_STATUS_HEAD]⟩,
   ⟨.hub, 0xF0C, 4, [Reg.RH_TR_DROPS_COUNT]⟩,
   ⟨.hub, 0xF10, 4, [Reg.RH_TR_EVENT_DROP, Reg.RH_TR_EVENT_HALF]⟩]

/-- Every register of the hub window. -/
def hubRows : List RegRow := hubRows0 ++ hubRows1 ++ hubRows2 ++ hubRows3

/-- Registers of the probe windows, part 0. -/
def probeRows0 : List RegRow :=
  [⟨.probe, 0x0, 4, [Reg.TP_ID_SRCID]⟩,
   ⟨.probe, 0x4, 4, [Reg.TP_STATUS_FSTATE, Reg.TP_STATUS_FENCE, Reg.TP_STATUS_POWERED, Reg.TP_STATUS_SLOTBUSY, Reg.TP_STATUS_HEAD, Reg.TP_STATUS_BAND, Reg.TP_STATUS_FLTWAIT, Reg.TP_STATUS_XOWN, Reg.TP_STATUS_RETRIES]⟩,
   ⟨.probe, 0x8, 4, [Reg.TP_CTRL_RETRY, Reg.TP_CTRL_FENCE_REQ]⟩,
   ⟨.probe, 0xC, 4, [Reg.TP_EVENT_CHKFAIL, Reg.TP_EVENT_TAPPAR, Reg.TP_EVENT_TAGBAD, Reg.TP_EVENT_OVERLAP, Reg.TP_EVENT_ECCC, Reg.TP_EVENT_ECCU, Reg.TP_EVENT_HDRERR, Reg.TP_EVENT_CNTERR, Reg.TP_EVENT_RETRYTO, Reg.TP_EVENT_RETRYPASS, Reg.TP_EVENT_BANDSTOP, Reg.TP_EVENT_NELCLIP]⟩,
   ⟨.probe, 0x10, 4, [Reg.TP_LAST_OUTCOME, Reg.TP_LAST_SLOT, Reg.TP_LAST_HTAG, Reg.TP_LAST_TENANT]⟩,
   ⟨.probe, 0x14, 4, [Reg.TP_HDRERR_CODE, Reg.TP_HDRERR_HTAG, Reg.TP_HDRERR_TENANT]⟩,
   ⟨.probe, 0x18, 8, [Reg.TP_TAGERR_TAG, Reg.TP_TAGERR_REASON, Reg.TP_TAGERR_SRCX, Reg.TP_TAGERR_SRCY, Reg.TP_TAGERR_FMTBAD]⟩,
   ⟨.probe, 0x20, 4, [Reg.TP_CTXSEL_SEL]⟩,
   ⟨.probe, 0x24, 4, [Reg.TP_CTXTEN_TENANT, Reg.TP_CTXTEN_VALID]⟩,
   ⟨.probe, 0x28, 4, [Reg.TP_CTXCNT_CMDCNT]⟩,
   ⟨.probe, 0x30, 8, [Reg.TP_CTXKEY_KEYLO]⟩,
   ⟨.probe, 0x38, 4, [Reg.TP_CTXKEYH_KEYHI]⟩,
   ⟨.probe, 0x40, 32, [Reg.TP_CAPTURE_PA, Reg.TP_CAPTURE_TA, Reg.TP_CAPTURE_PB, Reg.TP_CAPTURE_TB, Reg.TP_CAPTURE_CMDCNT, Reg.TP_CAPTURE_TENANT, Reg.TP_CAPTURE_OUTCOME, Reg.TP_CAPTURE_BAND, Reg.TP_CAPTURE_DATAFLOW, Reg.TP_CAPTURE_STEPS, Reg.TP_CAPTURE_GTLO]⟩,
   ⟨.probe, 0x60, 4, [Reg.TP_CSHK_STEP, Reg.TP_CSHK_ACK]⟩,
   ⟨.probe, 0x64, 4, [Reg.TP_SHELF_X, Reg.TP_SHELF_Y, Reg.TP_SHELF_VALID]⟩,
   ⟨.probe, 0x80, 4, [Reg.TP_CNT0_COUNT]⟩,
   ⟨.probe, 0x84, 4, [Reg.TP_CNT1_COUNT]⟩,
   ⟨.probe, 0x88, 4, [Reg.TP_CNT2_COUNT]⟩,
   ⟨.probe, 0x8C, 4, [Reg.TP_CNT3_COUNT]⟩,
   ⟨.probe, 0x90, 4, [Reg.TP_CNT4_COUNT]⟩]

/-- Registers of the probe windows, part 1. -/
def probeRows1 : List RegRow :=
  [⟨.probe, 0x94, 4, [Reg.TP_CNT5_COUNT]⟩,
   ⟨.probe, 0x98, 4, [Reg.TP_CNT6_COUNT]⟩,
   ⟨.probe, 0x9C, 4, [Reg.TP_CNT7_COUNT]⟩,
   ⟨.probe, 0xA0, 28, [Reg.TP_CNT_LAST_TENANT, Reg.TP_CNT_LAST_HTAG, Reg.TP_CNT_LAST_SLOT, Reg.TP_CNT_LAST_OUTCOME, Reg.TP_CNT_LAST_VALID, Reg.TP_CNT_LAST_LAYER, Reg.TP_CNT_LAST_OPERATOR, Reg.TP_CNT_LAST_D]⟩,
   ⟨.probe, 0xBC, 4, [Reg.TP_CNTSEL_EV6, Reg.TP_CNTSEL_EV7]⟩,
   ⟨.probe, 0xC0, 4, [Reg.TP_IFT_STATUS_ISTATE, Reg.TP_IFT_STATUS_PAT, Reg.TP_IFT_STATUS_STEP, Reg.TP_IFT_STATUS_PASS, Reg.TP_IFT_STATUS_MWEN]⟩,
   ⟨.probe, 0xC4, 4, [Reg.TP_IFT_VISIT_VISITS]⟩,
   ⟨.probe, 0xC8, 4, [Reg.TP_IFT_TIME_TIME]⟩,
   ⟨.probe, 0xCC, 4, [Reg.TP_IFT_FAIL_PAT, Reg.TP_IFT_FAIL_KIND, Reg.TP_IFT_FAIL_STEP, Reg.TP_IFT_FAIL_PASS, Reg.TP_IFT_FAIL_CONFIRMED]⟩,
   ⟨.probe, 0xD0, 16, [Reg.TP_IFT_SIG_SA, Reg.TP_IFT_SIG_SB, Reg.TP_IFT_SIG_BEATS, Reg.TP_IFT_SIG_OUTCOME, Reg.TP_IFT_SIG_PAT]⟩,
   ⟨.probe, 0xE0, 4, [Reg.TP_MW_LAST_MARGIN, Reg.TP_MW_LAST_BAND, Reg.TP_MW_LAST_VALID, Reg.TP_MW_LAST_BANDCHG, Reg.TP_MW_LAST_CSHKTO, Reg.TP_MW_LAST_B4STOP, Reg.TP_MW_LAST_RESTARTS, Reg.TP_MW_LAST_WOBBLES]⟩]

/-- Every register of the probe window. -/
def probeRows : List RegRow := probeRows0 ++ probeRows1

/-- The registers of a window. -/
def Win.rows : Win → List RegRow
  | .kiln => kilnRows | .clp => clpRows | .channel => channelRows | .stkwin => stkwinRows
  | .tenant => tenantRows | .hub => hubRows | .probe => probeRows

end Sys2Proof.Machine
end

