-- ==== Sys2Proof/Machine/Messages.lean ====
section
/-! DEFINITION. The Flue messages, one builder for each opcode, with the fields of its opcode table packed into ARG and the
payload flits. A sender and the receiver of a message name it by the same builder. `r` is a region and `t` a
tile-within-region; `acc` is the accession number that a hub puts into ARG [19:0] of a message to a probe (R160). -/

namespace Sys2Proof.Machine

/-- From a probe to its hub. -/
def Msg.up (r t op arg : Nat) (payload : List Flit) : Msg := Msg.mk' (hubSrc r) (probeSrc r t) op arg payload

/-- From a hub to a probe of its region, with the accession number it expects. -/
def Msg.down (r t op acc arg : Nat) (payload : List Flit) : Msg :=
  Msg.mk' (probeSrc r t) (hubSrc r) op (wrap 20 acc + arg) payload

/-- From a hub to a unit of the Kiln. -/
def Msg.toKiln (r unit op arg : Nat) (payload : List Flit) : Msg := Msg.mk' (kilnSrc unit 0) (hubSrc r) op arg payload

/-- From a unit of the Kiln to a hub. -/
def Msg.toHub (unit r op arg : Nat) (payload : List Flit) : Msg := Msg.mk' (hubSrc r) (kilnSrc unit 0) op arg payload

/-- Broadcast from a unit of the Kiln to every hub: DEST region 0x7FE. -/
def Msg.broadcast (unit op arg : Nat) (payload : List Flit) : Msg := Msg.mk' (hubSrc 0x7FE) (kilnSrc unit 0) op arg payload

/-- TIME (R30). -/
def msgTime (round gt : Nat) : Msg := Msg.mk' 0xFFFFFFFF (kilnSrc 0x1F 3) 0xC0 (wrap 25 round) [flit [(0, 64, gt)]]

/-! ## Register access (R495) -/

/-- RG_READ. -/
def msgRgRead (dest tag tenant off : Nat) (sz64 : Bool) : Msg :=
  { dest := dest, src := kilnSrc 0x1F 0, tag := tag, op := 0x00, tenant := tenant,
    arg := pack [(0, 16, off), (16, 1, flag sz64)], payload := [] }
/-- RG_WRITE. -/
def msgRgWrite (dest tag tenant off : Nat) (sz64 : Bool) (data : Nat) : Msg :=
  { dest := dest, src := kilnSrc 0x1F 0, tag := tag, op := 0x01, tenant := tenant,
    arg := pack [(0, 16, off), (16, 1, flag sz64)], payload := [flit [(0, 64, data)]] }
/-- RG_RDATA. -/
def msgRgRdata (src tag status data : Nat) : Msg :=
  { dest := kilnSrc 0x1F 0, src := src, tag := tag, op := 0x02, tenant := 0, arg := wrap 3 status,
    payload := [flit [(0, 64, data)]] }
/-- RG_WACK. -/
def msgRgWack (src tag status : Nat) : Msg :=
  { dest := kilnSrc 0x1F 0, src := src, tag := tag, op := 0x03, tenant := 0, arg := wrap 3 status, payload := [] }
/-- MR_READ. -/
def msgMrRead (r tag off : Nat) (sz64 lens : Bool) : Msg :=
  { dest := hubSrc r, src := kilnSrc 0x1F 0, tag := tag, op := 0x04, tenant := 0,
    arg := pack [(0, 23, off), (23, 1, flag sz64), (24, 1, flag lens)], payload := [] }

/-! ## Folio (R192) -/

/-- FL_PROPOSE. -/
def msgFlPropose (r part pid : Nat) (last urgent : Bool) (recs : List Flit) : Msg :=
  { Msg.toKiln r 0x19 0x20 (pack [(0, 6, part), (6, 1, flag last), (7, 5, pid), (12, 1, flag urgent)]) recs with tag := pid }
/-- FL_ACCEPT. -/
def msgFlAccept (r pid result number : Nat) : Msg :=
  { Msg.toHub 0x19 r 0x21 (wrap 2 result) [flit [(0, 32, number)]] with tag := pid }
/-- Source ID of a Folio participant: a hub, a Kiln unit (2048 + unit) or the engine of a link (4096 + CLP) (R169, R197). -/
def partSrc (who : Nat) : Nat :=
  if who < 2048 then hubSrc who
  else if who < 4096 then
    (match who - 2048 with
     | 0 => kilnSrc 0x1A 0 | 1 => kilnSrc 0x1C 0 | 2 => kilnSrc 0x1D 31 | 3 => kilnSrc 0x1F 5 | _ => kilnSrc 0x1B 0)
  else kilnSrc 0x1B (who - 4096)
/-- From the coordinator to a participant: 0x7FE is every hub (R192). The TAG is the low half of the Folio number (assumption 141). -/
def Msg.toPart (who number op arg : Nat) (payload : List Flit) : Msg :=
  { Msg.mk' (partSrc who) (kilnSrc 0x19 0) op arg payload with tag := wrap 16 number }
/-- From a participant to the coordinator, with the TAG of the request that it answers. -/
def Msg.fromPart (who number op arg : Nat) (payload : List Flit) : Msg :=
  { Msg.mk' (kilnSrc 0x19 0) (partSrc who) op arg payload with tag := wrap 16 number }
/-- FL_PREP. -/
def msgFlPrep (who part : Nat) (last replay : Bool) (number tenant count gt : Nat) (recs : List Flit) : Msg :=
  Msg.toPart who number 0x22 (pack [(0, 6, part), (6, 1, flag last), (7, 1, flag replay)])
    (flit [(0, 32, number), (32, 12, tenant), (44, 9, count), (64, 64, gt)] :: recs)
/-- FL_VOTE. -/
def msgFlVote (who number code gt : Nat) : Msg :=
  Msg.fromPart who number 0x23 (wrap 4 code) [flit [(0, 32, number), (32, 32, gt)]]
/-- FL_SEAL. -/
def msgFlSeal (who number : Nat) (replay : Bool) (t : Nat) : Msg :=
  Msg.toPart who number 0x24 (flag replay) [flit [(0, 32, number), (64, 64, t)]]
/-- FL_VOID. -/
def msgFlVoid (who number reason : Nat) : Msg := Msg.toPart who number 0x25 0 [flit [(0, 32, number), (32, 4, reason)]]
/-- FL_DONE. -/
def msgFlDone (who number : Nat) (late voidAck dup : Bool) (gt : Nat) : Msg :=
  Msg.fromPart who number 0x26 0 [flit [(0, 32, number), (32, 1, flag late), (33, 1, flag voidAck), (34, 1, flag dup), (64, 64, gt)]]
/-- FL_SYNC. -/
def msgFlSync (r last : Nat) : Msg := Msg.toKiln r 0x19 0x27 0 [flit [(0, 32, last)]]
/-- FL_SYNCACK. -/
def msgFlSyncack (r count : Nat) (failed : Bool) : Msg := Msg.toHub 0x19 r 0x28 0 [flit [(0, 6, count), (6, 1, flag failed)]]
/-- FL_TDROP. -/
def msgFlTdrop (r t acc tenant instant : Nat) : Msg := Msg.down r t 0x29 acc 0 [flit [(0, 12, tenant), (64, 64, instant)]]

/-! ## Catalogue and gap (R165) -/

/-- CAT_CTX. -/
def msgCatCtx (r t acc : Nat) (install : Bool) (tenant key d : Nat) : Msg :=
  Msg.down r t 0x40 acc (flag install <<< 20) [flit [(0, 12, tenant), (12, 80, key), (92, 5, d)]]
/-- CAT_ROLE. -/
def msgCatRole (r t acc role x y newAcc : Nat) (send : Bool) (sendDir : Nat) (recv fromLower : Bool) (hops gt : Nat) : Msg :=
  Msg.down r t 0x41 acc 0 [flit [(0, 2, role), (2, 11, x), (13, 10, y), (23, 20, newAcc), (43, 1, flag send),
    (44, 1, sendDir), (45, 1, flag recv), (46, 1, flag fromLower), (47, 2, hops), (64, 64, gt)]]
/-- CAT_MOVED. -/
def msgCatMoved (r t : Nat) (whole busy ecc timeout : Bool) (units : Nat) : Msg :=
  Msg.up r t 0x42 (pack [(0, 1, flag whole), (1, 1, flag busy), (2, 1, flag ecc), (3, 1, flag timeout), (4, 10, units)]) []
/-- CAT_HOLD. -/
def msgCatHold (r t acc : Nat) (hold : Bool) : Msg := Msg.down r t 0x43 acc (flag hold <<< 20) []
/-- CAT_IDLE. -/
def msgCatIdle (r t : Nat) : Msg := Msg.up r t 0x44 0 []
/-- CAT_REPORT. -/
def msgCatReport (r col state q1 q2 : Nat) (isPartial : Bool) (x y : Nat) : Msg :=
  Msg.toKiln r 0x1A 0x45 0 [flit [(0, 11, r), (11, 5, col), (16, 2, state), (18, 6, q1), (24, 6, q2), (30, 1, flag isPartial),
    (31, 11, x), (42, 11, y)]]
/-- CAT_BOUNCE of a message: the probe's accession number, code 1, the original header and payload. -/
def msgCatBounce (r t acc : Nat) (m : Msg) : Msg :=
  Msg.up r t 0x4E (pack [(0, 20, acc), (20, 4, 1)]) (m.header :: m.payload)

/-! ## Readings (R108) -/

/-- RD_REQ; its TAG is the command's HTAG (assumption 132). -/
def msgRdReq (r t slot : Nat) (h : Hdr) (sa sb beats u dom count gtlo : Nat) : Msg :=
  { Msg.up r t 0x60 (wrap 2 slot) (hdrFlits h ++
    [flit [(0, 31, sa), (32, 31, sb), (64, 20, beats), (84, 25, u), (109, 2, dom)], flit [(0, 32, count), (32, 24, gtlo)]]) with tag := h.htag }
/-- RD_COPY. -/
def msgRdCopy (r t acc : Nat) (flue : Bool) (dir slot : Nat) : Msg :=
  Msg.down r t 0x61 acc (pack [(20, 1, flag flue), (21, 1, dir), (22, 2, slot)]) []
/-- RD_ORDER. -/
def msgRdOrder (r t acc : Nat) (flue : Bool) (h : Hdr) (units hops dir count u dom : Nat) : Msg :=
  Msg.down r t 0x62 acc (pack [(20, 1, flag flue)]) (hdrFlits h ++
    [flit [(0, 10, units), (10, 6, hops), (16, 1, dir)], flit [(0, 32, count), (32, 25, u), (57, 2, dom)]])
/-- RD_REPORT. -/
def msgRdReport (r t sa sb beats : Nat) (isFault : Bool) : Msg :=
  Msg.up r t 0x63 0 [flit [(0, 31, sa), (32, 31, sb), (64, 20, beats), (84, 1, flag isFault)]]
/-- RD_AGREE; its TAG is the HTAG of the command that it answers (assumption 132). -/
def msgRdAgree (r t acc slot htag : Nat) (unread : Bool) : Msg :=
  { Msg.down r t 0x64 acc (pack [(20, 2, slot), (22, 1, flag unread)]) [] with tag := wrap 8 htag }
/-- RD_DISCARD; its TAG is the HTAG of the command that it answers (assumption 132). -/
def msgRdDiscard (r t acc slot htag : Nat) (fence : Bool) (reason : Nat) : Msg :=
  { Msg.down r t 0x65 acc (pack [(20, 2, slot), (22, 1, flag fence), (23, 2, reason)]) [] with tag := wrap 8 htag }
/-- RD_ABORT. -/
def msgRdAbort (r t acc : Nat) : Msg := Msg.down r t 0x66 acc 0 []
/-- RD_DATA from the worker. -/
def msgRdData (r t unit data : Nat) : Msg := Msg.up r t 0x67 (wrap 10 unit) (flitsOf 4 data)
/-- RD_DATA forwarded by the hub to a reader: the accession number stands in ARG (R160), and the unit address in TAG (assumption 133). -/
def msgRdDataDown (r t acc unit data : Nat) : Msg := { Msg.down r t 0x67 acc 0 (flitsOf 4 data) with tag := wrap 10 unit }

/-! ## In-field test (R137) -/

/-- IFT_START. -/
def msgIftStart (r t acc : Nat) (mwen : Bool) : Msg := Msg.down r t 0x70 acc (flag mwen <<< 20) []
/-- IFT_PAT: the accession number stands in ARG (R160), and the index in TAG, as in the IFT_GET that it answers (assumption 133). -/
def msgIftPat (r t acc index : Nat) (h : Hdr) (fill word sa sb beats : Nat) (margin : Bool) (cover : Nat) : Msg :=
  { Msg.down r t 0x71 acc 0 (hdrFlits h ++ [flit [(0, 2, fill), (2, 32, word), (34, 31, sa), (65, 31, sb), (96, 20, beats),
    (116, 1, flag margin), (117, 5, cover)]]) with tag := wrap 6 index }
/-- IFT_GET. -/
def msgIftGet (r t index : Nat) : Msg := Msg.up r t 0x72 (wrap 6 index) []
/-- IFT_RESULT. -/
def msgIftResult (r t pass : Nat) (complete allPassed : Bool) (first kind : Nat) (confirmed : Bool) (time : Nat) : Msg :=
  Msg.up r t 0x73 0 [flit [(0, 8, pass), (8, 1, flag complete), (9, 1, flag allPassed), (10, 6, first), (16, 3, kind),
    (19, 1, flag confirmed), (20, 32, time)]]
/-- MW_RESULT. -/
def msgMwResult (r t margin band : Nat) (valid bandchg cshkto : Bool) : Msg :=
  Msg.up r t 0x74 (pack [(0, 4, margin), (4, 3, band), (7, 1, flag valid), (8, 1, flag bandchg), (9, 1, flag cshkto)]) []
/-- IFT_STOP. -/
def msgIftStop (r t acc : Nat) (abandon : Bool) : Msg := Msg.down r t 0x75 acc (flag abandon <<< 20) []
/-- IFT_STOPPED. -/
def msgIftStopped (r t : Nat) : Msg := Msg.up r t 0x76 0 []
/-- EXP_REPORT. -/
def msgExpReport (r gt0 gt1 x y cover : Nat) (ovf : Bool) (seq : Nat) (last : Bool) (cause : Nat) (entries : List Flit) : Msg :=
  Msg.toKiln r 0x18 0x77 0 (flit [(0, 64, gt0), (64, 64, gt1)] :: flit [(0, 11, x), (11, 11, y), (22, 5, cover), (27, 1, flag ovf),
    (28, 5, entries.length), (33, 4, seq), (37, 1, flag last), (38, 1, cause)] :: entries)

/-! ## Faults (R217) -/

/-- FLT_FENCE to a probe. -/
def msgFltFence (r t acc : Nat) (fence : Bool) : Msg := Msg.down r t 0xD8 acc (flag fence <<< 20) []
/-- FLT_FENCE with ALL = 1, from the Kiln to a hub. -/
def msgFltFenceAll (r : Nat) (fence : Bool) : Msg := Msg.toHub 0x18 r 0xD8 (pack [(20, 1, flag fence), (21, 1, 1)]) []
/-- FLT_PHASE. -/
def msgFltPhase (phase : Nat) : Msg := Msg.broadcast 0x18 0xD9 (wrap 2 phase) []
/-- FLT_COUNT. -/
def msgFltCount (r : Nat) (m : FaultMsg) : Msg := Msg.toHub 0x18 r 0xDA 0 [m.flit]
/-- FLT_ACKHUB. -/
def msgFltAckhub (r : Nat) (raised : Bool) : Msg := Msg.toKiln r 0x18 0xDB (flag raised) []

/-! ## Watchdog and recovery (R241) -/

/-- WD_STAT, periodic (tag 0) or answering WD_CHECK (tag 1). -/
def msgWdStat (r t : Nat) (answer : Bool) (owing prog held : Nat) (gated : Bool) : Msg :=
  { Msg.up r t 0xD0 0 [flit [(0, 16, owing), (16, 16, prog), (32, 16, held), (48, 1, flag gated)]] with tag := flag answer }
/-- WD_DROP. -/
def msgWdDrop (r t acc tenant : Nat) (every : Bool) (instant : Nat) : Msg :=
  Msg.down r t 0xD1 acc 0 [flit [(0, 12, tenant), (12, 1, flag every), (64, 64, instant)]]
/-- WD_CHECK. -/
def msgWdCheck (r t acc : Nat) : Msg := Msg.down r t 0xD2 acc 0 []
/-- Ten tenants to a flit. -/
def tenantFlits (l : List Nat) : List Flit :=
  (chunksOf 10 l).map (fun c => flit ((c.zipIdx).map (fun e => (12 * e.2, 12, e.1))))
/-- WD_SET. -/
def msgWdSet (r : Nat) (suspects : List Nat) (more : Bool) : Msg :=
  Msg.toKiln r 0x18 0xD3 (pack [(0, 6, suspects.length), (6, 1, flag more)]) (tenantFlits suspects)
/-- RCV_ORDER. -/
def msgRcvOrder (r rung case instant : Nat) (tenants : List Nat) : Msg :=
  Msg.toHub 0x18 r 0xD4 (wrap 3 rung) (flit [(0, 16, case), (64, 64, instant)] :: tenantFlits tenants)
/-- RCV_DONE. -/
def msgRcvDone (r : Nat) (clear : Bool) (held case : Nat) : Msg :=
  Msg.toKiln r 0x18 0xD5 (pack [(0, 1, flag clear), (1, 6, saturate 6 held), (7, 16, case)]) []
/-- RCV_GRANT: 0 grant, 1 park, 2 release. -/
def msgRcvGrant (r tenant code : Nat) : Msg := Msg.toHub 0x18 r 0xD6 (pack [(0, 12, tenant), (12, 2, code)]) []

/-! ## Digests (R304) -/

/-- DG_REPORT. -/
def msgDgReport (r t tenant layer dA dB : Nat) (cut : Bool) (nslot nchunk nmvslot nmvchunk : Nat) : Msg :=
  Msg.up r t 0x98 0 [flit [(0, 12, tenant), (12, 16, layer), (28, 31, dA), (59, 31, dB), (90, 1, flag cut),
    (91, 16, nmvchunk >>> 24)], flit [(0, 32, nslot), (32, 40, nchunk), (72, 32, nmvslot), (104, 24, nmvchunk)]]
/-- DG_CUT. -/
def msgDgCut (r t acc tenant : Nat) (discard : Bool) : Msg :=
  Msg.down r t 0x99 acc 0 [flit [(0, 12, tenant), (12, 1, flag discard)]]
/-- DG_COVER. -/
def msgDgCover (r t tenant : Nat) (macs elems : List Nat) : Msg :=
  Msg.up r t 0x9A 0 (flitsOf 3 (pack ((macs.zipIdx.map (fun e => (48 * e.2, 48, e.1))) ++
    (elems.zipIdx.map (fun e => (192 + 40 * e.2, 40, e.1))) ++ [(352, 12, tenant)])))
/-- EP_CUT. -/
def msgEpCut (tenant : Nat) (discard : Bool) (epoch : Nat) : Msg :=
  Msg.broadcast 0x1F 0x9B 0 [flit [(0, 12, tenant), (12, 1, flag discard), (13, 32, epoch)]]
/-- EP_PART; the header's TENANT names the tenant (assumption 46). -/
def msgEpPart (r tenant part : Nat) (last : Bool) (payload : List Flit) : Msg :=
  { Msg.toKiln r 0x1F 0x9C (pack [(0, 6, part), (6, 1, flag last)]) payload with tenant := tenant }

/-! ## Metering and heat (R338, R462) -/

/-- EN_ACT. -/
def msgEnAct (r t tenant gt : Nat) (isPartial : Bool) (counts : List Nat) : Msg :=
  Msg.up r t 0x80 0 (flit [(0, 12, tenant), (12, 64, gt), (76, 1, flag isPartial)] ::
    flitsOf 3 (pack (counts.zipIdx.map (fun e => (36 * e.2, 36, e.1)))))
/-- EN_MARK. -/
def msgEnMark (r t acc instant : Nat) : Msg := Msg.down r t 0x81 acc 0 [flit [(64, 64, instant)]]
/-- EN_MODEL. -/
def msgEnModel (r gt total mv : Nat) : Msg := Msg.toKiln r 0x1D 0x82 0 [flit [(0, 64, gt), (64, 48, total), (112, 12, mv)]]
/-- EN_ANCHOR. -/
def msgEnAnchor (gt mask : Nat) (factors : List Nat) : Msg :=
  Msg.broadcast 0x1D 0x83 0 (flit [(0, 64, gt), (64, 8, mask)] :: flitsOf 2 (pack (factors.zipIdx.map (fun e => (32 * e.2, 32, e.1)))))
/-- TL_REPORT, two entries to a flit: tenant, UA and delta. -/
def msgTlReport (r part : Nat) (last single : Bool) (sweep : Nat) (entries : List (Nat × Bool × Nat)) : Msg :=
  Msg.toKiln r 0x1D 0x84 (pack [(0, 6, part), (6, 1, flag last), (7, 1, flag single)]) (flit [(0, 32, sweep)] ::
    (chunksOf 2 entries).map (fun c => flit (c.zipIdx.flatMap (fun e =>
      [(64 * e.2, 12, e.1.1), (64 * e.2 + 12, 1, flag e.1.2.1), (64 * e.2 + 13, 51, e.1.2.2)]))))
/-- TL_COMMIT. -/
def msgTlCommit (discard : Bool) (code sweep : Nat) (single : Bool) (tenant : Nat) : Msg :=
  Msg.broadcast 0x1D 0x85 (pack [(0, 1, flag discard), (1, 3, code)]) [flit [(0, 32, sweep), (32, 1, flag single), (33, 12, tenant)]]
/-- TH_NB, from a hub to a mesh neighbour. -/
def msgThNb (src dest t : Nat) : Msg := Msg.mk' (hubSrc dest) (hubSrc src) 0x86 (wrap 16 t) []
/-- BH_RERUN. -/
def msgBhRerun (r t acc : Nat) : Msg := Msg.down r t 0x87 acc 0 []
/-- PW_NB, from a hub to a mesh neighbour. -/
def msgPwNb (src dest mv : Nat) : Msg := Msg.mk' (hubSrc dest) (hubSrc src) 0xC6 (wrap 12 mv) []

/-! ## Trace, Stacker, Ledger and bring-up (R481, R371, R409, R435) -/

/-- TR_REC. -/
def msgTrRec (r t drops : Nat) (recs : List Flit) : Msg := Msg.up r t 0xA0 (wrap 16 drops) recs
/-- TR_LEVEL. -/
def msgTrLevel (r held : Nat) : Msg := Msg.toKiln r 0x1F 0xA1 (wrap 13 held) []
/-- TR_CUT. -/
def msgTrCut (r : Nat) : Msg := Msg.toHub 0x1F r 0xA2 0 []
/-- TR_RUN. -/
def msgTrRun (r first count : Nat) : Msg := Msg.toKiln r 0x1F 0xA3 (pack [(0, 12, first), (12, 13, count)]) []
/-- TR_FREE. -/
def msgTrFree (r count : Nat) : Msg := Msg.toHub 0x1F r 0xA4 (wrap 13 count) []
/-- SK_READ. -/
def msgSkRead (r tag part off flits : Nat) : Msg :=
  Msg.toHub 0x1C r 0xA8 (pack [(0, 8, tag), (8, 2, part)]) [flit [(0, 23, off), (23, 3, flits - 1)]]
/-- SK_DATA. -/
def msgSkData (r tag status : Nat) (data : List Flit) : Msg := Msg.toKiln r 0x1C 0xA9 (pack [(0, 8, tag), (8, 3, status)]) data
/-- LG_SUPP. -/
def msgLgSupp (r kind count src gt : Nat) : Msg :=
  Msg.toKiln r 0x1F 0xBC 0 [flit [(0, 12, kind), (12, 32, count), (44, 32, src), (76, 32, gt)]]
/-- CH_DATA. -/
def msgChData (r part : Nat) (last : Bool) (sect : Nat) (entries : List Flit) : Msg :=
  Msg.toHub 0x1F r 0xC8 (pack [(0, 6, part), (6, 1, flag last), (7, 4, sect)]) entries
/-- CH_ACK. -/
def msgChAck (r : Nat) (valid : Bool) (sect : Nat) : Msg := Msg.toKiln r 0x1F 0xC9 (pack [(0, 1, flag valid), (1, 4, sect)]) []
/-- PST_RESULT. -/
def msgPstResult (r t mask : Nat) : Msg := Msg.up r t 0xCA (wrap 8 mask) []
/-- PST_SUM. -/
def msgPstSum (r failures : Nat) (tiles : List Nat) : Msg :=
  Msg.toKiln r 0x1F 0xCB 0 [flit ((0, 11, failures) :: (tiles.take 9).zipIdx.map (fun e => (11 + 11 * e.2, 11, e.1)))]

end Sys2Proof.Machine
end

