-- ==== Sys2Proof/Machine/StateProbe.lean ====
section
/-! DEFINITION. The state of a tile probe with its Tap (R16, R72–R97, R99–R103, R106, R126, R147, R286, R312, R465, R466).
Every field's default is its value after PORB; assumption 1 names those the spec gives no reset value for. -/

namespace Sys2Proof.Machine

/-- Outcomes of a command (R66). -/
inductive CheckOutcome where
  | pass | failA | failB | failAB | na | unchecked | tapParity | bandStop
  deriving DecidableEq, Repr

/-- Outcome codes (R66). -/
def CheckOutcome.code : CheckOutcome → Nat
  | .pass => 0 | .failA => 1 | .failB => 2 | .failAB => 3 | .na => 4 | .unchecked => 5 | .tapParity => 6 | .bandStop => 7

/-- States of a gate slot (R88). -/
inductive SlotState where
  | free | active | releasable | released | reading | failed | bandheld
  deriving DecidableEq, Repr

/-- Slot state codes of the probe deep record (R499). -/
def SlotState.code : SlotState → Nat
  | .free => 0 | .active => 1 | .releasable => 2 | .released => 3 | .reading => 4 | .failed => 5 | .bandheld => 6

/-- Fence states (R94); the codes are those of TP_STATUS.FSTATE. -/
inductive FenceState where
  | opened | retry | fenced | quenched | gap | stopped
  deriving DecidableEq, Repr

/-- FSTATE codes (R97). -/
def FenceState.code : FenceState → Nat
  | .opened => 0 | .retry => 1 | .fenced => 2 | .quenched => 3 | .gap => 4 | .stopped => 5

/-- Roles of a position (R140). -/
inductive Role where
  | service | gap | quenched
  deriving DecidableEq, Repr

/-- Role codes (R165, R166). -/
def Role.code : Role → Nat
  | .service => 0 | .gap => 1 | .quenched => 2

/-- Role of a code; 3 is not a role and reads as SERVICE here, which no builder sends. -/
def Role.ofCode : Nat → Role
  | 1 => .gap | 2 => .quenched | _ => .service

/-- Whose work a slot holds: a tenant's command, the reader's slot 0 in a reading (R106), or an IFT segment (R124). -/
inductive SlotJob where
  | tenant | reading | ift
  deriving DecidableEq, Repr

/-- A gate slot (R84, R88) with the lane state, signature and digest of its command (R54, R55, R102, R282, R499). -/
structure Slot where
  st : SlotState := .free
  job : SlotJob := .tenant
  /-- Place in acceptance order, which is release order (R86). -/
  order : Nat := 0
  first : Hdr := 0
  last : Hdr := 0
  /-- Headers the slot holds, oldest first (R90, R98). -/
  hdrs : List Hdr := []
  chainOpen : Bool := false
  chainBroken : Bool := false
  /-- Every header of the chain had EXACT = 1 (R56). -/
  allExact : Bool := true
  /-- Index of the rotation context, and the count the rotation IV took (R50). -/
  ctx : Nat := 0
  count : Nat := 0
  /-- Rotation amounts, lane A and lane B, rows then columns, once drawn; the generator goes on for streamed rows (R51). -/
  drawn : Bool := false
  rowA : List Nat := []
  rowB : List Nat := []
  colA : List Nat := []
  colB : List Nat := []
  gen : Trivium := ⟨0, 0, 0⟩
  pA : Nat := 0
  pB : Nat := 0
  tA : Nat := 0
  tB : Nat := 0
  /-- Weight-stationary sums w_k and g_k per lane (R55). -/
  wA : List Nat := []
  wB : List Nat := []
  gA : List Nat := []
  gB : List Nat := []
  /-- Beats of the latest command: k-steps or streamed rows; preload rows; and the chain's total (R67, R80). -/
  beats : Nat := 0
  preload : Nat := 0
  steps : Nat := 0
  macs : Nat := 0
  readBegun : Bool := false
  readDone : Bool := false
  words : Nat := 0
  tapPar : Bool := false
  cntErr : Bool := false
  nanSeen : Bool := false
  sawB4 : Bool := false
  /-- Band sampled at header acceptance (R65). -/
  band : Nat := 0
  /-- Egress: beats, elements, LASTC seen, tag of the open block (R70, R91, R118). -/
  ebeats : Nat := 0
  elems : Nat := 0
  lastc : Bool := false
  tag : Nat := 0
  /-- Reading IV fields (R100), signature amounts once drawn, signature (R102). -/
  rcount : Nat := 0
  rdom : Nat := 0
  ru : Nat := 0
  kappa : Option Kappa := none
  sa : Nat := 0
  sb : Nat := 0
  /-- Digest amounts once drawn, the group's ρ, chunks so far and the contribution (R282). -/
  dkappa : Option Kappa := none
  drhoA : Nat := 0
  drhoB : Nat := 0
  chunks : Nat := 0
  dA : Nat := 0
  dB : Nat := 0
  outcome : Option CheckOutcome := none
  gtDecision : Nat := 0
  /-- RD_AGREE arrived and the slot waits for its pad deadline (R114). -/
  agreed : Bool := false
  /-- Start latch of the eight counters (R466). -/
  latch : List Nat := []
  deriving DecidableEq, Repr

/-- A rotation context (R77, R99, R100). -/
structure Ctx where
  valid : Bool := false
  tenant : Nat := 0
  key : Nat := 0
  d : Nat := 0
  count : Nat := 0
  u : Nat := 0
  deriving DecidableEq, Repr

/-- A running accumulator (R286). -/
structure Accum where
  layer : Nat := 0
  dA : Nat := 0
  dB : Nat := 0
  nslot : Nat := 0
  nchunk : Nat := 0
  nmvslot : Nat := 0
  nmvchunk : Nat := 0
  /-- Unreported multiply-accumulate counts: checked, failed, not applicable, unchecked (R71). -/
  macs : List Nat := [0, 0, 0, 0]
  /-- Unreported element counts, in the same order (R118). -/
  elems : List Nat := [0, 0, 0, 0]
  deriving DecidableEq, Repr

/-- A mesh block whose LAST flit has not arrived (R92): sender, protection, format, landing lines, partial tag. -/
structure MeshOpen where
  src : Nat
  prot : Bool
  fmt : Nat
  line : Nat
  lines : Nat
  tag : Nat
  deriving DecidableEq, Repr

/-- Orders of a move, from CAT_ROLE (R148, R165). -/
structure MoveOrder where
  role : Role
  x : Nat
  y : Nat
  acc : Nat
  send : Bool
  sendDir : Nat
  recv : Bool
  fromLower : Bool
  hops : Nat
  gt : Nat
  deriving DecidableEq, Repr

/-- A move in progress (R148, R150). -/
structure MoveState where
  order : MoveOrder
  /-- Of the incoming move: slots of the source not FREE at the seal, uncorrectable ECC; and at either end TPI_XOWN_ACK late (R148, R150). -/
  busy : Bool := false
  ecc : Bool := false
  timeout : Bool := false
  eccUnits : Nat := 0
  received : Nat := 0
  /-- The context block snapshotted at the seal: contexts, accumulators and activity counts (R147). -/
  ctxs : List (Nat × Ctx) := []
  accs : List (Nat × Accum) := []
  acts : List (Nat × List Nat) := []
  /-- Activity bits that the destination has received so far. -/
  bitsIn : Nat := 0
  deriving DecidableEq, Repr

/-- Reader's order, from RD_ORDER (R106, R108), with what the hub supplies for the signature (assumption 24). -/
structure ReadOrder where
  hdr : Hdr
  flue : Bool
  units : Nat
  hops : Nat
  dir : Nat
  count : Nat
  u : Nat
  dom : Nat
  key : Nat
  x : Nat
  y : Nat
  got : Nat := 0
  presented : Bool := false
  started : Bool := false
  /-- A fault of the reader during the reading (RD_REPORT bit 84). -/
  fault : Bool := false
  deriving DecidableEq, Repr

/-- A worker's copy, from RD_COPY (R108): path, direction, slot and the units still to send. -/
structure CopyOrder where
  flue : Bool
  dir : Nat
  slot : Nat
  left : List Nat
  deriving DecidableEq, Repr

/-- IFT states (R138). -/
inductive IftState where
  | idle | fill | run | walk | wait | stopped
  deriving DecidableEq, Repr

/-- ISTATE codes (R138). -/
def IftState.code : IftState → Nat
  | .idle => 0 | .fill => 1 | .run => 2 | .walk => 3 | .wait => 4 | .stopped => 5

/-- What a segment is run for: an ordinary pass, one of the two re-runs of R132, a walk step or its second run, or the
restore check (R126). -/
inductive SegKind where
  | pass | rerun1 | rerun2 | step | stepAgain | restore
  deriving DecidableEq, Repr

/-- IFT and margin-walk state of a probe that is not in a register (R124, R126, R128, R132). -/
structure ProbeIft where
  state : IftState := .idle
  pat : Nat := 0
  step : Nat := 0
  pass : Nat := 0
  mwen : Bool := false
  seg : SegKind := .pass
  /-- The descriptor of the segment in hand; the one fetched ahead of its segment, with its index; the index whose IFT_PAT is due. -/
  desc : Option Pattern := none
  next : Option (Nat × Pattern) := none
  asked : Option Nat := none
  /-- Every segment of the pass has passed; first failing index and kind. -/
  allPassed : Bool := true
  firstFail : Nat := 0
  failKind : Nat := 0
  /-- A re-run of R132 has failed. -/
  rerunFail : Bool := false
  /-- Walk: in progress, done, band, wobbles, restarts, B4 seen, waiting for TPI_CSHK_ACK, settled. -/
  walking : Bool := false
  walkDone : Bool := false
  band : Nat := 0
  wobbles : Nat := 0
  restarts : Nat := 0
  b4stop : Bool := false
  cshkWait : Bool := false
  settled : Bool := false
  /-- Margin found by the loop, while the restore check runs. -/
  margin : Nat := 0
  /-- IFT_STOP arrived with ABANDON = 0. -/
  stopping : Bool := false
  confirmed : Bool := false
  /-- Running segments or the walk when a reading, B4 or global stop suspended them. -/
  suspended : Bool := false
  /-- Step whose acknowledgement was missing (R134). -/
  tmoStep : Nat := 0
  /-- HCLK of IFT time in this visit (R125). -/
  time : Nat := 0
  deriving DecidableEq, Repr

/-- A tile probe. -/
structure Probe where
  fence : FenceState := .fenced
  /-- State that global stop remembers (R94). -/
  remembered : FenceState := .fenced
  /-- A FAULT flit that waits holds the fence of an OPEN probe closed (R512). -/
  heldClosed : Bool := false
  /-- RD_DISCARD closed the fence: later slots do not release ahead of the quench (R110). -/
  relHold : Bool := false
  /-- Retries left (R94); none while the limit of TP_CTRL.RETRY is whole. -/
  retries : Option Nat := none
  /-- Slot named by TPI_RETRY, and whether its retry header has been accepted and has passed (R94). -/
  retrySlot : Option Nat := none
  retryTaken : Bool := false
  retryPassed : Bool := false
  /-- FAULT flits waiting to leave, oldest first (R26). -/
  faultOut : List FaultMsg := []
  slots : Table Slot := []
  nextOrder : Nat := 0
  /-- Slot whose accumulator readout is under way (R82). -/
  readSlot : Option Nat := none
  tapReading : Bool := false
  ctx : Table Ctx := []
  acc : Table Accum := []
  /-- Activity counts, by context and tenant 0's set at 16 (R312). -/
  act : Table (List Nat) := []
  /-- Tags of ended blocks not yet presented on TPI_ETAG (R91). -/
  etag : List Nat := []
  meshOpen : List MeshOpen := []
  powered : Bool := true
  idle : Bool := false
  stopLeaf : Bool := false
  band : Nat := 0
  xown : Bool := false
  xownAck : Bool := false
  /-- CAT_HOLD holds TPI_CMD_READY (R152); CAT_IDLE already sent. -/
  hold : Bool := false
  idleSent : Bool := false
  role : Role := .service
  shelfX : Nat := 0
  shelfY : Nat := 0
  shelfValid : Bool := false
  accession : Nat := 0
  /-- Role orders waiting for their seal (R165) and the move under way (R148). -/
  roleNext : Option MoveOrder := none
  move : Option MoveState := none
  readOrder : Option ReadOrder := none
  /-- Copies ordered, oldest first; the first one is under way (R106, R110). -/
  copies : List CopyOrder := []
  ift : ProbeIft := {}
  cshkStep : Nat := 0
  cshkAck : Bool := false
  /-- BANDHELD slots whose TPI_RETRY pulse is still due, in release order (R326). -/
  bandRerun : List Nat := []
  /-- Low 24 bits of GT, whether it has been loaded, last TIME round, GT corrections (R29, R30). -/
  gt24 : Nat := 0
  gtValid : Bool := false
  timeRound : Option Nat := none
  gtCorrections : Nat := 0
  /-- Tenant of the latest accepted header (R53). -/
  lastTenant : Option Nat := none
  /-- Unsent trace records, drops to report, decisions counted for CMD sampling (R469). -/
  traceOut : List Flit := []
  traceDrops : Nat := 0
  cmdSamples : Nat := 0
  /-- Drops ordered by WD_DROP (R232): tenant, every tenant, instant; and tenant resets (R190): tenant, instant. -/
  drops : List (Nat × Bool × Nat) := []
  resets : List (Nat × Nat) := []
  /-- Mesh blocks carried without a tag (R92). -/
  unprotected : Nat := 0
  /-- Progress since the last watchdog tick, by context (R222). -/
  progress : List Nat := []
  deriving DecidableEq, Repr

end Sys2Proof.Machine
end

