-- ==== Sys2Proof/Machine/StateHub.lean ====
section
/-! DEFINITION. The state of a region hub (R16): readings (R109), margin histories and exposed commands (R129, R133), its part of
the Catalogue (R140, R166), its share of Folios (R180), fault buckets (R203), watchdogs (R220), the layer table (R287), energy
and heat (R314, R320), Ledger buckets (R395) and the trace ring (R470). -/

namespace Sys2Proof.Machine

/-! ## Readings -/

/-- States of a reading record (R109). -/
inductive ReadState where
  | queued | copy | run | third
  deriving DecidableEq, Repr

/-- A reading record (R109). -/
structure ReadRec where
  st : ReadState := .queued
  worker : Nat
  slot : Nat
  hdr : Hdr
  sa : Nat
  sb : Nat
  beats : Nat
  u : Nat
  dom : Nat
  count : Nat
  /-- GT of the worker's decision (R112). -/
  gt : Nat
  x : Nat
  y : Nat
  key : Nat
  /-- Tile of the reader in use, and columns whose reader this reading has used (R111). -/
  reader : Option Nat := none
  used : List Nat := []
  /-- Second reading's signature and reader, once it has differed (R110). -/
  second : Option (Nat × Nat × Nat) := none
  secondTile : Nat := 0
  /-- RD_ORDER has been sent and no RD_REPORT has come; its place among the region's orders, its GT, whether the operands go over the Flue, and the
  units forwarded so far (R108, R115). -/
  running : Bool := false
  order : Nat := 0
  orderGt : Nat := 0
  flue : Bool := false
  sent : Nat := 0
  deriving DecidableEq, Repr

/-- Per-tenant reading counters (R118, R119). -/
structure ReadCount where
  chosen : Nat := 0
  agree : Nat := 0
  wmin : Nat := 0
  gmin : Nat := 0
  nomaj : Nat := 0
  aband : Nat := 0
  unread : Nat := 0
  ovr : Nat := 0
  macs : Nat := 0
  elems : Nat := 0
  deriving DecidableEq, Repr

/-! ## Margin histories and exposed commands -/

/-- A margin history entry (R129). -/
structure MarginEntry where
  margin : Nat
  band : Nat
  valid : Bool
  short : Bool
  bandchg : Bool
  cshkto : Bool
  iftfail : Bool
  thr : Nat
  secs : Nat
  deriving DecidableEq, Repr

/-- The 64 bits of a history entry (R129). -/
def MarginEntry.word (e : MarginEntry) : Nat :=
  pack [(0, 4, e.margin), (4, 3, e.band), (7, 1, flag e.valid), (8, 1, flag e.short), (9, 1, flag e.bandchg),
    (10, 1, flag e.cshkto), (11, 1, flag e.iftfail), (16, 4, e.thr), (32, 32, e.secs)]

/-- An entry of an exposed-command list (R133). -/
structure ExpEntry where
  tenant : Nat
  classes : Nat
  efirst : Nat
  elast : Nat
  count : Nat
  deriving DecidableEq, Repr

/-- The 128 bits of an exposed-command entry (R133). -/
def ExpEntry.flit (e : ExpEntry) : Flit :=
  Machine.flit [(0, 12, e.tenant), (12, 5, e.classes), (32, 32, e.efirst), (64, 32, e.elast), (96, 32, e.count)]

/-- What the hub keeps for a physical tile (R112, R129, R133, R135). -/
structure TileBook where
  /-- Newest first, at most 64. -/
  history : List MarginEntry := []
  lowRun : Nat := 0
  fit : Bool := false
  pred : Nat := 0
  exposed : List ExpEntry := []
  ovf : Bool := false
  /-- GT of the latest agreed reading, and the NA and UNCHECKED commands released since, each with the GT of its release (R112). -/
  agreedGt : Nat := 0
  unchecked : List (Nat × ExpEntry) := []
  /-- GT at which the tile last returned to service after a visit that cleared its list. -/
  clearedGt : Nat := 0
  /-- GT of the seal that began the visit under way, and whether that visit is short, has passed pass 0, has produced a sample or an end of walk under
  R128 or R134, and has confirmed a failure (R125). -/
  visitGt : Nat := 0
  visitPass0 : Bool := false
  visitWalk : Bool := false
  visitFail : Bool := false
  /-- The visit has added a history entry, and the entry that it pushed out; a transient of the pass under way has been counted (R129, R132). -/
  visitEntry : Bool := false
  visitSpare : Option MarginEntry := none
  passTransient : Bool := false
  visitShort : Bool := false
  visitTime : Nat := 0
  /-- Low-margin count when the visit began (R125). -/
  visitLow : Nat := 0
  deriving DecidableEq, Repr

/-! ## Catalogue -/

/-- Column states (R143). -/
inductive ColState where
  | walk | parked | exhausted | closed
  deriving DecidableEq, Repr

/-- CSTATE codes (R166). -/
def ColState.code : ColState → Nat
  | .walk => 0 | .parked => 1 | .exhausted => 2 | .closed => 3

/-- A column of the Catalogue (R166): walk direction (0 towards row 32), quenched rows in order of quench, steps. -/
structure CatCol where
  dir : Nat := 0
  quenched : List Nat := []
  steps : Nat := 0
  deriving DecidableEq, Repr

/-- A position of the Catalogue (R166). -/
structure CatPos where
  role : Role := .service
  accession : Nat := 0
  suspect : Bool := false
  qcause : Nat := 0
  qsecs : Nat := 0
  deriving DecidableEq, Repr

/-- A region's part of the Catalogue: columns by number, positions by tile-within-region, and the tenants that hold each
shelfmark, by 32 × column + logical row (R140, R146). -/
structure CatPart where
  cols : Table CatCol := []
  pos : Table CatPos := []
  holders : Table (List Nat) := []
  deriving DecidableEq, Repr

/-- An entry of a position's role history (R162). -/
structure RoleEntry where
  accession : Nat
  role : Role
  lrow : Nat
  /-- The shelfmark's logical row within the region, where the position held one. -/
  shelf : Option Nat
  deriving DecidableEq, Repr

/-- What the hub keeps of a column's gap walk (R115, R116, R151, R152). -/
structure WalkState where
  /-- A step or quench Folio of the column is prepared; its number. -/
  folio : Option Nat := none
  /-- Positions whose CAT_IDLE is still missing, and whether IFT_STOPPED is. -/
  awaitIdle : List Nat := []
  awaitIft : Bool := false
  /-- Destinations whose CAT_MOVED is still missing; source and destination of the moves of the latest seal; the logical rows whose move was partial,
  oldest first (R148, R150). -/
  moving : List Nat := []
  moves : List (Nat × Nat) := []
  partials : List Nat := []
  /-- A step has been proposed; the dwell has passed; four dwell times have passed with the quota unmet. -/
  proposed : Bool := false
  dwellPassed : Bool := false
  shortAllowed : Bool := false
  /-- HCLK from RD_ORDER to RD_REPORT of the reader in this visit (R115). -/
  occupied : Nat := 0
  /-- The latest barrier epoch that each tenant has reached and for which the column has not stepped (R151, R154). -/
  barrier : List (Nat × Nat) := []
  deriving DecidableEq, Repr

end Sys2Proof.Machine
end

