-- ==== Sys2Proof/Machine/StateFolio.lean ====
section
/-! DEFINITION. State of the Folio protocol (R169–R195), of fault collection (R196–R219), and of watchdogs and recovery
(R220–R243), at the Kiln and at a hub. -/

namespace Sys2Proof.Machine

/-! ## Folio -/

/-- An action record (R169). -/
structure Act where
  act : Nat
  region : Nat
  col : Nat := 0
  tenant : Nat := 0
  row : Nat := 0
  aux : Nat := 0
  arg : Nat := 0
  deriving DecidableEq, Repr

/-- The 128 bits of an action record (R169). -/
def Act.flit (a : Act) : Flit :=
  Machine.flit [(0, 8, a.act), (8, 11, a.region), (19, 5, a.col), (24, 12, a.tenant), (36, 6, a.row), (42, 6, a.aux), (48, 80, a.arg)]

/-- The record that 128 bits spell (R169). -/
def Act.ofFlit (f : Flit) : Act :=
  let x := f.toNat
  { act := bits x 0 8, region := bits x 8 11, col := bits x 19 5, tenant := bits x 24 12, row := bits x 36 6, aux := bits x 42 6,
    arg := bits x 48 80 }

/-- Coordinator states of a Folio (R173, R194). -/
inductive FolioState where
  | queued | prepared | decided | applied | void
  deriving DecidableEq, Repr

/-- STATE codes of a log header (R194). -/
def FolioState.code : FolioState → Nat
  | .queued => 0 | .prepared => 1 | .decided => 2 | .applied => 3 | .void => 4

/-- A Folio in the log: its header (R194) with its action records and what the coordinator tracks (R179). A participant is
named by its region, by 2048 + unit for a Kiln unit (R169), or by 4096 + CLP for a peer chip. -/
structure FolioRec where
  number : Nat
  st : FolioState := .queued
  xchip : Bool := false
  vreason : Nat := 0
  tenant : Nat := 0
  acts : List Act
  urgent : Bool := false
  origin : Nat := 0
  gtprep : Nat := 0
  gtvote : Nat := 0
  sealt : Nat := 0
  voidsrc : Nat := 0x7FD
  voidlink : Nat := 0
  parts : List Nat := []
  yes : List Nat := []
  done : List Nat := []
  late : List Nat := []
  gtdone : Nat := 0
  /-- Records placed in the action ring before this Folio's (R185). -/
  actStart : Nat := 0
  peernum : Nat := 0
  /-- FL_SEAL resends so far; participants marked behind no longer count as pending (R179). -/
  resends : Nat := 0
  behind : List Nat := []
  /-- Hub proposal: region and proposal ID (R192). -/
  from_ : Option (Nat × Nat) := none
  /-- FVOTE yes has been sent to the coordinator (R270). -/
  answered : Bool := false
  /-- The coordinating peer has been told that this chip votes void (R270, VOIDED). -/
  xvoid : Bool := false
  /-- Port of the peer that coordinates it (R270). -/
  link : Option Nat := none
  /-- GT of the hub that voted void last, from FL_VOTE. -/
  voteGt : Nat := 0
  deriving DecidableEq, Repr

/-- A proposal of a Kiln unit that waits for a place (R173). -/
structure Proposal where
  acts : List Act
  urgent : Bool
  origin : Nat
  xchip : Bool := false
  peernum : Nat := 0
  peer : Option Nat := none
  deriving DecidableEq, Repr

/-- States of a Folio at a hub (R180). -/
inductive HubFolioState where
  | receiving | preparing | yes | voided | sealed
  deriving DecidableEq, Repr

/-- State codes of a hub's Folio; a Folio whose parts are still arriving is IDLE and not shown. -/
def HubFolioState.code : HubFolioState → Nat
  | .receiving => 0 | .preparing => 1 | .yes => 2 | .voided => 3 | .sealed => 4

/-- A Folio at a hub or at a Kiln unit (R180). -/
structure HubFolio where
  number : Nat
  st : HubFolioState := .receiving
  tenant : Nat := 0
  acts : List Act := []
  gt : Nat := 0
  replay : Bool := false
  sealt : Nat := 0
  late : Bool := false
  deriving DecidableEq, Repr

/-- The Folio coordinator (R173, R185, R193). -/
structure KFolio where
  next : Nat := 1
  log : Table FolioRec := []
  /-- The ring of 32,768 action records, and the records placed in it since PORB (R185). -/
  ring : Table Nat := []
  actTotal : Nat := 0
  waiting : List Proposal := []
  /-- Parts of hub proposals received so far, by 32 × region + proposal ID. -/
  parts : Table (List Act) := []
  behind : Table (List Nat) := []
  overflowed : List Nat := []
  /-- Hubs whose replay has not finished (R186). -/
  syncing : Table (List Nat) := []
  /-- Requested tenant resets not yet APPLIED: tenant and number (R189). -/
  treqs : List (Nat × Nat) := []
  /-- Tenant of the reset that `FOLIO_TREQ` asked for and that BUSY shows (R189, R193). -/
  treqHost : Option Nat := none
  /-- Folios open at Kiln units, by participant number, and the last 64 that each applied or voided: number and whether it was voided (R180). -/
  units : List (Nat × HubFolio) := []
  unitPast : Table (List (Nat × Bool)) := []
  deriving DecidableEq, Repr

/-- A hub's part of the Folio protocol (R173, R180, R195). -/
structure HubFl where
  open_ : List HubFolio := []
  /-- The last 64 Folios applied or voided, newest first: number and whether it was voided (R180). -/
  past : List (Nat × Bool) := []
  last : Nat := 0
  /-- Proposals sent and not answered or refused BUSY: proposal ID, actions, urgent, and whether a retry is due (R173). -/
  proposed : List (Nat × List Act × Bool × Bool) := []
  /-- Proposals accepted and neither prepared nor voided: number and actions (R179). -/
  accepted : List (Nat × List Act) := []
  nextPid : Nat := 0
  deriving DecidableEq, Repr

/-! ## Faults -/

/-- Phases of the fault collector (R206, R217). -/
inductive Phase where
  | start | service | test | recovery
  deriving DecidableEq, Repr

/-- Phase codes (R217). -/
def Phase.code : Phase → Nat
  | .start => 0 | .service => 1 | .test => 2 | .recovery => 3

/-- The phase of a two-bit code. -/
def Phase.ofCode (n : Nat) : Phase :=
  if n % 4 = 0 then .start else if n % 4 = 1 then .service else if n % 4 = 2 then .test else .recovery

/-- A leaky bucket (R203). -/
structure Bucket where
  key : Nat
  kind : Nat
  level : Nat
  /-- GT of the allocation, from which leaks are counted, and place of the latest event among all events of the table. -/
  alloc : Nat
  latest : Nat
  /-- CORR of the event that took the entry; its leak period is that CORR value's (R202, assumption 142). -/
  corr : Bool := false
  deriving DecidableEq, Repr

/-- A fault log entry (R210). -/
structure LogEntry where
  msg : FaultMsg
  arr : Nat
  fseq : Nat
  level : Nat
  esc : Bool := false
  merged : Bool := false
  queued : Bool := false
  rid : Nat := 0
  deriving DecidableEq, Repr

/-- The source stamp S of a registered fault: the latest GT not after its arrival whose low 24 bits are GTLO (R209). -/
def LogEntry.stamp (e : LogEntry) : Nat := wrap 64 (e.arr + 2 ^ 64 - wrap 24 (wrap 24 e.arr + 2 ^ 24 - wrap 24 e.msg.gtlo))

/-- States of a reaction (R211, R218). -/
inductive ReactState where
  | queued | handling | awaitAck | done | unacted
  deriving DecidableEq, Repr

/-- STATE codes of FLT_REACT (R218). -/
def ReactState.code : ReactState → Nat
  | .queued => 0 | .handling => 1 | .awaitAck => 2 | .done => 3 | .unacted => 4

/-- Containment domains (R211). -/
inductive Domain where
  | column (region col : Nat) | region (region : Nat) | unit (unit inst : Nat) | chip
  deriving DecidableEq, Repr

/-- A reaction (R211, R213, R218). -/
structure Reaction where
  rid : Nat
  level : Nat
  st : ReactState
  src : Nat
  kind : Nat
  fseq : Nat
  domain : Domain
  folio : Nat := 0
  merges : Nat := 0
  /-- The containment is a quench Folio of the hub, so HANDLING waits for it (R213). -/
  quench : Bool := false
  applied : Bool := false
  /-- Columns of the containment Folio whose CAT_REPORT is missing, and those whose XFER_SUSPECT is (R213). -/
  reports : List (Nat × Nat) := []
  suspects : List (Nat × Nat) := []
  ntype : Nat := 0
  /-- Region that a withdrawal names (R213). -/
  region : Nat := 0
  tenant : Nat := 0
  x : Nat := 0
  y : Nat := 0
  htag : Nat := 0
  layer : Nat := 0
  operator : Nat := 0
  /-- HANDLING has ended; notices still to be written: type, tenant, X, Y (R215). -/
  ended : Bool := false
  notices : List (Nat × Nat × Nat × Nat) := []
  /-- Rollback and orphan notices that consequences of the containment added (R150, R158, R187). -/
  extra : List (Nat × Nat × Nat × Nat) := []
  /-- GT at which an L2 began to wait behind L1 reactions (R212). -/
  since : Nat := 0
  deriving DecidableEq, Repr

/-- A runtime notice (R215). -/
structure Notice where
  rid : Nat
  ntype : Nat
  tenant : Nat
  x : Nat
  y : Nat
  htag : Nat
  layer : Nat
  operator : Nat
  epoch : Nat
  fseq : Nat
  folio : Nat
  gt : Nat
  deriving DecidableEq, Repr

/-- The 256 bits of a notice (R215). -/
def Notice.word (n : Notice) : Nat :=
  pack [(0, 16, n.rid), (16, 4, n.ntype), (20, 12, n.tenant), (32, 11, n.x), (43, 10, n.y), (53, 8, n.htag), (64, 16, n.layer),
    (80, 16, n.operator), (96, 32, n.epoch), (128, 32, n.fseq), (160, 32, n.folio), (192, 64, n.gt)]

/-- The 256 bits of a log entry (R210). -/
def LogEntry.word (e : LogEntry) : Nat :=
  e.msg.flit.toNat + pack [(128, 64, e.arr), (192, 32, e.fseq), (224, 2, e.level), (226, 1, flag e.esc), (227, 1, flag e.merged),
    (228, 1, flag e.queued), (229, 16, e.rid)]

/-- The 176 low bits of FLT_REACT (R218). -/
def Reaction.word (r : Reaction) : Nat :=
  pack [(0, 16, r.rid), (16, 2, r.level), (18, 3, r.st.code), (32, 32, r.src), (64, 12, r.kind), (96, 32, r.fseq),
    (128, 32, r.folio), (160, 16, saturate 16 r.merges)]

/-- A Kiln message that is the consequence of a Folio: its number, and the notices that it calls for (type, tenant, X, Y). -/
structure Conseq where
  msg : FaultMsg
  folio : Nat
  notices : List (Nat × Nat × Nat × Nat)
  deriving DecidableEq, Repr

/-- The fault collector (R206, R208, R210, R211, R215). -/
structure KFault where
  phase : Phase := .start
  /-- FAULT flits at the Kiln in the order of arrival: at most 256 from the spine links, and the Kiln's own (R25, R26). The spine link served last (R208). -/
  queue : List FaultMsg := []
  lastLink : Nat := 0
  nextSeq : Nat := 1
  log : Table LogEntry := []
  first : Table LogEntry := []
  /-- Reactions by RID modulo 1,024 (R496). -/
  reacts : Table Reaction := []
  nextRid : Nat := 1
  buckets : Table Bucket := []
  bucketClock : Nat := 0
  notices : Table Notice := []
  head : Nat := 0
  /-- L3 was registered in this power-up; GT of that registration (R214). -/
  l3 : Bool := false
  l3Gt : Nat := 0
  /-- Kiln messages that are consequences of a Folio (R158, R187, R212). -/
  conseq : List Conseq := []
  /-- Rollback notices for the reaction that a source will open: its Source ID and the notice (R134). -/
  awaited : List (Nat × (Nat × Nat × Nat × Nat)) := []
  /-- What the Kiln knows of quench Folios whose L1_RAISED it has not registered yet (R213, R218). -/
  learned : List Reaction := []
  /-- Shelfmarks whose move a lost hub, or PORB, left open: region, tenant, X and Y (R164). -/
  lostMoves : List (Nat × Nat × Nat × Nat) := []
  /-- Rollback notices of no reaction, waiting for room (R299). -/
  loose : List (Nat × Nat × Nat × Nat) := []
  deriving DecidableEq, Repr

/-- A hub's fault state (R199, R203, R206, R219). -/
structure HubFlt where
  /-- FAULT input queue, at most 64 flits; faults of the hub itself that wait for a place in it; and flits that the hub has forwarded and the Kiln's queue has
  had no room for (R26). -/
  queue : List FaultMsg := []
  held : List FaultMsg := []
  out : List FaultMsg := []
  phase : Phase := .start
  buckets : Table Bucket := []
  bucketClock : Nat := 0
  first : Option (FaultMsg × Nat) := none
  deriving DecidableEq, Repr

/-! ## Watchdog and recovery -/

/-- A watched context (R220, R223). -/
structure WdCtx where
  count : Nat := 0
  owing : Bool := false
  suspect : Bool := false
  parked : Bool := false
  /-- The case has granted the tenant: C counts again (R234). -/
  granted : Bool := false
  /-- It was a suspect or parked in a part of the tick (R225). -/
  frozen : Bool := false
  deriving DecidableEq, Repr

/-- What a hub does for a rung order (R230, R232): it waits for T_r, holds a request, leaves 16 HCLK after one that fell, before the next context's or before the clear
check, and checks. -/
inductive RungState where
  | waitInstant | holding | gap | settle | checking
  deriving DecidableEq, Repr

/-- A rung order under way at a hub. -/
structure RungOrder where
  rung : Nat
  case : Nat
  instant : Nat
  tenants : List Nat
  st : RungState := .waitInstant
  /-- GT at which the 16 HCLK after a request end. -/
  due : Nat := 0
  /-- Contexts still to reset, the first of them now or next high; shelfmarks whose answer is missing; positions still HELD. -/
  left : List Nat := []
  await : List Nat := []
  held : Nat := 0
  deriving DecidableEq, Repr

/-- A hub's watchdog (R222, R223, R230, R243). -/
structure HubWd where
  ctx : Table WdCtx := []
  /-- Tenants reported OWING and PROG since the last tick, and those an RD_AGREE was sent for (R223). -/
  owing : List Nat := []
  prog : List Nat := []
  agreed : List Nat := []
  /-- Band B4, a global stop or phase START held in a part of the tick (R225). -/
  paused : Bool := false
  /-- Trips of each tenant since PORB (R243); the latest tripping tenant and the number of suspects of its list (R226); listed suspects past the 32 that WD_SET names. -/
  trips : Table Nat := []
  lastTrip : Nat := 0
  nsus : Nat := 0
  unnamed : List Nat := []
  order : Option RungOrder := none
  rstCtx : Option Nat := none
  rstEng : Bool := false
  deriving DecidableEq, Repr

/-- States of a suspect (R242). -/
inductive SuspectState where
  | parked | granted | passed | guilty | released
  deriving DecidableEq, Repr

/-- STATE codes of RCV_SUS (R242). -/
def SuspectState.code : SuspectState → Nat
  | .parked => 0 | .granted => 1 | .passed => 2 | .guilty => 3 | .released => 4

/-- States of the recovery sequencer (R229, R242). -/
inductive RcvState where
  | idle | collect | reset | replay
  deriving DecidableEq, Repr

/-- STATE codes of RCV_STATUS (R242). -/
def RcvState.code : RcvState → Nat
  | .idle => 0 | .collect => 1 | .reset => 2 | .replay => 3

/-- The recovery sequencer (R227–R229, R242). -/
structure KRcv where
  st : RcvState := .idle
  rung : Nat := 0
  startRung : Nat := 0
  case : Nat := 0
  fseq : Nat := 0
  /-- WATCHDOG reactions that stay in HANDLING while the case is open (R229). -/
  rids : List Nat := []
  /-- The case was opened by a trip: its tenant and region. -/
  trip : Bool := false
  tripTenant : Nat := 0
  tripRegion : Nat := 0
  gtOpen : Nat := 0
  /-- Suspects: tenant, region, state. -/
  suspects : List (Nat × Nat × SuspectState) := []
  more : Bool := false
  /-- WATCHDOG faults that wait for the next case: FSEQ, RID, tenant, region (R227). -/
  waiting : List (Nat × Nat × Nat × Nat) := []
  /-- WD_SETs whose WATCHDOG is not registered or waits: region, tenants, more (R227). -/
  sets : List (Nat × List Nat × Bool) := []
  /-- Ladder records by engine: rung and GT of release (R228). -/
  ladder : Table (Nat × Nat) := []
  scope : List Nat := []
  doneFrom : List Nat := []
  instant : Nat := 0
  highest : Nat := 0
  granted : Option Nat := none
  grantGt : Nat := 0
  parkruns : Nat := 0
  /-- RST_PART and RST_CHIP (R230), and whether they are still to rise at the instant. -/
  rstPart : Nat := 0
  rstChip : Bool := false
  armed : Bool := false
  deriving DecidableEq, Repr

end Sys2Proof.Machine
end

