-- ==== Sys2Proof/Machine/StateLink.lean ====
section
/-! DEFINITION. State of Concordance (R244–R281): sessions, windows, bindings and cross-chip Folios of the 32 ports. -/

namespace Sys2Proof.Machine

/-- Port states (R252). -/
inductive PortState where
  | disabled | hello | up | disputed | refused
  deriving DecidableEq, Repr

/-- STATE codes of CCD_STATUS (R281). -/
def PortState.code : PortState → Nat
  | .disabled => 0 | .hello => 1 | .up => 2 | .disputed => 3 | .refused => 4

/-- The body of a message (R250). -/
inductive LinkBody where
  | hello (rel cr : Nat) (dol : Bool)
  | heartbeat (isSealed : Bool)
  | sealMsg (job epoch slice digest : Nat)
  | recallMsg (job first last slice origin rid cause : Nat)
  | role (job slice pslice : Nat) (withdraw : Bool)
  | fprep (folio part : Nat) (last : Bool) (count nact act0 act1 : Nat)
  | fvote (folio code lnum : Nat)
  | fseal (folio t : Nat) (replay : Bool)
  | fvoid (folio reason : Nat)
  | tpair (phase pid t1 t2 t3 theta delta : Nat)
  | dispute (cause job ref ev1 ev2 : Nat)
  deriving DecidableEq, Repr

/-- What 64 bytes on CLP_RX are (R248, R249): a message with its header, or a drop with its SEQ, for a failed CRC or as a protocol drop. -/
inductive LinkArrival where
  | message (h : ClpHdr) (body : LinkBody)
  | crcDrop (seq : Nat)
  | protocolDrop (seq : Nat)
  deriving DecidableEq, Repr

/-- States of a binding (R259). -/
inductive BindState where
  | declared | matched | mismatch | disputed
  deriving DecidableEq, Repr

/-- BSTATE codes (R281). -/
def BindState.code : BindState → Nat
  | .declared => 0 | .matched => 1 | .mismatch => 2 | .disputed => 3

/-- A binding (R259): one job, local slice and peer slice on one port. -/
structure Binding where
  job : Nat
  tenant : Nat
  slice : Nat
  pslice : Nat
  st : BindState := .declared
  waiting : Bool := false
  highe : Nat := 0
  peere : Nat := 0
  /-- The last 16 received epochs, newest first, with the leftmost 64 bits of each digest; all 256 bits of the newest. -/
  history : List (Nat × Nat) := []
  newest : Option Nat := none
  /-- P_k by local epoch k (R262), latest first. -/
  pk : List (Nat × Nat) := []
  /-- Highest local epoch whose SEAL has been sent (R300). -/
  sent : Option Nat := none
  deriving DecidableEq, Repr

/-- A message kept until it is acknowledged (R255): SEQ, body, and whether it used the answer buffer (R254). -/
structure LinkSent where
  seq : Nat
  body : LinkBody
  answer : Bool
  deriving DecidableEq, Repr

/-- A message that waits for CLP_TX_READY (R244, R257): a retransmission keeps its SEQ. -/
structure LinkWait where
  body : LinkBody
  seq : Option Nat := none
  retx : Bool := false
  deriving DecidableEq, Repr

/-- Evidence of the latest dispute (R273, R281). -/
structure DisputeLog where
  cause : Nat := 0
  seq : Nat := 0
  job : Nat := 0
  ref : Nat := 0
  ev1 : Nat := 0
  ev2 : Nat := 0
  gt : Nat := 0
  deriving DecidableEq, Repr

/-- A Concordance port. -/
structure Port where
  st : PortState := .disabled
  /-- The port has reached UP since PORB (R253). -/
  everUp : Bool := false
  linkUp : Bool := false
  linkPs : Nat := 0
  /-- CLP_TX_READY (R244), and the messages that wait for it, oldest first. -/
  txReady : Bool := false
  wait : List LinkWait := []
  sess : Nat := 0
  /-- The peer as its HELLO gave it: session, ordinal, CLP number, version, credits, mode, FRESH. -/
  psess : Nat := 0
  peerOrd : Nat := 0
  peerClp : Nat := 0
  peerRel : Nat := 0
  peerCr : Nat := 0
  peerDol : Bool := false
  peerFresh : Bool := false
  /-- Transmit side: next SEQ, unacknowledged messages, unsent queue; pool and answer messages sent, and the peer's returns. -/
  txNext : Nat := 0
  unacked : List LinkSent := []
  queue : List LinkBody := []
  poolSent : Nat := 0
  answerSent : Nat := 0
  crretIn : Nat := 0
  arretIn : Nat := 0
  rounds : Nat := 0
  heardInRounds : Bool := false
  /-- Receive side: RXNEXT, own returns, an acknowledgement scheduled, SEQ and content check of the last 32 accepted messages. -/
  rxNext : Nat := 0
  crret : Nat := 0
  arret : Nat := 0
  ackDue : Bool := false
  /-- Pool and answer buffers that the Kiln's units have not freed yet (R254), and entries of the unsequenced buffer in use (R258). -/
  rxPool : Nat := 0
  rxAns : Nat := 0
  unseq : Nat := 0
  checks : List (Nat × Nat) := []
  bindings : List Binding := []
  /-- Folios whose FSEAL is to be replayed, oldest first, with T (R276); in-doubt Folios, oldest first (R270): coordinator and local number,
  and whether the 1 ms of UP has begun. -/
  replay : List (Nat × Nat) := []
  inDoubt : List (Nat × Nat) := []
  /-- Folios whose prepare timed out with heartbeats arriving (R269); a heartbeat came since the latest prepare. -/
  strikes : List Nat := []
  heard : Bool := false
  /-- Parts of FPREPs being received: coordinator's number and the records so far. -/
  preps : List (Nat × List Act) := []
  /-- Time pairs (R265): last pair number, T1 of a pair under way, secondary's pair awaiting its result. -/
  pairId : Nat := 0
  pairT1 : Option Nat := none
  pairWait : Option Nat := none
  theta : Int := 0
  delta : Nat := 0
  pairGt : Nat := 0
  /-- A pair has been kept since PORB (R281). -/
  pairKept : Bool := false
  thetaValid : Bool := false
  dcause : Nat := 0
  peerGone : Bool := false
  disputeLeft : Nat := 0
  disp : DisputeLog := {}
  /-- CLP_QUAL has passed (R425). -/
  qualified : Bool := false
  deriving DecidableEq, Repr

/-- A cross-chip request of CCD_XREQ under way (R268, R272). -/
structure XReq where
  acts : List Act
  clp : Nat
  collisions : Nat := 0
  backoff : Bool := false
  /-- Back-off drawn, µs. -/
  wait : Nat := 0
  deriving DecidableEq, Repr

/-- The Concordance engines and what the chip keeps for all of them. -/
structure Link where
  ports : Table Port := []
  /-- (ORIGIN, RID) of the last 64 recalls acted on (R263), newest first; next RID of this chip. -/
  recalls : List (Nat × Nat) := []
  nextRid : Nat := 0
  req : Option XReq := none
  deriving DecidableEq, Repr

end Sys2Proof.Machine
end

