-- ==== Sys2Proof/Machine/StateColo.lean ====
section
/-! DEFINITION. State of digests, epochs and Colophons (R286–R305), at a hub and at the Kiln, and the work that the Kiln hands to system
channels of the Stacker (R368). -/

namespace Sys2Proof.Machine

/-- An entry of a layer table (R287, R295). -/
structure LayerEntry where
  dA : Nat := 0
  dB : Nat := 0
  nslot : Nat := 0
  nchunk : Nat := 0
  nmvslot : Nat := 0
  nmvchunk : Nat := 0
  ovf : Bool := false
  deriving DecidableEq, Repr

/-- Coverage of a tenant's epoch (R294): multiply-accumulates checked, failed, not applicable, unchecked, agreed; elements in the same order, and those of may-vary commands;
readings chosen and lost; quenches. -/
structure Coverage where
  macs : List Nat := [0, 0, 0, 0, 0]
  elems : List Nat := [0, 0, 0, 0, 0, 0]
  chosen : Nat := 0
  lost : Nat := 0
  quenches : Nat := 0
  /-- Bit 0: a pad overrun was seen; bit 1: a missed step (R294). -/
  marks : Nat := 0
  deriving DecidableEq, Repr

/-- A hub's part of closes (R287, R290): the layer table by 65,536 × tenant + LAYER, coverage by tenant, DG_CUTs still to be answered, reading
counts at the last cut, and quenches since. -/
structure HubEp where
  layers : Table LayerEntry := []
  cover : Table Coverage := []
  cuts : Table Nat := []
  readBase : Table ReadCount := []
  quenches : Table Nat := []
  missBase : Table Nat := []
  deriving DecidableEq, Repr

/-- Phases of a close: waiting for one of 64 places, for EP_PARTs, for the hash, for room in the record ring. -/
inductive ClosePhase where
  | waiting | cutting | hashing | ring
  deriving DecidableEq, Repr

/-- A close under way (R288, R290): operation, epoch, regions whose EP_PART is missing, and the epoch table so far. -/
structure EpClose where
  op : Nat
  epoch : Nat
  phase : ClosePhase := .waiting
  /-- A DISCARD that the Kiln itself issued (R291): no runtime write waits for it. -/
  own : Bool := false
  await : List Nat := []
  layers : Table LayerEntry := []
  cover : Coverage := {}
  deriving DecidableEq, Repr

/-- A record of a tenant's ring (R293, R294): type, E1, E2, flags, GTOPEN and GTCLOSE, place in the byte stream since genesis, length in bytes,
chain head after it, coverage, and its bytes as a little-endian number. -/
structure RingRec where
  type : Nat
  e1 : Nat
  e2 : Nat
  flags : Nat
  gtOpen : Nat
  gtClose : Nat
  pos : Nat
  len : Nat
  chain : Nat
  cover : Coverage
  data : Nat
  deriving DecidableEq, Repr

/-- A Colophon being issued (R297): range, whether it is a RECALL_COLOPHON, and what it still waits for: its sweep, then the Vault. -/
structure ColoReq where
  a : Nat
  b : Nat
  isRecall : Bool := false
  swept : Bool := false
  body : Nat := 0
  deriving DecidableEq, Repr

/-- A recall that waits for a seal under way (R303): epochs, ORIGIN, RID, CAUSE, and the port and binding it came from. -/
structure LaterRecall where
  epochs : List Nat
  origin : Nat
  rid : Nat
  cause : Nat
  source : Option (Nat × Binding) := none
  deriving DecidableEq, Repr

/-- A tenant's epochs (R288–R300). -/
structure TenantEp where
  active : Bool := false
  /-- First epoch of the chain, and whether an epoch has been sealed since. -/
  first : Nat := 0
  hasSealed : Bool := false
  gtOpen : Nat := 0
  vector : Nat := 0
  close : Option EpClose := none
  /-- Contributions of an open epoch whose close failed for want of ring room. -/
  kept : Table LayerEntry := []
  keptCover : Coverage := {}
  /-- Records written and to be written, oldest first; position where the next goes; records that wait for room. -/
  recs : List RingRec := []
  pos : Nat := 0
  waiting : List RingRec := []
  /-- Last epochs before a SETTING record (R297). -/
  settings : List Nat := []
  colNum : Nat := 0
  coloNext : Nat := 0
  colo : Option ColoReq := none
  recallColos : List ColoReq := []
  issued : List (Nat × Nat) := []
  recalled : List Nat := []
  recalledSince : Nat := 0
  /-- Recalls that wait for the seal under way (R303). -/
  later : List LaterRecall := []
  deriving DecidableEq, Repr

/-- Exposure windows of one physical tile (R134): cause, GT range, COVER, OVF and entries. -/
structure ExpWindow where
  gt0 : Nat
  gt1 : Nat
  cover : Nat
  ovf : Bool
  entries : List ExpEntry
  deriving DecidableEq, Repr

/-- What a system channel of the Stacker is to write (R368): host address, length in bytes, bytes as a little-endian number, and the tenant of a
record, whose TEN_REC_HEAD then advances, or the SEQ of a statement; a hub and a byte offset of its trace buffer to read from instead of data. -/
structure SysJob where
  addr : Nat
  len : Nat
  data : Nat
  tenant : Nat := 0
  head : Nat := 0
  seq : Nat := 0
  src : Option (Nat × Nat) := none
  deriving DecidableEq, Repr

/-- The epoch sealer. -/
structure KColo where
  tenants : Table TenantEp := []
  /-- Closes that wait for one of 64 places, in order of their writes (R290). -/
  order : List Nat := []
  /-- Parts of EXP_REPORT received so far, and merged windows, by physical X + 2,048 × Y. -/
  parts : Table (List ExpEntry) := []
  windows : Table ExpWindow := []
  /-- When a tenant held shelfmarks of a region: region, tenant, GT of the first seal, GT of the seal that ended it (R134). -/
  stays : List (Nat × Nat × Nat × Option Nat) := []
  deriving DecidableEq, Repr

end Sys2Proof.Machine
end

