-- ==== Sys2Proof/Machine/StateTally.lean ====
section
/-! DEFINITION. State of metering, heat and the Tally (R306–R341, R454, R455), and of the Vault (R342–R367). -/

namespace Sys2Proof.Machine

/-! ## A hub -/

/-- A counter entry (R327): COUNT and BASE in microjoules, the carried fraction in nanojoules, UA, and the pending base of a sweep. -/
structure EnCounter where
  count : Nat := 0
  base : Nat := 0
  frac : Nat := 0
  ua : Bool := false
  pending : Option (Nat × Nat) := none
  deriving DecidableEq, Repr

/-- An interval at a hub (R313, R314), by its end GT: activity counts by tenant; once closed, its length in HCLK, mean supply in mV, the estimate at its
start, and the sweep that waits for its commit with the tenant of a single-tenant one; once every EN_ACT has arrived, the model energy of each tenant. -/
structure HubInterval where
  counts : Table (List Nat) := []
  closed : Bool := false
  done : Bool := false
  len : Nat := 0
  mv : Nat := 0
  tstart : Int := 0
  energy : Table Nat := []
  sweep : Option (Nat × Option Nat) := none
  deriving DecidableEq, Repr

/-- What a hub keeps for metering and heat (R312–R327). -/
structure HubEn where
  intervals : Table HubInterval := []
  /-- End GT of the latest interval closed. -/
  lastEnd : Nat := 0
  /-- Supply readings of the interval in progress: sum and number (R314). -/
  vsum : Nat := 0
  vnum : Nat := 0
  /-- Estimate at the start of the interval in progress; 40 °C is the reset value of T_amb (R321, R340). -/
  tstart : Int := 2560
  /-- Sub-nanojoule fractions by tenant, over the common denominator of the region's model (R314). -/
  fracs : Table Nat := []
  counters : Table EnCounter := []
  /-- Latest factor of the region's channel (R320). -/
  factor : Nat := 2 ^ 20
  /-- Estimate T, 16 bits; none before the first step, when it stands at T_amb (R321). -/
  est : Option Nat := none
  deriving DecidableEq, Repr

/-- What a hub keeps for its supply and its neighbours (R320, R442, R455, R462): readings in a row within 15 mV of an open transition's
target, and per direction N, E, S, W the neighbour's supply reading and its age in readings, its estimate and its age in steps. -/
structure HubPw where
  near : Nat := 0
  vnb : List (Option Nat × Nat) := [(none, 0), (none, 0), (none, 0), (none, 0)]
  tnb : List (Option Nat × Nat) := [(none, 0), (none, 0), (none, 0), (none, 0)]
  deriving DecidableEq, Repr

/-! ## The Kiln -/

/-- Sense channel states (R311). -/
inductive SenseState where
  | off | init | good | open_ | probation
  deriving DecidableEq, Repr

/-- STATE codes of SNS_STATUS (R339). -/
def SenseState.code : SenseState → Nat
  | .off => 0 | .init => 1 | .good => 2 | .open_ => 3 | .probation => 4

/-- A Sense channel (R307–R318). -/
structure SenseCh where
  st : SenseState := .off
  passes : Nat := 0
  vsh : Nat := 0
  vbus : Nat := 0
  eper : Nat := 0
  k : Nat := 0
  kbar : Nat := 0x100000
  openCnt : Nat := 0
  anchored : Bool := false
  deriving DecidableEq, Repr

/-- What the Kiln gathers for an interval (R316–R318): measured energy by channel in nJ × PERIOD, channels with trouble, EN_MODEL totals by region,
the 200 µs have passed, its periods have all committed. -/
structure KInterval where
  meas : Table Nat := []
  bad : List Nat := []
  models : Table Nat := []
  late : Bool := false
  measured : Bool := false
  deriving DecidableEq, Repr

/-- A tenant's part of a commit bank (R330). -/
structure TallyEntry where
  total : Nat := 0
  stBase : Nat := 0
  stSweep : Nat := 0
  stGt : Nat := 0
  coBase : Nat := 0
  coSweep : Nat := 0
  coGt : Nat := 0
  ua : Bool := false
  coUa : Bool := false
  gap : Bool := false
  deriving DecidableEq, Repr

/-- A statement (R333): its tenant, number, 128 bytes as a little-endian number, and GT of its sweep. -/
structure Statement where
  tenant : Nat
  seq : Nat
  gt : Nat
  data : Nat
  deriving DecidableEq, Repr

/-- A commit bank (R330); a tenant that is not listed has the entry `rest`. -/
structure Bank where
  sweep : Nat := 0
  t : Nat := 0
  entries : Table TallyEntry := []
  rest : TallyEntry := {}
  statements : List Statement := []
  deriving DecidableEq, Repr

/-- What a sweep is for (R327, R329, R332): a global one (tenant none), or one of a tenant for its statement (0), its Colophon (1), its activation (2) or
the last of its reset (3); times it has been proposed again. -/
structure SweepWant where
  tenant : Option Nat
  purpose : Nat := 0
  tries : Nat := 0
  deriving DecidableEq, Repr

/-- A sweep that collects (R328): number, purpose, seal instant, hubs still to report, the Kiln's own interval anchored, sums by tenant. -/
structure Sweep where
  number : Nat
  want : SweepWant
  t : Nat
  await : List Nat := []
  anchored : Bool := false
  sums : Table (Nat × Bool) := []
  deriving DecidableEq, Repr

/-- A Merkle batch (R334, R335): number, first SEQ, GT of its first statement and of its close, and leaf hashes. -/
structure Batch where
  number : Nat
  seq : Nat
  gt0 : Nat
  gt1 : Nat := 0
  leaves : List Nat
  deriving DecidableEq, Repr

/-- Sense and the Tally at the Kiln. -/
structure Tally where
  channels : Table SenseCh := []
  /-- Periods of the interval in progress, intervals not yet anchored by end GT, sweep instants that no period has passed yet, the latest interval anchored,
  and channels unanchored by interval. -/
  cur : KInterval := {}
  intervals : Table KInterval := []
  cuts : List Nat := []
  lastAnchor : Nat := 0
  unanch : Table Nat := []
  /-- Kiln and AUX energy by tenant (R327). -/
  counters : Table EnCounter := []
  sweep : Option Sweep := none
  /-- Sweeps still to be proposed, and those proposed and not yet sealed, by number (R328, R329). -/
  wants : List SweepWant := []
  proposed : List (Nat × SweepWant) := []
  /-- Tenants whose statement request waits, with REQID (R332). -/
  requests : List (Nat × Nat) := []
  banks : List Bank := [{}, {}]
  bank : Nat := 0
  /-- The inactive bank has been written in full and its flip is still to come (R330, R331). -/
  flipDue : Bool := false
  stnums : Table Nat := []
  seq : Nat := 1
  /-- Statements issued and not yet handed to the Stacker (R332, R334); place of the next ring record, in 128 B units. -/
  queue : List Statement := []
  ringPos : Nat := 0
  batch : Option Batch := none
  /-- Closed batches that wait for their root's signature, oldest first; PREV; roots that wait for room. -/
  unsigned : List Batch := []
  prevRoot : Nat := 0
  roots : List Nat := []
  /-- The batch whose root the Vault is signing. -/
  signing : Option Nat := none
  deriving DecidableEq, Repr

/-! ## The Vault -/

/-- Vault states (R345). -/
inductive VaultState where
  | off | selftest | unprovisioned | operational | periodic | entropyRaw | error
  deriving DecidableEq, Repr

/-- STATE codes of VLT_STATUS (R367). -/
def VaultState.code : VaultState → Nat
  | .off => 0 | .selftest => 1 | .unprovisioned => 2 | .operational => 3 | .periodic => 4 | .entropyRaw => 5 | .error => 7

/-- A request in the Vault's queue (R347, R365). -/
inductive VaultReq where
  | random (caller : Nat)
  | deriveRotkey (region tenant : Nat)
  | hmacRecord (len data : Nat)
  | hmacLedger (page : Nat)
  | verifyCharter
  | keygen (tenant : Nat)
  | keydrop (tenant : Nat)
  | signColophon (tenant : Nat) (isRecall : Bool)
  | signRoot (batch : Nat)
  | token
  deriving DecidableEq, Repr

/-- A key of the handle table (R350, R364): state 0 EMPTY, 1 ACTIVE, 2 ZEROISED, 3 LOCKED; public halves and certificate body. -/
structure VaultKey where
  st : Nat := 0
  gen : Nat := 0
  uses : Nat := 0
  pub : Nat := 0
  cert : Nat := 0
  deriving DecidableEq, Repr

/-- A nonce slot (R357): nonce, service, GT of issue, place in the order of issue, and whether its lifetime has ended. -/
structure NonceSlot where
  nonce : Nat
  service : Nat
  gt : Nat
  order : Nat
  ended : Bool := false
  deriving DecidableEq, Repr

/-- The key-store image (R351): salt, generation, key pairs by handle, revoked officer key hashes. -/
structure KeyImage where
  salt : Nat := 0
  gen : Nat := 0
  keys : Table VaultKey := []
  revoked : List Nat := []
  deriving DecidableEq, Repr

/-- The Vault. -/
structure Vault where
  st : VaultState := .off
  /-- State to return to from PERIODIC and ENTROPY_RAW. -/
  back : VaultState := .unprovisioned
  image : KeyImage := {}
  /-- Banked copy and blobs A and B (R351). -/
  banked : Option KeyImage := none
  blobs : List (Option KeyImage) := [none, none]
  /-- Volatile key cache is loaded; keys of tenants and of the cache by handle. -/
  cache : Bool := false
  keys : Table VaultKey := []
  slots : Table NonceSlot := []
  issued : Nat := 0
  queue : List VaultReq := []
  /-- Requests that wait at their units for a place in the queue of 32 (R365), oldest first. -/
  outside : List VaultReq := []
  /-- The latest service completed on the internal command port: its request, APPROVED and its value (R344). -/
  answer : Option (VaultReq × Bool × Nat) := none
  /-- A periodic test is due once the state allows it (R345, R366). -/
  testDue : Bool := false
  /-- Entropy (R354): raw samples since the start-up tests began; last sample and how often in a row; reference of the adaptive proportion window, its count
  and samples so far; GT of the latest health failure; samples kept for VLT_RAW. -/
  samples : Nat := 0
  rct : Option (Nat × Nat) := none
  apt : Option (Nat × Nat × Nat) := none
  failGt : Option Nat := none
  raw : List Nat := []
  /-- Generate requests since the DRBG was seeded, and the seconds of an ENTROPY_RAW token. -/
  generates : Nat := 0
  /-- The reseed waits for the start-up tests that follow ENTROPY_RAW (R354). -/
  retest : Bool := false
  rawSecs : Nat := 0
  /-- A token that waits for the tests, with what its signatures will verify to; nonce requests that wait. -/
  token : Option (Bool × Bool) := none
  nonceDue : List Nat := []
  /-- REKEY_TALLY waits for the open batch to be signed (R356). -/
  rekey : Bool := false
  locked : Bool := false
  deriving DecidableEq, Repr

end Sys2Proof.Machine
end

