-- ==== Sys2Proof/Machine/StateLedger.lean ====
section
/-! DEFINITION. State of the Ledger (R391–R411): records, folding and staging at the Kiln, the banked write buffer, the flash with
its pages and blocks, and the hubs' rate limits. -/

namespace Sys2Proof.Machine

/-- A Ledger record (R391). -/
structure LedgerRec where
  code : Nat
  level : Nat := 0
  esc : Bool := false
  merged : Bool := false
  banked : Bool := false
  annot : Bool := false
  src : Nat
  time : Nat
  rep : Nat := 0
  p0 : Nat := 0
  p1 : Nat := 0
  p2 : Nat := 0
  deriving DecidableEq, Repr

/-- The 256 bits of a record (R391). -/
def LedgerRec.word (r : LedgerRec) : Nat :=
  pack [(0, 16, r.code), (16, 2, r.level), (18, 1, flag r.esc), (19, 1, flag r.merged), (20, 1, flag r.banked),
    (21, 1, flag r.annot), (24, 32, r.src), (56, 76, r.time), (132, 16, r.rep), (148, 32, r.p0), (180, 32, r.p1), (212, 32, r.p2)]

/-- Two records fold (R396): equal in CODE, bits [23:16], SRC, P1 and P2, and in P0 where CODE is 0x1000 or above. -/
def LedgerRec.folds (a b : LedgerRec) : Bool :=
  a.code == b.code && a.level == b.level && a.esc == b.esc && a.merged == b.merged && a.banked == b.banked
    && a.annot == b.annot && a.src == b.src && a.p1 == b.p1 && a.p2 == b.p2 && (decide (a.code < 0x1000) || a.p0 == b.p0)

/-- A page trailer (R401). -/
structure Trailer where
  nrec : Nat
  pagenum : Nat
  prevpage : Nat
  early : Bool := false
  recovered : Bool := false
  unsealed : Bool := false
  salt0 : Bool := false
  flserr : Bool := false
  cleargen : Nat := 0
  tfirst : Nat := 0
  tlast : Nat := 0
  prev : Nat := 0
  devid : Nat := 0
  sealMac : Nat := 0
  deriving DecidableEq, Repr

/-- A page slot of the flash: its records as 256-bit words, and its trailer once the page is closed (R400, R401). -/
structure Page where
  recs : List Nat := []
  trailer : Option Trailer := none
  deriving DecidableEq, Repr

/-- What the flash controller waits for (R400, R401): a program operation of n records, or of a trailer where n is 0, with its retry; an erase. -/
inductive FlashOp where
  | idle | programming (n : Nat) (retry : Bool) | erasing (block : Nat)
  deriving DecidableEq, Repr

/-- The Ledger front end, its write buffer and its flash. -/
structure Ledger where
  /-- Staging queue and banked write buffer, oldest first (R397). -/
  stage : List LedgerRec := []
  buf : List LedgerRec := []
  /-- The newest record is an open fold (R396). -/
  foldOpen : Bool := false
  /-- Discards since the latest LOST record: L0, and L1 to L3 (R392). -/
  lost0 : Nat := 0
  lost1 : Nat := 0
  /-- Staging depth copied into the banked domain (R397). -/
  depth : Nat := 0
  /-- Page slots of the flash by 7 × block + slot (R400); erased slots are not listed. -/
  flash : Table Page := []
  /-- Blocks erased and ready, blocks skipped after a failed erase, number of blocks. -/
  erased : List Nat := []
  failed : List Nat := []
  blocks : Nat := 0
  /-- Slot being filled and its page number; the latest sealed page and its seal (banked). -/
  slot : Nat := 0
  page : Nat := 0
  sealedPage : Nat := 0
  sealMac : Nat := 0
  oldest : Nat := 0
  cleargen : Nat := 0
  wrapped : Bool := false
  /-- Highest page a clear archives, and the blocks still to erase (banked). -/
  clearing : Option Nat := none
  clearLeft : List Nat := []
  op : FlashOp := .idle
  /-- An erase that the loss flush suspended, to be repeated (R404, R408). -/
  eraseAgain : Option Nat := none
  /-- A page close waits for its seal: early, recovered, flserr. -/
  closing : Option (Bool × Bool × Bool) := none
  /-- The trailer being programmed; the page being read back, none where the flash does not hold it, with VERIFY (R407). -/
  trailer : Option Trailer := none
  reading : Option (Option Page × Bool) := none
  flushing : Bool := false
  /-- The banked record of R404 step 4 is valid. -/
  savedOpen : Bool := false
  deriving DecidableEq, Repr

/-- An entry of a hub's rate limits (R394): tokens, suppressed count, SRC of the last and GT of the first suppressed. -/
structure TokenEntry where
  kind : Nat
  tokens : Nat
  supp : Nat := 0
  src : Nat := 0
  gt : Nat := 0
  deriving DecidableEq, Repr

/-- A hub's rate limits: entries not listed are full and free (R394); the overflow entry. -/
structure HubLg where
  entries : List TokenEntry := []
  overflow : Option TokenEntry := none
  deriving DecidableEq, Repr

end Sys2Proof.Machine
end

