-- ==== Sys2Proof/Machine/StateTrace.lean ====
section
/-! DEFINITION. State of trace and global stop (R465–R485), and of the Stacker (R368–R390). -/

namespace Sys2Proof.Machine

/-! ## Trace -/

/-- A hub's trace ring (R470): records as 128-bit words, oldest first; next record index; drops since the previous MARK; trace is on; drops that no TRDROP
record has named, and GT of the latest one (R480). -/
structure HubTr where
  recs : List Nat := []
  head : Nat := 0
  drops : Nat := 0
  on : Bool := false
  untold : Nat := 0
  told : Option Nat := none
  deriving DecidableEq, Repr

/-- Debug state at the Kiln (R470, R471, R473): its own ring; sources seen in this stop; hubs whose cut
waits, the hub whose run is awaited, and the run being drained: region, first index, records, whether channel 2 has it; and the operating second at which a debug
unlock ends (R477). -/
structure Dbg where
  recs : List Nat := []
  seen : Nat := 0
  cuts : List Nat := []
  cutting : Option Nat := none
  run : Option (Nat × Nat × Nat) := none
  copying : Bool := false
  unlock : Option Nat := none
  deriving DecidableEq, Repr

/-! ## The Stacker -/

/-- Channel states (R378). -/
inductive StkState where
  | idle | fetch | run | flush | halted | error
  deriving DecidableEq, Repr

/-- STATE codes (R390). -/
def StkState.code : StkState → Nat
  | .idle => 0 | .fetch => 1 | .run => 2 | .flush => 3 | .halted => 4 | .error => 5

/-- Operations of a descriptor (R369). -/
inductive StkOp where
  | copy | fill | compare
  deriving DecidableEq, Repr

/-- A stream (R372): address space, start, line length, lines and stride. -/
structure Stream where
  space : Nat := 0
  base : Nat := 0
  len : Nat := 1
  lines : Nat := 1
  stride : Int := 0
  deriving DecidableEq, Repr

/-- A descriptor, decoded (R369). -/
structure StkDesc where
  op : StkOp := .copy
  src : Stream := {}
  dst : Stream := {}
  next : Nat := 0
  pattern : Nat := 0
  end_ : Bool := true
  pulse : Bool := false
  flush : Bool := false
  stopmis : Bool := false
  tag : Nat := 0
  deriving DecidableEq, Repr

/-- A channel (R376–R378): its descriptor; whether its fetch or flush read has been requested; stream offsets requested of source and, for COMPARE, of
destination; read data that has arrived out of order, by stream offset; contiguous data not yet written or compared, with the offset of its first byte and of its
end; the last stream unit found to differ; offset of the next write burst, or of the next byte to compare; bytes whose beats have left; the chain was stopped by a mismatch; the job of a system channel. -/
structure StkCh where
  st : StkState := .idle
  desc : StkDesc := {}
  at_ : Nat := 0
  asked : Bool := false
  rdPos : Nat := 0
  rdPos2 : Nat := 0
  late : Table (List Nat) := []
  late2 : Table (List Nat) := []
  buf : List Nat := []
  bufEnd : Nat := 0
  buf2 : List Nat := []
  bufEnd2 : Nat := 0
  cmpUnit : Option Nat := none
  wrPos : Nat := 0
  sent : Nat := 0
  stopped : Bool := false
  job : Option SysJob := none
  /-- Generation of the chain: accepted write bursts of an earlier one no longer count. -/
  gen : Nat := 0
  deriving DecidableEq, Repr

/-- What a read in flight is for: descriptor, source data, destination data of a COMPARE, flush read. -/
inductive StkReadKind where
  | desc | src | dst | flush
  deriving DecidableEq, Repr

/-- A read burst in flight (R376): tag, channel, purpose, stream offset, address, bytes; beats of data so far; its channel no longer wants it. -/
structure StkRead where
  tag : Nat
  ch : Nat
  kind : StkReadKind
  pos : Nat
  addr : Nat
  n : Nat
  beats : List Nat := []
  dead : Bool := false
  /-- A space-1 read that goes to this hub over the Flue (R371). -/
  region : Option Nat := none
  deriving DecidableEq, Repr

/-- A write request accepted on the SMP (R386): tag, channel, its generation, first address, beats still to present as data and strobes with the bytes of
each, and whether it is its descriptor's last. -/
structure StkWrite where
  tag : Nat
  ch : Nat
  gen : Nat
  addr : Nat
  beats : List (Nat × Nat × Nat)
  last : Bool
  deriving DecidableEq, Repr

/-- The Stacker. -/
structure Stacker where
  chans : Table StkCh := []
  reads : List StkRead := []
  writes : List StkWrite := []
  rqCred : Nat := 0
  wdCred : Nat := 0
  wrTag : Nat := 64
  /-- Address of recent write requests by tag, to name a failed one (R382). -/
  wrAddr : Table (Nat × Nat) := []
  /-- Position in the 15-slot pattern, and the channel last served at each level (R377). -/
  slot : Nat := 0
  lastCh : List Nat := [31, 31, 31, 31]
  deriving DecidableEq, Repr

end Sys2Proof.Machine
end

