-- ==== Sys2Proof/Machine/StateUnits.lean ====
section
/-! DEFINITION. The hub (R16) with the parts of its state; the host port (R487, R488), the Flue hops (R27) and the GHP snapshot captures
(R13). -/

namespace Sys2Proof.Machine

/-- A region hub. Every default is the value after PORB; assumption 1 names the values that the spec gives none for. -/
structure Hub where
  gt : Nat := 0
  gtValid : Bool := false
  timeRound : Option Nat := none
  gtCorrections : Nat := 0
  stopLeaf : Bool := false
  /-- Reading records of a column, oldest first (R109). -/
  readings : Table (List ReadRec) := []
  readCounts : Table ReadCount := []
  /-- RD_ORDERs sent so far (R108). -/
  rdOrders : Nat := 0
  books : Table TileBook := []
  cat : CatPart := {}
  walk : Table WalkState := []
  /-- Role history of a position, newest first, at most four (R162). -/
  roles : Table (List RoleEntry) := []
  /-- Times a message to a tile has been re-resolved since it was first sent (R162). -/
  bounces : List (Msg × Nat) := []
  /-- Rotation keys the hub holds, with the sampling exponent, by tenant (R170). -/
  keys : Table (Nat × Nat) := []
  /-- Listed steps missed, by tenant (R154). -/
  misses : Table Nat := []
  fl : HubFl := {}
  flt : HubFlt := {}
  wd : HubWd := {}
  lg : HubLg := {}
  ep : HubEp := {}
  en : HubEn := {}
  pw : HubPw := {}
  tr : HubTr := {}
  /-- Pattern library and its key (R120, R122). -/
  patterns : List Pattern := []
  iftKey : Nat := 0
  /-- Sections of a Charter or amendment whose part the hub holds and has not applied (R432, R435). -/
  parts : List Nat := []
  deriving DecidableEq, Repr

/-- A request outstanding at the host port (R488). -/
structure GhpReq where
  tag : Nat
  ten : Nat
  addr : Nat
  wr : Bool
  sz64 : Bool
  gt : Nat
  deriving DecidableEq, Repr

/-- A Flue hop (R27, R29): NAKs in a row of the flit at its head, holding and retraining, retrained for that flit, down, replays so far, and the
latency that training measured. -/
structure Hop where
  naks : Nat := 0
  retraining : Bool := false
  retrained : Bool := false
  down : Bool := false
  replays : Nat := 0
  latency : Nat := 0
  deriving DecidableEq, Repr

/-- A node of the Flue: the Kiln, a hub or a probe. -/
inductive Node where
  | kiln
  | hub (r : Nat)
  | probe (r t : Nat)
  deriving DecidableEq, Repr

/-- What crosses the Flue as one message: a message of the REQ, RSP or BULK channel, a probe's FAULT flit, or the TIME message that a node sends on one
hop (R20, R30, R198). -/
inductive Parcel where
  | msg (m : Msg)
  | fault (r t : Nat) (m : FaultMsg)
  | time (hop : HopId) (round : Nat)
  deriving DecidableEq, Repr

/-- One flit at a node: its place in its message, the output hops that it still has to take there, the GT from which the node may use it, and the HSEQ under
which the hop brought it (R20). -/
structure HopFlit where
  parcel : Parcel
  index : Nat
  left : List HopId
  ready : Nat
  hseq : Nat := 0
  deriving DecidableEq, Repr

/-- The sending port of a hop, and the receive buffers at the hop's far end (R20, R23, R24, R27). -/
structure HopPort where
  /-- Of the latest 15 grants, newest first: one of FAULT while a flit of another channel waited. -/
  recent : List Bool := []
  /-- Grants to other channels in a row while a BULK flit waits. -/
  bulkWait : Nat := 0
  /-- The input served last, by channel. -/
  turn : Table Nat := []
  /-- The input and message that hold a channel until LAST, by channel. -/
  held : Table (Nat × Parcel) := []
  /-- HSEQ of the next flit. -/
  hseq : Nat := 0
  /-- The last 8 flits sent and not acknowledged, oldest first. -/
  unacked : List HopFlit := []
  /-- Flits sent over the hop that its far end still holds, oldest first; each channel has its own credits. -/
  buffers : List HopFlit := []
  deriving DecidableEq, Repr

/-- The Flue below its messages: which messages have entered it, the TIME messages on their hops with the value that they carry, what each node has of its
own to send, and the ports. -/
structure Net where
  known : List Parcel := []
  times : Table (HopId × Nat × Nat) := []
  sources : List (Node × List HopFlit) := []
  ports : List (HopId × HopPort) := []
  deriving DecidableEq, Repr

end Sys2Proof.Machine
end

