-- ==== Sys2Proof/Machine/StateBring.lean ====
section
/-! DEFINITION. State of bring-up and the Charter (R412–R436) and of power, clocks and reset (R437–R464). -/

namespace Sys2Proof.Machine

/-- Bring-up states (R422, R436). -/
inductive BruState where
  | selftest | waitch | load | apply | qualify | ready | refused
  deriving DecidableEq, Repr

/-- STATE codes of BRU_STATUS (R436). -/
def BruState.code : BruState → Nat
  | .selftest => 0 | .waitch => 1 | .load => 2 | .apply => 3 | .qualify => 4 | .ready => 5 | .refused => 6

/-- An amendment in progress (R431, R432): its image, the hubs and sections still to acknowledge, and the sections not yet sealed. -/
structure AmendState where
  image : Image
  await : List (Nat × Nat) := []
  left : List Nat := []
  deriving DecidableEq, Repr

/-- The Charter unit and bring-up (R418–R436). -/
structure Bru where
  state : BruState := .selftest
  code : Nat := 0
  classH : Bool := false
  /-- GT of PORB release. -/
  start : Nat := 0
  go : Bool := false
  /-- A power-down interrupts bring-up after its sub-step (R445); the verified image that then waits to be applied. -/
  paused : Bool := false
  image : Option Image := none
  /-- Fuse words read, address of a word whose first read had bad parity, fuse error, map complete. -/
  fuses : Table Nat := []
  reread : Option Nat := none
  fuseErr : Bool := false
  fuseDone : Bool := false
  /-- FUSE_CKH (R418). -/
  ckh : Nat := 0
  /-- Flue training: grid, spine column, whether every hop is within its allowance, done. -/
  trained : Bool := false
  trainW : Nat := 0
  trainH : Nat := 0
  trainS : Nat := 0
  hopsOk : Bool := true
  trainDetail : Nat := 0
  /-- Self-test results at the hubs: failed (region, tile, mask); tiles reported, as a mask by region. At the Kiln: failed positions, and regions whose
  summary is complete (R424, R435). -/
  pstFailed : List (Nat × Nat × Nat) := []
  pstDone : Table Nat := []
  pstKnown : List (Nat × Nat) := []
  pstSums : List Nat := []
  /-- Probe L1s of bring-up: region, tile and QCAUSE (R422). -/
  early : List (Nat × Nat × Nat) := []
  /-- Hubs and sections whose acknowledgement APPLY awaits. -/
  hubAcks : List (Nat × Nat) := []
  /-- Ports whose result is missing, and whether Ledger recovery is done. -/
  qualAwait : List Nat := []
  ledgerDone : Bool := false
  requal : List Nat := []
  /-- The amendment in hand, and those applied by the Charter unit, which a hub that was behind still takes (R183, R432). -/
  amend : Option AmendState := none
  amended : List Image := []
  amseq : Nat := 0
  edigest : Nat := 0
  serial : Nat := 0
  mekor : Nat := 0
  length : Nat := 0
  deriving DecidableEq, Repr

/-- Domain power states (R443). -/
inductive PwrState where
  | off | puWait | puIso | puBring | on | pdQuiesce | pdFlush | pdStop
  deriving DecidableEq, Repr

/-- STATE codes of PWR_STATUS (R443). -/
def PwrState.code : PwrState → Nat
  | .off => 0 | .puWait => 1 | .puIso => 2 | .puBring => 3 | .on => 4 | .pdQuiesce => 5 | .pdFlush => 6 | .pdStop => 7

/-- The loss-flush capture (R440, R441). -/
structure LossCapture where
  cause : Nat
  state : Nat
  trans : Nat
  lowest : Nat
  depth : Nat
  flipped : Bool
  half : Bool
  deriving DecidableEq, Repr

/-- Power, clocks and reset, in the banked domain (R439–R459). -/
structure Pwr where
  state : PwrState := .off
  /-- State left for PD_QUIESCE, to which an on request returns (R445). -/
  back : PwrState := .off
  onLatch : Bool := false
  offLatch : Bool := false
  /-- Source of the latest request (R461). -/
  source : Nat := 0
  pcreq : Bool := false
  /-- Cause of TRAY_PCREQ (R461). -/
  trayCause : Nat := 0
  acked : Bool := false
  /-- VDD was lost since the last power-up, and since TRAY_ACK (R445, R459). -/
  vddLost : Bool := false
  ackLoss : Bool := false
  /-- The domain is OFF after a loss, and powers up once PORB and VDD allow (R445, R451). -/
  restart : Bool := false
  onBk : Bool := false
  /-- Time of the switch to VBK, and of the start of holdover, in operating µs. -/
  bkAt : Nat := 0
  holdAt : Nat := 0
  holdover : Bool := false
  retention : Bool := false
  /-- The banked domain has stopped (R439); it has started cold and its time has not been restored (R452). -/
  stopped : Bool := false
  cold : Bool := false
  /-- Rails, clock and reset input as the monitors see them; PORB is asserted while `porb` is false. -/
  vddGood : Bool := true
  vaonGood : Bool := true
  rclkPresent : Bool := true
  porb : Bool := false
  /-- A loss flush runs, with its capture (R440). -/
  flush : Option LossCapture := none
  /-- The power-down has passed its commit point (R445). -/
  committed : Bool := false
  /-- Regions whose voltage transition is open, ascending (R442). -/
  transitions : List Nat := []
  cycles : Nat := 0
  secs : Nat := 0
  micros : Nat := 0
  /-- 32-bit fraction of a microsecond (R449). -/
  frac : Nat := 0
  khz : Nat := 2000000
  btnPressed : Bool := false
  btnStuck : Bool := false
  /-- HRSTB is low (R457). -/
  hrstb : Bool := false
  /-- Sealed latch (R214). -/
  sealedLatch : Bool := false
  /-- Hubs whose fence acknowledgement PD_QUIESCE awaits (R445). -/
  quiesceAwait : List Nat := []
  deriving DecidableEq, Repr

/-- The management port (R501–R505): the I3C front end, in the banked domain, with its dynamic address, whether in-band interrupts are enabled, and its
maximum lengths; and the MCTP endpoint's ID, in the Kiln. -/
structure Mgt where
  da : Option Nat := none
  ibi : Bool := false
  mwl : Nat := 69
  mrl : Nat := 69
  eid : Nat := 0
  deriving DecidableEq, Repr

/-- What the banked front end keeps while the VDD side is in reset (R501). -/
def Mgt.banked (m : Mgt) : Mgt := { m with eid := 0 }

end Sys2Proof.Machine
end

