-- ==== Sys2Proof/Machine/State.lean ====
section
/-! DEFINITION. The state of the block: plain data, one part for each unit of the Kiln, the hubs and the probes in tables, the
register fields, the messages in flight, the pulses given on output ports, and the queue of commands. -/

namespace Sys2Proof.Machine

/-- One-cycle outputs and answers on the ports. Level outputs are read from the state (R32). -/
inductive Pulse where
  /-- TPI_CMD_ERR (R72, R77); the code stands in TP_HDRERR. -/
  | cmdErr (region tile : Nat)
  /-- TPI_CMD_SLOT with the slot given (R72). -/
  | cmdSlot (region tile slot : Nat)
  /-- TPI_OP_READY (R53). -/
  | opReady (region tile : Nat)
  /-- TPI_OUT_VALID with TPI_OUT_CODE and TPI_OUT_TAG (R72, R87). -/
  | outValid (region tile code htag : Nat)
  /-- TPI_REL (R86). -/
  | rel (region tile slot : Nat)
  /-- TPI_DISC (R88). -/
  | disc (region tile slot : Nat)
  /-- TPI_RETRY with the HTAG of the slot's first header (R94). -/
  | retry (region tile htag : Nat)
  /-- TPI_ETAG (R91). -/
  | etag (region tile tag : Nat)
  /-- TPI_MIN_OK and TPI_MIN_BAD (R92). -/
  | minOk (region tile : Nat)
  | minBad (region tile : Nat)
  /-- A header presented on TPI_ICMD (R106). -/
  | icmd (region tile : Nat) (hdr : Hdr)
  /-- A unit written on TPI_XWR or read on TPI_XRD (R73). -/
  | xwr (region tile unit data : Nat)
  | xrd (region tile unit : Nat)
  /-- A beat that a probe puts on the column copy path (R104). -/
  | copyBeat (region tile beat data : Nat)
  /-- TPI_CSHK step driven (R126). -/
  | cshk (region tile step : Nat)
  /-- A GHP response (R487). -/
  | ghpRs (tag status data : Nat)
  /-- An answer on MGT: vendor completion code, or PLDM or MCTP code, and data (R502–R504). -/
  | mgtRs (code : Nat) (data : List Nat)
  /-- Data bytes that the I3C target returns to a CCC, or its acknowledgement (R501). -/
  | i3c (ack : Bool) (data : List Nat)
  /-- An in-band interrupt with its mandatory data byte (R505). -/
  | ibi (mdb : Nat)
  /-- A message presented on a CLP port: its 64 bytes (R247). -/
  | clp (port : Nat) (msg : List Nat)
  /-- An SMP read or write request, and an SMP write beat (R387). -/
  | smpRq (write : Bool) (tag addr beats : Nat)
  | smpWd (tag data strobe : Nat) (last : Bool)
  /-- STK_DONE (R379). -/
  | stkDone (channel : Nat)
  /-- FLS operations: program, erase, read (R398, R400). -/
  | flsProgram (addr : Nat) (data : List Nat)
  | flsErase (block : Nat)
  | flsRead (addr : Nat)
  /-- FUSE_RD with its address (R418). -/
  | fuseRd (addr : Nat)
  /-- CLP_QUAL_REQ rises or falls (R425). -/
  | qualReq (port : Nat) (high : Bool)
  /-- A DBG event pulse of R474's selector. -/
  | dbgEvent (line : Nat)
  deriving DecidableEq, Repr

/-- Why a step of this block stops as a fault. Safe: the block goes on where the model stops, so no claim is proved of what
follows. -/
inductive Fault where
  /-- No meaning raises this: every event that the spec describes has its effect, and every address error has a status. It keeps the
  type inhabited. Safe. -/
  | unreachable
  deriving DecidableEq, Repr

/-- Why a step refuses a command. Safe: nothing is claimed of what follows. -/
inductive Refusal where
  /-- The dispatcher raises it for a command whose meaning has not been written. Safe. -/
  | notModelled (mnemonic : String)
  deriving DecidableEq, Repr

/-- The state. -/
structure State where
  /-- Commands waiting, first in, first out: the model's own field. -/
  pending : List Instr := []
  /-- The configuration in force: what the Charter and its amendments declare (R414). -/
  cfg : Charter := {}
  /-- Register fields, by RegField.key; an unlisted field holds its reset value (R14). -/
  regs : Table Nat := []
  /-- Captured snapshot groups, by register address (R13). -/
  snaps : Table Nat := []
  /-- Probes by region × 2,048 + tile; an unlisted one is as after PORB. -/
  probes : Table Probe := []
  hubs : Table Hub := []
  /-- Kiln GT (R29). -/
  gt : Nat := 0
  timeRounds : Nat := 0
  /-- The Catalogue master's copy of every region's part (R140). -/
  master : Table CatPart := []
  lost : List Nat := []
  /-- Rotation seeds of tenants, drawn at activation or given by their TENANCY entry (R49). -/
  seeds : Table Nat := []
  hops : Table Hop := []
  flt : KFault := {}
  fl : KFolio := {}
  rcv : KRcv := {}
  ldg : Ledger := {}
  tally : Tally := {}
  vault : Vault := {}
  /-- The Vault's token buffer and the Ledger's page buffer, which the GHP addresses by byte (R358, R407). -/
  tokbuf : Buffer := []
  pageBuf : Buffer := []
  link : Link := {}
  colo : KColo := {}
  /-- Writes that Kiln units have handed to system channels, by channel, oldest first (R368). -/
  sys : Table (List SysJob) := []
  stk : Stacker := {}
  dbg : Dbg := {}
  bru : Bru := {}
  pwr : Pwr := {}
  mgt : Mgt := {}
  ghp : List GhpReq := []
  /-- Messages in flight, oldest first: the model's own field. -/
  flue : List Msg := []
  /-- The hops of the Flue with the flits on them, which the clock moves (R20, R23–R27). -/
  net : Net := {}
  /-- Pulses given on the ports so far, oldest first: the model's own field. -/
  pulses : List Pulse := []
  /-- Free values drawn so far: the model's own field. -/
  freeCtr : Nat := 0
  deriving DecidableEq, Repr

/-- The state right after reset: every field at its default (R14). -/
def State.reset : State := {}

end Sys2Proof.Machine
end

