-- ==== Sys2Proof/Machine/Ops.lean ====
section
/-! DEFINITION. The named operations that every family shares: register fields, probes and hubs, messages, pulses, fault messages, free
values, Ledger records and the judgement of a host write. -/

namespace Sys2Proof.Machine

/-! ## Register fields -/

/-- The value of a field of instance `i` of its window (R9). -/
def State.get (s : State) (f : RegField) (i : Nat) : Nat := tgetD f.reset (f.key i) s.regs

/-- The state with a field set, reduced to its width. -/
def State.set (s : State) (f : RegField) (i v : Nat) : State := { s with regs := tput (f.key i) (wrap f.w v) s.regs }

/-- A one-bit field that is 1. -/
def State.on (s : State) (f : RegField) (i : Nat) : Bool := s.get f i == 1

/-- An event or flag set (R12). -/
def State.raise (s : State) (f : RegField) (i : Nat) : State := s.set f i 1

/-- A counter plus `n`, wrapping at its width. -/
def State.bump (s : State) (f : RegField) (i n : Nat) : State := s.set f i (s.get f i + n)

/-- A counter plus `n`, saturating at its width. -/
def State.bumpSat (s : State) (f : RegField) (i n : Nat) : State := s.set f i (saturate f.w (s.get f i + n))

/-- Several fields of one instance set. -/
def State.setAll (s : State) (i : Nat) : List (RegField × Nat) → State
  | [] => s
  | (f, v) :: rest => (s.set f i v).setAll i rest

/-! ## Probes and hubs -/

/-- Instance number of a probe. -/
def pid (r t : Nat) : Nat := r * 2048 + t

/-- The probe of a position. -/
def State.probe (s : State) (r t : Nat) : Probe := tgetD {} (pid r t) s.probes

/-- The state with the probe of a position replaced. -/
def State.setProbe (s : State) (r t : Nat) (p : Probe) : State := { s with probes := tput (pid r t) p s.probes }

/-- The state with the probe of a position changed. -/
def State.modProbe (s : State) (r t : Nat) (f : Probe → Probe) : State := s.setProbe r t (f (s.probe r t))

/-- The hub of a region. -/
def State.hub (s : State) (r : Nat) : Hub := tgetD {} r s.hubs

/-- The state with a hub replaced. -/
def State.setHub (s : State) (r : Nat) (h : Hub) : State := { s with hubs := tput r h s.hubs }

/-- The state with a hub changed. -/
def State.modHub (s : State) (r : Nat) (f : Hub → Hub) : State := s.setHub r (f (s.hub r))

/-- Regions of the grid (R18). -/
def State.regionCount (s : State) : Nat := s.cfg.w * s.cfg.h

/-- The regions of the grid whose hub has a route to the Kiln (R27). -/
def State.liveRegions (s : State) : List Nat := (List.range s.regionCount).filter (fun r => !s.lost.contains r)

/-- A region coordinate pair (rx, ry) of a region number (R18). -/
def State.gridOf (s : State) (r : Nat) : Nat × Nat := (r % s.cfg.w, r / s.cfg.w)

/-- Row of a tile-within-region (R18). -/
def tileRow (t : Nat) : Nat := t / 32

/-- Column of a tile-within-region (R18). -/
def tileCol (t : Nat) : Nat := t % 32

/-- Tile-within-region of a row and column (R18). -/
def tileAt (row col : Nat) : Nat := 32 * row + col

/-- Shelfmark X of a region column, and Y of a logical row (R18). -/
def State.shelfX (s : State) (r col : Nat) : Nat := 32 * (s.gridOf r).1 + col

/-- Shelfmark Y of a logical row of a region (R18). -/
def State.shelfY (s : State) (r lrow : Nat) : Nat := 32 * (s.gridOf r).2 + lrow

/-- Physical coordinates of a position (R18). -/
def State.physXY (s : State) (r t : Nat) : Nat × Nat := (32 * (s.gridOf r).1 + tileCol t, 33 * (s.gridOf r).2 + tileRow t)

/-! ## Messages, pulses, free values -/

/-- A message put on the Flue. -/
def State.send (s : State) (m : Msg) : State := { s with flue := s.flue ++ [m] }

/-- Several messages, in order. -/
def State.sendAll (s : State) (l : List Msg) : State := { s with flue := s.flue ++ l }

/-- Two messages of one channel from one source to one destination. A copy for every node is no such message: it travels hop by hop (R30, R192). -/
def Msg.sameStream (a b : Msg) : Bool :=
  a.vc == b.vc && a.src == b.src && a.dest == b.dest && a.op != 0xC0 && srcRegion a.dest != 0x7FE

/-- The messages in flight after one of them arrives: those sent before it on its channel between the same ends arrived first (R25; assumption 91). -/
def arrive (m : Msg) : List Msg → List Msg
  | [] => []
  | x :: rest => if x = m then rest else if x.sameStream m ∧ rest.contains m then arrive m rest else x :: arrive m rest

/-- A message taken off the Flue, where one in flight equals it. -/
def State.recv (s : State) (m : Msg) : State := { s with flue := arrive m s.flue }

/-- A pulse on an output port. -/
def State.emit (s : State) (p : Pulse) : State := { s with pulses := s.pulses ++ [p] }

/-- Several pulses, in order. -/
def State.emitAll (s : State) (l : List Pulse) : State := { s with pulses := s.pulses ++ l }

/-- An in-band interrupt of the management port, where ENEC has enabled them (R505). -/
def State.ibi (s : State) (mdb : Nat) : State := if s.mgt.ibi then s.emit (.ibi mdb) else s

/-- A fresh free value of `w` bits, and the state after it (assumption 6). -/
def State.fresh (s : State) (w : Nat) : Nat × State :=
  (wrap w (Config.freeValue s.freeCtr), { s with freeCtr := s.freeCtr + 1 })

/-! ## Fault messages (R198) -/

/-- GTLO of a fault message that a hub makes (R198); before its first TIME message it stamps nothing (R29, assumption 4). -/
def Hub.stamp (h : Hub) (src : Nat) : Nat := wrap 24 (if h.gtValid then h.gt else Config.noStamp src)

/-- GTLO of a fault message that a probe makes (R198, R29). -/
def Probe.stamp (p : Probe) (src : Nat) : Nat := wrap 24 (if p.gtValid then p.gt24 else Config.noStamp src)

/-- A probe queues a FAULT flit; UNIT 1 for Tap parity kinds, 2 for SRAM kinds (R197, assumption 20). -/
def State.probeFault (s : State) (r t kind tenant addr : Nat) : State :=
  s.modProbe r t (fun p =>
    let unit := if kind = 0x003 ∨ kind = 0x004 then 1 else if kind = 0x008 ∨ kind = 0x009 then 2 else 0
    { p with faultOut := p.faultOut ++ [{ src := sourceId r t unit 0, kind := kind, tenant := tenant, addr := wrap 48 addr, gtlo := p.stamp (sourceId r t unit 0) }] })

/-- A fault message enters a hub's FAULT input queue, which holds 64; one of the hub's own that finds it full waits for a place (R26, R199, R204). -/
def State.hubQueue (s : State) (r : Nat) (m : FaultMsg) : State :=
  let h := s.hub r
  if h.flt.queue.length < 64 then
    let s := s.setHub r { h with flt := { h.flt with queue := h.flt.queue ++ [m] } }
    if h.flt.queue.length + 1 ≥ 64 then s.raise Reg.RH_FLT_EVENT_QFULL r else s
  else s.setHub r { h with flt := { h.flt with held := h.flt.held ++ [m] } }

/-- A hub raises a fault: its message enters its own queue to be classified. -/
def State.hubFault (s : State) (r src kind tenant addr : Nat) : State :=
  s.hubQueue r { src := src, kind := kind, tenant := tenant, addr := wrap 48 addr, gtlo := (s.hub r).stamp src }

/-- A unit of the Kiln raises a fault: its message waits for registration (R208). -/
def State.kilnFault (s : State) (unit inst kind tenant addr : Nat) : State :=
  { s with flt := { s.flt with queue := s.flt.queue ++
      [{ src := kilnSrc unit inst, kind := kind, tenant := tenant, addr := wrap 48 addr, gtlo := wrap 24 s.gt }] } }

/-- FLUE_PROTO against a receiver (R22); a probe's goes through its FAULT flits. -/
def State.flueProto (s : State) (r : Nat) (t : Option Nat) (op : Nat) : State :=
  match t with
  | some t => s.probeFault r t 0x302 0 (wrap 8 op)
  | none => if r = kilnRegion then s.kilnFault 0x18 0 0x302 0 (wrap 8 op) else s.hubFault r (hubSrc r) 0x302 0 (wrap 8 op)

/-! ## Ledger records (R391–R397) -/

/-- Ledger time (R393). -/
def State.ledgerTime (s : State) : Nat := pack [(52, 24, s.pwr.cycles), (20, 32, s.pwr.secs), (0, 20, s.pwr.micros)]

/-- Close the open fold (R396). -/
def Ledger.closeFold (l : Ledger) : Ledger := { l with foldOpen := false }

/-- Replace the newest record, which the fold keeps open. -/
def Ledger.mapNewest (f : LedgerRec → LedgerRec) (l : Ledger) : Ledger :=
  match l.stage.reverse with
  | x :: rest => { l with stage := (f x :: rest).reverse }
  | [] =>
    match l.buf.reverse with
    | x :: rest => { l with buf := (f x :: rest).reverse }
    | [] => l

/-- The newest record of the staging queue or, where that is empty, of the write buffer. -/
def Ledger.newest (l : Ledger) : Option LedgerRec :=
  match l.stage.reverse with
  | x :: _ => some x
  | [] => l.buf.reverse.head?

/-- Records move from the staging queue into free places of the write buffer, in order (R397). -/
def Ledger.move (l : Ledger) : Ledger :=
  let n := min (64 - l.buf.length) l.stage.length
  { l with buf := l.buf ++ l.stage.take n, stage := l.stage.drop n, depth := l.stage.length - n }

/-- Places of the staging queue open to a record: the last 64 accept only L1 to L3 (R397). -/
def Ledger.hasPlace (l : Ledger) (level : Nat) : Bool :=
  decide (l.buf.length < 64 ∧ l.stage = []) || decide (l.stage.length < (if level = 0 then 960 else 1024))

/-- A record enters: it joins the open fold where it is identical (R396), else it closes it and takes a place, or is counted as lost
(R397). While a flush runs no fold is opened: the buffer programs what it holds (R396). -/
def Ledger.enter (l : Ledger) (r : LedgerRec) : Ledger × Bool :=
  match (if l.foldOpen then l.newest else none) with
  | some n =>
    if n.folds r && decide (n.rep < 0xFFFF) then
      ((l.mapNewest (fun x => { x with rep := x.rep + 1 })), true)
    else if l.hasPlace r.level then (({ l with stage := l.stage ++ [r], foldOpen := !l.flushing } : Ledger).move, true)
    else (if r.level = 0 then { l with lost0 := l.lost0 + 1, foldOpen := false } else { l with lost1 := l.lost1 + 1, foldOpen := false }, false)
  | none =>
    if l.hasPlace r.level then (({ l with stage := l.stage ++ [r], foldOpen := !l.flushing } : Ledger).move, true)
    else (if r.level = 0 then { l with lost0 := l.lost0 + 1 } else { l with lost1 := l.lost1 + 1 }, false)

/-- The LOST record of the discards since the latest one, as soon as the queue has room (R392, R397). -/
def State.lostRecord (s : State) : State :=
  if (s.ldg.lost0 ≠ 0 ∨ s.ldg.lost1 ≠ 0) ∧ s.ldg.hasPlace 0 then
    { s with ldg := { (s.ldg.enter { code := 0x1005, src := kilnSrc 0x1F 2, time := s.ledgerTime, p0 := s.ldg.lost0, p1 := s.ldg.lost1 }).1 with lost0 := 0, lost1 := 0 } }
  else s

/-- A record created in the Kiln. A LOST record for earlier discards goes first where there is room (R392, R397). -/
def State.record (s : State) (r : LedgerRec) : State :=
  let s := s.lostRecord
  let (l, ok) := s.ldg.enter r
  let s := { s with ldg := l }
  if ok then s else (s.raise Reg.LDG_EVENT_LOST 0).bump Reg.LDG_LOSTCNT_COUNT 0 1

/-- A record that no fault made: code, SRC and parameters (R392). -/
def State.recordOf (s : State) (code src p0 p1 p2 : Nat) : State :=
  s.record { code := code, src := src, time := s.ledgerTime, p0 := wrap 32 p0, p1 := wrap 32 p1, p2 := wrap 32 p2 }

/-- A record that the banked domain writes (R461). -/
def State.bankedRecord (s : State) (code p0 p1 p2 : Nat) : State :=
  s.record { code := code, src := kilnSrc 0x1F 4, time := s.ledgerTime, p0 := wrap 32 p0, p1 := wrap 32 p1, p2 := wrap 32 p2,
             banked := s.pwr.holdover }

/-! ## Host writes that are commands of their own -/

/-- Completion statuses of a GHP request (R490). -/
inductive GhpStatus where
  | ok | rsvd | locked | denied | sealed_ | align | parity | timeout
  deriving DecidableEq, Repr

/-- Status codes (R490). -/
def GhpStatus.code : GhpStatus → Nat
  | .ok => 0 | .rsvd => 1 | .locked => 2 | .denied => 3 | .sealed_ => 4 | .align => 5 | .parity => 6 | .timeout => 7

/-- The GHP_EVENT bit of a status (R490). -/
def GhpStatus.event : GhpStatus → Option RegField
  | .ok => none | .rsvd => some Reg.GHP_EVENT_RSVD | .locked => some Reg.GHP_EVENT_LOCKED | .denied => some Reg.GHP_EVENT_DENIED
  | .sealed_ => some Reg.GHP_EVENT_SEALED | .align => some Reg.GHP_EVENT_ALIGN | .parity => some Reg.GHP_EVENT_PARITY
  | .timeout => some Reg.GHP_EVENT_TIMEOUT

/-- The sealed state of R214 holds. -/
def State.isSealed (s : State) : Bool := s.pwr.sealedLatch || s.flt.l3

/-- A GHP request completes: its status bit, the log of the latest completion other than OK, and the response (R487, R490, R506). -/
def State.ghpDone (s : State) (ten tag addr : Nat) (wr sz64 : Bool) (st : GhpStatus) (data : Nat) : State :=
  let s := match st.event with
    | none => s
    | some e => (s.raise e 0).setAll 0 [(Reg.GHP_ERRLOG_ADDR, addr), (Reg.GHP_ERRLOG_TEN, ten), (Reg.GHP_ERRLOG_TAG, tag),
        (Reg.GHP_ERRLOG_WR, flag wr), (Reg.GHP_ERRLOG_SZ, flag sz64), (Reg.GHP_ERRLOG_STATUS, st.code), (Reg.GHP_ERRLOG_GT, s.gt)]
  s.emit (.ghpRs tag st.code (if st = .ok ∨ st = .locked then wrap 64 data else 0))

/-- A tenant holds an active TENANCY entry: VALID = 1 and not standby (R146). -/
def State.tenantActive (s : State) (t : Nat) : Bool :=
  s.cfg.tenants.any (fun e => e.tenant == t && e.valid && !e.standby)

/-- The status of a write to a register of a window, before its lock is judged (R486, R490, R494, R428). `allow` says that the
requester's tag has the right where it is not tenant 0's alone. -/
def State.judgeWrite (s : State) (ten : Nat) (owner : Option Nat) (refusedOk : Bool) (declared : Bool) : GhpStatus :=
  if ten ≠ 0 ∧ owner ≠ some ten then .denied
  else if s.bru.state = .refused ∧ refusedOk = false then .denied
  else if s.isSealed then .sealed_
  else if declared = false then .rsvd
  else .ok

/-- The VDD side runs: its clocks run and the crossing is open (R443). -/
def Pwr.running (p : Pwr) : Bool := !p.stopped && (p.state == .puBring || p.state == .on || p.state == .pdQuiesce || p.state == .pdFlush)

/-- A request is accepted while the VDD side runs and fewer than 64 are outstanding; one that reuses an outstanding tag is discarded with no
response (R488). -/
def State.ghpAccept (s : State) (tag : Nat) (go : State) : State :=
  if s.pwr.running = false ∨ s.ghp.length ≥ 64 then s
  else if s.ghp.any (fun q => q.tag == tag) then s.raise Reg.GHP_EVENT_TAGDUP 0
  else go

/-- A host write with an effect of its own: judged, performed where its status is OK, and answered. -/
def State.hostWriteIn (s : State) (refusedOk : Bool) (ten tag addr : Nat) (owner : Option Nat) (declared : Bool) (act : State → State) : State :=
  let ten := wrap 12 ten
  let tag := wrap 6 tag
  let st := s.judgeWrite ten owner refusedOk declared
  s.ghpAccept tag ((if st = .ok then act s else s).ghpDone ten tag addr true false st 0)

/-- A host write that REFUSED refuses (R428). -/
def State.hostWrite (s : State) (ten tag addr : Nat) (owner : Option Nat) (declared : Bool) (act : State → State) : State :=
  s.hostWriteIn false ten tag addr owner declared act

end Sys2Proof.Machine
end

