-- ==== Sys2Proof/Machine/TraceOps.lean ====
section
/-! DEFINITION. Trace records of hubs and Kiln (R468–R470, R480), and event pulses (R472). -/

namespace Sys2Proof.Machine

/-- DBG_EVT lines whose selected code is an event's pulse (R472). -/
def State.event (s : State) (code : Nat) : State :=
  s.emitAll (((List.range 8).filter (fun i => bits (s.get Reg.DBG_EVSEL_EV 0) (4 * i) 4 == code)).map .dbgEvent)

/-- Head of a trace record (R468). -/
def traceHead (cls tenant gt : Nat) : Nat := pack [(0, 4, cls), (4, 12, tenant), (16, 32, gt)]

/-- The state with a hub's trace ring changed. -/
def State.modTr (s : State) (r : Nat) (f : HubTr → HubTr) : State := s.modHub r (fun h => { h with tr := f h.tr })

/-- Records dropped at a hub are counted, and named in a TRDROP record at most once a second (R470, R480). -/
def State.traceDrop (s : State) (r n : Nat) : State :=
  if n = 0 then s
  else
    let s := ((s.bump Reg.RH_TR_DROPS_COUNT r n).raise Reg.RH_TR_EVENT_DROP r).modTr r (fun t => { t with drops := t.drops + n, untold := t.untold + n })
    let t := (s.hub r).tr
    let due := match t.told with | none => true | some g => decide (g + 250 * s.cfg.rclk ≤ (s.hub r).gt)
    if due then (s.recordOf 0x1505 (sourceId r noTile 0x08 0) t.untold r 0).modTr r (fun t => { t with untold := 0, told := some (s.hub r).gt }) else s

/-- A record enters a hub's ring, or is dropped where it holds 4,096; at 2,048 the hub sends TR_LEVEL (R470, R471). -/
def State.traceStore (s : State) (r w : Nat) : State :=
  let t := (s.hub r).tr
  if t.recs.length ≥ 4096 then s.traceDrop r 1
  else
    let s := s.modTr r (fun t => { t with recs := t.recs ++ [w], head := wrap 12 (t.head + 1) })
    if t.recs.length + 1 = 2048 then ((s.raise Reg.RH_TR_EVENT_HALF r).send (Msg.toKiln r 0x1F 0xA1 2048 [])).event 9 else s

/-- A MARK of a hub (R468, R470), which tells the drops since the previous one; a MARK that finds the buffer full is one of them. -/
def State.traceMark (s : State) (r : Nat) : State :=
  let gt := (s.hub r).gt
  let w := traceHead 0 (saturate 12 (s.hub r).tr.drops) gt + pack [(48, 64, gt), (112, 11, r)]
  (if (s.hub r).tr.recs.length < 4096 then s.modTr r (fun t => { t with drops := 0 }) else s).traceStore r w

/-- A class is enabled at a hub (R483). -/
def State.traceOn (s : State) (r cls : Nat) : Bool :=
  let m := s.get Reg.RH_TR_CTRL_CLASSEN r
  bit m 0 && bit m cls

/-- A hub writes a record of a class, where it is enabled (R468). -/
def State.hubTrace (s : State) (r cls tenant payload : Nat) : State :=
  if s.traceOn r cls then s.traceStore r (traceHead cls tenant (s.hub r).gt + payload <<< 48) else s

/-- A record in the Kiln's own ring of 256, the newest kept (R470). -/
def State.kilnTrace (s : State) (w : Nat) : State :=
  let l := s.dbg.recs ++ [w]
  { s with dbg := { s.dbg with recs := l.drop (l.length - 256) } }

/-- FAULT trace record of a message taken from the queue (R468), where the tenant filter passes. -/
def State.traceFault (s : State) (r : Nat) (m : FaultMsg) : State :=
  if s.on Reg.RH_TR_FILT_ANYT r ∨ s.get Reg.RH_TR_FILT_TENANT r = m.tenant then
    s.hubTrace r 2 m.tenant (pack [(0, 32, m.src), (32, 12, m.kind), (44, 36, m.addr)])
  else s

/-- FOLIO trace record (R468): 0 PREPARING, 1 YES, 2 VOIDED, 3 SEALED, 4 applied. -/
def State.traceFolio (s : State) (r number state code : Nat) (late : Bool) : State :=
  s.hubTrace r 3 0 (pack [(0, 32, number), (32, 3, state), (35, 4, code), (39, 1, flag late)])

/-- GSTOP trace record of a hub whose leaf rises or falls, with the sources (R468, R473). -/
def State.traceStop (s : State) (r : Nat) (seen : Bool) : State :=
  s.hubTrace r 6 0 (pack [(0, 1, flag seen), (1, 4, s.get Reg.DBG_GSSTATUS_SOURCE 0)])

/-- GSTOP trace record of the Kiln. -/
def State.kilnStop (s : State) (seen : Bool) (sources : Nat) : State :=
  s.kilnTrace (traceHead 6 0 s.gt + pack [(48, 1, flag seen), (49, 4, sources)])

/-- FLUE trace record of a hub's port: 0 corrected, 1 NAK replay, 2 retrain, 3 down (R468). -/
def State.traceHop (s : State) (r port what : Nat) : State := s.hubTrace r 7 0 (pack [(0, 3, port), (3, 2, what)])

/-- TPAIR0 and TPAIR1 of a kept pair, where TPEN is 1 (R468). -/
def State.tracePair (s : State) (c pid stamp : Nat) (theta : Int) (delta : Nat) : State :=
  if s.on Reg.DBG_TRCTRL_TPEN 0 then
    (s.kilnTrace (traceHead 10 0 s.gt + pack [(48, 5, c), (53, 8, pid), (61, 64, stamp)])).kilnTrace
      (traceHead 10 0 s.gt + pack [(48, 64, unsigned 64 theta), (112, 16, delta)])
  else s

end Sys2Proof.Machine
end

