-- ==== Sys2Proof/Machine/Column.lean ====
section
/-! DEFINITION. A region's part of the Catalogue: roles, logical rows and column states (R140–R143), the effect of each Catalogue action
(R146, R153, R155, R159), the moves that it makes (R147) and the records shown (R166). The same functions act on a hub's part and
on the Catalogue master's copy. -/

namespace Sys2Proof.Machine

/-- The record of a position. -/
def CatPart.at (p : CatPart) (t : Nat) : CatPos := tgetD {} t p.pos

/-- The record of a column. -/
def CatPart.col (p : CatPart) (c : Nat) : CatCol := tgetD {} c p.cols

/-- The part with a position replaced. -/
def CatPart.setPos (p : CatPart) (t : Nat) (x : CatPos) : CatPart := { p with pos := tput t x p.pos }

/-- The part with a column replaced. -/
def CatPart.setCol (p : CatPart) (c : Nat) (x : CatCol) : CatPart := { p with cols := tput c x p.cols }

/-- Roles of a column's 33 positions by physical row. -/
def CatPart.rolesOf (p : CatPart) (c : Nat) : List Role := (List.range 33).map (fun r => (p.at (tileAt r c)).role)

/-- The physical rows that hold logical rows 0, 1, 2 … under given roles (R141). -/
def serviceRows (roles : List Role) : List Nat := (List.range 33).filter (fun r => roles.getD r .service == .service)

/-- Physical row of a logical row, where it is not orphaned (R141). -/
def CatPart.rowOf (p : CatPart) (c lrow : Nat) : Option Nat := if lrow < 32 then (serviceRows (p.rolesOf c))[lrow]? else none

/-- Logical row of a physical row in SERVICE: its row less the bypassed rows below it (R141). -/
def CatPart.lrowOf (p : CatPart) (c row : Nat) : Option Nat :=
  let rows := serviceRows (p.rolesOf c)
  if rows.contains row then
    (let l := (rows.filter (· < row)).length
     if l < 32 then some l else none)
  else none

/-- Row of the GAP position (R140). -/
def CatPart.gapRow (p : CatPart) (c : Nat) : Option Nat := (List.range 33).find? (fun r => (p.at (tileAt r c)).role == .gap)

/-- Rows that are QUENCHED. -/
def CatPart.quenchedRows (p : CatPart) (c : Nat) : List Nat := (List.range 33).filter (fun r => (p.at (tileAt r c)).role == .quenched)

/-- State of a column, from its QUENCHED positions (R143). -/
def CatPart.stateOf (p : CatPart) (c : Nat) : ColState :=
  match (p.quenchedRows c).length with
  | 0 => .walk | 1 => .parked | 2 => .exhausted | _ => .closed

/-- Tenants that hold a shelfmark (R146). -/
def CatPart.holdersOf (p : CatPart) (c lrow : Nat) : List Nat := tgetD [] (32 * c + lrow) p.holders

/-- The logical rows of a column that no position holds (R141). -/
def CatPart.orphans (p : CatPart) (c : Nat) : List Nat := (List.range 32).filter (fun l => (p.rowOf c l).isNone)

/-- The position next to the gap in the walk direction, which a step moves (R151). -/
def CatPart.movingRow (p : CatPart) (c : Nat) : Option Nat :=
  match p.gapRow c with
  | none => none
  | some g => if (p.col c).dir = 0 then (if g < 32 then some (g + 1) else none) else (if 0 < g then some (g - 1) else none)

/-- A move: source row, destination row (R147). -/
structure Move where
  src : Nat
  dst : Nat
  deriving DecidableEq, Repr

/-- What a Catalogue change did to a column: moves, and rows whose role or logical row changed (R160). -/
structure ColChange where
  col : Nat
  moves : List Move
  changed : List Nat
  deriving DecidableEq, Repr

/-- Shelfmarks whose position differs between two maps, with the two positions (R147, R155). -/
def movesBetween (before after : List Role) : List Move :=
  let a := serviceRows before
  let b := serviceRows after
  (List.range 32).filterMap (fun l =>
    match a[l]?, b[l]? with
    | some x, some y => if x = y then none else some { src := x, dst := y }
    | _, _ => none)

/-- Put new roles on a column: accession numbers advance at every position whose role or logical row changed (R160), and a
suspect mark goes with its shelfmark (R166). -/
def CatPart.setRoles (p : CatPart) (c : Nat) (new : List Role) (qcause qsecs : Nat) : CatPart × ColChange :=
  let old := p.rolesOf c
  let oldRows := serviceRows old
  let newRows := serviceRows new
  let lrow := fun (rows : List Nat) r => if rows.contains r then some (rows.filter (· < r)).length else none
  let changed := (List.range 33).filter (fun r =>
    old.getD r .service != new.getD r .service || lrow oldRows r != lrow newRows r)
  let moves := movesBetween old new
  let p' := changed.foldl (fun q r =>
    let x := q.at (tileAt r c)
    let role := new.getD r .service
    let fresh := role == .quenched && x.role != .quenched
    q.setPos (tileAt r c) { x with
      role := role, accession := wrap 20 (x.accession + 1),
      qcause := if fresh then qcause else if role == .quenched then x.qcause else 0,
      qsecs := if fresh then qsecs else if role == .quenched then x.qsecs else 0,
      suspect := ((moves.find? (fun m => m.dst == r)).map (fun m => (p.at (tileAt m.src c)).suspect)).getD false }) p
  (p', { col := c, moves := moves, changed := changed })

/-- A gap step at its seal (R153). -/
def CatPart.step (p : CatPart) (c : Nat) : CatPart × ColChange :=
  match p.gapRow c, p.movingRow c with
  | some g, some m =>
    let new := ((p.rolesOf c).set g .service).set m .gap
    let (p', ch) := p.setRoles c new 0 0
    let x := p.col c
    (p'.setCol c { x with steps := wrap 32 (x.steps + 1), dir := if m = 0 then 0 else if m = 32 then 1 else x.dir }, ch)
  | _, _ => (p, { col := c, moves := [], changed := [] })

/-- A quench at its seal, by the column's state before it (R155, R143). -/
def CatPart.quench (p : CatPart) (c row cause secs : Nat) : CatPart × ColChange :=
  let old := p.rolesOf c
  let marked := old.set row .quenched
  let new := match p.stateOf c with
    | .walk => (match p.gapRow c with
        | some g => if g = row then marked else marked.set g .service
        | none => marked)
    | .parked => marked
    | _ => List.replicate 33 .quenched
  let (p', ch) := p.setRoles c new cause secs
  let x := p.col c
  (p'.setCol c { x with quenched := if x.quenched.contains row then x.quenched else x.quenched ++ [row] }, ch)

/-- A restore at its seal (R159). -/
def CatPart.restore (p : CatPart) (c row : Nat) : CatPart × ColChange :=
  let (p', ch) := p.setRoles c ((p.rolesOf c).set row .gap) 0 0
  let x := p.col c
  (p'.setCol c { x with quenched := [], dir := if row = 0 then 0 else 1 }, ch)

/-- Give the run of `n` shelfmarks from `lrow` to a tenant, or take it back (R146). -/
def CatPart.assign (p : CatPart) (c lrow n tenant : Nat) (give : Bool) : CatPart :=
  (List.range n).foldl (fun p i =>
    let k := 32 * c + lrow + i
    let l := (tgetD [] k p.holders).filter (· != tenant)
    { p with holders := tput k (if give then l ++ [tenant] else l) p.holders }) p

/-- Every shelfmark of a tenant becomes unassigned (R190). -/
def CatPart.dropTenant (p : CatPart) (tenant : Nat) : CatPart :=
  { p with holders := tmap (fun _ l => l.filter (· != tenant)) p.holders }

/-- The effect of one Catalogue action on a region's part, with what moved (R170). -/
def CatPart.applyAct (p : CatPart) (a : Act) (secs : Nat) : CatPart × List ColChange :=
  if a.act = 0x01 then (let (p', ch) := p.step a.col; (p', [ch]))
  else if a.act = 0x02 then (let (p', ch) := p.quench a.col a.row (bits a.arg 0 3) secs; (p', [ch]))
  else if a.act = 0x03 then (let (p', ch) := p.restore a.col a.row; (p', [ch]))
  else if a.act = 0x04 then (p.assign a.col a.row (bits a.arg 0 5 + 1) a.tenant true, [])
  else if a.act = 0x05 then (p.assign a.col a.row (bits a.arg 0 5 + 1) a.tenant false, [])
  else if a.act = 0x10 then (p.dropTenant a.tenant, [])
  else (p, [])

/-- The effect of a list of actions in record order (R170). -/
def CatPart.applyAll (p : CatPart) (secs : Nat) : List Act → CatPart × List ColChange
  | [] => (p, [])
  | a :: rest =>
    let (p1, c1) := p.applyAct a secs
    let (p2, c2) := p1.applyAll secs rest
    (p2, c1 ++ c2)

/-- Does a Catalogue action match a region's part at prepare (R178 code 4, R146, R155, R159)? The answer is a vote code, 0 for yes. -/
def CatPart.checkAct (p : CatPart) (a : Act) : Nat :=
  let n := bits a.arg 0 5 + 1
  let run := (List.range n).map (a.row + ·)
  if a.act = 0x01 then (if (p.stateOf a.col) = .walk ∧ (p.movingRow a.col).isSome then 0 else 4)
  else if a.act = 0x02 then (if a.row ≤ 32 ∧ (p.at (tileAt a.row a.col)).role ≠ .quenched then 0 else 4)
  else if a.act = 0x03 then (if p.stateOf a.col = .parked ∧ (p.at (tileAt a.row a.col)).role = .quenched then 0 else 4)
  else if a.act = 0x04 then
    if run.any (fun l => (p.rowOf a.col l).isNone || (p.holdersOf a.col l).contains a.tenant) then 4
    else if run.any (fun l => decide (16 ≤ (p.holdersOf a.col l).length)) then 5 else 0
  else if a.act = 0x05 then (if run.all (fun l => (p.holdersOf a.col l).contains a.tenant) then 0 else 4)
  else 0

/-- The checks of a list of actions, each against the state that the earlier ones leave (R170). -/
def CatPart.checkAll (p : CatPart) : List Act → Nat
  | [] => 0
  | a :: rest => if p.checkAct a ≠ 0 then p.checkAct a else (p.applyAct a 0).1.checkAll rest

/-- The part that bring-up builds (R144): QUENCHED positions with their causes, one GAP in row 32 of every other column walking
towards row 0, and a column with three or more marked closed. -/
def CatPart.build (marked : List (Nat × Nat)) (secs : Nat) : CatPart :=
  (List.range 32).foldl (fun p c =>
    let rows := (List.range 33).filter (fun r => marked.any (fun m => m.1 == tileAt r c))
    let causeOf := fun r => ((marked.find? (fun m => m.1 == tileAt r c)).map (·.2)).getD 0
    let put := fun (p : CatPart) r cause => p.setPos (tileAt r c) { role := .quenched, qcause := cause, qsecs := secs }
    if rows = [] then (p.setPos (tileAt 32 c) { role := .gap }).setCol c { dir := 1 }
    else if rows.length < 3 then (rows.foldl (fun p r => put p r (causeOf r)) p).setCol c { quenched := rows }
    else
      let top := causeOf (rows.getLast?.getD 0)
      ((List.range 33).foldl (fun p r => put p r (if rows.contains r then causeOf r else top)) p).setCol c { quenched := rows }) {}

/-- Column record (R166). -/
def CatPart.colRecord (p : CatPart) (c : Nat) : Nat :=
  let x := p.col c
  let q := if x.quenched.isEmpty then p.quenchedRows c else x.quenched
  pack [(0, 6, (p.gapRow c).getD 63), (6, 1, x.dir), (7, 2, (p.stateOf c).code), (9, 6, q.getD 0 63), (15, 6, q.getD 1 63), (32, 32, x.steps)]

/-- Position record (R166). -/
def CatPart.posRecord (p : CatPart) (t : Nat) : Nat :=
  let x := p.at t
  pack [(0, 2, x.role.code), (2, 5, (p.lrowOf (tileCol t) (tileRow t)).getD 0), (7, 20, x.accession), (27, 1, flag x.suspect),
    (28, 3, x.qcause), (32, 32, x.qsecs)]

/-- The Catalogue master's part of a region. -/
def State.masterOf (s : State) (r : Nat) : CatPart := tgetD {} r s.master

end Sys2Proof.Machine
end

