-- ==== Sys2Proof/Machine/Kinds.lean ====
section
/-! DEFINITION. Fault kinds with their classes (R201, R202, R207), buckets (R203), the hub's rate limits (R394), the layouts of L1_RAISED and
WATCHDOG (R205, R226) and the domains and containments of reactions (R211, R213). -/

namespace Sys2Proof.Machine

/-- Service classes (R201). -/
inductive ServiceClass where
  | log | bkt | l1 | l2 | l3
  deriving DecidableEq, Repr

/-- Service class of a KINDCLASS code (R414). -/
def ServiceClass.ofCode : Nat → ServiceClass
  | 0 => .log | 1 => .bkt | 2 => .l1 | 3 => .l2 | _ => .l3

/-- Kinds of class BKT in service that are not host kinds (R201). -/
def bktKinds : List Nat := [0x001, 0x003, 0x007, 0x008, 0x101, 0x105, 0x108, 0x204, 0x301, 0x302, 0x305, 0x307, 0x501, 0x602, 0x603]

/-- Kinds of class LOG in service (R201). -/
def logKinds : List Nat := [0x006, 0x00A, 0x109, 0x401, 0x402, 0x605, 0x704]

/-- Kinds of class L1 in service (R201). -/
def l1Kinds : List Nat := [0x002, 0x004, 0x005, 0x009, 0x102, 0x103, 0x104, 0x106, 0x107, 0x201, 0x202, 0x203, 0x205, 0x303, 0x304,
  0x306, 0x308, 0x502, 0x503, 0x601]

/-- Host kinds (R200, R201). -/
def isHostKind (k : Nat) : Bool := decide (0x800 ≤ k ∧ k ≤ 0xCFF)

/-- Service class of a kind that no Charter entry can change; reserved codes are logged (assumption 21). -/
def baseClass (k : Nat) : ServiceClass :=
  if bktKinds.contains k then .bkt
  else if l1Kinds.contains k then .l1
  else if k = 0x604 ∨ k = 0x606 then .l2
  else if k = 0x701 ∨ k = 0x702 ∨ k = 0x703 then .l3
  else .log

/-- The Charter entry for a kind and CORR value (R202). -/
def State.kindEntry (s : State) (k : Nat) (corr : Bool) : Option KindEntry := s.cfg.kinds.find? (fun e => e.kind == k && (e.corr == corr || !isHostKind k))

/-- Service class of a kind (R201, R202). -/
def State.serviceClass (s : State) (k : Nat) (corr : Bool) : ServiceClass :=
  if isHostKind k then
    match s.kindEntry k corr with
    | some e => ServiceClass.ofCode e.service
    | none => if corr then .bkt else .l1
  else baseClass k

/-- Level of the three-class entry of a kind: 0 Corrected, 1 Contained, 2 Fatal L2, 3 Fatal L3 (R201, R207). -/
def State.threeLevel (s : State) (k : Nat) (corr : Bool) : Nat :=
  if isHostKind k then
    match s.kindEntry k corr with
    | some e => min e.three 3
    | none => if corr then 0 else 1
  else if k = 0x205 ∨ k = 0x303 ∨ k = 0x304 ∨ k = 0x601 then 2
  else match baseClass k with
    | .log => 0 | .bkt => 0 | .l1 => 1 | .l2 => 2 | .l3 => 3

/-- Level that a kind takes under a phase; BKT and LOG are level 0 (R203, R207). -/
def State.levelOf (s : State) (ph : Phase) (k : Nat) (corr : Bool) : Nat :=
  match ph with
  | .service => (match s.serviceClass k corr with | .log => 0 | .bkt => 0 | .l1 => 1 | .l2 => 2 | .l3 => 3)
  | _ => s.threeLevel k corr

/-- Threshold N of a kind's bucket: its Charter entry's, else FLT_BUCKET.N; 0 acts as 1 (R203, R218). -/
def State.bucketN (s : State) (k : Nat) (corr : Bool) : Nat :=
  match s.kindEntry k corr with
  | some e => if e.n = 0 then max 1 (s.get Reg.FLT_BUCKET_N 0) else e.n
  | none => max 1 (s.get Reg.FLT_BUCKET_N 0)

/-- Window W of a kind's bucket in seconds, held to 1 to 3,600 (R203, R218). -/
def State.bucketW (s : State) (k : Nat) (corr : Bool) : Nat :=
  let d := min 3600 (max 1 (s.get Reg.FLT_BUCKET_WSEC 0))
  match s.kindEntry k corr with
  | some e => if e.w = 0 then d else e.w
  | none => d

/-- Leak period floor(1,000 × W / N) in ms of a kind and CORR value (R202, R203). -/
def State.leakMs (s : State) (k : Nat) (corr : Bool) : Nat := 1000 * s.bucketW k corr / s.bucketN k corr

/-! ## Buckets -/

/-- Index of a key's entry in a bucket table. -/
def bucketIndex (key kind : Nat) (t : Table Bucket) : Option Nat :=
  (t.find? (fun e => e.2.key == key && e.2.kind == kind)).map (·.1)

/-- The lowest free entry of a table of `n`. -/
def freeIndex {α : Type} (n : Nat) (t : Table α) : Option Nat := (List.range n).find? (fun i => (tget i t).isNone)

/-- The entry to evict: the lowest level, the oldest latest event among equals (R203). -/
def evictIndex : Table Bucket → Option Nat
  | [] => none
  | (i, b) :: rest =>
    match evictIndex rest with
    | none => some i
    | some j =>
      match tget j rest with
      | some c => if b.level < c.level ∨ (b.level = c.level ∧ b.latest ≤ c.latest) then some i else some j
      | none => some i

/-- What a bucket event did: the table, its level then, whether an entry was evicted. -/
structure BucketEvent where
  table : Table Bucket
  level : Nat
  fired : Bool
  evicted : Bool
  deriving DecidableEq, Repr

/-- An event of a key in a table of `size` entries with threshold `n` (R203). -/
def bucketEvent (size key kind n now clock : Nat) (corr : Bool) (t : Table Bucket) : BucketEvent :=
  match bucketIndex key kind t with
  | some i =>
    let b := tgetD { key := key, kind := kind, level := 0, alloc := now, latest := clock } i t
    if b.level + 1 ≥ n then { table := tdel i t, level := b.level + 1, fired := true, evicted := false }
    else { table := tput i { b with level := b.level + 1, latest := clock } t, level := b.level + 1, fired := false, evicted := false }
  | none =>
    if n ≤ 1 then { table := t, level := 1, fired := true, evicted := false }
    else
      let fresh : Bucket := { key := key, kind := kind, level := 1, alloc := now, latest := clock, corr := corr }
      match freeIndex size t with
      | some i => { table := tput i fresh t, level := 1, fired := false, evicted := false }
      | none =>
        let i := (evictIndex t).getD 0
        { table := tput i fresh t, level := 1, fired := false, evicted := true }

/-- A leak of a key's bucket: the level falls by 1, and an entry at level 0 is free (R203). -/
def bucketLeak (key kind : Nat) (t : Table Bucket) : Table Bucket :=
  match bucketIndex key kind t with
  | none => t
  | some i =>
    match tget i t with
    | none => t
    | some b => if b.level ≤ 1 then tdel i t else tput i { b with level := b.level - 1 } t

/-- Milliseconds to the next leak, for a readback (R219). -/
def nextLeakMs (s : State) (now : Nat) (b : Bucket) : Nat :=
  let p := s.leakMs b.kind b.corr
  let ms := (now - b.alloc) * 4 / s.cfg.rclk
  if p = 0 then 0 else saturate 16 (p - ms % p)

/-! ## Rate limits of the hub (R394) -/

/-- BURST of a hub; 0 acts as 1. -/
def State.burst (s : State) (r : Nat) : Nat := max 1 (s.get Reg.RH_LG_CTRL_BURST r)

/-- A LOG or BKT message of a kind asks for a token: the limits, whether it may be forwarded, whether the overflow entry was used. -/
def HubLg.ask (l : HubLg) (burst kind src gt : Nat) : HubLg × Bool × Bool :=
  let step := fun (e : TokenEntry) =>
    if e.tokens > 0 then ({ e with tokens := e.tokens - 1 }, true)
    else ({ e with supp := e.supp + 1, src := src, gt := if e.supp = 0 then gt else e.gt }, false)
  match l.entries.find? (fun e => e.kind == kind) with
  | some e =>
    let (e', ok) := step e
    ({ l with entries := l.entries.map (fun x => if x.kind = kind then e' else x) }, ok, false)
  | none =>
    if l.entries.length < 64 then
      let (e', ok) := step { kind := kind, tokens := burst }
      ({ l with entries := l.entries ++ [e'] }, ok, false)
    else
      let (e', ok) := step (l.overflow.getD { kind := 0xFFF, tokens := burst })
      ({ l with overflow := some e' }, ok, true)

/-- One refill: a token more up to the limit, and the suppressed count back to 0; an entry that is full and has none is free (R394,
R395). The reports are kind, count, SRC and first GT. -/
def HubLg.refill (l : HubLg) (burst : Nat) : HubLg × List (Nat × Nat × Nat × Nat) :=
  let all := l.entries ++ l.overflow.toList
  let reports := (all.filter (fun e => decide (0 < e.supp))).map (fun e => (e.kind, e.supp, e.src, e.gt))
  let up := fun (e : TokenEntry) => { e with tokens := min burst (e.tokens + 1), supp := 0 }
  ({ entries := (l.entries.map up).filter (fun e => decide (e.tokens < burst)),
     overflow := (l.overflow.map up).filter (fun e => decide (e.tokens < burst)) }, reports)

/-! ## Messages that classification makes -/

/-- ADDR of L1_RAISED: triggering kind, cause (0 bucket, 1 immediate, 2 runtime), bucket level, ADDR [27:0] of the trigger (R205). -/
def l1Addr (kind cause level addr : Nat) : Nat := pack [(0, 12, kind), (12, 4, cause), (16, 4, level), (20, 28, addr)]

/-- ADDR of HOST_RAISED (R201). -/
def hostAddr (kind level : Nat) (corr : Bool) (addr : Nat) : Nat := pack [(0, 12, kind), (12, 2, level), (14, 1, flag corr), (15, 33, addr)]

/-- ADDR of WATCHDOG (R226). -/
def watchdogAddr (cause nsus count rung : Nat) : Nat := pack [(0, 2, cause), (2, 6, nsus), (8, 16, saturate 16 count), (24, 3, rung)]

/-- Key of a bucket: SRC, but the sender for INGRESS_TAG and the reader for RD_DISAGREE, whose SRC is the reader's (R203). The sender's
coordinates are ADDR [10:0] and [21:11]. -/
def State.bucketKey (s : State) (m : FaultMsg) : Nat :=
  if m.kind = 0x007 then
    let x := bits m.addr 0 11
    let y := bits m.addr 11 11
    probeSrc (y / 33 * s.cfg.w + x / 32) (tileAt (y % 33) (x % 32))
  else m.src

/-- Is the source a position: a tile unit, or a host unit whose TILE names a tile (R211)? -/
def srcIsTile (src : Nat) : Bool :=
  decide (srcRegion src ≠ kilnRegion ∧ srcTile src ≠ noTile) && (decide (srcUnit src ≤ 3) || decide (0x10 ≤ srcUnit src ∧ srcUnit src ≤ 0x14))

/-- Containment domain of an L1's source (R211). -/
def domainOf (src : Nat) : Domain :=
  if srcRegion src = kilnRegion then .unit (srcUnit src) (srcInst src)
  else if srcIsTile src then .column (srcRegion src) (tileCol (srcTile src))
  else .region (srcRegion src)

/-- Two domains overlap: the chip overlaps every other, and a region holds its columns (R212). -/
def Domain.overlaps : Domain → Domain → Bool
  | .chip, _ => true
  | _, .chip => true
  | .column r c, .column r' c' => r == r' && c == c'
  | .column r _, .region r' => r == r'
  | .region r, .column r' _ => r == r'
  | .region r, .region r' => r == r'
  | .unit u i, .unit u' i' => u == u' && i == i'
  | _, _ => false

/-- QCAUSE of the quench that contains an L1 of a kind (R213, R166). -/
def qcauseOf (kind : Nat) : Nat :=
  if 0x101 ≤ kind ∧ kind ≤ 0x103 then 4
  else if kind = 0x104 ∨ kind = 0x105 ∨ kind = 0x108 then 5
  else if kind = 0x106 ∨ kind = 0x107 then 6
  else 3

/-- Notice types (R215) of an L1 by its source and triggering kind (R213). -/
def noticeType (src kind : Nat) : Nat :=
  if kind = 0x201 ∨ kind = 0x205 then 2
  else if kind = 0x202 ∨ kind = 0x203 then 4
  else if kind = 0x303 ∨ kind = 0x304 then 5
  else if kind = 0x308 then 6
  else if srcIsTile src then (if kind = 0x103 then 2 else 1)
  else if srcRegion src = kilnRegion then 6
  else if 0x10 ≤ srcUnit src ∧ srcUnit src ≤ 0x14 then 3
  else 5

end Sys2Proof.Machine
end

