-- ==== Sys2Proof/Machine/VaultOps.lean ====
section
/-! DEFINITION. Operations of the Vault that other units call: derived keys (R49, R350), tags, the request queue (R365) and the error state
(R362). -/

namespace Sys2Proof.Machine

/-- The rotation key of a tenant in a region (R49): the KDF keyed by its seed; the context's 23 bits stand in three bytes (assumption 7). -/
def State.rotationKey (s : State) (r t : Nat) : Nat :=
  kdf384 (bytesBE 32 (tgetD 0 t s.seeds)) "GL3-ROT" (bytesBE 3 (pack [(12, 11, r), (0, 12, t)])) 80

/-- A number whose little-endian bytes are the big-endian bytes of another: a digest in a little-endian layout (R294, R296). -/
def leOfBE (n x : Nat) : Nat := ofBytesBE (bytesBE n x).reverse

/-- The `n` bytes of a number, least significant first (R6). -/
def leBytes (n x : Nat) : List Nat := (bytesBE n x).reverse

/-! ## Handles (R350) -/

/-- Handle of the KEK. -/
def hKek : Nat := 0x1000
/-- Handle of the store key. -/
def hStore : Nat := 0x1001
/-- Handle of the record key. -/
def hRecord : Nat := 0x2000
/-- Handle of the Ledger key. -/
def hLedger : Nat := 0x3000
/-- Handle of the DevID pair. -/
def hDevid : Nat := 0x4000
/-- Handle of the Tally pair. -/
def hTally : Nat := 0x5000
/-- Handle of a tenant's Colophon pair. -/
def hColophon (t : Nat) : Nat := 0x6000 + t
/-- Handle of the DRBG state. -/
def hDrbg : Nat := 0x7000

/-- The salt in use: 0 while UNPROVISIONED (R350). -/
def State.salt (s : State) : Nat := s.vault.image.salt

/-- A derived key by its label (R350). -/
def State.derivedKey (s : State) (label : String) (w : Nat) : Nat :=
  kdf384 (bytesBE 32 Config.deviceSecret) label (bytesBE 16 s.salt) w

/-- The Vault serves requests: its cache is loaded and it is not in error (R345, R362). -/
def State.vaultServes (s : State) : Bool :=
  s.vault.cache && (s.vault.st == .operational || s.vault.st == .unprovisioned || s.vault.st == .periodic || s.vault.st == .entropyRaw)

/-- The handle table with a key's use counted (R364). -/
def State.useKey (s : State) (h : Nat) : State :=
  { s with vault := { s.vault with keys := tput h (let k := tgetD {} h s.vault.keys; { k with uses := k.uses + 1 }) s.vault.keys } }

/-- A 128-bit tag over a byte list under a derived key (R348); while the Vault refuses, no tag is given, and what a format then holds in its place is
free (R362, assumption 6). -/
def State.tagOf (s : State) (label : String) (h : Nat) (m : List Nat) : Nat × State :=
  if s.vaultServes then (hmac384 (bytesBE 48 (s.derivedKey label 384)) m >>> 256, s.useKey h)
  else s.fresh 128

/-- The DRBG may reseed: neither in ENTROPY_RAW nor before the start-up tests after it (R354). -/
def Vault.mayReseed (v : Vault) : Bool := v.st != .entropyRaw && !v.retest

/-- A random value of the DRBG (R347, R354): free (assumption 6); generate requests are counted, and after 2^20 of them the DRBG reseeds. -/
def State.draw (s : State) (w : Nat) : Nat × State :=
  let n := s.vault.generates + 1
  ({ s with vault := { s.vault with generates := if 2 ^ 20 ≤ n ∧ s.vault.mayReseed then 0 else n } }).fresh w

/-- Requests that wait at their units take the places of the queue (R365). -/
def Vault.refill (v : Vault) : Vault :=
  let n := 32 - v.queue.length
  { v with queue := v.queue ++ v.outside.take n, outside := v.outside.drop n }

/-- A Kiln unit asks for a service; the queue has 32 places, and a request that finds none waits at its unit (R365). -/
def State.vaultAsk (s : State) (q : VaultReq) : State :=
  if s.vaultServes then { s with vault := { s.vault with outside := s.vault.outside ++ [q] }.refill } else s

/-- A request is queued, or waits for a place. -/
def Vault.asked (v : Vault) (q : VaultReq) : Bool := v.queue.contains q || v.outside.contains q

/-- Requests of a tenant's keys are withdrawn (R352, R366). -/
def Vault.withdraw (v : Vault) (t : Nat) : Vault :=
  let keep := fun (q : VaultReq) => q != .signColophon t false && q != .signColophon t true && q != .keygen t
  { v with queue := v.queue.filter keep, outside := v.outside.filter keep }.refill

/-! ## Key pairs and certificates (R350–R353) -/

/-- The bytes of a pair's public halves: ECDSA uncompressed, 97 B, then ML-DSA-65, 1,952 B. -/
def pubBytes (pub : Nat) : List Nat := leBytes 2049 pub

/-- DEVID: the leftmost 128 bits of the hash of the DevID public halves; 0 with no pair (R350, R367). -/
def KeyImage.devid (i : KeyImage) : Nat :=
  let k := tgetD {} hDevid i.keys
  if k.st = 0 then 0 else sha384 (pubBytes k.pub) >>> 256

/-- Public halves of a new pair: free values (assumption 6) behind the byte 4 of an uncompressed point. -/
def State.drawPub (s : State) : Nat × State :=
  let (ec, s) := s.fresh 768
  let (ml, s) := s.fresh 15616
  (4 + ec <<< 8 + ml <<< 776, s)

/-- A new pair of a handle: the next generation, no uses (R350, R352). -/
def State.newPair (s : State) (old : VaultKey) : VaultKey × State :=
  let (p, s) := s.drawPub
  ({ st := 1, gen := old.gen + 1, uses := 0, pub := p, cert := 0 }, s)

/-- A certificate (R353): kind 1 Tally, 2 Colophon; its two signatures are free values (assumption 6). -/
def State.certificate (s : State) (kind tenant slice job devid genesis : Nat) (k : VaultKey) : Nat × State :=
  let body := pack [(0, 16, 0x0305), (16, 8, kind), (32, 16, tenant), (48, 16, slice), (64, 32, job), (96, 32, k.gen), (128, 128, leOfBE 16 devid),
    (256, 384, leOfBE 48 (sha384 (pubBytes k.pub))), (640, 384, leOfBE 48 genesis)]
  let (ec, s) := s.fresh 768
  let (ml, s) := s.fresh 26472
  (body + ec <<< 1024 + ml <<< 1792, s)

/-- A change of the key-store image (R351): the generation rises, the blob of lower generation, then the banked copy are written, and it takes effect. -/
def State.writeImage (s : State) (i : KeyImage) : State :=
  let i := { i with gen := i.gen + 1 }
  let gen : Option KeyImage → Nat := fun o => (o.map (·.gen)).getD 0
  let n : Nat := if gen (s.vault.blobs.getD 0 none) ≤ gen (s.vault.blobs.getD 1 none) then 0 else 1
  let keys := i.keys.foldl (fun (t : Table VaultKey) e => tput e.1 e.2 t) s.vault.keys
  { s with vault := { s.vault with blobs := s.vault.blobs.set n (some i), banked := some i, image := i, keys := keys } }

/-- REKEY_TALLY completes (R356): a new pair and certificate; the old pair is zeroised. -/
def State.rekeyTally (s : State) : State :=
  let (k, s) := s.newPair (tgetD {} hTally s.vault.image.keys)
  let (c, s) := s.certificate 1 0 0 0 s.vault.image.devid 0 k
  let keys := tput hTally { k with cert := c } s.vault.image.keys
  let s := { s with vault := { s.vault with rekey := false } }.writeImage { s.vault.image with keys := keys }
  ((s.setAll 0 [(Reg.VLT_TOKST_BUSY, 0), (Reg.VLT_TOKST_RESULT, 0), (Reg.VLT_TOKST_REASON, 0), (Reg.VLT_TOKST_APPROVED, 1)]).raise Reg.VLT_EVENT_TOKOK 0).raise Reg.VLT_EVENT_TALLYKEY 0

/-! ## The error state -/

/-- Colophon requests that wait for the Vault end with RESULT 3 (R303, R362, R366). -/
def State.coloRefused (s : State) (t : Nat) : State :=
  let e : TenantEp := tgetD {} t s.colo.tenants
  if e.colo.isSome then
    { s with colo := { s.colo with tenants := tput t { e with colo := none } s.colo.tenants } }.setAll t
      [(Reg.TEN_COLO_STATUS_BUSY, 0), (Reg.TEN_COLO_STATUS_RESULT, 3), (Reg.TEN_COLO_REQ_REQ, 0)]
  else s

/-- A key zeroised (R363); an EMPTY handle stays so. -/
def zeroKey (k : VaultKey) : VaultKey := if k.st = 0 then k else { k with st := 2, pub := 0, cert := 0 }

/-- Keys of a set of classes zeroised (R363). -/
def zeroKeys (classes : List Nat) (t : Table VaultKey) : Table VaultKey :=
  tmap (fun h (k : VaultKey) => if classes.contains (h / 4096) then zeroKey k else k) t

/-- The volatile cache is cleared: derived keys, DRBG state, Colophon pairs, nonces (R363). -/
def Vault.clearCache (v : Vault) : Vault :=
  { v with cache := false, keys := zeroKeys [0x1, 0x2, 0x3, 0x6, 0x7] v.keys, slots := [], samples := 0, rct := none, apt := none, generates := 0, retest := false }

/-- Requests queued and running end without a result (R362, R366): Colophons are refused, roots wait, a token in hand ends with RESULT 3. -/
def State.endRequests (s : State) : State :=
  let hadToken := s.vault.token.isSome || s.vault.rekey
  let s := s.colo.tenants.foldl (fun s (e : Nat × TenantEp) => if (e.2.colo.map (·.swept)).getD false then s.coloRefused e.1 else s) s
  let s := { s with colo := { s.colo with tenants := tmap (fun _ (e : TenantEp) => { e with recallColos := [] }) s.colo.tenants } }
  let s := { s with vault := { s.vault with queue := [], outside := [], token := none, nonceDue := [], rekey := false, testDue := false }, tally := { s.tally with signing := none } }
  if hadToken then s.setAll 0 [(Reg.VLT_TOKST_BUSY, 0), (Reg.VLT_TOKST_RESULT, 3), (Reg.VLT_TOKST_APPROVED, 0)] else s

/-- Entry to ERROR (R362), with ERRCODE and ERRKIND. -/
def State.enterError (s : State) (code kind : Nat) : State :=
  if s.vault.st = .off ∨ s.vault.st = .error then s
  else
    let v := s.vault.clearCache
    let s := { s with vault := { v with st := .error, locked := true, keys := tmap (fun _ (k : VaultKey) => if k.st = 1 then { k with st := 3 } else k) v.keys } }.endRequests
    s.setAll 0 [(Reg.VLT_STATUS_ERRCODE, code), (Reg.VLT_STATUS_ERRKIND, kind), (Reg.VLT_CTRL_STNOW, 0)]

/-- The Vault is commanded into its error state at L3 (R214, R362). -/
def State.vaultCommandError (s : State) : State := s.enterError 0 3

end Sys2Proof.Machine
end

