-- ==== Sys2Proof/Machine/FaultCore.lean ====
section
/-! DEFINITION. Reactions (R211–R215): merging, escalation, queueing, the start and the end of handling, notices; and a hub's raising of
L1 (R205) with its proposals (R192). -/

namespace Sys2Proof.Machine

/-- Global stop is asserted (R473). -/
def State.stopped (s : State) : Bool := s.on Reg.DBG_GSSTATUS_STOPPED 0

/-! ## A hub's proposals and its L1 -/

/-- The Kiln's FAULT queue holds 256 flits of the spine links (R26). -/
def State.kilnFull (s : State) : Bool := decide (256 ≤ (s.flt.queue.filter (fun m => srcRegion m.src != kilnRegion)).length)

/-- A message that a hub forwards to the Kiln's FAULT queue. It waits at the hub while that queue is full, or the hub has no route (R26, R27). -/
def State.toKilnQueue (s : State) (r : Nat) (m : FaultMsg) : State :=
  let m := { m with corr := false }
  if s.kilnFull ∨ (s.hub r).flt.out ≠ [] ∨ s.lost.contains r then s.modHub r (fun h => { h with flt := { h.flt with out := h.flt.out ++ [m] } })
  else { s with flt := { s.flt with queue := s.flt.queue ++ [m] } }

/-- Parts of a proposal: at most seven records to a message (R192). -/
def proposalParts (r pid : Nat) (urgent : Bool) (acts : List Act) : List Msg :=
  let cs := chunksOf 7 acts
  cs.zipIdx.map (fun e => msgFlPropose r e.2 pid (e.2 + 1 == cs.length) urgent (e.1.map Act.flit))

/-- A hub proposes a Folio (R172, R192). -/
def State.hubPropose (s : State) (r : Nat) (urgent : Bool) (acts : List Act) : State :=
  let h := s.hub r
  let pid := h.fl.nextPid
  (s.setHub r { h with fl := { h.fl with nextPid := wrap 5 (pid + 1), proposed := h.fl.proposed ++ [(pid, acts, urgent, false)] } }).sendAll
    (proposalParts r pid urgent acts)

/-- A hub's own vote on a Folio it has not decided becomes void (R164, R177). -/
def State.hubVoteVoid (s : State) (r number code : Nat) : State :=
  let h := s.hub r
  let open_ := h.fl.open_.map (fun f => if f.number = number then { f with st := .voided } else f)
  (((s.setHub r { h with fl := { h.fl with open_ := open_ } }).send (msgFlVote r number code h.gt)).raise Reg.RH_FL_EVENT_VOTEVOID r).traceFolio r number 2 code false

/-- Steps of a column that the hub has prepared and not sealed. -/
def Hub.preparedSteps (h : Hub) (col : Nat) : List Nat :=
  (h.fl.open_.filter (fun f => (f.st == .preparing || f.st == .yes) && f.acts.any (fun a => a.act == 0x01 && a.col == col))).map (·.number)

/-- Bring-up has not reached READY and has not refused (R422). -/
def Bru.inBringUp (b : Bru) : Bool := b.state != .ready && b.state != .refused

/-- The hub's vote on every prepared step of a column becomes void with code 3 (R136, R164). -/
def State.voidSteps (s : State) (r col : Nat) : State := ((s.hub r).preparedSteps col).foldl (fun s n => s.hubVoteVoid r n 3) s

/-- The hub asks for the quench of a position: a prepared step of the column is voided with code 3, and an urgent CAT_QUENCH is proposed
(R164, R205). During bring-up the position is quenched when the Catalogue is built instead (R422). -/
def State.requestQuench (s : State) (r t cause : Nat) : State :=
  if s.bru.inBringUp then
    { s with bru := { s.bru with early := if s.bru.early.any (fun e => e.1 == r && e.2.1 == t) then s.bru.early else s.bru.early ++ [(r, t, cause)] } }
  else
  (s.voidSteps r (tileCol t)).hubPropose r true [{ act := 0x02, region := r, col := tileCol t, row := tileRow t, arg := cause }]

/-- An L1_RAISED for the same key with the other of the causes 0 and 1, raised in the same HCLK (R216). -/
def State.l1Twin (s : State) (key cause gtlo : Nat) : Option FaultMsg :=
  s.flt.queue.find? (fun q => q.kind == 0x306 && q.src == key && q.gtlo == gtlo && bits q.addr 12 4 == 1 - cause && decide (cause ≤ 1))

/-- The hub raises L1 for a key: L1_RAISED to the Kiln and, where the containment is a quench, the proposal (R205). A bucket crossing and an immediate kind
in one HCLK give one L1_RAISED, with cause 1 (R216). -/
def State.hubRaiseL1 (s : State) (r : Nat) (m : FaultMsg) (key cause level : Nat) : State :=
  let l1 : FaultMsg := { src := key, kind := 0x306, tenant := m.tenant, addr := l1Addr m.kind cause level m.addr, gtlo := (s.hub r).stamp key }
  match s.l1Twin key cause l1.gtlo with
  | some q => if cause = 1 then { s with flt := { s.flt with queue := s.flt.queue.map (fun x => if x = q then l1 else x) } } else s
  | none =>
  let s := (s.raise Reg.RH_FLT_EVENT_L1RAISED r).toKilnQueue r l1
  if srcIsTile key ∧ srcRegion key = r ∧ ¬ [0x201, 0x202, 0x203, 0x205, 0x303].contains m.kind then
    s.requestQuench r (srcTile key) (qcauseOf m.kind)
  else s

/-! ## The tray request and bring-up refusal -/

/-- TRAY_PCREQ rises, with its record: cause 0 BTN, 1 L3, 2 rung 5, 3 PWR_CTRL (R459, R461); it is reported on MGT (R505). -/
def State.trayRequest (s : State) (cause : Nat) : State :=
  if s.pwr.pcreq then s
  else (({ s with pwr := { s.pwr with pcreq := true, trayCause := cause } }).bankedRecord 0x1208 1 cause 0).ibi 0xA2

/-- Bring-up ends in READY or REFUSED: a domain in PU_BRING enters ON (R445), the end is reported on MGT (R505), and BRU_TIME tells when. -/
def State.bruEnd (s : State) : State :=
  let us := (s.gt - s.bru.start) * 4000 / s.cfg.rclk
  let s := (s.set Reg.BRU_TIME_US 0 us).ibi 0xA4
  if s.pwr.state = .puBring then ({ s with pwr := { s.pwr with state := .on } }).bankedRecord 0x1201 4 5 0 else s

/-- Bring-up refuses with a code (R422, R428): the record, the event and the state. Class H refusals are left only by PORB. -/
def State.bruRefuse (s : State) (code detail : Nat) : State :=
  let s := { s with bru := { s.bru with state := .refused, code := code, classH := [0x12, 0x20, 0x21, 0x22, 0x40, 0x60].contains code } }
  (((s.set Reg.BRU_DETAIL_DETAIL 0 detail).raise Reg.BRU_EVENT_REFUSED 0).recordOf 0x1302 (kilnSrc 0x1F 5) code detail 0).bruEnd

/-! ## Reactions -/

/-- A reaction is unacknowledged in HANDLING and AWAIT_ACK (R211). -/
def Reaction.unack (r : Reaction) : Bool := r.st == .handling || r.st == .awaitAck

/-- The reaction of a RID, where it is held. -/
def State.reaction (s : State) (rid : Nat) : Option Reaction :=
  match tget (rid % 1024) s.flt.reacts with
  | some r => if r.rid = rid then some r else none
  | none => none

/-- The state with a reaction stored. -/
def State.setReact (s : State) (r : Reaction) : State := { s with flt := { s.flt with reacts := tput (r.rid % 1024) r s.flt.reacts } }

/-- Every reaction held, in RID order. -/
def State.reactions (s : State) : List Reaction := s.flt.reacts.map (·.2)

/-- The tenants that hold a shelfmark of a region (R213). -/
def State.tenantsOfRegion (s : State) (r : Nat) : List Nat :=
  ((s.masterOf r).holders.flatMap (·.2)).eraseDups

/-- A tenant's current epoch (R215). -/
def State.epochOf (s : State) (t : Nat) : Nat := s.get Reg.TEN_EP_STATUS_OPEN t

/-- Notices of a reaction whose handling has ended: what its level and type give, then those that consequences added (R213, R150, R158). -/
def State.noticesOf (s : State) (r : Reaction) : List (Nat × Nat × Nat × Nat) :=
  let region := r.region
  let base :=
    if r.kind = 0x308 ∧ r.level = 1 then []
    else if r.ntype = 5 then (5, 0, region, 0) :: (s.tenantsOfRegion region).map (fun t => (2, t, region, 0))
    else if r.ntype = 3 ∧ r.tenant = 0 then
      (match s.tenantsOfRegion region with
       | [] => [(3, 0, r.x, r.y)]
       | l => l.map (fun t => (3, t, r.x, r.y)))
    else if r.kind = 0x601 then [(r.ntype, s.get Reg.STK_CH_CTRL_TENANT (srcInst r.src), srcInst r.src + 32 * s.get Reg.STK_STATUS_HCAUSE 0, 0)]
    else [(r.ntype, r.tenant, r.x, r.y)]
  base ++ r.extra

/-- A ROLLBACK notice that names the first recalled epoch (R274, R299): the epoch stands above the ten bits of Y. -/
def rollbackFrom (ten epoch : Nat) : Nat × Nat × Nat × Nat := (2, ten, 0, 1024 * (epoch + 1))

/-- Y of a notice, and the epoch it names where that is not the tenant's current one. -/
def noticeY (y : Nat) : Nat := wrap 10 y
/-- The epoch that a notice names. -/
def noticeEpoch (y : Nat) : Option Nat := if y / 1024 = 0 then none else some (y / 1024 - 1)

/-- The notice ring holds 255 unread notices (R215). -/
def State.ringFull (s : State) : Bool := wrap 8 (s.flt.head + 1) == s.get Reg.FLT_NTAIL_TAIL 0

/-- Notices of no reaction are written while the ring has room (R299, R215). -/
def State.writeLoose (s : State) : List (Nat × Nat × Nat × Nat) → State
  | [] => { s with flt := { s.flt with loose := [] } }
  | (ty, ten, x, y) :: rest =>
    if s.ringFull then { s with flt := { s.flt with loose := (ty, ten, x, y) :: rest } }.raise Reg.FLT_EVENT_NFULL 0
    else
      let n : Notice := { rid := 0, ntype := ty, tenant := ten, x := x, y := noticeY y, htag := 0, layer := 0, operator := 0,
                          epoch := (noticeEpoch y).getD (s.epochOf ten), fseq := 0, folio := 0, gt := s.gt }
      State.writeLoose { s with flt := { s.flt with notices := tput s.flt.head n s.flt.notices, head := wrap 8 (s.flt.head + 1) } } rest

/-- A ROLLBACK notice that belongs to no reaction (R299). -/
def State.notify (s : State) (n : Nat × Nat × Nat × Nat) : State := s.writeLoose (s.flt.loose ++ [n])

/-- Write what fits of a reaction's notices; the ring holds at most 255 (R215). -/
def State.writeNotices (s : State) (rid : Nat) : List (Nat × Nat × Nat × Nat) → State
  | [] => s
  | (ty, ten, x, y) :: rest =>
    match s.reaction rid with
    | none => s
    | some r =>
      if s.ringFull then
        (s.setReact { r with notices := (ty, ten, x, y) :: rest }).raise Reg.FLT_EVENT_NFULL 0
      else
        let n : Notice := { rid := rid, ntype := ty, tenant := ten, x := x, y := noticeY y, htag := r.htag, layer := r.layer, operator := r.operator,
                            epoch := (noticeEpoch y).getD (s.epochOf ten), fseq := r.fseq, folio := r.folio, gt := s.gt }
        let s := { s with flt := { s.flt with notices := tput s.flt.head n s.flt.notices, head := wrap 8 (s.flt.head + 1) } }
        (s.setReact { r with notices := rest }).writeNotices rid rest

/-- The state that a reaction takes once its notices are written: DONE where its end of handling acknowledges it (R213). -/
def Reaction.after (r : Reaction) : Reaction :=
  if r.level = 3 then r
  else if r.ntype = 1 ∧ r.extra = [] then { r with st := .done } else { r with st := .awaitAck }

/-- Handling ends: the notices are written, and the reaction moves on when they all are (R213, R215). A WATCHDOG's UNIT notice has been
written when its case left collection (R229). -/
def State.endHandling (s : State) (rid : Nat) : State :=
  match s.reaction rid with
  | none => s
  | some r =>
    if r.st ≠ .handling then s
    else if r.ended then s
    else
      let s := (s.setReact { r with ended := true }).writeNotices rid (s.noticesOf r)
      match s.reaction rid with
      | none => s
      | some r' => if r'.notices = [] then s.setReact r'.after else s

/-- Notices that wait for room are written as the ring allows, in RID order (R215). -/
def State.flushNotices (s : State) : State :=
  ((s.reactions.filter (fun r => r.st == .handling && r.notices != [])).foldl (fun s r =>
    let s := s.writeNotices r.rid r.notices
    match s.reaction r.rid with
    | none => s
    | some r' => if r'.ended ∧ r'.notices = [] then s.setReact r'.after else s) s) |> (fun s => s.writeLoose s.flt.loose)

/-- A reaction must wait behind one of a different level in HANDLING whose domain overlaps its own (R212). -/
def State.blocked (s : State) (r : Reaction) : Bool :=
  s.reactions.any (fun x => x.st == .handling && x.rid != r.rid && x.level != r.level && x.domain.overlaps r.domain)

/-- Handling that its Folio's seal and every awaited report end, or that has no Folio (R213). -/
def Reaction.complete (r : Reaction) : Bool := r.applied && r.reports.isEmpty && r.suspects.isEmpty

/-- The containment that the Kiln itself orders for an L1: a region that is withdrawn is fenced, where the Kiln can reach its hub (R213). -/
def State.contain (s : State) (src kind region : Nat) : State :=
  if noticeType src kind = 5 ∧ s.lost.contains region = false then s.send (msgFltFenceAll region true) else s

/-- Start an L1: its event, and the containment of its source (R213). A quench has been proposed by the hub; a region is withdrawn; every other
L1 but a WATCHDOG's has no Folio and ends at once. -/
def State.startL1 (s : State) (r : Reaction) : State :=
  let r := { r with st := .handling, ntype := noticeType r.src r.kind }
  let s := (((s.setReact r).raise Reg.FLT_EVENT_L1 0).event 3).contain r.src r.kind r.region
  if r.quench then (if r.complete then s.endHandling r.rid else s)
  else if r.kind = 0x308 then s
  else s.endHandling r.rid

/-- The phase changes, and every hub is told (R206). -/
def State.setPhase (s : State) (p : Phase) : State :=
  ({ s with flt := { s.flt with phase := p } }.set Reg.FLT_PHASE_PHASE 0 p.code).send (msgFltPhase p.code)

/-- Start an L2: its event, and phase RECOVERY from SERVICE or TEST (R206, R213). The recovery sequencer then resets the chip. -/
def State.startL2 (s : State) (r : Reaction) : State :=
  let s := ((s.setReact { r with st := .handling, ntype := 7 }).raise Reg.FLT_EVENT_L2 0).event 4
  if s.flt.phase = .service ∨ s.flt.phase = .test then s.setPhase .recovery else s

/-- Every hub is ordered to fence its probes (R214). -/
def State.fenceAll (s : State) (fence : Bool) : State := s.sendAll (s.liveRegions.map (fun r => msgFltFenceAll r fence))

/-- Suspect count for display: 63 for more than 32 (R242). -/
def KRcv.nsus (c : KRcv) : Nat := if c.more ∨ c.suspects.length > 32 then 63 else c.suspects.length

/-- Log of the closed case (R242). -/
def State.logCase (s : State) (result guilty : Nat) : State :=
  s.setAll 0 [(Reg.RCV_LAST_CASE, s.rcv.case), (Reg.RCV_LAST_RESULT, result), (Reg.RCV_LAST_RUNG, s.rcv.highest), (Reg.RCV_LAST_NSUS, s.rcv.nsus),
    (Reg.RCV_LAST_GUILTY, guilty), (Reg.RCV_LAST_FSEQ, s.rcv.fseq), (Reg.RCV_LAST_GTOPEN, s.rcv.gtOpen), (Reg.RCV_LAST_GTDONE, s.gt)]

/-- L3 ends the open case unacted, and with it the HANDLING of its WATCHDOG reactions (R229); a chip reset that is under way runs on (R216). -/
def State.caseEndsSealed (s : State) : State :=
  if s.rcv.st = .idle then s
  else
    let rids := s.rcv.rids
    rids.foldl (fun s rid => s.endHandling rid) { s.logCase 5 0 with rcv := { s.rcv with st := .idle, granted := none, waiting := [], rids := [] } }

/-- The sealed state (R214): the Vault to its error state, every probe fenced, the notice, a forced Ledger flush, the sealed latch; every QUEUED
reaction ends unacted (R212), and a hang case ends (R229). -/
def State.sealState (s : State) (r : Reaction) : State :=
  let s := { s with flt := { s.flt with l3 := true, l3Gt := s.gt, reacts := tmap (fun _ (x : Reaction) => if x.st = ReactState.queued then { x with st := .unacted } else x) s.flt.reacts },
                    pwr := { s.pwr with sealedLatch := true } }
  let s := (s.setReact { r with st := .handling, ntype := 8, ended := true }).vaultCommandError.fenceAll true
  let s := s.event 5
  let s := (s.caseEndsSealed).writeNotices r.rid [(8, r.tenant, r.x, r.y)]
  ({ s with ldg := { s.ldg with foldOpen := false, flushing := true } }.raise Reg.LDG_CTRL_FLUSH 0).ibi 0xA3

/-- QUEUED reactions that nothing blocks any more start, in RID order; a started L2 is left to the sequencer. The L2s that start are the second
result. -/
def State.startQueued (s : State) : State × List Nat :=
  (s.reactions.filter (fun r => r.st == .queued)).foldl (fun (acc : State × List Nat) r =>
    if acc.1.blocked r then acc
    else if r.level = 1 then (acc.1.startL1 r, acc.2)
    else (acc.1.startL2 r, acc.2 ++ [r.rid])) (s, [])

/-! ## How a Folio moves a reaction -/

/-- A fault's source is a position's, by any of its units (R211). -/
def srcAt (src r t : Nat) : Bool := srcIsTile src && srcRegion src == r && srcTile src == t

/-- Every reaction and everything learned of quench Folios, changed. -/
def State.mapReacts (s : State) (f : Reaction → Reaction) : State :=
  { s with flt := { s.flt with reacts := tmap (fun _ (x : Reaction) => f x) s.flt.reacts, learned := s.flt.learned.map f } }

/-- HANDLING of every quench that has nothing more to wait for ends (R213). -/
def State.endComplete (s : State) : State :=
  (s.reactions.filter (fun r => r.quench && r.st == .handling && !r.ended && r.complete)).foldl (fun s r => s.endHandling r.rid) s

/-- A reaction that a Folio contains, and that is not over. -/
def Reaction.heldBy (r : Reaction) (number : Nat) : Bool :=
  r.quench && decide (number ≠ 0) && r.folio == number && (r.unack || r.st == .queued)

/-- An L1_RAISED of a position has been sent and is not registered. -/
def State.l1OnTheWay (s : State) (r t : Nat) : Bool := (s.flt.queue ++ (s.hub r).flt.out).any (fun m => m.kind == 0x306 && srcAt m.src r t)

/-- The reaction that waits for the quench of a position learns its Folio's number from FL_ACCEPT on (R218); where its L1_RAISED is still on its way, the Kiln
keeps the number for it. -/
def State.reactLearn (s : State) (region col row number : Nat) : State :=
  match s.reactions.find? (fun r => r.quench && (r.unack || r.st == .queued) && r.folio == 0 && srcAt r.src region (tileAt row col)) with
  | some r => s.setReact { r with folio := number }
  | none =>
    if s.l1OnTheWay region (tileAt row col) then
      { s with flt := { s.flt with learned := s.flt.learned ++ [{ rid := 0, level := 1, st := .queued, src := probeSrc region (tileAt row col), kind := 0, fseq := 0,
                                                                  domain := .chip, folio := number, quench := true }] } }
    else s

/-- The hub's quench of a position is refused: its reaction has no Folio to wait for (R213). -/
def State.reactRefused (s : State) (region col row : Nat) : State :=
  (s.mapReacts (fun r => if r.quench ∧ r.folio = 0 ∧ srcAt r.src region (tileAt row col) then { r with applied := true } else r)).endComplete

/-- The containment Folio is void: nothing more is awaited (R213). -/
def State.reactVoid (s : State) (number : Nat) : State :=
  (s.mapReacts (fun r => if r.heldBy number then { r with applied := true, reports := [], suspects := [] } else r)).endComplete

/-- The containment Folio is applied: handling ends once the reports of its columns are registered (R213). -/
def State.reactApplied (s : State) (number : Nat) : State :=
  (s.mapReacts (fun r => if r.heldBy number then { r with applied := true } else r)).endComplete

/-- The Folio that contains a reaction is sealed: the columns whose CAT_REPORT it must see (R213). -/
def State.reactSealed (s : State) (number : Nat) (cols : List (Nat × Nat)) : State :=
  s.mapReacts (fun r => if r.heldBy number then { r with reports := cols } else r)

/-- A CAT_REPORT of a column: reactions that awaited it go on; a partial move makes them await its XFER_SUSPECT unless it has been registered
(R213). -/
def State.reactReport (s : State) (region col : Nat) (isPartial : Bool) : State :=
  (s.mapReacts (fun r => if r.heldBy r.folio ∧ r.reports.contains (region, col) then
      { r with reports := r.reports.filter (· != (region, col)),
               suspects := if isPartial ∧ ¬ (r.extra.any (fun e => e.1 == 2)) then r.suspects ++ [(region, col)] else r.suspects }
    else r)).endComplete

/-! ## Moves that a loss leaves open (R164) -/

/-- The shelfmarks of a region whose move is under way, with their tenants. -/
def State.openMoves (s : State) (r : Nat) : List (Nat × Nat × Nat × Nat) :=
  let h := s.hub r
  h.walk.flatMap (fun e => e.2.moving.flatMap (fun t =>
    match h.cat.lrowOf (tileCol t) (tileRow t) with
    | some l => (h.cat.holdersOf (tileCol t) l).map (fun ten => (r, ten, s.shelfX r (tileCol t), s.shelfY r l))
    | none => []))

/-- After recovery the Kiln passes a rollback request for the tenants of those shelfmarks: of one region, or of every one (R164). -/
def State.rollBackLost (s : State) (region : Option Nat) : State :=
  let mine := fun (e : Nat × Nat × Nat × Nat) => region.isNone || region == some e.1
  (s.flt.lostMoves.filter mine).foldl (fun s e => s.notify (2, e.2.1, e.2.2.1, e.2.2.2))
    { s with flt := { s.flt with lostMoves := s.flt.lostMoves.filter (fun e => !mine e) } }

end Sys2Proof.Machine
end

