-- ==== Sys2Proof/Machine/TallyOps.lean ====
section
/-! DEFINITION. Operations of metering and sweeps that the Folio protocol calls (R313–R314, R327–R331): a hub's intervals and model energy, a
sweep's seal at hubs and aggregator, its discard, and the flags of the banks. -/

namespace Sys2Proof.Machine

/-! ## Mesh neighbours -/

/-- The region next to another in a direction 0 N, 1 E, 2 S, 3 W, where the grid has one (R18, R455). -/
def State.neighbour (s : State) (r dir : Nat) : Option Nat :=
  let (x, y) := s.gridOf r
  if dir = 0 then (if y = 0 then none else some (r - s.cfg.w))
  else if dir = 1 then (if x + 1 < s.cfg.w then some (r + 1) else none)
  else if dir = 2 then (if y + 1 < s.cfg.h then some (r + s.cfg.w) else none)
  else if x = 0 then none else some (r - 1)

/-- The direction from a region to a neighbour. -/
def State.dirTo (s : State) (r n : Nat) : Option Nat := (List.range 4).find? (fun d => s.neighbour r d == some n)

/-- The mesh neighbours of a region. -/
def State.neighbours (s : State) (r : Nat) : List Nat := (List.range 4).filterMap (s.neighbour r)

/-! ## Sense -/

/-- Channels follow SNS_CTRL.EN: enabled ones leave OFF for INIT, the others are OFF (R311). -/
def State.syncSense (s : State) : State :=
  let en := s.get Reg.SNS_CTRL_EN 0
  let l := (List.range 8).foldl (fun (t : Table SenseCh) n =>
    let c := tgetD {} n t
    if bit en n then (if c.st = .off then tput n { c with st := .init, passes := 0 } t else t)
    else if c.st = .off then t else tput n { c with st := .off } t) s.tally.channels
  { s with tally := { s.tally with channels := l } }

/-! ## A hub's intervals -/

/-- The state with a hub's metering changed. -/
def State.modEn (s : State) (r : Nat) (f : HubEn → HubEn) : State := s.modHub r (fun h => { h with en := f h.en })

/-- The estimate T of a region, in units of 1/64 °C: T_amb before the first step (R321). -/
def State.estimate (s : State) (r : Nat) : Int := signed 16 (((s.hub r).en.est).getD (s.get Reg.RH_TH_AMB_AMB r))

/-- The ENERGY weights of a region (R314). -/
def State.weightsOf (s : State) (r : Nat) : WeightsEntry :=
  ((s.cfg.weights.find? (fun e => e.region == r)).orElse (fun _ => s.cfg.weights.find? (fun e => e.region == 0xFFFF))).getD
    { region := r, weights := [], overhead := 0, vref := 750 }

/-- The ENERGY leakage table of a region (R314). -/
def State.leakOf (s : State) (r : Nat) : List Nat :=
  (((s.cfg.leaks.find? (fun e => e.region == r)).orElse (fun _ => s.cfg.leaks.find? (fun e => e.region == 0xFFFF))).map (·.values)).getD []

/-- 320 times the leakage in µW at a temperature in 1/64 °C, interpolated between steps of 5 °C from 25 °C to 125 °C (R314); none outside. -/
def leakage (l : List Nat) (t : Int) : Option Nat :=
  if t < 1600 ∨ 8000 < t then none
  else
    let d := (t - 1600).toNat
    let i := d / 320
    let f := d % 320
    some (l.getD i 0 * (320 - f) + l.getD (min (i + 1) 20) 0 * f)

/-- Leakage outside the table is free (assumption 50). -/
def State.leakAt (s : State) (r : Nat) (t : Int) : Nat × State :=
  match leakage (s.leakOf r) t with
  | some l => (l, s)
  | none => s.fresh 32

/-- Common denominator of model energies, in nanojoules (R314). -/
def State.energyDen (s : State) (r : Nat) : Nat := 10 ^ 6 * 320 * s.cfg.rclk * (s.weightsOf r).vref ^ 2

/-- Sums of two count lists. -/
def sumCounts (a b : List Nat) : List Nat := a.zipWith (· + ·) b

/-- Dynamic and static energy of a tenant's counts over the common denominator (R314): V in millivolts, leak as 320 × µW. -/
def energyNum (w : WeightsEntry) (rclk v leak : Nat) (c : List Nat) : Nat :=
  v ^ 2 * (((w.weights.zipWith (· * ·) c).foldl (· + ·) 0) * 320 * rclk + leak * c.getD 9 0 * 10 ^ 6)

/-- What tenant 0 receives beyond its counts (R314): leakage of every tile-time not busy, and the hub's overhead, over `n` HCLK. -/
def idleNum (w : WeightsEntry) (v leak n busy : Nat) : Nat :=
  v ^ 2 * (leak * (4 * 1056 * n - busy) * 10 ^ 6) + w.overhead * 4000 * n * 10 ^ 6 * 320 * w.vref ^ 2

/-- Mean of the supply readings of the interval in progress; the latest reading where there was none (assumption 51). -/
def State.meanSupply (s : State) (r : Nat) : Nat :=
  let e := (s.hub r).en
  if e.vnum = 0 then s.get Reg.RH_EN_VLOC_MV r else e.vsum / e.vnum

/-- The model energy of each tenant for an interval of `n` HCLK, with the fraction carried on (R314). -/
def State.modelEnergy (s : State) (r n v leak : Nat) (counts : Table (List Nat)) : Table Nat × Table Nat :=
  let w := s.weightsOf r
  let busy := counts.foldl (fun b e => b + e.2.getD 9 0) 0
  let all := tput 0 (tgetD zeroTen 0 counts) counts
  let den := s.energyDen r
  all.foldl (fun acc e =>
    let num := energyNum w s.cfg.rclk v leak e.2 + (if e.1 = 0 then idleNum w v leak n busy else 0) + tgetD 0 e.1 acc.2
    (tput e.1 (num / den) acc.1, tput e.1 (num % den) acc.2)) ([], (s.hub r).en.fracs)
where
  /-- Counts of nothing. -/
  zeroTen : List Nat := List.replicate 10 0

/-- Messages of an interval on their way: EN_ACT that name it, and EN_MARK to the region with its instant. -/
def State.actInFlight (s : State) (r gt : Nat) : Bool :=
  s.flue.any (fun m => (m.op == 0x80 && m.dest == hubSrc r && bits ((m.payload.head?.map (·.toNat)).getD 0) 12 64 == gt)
    || (m.op == 0x81 && srcRegion m.dest == r && bits ((m.payload.head?.map (·.toNat)).getD 0) 64 64 == gt))

/-- A closed interval whose every EN_ACT has arrived gives the model energy, and EN_MODEL goes to the Kiln (R313, R314, R328). -/
def State.tryModel (s : State) (r gt : Nat) : State :=
  match tget gt (s.hub r).en.intervals with
  | none => s
  | some x =>
    if x.closed = false ∨ x.done ∨ s.actInFlight r gt then s
    else
      let (leak, s) := s.leakAt r x.tstart
      let (e, fr) := s.modelEnergy r x.len x.mv leak x.counts
      let s := s.modEn r (fun n => { n with fracs := fr, intervals := tput gt { x with done := true, energy := e } n.intervals })
      s.send (msgEnModel r gt (e.foldl (fun a y => a + y.2) 0) x.mv)

/-- An interval ends at a hub: its length, mean supply and the estimate at its start are settled, and the next begins (R313, R314, R316). -/
def State.closeInterval (s : State) (r gt : Nat) (sweep : Option (Nat × Option Nat)) : State :=
  let mv := s.meanSupply r
  let t := s.estimate r
  s.modEn r (fun n =>
    let x := tgetD {} gt n.intervals
    let again := { x with sweep := if x.sweep.isSome then x.sweep else sweep }
    let first := { x with closed := true, len := gt - n.lastEnd, mv := mv, tstart := n.tstart, sweep := sweep }
    if x.closed then { n with intervals := tput gt again n.intervals }
    else { n with intervals := tput gt first n.intervals, lastEnd := gt, vsum := 0, vnum := 0, tstart := t })

/-! ## Sweeps at their seal -/

/-- An earlier sweep is still collecting (R174, R328). -/
def State.sweepBusy (s : State) : Bool := s.tally.sweep.isSome

/-- Tenant of a sweep's action (R170). -/
def Act.sweepTenant (a : Act) : Option Nat := if bit a.arg 32 then some a.tenant else none

/-- A hub at the seal instant of a sweep (R328): its interval ends at T, and EN_MARK goes to its SERVICE and bypassed positions. -/
def State.sweepHub (s : State) (r : Nat) (a : Act) (t : Nat) : State :=
  let s := s.closeInterval r t (some (wrap 32 a.arg, a.sweepTenant))
  let h := s.hub r
  s.sendAll ((List.range 1056).map (fun p => msgEnMark r p (tgetD {} p h.cat.pos).accession t))

/-- The Tally aggregator at the seal instant of a sweep (R328): it collects from every hub that is not lost. The sweep of a tenant reset is its
last (R190). -/
def State.sweepAggregator (s : State) (a : Act) (t : Nat) : State :=
  let n := wrap 32 a.arg
  let w := (tget n s.tally.proposed).getD { tenant := a.sweepTenant, purpose := 3 }
  { s with tally := { s.tally with sweep := some { number := n, want := w, t := t, await := s.liveRegions },
                                   proposed := s.tally.proposed.filter (fun e => e.1 != n), cuts := s.tally.cuts ++ [t] } }

/-! ## What a sweep is wanted for, and its end without a commit -/

/-- A sweep is noted, to be proposed when none collects (R328). -/
def State.noteSweep (s : State) (tenant : Option Nat) (purpose : Nat) : State :=
  { s with tally := { s.tally with wants := s.tally.wants ++ [{ tenant := tenant, purpose := purpose }] } }

/-- A request that waited for a single-tenant sweep ends after the third new try (R329, R303, R341). -/
def State.sweepGivenUp (s : State) (w : SweepWant) : State :=
  match w.tenant with
  | none => s
  | some t =>
    if w.purpose = 0 then
      { s with tally := { s.tally with requests := s.tally.requests.filter (fun q => q.1 != t) } }.setAll t [(Reg.TEN_TLY_STATUS_BUSY, 0), (Reg.TEN_TLY_STATUS_RESULT, 1)]
    else if w.purpose = 1 then
      let (v, s) := s.fresh 2
      { s with colo := { s.colo with tenants := tput t (let e : TenantEp := tgetD {} t s.colo.tenants; { e with colo := none }) s.colo.tenants } }.setAll t
        [(Reg.TEN_COLO_STATUS_BUSY, 0), (Reg.TEN_COLO_STATUS_RESULT, v), (Reg.TEN_COLO_REQ_REQ, 0)]
    else s

/-- A single-tenant sweep that did not complete is proposed again, at most three times (R329). -/
def State.sweepAgain (s : State) (w : SweepWant) : State :=
  if w.tenant.isNone then s
  else if w.tries < 3 then { s with tally := { s.tally with wants := s.tally.wants ++ [{ w with tries := w.tries + 1 }] } }
  else s.sweepGivenUp w

/-- A sweep's Folio was voided: what it was for is tried again (R329). -/
def State.sweepVoided (s : State) (acts : List Act) : State :=
  match acts.find? (fun a => a.act == 0x12) with
  | none => s
  | some a =>
    match tget (wrap 32 a.arg) s.tally.proposed with
    | none => s
    | some w => { s with tally := { s.tally with proposed := s.tally.proposed.filter (fun e => e.1 != wrap 32 a.arg) } }.sweepAgain w

/-- TLY_LAST shows a sweep that has ended (R339). -/
def State.showSweep (s : State) (w : Sweep) (code : Nat) : State :=
  s.setAll 0 [(Reg.TLY_LAST_SWEEP, w.number), (Reg.TLY_LAST_COMPLETE, flag (code == 0)), (Reg.TLY_LAST_SINGLE, flag w.want.tenant.isSome),
    (Reg.TLY_LAST_TENANT, w.want.tenant.getD 0), (Reg.TLY_LAST_CAUSE, code), (Reg.TLY_LAST_T, w.t)]

/-- The collecting sweep is discarded whole, with its code (R329): hubs keep BASE. -/
def State.discardSweep (s : State) (code : Nat) : State :=
  match s.tally.sweep with
  | none => s
  | some w =>
    let s := { s with tally := { s.tally with sweep := none, counters := tmap (fun _ (c : EnCounter) => { c with pending := none }) s.tally.counters } }
    ((((s.showSweep w code).raise Reg.TLY_EVENT_DISCARD 0).send (msgTlCommit true code w.number w.want.tenant.isSome (w.want.tenant.getD 0))).sweepAgain w.want)

/-! ## Banks -/

/-- The committed bank (R330). -/
def Tally.active (y : Tally) : Bank := (y.banks[y.bank]?).getD {}

/-- A tenant's entry of a bank. -/
def Bank.entry (b : Bank) (t : Nat) : TallyEntry := tgetD b.rest t b.entries

/-- The committed bank changed. -/
def Tally.modActive (y : Tally) (f : Bank → Bank) : Tally := { y with banks := y.banks.set y.bank (f y.active) }

/-- GAP becomes pending for some tenants (R327, R331). -/
def State.setGap (s : State) (l : List Nat) : State :=
  { s with tally := s.tally.modActive (fun b => { b with entries := l.foldl (fun t n => tput n { b.entry n with gap := true } t) b.entries }) }.raise
    Reg.TLY_EVENT_GAP 0

/-- GAP becomes pending for every tenant, and every counter restarts at 0 (R331). -/
def Tally.gapAll (y : Tally) : Tally :=
  y.modActive (fun b => { b with rest := { b.rest with gap := true }, entries := tmap (fun _ (e : TallyEntry) => { e with gap := true }) b.entries })

end Sys2Proof.Machine
end

