-- ==== Sys2Proof/Machine/LinkOps.lean ====
section
/-! DEFINITION. Operations of Concordance that other units call: messages and their CRC, presenting and queueing, credits, bindings and
SEALs (R247–R262, R268, R269, R300). -/

namespace Sys2Proof.Machine

/-! ## Messages -/

/-- One bit of the CRC-32C, least significant bit first (R249). -/
def crcBit (c : Nat) : Nat := if c % 2 = 1 then (c / 2) ^^^ 0x82F63B78 else c / 2

/-- One byte of the CRC-32C. -/
def crcByte (c b : Nat) : Nat := (List.range 8).foldl (fun c _ => crcBit c) (c ^^^ b)

/-- The CRC-32C of a byte list (R249). -/
def crc32c (l : List Nat) : Nat := 0xFFFFFFFF ^^^ l.foldl crcByte 0xFFFFFFFF

/-- TYPE of a body (R248). -/
def LinkBody.type : LinkBody → Nat
  | .hello .. => 0x0 | .heartbeat .. => 0x1 | .sealMsg .. => 0x2 | .recallMsg .. => 0x3 | .role .. => 0x4 | .fprep .. => 0x5 | .fvote .. => 0x6
  | .fseal .. => 0x7 | .fvoid .. => 0x8 | .tpair .. => 0x9 | .dispute .. => 0xA

/-- Sequenced types (R248). -/
def LinkBody.sequenced (b : LinkBody) : Bool := decide (2 ≤ b.type ∧ b.type ≤ 8)

/-- The bytes of a body that it defines, from byte 16 on (R250). -/
def LinkBody.content : LinkBody → List Nat
  | .hello rel cr dol => bytesBE 4 rel ++ [cr % 256, flag dol]
  | .heartbeat isSealed => [flag isSealed]
  | .sealMsg job epoch slice digest => bytesBE 4 job ++ bytesBE 4 epoch ++ bytesBE 2 slice ++ [0, 0] ++ bytesBE 32 digest
  | .recallMsg job first last slice origin rid cause =>
    bytesBE 4 job ++ bytesBE 4 first ++ bytesBE 4 last ++ bytesBE 2 slice ++ bytesBE 2 origin ++ bytesBE 2 rid ++ [cause % 256]
  | .role job slice pslice withdraw => bytesBE 4 job ++ bytesBE 2 slice ++ bytesBE 2 pslice ++ [flag withdraw]
  | .fprep folio part last count nact act0 act1 =>
    bytesBE 4 folio ++ [part % 128, flag last + 2 * (count % 4)] ++ bytesBE 2 nact ++ bytesBE 16 act0 ++ bytesBE 16 act1
  | .fvote folio code lnum => bytesBE 4 folio ++ [code % 16, 0, 0, 0] ++ bytesBE 4 lnum
  | .fseal folio t replay => bytesBE 4 folio ++ bytesBE 8 t ++ [flag replay]
  | .fvoid folio reason => bytesBE 4 folio ++ [reason % 16]
  | .tpair phase pid t1 t2 t3 theta delta =>
    [phase % 4, pid % 256, 0, 0] ++ bytesBE 8 t1 ++ bytesBE 8 t2 ++ bytesBE 8 t3 ++ bytesBE 8 theta ++ bytesBE 4 delta
  | .dispute cause job ref ev1 ev2 => [cause % 16, 0, 0, 0] ++ bytesBE 4 job ++ bytesBE 4 ref ++ bytesBE 16 ev1 ++ bytesBE 16 ev2

/-- Bytes 16–59 of a message (R250). -/
def LinkBody.bytes (b : LinkBody) : List Nat := b.content ++ List.replicate (44 - b.content.length) 0

/-- Byte 0 of a message: TYPE, and VER 0x3 (R247). -/
def LinkBody.byte0 (b : LinkBody) : Nat := b.type + 0x30

/-- The content check: the CRC-32C of byte 0 and bytes 16–59 (R256). -/
def LinkBody.check (b : LinkBody) : Nat := crc32c (b.byte0 :: b.bytes)

/-- A big-endian field of a message (R247). -/
def fieldBE (m : List Nat) (at_ n : Nat) : Nat := ofBytesBE ((m.drop at_).take n)

/-- The header of a message (R247). -/
def headerOf (m : List Nat) : ClpHdr :=
  let b := fun i => m.getD i 0
  { retx := bit (b 1) 0, prim := bit (b 1) 1, seen := bit (b 1) 2, fresh := bit (b 1) 3, seq := fieldBE m 2 2, ack := fieldBE m 4 2, crret := b 6, arret := b 7,
    ord := wrap 12 (fieldBE m 8 2), pclp := wrap 5 (b 10), sess := b 11, psess := b 12 }

/-- What the 64 bytes of a message arriving on CLP_RX are (R247–R250): one that fails its CRC, and one of another VER or a reserved TYPE, is a drop. -/
def arrivalOf (m : List Nat) : LinkArrival :=
  let h := headerOf m
  let f := fieldBE m
  let b := fun i => m.getD i 0
  if (m.drop 60).take 4 ≠ (bytesBE 4 (crc32c (m.take 60))).reverse then .crcDrop h.seq
  else if bits (b 0) 4 4 ≠ 3 then .protocolDrop h.seq
  else match bits (b 0) 0 4 with
    | 0x0 => .message h (.hello (f 16 4) (b 20) (bit (b 21) 0))
    | 0x1 => .message h (.heartbeat (bit (b 16) 0))
    | 0x2 => .message h (.sealMsg (f 16 4) (f 20 4) (wrap 12 (f 24 2)) (f 28 32))
    | 0x3 => .message h (.recallMsg (f 16 4) (f 20 4) (f 24 4) (wrap 12 (f 28 2)) (wrap 12 (f 30 2)) (f 32 2) (b 34))
    | 0x4 => .message h (.role (f 16 4) (f 20 2) (f 22 2) (bit (b 24) 0))
    | 0x5 => .message h (.fprep (f 16 4) (wrap 7 (b 20)) (bit (b 21) 0) (bits (b 21) 1 2) (f 22 2) (f 24 16) (f 40 16))
    | 0x6 => .message h (.fvote (f 16 4) (wrap 4 (b 20)) (f 24 4))
    | 0x7 => .message h (.fseal (f 16 4) (f 20 8) (bit (b 28) 0))
    | 0x8 => .message h (.fvoid (f 16 4) (wrap 4 (b 20)))
    | 0x9 => .message h (.tpair (wrap 2 (b 16)) (b 17) (f 20 8) (f 28 8) (f 36 8) (f 44 8) (f 52 4))
    | 0xA => .message h (.dispute (wrap 4 (b 16)) (f 20 4) (f 24 4) (f 28 16) (f 44 16))
    | _ => .protocolDrop h.seq

/-- The arrival, with its port, that a command stands for (R248): 64 bytes `m` on port `c` are the command `i` with `linkArrival i = some (c, arrivalOf m)`. An FVOTE
uses the pool while a buffer of it is free at the sender's count, the answer buffer otherwise (R254). -/
def linkArrival : Instr → Option (Nat × LinkArrival)
  | .hello c h rel cr dol => some (c, .message h (.hello rel cr dol))
  | .heartbeat c h peerSealed => some (c, .message h (.heartbeat peerSealed))
  | .sealMsg c h job epoch slice digest => some (c, .message h (.sealMsg job epoch slice digest))
  | .recallMsg c h job first last slice origin rid cause => some (c, .message h (.recallMsg job first last slice origin rid cause))
  | .role c h job slice pslice withdraw => some (c, .message h (.role job slice pslice withdraw))
  | .fprep c h folio part last nact acts =>
    some (c, .message h (.fprep folio part last acts.length nact ((acts.getD 0 0).toNat) ((acts.getD 1 0).toNat)))
  | .fvote c h folio code lnum _ => some (c, .message h (.fvote folio code lnum))
  | .fseal c h folio t replay => some (c, .message h (.fseal folio t replay))
  | .fvoid c h folio reason => some (c, .message h (.fvoid folio reason))
  | .tpair c h phase pid t1 t2 t3 theta delta => some (c, .message h (.tpair phase pid t1 t2 t3 theta delta))
  | .dispute c h cause job ref ev1 ev2 => some (c, .message h (.dispute cause job ref ev1 ev2))
  | .clpMessageDropped c seq crcFailed => some (c, if crcFailed then .crcDrop seq else .protocolDrop seq)
  | _ => none

/-! ## Ports -/

/-- A Concordance port. -/
def State.port (s : State) (c : Nat) : Port := tgetD {} c s.link.ports

/-- The state with a port replaced. -/
def State.setPort (s : State) (c : Nat) (p : Port) : State := { s with link := { s.link with ports := tput c p s.link.ports } }

/-- The state with every port changed. -/
def State.mapPorts (s : State) (f : Port → Port) : State := { s with link := { s.link with ports := tmap (fun _ p => f p) s.link.ports } }

/-- The state with a port changed. -/
def State.modPort (s : State) (c : Nat) (f : Port → Port) : State := s.setPort c (f (s.port c))

/-- Pool credits that this end offers, held to 4–32 (R281). -/
def State.offeredCr (s : State) (c : Nat) : Nat := max 4 (min 32 (s.get Reg.CCD_CTRL_CR c))

/-- PORT entry of a CLP port (R246, R414). -/
def State.portEntry (s : State) (c : Nat) : Option PortEntry := s.cfg.ports.find? (fun e => e.clp == c)

/-- Free pool credits at the peer (R254). -/
def Port.poolFree (p : Port) : Nat := p.peerCr - wrap 8 (p.poolSent + 256 - wrap 8 p.crretIn)

/-- The answer credit is held (R254). -/
def Port.answerFree (p : Port) : Bool := wrap 8 p.answerSent == wrap 8 p.arretIn

/-- This end is the primary: the lower ordinal (R246). -/
def State.isPrimary (s : State) (c : Nat) : Bool := decide (s.cfg.ordinal < (s.port c).peerOrd)

/-- The 64 bytes of a message (R247, R249). -/
def State.linkMessage (s : State) (c : Nat) (body : LinkBody) (seq : Nat) (retx : Bool) : List Nat :=
  let p := s.port c
  let hello := body.type = 0
  let flags := flag retx + 2 * flag (s.isPrimary c) + 4 * flag (decide hello && p.psess != 0) + 8 * flag (decide hello && !p.everUp)
  let m := [body.byte0, flags] ++ bytesBE 2 seq ++ bytesBE 2 p.rxNext ++ [p.crret % 256, p.arret % 256] ++ bytesBE 2 s.cfg.ordinal
    ++ [c, p.sess, p.psess, 0, 0, 0] ++ body.bytes
  m ++ (bytesBE 4 (crc32c m)).reverse

/-- A message is accepted on CLP_TX in this cycle. It carries ACK, so a scheduled acknowledgement is given (R257); a time pair's request and reply carry
the GT of their acceptance as T1 and T3 (R265). -/
def State.accept (s : State) (c : Nat) (w : LinkWait) : State :=
  let p := s.port c
  let body := match w.body with
    | .tpair 0 pid _ t2 t3 theta delta => .tpair 0 pid s.gt t2 t3 theta delta
    | .tpair 1 pid t1 t2 _ theta delta => .tpair 1 pid t1 t2 s.gt theta delta
    | b => b
  let first := match w.body with
    | .tpair 0 _ _ _ _ _ _ => true
    | _ => false
  ((s.emit (.clp c (s.linkMessage c body (w.seq.getD p.txNext) w.retx))).modPort c
    (fun p => { p with ackDue := false, pairT1 := if first then some s.gt else p.pairT1 })).bump Reg.CCD_TXCNT_COUNT c 1

/-- A waiting message whose place a newer one takes (R257): the HELLO, HEARTBEAT or time-pair message before it, or the same SEQ. -/
def LinkWait.replaces (w v : LinkWait) : Bool :=
  match w.seq with
  | some n => v.seq == some n
  | none => v.seq == none && v.body.type == w.body.type && w.body.type != 0xA

/-- A message is presented where CLP_LINK_UP and CLP_TX_READY are 1, and waits for them else (R244, R252, R257); in PD_STOP none is (R445). -/
def State.present (s : State) (c : Nat) (w : LinkWait) : State :=
  let p := s.port c
  if s.pwr.state = .pdStop then s
  else if p.linkUp ∧ p.txReady ∧ p.wait = [] then s.accept c w
  else s.setPort c { p with wait := p.wait.filter (fun v => !w.replaces v) ++ [w] }

/-- What waits is presented, oldest first. -/
def State.flushWait (s : State) (c : Nat) : State :=
  let p := s.port c
  if p.linkUp ∧ p.txReady ∧ s.pwr.state ≠ .pdStop then p.wait.foldl (fun s w => s.accept c w) (s.setPort c { p with wait := [] }) else s

/-- An unsequenced message: it carries the SEQ that the sender will use next (R247). -/
def State.presentFree (s : State) (c : Nat) (body : LinkBody) : State := s.present c { body := body }

/-- A binding is that of a job and slice. -/
def Binding.isOf (b : Binding) (job slice : Nat) : Bool := b.job == job && b.slice == slice

/-- The state with bindings of a port changed. -/
def State.mapBindings (s : State) (c : Nat) (f : Binding → Binding) : State := s.modPort c (fun p => { p with bindings := p.bindings.map f })

/-- A sequenced message leaves: it takes the next SEQ and a credit, and is kept until acknowledged (R254, R255). -/
def State.transmit (s : State) (c : Nat) (body : LinkBody) (answer : Bool) : State :=
  let p := s.port c
  let seq := p.txNext
  let s := s.setPort c { p with queue := p.queue.erase body, txNext := wrap 16 (seq + 1),
                                unacked := p.unacked ++ [{ seq := seq, body := body, answer := answer }],
                                poolSent := if answer then p.poolSent else wrap 8 (p.poolSent + 1),
                                answerSent := if answer then wrap 8 (p.answerSent + 1) else p.answerSent }
  let s := s.present c { body := body, seq := some seq }
  match body with
  | .sealMsg job epoch slice _ => s.mapBindings c (fun b => if b.isOf job slice then { b with sent := some (max epoch (b.sent.getD 0)) } else b)
  | _ => s

/-- Is a body an FVOTE? -/
def LinkBody.isVote (b : LinkBody) : Bool := b.type == 6

/-- Queued messages leave in order while the window of 32 and the credits allow; an FVOTE may use the answer buffer (R254, R255). In the sealed
state nothing but HEARTBEATs leaves (R279). -/
def State.pump (s : State) (c : Nat) : Nat → State
  | 0 => s
  | n + 1 =>
    let p := s.port c
    if p.st ≠ .up ∨ p.linkUp = false ∨ p.txReady = false ∨ s.isSealed ∨ 32 ≤ p.unacked.length then s
    else if 0 < p.poolFree then
      (match p.queue with
       | [] => s
       | b :: _ => (s.transmit c b false).pump c n)
    else
      match p.queue.find? LinkBody.isVote with
      | some b => if p.answerFree then (s.transmit c b true).pump c n else s
      | none => s

/-- The Kiln's units take what has been received: its buffers are free, and their credits go back with the next message (R254). -/
def Port.freeBuffers (p : Port) : Port :=
  { p with crret := wrap 8 (p.crret + p.rxPool), arret := wrap 8 (p.arret + p.rxAns), rxPool := 0, rxAns := 0 }

/-- A message joins the transmit queue of 192 entries, which the rules of bindings and seals never fill (R258). -/
def Port.join (p : Port) (body : LinkBody) : Port := if p.queue.length < 192 then { p with queue := p.queue ++ [body] } else p

/-- A sequenced message joins a port's queue, and what may leave does. A DISABLED or DISPUTED port takes none (R252, R274). -/
def State.linkQueue (s : State) (c : Nat) (body : LinkBody) : State :=
  let p := s.port c
  if p.st = .disabled ∨ p.st = .disputed then s
  else (s.setPort c (p.join body)).pump c 192

/-! ## Bindings, SEALs and RECALLs -/

/-- Bindings of a tenant in a state, with their ports. -/
def State.bindingsOf (s : State) (tenant : Nat) : List (Nat × Binding) :=
  s.link.ports.flatMap (fun e => (e.2.bindings.filter (fun b => b.tenant == tenant)).map (fun b => (e.1, b)))

/-- Is a queued message a RECALL, or a SEAL, of a binding? -/
def LinkBody.isRecallOf (job slice : Nat) : LinkBody → Bool
  | .recallMsg j _ _ sl _ _ _ => j == job && sl == slice
  | _ => false

/-- Is a queued message a SEAL of a binding above an epoch, where one is given? -/
def LinkBody.isSealOf (job slice : Nat) : LinkBody → Bool
  | .sealMsg j _ sl _ => j == job && sl == slice
  | _ => false

/-- Epoch of a SEAL. -/
def LinkBody.epoch : LinkBody → Nat
  | .sealMsg _ e _ _ => e
  | _ => 0

/-- A SEAL takes the place of the binding's unsent SEAL queued after its latest RECALL, or joins the queue (R260, R300). -/
def replaceSeal (job slice : Nat) (new : LinkBody) (q : List LinkBody) : List LinkBody :=
  let tail := (q.reverse.takeWhile (fun b => !b.isRecallOf job slice)).reverse
  let head := q.take (q.length - tail.length)
  if tail.any (·.isSealOf job slice) then head ++ tail.map (fun b => if b.isSealOf job slice then new else b) else (q ++ [new]).take 192

/-- A SEAL of a tenant's epoch on every MATCHED binding, and P_k recorded for every binding (R260, R262). -/
def State.queueSeals (s : State) (tenant epoch digest : Nat) : State :=
  (s.bindingsOf tenant).foldl (fun s (e : Nat × Binding) =>
    let b := e.2
    let s := s.mapBindings e.1 (fun x => if x.isOf b.job b.slice ∧ x.pslice = b.pslice then
      { x with pk := (epoch, x.peere) :: x.pk.filter (fun k => k.1 != epoch) } else x)
    if b.st = .matched then
      (s.modPort e.1 (fun p => { p with queue := replaceSeal b.job b.slice (.sealMsg b.job epoch b.slice digest) p.queue })).pump e.1 192
    else s) s

/-- Highest epoch of a binding whose SEAL has been sent or waits in the queue. -/
def Port.highestSeal (p : Port) (b : Binding) : Option Nat :=
  ((p.queue.filter (·.isSealOf b.job b.slice)).map (·.epoch)).foldl (fun m e => some (max e (m.getD 0))) b.sent

/-- A RECALL of a range on every MATCHED binding of a tenant but the one, of a port, that it came from; it is clipped to the highest epoch whose SEAL the peer has been
or is being sent, and not queued where there is none (R263, R273, R300). -/
def State.queueRecalls (s : State) (tenant first last origin rid cause : Nat) (from_ : Option (Nat × Binding)) : State :=
  (s.bindingsOf tenant).foldl (fun s (e : Nat × Binding) =>
    let b := e.2
    if b.st ≠ .matched ∨ from_.any (fun o => o.1 == e.1 && o.2.isOf b.job b.slice && o.2.pslice == b.pslice) then s
    else match (s.port e.1).highestSeal b with
      | none => s
      | some h => if first ≤ min last h then s.linkQueue e.1 (.recallMsg b.job first (min last h) b.slice origin rid cause) else s) s

/-- Unsent SEALs of a tenant above an epoch leave every queue, and P_k records with them (R300). -/
def State.unqueueSeals (s : State) (tenant above : Nat) : State :=
  (s.bindingsOf tenant).foldl (fun s (e : Nat × Binding) =>
    let b := e.2
    s.modPort e.1 (fun p => { p with
      queue := p.queue.filter (fun m => !(m.isSealOf b.job b.slice && decide (above < m.epoch))),
      bindings := p.bindings.map (fun x => if x.isOf b.job b.slice then { x with pk := x.pk.filter (fun k => decide (k.1 ≤ above)) } else x) })) s

/-- The next recall number of this chip (R263), and the pair entered among the last 64. -/
def State.takeRid (s : State) : Nat × State :=
  let rid := s.link.nextRid
  (rid, { s with link := { s.link with nextRid := wrap 16 (rid + 1), recalls := ((s.cfg.ordinal, rid) :: s.link.recalls).take 64 } })

/-- A binding is created where the port has room and does not hold it, and is declared where the port is UP (R253, R259). -/
def State.addBinding (s : State) (c : Nat) (b : Binding) : State :=
  let p := s.port c
  if 64 ≤ p.bindings.length ∨ p.bindings.any (fun x => x.isOf b.job b.slice && x.pslice == b.pslice) then s
  else
    let s := s.setPort c { p with bindings := p.bindings ++ [if p.st = .disputed then { b with st := .disputed } else b] }
    if p.st = .up then s.linkQueue c (.role b.job b.slice b.pslice false) else s

/-- A binding is removed; the peer of an UP port is told (R250, R259). -/
def State.dropBinding (s : State) (c : Nat) (b : Binding) : State :=
  let s := s.modPort c (fun p => { p with bindings := p.bindings.filter (fun x => !(x.isOf b.job b.slice && x.pslice == b.pslice)) })
  if (s.port c).st = .up then s.linkQueue c (.role b.job b.slice b.pslice true) else s

/-- The bindings that the active TENANCY entries declare exist, and no others of those tenants' (R259). -/
def State.syncBindings (s : State) : State :=
  let want := s.cfg.tenants.flatMap (fun e => if e.valid ∧ ¬ e.standby then e.bindings.map (fun b => (b.1, { job := e.job, tenant := e.tenant, slice := e.slice, pslice := b.2 : Binding })) else [])
  want.foldl (fun s e => s.addBinding e.1 e.2) s

/-! ## Cross-chip Folios -/

/-- A port may carry a cross-chip Folio: UP, with θ_L valid (R266). -/
def State.linkReady (s : State) (c : Nat) : Bool := (s.port c).st == .up && (s.port c).thetaValid

/-- Ports of the peers that take part in a Folio. -/
def FolioRec.peers (f : FolioRec) : List Nat := (f.parts.filter (fun p => decide (4096 ≤ p))).map (· - 4096)

/-- Two action records to an FPREP (R250). -/
def fprepParts (number row : Nat) (acts : List Act) : List LinkBody :=
  let recs := acts.map (fun a => ({ a with row := row } : Act).flit.toNat)
  let cs := chunksOf 2 recs
  cs.zipIdx.map (fun e => .fprep number e.2 (e.2 + 1 == cs.length) e.1.length recs.length (e.1.getD 0 0) (e.1.getD 1 0))

/-- FPREP to the peers of a cross-chip Folio, ROW being the peer's own CLP number (R268, R269). -/
def State.linkPrepare (s : State) (f : FolioRec) : State :=
  f.peers.foldl (fun s c =>
    let s := s.modPort c (fun p => { p with heard := false })
    (fprepParts f.number (s.port c).peerClp (f.acts.filter (fun a => decide (a.act = 0x30 ∨ a.act = 0x31)))).foldl (fun s b => s.linkQueue c b) s) s

/-- FSEAL to the peers (R269). -/
def State.linkSeal (s : State) (f : FolioRec) : State := f.peers.foldl (fun s c => s.linkQueue c (.fseal f.number f.sealt false)) s

/-- FVOID to the peers, or FVOTE void to the coordinator of a peer's Folio (R269, R270). -/
def State.linkVoid (s : State) (f : FolioRec) : State :=
  if f.peernum = 0 then
    (if f.st = .prepared then f.peers.foldl (fun s c => s.linkQueue c (.fvoid f.number f.vreason)) s else s)
  else match f.link with
    | some c => s.linkQueue c (.fvote f.peernum f.vreason f.number)
    | none => s

/-- FVOTE yes to the coordinator, once every own participant has voted yes (R188, R270). -/
def State.linkVoteYes (s : State) (f : FolioRec) : State :=
  match f.link with
  | some c =>
    if f.answered ∨ f.xvoid then s
    else { s with fl := { s.fl with log := tput f.number { f with answered := true } s.fl.log } }.linkQueue c (.fvote f.peernum 0 f.number)
  | none => s

/-- The cross-chip request of CCD_XREQ ends, or after a collision waits for its back-off: 8 to 64 µs of the DRBG (R268, R272). -/
def State.linkDone (s : State) (f : FolioRec) (applied : Bool) : State :=
  if f.peernum ≠ 0 then s
  else
    match s.link.req with
    | none => s
    | some q =>
      if applied then { s.setAll 0 [(Reg.CCD_XREQST_BUSY, 0), (Reg.CCD_XREQST_RESULT, 0)] with link := { s.link with req := none } }
      else if f.vreason = 9 ∧ q.collisions + 1 < 8 then
        let (v, s) := s.fresh 32
        { s with link := { s.link with req := some { q with collisions := q.collisions + 1, backoff := true, wait := 8 + v % 57 } } }
      else
        { s.setAll 0 [(Reg.CCD_XREQST_BUSY, 0), (Reg.CCD_XREQST_RESULT, if f.vreason = 9 then 2 else 1)] with link := { s.link with req := none } }

/-- Arguments of XROLE and XSPARE (R268). -/
def Act.xJob (a : Act) : Nat := bits a.arg 0 32
/-- Slice of an XROLE or XSPARE. -/
def Act.xSlice (a : Act) : Nat := bits a.arg 32 12
/-- New CLP of an XROLE or XSPARE. -/
def Act.xClp (a : Act) : Nat := bits a.arg 44 5
/-- WITHDRAW of an XROLE. -/
def Act.xWithdraw (a : Act) : Bool := bit a.arg 49

/-- The binding that an XROLE names: on the coordinator by its own slice, on the peer by the slice of the coordinator, which is its peer slice
(assumption 40). -/
def State.xBinding (s : State) (mine : Bool) (a : Act) : Option Binding :=
  (s.port a.row).bindings.find? (fun b => b.job == a.xJob && (if mine then b.slice == a.xSlice else b.pslice == a.xSlice))

/-- The standby TENANCY entry that a spare takes up (R268). -/
def State.standbyEntry (s : State) (a : Act) : Option TenantEntry :=
  s.cfg.tenants.find? (fun e => e.valid && e.standby && e.job == a.xJob && e.slice == a.xSlice)

/-- The coordinator of a logged Folio is this chip. -/
def State.folioMine (s : State) (number : Nat) : Bool :=
  match tget number s.fl.log with
  | some f => f.peernum == 0
  | none => true

/-- The Concordance unit's vote code on its actions (R268): 4 where the new CLP does not fit or a spare holds no standby entry. -/
def State.linkCheck (s : State) (number : Nat) (a : Act) : Nat :=
  let mine := s.folioMine number
  if a.act = 0x30 then
    (if (s.xBinding mine a).isNone then 4
     else if a.xWithdraw then 0
     else if (s.port a.xClp).st = .up ∧ (s.port a.xClp).peerOrd = (s.port a.row).peerOrd then 0 else 4)
  else if a.act = 0x31 then (if mine then 0 else if (s.standbyEntry a).isSome then 0 else 4)
  else 0

/-- The effect of XROLE or XSPARE at the Concordance unit (R268, R278). -/
def State.linkApply (s : State) (number : Nat) (a : Act) : State :=
  let mine := s.folioMine number
  if a.act = 0x30 then
    match s.xBinding mine a with
    | none => s
    | some b =>
      if a.xWithdraw then s.dropBinding a.row b
      else (s.modPort a.row (fun p => { p with bindings := p.bindings.filter (fun x => !(x.isOf b.job b.slice && x.pslice == b.pslice)) })).addBinding a.xClp
        { b with st := .declared }
  else if mine then
    let old := (s.port a.row).bindings.find? (fun b => b.job == a.xJob && b.pslice == a.xSlice)
    match old with
    | none => s
    | some b => (s.modPort a.row (fun p => { p with bindings := p.bindings.filter (fun x => x != b) })).addBinding a.xClp
        { job := b.job, tenant := b.tenant, slice := b.slice, pslice := b.pslice }
  else
    match s.standbyEntry a with
    | none => s
    | some e =>
      let s := { s with cfg := { s.cfg with tenants := s.cfg.tenants.map (fun (x : TenantEntry) => if x.tenant = e.tenant then { x with standby := false } else x) } }
      s.addBinding a.row { job := e.job, tenant := e.tenant, slice := e.slice,
                           pslice := ((e.bindings.find? (fun (b : Nat × Nat) => b.1 == a.row)).map (·.2)).getD 0 }

end Sys2Proof.Machine
end

