-- ==== Sys2Proof/Machine/EpochOps.lean ====
section
/-! DEFINITION. Operations of epochs (R286–R300): layer tables, the setting vector, records and their ring, chain values, activation, resets and
recalls. -/

namespace Sys2Proof.Machine

/-! ## Layer tables -/

/-- Two contributions to an entry added (R287): modulo p, and as integers of the entry's widths (R295). -/
def LayerEntry.add (x y : LayerEntry) : LayerEntry :=
  { dA := addp x.dA y.dA, dB := addp x.dB y.dB, nslot := wrap 32 (x.nslot + y.nslot), nchunk := wrap 40 (x.nchunk + y.nchunk),
    nmvslot := wrap 32 (x.nmvslot + y.nmvslot), nmvchunk := wrap 40 (x.nmvchunk + y.nmvchunk), ovf := x.ovf || y.ovf }

/-- A table of at most `cap` entries takes a contribution at `base + layer`; one that finds no free entry goes to LAYER 0xFFFF with OVF (R287, R290). -/
def addLayer (cap base layer : Nat) (e : LayerEntry) (t : Table LayerEntry) : Table LayerEntry :=
  let k := base + layer
  if (tget k t).isSome ∨ t.length < cap then tput k ((tgetD {} k t).add e) t
  else let k := base + 0xFFFF; tput k ((tgetD {} k t).add { e with ovf := true }) t

/-- Sums of two lists of counts, place by place. -/
def addCounts (x y : List Nat) : List Nat := x.zipWith (· + ·) y

/-- Two coverages added. -/
def Coverage.add (x y : Coverage) : Coverage :=
  { macs := addCounts x.macs y.macs, elems := addCounts x.elems y.elems, chosen := wrap 32 (x.chosen + y.chosen), lost := wrap 32 (x.lost + y.lost),
    quenches := wrap 32 (x.quenches + y.quenches), marks := x.marks ||| y.marks }

/-- The 256 bits of a layer entry (R295). -/
def LayerEntry.word (e : LayerEntry) (layer : Nat) : Nat :=
  pack [(0, 16, layer), (16, 1, flag e.ovf), (32, 31, e.dA), (64, 31, e.dB), (96, 32, e.nslot), (128, 40, e.nchunk), (168, 32, e.nmvslot),
    (200, 40, e.nmvchunk)]

/-- The layer entry that 256 bits spell (R295). -/
def LayerEntry.ofWord (w : Nat) : LayerEntry :=
  { dA := bits w 32 31, dB := bits w 64 31, nslot := bits w 96 32, nchunk := bits w 128 40, nmvslot := bits w 168 32, nmvchunk := bits w 200 40,
    ovf := bit w 16 }

/-- The 128 bytes of a coverage block (R294): the may-vary element count is the fifth of `elems` (assumption 42). -/
def Coverage.block (c : Coverage) : Nat :=
  let m := fun i => c.macs.getD i 0
  let e := fun i => c.elems.getD i 0
  pack [(0, 64, m 0), (64, 64, m 1), (128, 64, m 2), (192, 64, m 3), (256, 64, m 4), (320, 64, e 3), (384, 64, e 2), (448, 64, e 1), (512, 64, e 4),
    (576, 64, e 5), (640, 32, c.chosen), (672, 32, c.lost), (704, 32, c.quenches)]

/-! ## Tenants -/

/-- A tenant's epochs. -/
def State.ep (s : State) (t : Nat) : TenantEp := tgetD {} t s.colo.tenants

/-- The state with a tenant's epochs replaced. -/
def State.setEp (s : State) (t : Nat) (e : TenantEp) : State := { s with colo := { s.colo with tenants := tput t e s.colo.tenants } }

/-- The state with a tenant's epochs changed. -/
def State.modEp (s : State) (t : Nat) (f : TenantEp → TenantEp) : State := s.setEp t (f (s.ep t))

/-- TENANCY entry of a tenant (R414). -/
def State.tenantEntry (s : State) (t : Nat) : Option TenantEntry := s.cfg.tenants.find? (fun e => e.tenant == t)

/-- Regions that hold a shelfmark of a tenant, by the Catalogue master. -/
def State.regionsOfTenant (s : State) (t : Nat) : List Nat :=
  (s.master.filter (fun e => e.2.holders.any (fun h => h.2.contains t))).map (·.1)

/-- The setting vector of a tenant (R296). -/
def State.settingVector (s : State) (t : Nat) : Nat :=
  let rs := s.regionsOfTenant t
  pack [(0, 32, s.get Reg.KILN_ID_VERSION 0), (32, 16, s.cfg.stepping), (48, 8, s.cfg.grade), (56, 16, tgetD 0 0 s.bru.fuses), (72, 10, s.cfg.accW),
    (82, 1, s.cfg.layout), (83, 1, flag s.cfg.detred), (84, 1, flag (rs.all (fun r => s.on Reg.RH_CAT_CTRL_TREN r))),
    (85, 1, flag (rs.all (fun r => s.on Reg.RH_RD_CTRL_PADEN r))), (96, 160, leOfBE 20 (s.bru.edigest >>> 224))]

/-! ## Records -/

/-- Used bytes of a tenant's ring, with the records already handed to the Stacker (R293). -/
def State.ringUsed (s : State) (t size : Nat) : Nat := ((s.ep t).pos % size + size - s.get Reg.TEN_REC_TAIL_OFFSET t % size) % size

/-- A record fits between head and tail (R293). -/
def State.recFits (s : State) (t len : Nat) : Bool :=
  match s.tenantEntry t with
  | some e => decide (0 < e.recSize) && decide (s.ringUsed t e.recSize + len < e.recSize)
  | none => false

/-- Work for a system channel (R368). -/
def State.sysPush (s : State) (ch : Nat) (l : List SysJob) : State := { s with sys := tput ch (tgetD [] ch s.sys ++ l) s.sys }

/-- A record is handed to system channel 0; one that crosses the end of the ring goes in two pieces (R293). -/
def State.writeRec (s : State) (t : Nat) (r : RingRec) : State :=
  let e := (s.tenantEntry t)
  let base := (e.map (·.recBase)).getD 0
  let size := max 1 ((e.map (·.recSize)).getD 1)
  let off := (s.ep t).pos % size
  let head := (off + r.len) % size
  let jobs : List SysJob :=
    if off + r.len ≤ size then [{ addr := base + off, len := r.len, data := r.data, tenant := t, head := head }]
    else
      let n := size - off
      [{ addr := base + off, len := n, data := r.data % 2 ^ (8 * n), tenant := t, head := 0 },
       { addr := base, len := r.len - n, data := r.data >>> (8 * n), tenant := t, head := head }]
  (s.modEp t (fun x => { x with recs := x.recs ++ [{ r with pos := x.pos }], pos := x.pos + r.len })).sysPush 0 jobs

/-- Records that wait for room are written while they fit (R293). -/
def State.flushRecs (s : State) (t : Nat) : List RingRec → State
  | [] => s.modEp t (fun e => { e with waiting := [] })
  | r :: rest =>
    if s.recFits t r.len then (s.writeRec t r).flushRecs t rest
    else s.modEp t (fun e => { e with waiting := r :: rest })

/-- A record is written, or waits behind those that wait (R293). -/
def State.putRec (s : State) (t : Nat) (r : RingRec) : State := s.flushRecs t ((s.ep t).waiting ++ [r])

/-- Flags of a record (R294): UNANCHORED is the tenant's pending flag of the Tally. -/
def State.recFlags (s : State) (t : Nat) (layers : Table LayerEntry) (marks : Nat) : Nat :=
  let ua := (tgetD {} t (s.tally.banks.getD s.tally.bank {}).entries).ua
  pack [(0, 1, flag (layers.any (fun e => e.2.ovf))), (1, 1, flag ua), (2, 1, flag ((s.tenantEntry t).elim false (·.seedGiven))),
    (3, 1, flag (layers.any (fun e => e.2.nmvslot != 0))), (4, 2, marks)]

/-- A record of the ring (R294), with its body of `n` bytes: its length is rounded up to 64 bytes, and RTAG is formed over the whole with RTAG 0. -/
def State.makeRec (s : State) (t type flags nlayer e1 e2 gtOpen body n chain : Nat) (cover : Coverage) : RingRec × State :=
  let len := (128 + n + 63) / 64 * 64
  let data := pack [(0, 8, type), (8, 8, flags), (16, 16, len / 64), (32, 12, t), (48, 16, nlayer), (64, 32, e1), (96, 32, e2), (128, 64, gtOpen),
    (192, 64, s.gt), (256, 384, leOfBE 48 chain)] + body <<< 1024
  let (tag, s) := s.tagOf "GL3-REC" hRecord (leBytes len data)
  ({ type := type, e1 := e1, e2 := e2, flags := flags, gtOpen := gtOpen, gtClose := s.gt, pos := 0, len := len, chain := chain, cover := cover,
     data := data + leOfBE 16 tag <<< 640 }, s)

/-- Chain head of a tenant (R292). -/
def State.chainHead (s : State) (t : Nat) : Nat := s.get Reg.TEN_EP_CHAIN_HEAD t

/-- The latest EPOCH record of an epoch. -/
def TenantEp.epochRec (e : TenantEp) (n : Nat) : Option RingRec := e.recs.reverse.find? (fun r => r.type == 2 && r.e1 == n)

/-- The latest GENESIS record. -/
def TenantEp.genesis (e : TenantEp) : Option RingRec := e.recs.reverse.find? (fun r => r.type == 1)

/-- Last sealed epoch, where one has been sealed since the genesis. -/
def State.lastSealed (s : State) (t : Nat) : Option Nat := if (s.ep t).hasSealed then some (s.get Reg.TEN_EP_LAST_EPOCH t) else none

/-- Open epoch after a close without a seal (R288): the one after the last sealed epoch, or the first. -/
def State.reopened (s : State) (t : Nat) : Nat := match s.lastSealed t with | some e => wrap 32 (e + 1) | none => (s.ep t).first

/-- GENESIS of a tenant (R292, R352): the chain starts, its record is written, and a Colophon pair is asked for. -/
def State.genesis (s : State) (t first : Nat) : State :=
  let e := s.tenantEntry t
  let job := (e.map (·.job)).getD 0
  let slice := (e.map (·.slice)).getD 0
  let v := s.settingVector t
  let h := sha384 ([1] ++ leBytes 32 v ++ leBytes 4 job ++ leBytes 2 slice)
  let body := pack [(0, 256, v), (256, 32, job), (288, 16, slice), (512, 256, leOfBE 32 (tgetD 0 t s.seeds))]
  let (r, s) := s.makeRec t 1 (s.recFlags t [] 0) 0 0 0 s.gt body 128 h {}
  let s := (s.modEp t (fun x => { x with active := true, first := first, hasSealed := false, gtOpen := s.gt, vector := v, kept := [], keptCover := {},
                                         settings := [], coloNext := first, issued := [], recalled := [] })).putRec t r
  let s := { s with vault := { s.vault with keys := tput (hColophon t) (zeroKey (tgetD {} (hColophon t) s.vault.keys)) s.vault.keys } }
  (s.setAll t [(Reg.TEN_EP_STATUS_OPEN, first), (Reg.TEN_EP_CHAIN_HEAD, h)]).vaultAsk (.keygen t)

/-- A tenant has its rotation seed (R49): the one its TENANCY entry gives, else a draw of the DRBG; one it has stands until its reset
(assumption 125). -/
def State.ensureSeed (s : State) (t : Nat) : State :=
  if (tget t s.seeds).isSome then s
  else
    let (v, s) : Nat × State := match s.tenantEntry t with
      | some e => if e.seedGiven then (e.seed, s) else s.draw 256
      | none => s.draw 256
    { s with seeds := tput t (wrap 256 v) s.seeds }

/-- A tenant's activation: its first ASSIGN since PORB or since its last reset (R352); its activation sweep is noted (R297, assumption 52). -/
def State.activate (s : State) (t : Nat) : State := 
  if (s.ep t).active then s else ((s.noteSweep (some t) 2).ensureSeed t).genesis t (s.get Reg.TEN_EP_STATUS_OPEN t)

/-- The setting vector of an active tenant has changed (R292): a SETTING record, and the chain goes on from it. -/
def State.settingChanged (s : State) (t : Nat) : State :=
  let v := s.settingVector t
  if (s.ep t).active = false ∨ (s.ep t).vector = v then s
  else
    let h := sha384 (bytesBE 48 (s.chainHead t) ++ [4] ++ leBytes 32 v)
    let (r, s) := s.makeRec t 4 (s.recFlags t [] 0) 0 0 0 (s.ep t).gtOpen v 64 h {}
    ((s.modEp t (fun x => { x with vector := v, settings := x.settings ++ (s.lastSealed t).toList })).putRec t r).set Reg.TEN_EP_CHAIN_HEAD t h

/-- An epoch is closed without a seal (R288, R290, R291): the UNSEALED record, and the next epoch to open. -/
def State.closeUnsealed (s : State) (t epoch : Nat) : State :=
  let (r, s) := s.makeRec t 5 (s.recFlags t [] 0) 0 epoch 0 (s.ep t).gtOpen 0 0 (s.chainHead t) {}
  ((s.modEp t (fun x => { x with gtOpen := s.gt, kept := [], keptCover := {} })).putRec t r).set Reg.TEN_EP_STATUS_OPEN t (s.reopened t)

/-- Closes that hold one of the 64 places (R290). -/
def State.closesRunning (s : State) : Nat := (s.colo.tenants.filter (fun e => (e.2.close.map (fun c => c.phase != .waiting)).getD false)).length

/-- The cut of a close begins (R290): EP_CUT to every hub; the hubs that hold a shelfmark of the tenant answer. -/
def State.startCut (s : State) (t : Nat) : State :=
  match (s.ep t).close with
  | none => s
  | some c =>
    let rs := s.regionsOfTenant t
    let s := s.modEp t (fun x => { x with close := some { c with phase := .cutting, await := rs, layers := x.kept, cover := x.keptCover } })
    ({ s with colo := { s.colo with order := s.colo.order.erase t } }.set Reg.TEN_EP_STATUS_CUT t 0).send (msgEpCut t (c.op == 1) c.epoch)

/-- A close is started, or waits for a place (R290). -/
def State.openClose (s : State) (t : Nat) (c : EpClose) : State :=
  let s := (s.modEp t (fun x => { x with close := some c })).setAll t [(Reg.TEN_EP_STATUS_BUSY, 1), (Reg.TEN_EP_STATUS_RESULT, 0), (Reg.TEN_EP_STATUS_CUT, 0)]
  if s.closesRunning < 64 then s.startCut t else { s with colo := { s.colo with order := s.colo.order ++ [t] } }

/-- A close ends with a result; the oldest close that waits takes the place (R290, R291). -/
def State.endClose (s : State) (t result : Nat) : State :=
  let s := (s.modEp t (fun x => { x with close := none })).setAll t [(Reg.TEN_EP_STATUS_BUSY, 0), (Reg.TEN_EP_STATUS_RESULT, result)]
  match s.colo.order with
  | [] => s
  | u :: rest => ({ s with colo := { s.colo with order := rest } }).startCut u

/-- The Kiln closes a dropped tenant's epoch at a scoped reset, with a cut of its own (R291). A close of the runtime that is under way ends with
RESULT 2, its epoch closed as by DISCARD (assumption 43). -/
def State.epochDiscard (s : State) (t : Nat) : State :=
  if (s.ep t).active = false then s
  else match (s.ep t).close with
    | some c =>
      if c.own then s
      else
        let s := ({ s with colo := { s.colo with order := s.colo.order.erase t } }.closeUnsealed t (s.get Reg.TEN_EP_STATUS_OPEN t)).endClose t 2
        s.openClose t { op := 1, epoch := s.get Reg.TEN_EP_STATUS_OPEN t, own := true }
    | none => s.openClose t { op := 1, epoch := s.get Reg.TEN_EP_STATUS_OPEN t, own := true }

/-- A tenant reset at its seal (R190, R291, R303, R352, R366): its epoch is closed without a seal or a cut, a close under way ends with RESULT 5, a
Colophon being signed is discarded, and its Colophon pair is zeroised. -/
def State.epochReset (s : State) (t : Nat) : State :=
  let e := s.ep t
  if e.active = false then s
  else
    let s := s.closeUnsealed t (s.get Reg.TEN_EP_STATUS_OPEN t)
    let s := if e.close.isSome then ({ s with colo := { s.colo with order := s.colo.order.erase t } }).endClose t 5 else s
    let s := (s.modEp t (fun x => { x with active := false, later := [], recallColos := [] })).coloRefused t
    { s with seeds := tdel t s.seeds,
             vault := { s.vault.withdraw t with keys := tmap (fun h (k : VaultKey) => if h = hColophon t then zeroKey k else k) s.vault.keys } }

/-! ## Colophons -/

/-- The sums and marks of the EPOCH records of a range. -/
def TenantEp.rangeRecs (e : TenantEp) (a b : Nat) : List RingRec := (List.range (b + 1 - a)).filterMap (fun i => e.epochRec (a + i))

/-- Flags of a Colophon: those of its epochs' records together (R298). -/
def flagsOf (l : List RingRec) : Nat := l.foldl (fun f r => f ||| r.flags) 0

/-- The 384-byte body of a Colophon (R298). Energy and sweeps are the caller's: microjoules, first and last sweep, accuracy class. -/
def State.coloBody (s : State) (t a b num : Nat) (isRecall : Bool) (energy sw0 sw1 acc : Nat) : Nat :=
  let e := s.ep t
  let te := s.tenantEntry t
  let l := e.rangeRecs a b
  let c := l.foldl (fun (x : Coverage) r => x.add r.cover) {}
  let hprev := if a = e.first then (e.genesis.map (·.chain)).getD 0 else ((e.epochRec (a - 1)).map (·.chain)).getD ((e.genesis.map (·.chain)).getD 0)
  let circ := sha384 (l.flatMap (fun r => leBytes r.len r.data))
  pack [(0, 16, 0x0301), (16, 16, flagsOf l + 256 * flag isRecall), (32, 12, t), (48, 16, (te.map (·.slice)).getD 0), (64, 32, (te.map (·.job)).getD 0),
    (96, 32, num), (128, 32, a), (160, 32, b), (192, 256, e.vector), (448, 384, leOfBE 48 hprev),
    (832, 384, leOfBE 48 (((e.epochRec b).map (·.chain)).getD 0)), (1216, 384, leOfBE 48 circ), (1600, 64, (l.head?.map (·.gtOpen)).getD 0),
    (1664, 64, (l.reverse.head?.map (·.gtClose)).getD 0), (1728, 736, c.block), (2464, 32, e.recalledSince), (2496, 64, energy), (2560, 32, sw0), (2592, 32, sw1),
    (2624, 8, acc)]

/-! ## Recalls -/

/-- Local sealed epochs that depend on a peer's epoch (R262). -/
def State.dependents (s : State) (b : Binding) (e : Nat) : List Nat :=
  (b.pk.filter (fun k => decide (e ≤ k.2 + 1 + s.get Reg.CCD_GCTRL_DEPG 0) && decide (k.1 ≤ (s.lastSealed b.tenant).getD 0))).map (·.1)

/-- A seal of the tenant is under way, and a recall waits for it (R303). -/
def State.sealingNow (s : State) (t : Nat) : Bool := ((s.ep t).close.map (fun c => c.op == 0)).getD false

/-- The runs of neighbouring epochs in an ascending list, as first and last. -/
def runsOf : List Nat → List (Nat × Nat)
  | [] => []
  | e :: rest =>
    match runsOf rest with
    | (a, b) :: l => if a = e + 1 then (e, b) :: l else (e, e) :: (a, b) :: l
    | [] => [(e, e)]

/-- The epochs `a` to `b`. -/
def epochRange (a b : Nat) : List Nat := (List.range (b + 1 - a)).map (a + ·)

/-- One RECALL record of a run of epochs, and its RECALL_COLOPHON where it meets issued Colophons (R299). -/
def State.recordRecall (s : State) (t : Nat) (run : Nat × Nat) : State :=
  let e := s.ep t
  let l := epochRange run.1 run.2
  let (r, s) := s.makeRec t 3 (s.recFlags t [] 0) 0 run.1 run.2 e.gtOpen 0 0 (s.chainHead t) {}
  let s := s.putRec t r
  let fresh := l.filter (fun n => !e.recalled.contains n)
  let s := s.modEp t (fun x => { x with recalled := x.recalled ++ fresh, recalledSince := wrap 32 (x.recalledSince + fresh.length) })
  let hit := l.filter (fun n => e.issued.any (fun i => decide (i.1 ≤ n ∧ n ≤ i.2)))
  match hit.head?, hit.reverse.head? with
  | some a, some b => (s.modEp t (fun x => { x with recallColos := x.recallColos ++ [({ a := a, b := b, isRecall := true, swept := true } : ColoReq)] })).vaultAsk (.signColophon t true)
  | _, _ => s

/-- A recall of sealed epochs, ascending: a record for each run of them (assumption 148), and one RECALL of their range to the peers (R263, R299). -/
def State.performRecall (s : State) (t : Nat) (l : List Nat) (origin rid cause : Nat) (from_ : Option (Nat × Binding)) : State :=
  match l.head?, l.reverse.head? with
  | some first, some last => ((runsOf l).foldl (fun s run => s.recordRecall t run) s).queueRecalls t first last origin rid cause from_
  | _, _ => s

/-- A recall of epochs of a tenant, those that are sealed (R299); it waits for a seal under way (R303). The second result is the first epoch recalled, where
any is. -/
def State.recallEpochs (s : State) (t : Nat) (l : List Nat) (origin rid cause : Nat) (from_ : Option (Nat × Binding)) : State × Option Nat :=
  match s.lastSealed t with
  | none => (s, none)
  | some top =>
    let l := (epochRange (s.ep t).first top).filter l.contains
    match l.head? with
    | none => (s, none)
    | some a =>
      if s.sealingNow t then (s.modEp t (fun x => { x with later := x.later ++ [{ epochs := l, origin := origin, rid := rid, cause := cause, source := from_ }] }), some a)
      else (s.performRecall t l origin rid cause from_, some a)

/-- Recalls that waited for a seal (R303). -/
def State.laterRecalls (s : State) (t : Nat) : State :=
  let l := (s.ep t).later
  l.foldl (fun s e => s.performRecall t e.epochs e.origin e.rid e.cause e.source) (s.modEp t (fun x => { x with later := [] }))

/-- A cut that a hub does not answer fails with RESULT 2, its epoch closed as by DISCARD (R291, R303). -/
def State.failCut (s : State) (t : Nat) : State :=
  match (s.ep t).close with
  | some c => if c.phase = .cutting then ((s.closeUnsealed t c.epoch).endClose t 2).laterRecalls t else s
  | none => s

/-- Tenants whose cut waits for a hub. -/
def State.cutsWaitingFor (s : State) (r : Nat) : List Nat :=
  (s.colo.tenants.filter (fun e => (e.2.close.map (fun c => c.phase == .cutting && c.await.contains r)).getD false)).map (·.1)

/-! ## Waiting bindings -/

/-- A binding lags (R264): the tenant's highest sealed epoch exceeds PEERE + EPLAG. -/
def State.lagging (s : State) (b : Binding) : Bool :=
  match s.lastSealed b.tenant with
  | some e => decide (b.peere + s.get Reg.CCD_GCTRL_EPLAG 0 < e)
  | none => false

/-- Bindings of a tenant whose highest sealed epoch has gone back leave WAITING where they no longer lag (R264). -/
def State.caughtUp (s : State) (t : Nat) : State :=
  s.mapPorts (fun p => { p with bindings := p.bindings.map (fun b => if b.tenant = t then { b with waiting := b.waiting && s.lagging b } else b) })

end Sys2Proof.Machine
end

