-- ==== Sys2Proof/Machine/FolioCore.lean ====
section
/-! DEFINITION. The Folio coordinator (R170–R189): conflict keys, participants, numbering, places, voiding, deciding and completing. -/

namespace Sys2Proof.Machine

/-- Conflict keys (R174). -/
inductive ConflictKey where
  | column (region col : Nat) | tenant (t : Nat) | tally | charter | link (clp : Nat)
  deriving DecidableEq, Repr

/-- Participant number of a Kiln unit, and of a peer chip. -/
def unitPart (u : Nat) : Nat := 2048 + u
/-- Participant number of the peer chip on a link. -/
def peerPart (clp : Nat) : Nat := 4096 + clp

/-- The action codes that are not reserved (R170). -/
def actCodes : List Nat := [0x01, 0x02, 0x03, 0x04, 0x05, 0x06, 0x10, 0x11, 0x12, 0x20, 0x30, 0x31]

/-- Columns that hold a shelfmark of a tenant, over every region (R170). -/
def State.columnsOfTenant (s : State) (t : Nat) : List (Nat × Nat) :=
  s.master.flatMap (fun e => ((e.2.holders.filter (fun h => h.2.contains t)).map (fun h => (e.1, h.1 / 32))).eraseDups)

/-- Conflict keys of an action (R170). -/
def State.actKeys (s : State) (a : Act) : List ConflictKey :=
  if a.act ≤ 0x03 then [.column a.region a.col]
  else if a.act ≤ 0x05 then [.column a.region a.col, .tenant a.tenant]
  else if a.act = 0x06 ∨ a.act = 0x11 then [.tenant a.tenant]
  else if a.act = 0x10 then .tenant a.tenant :: (s.columnsOfTenant a.tenant).map (fun e => .column e.1 e.2)
  else if a.act = 0x12 then [.tally]
  else if a.act = 0x20 then [.charter]
  else [.link a.row]

/-- Conflict keys of a Folio (R174). -/
def State.folioKeys (s : State) (f : FolioRec) : List ConflictKey := f.acts.flatMap s.actKeys

/-- Two Folios conflict when they share a key (R174). -/
def State.conflict (s : State) (f g : FolioRec) : Bool := (s.folioKeys f).any (fun k => (s.folioKeys g).contains k)

/-- Is a conflict key a column key? -/
def ConflictKey.isColumn : ConflictKey → Bool
  | .column _ _ => true
  | _ => false

/-- Is a number earlier than another, modulo 2^32 within a window of 2^31 (R172)? -/
def earlier (a b : Nat) : Bool := let d := wrap 32 (b + 2 ^ 32 - wrap 32 a); decide (0 < d ∧ d < 2 ^ 31)

/-- Hubs that an action names, lost ones included (R171). -/
def State.actHubs (s : State) (a : Act) : List Nat :=
  if a.region = 0x7FE then List.range s.regionCount else if a.region < 0x7FE then [a.region] else []

/-- Parties of an action (R171). The Charter unit takes part in a broadcast amendment too, which it votes on and writes (R432, assumption 70). -/
def State.actParts (s : State) (a : Act) : List Nat :=
  if a.act = 0x30 then [unitPart 4, peerPart a.row]
  else if a.act = 0x31 then [unitPart 4, peerPart (bits a.arg 44 5)]
  else if a.region = 0x7FF then [unitPart a.col]
  else if a.region = 0x7FE then s.liveRegions ++ (if a.act = 0x20 then [unitPart 3] else [])
  else [a.region]

/-- The peer chips that coordinate a Folio (R171): they take no vote, and their part is done with the FSEAL. -/
def FolioRec.coordinator (f : FolioRec) : List Nat := if f.xchip ∧ f.peernum ≠ 0 then (f.link.map peerPart).toList else []

/-- Participants of a Folio: the parties named, without hubs that are lost, and the peer that coordinates it (R171). -/
def State.folioParts (s : State) (f : FolioRec) : List Nat :=
  ((f.acts.flatMap s.actParts).filter (fun p => !(decide (p < 2048) && s.lost.contains p) && (f.coordinator = [] || decide (p < 4096))) ++ f.coordinator).eraseDups

/-- Hubs that a Folio names and that are no participants, because they were lost at its prepare (R171). -/
def State.missedHubs (s : State) (f : FolioRec) : List Nat := ((f.acts.flatMap s.actHubs).eraseDups).filter (fun r => !f.parts.contains r)

/-- Actions that a participant receives: its own, and broadcast ones for a hub (R180). -/
def actsFor (part : Nat) (acts : List Act) : List Act :=
  acts.filter (fun a =>
    if part < 2048 then a.region == part || a.region == 0x7FE
    else if part < 4096 then (a.region == 0x7FF && a.col == part - 2048) || (a.region == 0x7FE && a.act == 0x20 && part == unitPart 3)
    else decide (a.act = 0x30 ∨ a.act = 0x31))

/-- The Folio of a number, where the log holds it. -/
def State.folio (s : State) (n : Nat) : Option FolioRec := tget n s.fl.log

/-- The state with a Folio stored. -/
def State.setFolio (s : State) (f : FolioRec) : State := { s with fl := { s.fl with log := tput f.number f s.fl.log } }

/-- Every Folio of the log. -/
def State.folios (s : State) : List FolioRec := s.fl.log.map (·.2)

/-- PREPARED or DECIDED and not counted out as behind (R173, R179). -/
def FolioRec.isOpen (f : FolioRec) : Bool := f.st == .prepared || (f.st == .decided && (f.parts.filter (fun p => !f.behind.contains p && !f.done.contains p)) != [])

/-- Open Folios, and QUEUED ones (R173). -/
def State.openCount (s : State) : Nat := (s.folios.filter (·.isOpen)).length
/-- QUEUED Folios. -/
def State.queuedCount (s : State) : Nat := (s.folios.filter (fun f => f.st == .queued)).length

/-- Is there a place for a proposal? Sixteen of the 192 are kept for urgent ones (R173). -/
def State.hasPlace (s : State) (urgent : Bool) : Bool :=
  decide (s.queuedCount < (if urgent then 192 else 176)) && s.pwr.state != .pdQuiesce && s.pwr.state != .pdFlush

/-- The log keeps the latest 512 headers, and every header of a Folio that is neither APPLIED nor VOID (R185). -/
def trimLog (next : Nat) (t : Table FolioRec) : Table FolioRec :=
  t.filter (fun e => !(e.2.st == .applied || e.2.st == .void) || earlier (wrap 32 (next + 2 ^ 32 - 513)) e.1)

/-- Action records are placed in the ring, from the place after the last (R185). -/
def KFolio.place (k : KFolio) (acts : List Act) : KFolio :=
  { k with ring := acts.zipIdx.foldl (fun t e => tput ((k.actTotal + e.2) % 32768) e.1.flit.toNat t) k.ring, actTotal := k.actTotal + acts.length }

/-- The ring still holds a Folio's action records (R185, R187). -/
def KFolio.holds (k : KFolio) (f : FolioRec) : Bool := decide (k.actTotal ≤ f.actStart + 32768)

/-- A proposal takes a number and a place (R172, R173). -/
def State.enqueue (s : State) (p : Proposal) (from_ : Option (Nat × Nat)) : Nat × State :=
  let n := s.fl.next
  let tenant := ((p.acts.find? (fun a => a.tenant != 0)).map (·.tenant)).getD 0
  let f : FolioRec := { number := n, xchip := p.xchip, tenant := tenant, acts := p.acts, urgent := p.urgent, origin := p.origin,
                        peernum := p.peernum, link := p.peer, from_ := from_, actStart := s.fl.actTotal }
  let next := nextSkipZero 32 n
  (n, { s with fl := { s.fl.place p.acts with next := next, log := tput n f (trimLog next s.fl.log) } })

/-- The hub records of a Folio all go to every hub (R169). -/
def FolioRec.isBroadcast (f : FolioRec) : Bool := f.acts.any (fun a => a.region == 0x7FE) && f.acts.all (fun a => decide (0x7FE ≤ a.region))

/-- A message of a Folio goes to participants of this chip: one copy down each spine link where it is broadcast, else one to each hub (R192). -/
def State.toParts (s : State) (f : FolioRec) (who : List Nat) (m : Nat → List Msg) : State :=
  let hubs := who.filter (fun p => decide (p < 2048))
  let units := who.filter (fun p => decide (2048 ≤ p ∧ p < 4096))
  s.sendAll ((if f.isBroadcast ∧ hubs ≠ [] then (List.replicate s.cfg.h (m 0x7FE)).flatten else hubs.flatMap m) ++ units.flatMap m)

/-- A hub takes its copy of a message of the coordinator, and forwards a broadcast one: the spine column both ways in X, every other hub onward in the same
direction (R192). -/
def State.recvFolio (s : State) (who : Nat) (m : Nat → Msg) : State :=
  if who < 2048 ∧ s.flue.contains (m who) = false ∧ s.flue.contains (m 0x7FE) then
    let x := (s.gridOf who).1
    (s.recv (m 0x7FE)).sendAll ((if s.cfg.spine ≤ x ∧ x + 1 < s.cfg.w then [m 0x7FE] else []) ++ (if x ≤ s.cfg.spine ∧ 0 < x then [m 0x7FE] else []))
  else s.recv (m who)

/-- RESULT of a `CAT_REQ` request whose Folio is voided, by its action and the void's reason (R146, R155, R159, R167). -/
def voidResult (acts : List Act) (reason : Nat) : Nat :=
  let assigns := acts.any (fun a => a.act == 0x04 || a.act == 0x05)
  if assigns ∧ reason = 4 then 2
  else if assigns ∧ reason = 5 then 3
  else if reason = 4 ∧ acts.any (fun a => a.act == 0x03) then 4
  else 1

/-- What a void does beyond the log: the request that made the Folio ends, and a reaction that it contains ends its handling (R167, R189,
R213, R329, R432). -/
def State.voidOrigin (s : State) (f : FolioRec) (reason : Nat) : State :=
  let s := s.reactVoid f.number
  match f.origin with
  | 1 => s.setAll 0 [(Reg.CAT_REQST_BUSY, 0), (Reg.CAT_REQST_RESULT, voidResult f.acts reason)]
  | 3 => s.sweepVoided f.acts
  | 4 =>
    let s := { s with bru := { s.bru with amend := none }, hubs := tmap (fun _ (h : Hub) => { h with parts := [] }) s.hubs }
    s.setAll 0 [(Reg.CHR_AMST_BUSY, 0), (Reg.CHR_AMST_RESULT, 1)]
  | 5 => s.linkDone { f with vreason := reason } false
  | _ => s

/-- A Folio becomes VOID: participants of a PREPARED one are told, the reason and the voter are logged (R179, R194). -/
def State.voidFolio (s : State) (n reason voidsrc : Nat) : State :=
  match s.folio n with
  | none => s
  | some f =>
    if f.st = .queued ∨ f.st = .prepared then
      let told := f.parts.filter (fun p => !(decide (p < 2048) && s.lost.contains p))
      let s := s.setFolio { f with st := .void, vreason := reason, voidsrc := voidsrc, gtvote := s.gt }
      let s := if f.st = .prepared then s.toParts f told (fun r => [msgFlVoid r n reason])
        else s.sendAll (f.from_.toList.map (fun e => msgFlVoid e.1 n reason))
      let s := ((s.raise Reg.FOLIO_EVENT_VOID 0).bump Reg.FOLIO_VOIDED_COUNT 0 1).event 7
      let s := if f.xchip then (s.raise Reg.FOLIO_EVENT_XVOID 0).linkVoid { f with vreason := reason } else s
      s.voidOrigin f reason
    else s

/-- Void each Folio of a list of numbers. -/
def State.voidAll (s : State) (reason : Nat) (l : List Nat) : State := l.foldl (fun s n => s.voidFolio n reason 0x7FF) s

/-- What an urgent proposal voids (R175): QUEUED Folios that share a column key and are not urgent, with reason 3; for a tenant reset, every
QUEUED or PREPARED Folio that names the tenant, with reason 8. -/
def State.urgentVoids (s : State) (n : Nat) : State :=
  match s.folio n with
  | none => s
  | some f =>
    if f.urgent then
      let reset := f.acts.any (fun a => a.act == 0x10)
      let named := if reset then (s.folios.filter (fun g => g.number != n && (g.st == .queued || g.st == .prepared) && g.acts.any (fun a => a.tenant == f.tenant))).map (·.number) else []
      let s := s.voidAll 8 named
      let cols := (s.folioKeys f).filter ConflictKey.isColumn
      let hit := (s.folios.filter (fun g => g.number != n && g.st == .queued && !g.urgent && (s.folioKeys g).any (fun k => cols.contains k))).map (·.number)
      s.voidAll 3 hit
    else s

/-- A Kiln unit proposes: it takes a place, or waits in the Kiln for the next one of its kind (R173); in the
sealed state nothing is proposed (R214). The number is 0 while it waits. -/
def State.kilnPropose (s : State) (p : Proposal) : Nat × State :=
  if s.isSealed then (0, s)
  else if s.pwr.state = .pdFlush ∧ p.origin = 3 then s.enqueue p none
  else if s.hasPlace p.urgent ∧ (s.fl.waiting.filter (fun w => w.urgent == p.urgent)) = [] then
    let (n, s) := s.enqueue p none
    (n, s.urgentVoids n)
  else (0, { s with fl := { s.fl with waiting := s.fl.waiting ++ [p] } })

/-- Waiting proposals take the places that have freed, in order of proposal (R173); none does in the sealed state (R214). -/
def State.admitWaiting (s : State) : State :=
  if s.isSealed then s
  else s.fl.waiting.foldl (fun s p =>
    if s.hasPlace p.urgent then
      let s := { s with fl := { s.fl with waiting := s.fl.waiting.erase p } }
      let (n, s) := s.enqueue p none
      let s := s.urgentVoids n
      if p.origin = 1 then s.set Reg.CAT_REQFOLIO_FOLIO 0 n
      else if p.origin = 2 then
        let t := ((p.acts.head?).map (·.tenant)).getD 0
        { s with fl := { s.fl with treqs := s.fl.treqs.map (fun e => if e = (t, 0) then (t, n) else e) } }.set Reg.FOLIO_TREQNUM_NUMBER 0 n
      else if p.origin = 5 then s.set Reg.CCD_XREQNUM_NUMBER 0 n
      else s
    else s) s

/-- The four records of a tenant reset (R189). -/
def resetActs (t sweep : Nat) : List Act :=
  [{ act := 0x10, region := 0x7FE, tenant := t }, { act := 0x11, region := 0x7FF, col := 1, tenant := t },
   { act := 0x12, region := 0x7FE, tenant := t, arg := sweep + 2 ^ 32 }, { act := 0x12, region := 0x7FF, col := 2, tenant := t, arg := sweep + 2 ^ 32 }]

/-- The coordinator proposes a tenant reset, urgent, with the next sweep number (R189). -/
def State.proposeReset (s : State) (t : Nat) : State :=
  let sweep := s.get Reg.TLY_SWNUM_NEXT 0
  let s := s.set Reg.TLY_SWNUM_NEXT 0 (nextSkipZero 32 sweep)
  let (n, s) := s.kilnPropose { acts := resetActs t sweep, urgent := true, origin := 2 }
  { s with fl := { s.fl with treqs := s.fl.treqs ++ [(t, n)] } }.set Reg.FOLIO_TREQNUM_NUMBER 0 n

/-- A reset of a tenant is PREPARED or sealed and not yet APPLIED (R189). -/
def State.resetPrepared (s : State) (t : Nat) : Bool :=
  s.folios.any (fun f => (f.st == .prepared || f.st == .decided) && f.tenant == t && f.acts.any (fun a => a.act == 0x10))

/-- The ladder or a lost link requests a tenant's reset (R189, R275): while one is PREPARED nothing starts. -/
def State.requestReset (s : State) (t : Nat) : State := if s.resetPrepared t then s else s.proposeReset t

/-- The reset that `FOLIO_TREQ` asked for has ended (R189, R193). -/
def State.treqEnd (s : State) (t result : Nat) : State :=
  if s.fl.treqHost = some t then
    { s with fl := { s.fl with treqHost := none } }.setAll 0 [(Reg.FOLIO_TREQST_BUSY, 0), (Reg.FOLIO_TREQST_RESULT, result)]
  else s

/-- The lead that fixes T: LEAD, or XLEAD with a peer participant; below 2,000 acts as 2,000 (R181). -/
def State.leadOf (s : State) (f : FolioRec) : Nat :=
  max 2000 (if f.parts.any (fun p => decide (4096 ≤ p)) then s.get Reg.FOLIO_CTRL_XLEAD 0 else s.get Reg.FOLIO_CTRL_LEAD 0)

/-- The columns that a Folio's Catalogue actions change. -/
def FolioRec.columns (f : FolioRec) : List (Nat × Nat) := ((f.acts.filter (fun a => decide (a.act ≤ 3))).map (fun a => (a.region, a.col))).eraseDups

/-- The end of a Folio's request, once it is APPLIED (R167, R189). -/
def State.appliedOrigin (s : State) (f : FolioRec) : State :=
  let s := s.reactApplied f.number
  match f.origin with
  | 1 => s.setAll 0 [(Reg.CAT_REQST_BUSY, 0), (Reg.CAT_REQST_RESULT, 0)]
  | 2 =>
    let s := { s with fl := { s.fl with treqs := s.fl.treqs.filter (fun e => e.2 != f.number) } }
    (s.raise Reg.FOLIO_EVENT_TRESET 0).treqEnd f.tenant 0
  | 5 => s.linkDone f true
  | _ => s

/-- A DECIDED Folio with no participant pending becomes APPLIED (R179). -/
def State.tryApplied (s : State) (n : Nat) : State :=
  match s.folio n with
  | none => s
  | some f =>
    if f.st = .decided ∧ f.parts.all (fun p => f.done.contains p) then
      ((s.setFolio { f with st := .applied, gtdone := s.gt }).appliedOrigin f).admitWaiting
    else s

/-- Operating seconds (R166). -/
def State.opSecs (s : State) : Nat := s.pwr.secs

/-- The tenants of a region before and after a seal, noted for exposure windows (R134). -/
def State.noteStays (s : State) (r gt : Nat) (before after : List Nat) : State :=
  let ended := s.colo.stays.map (fun (e : Nat × Nat × Nat × Option Nat) =>
    if e.1 = r ∧ e.2.2.2.isNone ∧ !after.contains e.2.1 then (e.1, e.2.1, e.2.2.1, some gt) else e)
  { s with colo := { s.colo with stays := ended ++ (after.filter (fun t => !before.contains t)).map (fun t => (r, t, gt, none)) } }

/-- The Catalogue master's copy changes with the hub's, unless the hub was marked behind and the master has it already (R186). -/
def State.applyMaster (s : State) (r number : Nat) (acts : List Act) : State :=
  let done : Bool := match s.folio number with
    | some f => f.behind.contains r
    | none => false
  if done then s
  else
    let before := s.tenantsOfRegion r
    let s := { s with master := tput r ((s.masterOf r).applyAll s.opSecs acts).1 s.master }
    s.noteStays r s.gt before (s.tenantsOfRegion r)

/-- A participant is marked behind a DECIDED Folio: at most 32 numbers to a list, and the master takes the Folio's effect in its stead (R179,
R185). -/
def State.markBehind (s : State) (f : FolioRec) (who : Nat) : State :=
  if 2048 ≤ who then s
  else
    let l := tgetD [] who s.fl.behind
    let s := if f.behind.contains who then s else s.applyMaster who f.number (actsFor who f.acts)
    let past := 32 ≤ l.length && !l.contains f.number
    let l := if l.contains f.number ∨ past then l else l ++ [f.number]
    { s with fl := { s.fl with behind := tput who l s.fl.behind,
                               overflowed := if past ∧ s.fl.overflowed.contains who = false then s.fl.overflowed ++ [who] else s.fl.overflowed } }.raise
      Reg.FOLIO_EVENT_BEHIND 0

/-- A Folio becomes DECIDED with seal instant `t`: FL_SEAL to every participant; hubs that were lost at its prepare are behind it (R171, R179, R181, R185).
One with no participant left is APPLIED at once. -/
def State.decide_ (s : State) (f : FolioRec) (t : Nat) : State :=
  let missed := s.missedHubs f
  let f := { f with st := .decided, sealt := t, done := f.coordinator }
  let s := missed.foldl (fun s r => s.markBehind f r) s
  let f := { f with behind := missed }
  let s := (s.setFolio f).bump Reg.FOLIO_SEALED_COUNT 0 1
  let s := s.event 6
  let s := s.toParts f f.parts (fun r => [msgFlSeal r f.number false t])
  let s := s.reactSealed f.number f.columns
  let s := if f.xchip ∧ f.peernum = 0 then s.linkSeal f else s
  s.tryApplied f.number

/-- Every participant that votes has voted yes. -/
def FolioRec.allYes (f : FolioRec) : Bool := f.parts.all (fun p => f.yes.contains p || f.coordinator.contains p)

/-- A PREPARED Folio whose votes are complete is decided, unless global stop or the sealed state holds it (R179, R191, R214); a participant of a peer's Folio answers yes
instead (R188). -/
def State.tryDecide (s : State) (n : Nat) : State :=
  match s.folio n with
  | none => s
  | some f =>
    if f.st = .prepared ∧ f.allYes ∧ ¬ s.stopped ∧ ¬ s.isSealed then
      (if f.xchip ∧ f.peernum ≠ 0 then s.linkVoteYes f else s.decide_ f (s.gt + s.leadOf f))
    else s

end Sys2Proof.Machine
end

