-- ==== Sys2Proof/Machine/SweepOps.lean ====
section
/-! DEFINITION. The Tally aggregator (R328–R336): proposing sweeps, committing banks, statements, the Tally ring, batches and their roots. -/

namespace Sys2Proof.Machine

/-! ## Proposing -/

/-- Records of a sweep's Folio (R170, R328). -/
def sweepActs (number : Nat) (tenant : Option Nat) : List Act :=
  let arg := number + (if tenant.isSome then 2 ^ 32 else 0)
  [{ act := 0x12, region := 0x7FE, tenant := tenant.getD 0, arg := arg }, { act := 0x12, region := 0x7FF, col := 2, tenant := tenant.getD 0, arg := arg }]

/-- The aggregator proposes the sweeps that are wanted, where none collects and Folios are proposed at all (R214, R328). -/
def State.kickSweeps (s : State) : State :=
  if s.sweepBusy ∨ s.isSealed then s
  else
    s.tally.wants.foldl (fun s w =>
      let n := s.get Reg.TLY_SWNUM_NEXT 0
      let s := s.set Reg.TLY_SWNUM_NEXT 0 (nextSkipZero 32 n)
      let s := { s with tally := { s.tally with wants := s.tally.wants.drop 1, proposed := s.tally.proposed ++ [(n, w)] } }
      (s.kilnPropose { acts := sweepActs n w.tenant, urgent := false, origin := 3 }).2) s

/-- A single-tenant sweep for a Colophon (R297). -/
def State.wantSweep (s : State) (t : Nat) : State := (s.noteSweep (some t) 1).kickSweeps

/-! ## The Tally ring (R334) -/

/-- Places of the Tally ring, 128 B each, and its base. -/
def State.tallyRing (s : State) : Option (Nat × Nat) :=
  match s.cfg.ring with
  | some (base, size) => if size < 256 then none else some (base, size / 128)
  | none => none

/-- The ring has room for a record of `n` places; it is never completely full. -/
def State.ringFits (s : State) (n : Nat) : Bool :=
  match s.tallyRing with
  | none => false
  | some (_, size) => decide ((s.tally.ringPos + size - s.get Reg.TLY_RTAIL_OFFSET 0 % size) % size + n < size)

/-- Hand a record of `n` places to system channel 1; one that meets the ring's end goes on at its start. -/
def State.ringWrite (s : State) (n data seq : Nat) : State :=
  match s.tallyRing with
  | none => s
  | some (base, size) =>
    let p := s.tally.ringPos
    let q := (p + n) % size
    let k := min n (size - p)
    let jobs : List SysJob := { addr := base + 128 * p, len := 128 * k, data := wrap (1024 * k) data, head := (p + k) % size, seq := seq } ::
      (if k < n then [{ addr := base, len := 128 * (n - k), data := data >>> (1024 * k), head := q, seq := seq }] else [])
    { s with sys := tput 1 (tgetD [] 1 s.sys ++ jobs) s.sys, tally := { s.tally with ringPos := q } }

/-! ## Batches (R334, R335) -/

/-- SHA-384 of a node (R335). -/
def nodeHash (a b : Nat) : Nat := sha384 (1 :: (bytesBE 48 a ++ bytesBE 48 b))

/-- The Merkle tree hash of RFC 9162 over leaf hashes (R335), with its depth as fuel. -/
def merkle : Nat → List Nat → Nat
  | 0, l => l.headD (sha384 [])
  | _ + 1, [] => sha384 []
  | _ + 1, [x] => x
  | fuel + 1, l =>
    let k := 2 ^ Nat.log2 (l.length - 1)
    nodeHash (merkle fuel (l.take k)) (merkle fuel (l.drop k))

/-- Bytes 0–127 of a root record (R335). -/
def rootHead (b : Batch) (prev : Nat) : Nat :=
  pack [(0, 16, 0x0303), (16, 16, b.leaves.length % 4096), (32, 32, b.number), (64, 32, b.seq), (128, 64, b.gt0), (192, 64, b.gt1),
    (256, 384, leOfBE 48 (merkle 13 b.leaves)), (640, 384, leOfBE 48 prev)]

/-- The Vault can sign with the Tally pair (R335, R345). -/
def State.canSignRoot (s : State) : Bool := s.vaultServes && (tgetD {} hTally s.vault.keys).st == 1

/-- The oldest closed batch is put to the Vault; while it refuses, roots wait and NOSIGN is 1 (R335). -/
def State.signNext (s : State) : State :=
  match s.tally.unsigned with
  | [] => s.set Reg.TLY_STATUS_NOSIGN 0 0
  | b :: _ =>
    if s.tally.signing.isSome then s
    else if s.canSignRoot then
      ({ s with tally := { s.tally with signing := some b.number } }.vaultAsk (.signRoot b.number)).set Reg.TLY_STATUS_NOSIGN 0 0
    else s.set Reg.TLY_STATUS_NOSIGN 0 1

/-- The open batch closes (R334). -/
def State.closeBatch (s : State) : State :=
  match s.tally.batch with
  | none => s
  | some b =>
    ({ s with tally := { s.tally with batch := none, unsigned := s.tally.unsigned ++ [{ b with gt1 := s.gt }] } }.set Reg.TLY_BATCHNUM_BATCH 0 b.number).signNext

/-- A statement joins the open batch; the 4,096th closes it (R334, R335). -/
def State.joinBatch (s : State) (st : Statement) : State :=
  let leaf := sha384 (0 :: leBytes 128 st.data)
  let b : Batch := match s.tally.batch with
    | some b => { b with leaves := b.leaves ++ [leaf] }
    | none => { number := s.get Reg.TLY_BATCHNUM_BATCH 0 + 1, seq := st.seq, gt0 := st.gt, leaves := [leaf] }
  let s := { s with tally := { s.tally with batch := some b } }
  if b.leaves.length ≥ 4096 then s.closeBatch else s

/-- Roots, then statements, are handed to the ring while it has room (R334, R335). -/
def State.pumpRoots (s : State) : List Nat → State
  | [] => s
  | x :: rest =>
    if s.ringFits 28 then State.pumpRoots ({ s with tally := { s.tally with roots := rest } }.ringWrite 28 x 0) rest else s.raise Reg.TLY_EVENT_RINGWAIT 0

/-- Statements in SEQ order. -/
def State.pumpStatements (s : State) : List Statement → State
  | [] => s
  | x :: rest =>
    if s.ringFits 1 then State.pumpStatements (({ s with tally := { s.tally with queue := rest } }.ringWrite 1 x.data x.seq).joinBatch x) rest
    else s.raise Reg.TLY_EVENT_RINGWAIT 0

/-- Everything that waits for the ring is looked at. -/
def State.pumpRing (s : State) : State :=
  let s := s.pumpRoots s.tally.roots
  if s.tally.roots = [] then s.pumpStatements s.tally.queue else s

/-- With every closed batch signed, a REKEY_TALLY that waited is carried out (R356, R366). -/
def State.rekeyIfDue (s : State) : State :=
  if s.vault.rekey ∧ s.tally.unsigned = [] then s.rekeyTally else s

/-- The Vault has signed the oldest closed batch (R335): its root record, with free signature values (assumption 6). -/
def State.rootSigned (s : State) : State :=
  match s.tally.unsigned with
  | [] => s
  | b :: rest =>
    let head := rootHead b s.tally.prevRoot
    let (ec, s) := s.fresh 768
    let (ml, s) := s.fresh 26472
    let rec_ := head + ec <<< 1024 + ml <<< 1792
    ({ s with tally := { s.tally with unsigned := rest, signing := none, prevRoot := sha384 (leBytes 128 head), roots := s.tally.roots ++ [rec_] } }.useKey hTally).pumpRing.rekeyIfDue.signNext

/-! ## Statements (R332, R333, R336) -/

/-- HCLK in a number of milliseconds. -/
def State.msOf (s : State) (ms : Nat) : Nat := ms * s.cfg.rclk / 4

/-- The accuracy class of a span (R336). -/
def State.accClass (s : State) (gt0 gt1 : Nat) (ua : Bool) : Nat := if gt1 - gt0 < s.msOf 100 then 0 else if ua then 80 else 20

/-- Channels unanchored in some interval of a span (R333). -/
def Tally.chMask (y : Tally) (gt0 gt1 : Nat) : Nat := (y.unanch.filter (fun e => decide (gt0 < e.1 ∧ e.1 ≤ gt1))).foldl (fun m e => m ||| e.2) 0

/-- The 128 bytes of a statement (R333). -/
def State.statementData (s : State) (t num reqid seq sweep gt final auto_ : Nat) (e : TallyEntry) : Nat :=
  let te := s.tenantEntry t
  let short := flag (decide (gt - e.stGt < s.msOf 100))
  pack [(0, 16, 0x0302), (16, 1, flag e.ua), (17, 1, flag e.gap), (18, 1, final), (19, 1, auto_), (20, 1, short), (32, 12, t), (48, 16, (te.map (·.slice)).getD 0),
    (64, 32, (te.map (·.job)).getD 0), (96, 32, num), (128, 64, reqid), (192, 32, e.stSweep), (224, 32, sweep), (256, 64, e.stGt), (320, 64, gt),
    (384, 64, e.total - e.stBase), (448, 64, e.total), (512, 8, s.accClass e.stGt gt e.ua), (520, 8, s.tally.chMask e.stGt gt), (544, 32, seq)]

/-- Places of the statement queue taken (R332). -/
def Tally.reserved (y : Tally) : Nat := y.queue.length + y.requests.length

/-- A statement is built into a bank, and its tenant's baseline moves (R332, R333); one that is not a request needs a place in the queue, and a bank holds 64. -/
def State.buildStatement (s : State) (b : Bank) (t reqid : Nat) (final auto_ : Bool) : Bank × State :=
  if b.statements.length ≥ 64 ∨ ((final ∨ auto_) ∧ s.tally.reserved + b.statements.length ≥ 256) then (b, s.raise Reg.TLY_EVENT_QFULL 0)
  else
    let e := b.entry t
    let num := tgetD 0 t s.tally.stnums + 1
    let seq := s.tally.seq
    let st : Statement := { tenant := t, seq := seq, gt := b.t, data := s.statementData t num reqid seq b.sweep b.t (flag final) (flag auto_) e }
    ({ b with statements := b.statements ++ [st],
              entries := tput t { e with stBase := e.total, stSweep := b.sweep, stGt := b.t, ua := false, gap := false } b.entries },
     { s with tally := { s.tally with stnums := tput t num s.tally.stnums, seq := nextSkipZero 32 seq } })

/-- What a complete sweep sums per tenant, the Kiln's own counters among them (R328). -/
def Sweep.totals (w : Sweep) (counters : Table EnCounter) : Table (Nat × Bool) :=
  counters.foldl (fun t e =>
    match e.2.pending with
    | some p => if p.1 = w.number then (let o := tgetD (0, false) e.1 t; tput e.1 (o.1 + (p.2 - e.2.base), o.2 || e.2.ua) t) else t
    | none => t) w.sums

/-- The new bank of a complete sweep: totals, statements and baselines (R330, R332). -/
def State.writeBank (s : State) (w : Sweep) : State :=
  let old := s.tally.active
  let entries := (w.totals s.tally.counters).foldl (fun t e =>
    let o := tgetD old.rest e.1 t
    tput e.1 { o with total := o.total + e.2.1, ua := o.ua || e.2.2, coUa := o.coUa || e.2.2 } t) old.entries
  let b : Bank := { old with sweep := w.number, t := w.t, entries := entries, statements := [] }
  let (b, s) : Bank × State := match w.want.tenant with
    | none =>
      ((s.cfg.tenants.filter (fun e => e.valid && !e.standby && s.on Reg.TEN_TLY_CTRL_AUTO e.tenant)).map (·.tenant)).foldl
        (fun (acc : Bank × State) t => acc.2.buildStatement acc.1 t 0 false true) (b, s)
    | some t =>
      if w.want.purpose = 0 then s.buildStatement b t (((s.tally.requests.find? (fun q => q.1 == t)).map (·.2)).getD 0) false false
      else if w.want.purpose = 3 then s.buildStatement b t 0 true false
      else
        let e := b.entry t
        ({ b with entries := tput t { e with coBase := e.total, coSweep := w.number, coGt := w.t, coUa := false } b.entries }, s)
  { s with tally := { s.tally with banks := s.tally.banks.set (1 - s.tally.bank) b, flipDue := true } }

/-- A committed statement shows in its tenant's registers, and its request ends (R332, R341). -/
def State.issueStatement (s : State) (x : Statement) : State :=
  let s := s.setAll x.tenant [(Reg.TEN_TLY_LAST_ENERGY, bits x.data 384 64), (Reg.TEN_TLY_LAST_STNUM, bits x.data 96 32), (Reg.TEN_TLY_LAST_SWTO, bits x.data 224 32),
    (Reg.TEN_TLY_LAST_ACCCLASS, bits x.data 512 8), (Reg.TEN_TLY_LAST_UNANCHORED, bits x.data 16 1), (Reg.TEN_TLY_LAST_GAP, bits x.data 17 1)]
  { s with tally := { s.tally with queue := s.tally.queue ++ [x] } }

/-- What a single-tenant sweep was for goes on once it is committed: the statement's request ends, and the Colophon is put to the Vault (R297, R332). -/
def State.sweepServed (s : State) (w : Sweep) (old : TallyEntry) (new : TallyEntry) : State :=
  match w.want.tenant with
  | none => s
  | some t =>
    if w.want.purpose = 0 then
      { s with tally := { s.tally with requests := s.tally.requests.filter (fun q => q.1 != t) } }.setAll t [(Reg.TEN_TLY_STATUS_BUSY, 0), (Reg.TEN_TLY_STATUS_RESULT, 0)]
    else if w.want.purpose = 1 then
      match (s.ep t).colo with
      | none => s
      | some c =>
        if s.vaultServes = false then s.coloRefused t
        else
          let body := s.coloBody t c.a c.b 0 false (new.total - old.coBase) old.coSweep w.number
            (s.accClass old.coGt w.t (old.coUa || (tgetD (0, false) t (w.totals s.tally.counters)).2))
          (s.modEp t (fun x => { x with colo := some { c with swept := true, body := body } })).vaultAsk (.signColophon t false)
    else s

/-- The pointer flips to the full bank (R330, R331): statements are issued, every hub is told, and the Kiln's own BASE moves. In
PD_FLUSH the open batch then closes (R445). -/
def State.flipBank (s : State) : State :=
  if s.tally.flipDue = false then s
  else
    match s.tally.sweep with
    | none => s
    | some w =>
      let t := w.want.tenant.getD 0
      let old := s.tally.active.entry t
      let s := { s with tally := { s.tally with bank := 1 - s.tally.bank, flipDue := false } }
      let s := s.tally.active.statements.foldl (fun s x => s.issueStatement x) s
      let s := s.sweepServed w old (s.tally.active.entry t)
      let base := fun (_ : Nat) (c : EnCounter) =>
        match c.pending with
        | some p => if p.1 = w.number then { c with base := p.2, ua := false, pending := none } else c
        | none => c
      let s := { s with tally := { s.tally with sweep := none, counters := tmap base s.tally.counters } }
      let s := ((s.showSweep w 0).send (msgTlCommit false 0 w.number w.want.tenant.isSome t)).pumpRing
      (if s.pwr.state = .pdFlush ∧ w.want.tenant.isNone then s.closeBatch else s).kickSweeps

/-- A sweep is complete when every hub has reported and the Kiln's own interval is anchored (R328); its commit writes the inactive bank in full, and the
flip follows unless power is lost between (`flip`). -/
def State.tryCommit (s : State) (flip : Bool) : State :=
  match s.tally.sweep with
  | none => s
  | some w =>
    if w.await = [] ∧ w.anchored ∧ s.tally.flipDue = false then
      let s := s.writeBank w
      if flip then s.flipBank else s
    else s

/-- A system channel has written a job of the Tally ring (R334): TLY_RHEAD advances, and the bank forgets the statement. -/
def State.tallyWritten (s : State) (j : SysJob) : State :=
  { s with tally := s.tally.modActive (fun b => { b with statements := b.statements.filter (fun x => j.seq = 0 ∨ x.seq ≠ j.seq) }) }.set Reg.TLY_RHEAD_OFFSET 0 j.head

end Sys2Proof.Machine
end

