-- ==== Sys2Proof/Machine/StackOps.lean ====
section
/-! DEFINITION. The Stacker (R368–R390): streams and bursts, descriptors and their checks, channels, drops, halts and the arbiter. -/

namespace Sys2Proof.Machine

/-! ## Streams (R372, R376) -/

/-- Bytes of a stream. -/
def Stream.total (x : Stream) : Nat := x.len * x.lines

/-- Address of the byte at a stream offset. -/
def Stream.addr (x : Stream) (off : Nat) : Nat := (Int.ofNat x.base + Int.ofNat (off / x.len) * x.stride + Int.ofNat (off % x.len)).toNat

/-- Bytes of the burst that begins at a stream offset: within its line and a 256 B boundary of its address. -/
def Stream.burst (x : Stream) (off : Nat) : Nat := min (256 - x.addr off % 256) (x.len - off % x.len)

/-- SMP beats of 64 B that a range touches. -/
def beatsOf (addr n : Nat) : Nat := (addr % 64 + n + 63) / 64

/-- First and last addresses of every line (R374). -/
def Stream.ends (x : Stream) : List (Int × Int) :=
  (List.range x.lines).map (fun j => let a := Int.ofNat x.base + Int.ofNat j * x.stride; (a, a + Int.ofNat (x.len - 1)))

/-! ## Channels -/

/-- A channel. -/
def State.stkCh (s : State) (n : Nat) : StkCh := tgetD {} n s.stk.chans

/-- The state with a channel replaced. -/
def State.setStkCh (s : State) (n : Nat) (c : StkCh) : State := { s with stk := { s.stk with chans := tput n c s.stk.chans } }

/-- Tag of a channel; system channels have 0 (R368). -/
def State.stkTag (s : State) (n : Nat) : Nat := if n < 4 then 0 else s.get Reg.STK_CH_CTRL_TENANT n

/-- Priority of a channel (R368). -/
def State.stkPrio (s : State) (n : Nat) : Nat := if n < 4 then [0, 0, 2, 1].getD n 0 else s.get Reg.STK_CH_CTRL_PRIO n

/-- Windows that a channel may use (R375). -/
def State.stkWindows (s : State) (n : Nat) : List WindowEntry :=
  s.cfg.windows.filter (fun w => decide (n < 4) || (bit (s.get Reg.STK_CH_CTRL_WINMASK n) w.index && (s.stkTag n == 0 || w.tenant == s.stkTag n)))

/-- A byte range lies inside one window that permits the direction (R374, R375). -/
def State.stkAllows (s : State) (n : Nat) (write : Bool) (lo hi : Int) : Bool :=
  (s.stkWindows n).any (fun w => (if write then w.write else w.read) && decide (Int.ofNat w.base ≤ lo ∧ hi < Int.ofNat (w.base + w.size)))

/-! ## Descriptors (R369) -/

/-- A descriptor of 512 bits, decoded. -/
def StkDesc.ofWord (x : Nat) : StkDesc :=
  let src : Stream := { space := bits x 48 4, base := bits x 0 48, len := bits x 192 16 + 1, lines := bits x 224 16, stride := signed 32 (bits x 256 32) }
  let dst : Stream := { space := bits x 112 4, base := bits x 64 48, len := bits x 208 16 + 1, lines := bits x 240 16, stride := signed 32 (bits x 288 32) }
  { op := if bits x 384 2 = 1 then .fill else if bits x 384 2 = 2 then .compare else .copy, src := src, dst := dst, next := bits x 128 48,
    pattern := bits x 320 64, end_ := bit x 386, pulse := bit x 387, flush := bit x 388, stopmis := bit x 389, tag := bits x 416 32 }

/-- Bytes of a descriptor's stream (R372). -/
def StkDesc.total (d : StkDesc) : Nat := d.dst.total

/-- An address of space 1 names no area, or has a bit set between its selector and its field (R370). -/
def areaReserved (a : Nat) : Bool :=
  match bits a 40 8 with
  | 0 => bits a 27 13 != 0
  | 1 => bits a 30 10 != 0
  | 2 => bits a 24 16 != 0
  | _ => true

/-- A reserved field or bit is non-zero, OP is 3, or a space is reserved (R369, R371, R374). SRC is ignored for FILL. -/
def descReserved (x : Nat) (d : StkDesc) : Bool :=
  bits x 384 2 == 3 || bits x 390 10 != 0 || bits x 400 16 != 0 || bits x 448 64 != 0
    || (!d.end_ && (bits x 128 6 != 0 || bits x 176 16 != 0)) || (d.op != .fill && (d.pattern != 0 || bits x 52 12 != 0 || decide (2 ≤ d.src.space) || (d.src.space == 1 && areaReserved d.src.base)))
    || bits x 116 12 != 0 || decide (2 ≤ d.dst.space) || (d.dst.space == 1 && (decide (bits d.dst.base 40 8 ≤ 1) || areaReserved d.dst.base))

/-- The error code of a descriptor fetched from `addr`, 0 for none: the first failing row decides (R374). -/
def State.descCheck (s : State) (n addr x : Nat) : Nat :=
  let d := StkDesc.ofWord x
  let rd := d.op != .fill
  let inRange := fun (t : Stream) => decide (0 < t.lines) && t.ends.all (fun e => decide (0 ≤ e.1 ∧ e.2 < 2 ^ 48))
  let allowed := fun (t : Stream) (w : Bool) => t.space != 0 || t.ends.all (fun e => s.stkAllows n w e.1 e.2)
  if descReserved x d then 1
  else if rd ∧ d.src.total ≠ d.dst.total then 2
  else if (rd && !inRange d.src) || !inRange d.dst then 3
  else if (rd && !allowed d.src false) || !allowed d.dst (d.op != .compare) then 4
  else if (rd && d.src.space == 1) || d.dst.space == 1 then 5
  else if addr % 64 ≠ 0 ∨ s.stkAllows n false (Int.ofNat addr) (Int.ofNat (addr + 63)) = false then 6
  else 0

/-! ## Starting and stopping -/

/-- Data in flight for a channel is no longer wanted (R378). -/
def State.stkForget (s : State) (n : Nat) : State :=
  { s with stk := { s.stk with reads := s.stk.reads.map (fun (r : StkRead) => if r.ch = n then { r with dead := true } else r) } }

/-- Progress counts become undefined (R378, R390): free values (assumption 6). -/
def State.stkCountsFree (s : State) (n : Nat) : State :=
  let (v, s) := s.fresh 160
  s.setAll n [(Reg.STK_CH_PROG_DESCS, bits v 0 32), (Reg.STK_CH_PROG_BYTES, bits v 32 64), (Reg.STK_CH_PROG_CMPOFF, bits v 96 32), (Reg.STK_CH_PROG_CMPCNT, bits v 128 32)]

/-- A channel goes to IDLE dropped (R378); a system channel's work stays with its Kiln unit. -/
def State.stkDropCh (s : State) (n : Nat) : State :=
  let c := s.stkCh n
  let s : State := match c.job with
    | some j => { s with sys := tput n (j :: tgetD [] n s.sys) s.sys }
    | none => s
  (((s.setStkCh n { gen := c.gen + 1 }).stkForget n).set Reg.STK_CH_STATUS_DROPPED n 1).stkCountsFree n

/-- Channels tagged by a test that are not IDLE are dropped; their PENDGO is cleared and the GO lost (R384). -/
def State.stkDropWhere (s : State) (test : Nat → Bool) : State :=
  let l := (List.range 32).filter (fun n => decide (4 ≤ n) && test (s.stkTag n))
  l.foldl (fun s n =>
    let s := s.set Reg.STK_CH_STATUS_PENDGO n 0
    if (s.stkCh n).st = .idle then s else (s.stkDropCh n).raise Reg.STK_EVENT_DROP 0) s

/-- Channels tagged with a tenant are dropped at the seal of its reset (R190, R384). -/
def State.stackerDrop (s : State) (t : Nat) : State := s.stkDropWhere (· == t)

/-- Rung 4 and HRSTB drop every channel tagged with a non-zero tenant (R232, R384). -/
def State.stackerDropTagged (s : State) : State := s.stkDropWhere (· != 0)

/-- A prepared STACKER_DROP holds a tenant's channels (R184, R384). -/
def State.stkHeld (s : State) (t : Nat) : Bool :=
  s.fl.units.any (fun e => e.1 == unitPart 1 && e.2.acts.any (fun a => a.act == 0x11 && a.tenant == t))

/-- A general channel starts: the progress fields are cleared, and its first descriptor is to be fetched (R378). -/
def State.stkStart (s : State) (n : Nat) : State :=
  let c := s.stkCh n
  let s := s.setAll n [(Reg.STK_CH_STATUS_ERRCODE, 0), (Reg.STK_CH_STATUS_MISMATCH, 0), (Reg.STK_CH_STATUS_DROPPED, 0), (Reg.STK_CH_STATUS_PENDGO, 0),
    (Reg.STK_CH_PROG_CURDESC, 0), (Reg.STK_CH_PROG_TAG, 0), (Reg.STK_CH_PROG_DESCS, 0), (Reg.STK_CH_PROG_BYTES, 0), (Reg.STK_CH_PROG_CMPOFF, 0xFFFFFFFF),
    (Reg.STK_CH_PROG_CMPCNT, 0)]
  s.setStkCh n { st := .fetch, at_ := 64 * s.get Reg.STK_CH_DESC_ADDR n, gen := c.gen + 1 }

/-- GO on a general channel (R378, R381, R382, R384, R388). -/
def State.stkGo (s : State) (n : Nat) : State :=
  if s.on Reg.STK_CTRL_EN 0 = false ∨ s.on Reg.STK_STATUS_HALTED 0 then s
  else
    let st := (s.stkCh n).st
    if st = .idle ∨ st = .error ∨ st = .halted then (if s.stkHeld (s.stkTag n) then s.set Reg.STK_CH_STATUS_PENDGO n 1 else s.stkStart n)
    else s.raise Reg.STK_EVENT_GOBUSY 0

/-- At a void each pending GO starts its channel, unless another reset still holds it (R384). -/
def State.stackerVoid (s : State) : State :=
  ((List.range 32).filter (fun n => s.on Reg.STK_CH_STATUS_PENDGO n && !s.stkHeld (s.stkTag n))).foldl (fun s n => (s.set Reg.STK_CH_STATUS_PENDGO n 0).stkGo n) s

/-- Kiln units give work to system channels that are free, or start again what a halt or a disable left (R381, R383). -/
def State.kickSys (s : State) : State :=
  if s.on Reg.STK_CTRL_EN 0 = false ∨ s.on Reg.STK_STATUS_HALTED 0 then s
  else
    [0, 1, 2].foldl (fun (s : State) n =>
      let c := s.stkCh n
      if c.st = .idle ∨ c.st = .halted then
        let (job, s) : Option SysJob × State := match c.job, tgetD [] n s.sys with
          | some j, _ => (some j, s)
          | none, j :: rest => (some j, { s with sys := tput n rest s.sys })
          | none, [] => (none, s)
        match job with
        | none => s
        | some j =>
          let dst : Stream := { base := j.addr, len := max 1 j.len }
          let d : StkDesc := { dst := dst, flush := true }
          let data := if j.src.isSome then [] else leBytes j.len j.data
          s.setStkCh n { st := .run, desc := d, rdPos := data.length, buf := data, bufEnd := data.length, job := some j, gen := c.gen + 1 }
      else s) s

/-! ## Bus errors (R382) -/

/-- A bus error: every channel but those IDLE or in ERROR halts, the first failing request is recorded, and STACKER_BUS is raised. -/
def State.busError (s : State) (cause ch addr tag : Nat) : State :=
  let s := if s.on Reg.STK_STATUS_HALTED 0 then s
    else s.setAll 0 [(Reg.STK_STATUS_HALTED, 1), (Reg.STK_STATUS_HCH, ch), (Reg.STK_STATUS_HCAUSE, cause), (Reg.STK_HALTADDR_ADDR, addr), (Reg.STK_HALTADDR_TAG, tag)]
  let s := (List.range 32).foldl (fun (s : State) n =>
    let c := s.stkCh n
    if c.st = .idle ∨ c.st = .error then s else (s.setStkCh n { c with st := .halted, asked := false }).stkForget n) s
  ((s.raise Reg.STK_EVENT_BUSERR 0).kilnFault 0x1C ch 0x601 (s.stkTag ch) addr).event 14

/-! ## Completion (R378–R380) -/

/-- STK_DONE of a channel. -/
def State.stkPulse (s : State) (n : Nat) : State := s.emit (.stkDone n)

/-- The work of a channel whose descriptor and flush read are complete: the next descriptor, or IDLE. -/
def State.stkNext (s : State) (n : Nat) : State :=
  let c := s.stkCh n
  if c.desc.end_ ∨ c.stopped then s.setStkCh n { gen := c.gen + 1 }
  else s.setStkCh n { st := .fetch, at_ := c.desc.next, gen := c.gen + 1 }

/-- A descriptor is complete (R378). -/
def State.stkDescDone (s : State) (n : Nat) : State :=
  let c := s.stkCh n
  let s := s.bump Reg.STK_CH_PROG_DESCS n 1
  if c.desc.flush then (s.setStkCh n { c with st := .flush, asked := false }).stkForget n
  else
    let s := s.stkForget n
    let s := if c.desc.pulse ∨ c.desc.end_ ∨ c.stopped then s.stkPulse n else s
    s.stkNext n

/-! ## Writes (R376, R386) -/

/-- The beats of a write burst: data and strobes on the 64 B lanes, with the bytes of each. -/
def writeBeats (addr : Nat) (data : List Nat) : List (Nat × Nat × Nat) :=
  (List.range (beatsOf addr data.length)).map (fun i =>
    let lo := if i = 0 then addr % 64 else 0
    let from_ := if i = 0 then 0 else 64 * i - addr % 64
    let l := (data.drop from_).take (64 - lo)
    (pack (l.zipIdx.map (fun e => (8 * (lo + e.2), 8, e.1))), (2 ^ l.length - 1) <<< lo, l.length))

/-- A write request is accepted against a request credit (R386). -/
def State.stkWrite (s : State) (n addr : Nat) (data : List Nat) (last : Bool) : State :=
  let k := s.stk
  let w : StkWrite := { tag := k.wrTag, ch := n, gen := (s.stkCh n).gen, addr := addr, beats := writeBeats addr data, last := last }
  let k := { k with writes := k.writes ++ [w], rqCred := k.rqCred - 1, wrTag := if k.wrTag = 255 then 64 else k.wrTag + 1, wrAddr := tput w.tag (n, addr) k.wrAddr }
  { s with stk := k }.emit (.smpRq true w.tag (addr - addr % 64) (beatsOf addr data.length - 1))

/-- Write bursts of a channel leave in stream order while their data and request credits are there; a global stop starts none (R376, R377, R388). -/
def State.pumpWrites (s : State) (n : Nat) : Nat → State
  | 0 => s
  | fuel + 1 =>
    let c := s.stkCh n
    let k := c.desc.dst.burst c.wrPos
    if c.st = .run ∧ c.desc.op = .copy ∧ c.wrPos < c.desc.total ∧ k ≤ c.buf.length ∧ 0 < s.stk.rqCred ∧ s.stopped = false then
      let s := s.stkWrite n (c.desc.dst.addr c.wrPos) (c.buf.take k) (c.wrPos + k == c.desc.total)
      State.pumpWrites (s.setStkCh n { c with buf := c.buf.drop k, wrPos := c.wrPos + k }) n fuel
    else s

/-- Every channel's write bursts are looked at. -/
def State.pumpAll (s : State) : State := (List.range 32).foldl (fun s n => s.pumpWrites n 64) s

/-! ## Compares (R373) -/

/-- Stream offsets of the bytes that differ, from offset `p` on. -/
def diffs (p : Nat) (a b : List Nat) : List Nat :=
  ((List.zip a b).zipIdx.filter (fun e => e.1.1 != e.1.2)).map (fun e => p + e.2)

/-- Bursts of the source stream whose bytes of both streams are here are compared. With STOPMIS the chain ends at the end of the first that differs. -/
def State.pumpCompare (s : State) (n : Nat) : Nat → State
  | 0 => s
  | fuel + 1 =>
    let c := s.stkCh n
    let k := c.desc.src.burst c.wrPos
    if c.st = .run ∧ c.desc.op = .compare ∧ c.wrPos < c.desc.total ∧ k ≤ c.buf.length ∧ k ≤ c.buf2.length then
      let ds := diffs c.wrPos (c.buf.take k) (c.buf2.take k)
      let units := ((ds.map (· / 64)).eraseDups).filter (fun u => some u != c.cmpUnit)
      let s := s.bump Reg.STK_CH_PROG_BYTES n k
      let s : State := match ds with
        | [] => s
        | d :: _ =>
          let s := if s.get Reg.STK_CH_PROG_CMPOFF n = 0xFFFFFFFF then s.set Reg.STK_CH_PROG_CMPOFF n d else s
          ((s.bumpSat Reg.STK_CH_PROG_CMPCNT n units.length).set Reg.STK_CH_STATUS_MISMATCH n 1).raise Reg.STK_EVENT_MISMATCH 0
      let c' : StkCh := { c with buf := c.buf.drop k, buf2 := c.buf2.drop k, wrPos := c.wrPos + k, cmpUnit := (units.reverse.head?).orElse (fun _ => c.cmpUnit),
                                 stopped := c.desc.stopmis && !ds.isEmpty }
      let s := s.setStkCh n c'
      if c'.stopped ∨ c'.wrPos = c'.desc.total then s.stkDescDone n else State.pumpCompare s n fuel
    else s

/-! ## Reads (R376) -/

/-- The stream data that has come joins the contiguous run it continues. -/
def joinData : Nat → Table (List Nat) → List Nat → Nat → Table (List Nat) × List Nat × Nat
  | 0, t, buf, e => (t, buf, e)
  | fuel + 1, t, buf, e =>
    match tget e t with
    | some d => joinData fuel (tdel e t) (buf ++ d) (e + d.length)
    | none => (t, buf, e)

/-- A read's data arrives whole for a channel that wants it: a descriptor, stream data, or the flush read's. -/
def State.stkData (s : State) (r : StkRead) (data : List Nat) (word : Nat) : State :=
  let n := r.ch
  let c := s.stkCh n
  match r.kind with
  | .desc =>
    let code := s.descCheck n r.addr word
    if code ≠ 0 then ((s.setStkCh n { st := .error, gen := c.gen + 1 }).set Reg.STK_CH_STATUS_ERRCODE n code).raise Reg.STK_EVENT_DESCERR 0
    else
      let d := StkDesc.ofWord word
      (s.setStkCh n { st := .run, desc := d, at_ := r.addr, gen := c.gen + 1 }).setAll n
        [(Reg.STK_CH_PROG_CURDESC, r.addr), (Reg.STK_CH_PROG_TAG, d.tag), (Reg.STK_CH_PROG_BYTES, 0)]
  | .src =>
    let (t, buf, e) := joinData 64 (tput r.pos data c.late) c.buf c.bufEnd
    ((s.setStkCh n { c with late := t, buf := buf, bufEnd := e }).pumpWrites n 64).pumpCompare n 64
  | .dst =>
    let (t, buf, e) := joinData 64 (tput r.pos data c.late2) c.buf2 c.bufEnd2
    (s.setStkCh n { c with late2 := t, buf2 := buf, bufEnd2 := e }).pumpCompare n 64
  | .flush =>
    let s := if c.desc.pulse ∨ c.desc.end_ ∨ c.stopped then s.stkPulse n else s
    s.stkNext n

/-! ## The arbiter (R377) -/

/-- The `k`th permutation of a list, in factorial digits. -/
def permute : Nat → Nat → List Nat → List Nat
  | 0, _, _ => []
  | _ + 1, _, [] => []
  | fuel + 1, k, l =>
    let i := k % l.length
    l.getD i 0 :: permute fuel (k / l.length) (l.eraseIdx i)

/-- Levels of the fifteen grant slots, in the order that Config leaves open (assumption 60). -/
def slotPattern : List Nat := permute 15 Config.slotOrder [0, 0, 0, 0, 0, 0, 0, 0, 1, 1, 1, 1, 2, 2, 3]

/-- Read bursts of a channel in flight. -/
def State.stkInFlight (s : State) (n : Nat) : Nat := (s.stk.reads.filter (fun r => r.ch == n)).length

/-- The source read that a channel would start next: address or hub offset, and bytes; a run of a hub's ring comes at most seven flits at a time (R371). -/
def StkCh.nextSrc (c : StkCh) : Option Nat × Nat × Nat :=
  match c.job.bind (·.src) with
  | some (r, off) => (some r, (off + c.rdPos) % 65536, min 112 (min (c.desc.total - c.rdPos) (65536 - (off + c.rdPos) % 65536)))
  | none => (none, c.desc.src.addr c.rdPos, c.desc.src.burst c.rdPos)

/-- What a channel waits to start: the kind of read, or with none a write of FILL. -/
def State.stkWants (s : State) (n : Nat) : Option (Option StkReadKind) :=
  let c := s.stkCh n
  let room := decide (s.stkInFlight n < 8 ∧ s.stk.reads.length < 64)
  let cred := decide (0 < s.stk.rqCred)
  match c.st with
  | .fetch => if c.asked = false ∧ room ∧ cred then some (some .desc) else none
  | .flush => if c.asked = false ∧ room ∧ cred then some (some .flush) else none
  | .run =>
    (match c.desc.op with
     | .fill => if c.wrPos < c.desc.total ∧ cred then some none else none
     | .copy => if c.rdPos < c.desc.total ∧ room ∧ (cred ∨ c.nextSrc.1.isSome) then some (some .src) else none
     | .compare =>
       if room = false ∨ cred = false then none
       else if c.rdPos < c.desc.total ∧ c.rdPos ≤ c.rdPos2 then some (some .src)
       else if c.rdPos2 < c.desc.total then some (some .dst)
       else none)
  | _ => none

/-- The level that a slot serves: its own, the next lower-numbered one that waits, else the next higher-numbered. -/
def slotLevel (waiting : Nat → Bool) (l : Nat) : Option Nat :=
  (((List.range (l + 1)).reverse ++ (List.range (4 - (l + 1))).map (fun i => l + 1 + i)).find? waiting)

/-- The waiting channel of a level, in round-robin order from the one after the last served. -/
def State.stkPick (s : State) (level : Nat) : Option Nat :=
  let from_ := s.stk.lastCh.getD level 31 + 1
  ((List.range 32).map (fun i => (from_ + i) % 32)).find? (fun n => s.stkPrio n == level && (s.stkWants n).isSome)

/-- A read tag that no read in flight holds. -/
def Stacker.freeTag (k : Stacker) : Nat := ((List.range 64).find? (fun t => !k.reads.any (fun r => r.tag == t))).getD 0

/-- A read burst starts on the SMP, or on the Flue for a hub's ring. -/
def State.stkRead (s : State) (n : Nat) (kind : StkReadKind) (pos addr len : Nat) (region : Option Nat) : State :=
  let tag := s.stk.freeTag
  let r : StkRead := { tag := tag, ch := n, kind := kind, pos := pos, addr := addr, n := len, region := region }
  let s := { s with stk := { s.stk with reads := s.stk.reads ++ [r] } }
  match region with
  | some g => s.send (msgSkRead g tag 0 addr ((len + 15) / 16))
  | none => ({ s with stk := { s.stk with rqCred := s.stk.rqCred - 1 } }).emit (.smpRq false tag (addr - addr % 64) (beatsOf addr len - 1))

/-- A FILL burst (R373): every byte at address a is byte a mod 8 of PATTERN. -/
def fillData (pattern addr n : Nat) : List Nat := (List.range n).map (fun i => bits pattern (8 * ((addr + i) % 8)) 8)

/-- A channel is granted its burst start. -/
def State.stkGrant (s : State) (n : Nat) : State :=
  let c := s.stkCh n
  match s.stkWants n with
  | none => s
  | some none =>
    let addr := c.desc.dst.addr c.wrPos
    let k := c.desc.dst.burst c.wrPos
    (s.stkWrite n addr (fillData c.desc.pattern addr k) (c.wrPos + k == c.desc.total)).setStkCh n { c with wrPos := c.wrPos + k }
  | some (some .desc) => (s.setStkCh n { c with asked := true }).stkRead n .desc 0 c.at_ 64 none
  | some (some .flush) =>
    let a := c.desc.dst.addr (c.desc.total - 1)
    (s.setStkCh n { c with asked := true }).stkRead n .flush 0 (a - a % 64) 64 none
  | some (some .src) =>
    let (g, a, k) := c.nextSrc
    (s.setStkCh n { c with rdPos := c.rdPos + k }).stkRead n .src c.rdPos a k g
  | some (some .dst) =>
    let k := c.desc.dst.burst c.rdPos2
    (s.setStkCh n { c with rdPos2 := c.rdPos2 + k }).stkRead n .dst c.rdPos2 (c.desc.dst.addr c.rdPos2) k none

end Sys2Proof.Machine
end

