-- ==== Sys2Proof/Machine/RecoveryOps.lean ====
section
/-! DEFINITION. The recovery sequencer at the Kiln (R221, R227–R229, R233, R234, R236–R238): engines and partitions, the ladder, orders,
grants and the closing of a case. -/

namespace Sys2Proof.Machine

/-- Engine of a region: its ENGINE entry's, else its region row (R221). -/
def State.engineOf (s : State) (r : Nat) : Nat :=
  match s.cfg.engines.find? (fun e => e.regions.contains r) with
  | some e => e.engine
  | none => (s.gridOf r).2

/-- Partition of a region: its ENGINE entry's, else 0 (R221). -/
def State.partitionOf (s : State) (r : Nat) : Nat :=
  match s.cfg.engines.find? (fun e => e.regions.contains r) with
  | some e => e.partition
  | none => 0

/-- The region of the first trip, where no suspect names one. -/
def KRcv.orTrip (c : KRcv) (l : List Nat) : List Nat := if l = [] ∧ c.trip then [c.tripRegion] else l

/-- Regions of the case: those that its suspects name, or the region of the first trip (R228). -/
def KRcv.regions (c : KRcv) : List Nat := c.orTrip (c.suspects.map (fun x => x.2.1)).eraseDups

/-- Regions of the suspects that are neither released nor passed: what the next rung covers (R229, R234). -/
def KRcv.openRegions (c : KRcv) : List Nat :=
  c.orTrip ((c.suspects.filter (fun x => x.2.2 != .released && x.2.2 != .passed)).map (fun x => x.2.1)).eraseDups

/-- Engines of the case's regions. -/
def State.caseEngines (s : State) : List Nat := (s.rcv.regions.map s.engineOf).eraseDups

/-- Regions in the scope of a rung (R228). -/
def State.rungScope (s : State) (rung : Nat) : List Nat :=
  let all := List.range s.regionCount
  let regs := s.rcv.openRegions
  if rung ≤ 1 then regs
  else if rung = 2 then all.filter (fun r => (regs.map s.engineOf).contains (s.engineOf r))
  else if rung = 3 then all.filter (fun r => (regs.map s.partitionOf).contains (s.partitionOf r))
  else all

/-- The suspects of a region. -/
def KRcv.suspectsOf (c : KRcv) (r : Nat) : List Nat := (c.suspects.filter (fun x => x.2.1 == r)).map (·.1)

/-- Every hub that has a suspect of a tenant is told to grant, park or release it (R233, R241). -/
def State.tellSuspects (s : State) (tenant code : Nat) : State :=
  s.sendAll (((s.rcv.suspects.filter (fun x => x.1 == tenant)).map (fun x => x.2.1)).eraseDups.map (fun r => msgRcvGrant r tenant code))

/-- Set the state of every suspect of a tenant. -/
def KRcv.mark (c : KRcv) (tenant : Nat) (st : SuspectState) : KRcv :=
  { c with suspects := c.suspects.map (fun x => if x.1 = tenant then (x.1, x.2.1, st) else x) }

/-- Suspect tenants of the case that are neither passed, guilty nor released, ascending and once each. -/
def KRcv.toGrant (c : KRcv) : List Nat :=
  (List.range 4096).filter (fun t => c.suspects.any (fun x => x.1 == t && x.2.2 == .parked))

/-- A reset at rung 5 (R238): a forced Ledger flush, then TRAY_PCREQ; heartbeats stop (R239). -/
def State.rung5 (s : State) : State :=
  (({ s with rcv := { s.rcv with rung := 5, highest := 5, st := .reset }, ldg := { s.ldg with foldOpen := false, flushing := true } }.raise
    Reg.RCV_EVENT_POWER 0).raise Reg.LDG_CTRL_FLUSH 0).trayRequest 2

/-- Suspects named by a WD_SET join the case (R227). -/
def KRcv.join (c : KRcv) (e : Nat × List Nat × Bool) : KRcv :=
  let add := (e.2.1.filter (fun t => !c.suspects.any (fun x => x.1 == t && x.2.1 == e.1))).map (fun t => (t, e.1, SuspectState.parked))
  { c with suspects := c.suspects ++ add, more := c.more || e.2.2 }

/-- The WD_SETs of a region that came before their WATCHDOG, or waited with it, join the case. -/
def State.joinSets (s : State) (region : Nat) : State :=
  let c := (s.rcv.sets.filter (fun e => e.1 == region)).foldl KRcv.join s.rcv
  { s with rcv := { c with sets := c.sets.filter (fun e => e.1 != region) } }

/-- Contexts that a WD_SET names are released, where no case has them: their WATCHDOG opens none (R224, R227). -/
def State.releaseSet (s : State) (e : Nat × List Nat × Bool) : State :=
  s.sendAll ((e.2.1.filter (fun t => !s.rcv.suspects.any (fun x => x.1 == t && x.2.1 == e.1))).map (fun t => msgRcvGrant e.1 t 2))

/-- The WD_SETs of some regions are released. -/
def State.releaseSets (s : State) (regions : List Nat) : State :=
  let s := (s.rcv.sets.filter (fun e => regions.contains e.1)).foldl (fun s e => s.releaseSet e) s
  { s with rcv := { s.rcv with sets := s.rcv.sets.filter (fun e => !regions.contains e.1) } }

/-- The UNIT notice of a WATCHDOG reaction (R229): the tripping tenant, the region of the first trip, the starting rung, the suspects and the case. -/
def State.unitNoticeOf (s : State) (rid : Nat) : State :=
  match s.reaction rid with
  | some r => (s.setReact { r with htag := wrap 8 s.rcv.case }).writeNotices rid [(6, s.rcv.tripTenant, s.rcv.tripRegion, pack [(0, 3, s.rcv.startRung), (3, 7, s.rcv.nsus)])]
  | none => s

/-- The UNIT notices of a case that leaves collection (R229). -/
def State.unitNotice (s : State) : State := s.rcv.rids.foldl (fun s rid => s.unitNoticeOf rid) s

/-- A WATCHDOG whose case never opens (R227): its reaction's notice, and the end of its HANDLING. -/
def State.endWatchdog (s : State) (rid tenant region : Nat) : State :=
  (s.writeNotices rid [(6, tenant, region, 0)]).endHandling rid

/-- WATCHDOGs that wait are discarded where a reset of this case covers their region (R227). -/
def State.discardWaiting (s : State) (scope : List Nat) : State :=
  let gone := s.rcv.waiting.filter (fun w => scope.contains w.2.2.2)
  let s : State := { s with rcv := { s.rcv with waiting := s.rcv.waiting.filter (fun w => !scope.contains w.2.2.2) } }
  let s := s.releaseSets (gone.map (fun w => w.2.2.2))
  gone.foldl (fun s w => s.endWatchdog w.2.1 w.2.2.1 w.2.2.2) s

/-- A rung is taken (R229, R230): T_r is 256 HCLK from now; RCV_ORDER goes to every hub of the scope with its suspects at rung 1. Rung 5 is the
power cycle. -/
def State.takeRung (s : State) (rung : Nat) : State :=
  if rung ≥ 5 then ({ s with rcv := { s.rcv with highest := 5 } }.logCase 4 0).rung5
  else
    let t := s.gt + 256
    let scope := s.rungScope rung
    let s := { s with rcv := { s.rcv with st := .reset, rung := rung, highest := max s.rcv.highest rung, scope := scope, doneFrom := [], instant := t,
                                          armed := decide (3 ≤ rung), granted := none } }
    let s : State := match rung with
      | 2 => s.raise Reg.RCV_EVENT_ENGINE 0
      | 3 => s.raise Reg.RCV_EVENT_PART 0
      | 4 => s.raise Reg.RCV_EVENT_CHIP 0
      | _ => s
    let dropped := if rung = 1 then (s.rcv.suspects.map (·.1)).eraseDups
      else ((scope.flatMap s.tenantsOfRegion).eraseDups)
    let s := dropped.foldl (fun s t => s.epochDiscard t) s
    let s := if rung = 1 then s else s.discardWaiting scope
    s.sendAll ((scope.filter (fun r => !s.lost.contains r)).map (fun r =>
      msgRcvOrder r rung s.rcv.case t (if rung = 1 then s.rcv.suspectsOf r else [])))

/-- A case opens (R227, R229). -/
def State.openCase (s : State) (fseq : Nat) (rids : List Nat) (tenant region : Nat) (st : RcvState) : State :=
  { s with rcv := { s.rcv with st := st, rung := 0, startRung := 0, case := nextSkipZero 16 s.rcv.case, fseq := fseq, rids := rids, trip := st == RcvState.collect, tripTenant := tenant,
                               tripRegion := region, gtOpen := s.gt, suspects := [], more := false, highest := 0, granted := none, parkruns := 0 } }.raise
    Reg.RCV_EVENT_CASE 0

/-- The case closes (R229): suspects are released, the rung is recorded for its engines where `ladder` gives one, the WATCHDOG reactions'
handling ends, and a WATCHDOG that waited opens the next case (R227). -/
def State.closeCase (s : State) (result guilty : Nat) (ladder : Option Nat) : State :=
  let s := s.logCase result guilty
  let tenants := (s.rcv.suspects.map (·.1)).eraseDups
  let s := tenants.foldl (fun s t => s.tellSuspects t 2) s
  let s : State := match ladder with
    | some rung => { s with rcv := { s.rcv with ladder := s.caseEngines.foldl (fun t e => tput e (rung, s.gt) t) s.rcv.ladder } }
    | none => s
  let rids := s.rcv.rids
  let s := { s with rcv := { s.rcv with st := .idle, rung := 0, granted := none, armed := false, rids := [], suspects := s.rcv.suspects.map (fun (x : Nat × Nat × SuspectState) =>
              if x.2.2 = SuspectState.parked ∨ x.2.2 = SuspectState.granted then (x.1, x.2.1, .released) else x) } }
  let s := rids.foldl (fun s rid => s.endHandling rid) s
  match s.rcv.waiting with
  | [] => s
  | (fseq, rid, tenant, region) :: rest =>
    let s := (s.openCase fseq (if rid = 0 then [] else [rid]) tenant region .collect).joinSets region
    { s with rcv := { s.rcv with waiting := rest } }

/-- Grant the lowest-numbered suspect tenant that is still to run, and park the others; with none left the case is released (R229, R233). -/
def State.grantNext (s : State) : State :=
  match s.rcv.toGrant with
  | [] => s.closeCase 0 0 (some 1)
  | t :: _ =>
    let s := { s with rcv := { (s.rcv.mark t .granted) with st := .replay, granted := some t, grantGt := s.gt } }
    let others := ((s.rcv.suspects.filter (fun x => x.2.2 == .parked)).map (·.1)).eraseDups
    others.foldl (fun s u => s.tellSuspects u 1) (s.tellSuspects t 0)

/-- The highest rung recorded within the ladder window for an engine of the case (R228); 0 with none. -/
def State.ladderRung (s : State) : Nat :=
  let win := s.get Reg.RCV_LADDER_WINSEC 0 * s.cfg.rclk * 250
  s.caseEngines.foldl (fun m e => match tget e s.rcv.ladder with
    | some (rung, gt) => if win ≠ 0 ∧ s.gt ≤ gt + win then max m rung else m
    | none => m) 0

/-- An L2 reaction that no hang case raised: the sequencer resets the chip (R229, R237, R240). -/
def State.chipCase (s : State) (fseq : Nat) : State :=
  if s.rcv.st = .idle then (s.openCase fseq [] 0 0 .reset).takeRung 4
  else if s.rcv.st = .reset ∧ s.rcv.rung ≥ 4 then s
  else if s.rcv.st = .collect then (({ s with rcv := { s.rcv with startRung := 4 } }).unitNotice).takeRung 4
  else s.takeRung 4

/-- L2 reactions that have started go to the sequencer; during bring-up the start is refused instead (R237, R422). -/
def State.runL2 (s : State) : List Nat → State
  | [] => s
  | rid :: rest =>
    let s := if s.bru.inBringUp then s.bruRefuse 0x60 0
      else match s.reaction rid with
        | some r => s.chipCase r.fseq
        | none => s
    s.runL2 rest

/-- QUEUED reactions that may start do, and the L2s among them reset the chip (R212, R237). -/
def State.kickQueue (s : State) : State :=
  let (s, l) := s.startQueued
  s.runL2 l

/-- The chip reset completes for every L2 in HANDLING, whatever its cause (R236). -/
def State.l2Done (s : State) : State :=
  ((s.reactions.filter (fun r => r.level == 2 && r.st == .handling)).map (·.rid)).foldl (fun s rid => s.endHandling rid) s

/-- The chip reset completes (R236): every L2 in HANDLING ends it, and the case closes with result CHIP. -/
def State.chipDone (s : State) : State := (s.l2Done.closeCase 3 0 (some 4)).kickQueue

/-- The granted tenant passes, and the next suspect is granted (R229, R234). -/
def State.grantedPasses (s : State) : State :=
  match s.rcv.granted with
  | none => s
  | some t => ({ s with rcv := { (s.rcv.mark t .passed) with granted := none } }.tellSuspects t 2).grantNext

/-- A suspect leaves the case at its tenant's reset; if it was granted, the next is (R240). -/
def State.suspectLeaves (s : State) (t : Nat) : State :=
  if s.rcv.st = .idle ∨ ¬ s.rcv.suspects.any (fun x => x.1 == t) then s
  else
    let was := s.rcv.granted = some t
    let s := { s.tellSuspects t 2 with rcv := { s.rcv with suspects := s.rcv.suspects.filter (fun x => x.1 != t) } }
    if was then ({ s with rcv := { s.rcv with granted := none } }).grantNext else s

/-- The granted tenant trips (R229, R234): GUILTY, and its tenant reset is requested; tenant 0's case releases the suspects not yet granted and climbs to rung 2 over the
regions it was suspect in instead. -/
def State.grantedFails (s : State) (t : Nat) : State :=
  let s := { s with rcv := s.rcv.mark t .guilty }.raise Reg.RCV_EVENT_GUILTY 0
  if t = 0 then
    let s := s.rcv.toGrant.foldl (fun s u => { s with rcv := s.rcv.mark u .released }.tellSuspects u 2) s
    s.takeRung 2
  else (s.closeCase 1 t none).requestReset t

end Sys2Proof.Machine
end

