-- ==== Sys2Proof/Machine/ConcordOps.lean ====
section
/-! DEFINITION. Sessions, disputes and loss of a Concordance port (R251–R253, R263, R265, R269, R270, R273–R277). -/

namespace Sys2Proof.Machine

/-- A fault of a Concordance engine, with the notices of its L1 reaction (R274, R275). -/
def State.clpFault (s : State) (c kind addr : Nat) (notices : List (Nat × Nat × Nat × Nat)) : State :=
  let m : FaultMsg := { src := kilnSrc 0x1B c, kind := kind, tenant := 0, addr := wrap 48 addr, gtlo := wrap 24 s.gt }
  { s with flt := { s.flt with queue := s.flt.queue ++ [m], conseq := if notices = [] then s.flt.conseq else s.flt.conseq ++ [{ msg := m, folio := 0, notices := notices }] } }

/-- The UNIT notice of a port (R274): bits [36:32] hold the CLP, [40:37] the cause and [52:41] the peer's ordinal. -/
def clpNotice (c cause ord : Nat) : Nat × Nat × Nat × Nat := (6, 0, pack [(0, 5, c), (5, 4, cause), (9, 2, ord)], ord / 4 % 1024)

/-- The chips' own recall of the epochs that depend on a peer's epoch (R263, R273), with its ROLLBACK notices. -/
def State.recallDependents (s : State) (c : Nat) (b : Binding) (e origin rid cause : Nat) : State × List (Nat × Nat × Nat × Nat) :=
  let l := s.dependents b e
  let (s, first) := s.recallEpochs b.tenant l origin rid cause (some (c, b))
  (s, (first.map (fun f => rollbackFrom b.tenant f)).toList)

/-! ## Folios of a port that leaves UP -/

/-- A peer counts as done with a DECIDED Folio: its FSEAL is acknowledged, or its port is lost (R269). -/
def State.peerDone (s : State) (c number : Nat) : State :=
  match s.folio number with
  | some f =>
    if f.parts.contains (peerPart c) ∧ f.done.contains (peerPart c) = false then
      (s.setFolio { f with done := f.done ++ [peerPart c] }).tryApplied number
    else s
  | none => s

/-- A Folio that a peer coordinates is voided here: its participants are told, and no FVOTE is sent (R270). -/
def State.voidPeerFolio (s : State) (number reason voidsrc : Nat) : State :=
  match s.folio number with
  | some f => ((s.setFolio { f with link := none }).voidFolio number reason voidsrc).admitWaiting
  | none => s

/-- An entry joins the in-doubt list; the ninth pushes out the oldest (R270). -/
def State.addInDoubt (s : State) (c : Nat) (e : Nat × Nat) : State :=
  let l := (s.port c).inDoubt ++ [e]
  let s := s.modPort c (fun p => { p with inDoubt := l.drop (l.length - 8) })
  if 8 < l.length then s.raise Reg.CCD_EVENT_INDOUBT c else s

/-- The peer's Folios that this chip takes part in and has not sealed. -/
def State.peerFolios (s : State) (c : Nat) : List FolioRec :=
  s.folios.filter (fun f => f.link == some c && f.peernum != 0 && (f.st == .queued || f.st == .prepared))

/-- What a port's leaving UP does to cross-chip Folios (R269, R270, R275): own PREPARED ones are voided with reason 6, DECIDED ones go on without
the peer, the peer's become in doubt. -/
def State.portLeavesUp (s : State) (c : Nat) : State :=
  let mine := s.folios.filter (fun f => f.peernum == 0 && f.parts.contains (peerPart c))
  let s := (mine.filter (fun f => f.st == .prepared)).foldl (fun s f =>
    ((s.setFolio { f with voidlink := c }).voidFolio f.number 6 0x7FF).admitWaiting) s
  let s := (mine.filter (fun f => f.st == .decided)).foldl (fun s f => s.peerDone c f.number) s
  (s.peerFolios c).foldl (fun s f => (s.voidPeerFolio f.number 6 0x7FF).addInDoubt c (f.peernum, f.number)) s

/-! ## Disputes -/

/-- Entry to DISPUTED (R274): the first DISPUTE, the bindings, the queues, the evidence, the recall of R273 and the fault. `trusted` names the binding
and the highest epoch of it still trusted, where the cause gives one. -/
def State.dispute (s : State) (c cause seq job ref ev1 ev2 : Nat) (trusted : Option (Binding × Nat)) : State :=
  let s := s.modPort c (fun p => { p with st := .disputed, inDoubt := [] })
  let s := s.portLeavesUp c
  let s := s.presentFree c (.dispute cause job ref ev1 ev2)
  let s := s.modPort c (fun p => { p with
    st := .disputed, dcause := cause, peerGone := false, disputeLeft := 2, queue := [], unacked := [], wait := p.wait.filter (fun w => w.body.type == 1 || w.body.type == 0xA), preps := [], pairT1 := none, pairWait := none,
    thetaValid := false,
    bindings := p.bindings.map (fun (b : Binding) => { b with st := .disputed }),
    disp := { cause := cause, seq := seq, job := job, ref := ref, ev1 := wrap 128 ev1, ev2 := wrap 128 ev2, gt := s.gt } })
  let s := s.raise Reg.CCD_EVENT_DISPUTE c
  let (s, l) := match trusted with
    | some (b, e) => let (rid, s) := s.takeRid; s.recallDependents c b (e + 1) s.cfg.ordinal rid 1
    | none => (s, [])
  s.clpFault c 0x503 cause (clpNotice c cause (s.port c).peerOrd :: l)

/-! ## Sessions -/

/-- The port enters HELLO with a new session (R251, R252). -/
def State.newSession (s : State) (c : Nat) : State :=
  s.modPort c (fun p => { p with st := .hello, sess := nextSkipZero 8 p.sess, psess := 0, dcause := 0, peerGone := false, disputeLeft := 0, unacked := [], wait := [], preps := [],
                                 rxPool := 0, rxAns := 0, pairT1 := none, pairWait := none, thetaValid := false, ackDue := false, rounds := 0, strikes := [],
                                 bindings := p.bindings.map (fun (b : Binding) => { b with st := .declared }) })

/-- Messages that stay in the transmit queue across a loss: SEALs and RECALLs (R275). -/
def LinkBody.survives (b : LinkBody) : Bool := b.type == 2 || b.type == 3

/-- FSEALs of a port that the peer has not acknowledged (R275); one replayed before is not sent again (R276). -/
def Port.openSeals (p : Port) : List (Nat × Nat) :=
  (p.unacked.map (·.body) ++ p.queue).filterMap (fun b => match b with | .fseal n t false => some (n, t) | _ => none)

/-- The loss actions of an UP port (R275–R277): the queue, the replay list, the bindings, the Folios, and PEER_LOST where a fault is raised. -/
def State.losePeer (s : State) (c : Nat) (fault : Bool) : State :=
  let p := s.port c
  let r := p.replay ++ p.openSeals
  let s := (s.setPort c { p with st := .hello, unacked := [], replay := r.drop (r.length - 8),
                                 bindings := p.bindings.map (fun (b : Binding) => { b with st := .declared }) }).portLeavesUp c
  let s := s.modPort c (fun q => { q with queue := (p.unacked.map (·.body) ++ p.queue).filter LinkBody.survives })
  let s := (s.raise Reg.CCD_EVENT_LOST c).bump Reg.CCD_LOSTCNT_COUNT c 1
  let s := if fault then s.clpFault c 0x502 0 [clpNotice c 0 p.peerOrd] else s
  if fault ∧ s.on Reg.CCD_GCTRL_DOLMODE 0 then
    (((p.bindings.map (·.tenant)).filter (· != 0)).eraseDups).foldl (fun s t => s.requestReset t) s
  else s

/-- A time pair begins: the primary's request with T1 (R265). -/
def State.startPair (s : State) (c : Nat) : State :=
  let pid := wrap 8 ((s.port c).pairId + 1)
  (s.modPort c (fun p => { p with pairId := pid, pairT1 := none })).presentFree c (.tpair 0 pid 0 0 0 0 0)

/-- Entry to UP (R253). -/
def State.enterUp (s : State) (c : Nat) : State :=
  let p := s.port c
  let p := if p.peerFresh then { p with queue := [], bindings := p.bindings.map (fun (b : Binding) => { b with history := [], newest := none, highe := 0, peere := 0, pk := [], sent := none }) } else p
  let roles := p.bindings.map (fun b => LinkBody.role b.job b.slice b.pslice false)
  let again := p.replay.map (fun e => LinkBody.fseal e.1 e.2 true)
  let s := s.setPort c { p with st := .up, everUp := true, txNext := 0, rxNext := 0, crret := 0, arret := 0, poolSent := 0, answerSent := 0, crretIn := 0, arretIn := 0,
                                rxPool := 0, rxAns := 0, rounds := 0, checks := [], unacked := [], queue := roles ++ p.queue ++ again, replay := [], heard := false }
  let s := if s.isPrimary c then s.startPair c else s
  s.pump c 192

/-- The Charter enables a port: it enters HELLO (R252). -/
def State.enablePort (s : State) (c : Nat) : State := if (s.port c).st = .disabled then s.newSession c else s

/-- The Charter disables a port: loss actions without a fault, empty queues, and no binding MATCHED (R252). -/
def State.disablePort (s : State) (c : Nat) : State :=
  let s := if (s.port c).st = .up then s.losePeer c false else s
  s.modPort c (fun p => { p with st := .disabled, queue := [], unacked := [], wait := [], replay := [], inDoubt := [], thetaValid := false,
                                 bindings := p.bindings.map (fun (b : Binding) => { b with st := .declared }) })

/-- A prepare of an own cross-chip Folio timed out: a strike on each port whose peer has not voted while its heartbeats came; the third in a row
disputes the port (R269). -/
def State.strikePeers (s : State) (f : FolioRec) : State :=
  (f.peers.filter (fun c => !f.yes.contains (peerPart c) && (s.port c).heard)).foldl (fun s c =>
    let l := (s.port c).strikes ++ [f.number]
    let s := s.modPort c (fun p => { p with strikes := l })
    if 3 ≤ l.length ∧ (s.port c).st = .up then
      s.dispute c 5 0 0 0 (pack [(0, 32, l.getD 0 0), (32, 32, l.getD 1 0), (64, 32, l.getD 2 0)]) 0 none
    else s) s

end Sys2Proof.Machine
end

