-- ==== Sys2Proof/Machine/DebugOps.lean ====
section
/-! DEFINITION. Global stop (R472–R476), debug unlock (R477) and the drain of trace rings (R471): what other units call too. -/

namespace Sys2Proof.Machine

/-! ## Global stop -/

/-- SRC of the records of debug (R480). -/
def dbgSrc : Nat := kilnSrc 0x1F 0

/-- A stop source is set (R473); the first raises DBG_STOP_OUT and DBG_STOP_HOST, with the time, the record, the trace record and the event. `fseq` is the trigger's. -/
def State.stopRaise (s : State) (source fseq : Nat) : State :=
  let src := s.get Reg.DBG_GSSTATUS_SOURCE 0 ||| 2 ^ source
  let s := { s.set Reg.DBG_GSSTATUS_SOURCE 0 src with dbg := { s.dbg with seen := s.dbg.seen ||| 2 ^ source } }
  if s.stopped then s
  else
    let s := s.setAll 0 [(Reg.DBG_GSSTATUS_STOPPED, 1), (Reg.DBG_GSSTATUS_SETTLED, 0), (Reg.DBG_GSTIME_GT, s.gt)]
    let s := { s with dbg := { s.dbg with seen := src } }
    (((s.recordOf 0x1501 dbgSrc src s.gt fseq).kilnStop true src).raise Reg.DBG_EVENT_STOP 0).event 1

/-- The release: no source remains (R476). Folios that a stop held undecided are looked at again (R179). -/
def State.stopEnd (s : State) : State :=
  if s.stopped = false ∨ s.get Reg.DBG_GSSTATUS_SOURCE 0 ≠ 0 then s
  else
    let us := (s.gt - s.get Reg.DBG_GSTIME_GT 0) * 4000 / s.cfg.rclk
    let s := s.setAll 0 [(Reg.DBG_GSSTATUS_STOPPED, 0), (Reg.DBG_GSSTATUS_SETTLED, 0), (Reg.DBG_GSREL_GT, s.gt)]
    let s := (((s.recordOf 0x1502 dbgSrc (saturate 32 us) s.dbg.seen 0).kilnStop false 0).raise Reg.DBG_EVENT_RELEASE 0).event 2
    (s.folios.map (·.number)).foldl (fun s n => s.tryDecide n) s

/-- RELEASE (R476): sources 0, 2 and 3 are cleared; while DBG_STOP_IN is still a source the release waits for it. -/
def State.stopRelease (s : State) : State :=
  if s.stopped = false then s
  else
    let left := s.get Reg.DBG_GSSTATUS_SOURCE 0 &&& 2
    let s := s.set Reg.DBG_GSSTATUS_SOURCE 0 left
    if left ≠ 0 then s.raise Reg.DBG_EVENT_RELBLOCK 0 else s.stopEnd

/-- DBG_STOP_IN is a source while it is high with EXTEN = 1 (R473, R476). -/
def State.stopPin (s : State) : State :=
  if s.on Reg.DBG_GSSTATUS_PIN 0 ∧ s.on Reg.DBG_GSCTRL_EXTEN 0 then
    (if bit (s.get Reg.DBG_GSSTATUS_SOURCE 0) 1 then s else s.stopRaise 1 0)
  else (s.set Reg.DBG_GSSTATUS_SOURCE 0 (s.get Reg.DBG_GSSTATUS_SOURCE 0 &&& 13)).stopEnd

/-- A registered fault is compared with DBG_GSTRIG; a match stops, and disarms the trigger (R473). -/
def State.stopTrigger (s : State) (kind level fseq : Nat) : State :=
  if (s.on Reg.DBG_GSTRIG_KINDEN 0 ∧ s.get Reg.DBG_GSTRIG_KIND 0 = kind) ∨ (s.on Reg.DBG_GSTRIG_LEVELEN 0 ∧ s.get Reg.DBG_GSTRIG_LEVEL 0 ≤ level) then
    (s.setAll 0 [(Reg.DBG_GSTRIG_KINDEN, 0), (Reg.DBG_GSTRIG_LEVELEN, 0)]).stopRaise 2 fseq
  else s

/-! ## Debug unlock -/

/-- A debug unlock begins or is replaced (R477, R480). -/
def State.debugUnlock (s : State) (secs keyid : Nat) : State :=
  ((({ s with dbg := { s.dbg with unlock := some (s.pwr.secs + secs) } }.set Reg.DBG_UNLOCK_SECS 0 secs).recordOf 0x1503 dbgSrc secs keyid 0).raise Reg.DBG_EVENT_UNLOCK 0)

/-- It ends: cause 0 expiry, 1 PORB (R480). -/
def State.unlockEnd (s : State) (cause : Nat) : State :=
  if s.dbg.unlock.isSome then (({ s with dbg := { s.dbg with unlock := none } }.set Reg.DBG_UNLOCK_SECS 0 0).recordOf 0x1504 dbgSrc cause 0 0) else s

/-! ## Draining -/

/-- Base and places of the host trace ring (R471, R484). -/
def State.traceRing (s : State) : Nat × Nat :=
  (4096 * s.get Reg.DBG_TRBASE_BASE 0, 2 ^ (max 16 (min 30 (s.get Reg.DBG_TRSIZE_LOG2 0))) / 16)

/-- A range of host memory lies inside a window with W permission (R375, R471). -/
def State.writable (s : State) (addr len : Nat) : Bool :=
  s.cfg.windows.any (fun w => w.write && decide (w.base ≤ addr ∧ addr + len ≤ w.base + w.size))

/-- The next hub whose cut waits is told, where the drain is enabled and none is served (R471). -/
def State.nextCut (s : State) : State :=
  if s.on Reg.DBG_TRCTRL_EN 0 ∧ s.dbg.cutting = none then
    match s.dbg.cuts with
    | [] => s
    | r :: rest => { s with dbg := { s.dbg with cuts := rest, cutting := some r } }.send (msgTrCut r)
  else s

/-- Hubs whose run is requested are counted in PEND. -/
def Dbg.pend (d : Dbg) : Nat := d.cuts.length + (if d.cutting.isSome then 1 else 0)

/-- A hub's run is wanted; one already waiting is not asked twice. -/
def State.wantCut (s : State) (r : Nat) : State :=
  { s with dbg := { s.dbg with cuts := if s.dbg.cuts.contains r then s.dbg.cuts else s.dbg.cuts ++ [r] } }.nextCut

/-- The run ends: its records are freed at the hub, and the next cut is served (R471). -/
def State.freeRun (s : State) : State :=
  match s.dbg.run with
  | none => s
  | some (r, _, n) => (({ s with dbg := { s.dbg with run := none, copying := false, cutting := none } }.send (msgTrFree r n)).nextCut)

/-- The run being drained is put to system channel 2 once the ring has room for all of it; the ring is never completely full (R471). -/
def State.pumpTrace (s : State) : State :=
  match s.dbg.run with
  | none => s
  | some (r, first, n) =>
    if s.dbg.copying then s
    else if n = 0 then s.freeRun
    else
      let (base, size) := s.traceRing
      let head := s.get Reg.DBG_TRHEAD_OFFSET 0 % size
      let used := (head + size - s.get Reg.DBG_TRTAIL_OFFSET 0 % size) % size
      if used + n < size then
        let k := min n (size - head)
        let jobs : List SysJob := { addr := base + 16 * head, len := 16 * k, data := 0, head := (head + k) % size, src := some (r, 16 * first) } ::
          (if k < n then [{ addr := base, len := 16 * (n - k), data := 0, head := n - k, src := some (r, 16 * ((first + k) % 4096)) }] else [])
        ({ s with sys := tput 2 (tgetD [] 2 s.sys ++ jobs) s.sys, dbg := { s.dbg with copying := true } }).set Reg.DBG_TRSTATUS_WAIT 0 0
      else (s.set Reg.DBG_TRSTATUS_WAIT 0 1).raise Reg.DBG_EVENT_RINGWAIT 0

/-- Channel 2 has written a part of a run (R471): DBG_TRHEAD advances, and with the last part the hub frees the run. -/
def State.traceWritten (s : State) (j : SysJob) : State :=
  let s := s.set Reg.DBG_TRHEAD_OFFSET 0 j.head
  if tgetD [] 2 s.sys = [] then s.freeRun else s

end Sys2Proof.Machine
end

