-- ==== Sys2Proof/Machine/ProbeOps.lean ====
section
/-! DEFINITION. Operations of a tile probe: events and counts (R312, R465), the fence (R94, R512), slots and release (R86, R88), digest
contributions (R284, R286), reading signatures (R102), trace records (R469), roles and moves (R147, R148). -/

namespace Sys2Proof.Machine

/-! ## Counters and activity -/

/-- The register of a probe counter (R465). -/
def cntField : Nat → RegField
  | 0 => Reg.TP_CNT0_COUNT | 1 => Reg.TP_CNT1_COUNT | 2 => Reg.TP_CNT2_COUNT | 3 => Reg.TP_CNT3_COUNT
  | 4 => Reg.TP_CNT4_COUNT | 5 => Reg.TP_CNT5_COUNT | 6 => Reg.TP_CNT6_COUNT | _ => Reg.TP_CNT7_COUNT

/-- `n` events of a code at a position: its fixed counter and each selected one (R465). -/
def State.count (s : State) (r t code n : Nat) : State :=
  let i := pid r t
  let s := if code < 6 then s.bump (cntField code) i n else s
  let s := if s.get Reg.TP_CNTSEL_EV6 i = code then s.bump Reg.TP_CNT6_COUNT i n else s
  if s.get Reg.TP_CNTSEL_EV7 i = code then s.bump Reg.TP_CNT7_COUNT i n else s

/-- The values of the eight counters (R466). -/
def State.counters (s : State) (r t : Nat) : List Nat := (List.range 8).map (fun c => s.get (cntField c) (pid r t))

/-- The list with `n` added at an index. -/
def addAt (l : List Nat) (i n : Nat) : List Nat := l.set i (l.getD i 0 + n)

/-- Ten zero counts. -/
def zeroAct : List Nat := List.replicate 10 0

/-- Index of a context that holds a tenant; 16 is tenant 0's own set (R312). -/
def Probe.ctxOf (p : Probe) (tenant : Nat) : Option Nat := (p.ctx.find? (fun e => e.2.valid && e.2.tenant == tenant)).map (·.1)

/-- End GT of the anchoring interval in progress (R316): the next multiple of 16 × PERIOD. -/
def State.intervalEnd (s : State) (gt : Nat) : Nat :=
  let n := 16 * max 1 (s.get Reg.SNS_PERIOD_PERIOD 0)
  (gt / n + 1) * n

/-- Tenant of a set of activity counts (R312). -/
def Probe.actTenant (p : Probe) (i : Nat) : Nat := if i = 16 then 0 else (tgetD {} i p.ctx).tenant

/-- Activity counts of a set rise; one that reaches 2^35 is sent at once with PARTIAL = 1, and its set is zeroed (R312, R313). -/
def State.activity (s : State) (r t i : Nat) (adds : List (Nat × Nat)) : State :=
  let p := s.probe r t
  let l := adds.foldl (fun l e => addAt l e.1 e.2) (tgetD zeroAct i p.act)
  if l.any (fun n => decide (2 ^ 35 ≤ n)) then
    (s.setProbe r t { p with act := tput i zeroAct p.act }).send (msgEnAct r t (p.actTenant i) (s.intervalEnd (s.hub r).gt) true l)
  else s.setProbe r t { p with act := tput i l p.act }

/-- Every set whose counts are not all 0 leaves in EN_ACT, and is zeroed (R313). -/
def State.sendActivity (s : State) (r t gt : Nat) (isPartial : Bool) : State :=
  let p := s.probe r t
  let msgs := (p.act.filter (fun e => e.2.any (· != 0))).map (fun e => msgEnAct r t (p.actTenant e.1) gt isPartial e.2)
  (s.setProbe r t { p with act := [] }).sendAll msgs

/-! ## Slots -/

/-- A slot of the gate. -/
def Probe.slot (p : Probe) (i : Nat) : Slot := tgetD {} i p.slots

/-- The probe with a slot replaced. -/
def Probe.setSlot (p : Probe) (i : Nat) (x : Slot) : Probe := { p with slots := tput i x p.slots }

/-- The state with a slot replaced. -/
def State.setSlot (s : State) (r t i : Nat) (x : Slot) : State := s.modProbe r t (fun p => p.setSlot i x)

/-- Insert an index by a key. -/
def insertBy (key : Nat → Nat) (i : Nat) : List Nat → List Nat
  | [] => [i]
  | j :: rest => if key i ≤ key j then i :: j :: rest else j :: insertBy key i rest

/-- The slots that are not FREE, in acceptance order (R86). -/
def Probe.inOrder (p : Probe) : List Nat :=
  ((List.range 4).filter (fun i => (p.slot i).st != .free)).foldl (fun l i => insertBy (fun j => (p.slot j).order) i l) []

/-- Slots that are neither FREE nor RELEASED, in acceptance order. -/
def Probe.unreleased (p : Probe) : List Nat := p.inOrder.filter (fun i => (p.slot i).st != .released)

/-- The lowest FREE slot. -/
def Probe.freeSlot (p : Probe) : Option Nat := (List.range 4).find? (fun i => (p.slot i).st == .free)

/-- The slot whose chain is open. -/
def Probe.chainSlot (p : Probe) : Option Nat := p.inOrder.find? (fun i => (p.slot i).chainOpen)

/-- Progress of a tenant since the last watchdog tick (R222). -/
def Probe.progressed (p : Probe) (tenant : Nat) : Probe :=
  { p with progress := if p.progress.contains tenant then p.progress else p.progress ++ [tenant] }

/-! ## The fence -/

/-- The fence state that events act on: in STOPPED, the remembered one (R94). -/
def Probe.eff (p : Probe) : FenceState := if p.fence = .stopped then p.remembered else p.fence

/-- The fence is closed, as on TPI_FENCE (R93, R512). -/
def Probe.closed (p : Probe) : Bool := p.fence != .opened || p.heldClosed

/-- P of R85 for an ID of TPI_SWE or TPI_MINJ. -/
def Probe.enables (p : Probe) (id : Nat) : Bool :=
  !p.closed && !p.stopLeaf && (id == 4 || (decide (id < 4) && (p.slot id).st == .released))

/-- Retries that the fence has left (R94, R97). -/
def State.retriesLeft (s : State) (r t : Nat) : Nat := (s.probe r t).retries.getD (s.get Reg.TP_CTRL_RETRY (pid r t))

/-- The fence takes a state. One that becomes OPEN stays closed while a FAULT flit waits (R512); leaving FENCED ends FENCE_REQ (R97). -/
def State.setFence (s : State) (r t : Nat) (f : FenceState) : State :=
  let p := s.probe r t
  let held := f == .opened && p.eff != .opened && !p.faultOut.isEmpty
  let q : Probe := if p.fence = .stopped then { p with remembered := f, heldClosed := held } else { p with fence := f, heldClosed := held }
  let q := if f = .fenced then q else { q with relHold := false }
  let s := s.setProbe r t q
  if p.eff = .fenced ∧ f ≠ .fenced then s.set Reg.TP_CTRL_FENCE_REQ (pid r t) 0 else s

/-- The hub's record of what a tile released for its exposed-command list (R133). -/
def TileBook.expose (b : TileBook) (tenant cls epoch : Nat) : TileBook × Bool :=
  match b.exposed.find? (fun e => e.tenant == tenant) with
  | some _ =>
    ({ b with exposed := b.exposed.map (fun e => if e.tenant = tenant then
        { e with classes := e.classes ||| 2 ^ cls, efirst := min e.efirst epoch, elast := max e.elast epoch, count := saturate 32 (e.count + 1) } else e) }, false)
  | none =>
    if b.exposed.length < 16 then
      ({ b with exposed := b.exposed ++ [{ tenant := tenant, classes := 2 ^ cls, efirst := epoch, elast := epoch, count := 1 }] }, false)
    else ({ b with ovf := true }, true)

/-- The hub's book of a tile. -/
def State.book (s : State) (r t : Nat) : TileBook := tgetD {} t (s.hub r).books

/-- The state with a tile's book replaced. -/
def State.setBook (s : State) (r t : Nat) (b : TileBook) : State := s.modHub r (fun h => { h with books := tput t b h.books })

/-- The hub's record of an NA or UNCHECKED command that a tile released (R112). -/
def TileBook.noteUnchecked (b : TileBook) (gt tenant cls epoch : Nat) : TileBook :=
  { b with unchecked := b.unchecked ++ [(gt, { tenant := tenant, classes := 2 ^ cls, efirst := epoch, elast := epoch, count := 1 })] }

/-- A slot is released: its pulse, the counters, the tenant's progress and the tile's exposed-command list (R86, R112, R133, R222, R465). -/
def State.releaseSlot (s : State) (r t i : Nat) : State :=
  let p := s.probe r t
  let x := p.slot i
  let tenant := x.first.tenant
  let s := ((s.setProbe r t ((p.setSlot i { x with st := .released }).progressed tenant)).emit (.rel r t i)).count r t 8 1
  let e := s.epochOf tenant
  let (b, ovf) := (s.book r t).expose tenant x.first.opclass e
  let s := s.setBook r t (if x.outcome = some .na ∨ x.outcome = some .unchecked then b.noteUnchecked (s.hub r).gt tenant x.first.opclass e else b)
  if ovf then s.raise Reg.RH_IFT_EVENT_EXPOVF r else s

/-- RELEASABLE slots whose every earlier slot is RELEASED or FREE are released, in order (R86). -/
def State.releaseList (s : State) (r t : Nat) : List Nat → State
  | [] => s
  | i :: rest =>
    match ((s.probe r t).slot i).st with
    | .released => s.releaseList r t rest
    | .releasable => (s.releaseSlot r t i).releaseList r t rest
    | _ => s

/-- Release what may be released (R86); after RD_DISCARD nothing releases ahead of the quench (R110). -/
def State.kickRelease (s : State) (r t : Nat) : State :=
  if (s.probe r t).relHold then s else s.releaseList r t (s.probe r t).inOrder

/-- CAT_IDLE is sent once while CAT_HOLD holds and every slot is FREE (R152). -/
def State.checkIdle (s : State) (r t : Nat) : State :=
  let p := s.probe r t
  if p.hold ∧ p.idleSent = false ∧ p.inOrder = [] then (s.setProbe r t { p with idleSent := true }).send (msgCatIdle r t) else s

/-- A slot becomes FREE with a TPI_DISC pulse; its digest contribution is dropped (R88). -/
def State.discardSlot (s : State) (r t i : Nat) : State :=
  (s.modProbe r t (fun p => { (p.setSlot i {}) with
    readSlot := if p.readSlot = some i then none else p.readSlot, bandRerun := p.bandRerun.filter (· != i) })).emit (.disc r t i)

/-- Several slots become FREE, in order. -/
def State.discardSlots (s : State) (r t : Nat) (l : List Nat) : State := l.foldl (fun s i => s.discardSlot r t i) s

/-- TPI_RETRY for a slot, with its first header's HTAG (R94). -/
def State.retryPulse (s : State) (r t i : Nat) : State :=
  let p := s.probe r t
  ((s.setProbe r t { p with retrySlot := some i, retryTaken := false, retryPassed := false }).emit (.retry r t (p.slot i).first.htag)).count r t 9 1

/-- A tenant drop (R88, R94, R190, R232): the tenant's unreleased slots are discarded; in RETRY, losing the retried slot opens the fence. -/
def State.dropSlots (s : State) (r t tenant : Nat) (every : Bool) : State :=
  let p := s.probe r t
  let l := p.unreleased.filter (fun i => (p.slot i).job == .tenant && (every || (p.slot i).first.tenant == tenant))
  let lost : Bool := match p.retrySlot with
    | some i => p.eff == .retry && l.contains i
    | none => false
  let s := s.discardSlots r t l
  let s := if lost then (s.modProbe r t (fun p => { p with retrySlot := none })).setFence r t .opened else s
  (s.kickRelease r t).checkIdle r t

/-- Contexts of a tenant removed from a probe, with their accumulator and activity counts (R146, R190). -/
def State.removeCtx (s : State) (r t tenant : Nat) : State :=
  match (s.probe r t).ctxOf tenant with
  | none => s
  | some i => s.modProbe r t (fun p => { p with ctx := tdel i p.ctx, acc := tdel i p.acc, act := tdel i p.act })

/-! ## Digest and signature -/

/-- Digest amounts of a slot, drawn for its latest header (R283). -/
def State.digestKappa (s : State) (p : Probe) (x : Slot) : Kappa :=
  Kappa.draw (Trivium.start (s.cfg.dkey.getD 0) (ivDigest p.shelfX p.shelfY x.last.layer x.last.operator x.last.obase))

/-- Fold chunks into a contribution: a new ρ at every group of 32 (R282). -/
def Slot.foldChunks : Slot → Kappa → List Nat → Slot × Kappa
  | x, k, [] => (x, k)
  | x, k, c :: rest =>
    let (rho, k') := if x.chunks % 32 = 0 then k.nextRho else ((x.drhoA, x.drhoB), k)
    let j := x.chunks % 32
    Slot.foldChunks { x with drhoA := rho.1, drhoB := rho.2, chunks := x.chunks + 1,
                             dA := addp x.dA (rot c (rho.1 + k'.kA.getD j 0)), dB := addp x.dB (rot c (rho.2 + k'.kB.getD j 0)) } k' rest

/-- The contribution of a slot in both lanes (R282). -/
def Slot.contribution (x : Slot) (k : Kappa) : Nat × Nat :=
  (addp x.dA (rot x.chunks (k.kA.getD 32 0)), addp x.dB (rot x.chunks (k.kB.getD 32 0)))

/-- Signature amounts of a slot: of the reading stream after its 16 choice bits, or of the pattern's stream (R101, R122). -/
def State.readingKappa (s : State) (r : Nat) (p : Probe) (x : Slot) : Kappa :=
  match x.job with
  | .ift => Kappa.draw (Trivium.start (s.hub r).iftKey (ivIft p.ift.pat 0 0 1))
  | .reading =>
    (match p.readOrder with
     | some o => Kappa.draw (Trivium.skip 16 (Trivium.start o.key (ivReading o.x o.y o.count o.dom o.u)))
     | none => Kappa.draw (Trivium.skip 16 (Trivium.start 0 0)))
  | .tenant => Kappa.draw (Trivium.skip 16 (Trivium.start (tgetD {} x.ctx p.ctx).key (ivReading p.shelfX p.shelfY x.rcount x.rdom x.ru)))

/-- The choice of R101 for a slot: the first d of the 16 keystream bits are 0; nothing is chosen at d = 31. -/
def Probe.chosen (p : Probe) (x : Slot) : Bool :=
  let c := tgetD {} x.ctx p.ctx
  let w := (Trivium.take 16 (Trivium.start c.key (ivReading p.shelfX p.shelfY x.rcount x.rdom x.ru))).1
  c.d == 0 || (decide (c.d ≤ 16) && bits w (16 - c.d) c.d == 0)

/-- The accumulator of a context. -/
def Probe.accum (p : Probe) (i : Nat) : Accum := tgetD {} i p.acc

/-- DG_REPORT of an accumulator, which then restarts for a layer with its coverage deltas kept (R286). -/
def State.reportDigest (s : State) (r t i : Nat) (cut : Bool) (layer : Nat) : State :=
  let p := s.probe r t
  let a := p.accum i
  (s.setProbe r t { p with acc := tput i { layer := layer, macs := a.macs, elems := a.elems } p.acc }).send
    (msgDgReport r t (tgetD {} i p.ctx).tenant a.layer a.dA a.dB cut a.nslot a.nchunk a.nmvslot a.nmvchunk)

/-- Does an accumulator hold a contribution? -/
def Accum.used (a : Accum) : Bool := a.nslot != 0 || a.nmvslot != 0

/-- A trace record of a probe: held while fewer than four are unsent, else dropped and counted (R469). -/
def State.probeTrace (s : State) (r t : Nat) (recs : List Nat) : State :=
  s.modProbe r t (fun p =>
    if p.traceOut.length + recs.length ≤ 4 then { p with traceOut := p.traceOut ++ recs.map (BitVec.ofNat 128) }
    else { p with traceDrops := p.traceDrops + recs.length })

/-- A slot's contribution is committed to its context's accumulator (R284, R286), and traced where its tenant's layer is (R302). -/
def State.commitDigest (s : State) (r t i : Nat) : State :=
  let p := s.probe r t
  let x := p.slot i
  let k := x.dkappa.getD (s.digestKappa p x)
  let d := x.contribution k
  let layer := x.last.layer
  let a := p.accum x.ctx
  let s := if a.used ∧ a.layer ≠ layer then s.reportDigest r t x.ctx false layer else s
  let p := s.probe r t
  let a := { p.accum x.ctx with layer := layer }
  let a := if x.first.mayvary then { a with nmvslot := a.nmvslot + 1, nmvchunk := a.nmvchunk + x.chunks }
    else { a with nslot := a.nslot + 1, nchunk := a.nchunk + x.chunks, dA := addp a.dA d.1, dB := addp a.dB d.2 }
  let s := s.setProbe r t { p with acc := tput x.ctx a p.acc }
  let tenant := x.first.tenant
  if s.on Reg.TEN_DG_CTRL_DGTRACE tenant ∧ s.get Reg.TEN_DG_CTRL_TRLAYER tenant = layer then
    let gt := (s.hub r).gt
    s.probeTrace r t [traceHead 8 tenant gt + pack [(48, 11, p.shelfX), (59, 10, p.shelfY), (69, 16, x.last.operator), (85, 11, x.last.obase),
        (96, 15, x.chunks)], traceHead 9 tenant gt + pack [(48, 31, d.1), (79, 31, d.2)]]
  else s

/-- A slot becomes RELEASABLE: its contribution is committed, and what may be released is (R88). -/
def State.makeReleasable (s : State) (r t i : Nat) : State :=
  let s := s.commitDigest r t i
  (s.setSlot r t i { (s.probe r t).slot i with st := .releasable }).kickRelease r t

/-! ## Roles and moves -/

/-- Rotation contexts as 256-bit words (R499). -/
def Ctx.word (c : Ctx) : Nat := pack [(0, 12, c.tenant), (12, 1, flag c.valid), (13, 5, c.d), (18, 80, c.key), (98, 32, c.count), (130, 25, c.u)]

/-- The context that a word spells. -/
def Ctx.ofWord (w : Nat) : Ctx :=
  { tenant := bits w 0 12, valid := bit w 12, d := bits w 13 5, key := bits w 18 80, count := bits w 98 32, u := bits w 130 25 }

/-- An accumulator as one beat of 64 B (R147, R286): its fields at the widths of DG_REPORT, and 36 bits for each unreported delta (assumption 30). -/
def Accum.word (a : Accum) : Nat :=
  pack ([(0, 16, a.layer), (16, 31, a.dA), (47, 31, a.dB), (78, 32, a.nslot), (110, 40, a.nchunk), (150, 32, a.nmvslot), (182, 40, a.nmvchunk)]
    ++ a.macs.zipIdx.map (fun e => (222 + 36 * e.2, 36, e.1)) ++ a.elems.zipIdx.map (fun e => (366 + 36 * e.2, 36, e.1)))

/-- The accumulator that a beat spells. -/
def Accum.ofWord (w : Nat) : Accum :=
  { layer := bits w 0 16, dA := bits w 16 31, dB := bits w 47 31, nslot := bits w 78 32, nchunk := bits w 110 40, nmvslot := bits w 150 32,
    nmvchunk := bits w 182 40, macs := (List.range 4).map (fun i => bits w (222 + 36 * i) 36), elems := (List.range 4).map (fun i => bits w (366 + 36 * i) 36) }

/-- The 17 sets of activity counts as one string: 40 B a set, ten counts of 32 bits (R147, assumption 30). -/
def actString (l : List (Nat × List Nat)) : Nat :=
  pack ((List.range 17).flatMap (fun i => (tgetD zeroAct i l).zipIdx.map (fun e => (320 * i + 32 * e.2, 32, e.1))))

/-- The sets of activity counts that a string spells; sets of zeros are not listed. -/
def actOfString (w : Nat) : Table (List Nat) :=
  ((List.range 17).map (fun i => (i, (List.range 10).map (fun j => bits w (320 * i + 32 * j) 32)))).filter (fun e => e.2.any (· != 0))

/-- Bits of the activity string in one beat of 64 B (R147); the last beat ends in 24 B of 0. -/
def actBeat : Nat := 512

/-- What a context block has no room for leaves at the seal (assumption 30): a set with a count of 2^32 or more in EN_ACT with PARTIAL = 1, and deltas of
which one is 2^36 or more in DG_COVER. -/
def State.trimBlock (s : State) (r t : Nat) : State :=
  let p := s.probe r t
  let s := (p.act.filter (fun e => e.2.any (fun n => decide (2 ^ 32 ≤ n)))).foldl (fun s e =>
    (s.modProbe r t (fun p => { p with act := tdel e.1 p.act })).send (msgEnAct r t (p.actTenant e.1) (s.intervalEnd (s.hub r).gt) true e.2)) s
  (p.acc.filter (fun e => (e.2.macs ++ e.2.elems).any (fun n => decide (2 ^ 36 ≤ n)))).foldl (fun s e =>
    (s.modProbe r t (fun p => { p with acc := tput e.1 { e.2 with macs := [0, 0, 0, 0], elems := [0, 0, 0, 0] } p.acc })).send
      (msgDgCover r t (tgetD {} e.1 p.ctx).tenant e.2.macs e.2.elems)) s

/-- The 35 beats of a context block (R147). -/
def contextBlock (m : MoveState) : List Nat :=
  (List.range 8).map (fun i => (tgetD {} (2 * i) m.ctxs : Ctx).word + (tgetD {} (2 * i + 1) m.ctxs : Ctx).word <<< 256)
    ++ (List.range 16).map (fun i => (tgetD {} i m.accs : Accum).word)
    ++ (List.range 11).map (fun i => bits (actString m.acts) (actBeat * i) actBeat)

/-- Position whose state a receiving position takes (R148, R165). -/
def moveSource (t : Nat) (o : MoveOrder) : Nat := if o.fromLower then t - 32 * o.hops else t + 32 * o.hops

/-- The position that receives the move of a sending position. -/
def State.moveDest (s : State) (r t : Nat) : Option Nat :=
  ((List.range 33).map (fun row => tileAt row (tileCol t))).find? (fun d =>
    match (s.probe r d).move with
    | some m => m.order.recv && moveSource d m.order == t
    | none => false)

/-- A move's flags changed at the position that will report it. -/
def State.flagMove (s : State) (r t : Nat) (f : MoveState → MoveState) : State :=
  match s.moveDest r t with
  | some d => s.modProbe r d (fun p => { p with move := p.move.map f })
  | none => s

/-- A position takes the role, the shelfmark and the accession number of its orders at a seal; a move begins (R94, R140, R148). `busy` says that
the source of its incoming move had slots that were not FREE (R150). -/
def State.takeRole (s : State) (r t : Nat) (o : MoveOrder) (busy : Bool) : State :=
  let s := if o.send then s.trimBlock r t else s
  let p := s.probe r t
  let s : State := match o.role with
    | .service => if p.eff = .gap ∨ p.eff = .quenched then s.setFence r t .opened else s
    | .gap =>
      if p.eff = .opened ∨ p.eff = .retry ∨ p.eff = .fenced then ((s.discardSlots r t p.unreleased).modProbe r t (fun q => { q with retrySlot := none })).setFence r t .gap
      else s.setFence r t .gap
    | .quenched =>
      let s := s.discardSlots r t p.unreleased
      let s := s.modProbe r t (fun q => { q with retrySlot := none, readOrder := none, copies := [], ift := {} })
      let s := s.setFence r t .quenched
      if p.role = .quenched then s else s.count r t 4 1
  s.modProbe r t (fun q => { q with
    role := o.role, accession := o.acc, shelfX := o.x, shelfY := o.y, shelfValid := o.role == .service, roleNext := none, hold := false,
    idleSent := false, xown := q.xown && decide (q.readOrder.isSome ∨ q.copies ≠ []) || o.send || o.recv,
    xownAck := q.xownAck && !(o.send || o.recv),
    ift := if p.role = o.role then q.ift else {},
    move := if o.send || o.recv then some { order := o, busy := busy, ctxs := if o.send then p.ctx else [],
                                            accs := if o.send then p.acc else [], acts := if o.send then p.act else [] } else q.move,
    ctx := if o.send then [] else q.ctx, acc := if o.send then [] else q.acc, act := if o.send then [] else q.act })

/-- The probe acts on a message from its hub (R161): current ones at once, or, in a move, once its TPI_XOWN has fallen; a stale one is bounced,
and one ahead of the probe is discarded with FLUE_PROTO. -/
def State.atProbe (s : State) (r t acc : Nat) (m : Msg) (act : State → State) : State :=
  let p := s.probe r t
  let d := wrap 20 (p.accession + 2 ^ 20 - wrap 20 acc)
  if d = 0 then (if p.move.isSome ∧ p.xown then s else act (s.recv m))
  else if d < 2 ^ 19 then (s.recv m).send (msgCatBounce r t p.accession m)
  else ((s.recv m).probeFault r t 0x302 0 m.op).raise Reg.RH_CAT_EVENT_AHEAD r

/-- Accession number that a hub expects of a position (R160). -/
def State.accOf (s : State) (r t : Nat) : Nat := ((s.hub r).cat.at t).accession

end Sys2Proof.Machine
end

