-- ==== Sys2Proof/Machine/IftOps.lean ====
section
/-! DEFINITION. What a probe at the gap does of its own: IFT passes, the margin walk and its suspension (R122–R136), and the reader's part of
a reading (R106, R136). -/

namespace Sys2Proof.Machine

/-- The probe with its IFT state changed. -/
def State.modIft (s : State) (r t : Nat) (f : ProbeIft → ProbeIft) : State := s.modProbe r t (fun p => { p with ift := f p.ift })

/-- Indices of the MARGIN patterns of a region's library, ascending (R126). -/
def State.marginPatterns (s : State) (r : Nat) : List Nat :=
  let l := (s.hub r).patterns
  (List.range l.length).filter (fun i => (l[i]?.map (·.margin)).getD false)

/-- IFT runs at this position. -/
def ProbeIft.running (i : ProbeIft) : Bool := i.state == .fill || i.state == .run || i.state == .walk

/-- The walk is in its steps or its restore check, and not in the re-runs of a restore check that failed (R126, R132). -/
def ProbeIft.inLoop (i : ProbeIft) : Bool := i.walking && (i.seg == .step || i.seg == .stepAgain || i.seg == .restore)

/-- Operand unit `u` of a pattern's fill (R120, R122); a reserved FILL code has none. -/
def patternUnit (key pat : Nat) (d : Pattern) (u : Nat) : Option Nat :=
  if d.fill = 0 then some (reverseBits 512 ((Trivium.skip (512 * u) (Trivium.start key (ivIft pat 0 0 2))).take 512).1)
  else if d.fill = 1 ∨ d.fill = 2 then
    let k := if d.fill = 2 then u % 32 else 0
    let w := wrap 32 (d.fillWord <<< k) + (wrap 32 d.fillWord) >>> (32 - k)
    some (pack ((List.range 16).map (fun i => (32 * i, 32, w))))
  else none

/-- Operand units of a pattern's fill; a reserved FILL code has no stated contents (assumption 6). -/
def State.fillUnit (s : State) (r : Nat) (pat : Nat) (d : Pattern) (u : Nat) : Nat × State :=
  match patternUnit (s.hub r).iftKey pat d u with
  | some w => (w, s)
  | none => s.fresh 512

/-- The descriptor of an index is asked for (R124). -/
def State.askPattern (s : State) (r t pat : Nat) : State := (s.modIft r t (fun i => { i with next := none, asked := some pat })).send (msgIftGet r t pat)

/-- Index of the segment that follows the one in hand if it passes (R124, R126, R132). -/
def State.nextIndex (s : State) (r t : Nat) : Nat :=
  let i := (s.probe r t).ift
  let m := s.marginPatterns r
  let inPass := if i.pat + 1 < (s.hub r).patterns.length then i.pat + 1
    else if i.pass = 0 ∧ i.mwen ∧ i.walkDone = false ∧ (s.probe r t).band ≠ 4 then m.head?.getD 0 else 0
  match i.seg with
  | .pass => inPass
  | .step => (m.find? (fun k => decide (i.pat < k))).getD (m.head?.getD 0)
  | .stepAgain => (m.find? (fun k => decide (i.pat < k))).getD (m.head?.getD 0)
  | .restore => 0
  | .rerun1 => i.pat
  | .rerun2 => if i.walking then 0 else inPass

/-- The units of a segment are filled and its header is presented; the next descriptor is fetched while the segment runs (R124). -/
def State.fillSegment (s : State) (r t : Nat) (d : Pattern) : State :=
  let pat := (s.probe r t).ift.pat
  let s := (copyUnits d.hdr).foldl (fun s u => let (w, s) := s.fillUnit r pat d u; s.emit (.xwr r t u w)) s
  let hdr : Hdr := BitVec.ofNat 256 (d.hdr.toNat - d.hdr.htag * 2 ^ 174 + wrap 8 pat * 2 ^ 174)
  let s := (s.modProbe r t (fun p => { p with xown := false, xownAck := false, ift := { p.ift with state := if p.ift.walking then .walk else .run } })).emit (.icmd r t hdr)
  s.askPattern r t (s.nextIndex r t)

/-- The segment in hand begins once its descriptor has come (R124): the probe claims TPI_XOWN to fill the operands, and presents a header without any at
once. Fills stop with the host in global stop (R136). -/
def State.beginSegment (s : State) (r t : Nat) : State :=
  let p := s.probe r t
  match p.ift.next with
  | some (k, d) =>
    if p.ift.running ∧ p.ift.pat = k ∧ p.ift.desc.isNone ∧ p.stopLeaf = false then
      let s := s.modIft r t (fun i => { i with desc := some d, next := none })
      if copyUnits d.hdr = [] then s.fillSegment r t d else s.modProbe r t (fun p => { p with xown := true, xownAck := false })
    else s
  | none => s

/-- The next segment: its descriptor is taken where it was fetched ahead, else fetched from the hub (R124). -/
def State.requestSegment (s : State) (r t pat : Nat) (seg : SegKind) : State :=
  let i := (s.probe r t).ift
  let s := s.modIft r t (fun i => { i with pat := pat, seg := seg, desc := none, state := if i.walking then .walk else .fill })
  if (i.next.map (·.1)) = some pat then s.beginSegment r t
  else if i.asked = some pat then s
  else s.askPattern r t pat

/-- TPI_CSHK is driven to a step, and its acknowledgement awaited (R126). -/
def State.driveCshk (s : State) (r t step : Nat) : State :=
  (s.modProbe r t (fun p => { p with cshkStep := step, cshkAck := false, ift := { p.ift with cshkWait := true, settled := false } })).emit (.cshk r t step)

/-- Slot 0 of a segment or of a reading is discarded (R106, R124). -/
def State.dropSlot0 (s : State) (r t : Nat) : State :=
  if ((s.probe r t).slot 0).st = .free then s else s.discardSlot r t 0

/-- `TP_IFT_TIME` in units of 256 HCLK (R138). -/
def ProbeIft.timeField (i : ProbeIft) : Nat := saturate 32 (i.time / 256)

/-- IFT_RESULT at the end of a pass (R124). -/
def State.sendPassResult (s : State) (r t : Nat) : State :=
  let i := (s.probe r t).ift
  s.send (msgIftResult r t i.pass true i.allPassed i.firstFail i.failKind false i.timeField)

/-- IFT_RESULT of a failure that its re-runs have judged, within a pass (R132): it carries the pattern and its latest failure's kind (assumption 135). -/
def State.sendFailResult (s : State) (r t : Nat) (confirmed : Bool) : State :=
  let i := (s.probe r t).ift
  s.send (msgIftResult r t i.pass false false i.pat (s.get Reg.TP_IFT_FAIL_KIND (pid r t)) confirmed i.timeField)

/-- A pass begins (R124): pass numbers of passes wrap modulo 128 (R122). -/
def State.startPass (s : State) (r t n : Nat) : State :=
  (s.modIft r t (fun i => { i with pass := n % 128, step := 0, walking := false, allPassed := true, firstFail := 0, failKind := 0 })).requestSegment r t 0 .pass

/-- The walk begins, or begins again, at step 1 under the present band (R126, R128). -/
def State.startWalk (s : State) (r t : Nat) : State :=
  let band := (s.probe r t).band
  (s.modIft r t (fun i => { i with walking := true, state := .walk, band := band, step := 1, seg := .step })).driveCshk r t 1

/-- The walk is over: its registers and MW_RESULT (R124, R126, R128, R134, R138). -/
def State.closeWalk (s : State) (r t : Nat) (valid bandchg cshkto : Bool) : State :=
  let i := (s.probe r t).ift
  let s := s.setAll (pid r t) [(Reg.TP_MW_LAST_MARGIN, if valid then i.margin else 0), (Reg.TP_MW_LAST_BAND, i.band), (Reg.TP_MW_LAST_VALID, flag valid),
    (Reg.TP_MW_LAST_BANDCHG, flag bandchg), (Reg.TP_MW_LAST_CSHKTO, flag cshkto), (Reg.TP_MW_LAST_B4STOP, flag i.b4stop),
    (Reg.TP_MW_LAST_RESTARTS, min 2 i.restarts), (Reg.TP_MW_LAST_WOBBLES, saturate 4 i.wobbles)]
  let s := s.modIft r t (fun i => { i with walking := false, walkDone := true, step := 0 })
  s.send (msgMwResult r t (if valid then i.margin else 0) i.band valid bandchg cshkto)

/-- The walk ends and the passes go on (R124, R128, R134). -/
def State.endWalk (s : State) (r t : Nat) (valid bandchg cshkto : Bool) : State :=
  let n := (s.probe r t).ift.pass + 1
  (s.closeWalk r t valid bandchg cshkto).startPass r t n

/-- The loop of the walk ends with a margin: step 0 and the restore check follow (R126). -/
def State.walkRestore (s : State) (r t margin : Nat) : State :=
  (s.modIft r t (fun i => { i with margin := margin, seg := .restore, step := 0 })).driveCshk r t 0

/-- The next MARGIN pattern of the step, or the next step (R126). -/
def State.walkNext (s : State) (r t : Nat) : State :=
  let i := (s.probe r t).ift
  match (s.marginPatterns r).find? (fun k => decide (i.pat < k)) with
  | some k => s.requestSegment r t k .step
  | none =>
    if i.step ≥ 15 then s.walkRestore r t 15
    else (s.modIft r t (fun i => { i with step := i.step + 1, seg := .step })).driveCshk r t (i.step + 1)

/-- The next pattern of the pass, or its end (R124). -/
def State.passNext (s : State) (r t : Nat) : State :=
  let i := (s.probe r t).ift
  if i.pat + 1 < (s.hub r).patterns.length then s.requestSegment r t (i.pat + 1) .pass
  else
    let s := s.sendPassResult r t
    if i.pass = 0 ∧ i.mwen ∧ i.walkDone = false ∧ (s.probe r t).band ≠ 4 then s.startWalk r t else s.startPass r t (i.pass + 1)

/-- The program stops with IFT_STOPPED, once TPI_CSHK is acknowledged at step 0 (R136). -/
def State.stopIft (s : State) (r t : Nat) : State :=
  let s := if ((s.probe r t).slot 0).job = .ift then s.dropSlot0 r t else s
  let s := s.modProbe r t (fun p => { p with xown := p.xown && decide (p.move.isSome ∨ p.readOrder.isSome), ift := { p.ift with state := .stopped, desc := none, next := none, asked := none, suspended := false } })
  if (s.probe r t).cshkStep ≠ 0 then (s.modIft r t (fun i => { i with stopping := true })).driveCshk r t 0
  else if (s.probe r t).ift.cshkWait then s.modIft r t (fun i => { i with stopping := true })
  else (s.modIft r t (fun i => { i with stopping := false })).send (msgIftStopped r t)

/-- A failure at step 0 is confirmed (R132): a walk ends without a sample, the hub is told, and the visit's program stops. -/
def State.confirmFailure (s : State) (r t : Nat) : State :=
  let s := if (s.probe r t).ift.walking then s.closeWalk r t false false false else s
  ((s.sendFailResult r t true).set Reg.TP_IFT_FAIL_CONFIRMED (pid r t) 1).modIft r t (fun i => { i with state := .stopped, confirmed := true, next := none, asked := none })

/-- What follows a segment that passed (R126, R132). A walk whose restore check proves a transient yields no sample (assumption 136). -/
def State.segmentPassed (s : State) (r t : Nat) : State :=
  let i := (s.probe r t).ift
  match i.seg with
  | .pass => s.passNext r t
  | .step => s.walkNext r t
  | .stepAgain => (s.modIft r t (fun i => { i with wobbles := i.wobbles + 1 })).walkNext r t
  | .restore => s.endWalk r t true false false
  | .rerun1 => s.requestSegment r t i.pat .rerun2
  | .rerun2 =>
    if i.rerunFail then s.confirmFailure r t
    else
      let s := s.sendFailResult r t false
      if i.walking then s.endWalk r t false false false else s.passNext r t

/-- What follows a segment that failed with a kind (R123, R126, R132). -/
def State.segmentFailed (s : State) (r t kind : Nat) : State :=
  let i := (s.probe r t).ift
  let note := fun (i : ProbeIft) => if i.allPassed then { i with allPassed := false, firstFail := i.pat, failKind := kind, rerunFail := false }
    else { i with rerunFail := false }
  match i.seg with
  | .pass => (s.modIft r t note).requestSegment r t i.pat .rerun1
  | .restore => (s.modIft r t (fun i => { i with rerunFail := false })).requestSegment r t i.pat .rerun1
  | .step => s.requestSegment r t i.pat .stepAgain
  | .stepAgain => s.walkRestore r t (i.step - 1)
  | .rerun1 => (s.modIft r t (fun i => { i with rerunFail := true })).requestSegment r t i.pat .rerun2
  | .rerun2 => s.confirmFailure r t

/-- A segment ends with a kind, 0 for a pass (R123): its registers, and what follows; a stop ordered for the segment's end is taken (R137). -/
def State.endSegment (s : State) (r t kind : Nat) (x : Slot) (outcome : Nat) : State :=
  let i := (s.probe r t).ift
  let n := pid r t
  let s := s.dropSlot0 r t
  let s := if kind = 0 then s else s.setAll n [(Reg.TP_IFT_FAIL_PAT, i.pat), (Reg.TP_IFT_FAIL_KIND, kind), (Reg.TP_IFT_FAIL_STEP, i.step),
    (Reg.TP_IFT_FAIL_PASS, i.pass), (Reg.TP_IFT_FAIL_CONFIRMED, 0), (Reg.TP_IFT_SIG_SA, x.sa), (Reg.TP_IFT_SIG_SB, x.sb), (Reg.TP_IFT_SIG_BEATS, x.ebeats),
    (Reg.TP_IFT_SIG_OUTCOME, outcome), (Reg.TP_IFT_SIG_PAT, i.pat)]
  if i.stopping then s.stopIft r t
  else if kind = 0 then s.segmentPassed r t else s.segmentFailed r t kind

/-- A reading or B4 suspends the segment in hand, and step 0 is driven (R128, R136). -/
def State.suspendIft (s : State) (r t : Nat) : State :=
  let p := s.probe r t
  if p.ift.running then
    let s := s.dropSlot0 r t
    let s := s.modIft r t (fun i => { i with state := .wait, suspended := true, desc := none })
    if p.cshkStep ≠ 0 then s.driveCshk r t 0 else s
  else s

/-- A suspended program goes on: the segment restarts from its fill, and the walk at its step from its first MARGIN pattern (R136). -/
def State.resumeIft (s : State) (r t : Nat) : State :=
  let p := s.probe r t
  if p.ift.suspended ∧ p.band ≠ 4 ∧ p.readOrder.isNone ∧ p.fence ≠ .stopped then
    let s := s.modIft r t (fun i => { i with suspended := false, state := if i.walking then .walk else .fill })
    if p.ift.inLoop then
      (s.modIft r t (fun i => { i with seg := if i.seg = .restore then .restore else .step })).driveCshk r t p.ift.step
    else s.requestSegment r t p.ift.pat p.ift.seg
  else s

/-- The reader presents its header once every unit is written, TPI_CSHK is at step 0 and the band is below B4 (R106, R117, R136). -/
def State.tryPresent (s : State) (r t : Nat) : State :=
  let p := s.probe r t
  match p.readOrder with
  | none => s
  | some o =>
    if o.presented ∨ o.got < o.units ∨ p.band = 4 ∨ p.cshkStep ≠ 0 ∨ p.ift.cshkWait ∨ p.fence = .stopped then s
    else (s.setProbe r t { p with readOrder := some { o with presented := true }, xown := false, xownAck := false }).emit (.icmd r t o.hdr)

/-- A reading at the reader ends: slot 0 is discarded and IFT goes on (R106, R108). -/
def State.endReader (s : State) (r t : Nat) : State :=
  let s := (s.dropSlot0 r t).modProbe r t (fun p => { p with readOrder := none, xown := p.xown && p.move.isSome })
  s.resumeIft r t

end Sys2Proof.Machine
end

