-- ==== Sys2Proof/Machine/ReadingOps.lean ====
section
/-! DEFINITION. The hub's part of readings (R106, R109–R112): queues and readers, dispatch, alternate and third readers, agreement, majority,
abandonment and exposure windows. -/

namespace Sys2Proof.Machine

/-! ## Queues and readers -/

/-- What the hub keeps of a column's walk. -/
def Hub.walkOf (h : Hub) (c : Nat) : WalkState := tgetD {} c h.walk

/-- The state with a column's walk changed. -/
def State.modWalk (s : State) (r c : Nat) (f : WalkState → WalkState) : State :=
  s.modHub r (fun h => { h with walk := tput c (f (h.walkOf c)) h.walk })

/-- Records that wait for a column's reader or are served by it, oldest first. -/
def Hub.queueOf (h : Hub) (c : Nat) : List ReadRec := tgetD [] c h.readings

/-- The state with a column's queue replaced. -/
def State.setQueue (s : State) (r c : Nat) (l : List ReadRec) : State := s.modHub r (fun h => { h with readings := tput c l h.readings })

/-- The reader of a column: its GAP position (R111, R143). -/
def Hub.readerOf (h : Hub) (c : Nat) : Option Nat := (h.cat.gapRow c).map (fun row => tileAt row c)

/-- A reset Folio of a tenant holds back its readings (R184). -/
def Hub.resetting (h : Hub) (t : Nat) : Bool :=
  h.fl.open_.any (fun f => f.st != .receiving && f.st != .voided && f.acts.any (fun a => a.act == 0x10 && a.tenant == t))

/-- Tenant of a record. -/
def ReadRec.tenant (x : ReadRec) : Nat := x.hdr.tenant

/-- A record names the same slot as another. -/
def ReadRec.same (x y : ReadRec) : Bool := x.worker == y.worker && x.slot == y.slot

/-- The record that a column's free reader takes next; one of a tenant being reset waits (R106, R184). -/
def Hub.nextRecord (h : Hub) (c : Nat) : Option ReadRec :=
  if (h.queueOf c).any (·.running) then none else (h.queueOf c).find? (fun x => !h.resetting x.tenant)

/-- Columns whose reader may replace that of column `c` (R111). -/
def alternates (c : Nat) : List Nat := [c ^^^ 1, c ^^^ 2, c ^^^ 3]

/-- The first column of R111 that has a reader of its own which the reading has not used. -/
def Hub.alternate (h : Hub) (x : ReadRec) : Option Nat :=
  (alternates (tileCol x.worker)).find? (fun c => (h.readerOf c).isSome && !x.used.contains c)

/-- The column that serves a second reading: the worker's own, or an alternate (R111). -/
def Hub.serving (h : Hub) (x : ReadRec) : Option Nat :=
  let c := tileCol x.worker
  if (h.readerOf c).isSome ∧ x.used.contains c = false then some c else h.alternate x

/-- A tenant's reading counters changed (R118). -/
def State.modReads (s : State) (r t : Nat) (f : ReadCount → ReadCount) : State :=
  s.modHub r (fun h => { h with readCounts := tput t (f (tgetD {} t h.readCounts)) h.readCounts })

/-- A record leaves its queue; the time that it held the reader is the column's occupancy (R115). -/
def State.dropRec (s : State) (r c : Nat) (x : ReadRec) : State :=
  let s := s.setQueue r c (((s.hub r).queueOf c).filter (fun y => !y.same x))
  if x.running then s.modWalk r c (fun w => { w with occupied := w.occupied + ((s.hub r).gt - x.orderGt) }) else s

/-- The operands of a record reach a reader of column `c` over the Flue: a third reading's, and one's of another column (R110, R111). -/
def ReadRec.viaFlue (x : ReadRec) (c : Nat) : Bool := x.st == .third || tileCol x.worker != c

/-- RD_ORDER and RD_COPY of a record at its reader (R106, R108, R110). -/
def readOrders (s : State) (r c g : Nat) (x : ReadRec) : List Msg :=
  let viaFlue := x.viaFlue c
  let wrow := tileRow x.worker
  let grow := tileRow g
  let dir := if wrow < grow then 0 else 1
  let hops := if wrow < grow then grow - wrow else wrow - grow
  [msgRdOrder r g (s.accOf r g) viaFlue x.hdr (copyUnits x.hdr).length hops dir x.count x.u x.dom,
   msgRdCopy r x.worker (s.accOf r x.worker) viaFlue dir x.slot]

/-- A column's free reader takes the record at the head, unless a Folio of the column is prepared or global stop holds (R106, R109, R116, R184). -/
def State.dispatch (s : State) (r c : Nat) : State :=
  let h := s.hub r
  if h.stopLeaf ∨ (h.walkOf c).folio.isSome then s
  else match h.nextRecord c, h.readerOf c with
    | some x, some g =>
      let y := { x with st := if x.st = .third then .third else .copy, running := true, reader := some g, used := x.used ++ [c],
                        order := h.rdOrders, orderGt := h.gt, flue := x.viaFlue c, sent := 0 }
      let l := readOrders s r c g x
      let s := ((s.setQueue r c ((h.queueOf c).map (fun z => if z.same x then y else z))).modHub r (fun h => { h with rdOrders := h.rdOrders + 1 })).sendAll l
      if x.st = .third then s else s.modReads r x.tenant (fun n => { n with chosen := wrap 32 (n.chosen + 1) })
    | _, _ => s

/-- Every column of a region dispatches. -/
def State.dispatchAll (s : State) (r : Nat) : State := (List.range 32).foldl (fun s c => s.dispatch r c) s

/-- RD_AGREE for a record, which the watchdog takes as a sign of its tenant's progress (R106, R223). -/
def State.sendAgree (s : State) (r : Nat) (x : ReadRec) (unread : Bool) : State :=
  (s.send (msgRdAgree r x.worker (s.accOf r x.worker) x.slot x.hdr.htag unread)).modHub r (fun h =>
    { h with wd := { h.wd with agreed := if h.wd.agreed.contains x.tenant then h.wd.agreed else h.wd.agreed ++ [x.tenant] } })

/-- No reader may serve a record: its slot is released unread (R111). -/
def State.releaseUnread (s : State) (r : Nat) (x : ReadRec) : State :=
  ((s.sendAgree r x true).modReads r x.tenant (fun n => { n with unread := wrap 32 (n.unread + 1) })).raise
    Reg.RH_RD_EVENT_NOREADER r

/-- A record enters the queue of the column that serves it, at the tail or at the head (R109, R111). -/
def State.place (s : State) (r : Nat) (x : ReadRec) (front : Bool) : State :=
  match (s.hub r).serving x with
  | none => s.releaseUnread r x
  | some c =>
    let q := (s.hub r).queueOf c
    (s.setQueue r c (if front then x :: q else q ++ [x])).dispatch r c

/-! ## Outcomes -/

/-- RD_ABORT to a list of positions (R108). -/
def State.abortAt (s : State) (r : Nat) (l : List Nat) : State := s.sendAll (l.map (fun t => msgRdAbort r t (s.accOf r t)))

/-- READING trace record of a reading that ends: 0 agree, 1 reader minority, 2 worker minority, 3 no majority, 4 abandoned (R468). -/
def State.traceReading (s : State) (r : Nat) (x : ReadRec) (e : Nat) : State :=
  s.hubTrace r 5 x.tenant (pack [(0, 11, x.worker), (11, 3, e), (14, 8, x.hdr.htag)])

/-- A record ends as ABANDON: its probes are told (R109). -/
def State.abandon (s : State) (r c : Nat) (x : ReadRec) (toWorker : Bool) : State :=
  let probes := if x.running then (if toWorker then [x.worker] else []) ++ x.reader.toList else []
  ((((s.dropRec r c x).abortAt r probes).modReads r x.tenant (fun n => { n with aband := wrap 32 (n.aband + 1) })).raise Reg.RH_RD_EVENT_ABANDON r).traceReading r x 4

/-- Records of a region that a test picks end as ABANDON. -/
def State.abandonIf (s : State) (r : Nat) (test : ReadRec → Bool) (toWorker : Bool) : State :=
  (s.hub r).readings.foldl (fun s e => (e.2.filter test).foldl (fun s x => s.abandon r e.1 x toWorker) s) s

/-- Records whose worker slot no longer holds a READING command end as ABANDON (R109, R117). -/
def State.reapReadings (s : State) (r : Nat) : State :=
  (s.abandonIf r (fun x => ((s.probe r x.worker).slot x.slot).st != .reading) false).dispatchAll r

/-- Agreement: RD_AGREE, and the counts of what is released (R109, R112, R118, R223). -/
def State.agreeReading (s : State) (r : Nat) (x : ReadRec) : State :=
  let slot := (s.probe r x.worker).slot x.slot
  let s := s.sendAgree r x false
  let s := s.modReads r x.tenant (fun n => { n with agree := wrap 32 (n.agree + 1), macs := wrap 64 (n.macs + (if x.hdr.matrix then slot.macs else 0)),
                                                    elems := wrap 64 (n.elems + (if x.hdr.matrix then 0 else slot.elems)) })
  let b := s.book r x.worker
  s.setBook r x.worker { b with agreedGt := x.gt, unchecked := b.unchecked.filter (fun e => decide (x.gt < e.1)) }

/-- EXP_REPORT messages: at most five entries to a message (R134, R137). -/
def expReports (r gt0 gt1 x y cover : Nat) (ovf : Bool) (cause : Nat) (entries : List ExpEntry) : List Msg :=
  let cs := if entries = [] then [[]] else chunksOf 5 entries
  cs.zipIdx.map (fun e => msgExpReport r gt0 gt1 x y cover ovf e.2 (e.2 + 1 == cs.length) cause (e.1.map ExpEntry.flit))

/-- Two entries of one tenant as one: the epochs' and classes' union (R134). -/
def ExpEntry.merge (a b : ExpEntry) : ExpEntry :=
  { a with classes := a.classes ||| b.classes, efirst := min a.efirst b.efirst, elast := max a.elast b.elast, count := saturate 32 (a.count + b.count) }

/-- An entry put into a list, merged with its tenant's where that has one. -/
def addEntry (l : List ExpEntry) (e : ExpEntry) : List ExpEntry :=
  if l.any (fun x => x.tenant == e.tenant) then l.map (fun x => if x.tenant = e.tenant then x.merge e else x) else l ++ [e]

/-- The tenants whose NA or UNCHECKED outputs a tile released between two instants (R112). -/
def TileBook.exposedBetween (b : TileBook) (from_ to_ : Nat) : List ExpEntry :=
  (b.unchecked.filter (fun e => decide (from_ < e.1 ∧ e.1 ≤ to_))).foldl (fun l e => addEntry l e.2) []

/-- The exposure window of a worker found wrong: from its latest agreed reading to the decision of the failing command (R112). -/
def State.reportWorker (s : State) (r : Nat) (x : ReadRec) : State :=
  let b := s.book r x.worker
  let p := s.physXY r x.worker
  s.sendAll (expReports r b.agreedGt x.gt p.1 p.2 0x1F false 1 (b.exposedBetween b.agreedGt x.gt))

/-- `RH_RD_LAST` after a disagreement: 0 reader and 1 worker in minority, 2 no majority, 3 no third reader (R119). -/
def State.noteDisagreement (s : State) (r : Nat) (x : ReadRec) (third : Option (Nat × Nat × Nat)) (result : Nat) : State :=
  let g := x.second.getD (0, 0, 0)
  let t := third.getD (0, 0, 0)
  s.setAll r [(Reg.RH_RD_LAST_WSA, x.sa), (Reg.RH_RD_LAST_WSB, x.sb), (Reg.RH_RD_LAST_GSA, g.1), (Reg.RH_RD_LAST_GSB, g.2.1),
    (Reg.RH_RD_LAST_TSA, t.1), (Reg.RH_RD_LAST_TSB, t.2.1), (Reg.RH_RD_LAST_TENANT, x.tenant), (Reg.RH_RD_LAST_WCOL, tileCol x.worker),
    (Reg.RH_RD_LAST_WROW, tileRow x.worker), (Reg.RH_RD_LAST_GROW, tileRow x.secondTile),
    (Reg.RH_RD_LAST_TCOL, if third.isSome then tileCol (x.reader.getD 0) else 0), (Reg.RH_RD_LAST_TROW, if third.isSome then tileRow (x.reader.getD 0) else 0),
    (Reg.RH_RD_LAST_RESULT, result), (Reg.RH_RD_LAST_TVALID, flag third.isSome), (Reg.RH_RD_LAST_HTAG, x.hdr.htag)]

/-- No majority: the worker's slot is discarded behind a fence, its fault is raised, and the reader is quenched too (R110, R112). -/
def State.noMajority (s : State) (r : Nat) (x : ReadRec) (third : Option (Nat × Nat × Nat)) : State :=
  let s := (s.noteDisagreement r x third (if third.isSome then 2 else 3)).traceReading r x 3
  let s := s.send (msgRdDiscard r x.worker (s.accOf r x.worker) x.slot x.hdr.htag true 1)
  let s := (s.modReads r x.tenant (fun n => { n with nomaj := wrap 32 (n.nomaj + 1) })).raise Reg.RH_RD_EVENT_NOMAJ r
  let s := if third.isSome then s else s.raise Reg.RH_RD_EVENT_NOTHIRD r
  let s := s.hubFault r (probeSrc r x.worker) 0x103 x.tenant (pack [(0, 8, x.hdr.htag), (8, 6, tileRow x.secondTile)])
  (s.reportWorker r x).requestQuench r x.secondTile 4

/-- The majority table (R110), with the third reading's signature. -/
def State.majority (s : State) (r : Nat) (x : ReadRec) (t : Nat × Nat × Nat) : State :=
  if t = (x.sa, x.sb, x.beats) then
    let s := ((s.noteDisagreement r x (some t) 0).agreeReading r x).traceReading r x 1
    let s := (s.modReads r x.tenant (fun n => { n with gmin := wrap 32 (n.gmin + 1) })).raise Reg.RH_RD_EVENT_RDMIN r
    s.hubFault r (probeSrc r x.secondTile) 0x101 x.tenant x.hdr.htag
  else if some t = x.second then
    let s := (s.noteDisagreement r x (some t) 1).traceReading r x 2
    let s := s.send (msgRdDiscard r x.worker (s.accOf r x.worker) x.slot x.hdr.htag true 0)
    let s := (s.modReads r x.tenant (fun n => { n with wmin := wrap 32 (n.wmin + 1) })).raise Reg.RH_RD_EVENT_WKMIN r
    (s.hubFault r (probeSrc r x.worker) 0x102 x.tenant x.hdr.htag).reportWorker r x
  else s.noMajority r x (some t)

/-- A third reading is opened, or none can be (R109–R111). -/
def State.openThird (s : State) (r : Nat) (x : ReadRec) : State :=
  let y := { x with st := .third, running := false, reader := none }
  match (s.hub r).alternate y with
  | none => s.noMajority r x none
  | some c => (s.setQueue r c (y :: (s.hub r).queueOf c)).dispatch r c

/-- A reader fails during a reading (R109): the worker stops sending, and the next reader takes the record at its head. -/
def State.readerFault (s : State) (r c : Nat) (x : ReadRec) (bounced : Bool) : State :=
  let s := s.dropRec r c x
  if x.st = .third then (s.abortAt r ([x.worker] ++ (if bounced then [] else x.reader.toList))).openThird r x
  else (s.abortAt r [x.worker]).place r { x with st := .queued, running := false, reader := none } true

/-- RD_REPORT at the hub (R109, R110). -/
def State.reported (s : State) (r c : Nat) (x : ReadRec) (t : Nat × Nat × Nat) : State :=
  let s := s.dropRec r c x
  if x.st = .third then s.majority r x t
  else if t = (x.sa, x.sb, x.beats) then (s.agreeReading r x).traceReading r x 0
  else (s.raise Reg.RH_RD_EVENT_DISAGREE r).openThird r { x with st := .run, second := some t, secondTile := x.reader.getD 0 }

/-- A region's columns whose reader has gone: a reading that ran takes the reader-fault row, and waiting records move to an alternate or end
unread (R109, R111). -/
def State.rehome (s : State) (r : Nat) : State :=
  ((s.hub r).readings.filter (fun e => e.2 != [] && ((s.hub r).readerOf e.1).isNone)).foldl (fun s e =>
    e.2.foldl (fun s x =>
      if x.running then s.readerFault r e.1 x false
      else if x.st = .third then (s.dropRec r e.1 x).openThird r x
      else (s.dropRec r e.1 x).place r x false) s) s

end Sys2Proof.Machine
end

