-- ==== Sys2Proof/Machine/CatOps.lean ====
section
/-! DEFINITION. A hub's part in Folios (R152–R156, R164, R180–R184): checks and holds at the prepare, the vote, orders at the seal, the
application, and the visits of the gap that it begins and ends (R124, R125, R133). -/

namespace Sys2Proof.Machine

/-! ## Holds and votes -/

/-- A Folio open at a hub. -/
def Hub.folioOf (h : Hub) (n : Nat) : Option HubFolio := h.fl.open_.find? (fun f => f.number == n)

/-- The state with a hub's Folio replaced. -/
def State.setHubFolio (s : State) (r : Nat) (f : HubFolio) : State :=
  s.modHub r (fun h => { h with fl := { h.fl with open_ := h.fl.open_.map (fun g => if g.number = f.number then f else g) } })

/-- Is this a Catalogue action on a column? -/
def Act.onColumn (a : Act) : Bool := decide (a.act ≤ 3)

/-- Rows of a column that a Catalogue action moves from, the quenched one left out (R152, R156). -/
def CatPart.heldRows (p : CatPart) (a : Act) : List Nat :=
  if a.act = 0x01 then (p.movingRow a.col).toList
  else if a.act = 0x02 then
    ((p.applyAct a 0).2.flatMap (fun ch => ch.moves.map (·.src))).filter (· != a.row)
  else []

/-- Is the row a Folio quenches the gap of its column? -/
def CatPart.quenchesGap (p : CatPart) (a : Act) : Bool := a.act == 0x02 && p.gapRow a.col == some a.row

/-- The vote code of a hub's checks at the prepare, 0 for yes: its Catalogue actions in record order, and a key for every ASSIGN (R170, R178). -/
def Hub.check (h : Hub) (acts : List Act) : Nat :=
  let keyed := fun (a : Act) => (tget a.tenant h.keys).isSome || acts.any (fun k => k.act == 0x06 && k.tenant == a.tenant)
  if acts.any (fun a => a.act == 0x04 && !keyed a) then 4 else h.cat.checkAll acts

/-- A reading in COPY or RUN (R116). -/
def ReadRec.unsettled (x : ReadRec) : Bool := x.running && (x.st == .copy || x.st == .run)

/-- A column is settled for its Folio (R116, R152, R156, R164): every position idle, IFT stopped, no reading running on its reader unless that
reader is itself quenched, and no move running. -/
def Hub.settled (h : Hub) (a : Act) : Bool :=
  let w := h.walkOf a.col
  w.awaitIdle.isEmpty && !w.awaitIft && w.moving.isEmpty && (a.act == 0x03 || h.cat.quenchesGap a || !(h.queueOf a.col).any ReadRec.unsettled)

/-- Every condition of a Folio's actions is met, and the hub holds its part of an amendment: the hub votes yes (R180, R432). -/
def State.tryVote (s : State) (r n : Nat) : State :=
  let h := s.hub r
  match h.folioOf n with
  | none => s
  | some f =>
    let holds := (f.acts.filter (fun a => a.act == 0x20)).all (fun a => h.parts.contains (bits a.arg 32 4))
    if f.st = .preparing ∧ (f.acts.filter Act.onColumn).all h.settled ∧ holds then
      ((s.setHubFolio r { f with st := .yes }).send (msgFlVote r n 0 h.gt)).traceFolio r n 1 0 false
    else s

/-- Every Folio that a region's hub is preparing is looked at again. -/
def State.tryVotes (s : State) (r : Nat) : State := (s.hub r).fl.open_.foldl (fun s f => s.tryVote r f.number) s

/-- After a reading has ended: readers take what waits, and prepared Folios are voted on (R109, R116). -/
def State.afterReading (s : State) (r : Nat) : State := (s.dispatchAll r).tryVotes r

/-- The hub votes void on a Folio that it has not seen decided (R177, R178). -/
def State.voteVoid (s : State) (r n code : Nat) : State :=
  match (s.hub r).folioOf n with
  | some f => if f.st = .preparing ∨ f.st = .yes then s.hubVoteVoid r n code else s
  | none => s

/-- IFT runs at a column's gap, or has been told to. -/
def State.iftAt (s : State) (r t : Nat) : Bool := (s.probe r t).ift.state != .stopped && (s.probe r t).ift.state != .idle

/-- The holds of one Catalogue action (R136, R152, R156, R184). -/
def State.holdColumn (s : State) (r n : Nat) (a : Act) : State :=
  let h := s.hub r
  let held := (h.cat.heldRows a).map (fun row => tileAt row a.col)
  let gap := if a.act = 0x03 ∨ h.cat.quenchesGap a then none else h.readerOf a.col
  let s := s.modWalk r a.col (fun w => { w with folio := some n, awaitIdle := held, awaitIft := gap.isSome })
  let s := s.sendAll (held.map (fun t => msgCatHold r t (s.accOf r t) true))
  match gap with
  | some g => s.send (msgIftStop r g (s.accOf r g) true)
  | none => s

/-- IFT_START for a column's gap (R124, R136). -/
def State.startVisitMsg (s : State) (r c : Nat) : State :=
  match (s.hub r).readerOf c with
  | some g => s.send (msgIftStart r g (s.accOf r g) (s.on Reg.RH_IFT_CTRL_MWEN r))
  | none => s

/-- Tenants of the shelfmark that a step of a column would move. -/
def CatPart.movingHolders (p : CatPart) (c : Nat) : List Nat :=
  match p.movingRow c with
  | some row => (match p.lrowOf c row with | some l => p.holdersOf c l | none => [])
  | none => []

/-- The barriers of a column once it has stepped, or failed to, for the tenants of a shelfmark (R151, R152, R154). -/
def WalkState.stepFor (w : WalkState) (l : List Nat) : List (Nat × Nat) := w.barrier.filter (fun b => !l.contains b.1)

/-- A step is voided: it is taken at the tenants' next barrier, and a listed one is missed (R152, R154). -/
def State.stepVoided (s : State) (r c : Nat) : State :=
  let l := (s.hub r).cat.movingHolders c
  let s := s.modWalk r c (fun w => { w with proposed := false, barrier := w.stepFor l })
  if s.on Reg.RH_CAT_CTRL_TREN r ∧ l ≠ [] then
    l.foldl (fun s t => s.modHub r (fun h => { h with misses := tput t (tgetD 0 t h.misses + 1) h.misses })) (s.raise Reg.RH_CAT_EVENT_TRMISS r)
  else s

/-- The holds of a Catalogue action end at a void: CAT_HOLD is released, IFT starts again, readings go on (R136, R164, R180). -/
def State.releaseColumn (s : State) (r : Nat) (a : Act) : State :=
  let h := s.hub r
  let held := (h.cat.heldRows a).map (fun row => tileAt row a.col)
  let s := s.modWalk r a.col (fun w => { w with folio := none, awaitIdle := [], awaitIft := false })
  let s := s.sendAll (held.map (fun t => msgCatHold r t (s.accOf r t) false))
  let s := if a.act = 0x03 ∨ h.cat.quenchesGap a then s else s.startVisitMsg r a.col
  let s := if a.act = 0x01 then s.stepVoided r a.col else s
  s.dispatch r a.col

/-! ## The prepare and the seal -/

/-- All parts of a prepare have come: the checks, then the holds, then the vote (R180). A replay is neither checked nor voted on (R186). -/
def State.hubPrepare (s : State) (r : Nat) (f : HubFolio) : State :=
  if f.replay then (s.setHubFolio r { f with st := .yes }).traceFolio r f.number 1 0 false
  else
    let code := (s.hub r).check f.acts
    let s := s.setHubFolio r { f with st := .preparing }
    if code ≠ 0 then s.hubVoteVoid r f.number code
    else ((f.acts.filter Act.onColumn).foldl (fun s a => s.holdColumn r f.number a) s).tryVote r f.number

/-- CAT_ROLE of a position whose role or logical row changes (R165). -/
def State.roleOrder (s : State) (r : Nat) (old new : CatPart) (ch : ColChange) (gt row : Nat) : Msg :=
  let t := tileAt row ch.col
  let x := new.at t
  let l := (new.lrowOf ch.col row).getD 0
  let out := ch.moves.find? (fun m => m.src == row)
  let inc := ch.moves.find? (fun m => m.dst == row)
  let dist := fun (m : Move) => if m.src < m.dst then m.dst - m.src else m.src - m.dst
  msgCatRole r t (old.at t).accession x.role.code (if x.role = .service then s.shelfX r ch.col else 0) (if x.role = .service then s.shelfY r l else 0)
    x.accession out.isSome (out.elim 0 (fun m => if m.src < m.dst then 0 else 1)) inc.isSome (inc.elim false (fun m => decide (m.src < m.dst)))
    ((inc.orElse (fun _ => out)).elim 0 dist) gt

/-- Probes of a region that hold a context of a tenant. -/
def State.probesOf (s : State) (r tenant : Nat) : List Nat :=
  (s.probes.filter (fun e => e.1 / 2048 == r && (e.2.ctxOf tenant).isSome)).map (fun e => e.1 % 2048)

/-- The orders that a sealed Folio sends to its probes: CAT_ROLE and FL_TDROP, carrying T (R165, R190). -/
def State.sealOrders (s : State) (r : Nat) (f : HubFolio) : List Msg :=
  let old := (s.hub r).cat
  let (new, chs) := old.applyAll 0 f.acts
  chs.flatMap (fun ch => ch.changed.map (s.roleOrder r old new ch f.sealt))
    ++ (f.acts.filter (fun a => a.act == 0x10)).flatMap (fun a => (s.probesOf r a.tenant).map (fun t => msgFlTdrop r t (s.accOf r t) a.tenant f.sealt))

/-- FL_SEAL at a hub (R180, R182, R186): the application instant, 48 HCLK ahead where the seal comes late, and the orders. -/
def State.hubSeal (s : State) (r : Nat) (f : HubFolio) (t : Nat) (replay : Bool) : State :=
  let gt := (s.hub r).gt
  let late := replay || decide (t < gt + 48)
  let f := { f with st := .sealed, sealt := if late then gt + 48 else t, late := late, replay := replay }
  let s := (s.setHubFolio r f).traceFolio r f.number 3 0 late
  s.sendAll (s.sealOrders r f)

/-! ## Visits (R124, R125, R133) -/

/-- Dwell of a region in HCLK (R168). -/
def State.dwell (s : State) (r : Nat) : Nat := max 10 (min 60000 (s.get Reg.RH_CAT_DWELL_MS r)) * s.cfg.rclk / 4

/-- The IFT quota of a visit is met (R125). -/
def State.quotaMet (s : State) (r t : Nat) : Bool :=
  let b := s.book r t
  let share := min 100 (s.get Reg.RH_RD_CTRL_SHARE r)
  (b.visitPass0 || b.visitFail) && (b.visitWalk || !s.on Reg.RH_IFT_CTRL_MWEN r)
    && decide (s.dwell r * (100 - share) ≤ b.visitTime * 256 * 100)

/-- A visit begins at a position (R124). -/
def TileBook.beginVisit (b : TileBook) (gt : Nat) : TileBook :=
  { b with visitGt := gt, visitPass0 := false, visitWalk := false, visitFail := false, visitEntry := false, visitSpare := none, passTransient := false, visitShort := false, visitTime := 0, visitLow := b.lowRun }

/-- A visit ends (R125, R133): a full one that confirmed no failure clears the exposed-command list; a short one marks or drops its history entry
and leaves the low-margin count as it was. -/
def TileBook.endVisit (b : TileBook) (short : Bool) (gt : Nat) : TileBook :=
  if short then
    { b with visitShort := true, lowRun := b.visitLow, history := if b.visitEntry then (match b.history with
        | e :: rest => if e.valid then { e with short := true } :: rest else rest ++ b.visitSpare.toList
        | [] => []) else b.history }
  else if b.visitFail then b
  else { b with exposed := [], ovf := false, clearedGt := gt }

/-- The visit at a column's gap ends at a seal (R125). -/
def State.endVisitAt (s : State) (r t gt : Nat) : State :=
  let short := !s.quotaMet r t
  s.setBook r t ((s.book r t).endVisit short gt)

/-! ## Steps that become due (R151, R154) -/

/-- A barrier that the list of R154 names. -/
def State.listed (s : State) (r e : Nat) : Bool :=
  let n := max 1 (s.get Reg.RH_CAT_TRLIST_PERIOD r)
  decide ((Int.ofNat e - Int.ofNat (s.get Reg.RH_CAT_TRLIST_PHASE r)) % Int.ofNat n = 0)

/-- A column's step conditions hold (R151, R154). -/
def State.stepReady (s : State) (r c : Nat) : Bool :=
  let h := s.hub r
  let w := h.walkOf c
  let l := h.cat.movingHolders c
  let at_ := fun (test : Nat → Bool) => l.all (fun t => w.barrier.any (fun b => b.1 == t && test b.2))
  h.cat.stateOf c == .walk && (h.cat.movingRow c).isSome && !w.proposed && w.folio.isNone && !bit (s.get Reg.RH_CAT_HOLD_COL r) c
    && (if s.on Reg.RH_CAT_CTRL_TREN r then (if l = [] then w.dwellPassed else at_ (s.listed r))
        else w.dwellPassed && (w.shortAllowed || ((h.readerOf c).map (s.quotaMet r)).getD false) && (l == [] || at_ (fun _ => true)))

/-- The hub proposes the steps of the columns that are ready, in one Folio (R151); one that goes ahead with its quota unmet is a short visit
(R115). -/
def State.proposeSteps (s : State) (r : Nat) (cols : List Nat) : State :=
  let l := ((cols.filter (s.stepReady r)).eraseDups).take 32
  if l = [] then s
  else
    let short := l.any (fun c => !s.on Reg.RH_CAT_CTRL_TREN r && !(((s.hub r).readerOf c).map (s.quotaMet r)).getD false)
    let s := l.foldl (fun s c => s.modWalk r c (fun w => { w with proposed := true })) s
    let s := if short then s.raise Reg.RH_RD_EVENT_IFTSHORT r else s
    s.hubPropose r false (l.map (fun c => { act := 0x01, region := r, col := c }))

/-! ## The application -/

/-- Role history of a position after a seal (R162). -/
def roleEntry (p : CatPart) (t : Nat) : RoleEntry :=
  let l := p.lrowOf (tileCol t) (tileRow t)
  { accession := (p.at t).accession, role := (p.at t).role, lrow := l.getD 0, shelf := l }

/-- Role history of a position, its present role included. -/
def Hub.rolesOf (h : Hub) (t : Nat) : List RoleEntry := tgetD [roleEntry h.cat t] t h.roles

/-- Push the new role of changed positions. -/
def Hub.pushRoles (h : Hub) (old : CatPart) (l : List Nat) : Hub :=
  { h with roles := l.foldl (fun t x => tput x ((roleEntry h.cat x :: tgetD [roleEntry old x] x t).take 4) t) h.roles }

/-- A Kiln fault that is a consequence of a Folio, with the notices that it calls for (R158, R187, R212). -/
def State.conseqFault (s : State) (unit kind addr number : Nat) (notices : List (Nat × Nat × Nat × Nat)) : State :=
  let m : FaultMsg := { src := kilnSrc unit 0, kind := kind, tenant := 0, addr := addr, gtlo := wrap 24 s.gt }
  { s with flt := { s.flt with queue := s.flt.queue ++ [m], conseq := s.flt.conseq ++ [{ msg := m, folio := number, notices := notices }] } }

/-- The notices of orphaned shelfmarks (R158): ORPHANED for each, and ROLLBACK for each tenant with a context there. -/
def State.orphanNotices (s : State) (r c : Nat) (p : CatPart) (l : List Nat) : List (Nat × Nat × Nat × Nat) :=
  l.map (fun lrow => (4, 0, s.shelfX r c, s.shelfY r lrow))
    ++ l.flatMap (fun lrow => (p.holdersOf c lrow).map (fun t => (2, t, s.shelfX r c, s.shelfY r lrow)))

/-- CAT_REPORT of a column, with the latest of its partial moves (R150). -/
def State.sendCatReport (s : State) (r c : Nat) : State :=
  let p := (s.hub r).cat
  let q := p.quenchedRows c
  let q := if (p.col c).quenched.isEmpty then q else (p.col c).quenched
  let part := ((s.hub r).walkOf c).partials.getLast?
  s.send (msgCatReport r c (p.stateOf c).code (q.getD 0 63) (q.getD 1 63) part.isSome (if part.isSome then s.shelfX r c else 0)
    (part.elim 0 (s.shelfY r)))

/-- What a changed column means beyond its map: moves are awaited, state events and column faults (R150, R158). -/
def State.columnChanged (s : State) (r number : Nat) (old : CatPart) (ch : ColChange) : State :=
  let new := (s.hub r).cat
  let was := old.stateOf ch.col
  let now := new.stateOf ch.col
  let stepped := if was = .walk ∧ now = .walk then old.movingHolders ch.col else []
  let s := s.modWalk r ch.col (fun w => { w with folio := none, awaitIdle := [], awaitIft := false, moving := ch.moves.map (fun m => tileAt m.dst ch.col),
                                                 moves := ch.moves.map (fun m => (tileAt m.src ch.col, tileAt m.dst ch.col)), partials := [],
                                                 proposed := false, dwellPassed := false, shortAllowed := false, barrier := w.stepFor stepped })
  let s : State := if was = now then s else match now with
    | .walk => s
    | .parked => s.raise Reg.RH_CAT_EVENT_PARK r
    | .exhausted => (s.raise Reg.RH_CAT_EVENT_EXHAUST r).conseqFault 0x1A 0x202 ch.col number (s.orphanNotices r ch.col new [31])
    | .closed => (s.raise Reg.RH_CAT_EVENT_CLOSE r).conseqFault 0x1A 0x203 ch.col number (s.orphanNotices r ch.col new (List.range 32))
  if ch.moves = [] then s.sendCatReport r ch.col else s

/-- The gap of a changed column: the old visit ends, and the new gap's begins with IFT_START (R124, R125). -/
def State.moveVisit (s : State) (r : Nat) (old : CatPart) (ch : ColChange) (gt : Nat) : State :=
  let before := old.gapRow ch.col
  let after := (s.hub r).cat.gapRow ch.col
  if before = after then s
  else
    let s : State := match before with
      | some g => s.endVisitAt r (tileAt g ch.col) gt
      | none => s
    match after with
    | some g => (s.setBook r (tileAt g ch.col) ((s.book r (tileAt g ch.col)).beginVisit gt)).startVisitMsg r ch.col
    | none => s

/-- The context of a tenant at a position after a seal: CAT_CTX with the accession number of the new map (R146, R165). -/
def State.ctxOrders (s : State) (r : Nat) (a : Act) : List Msg :=
  let p := (s.hub r).cat
  let (key, d) := tgetD (0, 0) a.tenant (s.hub r).keys
  ((List.range (bits a.arg 0 5 + 1)).filterMap (fun i => p.rowOf a.col (a.row + i))).map (fun row =>
    let t := tileAt row a.col
    msgCatCtx r t (s.accOf r t) (a.act == 0x04) a.tenant key d)

/-- Effects of one action at a hub beside its map (R146, R170, R190, R328). -/
def State.applyHubAct (s : State) (r : Nat) (f : HubFolio) (a : Act) : State :=
  if a.act = 0x04 then (s.sendAll (s.ctxOrders r a)).activate a.tenant
  else if a.act = 0x05 then s.sendAll (s.ctxOrders r a)
  else if a.act = 0x06 then
    s.modHub r (fun h => { h with keys := tput a.tenant (a.arg, a.aux) h.keys, readCounts := tput a.tenant {} h.readCounts, ep := { h.ep with readBase := tdel a.tenant h.ep.readBase } })
  else if a.act = 0x10 then
    let s := s.abandonIf r (fun x => x.tenant == a.tenant) true
    s.modHub r (fun h => { h with keys := tdel a.tenant h.keys })
  else if a.act = 0x12 then (if f.replay then s else s.sweepHub r a f.sealt)
  else s

/-- A tenant reset at a probe (R190): the tenant's unreleased slots and its context go. -/
def State.tenantDrop (s : State) (r t tenant : Nat) : State :=
  let s := s.modProbe r t (fun p => { p with resets := p.resets.filter (fun d => d.1 != tenant) })
  (s.dropSlots r t tenant false).removeCtx r t tenant

/-- Probes of a region whose tenant drop is due at an instant act on it (R190, R232). -/
def State.dropsAt (s : State) (r gt : Nat) : State :=
  (s.probes.filter (fun e => e.1 / 2048 == r)).foldl (fun s e =>
    let t := e.1 % 2048
    let s := (e.2.drops.filter (fun d => d.2.2 == gt)).foldl (fun s d =>
      let s := s.modProbe r t (fun p => { p with drops := p.drops.filter (· != d) })
      s.dropSlots r t d.1 d.2.1) s
    (e.2.resets.filter (fun d => d.2 == gt)).foldl (fun s d => s.tenantDrop r t d.1) s) s

/-- The source of a move has slots that are not FREE at the seal (R150): of one that leaves service, whose unreleased slots are discarded there, only
RELEASED ones are left (R94, R155). -/
def State.busySource (s : State) (r : Nat) (o : MoveOrder) (t : Nat) : Bool :=
  let q := s.probe r (moveSource t o)
  let leaves : Bool := match q.roleNext with
    | some n => n.role != .service
    | none => q.role != .service
  o.recv && q.inOrder.any (fun i => !leaves || (q.slot i).st == .released)

/-- The probes of a region take the roles that are due (R148): what the sources hold is read before any of them changes. -/
def State.takeRoles (s : State) (r gt : Nat) : State :=
  let due := s.probes.filterMap (fun e => if e.1 / 2048 = r then
      (match e.2.roleNext with
       | some o => if o.gt = gt then some (e.1 % 2048, o) else none
       | none => none) else none)
  let l := due.map (fun e => (e.1, e.2, s.busySource r e.2 e.1))
  l.foldl (fun s e => s.takeRole r e.1 e.2.1 e.2.2) s

/-- Quenches of positions that held a tenant's shelfmarks are counted for its coverage (R294). -/
def State.countQuenches (s : State) (r : Nat) (old : CatPart) (acts : List Act) : State :=
  (acts.filter (fun a => a.act == 0x02)).foldl (fun s a =>
    let l : List Nat := match old.lrowOf a.col a.row with
      | some l => old.holdersOf a.col l
      | none => []
    l.foldl (fun s t => s.modHub r (fun h => { h with ep := { h.ep with quenches := tput t (tgetD 0 t h.ep.quenches + 1) h.ep.quenches } })) s) s

/-- CAT trace record of a position (R468). -/
def State.traceCat (s : State) (r t : Nat) (isPartial : Bool) : State :=
  let p := (s.hub r).cat
  let x := p.at t
  let c := tileCol t
  let shelf := match p.lrowOf c (tileRow t) with
    | some l => (s.shelfX r c, s.shelfY r l)
    | none => (0, 0)
  s.hubTrace r 4 0 (pack [(0, 11, t), (11, 2, x.role.code), (13, 20, x.accession), (33, 11, shelf.1), (44, 10, shelf.2), (54, 1, flag isPartial)])

/-- The application of a sealed Folio at a hub (R180, R182, R183): map, probes, contexts, visits, readings, and FL_DONE. -/
def State.applyHub (s : State) (r : Nat) (f : HubFolio) : State :=
  let old := (s.hub r).cat
  let (new, chs) := old.applyAll s.opSecs f.acts
  let s := (s.applyMaster r f.number f.acts).countQuenches r old f.acts
  let s := s.modHub r (fun h => ({ h with cat := new }).pushRoles old (chs.flatMap (fun (ch : ColChange) => ch.changed.map (fun row => tileAt row ch.col))))
  let s := (s.takeRoles r f.sealt).dropsAt r f.sealt
  let s := chs.foldl (fun s ch => (s.columnChanged r f.number old ch).moveVisit r old ch f.sealt) s
  let still := chs.flatMap (fun (ch : ColChange) => (ch.changed.filter (fun row => !ch.moves.any (fun m => m.dst == row))).map (fun row => tileAt row ch.col))
  let s := still.foldl (fun s t => s.traceCat r t false) s
  let s := f.acts.foldl (fun s a => s.applyHubAct r f a) s
  let s := (s.reapReadings r).rehome r
  let s := s.modHub r (fun h => { h with fl := { h.fl with open_ := h.fl.open_.filter (fun g => g.number != f.number),
                                                           past := ((f.number, false) :: h.fl.past).take 64, last := f.number } })
  let s := if f.late then (((s.raise Reg.RH_FL_EVENT_LATE r).bump Reg.RH_FL_LATE_COUNT r 1).hubFault r (hubSrc r) 0x204 0 f.number) else s
  let s := if f.replay then s.raise Reg.RH_FL_EVENT_REPLAY r else s
  let s := (s.send (msgFlDone r f.number f.late false false f.sealt)).traceFolio r f.number 4 0 f.late
  (s.dispatchAll r).tryVotes r

end Sys2Proof.Machine
end

