-- ==== Sys2Proof/Machine/Flags.lean ====
section
/-! DEFINITION. What the probe computes of a command: whether it is ready for a header (R76), the rejection code (R77), the folds of
operands and accumulator words (R54, R55, R60), the outcome (R66) and the class of a slot for readings (R98). -/

namespace Sys2Proof.Machine

/-! ## Headers -/

/-- A region [base, base + len) runs past line 1,535 (R77). -/
def pastEnd (base len : Nat) : Bool := decide (0 < len) && decide (1536 < base + len)

/-- The A or B region of a header overlaps a range of lines. -/
def readsOverlap (h : Hdr) (base len : Nat) : Bool := linesOverlap h.abase h.alen base len || linesOverlap h.bbase h.blen base len

/-- Two headers agree in what a chain keeps (R77 code 6); the fields of the operands are ignored outside OPCLASS 0 and 1 (R74). -/
def sameChain (a b : Hdr) : Bool :=
  a.tenant == b.tenant && a.opclass == b.opclass && (!a.matrix || (a.dim0 == b.dim0 && a.dim1 == b.dim1 && a.fmta == b.fmta && a.fmtb == b.fmtb
    && a.sca == b.sca && a.scb == b.scb))

/-- The slot that a header with CONT = 0 re-occupies: the retried slot in RETRY, else a BANDHELD slot with the same header (R94, R326), whether or not its
TPI_RETRY has been given (assumption 130). -/
def Probe.rerunSlot (p : Probe) (h : Hdr) : Option Nat :=
  if h.cont then none
  else if p.eff = .retry then
    match p.retrySlot with
    | some i => if ((p.slot i).st = .failed ∨ (p.slot i).st = .bandheld) ∧ (p.slot i).first = h then some i else none
    | none => none
  else p.inOrder.find? (fun i => (p.slot i).st == .bandheld && (p.slot i).first == h)

/-- The slot that an accepted header takes (R76, R88). -/
def Probe.target (p : Probe) (h : Hdr) : Option Nat :=
  match (if h.cont then p.chainSlot else none), p.rerunSlot h with
  | some i, _ => some i
  | none, some i => some i
  | none, none => p.freeSlot

/-- The no-overlap stall of R76. -/
def Probe.stalled (p : Probe) (h : Hdr) (target : Nat) : Bool :=
  p.unreleased.any (fun i => i != target && (p.slot i).hdrs.any (fun g => readsOverlap h g.obase g.olen))

/-- TPI_CMD_READY for a header (R76, R149, R152). -/
def Probe.ready (p : Probe) (h : Hdr) : Bool :=
  p.powered && (p.fence == .opened || p.fence == .retry) && !p.hold && !p.move.isSome
    && (match p.target h with | some i => !p.stalled h i | none => false)

/-- FMTA or FMTB code that an MX scale may go with (R59, R77 code 9). -/
def mxCode (c : Nat) : Bool := match Fmt.ofCode c with | some f => f.scalable | none => false

/-- Rejection code of an accepted header, the lowest that applies; 0 where none does (R77, R95). -/
def Probe.rejectCode (p : Probe) (h : Hdr) : Nat :=
  let chain := p.chainSlot
  let offChain : Bool := match chain with | none => true | some i => !sameChain h (p.slot i).first
  if h.reserved ≠ 0 then 1
  else if h.opclass > 4 ∨ h.rofmt > 8 ∨ (h.matrix ∧ (h.fmta > 7 ∨ h.fmtb > 7)) then 2
  else if h.ws ∧ h.steps > 65534 then 3
  else if pastEnd h.obase h.olen ∨ pastEnd h.abase h.alen ∨ pastEnd h.bbase h.blen ∨ (h.outsram ∧ h.olen = 0) ∨ (h.outsram = false ∧ h.outmesh = false) then 4
  else if (p.ctxOf h.tenant).isNone then 5
  else if h.cont ∧ offChain then 6
  else if (p.eff = .retry ∧ h.cont ∧ ¬ (p.retryTaken ∧ chain = p.retrySlot))
      ∨ (p.eff = .retry ∧ h.cont = false ∧ (p.rerunSlot h).isNone)
      ∨ (p.eff ≠ .retry ∧ h.cont = false ∧ (p.rerunSlot h).isNone ∧ p.inOrder.any (fun i => (p.slot i).st == .bandheld && (p.slot i).first.htag == h.htag)) then 7
  else if h.outsram ∧ readsOverlap h h.obase h.olen then 8
  else if h.matrix ∧ ((h.sca ∧ mxCode h.fmta = false) ∨ (h.scb ∧ mxCode h.fmtb = false)) then 9
  else 0

/-! ## Folds -/

/-- Multiply-accumulate class of a header by the wider of FMTA and FMTB (R312). -/
def macClass (h : Hdr) : Nat :=
  let w := fun c => ((Fmt.ofCode c).map Fmt.width).getD 32
  let m := max (w h.fmta) (w h.fmtb)
  if m = 32 then 0 else if m = 16 then 1 else if m = 8 then 2 else 3

/-- Rotation amounts of a header drawn from a generator, in the order of R51. -/
def Slot.drawAmounts (x : Slot) (h : Hdr) (g : Trivium) : Slot :=
  if h.ws then
    let (a, g1) := g.draw h.n
    let (b, g2) := g1.draw h.n
    { x with drawn := true, rowA := [], rowB := [], colA := a, colB := b, gen := g2 }
  else
    let (ra, g1) := g.draw h.d0
    let (ca, g2) := g1.draw h.n
    let (rb, g3) := g2.draw h.d0
    let (cb, g4) := g3.draw h.n
    { x with drawn := true, rowA := ra, rowB := rb, colA := ca, colB := cb, gen := g4 }

/-- The element-wise sum of two lists, the longer one's tail kept. -/
def addLists : List Nat → List Nat → List Nat
  | [], l => l
  | l, [] => l
  | x :: xs, y :: ys => addp x y :: addLists xs ys

/-- Rotated residues of the K elements of a streamed row (R55). -/
def rowTerms (f : Fmt) (scaled : Bool) (data sc amount : Nat) : Nat → Nat → List Nat × Bool
  | 0, _ => ([], false)
  | n + 1, k =>
    let scale := (scaleRow scaled sc k).map scaleOf
    let d := decodeElem f scale.isSome (elemAt f data k)
    let z := d.rotated (Int.ofNat amount + (match scale with | some (e, _) => e | none => 0))
    let rest := rowTerms f scaled data sc amount n (k + 1)
    (z :: rest.1, d.na || (match scale with | some (_, b) => b | none => false) || rest.2)

/-- A k-step of an output-stationary command folded into both lanes (R54). -/
def Slot.foldStep (x : Slot) (opa opb sca scb : Nat) : Slot :=
  let h := x.last
  let fa := (Fmt.ofCode h.fmta).getD .fp32
  let fb := (Fmt.ofCode h.fmtb).getD .fp32
  let ua := foldBeat fa opa (scaleOS h.sca sca) x.rowA 0
  let va := foldBeat fb opb (scaleOS h.scb scb) x.colA 0
  let ub := foldBeat fa opa (scaleOS h.sca sca) x.rowB 0
  let vb := foldBeat fb opb (scaleOS h.scb scb) x.colB 0
  { x with pA := addp x.pA (mulp ua.1 va.1), pB := addp x.pB (mulp ub.1 vb.1), nanSeen := x.nanSeen || ua.2 || va.2, beats := x.beats + 1 }

/-- A preloaded B row of a weight-stationary command: w_k in both lanes (R55). -/
def Slot.foldPreload (x : Slot) (opb scb : Nat) : Slot :=
  let h := x.last
  let fb := (Fmt.ofCode h.fmtb).getD .fp32
  let a := foldBeat fb opb (scaleOS h.scb scb) x.colA 0
  let b := foldBeat fb opb (scaleOS h.scb scb) x.colB 0
  { x with wA := x.wA ++ [a.1], wB := x.wB ++ [b.1], nanSeen := x.nanSeen || a.2, preload := x.preload + 1 }

/-- A streamed A row: its two amounts are drawn, and g_k grows in both lanes (R51, R55). -/
def Slot.foldRow (x : Slot) (opa sca : Nat) : Slot :=
  let h := x.last
  let fa := (Fmt.ofCode h.fmta).getD .fp32
  let (l, g) := x.gen.draw 2
  let a := rowTerms fa h.sca opa sca (l.getD 0 0) h.d0 0
  let b := rowTerms fa h.sca opa sca (l.getD 1 0) h.d0 0
  { x with gen := g, rowA := x.rowA ++ [l.getD 0 0], rowB := x.rowB ++ [l.getD 1 0], gA := addLists x.gA a.1, gB := addLists x.gB b.1,
           nanSeen := x.nanSeen || a.2, beats := x.beats + 1 }

/-- An operand beat of kind 0, 1 or 2 at a slot (R78–R80): folded, or a count error where its kind is wrong. -/
def Slot.operand (x : Slot) (kind opa opb sca scb : Nat) : Slot :=
  let h := x.last
  if h.matrix = false then { x with beats := x.beats + 1 }
  else if h.ws then
    if kind = 1 ∧ x.hdrs.length ≤ 1 ∧ x.beats = 0 then x.foldPreload opb scb
    else if kind = 2 then x.foldRow opa sca
    else { x with cntErr := true }
  else if kind = 0 then x.foldStep opa opb sca scb
  else { x with cntErr := true }

/-- Beats of the latest header are complete: K k-steps, or K preload rows of a first header and every streamed row (R78–R80). -/
def Slot.beatsOk (x : Slot) : Bool :=
  x.beats == x.last.k && (!x.last.ws || decide (1 < x.hdrs.length) || x.preload == x.last.d0)

/-- Operand views at the end: Σ_k g_k·w_k for weight-stationary (R55). -/
def Slot.views (x : Slot) : Nat × Nat :=
  if x.last.ws then
    let dot := fun (g w : List Nat) => (List.zip g w).foldl (fun s e => addp s (mulp e.1 e.2)) 0
    (dot x.gA x.wA, dot x.gB x.wB)
  else (x.pA, x.pB)

/-- Accumulator words of a read beat folded into the result views (R54, R60). -/
def Slot.foldWords (layout : AccLayout) (w acc : Nat) : Nat → Nat → Slot → Slot
  | 0, _, x => x
  | n + 1, j, x =>
    let res := tapResidue layout w x.last.accq (bits acc (w * j) w)
    let row := x.words / x.last.n
    let col := x.words % x.last.n
    Slot.foldWords layout w acc n (j + 1) { x with
      words := x.words + 1
      tA := addp x.tA (rot res (x.rowA.getD row 0 + x.colA.getD col 0))
      tB := addp x.tB (rot res (x.rowB.getD row 0 + x.colB.getD col 0)) }

/-- Words that the readout of a slot must give: M·N, or every streamed row of the chain times N (R80). -/
def Slot.wordsDue (x : Slot) : Nat := if x.last.ws then x.steps * x.last.n else x.last.d0 * x.last.n

/-- A slot awaits a readout (R82). -/
def Slot.awaits (x : Slot) : Bool :=
  x.st == .active && x.first.matrix && (x.last.readout || x.chainBroken) && !x.readBegun

/-! ## Outcome -/

/-- Count errors of a slot at its decision (R80). -/
def Slot.countError (x : Slot) : Bool := x.first.matrix && (x.cntErr || !x.beatsOk)

/-- The command takes the residue comparison (R63, R74). -/
def Slot.isChecked (x : Slot) : Bool := x.first.matrix && x.allExact && !x.chainBroken

/-- Outcome of a command: the first of the list of R66 that applies. -/
def Slot.decide_ (x : Slot) (b4 : Bool) : CheckOutcome :=
  let v := x.views
  if x.tapPar then .tapParity
  else if b4 then .bandStop
  else if x.countError then .failAB
  else if x.first.matrix ∧ x.nanSeen then .na
  else if x.isChecked = false then .unchecked
  else
    match canon x.tA == canon v.1, canon x.tB == canon v.2 with
    | true, true => .pass
    | false, true => .failA
    | true, false => .failB
    | false, false => .failAB

/-- The outcomes that R94 calls FAIL: 1, 2, 3 and 6. -/
def CheckOutcome.isFail (o : CheckOutcome) : Bool := o == .failA || o == .failB || o == .failAB || o == .tapParity

/-- Index of the count of R71 that an outcome adds to; BAND_STOP adds to none. -/
def CheckOutcome.countIndex : CheckOutcome → Option Nat
  | .pass => some 0 | .failA => some 1 | .failB => some 1 | .failAB => some 1 | .tapParity => some 1
  | .na => some 2 | .unchecked => some 3 | .bandStop => none

/-- Class of an NA or UNCHECKED slot (R98): readable or not. -/
def Slot.readable (x : Slot) (d : Nat) : Bool :=
  !x.first.mayvary && x.hdrs.length == 1 && x.first.readout && d != 31

/-- The conditions of a slot's gate decision are met (R87). -/
def Slot.decidable_ (x : Slot) : Bool :=
  x.st == .active && x.lastc && (!x.first.matrix || ((x.last.readout || x.chainBroken) && x.readDone))

end Sys2Proof.Machine
end

