-- ==== Sys2Proof/Machine/Reading.lean ====
section
/-! DEFINITION. The meanings of the commands of second and third readings (R98–R119). -/

namespace Sys2Proof.Machine

/-- Full GT of a hub from the low 24 bits of a recent one. -/
def fullGt (now lo : Nat) : Nat := now - wrap 24 (now + 2 ^ 24 - wrap 24 lo)

/-- RD_REQ (R106, R109): the request becomes a reading record; with no reader it is released unread (R111). -/
def execRdReq (region tile slot : Nat) (hdr : Hdr) (sa sb beats u dom count gtlo : Nat) (s : State) : Host.Outcome State Fault Refusal :=
  let s := s.recv (msgRdReq region tile slot hdr sa sb beats u dom count gtlo)
  let p := s.probe region tile
  let key := (tgetD (0, 0) hdr.tenant (s.hub region).keys).1
  .next (s.place region { worker := tile, slot := slot, hdr := hdr, sa := sa, sb := sb, beats := beats, u := u, dom := dom, count := count,
                          gt := fullGt (s.hub region).gt gtlo, x := p.shelfX, y := p.shelfY, key := key } false)

/-- RD_COPY (R106, R110): the worker claims TPI_XOWN to send the operand units of its READING slot, behind a copy that is under way
(assumption 134); an order for the same slot restarts its units. -/
def execRdCopy (region tile acc : Nat) (flue : Bool) (dir slot : Nat) (s : State) : Host.Outcome State Fault Refusal :=
  .next (s.atProbe region tile acc (msgRdCopy region tile acc flue dir slot) (fun s =>
    let p := s.probe region tile
    let x := p.slot slot
    let l := copyUnits x.first
    if x.st = .reading ∧ l ≠ [] then
      let o : CopyOrder := { flue := flue, dir := dir, slot := slot, left := l }
      let others := p.copies.filter (fun c => c.slot != slot)
      s.setProbe region tile { p with copies := others ++ [o], xown := true, xownAck := p.xownAck && others != [] }
    else s))

/-- RD_ORDER (R106, R136): the reader abandons its segment, and takes the header once its operands are written. -/
def execRdOrder (region tile acc : Nat) (flue : Bool) (hdr : Hdr) (units hops dir count u dom : Nat) (s : State) : Host.Outcome State Fault Refusal :=
  .next (s.atProbe region tile acc (msgRdOrder region tile acc flue hdr units hops dir count u dom) (fun s =>
    let s := s.suspendIft region tile
    let rec_ := ((s.hub region).queueOf (tileCol tile)).find? (fun x => x.running && x.reader == some tile)
    let k : Nat × Nat × Nat := match rec_ with
      | some x => (x.key, x.x, x.y)
      | none => (0, 0, 0)
    let o : ReadOrder := { hdr := hdr, flue := flue, units := units, hops := hops, dir := dir, count := count, u := u, dom := dom,
                           key := k.1, x := k.2.1, y := k.2.2 }
    let s := s.modProbe region tile (fun p => { p with readOrder := some o, xown := true, xownAck := false,
                                                       ift := if p.ift.state = .idle ∨ p.ift.state = .stopped then p.ift else { p.ift with state := .wait } })
    s.tryPresent region tile))

/-- READER_SIGNATURE_CLOSE (R106): after TPI_EGR_LASTC the signature closes, slot 0 is discarded and RD_REPORT goes to the hub. -/
def execReaderSignatureClose (region tile : Nat) (s : State) : Host.Outcome State Fault Refusal :=
  let p := s.probe region tile
  let x := p.slot 0
  match p.readOrder with
  | some o =>
    if o.started ∧ x.job = .reading ∧ x.lastc then
      .next ((s.endReader region tile).send (msgRdReport region tile x.sa x.sb x.ebeats o.fault))
    else .next s
  | none => .next s

/-- RD_REPORT (R109, R110): the hub agrees, opens a third reading, decides by majority, or takes the reader-fault row. -/
def execRdReport (region tile sa sb beats : Nat) (readerFault : Bool) (s : State) : Host.Outcome State Fault Refusal :=
  let s := s.recv (msgRdReport region tile sa sb beats readerFault)
  let c := tileCol tile
  match ((s.hub region).queueOf c).find? (fun x => x.running && x.reader == some tile) with
  | none => .next s
  | some x =>
    let s := if readerFault then s.readerFault region c x false else s.reported region c x (sa, sb, beats)
    .next (s.afterReading region)

/-- A slot is READING the command of an HTAG (R117). -/
def Slot.readingOf (x : Slot) (htag : Nat) : Bool := x.st == .reading && x.first.htag == wrap 8 htag

/-- RD_AGREE (R106, R111, R114, R117): a READING slot becomes RELEASABLE, or waits for its pad deadline while PADEN is 1; a late one is an overrun. -/
def execRdAgree (region tile acc : Nat) (slot : SlotTag) (unread : Bool) (s : State) : Host.Outcome State Fault Refusal :=
  .next (s.atProbe region tile acc (msgRdAgree region tile acc slot.slot slot.htag unread) (fun s =>
    let x := (s.probe region tile).slot slot.slot
    let gt := (s.hub region).gt
    let pad := s.on Reg.RH_RD_CTRL_PADEN region
    let due := x.gtDecision + s.get Reg.RH_RD_PAD_PADLEN region
    if x.readingOf slot.htag = false then s
    else if pad ∧ gt < due then s.setSlot region tile slot.slot { x with agreed := true }
    else
      let s := if pad ∧ due < gt then
          (s.modReads region x.first.tenant (fun n => { n with ovr := wrap 32 (n.ovr + 1) })).raise Reg.RH_RD_EVENT_OVERRUN region
        else s
      s.makeReleasable region tile slot.slot))

/-- RD_DISCARD (R88, R94, R110, R117): the fence closes first where it is ordered, and the READING slot is discarded. -/
def execRdDiscard (region tile acc : Nat) (slot : SlotTag) (fence : Bool) (reason : Nat) (s : State) : Host.Outcome State Fault Refusal :=
  .next (s.atProbe region tile acc (msgRdDiscard region tile acc slot.slot slot.htag fence reason) (fun s =>
    let p := s.probe region tile
    if (p.slot slot.slot).readingOf slot.htag = false then s
    else
      let s := if fence ∧ (p.eff = .opened ∨ p.eff = .retry ∨ p.eff = .fenced) then
          (s.setFence region tile .fenced).modProbe region tile (fun p => { p with relHold := true })
        else s
      ((s.discardSlot region tile slot.slot).kickRelease region tile).checkIdle region tile))

/-- RD_ABORT (R108): the probe stops any copy and lowers TPI_XOWN; a reader discards slot 0 and goes back to IFT. -/
def execRdAbort (region tile acc : Nat) (s : State) : Host.Outcome State Fault Refusal :=
  .next (s.atProbe region tile acc (msgRdAbort region tile acc) (fun s =>
    let s := s.modProbe region tile (fun p => { p with copies := [], xown := p.xown && p.copies.isEmpty })
    if (s.probe region tile).readOrder.isSome then s.endReader region tile else s))

/-- The Flue reading of a worker whose units come next: a worker sends one copy after another in the order of their RD_COPYs (R108, R110). -/
def Hub.copying (h : Hub) (worker : Nat) : Option (Nat × ReadRec) :=
  let l := h.readings.flatMap (fun e => (e.2.filter (fun x => x.running && x.flue && x.worker == worker
    && decide (x.sent < (copyUnits x.hdr).length))).map (fun x => (e.1, x)))
  l.foldl (fun o e => match o with
    | none => some e
    | some f => if e.2.order < f.2.order then some e else some f) none

/-- RD_DATA (R108, R110): the hub forwards a unit to the reader that it named; there it is written, and the last one lets the header be presented. -/
def execRdData (region : Nat) (atReader : Option Nat) (worker acc unit data : Nat) (s : State) : Host.Outcome State Fault Refusal :=
  match atReader with
  | none =>
    let s := s.recv (msgRdData region worker unit data)
    match (s.hub region).copying worker with
    | some (c, x) =>
      let s := s.setQueue region c (((s.hub region).queueOf c).map (fun z => if z.same x then { z with sent := z.sent + 1 } else z))
      .next (s.sendAll (x.reader.toList.map (fun g => msgRdDataDown region g (s.accOf region g) unit data)))
    | none => .next s
  | some g =>
    .next (s.atProbe region g acc (msgRdDataDown region g acc unit data) (fun s =>
      let p := s.probe region g
      match p.readOrder with
      | some o =>
        if o.flue ∧ o.got < o.units then
          ((s.setProbe region g { p with readOrder := some { o with got := o.got + 1 } }).emit (.xwr region g unit data)).tryPresent region g
        else s
      | none => s))

/-- PAD_DEADLINE (R114): an agreed slot that waited for its deadline becomes RELEASABLE. -/
def execPadDeadline (region tile slot : Nat) (s : State) : Host.Outcome State Fault Refusal :=
  let x := (s.probe region tile).slot slot
  .next (if x.st = .reading ∧ x.agreed then s.makeReleasable region tile slot else s)

/-- READING_SETTLE_TIMEOUT (R116): a reading that has not settled makes the hub vote void. A quench that is voided so is prepared again (R156). -/
def execReadingSettleTimeout (region col : Nat) (s : State) : Host.Outcome State Fault Refusal :=
  let h := s.hub region
  match (h.walkOf col).folio.bind h.folioOf with
  | some f =>
    if f.st = .preparing ∧ (h.queueOf col).any ReadRec.unsettled then
      let s := (s.voteVoid region f.number 2).raise Reg.RH_RD_EVENT_STEPVOID region
      let again := f.acts.filter (fun a => a.act == 0x02)
      .next (if again = [] then s else s.hubPropose region true again)
    else .next s
  | none => .next s

/-- IFT_QUOTA_TIMEOUT (R115): four dwell times have passed with the quota unmet, and the step may go ahead. -/
def execIftQuotaTimeout (region col : Nat) (s : State) : Host.Outcome State Fault Refusal :=
  .next ((s.modWalk region col (fun w => { w with shortAllowed := true, dwellPassed := true })).proposeSteps region [col])

/-! ## The stop leaf -/

/-- STOP_LEAF_RISE (R94): a probe enters STOPPED and remembers its state; a hub pauses its work. -/
def execStopLeafRise (region : Nat) (tile : Option Nat) (s : State) : Host.Outcome State Fault Refusal :=
  match tile with
  | some t => .next (s.modProbe region t (fun p => { p with
      stopLeaf := true, fence := .stopped, remembered := if p.fence = .stopped then p.remembered else p.fence }))
  | none => .next ((s.modHub region (fun h => { h with stopLeaf := true, wd := { h.wd with paused := true } })).traceStop region true)

/-- STOP_LEAF_FALL (R94, R109, R117, R476): a probe returns to its remembered state, held closed where that is OPEN and a FAULT flit waits (R512), and what
waited for it goes on; at a hub readers take what waits. -/
def execStopLeafFall (region : Nat) (tile : Option Nat) (s : State) : Host.Outcome State Fault Refusal :=
  match tile with
  | some t =>
    let s := s.modProbe region t (fun p => { p with
      stopLeaf := false, fence := if p.fence = .stopped then p.remembered else p.fence,
      heldClosed := p.heldClosed || (p.fence == .stopped && p.remembered == .opened && !p.faultOut.isEmpty) })
    .next (((s.tryPresent region t).resumeIft region t).beginSegment region t)
  | none => .next (((s.modHub region (fun h => { h with stopLeaf := false, wd := { h.wd with paused := true } })).traceStop region false).afterReading region)

end Sys2Proof.Machine
end

