-- ==== Sys2Proof/Machine/Ift.lean ====
section
/-! DEFINITION. The meanings of the commands of in-field tests and the margin walk (R120–R139). -/

namespace Sys2Proof.Machine

/-- A program begins or goes on from its stop or from a void (R124, R136): at once, unless a reading, B4 or global stop holds it. -/
def State.startIft (s : State) (r t : Nat) (f : ProbeIft → ProbeIft) : State :=
  (s.modIft r t (fun i => { f i with state := .wait, suspended := true, stopping := false })).resumeIft r t

/-- IFT_START (R124, R136): a visit begins with pass 0, or the one that was stopped for a step goes on: its segment restarts, or its walk at its step. -/
def execIftStart (region tile acc : Nat) (mwen : Bool) (s : State) : Host.Outcome State Fault Refusal :=
  .next (s.atProbe region tile acc (msgIftStart region tile acc mwen) (fun s =>
    let p := s.probe region tile
    match p.ift.state with
    | .idle => (s.bump Reg.TP_IFT_VISIT_VISITS (pid region tile) 1).startIft region tile (fun _ => { mwen := mwen })
    | .stopped => if p.ift.confirmed then s else s.startIft region tile (fun i => { i with mwen := mwen })
    | _ => s))

/-- IFT_GET (R124, R137): the hub answers with the descriptor. -/
def execIftGet (region tile index : Nat) (s : State) : Host.Outcome State Fault Refusal :=
  let s := s.recv (msgIftGet region tile index)
  match (s.hub region).patterns[index]? with
  | some d =>
    .next (s.send (msgIftPat region tile (s.accOf region tile) index d.hdr d.fill d.fillWord d.expA d.expB d.expBeats d.margin d.cover))
  | none => .next s

/-- IFT_PAT (R124): the descriptor that the probe asked for begins its segment, or waits for it. -/
def execIftPat (region tile acc index : Nat) (hdr : Hdr) (fill word expA expB beats : Nat) (margin : Bool) (cover : Nat) (s : State) :
    Host.Outcome State Fault Refusal :=
  .next (s.atProbe region tile acc (msgIftPat region tile acc index hdr fill word expA expB beats margin cover) (fun s =>
    let d : Pattern := { hdr := hdr, fill := fill, fillWord := word, expA := expA, expB := expB, expBeats := beats, margin := margin, cover := cover }
    if (s.probe region tile).ift.asked = some index then
      (s.modIft region tile (fun i => { i with next := some (index, d), asked := none })).beginSegment region tile
    else s))

/-- A residue outcome of the first row of R123. -/
def CheckOutcome.isRes (o : CheckOutcome) : Bool := o.isFail || o == .na

/-- The kind of a segment whose egress has ended, 0 where it passes (R123). -/
def segmentKind (x : Slot) (d : Pattern) (o : CheckOutcome) : Nat :=
  let same := x.ebeats == d.expBeats && x.sa == d.expA && x.sb == d.expB
  if same && (!(d.hdr.matrix && d.hdr.exact) || o == .pass) then 0
  else if o.isRes || x.countError then 1
  else if x.ebeats ≠ d.expBeats then 3
  else 2

/-- SEGMENT_CLOSE (R123, R124): the signature closes and the segment is judged. -/
def execSegmentClose (region tile : Nat) (s : State) : Host.Outcome State Fault Refusal :=
  let p := s.probe region tile
  let x := p.slot 0
  match p.ift.desc with
  | some d =>
    if p.ift.running ∧ p.stopLeaf = false ∧ x.st ≠ .free ∧ x.job = .ift ∧ x.lastc then
      let o := x.decide_ false
      .next (s.endSegment region tile (segmentKind x d o) x o.code)
    else .next s
  | none => .next s

/-- SEGMENT_TIMEOUT (R123): no TPI_EGR_LASTC within the limit; the segment fails with kind RES where its residue outcome is already a failure, else
with kind TMO. -/
def execSegmentTimeout (region tile : Nat) (s : State) : Host.Outcome State Fault Refusal :=
  let p := s.probe region tile
  let x := p.slot 0
  let o := x.decide_ false
  let res := x.tapPar || (x.first.matrix && x.cntErr) || (x.readDone && (o.isRes || x.countError))
  if p.ift.running ∧ p.stopLeaf = false ∧ x.st ≠ .free ∧ x.job = .ift ∧ x.lastc = false then .next (s.endSegment region tile (if res then 1 else 4) x o.code)
  else .next s

/-- A confirmed failure at the hub (R109, R132, R134): the event, the fault and its exposure; a reading on the tile ends as a reader fault. -/
def State.iftConfirmed (s : State) (r t first kind : Nat) : State :=
  let b := s.book r t
  let cover := (((s.hub r).patterns[first]?).map (·.cover)).getD 0
  let p := s.physXY r t
  let s := (s.setBook r t { b with visitFail := true, history := if b.visitEntry then (match b.history with
      | e :: rest => { e with iftfail := true } :: rest
      | [] => []) else b.history }).raise Reg.RH_IFT_EVENT_IFTFAIL r
  let s := s.voidSteps r (tileCol t)
  let s := s.hubFault r (probeSrc r t) 0x104 0 (pack [(0, 6, first), (6, 3, kind)])
  let s := s.sendAll (expReports r b.clearedGt b.visitGt p.1 p.2 cover b.ovf 0 (b.exposed.filter (fun e => (e.classes &&& cover) != 0)))
  match ((s.hub r).queueOf (tileCol t)).find? (fun x => x.running && x.reader == some t) with
  | some x => (s.readerFault r (tileCol t) x false).afterReading r
  | none => s

/-- The quota or the IFT time of a visit may let a step go ahead once its dwell has passed (R115, R151). -/
def State.stepAfterDwell (s : State) (r c : Nat) : State :=
  if ((s.hub r).walkOf c).dwellPassed then s.proposeSteps r [c] else s

/-- IFT_RESULT (R124, R125, R132): the hub notes the pass, raises IFT_FAIL for a confirmed failure, and counts a transient when it is reported; one that
only the end of its pass shows is counted then. A quota met after the dwell lets the step go ahead (R115). -/
def execIftResult (region tile pass : Nat) (complete allPassed : Bool) (first kind : Nat) (confirmed : Bool) (time : Nat) (s : State) :
    Host.Outcome State Fault Refusal :=
  let s := s.recv (msgIftResult region tile pass complete allPassed first kind confirmed time)
  let b := s.book region tile
  let counts := !confirmed && !allPassed && !(complete && b.passTransient)
  let s := s.setBook region tile { b with visitTime := time, visitPass0 := b.visitPass0 || (complete && allPassed && pass == 0),
                                          passTransient := !complete && (b.passTransient || counts) }
  let s := if counts then (s.raise Reg.RH_IFT_EVENT_TRANSIENT region).hubFault region (probeSrc region tile) 0x105 0 first else s
  let s := if confirmed then s.iftConfirmed region tile first kind else s
  .next (s.stepAfterDwell region (tileCol tile))

/-! ## Margin histories -/

/-- T(b) of a walk band (R128); band B4 runs no walk. -/
def State.threshold (s : State) (r b : Nat) : Nat :=
  match b with
  | 0 => s.get Reg.RH_MW_THR_B0 r
  | 1 => s.get Reg.RH_MW_THR_B1 r
  | 2 => s.get Reg.RH_MW_THR_B2 r
  | _ => s.get Reg.RH_MW_THR_B3 r

/-- Headroom of an entry (R130). -/
def MarginEntry.headroom (e : MarginEntry) : Int := Int.ofNat e.margin - Int.ofNat e.thr

/-- Sum of integers. -/
def sumInt (l : List Int) : Int := l.foldl (· + ·) 0

/-- What the trend rule computes over the valid entries, oldest first (R131): whether MINN and MINSPAN hold, whether the rule fires, and the
predicted headroom as numerator and denominator. -/
structure Trend where
  fit : Bool
  fires : Bool
  num : Int
  den : Int
  deriving DecidableEq, Repr

/-- The trend rule (R131). -/
def trendOf (l : List MarginEntry) (minn span horizon : Nat) : Trend :=
  let n : Int := Int.ofNat l.length
  let first := (l.head?.map (·.secs)).getD 0
  let last := (l.getLast?.map (·.secs)).getD 0
  let pts := l.map (fun e => (Int.ofNat (e.secs - first), e.headroom))
  let st := sumInt (pts.map (·.1))
  let sh := sumInt (pts.map (·.2))
  let stt := sumInt (pts.map (fun x => x.1 * x.1))
  let sth := sumInt (pts.map (fun x => x.1 * x.2))
  let d := n * stt - st * st
  let nn := n * sth - st * sh
  let tau : Int := Int.ofNat (last - first) + 3600 * Int.ofNat horizon
  let fit := decide (minn ≤ l.length ∧ span ≤ last - first)
  let newest := sumInt ((l.drop (l.length - 8)).map MarginEntry.headroom)
  let oldest := sumInt ((l.take 8).map MarginEntry.headroom)
  let num := sh * d + nn * (n * tau - st)
  { fit := fit, fires := fit && decide (nn < 0 ∧ num ≤ 0 ∧ newest ≤ oldest - 8), num := num, den := n * d }

/-- PRED of `RH_MW_SUM` (R139): signed Q16.16, rounded toward zero, 0 unless FIT; with no denominator, or outside the format, the spec states no
value (assumption 6). -/
def State.predOf (s : State) (t : Trend) : Nat × State :=
  if t.fit = false then (0, s)
  else
    let q := (t.num * 65536).tdiv t.den
    if t.den = 0 ∨ q < -(2 ^ 31) ∨ 2 ^ 31 ≤ q then s.fresh 32 else (unsigned 32 q, s)

/-- MW_RESULT (R128–R131, R134, R136): the entry, the low-margin count and the rules of R130, of which one that fires voids a step in preparation; the
rules are evaluated before it is known whether the visit will be short (assumption 137). -/
def execMwResult (region tile margin band : Nat) (valid bandchg cshkto : Bool) (s : State) : Host.Outcome State Fault Refusal :=
  let s := s.recv (msgMwResult region tile margin band valid bandchg cshkto)
  let b := s.book region tile
  let thr := s.threshold region band
  let e : MarginEntry := { margin := wrap 4 margin, band := wrap 3 band, valid := valid, short := false, bandchg := bandchg, cshkto := cshkto,
                           iftfail := b.visitFail, thr := thr, secs := s.opSecs }
  let low := if valid then (if margin ≤ thr then min 3 (b.lowRun + 1) else 0) else b.lowRun
  let hist := (e :: b.history).take 64
  let horizon := s.get Reg.RH_MW_TREND_HORIZON region
  let t := trendOf ((hist.filter (·.valid)).reverse) (max 8 (min 64 (s.get Reg.RH_MW_TREND_MINN region))) (s.get Reg.RH_MW_TREND_MINSPAN region) horizon
  let (pred, s) := s.predOf t
  let s := s.setBook region tile { b with history := hist, lowRun := low, fit := t.fit, pred := pred, visitWalk := b.visitWalk || valid || bandchg || cshkto,
                                          visitEntry := true, visitSpare := b.history[63]? }
  let s := if bandchg then s.raise Reg.RH_IFT_EVENT_BANDCHG region else s
  let s := if cshkto then (s.raise Reg.RH_IFT_EVENT_CSHKTO region).hubFault region (probeSrc region tile) 0x108 0 ((s.probe region tile).ift.tmoStep) else s
  let fires := valid && decide (margin ≤ thr) && low == 3
  let trend := s.on Reg.RH_MW_TREND_TRENDEN region && t.fires
  let s := if fires then
      (s.raise Reg.RH_IFT_EVENT_MWLOW region).hubFault region (probeSrc region tile) 0x106 0 (pack [(0, 4, margin), (4, 3, band)])
    else s
  let s := if trend then (s.raise Reg.RH_IFT_EVENT_MWTREND region).hubFault region (probeSrc region tile) 0x107 0 pred else s
  let s := if fires || trend then s.voidSteps region (tileCol tile) else s
  .next (s.stepAfterDwell region (tileCol tile))

/-- IFT_STOP (R136, R137): at once, or at the end of the segment in hand; with no segment in hand there is none to wait for. -/
def execIftStop (region tile acc : Nat) (abandon : Bool) (s : State) : Host.Outcome State Fault Refusal :=
  .next (s.atProbe region tile acc (msgIftStop region tile acc abandon) (fun s =>
    let p := s.probe region tile
    if abandon = false ∧ p.ift.running ∧ (p.ift.inLoop = false ∨ p.ift.settled) then s.modIft region tile (fun i => { i with stopping := true })
    else s.stopIft region tile))

/-- IFT_STOPPED (R136, R152): the hub may vote. -/
def execIftStopped (region tile : Nat) (s : State) : Host.Outcome State Fault Refusal :=
  let s := s.recv (msgIftStopped region tile)
  .next ((s.modWalk region (tileCol tile) (fun w => { w with awaitIft := false })).tryVotes region)

/-- IFT_OVERDUE (R135): a tile in service whose interval has passed. -/
def execIftOverdue (region tile dwells : Nat) (s : State) : Host.Outcome State Fault Refusal :=
  if ((s.hub region).cat.at tile).role = .service then
    .next ((s.raise Reg.RH_IFT_EVENT_OVERDUE region).hubFault region (probeSrc region tile) 0x109 0 (wrap 16 dwells))
  else .next s

end Sys2Proof.Machine
end

