-- ==== Sys2Proof/Machine/Catalogue.lean ====
section
/-! DEFINITION. The meanings of the commands of the Catalogue, the gap walk and the quench (R140–R168). -/

namespace Sys2Proof.Machine

/-! ## Requests of the system tenant (R146, R155, R159, R167) -/

/-- A request ends at once with a result. -/
def State.reqResult (s : State) (code : Nat) : State := s.setAll 0 [(Reg.CAT_REQST_BUSY, 0), (Reg.CAT_REQST_RESULT, code)]

/-- A request goes on as a Folio. -/
def State.reqFolio (s : State) (urgent : Bool) (a : Act) : State :=
  let (n, s) := s.kilnPropose { acts := [a], urgent := urgent, origin := 1 }
  s.setAll 0 [(Reg.CAT_REQST_BUSY, 1), (Reg.CAT_REQST_RESULT, 0), (Reg.CAT_REQFOLIO_FOLIO, n)]

/-- What a write of `CAT_REQ` does: dropped while a request is in progress, else carried out. -/
def State.catWrite (s : State) (op x y count tenant : Nat) (act : State → State) : State :=
  let s := s.setAll 0 [(Reg.CAT_REQ_OP, op), (Reg.CAT_REQ_X, x), (Reg.CAT_REQ_Y, y), (Reg.CAT_REQ_COUNT, count), (Reg.CAT_REQ_TENANT, tenant)]
  if s.on Reg.CAT_REQST_BUSY 0 then s.raise Reg.CAT_REQST_DROPPED 0 else act s

/-- A write of `CAT_REQ`. -/
def State.catRequest (s : State) (op x y count tenant ten tag : Nat) (act : State → State) : State :=
  s.hostWrite ten tag 0x340000 none true (fun s => s.catWrite op x y count tenant act)

/-- The region of a shelfmark, where the grid has it. -/
def State.regionOfShelf (s : State) (x y : Nat) : Option Nat :=
  if x / 32 < s.cfg.w ∧ y / 32 < s.cfg.h then some ((y / 32) * s.cfg.w + x / 32) else none

/-- ASSIGN and UNASSIGN: a run of one column of one region, for an active tenant (R146). -/
def State.assignRequest (s : State) (act x y count tenant : Nat) : State :=
  match s.regionOfShelf x y with
  | some r =>
    if s.tenantActive tenant ∧ y % 32 + count < 32 then
      s.reqFolio false { act := act, region := r, col := x % 32, tenant := tenant, row := y % 32, arg := count }
    else s.reqResult 5
  | none => s.reqResult 5

/-- CAT_REQ_ASSIGN (R146): COUNT holds the shelfmarks of the run less 1. -/
def execCatReqAssign (x y count tenant ten tag : Nat) (s : State) : Host.Outcome State Fault Refusal :=
  .next (s.catRequest 1 x y count tenant ten tag (fun s => s.assignRequest 0x04 (wrap 11 x) (wrap 11 y) (wrap 5 count) (wrap 12 tenant)))

/-- CAT_REQ_UNASSIGN (R146). -/
def execCatReqUnassign (x y count tenant ten tag : Nat) (s : State) : Host.Outcome State Fault Refusal :=
  .next (s.catRequest 2 x y count tenant ten tag (fun s => s.assignRequest 0x05 (wrap 11 x) (wrap 11 y) (wrap 5 count) (wrap 12 tenant)))

/-- The Kiln refuses a RESTORE (R159): the column is not PARKED, the cause is a fuse, or an IFT failure lies less than 24 h back. -/
def State.restoreRefused (s : State) (r row c : Nat) : Bool :=
  let p := s.masterOf r
  let x := p.at (tileAt row c)
  p.stateOf c != .parked || x.qcause == 1 || (x.qcause == 5 && decide (s.opSecs < x.qsecs + 86400))

/-- The RESTORE of a `CAT_REQ` write (R159). -/
def State.restoreRequest (s : State) (x y : Nat) : State :=
  let x := wrap 11 x
  let y := wrap 11 y
  if x / 32 < s.cfg.w ∧ y / 33 < s.cfg.h then
    let r := (y / 33) * s.cfg.w + x / 32
    if s.restoreRefused r (y % 33) (x % 32) then s.reqResult 4
    else s.reqFolio false { act := 0x03, region := r, col := x % 32, row := y % 33 }
  else s.reqResult 5

/-- CAT_REQ_RESTORE (R159), by physical coordinates. -/
def execCatReqRestore (x y ten tag : Nat) (s : State) : Host.Outcome State Fault Refusal :=
  .next (s.catRequest 3 x y 0 0 ten tag (fun s => s.restoreRequest x y))

/-- The QUENCH of a `CAT_REQ` write (R155). -/
def State.quenchRequest (s : State) (x y : Nat) : State :=
  let x := wrap 11 x
  let y := wrap 11 y
  match s.regionOfShelf x y with
  | some r =>
    (match (s.masterOf r).rowOf (x % 32) (y % 32) with
     | some row => s.reqFolio true { act := 0x02, region := r, col := x % 32, row := row, arg := 7 }
     | none => s.reqResult 2)
  | none => s.reqResult 5

/-- CAT_REQ_QUENCH (R155): the position that holds the shelfmark, with cause 7; an orphaned one is refused with result 2. -/
def execCatReqQuench (x y ten tag : Nat) (s : State) : Host.Outcome State Fault Refusal :=
  .next (s.catRequest 4 x y 0 0 ten tag (fun s => s.quenchRequest x y))

/-! ## The gap walk -/

/-- GAP_STEP_DUE (R151, R154): the dwell of columns has passed; the hub proposes the steps whose other conditions hold. -/
def execGapStepDue (region : Nat) (cols : List Nat) (s : State) : Host.Outcome State Fault Refusal :=
  let s := cols.foldl (fun s c => s.modWalk region c (fun w => { w with dwellPassed := true })) s
  .next (s.proposeSteps region cols)

/-- CAT_HOLD (R152): the probe holds or releases TPI_CMD_READY, and reports CAT_IDLE once its slots are FREE. -/
def execCatHold (region tile acc : Nat) (hold : Bool) (s : State) : Host.Outcome State Fault Refusal :=
  .next (s.atProbe region tile acc (msgCatHold region tile acc hold) (fun s =>
    (s.modProbe region tile (fun p => { p with hold := hold, idleSent := false })).checkIdle region tile))

/-- CAT_IDLE (R152): the hub counts the position idle; after a void it is ignored (R164). -/
def execCatIdle (region tile : Nat) (s : State) : Host.Outcome State Fault Refusal :=
  let s := s.recv (msgCatIdle region tile)
  .next ((s.modWalk region (tileCol tile) (fun w => { w with awaitIdle := w.awaitIdle.filter (· != tile) })).tryVotes region)

/-- CAT_IDLE_TIMEOUT (R152, R156): the hub votes void with code 1; a quench is prepared again at once. -/
def execCatIdleTimeout (region col : Nat) (s : State) : Host.Outcome State Fault Refusal :=
  let h := s.hub region
  match (h.walkOf col).folio.bind h.folioOf with
  | some f =>
    if f.st = .preparing ∧ (h.walkOf col).awaitIdle ≠ [] then
      let s := (s.voteVoid region f.number 1).raise Reg.RH_CAT_EVENT_HOLDVOID region
      let again := f.acts.filter (fun a => a.act == 0x02)
      .next (if again = [] then s else s.hubPropose region true again)
    else .next s
  | none => .next s

/-- CAT_ROLE (R165): the probe keeps the orders until the seal; orders that come after the hub has applied are taken at once. -/
def execCatRole (region tile acc role x y newAcc : Nat) (send : Bool) (sendDir : Nat) (recv fromLower : Bool) (hops gt : Nat) (s : State) :
    Host.Outcome State Fault Refusal :=
  .next (s.atProbe region tile acc (msgCatRole region tile acc role x y newAcc send sendDir recv fromLower hops gt) (fun s =>
    let o : MoveOrder := { role := Role.ofCode role, x := x, y := y, acc := newAcc, send := send, sendDir := sendDir, recv := recv,
                           fromLower := fromLower, hops := hops, gt := gt }
    if s.accOf region tile = newAcc then s.takeRole region tile o (s.busySource region o tile)
    else s.modProbe region tile (fun p => { p with roleNext := some o })))

/-! ## Contexts and moves -/

/-- The lowest free place for a context. -/
def Probe.freeCtx (p : Probe) : Option Nat := (List.range 16).find? (fun i => !(tgetD {} i p.ctx : Ctx).valid)

/-- CAT_CTX (R146): the probe installs a tenant's context with count 0 and u = 0, or removes it. -/
def execCatCtx (region tile acc : Nat) (install : Bool) (tenant key d : Nat) (s : State) : Host.Outcome State Fault Refusal :=
  .next (s.atProbe region tile acc (msgCatCtx region tile acc install tenant key d) (fun s =>
    if install = false then s.removeCtx region tile tenant
    else
      let p := s.probe region tile
      match (p.ctxOf tenant).orElse (fun _ => p.freeCtx) with
      | some i => s.setProbe region tile { p with ctx := tput i { valid := true, tenant := tenant, key := key, d := d } p.ctx }
      | none => s))

/-- Mark the shelfmark of a position suspect, at the hub and at the master (R150, R166). -/
def State.markSuspect (s : State) (r t : Nat) : State :=
  let s := s.modHub r (fun h => { h with cat := h.cat.setPos t { h.cat.at t with suspect := true } })
  { s with master := tput r ((s.masterOf r).setPos t { (s.masterOf r).at t with suspect := true }) s.master }

/-- A move to a position is partial (R150): its shelfmark becomes suspect and XFER_SUSPECT is raised, once. -/
def State.partialMove (s : State) (r t : Nat) : State :=
  let c := tileCol t
  let l := ((s.hub r).cat.lrowOf c (tileRow t)).getD 0
  if ((s.hub r).walkOf c).partials.contains l then s
  else
    let s := (s.modWalk r c (fun w => { w with partials := w.partials ++ [l] })).markSuspect r t
    (s.raise Reg.RH_CAT_EVENT_SUSPECT r).hubFault r (hubSrc r) 0x201 0 (pack [(0, 11, s.shelfX r c), (11, 10, s.shelfY r l)])

/-- CAT_MOVED (R148, R150): a move that is not whole is partial, and a TIMEOUT at a source makes the move that it sends so; with the last move of the column
CAT_REPORT goes. -/
def execCatMoved (region tile : Nat) (whole busy ecc timeout : Bool) (units : Nat) (s : State) : Host.Outcome State Fault Refusal :=
  let s := s.recv (msgCatMoved region tile whole busy ecc timeout units)
  let c := tileCol tile
  let w := (s.hub region).walkOf c
  let s := if timeout then ((w.moves.filter (·.1 == tile)).map (·.2)).foldl (fun s d => s.partialMove region d) s else s
  if w.moving.contains tile = false then .next s
  else
    let s := if whole then s else s.partialMove region tile
    let s := s.modWalk region c (fun w => { w with moving := w.moving.filter (· != tile) })
    let w := (s.hub region).walkOf c
    let s := s.traceCat region tile (w.partials.contains (((s.hub region).cat.lrowOf c (tileRow tile)).getD 0))
    .next (if w.moving = [] then ((s.sendCatReport region c).dispatch region c).tryVotes region else s)

/-- CAT_REPORT (R213): reactions that waited for the column go on. -/
def execCatReport (region col state q1 q2 : Nat) (isPartial : Bool) (x y : Nat) (s : State) : Host.Outcome State Fault Refusal :=
  .next (((s.recv (msgCatReport region col state q1 q2 isPartial x y)).reactReport region col isPartial).kickQueue)

/-! ## Bounces (R162) -/

/-- The message that a header flit and its payload spell (R21). -/
def Msg.ofFlits (h : Flit) (payload : List Flit) : Msg :=
  let x := h.toNat
  { dest := bits x 96 32, src := bits x 64 32, tag := bits x 48 16, op := bits x 40 8, tenant := bits x 25 12, arg := bits x 0 25, payload := payload }

/-- Opcodes of shelfmark binding (R162, R192, R241, R304). -/
def shelfBound : List Nat := [0x29, 0x40, 0x61, 0x64, 0x65, 0x67, 0x99, 0xD1, 0xD2]

/-- A bounced message is discarded and counted (R162, R168). -/
def State.staleLost (s : State) (r : Nat) : State := (s.bump Reg.RH_CAT_STALE_COUNT r 1).raise Reg.RH_CAT_EVENT_STALELOST r

/-- The message resent to the present holder of its shelfmark (R162). -/
def State.resend (s : State) (r t : Nat) (m : Msg) : State :=
  let m' : Msg := { m with dest := probeSrc r t, arg := m.arg - bits m.arg 0 20 + s.accOf r t }
  let n := (((s.hub r).bounces.find? (fun e => e.1 == m)).map (·.2)).getD 0
  if 3 ≤ n then (s.staleLost r).hubFault r (hubSrc r) 0x302 0 m.op
  else
    let s := s.modHub r (fun h => { h with bounces := (m', n + 1) :: h.bounces.filter (fun e => e.1 != m && e.1 != m') })
    (s.send m').raise Reg.RH_CAT_EVENT_STALE r

/-- The shelfmark's logical row that a position held at an accession number, where the history has it. -/
def Hub.shelfAt (h : Hub) (t acc : Nat) : Option Nat := ((h.rolesOf t).find? (fun e => e.accession == wrap 20 acc)).bind (·.shelf)

/-- CAT_BOUNCE (R162): by the binding of its opcode the message is sent on to the shelfmark's holder, or discarded. -/
def execCatBounce (region tile probeAcc code : Nat) (header : Flit) (payload : List Flit) (s : State) : Host.Outcome State Fault Refusal :=
  let m := Msg.ofFlits header payload
  let s := s.recv (Msg.up region tile 0x4E (pack [(0, 20, probeAcc), (20, 4, code)]) (header :: payload))
  let h := s.hub region
  let c := tileCol tile
  if shelfBound.contains m.op then
    match h.shelfAt tile (bits m.arg 0 20) with
    | some l =>
      (match h.cat.rowOf c l with
       | some row =>
         if h.cat.holdersOf c l = [] ∧ m.op ≠ 0x40 then .next ((s.staleLost region).reapReadings region)
         else .next (s.resend region (tileAt row c) m)
       | none => .next ((s.staleLost region).reapReadings region))
    | none => .next ((s.staleLost region).reapReadings region)
  else
    let s := s.staleLost region
    match (if m.op = 0x62 then (h.queueOf c).find? (fun x => x.running && x.reader == some tile) else none) with
    | some x => .next ((s.readerFault region c x true).afterReading region)
    | none => .next s

end Sys2Proof.Machine
end

