-- ==== Sys2Proof/Machine/MapOps.lean ====
section
/-! DEFINITION. The register map as operations: where a GHP address lies (R486), which fields a Charter section may load (R415, R477), which
fields are locked (R11, R184, R477), and masked loads of register fields (R413). -/

namespace Sys2Proof.Machine

/-- A place of the map: window, instance and offset within it. -/
structure Place where
  win : Win
  inst : Nat
  off : Nat
  deriving DecidableEq, Repr

/-- Where an address below the mirror lies (R486). A gap between windows answers as a reserved part of the Kiln's. -/
def placeOf (a : Nat) : Place :=
  if 0x140100 ≤ a ∧ a < 0x140200 then ⟨.stkwin, (a - 0x140100) / 16, 0x100 + a % 16⟩
  else if 0x140400 ≤ a ∧ a < 0x140C00 then ⟨.channel, (a - 0x140400) / 64, a % 64⟩
  else if 0x180000 ≤ a ∧ a < 0x1C0000 then ⟨.clp, (a - 0x180000) / 0x2000, a % 0x2000⟩
  else if 0x1000000 ≤ a ∧ a < 0x2000000 then ⟨.tenant, (a - 0x1000000) / 0x1000, a % 0x1000⟩
  else if 0x8000000 ≤ a ∧ a < 0xC800000 then ⟨.hub, (a - 0x8000000) / 0x10000, a % 0x10000⟩
  else if 0x10000000 ≤ a ∧ a < 0x34000000 then ⟨.probe, pid ((a - 0x10000000) / 0x80000) (a % 0x80000 / 0x100), a % 0x100⟩
  else ⟨.kiln, 0, a⟩

/-- The register of a window that an offset falls in. -/
def rowAt (w : Win) (off : Nat) : Option RegRow := w.rows.find? (fun r => decide (r.off ≤ off ∧ off < r.off + r.size))

/-- The Charter has declared the grid: bring-up has applied a GEOMETRY section. -/
def State.declared (s : State) : Bool := s.cfg.sections.contains 1

/-- The window of an instance exists: its region, probe or tenant is one that the Charter declares (R486). A tenant page counts as
declared here; R494 judges it. -/
def State.windowExists (s : State) (w : Win) (i : Nat) : Bool :=
  match w with
  | .hub => s.declared && decide (i < s.regionCount)
  | .probe => s.declared && decide (i / 2048 < s.regionCount ∧ i % 2048 < 1056)
  | _ => true

/-- The fields that generic entries of a section may load (R415, R477). -/
def loadable : Nat → List RegField
  | 0x02 => [Reg.SNS_PERIOD_PERIOD]
  | 0x04 => [Reg.CCD_GCTRL_DOLMODE, Reg.CCD_GCTRL_EPTMO, Reg.CCD_GCTRL_EPLAG, Reg.CCD_GCTRL_DEPG, Reg.CCD_TPCTRL_TPPER, Reg.CCD_TPCTRL_TPMAX,
             Reg.CCD_CTRL_CR]
  | 0x05 => [Reg.TP_CTRL_RETRY, Reg.RH_RD_CTRL_SHARE, Reg.RH_RD_CTRL_PADEN, Reg.RH_RD_PAD_PADLEN, Reg.RH_CAT_CTRL_TREN, Reg.RH_CAT_DWELL_MS,
             Reg.RH_CAT_TRLIST_PERIOD, Reg.RH_CAT_TRLIST_PHASE, Reg.RH_IFT_CTRL_MWEN, Reg.RH_IFT_OVERDUE_DWELLS, Reg.FOLIO_CTRL_LEAD,
             Reg.FOLIO_CTRL_XLEAD, Reg.LDG_CTRL_DDR]
  | 0x06 => [Reg.FLT_BUCKET_N, Reg.FLT_BUCKET_WSEC, Reg.FLT_CTRL_L3HOLD, Reg.RH_LG_CTRL_BURST, Reg.RH_LG_CTRL_REFILLMS]
  | 0x07 => [Reg.RCV_CTRL_CTXHOLD, Reg.RCV_CTRL_REPLAYMS, Reg.RCV_ENGHOLD_HOLD, Reg.RCV_PARTHOLD_HOLD, Reg.RCV_CHIPHOLD_HOLD,
             Reg.RCV_LADDER_WINSEC, Reg.RH_WD_CTRL_WDT, Reg.RH_WD_CTRL_EN]
  | 0x08 => [Reg.RH_MW_THR_B0, Reg.RH_MW_THR_B1, Reg.RH_MW_THR_B2, Reg.RH_MW_THR_B3, Reg.RH_MW_TREND_HORIZON, Reg.RH_MW_TREND_MINN,
             Reg.RH_MW_TREND_MINSPAN, Reg.RH_MW_TREND_TRENDEN, Reg.RH_TH_CTRL_TTHR, Reg.RH_TH_CTRL_GAIN, Reg.RH_TH_CTRL_HYST, Reg.RH_TH_AMB_AMB]
  | 0x09 => [Reg.SNS_CTRL_EN, Reg.TLY_CTRL_PERIODMS, Reg.TLY_CTRL_BATCHMS]
  | 0x0B => [Reg.TP_CNTSEL_EV6, Reg.TP_CNTSEL_EV7, Reg.RH_TR_CTRL_CLASSEN, Reg.RH_TR_CTRL_SAMPLE, Reg.RH_TR_FILT_TENANT, Reg.RH_TR_FILT_ANYT,
             Reg.RH_TR_FILT_LAYER, Reg.RH_TR_FILT_ANYL, Reg.DBG_EVSEL_EV, Reg.DBG_GSCTRL_EXTEN, Reg.DBG_TRBASE_BASE, Reg.DBG_TRSIZE_LOG2,
             Reg.DBG_TRCTRL_EN, Reg.DBG_TRCTRL_TPEN]
  | 0x0C => [Reg.VLT_CTRL_PERIOD, Reg.VLT_CTRL_NONCETTL]
  | _ => []

/-- The section that may load a field. -/
def sectionOf (f : RegField) : Option Nat := (List.range 16).find? (fun c => (loadable c).contains f)

/-- Sections that an amendment may carry (R414). -/
def amendable : List Nat := [0x04, 0x05, 0x06, 0x07, 0x08, 0x09, 0x0A, 0x0B, 0x0C]

/-! ## Generic entries (R413) -/

/-- The window, offset and, for REGLOAD, the instance that a generic entry loads. -/
def loadPlace (e : LoadEntry) : Place :=
  if e.kind = 2 then ⟨.hub, 0, e.addr⟩ else if e.kind = 3 then ⟨.probe, 0, e.addr⟩ else placeOf e.addr

/-- The instances that a generic entry loads in a grid of `n` regions. -/
def loadInstances (e : LoadEntry) (n : Nat) : List Nat :=
  if e.kind = 2 then List.range n
  else if e.kind = 3 then (List.range n).flatMap (fun r => (List.range 1056).map (pid r))
  else [(loadPlace e).inst]

/-- A generic entry is valid: its register exists in the grid, and its mask sets bits of the fields that its section may load only (R413, R415). -/
def loadOk (e : LoadEntry) (n : Nat) : Bool :=
  let p := loadPlace e
  let inGrid := match p.win with
    | .hub => decide (p.inst < n)
    | .probe => decide (p.inst / 2048 < n ∧ p.inst % 2048 < 1056)
    | _ => true
  match rowAt p.win p.off with
  | none => false
  | some r =>
    let fs := r.fields.filter (fun f => (loadable e.section_).contains f)
    inGrid && r.off == p.off && decide (1 ≤ e.kind ∧ e.kind ≤ 3 ∧ r.size ≤ 8 ∧ e.mask < 2 ^ (8 * r.size))
      && (List.range 64).all (fun i => !bit e.mask i || fs.any (fun f => decide (f.lo ≤ i ∧ i < f.lo + f.w)))

/-- A masked value over an old one. -/
def masked (old mask new : Nat) : Nat := (old ^^^ (old &&& mask)) ||| (new &&& mask)

/-- A masked write of a register's fields (R413). -/
def State.loadRow (s : State) (r : RegRow) (i mask data : Nat) : State :=
  r.fields.foldl (fun s f =>
    let m := bits mask f.lo f.w
    if m = 0 then s else s.set f i (masked (s.get f i) m (bits data f.lo f.w))) s

/-- A generic entry loads its register in the instances that `only` admits. -/
def State.loadEntry (s : State) (e : LoadEntry) (only : Win → Nat → Bool) : State :=
  let p := loadPlace e
  match rowAt p.win p.off with
  | none => s
  | some r => ((loadInstances e s.regionCount).filter (only p.win)).foldl (fun s i => s.loadRow r i e.mask e.data) s

/-- A place lies in a hub's part of the map: its own window or a probe's of its region. -/
def inRegion (r : Nat) (w : Win) (i : Nat) : Bool :=
  match w with
  | .hub => i == r
  | .probe => i / 2048 == r
  | _ => false

/-- A place lies in the Kiln's part of the map. -/
def inKiln (w : Win) (_i : Nat) : Bool := w != .hub && w != .probe

/-! ## Locks -/

/-- An amendment whose Folio is PREPARED or DECIDED changes a field: GHP writes to it are refused (R184). -/
def State.amendHolds (s : State) (f : RegField) (i : Nat) : Bool :=
  match s.bru.amend with
  | none => false
  | some a =>
    s.folios.any (fun g => decide (g.origin = 4) && (g.st == .prepared || g.st == .decided))
      && a.image.content.loads.any (fun e =>
          (loadPlace e).win == f.win && (loadPlace e).off == f.off && bits e.mask f.lo f.w != 0 && (loadInstances e s.regionCount).contains i)

/-- A field of an instance refuses host writes: an RWL field of a section that READY locked, unless a debug unlock exempts the DEBUG fields, or
a field that an amendment holds (R11, R427, R477, R184). -/
def State.locked (s : State) (f : RegField) (i : Nat) : Bool :=
  let byCharter : Bool := match sectionOf f with
    | some c => f.acc == .rwl && bit (s.get Reg.CHR_LOCK_LOCKED 0) c && !(c == 0x0B && s.dbg.unlock.isSome)
    | none => false
  byCharter || s.amendHolds f i

end Sys2Proof.Machine
end

