-- ==== Sys2Proof/Machine/BringOps.lean ====
section
/-! DEFINITION. Operations of bring-up: the fuse map (R418, R419), the checks over an image (R120, R202, R221, R320, R413–R417), the
application of a Charter (R144, R421), qualification (R425, R426) and READY (R427). -/

namespace Sys2Proof.Machine

/-- SRC of the records of bring-up (R434). -/
def bruSrc : Nat := kilnSrc 0x1F 5

/-! ## Fuses -/

/-- A fuse word as read, 0 where it has not been. -/
def Bru.fuse (b : Bru) (a : Nat) : Nat := tgetD 0 a b.fuses

/-- The fuse variant code (R419). -/
def Bru.variant (b : Bru) : Nat := bits (b.fuse 0) 0 16

/-- The next fuse word to read, in ascending order of address (R419). -/
def Bru.nextFuse (b : Bru) : Option Nat :=
  ([0x0000, 0x0010, 0x0011, 0x0012] ++ (List.range (b.fuse 0x0010)).map (0x0100 + ·) ++ (List.range (b.fuse 0x0011)).map (0x1100 + ·)
    ++ (List.range (b.fuse 0x0012)).map (0x2100 + ·)).find? (fun a => (tget a b.fuses).isNone)

/-- A fuse word makes the map malformed: MAPVER other than 1, or a count past its range (R419). -/
def fuseBad (addr data : Nat) : Bool :=
  if addr = 0 then bits data 16 8 != 1
  else if addr = 0x0010 ∨ addr = 0x0011 then decide (4096 < data)
  else if addr = 0x0012 then decide (32 < data)
  else false

/-- Positions that the fuses mark bad: listed tiles, and tiles that hold an UNREPAIRED row (R419). -/
def Bru.badTiles (b : Bru) : List (Nat × Nat) :=
  (List.range (b.fuse 0x0010)).map (fun i => (bits (b.fuse (0x0100 + i)) 0 11, bits (b.fuse (0x0100 + i)) 11 11))
    ++ ((List.range (b.fuse 0x0011)).filter (fun i => bit (b.fuse (0x1100 + i)) 31)).map
        (fun i => (bits (b.fuse (0x1100 + i)) 0 11, bits (b.fuse (0x1100 + i)) 11 11))

/-! ## The image -/

/-- No two of the keys are equal. -/
def distinct (l : List Nat) : Bool := l.eraseDups.length == l.length

/-- Engines and partitions in range, every region in exactly one engine (R221); a Charter without entries takes the default. -/
def charterEnginesOk (c : Charter) (n : Nat) : Bool :=
  let rs := c.engines.flatMap (·.regions)
  c.engines.isEmpty ||
    (distinct (c.engines.map (·.engine)) && c.engines.all (fun e => decide (e.engine < 256 ∧ e.partition < 16))
      && distinct rs && rs.all (fun r => decide (r < n)) && rs.length == n)

/-- A header that a probe holding a context for its tenant would accept (R77, R120). -/
def headerFits (h : Hdr) : Bool := ({ ctx := [(0, { valid := true, tenant := h.tenant })] } : Probe).rejectCode h == 0

/-- The lines of an operand region hold no NaN and no infinity, as a pattern's fill writes them (R120). -/
def linesFinite (key pat : Nat) (d : Pattern) (f : Fmt) (base len : Nat) : Bool :=
  (List.range len).all (fun i =>
    match patternUnit key pat d ((base + i) / 2) with
    | some w => (List.range (256 / f.width)).all (fun j => !(decodeElem f false (elemAt f (bits w (256 * ((base + i) % 2)) 256) j)).na)
    | none => true)

/-- The operands of an EXACT matrix pattern that carry no shared scale are free of NaN and infinity (R120); where the scales of an operand lie is the host's
own matter, and the image's verdict answers for those (assumption 113). -/
def operandsFinite (key pat : Nat) (d : Pattern) : Bool :=
  let one := fun (code : Nat) (scaled : Bool) base len => scaled || (match Fmt.ofCode code with
    | some f => linesFinite key pat d f base len
    | none => true)
  !(d.hdr.matrix && d.hdr.exact) || (one d.hdr.fmta d.hdr.sca d.hdr.abase d.hdr.alen && one d.hdr.fmtb d.hdr.scb d.hdr.bbase d.hdr.blen)

/-- The pattern library of a POLICY section (R120): 1 to 64 descriptors, MARGIN among them, TENANT 0, no reserved FILL, finite operands. -/
def patternsFit (policy : Bool) (key : Nat) (l : List (Nat × Pattern)) : Bool :=
  (l.isEmpty && !policy) ||
    (decide (l.length ≤ 64) && distinct (l.map (·.1)) && l.all (fun e => decide (e.1 < l.length) && decide (e.2.fill ≤ 2) && headerFits e.2.hdr
        && decide (e.2.hdr.tenant = 0 ∧ e.2.expA < 2 ^ 31 ∧ e.2.expB < 2 ^ 31 ∧ e.2.expBeats < 2 ^ 20 ∧ e.2.cover < 32) && operandsFinite key e.1 e.2)
      && l.any (·.2.margin))

/-- A KINDCLASS entry (R202, R203): a host kind takes any class; another keeps the entries of R201; N and W are set for class BKT only. -/
def kindEntryOk (e : KindEntry) : Bool :=
  let base : Nat := match baseClass e.kind with | .log => 0 | .bkt => 1 | .l1 => 2 | .l2 => 3 | .l3 => 4
  let three := if [0x205, 0x303, 0x304, 0x601].contains e.kind then 2 else [0, 0, 1, 2, 3].getD base 0
  decide (e.service ≤ 4 ∧ e.three ≤ 3 ∧ e.n ≤ 15 ∧ e.w ≤ 3600)
    && (isHostKind e.kind || (e.corr == false && e.service == base && e.three == three))
    && (e.service == 1 || (e.n == 0 && e.w == 0))

/-- A record ring or the Tally ring: a power of two between two sizes (R293, R334). -/
def ringOk (size lo hi : Nat) : Bool := decide (lo ≤ size ∧ size ≤ hi) && size == 2 ^ Nat.log2 size

/-- A TENANT entry (R99, R293, R414). -/
def tenantEntryOk (e : TenantEntry) : Bool :=
  decide (0 < e.tenant ∧ e.tenant < 4096) && (!e.valid || (decide (e.job < 2 ^ 32 ∧ e.slice < 4096) && (decide (e.d ≤ 16) || e.d == 31)
    && ringOk e.recSize (2 ^ 16) (2 ^ 30) && e.bindings.all (fun b => decide (b.1 < 32 ∧ b.2 < 4096))))

/-- A Stacker window (R375). -/
def windowEntryOk (e : WindowEntry) : Bool := decide (e.index < 16 ∧ e.tenant < 4096 ∧ e.base + e.size ≤ 2 ^ 48) && e.base % 4096 == 0 && e.size % 4096 == 0

/-- Every value is in its range, keys are unique, and the checks of R120, R202, R221, R320 and R415 pass, for a grid of `n` regions (R414,
R416, R417). -/
def charterFits (c : Charter) (n : Nat) : Bool :=
  charterEnginesOk c n && patternsFit (c.sections.contains 5) (c.iftKey.getD 0) c.patterns
    && distinct (c.quench.map (fun e => pid e.1 e.2.1)) && c.quench.all (fun e => decide (e.1 < n ∧ e.2.1 < 1056 ∧ e.2.2 < 8))
    && decide (c.ordinal < 4096 ∧ c.minUp ≤ 32)
    && distinct (c.ports.map (·.clp)) && c.ports.all (fun e => decide (e.clp < 32 ∧ e.peer < 4096))
    && distinct (c.windows.map (·.index)) && c.windows.all windowEntryOk
    && distinct (c.kinds.map (fun e => 2 * e.kind + flag e.corr)) && c.kinds.all kindEntryOk
    && distinct (c.tcoefs.map (·.region)) && c.tcoefs.all (fun e => decide (e.region < n ∧ e.bv + 4 * e.bl < 2 ^ 24))
    && distinct (c.channels.map (·.channel))
    && c.channels.all (fun e => decide (e.channel < 8 ∧ e.kind ≤ 2) && (e.kind == 0 || decide (0 < e.rshunt)) && e.regions.all (fun r => decide (r < n)))
    && distinct (c.weights.map (·.region)) && c.weights.all (fun e => (decide (e.region < n) || e.region == 0xFFFF) && e.weights.length == 10 && decide (0 < e.vref))
    && distinct (c.leaks.map (·.region)) && c.leaks.all (fun e => (decide (e.region < n) || e.region == 0xFFFF) && e.values.length == 21)
    && (match c.ring with | some r => ringOk r.2 (2 ^ 20) (2 ^ 32) | none => true)
    && distinct (c.tenants.map (·.tenant)) && c.tenants.all tenantEntryOk
    && distinct (c.officers.map (·.keyid)) && c.officers.all (fun e => decide (e.keyid < 4))
    && c.loads.all (fun e => c.sections.contains e.section_ && loadOk e n)

/-- GEOMETRY and CLOCKS of a Charter, with the limits of the fuse variant (R19, R60, R414, R417). -/
def charterHostFits (c : Charter) (variant : Nat) : Bool :=
  c.sections.contains 1 && c.sections.contains 2
    && decide (1 ≤ c.w ∧ c.w ≤ min 36 (bits variant 0 6) ∧ 1 ≤ c.h ∧ c.h ≤ bits variant 6 5 + 1 ∧ c.spine < c.w)
    && decide (c.layout ≤ 1 ∧ 16 ≤ c.accW ∧ c.accW ≤ 640 ∧ 1 ≤ c.accWords ∧ c.accWords ≤ 16 ∧ c.accW * c.accWords ≤ 1024)
    && decide (1200000 ≤ c.rclk ∧ c.rclk ≤ 2200000)

/-- Checks 0x01 to 0x08 of R417, the first failure's code, 0 for none. -/
def State.imageCheck (s : State) (i : Image) (isAmendment : Bool) (ckh : Nat) : Nat :=
  let most := if isAmendment then 2 ^ 20 else 16777216
  if i.headerOk = false ∨ i.isAmendment ≠ isAmendment ∨ i.length % 64 ≠ 0 ∨ most < i.length then 1
  else if i.release ≠ s.get Reg.KILN_ID_VERSION 0 then 2
  else if (i.variant ^^^ s.bru.variant) &&& i.vmask ≠ 0 then 3
  else if ckh = 0 ∨ ckh = 2 ^ 384 - 1 then 4
  else if i.keyHash ≠ ckh then 5
  else if i.ecdsaOk = false then 6
  else if i.mldsaOk = false then 7
  else if i.structureOk = false then 8
  else 0

/-! ## Power-down (R445) -/

/-- PD_QUIESCE begins: PREPARED Folios are voided with reason 10, general Stacker channels are dropped as by ABORT, every hub is ordered to fence. A
PSTATE record goes where ON is left. -/
def State.quiesce (s : State) : State :=
  let s := { s with pwr := { s.pwr with state := .pdQuiesce, back := s.pwr.state, offLatch := false, committed := false,
                                        quiesceAwait := if s.bru.trained then s.liveRegions else [] },
                    bru := { s.bru with paused := s.bru.inBringUp } }
  let s := if s.pwr.back = .on then s.bankedRecord 0x1201 5 s.pwr.source 0 else s
  let s := s.voidAll 10 ((s.folios.filter (fun f => f.st == .prepared)).map (·.number))
  let s := ((List.range 32).filter (fun n => decide (4 ≤ n))).foldl (fun s n =>
    let st := (s.stkCh n).st
    if st = .fetch ∨ st = .run ∨ st = .flush then (s.stkDropCh n).raise Reg.STK_EVENT_DROP 0 else s) s
  if s.bru.trained then s.fenceAll true else s

/-- A sub-step of bring-up ends: the next begins, or an off request that waited steps the domain down (R445). -/
def State.subStep (s : State) (go : State → State) : State :=
  if s.bru.paused then s
  else if s.pwr.state = .puBring ∧ s.pwr.offLatch then s.quiesce
  else go s

/-! ## Application -/

/-- The marks of the build of a region, in the order of R144: fuses, the Charter's list, failed self-tests, and early L1s (R422). -/
def State.marksOf (s : State) (r : Nat) : List (Nat × Nat) :=
  ((s.bru.badTiles.filter (fun e => e.1 == r)).map (fun e => (e.2, 1)))
    ++ ((s.cfg.quench.filter (fun e => e.1 == r)).map (fun e => (e.2.1, 2)))
    ++ ((s.bru.pstKnown.filter (fun e => e.1 == r)).map (fun e => (e.2, 5)))
    ++ ((s.bru.early.filter (fun e => e.1 == r)).map (fun e => (e.2.1, e.2.2)))

/-- The Catalogue is built, at the Kiln and at every hub (R144). -/
def State.buildCatalogue (s : State) : State :=
  (List.range s.regionCount).foldl (fun s r =>
    let p := CatPart.build (s.marksOf r) s.pwr.secs
    { (s.modHub r (fun h => { h with cat := p })) with master := tput r p s.master }) s

/-- Columns of a state in the Catalogue. -/
def State.columnsIn (s : State) (c : ColState) : Nat :=
  ((List.range s.regionCount).map (fun r => ((List.range 32).filter (fun k => (s.masterOf r).stateOf k == c)).length)).foldl (· + ·) 0

/-- More columns are PARKED, EXHAUSTED or CLOSED than REGIONS LIMITS allows; 0xFFFF is no limit (R414, R422). -/
def State.overLimits (s : State) : Bool :=
  let past := fun (c : ColState) (m : Nat) => m != 0xFFFF && decide (m < s.columnsIn c)
  past .parked s.cfg.maxPark || past .exhausted s.cfg.maxExh || past .closed s.cfg.maxClosed

/-- Patterns by index. -/
def charterLibrary (c : Charter) : List Pattern := (List.range c.patterns.length).filterMap (fun i => (c.patterns.find? (fun e => e.1 == i)).map (·.2))

/-- A hub takes what it holds of a configuration: pattern library, IFT key, and T_amb of its entry among `tc` (R120, R320). -/
def State.hubTakes (s : State) (r : Nat) (tc : List TcoefEntry) : State :=
  let s := s.modHub r (fun h => { h with patterns := charterLibrary s.cfg, iftKey := s.cfg.iftKey.getD 0 })
  let s := s.set Reg.RH_IFT_CTRL_NPAT r (charterLibrary s.cfg).length
  match tc.find? (fun e => e.region == r) with
  | some e => s.set Reg.RH_TH_AMB_AMB r e.amb
  | none => s

/-- Sense channels take the initial K̄ of their entries where `l` names them (R317, R414). -/
def State.setKbar (s : State) (l : List ChannelEntry) : State :=
  { s with tally := { s.tally with channels := l.foldl (fun t e =>
      let c : SenseCh := tgetD {} e.channel t
      tput e.channel { c with kbar := e.kbar } t) s.tally.channels } }

/-- CHR_INFO (R436). -/
def State.showCharter (s : State) : State :=
  s.setAll 0 [(Reg.CHR_INFO_SERIAL, s.bru.serial), (Reg.CHR_INFO_MEKOR, s.bru.mekor), (Reg.CHR_INFO_LENGTH, s.bru.length),
    (Reg.CHR_INFO_AMSEQ, s.bru.amseq), (Reg.CHR_INFO_EDIGEST, s.bru.edigest)]

/-- Every hub is sent its part of each section of a list, and its acknowledgement is awaited (R421, R432, R435). A part is shown as one empty flit,
since the spec does not say which entries it holds (assumption 71). -/
def State.sendCharter (s : State) (sections : List Nat) : State × List (Nat × Nat) :=
  let l := s.liveRegions.flatMap (fun r => sections.map (fun c => (r, c)))
  (s.sendAll (l.map (fun e => msgChData e.1 0 true e.2 [0])), l)

/-- Step 7: a verified Charter is applied, or refuses (R41, R421, R422). -/
def State.applyCharter (s : State) (i : Image) : State :=
  let s := { s with bru := { s.bru with state := .apply, serial := i.serial, mekor := i.mekor, length := i.length, edigest := i.digest, amseq := 0 } }
  if s.bru.hopsOk = false then s.bruRefuse 0x20 s.bru.trainDetail
  else if i.content.w ≠ s.bru.trainW ∨ i.content.h ≠ s.bru.trainH ∨ i.content.spine ≠ s.bru.trainS then s.bruRefuse 0x21 s.bru.trainDetail
  else
    let s := { s with cfg := i.content, pwr := { s.pwr with khz := i.content.rclk } }
    let s := (s.setAll 0 [(Reg.KILN_GEOM_W, s.cfg.w), (Reg.KILN_GEOM_H, s.cfg.h), (Reg.KILN_GEOM_S, s.cfg.spine)]).showCharter.buildCatalogue
    if s.overLimits then s.bruRefuse 0x30 0
    else
      let s := s.cfg.loads.foldl (fun s e => s.loadEntry e (fun _ _ => true)) s
      let s := ((List.range s.regionCount).foldl (fun s r => s.hubTakes r s.cfg.tcoefs) s).setKbar s.cfg.channels
      let (s, l) := s.syncBindings.sendCharter s.cfg.sections
      { s with bru := { s.bru with hubAcks := l } }

/-! ## Qualification and READY -/

/-- Bit `c` of a register of one bit to a port. -/
def State.setPortBit (s : State) (f : RegField) (c : Nat) (v : Bool) : State :=
  let x := s.get f 0
  s.set f 0 (masked x (2 ^ c) (if v then 2 ^ c else 0))

/-- Every hub opens the fences of its SERVICE positions, and GAP and QUENCHED positions take their roles (R140, R427). -/
def State.driveRoles (s : State) (r : Nat) : State :=
  (List.range 1056).foldl (fun s t =>
    let p := (s.hub r).cat
    let role := (p.at t).role
    let lrow := (p.lrowOf (tileCol t) (tileRow t)).getD 0
    let s := s.setFence r t (match role with | .service => .opened | .gap => .gap | .quenched => .quenched)
    s.modProbe r t (fun q => { q with role := role, accession := (p.at t).accession, shelfX := if role = .service then s.shelfX r (tileCol t) else 0,
                                      shelfY := if role = .service then s.shelfY r lrow else 0, shelfValid := role == .service })) s

/-- READY (R427). -/
def State.bruReady (s : State) : State :=
  let (lock, allow) : Nat × Nat := s.cfg.policy.getD (0xFFFF, 0)
  let s := { s with bru := { s.bru with state := .ready, code := 0, classH := false } }
  let s := s.setAll 0 [(Reg.CHR_LOCK_LOCKED, lock), (Reg.CHR_LOCK_ALLOW, allow), (Reg.BRU_STATUS_UNPROV, flag (s.vault.st == .unprovisioned))]
  let s := ((s.liveRegions.foldl (fun s r => s.driveRoles r) s).setPhase .service).rollBackLost none
  let s := ((List.range 32).filter (fun c => (s.port c).qualified)).foldl (fun s c => s.enablePort c) s
  let quenched := ((List.range s.regionCount).map (fun r => ((List.range 1056).filter (fun t => ((s.masterOf r).at t).role == .quenched)).length)).foldl (· + ·) 0
  let us := (s.gt - s.bru.start) * 4000 / s.cfg.rclk
  (((s.raise Reg.BRU_EVENT_READY 0).recordOf 0x1301 bruSrc us s.bru.serial quenched).event 13).bruEnd

/-- Ports whose qualification has passed. -/
def State.qualifiedCount (s : State) : Nat := ((List.range 32).filter (fun c => (s.port c).qualified)).length

/-- QUALIFY ends once every enabled port has reported (R422). -/
def State.qualCheck (s : State) : State :=
  if s.bru.state ≠ .qualify ∨ s.bru.qualAwait ≠ [] then s
  else if s.qualifiedCount < s.cfg.minUp then s.bruRefuse 0x50 0
  else if s.bru.ledgerDone then s.bruReady
  else s

/-- Step 8: qualification of the enabled ports that are not reserved begins, and Sense channels enter INIT (R421, R425). -/
def State.qualify (s : State) : State :=
  let l := (s.cfg.ports.filter (fun e => e.enabled && !e.reserved)).map (·.clp)
  let s := { s with bru := { s.bru with state := .qualify, qualAwait := l } }
  (((l.foldl (fun s c => s.modPort c (fun p => { p with qualified := false })) s).emitAll (l.map (fun c => .qualReq c true))).syncSense).qualCheck

/-- LOAD begins (R422). -/
def State.bruLoad (s : State) : State := { s with bru := { s.bru with state := .load, code := 0, classH := false, go := false } }

/-- SELFTEST ends once the Vault has left SELFTEST and steps 2 to 4 are done (R422). -/
def State.bruNext (s : State) : State :=
  let waits := fun (s : State) => if s.bru.go then s.bruLoad else { s with bru := { s.bru with state := .waitch } }
  let out := s.vault.st != .off && s.vault.st != .selftest && s.vault.st != .error
  let sums := (List.range (s.bru.trainW * s.bru.trainH)).all (fun r => s.bru.pstSums.contains r)
  if s.bru.state = .selftest ∧ out ∧ s.bru.fuseDone ∧ s.bru.trained ∧ sums then
    s.subStep waits
  else s

/-- A verified image is applied, once LOAD's sub-step has ended. -/
def State.bruVerified (s : State) (i : Image) : State :=
  ({ s with bru := { s.bru with image := some i } }).subStep (fun s => ({ s with bru := { s.bru with image := none } }).applyCharter i)

/-- Bring-up resumes at its next sub-step after an on request in PD_QUIESCE or PD_FLUSH (R445). -/
def State.bruResume (s : State) : State :=
  let s := { s with bru := { s.bru with paused := false } }
  match s.bru.state with
  | .selftest => s.bruNext
  | .waitch => if s.bru.go then s.bruLoad else s
  | .load => (match s.bru.image with | some i => s.bruVerified i | none => s)
  | .apply => if s.bru.hubAcks = [] then s.subStep State.qualify else s
  | .qualify => s.qualify
  | .ready | .refused => s

/-- Bring-up begins with the release of the internal reset: the Vault's tests, the sealed latch and the fuse map (R421, R445). -/
def State.bringUpStart (s : State) : State :=
  let s := { s with bru := { s.bru with state := .selftest, start := s.gt }, vault := { s.vault with st := .selftest } }
  if s.pwr.sealedLatch then s.bruRefuse 0x10 0 else s.emit (.fuseRd 0)

end Sys2Proof.Machine
end

