-- ==== Sys2Proof/Machine/CharterOps.lean ====
section
/-! DEFINITION. Operations of the Charter unit on amendments that other units call: the reasons of R431, the vote, and the application at the
seal (R429, R430, R432, R433). -/

namespace Sys2Proof.Machine

/-! ## Merging -/

/-- Entries replaced by key, or added (R429). -/
def mergeBy {α : Type} (key : α → Nat) (old new : List α) : List α := old.filter (fun x => !new.any (fun y => key y == key x)) ++ new

/-- The configuration with a section of an amendment merged into it (R429). -/
def mergeSection (c a : Charter) (sect : Nat) : Charter :=
  let c := { c with sections := if c.sections.contains sect then c.sections else c.sections ++ [sect] }
  if sect = 0x04 then { c with chip := a.chip.orElse (fun _ => c.chip), ports := mergeBy PortEntry.clp c.ports a.ports }
  else if sect = 0x05 then
    { c with iftKey := a.iftKey.orElse (fun _ => c.iftKey), patterns := mergeBy (fun (e : Nat × Pattern) => e.1) c.patterns a.patterns,
             dkey := a.dkey.orElse (fun _ => c.dkey), windows := mergeBy WindowEntry.index c.windows a.windows }
  else if sect = 0x06 then { c with kinds := mergeBy (fun (e : KindEntry) => 2 * e.kind + flag e.corr) c.kinds a.kinds }
  else if sect = 0x08 then { c with tcoefs := mergeBy TcoefEntry.region c.tcoefs a.tcoefs }
  else if sect = 0x09 then
    { c with channels := mergeBy ChannelEntry.channel c.channels a.channels, weights := mergeBy WeightsEntry.region c.weights a.weights,
             leaks := mergeBy LeakEntry.region c.leaks a.leaks, ring := a.ring.orElse (fun _ => c.ring),
             kilnFix := a.kilnFix.orElse (fun _ => c.kilnFix) }
  else if sect = 0x0A then { c with tenants := (mergeBy TenantEntry.tenant c.tenants a.tenants).filter (·.valid) }
  else if sect = 0x0C then { c with officers := mergeBy OfficerEntry.keyid c.officers a.officers }
  else c

/-- The configuration with every section of an amendment merged. -/
def mergeAll (c a : Charter) : Charter := a.sections.foldl (fun c k => mergeSection c a k) c

/-- A section of an amendment loads hub or probe fields (R432): generic entries there, the pattern library and the IFT key, class entries, thermal
coefficients, and the power model (R120, R203, R314, R320). -/
def toHubs (a : Charter) (sect : Nat) : Bool :=
  a.loads.any (fun e => e.section_ == sect && ((loadPlace e).win == .hub || (loadPlace e).win == .probe))
    || (sect == 0x05 && (a.iftKey.isSome || !a.patterns.isEmpty)) || (sect == 0x06 && !a.kinds.isEmpty)
    || (sect == 0x08 && !a.tcoefs.isEmpty) || (sect == 0x09 && !(a.weights.isEmpty && a.leaks.isEmpty))

/-! ## Checks -/

/-- A TENANT entry removes or changes the JOB or SLICE of a tenant that holds a shelfmark (R431). -/
def State.disturbs (s : State) (e : TenantEntry) : Bool :=
  match s.tenantEntry e.tenant with
  | none => false
  | some o => !(s.regionsOfTenant e.tenant).isEmpty && (!e.valid || e.job != o.job || e.slice != o.slice)

/-- The reason for which an amendment is rejected, 0 for none (R431). -/
def State.amendReason (s : State) (i : Image) : Nat :=
  let c := s.imageCheck i true s.bru.ckh
  let merged := mergeAll s.cfg i.content
  let allow := s.get Reg.CHR_LOCK_ALLOW 0
  if c ≠ 0 then c
  else if i.patternsOk = false ∨ charterFits merged s.regionCount = false ∨ i.content.loads.any (fun e => !(i.content.sections.contains e.section_ && loadOk e s.regionCount)) then 9
  else if i.base ≠ s.bru.edigest then 10
  else if i.serial ≠ wrap 32 (s.bru.amseq + 1) then 11
  else if i.content.sections.any (fun k => !amendable.contains k || !bit allow k) then 12
  else if i.content.tenants.any s.disturbs then 13
  else 0

/-- The Charter unit waits for acknowledgements of hubs that are not lost (R432). -/
def State.amendAwaits (s : State) : Bool :=
  match s.bru.amend with
  | some a => a.await.any (fun e => !s.lost.contains e.1)
  | none => false

/-- The vote code of the Charter unit on a CHARTER_AMEND: 11 where it is not the amendment in hand (R178, R432). -/
def State.amendCheck (s : State) (a : Act) : Nat :=
  match s.bru.amend with
  | some m => if m.image.serial = bits a.arg 0 32 then 0 else 11
  | none => 11

/-! ## Application -/

/-- A rejected amendment (R431, R434). -/
def State.amendReject (s : State) (reason seq : Nat) : State :=
  ((s.setAll 0 [(Reg.CHR_AMST_RESULT, 2), (Reg.CHR_AMST_REASON, reason)]).raise Reg.BRU_EVENT_AMREJ 0).recordOf 0x1304 bruSrc reason seq 0

/-- Ports that an amendment disables take their loss actions (R252, R433). -/
def State.dropPorts (s : State) (l : List PortEntry) : State :=
  (l.filter (fun e => !e.enabled || e.reserved)).foldl (fun s e => s.disablePort e.clp) s

/-- Bindings that a replaced TENANT entry no longer declares go, and those it declares exist (R259, R429). -/
def State.rebind (s : State) (l : List TenantEntry) : State :=
  let gone : List (Nat × Binding) := l.flatMap (fun e => (s.bindingsOf e.tenant).filter (fun b => !(e.valid && !e.standby && e.bindings.contains (b.1, b.2.pslice))))
  (gone.foldl (fun s b => s.dropBinding b.1 b.2) s).syncBindings

/-- A section takes effect in the Kiln: the configuration, the Kiln's register fields, and what follows from them. -/
def State.amendKiln (s : State) (a : Charter) (sect : Nat) : State :=
  let s := { s with cfg := mergeSection s.cfg a sect }
  let s := (a.loads.filter (fun e => e.section_ == sect)).foldl (fun s e => s.loadEntry e inKiln) s
  if sect = 0x04 then s.dropPorts a.ports
  else if sect = 0x09 then (s.setKbar a.channels).syncSense
  else if sect = 0x0A then s.rebind a.tenants
  else if sect = 0x0B then s.stopPin
  else s

/-- With its last section an amendment is applied: the effective digest, AMSEQ, the record, the SETTING records (R430, R432, R434). -/
def State.amendDone (s : State) (i : Image) (number : Nat) : State :=
  let e := sha384 (bytesBE 48 s.bru.edigest ++ bytesBE 48 i.digest)
  let s := { s with bru := { s.bru with amend := none, amended := s.bru.amended ++ [i], amseq := i.serial, edigest := e } }
  let s := ((s.setAll 0 [(Reg.CHR_AMST_BUSY, 0), (Reg.CHR_AMST_RESULT, 0), (Reg.CHR_AMST_REASON, 0)]).raise Reg.BRU_EVENT_AMEND 0).showCharter
  let s := s.recordOf 0x1303 bruSrc i.serial (maskOf i.content.sections) number
  s.cfg.tenants.foldl (fun s t => s.settingChanged t.tenant) s

/-- The Charter unit applies a section of the amendment at its seal (R432). -/
def State.amendApply (s : State) (number : Nat) (a : Act) : State :=
  match s.bru.amend with
  | none => s
  | some m =>
    let sect := bits a.arg 32 4
    let s := { s with bru := { s.bru with amend := some { m with left := m.left.filter (· != sect) } } }
    let s := s.amendKiln m.image.content sect
    if m.left.filter (· != sect) = [] then s.amendDone m.image number else s

/-- Trace turned on at a hub writes a MARK (R470). -/
def State.hubTraceOn (s old : State) (r : Nat) : State :=
  if bit (old.get Reg.RH_TR_CTRL_CLASSEN r) 0 = false ∧ bit (s.get Reg.RH_TR_CTRL_CLASSEN r) 0 then s.traceMark r else s

/-- The image of an amendment sequence number: the one in hand, or one applied before (R183, R186). -/
def Bru.amendment (b : Bru) (seq : Nat) : Option Image :=
  ((b.amend.map (·.image)).toList ++ b.amended).find? (fun i => wrap 32 i.serial == wrap 32 seq)

/-- A hub applies its part of a section of an amendment at its seal, or when it is brought up to date: its own and its probes' fields, and what it holds of
the section (R183, R186, R432). -/
def State.amendHub (s : State) (r : Nat) (a : Act) : State :=
  match s.bru.amendment (bits a.arg 0 32) with
  | none => s
  | some m =>
    let sect := bits a.arg 32 4
    let c := m.content
    let l := (c.loads.filter (fun e => e.section_ == sect)).foldl (fun s e => s.loadEntry e (inRegion r)) s
    let l := ({ l with cfg := mergeSection s.cfg c sect }).hubTakes r (if sect = 0x08 then c.tcoefs else [])
    (({ l with cfg := s.cfg }).modHub r (fun h => { h with parts := h.parts.filter (· != sect) })).hubTraceOn s r

end Sys2Proof.Machine
end

