-- ==== Sys2Proof/Machine/Folio.lean ====
section
/-! DEFINITION. The meanings of the commands of the Folio protocol (R169–R195), and FLT_FENCE (R217). -/

namespace Sys2Proof.Machine

/-! ## Proposals -/

/-- The result of a hub's proposal, 0 where it is accepted (R170, R173, R192): 2 malformed, 3 too long, 1 no place, or one that a proposal of the Kiln's
awaits. -/
def State.proposalResult (s : State) (urgent : Bool) (acts : List Act) : Nat :=
  if acts = [] ∨ acts.any (fun a => !actCodes.contains a.act) then 2
  else if acts.length > 256 then 3
  else if s.hasPlace urgent ∧ s.fl.waiting.all (fun w => w.urgent != urgent) then 0 else 1

/-- FL_PROPOSE (R172, R173, R192): parts are collected, and with the last one the proposal takes a number, or is refused. -/
def execFlPropose (region part pid : Nat) (last urgent : Bool) (acts : List Flit) (s : State) : Host.Outcome State Fault Refusal :=
  let s := s.recv (msgFlPropose region part pid last urgent acts)
  let key := 32 * region + pid
  let all := (if part = 0 then [] else tgetD [] key s.fl.parts) ++ acts.map Act.ofFlit
  if last = false then
    .next ({ s with fl := { s.fl with parts := tput key all s.fl.parts } }.send (msgFlAccept region pid 0 0))
  else
    let s := { s with fl := { s.fl with parts := tdel key s.fl.parts } }
    let result := s.proposalResult urgent all
    if result ≠ 0 then
      let s := if result = 1 then s.raise Reg.FOLIO_EVENT_BUSY 0
        else (all.filter (fun a => a.act == 0x02)).foldl (fun s a => s.reactRefused a.region a.col a.row) s
      .next (s.send (msgFlAccept region pid result 0))
    else
      let (n, s) := s.enqueue { acts := all, urgent := urgent, origin := 0 } (some (region, pid))
      let s := (s.urgentVoids n).admitWaiting
      let s := (all.filter (fun a => a.act == 0x02)).foldl (fun s a => s.reactLearn a.region a.col a.row n) s
      .next (s.send (msgFlAccept region pid 0 n))

/-- A hub's list of unanswered proposals changed. -/
def State.mapProposed (s : State) (r : Nat) (f : List (Nat × List Act × Bool × Bool) → List (Nat × List Act × Bool × Bool)) : State :=
  s.modHub r (fun h => { h with fl := { h.fl with proposed := f h.fl.proposed } })

/-- FL_ACCEPT (R173, R192): the hub's proposal is accepted under a number, is kept for a retry where it was refused BUSY, or is dropped. -/
def execFlAccept (region pid result number : Nat) (s : State) : Host.Outcome State Fault Refusal :=
  let s := s.recv (msgFlAccept region pid result number)
  if result = 0 ∧ number = 0 then .next s
  else if result = 1 then
    .next (s.mapProposed region (fun l => l.map (fun e => if e.1 = pid then (e.1, e.2.1, e.2.2.1, true) else e)))
  else
    let mine := (((s.hub region).fl.proposed.find? (fun e => e.1 == pid)).map (·.2.1)).getD []
    let s := if result = 0 ∧ (s.hub region).fl.past.any (fun e => e.1 == number) = false ∧ ((s.hub region).folioOf number).isNone then
        s.modHub region (fun h => { h with fl := { h.fl with accepted := h.fl.accepted ++ [(number, mine)] } }) else s
    .next (s.mapProposed region (fun l => l.filter (fun e => e.1 != pid)))

/-- PROPOSE_RETRY (R173): the hub sends a refused proposal again. -/
def execProposeRetry (region pid : Nat) (s : State) : Host.Outcome State Fault Refusal :=
  match (s.hub region).fl.proposed.find? (fun e => e.1 == pid && e.2.2.2) with
  | some e =>
    .next ((s.mapProposed region (fun l => l.map (fun x => if x.1 = pid then (x.1, x.2.1, x.2.2.1, false) else x))).sendAll
      (proposalParts region pid e.2.2.1 e.2.1))
  | none => .next s

/-! ## Prepare -/

/-- The prepare conditions of R174, and no replay under way at a participant (R186). -/
def State.mayPrepare (s : State) (f : FolioRec) : Bool :=
  f.st == .queued && !s.stopped && !s.isSealed && decide (s.openCount < 64) && s.pwr.state != .pdQuiesce
    && (s.pwr.state != .pdFlush || decide (f.origin = 3))
    && s.folios.all (fun g => !(earlier g.number f.number && s.conflict g f) || g.st == .void || g.st == .applied
        || (g.st == .decided && decide (g.sealt < s.gt)))
    && !(f.acts.any (fun a => a.act == 0x12) && s.sweepBusy)
    && (s.folioParts f).all (fun p => tgetD [] p s.fl.syncing == [])

/-- The CAT_KEY actions that the Kiln adds, each ahead of the first CAT_ASSIGN of a region whose hub lacks the tenant's key (R170). -/
def State.withKeys (s : State) (acts : List Act) : List Act :=
  acts.foldl (fun l a =>
    if a.act = 0x04 ∧ (tget a.tenant (s.hub a.region).keys).isNone ∧ l.any (fun k => k.act == 0x06 && k.region == a.region && k.tenant == a.tenant) = false then
      let d := ((s.cfg.tenants.find? (fun e => e.tenant == a.tenant)).map (·.d)).getD 8
      l ++ [{ act := 0x06, region := a.region, tenant := a.tenant, aux := d, arg := s.rotationKey a.region a.tenant }, a]
    else l ++ [a]) []

/-- FL_PREP of a Folio to a participant: six records to a part (R192). -/
def prepParts (who : Nat) (f : FolioRec) (replay : Bool) : List Msg :=
  let acts := if who = 0x7FE then f.acts.filter (fun a => a.region == 0x7FE) else actsFor who f.acts
  let acts := if replay then acts.filter (fun a => a.act != 0x12) else acts
  let cs := if acts = [] then [[]] else chunksOf 6 acts
  cs.zipIdx.map (fun e => msgFlPrep who e.2 (e.2 + 1 == cs.length) replay f.number f.tenant acts.length f.gtprep (e.1.map Act.flit))

/-- What the Catalogue master finds wrong with a request at its prepare: a vote code, 0 for nothing (R146, R164, R170, R220). -/
def State.masterCheck (s : State) (f : FolioRec) : Nat :=
  let full := fun (a : Act) =>
    let l := ((s.masterOf a.region).holders.flatMap (·.2)).eraseDups
    a.act == 0x04 && !l.contains a.tenant && decide (512 ≤ l.length)
  if f.origin ≠ 1 then 0
  else if f.acts.any full then 5
  else match (((f.acts.map (·.region)).eraseDups).map (fun r => (s.masterOf r).checkAll (f.acts.filter (fun a => a.region == r)))).find? (· != 0) with
    | some c => c
    | none => 0

/-- A Folio is voided, and what its request asks for then happens: a tenant reset is proposed again at once unless the reason is 11 (R189), an assignment
that a hub without the tenant's key refused with code 4 is proposed again (R170), and waiting proposals take the place that frees (R173). -/
def State.voidAnd (s : State) (n code voidsrc : Nat) : State :=
  match s.folio n with
  | none => s
  | some f =>
    if f.st = .prepared ∧ f.link.isSome then
      (if f.xvoid then s else (s.setFolio { f with xvoid := true }).linkVoid { f with vreason := code })
    else
    let undecided := f.st == .queued || f.st == .prepared
    let s' := s.voidFolio n code voidsrc
    let s' :=
      if undecided ∧ f.origin = 2 then
        let s' := { s' with fl := { s'.fl with treqs := s'.fl.treqs.filter (fun e => e.2 != n) } }
        if code = 11 then s'.treqEnd f.tenant 3 else s'.proposeReset f.tenant
      else if undecided ∧ f.origin = 1 ∧ code = 4 ∧ voidsrc < 2048 ∧ f.acts.any (fun a => a.act == 0x04) then
        let (m, s') := s'.kilnPropose { acts := f.acts.filter (fun a => a.act != 0x06), urgent := f.urgent, origin := 1 }
        s'.setAll 0 [(Reg.CAT_REQST_BUSY, 1), (Reg.CAT_REQST_RESULT, 0), (Reg.CAT_REQFOLIO_FOLIO, m)]
      else s'
    s'.admitWaiting

/-- FOLIO_PREPARE (R170, R173, R174, R179): a QUEUED Folio that meets its conditions is PREPARED, and FL_PREP goes to every participant; its place goes to a
proposal that waits. Records to which a CAT_KEY is added are placed in the action ring anew (assumption 138). -/
def execFolioPrepare (number : Nat) (s : State) : Host.Outcome State Fault Refusal :=
  match s.folio number with
  | none => .next s
  | some f =>
    if s.mayPrepare f = false then .next s
    else if s.masterCheck f ≠ 0 then .next (s.voidAnd number (s.masterCheck f) 0x7FF)
    else if f.xchip ∧ f.peernum = 0 ∧ ((s.folioParts f).any (fun p => decide (4096 ≤ p) && !s.linkReady (p - 4096))) then .next (s.voidAnd number 6 0x7FF)
    else
      let s := (f.acts.filter (fun a => a.act == 0x04)).foldl (fun s a => s.ensureSeed a.tenant) s
      let acts := s.withKeys f.acts
      let more := acts.length ≠ f.acts.length
      let f' := { f with st := .prepared, acts := acts, gtprep := s.gt, parts := s.folioParts { f with acts := acts },
                         actStart := if more then s.fl.actTotal else f.actStart }
      let s := s.setFolio f'
      let s := (if more then { s with fl := s.fl.place acts } else s).admitWaiting
      let s := s.toParts f' f'.parts (fun p => prepParts p f' false)
      let s := if f'.xchip ∧ f'.peernum = 0 then s.linkPrepare f' else s
      .next (s.tryDecide number)

/-! ## Kiln units as participants (R180) -/

/-- The state with the coordinator's part changed. -/
def State.modFl (s : State) (f : KFolio → KFolio) : State := { s with fl := f s.fl }

/-- A Folio open at a Kiln unit. -/
def KFolio.unitOf (k : KFolio) (who n : Nat) : Option HubFolio := (k.units.find? (fun e => e.1 == who && e.2.number == n)).map (·.2)

/-- The state with a unit's Folio replaced, added or, with none, removed. -/
def State.setUnitFolio (s : State) (who n : Nat) (f : Option HubFolio) : State :=
  { s with fl := { s.fl with units := s.fl.units.filter (fun e => !(e.1 == who && e.2.number == n)) ++ (f.map (fun g => (who, g))).toList } }

/-- A unit checks its actions and votes; the Charter unit's yes waits for every hub's acknowledgement (R178, R189, R432). -/
def State.unitPrepare (s : State) (who : Nat) (f : HubFolio) : State :=
  let code := if who = unitPart 3 then (((f.acts.map s.amendCheck).find? (· != 0)).getD 0)
    else if who = unitPart 4 then (((f.acts.map (s.linkCheck f.number)).find? (· != 0)).getD 0) else 0
  if who = unitPart 3 ∧ code = 0 ∧ s.amendAwaits then s.setUnitFolio who f.number (some { f with st := .preparing })
  else (s.setUnitFolio who f.number (some { f with st := if code = 0 ∨ f.replay then .yes else .voided })).send (msgFlVote who f.number code s.gt)

/-- The Charter unit votes on the Folios that waited for acknowledgements (R432). -/
def State.amendVotes (s : State) : State :=
  (s.fl.units.filter (fun e => e.1 == unitPart 3 && e.2.st == .preparing)).foldl (fun s e => s.unitPrepare e.1 e.2) s

/-- The effects of a Folio at a Kiln unit (R170, R190, R268, R328, R432). -/
def State.applyUnitAct (s : State) (f : HubFolio) (a : Act) : State :=
  if a.act = 0x11 then ((s.stackerDrop a.tenant).epochReset a.tenant).suspectLeaves a.tenant
  else if a.act = 0x12 then s.sweepAggregator a f.sealt
  else if a.act = 0x20 then s.amendApply f.number a
  else if a.act = 0x30 ∨ a.act = 0x31 then s.linkApply f.number a
  else s

/-- A Folio that a unit has applied or voided, for duplicates (R180). -/
def State.notePast (s : State) (who n : Nat) (voided : Bool) : State :=
  (s.setUnitFolio who n none).modFl (fun k => { k with unitPast := tput who (((n, voided) :: tgetD [] who k.unitPast).take 64) k.unitPast })

/-- A unit applies a sealed Folio (R180, R182). -/
def State.applyUnit (s : State) (who : Nat) (f : HubFolio) : State :=
  let s := s.notePast who f.number false
  (f.acts.foldl (fun s a => s.applyUnitAct f a) s).send (msgFlDone who f.number f.late false false f.sealt)

/-- A hub applies a sealed Folio with its part of an amendment (R180, R182, R432). -/
def State.applyFolio (s : State) (r : Nat) (f : HubFolio) : State :=
  (f.acts.filter (fun a => a.act == 0x20)).foldl (fun s a => s.amendHub r a) (s.applyHub r f)

/-! ## The participants' commands -/

/-- A prepare with one more part. -/
def HubFolio.addPart (old : Option HubFolio) (part number tenant gt : Nat) (replay : Bool) (acts : List Flit) : HubFolio :=
  let before := if part = 0 then [] else (old.map (·.acts)).getD []
  { number := number, tenant := tenant, gt := gt, replay := replay, acts := before ++ acts.map Act.ofFlit }

/-- A Folio that a participant has sealed is applied ahead of a prepare (R180, R191, assumption 139): its instant has passed, or it conflicts with the
Folio prepared. -/
def State.pendingSeal (s : State) (f g : HubFolio) (gt : Nat) : Bool :=
  f.st == .sealed && (decide (f.sealt ≤ gt) || (f.acts.flatMap s.actKeys).any (fun k => (g.acts.flatMap s.actKeys).contains k))

/-- FL_PREP (R180, R191): with the last part a participant applies the seals that are pending, checks its actions, arms its holds and votes. -/
def execFlPrep (who part : Nat) (last replay : Bool) (number tenant count gt : Nat) (acts : List Flit) (s : State) : Host.Outcome State Fault Refusal :=
  let s := s.recvFolio who (fun w => msgFlPrep w part last replay number tenant count gt acts)
  if who < 2048 then
    let f := HubFolio.addPart ((s.hub who).folioOf number) part number tenant gt replay acts
    let due := if last then (s.hub who).fl.open_.filter (fun g => s.pendingSeal g f (max gt (s.hub who).gt)) else []
    let s := due.foldl (fun s g => s.applyFolio who g) s
    let s := s.modHub who (fun h => { h with fl := { h.fl with open_ := h.fl.open_.filter (fun g => g.number != number) ++ [f],
                                                               accepted := h.fl.accepted.filter (fun e => e.1 != number) } })
    let s := if part = 0 then s.traceFolio who number 0 0 false else s
    .next (if last then s.hubPrepare who f else s)
  else
    let f := HubFolio.addPart (s.fl.unitOf who number) part number tenant gt replay acts
    let due := if last then (s.fl.units.filter (fun e => e.1 == who && s.pendingSeal e.2 f (max gt s.gt))).map (·.2) else []
    let s := due.foldl (fun s g => s.applyUnit who g) s
    let s := s.setUnitFolio who number (some f)
    .next (if last then s.unitPrepare who f else s)

/-- FL_VOTE (R177, R179): a yes is recorded, and with the last the Folio is DECIDED; a void voids it. After DECIDED a vote changes nothing. -/
def execFlVote (who number code gt : Nat) (s : State) : Host.Outcome State Fault Refusal :=
  let s := s.recv (msgFlVote who number code gt)
  match s.folio number with
  | none => .next s
  | some f =>
    if f.st ≠ .prepared ∨ f.parts.contains who = false then .next s
    else if code = 0 then
      .next ((s.setFolio { f with yes := if f.yes.contains who then f.yes else f.yes ++ [who], voteGt := gt, gtvote := s.gt }).tryDecide number)
    else .next (s.voidAnd number code (if who < 2048 then who else if who < 4096 then 0x7FF else 0x7FE))

/-- FOLIO_PREPARE_TIMEOUT (R176): a Folio that still lacks a vote is voided with reason 7; under global stop the timer is paused. -/
def execFolioPrepareTimeout (number : Nat) (s : State) : Host.Outcome State Fault Refusal :=
  match s.folio number with
  | none => .next s
  | some f =>
    if f.st = .prepared ∧ f.allYes = false ∧ ¬ s.stopped ∧ ¬ (f.link.isSome ∧ (f.answered ∨ f.xvoid)) then .next (((s.raise Reg.FOLIO_EVENT_TIMEOUT 0).voidAnd number 7 0x7FF).strikePeers f) else .next s

/-- A seal or a void for a Folio applied or voided before: FL_DONE again, and DUP at a hub (R180). -/
def State.duplicate (s : State) (r number : Nat) : State :=
  let past := if r < 2048 then (s.hub r).fl.past else tgetD [] r s.fl.unitPast
  match past.find? (fun e => e.1 == number) with
  | some e =>
    let s := s.send (msgFlDone r number false e.2 true (if r < 2048 then (s.hub r).gt else s.gt))
    if r < 2048 then s.raise Reg.RH_FL_EVENT_DUP r else s
  | none => s

/-- A hub's own proposal is voided before it was prepared (R179): its step may be proposed again, and a quench is proposed again (assumption 140). -/
def State.proposalVoided (s : State) (r number : Nat) (acts : List Act) : State :=
  let s := s.modHub r (fun h => { h with fl := { h.fl with accepted := h.fl.accepted.filter (fun e => e.1 != number) } })
  let s := (acts.filter (fun a => a.act == 0x01)).foldl (fun s a => s.stepVoided r a.col) s
  let again := acts.filter (fun a => a.act == 0x02)
  if again = [] then s else s.hubPropose r true again

/-- FL_SEAL (R180, R182): the participant takes T and sends its orders. -/
def execFlSeal (who number : Nat) (replay : Bool) (t : Nat) (s : State) : Host.Outcome State Fault Refusal :=
  let s := s.recvFolio who (fun w => msgFlSeal w number replay t)
  if who < 2048 then
    match (s.hub who).folioOf number with
    | some f => if f.st = .yes ∨ f.st = .voided then .next (s.hubSeal who f t replay) else .next s
    | none => .next (s.duplicate who number)
  else
    match s.fl.unitOf who number with
    | some f =>
      let late := replay || decide (t < s.gt + 48)
      .next (if f.st = .yes ∨ f.st = .voided then
        s.setUnitFolio who number (some { f with st := .sealed, sealt := if late then s.gt + 48 else t, late := late, replay := replay }) else s)
    | none => .next (s.duplicate who number)

/-- FL_VOID (R180): the holds end, and the void is acknowledged. -/
def execFlVoid (who number reason : Nat) (s : State) : Host.Outcome State Fault Refusal :=
  let s := s.recvFolio who (fun w => msgFlVoid w number reason)
  if who < 2048 then
    match (s.hub who).folioOf number with
    | some f =>
      if f.st = .sealed then .next s
      else
        let held := f.acts.filter (fun a => a.onColumn && (((s.hub who).walkOf a.col).folio == some number))
        let s := s.modHub who (fun h => { h with fl := { h.fl with open_ := h.fl.open_.filter (fun g => g.number != number),
                                                                   past := ((number, true) :: h.fl.past).take 64 } })
        let s := held.foldl (fun s a => s.releaseColumn who a) s
        let s := s.traceFolio who number 2 (bits reason 0 4) false
        .next ((s.send (msgFlDone who number false true false (s.hub who).gt)).dispatchAll who)
    | none =>
      match (s.hub who).fl.accepted.find? (fun e => e.1 == number) with
      | some e => .next (s.proposalVoided who number e.2)
      | none => .next (s.duplicate who number)
  else
    match s.fl.unitOf who number with
    | some f =>
      if f.st = .sealed then .next s
      else
        let s := (s.notePast who number true).send (msgFlDone who number false true false s.gt)
        .next (if who = unitPart 1 then s.stackerVoid else s)
    | none => .next (s.duplicate who number)

/-- FOLIO_APPLY (R182): a participant's GT reaches the application instant of a sealed Folio. -/
def execFolioApply (who number : Nat) (s : State) : Host.Outcome State Fault Refusal :=
  if who < 2048 then
    match (s.hub who).folioOf number with
    | some f =>
      if f.st = .sealed then
        .next (s.applyFolio who f)
      else .next s
    | none => .next s
  else
    match s.fl.unitOf who number with
    | some f => .next (if f.st = .sealed then s.applyUnit who f else s)
    | none => .next s

/-- FL_DONE (R179, R180, R186): the participant is done; with the last one the Folio is APPLIED. -/
def execFlDone (who number : Nat) (late voidAck dup : Bool) (gt : Nat) (s : State) : Host.Outcome State Fault Refusal :=
  let s := s.recv (msgFlDone who number late voidAck dup gt)
  match s.folio number with
  | none => .next s
  | some f =>
    let f := { f with done := if f.done.contains who then f.done else f.done ++ [who], gtdone := s.gt,
                      late := if late ∧ f.late.contains who = false then f.late ++ [who] else f.late }
    let drop := fun (t : Table (List Nat)) => tput who ((tgetD [] who t).filter (· != number)) t
    let s := { s.setFolio f with fl := { (s.setFolio f).fl with behind := if (tget who s.fl.behind).isSome then drop s.fl.behind else s.fl.behind,
                                                                syncing := if (tget who s.fl.syncing).isSome then drop s.fl.syncing else s.fl.syncing } }
    let s := if late then s.raise Reg.FOLIO_EVENT_LATE 0 else s
    .next (s.tryApplied number)

/-- FOLIO_DONE_TIMEOUT (R179): FL_SEAL goes again to those that owe FL_DONE, three times; then they are behind. -/
def execFolioDoneTimeout (number : Nat) (s : State) : Host.Outcome State Fault Refusal :=
  match s.folio number with
  | none => .next s
  | some f =>
    if f.st ≠ .decided then .next s
    else
      let owing := f.parts.filter (fun p => !f.done.contains p && !f.behind.contains p && decide (p < 4096))
      if f.resends < 3 then
        .next ((s.setFolio { f with resends := f.resends + 1 }).sendAll (owing.map (fun p => msgFlSeal p number false f.sealt)))
      else
        let s := owing.foldl (fun s p => s.markBehind f p) s
        .next ((s.setFolio { f with behind := f.behind ++ owing.filter (fun p => decide (p < 2048)) }).admitWaiting)

/-! ## Catch-up (R186, R187) -/

/-- CAT_ROLE for every position of a region whose probe does not hold the role of the map. -/
def State.rebuildRoles (s : State) (r : Nat) : List Msg :=
  let p := (s.hub r).cat
  (List.range 1056).filterMap (fun t =>
    let x := p.at t
    let q := s.probe r t
    if q.accession = x.accession ∧ q.role = x.role then none
    else some (msgCatRole r t q.accession x.role.code (if x.role = .service then s.shelfX r (tileCol t) else 0)
      (if x.role = .service then s.shelfY r ((p.lrowOf (tileCol t) (tileRow t)).getD 0) else 0) x.accession false 0 false false 0 0))

/-- CAT_CTX for every tenant of every shelfmark of a region. -/
def State.rebuildCtx (s : State) (r : Nat) : List Msg :=
  let p := (s.hub r).cat
  p.holders.flatMap (fun e => match p.rowOf (e.1 / 32) (e.1 % 32) with
    | some row => e.2.map (fun t =>
        let k := tgetD (0, 0) t (s.hub r).keys
        msgCatCtx r (tileAt row (e.1 / 32)) (s.accOf r (tileAt row (e.1 / 32))) true t k.1 k.2)
    | none => [])

/-- A hub's part is rebuilt from the Catalogue master (R187): every SERVICE shelfmark is suspect, and each of its tenants is rolled back. -/
def State.rebuildHub (s : State) (r number : Nat) : State :=
  let m := s.masterOf r
  let part := (List.range 1056).foldl (fun (q : CatPart) t => if (q.at t).role = .service then q.setPos t { q.at t with suspect := true } else q) m
  let tenants := (part.holders.flatMap (·.2)).eraseDups
  let keys := tenants.map (fun t => (t, s.rotationKey r t, ((s.cfg.tenants.find? (fun e => e.tenant == t)).map (·.d)).getD 8))
  let s := { s with master := tput r part s.master }.modHub r (fun h => { h with cat := part, walk := [], roles := [],
                                                                                  keys := keys.foldl (fun (t : Table (Nat × Nat)) (e : Nat × Nat × Nat) => tput e.1 e.2 t) [] })
  let s := (s.sendAll (s.rebuildRoles r)).sendAll (s.rebuildCtx r)
  let s := (s.raise Reg.RH_FL_EVENT_REBUILT r).raise Reg.FOLIO_EVENT_CATCHFAIL 0
  let notes := part.holders.flatMap (fun e => match part.rowOf (e.1 / 32) (e.1 % 32) with
    | some _ => e.2.map (fun t => (2, t, s.shelfX r (e.1 / 32), s.shelfY r (e.1 % 32)))
    | none => [])
  s.conseqFault 0x19 0x205 number number notes

/-- Folio numbers in their order (R172, R186). -/
def inNumberOrder (l : List Nat) : List Nat :=
  let put := fun (n : Nat) (m : List Nat) => m.takeWhile (fun x => earlier x n) ++ n :: m.dropWhile (fun x => earlier x n)
  l.foldr put []

/-- FL_SYNC (R186, R187): the Kiln replays the hub's behind list in number order, or rebuilds its part. -/
def execFlSync (region last : Nat) (s : State) : Host.Outcome State Fault Refusal :=
  let s := s.recv (msgFlSync region last)
  let l := tgetD [] region s.fl.behind
  let s := if ((s.tally.sweep.map (·.await)).getD []).contains region then s.discardSweep 2 else s
  let s := if s.lost.contains region then s.setGap (0 :: s.tenantsOfRegion region) else s
  let s := ({ s with lost := s.lost.filter (· != region) }).rollBackLost (some region)
  let l := inNumberOrder l
  let failed := s.fl.overflowed.contains region || l.any (fun n => match s.folio n with
    | some f => !s.fl.holds f
    | none => true)
  if failed then
    let s := { s with fl := { s.fl with behind := tdel region s.fl.behind, overflowed := s.fl.overflowed.filter (· != region) } }
    .next ((s.send (msgFlSyncack region 0 true)).rebuildHub region (l.getD 0 0))
  else
    let fs := l.filterMap s.folio
    let s := { s with fl := { s.fl with syncing := tput region l s.fl.syncing } }.send (msgFlSyncack region l.length false)
    .next (s.sendAll (fs.flatMap (fun f => prepParts region f true ++ [msgFlSeal region f.number true f.sealt])))

/-- FL_SYNCACK (R186, R192): the hub learns how many Folios will be replayed; what it does with each comes with the replays themselves. -/
def execFlSyncack (region count : Nat) (failed : Bool) (s : State) : Host.Outcome State Fault Refusal :=
  .next (s.recv (msgFlSyncack region count failed))

/-! ## Tenant reset -/

/-- FL_TDROP (R190): the probe keeps the drop until T; one that comes after the hub has applied the reset acts at once. -/
def execFlTdrop (region tile acc tenant instant : Nat) (s : State) : Host.Outcome State Fault Refusal :=
  .next (s.atProbe region tile acc (msgFlTdrop region tile acc tenant instant) (fun s =>
    if (s.hub region).fl.open_.any (fun f => f.st == .sealed && f.sealt == instant) then
      s.modProbe region tile (fun p => { p with resets := p.resets ++ [(tenant, instant)] })
    else (s.tenantDrop region tile tenant).reapReadings region))

/-- A write of `FOLIO_TREQ` (R189, R191). -/
def State.treqWrite (s : State) (tenant : Nat) : State :=
  let t := wrap 12 tenant
  let s := s.set Reg.FOLIO_TREQ_TENANT 0 t
  if s.on Reg.FOLIO_TREQST_BUSY 0 then s.raise Reg.FOLIO_TREQST_DROPPED 0
  else if t = 0 then s.set Reg.FOLIO_TREQST_RESULT 0 2
  else if s.resetPrepared t then s.set Reg.FOLIO_TREQST_RESULT 0 1
  else ({ s with fl := { s.fl with treqHost := some t } }.setAll 0 [(Reg.FOLIO_TREQST_BUSY, 1), (Reg.FOLIO_TREQST_RESULT, 0)]).proposeReset t

/-- FOLIO_TREQ (R189, R191): the coordinator proposes the reset of a tenant other than 0. -/
def execFolioTreq (tenant ten tag : Nat) (s : State) : Host.Outcome State Fault Refusal :=
  .next (s.hostWrite ten tag 0x300080 none true (fun s => s.treqWrite tenant))

/-! ## Fence orders -/

/-- A fence order at a probe (R94, R217): fencing sends no FAULT flit; unfencing retries the first FAILED slot, or opens. -/
def State.fenceOrder (s : State) (r t : Nat) (fence : Bool) : State :=
  let p := s.probe r t
  if fence then (if p.eff = .opened ∨ p.eff = .retry ∨ p.eff = .fenced then s.setFence r t .fenced else s)
  else if p.eff ≠ .fenced then s
  else match p.inOrder.find? (fun i => (p.slot i).st == .failed) with
    | some i => ((s.setFence r t .retry).modProbe r t (fun p => { p with retries := some 1 })).retryPulse r t i
    | none => (s.setFence r t .opened).kickRelease r t

/-- FLT_FENCE (R217): at a probe the order; at a hub, with ALL = 1, an order to every probe of its region, which PD_QUIESCE takes as its
acknowledgement (R445). -/
def execFltFence (region : Nat) (tile : Option Nat) (acc : Nat) (fence : Bool) (s : State) : Host.Outcome State Fault Refusal :=
  match tile with
  | some t => .next (s.atProbe region t acc (msgFltFence region t acc fence) (fun s => s.fenceOrder region t fence))
  | none =>
    let s := s.recv (msgFltFenceAll region fence)
    let s := if fence then { s with pwr := { s.pwr with quiesceAwait := s.pwr.quiesceAwait.filter (· != region) } } else s
    .next (s.sendAll ((List.range 1056).map (fun t => msgFltFence region t (s.accOf region t) fence)))

end Sys2Proof.Machine
end

