-- ==== Sys2Proof/Machine/FlueOps.lean ====
section
/-! DEFINITION. The hops of the Flue: their ends, their failure, and the hubs that lose their route to the Kiln (R25, R27, R29). -/

namespace Sys2Proof.Machine

/-- Source ID of the sending end of a hop (R197). -/
def hopSrc : HopId → Nat
  | .kiln row => kilnSrc 0x09 row
  | .hub r p => sourceId r noTile 0x09 p
  | .column r c => sourceId r noTile 0x0A c
  | .up r t => sourceId r t 0x03 0
  | .down r t => sourceId r t 0x03 0

/-- Key of a hop in the table of hops. -/
def hopKey (h : HopId) : Nat :=
  2 * hopSrc h + (match h with | .down _ _ => 1 | _ => 0)

/-- The hop in the opposite direction of the same link; none where the grid has no link there. -/
def State.hopBack (s : State) : HopId → Option HopId
  | .kiln row => some (.hub (row * s.cfg.w + s.cfg.spine) 4)
  | .hub r p =>
    if p = 4 then some (.kiln (r / s.cfg.w)) else (s.neighbour r p).map (fun n => .hub n ((p + 2) % 4))
  | .column r c => some (.up r (tileAt 32 c))
  | .up r t => if tileRow t = 32 then some (.column r (tileCol t)) else some (.down r (t + 32))
  | .down r t => if tileRow t = 0 then none else some (.up r (t - 32))

/-- A hop's record. -/
def State.hop (s : State) (h : HopId) : Hop := tgetD {} (hopKey h) s.hops

/-- The state with a hop changed. -/
def State.modHop (s : State) (h : HopId) (f : Hop → Hop) : State := { s with hops := tput (hopKey h) (f (s.hop h)) s.hops }

/-- Latencies measured by training (R29). -/
def State.setLatencies (s : State) (l : List (HopId × Nat)) : State := l.foldl (fun s e => s.modHop e.1 (fun h => { h with latency := e.2 })) s

/-- Port number that a hop's sender has in faults and trace records: its INST for a mesh or spine port of a hub. No rule numbers the other ports in
three bits: free (assumption 2). -/
def State.hopPort (s : State) (h : HopId) : Nat × State :=
  match h with
  | .hub _ p => (wrap 3 p, s)
  | _ => s.fresh 3

/-- FLUE trace record of a hub that sends on a hop (R468): 1 NAK replay, 2 retrain, 3 down. -/
def State.traceSender (s : State) (h : HopId) (what : Nat) : State :=
  match h with
  | .hub r p => s.traceHop r (wrap 3 p) what
  | .column r _ => let (p, s) := s.fresh 3; s.traceHop r p what
  | _ => s

/-- FLUE_HOPDOWN at one end of a hop, raised by the node there (R27). -/
def State.hopDownAt (s : State) (h : HopId) : State :=
  let (p, s) := s.hopPort h
  match h with
  | .kiln row => s.kilnFault 0x09 row 0x303 0 p
  | .hub r _ => s.hubFault r (hopSrc h) 0x303 0 p
  | .column r _ => s.hubFault r (hopSrc h) 0x303 0 p
  | .up r t => s.modProbe r t (fun x => { x with faultOut := x.faultOut ++ [{ src := hopSrc h, kind := 0x303, tenant := 0, addr := p, gtlo := x.stamp (hopSrc h) }] })
  | .down r t => s.modProbe r t (fun x => { x with faultOut := x.faultOut ++ [{ src := hopSrc h, kind := 0x303, tenant := 0, addr := p, gtlo := x.stamp (hopSrc h) }] })

/-- The regions whose fixed route to or from the Kiln runs over a hop (R25): a row's spine link serves the row, and a mesh hop in X the hubs
beyond it. -/
def State.behindHop (s : State) (h : HopId) : List Nat :=
  let row := fun (y : Nat) => (List.range s.cfg.w).map (fun x => y * s.cfg.w + x)
  match h with
  | .kiln y => row y
  | .hub r p =>
    let (x, y) := s.gridOf r
    let across := fun (lo : Nat) =>   -- the link between columns lo and lo + 1
      (row y).filter (fun n => let nx := n % s.cfg.w; (decide (s.cfg.spine ≤ lo) && decide (lo < nx)) || (decide (lo < s.cfg.spine) && decide (nx ≤ lo)))
    if p = 4 then row y
    else if p = 1 then across x
    else if p = 3 then (if x = 0 then [] else across (x - 1))
    else []
  | _ => []

/-- A participant hub of a Folio is lost (R179): a PREPARED Folio is voided with reason 6, a DECIDED one goes on with the hub marked behind. -/
def State.folioLosesHub (s : State) (r : Nat) (n : Nat) : State :=
  match s.folio n with
  | none => s
  | some f =>
    if f.parts.contains r = false then s
    else if f.st = .prepared then s.voidAnd n 6 0x7FF
    else if f.st = .decided ∧ f.done.contains r = false ∧ f.behind.contains r = false then
      ((s.markBehind f r).setFolio { f with behind := f.behind ++ [r] }).admitWaiting
    else s

/-- The shelfmark that was moving to a position is undefined (R164): its rotation contexts and accumulators there are free values, and the move is over. -/
def State.undefineMove (s : State) (r t : Nat) : State :=
  let p := s.probe r t
  let (ctx, s) : Table Ctx × State := p.ctx.foldl (fun (a : Table Ctx × State) e => let (v, s) := a.2.fresh 160; (a.1 ++ [(e.1, Ctx.ofWord v)], s)) ([], s)
  let (acc, s) : Table Accum × State := p.acc.foldl (fun (a : Table Accum × State) e => let (v, s) := a.2.fresh 512; (a.1 ++ [(e.1, Accum.ofWord v)], s)) ([], s)
  s.modProbe r t (fun p => { p with ctx := ctx, acc := acc, move := none, xown := false })

/-- What a hub's loss takes with it: visits end without an IFT_RESULT, and exposed lists, margin histories (R136), buckets, the first capture (R216), energy counters
(R331) and open moves (R164) are lost. -/
def State.loseHubState (s : State) (r : Nat) : State :=
  let moving := (s.hub r).walk.flatMap (·.2.moving)
  let s := { s with flt := { s.flt with lostMoves := s.flt.lostMoves ++ s.openMoves r } }
  let s := moving.foldl (fun s t => s.undefineMove r t) s
  let s := (s.probes.filter (fun e => e.1 / 2048 == r && e.2.ift.state != .idle)).foldl (fun (s : State) e =>
    let t := e.1 % 2048
    (if ((s.probe r t).slot 0).job = .ift then s.dropSlot0 r t else s).modIft r t (fun _ => {})) s
  (s.modHub r (fun h => { h with books := [], walk := tmap (fun _ (w : WalkState) => { w with moving := [], moves := [], partials := [] }) h.walk,
                                 flt := { h.flt with buckets := [], first := none }, en := { h.en with counters := [], fracs := [] } })).set Reg.RH_FLT_FIRSTVAL_VALID r 0

/-- A hub no longer has a route to the Kiln (R27): HUB_LOST, what the loss does to Folios (R179) and to cuts that wait for the hub (R303), and the
collecting sweep discarded with code 2 (R329). -/
def State.loseHub (s : State) (r : Nat) : State :=
  if s.lost.contains r then s
  else
    let s := (({ s with lost := s.lost ++ [r] }).loseHubState r).kilnFault 0x09 (r / s.cfg.w) 0x304 0 r
    let s := (s.folios.map (·.number)).foldl (fun s n => s.folioLosesHub r n) s
    let s := (s.cutsWaitingFor r).foldl (fun s t => s.failCut t) s
    if s.tally.sweep.isSome then (s.discardSweep 2).kickSweeps else s

/-- A hop is down: both ends raise FLUE_HOPDOWN, and the hubs behind it are lost (R27). -/
def State.hopDown (s : State) (h : HopId) : State :=
  let s := ((s.modHop h (fun x => { x with retraining := false, down := true })).traceSender h 3).hopDownAt h
  let s := match s.hopBack h with
    | some b => s.hopDownAt b
    | none => s
  (s.behindHop h).foldl (fun s r => s.loseHub r) s

/-- The boundary stage of a mesh hop, one HCLK where it is in use (R28, R454). -/
def State.stageOf (s : State) : HopId → Nat
  | .hub r p => if p < 4 then flag (bit (s.get Reg.RH_PW_STATUS_STAGE r) p) else 0
  | _ => 0

/-- A TIME message put on a hop that is up, with the hop's latency and its boundary stage added (R29, R454); what it waits in the node the clock adds
(`State.ageTime`). What becomes of one due on a hop that is down no rule says: none is sent (R27, assumption 152). -/
def State.sendTime (s : State) (h : HopId) (round gt : Nat) : State :=
  if (s.hop h).down then s
  else
    let carried := wrap 64 (gt + (s.hop h).latency + s.stageOf h)
    { s with net := { s.net with times := tput (hopKey h) (h, wrap 25 round, carried) s.net.times } }.send (msgTime round carried)

/-- The hop that brings a node its TIME messages (R30): a hub its row's spine link or the mesh hop from the spine's side, a probe its column chain. -/
def State.timeHopTo (s : State) (r : Nat) : Option Nat → HopId
  | some t => if tileRow t = 32 then .column r (tileCol t) else .down r (t + 32)
  | none =>
    let x := (s.gridOf r).1
    if x = s.cfg.spine then .kiln (r / s.cfg.w) else if s.cfg.spine < x then .hub (r - 1) 1 else .hub (r + 1) 3

/-- A node has the TIME message that was on its hop. -/
def State.tookTime (s : State) (r : Nat) (t : Option Nat) : State :=
  { s with net := { s.net with times := tdel (hopKey (s.timeHopTo r t)) s.net.times } }

/-- Hops on which a hub forwards a TIME message (R30): from the spine column both ways in X, else away from it, and into its column chains. -/
def State.timeHops (s : State) (r : Nat) : List HopId :=
  let x := (s.gridOf r).1
  (if s.cfg.spine ≤ x ∧ x + 1 < s.cfg.w then [.hub r 1] else []) ++ (if x ≤ s.cfg.spine ∧ 0 < x then [.hub r 3] else [])
    ++ (List.range 32).map (fun c => .column r c)

end Sys2Proof.Machine
end

