-- ==== Sys2Proof/Machine/CharterUnit.lean ====
section
/-! DEFINITION. The meanings of the commands of bring-up and the Charter (R412–R436). -/

namespace Sys2Proof.Machine

/-! ## Fuses, training and self-tests -/

/-- FUSE_WORD (R418, R419): the word read next is kept, or read once more after a parity error; a second error or a malformed map refuses. -/
def execFuseWord (addr data : Nat) (parOk : Bool) (s : State) : Host.Outcome State Fault Refusal :=
  let b := s.bru
  if b.state ≠ .selftest ∨ b.fuseDone ∨ b.nextFuse ≠ some addr then .next s
  else if parOk = false then
    .next (if b.reread = some addr then ({ s with bru := { b with fuseErr := true } }).bruRefuse 0x12 0
           else ({ s with bru := { b with reread := some addr } }).emit (.fuseRd addr))
  else
    let d := wrap 32 data
    let b := { b with fuses := tput addr d b.fuses, reread := none }
    let s := { s with bru := b }
    if fuseBad addr d then .next (({ s with bru := { b with fuseErr := true } }).bruRefuse 0x12 0)
    else .next (match b.nextFuse with
      | some a => s.emit (.fuseRd a)
      | none => ({ s with bru := { b with fuseDone := true } }).bruNext)

/-- The most HCLK that R28 and R40 allow one hop (R41; assumption 153): a spine link 32 and 8 repeaters; a mesh hop 3 + 4, 2 repeaters and a boundary stage;
a hop of a column chain what 35 leaves it when the other 32 take one each. -/
def hopAllowance : HopId → Nat
  | .kiln _ => 40
  | .hub _ p => if p = 4 then 40 else 10
  | _ => 3

/-- FLUE_TRAINING_DONE (R421): the grid, the spine column, and whether every hop is within its allowance, by the report and by what was measured (R41); a hub that does not answer refuses. `detail` is
the region and tile that BRU_DETAIL shows for codes 0x20 to 0x22. -/
def execFlueTrainingDone (w h spine : Nat) (hopsOk answered : Bool) (detail : Nat) (latencies : List (HopId × Nat)) (s : State) :
    Host.Outcome State Fault Refusal :=
  if s.bru.state ≠ .selftest ∨ s.bru.trained then .next s
  else if answered = false then .next (s.bruRefuse 0x22 detail)
  else
    let s := { s with bru := { s.bru with trained := true, trainW := w, trainH := h, trainS := spine, hopsOk := hopsOk && latencies.all (fun e => decide (e.2 ≤ hopAllowance e.1)), trainDetail := detail },
                      cfg := { s.cfg with w := w, h := h, spine := spine } }
    .next (s.setLatencies latencies).bruNext

/-- A probe's result at its hub; with the region's last the hub sends its summaries, nine tiles to a message (R424, R435). -/
def State.selfTested (s : State) (r t mask : Nat) : State :=
  let done := tgetD 0 r s.bru.pstDone
  if s.bru.inBringUp = false ∨ bit done t ∨ 1056 ≤ t then s
  else
    let done := done ||| 2 ^ t
    let fails := if mask = 0 then s.bru.pstFailed else s.bru.pstFailed ++ [(r, t, mask)]
    let s := { s with bru := { s.bru with pstDone := tput r done s.bru.pstDone, pstFailed := fails } }
    if done = 2 ^ 1056 - 1 then
      let l := (fails.filter (fun e => e.1 == r)).map (fun e => e.2.1)
      s.sendAll ((if l = [] then [[]] else chunksOf 9 l).map (fun c => msgPstSum r l.length c))
    else s

/-- PST_RESULT (R424): the mask is what the probe found. -/
def execPstResult (region tile mask : Nat) (s : State) : Host.Outcome State Fault Refusal :=
  .next (({ s with flue := s.flue.eraseP (fun m => m.src == probeSrc region tile && m.op == 0xCA) } : State).selfTested region tile (wrap 8 mask))

/-- PST_TIMEOUT (R424): a probe that sends no result within 1 ms counts as failed; its failure mask is open (assumption 72). -/
def execPstTimeout (region tile : Nat) (s : State) : Host.Outcome State Fault Refusal :=
  let (m, s1) := s.fresh 8
  .next (if s.bru.inBringUp = false ∨ bit (tgetD 0 region s.bru.pstDone) tile then s
    else if m = 0 then
      let s2 := { s1 with bru := { s1.bru with pstFailed := s1.bru.pstFailed ++ [(region, tile, 0)] } }
      s2.selfTested region tile 0
    else s1.selfTested region tile m)

/-- PST_SUM (R421, R434, R435): the Kiln counts and records the failures; a region's summary is complete once every failing tile has come. -/
def execPstSum (region failures : Nat) (tiles : List Nat) (s : State) : Host.Outcome State Fault Refusal :=
  let s := s.recv (msgPstSum region failures tiles)
  let new := (tiles.map (fun t => (region, t))).filter (fun e => !s.bru.pstKnown.contains e)
  let maskOfTile := fun (t : Nat) => ((s.bru.pstFailed.find? (fun e => e.1 == region && e.2.1 == t)).map (·.2.2)).getD 0
  let s := new.foldl (fun s e => s.recordOf 0x1306 bruSrc region e.2 (maskOfTile e.2)) s
  let known := s.bru.pstKnown ++ new
  let full := (known.filter (fun e => e.1 == region)).length == failures
  let s := { s with bru := { s.bru with pstKnown := known, pstSums := if full ∧ ¬ s.bru.pstSums.contains region then s.bru.pstSums ++ [region] else s.bru.pstSums } }
  let s := s.bump Reg.BRU_PST_FAILS 0 new.length
  .next ((if new = [] then s else s.raise Reg.BRU_EVENT_PSTFAIL 0).bruNext)

/-! ## Loading -/

/-- A write of 1 to `CHR_CTRL.GO` (R420, R422, R428, R433). -/
def State.goWrite (s : State) : State :=
  match s.bru.state with
  | .selftest => { s with bru := { s.bru with go := true } }
  | .waitch => if s.bru.paused then { s with bru := { s.bru with go := true } } else s.bruLoad
  | .load | .apply | .qualify => s.raise Reg.BRU_EVENT_GOBUSY 0
  | .ready => s
  | .refused => if s.bru.classH ∨ s.bru.code = 0x10 ∨ s.bru.code = 0x11 then s else s.bruLoad

/-- CHARTER_GO (R420, R422, R428, R433): GHP takes the write from PORB release on, in REFUSED too. -/
def execCharterGo (ten tag : Nat) (s : State) : Host.Outcome State Fault Refusal :=
  .next (s.hostWriteIn true ten tag 0x818 none true State.goWrite)

/-- CHARTER_GO_TIMEOUT (R420, R433): the 10 s timer, which global stop pauses. -/
def execCharterGoTimeout (s : State) : Host.Outcome State Fault Refusal :=
  .next (if s.bru.state = .waitch ∧ ¬ s.stopped ∧ ¬ s.bru.paused then s.bruRefuse 0x0A 0 else s)

/-- CHARTER_VERIFY_DONE (R417, R421, R422): the image that channel 3 read passes its checks and is applied, or bring-up refuses. `ckh` is FUSE_CKH; `busErr`
is the cause, address and tag of a bus error on channel 3. -/
def execCharterVerifyDone (image : Image) (ckh : Nat) (busErr : Option (Nat × Nat × Nat)) (s : State) : Host.Outcome State Fault Refusal :=
  if s.bru.state ≠ .load then .next s
  else match busErr with
    | some e => .next ((s.busError e.1 3 e.2.1 e.2.2).bruRefuse 0x0B 0)
    | none =>
      let s := { s with bru := { s.bru with ckh := ckh } }
      let c := s.imageCheck image false ckh
      if c ≠ 0 then .next (s.bruRefuse c (if c = 8 then image.offset else 0))
      else if image.patternsOk ∧ charterHostFits image.content s.bru.variant ∧ charterFits image.content (image.content.w * image.content.h) then
        .next (s.bruVerified image)
      else .next (s.bruRefuse 9 image.offset)

/-! ## Parts, acknowledgements and qualification -/

/-- CH_DATA (R432, R435): the hub holds its part, answers, and votes on an amendment that waited for it. -/
def execChData (region part : Nat) (last : Bool) (sect : Nat) (s : State) : Host.Outcome State Fault Refusal :=
  let s := s.recv (msgChData region part last sect [0])
  if last = false then .next s
  else
    let s := s.modHub region (fun h => { h with parts := if h.parts.contains sect then h.parts else h.parts ++ [sect] })
    .next ((s.send (msgChAck region true sect)).tryVotes region)

/-- CH_ACK (R422, R432): the Kiln records an acknowledgement; with the last it starts qualification, or the Charter unit votes. -/
def execChAck (region : Nat) (valid : Bool) (sect : Nat) (s : State) : Host.Outcome State Fault Refusal :=
  let s := s.recv (msgChAck region valid sect)
  if valid = false then .next s
  else if s.bru.state = .apply ∧ s.bru.hubAcks.contains (region, sect) then
    let l := s.bru.hubAcks.filter (· != (region, sect))
    let s := { s with bru := { s.bru with hubAcks := l } }
    let s := s.modHub region (fun h => { h with parts := h.parts.filter (· != sect) })
    .next (if l = [] then s.subStep State.qualify else s)
  else match s.bru.amend with
    | some a =>
      let s := { s with bru := { s.bru with amend := some { a with await := a.await.filter (· != (region, sect)) } } }
      .next s.amendVotes
    | none => .next s

/-- CLP_QUAL_DONE (R425, R426): a port qualifies with RES 0 and at most QUALMAX errors. In bring-up it enters HELLO at READY; after CHR_LQREQ, at once. -/
def execClpQualDone (clp res errs : Nat) (s : State) : Host.Outcome State Fault Refusal :=
  let inBring := s.bru.state == .qualify && !s.bru.paused && s.bru.qualAwait.contains clp
  let again := s.bru.requal.contains clp
  if inBring = false ∧ again = false then .next s
  else
    let e := saturate 32 errs
    let ok := wrap 2 res == 0 && decide (e ≤ ((s.portEntry clp).map (·.qualmax)).getD 0)
    let s := (s.emit (.qualReq clp false)).modPort clp (fun p => { p with qualified := ok })
    let s := (s.setPortBit Reg.CHR_LQPASS_CLP clp ok).setPortBit Reg.CHR_LQFAIL_CLP clp (!ok)
    let s := s.recordOf 0x1305 bruSrc clp (pack [(0, 2, res), (2, 1, flag ok)]) e
    let s := if ok then s else s.raise Reg.BRU_EVENT_LQFAIL 0
    let s := { s with bru := { s.bru with qualAwait := s.bru.qualAwait.filter (· != clp), requal := s.bru.requal.filter (· != clp) } }
    .next (if inBring then s.qualCheck else if ok then s.enablePort clp else s)

/-- A write of 1 to `CHR_LQREQ.GO` (R426). -/
def State.requalifyWrite (s : State) (clp : Nat) : State :=
  let c := wrap 5 clp
  let s := s.set Reg.CHR_LQREQ_CLP 0 c
  let enabled := ((s.portEntry c).map (fun e => e.enabled && !e.reserved)).getD false
  if s.bru.state = .ready ∧ (s.port c).st = .disabled ∧ enabled ∧ ¬ s.bru.requal.contains c then
    ({ s with bru := { s.bru with requal := s.bru.requal ++ [c] } }).emit (.qualReq c true)
  else s

/-- LINK_REQUALIFY (R426): a DISABLED port that LINKS enables is qualified again. -/
def execLinkRequalify (clp ten tag : Nat) (s : State) : Host.Outcome State Fault Refusal :=
  .next (s.hostWrite ten tag 0x864 none true (fun s => s.requalifyWrite clp))

/-! ## Amendments -/

/-- The actions of an amendment's Folio: one for each section, broadcast where it loads hub or probe fields (R432). -/
def amendActs (i : Image) : List Act :=
  i.content.sections.map (fun k =>
    let arg := pack [(0, 32, i.serial), (32, 4, k)]
    if toHubs i.content k then { act := 0x20, region := 0x7FE, arg := arg } else { act := 0x20, region := 0x7FF, col := 3, arg := arg })

/-- The image of an amendment lies in a window with R permission (R420, R375). -/
def State.readable (s : State) (addr len : Nat) : Bool :=
  s.cfg.windows.any (fun w => w.read && decide (0 < w.size ∧ w.base ≤ addr ∧ addr + len ≤ w.base + w.size))

/-- AMEND_GO (R429, R431, R432): the amendment at CHR_SRC is loaded and checked; one that passes goes to the hubs and is proposed as a Folio. A load that
channel 3 cannot make rejects it with a reason that the spec does not name (assumption 73). -/
def execAmendGo (image : Image) (busErr : Option (Nat × Nat × Nat)) (ten tag : Nat) (s : State) : Host.Outcome State Fault Refusal :=
  .next (s.hostWrite ten tag 0x818 none true (fun s =>
    if s.on Reg.CHR_AMST_BUSY 0 then s.raise Reg.CHR_AMST_DROPPED 0
    else if s.bru.state ≠ .ready then s
    else match busErr, s.readable (64 * s.get Reg.CHR_SRC_ADDR 0) image.length with
      | some e, _ =>
        let (x, s) := (s.busError e.1 3 e.2.1 e.2.2).fresh 4
        s.amendReject x image.serial
      | none, false =>
        let (x, s) := s.fresh 4
        s.amendReject x image.serial
      | none, true =>
        let r := s.amendReason image
        if r ≠ 0 then s.amendReject r image.serial
        else
          let (s, l) := s.sendCharter (image.content.sections.filter (toHubs image.content))
          let s := { s with bru := { s.bru with amend := some { image := image, await := l, left := image.content.sections } } }
          let s := s.setAll 0 [(Reg.CHR_AMST_BUSY, 1), (Reg.CHR_AMST_REASON, 0)]
          (s.kilnPropose { acts := amendActs image, urgent := false, origin := 4 }).2))

end Sys2Proof.Machine
end

