-- ==== Sys2Proof/Machine/Concordance.lean ====
section
/-! DEFINITION. The meanings of the commands of Concordance (R244–R281). -/

namespace Sys2Proof.Machine

/-! ## Reception -/

/-- A message is dropped and counted (R281). -/
def State.linkDrop (s : State) (c : Nat) : State := s.bump Reg.CCD_DROPCNT_COUNT c 1

/-- Sent messages that an ACK covers (R255). -/
def Port.ackedBy (p : Port) (ack : Nat) : List LinkSent :=
  p.unacked.takeWhile (fun m => let d := wrap 16 (ack + 65536 - m.seq); decide (1 ≤ d ∧ d ≤ 32))

/-- ACK, CRRET and ARRET of a message are taken; the peer is done with every Folio whose FSEAL is acknowledged, and what may leave does (R254, R255,
R269). -/
def State.takeAck (s : State) (c : Nat) (h : ClpHdr) : State :=
  let p := s.port c
  let l := p.ackedBy h.ack
  let s := s.setPort c { p with unacked := p.unacked.drop l.length, rounds := if l = [] then p.rounds else 0, crretIn := h.crret, arretIn := h.arret }
  let s := l.foldl (fun s m => match m.body with
    | .fseal n _ _ => s.peerDone c n
    | _ => s) s
  s.pump c 192

/-- The port accepts a message's session: that recorded at UP, and its own (R251). -/
def Port.session (p : Port) (h : ClpHdr) : Bool := h.sess == p.psess && h.psess == p.sess

/-- The binding that a SEAL or RECALL concerns: MATCHED, of its job and of the sender's slice (R259). -/
def Port.matchedBinding (p : Port) (job slice : Nat) : Option Binding :=
  p.bindings.find? (fun b => b.st == .matched && b.job == job && b.pslice == slice)

/-- The epoch that a conflicting SEAL or RECALL leaves trusted, with its binding (R273; assumption 44). -/
def Port.trustedBy (p : Port) : LinkBody → Option (Binding × Nat)
  | .sealMsg job epoch slice _ => (p.matchedBinding job slice).map (fun b => (b, epoch - 1))
  | .recallMsg job first _ slice _ _ _ => (p.matchedBinding job slice).map (fun b => (b, first - 1))
  | _ => none

/-- Job and epoch of a message, for the evidence of a dispute. -/
def LinkBody.about : LinkBody → Nat × Nat
  | .sealMsg job epoch _ _ => (job, epoch)
  | .recallMsg job first _ _ _ _ _ => (job, first)
  | .role job _ _ _ => (job, 0)
  | _ => (0, 0)

/-- A buffer of the message's class is free (R254, R256). -/
def State.bufferFree (s : State) (c : Nat) (answer : Bool) : Bool :=
  if answer then (s.port c).rxAns == 0 else decide ((s.port c).rxPool < s.offeredCr c)

/-- The receive window of a sequenced message (R256). The Kiln frees its buffer at the next KCLK (assumption 45). -/
def State.window (s : State) (c : Nat) (h : ClpHdr) (body : LinkBody) (answer : Bool) (act : State → State) : State :=
  let p := s.port c
  let d := wrap 16 (h.seq + 65536 - p.rxNext)
  let job := body.about
  if d = 0 ∧ s.bufferFree c answer = false then s.dispute c 6 h.seq job.1 job.2 (pack [(0, 16, p.rxNext), (16, 16, h.seq)]) 0 none
  else if d = 0 then
    let s := s.setPort c { p with rxNext := wrap 16 (p.rxNext + 1), ackDue := true, checks := ((h.seq, body.check) :: p.checks).take 32,
                                  rxPool := if answer then p.rxPool else p.rxPool + 1, rxAns := if answer then p.rxAns + 1 else p.rxAns }
    act (s.bump Reg.CCD_RXCNT_COUNT c 1)
  else if 65536 - 32 ≤ d then
    let stored := (p.checks.find? (fun e => e.1 == h.seq)).map (·.2)
    if stored = some body.check then s.setPort c { p with ackDue := true }
    else s.dispute c 3 h.seq job.1 job.2 (stored.getD 0) body.check (p.trustedBy body)
  else if d ≤ 31 then (s.raise Reg.CCD_EVENT_OOO c).linkDrop c
  else s.dispute c 6 h.seq job.1 job.2 (pack [(0, 16, p.rxNext), (16, 16, h.seq)]) 0 none

/-- An unsequenced message takes one of the two entries of its buffer until the engine has processed it (R258; assumption 146); a third is dropped. -/
def State.unsequenced (s : State) (c : Nat) (act : State → State) : State :=
  if 2 ≤ (s.port c).unseq then s else act (s.modPort c (fun p => { p with unseq := p.unseq + 1 }))

/-- What a message other than HELLO does once it is in the engine (R251, R252, R256): what its session and the port's state allow. In the sealed state it is
dropped (R279). -/
def State.linkTake (s : State) (c : Nat) (h : ClpHdr) (body : LinkBody) (answer : Bool) (act : State → State) : State :=
  let p := s.port c
  if s.isSealed then s
  else match p.st with
    | .disabled | .refused => s
    | .disputed => if body.type = 1 ∨ body.type = 0xA then s else s.linkDrop c
    | .hello => if body.sequenced ∨ body.type = 9 then (s.raise Reg.CCD_EVENT_STALESESS c).linkDrop c else s
    | .up =>
      if p.session h then
        let s := s.takeAck c h
        if body.sequenced then s.window c h body answer act else act s
      else if body.sequenced ∨ body.type = 9 then (s.raise Reg.CCD_EVENT_STALESESS c).linkDrop c
      else s

/-- A message other than HELLO arrives (R256, R258). -/
def State.linkIn (s : State) (c : Nat) (h : ClpHdr) (body : LinkBody) (answer : Bool) (act : State → State) : State :=
  if body.sequenced then s.linkTake c h body answer act else s.unsequenced c (fun s => s.linkTake c h body answer act)

/-! ## Sessions -/

/-- HELLO_TICK (R252): in HELLO, with the link up, a HELLO is sent. -/
def execHelloTick (clp : Nat) (s : State) : Host.Outcome State Fault Refusal :=
  .next (if (s.port clp).st = .hello ∧ (s.port clp).linkUp ∧ ¬ s.isSealed then s.presentFree clp (.hello (s.get Reg.KILN_ID_VERSION 0) (s.offeredCr clp) (s.on Reg.CCD_GCTRL_DOLMODE 0)) else s)

/-- A HELLO is valid (R251). -/
def State.helloValid (s : State) (c : Nat) (h : ClpHdr) (cr : Nat) : Bool :=
  decide (4 ≤ cr ∧ cr ≤ 32) && h.ord != s.cfg.ordinal && (match s.portEntry c with
    | some e => e.peer == 0xFFF || e.peer == h.ord
    | none => false)

/-- The content of a HELLO is what the port recorded; FRESH, which a peer drops once it has been UP (R253), is no part of it. -/
def Port.sameHello (p : Port) (h : ClpHdr) (rel cr : Nat) (dol : Bool) : Bool :=
  p.peerOrd == h.ord && p.peerClp == h.pclp && p.peerRel == rel && p.peerCr == cr && p.peerDol == dol

/-- What a HELLO does (R252): a session is recorded, opened, refused, answered, disputed or lost. -/
def State.helloIn (s : State) (clp : Nat) (h : ClpHdr) (rel cr : Nat) (dol : Bool) : State :=
  let p := s.port clp
  let reply := fun (s : State) => s.presentFree clp (.hello (s.get Reg.KILN_ID_VERSION 0) (s.offeredCr clp) (s.on Reg.CCD_GCTRL_DOLMODE 0))
  if s.isSealed then s
  else match p.st with
    | .disabled | .refused => s
    | .disputed => s.linkDrop clp
    | .hello =>
      if s.helloValid clp h cr = false then
        ((s.modPort clp (fun p => { p with st := .refused, wait := [] })).raise Reg.CCD_EVENT_REFUSED clp).recordOf 0x1101 (kilnSrc 0x1B clp) clp h.ord rel
      else
        let s := s.setPort clp { p with psess := h.sess, peerOrd := h.ord, peerClp := h.pclp, peerRel := rel, peerCr := cr, peerDol := dol, peerFresh := h.fresh }
        if h.seen ∧ h.psess = p.sess then (reply s).enterUp clp else s
    | .up =>
      if s.helloValid clp h cr = false then s
      else if h.sess ≠ p.psess then (s.losePeer clp true).newSession clp
      else if p.sameHello h rel cr dol then reply s
      else s.dispute clp 8 h.seq 0 0 0 0 none

/-- HELLO (R252, R258). -/
def execHello (clp : Nat) (h : ClpHdr) (rel cr : Nat) (dol : Bool) (s : State) : Host.Outcome State Fault Refusal :=
  .next (s.unsequenced clp (fun s => s.helloIn clp h rel cr dol))

/-- HEARTBEAT (R252, R257, R275): liveness, acknowledgement and credits; a peer in its sealed state is lost at once. -/
def execHeartbeat (clp : Nat) (h : ClpHdr) (peerSealed : Bool) (s : State) : Host.Outcome State Fault Refusal :=
  .next (s.linkIn clp h (.heartbeat peerSealed) false (fun s =>
    if peerSealed then (s.losePeer clp true).newSession clp
    else s.modPort clp (fun p => { p with heard := true, heardInRounds := true })))

/-- HEARTBEAT_TICK (R257, R274, R279): a port in UP or DISPUTED sends a HEARTBEAT, with HSTATE 1 in the sealed state; at rung 5 none (R239). -/
def execHeartbeatTick (clp : Nat) (s : State) : Host.Outcome State Fault Refusal :=
  let st := (s.port clp).st
  .next (if (st = .up ∨ st = .disputed) ∧ ¬ (s.rcv.rung = 5 ∧ s.rcv.st = .reset) then s.presentFree clp (.heartbeat s.isSealed) else s)

/-- RETRANSMIT_TIMEOUT (R255): every unacknowledged message goes again, oldest first; after eight rounds without progress, with heartbeats, the
port is DISPUTED with cause 4. -/
def execRetransmitTimeout (clp : Nat) (s : State) : Host.Outcome State Fault Refusal :=
  let p := s.port clp
  if p.st ≠ .up ∨ p.unacked = [] ∨ s.isSealed then .next s
  else if 8 ≤ p.rounds ∧ p.heardInRounds then .next (s.dispute clp 4 ((p.unacked.head?.map (·.seq)).getD 0) 0 0 0 0 none)
  else
    let s := s.setPort clp { p with rounds := p.rounds + 1, heardInRounds := if p.rounds = 0 then false else p.heardInRounds }
    let s := (s.raise Reg.CCD_EVENT_RETX clp).bump Reg.CCD_RETXCNT_COUNT clp 1
    .next (p.unacked.foldl (fun s m => s.present clp { body := m.body, seq := some m.seq, retx := true }) s)

/-- DISPUTE (R252): the peer holds the link disputed; cause 7. -/
def execDispute (clp : Nat) (h : ClpHdr) (cause job ref ev1 ev2 : Nat) (s : State) : Host.Outcome State Fault Refusal :=
  .next (s.linkIn clp h (.dispute cause job ref ev1 ev2) false (fun s => s.dispute clp 7 h.seq job ref (wrap 4 cause) 0 none))

/-- DISPUTE_RESEND (R274): DISPUTE goes three times in all. -/
def execDisputeResend (clp : Nat) (s : State) : Host.Outcome State Fault Refusal :=
  let p := s.port clp
  if p.st = .disputed ∧ 0 < p.disputeLeft ∧ ¬ s.isSealed then
    .next ((s.setPort clp { p with disputeLeft := p.disputeLeft - 1 }).presentFree clp (.dispute p.disp.cause p.disp.job p.disp.ref p.disp.ev1 p.disp.ev2))
  else .next s

/-- PEER_LOSS (R252, R275): an UP port loses its peer and opens a new session; a DISPUTED one only notes it. -/
def execPeerLoss (clp : Nat) (s : State) : Host.Outcome State Fault Refusal :=
  match (s.port clp).st with
  | .up => .next ((s.losePeer clp true).newSession clp)
  | .disputed => .next (s.modPort clp (fun p => { p with peerGone := true }))
  | _ => .next s

/-- LINK_UP_CHANGE (R244, R252): presenting stops or resumes with CLP_LINK_UP and CLP_TX_READY; no state changes. -/
def execLinkUpChange (clp : Nat) (up : LinkLines) (ps : Nat) (s : State) : Host.Outcome State Fault Refusal :=
  .next (((s.modPort clp (fun p => { p with linkUp := up.up, txReady := up.ready, linkPs := wrap 2 ps })).flushWait clp).pump clp 192)

/-- CLP_MESSAGE_DROPPED (R248, R249): a failed CRC is counted and raises CLP_CRC; a reserved TYPE or another VER is a protocol drop. -/
def execClpMessageDropped (clp seq : Nat) (crcFailed : Bool) (s : State) : Host.Outcome State Fault Refusal :=
  if (s.port clp).st = .disabled then .next s
  else if crcFailed then
    .next (((s.raise Reg.CCD_EVENT_CRC clp).bump Reg.CCD_CRCCNT_COUNT clp 1).clpFault clp 0x501 (wrap 16 seq) [])
  else .next (s.linkDrop clp)

/-- A write of 1 to `CCD_CTRL.RESTART` (R252). -/
def State.portRestart (s : State) (clp : Nat) : State :=
  if (s.port clp).st = .disputed ∨ (s.port clp).st = .refused then s.newSession clp else s

/-- CCD_RESTART (R252): a DISPUTED or REFUSED port enters HELLO with a new session; its bindings return to DECLARED (R274). -/
def execCcdRestart (clp ten tag : Nat) (s : State) : Host.Outcome State Fault Refusal :=
  .next (s.hostWrite ten tag (Win.clp.base clp + 4) none true (fun s => s.portRestart clp))

/-! ## Bindings and seals -/

/-- The state with one binding replaced; it leaves WAITING once PEERE has caught up (R264). -/
def State.putBinding (s : State) (c : Nat) (old new : Binding) : State :=
  s.mapBindings c (fun b => if b.isOf old.job old.slice ∧ b.pslice = old.pslice then { new with waiting := new.waiting && s.lagging new } else b)

/-- A digest of the history differs from a new one (R261): in the leftmost 64 bits, or in any bit where the full value is held. -/
def Binding.differs (b : Binding) (held digest : Nat) (newest : Bool) : Bool :=
  held != digest >>> 192 || (newest && (b.newest.elim false (· != digest)))

/-- SEAL (R261): accepted into the history, ignored, or a DOUBLE_SEAL. -/
def execSeal (clp : Nat) (h : ClpHdr) (job epoch slice digest : Nat) (s : State) : Host.Outcome State Fault Refusal :=
  .next (s.linkIn clp h (.sealMsg job epoch slice digest) false (fun s =>
    match (s.port clp).matchedBinding job slice with
    | none => s.linkDrop clp
    | some b =>
      match b.history.find? (fun e => e.1 == epoch) with
      | some held =>
        let newest := (b.history.head?.map (·.1)) == some epoch && b.newest.isSome
        if b.differs held.2 digest newest then
          s.dispute clp 1 h.seq job epoch (if newest then (b.newest.getD 0) >>> 128 else held.2 <<< 64) (digest >>> 128) (some (b, epoch - 1))
        else s
      | none =>
        if b.highe < epoch + 16 ∨ b.history = [] then
          s.putBinding clp b { b with history := ((epoch, digest >>> 192) :: b.history).take 16, newest := some digest,
                                      highe := max b.highe epoch, peere := max b.peere epoch }
        else s.raise Reg.CCD_EVENT_OLDSEAL clp))

/-- RECALL (R263): a phantom disputes the port, one acted on before is ignored, any other removes epochs and recalls what depends on them. -/
def execRecall (clp : Nat) (h : ClpHdr) (job first last slice origin rid cause : Nat) (s : State) : Host.Outcome State Fault Refusal :=
  .next (s.linkIn clp h (.recallMsg job first last slice origin rid cause) false (fun s =>
    match (s.port clp).matchedBinding job slice with
    | none => s.linkDrop clp
    | some b =>
      if last < first ∨ b.highe < last then
        s.dispute clp 2 h.seq job first (pack [(0, 32, first), (32, 32, last), (64, 32, b.highe)]) 0 none
      else if s.link.recalls.contains (origin, rid) then s
      else
        let s := { s with link := { s.link with recalls := ((origin, rid) :: s.link.recalls).take 64 } }
        let gone := fun (e : Nat × Nat) => decide (first ≤ e.1 ∧ e.1 ≤ last)
        let s := s.putBinding clp b { b with history := b.history.filter (fun e => !gone e), peere := if first ≤ b.peere then first - 1 else b.peere,
                                             newest := if (b.history.head?.map gone).getD false then none else b.newest }
        let (s, l) := s.recallDependents clp b first origin rid 2
        l.foldl (fun s n => s.notify n) s))

/-- ROLE (R259): a declaration matches or contradicts a binding; a withdrawal returns it to DECLARED. One that fits no binding contradicts those of its job
that share a slice with it or await their declaration (assumption 147). -/
def execRole (clp : Nat) (h : ClpHdr) (job slice pslice : Nat) (withdraw : Bool) (s : State) : Host.Outcome State Fault Refusal :=
  .next (s.linkIn clp h (.role job slice pslice withdraw) false (fun s =>
    let fits := fun (b : Binding) => b.job == job && b.slice == pslice && b.pslice == slice
    if withdraw then s.mapBindings clp (fun b => if fits b then { b with st := .declared } else b)
    else if (s.port clp).bindings.any fits then s.mapBindings clp (fun b => if fits b then { b with st := .matched } else b)
    else
      let against := fun (b : Binding) => b.job == job && (b.slice == pslice || b.pslice == slice || b.st == .declared)
      if (s.port clp).bindings.any against then
        (s.mapBindings clp (fun b => if against b then { b with st := .mismatch } else b)).raise Reg.CCD_EVENT_MISMATCH clp
      else s))

/-- EPOCH_TIMEOUT (R264): a binding that lags becomes WAITING, with a Ledger record and no fault. -/
def execEpochTimeout (clp job slice : Nat) (s : State) : Host.Outcome State Fault Refusal :=
  match (s.port clp).bindings.find? (fun b => b.isOf job slice) with
  | some b =>
    if s.lagging b ∧ b.waiting = false then
      .next (((s.putBinding clp b { b with waiting := true }).raise Reg.CCD_EVENT_EPTMO clp).recordOf 0x1102 (kilnSrc 0x1B clp) clp job b.tenant)
    else .next s
  | none => .next s

/-! ## Time pairs -/

/-- A pair is kept: θ_L, δ, and validity (R265, R266). -/
def State.keepPair (s : State) (c : Nat) (theta : Int) (delta pid stamp : Nat) : State :=
  ((s.modPort c (fun p => { p with theta := theta, delta := delta, pairGt := s.gt, pairKept := true, thetaValid := true })).tracePair c pid stamp theta delta).event 10

/-- TPAIR (R265, R266): the secondary replies to a request; the primary computes θ and δ from the reply and sends the result; the secondary takes
the result. A pair whose δ exceeds TPMAX is discarded. -/
def execTpair (clp : Nat) (h : ClpHdr) (phase pid t1 t2 t3 theta delta : Nat) (s : State) : Host.Outcome State Fault Refusal :=
  let body := LinkBody.tpair phase pid t1 t2 t3 theta delta
  .next (s.linkIn clp h body false (fun s =>
    let p := s.port clp
    if wrap 2 phase = 0 then
      (s.setPort clp { p with pairWait := some pid }).presentFree clp (.tpair 1 pid t1 s.gt 0 0 0)
    else if wrap 2 phase = 1 then
      if p.pairT1 = some t1 ∧ p.pairId = pid then
        let s := s.setPort clp { p with pairT1 := none }
        let th : Int := ((Int.ofNat t2 - Int.ofNat t1) + (Int.ofNat t3 - Int.ofNat s.gt)) / 2
        let de : Int := (Int.ofNat s.gt - Int.ofNat t1) - (Int.ofNat t3 - Int.ofNat t2)
        if de ≤ Int.ofNat (s.get Reg.CCD_TPCTRL_TPMAX 0) then
          (s.keepPair clp th (unsigned 32 de) pid t1).presentFree clp (.tpair 2 pid t1 t2 t3 (unsigned 64 th) (unsigned 32 de))
        else s
      else s
    else if wrap 2 phase = 2 then
      if p.pairWait = some pid ∧ delta ≤ s.get Reg.CCD_TPCTRL_TPMAX 0 then (s.setPort clp { p with pairWait := none }).keepPair clp (- signed 64 theta) delta pid t2
      else s.setPort clp { p with pairWait := none }
    else s))

/-- TPAIR_TICK (R265): the primary of an UP port starts a pair. -/
def execTpairTick (clp : Nat) (s : State) : Host.Outcome State Fault Refusal :=
  .next (if (s.port clp).st = .up ∧ s.isPrimary clp ∧ ¬ s.isSealed then s.startPair clp else s)

/-- TPAIR_TIMEOUT (R266): a pair whose reply or result is missing is discarded. -/
def execTpairTimeout (clp : Nat) (s : State) : Host.Outcome State Fault Refusal :=
  .next (s.modPort clp (fun p => { p with pairT1 := none, pairWait := none, wait := p.wait.filter (fun w => w.body.type != 9) }))

/-- THETA_EXPIRY (R266): θ_L is no longer valid. -/
def execThetaExpiry (clp : Nat) (s : State) : Host.Outcome State Fault Refusal :=
  .next (s.modPort clp (fun p => { p with thetaValid := false }))

/-! ## Cross-chip Folios -/

/-- A Folio of this chip is PREPARED with the link key of a port (R272). -/
def State.collidingFolio (s : State) (c : Nat) : Option FolioRec :=
  s.folios.find? (fun f => f.xchip && f.peernum == 0 && f.st == .prepared && (s.folioKeys f).contains (.link c))

/-- All parts of an FPREP are here (R270): a vote void, or the Folio is logged and prepared. A collision is settled first (R272). -/
def State.prepared (s : State) (c folio nact : Nat) (acts : List Act) : State :=
  if s.linkReady c = false then s.linkQueue c (.fvote folio 4 0)
  else if acts.length ≠ nact ∨ acts = [] ∨ acts.any (fun a => a.act != 0x30 && a.act != 0x31) then s.linkQueue c (.fvote folio 11 0)
  else
    let go := fun (s : State) =>
      (s.kilnPropose { acts := acts.map (fun a => { a with region := 0x7FF, col := 4 }), urgent := false, origin := 5, xchip := true, peernum := folio, peer := some c }).2
    match s.collidingFolio c with
    | none => go s
    | some f =>
      let s := s.raise Reg.CCD_EVENT_COLLIDE c
      if s.isPrimary c then s.linkQueue c (.fvote folio 9 0)
      else go ((s.voidFolio f.number 9 0x7FE).admitWaiting)

/-- FPREP (R270, R272): parts are collected, and with the last the Folio is prepared here or refused. -/
def execFprep (clp : Nat) (h : ClpHdr) (folio part : Nat) (last : Bool) (nact : Nat) (acts : List Flit) (s : State) : Host.Outcome State Fault Refusal :=
  let body := LinkBody.fprep folio part last acts.length nact ((acts.getD 0 0).toNat) ((acts.getD 1 0).toNat)
  .next (s.linkIn clp h body false (fun s =>
    let p := s.port clp
    let before := if part = 0 then [] else ((p.preps.find? (fun e => e.1 == folio)).map (·.2)).getD []
    let all := before ++ acts.map Act.ofFlit
    let rest := p.preps.filter (fun e => e.1 != folio)
    if last then (s.setPort clp { p with preps := rest }).prepared clp folio nact all
    else s.setPort clp { p with preps := rest ++ [(folio, all)] }))

/-- FVOTE (R269): a yes is recorded, a void voids the Folio; any vote clears the peer's strikes. -/
def execFvote (clp : Nat) (h : ClpHdr) (folio code lnum : Nat) (answer : Bool) (s : State) : Host.Outcome State Fault Refusal :=
  .next (s.linkIn clp h (.fvote folio code lnum) answer (fun s =>
    let s := s.modPort clp (fun p => { p with strikes := [] })
    match s.folio folio with
    | none => s
    | some f =>
      if f.st ≠ .prepared ∨ f.peernum ≠ 0 ∨ f.parts.contains (peerPart clp) = false then s
      else if code = 0 then
        (s.setFolio { f with yes := if f.yes.contains (peerPart clp) then f.yes else f.yes ++ [peerPart clp] }).tryDecide folio
      else ((s.setFolio { f with voidlink := clp }).voidFolio folio code 0x7FE).admitWaiting))

/-- T in local GT (R267). -/
def State.localT (s : State) (c t : Nat) : Nat := (Int.ofNat t - (s.port c).theta).toNat

/-- An in-doubt Folio whose FSEAL is replayed applies on arrival as a replay (R270, R186). -/
def State.replaySealed (s : State) (c number t : Nat) : State :=
  match s.folio number with
  | none => s
  | some f =>
    let f := { f with st := .decided, sealt := t, link := some c, late := [] }
    let f := { f with parts := s.folioParts f, done := f.coordinator }
    let s := (s.setFolio f).raise Reg.CCD_EVENT_LATE c
    s.sendAll ((f.parts.filter (fun p => decide (p < 4096))).flatMap (fun p => prepParts p f true ++ [msgFlSeal p number true t]))

/-- FSEAL (R270, R271): the participants are sealed at T minus θ_L; a late one sets LATE; one in doubt is replayed. -/
def execFseal (clp : Nat) (h : ClpHdr) (folio t : Nat) (replay : Bool) (s : State) : Host.Outcome State Fault Refusal :=
  .next (s.linkIn clp h (.fseal folio t replay) false (fun s =>
    let tl := s.localT clp t
    match s.folios.find? (fun f => f.link == some clp && f.peernum == folio && f.st == .prepared && (f.answered || f.xvoid)) with
    | some f =>
      let s := if tl < s.gt + 48 then s.raise Reg.CCD_EVENT_LATE clp else s
      s.decide_ f tl
    | none =>
      match (s.port clp).inDoubt.find? (fun e => e.1 == folio) with
      | some e => if replay then (s.modPort clp (fun p => { p with inDoubt := p.inDoubt.filter (· != e) })).replaySealed clp e.2 tl else s
      | none => s))

/-- FVOID (R270): the peer's Folio is void here too. -/
def execFvoid (clp : Nat) (h : ClpHdr) (folio reason : Nat) (s : State) : Host.Outcome State Fault Refusal :=
  .next (s.linkIn clp h (.fvoid folio reason) false (fun s =>
    match (s.peerFolios clp).find? (fun f => f.peernum == folio) with
    | some f => s.voidPeerFolio f.number reason 0x7FE
    | none => s))

/-- INDOUBT_TIMEOUT (R270): an in-doubt entry is dropped; its void is confirmed. -/
def execIndoubtTimeout (clp folio : Nat) (s : State) : Host.Outcome State Fault Refusal :=
  .next (if (s.port clp).st = .up then s.modPort clp (fun p => { p with inDoubt := p.inDoubt.filter (fun e => e.1 != folio) }) else s)

/-- A cross-chip request takes a Folio number. -/
def State.proposeX (s : State) (q : XReq) : State :=
  let (n, s) := s.kilnPropose { acts := q.acts, urgent := false, origin := 5, xchip := true }
  { s.set Reg.CCD_XREQNUM_NUMBER 0 n with link := { s.link with req := some { q with backoff := false } } }

/-- COLLISION_BACKOFF (R272): the secondary proposes its change again, under a new number. -/
def execCollisionBackoff (s : State) : Host.Outcome State Fault Refusal :=
  match s.link.req with
  | some q => .next (if q.backoff then s.proposeX q else s)
  | none => .next s

/-- A write of CCD_XREQ (R268, R277, R280). `ready` is the port whose peer takes part. -/
def State.xrequest (s : State) (op clp job slice newclp : Nat) (withdraw : Bool) (ready : Nat) : State :=
  let s := s.setAll 0 [(Reg.CCD_XREQ_OP, op), (Reg.CCD_XREQ_CLP, clp), (Reg.CCD_XREQ_JOB, job), (Reg.CCD_XREQ_SLICE, slice), (Reg.CCD_XREQ_NEWCLP, newclp),
    (Reg.CCD_XREQ_WITHDRAW, flag withdraw)]
  if s.on Reg.CCD_XREQST_BUSY 0 then s.raise Reg.CCD_XREQST_DROPPED 0
  else if op = 2 ∧ s.on Reg.CCD_GCTRL_DOLMODE 0 then s.set Reg.CCD_XREQST_RESULT 0 5
  else if withdraw = false ∧ clp = newclp then s.set Reg.CCD_XREQST_RESULT 0 4
  else if s.linkReady ready = false then s.set Reg.CCD_XREQST_RESULT 0 3
  else
    let a : Act := { act := 0x2F + op, region := 0x7FF, col := 4, row := wrap 5 clp, arg := pack [(0, 32, job), (32, 12, slice), (44, 5, newclp), (49, 1, flag withdraw)] }
    (s.setAll 0 [(Reg.CCD_XREQST_BUSY, 1), (Reg.CCD_XREQST_RESULT, 0)]).proposeX { acts := [a], clp := clp }

/-- CCD_XREQ_XROLE (R268): a cross-chip role change is proposed. -/
def execCcdXreqXrole (clp job slice newclp : Nat) (withdraw : Bool) (ten tag : Nat) (s : State) : Host.Outcome State Fault Refusal :=
  .next (s.hostWrite ten tag 0x1210 none true (fun s => s.xrequest 1 (wrap 5 clp) job slice (wrap 5 newclp) withdraw (wrap 5 clp)))

/-- CCD_XREQ_XSPARE (R277, R278): a spare switch-in is proposed; Dolastelo-compatible mode refuses it. -/
def execCcdXreqXspare (clp job slice newclp ten tag : Nat) (s : State) : Host.Outcome State Fault Refusal :=
  .next (s.hostWrite ten tag 0x1210 none true (fun s => s.xrequest 2 (wrap 5 clp) job slice (wrap 5 newclp) false (wrap 5 newclp)))

end Sys2Proof.Machine
end

