-- ==== Sys2Proof/Machine/Colophon.lean ====
section
/-! DEFINITION. The meanings of the commands of digests, epochs and Colophons (R286–R305), and EXP_REPORT (R112, R134, R299). -/

namespace Sys2Proof.Machine

/-! ## The hub's part -/

/-- Coverage of a tenant at a hub since the last cut (R118, R287, R294): what its probes reported, agreed readings, and marks. -/
def Hub.coverOf (h : Hub) (t : Nat) : Coverage :=
  let c := tgetD {} t h.ep.cover
  let now := tgetD {} t h.readCounts
  let old := tgetD {} t h.ep.readBase
  let missed := decide (tgetD 0 t h.ep.missBase < tgetD 0 t h.misses)
  { macs := c.macs.set 4 (now.macs - old.macs), elems := c.elems.set 4 (now.elems - old.elems), chosen := now.chosen - old.chosen,
    lost := (now.wmin + now.nomaj) - (old.wmin + old.nomaj), quenches := tgetD 0 t h.ep.quenches,
    marks := flag (decide (old.ovr < now.ovr)) + 2 * flag missed }

/-- Coverage totals as the payload of EP_PART part 0: ten 64-bit counts, three 32-bit counts and the marks (assumption 46). -/
def coverFlits (c : Coverage) : List Flit :=
  flitsOf 6 (pack ((c.macs.zipIdx.map (fun e => (64 * e.2, 64, e.1))) ++ ((c.elems.take 5).zipIdx.map (fun e => (320 + 64 * e.2, 64, e.1)))
    ++ [(640, 32, c.chosen), (672, 32, c.lost), (704, 32, c.quenches), (736, 2, c.marks)]))

/-- The number that payload flits spell. -/
def ofFlits (l : List Flit) : Nat := l.foldr (fun f n => f.toNat + n <<< 128) 0

/-- Coverage totals of a payload. -/
def coverOfFlits (l : List Flit) : Coverage :=
  let x := ofFlits l
  { macs := (List.range 5).map (fun i => bits x (64 * i) 64), elems := (List.range 5).map (fun i => bits x (320 + 64 * i) 64) ++ [0],
    chosen := bits x 640 32, lost := bits x 672 32, quenches := bits x 704 32, marks := bits x 736 2 }

/-- Layer entries of a tenant at a hub, by LAYER. -/
def Hub.layersOf (h : Hub) (t : Nat) : List (Nat × LayerEntry) :=
  (h.ep.layers.filter (fun e => e.1 / 65536 == t)).map (fun e => (e.1 % 65536, e.2))

/-- What a hub has sent of a tenant's epoch is cleared. -/
def Hub.sentParts (h : Hub) (t : Nat) : Hub :=
  { h with ep := { layers := h.ep.layers.filter (fun e => e.1 / 65536 != t), cover := tdel t h.ep.cover, cuts := tdel t h.ep.cuts, quenches := tdel t h.ep.quenches, readBase := tput t (tgetD {} t h.readCounts) h.ep.readBase, missBase := tput t (tgetD 0 t h.misses) h.ep.missBase } }

/-- EP_PART: coverage totals, then up to three layer entries to a message; what was sent is cleared (R290, R304). -/
def State.sendParts (s : State) (r t : Nat) : State :=
  let h := s.hub r
  let ls := (h.layersOf t).map (fun e => flitsOf 2 (e.2.word e.1))
  let cs := chunksOf 3 ls
  let n := cs.length
  let msgs := msgEpPart r t 0 (n == 0) (coverFlits (h.coverOf t)) :: cs.zipIdx.map (fun e => msgEpPart r t (e.2 + 1) (e.2 + 1 == n) e.1.flatten)
  (s.setHub r (h.sentParts t)).sendAll msgs

/-- Every column of a region notes a tenant's barrier, and the steps that waited for it are proposed (R151, R154). -/
def State.markBarrier (s : State) (r t epoch : Nat) : State :=
  ((List.range 32).foldl (fun s c => s.modWalk r c (fun w => { w with barrier := (t, epoch) :: w.barrier.filter (fun b => b.1 != t) })) s).proposeSteps r
    (List.range 32)

/-- EP_CUT (R290): a hub that holds a shelfmark of the tenant sends DG_CUT to every position with a context of it. -/
def execEpCut (region tenant : Nat) (discard : Bool) (epoch : Nat) (s : State) : Host.Outcome State Fault Refusal :=
  if (s.hub region).cat.holders.any (fun e => e.2.contains tenant) = false then .next s
  else
    let s := if discard then s else s.markBarrier region tenant epoch
    let l := s.probesOf region tenant
    if l = [] then .next (s.sendParts region tenant)
    else .next ((s.modHub region (fun h => { h with ep := { h.ep with cuts := tput tenant l.length h.ep.cuts } })).sendAll
      (l.map (fun t => msgDgCut region t (s.accOf region t) tenant discard)))

/-- DG_CUT (R290): the probe sends the context's accumulator with CUT = 1, then its coverage deltas, and zeroes both. A probe without the context
answers with zeros. -/
def execDgCut (region tile acc tenant : Nat) (discard : Bool) (s : State) : Host.Outcome State Fault Refusal :=
  .next (s.atProbe region tile acc (msgDgCut region tile acc tenant discard) (fun s =>
    match (s.probe region tile).ctxOf tenant with
    | some i =>
      let a := (s.probe region tile).accum i
      ((s.reportDigest region tile i true a.layer).modProbe region tile (fun p => { p with acc := tput i { layer := a.layer } p.acc })).send
        (msgDgCover region tile tenant a.macs a.elems)
    | none => (s.send (msgDgReport region tile tenant 0 0 0 true 0 0 0 0)).send (msgDgCover region tile tenant [0, 0, 0, 0] [0, 0, 0, 0])))

/-- DG_REPORT (R287): the hub adds the accumulator into its layer table. -/
def execDgReport (region tile tenant layer dA dB : Nat) (cut : Bool) (nslot nchunk nmvslot nmvchunk : Nat) (s : State) : Host.Outcome State Fault Refusal :=
  let s := s.recv (msgDgReport region tile tenant layer dA dB cut nslot nchunk nmvslot nmvchunk)
  if nslot = 0 ∧ nmvslot = 0 then .next s
  else
    let e : LayerEntry := { dA := dA, dB := dB, nslot := nslot, nchunk := nchunk, nmvslot := nmvslot, nmvchunk := nmvchunk }
    .next (s.modHub region (fun h => { h with ep := { h.ep with layers := addLayer 512 (65536 * wrap 12 tenant) (wrap 16 layer) e h.ep.layers } }))

/-- DG_COVER (R287, R290): the hub adds the deltas; with the last answer of a cut it sends EP_PART. -/
def execDgCover (region tile tenant : Nat) (macs elems : List Nat) (s : State) : Host.Outcome State Fault Refusal :=
  let s := s.recv (msgDgCover region tile tenant macs elems)
  let d : Coverage := { macs := macs ++ [0], elems := elems ++ [0, 0] }
  let s := s.modHub region (fun h => { h with ep := { h.ep with cover := tput tenant ((tgetD {} tenant h.ep.cover).add d) h.ep.cover } })
  match tget tenant (s.hub region).ep.cuts with
  | some n =>
    if n ≤ 1 then .next (s.sendParts region tenant)
    else .next (s.modHub region (fun h => { h with ep := { h.ep with cuts := tput tenant (n - 1) h.ep.cuts } }))
  | none => .next s

/-! ## The Kiln's part -/

/-- Shelfmarks of a tenant lose their suspect mark, at the hubs and in the master's copy (R150). -/
def State.clearSuspects (s : State) (t : Nat) : State :=
  let clear := fun (p : CatPart) => (p.holders.filter (fun e => e.2.contains t)).foldl (fun (p : CatPart) e =>
    match p.rowOf (e.1 / 32) (e.1 % 32) with
    | some row => let q := tileAt row (e.1 / 32); if (p.at q).suspect then p.setPos q { p.at q with suspect := false } else p
    | none => p) p
  { s with master := tmap (fun _ p => clear p) s.master, hubs := tmap (fun _ (h : Hub) => { h with cat := clear h.cat }) s.hubs }

/-- Dependency entries of an EPOCH record (R294): one for each binding of the tenant. -/
def State.dependencyWord (s : State) (t : Nat) : Nat × Nat :=
  let l := s.bindingsOf t
  (l.length, pack (l.zipIdx.flatMap (fun e => [(128 * e.2, 32, e.1.2.job), (128 * e.2 + 32, 12, e.1.2.pslice), (128 * e.2 + 44, 5, e.1.1), (128 * e.2 + 64, 32, e.1.2.peere)])))

/-- The chain value of an epoch (R292). -/
def chainOf (prev epoch : Nat) (layers : Table LayerEntry) : Nat :=
  sha384 (bytesBE 48 prev ++ [2] ++ leBytes 4 epoch ++ leBytes 2 layers.length ++ layers.flatMap (fun e => leBytes 32 (e.2.word e.1)))

/-- A hashed epoch is sealed where its record has room (R290, R150, R234, R303): record, chain, SEALs and P_k, and what waited for the seal; else it
waits for room. -/
def State.trySeal (s : State) (t : Nat) : State :=
  match (s.ep t).close with
  | none => s
  | some c =>
    let n := 128 + 32 * c.layers.length + 16 * (s.dependencyWord t).1
    if (s.ep t).waiting ≠ [] ∨ s.recFits t ((128 + n + 63) / 64 * 64) = false then s.modEp t (fun x => { x with close := some { c with phase := .ring } })
    else
      let h := chainOf (s.chainHead t) c.epoch c.layers
      let deps := s.dependencyWord t
      let lw := c.layers.zipIdx.foldl (fun w e => w + (e.1.2.word e.1.1) <<< (256 * e.2)) 0
      let body := c.cover.block + lw <<< 1024 + deps.2 <<< (1024 + 256 * c.layers.length)
      let (r, s) := s.makeRec t 2 (s.recFlags t c.layers c.cover.marks) c.layers.length c.epoch deps.1 (s.ep t).gtOpen body n h c.cover
      let s := ((s.modEp t (fun x => { x with hasSealed := true, gtOpen := s.gt, kept := [], keptCover := {} })).putRec t r).event 11
      let s := s.setAll t [(Reg.TEN_EP_CHAIN_HEAD, h), (Reg.TEN_EP_LAST_EPOCH, c.epoch), (Reg.TEN_EP_STATUS_OPEN, c.epoch + 1)]
      let s := ((s.queueSeals t c.epoch (h >>> 128)).clearSuspects t).endClose t 0
      let s := if s.rcv.granted = some t then s.grantedPasses else s
      s.laterRecalls t

/-- An epoch's DISCARD ends (R288, R290): the UNSEALED record and the next open epoch; a runtime's waits for room in the ring. -/
def State.tryDiscard (s : State) (t : Nat) : State :=
  match (s.ep t).close with
  | none => s
  | some c =>
    if c.own = false ∧ ((s.ep t).waiting ≠ [] ∨ s.recFits t 128 = false) then s.modEp t (fun x => { x with close := some { c with phase := .ring } })
    else (s.closeUnsealed t c.epoch).endClose t 0

/-- A close that waits for room goes on when there is some (R293). -/
def State.retryRing (s : State) (t : Nat) : State :=
  match (s.ep t).close with
  | some c => if c.phase = .ring then (if c.op = 0 then s.trySeal t else s.tryDiscard t) else s
  | none => s

/-- Every EP_PART is here (R290): CUT is set; a SEAL goes on to the hash, a DISCARD ends. The may-vary element count of the epoch is free
(assumption 42). -/
def State.cutDone (s : State) (t : Nat) : State :=
  match (s.ep t).close with
  | none => s
  | some c =>
    let s := s.set Reg.TEN_EP_STATUS_CUT t 1
    if c.op = 0 then
      let (v, s) := if c.layers.any (fun e => e.2.nmvslot != 0) then s.fresh 64 else (0, s)
      s.modEp t (fun x => { x with close := some { c with phase := .hashing, cover := { c.cover with elems := c.cover.elems.set 5 v } } })
    else s.tryDiscard t

/-- The cut of a close that no hub has to answer is done at once. -/
def State.settleCut (s : State) (t : Nat) : State :=
  match (s.ep t).close with
  | some c => if c.phase = .cutting ∧ c.await = [] then s.cutDone t else s
  | none => s

/-- Layer entries of a payload. -/
def entriesOfFlits (l : List Flit) : List (Nat × LayerEntry) :=
  (chunksOf 2 l).map (fun c => let w := ofFlits c; (bits w 0 16, LayerEntry.ofWord w))

/-- EP_PART (R290): a hub's coverage and entries are summed into the epoch table; with the last hub CUT is set. -/
def execEpPart (region tenant part : Nat) (last : Bool) (payload : List Flit) (s : State) : Host.Outcome State Fault Refusal :=
  let s := s.recv (msgEpPart region tenant part last payload)
  match (s.ep tenant).close with
  | none => .next s
  | some c =>
    if c.phase ≠ .cutting ∨ c.await.contains region = false then .next s
    else
      let c := if part = 0 then { c with cover := c.cover.add (coverOfFlits payload) }
        else { c with layers := (entriesOfFlits payload).foldl (fun t e => addLayer 1024 0 e.1 e.2 t) c.layers }
      let c := if last then { c with await := c.await.filter (· != region) } else c
      .next ((s.modEp tenant (fun x => { x with close := some c })).settleCut tenant)

/-- EPOCH_HASH_DONE (R290): the chain hash is formed, and the epoch is sealed. -/
def execEpochHashDone (tenant : Nat) (s : State) : Host.Outcome State Fault Refusal :=
  match (s.ep tenant).close with
  | some c => .next (if c.phase = .hashing then s.trySeal tenant else s)
  | none => .next s

/-- EP_PART_TIMEOUT (R291): a hub gave no EP_PART; the close fails with RESULT 2, its epoch closed as by DISCARD. Global stop pauses it. -/
def execEpPartTimeout (tenant : Nat) (s : State) : Host.Outcome State Fault Refusal :=
  match (s.ep tenant).close with
  | some c => .next (if c.phase = .cutting ∧ ¬ s.stopped then s.failCut tenant else s)
  | none => .next s

/-- RECORD_RING_TIMEOUT (R291): the ring had no room; the close fails with RESULT 3 and the open epoch, whose contributions are kept, is unchanged
(assumption 47). -/
def execRecordRingTimeout (tenant : Nat) (s : State) : Host.Outcome State Fault Refusal :=
  match (s.ep tenant).close with
  | some c =>
    .next (if c.phase = .ring then
      ((s.modEp tenant (fun x => if c.op = 0 then { x with kept := c.layers, keptCover := c.cover } else x)).endClose tenant 3).laterRecalls tenant else s)
  | none => .next s

/-- A write of `TEN_REC_TAIL` (R293). -/
def State.recTailWrite (s : State) (tenant offset : Nat) : State :=
  let s := s.set Reg.TEN_REC_TAIL_OFFSET tenant offset
  (s.flushRecs tenant (s.ep tenant).waiting).retryRing tenant

/-- TEN_REC_TAIL_WRITE (R293): the runtime's tail advances, and what waited for room is written. -/
def execTenRecTailWrite (tenant offset ten tag : Nat) (s : State) : Host.Outcome State Fault Refusal :=
  .next (s.hostWrite ten tag (Win.tenant.base tenant + 0x12C) (some tenant) (s.tenantActive tenant) (fun s => s.recTailWrite tenant offset))

/-! ## The runtime's operations -/

/-- A write of TEN_EP_CLOSE (R288, R303): ignored while BUSY; refused where the tenant is not active. -/
def State.closeWrite (s : State) (t epoch op : Nat) (act : State → State) : State :=
  if s.on Reg.TEN_EP_STATUS_BUSY t then s.raise Reg.TEN_EP_STATUS_DROPPED t
  else
    let s := s.setAll t [(Reg.TEN_EP_CLOSE_EPOCH, epoch), (Reg.TEN_EP_CLOSE_OP, op)]
    if (s.ep t).active = false then s.set Reg.TEN_EP_STATUS_RESULT t 5 else act s

/-- SEAL or DISCARD of the open epoch (R288, R290). -/
def State.closeOpen (s : State) (t epoch op : Nat) : State :=
  if wrap 32 epoch ≠ s.get Reg.TEN_EP_STATUS_OPEN t then s.set Reg.TEN_EP_STATUS_RESULT t 1
  else (s.openClose t { op := op, epoch := wrap 32 epoch }).settleCut t

/-- EPOCH_SEAL (R288, R290). -/
def execEpochSeal (tenant epoch ten tag : Nat) (s : State) : Host.Outcome State Fault Refusal :=
  .next (s.hostWrite ten tag (Win.tenant.base tenant + 0x100) (some tenant) (s.tenantActive tenant) (fun s => s.closeWrite tenant epoch 0 (fun s => s.closeOpen tenant epoch 0)))

/-- EPOCH_DISCARD (R288, R290). -/
def execEpochDiscard (tenant epoch ten tag : Nat) (s : State) : Host.Outcome State Fault Refusal :=
  .next (s.hostWrite ten tag (Win.tenant.base tenant + 0x100) (some tenant) (s.tenantActive tenant) (fun s => s.closeWrite tenant epoch 1 (fun s => s.closeOpen tenant epoch 1)))

/-- The EPOCH record of an epoch is in the ring between tail and head (R300). -/
def State.recInRing (s : State) (t : Nat) (r : RingRec) : Bool :=
  match s.tenantEntry t with
  | some e => decide ((s.ep t).pos - r.pos ≤ s.ringUsed t (max 1 e.recSize))
  | none => false

/-- REWIND to a sealed epoch (R300): unsent SEALs leave the queues, RECALLs are queued, the RECALL record is appended, and the chain goes back. -/
def State.rewind (s : State) (t epoch : Nat) (tagOk : Bool) : State :=
  match s.lastSealed t with
  | none => s.set Reg.TEN_EP_STATUS_RESULT t 1
  | some top =>
    if top < epoch ∨ epoch < (s.ep t).first then s.set Reg.TEN_EP_STATUS_RESULT t 1
    else match (s.ep t).epochRec epoch with
      | none => s.set Reg.TEN_EP_STATUS_RESULT t 4
      | some r =>
        if s.recInRing t r = false ∨ tagOk = false then s.set Reg.TEN_EP_STATUS_RESULT t 4
        else
          let s : State :=
            if epoch < top then
              let (rid, s) := (s.unqueueSeals t epoch).takeRid
              (s.performRecall t (epochRange (epoch + 1) top) s.cfg.ordinal rid 3 none).notify (rollbackFrom t (epoch + 1))
            else s
          let s := s.modEp t (fun x => { x with coloNext := min x.coloNext (epoch + 1), settings := x.settings.filter (fun n => decide (n < epoch)), gtOpen := s.gt,
                                                kept := [], keptCover := {} })
          (s.setAll t [(Reg.TEN_EP_CHAIN_HEAD, r.chain), (Reg.TEN_EP_LAST_EPOCH, epoch), (Reg.TEN_EP_STATUS_OPEN, epoch + 1),
            (Reg.TEN_EP_STATUS_RESULT, 0)]).caughtUp t

/-- EPOCH_REWIND (R288, R300). `tagOk` says that the RTAG of the record read back from host memory verifies. -/
def execEpochRewind (tenant epoch : Nat) (tagOk : Bool) (ten tag : Nat) (s : State) : Host.Outcome State Fault Refusal :=
  .next (s.hostWrite ten tag (Win.tenant.base tenant + 0x100) (some tenant) (s.tenantActive tenant) (fun s => s.closeWrite tenant epoch 2 (fun s => s.rewind tenant (wrap 32 epoch) tagOk)))

/-- A RESTART write of `TEN_EP_CLOSE` (R288, R292). -/
def State.restartWrite (s : State) (tenant epoch : Nat) : State :=
  s.closeWrite tenant epoch 3 (fun s => ((s.genesis tenant (wrap 32 epoch)).set Reg.TEN_EP_STATUS_RESULT tenant 0).caughtUp tenant)

/-- EPOCH_RESTART (R288, R292): a new genesis, and the first epoch it names. -/
def execEpochRestart (tenant epoch ten tag : Nat) (s : State) : Host.Outcome State Fault Refusal :=
  .next (s.hostWrite ten tag (Win.tenant.base tenant + 0x100) (some tenant) (s.tenantActive tenant) (fun s => s.restartWrite tenant epoch))

/-- The range of the next Colophon (R297): the epochs sealed since the previous one, up to the first SETTING. -/
def State.coloRange (s : State) (t : Nat) : Option (Nat × Nat) :=
  match s.lastSealed t with
  | none => none
  | some top =>
    let a := (s.ep t).coloNext
    if top < a then none
    else
      let stops := (s.ep t).settings.filter (fun n => decide (a ≤ n ∧ n ≤ top))
      some (a, stops.foldl min top)

/-- A write of 1 to `TEN_COLO_REQ.REQ` (R297, R303). -/
def State.coloWrite (s : State) (tenant : Nat) : State :=
  if s.on Reg.TEN_COLO_STATUS_BUSY tenant then s
  else match s.coloRange tenant with
    | none => s.set Reg.TEN_COLO_STATUS_RESULT tenant 1
    | some (a, b) =>
      if s.vault.st = .error then s.set Reg.TEN_COLO_STATUS_RESULT tenant 3
      else
        let s := (s.modEp tenant (fun x => { x with colo := some { a := a, b := b } })).setAll tenant
          [(Reg.TEN_COLO_REQ_REQ, 1), (Reg.TEN_COLO_STATUS_BUSY, 1), (Reg.TEN_COLO_STATUS_RESULT, 0)]
        s.wantSweep tenant

/-- COLOPHON_REQUEST (R297, R303): a single-tenant sweep starts, and the Colophon waits for it; with nothing to cover, or the Vault in error, the
request ends. -/
def execColophonRequest (tenant ten tag : Nat) (s : State) : Host.Outcome State Fault Refusal :=
  .next (s.hostWrite ten tag (Win.tenant.base tenant + 0x118) (some tenant) (s.tenantActive tenant) (fun s => s.coloWrite tenant))

/-! ## Exposure reports -/

/-- Entries of two windows of one tile together (R134): per tenant the lowest EFIRST, the highest ELAST and the OR of the classes. -/
def mergeEntries (x y : List ExpEntry) : List ExpEntry :=
  y.foldl (fun (l : List ExpEntry) e =>
    if l.any (fun f => f.tenant == e.tenant) then
      l.map (fun f => if f.tenant = e.tenant then { f with classes := f.classes ||| e.classes, efirst := min f.efirst e.efirst, elast := max f.elast e.elast, count := saturate 32 (f.count + e.count) } else f)
    else l ++ [e]) x

/-- Two windows of one tile together (R134). -/
def ExpWindow.merge (x y : ExpWindow) : ExpWindow :=
  { gt0 := min x.gt0 y.gt0, gt1 := max x.gt1 y.gt1, cover := x.cover ||| y.cover, ovf := x.ovf || y.ovf, entries := mergeEntries x.entries y.entries }

/-- Epochs of a tenant that overlap a GT window, as an entry; used where the list overflowed (R134). -/
def State.epochsDuring (s : State) (t gt0 gt1 : Nat) : List ExpEntry :=
  let l := ((s.ep t).recs.filter (fun r => r.type == 2 && decide (r.gtOpen ≤ gt1 ∧ gt0 ≤ r.gtClose))).map (·.e1)
  let l := if (s.ep t).gtOpen ≤ gt1 then l ++ [s.get Reg.TEN_EP_STATUS_OPEN t] else l
  match l with
  | [] => []
  | e :: rest => [{ tenant := t, classes := 0x1F, efirst := rest.foldl min e, elast := rest.foldl max e, count := 0 }]

/-- A rollback request goes to the runtime with the L1 reaction of its source, or waits for it (R110, R134, R299). -/
def State.rollbackWith (s : State) (src : Nat) (n : Nat × Nat × Nat × Nat) : State :=
  match s.reactions.find? (fun r => r.src == src && r.unack) with
  | some r => if r.ended then s.notify n else s.setReact { r with extra := r.extra ++ [n] }
  | none => { s with flt := { s.flt with awaited := s.flt.awaited ++ [(src, n)] } }

/-- What one tenant's merged range calls for (R134, R299): a recall of its sealed epochs, and a rollback where its open epoch or a sealed one lies within. -/
def State.exposeTenant (s : State) (src : Nat) (e : ExpEntry) : State :=
  let open_ := s.get Reg.TEN_EP_STATUS_OPEN e.tenant
  let (rid, s') := s.takeRid
  let (s'', first) := s'.recallEpochs e.tenant (((s.lastSealed e.tenant).map (epochRange e.efirst ∘ min e.elast)).getD []) s.cfg.ordinal rid 0 none
  match first with
  | some f => s''.rollbackWith src (rollbackFrom e.tenant f)
  | none => if e.efirst ≤ open_ ∧ open_ ≤ e.elast then s.rollbackWith src (2, e.tenant, 0, 0) else s

/-- The tenants that held shelfmarks of a region at some time of a window (R134). -/
def State.tenantsDuring (s : State) (r gt0 gt1 : Nat) : List Nat :=
  ((s.colo.stays.filter (fun (e : Nat × Nat × Nat × Option Nat) =>
    e.1 == r && decide (e.2.2.1 ≤ gt1) && e.2.2.2.all (fun g => decide (gt0 ≤ g)))).map (·.2.1)).eraseDups

/-- EXP_REPORT (R112, R134, R299): parts are collected; the whole is merged with the tile's other window, recalls are issued and rollbacks requested. -/
def execExpReport (region gt0 gt1 x y cover : Nat) (ovf : Bool) (seq : Nat) (last : Bool) (cause : Nat) (entries : List Flit) (s : State) :
    Host.Outcome State Fault Refusal :=
  let s := s.recv (msgExpReport region gt0 gt1 x y cover ovf seq last cause entries)
  let key := x + 2048 * y
  let got := entries.map (fun (f : Flit) => let w := f.toNat
    ({ tenant := bits w 0 12, classes := bits w 12 5, efirst := bits w 32 32, elast := bits w 64 32, count := bits w 96 32 } : ExpEntry))
  let all := (if seq = 0 then [] else tgetD [] key s.colo.parts) ++ got
  if last = false then .next { s with colo := { s.colo with parts := tput key all s.colo.parts } }
  else
    let w : ExpWindow := { gt0 := gt0, gt1 := gt1, cover := cover, ovf := ovf, entries := all }
    let w := match tget key s.colo.windows with | some o => o.merge w | none => w
    let s := { s with colo := { s.colo with parts := tdel key s.colo.parts, windows := tput key w s.colo.windows } }
    let src := probeSrc ((y / 33) * s.cfg.w + x / 32) (tileAt (y % 33) (x % 32))
    let more := if w.ovf then (s.tenantsDuring region w.gt0 w.gt1).flatMap (fun t => s.epochsDuring t w.gt0 w.gt1) else []
    .next ((mergeEntries w.entries more).foldl (fun s e => s.exposeTenant src e) s)

end Sys2Proof.Machine
end

