-- ==== Sys2Proof/Machine/LedgerOps.lean ====
section
/-! DEFINITION. Operations of the Ledger front end (R396–R406): programming the write buffer, closing and sealing pages, erases, clears and
recovery at power-up. -/

namespace Sys2Proof.Machine

/-- Source ID of the Ledger front end (R392). -/
def ledgerSrc : Nat := kilnSrc 0x1F 2

/-! ## The flash -/

/-- The page of a slot, empty where nothing is listed. -/
def Ledger.pageAt (l : Ledger) (k : Nat) : Page := tgetD {} k l.flash

/-- Flash address of record `i` of a slot, and of its trailer (R400). -/
def slotAddr (k i : Nat) : Nat := 0x100000 + 0x10000 * (k / 7) + 0x2000 * (k % 7) + 32 * i
/-- Address of a slot's trailer. -/
def trailerAddr (k : Nat) : Nat := 0x100000 + 0x10000 * (k / 7) + 0xE000 + 0x100 * (k % 7)

/-- The block of the ring after a block, skipping those whose erase failed (R400, R408). -/
def Ledger.nextBlock (l : Ledger) (b : Nat) : Nat :=
  ((List.range l.blocks).map (fun i => (b + 1 + i) % max 1 l.blocks)).find? (fun n => !l.failed.contains n) |>.getD b

/-- The slot that follows in the ring (R400). -/
def Ledger.nextSlot (l : Ledger) (k : Nat) : Nat := if k % 7 < 6 then k + 1 else 7 * l.nextBlock (k / 7)

/-- Pages of a block that are listed. -/
def Ledger.pagesOf (l : Ledger) (b : Nat) : List Page := (l.flash.filter (fun e => e.1 / 7 == b)).map (·.2)

/-- Numbers of the closed pages of a list. -/
def pageNumbers (l : List Page) : List Nat := l.filterMap (fun p => p.trailer.map (·.pagenum))

/-- The oldest page left in the flash; 0 where there is none (R406, R410). -/
def Ledger.oldestPage (l : Ledger) : Nat :=
  match pageNumbers (l.flash.map (·.2)) with
  | [] => 0
  | x :: rest => rest.foldl min x

/-- The slot that holds a closed page. -/
def Ledger.find (l : Ledger) (n : Nat) : Option Page := (l.flash.find? (fun e => (e.2.trailer.map (·.pagenum)) == some n)).map (·.2)

/-- Records of the buffer that may be programmed: the newest waits while it is an open fold (R396). -/
def Ledger.ready (l : Ledger) : Nat := if l.foldOpen ∧ l.stage = [] then l.buf.length - 1 else l.buf.length

/-! ## Trailers and seals (R401, R402) -/

/-- FLAGS of a trailer (R401). -/
def Trailer.flags (t : Trailer) : Nat :=
  flag t.early + 2 * flag t.recovered + 4 * flag t.unsealed + 8 * flag t.salt0 + 16 * flag t.flserr

/-- Trailer bytes 0–63 as a number (R401). -/
def Trailer.head (t : Trailer) : Nat :=
  pack [(0, 16, 0x0307), (16, 16, t.nrec), (32, 32, t.pagenum), (64, 32, t.prevpage), (96, 16, t.flags), (112, 16, t.cleargen), (128, 80, t.tfirst),
    (208, 80, t.tlast), (320, 128, t.prev), (448, 64, t.devid)]

/-- The 256 bytes of a trailer; erased bytes read 0xFF. -/
def Trailer.bytes (t : Trailer) : List Nat := leBytes 64 t.head ++ leBytes 16 t.sealMac ++ List.replicate 176 0xFF

/-- The 8 KiB record area of a page; unused slots read 0xFF (R401). -/
def Page.bytes (p : Page) : List Nat := p.recs.flatMap (leBytes 32) ++ List.replicate (8192 - 32 * p.recs.length) 0xFF

/-- Bytes 0–7 of the DEVID as a number (R350, R401). -/
def State.devidHead (s : State) : Nat := leOfBE 8 (s.get Reg.VLT_DEVID_DEVID 0 / 2 ^ 64)

/-- The trailer of the page in a slot, without its seal (R401). -/
def State.makeTrailer (s : State) (k : Nat) (early recovered flserr isUnsealed : Bool) : Trailer :=
  let p := s.ldg.pageAt k
  let time := fun (o : Option Nat) => (o.map (fun w => bits w 56 76)).getD 0
  { nrec := p.recs.length, pagenum := s.ldg.page, prevpage := s.ldg.sealedPage, early := early, recovered := recovered, unsealed := isUnsealed,
    salt0 := s.vault.st == .unprovisioned && !isUnsealed, flserr := flserr, cleargen := s.ldg.cleargen, tfirst := time p.recs.head?, tlast := time p.recs.getLast?,
    prev := s.ldg.sealMac, devid := s.devidHead }

/-- The trailer of a page with its seal, or unsealed where the Vault refuses (R402, R403). -/
def State.sealPage (s : State) (k : Nat) (early recovered flserr : Bool) : Trailer × State :=
  if s.vaultServes then
    let t := s.makeTrailer k early recovered flserr false
    let (m, s) := s.tagOf "GL3-LDG" hLedger (leBytes 64 t.head ++ (s.ldg.pageAt k).bytes)
    ({ t with sealMac := m }, s.set Reg.LDG_STATUS_UNSEALED 0 0)
  else (s.makeTrailer k early recovered flserr true, (s.raise Reg.LDG_STATUS_UNSEALED 0).raise Reg.LDG_EVENT_UNSEALED 0)

/-- A page's trailer is in the flash: the next page follows in the next slot (R401). -/
def Ledger.pageClosed (l : Ledger) (t : Trailer) : Ledger :=
  let k := l.slot
  let l := { l with flash := tput k { l.pageAt k with trailer := some t } l.flash, slot := l.nextSlot k, page := wrap 32 (l.page + 1), closing := none, trailer := none }
  let l := if t.unsealed then l else { l with sealedPage := t.pagenum, sealMac := t.sealMac }
  { l with oldest := l.oldestPage, erased := l.erased.filter (· != l.slot / 7) }

/-- The page closes, with the event (R472). -/
def State.pageDone (s : State) (t : Trailer) : State := ({ s with ldg := s.ldg.pageClosed t }).event 15

/-- The trailer of the page that closes is programmed (R401). -/
def State.programTrailer (s : State) (t : Trailer) : State :=
  ({ s with ldg := { s.ldg with trailer := some t, op := .programming 0 false } }).emit (.flsProgram (trailerAddr s.ldg.slot) t.bytes)

/-- The Vault has answered for the page that closes, or refuses it (R402, R403). -/
def State.finishClose (s : State) : State :=
  match s.ldg.closing with
  | none => s
  | some (early, recovered, flserr) =>
    if s.ldg.trailer.isSome then s
    else
      let (t, s) := s.sealPage s.ldg.slot early recovered flserr
      s.programTrailer t

/-- The front end asks for the seal of the page that closes; where the Vault refuses, the page closes unsealed (R402, R403). -/
def State.askSeal (s : State) : State :=
  if s.ldg.closing.isNone ∨ s.ldg.trailer.isSome then s
  else if s.vaultServes = false then s.finishClose
  else if s.vault.asked (.hmacLedger s.ldg.page) then s
  else s.vaultAsk (.hmacLedger s.ldg.page)

/-- The open page closes (R401). -/
def State.closePage (s : State) (early flserr : Bool) : State :=
  { s with ldg := { s.ldg with closing := some (early, false, flserr) } }.askSeal

/-! ## Programming and erasing (R396–R400, R406) -/

/-- An erase of a block begins; one that still holds closed pages is named in a WRAP record, unless a clear erases it (R400). -/
def State.startErase (s : State) (b : Nat) (clear : Bool) : State :=
  let nums := pageNumbers (s.ldg.pagesOf b)
  let s := { s with ldg := { s.ldg with op := .erasing b } }.emit (.flsErase b)
  match nums with
  | [] => s
  | x :: rest =>
    if clear then s
    else
      let s := (s.recordOf 0x1006 ledgerSrc (rest.foldl min x) (rest.foldl max x) 0).raise Reg.LDG_EVENT_WRAP 0
      { s with ldg := { s.ldg with wrapped := true } }

/-- The open page's slot still holds a closed page: its block has yet to be erased, its erase having failed in an earlier power cycle (R408). -/
def Ledger.stale (l : Ledger) : Bool := l.closing.isNone && (l.pageAt l.slot).trailer.isSome

/-- The block after the one being written must be erased (R400), after the one to be written where that still holds old pages. -/
def Ledger.eraseNeeded (l : Ledger) : Option Nat :=
  let n := l.nextBlock (l.slot / 7)
  if l.stale then some (l.slot / 7)
  else if n = l.slot / 7 ∨ l.erased.contains n then none
  else if (l.pageAt l.slot).recs = [] ∧ l.slot % 7 = 0 ∧ l.ready = 0 then none
  else some n

/-- The flash controller takes its next work, where it is idle: a repeated erase, the close of a full page, an erase of the next block, records, the page
that a flush closes, a clear's next erase. -/
def State.pumpLedger (s : State) : State :=
  let l := s.ldg
  if l.op ≠ .idle ∨ l.blocks = 0 ∨ l.closing.isSome ∨ s.pwr.flush.isSome then s
  else
    match l.eraseAgain with
    | some b => ({ s with ldg := { s.ldg with eraseAgain := none } }).startErase b true
    | none =>
      let used := (l.pageAt l.slot).recs.length
      if 256 ≤ used ∧ l.stale = false then s.closePage false false
      else match l.eraseNeeded with
        | some b => s.startErase b false
        | none =>
          let n := min (min l.ready (8 - used % 8)) (256 - used)
          if 0 < n then
            { s with ldg := { s.ldg with op := .programming n false } }.emit (.flsProgram (slotAddr l.slot used) ((l.buf.take n).flatMap (fun (r : LedgerRec) => leBytes 32 r.word)))
          else if l.flushing ∧ l.buf = [] ∧ l.stage = [] then
            (if used = 0 then { s with ldg := { s.ldg with flushing := false } }.set Reg.LDG_CTRL_FLUSH 0 0 else s.closePage true false)
          else match l.clearLeft with
            | b :: _ => s.startErase b true
            | [] => s

/-- A flush begins (R396, R401): the fold closes. -/
def State.flushLedger (s : State) : State :=
  ({ s with ldg := { s.ldg with foldOpen := false, flushing := true } }.raise Reg.LDG_CTRL_FLUSH 0).pumpLedger

/-- FLS_ERR against the front end (R408). -/
def State.flashError (s : State) (addr : Nat) : State := ((s.kilnFault 0x1F 2 0x602 0 (wrap 26 addr)).raise Reg.LDG_EVENT_FLSERR 0)

/-- Records programmed leave the buffer, and the staging queue moves up (R397). -/
def Ledger.programmed (l : Ledger) (n : Nat) : Ledger :=
  let p := l.pageAt l.slot
  ({ l with flash := tput l.slot { p with recs := p.recs ++ (l.buf.take n).map LedgerRec.word } l.flash, buf := l.buf.drop n, op := .idle,
            erased := l.erased.filter (· != l.slot / 7) }).move

/-- A block whose erase failed is skipped, and the next is erased (R408). -/
def Ledger.eraseFailed (l : Ledger) (b : Nat) : Ledger :=
  let left := l.clearLeft.filter (· != b)
  let l := { l with op := .idle, failed := l.failed ++ [b], clearLeft := left, clearing := if left = [] then none else l.clearing }
  if l.stale ∧ l.slot / 7 = b then { l with slot := 7 * l.nextBlock b } else l

/-- A block has been erased (R400, R406). -/
def Ledger.blockErased (l : Ledger) (b : Nat) : Ledger :=
  let l := { l with flash := l.flash.filter (fun e => e.1 / 7 != b), erased := if l.erased.contains b then l.erased else l.erased ++ [b], op := .idle }
  let left := l.clearLeft.filter (· != b)
  { l with clearLeft := left, clearing := if left = [] then none else l.clearing, oldest := l.oldestPage }

/-! ## Clearing (R406) -/

/-- The blocks that a clear erases, in ring order from the oldest: closed pages only, none above ARCHIVED, not the open page's. -/
def Ledger.clearBlocks (l : Ledger) (archived : Nat) : List Nat :=
  ((List.range l.blocks).map (fun i => (l.slot / 7 + 1 + i) % max 1 l.blocks)).filter (fun b =>
    b != l.slot / 7 && l.pagesOf b != [] && (l.pagesOf b).all (fun p => match p.trailer with | some t => decide (t.pagenum ≤ archived) | none => false))

/-- A clear (R406): the CLEAR record, CLEARGEN, and the erases to do; none while another runs. -/
def State.ledgerClear (s : State) (archived keyid : Nat) : Option State :=
  if s.ldg.clearing.isSome then none
  else
    let blocks := s.ldg.clearBlocks archived
    let left := (s.ldg.flash.filter (fun e => !blocks.contains (e.1 / 7))).map (·.2)
    let newOldest := match pageNumbers left with | [] => s.ldg.page | x :: rest => rest.foldl min x
    let s := s.recordOf 0x1001 ledgerSrc archived newOldest (keyid + 4 * blocks.length)
    some (({ s with ldg := { s.ldg with foldOpen := false, cleargen := wrap 16 (s.ldg.cleargen + 1), clearLeft := blocks,
                                        clearing := if blocks = [] then none else some archived } }.raise Reg.LDG_EVENT_CLEARED 0).pumpLedger)

/-! ## Loss of power, and recovery (R404, R405) -/

/-- Records go straight into the open page and on into the slots after it, as the loss flush programs them (R404). -/
def Ledger.burn : List LedgerRec → Ledger → Ledger
  | [], l => l
  | r :: rest, l =>
    let p := l.pageAt l.slot
    if p.recs.length < 256 then Ledger.burn rest { l with flash := tput l.slot { p with recs := p.recs ++ [r.word] } l.flash }
    else
      let k := l.nextSlot l.slot
      Ledger.burn rest { l with slot := k, page := wrap 32 (l.page + 1), flash := tput k { recs := [r.word] } l.flash }

/-- The Ledger part of the loss flush (R404): the buffer and the POWERLOSS record are programmed, staging and a readback are lost, an erase is noted to be
repeated, and the open page is recorded. Without a flash nothing is programmed. -/
def Ledger.lossFlush (l : Ledger) (r : LedgerRec) : Ledger :=
  let again := match l.op with | .erasing b => some b | _ => l.eraseAgain
  let l := { l with stage := [], foldOpen := false, op := .idle, eraseAgain := again, closing := none, trailer := none, reading := none, flushing := false,
                    lost0 := 0, lost1 := 0, depth := 0 }
  let first := l.page
  let k0 := l.slot
  let l := if l.blocks = 0 then l else Ledger.burn (l.buf ++ [r]) l
  { l with buf := if l.blocks = 0 then l.buf else [], slot := k0, page := first, savedOpen := true }

/-- The open page after a scan of every trailer (R405): the slot that follows the highest PAGENUM. -/
def Ledger.scan (l : Ledger) : Ledger :=
  let all := l.flash.filterMap (fun e => e.2.trailer.map (fun t => (e.1, t)))
  let top := all.foldl (fun (m : Option (Nat × Trailer)) e => match m with | some x => if x.2.pagenum < e.2.pagenum then some e else m | none => some e) none
  let sealed_ := (all.filter (fun e => !e.2.unsealed)).foldl (fun (m : Option (Nat × Trailer)) e => match m with | some x => if x.2.pagenum < e.2.pagenum then some e else m | none => some e) none
  match top with
  | none => { l with slot := 0, page := 1, sealedPage := 0, sealMac := 0 }
  | some (k, t) => { l with slot := l.nextSlot k, page := wrap 32 (t.pagenum + 1), sealedPage := (sealed_.map (·.2.pagenum)).getD 0, sealMac := (sealed_.map (·.2.sealMac)).getD 0,
                            cleargen := max l.cleargen t.cleargen }

/-- Pages found open are closed as RECOVERED, in page order: how many (R405). At most two are open after a flush. -/
def State.closeRecovered (s : State) : Nat → Nat × State
  | 0 => (0, s)
  | fuel + 1 =>
    let p := s.ldg.pageAt s.ldg.slot
    if p.recs = [] ∨ p.trailer.isSome then (0, s)
    else
      let (t, s) := s.sealPage s.ldg.slot (decide (p.recs.length < 256)) true false
      let s := ((s.pageDone t).emit (.flsProgram (trailerAddr s.ldg.slot) t.bytes)).raise Reg.LDG_EVENT_RECOVERED 0
      let (n, s) := State.closeRecovered s fuel
      (n + 1, s)

/-- The loss flush begins: the erase in progress is suspended, to be repeated, and nothing else of the Kiln's work on the flash goes on (R404). -/
def Ledger.lossBegins (l : Ledger) : Ledger :=
  let again := match l.op with | .erasing b => some b | _ => l.eraseAgain
  { l with op := .idle, eraseAgain := again, closing := none, trailer := none, reading := none, flushing := false }

/-- What of the Ledger the banked domain and the flash keep while the VDD side is in reset (R31, R446); a block whose erase failed was skipped for the power
cycle that ends (R408). -/
def Ledger.banked (l : Ledger) : Ledger :=
  { l with stage := [], foldOpen := false, lost0 := 0, lost1 := 0, depth := 0, closing := none, trailer := none, reading := none, flushing := false, failed := [] }

/-- The newest trailer of the flash. -/
def Ledger.newestTrailer (l : Ledger) : Option Trailer :=
  (l.flash.filterMap (fun e => e.2.trailer)).foldl (fun (m : Option Trailer) t => match m with | some x => if x.pagenum < t.pagenum then some t else m | none => some t) none

/-- After a cold start the Kiln loads the power-cycle count and the operating seconds from the newest trailer, each plus 1, and writes COLDSTART (R452). -/
def State.coldRestore (s : State) : State :=
  let t := (s.ldg.newestTrailer.map (·.tlast)).getD 0
  let c := wrap 24 (bits t 52 24 + 1)
  let n := wrap 32 (bits t 20 32 + 1)
  ({ s with pwr := { s.pwr with cycles := c, secs := n, cold := false } }).bankedRecord 0x1207 c n 0

/-- Recovery at power-up (R405): the open page is found and closed, and POWERUP is written. -/
def State.recoverLedger (s : State) : State :=
  let s := if s.ldg.savedOpen ∧ s.ldg.page ≠ 0 then s else { s with ldg := s.ldg.scan }
  let s := { s with ldg := { s.ldg with savedOpen := false } }
  let (n, s) := s.closeRecovered 3
  ({ s with ldg := { s.ldg with oldest := s.ldg.oldestPage } }.recordOf 0x1003 ledgerSrc (s.get Reg.KILN_ID_VERSION 0) n 0).pumpLedger

end Sys2Proof.Machine
end

