-- ==== Sys2Proof/Machine/LedgerUnit.lean ====
section
/-! DEFINITION. The meanings of the commands of the Ledger (R391–R411). -/

namespace Sys2Proof.Machine

/-- LEDGER_REFILL (R394, R395): each entry of a hub gains a token; LG_SUPP goes for those with suppressed messages. -/
def execLedgerRefill (region : Nat) (s : State) : Host.Outcome State Fault Refusal :=
  let h := s.hub region
  let (lg, reports) := h.lg.refill (s.burst region)
  .next ((s.setHub region { h with lg := lg }).sendAll (reports.map (fun e => msgLgSupp region e.1 e.2.1 e.2.2.1 e.2.2.2)))

/-- LG_SUPP (R395): the SUPPRESSED record. -/
def execLgSupp (region kind count src gt : Nat) (s : State) : Host.Outcome State Fault Refusal :=
  .next ((s.recv (msgLgSupp region kind count src gt)).recordOf 0x1004 src kind count (wrap 32 gt))

/-- FOLD_TIMEOUT (R396): an open fold closes 1 s after its first occurrence. -/
def execFoldTimeout (s : State) : Host.Outcome State Fault Refusal :=
  .next ({ s with ldg := { s.ldg with foldOpen := false } }.pumpLedger)

/-- FLASH_PROGRAM_DONE (R401, R408): records leave the buffer, or the page closes; a first failure is retried in the same slot, and a second closes the page
EARLY. -/
def execFlashProgramDone (ok : Bool) (s : State) : Host.Outcome State Fault Refusal :=
  match s.ldg.op with
  | .programming n retry =>
    if ok then
      match s.ldg.trailer with
      | some t =>
        let s := s.pageDone t
        .next ({ s with ldg := { s.ldg with op := .idle } }.pumpLedger)
      | none => .next ({ s with ldg := s.ldg.programmed n }.lostRecord.pumpLedger)
    else if retry = false then
      let used := (s.ldg.pageAt s.ldg.slot).recs.length
      let again : Pulse := match s.ldg.trailer with
        | some t => .flsProgram (trailerAddr s.ldg.slot) t.bytes
        | none => .flsProgram (slotAddr s.ldg.slot used) ((s.ldg.buf.take n).flatMap (fun (r : LedgerRec) => leBytes 32 r.word))
      .next (({ s with ldg := { s.ldg with op := .programming n true } }).emit again)
    else match s.ldg.trailer with
      | some _ =>
        let s := s.flashError (trailerAddr s.ldg.slot)
        let l := s.ldg
        .next ({ s with ldg := { l with op := .idle, trailer := none, closing := none, slot := l.nextSlot l.slot, page := wrap 32 (l.page + 1) } }.pumpLedger)
      | none =>
        let s := s.flashError (slotAddr s.ldg.slot (s.ldg.pageAt s.ldg.slot).recs.length)
        .next ({ s with ldg := { s.ldg with op := .idle } }.closePage true true)
  | _ => .next s

/-- FLASH_ERASE_DONE (R400, R406, R408): the block is ready; one whose erase fails is skipped, and the next is erased. -/
def execFlashEraseDone (ok : Bool) (s : State) : Host.Outcome State Fault Refusal :=
  match s.ldg.op with
  | .erasing b =>
    if ok then .next ({ s with ldg := s.ldg.blockErased b }.pumpLedger)
    else
      let s := s.flashError (slotAddr (7 * b) 0)
      .next ({ s with ldg := s.ldg.eraseFailed b }.pumpLedger)
  | _ => .next s

/-- LEDGER_FLUSH (R401). -/
def execLedgerFlush (ten tag : Nat) (s : State) : Host.Outcome State Fault Refusal :=
  .next (s.hostWrite ten tag 0x200010 none true State.flushLedger)

/-- A write of `LDG_RDPAGE` (R407): the page goes into the read buffer as the flash holds it now, and a clear does not change it (R408). -/
def State.readPageWrite (s : State) (page : Nat) (verify : Bool) : State :=
  if s.on Reg.LDG_RDST_BUSY 0 then s.raise Reg.LDG_RDST_DROPPED 0
  else
    { s with ldg := { s.ldg with reading := some (s.ldg.find (wrap 32 page), verify) } }.setAll 0
      [(Reg.LDG_RDPAGE_PAGENUM, page), (Reg.LDG_RDPAGE_VERIFY, flag verify), (Reg.LDG_RDST_BUSY, 1)]

/-- LEDGER_READ_PAGE (R407). -/
def execLedgerReadPage (page : Nat) (verify : Bool) (ten tag : Nat) (s : State) : Host.Outcome State Fault Refusal :=
  .next (s.hostWrite ten tag 0x200020 none true (fun s => s.readPageWrite page verify))

/-- The seal of a page read back, recomputed (R407): 1 valid, 2 invalid, 3 page UNSEALED, 0 where the Vault refuses. -/
def State.sealCheck (s : State) (p : Page) (t : Trailer) : Nat × State :=
  if t.unsealed then (3, s)
  else if s.vaultServes = false then (0, s)
  else
    let (m, s) := s.tagOf "GL3-LDG" hLedger (leBytes 64 t.head ++ p.bytes)
    if m = t.sealMac then (1, s) else (2, s.raise Reg.LDG_EVENT_VERIFYFAIL 0)

/-- LEDGER_READ_DONE (R407): the read buffer holds the page, and LDG_RDST reports. `error` says that the flash failed. -/
def execLedgerReadDone (error : Bool) (s : State) : Host.Outcome State Fault Refusal :=
  match s.ldg.reading with
  | none => .next s
  | some (found, verify) =>
    let s := { s with ldg := { s.ldg with reading := none } }.set Reg.LDG_RDST_BUSY 0 0
    if error then .next (s.setAll 0 [(Reg.LDG_RDST_RESULT, 2), (Reg.LDG_RDST_SEALCHK, 0)])
    else match found with
      | none => .next (s.setAll 0 [(Reg.LDG_RDST_RESULT, 1), (Reg.LDG_RDST_SEALCHK, 0)])
      | some p =>
        match p.trailer with
        | none => .next (s.setAll 0 [(Reg.LDG_RDST_RESULT, 1), (Reg.LDG_RDST_SEALCHK, 0)])
        | some t =>
          let (chk, s) := if verify then s.sealCheck p t else (0, s)
          let buf := writeBytes [] 0x1000 ((p.bytes ++ t.bytes).map (BitVec.ofNat 8))
          .next ({ s with pageBuf := buf }.setAll 0 [(Reg.LDG_RDST_RESULT, 0), (Reg.LDG_RDST_SEALCHK, chk)])

/-- A write of `LDG_APPEND` (R407). -/
def State.appendWrite (s : State) (code : Nat) : State :=
  let s := s.set Reg.LDG_APPEND_CODE 0 code
  if wrap 16 code < 0xF000 then s.raise Reg.LDG_EVENT_APPENDBAD 0
  else s.record { code := wrap 16 code, annot := true, src := kilnSrc 0x1F 0, time := s.ledgerTime, p0 := s.get Reg.LDG_AP0_P 0, p1 := s.get Reg.LDG_AP1_P 0,
                  p2 := s.get Reg.LDG_AP2_P 0 }

/-- LEDGER_APPEND (R407). -/
def execLedgerAppend (code ten tag : Nat) (s : State) : Host.Outcome State Fault Refusal :=
  .next (s.hostWrite ten tag 0x200030 none true (fun s => s.appendWrite code))

/-- LEDGER_RECOVERY (R399, R405): the flash has been found through its SFDP table, and the front end recovers once the Vault has left SELFTEST. A device that
falls short refuses bring-up, which otherwise may go on to READY (R422). -/
def execLedgerRecovery (sizeMib : Nat) (meets : Bool) (s : State) : Host.Outcome State Fault Refusal :=
  if s.vault.st = .off ∨ s.vault.st = .selftest then .next s
  else
    let s := s.setAll 0 [(Reg.LDG_FLASH_SIZEMIB, sizeMib), (Reg.LDG_FLASH_OK, flag meets)]
    let s := { s with ldg := { s.ldg with blocks := (sizeMib - 1) * 16 }, bru := { s.bru with ledgerDone := true } }
    let s := s.recoverLedger
    let s := if s.pwr.cold then s.coldRestore else s
    .next (if meets = false ∧ s.bru.inBringUp then s.bruRefuse 0x40 0 else s.qualCheck)

end Sys2Proof.Machine
end

