-- ==== Sys2Proof/Machine/Debug.lean ====
section
/-! DEFINITION. The meanings of the commands of counters, trace and global stop (R465–R485). A command that is the write of one field writes the
register's other fields with the values they hold. -/

namespace Sys2Proof.Machine

/-! ## Global stop -/

/-- GSTOP_WRITE (R473): a write of 1 to `DBG_GSCTRL.STOP` is source 0. -/
def execGstopWrite (ten tag : Nat) (s : State) : Host.Outcome State Fault Refusal :=
  .next (s.hostWrite ten tag 0x204000 none true (fun s => s.stopRaise 0 0))

/-- GSTOP_RELEASE (R476): a write of 1 to `DBG_GSCTRL.RELEASE`. -/
def execGstopRelease (ten tag : Nat) (s : State) : Host.Outcome State Fault Refusal :=
  .next (s.hostWrite ten tag 0x204000 none true (fun s => s.stopRelease))

/-- STOP_IN_CHANGE (R472, R473, R476): the synchronised DBG_STOP_IN takes a level. -/
def execStopInChange (level : Bool) (s : State) : Host.Outcome State Fault Refusal :=
  .next ((s.set Reg.DBG_GSSTATUS_PIN 0 (flag level)).stopPin)

/-- GSTOP_SETTLE (R475): 1,024 HCLK into a stop, SETTLED becomes 1. -/
def execGstopSettle (s : State) : Host.Outcome State Fault Refusal :=
  .next (if s.stopped then s.set Reg.DBG_GSSTATUS_SETTLED 0 1 else s)

/-! ## Trace -/

/-- Unsent records that leave in one TR_REC (R468, R469): a DIGEST pair together, any other record alone. -/
def takeTrace (l : List Flit) : List Flit :=
  match l with
  | [] => []
  | x :: rest => if bits x.toNat 0 4 = 8 then x :: rest.take 1 else [x]

/-- Records enter a hub's ring; a pair enters whole or not at all (R468, R470). -/
def State.traceArrive (s : State) (r : Nat) (l : List Flit) : State :=
  if (s.hub r).tr.recs.length + l.length ≤ 4096 then l.foldl (fun (s : State) (x : Flit) => s.traceStore r x.toNat) s else s.traceDrop r l.length

/-- TR_REC (R469, R470): a probe's oldest unsent records leave it, with the number it has dropped, and its hub stores them. -/
def execTrRec (region tile : Nat) (s : State) : Host.Outcome State Fault Refusal :=
  let p := s.probe region tile
  let l := takeTrace p.traceOut
  if l = [] then .next s
  else
    let drops := saturate 16 p.traceDrops
    let s := s.setProbe region tile { p with traceOut := p.traceOut.drop l.length, traceDrops := p.traceDrops - drops }
    .next ((s.traceDrop region drops).traceArrive region l)

/-- TRACE_MARK (R468, R470): every 2^20 HCLK a hub whose trace is enabled writes a MARK; region 0x7FF is the Kiln's ring. -/
def execTraceMark (region : Nat) (s : State) : Host.Outcome State Fault Refusal :=
  if region = kilnRegion then .next (s.kilnTrace (traceHead 0 0 s.gt + pack [(48, 64, s.gt), (112, 11, kilnRegion)]))
  else if bit (s.get Reg.RH_TR_CTRL_CLASSEN region) 0 then .next (s.traceMark region)
  else .next s

/-- TR_LEVEL (R471): the hub joins those whose cut waits, in order of arrival. -/
def execTrLevel (region held : Nat) (s : State) : Host.Outcome State Fault Refusal :=
  .next ((s.recv (msgTrLevel region held)).wantCut region)

/-- TR_CUT (R471): the hub answers with its run, every record it holds, and writes a MARK after it. -/
def execTrCut (region : Nat) (s : State) : Host.Outcome State Fault Refusal :=
  let s := s.recv (msgTrCut region)
  let t := (s.hub region).tr
  let n := t.recs.length
  .next ((s.send (msgTrRun region (wrap 12 (t.head + 4096 - n % 4096)) n)).traceMark region)

/-- TR_RUN (R471): channel 2 copies the run once the ring has room for it. -/
def execTrRun (region first count : Nat) (s : State) : Host.Outcome State Fault Refusal :=
  let s := s.recv (msgTrRun region first count)
  if s.dbg.cutting = some region ∧ s.dbg.run = none then
    .next ({ s with dbg := { s.dbg with run := some (region, wrap 12 first, wrap 13 count) } }.pumpTrace)
  else .next s

/-- TR_FREE (R471): the hub frees the run's records. -/
def execTrFree (region count : Nat) (s : State) : Host.Outcome State Fault Refusal :=
  .next ((s.recv (msgTrFree region count)).modTr region (fun t => { t with recs := t.recs.drop (wrap 13 count) }))

/-- TRACE_DRAIN (R471): a write of 1 to `DBG_TRCTRL.DRAIN` wants a run of every hub. -/
def execTraceDrain (ten tag : Nat) (s : State) : Host.Outcome State Fault Refusal :=
  .next (s.hostWrite ten tag 0x204044 none true (fun s => s.liveRegions.foldl (fun s r => s.wantCut r) s))

/-- The drain is enabled, unless the ring does not lie inside a writable window (R471). -/
def State.enableDrain (s : State) : State :=
  let (base, size) := s.traceRing
  if s.writable base (16 * size) then ((s.setAll 0 [(Reg.DBG_TRCTRL_EN, 1), (Reg.DBG_TRSTATUS_BADRING, 0)]).nextCut).pumpTrace
  else ((s.setAll 0 [(Reg.DBG_TRCTRL_EN, 0), (Reg.DBG_TRSTATUS_BADRING, 1)]).raise Reg.DBG_EVENT_BADRING 0)

/-- TRACE_ENABLE (R471): a write of 1 to `DBG_TRCTRL.EN`, with TPEN. -/
def execTraceEnable (tpen : Bool) (ten tag : Nat) (s : State) : Host.Outcome State Fault Refusal :=
  .next (s.hostWrite ten tag 0x204044 none true (fun s => (s.set Reg.DBG_TRCTRL_TPEN 0 (flag tpen)).enableDrain))

/-- DBG_TRTAIL_WRITE (R471): the runtime advances the tail, and a run that waits for room is looked at again. -/
def execDbgTrtailWrite (offset ten tag : Nat) (s : State) : Host.Outcome State Fault Refusal :=
  .next (s.hostWrite ten tag 0x204040 none true (fun s => (s.set Reg.DBG_TRTAIL_OFFSET 0 offset).pumpTrace))

/-- UNLOCK_EXPIRY (R477): the unlock's time has run out. -/
def execUnlockExpiry (s : State) : Host.Outcome State Fault Refusal := .next (s.unlockEnd 0)

end Sys2Proof.Machine
end

