-- ==== Sys2Proof/Machine/FaultColl.lean ====
section
/-! DEFINITION. The commands of fault collection (R196–R219) but the fence orders: messages on the RFI, classification at a hub,
registration and reaction at the Kiln, acknowledgements and timers. -/

namespace Sys2Proof.Machine

/-- RFI_READY (R199): 0 only while the hub's FAULT input queue is full. -/
def State.rfiReady (s : State) (r : Nat) : Bool := decide ((s.hub r).flt.queue.length < 64)

/-- RFI_MESSAGE (R199, R200): the hub builds a host fault message, or discards it and raises RFI_PARITY. `data` is RFI_DATA. While RFI_READY is 0 nothing is
accepted. -/
def execRfiMessage (region data : Nat) (parOk : Bool) (s : State) : Host.Outcome State Fault Refusal :=
  if s.rfiReady region = false then .next s else
  let s := s.bump Reg.RH_FLT_RFICNT_COUNT region 1
  let cls := bits data 0 3
  if parOk = false ∨ cls > 4 then
    .next ((s.raise Reg.RH_FLT_EVENT_RFIPAR region).hubFault region (hubSrc region) 0x305 0 0)
  else
    let tile := bits data 8 11
    let unknown := decide (1056 ≤ tile ∧ tile ≤ 2046)
    let s := if unknown then s.raise Reg.RH_FLT_EVENT_RFIUNK region else s
    let src := sourceId region (if unknown then noTile else tile) (0x10 + cls) (bits data 3 5)
    .next (s.hubQueue region { src := src,
                               kind := 0x800 + 0x100 * cls + bits data 19 8, tenant := bits data 28 12, addr := bits data 40 48,
                               gtlo := (s.hub region).stamp src, corr := bit data 27 })

/-- Does a message come from a position that the hub holds as QUENCHED or GAP, outside a visit's and a reading's own kinds (R216)? Only tile
units are meant (assumption 22). -/
def State.fromBypassed (s : State) (r : Nat) (m : FaultMsg) : Bool :=
  decide (srcTile m.src ≠ noTile ∧ srcUnit m.src ≤ 3) && !decide (0x100 ≤ m.kind ∧ m.kind ≤ 0x2FF)
    && (((s.hub r).cat.at (srcTile m.src)).role != .service)

/-- A LOG or BKT message goes to the Kiln unless its rate limit suppresses it (R204, R394). -/
def State.forwardLimited (s : State) (r : Nat) (m : FaultMsg) : State :=
  let h := s.hub r
  let (lg, ok, ovf) := h.lg.ask (s.burst r) m.kind m.src (wrap 32 h.gt)
  let s := s.setHub r { h with lg := lg }
  let s := if ovf then s.raise Reg.RH_LG_EVENT_OVF r else s
  if ok then s.toKilnQueue r m
  else (s.raise Reg.RH_LG_EVENT_SUPP r).bump Reg.RH_LG_SUPP_COUNT r 1

/-- Count a BKT message in its bucket at a hub (R203): the state, and the level where the bucket fired. -/
def State.hubCount (s : State) (r key : Nat) (m : FaultMsg) : State × Option Nat :=
  let h := s.hub r
  let e := bucketEvent 512 key m.kind (s.bucketN m.kind m.corr) h.gt h.flt.bucketClock m.corr h.flt.buckets
  let s := s.setHub r { h with flt := { h.flt with buckets := e.table, bucketClock := h.flt.bucketClock + 1 } }
  let s := if e.evicted then (s.raise Reg.RH_FLT_EVENT_EVICT r).bump Reg.RH_FLT_EVICT_COUNT r 1 else s
  (s, if e.fired then some e.level else none)

/-- The hub classifies a message by the phase it holds (R201–R207). A bypassed position's is logged and not counted (R216). An INGRESS_TAG that another region's
hub must count is never suppressed, since its counting is not (R203, R204, assumption 143). -/
def State.classify (s : State) (r : Nat) (m : FaultMsg) : State :=
  let phase := (s.hub r).flt.phase
  let level := s.levelOf phase m.kind m.corr
  if s.fromBypassed r m then s.toKilnQueue r m
  else if level = 0 then
    let key := s.bucketKey m
    if phase = .service ∧ s.serviceClass m.kind m.corr = .bkt then
      if srcRegion key ≠ r then s.toKilnQueue r m
      else match s.hubCount r key m with
        | (s, some lv) => (s.toKilnQueue r m).hubRaiseL1 r m key 0 lv
        | (s, none) => s.forwardLimited r m
    else s.forwardLimited r m
  else if level = 1 then (s.toKilnQueue r m).hubRaiseL1 r m m.src 1 0
  else if isHostKind m.kind then
    (s.toKilnQueue r m).toKilnQueue r { m with kind := 0x309, addr := hostAddr m.kind level m.corr m.addr, gtlo := (s.hub r).stamp m.src, corr := false }
  else s.toKilnQueue r m

/-- A place in a hub's queue goes to the oldest of its own faults that wait for one (R26). -/
def HubFlt.refill (f : HubFlt) : HubFlt :=
  match f.held with
  | m :: rest => if f.queue.length < 64 then { f with queue := f.queue ++ [m], held := rest } else f
  | [] => f

/-- FAULT_CLASSIFY (R204): the hub takes the oldest message of its queue, keeps it as first capture where that is armed, and classifies it. With
an empty queue, or while a flit that it has forwarded waits for room at the Kiln (R26), nothing happens. -/
def execFaultClassify (region : Nat) (s : State) : Host.Outcome State Fault Refusal :=
  let h := s.hub region
  match h.flt.queue with
  | [] => .next s
  | m :: rest =>
    if h.flt.out ≠ [] ∨ s.kilnFull then .next s
    else
      let first := if s.on Reg.RH_FLT_FIRSTVAL_VALID region then h.flt.first else some (m, h.gt)
      let s := (s.setHub region { h with flt := HubFlt.refill { h.flt with queue := rest, first := first } }).raise Reg.RH_FLT_FIRSTVAL_VALID region
      .next ((s.traceFault region m).classify region m)

/-- BUCKET_LEAK (R203): a bucket of a hub, or of the Kiln where no region is named, loses one level. -/
def execBucketLeak (region : Option Nat) (key kind : Nat) (s : State) : Host.Outcome State Fault Refusal :=
  match region with
  | some r => .next (s.modHub r (fun h => { h with flt := { h.flt with buckets := bucketLeak key kind h.flt.buckets } }))
  | none => .next { s with flt := { s.flt with buckets := bucketLeak key kind s.flt.buckets } }

/-! ## Registration -/

/-- What a registration writes into the log beside the message (R210). -/
structure Acted where
  level : Nat := 0
  esc : Bool := false
  merged : Bool := false
  queued : Bool := false
  rid : Nat := 0
  deriving DecidableEq, Repr

/-- Kinds that are consequences of a containment Folio (R212). -/
def conseqKind (k : Nat) : Bool := k == 0x201 || k == 0x202 || k == 0x203 || k == 0x205

/-- The region that an L1 of a hub unit or hop withdraws (R213): its own, the one that HUB_LOST names, or the hub on the Kiln's spine port. -/
def State.withdrawn (s : State) (src kind addr : Nat) : Nat :=
  if srcRegion src ≠ kilnRegion then srcRegion src
  else if kind = 0x304 then bits addr 0 11
  else srcInst src * s.cfg.w + s.cfg.spine

/-- A reaction already contains a source (R212): it is the same source, another unit of the position that it quenches, or a hub unit or hop of the region that
it withdraws. -/
def State.containedBy (s : State) (r : Reaction) (src kind addr : Nat) : Bool :=
  r.src == src || (srcIsTile src && srcAt r.src (srcRegion src) (srcTile src))
    || (noticeType src kind == 5 && noticeType r.src r.kind == 5 && r.region == s.withdrawn src kind addr)

/-- The reaction that a consequence of a containment Folio merges into (R212). -/
def State.conseqTarget (s : State) (src kind addr : Nat) (m : FaultMsg) : Option Reaction :=
  let unacks := s.reactions.filter (·.unack)
  if kind = 0x201 then
    let here := (srcRegion src, bits addr 0 5)
    unacks.find? (fun r => r.quench && decide (r.folio ≠ 0) && (r.reports.contains here || r.suspects.contains here))
  else if kind = 0x205 then unacks.find? (fun r => decide (r.folio ≠ 0) && bits r.folio 0 28 == bits addr 0 28)
  else if kind = 0x202 ∨ kind = 0x203 then
    match s.flt.conseq.find? (fun e => e.msg == m) with
    | some e => unacks.find? (fun r => r.folio == e.folio && decide (e.folio ≠ 0))
    | none => none
  else none

/-- The reaction that a fault of level 1 or 2 merges into (R212): for an L1 one that contains its source (R211), for either the one whose containment Folio it is a
consequence of. -/
def State.mergeTarget (s : State) (level src kind addr : Nat) (m : FaultMsg) : Option Reaction :=
  match (if level = 1 then s.reactions.find? (fun r => r.unack && decide (r.level < 3) && s.containedBy r src kind addr) else none) with
  | some r => some r
  | none => if level ≤ 2 then s.conseqTarget src kind addr m else none

/-- Tenants of a shelfmark by its coordinates (R150). -/
def State.tenantsAt (s : State) (x y : Nat) : List Nat :=
  (s.masterOf (y / 32 * s.cfg.w + x / 32)).holdersOf (x % 32) (y % 32)

/-- Rollback and orphan notices that a consequence calls for (R150, R158, R187): ROLLBACK for each tenant of a suspect shelfmark; otherwise what the
Kiln noted when it raised the message. -/
def State.conseqNotices (s : State) (kind addr : Nat) (m : FaultMsg) : List (Nat × Nat × Nat × Nat) :=
  if kind = 0x201 then
    let x := bits addr 0 11
    let y := bits addr 11 10
    (s.tenantsAt x y).map (fun t => (2, t, x, y))
  else ((s.flt.conseq.find? (fun e => e.msg == m)).map (·.notices)).getD []

/-- The latest registered message that an L1_RAISED names, for HTAG, LAYER and OPERATOR (R215). -/
def State.triggerOf (s : State) (kind key : Nat) : Option FaultMsg :=
  (s.flt.log.map (·.2)).foldl (fun acc e =>
    if e.msg.kind = kind ∧ s.bucketKey e.msg = key then
      (match acc with
       | some (n, _) => if n < e.fseq then some (e.fseq, e.msg) else acc
       | none => some (e.fseq, e.msg))
    else acc) (none : Option (Nat × FaultMsg)) |>.map (·.2)

/-- HTAG, LAYER and OPERATOR of a notice by kind (R215). -/
def noticeTags (kind : Nat) (m : Option FaultMsg) : Nat × Nat × Nat :=
  match m with
  | none => (0, 0, 0)
  | some m =>
    if 0x001 ≤ kind ∧ kind ≤ 0x005 then (bits m.addr 0 8, bits m.addr 13 16, bits m.addr 29 16)
    else if 0x101 ≤ kind ∧ kind ≤ 0x103 then (bits m.addr 0 8, 0, 0)
    else if kind = 0x006 then (bits m.addr 4 8, 0, 0)
    else (0, 0, 0)

/-- Shelfmark of a source position before any seal moves it (R215). -/
def State.shelfOfSrc (s : State) (src : Nat) : Nat × Nat :=
  let r := srcRegion src
  if r = kilnRegion then (0, 0)
  else if srcTile src = noTile then (r, 0)
  else
    let t := srcTile src
    match (s.masterOf r).lrowOf (tileCol t) (tileRow t) with
    | some l => (s.shelfX r (tileCol t), s.shelfY r l)
    | none => (0, 0)

/-- An escalation is logged with an ESCALATED entry that names the fault met (R211). -/
def State.escalated (s : State) (met : Reaction) : State :=
  (s.raise Reg.FLT_EVENT_ESC 0).kilnFault 0x18 0 0x605 0 (pack [(0, 12, met.kind), (12, 2, met.level), (14, 32, met.fseq)])

/-- The Kiln acts on a new reaction: the sealed state, the queue where its domain is blocked, or its start (R207, R212–R214). `qfull` says
that the fault is REACT_QFULL itself, which has a place of its own in the queue of 64. -/
def State.actNew (s : State) (level : Nat) (esc : Bool) (r : Reaction) (qfull : Bool) : State × Acted :=
  if level = 3 then (s.sealState r, { level := 3, esc := esc, rid := r.rid })
  else if s.blocked r then
    let queued := s.reactions.filter (fun x => x.st == .queued)
    if qfull ∧ queued.any (fun x => x.kind == 0x606) then (s.sealState { r with level := 3, domain := .chip }, { level := 3, esc := true, rid := r.rid })
    else if (queued.filter (fun x => x.kind != 0x606)).length ≥ 64 ∧ ¬ qfull then
      (((s.setReact { r with st := .unacted }).raise Reg.FLT_EVENT_QFULL 0).kilnFault 0x18 0 0x606 0 0, { level := level, esc := esc, rid := r.rid })
    else ((s.setReact r).raise Reg.FLT_EVENT_QUEUED 0, { level := level, esc := esc, queued := true, rid := r.rid })
  else if level = 1 then (s.startL1 r, { level := 1, esc := esc, rid := r.rid })
  else ((s.startL2 r).runL2 [r.rid], { level := 2, esc := esc, rid := r.rid })

/-- The hub of a position has proposed its quench and has no answer yet. -/
def Hub.proposesQuench (h : Hub) (r t : Nat) : Bool :=
  h.fl.proposed.any (fun e => e.2.1.any (fun a => a.act == 0x02 && a.region == r && tileAt a.row a.col == t))

/-- A quench Folio contains a new L1 of a position: what the Kiln has learned of it, or an empty record where its proposal is on the way; none where there is no
Folio, as for a position that bring-up quenches (R213, R422). -/
def State.quenchOf (s : State) (src : Nat) : Option Reaction :=
  match s.flt.learned.find? (fun x => srcAt x.src (srcRegion src) (srcTile src)) with
  | some x => some x
  | none =>
    if (s.hub (srcRegion src)).proposesQuench (srcRegion src) (srcTile src) then
      some { rid := 0, level := 1, st := .queued, src := src, kind := 0, fseq := 0, domain := .chip, quench := true }
    else none

/-- A merged fault (R212): its notices join the reaction's, and a consequence that the reaction awaited lets it go on. -/
def State.mergeInto (s : State) (r : Reaction) (level src kind addr : Nat) (m : FaultMsg) : State × Acted :=
  let here := (srcRegion src, bits addr 0 5)
  let r' := { r with merges := r.merges + 1, extra := r.extra ++ s.conseqNotices kind addr m,
                     suspects := if kind = 0x201 then r.suspects.filter (· != here) else r.suspects }
  ((s.setReact r').endComplete, { level := level, merged := true, rid := r.rid })

/-- Open, merge, escalate or queue a reaction of level 1, 2 or 3 (R211, R212). An L1 that is escalated keeps its own containment. -/
def State.react (s : State) (level src kind addr fseq : Nat) (m : FaultMsg) : State × Acted :=
  match s.mergeTarget level src kind addr m with
  | some r => s.mergeInto r level src kind addr m
  | none =>
    let dom1 := domainOf src
    let met1 := if level = 1 then s.reactions.find? (fun r => r.unack && r.level == 1 && r.domain.overlaps dom1) else none
    let s := match met1 with | some r => (s.escalated r).contain src kind (s.withdrawn src kind addr) | none => s
    let level2 := if met1.isSome then 2 else level
    let met2 := if level2 = 2 then s.reactions.find? (fun r => r.unack && r.level == 2) else none
    let s := match met2 with | some r => s.escalated r | none => s
    let level3 := if met2.isSome then 3 else level2
    let esc := met1.isSome || met2.isSome
    let rid := s.flt.nextRid
    let s := { s with flt := { s.flt with nextRid := nextSkipZero 16 rid } }
    let tags := if level3 = 1 then noticeTags kind (s.triggerOf kind src) else (0, 0, 0)
    let notes := s.conseqNotices kind addr m ++ (s.flt.awaited.filter (fun e => e.1 == src)).map (·.2)
    let q := if level = 1 ∧ srcIsTile src ∧ kind ≠ 0x303 ∧ conseqKind kind = false then s.quenchOf src else none
    let s := { s with flt := { s.flt with awaited := s.flt.awaited.filter (fun e => e.1 != src), learned := match q with | some x => s.flt.learned.erase x | none => s.flt.learned } }
    let (xy, extra) := match notes with
      | (4, _, x, y) :: rest => ((x, y), rest)
      | (6, _, x, y) :: rest => ((x, y), rest)
      | l => (s.shelfOfSrc src, l)
    let r : Reaction := { rid := rid, level := level3, st := .queued, src := src, kind := kind, fseq := fseq,
                          domain := if level3 = 1 then dom1 else .chip, region := s.withdrawn src kind addr, tenant := m.tenant, x := xy.1, y := xy.2,
                          htag := tags.1, layer := tags.2.1, operator := tags.2.2, extra := extra, since := s.gt }
    let r : Reaction := match (if level3 = 1 then q else none) with
      | some x => { r with quench := true, folio := x.folio, applied := x.applied, reports := x.reports, suspects := x.suspects }
      | none => r
    s.actNew level3 esc r (m.kind == 0x606)

/-- The Kiln's own buckets and immediate L1 kinds (R203, R205): an L1_RAISED that it creates is registered next. -/
def State.kilnClassify (s : State) (m : FaultMsg) : State :=
  let raiseL1 := fun (s : State) cause lv =>
    let l1 : FaultMsg := { src := m.src, kind := 0x306, tenant := m.tenant, addr := l1Addr m.kind cause lv m.addr, gtlo := wrap 24 s.gt }
    let conseq := match s.flt.conseq.find? (fun e => e.msg == m) with
      | some e => s.flt.conseq.erase e ++ [{ e with msg := l1 }]
      | none => s.flt.conseq
    { s with flt := { s.flt with queue := l1 :: s.flt.queue, conseq := conseq } }
  if srcRegion m.src ≠ kilnRegion then s
  else if s.levelOf s.flt.phase m.kind false = 1 then raiseL1 s 1 0
  else if s.flt.phase = .service ∧ s.serviceClass m.kind false = .bkt then
    let e := bucketEvent 128 m.src m.kind (s.bucketN m.kind false) s.gt s.flt.bucketClock false s.flt.buckets
    let s := { s with flt := { s.flt with buckets := e.table, bucketClock := s.flt.bucketClock + 1 } }
    let s := if e.evicted then s.raise Reg.FLT_EVENT_EVICT 0 else s
    if e.fired then raiseL1 s 0 e.level else s
  else s

/-- A WATCHDOG is registered (R227, R229): with CAUSE 0 it opens a case, joins the one that collects, or waits where its context is outside the case, unless a reset that is
about to come covers its region; the granted tenant's trip fails its replay. -/
def State.watchdogRegistered (s : State) (m : FaultMsg) (fseq : Nat) : State :=
  let region := srcRegion m.src
  let mine := s.rcv.suspects.any (fun x => x.1 == m.tenant && x.2.1 == region)
  if bits m.addr 0 2 ≠ 0 then s
  else if s.rcv.st = .idle then (s.openCase fseq [] m.tenant region .collect).joinSets region
  else if s.rcv.st = .collect then s.joinSets region
  else if s.rcv.st = .replay ∧ s.rcv.granted = some m.tenant ∧ mine then (s.releaseSets [region]).grantedFails m.tenant
  else if mine ∨ (s.rcv.st = .reset ∧ 2 ≤ s.rcv.rung ∧ s.rcv.scope.contains region ∧ s.gt < s.rcv.instant) then s.releaseSets [region]
  else { s with rcv := { s.rcv with waiting := s.rcv.waiting ++ [(fseq, 0, m.tenant, region)] } }

/-- The reaction of an L1 of kind WATCHDOG stays in HANDLING while its case is open (R229): the case in which its WATCHDOG waits, or the open one; with none open it
ends. -/
def State.watchdogTie (s : State) (m : FaultMsg) (rid : Nat) (merged : Bool) : State :=
  let region := srcRegion m.src
  let level : Nat := ((s.reaction rid).map (·.level)).getD 0
  if bits m.addr 0 12 ≠ 0x308 ∨ level ≠ 1 then s
  else if s.rcv.waiting.any (fun w => w.2.2.2 == region && w.2.1 == 0) then
    { s with rcv := { s.rcv with waiting := s.rcv.waiting.map (fun w => if w.2.2.2 = region ∧ w.2.1 = 0 then (w.1, rid, w.2.2) else w) } }
  else if merged then s
  else if s.rcv.st = .idle then s.endWatchdog rid m.tenant region
  else
    let s := { s with rcv := { s.rcv with rids := s.rcv.rids ++ [rid] } }
    if s.rcv.st = .collect then s else s.unitNoticeOf rid

/-- The level counters of FLT_CNT0 to FLT_CNT3 (R218). -/
def countField (level : Nat) : RegField :=
  match level with
  | 0 => Reg.FLT_CNT0_COUNT | 1 => Reg.FLT_CNT1_COUNT | 2 => Reg.FLT_CNT2_COUNT | _ => Reg.FLT_CNT3_COUNT

/-- The log entry, first capture and Ledger record of a registration, its count, and the stop trigger (R208–R210, R392, R473). -/
def State.logFault (s : State) (m : FaultMsg) (fseq arr : Nat) (a : Acted) : State :=
  let e : LogEntry := { msg := m, arr := arr, fseq := fseq, level := a.level, esc := a.esc, merged := a.merged, queued := a.queued, rid := a.rid }
  let valid := s.get Reg.FLT_FIRSTVAL_VALID 0
  let first := if bit valid a.level then s.flt.first else tput a.level e s.flt.first
  let s := { s with flt := { s.flt with log := tput (fseq % 4096) e s.flt.log, first := first } }
  let s := s.set Reg.FLT_FIRSTVAL_VALID 0 (valid ||| 2 ^ a.level)
  let s := s.record { code := m.kind, level := a.level, esc := a.esc, merged := a.merged, src := m.src, time := s.ledgerTime,
                      p0 := fseq, p1 := wrap 32 m.addr, p2 := pack [(0, 16, bits m.addr 32 16), (16, 12, m.tenant)] }
  ((s.bump (countField a.level) 0 1).event 8).stopTrigger m.kind a.level fseq

/-- The spine link on which a flit reached the Kiln: its region's row (R25). -/
def State.linkOf (s : State) (m : FaultMsg) : Nat := srcRegion m.src / s.cfg.w

/-- The flit that the Kiln registers next (R208): its own units' first (assumption 144), then the oldest of the next spine link in turn that has one. -/
def State.nextFlit (s : State) : Option FaultMsg :=
  match s.flt.queue.find? (fun m => srcRegion m.src == kilnRegion) with
  | some m => some m
  | none =>
    match (List.range 32).findSome? (fun i => s.flt.queue.find? (fun m => s.linkOf m == (s.flt.lastLink + 1 + i) % 32)) with
    | some m => some m
    | none => s.flt.queue.head?

/-- A flit taken from the Kiln's queue, and the room given to the first hub whose flit waits for it (R26). -/
def State.takeFlit (s : State) (m : FaultMsg) : State :=
  let s := { s with flt := { s.flt with queue := s.flt.queue.erase m, lastLink := if srcRegion m.src = kilnRegion then s.flt.lastLink else s.linkOf m } }
  match s.liveRegions.find? (fun r => (s.hub r).flt.out != []) with
  | some r =>
    (match (s.hub r).flt.out with
     | x :: rest =>
       if s.kilnFull then s
       else { s.modHub r (fun h => { h with flt := { h.flt with out := rest } }) with flt := { s.flt with queue := s.flt.queue ++ [x] } }
     | [] => s)
  | none => s

/-- FAULT_REGISTER (R208): the next FAULT flit takes the next FSEQ. The Kiln acts on L1_RAISED, HOST_RAISED and its own L2 and L3 kinds, and logs
every other message at L0 (R205). -/
def execFaultRegister (s : State) : Host.Outcome State Fault Refusal :=
  match s.nextFlit with
  | none => .next s
  | some m =>
    let fseq := s.flt.nextSeq
    let arr := s.gt
    let s := s.takeFlit m
    let s := { s with flt := { s.flt with nextSeq := nextSkipZero 32 fseq } }
    let (s, a) : State × Acted :=
      if m.kind = 0x306 then (fun (x : State × Acted) =>
          ({ x.1 with flt := { x.1.flt with conseq := x.1.flt.conseq.filter (fun e => e.msg != m) } }, x.2)) (s.react 1 m.src (bits m.addr 0 12) (bits m.addr 20 28) fseq m)
      else if m.kind = 0x309 then s.react (bits m.addr 12 2) m.src (bits m.addr 0 12) (bits m.addr 15 33) fseq m
      else if isHostKind m.kind = false ∧ s.levelOf s.flt.phase m.kind false ≥ 2 then
        s.react (s.levelOf s.flt.phase m.kind false) m.src m.kind m.addr fseq m
      else (s, {})
    let s := s.logFault m fseq arr a
    let s := if m.kind = 0x306 then s.watchdogTie m a.rid a.merged else s
    let s := if m.kind = 0x308 then s.watchdogRegistered m fseq else s
    let s := if a.level = 0 then s.kilnClassify m else s
    let key := s.bucketKey m
    .next (if m.kind = 0x007 ∧ srcRegion key ≠ srcRegion m.src ∧ s.flt.phase = .service then s.send (msgFltCount (srcRegion key) m) else s)

/-- FLT_COUNT (R203): the sender's hub counts the forwarded INGRESS_TAG while the phase it holds is SERVICE, and answers. -/
def execFltCount (region src kind tenant addr gtlo : Nat) (s : State) : Host.Outcome State Fault Refusal :=
  let m : FaultMsg := { src := src, kind := kind, tenant := tenant, addr := addr, gtlo := gtlo }
  let s := s.recv (msgFltCount region m)
  let key := s.bucketKey m
  if (s.hub region).flt.phase ≠ .service then .next (s.send (msgFltAckhub region false))
  else
    match s.hubCount region key m with
    | (s, some lv) => .next ((s.hubRaiseL1 region m key 0 lv).send (msgFltAckhub region true))
    | (s, none) => .next (s.send (msgFltAckhub region false))

/-- FLT_ACKHUB (R217): the Kiln takes the answer; nothing more is stated of it. -/
def execFltAckhub (region : Nat) (raised : Bool) (s : State) : Host.Outcome State Fault Refusal :=
  .next (s.recv (msgFltAckhub region raised))

/-- FLT_PHASE (R206): a hub takes the phase; on leaving TEST or RECOVERY for SERVICE every bucket is emptied. -/
def execFltPhase (region phase : Nat) (s : State) : Host.Outcome State Fault Refusal :=
  let p := Phase.ofCode phase
  .next (s.modHub region (fun h => {
    h with
    flt := { h.flt with phase := p, buckets := if p = .service ∧ h.flt.phase ≠ .service then [] else h.flt.buckets },
    wd := { h.wd with paused := h.wd.paused || h.flt.phase == .start || p == .start } }))

/-- The phase table's moves by a write (R206). -/
def State.writePhase (s : State) (phase : Nat) : State :=
  if phase = 2 ∧ s.flt.phase = .service then s.setPhase .test
  else if phase = 1 ∧ s.flt.phase = .test then { s.setPhase .service with flt := { (s.setPhase .service).flt with buckets := [] } }
  else s

/-- FLT_PHASE_WRITE (R206): a write of the system tenant; any other value or phase changes nothing. -/
def execFltPhaseWrite (phase ten tag : Nat) (s : State) : Host.Outcome State Fault Refusal :=
  .next (s.hostWrite ten tag 0x1008 none true (fun s => s.writePhase phase))

/-- An acknowledgement of a reaction in AWAIT_ACK ends it; with the last L2, the phase returns to SERVICE and every bucket is emptied (R206,
R211, R213). -/
def State.ackReaction (s : State) (rid : Nat) : State :=
  match s.reaction rid with
  | none => s.raise Reg.FLT_EVENT_ACKBAD 0
  | some r =>
    if r.st ≠ .awaitAck then s.raise Reg.FLT_EVENT_ACKBAD 0
    else
      let s := (s.setReact { r with st := .done }).kickQueue
      if s.flt.phase = .recovery ∧ ¬ s.reactions.any (fun x => x.level == 2 && (x.unack || x.st == .queued)) then
        let s := s.setPhase .service
        { s with flt := { s.flt with buckets := [] } }
      else s

/-- FLT_ACK (R213): the RID written is kept in the register, and acknowledged. -/
def execFltAck (rid ten tag : Nat) (s : State) : Host.Outcome State Fault Refusal :=
  .next (s.hostWrite ten tag 0x1014 none true (fun s => (s.set Reg.FLT_ACK_RID 0 rid).ackReaction rid))

/-- FLT_NTAIL_WRITE (R215): the runtime advances the tail, and notices that waited for room are written. -/
def execFltNtailWrite (tail ten tag : Nat) (s : State) : Host.Outcome State Fault Refusal :=
  .next (s.hostWrite ten tag 0x1024 none true (fun s => ((s.set Reg.FLT_NTAIL_TAIL 0 tail).flushNotices).kickQueue))

/-- L2_QUEUE_TIMEOUT (R212): an L2 that has waited 1 ms behind L1 reactions starts while they go on; under global stop the wait is paused. -/
def execL2QueueTimeout (rid : Nat) (s : State) : Host.Outcome State Fault Refusal :=
  match s.reaction rid with
  | some r => if r.st = .queued ∧ r.level = 2 ∧ ¬ s.stopped then .next ((s.startL2 r).runL2 [rid]) else .next s
  | none => .next s

/-- L3_HOLD_EXPIRY (R214): the Kiln asserts TRAY_PCREQ, unless L3HOLD is 0. -/
def execL3HoldExpiry (s : State) : Host.Outcome State Fault Refusal :=
  .next (if s.flt.l3 ∧ s.get Reg.FLT_CTRL_L3HOLD 0 ≠ 0 then s.trayRequest 1 else s)

end Sys2Proof.Machine
end

