-- ==== Sys2Proof/Machine/NetOps.lean ====
section
/-! DEFINITION. The Flue below its messages: flits and their sideband (R20), the fixed routes (R25), credits (R23), the grant of an output port (R24), replay (R27)
and one HCLK of every hop. The messages in flight stand in `State.flue`; the clock moves their flits, and a receive command ends a message's journey wherever
its flits are (assumption 90). -/

namespace Sys2Proof.Machine

/-! ## Flits -/

/-- Code of a channel in the sideband (R20). -/
def Vc.code : Vc → Nat
  | .req => 0 | .rsp => 1 | .fault => 2 | .bulk => 3

/-- The channel of what crosses the Flue (R20, R30). -/
def Parcel.vc : Parcel → Vc
  | .msg m => m.vc
  | .fault _ _ _ => .fault
  | .time _ _ => .rsp

/-- Number of its flits (R21, R30): FAULT is always one. -/
def Parcel.flits : Parcel → Nat
  | .msg m => m.payload.length + 1
  | .fault _ _ _ => 1
  | .time _ _ => 2

/-- The channel of a flit. -/
def HopFlit.vc (f : HopFlit) : Vc := f.parcel.vc

/-- FIRST and LAST of a flit (R20). -/
def HopFlit.isFirst (f : HopFlit) : Bool := f.index == 0
def HopFlit.isLast (f : HopFlit) : Bool := f.index + 1 == f.parcel.flits

/-- The 128 data bits of a flit. -/
def State.flitData (s : State) (f : HopFlit) : Nat :=
  (match f.parcel with
   | .msg m => (m.header :: m.payload)[f.index]?.getD 0
   | .fault _ _ m => m.flit
   | .time h round =>
     let carried := (tget (hopKey h) s.net.times).elim 0 (fun e => e.2.2)
     let m := msgTime round carried
     (m.header :: m.payload)[f.index]?.getD 0).toNat

/-- The sideband of a flit with `data` (R20). -/
def HopFlit.sideband (f : HopFlit) (data : Nat) : Nat :=
  let checked := pack [(0, 2, f.vc.code), (2, 1, flag f.isFirst), (3, 1, flag f.isLast), (13, 3, f.hseq)]
  pack [(0, 2, f.vc.code), (2, 1, flag f.isFirst), (3, 1, flag f.isLast), (4, 9, Config.flueEcc data checked), (13, 3, f.hseq)]

/-! ## Routes (R25) -/

/-- The node that a Source ID is at. -/
def nodeOf (src : Nat) : Node :=
  if srcRegion src = kilnRegion then .kiln
  else if srcTile src = noTile then .hub (srcRegion src)
  else .probe (srcRegion src) (srcTile src)

/-- The node that sends on a hop. -/
def hopFrom : HopId → Node
  | .kiln _ => .kiln
  | .hub r _ => .hub r
  | .column r _ => .hub r
  | .up r t => .probe r t
  | .down r t => .probe r t

/-- The node at a hop's far end. -/
def State.hopTo (s : State) (h : HopId) : Option Node := (s.hopBack h).map hopFrom

/-- The region and position that a node is in; none for the Kiln. -/
def Node.place : Node → Option (Nat × Option Nat)
  | .kiln => none
  | .hub r => some (r, none)
  | .probe r t => some (r, some t)

/-- The port of a hub towards another region: first in X, then in Y. -/
def State.meshPort (s : State) (r goal : Nat) : Nat :=
  let (x, y) := s.gridOf r
  let (gx, gy) := s.gridOf goal
  if x < gx then 1 else if gx < x then 3 else if y < gy then 2 else 0

/-- The next hop from a node towards another; none at the goal. -/
def State.nextHop (s : State) (n goal : Node) : Option HopId :=
  match n, goal.place with
  | .kiln, none => none
  | .kiln, some (r, _) => some (.kiln (r / s.cfg.w))
  | .hub r, none =>
    let x := (s.gridOf r).1
    some (.hub r (if x = s.cfg.spine then 4 else if x < s.cfg.spine then 1 else 3))
  | .hub r, some (gr, gt) =>
    if gr = r then gt.map (fun t => .column r (tileCol t))
    else some (.hub r (s.meshPort r gr))
  | .probe r t, some (gr, some g) =>
    if gr = r ∧ tileCol g = tileCol t then
      (if g = t then none else if tileRow g < tileRow t then some (.down r t) else some (.up r t))
    else some (.up r t)
  | .probe r t, _ => some (.up r t)

/-- A copy for every hub (R192). -/
def Parcel.toAllHubs : Parcel → Bool
  | .msg m => srcRegion m.dest == 0x7FE
  | _ => false

/-- The node where a message starts. -/
def Parcel.origin : Parcel → Node
  | .msg m => nodeOf m.src
  | .fault r t _ => .probe r t
  | .time h _ => hopFrom h

/-- The mesh hops on which a hub passes on a copy for every hub (R192): as a TIME message (R30). -/
def State.onward (s : State) (r : Nat) : List HopId := (s.timeHops r).filter (fun h => match h with | .hub _ _ => true | _ => false)

/-- The output hops of a message at a node, those that are down left out (R25, R27, R30). -/
def State.outs (s : State) (n : Node) (p : Parcel) : List HopId :=
  (match p, n with
   | .time h _, _ => if hopFrom h = n then [h] else []
   | .fault r _ _, _ => (s.nextHop n (.hub r)).toList
   | .msg m, n =>
     if p.toAllHubs then
       (match n with
        | .kiln => (List.range s.cfg.h).map (fun y => .kiln y)
        | .hub r => s.onward r
        | _ => [])
     else (s.nextHop n (nodeOf m.dest)).toList).filter (fun h => !(s.hop h).down)

/-- The hops that end at a node: its inputs beside its own traffic, in a fixed order. -/
def State.inputs (s : State) (n : Node) : List HopId :=
  (match n with
   | .kiln => (List.range s.cfg.h).map (fun y => HopId.kiln y)
   | .hub r => (List.range 5).map (fun p => HopId.hub r p) ++ (List.range 32).map (fun c => HopId.column r c)
   | .probe r t => [HopId.up r t, HopId.down r t]).filterMap s.hopBack

/-! ## The grant of an output port (R24) -/

/-- The port of a hop. -/
def Net.port (n : Net) (h : HopId) : HopPort := (n.ports.find? (fun e => e.1 == h)).elim {} (fun e => e.2)

/-- The state of the Flue with a port changed. -/
def Net.modPort (n : Net) (h : HopId) (f : HopPort → HopPort) : Net :=
  { n with ports := (h, f (n.port h)) :: n.ports.filter (fun e => e.1 != h) }

/-- A flit that waits at an output port, with the input that it waits at: 0 is the node's own traffic. -/
structure Offer where
  input : Nat
  flit : HopFlit
  deriving DecidableEq, Repr

/-- A message that has its FIRST flit granted holds its channel on the port until its LAST (R24, 6). -/
def HopPort.admits (p : HopPort) (x : Offer) : Bool :=
  match tget x.flit.vc.code p.held with
  | some h => h.1 == x.input && h.2 == x.flit.parcel
  | none => true

/-- The far end has a buffer free for the flit's channel (R23). -/
def HopPort.hasCredit (p : HopPort) (v : Vc) : Bool := decide (p.buffers.countP (fun f => f.vc == v) < Config.flueCredits + 1)

/-- The channel that is granted, of those with a flit waiting (R24, 1–3): BULK after 15 grants to others, FAULT unless it has had 8 of the latest 15 while others
waited and others wait, then RSP, REQ, BULK. -/
def HopPort.channel (p : HopPort) (waiting : List Vc) : Option Vc :=
  if waiting.contains .bulk ∧ 15 ≤ p.bulkWait then some .bulk
  else if waiting.contains .fault ∧ (p.recent.count true < 8 ∨ waiting.all (· == .fault)) then some .fault
  else [Vc.rsp, Vc.req, Vc.bulk].find? waiting.contains

/-- Places round the inputs from the one served last (R24, 4). -/
def Offer.round (x : Offer) (last : Nat) : Nat := (x.input + 63 - last) % 64

/-- The offer next in round-robin order (R24, 4); with two inputs, as on a column chain, they alternate (R24, 5). -/
def nextInRound (last : Nat) (l : List Offer) : Option Offer :=
  l.foldl (fun (best : Option Offer) x => match best with
    | none => some x
    | some b => if x.round last < b.round last then some x else some b) none

/-- The flit that a port grants of those offered (R24). -/
def HopPort.pick (p : HopPort) (offers : List Offer) : Option Offer :=
  let l := offers.filter (fun x => p.admits x && p.hasCredit x.flit.vc)
  (p.channel (l.map (fun x => x.flit.vc))).bind (fun v =>
    nextInRound (tgetD 63 v.code p.turn) (l.filter (fun x => x.flit.vc == v)))

/-- The port after a grant, of a flit among those that wait. -/
def HopPort.granted (p : HopPort) (x : Offer) (waiting : List Vc) : HopPort :=
  let v := x.flit.vc
  { p with recent := ((v == .fault && waiting.any (· != .fault)) :: p.recent).take 15,
           bulkWait := if v = .bulk ∨ waiting.contains .bulk = false then 0 else p.bulkWait + 1,
           turn := tput v.code x.input p.turn,
           held := if x.flit.isLast then tdel v.code p.held else tput v.code (x.input, x.flit.parcel) p.held,
           hseq := (p.hseq + 1) % 8 }

/-! ## One HCLK -/

/-- Messages that have flits on the Flue or waiting for it: those in flight, FAULT flits that probes hold, and TIME messages on their hops. -/
def State.parcels (s : State) : List Parcel :=
  (s.flue.filter (fun m => m.op != 0xC0)).map .msg
    ++ s.probes.flatMap (fun e => e.2.faultOut.map (.fault (e.1 / 2048) (e.1 % 2048)))
    ++ s.net.times.map (fun e => .time e.2.1 e.2.2.1)

/-- What a node has of its own to send. -/
def Net.source (n : Net) (at_ : Node) : List HopFlit := (n.sources.find? (fun e => e.1 == at_)).elim [] (fun e => e.2)

/-- The state of the Flue with a node's own traffic changed. -/
def Net.modSource (n : Net) (at_ : Node) (f : List HopFlit → List HopFlit) : Net :=
  let l := f (n.source at_)
  let others := n.sources.filter (fun e => e.1 != at_)
  { n with sources := if l = [] then others else others ++ [(at_, l)] }

/-- Every flit of the Flue. -/
def Net.all (n : Net) : List HopFlit := n.sources.flatMap (·.2) ++ n.ports.flatMap (·.2.buffers)

/-- Only the flits of certain messages stay; a channel that another held is free. -/
def Net.keep (n : Net) (ok : Parcel → Bool) : Net :=
  let flits := fun (l : List HopFlit) => l.filter (fun f => ok f.parcel)
  { n with sources := (n.sources.map (fun e => (e.1, flits e.2))).filter (fun e => e.2 != []),
           ports := n.ports.map (fun e => (e.1, { e.2 with buffers := flits e.2.buffers, unacked := flits e.2.unacked,
                                                           held := e.2.held.filter (fun h => ok h.2.2) })) }

/-- A message enters at its origin, flit by flit. -/
def State.enter (s : State) (n : Net) (p : Parcel) : Net :=
  let outs := s.outs (p.origin) p
  if outs = [] then n
  else n.modSource p.origin (fun l => l ++ (List.range p.flits).map (fun i => { parcel := p, index := i, left := outs, ready := s.gt }))

/-- Messages that came since the last HCLK enter, and the flits of those that a receiver has taken are gone. A message whose next hop is down goes no further:
nothing goes round a failed hop (R27, assumption 152). -/
def State.flueSync (s : State) : State :=
  let now := s.parcels
  let cut := (s.net.all.filter (fun f => f.left.any (fun h => (s.hop h).down))).map (·.parcel)
  let net := s.net.keep (fun p => now.contains p && !cut.contains p)
  let new := (net.known.foldl List.erase now).filter (fun p => !p.toAllHubs || !net.known.contains p)
  { s with net := { new.eraseDups.foldl s.enter net with known := now } }

/-- A node takes a flit that ends there: every flit but a FAULT flit at a hub whose queue is full (R26). -/
def State.consumes (s : State) (h : HopId) (f : HopFlit) : Bool :=
  f.left.isEmpty && decide (f.ready ≤ s.gt) &&
    (f.vc != .fault || match s.hopTo h with
      | some (.hub r) => decide ((s.hub r).flt.queue.length < 64)
      | _ => true)

/-- The buffers of a hop's far end after the node has taken what ends there: a flit behind another of its channel waits for it. -/
def State.drain (s : State) (h : HopId) : List Vc → List HopFlit → List HopFlit
  | _, [] => []
  | blocked, f :: rest =>
    if s.consumes h f ∧ blocked.contains f.vc = false then s.drain h blocked rest
    else f :: s.drain h (f.vc :: blocked) rest

/-- The oldest flit of each channel in a buffer, where the node may use it. -/
def heads (now input : Nat) (l : List HopFlit) : List Offer :=
  [Vc.fault, Vc.rsp, Vc.req, Vc.bulk].filterMap (fun v =>
    (l.find? (fun f => f.vc == v)).bind (fun f => if f.ready ≤ now then some { input := input, flit := f } else none))

/-- What a node offers of its own: at each output hop the oldest flit of each channel, so that traffic for one hop does not wait for another's. -/
def ownHeads : List (Vc × HopId) → List HopFlit → List Offer
  | _, [] => []
  | behind, f :: rest =>
    let free := f.left.filter (fun h => !behind.contains (f.vc, h))
    (if free = [] then [] else [{ input := 0, flit := { f with left := free } }]) ++ ownHeads (behind ++ f.left.map (fun h => (f.vc, h))) rest

/-- What waits at a node for its output ports. -/
def State.offersAt (s : State) (n : Node) : List Offer :=
  ownHeads [] (s.net.source n) ++ ((s.inputs n).zipIdx).flatMap (fun e => heads s.gt (e.2 + 1) (s.net.port e.1).buffers)

/-- The nodes with a flit. -/
def State.busyNodes (s : State) : List Node :=
  (s.net.sources.map (·.1) ++ (s.net.ports.filter (fun e => e.2.buffers != [])).filterMap (fun e => s.hopTo e.1)).eraseDups

/-- A flit of a buffer has taken an output hop. -/
def takeOut (f : HopFlit) (h : HopId) : List HopFlit → List HopFlit
  | [] => []
  | x :: rest =>
    if x.parcel = f.parcel ∧ x.index = f.index then
      (if x.left.erase h = [] then rest else { x with left := x.left.erase h } :: rest)
    else x :: takeOut f h rest

/-- HCLK that a flit takes over a hop: its measured latency, at least one, and its boundary stage (R29, R454). -/
def State.hopTime (s : State) (h : HopId) : Nat := max 1 (s.hop h).latency + s.stageOf h

/-- One output port in one HCLK (R24): the flit that it grants leaves its input and is on its way; the last 8 not acknowledged are kept (R27). A hop that retrains
or is down carries nothing. -/
def State.grant (s : State) (n : Node) (offers : List Offer) (h : HopId) : State :=
  if (s.hop h).retraining ∨ (s.hop h).down then s
  else
    let here := offers.filter (fun x => x.flit.left.contains h)
    let p := s.net.port h
    match p.pick here with
    | none => s
    | some x =>
      let sent : HopFlit := { x.flit with left := (s.hopTo h).elim [] (fun m => s.outs m x.flit.parcel), ready := s.gt + s.hopTime h, hseq := p.hseq }
      let q := { p.granted x (here.map (fun o => o.flit.vc)) with buffers := p.buffers ++ [sent], unacked := (p.unacked ++ [sent]).drop (p.unacked.length - 7) }
      let net := s.net.modPort h (fun _ => q)
      { s with net := if x.input = 0 then net.modSource n (takeOut x.flit h)
                      else ((s.inputs n)[x.input - 1]?).elim net (fun i => net.modPort i (fun y => { y with buffers := takeOut x.flit h y.buffers })) }

/-- The output ports of a node grant, each on what waited when the HCLK began. -/
def State.grantAt (s : State) (n : Node) (offers : List Offer) : State :=
  ((offers.flatMap (fun x => x.flit.left)).eraseDups).foldl (fun s h => s.grant n offers h) s

/-- A TIME message that still waits in its node carries one HCLK more (R29). -/
def State.ageTime (s : State) (e : Nat × HopId × Nat × Nat) : State :=
  let (h, round, gt) := e.2
  if (s.net.source (hopFrom h)).any (fun f => f.parcel == .time h round && f.isFirst) then
    { s with net := { s.net with times := tput e.1 (h, round, wrap 64 (gt + 1)) s.net.times },
             flue := s.flue.replace (msgTime round gt) (msgTime round (wrap 64 (gt + 1))) }
  else s

/-- A hop in one HCLK beside its grant: acknowledgements come back after the hop's time, and a hop that retrains holds what is on it (R27). -/
def State.hopTick (s : State) (h : HopId) (p : HopPort) : HopPort :=
  { p with buffers := (s.drain h [] p.buffers).map (fun f => if (s.hop h).retraining ∧ s.gt < f.ready then { f with ready := f.ready + 1 } else f),
           unacked := p.unacked.filter (fun f => decide (s.gt < f.ready + s.hopTime h)) }

/-- One HCLK of the Flue. -/
def State.flueTick (s : State) : State :=
  let s := s.flueSync
  let s := { s with net := { s.net with ports := s.net.ports.map (fun (e : HopId × HopPort) => (e.1, s.hopTick e.1 e.2)) } }
  let waiting : List (Node × List Offer) := s.busyNodes.map (fun n => (n, s.offersAt n))
  let s := waiting.foldl (fun (s : State) e => s.grantAt e.1 e.2) s
  s.net.times.foldl State.ageTime s

/-- The sender of a hop replays what is not acknowledged (R27): each flit comes up to 12 HCLK later, by how much no rule says (free, assumption 2). -/
def State.replay (s : State) (h : HopId) : State :=
  let p := s.net.port h
  if p.unacked = [] then s
  else
    let (d, s) := s.fresh 4
    let late := fun (f : HopFlit) => { f with ready := f.ready + min 12 d }
    let again := fun (f : HopFlit) => p.unacked.any (fun u => u.parcel == f.parcel && u.index == f.index)
    { s with net := s.net.modPort h (fun p => { p with unacked := p.unacked.map late, buffers := p.buffers.map (fun f => if again f then late f else f) }) }

end Sys2Proof.Machine
end

