-- ==== Sys2Proof/Machine/Flue.lean ====
section
/-! DEFINITION. The meanings of the Flue's commands: global time (R29, R30), errors on a hop (R27), reserved opcodes (R22). -/

namespace Sys2Proof.Machine

/-- Distance of two counters of `w` bits, the shorter way round. -/
def apart (w a b : Nat) : Nat :=
  let d := wrap w (a + 2 ^ w - wrap w b)
  min d (2 ^ w - d)

/-- A gap in the round numbers (R30); the first round that a node meets is none. -/
def roundGap (last : Option Nat) (round : Nat) : Nat :=
  match last with
  | none => 0
  | some l => if wrap 25 (l + 1) = wrap 25 round then 0 else 1

/-- A hub takes a TIME value (R29): the first is loaded, a later one where the counter differs by more than 1. -/
def Hub.takeTime (h : Hub) (round gt : Nat) : Hub :=
  let late := h.gtValid && decide (1 < apart 64 h.gt gt)
  { h with gt := if late ∨ h.gtValid = false then wrap 64 gt else h.gt, gtValid := true, timeRound := some (wrap 25 round),
           gtCorrections := h.gtCorrections + flag late + roundGap h.timeRound round }

/-- A probe takes the low 24 bits of a TIME value (R29, R30). -/
def Probe.takeTime (p : Probe) (round gt : Nat) : Probe :=
  let late := p.gtValid && decide (1 < apart 24 p.gt24 (wrap 24 gt))
  { p with gt24 := if late ∨ p.gtValid = false then wrap 24 gt else p.gt24, gtValid := true, timeRound := some (wrap 25 round),
           gtCorrections := p.gtCorrections + flag late + roundGap p.timeRound round }

/-- TIME_ROUND (R29, R30): after training the Kiln sends its GT down each spine link. -/
def execTimeRound (s : State) : Host.Outcome State Fault Refusal :=
  .next (if s.bru.trained = false then s
    else
      let s' := (List.range s.cfg.h).foldl (fun (x : State) (y : Nat) => x.sendTime (.kiln y) s.timeRounds s.gt) s
      { s' with timeRounds := wrap 25 (s.timeRounds + 1) })

/-- TIME (R29, R30, R424): a hub or probe takes the value and forwards the message; a probe's first TIME starts its self-test, whose result it
queues with a mask that its silicon decides (free, assumption 6). -/
def execTime (region : Nat) (tile : Option Nat) (round gt : Nat) (s : State) : Host.Outcome State Fault Refusal :=
  let s := (s.recv (msgTime round (wrap 64 gt))).tookTime region tile
  .next (match tile with
    | none => (s.timeHops region).foldl (fun s h => s.sendTime h round gt) (s.modHub region (fun h => h.takeTime round gt))
    | some t =>
      let first := !(s.probe region t).gtValid
      let s := s.modProbe region t (fun p => p.takeTime round gt)
      let s := if 0 < tileRow t then s.sendTime (.down region t) round gt else s
      if first then
        let (m, s) := s.fresh 8
        s.send (msgPstResult region t m)
      else s)

/-- FLUE_NAK (R27): the sender replays what is not acknowledged; at the third NAK in a row of one flit the hop holds all traffic and retrains, once for that flit. `again`
says that the flit refused is the one refused last. -/
def execFlueNak (hop : HopId) (again : Bool) (s : State) : Host.Outcome State Fault Refusal :=
  let x := s.hop hop
  .next (if x.down ∨ x.retraining then s
    else
      let naks := if again then x.naks + 1 else 1
      let spent := again && x.retrained
      let s := ((s.modHop hop (fun x => { x with naks := naks, replays := x.replays + 1, retrained := spent })).traceSender hop 1).replay hop
      if naks < 3 then s
      else if spent then s.hopDown hop
      else (s.modHop hop (fun x => { x with naks := 0, retraining := true })).traceSender hop 2)

/-- FLUE_RETRAIN_DONE (R27): the hop carries traffic again with the latency measured anew (R29), or is down. -/
def execFlueRetrainDone (hop : HopId) (ok : Bool) (latency : Nat) (s : State) : Host.Outcome State Fault Refusal :=
  .next (if (s.hop hop).retraining = false then s
    else if ok then s.modHop hop (fun x => { x with retraining := false, retrained := true, naks := 0, latency := latency })
    else s.hopDown hop)

/-- The Catalogue of a hub holds a tile for a tenant (R22). -/
def State.tileHeldBy (s : State) (r t tenant : Nat) : Bool :=
  let p := (s.hub r).cat
  match p.lrowOf (tileCol t) (tileRow t) with
  | some l => (p.holdersOf (tileCol t) l).contains tenant
  | none => false

/-- The Source ID of a receiver: a probe, a hub or the Kiln. -/
def receiverSrc (r : Nat) (t : Option Nat) : Nat :=
  match t with
  | some t => probeSrc r t
  | none => if r = kilnRegion then kilnSrc 0x18 0 else hubSrc r

/-- A receiver takes an opcode: a probe, a hub or the Kiln those that the opcode tables send to it. A hub judges the opcode of a message that it forwards to a
tile by the tables as a whole: the tile is its receiver (R22). -/
def opcodeTaken (r : Nat) (t dest : Option Nat) (op : Nat) : Bool :=
  match t with
  | some _ => probeOps.contains op
  | none =>
    if r = kilnRegion then kilnOps.contains op
    else if dest.isSome then opcodeDefined op
    else hubOps.contains op

/-- FLUE_RESERVED_OPCODE (R22): the message goes no further, FLUE_PROTO, and a REQ gets an RSP with its TAG. `dest` is the tile of the hub's region
that the message names. No rule gives that RSP an opcode or the place of the error status in it: free (assumption 2). -/
def execFlueReservedOpcode (region : Nat) (tile : Option Nat) (src tag opcode tenant : Nat) (dest : Option Nat) (req : Bool) (s : State) :
    Host.Outcome State Fault Refusal :=
  let op := wrap 8 opcode
  let foreign := match tile, dest with
    | none, some t => region != kilnRegion && wrap 12 tenant != 0 && !s.tileHeldBy region t (wrap 12 tenant)
    | _, _ => false
  .next (if opcodeTaken region tile dest op ∧ foreign = false then s
    else
      let dst := match dest with | some t => (if tile.isNone then probeSrc region t else receiverSrc region tile) | none => receiverSrc region tile
      let gone := fun (m : Msg) => m.dest == dst && m.src == wrap 32 src && m.tag == wrap 16 tag && m.op == op && m.tenant == wrap 12 tenant
      let s := { s with flue := s.flue.eraseP gone }.flueProto region tile op
      if req then
        let (o, s) := s.fresh 8
        let (a, s) := s.fresh 25
        s.send { dest := wrap 32 src, src := receiverSrc region tile, tag := wrap 16 tag, op := o, tenant := wrap 12 tenant, arg := a, payload := [] }
      else s)

end Sys2Proof.Machine
end

