-- ==== Sys2Proof/Machine/Probe.lean ====
section
/-! DEFINITION. The commands at a tile probe (R72–R97, R126, R148): headers, operands, readout, egress, decisions, mesh blocks, the fence,
gating, moves, copies, clock shrink, the stop leaf and the band. -/

namespace Sys2Proof.Machine

/-! ## Headers -/

/-- A rejected header: TPI_CMD_ERR, `TP_HDRERR`, the event and HDR_ERR (R77). -/
def State.rejectHeader (s : State) (r t : Nat) (h : Hdr) (code : Nat) : State :=
  (((s.emit (.cmdErr r t)).setAll (pid r t) [(Reg.TP_HDRERR_CODE, code), (Reg.TP_HDRERR_HTAG, h.htag), (Reg.TP_HDRERR_TENANT, h.tenant)]).raise
    Reg.TP_EVENT_HDRERR (pid r t)).probeFault r t 0x006 h.tenant (pack [(0, 4, code), (4, 8, h.htag)])

/-- A CONT header continues its chain (R56, R88). The band stays the one sampled at the chain's first header (assumption 127). -/
def Slot.continue_ (x : Slot) (h : Hdr) : Slot :=
  { x with last := h, hdrs := x.hdrs ++ [h], cntErr := x.cntErr || (h.matrix && !x.beatsOk), allExact := x.allExact && h.exact, beats := 0,
           chainOpen := !h.readout, steps := x.steps + h.k, macs := x.macs + h.d0 * h.n * h.k }

/-- An open chain that another header breaks (R56, R88). -/
def Slot.broken (x : Slot) : Slot :=
  { x with chainOpen := false, chainBroken := true, cntErr := x.cntErr || (x.first.matrix && !x.beatsOk) }

/-- The amounts of a slot's execution, from its key and IV (R50, R51). -/
def Probe.drawSlot (p : Probe) (x : Slot) : Slot :=
  x.drawAmounts x.first (Trivium.start (tgetD {} x.ctx p.ctx).key (ivRotation p.shelfX p.shelfY x.count))

/-- The rotation context after a header with CONT = 0 (R50, R100). -/
def Ctx.execute (c : Ctx) (h : Hdr) : Ctx :=
  if h.matrix then { c with count := wrap 32 (c.count + 1), u := 0 } else { c with u := wrap 25 (c.u + 1) }

/-- A slot that a header with CONT = 0 begins, with its IV fields (R50, R88, R100). -/
def Slot.begin_ (h : Hdr) (job : SlotJob) (order ctx : Nat) (c : Ctx) (band : Nat) (latch : List Nat) : Slot :=
  { st := .active, job := job, order := order, first := h, last := h, hdrs := [h], chainOpen := !h.readout, allExact := h.exact, ctx := ctx,
    count := c.count, steps := h.k, macs := h.d0 * h.n * h.k, band := band, sawB4 := band == 4, latch := latch,
    rcount := if h.matrix then c.count else wrap 32 (c.count + 2 ^ 32 - 1), rdom := if h.matrix then 2 else 3, ru := if h.matrix then 0 else c.u }

/-- A header with CONT = 0 takes slot `i` (R76, R88, R94): it breaks an open chain, executes, and its amounts may have been drawn in advance
(R53). -/
def State.beginSlot (s : State) (r t i : Nat) (h : Hdr) (early : Bool) : State :=
  let p := s.probe r t
  let rerun := (p.slot i).st != .free
  let p : Probe := match p.chainSlot with
    | some c => if c = i then p else p.setSlot c (p.slot c).broken
    | none => p
  let k := (p.ctxOf h.tenant).getD 0
  let c := tgetD {} k p.ctx
  let x := Slot.begin_ h .tenant (if rerun then (p.slot i).order else p.nextOrder) k c p.band (s.counters r t)
  let x := if h.matrix ∧ early ∧ p.lastTenant = some h.tenant then p.drawSlot x else x
  let p : Probe := { (p.setSlot i x) with
    nextOrder := if rerun then p.nextOrder else p.nextOrder + 1, ctx := tput k (c.execute h) p.ctx, lastTenant := some h.tenant, idleSent := false,
    retryTaken := p.retryTaken || (rerun && decide (p.eff = .retry)), bandRerun := p.bandRerun.filter (· != i) }
  let s := (s.setProbe r t (p.progressed h.tenant)).emit (.cmdSlot r t i)
  if x.drawn ∨ h.matrix = false then s.emit (.opReady r t) else s

/-- CMD_ACCEPT (R76, R77): with TPI_CMD_READY at 0 nothing happens; a header is rejected, continues its chain or takes a slot. -/
def execCmdAccept (region tile : Nat) (hdr : Hdr) (early : Bool) (s : State) : Host.Outcome State Fault Refusal :=
  let p := s.probe region tile
  if p.ready hdr then
    let code := p.rejectCode hdr
    if code ≠ 0 then .next (s.rejectHeader region tile hdr code)
    else
      let i := (p.target hdr).getD 0
      if hdr.cont then
        let p := { (p.setSlot i ((p.slot i).continue_ hdr)) with lastTenant := some hdr.tenant, idleSent := false }
        .next (((s.setProbe region tile (p.progressed hdr.tenant)).emit (.cmdSlot region tile i)).emit (.opReady region tile))
      else .next (s.beginSlot region tile i hdr early)
  else .next s

/-- ROTATION_DRAW_DONE (R53): the amounts of a slot are drawn and TPI_OP_READY rises. -/
def execRotationDrawDone (region tile slot : Nat) (s : State) : Host.Outcome State Fault Refusal :=
  let p := s.probe region tile
  let x := p.slot slot
  if x.st = .active ∧ x.job = .tenant ∧ x.first.matrix ∧ x.drawn = false then
    .next ((s.setSlot region tile slot (p.drawSlot x)).emit (.opReady region tile))
  else .next s

/-! ## Operands, readout and egress -/

/-- Index of the activity set that a slot's work counts to (R312). -/
def Slot.actIndex (x : Slot) : Nat := if x.job = .tenant then x.ctx else 16

/-- OPERAND_BEAT (R78, R79, R312): folded into the lanes of an ACTIVE slot and counted. -/
def execOperandBeat (region tile slot kind opa opb sca scb : Nat) (s : State) : Host.Outcome State Fault Refusal :=
  let x := (s.probe region tile).slot slot
  if x.st ≠ .active then .next s
  else
    let h := x.last
    let macs := if h.matrix = false then 0 else if h.ws then (if kind = 2 then h.n * h.d0 else 0) else if kind = 0 then h.d0 * h.n else 0
    let s := (s.setSlot region tile slot (x.operand kind opa opb sca scb)).count region tile 12 1
    .next (s.activity region tile x.actIndex [(macClass h, macs), (6, 1)])

/-- A Tap parity failure outside every slot (R83): TAPPAR_FENCED with the band, and the fence closes. -/
def State.tapStray (s : State) (r t : Nat) : State :=
  let p := s.probe r t
  let s := (s.raise Reg.TP_EVENT_TAPPAR (pid r t)).probeFault r t 0x004 0 (checkAddr 0 6 0 0 0 p.band)
  if p.eff = .opened ∨ p.eff = .retry ∨ p.eff = .fenced then s.setFence r t .fenced else s

/-- The accumulator layout that GEOMETRY declares (R60). -/
def State.accLayout (s : State) : AccLayout := if s.cfg.layout = 0 then .accFixed else .accFloat

/-- TAP_READ_BEAT (R81–R83): a readout is credited to the oldest slot that awaits one; its words are folded, its parity judged and its length
checked. -/
def execTapReadBeat (region tile acc words : Nat) (first last parityBad : Bool) (s : State) : Host.Outcome State Fault Refusal :=
  let p := s.probe region tile
  let p := if first then { p with readSlot := p.inOrder.find? (fun i => (p.slot i).awaits), tapReading := true } else p
  match p.readSlot with
  | some i =>
    let x := { p.slot i with readBegun := true, tapPar := (p.slot i).tapPar || parityBad }
    let x := x.foldWords s.accLayout s.cfg.accW acc words 0
    let x := if last then { x with readDone := true, cntErr := x.cntErr || x.words != x.wordsDue } else x
    let p := p.setSlot i x
    .next (s.setProbe region tile (if last then { p with readSlot := none, tapReading := false } else p))
  | none =>
    let s := s.setProbe region tile { p with tapReading := if last then false else p.tapReading }
    .next (if parityBad then s.tapStray region tile else s)

/-- The element count of a beat that the probe uses, with NELCLIP where it was above 512/w (R511). -/
def State.clipBeat (s : State) (r t : Nat) (f : Fmt) (nel : Nat) : Nat × State :=
  (clipNel f nel, if nel > 512 / f.width then s.raise Reg.TP_EVENT_NELCLIP (pid r t) else s)

/-- An egress beat folded into a slot's signature (R102). -/
def Slot.foldSig (x : Slot) (k : Kappa) (f : Fmt) (nel data : Nat) : Slot :=
  let (rho, k') := k.nextRho
  { x with kappa := some k', sa := sigBeat x.sa rho.1 k.kA f.width nel data, sb := sigBeat x.sb rho.2 k.kB f.width nel data }

/-- An egress beat folded into a tenant slot's digest contribution (R282). -/
def Slot.foldDigest (x : Slot) (k : Kappa) (f : Fmt) (nel data : Nat) : Slot :=
  let (x', k') := x.foldChunks k (digestChunks f data nel)
  { x' with dkappa := some k' }

/-- EGRESS_BEAT (R91, R102, R282, R312): signature, contribution, release tag and counts of an ACTIVE slot. -/
def execEgressBeat (region tile slot data nel : Nat) (lastb lastc : Bool) (s : State) : Host.Outcome State Fault Refusal :=
  let p := s.probe region tile
  let x := p.slot slot
  if x.st ≠ .active then .next s
  else
    let f := x.last.rofmtOf
    let (n, s) := s.clipBeat region tile f nel
    let x := x.foldSig (x.kappa.getD (s.readingKappa region p x)) f n data
    let x := if x.job = .tenant then x.foldDigest (x.dkappa.getD (s.digestKappa p x)) f n data else x
    let tag := addp x.tag (tagBeat f data n)
    let x := { x with ebeats := x.ebeats + 1, elems := x.elems + n, lastc := x.lastc || lastc, tag := if lastb then 0 else tag }
    let s := s.modProbe region tile (fun p => { (p.setSlot slot x) with etag := if lastb then p.etag ++ [tag] else p.etag })
    let oc := x.first.opclass
    .next ((s.count region tile 13 1).activity region tile x.actIndex
      [(4, if oc = 2 ∨ oc = 3 then n else 0), (5, if oc = 4 then 64 else 0), (7, 1)])

/-- RELEASE_TAG_OUT (R91): the tag of the oldest ended block on TPI_ETAG. -/
def execReleaseTagOut (region tile : Nat) (s : State) : Host.Outcome State Fault Refusal :=
  match (s.probe region tile).etag with
  | [] => .next s
  | tag :: rest => .next ((s.modProbe region tile (fun p => { p with etag := rest })).emit (.etag region tile tag))

/-! ## The decision -/

/-- A FAIL of a slot at the fence (R94): the event, the FAULT flit and, with retries left, TPI_RETRY. -/
def State.failSlot (s : State) (r t i : Nat) (o : CheckOutcome) : State :=
  let p := s.probe r t
  let x := p.slot i
  let tap := o == .tapParity
  let addr := checkAddr x.first.htag o.code i x.first.layer x.first.operator x.band
  let s := s.raise (if tap then Reg.TP_EVENT_TAPPAR else Reg.TP_EVENT_CHKFAIL) (pid r t)
  let own := p.eff == .opened || (p.eff == .retry && p.retrySlot == some i)
  let left := s.retriesLeft r t
  if own ∧ 0 < left then
    let s := (s.modProbe r t (fun p => { p with retries := some (left - 1) })).setFence r t .retry
    (s.probeFault r t (if tap then 0x003 else 0x001) x.first.tenant addr).retryPulse r t i
  else
    let s := if p.eff = .opened ∨ p.eff = .retry then s.setFence r t .fenced else s
    s.probeFault r t (if tap then 0x004 else 0x002) x.first.tenant addr

/-- The retry has passed: the fence opens, with the retries restored, once no FAULT flit waits (R94, R26). -/
def State.retryOpens (s : State) (r t : Nat) : State :=
  let p := s.probe r t
  if p.faultOut = [] then
    ((s.setProbe r t { p with retrySlot := none, retryTaken := false, retryPassed := false, retries := none }).raise
      Reg.TP_EVENT_RETRYPASS (pid r t)).setFence r t .opened
  else s.setProbe r t { p with retryPassed := true }

/-- A decision other than FAIL and BAND_STOP of the retried slot (R94); NA and UNCHECKED count as PASS (assumption 31). -/
def State.retryDecided (s : State) (r t i : Nat) : State :=
  let p := s.probe r t
  if p.eff = .retry ∧ p.retrySlot = some i ∧ p.retryTaken then s.retryOpens r t else s

/-- Multiply-accumulates and elements of a decided slot added to the four counts of its context (R71, R118). -/
def State.coverage (s : State) (r t i : Nat) (o : CheckOutcome) : State :=
  let p := s.probe r t
  let x := p.slot i
  match o.countIndex with
  | none => s
  | some c =>
    let a := p.accum x.ctx
    let a := if x.first.matrix then { a with macs := addAt a.macs c x.macs } else { a with elems := addAt a.elems c x.elems }
    s.setProbe r t { p with acc := tput x.ctx a p.acc }

/-- `TP_CNT_LAST` at a decision: the deltas of the eight counters and the tags of the slot's first header (R466). -/
def State.latchCounters (s : State) (r t i : Nat) (o : CheckOutcome) : State :=
  let x := (s.probe r t).slot i
  let deltas := (List.zip (s.counters r t) x.latch).map (fun e => saturate 20 (wrap 32 (e.1 + 2 ^ 32 - e.2)))
  s.setAll (pid r t) [(Reg.TP_CNT_LAST_TENANT, x.first.tenant), (Reg.TP_CNT_LAST_HTAG, x.first.htag), (Reg.TP_CNT_LAST_SLOT, i), (Reg.TP_CNT_LAST_OUTCOME, o.code),
    (Reg.TP_CNT_LAST_VALID, 1), (Reg.TP_CNT_LAST_LAYER, x.first.layer), (Reg.TP_CNT_LAST_OPERATOR, x.first.operator),
    (Reg.TP_CNT_LAST_D, pack (deltas.zipIdx.map (fun e => (20 * e.2, 20, e.1))))]

/-- A CMD trace record where its class is enabled and the filter and sampling pass it (R469). -/
def State.traceCmd (s : State) (r t i : Nat) (o : CheckOutcome) : State :=
  let p := s.probe r t
  let x := p.slot i
  let hit := bit (s.get Reg.RH_TR_CTRL_CLASSEN r) 1
    && (s.on Reg.RH_TR_FILT_ANYT r || s.get Reg.RH_TR_FILT_TENANT r == x.first.tenant)
    && (s.on Reg.RH_TR_FILT_ANYL r || s.get Reg.RH_TR_FILT_LAYER r == x.first.layer)
  if hit = false then s
  else
    let n := p.cmdSamples
    let s := s.setProbe r t { p with cmdSamples := n + 1 }
    if n % 2 ^ (s.get Reg.RH_TR_CTRL_SAMPLE r) ≠ 0 then s
    else
      let busy := saturate 20 (wrap 32 (s.get Reg.TP_CNT0_COUNT (pid r t) + 2 ^ 32 - x.latch.getD 0 0))
      s.probeTrace r t [traceHead 1 x.first.tenant (s.hub r).gt + pack [(48, 11, t), (59, 3, o.code), (62, 8, x.first.htag), (70, 16, x.first.layer),
        (86, 16, x.first.operator), (102, 20, busy), (122, 2, i)]]

/-- `TP_CAPTURE` for outcomes 1, 2, 3 and 6 (R67). -/
def State.capture (s : State) (r t i : Nat) (o : CheckOutcome) : State :=
  let x := (s.probe r t).slot i
  let v := x.views
  if o.isFail then
    s.setAll (pid r t) [(Reg.TP_CAPTURE_PA, canon v.1), (Reg.TP_CAPTURE_TA, canon x.tA), (Reg.TP_CAPTURE_PB, canon v.2), (Reg.TP_CAPTURE_TB, canon x.tB),
      (Reg.TP_CAPTURE_CMDCNT, x.count), (Reg.TP_CAPTURE_TENANT, x.first.tenant), (Reg.TP_CAPTURE_OUTCOME, o.code), (Reg.TP_CAPTURE_BAND, x.band),
      (Reg.TP_CAPTURE_DATAFLOW, flag x.first.ws), (Reg.TP_CAPTURE_STEPS, saturate 20 (x.steps - 1)), (Reg.TP_CAPTURE_GTLO, (s.hub r).gt)]
  else s

/-- A chosen readable slot waits for its reader: READING, and RD_REQ to the hub (R106, R114). -/
def State.beginReading (s : State) (r t i : Nat) : State :=
  let x := (s.probe r t).slot i
  (s.setSlot r t i { x with st := .reading, agreed := false }).send (msgRdReq r t i x.first x.sa x.sb x.ebeats x.ru x.rdom x.rcount (s.hub r).gt)

/-- Counting registers of a decision: `TP_LAST`, the probe's counters, the latch and the trace (R97, R465, R466, R469). -/
def State.noteDecision (s : State) (r t i : Nat) (o : CheckOutcome) : State :=
  let x := (s.probe r t).slot i
  let s := (s.emit (.outValid r t o.code x.first.htag)).setAll (pid r t) [(Reg.TP_LAST_OUTCOME, o.code), (Reg.TP_LAST_SLOT, i), (Reg.TP_LAST_HTAG, x.first.htag),
    (Reg.TP_LAST_TENANT, x.first.tenant)]
  let s : State := match o with
    | .pass => s.count r t 1 1
    | .na => s.count r t 3 1
    | .unchecked => s.count r t 6 1
    | .bandStop => s
    | _ => s.count r t 2 1
  (s.latchCounters r t i o).traceCmd r t i o

/-- The move of a decided slot by the slot table (R88, R98). A BAND_STOP of the retried slot leaves the fence in RETRY (assumption 128). -/
def State.moveDecided (s : State) (r t i : Nat) (o : CheckOutcome) : State :=
  let p := s.probe r t
  let x := p.slot i
  match o with
  | .bandStop => (s.setSlot r t i { x with st := .bandheld, chainOpen := false }).raise Reg.TP_EVENT_BANDSTOP (pid r t)
  | .pass => (s.makeReleasable r t i).retryDecided r t i
  | .na | .unchecked =>
    let d := (tgetD {} x.ctx p.ctx).d
    if x.readable d then
      (if p.chosen x then (s.beginReading r t i).retryDecided r t i else (s.makeReleasable r t i).retryDecided r t i)
    else
      let tenant := x.first.tenant
      let s := s.modHub r (fun h => { h with readCounts := tput tenant { (tgetD {} tenant h.readCounts : ReadCount) with
        unread := wrap 32 ((tgetD {} tenant h.readCounts).unread + 1) } h.readCounts })
      (s.makeReleasable r t i).retryDecided r t i
  | _ => (s.setSlot r t i { x with st := .failed }).failSlot r t i o

/-- GATE_DECISION (R66, R71, R87): the outcome of a slot whose last condition is met, with everything that follows from it. -/
def execGateDecision (region tile slot : Nat) (s : State) : Host.Outcome State Fault Refusal :=
  let p := s.probe region tile
  let x := p.slot slot
  if x.decidable_ ∧ x.job = .tenant then
    let o := x.decide_ (x.sawB4 || p.band == 4)
    let s := if x.countError then s.raise Reg.TP_EVENT_CNTERR (pid region tile) else s
    let s := s.modProbe region tile (fun p => (p.setSlot slot { x with outcome := some o, chainOpen := false, gtDecision := (s.hub region).gt }).progressed x.first.tenant)
    let s := (s.noteDecision region tile slot o).coverage region tile slot o
    .next ((s.capture region tile slot o).moveDecided region tile slot o)
  else .next s

/-- SLOT_DRAIN (R88, R89): a RELEASED slot becomes FREE; any other drain sets HDRERR. -/
def execSlotDrain (region tile slot : Nat) (s : State) : Host.Outcome State Fault Refusal :=
  let p := s.probe region tile
  let x := p.slot slot
  if x.st = .released then
    .next ((s.setProbe region tile ((p.setSlot slot {}).progressed x.first.tenant)).checkIdle region tile)
  else .next (s.raise Reg.TP_EVENT_HDRERR (pid region tile))

/-! ## Mesh ingress -/

/-- Landing lines that an A, B or output region of a slot forbids (R90). -/
def Probe.linesBusy (p : Probe) (line lines : Nat) : Bool :=
  p.unreleased.any (fun i => (p.slot i).hdrs.any (fun h => readsOverlap h line lines || linesOverlap h.obase h.olen line lines))

/-- A refused block: `TP_TAGERR`, the event, TPI_MIN_BAD and INGRESS_TAG (R92). -/
def State.refuseBlock (s : State) (r t : Nat) (src tag reason : Nat) (fmtBad : Bool) : State :=
  let x := bits src 0 11
  let y := bits src 11 11
  let s := s.setAll (pid r t) [(Reg.TP_TAGERR_TAG, canon (bits tag 0 31)), (Reg.TP_TAGERR_REASON, reason), (Reg.TP_TAGERR_SRCX, x), (Reg.TP_TAGERR_SRCY, y),
    (Reg.TP_TAGERR_FMTBAD, flag fmtBad)]
  let s := s.raise (if reason = 1 then Reg.TP_EVENT_OVERLAP else Reg.TP_EVENT_TAGBAD) (pid r t)
  ((s.emit (.minBad r t)).count r t 11 1).probeFault r t 0x007 0 (pack [(0, 11, x), (11, 11, y), (22, 1, reason), (23, 1, flag fmtBad)])

/-- The decision of a block at its LAST flit (R90, R92). -/
def State.decideBlock (s : State) (r t : Nat) (b : MeshOpen) (tag : Nat) : State :=
  let p := s.probe r t
  let s := if b.prot then s else s.setProbe r t { p with unprotected := p.unprotected + 1 }
  if p.linesBusy b.line b.lines then s.refuseBlock r t b.src tag 1 false
  else if b.prot ∧ (Fmt.ofCode b.fmt).isNone then s.refuseBlock r t b.src tag 0 true
  else if b.prot ∧ canon (bits tag 0 31) ≠ b.tag then s.refuseBlock r t b.src tag 0 false
  else (s.emit (.minOk r t)).count r t 10 1

/-- MESH_BLOCK (R92): a flit of a mesh block; at LAST the block is decided. Ingress flits count to tenant 0, since they name no tenant. -/
def execMeshBlock (region tile : Nat) (first last prot : Bool) (fmt nel data tag src line lines : Nat) (s : State) : Host.Outcome State Fault Refusal :=
  let s := s.activity region tile 16 [(8, 1)]
  let p := s.probe region tile
  let open_ : Option MeshOpen :=
    if first then some { src := src, prot := prot, fmt := wrap 4 fmt, line := line, lines := lines, tag := 0 } else p.meshOpen.find? (fun b => b.src == src)
  match open_ with
  | none => .next s
  | some b =>
    let (n, s) : Nat × State := match Fmt.ofCode b.fmt with
      | some f => s.clipBeat region tile f nel
      | none => (nel, s)
    let b := { b with tag := match Fmt.ofCode b.fmt with | some f => addp b.tag (tagBeat f data n) | none => b.tag }
    let rest := p.meshOpen.filter (fun c => c.src != src)
    let s := s.modProbe region tile (fun p => { p with meshOpen := if last then rest else rest ++ [b] })
    .next (if last then s.decideBlock region tile b tag else s)

/-! ## The fence -/

/-- SRAM_ECC_EVENT (R93, R150): a corrected event is reported; an uncorrectable one fences, and spoils a move or a reading that reads. -/
def execSramEccEvent (region tile : Nat) (uncorrectable : Bool) (line : Nat) (s : State) : Host.Outcome State Fault Refusal :=
  let p := s.probe region tile
  let s : State := match p.move with
    | some m => if m.order.send ∧ p.xownAck then s.flagMove region tile (fun d => { d with ecc := d.ecc || uncorrectable, eccUnits := d.eccUnits + 1 }) else s
    | none => s
  if uncorrectable then
    let s := (s.raise Reg.TP_EVENT_ECCU (pid region tile)).modProbe region tile (fun p => { p with readOrder := p.readOrder.map (fun o => { o with fault := true }) })
    let s := if p.eff = .opened ∨ p.eff = .retry ∨ p.eff = .fenced then s.setFence region tile .fenced else s
    .next (s.probeFault region tile 0x009 0 (wrap 11 line))
  else .next ((s.raise Reg.TP_EVENT_ECCC (pid region tile)).probeFault region tile 0x008 0 (wrap 11 line))

/-- The effect of writing 1 to `TP_CTRL.FENCE_REQ` (R94, R97): OPEN and RETRY go to FENCED with SW_FENCE; in FENCED the bit alone takes the value, as
R94 has no row and no fault for it there (assumption 129). -/
def State.fenceReq (s : State) (r t : Nat) : State :=
  let p := s.probe r t
  if p.eff = .opened ∨ p.eff = .retry then
    ((s.setFence r t .fenced).set Reg.TP_CTRL_FENCE_REQ (pid r t) 1).probeFault r t 0x00A 0 0
  else if p.eff = .fenced then s.set Reg.TP_CTRL_FENCE_REQ (pid r t) 1
  else s

/-- The position exists in the grid. -/
def State.hasTile (s : State) (r t : Nat) : Bool := decide (r < s.regionCount ∧ t < 1056)

/-- FENCE_REQ (R93): a write of the system tenant. -/
def execFenceReq (region tile ten tag : Nat) (s : State) : Host.Outcome State Fault Refusal :=
  .next (s.hostWrite ten tag (Win.base .probe (pid region tile) + 8) none (s.hasTile region tile) (fun s => s.fenceReq region tile))

/-- RETRY_TIMEOUT (R94): FENCED, with a RETRY_TMO flit, while no retry header has been accepted. -/
def execRetryTimeout (region tile : Nat) (s : State) : Host.Outcome State Fault Refusal :=
  let p := s.probe region tile
  match p.retrySlot with
  | some i =>
    if p.eff = .retry ∧ p.retryTaken = false then
      let x := p.slot i
      let code := match x.outcome with | some o => o.code | none => 0
      .next (((s.raise Reg.TP_EVENT_RETRYTO (pid region tile)).setFence region tile .fenced).probeFault region tile 0x005 x.first.tenant
        (checkAddr x.first.htag code i x.first.layer x.first.operator x.band))
    else .next s
  | none => .next s

/-- FAULT_FLIT_DEPART (R26, R512): the oldest waiting FAULT flit enters the hub's queue, where it has room; the last one to leave opens a fence
held closed only for it. -/
def execFaultFlitDepart (region tile : Nat) (s : State) : Host.Outcome State Fault Refusal :=
  let p := s.probe region tile
  match p.faultOut with
  | [] => .next s
  | m :: rest =>
    if (s.hub region).flt.queue.length ≥ 64 then .next s
    else
      let s := ((s.setProbe region tile { p with faultOut := rest, heldClosed := p.heldClosed && !rest.isEmpty }).hubQueue region m).count region tile 5 1
      .next (if p.retryPassed ∧ p.eff = .retry ∧ rest = [] then s.retryOpens region tile else s)

/-! ## Gating -/

/-- OWING, PROG and HELD of WD_STAT, one bit for each context (R222). -/
def Probe.wdMasks (p : Probe) : Nat × Nat × Nat :=
  let idx := fun (test : Nat → Bool) => maskOf ((p.ctx.filter (fun e => e.2.valid && test e.2.tenant)).map (·.1))
  let holds := fun tenant => p.inOrder.any (fun i => (p.slot i).job == .tenant && (p.slot i).first.tenant == tenant)
  (if p.fence = .opened then idx holds else 0, idx (fun tenant => p.progress.contains tenant), idx holds)

/-- The conditions of self-gating but TPI_IDLE (R96). -/
def Probe.mayGate (p : Probe) : Bool :=
  p.powered && p.inOrder.isEmpty && p.fence == .opened && p.faultOut.isEmpty && !p.xown && p.meshOpen.isEmpty && p.role != .gap

/-- PROBE_GATE (R96, R222, R313): with TPI_IDLE at 1 and every condition met the probe sends its counts and a final WD_STAT, and power-gates. -/
def execProbeGate (region tile : Nat) (s : State) : Host.Outcome State Fault Refusal :=
  let p := s.probe region tile
  if p.mayGate then
    let m := p.wdMasks
    let s := s.sendActivity region tile (s.intervalEnd (s.hub region).gt) true
    let s := s.send (msgWdStat region tile false 0 m.2.1 0 true)
    .next (s.modProbe region tile (fun p => { p with idle := true, powered := false, progress := [] }))
  else .next (s.modProbe region tile (fun p => { p with idle := true }))

/-- PROBE_WAKE (R96): TPI_IDLE has fallen, and the probe is powered. -/
def execProbeWake (region tile : Nat) (s : State) : Host.Outcome State Fault Refusal :=
  .next (s.modProbe region tile (fun p => { p with idle := false, powered := true }))

/-! ## The SRAM access port -/

/-- Units of the oldest copy read and sent: all on the copy path, or a burst of at most eight as RD_DATA; the port is claimed again while a copy is left
(R106, R110). -/
def State.copyOut (s : State) (r t : Nat) (c : CopyOrder) (data : List Nat) : State :=
  let now := if c.flue then c.left.take 8 else c.left
  let left := c.left.drop now.length
  let s := (List.zip now data).foldl (fun s e =>
    let s := s.emit (.xrd r t e.1)
    if c.flue then s.send (msgRdData r t e.1 e.2) else s.emit (.copyBeat r t e.1 e.2)) s
  s.modProbe r t (fun p =>
    let rest := if left = [] then p.copies.drop 1 else { c with left := left } :: p.copies.drop 1
    { p with xownAck := false, xown := decide (rest ≠ []), copies := rest })

/-- CAT_MOVED of a move (R148, R150). -/
def State.sendMoved (s : State) (r t : Nat) (m : MoveState) : State :=
  s.send (msgCatMoved r t (!(m.busy || m.ecc || m.timeout)) m.busy m.ecc m.timeout (saturate 10 m.eccUnits))

/-- XOWN_ACK (R73, R106, R124, R148): the port is the probe's, and what waited for it goes on; a move whose acknowledgement is late is reported first. `data`
is what TPI_XRD returns, unit by unit. In global stop the probe does not take the port (R136, R164). -/
def execXownAck (region tile : Nat) (data : List Nat) (s : State) : Host.Outcome State Fault Refusal :=
  let p := s.probe region tile
  if p.xown = false ∨ p.xownAck ∨ p.stopLeaf then .next s
  else
    let s := s.setProbe region tile { p with xownAck := true }
    match p.move, p.copies.head?, p.ift.desc with
    | some m, _, _ =>
      let s := if m.timeout then s.sendMoved region tile m else s
      if m.order.send then
        let s := (List.zip (List.range 768) data).foldl (fun s e => (s.emit (.xrd region tile e.1)).emit (.copyBeat region tile e.1 e.2)) s
        .next ((contextBlock m).zipIdx.foldl (fun s e => s.emit (.copyBeat region tile (768 + e.2) e.1)) s)
      else .next s
    | none, some c, _ => .next (s.copyOut region tile c data)
    | none, none, some d => .next (if p.readOrder.isSome then s else s.fillSegment region tile d)
    | none, none, none => .next s

/-- MOVE_XOWN_TIMEOUT (R148): the probe goes on waiting, and will report TIMEOUT at the acknowledgement. -/
def execMoveXownTimeout (region tile : Nat) (s : State) : Host.Outcome State Fault Refusal :=
  let p := s.probe region tile
  match p.move with
  | some m =>
    if p.xown ∧ p.xownAck = false ∧ p.stopLeaf = false then .next (s.setProbe region tile { p with move := some { m with timeout := true } })
    else .next s
  | none => .next s

/-- A beat of a context block loaded at its destination (R147, R148). -/
def Probe.loadBeat (p : Probe) (m : MoveState) (beat data : Nat) : Probe :=
  let n := beat - 768
  if n < 8 then
    let put := fun (l : Table Ctx) i w => if (Ctx.ofWord w).valid then tput i (Ctx.ofWord w) l else tdel i l
    { p with ctx := put (put p.ctx (2 * n) (bits data 0 256)) (2 * n + 1) (bits data 256 256), move := some { m with received := m.received + 1 } }
  else if n < 24 then
    let a := Accum.ofWord data
    { p with acc := if a = {} then tdel (n - 8) p.acc else tput (n - 8) a p.acc, move := some { m with received := m.received + 1 } }
  else
    let str := m.bitsIn + wrap actBeat data <<< (actBeat * (n - 24))
    { p with act := if n = 34 then actOfString str else p.act, move := some { m with bitsIn := str, received := m.received + 1 } }

/-- COPY_UNIT_ARRIVE (R106, R148): a unit is written, for a reading or a move; the beats from 768 on are a move's context block. Nothing arrives while the
stop leaf holds the copy path (R117, R164). -/
def execCopyUnitArrive (region tile beat data : Nat) (s : State) : Host.Outcome State Fault Refusal :=
  let p := s.probe region tile
  if p.stopLeaf then .next s
  else match p.move, p.readOrder with
  | some m, _ =>
    if m.order.recv = false then .next s
    else if beat < 768 then
      .next ((s.setProbe region tile { p with move := some { m with received := m.received + 1 } }).emit (.xwr region tile beat data))
    else if beat ≤ 802 then .next (s.setProbe region tile (p.loadBeat m beat data))
    else .next s
  | none, some o =>
    if o.flue ∨ o.units ≤ o.got ∨ 768 ≤ beat then .next s
    else
      let s := (s.setProbe region tile { p with readOrder := some { o with got := o.got + 1 } }).emit (.xwr region tile beat data)
      .next (s.tryPresent region tile)
  | none, none => .next s

/-- MOVE_COMPLETE (R148): the probe lowers TPI_XOWN; a destination that has not reported a late acknowledgement reports CAT_MOVED (R150). -/
def execMoveComplete (region tile : Nat) (s : State) : Host.Outcome State Fault Refusal :=
  let p := s.probe region tile
  match p.move with
  | some m =>
    if p.xownAck ∧ p.stopLeaf = false then
      let s := s.setProbe region tile { p with move := none, xown := false, xownAck := false }
      .next (if m.order.recv ∧ m.timeout = false then s.sendMoved region tile m else s)
    else .next s
  | none => .next s

/-- ICMD_ACCEPT (R106, R124): the dispatcher takes the reader's header or a segment's, in slot 0; TPI_OP_READY is 1 from acceptance. -/
def execIcmdAccept (region tile : Nat) (s : State) : Host.Outcome State Fault Refusal :=
  let p := s.probe region tile
  match p.readOrder, p.ift.desc with
  | some o, _ =>
    if o.presented ∧ o.started = false then
      let x := Slot.begin_ o.hdr .reading p.nextOrder 0 {} p.band []
      .next ((s.setProbe region tile { (p.setSlot 0 x) with readOrder := some { o with started := true }, nextOrder := p.nextOrder + 1 }).emit (.opReady region tile))
    else .next s
  | none, some d =>
    if p.ift.running ∧ p.xown = false ∧ (p.slot 0).st = .free ∧ p.stopLeaf = false then
      let x := Slot.begin_ d.hdr .ift p.nextOrder 0 {} p.band []
      let pass := if p.ift.walking then 128 + p.ift.step else p.ift.pass
      let visit := wrap 24 (s.get Reg.TP_IFT_VISIT_VISITS (pid region tile))
      let x := x.drawAmounts d.hdr (Trivium.start (s.hub region).iftKey (ivIft p.ift.pat visit pass 0))
      .next ((s.setProbe region tile { (p.setSlot 0 x) with nextOrder := p.nextOrder + 1 }).emit (.opReady region tile))
    else .next s
  | none, none => .next s

/-! ## Clock shrink -/

/-- CSHK_ACK (R126, R136): a stop that waited for step 0 is answered, a reader may present its header, and a walk begins to settle. -/
def execCshkAck (region tile : Nat) (s : State) : Host.Outcome State Fault Refusal :=
  let p := s.probe region tile
  let s := s.setProbe region tile { p with cshkAck := true, ift := { p.ift with cshkWait := false } }
  if p.ift.stopping ∧ p.ift.state = .stopped then
    .next ((s.modIft region tile (fun i => { i with stopping := false })).send (msgIftStopped region tile))
  else .next (s.tryPresent region tile)

/-- CSHK_TIMEOUT (R134): the walk ends without a sample, at step 0, and the passes go on. -/
def execCshkTimeout (region tile : Nat) (s : State) : Host.Outcome State Fault Refusal :=
  let p := s.probe region tile
  if p.ift.inLoop ∧ p.ift.cshkWait ∧ p.ift.suspended = false ∧ p.stopLeaf = false then
    let s := s.modIft region tile (fun i => { i with tmoStep := i.step, cshkWait := false })
    .next ((s.driveCshk region tile 0).endWalk region tile false false true)
  else .next s

/-- MW_SETTLE_DONE (R126): the first MARGIN pattern of the step runs. -/
def execMwSettleDone (region tile : Nat) (s : State) : Host.Outcome State Fault Refusal :=
  let i := (s.probe region tile).ift
  if i.inLoop ∧ i.cshkWait = false ∧ i.settled = false ∧ i.suspended = false ∧ (s.probe region tile).stopLeaf = false then
    let s := s.modIft region tile (fun i => { i with settled := true })
    .next (match s.marginPatterns region with
      | k :: _ => s.requestSegment region tile k (if i.seg = .restore then .restore else .step)
      | [] => s)
  else .next s

/-! ## Band -/

/-- A band change during a walk (R128): below B4 it restarts the walk under the new band, and a third restart ends it. -/
def State.walkBand (s : State) (r t : Nat) : State :=
  let i := (s.probe r t).ift
  if i.restarts ≥ 2 then ((s.dropSlot0 r t).driveCshk r t 0).endWalk r t false true false
  else (((s.dropSlot0 r t).driveCshk r t 0).modIft r t (fun i => { i with restarts := i.restarts + 1, desc := none })).startWalk r t

/-- A band change below B4 while a reading or B4 suspends the walk (R128): it will start again from step 1, counted as a restart unless B4 ends. -/
def State.walkBandSuspended (s : State) (r t was : Nat) : State :=
  let p := s.probe r t
  if was = 4 then s.modIft r t (fun i => { i with step := 1, seg := .step, band := p.band })
  else if p.ift.restarts ≥ 2 then (s.endWalk r t false true false).modIft r t (fun i => { i with state := .wait })
  else s.modIft r t (fun i => { i with restarts := i.restarts + 1, step := 1, seg := .step, band := p.band })

/-- BAND changes at a probe (R65, R117, R128, R326): ACTIVE slots note B4; a walk restarts, ends or is suspended; in B4 segments wait and
re-executions stop; below it segments and a reader go on. -/
def State.bandInput (s : State) (r t band : Nat) : State :=
  let p := s.probe r t
  let slots := if band = 4 then tmap (fun _ (x : Slot) => if x.st = .active then { x with sawB4 := true } else x) p.slots else p.slots
  let s := s.setProbe r t { p with band := wrap 3 band, slots := slots, bandRerun := if band = 4 then [] else p.bandRerun }
  if band = 4 then
    let s := s.suspendIft r t
    if p.ift.inLoop ∧ (p.ift.running ∨ p.ift.suspended) then s.modIft r t (fun i => { i with step := 1, seg := .step, b4stop := true }) else s
  else if p.ift.inLoop ∧ p.ift.running ∧ p.ift.band ≠ band then s.walkBand r t
  else
    let s := if p.ift.inLoop ∧ p.ift.suspended ∧ p.ift.band ≠ band then s.walkBandSuspended r t p.band else s
    (s.tryPresent r t).resumeIft r t

/-- BAND_INPUT_CHANGE (R128). -/
def execBandInputChange (region tile band : Nat) (s : State) : Host.Outcome State Fault Refusal := .next (s.bandInput region tile band)

end Sys2Proof.Machine
end

