-- ==== Sys2Proof/Machine/Metering.lean ====
section
/-! DEFINITION. The meanings of the commands of Sense, the power model, anchoring and heat (R306–R327, R442, R453–R455, R462). -/

namespace Sys2Proof.Machine

/-! ## Sense (R307–R311) -/

/-- PERIOD in HCLK; 0 acts as 1. -/
def State.period (s : State) : Nat := max 1 (s.get Reg.SNS_PERIOD_PERIOD 0)

/-- The ENERGY entry of a channel (R315). -/
def State.channelOf (s : State) (n : Nat) : Option ChannelEntry := s.cfg.channels.find? (fun e => e.channel == n && e.kind != 0)

/-- Saturated codes of VSH and VBUS (R307). -/
def saturatedCode (vsh vbus : Nat) : Bool := vsh == 0x7FFF || vsh == 0x8000 || vbus == 0xFFFF

/-- Energy of a conversion in nanojoules (R309); none where the shunt is declared as 0. -/
def conversionEnergy (e : ChannelEntry) (period rclk vsh vbus : Nat) : Option Nat :=
  if e.rshunt = 0 ∨ rclk = 0 then none
  else some (((signed 16 vsh - e.offset).toNat * e.gain * vbus * 2500 * period) / (32768 * e.rshunt * rclk))

/-- A channel after its open-wire test (R310, R311), and whether the conversion is committed. -/
def SenseCh.test (c : SenseCh) (pass past : Bool) : SenseCh × Bool :=
  if pass = false then
    ({ c with openCnt := wrap 32 (c.openCnt + 1), st := .open_, passes := 0 }, false)
  else if past then (c, false)
  else match c.st with
    | .init | .probation => if c.passes < 2 then ({ c with passes := c.passes + 1 }, true) else ({ c with st := .good }, true)
    | .open_ => ({ c with st := .probation, passes := 1 }, true)
    | _ => (c, true)

/-- A part of `len` HCLK of a period's conversion joins the interval in progress: its energy in nJ × PERIOD, or trouble (R316, R318). -/
def KInterval.addPart (k : KInterval) (len : Nat) (l : List (Nat × Option Nat)) : KInterval :=
  if len = 0 then k
  else l.foldl (fun (k : KInterval) e =>
    match e.2 with
    | some nj => { k with meas := tput e.1 (tgetD 0 e.1 k.meas + nj * len) k.meas }
    | none => { k with bad := if k.bad.contains e.1 then k.bad else k.bad ++ [e.1] }) k

/-- The interval in progress ends and is measured (R316). -/
def Tally.endInterval (y : Tally) (e : Nat) : Tally :=
  let o := tgetD {} e y.intervals
  { y with cur := {}, intervals := tput e { y.cur with models := o.models, late := o.late, measured := true } y.intervals }

/-- A period from `a` to `b` is laid into intervals that end at the instants of a rising list (R316). -/
def Tally.layPeriod (y : Tally) (l : List (Nat × Option Nat)) (a b : Nat) : List Nat → Tally
  | [] => { y with cur := y.cur.addPart (b - a) l }
  | e :: rest =>
    let y := { y with cur := y.cur.addPart (e - a) l }
    Tally.layPeriod (y.endInterval e) l (max a e) b rest

/-! ## Anchoring (R316–R319) -/

/-- Energy into a counter, in nanojoules: whole microjoules count, the rest is carried (R319). -/
def EnCounter.charge (c : EnCounter) (nj : Nat) (ua : Bool) : EnCounter :=
  { c with count := wrap 64 (c.count + (c.frac + nj) / 1000), frac := (c.frac + nj) % 1000, ua := c.ua || ua }

/-- The channel that feeds a region (R315). -/
def State.channelFor (s : State) (r : Nat) : Option Nat := (s.cfg.channels.find? (fun e => e.kind == 1 && e.regions.contains r)).map (·.channel)

/-- A REGION channel's factor of an interval before the AUX rails: clamped, and whether it needed a clamp (R317). Without model energy the quotient is
free (assumption 54). -/
def State.rawFactor (s : State) (k : KInterval) (e : ChannelEntry) : (Nat × Bool) × State :=
  let mod := (e.regions.filterMap (fun r => tget r k.models)).foldl (· + ·) 0
  let (q, s) := if mod = 0 then s.fresh 32 else (tgetD 0 e.channel k.meas * 2 ^ 20 / (s.period * mod), s)
  ((max (2 ^ 19) (min (2 ^ 21) q), decide (q < 2 ^ 19 ∨ 2 ^ 21 < q)), s)

/-- A channel had no trouble in an interval (R318). -/
def State.cleanIn (s : State) (k : KInterval) (e : ChannelEntry) : Bool :=
  (tgetD {} e.channel s.tally.channels).st != .off && !k.bad.contains e.channel && e.regions.all (fun r => s.lost.contains r || (tget r k.models).isSome)
    && !e.regions.any (fun r => s.lost.contains r)

/-- Factors of the REGION channels, in channel order: channel, factor, anchored, clamped (R317, R318). -/
def State.factors (s : State) (k : KInterval) : List ChannelEntry → List (Nat × Nat × Bool × Bool) × State
  | [] => ([], s)
  | e :: rest =>
    let ((q, clamp), s1) := s.rawFactor k e
    let good := s.cleanIn k e && !clamp
    let (l, s2) := State.factors s1 k rest
    ((e.channel, (if good then q else (tgetD {} e.channel s.tally.channels).kbar), good, clamp && s.cleanIn k e) :: l, s2)

/-- A factor with the energy of the spread AUX rails added: floor(k × (1 + A / M)) (R317); with no measured energy to carry it nothing is added
(assumption 54). -/
def spread (k a m : Nat) : Nat := if m = 0 then k else k * (m + a) / m

/-- The Kiln's fixed energy over `n` HCLK and the AUX rails not spread, charged to tenant 0 (R314, R319); an unanchored rail's energy at its long-run
factor is free (assumption 54). -/
def State.kilnEnergy (s : State) (k : KInterval) (aux : List ChannelEntry) (n : Nat) : State :=
  let fixed := (s.cfg.kilnFix.getD 0) * 4000 * n / max 1 s.cfg.rclk
  let (nj, ua, s) : Nat × Bool × State := aux.foldl (fun (acc : Nat × Bool × State) c =>
    if acc.2.2.cleanIn k c then (acc.1 + tgetD 0 c.channel k.meas / acc.2.2.period, acc.2.1, acc.2.2)
    else let (v, s) := acc.2.2.fresh 32; (acc.1 + v, true, s)) (fixed, false, s)
  if nj = 0 ∧ ua = false then s
  else { s with tally := { s.tally with counters := tput 0 ((tgetD {} 0 s.tally.counters).charge nj ua) s.tally.counters } }

/-- The factors that EN_ANCHOR carries (R317, R318): those of anchored channels with the spread AUX rails added, `a` over `m`; where such a rail is not
anchored, no factor is, and the long-run ones go out (assumption 150). -/
def State.sentFactors (s : State) (auxBad : Bool) (a m : Nat) (fs : List (Nat × Nat × Bool × Bool)) : List (Nat × Nat × Bool × Bool) :=
  fs.map (fun f =>
    if auxBad then (f.1, (tgetD {} f.1 s.tally.channels).kbar, false, f.2.2.2)
    else if f.2.2.1 then (f.1, spread f.2.1 a m, f.2.2)
    else f)

/-- A sweep that waits for the anchor at `e` takes it: each counter keeps what it held, and the sweep may commit. -/
def State.anchorSweep (s : State) (e : Nat) (flip : Bool) : State :=
  match s.tally.sweep with
  | some w =>
    if w.t = e ∧ w.anchored = false then
      let pend := fun (t : Nat) (c : EnCounter) => if w.want.tenant = none ∨ w.want.tenant = some t then { c with pending := some (w.number, c.count) } else c
      ({ s with tally := { s.tally with sweep := some { w with anchored := true }, counters := tmap pend s.tally.counters } }).tryCommit flip
    else s
  | none => s

/-- The Kiln anchors a measured interval once its models have arrived or are late (R317–R319): factors, EN_ANCHOR, long-run factors, and the Kiln's own
energy; then the sweep that waits for it. -/
def State.tryAnchor (s : State) (e : Nat) (flip : Bool) : State :=
  match tget e s.tally.intervals with
  | none => s
  | some k =>
    if k.measured = false ∨ (k.late = false ∧ s.liveRegions.any (fun r => (tget r k.models).isNone)) then s
    else
      let chans := (List.range 8).filterMap s.channelOf
      let aux := chans.filter (fun c => c.kind == 2)
      let (fs, s) := s.factors k (chans.filter (fun c => c.kind == 1))
      let spreadAux := aux.filter (·.apportion)
      let auxBad := spreadAux.any (fun c => !s.cleanIn k c)
      let a := (spreadAux.map (fun c => tgetD 0 c.channel k.meas)).foldl (· + ·) 0
      let m := ((fs.filter (fun f => f.2.2.1)).map (fun f => tgetD 0 f.1 k.meas)).foldl (· + ·) 0
      let fs := s.sentFactors auxBad a m fs
      let mask := maskOf ((fs.filter (fun f => f.2.2.1)).map (·.1))
      let allMask := mask ||| maskOf ((aux.filter (fun c => s.cleanIn k c)).map (·.channel))
      let chs := fs.foldl (fun (t : Table SenseCh) f =>
        let c := tgetD {} f.1 t
        let kb := if f.2.2.1 then ((c.kbar : Int) + ((f.2.1 : Int) - (c.kbar : Int)) / 64).toNat else c.kbar
        tput f.1 { c with k := f.2.1, kbar := kb, anchored := f.2.2.1 } t) s.tally.channels
      let chs := aux.foldl (fun (t : Table SenseCh) c => let o : SenseCh := tgetD {} c.channel t; tput c.channel { o with anchored := s.cleanIn k c } t) chs
      let factorOf := fun n => match fs.find? (fun f => f.1 == n) with | some f => f.2.1 | none => (tgetD ({} : SenseCh) n chs).kbar
      let gone := maskOf ((chans.map (·.channel)).filter (fun n => !bit allMask n))
      let s := { s with tally := { s.tally with channels := chs, intervals := tdel e s.tally.intervals,
                                                unanch := if gone = 0 then s.tally.unanch else tput e gone s.tally.unanch } }
      let s := if fs.any (fun f => f.2.2.2) then s.raise Reg.SNS_EVENT_FAR 0 else s
      let s := s.send (msgEnAnchor e mask ((List.range 8).map factorOf))
      let s := (s.kilnEnergy k (aux.filter (fun c => !c.apportion)) (e - s.tally.lastAnchor))
      let s := { s with tally := { s.tally with lastAnchor := max e s.tally.lastAnchor } }
      s.anchorSweep e flip

/-- Anchor each interval of a list that is ready. -/
def State.tryAnchors (s : State) (flip : Bool) (l : List Nat) : State := l.foldl (fun s e => s.tryAnchor e flip) s

/-- One channel's conversion (R309–R311): its codes, energy and state; a GOOD channel that fails raises SENSE_OPEN. The energy is none where the conversion
does not anchor. -/
def State.convert (s : State) (n vsh vbus tvsh tvbus : Nat) : Option Nat × State :=
  let c := tgetD {} n s.tally.channels
  if c.st = .off then (none, s)
  else
    let past := saturatedCode vsh vbus
    let pass := !saturatedCode tvsh tvbus
    let (c', commit) := c.test pass past
    let (nj, s) : Nat × State := match (s.channelOf n).bind (fun e => conversionEnergy e s.period s.cfg.rclk vsh vbus) with
      | some x => (x, s)
      | none => if commit then s.fresh 32 else (0, s)
    let c' := { c' with vsh := vsh, vbus := vbus, eper := if commit then saturate 32 nj else c'.eper }
    let s := { s with tally := { s.tally with channels := tput n c' s.tally.channels } }
    let s := if pass ∧ past then s.set Reg.SNS_EVENT_OVER 0 (s.get Reg.SNS_EVENT_OVER 0 ||| 2 ^ n) else s
    let s := if pass = false ∧ c.st = .good then
        (s.kilnFault 0x1D n 0x402 0 n).set Reg.SNS_EVENT_OPEN 0 (s.get Reg.SNS_EVENT_OPEN 0 ||| 2 ^ n)
      else s
    (if commit ∧ c'.st = .good then some nj else none, s)

/-- The conversions of every channel of a period, in channel order. -/
def State.convertAll (s : State) (codes : List (Nat × Nat × Nat × Nat × Nat)) : List Nat → List (Nat × Option Nat) × State
  | [] => ([], s)
  | n :: rest =>
    let (e, s1) : Option Nat × State := match codes.find? (fun c => c.1 == n) with
      | some c => s.convert n c.2.1 c.2.2.1 c.2.2.2.1 c.2.2.2.2
      | none => (none, s)
    let (l, s2) := State.convertAll s1 codes rest
    ((n, e) :: l, s2)

/-- Instants below `n` of a list, in rising order, each once. -/
def risingUpTo (n : Nat) (l : List Nat) : List Nat := ((l.filter (fun t => decide (t ≤ n))).foldl (fun acc t => insertBy id t acc) []).eraseDups

/-- SENSE_CONVERSION (R307–R311, R316): the period that ended at the latest multiple of PERIOD. `codes` gives each channel's VSH and VBUS of the
integration, then of the test window. -/
def execSenseConversion (codes : List (Nat × Nat × Nat × Nat × Nat)) (s : State) : Host.Outcome State Fault Refusal :=
  let s := s.syncSense
  let p := s.period
  let b := s.gt / p * p
  let (l, s) := s.convertAll codes (List.range 8)
  let ends := risingUpTo b (s.tally.cuts ++ (if b % (16 * p) = 0 then [b] else []))
  let s := { s with tally := { s.tally.layPeriod l (b - p) b ends with cuts := s.tally.cuts.filter (fun t => decide (b < t)) } }
  .next (s.tryAnchors true ends)

/-! ## Intervals (R313, R314, R319) -/

/-- INTERVAL_END (R313, R316): at the end of a regular interval each powered probe of the region sends its counts, and the hub closes the interval. -/
def execIntervalEnd (region : Nat) (s : State) : Host.Outcome State Fault Refusal :=
  let n := 16 * s.period
  let gt := (s.hub region).gt / n * n
  if ((tget gt (s.hub region).en.intervals).map (·.closed)).getD false then .next s
  else
    let l := (s.probes.filter (fun e => e.1 / 2048 == region && e.2.powered)).map (fun e => e.1 % 2048)
    let s := l.foldl (fun s t => s.sendActivity region t gt false) s
    .next ((s.closeInterval region gt none).tryModel region gt)

/-- EN_ACT (R313): the counts are added to the interval they name; after the last the hub sends EN_MODEL. -/
def execEnAct (region tile tenant gt : Nat) (isPartial : Bool) (counts : List Nat) (s : State) : Host.Outcome State Fault Refusal :=
  let s := s.recv (msgEnAct region tile tenant gt isPartial counts)
  let x := tgetD {} gt (s.hub region).en.intervals
  if x.done then .next s
  else
    let old := tgetD zeroAct tenant x.counts
    .next ((s.modEn region (fun n => { n with intervals := tput gt { x with counts := tput tenant (sumCounts old counts) x.counts } n.intervals })).tryModel region gt)

/-- EN_MARK (R328): the probe ends its interval at the sweep instant. -/
def execEnMark (region tile acc instant : Nat) (s : State) : Host.Outcome State Fault Refusal :=
  .next ((s.atProbe region tile acc (msgEnMark region tile acc instant) (fun s => s.sendActivity region tile instant false)).tryModel region instant)

/-- EN_MODEL (R317): the Kiln collects a hub's total, and anchors the interval when all are here. -/
def execEnModel (region gt total mv : Nat) (s : State) : Host.Outcome State Fault Refusal :=
  let s := s.recv (msgEnModel region gt total mv)
  if gt ≤ s.tally.lastAnchor ∧ (tget gt s.tally.intervals).isNone then .next s
  else
    let k := tgetD {} gt s.tally.intervals
    .next ({ s with tally := { s.tally with intervals := tput gt { k with models := tput region total k.models } s.tally.intervals } }.tryAnchor gt true)

/-- EN_MODEL_TIMEOUT (R318): 200 µs after the end of an interval, what is missing leaves its channels unanchored. -/
def execEnModelTimeout (gt : Nat) (s : State) : Host.Outcome State Fault Refusal :=
  if gt ≤ s.tally.lastAnchor ∧ (tget gt s.tally.intervals).isNone then .next s
  else
    let k := tgetD {} gt s.tally.intervals
    .next ({ s with tally := { s.tally with intervals := tput gt { k with late := true } s.tally.intervals } }.tryAnchor gt true)

/-! ## Counters (R319, R327) -/

/-- A hub counter entry that its tenant no longer needs is freed (R327). -/
def State.freeCounters (s : State) (r : Nat) : State :=
  let h := s.hub r
  let idle := fun (t : Nat) => t != 0 && !h.cat.holders.any (fun e => e.2.contains t) && !h.en.intervals.any (fun e => (tget t e.2.energy).isSome || (tget t e.2.counts).isSome)
  s.setHub r { h with en := { h.en with counters := h.en.counters.filter (fun e => !(idle e.1 && e.2.count == e.2.base)) } }

/-- Energy of a tenant into its entry of a hub, or, where none of 513 is free, into tenant 0's (R327). -/
def State.chargeHub (s : State) (r t nj : Nat) (ua : Bool) : State :=
  let e := (s.hub r).en
  let put := fun (s : State) (k : Nat) => s.modEn r (fun n => { n with counters := tput k ((tgetD {} k n.counters).charge nj ua) n.counters })
  if (tget t e.counters).isSome ∨ t = 0 ∨ (e.counters.filter (fun x => x.1 != 0)).length < 512 then put s t
  else ((put s 0).raise Reg.RH_EN_EVENT_ENOVF r).setGap [t]

/-- TL_REPORT of a sweep's interval (R328): COUNT − BASE and UA of every entry, or of the named tenant's; COUNT becomes the pending base. -/
def State.reportSweep (s : State) (r number : Nat) (tenant : Option Nat) : State :=
  let take := fun (t : Nat) => tenant.isNone || tenant == some t
  let l := ((s.hub r).en.counters.filter (fun e => take e.1)).map (fun e => (e.1, e.2.ua, e.2.count - e.2.base))
  let s := s.modEn r (fun n => { n with counters := tmap (fun t (c : EnCounter) => if take t then { c with pending := some (number, c.count) } else c) n.counters })
  let cs := chunksOf 12 l
  if cs = [] then s.send (msgTlReport r 0 true tenant.isSome number [])
  else s.sendAll (cs.zipIdx.map (fun c => msgTlReport r c.2 (c.2 + 1 == cs.length) tenant.isSome number c.1))

/-- EN_ANCHOR (R319, R328): each tenant's model energy times the region's factor goes into its counter; a sweep's interval is then reported. Model energy of
a region without a channel stands as it is, unanchored (assumption 55). -/
def execEnAnchor (region gt mask : Nat) (factors : List Nat) (s : State) : Host.Outcome State Fault Refusal :=
  match tget gt (s.hub region).en.intervals with
  | none => .next s
  | some x =>
    if x.done = false then .next s
    else
      let c := s.channelFor region
      let ua := match c with | some n => !bit mask n | none => true
      let k := match c with | some n => factors.getD n (2 ^ 20) | none => 2 ^ 20
      let s := x.energy.foldl (fun s e => if e.2 = 0 then s else s.chargeHub region e.1 (e.2 * k / 2 ^ 20) ua) s
      let s := if ua then s.raise Reg.RH_EN_EVENT_UNANCH region else s
      let s := s.modEn region (fun n => { n with factor := k, intervals := tdel gt n.intervals })
      let s := match x.sweep with | some w => s.reportSweep region w.1 w.2 | none => s
      .next (s.freeCounters region)

/-- TL_COMMIT (R328): entries whose pending base carries the sweep's number move BASE to it, or drop it on a discard. -/
def execTlCommit (region : Nat) (discard : Bool) (_code sweep : Nat) (_single : Bool) (_tenant : Nat) (s : State) : Host.Outcome State Fault Refusal :=
  let f := fun (_ : Nat) (c : EnCounter) =>
    match c.pending with
    | some p => if p.1 = sweep then (if discard then { c with pending := none } else { c with base := p.2, ua := false, pending := none }) else c
    | none => c
  .next ((s.modEn region (fun n => { n with counters := tmap f n.counters })).freeCounters region)

/-! ## Supply (R314, R442, R455, R462) -/

/-- A neighbour limit is entered, or left (R455): the bit of a direction in RH_PW_STATUS, and BOUNDARY on entering. -/
def State.limit (s : State) (r dir : Nat) (field event : RegField) (past : Bool) : State :=
  let m := s.get field r
  if past then (if bit m dir then s else ((s.set field r (m + 2 ^ dir)).raise event r).hubFault r (hubSrc r) 0x307 0 dir)
  else if bit m dir then s.set field r (m - 2 ^ dir) else s

/-- The supply difference of 120 mV, and the temperature difference of 40 °C in units of 1/64 °C (R453). -/
def supplyLimit : Nat := 120
/-- The temperature limit. -/
def tempLimit : Int := 2560

/-- The state with a hub's neighbour data changed. -/
def State.modPw (s : State) (r : Nat) (f : HubPw → HubPw) : State := s.modHub r (fun h => { h with pw := f h.pw })

/-- Ages of neighbour data after one more reading or step; at 4 the value is left out (R321, R462). -/
def age (l : List (Option Nat × Nat)) : List (Option Nat × Nat) := l.map (fun e => if e.2 ≥ 3 then (none, 4) else (e.1, e.2 + 1))

/-- A direction that has a neighbour whose value is missing. -/
def State.missing (s : State) (r : Nat) (l : List (Option Nat × Nat)) : List Nat :=
  (List.range 4).filter (fun d => (s.neighbour r d).isSome && ((l[d]?).map (fun e => decide (e.2 ≥ 4))).getD false)

/-- SUPPLY_READING (R314, R442, R462): the hub's own VDD; two readings in a row within 15 mV of the target close its transition; PW_NB goes to every
neighbour. -/
def execSupplyReading (region mv : Nat) (s : State) : Host.Outcome State Fault Refusal :=
  let v := wrap 12 mv
  let s := (s.set Reg.RH_EN_VLOC_MV region v).modEn region (fun n => { n with vsum := n.vsum + v, vnum := n.vnum + 1 })
  let tgt := s.get Reg.RH_PW_VTGT_MV region
  let near := if v ≤ tgt + 15 ∧ tgt ≤ v + 15 then (s.hub region).pw.near + 1 else 0
  let s : State :=
    if s.on Reg.RH_PW_STATUS_TRANS region ∧ 2 ≤ near then
      ({ s with pwr := { s.pwr with transitions := s.pwr.transitions.filter (· != region) } }.set Reg.RH_PW_STATUS_TRANS region 0).modPw region (fun p => { p with near := 0 })
    else s.modPw region (fun p => { p with near := near })
  let s := s.modPw region (fun p => { p with vnb := age p.vnb })
  let gone := s.missing region (s.hub region).pw.vnb
  let s := if gone = [] then s else s.raise Reg.RH_PW_EVENT_NBMISS region
  let s := gone.foldl (fun s d => s.limit region d Reg.RH_PW_STATUS_VEXC Reg.RH_PW_EVENT_VEXC false) s
  .next (s.sendAll ((s.neighbours region).map (fun n => msgPwNb region n v)))

/-- PW_NB (R455): the neighbour's reading is compared with the hub's own. -/
def execPwNb (region from_ mv : Nat) (s : State) : Host.Outcome State Fault Refusal :=
  let s := s.recv (msgPwNb from_ region mv)
  match s.dirTo region from_ with
  | none => .next s
  | some d =>
    let s := s.modPw region (fun p => { p with vnb := p.vnb.set d (some (wrap 12 mv), 0) })
    let own := s.get Reg.RH_EN_VLOC_MV region
    .next (s.limit region d Reg.RH_PW_STATUS_VEXC Reg.RH_PW_EVENT_VEXC (decide (own + supplyLimit < wrap 12 mv ∨ wrap 12 mv + supplyLimit < own)))

/-- TH_NB (R321, R455): the neighbour's estimate is recorded and compared with the hub's own. -/
def execThNb (region from_ t : Nat) (s : State) : Host.Outcome State Fault Refusal :=
  let s := s.recv (msgThNb from_ region t)
  match s.dirTo region from_ with
  | none => .next s
  | some d =>
    let s := s.modPw region (fun p => { p with tnb := p.tnb.set d (some (wrap 16 t), 0) })
    let diff := s.estimate region - signed 16 (wrap 16 t)
    .next (s.limit region d Reg.RH_PW_STATUS_TEXC Reg.RH_PW_EVENT_TEXC (decide (tempLimit < diff ∨ diff < -tempLimit)))

/-- BOUNDARY_REPEAT (R455): while a limit is exceeded in a direction the hub raises BOUNDARY again every 1 ms. -/
def execBoundaryRepeat (region dir : Nat) (s : State) : Host.Outcome State Fault Refusal :=
  .next (if bit (s.get Reg.RH_PW_STATUS_VEXC region) dir ∨ bit (s.get Reg.RH_PW_STATUS_TEXC region) dir then s.hubFault region (hubSrc region) 0x307 0 (wrap 2 dir) else s)

/-! ## Heat (R320–R326, R454) -/

/-- THERMAL coefficients of a region (R320). -/
def State.tcoef (s : State) (r : Nat) : Nat × Nat × Nat :=
  ((s.cfg.tcoefs.find? (fun e => e.region == r)).map (fun e => (e.a, e.bv, e.bl))).getD (0, 0, 0)

/-- Power over a step in mW, from its model energy in nanojoules and the latest factor (R320). -/
def State.stepPower (s : State) (r energy : Nat) : Nat := energy * (s.hub r).en.factor * s.cfg.rclk / (2 ^ 20 * 4000 * s.period)

/-- The next estimate (R320): the shift rounds toward minus infinity. -/
def State.nextEstimate (s : State) (r energy : Nat) : Int :=
  let (a, bv, bl) := s.tcoef r
  let t := s.estimate r
  let nbs := ((s.hub r).pw.tnb.filterMap (·.1)).foldl (fun (x : Int) n => x + (t - signed 16 n)) 0
  t + ((a : Int) * (s.stepPower r energy : Int) - (bv : Int) * (t - signed 16 (s.get Reg.RH_TH_AMB_AMB r)) - (bl : Int) * nbs) / 2 ^ 24

/-- The highest band whose lower bound an estimate has reached (R322). -/
def bandReached (t : Int) : Nat := ((List.range 5).filter (fun b => b == 0 || decide (Config.bandBound b ≤ t))).foldl max 0

/-- The band after a step, with the hysteresis in °C (R322). -/
def nextBand (band : Nat) (t : Int) (hyst : Nat) : Nat :=
  let up := bandReached t
  if band < up then up
  else if 0 < band ∧ t < Config.bandBound band - 64 * (hyst : Int) then band - 1
  else band

/-- THR after a step (R323). -/
def nextThr (band : Nat) (t : Int) (tthr gain thr : Nat) : Nat :=
  if band = 4 then 15
  else
    let target := (max 0 (min 15 ((t - 64 * (tthr : Int)) * (gain : Int) / 1024))).toNat
    if thr ≤ target then target else thr - 1

/-- Boundary stages between a region and its neighbours follow the difference of their bands (R454). -/
def State.syncStages (s : State) (r : Nat) : State :=
  (List.range 4).foldl (fun s d =>
    match s.neighbour r d with
    | none => s
    | some n =>
      let a := s.get Reg.RH_TH_STATUS_BAND r
      let b := s.get Reg.RH_TH_STATUS_BAND n
      let in_ := decide (a + 2 ≤ b ∨ b + 2 ≤ a)
      (setStage (setStage s r d in_) n ((d + 2) % 4) in_)) s
where
  /-- The stage bit of one side. -/
  setStage (s : State) (r d : Nat) (in_ : Bool) : State :=
    let m := s.get Reg.RH_PW_STATUS_STAGE r
    if in_ = bit m d then s
    else if in_ then (s.set Reg.RH_PW_STATUS_STAGE r (m + 2 ^ d)).raise Reg.RH_PW_EVENT_STAGE r
    else s.set Reg.RH_PW_STATUS_STAGE r (m - 2 ^ d)

/-- A new band reaches the probes and the hops (R322, R325, R326, R454). -/
def State.bandChange (s : State) (r old new : Nat) : State :=
  if old = new then s
  else
    let s := s.set Reg.RH_TH_STATUS_BAND r new
    let s := if old = 4 ∨ new = 4 then s.modHub r (fun h => { h with wd := { h.wd with paused := true } }) else s
    let s := if new = 4 then (s.hubFault r (hubSrc r) 0x401 0 old).raise Reg.RH_EN_EVENT_B4 r else s
    let s := (List.range 1056).foldl (fun s t => s.bandInput r t new) s
    let s := if old = 4 then
        s.sendAll (((List.range 1056).filter (fun t => (tgetD {} t (s.hub r).cat.pos).role == .service)).map (fun t => msgBhRerun r t (s.accOf r t)))
      else s
    s.syncStages r

/-- THERMAL_STEP (R320–R325, R454): the estimate, the band and THR; TH_NB goes to every neighbour. `energy` is the region's model energy of the step in
nanojoules. An estimate that 16 bits do not hold is free (assumption 56). -/
def execThermalStep (region energy : Nat) (s : State) : Host.Outcome State Fault Refusal :=
  let x := s.nextEstimate region energy
  let (t, s) := if x < -32768 ∨ 32767 < x then s.fresh 16 else (unsigned 16 x, s)
  let s := s.modEn region (fun n => { n with est := some t })
  let s := s.modPw region (fun p => { p with tnb := age p.tnb })
  let gone := s.missing region (s.hub region).pw.tnb
  let s := if gone = [] then s else s.raise Reg.RH_EN_EVENT_NBMISS region
  let s := gone.foldl (fun s d => s.limit region d Reg.RH_PW_STATUS_TEXC Reg.RH_PW_EVENT_TEXC false) s
  let old := s.get Reg.RH_TH_STATUS_BAND region
  let new := nextBand old (signed 16 t) (s.get Reg.RH_TH_CTRL_HYST region)
  let thr := nextThr new (signed 16 t) (s.get Reg.RH_TH_CTRL_TTHR region) (s.get Reg.RH_TH_CTRL_GAIN region) (s.get Reg.RH_TH_STATUS_THR region)
  let s := (s.set Reg.RH_TH_STATUS_THR region thr).bandChange region old new
  .next (s.sendAll ((s.neighbours region).map (fun n => msgThNb region n t)))

/-- BH_RERUN (R326): the probe starts re-executing its BANDHELD slots in release order. -/
def execBhRerun (region tile acc : Nat) (s : State) : Host.Outcome State Fault Refusal :=
  .next (s.atProbe region tile acc (msgBhRerun region tile acc) (fun s =>
    s.modProbe region tile (fun p => { p with bandRerun := p.inOrder.filter (fun i => (p.slot i).st == .bandheld) })))

/-- BANDHELD_RETRY_PULSE (R326): every 16 PCLK, TPI_RETRY for the next BANDHELD slot. -/
def execBandheldRetryPulse (region tile : Nat) (s : State) : Host.Outcome State Fault Refusal :=
  let p := s.probe region tile
  match p.bandRerun with
  | [] => .next s
  | i :: rest =>
    let s := s.setProbe region tile { p with bandRerun := rest }
    .next (if (p.slot i).st = .bandheld then s.emit (.retry region tile (p.slot i).first.htag) else s)

end Sys2Proof.Machine
end

