-- ==== Sys2Proof/Machine/Recovery.lean ====
section
/-! DEFINITION. The meanings of the commands of the watchdog and of recovery (R220–R243). -/

namespace Sys2Proof.Machine

/-! ## The watchdog of a hub -/

/-- A hub's watchdog changed. -/
def State.modWd (s : State) (r : Nat) (f : HubWd → HubWd) : State := s.modHub r (fun h => { h with wd := f h.wd })

/-- What a hub keeps of a context. -/
def HubWd.ctxOf (w : HubWd) (t : Nat) : WdCtx := tgetD {} t w.ctx

/-- Elements of a list that another does not hold, added to it. -/
def union (a b : List Nat) : List Nat := a ++ (b.filter (fun x => !a.contains x)).eraseDups

/-- Tenants of the contexts of a probe that a mask names (R222). -/
def Probe.maskTenants (p : Probe) (mask : Nat) : List Nat := (p.ctx.filter (fun e => e.2.valid && bit mask e.1)).map (·.2.tenant)

/-- WATCHDOG_TICK (R222): a powered probe sends WD_STAT. -/
def execWatchdogTick (region tile : Nat) (s : State) : Host.Outcome State Fault Refusal :=
  let p := s.probe region tile
  if p.powered then
    let m := p.wdMasks
    .next ((s.setProbe region tile { p with progress := [] }).send (msgWdStat region tile false m.1 m.2.1 m.2.2 false))
  else .next s

/-- The case takes no result from a replay that a parked context has disturbed; the second one ends it (R229, R233). -/
def State.parkRun (s : State) : State :=
  if s.rcv.st ≠ .replay then s
  else if s.rcv.parkruns ≥ 1 then ((s.raise Reg.RCV_EVENT_INCONCL 0).closeCase 2 0 (some 1)).kickQueue
  else { s with rcv := { s.rcv with parkruns := 1, grantGt := s.gt } }

/-- The clear check of a region is complete: RCV_DONE, and WATCHDOG with CAUSE 1 where it is not clear (R226, R232). -/
def State.finishCheck (s : State) (r : Nat) (o : RungOrder) : State :=
  let clear := o.held == 0
  let w := (s.hub r).wd
  let s := (s.modWd r (fun w => { w with order := none })).send (msgRcvDone r clear o.held o.case)
  if clear then s
  else (s.raise Reg.RH_WD_EVENT_CLRFAIL r).hubFault r (hubSrc r) 0x308 w.lastTrip (watchdogAddr 1 w.nsus 0 o.rung)

/-- Number of the shelfmark that a position holds within its region; a position that holds none has a number of its own. -/
def CatPart.shelfNo (p : CatPart) (t : Nat) : Nat :=
  match p.lrowOf (tileCol t) (tileRow t) with
  | some l => 32 * l + tileCol t
  | none => 2048 + t

/-- WD_STAT (R222, R232, R233): the hub notes the masks of a tick, or the answer to its clear check. -/
def execWdStat (region tile : Nat) (answer : Bool) (owing prog held : Nat) (gated : Bool) (s : State) : Host.Outcome State Fault Refusal :=
  let s := s.recv (msgWdStat region tile answer owing prog held gated)
  let p := s.probe region tile
  if answer = false then
    let l := p.maskTenants prog
    let s := s.modWd region (fun w => { w with owing := union w.owing (p.maskTenants owing), prog := union w.prog l })
    if l.any (fun t => ((s.hub region).wd.ctxOf t).parked) then .next ((s.raise Reg.RH_WD_EVENT_PARKRUN region).parkRun) else .next s
  else
    match (s.hub region).wd.order with
    | some o =>
      let shelf := (s.hub region).cat.shelfNo tile
      if o.st = .checking ∧ o.await.contains shelf then
        let here := (p.maskTenants held).any (fun t => o.rung != 1 || o.tenants.contains t)
        let o := { o with await := o.await.filter (· != shelf), held := o.held + flag here }
        if o.await = [] then .next (s.finishCheck region o) else .next (s.modWd region (fun w => { w with order := some o }))
      else .next s
    | none => .next s

/-- WT (R223): the watchdog time over the tick length at the declared RCLK, rounded up. -/
def State.watchdogTicks (s : State) (r : Nat) : Nat :=
  (max 1 (min 10000 (s.get Reg.RH_WD_CTRL_WDT r)) * s.cfg.rclk + 1048575) / 1048576

/-- Tenants with a rotation context in a region (R220). -/
def State.contextsOf (s : State) (r : Nat) : List Nat :=
  (((s.probes.filter (fun e => e.1 / 2048 == r)).flatMap (fun e => (e.2.ctx.filter (·.2.valid)).map (·.2.tenant))).eraseDups).take 512

/-- C of a context after a tick (R223, R225). -/
def HubWd.nextCount (w : HubWd) (t : Nat) : Nat :=
  let c := w.ctxOf t
  if c.frozen || (c.suspect && !c.granted) || c.parked then c.count
  else if w.prog.contains t ∨ w.agreed.contains t ∨ w.owing.contains t = false then 0
  else c.count + 1

/-- A context's C stands still: it is a suspect that is not granted, or parked (R225). -/
def WdCtx.still (c : WdCtx) : Bool := (c.suspect && !c.granted) || c.parked

/-- A context trips (R224, R226): the suspect list, WATCHDOG and WD_SET, which names 32 of them (assumption 145). -/
def State.trip (s : State) (r t wt : Nat) : State :=
  let w := (s.hub r).wd
  let l := (s.contextsOf r).filter (fun u => u == t || (w.owing.contains u && decide ((wt + 1) / 2 ≤ (w.ctxOf u).count)))
  let more := decide (32 < l.length)
  let nsus := if more then 63 else l.length
  let s := s.modWd r (fun w => { w with ctx := l.foldl (fun (x : Table WdCtx) u => tput u { w.ctxOf u with suspect := true, granted := false } x) w.ctx,
                                        trips := tput t (tgetD 0 t w.trips + 1) w.trips, lastTrip := t, nsus := nsus, unnamed := union w.unnamed (l.drop 32) })
  let s := s.raise Reg.RH_WD_EVENT_TRIP r
  let s := if more then s.raise Reg.RH_WD_EVENT_OVF r else s
  let s := s.hubFault r (hubSrc r) 0x308 t (watchdogAddr 0 nsus (w.ctxOf t).count 0)
  s.send (msgWdSet r (l.take 32) more)

/-- C of no context of a region changes now (R225). -/
def State.watchStands (s : State) (r : Nat) : Bool :=
  let h := s.hub r
  h.wd.paused || h.stopLeaf || h.flt.phase == .start || !s.on Reg.RH_WD_CTRL_EN r || s.get Reg.RH_TH_STATUS_BAND r == 4

/-- WATCHDOG_EVALUATE (R223–R225): the counts of a region's contexts after a tick, and the trip of each one that reaches WT. -/
def execWatchdogEvaluate (region : Nat) (s : State) : Host.Outcome State Fault Refusal :=
  let h := s.hub region
  let still := s.watchStands region
  let l := s.contextsOf region
  let wt := s.watchdogTicks region
  let count := fun t => if still then (h.wd.ctxOf t).count else h.wd.nextCount t
  let next := l.foldl (fun (x : Table WdCtx) t => tput t { h.wd.ctxOf t with count := count t, owing := h.wd.owing.contains t, frozen := false } x) []
  let s := s.modWd region (fun w => { w with ctx := next })
  let s := s.set Reg.RH_WD_STATUS_OWING region (l.filter h.wd.owing.contains).length
  let hits := if still then [] else l.filter (fun t => decide (wt ≤ count t) && !(h.wd.ctxOf t).still && !(h.wd.ctxOf t).frozen)
  let s := hits.foldl (fun s t => s.trip region t wt) s
  .next (s.modWd region (fun w => { w with owing := [], prog := [], agreed := [], paused := false }))

/-- A WATCHDOG with CAUSE 0 of a region has been sent and is not registered. -/
def State.watchdogOnTheWay (s : State) (r : Nat) : Bool :=
  ((s.hub r).flt.queue ++ (s.hub r).flt.held ++ (s.hub r).flt.out ++ s.flt.queue).any (fun m => m.kind == 0x308 && srcRegion m.src == r && bits m.addr 0 2 == 0)

/-- WD_SET (R227, R229): suspects join the case while it collects. Otherwise the set is kept for its WATCHDOG, which is on its way or waits, or its contexts are released. -/
def execWdSet (region : Nat) (suspects : List Nat) (more : Bool) (s : State) : Host.Outcome State Fault Refusal :=
  let s := s.recv (msgWdSet region suspects more)
  if s.rcv.st = .collect then .next { s with rcv := s.rcv.join (region, suspects, more) }
  else if s.watchdogOnTheWay region ∨ s.rcv.waiting.any (fun w => w.2.2.2 == region) then
    .next { s with rcv := { s.rcv with sets := s.rcv.sets ++ [(region, suspects, more)] } }
  else .next (s.releaseSet (region, suspects, more))

/-! ## The sequencer -/

/-- The L2 reaction of a case that takes rung 4 (R236): ESCALATED is logged against its WATCHDOG reaction. An unacknowledged L2 makes it L3 (R211). -/
def State.caseL2 (s : State) : State :=
  let s : State := match (s.rcv.rids.head?).bind s.reaction with | some r => s.escalated r | none => s
  let rid := s.flt.nextRid
  let s := { s with flt := { s.flt with nextRid := nextSkipZero 16 rid } }
  let r : Reaction := { rid := rid, level := 2, st := .handling, src := hubSrc s.rcv.tripRegion, kind := 0x308, fseq := s.rcv.fseq, domain := .chip,
                        tenant := s.rcv.tripTenant, since := s.gt }
  match s.reactions.find? (fun x => x.unack && x.level == 2) with
  | some met => (s.escalated met).sealState { r with level := 3 }
  | none => s.startL2 r

/-- The case takes a rung that its own course chooses (R229): at rung 4 the L2 reaction starts; where that is L3 the case has ended. -/
def State.climbTo (s : State) (rung : Nat) : State :=
  let s := if rung = 4 then s.caseL2 else s
  if s.rcv.st = .idle then s else s.takeRung rung

/-- CASE_COLLECT_TIMEOUT (R228, R229): the rung, the UNIT notice and the orders; under global stop the timer is paused. -/
def execCaseCollectTimeout (s : State) : Host.Outcome State Fault Refusal :=
  if s.rcv.st ≠ .collect ∨ s.stopped then .next s
  else
    let r := min 5 (s.ladderRung + 1)
    let r := if s.rcv.more ∨ s.rcv.suspects.length > 32 then max 2 r else r
    .next (({ s with rcv := { s.rcv with startRung := r } }).unitNotice.climbTo r)

/-- SERVICE positions of a region. -/
def CatPart.servicePositions (p : CatPart) : List Nat := (List.range 1056).filter (fun t => (p.at t).role == .service)

/-- RCV_ORDER (R232): the hub keeps the order, and sends WD_DROP with T_r to every SERVICE position. -/
def execRcvOrder (region rung case instant : Nat) (tenants : List Nat) (s : State) : Host.Outcome State Fault Refusal :=
  let s := s.recv (msgRcvOrder region rung case instant tenants)
  let l := (List.range 4096).filter tenants.contains
  let s := s.modWd region (fun w => { w with order := some { rung := rung, case := case, instant := instant, tenants := l, left := l } })
  let drops := fun t => if rung = 1 then l.map (fun u => msgWdDrop region t (s.accOf region t) u false instant)
    else [msgWdDrop region t (s.accOf region t) 0 true instant]
  .next (s.sendAll ((s.hub region).cat.servicePositions.flatMap drops))

/-- WD_DROP (R232): the probe keeps the drop until T_r; one that comes after T_r acts at once. -/
def execWdDrop (region tile acc tenant : Nat) (every : Bool) (instant : Nat) (s : State) : Host.Outcome State Fault Refusal :=
  .next (s.atProbe region tile acc (msgWdDrop region tile acc tenant every instant) (fun s =>
    let waits : Bool := match (s.hub region).wd.order with
      | some o => o.instant == instant && o.st == .waitInstant
      | none => false
    if waits then s.modProbe region tile (fun p => { p with drops := p.drops ++ [(tenant, every, instant)] })
    else (s.dropSlots region tile tenant every).reapReadings region))

/-- The segments of a region's gaps are abandoned and start again (R232, R136). -/
def State.restartSegments (s : State) (r : Nat) : State :=
  (s.probes.filter (fun e => e.1 / 2048 == r && e.2.ift.running)).foldl (fun s e =>
    (s.suspendIft r (e.1 % 2048)).resumeIft r (e.1 % 2048)) s

/-- T_r at a hub (R230, R232): drops, readings and segments, and the scoped request of its rung. -/
def State.resetHub (s : State) (r : Nat) (o : RungOrder) : State :=
  let s := s.modWd r (fun w => { w with order := some { o with st := .holding }, rstCtx := if o.rung = 1 then o.left.head? else none,
                                        rstEng := o.rung == 2 || o.rung == 3 })
  let s := s.dropsAt r o.instant
  let s := s.abandonIf r (fun x => o.rung != 1 || o.tenants.contains x.tenant) true
  let s := if o.rung = 1 then s else s.restartSegments r
  s.dispatchAll r

/-- T_r at the Kiln (R230, R232): the partitions of the scope, or the chip with the Stacker's drop. -/
def State.resetKiln (s : State) : State :=
  if s.rcv.rung = 3 then
    { s with rcv := { s.rcv with armed := false, rstPart := maskOf (s.rcv.scope.map s.partitionOf).eraseDups } }
  else
    let s := { s with rcv := { s.rcv with armed := false, rstChip := true } }
    s.stackerDropTagged

/-- RESET_INSTANT (R230, R232): GT reaches T_r at a hub that has an order, or at the Kiln. -/
def execResetInstant (region : Option Nat) (s : State) : Host.Outcome State Fault Refusal :=
  match region with
  | some r =>
    (match (s.hub r).wd.order with
     | some o => .next (if o.st = .waitInstant then s.resetHub r o else s)
     | none => .next s)
  | none => .next (if s.rcv.armed then s.resetKiln else s)

/-- The clear check of a region begins (R232). -/
def State.startCheck (s : State) (r : Nat) (o : RungOrder) : State :=
  let l := (s.hub r).cat.servicePositions
  let o := { o with st := .checking, left := [], await := l.map (s.hub r).cat.shelfNo, held := 0 }
  if l = [] then s.finishCheck r o
  else (s.modWd r (fun w => { w with order := some o })).sendAll (l.map (fun t => msgWdCheck r t (s.accOf r t)))

/-- The 16 HCLK after a request that fell are over (R230, R232): the next context's rises, or the clear check begins. -/
def State.gapOver (s : State) (r : Nat) (o : RungOrder) : State :=
  if o.st = .gap then s.modWd r (fun w => { w with order := some { o with st := .holding }, rstCtx := o.left.head? })
  else if o.st = .settle then s.startCheck r o
  else s

/-- A request of a hub falls (R230): 16 HCLK follow. -/
def State.holdOver (s : State) (r : Nat) (o : RungOrder) : State :=
  let rest := o.left.drop 1
  s.modWd r (fun w => { w with order := some { o with left := rest, st := if o.rung = 1 ∧ rest ≠ [] then .gap else .settle, due := wrap 64 ((s.hub r).gt + 16) },
                               rstCtx := none, rstEng := false })

/-- RESET_HOLD_END (R230, R232): a request falls, and after 16 HCLK the next context's rises or the clear check begins. One that comes within these 16 HCLK ends them. Under
global stop the hold is paused. -/
def execResetHoldEnd (region : Option Nat) (s : State) : Host.Outcome State Fault Refusal :=
  match region with
  | some r =>
    (match (s.hub r).wd.order with
     | some o =>
       if (s.hub r).stopLeaf then .next s
       else if o.st = .holding then .next (s.holdOver r o)
       else
         let s := s.gapOver r o
         .next (match (s.hub r).wd.order with
           | some o' => if o.st = .gap then s.holdOver r o' else s
           | none => s)
     | none => .next s)
  | none => .next (if s.stopped then s else { s with rcv := { s.rcv with rstPart := 0, rstChip := false } })

/-- One HCLK at a hub with a rung order (R230, R232): the 16 HCLK after a request end, which global stop holds up. -/
def State.gapTick (s : State) (r : Nat) : State :=
  match (s.hub r).wd.order with
  | some o =>
    if o.st ≠ .gap ∧ o.st ≠ .settle then s
    else if (s.hub r).stopLeaf then s.modWd r (fun w => { w with order := some { o with due := wrap 64 (o.due + 1) } })
    else if o.due = (s.hub r).gt then s.gapOver r o else s
  | none => s

/-- WD_CHECK (R232): the probe answers WD_STAT on the RSP channel. -/
def execWdCheck (region tile acc : Nat) (s : State) : Host.Outcome State Fault Refusal :=
  .next (s.atProbe region tile acc (msgWdCheck region tile acc) (fun s =>
    let m := (s.probe region tile).wdMasks
    s.send (msgWdStat region tile true m.1 m.2.1 m.2.2 false)))

/-- Every hub of the scope has reported clear: what the rung leads to (R229, R236). -/
def State.scopeClear (s : State) : State :=
  if s.rcv.rung = 1 then s.grantNext
  else if s.rcv.rung = 4 then s.chipDone
  else (s.closeCase 0 0 (some s.rcv.rung)).kickQueue

/-- RCV_DONE (R229, R236): a clear hub is counted; one that is not clear takes the case up a rung. The chip reset that L3 found under way runs to completion (R216). -/
def execRcvDone (region : Nat) (clear : Bool) (held case : Nat) (s : State) : Host.Outcome State Fault Refusal :=
  let s := s.recv (msgRcvDone region clear held case)
  if s.rcv.case ≠ case ∨ s.rcv.scope.contains region = false ∨ s.rcv.rung ≥ 5 ∨ (s.rcv.st ≠ .reset ∧ ¬ (s.rcv.st = .idle ∧ s.flt.l3 ∧ s.rcv.rung = 4)) then .next s
  else if clear then
    let s := { s with rcv := { s.rcv with doneFrom := union s.rcv.doneFrom [region] } }
    .next (if s.rcv.scope.all s.rcv.doneFrom.contains then (if s.rcv.st = .reset then s.scopeClear else s.l2Done) else s)
  else if s.rcv.st = .reset then .next ((s.raise Reg.RCV_EVENT_CLRFAIL 0).climbTo (s.rcv.rung + 1))
  else .next s

/-- RCV_DONE_TIMEOUT (R229): a hub of the scope has been silent for its hold and 4,096 HCLK; under global stop the timer is paused. -/
def execRcvDoneTimeout (region : Nat) (s : State) : Host.Outcome State Fault Refusal :=
  if s.rcv.st ≠ .reset ∨ s.stopped ∨ s.rcv.rung ≥ 5 ∨ s.rcv.scope.contains region = false ∨ s.rcv.doneFrom.contains region then .next s
  else .next (s.climbTo (s.rcv.rung + 1))

/-- RCV_GRANT (R233): the hub grants, parks or releases the context of a suspect tenant; a release takes in the listed contexts that WD_SET could not name
(assumption 145). -/
def execRcvGrant (region tenant code : Nat) (s : State) : Host.Outcome State Fault Refusal :=
  let s := s.recv (msgRcvGrant region tenant code)
  .next (s.modWd region (fun w =>
    let set := fun (c : WdCtx) => match code with
      | 0 => { c with suspect := true, parked := false, granted := true, frozen := c.frozen || c.still }
      | 1 => { c with suspect := true, parked := true, granted := false, frozen := true }
      | _ => { c with suspect := false, parked := false, granted := false, frozen := c.frozen || c.still }
    let l := (tenant :: (if 2 ≤ code then w.unnamed else [])).filter (s.contextsOf region).contains
    { w with ctx := l.foldl (fun (x : Table WdCtx) t => tput t (set (w.ctxOf t)) x) w.ctx, unnamed := if 2 ≤ code then [] else w.unnamed }))

/-- REPLAY_TIMEOUT (R234): the granted tenant has run REPLAYMS without a trip, and passes; under global stop the timer is paused. -/
def execReplayTimeout (s : State) : Host.Outcome State Fault Refusal :=
  if s.rcv.st = .replay ∧ s.rcv.granted.isSome ∧ ¬ s.stopped then .next s.grantedPasses else .next s

end Sys2Proof.Machine
end

