-- ==== Sys2Proof/Machine/Power.lean ====
section
/-! DEFINITION. Power, clocks and reset: the reset of the VDD side, the loss flush, the power states, and the meanings of their commands (R437–R464). -/

namespace Sys2Proof.Machine

/-! ## Resets -/

/-- Every window of the map. -/
def windows : List Win := [.kiln, .clp, .channel, .stkwin, .tenant, .hub, .probe]

/-- Keys of the fields that the banked domain keeps; all lie in windows of one instance. -/
def bankedKeys : List Nat := (windows.flatMap (fun w => w.rows.flatMap (fun r => (r.fields.filter (·.banked)).map (fun f => f.key 0))))

/-- The VDD side is reset, as by PORB (R14, R446): every part takes its reset value but what the banked domain and the flash keep (R31). Tally counters are
lost and GAP is pending for every tenant; the committed bank's statements wait to be written again (R331). A debug unlock ends (R477). Shelfmarks that were moving
are remembered for their rollback (R164). -/
def State.vddReset (s : State) : State :=
  let s := s.unlockEnd 1
  let y : Tally := ({ banks := s.tally.banks, bank := s.tally.bank } : Tally).gapAll
  let v : Vault := { banked := s.vault.banked, blobs := s.vault.blobs }
  { ({} : State) with
    pending := s.pending, pulses := s.pulses, freeCtr := s.freeCtr, pwr := { s.pwr with transitions := [], quiesceAwait := [] },
    regs := s.regs.filter (fun e => bankedKeys.contains e.1), tally := { y with queue := y.active.statements }, vault := v, ldg := s.ldg.banked,
    mgt := s.mgt.banked,
    flt := { lostMoves := s.flt.lostMoves ++ (s.hubs.map (·.1)).flatMap s.openMoves } }

/-! ## The loss flush (R440, R441) -/

/-- The cause of a loss as POWERLOSS names it (R440, R441): of VAON and VDD both lost it is code 2, in whichever order (assumption 151). -/
def Pwr.lossCause (p : Pwr) (cause : Nat) : Nat := if (cause = 1 ∧ p.onBk) ∨ (cause = 0 ∧ p.vddGood = false) then 2 else cause

/-- A power state in which VDD, RCLK and PORB may go without a loss: OFF, PU_WAIT, and PD_STOP after the commit point (R447). -/
def Pwr.safe (p : Pwr) : Bool := p.state == .off || p.state == .puWait || (p.state == .pdStop && p.committed)

/-- The loss flush begins (R440): its capture, the Tally part, and OFF, with every effect of PORB on the VDD side (R445, R446). `half` says that the inactive
Tally bank is partly written. -/
def State.startLoss (s : State) (cause : Nat) (half : Bool) : State :=
  match s.pwr.flush with
  | some c => { s with pwr := { s.pwr with flush := some { c with cause := s.pwr.lossCause cause } } }
  | none =>
    let c : LossCapture := { cause := s.pwr.lossCause cause, state := s.pwr.state.code, trans := s.pwr.transitions.length, lowest := s.pwr.transitions.headD 0,
                             depth := s.ldg.depth, flipped := s.tally.flipDue, half := half && s.tally.sweep.isSome && !s.tally.flipDue }
    let s := s.flipBank
    let s := { s with ldg := s.ldg.lossBegins }.vddReset
    { s with pwr := { s.pwr with state := .off, flush := some c, restart := s.pwr.restart || s.pwr.state != .off, offLatch := false, committed := false, pcreq := false } }

/-- The POWERLOSS record (R441). -/
def State.powerLoss (s : State) (c : LossCapture) : LedgerRec :=
  { code := 0x1002, src := kilnSrc 0x1F 4, time := s.ledgerTime, banked := true,
    p0 := pack [(0, 3, c.cause), (3, 4, c.state), (7, 1, flag (decide (0 < c.trans))), (8, 1, flag c.flipped), (9, 1, flag c.half)],
    p1 := c.depth, p2 := pack [(0, 11, c.trans), (11, 11, c.lowest)] }

/-! ## Power states (R443–R445) -/

/-- OFF is left when an on request is latched, or after a loss with PORB released, and VDD is good; PU_WAIT is left when VDD, RCLK and PORB are good. A power
cycle that TRAY_ACK asked for clears the sealed latch before PU_ISO (R459). -/
def State.pwrTry (s : State) : State :=
  let p := s.pwr
  if p.stopped then s
  else
    let p := if p.state = .off ∧ p.vddGood ∧ (p.onLatch ∨ (p.restart ∧ p.porb ∧ p.flush = none)) then { p with state := .puWait, onLatch := false, restart := false } else p
    let p := if p.state = .puWait ∧ p.vddGood ∧ p.rclkPresent ∧ p.porb then
        let q := if p.acked ∧ p.ackLoss then { p with acked := false, ackLoss := false, sealedLatch := false } else p
        { q with state := .puIso, cycles := if p.vddLost then wrap 24 (p.cycles + 1) else p.cycles, vddLost := false }
      else p
    { s with pwr := p }

/-- An off request (R444, R445, R460). -/
def State.offRequest (s : State) (source : Nat) : State :=
  match s.pwr.state with
  | .puWait => { s with pwr := { s.pwr with state := .off, source := source } }
  | .puIso => { s with pwr := { s.pwr with offLatch := true, source := source } }
  | .puBring =>
    let s := { s with pwr := { s.pwr with offLatch := true, source := source } }
    if s.bru.state = .waitch then s.quiesce
    else if s.bru.state = .qualify then
      (({ s with bru := { s.bru with qualAwait := [] } }).emitAll (s.bru.qualAwait.map (fun c => .qualReq c false))).quiesce
    else s
  | .on => ({ s with pwr := { s.pwr with source := source } }).quiesce
  | .off | .pdQuiesce | .pdFlush | .pdStop => s

/-- An on request (R444, R445): in PD_QUIESCE and PD_FLUSH hubs unfence, Folios resume and bring-up resumes at its next sub-step. -/
def State.onRequest (s : State) (source : Nat) : State :=
  match s.pwr.state with
  | .off => ({ s with pwr := { s.pwr with onLatch := true, source := source } }).pwrTry
  | .pdStop => { s with pwr := { s.pwr with onLatch := true, source := source } }
  | .pdQuiesce | .pdFlush =>
    let s := { s with pwr := { s.pwr with state := s.pwr.back, source := source, quiesceAwait := [] } }
    let s := if s.bru.state = .ready then s.fenceAll false else s
    let s := s.admitWaiting
    if s.bru.paused then s.bruResume else s
  | .puWait | .puIso | .puBring | .on => s

/-- Operating time in µs (R393). -/
def Pwr.us (p : Pwr) : Nat := 1000000 * p.secs + p.micros

/-- Ledger time advances by a 32-bit fraction of microseconds (R449). -/
def Pwr.advance (p : Pwr) (n : Nat) : Pwr :=
  let f := p.frac + n
  let us := p.micros + f / 2 ^ 32
  { p with frac := f % 2 ^ 32, micros := us % 1000000, secs := wrap 32 (p.secs + us / 1000000) }

/-! ## Rails and clocks -/

/-- VAON_LOST (R439, R440): the banked domain switches to VBK and runs the loss flush. `half` says that the inactive Tally bank is partly written. -/
def execVaonLost (half : Bool) (s : State) : Host.Outcome State Fault Refusal :=
  if s.pwr.stopped then .next s
  else if s.pwr.onBk then .next { s with pwr := { s.pwr with vaonGood := false } }
  else
    let s := (s.startLoss 0 half).raise Reg.PWR_EVENT_VBK 0
    .next { s with pwr := { s.pwr with vaonGood := false, onBk := true, bkAt := s.pwr.us } }

/-- LOSS_FLUSH_DONE (R440, R441): the Ledger part has been programmed with POWERLOSS last; the domain enters retention on VBK, else waits for VDD. -/
def execLossFlushDone (s : State) : Host.Outcome State Fault Refusal :=
  match s.pwr.flush with
  | none => .next s
  | some c =>
    let r := s.powerLoss c
    let s := { s with ldg := { s.ldg.lossFlush r with blocks := 0 }, pwr := { s.pwr with flush := none, retention := s.pwr.onBk } }
    let s := s.setAll 0 [(Reg.PWR_LASTLOSS_P0, r.p0), (Reg.PWR_LASTLOSS_P2, r.p2), (Reg.PWR_LASTLOSS_LOST, r.p1), (Reg.PWR_LASTLOSS_SECS, s.pwr.secs)]
    .next (s.raise Reg.PWR_EVENT_LOSS 0).pwrTry

/-- VAON_RETURN (R439, R460): VAON has been good for 10 ms, which are counted from the end of a flush. -/
def execVaonReturn (s : State) : Host.Outcome State Fault Refusal :=
  if s.pwr.onBk = false ∨ s.pwr.flush.isSome ∨ s.pwr.stopped then .next s
  else
    let ms := (s.pwr.us - s.pwr.bkAt) / 1000
    let s := { s with pwr := { s.pwr with onBk := false, vaonGood := true, retention := false } }
    .next (s.bankedRecord 0x1205 ms 0 0).pwrTry

/-- VBK_LOST (R439, R452, R460): the banked domain stops; its counters, buffers, banks and key store are lost, and the flash keeps its pages and blobs. -/
def execVbkLost (s : State) : Host.Outcome State Fault Refusal :=
  if s.pwr.onBk = false then .next s
  else
    let p : Pwr := { vddGood := s.pwr.vddGood, vaonGood := false, rclkPresent := s.pwr.rclkPresent, porb := s.pwr.porb, onBk := true, stopped := true, cold := true }
    let l : Ledger := { flash := s.ldg.flash }
    .next { s with pwr := p, ldg := l, tally := {}, vault := { s.vault with banked := none }, mgt := {}, regs := s.regs.filter (fun e => !bankedKeys.contains e.1) }

/-- COLD_START (R452): the banked domain starts with every counter at 0. Time is restored from the newest trailer once the Ledger has recovered. -/
def execColdStart (s : State) : Host.Outcome State Fault Refusal :=
  if s.pwr.stopped then
    let s := { s with pwr := { s.pwr with stopped := false, onBk := false, vaonGood := true, restart := true } }
    .next (s.raise Reg.PWR_EVENT_COLD 0).pwrTry
  else if s.pwr.cold ∧ s.bru.ledgerDone then .next s.coldRestore
  else .next s

/-- VDD_LOST (R440, R447): the Vault and the rest of the VDD side lose their contents, and the loss flush runs unless VDD may go. -/
def execVddLost (half : Bool) (s : State) : Host.Outcome State Fault Refusal :=
  let safe := s.pwr.safe
  let flushing := s.pwr.flush.isSome
  let s := { s with pwr := { s.pwr with vddGood := false, vddLost := true, ackLoss := s.pwr.ackLoss || s.pwr.acked } }
  .next (if s.pwr.stopped ∨ (safe ∧ ¬ flushing) then s else s.startLoss 1 half)

/-- VDD_GOOD (R437, R445). -/
def execVddGood (s : State) : Host.Outcome State Fault Refusal := .next ({ s with pwr := { s.pwr with vddGood := true } }).pwrTry

/-- HOLDOVER_ENTER (R450, R451): no BCLK edge for 1 µs; with VDD good and the domain not OFF, the loss of RCLK is a loss. -/
def execHoldoverEnter (half : Bool) (s : State) : Host.Outcome State Fault Refusal :=
  if s.pwr.holdover ∨ s.pwr.stopped then .next s
  else
    let lost := s.pwr.vddGood && (!s.pwr.safe || s.pwr.flush.isSome)
    let s := if lost then s.startLoss 3 half else s
    let s := { s with pwr := { s.pwr with holdover := true, rclkPresent := false, holdAt := s.pwr.us } }
    .next ((s.bankedRecord 0x1204 1 0 0).raise Reg.PWR_EVENT_HOLDOVER 0)

/-- HOLDOVER_EXIT (R450, R451): the holdover time joins PWR_HOLD; a domain that RCLK's loss took to OFF powers up. -/
def execHoldoverExit (s : State) : Host.Outcome State Fault Refusal :=
  if s.pwr.holdover = false then .next s
  else
    let us := s.pwr.us - s.pwr.holdAt
    let s := { s with pwr := { s.pwr with holdover := false, rclkPresent := true } }
    .next ((s.bankedRecord 0x1204 0 us 0).bump Reg.PWR_HOLD_US 0 us).pwrTry

/-! ## Reset inputs and requests -/

/-- PORB_ASSERT (R440, R447, R456): the VDD side is reset, with a loss flush but in OFF, PU_WAIT and PD_STOP after the commit point. -/
def execPorbAssert (half : Bool) (s : State) : Host.Outcome State Fault Refusal :=
  let safe := s.pwr.safe
  let flushing := s.pwr.flush.isSome
  let s := { s with pwr := { s.pwr with porb := false } }
  .next (if s.pwr.stopped then s else if safe ∧ ¬ flushing then s.vddReset else s.startLoss 4 half)

/-- PORB_RELEASE (R444, R456): an on request. -/
def execPorbRelease (s : State) : Host.Outcome State Fault Refusal :=
  .next (({ s with pwr := { s.pwr with porb := true } }).onRequest 4).pwrTry

/-- PU_ISO_DONE (R421, R445): the dividers have locked and the crossing is open, which it is not while a flush runs or on VBK; the internal reset is
released, or an off request takes the domain down. -/
def execPuIsoDone (s : State) : Host.Outcome State Fault Refusal :=
  if s.pwr.state ≠ .puIso ∨ s.pwr.flush.isSome ∨ s.pwr.onBk then .next s
  else if s.pwr.offLatch then .next { s with pwr := { s.pwr with state := .pdStop, offLatch := false } }
  else .next ({ s with pwr := { s.pwr with state := .puBring } }).bringUpStart

/-- QUIESCE_DONE (R445, R460): no Folio is DECIDED and every hub has acknowledged the fence. PD_FLUSH commits a global sweep and flushes the Ledger. Global
stop pauses the step. -/
def execQuiesceDone (s : State) : Host.Outcome State Fault Refusal :=
  if s.pwr.state ≠ .pdQuiesce ∨ s.pwr.quiesceAwait ≠ [] ∨ s.folios.any (fun f => f.st == .decided) ∨ s.stopped then .next s
  else
    let s := { s with pwr := { s.pwr with state := .pdFlush } }
    .next ((if s.bru.state = .ready then (s.noteSweep none 0).kickSweeps else s).flushLedger)

/-- Both flushes of PD_FLUSH have ended: nothing of the Tally waits but for a Vault that refuses to sign, and the Ledger has drained and closed its page. -/
def State.flushed (s : State) : Bool :=
  let y := s.tally
  y.sweep.isNone && y.wants.isEmpty && y.proposed.isEmpty && y.queue.isEmpty && y.batch.isNone && (y.unsigned.isEmpty || !s.canSignRoot)
    && !s.ldg.flushing && s.ldg.stage.isEmpty && s.ldg.buf.isEmpty

/-- FLUSH_COMMIT (R445, R460, R505): both flushes have ended, or 50 ms have passed, which global stop does not pause. The commit point is recorded and
reported on MGT. -/
def execFlushCommit (timeLimit : Bool) (s : State) : Host.Outcome State Fault Refusal :=
  if s.pwr.state ≠ .pdFlush ∨ (timeLimit = false ∧ (s.flushed = false ∨ s.stopped)) then .next s
  else
    let late := timeLimit && !s.flushed
    let s := { s with pwr := { s.pwr with state := .pdStop, committed := true } }
    let s := s.bankedRecord 0x1201 7 s.pwr.source (1 + 2 * flag late)
    .next ((if late then s.raise Reg.PWR_EVENT_INCOMPLETE 0 else s).ibi 0xA1)

/-- STOP_DONE (R445, R446): the internal reset is asserted, and the domain enters OFF with every effect of PORB on the VDD side. TRAY_PCREQ falls, and an on
request that waited is taken. -/
def execStopDone (s : State) : Host.Outcome State Fault Refusal :=
  if s.pwr.state ≠ .pdStop then .next s
  else
    let s := s.vddReset
    .next ({ s with ldg := { s.ldg with blocks := 0 }, pwr := { s.pwr with state := .off, committed := false, pcreq := false } }).pwrTry

/-- PWR_OFF (R444). -/
def execPwrOff (ten tag : Nat) (s : State) : Host.Outcome State Fault Refusal :=
  .next (s.hostWrite ten tag 0x904 none true (fun s => s.offRequest 0))

/-- PWR_ON (R444). -/
def execPwrOn (ten tag : Nat) (s : State) : Host.Outcome State Fault Refusal :=
  .next (s.hostWrite ten tag 0x904 none true (fun s => s.onRequest 0))

/-- PWR_PCREQ (R459). -/
def execPwrPcreq (ten tag : Nat) (s : State) : Host.Outcome State Fault Refusal :=
  .next (s.hostWrite ten tag 0x904 none true (fun s => s.trayRequest 3))

/-- TRAY_ACK (R459, R460): ACKED is set, and an off request is raised unless the domain is OFF. -/
def execTrayAck (s : State) : Host.Outcome State Fault Refusal :=
  if s.pwr.stopped then .next s
  else
    let s := { s with pwr := { s.pwr with acked := true, ackLoss := false } }
    let s := s.bankedRecord 0x1208 0 s.pwr.trayCause 0
    .next (if s.pwr.state = .off then s else s.offRequest 2)

/-! ## Voltage transitions -/

/-- A region in an ascending list. -/
def insertRegion (r : Nat) (l : List Nat) : List Nat := l.filter (fun x => decide (x < r)) ++ [r] ++ l.filter (fun x => decide (r < x))

/-- A write of `RH_PW_VTGT` (R442). -/
def State.targetWrite (s : State) (region mv : Nat) : State :=
  let s := { s with pwr := { s.pwr with transitions := insertRegion region s.pwr.transitions } }
  (s.modHub region (fun h => { h with pw := { h.pw with near := 0 } })).setAll region [(Reg.RH_PW_VTGT_MV, mv), (Reg.RH_PW_STATUS_TRANS, 1)]

/-- VOLTAGE_TARGET (R442): the write opens the region's transition, or retargets it. -/
def execVoltageTarget (region mv ten tag : Nat) (s : State) : Host.Outcome State Fault Refusal :=
  .next (s.hostWrite ten tag (Win.hub.base region + 0xE00) none (s.windowExists .hub region) (fun s => s.targetWrite region mv))

/-! ## Host reset and the button -/

/-- The effects of R232 for rung 4 in every region, without a case: slots dropped, readings abandoned, segments begun again, tagged Stacker channels dropped,
unsealed epochs closed (R457, R458). -/
def State.hostReset (s : State) : State :=
  let s := s.liveRegions.foldl (fun s r =>
    let s := (s.hub r).cat.servicePositions.foldl (fun s t => s.dropSlots r t 0 true) s
    ((s.abandonIf r (fun _ => true) true).restartSegments r).dispatchAll r) s
  let s := ((s.liveRegions.flatMap s.tenantsOfRegion).eraseDups).foldl (fun s t => s.epochDiscard t) s
  s.stackerDropTagged

/-- Power states in which the host's work is reset with it (R457, R460). -/
def Pwr.working (p : Pwr) : Bool := p.state == .on || p.state == .pdQuiesce || p.state == .pdFlush

/-- HRSTB (R457): at the second HCLK after HRSTB is sampled low. -/
def execHrstb (s : State) : Host.Outcome State Fault Refusal :=
  let s := { s with pwr := { s.pwr with hrstb := true } }
  .next (if s.pwr.working then s.hostReset else s)

/-- HRSTB_RELEASE (R461): the HRST record with the HCLK that HRSTB was low, saturating. -/
def execHrstbRelease (low : Nat) (s : State) : Host.Outcome State Fault Refusal :=
  .next (if s.pwr.hrstb then ({ s with pwr := { s.pwr with hrstb := false } }).bankedRecord 0x1206 (saturate 32 low) 0 0 else s)

/-- The 30 s mark passes with BTN pressed (R458): BTN_STUCK is written once, and BTN has failed closed. -/
def State.stuck (s : State) (pressed : Bool) : State :=
  (({ s with pwr := { s.pwr with btnStuck := true, btnPressed := pressed } }).bankedRecord 0x1203 30000 0 0).raise Reg.PWR_EVENT_BTNSTUCK 0

/-- BTN_RELEASE (R458, R460): a recognised release acts by the hold time, in ms. One past 30 s tells that the mark has passed. -/
def execBtnRelease (ms : Nat) (s : State) : Host.Outcome State Fault Refusal :=
  if s.pwr.btnStuck ∨ s.pwr.stopped then .next s
  else if 30000 < ms then .next (s.stuck false)
  else
    let s := { s with pwr := { s.pwr with btnPressed := false } }
    if 4000 ≤ ms then .next ((s.bankedRecord 0x1202 ms 2 0).trayRequest 0)
    else if s.pwr.state = .on then
      (if s.rcv.rstChip ∨ (s.rcv.st = .reset ∧ s.rcv.rung = 4) then .next (s.bankedRecord 0x1202 ms 3 0)
       else
         let s := (s.bankedRecord 0x1202 ms 0 0).hostReset
         .next { s with rcv := { s.rcv with rstChip := true } })
    else if s.pwr.state = .off ∧ s.pwr.vddGood then .next ((s.bankedRecord 0x1202 ms 1 0).onRequest 3)
    else .next (s.bankedRecord 0x1202 ms 3 0)

/-- BTN_STUCK (R458): the button is still pressed at 30 s. -/
def execBtnStuck (s : State) : Host.Outcome State Fault Refusal :=
  if s.pwr.btnStuck ∨ s.pwr.stopped then .next s
  else .next (s.stuck true)

/-- BTN_STUCK_CLEAR (R458): released for 1 s without a break. -/
def execBtnStuckClear (s : State) : Host.Outcome State Fault Refusal :=
  .next (if s.pwr.btnStuck then { s with pwr := { s.pwr with btnStuck := false, btnPressed := false } } else s)

end Sys2Proof.Machine
end

