-- ==== Sys2Proof/Machine/Stacker.lean ====
section
/-! DEFINITION. The meanings of the Stacker's commands but SK_READ (R368–R390). -/

namespace Sys2Proof.Machine

/-- A Kiln unit's write is visible in host memory (R293, R334, R379, R471). -/
def State.jobDone (s : State) (n : Nat) (j : SysJob) : State :=
  match n with
  | 0 => s.set Reg.TEN_REC_HEAD_OFFSET j.tenant j.head
  | 1 => s.tallyWritten j
  | 2 => s.traceWritten j
  | _ => s

/-- A read has returned all of its data (R376, R378, R380): discarded where the channel no longer wants it. -/
def State.readDone (s : State) (r : StkRead) (data : List Nat) (word : Nat) : State :=
  let s := { s with stk := { s.stk with reads := s.stk.reads.filter (fun x => x.tag != r.tag) } }
  if r.dead then s
  else
    let job := (s.stkCh r.ch).job
    let s := s.stkData r data word
    match r.kind, job with
    | .flush, some j => (s.jobDone r.ch j).kickSys
    | _, _ => s

/-! ## Channel control -/

/-- The fields beside GO and ABORT of a write to `STK_CHn_CTRL`: the system tenant's alone; TENANT and WINMASK only in IDLE (R368, R388). -/
def State.stkFields (s : State) (n value ten : Nat) : State :=
  if ten ≠ 0 then s
  else
    let s := s.set Reg.STK_CH_CTRL_PRIO n (bits value 2 2)
    if (s.stkCh n).st = .idle then s.setAll n [(Reg.STK_CH_CTRL_TENANT, bits value 4 12), (Reg.STK_CH_CTRL_WINMASK, bits value 16 16)] else s

/-- A write to a channel's CTRL: of the system tenant or of the channel's own (R368); system channels ignore it. -/
def State.stkWriteCtrl (s : State) (n value ten tag : Nat) (act : State → State) : State :=
  s.hostWrite ten tag (0x140408 + 0x40 * n) (some (s.stkTag n)) true (fun s => if n < 4 ∨ 32 ≤ n then s else act (s.stkFields n value ten))

/-- STK_GO (R378): a write of `STK_CHn_CTRL` with GO = 1. -/
def execStkGo (channel value ten tag : Nat) (s : State) : Host.Outcome State Fault Refusal :=
  .next (s.stkWriteCtrl channel value ten tag (fun s => s.stkGo channel))

/-- ABORT of a channel (R378). -/
def State.stkAbort (s : State) (channel : Nat) : State :=
  let st := (s.stkCh channel).st
  if st = .fetch ∨ st = .run ∨ st = .flush then (s.stkDropCh channel).raise Reg.STK_EVENT_DROP 0 else s

/-- STK_ABORT (R378): a write of `STK_CHn_CTRL` with ABORT = 1 drops a channel that fetches, runs or flushes. -/
def execStkAbort (channel value ten tag : Nat) (s : State) : Host.Outcome State Fault Refusal :=
  .next (s.stkWriteCtrl channel value ten tag (fun s => s.stkAbort channel))

/-- A write of 0 to `STK_CTRL.EN` (R381). -/
def State.stkDisable (s : State) : State :=
  let s := (List.range 32).foldl (fun s n => (s.stkDropCh n).set Reg.STK_CH_STATUS_PENDGO n 0) s
  (s.set Reg.STK_CTRL_EN 0 0).raise Reg.STK_EVENT_DISABLED 0

/-- STK_DISABLE (R381): every channel is dropped at once. -/
def execStkDisable (ten tag : Nat) (s : State) : Host.Outcome State Fault Refusal :=
  .next (s.hostWrite ten tag 0x140000 none true (fun s => s.stkDisable))

/-- STK_ENABLE (R381): system channels resume the work that their units hold. -/
def execStkEnable (ten tag : Nat) (s : State) : Host.Outcome State Fault Refusal :=
  .next (s.hostWrite ten tag 0x140000 none true (fun s => (s.set Reg.STK_CTRL_EN 0 1).kickSys))

/-- A STACKER_BUS waits for registration, or its reaction is not DONE (R383). -/
def State.busReaction (s : State) : Bool :=
  s.reactions.any (fun r => r.kind == 0x601 && (r.unack || r.st == .queued))
    || s.flt.queue.any (fun m => m.kind == 0x601 || (m.kind == 0x306 && bits m.addr 0 12 == 0x601))

/-- A write of 1 to `STK_CTRL.CLRHALT` (R383). -/
def State.stkClrhalt (s : State) : State :=
  if s.busReaction then s
  else (s.setAll 0 [(Reg.STK_STATUS_HALTED, 0), (Reg.STK_STATUS_HCH, 0), (Reg.STK_STATUS_HCAUSE, 0), (Reg.STK_HALTADDR_ADDR, 0), (Reg.STK_HALTADDR_TAG, 0)]).kickSys

/-- STK_CLRHALT (R383): the halt and its record are cleared once the reaction is DONE, and system channels go on. -/
def execStkClrhalt (ten tag : Nat) (s : State) : Host.Outcome State Fault Refusal :=
  .next (s.hostWrite ten tag 0x140000 none true (fun s => s.stkClrhalt))

/-! ## Bursts -/

/-- BURST_GRANT (R377): the arbiter serves its next slot, unless the Stacker is disabled, halted or under global stop (R388). -/
def execBurstGrant (s : State) : Host.Outcome State Fault Refusal :=
  if s.on Reg.STK_CTRL_EN 0 = false ∨ s.on Reg.STK_STATUS_HALTED 0 ∨ s.stopped then .next s
  else
    let s := s.kickSys.pumpAll
    match slotLevel (fun l => (s.stkPick l).isSome) (slotPattern.getD s.stk.slot 0) with
    | none => .next s
    | some l =>
      match s.stkPick l with
      | none => .next s
      | some n => .next ({ s with stk := { s.stk with slot := (s.stk.slot + 1) % 15, lastCh := s.stk.lastCh.set l n } }.stkGrant n)

/-- DESCRIPTOR_ARRIVE (R374): the descriptor that a channel fetched arrives, 512 bits. -/
def execDescriptorArrive (channel data : Nat) (s : State) : Host.Outcome State Fault Refusal :=
  match s.stk.reads.find? (fun r => r.ch == channel && r.kind == .desc && !r.dead) with
  | some r => .next (s.readDone r [] data)
  | none => .next s

/-- SMP_READ_BEAT (R382, R387): a beat of the read with a tag. An error or bad parity is a bus error; the last beat delivers the data. -/
def execSmpReadBeat (readTag data : Nat) (err parOk : Bool) (s : State) : Host.Outcome State Fault Refusal :=
  match s.stk.reads.find? (fun r => r.tag == readTag && r.region.isNone) with
  | none => .next s
  | some r =>
    let r' := { r with beats := r.beats ++ [wrap 512 data], dead := r.dead || err || !parOk }
    let s := { s with stk := { s.stk with reads := s.stk.reads.map (fun x => if x.tag = r.tag then r' else x) } }
    let s := if err then s.busError 1 r.ch (r.addr - r.addr % 64) r.tag else if parOk = false then s.busError 3 r.ch (r.addr - r.addr % 64) r.tag else s
    if r'.beats.length < beatsOf r.addr r.n then .next s
    else
      let dead := (s.stk.reads.find? (fun x => x.tag == r.tag)).elim true (·.dead)
      .next (s.readDone { r' with dead := dead } (((r'.beats.flatMap (leBytes 64)).drop (r.addr % 64)).take r.n) (r'.beats.getD 0 0))

/-- SMP_READ_TIMEOUT (R382): a read has not returned its last beat within 20 µs; global stop pauses the limit (R388). -/
def execSmpReadTimeout (readTag : Nat) (s : State) : Host.Outcome State Fault Refusal :=
  match s.stk.reads.find? (fun r => r.tag == readTag && r.region.isNone) with
  | some r => .next (if s.stopped then s else s.busError 4 r.ch (r.addr - r.addr % 64) r.tag)
  | none => .next s

/-- SMP_WRITE_BEAT (R386): the next write beat leaves against a data credit; a descriptor is complete with its last beat (R378). -/
def execSmpWriteBeat (s : State) : Host.Outcome State Fault Refusal :=
  match s.stk.writes with
  | [] => .next s
  | w :: ws =>
    match w.beats with
    | [] => .next { s with stk := { s.stk with writes := ws } }
    | (data, strb, n) :: rest =>
      if s.stk.wdCred = 0 then .next s
      else
        let s := { s with stk := { s.stk with wdCred := s.stk.wdCred - 1, writes := if rest = [] then ws else { w with beats := rest } :: ws } }
        let s := s.emit (.smpWd w.tag data strb rest.isEmpty)
        let c := s.stkCh w.ch
        if c.gen ≠ w.gen then .next s
        else
          let s := (s.setStkCh w.ch { c with sent := c.sent + n }).bump Reg.STK_CH_PROG_BYTES w.ch n
          .next (if rest = [] ∧ w.last ∧ c.st = .run then s.stkDescDone w.ch else s)

/-- SMP_RQ_CRED (R386): one more request credit, and write bursts that waited for one. -/
def execSmpRqCred (s : State) : Host.Outcome State Fault Refusal :=
  .next ({ s with stk := { s.stk with rqCred := s.stk.rqCred + 1 } }.pumpAll)

/-- SMP_WD_CRED (R386): one more data credit. -/
def execSmpWdCred (s : State) : Host.Outcome State Fault Refusal :=
  .next { s with stk := { s.stk with wdCred := s.stk.wdCred + 1 } }

/-- SMP_WRITE_ERROR (R382): the host reports a failed write by its tag. -/
def execSmpWriteError (writeTag : Nat) (s : State) : Host.Outcome State Fault Refusal :=
  match tget writeTag s.stk.wrAddr with
  | some (ch, addr) => .next (s.busError 2 ch (addr - addr % 64) writeTag)
  | none => .next s

/-! ## Space 1 -/

/-- SK_DATA (R371): data of a hub's ring for a channel, or 0 for a reserved offset. -/
def execSkData (region xferTag status : Nat) (data : List Flit) (s : State) : Host.Outcome State Fault Refusal :=
  let s := s.recv (msgSkData region xferTag status data)
  match s.stk.reads.find? (fun r => r.tag == xferTag && r.region == some region) with
  | some r =>
    let l := data.flatMap (fun (f : Flit) => leBytes 16 (if status = 0 then f.toNat else 0))
    .next (s.readDone r ((l ++ List.replicate (r.n - l.length) 0).take r.n) 0)
  | none => .next s

/-- SK_READ_TIMEOUT (R371): an SK_READ has no SK_DATA after 20 µs. -/
def execSkReadTimeout (xferTag : Nat) (s : State) : Host.Outcome State Fault Refusal :=
  match s.stk.reads.find? (fun r => r.tag == xferTag && r.region.isSome) with
  | some r =>
    if s.stopped then .next s
    else
      let s := s.busError 4 r.ch r.addr r.tag
      .next { s with stk := { s.stk with reads := s.stk.reads.filter (fun x => x.tag != r.tag) } }
  | none => .next s

end Sys2Proof.Machine
end

