-- ==== Sys2Proof/Machine/TallyUnit.lean ====
section
/-! DEFINITION. The meanings of the Tally commands (R328–R335, R341). -/

namespace Sys2Proof.Machine

/-- SWEEP_PERIOD (R328): every PERIODMS ms a global sweep is proposed; 0 disables them. -/
def execSweepPeriod (s : State) : Host.Outcome State Fault Refusal :=
  .next (if s.get Reg.TLY_CTRL_PERIODMS 0 = 0 then s else (s.noteSweep none 0).kickSweeps)

/-- TL_REPORT (R328, R330): a hub's deltas are summed; when all have reported the sweep commits. `flip` says that the pointer's flip follows at once, with
no loss of power between. -/
def execTlReport (region part : Nat) (last single : Bool) (sweep : Nat) (entries : List (Nat × Bool × Nat)) (flip : Bool) (s : State) :
    Host.Outcome State Fault Refusal :=
  let s := s.recv (msgTlReport region part last single sweep entries)
  match s.tally.sweep with
  | none => .next s
  | some w =>
    if w.number ≠ sweep ∨ w.await.contains region = false then .next s
    else
      let sums := entries.foldl (fun (t : Table (Nat × Bool)) e => let o := tgetD (0, false) e.1 t; tput e.1 (o.1 + e.2.2, o.2 || e.2.1) t) w.sums
      let w := { w with sums := sums, await := if last then w.await.filter (· != region) else w.await }
      .next ({ s with tally := { s.tally with sweep := some w } }.tryCommit flip)

/-- SWEEP_TIMEOUT (R329): a hub has not reported 2 ms after T, and the sweep is discarded; global stop pauses the limit. -/
def execSweepTimeout (s : State) : Host.Outcome State Fault Refusal :=
  .next (match s.tally.sweep with
    | some w => if w.await = [] ∨ s.stopped then s else (s.discardSweep 1).kickSweeps
    | none => s)

/-- A write of `TEN_TLY_REQ` (R332, R341). -/
def State.statementWrite (s : State) (tenant reqid : Nat) : State :=
  if s.on Reg.TEN_TLY_STATUS_BUSY tenant then s.raise Reg.TEN_TLY_STATUS_DROPPED tenant
  else
    let s := s.set Reg.TEN_TLY_REQ_REQID tenant reqid
    if (s.ep tenant).active = false then s.set Reg.TEN_TLY_STATUS_RESULT tenant 3
    else if s.tally.reserved ≥ 256 then (s.set Reg.TEN_TLY_STATUS_RESULT tenant 2).raise Reg.TLY_EVENT_QFULL 0
    else
      let s := s.setAll tenant [(Reg.TEN_TLY_STATUS_BUSY, 1), (Reg.TEN_TLY_STATUS_RESULT, 0)]
      ({ s with tally := { s.tally with requests := s.tally.requests ++ [(tenant, wrap 64 reqid)] } }.noteSweep (some tenant) 0).kickSweeps

/-- STATEMENT_REQUEST (R332, R341). -/
def execStatementRequest (tenant reqid ten tag : Nat) (s : State) : Host.Outcome State Fault Refusal :=
  .next (s.hostWrite ten tag (Win.tenant.base tenant + 0x200) (some tenant) (s.tenantActive tenant) (fun s => s.statementWrite tenant reqid))

/-- BATCH_TIMEOUT (R334): BATCHMS after its first statement the open batch closes. -/
def execBatchTimeout (s : State) : Host.Outcome State Fault Refusal := .next s.closeBatch

/-- BATCH_CLOSE (R334). -/
def execBatchClose (ten tag : Nat) (s : State) : Host.Outcome State Fault Refusal :=
  .next (s.hostWrite ten tag 0x1C0100 none true State.closeBatch)

/-- TLY_RTAIL_WRITE (R334): the runtime's tail advances, and what waits for the ring is written. -/
def execTlyRtailWrite (offset ten tag : Nat) (s : State) : Host.Outcome State Fault Refusal :=
  .next (s.hostWrite ten tag 0x1C0124 none true (fun s => (s.set Reg.TLY_RTAIL_OFFSET 0 offset).pumpRing))

end Sys2Proof.Machine
end

