-- ==== Sys2Proof/Machine/VaultUnit.lean ====
section
/-! DEFINITION. The Vault's own operations (R342–R367): start-up, entropy, tests, nonces, tokens and their services, and the completion of queued
requests. -/

namespace Sys2Proof.Machine

/-! ## Start-up -/

/-- Handles of the volatile cache with class 0x1 to 0x3 and the DRBG state (R350). -/
def cacheHandles : List Nat := [hKek, hStore, hRecord, hLedger, hDrbg]

/-- Working keys are derived, and the DRBG is instantiated (R345, R349, R354). -/
def State.deriveKeys (s : State) : State :=
  let keys := cacheHandles.foldl (fun (t : Table VaultKey) h => tput h { st := 1, gen := (tgetD {} h t).gen + 1 } t) s.vault.keys
  { s with vault := { s.vault with cache := true, locked := false, generates := 0, keys := keys } }

/-- An image is loaded (R345, R351): OPERATIONAL where it holds a DevID pair; `blob` says where it came from. -/
def State.loadImage (s : State) (i : KeyImage) (blob : Nat) : State :=
  let keys := i.keys.foldl (fun (t : Table VaultKey) e => tput e.1 e.2 t) s.vault.keys
  let st : VaultState := if (tgetD {} hDevid i.keys).st = 0 then .unprovisioned else .operational
  ({ s with vault := { s.vault with image := i, keys := keys, st := st } }.deriveKeys).setAll 0 [(Reg.VLT_STATUS_BLOB, blob), (Reg.VLT_DEVID_DEVID, i.devid)]

/-- The Vault enters ERROR with a fault of its own (R362): every cause but the Kiln's command. Bring-up refuses (R422). -/
def State.vaultFault (s : State) (kind code : Nat) : State :=
  if s.vault.st = .off ∨ s.vault.st = .error then s
  else
    let s := (s.enterError code (if kind = 0x701 then 1 else if kind = 0x702 then 2 else 3)).kilnFault 0x1E 0 kind 0 code
    if s.bru.inBringUp then s.bruRefuse 0x11 0 else s

/-- The source of the key store at SELFTEST (R351): `bankOk`, `aOk` and `bOk` say whether the tags of the banked copy and of the blobs hold. -/
def State.chooseStore (s : State) (bankOk aOk bOk : Bool) : State :=
  let v := s.vault
  let a := if aOk then v.blobs.getD 0 none else none
  let b := if bOk then v.blobs.getD 1 none else none
  match v.banked with
  | some i => if bankOk then s.loadImage i 3 else s.vaultFault 0x703 0
  | none =>
    match a, b with
    | some x, some y => if x.gen < y.gen then s.loadImage y 2 else s.loadImage x 1
    | some x, none => s.loadImage x 1
    | none, some y => s.loadImage y 2
    | none, none => if v.blobs.all (·.isNone) then s.loadImage {} 0 else s.vaultFault 0x703 0

/-! ## Entropy (R354) -/

/-- Cutoff of the repetition count test. -/
def rctCutoff : Nat := 41
/-- Cutoff of the adaptive proportion test for a window of 1,024 binary samples, H = 0.5 and α = 2^−20. PRESUMED: 1 + the critical binomial of SP 800-90B, which
the spec cites and does not restate (assumption 61). -/
def aptCutoff : Nat := 793

/-- The two tests over one more sample: the state of each, and the ADDR code of a failure. -/
def Vault.health (v : Vault) (x : Nat) : Vault × Option Nat :=
  let run : Nat := match v.rct with | some (l, n) => if l = x then n + 1 else 1 | none => 1
  let apt : Nat × Nat × Nat := match v.apt with
    | some (r, c, n) => if n ≥ 1024 then (x, 1, 1) else (r, if r = x then c + 1 else c, n + 1)
    | none => (x, 1, 1)
  let v' := { v with rct := some (x, run), apt := some apt, samples := v.samples + 1 }
  (v', if rctCutoff ≤ run then some 0x11 else if aptCutoff ≤ apt.2.1 then some 0x12 else none)

/-! ## Nonces (R357) -/

/-- The slot that a nonce takes: the lowest free one, else that issued longest ago. -/
def Vault.nextSlot (v : Vault) : Nat :=
  match (List.range 4).find? (fun i => (tget i v.slots).isNone) with
  | some i => i
  | none => (v.slots.foldl (fun (m : Nat × Nat) e => if e.2.order < m.2 then (e.1, e.2.order) else m) (0, v.issued)).1

/-- A nonce is drawn for a token service (R357). -/
def State.issueNonce (s : State) (service : Nat) : State :=
  let (n, s) := s.draw 128
  let i := s.vault.nextSlot
  let slot : NonceSlot := { nonce := n, service := service, gt := s.gt, order := s.vault.issued }
  { s with vault := { s.vault with slots := tput i slot s.vault.slots, issued := s.vault.issued + 1 } }.setAll 0 [(Reg.VLT_NONCE_NONCE, n), (Reg.VLT_NONCE_SLOT, i)]

/-- Token service codes (R356). -/
def tokenService (c : Nat) : Bool := decide (1 ≤ c ∧ c ≤ 7)

/-! ## Services of tokens (R356) -/

/-- ZEROISE (R363): the key store, the blobs and the volatile cache; queued requests end refused, and the Vault is UNPROVISIONED with salt 0. -/
def State.zeroise (s : State) : State :=
  let s := s.endRequests
  let v := s.vault.clearCache
  let s := { s with vault := { v with image := {}, banked := none, blobs := [none, none], keys := zeroKeys [0x4, 0x5] v.keys, st := .unprovisioned } }.deriveKeys
  (s.set Reg.VLT_DEVID_DEVID 0 0).raise Reg.VLT_EVENT_ZEROISED 0

/-- PROVISION (R351, R356): a new salt, DevID and Tally pairs, the Tally certificate, the key store; page numbers begin again (R401). -/
def State.provision (s : State) : State :=
  let (salt, s) := s.draw 128
  let (dev, s) := s.newPair (tgetD {} hDevid s.vault.keys)
  let (tal, s) := s.newPair (tgetD {} hTally s.vault.keys)
  let devid := sha384 (pubBytes dev.pub) >>> 256
  let (c, s) := s.certificate 1 0 0 0 devid 0 tal
  let s := s.writeImage { s.vault.image with salt := salt, keys := tput hTally { tal with cert := c } (tput hDevid dev s.vault.image.keys) }
  let s := ({ s with vault := { s.vault with st := .operational }, ldg := { s.ldg with page := 1, sealedPage := 0, sealMac := 0, cleargen := 0 } }.deriveKeys).set Reg.VLT_DEVID_DEVID 0 devid
  (s.raise Reg.VLT_EVENT_PROVISIONED 0).signNext

/-- Officer keys in force: listed in the Charter and not revoked (R356, R358). -/
def State.officers (s : State) : List OfficerEntry := s.cfg.officers.filter (fun o => !s.vault.image.revoked.contains o.key)

/-- A token's PARAM is valid for its service (R356, R406, R477). -/
def State.paramOk (s : State) (service param : Nat) : Bool :=
  match service with
  | 1 => decide (param / 2 ^ 32 = 0 ∧ bits param 0 32 < s.ldg.page)
  | 5 => decide (param < 4)
  | 6 => decide (1 ≤ param ∧ param ≤ 86400)
  | 7 => decide (1 ≤ param ∧ param ≤ 10)
  | _ => param == 0

/-- The states that accept a service (R356). -/
def serviceIn (service : Nat) (st : VaultState) : Bool :=
  match service with
  | 1 | 4 | 6 => st == .operational
  | 3 => st == .unprovisioned
  | _ => st == .operational || st == .unprovisioned

/-- An accepted token is carried out: the state, and RESULT; none while REKEY_TALLY waits for its batch. -/
def State.carryOut (s : State) (service keyid param : Nat) : State × Option Nat :=
  match service with
  | 1 => (match s.ledgerClear (bits param 0 32) keyid with | some s => (s, some 0) | none => (s, some 2))
  | 2 => (s.zeroise, some 0)
  | 3 => (s.provision, some 0)
  | 4 => (({ s with vault := { s.vault with rekey := true } }.closeBatch).rekeyIfDue, none)
  | 5 =>
    (match s.cfg.officers.find? (fun o => o.keyid == param) with
     | none => (s, some 2)
     | some o =>
       if (s.officers.filter (fun x => x.key != o.key)) = [] then (s, some 2)
       else if s.vault.image.revoked.contains o.key then (s, some 0)
       else (s.writeImage { s.vault.image with revoked := s.vault.image.revoked ++ [o.key] }, some 0))
  | 6 => (s.debugUnlock param keyid, some 0)
  | _ =>
    let back := s.vault.st
    ({ s with vault := { s.vault with back := back, st := .entropyRaw, rawSecs := param, raw := [] } }, some 0)

/-! ## Tokens (R355–R358) -/

/-- The fields of the token in VLT_TOKBUF (R355). -/
structure Token where
  format : Nat
  service : Nat
  keyid : Nat
  reservedOk : Bool
  devid : Nat
  nonce : Nat
  param : Nat
  deriving DecidableEq, Repr

/-- Bytes of the token buffer, as a little-endian number. -/
def tokenField (b : Buffer) (at_ n : Nat) : Nat := ofBytesLE (readBytes b at_ n)

/-- The token that the buffer holds. -/
def tokenIn (b : Buffer) : Token :=
  { format := tokenField b 0 2, service := tokenField b 2 1, keyid := tokenField b 3 1,
    reservedOk := tokenField b 4 12 == 0 && tokenField b 112 16 == 0 && tokenField b 3533 51 == 0,
    devid := leOfBE 16 (tokenField b 16 16), nonce := tokenField b 32 16, param := tokenField b 48 64 }

/-- A token is rejected (R358). -/
def State.tokenReject (s : State) (reason : Nat) : State :=
  ((s.setAll 0 [(Reg.VLT_TOKST_BUSY, 0), (Reg.VLT_TOKST_RESULT, 1), (Reg.VLT_TOKST_REASON, reason), (Reg.VLT_TOKST_APPROVED, 0)]).raise Reg.VLT_EVENT_TOKREJ 0).kilnFault
    0x1E 0 0x704 0 reason

/-- A token has been carried out, or its service failed (R344, R367). -/
def State.tokenDone (s : State) (result : Nat) : State :=
  let s := s.setAll 0 [(Reg.VLT_TOKST_BUSY, 0), (Reg.VLT_TOKST_RESULT, result), (Reg.VLT_TOKST_REASON, 0), (Reg.VLT_TOKST_APPROVED, if result = 0 then 1 else 0)]
  if result = 0 then s.raise Reg.VLT_EVENT_TOKOK 0 else s

/-- The slot that holds a nonce bound to a service. -/
def Vault.slotOf (v : Vault) (nonce service : Nat) : Option (Nat × NonceSlot) := v.slots.find? (fun e => e.2.nonce == nonce && e.2.service == service)

/-- The token in the buffer is checked in order, its nonce is consumed at step 4, and its service is carried out (R357, R358). -/
def State.runToken (s : State) (ecOk mlOk : Bool) : State :=
  let t := tokenIn s.tokbuf
  if t.format ≠ 0x0304 ∨ tokenService t.service = false ∨ t.reservedOk = false then s.tokenReject 1
  else if t.devid ≠ s.get Reg.VLT_DEVID_DEVID 0 then s.tokenReject 2
  else if (s.officers.any (fun o => o.keyid == t.keyid)) = false then s.tokenReject 3
  else match s.vault.slotOf t.nonce t.service with
    | none => s.tokenReject 4
    | some (i, slot) =>
      let s := { s with vault := { s.vault with slots := tdel i s.vault.slots } }
      if slot.ended then s.tokenReject 5
      else if ecOk = false then s.tokenReject 6
      else if mlOk = false then s.tokenReject 7
      else if serviceIn t.service s.vault.st = false then s.tokenReject 8
      else if s.paramOk t.service t.param = false then s.tokenReject 9
      else
        match s.carryOut t.service t.keyid t.param with
        | (s, some r) => s.tokenDone r
        | (s, none) => s

/-- A write of 1 to `VLT_TOKGO.GO` (R345, R357, R362, R366): the token is handled, or waits for the tests; in OFF and ERROR it ends with ERROR. -/
def State.tokenGo (s : State) (ecOk mlOk : Bool) : State :=
  if s.on Reg.VLT_TOKST_BUSY 0 then s.raise Reg.VLT_TOKST_DROPPED 0
  else
    match s.vault.st with
    | .off | .error => s.setAll 0 [(Reg.VLT_TOKST_RESULT, 3), (Reg.VLT_TOKST_APPROVED, 0)]
    | .selftest | .periodic => { s with vault := { s.vault with token := some (ecOk, mlOk) } }.set Reg.VLT_TOKST_BUSY 0 1
    | _ => (s.set Reg.VLT_TOKST_BUSY 0 1).runToken ecOk mlOk

/-- The write of GO for a token of one service: nothing for another token in the buffer. -/
def State.tokenOf (s : State) (service : Nat) (ten tag : Nat) : State :=
  s.hostWrite ten tag 0x100040 none true (fun s => if (tokenIn s.tokbuf).service = service then s.tokenGo true true else s)

/-- Requests that waited for the tests go on (R345). -/
def State.afterTests (s : State) : State :=
  let s := s.vault.nonceDue.foldl (fun s c => s.issueNonce c) { s with vault := { s.vault with nonceDue := [] } }
  match s.vault.token with
  | some (ec, ml) => { s with vault := { s.vault with token := none } }.runToken ec ml
  | none => s

/-! ## Tests (R360, R361) -/

/-- PERIODIC begins, where the state allows it; else it is due, and in OFF, SELFTEST and ERROR nothing is. -/
def State.startPeriodic (s : State) : State :=
  match s.vault.st with
  | .operational | .unprovisioned =>
    let st := s.vault.st
    { s with vault := { s.vault with back := st, st := .periodic, testDue := false } }
  | .entropyRaw => { s with vault := { s.vault with testDue := true } }
  | _ => s

/-- ENTROPY_RAW ends (R345, R354): the start-up tests run again before the next reseed. -/
def State.endRaw (s : State) : State :=
  if s.vault.st = .entropyRaw then
    let s := ({ s with vault := { s.vault with st := s.vault.back, samples := 0, rct := none, apt := none, raw := [], retest := true } }).set Reg.VLT_RAW_SAMPLES 0 0
    if s.vault.testDue then s.startPeriodic else s
  else s

/-! ## Queued services (R347, R365) -/

/-- Priority of a request: self-tests and tokens stand before all of them. -/
def VaultReq.priority : VaultReq → Nat
  | .token => 2 | .hmacLedger _ => 3 | .verifyCharter => 4 | .signRoot _ => 5 | .signColophon _ _ => 6 | _ => 7

/-- A request may be served: a Colophon waits for its tenant's pair (R352). -/
def State.servable (s : State) (q : VaultReq) : Bool :=
  match q with
  | .signColophon t _ => (tgetD {} (hColophon t) s.vault.keys).st == 1
  | _ => true

/-- The request to serve next: the highest priority, in order of arrival (R365). -/
def State.nextRequest (s : State) : Option VaultReq :=
  (s.vault.queue.filter (fun q => s.servable q)).foldl (fun (m : Option VaultReq) q => match m with
    | some x => if q.priority < x.priority then some q else m
    | none => some q) none

/-- A Colophon signed (R297–R299): its record with free signatures (assumption 6), and the end of the request. -/
def State.coloSigned (s : State) (t : Nat) (isRecall : Bool) : State :=
  let e := s.ep t
  let c : Option ColoReq := if isRecall then e.recallColos.head? else e.colo
  match c with
  | none => s
  | some c =>
    let num := wrap 32 (e.colNum + 1)
    let body := if isRecall then s.coloBody t c.a c.b num true 0 0 0 0 else c.body + num <<< 96
    let (ec, s) := s.fresh 768
    let (ml, s) := s.fresh 26472
    let (r, s) := s.makeRec t (if isRecall then 7 else 6) 0 0 0 0 e.gtOpen (body + ec <<< 3072 + ml <<< 3840) 3840 (s.chainHead t) {}
    let s := s.useKey (hColophon t)
    if isRecall then
      (((s.modEp t (fun x => { x with colNum := num, recallColos := x.recallColos.drop 1 })).putRec t r).set Reg.TEN_COLO_NUM_COLNUM t num).event 12
    else if e.waiting ≠ [] ∨ s.recFits t r.len = false then
      (s.modEp t (fun x => { x with colo := none })).setAll t [(Reg.TEN_COLO_STATUS_BUSY, 0), (Reg.TEN_COLO_STATUS_RESULT, 2), (Reg.TEN_COLO_REQ_REQ, 0)]
    else
      let s := (s.modEp t (fun x => { x with colNum := num, colo := none, issued := x.issued ++ [(c.a, c.b)], coloNext := wrap 32 (c.b + 1) })).putRec t r
      (s.setAll t [(Reg.TEN_COLO_STATUS_BUSY, 0), (Reg.TEN_COLO_STATUS_RESULT, 0), (Reg.TEN_COLO_REQ_REQ, 0), (Reg.TEN_COLO_NUM_COLNUM, num)]).event 12

/-- A tenant's pair is ready, with its certificate (R352, R353). -/
def State.keygenDone (s : State) (t : Nat) : State :=
  let te := s.tenantEntry t
  let (k, s) := s.newPair (tgetD {} (hColophon t) s.vault.keys)
  let (c, s) := s.certificate 2 t ((te.map (·.slice)).getD 0) ((te.map (·.job)).getD 0) (s.get Reg.VLT_DEVID_DEVID 0) (((s.ep t).genesis.map (·.chain)).getD 0) k
  { s with vault := { s.vault with keys := tput (hColophon t) { k with cert := c } s.vault.keys } }

/-- A tenant's pair is zeroised (R352). -/
def State.keydropDone (s : State) (t : Nat) : State :=
  { s with vault := { s.vault with keys := tmap (fun h (k : VaultKey) => if h = hColophon t then zeroKey k else k) s.vault.keys } }

/-- What a completed request gives its caller (R347); a signing service counts a use of its key. -/
def State.serveRequest (s : State) (q : VaultReq) : State :=
  let answer := fun (s : State) (v : Nat) => { s with vault := { s.vault with answer := some (q, true, v) } }
  match q with
  | .random _ => let (v, s) := s.draw 256; answer s v
  | .deriveRotkey r t => answer s (s.rotationKey r t)
  | .hmacRecord n d => let (v, s) := s.tagOf "GL3-REC" hRecord (leBytes n d); answer s v
  | .hmacLedger _ => (answer s 0).finishClose
  | .verifyCharter => answer s 0
  | .keygen t => answer (s.keygenDone t) 0
  | .keydrop t => answer (s.keydropDone t) 0
  | .signColophon t isRecall => (answer s 0).coloSigned t isRecall
  | .signRoot _ => (answer s 0).rootSigned
  | .token => s

/-- A Kiln unit's request joins the queue, unless it is there already. -/
def State.askOnce (s : State) (q : VaultReq) : State := if s.vault.asked q then s else s.vaultAsk q

end Sys2Proof.Machine
end

