-- ==== Sys2Proof/Machine/Vault.lean ====
section
/-! DEFINITION. The meanings of the Vault's commands (R342–R367, R406, R477). -/

namespace Sys2Proof.Machine

/-! ## Tests and entropy -/

/-- VAULT_SELFTEST_DONE (R345, R351, R359): the start-up tests pass with `kind` 0, and the key store is chosen by the tags of the banked copy and the blobs; or one
fails, with the kind and ADDR code of R362. -/
def execVaultSelftestDone (kind code : Nat) (bankOk aOk bOk : Bool) (s : State) : Host.Outcome State Fault Refusal :=
  if s.vault.st ≠ .selftest then .next s
  else
    let s := s.bump Reg.VLT_STCNT_COUNT 0 1
    .next (if kind = 0 then (s.chooseStore bankOk aOk bOk).afterTests.bruNext else s.vaultFault kind code)

/-- PERIODIC_TEST_DUE (R361, R366): PERIODIC runs once the request being served has completed. -/
def execPeriodicTestDue (s : State) : Host.Outcome State Fault Refusal := .next s.startPeriodic

/-- A write of 1 to `VLT_CTRL.STNOW` (R345, R361). -/
def State.stnowWrite (s : State) : State :=
  if s.vault.st = .entropyRaw then s.endRaw
  else if s.vault.st = .operational ∨ s.vault.st = .unprovisioned then (s.raise Reg.VLT_CTRL_STNOW 0).startPeriodic
  else s

/-- STNOW (R345, R361): a write of 1 runs PERIODIC now; in ENTROPY_RAW it ends that state. -/
def execStnow (ten tag : Nat) (s : State) : Host.Outcome State Fault Refusal :=
  .next (s.hostWrite ten tag 0x100008 none true (fun s => s.stnowWrite))

/-- PERIODIC_TEST_DONE (R345, R361): the CASTs pass with code 0 and the previous state returns, or one fails with the ADDR code of R362. -/
def execPeriodicTestDone (code : Nat) (s : State) : Host.Outcome State Fault Refusal :=
  if s.vault.st ≠ .periodic then .next s
  else
    let s := ((s.bump Reg.VLT_STCNT_COUNT 0 1).set Reg.VLT_CTRL_STNOW 0 0).raise Reg.VLT_EVENT_PERIODIC 0
    .next (if code = 0 then ({ s with vault := { s.vault with st := s.vault.back } }).afterTests else s.vaultFault 0x701 code)

/-- ENTROPY_SAMPLE (R354): a raw sample meets the health tests; after ENTROPY_RAW the DRBG reseeds once 4,096 have passed. The first failure restarts the source; another within a second is a self-test failure. -/
def execEntropySample (sample : Nat) (s : State) : Host.Outcome State Fault Refusal :=
  if s.vault.st = .off ∨ s.vault.st = .error then .next s
  else
    let x := wrap 1 sample
    let startUp := decide (s.vault.samples < 4096)
    let (v, fail) := s.vault.health x
    let raw := if v.st = .entropyRaw then v.raw ++ [x] else []
    let s := { s with vault := { v with raw := if raw.length ≥ 64 then [] else raw } }
    let s := if raw.length ≥ 64 then s.set Reg.VLT_RAW_SAMPLES 0 (pack (raw.zipIdx.map (fun e => (e.2, 1, e.1)))) else s
    match fail with
    | none => .next (if s.vault.retest ∧ 4096 ≤ s.vault.samples then { s with vault := { s.vault with retest := false, generates := 0 } } else s)
    | some code =>
      let again : Bool := match s.vault.failGt with | some g => decide (s.gt ≤ g + 250 * s.cfg.rclk) | none => false
      if again then .next (s.vaultFault 0x701 (if startUp then 0x10 else code))
      else .next ({ s with vault := { s.vault with samples := 0, rct := none, apt := none, raw := [], failGt := some s.gt } }.raise Reg.VLT_EVENT_HEALTH1 0)

/-- DRBG_RESEED (R354): the CTR_DRBG reseeds, which ENTROPY_RAW and the start-up tests after it defer. -/
def execDrbgReseed (s : State) : Host.Outcome State Fault Refusal :=
  .next (if s.vaultServes ∧ s.vault.mayReseed then { s with vault := { s.vault with generates := 0 } } else s)

/-- ENTROPY_RAW_END (R345): the token's time has elapsed. -/
def execEntropyRawEnd (s : State) : Host.Outcome State Fault Refusal := .next s.endRaw

/-- GLITCH_DETECT (R362): VAULT_BOUNDARY with code 2. -/
def execGlitchDetect (s : State) : Host.Outcome State Fault Refusal := .next (s.vaultFault 0x702 2)

/-- SCAN_MODE_ENABLE (R362): VAULT_BOUNDARY with code 1 while the Vault is powered. -/
def execScanModeEnable (s : State) : Host.Outcome State Fault Refusal := .next (s.vaultFault 0x702 1)

/-- KEY_STORE_PARTITION_ACCESS (R362): VAULT_BOUNDARY with code 4. -/
def execKeyStorePartitionAccess (s : State) : Host.Outcome State Fault Refusal := .next (s.vaultFault 0x702 4)

/-! ## Requests of Kiln units (R347) -/

/-- RANDOM (R347): a unit of the Kiln asks for random values. -/
def execRandom (caller : Nat) (s : State) : Host.Outcome State Fault Refusal := .next (s.vaultAsk (.random caller))

/-- DERIVE_ROTKEY (R49, R347). -/
def execDeriveRotkey (region tenant : Nat) (s : State) : Host.Outcome State Fault Refusal := .next (s.vaultAsk (.deriveRotkey region tenant))

/-- HMAC_RECORD (R294, R347): the tag of a record of `len` bytes. -/
def execHmacRecord (len data : Nat) (s : State) : Host.Outcome State Fault Refusal := .next (s.vaultAsk (.hmacRecord len data))

/-- HMAC_LEDGER (R402): the seal of the page that closes, where it has not been asked for; where the Vault refuses, the page closes unsealed. -/
def execHmacLedger (s : State) : Host.Outcome State Fault Refusal := .next s.askSeal

/-- VERIFY_CHARTER (R417): the Charter unit's image. -/
def execVerifyCharter (s : State) : Host.Outcome State Fault Refusal := .next (if s.bru.state = .load then s.askOnce .verifyCharter else s)

/-- TENANT_KEYGEN (R352): the previous pair is zeroised, and a new one asked for. -/
def execTenantKeygen (tenant : Nat) (s : State) : Host.Outcome State Fault Refusal := .next ((s.keydropDone tenant).askOnce (.keygen tenant))

/-- TENANT_KEYDROP (R352). -/
def execTenantKeydrop (tenant : Nat) (s : State) : Host.Outcome State Fault Refusal := .next (s.askOnce (.keydrop tenant))

/-- SIGN_COLOPHON (R297): the tenant's Colophon, once its sweep is committed. -/
def execSignColophon (tenant : Nat) (s : State) : Host.Outcome State Fault Refusal :=
  .next (if ((s.ep tenant).colo.map (·.swept)).getD false then s.askOnce (.signColophon tenant false) else s)

/-- SIGN_ROOT (R335): the oldest closed batch. -/
def execSignRoot (s : State) : Host.Outcome State Fault Refusal := .next s.signNext

/-- VAULT_SERVICE_DONE (R352, R360, R365): the next request by priority is served. `pairwise` is 0, or the ADDR code of a pairwise test that fails after a generation. While PERIODIC
runs, requests wait. -/
def execVaultServiceDone (pairwise : Nat) (s : State) : Host.Outcome State Fault Refusal :=
  if s.vaultServes = false ∨ s.vault.st = .periodic then .next s
  else
    match s.nextRequest with
    | none => .next s
    | some q =>
      let s := { s with vault := { s.vault with queue := s.vault.queue.erase q }.refill }
      match q with
      | .keygen _ => .next (if pairwise ≠ 0 then s.vaultFault 0x701 pairwise else s.serveRequest q)
      | _ => .next (s.serveRequest q)

/-! ## Nonces and tokens -/

/-- A write of `VLT_NONCE_REQ` (R357). -/
def State.nonceWrite (s : State) (service : Nat) : State :=
  let s := s.set Reg.VLT_NONCE_REQ_SERVICE 0 service
  if tokenService service = false ∨ s.vaultServes = false then s
  else if s.vault.st = .periodic then { s with vault := { s.vault with nonceDue := s.vault.nonceDue ++ [service] } }
  else s.issueNonce service

/-- NONCE_REQUEST (R357): a token service's code draws a nonce into a slot; PERIODIC makes the request wait. -/
def execNonceRequest (service ten tag : Nat) (s : State) : Host.Outcome State Fault Refusal :=
  .next (s.hostWrite ten tag 0x100020 none true (fun s => s.nonceWrite service))

/-- NONCE_LIFETIME_END (R357): the lifetime of a slot's nonce has ended. -/
def execNonceLifetimeEnd (slot : Nat) (s : State) : Host.Outcome State Fault Refusal :=
  match tget slot s.vault.slots with
  | some n => .next { s with vault := { s.vault with slots := tput slot { n with ended := true } s.vault.slots } }
  | none => .next s

/-- LEDGER_CLEAR (R356, R406): GO with a token of this service whose signatures verify. -/
def execLedgerClear (ten tag : Nat) (s : State) : Host.Outcome State Fault Refusal := .next (s.tokenOf 1 ten tag)

/-- ZEROISE (R356, R363). -/
def execZeroise (ten tag : Nat) (s : State) : Host.Outcome State Fault Refusal := .next (s.tokenOf 2 ten tag)

/-- PROVISION (R351, R356). -/
def execProvision (ten tag : Nat) (s : State) : Host.Outcome State Fault Refusal := .next (s.tokenOf 3 ten tag)

/-- REKEY_TALLY (R356). -/
def execRekeyTally (ten tag : Nat) (s : State) : Host.Outcome State Fault Refusal := .next (s.tokenOf 4 ten tag)

/-- REVOKE_OFFICER (R356). -/
def execRevokeOfficer (ten tag : Nat) (s : State) : Host.Outcome State Fault Refusal := .next (s.tokenOf 5 ten tag)

/-- DEBUG_UNLOCK (R356, R477). -/
def execDebugUnlock (ten tag : Nat) (s : State) : Host.Outcome State Fault Refusal := .next (s.tokenOf 6 ten tag)

/-- ENTROPY_RAW (R354, R356). -/
def execEntropyRaw (ten tag : Nat) (s : State) : Host.Outcome State Fault Refusal := .next (s.tokenOf 7 ten tag)

/-- TOKEN_REJECT (R357, R358): GO with a token whose signatures verify as the operands say; the first check that fails gives the reason. A token that passes is
carried out. -/
def execTokenReject (ecdsaOk mldsaOk : Bool) (ten tag : Nat) (s : State) : Host.Outcome State Fault Refusal :=
  .next (s.hostWrite ten tag 0x100040 none true (fun s => s.tokenGo ecdsaOk mldsaOk))

end Sys2Proof.Machine
end

