-- ==== Sys2Proof/Machine/ViewOps.lean ====
section
/-! DEFINITION. What a read of a register returns (R9): fields that show other state of the units, by window and offset, and the registers that are
arrays of bytes or entries. -/

namespace Sys2Proof.Machine

/-! ## Hubs and probes -/

/-- Columns whose reader is in a reading (R119). -/
def Hub.busyColumns (h : Hub) : List Nat :=
  (h.readings.flatMap (fun e => e.2)).filterMap (fun x =>
    if x.st == .copy || x.st == .run || (x.st == .third && x.running) then x.reader.map tileCol else none)

/-- Fields of the hub's registers that show its state, in the order of the register's fields (R119, R139, R168, R195, R219, R243, R340, R483, R507). -/
def State.hubView (s : State) (r : Nat) (off : Nat) : Option (List Nat) :=
  let h := s.hub r
  let reads : ReadCount := tgetD {} (s.get Reg.RH_RD_TSEL_TENANT r) h.readCounts
  match off with
  | 0x000 => some [hubSrc r]
  | 0x004 =>
    let b := s.bru
    some (if b.trained then [r % b.trainW, r / b.trainW, flag (r % b.trainW == b.trainS)] else [0, 0, 0])
  | 0x408 => some [maskOf h.busyColumns]
  | 0x40C => some [maskOf ((List.range 32).filter (fun c => !h.cat.cols.isEmpty && (h.readerOf c).isNone))]
  | 0x448 => some [reads.chosen]
  | 0x44C => some [reads.agree]
  | 0x450 => some [reads.wmin]
  | 0x454 => some [reads.gmin]
  | 0x458 => some [reads.nomaj]
  | 0x45C => some [reads.aband]
  | 0x460 => some [reads.unread]
  | 0x464 => some [reads.ovr]
  | 0x468 => some [reads.macs]
  | 0x470 => some [reads.elems]
  | 0x528 =>
    let b : TileBook := tgetD {} (s.get Reg.RH_MW_SEL_TILE r) h.books
    some [(b.history.filter (·.valid)).length, b.lowRun, flag b.fit, b.pred, (b.history.head?.map (·.secs)).getD 0]
  | 0x810 => some [maskOf ((List.range 32).filter (fun c => !h.cat.cols.isEmpty && h.cat.stateOf c == .walk))]
  | 0x900 => some [(h.fl.open_.filter (fun f => f.st != .receiving)).length, flag (tgetD [] r s.fl.behind != [])]
  | 0x904 => some [h.fl.last]
  | 0xA00 => some [h.flt.buckets.length, saturate 7 h.flt.queue.length, h.flt.phase.code]
  | 0xA18 =>
    (match tget (s.get Reg.RH_FLT_BSEL_ENTRY r) h.flt.buckets with
     | some b => some [b.key, b.kind, b.level, nextLeakMs s h.gt b]
     | none => some [0, 0, 0, 0])
  | 0xA40 =>
    (match h.flt.first with
     | some (m, gt) => some [m.flit.toNat, gt]
     | none => some [0, 0])
  | 0xB04 => some [(s.contextsOf r).length, s.get Reg.RH_WD_STATUS_OWING r, flag h.wd.rstCtx.isSome, flag h.wd.rstEng]
  | 0xB10 =>
    let t := s.get Reg.RH_WD_TSEL_TENANT r
    let c := h.wd.ctxOf t
    some [saturate 16 c.count, flag c.owing, flag c.suspect, flag c.parked, flag ((s.contextsOf r).contains t), wrap 32 (tgetD 0 t h.wd.trips)]
  | 0xC00 => some [unsigned 16 (s.estimate r), s.get Reg.RH_TH_STATUS_BAND r, s.get Reg.RH_TH_STATUS_THR r]
  | 0xC18 =>
    (match tget (s.get Reg.RH_EN_TSEL_TENANT r) h.en.counters with
     | some c => some [c.count, c.base, c.frac, flag c.ua, 1]
     | none => some [0, 0, 0, 0, 0])
  | 0xF08 => some [h.tr.recs.length, h.tr.head]
  | _ => none

/-- Fields of the probe's registers that show its state (R97, R138). -/
def State.probeView (s : State) (i : Nat) (off : Nat) : Option (List Nat) :=
  let r := i / 2048
  let t := i % 2048
  let p := s.probe r t
  let c : Ctx := tgetD {} (s.get Reg.TP_CTXSEL_SEL i) p.ctx
  match off with
  | 0x00 => some [probeSrc r t]
  | 0x04 =>
    some [p.fence.code, flag p.closed, flag p.powered, maskOf ((List.range 4).filter (fun k => (p.slot k).st != .free)), p.unreleased.head?.getD 0, p.band,
      flag (p.faultOut != []), flag p.xown, s.retriesLeft r t]
  | 0x24 => some [c.tenant, flag c.valid]
  | 0x28 => some [c.count]
  | 0x30 => some [bits c.key 0 64]
  | 0x38 => some [bits c.key 64 16]
  | 0x60 => some [p.cshkStep, flag p.cshkAck]
  | 0x64 => some [p.shelfX, p.shelfY, flag p.shelfValid]
  | 0xC0 => some [if p.stopLeaf && p.ift.running then IftState.wait.code else p.ift.state.code, p.ift.pat, p.ift.step, p.ift.pass, flag p.ift.mwen]
  | 0xC8 => some [p.ift.timeField]
  | _ => none

/-! ## The Kiln -/

/-- A log header (R194); the counts of participants are of the Folio's own. -/
def FolioRec.header (f : FolioRec) : Nat :=
  let isVoid := f.st == .void
  pack [(0, 32, f.number), (32, 3, f.st.code), (35, 1, flag f.xchip), (36, 4, if isVoid then f.vreason else 0), (40, 12, f.tenant),
    (52, 9, f.acts.length), (61, 3, f.origin), (64, 64, f.gtprep), (128, 64, f.gtvote),
    (192, 64, if f.st == .decided || f.st == .applied then f.sealt else 0), (256, 11, if isVoid then f.voidsrc else 0x7FD), (267, 5, f.voidlink),
    (272, 16, f.parts.length), (288, 16, f.late.length), (304, 16, (f.parts.filter (fun p => !f.done.contains p)).length), (320, 64, f.gtdone),
    (384, 15, f.actStart), (400, 32, f.peernum)]

/-- A mask of ports by their state (R280). -/
def State.portMask (s : State) (st : PortState) : Nat := maskOf ((List.range 32).filter (fun c => (s.port c).st == st))

/-- A channel of Sense. -/
def State.sense (s : State) (n : Nat) : SenseCh := tgetD {} n s.tally.channels

/-- Fields of the Kiln global window that show the units' state (R218, R242, R280, R436, R463, R506). -/
def State.globalView (s : State) (off : Nat) : Option (List Nat) :=
  match off with
  | 0x0004 => some (if s.declared then [s.cfg.w, s.cfg.h, s.cfg.spine] else [0, 0, 0])
  | 0x0010 => some [s.ghp.length]
  | 0x0040 => some [wrap 7 Config.staticAddress, s.mgt.da.getD 0, flag s.mgt.da.isSome, s.mgt.eid, flag s.pwr.running]
  | 0x0044 => some [wrap 32 Config.iana]
  | 0x0800 => some [s.bru.state.code, s.bru.code, flag s.bru.classH, s.get Reg.BRU_STATUS_UNPROV 0]
  | 0x0900 =>
    some [s.pwr.state.code, flag s.pwr.onBk, flag s.pwr.holdover, flag (s.pwr.transitions != []), flag s.pwr.onLatch, flag s.pwr.pcreq, flag s.pwr.acked]
  | 0x0920 => some [s.ledgerTime]
  | 0x0930 => some [flag s.pwr.btnPressed, flag s.pwr.btnStuck]
  | 0x1008 => some [s.flt.phase.code]
  | 0x100C =>
    some [s.flt.phase.code, flag s.pwr.sealedLatch, flag (s.reactions.any (fun r => r.level == 2 && (r.unack || r.st == .queued))),
      (s.reactions.filter (fun r => r.st == .queued)).length, saturate 8 (s.reactions.filter (·.unack)).length]
  | 0x1010 => some [s.flt.nextSeq]
  | 0x1020 => some [s.flt.head]
  | 0x1040 => some [((tget (s.get Reg.FLT_FIRSTSEL_LEVEL 0) s.flt.first).map (·.word)).getD 0]
  | 0x1060 => some [((tget (s.get Reg.FLT_LOGSEL_INDEX 0) s.flt.log).map (·.word)).getD 0]
  | 0x10A0 =>
    (match s.reaction (s.get Reg.FLT_RSEL_RID 0) with
     | some r => some [r.rid, r.level, r.st.code, r.src, r.kind, r.fseq, r.folio, saturate 16 r.merges]
     | none => none)
  | 0x1114 => some [s.rcv.st.code, if s.rcv.st = .idle then 0 else s.rcv.rung, s.rcv.nsus, s.rcv.case]
  | 0x1118 => some [s.rcv.granted.getD 0, flag s.rcv.granted.isSome]
  | 0x1120 => (s.rcv.suspects[s.get Reg.RCV_SUSSEL_INDEX 0]?).map (fun x => [x.1, x.2.1, x.2.2.code])
  | 0x1204 => some [s.cfg.ordinal]
  | 0x1220 => some [s.portMask .up]
  | 0x1224 => some [s.portMask .disputed]
  | _ => none

/-- Fields of the other Kiln windows that show the units' state (R167, R193, R339, R367, R389, R410, R484). -/
def State.unitView (s : State) (off : Nat) : Option (List Nat) :=
  match off with
  | 0x100004 => some [s.vault.st.code, s.get Reg.VLT_STATUS_ERRCODE 0, s.get Reg.VLT_STATUS_ERRKIND 0, s.vault.queue.length, s.get Reg.VLT_STATUS_BLOB 0]
  | 0x100058 =>
    let k : VaultKey := tgetD {} (s.get Reg.VLT_KSEL_HANDLE 0) s.vault.keys
    some [k.st, k.gen, k.uses]
  | 0x100070 => some [if s.vault.st = .entropyRaw then s.get Reg.VLT_RAW_SAMPLES 0 else 0]
  | 0x140004 => some [s.get Reg.STK_STATUS_HALTED 0, s.get Reg.STK_STATUS_HCH 0, s.get Reg.STK_STATUS_HCAUSE 0, s.stk.reads.length]
  | 0x140014 => some [maskOf ((List.range 32).filter (fun n => (s.stkCh n).st != .idle))]
  | 0x1C0008 =>
    some [pack ((List.range 8).map (fun n => (3 * n, 3, (s.sense n).st.code))), maskOf ((List.range 8).filter (fun n => (s.sense n).anchored))]
  | 0x1C0018 =>
    let c := s.sense (s.get Reg.SNS_CHSEL_CH 0)
    some [c.vsh, c.vbus, saturate 32 c.eper, c.k, c.kbar, c.st.code, c.passes, c.openCnt]
  | 0x1C0104 => some [flag s.sweepBusy, s.get Reg.TLY_STATUS_NOSIGN 0, s.tally.queue.length, s.tally.bank]
  | 0x200000 =>
    let l := s.ldg
    some [s.get Reg.LDG_STATUS_UNSEALED 0, flag l.wrapped, flag l.clearing.isSome, (l.pageAt l.slot).recs.length, l.buf.length, l.stage.length, flag l.foldOpen]
  | 0x200004 => some [s.ldg.page]
  | 0x200008 => some [s.ldg.oldest]
  | 0x20000C => some [s.ldg.sealedPage]
  | 0x204024 => some [match s.dbg.unlock with | some e => saturate 32 (e - s.pwr.secs) | none => 0]
  | 0x204048 => some [s.get Reg.DBG_TRSTATUS_BADRING 0, s.get Reg.DBG_TRSTATUS_WAIT 0, s.dbg.pend]
  | 0x300004 => some [s.openCount, s.queuedCount, flag s.stopped, (s.fl.behind.filter (fun e => e.2 != [])).length]
  | 0x300008 => some [s.fl.next]
  | 0x300040 => (s.folio (s.get Reg.FOLIO_SEL_NUMBER 0)).map (fun f => [f.header])
  | 0x340018 =>
    if s.get Reg.CAT_SEL_REGION 0 < s.regionCount then some [(s.masterOf (s.get Reg.CAT_SEL_REGION 0)).colRecord (s.get Reg.CAT_SEL_COL 0)] else none
  | 0x340020 =>
    if s.get Reg.CAT_SEL_REGION 0 < s.regionCount ∧ s.get Reg.CAT_SEL_ROW 0 < 33 then
      some [(s.masterOf (s.get Reg.CAT_SEL_REGION 0)).posRecord (tileAt (s.get Reg.CAT_SEL_ROW 0) (s.get Reg.CAT_SEL_COL 0))]
    else none
  | 0x340028 => some [s.columnsIn .parked, s.columnsIn .exhausted, s.columnsIn .closed]
  | _ => none

/-- Fields of a Concordance port's registers that show its state (R281). -/
def State.clpView (s : State) (c : Nat) (off : Nat) : Option (List Nat) :=
  let p := s.port c
  match off with
  | 0x00 =>
    some [p.st.code, flag (s.isPrimary c), flag p.thetaValid, flag p.linkUp, p.linkPs, if p.st = .disputed then p.dcause else 0, flag p.peerGone,
      flag p.peerDol, p.bindings.length, p.sess]
  | 0x08 => some [p.peerOrd, p.peerClp, p.psess]
  | 0x14 => some (if p.st = .up then [p.poolFree, flag p.answerFree, s.offeredCr c - p.rxPool] else [0, 0, 0])
  | 0x18 => some [p.txNext, (p.unacked.head?.map (·.seq)).getD p.txNext, p.rxNext, p.unacked.length]
  | 0x20 => some [unsigned 64 p.theta, p.delta, if p.pairKept then saturate 32 ((s.gt - p.pairGt) * 4000 / s.cfg.rclk) else 0]
  | 0x108 =>
    (p.bindings[s.get Reg.CCD_BSEL_INDEX c]?).map (fun b =>
      [b.job, b.tenant, b.slice, b.pslice, b.st.code, flag b.waiting, b.highe, b.peere, s.get Reg.TEN_EP_LAST_EPOCH b.tenant])
  | 0x200 => some [p.disp.cause, p.disp.seq, p.disp.job, p.disp.ref, p.disp.ev1, p.disp.ev2, p.disp.gt]
  | _ => none

/-- A tenant holds a shelfmark (R494). -/
def State.holdsShelf (s : State) (t : Nat) : Bool := s.regionsOfTenant t != []

/-- TP_CNT_LAST of a probe as its window shows it (R485). -/
def State.cntLast (s : State) (i : Nat) : Nat :=
  pack ([Reg.TP_CNT_LAST_TENANT, Reg.TP_CNT_LAST_HTAG, Reg.TP_CNT_LAST_SLOT, Reg.TP_CNT_LAST_OUTCOME, Reg.TP_CNT_LAST_VALID, Reg.TP_CNT_LAST_LAYER,
    Reg.TP_CNT_LAST_OPERATOR, Reg.TP_CNT_LAST_D].map (fun f => (f.lo, f.w, s.get f i)))

/-- What `TEN_DBG_LAST` shows (R467): the group of the probe that holds the selected shelfmark, where the tenant holds it and the command was the tenant's. -/
def State.tenDbgLast (s : State) (t : Nat) : Nat :=
  let x := s.get Reg.TEN_DBG_SEL_X t
  let y := s.get Reg.TEN_DBG_SEL_Y t
  match s.regionOfShelf x y with
  | some r =>
    let p := s.masterOf r
    (match p.rowOf (x % 32) (y % 32) with
     | some row =>
       let i := pid r (tileAt row (x % 32))
       if (p.holdersOf (x % 32) (y % 32)).contains t && s.get Reg.TP_CNT_LAST_TENANT i == t then s.cntLast i else 0
     | none => 0)
  | none => 0

/-- Fields of a tenant page that show other state (R467, R494). -/
def State.tenantView (s : State) (t : Nat) (off : Nat) : Option (List Nat) :=
  match off with
  | 0x000 => some [t, flag (s.holdsShelf t)]
  | 0x308 => some [s.tenDbgLast t]
  | _ => none

/-- Fields of a Stacker channel and of a window (R368, R389, R390). -/
def State.channelView (s : State) (n : Nat) (off : Nat) : Option (List Nat) :=
  match off with
  | 0x8 => some [0, 0, s.stkPrio n, s.stkTag n, s.get Reg.STK_CH_CTRL_WINMASK n]
  | 0xC =>
    some [(s.stkCh n).st.code, s.get Reg.STK_CH_STATUS_ERRCODE n, s.get Reg.STK_CH_STATUS_MISMATCH n, s.get Reg.STK_CH_STATUS_DROPPED n,
      s.get Reg.STK_CH_STATUS_PENDGO n]
  | _ => none

/-- A Stacker window, from the Charter; size 0 where it is unused (R389). -/
def State.windowView (s : State) (w : Nat) : List Nat :=
  match s.cfg.windows.find? (fun e => e.index == w) with
  | some e => [e.base, flag e.read, flag e.write, e.tenant, e.size]
  | none => [0, 0, 0, 0, 0]

/-- Fields of a register that show other state, in the order of its fields. -/
def State.view (s : State) (w : Win) (i off : Nat) : Option (List Nat) :=
  match w with
  | .kiln => if off < 0x2000 then s.globalView off else s.unitView off
  | .clp => s.clpView i off
  | .channel => s.channelView i off
  | .stkwin => some (s.windowView i)
  | .tenant => s.tenantView i off
  | .hub => s.hubView i off
  | .probe => s.probeView i off

/-- Registers whose selector names nothing (R218, R242, R281, R193): the field that says so with its code. The other fields, which the spec leaves open
there, and the records of a Catalogue selector outside the grid, are free values (assumption 80). -/
def State.nothing (s : State) (w : Win) (i off : Nat) : Option (Nat × Nat × Nat) :=
  if (s.view w i off).isSome then none
  else match w, off with
    | .kiln, 0x10A0 => some (18, 3, 7)
    | .kiln, 0x1120 => some (23, 3, 7)
    | .kiln, 0x300040 => some (32, 3, 7)
    | .kiln, 0x340018 => some (0, 0, 0)
    | .kiln, 0x340020 => some (0, 0, 0)
    | .clp, 0x108 => some (68, 3, 7)
    | _, _ => none

/-- The fields of a register put together; reserved bits read 0 (R10). -/
def RegRow.assemble (r : RegRow) (vals : List Nat) : Nat := pack ((r.fields.zip vals).map (fun e => (e.1.lo, e.1.w, e.2)))

/-- Bits of a register that some field covers. -/
def RegRow.covered (r : RegRow) : Nat := pack (r.fields.map (fun f => (f.lo, f.w, 2 ^ f.w - 1)))

/-- The value of a register, or of a whole group of one table (R9, R10), with the state after any free value was drawn. TP_STATUS.HEAD reads its reset
value until the probe's first slot, then a free value while no slot is unreleased (R14, R97, assumption 80). -/
def State.rowValue (s : State) (r : RegRow) (i : Nat) : Nat × State :=
  match s.nothing r.win i r.off with
  | some (lo, w, v) =>
    let (x, s) := s.fresh (8 * r.size)
    (masked (x &&& r.covered) ((2 ^ w - 1) <<< lo) (v <<< lo), s)
  | none =>
    if r.win = .probe ∧ r.off = 4 ∧ (s.probe (i / 2048) (i % 2048)).unreleased = [] ∧ (s.probe (i / 2048) (i % 2048)).nextOrder ≠ 0 then
      let (x, s) := s.fresh 2
      (r.assemble (((s.view r.win i r.off).getD []).set 4 x), s)
    else
      (r.assemble (match s.view r.win i r.off with
        | some l => l
        | none => r.fields.map (fun f => s.get f i)), s)

end Sys2Proof.Machine
end

