-- ==== Sys2Proof/Machine/ReadOps.lean ====
section
/-! DEFINITION. Reads of the GHP address space (R486–R494): arrays of bytes and entries, snapshot groups (R13), rights, alignment and
status (R490). -/

namespace Sys2Proof.Machine

/-! ## Arrays -/

/-- The 64-bit word of a buffer at an address. -/
def bufferWord (b : Buffer) (a : Nat) : Nat := (readBytes b a 8).foldr (fun x acc => x.toNat + 256 * acc) 0

/-- The 64-bit word at a place of a register that is an array: notice ring (R215), VLT_TOKBUF, VLT_PUB, VLT_CERT (R367), LDG_RDBUF (R410), RH_MW_HIST
(R139) and CCD_XDOUBT (R281). The offset is a multiple of 8. -/
def State.arrayWord (s : State) (p : Place) : Option Nat :=
  let o := p.off
  let key : VaultKey := tgetD {} (s.get Reg.VLT_KSEL_HANDLE 0) s.vault.keys
  match p.win with
  | .kiln =>
    if 0x2000 ≤ o ∧ o < 0x4000 then some (match tget ((o - 0x2000) / 32) s.flt.notices with | some n => bits n.word (8 * (o % 32)) 64 | none => 0)
    else if 0x101000 ≤ o ∧ o < 0x101E00 then some (bufferWord s.tokbuf (o - 0x101000))
    else if 0x102000 ≤ o ∧ o < 0x103000 then some (bits key.pub (8 * (o - 0x102000)) 64)
    else if 0x103000 ≤ o ∧ o < 0x103E00 then some (bits key.cert (8 * (o - 0x103000)) 64)
    else if 0x201000 ≤ o ∧ o < 0x203100 then some (bufferWord s.pageBuf (o - 0x201000))
    else none
  | .hub =>
    if 0x600 ≤ o ∧ o < 0x800 then
      let b : TileBook := tgetD {} (s.get Reg.RH_MW_SEL_TILE p.inst) (s.hub p.inst).books
      some (((b.history[(o - 0x600) / 8]?).map (·.word)).getD 0)
    else none
  | .clp => if 0x300 ≤ o ∧ o < 0x340 then some ((((s.port p.inst).inDoubt[(o - 0x300) / 8]?).map (fun e => wrap 32 e.1 + wrap 32 e.2 * 2 ^ 32)).getD 0) else none
  | _ => none

/-- The place rounded down to a multiple of 8. -/
def Place.word (p : Place) : Place := { p with off := p.off - p.off % 8 }

/-! ## Snapshot groups (R13) -/

/-- First register of the group that a register belongs to: the reading counters are one group of several registers (R119); any other group is one
row of the map. -/
def RegRow.groupBase (r : RegRow) : Nat := if r.win = .hub ∧ 0x448 ≤ r.off ∧ r.off < 0x478 then 0x448 else r.off

/-- The registers captured together with a group's first one. -/
def RegRow.group (r : RegRow) : List RegRow := r.win.rows.filter (fun x => x.groupBase == r.groupBase)

/-- Key of a capture: the live map and the mirror's image of it capture apart (R493). -/
def RegRow.snapKey (r : RegRow) (space i : Nat) : Nat := space + r.win.base i + r.off

/-- The group of a register is captured. -/
def State.captureGroup (s : State) (space i : Nat) (r : RegRow) : State :=
  r.group.foldl (fun (s : State) x =>
    let (v, s) := s.rowValue x i
    { s with snaps := tput (x.snapKey space i) v s.snaps }) s

/-- The groups that a register table marks as snapshot groups, by window and first offset (R13): GHP_ERRLOG, CHR_INFO, PWR_LASTLOSS, FLT_REACT, RCV_LAST,
SNS_CH, TLY_LAST, FOLIO_LOG, CAT_COUNTS; CCD_BIND, CCD_DISP; STK_CHn_PROG; TEN_TLY_LAST; RH_RD_LAST, the reading counters, RH_MW_SUM, RH_EN_TCTR; TP_TAGERR,
TP_CAPTURE, TP_CNT_LAST, TP_IFT_SIG. -/
def snapGroups : List (Win × Nat) :=
  [(.kiln, 0x20), (.kiln, 0x820), (.kiln, 0x940), (.kiln, 0x10A0), (.kiln, 0x1140), (.kiln, 0x1C0018), (.kiln, 0x1C0110), (.kiln, 0x300040),
   (.kiln, 0x340028), (.clp, 0x108), (.clp, 0x200), (.channel, 0x10), (.tenant, 0x210), (.hub, 0x420), (.hub, 0x448), (.hub, 0x528), (.hub, 0xC18),
   (.probe, 0x18), (.probe, 0x40), (.probe, 0xA0), (.probe, 0xD0)]

/-- The register belongs to a snapshot group. -/
def RegRow.isSnap (r : RegRow) : Bool := snapGroups.contains (r.win, r.groupBase)

/-- A register as a read at an offset finds it: a snapshot group as captured, which a read at its first register does first (R13). Before
the group is ever captured its later registers show their reset values (R14, assumption 131). -/
def State.readRow (s : State) (space i : Nat) (r : RegRow) (off : Nat) : Nat × State :=
  if r.isSnap then
    let s := if off = r.groupBase then s.captureGroup space i r else s
    (tgetD (r.assemble (r.fields.map (·.reset))) (r.snapKey space i) s.snaps, s)
  else s.rowValue r i

/-- `w` bits at a place of the map, where a register or an array is there. -/
def State.readBits (s : State) (space : Nat) (p : Place) (w : Nat) : Option Nat × State :=
  match s.arrayWord p.word with
  | some x => (some (bits x (8 * (p.off % 8)) w), s)
  | none =>
    match rowAt p.win p.off with
    | some r =>
      let (v, s) := s.readRow space p.inst r p.off
      (some (bits v (8 * (p.off - r.off)) w), s)
    | none => (none, s)

/-! ## Judgement (R490) -/

/-- An address lies in a window of R486. -/
def inWindow (a : Nat) : Bool :=
  decide (a < 0x380000 ∨ (0x1000000 ≤ a ∧ a < 0x2000000) ∨ (0x8000000 ≤ a ∧ a < 0xC800000) ∨ (0x10000000 ≤ a ∧ a < 0x34000000))

/-- An address of the state mirror. -/
def inMirror (a : Nat) : Bool := decide (0x40000000 ≤ a ∧ a < 0x80000000)

/-- The 64-bit word of a register that an offset falls in is a whole one. -/
def RegRow.wide (r : RegRow) (off : Nat) : Bool := decide ((off - r.off) / 8 * 8 + 8 ≤ r.size)

/-- A 32-bit half of a register holds a field other than RO or RS (R13). -/
def RegRow.halfWritable (r : RegRow) (off : Nat) : Bool :=
  let lo := 8 * (off - r.off)
  r.fields.any (fun f => f.acc != .ro && f.acc != .rs && decide (f.lo < lo + 32 ∧ lo < f.lo + f.w))

/-- Row 2 of R490: not aligned to the size, 64 bits of a 32-bit register, or 32 bits of a half that may not be accessed alone. Arrays take both sizes
(assumption 83). -/
def misaligned (a : Nat) (sz64 : Bool) : Bool :=
  a % (if sz64 then 8 else 4) != 0 ||
    (!inMirror a && match rowAt (placeOf a).win (placeOf a).off with
      | some r => if sz64 then !r.wide (placeOf a).off else r.wide (placeOf a).off && r.halfWritable (placeOf a).off
      | none => false)

/-- A tenant may read a place (R367, R368, R486, R494). -/
def State.mayRead (s : State) (ten : Nat) (p : Place) : Bool :=
  ten == 0 ||
    match p.win with
    | .kiln => decide (p.off < 4 ∨ (0x100000 ≤ p.off ∧ p.off < 0x100008) ∨ (0x100010 ≤ p.off ∧ p.off < 0x100020))
    | .channel => decide (4 ≤ p.inst) && s.stkTag p.inst == ten
    | .tenant => p.inst == ten
    | _ => false

/-- A place that R486 and R494 leave: the windows of what the Charter does not declare, and the page of an inactive tenant beside TEN_ID. -/
def State.placeExists (s : State) (p : Place) : Bool :=
  s.windowExists p.win p.inst && (p.win != .tenant || decide (p.off < 4) || s.tenantActive p.inst)

/-- The status that the Kiln gives a read below the mirror before its target serves it (R490). -/
def State.readStatus (s : State) (ten a : Nat) (sz64 : Bool) : GhpStatus :=
  let p := placeOf a
  if misaligned a sz64 then .align
  else if inWindow a = false then .rsvd
  else if s.mayRead ten p = false then .denied
  else if s.placeExists p = false then .rsvd
  else .ok

/-- A read of a place at its target: status, data, and the state with what it captured. -/
def State.readPlace (s : State) (p : Place) (sz64 : Bool) : GhpStatus × Nat × State :=
  match s.readBits 0 p (if sz64 then 64 else 32) with
  | (some v, s) => (.ok, v, s)
  | (none, s) => (.rsvd, 0, s)

/-- A read of the map below the mirror: status, data, and the state with what it captured. -/
def State.readReg (s : State) (ten a : Nat) (sz64 : Bool) : GhpStatus × Nat × State :=
  if s.readStatus ten a sz64 = .ok then s.readPlace (placeOf a) sz64 else (s.readStatus ten a sz64, 0, s)

/-- A status by its code (R490). -/
def GhpStatus.ofCode (n : Nat) : GhpStatus :=
  match n % 8 with
  | 0 => .ok | 1 => .rsvd | 2 => .locked | 3 => .denied | 4 => .sealed_ | 5 => .align | 6 => .parity | _ => .timeout

end Sys2Proof.Machine
end

