-- ==== Sys2Proof/Machine/MirrorOps.lean ====
section
/-! DEFINITION. The state mirror (R496–R500): what each 64-bit word of it shows. Where no rule states a record's layout,
order or offset, a word is an open function of the records that the part shows (`Config.shown`, assumption 81); the parts are numbered as they stand below. -/

namespace Sys2Proof.Machine

/-- What a 64-bit word of the mirror is: the image of a place of the map, a value, a value whose bits of a mask the spec leaves open, a word with no stated
contents, or nothing. -/
inductive Cell where
  | image (p : Place)
  | value (v : Nat)
  | mixed (v mask : Nat)
  | unstated
  | reserved
  deriving DecidableEq, Repr

/-- A cell of an array of records: word `o / 8` of one record of many bytes. -/
def recordCell (x : Option Nat) (o : Nat) : Cell := .value (bits (x.getD 0) (8 * o) 64)

/-- A cell of a part that shows records in a layout that no rule states: its number, the records, and the offset within it. -/
def Cell.shown {α : Type} (part : Nat) (records : α) (o : Nat) : Cell := .value (wrap 64 (Config.shown part records (o / 8)))

/-- A cell of a table of 32 B records in a stated layout and an order that no rule states: `word` gives the record of a key in use. -/
def Cell.table (part : Nat) (keys : List Nat) (word : Nat → Nat) (o : Nat) : Cell :=
  let k := Config.shownKey part keys (o / 32)
  if keys.contains k then recordCell (some (word k)) (o % 32) else .shown part keys o

/-- A cell of a region's Catalogue part: 32 column records, then 1,056 position records (R166, R496, R497). -/
def CatPart.cell (p : CatPart) (o : Nat) : Cell :=
  if o < 0x100 then .value (p.colRecord (o / 8))
  else if o < 0x2200 then .value (p.posRecord ((o - 0x100) / 8))
  else .reserved

/-! ## Kiln parts (R496) -/

/-- The Folio view (R195, R496): log headers, by number modulo 512, the action ring, and the behind lists, 32 entries of 4 B a hub; an entry past the end of a
list has no stated contents. -/
def State.folioCell (s : State) (o : Nat) : Cell :=
  if o < 0x8000 then recordCell ((s.folios.reverse.find? (fun f => f.number % 512 == o / 64)).map (·.header)) (o % 64)
  else if o < 0x10000 then .reserved
  else if o < 0x90000 then
    (match tget ((o - 0x10000) / 16) s.fl.ring with
     | some a => recordCell (some a) (o % 16)
     | none => .unstated)
  else if o < 0xB4000 then
    let l := tgetD [] ((o - 0x90000) / 128) s.fl.behind
    let i := (o % 128) / 4
    .mixed (pack [(0, 32, l.getD i 0), (32, 32, l.getD (i + 1) 0)]) ((if i < l.length then 2 ^ 32 - 1 else 0) + (if i + 1 < l.length then (2 ^ 32 - 1) * 2 ^ 32 else 0))
  else .reserved

/-- The fault view: log, reactions by RID modulo 1,024, the Kiln's buckets, first captures by level. -/
def State.faultCell (s : State) (o : Nat) : Cell :=
  if o < 0x20000 then recordCell ((tget (o / 32) s.flt.log).map (·.word)) (o % 32)
  else if o < 0x28000 then recordCell ((tget ((o - 0x20000) / 32) s.flt.reacts).map (·.word)) (o % 32)
  else if o < 0x28800 then .shown 1 (tget ((o - 0x28000) / 16) s.flt.buckets) (o % 16)
  else if o < 0x28880 then recordCell ((tget ((o - 0x28800) / 32) s.flt.first).map (·.word)) (o % 32)
  else .reserved

/-- The recovery view: the open case, its suspects and the engines' ladder records (R243). -/
def State.recoveryCell (s : State) (o : Nat) : Cell := .shown 2 s.rcv o

/-- The Flue and GT view: what waits at the spine, hop latencies and GT corrections (R46, R496). -/
def State.flueCell (s : State) (o : Nat) : Cell := .shown 3 (s.flue, s.hops, s.net, s.hubs.map (fun e => (e.1, e.2.gtCorrections)), s.timeRounds) o

/-- The Concordance view, 64 KiB a port: transmit queue, replay and in-doubt lists, content checks, the recall table, and the bindings with their histories
and P_k (R281). -/
def State.concordCell (s : State) (o : Nat) : Cell := .shown (32 + o / 0x10000) (s.port (o / 0x10000), s.link.recalls) (o % 0x10000)

/-- The Vault view: the handle table, public halves, certificates, salt, DEVID, nonce slots, revocation list and request queue, and nothing that stays
unreadable (R364). -/
def State.vaultCell (s : State) (o : Nat) : Cell :=
  .shown 4 (s.vault.keys, s.vault.image.salt, s.vault.image.revoked, s.get Reg.VLT_DEVID_DEVID 0, s.vault.slots, s.vault.queue) o

/-- The Stacker view: 4 KiB a channel with its descriptor, its realignment buffer and its read bursts in flight, then the credits and the arbiter's
position (R390). -/
def State.stackerCell (s : State) (o : Nat) : Cell :=
  let n := o / 0x1000
  if n < 32 then .shown (64 + n) (s.stkCh n, s.stk.reads.filter (fun r => r.ch == n)) (o % 0x1000)
  else .shown 5 (s.stk.rqCred, s.stk.wdCred, s.stk.slot, s.stk.lastCh) (o - 0x20000)

/-- The Tally view: the Kiln's entries, both commit banks and the statement queue (R341). -/
def State.tallyCell (s : State) (o : Nat) : Cell := .shown 6 (s.tally.counters, s.tally.banks, s.tally.bank, s.tally.queue) o

/-- The Ledger and debug view: staging queue, write buffer, open page image, the Kiln's trace ring, the stop capture (R407, R485), and the transition summary,
latches and loss-flush capture of the banked domain (R464), and the fuse map with its repaired rows (R419). -/
def State.debugCell (s : State) (o : Nat) : Cell :=
  .shown 7 ((s.ldg.stage, s.ldg.buf, s.ldg.pageAt s.ldg.slot, s.dbg.recs), (s.dbg.seen, s.get Reg.DBG_GSTIME_GT 0, s.get Reg.DBG_GSREL_GT 0),
    (s.pwr.transitions, s.pwr.onLatch, s.pwr.offLatch, s.pwr.flush), s.bru.fuses) o

/-- The Epoch view: layer entries collected by the closes in progress (R290). -/
def State.epochCell (s : State) (o : Nat) : Cell := .shown 8 (s.colo.tenants.map (fun e => (e.1, e.2.close))) o

/-- A region of the declared grid. -/
def State.inGrid (s : State) (r : Nat) : Bool := s.declared && decide (r < s.regionCount)

/-! ## A region (R497) -/

/-- The 32 B of a counter entry in the layout of `RH_EN_TCTR` (R340). -/
def EnCounter.word (c : EnCounter) : Nat := pack [(0, 64, c.count), (64, 64, c.base), (128, 10, c.frac), (138, 1, flag c.ua), (139, 1, 1)]

/-- A cell of a region's view: the hub window; watchdog contexts (R243); fault buckets (R219); Ledger buckets (R411); the layer table (R305); energy counter
entries (R341); role histories (R162); open Folios (R195); hops and queues; heat, supply and transition (R464); the Catalogue part; the probes' images. -/
def regionCell (s : State) (r o : Nat) : Cell :=
  let h := s.hub r
  if o < 0x10000 then .image ⟨.hub, r, o⟩
  else if o < 0x14000 then .shown 9 (h.wd.ctx, h.wd.trips, s.contextsOf r) (o - 0x10000)
  else if o < 0x16000 then .shown 10 (tget ((o - 0x14000) / 16) h.flt.buckets) (o % 16)
  else if o < 0x16410 then .shown 11 h.lg (o - 0x16000)
  else if o < 0x18000 then .reserved
  else if o < 0x1C000 then .table 12 (h.ep.layers.map (·.1)) (fun k => (tgetD {} k h.ep.layers : LayerEntry).word (k % 65536)) (o - 0x18000)
  else if o < 0x20000 then .reserved
  else if o < 0x24020 then .table 13 (h.en.counters.map (·.1)) (fun k => (tgetD {} k h.en.counters : EnCounter).word) (o - 0x20000)
  else if o < 0x28000 then .reserved
  else if o < 0x30400 then .shown 14 (tgetD [] ((o - 0x28000) / 32) h.roles) (o % 32)
  else if o < 0x31000 then .reserved
  else if o < 0x31800 then .shown 15 h.fl.open_ (o - 0x31000)
  else if o < 0x32000 then .reserved
  else if o < 0x34000 then .shown 16 (s.hops, s.net, s.flue.filter (fun m => srcRegion m.src == r || srcRegion m.dest == r), h.flt.queue) (o - 0x32000)
  else if o < 0x36000 then .shown 17 (s.cfg.tcoefs.find? (fun e => e.region == r), h.pw, h.en.est, s.pwr.transitions.contains r) (o - 0x34000)
  else if o < 0x3E000 then h.cat.cell (o - 0x36000)
  else if o % 0x100 < 0x20 ∨ 0x40 ≤ o % 0x100 then .image ⟨.probe, pid r ((o - 0x3E000) / 0x100), o % 0x100⟩
  else .shown 18 (s.probe r ((o - 0x3E000) / 0x100)).ctx (o % 0x100 - 0x20)

/-! ## The lens (R498, R499) -/

/-- The 64 bytes of a gate slot in the deep record, and the bits that an undecided slot leaves open. -/
def Slot.deep (x : Slot) : Nat × Nat :=
  (x.first.toNat + pack [(256, 3, x.st.code), (259, 3, (x.outcome.map (·.code)).getD 0), (262, 1, flag x.chainOpen), (263, 1, flag x.chainBroken),
    (288, 32, x.sa), (320, 32, x.sb), (352, 32, x.beats), (384, 32, x.dA), (416, 32, x.dB)], if x.outcome.isSome then 0 else 7 <<< 259)

/-- A cell of a probe deep record: gate slots, lane state with the amounts drawn, rotation contexts, running accumulators, activity counts, then start latches,
unsent trace records and open ingress blocks (R286, R312, R466, R469, R499). The sets of activity counts stand as in a context block (R147). -/
def Probe.deepCell (p : Probe) (o : Nat) : Cell :=
  if o < 0x100 then
    let (v, m) := (p.slot (o / 64)).deep
    .mixed (bits v (8 * (o % 64)) 64) (bits m (8 * (o % 64)) 64)
  else if o < 0x300 then
    .shown 19 (p.slots.map (fun e => (e.1, (e.2.pA, e.2.pB, e.2.tA, e.2.tB), (e.2.rowA, e.2.rowB, e.2.colA, e.2.colB), e.2.kappa))) (o - 0x100)
  else if o < 0x500 then recordCell (some (tgetD {} ((o - 0x300) / 32) p.ctx : Ctx).word) (o % 32)
  else if o < 0x900 then .shown 20 (tgetD {} ((o - 0x500) / 64) p.acc : Accum) (o % 64)
  else if o < 0xBA8 then recordCell (some (actString p.act)) (o - 0x900)
  else if o < 0xC00 then .reserved
  else if o < 0xD00 then .shown 21 (p.slots.map (fun e => (e.1, e.2.latch)), p.traceOut, p.meshOpen) (o - 0xC00)
  else .reserved

/-- A cell of a region's lens part. -/
def lensCell (s : State) (r o : Nat) : Cell :=
  let book := fun t => (tgetD {} t (s.hub r).books : TileBook)
  if o < 0x420000 then (s.probe r (o / 0x1000)).deepCell (o % 0x1000)
  else if o < 0x4A4000 then
    .value ((((book ((o - 0x420000) / 512)).history[(o - 0x420000) % 512 / 8]?).map (·.word)).getD 0)
  else if o < 0x4E6000 then
    recordCell (((book ((o - 0x4A4000) / 256)).exposed[(o - 0x4A4000) % 256 / 16]?).map (·.flit.toNat)) (o % 16)
  else if o < 0x566000 then .shown 22 (((s.hub r).queueOf ((o - 0x4E6000) / 0x4000))[(o - 0x4E6000) % 0x4000 / 32]?) (o % 32)
  else .reserved

/-- The lens group in force (R498, R510). -/
def State.lensGroup (s : State) : Nat := min 17 (s.get Reg.MIR_LENS_GROUP 0)

/-- A cell of the mirror, at an offset above its base that is a multiple of 8. -/
def State.mirrorCell (s : State) (o : Nat) : Cell :=
  if o < 0x400000 then (if inWindow o then .image (placeOf o) else .reserved)
  else if o < 0x500000 then s.folioCell (o - 0x400000)
  else if o < 0x600000 then s.faultCell (o - 0x500000)
  else if o < 0x700000 then s.recoveryCell (o - 0x600000)
  else if o < 0x800000 then s.flueCell (o - 0x700000)
  else if o < 0xA00000 then s.concordCell (o - 0x800000)
  else if o < 0xB00000 then s.vaultCell (o - 0xA00000)
  else if o < 0xC00000 then s.stackerCell (o - 0xB00000)
  else if o < 0xD00000 then s.tallyCell (o - 0xC00000)
  else if o < 0xE00000 then s.debugCell (o - 0xD00000)
  else if o < 0x1000000 then .reserved
  else if o < 0x2200000 then
    (if s.inGrid ((o - 0x1000000) / 0x4000) then (s.masterOf ((o - 0x1000000) / 0x4000)).cell (o % 0x4000) else .reserved)
  else if o < 0x2400000 then .reserved
  else if o < 0x3400000 then .image ⟨.tenant, (o - 0x2400000) / 0x1000, o % 0x1000⟩
  else if o < 0x3600000 then s.epochCell (o - 0x3400000)
  else if o < 0x4000000 then .reserved
  else if o < 0x28000000 then
    (if s.inGrid ((o - 0x4000000) / 0x80000) then regionCell s ((o - 0x4000000) / 0x80000) (o % 0x80000) else .reserved)
  else
    let r := 64 * s.lensGroup + (o - 0x28000000) / 0x600000
    if s.inGrid r then lensCell s r ((o - 0x28000000) % 0x600000) else .reserved

/-- Key space of the mirror's captures (R493). -/
def mirrorSpace : Nat := 0x40000000

/-- A cell's word: none where nothing is there. -/
def State.cellWord (s : State) (c : Cell) : Option Nat × State :=
  match c with
  | .image p =>
    let (lo, s) := s.readBits mirrorSpace p 32
    let (hi, s) := s.readBits mirrorSpace { p with off := p.off + 4 } 32
    (if lo.isNone && hi.isNone then none else some (lo.getD 0 + hi.getD 0 * 2 ^ 32), s)
  | .value v => (some v, s)
  | .mixed v m =>
    let (x, s) := s.fresh 64
    (some (masked v m x), s)
  | .unstated =>
    let (x, s) := s.fresh 64
    (some x, s)
  | .reserved => (none, s)

/-- A read of one cell in one of the two sizes. -/
def State.readCell (s : State) (c : Nat → Cell) (o : Nat) (sz64 : Bool) : GhpStatus × Nat × State :=
  if o % (if sz64 then 8 else 4) ≠ 0 then (.align, 0, s)
  else match s.cellWord (c (o - o % 8)) with
    | (some v, s) => (.ok, if sz64 then v else bits v (8 * (o % 8)) 32, s)
    | (none, s) => (.rsvd, 0, s)

/-- The region whose hub serves an offset of the mirror, where one does (R495). -/
def State.mirrorRegion (s : State) (o : Nat) : Option Nat :=
  if o < 0x4000000 then none
  else if o < 0x28000000 then some ((o - 0x4000000) / 0x80000)
  else some (64 * s.lensGroup + (o - 0x28000000) / 0x600000)

/-- A read of the mirror by tenant 0 (R496, R500); a lost hub does not answer (R508). -/
def State.readMirror (s : State) (o : Nat) (sz64 : Bool) : GhpStatus × Nat × State :=
  if (s.mirrorRegion o).any (fun r => s.lost.contains r) then (.timeout, 0, s) else s.readCell s.mirrorCell o sz64

/-- A read of any address with the rights of tenant 0 (R504); a hub that is lost does not answer (R508). -/
def State.readAs0 (s : State) (a : Nat) (sz64 : Bool) : GhpStatus × Nat × State :=
  if inMirror a then s.readMirror (a - 0x40000000) sz64
  else
    let p := placeOf a
    let region := if p.win = .hub then some p.inst else if p.win = .probe then some (p.inst / 2048) else none
    if misaligned a sz64 = false ∧ region.any (fun r => s.lost.contains r) then (.timeout, 0, s) else s.readReg 0 a sz64

end Sys2Proof.Machine
end

