-- ==== Sys2Proof/Machine/WriteOps.lean ====
section
/-! DEFINITION. Host writes to registers (R9–R13, R488–R495): status, locks, the store, and what a write starts where its register has an effect
of its own. -/

namespace Sys2Proof.Machine

/-- The value that `w` bits of data at bit `lo` of a register give to a field they cover. -/
def RegField.written (f : RegField) (lo w data : Nat) : Option Nat :=
  if lo ≤ f.lo ∧ f.lo + f.w ≤ lo + w then some (bits data (f.lo - lo) f.w) else none

/-- The write would change a locked field (R11, R493). -/
def State.rowLocked (s : State) (r : RegRow) (i lo w data : Nat) : Bool :=
  r.fields.any (fun f => match f.written lo w data with
    | some v => (f.acc == .rw || f.acc == .rwl) && s.locked f i && v != s.get f i
    | none => false)

/-- Bits of `x` that are 0 in `m`. -/
def clearBits (x m : Nat) : Nat := x ^^^ (x &&& m)

/-- A field takes a written value by its access code (R9); a write of 1 to a W1S bit acts through the register's effect. -/
def State.storeField (s : State) (f : RegField) (i v : Nat) : State :=
  match f.acc with
  | .rw | .rwl => s.set f i v
  | .w1c => s.set f i (clearBits (s.get f i) v)
  | .ro | .rs | .w1s => s

/-- The fields that the data cover are stored. -/
def State.storeRow (s : State) (r : RegRow) (i lo w data : Nat) : State :=
  r.fields.foldl (fun (s : State) f => match f.written lo w data with | some v => s.storeField f i v | none => s) s

/-- The effect of a write does the storing, or decides whether it is done: FLT_PHASE, CCD_XREQ with an operation, STK_CTRL, LDG_RDPAGE, DBG_TRCTRL, the
trace ring while EN is 1 (R479), FOLIO_TREQ and CAT_REQ; TEN_EP_CLOSE and TEN_TLY_REQ; RH_PW_VTGT; a channel's CTRL, and a system channel whole (R368). -/
def State.storesItself (s : State) (p : Place) (x : Nat) : Bool :=
  match p.win with
  | .kiln =>
    [0x1008, 0x140000, 0x200020, 0x204044, 0x300080].contains p.off || (p.off == 0x1210 && (bits x 0 2 == 1 || bits x 0 2 == 2))
      || ((p.off == 0x204030 || p.off == 0x204038) && s.on Reg.DBG_TRCTRL_EN 0) || (p.off == 0x340000 && decide (1 ≤ bits x 0 3 ∧ bits x 0 3 ≤ 4))
  | .tenant => p.off == 0x100 || p.off == 0x200
  | .hub => p.off == 0xE00
  | .channel => p.off == 8 || decide (p.inst < 4)
  | _ => false

/-- Effects of writes to the Kiln global window. -/
def State.globalEffect (s : State) (off x : Nat) : State :=
  match off with
  | 0x0818 => if bit x 0 then s.goWrite else s
  | 0x0864 => if bit x 8 then s.requalifyWrite (bits x 0 5) else s
  | 0x0904 =>
    let s := if bit x 0 then s.offRequest 0 else s
    let s := if bit x 1 then s.onRequest 0 else s
    if bit x 2 then s.trayRequest 3 else s
  | 0x1008 => s.writePhase (bits x 0 2)
  | 0x1014 => s.ackReaction (bits x 0 16)
  | 0x1024 => s.flushNotices.kickQueue
  | 0x1210 =>
    let op := bits x 0 2
    let clp := bits x 2 5
    let new := bits x 51 5
    if op = 1 then s.xrequest 1 clp (bits x 7 32) (bits x 39 12) new (bit x 56) clp
    else if op = 2 then s.xrequest 2 clp (bits x 7 32) (bits x 39 12) new false new
    else s
  | _ => s

/-- Effects of writes to the other Kiln windows. Of a stop and a release in one write the stop stands (R479). -/
def State.unitEffect (s : State) (off x : Nat) : State :=
  match off with
  | 0x100008 => if bit x 16 then s.stnowWrite else s
  | 0x100020 => s.nonceWrite (bits x 0 8)
  | 0x100040 => if bit x 0 then s.tokenGo true true else s
  | 0x140000 =>
    let s := if bit x 0 then (s.set Reg.STK_CTRL_EN 0 1).kickSys else s.stkDisable
    if bit x 1 then s.stkClrhalt else s
  | 0x1C0000 => s.syncSense
  | 0x1C0100 => if bit x 31 then s.closeBatch else s
  | 0x1C0124 => s.pumpRing
  | 0x200010 => if bit x 0 then s.flushLedger else s
  | 0x200020 => s.readPageWrite (bits x 0 32) (bit x 32)
  | 0x200030 => s.appendWrite (bits x 0 16)
  | 0x204000 =>
    (if bit x 0 then s.stopRaise 0 0 else if bit x 1 then s.stopRelease else s).stopPin
  | 0x204040 => s.pumpTrace
  | 0x204044 =>
    let s := s.set Reg.DBG_TRCTRL_TPEN 0 (bits x 2 1)
    let s := if bit x 0 then s.enableDrain else s.set Reg.DBG_TRCTRL_EN 0 0
    if bit x 1 then s.liveRegions.foldl (fun (s : State) r => s.wantCut r) s else s
  | 0x300080 => s.treqWrite (bits x 0 12)
  | 0x340000 =>
    let x' := bits x 3 11
    let y := bits x 14 11
    let count := bits x 25 5
    let tenant := bits x 30 12
    (match bits x 0 3 with
     | 1 => s.catWrite 1 x' y count tenant (fun s => s.assignRequest 0x04 x' y count tenant)
     | 2 => s.catWrite 2 x' y count tenant (fun s => s.assignRequest 0x05 x' y count tenant)
     | 3 => s.catWrite 3 x' y count tenant (fun s => s.restoreRequest x' y)
     | 4 => s.catWrite 4 x' y count tenant (fun s => s.quenchRequest x' y)
     | _ => if s.on Reg.CAT_REQST_BUSY 0 then s.raise Reg.CAT_REQST_DROPPED 0 else s)
  | _ => s

/-- Effects of writes to a tenant page. A REWIND takes the record that it reads back as genuine; EPOCH_REWIND says whether it is. -/
def State.tenantEffect (s : State) (t off x : Nat) : State :=
  let e := bits x 0 32
  match off with
  | 0x100 =>
    (match bits x 32 2 with
     | 0 => s.closeWrite t e 0 (fun s => s.closeOpen t e 0)
     | 1 => s.closeWrite t e 1 (fun s => s.closeOpen t e 1)
     | 2 => s.closeWrite t e 2 (fun s => s.rewind t e true)
     | _ => s.restartWrite t e)
  | 0x118 => if bit x 0 then s.coloWrite t else s
  | 0x12C => s.recTailWrite t e
  | 0x200 => s.statementWrite t (bits x 0 64)
  | _ => s

/-- Effects of writes to a Stacker channel (R368, R378). -/
def State.channelEffect (s : State) (ten n off x : Nat) : State :=
  if off ≠ 8 ∨ n < 4 then s
  else
    let s := s.stkFields n x ten
    let s := if bit x 0 then s.stkGo n else s
    if bit x 1 then s.stkAbort n else s

/-- What a write starts, given the state before its fields were stored. -/
def State.effect (s old : State) (ten : Nat) (p : Place) (x : Nat) : State :=
  match p.win with
  | .kiln => if p.off < 0x2000 then s.globalEffect p.off x else s.unitEffect p.off x
  | .clp => if p.off = 4 ∧ bit x 0 then s.portRestart p.inst else s
  | .channel => s.channelEffect ten p.inst p.off x
  | .stkwin => s
  | .tenant => s.tenantEffect p.inst p.off x
  | .hub => if p.off = 0xE00 then s.targetWrite p.inst (bits x 0 12) else if p.off = 0xF00 then s.hubTraceOn old p.inst else s
  | .probe => if p.off = 8 ∧ bit x 2 then s.fenceReq (p.inst / 2048) (p.inst % 2048) else s

/-- A write at its target: refused whole where it would change a locked field, else stored and carried out (R490, R493). -/
def State.writePlace (s : State) (ten : Nat) (p : Place) (sz64 : Bool) (data : Nat) : GhpStatus × State :=
  let w := if sz64 then 64 else 32
  if p.win = .kiln ∧ 0x101000 ≤ p.off ∧ p.off < 0x101E00 then
    (.ok, { s with tokbuf := writeBytes s.tokbuf (p.off - 0x101000) (bytesLE (w / 8) data) })
  else match rowAt p.win p.off with
    | none => ((if (s.arrayWord p.word).isSome then .ok else .rsvd), s)
    | some r =>
      let lo := 8 * (p.off - r.off)
      if s.rowLocked r p.inst lo w data then (.locked, s)
      else
        let x := wrap w data <<< lo
        let q : Place := { p with off := r.off }
        (.ok, (if s.storesItself q x then s else s.storeRow r p.inst lo w data).effect s ten q x)

/-- A tenant may write a place (R367, R368, R486, R494); nobody writes the mirror. -/
def State.mayWrite (s : State) (ten : Nat) (p : Place) : Bool :=
  ten == 0 ||
    match p.win with
    | .channel => decide (4 ≤ p.inst) && s.stkTag p.inst == ten
    | .tenant => p.inst == ten
    | _ => false

/-- The registers that take writes in REFUSED: CHR_SRC, CHR_CTRL and BRU_EVENT (R428). -/
def refusedWritable (a : Nat) : Bool := decide (0x810 ≤ a ∧ a < 0x81C) || a == 0x870

/-- The status that the Kiln gives a write before its target judges it (R490). -/
def State.writeStatus (s : State) (parOk : Bool) (ten a : Nat) (sz64 : Bool) : GhpStatus :=
  let p := placeOf a
  if parOk = false then .parity
  else if misaligned a sz64 then .align
  else if inMirror a ∨ (inWindow a ∧ s.mayWrite ten p = false) ∨ (s.bru.state = .refused ∧ refusedWritable a = false) then .denied
  else if s.isSealed then .sealed_
  else if inWindow a = false ∨ s.placeExists p = false ∨ ((rowAt p.win p.off).isNone && (s.arrayWord p.word).isNone) then .rsvd
  else .ok

/-- The Source ID that a request of R495 goes to: a hub, or the probe of a window. -/
def Place.unitSrc (p : Place) : Nat := if p.win = .probe then probeSrc (p.inst / 2048) (p.inst % 2048) else hubSrc p.inst

/-- A GHP write (R488, R490, R495): the Kiln performs what is its own and answers; it sends the rest over the Flue and waits. -/
def State.ghpWrite (s : State) (a data : Nat) (sz64 : Bool) (ten tag : Nat) (parOk : Bool) : State :=
  let p := placeOf a
  let st := s.writeStatus parOk ten a sz64
  s.ghpAccept tag
    (if st ≠ .ok then s.ghpDone ten tag a true sz64 st 0
     else if p.win = .hub ∨ p.win = .probe then
       let q : GhpReq := { tag := tag, ten := ten, addr := a, wr := true, sz64 := sz64, gt := s.gt }
       ({ s with ghp := s.ghp ++ [q] } : State).send (msgRgWrite p.unitSrc tag ten p.off sz64 (wrap (if sz64 then 64 else 32) data))
     else
       let (st, s) := s.writePlace ten p sz64 data
       s.ghpDone ten tag a true sz64 st 0)

/-- A request outstanding under a tag ends (R488, R490). -/
def State.ghpEnd (s : State) (tag : Nat) (test : GhpReq → Bool) (st : GhpStatus) (data : Nat) : State :=
  match s.ghp.find? (fun q => q.tag == tag && test q) with
  | none => s
  | some q => ({ s with ghp := s.ghp.filter (fun x => x.tag != tag) }).ghpDone q.ten tag q.addr q.wr q.sz64 st data

/-- A read request that the Kiln has forwarded becomes outstanding, and its target serves it unless its hub is lost (R495, R508). -/
def State.ghpForward (s : State) (q : GhpReq) (r : Nat) (serve : State → State) : State :=
  s.ghpAccept q.tag
    (let s : State := { s with ghp := s.ghp ++ [q] }
     if s.lost.contains r then s else serve s)

end Sys2Proof.Machine
end

