-- ==== Sys2Proof/Machine/HostPort.lean ====
section
/-! DEFINITION. The meanings of the host port's commands, of register access over the Flue and of mirror reads by the Stacker (R371, R486–R500). -/

namespace Sys2Proof.Machine

/-- REGISTER_WRITE (R490): a host write, judged and performed, or sent on to its hub. `parOk` says that GHP_RQ_PAR is right. -/
def execRegisterWrite (addr data : Nat) (sz64 : Bool) (ten tag : Nat) (parOk : Bool) (s : State) : Host.Outcome State Fault Refusal :=
  .next (s.ghpWrite (wrap 32 addr) data sz64 (wrap 12 ten) (wrap 6 tag) parOk)

/-- The place in the map of a request that names a hub or a probe by region and tile. -/
def unitPlace (region : Nat) (tile : Option Nat) (off : Nat) : Place :=
  match tile with
  | none => ⟨.hub, region, wrap 16 off⟩
  | some t => ⟨.probe, pid region t, wrap 8 off⟩

/-- What a host read of an address that the Kiln answers itself gives: a register, or a part of the mirror, which is tenant 0's alone (R490, R495). -/
def State.hostRead (s : State) (a : Nat) (sz64 : Bool) (ten : Nat) : GhpStatus × Nat × State :=
  if inMirror a then (if ten ≠ 0 then (.denied, 0, s) else s.readCell s.mirrorCell (a - 0x40000000) sz64) else s.readReg ten a sz64

/-- A read that the Kiln answers itself (R488, R490): one of its own windows or of a tenant page, of the Kiln parts of the mirror, and every read whose
status is not OK. -/
def State.ghpReadHere (s : State) (a : Nat) (sz64 : Bool) (ten tag : Nat) : State :=
  s.ghpAccept tag (let (st, v, s) := s.hostRead a sz64 ten
    s.ghpDone ten tag a false sz64 st v)

/-- The GHP address that a read by region, tile and offset names; region 0x7FF is the Kiln, whose offset is the address itself (assumption 94). -/
def ghpReadAddr (region : Nat) (tile : Option Nat) (off : Nat) : Nat :=
  if region = kilnRegion then wrap 32 off
  else
    let p := unitPlace region tile off
    wrap 32 (p.win.base p.inst + p.off)

/-- RG_READ (R490, R495): the Kiln judges a read of the host; one that it does not answer itself is outstanding from now on, and the hub or probe
answers it with RG_RDATA. -/
def execRgRead (region : Nat) (tile : Option Nat) (off : Nat) (sz64 : Bool) (ten tag : Nat) (s : State) : Host.Outcome State Fault Refusal :=
  let a := ghpReadAddr region tile off
  let p := placeOf a
  let ten := wrap 12 ten
  let tag := wrap 6 tag
  let s := s.recv (msgRgRead p.unitSrc tag ten p.off sz64)
  .next (if (p.win ≠ .hub ∧ p.win ≠ .probe) ∨ s.readStatus ten a sz64 ≠ .ok then s.ghpReadHere a sz64 ten tag
    else s.ghpForward { tag := tag, ten := ten, addr := a, wr := false, sz64 := sz64, gt := s.gt } region (fun s =>
      let (st, v, s) := s.readPlace p sz64
      s.send (msgRgRdata p.unitSrc tag st.code v)))

/-- RG_WRITE (R495): the hub or probe judges the lock, performs the write and answers; a lost one does not (R508). -/
def execRgWrite (region : Nat) (tile : Option Nat) (off : Nat) (sz64 : Bool) (data ten tag : Nat) (s : State) : Host.Outcome State Fault Refusal :=
  let p := unitPlace region tile off
  let ten := wrap 12 ten
  let tag := wrap 6 tag
  let data := wrap (if sz64 then 64 else 32) data
  let s := s.recv (msgRgWrite p.unitSrc tag ten p.off sz64 data)
  if s.lost.contains region then .next s
  else
    let (st, s) := s.writePlace ten p sz64 data
    .next (s.send (msgRgWack p.unitSrc tag st.code))

/-- RG_RDATA (R488, R495): the read outstanding under the tag completes. -/
def execRgRdata (region : Nat) (tile : Option Nat) (tag status data : Nat) (s : State) : Host.Outcome State Fault Refusal :=
  let tag := wrap 6 tag
  let s := s.recv (msgRgRdata (unitPlace region tile 0).unitSrc tag (wrap 3 status) (wrap 64 data))
  .next (s.ghpEnd tag (fun q => !q.wr) (GhpStatus.ofCode status) data)

/-- RG_WACK (R488, R495): the write outstanding under the tag completes. -/
def execRgWack (region : Nat) (tile : Option Nat) (tag status : Nat) (s : State) : Host.Outcome State Fault Refusal :=
  let tag := wrap 6 tag
  let s := s.recv (msgRgWack (unitPlace region tile 0).unitSrc tag (wrap 3 status))
  .next (s.ghpEnd tag (fun q => q.wr) (GhpStatus.ofCode status) 0)

/-- A cell of what a hub serves of the mirror: its region's view or lens part (R495). -/
def hubCell (s : State) (r : Nat) (lens : Bool) (o : Nat) : Cell :=
  if s.inGrid r = false then .reserved
  else if lens then (if o < 0x600000 then lensCell s r o else .reserved)
  else if o < 0x80000 then regionCell s r o else .reserved

/-- GHP address of an offset of a region's view or lens part (R496, R498). -/
def mirrorAddr (r : Nat) (lens : Bool) (o : Nat) : Nat := if lens then 0x68000000 + 0x600000 * (r % 64) + o else 0x44000000 + 0x80000 * r + o

/-- MR_READ (R495): the read of the mirror that the Kiln forwards is outstanding from now on, and the hub answers it with RG_RDATA. The lens part is the
region's own, whatever MIR_LENS holds since (R508). -/
def execMrRead (region off : Nat) (sz64 lens : Bool) (tag : Nat) (s : State) : Host.Outcome State Fault Refusal :=
  let tag := wrap 6 tag
  let off := wrap 23 off
  let s := s.recv (msgMrRead region tag off sz64 lens)
  .next (s.ghpForward { tag := tag, ten := 0, addr := wrap 32 (mirrorAddr region lens off), wr := false, sz64 := sz64, gt := s.gt } region (fun s =>
    let (st, v, s) := s.readCell (hubCell s region lens) off sz64
    s.send (msgRgRdata (hubSrc region) tag st.code v)))

/-- GHP_TIMEOUT (R490): no Flue response within 65,536 HCLK; a late one finds the request gone. -/
def execGhpTimeout (tag : Nat) (s : State) : Host.Outcome State Fault Refusal :=
  .next (s.ghpEnd (wrap 6 tag) (fun _ => true) .timeout 0)

/-! ## SK_READ -/

/-- The record of a hub's trace ring at an index of its 4,096 places: one it holds, or nothing (R470). -/
def HubTr.at (t : HubTr) (k : Nat) : Option Nat := t.recs[(k + t.recs.length + 4096 - t.head) % 4096]?

/-- A flit of the trace buffer; a place whose record has been freed, or never written, shows a free value (assumption 6). -/
def State.traceFlit (s : State) (r k : Nat) : Flit × State :=
  match (s.hub r).tr.at (k % 4096) with
  | some w => (BitVec.ofNat 128 w, s)
  | none =>
    let (x, s) := s.fresh 128
    (BitVec.ofNat 128 x, s)

/-- A flit of a region's mirror view or lens part: two words, and whether something is there. -/
def State.mirrorFlit (s : State) (r : Nat) (lens : Bool) (o : Nat) : Flit × Bool × State :=
  let (lo, s) := s.cellWord (hubCell s r lens o)
  let (hi, s) := s.cellWord (hubCell s r lens (o + 8))
  (BitVec.ofNat 128 (lo.getD 0 + hi.getD 0 * 2 ^ 64), lo.isSome && hi.isSome, s)

/-- Flits that an SK_READ asks for, lowest address first, and the status: 1 with data 0 for an offset where nothing is (R371). -/
def State.skFlits (s : State) (r part off : Nat) : Nat → List Flit × Nat × State
  | 0 => ([], 0, s)
  | n + 1 =>
    let (f, ok, s) := if part = 0 then ((s.traceFlit r (off / 16)).1, decide (off < 0x10000), (s.traceFlit r (off / 16)).2)
      else if part = 3 then (0, false, s) else s.mirrorFlit r (part == 2) off
    let (l, st, s) := s.skFlits r part (off + 16) n
    ((if ok then f else 0) :: l, if ok then st else 1, s)

/-- SK_READ (R371): the hub returns 1 to 7 flits of its trace buffer, of its region's view or of its lens part. -/
def execSkRead (region xferTag part off flits : Nat) (s : State) : Host.Outcome State Fault Refusal :=
  let off := wrap 23 off
  let part := wrap 2 part
  let n := max 1 (min 7 flits)
  let s := s.recv (msgSkRead region (wrap 8 xferTag) part off flits)
  let (l, st, s) := s.skFlits region part off n
  .next (s.send (msgSkData region (wrap 8 xferTag) st l))

end Sys2Proof.Machine
end

