-- ==== Sys2Proof/Machine/MgtOps.lean ====
section
/-! DEFINITION. Operations of the management port (R501–R505): answers, sensors, and the I3C front end. Numbers of MCTP, PLDM and I3C that the spec takes
from their standards are PRESUMED (assumption 84). -/

namespace Sys2Proof.Machine

/-- A request to the MCTP endpoint: NACKed while the endpoint does not run, else answered with a completion code and data, which are announced by an
in-band interrupt (R502, R505). With the banked domain stopped nothing answers (R439). -/
def State.mgtRequest (s : State) (act : State → Nat × List Nat × State) : State :=
  if s.pwr.stopped then s
  else if s.pwr.running = false then s.emit (.i3c false [])
  else
    let (code, data, s) := act s
    (s.ibi 0xA0).emit (.mgtRs code data)

/-- Bytes that the spec leaves open. -/
def State.freeBytes (s : State) (n : Nat) : List Nat × State :=
  let (x, s) := s.fresh (8 * n)
  (leBytes n x, s)

/-- A 32-bit register as GET_STATUS and GSTOP return it, 4 B, lowest first (R504). -/
def State.statusWord (s : State) (a : Nat) : List Nat := leBytes 4 (s.readReg 0 a false).2.1

/-- Words of the mirror, with the first status other than OK (R504). -/
def State.mirrorWords (s : State) (o : Nat) : Nat → GhpStatus × List Nat × State
  | 0 => (.ok, [], s)
  | n + 1 =>
    let (st, v, s) := s.readMirror o true
    let (st', l, s) := s.mirrorWords (o + 8) n
    (if st = .ok then st' else st, leBytes 8 v ++ l, s)

/-! ## Sensors (R503) -/

/-- State code of a state sensor: the state code of the owning register; 4 for a sealed fault phase. -/
def State.stateSensor (s : State) (id : Nat) : Option Nat :=
  match id with
  | 1 => some s.pwr.state.code
  | 2 => some s.bru.state.code
  | 3 => some (if s.isSealed then 4 else s.flt.phase.code)
  | 4 => some s.vault.st.code
  | _ => none

/-- Reading of a numeric sensor: channel power in mW, whose rounding no rule states, VBUS in 250 µV, or a region's estimate in 1/64 °C. -/
def State.numericSensor (s : State) (id : Nat) : Option (Nat × State) :=
  if 0x10 ≤ id ∧ id < 0x18 then
    let nj := (s.sense (id - 0x10)).eper
    let den := s.get Reg.SNS_PERIOD_PERIOD 0 * 4000
    let num := nj * s.cfg.rclk
    let (x, s) := s.fresh 1
    some (if den = 0 then 0 else num / den + (if num % den = 0 then 0 else x), s)
  else if 0x20 ≤ id ∧ id < 0x28 then some ((s.sense (id - 0x20)).vbus, s)
  else if 0x100 ≤ id ∧ s.inGrid (id - 0x100) then some (unsigned 16 (s.estimate (id - 0x100)), s)
  else none

/-- Sensors of the repository: four states, power and VBUS of eight channels, and every region of the grid. -/
def State.sensorCount (s : State) : Nat := 20 + (if s.declared then s.regionCount else 0)

/-! ## The I3C front end (R501) -/

/-- A CCC that the front end takes while the banked domain runs. -/
def State.ccc (s : State) (act : Mgt → Option (Mgt × List Nat)) : State :=
  if s.pwr.stopped then s
  else match act s.mgt with
    | some (m, data) => { s with mgt := m }.emit (.i3c true data)
    | none => s.emit (.i3c false [])

/-- A direct CCC: answered at the dynamic address only. -/
def Mgt.direct (m : Mgt) (addr : Nat) (act : Mgt → Mgt × List Nat) : Option (Mgt × List Nat) :=
  if m.da = some (wrap 7 addr) then some (act m) else none

/-- The two bytes of a length, most significant first. -/
def lengthBytes (n : Nat) : List Nat := [n / 256 % 256, n % 256]

end Sys2Proof.Machine
end

