-- ==== Sys2Proof/Machine/MgtUnit.lean ====
section
/-! DEFINITION. The meanings of the management port's commands (R501–R505). -/

namespace Sys2Proof.Machine

/-! ## Vendor messages (R504) -/

/-- GET_STATUS: identity and status registers, 4 B each. -/
def execGetStatus (s : State) : Host.Outcome State Fault Refusal :=
  .next (s.mgtRequest (fun s => (0, [0x0, 0x900, 0x800, 0x100C, 0x100004].flatMap s.statusWord, s)))

/-- READ_REG: status of the read in byte 2, then 8 B of data. -/
def execReadReg (addr : Nat) (sz64 : Bool) (s : State) : Host.Outcome State Fault Refusal :=
  .next (s.mgtRequest (fun s =>
    let (st, v, s) := s.readAs0 (wrap 32 addr) sz64
    (0, st.code :: leBytes 8 v, s)))

/-- READ_MIRROR: 1 to 6 words of 8 B; a count outside that is an invalid length. -/
def execReadMirror (offset count : Nat) (s : State) : Host.Outcome State Fault Refusal :=
  .next (s.mgtRequest (fun s =>
    if count = 0 ∨ 6 < count then (1, [], s)
    else if 0x40000000 ≤ wrap 32 offset then (0, [GhpStatus.rsvd.code], s)
    else
      let (st, l, s) := s.mirrorWords (wrap 32 offset) count
      (0, st.code :: l, s)))

/-- READ_LEDGER: 48 B of a closed page, its records and then its trailer; what a page that is not in the flash, or a chunk above 175, gives is not
stated (assumption 85). -/
def execReadLedger (page chunk : Nat) (s : State) : Host.Outcome State Fault Refusal :=
  .next (s.mgtRequest (fun s =>
    match s.ldg.find (wrap 32 page) with
    | some p =>
      if chunk < 176 then
        (0, ((p.bytes ++ (p.trailer.map (·.bytes)).getD []).drop (48 * chunk)).take 48, s)
      else
        let (x, s) := s.fresh 8
        let (l, s) := s.freeBytes 48
        (x, l, s)
    | none =>
      let (x, s) := s.fresh 8
      let (l, s) := s.freeBytes 48
      (x, l, s)))

/-- POWER: an on or off request, in the sealed state too (R444, R504). -/
def execPower (on : Bool) (s : State) : Host.Outcome State Fault Refusal :=
  .next (s.mgtRequest (fun s => (0, [], if on then s.onRequest 1 else s.offRequest 1)))

/-- GSTOP: stop source [3], or release; code 4 in the sealed state (R473, R476, R504). -/
def execGstop (stop : Bool) (s : State) : Host.Outcome State Fault Refusal :=
  .next (s.mgtRequest (fun s =>
    if s.isSealed then (4, [], s)
    else
      let s := if stop then s.stopRaise 3 0 else s.stopRelease
      (0, s.statusWord 0x204004, s)))

/-- SET_AMB: T_amb of one or every region; code 4 in the sealed state, and a code that no rule states for a region outside the grid (R321, R504,
assumption 85). -/
def execSetAmb (region tamb : Nat) (s : State) : Host.Outcome State Fault Refusal :=
  .next (s.mgtRequest (fun s =>
    if s.isSealed then (4, [], s)
    else if wrap 16 region = 0xFFFF then
      (0, [], (List.range s.regionCount).foldl (fun (s : State) r => s.set Reg.RH_TH_AMB_AMB r tamb) s)
    else if s.inGrid (wrap 16 region) then (0, [], s.set Reg.RH_TH_AMB_AMB (wrap 16 region) tamb)
    else
      let (x, s) := s.fresh 8
      (x, [], s)))

/-- WAKE_WRITE (R505, R508): while the endpoint does not run, it latches ONLATCH. -/
def execWakeWrite (s : State) : Host.Outcome State Fault Refusal :=
  if s.pwr.stopped ∨ s.pwr.running then .next s
  else .next (((s.raise Reg.MGT_EVENT_WAKE 0).emit (.i3c true [])).onRequest 1)

/-! ## MCTP control (R502) -/

/-- SET_ENDPOINT_ID: operations 0 and 1 set the ID; 2 and 3 are not supported. -/
def execSetEndpointId (op eid : Nat) (s : State) : Host.Outcome State Fault Refusal :=
  .next (s.mgtRequest (fun s =>
    if op % 4 < 2 ∧ wrap 8 eid ≠ 0 ∧ wrap 8 eid ≠ 0xFF then (0, [0, wrap 8 eid, 0], { s with mgt := { s.mgt with eid := wrap 8 eid } })
    else (2, [], s)))

/-- GET_ENDPOINT_ID: the ID, a simple endpoint with a dynamic ID. -/
def execGetEndpointId (s : State) : Host.Outcome State Fault Refusal :=
  .next (s.mgtRequest (fun s => (0, [s.mgt.eid, 0, 0], s)))

/-- GET_MCTP_VERSION_SUPPORT: the version of a supported message type, which no rule states, or code 0x80. -/
def execGetMctpVersionSupport (type : Nat) (s : State) : Host.Outcome State Fault Refusal :=
  .next (s.mgtRequest (fun s =>
    if [0xFF, 0x00, 0x01, 0x7F].contains (wrap 8 type) then
      let (l, s) := s.freeBytes 4
      (0, 1 :: l, s)
    else (0x80, [], s)))

/-- GET_MESSAGE_TYPE_SUPPORT: PLDM and vendor messages. -/
def execGetMessageTypeSupport (s : State) : Host.Outcome State Fault Refusal :=
  .next (s.mgtRequest (fun s => (0, [2, 0x01, 0x7F], s)))

/-- GET_VENDOR_DEFINED_MESSAGE_SUPPORT: one set, named by the IANA number of MGT_ID. -/
def execGetVendorDefinedMessageSupport (selector : Nat) (s : State) : Host.Outcome State Fault Refusal :=
  .next (s.mgtRequest (fun s =>
    if wrap 8 selector = 0 then
      let (l, s) := s.freeBytes 2
      (0, [0xFF, 0x01] ++ (leBytes 4 Config.iana).reverse ++ l, s)
    else (2, [], s)))

/-! ## PLDM (R503) -/

/-- GETTID: the terminus ID, which no rule states. -/
def execGettid (s : State) : Host.Outcome State Fault Refusal :=
  .next (s.mgtRequest (fun s =>
    let (l, s) := s.freeBytes 1
    (0, l, s)))

/-- GETPLDMVERSION: versions of types 0 and 2, which no rule states. -/
def execGetpldmversion (type : Nat) (s : State) : Host.Outcome State Fault Refusal :=
  .next (s.mgtRequest (fun s =>
    if wrap 8 type = 0 ∨ wrap 8 type = 2 then
      let (l, s) := s.freeBytes 4
      (0, l, s)
    else (0x83, [], s)))

/-- GETPLDMTYPES: types 0 and 2. -/
def execGetpldmtypes (s : State) : Host.Outcome State Fault Refusal :=
  .next (s.mgtRequest (fun s => (0, leBytes 8 5, s)))

/-- GETPLDMCOMMANDS: the commands of type 0 and of type 2, as a mask of 256 bits. -/
def execGetpldmcommands (type : Nat) (s : State) : Host.Outcome State Fault Refusal :=
  .next (s.mgtRequest (fun s =>
    if wrap 8 type = 0 then (0, leBytes 32 (maskOf [2, 3, 4, 5]), s)
    else if wrap 8 type = 2 then (0, leBytes 32 (maskOf [0x11, 0x21, 0x50, 0x51]), s)
    else (0x83, [], s)))

/-- GETPDRREPOSITORYINFO: available, with the number of its records; times and sizes are not stated. -/
def execGetpdrrepositoryinfo (s : State) : Host.Outcome State Fault Refusal :=
  .next (s.mgtRequest (fun s =>
    let (l, s) := s.freeBytes 26
    let (l', s) := s.freeBytes 9
    (0, 0 :: l ++ leBytes 4 s.sensorCount ++ l', s)))

/-- GETPDR: a record of the repository, whose handle and bytes no rule states. -/
def execGetpdr (_handle : Nat) (s : State) : Host.Outcome State Fault Refusal :=
  .next (s.mgtRequest (fun s =>
    let (l, s) := s.freeBytes 64
    (0, l, s)))

/-- GETSENSORREADING: the reading of a numeric sensor. -/
def execGetsensorreading (sensor : Nat) (s : State) : Host.Outcome State Fault Refusal :=
  .next (s.mgtRequest (fun s =>
    match s.numericSensor (wrap 16 sensor) with
    | some (v, s) => (0, leBytes 4 v, s)
    | none => (0x80, [], s)))

/-- GETSTATESENSORREADINGS: the code of a state sensor. -/
def execGetstatesensorreadings (sensor : Nat) (s : State) : Host.Outcome State Fault Refusal :=
  .next (s.mgtRequest (fun s =>
    match s.stateSensor (wrap 16 sensor) with
    | some v => (0, [1, 0, v], s)
    | none => (0x80, [], s)))

/-! ## Common command codes (R501) -/

/-- ENTDAA: a target with no dynamic address sends its ID and takes the address. -/
def execEntdaa (addr : Nat) (s : State) : Host.Outcome State Fault Refusal :=
  .next (s.ccc (fun m =>
    if m.da.isNone then
      some ({ m with da := some (wrap 7 addr) }, (leBytes 6 Config.i3cPid).reverse ++ [wrap 8 Config.i3cBcr, wrap 8 Config.i3cDcr])
    else none))

/-- SETDASA: the target at that static address takes the dynamic address. -/
def execSetdasa (sa addr : Nat) (s : State) : Host.Outcome State Fault Refusal :=
  .next (s.ccc (fun m =>
    if m.da.isNone ∧ wrap 7 sa = wrap 7 Config.staticAddress then some ({ m with da := some (wrap 7 addr) }, []) else none))

/-- SETNEWDA: the dynamic address changes. -/
def execSetnewda (old new : Nat) (s : State) : Host.Outcome State Fault Refusal :=
  .next (s.ccc (fun m => m.direct old (fun m => ({ m with da := some (wrap 7 new) }, []))))

/-- RSTDAA: the dynamic address is given up. -/
def execRstdaa (s : State) : Host.Outcome State Fault Refusal :=
  .next (s.ccc (fun m => some ({ m with da := none }, [])))

/-- ENEC: event bit 0 enables in-band interrupts, for every target or for the one addressed. -/
def execEnec (addr : Option Nat) (events : Nat) (s : State) : Host.Outcome State Fault Refusal :=
  .next (s.ccc (fun m =>
    let m' : Mgt := { m with ibi := m.ibi || bit events 0 }
    match addr with
    | none => some (m', [])
    | some a => m.direct a (fun _ => (m', []))))

/-- DISEC: event bit 0 disables in-band interrupts. -/
def execDisec (addr : Option Nat) (events : Nat) (s : State) : Host.Outcome State Fault Refusal :=
  .next (s.ccc (fun m =>
    let m' : Mgt := { m with ibi := m.ibi && !bit events 0 }
    match addr with
    | none => some (m', [])
    | some a => m.direct a (fun _ => (m', []))))

/-- GETPID: the provisioned ID, most significant byte first. -/
def execGetpid (addr : Nat) (s : State) : Host.Outcome State Fault Refusal :=
  .next (s.ccc (fun m => m.direct addr (fun m => (m, (leBytes 6 Config.i3cPid).reverse))))

/-- GETBCR. -/
def execGetbcr (addr : Nat) (s : State) : Host.Outcome State Fault Refusal :=
  .next (s.ccc (fun m => m.direct addr (fun m => (m, [wrap 8 Config.i3cBcr]))))

/-- GETDCR. -/
def execGetdcr (addr : Nat) (s : State) : Host.Outcome State Fault Refusal :=
  .next (s.ccc (fun m => m.direct addr (fun m => (m, [wrap 8 Config.i3cDcr]))))

/-- GETSTATUS: two bytes that no rule states. -/
def execGetstatus (addr : Nat) (s : State) : Host.Outcome State Fault Refusal :=
  let (l, s) := s.freeBytes 2
  .next (s.ccc (fun m => m.direct addr (fun m => (m, l))))

/-- GETMWL: 69 B, until SETMWL sets another. -/
def execGetmwl (addr : Nat) (s : State) : Host.Outcome State Fault Refusal :=
  .next (s.ccc (fun m => m.direct addr (fun m => (m, lengthBytes m.mwl))))

/-- GETMRL: 69 B, until SETMRL sets another. -/
def execGetmrl (addr : Nat) (s : State) : Host.Outcome State Fault Refusal :=
  .next (s.ccc (fun m => m.direct addr (fun m => (m, lengthBytes m.mrl))))

/-- SETMWL, for every target or for the one addressed. -/
def execSetmwl (addr : Option Nat) (len : Nat) (s : State) : Host.Outcome State Fault Refusal :=
  .next (s.ccc (fun m =>
    let m' : Mgt := { m with mwl := wrap 16 len }
    match addr with
    | none => some (m', [])
    | some a => m.direct a (fun _ => (m', []))))

/-- SETMRL, for every target or for the one addressed. -/
def execSetmrl (addr : Option Nat) (len : Nat) (s : State) : Host.Outcome State Fault Refusal :=
  .next (s.ccc (fun m =>
    let m' : Mgt := { m with mrl := wrap 16 len }
    match addr with
    | none => some (m', [])
    | some a => m.direct a (fun _ => (m', []))))

end Sys2Proof.Machine
end

