-- ==== Sys2Proof/Machine/Dispatch.lean ====
section
/-! DEFINITION. The dispatcher: one arm for each command, in the order of the opcode table. -/

namespace Sys2Proof.Machine

open Sys2Proof

/-- The effect of a command on everything but the queue. -/
def exec (i : Instr) (s : State) : Host.Outcome State Fault Refusal :=
  match i with
  | .timeRound => Sys2Proof.Machine.execTimeRound s
  | .time region tile round gt => Sys2Proof.Machine.execTime region tile round gt s
  | .flueNak hop again => Sys2Proof.Machine.execFlueNak hop again s
  | .flueRetrainDone hop ok latency => Sys2Proof.Machine.execFlueRetrainDone hop ok latency s
  | .flueReservedOpcode region tile src tag opcode tenant dest req => Sys2Proof.Machine.execFlueReservedOpcode region tile src tag opcode tenant dest req s
  | .cmdAccept region tile hdr early => Sys2Proof.Machine.execCmdAccept region tile hdr early s
  | .rotationDrawDone region tile slot => Sys2Proof.Machine.execRotationDrawDone region tile slot s
  | .operandBeat region tile slot kind opa opb sca scb => Sys2Proof.Machine.execOperandBeat region tile slot kind opa opb sca scb s
  | .tapReadBeat region tile acc words first last parityBad => Sys2Proof.Machine.execTapReadBeat region tile acc words first last parityBad s
  | .egressBeat region tile slot data nel lastb lastc => Sys2Proof.Machine.execEgressBeat region tile slot data nel lastb lastc s
  | .releaseTagOut region tile => Sys2Proof.Machine.execReleaseTagOut region tile s
  | .gateDecision region tile slot => Sys2Proof.Machine.execGateDecision region tile slot s
  | .slotDrain region tile slot => Sys2Proof.Machine.execSlotDrain region tile slot s
  | .meshBlock region tile first last prot fmt nel data tag src line lines => Sys2Proof.Machine.execMeshBlock region tile first last prot fmt nel data tag src line lines s
  | .sramEccEvent region tile uncorrectable line => Sys2Proof.Machine.execSramEccEvent region tile uncorrectable line s
  | .fenceReq region tile ten tag => Sys2Proof.Machine.execFenceReq region tile ten tag s
  | .retryTimeout region tile => Sys2Proof.Machine.execRetryTimeout region tile s
  | .faultFlitDepart region tile => Sys2Proof.Machine.execFaultFlitDepart region tile s
  | .probeGate region tile => Sys2Proof.Machine.execProbeGate region tile s
  | .probeWake region tile => Sys2Proof.Machine.execProbeWake region tile s
  | .xownAck region tile data => Sys2Proof.Machine.execXownAck region tile data s
  | .moveXownTimeout region tile => Sys2Proof.Machine.execMoveXownTimeout region tile s
  | .copyUnitArrive region tile beat data => Sys2Proof.Machine.execCopyUnitArrive region tile beat data s
  | .moveComplete region tile => Sys2Proof.Machine.execMoveComplete region tile s
  | .icmdAccept region tile => Sys2Proof.Machine.execIcmdAccept region tile s
  | .cshkAck region tile => Sys2Proof.Machine.execCshkAck region tile s
  | .cshkTimeout region tile => Sys2Proof.Machine.execCshkTimeout region tile s
  | .mwSettleDone region tile => Sys2Proof.Machine.execMwSettleDone region tile s
  | .stopLeafRise region tile => Sys2Proof.Machine.execStopLeafRise region tile s
  | .stopLeafFall region tile => Sys2Proof.Machine.execStopLeafFall region tile s
  | .bandInputChange region tile band => Sys2Proof.Machine.execBandInputChange region tile band s
  | .rdReq region tile slot hdr sa sb beats u dom count gtlo => Sys2Proof.Machine.execRdReq region tile slot hdr sa sb beats u dom count gtlo s
  | .rdCopy region tile acc flue dir slot => Sys2Proof.Machine.execRdCopy region tile acc flue dir slot s
  | .rdOrder region tile acc flue hdr units hops dir count u dom => Sys2Proof.Machine.execRdOrder region tile acc flue hdr units hops dir count u dom s
  | .readerSignatureClose region tile => Sys2Proof.Machine.execReaderSignatureClose region tile s
  | .rdReport region tile sa sb beats readerFault => Sys2Proof.Machine.execRdReport region tile sa sb beats readerFault s
  | .rdAgree region tile acc slot unread => Sys2Proof.Machine.execRdAgree region tile acc slot unread s
  | .rdDiscard region tile acc slot fence reason => Sys2Proof.Machine.execRdDiscard region tile acc slot fence reason s
  | .rdAbort region tile acc => Sys2Proof.Machine.execRdAbort region tile acc s
  | .rdData region atReader worker acc unit data => Sys2Proof.Machine.execRdData region atReader worker acc unit data s
  | .padDeadline region tile slot => Sys2Proof.Machine.execPadDeadline region tile slot s
  | .readingSettleTimeout region col => Sys2Proof.Machine.execReadingSettleTimeout region col s
  | .iftQuotaTimeout region col => Sys2Proof.Machine.execIftQuotaTimeout region col s
  | .iftStart region tile acc mwen => Sys2Proof.Machine.execIftStart region tile acc mwen s
  | .iftGet region tile index => Sys2Proof.Machine.execIftGet region tile index s
  | .iftPat region tile acc index hdr fill word expA expB beats margin cover => Sys2Proof.Machine.execIftPat region tile acc index hdr fill word expA expB beats margin cover s
  | .segmentClose region tile => Sys2Proof.Machine.execSegmentClose region tile s
  | .segmentTimeout region tile => Sys2Proof.Machine.execSegmentTimeout region tile s
  | .iftResult region tile pass complete allPassed first kind confirmed time => Sys2Proof.Machine.execIftResult region tile pass complete allPassed first kind confirmed time s
  | .mwResult region tile margin band valid bandchg cshkto => Sys2Proof.Machine.execMwResult region tile margin band valid bandchg cshkto s
  | .iftStop region tile acc abandon => Sys2Proof.Machine.execIftStop region tile acc abandon s
  | .iftStopped region tile => Sys2Proof.Machine.execIftStopped region tile s
  | .expReport region gt0 gt1 x y cover ovf seq last cause entries => Sys2Proof.Machine.execExpReport region gt0 gt1 x y cover ovf seq last cause entries s
  | .iftOverdue region tile dwells => Sys2Proof.Machine.execIftOverdue region tile dwells s
  | .catReqAssign x y count tenant ten tag => Sys2Proof.Machine.execCatReqAssign x y count tenant ten tag s
  | .catReqUnassign x y count tenant ten tag => Sys2Proof.Machine.execCatReqUnassign x y count tenant ten tag s
  | .catReqRestore x y ten tag => Sys2Proof.Machine.execCatReqRestore x y ten tag s
  | .catReqQuench x y ten tag => Sys2Proof.Machine.execCatReqQuench x y ten tag s
  | .gapStepDue region cols => Sys2Proof.Machine.execGapStepDue region cols s
  | .catHold region tile acc hold => Sys2Proof.Machine.execCatHold region tile acc hold s
  | .catIdle region tile => Sys2Proof.Machine.execCatIdle region tile s
  | .catIdleTimeout region col => Sys2Proof.Machine.execCatIdleTimeout region col s
  | .catRole region tile acc role x y newAcc send sendDir recv fromLower hops gt => Sys2Proof.Machine.execCatRole region tile acc role x y newAcc send sendDir recv fromLower hops gt s
  | .catCtx region tile acc install tenant key d => Sys2Proof.Machine.execCatCtx region tile acc install tenant key d s
  | .catMoved region tile whole busy ecc timeout units => Sys2Proof.Machine.execCatMoved region tile whole busy ecc timeout units s
  | .catReport region col state q1 q2 isPartial x y => Sys2Proof.Machine.execCatReport region col state q1 q2 isPartial x y s
  | .catBounce region tile probeAcc code header payload => Sys2Proof.Machine.execCatBounce region tile probeAcc code header payload s
  | .flPropose region part pid last urgent acts => Sys2Proof.Machine.execFlPropose region part pid last urgent acts s
  | .flAccept region pid result number => Sys2Proof.Machine.execFlAccept region pid result number s
  | .proposeRetry region pid => Sys2Proof.Machine.execProposeRetry region pid s
  | .folioPrepare number => Sys2Proof.Machine.execFolioPrepare number s
  | .flPrep who part last replay number tenant count gt acts => Sys2Proof.Machine.execFlPrep who part last replay number tenant count gt acts s
  | .flVote who number code gt => Sys2Proof.Machine.execFlVote who number code gt s
  | .folioPrepareTimeout number => Sys2Proof.Machine.execFolioPrepareTimeout number s
  | .flSeal who number replay t => Sys2Proof.Machine.execFlSeal who number replay t s
  | .flVoid who number reason => Sys2Proof.Machine.execFlVoid who number reason s
  | .folioApply who number => Sys2Proof.Machine.execFolioApply who number s
  | .flDone who number late voidAck dup gt => Sys2Proof.Machine.execFlDone who number late voidAck dup gt s
  | .folioDoneTimeout number => Sys2Proof.Machine.execFolioDoneTimeout number s
  | .flSync region last => Sys2Proof.Machine.execFlSync region last s
  | .flSyncack region count failed => Sys2Proof.Machine.execFlSyncack region count failed s
  | .flTdrop region tile acc tenant instant => Sys2Proof.Machine.execFlTdrop region tile acc tenant instant s
  | .folioTreq tenant ten tag => Sys2Proof.Machine.execFolioTreq tenant ten tag s
  | .rfiMessage region data parOk => Sys2Proof.Machine.execRfiMessage region data parOk s
  | .faultClassify region => Sys2Proof.Machine.execFaultClassify region s
  | .bucketLeak region key kind => Sys2Proof.Machine.execBucketLeak region key kind s
  | .faultRegister => Sys2Proof.Machine.execFaultRegister s
  | .fltCount region src kind tenant addr gtlo => Sys2Proof.Machine.execFltCount region src kind tenant addr gtlo s
  | .fltAckhub region raised => Sys2Proof.Machine.execFltAckhub region raised s
  | .fltPhase region phase => Sys2Proof.Machine.execFltPhase region phase s
  | .fltPhaseWrite phase ten tag => Sys2Proof.Machine.execFltPhaseWrite phase ten tag s
  | .fltFence region tile acc fence => Sys2Proof.Machine.execFltFence region tile acc fence s
  | .fltAck rid ten tag => Sys2Proof.Machine.execFltAck rid ten tag s
  | .fltNtailWrite tail ten tag => Sys2Proof.Machine.execFltNtailWrite tail ten tag s
  | .l2QueueTimeout rid => Sys2Proof.Machine.execL2QueueTimeout rid s
  | .l3HoldExpiry => Sys2Proof.Machine.execL3HoldExpiry s
  | .watchdogTick region tile => Sys2Proof.Machine.execWatchdogTick region tile s
  | .wdStat region tile answer owing prog held gated => Sys2Proof.Machine.execWdStat region tile answer owing prog held gated s
  | .watchdogEvaluate region => Sys2Proof.Machine.execWatchdogEvaluate region s
  | .wdSet region suspects more => Sys2Proof.Machine.execWdSet region suspects more s
  | .caseCollectTimeout => Sys2Proof.Machine.execCaseCollectTimeout s
  | .rcvOrder region rung case instant tenants => Sys2Proof.Machine.execRcvOrder region rung case instant tenants s
  | .wdDrop region tile acc tenant every instant => Sys2Proof.Machine.execWdDrop region tile acc tenant every instant s
  | .resetInstant region => Sys2Proof.Machine.execResetInstant region s
  | .resetHoldEnd region => Sys2Proof.Machine.execResetHoldEnd region s
  | .wdCheck region tile acc => Sys2Proof.Machine.execWdCheck region tile acc s
  | .rcvDone region clear held case => Sys2Proof.Machine.execRcvDone region clear held case s
  | .rcvDoneTimeout region => Sys2Proof.Machine.execRcvDoneTimeout region s
  | .rcvGrant region tenant code => Sys2Proof.Machine.execRcvGrant region tenant code s
  | .replayTimeout => Sys2Proof.Machine.execReplayTimeout s
  | .helloTick clp => Sys2Proof.Machine.execHelloTick clp s
  | .hello clp h rel cr dol => Sys2Proof.Machine.execHello clp h rel cr dol s
  | .heartbeat clp h peerSealed => Sys2Proof.Machine.execHeartbeat clp h peerSealed s
  | .heartbeatTick clp => Sys2Proof.Machine.execHeartbeatTick clp s
  | .retransmitTimeout clp => Sys2Proof.Machine.execRetransmitTimeout clp s
  | .sealMsg clp h job epoch slice digest => Sys2Proof.Machine.execSeal clp h job epoch slice digest s
  | .recallMsg clp h job first last slice origin rid cause => Sys2Proof.Machine.execRecall clp h job first last slice origin rid cause s
  | .role clp h job slice pslice withdraw => Sys2Proof.Machine.execRole clp h job slice pslice withdraw s
  | .fprep clp h folio part last nact acts => Sys2Proof.Machine.execFprep clp h folio part last nact acts s
  | .fvote clp h folio code lnum answer => Sys2Proof.Machine.execFvote clp h folio code lnum answer s
  | .fseal clp h folio t replay => Sys2Proof.Machine.execFseal clp h folio t replay s
  | .fvoid clp h folio reason => Sys2Proof.Machine.execFvoid clp h folio reason s
  | .tpair clp h phase pid t1 t2 t3 theta delta => Sys2Proof.Machine.execTpair clp h phase pid t1 t2 t3 theta delta s
  | .tpairTick clp => Sys2Proof.Machine.execTpairTick clp s
  | .tpairTimeout clp => Sys2Proof.Machine.execTpairTimeout clp s
  | .thetaExpiry clp => Sys2Proof.Machine.execThetaExpiry clp s
  | .dispute clp h cause job ref ev1 ev2 => Sys2Proof.Machine.execDispute clp h cause job ref ev1 ev2 s
  | .disputeResend clp => Sys2Proof.Machine.execDisputeResend clp s
  | .peerLoss clp => Sys2Proof.Machine.execPeerLoss clp s
  | .linkUpChange clp up ps => Sys2Proof.Machine.execLinkUpChange clp up ps s
  | .epochTimeout clp job slice => Sys2Proof.Machine.execEpochTimeout clp job slice s
  | .collisionBackoff => Sys2Proof.Machine.execCollisionBackoff s
  | .indoubtTimeout clp folio => Sys2Proof.Machine.execIndoubtTimeout clp folio s
  | .ccdRestart clp ten tag => Sys2Proof.Machine.execCcdRestart clp ten tag s
  | .ccdXreqXrole clp job slice newclp withdraw ten tag => Sys2Proof.Machine.execCcdXreqXrole clp job slice newclp withdraw ten tag s
  | .ccdXreqXspare clp job slice newclp ten tag => Sys2Proof.Machine.execCcdXreqXspare clp job slice newclp ten tag s
  | .epochSeal tenant epoch ten tag => Sys2Proof.Machine.execEpochSeal tenant epoch ten tag s
  | .epochDiscard tenant epoch ten tag => Sys2Proof.Machine.execEpochDiscard tenant epoch ten tag s
  | .epochRewind tenant epoch tagOk ten tag => Sys2Proof.Machine.execEpochRewind tenant epoch tagOk ten tag s
  | .epochRestart tenant epoch ten tag => Sys2Proof.Machine.execEpochRestart tenant epoch ten tag s
  | .epCut region tenant discard epoch => Sys2Proof.Machine.execEpCut region tenant discard epoch s
  | .dgCut region tile acc tenant discard => Sys2Proof.Machine.execDgCut region tile acc tenant discard s
  | .dgReport region tile tenant layer dA dB cut nslot nchunk nmvslot nmvchunk => Sys2Proof.Machine.execDgReport region tile tenant layer dA dB cut nslot nchunk nmvslot nmvchunk s
  | .dgCover region tile tenant macs elems => Sys2Proof.Machine.execDgCover region tile tenant macs elems s
  | .epPart region tenant part last payload => Sys2Proof.Machine.execEpPart region tenant part last payload s
  | .epochHashDone tenant => Sys2Proof.Machine.execEpochHashDone tenant s
  | .epPartTimeout tenant => Sys2Proof.Machine.execEpPartTimeout tenant s
  | .recordRingTimeout tenant => Sys2Proof.Machine.execRecordRingTimeout tenant s
  | .tenRecTailWrite tenant offset ten tag => Sys2Proof.Machine.execTenRecTailWrite tenant offset ten tag s
  | .colophonRequest tenant ten tag => Sys2Proof.Machine.execColophonRequest tenant ten tag s
  | .senseConversion codes => Sys2Proof.Machine.execSenseConversion codes s
  | .intervalEnd region => Sys2Proof.Machine.execIntervalEnd region s
  | .enAct region tile tenant gt isPartial counts => Sys2Proof.Machine.execEnAct region tile tenant gt isPartial counts s
  | .enModel region gt total mv => Sys2Proof.Machine.execEnModel region gt total mv s
  | .enModelTimeout gt => Sys2Proof.Machine.execEnModelTimeout gt s
  | .enAnchor region gt mask factors => Sys2Proof.Machine.execEnAnchor region gt mask factors s
  | .enMark region tile acc instant => Sys2Proof.Machine.execEnMark region tile acc instant s
  | .supplyReading region mv => Sys2Proof.Machine.execSupplyReading region mv s
  | .pwNb region from_ mv => Sys2Proof.Machine.execPwNb region from_ mv s
  | .thermalStep region energy => Sys2Proof.Machine.execThermalStep region energy s
  | .thNb region from_ t => Sys2Proof.Machine.execThNb region from_ t s
  | .boundaryRepeat region dir => Sys2Proof.Machine.execBoundaryRepeat region dir s
  | .bhRerun region tile acc => Sys2Proof.Machine.execBhRerun region tile acc s
  | .bandheldRetryPulse region tile => Sys2Proof.Machine.execBandheldRetryPulse region tile s
  | .sweepPeriod => Sys2Proof.Machine.execSweepPeriod s
  | .tlReport region part last single sweep entries flip => Sys2Proof.Machine.execTlReport region part last single sweep entries flip s
  | .tlCommit region discard code sweep single tenant => Sys2Proof.Machine.execTlCommit region discard code sweep single tenant s
  | .sweepTimeout => Sys2Proof.Machine.execSweepTimeout s
  | .statementRequest tenant reqid ten tag => Sys2Proof.Machine.execStatementRequest tenant reqid ten tag s
  | .batchTimeout => Sys2Proof.Machine.execBatchTimeout s
  | .batchClose ten tag => Sys2Proof.Machine.execBatchClose ten tag s
  | .tlyRtailWrite offset ten tag => Sys2Proof.Machine.execTlyRtailWrite offset ten tag s
  | .vaultSelftestDone kind code bankOk aOk bOk => Sys2Proof.Machine.execVaultSelftestDone kind code bankOk aOk bOk s
  | .periodicTestDue => Sys2Proof.Machine.execPeriodicTestDue s
  | .stnow ten tag => Sys2Proof.Machine.execStnow ten tag s
  | .entropySample sample => Sys2Proof.Machine.execEntropySample sample s
  | .drbgReseed => Sys2Proof.Machine.execDrbgReseed s
  | .entropyRawEnd => Sys2Proof.Machine.execEntropyRawEnd s
  | .glitchDetect => Sys2Proof.Machine.execGlitchDetect s
  | .scanModeEnable => Sys2Proof.Machine.execScanModeEnable s
  | .random caller => Sys2Proof.Machine.execRandom caller s
  | .deriveRotkey region tenant => Sys2Proof.Machine.execDeriveRotkey region tenant s
  | .hmacRecord len data => Sys2Proof.Machine.execHmacRecord len data s
  | .hmacLedger => Sys2Proof.Machine.execHmacLedger s
  | .verifyCharter => Sys2Proof.Machine.execVerifyCharter s
  | .tenantKeygen tenant => Sys2Proof.Machine.execTenantKeygen tenant s
  | .tenantKeydrop tenant => Sys2Proof.Machine.execTenantKeydrop tenant s
  | .signColophon tenant => Sys2Proof.Machine.execSignColophon tenant s
  | .signRoot => Sys2Proof.Machine.execSignRoot s
  | .vaultServiceDone pairwise => Sys2Proof.Machine.execVaultServiceDone pairwise s
  | .nonceRequest service ten tag => Sys2Proof.Machine.execNonceRequest service ten tag s
  | .nonceLifetimeEnd slot => Sys2Proof.Machine.execNonceLifetimeEnd slot s
  | .ledgerClear ten tag => Sys2Proof.Machine.execLedgerClear ten tag s
  | .zeroise ten tag => Sys2Proof.Machine.execZeroise ten tag s
  | .provision ten tag => Sys2Proof.Machine.execProvision ten tag s
  | .rekeyTally ten tag => Sys2Proof.Machine.execRekeyTally ten tag s
  | .revokeOfficer ten tag => Sys2Proof.Machine.execRevokeOfficer ten tag s
  | .debugUnlock ten tag => Sys2Proof.Machine.execDebugUnlock ten tag s
  | .entropyRaw ten tag => Sys2Proof.Machine.execEntropyRaw ten tag s
  | .stkGo channel value ten tag => Sys2Proof.Machine.execStkGo channel value ten tag s
  | .stkAbort channel value ten tag => Sys2Proof.Machine.execStkAbort channel value ten tag s
  | .descriptorArrive channel data => Sys2Proof.Machine.execDescriptorArrive channel data s
  | .burstGrant => Sys2Proof.Machine.execBurstGrant s
  | .smpReadBeat readTag data err parOk => Sys2Proof.Machine.execSmpReadBeat readTag data err parOk s
  | .smpWriteBeat => Sys2Proof.Machine.execSmpWriteBeat s
  | .smpRqCred => Sys2Proof.Machine.execSmpRqCred s
  | .smpWdCred => Sys2Proof.Machine.execSmpWdCred s
  | .smpWriteError writeTag => Sys2Proof.Machine.execSmpWriteError writeTag s
  | .smpReadTimeout readTag => Sys2Proof.Machine.execSmpReadTimeout readTag s
  | .stkDisable ten tag => Sys2Proof.Machine.execStkDisable ten tag s
  | .stkEnable ten tag => Sys2Proof.Machine.execStkEnable ten tag s
  | .stkClrhalt ten tag => Sys2Proof.Machine.execStkClrhalt ten tag s
  | .skRead region xferTag part off flits => Sys2Proof.Machine.execSkRead region xferTag part off flits s
  | .skData region xferTag status data => Sys2Proof.Machine.execSkData region xferTag status data s
  | .skReadTimeout xferTag => Sys2Proof.Machine.execSkReadTimeout xferTag s
  | .ledgerRefill region => Sys2Proof.Machine.execLedgerRefill region s
  | .lgSupp region kind count src gt => Sys2Proof.Machine.execLgSupp region kind count src gt s
  | .foldTimeout => Sys2Proof.Machine.execFoldTimeout s
  | .flashProgramDone ok => Sys2Proof.Machine.execFlashProgramDone ok s
  | .flashEraseDone ok => Sys2Proof.Machine.execFlashEraseDone ok s
  | .ledgerFlush ten tag => Sys2Proof.Machine.execLedgerFlush ten tag s
  | .ledgerReadPage page verify ten tag => Sys2Proof.Machine.execLedgerReadPage page verify ten tag s
  | .ledgerReadDone error => Sys2Proof.Machine.execLedgerReadDone error s
  | .ledgerAppend code ten tag => Sys2Proof.Machine.execLedgerAppend code ten tag s
  | .ledgerRecovery sizeMib meets => Sys2Proof.Machine.execLedgerRecovery sizeMib meets s
  | .fuseWord addr data parOk => Sys2Proof.Machine.execFuseWord addr data parOk s
  | .flueTrainingDone w h spine hopsOk answered detail latencies => Sys2Proof.Machine.execFlueTrainingDone w h spine hopsOk answered detail latencies s
  | .pstResult region tile mask => Sys2Proof.Machine.execPstResult region tile mask s
  | .pstTimeout region tile => Sys2Proof.Machine.execPstTimeout region tile s
  | .pstSum region failures tiles => Sys2Proof.Machine.execPstSum region failures tiles s
  | .charterGo ten tag => Sys2Proof.Machine.execCharterGo ten tag s
  | .charterGoTimeout => Sys2Proof.Machine.execCharterGoTimeout s
  | .charterVerifyDone image ckh busErr => Sys2Proof.Machine.execCharterVerifyDone image ckh busErr s
  | .chData region part last sect => Sys2Proof.Machine.execChData region part last sect s
  | .chAck region valid sect => Sys2Proof.Machine.execChAck region valid sect s
  | .clpQualDone clp res errs => Sys2Proof.Machine.execClpQualDone clp res errs s
  | .amendGo image busErr ten tag => Sys2Proof.Machine.execAmendGo image busErr ten tag s
  | .linkRequalify clp ten tag => Sys2Proof.Machine.execLinkRequalify clp ten tag s
  | .vaonLost half => Sys2Proof.Machine.execVaonLost half s
  | .lossFlushDone => Sys2Proof.Machine.execLossFlushDone s
  | .vaonReturn => Sys2Proof.Machine.execVaonReturn s
  | .vbkLost => Sys2Proof.Machine.execVbkLost s
  | .coldStart => Sys2Proof.Machine.execColdStart s
  | .vddLost half => Sys2Proof.Machine.execVddLost half s
  | .vddGood => Sys2Proof.Machine.execVddGood s
  | .holdoverEnter half => Sys2Proof.Machine.execHoldoverEnter half s
  | .holdoverExit => Sys2Proof.Machine.execHoldoverExit s
  | .porbAssert half => Sys2Proof.Machine.execPorbAssert half s
  | .porbRelease => Sys2Proof.Machine.execPorbRelease s
  | .puIsoDone => Sys2Proof.Machine.execPuIsoDone s
  | .quiesceDone => Sys2Proof.Machine.execQuiesceDone s
  | .flushCommit timeLimit => Sys2Proof.Machine.execFlushCommit timeLimit s
  | .stopDone => Sys2Proof.Machine.execStopDone s
  | .pwrOff ten tag => Sys2Proof.Machine.execPwrOff ten tag s
  | .pwrOn ten tag => Sys2Proof.Machine.execPwrOn ten tag s
  | .pwrPcreq ten tag => Sys2Proof.Machine.execPwrPcreq ten tag s
  | .voltageTarget region mv ten tag => Sys2Proof.Machine.execVoltageTarget region mv ten tag s
  | .hrstb => Sys2Proof.Machine.execHrstb s
  | .btnRelease ms => Sys2Proof.Machine.execBtnRelease ms s
  | .btnStuck => Sys2Proof.Machine.execBtnStuck s
  | .trayAck => Sys2Proof.Machine.execTrayAck s
  | .gstopWrite ten tag => Sys2Proof.Machine.execGstopWrite ten tag s
  | .gstopRelease ten tag => Sys2Proof.Machine.execGstopRelease ten tag s
  | .stopInChange level => Sys2Proof.Machine.execStopInChange level s
  | .gstopSettle => Sys2Proof.Machine.execGstopSettle s
  | .trRec region tile => Sys2Proof.Machine.execTrRec region tile s
  | .traceMark region => Sys2Proof.Machine.execTraceMark region s
  | .trLevel region held => Sys2Proof.Machine.execTrLevel region held s
  | .trCut region => Sys2Proof.Machine.execTrCut region s
  | .trRun region first count => Sys2Proof.Machine.execTrRun region first count s
  | .trFree region count => Sys2Proof.Machine.execTrFree region count s
  | .traceDrain ten tag => Sys2Proof.Machine.execTraceDrain ten tag s
  | .traceEnable tpen ten tag => Sys2Proof.Machine.execTraceEnable tpen ten tag s
  | .unlockExpiry => Sys2Proof.Machine.execUnlockExpiry s
  | .rgRead region tile off sz64 ten tag => Sys2Proof.Machine.execRgRead region tile off sz64 ten tag s
  | .rgWrite region tile off sz64 data ten tag => Sys2Proof.Machine.execRgWrite region tile off sz64 data ten tag s
  | .rgRdata region tile tag status data => Sys2Proof.Machine.execRgRdata region tile tag status data s
  | .rgWack region tile tag status => Sys2Proof.Machine.execRgWack region tile tag status s
  | .mrRead region off sz64 lens tag => Sys2Proof.Machine.execMrRead region off sz64 lens tag s
  | .ghpTimeout tag => Sys2Proof.Machine.execGhpTimeout tag s
  | .registerWrite addr data sz64 ten tag parOk => Sys2Proof.Machine.execRegisterWrite addr data sz64 ten tag parOk s
  | .getStatus => Sys2Proof.Machine.execGetStatus s
  | .readReg addr sz64 => Sys2Proof.Machine.execReadReg addr sz64 s
  | .readMirror offset count => Sys2Proof.Machine.execReadMirror offset count s
  | .readLedger page chunk => Sys2Proof.Machine.execReadLedger page chunk s
  | .power on => Sys2Proof.Machine.execPower on s
  | .gstop stop => Sys2Proof.Machine.execGstop stop s
  | .setAmb region tamb => Sys2Proof.Machine.execSetAmb region tamb s
  | .wakeWrite => Sys2Proof.Machine.execWakeWrite s
  | .setEndpointId op eid => Sys2Proof.Machine.execSetEndpointId op eid s
  | .getEndpointId => Sys2Proof.Machine.execGetEndpointId s
  | .getMctpVersionSupport type => Sys2Proof.Machine.execGetMctpVersionSupport type s
  | .getMessageTypeSupport => Sys2Proof.Machine.execGetMessageTypeSupport s
  | .getVendorDefinedMessageSupport selector => Sys2Proof.Machine.execGetVendorDefinedMessageSupport selector s
  | .gettid => Sys2Proof.Machine.execGettid s
  | .getpldmversion type => Sys2Proof.Machine.execGetpldmversion type s
  | .getpldmtypes => Sys2Proof.Machine.execGetpldmtypes s
  | .getpldmcommands type => Sys2Proof.Machine.execGetpldmcommands type s
  | .getpdrrepositoryinfo => Sys2Proof.Machine.execGetpdrrepositoryinfo s
  | .getpdr handle => Sys2Proof.Machine.execGetpdr handle s
  | .getsensorreading sensor => Sys2Proof.Machine.execGetsensorreading sensor s
  | .getstatesensorreadings sensor => Sys2Proof.Machine.execGetstatesensorreadings sensor s
  | .entdaa addr => Sys2Proof.Machine.execEntdaa addr s
  | .setdasa sa addr => Sys2Proof.Machine.execSetdasa sa addr s
  | .setnewda old new => Sys2Proof.Machine.execSetnewda old new s
  | .rstdaa => Sys2Proof.Machine.execRstdaa s
  | .enec addr events => Sys2Proof.Machine.execEnec addr events s
  | .disec addr events => Sys2Proof.Machine.execDisec addr events s
  | .getpid addr => Sys2Proof.Machine.execGetpid addr s
  | .getbcr addr => Sys2Proof.Machine.execGetbcr addr s
  | .getdcr addr => Sys2Proof.Machine.execGetdcr addr s
  | .getstatus addr => Sys2Proof.Machine.execGetstatus addr s
  | .getmwl addr => Sys2Proof.Machine.execGetmwl addr s
  | .getmrl addr => Sys2Proof.Machine.execGetmrl addr s
  | .setmwl addr len => Sys2Proof.Machine.execSetmwl addr len s
  | .setmrl addr len => Sys2Proof.Machine.execSetmrl addr len s
  | .clpMessageDropped clp seq crcFailed => Sys2Proof.Machine.execClpMessageDropped clp seq crcFailed s
  | .tokenReject ecdsaOk mldsaOk ten tag => Sys2Proof.Machine.execTokenReject ecdsaOk mldsaOk ten tag s
  | .periodicTestDone code => Sys2Proof.Machine.execPeriodicTestDone code s
  | .btnStuckClear => Sys2Proof.Machine.execBtnStuckClear s
  | .hrstbRelease low => Sys2Proof.Machine.execHrstbRelease low s
  | .dbgTrtailWrite offset ten tag => Sys2Proof.Machine.execDbgTrtailWrite offset ten tag s
  | .keyStorePartitionAccess => Sys2Proof.Machine.execKeyStorePartitionAccess s

end Sys2Proof.Machine
end

