-- ==== Sys2Proof/Machine/Tick.lean ====
section
/-! DEFINITION. One HCLK with no command waiting: what the clocks move (R15, R29, R449, R450, R465) and what the Kiln's units start by themselves. -/

namespace Sys2Proof.Machine

/-- TPI_EGR_HOLD (R53): the fence is closed, or the slot next in release order exists and is not released. -/
def Probe.egrHold (p : Probe) : Bool := p.closed || p.unreleased != []

/-- PCLK of an HCLK in which a THR of `k` lets a region's compute clocks run: k of every 16 are skipped, spread evenly (R324; assumption 149). -/
def runningCycles (k gt : Nat) : Nat := 4 - ((gt % 4 + 1) * k / 4 - gt % 4 * k / 4)

/-- Busy cycles of an HCLK (R312, R324): to the tenant of the oldest slot that is not FREE, or to tenant 0 at an idle tile in SERVICE. -/
def State.countBusy (s : State) (r t : Nat) (service : Bool) : State :=
  let p := s.probe r t
  let n := runningCycles (s.get Reg.RH_TH_STATUS_THR r) s.gt
  match p.inOrder with
  | i :: _ => s.activity r t (p.slot i).actIndex [(9, n)]
  | [] => if service ∧ p.powered then s.activity r t 16 [(9, n)] else s

/-- Tiles whose busy cycles count: those of the Catalogue in SERVICE, and those with a slot that is not FREE; with whether they are in SERVICE. -/
def State.busyTiles (s : State) : List (Nat × Nat × Bool) :=
  let service := s.hubs.flatMap (fun e => (e.2.cat.pos.filter (fun q => q.2.role == .service)).map (fun q => (e.1, q.1, true)))
  service ++ (s.probes.filter (fun e => !e.2.inOrder.isEmpty && ((tget (e.1 % 2048) (s.hub (e.1 / 2048)).cat.pos).map (·.role)) != some .service)).map
    (fun e => (e.1 / 2048, e.1 % 2048, false))

/-- Four PCLK at a probe: the counters of conditions that last (R465). -/
def State.countCycles (s : State) (r t : Nat) : State :=
  let p := s.probe r t
  let s := if p.inOrder != [] then s.count r t 0 4 else s
  let s := if p.egrHold then s.count r t 7 4 else s
  let s := if p.xown then s.count r t 14 4 else s
  if p.stopLeaf then s.count r t 15 4 else s

/-- Every GT counter advances (R29), and the IFT time of the probes that run segments or the walk (R125). -/
def State.advanceGt (s : State) : State :=
  { s with gt := wrap 64 (s.gt + 1),
           hubs := tmap (fun _ (h : Hub) => { h with gt := wrap 64 (h.gt + 1) }) s.hubs,
           probes := tmap (fun _ (p : Probe) => { p with gt24 := wrap 24 (p.gt24 + 1),
                                                         ift := if p.ift.running && !p.stopLeaf then { p.ift with time := p.ift.time + 1 } else p.ift }) s.probes }

/-- One BCLK of Ledger time (R449), or one tick of the oscillator in holdover (R450), in 2^-32 µs. -/
def Pwr.tickLength (p : Pwr) : Nat := if p.holdover then 2 ^ 29 else 256000 * 2 ^ 32 / p.khz

/-- What the Kiln's units, which KCLK drives (R7), start without a command: the bank flip (R330), sweeps that wait (R328), a page's close that waits for its seal or finds the Vault refusing (R403, R408), the Ledger's flash (R398), system channels (R368),
channel writes (R387), received messages of Concordance (R254), and an off request that a READY block latched (R445). -/
def State.kick (s : State) : State :=
  let s := if s.tally.flipDue then s.flipBank else s
  let s := s.mapPorts Port.freeBuffers
  let s := ((s.kickSweeps).askSeal.pumpLedger.kickSys).pumpAll
  if s.pwr.state = .on ∧ s.pwr.offLatch then s.quiesce else s

/-- A step with no command waiting (assumption 90): one HCLK where the VDD side runs, with a KCLK at every fourth and a BCLK at every 64th (R7); else one BCLK or oscillator tick of the
banked domain; nothing where that has stopped. -/
def State.tick (s : State) : State :=
  if s.pwr.stopped then s
  else if s.pwr.running then
    let s := s.advanceGt
    let s := s.flueTick
    let s := s.mapPorts (fun p => { p with unseq := 0 })
    let s := (s.probes.map (·.1)).foldl (fun (s : State) (k : Nat) => s.countCycles (k / 2048) (k % 2048)) s
    let s := s.busyTiles.foldl (fun (s : State) e => s.countBusy e.1 e.2.1 e.2.2) s
    let s := (s.hubs.map (·.1)).foldl (fun (s : State) (r : Nat) => s.gapTick r) s
    let s := if s.gt % 64 = 0 then { s with pwr := s.pwr.advance s.pwr.tickLength } else s
    if s.gt % 4 = 0 then s.kick else s
  else { s with pwr := s.pwr.advance s.pwr.tickLength }

end Sys2Proof.Machine
end

