-- ==== Sys2Proof/WellFormed.lean ====
section
/-! DEFINITION. Which commands name parts that the spec gives numbers to: regions, tiles, columns, tenants, tags, slots, ports, accession numbers
and hops. Values that a command carries are cut to their fields by the meanings. -/

namespace Sys2Proof

/-- A region number: W is at most 36 and H at most 32 (R18). -/
def regionOk (r : Nat) : Bool := decide (r < 1152)

/-- A region, or 0x7FF for the Kiln (R196). -/
def kilnOrRegionOk (r : Nat) : Bool := regionOk r || r == 0x7FF

/-- A tile-within-region (R18). -/
def tileOk (t : Nat) : Bool := decide (t < 1056)

/-- A column of a region (R18). -/
def columnOk (c : Nat) : Bool := decide (c < 32)

/-- A tenant number of 12 bits (R21). -/
def tenantOk (t : Nat) : Bool := decide (t < 4096)

/-- A tag of the host port (R487). -/
def tagOk (t : Nat) : Bool := decide (t < 64)

/-- A slot of a probe (R72). -/
def slotOk (i : Nat) : Bool := decide (i < 4)

/-- A Concordance Link Port (R32). -/
def clpOk (c : Nat) : Bool := decide (c < 32)

/-- An accession number of 20 bits (R160). -/
def accessionOk (a : Nat) : Bool := decide (a < 2 ^ 20)

/-- A hop's sender (R197). -/
def hopOk : HopId → Bool
  | .kiln row => decide (row < 32)
  | .hub r p => regionOk r && decide (p < 5)
  | .column r c => regionOk r && columnOk c
  | .up r t => regionOk r && tileOk t
  | .down r t => regionOk r && tileOk t

/-- Every part that a command names exists. -/
def Instr.wellFormed (i : Instr) : Bool :=
  match i with
  | .timeRound => true
  | .time region tile _ _ => regionOk region && (tile.all tileOk)
  | .flueNak hop _ => hopOk hop
  | .flueRetrainDone hop _ _ => hopOk hop
  | .flueReservedOpcode region tile _ _ _ tenant dest _ => kilnOrRegionOk region && (tile.all tileOk) && tenantOk tenant && (dest.all tileOk)
  | .cmdAccept region tile _ _ => regionOk region && tileOk tile
  | .rotationDrawDone region tile slot => regionOk region && tileOk tile && slotOk slot
  | .operandBeat region tile slot _ _ _ _ _ => regionOk region && tileOk tile && slotOk slot
  | .tapReadBeat region tile _ _ _ _ _ => regionOk region && tileOk tile
  | .egressBeat region tile slot _ _ _ _ => regionOk region && tileOk tile && slotOk slot
  | .releaseTagOut region tile => regionOk region && tileOk tile
  | .gateDecision region tile slot => regionOk region && tileOk tile && slotOk slot
  | .slotDrain region tile slot => regionOk region && tileOk tile && slotOk slot
  | .meshBlock region tile _ _ _ _ _ _ _ _ _ _ => regionOk region && tileOk tile
  | .sramEccEvent region tile _ _ => regionOk region && tileOk tile
  | .fenceReq region tile ten tag => regionOk region && tileOk tile && tenantOk ten && tagOk tag
  | .retryTimeout region tile => regionOk region && tileOk tile
  | .faultFlitDepart region tile => regionOk region && tileOk tile
  | .probeGate region tile => regionOk region && tileOk tile
  | .probeWake region tile => regionOk region && tileOk tile
  | .xownAck region tile _ => regionOk region && tileOk tile
  | .moveXownTimeout region tile => regionOk region && tileOk tile
  | .copyUnitArrive region tile _ _ => regionOk region && tileOk tile
  | .moveComplete region tile => regionOk region && tileOk tile
  | .icmdAccept region tile => regionOk region && tileOk tile
  | .cshkAck region tile => regionOk region && tileOk tile
  | .cshkTimeout region tile => regionOk region && tileOk tile
  | .mwSettleDone region tile => regionOk region && tileOk tile
  | .stopLeafRise region tile => regionOk region && (tile.all tileOk)
  | .stopLeafFall region tile => regionOk region && (tile.all tileOk)
  | .bandInputChange region tile _ => regionOk region && tileOk tile
  | .rdReq region tile slot _ _ _ _ _ _ _ _ => regionOk region && tileOk tile && slotOk slot
  | .rdCopy region tile acc _ _ slot => regionOk region && tileOk tile && accessionOk acc && slotOk slot
  | .rdOrder region tile acc _ _ _ _ _ _ _ _ => regionOk region && tileOk tile && accessionOk acc
  | .readerSignatureClose region tile => regionOk region && tileOk tile
  | .rdReport region tile _ _ _ _ => regionOk region && tileOk tile
  | .rdAgree region tile acc slot _ => regionOk region && tileOk tile && accessionOk acc && slotOk slot.slot
  | .rdDiscard region tile acc slot _ _ => regionOk region && tileOk tile && accessionOk acc && slotOk slot.slot
  | .rdAbort region tile acc => regionOk region && tileOk tile && accessionOk acc
  | .rdData region atReader _ acc _ _ => regionOk region && (atReader.all tileOk) && accessionOk acc
  | .padDeadline region tile slot => regionOk region && tileOk tile && slotOk slot
  | .readingSettleTimeout region col => regionOk region && columnOk col
  | .iftQuotaTimeout region col => regionOk region && columnOk col
  | .iftStart region tile acc _ => regionOk region && tileOk tile && accessionOk acc
  | .iftGet region tile _ => regionOk region && tileOk tile
  | .iftPat region tile acc _ _ _ _ _ _ _ _ _ => regionOk region && tileOk tile && accessionOk acc
  | .segmentClose region tile => regionOk region && tileOk tile
  | .segmentTimeout region tile => regionOk region && tileOk tile
  | .iftResult region tile _ _ _ _ _ _ _ => regionOk region && tileOk tile
  | .mwResult region tile _ _ _ _ _ => regionOk region && tileOk tile
  | .iftStop region tile acc _ => regionOk region && tileOk tile && accessionOk acc
  | .iftStopped region tile => regionOk region && tileOk tile
  | .expReport region _ _ _ _ _ _ _ _ _ _ => regionOk region
  | .iftOverdue region tile _ => regionOk region && tileOk tile
  | .catReqAssign _ _ _ tenant ten tag => tenantOk tenant && tenantOk ten && tagOk tag
  | .catReqUnassign _ _ _ tenant ten tag => tenantOk tenant && tenantOk ten && tagOk tag
  | .catReqRestore _ _ ten tag => tenantOk ten && tagOk tag
  | .catReqQuench _ _ ten tag => tenantOk ten && tagOk tag
  | .gapStepDue region _ => regionOk region
  | .catHold region tile acc _ => regionOk region && tileOk tile && accessionOk acc
  | .catIdle region tile => regionOk region && tileOk tile
  | .catIdleTimeout region col => regionOk region && columnOk col
  | .catRole region tile acc _ _ _ _ _ _ _ _ _ _ => regionOk region && tileOk tile && accessionOk acc
  | .catCtx region tile acc _ tenant _ _ => regionOk region && tileOk tile && accessionOk acc && tenantOk tenant
  | .catMoved region tile _ _ _ _ _ => regionOk region && tileOk tile
  | .catReport region col _ _ _ _ _ _ => regionOk region && columnOk col
  | .catBounce region tile _ _ _ _ => regionOk region && tileOk tile
  | .flPropose region _ _ _ _ _ => regionOk region
  | .flAccept region _ _ _ => regionOk region
  | .proposeRetry region _ => regionOk region
  | .folioPrepare _ => true
  | .flPrep _ _ _ _ _ tenant _ _ _ => tenantOk tenant
  | .flVote _ _ _ _ => true
  | .folioPrepareTimeout _ => true
  | .flSeal _ _ _ _ => true
  | .flVoid _ _ _ => true
  | .folioApply _ _ => true
  | .flDone _ _ _ _ _ _ => true
  | .folioDoneTimeout _ => true
  | .flSync region _ => regionOk region
  | .flSyncack region _ _ => regionOk region
  | .flTdrop region tile acc tenant _ => regionOk region && tileOk tile && accessionOk acc && tenantOk tenant
  | .folioTreq tenant ten tag => tenantOk tenant && tenantOk ten && tagOk tag
  | .rfiMessage region _ _ => regionOk region
  | .faultClassify region => regionOk region
  | .bucketLeak _ _ _ => true
  | .faultRegister => true
  | .fltCount region _ _ tenant _ _ => regionOk region && tenantOk tenant
  | .fltAckhub region _ => regionOk region
  | .fltPhase region _ => regionOk region
  | .fltPhaseWrite _ ten tag => tenantOk ten && tagOk tag
  | .fltFence region tile acc _ => regionOk region && (tile.all tileOk) && accessionOk acc
  | .fltAck _ ten tag => tenantOk ten && tagOk tag
  | .fltNtailWrite _ ten tag => tenantOk ten && tagOk tag
  | .l2QueueTimeout _ => true
  | .l3HoldExpiry => true
  | .watchdogTick region tile => regionOk region && tileOk tile
  | .wdStat region tile _ _ _ _ _ => regionOk region && tileOk tile
  | .watchdogEvaluate region => regionOk region
  | .wdSet region _ _ => regionOk region
  | .caseCollectTimeout => true
  | .rcvOrder region _ _ _ _ => regionOk region
  | .wdDrop region tile acc tenant _ _ => regionOk region && tileOk tile && accessionOk acc && tenantOk tenant
  | .resetInstant _ => true
  | .resetHoldEnd _ => true
  | .wdCheck region tile acc => regionOk region && tileOk tile && accessionOk acc
  | .rcvDone region _ _ _ => regionOk region
  | .rcvDoneTimeout region => regionOk region
  | .rcvGrant region tenant _ => regionOk region && tenantOk tenant
  | .replayTimeout => true
  | .helloTick clp => clpOk clp
  | .hello clp _ _ _ _ => clpOk clp
  | .heartbeat clp _ _ => clpOk clp
  | .heartbeatTick clp => clpOk clp
  | .retransmitTimeout clp => clpOk clp
  | .sealMsg clp _ _ _ _ _ => clpOk clp
  | .recallMsg clp _ _ _ _ _ _ _ _ => clpOk clp
  | .role clp _ _ _ _ _ => clpOk clp
  | .fprep clp _ _ _ _ _ _ => clpOk clp
  | .fvote clp _ _ _ _ _ => clpOk clp
  | .fseal clp _ _ _ _ => clpOk clp
  | .fvoid clp _ _ _ => clpOk clp
  | .tpair clp _ _ _ _ _ _ _ _ => clpOk clp
  | .tpairTick clp => clpOk clp
  | .tpairTimeout clp => clpOk clp
  | .thetaExpiry clp => clpOk clp
  | .dispute clp _ _ _ _ _ _ => clpOk clp
  | .disputeResend clp => clpOk clp
  | .peerLoss clp => clpOk clp
  | .linkUpChange clp _ _ => clpOk clp
  | .epochTimeout clp _ _ => clpOk clp
  | .collisionBackoff => true
  | .indoubtTimeout clp _ => clpOk clp
  | .ccdRestart clp ten tag => clpOk clp && tenantOk ten && tagOk tag
  | .ccdXreqXrole clp _ _ _ _ ten tag => clpOk clp && tenantOk ten && tagOk tag
  | .ccdXreqXspare clp _ _ _ ten tag => clpOk clp && tenantOk ten && tagOk tag
  | .epochSeal tenant _ ten tag => tenantOk tenant && tenantOk ten && tagOk tag
  | .epochDiscard tenant _ ten tag => tenantOk tenant && tenantOk ten && tagOk tag
  | .epochRewind tenant _ _ ten tag => tenantOk tenant && tenantOk ten && tagOk tag
  | .epochRestart tenant _ ten tag => tenantOk tenant && tenantOk ten && tagOk tag
  | .epCut region tenant _ _ => regionOk region && tenantOk tenant
  | .dgCut region tile acc tenant _ => regionOk region && tileOk tile && accessionOk acc && tenantOk tenant
  | .dgReport region tile tenant _ _ _ _ _ _ _ _ => regionOk region && tileOk tile && tenantOk tenant
  | .dgCover region tile tenant _ _ => regionOk region && tileOk tile && tenantOk tenant
  | .epPart region tenant _ _ _ => regionOk region && tenantOk tenant
  | .epochHashDone tenant => tenantOk tenant
  | .epPartTimeout tenant => tenantOk tenant
  | .recordRingTimeout tenant => tenantOk tenant
  | .tenRecTailWrite tenant _ ten tag => tenantOk tenant && tenantOk ten && tagOk tag
  | .colophonRequest tenant ten tag => tenantOk tenant && tenantOk ten && tagOk tag
  | .senseConversion _ => true
  | .intervalEnd region => regionOk region
  | .enAct region tile tenant _ _ _ => regionOk region && tileOk tile && tenantOk tenant
  | .enModel region _ _ _ => regionOk region
  | .enModelTimeout _ => true
  | .enAnchor region _ _ _ => regionOk region
  | .enMark region tile acc _ => regionOk region && tileOk tile && accessionOk acc
  | .supplyReading region _ => regionOk region
  | .pwNb region _ _ => regionOk region
  | .thermalStep region _ => regionOk region
  | .thNb region _ _ => regionOk region
  | .boundaryRepeat region _ => regionOk region
  | .bhRerun region tile acc => regionOk region && tileOk tile && accessionOk acc
  | .bandheldRetryPulse region tile => regionOk region && tileOk tile
  | .sweepPeriod => true
  | .tlReport region _ _ _ _ _ _ => regionOk region
  | .tlCommit region _ _ _ _ tenant => regionOk region && tenantOk tenant
  | .sweepTimeout => true
  | .statementRequest tenant _ ten tag => tenantOk tenant && tenantOk ten && tagOk tag
  | .batchTimeout => true
  | .batchClose ten tag => tenantOk ten && tagOk tag
  | .tlyRtailWrite _ ten tag => tenantOk ten && tagOk tag
  | .vaultSelftestDone _ _ _ _ _ => true
  | .periodicTestDue => true
  | .stnow ten tag => tenantOk ten && tagOk tag
  | .entropySample _ => true
  | .drbgReseed => true
  | .entropyRawEnd => true
  | .glitchDetect => true
  | .scanModeEnable => true
  | .random _ => true
  | .deriveRotkey region tenant => regionOk region && tenantOk tenant
  | .hmacRecord _ _ => true
  | .hmacLedger => true
  | .verifyCharter => true
  | .tenantKeygen tenant => tenantOk tenant
  | .tenantKeydrop tenant => tenantOk tenant
  | .signColophon tenant => tenantOk tenant
  | .signRoot => true
  | .vaultServiceDone _ => true
  | .nonceRequest _ ten tag => tenantOk ten && tagOk tag
  | .nonceLifetimeEnd slot => slotOk slot
  | .ledgerClear ten tag => tenantOk ten && tagOk tag
  | .zeroise ten tag => tenantOk ten && tagOk tag
  | .provision ten tag => tenantOk ten && tagOk tag
  | .rekeyTally ten tag => tenantOk ten && tagOk tag
  | .revokeOfficer ten tag => tenantOk ten && tagOk tag
  | .debugUnlock ten tag => tenantOk ten && tagOk tag
  | .entropyRaw ten tag => tenantOk ten && tagOk tag
  | .stkGo _ _ ten tag => tenantOk ten && tagOk tag
  | .stkAbort _ _ ten tag => tenantOk ten && tagOk tag
  | .descriptorArrive _ _ => true
  | .burstGrant => true
  | .smpReadBeat _ _ _ _ => true
  | .smpWriteBeat => true
  | .smpRqCred => true
  | .smpWdCred => true
  | .smpWriteError _ => true
  | .smpReadTimeout _ => true
  | .stkDisable ten tag => tenantOk ten && tagOk tag
  | .stkEnable ten tag => tenantOk ten && tagOk tag
  | .stkClrhalt ten tag => tenantOk ten && tagOk tag
  | .skRead region _ _ _ _ => regionOk region
  | .skData region _ _ _ => regionOk region
  | .skReadTimeout _ => true
  | .ledgerRefill region => regionOk region
  | .lgSupp region _ _ _ _ => regionOk region
  | .foldTimeout => true
  | .flashProgramDone _ => true
  | .flashEraseDone _ => true
  | .ledgerFlush ten tag => tenantOk ten && tagOk tag
  | .ledgerReadPage _ _ ten tag => tenantOk ten && tagOk tag
  | .ledgerReadDone _ => true
  | .ledgerAppend _ ten tag => tenantOk ten && tagOk tag
  | .ledgerRecovery _ _ => true
  | .fuseWord _ _ _ => true
  | .flueTrainingDone _ _ _ _ _ _ _ => true
  | .pstResult region tile _ => regionOk region && tileOk tile
  | .pstTimeout region tile => regionOk region && tileOk tile
  | .pstSum region _ _ => regionOk region
  | .charterGo ten tag => tenantOk ten && tagOk tag
  | .charterGoTimeout => true
  | .charterVerifyDone _ _ _ => true
  | .chData region _ _ _ => regionOk region
  | .chAck region _ _ => regionOk region
  | .clpQualDone clp _ _ => clpOk clp
  | .amendGo _ _ ten tag => tenantOk ten && tagOk tag
  | .linkRequalify clp ten tag => clpOk clp && tenantOk ten && tagOk tag
  | .vaonLost _ => true
  | .lossFlushDone => true
  | .vaonReturn => true
  | .vbkLost => true
  | .coldStart => true
  | .vddLost _ => true
  | .vddGood => true
  | .holdoverEnter _ => true
  | .holdoverExit => true
  | .porbAssert _ => true
  | .porbRelease => true
  | .puIsoDone => true
  | .quiesceDone => true
  | .flushCommit _ => true
  | .stopDone => true
  | .pwrOff ten tag => tenantOk ten && tagOk tag
  | .pwrOn ten tag => tenantOk ten && tagOk tag
  | .pwrPcreq ten tag => tenantOk ten && tagOk tag
  | .voltageTarget region _ ten tag => regionOk region && tenantOk ten && tagOk tag
  | .hrstb => true
  | .btnRelease _ => true
  | .btnStuck => true
  | .trayAck => true
  | .gstopWrite ten tag => tenantOk ten && tagOk tag
  | .gstopRelease ten tag => tenantOk ten && tagOk tag
  | .stopInChange _ => true
  | .gstopSettle => true
  | .trRec region tile => regionOk region && tileOk tile
  | .traceMark region => kilnOrRegionOk region
  | .trLevel region _ => regionOk region
  | .trCut region => regionOk region
  | .trRun region _ _ => regionOk region
  | .trFree region _ => regionOk region
  | .traceDrain ten tag => tenantOk ten && tagOk tag
  | .traceEnable _ ten tag => tenantOk ten && tagOk tag
  | .unlockExpiry => true
  | .rgRead region tile _ _ ten tag => regionOk region && (tile.all tileOk) && tenantOk ten && tagOk tag
  | .rgWrite region tile _ _ _ ten tag => regionOk region && (tile.all tileOk) && tenantOk ten && tagOk tag
  | .rgRdata region tile tag _ _ => regionOk region && (tile.all tileOk) && tagOk tag
  | .rgWack region tile tag _ => regionOk region && (tile.all tileOk) && tagOk tag
  | .mrRead region _ _ _ tag => regionOk region && tagOk tag
  | .ghpTimeout tag => tagOk tag
  | .registerWrite _ _ _ ten tag _ => tenantOk ten && tagOk tag
  | .getStatus => true
  | .readReg _ _ => true
  | .readMirror _ _ => true
  | .readLedger _ _ => true
  | .power _ => true
  | .gstop _ => true
  | .setAmb region _ => regionOk region
  | .wakeWrite => true
  | .setEndpointId _ _ => true
  | .getEndpointId => true
  | .getMctpVersionSupport _ => true
  | .getMessageTypeSupport => true
  | .getVendorDefinedMessageSupport _ => true
  | .gettid => true
  | .getpldmversion _ => true
  | .getpldmtypes => true
  | .getpldmcommands _ => true
  | .getpdrrepositoryinfo => true
  | .getpdr _ => true
  | .getsensorreading _ => true
  | .getstatesensorreadings _ => true
  | .entdaa _ => true
  | .setdasa _ _ => true
  | .setnewda _ _ => true
  | .rstdaa => true
  | .enec _ _ => true
  | .disec _ _ => true
  | .getpid _ => true
  | .getbcr _ => true
  | .getdcr _ => true
  | .getstatus _ => true
  | .getmwl _ => true
  | .getmrl _ => true
  | .setmwl _ _ => true
  | .setmrl _ _ => true
  | .clpMessageDropped clp _ _ => clpOk clp
  | .tokenReject _ _ ten tag => tenantOk ten && tagOk tag
  | .periodicTestDone _ => true
  | .btnStuckClear => true
  | .hrstbRelease _ => true
  | .dbgTrtailWrite _ ten tag => tenantOk ten && tagOk tag
  | .keyStorePartitionAccess => true

end Sys2Proof
end

