-- ==== Sys2Proof/Safety.lean ====
section
/-! DEFINITION. What the claims speak of: which parts of the state a command may change, agreement of two states outside some parts, and the
invariant that every step keeps. -/

namespace Sys2Proof.Machine

open Sys2Proof

/-- A set of parts of the state, by the names of its fields; of the register store, the units whose registers are meant. The queue is no member: no command changes it. -/
structure Fields where
  cfg : Bool := false
  regs : List RegUnit := []
  snaps : Bool := false
  probes : Bool := false
  hubs : Bool := false
  gt : Bool := false
  timeRounds : Bool := false
  master : Bool := false
  lost : Bool := false
  seeds : Bool := false
  hops : Bool := false
  flt : Bool := false
  fl : Bool := false
  rcv : Bool := false
  ldg : Bool := false
  tally : Bool := false
  vault : Bool := false
  tokbuf : Bool := false
  pageBuf : Bool := false
  link : Bool := false
  colo : Bool := false
  sys : Bool := false
  stk : Bool := false
  dbg : Bool := false
  bru : Bool := false
  pwr : Bool := false
  mgt : Bool := false
  ghp : Bool := false
  flue : Bool := false
  net : Bool := false
  pulses : Bool := false
  freeCtr : Bool := false
  deriving DecidableEq, Repr

/-- Every part. -/
def Fields.all : Fields := ⟨true, RegUnit.list, true, true, true, true, true, true, true, true, true, true, true, true, true, true, true, true, true, true, true, true, true, true, true, true, true, true, true, true, true, true⟩

/-- The registers of a unit are among the parts of `F`. -/
def Fields.has (F : Fields) (u : RegUnit) : Bool := F.regs.contains u

/-- The state with the parts in `F` emptied: the register store without the registers of the units in `F.regs`, and each other part as it is by default. Two states agree outside `F` where their blanked states are equal. -/
def State.blank (F : Fields) (s : State) : State :=
  { pending := s.pending, cfg := if F.cfg then {} else s.cfg, regs := s.regs.filter (fun e => !F.has (RegUnit.ofCode (e.1 % 32))),
    snaps := if F.snaps then [] else s.snaps, probes := if F.probes then [] else s.probes, hubs := if F.hubs then [] else s.hubs,
    gt := if F.gt then 0 else s.gt, timeRounds := if F.timeRounds then 0 else s.timeRounds,
    master := if F.master then [] else s.master, lost := if F.lost then [] else s.lost, seeds := if F.seeds then [] else s.seeds,
    hops := if F.hops then [] else s.hops, flt := if F.flt then {} else s.flt, fl := if F.fl then {} else s.fl,
    rcv := if F.rcv then {} else s.rcv, ldg := if F.ldg then {} else s.ldg, tally := if F.tally then {} else s.tally,
    vault := if F.vault then {} else s.vault, tokbuf := if F.tokbuf then [] else s.tokbuf,
    pageBuf := if F.pageBuf then [] else s.pageBuf, link := if F.link then {} else s.link, colo := if F.colo then {} else s.colo,
    sys := if F.sys then [] else s.sys, stk := if F.stk then {} else s.stk, dbg := if F.dbg then {} else s.dbg,
    bru := if F.bru then {} else s.bru, pwr := if F.pwr then {} else s.pwr, mgt := if F.mgt then {} else s.mgt,
    ghp := if F.ghp then [] else s.ghp, flue := if F.flue then [] else s.flue, net := if F.net then {} else s.net, pulses := if F.pulses then [] else s.pulses,
    freeCtr := if F.freeCtr then 0 else s.freeCtr }

/-- `t` agrees with `s` in the queue and in every part outside `F`. -/
abbrev Unchanged (F : Fields) (s t : State) : Prop := t.blank F = s.blank F

/-- The parts of the state that a command may change: the registers and units that the rules of its unit let it reach, with the messages it sends, the
pulses it gives and the free values it draws. Loss of supply and the stop of the clocks reach all of it (R443, R452, R461). -/
def mayChange : Instr → Fields
  | .timeRound =>
    { timeRounds := true, flue := true, net := true }
  | .time _ _ _ _ =>
    { probes := true, hubs := true, flue := true, net := true, freeCtr := true }
  | .flueNak _ _ =>
    { regs := [.bru, .flt, .ccd, .tly, .ldg, .folio, .cat, .clp, .tenant, .hubFlt, .hubTr], probes := true, hubs := true, master := true,
      lost := true, hops := true, flt := true, fl := true, ldg := true, tally := true, vault := true, link := true, colo := true,
      sys := true, bru := true, flue := true, net := true, pulses := true, freeCtr := true }
  | .flueRetrainDone _ _ _ =>
    { regs := [.bru, .flt, .ccd, .tly, .ldg, .folio, .cat, .clp, .tenant, .hubFlt, .hubTr], probes := true, hubs := true, master := true,
      lost := true, hops := true, flt := true, fl := true, ldg := true, tally := true, vault := true, link := true, colo := true,
      sys := true, bru := true, flue := true, pulses := true, freeCtr := true }
  | .flueReservedOpcode _ _ _ _ _ _ _ _ =>
    { regs := [.hubFlt], probes := true, hubs := true, flt := true, flue := true, freeCtr := true }
  | .cmdAccept _ _ _ _ =>
    { regs := [.probe], probes := true, pulses := true }
  | .rotationDrawDone _ _ _ | .releaseTagOut _ _ | .copyUnitArrive _ _ _ _ | .icmdAccept _ _ | .bandheldRetryPulse _ _ =>
    { probes := true, pulses := true }
  | .operandBeat _ _ _ _ _ _ _ _ | .egressBeat _ _ _ _ _ _ _ | .slotDrain _ _ _ =>
    { regs := [.probe], probes := true, flue := true }
  | .tapReadBeat _ _ _ _ _ _ _ | .sramEccEvent _ _ _ _ | .retryTimeout _ _ =>
    { regs := [.probe], probes := true }
  | .gateDecision _ _ _ | .padDeadline _ _ _ =>
    { regs := [.hubIft, .probe], probes := true, hubs := true, flue := true, pulses := true }
  | .meshBlock _ _ _ _ _ _ _ _ _ _ _ _ =>
    { regs := [.probe], probes := true, flue := true, pulses := true }
  | .fenceReq _ _ _ _ =>
    { regs := [.ghp, .probe], probes := true, pulses := true }
  | .faultFlitDepart _ _ =>
    { regs := [.hubFlt, .probe], probes := true, hubs := true }
  | .probeGate _ _ | .moveComplete _ _ | .watchdogTick _ _ =>
    { probes := true, flue := true }
  | .probeWake _ _ | .moveXownTimeout _ _ =>
    { probes := true }
  | .xownAck _ _ _ | .mwSettleDone _ _ | .readerSignatureClose _ _ =>
    { probes := true, flue := true, pulses := true, freeCtr := true }
  | .cshkAck _ _ =>
    { probes := true, flue := true, pulses := true }
  | .cshkTimeout _ _ | .bandInputChange _ _ _ | .segmentClose _ _ | .segmentTimeout _ _ =>
    { regs := [.probe], probes := true, flue := true, pulses := true, freeCtr := true }
  | .stopLeafRise _ _ | .trRec _ _ =>
    { regs := [.ldg, .hubTr], probes := true, hubs := true, ldg := true, flue := true, pulses := true }
  | .stopLeafFall _ _ =>
    { regs := [.ldg, .hubTr], probes := true, hubs := true, ldg := true, flue := true, pulses := true, freeCtr := true }
  | .rdReq _ _ _ _ _ _ _ _ _ _ _ | .iftQuotaTimeout _ _ | .gapStepDue _ _ | .epCut _ _ _ _ =>
    { regs := [.hubRd], hubs := true, flue := true }
  | .rdCopy _ _ _ _ _ _ | .catHold _ _ _ _ | .catCtx _ _ _ _ _ _ _ | .wdCheck _ _ _ | .dgCut _ _ _ _ _ | .bhRerun _ _ _ =>
    { regs := [.hubCat], probes := true, flue := true }
  | .rdOrder _ _ _ _ _ _ _ _ _ _ _ | .iftStop _ _ _ _ =>
    { regs := [.hubCat], probes := true, flue := true, pulses := true }
  | .rdReport _ _ _ _ _ _ =>
    { regs := [.ldg, .hubRd, .hubFl, .hubFlt, .hubTr], hubs := true, ldg := true, bru := true, flue := true, pulses := true }
  | .rdAgree _ _ _ _ _ =>
    { regs := [.hubRd, .hubIft, .hubCat, .probe], probes := true, hubs := true, flue := true, pulses := true }
  | .rdDiscard _ _ _ _ _ _ =>
    { regs := [.hubIft, .hubCat, .probe], probes := true, hubs := true, flue := true, pulses := true }
  | .rdAbort _ _ _ | .iftPat _ _ _ _ _ _ _ _ _ _ _ _ =>
    { regs := [.hubCat], probes := true, flue := true, pulses := true, freeCtr := true }
  | .rdData _ _ _ _ _ _ =>
    { regs := [.hubCat], probes := true, hubs := true, flue := true, pulses := true }
  | .readingSettleTimeout _ _ =>
    { regs := [.ldg, .hubRd, .hubFl, .hubTr], hubs := true, ldg := true, flue := true, pulses := true }
  | .iftStart _ _ _ _ =>
    { regs := [.hubCat, .probe], probes := true, flue := true, pulses := true, freeCtr := true }
  | .iftGet _ _ _ | .flSyncack _ _ _ | .fltAckhub _ _ =>
    { flue := true }
  | .iftResult _ _ _ _ _ _ _ _ _ =>
    { regs := [.ldg, .hubRd, .hubIft, .hubFl, .hubFlt, .hubTr], hubs := true, ldg := true, bru := true, flue := true, pulses := true }
  | .mwResult _ _ _ _ _ _ _ =>
    { regs := [.ldg, .hubRd, .hubIft, .hubFl, .hubFlt, .hubTr], hubs := true, ldg := true, flue := true, pulses := true, freeCtr := true }
  | .iftStopped _ _ | .catIdle _ _ | .chData _ _ _ _ | .trCut _ =>
    { regs := [.ldg, .hubTr], hubs := true, ldg := true, flue := true, pulses := true }
  | .expReport _ _ _ _ _ _ _ _ _ _ _ =>
    { regs := [.flt, .clp], flt := true, vault := true, link := true, colo := true, sys := true, flue := true, pulses := true,
      freeCtr := true }
  | .iftOverdue _ _ _ =>
    { regs := [.hubIft, .hubFlt], hubs := true }
  | .catReqAssign _ _ _ _ _ _ | .catReqUnassign _ _ _ _ _ _ | .catReqRestore _ _ _ _ | .catReqQuench _ _ _ _
  | .ccdXreqXrole _ _ _ _ _ _ _ | .ccdXreqXspare _ _ _ _ _ _ =>
    { regs := [.ghp, .bru, .flt, .ccd, .folio, .cat, .clp, .tenant], hubs := true, flt := true, fl := true, tally := true, link := true,
      colo := true, bru := true, flue := true, pulses := true, freeCtr := true }
  | .catIdleTimeout _ _ =>
    { regs := [.ldg, .hubCat, .hubFl, .hubTr], hubs := true, ldg := true, flue := true, pulses := true }
  | .catRole _ _ _ _ _ _ _ _ _ _ _ _ _ =>
    { regs := [.hubCat, .probe], probes := true, flue := true, pulses := true }
  | .catMoved _ _ _ _ _ _ _ =>
    { regs := [.ldg, .hubCat, .hubFlt, .hubTr], hubs := true, master := true, ldg := true, flue := true, pulses := true }
  | .catReport _ _ _ _ _ _ _ _ | .l2QueueTimeout _ =>
    { regs := [.bru, .flt, .rcv, .ldg, .tenant], flt := true, rcv := true, ldg := true, vault := true, colo := true, sys := true,
      bru := true, pwr := true, flue := true, pulses := true, freeCtr := true }
  | .catBounce _ _ _ _ _ _ =>
    { regs := [.ldg, .hubRd, .hubCat, .hubFl, .hubFlt, .hubTr], hubs := true, ldg := true, bru := true, flue := true, pulses := true }
  | .flPropose _ _ _ _ _ _ | .flDone _ _ _ _ _ _ | .collisionBackoff =>
    { regs := [.bru, .flt, .ccd, .folio, .cat, .clp, .tenant], hubs := true, flt := true, fl := true, tally := true, link := true,
      colo := true, bru := true, flue := true, pulses := true, freeCtr := true }
  | .flAccept _ _ _ _ | .proposeRetry _ _ | .rcvOrder _ _ _ _ _ | .rcvGrant _ _ _ | .dgReport _ _ _ _ _ _ _ _ _ _ _
  | .dgCover _ _ _ _ _ | .ledgerRefill _ | .trFree _ _ =>
    { hubs := true, flue := true }
  | .folioPrepare _ =>
    { regs := [.bru, .flt, .ccd, .tly, .folio, .cat, .clp, .tenant], hubs := true, master := true, seeds := true, flt := true,
      fl := true, tally := true, vault := true, link := true, colo := true, bru := true, flue := true, pulses := true, freeCtr := true }
  | .flPrep _ _ _ _ _ _ _ _ _ | .folioApply _ _ =>
    { regs := RegUnit.list, cfg := true, probes := true, hubs := true, master := true, seeds := true, flt := true, fl := true,
      rcv := true, ldg := true, tally := true, vault := true, link := true, colo := true, sys := true, stk := true, dbg := true,
      bru := true, flue := true, pulses := true, freeCtr := true }
  | .flVote _ _ _ _ =>
    { regs := [.bru, .flt, .ccd, .tly, .folio, .cat, .clp, .tenant], hubs := true, master := true, flt := true, fl := true,
      tally := true, link := true, colo := true, bru := true, flue := true, pulses := true, freeCtr := true }
  | .folioPrepareTimeout _ | .heartbeat _ _ _ | .tlReport _ _ _ _ _ _ _ =>
    { regs := [.bru, .flt, .ccd, .tly, .folio, .cat, .clp, .tenant], hubs := true, flt := true, fl := true, tally := true, vault := true,
      link := true, colo := true, sys := true, bru := true, flue := true, pulses := true, freeCtr := true }
  | .flSeal _ _ _ _ =>
    { regs := [.ldg, .hubFl, .hubTr], hubs := true, fl := true, ldg := true, flue := true, pulses := true }
  | .flVoid _ _ _ =>
    { regs := [.stk, .channel, .ldg, .hubCat, .hubFl, .hubTr], hubs := true, fl := true, ldg := true, stk := true, flue := true,
      pulses := true }
  | .folioDoneTimeout _ =>
    { regs := [.bru, .flt, .ccd, .folio, .cat, .clp, .tenant], hubs := true, master := true, flt := true, fl := true, tally := true,
      link := true, colo := true, bru := true, flue := true, pulses := true, freeCtr := true }
  | .flSync _ _ =>
    { regs := [.flt, .tly, .folio, .tenant, .hubFl], hubs := true, master := true, lost := true, flt := true, fl := true, tally := true,
      colo := true, flue := true, freeCtr := true }
  | .flTdrop _ _ _ _ _ | .wdDrop _ _ _ _ _ _ =>
    { regs := [.ldg, .hubRd, .hubIft, .hubCat, .hubTr, .probe], probes := true, hubs := true, ldg := true, flue := true, pulses := true }
  | .folioTreq _ _ _ | .colophonRequest _ _ _ | .statementRequest _ _ _ _ =>
    { regs := [.ghp, .bru, .flt, .ccd, .tly, .folio, .cat, .clp, .tenant], hubs := true, flt := true, fl := true, tally := true,
      link := true, colo := true, bru := true, flue := true, pulses := true, freeCtr := true }
  | .rfiMessage _ _ _ | .boundaryRepeat _ _ =>
    { regs := [.hubFlt], hubs := true }
  | .faultClassify _ =>
    { regs := [.ldg, .hubFl, .hubFlt, .hubLg, .hubTr], hubs := true, flt := true, ldg := true, bru := true, flue := true, pulses := true }
  | .bucketLeak _ _ _ =>
    { hubs := true, flt := true }
  | .faultRegister =>
    { regs := [.bru, .flt, .rcv, .ccd, .vlt, .tly, .ldg, .dbg, .folio, .cat, .clp, .tenant], hubs := true, flt := true, fl := true,
      rcv := true, ldg := true, tally := true, vault := true, link := true, colo := true, sys := true, dbg := true, bru := true,
      pwr := true, flue := true, pulses := true, freeCtr := true }
  | .fltCount _ _ _ _ _ _ =>
    { regs := [.ldg, .hubFl, .hubFlt, .hubTr], hubs := true, flt := true, ldg := true, bru := true, flue := true, pulses := true }
  | .fltPhase _ _ | .tlCommit _ _ _ _ _ _ =>
    { hubs := true }
  | .fltPhaseWrite _ _ _ =>
    { regs := [.ghp, .flt], flt := true, flue := true, pulses := true }
  | .fltFence _ _ _ _ =>
    { regs := [.hubIft, .hubCat, .probe], probes := true, hubs := true, pwr := true, flue := true, pulses := true }
  | .fltAck _ _ _ | .fltNtailWrite _ _ _ =>
    { regs := [.ghp, .bru, .flt, .rcv, .ldg, .tenant], flt := true, rcv := true, ldg := true, vault := true, colo := true, sys := true,
      bru := true, pwr := true, flue := true, pulses := true, freeCtr := true }
  | .l3HoldExpiry =>
    { regs := [.ldg], ldg := true, pwr := true, pulses := true }
  | .wdStat _ _ _ _ _ _ _ =>
    { regs := [.bru, .flt, .rcv, .ldg, .tenant, .hubFlt, .hubWd], hubs := true, flt := true, rcv := true, ldg := true, vault := true,
      colo := true, sys := true, bru := true, pwr := true, flue := true, pulses := true, freeCtr := true }
  | .watchdogEvaluate _ =>
    { regs := [.hubFlt, .hubWd], hubs := true, flue := true }
  | .wdSet _ _ _ =>
    { rcv := true, flue := true }
  | .caseCollectTimeout | .rcvDoneTimeout _ =>
    { regs := [.flt, .rcv, .vlt, .ldg, .tenant], flt := true, rcv := true, ldg := true, tally := true, vault := true, colo := true,
      sys := true, pwr := true, flue := true, pulses := true, freeCtr := true }
  | .resetInstant _ =>
    { regs := [.stk, .channel, .ldg, .hubRd, .hubIft, .hubTr, .probe], probes := true, hubs := true, rcv := true, ldg := true,
      sys := true, stk := true, flue := true, pulses := true, freeCtr := true }
  | .resetHoldEnd _ =>
    { regs := [.hubFlt, .hubWd], hubs := true, rcv := true, flue := true }
  | .rcvDone _ _ _ _ =>
    { regs := [.bru, .flt, .rcv, .vlt, .ldg, .tenant], flt := true, rcv := true, ldg := true, tally := true, vault := true, colo := true,
      sys := true, bru := true, pwr := true, flue := true, pulses := true, freeCtr := true }
  | .replayTimeout =>
    { regs := [.flt, .rcv], flt := true, rcv := true, flue := true }
  | .helloTick _ | .heartbeatTick _ | .tpairTick _ | .disputeResend _ | .linkUpChange _ _ _ =>
    { regs := [.clp], link := true, pulses := true }
  | .hello _ _ _ _ _ =>
    { regs := [.bru, .flt, .ccd, .tly, .ldg, .folio, .cat, .clp, .tenant], hubs := true, flt := true, fl := true, ldg := true,
      tally := true, vault := true, link := true, colo := true, sys := true, bru := true, flue := true, pulses := true, freeCtr := true }
  | .retransmitTimeout _ | .sealMsg _ _ _ _ _ _ | .recallMsg _ _ _ _ _ _ _ _ _ | .role _ _ _ _ _ _ | .fprep _ _ _ _ _ _ _
  | .fvoid _ _ _ _ | .dispute _ _ _ _ _ _ _ =>
    { regs := [.bru, .flt, .ccd, .folio, .cat, .clp, .tenant], hubs := true, flt := true, fl := true, tally := true, vault := true,
      link := true, colo := true, sys := true, bru := true, flue := true, pulses := true, freeCtr := true }
  | .fvote _ _ _ _ _ _ | .fseal _ _ _ _ _ =>
    { regs := [.bru, .flt, .ccd, .folio, .cat, .clp, .tenant], hubs := true, master := true, flt := true, fl := true, tally := true,
      vault := true, link := true, colo := true, sys := true, bru := true, flue := true, pulses := true, freeCtr := true }
  | .tpair _ _ _ _ _ _ _ _ _ =>
    { regs := [.bru, .flt, .ccd, .folio, .cat, .clp, .tenant], hubs := true, flt := true, fl := true, tally := true, vault := true,
      link := true, colo := true, sys := true, dbg := true, bru := true, flue := true, pulses := true, freeCtr := true }
  | .tpairTimeout _ | .thetaExpiry _ | .indoubtTimeout _ _ =>
    { link := true }
  | .peerLoss _ | .sweepPeriod | .sweepTimeout =>
    { regs := [.bru, .flt, .ccd, .tly, .folio, .cat, .clp, .tenant], hubs := true, flt := true, fl := true, tally := true, link := true,
      colo := true, bru := true, flue := true, pulses := true, freeCtr := true }
  | .epochTimeout _ _ _ =>
    { regs := [.ldg, .clp], ldg := true, link := true }
  | .ccdRestart _ _ _ =>
    { regs := [.ghp], link := true, pulses := true }
  | .epochSeal _ _ _ _ | .epochDiscard _ _ _ _ =>
    { regs := [.ghp, .tenant], vault := true, colo := true, sys := true, flue := true, pulses := true, freeCtr := true }
  | .epochRewind _ _ _ _ _ =>
    { regs := [.ghp, .flt, .clp, .tenant], flt := true, vault := true, link := true, colo := true, sys := true, pulses := true,
      freeCtr := true }
  | .epochRestart _ _ _ _ =>
    { regs := [.ghp, .tenant], vault := true, link := true, colo := true, sys := true, pulses := true, freeCtr := true }
  | .epPart _ _ _ _ _ =>
    { regs := [.tenant], vault := true, colo := true, sys := true, flue := true, freeCtr := true }
  | .epochHashDone _ =>
    { regs := [.flt, .rcv, .clp, .tenant], hubs := true, master := true, flt := true, rcv := true, vault := true, link := true,
      colo := true, sys := true, flue := true, pulses := true, freeCtr := true }
  | .epPartTimeout _ | .recordRingTimeout _ =>
    { regs := [.clp, .tenant], vault := true, link := true, colo := true, sys := true, flue := true, pulses := true, freeCtr := true }
  | .tenRecTailWrite _ _ _ _ =>
    { regs := [.ghp, .flt, .rcv, .clp, .tenant], hubs := true, master := true, flt := true, rcv := true, vault := true, link := true,
      colo := true, sys := true, flue := true, pulses := true, freeCtr := true }
  | .senseConversion _ | .enModel _ _ _ _ | .enModelTimeout _ =>
    { regs := [.bru, .flt, .ccd, .sns, .tly, .folio, .cat, .clp, .tenant], hubs := true, flt := true, fl := true, tally := true,
      vault := true, link := true, colo := true, sys := true, bru := true, flue := true, pulses := true, freeCtr := true }
  | .intervalEnd _ =>
    { probes := true, hubs := true, flue := true, freeCtr := true }
  | .enAct _ _ _ _ _ _ =>
    { hubs := true, flue := true, freeCtr := true }
  | .enAnchor _ _ _ _ =>
    { regs := [.tly, .hubEn], hubs := true, tally := true, flue := true }
  | .enMark _ _ _ _ =>
    { regs := [.hubCat], probes := true, hubs := true, flue := true, freeCtr := true }
  | .supplyReading _ _ =>
    { regs := [.hubFlt, .hubEn, .hubPw], hubs := true, pwr := true, flue := true }
  | .pwNb _ _ _ | .thNb _ _ _ =>
    { regs := [.hubFlt, .hubPw], hubs := true, flue := true }
  | .thermalStep _ _ =>
    { regs := [.hubFlt, .hubEn, .hubPw, .probe], probes := true, hubs := true, flue := true, pulses := true, freeCtr := true }
  | .batchTimeout | .signRoot =>
    { regs := [.tly], tally := true, vault := true }
  | .batchClose _ _ =>
    { regs := [.ghp, .tly], tally := true, vault := true, pulses := true }
  | .tlyRtailWrite _ _ _ =>
    { regs := [.ghp, .tly], tally := true, vault := true, sys := true, pulses := true }
  | .vaultSelftestDone _ _ _ _ _ =>
    { regs := [.bru, .flt, .ccd, .vlt, .stk, .channel, .tly, .ldg, .dbg, .folio, .cat, .clp, .tenant], hubs := true, flt := true,
      fl := true, ldg := true, tally := true, vault := true, link := true, colo := true, sys := true, stk := true, dbg := true,
      bru := true, pwr := true, flue := true, pulses := true, freeCtr := true }
  | .periodicTestDue | .drbgReseed | .random _ | .deriveRotkey _ _ | .hmacRecord _ _ | .verifyCharter | .tenantKeygen _
  | .tenantKeydrop _ | .signColophon _ | .nonceLifetimeEnd _ =>
    { vault := true }
  | .stnow _ _ =>
    { regs := [.ghp, .vlt], vault := true, pulses := true }
  | .entropySample _ | .glitchDetect | .scanModeEnable | .keyStorePartitionAccess =>
    { regs := [.bru, .vlt, .ldg, .tenant], flt := true, ldg := true, tally := true, vault := true, colo := true, bru := true,
      pwr := true, pulses := true }
  | .entropyRawEnd =>
    { regs := [.vlt], vault := true }
  | .hmacLedger | .foldTimeout =>
    { regs := [.ldg], ldg := true, vault := true, pulses := true, freeCtr := true }
  | .vaultServiceDone _ =>
    { regs := [.bru, .vlt, .tly, .ldg, .tenant], flt := true, ldg := true, tally := true, vault := true, colo := true, sys := true,
      bru := true, pwr := true, pulses := true, freeCtr := true }
  | .nonceRequest _ _ _ =>
    { regs := [.ghp, .vlt], vault := true, pulses := true, freeCtr := true }
  | .ledgerClear _ _ | .zeroise _ _ | .provision _ _ | .rekeyTally _ _ | .revokeOfficer _ _ | .debugUnlock _ _ | .entropyRaw _ _
  | .tokenReject _ _ _ _ =>
    { regs := [.ghp, .vlt, .tly, .ldg, .dbg, .tenant], flt := true, ldg := true, tally := true, vault := true, colo := true, dbg := true,
      pulses := true, freeCtr := true }
  | .stkGo _ _ _ _ =>
    { regs := [.ghp, .stk, .channel], stk := true, pulses := true }
  | .stkAbort _ _ _ _ | .stkDisable _ _ =>
    { regs := [.ghp, .stk, .channel], sys := true, stk := true, pulses := true, freeCtr := true }
  | .descriptorArrive _ _ | .skData _ _ _ _ =>
    { regs := [.stk, .channel, .tly, .dbg, .tenant], tally := true, sys := true, stk := true, dbg := true, flue := true, pulses := true }
  | .burstGrant =>
    { sys := true, stk := true, flue := true, pulses := true }
  | .smpReadBeat _ _ _ _ =>
    { regs := [.stk, .channel, .tly, .dbg, .tenant], flt := true, tally := true, sys := true, stk := true, dbg := true, flue := true,
      pulses := true }
  | .smpWriteBeat =>
    { regs := [.channel], stk := true, pulses := true }
  | .smpRqCred =>
    { stk := true, pulses := true }
  | .smpWdCred =>
    { stk := true }
  | .smpWriteError _ | .smpReadTimeout _ | .skReadTimeout _ =>
    { regs := [.stk], flt := true, stk := true, pulses := true }
  | .stkEnable _ _ | .stkClrhalt _ _ =>
    { regs := [.ghp, .stk], sys := true, stk := true, pulses := true }
  | .skRead _ _ _ _ _ =>
    { snaps := true, flue := true, freeCtr := true }
  | .lgSupp _ _ _ _ _ =>
    { regs := [.ldg], ldg := true, flue := true }
  | .flashProgramDone _ | .flashEraseDone _ =>
    { regs := [.ldg], flt := true, ldg := true, vault := true, pulses := true, freeCtr := true }
  | .ledgerFlush _ _ =>
    { regs := [.ghp, .ldg], ldg := true, vault := true, pulses := true, freeCtr := true }
  | .ledgerReadPage _ _ _ _ | .ledgerAppend _ _ _ =>
    { regs := [.ghp, .ldg], ldg := true, pulses := true }
  | .ledgerReadDone _ =>
    { regs := [.ldg], ldg := true, vault := true, pageBuf := true, freeCtr := true }
  | .ledgerRecovery _ _ =>
    { regs := [.bru, .flt, .ldg, .probe], probes := true, flt := true, ldg := true, vault := true, link := true, bru := true,
      pwr := true, flue := true, pulses := true, freeCtr := true }
  | .fuseWord _ _ _ | .pstSum _ _ _ | .trayAck =>
    { regs := [.bru, .flt, .ccd, .stk, .channel, .ldg, .folio, .cat, .clp, .tenant], hubs := true, flt := true, fl := true, ldg := true,
      tally := true, link := true, colo := true, sys := true, stk := true, bru := true, pwr := true, flue := true, pulses := true,
      freeCtr := true }
  | .flueTrainingDone _ _ _ _ _ _ _ =>
    { regs := [.bru, .flt, .ccd, .stk, .channel, .ldg, .folio, .cat, .clp, .tenant], cfg := true, hubs := true, hops := true,
      flt := true, fl := true, ldg := true, tally := true, link := true, colo := true, sys := true, stk := true, bru := true,
      pwr := true, flue := true, pulses := true, freeCtr := true }
  | .pstResult _ _ _ =>
    { bru := true, flue := true }
  | .pstTimeout _ _ =>
    { bru := true, flue := true, freeCtr := true }
  | .charterGo _ _ | .linkRequalify _ _ _ =>
    { regs := [.ghp, .bru], bru := true, pulses := true }
  | .charterGoTimeout =>
    { regs := [.bru, .ldg], ldg := true, bru := true, pwr := true, pulses := true }
  | .charterVerifyDone _ _ _ =>
    { regs := RegUnit.list, cfg := true, hubs := true, master := true, flt := true, fl := true, ldg := true, tally := true, link := true,
      colo := true, sys := true, stk := true, bru := true, pwr := true, flue := true, pulses := true, freeCtr := true }
  | .chAck _ _ _ =>
    { regs := [.bru, .flt, .ccd, .stk, .channel, .ldg, .folio, .cat, .clp, .tenant, .probe], probes := true, hubs := true, flt := true,
      fl := true, ldg := true, tally := true, link := true, colo := true, sys := true, stk := true, bru := true, pwr := true,
      flue := true, pulses := true, freeCtr := true }
  | .clpQualDone _ _ _ =>
    { regs := [.bru, .flt, .ldg, .probe], probes := true, flt := true, ldg := true, link := true, bru := true, pwr := true, flue := true,
      pulses := true }
  | .amendGo _ _ _ _ =>
    { regs := [.ghp, .bru, .flt, .ccd, .stk, .ldg, .folio, .cat, .clp, .tenant], hubs := true, flt := true, fl := true, ldg := true,
      tally := true, link := true, colo := true, stk := true, bru := true, flue := true, pulses := true, freeCtr := true }
  | .vaonLost _ | .vddLost _ | .holdoverEnter _ | .porbAssert _ | .stopDone =>
    { regs := RegUnit.list, cfg := true, snaps := true, probes := true, hubs := true, gt := true, timeRounds := true, master := true,
      lost := true, seeds := true, hops := true, flt := true, fl := true, rcv := true, ldg := true, tally := true, vault := true,
      tokbuf := true, pageBuf := true, link := true, colo := true, sys := true, stk := true, dbg := true, bru := true, pwr := true,
      mgt := true, ghp := true, flue := true, net := true, pulses := true, freeCtr := true }
  | .lossFlushDone =>
    { regs := [.pwr], ldg := true, pwr := true }
  | .vaonReturn | .hrstbRelease _ =>
    { regs := [.ldg], ldg := true, pwr := true }
  | .vbkLost =>
    { regs := RegUnit.list, ldg := true, tally := true, vault := true, pwr := true, mgt := true }
  | .coldStart | .holdoverExit | .btnStuck =>
    { regs := [.pwr, .ldg], ldg := true, pwr := true }
  | .vddGood | .btnStuckClear =>
    { pwr := true }
  | .porbRelease | .pwrOn _ _ | .power _ | .wakeWrite =>
    { regs := RegUnit.list, cfg := true, probes := true, hubs := true, master := true, flt := true, fl := true, ldg := true,
      tally := true, link := true, colo := true, sys := true, stk := true, bru := true, pwr := true, flue := true, pulses := true,
      freeCtr := true }
  | .puIsoDone =>
    { regs := [.bru, .ldg], ldg := true, vault := true, bru := true, pwr := true, pulses := true }
  | .quiesceDone =>
    { regs := [.bru, .flt, .ccd, .tly, .ldg, .folio, .cat, .clp, .tenant], hubs := true, flt := true, fl := true, ldg := true,
      tally := true, vault := true, link := true, colo := true, bru := true, pwr := true, flue := true, pulses := true, freeCtr := true }
  | .flushCommit _ =>
    { regs := [.pwr, .ldg], ldg := true, pwr := true, pulses := true }
  | .pwrOff _ _ =>
    { regs := [.ghp, .bru, .flt, .ccd, .stk, .channel, .ldg, .folio, .cat, .clp, .tenant], hubs := true, flt := true, fl := true,
      ldg := true, tally := true, link := true, colo := true, sys := true, stk := true, bru := true, pwr := true, flue := true,
      pulses := true, freeCtr := true }
  | .pwrPcreq _ _ =>
    { regs := [.ghp, .ldg], ldg := true, pwr := true, pulses := true }
  | .voltageTarget _ _ _ _ =>
    { regs := [.ghp, .hubPw], hubs := true, pwr := true, pulses := true }
  | .hrstb =>
    { regs := [.stk, .channel, .ldg, .tenant, .hubRd, .hubIft, .hubTr, .probe], probes := true, hubs := true, ldg := true, vault := true,
      colo := true, sys := true, stk := true, pwr := true, flue := true, pulses := true, freeCtr := true }
  | .btnRelease _ =>
    { regs := RegUnit.list, cfg := true, probes := true, hubs := true, master := true, flt := true, fl := true, rcv := true, ldg := true,
      tally := true, vault := true, link := true, colo := true, sys := true, stk := true, bru := true, pwr := true, flue := true,
      pulses := true, freeCtr := true }
  | .gstopWrite _ _ =>
    { regs := [.ghp, .ldg, .dbg], ldg := true, dbg := true, pulses := true }
  | .gstopRelease _ _ =>
    { regs := [.ghp, .bru, .flt, .ccd, .ldg, .dbg, .folio, .cat, .clp, .tenant], hubs := true, master := true, flt := true, fl := true,
      ldg := true, tally := true, link := true, colo := true, dbg := true, bru := true, flue := true, pulses := true, freeCtr := true }
  | .stopInChange _ | .gstop _ =>
    { regs := [.bru, .flt, .ccd, .ldg, .dbg, .folio, .cat, .clp, .tenant], hubs := true, master := true, flt := true, fl := true,
      ldg := true, tally := true, link := true, colo := true, dbg := true, bru := true, flue := true, pulses := true, freeCtr := true }
  | .gstopSettle =>
    { regs := [.dbg] }
  | .traceMark _ =>
    { regs := [.ldg, .hubTr], hubs := true, ldg := true, dbg := true, flue := true, pulses := true }
  | .trLevel _ _ =>
    { dbg := true, flue := true }
  | .trRun _ _ _ =>
    { regs := [.dbg], sys := true, dbg := true, flue := true }
  | .traceDrain _ _ =>
    { regs := [.ghp], dbg := true, flue := true, pulses := true }
  | .traceEnable _ _ _ | .dbgTrtailWrite _ _ _ =>
    { regs := [.ghp, .dbg], sys := true, dbg := true, flue := true, pulses := true }
  | .unlockExpiry =>
    { regs := [.ldg, .dbg], ldg := true, dbg := true }
  | .rgRead _ _ _ _ _ _ =>
    { regs := [.ghp], snaps := true, ghp := true, flue := true, pulses := true, freeCtr := true }
  | .rgWrite _ _ _ _ _ _ _ =>
    { regs := RegUnit.list, cfg := true, probes := true, hubs := true, master := true, flt := true, fl := true, rcv := true, ldg := true,
      tally := true, vault := true, tokbuf := true, link := true, colo := true, sys := true, stk := true, dbg := true, bru := true,
      pwr := true, flue := true, pulses := true, freeCtr := true }
  | .rgRdata _ _ _ _ _ | .rgWack _ _ _ _ =>
    { regs := [.ghp], ghp := true, flue := true, pulses := true }
  | .mrRead _ _ _ _ _ =>
    { regs := [.ghp], snaps := true, ghp := true, flue := true, freeCtr := true }
  | .ghpTimeout _ =>
    { regs := [.ghp], ghp := true, pulses := true }
  | .registerWrite _ _ _ _ _ _ =>
    { regs := RegUnit.list, cfg := true, probes := true, hubs := true, master := true, flt := true, fl := true, rcv := true, ldg := true,
      tally := true, vault := true, tokbuf := true, link := true, colo := true, sys := true, stk := true, dbg := true, bru := true,
      pwr := true, ghp := true, flue := true, pulses := true, freeCtr := true }
  | .getStatus | .getEndpointId | .getMessageTypeSupport | .getpldmtypes | .getpldmcommands _ | .getstatesensorreadings _ =>
    { pulses := true }
  | .readReg _ _ | .readMirror _ _ =>
    { snaps := true, pulses := true, freeCtr := true }
  | .readLedger _ _ | .getMctpVersionSupport _ | .getVendorDefinedMessageSupport _ | .gettid | .getpldmversion _
  | .getpdrrepositoryinfo | .getpdr _ | .getsensorreading _ =>
    { pulses := true, freeCtr := true }
  | .setAmb _ _ =>
    { regs := [.hubEn], pulses := true, freeCtr := true }
  | .setEndpointId _ _ | .entdaa _ | .setdasa _ _ | .setnewda _ _ | .rstdaa | .enec _ _ | .disec _ _ | .getpid _ | .getbcr _
  | .getdcr _ | .getmwl _ | .getmrl _ | .setmwl _ _ | .setmrl _ _ =>
    { mgt := true, pulses := true }
  | .getstatus _ =>
    { mgt := true, pulses := true, freeCtr := true }
  | .clpMessageDropped _ _ _ =>
    { regs := [.clp], flt := true }
  | .periodicTestDone _ =>
    { regs := [.bru, .vlt, .tly, .ldg, .dbg, .tenant], flt := true, ldg := true, tally := true, vault := true, colo := true, dbg := true,
      bru := true, pwr := true, pulses := true, freeCtr := true }

/-- A command at the front of the queue that its unit carries out. -/
def Completes (c : Instr) (s : State) : Prop := ∃ t, exec c s = .next t

/-- A host request is accepted: the VDD side runs, fewer than 64 requests are outstanding and none of them holds its tag (R488). -/
def State.takes (s : State) (tag : Nat) : Bool :=
  s.pwr.running && decide (s.ghp.length < 64) && !(s.ghp.any (fun q => q.tag == wrap 6 tag))

/-- The rows that are host writes of the GHP, apart from REGISTER_WRITE: the requester's tenant and the tag (R487). -/
def hostWriteOf : Instr → Option (Nat × Nat)
  | .fenceReq _ _ ten tag | .catReqAssign _ _ _ _ ten tag | .catReqUnassign _ _ _ _ ten tag | .catReqRestore _ _ ten tag
  | .catReqQuench _ _ ten tag | .folioTreq _ ten tag | .fltPhaseWrite _ ten tag | .fltAck _ ten tag | .fltNtailWrite _ ten tag
  | .ccdRestart _ ten tag | .ccdXreqXrole _ _ _ _ _ ten tag | .ccdXreqXspare _ _ _ _ ten tag | .epochSeal _ _ ten tag
  | .epochDiscard _ _ ten tag | .epochRewind _ _ _ ten tag | .epochRestart _ _ ten tag | .tenRecTailWrite _ _ ten tag
  | .colophonRequest _ ten tag | .statementRequest _ _ ten tag | .batchClose ten tag | .tlyRtailWrite _ ten tag | .stnow ten tag
  | .nonceRequest _ ten tag | .ledgerClear ten tag | .zeroise ten tag | .provision ten tag | .rekeyTally ten tag
  | .revokeOfficer ten tag | .debugUnlock ten tag | .entropyRaw ten tag | .stkGo _ _ ten tag | .stkAbort _ _ ten tag
  | .stkDisable ten tag | .stkEnable ten tag | .stkClrhalt ten tag | .ledgerFlush ten tag | .ledgerReadPage _ _ ten tag
  | .ledgerAppend _ ten tag | .charterGo ten tag | .amendGo _ _ ten tag | .linkRequalify _ ten tag | .pwrOff ten tag
  | .pwrOn ten tag | .pwrPcreq ten tag | .voltageTarget _ _ ten tag | .gstopWrite ten tag | .gstopRelease ten tag
  | .traceDrain ten tag | .traceEnable _ ten tag | .tokenReject _ _ ten tag | .dbgTrtailWrite _ ten tag => some (ten, tag)
  | _ => none

/-- A host write is accepted and allowed: its tag is tenant 0's or the owner's, and the Kiln is neither REFUSED nor SEALED (R428, R488, R490). -/
def State.admits (s : State) (ten tag : Nat) (owner : Option Nat) : Bool :=
  s.takes tag && (wrap 12 ten == 0 || owner == some (wrap 12 ten)) && s.bru.state != .refused && !s.isSealed

/-- A message with an accession number reaches its probe at once: the number is the probe's, and no move that holds the port keeps it back (R161). -/
def State.reaches (s : State) (region tile acc : Nat) : Bool :=
  wrap 20 ((s.probe region tile).accession + 2 ^ 20 - wrap 20 acc) == 0 && !((s.probe region tile).move.isSome && (s.probe region tile).xown)

/-- An UP port of a chip that is not sealed hears a message of its session (R251, R252, R279). -/
def State.linkSession (s : State) (clp : Nat) (h : ClpHdr) : Bool := !s.isSealed && (s.port clp).st == .up && (s.port clp).session h

/-- An unsequenced message of the session is taken: its buffer has an entry free (R258). -/
def State.linkHears (s : State) (clp : Nat) (h : ClpHdr) : Bool := s.linkSession clp h && decide ((s.port clp).unseq < 2)

/-- A sequenced message is the next one of its port, a buffer of its class is free, and the port itself owes the peer nothing (R254–R256). -/
def State.linkInTurn (s : State) (clp : Nat) (h : ClpHdr) (answer : Bool) : Bool :=
  s.linkSession clp h && wrap 16 (h.seq + 65536 - (s.port clp).rxNext) == 0 && s.bufferFree clp answer && (s.port clp).unacked.isEmpty
    && (s.port clp).queue.isEmpty

/-- The offers that a port may grant: their message holds the channel or finds it free, and the far end has a buffer (R23, R24). -/
def HopPort.eligible (p : HopPort) (offers : List Offer) : List Offer := offers.filter (fun x => p.admits x && p.hasCredit x.flit.vc)

/-- The grants of a port over rounds, each with what the far end holds and what waits: the channels that it could have granted, and the one that it did. -/
def HopPort.run (p : HopPort) : List (List HopFlit × List Offer) → List (List Vc × Vc)
  | [] => []
  | (held, offers) :: rest =>
    let p := { p with buffers := held }
    match p.pick offers with
    | some x => ((p.eligible offers).map (fun y => y.flit.vc), x.flit.vc) :: (p.granted x (offers.map (fun y => y.flit.vc))).run rest
    | none => p.run rest

/-- The Vault takes a request: it serves, and its queue has a place (R345, R365). -/
def State.asksVault (s : State) : Bool := s.vaultServes && decide (s.vault.queue.length < 32) && s.vault.outside.isEmpty

/-- The token in the buffer is one that a service accepts, its signatures apart: every other check of R358 passes, and no token is in hand. -/
def State.tokenFits (s : State) (service : Nat) : Bool :=
  let t := tokenIn s.tokbuf
  s.on Reg.VLT_TOKST_BUSY 0 == false && t.service == service && tokenService service && t.format == 0x0304 && t.reservedOk
    && t.devid == s.get Reg.VLT_DEVID_DEVID 0 && s.officers.any (fun o => o.keyid == t.keyid)
    && ((s.vault.slotOf t.nonce service).map (fun e => !e.2.ended)).getD false && serviceIn service s.vault.st && s.paramOk service t.param

/-- A record that enters the Ledger now takes a place of its own in the write buffer (R396, R397). -/
def State.ledgerOpen (s : State) : Bool :=
  !s.ldg.foldOpen && s.ldg.lost0 == 0 && s.ldg.lost1 == 0 && s.ldg.stage.isEmpty && decide (s.ldg.buf.length < 64)

/-- Every waiting command names parts that the spec gives numbers to. -/
def State.queueOk (s : State) : Bool := s.pending.all Instr.wellFormed

/-- The Kiln's GT is a counter of 64 bits and its time round one of 25 bits (R29, R30). -/
def State.timeOk (s : State) : Bool := decide (s.gt < 2 ^ 64) && decide (s.timeRounds < 2 ^ 25)

/-- Requests of the host port that are outstanding: at most 64, each under a tag of its own below 64 (R487, R488). -/
def State.ghpOk (s : State) : Bool := decide (s.ghp.length ≤ 64) && s.ghp.all (fun q => decide (q.tag < 64)) && decide (s.ghp.map (·.tag)).Nodup

/-- What the management port holds fits its fields: a dynamic address of 7 bits, an endpoint ID of 8 bits, lengths of 16 bits (R501, R502). -/
def State.mgtOk (s : State) : Bool :=
  s.mgt.da.all (fun a => decide (a < 2 ^ 7)) && decide (s.mgt.eid < 2 ^ 8) && decide (s.mgt.mwl < 2 ^ 16) && decide (s.mgt.mrl < 2 ^ 16)

/-- The addressed buffers, the Vault's token buffer and the Ledger's page buffer, are in canonical form (R358, R407). -/
def State.bufOk (s : State) : Bool := twf (0 : Byte) s.tokbuf && twf (0 : Byte) s.pageBuf

/-- The invariant of the block. -/
def State.Inv (s : State) : Prop :=
  s.queueOk = true ∧ s.timeOk = true ∧ s.ghpOk = true ∧ s.mgtOk = true ∧ s.bufOk = true

end Sys2Proof.Machine
end

