-- ==== Sys2Proof/Certificates/Slice0/Obligations.lean ====
section
/-! DEFINITION. What is claimed of the block. Marks: a docstring that names an assumption rests on that entry of notes/assumptions, which is the model's
choice and no rule of the spec. Each clause of a statement over commands names the row and the rule its effect is read from. -/

open Sys2Proof Sys2Proof.Machine

/-- A step with command `c` at the front of the queue is `exec c` with the rest of the queue. The queue is the model's form of the commands that come from outside (assumption 90). -/
def Obligations.StepRunsTheFrontCommand : Prop :=
  ∀ (c : Instr) (rest : List Instr) (s : State), step { s with pending := c :: rest } = exec c { s with pending := rest }

/-- A step with no command waiting is a tick of the clocks. This is the model's choice (assumption 90, DESIGN CHOICE): the opcode table has no row for a clock. -/
def Obligations.StepWithoutACommandTicks : Prop :=
  ∀ s : State, s.pending = [] →
    (s.pwr.stopped = true → step s = .next s) ∧
    (s.pwr.stopped = false → s.pwr.running = true → ∃ t, step s = .next t ∧ t.gt = wrap 64 (s.gt + 1) ∧ t.pending = []) ∧
    (s.pwr.stopped = false → s.pwr.running = false → step s = .next { s with pwr := s.pwr.advance s.pwr.tickLength })

/-- The Reset column gives each field's value after PORB (R14): every field of every register of the map, and values of the column written out. -/
def Obligations.ResetGivesTheResetColumn : Prop :=
  (∀ w : Win, ∀ r ∈ w.rows, ∀ f ∈ r.fields, ∀ i, State.reset.get f i = f.reset) ∧
    State.reset.get Reg.KILN_ID_VERSION 0 = 0x00030002 ∧
    State.reset.get Reg.FOLIO_CTRL_LEAD 0 = 2000 ∧ State.reset.get Reg.FOLIO_CTRL_XLEAD 0 = 10000 ∧
    (∀ i, State.reset.get Reg.RH_TH_CTRL_TTHR i = 90) ∧ (∀ i, State.reset.get Reg.RH_MW_THR_B0 i = 6) ∧
    (∀ i, State.reset.get Reg.TP_CTRL_RETRY i = 1) ∧ (∀ i, State.reset.get Reg.CCD_EVENT_CRC i = 0) ∧
    (∀ i, State.reset.get Reg.TEN_EP_STATUS_BUSY i = 0)

/-- The state after reset meets the invariant that every step keeps. -/
def Obligations.ResetMeetsTheInvariant : Prop :=
  State.reset.Inv

/-- No command of the block stops it: in every state `exec` answers a next state. What the spec refuses, it refuses with a status, an event or no effect, and the block goes on. -/
def Obligations.EveryCommandCompletes : Prop :=
  ∀ (c : Instr) (s : State), ∃ t, exec c s = .next t

/-- The frame of every command. A command changes no register of a unit that `mayChange` does not name, no unit, buffer or message list that it does not name, and never the queue. -/
def Obligations.CommandChangesOnlyItsParts : Prop :=
  ∀ (c : Instr) (s t : State), exec c s = .next t → Unchanged (mayChange c) s t

/-- From every state that meets the invariant a step gives a state that meets it, whichever command is in front and in the tick without one. -/
def Obligations.StepKeepsTheInvariant : Prop :=
  ∀ s t : State, s.Inv → step s = .next t → t.Inv

/-- In the sealed state a host write is answered SEALED and has no effect (R214, R490), in every row that is a host write. -/
def Obligations.SealedWritesRefused : Prop :=
  ∀ (c : Instr) (ten tag : Nat) (s : State), hostWriteOf c = some (ten, tag) → wrap 12 ten = 0 → s.takes tag = true →
    s.bru.state ≠ .refused → s.isSealed = true →
    ∃ t, exec c s = .next t ∧ .ghpRs (wrap 6 tag) 4 0 ∈ t.pulses ∧ t.get Reg.GHP_EVENT_SEALED 0 = 1 ∧
      Unchanged { regs := [.ghp], pulses := true } s t

/-- A request that reuses an outstanding tag is discarded with no response, and TAGDUP is set (R488). -/
def Obligations.DuplicateTagDiscarded : Prop :=
  ∀ (s : State) (tag : Nat), s.pwr.running = true → s.ghp.length < 64 → s.ghp.any (fun q => q.tag == wrap 6 tag) = true →
    (∀ (c : Instr) (ten : Nat), hostWriteOf c = some (ten, tag) → exec c s = .next (s.raise Reg.GHP_EVENT_TAGDUP 0)) ∧
    (∀ (addr data ten : Nat) (sz64 parOk : Bool), exec (.registerWrite addr data sz64 ten tag parOk) s = .next (s.raise Reg.GHP_EVENT_TAGDUP 0)) ∧
    (∀ (region off ten : Nat) (tile : Option Nat) (sz64 : Bool), ∃ t, exec (.rgRead region tile off sz64 ten tag) s = .next t ∧
      t.ghp = s.ghp ∧ t.pulses = s.pulses ∧ t.get Reg.GHP_EVENT_TAGDUP 0 = 1) ∧
    (∀ (region off : Nat) (sz64 lens : Bool), ∃ t, exec (.mrRead region off sz64 lens tag) s = .next t ∧
      t.ghp = s.ghp ∧ t.pulses = s.pulses ∧ t.get Reg.GHP_EVENT_TAGDUP 0 = 1)

/-- The causes that refuse a register write before its target sees it, in the order of the response table (R490). What counts as a register of an array follows assumption 83 (DEDUCED). -/
def Obligations.RegisterWriteStatuses : Prop :=
  ∀ (addr data ten tag : Nat) (sz64 parOk : Bool) (s : State), s.takes tag = true →
    let a := wrap 32 addr
    let p := placeOf a
    let refused := fun (code : Nat) => ∃ t, exec (.registerWrite addr data sz64 ten tag parOk) s = .next t ∧
      .ghpRs (wrap 6 tag) code 0 ∈ t.pulses ∧ t.get Reg.GHP_ERRLOG_ADDR 0 = a ∧ t.get Reg.GHP_ERRLOG_STATUS 0 = code ∧
      Unchanged { regs := [.ghp], pulses := true } s t
    let noRight := inMirror a = true ∨ (inWindow a = true ∧ s.mayWrite (wrap 12 ten) p = false) ∨
      (s.bru.state = .refused ∧ refusedWritable a = false)
    let noRegister := inWindow a = false ∨ s.placeExists p = false ∨ (rowAt p.win p.off = none ∧ s.arrayWord p.word = none)
    (parOk = false → refused 6) ∧
    (parOk = true → misaligned a sz64 = true → refused 5) ∧
    (parOk = true → misaligned a sz64 = false → noRight → refused 3) ∧
    (parOk = true → misaligned a sz64 = false → ¬ noRight → s.isSealed = true → refused 4) ∧
    (parOk = true → misaligned a sz64 = false → ¬ noRight → s.isSealed = false → noRegister → refused 1)

/-- The sealed latch of the banked domain is left only by the power cycle of R214 (a tray acknowledge and then a loss of power) or with the banked domain itself (VBK_LOST). -/
def Obligations.SealedLatchHolds : Prop :=
  ∀ (c : Instr) (s t : State), exec c s = .next t → c ≠ .vbkLost → s.pwr.sealedLatch = true → (s.pwr.acked && s.pwr.ackLoss) = false →
    t.pwr.sealedLatch = true

/-- ERROR is left only through OFF (R345, R362): by the loss of a supply or of RCLK, PORB, the end of a power-down, or the start of a bring-up. -/
def Obligations.VaultErrorHolds : Prop :=
  ∀ (c : Instr) (s t : State), exec c s = .next t → s.vault.st = .error →
    (∀ half, c ≠ .vaonLost half) → (∀ half, c ≠ .vddLost half) → (∀ half, c ≠ .holdoverEnter half) → (∀ half, c ≠ .porbAssert half) →
    c ≠ .stopDone → c ≠ .puIsoDone → t.vault.st = .error

/-- Writes to the addressed buffer of the Vault (R358, R486). Both sizes of access are allowed by assumption 83 (DEDUCED). -/
def Obligations.TokenBufferWrites : Prop :=
  ∀ (off data tag : Nat) (sz64 : Bool) (s : State), s.admits 0 tag none = true →
    let n := if sz64 then 8 else 4
    off < 0xE00 → off % n = 0 →
    ∃ t, exec (.registerWrite (0x101000 + off) data sz64 0 tag true) s = .next t ∧
      (∀ i, i < n → readByte t.tokbuf (off + i) = BitVec.ofNat 8 (data / 256 ^ i)) ∧
      (∀ a, a < off ∨ off + n ≤ a → readByte t.tokbuf a = readByte s.tokbuf a) ∧
      (Buffer.wf s.tokbuf = true → Buffer.wf t.tokbuf = true) ∧ .ghpRs (wrap 6 tag) 0 0 ∈ t.pulses

/-- The residue map and its arithmetic (R47, R48, R54): the operations by their bits, their canonical results, and the homomorphism. -/
def Obligations.ResidueArithmetic : Prop :=
  (∀ x k, x < 2 ^ 31 → rot x k = canon ((x <<< (k % 31) ||| x >>> (31 - k % 31)) % 2 ^ 31)) ∧
    (∀ x, x < 2 ^ 31 → negp x = canon (2 ^ 31 - 1 - x)) ∧
    (∀ x y, x < 2 ^ 31 → y < 2 ^ 31 → addp x y = canon ((x + y) % 2 ^ 31 + (x + y) / 2 ^ 31)) ∧
    (∀ x y k, rot x k < 2 ^ 31 - 1 ∧ negp x < 2 ^ 31 - 1 ∧ addp x y < 2 ^ 31 - 1 ∧ mulp x y < 2 ^ 31 - 1) ∧
    (∀ v w : Int, residueInt (v + w) = addp (residueInt v) (residueInt w) ∧ residueInt (v * w) = mulp (residueInt v) (residueInt w) ∧
      residueInt (-v) = negp (residueInt v)) ∧
    (∀ x y j k, rot (addp x y) k = addp (rot x k) (rot y k) ∧ mulp (rot x j) (rot y k) = rot (mulp x y) (j + k))

/-- T = Gv + LEAD (R181). For XLEAD below 2,000 nothing is claimed here (assumption 105). -/
def Obligations.SealInstantOfAFolio : Prop :=
  Reg.FOLIO_CTRL_LEAD.reset = 2000 ∧ Reg.FOLIO_CTRL_XLEAD.reset = 10000 ∧
    (∀ (number who gt : Nat) (f : FolioRec) (s : State), s.folio number = some f → f.number = number → f.st = .prepared →
      f.parts.contains who = true → f.parts.all (fun p => p == who || f.yes.contains p) = true → f.peernum = 0 →
      s.stopped = false → s.isSealed = false →
      ∃ t, exec (.flVote who number 0 gt) s = .next t ∧ (t.folio number).map (·.st) = some .decided ∧
        (f.parts.all (fun p => decide (p < 4096)) = true →
          (t.folio number).map (·.sealt) = some (s.gt + max 2000 (s.get Reg.FOLIO_CTRL_LEAD 0))) ∧
        (f.parts.any (fun p => decide (4096 ≤ p)) = true → 2000 ≤ s.get Reg.FOLIO_CTRL_XLEAD 0 →
          (t.folio number).map (·.sealt) = some (s.gt + s.get Reg.FOLIO_CTRL_XLEAD 0))) ∧
    (∀ (clp number lnum : Nat) (h : ClpHdr) (answer : Bool) (f : FolioRec) (s : State), s.linkInTurn clp h false = true →
      s.folio number = some f → f.number = number → f.st = .prepared → f.peernum = 0 → f.parts.contains (peerPart clp) = true →
      f.parts.all (fun p => p == peerPart clp || f.yes.contains p) = true → s.stopped = false → 2000 ≤ s.get Reg.FOLIO_CTRL_XLEAD 0 →
      ∃ t, exec (.fvote clp h number 0 lnum answer) s = .next t ∧
        (t.folio number).map (fun x => (x.st, x.sealt)) = some (.decided, s.gt + s.get Reg.FOLIO_CTRL_XLEAD 0))

/-- The 32 B of a layer entry (R295). -/
def Obligations.LayerEntryLayout : Prop :=
  (∀ (e : LayerEntry) (layer : Nat), let w := e.word layer
    w < 2 ^ 240 ∧ bits w 0 16 = wrap 16 layer ∧ bit w 16 = e.ovf ∧ bits w 17 15 = 0 ∧ bits w 32 31 = wrap 31 e.dA ∧ bits w 63 1 = 0 ∧
    bits w 64 31 = wrap 31 e.dB ∧ bits w 95 1 = 0 ∧ bits w 96 32 = wrap 32 e.nslot ∧ bits w 128 40 = wrap 40 e.nchunk ∧
    bits w 168 32 = wrap 32 e.nmvslot ∧ bits w 200 40 = wrap 40 e.nmvchunk) ∧
  (∀ (e : LayerEntry) (layer : Nat), e.dA < 2 ^ 31 → e.dB < 2 ^ 31 → e.nslot < 2 ^ 32 → e.nchunk < 2 ^ 40 → e.nmvslot < 2 ^ 32 →
    e.nmvchunk < 2 ^ 40 → LayerEntry.ofWord (e.word layer) = e)

/-- THR after a thermal step (R323). T is in 1/64 °C and GAIN in Q4.4, so the product carries 10 fraction bits. -/
def Obligations.ThrottleAfterAStep : Prop :=
  Reg.RH_TH_CTRL_TTHR.reset = 90 ∧ Reg.RH_TH_CTRL_GAIN.reset = 16 ∧
    (let target := fun (T : Int) (tthr gain : Nat) => max 0 (min 15 (Int.fdiv ((T - 64 * (tthr : Int)) * (gain : Int)) 1024))
     target (64 * 90) 90 16 = 0 ∧ target (64 * 104) 90 16 = 14 ∧
     ∀ (region energy : Nat) (s : State), s.get Reg.RH_TH_STATUS_BAND region < 8 → s.get Reg.RH_TH_STATUS_THR region < 16 →
       ∃ t e, exec (.thermalStep region energy) s = .next t ∧ (t.hub region).en.est = some e ∧
         (let k := (target (signed 16 e) (s.get Reg.RH_TH_CTRL_TTHR region) (s.get Reg.RH_TH_CTRL_GAIN region)).toNat
          t.get Reg.RH_TH_STATUS_THR region =
            if t.get Reg.RH_TH_STATUS_BAND region = 4 then 15
            else if s.get Reg.RH_TH_STATUS_THR region ≤ k then k else s.get Reg.RH_TH_STATUS_THR region - 1))

/-- LG_SUPP (R409), with what its SRC and GT are: those of the last and of the first suppressed message. -/
def Obligations.SuppressionReport : Prop :=
  (∀ r kind count src gt : Nat, let m := msgLgSupp r kind count src gt
    m.op = 0xBC ∧ m.src = hubSrc r ∧ srcRegion m.dest = 0x7FF ∧ m.vc = .bulk ∧ bits m.header.toNat 37 3 = 1 ∧
    ∃ f, m.payload = [f] ∧ bits f.toNat 0 12 = wrap 12 kind ∧ bits f.toNat 12 32 = wrap 32 count ∧ bits f.toNat 44 32 = wrap 32 src ∧
      bits f.toNat 76 32 = wrap 32 gt ∧ f.toNat < 2 ^ 108) ∧
  (∀ op ∈ [0xBD, 0xBE, 0xBF], opcodeDefined op = false) ∧
  (∀ (l : HubLg) (burst kind src gt : Nat) (e : TokenEntry), l.entries.find? (fun e => e.kind == kind) = some e → e.tokens = 0 →
    ∃ e' ∈ (l.ask burst kind src gt).1.entries, e'.kind = kind ∧ e'.supp = e.supp + 1 ∧ e'.src = src ∧ e'.gt = if e.supp = 0 then gt else e.gt) ∧
  (∀ (region : Nat) (e : TokenEntry) (s : State), e ∈ (s.hub region).lg.entries → 0 < e.supp →
    ∃ t, exec (.ledgerRefill region) s = .next t ∧ msgLgSupp region e.kind e.supp e.src e.gt ∈ t.flue)

/-- The grants of an output port of the Flue (R23, R24 1–4 and 6): one of the flits that wait and may go is granted, in the order FAULT, RSP, REQ, BULK while neither limit is reached; of 16 grants in a row FAULT has at most 8 while others could go, and BULK at least one while it could; one channel's inputs are served in turn, and a message holds its channel to its LAST flit. -/
def Obligations.FlueGrantOrder : Prop :=
  (∀ (p : HopPort) (offers : List Offer) (x : Offer), p.pick offers = some x → x ∈ p.eligible offers) ∧
  (∀ (p : HopPort) (offers : List Offer), p.eligible offers ≠ [] → (p.pick offers).isSome = true) ∧
  (∀ (p : HopPort) (offers : List Offer) (x y : Offer), p.pick offers = some x → y ∈ p.eligible offers → p.bulkWait < 15 →
    p.recent.count true < 8 → [Vc.fault, .rsp, .req, .bulk].idxOf x.flit.vc ≤ [Vc.fault, .rsp, .req, .bulk].idxOf y.flit.vc) ∧
  (∀ (p : HopPort) (rounds : List (List HopFlit × List Offer)) (i : Nat),
    (∀ j < 16, ∃ g, (p.run rounds)[i + j]? = some g ∧ g.1.any (· != .fault) = true) →
    (((p.run rounds).drop i).take 16).countP (fun g => g.2 == .fault) ≤ 8) ∧
  (∀ (p : HopPort) (rounds : List (List HopFlit × List Offer)) (i : Nat),
    (∀ j < 16, ∃ g, (p.run rounds)[i + j]? = some g ∧ .bulk ∈ g.1) →
    1 ≤ (((p.run rounds).drop i).take 16).countP (fun g => g.2 == .bulk)) ∧
  (∀ (p : HopPort) (offers : List Offer) (x y : Offer) (waiting : List Vc), p.pick offers = some x → y ∈ p.eligible offers →
    y.flit.vc = x.flit.vc → x.round (tgetD 63 x.flit.vc.code p.turn) ≤ y.round (tgetD 63 x.flit.vc.code p.turn) ∧
    x.round (tgetD 63 x.flit.vc.code (p.granted x waiting).turn) = 63) ∧
  (∀ (p : HopPort) (x y : Offer) (waiting : List Vc), y.flit.vc = x.flit.vc →
    ((p.granted x waiting).admits y = true ↔ x.flit.isLast = true ∨ (y.input = x.input ∧ y.flit.parcel = x.flit.parcel)))

/-- What TIME_ROUND, TIME, a hop NAK, a retrain and a reserved opcode do. TIME_ROUND advances the round number; a first TIME loads the GT of a hub or probe; a first NAK is counted and replayed; a retrain that succeeds brings its hop back with its latency; a message with a reserved opcode raises FLUE_PROTO at the probe. Read from R22, R27, R29, R30. Choices: A first TIME is loaded as it comes (4, DESIGN CHOICE). Receive commands act whether or not the message was in flight (91, DESIGN CHOICE). -/
def Obligations.SpineAndTimeCommands : Prop :=
  -- TIME_ROUND (R29)
  (∀ (s : State), s.bru.trained = true → ∃ t, exec (.timeRound) s = .next t ∧ t.timeRounds = wrap 25 (s.timeRounds + 1)) ∧
  -- TIME (R30)
  (∀ (region round gt : Nat) (s : State), (s.hub region).gtValid = false → ∃ t, exec (.time region none round gt) s = .next t ∧
        (t.hub region).gt = wrap 64 gt ∧ (t.hub region).timeRound = some (wrap 25 round)) ∧
  -- TIME (R30)
  (∀ (region tile round gt : Nat) (s : State), (s.probe region tile).gtValid = false → ∃ t,
        exec (.time region (some tile) round gt) s = .next t ∧ (t.probe region tile).gt24 = wrap 24 gt ∧ (t.probe region tile).gtValid = true) ∧
  -- FLUE_NAK (R27)
  (∀ (hop : HopId) (s : State), (s.hop hop).down = false → (s.hop hop).retraining = false → ∃ t, exec (.flueNak hop false) s = .next t ∧
        (t.hop hop).naks = 1 ∧ (t.hop hop).replays = (s.hop hop).replays + 1) ∧
  -- FLUE_RETRAIN_DONE (R27)
  (∀ (hop : HopId) (latency : Nat) (s : State), (s.hop hop).retraining = true → ∃ t, exec (.flueRetrainDone hop true latency) s = .next t ∧
        (t.hop hop).retraining = false ∧ (t.hop hop).latency = latency) ∧
  -- FLUE_RESERVED_OPCODE (R22)
  (∀ (region tile src tag opcode tenant : Nat) (s : State), opcodeDefined (wrap 8 opcode) = false → ∃ t,
        exec (.flueReservedOpcode region (some tile) src tag opcode tenant none false) s = .next t ∧
        (t.probe region tile).faultOut.map (·.kind) = (s.probe region tile).faultOut.map (·.kind) ++ [0x302])

/-- A command's way through a slot of a probe: header, operands, readout, decision, release. A ready header is rejected with its code or takes a slot; amounts are drawn; operand, readout and egress beats are taken; a decision is given as its outcome code; a released slot becomes free; a release tag leaves. Read from R53, R76, R78, R82, R87, R88, R91. Choices: A rejected header changes nothing but the report (101, DEDUCED). Trivium is PRESUMED (5), and nothing here rests on an amount it draws. -/
def Obligations.ProbeSlotCommands : Prop :=
  -- CMD_ACCEPT (R76)
  (∀ (region tile : Nat) (hdr : Hdr) (early : Bool) (s : State), (s.probe region tile).ready hdr = true →
        (s.probe region tile).rejectCode hdr ≠ 0 → ∃ t, exec (.cmdAccept region tile hdr early) s = .next t ∧
        .cmdErr region tile ∈ t.pulses ∧ t.get Reg.TP_HDRERR_CODE (pid region tile) = (s.probe region tile).rejectCode hdr ∧
        (t.probe region tile).slots = (s.probe region tile).slots) ∧
  -- CMD_ACCEPT (R76)
  (∀ (region tile i : Nat) (hdr : Hdr) (early : Bool) (s : State), (s.probe region tile).ready hdr = true →
        (s.probe region tile).rejectCode hdr = 0 → (s.probe region tile).target hdr = some i → hdr.cont = false → ∃ t,
        exec (.cmdAccept region tile hdr early) s = .next t ∧ .cmdSlot region tile i ∈ t.pulses ∧ ((t.probe region tile).slot i).st = .active ∧
        ((t.probe region tile).slot i).first = hdr) ∧
  -- ROTATION_DRAW_DONE (R53)
  (∀ (region tile slot : Nat) (s : State), ((s.probe region tile).slot slot).st = .active → ((s.probe region tile).slot slot).job = .tenant →
        ((s.probe region tile).slot slot).first.matrix = true → ((s.probe region tile).slot slot).drawn = false → ∃ t,
        exec (.rotationDrawDone region tile slot) s = .next t ∧ ((t.probe region tile).slot slot).drawn = true ∧
        .opReady region tile ∈ t.pulses) ∧
  -- OPERAND_BEAT (R78)
  (∀ (region tile slot kind opa opb sca scb : Nat) (s : State), ((s.probe region tile).slot slot).st = .active → ∃ t,
        exec (.operandBeat region tile slot kind opa opb sca scb) s = .next t ∧
        ((t.probe region tile).slot slot) = ((s.probe region tile).slot slot).operand kind opa opb sca scb) ∧
  -- TAP_READ_BEAT (R82)
  (∀ (region tile acc words i : Nat) (parityBad : Bool) (s : State), (s.probe region tile).readSlot = some i → ∃ t,
        exec (.tapReadBeat region tile acc words false true parityBad) s = .next t ∧ ((t.probe region tile).slot i).readDone = true ∧
        (t.probe region tile).readSlot = none ∧ (t.probe region tile).tapReading = false) ∧
  -- EGRESS_BEAT (R91)
  (∀ (region tile slot data nel : Nat) (lastb lastc : Bool) (s : State), ((s.probe region tile).slot slot).st = .active → ∃ t,
        exec (.egressBeat region tile slot data nel lastb lastc) s = .next t ∧
        ((t.probe region tile).slot slot).ebeats = ((s.probe region tile).slot slot).ebeats + 1 ∧
        ((t.probe region tile).slot slot).lastc = (((s.probe region tile).slot slot).lastc || lastc)) ∧
  -- RELEASE_TAG_OUT (R91)
  (∀ (region tile tag : Nat) (rest : List Nat) (s : State), (s.probe region tile).etag = tag :: rest → ∃ t,
        exec (.releaseTagOut region tile) s = .next t ∧ (t.probe region tile).etag = rest ∧ t.pulses = s.pulses ++ [.etag region tile tag]) ∧
  -- GATE_DECISION (R87)
  (∀ (region tile slot : Nat) (s : State), ((s.probe region tile).slot slot).decidable_ = true →
        ((s.probe region tile).slot slot).job = .tenant → ∃ t, exec (.gateDecision region tile slot) s = .next t ∧
        .outValid region tile (((s.probe region tile).slot slot).decide_ (((s.probe region tile).slot slot).sawB4 || (s.probe region tile).band == 4)).code ((s.probe region tile).slot slot).first.htag ∈ t.pulses) ∧
  -- SLOT_DRAIN (R88)
  (∀ (region tile slot : Nat) (s : State), ((s.probe region tile).slot slot).st = .released → ∃ t,
        exec (.slotDrain region tile slot) s = .next t ∧ ((t.probe region tile).slot slot).st = .free)

/-- The fence, memory errors, power gating, the stop leaf and the band input of a probe. Mesh blocks are taken; a corrected and an uncorrectable memory error set their events and raise kinds 0x008 and 0x009, the second closing the fence; FENCE_REQ and a retry timeout close it; a fault leaves for the hub's queue; gating, waking, the stop leaf and BAND do as the tables say. Read from R92, R93, R94, R96, R128, R476, R512. Choices: Timer commands act whenever their state holds (92, DESIGN CHOICE); a write of one field leaves the others (98, DESIGN CHOICE). -/
def Obligations.ProbeFenceCommands : Prop :=
  -- MESH_BLOCK (R92)
  (∀ (region tile fmt nel data tag src line lines : Nat) (prot : Bool) (s : State), ∃ t,
        exec (.meshBlock region tile true false prot fmt nel data tag src line lines) s = .next t ∧ ∃ b ∈ (t.probe region tile).meshOpen,
        b.src = src ∧ b.prot = prot ∧ b.line = line ∧ b.lines = lines) ∧
  -- SRAM_ECC_EVENT (R93)
  (∀ (region tile line : Nat) (s : State), ∃ t, exec (.sramEccEvent region tile false line) s = .next t ∧
        t.get Reg.TP_EVENT_ECCC (pid region tile) = 1 ∧ (t.probe region tile).faultOut.getLast?.map (·.kind) = some 0x008) ∧
  -- SRAM_ECC_EVENT (R93)
  (∀ (region tile line : Nat) (s : State), (s.probe region tile).fence = .opened → ∃ t, exec (.sramEccEvent region tile true line) s = .next t ∧
        t.get Reg.TP_EVENT_ECCU (pid region tile) = 1 ∧ (t.probe region tile).fence = .fenced ∧
        (t.probe region tile).faultOut.getLast?.map (·.kind) = some 0x009) ∧
  -- FENCE_REQ (R93)
  (∀ (region tile ten tag : Nat) (s : State), s.admits ten tag none = true → s.hasTile region tile = true →
        (s.probe region tile).fence = .opened → ∃ t, exec (.fenceReq region tile ten tag) s = .next t ∧ (t.probe region tile).fence = .fenced ∧
        t.get Reg.TP_CTRL_FENCE_REQ (pid region tile) = 1 ∧ .ghpRs (wrap 6 tag) 0 0 ∈ t.pulses) ∧
  -- RETRY_TIMEOUT (R94)
  (∀ (region tile i : Nat) (s : State), (s.probe region tile).fence = .retry → (s.probe region tile).retrySlot = some i →
        (s.probe region tile).retryTaken = false → ∃ t, exec (.retryTimeout region tile) s = .next t ∧ (t.probe region tile).fence = .fenced ∧
        t.get Reg.TP_EVENT_RETRYTO (pid region tile) = 1 ∧ (t.probe region tile).faultOut.getLast?.map (·.kind) = some 0x005) ∧
  -- FAULT_FLIT_DEPART (R512)
  (∀ (region tile : Nat) (m : FaultMsg) (rest : List FaultMsg) (s : State), (s.probe region tile).faultOut = m :: rest →
        (s.hub region).flt.queue.length < 64 → ∃ t, exec (.faultFlitDepart region tile) s = .next t ∧ (t.probe region tile).faultOut = rest ∧
        (t.hub region).flt.queue = (s.hub region).flt.queue ++ [m]) ∧
  -- PROBE_GATE (R96)
  (∀ (region tile : Nat) (s : State), (s.probe region tile).mayGate = true → ∃ t, exec (.probeGate region tile) s = .next t ∧
        (t.probe region tile).idle = true ∧ (t.probe region tile).powered = false ∧ (t.probe region tile).act = []) ∧
  -- PROBE_WAKE (R96)
  (∀ (region tile : Nat) (s : State), ∃ t, exec (.probeWake region tile) s = .next t ∧ (t.probe region tile).idle = false ∧
        (t.probe region tile).powered = true) ∧
  -- STOP_LEAF_RISE (R94)
  (∀ (region tile : Nat) (s : State), ∃ t, exec (.stopLeafRise region (some tile)) s = .next t ∧ (t.probe region tile).stopLeaf = true ∧
        (t.probe region tile).fence = .stopped) ∧
  -- STOP_LEAF_FALL (R476)
  (∀ (region tile : Nat) (s : State), (s.probe region tile).fence = .stopped → (s.probe region tile).remembered = .opened → ∃ t,
        exec (.stopLeafFall region (some tile)) s = .next t ∧ (t.probe region tile).stopLeaf = false ∧ (t.probe region tile).fence = .opened) ∧
  -- BAND_INPUT_CHANGE (R128)
  (∀ (region tile band : Nat) (s : State), ∃ t, exec (.bandInputChange region tile band) s = .next t ∧ (t.probe region tile).band = wrap 3 band)

/-- The copy port of a probe: ownership, a move between tiles and the margin walk's clock shift. The acknowledge of the port is recorded; a move that times out is marked; each unit that arrives is counted and written; a complete move gives the port back and sends CAT_MOVED; the walk's clock shift is acknowledged, times out or settles. Read from R73, R126, R134, R148. Choices: Timer commands act whenever their state holds (92, DESIGN CHOICE). -/
def Obligations.CopyPortCommands : Prop :=
  -- XOWN_ACK (R73)
  (∀ (region tile : Nat) (data : List Nat) (s : State), (s.probe region tile).xown = true → (s.probe region tile).xownAck = false →
        (s.probe region tile).stopLeaf = false → (s.probe region tile).copies = [] → (s.probe region tile).ift.desc = none → ∃ t,
        exec (.xownAck region tile data) s = .next t ∧ (t.probe region tile).xownAck = true) ∧
  -- XOWN_ACK (R148)
  (∀ (region tile : Nat) (data : List Nat) (m : MoveState) (s : State), (s.probe region tile).xown = true →
        (s.probe region tile).xownAck = false → (s.probe region tile).stopLeaf = false → (s.probe region tile).move = some m → m.timeout = true → ∃ t,
        exec (.xownAck region tile data) s = .next t ∧ (t.probe region tile).xownAck = true ∧
        msgCatMoved region tile false m.busy m.ecc true (saturate 10 m.eccUnits) ∈ t.flue) ∧
  -- MOVE_XOWN_TIMEOUT (R148)
  (∀ (region tile : Nat) (m : MoveState) (s : State), (s.probe region tile).move = some m → (s.probe region tile).xown = true →
        (s.probe region tile).xownAck = false → (s.probe region tile).stopLeaf = false → ∃ t, exec (.moveXownTimeout region tile) s = .next t ∧
        (t.probe region tile).move = some { m with timeout := true }) ∧
  -- COPY_UNIT_ARRIVE (R148)
  (∀ (region tile beat data : Nat) (m : MoveState) (s : State), (s.probe region tile).move = some m → m.order.recv = true → beat < 768 →
        (s.probe region tile).stopLeaf = false → ∃ t, exec (.copyUnitArrive region tile beat data) s = .next t ∧ ((t.probe region tile).move.map (·.received)) = some (m.received + 1) ∧
        .xwr region tile beat data ∈ t.pulses) ∧
  -- MOVE_COMPLETE (R148)
  (∀ (region tile : Nat) (m : MoveState) (s : State), (s.probe region tile).move = some m → m.order.recv = true →
        (s.probe region tile).xownAck = true → (s.probe region tile).stopLeaf = false → m.timeout = false → ∃ t,
        exec (.moveComplete region tile) s = .next t ∧ (t.probe region tile).move = none ∧ (t.probe region tile).xown = false ∧
        msgCatMoved region tile (!(m.busy || m.ecc)) m.busy m.ecc false (saturate 10 m.eccUnits) ∈ t.flue) ∧
  -- CSHK_ACK (R126)
  (∀ (region tile : Nat) (s : State), ∃ t, exec (.cshkAck region tile) s = .next t ∧ (t.probe region tile).ift.cshkWait = false) ∧
  -- CSHK_TIMEOUT (R134)
  (∀ (region tile : Nat) (s : State), (s.probe region tile).ift.inLoop = true → (s.probe region tile).ift.cshkWait = true →
        (s.probe region tile).ift.suspended = false → (s.probe region tile).stopLeaf = false → ∃ t, exec (.cshkTimeout region tile) s = .next t ∧
        (t.probe region tile).ift.walking = false ∧ (t.probe region tile).ift.walkDone = true ∧ (t.probe region tile).cshkStep = 0 ∧
        t.get Reg.TP_MW_LAST_VALID (pid region tile) = 0 ∧ t.get Reg.TP_MW_LAST_CSHKTO (pid region tile) = 1) ∧
  -- MW_SETTLE_DONE (R126)
  (∀ (region tile : Nat) (s : State), (s.probe region tile).ift.inLoop = true → (s.probe region tile).ift.cshkWait = false →
        (s.probe region tile).ift.settled = false → (s.probe region tile).ift.suspended = false → (s.probe region tile).stopLeaf = false → ∃ t,
        exec (.mwSettleDone region tile) s = .next t ∧ (t.probe region tile).ift.settled = true)

/-- The second readings, from the request to the pad deadline. A request joins the hub's queue; a copy starts over the units of the operands; the reader runs the order in slot 0 and reports; equal results make the hub send RD_AGREE; agreement, discard, abort, a unit over the Flue, the pad deadline, a settle timeout and the quota timeout do as the record and slot tables say. Read from R106, R108, R109, R110, R114, R115, R116. Choices: The hub gives the reader what RD_ORDER does not carry (24, DEDUCED). Receive commands act whether or not the message was in flight (91) and timer commands whenever their state holds (92), DESIGN CHOICE. -/
def Obligations.SecondReadingCommands : Prop :=
  -- ICMD_ACCEPT (R106)
  (∀ (region tile : Nat) (o : ReadOrder) (s : State), (s.probe region tile).readOrder = some o → o.presented = true → o.started = false → ∃ t,
        exec (.icmdAccept region tile) s = .next t ∧ ((t.probe region tile).slot 0).st = .active ∧
        ((t.probe region tile).slot 0).job = .reading ∧ (t.probe region tile).readOrder = some { o with started := true } ∧
        .opReady region tile ∈ t.pulses) ∧
  -- RD_REQ (R106)
  (∀ (region tile slot sa sb beats u dom count gtlo g : Nat) (hdr : Hdr) (s : State), (s.hub region).readerOf (tileCol tile) = some g →
        (s.hub region).stopLeaf = true → ∃ t, exec (.rdReq region tile slot hdr sa sb beats u dom count gtlo) s = .next t ∧
        ∃ x ∈ (t.hub region).queueOf (tileCol tile), x.worker = tile ∧ x.slot = slot ∧ x.hdr = hdr ∧ x.sa = sa ∧ x.sb = sb ∧ x.beats = beats) ∧
  -- RD_COPY (R108)
  (∀ (region tile acc slot dir : Nat) (flue : Bool) (s : State), s.reaches region tile acc = true →
        ((s.probe region tile).slot slot).st = .reading → copyUnits ((s.probe region tile).slot slot).first ≠ [] → ∃ t,
        exec (.rdCopy region tile acc flue dir slot) s = .next t ∧ (t.probe region tile).xown = true ∧
        (t.probe region tile).copies = (s.probe region tile).copies.filter (fun c => c.slot != slot) ++ [{ flue := flue, dir := dir, slot := slot, left := copyUnits ((s.probe region tile).slot slot).first }]) ∧
  -- RD_ORDER (R108)
  (∀ (region tile acc units hops dir count u dom : Nat) (flue : Bool) (hdr : Hdr) (s : State), s.reaches region tile acc = true → ∃ t,
        exec (.rdOrder region tile acc flue hdr units hops dir count u dom) s = .next t ∧
        (t.probe region tile).readOrder.any (fun o => decide (o.hdr = hdr ∧ o.flue = flue ∧ o.units = units ∧ o.hops = hops ∧ o.dir = dir ∧ o.count = count ∧ o.u = u ∧ o.dom = dom)) = true) ∧
  -- READER_SIGNATURE_CLOSE (R106)
  (∀ (region tile : Nat) (o : ReadOrder) (s : State), (s.probe region tile).readOrder = some o → o.started = true →
        ((s.probe region tile).slot 0).job = .reading → ((s.probe region tile).slot 0).lastc = true → ∃ t,
        exec (.readerSignatureClose region tile) s = .next t ∧
        msgRdReport region tile ((s.probe region tile).slot 0).sa ((s.probe region tile).slot 0).sb ((s.probe region tile).slot 0).ebeats o.fault ∈ t.flue ∧
        (t.probe region tile).readOrder = none) ∧
  -- RD_REPORT (R109)
  (∀ (region tile sa sb beats : Nat) (x : ReadRec) (s : State), (s.hub region).queueOf (tileCol tile) = [x] → x.running = true →
        x.reader = some tile → x.st = .copy → (sa, sb, beats) = (x.sa, x.sb, x.beats) → ∃ t,
        exec (.rdReport region tile sa sb beats false) s = .next t ∧ msgRdAgree region x.worker (s.accOf region x.worker) x.slot x.hdr.htag false ∈ t.flue) ∧
  -- RD_AGREE (R106)
  (∀ (region tile acc slot htag : Nat) (unread : Bool) (s : State), s.reaches region tile acc = true →
        ((s.probe region tile).slot slot).readingOf htag = true → s.on Reg.RH_RD_CTRL_PADEN region = true →
        (s.hub region).gt < ((s.probe region tile).slot slot).gtDecision + s.get Reg.RH_RD_PAD_PADLEN region → ∃ t,
        exec (.rdAgree region tile acc ⟨slot, htag⟩ unread) s = .next t ∧ ((t.probe region tile).slot slot).agreed = true) ∧
  -- RD_AGREE (R106)
  (∀ (region tile acc slot htag : Nat) (unread : Bool) (s : State), s.reaches region tile acc = true →
        ((s.probe region tile).slot slot).readingOf htag = true →
        s.on Reg.RH_RD_CTRL_PADEN region = false ∨ ((s.probe region tile).slot slot).gtDecision + s.get Reg.RH_RD_PAD_PADLEN region ≤ (s.hub region).gt →
        (s.probe region tile).relHold = true → ∃ t, exec (.rdAgree region tile acc ⟨slot, htag⟩ unread) s = .next t ∧
        ((t.probe region tile).slot slot).st = .releasable) ∧
  -- RD_DISCARD (R110)
  (∀ (region tile acc slot htag reason : Nat) (s : State), s.reaches region tile acc = true →
        ((s.probe region tile).slot slot).readingOf htag = true → (s.probe region tile).fence = .opened → ∃ t,
        exec (.rdDiscard region tile acc ⟨slot, htag⟩ true reason) s = .next t ∧
        (t.probe region tile).fence = .fenced ∧ ((t.probe region tile).slot slot).st = .free ∧ .disc region tile slot ∈ t.pulses) ∧
  -- RD_ABORT (R108)
  (∀ (region tile acc : Nat) (s : State), s.reaches region tile acc = true → (s.probe region tile).copies ≠ [] →
        (s.probe region tile).readOrder = none → ∃ t, exec (.rdAbort region tile acc) s = .next t ∧ (t.probe region tile).copies = [] ∧
        (t.probe region tile).xown = false) ∧
  -- RD_DATA (R110)
  (∀ (region g worker acc unit data : Nat) (o : ReadOrder) (s : State), s.reaches region g acc = true → (s.probe region g).readOrder = some o →
        o.flue = true → o.got + 1 < o.units → ∃ t, exec (.rdData region (some g) worker acc unit data) s = .next t ∧
        (t.probe region g).readOrder = some { o with got := o.got + 1 } ∧ .xwr region g unit data ∈ t.pulses) ∧
  -- PAD_DEADLINE (R114)
  (∀ (region tile slot : Nat) (s : State), ((s.probe region tile).slot slot).st = .reading → ((s.probe region tile).slot slot).agreed = true →
        (s.probe region tile).relHold = true → ∃ t, exec (.padDeadline region tile slot) s = .next t ∧
        ((t.probe region tile).slot slot).st = .releasable) ∧
  -- READING_SETTLE_TIMEOUT (R116)
  (∀ (region col n : Nat) (f : HubFolio) (s : State), ((s.hub region).walkOf col).folio = some n → (s.hub region).folioOf n = some f →
        f.st = .preparing → f.number = n → ((s.hub region).queueOf col).any ReadRec.unsettled = true → ∃ t,
        exec (.readingSettleTimeout region col) s = .next t ∧ t.get Reg.RH_RD_EVENT_STEPVOID region = 1 ∧
        msgFlVote region n 2 (s.hub region).gt ∈ t.flue) ∧
  -- IFT_QUOTA_TIMEOUT (R115)
  (∀ (region col : Nat) (s : State), ∃ t, exec (.iftQuotaTimeout region col) s = .next t ∧ ((t.hub region).walkOf col).shortAllowed = true ∧
        ((t.hub region).walkOf col).dwellPassed = true)

/-- In-field test: visits, patterns, segments, results and margins. A start begins a visit and asks for pattern 0, or waits in B4, in a reading and in a stop; a pattern descriptor is given and loaded, or kept for the next segment; a segment that closes with what it expects goes on to the next pattern, one that does not records its kind and pattern and is run again, and a stopping test stops there; one that times out is a failure of kind 4, or stops a stopping test; results, margins, stops, exposure reports and overdue tests are recorded as the chapter says. Read from R123, R124, R128, R129, R132, R134, R135, R136, R137. Choices: Receive commands act whether or not the message was in flight (91) and timer commands whenever their state holds (92), DESIGN CHOICE. -/
def Obligations.InFieldTestCommands : Prop :=
  -- IFT_START (R124)
  (∀ (region tile acc : Nat) (mwen : Bool) (s : State), s.reaches region tile acc = true → (s.probe region tile).ift.state = .idle →
        (s.probe region tile).band ≠ 4 → (s.probe region tile).readOrder = none → (s.probe region tile).fence ≠ .stopped → ∃ t,
        exec (.iftStart region tile acc mwen) s = .next t ∧
        t.get Reg.TP_IFT_VISIT_VISITS (pid region tile) = wrap 24 (s.get Reg.TP_IFT_VISIT_VISITS (pid region tile) + 1) ∧
        (t.probe region tile).ift.mwen = mwen ∧ (t.probe region tile).ift.pass = 0 ∧ (t.probe region tile).ift.state = .fill ∧
        msgIftGet region tile 0 ∈ t.flue) ∧
  -- IFT_START (R128, R136)
  (∀ (region tile acc : Nat) (mwen : Bool) (s : State), s.reaches region tile acc = true → (s.probe region tile).ift.state = .idle →
        (s.probe region tile).band = 4 ∨ (s.probe region tile).readOrder.isSome = true ∨ (s.probe region tile).fence = .stopped → ∃ t,
        exec (.iftStart region tile acc mwen) s = .next t ∧ (t.probe region tile).ift.state = .wait ∧ (t.probe region tile).ift.mwen = mwen ∧
        t.get Reg.TP_IFT_VISIT_VISITS (pid region tile) = wrap 24 (s.get Reg.TP_IFT_VISIT_VISITS (pid region tile) + 1)) ∧
  -- IFT_GET (R137)
  (∀ (region tile index : Nat) (d : Pattern) (s : State), (s.hub region).patterns[index]? = some d → ∃ t,
        exec (.iftGet region tile index) s = .next t ∧
        msgIftPat region tile (s.accOf region tile) index d.hdr d.fill d.fillWord d.expA d.expB d.expBeats d.margin d.cover ∈ t.flue) ∧
  -- IFT_PAT (R137)
  (∀ (region tile acc index fill word expA expB beats cover : Nat) (margin : Bool) (hdr : Hdr) (s : State), s.reaches region tile acc = true →
        (s.probe region tile).ift.asked = some index → (s.probe region tile).ift.running = true → (s.probe region tile).ift.pat = index →
        (s.probe region tile).ift.desc = none → (s.probe region tile).stopLeaf = false → copyUnits hdr ≠ [] → ∃ t, exec (.iftPat region tile acc index hdr fill word expA expB beats margin cover) s = .next t ∧
        (t.probe region tile).xown = true ∧
        (t.probe region tile).ift.desc = some { hdr := hdr, fill := fill, fillWord := word, expA := expA, expB := expB, expBeats := beats, margin := margin, cover := cover }) ∧
  -- IFT_PAT (R124)
  (∀ (region tile acc index fill word expA expB beats cover : Nat) (margin : Bool) (hdr : Hdr) (s : State), s.reaches region tile acc = true →
        (s.probe region tile).ift.asked = some index → (s.probe region tile).ift.desc.isSome = true → ∃ t,
        exec (.iftPat region tile acc index hdr fill word expA expB beats margin cover) s = .next t ∧ (t.probe region tile).ift.asked = none ∧
        (t.probe region tile).ift.next = some (index, { hdr := hdr, fill := fill, fillWord := word, expA := expA, expB := expB, expBeats := beats, margin := margin, cover := cover })) ∧
  -- SEGMENT_CLOSE (R123, R124)
  (∀ (region tile : Nat) (d : Pattern) (s : State), (s.probe region tile).ift.desc = some d → (s.probe region tile).ift.running = true →
        (s.probe region tile).stopLeaf = false → ((s.probe region tile).slot 0).st ≠ .free → ((s.probe region tile).slot 0).job = .ift →
        ((s.probe region tile).slot 0).lastc = true → (s.probe region tile).ift.stopping = false → (s.probe region tile).ift.seg = .pass →
        (s.probe region tile).ift.pat + 1 < (s.hub region).patterns.length →
        segmentKind ((s.probe region tile).slot 0) d (((s.probe region tile).slot 0).decide_ false) = 0 → ∃ t,
        exec (.segmentClose region tile) s = .next t ∧ ((t.probe region tile).slot 0).st = .free ∧ .disc region tile 0 ∈ t.pulses ∧
        (t.probe region tile).ift.pat = (s.probe region tile).ift.pat + 1 ∧ (t.probe region tile).ift.seg = .pass ∧
        t.get Reg.TP_IFT_FAIL_KIND (pid region tile) = s.get Reg.TP_IFT_FAIL_KIND (pid region tile)) ∧
  -- SEGMENT_CLOSE (R123, R132)
  (∀ (region tile : Nat) (d : Pattern) (s : State), (s.probe region tile).ift.desc = some d → (s.probe region tile).ift.running = true →
        (s.probe region tile).stopLeaf = false → ((s.probe region tile).slot 0).st ≠ .free → ((s.probe region tile).slot 0).job = .ift →
        ((s.probe region tile).slot 0).lastc = true → (s.probe region tile).ift.stopping = false → (s.probe region tile).ift.seg = .pass →
        segmentKind ((s.probe region tile).slot 0) d (((s.probe region tile).slot 0).decide_ false) ≠ 0 → ∃ t,
        exec (.segmentClose region tile) s = .next t ∧ ((t.probe region tile).slot 0).st = .free ∧ .disc region tile 0 ∈ t.pulses ∧
        t.get Reg.TP_IFT_FAIL_KIND (pid region tile) = segmentKind ((s.probe region tile).slot 0) d (((s.probe region tile).slot 0).decide_ false) ∧
        t.get Reg.TP_IFT_FAIL_PAT (pid region tile) = wrap Reg.TP_IFT_FAIL_PAT.w (s.probe region tile).ift.pat ∧
        (t.probe region tile).ift.seg = .rerun1 ∧ (t.probe region tile).ift.pat = (s.probe region tile).ift.pat) ∧
  -- SEGMENT_CLOSE (R123, R137)
  (∀ (region tile : Nat) (d : Pattern) (s : State), (s.probe region tile).ift.desc = some d → (s.probe region tile).ift.running = true →
        (s.probe region tile).stopLeaf = false → ((s.probe region tile).slot 0).st ≠ .free → ((s.probe region tile).slot 0).job = .ift →
        ((s.probe region tile).slot 0).lastc = true → (s.probe region tile).ift.stopping = true → ∃ t, exec (.segmentClose region tile) s = .next t ∧
        ((t.probe region tile).slot 0).st = .free ∧ .disc region tile 0 ∈ t.pulses ∧ (t.probe region tile).ift.state = .stopped) ∧
  -- SEGMENT_TIMEOUT (R123)
  (∀ (region tile : Nat) (s : State), (s.probe region tile).ift.running = true → (s.probe region tile).stopLeaf = false →
        ((s.probe region tile).slot 0).st ≠ .free → ((s.probe region tile).slot 0).job = .ift → ((s.probe region tile).slot 0).lastc = false →
        (s.probe region tile).ift.stopping = false → (s.probe region tile).ift.seg = .pass → ((s.probe region tile).slot 0).tapPar = false →
        ((s.probe region tile).slot 0).cntErr = false → ((s.probe region tile).slot 0).readDone = false → ∃ t,
        exec (.segmentTimeout region tile) s = .next t ∧ t.get Reg.TP_IFT_FAIL_KIND (pid region tile) = 4 ∧
        ((t.probe region tile).slot 0).st = .free ∧ (t.probe region tile).ift.seg = .rerun1) ∧
  -- SEGMENT_TIMEOUT (R123)
  (∀ (region tile : Nat) (s : State), (s.probe region tile).ift.running = true → (s.probe region tile).stopLeaf = false →
        ((s.probe region tile).slot 0).st ≠ .free → ((s.probe region tile).slot 0).job = .ift → ((s.probe region tile).slot 0).lastc = false →
        (s.probe region tile).ift.stopping = true → ∃ t, exec (.segmentTimeout region tile) s = .next t ∧
        t.get Reg.TP_IFT_FAIL_CONFIRMED (pid region tile) = 0 ∧ ((t.probe region tile).slot 0).st = .free ∧
        (t.get Reg.TP_IFT_FAIL_KIND (pid region tile) = 1 ∨ t.get Reg.TP_IFT_FAIL_KIND (pid region tile) = 4) ∧
        (t.probe region tile).ift.state = .stopped) ∧
  -- IFT_RESULT (R132)
  (∀ (region tile pass first kind time : Nat) (complete : Bool) (s : State), (complete && (s.book region tile).passTransient) = false →
        (s.hub region).flt.queue.length < 64 → ∃ t,
        exec (.iftResult region tile pass complete false first kind false time) s = .next t ∧ t.get Reg.RH_IFT_EVENT_TRANSIENT region = 1 ∧
        (t.book region tile).visitTime = time ∧ (t.hub region).flt.queue.getLast?.map (·.kind) = some 0x105) ∧
  -- MW_RESULT (R129)
  (∀ (region tile margin band : Nat) (valid bandchg cshkto : Bool) (s : State), ∃ t,
        exec (.mwResult region tile margin band valid bandchg cshkto) s = .next t ∧
        (t.book region tile).history.head?.map (fun e => (e.margin, e.band, e.valid, e.bandchg, e.cshkto)) = some (wrap 4 margin, wrap 3 band, valid, bandchg, cshkto)) ∧
  -- IFT_STOP (R137)
  (∀ (region tile acc : Nat) (s : State), s.reaches region tile acc = true → ∃ t, exec (.iftStop region tile acc true) s = .next t ∧
        (t.probe region tile).ift.state = .stopped ∧ (t.probe region tile).ift.desc = none) ∧
  -- IFT_STOPPED (R136)
  (∀ (region tile : Nat) (s : State), (s.hub region).fl.open_ = [] → ∃ t, exec (.iftStopped region tile) s = .next t ∧
        ((t.hub region).walkOf (tileCol tile)).awaitIft = false) ∧
  -- EXP_REPORT (R134)
  (∀ (region gt0 gt1 x y cover seq cause : Nat) (ovf : Bool) (entries : List Flit) (s : State), ∃ t,
        exec (.expReport region gt0 gt1 x y cover ovf seq false cause entries) s = .next t ∧
        (tgetD [] (x + 2048 * y) t.colo.parts).length = (if seq = 0 then [] else tgetD [] (x + 2048 * y) s.colo.parts).length + entries.length) ∧
  -- IFT_OVERDUE (R135)
  (∀ (region tile dwells : Nat) (s : State), ((s.hub region).cat.at tile).role = .service → (s.hub region).flt.queue.length < 64 → ∃ t,
        exec (.iftOverdue region tile dwells) s = .next t ∧ t.get Reg.RH_IFT_EVENT_OVERDUE region = 1 ∧
        (t.hub region).flt.queue.getLast?.map (·.kind) = some 0x109)

/-- The Catalogue: requests become Folios; roles, contexts, holds, moves and bounces reach their tiles. ASSIGN, UNASSIGN, RESTORE and QUENCH queue a Folio and answer OK; gap steps, holds, idles and their timeout, roles, contexts, moves, reports and bounced messages change the hub, the probe and the reaction they belong to. Read from R146, R148, R150, R151, R152, R156, R159, R162, R165, R213. Choices: Receive commands act whether or not the message was in flight (91) and timer commands whenever their state holds (92), DESIGN CHOICE. A write of one field leaves the others (98, DESIGN CHOICE). -/
def Obligations.CatalogueCommands : Prop :=
  -- CAT_REQ_ASSIGN (R146)
  (∀ (x y count tenant ten tag r : Nat) (s : State), s.admits ten tag none = true → s.on Reg.CAT_REQST_BUSY 0 = false →
        s.regionOfShelf (wrap 11 x) (wrap 11 y) = some r → s.tenantActive (wrap 12 tenant) = true → wrap 11 y % 32 + wrap 5 count < 32 →
        s.hasPlace false = true → s.fl.waiting = [] → ∃ t, exec (.catReqAssign x y count tenant ten tag) s = .next t ∧
        t.get Reg.CAT_REQST_BUSY 0 = 1 ∧ t.get Reg.CAT_REQFOLIO_FOLIO 0 = wrap 32 s.fl.next ∧
        (t.folio s.fl.next).map (fun f => (f.st, f.acts)) = some (.queued, [{ act := 0x04, region := r, col := wrap 11 x % 32, tenant := wrap 12 tenant, row := wrap 11 y % 32, arg := wrap 5 count }]) ∧
        .ghpRs (wrap 6 tag) 0 0 ∈ t.pulses) ∧
  -- CAT_REQ_UNASSIGN (R146)
  (∀ (x y count tenant ten tag r : Nat) (s : State), s.admits ten tag none = true → s.on Reg.CAT_REQST_BUSY 0 = false →
        s.regionOfShelf (wrap 11 x) (wrap 11 y) = some r → s.tenantActive (wrap 12 tenant) = true → wrap 11 y % 32 + wrap 5 count < 32 →
        s.hasPlace false = true → s.fl.waiting = [] → ∃ t, exec (.catReqUnassign x y count tenant ten tag) s = .next t ∧
        t.get Reg.CAT_REQST_BUSY 0 = 1 ∧ t.get Reg.CAT_REQFOLIO_FOLIO 0 = wrap 32 s.fl.next ∧
        (t.folio s.fl.next).map (fun f => (f.st, f.acts)) = some (.queued, [{ act := 0x05, region := r, col := wrap 11 x % 32, tenant := wrap 12 tenant, row := wrap 11 y % 32, arg := wrap 5 count }]) ∧
        .ghpRs (wrap 6 tag) 0 0 ∈ t.pulses) ∧
  -- CAT_REQ_RESTORE (R159)
  (∀ (x y ten tag : Nat) (s : State), s.admits ten tag none = true → s.on Reg.CAT_REQST_BUSY 0 = false → wrap 11 x / 32 < s.cfg.w →
        wrap 11 y / 33 < s.cfg.h → s.restoreRefused (wrap 11 y / 33 * s.cfg.w + wrap 11 x / 32) (wrap 11 y % 33) (wrap 11 x % 32) = false →
        s.hasPlace false = true → s.fl.waiting = [] → ∃ t, exec (.catReqRestore x y ten tag) s = .next t ∧ t.get Reg.CAT_REQST_BUSY 0 = 1 ∧
        t.get Reg.CAT_REQFOLIO_FOLIO 0 = wrap 32 s.fl.next ∧
        (t.folio s.fl.next).map (fun f => (f.st, f.acts)) = some (.queued, [{ act := 0x03, region := wrap 11 y / 33 * s.cfg.w + wrap 11 x / 32, col := wrap 11 x % 32, row := wrap 11 y % 33 }]) ∧
        .ghpRs (wrap 6 tag) 0 0 ∈ t.pulses) ∧
  -- CAT_REQ_QUENCH (R156)
  (∀ (x y ten tag r row : Nat) (s : State), s.admits ten tag none = true → s.on Reg.CAT_REQST_BUSY 0 = false →
        s.regionOfShelf (wrap 11 x) (wrap 11 y) = some r → (s.masterOf r).rowOf (wrap 11 x % 32) (wrap 11 y % 32) = some row →
        s.hasPlace true = true → s.fl.waiting = [] → ∃ t, exec (.catReqQuench x y ten tag) s = .next t ∧ t.get Reg.CAT_REQST_BUSY 0 = 1 ∧
        t.get Reg.CAT_REQST_RESULT 0 = 0 ∧ t.get Reg.CAT_REQFOLIO_FOLIO 0 = wrap 32 s.fl.next ∧ .ghpRs (wrap 6 tag) 0 0 ∈ t.pulses) ∧
  -- GAP_STEP_DUE (R151)
  (∀ (region : Nat) (cols : List Nat) (s : State), ∃ t, exec (.gapStepDue region cols) s = .next t ∧ ∀ c ∈ cols,
        ((t.hub region).walkOf c).dwellPassed = true) ∧
  -- CAT_HOLD (R152)
  (∀ (region tile acc : Nat) (hold : Bool) (s : State), s.reaches region tile acc = true → ∃ t,
        exec (.catHold region tile acc hold) s = .next t ∧ (t.probe region tile).hold = hold) ∧
  -- CAT_IDLE (R152)
  (∀ (region tile : Nat) (s : State), (s.hub region).fl.open_ = [] → ∃ t, exec (.catIdle region tile) s = .next t ∧
        ((t.hub region).walkOf (tileCol tile)).awaitIdle = ((s.hub region).walkOf (tileCol tile)).awaitIdle.filter (· != tile)) ∧
  -- CAT_IDLE_TIMEOUT (R152)
  (∀ (region col n : Nat) (f : HubFolio) (s : State), ((s.hub region).walkOf col).folio = some n → (s.hub region).folioOf n = some f →
        f.st = .preparing → f.number = n → ((s.hub region).walkOf col).awaitIdle ≠ [] → ∃ t, exec (.catIdleTimeout region col) s = .next t ∧
        t.get Reg.RH_CAT_EVENT_HOLDVOID region = 1 ∧ msgFlVote region n 1 (s.hub region).gt ∈ t.flue) ∧
  -- CAT_ROLE (R165)
  (∀ (region tile acc role x y newAcc sendDir hops gt : Nat) (send recv fromLower : Bool) (s : State), s.reaches region tile acc = true →
        s.accOf region tile ≠ newAcc → ∃ t, exec (.catRole region tile acc role x y newAcc send sendDir recv fromLower hops gt) s = .next t ∧
        (t.probe region tile).roleNext = some { role := Role.ofCode role, x := x, y := y, acc := newAcc, send := send, sendDir := sendDir, recv := recv, fromLower := fromLower, hops := hops, gt := gt }) ∧
  -- CAT_CTX (R146)
  (∀ (region tile acc tenant key d i : Nat) (s : State), s.reaches region tile acc = true → (s.probe region tile).ctxOf tenant = none →
        (s.probe region tile).freeCtx = some i → ∃ t, exec (.catCtx region tile acc true tenant key d) s = .next t ∧
        tget i (t.probe region tile).ctx = some { valid := true, tenant := tenant, key := key, d := d }) ∧
  -- CAT_CTX (R146)
  (∀ (region tile acc tenant key d i : Nat) (s : State), s.reaches region tile acc = true → (s.probe region tile).ctxOf tenant = some i → ∃ t,
        exec (.catCtx region tile acc false tenant key d) s = .next t ∧ tget i (t.probe region tile).ctx = none ∧
        tget i (t.probe region tile).acc = none ∧ tget i (t.probe region tile).act = none) ∧
  -- CAT_MOVED (R150)
  (∀ (region tile units : Nat) (busy ecc : Bool) (s : State), ((s.hub region).walkOf (tileCol tile)).moving.contains tile = true →
        ((s.hub region).walkOf (tileCol tile)).moving.filter (· != tile) ≠ [] →
        ((s.hub region).walkOf (tileCol tile)).partials.contains (((s.hub region).cat.lrowOf (tileCol tile) (tileRow tile)).getD 0) = false → ∃ t,
        exec (.catMoved region tile false busy ecc false units) s = .next t ∧
        ((t.hub region).walkOf (tileCol tile)).moving = ((s.hub region).walkOf (tileCol tile)).moving.filter (· != tile) ∧
        ((t.hub region).walkOf (tileCol tile)).partials.contains (((s.hub region).cat.lrowOf (tileCol tile) (tileRow tile)).getD 0) = true ∧
        t.get Reg.RH_CAT_EVENT_SUSPECT region = 1) ∧
  -- CAT_MOVED (R148)
  (∀ (region tile units : Nat) (s : State), ((s.hub region).walkOf (tileCol tile)).moving.contains tile = true →
        ((s.hub region).walkOf (tileCol tile)).moving.filter (· != tile) ≠ [] → ∃ t,
        exec (.catMoved region tile true false false false units) s = .next t ∧
        ((t.hub region).walkOf (tileCol tile)).moving = ((s.hub region).walkOf (tileCol tile)).moving.filter (· != tile) ∧
        ((t.hub region).walkOf (tileCol tile)).partials = ((s.hub region).walkOf (tileCol tile)).partials) ∧
  -- CAT_REPORT (R213)
  (∀ (region col state q1 q2 x y : Nat) (r : Reaction) (s : State), s.flt.reacts = [(r.rid % 1024, r)] → r.heldBy r.folio = true →
        r.reports.filter (· != (region, col)) ≠ [] → ∃ t, exec (.catReport region col state q1 q2 false x y) s = .next t ∧
        (tget (r.rid % 1024) t.flt.reacts).map (·.reports) = some (r.reports.filter (· != (region, col)))) ∧
  -- CAT_BOUNCE (R162)
  (∀ (region tile probeAcc code l row : Nat) (header : Flit) (payload : List Flit) (s : State),
        shelfBound.contains (Msg.ofFlits header payload).op = true →
        (s.hub region).shelfAt tile (bits (Msg.ofFlits header payload).arg 0 20) = some l →
        (s.hub region).cat.rowOf (tileCol tile) l = some row → (s.hub region).cat.holdersOf (tileCol tile) l ≠ [] →
        (s.hub region).bounces = [] → ∃ t, exec (.catBounce region tile probeAcc code header payload) s = .next t ∧
        t.get Reg.RH_CAT_EVENT_STALE region = 1 ∧ (t.flue.getLast?.map (·.dest)) = some (probeSrc region (tileAt row (tileCol tile))))

/-- Folios: proposals, their numbers, prepare, votes and the prepare timer. Parts of a proposal are kept and the last makes a QUEUED Folio; acceptances, retries, prepare and its parts, the votes of Kiln units, the last yes vote, the prepare timer with reason 7, and a tenant reset's urgent Folio. Read from R172, R173, R174, R176, R179, R180, R189. Choices: The Charter unit takes part in an amendment (70, DEDUCED), so its vote and the Vault's are not in the clause on Kiln units. Receive commands act whether or not the message was in flight (91) and timer commands whenever their state holds (92), DESIGN CHOICE. -/
def Obligations.FolioProposalsAndVotes : Prop :=
  -- FL_PROPOSE (R172)
  (∀ (region pid : Nat) (urgent : Bool) (acts : List Flit) (s : State), ∃ t, exec (.flPropose region 0 pid false urgent acts) s = .next t ∧
        tgetD [] (32 * region + pid) t.fl.parts = acts.map Act.ofFlit ∧ msgFlAccept region pid 0 0 ∈ t.flue) ∧
  -- FL_PROPOSE (R172)
  (∀ (region pid : Nat) (acts : List Flit) (s : State), s.proposalResult false (acts.map Act.ofFlit) = 0 → s.fl.waiting = [] → ∃ t,
        exec (.flPropose region 0 pid true false acts) s = .next t ∧
        (t.folio s.fl.next).map (fun f => (f.st, f.acts)) = some (.queued, acts.map Act.ofFlit) ∧ msgFlAccept region pid 0 s.fl.next ∈ t.flue) ∧
  -- FL_ACCEPT (R173)
  (∀ (region pid number : Nat) (s : State), number ≠ 0 → ∃ t, exec (.flAccept region pid 0 number) s = .next t ∧
        (t.hub region).fl.proposed = (s.hub region).fl.proposed.filter (fun e => e.1 != pid)) ∧
  -- PROPOSE_RETRY (R173)
  (∀ (region pid : Nat) (acts : List Act) (urgent : Bool) (s : State), (s.hub region).fl.proposed = [(pid, acts, urgent, true)] → ∃ t,
        exec (.proposeRetry region pid) s = .next t ∧ (t.hub region).fl.proposed = [(pid, acts, urgent, false)] ∧
        t.flue = s.flue ++ proposalParts region pid urgent acts) ∧
  -- FOLIO_PREPARE (R174)
  (∀ (number : Nat) (f : FolioRec) (s : State), s.folio number = some f → f.number = number → s.mayPrepare f = true → s.masterCheck f = 0 →
        f.xchip = false → f.acts.filter (fun a => a.act == 0x04) = [] → f.yes = [] → s.folioParts { f with acts := s.withKeys f.acts } ≠ [] →
        s.fl.waiting = [] → ∃ t, exec (.folioPrepare number) s = .next t ∧ (t.folio number).map (fun g => (g.st, g.gtprep)) = some (.prepared, s.gt)) ∧
  -- FL_PREP (R180)
  (∀ (who number tenant count gt : Nat) (replay : Bool) (acts : List Flit) (s : State), who < 2048 → ∃ t,
        exec (.flPrep who 0 false replay number tenant count gt acts) s = .next t ∧
        ((t.hub who).folioOf number).map (fun f => (f.st, f.tenant, f.acts)) = some (.receiving, tenant, acts.map Act.ofFlit)) ∧
  -- FL_PREP (R180)
  (∀ (who number tenant count gt : Nat) (replay : Bool) (acts : List Flit) (s : State), 2048 ≤ who → who ≠ unitPart 3 → who ≠ unitPart 4 → ∃ t,
        exec (.flPrep who 0 true replay number tenant count gt acts) s = .next t ∧ (t.fl.unitOf who number).map (·.st) = some .yes ∧
        msgFlVote who number 0 s.gt ∈ t.flue) ∧
  -- FL_VOTE (R179)
  (∀ (who number gt : Nat) (f : FolioRec) (s : State), s.folio number = some f → f.number = number → f.st = .prepared → f.parts = [who] →
        f.yes = [] → f.xchip = false → s.stopped = false → s.isSealed = false → ∃ t, exec (.flVote who number 0 gt) s = .next t ∧
        (t.folio number).map (fun g => (g.st, g.sealt)) = some (.decided, s.gt + s.leadOf f) ∧
        t.get Reg.FOLIO_SEALED_COUNT 0 = wrap 32 (s.get Reg.FOLIO_SEALED_COUNT 0 + 1)) ∧
  -- FOLIO_PREPARE_TIMEOUT (R176)
  (∀ (number : Nat) (f : FolioRec) (s : State), s.folio number = some f → f.number = number → f.st = .prepared → f.link = none →
        f.xchip = false → f.origin = 0 → f.allYes = false → s.stopped = false → s.fl.waiting = [] → ∃ t, exec (.folioPrepareTimeout number) s = .next t ∧
        (t.folio number).map (fun g => (g.st, g.vreason)) = some (.void, 7) ∧ t.get Reg.FOLIO_EVENT_TIMEOUT 0 = 1) ∧
  -- FOLIO_TREQ (R189)
  (∀ (tenant ten tag : Nat) (s : State), s.admits ten tag none = true → wrap 12 tenant ≠ 0 → s.on Reg.FOLIO_TREQST_BUSY 0 = false →
        s.fl.log = [] → s.fl.waiting = [] → s.hasPlace true = true → ∃ t, exec (.folioTreq tenant ten tag) s = .next t ∧
        t.get Reg.FOLIO_TREQST_BUSY 0 = 1 ∧ t.get Reg.FOLIO_TREQNUM_NUMBER 0 = wrap 32 s.fl.next ∧
        (t.folio s.fl.next).map (fun f => (f.st, f.urgent, f.acts)) = some (.queued, true, resetActs (wrap 12 tenant) (s.get Reg.TLY_SWNUM_NEXT 0)) ∧
        .ghpRs (wrap 6 tag) 0 0 ∈ t.pulses)

/-- Folios: seal, void, apply, done, resend and catch-up. A seal fixes the instant, not earlier than GT + 48, at a hub and at a Kiln unit; a void and an application report FL_DONE; the last FL_DONE applies the Folio; a missing one resends the seal; FL_SYNC, FL_SYNCACK and FL_TDROP do as the chapter says. Read from R179, R180, R182, R186, R190, R192. Choices: Receive commands act whether or not the message was in flight (91) and timer commands whenever their state holds (92), DESIGN CHOICE. -/
def Obligations.FolioSealsAndApplies : Prop :=
  -- FL_SEAL (R180)
  (∀ (who number instant : Nat) (f : HubFolio) (s : State), who < 2048 → (s.hub who).folioOf number = some f → f.st = .yes → ∃ t,
        exec (.flSeal who number false instant) s = .next t ∧
        ((t.hub who).folioOf number).map (fun g => (g.st, g.sealt)) = some (.sealed, if instant < (s.hub who).gt + 48 then (s.hub who).gt + 48 else instant)) ∧
  -- FL_SEAL (R180)
  (∀ (who number instant : Nat) (f : HubFolio) (s : State), 2048 ≤ who → s.fl.unitOf who number = some f → f.number = number → f.st = .yes →
        ∃ t, exec (.flSeal who number false instant) s = .next t ∧
        (t.fl.unitOf who number).map (fun g => (g.st, g.sealt)) = some (.sealed, if instant < s.gt + 48 then s.gt + 48 else instant)) ∧
  -- FL_VOID (R180)
  (∀ (who number reason : Nat) (f : HubFolio) (s : State), who < 2048 → (s.hub who).folioOf number = some f → f.st = .yes → ∃ t,
        exec (.flVoid who number reason) s = .next t ∧ (t.hub who).folioOf number = none ∧
        msgFlDone who number false true false (s.hub who).gt ∈ t.flue) ∧
  -- FOLIO_APPLY (R182)
  (∀ (who number : Nat) (f : HubFolio) (s : State), who < 2048 → (s.hub who).folioOf number = some f → f.st = .sealed → ∃ t,
        exec (.folioApply who number) s = .next t ∧ msgFlDone who number f.late false false f.sealt ∈ t.flue) ∧
  -- FOLIO_APPLY (R182)
  (∀ (who number : Nat) (f : HubFolio) (s : State), 2048 ≤ who → s.fl.unitOf who number = some f → f.number = number → f.st = .sealed → ∃ t,
        exec (.folioApply who number) s = .next t ∧ msgFlDone who number f.late false false f.sealt ∈ t.flue) ∧
  -- FL_DONE (R179)
  (∀ (who number gt : Nat) (f : FolioRec) (s : State), s.folio number = some f → f.number = number → f.st = .decided → f.parts = [who] →
        f.done = [] → f.origin = 0 → s.fl.waiting = [] → ∃ t, exec (.flDone who number false false false gt) s = .next t ∧
        (t.folio number).map (·.st) = some .applied) ∧
  -- FOLIO_DONE_TIMEOUT (R179)
  (∀ (number : Nat) (f : FolioRec) (s : State), s.folio number = some f → f.number = number → f.st = .decided → f.resends < 3 → ∃ t,
        exec (.folioDoneTimeout number) s = .next t ∧ (t.folio number).map (·.resends) = some (f.resends + 1)) ∧
  -- FL_SYNC (R186)
  (∀ (region last : Nat) (s : State), tgetD [] region s.fl.behind = [] → s.fl.overflowed.contains region = false → ∃ t,
        exec (.flSync region last) s = .next t ∧ t.lost.contains region = false ∧ msgFlSyncack region 0 false ∈ t.flue) ∧
  -- FL_SYNCACK (R192)
  (∀ (region count : Nat) (failed : Bool) (s : State), ∃ t, exec (.flSyncack region count failed) s = .next t ∧
        t = s.recv (msgFlSyncack region count failed)) ∧
  -- FL_TDROP (R190)
  (∀ (region tile acc tenant instant : Nat) (s : State), s.reaches region tile acc = true →
        (s.hub region).fl.open_.any (fun f => f.st == .sealed && f.sealt == instant) = true → ∃ t,
        exec (.flTdrop region tile acc tenant instant) s = .next t ∧
        (t.probe region tile).resets = (s.probe region tile).resets ++ [(tenant, instant)])

/-- Faults: a host unit's message, classification, buckets, registration, phases, fences, acknowledges and holds. A host fault becomes a message with its kind; the hub classifies the oldest and marks the first capture; buckets leak and count; registration numbers a fault and logs it with its arrival stamp; phases, fences, acknowledges, the notice tail, a queued L2 and the L3 hold do as the tables say. Read from R26, R200, R203, R204, R206, R208, R212, R213, R214, R215, R217. Choices: Receive commands act whether or not the message was in flight (91) and timer commands whenever their state holds (92), DESIGN CHOICE. A write of one field leaves the others (98, DESIGN CHOICE). -/
def Obligations.FaultCollection : Prop :=
  -- RFI_MESSAGE (R200)
  (∀ (region data : Nat) (s : State), bits data 0 3 ≤ 4 → (s.hub region).flt.queue.length < 64 → ∃ t, exec (.rfiMessage region data true) s = .next t ∧
        (t.hub region).flt.queue.getLast?.map (fun m => (m.kind, m.tenant, m.addr, m.corr)) = some (0x800 + 0x100 * bits data 0 3 + bits data 19 8, bits data 28 12, bits data 40 48, bit data 27)) ∧
  -- FAULT_CLASSIFY (R204)
  (∀ (region : Nat) (m : FaultMsg) (rest : List FaultMsg) (s : State), (s.hub region).flt.queue = m :: rest → rest.length < 64 →
        (s.hub region).flt.out = [] → s.kilnFull = false → (s.hub region).flt.held = [] → ∃ t, exec (.faultClassify region) s = .next t ∧
        (t.hub region).flt.queue = rest ∧ t.get Reg.RH_FLT_FIRSTVAL_VALID region = 1) ∧
  -- FAULT_CLASSIFY (R26)
  (∀ (region : Nat) (m x : FaultMsg) (rest more : List FaultMsg) (s : State), (s.hub region).flt.queue = m :: rest → rest.length < 64 →
        (s.hub region).flt.out = [] → s.kilnFull = false → (s.hub region).flt.held = x :: more → ∃ t, exec (.faultClassify region) s = .next t ∧
        (t.hub region).flt.queue = rest ++ [x]) ∧
  -- BUCKET_LEAK (R203)
  (∀ (region key kind i : Nat) (b : Bucket) (s : State), bucketIndex key kind (s.hub region).flt.buckets = some i →
        tget i (s.hub region).flt.buckets = some b → 1 < b.level → ∃ t, exec (.bucketLeak (some region) key kind) s = .next t ∧
        (tget i (t.hub region).flt.buckets).map (·.level) = some (b.level - 1)) ∧
  -- BUCKET_LEAK (R203)
  (∀ (key kind i : Nat) (b : Bucket) (s : State), bucketIndex key kind s.flt.buckets = some i → tget i s.flt.buckets = some b → b.level = 1 →
        ∃ t, exec (.bucketLeak none key kind) s = .next t ∧ tget i t.flt.buckets = none) ∧
  -- FAULT_REGISTER (R208)
  (∀ (m : FaultMsg) (s : State), s.nextFlit = some m → isHostKind m.kind = true → ∃ t,
        exec (.faultRegister) s = .next t ∧ t.flt.nextSeq = nextSkipZero 32 s.flt.nextSeq ∧
        (tget (s.flt.nextSeq % 4096) t.flt.log).map (fun e => (e.msg, e.fseq, e.arr, e.level)) = some (m, s.flt.nextSeq, s.gt, 0)) ∧
  -- FLT_COUNT (R203)
  (∀ (region src kind tenant addr gtlo : Nat) (s : State), (s.hub region).flt.phase = .service → ∃ t,
        exec (.fltCount region src kind tenant addr gtlo) s = .next t ∧
        ((t.hub region).flt.bucketClock = (s.hub region).flt.bucketClock + 1 ∧ (msgFltAckhub region true ∈ t.flue ∨ msgFltAckhub region false ∈ t.flue))) ∧
  -- FLT_ACKHUB (R217)
  (∀ (region : Nat) (raised : Bool) (s : State), ∃ t, exec (.fltAckhub region raised) s = .next t ∧
        t.flue = arrive (msgFltAckhub region raised) s.flue) ∧
  -- FLT_PHASE (R206)
  (∀ (region : Nat) (s : State), (s.hub region).flt.phase ≠ .service → ∃ t, exec (.fltPhase region 1) s = .next t ∧
        (t.hub region).flt.phase = .service ∧ (t.hub region).flt.buckets = []) ∧
  -- FLT_PHASE_WRITE (R206)
  (∀ (ten tag : Nat) (s : State), s.admits ten tag none = true → s.flt.phase = .service → ∃ t, exec (.fltPhaseWrite 2 ten tag) s = .next t ∧
        t.flt.phase = .test ∧ t.get Reg.FLT_PHASE_PHASE 0 = 2 ∧ msgFltPhase 2 ∈ t.flue ∧ .ghpRs (wrap 6 tag) 0 0 ∈ t.pulses) ∧
  -- FLT_FENCE (R217)
  (∀ (region tile acc : Nat) (s : State), s.reaches region tile acc = true → (s.probe region tile).fence = .opened → ∃ t,
        exec (.fltFence region (some tile) acc true) s = .next t ∧ (t.probe region tile).fence = .fenced) ∧
  -- FLT_ACK (R213)
  (∀ (rid ten tag : Nat) (r : Reaction) (s : State), s.admits ten tag none = true → s.flt.reacts = [(rid % 1024, r)] → r.rid = rid →
        r.st = .awaitAck → s.flt.phase ≠ .recovery → ∃ t, exec (.fltAck rid ten tag) s = .next t ∧ (t.reaction rid).map (·.st) = some .done ∧
        t.get Reg.FLT_ACK_RID 0 = wrap 16 rid ∧ .ghpRs (wrap 6 tag) 0 0 ∈ t.pulses) ∧
  -- FLT_NTAIL_WRITE (R215)
  (∀ (tail ten tag : Nat) (s : State), s.admits ten tag none = true → ∃ t, exec (.fltNtailWrite tail ten tag) s = .next t ∧
        t.get Reg.FLT_NTAIL_TAIL 0 = wrap Reg.FLT_NTAIL_TAIL.w tail ∧ .ghpRs (wrap 6 tag) 0 0 ∈ t.pulses) ∧
  -- L2_QUEUE_TIMEOUT (R212)
  (∀ (rid : Nat) (r : Reaction) (s : State), s.reaction rid = some r → r.st = .queued → r.level = 2 → s.stopped = false →
        s.flt.phase = .service ∨ s.flt.phase = .test → ∃ t,
        exec (.l2QueueTimeout rid) s = .next t ∧ t.flt.phase = .recovery ∧ t.get Reg.FLT_EVENT_L2 0 = 1) ∧
  -- L3_HOLD_EXPIRY (R214)
  (∀ (s : State), s.flt.l3 = true → s.get Reg.FLT_CTRL_L3HOLD 0 ≠ 0 → s.pwr.pcreq = false → ∃ t, exec (.l3HoldExpiry) s = .next t ∧
        t.pwr.pcreq = true ∧ t.pwr.trayCause = 1)

/-- The watchdog: ticks, statuses, evaluation, suspects, orders and checks. A tick sends WD_STAT with the masks and clears the progress; statuses are merged; an evaluation starts a new period; suspects are collected; the collection timeout starts the reset; orders, drops and checks reach hub and probe. Read from R222, R223, R227, R229, R232. Choices: Receive commands act whether or not the message was in flight (91) and timer commands whenever their state holds (92), DESIGN CHOICE. -/
def Obligations.WatchdogCommands : Prop :=
  -- WATCHDOG_TICK (R222)
  (∀ (region tile : Nat) (s : State), (s.probe region tile).powered = true → ∃ t, exec (.watchdogTick region tile) s = .next t ∧
        (t.probe region tile).progress = [] ∧
        msgWdStat region tile false (s.probe region tile).wdMasks.1 (s.probe region tile).wdMasks.2.1 (s.probe region tile).wdMasks.2.2 false ∈ t.flue) ∧
  -- WD_STAT (R222)
  (∀ (region tile owing prog held : Nat) (gated : Bool) (s : State),
        (((s.probe region tile).maskTenants prog).any (fun u => ((s.hub region).wd.ctxOf u).parked)) = false → ∃ t,
        exec (.wdStat region tile false owing prog held gated) s = .next t ∧
        (t.hub region).wd.owing = union (s.hub region).wd.owing ((s.probe region tile).maskTenants owing) ∧
        (t.hub region).wd.prog = union (s.hub region).wd.prog ((s.probe region tile).maskTenants prog)) ∧
  -- WATCHDOG_EVALUATE (R223)
  (∀ (region : Nat) (s : State), ∃ t, exec (.watchdogEvaluate region) s = .next t ∧ (t.hub region).wd.owing = [] ∧ (t.hub region).wd.prog = [] ∧
        (t.hub region).wd.agreed = [] ∧ (t.hub region).wd.paused = false) ∧
  -- WD_SET (R227)
  (∀ (region : Nat) (suspects : List Nat) (more : Bool) (s : State), s.rcv.st = .collect → ∃ t, exec (.wdSet region suspects more) s = .next t ∧
        t.rcv.more = (s.rcv.more || more) ∧ ∀ u ∈ suspects, t.rcv.suspects.any (fun x => x.1 == u && x.2.1 == region) = true) ∧
  -- CASE_COLLECT_TIMEOUT (R229)
  (∀ (s : State), s.rcv.st = .collect → s.stopped = false → s.reactions.all (fun x => !(x.unack && x.level == 2)) = true → ∃ t,
        exec (.caseCollectTimeout) s = .next t ∧ t.rcv.st = .reset) ∧
  -- RCV_ORDER (R232)
  (∀ (region rung case instant : Nat) (tenants : List Nat) (s : State), ∃ t, exec (.rcvOrder region rung case instant tenants) s = .next t ∧
        (t.hub region).wd.order.map (fun o => (o.rung, o.case, o.instant, o.tenants, o.st)) = some (rung, case, instant, (List.range 4096).filter tenants.contains, .waitInstant)) ∧
  -- WD_DROP (R232)
  (∀ (region tile acc tenant instant : Nat) (every : Bool) (o : RungOrder) (s : State), s.reaches region tile acc = true →
        (s.hub region).wd.order = some o → o.instant = instant → o.st = .waitInstant → ∃ t,
        exec (.wdDrop region tile acc tenant every instant) s = .next t ∧
        (t.probe region tile).drops = (s.probe region tile).drops ++ [(tenant, every, instant)]) ∧
  -- WD_CHECK (R232)
  (∀ (region tile acc : Nat) (s : State), s.reaches region tile acc = true → ∃ t, exec (.wdCheck region tile acc) s = .next t ∧
        msgWdStat region tile true (s.probe region tile).wdMasks.1 (s.probe region tile).wdMasks.2.1 (s.probe region tile).wdMasks.2.2 false ∈ t.flue)

/-- Recovery: the reset instant, its hold, reports, escalation, grants and the end of a replay. At the instant the reset of the rung is driven; its hold ends; reports are counted; a missing report raises the rung; a grant with code 1 parks its suspect; a replay that times out ends the case. Read from R229, R230, R233, R234. Choices: Timer commands act whenever their state holds (92, DESIGN CHOICE). -/
def Obligations.RecoveryCommands : Prop :=
  -- RESET_INSTANT (R230)
  (∀ (region : Nat) (o : RungOrder) (s : State), (s.hub region).wd.order = some o → o.st = .waitInstant → ∃ t,
        exec (.resetInstant (some region)) s = .next t ∧ (t.hub region).wd.order.map (·.st) = some .holding ∧
        (t.hub region).wd.rstEng = (o.rung == 2 || o.rung == 3)) ∧
  -- RESET_INSTANT (R230)
  (∀ (s : State), s.rcv.st = .reset → s.rcv.armed = true → s.rcv.rung = 3 → ∃ t, exec (.resetInstant none) s = .next t ∧ t.rcv.armed = false ∧
        t.rcv.rstPart = maskOf (s.rcv.scope.map s.partitionOf).eraseDups) ∧
  -- RESET_HOLD_END (R230)
  (∀ (s : State), s.stopped = false → ∃ t, exec (.resetHoldEnd none) s = .next t ∧ t.rcv.rstPart = 0 ∧ t.rcv.rstChip = false) ∧
  -- RESET_HOLD_END (R230)
  (∀ (region : Nat) (o : RungOrder) (s : State), (s.hub region).wd.order = some o → (s.hub region).stopLeaf = false → o.st = .holding → ∃ t,
        exec (.resetHoldEnd (some region)) s = .next t ∧ (t.hub region).wd.rstCtx = none ∧ (t.hub region).wd.rstEng = false ∧
        (t.hub region).wd.order.map (fun x => (x.st, x.left)) = some (if o.rung = 1 ∧ o.left.drop 1 ≠ [] then .gap else .settle, o.left.drop 1)) ∧
  -- RCV_DONE (R229)
  (∀ (region held case other : Nat) (s : State), s.rcv.st = .reset → s.rcv.case = case → s.rcv.scope.contains region = true → s.rcv.rung < 5 →
        s.rcv.scope.contains other = true → (union s.rcv.doneFrom [region]).contains other = false → ∃ t,
        exec (.rcvDone region true held case) s = .next t ∧ t.rcv.doneFrom = union s.rcv.doneFrom [region]) ∧
  -- RCV_DONE_TIMEOUT (R229)
  (∀ (region : Nat) (s : State), s.rcv.st = .reset → s.stopped = false → s.rcv.rung < 3 → s.rcv.scope.contains region = true →
        s.rcv.doneFrom.contains region = false → ∃ t, exec (.rcvDoneTimeout region) s = .next t ∧ t.rcv.rung = s.rcv.rung + 1) ∧
  -- RCV_GRANT (R233)
  (∀ (region tenant : Nat) (s : State), (s.contextsOf region).contains tenant = true → ∃ t, exec (.rcvGrant region tenant 1) s = .next t ∧ ((t.hub region).wd.ctxOf tenant).parked = true ∧
        ((t.hub region).wd.ctxOf tenant).granted = false ∧ ((t.hub region).wd.ctxOf tenant).suspect = true) ∧
  -- REPLAY_TIMEOUT (R234)
  (∀ (u region : Nat) (s : State), s.rcv.st = .replay → s.rcv.granted = some u → s.rcv.suspects = [(u, region, .granted)] → s.rcv.waiting = [] →
        s.stopped = false → ∃ t, exec (.replayTimeout) s = .next t ∧ t.rcv.st = .idle ∧ t.rcv.granted = none ∧
        t.get Reg.RCV_LAST_RESULT 0 = 0 ∧ msgRcvGrant region u 2 ∈ t.flue)

/-- Concordance ports: hello, heartbeats, retransmission, link state, restart and dropped messages. HELLO is sent and a valid one brings the port UP; heartbeats keep it, and one of a sealed peer leaves it; a retransmit round is counted; the link input is recorded; RESTART starts a new session; a damaged message sets CRC and raises 0x501, another drop is counted. Read from R249, R252, R255, R257. Choices: Timer commands act whenever their state holds (92, DESIGN CHOICE). -/
def Obligations.LinkSessionCommands : Prop :=
  -- HELLO_TICK (R252)
  (∀ (clp : Nat) (s : State), (s.port clp).st = .hello → s.isSealed = false → (s.port clp).linkUp = true → (s.port clp).txReady = true →
        (s.port clp).wait = [] → s.pwr.state ≠ .pdStop → ∃ t, exec (.helloTick clp) s = .next t ∧
        .clp clp (s.linkMessage clp (.hello (s.get Reg.KILN_ID_VERSION 0) (s.offeredCr clp) (s.on Reg.CCD_GCTRL_DOLMODE 0)) (s.port clp).txNext false) ∈ t.pulses) ∧
  -- HELLO (R252)
  (∀ (clp rel cr : Nat) (h : ClpHdr) (dol : Bool) (s : State), (s.port clp).st = .hello → s.isSealed = false → s.helloValid clp h cr = true →
        h.seen = true → h.psess = (s.port clp).sess → (s.port clp).unseq < 2 → ∃ t, exec (.hello clp h rel cr dol) s = .next t ∧ (t.port clp).st = .up ∧
        (t.port clp).rxNext = 0 ∧ (t.port clp).psess = h.sess) ∧
  -- HEARTBEAT (R257)
  (∀ (clp : Nat) (h : ClpHdr) (s : State), s.linkHears clp h = true → ∃ t, exec (.heartbeat clp h false) s = .next t ∧
        (t.port clp).heard = true ∧ (t.port clp).heardInRounds = true) ∧
  -- HEARTBEAT (R257)
  (∀ (clp : Nat) (h : ClpHdr) (s : State), s.linkHears clp h = true → ∃ t, exec (.heartbeat clp h true) s = .next t ∧ (t.port clp).st = .hello ∧
        (t.port clp).psess = 0) ∧
  -- HEARTBEAT_TICK (R257)
  (∀ (clp : Nat) (s : State), (s.port clp).st = .up ∨ (s.port clp).st = .disputed → (s.port clp).linkUp = true →
        (s.port clp).txReady = true → (s.port clp).wait = [] → s.pwr.state ≠ .pdStop → ¬ (s.rcv.rung = 5 ∧ s.rcv.st = .reset) → ∃ t,
        exec (.heartbeatTick clp) s = .next t ∧ .clp clp (s.linkMessage clp (.heartbeat s.isSealed) (s.port clp).txNext false) ∈ t.pulses ∧
        (t.port clp).ackDue = false) ∧
  -- RETRANSMIT_TIMEOUT (R255)
  (∀ (clp : Nat) (s : State), (s.port clp).st = .up → (s.port clp).unacked ≠ [] → s.isSealed = false → (s.port clp).rounds < 8 → ∃ t,
        exec (.retransmitTimeout clp) s = .next t ∧ (t.port clp).rounds = (s.port clp).rounds + 1 ∧
        (t.port clp).unacked = (s.port clp).unacked ∧ t.get Reg.CCD_EVENT_RETX clp = 1) ∧
  -- LINK_UP_CHANGE (R252)
  (∀ (clp ps : Nat) (up ready : Bool) (s : State), ∃ t, exec (.linkUpChange clp ⟨up, ready⟩ ps) s = .next t ∧ (t.port clp).linkUp = up ∧
        (t.port clp).txReady = ready ∧ (t.port clp).linkPs = wrap 2 ps ∧ (t.port clp).st = (s.port clp).st) ∧
  -- CCD_RESTART (R252)
  (∀ (clp ten tag : Nat) (s : State), s.admits ten tag none = true → (s.port clp).st = .disputed ∨ (s.port clp).st = .refused → ∃ t,
        exec (.ccdRestart clp ten tag) s = .next t ∧ (t.port clp).st = .hello ∧ (t.port clp).sess = nextSkipZero 8 (s.port clp).sess ∧
        (t.port clp).psess = 0 ∧ .ghpRs (wrap 6 tag) 0 0 ∈ t.pulses) ∧
  -- CLP_MESSAGE_DROPPED (R249)
  (∀ (clp seq : Nat) (s : State), (s.port clp).st ≠ .disabled → ∃ t, exec (.clpMessageDropped clp seq true) s = .next t ∧
        t.get Reg.CCD_EVENT_CRC clp = 1 ∧ t.flt.queue.getLast?.map (fun m => (m.kind, m.addr)) = some (0x501, wrap 48 (wrap 16 seq))) ∧
  -- CLP_MESSAGE_DROPPED (R249)
  (∀ (clp seq : Nat) (s : State), (s.port clp).st ≠ .disabled → s.get Reg.CCD_DROPCNT_COUNT clp = 0 → ∃ t,
        exec (.clpMessageDropped clp seq false) s = .next t ∧ t.get Reg.CCD_DROPCNT_COUNT clp = 1 ∧ t.flt = s.flt)

/-- Concordance messages: SEAL, RECALL, ROLE, FPREP, FVOTE, FSEAL and FVOID. A SEAL enters the binding's history; a RECALL without dependents clears it; ROLE matches or withdraws bindings; FPREP's last part makes a cross-chip Folio; a vote is counted, and a no voids with its code; FSEAL fixes the instant in local GT; FVOID voids. Read from R259, R261, R263, R269, R270. Choices: A received message's buffer is free at once, so RXNEXT advances (45, DESIGN CHOICE). -/
def Obligations.ConcordanceMessages : Prop :=
  -- SEAL (R261)
  (∀ (clp job epoch slice digest : Nat) (h : ClpHdr) (b : Binding) (s : State), s.linkInTurn clp h false = true →
        (s.port clp).matchedBinding job slice = some b → b.history = [] → ∃ t, exec (.sealMsg clp h job epoch slice digest) s = .next t ∧
        (t.port clp).bindings.any (fun x => x.isOf b.job b.slice && x.history == [(epoch, digest >>> 192)] && x.newest == some digest && x.highe == max b.highe epoch) = true ∧
        (t.port clp).rxNext = wrap 16 ((s.port clp).rxNext + 1)) ∧
  -- RECALL (R263)
  (∀ (clp job first last slice origin rid cause : Nat) (h : ClpHdr) (b : Binding) (s : State), s.linkInTurn clp h false = true →
        (s.port clp).matchedBinding job slice = some b → first ≤ last → last ≤ b.highe → s.link.recalls.contains (origin, rid) = false →
        s.dependents b first = [] → ∃ t, exec (.recallMsg clp h job first last slice origin rid cause) s = .next t ∧
        t.link.recalls = ((origin, rid) :: s.link.recalls).take 64 ∧
        (t.port clp).bindings.any (fun x => x.isOf b.job b.slice && x.history == b.history.filter (fun e => !decide (first ≤ e.1 ∧ e.1 ≤ last))) = true) ∧
  -- ROLE (R259)
  (∀ (clp job slice pslice : Nat) (withdraw : Bool) (h : ClpHdr) (s : State), s.linkInTurn clp h false = true →
        (s.port clp).bindings.any (fun b => b.job == job && b.slice == pslice && b.pslice == slice) = true → ∃ t,
        exec (.role clp h job slice pslice withdraw) s = .next t ∧
        (t.port clp).bindings = (s.port clp).bindings.map (fun b => if (fun b => b.job == job && b.slice == pslice && b.pslice == slice) b then { b with st := if withdraw then .declared else .matched } else b)) ∧
  -- FPREP (R270)
  (∀ (clp folio nact : Nat) (acts : List Flit) (h : ClpHdr) (s : State), s.linkInTurn clp h false = true → ∃ t,
        exec (.fprep clp h folio 0 false nact acts) s = .next t ∧ (folio, acts.map Act.ofFlit) ∈ (t.port clp).preps) ∧
  -- FPREP (R270)
  (∀ (clp folio : Nat) (acts : List Flit) (h : ClpHdr) (s : State), s.linkInTurn clp h false = true → (s.port clp).thetaValid = true → acts ≠ [] →
        (acts.map Act.ofFlit).all (fun a => a.act == 0x30 || a.act == 0x31) = true → s.collidingFolio clp = none → s.hasPlace false = true →
        s.fl.waiting = [] → ∃ t, exec (.fprep clp h folio 0 true acts.length acts) s = .next t ∧
        (t.folio s.fl.next).map (fun f => (f.peernum, f.link, f.xchip)) = some (folio, some clp, true)) ∧
  -- FVOTE (R269)
  (∀ (clp folio lnum other : Nat) (f : FolioRec) (h : ClpHdr) (answer : Bool) (s : State), s.linkInTurn clp h answer = true → s.folio folio = some f →
        f.number = folio → f.st = .prepared → f.peernum = 0 → f.parts.contains (peerPart clp) = true → f.yes.contains (peerPart clp) = false →
        f.parts.contains other = true → f.yes.contains other = false → other ≠ peerPart clp → ∃ t,
        exec (.fvote clp h folio 0 lnum answer) s = .next t ∧ (t.folio folio).map (·.yes) = some (f.yes ++ [peerPart clp]) ∧
        (t.port clp).strikes = []) ∧
  -- FVOTE (R269)
  (∀ (clp folio code lnum : Nat) (f : FolioRec) (h : ClpHdr) (answer : Bool) (s : State), s.linkInTurn clp h answer = true → s.folio folio = some f →
        f.number = folio → f.st = .prepared → f.peernum = 0 → f.parts = [peerPart clp] → f.origin = 0 → code ≠ 0 → s.fl.waiting = [] → ∃ t,
        exec (.fvote clp h folio code lnum answer) s = .next t ∧
        (t.folio folio).map (fun x => (x.st, x.vreason, x.voidlink)) = some (.void, code, clp) ∧ t.get Reg.FOLIO_EVENT_VOID 0 = 1) ∧
  -- FSEAL (R270)
  (∀ (clp folio t0 : Nat) (replay : Bool) (f : FolioRec) (h : ClpHdr) (s : State), s.linkInTurn clp h false = true →
        s.folios.find? (fun f => f.link == some clp && f.peernum == folio && f.st == .prepared && (f.answered || f.xvoid)) = some f →
        f.parts.all f.coordinator.contains = false → ∃ t,
        exec (.fseal clp h folio t0 replay) s = .next t ∧ (t.folio f.number).map (fun x => (x.st, x.sealt)) = some (.decided, s.localT clp t0)) ∧
  -- FVOID (R270)
  (∀ (clp folio reason : Nat) (f : FolioRec) (h : ClpHdr) (s : State), s.linkInTurn clp h false = true →
        (s.peerFolios clp).find? (fun f => f.peernum == folio) = some f → f.origin = 0 → s.folio f.number = some f →
        s.fl.waiting = [] → ∃ t, exec (.fvoid clp h folio reason) s = .next t ∧ (t.folio f.number).map (fun x => (x.st, x.vreason)) = some (.void, reason) ∧
        t.get Reg.FOLIO_EVENT_VOID 0 = 1)

/-- Concordance ports: the clock pair, disputes, loss, back-off and cross-chip requests. The three TPAIR messages give θ and δ as the rule computes them; pairs start, time out and expire; DISPUTE holds the port and is resent; a loss leads to HELLO or stays disputed; epoch, back-off and in-doubt timers; XROLE and XSPARE requests queue a cross-chip Folio. Read from R252, R264, R265, R266, R268, R270, R272, R274, R275, R278. Choices: Slices of a binding are matched as in 40 (DEDUCED); the back-off draws as in 106 (DEDUCED). Timer commands act whenever their state holds (92, DESIGN CHOICE). -/
def Obligations.LinkClockAndDispute : Prop :=
  -- TPAIR (R265)
  (∀ (clp pid t1 t2 t3 theta delta : Nat) (h : ClpHdr) (s : State), s.linkHears clp h = true → ∃ t,
        exec (.tpair clp h 0 pid t1 t2 t3 theta delta) s = .next t ∧ (t.port clp).pairWait = some pid) ∧
  -- TPAIR (R265)
  (∀ (clp pid t1 t2 t3 theta delta : Nat) (h : ClpHdr) (s : State), s.linkHears clp h = true → (s.port clp).unacked = [] →
        (s.port clp).queue = [] → (s.port clp).pairT1 = some t1 →
        (s.port clp).pairId = pid →
        (Int.ofNat s.gt - Int.ofNat t1) - (Int.ofNat t3 - Int.ofNat t2) ≤ Int.ofNat (s.get Reg.CCD_TPCTRL_TPMAX 0) → ∃ t,
        exec (.tpair clp h 1 pid t1 t2 t3 theta delta) s = .next t ∧
        (t.port clp).theta = (((Int.ofNat t2 - Int.ofNat t1) + (Int.ofNat t3 - Int.ofNat s.gt)) / 2) ∧ (t.port clp).thetaValid = true ∧
        (t.port clp).pairT1 = none) ∧
  -- TPAIR (R265)
  (∀ (clp pid t1 t2 t3 theta delta : Nat) (h : ClpHdr) (s : State), s.linkHears clp h = true → (s.port clp).unacked = [] →
        (s.port clp).queue = [] → (s.port clp).pairWait = some pid →
        delta ≤ s.get Reg.CCD_TPCTRL_TPMAX 0 → ∃ t, exec (.tpair clp h 2 pid t1 t2 t3 theta delta) s = .next t ∧
        (t.port clp).theta = - signed 64 theta ∧ (t.port clp).delta = delta ∧ (t.port clp).thetaValid = true ∧ (t.port clp).pairWait = none) ∧
  -- TPAIR_TICK (R265)
  (∀ (clp : Nat) (s : State), (s.port clp).st = .up → s.isPrimary clp = true → s.isSealed = false → (s.port clp).linkUp = true →
        (s.port clp).txReady = true → (s.port clp).wait = [] → s.pwr.state ≠ .pdStop → ∃ t, exec (.tpairTick clp) s = .next t ∧
        (t.port clp).pairT1 = some s.gt ∧ (t.port clp).pairId = wrap 8 ((s.port clp).pairId + 1)) ∧
  -- TPAIR_TIMEOUT (R266)
  (∀ (clp : Nat) (s : State), ∃ t, exec (.tpairTimeout clp) s = .next t ∧ (t.port clp).pairT1 = none ∧ (t.port clp).pairWait = none) ∧
  -- THETA_EXPIRY (R266)
  (∀ (clp : Nat) (s : State), ∃ t, exec (.thetaExpiry clp) s = .next t ∧ (t.port clp).thetaValid = false ∧
        (t.port clp).theta = (s.port clp).theta) ∧
  -- DISPUTE (R252)
  (∀ (clp cause job ref ev1 ev2 : Nat) (h : ClpHdr) (s : State), s.linkHears clp h = true → ∃ t,
        exec (.dispute clp h cause job ref ev1 ev2) s = .next t ∧ (t.port clp).st = .disputed ∧ (t.port clp).dcause = 7 ∧
        (t.port clp).disp.seq = h.seq ∧ t.get Reg.CCD_EVENT_DISPUTE clp = 1) ∧
  -- DISPUTE_RESEND (R274)
  (∀ (clp : Nat) (s : State), (s.port clp).st = .disputed → 0 < (s.port clp).disputeLeft → s.isSealed = false → ∃ t,
        exec (.disputeResend clp) s = .next t ∧ (t.port clp).disputeLeft = (s.port clp).disputeLeft - 1 ∧ (t.port clp).st = .disputed) ∧
  -- PEER_LOSS (R275)
  (∀ (clp : Nat) (s : State), (s.port clp).st = .up → ∃ t, exec (.peerLoss clp) s = .next t ∧ (t.port clp).st = .hello ∧
        (t.port clp).psess = 0 ∧ (t.port clp).thetaValid = false) ∧
  -- PEER_LOSS (R275)
  (∀ (clp : Nat) (s : State), (s.port clp).st = .disputed → ∃ t, exec (.peerLoss clp) s = .next t ∧ (t.port clp).st = .disputed ∧
        (t.port clp).peerGone = true) ∧
  -- EPOCH_TIMEOUT (R264)
  (∀ (clp job slice : Nat) (b : Binding) (s : State), (s.port clp).bindings.find? (fun b => b.isOf job slice) = some b → s.lagging b = true →
        b.waiting = false → ∃ t, exec (.epochTimeout clp job slice) s = .next t ∧
        (t.port clp).bindings.any (fun x => x.isOf job slice && x.waiting) = true ∧ t.get Reg.CCD_EVENT_EPTMO clp = 1) ∧
  -- COLLISION_BACKOFF (R272)
  (∀ (q : XReq) (s : State), s.link.req = some q → q.backoff = true → ∃ t, exec (.collisionBackoff) s = .next t ∧
        t.link.req = some { q with backoff := false }) ∧
  -- INDOUBT_TIMEOUT (R270)
  (∀ (clp folio : Nat) (s : State), (s.port clp).st = .up → ∃ t, exec (.indoubtTimeout clp folio) s = .next t ∧
        (t.port clp).inDoubt = (s.port clp).inDoubt.filter (fun e => e.1 != folio)) ∧
  -- CCD_XREQ_XROLE (R268)
  (∀ (clp job slice newclp ten tag : Nat) (withdraw : Bool) (s : State), s.admits ten tag none = true → s.on Reg.CCD_XREQST_BUSY 0 = false →
        withdraw = true ∨ wrap 5 clp ≠ wrap 5 newclp → s.linkReady (wrap 5 clp) = true → s.hasPlace false = true → s.fl.waiting = [] → ∃ t,
        exec (.ccdXreqXrole clp job slice newclp withdraw ten tag) s = .next t ∧ t.get Reg.CCD_XREQST_BUSY 0 = 1 ∧
        (t.folio s.fl.next).map (fun f => (f.st, f.xchip, f.acts)) = some (.queued, true, [{ act := 0x30, region := 0x7FF, col := 4, row := wrap 5 clp, arg := pack [(0, 32, job), (32, 12, slice), (44, 5, wrap 5 newclp), (49, 1, flag withdraw)] }]) ∧
        .ghpRs (wrap 6 tag) 0 0 ∈ t.pulses) ∧
  -- CCD_XREQ_XSPARE (R278)
  (∀ (clp job slice newclp ten tag : Nat) (s : State), s.admits ten tag none = true → s.on Reg.CCD_XREQST_BUSY 0 = false →
        s.on Reg.CCD_GCTRL_DOLMODE 0 = false → wrap 5 clp ≠ wrap 5 newclp → s.linkReady (wrap 5 newclp) = true → s.hasPlace false = true →
        s.fl.waiting = [] → ∃ t, exec (.ccdXreqXspare clp job slice newclp ten tag) s = .next t ∧ t.get Reg.CCD_XREQST_BUSY 0 = 1 ∧
        (t.folio s.fl.next).map (fun f => (f.st, f.xchip, f.acts)) = some (.queued, true, [{ act := 0x31, region := 0x7FF, col := 4, row := wrap 5 clp, arg := pack [(0, 32, job), (32, 12, slice), (44, 5, wrap 5 newclp), (49, 1, 0)] }]) ∧
        .ghpRs (wrap 6 tag) 0 0 ∈ t.pulses)

/-- A tenant's epoch and Colophon requests: SEAL, DISCARD, REWIND, RESTART, the record tail and REQ. SEAL and DISCARD of the open epoch start a close; REWIND goes back to a sealed epoch and its chain value; RESTART begins a new range; the tail is stored; a Colophon request takes its range. Read from R290, R292, R293, R297, R300. Choices: A write of one field leaves the others (98, DESIGN CHOICE). -/
def Obligations.EpochRequests : Prop :=
  -- EPOCH_SEAL (R290)
  (∀ (tenant epoch ten tag : Nat) (s : State), s.admits ten tag (some tenant) = true → s.tenantActive tenant = true →
        s.on Reg.TEN_EP_STATUS_BUSY tenant = false → (s.ep tenant).active = true → wrap 32 epoch = s.get Reg.TEN_EP_STATUS_OPEN tenant →
        ((s.regionsOfTenant tenant).filter (fun r => !s.lost.contains r)) ≠ [] → ∃ t, exec (.epochSeal tenant epoch ten tag) s = .next t ∧
        ((t.ep tenant).close.map (fun c => (c.op, c.epoch)) = some (0, wrap 32 epoch) ∧ ((t.ep tenant).close.map (·.phase) = some .cutting ∨ tenant ∈ t.colo.order) ∧ t.get Reg.TEN_EP_STATUS_BUSY tenant = 1 ∧ .ghpRs (wrap 6 tag) 0 0 ∈ t.pulses)) ∧
  -- EPOCH_DISCARD (R290)
  (∀ (tenant epoch ten tag : Nat) (s : State), s.admits ten tag (some tenant) = true → s.tenantActive tenant = true →
        s.on Reg.TEN_EP_STATUS_BUSY tenant = false → (s.ep tenant).active = true → wrap 32 epoch = s.get Reg.TEN_EP_STATUS_OPEN tenant →
        ((s.regionsOfTenant tenant).filter (fun r => !s.lost.contains r)) ≠ [] → ∃ t, exec (.epochDiscard tenant epoch ten tag) s = .next t ∧
        ((t.ep tenant).close.map (fun c => (c.op, c.epoch)) = some (1, wrap 32 epoch) ∧ ((t.ep tenant).close.map (·.phase) = some .cutting ∨ tenant ∈ t.colo.order) ∧ t.get Reg.TEN_EP_STATUS_BUSY tenant = 1 ∧ .ghpRs (wrap 6 tag) 0 0 ∈ t.pulses)) ∧
  -- EPOCH_REWIND (R300)
  (∀ (tenant epoch top ten tag : Nat) (r : RingRec) (s : State), s.admits ten tag (some tenant) = true → s.tenantActive tenant = true →
        s.on Reg.TEN_EP_STATUS_BUSY tenant = false → (s.ep tenant).active = true → s.lastSealed tenant = some top → wrap 32 epoch ≤ top →
        (s.ep tenant).first ≤ wrap 32 epoch → (s.ep tenant).epochRec (wrap 32 epoch) = some r → s.recInRing tenant r = true → ∃ t,
        exec (.epochRewind tenant epoch true ten tag) s = .next t ∧ t.get Reg.TEN_EP_LAST_EPOCH tenant = wrap 32 epoch ∧
        t.get Reg.TEN_EP_STATUS_OPEN tenant = wrap 32 (wrap 32 epoch + 1) ∧
        t.get Reg.TEN_EP_CHAIN_HEAD tenant = wrap Reg.TEN_EP_CHAIN_HEAD.w r.chain ∧ t.get Reg.TEN_EP_STATUS_RESULT tenant = 0 ∧
        .ghpRs (wrap 6 tag) 0 0 ∈ t.pulses) ∧
  -- EPOCH_RESTART (R292)
  (∀ (tenant epoch ten tag : Nat) (s : State), s.admits ten tag (some tenant) = true → s.tenantActive tenant = true →
        s.on Reg.TEN_EP_STATUS_BUSY tenant = false → (s.ep tenant).active = true → ∃ t, exec (.epochRestart tenant epoch ten tag) s = .next t ∧
        (t.ep tenant).first = wrap 32 epoch ∧ (t.ep tenant).hasSealed = false ∧ t.get Reg.TEN_EP_STATUS_OPEN tenant = wrap 32 epoch ∧
        t.get Reg.TEN_EP_STATUS_RESULT tenant = 0 ∧ .ghpRs (wrap 6 tag) 0 0 ∈ t.pulses) ∧
  -- TEN_REC_TAIL_WRITE (R293)
  (∀ (tenant offset ten tag : Nat) (s : State), s.admits ten tag (some tenant) = true → s.tenantActive tenant = true →
        (s.ep tenant).close = none → ∃ t, exec (.tenRecTailWrite tenant offset ten tag) s = .next t ∧
        t.get Reg.TEN_REC_TAIL_OFFSET tenant = wrap Reg.TEN_REC_TAIL_OFFSET.w offset ∧ .ghpRs (wrap 6 tag) 0 0 ∈ t.pulses) ∧
  -- COLOPHON_REQUEST (R297)
  (∀ (tenant a b ten tag : Nat) (s : State), s.admits ten tag (some tenant) = true → s.tenantActive tenant = true →
        s.on Reg.TEN_COLO_STATUS_BUSY tenant = false → s.coloRange tenant = some (a, b) → s.vault.st ≠ .error → ∃ t,
        exec (.colophonRequest tenant ten tag) s = .next t ∧ (t.ep tenant).colo = some { a := a, b := b } ∧
        t.get Reg.TEN_COLO_STATUS_BUSY tenant = 1 ∧ .ghpRs (wrap 6 tag) 0 0 ∈ t.pulses)

/-- Closing an epoch: cuts, layer and coverage reports, parts, the hash and the timeouts. EP_CUT asks every probe of the tenant; DG_CUT reports and clears a probe's accumulation; layers and coverage are added; the last coverage sends the part; the last part starts the hash; the hash ends the close with result 0, a missing part with 2, a full record ring with 3. Read from R287, R290, R291. Choices: A failed close keeps what its hubs sent (47, DEDUCED). Receive commands act whether or not the message was in flight (91) and timer commands whenever their state holds (92), DESIGN CHOICE. -/
def Obligations.EpochContributions : Prop :=
  -- EP_CUT (R290)
  (∀ (region tenant epoch : Nat) (discard : Bool) (s : State), (s.hub region).cat.holders.any (fun e => e.2.contains tenant) = true →
        s.probesOf region tenant ≠ [] → ∃ t, exec (.epCut region tenant discard epoch) s = .next t ∧
        tget tenant (t.hub region).ep.cuts = some (s.probesOf region tenant).length ∧ ∀ p ∈ s.probesOf region tenant,
        msgDgCut region p (s.accOf region p) tenant discard ∈ t.flue) ∧
  -- EP_CUT (R290)
  (∀ (region tenant epoch : Nat) (discard : Bool) (s : State), (s.hub region).cat.holders.any (fun e => e.2.contains tenant) = false → ∃ t,
        exec (.epCut region tenant discard epoch) s = .next t ∧ t = s) ∧
  -- DG_CUT (R290)
  (∀ (region tile acc tenant i : Nat) (discard : Bool) (s : State), s.reaches region tile acc = true →
        (s.probe region tile).ctxOf tenant = some i → ∃ t, exec (.dgCut region tile acc tenant discard) s = .next t ∧
        (t.probe region tile).accum i = { layer := ((s.probe region tile).accum i).layer } ∧
        msgDgCover region tile tenant ((s.probe region tile).accum i).macs ((s.probe region tile).accum i).elems ∈ t.flue) ∧
  -- DG_CUT (R290)
  (∀ (region tile acc tenant : Nat) (discard : Bool) (s : State), s.reaches region tile acc = true → (s.probe region tile).ctxOf tenant = none →
        ∃ t, exec (.dgCut region tile acc tenant discard) s = .next t ∧ msgDgReport region tile tenant 0 0 0 true 0 0 0 0 ∈ t.flue ∧
        msgDgCover region tile tenant [0, 0, 0, 0] [0, 0, 0, 0] ∈ t.flue) ∧
  -- DG_REPORT (R287)
  (∀ (region tile tenant layer dA dB nslot nchunk nmvslot nmvchunk : Nat) (cut : Bool) (s : State), nslot ≠ 0 ∨ nmvslot ≠ 0 →
        tget (65536 * wrap 12 tenant + wrap 16 layer) (s.hub region).ep.layers = none → (s.hub region).ep.layers.length < 512 → ∃ t,
        exec (.dgReport region tile tenant layer dA dB cut nslot nchunk nmvslot nmvchunk) s = .next t ∧
        tget (65536 * wrap 12 tenant + wrap 16 layer) (t.hub region).ep.layers = some (LayerEntry.add {} { dA := dA, dB := dB, nslot := nslot, nchunk := nchunk, nmvslot := nmvslot, nmvchunk := nmvchunk })) ∧
  -- DG_COVER (R287)
  (∀ (region tile tenant n : Nat) (macs elems : List Nat) (s : State), tget tenant (s.hub region).ep.cuts = some n → 1 < n → ∃ t,
        exec (.dgCover region tile tenant macs elems) s = .next t ∧ tget tenant (t.hub region).ep.cuts = some (n - 1) ∧
        tget tenant (t.hub region).ep.cover = some ((tgetD {} tenant (s.hub region).ep.cover).add { macs := macs ++ [0], elems := elems ++ [0, 0] })) ∧
  -- DG_COVER (R287)
  (∀ (region tile tenant : Nat) (macs elems : List Nat) (s : State), tget tenant (s.hub region).ep.cuts = some 1 → ∃ t,
        exec (.dgCover region tile tenant macs elems) s = .next t ∧ tget tenant (t.hub region).ep.cuts = none ∧
        tget tenant (t.hub region).ep.cover = none ∧ t.flue.any (fun m => m.op == (msgEpPart region tenant 0 true []).op) = true) ∧
  -- EP_PART (R290)
  (∀ (region tenant part other : Nat) (last : Bool) (payload : List Flit) (c : EpClose) (s : State), (s.ep tenant).close = some c →
        c.phase = .cutting → c.await.contains region = true → c.await.contains other = true → other ≠ region → ∃ t,
        exec (.epPart region tenant part last payload) s = .next t ∧
        (t.ep tenant).close.map (fun x => (x.phase, x.await, x.cover)) = some (.cutting, if last then c.await.filter (· != region) else c.await, if part = 0 then c.cover.add (coverOfFlits payload) else c.cover)) ∧
  -- EP_PART (R290)
  (∀ (region tenant : Nat) (payload : List Flit) (c : EpClose) (s : State), (s.ep tenant).close = some c → c.phase = .cutting →
        c.await = [region] → c.op = 0 → ∃ t, exec (.epPart region tenant 0 true payload) s = .next t ∧
        (t.ep tenant).close.map (·.phase) = some .hashing ∧ t.get Reg.TEN_EP_STATUS_CUT tenant = 1) ∧
  -- EPOCH_HASH_DONE (R290)
  (∀ (tenant : Nat) (c : EpClose) (s : State), (s.ep tenant).close = some c → c.phase = .hashing → (s.ep tenant).waiting = [] →
        s.recFits tenant ((128 + (128 + 32 * c.layers.length + 16 * (s.dependencyWord tenant).1) + 63) / 64 * 64) = true →
        s.bindingsOf tenant = [] → s.colo.order = [] → s.rcv.granted = none → (s.ep tenant).later = [] → ∃ t,
        exec (.epochHashDone tenant) s = .next t ∧ (t.ep tenant).hasSealed = true ∧ (t.ep tenant).close = none ∧
        t.get Reg.TEN_EP_LAST_EPOCH tenant = wrap 32 c.epoch ∧ t.get Reg.TEN_EP_STATUS_BUSY tenant = 0 ∧
        t.get Reg.TEN_EP_STATUS_RESULT tenant = 0) ∧
  -- EP_PART_TIMEOUT (R291)
  (∀ (tenant : Nat) (c : EpClose) (s : State), (s.ep tenant).close = some c → c.phase = .cutting → s.stopped = false → s.colo.order = [] →
        (s.ep tenant).later = [] → ∃ t, exec (.epPartTimeout tenant) s = .next t ∧ (t.ep tenant).close = none ∧
        t.get Reg.TEN_EP_STATUS_BUSY tenant = 0 ∧ t.get Reg.TEN_EP_STATUS_RESULT tenant = 2) ∧
  -- RECORD_RING_TIMEOUT (R291)
  (∀ (tenant : Nat) (c : EpClose) (s : State), (s.ep tenant).close = some c → c.phase = .ring → s.colo.order = [] → (s.ep tenant).later = [] →
        ∃ t, exec (.recordRingTimeout tenant) s = .next t ∧ (t.ep tenant).close = none ∧ t.get Reg.TEN_EP_STATUS_BUSY tenant = 0 ∧
        t.get Reg.TEN_EP_STATUS_RESULT tenant = 3)

/-- Energy: conversions, intervals, activity, models, anchors, marks and the supply. A conversion is recorded; an interval closes; activity is added per tenant; a region's model is kept; late and measured intervals are anchored; a hub takes its factor or 1.0 unanchored; a mark clears a probe's activity; a supply reading goes to every neighbour. Read from R310, R313, R314, R317, R318, R319, R328. Choices: A region that belongs to no channel keeps factor 1.0 (55, DESIGN CHOICE). Timer commands act whenever their state holds (92, DESIGN CHOICE). -/
def Obligations.EnergyCommands : Prop :=
  -- SENSE_CONVERSION (R310)
  (∀ (codes : List (Nat × Nat × Nat × Nat × Nat)) (n vsh vbus tvsh tvbus : Nat) (s : State), n < 8 →
        (tgetD ({} : SenseCh) n s.syncSense.tally.channels).st ≠ .off → codes.find? (fun c => c.1 == n) = some (n, vsh, vbus, tvsh, tvbus) →
        s.tally.cuts = [] → s.gt / s.period % 16 ≠ 0 → ∃ t, exec (.senseConversion codes) s = .next t ∧
        (tgetD ({} : SenseCh) n t.tally.channels).vsh = vsh ∧ (tgetD ({} : SenseCh) n t.tally.channels).vbus = vbus) ∧
  -- INTERVAL_END (R313)
  (∀ (region : Nat) (s : State),
        ((tget ((s.hub region).gt / (16 * s.period) * (16 * s.period)) (s.hub region).en.intervals).map (·.closed)).getD false = false → ∃ t,
        exec (.intervalEnd region) s = .next t ∧
        ((tget ((s.hub region).gt / (16 * s.period) * (16 * s.period)) (t.hub region).en.intervals).map (·.closed)).getD false = true ∧
        (t.hub region).en.lastEnd = (s.hub region).gt / (16 * s.period) * (16 * s.period)) ∧
  -- EN_ACT (R313)
  (∀ (region tile tenant gt : Nat) (isPartial : Bool) (counts : List Nat) (s : State),
        (tgetD {} gt (s.hub region).en.intervals).closed = false → (tgetD {} gt (s.hub region).en.intervals).done = false → ∃ t,
        exec (.enAct region tile tenant gt isPartial counts) s = .next t ∧
        tget tenant (tgetD {} gt (t.hub region).en.intervals).counts = some (sumCounts (tgetD zeroAct tenant (tgetD {} gt (s.hub region).en.intervals).counts) counts)) ∧
  -- EN_MODEL (R317)
  (∀ (region gt total mv : Nat) (s : State), s.tally.lastAnchor < gt → (tgetD {} gt s.tally.intervals).measured = false → ∃ t,
        exec (.enModel region gt total mv) s = .next t ∧ tget region (tgetD {} gt t.tally.intervals).models = some total) ∧
  -- EN_MODEL_TIMEOUT (R318)
  (∀ (gt : Nat) (s : State), s.tally.lastAnchor < gt → (tgetD {} gt s.tally.intervals).measured = false → ∃ t,
        exec (.enModelTimeout gt) s = .next t ∧ (tgetD {} gt t.tally.intervals).late = true) ∧
  -- EN_MODEL_TIMEOUT (R318)
  (∀ (gt : Nat) (k : KInterval) (s : State), tget gt s.tally.intervals = some k → k.measured = true → s.tally.sweep = none → ∃ t,
        exec (.enModelTimeout gt) s = .next t ∧ t.tally.lastAnchor = max gt s.tally.lastAnchor ∧ tget gt t.tally.intervals = none) ∧
  -- EN_ANCHOR (R319)
  (∀ (region gt mask : Nat) (factors : List Nat) (x : HubInterval) (s : State), tget gt (s.hub region).en.intervals = some x → x.done = true →
        x.sweep = none → s.channelFor region = none → ∃ t, exec (.enAnchor region gt mask factors) s = .next t ∧
        tget gt (t.hub region).en.intervals = none ∧ (t.hub region).en.factor = 2 ^ 20 ∧ t.get Reg.RH_EN_EVENT_UNANCH region = 1) ∧
  -- EN_ANCHOR (R319)
  (∀ (region gt mask n : Nat) (factors : List Nat) (x : HubInterval) (s : State), tget gt (s.hub region).en.intervals = some x → x.done = true →
        x.sweep = none → s.channelFor region = some n → ∃ t, exec (.enAnchor region gt mask factors) s = .next t ∧
        tget gt (t.hub region).en.intervals = none ∧ (t.hub region).en.factor = factors.getD n (2 ^ 20)) ∧
  -- EN_MARK (R328)
  (∀ (region tile acc instant : Nat) (s : State), s.reaches region tile acc = true → tget instant (s.hub region).en.intervals = none → ∃ t,
        exec (.enMark region tile acc instant) s = .next t ∧ (t.probe region tile).act = []) ∧
  -- SUPPLY_READING (R314)
  (∀ (region mv : Nat) (s : State), ∃ t, exec (.supplyReading region mv) s = .next t ∧ t.get Reg.RH_EN_VLOC_MV region = wrap 12 mv ∧
        (t.hub region).en.vnum = (s.hub region).en.vnum + 1 ∧ (t.hub region).en.vsum = (s.hub region).en.vsum + wrap 12 mv ∧
        ∀ n ∈ s.neighbours region, msgPwNb region n (wrap 12 mv) ∈ t.flue)

/-- Heat and neighbours: PW_NB, the thermal step, TH_NB, boundary repeats and re-execution after B4. Readings and estimates of neighbours are kept with age 0; a thermal step whose estimate fits 16 bits keeps it and sends it to every neighbour; a standing excess raises BOUNDARY again; BH_RERUN lists the BANDHELD slots and pulses retry one by one. Read from R320, R321, R326, R455. Choices: An estimate outside 16 bits is a free value (56, DESIGN CHOICE), and the clause on the step excludes it. Timer commands act whenever their state holds (92, DESIGN CHOICE). -/
def Obligations.HeatAndNeighbourCommands : Prop :=
  -- PW_NB (R455)
  (∀ (region from_ mv d : Nat) (s : State), s.dirTo region from_ = some d → d < (s.hub region).pw.vnb.length → ∃ t,
        exec (.pwNb region from_ mv) s = .next t ∧ (t.hub region).pw.vnb[d]? = some (some (wrap 12 mv), 0)) ∧
  -- THERMAL_STEP (R320)
  (∀ (region energy : Nat) (s : State), -32768 ≤ s.nextEstimate region energy → s.nextEstimate region energy ≤ 32767 → ∃ t,
        exec (.thermalStep region energy) s = .next t ∧ (t.hub region).en.est = some (unsigned 16 (s.nextEstimate region energy)) ∧
        ∀ n ∈ s.neighbours region, msgThNb region n (unsigned 16 (s.nextEstimate region energy)) ∈ t.flue) ∧
  -- TH_NB (R321)
  (∀ (region from_ x d : Nat) (s : State), s.dirTo region from_ = some d → d < (s.hub region).pw.tnb.length → ∃ t,
        exec (.thNb region from_ x) s = .next t ∧ (t.hub region).pw.tnb[d]? = some (some (wrap 16 x), 0)) ∧
  -- BOUNDARY_REPEAT (R455)
  (∀ (region dir : Nat) (s : State), bit (s.get Reg.RH_PW_STATUS_VEXC region) dir = true ∨ bit (s.get Reg.RH_PW_STATUS_TEXC region) dir = true →
        (s.hub region).flt.queue.length < 64 → ∃ t, exec (.boundaryRepeat region dir) s = .next t ∧
        (t.hub region).flt.queue.getLast?.map (fun m => (m.kind, m.addr)) = some (0x307, wrap 2 dir)) ∧
  -- BH_RERUN (R326)
  (∀ (region tile acc : Nat) (s : State), s.reaches region tile acc = true → ∃ t, exec (.bhRerun region tile acc) s = .next t ∧
        (t.probe region tile).bandRerun = (s.probe region tile).inOrder.filter (fun i => ((s.probe region tile).slot i).st == .bandheld)) ∧
  -- BANDHELD_RETRY_PULSE (R326)
  (∀ (region tile i : Nat) (rest : List Nat) (s : State), (s.probe region tile).bandRerun = i :: rest →
        ((s.probe region tile).slot i).st = .bandheld → ∃ t, exec (.bandheldRetryPulse region tile) s = .next t ∧
        (t.probe region tile).bandRerun = rest ∧ .retry region tile ((s.probe region tile).slot i).first.htag ∈ t.pulses)

/-- The Tally: sweeps, commits, statements, batches, the record tail and root signatures. A period proposes a sweep under the next number; reports are counted and the last one commits to the other bank; hubs commit or discard; a timeout discards with cause 1; a statement request is queued; a batch closes by time or by write; a root is handed to the Vault. Read from R328, R329, R332, R334, R335. Choices: A bank of statements is as in 107 (DEDUCED). Timer commands act whenever their state holds (92) and a write of one field leaves the others (98), DESIGN CHOICE. -/
def Obligations.TallyCommands : Prop :=
  -- SWEEP_PERIOD (R328)
  (∀ (s : State), s.get Reg.TLY_CTRL_PERIODMS 0 ≠ 0 → s.tally.sweep = none → s.isSealed = false → s.tally.wants = [] → s.tally.proposed = [] →
        ∃ t, exec (.sweepPeriod) s = .next t ∧ t.tally.proposed = [(s.get Reg.TLY_SWNUM_NEXT 0, { tenant := none })] ∧ t.tally.wants = [] ∧
        t.get Reg.TLY_SWNUM_NEXT 0 = nextSkipZero 32 (s.get Reg.TLY_SWNUM_NEXT 0)) ∧
  -- TL_REPORT (R328)
  (∀ (region part other : Nat) (last single flip : Bool) (entries : List (Nat × Bool × Nat)) (w : Sweep) (s : State), s.tally.sweep = some w →
        w.await.contains region = true → w.await.contains other = true → other ≠ region → ∃ t,
        exec (.tlReport region part last single w.number entries flip) s = .next t ∧
        t.tally.sweep.map (·.await) = some (if last then w.await.filter (· != region) else w.await)) ∧
  -- TL_REPORT (R328)
  (∀ (region part : Nat) (single : Bool) (entries : List (Nat × Bool × Nat)) (w : Sweep) (s : State), s.tally.sweep = some w →
        w.await = [region] → w.anchored = true → w.want.tenant = some 0 → w.want.purpose = 2 → s.tally.flipDue = false → s.tally.bank ≤ 1 →
        s.tally.banks.length = 2 → ∃ t, exec (.tlReport region part true single w.number entries false) s = .next t ∧ t.tally.flipDue = true ∧
        (t.tally.banks.getD (1 - s.tally.bank) {}).sweep = w.number ∧ t.tally.bank = s.tally.bank) ∧
  -- TL_COMMIT (R328)
  (∀ (region code sweep tenant : Nat) (single discard : Bool) (c : EnCounter) (s : State), tget 0 (s.hub region).en.counters = some c →
        c.pending = some (sweep, c.count) → ∃ t, exec (.tlCommit region discard code sweep single tenant) s = .next t ∧
        tget 0 (t.hub region).en.counters = some (if discard then { c with pending := none } else { c with base := c.count, ua := false, pending := none })) ∧
  -- SWEEP_TIMEOUT (R329)
  (∀ (w : Sweep) (s : State), s.tally.sweep = some w → w.await ≠ [] → s.stopped = false → w.want.tenant = none → s.tally.wants = [] → ∃ t,
        exec (.sweepTimeout) s = .next t ∧ t.tally.sweep = none ∧ t.get Reg.TLY_EVENT_DISCARD 0 = 1 ∧ t.get Reg.TLY_LAST_COMPLETE 0 = 0 ∧
        t.get Reg.TLY_LAST_CAUSE 0 = 1) ∧
  -- STATEMENT_REQUEST (R332)
  (∀ (tenant reqid ten tag : Nat) (s : State), s.admits ten tag (some tenant) = true → s.tenantActive tenant = true →
        s.on Reg.TEN_TLY_STATUS_BUSY tenant = false → (s.ep tenant).active = true → s.tally.reserved < 256 → ∃ t,
        exec (.statementRequest tenant reqid ten tag) s = .next t ∧ (tenant, wrap 64 reqid) ∈ t.tally.requests ∧
        t.get Reg.TEN_TLY_STATUS_BUSY tenant = 1 ∧ t.get Reg.TEN_TLY_REQ_REQID tenant = wrap Reg.TEN_TLY_REQ_REQID.w reqid ∧
        .ghpRs (wrap 6 tag) 0 0 ∈ t.pulses) ∧
  -- BATCH_TIMEOUT (R334)
  (∀ (b : Batch) (s : State), s.tally.batch = some b → ∃ t, exec (.batchTimeout) s = .next t ∧ t.tally.batch = none ∧
        { b with gt1 := s.gt } ∈ t.tally.unsigned ∧ t.get Reg.TLY_BATCHNUM_BATCH 0 = wrap Reg.TLY_BATCHNUM_BATCH.w b.number) ∧
  -- BATCH_CLOSE (R334)
  (∀ (ten tag : Nat) (b : Batch) (s : State), s.admits ten tag none = true → s.tally.batch = some b → ∃ t,
        exec (.batchClose ten tag) s = .next t ∧ t.tally.batch = none ∧ { b with gt1 := s.gt } ∈ t.tally.unsigned ∧
        t.get Reg.TLY_BATCHNUM_BATCH 0 = wrap Reg.TLY_BATCHNUM_BATCH.w b.number ∧ .ghpRs (wrap 6 tag) 0 0 ∈ t.pulses) ∧
  -- TLY_RTAIL_WRITE (R334)
  (∀ (offset ten tag : Nat) (s : State), s.admits ten tag none = true → ∃ t, exec (.tlyRtailWrite offset ten tag) s = .next t ∧
        t.get Reg.TLY_RTAIL_OFFSET 0 = wrap Reg.TLY_RTAIL_OFFSET.w offset ∧ .ghpRs (wrap 6 tag) 0 0 ∈ t.pulses) ∧
  -- SIGN_ROOT (R335)
  (∀ (b : Batch) (rest : List Batch) (s : State), s.asksVault = true → s.tally.unsigned = b :: rest → s.tally.signing = none →
        s.canSignRoot = true → ∃ t, exec (.signRoot) s = .next t ∧ t.tally.signing = some b.number ∧
        t.vault.queue = s.vault.queue ++ [.signRoot b.number] ∧ t.get Reg.TLY_STATUS_NOSIGN 0 = 0)

/-- The Vault's self-tests: at start, periodic and on STNOW. A passed start-up test leads to UNPROVISIONED without keys and takes a good banked image; a failed one leads to ERROR with its code; the periodic test starts by time or by STNOW, ends where it began, and leads to ERROR when it fails. Read from R345, R361. Choices: A token that comes during a test waits (112, DEDUCED), so the clauses speak of a Vault with none in hand. Timer commands act whenever their state holds (92, DESIGN CHOICE). -/
def Obligations.VaultTests : Prop :=
  -- VAULT_SELFTEST_DONE (R345)
  (∀ (s : State) (code : Nat) (bankOk aOk bOk : Bool), s.vault.st = .selftest → s.vault.banked = none → s.vault.blobs = [none, none] →
        s.vault.token = none → s.vault.nonceDue = [] → ∃ t, exec (.vaultSelftestDone 0 code bankOk aOk bOk) s = .next t ∧
        t.vault.st = .unprovisioned ∧ t.vault.cache = true ∧ t.get Reg.VLT_STATUS_BLOB 0 = 0) ∧
  -- VAULT_SELFTEST_DONE (R345)
  (∀ (i : KeyImage) (code : Nat) (aOk bOk : Bool) (s : State), s.vault.st = .selftest → s.vault.banked = some i → s.vault.token = none →
        s.vault.nonceDue = [] → ∃ t, exec (.vaultSelftestDone 0 code true aOk bOk) s = .next t ∧ t.vault.image = i ∧ t.vault.cache = true ∧
        t.get Reg.VLT_STATUS_BLOB 0 = 3) ∧
  -- VAULT_SELFTEST_DONE (R345)
  (∀ (kind code : Nat) (bankOk aOk bOk : Bool) (s : State), s.vault.st = .selftest → kind ≠ 0 → ∃ t,
        exec (.vaultSelftestDone kind code bankOk aOk bOk) s = .next t ∧ t.vault.st = .error ∧
        t.get Reg.VLT_STATUS_ERRCODE 0 = wrap Reg.VLT_STATUS_ERRCODE.w code) ∧
  -- PERIODIC_TEST_DUE (R361)
  (∀ (s : State), s.vault.st = .operational ∨ s.vault.st = .unprovisioned → ∃ t, exec (.periodicTestDue) s = .next t ∧ t.vault.st = .periodic ∧
        t.vault.back = s.vault.st) ∧
  -- STNOW (R361)
  (∀ (ten tag : Nat) (s : State), s.admits ten tag none = true → s.vault.st = .operational ∨ s.vault.st = .unprovisioned → ∃ t,
        exec (.stnow ten tag) s = .next t ∧ t.vault.st = .periodic ∧ t.vault.back = s.vault.st ∧ t.get Reg.VLT_CTRL_STNOW 0 = 1 ∧
        .ghpRs (wrap 6 tag) 0 0 ∈ t.pulses) ∧
  -- STNOW (R361)
  (∀ (ten tag : Nat) (s : State), s.admits ten tag none = true → s.vault.st = .entropyRaw → s.vault.testDue = false → ∃ t,
        exec (.stnow ten tag) s = .next t ∧ t.vault.st = s.vault.back ∧ t.vault.samples = 0 ∧ .ghpRs (wrap 6 tag) 0 0 ∈ t.pulses) ∧
  -- PERIODIC_TEST_DONE (R361)
  (∀ (s : State), s.vault.st = .periodic → s.vault.token = none → s.vault.nonceDue = [] → ∃ t, exec (.periodicTestDone 0) s = .next t ∧
        t.vault.st = s.vault.back ∧ t.get Reg.VLT_EVENT_PERIODIC 0 = 1 ∧ t.get Reg.VLT_CTRL_STNOW 0 = 0) ∧
  -- PERIODIC_TEST_DONE (R361)
  (∀ (code : Nat) (s : State), s.vault.st = .periodic → code ≠ 0 → ∃ t, exec (.periodicTestDone code) s = .next t ∧ t.vault.st = .error ∧
        t.get Reg.VLT_STATUS_ERRCODE 0 = wrap Reg.VLT_STATUS_ERRCODE.w code ∧ t.get Reg.VLT_STATUS_ERRKIND 0 = 1)

/-- The Vault's noise source and its tamper inputs. A healthy sample is counted; a first health failure restarts the start-up samples and sets HEALTH1; a second within the window leads to ERROR; a reseed restarts the generate count; ENTROPY_RAW ends; a glitch, scan mode and a key-store access lead to ERROR with their codes and clear the cache. Read from R345, R354, R362. Choices: The cutoffs of the health tests are PRESUMED (61); the clauses speak of a sample that passes or fails them, whatever they are. -/
def Obligations.VaultEntropyAndTamper : Prop :=
  -- ENTROPY_SAMPLE (R354)
  (∀ (sample : Nat) (s : State), s.vault.st ≠ .off → s.vault.st ≠ .error → (s.vault.health (wrap 1 sample)).2 = none → ∃ t,
        exec (.entropySample sample) s = .next t ∧ t.vault.samples = s.vault.samples + 1 ∧
        t.vault.rct = (s.vault.health (wrap 1 sample)).1.rct ∧ t.vault.apt = (s.vault.health (wrap 1 sample)).1.apt) ∧
  -- ENTROPY_SAMPLE (R354)
  (∀ (sample code : Nat) (s : State), s.vault.st ≠ .off → s.vault.st ≠ .error → (s.vault.health (wrap 1 sample)).2 = some code →
        s.vault.failGt = none → ∃ t, exec (.entropySample sample) s = .next t ∧ t.vault.samples = 0 ∧ t.vault.failGt = some s.gt ∧
        t.get Reg.VLT_EVENT_HEALTH1 0 = 1 ∧ t.vault.st = s.vault.st) ∧
  -- ENTROPY_SAMPLE (R354)
  (∀ (sample code g : Nat) (s : State), s.vault.st ≠ .off → s.vault.st ≠ .error → (s.vault.health (wrap 1 sample)).2 = some code →
        s.vault.failGt = some g → s.gt ≤ g + 250 * s.cfg.rclk → ∃ t, exec (.entropySample sample) s = .next t ∧ t.vault.st = .error ∧
        t.get Reg.VLT_STATUS_ERRKIND 0 = 1) ∧
  -- DRBG_RESEED (R354)
  (∀ (s : State), s.vaultServes = true → s.vault.mayReseed = true → ∃ t, exec (.drbgReseed) s = .next t ∧ t.vault.generates = 0) ∧
  -- ENTROPY_RAW_END (R345)
  (∀ (s : State), s.vault.st = .entropyRaw → s.vault.testDue = false → ∃ t, exec (.entropyRawEnd) s = .next t ∧ t.vault.st = s.vault.back ∧
        t.vault.samples = 0 ∧ t.get Reg.VLT_RAW_SAMPLES 0 = 0) ∧
  -- GLITCH_DETECT (R362)
  (∀ (s : State), s.vault.st ≠ .off → s.vault.st ≠ .error → ∃ t, exec (.glitchDetect) s = .next t ∧ t.vault.st = .error ∧
        t.vault.cache = false ∧ t.get Reg.VLT_STATUS_ERRCODE 0 = 2 ∧ t.get Reg.VLT_STATUS_ERRKIND 0 = 2) ∧
  -- SCAN_MODE_ENABLE (R362)
  (∀ (s : State), s.vault.st ≠ .off → s.vault.st ≠ .error → ∃ t, exec (.scanModeEnable) s = .next t ∧ t.vault.st = .error ∧
        t.vault.cache = false ∧ t.get Reg.VLT_STATUS_ERRCODE 0 = 1 ∧ t.get Reg.VLT_STATUS_ERRKIND 0 = 2) ∧
  -- KEY_STORE_PARTITION_ACCESS (R362)
  (∀ (s : State), s.vault.st ≠ .off → s.vault.st ≠ .error → ∃ t, exec (.keyStorePartitionAccess) s = .next t ∧ t.vault.st = .error ∧
        t.vault.cache = false ∧ t.get Reg.VLT_STATUS_ERRCODE 0 = 4 ∧ t.get Reg.VLT_STATUS_ERRKIND 0 = 2)

/-- Requests to the Vault and how it serves them. Each service asked for joins the queue; a served draw, rotation key and key generation give their answer and leave the queue; a failed pairwise test leads to ERROR. Read from R49, R297, R347, R352, R365, R402, R417. Choices: What a draw is, is a free value (6, DESIGN CHOICE); the key derivation is PRESUMED (7) and the clause names the model's function for it. -/
def Obligations.VaultRequests : Prop :=
  -- RANDOM (R347)
  (∀ (caller : Nat) (s : State), s.asksVault = true → ∃ t, exec (.random caller) s = .next t ∧ t.vault.queue = s.vault.queue ++ [.random caller]) ∧
  -- DERIVE_ROTKEY (R49)
  (∀ (region tenant : Nat) (s : State), s.asksVault = true → ∃ t, exec (.deriveRotkey region tenant) s = .next t ∧
        t.vault.queue = s.vault.queue ++ [.deriveRotkey region tenant]) ∧
  -- HMAC_RECORD (R347)
  (∀ (len data : Nat) (s : State), s.asksVault = true → ∃ t, exec (.hmacRecord len data) s = .next t ∧
        t.vault.queue = s.vault.queue ++ [.hmacRecord len data]) ∧
  -- HMAC_LEDGER (R402)
  (∀ (s : State), s.asksVault = true → s.ldg.closing.isSome = true → s.ldg.trailer = none →
        s.vault.queue.contains (.hmacLedger s.ldg.page) = false → ∃ t, exec (.hmacLedger) s = .next t ∧
        t.vault.queue = s.vault.queue ++ [.hmacLedger s.ldg.page]) ∧
  -- VERIFY_CHARTER (R417)
  (∀ (s : State), s.asksVault = true → s.bru.state = .load → s.vault.queue.contains .verifyCharter = false → ∃ t,
        exec (.verifyCharter) s = .next t ∧ t.vault.queue = s.vault.queue ++ [.verifyCharter]) ∧
  -- TENANT_KEYGEN (R352)
  (∀ (tenant : Nat) (s : State), s.asksVault = true → s.vault.queue.contains (.keygen tenant) = false → ∃ t,
        exec (.tenantKeygen tenant) s = .next t ∧ t.vault.queue = s.vault.queue ++ [.keygen tenant]) ∧
  -- TENANT_KEYDROP (R352)
  (∀ (tenant : Nat) (s : State), s.asksVault = true → s.vault.queue.contains (.keydrop tenant) = false → ∃ t,
        exec (.tenantKeydrop tenant) s = .next t ∧ t.vault.queue = s.vault.queue ++ [.keydrop tenant]) ∧
  -- SIGN_COLOPHON (R297)
  (∀ (tenant : Nat) (s : State), s.asksVault = true → (((s.ep tenant).colo.map (·.swept)).getD false) = true →
        s.vault.queue.contains (.signColophon tenant false) = false → ∃ t, exec (.signColophon tenant) s = .next t ∧
        t.vault.queue = s.vault.queue ++ [.signColophon tenant false]) ∧
  -- VAULT_SERVICE_DONE (R365)
  (∀ (pairwise caller : Nat) (s : State), s.vaultServes = true → s.vault.st ≠ .periodic → s.nextRequest = some (.random caller) →
        s.vault.outside = [] → s.vault.generates < 1048575 → ∃ t, exec (.vaultServiceDone pairwise) s = .next t ∧ t.vault.answer.map (fun a => (a.1, a.2.1)) = some (.random caller, true) ∧
        t.vault.queue = s.vault.queue.erase (.random caller) ∧ t.vault.generates = s.vault.generates + 1) ∧
  -- VAULT_SERVICE_DONE (R365)
  (∀ (pairwise region tenant : Nat) (s : State), s.vaultServes = true → s.vault.st ≠ .periodic →
        s.nextRequest = some (.deriveRotkey region tenant) → ∃ t, exec (.vaultServiceDone pairwise) s = .next t ∧
        t.vault.answer = some (.deriveRotkey region tenant, true, s.rotationKey region tenant)) ∧
  -- VAULT_SERVICE_DONE (R365)
  (∀ (tenant : Nat) (s : State), s.vaultServes = true → s.vault.st ≠ .periodic → s.nextRequest = some (.keygen tenant) → ∃ t,
        exec (.vaultServiceDone 0) s = .next t ∧ (tgetD {} (hColophon tenant) t.vault.keys).st = 1 ∧
        (tgetD {} (hColophon tenant) t.vault.keys).gen = (tgetD {} (hColophon tenant) s.vault.keys).gen + 1) ∧
  -- VAULT_SERVICE_DONE (R365)
  (∀ (pairwise tenant : Nat) (s : State), s.vaultServes = true → s.vault.st ≠ .periodic → s.nextRequest = some (.keygen tenant) → pairwise ≠ 0 →
        ∃ t, exec (.vaultServiceDone pairwise) s = .next t ∧ t.vault.st = .error ∧ t.get Reg.VLT_STATUS_ERRKIND 0 = 1)

/-- Tokens: nonces, the seven services and the rejections. A nonce is given and its life ends; a token that fits does the work of CLEAR, ZEROISE, PROVISION, REKEY_TALLY, REVOKE_OFFICER, DEBUG_UNLOCK or ENTROPY_RAW and answers APPROVED; a bad ECDSA signature, ML-DSA signature or format is rejected with reasons 6, 7 and 1 and raises 0x704. Read from R354, R356, R357, R358, R363, R406, R477. Choices: PROVISION starts the page numbers again (109, DEDUCED). A write of one field leaves the others (98, DESIGN CHOICE). -/
def Obligations.VaultTokens : Prop :=
  -- NONCE_REQUEST (R357)
  (∀ (service ten tag : Nat) (s : State), s.admits ten tag none = true → tokenService service = true → s.vaultServes = true →
        s.vault.st ≠ .periodic → ∃ t, exec (.nonceRequest service ten tag) s = .next t ∧
        (tget s.vault.nextSlot t.vault.slots).map (fun n => (n.service, n.gt, n.ended)) = some (service, s.gt, false) ∧
        t.get Reg.VLT_NONCE_SLOT 0 = wrap Reg.VLT_NONCE_SLOT.w s.vault.nextSlot ∧ .ghpRs (wrap 6 tag) 0 0 ∈ t.pulses) ∧
  -- NONCE_LIFETIME_END (R357)
  (∀ (slot : Nat) (n : NonceSlot) (s : State), tget slot s.vault.slots = some n → ∃ t, exec (.nonceLifetimeEnd slot) s = .next t ∧
        tget slot t.vault.slots = some { n with ended := true }) ∧
  -- LEDGER_CLEAR (R406)
  (∀ (ten tag : Nat) (s : State), s.admits ten tag none = true → s.tokenFits 1 = true → s.ldg.clearing = none → ∃ t,
        exec (.ledgerClear ten tag) s = .next t ∧ t.get Reg.VLT_TOKST_BUSY 0 = 0 ∧ t.get Reg.VLT_TOKST_RESULT 0 = 0 ∧
        t.get Reg.VLT_TOKST_APPROVED 0 = 1 ∧ t.ldg.cleargen = wrap 16 (s.ldg.cleargen + 1) ∧ .ghpRs (wrap 6 tag) 0 0 ∈ t.pulses) ∧
  -- ZEROISE (R363)
  (∀ (ten tag : Nat) (s : State), s.admits ten tag none = true → s.tokenFits 2 = true → ∃ t, exec (.zeroise ten tag) s = .next t ∧
        t.get Reg.VLT_TOKST_BUSY 0 = 0 ∧ t.get Reg.VLT_TOKST_RESULT 0 = 0 ∧ t.get Reg.VLT_TOKST_APPROVED 0 = 1 ∧ t.vault.st = .unprovisioned ∧
        t.vault.image = {} ∧ t.vault.banked = none ∧ t.vault.slots = [] ∧ .ghpRs (wrap 6 tag) 0 0 ∈ t.pulses) ∧
  -- PROVISION (R356)
  (∀ (ten tag : Nat) (s : State), s.admits ten tag none = true → s.tokenFits 3 = true → ∃ t, exec (.provision ten tag) s = .next t ∧
        t.get Reg.VLT_TOKST_BUSY 0 = 0 ∧ t.get Reg.VLT_TOKST_RESULT 0 = 0 ∧ t.get Reg.VLT_TOKST_APPROVED 0 = 1 ∧ t.vault.st = .operational ∧
        t.ldg.page = 1 ∧ .ghpRs (wrap 6 tag) 0 0 ∈ t.pulses) ∧
  -- REKEY_TALLY (R356)
  (∀ (ten tag : Nat) (s : State), s.admits ten tag none = true → s.tokenFits 4 = true → s.tally.batch = none → s.tally.unsigned = [] → ∃ t,
        exec (.rekeyTally ten tag) s = .next t ∧ t.get Reg.VLT_TOKST_BUSY 0 = 0 ∧ t.get Reg.VLT_TOKST_RESULT 0 = 0 ∧
        t.get Reg.VLT_TOKST_APPROVED 0 = 1 ∧ t.vault.rekey = false ∧ t.get Reg.VLT_EVENT_TALLYKEY 0 = 1 ∧ .ghpRs (wrap 6 tag) 0 0 ∈ t.pulses) ∧
  -- REKEY_TALLY (R356)
  (∀ (ten tag : Nat) (b : Batch) (s : State), s.admits ten tag none = true → s.tokenFits 4 = true → s.tally.batch = some b → ∃ t,
        exec (.rekeyTally ten tag) s = .next t ∧ t.vault.rekey = true ∧ t.tally.batch = none ∧ t.get Reg.VLT_TOKST_BUSY 0 = 1 ∧
        .ghpRs (wrap 6 tag) 0 0 ∈ t.pulses) ∧
  -- REVOKE_OFFICER (R356)
  (∀ (ten tag : Nat) (o : OfficerEntry) (s : State), s.admits ten tag none = true → s.tokenFits 5 = true →
        s.cfg.officers.find? (fun o => o.keyid == (tokenIn s.tokbuf).param) = some o → s.officers.filter (fun x => x.key != o.key) ≠ [] →
        s.vault.image.revoked.contains o.key = false → ∃ t, exec (.revokeOfficer ten tag) s = .next t ∧ t.get Reg.VLT_TOKST_BUSY 0 = 0 ∧
        t.get Reg.VLT_TOKST_RESULT 0 = 0 ∧ t.get Reg.VLT_TOKST_APPROVED 0 = 1 ∧ t.vault.image.revoked = s.vault.image.revoked ++ [o.key] ∧
        t.vault.image.gen = s.vault.image.gen + 1 ∧ .ghpRs (wrap 6 tag) 0 0 ∈ t.pulses) ∧
  -- DEBUG_UNLOCK (R477)
  (∀ (ten tag : Nat) (s : State), s.admits ten tag none = true → s.tokenFits 6 = true → ∃ t, exec (.debugUnlock ten tag) s = .next t ∧
        t.get Reg.VLT_TOKST_BUSY 0 = 0 ∧ t.get Reg.VLT_TOKST_RESULT 0 = 0 ∧ t.get Reg.VLT_TOKST_APPROVED 0 = 1 ∧
        t.dbg.unlock = some (s.pwr.secs + (tokenIn s.tokbuf).param) ∧
        t.get Reg.DBG_UNLOCK_SECS 0 = wrap Reg.DBG_UNLOCK_SECS.w (tokenIn s.tokbuf).param ∧ .ghpRs (wrap 6 tag) 0 0 ∈ t.pulses) ∧
  -- ENTROPY_RAW (R354)
  (∀ (ten tag : Nat) (s : State), s.admits ten tag none = true → s.tokenFits 7 = true → ∃ t, exec (.entropyRaw ten tag) s = .next t ∧
        t.get Reg.VLT_TOKST_BUSY 0 = 0 ∧ t.get Reg.VLT_TOKST_RESULT 0 = 0 ∧ t.get Reg.VLT_TOKST_APPROVED 0 = 1 ∧ t.vault.st = .entropyRaw ∧
        t.vault.back = s.vault.st ∧ t.vault.rawSecs = (tokenIn s.tokbuf).param ∧ .ghpRs (wrap 6 tag) 0 0 ∈ t.pulses) ∧
  -- TOKEN_REJECT (R358)
  (∀ (service ten tag : Nat) (mldsaOk : Bool) (s : State), s.admits ten tag none = true → s.tokenFits service = true → ∃ t,
        exec (.tokenReject false mldsaOk ten tag) s = .next t ∧ t.get Reg.VLT_TOKST_RESULT 0 = 1 ∧ t.get Reg.VLT_TOKST_REASON 0 = 6 ∧
        t.get Reg.VLT_TOKST_BUSY 0 = 0 ∧ t.get Reg.VLT_EVENT_TOKREJ 0 = 1 ∧ t.flt.queue.getLast?.map (·.kind) = some 0x704 ∧
        .ghpRs (wrap 6 tag) 0 0 ∈ t.pulses) ∧
  -- TOKEN_REJECT (R358)
  (∀ (service ten tag : Nat) (s : State), s.admits ten tag none = true → s.tokenFits service = true → ∃ t,
        exec (.tokenReject true false ten tag) s = .next t ∧ t.get Reg.VLT_TOKST_RESULT 0 = 1 ∧ t.get Reg.VLT_TOKST_REASON 0 = 7 ∧
        t.get Reg.VLT_TOKST_BUSY 0 = 0 ∧ t.get Reg.VLT_EVENT_TOKREJ 0 = 1 ∧ t.flt.queue.getLast?.map (·.kind) = some 0x704 ∧
        .ghpRs (wrap 6 tag) 0 0 ∈ t.pulses) ∧
  -- TOKEN_REJECT (R358)
  (∀ (ten tag : Nat) (ecdsaOk mldsaOk : Bool) (s : State), s.admits ten tag none = true → s.on Reg.VLT_TOKST_BUSY 0 = false →
        s.vault.st = .operational → (tokenIn s.tokbuf).format ≠ 0x0304 → ∃ t, exec (.tokenReject ecdsaOk mldsaOk ten tag) s = .next t ∧
        t.get Reg.VLT_TOKST_RESULT 0 = 1 ∧ t.get Reg.VLT_TOKST_REASON 0 = 1 ∧ t.get Reg.VLT_TOKST_BUSY 0 = 0 ∧
        t.get Reg.VLT_EVENT_TOKREJ 0 = 1 ∧ t.flt.queue.getLast?.map (·.kind) = some 0x704 ∧ .ghpRs (wrap 6 tag) 0 0 ∈ t.pulses)

/-- The Stacker's channels: GO, ABORT, descriptors, bursts, disable, enable and CLRHALT. GO fetches the first descriptor; ABORT drops; a good descriptor runs and a bad one ends in ERROR with its code; a granted burst advances the slot pattern; disable empties every channel; enable and CLRHALT set and clear their fields. Read from R374, R377, R378, R381, R383. Choices: The order of the slot pattern is the opaque Config.slotOrder (60, DESIGN CHOICE); errors of a descriptor are checked in the order of the table and CLRHALT as in 111 (DEDUCED). -/
def Obligations.StackerChannels : Prop :=
  -- STK_GO (R378)
  (∀ (channel value ten tag : Nat) (s : State), s.admits ten tag (some (s.stkTag channel)) = true → 4 ≤ channel → channel < 32 →
        s.on Reg.STK_CTRL_EN 0 = true → s.on Reg.STK_STATUS_HALTED 0 = false →
        (s.stkCh channel).st = .idle ∨ (s.stkCh channel).st = .error ∨ (s.stkCh channel).st = .halted → s.fl.units = [] → ∃ t,
        exec (.stkGo channel value ten tag) s = .next t ∧ (t.stkCh channel).st = .fetch ∧
        (t.stkCh channel).at_ = 64 * s.get Reg.STK_CH_DESC_ADDR channel ∧ t.get Reg.STK_CH_PROG_BYTES channel = 0 ∧
        .ghpRs (wrap 6 tag) 0 0 ∈ t.pulses) ∧
  -- STK_ABORT (R378)
  (∀ (channel value ten tag : Nat) (s : State), s.admits ten tag (some (s.stkTag channel)) = true → 4 ≤ channel → channel < 32 →
        (s.stkCh channel).st = .fetch ∨ (s.stkCh channel).st = .run ∨ (s.stkCh channel).st = .flush → ∃ t,
        exec (.stkAbort channel value ten tag) s = .next t ∧ (t.stkCh channel).st = .idle ∧ t.get Reg.STK_CH_STATUS_DROPPED channel = 1 ∧
        t.get Reg.STK_EVENT_DROP 0 = 1 ∧ .ghpRs (wrap 6 tag) 0 0 ∈ t.pulses) ∧
  -- DESCRIPTOR_ARRIVE (R374)
  (∀ (channel data : Nat) (r : StkRead) (s : State), s.stk.reads.find? (fun r => r.ch == channel && r.kind == .desc && !r.dead) = some r →
        s.descCheck channel r.addr data = 0 → ∃ t, exec (.descriptorArrive channel data) s = .next t ∧ (t.stkCh channel).st = .run ∧
        (t.stkCh channel).desc = StkDesc.ofWord data ∧ t.get Reg.STK_CH_PROG_CURDESC channel = wrap Reg.STK_CH_PROG_CURDESC.w r.addr ∧
        t.get Reg.STK_CH_PROG_TAG channel = wrap 32 (StkDesc.ofWord data).tag) ∧
  -- DESCRIPTOR_ARRIVE (R374)
  (∀ (channel data : Nat) (r : StkRead) (s : State), s.stk.reads.find? (fun r => r.ch == channel && r.kind == .desc && !r.dead) = some r →
        s.descCheck channel r.addr data ≠ 0 → ∃ t, exec (.descriptorArrive channel data) s = .next t ∧ (t.stkCh channel).st = .error ∧
        t.get Reg.STK_CH_STATUS_ERRCODE channel = wrap Reg.STK_CH_STATUS_ERRCODE.w (s.descCheck channel r.addr data) ∧
        t.get Reg.STK_EVENT_DESCERR 0 = 1) ∧
  -- BURST_GRANT (R377)
  (∀ (l n : Nat) (s : State), s.on Reg.STK_CTRL_EN 0 = true → s.on Reg.STK_STATUS_HALTED 0 = false → s.stopped = false →
        slotLevel (fun l => ((s.kickSys.pumpAll).stkPick l).isSome) (slotPattern.getD (s.kickSys.pumpAll).stk.slot 0) = some l →
        (s.kickSys.pumpAll).stkPick l = some n → ∃ t, exec (.burstGrant) s = .next t ∧ t.stk.slot = ((s.kickSys.pumpAll).stk.slot + 1) % 15 ∧
        t.stk.lastCh = (s.kickSys.pumpAll).stk.lastCh.set l n) ∧
  -- STK_DISABLE (R381)
  (∀ (ten tag : Nat) (s : State), s.admits ten tag none = true → ∃ t, exec (.stkDisable ten tag) s = .next t ∧ t.get Reg.STK_CTRL_EN 0 = 0 ∧
        t.get Reg.STK_EVENT_DISABLED 0 = 1 ∧ (∀ n ∈ List.range 32, (t.stkCh n).st = .idle) ∧ .ghpRs (wrap 6 tag) 0 0 ∈ t.pulses) ∧
  -- STK_ENABLE (R381)
  (∀ (ten tag : Nat) (s : State), s.admits ten tag none = true → ∃ t, exec (.stkEnable ten tag) s = .next t ∧ t.get Reg.STK_CTRL_EN 0 = 1 ∧
        .ghpRs (wrap 6 tag) 0 0 ∈ t.pulses) ∧
  -- STK_CLRHALT (R383)
  (∀ (ten tag : Nat) (s : State), s.admits ten tag none = true → s.busReaction = false → ∃ t, exec (.stkClrhalt ten tag) s = .next t ∧
        t.get Reg.STK_STATUS_HALTED 0 = 0 ∧ t.get Reg.STK_STATUS_HCAUSE 0 = 0 ∧ t.get Reg.STK_HALTADDR_ADDR 0 = 0 ∧
        .ghpRs (wrap 6 tag) 0 0 ∈ t.pulses)

/-- The Stacker's buses: SMP read and write beats, credits, errors, timeouts, and SK_READ and SK_DATA. Read beats are kept and the last ends the read; a write beat uses a credit; credits return; a bus error, a write error and a timeout halt with causes 1, 2 and 4 and raise 0x601; SK_READ is answered and SK_DATA ends its read. Read from R371, R382, R386, R387. Choices: Words of the mirror without a stated layout are free values (81, DESIGN CHOICE). Timer commands act whenever their state holds (92, DESIGN CHOICE). -/
def Obligations.StackerBus : Prop :=
  -- SMP_READ_BEAT (R387)
  (∀ (readTag data : Nat) (r : StkRead) (s : State), s.stk.reads.find? (fun r => r.tag == readTag && r.region.isNone) = some r →
        r.beats.length + 1 < beatsOf r.addr r.n → ∃ t, exec (.smpReadBeat readTag data false true) s = .next t ∧
        { r with beats := r.beats ++ [wrap 512 data] } ∈ t.stk.reads) ∧
  -- SMP_READ_BEAT (R387)
  (∀ (readTag data : Nat) (r : StkRead) (s : State), s.stk.reads.find? (fun r => r.tag == readTag && r.region.isNone) = some r →
        beatsOf r.addr r.n ≤ r.beats.length + 1 → ∃ t, exec (.smpReadBeat readTag data false true) s = .next t ∧
        t.stk.reads.all (fun x => x.tag != r.tag) = true) ∧
  -- SMP_READ_BEAT (R387)
  (∀ (readTag data : Nat) (parOk : Bool) (r : StkRead) (s : State), s.stk.reads.find? (fun r => r.tag == readTag && r.region.isNone) = some r →
        s.on Reg.STK_STATUS_HALTED 0 = false → r.beats.length + 1 < beatsOf r.addr r.n → ∃ t,
        exec (.smpReadBeat readTag data true parOk) s = .next t ∧ t.get Reg.STK_STATUS_HALTED 0 = 1 ∧ t.get Reg.STK_STATUS_HCAUSE 0 = 1 ∧
        t.get Reg.STK_EVENT_BUSERR 0 = 1 ∧ t.flt.queue.getLast?.map (·.kind) = some 0x601) ∧
  -- SMP_WRITE_BEAT (R386)
  (∀ (data strb n : Nat) (w : StkWrite) (ws : List StkWrite) (rest : List (Nat × Nat × Nat)) (s : State), s.stk.writes = w :: ws →
        w.beats = (data, strb, n) :: rest → s.stk.wdCred ≠ 0 → ∃ t, exec (.smpWriteBeat) s = .next t ∧
        .smpWd w.tag data strb rest.isEmpty ∈ t.pulses ∧ t.stk.wdCred = s.stk.wdCred - 1 ∧
        t.stk.writes = (if rest = [] then ws else { w with beats := rest } :: ws)) ∧
  -- SMP_RQ_CRED (R386)
  (∀ (s : State), s.stk.chans.all (fun e => e.2.st != .run) = true → ∃ t, exec (.smpRqCred) s = .next t ∧ t.stk.rqCred = s.stk.rqCred + 1) ∧
  -- SMP_WD_CRED (R386)
  (∀ (s : State), ∃ t, exec (.smpWdCred) s = .next t ∧ t.stk.wdCred = s.stk.wdCred + 1) ∧
  -- SMP_WRITE_ERROR (R382)
  (∀ (writeTag ch addr : Nat) (s : State), tget writeTag s.stk.wrAddr = some (ch, addr) → s.on Reg.STK_STATUS_HALTED 0 = false → ∃ t,
        exec (.smpWriteError writeTag) s = .next t ∧ t.get Reg.STK_STATUS_HALTED 0 = 1 ∧ t.get Reg.STK_STATUS_HCAUSE 0 = 2 ∧
        t.get Reg.STK_STATUS_HCH 0 = wrap Reg.STK_STATUS_HCH.w ch ∧ t.get Reg.STK_EVENT_BUSERR 0 = 1 ∧
        t.flt.queue.getLast?.map (·.kind) = some 0x601) ∧
  -- SMP_READ_TIMEOUT (R382)
  (∀ (readTag : Nat) (r : StkRead) (s : State), s.stk.reads.find? (fun r => r.tag == readTag && r.region.isNone) = some r → s.stopped = false →
        s.on Reg.STK_STATUS_HALTED 0 = false → ∃ t, exec (.smpReadTimeout readTag) s = .next t ∧ t.get Reg.STK_STATUS_HALTED 0 = 1 ∧
        t.get Reg.STK_STATUS_HCAUSE 0 = 4 ∧ t.get Reg.STK_STATUS_HCH 0 = wrap Reg.STK_STATUS_HCH.w r.ch ∧ t.get Reg.STK_EVENT_BUSERR 0 = 1 ∧
        t.flt.queue.getLast?.map (·.kind) = some 0x601) ∧
  -- SK_READ (R371)
  (∀ (region xferTag part off flits : Nat) (s : State), ∃ t, exec (.skRead region xferTag part off flits) s = .next t ∧
        msgSkData region (wrap 8 xferTag) ((s.recv (msgSkRead region (wrap 8 xferTag) (wrap 2 part) (wrap 23 off) flits)).skFlits region (wrap 2 part) (wrap 23 off) (max 1 (min 7 flits))).2.1 ((s.recv (msgSkRead region (wrap 8 xferTag) (wrap 2 part) (wrap 23 off) flits)).skFlits region (wrap 2 part) (wrap 23 off) (max 1 (min 7 flits))).1 ∈ t.flue) ∧
  -- SK_DATA (R371)
  (∀ (region xferTag status : Nat) (data : List Flit) (r : StkRead) (s : State),
        s.stk.reads.find? (fun r => r.tag == xferTag && r.region == some region) = some r → ∃ t,
        exec (.skData region xferTag status data) s = .next t ∧ t.stk.reads.all (fun x => x.tag != r.tag) = true) ∧
  -- SK_READ_TIMEOUT (R371)
  (∀ (xferTag : Nat) (r : StkRead) (s : State), s.stk.reads.find? (fun r => r.tag == xferTag && r.region.isSome) = some r → s.stopped = false →
        s.on Reg.STK_STATUS_HALTED 0 = false → ∃ t, exec (.skReadTimeout xferTag) s = .next t ∧ t.get Reg.STK_STATUS_HALTED 0 = 1 ∧
        t.get Reg.STK_STATUS_HCAUSE 0 = 4 ∧ t.get Reg.STK_STATUS_HCH 0 = wrap Reg.STK_STATUS_HCH.w r.ch ∧ t.get Reg.STK_EVENT_BUSERR 0 = 1 ∧
        t.flt.queue.getLast?.map (·.kind) = some 0x601 ∧ t.stk.reads.all (fun x => x.tag != r.tag) = true)

/-- The Ledger's records: rate limits, suppressed counts, folds, flush, append and reading back. A refill gives tokens; LG_SUPP writes a SUPPRESSED record; folds close; a flush is recorded; an append of a code from 0xF000 on writes an annotation and a lower one sets APPENDBAD; a page is read into the buffer, and a failed read leaves it. Read from R395, R396, R401, R407. Choices: Timer commands act whenever their state holds (92) and a write of one field leaves the others (98), DESIGN CHOICE. -/
def Obligations.LedgerRecords : Prop :=
  -- LEDGER_REFILL (R395)
  (∀ (region : Nat) (s : State), ∃ t, exec (.ledgerRefill region) s = .next t ∧
        (t.hub region).lg = ((s.hub region).lg.refill (s.burst region)).1) ∧
  -- LG_SUPP (R395)
  (∀ (region kind count src gt : Nat) (s : State), s.ledgerOpen = true → ∃ t, exec (.lgSupp region kind count src gt) s = .next t ∧
        t.ldg.buf.getLast? = some { code := 0x1004, src := src, time := s.ledgerTime, p0 := wrap 32 kind, p1 := wrap 32 count, p2 := wrap 32 (wrap 32 gt) }) ∧
  -- FOLD_TIMEOUT (R396)
  (∀ (s : State), s.ldg.op ≠ .idle ∨ s.ldg.blocks = 0 ∨ ({ s.ldg with foldOpen := false } : Ledger).eraseNeeded = none → ∃ t,
        exec (.foldTimeout) s = .next t ∧ t.ldg.foldOpen = false) ∧
  -- LEDGER_FLUSH (R401)
  (∀ (ten tag : Nat) (s : State), s.admits ten tag none = true → s.ldg.op ≠ .idle ∨ s.ldg.blocks = 0 → ∃ t,
        exec (.ledgerFlush ten tag) s = .next t ∧ t.ldg.flushing = true ∧ t.ldg.foldOpen = false ∧ t.get Reg.LDG_CTRL_FLUSH 0 = 1 ∧
        .ghpRs (wrap 6 tag) 0 0 ∈ t.pulses) ∧
  -- LEDGER_READ_PAGE (R407)
  (∀ (page ten tag : Nat) (verify : Bool) (s : State), s.admits ten tag none = true → s.on Reg.LDG_RDST_BUSY 0 = false → ∃ t,
        exec (.ledgerReadPage page verify ten tag) s = .next t ∧ t.ldg.reading = some (s.ldg.find (wrap 32 page), verify) ∧ t.get Reg.LDG_RDST_BUSY 0 = 1 ∧
        .ghpRs (wrap 6 tag) 0 0 ∈ t.pulses) ∧
  -- LEDGER_READ_DONE (R407)
  (∀ (p : Page) (r : Trailer) (s : State), s.ldg.reading = some (some p, false) → p.trailer = some r → ∃ t,
        exec (.ledgerReadDone false) s = .next t ∧ t.pageBuf = writeBytes [] 0x1000 ((p.bytes ++ r.bytes).map (BitVec.ofNat 8)) ∧
        t.ldg.reading = none ∧ t.get Reg.LDG_RDST_BUSY 0 = 0 ∧ t.get Reg.LDG_RDST_RESULT 0 = 0) ∧
  -- LEDGER_READ_DONE (R407)
  (∀ (found : Option Page) (verify : Bool) (s : State), s.ldg.reading = some (found, verify) → ∃ t, exec (.ledgerReadDone true) s = .next t ∧
        t.ldg.reading = none ∧ t.get Reg.LDG_RDST_BUSY 0 = 0 ∧ t.get Reg.LDG_RDST_RESULT 0 = 2 ∧ t.pageBuf = s.pageBuf) ∧
  -- LEDGER_APPEND (R407)
  (∀ (code ten tag : Nat) (s : State), s.admits ten tag none = true → s.ledgerOpen = true → 0xF000 ≤ wrap 16 code → ∃ t,
        exec (.ledgerAppend code ten tag) s = .next t ∧
        t.ldg.buf.getLast? = some { code := wrap 16 code, annot := true, src := kilnSrc 0x1F 0, time := s.ledgerTime, p0 := s.get Reg.LDG_AP0_P 0, p1 := s.get Reg.LDG_AP1_P 0, p2 := s.get Reg.LDG_AP2_P 0 } ∧
        .ghpRs (wrap 6 tag) 0 0 ∈ t.pulses) ∧
  -- LEDGER_APPEND (R407)
  (∀ (code ten tag : Nat) (s : State), s.admits ten tag none = true → wrap 16 code < 0xF000 → ∃ t,
        exec (.ledgerAppend code ten tag) s = .next t ∧ t.ldg = s.ldg ∧ t.get Reg.LDG_EVENT_APPENDBAD 0 = 1 ∧
        .ghpRs (wrap 6 tag) 0 0 ∈ t.pulses)

/-- The Ledger's flash: programming, erasing and recovery. Programmed records and trailers stand in their page; a first failure is retried and a second sets FLSERR and raises 0x602; an erased block is free and a failed one is marked; recovery takes the size and condition of the flash. Read from R400, R401, R405. Choices: A block is erased before its first program, and recovery closes pages at once (109, DEDUCED). -/
def Obligations.LedgerFlash : Prop :=
  -- FLASH_PROGRAM_DONE (R401)
  (∀ (n : Nat) (retry : Bool) (s : State), s.ldg.op = .programming n retry → s.ldg.trailer = none → ∃ t,
        exec (.flashProgramDone true) s = .next t ∧
        (t.ldg.pageAt s.ldg.slot).recs = (s.ldg.pageAt s.ldg.slot).recs ++ (s.ldg.buf.take n).map LedgerRec.word) ∧
  -- FLASH_PROGRAM_DONE (R401)
  (∀ (n : Nat) (retry : Bool) (r : Trailer) (s : State), s.ldg.op = .programming n retry → s.ldg.trailer = some r → ∃ t,
        exec (.flashProgramDone true) s = .next t ∧ (t.ldg.pageAt s.ldg.slot).trailer = some r ∧ t.ldg.page = wrap 32 (s.ldg.page + 1)) ∧
  -- FLASH_PROGRAM_DONE (R401)
  (∀ (n : Nat) (s : State), s.ldg.op = .programming n false → ∃ t, exec (.flashProgramDone false) s = .next t ∧ t.ldg.op = .programming n true ∧
        t.ldg.flash = s.ldg.flash) ∧
  -- FLASH_PROGRAM_DONE (R401)
  (∀ (n : Nat) (s : State), s.ldg.op = .programming n true → ∃ t, exec (.flashProgramDone false) s = .next t ∧
        t.get Reg.LDG_EVENT_FLSERR 0 = 1 ∧ t.flt.queue.getLast?.map (·.kind) = some 0x602) ∧
  -- FLASH_ERASE_DONE (R400)
  (∀ (b : Nat) (s : State), s.ldg.op = .erasing b → ∃ t, exec (.flashEraseDone true) s = .next t ∧ t.ldg.erased.contains b = true ∧
        t.ldg.flash = s.ldg.flash.filter (fun e => e.1 / 7 != b)) ∧
  -- FLASH_ERASE_DONE (R400)
  (∀ (b : Nat) (s : State), s.ldg.op = .erasing b → ∃ t, exec (.flashEraseDone false) s = .next t ∧ t.ldg.failed.contains b = true ∧
        t.get Reg.LDG_EVENT_FLSERR 0 = 1) ∧
  -- LEDGER_RECOVERY (R405)
  (∀ (sizeMib : Nat) (meets : Bool) (s : State), s.vault.st ≠ .off → s.vault.st ≠ .selftest → ∃ t,
        exec (.ledgerRecovery sizeMib meets) s = .next t ∧ t.get Reg.LDG_FLASH_SIZEMIB 0 = wrap Reg.LDG_FLASH_SIZEMIB.w sizeMib ∧
        t.get Reg.LDG_FLASH_OK 0 = flag meets ∧ t.bru.ledgerDone = true)

/-- Bring-up: fuse words, Flue training and probe self-tests. A good fuse word is kept; a parity error is read again and a second one, like a malformed word, refuses with 0x12; training gives the grid and a short one refuses with 0x22; probe results, missing results and sums are recorded. Read from R419, R421, R424, R435. Choices: The mask of a probe that sends nothing is free (72, DESIGN CHOICE) and the clause says nothing of it. -/
def Obligations.BringUpCommands : Prop :=
  -- FUSE_WORD (R419)
  (∀ (addr data : Nat) (s : State), s.bru.state = .selftest → s.bru.fuseDone = false → s.bru.nextFuse = some addr →
        fuseBad addr (wrap 32 data) = false → ∃ t, exec (.fuseWord addr data true) s = .next t ∧ tget addr t.bru.fuses = some (wrap 32 data)) ∧
  -- FUSE_WORD (R419)
  (∀ (addr data : Nat) (s : State), s.bru.state = .selftest → s.bru.fuseDone = false → s.bru.nextFuse = some addr → s.bru.reread = none → ∃ t,
        exec (.fuseWord addr data false) s = .next t ∧ t.bru.reread = some addr ∧ .fuseRd addr ∈ t.pulses ∧ t.bru.fuses = s.bru.fuses) ∧
  -- FUSE_WORD (R419)
  (∀ (addr data : Nat) (s : State), s.bru.state = .selftest → s.bru.fuseDone = false → s.bru.nextFuse = some addr → s.bru.reread = some addr →
        ∃ t, exec (.fuseWord addr data false) s = .next t ∧ t.bru.state = .refused ∧ t.bru.code = 0x12 ∧ t.get Reg.BRU_EVENT_REFUSED 0 = 1) ∧
  -- FUSE_WORD (R419)
  (∀ (addr data : Nat) (s : State), s.bru.state = .selftest → s.bru.fuseDone = false → s.bru.nextFuse = some addr →
        fuseBad addr (wrap 32 data) = true → ∃ t, exec (.fuseWord addr data true) s = .next t ∧ t.bru.state = .refused ∧ t.bru.code = 0x12 ∧
        t.get Reg.BRU_EVENT_REFUSED 0 = 1) ∧
  -- FLUE_TRAINING_DONE (R421); the greatest latency a hop may have is the model's reading (assumption 153)
  (∀ (w h spine detail : Nat) (hopsOk : Bool) (latencies : List (HopId × Nat)) (s : State), s.bru.state = .selftest → s.bru.trained = false →
        ∃ t, exec (.flueTrainingDone w h spine hopsOk true detail latencies) s = .next t ∧ t.bru.trained = true ∧
        t.bru.hopsOk = (hopsOk && latencies.all (fun e => decide (e.2 ≤ hopAllowance e.1))) ∧ t.cfg.w = w ∧ t.cfg.h = h ∧ t.cfg.spine = spine) ∧
  -- FLUE_TRAINING_DONE (R421)
  (∀ (w h spine detail : Nat) (hopsOk : Bool) (latencies : List (HopId × Nat)) (s : State), s.bru.state = .selftest → s.bru.trained = false →
        ∃ t, exec (.flueTrainingDone w h spine hopsOk false detail latencies) s = .next t ∧ t.bru.state = .refused ∧ t.bru.code = 0x22 ∧
        t.get Reg.BRU_EVENT_REFUSED 0 = 1) ∧
  -- PST_RESULT (R424)
  (∀ (region tile mask : Nat) (s : State), s.bru.inBringUp = true → tile < 1056 → bit (tgetD 0 region s.bru.pstDone) tile = false → ∃ t,
        exec (.pstResult region tile mask) s = .next t ∧ bit (tgetD 0 region t.bru.pstDone) tile = true ∧
        t.bru.pstFailed = (if wrap 8 mask = 0 then s.bru.pstFailed else s.bru.pstFailed ++ [(region, tile, wrap 8 mask)])) ∧
  -- PST_TIMEOUT (R424)
  (∀ (region tile : Nat) (s : State), s.bru.inBringUp = true → tile < 1056 → bit (tgetD 0 region s.bru.pstDone) tile = false → ∃ t,
        exec (.pstTimeout region tile) s = .next t ∧ bit (tgetD 0 region t.bru.pstDone) tile = true ∧
        t.bru.pstFailed.map (fun e => (e.1, e.2.1)) = s.bru.pstFailed.map (fun e => (e.1, e.2.1)) ++ [(region, tile)]) ∧
  -- PST_SUM (R435)
  (∀ (region failures : Nat) (tiles : List Nat) (s : State), ∃ t, exec (.pstSum region failures tiles) s = .next t ∧ ∀ n ∈ tiles,
        (region, n) ∈ t.bru.pstKnown)

/-- The Charter: GO, its checks, parts and acknowledges, link qualification and amendments. GO loads in WAITCH, is kept early, is refused busy, and loads again after a class C refusal; the wait ends with 0x0A; a verified Charter is taken over, a failed check refuses with its code and a bus error with 0x0B; parts, acknowledges, qualification, amendment and requalification do as the tables say. Read from R417, R420, R422, R426, R431, R435. Choices: The verdicts of the checks and the content of the image are operands (113), GO in the states named there is as in 113, and AMEND_GO carries its image (97): DEDUCED and DESIGN CHOICE. A part in flight is one empty flit (71, DESIGN CHOICE). -/
def Obligations.CharterCommands : Prop :=
  -- CHARTER_GO (R420)
  (∀ (ten tag : Nat) (s : State), s.admits ten tag none = true → s.bru.state = .waitch → s.bru.paused = false → ∃ t,
        exec (.charterGo ten tag) s = .next t ∧ t.bru.state = .load ∧ .ghpRs (wrap 6 tag) 0 0 ∈ t.pulses) ∧
  -- CHARTER_GO (R420)
  (∀ (ten tag : Nat) (s : State), s.admits ten tag none = true → s.bru.state = .selftest → ∃ t, exec (.charterGo ten tag) s = .next t ∧
        t.bru.go = true ∧ t.bru.state = .selftest ∧ .ghpRs (wrap 6 tag) 0 0 ∈ t.pulses) ∧
  -- CHARTER_GO (R420)
  (∀ (ten tag : Nat) (s : State), s.admits ten tag none = true → s.bru.state = .load ∨ s.bru.state = .apply ∨ s.bru.state = .qualify → ∃ t,
        exec (.charterGo ten tag) s = .next t ∧ t.get Reg.BRU_EVENT_GOBUSY 0 = 1 ∧ t.bru = s.bru ∧ .ghpRs (wrap 6 tag) 0 0 ∈ t.pulses) ∧
  -- CHARTER_GO (R420)
  (∀ (ten tag : Nat) (s : State), s.takes tag = true → wrap 12 ten = 0 → s.isSealed = false → s.bru.state = .refused → s.bru.classH = false →
        s.bru.code ≠ 0x10 → s.bru.code ≠ 0x11 → ∃ t, exec (.charterGo ten tag) s = .next t ∧ t.bru.state = .load ∧
        .ghpRs (wrap 6 tag) 0 0 ∈ t.pulses) ∧
  -- CHARTER_GO_TIMEOUT (R420)
  (∀ (s : State), s.bru.state = .waitch → s.stopped = false → s.bru.paused = false → ∃ t, exec (.charterGoTimeout) s = .next t ∧
        t.bru.state = .refused ∧ t.bru.code = 0x0A ∧ t.get Reg.BRU_EVENT_REFUSED 0 = 1) ∧
  -- CHARTER_VERIFY_DONE (R417)
  (∀ (ckh : Nat) (image : Image) (s : State), s.bru.state = .load →
        State.imageCheck { s with bru := { s.bru with ckh := ckh } } image false ckh = 0 → image.patternsOk = true →
        charterHostFits image.content s.bru.variant = true → charterFits image.content (image.content.w * image.content.h) = true →
        s.bru.paused = false → s.pwr.offLatch = false → ∃ t, exec (.charterVerifyDone image ckh none) s = .next t ∧
        (t.bru.ckh = ckh ∧ t.bru.serial = image.serial ∧ t.bru.edigest = image.digest ∧ (t.bru.state = .apply ∨ t.bru.state = .refused))) ∧
  -- CHARTER_VERIFY_DONE (R417)
  (∀ (ckh : Nat) (image : Image) (s : State), s.bru.state = .load →
        State.imageCheck { s with bru := { s.bru with ckh := ckh } } image false ckh ≠ 0 → ∃ t,
        exec (.charterVerifyDone image ckh none) s = .next t ∧ t.bru.state = .refused ∧
        t.bru.code = State.imageCheck { s with bru := { s.bru with ckh := ckh } } image false ckh ∧ t.get Reg.BRU_EVENT_REFUSED 0 = 1) ∧
  -- CHARTER_VERIFY_DONE (R417)
  (∀ (ckh cause addr tag : Nat) (image : Image) (s : State), s.bru.state = .load → ∃ t,
        exec (.charterVerifyDone image ckh (some (cause, addr, tag))) s = .next t ∧ t.bru.state = .refused ∧ t.bru.code = 0x0B ∧
        t.get Reg.BRU_EVENT_REFUSED 0 = 1) ∧
  -- CH_DATA (R435)
  (∀ (region part sect : Nat) (s : State), ∃ t, exec (.chData region part true sect) s = .next t ∧ (t.hub region).parts.contains sect = true) ∧
  -- CH_ACK (R422)
  (∀ (region sect : Nat) (other : Nat × Nat) (s : State), s.bru.state = .apply → s.bru.hubAcks.contains (region, sect) = true →
        s.bru.hubAcks.contains other = true → other ≠ (region, sect) → ∃ t, exec (.chAck region true sect) s = .next t ∧
        t.bru.hubAcks = s.bru.hubAcks.filter (· != (region, sect)) ∧ t.bru.state = .apply) ∧
  -- CH_ACK (R422)
  (∀ (region sect : Nat) (other : Nat × Nat) (a : AmendState) (s : State), s.bru.state = .ready → s.bru.amend = some a →
        a.await.contains other = true → other ≠ (region, sect) → s.lost = [] → ∃ t, exec (.chAck region true sect) s = .next t ∧
        t.bru.amend = some { a with await := a.await.filter (· != (region, sect)) }) ∧
  -- CLP_QUAL_DONE (R426)
  (∀ (clp errs : Nat) (s : State), s.bru.state = .ready → s.bru.requal.contains clp = true →
        saturate 32 errs ≤ ((s.portEntry clp).map (·.qualmax)).getD 0 → (s.port clp).st = .disabled → ∃ t,
        exec (.clpQualDone clp 0 errs) s = .next t ∧ (t.port clp).qualified = true ∧ (t.port clp).st = .hello ∧ .qualReq clp false ∈ t.pulses) ∧
  -- CLP_QUAL_DONE (R426)
  (∀ (clp res errs : Nat) (s : State), s.bru.state = .ready → s.bru.requal.contains clp = true → wrap 2 res ≠ 0 → ∃ t,
        exec (.clpQualDone clp res errs) s = .next t ∧ (t.port clp).qualified = false ∧ (t.port clp).st = (s.port clp).st ∧
        t.get Reg.BRU_EVENT_LQFAIL 0 = 1) ∧
  -- AMEND_GO (R431)
  (∀ (image : Image) (ten tag : Nat) (s : State), s.admits ten tag none = true → s.on Reg.CHR_AMST_BUSY 0 = false → s.bru.state = .ready →
        s.readable (64 * s.get Reg.CHR_SRC_ADDR 0) image.length = true → s.amendReason image = 0 → s.hasPlace false = true →
        s.fl.waiting = [] → ∃ t, exec (.amendGo image none ten tag) s = .next t ∧ t.get Reg.CHR_AMST_BUSY 0 = 1 ∧
        t.bru.amend.map (fun a => (a.image, a.left)) = some (image, image.content.sections) ∧
        (t.folio s.fl.next).map (fun f => (f.st, f.acts)) = some (.queued, amendActs image) ∧ .ghpRs (wrap 6 tag) 0 0 ∈ t.pulses) ∧
  -- AMEND_GO (R431)
  (∀ (image : Image) (ten tag : Nat) (s : State), s.admits ten tag none = true → s.on Reg.CHR_AMST_BUSY 0 = false → s.bru.state = .ready →
        s.readable (64 * s.get Reg.CHR_SRC_ADDR 0) image.length = true → s.amendReason image ≠ 0 → ∃ t,
        exec (.amendGo image none ten tag) s = .next t ∧ t.get Reg.CHR_AMST_RESULT 0 = 2 ∧
        t.get Reg.CHR_AMST_REASON 0 = wrap Reg.CHR_AMST_REASON.w (s.amendReason image) ∧ t.get Reg.BRU_EVENT_AMREJ 0 = 1 ∧ t.bru = s.bru ∧
        .ghpRs (wrap 6 tag) 0 0 ∈ t.pulses) ∧
  -- LINK_REQUALIFY (R426)
  (∀ (clp ten tag : Nat) (p : PortEntry) (s : State), s.admits ten tag none = true → s.bru.state = .ready →
        (s.port (wrap 5 clp)).st = .disabled → s.portEntry (wrap 5 clp) = some p → p.enabled = true → p.reserved = false →
        s.bru.requal.contains (wrap 5 clp) = false → ∃ t, exec (.linkRequalify clp ten tag) s = .next t ∧
        t.bru.requal = s.bru.requal ++ [wrap 5 clp] ∧ .qualReq (wrap 5 clp) true ∈ t.pulses ∧ .ghpRs (wrap 6 tag) 0 0 ∈ t.pulses)

/-- Loss and return of the supplies, and the cold start. The loss of VAON or VDD captures and leads to OFF, but not where removal is safe; the flush ends with LOSS; VAON returns; VBK_LOST clears the banked domain and leaves the flash; a cold start restores the counts from the newest trailer; VDD good powers up from PU_WAIT. Read from R439, R440, R445, R452. Choices: In the safe states no loss flush runs (74, DEDUCED); counts restart as in 114 (DEDUCED); surroundings act as in 93 (DESIGN CHOICE). -/
def Obligations.SupplyCommands : Prop :=
  -- VAON_LOST (R439)
  (∀ (half : Bool) (s : State), s.pwr.stopped = false → s.pwr.onBk = false → s.pwr.flush = none → ∃ t, exec (.vaonLost half) s = .next t ∧
        t.pwr.onBk = true ∧ t.pwr.vaonGood = false ∧ t.pwr.state = .off ∧ t.pwr.flush.isSome = true ∧ t.get Reg.PWR_EVENT_VBK 0 = 1) ∧
  -- LOSS_FLUSH_DONE (R440)
  (∀ (c : LossCapture) (s : State), s.pwr.flush = some c → ∃ t, exec (.lossFlushDone) s = .next t ∧ t.pwr.flush = none ∧
        t.pwr.retention = s.pwr.onBk ∧ t.get Reg.PWR_EVENT_LOSS 0 = 1 ∧ t.get Reg.PWR_LASTLOSS_SECS 0 = wrap Reg.PWR_LASTLOSS_SECS.w s.pwr.secs) ∧
  -- VAON_RETURN (R439)
  (∀ (s : State), s.pwr.onBk = true → s.pwr.flush = none → s.pwr.stopped = false → ∃ t, exec (.vaonReturn) s = .next t ∧ t.pwr.onBk = false ∧
        t.pwr.vaonGood = true ∧ t.pwr.retention = false) ∧
  -- VBK_LOST (R439)
  (∀ (s : State), s.pwr.onBk = true → ∃ t, exec (.vbkLost) s = .next t ∧ t.pwr.stopped = true ∧ t.pwr.cold = true ∧ t.ldg.flash = s.ldg.flash ∧
        t.ldg.buf = [] ∧ t.tally = {} ∧ t.vault.banked = none ∧ t.vault.blobs = s.vault.blobs ∧ t.pwr.secs = 0 ∧ t.pwr.cycles = 0) ∧
  -- COLD_START (R452)
  (∀ (s : State), s.pwr.stopped = true → ∃ t, exec (.coldStart) s = .next t ∧ t.pwr.stopped = false ∧ t.pwr.onBk = false ∧
        t.pwr.vaonGood = true ∧ t.get Reg.PWR_EVENT_COLD 0 = 1) ∧
  -- COLD_START (R452)
  (∀ (s : State), s.pwr.stopped = false → s.pwr.cold = true → s.bru.ledgerDone = true → ∃ t, exec (.coldStart) s = .next t ∧
        t.pwr.cold = false ∧ t.pwr.secs = wrap 32 (bits ((s.ldg.newestTrailer.map (·.tlast)).getD 0) 20 32 + 1) ∧
        t.pwr.cycles = wrap 24 (bits ((s.ldg.newestTrailer.map (·.tlast)).getD 0) 52 24 + 1)) ∧
  -- VDD_LOST (R440)
  (∀ (half : Bool) (s : State), s.pwr.stopped = false → s.pwr.safe = false → ∃ t, exec (.vddLost half) s = .next t ∧ t.pwr.vddGood = false ∧
        t.pwr.vddLost = true ∧ (s.pwr.flush = none → t.pwr.state = .off) ∧ t.pwr.flush.isSome = true) ∧
  -- VDD_LOST (R440)
  (∀ (half : Bool) (s : State), s.pwr.safe = true → s.pwr.flush = none → ∃ t, exec (.vddLost half) s = .next t ∧ t.pwr.vddGood = false ∧
        t.pwr.vddLost = true ∧ t.pwr.state = s.pwr.state ∧ t.pwr.flush = none ∧ t.ldg = s.ldg) ∧
  -- VDD_GOOD (R445)
  (∀ (s : State), ∃ t, exec (.vddGood) s = .next t ∧ t.pwr.vddGood = true) ∧
  -- VDD_GOOD (R445)
  (∀ (s : State), s.pwr.stopped = false → s.pwr.state = .puWait → s.pwr.rclkPresent = true → s.pwr.porb = true → ∃ t,
        exec (.vddGood) s = .next t ∧ t.pwr.vddGood = true ∧ t.pwr.state = .puIso ∧ t.pwr.vddLost = false ∧
        t.pwr.cycles = (if s.pwr.vddLost then wrap 24 (s.pwr.cycles + 1) else s.pwr.cycles))

/-- Holdover, PORB and HRSTB. Holdover starts and ends with RCLK; PORB asserted captures and leads to OFF, but not where it is safe, and its release powers up from OFF; HRSTB idles the tenants' channels, does nothing else while the block is off, and its release writes a record with its length. Read from R450, R456, R457, R461. Choices: In the safe states no loss flush runs (74, DEDUCED). -/
def Obligations.HoldoverAndResets : Prop :=
  -- HOLDOVER_ENTER (R450)
  (∀ (half : Bool) (s : State), s.pwr.stopped = false → s.pwr.holdover = false → ∃ t, exec (.holdoverEnter half) s = .next t ∧
        t.pwr.holdover = true ∧ t.pwr.rclkPresent = false ∧ t.get Reg.PWR_EVENT_HOLDOVER 0 = 1) ∧
  -- HOLDOVER_EXIT (R450)
  (∀ (s : State), s.pwr.holdover = true → ∃ t, exec (.holdoverExit) s = .next t ∧ t.pwr.holdover = false ∧ t.pwr.rclkPresent = true) ∧
  -- PORB_ASSERT (R456)
  (∀ (half : Bool) (s : State), s.pwr.stopped = false → s.pwr.safe = false → ∃ t, exec (.porbAssert half) s = .next t ∧ t.pwr.porb = false ∧
        (s.pwr.flush = none → t.pwr.state = .off) ∧ t.pwr.flush.isSome = true) ∧
  -- PORB_ASSERT (R456)
  (∀ (half : Bool) (s : State), s.pwr.safe = true → s.pwr.flush = none → ∃ t, exec (.porbAssert half) s = .next t ∧ t.pwr.porb = false ∧
        t.pwr.flush = none ∧ t.pwr.state = s.pwr.state) ∧
  -- PORB_RELEASE (R456)
  (∀ (s : State), ∃ t, exec (.porbRelease) s = .next t ∧ t.pwr.porb = true) ∧
  -- PORB_RELEASE (R456)
  (∀ (s : State), s.pwr.stopped = false → s.pwr.state = .off → s.pwr.vddGood = true → s.pwr.rclkPresent = true → ∃ t,
        exec (.porbRelease) s = .next t ∧ t.pwr.porb = true ∧ t.pwr.state = .puIso ∧ t.pwr.source = 4) ∧
  -- HRSTB (R457)
  (∀ (s : State), s.pwr.working = true → ∃ t, exec (.hrstb) s = .next t ∧ t.pwr.hrstb = true ∧ ∀ n ∈ List.range 32, 4 ≤ n → t.stkTag n ≠ 0 →
        (t.stkCh n).st = .idle) ∧
  -- HRSTB (R457)
  (∀ (s : State), s.pwr.working = false → ∃ t, exec (.hrstb) s = .next t ∧ t = { s with pwr := { s.pwr with hrstb := true } }) ∧
  -- HRSTB_RELEASE (R461)
  (∀ (low : Nat) (s : State), s.pwr.hrstb = true → s.ledgerOpen = true → ∃ t, exec (.hrstbRelease low) s = .next t ∧ t.pwr.hrstb = false ∧
        t.ldg.buf.getLast?.map (fun r => (r.code, r.p0)) = some (0x1206, wrap 32 (saturate 32 low)))

/-- Domain power states: isolation, quiesce, flush, stop and the off and on writes. PU_ISO leads to bring-up, or to REFUSED 0x10 with the sealed latch; quiesce leads to flush, flush to stop with INCOMPLETE where time ran out, stop to OFF with the VDD side's state gone and the flash kept; OFF in ON enters PD_QUIESCE, and an on request there goes back. Read from R444, R445. Choices: On requests in other states do nothing (116, DEDUCED). -/
def Obligations.PowerSequence : Prop :=
  -- PU_ISO_DONE (R445)
  (∀ (s : State), s.pwr.state = .puIso → s.pwr.flush = none → s.pwr.onBk = false → s.pwr.offLatch = false → s.pwr.sealedLatch = false → ∃ t,
        exec (.puIsoDone) s = .next t ∧ t.pwr.state = .puBring ∧ t.bru.state = .selftest ∧ t.vault.st = .selftest ∧ .fuseRd 0 ∈ t.pulses) ∧
  -- PU_ISO_DONE (R445)
  (∀ (s : State), s.pwr.state = .puIso → s.pwr.flush = none → s.pwr.onBk = false → s.pwr.offLatch = false → s.pwr.sealedLatch = true → ∃ t,
        exec (.puIsoDone) s = .next t ∧ t.bru.state = .refused ∧ t.bru.code = 0x10 ∧ t.pwr.state = .on) ∧
  -- QUIESCE_DONE (R445)
  (∀ (s : State), s.pwr.state = .pdQuiesce → s.pwr.quiesceAwait = [] → s.folios.any (fun f => f.st == .decided) = false → s.stopped = false →
        ∃ t, exec (.quiesceDone) s = .next t ∧ t.pwr.state = .pdFlush) ∧
  -- FLUSH_COMMIT (R445)
  (∀ (timeLimit : Bool) (s : State), s.pwr.state = .pdFlush → timeLimit = true ∨ (s.flushed = true ∧ s.stopped = false) → ∃ t,
        exec (.flushCommit timeLimit) s = .next t ∧ t.pwr.state = .pdStop ∧ t.pwr.committed = true ∧
        (timeLimit = true → s.flushed = false → t.get Reg.PWR_EVENT_INCOMPLETE 0 = 1)) ∧
  -- STOP_DONE (R445)
  (∀ (s : State), s.pwr.state = .pdStop → s.pwr.onLatch = false → s.pwr.restart = false → ∃ t, exec (.stopDone) s = .next t ∧
        t.pwr.state = .off ∧ t.pwr.committed = false ∧ t.pwr.pcreq = false ∧ t.hubs = [] ∧ t.probes = [] ∧ t.ldg.flash = s.ldg.flash) ∧
  -- PWR_OFF (R444)
  (∀ (ten tag : Nat) (s : State), s.admits ten tag none = true → s.pwr.state = .on → ∃ t, exec (.pwrOff ten tag) s = .next t ∧
        t.pwr.state = .pdQuiesce ∧ t.pwr.back = .on ∧ t.pwr.source = 0 ∧ .ghpRs (wrap 6 tag) 0 0 ∈ t.pulses) ∧
  -- PWR_ON (R444)
  (∀ (ten tag : Nat) (s : State), s.admits ten tag none = true → s.pwr.state = .pdQuiesce ∨ s.pwr.state = .pdFlush → s.bru.paused = false → ∃ t,
        exec (.pwrOn ten tag) s = .next t ∧ t.pwr.state = s.pwr.back ∧ t.pwr.source = 0 ∧ t.pwr.quiesceAwait = [] ∧
        .ghpRs (wrap 6 tag) 0 0 ∈ t.pulses)

/-- Power requests: the tray, the voltage target and the button. PCREQ asserts TRAY_PCREQ with its cause; a target is stored and opens the region's transition; a release of the button asks for a power cycle at 4 s to 30 s, resets the chip in ON and is an on request in OFF before 4 s, and has failed closed past 30 s; the stuck button clears after its release; an acknowledge of the tray starts the power-down. Read from R442, R458, R459. Choices: A write of one field leaves the others (98, DESIGN CHOICE). -/
def Obligations.PowerRequests : Prop :=
  -- PWR_PCREQ (R459)
  (∀ (ten tag : Nat) (s : State), s.admits ten tag none = true → s.pwr.pcreq = false → ∃ t, exec (.pwrPcreq ten tag) s = .next t ∧
        t.pwr.pcreq = true ∧ t.pwr.trayCause = 3 ∧ .ghpRs (wrap 6 tag) 0 0 ∈ t.pulses) ∧
  -- VOLTAGE_TARGET (R442)
  (∀ (region mv ten tag : Nat) (s : State), s.admits ten tag none = true → s.windowExists .hub region = true → ∃ t,
        exec (.voltageTarget region mv ten tag) s = .next t ∧ t.get Reg.RH_PW_VTGT_MV region = wrap Reg.RH_PW_VTGT_MV.w mv ∧
        t.get Reg.RH_PW_STATUS_TRANS region = 1 ∧ t.pwr.transitions = insertRegion region s.pwr.transitions ∧
        .ghpRs (wrap 6 tag) 0 0 ∈ t.pulses) ∧
  -- BTN_RELEASE (R458)
  (∀ (ms : Nat) (s : State), s.pwr.btnStuck = false → s.pwr.stopped = false → 4000 ≤ ms → ms ≤ 30000 → s.pwr.pcreq = false → ∃ t,
        exec (.btnRelease ms) s = .next t ∧ t.pwr.btnPressed = false ∧ t.pwr.pcreq = true ∧ t.pwr.trayCause = 0) ∧
  -- BTN_RELEASE (R458)
  (∀ (ms : Nat) (s : State), s.pwr.btnStuck = false → s.pwr.stopped = false → ms < 4000 → s.pwr.state = .on → s.rcv.rstChip = false →
        s.rcv.st ≠ .reset → ∃ t, exec (.btnRelease ms) s = .next t ∧ t.rcv.rstChip = true ∧ t.pwr.btnPressed = false) ∧
  -- BTN_RELEASE (R458)
  (∀ (ms : Nat) (s : State), s.pwr.btnStuck = false → s.pwr.stopped = false → ms < 4000 → s.pwr.state = .off → s.pwr.vddGood = true → ∃ t,
        exec (.btnRelease ms) s = .next t ∧ (t.pwr.source = 3 ∧ t.pwr.btnPressed = false ∧ (t.pwr.state = .puWait ∨ t.pwr.state = .puIso))) ∧
  -- BTN_RELEASE (R458)
  (∀ (ms : Nat) (s : State), s.pwr.btnStuck = false → s.pwr.stopped = false → 30000 < ms → ∃ t, exec (.btnRelease ms) s = .next t ∧
        t.pwr.btnStuck = true ∧ t.get Reg.PWR_EVENT_BTNSTUCK 0 = 1 ∧ t.pwr.pcreq = s.pwr.pcreq ∧ t.rcv = s.rcv) ∧
  -- BTN_STUCK (R458)
  (∀ (s : State), s.pwr.btnStuck = false → s.pwr.stopped = false → ∃ t, exec (.btnStuck) s = .next t ∧ t.pwr.btnStuck = true ∧
        t.pwr.btnPressed = true ∧ t.get Reg.PWR_EVENT_BTNSTUCK 0 = 1) ∧
  -- BTN_STUCK_CLEAR (R458)
  (∀ (s : State), s.pwr.btnStuck = true → ∃ t, exec (.btnStuckClear) s = .next t ∧
        t = { s with pwr := { s.pwr with btnStuck := false, btnPressed := false } }) ∧
  -- TRAY_ACK (R459)
  (∀ (s : State), s.pwr.stopped = false → s.pwr.state = .on → ∃ t, exec (.trayAck) s = .next t ∧ t.pwr.acked = true ∧ t.pwr.ackLoss = false ∧
        t.pwr.state = .pdQuiesce ∧ t.pwr.source = 2)

/-- Global stop and the end of a debug unlock. A write or the pin stops with its source and GT; a release without a standing pin ends the stop and one with it sets RELBLOCK; the pin's fall clears its source; the tree settles; an unlock expires. Read from R473, R475, R476, R477. Choices: When the tree releases is as in 110 (DEDUCED); a write of one field leaves the others (98, DESIGN CHOICE). -/
def Obligations.GlobalStopCommands : Prop :=
  -- GSTOP_WRITE (R473)
  (∀ (ten tag : Nat) (s : State), s.admits ten tag none = true → s.stopped = false → ∃ t, exec (.gstopWrite ten tag) s = .next t ∧
        t.get Reg.DBG_GSSTATUS_STOPPED 0 = 1 ∧ t.get Reg.DBG_GSSTATUS_SETTLED 0 = 0 ∧ bit (t.get Reg.DBG_GSSTATUS_SOURCE 0) 0 = true ∧
        t.get Reg.DBG_GSTIME_GT 0 = wrap 64 s.gt ∧ t.get Reg.DBG_EVENT_STOP 0 = 1 ∧ .ghpRs (wrap 6 tag) 0 0 ∈ t.pulses) ∧
  -- GSTOP_RELEASE (R476)
  (∀ (ten tag : Nat) (s : State), s.admits ten tag none = true → s.stopped = true → s.get Reg.DBG_GSSTATUS_SOURCE 0 &&& 2 = 0 → ∃ t,
        exec (.gstopRelease ten tag) s = .next t ∧ t.get Reg.DBG_GSSTATUS_STOPPED 0 = 0 ∧ t.get Reg.DBG_GSREL_GT 0 = wrap 64 s.gt ∧
        t.get Reg.DBG_EVENT_RELEASE 0 = 1 ∧ .ghpRs (wrap 6 tag) 0 0 ∈ t.pulses) ∧
  -- GSTOP_RELEASE (R476)
  (∀ (ten tag : Nat) (s : State), s.admits ten tag none = true → s.stopped = true → s.get Reg.DBG_GSSTATUS_SOURCE 0 &&& 2 ≠ 0 → ∃ t,
        exec (.gstopRelease ten tag) s = .next t ∧ t.get Reg.DBG_GSSTATUS_STOPPED 0 = 1 ∧ t.get Reg.DBG_EVENT_RELBLOCK 0 = 1 ∧
        .ghpRs (wrap 6 tag) 0 0 ∈ t.pulses) ∧
  -- STOP_IN_CHANGE (R473)
  (∀ (s : State), s.on Reg.DBG_GSCTRL_EXTEN 0 = true → s.stopped = false → bit (s.get Reg.DBG_GSSTATUS_SOURCE 0) 1 = false → ∃ t,
        exec (.stopInChange true) s = .next t ∧ t.get Reg.DBG_GSSTATUS_PIN 0 = 1 ∧ t.get Reg.DBG_GSSTATUS_STOPPED 0 = 1 ∧
        t.get Reg.DBG_GSSTATUS_SETTLED 0 = 0 ∧ bit (t.get Reg.DBG_GSSTATUS_SOURCE 0) 1 = true ∧ t.get Reg.DBG_GSTIME_GT 0 = wrap 64 s.gt ∧
        t.get Reg.DBG_EVENT_STOP 0 = 1) ∧
  -- STOP_IN_CHANGE (R473)
  (∀ (s : State), ∃ t, exec (.stopInChange false) s = .next t ∧ t.get Reg.DBG_GSSTATUS_PIN 0 = 0 ∧
        bit (t.get Reg.DBG_GSSTATUS_SOURCE 0) 1 = false) ∧
  -- GSTOP_SETTLE (R475)
  (∀ (s : State), s.stopped = true → ∃ t, exec (.gstopSettle) s = .next t ∧ t.get Reg.DBG_GSSTATUS_SETTLED 0 = 1) ∧
  -- UNLOCK_EXPIRY (R477)
  (∀ (s : State), ∃ t, exec (.unlockExpiry) s = .next t ∧ t.dbg.unlock = none ∧ (s.dbg.unlock.isSome = true → t.get Reg.DBG_UNLOCK_SECS 0 = 0))

/-- Trace: records, marks, cuts, runs, frees, drains, the ring and its tail. A probe's records reach its hub; a mark writes a record at a hub or the Kiln; levels and drains cut; a cut answers its run; an empty run frees at once; frees drop records; enable checks the ring and reports BADRING. Read from R470, R471. Choices: Freed records read as in 110 (DEDUCED); a write of one field leaves the others (98, DESIGN CHOICE). -/
def Obligations.TraceCommands : Prop :=
  -- TR_REC (R470)
  (∀ (region tile : Nat) (s : State), takeTrace (s.probe region tile).traceOut ≠ [] → (s.probe region tile).traceDrops = 0 →
        (s.hub region).tr.recs.length + 2 < 2047 → ∃ t, exec (.trRec region tile) s = .next t ∧
        (t.probe region tile).traceOut = (s.probe region tile).traceOut.drop (takeTrace (s.probe region tile).traceOut).length ∧
        (t.hub region).tr.recs = (s.hub region).tr.recs ++ (takeTrace (s.probe region tile).traceOut).map (·.toNat)) ∧
  -- TRACE_MARK (R470)
  (∀ (region : Nat) (s : State), region ≠ kilnRegion → bit (s.get Reg.RH_TR_CTRL_CLASSEN region) 0 = true →
        (s.hub region).tr.recs.length < 2047 → ∃ t, exec (.traceMark region) s = .next t ∧
        (t.hub region).tr.recs.length = (s.hub region).tr.recs.length + 1 ∧ (t.hub region).tr.drops = 0 ∧
        (t.hub region).tr.head = wrap 12 ((s.hub region).tr.head + 1)) ∧
  -- TRACE_MARK (R470)
  (∀ (s : State), s.dbg.recs.length < 256 → ∃ t, exec (.traceMark kilnRegion) s = .next t ∧
        t.dbg.recs = s.dbg.recs ++ [traceHead 0 0 s.gt + pack [(48, 64, s.gt), (112, 11, kilnRegion)]]) ∧
  -- TR_LEVEL (R471)
  (∀ (region held : Nat) (s : State), ∃ t, exec (.trLevel region held) s = .next t ∧
        (t.dbg.cuts.contains region = true ∨ t.dbg.cutting = some region)) ∧
  -- TR_CUT (R471)
  (∀ (region : Nat) (s : State), ∃ t, exec (.trCut region) s = .next t ∧
        msgTrRun region (wrap 12 ((s.hub region).tr.head + 4096 - (s.hub region).tr.recs.length % 4096)) (s.hub region).tr.recs.length ∈ t.flue) ∧
  -- TR_RUN (R471)
  (∀ (region first count : Nat) (s : State), s.dbg.cutting = some region → s.dbg.run = none → wrap 13 count ≠ 0 → ∃ t,
        exec (.trRun region first count) s = .next t ∧ t.dbg.run = some (region, wrap 12 first, wrap 13 count)) ∧
  -- TR_RUN (R471)
  (∀ (region first : Nat) (s : State), s.dbg.cutting = some region → s.dbg.run = none → s.dbg.copying = false → ∃ t,
        exec (.trRun region first 0) s = .next t ∧ t.dbg.run = none ∧ msgTrFree region 0 ∈ t.flue) ∧
  -- TR_FREE (R471)
  (∀ (region count : Nat) (s : State), ∃ t, exec (.trFree region count) s = .next t ∧
        (t.hub region).tr.recs = (s.hub region).tr.recs.drop (wrap 13 count)) ∧
  -- TRACE_DRAIN (R471)
  (∀ (ten tag : Nat) (s : State), s.admits ten tag none = true → ∃ t, exec (.traceDrain ten tag) s = .next t ∧
        ((∀ r ∈ s.liveRegions, t.dbg.cuts.contains r = true ∨ t.dbg.cutting = some r) ∧ .ghpRs (wrap 6 tag) 0 0 ∈ t.pulses)) ∧
  -- TRACE_ENABLE (R471)
  (∀ (ten tag : Nat) (tpen : Bool) (s : State), s.admits ten tag none = true → s.writable s.traceRing.1 (16 * s.traceRing.2) = true → ∃ t,
        exec (.traceEnable tpen ten tag) s = .next t ∧ t.get Reg.DBG_TRCTRL_EN 0 = 1 ∧ t.get Reg.DBG_TRCTRL_TPEN 0 = flag tpen ∧
        t.get Reg.DBG_TRSTATUS_BADRING 0 = 0 ∧ .ghpRs (wrap 6 tag) 0 0 ∈ t.pulses) ∧
  -- TRACE_ENABLE (R471)
  (∀ (ten tag : Nat) (tpen : Bool) (s : State), s.admits ten tag none = true → s.writable s.traceRing.1 (16 * s.traceRing.2) = false → ∃ t,
        exec (.traceEnable tpen ten tag) s = .next t ∧ t.get Reg.DBG_TRCTRL_EN 0 = 0 ∧ t.get Reg.DBG_TRSTATUS_BADRING 0 = 1 ∧
        t.get Reg.DBG_EVENT_BADRING 0 = 1 ∧ .ghpRs (wrap 6 tag) 0 0 ∈ t.pulses) ∧
  -- DBG_TRTAIL_WRITE (R471)
  (∀ (offset ten tag : Nat) (s : State), s.admits ten tag none = true → ∃ t, exec (.dbgTrtailWrite offset ten tag) s = .next t ∧
        t.get Reg.DBG_TRTAIL_OFFSET 0 = wrap Reg.DBG_TRTAIL_OFFSET.w offset ∧ .ghpRs (wrap 6 tag) 0 0 ∈ t.pulses)

/-- The host port: register reads and writes over the Flue, their answers, the mirror, timeouts and register writes. An accepted read is outstanding and answered by its unit; a lost hub answers nothing; a write changes its register; answers and timeouts complete their request with the status they carry; register writes with bad parity or alignment are refused, and others store or go to their hub. Read from R490, R495. Choices: RG_READ and MR_READ stand for the acceptance of a read too (94); REGISTER_WRITE alone has a parity operand (99): DESIGN CHOICE. -/
def Obligations.HostPortCommands : Prop :=
  -- RG_READ (R495)
  (∀ (region off ten tag : Nat) (sz64 : Bool) (s : State), s.takes tag = true → s.lost.contains region = false →
        placeOf (ghpReadAddr region none off) = ⟨.hub, region, wrap 16 off⟩ → s.readStatus (wrap 12 ten) (ghpReadAddr region none off) sz64 = .ok → ∃ t,
        exec (.rgRead region none off sz64 ten tag) s = .next t ∧
        t.ghp = s.ghp ++ [{ tag := wrap 6 tag, ten := wrap 12 ten, addr := ghpReadAddr region none off, wr := false, sz64 := sz64, gt := s.gt }] ∧
        t.flue.any (fun m => m.op == 2 && m.src == hubSrc region && m.dest == kilnSrc 0x1F 0 && m.tag == wrap 6 tag) = true) ∧
  -- RG_READ (R495)
  (∀ (tag : Nat) (s : State), s.takes tag = true → s.lost.contains 0 = false → s.readStatus 0 (ghpReadAddr 0 none 0xE00) false = .ok → ∃ t,
        exec (.rgRead 0 none 0xE00 false 0 tag) s = .next t ∧ msgRgRdata (hubSrc 0) (wrap 6 tag) 0 (s.get Reg.RH_PW_VTGT_MV 0) ∈ t.flue) ∧
  -- RG_READ (R495)
  (∀ (region off ten tag : Nat) (sz64 : Bool) (s : State), s.takes tag = true → s.lost.contains region = true →
        placeOf (ghpReadAddr region none off) = ⟨.hub, region, wrap 16 off⟩ → s.readStatus (wrap 12 ten) (ghpReadAddr region none off) sz64 = .ok → ∃ t,
        exec (.rgRead region none off sz64 ten tag) s = .next t ∧
        t.ghp = s.ghp ++ [{ tag := wrap 6 tag, ten := wrap 12 ten, addr := ghpReadAddr region none off, wr := false, sz64 := sz64, gt := s.gt }] ∧
        t.flue = arrive (msgRgRead (hubSrc region) (wrap 6 tag) (wrap 12 ten) (wrap 16 off) sz64) s.flue) ∧
  -- RG_READ (R490)
  (∀ (off ten tag : Nat) (sz64 : Bool) (s : State), s.takes tag = true → inMirror (wrap 32 off) = false →
        s.readStatus (wrap 12 ten) (wrap 32 off) sz64 = .rsvd → ∃ t, exec (.rgRead kilnRegion none off sz64 ten tag) s = .next t ∧
        .ghpRs (wrap 6 tag) 1 0 ∈ t.pulses ∧ t.get Reg.GHP_EVENT_RSVD 0 = 1 ∧ t.get Reg.GHP_ERRLOG_ADDR 0 = wrap 32 off ∧ t.ghp = s.ghp) ∧
  -- RG_WRITE (R495)
  (∀ (region data ten tag : Nat) (s : State), s.lost.contains region = false → s.windowExists .hub region = true → ∃ t,
        exec (.rgWrite region none 0xE00 false data ten tag) s = .next t ∧ t.get Reg.RH_PW_VTGT_MV region = wrap 12 data ∧
        msgRgWack (hubSrc region) (wrap 6 tag) 0 ∈ t.flue) ∧
  -- RG_WRITE (R495)
  (∀ (region tile off data ten tag : Nat) (s : State), s.lost.contains region = true → ∃ t,
        exec (.rgWrite region (some tile) off true data ten tag) s = .next t ∧
        t = s.recv (msgRgWrite (probeSrc (pid region tile / 2048) (pid region tile % 2048)) (wrap 6 tag) (wrap 12 ten) (wrap 8 off) true (wrap 64 data))) ∧
  -- RG_RDATA (R495)
  (∀ (region tag data : Nat) (tile : Option Nat) (q : GhpReq) (s : State), s.ghp.find? (fun q => q.tag == wrap 6 tag && !q.wr) = some q → ∃ t,
        exec (.rgRdata region tile tag 0 data) s = .next t ∧ .ghpRs (wrap 6 tag) 0 (wrap 64 data) ∈ t.pulses ∧
        t.ghp = s.ghp.filter (fun x => x.tag != wrap 6 tag)) ∧
  -- RG_RDATA (R495)
  (∀ (region tag data : Nat) (tile : Option Nat) (q : GhpReq) (s : State), s.ghp.find? (fun q => q.tag == wrap 6 tag && !q.wr) = some q → ∃ t,
        exec (.rgRdata region tile tag 1 data) s = .next t ∧ .ghpRs (wrap 6 tag) 1 0 ∈ t.pulses ∧ t.get Reg.GHP_EVENT_RSVD 0 = 1 ∧
        t.ghp = s.ghp.filter (fun x => x.tag != wrap 6 tag)) ∧
  -- RG_WACK (R495)
  (∀ (region tag : Nat) (tile : Option Nat) (q : GhpReq) (s : State), s.ghp.find? (fun q => q.tag == wrap 6 tag && q.wr) = some q → ∃ t,
        exec (.rgWack region tile tag 0) s = .next t ∧ .ghpRs (wrap 6 tag) 0 0 ∈ t.pulses ∧ t.ghp = s.ghp.filter (fun x => x.tag != wrap 6 tag)) ∧
  -- RG_WACK (R495)
  (∀ (region tag : Nat) (tile : Option Nat) (q : GhpReq) (s : State), s.ghp.find? (fun q => q.tag == wrap 6 tag && q.wr) = some q → ∃ t,
        exec (.rgWack region tile tag 2) s = .next t ∧ .ghpRs (wrap 6 tag) 2 0 ∈ t.pulses ∧ t.get Reg.GHP_EVENT_LOCKED 0 = 1 ∧
        t.get Reg.GHP_ERRLOG_TAG 0 = wrap 6 tag ∧ t.get Reg.GHP_ERRLOG_STATUS 0 = 2 ∧ t.ghp = s.ghp.filter (fun x => x.tag != wrap 6 tag)) ∧
  -- MR_READ (R495)
  (∀ (region off tag : Nat) (sz64 lens : Bool) (s : State), s.takes tag = true → s.lost.contains region = false → ∃ t,
        exec (.mrRead region off sz64 lens tag) s = .next t ∧
        t.ghp = s.ghp ++ [{ tag := wrap 6 tag, ten := 0, addr := wrap 32 (mirrorAddr region lens (wrap 23 off)), wr := false, sz64 := sz64, gt := s.gt }] ∧
        t.flue.any (fun m => m.op == 2 && m.src == hubSrc region && m.dest == kilnSrc 0x1F 0 && m.tag == wrap 6 tag) = true) ∧
  -- GHP_TIMEOUT (R490)
  (∀ (tag : Nat) (q : GhpReq) (s : State), s.ghp.find? (fun q => q.tag == wrap 6 tag && true) = some q → ∃ t,
        exec (.ghpTimeout tag) s = .next t ∧ .ghpRs (wrap 6 tag) 7 0 ∈ t.pulses ∧ t.get Reg.GHP_EVENT_TIMEOUT 0 = 1 ∧
        t.ghp = s.ghp.filter (fun x => x.tag != wrap 6 tag)) ∧
  -- REGISTER_WRITE (R490)
  (∀ (addr data ten tag : Nat) (sz64 : Bool) (s : State), s.takes tag = true → ∃ t,
        exec (.registerWrite addr data sz64 ten tag false) s = .next t ∧ .ghpRs (wrap 6 tag) 6 0 ∈ t.pulses ∧
        t.get Reg.GHP_EVENT_PARITY 0 = 1 ∧ t.get Reg.GHP_ERRLOG_ADDR 0 = wrap 32 addr ∧ t.get Reg.GHP_ERRLOG_STATUS 0 = 6) ∧
  -- REGISTER_WRITE (R490)
  (∀ (addr data ten tag : Nat) (s : State), s.takes tag = true → addr % 4 = 2 → ∃ t,
        exec (.registerWrite addr data false ten tag true) s = .next t ∧ .ghpRs (wrap 6 tag) 5 0 ∈ t.pulses ∧ t.get Reg.GHP_EVENT_ALIGN 0 = 1 ∧
        t.get Reg.GHP_ERRLOG_ADDR 0 = wrap 32 addr) ∧
  -- REGISTER_WRITE (R490)
  (∀ (data tag : Nat) (s : State), s.admits 0 tag none = true → ∃ t, exec (.registerWrite 0x200034 data false 0 tag true) s = .next t ∧
        t.get Reg.LDG_AP0_P 0 = wrap 32 data ∧ .ghpRs (wrap 6 tag) 0 0 ∈ t.pulses) ∧
  -- REGISTER_WRITE (R490)
  (∀ (data tag : Nat) (s : State), s.admits 0 tag none = true → s.windowExists .hub 0 = true → ∃ t,
        exec (.registerWrite (Win.hub.base 0 + 0xE00) data false 0 tag true) s = .next t ∧
        t.ghp = s.ghp ++ [{ tag := wrap 6 tag, ten := 0, addr := Win.hub.base 0 + 0xE00, wr := true, sz64 := false, gt := s.gt }] ∧
        t.flue = s.flue ++ [msgRgWrite (hubSrc 0) (wrap 6 tag) 0 0xE00 false (wrap 32 data)])

/-- Vendor commands of the management port and its wake write. Status, registers, mirror and Ledger chunks are answered with their lengths and codes; power, stop and ambient temperature act and are answered; the sealed state refuses the stop with 4; a write to a sleeping block wakes it. Read from R504, R505. Choices: A register of a hub or probe is answered at once (95, DEDUCED); words without a stated layout are free (81) and so is a completion code of 85: DESIGN CHOICE, and the clauses exclude it. -/
def Obligations.ManagementCommands : Prop :=
  -- GET_STATUS (R504)
  (∀ (s : State), s.pwr.running = true → ∃ t, exec (.getStatus) s = .next t ∧
        .mgtRs 0 (s.statusWord 0 ++ s.statusWord 0x900 ++ s.statusWord 0x800 ++ s.statusWord 0x100C ++ s.statusWord 0x100004) ∈ t.pulses) ∧
  -- GET_STATUS (R504)
  (∀ (s : State), s.pwr.stopped = false → s.pwr.running = false → ∃ t, exec (.getStatus) s = .next t ∧ t = s.emit (.i3c false [])) ∧
  -- READ_REG (R504)
  (∀ (addr : Nat) (sz64 : Bool) (s : State), s.pwr.running = true → ∃ t, exec (.readReg addr sz64) s = .next t ∧
        t.pulses.any (fun p => match p with | .mgtRs c l => c == 0 && l.length == 9 | _ => false) = true) ∧
  -- READ_MIRROR (R504)
  (∀ (offset count : Nat) (s : State), s.pwr.running = true → 1 ≤ count → count ≤ 6 → wrap 32 offset < 0x40000000 → ∃ t,
        exec (.readMirror offset count) s = .next t ∧
        t.pulses.any (fun p => match p with | .mgtRs c l => c == 0 && l.length == 1 + 8 * count | _ => false) = true) ∧
  -- READ_MIRROR (R504)
  (∀ (offset count : Nat) (s : State), s.pwr.running = true → count = 0 ∨ 6 < count → ∃ t, exec (.readMirror offset count) s = .next t ∧
        .mgtRs 1 ([]) ∈ t.pulses) ∧
  -- READ_LEDGER (R504)
  (∀ (page chunk : Nat) (p : Page) (s : State), s.pwr.running = true → s.ldg.find (wrap 32 page) = some p → chunk < 176 → ∃ t,
        exec (.readLedger page chunk) s = .next t ∧
        .mgtRs 0 (((p.bytes ++ (p.trailer.map (·.bytes)).getD []).drop (48 * chunk)).take 48) ∈ t.pulses) ∧
  -- POWER (R504)
  (∀ (s : State), s.pwr.running = true → s.pwr.state = .on → ∃ t, exec (.power false) s = .next t ∧ .mgtRs 0 ([]) ∈ t.pulses ∧
        t.pwr.state = .pdQuiesce ∧ t.pwr.source = 1) ∧
  -- POWER (R504)
  (∀ (s : State), s.pwr.running = true → s.pwr.state = .pdQuiesce ∨ s.pwr.state = .pdFlush → s.bru.paused = false → ∃ t,
        exec (.power true) s = .next t ∧ .mgtRs 0 ([]) ∈ t.pulses ∧ t.pwr.state = s.pwr.back ∧ t.pwr.source = 1) ∧
  -- GSTOP (R504)
  (∀ (s : State), s.pwr.running = true → s.isSealed = false → s.stopped = false → ∃ t, exec (.gstop true) s = .next t ∧
        t.pulses.any (fun p => match p with | .mgtRs c l => c == 0 && l.length == 4 | _ => false) = true ∧
        t.get Reg.DBG_GSSTATUS_STOPPED 0 = 1 ∧ t.get Reg.DBG_GSSTATUS_SETTLED 0 = 0 ∧ bit (t.get Reg.DBG_GSSTATUS_SOURCE 0) 3 = true ∧
        t.get Reg.DBG_GSTIME_GT 0 = wrap 64 s.gt ∧ t.get Reg.DBG_EVENT_STOP 0 = 1) ∧
  -- GSTOP (R504)
  (∀ (stop : Bool) (s : State), s.pwr.running = true → s.isSealed = true → ∃ t, exec (.gstop stop) s = .next t ∧ .mgtRs 4 ([]) ∈ t.pulses ∧
        t.regs = s.regs) ∧
  -- SET_AMB (R504)
  (∀ (region tamb : Nat) (s : State), s.pwr.running = true → s.isSealed = false → wrap 16 region ≠ 0xFFFF → s.inGrid (wrap 16 region) = true →
        ∃ t, exec (.setAmb region tamb) s = .next t ∧ .mgtRs 0 ([]) ∈ t.pulses ∧
        t.get Reg.RH_TH_AMB_AMB (wrap 16 region) = wrap Reg.RH_TH_AMB_AMB.w tamb) ∧
  -- WAKE_WRITE (R505)
  (∀ (s : State), s.pwr.stopped = false → s.pwr.running = false → s.pwr.state = .off → s.pwr.vddGood = true → ∃ t,
        exec (.wakeWrite) s = .next t ∧
        (t.get Reg.MGT_EVENT_WAKE 0 = 1 ∧ .i3c true [] ∈ t.pulses ∧ t.pwr.source = 1 ∧ (t.pwr.state = .puWait ∨ t.pwr.state = .puIso))) ∧
  -- WAKE_WRITE (R505)
  (∀ (s : State), s.pwr.stopped = false → s.pwr.state = .pdStop → ∃ t, exec (.wakeWrite) s = .next t ∧ t.get Reg.MGT_EVENT_WAKE 0 = 1 ∧
        .i3c true [] ∈ t.pulses ∧ t.pwr.onLatch = true)

/-- MCTP control and PLDM commands of the management port. Endpoint IDs, versions, message types, vendor support, the terminus, PLDM versions, types and commands, the repository, records, sensor and state sensor readings are answered as the rules and the standards they name say. Read from R502, R503. Choices: The numbers of MCTP and PLDM are taken from their standards (84, PRESUMED); the IANA number is an opaque constant (82, DESIGN CHOICE). -/
def Obligations.MctpAndPldmCommands : Prop :=
  -- SET_ENDPOINT_ID (R502)
  (∀ (op eid : Nat) (s : State), s.pwr.running = true → op % 4 < 2 → wrap 8 eid ≠ 0 → wrap 8 eid ≠ 0xFF → ∃ t,
        exec (.setEndpointId op eid) s = .next t ∧ .mgtRs 0 ([0, wrap 8 eid, 0]) ∈ t.pulses ∧ t.mgt = { s.mgt with eid := wrap 8 eid }) ∧
  -- GET_ENDPOINT_ID (R502)
  (∀ (s : State), s.pwr.running = true → ∃ t, exec (.getEndpointId) s = .next t ∧ .mgtRs 0 ([s.mgt.eid, 0, 0]) ∈ t.pulses ∧ t.mgt = s.mgt) ∧
  -- GET_MCTP_VERSION_SUPPORT (R502)
  (∀ (type : Nat) (s : State), s.pwr.running = true → [0xFF, 0x00, 0x01, 0x7F].contains (wrap 8 type) = true → ∃ t,
        exec (.getMctpVersionSupport type) s = .next t ∧
        t.pulses.any (fun p => match p with | .mgtRs c l => c == 0 && l.length == 5 | _ => false) = true) ∧
  -- GET_MCTP_VERSION_SUPPORT (R502)
  (∀ (type : Nat) (s : State), s.pwr.running = true → [0xFF, 0x00, 0x01, 0x7F].contains (wrap 8 type) = false → ∃ t,
        exec (.getMctpVersionSupport type) s = .next t ∧ .mgtRs 0x80 ([]) ∈ t.pulses) ∧
  -- GET_MESSAGE_TYPE_SUPPORT (R502)
  (∀ (s : State), s.pwr.running = true → ∃ t, exec (.getMessageTypeSupport) s = .next t ∧ .mgtRs 0 ([2, 0x01, 0x7F]) ∈ t.pulses) ∧
  -- GET_VENDOR_DEFINED_MESSAGE_SUPPORT (R502)
  (∀ (s : State), s.pwr.running = true → ∃ t, exec (.getVendorDefinedMessageSupport 0) s = .next t ∧
        t.pulses.any (fun p => match p with | .mgtRs c l => c == 0 && l.take 6 == [0xFF, 0x01] ++ (leBytes 4 Config.iana).reverse | _ => false) = true) ∧
  -- GETTID (R503)
  (∀ (s : State), s.pwr.running = true → ∃ t, exec (.gettid) s = .next t ∧
        t.pulses.any (fun p => match p with | .mgtRs c l => c == 0 && l.length == 1 | _ => false) = true) ∧
  -- GETPLDMVERSION (R503)
  (∀ (type : Nat) (s : State), s.pwr.running = true → wrap 8 type = 0 ∨ wrap 8 type = 2 → ∃ t, exec (.getpldmversion type) s = .next t ∧
        t.pulses.any (fun p => match p with | .mgtRs c l => c == 0 && l.length == 4 | _ => false) = true) ∧
  -- GETPLDMTYPES (R503)
  (∀ (s : State), s.pwr.running = true → ∃ t, exec (.getpldmtypes) s = .next t ∧ .mgtRs 0 ([5, 0, 0, 0, 0, 0, 0, 0]) ∈ t.pulses) ∧
  -- GETPLDMCOMMANDS (R503)
  (∀ (s : State), s.pwr.running = true → ∃ t, exec (.getpldmcommands 2) s = .next t ∧
        .mgtRs 0 (leBytes 32 (2 ^ 0x11 + 2 ^ 0x21 + 2 ^ 0x50 + 2 ^ 0x51)) ∈ t.pulses) ∧
  -- GETPLDMCOMMANDS (R503)
  (∀ (s : State), s.pwr.running = true → ∃ t, exec (.getpldmcommands 0) s = .next t ∧ .mgtRs 0 (60 :: List.replicate 31 0) ∈ t.pulses) ∧
  -- GETPDRREPOSITORYINFO (R503)
  (∀ (s : State), s.pwr.running = true → ∃ t, exec (.getpdrrepositoryinfo) s = .next t ∧
        t.pulses.any (fun p => match p with | .mgtRs c l => c == 0 && l.head? == some 0 && (l.drop 27).take 4 == leBytes 4 s.sensorCount | _ => false) = true) ∧
  -- GETPDR (R503)
  (∀ (handle : Nat) (s : State), s.pwr.running = true → ∃ t, exec (.getpdr handle) s = .next t ∧
        t.pulses.any (fun p => match p with | .mgtRs c l => c == 0 && l.length == 64 | _ => false) = true) ∧
  -- GETSENSORREADING (R503)
  (∀ (sensor : Nat) (s : State), s.pwr.running = true → 0x20 ≤ wrap 16 sensor → wrap 16 sensor < 0x28 → ∃ t,
        exec (.getsensorreading sensor) s = .next t ∧ .mgtRs 0 (leBytes 4 (s.sense (wrap 16 sensor - 0x20)).vbus) ∈ t.pulses) ∧
  -- GETSENSORREADING (R503)
  (∀ (sensor : Nat) (s : State), s.pwr.running = true → 0x100 ≤ wrap 16 sensor → s.inGrid (wrap 16 sensor - 0x100) = true → ∃ t,
        exec (.getsensorreading sensor) s = .next t ∧ .mgtRs 0 (leBytes 4 (unsigned 16 (s.estimate (wrap 16 sensor - 0x100)))) ∈ t.pulses) ∧
  -- GETSENSORREADING (R503)
  (∀ (sensor : Nat) (s : State), s.pwr.running = true → wrap 16 sensor < 0x10 → ∃ t, exec (.getsensorreading sensor) s = .next t ∧
        .mgtRs 0x80 ([]) ∈ t.pulses) ∧
  -- GETSTATESENSORREADINGS (R503)
  (∀ (s : State), s.pwr.running = true → ∃ t, exec (.getstatesensorreadings 1) s = .next t ∧ .mgtRs 0 ([1, 0, s.pwr.state.code]) ∈ t.pulses) ∧
  -- GETSTATESENSORREADINGS (R503)
  (∀ (sensor : Nat) (s : State), s.pwr.running = true → wrap 16 sensor = 2 ∨ wrap 16 sensor = 3 ∨ wrap 16 sensor = 4 → ∃ t,
        exec (.getstatesensorreadings sensor) s = .next t ∧
        .mgtRs 0 ([1, 0, if wrap 16 sensor = 2 then s.bru.state.code else if wrap 16 sensor = 4 then s.vault.st.code else if s.isSealed then 4 else s.flt.phase.code]) ∈ t.pulses)

/-- I3C common command codes of the management port. Dynamic addresses are taken, set and reset; in-band interrupts are enabled and disabled; identity, status and lengths are read; lengths are set; nothing else of the state changes. Read from R501. Choices: The data of the codes are taken from I3C Basic (84, PRESUMED); the static address and the identity are opaque constants (82, DESIGN CHOICE). -/
def Obligations.I3cCommands : Prop :=
  -- ENTDAA (R501)
  (∀ (addr : Nat) (s : State), s.pwr.stopped = false → s.mgt.da = none → ∃ t, exec (.entdaa addr) s = .next t ∧
        t = { s with mgt := { s.mgt with da := some (wrap 7 addr) } }.emit (.i3c true ((leBytes 6 Config.i3cPid).reverse ++ [wrap 8 Config.i3cBcr, wrap 8 Config.i3cDcr]))) ∧
  -- SETDASA (R501)
  (∀ (sa addr : Nat) (s : State), s.pwr.stopped = false → s.mgt.da = none → wrap 7 sa = wrap 7 Config.staticAddress → ∃ t,
        exec (.setdasa sa addr) s = .next t ∧ t = { s with mgt := { s.mgt with da := some (wrap 7 addr) } }.emit (.i3c true ([]))) ∧
  -- SETNEWDA (R501)
  (∀ (old new : Nat) (s : State), s.pwr.stopped = false → s.mgt.da = some (wrap 7 old) → ∃ t, exec (.setnewda old new) s = .next t ∧
        t = { s with mgt := { s.mgt with da := some (wrap 7 new) } }.emit (.i3c true ([]))) ∧
  -- RSTDAA (R501)
  (∀ (s : State), s.pwr.stopped = false → ∃ t, exec (.rstdaa) s = .next t ∧
        t = { s with mgt := { s.mgt with da := none } }.emit (.i3c true ([]))) ∧
  -- ENEC (R501)
  (∀ (events : Nat) (s : State), s.pwr.stopped = false → ∃ t, exec (.enec none events) s = .next t ∧
        t = { s with mgt := { s.mgt with ibi := s.mgt.ibi || bit events 0 } }.emit (.i3c true ([]))) ∧
  -- ENEC (R501)
  (∀ (addr events : Nat) (s : State), s.pwr.stopped = false → s.mgt.da = some (wrap 7 addr) → ∃ t, exec (.enec (some addr) events) s = .next t ∧
        t = { s with mgt := { s.mgt with ibi := s.mgt.ibi || bit events 0 } }.emit (.i3c true ([]))) ∧
  -- DISEC (R501)
  (∀ (events : Nat) (s : State), s.pwr.stopped = false → ∃ t, exec (.disec none events) s = .next t ∧
        t = { s with mgt := { s.mgt with ibi := s.mgt.ibi && !bit events 0 } }.emit (.i3c true ([]))) ∧
  -- DISEC (R501)
  (∀ (addr events : Nat) (s : State), s.pwr.stopped = false → s.mgt.da = some (wrap 7 addr) → ∃ t,
        exec (.disec (some addr) events) s = .next t ∧
        t = { s with mgt := { s.mgt with ibi := s.mgt.ibi && !bit events 0 } }.emit (.i3c true ([]))) ∧
  -- GETPID (R501)
  (∀ (addr : Nat) (s : State), s.pwr.stopped = false → s.mgt.da = some (wrap 7 addr) → ∃ t, exec (.getpid addr) s = .next t ∧
        t = { s with mgt := s.mgt }.emit (.i3c true ((leBytes 6 Config.i3cPid).reverse))) ∧
  -- GETBCR (R501)
  (∀ (addr : Nat) (s : State), s.pwr.stopped = false → s.mgt.da = some (wrap 7 addr) → ∃ t, exec (.getbcr addr) s = .next t ∧
        t = { s with mgt := s.mgt }.emit (.i3c true ([wrap 8 Config.i3cBcr]))) ∧
  -- GETDCR (R501)
  (∀ (addr : Nat) (s : State), s.pwr.stopped = false → s.mgt.da = some (wrap 7 addr) → ∃ t, exec (.getdcr addr) s = .next t ∧
        t = { s with mgt := s.mgt }.emit (.i3c true ([wrap 8 Config.i3cDcr]))) ∧
  -- GETSTATUS (R501)
  (∀ (addr : Nat) (s : State), s.pwr.stopped = false → s.mgt.da = some (wrap 7 addr) → ∃ t, exec (.getstatus addr) s = .next t ∧ t.mgt = s.mgt ∧
        t.pulses.any (fun p => match p with | .i3c a l => a && l.length == 2 | _ => false) = true) ∧
  -- GETMWL (R501)
  (∀ (addr : Nat) (s : State), s.pwr.stopped = false → s.mgt.da = some (wrap 7 addr) → ∃ t, exec (.getmwl addr) s = .next t ∧
        t = { s with mgt := s.mgt }.emit (.i3c true ([s.mgt.mwl / 256 % 256, s.mgt.mwl % 256]))) ∧
  -- GETMRL (R501)
  (∀ (addr : Nat) (s : State), s.pwr.stopped = false → s.mgt.da = some (wrap 7 addr) → ∃ t, exec (.getmrl addr) s = .next t ∧
        t = { s with mgt := s.mgt }.emit (.i3c true ([s.mgt.mrl / 256 % 256, s.mgt.mrl % 256]))) ∧
  -- SETMWL (R501)
  (∀ (len : Nat) (s : State), s.pwr.stopped = false → ∃ t, exec (.setmwl none len) s = .next t ∧
        t = { s with mgt := { s.mgt with mwl := wrap 16 len } }.emit (.i3c true ([]))) ∧
  -- SETMWL (R501)
  (∀ (addr len : Nat) (s : State), s.pwr.stopped = false → s.mgt.da = some (wrap 7 addr) → ∃ t, exec (.setmwl (some addr) len) s = .next t ∧
        t = { s with mgt := { s.mgt with mwl := wrap 16 len } }.emit (.i3c true ([]))) ∧
  -- SETMRL (R501)
  (∀ (len : Nat) (s : State), s.pwr.stopped = false → ∃ t, exec (.setmrl none len) s = .next t ∧
        t = { s with mgt := { s.mgt with mrl := wrap 16 len } }.emit (.i3c true ([]))) ∧
  -- SETMRL (R501)
  (∀ (addr len : Nat) (s : State), s.pwr.stopped = false → s.mgt.da = some (wrap 7 addr) → ∃ t, exec (.setmrl (some addr) len) s = .next t ∧
        t = { s with mgt := { s.mgt with mrl := wrap 16 len } }.emit (.i3c true ([])))
end

