-- ==== Sys2Proof/Laws/Units.lean ====
section
/-! SUPPORT. The unit of every register that a meaning writes. -/

namespace Sys2Proof.Machine

theorem unit_GHP_EVENT_TAGDUP : Reg.GHP_EVENT_TAGDUP.unit = .ghp := rfl
theorem unit_GHP_ERRLOG_ADDR : Reg.GHP_ERRLOG_ADDR.unit = .ghp := rfl
theorem unit_GHP_ERRLOG_TEN : Reg.GHP_ERRLOG_TEN.unit = .ghp := rfl
theorem unit_GHP_ERRLOG_TAG : Reg.GHP_ERRLOG_TAG.unit = .ghp := rfl
theorem unit_GHP_ERRLOG_WR : Reg.GHP_ERRLOG_WR.unit = .ghp := rfl
theorem unit_GHP_ERRLOG_SZ : Reg.GHP_ERRLOG_SZ.unit = .ghp := rfl
theorem unit_GHP_ERRLOG_STATUS : Reg.GHP_ERRLOG_STATUS.unit = .ghp := rfl
theorem unit_GHP_ERRLOG_GT : Reg.GHP_ERRLOG_GT.unit = .ghp := rfl
theorem unit_MGT_EVENT_WAKE : Reg.MGT_EVENT_WAKE.unit = .mgt := rfl
theorem unit_BRU_STATUS_UNPROV : Reg.BRU_STATUS_UNPROV.unit = .bru := rfl
theorem unit_BRU_TIME_US : Reg.BRU_TIME_US.unit = .bru := rfl
theorem unit_BRU_DETAIL_DETAIL : Reg.BRU_DETAIL_DETAIL.unit = .bru := rfl
theorem unit_CHR_AMST_BUSY : Reg.CHR_AMST_BUSY.unit = .bru := rfl
theorem unit_CHR_AMST_RESULT : Reg.CHR_AMST_RESULT.unit = .bru := rfl
theorem unit_CHR_AMST_REASON : Reg.CHR_AMST_REASON.unit = .bru := rfl
theorem unit_CHR_AMST_DROPPED : Reg.CHR_AMST_DROPPED.unit = .bru := rfl
theorem unit_CHR_INFO_SERIAL : Reg.CHR_INFO_SERIAL.unit = .bru := rfl
theorem unit_CHR_INFO_MEKOR : Reg.CHR_INFO_MEKOR.unit = .bru := rfl
theorem unit_CHR_INFO_LENGTH : Reg.CHR_INFO_LENGTH.unit = .bru := rfl
theorem unit_CHR_INFO_AMSEQ : Reg.CHR_INFO_AMSEQ.unit = .bru := rfl
theorem unit_CHR_INFO_EDIGEST : Reg.CHR_INFO_EDIGEST.unit = .bru := rfl
theorem unit_CHR_LOCK_LOCKED : Reg.CHR_LOCK_LOCKED.unit = .bru := rfl
theorem unit_CHR_LOCK_ALLOW : Reg.CHR_LOCK_ALLOW.unit = .bru := rfl
theorem unit_CHR_LQREQ_CLP : Reg.CHR_LQREQ_CLP.unit = .bru := rfl
theorem unit_CHR_LQPASS_CLP : Reg.CHR_LQPASS_CLP.unit = .bru := rfl
theorem unit_CHR_LQFAIL_CLP : Reg.CHR_LQFAIL_CLP.unit = .bru := rfl
theorem unit_BRU_EVENT_READY : Reg.BRU_EVENT_READY.unit = .bru := rfl
theorem unit_BRU_EVENT_REFUSED : Reg.BRU_EVENT_REFUSED.unit = .bru := rfl
theorem unit_BRU_EVENT_AMEND : Reg.BRU_EVENT_AMEND.unit = .bru := rfl
theorem unit_BRU_EVENT_AMREJ : Reg.BRU_EVENT_AMREJ.unit = .bru := rfl
theorem unit_BRU_EVENT_LQFAIL : Reg.BRU_EVENT_LQFAIL.unit = .bru := rfl
theorem unit_BRU_EVENT_PSTFAIL : Reg.BRU_EVENT_PSTFAIL.unit = .bru := rfl
theorem unit_BRU_EVENT_GOBUSY : Reg.BRU_EVENT_GOBUSY.unit = .bru := rfl
theorem unit_BRU_PST_FAILS : Reg.BRU_PST_FAILS.unit = .bru := rfl
theorem unit_PWR_EVENT_LOSS : Reg.PWR_EVENT_LOSS.unit = .pwr := rfl
theorem unit_PWR_EVENT_VBK : Reg.PWR_EVENT_VBK.unit = .pwr := rfl
theorem unit_PWR_EVENT_HOLDOVER : Reg.PWR_EVENT_HOLDOVER.unit = .pwr := rfl
theorem unit_PWR_EVENT_INCOMPLETE : Reg.PWR_EVENT_INCOMPLETE.unit = .pwr := rfl
theorem unit_PWR_EVENT_COLD : Reg.PWR_EVENT_COLD.unit = .pwr := rfl
theorem unit_PWR_EVENT_BTNSTUCK : Reg.PWR_EVENT_BTNSTUCK.unit = .pwr := rfl
theorem unit_PWR_HOLD_US : Reg.PWR_HOLD_US.unit = .pwr := rfl
theorem unit_PWR_LASTLOSS_P0 : Reg.PWR_LASTLOSS_P0.unit = .pwr := rfl
theorem unit_PWR_LASTLOSS_P2 : Reg.PWR_LASTLOSS_P2.unit = .pwr := rfl
theorem unit_PWR_LASTLOSS_LOST : Reg.PWR_LASTLOSS_LOST.unit = .pwr := rfl
theorem unit_PWR_LASTLOSS_SECS : Reg.PWR_LASTLOSS_SECS.unit = .pwr := rfl
theorem unit_FLT_PHASE_PHASE : Reg.FLT_PHASE_PHASE.unit = .flt := rfl
theorem unit_FLT_ACK_RID : Reg.FLT_ACK_RID.unit = .flt := rfl
theorem unit_FLT_EVENT_L1 : Reg.FLT_EVENT_L1.unit = .flt := rfl
theorem unit_FLT_EVENT_L2 : Reg.FLT_EVENT_L2.unit = .flt := rfl
theorem unit_FLT_EVENT_ESC : Reg.FLT_EVENT_ESC.unit = .flt := rfl
theorem unit_FLT_EVENT_QUEUED : Reg.FLT_EVENT_QUEUED.unit = .flt := rfl
theorem unit_FLT_EVENT_QFULL : Reg.FLT_EVENT_QFULL.unit = .flt := rfl
theorem unit_FLT_EVENT_NFULL : Reg.FLT_EVENT_NFULL.unit = .flt := rfl
theorem unit_FLT_EVENT_ACKBAD : Reg.FLT_EVENT_ACKBAD.unit = .flt := rfl
theorem unit_FLT_EVENT_EVICT : Reg.FLT_EVENT_EVICT.unit = .flt := rfl
theorem unit_FLT_NTAIL_TAIL : Reg.FLT_NTAIL_TAIL.unit = .flt := rfl
theorem unit_FLT_FIRSTVAL_VALID : Reg.FLT_FIRSTVAL_VALID.unit = .flt := rfl
theorem unit_RCV_EVENT_CASE : Reg.RCV_EVENT_CASE.unit = .rcv := rfl
theorem unit_RCV_EVENT_CLRFAIL : Reg.RCV_EVENT_CLRFAIL.unit = .rcv := rfl
theorem unit_RCV_EVENT_ENGINE : Reg.RCV_EVENT_ENGINE.unit = .rcv := rfl
theorem unit_RCV_EVENT_PART : Reg.RCV_EVENT_PART.unit = .rcv := rfl
theorem unit_RCV_EVENT_CHIP : Reg.RCV_EVENT_CHIP.unit = .rcv := rfl
theorem unit_RCV_EVENT_POWER : Reg.RCV_EVENT_POWER.unit = .rcv := rfl
theorem unit_RCV_EVENT_GUILTY : Reg.RCV_EVENT_GUILTY.unit = .rcv := rfl
theorem unit_RCV_EVENT_INCONCL : Reg.RCV_EVENT_INCONCL.unit = .rcv := rfl
theorem unit_RCV_LAST_CASE : Reg.RCV_LAST_CASE.unit = .rcv := rfl
theorem unit_RCV_LAST_RESULT : Reg.RCV_LAST_RESULT.unit = .rcv := rfl
theorem unit_RCV_LAST_RUNG : Reg.RCV_LAST_RUNG.unit = .rcv := rfl
theorem unit_RCV_LAST_NSUS : Reg.RCV_LAST_NSUS.unit = .rcv := rfl
theorem unit_RCV_LAST_GUILTY : Reg.RCV_LAST_GUILTY.unit = .rcv := rfl
theorem unit_RCV_LAST_FSEQ : Reg.RCV_LAST_FSEQ.unit = .rcv := rfl
theorem unit_RCV_LAST_GTOPEN : Reg.RCV_LAST_GTOPEN.unit = .rcv := rfl
theorem unit_RCV_LAST_GTDONE : Reg.RCV_LAST_GTDONE.unit = .rcv := rfl
theorem unit_CCD_XREQ_OP : Reg.CCD_XREQ_OP.unit = .ccd := rfl
theorem unit_CCD_XREQ_CLP : Reg.CCD_XREQ_CLP.unit = .ccd := rfl
theorem unit_CCD_XREQ_JOB : Reg.CCD_XREQ_JOB.unit = .ccd := rfl
theorem unit_CCD_XREQ_SLICE : Reg.CCD_XREQ_SLICE.unit = .ccd := rfl
theorem unit_CCD_XREQ_NEWCLP : Reg.CCD_XREQ_NEWCLP.unit = .ccd := rfl
theorem unit_CCD_XREQ_WITHDRAW : Reg.CCD_XREQ_WITHDRAW.unit = .ccd := rfl
theorem unit_CCD_XREQST_BUSY : Reg.CCD_XREQST_BUSY.unit = .ccd := rfl
theorem unit_CCD_XREQST_RESULT : Reg.CCD_XREQST_RESULT.unit = .ccd := rfl
theorem unit_CCD_XREQST_DROPPED : Reg.CCD_XREQST_DROPPED.unit = .ccd := rfl
theorem unit_CCD_XREQNUM_NUMBER : Reg.CCD_XREQNUM_NUMBER.unit = .ccd := rfl
theorem unit_VLT_STATUS_ERRCODE : Reg.VLT_STATUS_ERRCODE.unit = .vlt := rfl
theorem unit_VLT_STATUS_ERRKIND : Reg.VLT_STATUS_ERRKIND.unit = .vlt := rfl
theorem unit_VLT_STATUS_BLOB : Reg.VLT_STATUS_BLOB.unit = .vlt := rfl
theorem unit_VLT_CTRL_STNOW : Reg.VLT_CTRL_STNOW.unit = .vlt := rfl
theorem unit_VLT_EVENT_TOKOK : Reg.VLT_EVENT_TOKOK.unit = .vlt := rfl
theorem unit_VLT_EVENT_TOKREJ : Reg.VLT_EVENT_TOKREJ.unit = .vlt := rfl
theorem unit_VLT_EVENT_HEALTH1 : Reg.VLT_EVENT_HEALTH1.unit = .vlt := rfl
theorem unit_VLT_EVENT_PERIODIC : Reg.VLT_EVENT_PERIODIC.unit = .vlt := rfl
theorem unit_VLT_EVENT_ZEROISED : Reg.VLT_EVENT_ZEROISED.unit = .vlt := rfl
theorem unit_VLT_EVENT_PROVISIONED : Reg.VLT_EVENT_PROVISIONED.unit = .vlt := rfl
theorem unit_VLT_EVENT_TALLYKEY : Reg.VLT_EVENT_TALLYKEY.unit = .vlt := rfl
theorem unit_VLT_DEVID_DEVID : Reg.VLT_DEVID_DEVID.unit = .vlt := rfl
theorem unit_VLT_NONCE_REQ_SERVICE : Reg.VLT_NONCE_REQ_SERVICE.unit = .vlt := rfl
theorem unit_VLT_NONCE_NONCE : Reg.VLT_NONCE_NONCE.unit = .vlt := rfl
theorem unit_VLT_NONCE_SLOT : Reg.VLT_NONCE_SLOT.unit = .vlt := rfl
theorem unit_VLT_TOKST_BUSY : Reg.VLT_TOKST_BUSY.unit = .vlt := rfl
theorem unit_VLT_TOKST_RESULT : Reg.VLT_TOKST_RESULT.unit = .vlt := rfl
theorem unit_VLT_TOKST_REASON : Reg.VLT_TOKST_REASON.unit = .vlt := rfl
theorem unit_VLT_TOKST_DROPPED : Reg.VLT_TOKST_DROPPED.unit = .vlt := rfl
theorem unit_VLT_TOKST_APPROVED : Reg.VLT_TOKST_APPROVED.unit = .vlt := rfl
theorem unit_VLT_RAW_SAMPLES : Reg.VLT_RAW_SAMPLES.unit = .vlt := rfl
theorem unit_VLT_STCNT_COUNT : Reg.VLT_STCNT_COUNT.unit = .vlt := rfl
theorem unit_STK_CTRL_EN : Reg.STK_CTRL_EN.unit = .stk := rfl
theorem unit_STK_STATUS_HALTED : Reg.STK_STATUS_HALTED.unit = .stk := rfl
theorem unit_STK_STATUS_HCH : Reg.STK_STATUS_HCH.unit = .stk := rfl
theorem unit_STK_STATUS_HCAUSE : Reg.STK_STATUS_HCAUSE.unit = .stk := rfl
theorem unit_STK_HALTADDR_ADDR : Reg.STK_HALTADDR_ADDR.unit = .stk := rfl
theorem unit_STK_HALTADDR_TAG : Reg.STK_HALTADDR_TAG.unit = .stk := rfl
theorem unit_STK_EVENT_BUSERR : Reg.STK_EVENT_BUSERR.unit = .stk := rfl
theorem unit_STK_EVENT_DESCERR : Reg.STK_EVENT_DESCERR.unit = .stk := rfl
theorem unit_STK_EVENT_DROP : Reg.STK_EVENT_DROP.unit = .stk := rfl
theorem unit_STK_EVENT_DISABLED : Reg.STK_EVENT_DISABLED.unit = .stk := rfl
theorem unit_STK_EVENT_MISMATCH : Reg.STK_EVENT_MISMATCH.unit = .stk := rfl
theorem unit_STK_EVENT_GOBUSY : Reg.STK_EVENT_GOBUSY.unit = .stk := rfl
theorem unit_SNS_EVENT_OPEN : Reg.SNS_EVENT_OPEN.unit = .sns := rfl
theorem unit_SNS_EVENT_OVER : Reg.SNS_EVENT_OVER.unit = .sns := rfl
theorem unit_SNS_EVENT_FAR : Reg.SNS_EVENT_FAR.unit = .sns := rfl
theorem unit_TLY_STATUS_NOSIGN : Reg.TLY_STATUS_NOSIGN.unit = .tly := rfl
theorem unit_TLY_SWNUM_NEXT : Reg.TLY_SWNUM_NEXT.unit = .tly := rfl
theorem unit_TLY_EVENT_DISCARD : Reg.TLY_EVENT_DISCARD.unit = .tly := rfl
theorem unit_TLY_EVENT_GAP : Reg.TLY_EVENT_GAP.unit = .tly := rfl
theorem unit_TLY_EVENT_QFULL : Reg.TLY_EVENT_QFULL.unit = .tly := rfl
theorem unit_TLY_EVENT_RINGWAIT : Reg.TLY_EVENT_RINGWAIT.unit = .tly := rfl
theorem unit_TLY_LAST_SWEEP : Reg.TLY_LAST_SWEEP.unit = .tly := rfl
theorem unit_TLY_LAST_COMPLETE : Reg.TLY_LAST_COMPLETE.unit = .tly := rfl
theorem unit_TLY_LAST_SINGLE : Reg.TLY_LAST_SINGLE.unit = .tly := rfl
theorem unit_TLY_LAST_TENANT : Reg.TLY_LAST_TENANT.unit = .tly := rfl
theorem unit_TLY_LAST_CAUSE : Reg.TLY_LAST_CAUSE.unit = .tly := rfl
theorem unit_TLY_LAST_T : Reg.TLY_LAST_T.unit = .tly := rfl
theorem unit_TLY_RHEAD_OFFSET : Reg.TLY_RHEAD_OFFSET.unit = .tly := rfl
theorem unit_TLY_RTAIL_OFFSET : Reg.TLY_RTAIL_OFFSET.unit = .tly := rfl
theorem unit_TLY_BATCHNUM_BATCH : Reg.TLY_BATCHNUM_BATCH.unit = .tly := rfl
theorem unit_LDG_STATUS_UNSEALED : Reg.LDG_STATUS_UNSEALED.unit = .ldg := rfl
theorem unit_LDG_CTRL_FLUSH : Reg.LDG_CTRL_FLUSH.unit = .ldg := rfl
theorem unit_LDG_EVENT_LOST : Reg.LDG_EVENT_LOST.unit = .ldg := rfl
theorem unit_LDG_EVENT_WRAP : Reg.LDG_EVENT_WRAP.unit = .ldg := rfl
theorem unit_LDG_EVENT_FLSERR : Reg.LDG_EVENT_FLSERR.unit = .ldg := rfl
theorem unit_LDG_EVENT_RECOVERED : Reg.LDG_EVENT_RECOVERED.unit = .ldg := rfl
theorem unit_LDG_EVENT_UNSEALED : Reg.LDG_EVENT_UNSEALED.unit = .ldg := rfl
theorem unit_LDG_EVENT_CLEARED : Reg.LDG_EVENT_CLEARED.unit = .ldg := rfl
theorem unit_LDG_EVENT_VERIFYFAIL : Reg.LDG_EVENT_VERIFYFAIL.unit = .ldg := rfl
theorem unit_LDG_EVENT_APPENDBAD : Reg.LDG_EVENT_APPENDBAD.unit = .ldg := rfl
theorem unit_LDG_LOSTCNT_COUNT : Reg.LDG_LOSTCNT_COUNT.unit = .ldg := rfl
theorem unit_LDG_RDPAGE_PAGENUM : Reg.LDG_RDPAGE_PAGENUM.unit = .ldg := rfl
theorem unit_LDG_RDPAGE_VERIFY : Reg.LDG_RDPAGE_VERIFY.unit = .ldg := rfl
theorem unit_LDG_RDST_BUSY : Reg.LDG_RDST_BUSY.unit = .ldg := rfl
theorem unit_LDG_RDST_RESULT : Reg.LDG_RDST_RESULT.unit = .ldg := rfl
theorem unit_LDG_RDST_SEALCHK : Reg.LDG_RDST_SEALCHK.unit = .ldg := rfl
theorem unit_LDG_RDST_DROPPED : Reg.LDG_RDST_DROPPED.unit = .ldg := rfl
theorem unit_LDG_APPEND_CODE : Reg.LDG_APPEND_CODE.unit = .ldg := rfl
theorem unit_LDG_FLASH_SIZEMIB : Reg.LDG_FLASH_SIZEMIB.unit = .ldg := rfl
theorem unit_LDG_FLASH_OK : Reg.LDG_FLASH_OK.unit = .ldg := rfl
theorem unit_DBG_GSSTATUS_STOPPED : Reg.DBG_GSSTATUS_STOPPED.unit = .dbg := rfl
theorem unit_DBG_GSSTATUS_SOURCE : Reg.DBG_GSSTATUS_SOURCE.unit = .dbg := rfl
theorem unit_DBG_GSSTATUS_SETTLED : Reg.DBG_GSSTATUS_SETTLED.unit = .dbg := rfl
theorem unit_DBG_GSSTATUS_PIN : Reg.DBG_GSSTATUS_PIN.unit = .dbg := rfl
theorem unit_DBG_GSTRIG_KINDEN : Reg.DBG_GSTRIG_KINDEN.unit = .dbg := rfl
theorem unit_DBG_GSTRIG_LEVELEN : Reg.DBG_GSTRIG_LEVELEN.unit = .dbg := rfl
theorem unit_DBG_GSTIME_GT : Reg.DBG_GSTIME_GT.unit = .dbg := rfl
theorem unit_DBG_GSREL_GT : Reg.DBG_GSREL_GT.unit = .dbg := rfl
theorem unit_DBG_UNLOCK_SECS : Reg.DBG_UNLOCK_SECS.unit = .dbg := rfl
theorem unit_DBG_TRHEAD_OFFSET : Reg.DBG_TRHEAD_OFFSET.unit = .dbg := rfl
theorem unit_DBG_TRTAIL_OFFSET : Reg.DBG_TRTAIL_OFFSET.unit = .dbg := rfl
theorem unit_DBG_TRCTRL_EN : Reg.DBG_TRCTRL_EN.unit = .dbg := rfl
theorem unit_DBG_TRCTRL_TPEN : Reg.DBG_TRCTRL_TPEN.unit = .dbg := rfl
theorem unit_DBG_TRSTATUS_BADRING : Reg.DBG_TRSTATUS_BADRING.unit = .dbg := rfl
theorem unit_DBG_TRSTATUS_WAIT : Reg.DBG_TRSTATUS_WAIT.unit = .dbg := rfl
theorem unit_DBG_EVENT_STOP : Reg.DBG_EVENT_STOP.unit = .dbg := rfl
theorem unit_DBG_EVENT_RELEASE : Reg.DBG_EVENT_RELEASE.unit = .dbg := rfl
theorem unit_DBG_EVENT_RELBLOCK : Reg.DBG_EVENT_RELBLOCK.unit = .dbg := rfl
theorem unit_DBG_EVENT_RINGWAIT : Reg.DBG_EVENT_RINGWAIT.unit = .dbg := rfl
theorem unit_DBG_EVENT_BADRING : Reg.DBG_EVENT_BADRING.unit = .dbg := rfl
theorem unit_DBG_EVENT_UNLOCK : Reg.DBG_EVENT_UNLOCK.unit = .dbg := rfl
theorem unit_FOLIO_EVENT_VOID : Reg.FOLIO_EVENT_VOID.unit = .folio := rfl
theorem unit_FOLIO_EVENT_TIMEOUT : Reg.FOLIO_EVENT_TIMEOUT.unit = .folio := rfl
theorem unit_FOLIO_EVENT_LATE : Reg.FOLIO_EVENT_LATE.unit = .folio := rfl
theorem unit_FOLIO_EVENT_BEHIND : Reg.FOLIO_EVENT_BEHIND.unit = .folio := rfl
theorem unit_FOLIO_EVENT_CATCHFAIL : Reg.FOLIO_EVENT_CATCHFAIL.unit = .folio := rfl
theorem unit_FOLIO_EVENT_BUSY : Reg.FOLIO_EVENT_BUSY.unit = .folio := rfl
theorem unit_FOLIO_EVENT_XVOID : Reg.FOLIO_EVENT_XVOID.unit = .folio := rfl
theorem unit_FOLIO_EVENT_TRESET : Reg.FOLIO_EVENT_TRESET.unit = .folio := rfl
theorem unit_FOLIO_SEALED_COUNT : Reg.FOLIO_SEALED_COUNT.unit = .folio := rfl
theorem unit_FOLIO_VOIDED_COUNT : Reg.FOLIO_VOIDED_COUNT.unit = .folio := rfl
theorem unit_FOLIO_TREQ_TENANT : Reg.FOLIO_TREQ_TENANT.unit = .folio := rfl
theorem unit_FOLIO_TREQST_BUSY : Reg.FOLIO_TREQST_BUSY.unit = .folio := rfl
theorem unit_FOLIO_TREQST_RESULT : Reg.FOLIO_TREQST_RESULT.unit = .folio := rfl
theorem unit_FOLIO_TREQST_DROPPED : Reg.FOLIO_TREQST_DROPPED.unit = .folio := rfl
theorem unit_FOLIO_TREQNUM_NUMBER : Reg.FOLIO_TREQNUM_NUMBER.unit = .folio := rfl
theorem unit_CAT_REQ_OP : Reg.CAT_REQ_OP.unit = .cat := rfl
theorem unit_CAT_REQ_X : Reg.CAT_REQ_X.unit = .cat := rfl
theorem unit_CAT_REQ_Y : Reg.CAT_REQ_Y.unit = .cat := rfl
theorem unit_CAT_REQ_COUNT : Reg.CAT_REQ_COUNT.unit = .cat := rfl
theorem unit_CAT_REQ_TENANT : Reg.CAT_REQ_TENANT.unit = .cat := rfl
theorem unit_CAT_REQST_BUSY : Reg.CAT_REQST_BUSY.unit = .cat := rfl
theorem unit_CAT_REQST_RESULT : Reg.CAT_REQST_RESULT.unit = .cat := rfl
theorem unit_CAT_REQST_DROPPED : Reg.CAT_REQST_DROPPED.unit = .cat := rfl
theorem unit_CAT_REQFOLIO_FOLIO : Reg.CAT_REQFOLIO_FOLIO.unit = .cat := rfl
theorem unit_CCD_EVENT_LOST : Reg.CCD_EVENT_LOST.unit = .clp := rfl
theorem unit_CCD_EVENT_DISPUTE : Reg.CCD_EVENT_DISPUTE.unit = .clp := rfl
theorem unit_CCD_EVENT_CRC : Reg.CCD_EVENT_CRC.unit = .clp := rfl
theorem unit_CCD_EVENT_RETX : Reg.CCD_EVENT_RETX.unit = .clp := rfl
theorem unit_CCD_EVENT_OOO : Reg.CCD_EVENT_OOO.unit = .clp := rfl
theorem unit_CCD_EVENT_STALESESS : Reg.CCD_EVENT_STALESESS.unit = .clp := rfl
theorem unit_CCD_EVENT_COLLIDE : Reg.CCD_EVENT_COLLIDE.unit = .clp := rfl
theorem unit_CCD_EVENT_LATE : Reg.CCD_EVENT_LATE.unit = .clp := rfl
theorem unit_CCD_EVENT_EPTMO : Reg.CCD_EVENT_EPTMO.unit = .clp := rfl
theorem unit_CCD_EVENT_MISMATCH : Reg.CCD_EVENT_MISMATCH.unit = .clp := rfl
theorem unit_CCD_EVENT_OLDSEAL : Reg.CCD_EVENT_OLDSEAL.unit = .clp := rfl
theorem unit_CCD_EVENT_REFUSED : Reg.CCD_EVENT_REFUSED.unit = .clp := rfl
theorem unit_CCD_EVENT_INDOUBT : Reg.CCD_EVENT_INDOUBT.unit = .clp := rfl
theorem unit_CCD_TXCNT_COUNT : Reg.CCD_TXCNT_COUNT.unit = .clp := rfl
theorem unit_CCD_RXCNT_COUNT : Reg.CCD_RXCNT_COUNT.unit = .clp := rfl
theorem unit_CCD_CRCCNT_COUNT : Reg.CCD_CRCCNT_COUNT.unit = .clp := rfl
theorem unit_CCD_RETXCNT_COUNT : Reg.CCD_RETXCNT_COUNT.unit = .clp := rfl
theorem unit_CCD_LOSTCNT_COUNT : Reg.CCD_LOSTCNT_COUNT.unit = .clp := rfl
theorem unit_CCD_DROPCNT_COUNT : Reg.CCD_DROPCNT_COUNT.unit = .clp := rfl
theorem unit_STK_CH_CTRL_PRIO : Reg.STK_CH_CTRL_PRIO.unit = .channel := rfl
theorem unit_STK_CH_CTRL_TENANT : Reg.STK_CH_CTRL_TENANT.unit = .channel := rfl
theorem unit_STK_CH_CTRL_WINMASK : Reg.STK_CH_CTRL_WINMASK.unit = .channel := rfl
theorem unit_STK_CH_STATUS_ERRCODE : Reg.STK_CH_STATUS_ERRCODE.unit = .channel := rfl
theorem unit_STK_CH_STATUS_MISMATCH : Reg.STK_CH_STATUS_MISMATCH.unit = .channel := rfl
theorem unit_STK_CH_STATUS_DROPPED : Reg.STK_CH_STATUS_DROPPED.unit = .channel := rfl
theorem unit_STK_CH_STATUS_PENDGO : Reg.STK_CH_STATUS_PENDGO.unit = .channel := rfl
theorem unit_STK_CH_PROG_CURDESC : Reg.STK_CH_PROG_CURDESC.unit = .channel := rfl
theorem unit_STK_CH_PROG_TAG : Reg.STK_CH_PROG_TAG.unit = .channel := rfl
theorem unit_STK_CH_PROG_DESCS : Reg.STK_CH_PROG_DESCS.unit = .channel := rfl
theorem unit_STK_CH_PROG_BYTES : Reg.STK_CH_PROG_BYTES.unit = .channel := rfl
theorem unit_STK_CH_PROG_CMPOFF : Reg.STK_CH_PROG_CMPOFF.unit = .channel := rfl
theorem unit_STK_CH_PROG_CMPCNT : Reg.STK_CH_PROG_CMPCNT.unit = .channel := rfl
theorem unit_TEN_EP_CLOSE_EPOCH : Reg.TEN_EP_CLOSE_EPOCH.unit = .tenant := rfl
theorem unit_TEN_EP_CLOSE_OP : Reg.TEN_EP_CLOSE_OP.unit = .tenant := rfl
theorem unit_TEN_EP_STATUS_OPEN : Reg.TEN_EP_STATUS_OPEN.unit = .tenant := rfl
theorem unit_TEN_EP_STATUS_BUSY : Reg.TEN_EP_STATUS_BUSY.unit = .tenant := rfl
theorem unit_TEN_EP_STATUS_CUT : Reg.TEN_EP_STATUS_CUT.unit = .tenant := rfl
theorem unit_TEN_EP_STATUS_RESULT : Reg.TEN_EP_STATUS_RESULT.unit = .tenant := rfl
theorem unit_TEN_EP_STATUS_DROPPED : Reg.TEN_EP_STATUS_DROPPED.unit = .tenant := rfl
theorem unit_TEN_EP_LAST_EPOCH : Reg.TEN_EP_LAST_EPOCH.unit = .tenant := rfl
theorem unit_TEN_COLO_REQ_REQ : Reg.TEN_COLO_REQ_REQ.unit = .tenant := rfl
theorem unit_TEN_COLO_STATUS_BUSY : Reg.TEN_COLO_STATUS_BUSY.unit = .tenant := rfl
theorem unit_TEN_COLO_STATUS_RESULT : Reg.TEN_COLO_STATUS_RESULT.unit = .tenant := rfl
theorem unit_TEN_COLO_NUM_COLNUM : Reg.TEN_COLO_NUM_COLNUM.unit = .tenant := rfl
theorem unit_TEN_REC_HEAD_OFFSET : Reg.TEN_REC_HEAD_OFFSET.unit = .tenant := rfl
theorem unit_TEN_REC_TAIL_OFFSET : Reg.TEN_REC_TAIL_OFFSET.unit = .tenant := rfl
theorem unit_TEN_EP_CHAIN_HEAD : Reg.TEN_EP_CHAIN_HEAD.unit = .tenant := rfl
theorem unit_TEN_TLY_REQ_REQID : Reg.TEN_TLY_REQ_REQID.unit = .tenant := rfl
theorem unit_TEN_TLY_STATUS_BUSY : Reg.TEN_TLY_STATUS_BUSY.unit = .tenant := rfl
theorem unit_TEN_TLY_STATUS_RESULT : Reg.TEN_TLY_STATUS_RESULT.unit = .tenant := rfl
theorem unit_TEN_TLY_STATUS_DROPPED : Reg.TEN_TLY_STATUS_DROPPED.unit = .tenant := rfl
theorem unit_TEN_TLY_LAST_ENERGY : Reg.TEN_TLY_LAST_ENERGY.unit = .tenant := rfl
theorem unit_TEN_TLY_LAST_STNUM : Reg.TEN_TLY_LAST_STNUM.unit = .tenant := rfl
theorem unit_TEN_TLY_LAST_SWTO : Reg.TEN_TLY_LAST_SWTO.unit = .tenant := rfl
theorem unit_TEN_TLY_LAST_ACCCLASS : Reg.TEN_TLY_LAST_ACCCLASS.unit = .tenant := rfl
theorem unit_TEN_TLY_LAST_UNANCHORED : Reg.TEN_TLY_LAST_UNANCHORED.unit = .tenant := rfl
theorem unit_TEN_TLY_LAST_GAP : Reg.TEN_TLY_LAST_GAP.unit = .tenant := rfl
theorem unit_RH_RD_EVENT_DISAGREE : Reg.RH_RD_EVENT_DISAGREE.unit = .hubRd := rfl
theorem unit_RH_RD_EVENT_RDMIN : Reg.RH_RD_EVENT_RDMIN.unit = .hubRd := rfl
theorem unit_RH_RD_EVENT_WKMIN : Reg.RH_RD_EVENT_WKMIN.unit = .hubRd := rfl
theorem unit_RH_RD_EVENT_NOMAJ : Reg.RH_RD_EVENT_NOMAJ.unit = .hubRd := rfl
theorem unit_RH_RD_EVENT_NOTHIRD : Reg.RH_RD_EVENT_NOTHIRD.unit = .hubRd := rfl
theorem unit_RH_RD_EVENT_ABANDON : Reg.RH_RD_EVENT_ABANDON.unit = .hubRd := rfl
theorem unit_RH_RD_EVENT_OVERRUN : Reg.RH_RD_EVENT_OVERRUN.unit = .hubRd := rfl
theorem unit_RH_RD_EVENT_IFTSHORT : Reg.RH_RD_EVENT_IFTSHORT.unit = .hubRd := rfl
theorem unit_RH_RD_EVENT_STEPVOID : Reg.RH_RD_EVENT_STEPVOID.unit = .hubRd := rfl
theorem unit_RH_RD_EVENT_NOREADER : Reg.RH_RD_EVENT_NOREADER.unit = .hubRd := rfl
theorem unit_RH_RD_LAST_WSA : Reg.RH_RD_LAST_WSA.unit = .hubRd := rfl
theorem unit_RH_RD_LAST_WSB : Reg.RH_RD_LAST_WSB.unit = .hubRd := rfl
theorem unit_RH_RD_LAST_GSA : Reg.RH_RD_LAST_GSA.unit = .hubRd := rfl
theorem unit_RH_RD_LAST_GSB : Reg.RH_RD_LAST_GSB.unit = .hubRd := rfl
theorem unit_RH_RD_LAST_TSA : Reg.RH_RD_LAST_TSA.unit = .hubRd := rfl
theorem unit_RH_RD_LAST_TSB : Reg.RH_RD_LAST_TSB.unit = .hubRd := rfl
theorem unit_RH_RD_LAST_TENANT : Reg.RH_RD_LAST_TENANT.unit = .hubRd := rfl
theorem unit_RH_RD_LAST_WCOL : Reg.RH_RD_LAST_WCOL.unit = .hubRd := rfl
theorem unit_RH_RD_LAST_WROW : Reg.RH_RD_LAST_WROW.unit = .hubRd := rfl
theorem unit_RH_RD_LAST_GROW : Reg.RH_RD_LAST_GROW.unit = .hubRd := rfl
theorem unit_RH_RD_LAST_TCOL : Reg.RH_RD_LAST_TCOL.unit = .hubRd := rfl
theorem unit_RH_RD_LAST_TROW : Reg.RH_RD_LAST_TROW.unit = .hubRd := rfl
theorem unit_RH_RD_LAST_RESULT : Reg.RH_RD_LAST_RESULT.unit = .hubRd := rfl
theorem unit_RH_RD_LAST_TVALID : Reg.RH_RD_LAST_TVALID.unit = .hubRd := rfl
theorem unit_RH_RD_LAST_HTAG : Reg.RH_RD_LAST_HTAG.unit = .hubRd := rfl
theorem unit_RH_IFT_CTRL_NPAT : Reg.RH_IFT_CTRL_NPAT.unit = .hubIft := rfl
theorem unit_RH_IFT_EVENT_IFTFAIL : Reg.RH_IFT_EVENT_IFTFAIL.unit = .hubIft := rfl
theorem unit_RH_IFT_EVENT_TRANSIENT : Reg.RH_IFT_EVENT_TRANSIENT.unit = .hubIft := rfl
theorem unit_RH_IFT_EVENT_MWLOW : Reg.RH_IFT_EVENT_MWLOW.unit = .hubIft := rfl
theorem unit_RH_IFT_EVENT_MWTREND : Reg.RH_IFT_EVENT_MWTREND.unit = .hubIft := rfl
theorem unit_RH_IFT_EVENT_CSHKTO : Reg.RH_IFT_EVENT_CSHKTO.unit = .hubIft := rfl
theorem unit_RH_IFT_EVENT_OVERDUE : Reg.RH_IFT_EVENT_OVERDUE.unit = .hubIft := rfl
theorem unit_RH_IFT_EVENT_EXPOVF : Reg.RH_IFT_EVENT_EXPOVF.unit = .hubIft := rfl
theorem unit_RH_IFT_EVENT_BANDCHG : Reg.RH_IFT_EVENT_BANDCHG.unit = .hubIft := rfl
theorem unit_RH_CAT_EVENT_STALE : Reg.RH_CAT_EVENT_STALE.unit = .hubCat := rfl
theorem unit_RH_CAT_EVENT_STALELOST : Reg.RH_CAT_EVENT_STALELOST.unit = .hubCat := rfl
theorem unit_RH_CAT_EVENT_AHEAD : Reg.RH_CAT_EVENT_AHEAD.unit = .hubCat := rfl
theorem unit_RH_CAT_EVENT_SUSPECT : Reg.RH_CAT_EVENT_SUSPECT.unit = .hubCat := rfl
theorem unit_RH_CAT_EVENT_PARK : Reg.RH_CAT_EVENT_PARK.unit = .hubCat := rfl
theorem unit_RH_CAT_EVENT_EXHAUST : Reg.RH_CAT_EVENT_EXHAUST.unit = .hubCat := rfl
theorem unit_RH_CAT_EVENT_CLOSE : Reg.RH_CAT_EVENT_CLOSE.unit = .hubCat := rfl
theorem unit_RH_CAT_EVENT_TRMISS : Reg.RH_CAT_EVENT_TRMISS.unit = .hubCat := rfl
theorem unit_RH_CAT_EVENT_HOLDVOID : Reg.RH_CAT_EVENT_HOLDVOID.unit = .hubCat := rfl
theorem unit_RH_CAT_STALE_COUNT : Reg.RH_CAT_STALE_COUNT.unit = .hubCat := rfl
theorem unit_RH_FL_EVENT_LATE : Reg.RH_FL_EVENT_LATE.unit = .hubFl := rfl
theorem unit_RH_FL_EVENT_VOTEVOID : Reg.RH_FL_EVENT_VOTEVOID.unit = .hubFl := rfl
theorem unit_RH_FL_EVENT_REPLAY : Reg.RH_FL_EVENT_REPLAY.unit = .hubFl := rfl
theorem unit_RH_FL_EVENT_REBUILT : Reg.RH_FL_EVENT_REBUILT.unit = .hubFl := rfl
theorem unit_RH_FL_EVENT_DUP : Reg.RH_FL_EVENT_DUP.unit = .hubFl := rfl
theorem unit_RH_FL_LATE_COUNT : Reg.RH_FL_LATE_COUNT.unit = .hubFl := rfl
theorem unit_RH_FLT_EVENT_L1RAISED : Reg.RH_FLT_EVENT_L1RAISED.unit = .hubFlt := rfl
theorem unit_RH_FLT_EVENT_EVICT : Reg.RH_FLT_EVENT_EVICT.unit = .hubFlt := rfl
theorem unit_RH_FLT_EVENT_RFIPAR : Reg.RH_FLT_EVENT_RFIPAR.unit = .hubFlt := rfl
theorem unit_RH_FLT_EVENT_RFIUNK : Reg.RH_FLT_EVENT_RFIUNK.unit = .hubFlt := rfl
theorem unit_RH_FLT_EVENT_QFULL : Reg.RH_FLT_EVENT_QFULL.unit = .hubFlt := rfl
theorem unit_RH_FLT_EVICT_COUNT : Reg.RH_FLT_EVICT_COUNT.unit = .hubFlt := rfl
theorem unit_RH_FLT_RFICNT_COUNT : Reg.RH_FLT_RFICNT_COUNT.unit = .hubFlt := rfl
theorem unit_RH_FLT_FIRSTVAL_VALID : Reg.RH_FLT_FIRSTVAL_VALID.unit = .hubFlt := rfl
theorem unit_RH_WD_STATUS_OWING : Reg.RH_WD_STATUS_OWING.unit = .hubWd := rfl
theorem unit_RH_WD_EVENT_TRIP : Reg.RH_WD_EVENT_TRIP.unit = .hubWd := rfl
theorem unit_RH_WD_EVENT_CLRFAIL : Reg.RH_WD_EVENT_CLRFAIL.unit = .hubWd := rfl
theorem unit_RH_WD_EVENT_PARKRUN : Reg.RH_WD_EVENT_PARKRUN.unit = .hubWd := rfl
theorem unit_RH_WD_EVENT_OVF : Reg.RH_WD_EVENT_OVF.unit = .hubWd := rfl
theorem unit_RH_TH_STATUS_BAND : Reg.RH_TH_STATUS_BAND.unit = .hubEn := rfl
theorem unit_RH_TH_STATUS_THR : Reg.RH_TH_STATUS_THR.unit = .hubEn := rfl
theorem unit_RH_TH_AMB_AMB : Reg.RH_TH_AMB_AMB.unit = .hubEn := rfl
theorem unit_RH_EN_VLOC_MV : Reg.RH_EN_VLOC_MV.unit = .hubEn := rfl
theorem unit_RH_EN_EVENT_B4 : Reg.RH_EN_EVENT_B4.unit = .hubEn := rfl
theorem unit_RH_EN_EVENT_NBMISS : Reg.RH_EN_EVENT_NBMISS.unit = .hubEn := rfl
theorem unit_RH_EN_EVENT_ENOVF : Reg.RH_EN_EVENT_ENOVF.unit = .hubEn := rfl
theorem unit_RH_EN_EVENT_UNANCH : Reg.RH_EN_EVENT_UNANCH.unit = .hubEn := rfl
theorem unit_RH_LG_SUPP_COUNT : Reg.RH_LG_SUPP_COUNT.unit = .hubLg := rfl
theorem unit_RH_LG_EVENT_SUPP : Reg.RH_LG_EVENT_SUPP.unit = .hubLg := rfl
theorem unit_RH_LG_EVENT_OVF : Reg.RH_LG_EVENT_OVF.unit = .hubLg := rfl
theorem unit_RH_PW_VTGT_MV : Reg.RH_PW_VTGT_MV.unit = .hubPw := rfl
theorem unit_RH_PW_STATUS_TRANS : Reg.RH_PW_STATUS_TRANS.unit = .hubPw := rfl
theorem unit_RH_PW_STATUS_STAGE : Reg.RH_PW_STATUS_STAGE.unit = .hubPw := rfl
theorem unit_RH_PW_STATUS_VEXC : Reg.RH_PW_STATUS_VEXC.unit = .hubPw := rfl
theorem unit_RH_PW_STATUS_TEXC : Reg.RH_PW_STATUS_TEXC.unit = .hubPw := rfl
theorem unit_RH_PW_EVENT_VEXC : Reg.RH_PW_EVENT_VEXC.unit = .hubPw := rfl
theorem unit_RH_PW_EVENT_TEXC : Reg.RH_PW_EVENT_TEXC.unit = .hubPw := rfl
theorem unit_RH_PW_EVENT_STAGE : Reg.RH_PW_EVENT_STAGE.unit = .hubPw := rfl
theorem unit_RH_PW_EVENT_NBMISS : Reg.RH_PW_EVENT_NBMISS.unit = .hubPw := rfl
theorem unit_RH_TR_DROPS_COUNT : Reg.RH_TR_DROPS_COUNT.unit = .hubTr := rfl
theorem unit_RH_TR_EVENT_DROP : Reg.RH_TR_EVENT_DROP.unit = .hubTr := rfl
theorem unit_RH_TR_EVENT_HALF : Reg.RH_TR_EVENT_HALF.unit = .hubTr := rfl
theorem unit_TP_CTRL_FENCE_REQ : Reg.TP_CTRL_FENCE_REQ.unit = .probe := rfl
theorem unit_TP_EVENT_CHKFAIL : Reg.TP_EVENT_CHKFAIL.unit = .probe := rfl
theorem unit_TP_EVENT_TAPPAR : Reg.TP_EVENT_TAPPAR.unit = .probe := rfl
theorem unit_TP_EVENT_TAGBAD : Reg.TP_EVENT_TAGBAD.unit = .probe := rfl
theorem unit_TP_EVENT_OVERLAP : Reg.TP_EVENT_OVERLAP.unit = .probe := rfl
theorem unit_TP_EVENT_ECCC : Reg.TP_EVENT_ECCC.unit = .probe := rfl
theorem unit_TP_EVENT_ECCU : Reg.TP_EVENT_ECCU.unit = .probe := rfl
theorem unit_TP_EVENT_HDRERR : Reg.TP_EVENT_HDRERR.unit = .probe := rfl
theorem unit_TP_EVENT_CNTERR : Reg.TP_EVENT_CNTERR.unit = .probe := rfl
theorem unit_TP_EVENT_RETRYTO : Reg.TP_EVENT_RETRYTO.unit = .probe := rfl
theorem unit_TP_EVENT_RETRYPASS : Reg.TP_EVENT_RETRYPASS.unit = .probe := rfl
theorem unit_TP_EVENT_BANDSTOP : Reg.TP_EVENT_BANDSTOP.unit = .probe := rfl
theorem unit_TP_EVENT_NELCLIP : Reg.TP_EVENT_NELCLIP.unit = .probe := rfl
theorem unit_TP_LAST_OUTCOME : Reg.TP_LAST_OUTCOME.unit = .probe := rfl
theorem unit_TP_LAST_SLOT : Reg.TP_LAST_SLOT.unit = .probe := rfl
theorem unit_TP_LAST_HTAG : Reg.TP_LAST_HTAG.unit = .probe := rfl
theorem unit_TP_LAST_TENANT : Reg.TP_LAST_TENANT.unit = .probe := rfl
theorem unit_TP_HDRERR_CODE : Reg.TP_HDRERR_CODE.unit = .probe := rfl
theorem unit_TP_HDRERR_HTAG : Reg.TP_HDRERR_HTAG.unit = .probe := rfl
theorem unit_TP_HDRERR_TENANT : Reg.TP_HDRERR_TENANT.unit = .probe := rfl
theorem unit_TP_TAGERR_TAG : Reg.TP_TAGERR_TAG.unit = .probe := rfl
theorem unit_TP_TAGERR_REASON : Reg.TP_TAGERR_REASON.unit = .probe := rfl
theorem unit_TP_TAGERR_SRCX : Reg.TP_TAGERR_SRCX.unit = .probe := rfl
theorem unit_TP_TAGERR_SRCY : Reg.TP_TAGERR_SRCY.unit = .probe := rfl
theorem unit_TP_TAGERR_FMTBAD : Reg.TP_TAGERR_FMTBAD.unit = .probe := rfl
theorem unit_TP_CAPTURE_PA : Reg.TP_CAPTURE_PA.unit = .probe := rfl
theorem unit_TP_CAPTURE_TA : Reg.TP_CAPTURE_TA.unit = .probe := rfl
theorem unit_TP_CAPTURE_PB : Reg.TP_CAPTURE_PB.unit = .probe := rfl
theorem unit_TP_CAPTURE_TB : Reg.TP_CAPTURE_TB.unit = .probe := rfl
theorem unit_TP_CAPTURE_CMDCNT : Reg.TP_CAPTURE_CMDCNT.unit = .probe := rfl
theorem unit_TP_CAPTURE_TENANT : Reg.TP_CAPTURE_TENANT.unit = .probe := rfl
theorem unit_TP_CAPTURE_OUTCOME : Reg.TP_CAPTURE_OUTCOME.unit = .probe := rfl
theorem unit_TP_CAPTURE_BAND : Reg.TP_CAPTURE_BAND.unit = .probe := rfl
theorem unit_TP_CAPTURE_DATAFLOW : Reg.TP_CAPTURE_DATAFLOW.unit = .probe := rfl
theorem unit_TP_CAPTURE_STEPS : Reg.TP_CAPTURE_STEPS.unit = .probe := rfl
theorem unit_TP_CAPTURE_GTLO : Reg.TP_CAPTURE_GTLO.unit = .probe := rfl
theorem unit_TP_CNT6_COUNT : Reg.TP_CNT6_COUNT.unit = .probe := rfl
theorem unit_TP_CNT7_COUNT : Reg.TP_CNT7_COUNT.unit = .probe := rfl
theorem unit_TP_CNT_LAST_TENANT : Reg.TP_CNT_LAST_TENANT.unit = .probe := rfl
theorem unit_TP_CNT_LAST_HTAG : Reg.TP_CNT_LAST_HTAG.unit = .probe := rfl
theorem unit_TP_CNT_LAST_SLOT : Reg.TP_CNT_LAST_SLOT.unit = .probe := rfl
theorem unit_TP_CNT_LAST_OUTCOME : Reg.TP_CNT_LAST_OUTCOME.unit = .probe := rfl
theorem unit_TP_CNT_LAST_VALID : Reg.TP_CNT_LAST_VALID.unit = .probe := rfl
theorem unit_TP_CNT_LAST_LAYER : Reg.TP_CNT_LAST_LAYER.unit = .probe := rfl
theorem unit_TP_CNT_LAST_OPERATOR : Reg.TP_CNT_LAST_OPERATOR.unit = .probe := rfl
theorem unit_TP_CNT_LAST_D : Reg.TP_CNT_LAST_D.unit = .probe := rfl
theorem unit_TP_IFT_VISIT_VISITS : Reg.TP_IFT_VISIT_VISITS.unit = .probe := rfl
theorem unit_TP_IFT_FAIL_PAT : Reg.TP_IFT_FAIL_PAT.unit = .probe := rfl
theorem unit_TP_IFT_FAIL_KIND : Reg.TP_IFT_FAIL_KIND.unit = .probe := rfl
theorem unit_TP_IFT_FAIL_STEP : Reg.TP_IFT_FAIL_STEP.unit = .probe := rfl
theorem unit_TP_IFT_FAIL_PASS : Reg.TP_IFT_FAIL_PASS.unit = .probe := rfl
theorem unit_TP_IFT_FAIL_CONFIRMED : Reg.TP_IFT_FAIL_CONFIRMED.unit = .probe := rfl
theorem unit_TP_IFT_SIG_SA : Reg.TP_IFT_SIG_SA.unit = .probe := rfl
theorem unit_TP_IFT_SIG_SB : Reg.TP_IFT_SIG_SB.unit = .probe := rfl
theorem unit_TP_IFT_SIG_BEATS : Reg.TP_IFT_SIG_BEATS.unit = .probe := rfl
theorem unit_TP_IFT_SIG_OUTCOME : Reg.TP_IFT_SIG_OUTCOME.unit = .probe := rfl
theorem unit_TP_IFT_SIG_PAT : Reg.TP_IFT_SIG_PAT.unit = .probe := rfl
theorem unit_TP_MW_LAST_MARGIN : Reg.TP_MW_LAST_MARGIN.unit = .probe := rfl
theorem unit_TP_MW_LAST_BAND : Reg.TP_MW_LAST_BAND.unit = .probe := rfl
theorem unit_TP_MW_LAST_VALID : Reg.TP_MW_LAST_VALID.unit = .probe := rfl
theorem unit_TP_MW_LAST_BANDCHG : Reg.TP_MW_LAST_BANDCHG.unit = .probe := rfl
theorem unit_TP_MW_LAST_CSHKTO : Reg.TP_MW_LAST_CSHKTO.unit = .probe := rfl
theorem unit_TP_MW_LAST_B4STOP : Reg.TP_MW_LAST_B4STOP.unit = .probe := rfl
theorem unit_TP_MW_LAST_RESTARTS : Reg.TP_MW_LAST_RESTARTS.unit = .probe := rfl
theorem unit_TP_MW_LAST_WOBBLES : Reg.TP_MW_LAST_WOBBLES.unit = .probe := rfl
theorem unit_FLT_CNT0_COUNT : Reg.FLT_CNT0_COUNT.unit = .flt := rfl
theorem unit_FLT_CNT1_COUNT : Reg.FLT_CNT1_COUNT.unit = .flt := rfl
theorem unit_FLT_CNT2_COUNT : Reg.FLT_CNT2_COUNT.unit = .flt := rfl
theorem unit_FLT_CNT3_COUNT : Reg.FLT_CNT3_COUNT.unit = .flt := rfl
theorem unit_KILN_GEOM_H : Reg.KILN_GEOM_H.unit = .ghp := rfl
theorem unit_KILN_GEOM_S : Reg.KILN_GEOM_S.unit = .ghp := rfl
theorem unit_KILN_GEOM_W : Reg.KILN_GEOM_W.unit = .ghp := rfl
theorem unit_TP_CNT0_COUNT : Reg.TP_CNT0_COUNT.unit = .probe := rfl
theorem unit_TP_CNT1_COUNT : Reg.TP_CNT1_COUNT.unit = .probe := rfl
theorem unit_TP_CNT2_COUNT : Reg.TP_CNT2_COUNT.unit = .probe := rfl
theorem unit_TP_CNT3_COUNT : Reg.TP_CNT3_COUNT.unit = .probe := rfl
theorem unit_TP_CNT4_COUNT : Reg.TP_CNT4_COUNT.unit = .probe := rfl
theorem unit_TP_CNT5_COUNT : Reg.TP_CNT5_COUNT.unit = .probe := rfl

end Sys2Proof.Machine
end

