-- ==== Sys2Proof/Laws/State.lean ====
section
/-! SUPPORT. Small laws of the state: what each named update leaves, field by field, and the laws of agreement outside a set of parts. -/

namespace Sys2Proof.Machine

open Sys2Proof

/-! `set` changes regs alone. -/

@[simp] theorem set_pending (s : State) (f : RegField) (i v : Nat) : (s.set f i v).pending = s.pending := rfl
@[simp] theorem set_cfg (s : State) (f : RegField) (i v : Nat) : (s.set f i v).cfg = s.cfg := rfl
@[simp] theorem set_snaps (s : State) (f : RegField) (i v : Nat) : (s.set f i v).snaps = s.snaps := rfl
@[simp] theorem set_probes (s : State) (f : RegField) (i v : Nat) : (s.set f i v).probes = s.probes := rfl
@[simp] theorem set_hubs (s : State) (f : RegField) (i v : Nat) : (s.set f i v).hubs = s.hubs := rfl
@[simp] theorem set_gt (s : State) (f : RegField) (i v : Nat) : (s.set f i v).gt = s.gt := rfl
@[simp] theorem set_timeRounds (s : State) (f : RegField) (i v : Nat) : (s.set f i v).timeRounds = s.timeRounds := rfl
@[simp] theorem set_master (s : State) (f : RegField) (i v : Nat) : (s.set f i v).master = s.master := rfl
@[simp] theorem set_lost (s : State) (f : RegField) (i v : Nat) : (s.set f i v).lost = s.lost := rfl
@[simp] theorem set_seeds (s : State) (f : RegField) (i v : Nat) : (s.set f i v).seeds = s.seeds := rfl
@[simp] theorem set_hops (s : State) (f : RegField) (i v : Nat) : (s.set f i v).hops = s.hops := rfl
@[simp] theorem set_flt (s : State) (f : RegField) (i v : Nat) : (s.set f i v).flt = s.flt := rfl
@[simp] theorem set_fl (s : State) (f : RegField) (i v : Nat) : (s.set f i v).fl = s.fl := rfl
@[simp] theorem set_rcv (s : State) (f : RegField) (i v : Nat) : (s.set f i v).rcv = s.rcv := rfl
@[simp] theorem set_ldg (s : State) (f : RegField) (i v : Nat) : (s.set f i v).ldg = s.ldg := rfl
@[simp] theorem set_tally (s : State) (f : RegField) (i v : Nat) : (s.set f i v).tally = s.tally := rfl
@[simp] theorem set_vault (s : State) (f : RegField) (i v : Nat) : (s.set f i v).vault = s.vault := rfl
@[simp] theorem set_tokbuf (s : State) (f : RegField) (i v : Nat) : (s.set f i v).tokbuf = s.tokbuf := rfl
@[simp] theorem set_pageBuf (s : State) (f : RegField) (i v : Nat) : (s.set f i v).pageBuf = s.pageBuf := rfl
@[simp] theorem set_link (s : State) (f : RegField) (i v : Nat) : (s.set f i v).link = s.link := rfl
@[simp] theorem set_colo (s : State) (f : RegField) (i v : Nat) : (s.set f i v).colo = s.colo := rfl
@[simp] theorem set_sys (s : State) (f : RegField) (i v : Nat) : (s.set f i v).sys = s.sys := rfl
@[simp] theorem set_stk (s : State) (f : RegField) (i v : Nat) : (s.set f i v).stk = s.stk := rfl
@[simp] theorem set_dbg (s : State) (f : RegField) (i v : Nat) : (s.set f i v).dbg = s.dbg := rfl
@[simp] theorem set_bru (s : State) (f : RegField) (i v : Nat) : (s.set f i v).bru = s.bru := rfl
@[simp] theorem set_pwr (s : State) (f : RegField) (i v : Nat) : (s.set f i v).pwr = s.pwr := rfl
@[simp] theorem set_mgt (s : State) (f : RegField) (i v : Nat) : (s.set f i v).mgt = s.mgt := rfl
@[simp] theorem set_ghp (s : State) (f : RegField) (i v : Nat) : (s.set f i v).ghp = s.ghp := rfl
@[simp] theorem set_flue (s : State) (f : RegField) (i v : Nat) : (s.set f i v).flue = s.flue := rfl
@[simp] theorem set_net (s : State) (f : RegField) (i v : Nat) : (s.set f i v).net = s.net := rfl
@[simp] theorem set_pulses (s : State) (f : RegField) (i v : Nat) : (s.set f i v).pulses = s.pulses := rfl
@[simp] theorem set_freeCtr (s : State) (f : RegField) (i v : Nat) : (s.set f i v).freeCtr = s.freeCtr := rfl

/-! `raise` changes regs alone. -/

@[simp] theorem raise_pending (s : State) (f : RegField) (i : Nat) : (s.raise f i).pending = s.pending := rfl
@[simp] theorem raise_cfg (s : State) (f : RegField) (i : Nat) : (s.raise f i).cfg = s.cfg := rfl
@[simp] theorem raise_snaps (s : State) (f : RegField) (i : Nat) : (s.raise f i).snaps = s.snaps := rfl
@[simp] theorem raise_probes (s : State) (f : RegField) (i : Nat) : (s.raise f i).probes = s.probes := rfl
@[simp] theorem raise_hubs (s : State) (f : RegField) (i : Nat) : (s.raise f i).hubs = s.hubs := rfl
@[simp] theorem raise_gt (s : State) (f : RegField) (i : Nat) : (s.raise f i).gt = s.gt := rfl
@[simp] theorem raise_timeRounds (s : State) (f : RegField) (i : Nat) : (s.raise f i).timeRounds = s.timeRounds := rfl
@[simp] theorem raise_master (s : State) (f : RegField) (i : Nat) : (s.raise f i).master = s.master := rfl
@[simp] theorem raise_lost (s : State) (f : RegField) (i : Nat) : (s.raise f i).lost = s.lost := rfl
@[simp] theorem raise_seeds (s : State) (f : RegField) (i : Nat) : (s.raise f i).seeds = s.seeds := rfl
@[simp] theorem raise_hops (s : State) (f : RegField) (i : Nat) : (s.raise f i).hops = s.hops := rfl
@[simp] theorem raise_flt (s : State) (f : RegField) (i : Nat) : (s.raise f i).flt = s.flt := rfl
@[simp] theorem raise_fl (s : State) (f : RegField) (i : Nat) : (s.raise f i).fl = s.fl := rfl
@[simp] theorem raise_rcv (s : State) (f : RegField) (i : Nat) : (s.raise f i).rcv = s.rcv := rfl
@[simp] theorem raise_ldg (s : State) (f : RegField) (i : Nat) : (s.raise f i).ldg = s.ldg := rfl
@[simp] theorem raise_tally (s : State) (f : RegField) (i : Nat) : (s.raise f i).tally = s.tally := rfl
@[simp] theorem raise_vault (s : State) (f : RegField) (i : Nat) : (s.raise f i).vault = s.vault := rfl
@[simp] theorem raise_tokbuf (s : State) (f : RegField) (i : Nat) : (s.raise f i).tokbuf = s.tokbuf := rfl
@[simp] theorem raise_pageBuf (s : State) (f : RegField) (i : Nat) : (s.raise f i).pageBuf = s.pageBuf := rfl
@[simp] theorem raise_link (s : State) (f : RegField) (i : Nat) : (s.raise f i).link = s.link := rfl
@[simp] theorem raise_colo (s : State) (f : RegField) (i : Nat) : (s.raise f i).colo = s.colo := rfl
@[simp] theorem raise_sys (s : State) (f : RegField) (i : Nat) : (s.raise f i).sys = s.sys := rfl
@[simp] theorem raise_stk (s : State) (f : RegField) (i : Nat) : (s.raise f i).stk = s.stk := rfl
@[simp] theorem raise_dbg (s : State) (f : RegField) (i : Nat) : (s.raise f i).dbg = s.dbg := rfl
@[simp] theorem raise_bru (s : State) (f : RegField) (i : Nat) : (s.raise f i).bru = s.bru := rfl
@[simp] theorem raise_pwr (s : State) (f : RegField) (i : Nat) : (s.raise f i).pwr = s.pwr := rfl
@[simp] theorem raise_mgt (s : State) (f : RegField) (i : Nat) : (s.raise f i).mgt = s.mgt := rfl
@[simp] theorem raise_ghp (s : State) (f : RegField) (i : Nat) : (s.raise f i).ghp = s.ghp := rfl
@[simp] theorem raise_flue (s : State) (f : RegField) (i : Nat) : (s.raise f i).flue = s.flue := rfl
@[simp] theorem raise_net (s : State) (f : RegField) (i : Nat) : (s.raise f i).net = s.net := rfl
@[simp] theorem raise_pulses (s : State) (f : RegField) (i : Nat) : (s.raise f i).pulses = s.pulses := rfl
@[simp] theorem raise_freeCtr (s : State) (f : RegField) (i : Nat) : (s.raise f i).freeCtr = s.freeCtr := rfl

/-! `bump` changes regs alone. -/

@[simp] theorem bump_pending (s : State) (f : RegField) (i n : Nat) : (s.bump f i n).pending = s.pending := rfl
@[simp] theorem bump_cfg (s : State) (f : RegField) (i n : Nat) : (s.bump f i n).cfg = s.cfg := rfl
@[simp] theorem bump_snaps (s : State) (f : RegField) (i n : Nat) : (s.bump f i n).snaps = s.snaps := rfl
@[simp] theorem bump_probes (s : State) (f : RegField) (i n : Nat) : (s.bump f i n).probes = s.probes := rfl
@[simp] theorem bump_hubs (s : State) (f : RegField) (i n : Nat) : (s.bump f i n).hubs = s.hubs := rfl
@[simp] theorem bump_gt (s : State) (f : RegField) (i n : Nat) : (s.bump f i n).gt = s.gt := rfl
@[simp] theorem bump_timeRounds (s : State) (f : RegField) (i n : Nat) : (s.bump f i n).timeRounds = s.timeRounds := rfl
@[simp] theorem bump_master (s : State) (f : RegField) (i n : Nat) : (s.bump f i n).master = s.master := rfl
@[simp] theorem bump_lost (s : State) (f : RegField) (i n : Nat) : (s.bump f i n).lost = s.lost := rfl
@[simp] theorem bump_seeds (s : State) (f : RegField) (i n : Nat) : (s.bump f i n).seeds = s.seeds := rfl
@[simp] theorem bump_hops (s : State) (f : RegField) (i n : Nat) : (s.bump f i n).hops = s.hops := rfl
@[simp] theorem bump_flt (s : State) (f : RegField) (i n : Nat) : (s.bump f i n).flt = s.flt := rfl
@[simp] theorem bump_fl (s : State) (f : RegField) (i n : Nat) : (s.bump f i n).fl = s.fl := rfl
@[simp] theorem bump_rcv (s : State) (f : RegField) (i n : Nat) : (s.bump f i n).rcv = s.rcv := rfl
@[simp] theorem bump_ldg (s : State) (f : RegField) (i n : Nat) : (s.bump f i n).ldg = s.ldg := rfl
@[simp] theorem bump_tally (s : State) (f : RegField) (i n : Nat) : (s.bump f i n).tally = s.tally := rfl
@[simp] theorem bump_vault (s : State) (f : RegField) (i n : Nat) : (s.bump f i n).vault = s.vault := rfl
@[simp] theorem bump_tokbuf (s : State) (f : RegField) (i n : Nat) : (s.bump f i n).tokbuf = s.tokbuf := rfl
@[simp] theorem bump_pageBuf (s : State) (f : RegField) (i n : Nat) : (s.bump f i n).pageBuf = s.pageBuf := rfl
@[simp] theorem bump_link (s : State) (f : RegField) (i n : Nat) : (s.bump f i n).link = s.link := rfl
@[simp] theorem bump_colo (s : State) (f : RegField) (i n : Nat) : (s.bump f i n).colo = s.colo := rfl
@[simp] theorem bump_sys (s : State) (f : RegField) (i n : Nat) : (s.bump f i n).sys = s.sys := rfl
@[simp] theorem bump_stk (s : State) (f : RegField) (i n : Nat) : (s.bump f i n).stk = s.stk := rfl
@[simp] theorem bump_dbg (s : State) (f : RegField) (i n : Nat) : (s.bump f i n).dbg = s.dbg := rfl
@[simp] theorem bump_bru (s : State) (f : RegField) (i n : Nat) : (s.bump f i n).bru = s.bru := rfl
@[simp] theorem bump_pwr (s : State) (f : RegField) (i n : Nat) : (s.bump f i n).pwr = s.pwr := rfl
@[simp] theorem bump_mgt (s : State) (f : RegField) (i n : Nat) : (s.bump f i n).mgt = s.mgt := rfl
@[simp] theorem bump_ghp (s : State) (f : RegField) (i n : Nat) : (s.bump f i n).ghp = s.ghp := rfl
@[simp] theorem bump_flue (s : State) (f : RegField) (i n : Nat) : (s.bump f i n).flue = s.flue := rfl
@[simp] theorem bump_net (s : State) (f : RegField) (i n : Nat) : (s.bump f i n).net = s.net := rfl
@[simp] theorem bump_pulses (s : State) (f : RegField) (i n : Nat) : (s.bump f i n).pulses = s.pulses := rfl
@[simp] theorem bump_freeCtr (s : State) (f : RegField) (i n : Nat) : (s.bump f i n).freeCtr = s.freeCtr := rfl

/-! `bumpSat` changes regs alone. -/

@[simp] theorem bumpSat_pending (s : State) (f : RegField) (i n : Nat) : (s.bumpSat f i n).pending = s.pending := rfl
@[simp] theorem bumpSat_cfg (s : State) (f : RegField) (i n : Nat) : (s.bumpSat f i n).cfg = s.cfg := rfl
@[simp] theorem bumpSat_snaps (s : State) (f : RegField) (i n : Nat) : (s.bumpSat f i n).snaps = s.snaps := rfl
@[simp] theorem bumpSat_probes (s : State) (f : RegField) (i n : Nat) : (s.bumpSat f i n).probes = s.probes := rfl
@[simp] theorem bumpSat_hubs (s : State) (f : RegField) (i n : Nat) : (s.bumpSat f i n).hubs = s.hubs := rfl
@[simp] theorem bumpSat_gt (s : State) (f : RegField) (i n : Nat) : (s.bumpSat f i n).gt = s.gt := rfl
@[simp] theorem bumpSat_timeRounds (s : State) (f : RegField) (i n : Nat) : (s.bumpSat f i n).timeRounds = s.timeRounds := rfl
@[simp] theorem bumpSat_master (s : State) (f : RegField) (i n : Nat) : (s.bumpSat f i n).master = s.master := rfl
@[simp] theorem bumpSat_lost (s : State) (f : RegField) (i n : Nat) : (s.bumpSat f i n).lost = s.lost := rfl
@[simp] theorem bumpSat_seeds (s : State) (f : RegField) (i n : Nat) : (s.bumpSat f i n).seeds = s.seeds := rfl
@[simp] theorem bumpSat_hops (s : State) (f : RegField) (i n : Nat) : (s.bumpSat f i n).hops = s.hops := rfl
@[simp] theorem bumpSat_flt (s : State) (f : RegField) (i n : Nat) : (s.bumpSat f i n).flt = s.flt := rfl
@[simp] theorem bumpSat_fl (s : State) (f : RegField) (i n : Nat) : (s.bumpSat f i n).fl = s.fl := rfl
@[simp] theorem bumpSat_rcv (s : State) (f : RegField) (i n : Nat) : (s.bumpSat f i n).rcv = s.rcv := rfl
@[simp] theorem bumpSat_ldg (s : State) (f : RegField) (i n : Nat) : (s.bumpSat f i n).ldg = s.ldg := rfl
@[simp] theorem bumpSat_tally (s : State) (f : RegField) (i n : Nat) : (s.bumpSat f i n).tally = s.tally := rfl
@[simp] theorem bumpSat_vault (s : State) (f : RegField) (i n : Nat) : (s.bumpSat f i n).vault = s.vault := rfl
@[simp] theorem bumpSat_tokbuf (s : State) (f : RegField) (i n : Nat) : (s.bumpSat f i n).tokbuf = s.tokbuf := rfl
@[simp] theorem bumpSat_pageBuf (s : State) (f : RegField) (i n : Nat) : (s.bumpSat f i n).pageBuf = s.pageBuf := rfl
@[simp] theorem bumpSat_link (s : State) (f : RegField) (i n : Nat) : (s.bumpSat f i n).link = s.link := rfl
@[simp] theorem bumpSat_colo (s : State) (f : RegField) (i n : Nat) : (s.bumpSat f i n).colo = s.colo := rfl
@[simp] theorem bumpSat_sys (s : State) (f : RegField) (i n : Nat) : (s.bumpSat f i n).sys = s.sys := rfl
@[simp] theorem bumpSat_stk (s : State) (f : RegField) (i n : Nat) : (s.bumpSat f i n).stk = s.stk := rfl
@[simp] theorem bumpSat_dbg (s : State) (f : RegField) (i n : Nat) : (s.bumpSat f i n).dbg = s.dbg := rfl
@[simp] theorem bumpSat_bru (s : State) (f : RegField) (i n : Nat) : (s.bumpSat f i n).bru = s.bru := rfl
@[simp] theorem bumpSat_pwr (s : State) (f : RegField) (i n : Nat) : (s.bumpSat f i n).pwr = s.pwr := rfl
@[simp] theorem bumpSat_mgt (s : State) (f : RegField) (i n : Nat) : (s.bumpSat f i n).mgt = s.mgt := rfl
@[simp] theorem bumpSat_ghp (s : State) (f : RegField) (i n : Nat) : (s.bumpSat f i n).ghp = s.ghp := rfl
@[simp] theorem bumpSat_flue (s : State) (f : RegField) (i n : Nat) : (s.bumpSat f i n).flue = s.flue := rfl
@[simp] theorem bumpSat_net (s : State) (f : RegField) (i n : Nat) : (s.bumpSat f i n).net = s.net := rfl
@[simp] theorem bumpSat_pulses (s : State) (f : RegField) (i n : Nat) : (s.bumpSat f i n).pulses = s.pulses := rfl
@[simp] theorem bumpSat_freeCtr (s : State) (f : RegField) (i n : Nat) : (s.bumpSat f i n).freeCtr = s.freeCtr := rfl

/-! `setProbe` changes probes alone. -/

@[simp] theorem setProbe_pending (s : State) (r k : Nat) (p : Probe) : (s.setProbe r k p).pending = s.pending := rfl
@[simp] theorem setProbe_cfg (s : State) (r k : Nat) (p : Probe) : (s.setProbe r k p).cfg = s.cfg := rfl
@[simp] theorem setProbe_regs (s : State) (r k : Nat) (p : Probe) : (s.setProbe r k p).regs = s.regs := rfl
@[simp] theorem setProbe_snaps (s : State) (r k : Nat) (p : Probe) : (s.setProbe r k p).snaps = s.snaps := rfl
@[simp] theorem setProbe_hubs (s : State) (r k : Nat) (p : Probe) : (s.setProbe r k p).hubs = s.hubs := rfl
@[simp] theorem setProbe_gt (s : State) (r k : Nat) (p : Probe) : (s.setProbe r k p).gt = s.gt := rfl
@[simp] theorem setProbe_timeRounds (s : State) (r k : Nat) (p : Probe) : (s.setProbe r k p).timeRounds = s.timeRounds := rfl
@[simp] theorem setProbe_master (s : State) (r k : Nat) (p : Probe) : (s.setProbe r k p).master = s.master := rfl
@[simp] theorem setProbe_lost (s : State) (r k : Nat) (p : Probe) : (s.setProbe r k p).lost = s.lost := rfl
@[simp] theorem setProbe_seeds (s : State) (r k : Nat) (p : Probe) : (s.setProbe r k p).seeds = s.seeds := rfl
@[simp] theorem setProbe_hops (s : State) (r k : Nat) (p : Probe) : (s.setProbe r k p).hops = s.hops := rfl
@[simp] theorem setProbe_flt (s : State) (r k : Nat) (p : Probe) : (s.setProbe r k p).flt = s.flt := rfl
@[simp] theorem setProbe_fl (s : State) (r k : Nat) (p : Probe) : (s.setProbe r k p).fl = s.fl := rfl
@[simp] theorem setProbe_rcv (s : State) (r k : Nat) (p : Probe) : (s.setProbe r k p).rcv = s.rcv := rfl
@[simp] theorem setProbe_ldg (s : State) (r k : Nat) (p : Probe) : (s.setProbe r k p).ldg = s.ldg := rfl
@[simp] theorem setProbe_tally (s : State) (r k : Nat) (p : Probe) : (s.setProbe r k p).tally = s.tally := rfl
@[simp] theorem setProbe_vault (s : State) (r k : Nat) (p : Probe) : (s.setProbe r k p).vault = s.vault := rfl
@[simp] theorem setProbe_tokbuf (s : State) (r k : Nat) (p : Probe) : (s.setProbe r k p).tokbuf = s.tokbuf := rfl
@[simp] theorem setProbe_pageBuf (s : State) (r k : Nat) (p : Probe) : (s.setProbe r k p).pageBuf = s.pageBuf := rfl
@[simp] theorem setProbe_link (s : State) (r k : Nat) (p : Probe) : (s.setProbe r k p).link = s.link := rfl
@[simp] theorem setProbe_colo (s : State) (r k : Nat) (p : Probe) : (s.setProbe r k p).colo = s.colo := rfl
@[simp] theorem setProbe_sys (s : State) (r k : Nat) (p : Probe) : (s.setProbe r k p).sys = s.sys := rfl
@[simp] theorem setProbe_stk (s : State) (r k : Nat) (p : Probe) : (s.setProbe r k p).stk = s.stk := rfl
@[simp] theorem setProbe_dbg (s : State) (r k : Nat) (p : Probe) : (s.setProbe r k p).dbg = s.dbg := rfl
@[simp] theorem setProbe_bru (s : State) (r k : Nat) (p : Probe) : (s.setProbe r k p).bru = s.bru := rfl
@[simp] theorem setProbe_pwr (s : State) (r k : Nat) (p : Probe) : (s.setProbe r k p).pwr = s.pwr := rfl
@[simp] theorem setProbe_mgt (s : State) (r k : Nat) (p : Probe) : (s.setProbe r k p).mgt = s.mgt := rfl
@[simp] theorem setProbe_ghp (s : State) (r k : Nat) (p : Probe) : (s.setProbe r k p).ghp = s.ghp := rfl
@[simp] theorem setProbe_flue (s : State) (r k : Nat) (p : Probe) : (s.setProbe r k p).flue = s.flue := rfl
@[simp] theorem setProbe_net (s : State) (r k : Nat) (p : Probe) : (s.setProbe r k p).net = s.net := rfl
@[simp] theorem setProbe_pulses (s : State) (r k : Nat) (p : Probe) : (s.setProbe r k p).pulses = s.pulses := rfl
@[simp] theorem setProbe_freeCtr (s : State) (r k : Nat) (p : Probe) : (s.setProbe r k p).freeCtr = s.freeCtr := rfl

/-! `modProbe` changes probes alone. -/

@[simp] theorem modProbe_pending (s : State) (r k : Nat) (g : Probe → Probe) : (s.modProbe r k g).pending = s.pending := rfl
@[simp] theorem modProbe_cfg (s : State) (r k : Nat) (g : Probe → Probe) : (s.modProbe r k g).cfg = s.cfg := rfl
@[simp] theorem modProbe_regs (s : State) (r k : Nat) (g : Probe → Probe) : (s.modProbe r k g).regs = s.regs := rfl
@[simp] theorem modProbe_snaps (s : State) (r k : Nat) (g : Probe → Probe) : (s.modProbe r k g).snaps = s.snaps := rfl
@[simp] theorem modProbe_hubs (s : State) (r k : Nat) (g : Probe → Probe) : (s.modProbe r k g).hubs = s.hubs := rfl
@[simp] theorem modProbe_gt (s : State) (r k : Nat) (g : Probe → Probe) : (s.modProbe r k g).gt = s.gt := rfl
@[simp] theorem modProbe_timeRounds (s : State) (r k : Nat) (g : Probe → Probe) : (s.modProbe r k g).timeRounds = s.timeRounds := rfl
@[simp] theorem modProbe_master (s : State) (r k : Nat) (g : Probe → Probe) : (s.modProbe r k g).master = s.master := rfl
@[simp] theorem modProbe_lost (s : State) (r k : Nat) (g : Probe → Probe) : (s.modProbe r k g).lost = s.lost := rfl
@[simp] theorem modProbe_seeds (s : State) (r k : Nat) (g : Probe → Probe) : (s.modProbe r k g).seeds = s.seeds := rfl
@[simp] theorem modProbe_hops (s : State) (r k : Nat) (g : Probe → Probe) : (s.modProbe r k g).hops = s.hops := rfl
@[simp] theorem modProbe_flt (s : State) (r k : Nat) (g : Probe → Probe) : (s.modProbe r k g).flt = s.flt := rfl
@[simp] theorem modProbe_fl (s : State) (r k : Nat) (g : Probe → Probe) : (s.modProbe r k g).fl = s.fl := rfl
@[simp] theorem modProbe_rcv (s : State) (r k : Nat) (g : Probe → Probe) : (s.modProbe r k g).rcv = s.rcv := rfl
@[simp] theorem modProbe_ldg (s : State) (r k : Nat) (g : Probe → Probe) : (s.modProbe r k g).ldg = s.ldg := rfl
@[simp] theorem modProbe_tally (s : State) (r k : Nat) (g : Probe → Probe) : (s.modProbe r k g).tally = s.tally := rfl
@[simp] theorem modProbe_vault (s : State) (r k : Nat) (g : Probe → Probe) : (s.modProbe r k g).vault = s.vault := rfl
@[simp] theorem modProbe_tokbuf (s : State) (r k : Nat) (g : Probe → Probe) : (s.modProbe r k g).tokbuf = s.tokbuf := rfl
@[simp] theorem modProbe_pageBuf (s : State) (r k : Nat) (g : Probe → Probe) : (s.modProbe r k g).pageBuf = s.pageBuf := rfl
@[simp] theorem modProbe_link (s : State) (r k : Nat) (g : Probe → Probe) : (s.modProbe r k g).link = s.link := rfl
@[simp] theorem modProbe_colo (s : State) (r k : Nat) (g : Probe → Probe) : (s.modProbe r k g).colo = s.colo := rfl
@[simp] theorem modProbe_sys (s : State) (r k : Nat) (g : Probe → Probe) : (s.modProbe r k g).sys = s.sys := rfl
@[simp] theorem modProbe_stk (s : State) (r k : Nat) (g : Probe → Probe) : (s.modProbe r k g).stk = s.stk := rfl
@[simp] theorem modProbe_dbg (s : State) (r k : Nat) (g : Probe → Probe) : (s.modProbe r k g).dbg = s.dbg := rfl
@[simp] theorem modProbe_bru (s : State) (r k : Nat) (g : Probe → Probe) : (s.modProbe r k g).bru = s.bru := rfl
@[simp] theorem modProbe_pwr (s : State) (r k : Nat) (g : Probe → Probe) : (s.modProbe r k g).pwr = s.pwr := rfl
@[simp] theorem modProbe_mgt (s : State) (r k : Nat) (g : Probe → Probe) : (s.modProbe r k g).mgt = s.mgt := rfl
@[simp] theorem modProbe_ghp (s : State) (r k : Nat) (g : Probe → Probe) : (s.modProbe r k g).ghp = s.ghp := rfl
@[simp] theorem modProbe_flue (s : State) (r k : Nat) (g : Probe → Probe) : (s.modProbe r k g).flue = s.flue := rfl
@[simp] theorem modProbe_net (s : State) (r k : Nat) (g : Probe → Probe) : (s.modProbe r k g).net = s.net := rfl
@[simp] theorem modProbe_pulses (s : State) (r k : Nat) (g : Probe → Probe) : (s.modProbe r k g).pulses = s.pulses := rfl
@[simp] theorem modProbe_freeCtr (s : State) (r k : Nat) (g : Probe → Probe) : (s.modProbe r k g).freeCtr = s.freeCtr := rfl

/-! `setHub` changes hubs alone. -/

@[simp] theorem setHub_pending (s : State) (r : Nat) (h : Hub) : (s.setHub r h).pending = s.pending := rfl
@[simp] theorem setHub_cfg (s : State) (r : Nat) (h : Hub) : (s.setHub r h).cfg = s.cfg := rfl
@[simp] theorem setHub_regs (s : State) (r : Nat) (h : Hub) : (s.setHub r h).regs = s.regs := rfl
@[simp] theorem setHub_snaps (s : State) (r : Nat) (h : Hub) : (s.setHub r h).snaps = s.snaps := rfl
@[simp] theorem setHub_probes (s : State) (r : Nat) (h : Hub) : (s.setHub r h).probes = s.probes := rfl
@[simp] theorem setHub_gt (s : State) (r : Nat) (h : Hub) : (s.setHub r h).gt = s.gt := rfl
@[simp] theorem setHub_timeRounds (s : State) (r : Nat) (h : Hub) : (s.setHub r h).timeRounds = s.timeRounds := rfl
@[simp] theorem setHub_master (s : State) (r : Nat) (h : Hub) : (s.setHub r h).master = s.master := rfl
@[simp] theorem setHub_lost (s : State) (r : Nat) (h : Hub) : (s.setHub r h).lost = s.lost := rfl
@[simp] theorem setHub_seeds (s : State) (r : Nat) (h : Hub) : (s.setHub r h).seeds = s.seeds := rfl
@[simp] theorem setHub_hops (s : State) (r : Nat) (h : Hub) : (s.setHub r h).hops = s.hops := rfl
@[simp] theorem setHub_flt (s : State) (r : Nat) (h : Hub) : (s.setHub r h).flt = s.flt := rfl
@[simp] theorem setHub_fl (s : State) (r : Nat) (h : Hub) : (s.setHub r h).fl = s.fl := rfl
@[simp] theorem setHub_rcv (s : State) (r : Nat) (h : Hub) : (s.setHub r h).rcv = s.rcv := rfl
@[simp] theorem setHub_ldg (s : State) (r : Nat) (h : Hub) : (s.setHub r h).ldg = s.ldg := rfl
@[simp] theorem setHub_tally (s : State) (r : Nat) (h : Hub) : (s.setHub r h).tally = s.tally := rfl
@[simp] theorem setHub_vault (s : State) (r : Nat) (h : Hub) : (s.setHub r h).vault = s.vault := rfl
@[simp] theorem setHub_tokbuf (s : State) (r : Nat) (h : Hub) : (s.setHub r h).tokbuf = s.tokbuf := rfl
@[simp] theorem setHub_pageBuf (s : State) (r : Nat) (h : Hub) : (s.setHub r h).pageBuf = s.pageBuf := rfl
@[simp] theorem setHub_link (s : State) (r : Nat) (h : Hub) : (s.setHub r h).link = s.link := rfl
@[simp] theorem setHub_colo (s : State) (r : Nat) (h : Hub) : (s.setHub r h).colo = s.colo := rfl
@[simp] theorem setHub_sys (s : State) (r : Nat) (h : Hub) : (s.setHub r h).sys = s.sys := rfl
@[simp] theorem setHub_stk (s : State) (r : Nat) (h : Hub) : (s.setHub r h).stk = s.stk := rfl
@[simp] theorem setHub_dbg (s : State) (r : Nat) (h : Hub) : (s.setHub r h).dbg = s.dbg := rfl
@[simp] theorem setHub_bru (s : State) (r : Nat) (h : Hub) : (s.setHub r h).bru = s.bru := rfl
@[simp] theorem setHub_pwr (s : State) (r : Nat) (h : Hub) : (s.setHub r h).pwr = s.pwr := rfl
@[simp] theorem setHub_mgt (s : State) (r : Nat) (h : Hub) : (s.setHub r h).mgt = s.mgt := rfl
@[simp] theorem setHub_ghp (s : State) (r : Nat) (h : Hub) : (s.setHub r h).ghp = s.ghp := rfl
@[simp] theorem setHub_flue (s : State) (r : Nat) (h : Hub) : (s.setHub r h).flue = s.flue := rfl
@[simp] theorem setHub_net (s : State) (r : Nat) (h : Hub) : (s.setHub r h).net = s.net := rfl
@[simp] theorem setHub_pulses (s : State) (r : Nat) (h : Hub) : (s.setHub r h).pulses = s.pulses := rfl
@[simp] theorem setHub_freeCtr (s : State) (r : Nat) (h : Hub) : (s.setHub r h).freeCtr = s.freeCtr := rfl

/-! `modHub` changes hubs alone. -/

@[simp] theorem modHub_pending (s : State) (r : Nat) (g : Hub → Hub) : (s.modHub r g).pending = s.pending := rfl
@[simp] theorem modHub_cfg (s : State) (r : Nat) (g : Hub → Hub) : (s.modHub r g).cfg = s.cfg := rfl
@[simp] theorem modHub_regs (s : State) (r : Nat) (g : Hub → Hub) : (s.modHub r g).regs = s.regs := rfl
@[simp] theorem modHub_snaps (s : State) (r : Nat) (g : Hub → Hub) : (s.modHub r g).snaps = s.snaps := rfl
@[simp] theorem modHub_probes (s : State) (r : Nat) (g : Hub → Hub) : (s.modHub r g).probes = s.probes := rfl
@[simp] theorem modHub_gt (s : State) (r : Nat) (g : Hub → Hub) : (s.modHub r g).gt = s.gt := rfl
@[simp] theorem modHub_timeRounds (s : State) (r : Nat) (g : Hub → Hub) : (s.modHub r g).timeRounds = s.timeRounds := rfl
@[simp] theorem modHub_master (s : State) (r : Nat) (g : Hub → Hub) : (s.modHub r g).master = s.master := rfl
@[simp] theorem modHub_lost (s : State) (r : Nat) (g : Hub → Hub) : (s.modHub r g).lost = s.lost := rfl
@[simp] theorem modHub_seeds (s : State) (r : Nat) (g : Hub → Hub) : (s.modHub r g).seeds = s.seeds := rfl
@[simp] theorem modHub_hops (s : State) (r : Nat) (g : Hub → Hub) : (s.modHub r g).hops = s.hops := rfl
@[simp] theorem modHub_flt (s : State) (r : Nat) (g : Hub → Hub) : (s.modHub r g).flt = s.flt := rfl
@[simp] theorem modHub_fl (s : State) (r : Nat) (g : Hub → Hub) : (s.modHub r g).fl = s.fl := rfl
@[simp] theorem modHub_rcv (s : State) (r : Nat) (g : Hub → Hub) : (s.modHub r g).rcv = s.rcv := rfl
@[simp] theorem modHub_ldg (s : State) (r : Nat) (g : Hub → Hub) : (s.modHub r g).ldg = s.ldg := rfl
@[simp] theorem modHub_tally (s : State) (r : Nat) (g : Hub → Hub) : (s.modHub r g).tally = s.tally := rfl
@[simp] theorem modHub_vault (s : State) (r : Nat) (g : Hub → Hub) : (s.modHub r g).vault = s.vault := rfl
@[simp] theorem modHub_tokbuf (s : State) (r : Nat) (g : Hub → Hub) : (s.modHub r g).tokbuf = s.tokbuf := rfl
@[simp] theorem modHub_pageBuf (s : State) (r : Nat) (g : Hub → Hub) : (s.modHub r g).pageBuf = s.pageBuf := rfl
@[simp] theorem modHub_link (s : State) (r : Nat) (g : Hub → Hub) : (s.modHub r g).link = s.link := rfl
@[simp] theorem modHub_colo (s : State) (r : Nat) (g : Hub → Hub) : (s.modHub r g).colo = s.colo := rfl
@[simp] theorem modHub_sys (s : State) (r : Nat) (g : Hub → Hub) : (s.modHub r g).sys = s.sys := rfl
@[simp] theorem modHub_stk (s : State) (r : Nat) (g : Hub → Hub) : (s.modHub r g).stk = s.stk := rfl
@[simp] theorem modHub_dbg (s : State) (r : Nat) (g : Hub → Hub) : (s.modHub r g).dbg = s.dbg := rfl
@[simp] theorem modHub_bru (s : State) (r : Nat) (g : Hub → Hub) : (s.modHub r g).bru = s.bru := rfl
@[simp] theorem modHub_pwr (s : State) (r : Nat) (g : Hub → Hub) : (s.modHub r g).pwr = s.pwr := rfl
@[simp] theorem modHub_mgt (s : State) (r : Nat) (g : Hub → Hub) : (s.modHub r g).mgt = s.mgt := rfl
@[simp] theorem modHub_ghp (s : State) (r : Nat) (g : Hub → Hub) : (s.modHub r g).ghp = s.ghp := rfl
@[simp] theorem modHub_flue (s : State) (r : Nat) (g : Hub → Hub) : (s.modHub r g).flue = s.flue := rfl
@[simp] theorem modHub_net (s : State) (r : Nat) (g : Hub → Hub) : (s.modHub r g).net = s.net := rfl
@[simp] theorem modHub_pulses (s : State) (r : Nat) (g : Hub → Hub) : (s.modHub r g).pulses = s.pulses := rfl
@[simp] theorem modHub_freeCtr (s : State) (r : Nat) (g : Hub → Hub) : (s.modHub r g).freeCtr = s.freeCtr := rfl

/-! `send` changes flue alone. -/

@[simp] theorem send_pending (s : State) (m : Msg) : (s.send m).pending = s.pending := rfl
@[simp] theorem send_cfg (s : State) (m : Msg) : (s.send m).cfg = s.cfg := rfl
@[simp] theorem send_regs (s : State) (m : Msg) : (s.send m).regs = s.regs := rfl
@[simp] theorem send_snaps (s : State) (m : Msg) : (s.send m).snaps = s.snaps := rfl
@[simp] theorem send_probes (s : State) (m : Msg) : (s.send m).probes = s.probes := rfl
@[simp] theorem send_hubs (s : State) (m : Msg) : (s.send m).hubs = s.hubs := rfl
@[simp] theorem send_gt (s : State) (m : Msg) : (s.send m).gt = s.gt := rfl
@[simp] theorem send_timeRounds (s : State) (m : Msg) : (s.send m).timeRounds = s.timeRounds := rfl
@[simp] theorem send_master (s : State) (m : Msg) : (s.send m).master = s.master := rfl
@[simp] theorem send_lost (s : State) (m : Msg) : (s.send m).lost = s.lost := rfl
@[simp] theorem send_seeds (s : State) (m : Msg) : (s.send m).seeds = s.seeds := rfl
@[simp] theorem send_hops (s : State) (m : Msg) : (s.send m).hops = s.hops := rfl
@[simp] theorem send_net (s : State) (m : Msg) : (s.send m).net = s.net := rfl
@[simp] theorem send_flt (s : State) (m : Msg) : (s.send m).flt = s.flt := rfl
@[simp] theorem send_fl (s : State) (m : Msg) : (s.send m).fl = s.fl := rfl
@[simp] theorem send_rcv (s : State) (m : Msg) : (s.send m).rcv = s.rcv := rfl
@[simp] theorem send_ldg (s : State) (m : Msg) : (s.send m).ldg = s.ldg := rfl
@[simp] theorem send_tally (s : State) (m : Msg) : (s.send m).tally = s.tally := rfl
@[simp] theorem send_vault (s : State) (m : Msg) : (s.send m).vault = s.vault := rfl
@[simp] theorem send_tokbuf (s : State) (m : Msg) : (s.send m).tokbuf = s.tokbuf := rfl
@[simp] theorem send_pageBuf (s : State) (m : Msg) : (s.send m).pageBuf = s.pageBuf := rfl
@[simp] theorem send_link (s : State) (m : Msg) : (s.send m).link = s.link := rfl
@[simp] theorem send_colo (s : State) (m : Msg) : (s.send m).colo = s.colo := rfl
@[simp] theorem send_sys (s : State) (m : Msg) : (s.send m).sys = s.sys := rfl
@[simp] theorem send_stk (s : State) (m : Msg) : (s.send m).stk = s.stk := rfl
@[simp] theorem send_dbg (s : State) (m : Msg) : (s.send m).dbg = s.dbg := rfl
@[simp] theorem send_bru (s : State) (m : Msg) : (s.send m).bru = s.bru := rfl
@[simp] theorem send_pwr (s : State) (m : Msg) : (s.send m).pwr = s.pwr := rfl
@[simp] theorem send_mgt (s : State) (m : Msg) : (s.send m).mgt = s.mgt := rfl
@[simp] theorem send_ghp (s : State) (m : Msg) : (s.send m).ghp = s.ghp := rfl
@[simp] theorem send_pulses (s : State) (m : Msg) : (s.send m).pulses = s.pulses := rfl
@[simp] theorem send_freeCtr (s : State) (m : Msg) : (s.send m).freeCtr = s.freeCtr := rfl

/-! `sendAll` changes flue alone. -/

@[simp] theorem sendAll_pending (s : State) (l : List Msg) : (s.sendAll l).pending = s.pending := rfl
@[simp] theorem sendAll_cfg (s : State) (l : List Msg) : (s.sendAll l).cfg = s.cfg := rfl
@[simp] theorem sendAll_regs (s : State) (l : List Msg) : (s.sendAll l).regs = s.regs := rfl
@[simp] theorem sendAll_snaps (s : State) (l : List Msg) : (s.sendAll l).snaps = s.snaps := rfl
@[simp] theorem sendAll_probes (s : State) (l : List Msg) : (s.sendAll l).probes = s.probes := rfl
@[simp] theorem sendAll_hubs (s : State) (l : List Msg) : (s.sendAll l).hubs = s.hubs := rfl
@[simp] theorem sendAll_gt (s : State) (l : List Msg) : (s.sendAll l).gt = s.gt := rfl
@[simp] theorem sendAll_timeRounds (s : State) (l : List Msg) : (s.sendAll l).timeRounds = s.timeRounds := rfl
@[simp] theorem sendAll_master (s : State) (l : List Msg) : (s.sendAll l).master = s.master := rfl
@[simp] theorem sendAll_lost (s : State) (l : List Msg) : (s.sendAll l).lost = s.lost := rfl
@[simp] theorem sendAll_seeds (s : State) (l : List Msg) : (s.sendAll l).seeds = s.seeds := rfl
@[simp] theorem sendAll_hops (s : State) (l : List Msg) : (s.sendAll l).hops = s.hops := rfl
@[simp] theorem sendAll_net (s : State) (l : List Msg) : (s.sendAll l).net = s.net := rfl
@[simp] theorem sendAll_flt (s : State) (l : List Msg) : (s.sendAll l).flt = s.flt := rfl
@[simp] theorem sendAll_fl (s : State) (l : List Msg) : (s.sendAll l).fl = s.fl := rfl
@[simp] theorem sendAll_rcv (s : State) (l : List Msg) : (s.sendAll l).rcv = s.rcv := rfl
@[simp] theorem sendAll_ldg (s : State) (l : List Msg) : (s.sendAll l).ldg = s.ldg := rfl
@[simp] theorem sendAll_tally (s : State) (l : List Msg) : (s.sendAll l).tally = s.tally := rfl
@[simp] theorem sendAll_vault (s : State) (l : List Msg) : (s.sendAll l).vault = s.vault := rfl
@[simp] theorem sendAll_tokbuf (s : State) (l : List Msg) : (s.sendAll l).tokbuf = s.tokbuf := rfl
@[simp] theorem sendAll_pageBuf (s : State) (l : List Msg) : (s.sendAll l).pageBuf = s.pageBuf := rfl
@[simp] theorem sendAll_link (s : State) (l : List Msg) : (s.sendAll l).link = s.link := rfl
@[simp] theorem sendAll_colo (s : State) (l : List Msg) : (s.sendAll l).colo = s.colo := rfl
@[simp] theorem sendAll_sys (s : State) (l : List Msg) : (s.sendAll l).sys = s.sys := rfl
@[simp] theorem sendAll_stk (s : State) (l : List Msg) : (s.sendAll l).stk = s.stk := rfl
@[simp] theorem sendAll_dbg (s : State) (l : List Msg) : (s.sendAll l).dbg = s.dbg := rfl
@[simp] theorem sendAll_bru (s : State) (l : List Msg) : (s.sendAll l).bru = s.bru := rfl
@[simp] theorem sendAll_pwr (s : State) (l : List Msg) : (s.sendAll l).pwr = s.pwr := rfl
@[simp] theorem sendAll_mgt (s : State) (l : List Msg) : (s.sendAll l).mgt = s.mgt := rfl
@[simp] theorem sendAll_ghp (s : State) (l : List Msg) : (s.sendAll l).ghp = s.ghp := rfl
@[simp] theorem sendAll_pulses (s : State) (l : List Msg) : (s.sendAll l).pulses = s.pulses := rfl
@[simp] theorem sendAll_freeCtr (s : State) (l : List Msg) : (s.sendAll l).freeCtr = s.freeCtr := rfl

/-! `recv` changes flue alone. -/

@[simp] theorem recv_pending (s : State) (m : Msg) : (s.recv m).pending = s.pending := rfl
@[simp] theorem recv_cfg (s : State) (m : Msg) : (s.recv m).cfg = s.cfg := rfl
@[simp] theorem recv_regs (s : State) (m : Msg) : (s.recv m).regs = s.regs := rfl
@[simp] theorem recv_snaps (s : State) (m : Msg) : (s.recv m).snaps = s.snaps := rfl
@[simp] theorem recv_probes (s : State) (m : Msg) : (s.recv m).probes = s.probes := rfl
@[simp] theorem recv_hubs (s : State) (m : Msg) : (s.recv m).hubs = s.hubs := rfl
@[simp] theorem recv_gt (s : State) (m : Msg) : (s.recv m).gt = s.gt := rfl
@[simp] theorem recv_timeRounds (s : State) (m : Msg) : (s.recv m).timeRounds = s.timeRounds := rfl
@[simp] theorem recv_master (s : State) (m : Msg) : (s.recv m).master = s.master := rfl
@[simp] theorem recv_lost (s : State) (m : Msg) : (s.recv m).lost = s.lost := rfl
@[simp] theorem recv_seeds (s : State) (m : Msg) : (s.recv m).seeds = s.seeds := rfl
@[simp] theorem recv_hops (s : State) (m : Msg) : (s.recv m).hops = s.hops := rfl
@[simp] theorem recv_net (s : State) (m : Msg) : (s.recv m).net = s.net := rfl
@[simp] theorem recv_flt (s : State) (m : Msg) : (s.recv m).flt = s.flt := rfl
@[simp] theorem recv_fl (s : State) (m : Msg) : (s.recv m).fl = s.fl := rfl
@[simp] theorem recv_rcv (s : State) (m : Msg) : (s.recv m).rcv = s.rcv := rfl
@[simp] theorem recv_ldg (s : State) (m : Msg) : (s.recv m).ldg = s.ldg := rfl
@[simp] theorem recv_tally (s : State) (m : Msg) : (s.recv m).tally = s.tally := rfl
@[simp] theorem recv_vault (s : State) (m : Msg) : (s.recv m).vault = s.vault := rfl
@[simp] theorem recv_tokbuf (s : State) (m : Msg) : (s.recv m).tokbuf = s.tokbuf := rfl
@[simp] theorem recv_pageBuf (s : State) (m : Msg) : (s.recv m).pageBuf = s.pageBuf := rfl
@[simp] theorem recv_link (s : State) (m : Msg) : (s.recv m).link = s.link := rfl
@[simp] theorem recv_colo (s : State) (m : Msg) : (s.recv m).colo = s.colo := rfl
@[simp] theorem recv_sys (s : State) (m : Msg) : (s.recv m).sys = s.sys := rfl
@[simp] theorem recv_stk (s : State) (m : Msg) : (s.recv m).stk = s.stk := rfl
@[simp] theorem recv_dbg (s : State) (m : Msg) : (s.recv m).dbg = s.dbg := rfl
@[simp] theorem recv_bru (s : State) (m : Msg) : (s.recv m).bru = s.bru := rfl
@[simp] theorem recv_pwr (s : State) (m : Msg) : (s.recv m).pwr = s.pwr := rfl
@[simp] theorem recv_mgt (s : State) (m : Msg) : (s.recv m).mgt = s.mgt := rfl
@[simp] theorem recv_ghp (s : State) (m : Msg) : (s.recv m).ghp = s.ghp := rfl
@[simp] theorem recv_pulses (s : State) (m : Msg) : (s.recv m).pulses = s.pulses := rfl
@[simp] theorem recv_freeCtr (s : State) (m : Msg) : (s.recv m).freeCtr = s.freeCtr := rfl

/-! `emit` changes pulses alone. -/

@[simp] theorem emit_pending (s : State) (p : Pulse) : (s.emit p).pending = s.pending := rfl
@[simp] theorem emit_cfg (s : State) (p : Pulse) : (s.emit p).cfg = s.cfg := rfl
@[simp] theorem emit_regs (s : State) (p : Pulse) : (s.emit p).regs = s.regs := rfl
@[simp] theorem emit_snaps (s : State) (p : Pulse) : (s.emit p).snaps = s.snaps := rfl
@[simp] theorem emit_probes (s : State) (p : Pulse) : (s.emit p).probes = s.probes := rfl
@[simp] theorem emit_hubs (s : State) (p : Pulse) : (s.emit p).hubs = s.hubs := rfl
@[simp] theorem emit_gt (s : State) (p : Pulse) : (s.emit p).gt = s.gt := rfl
@[simp] theorem emit_timeRounds (s : State) (p : Pulse) : (s.emit p).timeRounds = s.timeRounds := rfl
@[simp] theorem emit_master (s : State) (p : Pulse) : (s.emit p).master = s.master := rfl
@[simp] theorem emit_lost (s : State) (p : Pulse) : (s.emit p).lost = s.lost := rfl
@[simp] theorem emit_seeds (s : State) (p : Pulse) : (s.emit p).seeds = s.seeds := rfl
@[simp] theorem emit_hops (s : State) (p : Pulse) : (s.emit p).hops = s.hops := rfl
@[simp] theorem emit_flt (s : State) (p : Pulse) : (s.emit p).flt = s.flt := rfl
@[simp] theorem emit_fl (s : State) (p : Pulse) : (s.emit p).fl = s.fl := rfl
@[simp] theorem emit_rcv (s : State) (p : Pulse) : (s.emit p).rcv = s.rcv := rfl
@[simp] theorem emit_ldg (s : State) (p : Pulse) : (s.emit p).ldg = s.ldg := rfl
@[simp] theorem emit_tally (s : State) (p : Pulse) : (s.emit p).tally = s.tally := rfl
@[simp] theorem emit_vault (s : State) (p : Pulse) : (s.emit p).vault = s.vault := rfl
@[simp] theorem emit_tokbuf (s : State) (p : Pulse) : (s.emit p).tokbuf = s.tokbuf := rfl
@[simp] theorem emit_pageBuf (s : State) (p : Pulse) : (s.emit p).pageBuf = s.pageBuf := rfl
@[simp] theorem emit_link (s : State) (p : Pulse) : (s.emit p).link = s.link := rfl
@[simp] theorem emit_colo (s : State) (p : Pulse) : (s.emit p).colo = s.colo := rfl
@[simp] theorem emit_sys (s : State) (p : Pulse) : (s.emit p).sys = s.sys := rfl
@[simp] theorem emit_stk (s : State) (p : Pulse) : (s.emit p).stk = s.stk := rfl
@[simp] theorem emit_dbg (s : State) (p : Pulse) : (s.emit p).dbg = s.dbg := rfl
@[simp] theorem emit_bru (s : State) (p : Pulse) : (s.emit p).bru = s.bru := rfl
@[simp] theorem emit_pwr (s : State) (p : Pulse) : (s.emit p).pwr = s.pwr := rfl
@[simp] theorem emit_mgt (s : State) (p : Pulse) : (s.emit p).mgt = s.mgt := rfl
@[simp] theorem emit_ghp (s : State) (p : Pulse) : (s.emit p).ghp = s.ghp := rfl
@[simp] theorem emit_flue (s : State) (p : Pulse) : (s.emit p).flue = s.flue := rfl
@[simp] theorem emit_net (s : State) (p : Pulse) : (s.emit p).net = s.net := rfl
@[simp] theorem emit_freeCtr (s : State) (p : Pulse) : (s.emit p).freeCtr = s.freeCtr := rfl

/-! `emitAll` changes pulses alone. -/

@[simp] theorem emitAll_pending (s : State) (l : List Pulse) : (s.emitAll l).pending = s.pending := rfl
@[simp] theorem emitAll_cfg (s : State) (l : List Pulse) : (s.emitAll l).cfg = s.cfg := rfl
@[simp] theorem emitAll_regs (s : State) (l : List Pulse) : (s.emitAll l).regs = s.regs := rfl
@[simp] theorem emitAll_snaps (s : State) (l : List Pulse) : (s.emitAll l).snaps = s.snaps := rfl
@[simp] theorem emitAll_probes (s : State) (l : List Pulse) : (s.emitAll l).probes = s.probes := rfl
@[simp] theorem emitAll_hubs (s : State) (l : List Pulse) : (s.emitAll l).hubs = s.hubs := rfl
@[simp] theorem emitAll_gt (s : State) (l : List Pulse) : (s.emitAll l).gt = s.gt := rfl
@[simp] theorem emitAll_timeRounds (s : State) (l : List Pulse) : (s.emitAll l).timeRounds = s.timeRounds := rfl
@[simp] theorem emitAll_master (s : State) (l : List Pulse) : (s.emitAll l).master = s.master := rfl
@[simp] theorem emitAll_lost (s : State) (l : List Pulse) : (s.emitAll l).lost = s.lost := rfl
@[simp] theorem emitAll_seeds (s : State) (l : List Pulse) : (s.emitAll l).seeds = s.seeds := rfl
@[simp] theorem emitAll_hops (s : State) (l : List Pulse) : (s.emitAll l).hops = s.hops := rfl
@[simp] theorem emitAll_flt (s : State) (l : List Pulse) : (s.emitAll l).flt = s.flt := rfl
@[simp] theorem emitAll_fl (s : State) (l : List Pulse) : (s.emitAll l).fl = s.fl := rfl
@[simp] theorem emitAll_rcv (s : State) (l : List Pulse) : (s.emitAll l).rcv = s.rcv := rfl
@[simp] theorem emitAll_ldg (s : State) (l : List Pulse) : (s.emitAll l).ldg = s.ldg := rfl
@[simp] theorem emitAll_tally (s : State) (l : List Pulse) : (s.emitAll l).tally = s.tally := rfl
@[simp] theorem emitAll_vault (s : State) (l : List Pulse) : (s.emitAll l).vault = s.vault := rfl
@[simp] theorem emitAll_tokbuf (s : State) (l : List Pulse) : (s.emitAll l).tokbuf = s.tokbuf := rfl
@[simp] theorem emitAll_pageBuf (s : State) (l : List Pulse) : (s.emitAll l).pageBuf = s.pageBuf := rfl
@[simp] theorem emitAll_link (s : State) (l : List Pulse) : (s.emitAll l).link = s.link := rfl
@[simp] theorem emitAll_colo (s : State) (l : List Pulse) : (s.emitAll l).colo = s.colo := rfl
@[simp] theorem emitAll_sys (s : State) (l : List Pulse) : (s.emitAll l).sys = s.sys := rfl
@[simp] theorem emitAll_stk (s : State) (l : List Pulse) : (s.emitAll l).stk = s.stk := rfl
@[simp] theorem emitAll_dbg (s : State) (l : List Pulse) : (s.emitAll l).dbg = s.dbg := rfl
@[simp] theorem emitAll_bru (s : State) (l : List Pulse) : (s.emitAll l).bru = s.bru := rfl
@[simp] theorem emitAll_pwr (s : State) (l : List Pulse) : (s.emitAll l).pwr = s.pwr := rfl
@[simp] theorem emitAll_mgt (s : State) (l : List Pulse) : (s.emitAll l).mgt = s.mgt := rfl
@[simp] theorem emitAll_ghp (s : State) (l : List Pulse) : (s.emitAll l).ghp = s.ghp := rfl
@[simp] theorem emitAll_flue (s : State) (l : List Pulse) : (s.emitAll l).flue = s.flue := rfl
@[simp] theorem emitAll_net (s : State) (l : List Pulse) : (s.emitAll l).net = s.net := rfl
@[simp] theorem emitAll_freeCtr (s : State) (l : List Pulse) : (s.emitAll l).freeCtr = s.freeCtr := rfl

/-! `fresh` changes freeCtr alone. -/

@[simp] theorem fresh_pending (s : State) (w : Nat) : (s.fresh w).2.pending = s.pending := rfl
@[simp] theorem fresh_cfg (s : State) (w : Nat) : (s.fresh w).2.cfg = s.cfg := rfl
@[simp] theorem fresh_regs (s : State) (w : Nat) : (s.fresh w).2.regs = s.regs := rfl
@[simp] theorem fresh_snaps (s : State) (w : Nat) : (s.fresh w).2.snaps = s.snaps := rfl
@[simp] theorem fresh_probes (s : State) (w : Nat) : (s.fresh w).2.probes = s.probes := rfl
@[simp] theorem fresh_hubs (s : State) (w : Nat) : (s.fresh w).2.hubs = s.hubs := rfl
@[simp] theorem fresh_gt (s : State) (w : Nat) : (s.fresh w).2.gt = s.gt := rfl
@[simp] theorem fresh_timeRounds (s : State) (w : Nat) : (s.fresh w).2.timeRounds = s.timeRounds := rfl
@[simp] theorem fresh_master (s : State) (w : Nat) : (s.fresh w).2.master = s.master := rfl
@[simp] theorem fresh_lost (s : State) (w : Nat) : (s.fresh w).2.lost = s.lost := rfl
@[simp] theorem fresh_seeds (s : State) (w : Nat) : (s.fresh w).2.seeds = s.seeds := rfl
@[simp] theorem fresh_hops (s : State) (w : Nat) : (s.fresh w).2.hops = s.hops := rfl
@[simp] theorem fresh_flt (s : State) (w : Nat) : (s.fresh w).2.flt = s.flt := rfl
@[simp] theorem fresh_fl (s : State) (w : Nat) : (s.fresh w).2.fl = s.fl := rfl
@[simp] theorem fresh_rcv (s : State) (w : Nat) : (s.fresh w).2.rcv = s.rcv := rfl
@[simp] theorem fresh_ldg (s : State) (w : Nat) : (s.fresh w).2.ldg = s.ldg := rfl
@[simp] theorem fresh_tally (s : State) (w : Nat) : (s.fresh w).2.tally = s.tally := rfl
@[simp] theorem fresh_vault (s : State) (w : Nat) : (s.fresh w).2.vault = s.vault := rfl
@[simp] theorem fresh_tokbuf (s : State) (w : Nat) : (s.fresh w).2.tokbuf = s.tokbuf := rfl
@[simp] theorem fresh_pageBuf (s : State) (w : Nat) : (s.fresh w).2.pageBuf = s.pageBuf := rfl
@[simp] theorem fresh_link (s : State) (w : Nat) : (s.fresh w).2.link = s.link := rfl
@[simp] theorem fresh_colo (s : State) (w : Nat) : (s.fresh w).2.colo = s.colo := rfl
@[simp] theorem fresh_sys (s : State) (w : Nat) : (s.fresh w).2.sys = s.sys := rfl
@[simp] theorem fresh_stk (s : State) (w : Nat) : (s.fresh w).2.stk = s.stk := rfl
@[simp] theorem fresh_dbg (s : State) (w : Nat) : (s.fresh w).2.dbg = s.dbg := rfl
@[simp] theorem fresh_bru (s : State) (w : Nat) : (s.fresh w).2.bru = s.bru := rfl
@[simp] theorem fresh_pwr (s : State) (w : Nat) : (s.fresh w).2.pwr = s.pwr := rfl
@[simp] theorem fresh_mgt (s : State) (w : Nat) : (s.fresh w).2.mgt = s.mgt := rfl
@[simp] theorem fresh_ghp (s : State) (w : Nat) : (s.fresh w).2.ghp = s.ghp := rfl
@[simp] theorem fresh_flue (s : State) (w : Nat) : (s.fresh w).2.flue = s.flue := rfl
@[simp] theorem fresh_net (s : State) (w : Nat) : (s.fresh w).2.net = s.net := rfl
@[simp] theorem fresh_pulses (s : State) (w : Nat) : (s.fresh w).2.pulses = s.pulses := rfl

/-! ## Agreement outside a set of parts -/

theorem blank_mk {F : Fields} (t : State) (cfg : Charter) (regs : Table Nat) (snaps : Table Nat) (probes : Table Probe)
    (hubs : Table Hub) (gt : Nat) (timeRounds : Nat) (master : Table CatPart) (lost : List Nat) (seeds : Table Nat)
    (hops : Table Hop) (flt : KFault) (fl : KFolio) (rcv : KRcv) (ldg : Ledger) (tally : Tally) (vault : Vault)
    (tokbuf : Buffer) (pageBuf : Buffer) (link : Link) (colo : KColo) (sys : Table (List SysJob)) (stk : Stacker) (dbg : Dbg)
    (bru : Bru) (pwr : Pwr) (mgt : Mgt) (ghp : List GhpReq) (flue : List Msg) (net : Net) (pulses : List Pulse) (freeCtr : Nat)
    (h_cfg : cfg = t.cfg ∨ F.cfg = true) (h_regs : regs = t.regs ∨ ∀ u, F.has u = true)
    (h_snaps : snaps = t.snaps ∨ F.snaps = true) (h_probes : probes = t.probes ∨ F.probes = true)
    (h_hubs : hubs = t.hubs ∨ F.hubs = true) (h_gt : gt = t.gt ∨ F.gt = true)
    (h_timeRounds : timeRounds = t.timeRounds ∨ F.timeRounds = true) (h_master : master = t.master ∨ F.master = true)
    (h_lost : lost = t.lost ∨ F.lost = true) (h_seeds : seeds = t.seeds ∨ F.seeds = true)
    (h_hops : hops = t.hops ∨ F.hops = true) (h_flt : flt = t.flt ∨ F.flt = true) (h_fl : fl = t.fl ∨ F.fl = true)
    (h_rcv : rcv = t.rcv ∨ F.rcv = true) (h_ldg : ldg = t.ldg ∨ F.ldg = true) (h_tally : tally = t.tally ∨ F.tally = true)
    (h_vault : vault = t.vault ∨ F.vault = true) (h_tokbuf : tokbuf = t.tokbuf ∨ F.tokbuf = true)
    (h_pageBuf : pageBuf = t.pageBuf ∨ F.pageBuf = true) (h_link : link = t.link ∨ F.link = true)
    (h_colo : colo = t.colo ∨ F.colo = true) (h_sys : sys = t.sys ∨ F.sys = true) (h_stk : stk = t.stk ∨ F.stk = true)
    (h_dbg : dbg = t.dbg ∨ F.dbg = true) (h_bru : bru = t.bru ∨ F.bru = true) (h_pwr : pwr = t.pwr ∨ F.pwr = true)
    (h_mgt : mgt = t.mgt ∨ F.mgt = true) (h_ghp : ghp = t.ghp ∨ F.ghp = true) (h_flue : flue = t.flue ∨ F.flue = true)
    (h_net : net = t.net ∨ F.net = true)
    (h_pulses : pulses = t.pulses ∨ F.pulses = true) (h_freeCtr : freeCtr = t.freeCtr ∨ F.freeCtr = true) :
    State.blank F
    (State.mk t.pending cfg regs snaps probes hubs gt timeRounds master lost seeds hops flt fl rcv ldg tally vault tokbuf pageBuf link colo sys stk dbg bru pwr mgt ghp flue net pulses freeCtr) = t.blank F := by
  have sel : ∀ {α : Type} (b : Bool) (d x y : α), x = y ∨ b = true → (if b then d else x) = if b then d else y := by
    intro α b d x y h
    rcases h with h | h <;> simp [h]
  have hr : regs.filter (fun e => !F.has (RegUnit.ofCode (e.1 % 32))) = t.regs.filter (fun e => !F.has (RegUnit.ofCode
    (e.1 % 32))) := by
    rcases h_regs with h | h
    · rw [h]
    · rw [List.filter_eq_nil_iff.mpr (by simp [h]), List.filter_eq_nil_iff.mpr (by simp [h])]
  simp only [State.blank, hr, sel _ _ _ _ h_cfg, sel _ _ _ _ h_snaps, sel _ _ _ _ h_probes, sel _ _ _ _ h_hubs, sel _ _ _ _ h_gt, sel _ _ _ _ h_timeRounds, sel _ _ _ _ h_master, sel _ _ _ _ h_lost, sel _ _ _ _ h_seeds, sel _ _ _ _ h_hops, sel _ _ _ _ h_flt, sel _ _ _ _ h_fl, sel _ _ _ _ h_rcv, sel _ _ _ _ h_ldg, sel _ _ _ _ h_tally, sel _ _ _ _ h_vault, sel _ _ _ _ h_tokbuf, sel _ _ _ _ h_pageBuf, sel _ _ _ _ h_link, sel _ _ _ _ h_colo, sel _ _ _ _ h_sys, sel _ _ _ _ h_stk, sel _ _ _ _ h_dbg, sel _ _ _ _ h_bru, sel _ _ _ _ h_pwr, sel _ _ _ _ h_mgt, sel _ _ _ _ h_ghp, sel _ _ _ _ h_flue, sel _ _ _ _ h_net, sel _ _ _ _ h_pulses, sel _ _ _ _ h_freeCtr]

theorem foldl_blank {F : Fields} {α : Type} (l : List α) (f : State → α → State) (s : State) (h : ∀ s a,
    (f s a).blank F = s.blank F) :
    (l.foldl f s).blank F = s.blank F := by
  induction l generalizing s with
  | nil => rfl
  | cons a l ih => simp [List.foldl, ih, h]

theorem foldl_blank_fst {F : Fields} {α β : Type} (l : List α) (f : State × β → α → State × β) (p : State × β)
    (h : ∀ p a, (f p a).1.blank F = p.1.blank F) : (l.foldl f p).1.blank F = p.1.blank F := by
  induction l generalizing p with
  | nil => rfl
  | cons a l ih => simp [List.foldl, ih, h]

theorem foldl_blank_snd {F : Fields} {α β : Type} (l : List α) (f : β × State → α → β × State) (p : β × State)
    (h : ∀ p a, (f p a).2.blank F = p.2.blank F) : (l.foldl f p).2.blank F = p.2.blank F := by
  induction l generalizing p with
  | nil => rfl
  | cons a l ih => simp [List.foldl, ih, h]

theorem foldl_blank_trd {F : Fields} {α β γ : Type} (l : List α) (f : β × γ × State → α → β × γ × State) (p : β × γ × State)
    (h : ∀ p a, (f p a).2.2.blank F = p.2.2.blank F) : (l.foldl f p).2.2.blank F = p.2.2.blank F := by
  induction l generalizing p with
  | nil => rfl
  | cons a l ih => simp [List.foldl, ih, h]

theorem ofCode_key (f : RegField) (i : Nat) : RegUnit.ofCode (f.key i % 32) = f.unit := by
  have h : f.key i % 32 = f.unit.code := by
    have : f.unit.code < 32 := by cases f.unit <;> decide
    unfold RegField.key
    omega
  rw [h]
  cases f.unit <;> rfl

theorem filter_tput {α : Type} {p : Nat → Bool} {k : Nat} (h : p k = false) (v : α) (l : Table α) :
    (tput k v l).filter (fun e => p e.1) = l.filter (fun e => p e.1) := by
  induction l with
  | nil => simp [tput, h]
  | cons e l ih =>
    obtain ⟨k', v'⟩ := e
    simp only [tput]
    split
    · simp [h]
    · split
      · rename_i hk
        subst hk
        simp [h]
      · simp only [List.filter_cons, ih]

theorem set_blank {F : Fields} (s : State) (f : RegField) (i v : Nat) (h : F.has f.unit) : (s.set f i v).blank F = s.blank F := by
  have hf := filter_tput (p := fun k => !F.has (RegUnit.ofCode (k % 32))) (k := f.key i) (by simp [ofCode_key, h])
    (wrap f.w v) s.regs
  simp only [State.blank, State.set, hf]

theorem setAll_blank {F : Fields} (s : State) (i : Nat) (l : List (RegField × Nat)) (h : l.all (fun e => F.has e.1.unit)) :
    (s.setAll i l).blank F = s.blank F := by
  induction l generalizing s with
  | nil => rfl
  | cons e l ih =>
    obtain ⟨f, v⟩ := e
    simp only [List.all_cons, Bool.and_eq_true] at h
    simp only [State.setAll]
    exact (ih _ h.2).trans (set_blank s f i v h.1)

theorem countField_unit (n : Nat) : (countField n).unit = .flt := by
  unfold countField
  split <;> rfl

theorem cntField_unit (n : Nat) : (cntField n).unit = .probe := by
  unfold cntField
  split <;> rfl

theorem event_unit {st : GhpStatus} {e : RegField} (h : st.event = some e) : e.unit = .ghp := by
  cases st <;> simp only [GhpStatus.event, Option.some.injEq, reduceCtorEq] at h <;> subst h <;> rfl

/-- Every next state that an outcome answers agrees with `s` outside `F`. -/
def Keeps (F : Fields) (s : State) (o : Host.Outcome State Fault Refusal) : Prop := ∀ t, o = .next t → t.blank F = s.blank F

theorem keeps_next {F : Fields} (s t : State) : Keeps F s (.next t) ↔ t.blank F = s.blank F := by simp [Keeps]

section

variable {F : Fields} {s t : State}

theorem pending_of_blank (h : t.blank F = s.blank F) : t.pending = s.pending := by
  simpa [State.blank] using congrArg State.pending h

theorem tget_filter {α : Type} {p : Nat → Bool} {k : Nat} (h : p k = true) (l : Table α) : tget k (l.filter (fun e => p e.1)) = tget k l := by
  induction l with
  | nil => rfl
  | cons e l ih =>
    obtain ⟨k', v'⟩ := e
    by_cases hk : k = k'
    · subst hk
      simp [h, tget]
    · by_cases hp : p k' = true <;> simp [hp, tget, hk, ih]

/-- A register of a unit outside `F` reads the same. -/
theorem get_of_blank (h : t.blank F = s.blank F) {f : RegField} (hf : F.has f.unit = false) (i : Nat) : t.get f i = s.get f i := by
  have hr := congrArg State.regs h
  simp only [State.blank] at hr
  have hk : (!F.has (RegUnit.ofCode (f.key i % 32))) = true := by simp [ofCode_key, hf]
  have ht := tget_filter (p := fun k => !F.has (RegUnit.ofCode (k % 32))) hk t.regs
  have hs := tget_filter (p := fun k => !F.has (RegUnit.ofCode (k % 32))) hk s.regs
  rw [hr] at ht
  simp only [State.get, tgetD, ← ht, hs]

theorem regs_of_blank (h : t.blank F = s.blank F) (hf : F.regs = []) : t.regs = s.regs := by
  have hr := congrArg State.regs h
  have hp : ∀ e ∈ t.regs ++ s.regs, (!F.has (RegUnit.ofCode (e.1 % 32))) = true := by simp [Fields.has, hf]
  simp only [State.blank] at hr
  rwa [List.filter_eq_self.mpr (fun e he => hp e (List.mem_append_left _ he)), List.filter_eq_self.mpr (fun e he => hp e (List.mem_append_right _ he))] at hr

theorem cfg_of_blank (h : t.blank F = s.blank F) (hf : F.cfg = false) : t.cfg = s.cfg := by
  simpa [State.blank, hf] using congrArg State.cfg h

theorem snaps_of_blank (h : t.blank F = s.blank F) (hf : F.snaps = false) : t.snaps = s.snaps := by
  simpa [State.blank, hf] using congrArg State.snaps h

theorem probes_of_blank (h : t.blank F = s.blank F) (hf : F.probes = false) : t.probes = s.probes := by
  simpa [State.blank, hf] using congrArg State.probes h

theorem hubs_of_blank (h : t.blank F = s.blank F) (hf : F.hubs = false) : t.hubs = s.hubs := by
  simpa [State.blank, hf] using congrArg State.hubs h

theorem gt_of_blank (h : t.blank F = s.blank F) (hf : F.gt = false) : t.gt = s.gt := by
  simpa [State.blank, hf] using congrArg State.gt h

theorem timeRounds_of_blank (h : t.blank F = s.blank F) (hf : F.timeRounds = false) : t.timeRounds = s.timeRounds := by
  simpa [State.blank, hf] using congrArg State.timeRounds h

theorem master_of_blank (h : t.blank F = s.blank F) (hf : F.master = false) : t.master = s.master := by
  simpa [State.blank, hf] using congrArg State.master h

theorem lost_of_blank (h : t.blank F = s.blank F) (hf : F.lost = false) : t.lost = s.lost := by
  simpa [State.blank, hf] using congrArg State.lost h

theorem seeds_of_blank (h : t.blank F = s.blank F) (hf : F.seeds = false) : t.seeds = s.seeds := by
  simpa [State.blank, hf] using congrArg State.seeds h

theorem hops_of_blank (h : t.blank F = s.blank F) (hf : F.hops = false) : t.hops = s.hops := by
  simpa [State.blank, hf] using congrArg State.hops h

theorem flt_of_blank (h : t.blank F = s.blank F) (hf : F.flt = false) : t.flt = s.flt := by
  simpa [State.blank, hf] using congrArg State.flt h

theorem fl_of_blank (h : t.blank F = s.blank F) (hf : F.fl = false) : t.fl = s.fl := by
  simpa [State.blank, hf] using congrArg State.fl h

theorem rcv_of_blank (h : t.blank F = s.blank F) (hf : F.rcv = false) : t.rcv = s.rcv := by
  simpa [State.blank, hf] using congrArg State.rcv h

theorem ldg_of_blank (h : t.blank F = s.blank F) (hf : F.ldg = false) : t.ldg = s.ldg := by
  simpa [State.blank, hf] using congrArg State.ldg h

theorem tally_of_blank (h : t.blank F = s.blank F) (hf : F.tally = false) : t.tally = s.tally := by
  simpa [State.blank, hf] using congrArg State.tally h

theorem vault_of_blank (h : t.blank F = s.blank F) (hf : F.vault = false) : t.vault = s.vault := by
  simpa [State.blank, hf] using congrArg State.vault h

theorem tokbuf_of_blank (h : t.blank F = s.blank F) (hf : F.tokbuf = false) : t.tokbuf = s.tokbuf := by
  simpa [State.blank, hf] using congrArg State.tokbuf h

theorem pageBuf_of_blank (h : t.blank F = s.blank F) (hf : F.pageBuf = false) : t.pageBuf = s.pageBuf := by
  simpa [State.blank, hf] using congrArg State.pageBuf h

theorem link_of_blank (h : t.blank F = s.blank F) (hf : F.link = false) : t.link = s.link := by
  simpa [State.blank, hf] using congrArg State.link h

theorem colo_of_blank (h : t.blank F = s.blank F) (hf : F.colo = false) : t.colo = s.colo := by
  simpa [State.blank, hf] using congrArg State.colo h

theorem sys_of_blank (h : t.blank F = s.blank F) (hf : F.sys = false) : t.sys = s.sys := by
  simpa [State.blank, hf] using congrArg State.sys h

theorem stk_of_blank (h : t.blank F = s.blank F) (hf : F.stk = false) : t.stk = s.stk := by
  simpa [State.blank, hf] using congrArg State.stk h

theorem dbg_of_blank (h : t.blank F = s.blank F) (hf : F.dbg = false) : t.dbg = s.dbg := by
  simpa [State.blank, hf] using congrArg State.dbg h

theorem bru_of_blank (h : t.blank F = s.blank F) (hf : F.bru = false) : t.bru = s.bru := by
  simpa [State.blank, hf] using congrArg State.bru h

theorem pwr_of_blank (h : t.blank F = s.blank F) (hf : F.pwr = false) : t.pwr = s.pwr := by
  simpa [State.blank, hf] using congrArg State.pwr h

theorem mgt_of_blank (h : t.blank F = s.blank F) (hf : F.mgt = false) : t.mgt = s.mgt := by
  simpa [State.blank, hf] using congrArg State.mgt h

theorem ghp_of_blank (h : t.blank F = s.blank F) (hf : F.ghp = false) : t.ghp = s.ghp := by
  simpa [State.blank, hf] using congrArg State.ghp h

theorem flue_of_blank (h : t.blank F = s.blank F) (hf : F.flue = false) : t.flue = s.flue := by
  simpa [State.blank, hf] using congrArg State.flue h

theorem net_of_blank (h : t.blank F = s.blank F) (hf : F.net = false) : t.net = s.net := by
  simpa [State.blank, hf] using congrArg State.net h

theorem pulses_of_blank (h : t.blank F = s.blank F) (hf : F.pulses = false) : t.pulses = s.pulses := by
  simpa [State.blank, hf] using congrArg State.pulses h

theorem freeCtr_of_blank (h : t.blank F = s.blank F) (hf : F.freeCtr = false) : t.freeCtr = s.freeCtr := by
  simpa [State.blank, hf] using congrArg State.freeCtr h

end

end Sys2Proof.Machine
end

