-- ==== Sys2Proof/Laws/FrameBase.lean ====
section
/-! SUPPORT. For each operation of the shared operations, and each command: which parts of the state it may change (every other part is
kept). -/

namespace Sys2Proof.Machine

open Sys2Proof

variable {F : Fields}

theorem raise_blank (s : State) (f : RegField) (i : Nat) (v_f : F.has f.unit) : (State.raise s f i).blank F = s.blank F := by
  unfold State.raise
  repeat' (first
      | with_reducible rfl
      | simp only [v_f, set_blank]
      | split
      | (intro))

theorem bump_blank (s : State) (f : RegField) (i : Nat) (n : Nat) (v_f : F.has f.unit) : (State.bump s f i n).blank F = s.blank
    F := by
  unfold State.bump
  repeat' (first
      | with_reducible rfl
      | simp only [v_f, set_blank]
      | split
      | (intro))

theorem bumpSat_blank (s : State) (f : RegField) (i : Nat) (n : Nat) (v_f : F.has f.unit) : (State.bumpSat s f i n).blank F =
    s.blank F := by
  unfold State.bumpSat
  repeat' (first
      | with_reducible rfl
      | simp only [v_f, set_blank]
      | split
      | (intro))

theorem setProbe_blank (s : State) (r : Nat) (t : Nat) (p : Probe) (h_probes : F.probes) : (State.setProbe s r t p).blank F =
    s.blank F := by
  unfold State.setProbe
  repeat' (first
      | with_reducible rfl
      | simp only [blank_mk, or_true, true_or, h_probes]
      | split
      | (intro))

theorem modProbe_blank (s : State) (r : Nat) (t : Nat) (f : Probe → Probe) (h_probes : F.probes) : (State.modProbe s r t
    f).blank F = s.blank F := by
  unfold State.modProbe
  repeat' (first
      | with_reducible rfl
      | simp only [h_probes, setProbe_blank]
      | split
      | (intro))

theorem setHub_blank (s : State) (r : Nat) (h : Hub) (h_hubs : F.hubs) : (State.setHub s r h).blank F = s.blank F := by
  unfold State.setHub
  repeat' (first
      | with_reducible rfl
      | simp only [blank_mk, or_true, true_or, h_hubs]
      | split
      | (intro))

theorem modHub_blank (s : State) (r : Nat) (f : Hub → Hub) (h_hubs : F.hubs) : (State.modHub s r f).blank F = s.blank F := by
  unfold State.modHub
  repeat' (first
      | with_reducible rfl
      | simp only [h_hubs, setHub_blank]
      | split
      | (intro))

theorem send_blank (s : State) (m : Msg) (h_flue : F.flue) : (State.send s m).blank F = s.blank F := by
  unfold State.send
  repeat' (first
      | with_reducible rfl
      | simp only [blank_mk, or_true, true_or, h_flue]
      | split
      | (intro))

theorem sendAll_blank (s : State) (l : List Msg) (h_flue : F.flue) : (State.sendAll s l).blank F = s.blank F := by
  unfold State.sendAll
  repeat' (first
      | with_reducible rfl
      | simp only [blank_mk, or_true, true_or, h_flue]
      | split
      | (intro))

theorem recv_blank (s : State) (m : Msg) (h_flue : F.flue) : (State.recv s m).blank F = s.blank F := by
  unfold State.recv
  repeat' (first
      | with_reducible rfl
      | simp only [blank_mk, or_true, true_or, h_flue]
      | split
      | (intro))

theorem emit_blank (s : State) (p : Pulse) (h_pulses : F.pulses) : (State.emit s p).blank F = s.blank F := by
  unfold State.emit
  repeat' (first
      | with_reducible rfl
      | simp only [blank_mk, or_true, true_or, h_pulses]
      | split
      | (intro))

theorem emitAll_blank (s : State) (l : List Pulse) (h_pulses : F.pulses) : (State.emitAll s l).blank F = s.blank F := by
  unfold State.emitAll
  repeat' (first
      | with_reducible rfl
      | simp only [blank_mk, or_true, true_or, h_pulses]
      | split
      | (intro))

theorem ibi_blank (s : State) (mdb : Nat) (h_pulses : F.pulses) : (State.ibi s mdb).blank F = s.blank F := by
  unfold State.ibi
  repeat' (first
      | with_reducible rfl
      | simp only [apply_ite (State.blank F), ite_self, h_pulses, emit_blank]
      | split
      | (intro))

theorem fresh_blank (s : State) (w : Nat) (h_freeCtr : F.freeCtr) : (State.fresh s w).2.blank F = s.blank F := by
  unfold State.fresh
  repeat' (first
      | with_reducible rfl
      | simp only [blank_mk, or_true, true_or, h_freeCtr]
      | split
      | (intro))

theorem probeFault_blank (s : State) (r : Nat) (t : Nat) (kind : Nat) (tenant : Nat) (addr : Nat) (h_probes : F.probes) :
    (State.probeFault s r t kind tenant addr).blank F = s.blank F := by
  unfold State.probeFault
  repeat' (first
      | with_reducible rfl
      | simp only [h_probes, modProbe_blank]
      | split
      | (intro))

theorem hubQueue_blank (s : State) (r : Nat) (m : FaultMsg) (h_hubs : F.hubs) (u_hubFlt : F.has .hubFlt) : (State.hubQueue s r
    m).blank F = s.blank F := by
  unfold State.hubQueue
  repeat' (first
      | with_reducible rfl
      | simp only [apply_ite (State.blank F), ite_self, h_hubs, u_hubFlt, setHub_blank, raise_blank, unit_RH_FLT_EVENT_QFULL]
      | split
      | (intro))

theorem hubFault_blank (s : State) (r : Nat) (src : Nat) (kind : Nat) (tenant : Nat) (addr : Nat) (h_hubs : F.hubs)
    (u_hubFlt : F.has .hubFlt) : (State.hubFault s r src kind tenant addr).blank F = s.blank F := by
  unfold State.hubFault
  repeat' (first
      | with_reducible rfl
      | simp only [h_hubs, u_hubFlt, hubQueue_blank]
      | split
      | (intro))

theorem kilnFault_blank (s : State) (unit : Nat) (inst : Nat) (kind : Nat) (tenant : Nat) (addr : Nat) (h_flt : F.flt) :
    (State.kilnFault s unit inst kind tenant addr).blank F = s.blank F := by
  unfold State.kilnFault
  repeat' (first
      | with_reducible rfl
      | simp only [blank_mk, or_true, true_or, h_flt]
      | split
      | (intro))

theorem flueProto_blank (s : State) (r : Nat) (t : Option Nat) (op : Nat) (h_probes : F.probes) (h_hubs : F.hubs)
    (h_flt : F.flt) (u_hubFlt : F.has .hubFlt) : (State.flueProto s r t op).blank F = s.blank F := by
  unfold State.flueProto
  repeat' (first
      | with_reducible rfl
      | simp only [apply_ite (State.blank F), ite_self, h_probes, h_hubs, h_flt, u_hubFlt, probeFault_blank, kilnFault_blank,
          hubFault_blank]
      | split
      | (intro))

theorem lostRecord_blank (s : State) (h_ldg : F.ldg) : (State.lostRecord s).blank F = s.blank F := by
  unfold State.lostRecord
  repeat' (first
      | with_reducible rfl
      | simp only [blank_mk, apply_ite (State.blank F), ite_self, or_true, true_or, h_ldg]
      | split
      | (intro))

theorem record_blank (s : State) (r : LedgerRec) (h_ldg : F.ldg) (u_ldg : F.has .ldg) : (State.record s r).blank F = s.blank F
    := by
  unfold State.record
  repeat' (first
      | with_reducible rfl
      | simp only [blank_mk, apply_ite (State.blank F), ite_self, or_true, true_or, h_ldg, u_ldg, bump_blank, lostRecord_blank,
          raise_blank, unit_LDG_EVENT_LOST, unit_LDG_LOSTCNT_COUNT]
      | split
      | (intro))

theorem recordOf_blank (s : State) (code : Nat) (src : Nat) (p0 : Nat) (p1 : Nat) (p2 : Nat) (h_ldg : F.ldg)
    (u_ldg : F.has .ldg) : (State.recordOf s code src p0 p1 p2).blank F = s.blank F := by
  unfold State.recordOf
  repeat' (first
      | with_reducible rfl
      | simp only [h_ldg, u_ldg, record_blank]
      | split
      | (intro))

theorem bankedRecord_blank (s : State) (code : Nat) (p0 : Nat) (p1 : Nat) (p2 : Nat) (h_ldg : F.ldg) (u_ldg : F.has .ldg) :
    (State.bankedRecord s code p0 p1 p2).blank F = s.blank F := by
  unfold State.bankedRecord
  repeat' (first
      | with_reducible rfl
      | simp only [h_ldg, u_ldg, record_blank]
      | split
      | (intro))

theorem ghpDone_blank (s : State) (ten : Nat) (tag : Nat) (addr : Nat) (wr : Bool) (sz64 : Bool) (st : GhpStatus) (data : Nat)
    (h_pulses : F.pulses) (u_ghp : F.has .ghp) : (State.ghpDone s ten tag addr wr sz64 st data).blank F = s.blank F := by
  unfold State.ghpDone
  simp only [h_pulses, emit_blank]
  split
  · rfl
  · rename_i e he
    have hu := event_unit he
    refine (setAll_blank _ _ _ ?_).trans (raise_blank _ _ _ (by rw [hu]; exact u_ghp))
    simp only [u_ghp, unit_GHP_ERRLOG_ADDR, unit_GHP_ERRLOG_GT, unit_GHP_ERRLOG_STATUS, unit_GHP_ERRLOG_SZ,
        unit_GHP_ERRLOG_TAG, unit_GHP_ERRLOG_TEN, unit_GHP_ERRLOG_WR, unit_GHP_ERRLOG_ADDR, unit_GHP_ERRLOG_GT,
        unit_GHP_ERRLOG_STATUS, unit_GHP_ERRLOG_SZ, unit_GHP_ERRLOG_TAG, unit_GHP_ERRLOG_TEN, unit_GHP_ERRLOG_WR, List.all_cons,
        List.all_nil, Bool.and_self]

theorem ghpAccept_blank (s : State) (tag : Nat) (go : State) (u_ghp : F.has .ghp) (h : go.blank F = s.blank F) : (s.ghpAccept
    tag go).blank F = s.blank F := by
  unfold State.ghpAccept
  split
  · rfl
  · split
    · exact raise_blank s _ _ (by rw [unit_GHP_EVENT_TAGDUP]; exact u_ghp)
    · exact h

theorem hostWriteIn_blank (s : State) (refusedOk : Bool) (ten : Nat) (tag : Nat) (addr : Nat) (owner : Option Nat)
    (declared : Bool) (act : State → State) (h_pulses : F.pulses) (u_ghp : F.has .ghp)
    (hact : ∀ x0, (act x0).blank F = x0.blank F) : (State.hostWriteIn s refusedOk ten tag addr owner declared act).blank F =
    s.blank F := by
  unfold State.hostWriteIn
  repeat' (first
      | with_reducible rfl
      | simp only [apply_ite (State.blank F), ite_self, h_pulses, u_ghp, hact, ghpDone_blank]
      | (with_reducible refine ghpAccept_blank _ _ _ (by first | assumption | exact u_all _) ?_)
      | split
      | (intro))

theorem hostWrite_blank (s : State) (ten : Nat) (tag : Nat) (addr : Nat) (owner : Option Nat) (declared : Bool)
    (act : State → State) (h_pulses : F.pulses) (u_ghp : F.has .ghp) (hact : ∀ x0, (act x0).blank F = x0.blank F) :
    (State.hostWrite s ten tag addr owner declared act).blank F = s.blank F := by
  unfold State.hostWrite
  repeat' (first
      | with_reducible rfl
      | simp only [implies_true, hact]
      | (with_reducible refine (hostWriteIn_blank _ _ _ _ _ _ _ _ (by first | assumption | exact u_all _) (by first | assumption | exact u_all _) ?_).trans ?_)
      | split
      | (intro))

theorem event_blank (s : State) (code : Nat) (h_pulses : F.pulses) : (State.event s code).blank F = s.blank F := by
  unfold State.event
  repeat' (first
      | with_reducible rfl
      | simp only [h_pulses, emitAll_blank]
      | split
      | (intro))

theorem modTr_blank (s : State) (r : Nat) (f : HubTr → HubTr) (h_hubs : F.hubs) : (State.modTr s r f).blank F = s.blank F := by
  unfold State.modTr
  repeat' (first
      | with_reducible rfl
      | simp only [h_hubs, modHub_blank]
      | split
      | (intro))

theorem traceDrop_blank (s : State) (r : Nat) (n : Nat) (h_hubs : F.hubs) (h_ldg : F.ldg) (u_ldg : F.has .ldg)
    (u_hubTr : F.has .hubTr) : (State.traceDrop s r n).blank F = s.blank F := by
  unfold State.traceDrop
  repeat' (first
      | with_reducible rfl
      | simp only [apply_ite (State.blank F), ite_self, h_hubs, h_ldg, u_ldg, u_hubTr, bump_blank, recordOf_blank, modTr_blank,
          raise_blank, unit_RH_TR_DROPS_COUNT, unit_RH_TR_EVENT_DROP]
      | split
      | (intro))

theorem traceStore_blank (s : State) (r : Nat) (w : Nat) (h_hubs : F.hubs) (h_ldg : F.ldg) (h_flue : F.flue)
    (h_pulses : F.pulses) (u_ldg : F.has .ldg) (u_hubTr : F.has .hubTr) : (State.traceStore s r w).blank F = s.blank F := by
  unfold State.traceStore
  repeat' (first
      | with_reducible rfl
      | simp only [apply_ite (State.blank F), ite_self, h_hubs, h_ldg, h_flue, h_pulses, u_ldg, u_hubTr, modTr_blank,
          raise_blank, traceDrop_blank, send_blank, event_blank, unit_RH_TR_EVENT_HALF]
      | split
      | (intro))

theorem traceMark_blank (s : State) (r : Nat) (h_hubs : F.hubs) (h_ldg : F.ldg) (h_flue : F.flue) (h_pulses : F.pulses)
    (u_ldg : F.has .ldg) (u_hubTr : F.has .hubTr) : (State.traceMark s r).blank F = s.blank F := by
  unfold State.traceMark
  repeat' (first
      | with_reducible rfl
      | simp only [apply_ite (State.blank F), ite_self, h_hubs, h_ldg, h_flue, h_pulses, u_ldg, u_hubTr, modTr_blank,
          traceStore_blank]
      | split
      | (intro))

theorem hubTrace_blank (s : State) (r : Nat) (cls : Nat) (tenant : Nat) (payload : Nat) (h_hubs : F.hubs) (h_ldg : F.ldg)
    (h_flue : F.flue) (h_pulses : F.pulses) (u_ldg : F.has .ldg) (u_hubTr : F.has .hubTr) : (State.hubTrace s r cls tenant
    payload).blank F = s.blank F := by
  unfold State.hubTrace
  repeat' (first
      | with_reducible rfl
      | simp only [apply_ite (State.blank F), ite_self, h_hubs, h_ldg, h_flue, h_pulses, u_ldg, u_hubTr, traceStore_blank]
      | split
      | (intro))

theorem kilnTrace_blank (s : State) (w : Nat) (h_dbg : F.dbg) : (State.kilnTrace s w).blank F = s.blank F := by
  unfold State.kilnTrace
  repeat' (first
      | with_reducible rfl
      | simp only [blank_mk, or_true, true_or, h_dbg]
      | split
      | (intro))

theorem traceFault_blank (s : State) (r : Nat) (m : FaultMsg) (h_hubs : F.hubs) (h_ldg : F.ldg) (h_flue : F.flue)
    (h_pulses : F.pulses) (u_ldg : F.has .ldg) (u_hubTr : F.has .hubTr) : (State.traceFault s r m).blank F = s.blank F := by
  unfold State.traceFault
  repeat' (first
      | with_reducible rfl
      | simp only [apply_ite (State.blank F), ite_self, h_hubs, h_ldg, h_flue, h_pulses, u_ldg, u_hubTr, hubTrace_blank]
      | split
      | (intro))

theorem traceFolio_blank (s : State) (r : Nat) (number : Nat) (state : Nat) (code : Nat) (late : Bool) (h_hubs : F.hubs)
    (h_ldg : F.ldg) (h_flue : F.flue) (h_pulses : F.pulses) (u_ldg : F.has .ldg) (u_hubTr : F.has .hubTr) : (State.traceFolio s
    r number state code late).blank F = s.blank F := by
  unfold State.traceFolio
  repeat' (first
      | with_reducible rfl
      | simp only [h_hubs, h_ldg, h_flue, h_pulses, u_ldg, u_hubTr, hubTrace_blank]
      | split
      | (intro))

theorem traceStop_blank (s : State) (r : Nat) (seen : Bool) (h_hubs : F.hubs) (h_ldg : F.ldg) (h_flue : F.flue)
    (h_pulses : F.pulses) (u_ldg : F.has .ldg) (u_hubTr : F.has .hubTr) : (State.traceStop s r seen).blank F = s.blank F := by
  unfold State.traceStop
  repeat' (first
      | with_reducible rfl
      | simp only [h_hubs, h_ldg, h_flue, h_pulses, u_ldg, u_hubTr, hubTrace_blank]
      | split
      | (intro))

theorem kilnStop_blank (s : State) (seen : Bool) (sources : Nat) (h_dbg : F.dbg) : (State.kilnStop s seen sources).blank F =
    s.blank F := by
  unfold State.kilnStop
  repeat' (first
      | with_reducible rfl
      | simp only [h_dbg, kilnTrace_blank]
      | split
      | (intro))

theorem traceHop_blank (s : State) (r : Nat) (port : Nat) (what : Nat) (h_hubs : F.hubs) (h_ldg : F.ldg) (h_flue : F.flue)
    (h_pulses : F.pulses) (u_ldg : F.has .ldg) (u_hubTr : F.has .hubTr) : (State.traceHop s r port what).blank F = s.blank F :=
    by
  unfold State.traceHop
  repeat' (first
      | with_reducible rfl
      | simp only [h_hubs, h_ldg, h_flue, h_pulses, u_ldg, u_hubTr, hubTrace_blank]
      | split
      | (intro))

theorem tracePair_blank (s : State) (c : Nat) (pid : Nat) (stamp : Nat) (theta : Int) (delta : Nat) (h_dbg : F.dbg) :
    (State.tracePair s c pid stamp theta delta).blank F = s.blank F := by
  unfold State.tracePair
  repeat' (first
      | with_reducible rfl
      | simp only [apply_ite (State.blank F), ite_self, h_dbg, kilnTrace_blank]
      | split
      | (intro))

theorem useKey_blank (s : State) (h : Nat) (h_vault : F.vault) : (State.useKey s h).blank F = s.blank F := by
  unfold State.useKey
  repeat' (first
      | with_reducible rfl
      | simp only [blank_mk, or_true, true_or, h_vault]
      | split
      | (intro))

theorem tagOf_blank (s : State) (label : String) (h : Nat) (m : List Nat) (h_vault : F.vault) (h_freeCtr : F.freeCtr) :
    (State.tagOf s label h m).2.blank F = s.blank F := by
  unfold State.tagOf
  repeat' (first
      | with_reducible rfl
      | simp only [h_vault, h_freeCtr, fresh_blank, useKey_blank]
      | split
      | (intro))

theorem draw_blank (s : State) (w : Nat) (h_vault : F.vault) (h_freeCtr : F.freeCtr) : (State.draw s w).2.blank F = s.blank F :=
    by
  unfold State.draw
  repeat' (first
      | with_reducible rfl
      | simp only [blank_mk, or_true, true_or, h_vault, h_freeCtr, fresh_blank]
      | split
      | (intro))

theorem vaultAsk_blank (s : State) (q : VaultReq) (h_vault : F.vault) : (State.vaultAsk s q).blank F = s.blank F := by
  unfold State.vaultAsk
  repeat' (first
      | with_reducible rfl
      | simp only [blank_mk, apply_ite (State.blank F), ite_self, or_true, true_or, h_vault]
      | split
      | (intro))

theorem drawPub_blank (s : State) (h_freeCtr : F.freeCtr) : (State.drawPub s).2.blank F = s.blank F := by
  unfold State.drawPub
  repeat' (first
      | with_reducible rfl
      | simp only [h_freeCtr, fresh_blank]
      | split
      | (intro))

theorem newPair_blank (s : State) (old : VaultKey) (h_freeCtr : F.freeCtr) : (State.newPair s old).2.blank F = s.blank F := by
  unfold State.newPair
  repeat' (first
      | with_reducible rfl
      | simp only [h_freeCtr, drawPub_blank]
      | split
      | (intro))

theorem certificate_blank (s : State) (kind : Nat) (tenant : Nat) (slice : Nat) (job : Nat) (devid : Nat) (genesis : Nat)
    (k : VaultKey) (h_freeCtr : F.freeCtr) : (State.certificate s kind tenant slice job devid genesis k).2.blank F = s.blank F
    := by
  unfold State.certificate
  repeat' (first
      | with_reducible rfl
      | simp only [h_freeCtr, fresh_blank]
      | split
      | (intro))

theorem writeImage_blank (s : State) (i : KeyImage) (h_vault : F.vault) : (State.writeImage s i).blank F = s.blank F := by
  unfold State.writeImage
  repeat' (first
      | with_reducible rfl
      | simp only [blank_mk, or_true, true_or, h_vault]
      | (with_reducible refine (foldl_blank _ _ _ ?_).trans ?_)
      | split
      | (intro))

theorem rekeyTally_blank (s : State) (h_vault : F.vault) (h_freeCtr : F.freeCtr) (u_vlt : F.has .vlt) : (State.rekeyTally
    s).blank F = s.blank F := by
  unfold State.rekeyTally
  repeat' (first
      | with_reducible rfl
      | simp only [blank_mk, or_true, true_or, h_vault, h_freeCtr, u_vlt, certificate_blank, raise_blank, newPair_blank,
          writeImage_blank, setAll_blank, List.all_cons, List.all_nil, Bool.and_self, unit_VLT_EVENT_TALLYKEY,
          unit_VLT_EVENT_TOKOK, unit_VLT_TOKST_APPROVED, unit_VLT_TOKST_BUSY, unit_VLT_TOKST_REASON, unit_VLT_TOKST_RESULT]
      | split
      | (intro))

theorem coloRefused_blank (s : State) (t : Nat) (h_colo : F.colo) (u_tenant : F.has .tenant) : (State.coloRefused s t).blank F =
    s.blank F := by
  unfold State.coloRefused
  repeat' (first
      | with_reducible rfl
      | simp only [blank_mk, apply_ite (State.blank F), ite_self, or_true, true_or, h_colo, u_tenant, setAll_blank,
          List.all_cons, List.all_nil, Bool.and_self, unit_TEN_COLO_REQ_REQ, unit_TEN_COLO_STATUS_BUSY,
          unit_TEN_COLO_STATUS_RESULT]
      | split
      | (intro))

theorem endRequests_blank (s : State) (h_tally : F.tally) (h_vault : F.vault) (h_colo : F.colo) (u_vlt : F.has .vlt)
    (u_tenant : F.has .tenant) : (State.endRequests s).blank F = s.blank F := by
  unfold State.endRequests
  repeat' (first
      | with_reducible rfl
      | simp only [implies_true, blank_mk, apply_ite (State.blank F), ite_self, or_true, true_or, h_tally, h_vault, h_colo,
          u_vlt, u_tenant, coloRefused_blank, setAll_blank, List.all_cons, List.all_nil, Bool.and_self, unit_VLT_TOKST_APPROVED,
          unit_VLT_TOKST_BUSY, unit_VLT_TOKST_RESULT]
      | (with_reducible refine (foldl_blank _ _ _ ?_).trans ?_)
      | split
      | (intro))

theorem enterError_blank (s : State) (code : Nat) (kind : Nat) (h_tally : F.tally) (h_vault : F.vault) (h_colo : F.colo)
    (u_vlt : F.has .vlt) (u_tenant : F.has .tenant) : (State.enterError s code kind).blank F = s.blank F := by
  unfold State.enterError
  repeat' (first
      | with_reducible rfl
      | simp only [blank_mk, apply_ite (State.blank F), ite_self, or_true, true_or, h_tally, h_vault, h_colo, u_vlt, u_tenant,
          endRequests_blank, setAll_blank, List.all_cons, List.all_nil, Bool.and_self, unit_VLT_CTRL_STNOW,
          unit_VLT_STATUS_ERRCODE, unit_VLT_STATUS_ERRKIND]
      | split
      | (intro))

theorem vaultCommandError_blank (s : State) (h_tally : F.tally) (h_vault : F.vault) (h_colo : F.colo) (u_vlt : F.has .vlt)
    (u_tenant : F.has .tenant) : (State.vaultCommandError s).blank F = s.blank F := by
  unfold State.vaultCommandError
  repeat' (first
      | with_reducible rfl
      | simp only [h_tally, h_vault, h_colo, u_vlt, u_tenant, enterError_blank]
      | split
      | (intro))

theorem toKilnQueue_blank (s : State) (r : Nat) (m : FaultMsg) (h_hubs : F.hubs) (h_flt : F.flt) : (State.toKilnQueue s r
    m).blank F = s.blank F := by
  unfold State.toKilnQueue
  repeat' (first
      | with_reducible rfl
      | simp only [blank_mk, apply_ite (State.blank F), ite_self, or_true, true_or, h_hubs, h_flt, modHub_blank]
      | split
      | (intro))

theorem hubPropose_blank (s : State) (r : Nat) (urgent : Bool) (acts : List Act) (h_hubs : F.hubs) (h_flue : F.flue) :
    (State.hubPropose s r urgent acts).blank F = s.blank F := by
  unfold State.hubPropose
  repeat' (first
      | with_reducible rfl
      | simp only [h_hubs, h_flue, setHub_blank, sendAll_blank]
      | split
      | (intro))

theorem hubVoteVoid_blank (s : State) (r : Nat) (number : Nat) (code : Nat) (h_hubs : F.hubs) (h_ldg : F.ldg) (h_flue : F.flue)
    (h_pulses : F.pulses) (u_ldg : F.has .ldg) (u_hubFl : F.has .hubFl) (u_hubTr : F.has .hubTr) : (State.hubVoteVoid s r number
    code).blank F = s.blank F := by
  unfold State.hubVoteVoid
  repeat' (first
      | with_reducible rfl
      | simp only [h_hubs, h_ldg, h_flue, h_pulses, u_ldg, u_hubFl, u_hubTr, setHub_blank, raise_blank, traceFolio_blank,
          send_blank, unit_RH_FL_EVENT_VOTEVOID]
      | split
      | (intro))

theorem voidSteps_blank (s : State) (r : Nat) (col : Nat) (h_hubs : F.hubs) (h_ldg : F.ldg) (h_flue : F.flue)
    (h_pulses : F.pulses) (u_ldg : F.has .ldg) (u_hubFl : F.has .hubFl) (u_hubTr : F.has .hubTr) : (State.voidSteps s r
    col).blank F = s.blank F := by
  unfold State.voidSteps
  repeat' (first
      | with_reducible rfl
      | simp only [implies_true, h_hubs, h_ldg, h_flue, h_pulses, u_ldg, u_hubFl, u_hubTr, hubVoteVoid_blank]
      | (with_reducible refine (foldl_blank _ _ _ ?_).trans ?_)
      | split
      | (intro))

theorem requestQuench_blank (s : State) (r : Nat) (t : Nat) (cause : Nat) (h_hubs : F.hubs) (h_ldg : F.ldg) (h_bru : F.bru)
    (h_flue : F.flue) (h_pulses : F.pulses) (u_ldg : F.has .ldg) (u_hubFl : F.has .hubFl) (u_hubTr : F.has .hubTr) :
    (State.requestQuench s r t cause).blank F = s.blank F := by
  unfold State.requestQuench
  repeat' (first
      | with_reducible rfl
      | simp only [blank_mk, apply_ite (State.blank F), ite_self, or_true, true_or, h_hubs, h_ldg, h_bru, h_flue, h_pulses,
          u_ldg, u_hubFl, u_hubTr, voidSteps_blank, hubPropose_blank]
      | split
      | (intro))

theorem hubRaiseL1_blank (s : State) (r : Nat) (m : FaultMsg) (key : Nat) (cause : Nat) (level : Nat) (h_hubs : F.hubs)
    (h_flt : F.flt) (h_ldg : F.ldg) (h_bru : F.bru) (h_flue : F.flue) (h_pulses : F.pulses) (u_ldg : F.has .ldg)
    (u_hubFl : F.has .hubFl) (u_hubFlt : F.has .hubFlt) (u_hubTr : F.has .hubTr) : (State.hubRaiseL1 s r m key cause
    level).blank F = s.blank F := by
  unfold State.hubRaiseL1
  repeat' (first
      | with_reducible rfl
      | simp only [blank_mk, apply_ite (State.blank F), ite_self, or_true, true_or, h_hubs, h_flt, h_ldg, h_bru, h_flue,
          h_pulses, u_ldg, u_hubFl, u_hubFlt, u_hubTr, toKilnQueue_blank, requestQuench_blank, raise_blank,
          unit_RH_FLT_EVENT_L1RAISED]
      | split
      | (intro))

theorem trayRequest_blank (s : State) (cause : Nat) (h_ldg : F.ldg) (h_pwr : F.pwr) (h_pulses : F.pulses) (u_ldg : F.has .ldg) :
    (State.trayRequest s cause).blank F = s.blank F := by
  unfold State.trayRequest
  repeat' (first
      | with_reducible rfl
      | simp only [blank_mk, apply_ite (State.blank F), ite_self, or_true, true_or, h_ldg, h_pwr, h_pulses, u_ldg,
          bankedRecord_blank, ibi_blank]
      | split
      | (intro))

theorem bruEnd_blank (s : State) (h_ldg : F.ldg) (h_pwr : F.pwr) (h_pulses : F.pulses) (u_bru : F.has .bru) (u_ldg : F.has .ldg)
    : (State.bruEnd s).blank F = s.blank F := by
  unfold State.bruEnd
  repeat' (first
      | with_reducible rfl
      | simp only [blank_mk, apply_ite (State.blank F), ite_self, or_true, true_or, h_ldg, h_pwr, h_pulses, u_bru, u_ldg,
          bankedRecord_blank, set_blank, ibi_blank, unit_BRU_TIME_US]
      | split
      | (intro))

theorem bruRefuse_blank (s : State) (code : Nat) (detail : Nat) (h_ldg : F.ldg) (h_bru : F.bru) (h_pwr : F.pwr)
    (h_pulses : F.pulses) (u_bru : F.has .bru) (u_ldg : F.has .ldg) : (State.bruRefuse s code detail).blank F = s.blank F := by
  unfold State.bruRefuse
  repeat' (first
      | with_reducible rfl
      | simp only [blank_mk, or_true, true_or, h_ldg, h_bru, h_pwr, h_pulses, u_bru, u_ldg, recordOf_blank, set_blank,
          raise_blank, bruEnd_blank, unit_BRU_DETAIL_DETAIL, unit_BRU_EVENT_REFUSED]
      | split
      | (intro))

theorem setReact_blank (s : State) (r : Reaction) (h_flt : F.flt) : (State.setReact s r).blank F = s.blank F := by
  unfold State.setReact
  repeat' (first
      | with_reducible rfl
      | simp only [blank_mk, or_true, true_or, h_flt]
      | split
      | (intro))

theorem writeLoose_blank (s : State) (a1 : List (Nat × Nat × Nat × Nat)) (h_flt : F.flt) (u_flt : F.has .flt) :
    (State.writeLoose s a1).blank F = s.blank F := by
  induction a1 generalizing s with
  | nil =>
    unfold State.writeLoose
    repeat' (first
        | with_reducible rfl
        | simp only [implies_true, blank_mk, apply_ite (State.blank F), ite_self, or_true, true_or, h_flt, u_flt, raise_blank,
            unit_FLT_EVENT_NFULL]
        | split
        | (intro))
  | cons x l ih =>
    unfold State.writeLoose
    repeat' (first
        | with_reducible rfl
        | simp only [implies_true, blank_mk, apply_ite (State.blank F), ite_self, or_true, true_or, h_flt, u_flt, ih,
            raise_blank, unit_FLT_EVENT_NFULL]
        | split
        | (intro))

theorem notify_blank (s : State) (n : Nat × Nat × Nat × Nat) (h_flt : F.flt) (u_flt : F.has .flt) : (State.notify s n).blank F =
    s.blank F := by
  unfold State.notify
  repeat' (first
      | with_reducible rfl
      | simp only [h_flt, u_flt, writeLoose_blank]
      | split
      | (intro))

theorem writeNotices_blank (s : State) (rid : Nat) (a2 : List (Nat × Nat × Nat × Nat)) (h_flt : F.flt) (u_flt : F.has .flt) :
    (State.writeNotices s rid a2).blank F = s.blank F := by
  induction a2 generalizing s rid with
  | nil =>
    unfold State.writeNotices
    repeat' (first
        | with_reducible rfl
        | simp only [implies_true, blank_mk, apply_ite (State.blank F), ite_self, or_true, true_or, h_flt, u_flt, raise_blank,
            setReact_blank, unit_FLT_EVENT_NFULL]
        | split
        | (intro))
  | cons x l ih =>
    unfold State.writeNotices
    repeat' (first
        | with_reducible rfl
        | simp only [implies_true, blank_mk, apply_ite (State.blank F), ite_self, or_true, true_or, h_flt, u_flt, ih,
            raise_blank, setReact_blank, unit_FLT_EVENT_NFULL]
        | split
        | (intro))

theorem endHandling_blank (s : State) (rid : Nat) (h_flt : F.flt) (u_flt : F.has .flt) : (State.endHandling s rid).blank F =
    s.blank F := by
  unfold State.endHandling
  repeat' (first
      | with_reducible rfl
      | simp only [apply_ite (State.blank F), ite_self, h_flt, u_flt, writeNotices_blank, setReact_blank]
      | split
      | (intro))

theorem flushNotices_blank (s : State) (h_flt : F.flt) (u_flt : F.has .flt) : (State.flushNotices s).blank F = s.blank F := by
  unfold State.flushNotices
  repeat' (first
      | with_reducible rfl
      | simp only [apply_ite (State.blank F), ite_self, h_flt, u_flt, writeNotices_blank, writeLoose_blank, setReact_blank]
      | (with_reducible refine (foldl_blank _ _ _ ?_).trans ?_)
      | split
      | (intro))

theorem contain_blank (s : State) (src : Nat) (kind : Nat) (region : Nat) (h_flue : F.flue) : (State.contain s src kind
    region).blank F = s.blank F := by
  unfold State.contain
  repeat' (first
      | with_reducible rfl
      | simp only [apply_ite (State.blank F), ite_self, h_flue, send_blank]
      | split
      | (intro))

theorem startL1_blank (s : State) (r : Reaction) (h_flt : F.flt) (h_flue : F.flue) (h_pulses : F.pulses) (u_flt : F.has .flt) :
    (State.startL1 s r).blank F = s.blank F := by
  unfold State.startL1
  repeat' (first
      | with_reducible rfl
      | simp only [apply_ite (State.blank F), ite_self, h_flt, h_flue, h_pulses, u_flt, contain_blank, raise_blank,
          setReact_blank, endHandling_blank, event_blank, unit_FLT_EVENT_L1]
      | split
      | (intro))

theorem setPhase_blank (s : State) (p : Phase) (h_flt : F.flt) (h_flue : F.flue) (u_flt : F.has .flt) : (State.setPhase s
    p).blank F = s.blank F := by
  unfold State.setPhase
  repeat' (first
      | with_reducible rfl
      | simp only [blank_mk, or_true, true_or, h_flt, h_flue, u_flt, set_blank, send_blank, unit_FLT_PHASE_PHASE]
      | split
      | (intro))

theorem startL2_blank (s : State) (r : Reaction) (h_flt : F.flt) (h_flue : F.flue) (h_pulses : F.pulses) (u_flt : F.has .flt) :
    (State.startL2 s r).blank F = s.blank F := by
  unfold State.startL2
  repeat' (first
      | with_reducible rfl
      | simp only [apply_ite (State.blank F), ite_self, h_flt, h_flue, h_pulses, u_flt, raise_blank, setPhase_blank,
          setReact_blank, event_blank, unit_FLT_EVENT_L2]
      | split
      | (intro))

theorem fenceAll_blank (s : State) (fence : Bool) (h_flue : F.flue) : (State.fenceAll s fence).blank F = s.blank F := by
  unfold State.fenceAll
  repeat' (first
      | with_reducible rfl
      | simp only [h_flue, sendAll_blank]
      | split
      | (intro))

theorem startQueued_blank (s : State) (h_flt : F.flt) (h_flue : F.flue) (h_pulses : F.pulses) (u_flt : F.has .flt) :
    (State.startQueued s).1.blank F = s.blank F := by
  unfold State.startQueued
  repeat' (first
      | with_reducible rfl
      | simp only [implies_true, blank_mk, apply_ite (State.blank F), ite_self, or_true, true_or, h_flt, h_flue, h_pulses,
          u_flt, startL2_blank, startL1_blank]
      | (with_reducible refine (foldl_blank _ _ _ ?_).trans ?_)
      | (with_reducible refine (foldl_blank_fst _ _ _ ?_).trans ?_)
      | (with_reducible refine (foldl_blank_snd _ _ _ ?_).trans ?_)
      | (with_reducible refine (foldl_blank_trd _ _ _ ?_).trans ?_)
      | split
      | (rename_i hq; replace hq := congrArg (fun p => State.blank F p.1) hq; simp only [implies_true, blank_mk, apply_ite (State.blank F), ite_self, or_true, true_or, h_flt, h_flue, h_pulses, u_flt,
          startL2_blank, startL1_blank] at hq; exact hq.symm)
      | (rename_i hq; replace hq := congrArg (fun p => State.blank F p.2) hq; simp only [implies_true, blank_mk, apply_ite (State.blank F), ite_self, or_true, true_or, h_flt, h_flue, h_pulses, u_flt,
          startL2_blank, startL1_blank] at hq; exact hq.symm)
      | (rename_i hq; replace hq := congrArg (fun p => State.blank F p.2.2) hq; simp only [implies_true, blank_mk, apply_ite (State.blank F), ite_self, or_true, true_or, h_flt, h_flue, h_pulses, u_flt,
          startL2_blank, startL1_blank] at hq; exact hq.symm)
      | (intro))

theorem reactLearn_blank (s : State) (region : Nat) (col : Nat) (row : Nat) (number : Nat) (h_flt : F.flt) : (State.reactLearn s
    region col row number).blank F = s.blank F := by
  unfold State.reactLearn
  repeat' (first
      | with_reducible rfl
      | simp only [blank_mk, apply_ite (State.blank F), ite_self, or_true, true_or, h_flt, setReact_blank]
      | split
      | (intro))

theorem mapReacts_blank (s : State) (f : Reaction → Reaction) (h_flt : F.flt) : (State.mapReacts s f).blank F = s.blank F := by
  unfold State.mapReacts
  repeat' (first
      | with_reducible rfl
      | simp only [blank_mk, or_true, true_or, h_flt]
      | split
      | (intro))

theorem endComplete_blank (s : State) (h_flt : F.flt) (u_flt : F.has .flt) : (State.endComplete s).blank F = s.blank F := by
  unfold State.endComplete
  repeat' (first
      | with_reducible rfl
      | simp only [implies_true, h_flt, u_flt, endHandling_blank]
      | (with_reducible refine (foldl_blank _ _ _ ?_).trans ?_)
      | split
      | (intro))

theorem reactVoid_blank (s : State) (number : Nat) (h_flt : F.flt) (u_flt : F.has .flt) : (State.reactVoid s number).blank F =
    s.blank F := by
  unfold State.reactVoid
  repeat' (first
      | with_reducible rfl
      | simp only [h_flt, u_flt, mapReacts_blank, endComplete_blank]
      | split
      | (intro))

theorem reactApplied_blank (s : State) (number : Nat) (h_flt : F.flt) (u_flt : F.has .flt) : (State.reactApplied s number).blank
    F = s.blank F := by
  unfold State.reactApplied
  repeat' (first
      | with_reducible rfl
      | simp only [h_flt, u_flt, mapReacts_blank, endComplete_blank]
      | split
      | (intro))

theorem reactSealed_blank (s : State) (number : Nat) (cols : List (Nat × Nat)) (h_flt : F.flt) : (State.reactSealed s number
    cols).blank F = s.blank F := by
  unfold State.reactSealed
  repeat' (first
      | with_reducible rfl
      | simp only [h_flt, mapReacts_blank]
      | split
      | (intro))

theorem reactReport_blank (s : State) (region : Nat) (col : Nat) (isPartial : Bool) (h_flt : F.flt) (u_flt : F.has .flt) :
    (State.reactReport s region col isPartial).blank F = s.blank F := by
  unfold State.reactReport
  repeat' (first
      | with_reducible rfl
      | simp only [h_flt, u_flt, mapReacts_blank, endComplete_blank]
      | split
      | (intro))

theorem syncSense_blank (s : State) (h_tally : F.tally) : (State.syncSense s).blank F = s.blank F := by
  unfold State.syncSense
  repeat' (first
      | with_reducible rfl
      | simp only [blank_mk, or_true, true_or, h_tally]
      | (with_reducible refine (foldl_blank _ _ _ ?_).trans ?_)
      | split
      | (intro))

theorem modEn_blank (s : State) (r : Nat) (f : HubEn → HubEn) (h_hubs : F.hubs) : (State.modEn s r f).blank F = s.blank F := by
  unfold State.modEn
  repeat' (first
      | with_reducible rfl
      | simp only [h_hubs, modHub_blank]
      | split
      | (intro))

theorem leakAt_blank (s : State) (r : Nat) (t : Int) (h_freeCtr : F.freeCtr) : (State.leakAt s r t).2.blank F = s.blank F := by
  unfold State.leakAt
  repeat' (first
      | with_reducible rfl
      | simp only [h_freeCtr, fresh_blank]
      | split
      | (intro))

theorem tryModel_blank (s : State) (r : Nat) (gt : Nat) (h_hubs : F.hubs) (h_flue : F.flue) (h_freeCtr : F.freeCtr) :
    (State.tryModel s r gt).blank F = s.blank F := by
  unfold State.tryModel
  repeat' (first
      | with_reducible rfl
      | simp only [apply_ite (State.blank F), ite_self, h_hubs, h_flue, h_freeCtr, leakAt_blank, modEn_blank, send_blank]
      | (with_reducible refine (foldl_blank _ _ _ ?_).trans ?_)
      | split
      | (intro))

theorem closeInterval_blank (s : State) (r : Nat) (gt : Nat) (sweep : Option (Nat × Option Nat)) (h_hubs : F.hubs) :
    (State.closeInterval s r gt sweep).blank F = s.blank F := by
  unfold State.closeInterval
  repeat' (first
      | with_reducible rfl
      | simp only [h_hubs, modEn_blank]
      | split
      | (intro))

theorem sweepHub_blank (s : State) (r : Nat) (a : Act) (t : Nat) (h_hubs : F.hubs) (h_flue : F.flue) : (State.sweepHub s r a
    t).blank F = s.blank F := by
  unfold State.sweepHub
  repeat' (first
      | with_reducible rfl
      | simp only [h_hubs, h_flue, closeInterval_blank, sendAll_blank]
      | split
      | (intro))

theorem sweepAggregator_blank (s : State) (a : Act) (t : Nat) (h_tally : F.tally) : (State.sweepAggregator s a t).blank F =
    s.blank F := by
  unfold State.sweepAggregator
  repeat' (first
      | with_reducible rfl
      | simp only [blank_mk, or_true, true_or, h_tally]
      | split
      | (intro))

theorem noteSweep_blank (s : State) (tenant : Option Nat) (purpose : Nat) (h_tally : F.tally) : (State.noteSweep s tenant
    purpose).blank F = s.blank F := by
  unfold State.noteSweep
  repeat' (first
      | with_reducible rfl
      | simp only [blank_mk, or_true, true_or, h_tally]
      | split
      | (intro))

theorem sweepGivenUp_blank (s : State) (w : SweepWant) (h_tally : F.tally) (h_colo : F.colo) (h_freeCtr : F.freeCtr)
    (u_tenant : F.has .tenant) : (State.sweepGivenUp s w).blank F = s.blank F := by
  unfold State.sweepGivenUp
  repeat' (first
      | with_reducible rfl
      | simp only [blank_mk, apply_ite (State.blank F), ite_self, or_true, true_or, h_tally, h_colo, h_freeCtr, u_tenant,
          fresh_blank, setAll_blank, List.all_cons, List.all_nil, Bool.and_self, unit_TEN_COLO_REQ_REQ,
          unit_TEN_COLO_STATUS_BUSY, unit_TEN_COLO_STATUS_RESULT, unit_TEN_TLY_STATUS_BUSY, unit_TEN_TLY_STATUS_RESULT]
      | split
      | (intro))

theorem sweepAgain_blank (s : State) (w : SweepWant) (h_tally : F.tally) (h_colo : F.colo) (h_freeCtr : F.freeCtr)
    (u_tenant : F.has .tenant) : (State.sweepAgain s w).blank F = s.blank F := by
  unfold State.sweepAgain
  repeat' (first
      | with_reducible rfl
      | simp only [blank_mk, apply_ite (State.blank F), ite_self, or_true, true_or, h_tally, h_colo, h_freeCtr, u_tenant,
          sweepGivenUp_blank]
      | split
      | (intro))

theorem sweepVoided_blank (s : State) (acts : List Act) (h_tally : F.tally) (h_colo : F.colo) (h_freeCtr : F.freeCtr)
    (u_tenant : F.has .tenant) : (State.sweepVoided s acts).blank F = s.blank F := by
  unfold State.sweepVoided
  repeat' (first
      | with_reducible rfl
      | simp only [blank_mk, or_true, true_or, h_tally, h_colo, h_freeCtr, u_tenant, sweepAgain_blank]
      | split
      | (intro))

theorem showSweep_blank (s : State) (w : Sweep) (code : Nat) (u_tly : F.has .tly) : (State.showSweep s w code).blank F = s.blank
    F := by
  unfold State.showSweep
  repeat' (first
      | with_reducible rfl
      | simp only [u_tly, setAll_blank, List.all_cons, List.all_nil, Bool.and_self, unit_TLY_LAST_CAUSE, unit_TLY_LAST_COMPLETE,
          unit_TLY_LAST_SINGLE, unit_TLY_LAST_SWEEP, unit_TLY_LAST_T, unit_TLY_LAST_TENANT]
      | split
      | (intro))

theorem discardSweep_blank (s : State) (code : Nat) (h_tally : F.tally) (h_colo : F.colo) (h_flue : F.flue)
    (h_freeCtr : F.freeCtr) (u_tly : F.has .tly) (u_tenant : F.has .tenant) : (State.discardSweep s code).blank F = s.blank F :=
    by
  unfold State.discardSweep
  repeat' (first
      | with_reducible rfl
      | simp only [blank_mk, or_true, true_or, h_tally, h_colo, h_flue, h_freeCtr, u_tly, u_tenant, showSweep_blank,
          sweepAgain_blank, raise_blank, send_blank, unit_TLY_EVENT_DISCARD]
      | split
      | (intro))

theorem setGap_blank (s : State) (l : List Nat) (h_tally : F.tally) (u_tly : F.has .tly) : (State.setGap s l).blank F = s.blank
    F := by
  unfold State.setGap
  repeat' (first
      | with_reducible rfl
      | simp only [blank_mk, or_true, true_or, h_tally, u_tly, raise_blank, unit_TLY_EVENT_GAP]
      | (with_reducible refine (foldl_blank _ _ _ ?_).trans ?_)
      | split
      | (intro))

theorem setPort_blank (s : State) (c : Nat) (p : Port) (h_link : F.link) : (State.setPort s c p).blank F = s.blank F := by
  unfold State.setPort
  repeat' (first
      | with_reducible rfl
      | simp only [blank_mk, or_true, true_or, h_link]
      | split
      | (intro))

theorem modPort_blank (s : State) (c : Nat) (f : Port → Port) (h_link : F.link) : (State.modPort s c f).blank F = s.blank F :=
    by
  unfold State.modPort
  repeat' (first
      | with_reducible rfl
      | simp only [h_link, setPort_blank]
      | split
      | (intro))

theorem accept_blank (s : State) (c : Nat) (w : LinkWait) (h_link : F.link) (h_pulses : F.pulses) (u_clp : F.has .clp) :
    (State.accept s c w).blank F = s.blank F := by
  unfold State.accept
  repeat' (first
      | with_reducible rfl
      | simp only [h_link, h_pulses, u_clp, modPort_blank, bump_blank, emit_blank, unit_CCD_TXCNT_COUNT]
      | split
      | (intro))

theorem present_blank (s : State) (c : Nat) (w : LinkWait) (h_link : F.link) (h_pulses : F.pulses) (u_clp : F.has .clp) :
    (State.present s c w).blank F = s.blank F := by
  unfold State.present
  repeat' (first
      | with_reducible rfl
      | simp only [apply_ite (State.blank F), ite_self, h_link, h_pulses, u_clp, setPort_blank, accept_blank]
      | split
      | (intro))

theorem presentFree_blank (s : State) (c : Nat) (body : LinkBody) (h_link : F.link) (h_pulses : F.pulses) (u_clp : F.has .clp) :
    (State.presentFree s c body).blank F = s.blank F := by
  unfold State.presentFree
  repeat' (first
      | with_reducible rfl
      | simp only [h_link, h_pulses, u_clp, present_blank]
      | split
      | (intro))

theorem mapBindings_blank (s : State) (c : Nat) (f : Binding → Binding) (h_link : F.link) : (State.mapBindings s c f).blank F =
    s.blank F := by
  unfold State.mapBindings
  repeat' (first
      | with_reducible rfl
      | simp only [h_link, modPort_blank]
      | split
      | (intro))

theorem transmit_blank (s : State) (c : Nat) (body : LinkBody) (answer : Bool) (h_link : F.link) (h_pulses : F.pulses)
    (u_clp : F.has .clp) : (State.transmit s c body answer).blank F = s.blank F := by
  unfold State.transmit
  repeat' (first
      | with_reducible rfl
      | simp only [h_link, h_pulses, u_clp, setPort_blank, present_blank, mapBindings_blank]
      | split
      | (intro))

theorem pump_blank (s : State) (c : Nat) (a2 : Nat) (h_link : F.link) (h_pulses : F.pulses) (u_clp : F.has .clp) : (State.pump s
    c a2).blank F = s.blank F := by
  induction a2 generalizing s c with
  | zero =>
    unfold State.pump
    repeat' (first
        | with_reducible rfl
        | simp only [implies_true, blank_mk, apply_ite (State.blank F), ite_self, or_true, true_or, h_link, h_pulses, u_clp,
            transmit_blank]
        | split
        | (intro))
  | succ n ih =>
    unfold State.pump
    repeat' (first
        | with_reducible rfl
        | simp only [implies_true, blank_mk, apply_ite (State.blank F), ite_self, or_true, true_or, h_link, h_pulses, u_clp, ih,
            transmit_blank]
        | split
        | (intro))

theorem linkQueue_blank (s : State) (c : Nat) (body : LinkBody) (h_link : F.link) (h_pulses : F.pulses) (u_clp : F.has .clp) :
    (State.linkQueue s c body).blank F = s.blank F := by
  unfold State.linkQueue
  repeat' (first
      | with_reducible rfl
      | simp only [apply_ite (State.blank F), ite_self, h_link, h_pulses, u_clp, setPort_blank, pump_blank]
      | split
      | (intro))

theorem queueSeals_blank (s : State) (tenant : Nat) (epoch : Nat) (digest : Nat) (h_link : F.link) (h_pulses : F.pulses)
    (u_clp : F.has .clp) : (State.queueSeals s tenant epoch digest).blank F = s.blank F := by
  unfold State.queueSeals
  repeat' (first
      | with_reducible rfl
      | simp only [implies_true, apply_ite (State.blank F), ite_self, h_link, h_pulses, u_clp, modPort_blank, pump_blank,
          mapBindings_blank]
      | (with_reducible refine (foldl_blank _ _ _ ?_).trans ?_)
      | split
      | (intro))

theorem queueRecalls_blank (s : State) (tenant : Nat) (first : Nat) (last : Nat) (origin : Nat) (rid : Nat) (cause : Nat)
    (from_ : Option (Nat × Binding)) (h_link : F.link) (h_pulses : F.pulses) (u_clp : F.has .clp) : (State.queueRecalls s tenant
    first last origin rid cause from_).blank F = s.blank F := by
  unfold State.queueRecalls
  repeat' (first
      | with_reducible rfl
      | simp only [apply_ite (State.blank F), ite_self, h_link, h_pulses, u_clp, linkQueue_blank]
      | (with_reducible refine (foldl_blank _ _ _ ?_).trans ?_)
      | split
      | (intro))

theorem unqueueSeals_blank (s : State) (tenant : Nat) (above : Nat) (h_link : F.link) : (State.unqueueSeals s tenant
    above).blank F = s.blank F := by
  unfold State.unqueueSeals
  repeat' (first
      | with_reducible rfl
      | simp only [implies_true, h_link, modPort_blank]
      | (with_reducible refine (foldl_blank _ _ _ ?_).trans ?_)
      | split
      | (intro))

theorem takeRid_blank (s : State) (h_link : F.link) : (State.takeRid s).2.blank F = s.blank F := by
  unfold State.takeRid
  repeat' (first
      | with_reducible rfl
      | simp only [blank_mk, or_true, true_or, h_link]
      | split
      | (intro))

theorem addBinding_blank (s : State) (c : Nat) (b : Binding) (h_link : F.link) (h_pulses : F.pulses) (u_clp : F.has .clp) :
    (State.addBinding s c b).blank F = s.blank F := by
  unfold State.addBinding
  repeat' (first
      | with_reducible rfl
      | simp only [apply_ite (State.blank F), ite_self, h_link, h_pulses, u_clp, setPort_blank, linkQueue_blank]
      | split
      | (intro))

theorem dropBinding_blank (s : State) (c : Nat) (b : Binding) (h_link : F.link) (h_pulses : F.pulses) (u_clp : F.has .clp) :
    (State.dropBinding s c b).blank F = s.blank F := by
  unfold State.dropBinding
  repeat' (first
      | with_reducible rfl
      | simp only [apply_ite (State.blank F), ite_self, h_link, h_pulses, u_clp, modPort_blank, linkQueue_blank]
      | split
      | (intro))

theorem syncBindings_blank (s : State) (h_link : F.link) (h_pulses : F.pulses) (u_clp : F.has .clp) : (State.syncBindings
    s).blank F = s.blank F := by
  unfold State.syncBindings
  repeat' (first
      | with_reducible rfl
      | simp only [implies_true, h_link, h_pulses, u_clp, addBinding_blank]
      | (with_reducible refine (foldl_blank _ _ _ ?_).trans ?_)
      | split
      | (intro))

theorem linkPrepare_blank (s : State) (f : FolioRec) (h_link : F.link) (h_pulses : F.pulses) (u_clp : F.has .clp) :
    (State.linkPrepare s f).blank F = s.blank F := by
  unfold State.linkPrepare
  repeat' (first
      | with_reducible rfl
      | simp only [implies_true, h_link, h_pulses, u_clp, modPort_blank, linkQueue_blank]
      | (with_reducible refine (foldl_blank _ _ _ ?_).trans ?_)
      | split
      | (intro))

theorem linkSeal_blank (s : State) (f : FolioRec) (h_link : F.link) (h_pulses : F.pulses) (u_clp : F.has .clp) : (State.linkSeal
    s f).blank F = s.blank F := by
  unfold State.linkSeal
  repeat' (first
      | with_reducible rfl
      | simp only [implies_true, h_link, h_pulses, u_clp, linkQueue_blank]
      | (with_reducible refine (foldl_blank _ _ _ ?_).trans ?_)
      | split
      | (intro))

theorem linkVoid_blank (s : State) (f : FolioRec) (h_link : F.link) (h_pulses : F.pulses) (u_clp : F.has .clp) : (State.linkVoid
    s f).blank F = s.blank F := by
  unfold State.linkVoid
  repeat' (first
      | with_reducible rfl
      | simp only [implies_true, apply_ite (State.blank F), h_link, h_pulses, u_clp, linkQueue_blank]
      | (with_reducible refine (foldl_blank _ _ _ ?_).trans ?_)
      | split
      | (intro))

theorem linkVoteYes_blank (s : State) (f : FolioRec) (h_fl : F.fl) (h_link : F.link) (h_pulses : F.pulses) (u_clp : F.has .clp)
    : (State.linkVoteYes s f).blank F = s.blank F := by
  unfold State.linkVoteYes
  repeat' (first
      | with_reducible rfl
      | simp only [blank_mk, apply_ite (State.blank F), ite_self, or_true, true_or, h_fl, h_link, h_pulses, u_clp,
          linkQueue_blank]
      | split
      | (intro))

theorem linkDone_blank (s : State) (f : FolioRec) (applied : Bool) (h_link : F.link) (h_freeCtr : F.freeCtr)
    (u_ccd : F.has .ccd) : (State.linkDone s f applied).blank F = s.blank F := by
  unfold State.linkDone
  repeat' (first
      | with_reducible rfl
      | simp only [blank_mk, apply_ite (State.blank F), ite_self, or_true, true_or, h_link, h_freeCtr, u_ccd, fresh_blank,
          setAll_blank, List.all_cons, List.all_nil, Bool.and_self, unit_CCD_XREQST_BUSY, unit_CCD_XREQST_RESULT]
      | split
      | (intro))

theorem linkApply_blank (s : State) (number : Nat) (a : Act) (h_cfg : F.cfg) (h_link : F.link) (h_pulses : F.pulses)
    (u_clp : F.has .clp) : (State.linkApply s number a).blank F = s.blank F := by
  unfold State.linkApply
  repeat' (first
      | with_reducible rfl
      | simp only [blank_mk, apply_ite (State.blank F), ite_self, or_true, true_or, h_cfg, h_link, h_pulses, u_clp,
          modPort_blank, dropBinding_blank, addBinding_blank]
      | split
      | (intro))

theorem flushWait_blank (s : State) (c : Nat) (h_link : F.link) (h_pulses : F.pulses) (u_clp : F.has .clp) : (State.flushWait s
    c).blank F = s.blank F := by
  unfold State.flushWait
  repeat' (first
      | with_reducible rfl
      | simp only [implies_true, apply_ite (State.blank F), h_link, h_pulses, u_clp, setPort_blank, accept_blank]
      | (with_reducible refine (foldl_blank _ _ _ ?_).trans ?_)
      | split
      | (intro))

theorem mapPorts_blank (s : State) (f : Port → Port) (h_link : F.link) : (State.mapPorts s f).blank F = s.blank F := by
  unfold State.mapPorts
  repeat' (first
      | with_reducible rfl
      | simp only [blank_mk, or_true, true_or, h_link]
      | split
      | (intro))

theorem reactRefused_blank (s : State) (region : Nat) (col : Nat) (row : Nat) (h_flt : F.flt) (u_flt : F.has .flt) :
    (State.reactRefused s region col row).blank F = s.blank F := by
  unfold State.reactRefused
  repeat' (first
      | with_reducible rfl
      | simp only [h_flt, u_flt, mapReacts_blank, endComplete_blank]
      | split
      | (intro))

theorem rollBackLost_blank (s : State) (region : Option Nat) (h_flt : F.flt) (u_flt : F.has .flt) : (State.rollBackLost s
    region).blank F = s.blank F := by
  unfold State.rollBackLost
  repeat' (first
      | with_reducible rfl
      | simp only [implies_true, blank_mk, or_true, true_or, h_flt, u_flt, notify_blank]
      | (with_reducible refine (foldl_blank _ _ _ ?_).trans ?_)
      | split
      | (intro))

end Sys2Proof.Machine
end

