-- ==== Sys2Proof/Laws/FrameShared.lean ====
section
/-! SUPPORT. For each operation of the operations that several units share, and each command: which parts of the state it may change (every other part is
kept). -/

namespace Sys2Proof.Machine

open Sys2Proof

variable {F : Fields}

theorem logCase_blank (s : State) (result : Nat) (guilty : Nat) (u_rcv : F.has .rcv) : (State.logCase s result guilty).blank F =
    s.blank F := by
  unfold State.logCase
  repeat' (first
      | with_reducible rfl
      | simp only [u_rcv, setAll_blank, List.all_cons, List.all_nil, Bool.and_self, unit_RCV_LAST_CASE, unit_RCV_LAST_FSEQ,
          unit_RCV_LAST_GTDONE, unit_RCV_LAST_GTOPEN, unit_RCV_LAST_GUILTY, unit_RCV_LAST_NSUS, unit_RCV_LAST_RESULT,
          unit_RCV_LAST_RUNG]
      | split
      | (intro))

theorem caseEndsSealed_blank (s : State) (h_flt : F.flt) (h_rcv : F.rcv) (u_flt : F.has .flt) (u_rcv : F.has .rcv) :
    (State.caseEndsSealed s).blank F = s.blank F := by
  unfold State.caseEndsSealed
  repeat' (first
      | with_reducible rfl
      | simp only [implies_true, blank_mk, apply_ite (State.blank F), or_true, true_or, h_flt, h_rcv, u_flt, u_rcv,
          logCase_blank, endHandling_blank]
      | (with_reducible refine (foldl_blank _ _ _ ?_).trans ?_)
      | split
      | (intro))

theorem sealState_blank (s : State) (r : Reaction) (h_flt : F.flt) (h_rcv : F.rcv) (h_ldg : F.ldg) (h_tally : F.tally)
    (h_vault : F.vault) (h_colo : F.colo) (h_pwr : F.pwr) (h_flue : F.flue) (h_pulses : F.pulses) (u_flt : F.has .flt)
    (u_rcv : F.has .rcv) (u_vlt : F.has .vlt) (u_ldg : F.has .ldg) (u_tenant : F.has .tenant) : (State.sealState s r).blank F =
    s.blank F := by
  unfold State.sealState
  repeat' (first
      | with_reducible rfl
      | simp only [blank_mk, or_true, true_or, h_flt, h_rcv, h_ldg, h_tally, h_vault, h_colo, h_pwr, h_flue, h_pulses, u_flt,
          u_rcv, u_vlt, u_ldg, u_tenant, writeNotices_blank, caseEndsSealed_blank, fenceAll_blank, ibi_blank, raise_blank,
          vaultCommandError_blank, setReact_blank, event_blank, unit_LDG_CTRL_FLUSH]
      | split
      | (intro))

theorem setEp_blank (s : State) (t : Nat) (e : TenantEp) (h_colo : F.colo) : (State.setEp s t e).blank F = s.blank F := by
  unfold State.setEp
  repeat' (first
      | with_reducible rfl
      | simp only [blank_mk, or_true, true_or, h_colo]
      | split
      | (intro))

theorem modEp_blank (s : State) (t : Nat) (f : TenantEp → TenantEp) (h_colo : F.colo) : (State.modEp s t f).blank F = s.blank F
    := by
  unfold State.modEp
  repeat' (first
      | with_reducible rfl
      | simp only [h_colo, setEp_blank]
      | split
      | (intro))

theorem sysPush_blank (s : State) (ch : Nat) (l : List SysJob) (h_sys : F.sys) : (State.sysPush s ch l).blank F = s.blank F :=
    by
  unfold State.sysPush
  repeat' (first
      | with_reducible rfl
      | simp only [blank_mk, or_true, true_or, h_sys]
      | split
      | (intro))

theorem writeRec_blank (s : State) (t : Nat) (r : RingRec) (h_colo : F.colo) (h_sys : F.sys) : (State.writeRec s t r).blank F =
    s.blank F := by
  unfold State.writeRec
  repeat' (first
      | with_reducible rfl
      | simp only [h_colo, h_sys, sysPush_blank, modEp_blank]
      | split
      | (intro))

theorem flushRecs_blank (s : State) (t : Nat) (a2 : List RingRec) (h_colo : F.colo) (h_sys : F.sys) : (State.flushRecs s t
    a2).blank F = s.blank F := by
  induction a2 generalizing s t with
  | nil =>
    unfold State.flushRecs
    repeat' (first
        | with_reducible rfl
        | simp only [implies_true, blank_mk, apply_ite (State.blank F), ite_self, or_true, true_or, h_colo, h_sys,
            writeRec_blank, modEp_blank]
        | split
        | (intro))
  | cons x l ih =>
    unfold State.flushRecs
    repeat' (first
        | with_reducible rfl
        | simp only [implies_true, blank_mk, apply_ite (State.blank F), ite_self, or_true, true_or, h_colo, h_sys, ih,
            writeRec_blank, modEp_blank]
        | split
        | (intro))

theorem putRec_blank (s : State) (t : Nat) (r : RingRec) (h_colo : F.colo) (h_sys : F.sys) : (State.putRec s t r).blank F =
    s.blank F := by
  unfold State.putRec
  repeat' (first
      | with_reducible rfl
      | simp only [h_colo, h_sys, flushRecs_blank]
      | split
      | (intro))

theorem makeRec_blank (s : State) (t : Nat) (type : Nat) (flags : Nat) (nlayer : Nat) (e1 : Nat) (e2 : Nat) (gtOpen : Nat)
    (body : Nat) (n : Nat) (chain : Nat) (cover : Coverage) (h_vault : F.vault) (h_freeCtr : F.freeCtr) : (State.makeRec s t
    type flags nlayer e1 e2 gtOpen body n chain cover).2.blank F = s.blank F := by
  unfold State.makeRec
  repeat' (first
      | with_reducible rfl
      | simp only [h_vault, h_freeCtr, tagOf_blank]
      | split
      | (intro))

theorem genesis_blank (s : State) (t : Nat) (first : Nat) (h_vault : F.vault) (h_colo : F.colo) (h_sys : F.sys)
    (h_freeCtr : F.freeCtr) (u_tenant : F.has .tenant) : (State.genesis s t first).blank F = s.blank F := by
  unfold State.genesis
  repeat' (first
      | with_reducible rfl
      | simp only [blank_mk, or_true, true_or, h_vault, h_colo, h_sys, h_freeCtr, u_tenant, vaultAsk_blank, putRec_blank,
          makeRec_blank, setAll_blank, List.all_cons, List.all_nil, Bool.and_self, modEp_blank, unit_TEN_EP_CHAIN_HEAD,
          unit_TEN_EP_STATUS_OPEN]
      | split
      | (intro))

theorem ensureSeed_blank (s : State) (t : Nat) (h_seeds : F.seeds) (h_vault : F.vault) (h_freeCtr : F.freeCtr) :
    (State.ensureSeed s t).blank F = s.blank F := by
  unfold State.ensureSeed
  repeat' (first
      | with_reducible rfl
      | simp only [blank_mk, apply_ite (State.blank F), or_true, true_or, h_seeds, h_vault, h_freeCtr, draw_blank]
      | split
      | (intro))

theorem activate_blank (s : State) (t : Nat) (h_seeds : F.seeds) (h_tally : F.tally) (h_vault : F.vault) (h_colo : F.colo)
    (h_sys : F.sys) (h_freeCtr : F.freeCtr) (u_tenant : F.has .tenant) : (State.activate s t).blank F = s.blank F := by
  unfold State.activate
  repeat' (first
      | with_reducible rfl
      | simp only [apply_ite (State.blank F), ite_self, h_seeds, h_tally, h_vault, h_colo, h_sys, h_freeCtr, u_tenant,
          genesis_blank, ensureSeed_blank, noteSweep_blank]
      | split
      | (intro))

theorem settingChanged_blank (s : State) (t : Nat) (h_vault : F.vault) (h_colo : F.colo) (h_sys : F.sys) (h_freeCtr : F.freeCtr)
    (u_tenant : F.has .tenant) : (State.settingChanged s t).blank F = s.blank F := by
  unfold State.settingChanged
  repeat' (first
      | with_reducible rfl
      | simp only [apply_ite (State.blank F), ite_self, h_vault, h_colo, h_sys, h_freeCtr, u_tenant, putRec_blank, set_blank,
          makeRec_blank, modEp_blank, unit_TEN_EP_CHAIN_HEAD]
      | split
      | (intro))

theorem closeUnsealed_blank (s : State) (t : Nat) (epoch : Nat) (h_vault : F.vault) (h_colo : F.colo) (h_sys : F.sys)
    (h_freeCtr : F.freeCtr) (u_tenant : F.has .tenant) : (State.closeUnsealed s t epoch).blank F = s.blank F := by
  unfold State.closeUnsealed
  repeat' (first
      | with_reducible rfl
      | simp only [h_vault, h_colo, h_sys, h_freeCtr, u_tenant, putRec_blank, set_blank, makeRec_blank, modEp_blank,
          unit_TEN_EP_STATUS_OPEN]
      | split
      | (intro))

theorem startCut_blank (s : State) (t : Nat) (h_colo : F.colo) (h_flue : F.flue) (u_tenant : F.has .tenant) : (State.startCut s
    t).blank F = s.blank F := by
  unfold State.startCut
  repeat' (first
      | with_reducible rfl
      | simp only [blank_mk, or_true, true_or, h_colo, h_flue, u_tenant, set_blank, modEp_blank, send_blank,
          unit_TEN_EP_STATUS_CUT]
      | split
      | (intro))

theorem openClose_blank (s : State) (t : Nat) (c : EpClose) (h_colo : F.colo) (h_flue : F.flue) (u_tenant : F.has .tenant) :
    (State.openClose s t c).blank F = s.blank F := by
  unfold State.openClose
  repeat' (first
      | with_reducible rfl
      | simp only [blank_mk, apply_ite (State.blank F), ite_self, or_true, true_or, h_colo, h_flue, u_tenant, startCut_blank,
          setAll_blank, List.all_cons, List.all_nil, Bool.and_self, modEp_blank, unit_TEN_EP_STATUS_BUSY,
          unit_TEN_EP_STATUS_CUT, unit_TEN_EP_STATUS_RESULT]
      | split
      | (intro))

theorem endClose_blank (s : State) (t : Nat) (result : Nat) (h_colo : F.colo) (h_flue : F.flue) (u_tenant : F.has .tenant) :
    (State.endClose s t result).blank F = s.blank F := by
  unfold State.endClose
  repeat' (first
      | with_reducible rfl
      | simp only [blank_mk, or_true, true_or, h_colo, h_flue, u_tenant, startCut_blank, setAll_blank, List.all_cons,
          List.all_nil, Bool.and_self, modEp_blank, unit_TEN_EP_STATUS_BUSY, unit_TEN_EP_STATUS_RESULT]
      | split
      | (intro))

theorem epochDiscard_blank (s : State) (t : Nat) (h_vault : F.vault) (h_colo : F.colo) (h_sys : F.sys) (h_flue : F.flue)
    (h_freeCtr : F.freeCtr) (u_tenant : F.has .tenant) : (State.epochDiscard s t).blank F = s.blank F := by
  unfold State.epochDiscard
  repeat' (first
      | with_reducible rfl
      | simp only [blank_mk, apply_ite (State.blank F), ite_self, or_true, true_or, h_vault, h_colo, h_sys, h_flue, h_freeCtr,
          u_tenant, closeUnsealed_blank, endClose_blank, openClose_blank]
      | split
      | (intro))

theorem epochReset_blank (s : State) (t : Nat) (h_seeds : F.seeds) (h_vault : F.vault) (h_colo : F.colo) (h_sys : F.sys)
    (h_flue : F.flue) (h_freeCtr : F.freeCtr) (u_tenant : F.has .tenant) : (State.epochReset s t).blank F = s.blank F := by
  unfold State.epochReset
  repeat' (first
      | with_reducible rfl
      | simp only [blank_mk, apply_ite (State.blank F), ite_self, or_true, true_or, h_seeds, h_vault, h_colo, h_sys, h_flue,
          h_freeCtr, u_tenant, closeUnsealed_blank, coloRefused_blank, endClose_blank, modEp_blank]
      | split
      | (intro))

theorem recordRecall_blank (s : State) (t : Nat) (run : Nat × Nat) (h_vault : F.vault) (h_colo : F.colo) (h_sys : F.sys)
    (h_freeCtr : F.freeCtr) : (State.recordRecall s t run).blank F = s.blank F := by
  unfold State.recordRecall
  repeat' (first
      | with_reducible rfl
      | simp only [h_vault, h_colo, h_sys, h_freeCtr, vaultAsk_blank, putRec_blank, makeRec_blank, modEp_blank]
      | split
      | (intro))

theorem performRecall_blank (s : State) (t : Nat) (l : List Nat) (origin : Nat) (rid : Nat) (cause : Nat)
    (from_ : Option (Nat × Binding)) (h_vault : F.vault) (h_link : F.link) (h_colo : F.colo) (h_sys : F.sys)
    (h_pulses : F.pulses) (h_freeCtr : F.freeCtr) (u_clp : F.has .clp) : (State.performRecall s t l origin rid cause
    from_).blank F = s.blank F := by
  unfold State.performRecall
  repeat' (first
      | with_reducible rfl
      | simp only [implies_true, h_vault, h_link, h_colo, h_sys, h_pulses, h_freeCtr, u_clp, queueRecalls_blank,
          recordRecall_blank]
      | (with_reducible refine (foldl_blank _ _ _ ?_).trans ?_)
      | split
      | (intro))

theorem recallEpochs_blank (s : State) (t : Nat) (l : List Nat) (origin : Nat) (rid : Nat) (cause : Nat)
    (from_ : Option (Nat × Binding)) (h_vault : F.vault) (h_link : F.link) (h_colo : F.colo) (h_sys : F.sys)
    (h_pulses : F.pulses) (h_freeCtr : F.freeCtr) (u_clp : F.has .clp) : (State.recallEpochs s t l origin rid cause
    from_).1.blank F = s.blank F := by
  unfold State.recallEpochs
  repeat' (first
      | with_reducible rfl
      | simp only [h_vault, h_link, h_colo, h_sys, h_pulses, h_freeCtr, u_clp, performRecall_blank, modEp_blank]
      | split
      | (intro))

theorem setFolio_blank (s : State) (f : FolioRec) (h_fl : F.fl) : (State.setFolio s f).blank F = s.blank F := by
  unfold State.setFolio
  repeat' (first
      | with_reducible rfl
      | simp only [blank_mk, or_true, true_or, h_fl]
      | split
      | (intro))

theorem enqueue_blank (s : State) (p : Proposal) (from_ : Option (Nat × Nat)) (h_fl : F.fl) : (State.enqueue s p from_).2.blank
    F = s.blank F := by
  unfold State.enqueue
  repeat' (first
      | with_reducible rfl
      | simp only [blank_mk, or_true, true_or, h_fl]
      | split
      | (intro))

theorem voidOrigin_blank (s : State) (f : FolioRec) (reason : Nat) (h_hubs : F.hubs) (h_flt : F.flt) (h_tally : F.tally)
    (h_link : F.link) (h_colo : F.colo) (h_bru : F.bru) (h_freeCtr : F.freeCtr) (u_bru : F.has .bru) (u_flt : F.has .flt)
    (u_ccd : F.has .ccd) (u_cat : F.has .cat) (u_tenant : F.has .tenant) : (State.voidOrigin s f reason).blank F = s.blank F :=
    by
  unfold State.voidOrigin
  repeat' (first
      | with_reducible rfl
      | simp only [blank_mk, or_true, true_or, h_hubs, h_flt, h_tally, h_link, h_colo, h_bru, h_freeCtr, u_bru, u_flt, u_ccd,
          u_cat, u_tenant, linkDone_blank, reactVoid_blank, sweepVoided_blank, setAll_blank, List.all_cons, List.all_nil,
          Bool.and_self, unit_CAT_REQST_BUSY, unit_CAT_REQST_RESULT, unit_CHR_AMST_BUSY, unit_CHR_AMST_RESULT]
      | split
      | (intro))

theorem toParts_blank (s : State) (f : FolioRec) (who : List Nat) (m : Nat → List Msg) (h_flue : F.flue) : (State.toParts s f
    who m).blank F = s.blank F := by
  unfold State.toParts
  repeat' (first
      | with_reducible rfl
      | simp only [h_flue, sendAll_blank]
      | split
      | (intro))

theorem voidFolio_blank (s : State) (n : Nat) (reason : Nat) (voidsrc : Nat) (h_hubs : F.hubs) (h_flt : F.flt) (h_fl : F.fl)
    (h_tally : F.tally) (h_link : F.link) (h_colo : F.colo) (h_bru : F.bru) (h_flue : F.flue) (h_pulses : F.pulses)
    (h_freeCtr : F.freeCtr) (u_bru : F.has .bru) (u_flt : F.has .flt) (u_ccd : F.has .ccd) (u_folio : F.has .folio)
    (u_cat : F.has .cat) (u_clp : F.has .clp) (u_tenant : F.has .tenant) : (State.voidFolio s n reason voidsrc).blank F =
    s.blank F := by
  unfold State.voidFolio
  repeat' (first
      | with_reducible rfl
      | simp only [apply_ite (State.blank F), ite_self, h_hubs, h_flt, h_fl, h_tally, h_link, h_colo, h_bru, h_flue, h_pulses,
          h_freeCtr, u_bru, u_flt, u_ccd, u_folio, u_cat, u_clp, u_tenant, bump_blank, linkVoid_blank, toParts_blank,
          raise_blank, voidOrigin_blank, sendAll_blank, setFolio_blank, event_blank, unit_FOLIO_EVENT_VOID,
          unit_FOLIO_EVENT_XVOID, unit_FOLIO_VOIDED_COUNT]
      | split
      | (intro))

theorem voidAll_blank (s : State) (reason : Nat) (l : List Nat) (h_hubs : F.hubs) (h_flt : F.flt) (h_fl : F.fl)
    (h_tally : F.tally) (h_link : F.link) (h_colo : F.colo) (h_bru : F.bru) (h_flue : F.flue) (h_pulses : F.pulses)
    (h_freeCtr : F.freeCtr) (u_bru : F.has .bru) (u_flt : F.has .flt) (u_ccd : F.has .ccd) (u_folio : F.has .folio)
    (u_cat : F.has .cat) (u_clp : F.has .clp) (u_tenant : F.has .tenant) : (State.voidAll s reason l).blank F = s.blank F := by
  unfold State.voidAll
  repeat' (first
      | with_reducible rfl
      | simp only [implies_true, h_hubs, h_flt, h_fl, h_tally, h_link, h_colo, h_bru, h_flue, h_pulses, h_freeCtr, u_bru, u_flt,
          u_ccd, u_folio, u_cat, u_clp, u_tenant, voidFolio_blank]
      | (with_reducible refine (foldl_blank _ _ _ ?_).trans ?_)
      | split
      | (intro))

theorem urgentVoids_blank (s : State) (n : Nat) (h_hubs : F.hubs) (h_flt : F.flt) (h_fl : F.fl) (h_tally : F.tally)
    (h_link : F.link) (h_colo : F.colo) (h_bru : F.bru) (h_flue : F.flue) (h_pulses : F.pulses) (h_freeCtr : F.freeCtr)
    (u_bru : F.has .bru) (u_flt : F.has .flt) (u_ccd : F.has .ccd) (u_folio : F.has .folio) (u_cat : F.has .cat)
    (u_clp : F.has .clp) (u_tenant : F.has .tenant) : (State.urgentVoids s n).blank F = s.blank F := by
  unfold State.urgentVoids
  repeat' (first
      | with_reducible rfl
      | simp only [apply_ite (State.blank F), ite_self, h_hubs, h_flt, h_fl, h_tally, h_link, h_colo, h_bru, h_flue, h_pulses,
          h_freeCtr, u_bru, u_flt, u_ccd, u_folio, u_cat, u_clp, u_tenant, voidAll_blank]
      | split
      | (intro))

theorem kilnPropose_blank (s : State) (p : Proposal) (h_hubs : F.hubs) (h_flt : F.flt) (h_fl : F.fl) (h_tally : F.tally)
    (h_link : F.link) (h_colo : F.colo) (h_bru : F.bru) (h_flue : F.flue) (h_pulses : F.pulses) (h_freeCtr : F.freeCtr)
    (u_bru : F.has .bru) (u_flt : F.has .flt) (u_ccd : F.has .ccd) (u_folio : F.has .folio) (u_cat : F.has .cat)
    (u_clp : F.has .clp) (u_tenant : F.has .tenant) : (State.kilnPropose s p).2.blank F = s.blank F := by
  unfold State.kilnPropose
  repeat' (first
      | with_reducible rfl
      | simp only [blank_mk, or_true, true_or, h_hubs, h_flt, h_fl, h_tally, h_link, h_colo, h_bru, h_flue, h_pulses, h_freeCtr,
          u_bru, u_flt, u_ccd, u_folio, u_cat, u_clp, u_tenant, enqueue_blank, urgentVoids_blank]
      | split
      | (intro))

theorem admitWaiting_blank (s : State) (h_hubs : F.hubs) (h_flt : F.flt) (h_fl : F.fl) (h_tally : F.tally) (h_link : F.link)
    (h_colo : F.colo) (h_bru : F.bru) (h_flue : F.flue) (h_pulses : F.pulses) (h_freeCtr : F.freeCtr) (u_bru : F.has .bru)
    (u_flt : F.has .flt) (u_ccd : F.has .ccd) (u_folio : F.has .folio) (u_cat : F.has .cat) (u_clp : F.has .clp)
    (u_tenant : F.has .tenant) : (State.admitWaiting s).blank F = s.blank F := by
  unfold State.admitWaiting
  repeat' (first
      | with_reducible rfl
      | simp only [implies_true, blank_mk, apply_ite (State.blank F), ite_self, or_true, true_or, h_hubs, h_flt, h_fl, h_tally,
          h_link, h_colo, h_bru, h_flue, h_pulses, h_freeCtr, u_bru, u_flt, u_ccd, u_folio, u_cat, u_clp, u_tenant,
          enqueue_blank, urgentVoids_blank, set_blank, unit_CAT_REQFOLIO_FOLIO, unit_CCD_XREQNUM_NUMBER,
          unit_FOLIO_TREQNUM_NUMBER]
      | (with_reducible refine (foldl_blank _ _ _ ?_).trans ?_)
      | split
      | (intro))

theorem proposeReset_blank (s : State) (t : Nat) (h_hubs : F.hubs) (h_flt : F.flt) (h_fl : F.fl) (h_tally : F.tally)
    (h_link : F.link) (h_colo : F.colo) (h_bru : F.bru) (h_flue : F.flue) (h_pulses : F.pulses) (h_freeCtr : F.freeCtr)
    (u_bru : F.has .bru) (u_flt : F.has .flt) (u_ccd : F.has .ccd) (u_tly : F.has .tly) (u_folio : F.has .folio)
    (u_cat : F.has .cat) (u_clp : F.has .clp) (u_tenant : F.has .tenant) : (State.proposeReset s t).blank F = s.blank F := by
  unfold State.proposeReset
  repeat' (first
      | with_reducible rfl
      | simp only [blank_mk, or_true, true_or, h_hubs, h_flt, h_fl, h_tally, h_link, h_colo, h_bru, h_flue, h_pulses, h_freeCtr,
          u_bru, u_flt, u_ccd, u_tly, u_folio, u_cat, u_clp, u_tenant, kilnPropose_blank, set_blank, unit_FOLIO_TREQNUM_NUMBER,
          unit_TLY_SWNUM_NEXT]
      | split
      | (intro))

theorem treqEnd_blank (s : State) (t : Nat) (result : Nat) (h_fl : F.fl) (u_folio : F.has .folio) : (State.treqEnd s t
    result).blank F = s.blank F := by
  unfold State.treqEnd
  repeat' (first
      | with_reducible rfl
      | simp only [blank_mk, apply_ite (State.blank F), ite_self, or_true, true_or, h_fl, u_folio, setAll_blank, List.all_cons,
          List.all_nil, Bool.and_self, unit_FOLIO_TREQST_BUSY, unit_FOLIO_TREQST_RESULT]
      | split
      | (intro))

theorem appliedOrigin_blank (s : State) (f : FolioRec) (h_flt : F.flt) (h_fl : F.fl) (h_link : F.link) (h_freeCtr : F.freeCtr)
    (u_flt : F.has .flt) (u_ccd : F.has .ccd) (u_folio : F.has .folio) (u_cat : F.has .cat) : (State.appliedOrigin s f).blank F
    = s.blank F := by
  unfold State.appliedOrigin
  repeat' (first
      | with_reducible rfl
      | simp only [blank_mk, or_true, true_or, h_flt, h_fl, h_link, h_freeCtr, u_flt, u_ccd, u_folio, u_cat, treqEnd_blank,
          reactApplied_blank, raise_blank, linkDone_blank, setAll_blank, List.all_cons, List.all_nil, Bool.and_self,
          unit_CAT_REQST_BUSY, unit_CAT_REQST_RESULT, unit_FOLIO_EVENT_TRESET]
      | split
      | (intro))

theorem tryApplied_blank (s : State) (n : Nat) (h_hubs : F.hubs) (h_flt : F.flt) (h_fl : F.fl) (h_tally : F.tally)
    (h_link : F.link) (h_colo : F.colo) (h_bru : F.bru) (h_flue : F.flue) (h_pulses : F.pulses) (h_freeCtr : F.freeCtr)
    (u_bru : F.has .bru) (u_flt : F.has .flt) (u_ccd : F.has .ccd) (u_folio : F.has .folio) (u_cat : F.has .cat)
    (u_clp : F.has .clp) (u_tenant : F.has .tenant) : (State.tryApplied s n).blank F = s.blank F := by
  unfold State.tryApplied
  repeat' (first
      | with_reducible rfl
      | simp only [apply_ite (State.blank F), ite_self, h_hubs, h_flt, h_fl, h_tally, h_link, h_colo, h_bru, h_flue, h_pulses,
          h_freeCtr, u_bru, u_flt, u_ccd, u_folio, u_cat, u_clp, u_tenant, appliedOrigin_blank, admitWaiting_blank,
          setFolio_blank]
      | split
      | (intro))

theorem kickSweeps_blank (s : State) (h_hubs : F.hubs) (h_flt : F.flt) (h_fl : F.fl) (h_tally : F.tally) (h_link : F.link)
    (h_colo : F.colo) (h_bru : F.bru) (h_flue : F.flue) (h_pulses : F.pulses) (h_freeCtr : F.freeCtr) (u_bru : F.has .bru)
    (u_flt : F.has .flt) (u_ccd : F.has .ccd) (u_tly : F.has .tly) (u_folio : F.has .folio) (u_cat : F.has .cat)
    (u_clp : F.has .clp) (u_tenant : F.has .tenant) : (State.kickSweeps s).blank F = s.blank F := by
  unfold State.kickSweeps
  repeat' (first
      | with_reducible rfl
      | simp only [implies_true, blank_mk, apply_ite (State.blank F), or_true, true_or, h_hubs, h_flt, h_fl, h_tally, h_link,
          h_colo, h_bru, h_flue, h_pulses, h_freeCtr, u_bru, u_flt, u_ccd, u_tly, u_folio, u_cat, u_clp, u_tenant,
          kilnPropose_blank, set_blank, unit_TLY_SWNUM_NEXT]
      | (with_reducible refine (foldl_blank _ _ _ ?_).trans ?_)
      | split
      | (intro))

theorem wantSweep_blank (s : State) (t : Nat) (h_hubs : F.hubs) (h_flt : F.flt) (h_fl : F.fl) (h_tally : F.tally)
    (h_link : F.link) (h_colo : F.colo) (h_bru : F.bru) (h_flue : F.flue) (h_pulses : F.pulses) (h_freeCtr : F.freeCtr)
    (u_bru : F.has .bru) (u_flt : F.has .flt) (u_ccd : F.has .ccd) (u_tly : F.has .tly) (u_folio : F.has .folio)
    (u_cat : F.has .cat) (u_clp : F.has .clp) (u_tenant : F.has .tenant) : (State.wantSweep s t).blank F = s.blank F := by
  unfold State.wantSweep
  repeat' (first
      | with_reducible rfl
      | simp only [h_hubs, h_flt, h_fl, h_tally, h_link, h_colo, h_bru, h_flue, h_pulses, h_freeCtr, u_bru, u_flt, u_ccd, u_tly,
          u_folio, u_cat, u_clp, u_tenant, noteSweep_blank, kickSweeps_blank]
      | split
      | (intro))

theorem ringWrite_blank (s : State) (n : Nat) (data : Nat) (seq : Nat) (h_tally : F.tally) (h_sys : F.sys) : (State.ringWrite s
    n data seq).blank F = s.blank F := by
  unfold State.ringWrite
  repeat' (first
      | with_reducible rfl
      | simp only [blank_mk, or_true, true_or, h_tally, h_sys]
      | split
      | (intro))

theorem signNext_blank (s : State) (h_tally : F.tally) (h_vault : F.vault) (u_tly : F.has .tly) : (State.signNext s).blank F =
    s.blank F := by
  unfold State.signNext
  repeat' (first
      | with_reducible rfl
      | simp only [blank_mk, apply_ite (State.blank F), ite_self, or_true, true_or, h_tally, h_vault, u_tly, vaultAsk_blank,
          set_blank, unit_TLY_STATUS_NOSIGN]
      | split
      | (intro))

theorem closeBatch_blank (s : State) (h_tally : F.tally) (h_vault : F.vault) (u_tly : F.has .tly) : (State.closeBatch s).blank F
    = s.blank F := by
  unfold State.closeBatch
  repeat' (first
      | with_reducible rfl
      | simp only [blank_mk, or_true, true_or, h_tally, h_vault, u_tly, set_blank, signNext_blank, unit_TLY_BATCHNUM_BATCH]
      | split
      | (intro))

theorem joinBatch_blank (s : State) (st : Statement) (h_tally : F.tally) (h_vault : F.vault) (u_tly : F.has .tly) :
    (State.joinBatch s st).blank F = s.blank F := by
  unfold State.joinBatch
  repeat' (first
      | with_reducible rfl
      | simp only [blank_mk, apply_ite (State.blank F), ite_self, or_true, true_or, h_tally, h_vault, u_tly, closeBatch_blank]
      | split
      | (intro))

theorem pumpRoots_blank (s : State) (a1 : List Nat) (h_tally : F.tally) (h_sys : F.sys) (u_tly : F.has .tly) : (State.pumpRoots
    s a1).blank F = s.blank F := by
  induction a1 generalizing s with
  | nil =>
    unfold State.pumpRoots
    repeat' (first
        | with_reducible rfl
        | simp only [implies_true, blank_mk, apply_ite (State.blank F), ite_self, or_true, true_or, h_tally, h_sys, u_tly,
            ringWrite_blank, raise_blank, unit_TLY_EVENT_RINGWAIT]
        | split
        | (intro))
  | cons x l ih =>
    unfold State.pumpRoots
    repeat' (first
        | with_reducible rfl
        | simp only [implies_true, blank_mk, apply_ite (State.blank F), ite_self, or_true, true_or, h_tally, h_sys, u_tly, ih,
            ringWrite_blank, raise_blank, unit_TLY_EVENT_RINGWAIT]
        | split
        | (intro))

theorem pumpStatements_blank (s : State) (a1 : List Statement) (h_tally : F.tally) (h_vault : F.vault) (h_sys : F.sys)
    (u_tly : F.has .tly) : (State.pumpStatements s a1).blank F = s.blank F := by
  induction a1 generalizing s with
  | nil =>
    unfold State.pumpStatements
    repeat' (first
        | with_reducible rfl
        | simp only [implies_true, blank_mk, apply_ite (State.blank F), ite_self, or_true, true_or, h_tally, h_vault, h_sys,
            u_tly, ringWrite_blank, joinBatch_blank, raise_blank, unit_TLY_EVENT_RINGWAIT]
        | split
        | (intro))
  | cons x l ih =>
    unfold State.pumpStatements
    repeat' (first
        | with_reducible rfl
        | simp only [implies_true, blank_mk, apply_ite (State.blank F), ite_self, or_true, true_or, h_tally, h_vault, h_sys,
            u_tly, ih, ringWrite_blank, joinBatch_blank, raise_blank, unit_TLY_EVENT_RINGWAIT]
        | split
        | (intro))

theorem pumpRing_blank (s : State) (h_tally : F.tally) (h_vault : F.vault) (h_sys : F.sys) (u_tly : F.has .tly) :
    (State.pumpRing s).blank F = s.blank F := by
  unfold State.pumpRing
  repeat' (first
      | with_reducible rfl
      | simp only [apply_ite (State.blank F), ite_self, h_tally, h_vault, h_sys, u_tly, pumpStatements_blank, pumpRoots_blank]
      | split
      | (intro))

theorem rekeyIfDue_blank (s : State) (h_vault : F.vault) (h_freeCtr : F.freeCtr) (u_vlt : F.has .vlt) : (State.rekeyIfDue
    s).blank F = s.blank F := by
  unfold State.rekeyIfDue
  repeat' (first
      | with_reducible rfl
      | simp only [apply_ite (State.blank F), ite_self, h_vault, h_freeCtr, u_vlt, rekeyTally_blank]
      | split
      | (intro))

theorem rootSigned_blank (s : State) (h_tally : F.tally) (h_vault : F.vault) (h_sys : F.sys) (h_freeCtr : F.freeCtr)
    (u_vlt : F.has .vlt) (u_tly : F.has .tly) : (State.rootSigned s).blank F = s.blank F := by
  unfold State.rootSigned
  repeat' (first
      | with_reducible rfl
      | simp only [blank_mk, or_true, true_or, h_tally, h_vault, h_sys, h_freeCtr, u_vlt, u_tly, rekeyIfDue_blank, fresh_blank,
          pumpRing_blank, signNext_blank, useKey_blank]
      | split
      | (intro))

theorem buildStatement_blank (s : State) (b : Bank) (t : Nat) (reqid : Nat) (final : Bool) (auto_ : Bool) (h_tally : F.tally)
    (u_tly : F.has .tly) : (State.buildStatement s b t reqid final auto_).2.blank F = s.blank F := by
  unfold State.buildStatement
  repeat' (first
      | with_reducible rfl
      | simp only [blank_mk, or_true, true_or, h_tally, u_tly, raise_blank, unit_TLY_EVENT_QFULL]
      | split
      | (intro))

theorem writeBank_blank (s : State) (w : Sweep) (h_tally : F.tally) (u_tly : F.has .tly) : (State.writeBank s w).blank F =
    s.blank F := by
  unfold State.writeBank
  repeat' (first
      | with_reducible rfl
      | simp only [implies_true, blank_mk, apply_ite (State.blank F), ite_self, or_true, true_or, h_tally, u_tly,
          buildStatement_blank]
      | (with_reducible refine (foldl_blank _ _ _ ?_).trans ?_)
      | (with_reducible refine (foldl_blank_fst _ _ _ ?_).trans ?_)
      | (with_reducible refine (foldl_blank_snd _ _ _ ?_).trans ?_)
      | (with_reducible refine (foldl_blank_trd _ _ _ ?_).trans ?_)
      | split
      | (rename_i hq; replace hq := congrArg (fun p => State.blank F p.1) hq; simp only [implies_true, blank_mk, apply_ite (State.blank F), ite_self, or_true, true_or, h_tally, u_tly, buildStatement_blank] at hq; exact hq.symm)
      | (rename_i hq; replace hq := congrArg (fun p => State.blank F p.2) hq; simp only [implies_true, blank_mk, apply_ite (State.blank F), ite_self, or_true, true_or, h_tally, u_tly, buildStatement_blank] at hq; exact hq.symm)
      | (rename_i hq; replace hq := congrArg (fun p => State.blank F p.2.2) hq; simp only [implies_true, blank_mk, apply_ite (State.blank F), ite_self, or_true, true_or, h_tally, u_tly, buildStatement_blank] at hq; exact hq.symm)
      | (intro))

theorem issueStatement_blank (s : State) (x : Statement) (h_tally : F.tally) (u_tenant : F.has .tenant) : (State.issueStatement
    s x).blank F = s.blank F := by
  unfold State.issueStatement
  repeat' (first
      | with_reducible rfl
      | simp only [blank_mk, or_true, true_or, h_tally, u_tenant, setAll_blank, List.all_cons, List.all_nil, Bool.and_self,
          unit_TEN_TLY_LAST_ACCCLASS, unit_TEN_TLY_LAST_ENERGY, unit_TEN_TLY_LAST_GAP, unit_TEN_TLY_LAST_STNUM,
          unit_TEN_TLY_LAST_SWTO, unit_TEN_TLY_LAST_UNANCHORED]
      | split
      | (intro))

theorem sweepServed_blank (s : State) (w : Sweep) (old : TallyEntry) (new : TallyEntry) (h_tally : F.tally) (h_vault : F.vault)
    (h_colo : F.colo) (u_tenant : F.has .tenant) : (State.sweepServed s w old new).blank F = s.blank F := by
  unfold State.sweepServed
  repeat' (first
      | with_reducible rfl
      | simp only [blank_mk, apply_ite (State.blank F), ite_self, or_true, true_or, h_tally, h_vault, h_colo, u_tenant,
          coloRefused_blank, vaultAsk_blank, setAll_blank, List.all_cons, List.all_nil, Bool.and_self, modEp_blank,
          unit_TEN_TLY_STATUS_BUSY, unit_TEN_TLY_STATUS_RESULT]
      | split
      | (intro))

theorem flipBank_blank (s : State) (h_hubs : F.hubs) (h_flt : F.flt) (h_fl : F.fl) (h_tally : F.tally) (h_vault : F.vault)
    (h_link : F.link) (h_colo : F.colo) (h_sys : F.sys) (h_bru : F.bru) (h_flue : F.flue) (h_pulses : F.pulses)
    (h_freeCtr : F.freeCtr) (u_bru : F.has .bru) (u_flt : F.has .flt) (u_ccd : F.has .ccd) (u_tly : F.has .tly)
    (u_folio : F.has .folio) (u_cat : F.has .cat) (u_clp : F.has .clp) (u_tenant : F.has .tenant) : (State.flipBank s).blank F =
    s.blank F := by
  unfold State.flipBank
  repeat' (first
      | with_reducible rfl
      | simp only [implies_true, blank_mk, apply_ite (State.blank F), ite_self, or_true, true_or, h_hubs, h_flt, h_fl, h_tally,
          h_vault, h_link, h_colo, h_sys, h_bru, h_flue, h_pulses, h_freeCtr, u_bru, u_flt, u_ccd, u_tly, u_folio, u_cat, u_clp,
          u_tenant, showSweep_blank, pumpRing_blank, sweepServed_blank, closeBatch_blank, issueStatement_blank,
          kickSweeps_blank, send_blank]
      | (with_reducible refine (foldl_blank _ _ _ ?_).trans ?_)
      | split
      | (intro))

theorem tryCommit_blank (s : State) (flip : Bool) (h_hubs : F.hubs) (h_flt : F.flt) (h_fl : F.fl) (h_tally : F.tally)
    (h_vault : F.vault) (h_link : F.link) (h_colo : F.colo) (h_sys : F.sys) (h_bru : F.bru) (h_flue : F.flue)
    (h_pulses : F.pulses) (h_freeCtr : F.freeCtr) (u_bru : F.has .bru) (u_flt : F.has .flt) (u_ccd : F.has .ccd)
    (u_tly : F.has .tly) (u_folio : F.has .folio) (u_cat : F.has .cat) (u_clp : F.has .clp) (u_tenant : F.has .tenant) :
    (State.tryCommit s flip).blank F = s.blank F := by
  unfold State.tryCommit
  repeat' (first
      | with_reducible rfl
      | simp only [apply_ite (State.blank F), ite_self, h_hubs, h_flt, h_fl, h_tally, h_vault, h_link, h_colo, h_sys, h_bru,
          h_flue, h_pulses, h_freeCtr, u_bru, u_flt, u_ccd, u_tly, u_folio, u_cat, u_clp, u_tenant, writeBank_blank,
          flipBank_blank]
      | split
      | (intro))

theorem tallyWritten_blank (s : State) (j : SysJob) (h_tally : F.tally) (u_tly : F.has .tly) : (State.tallyWritten s j).blank F
    = s.blank F := by
  unfold State.tallyWritten
  repeat' (first
      | with_reducible rfl
      | simp only [blank_mk, or_true, true_or, h_tally, u_tly, set_blank, unit_TLY_RHEAD_OFFSET]
      | split
      | (intro))

theorem setStkCh_blank (s : State) (n : Nat) (c : StkCh) (h_stk : F.stk) : (State.setStkCh s n c).blank F = s.blank F := by
  unfold State.setStkCh
  repeat' (first
      | with_reducible rfl
      | simp only [blank_mk, or_true, true_or, h_stk]
      | split
      | (intro))

theorem stkForget_blank (s : State) (n : Nat) (h_stk : F.stk) : (State.stkForget s n).blank F = s.blank F := by
  unfold State.stkForget
  repeat' (first
      | with_reducible rfl
      | simp only [blank_mk, or_true, true_or, h_stk]
      | split
      | (intro))

theorem stkCountsFree_blank (s : State) (n : Nat) (h_freeCtr : F.freeCtr) (u_channel : F.has .channel) : (State.stkCountsFree s
    n).blank F = s.blank F := by
  unfold State.stkCountsFree
  repeat' (first
      | with_reducible rfl
      | simp only [h_freeCtr, u_channel, fresh_blank, setAll_blank, List.all_cons, List.all_nil, Bool.and_self,
          unit_STK_CH_PROG_BYTES, unit_STK_CH_PROG_CMPCNT, unit_STK_CH_PROG_CMPOFF, unit_STK_CH_PROG_DESCS]
      | split
      | (intro))

theorem stkDropCh_blank (s : State) (n : Nat) (h_sys : F.sys) (h_stk : F.stk) (h_freeCtr : F.freeCtr)
    (u_channel : F.has .channel) : (State.stkDropCh s n).blank F = s.blank F := by
  unfold State.stkDropCh
  repeat' (first
      | with_reducible rfl
      | simp only [blank_mk, or_true, true_or, h_sys, h_stk, h_freeCtr, u_channel, setStkCh_blank, set_blank,
          stkCountsFree_blank, stkForget_blank, unit_STK_CH_STATUS_DROPPED]
      | split
      | (intro))

theorem stkDropWhere_blank (s : State) (test : Nat → Bool) (h_sys : F.sys) (h_stk : F.stk) (h_freeCtr : F.freeCtr)
    (u_stk : F.has .stk) (u_channel : F.has .channel) : (State.stkDropWhere s test).blank F = s.blank F := by
  unfold State.stkDropWhere
  repeat' (first
      | with_reducible rfl
      | simp only [implies_true, apply_ite (State.blank F), ite_self, h_sys, h_stk, h_freeCtr, u_stk, u_channel, set_blank,
          raise_blank, stkDropCh_blank, unit_STK_CH_STATUS_PENDGO, unit_STK_EVENT_DROP]
      | (with_reducible refine (foldl_blank _ _ _ ?_).trans ?_)
      | split
      | (intro))

theorem stackerDrop_blank (s : State) (t : Nat) (h_sys : F.sys) (h_stk : F.stk) (h_freeCtr : F.freeCtr) (u_stk : F.has .stk)
    (u_channel : F.has .channel) : (State.stackerDrop s t).blank F = s.blank F := by
  unfold State.stackerDrop
  repeat' (first
      | with_reducible rfl
      | simp only [h_sys, h_stk, h_freeCtr, u_stk, u_channel, stkDropWhere_blank]
      | split
      | (intro))

theorem stackerDropTagged_blank (s : State) (h_sys : F.sys) (h_stk : F.stk) (h_freeCtr : F.freeCtr) (u_stk : F.has .stk)
    (u_channel : F.has .channel) : (State.stackerDropTagged s).blank F = s.blank F := by
  unfold State.stackerDropTagged
  repeat' (first
      | with_reducible rfl
      | simp only [h_sys, h_stk, h_freeCtr, u_stk, u_channel, stkDropWhere_blank]
      | split
      | (intro))

theorem stkStart_blank (s : State) (n : Nat) (h_stk : F.stk) (u_channel : F.has .channel) : (State.stkStart s n).blank F =
    s.blank F := by
  unfold State.stkStart
  repeat' (first
      | with_reducible rfl
      | simp only [h_stk, u_channel, setStkCh_blank, setAll_blank, List.all_cons, List.all_nil, Bool.and_self,
          unit_STK_CH_PROG_BYTES, unit_STK_CH_PROG_CMPCNT, unit_STK_CH_PROG_CMPOFF, unit_STK_CH_PROG_CURDESC,
          unit_STK_CH_PROG_DESCS, unit_STK_CH_PROG_TAG, unit_STK_CH_STATUS_DROPPED, unit_STK_CH_STATUS_ERRCODE,
          unit_STK_CH_STATUS_MISMATCH, unit_STK_CH_STATUS_PENDGO]
      | split
      | (intro))

theorem stkGo_blank (s : State) (n : Nat) (h_stk : F.stk) (u_stk : F.has .stk) (u_channel : F.has .channel) : (State.stkGo s
    n).blank F = s.blank F := by
  unfold State.stkGo
  repeat' (first
      | with_reducible rfl
      | simp only [apply_ite (State.blank F), ite_self, h_stk, u_stk, u_channel, set_blank, raise_blank, stkStart_blank,
          unit_STK_CH_STATUS_PENDGO, unit_STK_EVENT_GOBUSY]
      | split
      | (intro))

theorem stackerVoid_blank (s : State) (h_stk : F.stk) (u_stk : F.has .stk) (u_channel : F.has .channel) : (State.stackerVoid
    s).blank F = s.blank F := by
  unfold State.stackerVoid
  repeat' (first
      | with_reducible rfl
      | simp only [implies_true, h_stk, u_stk, u_channel, set_blank, stkGo_blank, unit_STK_CH_STATUS_PENDGO]
      | (with_reducible refine (foldl_blank _ _ _ ?_).trans ?_)
      | split
      | (intro))

theorem kickSys_blank (s : State) (h_sys : F.sys) (h_stk : F.stk) : (State.kickSys s).blank F = s.blank F := by
  unfold State.kickSys
  repeat' (first
      | with_reducible rfl
      | simp only [blank_mk, apply_ite (State.blank F), or_true, true_or, h_sys, h_stk, setStkCh_blank]
      | (with_reducible refine (foldl_blank _ _ _ ?_).trans ?_)
      | split
      | (intro))

theorem busError_blank (s : State) (cause : Nat) (ch : Nat) (addr : Nat) (tag : Nat) (h_flt : F.flt) (h_stk : F.stk)
    (h_pulses : F.pulses) (u_stk : F.has .stk) : (State.busError s cause ch addr tag).blank F = s.blank F := by
  unfold State.busError
  repeat' (first
      | with_reducible rfl
      | simp only [implies_true, apply_ite (State.blank F), ite_self, h_flt, h_stk, h_pulses, u_stk, kilnFault_blank,
          setStkCh_blank, raise_blank, setAll_blank, List.all_cons, List.all_nil, Bool.and_self, event_blank, stkForget_blank,
          unit_STK_EVENT_BUSERR, unit_STK_HALTADDR_ADDR, unit_STK_HALTADDR_TAG, unit_STK_STATUS_HALTED, unit_STK_STATUS_HCAUSE,
          unit_STK_STATUS_HCH]
      | (with_reducible refine (foldl_blank _ _ _ ?_).trans ?_)
      | split
      | (intro))

theorem stkPulse_blank (s : State) (n : Nat) (h_pulses : F.pulses) : (State.stkPulse s n).blank F = s.blank F := by
  unfold State.stkPulse
  repeat' (first
      | with_reducible rfl
      | simp only [h_pulses, emit_blank]
      | split
      | (intro))

theorem stkNext_blank (s : State) (n : Nat) (h_stk : F.stk) : (State.stkNext s n).blank F = s.blank F := by
  unfold State.stkNext
  repeat' (first
      | with_reducible rfl
      | simp only [apply_ite (State.blank F), ite_self, h_stk, setStkCh_blank]
      | split
      | (intro))

theorem stkDescDone_blank (s : State) (n : Nat) (h_stk : F.stk) (h_pulses : F.pulses) (u_channel : F.has .channel) :
    (State.stkDescDone s n).blank F = s.blank F := by
  unfold State.stkDescDone
  repeat' (first
      | with_reducible rfl
      | simp only [apply_ite (State.blank F), ite_self, h_stk, h_pulses, u_channel, bump_blank, stkNext_blank, setStkCh_blank,
          stkPulse_blank, stkForget_blank, unit_STK_CH_PROG_DESCS]
      | split
      | (intro))

theorem stkWrite_blank (s : State) (n : Nat) (addr : Nat) (data : List Nat) (last : Bool) (h_stk : F.stk) (h_pulses : F.pulses)
    : (State.stkWrite s n addr data last).blank F = s.blank F := by
  unfold State.stkWrite
  repeat' (first
      | with_reducible rfl
      | simp only [blank_mk, or_true, true_or, h_stk, h_pulses, emit_blank]
      | split
      | (intro))

theorem pumpWrites_blank (s : State) (n : Nat) (a2 : Nat) (h_stk : F.stk) (h_pulses : F.pulses) : (State.pumpWrites s n
    a2).blank F = s.blank F := by
  induction a2 generalizing s n with
  | zero =>
    unfold State.pumpWrites
    repeat' (first
        | with_reducible rfl
        | simp only [implies_true, blank_mk, apply_ite (State.blank F), ite_self, or_true, true_or, h_stk, h_pulses,
            setStkCh_blank, stkWrite_blank]
        | split
        | (intro))
  | succ n ih =>
    unfold State.pumpWrites
    repeat' (first
        | with_reducible rfl
        | simp only [implies_true, blank_mk, apply_ite (State.blank F), ite_self, or_true, true_or, h_stk, h_pulses, ih,
            setStkCh_blank, stkWrite_blank]
        | split
        | (intro))

theorem pumpAll_blank (s : State) (h_stk : F.stk) (h_pulses : F.pulses) : (State.pumpAll s).blank F = s.blank F := by
  unfold State.pumpAll
  repeat' (first
      | with_reducible rfl
      | simp only [implies_true, h_stk, h_pulses, pumpWrites_blank]
      | (with_reducible refine (foldl_blank _ _ _ ?_).trans ?_)
      | split
      | (intro))

theorem pumpCompare_blank (s : State) (n : Nat) (a2 : Nat) (h_stk : F.stk) (h_pulses : F.pulses) (u_stk : F.has .stk)
    (u_channel : F.has .channel) : (State.pumpCompare s n a2).blank F = s.blank F := by
  induction a2 generalizing s n with
  | zero =>
    unfold State.pumpCompare
    repeat' (first
        | with_reducible rfl
        | simp only [implies_true, blank_mk, apply_ite (State.blank F), ite_self, or_true, true_or, h_stk, h_pulses, u_stk,
            u_channel, bump_blank, stkDescDone_blank, setStkCh_blank, bumpSat_blank, set_blank, raise_blank,
            unit_STK_CH_PROG_BYTES, unit_STK_CH_PROG_CMPCNT, unit_STK_CH_PROG_CMPOFF, unit_STK_CH_STATUS_MISMATCH,
            unit_STK_EVENT_MISMATCH]
        | split
        | (intro))
  | succ n ih =>
    unfold State.pumpCompare
    repeat' (first
        | with_reducible rfl
        | simp only [implies_true, blank_mk, apply_ite (State.blank F), ite_self, or_true, true_or, h_stk, h_pulses, u_stk,
            u_channel, ih, bump_blank, stkDescDone_blank, setStkCh_blank, bumpSat_blank, set_blank, raise_blank,
            unit_STK_CH_PROG_BYTES, unit_STK_CH_PROG_CMPCNT, unit_STK_CH_PROG_CMPOFF, unit_STK_CH_STATUS_MISMATCH,
            unit_STK_EVENT_MISMATCH]
        | split
        | (intro))

theorem stkData_blank (s : State) (r : StkRead) (data : List Nat) (word : Nat) (h_stk : F.stk) (h_pulses : F.pulses)
    (u_stk : F.has .stk) (u_channel : F.has .channel) : (State.stkData s r data word).blank F = s.blank F := by
  unfold State.stkData
  repeat' (first
      | with_reducible rfl
      | simp only [apply_ite (State.blank F), ite_self, h_stk, h_pulses, u_stk, u_channel, stkNext_blank, setStkCh_blank,
          set_blank, raise_blank, stkPulse_blank, pumpWrites_blank, setAll_blank, List.all_cons, List.all_nil, Bool.and_self,
          pumpCompare_blank, unit_STK_CH_PROG_BYTES, unit_STK_CH_PROG_CURDESC, unit_STK_CH_PROG_TAG, unit_STK_CH_STATUS_ERRCODE,
          unit_STK_EVENT_DESCERR]
      | split
      | (intro))

theorem stkRead_blank (s : State) (n : Nat) (kind : StkReadKind) (pos : Nat) (addr : Nat) (len : Nat) (region : Option Nat)
    (h_stk : F.stk) (h_flue : F.flue) (h_pulses : F.pulses) : (State.stkRead s n kind pos addr len region).blank F = s.blank F
    := by
  unfold State.stkRead
  repeat' (first
      | with_reducible rfl
      | simp only [blank_mk, or_true, true_or, h_stk, h_flue, h_pulses, send_blank, emit_blank]
      | split
      | (intro))

theorem stkGrant_blank (s : State) (n : Nat) (h_stk : F.stk) (h_flue : F.flue) (h_pulses : F.pulses) : (State.stkGrant s
    n).blank F = s.blank F := by
  unfold State.stkGrant
  repeat' (first
      | with_reducible rfl
      | simp only [h_stk, h_flue, h_pulses, stkRead_blank, setStkCh_blank, stkWrite_blank]
      | split
      | (intro))

theorem tellSuspects_blank (s : State) (tenant : Nat) (code : Nat) (h_flue : F.flue) : (State.tellSuspects s tenant code).blank
    F = s.blank F := by
  unfold State.tellSuspects
  repeat' (first
      | with_reducible rfl
      | simp only [h_flue, sendAll_blank]
      | split
      | (intro))

theorem rung5_blank (s : State) (h_rcv : F.rcv) (h_ldg : F.ldg) (h_pwr : F.pwr) (h_pulses : F.pulses) (u_rcv : F.has .rcv)
    (u_ldg : F.has .ldg) : (State.rung5 s).blank F = s.blank F := by
  unfold State.rung5
  repeat' (first
      | with_reducible rfl
      | simp only [blank_mk, or_true, true_or, h_rcv, h_ldg, h_pwr, h_pulses, u_rcv, u_ldg, raise_blank, trayRequest_blank,
          unit_LDG_CTRL_FLUSH, unit_RCV_EVENT_POWER]
      | split
      | (intro))

theorem endWatchdog_blank (s : State) (rid : Nat) (tenant : Nat) (region : Nat) (h_flt : F.flt) (u_flt : F.has .flt) :
    (State.endWatchdog s rid tenant region).blank F = s.blank F := by
  unfold State.endWatchdog
  repeat' (first
      | with_reducible rfl
      | simp only [h_flt, u_flt, writeNotices_blank, endHandling_blank]
      | split
      | (intro))

theorem releaseSet_blank (s : State) (e : Nat × List Nat × Bool) (h_flue : F.flue) : (State.releaseSet s e).blank F = s.blank F
    := by
  unfold State.releaseSet
  repeat' (first
      | with_reducible rfl
      | simp only [h_flue, sendAll_blank]
      | split
      | (intro))

theorem releaseSets_blank (s : State) (regions : List Nat) (h_rcv : F.rcv) (h_flue : F.flue) : (State.releaseSets s
    regions).blank F = s.blank F := by
  unfold State.releaseSets
  repeat' (first
      | with_reducible rfl
      | simp only [implies_true, blank_mk, or_true, true_or, h_rcv, h_flue, releaseSet_blank]
      | (with_reducible refine (foldl_blank _ _ _ ?_).trans ?_)
      | split
      | (intro))

theorem discardWaiting_blank (s : State) (scope : List Nat) (h_flt : F.flt) (h_rcv : F.rcv) (h_flue : F.flue)
    (u_flt : F.has .flt) : (State.discardWaiting s scope).blank F = s.blank F := by
  unfold State.discardWaiting
  repeat' (first
      | with_reducible rfl
      | simp only [implies_true, blank_mk, or_true, true_or, h_flt, h_rcv, h_flue, u_flt, endWatchdog_blank, releaseSets_blank]
      | (with_reducible refine (foldl_blank _ _ _ ?_).trans ?_)
      | split
      | (intro))

theorem takeRung_blank (s : State) (rung : Nat) (h_flt : F.flt) (h_rcv : F.rcv) (h_ldg : F.ldg) (h_vault : F.vault)
    (h_colo : F.colo) (h_sys : F.sys) (h_pwr : F.pwr) (h_flue : F.flue) (h_pulses : F.pulses) (h_freeCtr : F.freeCtr)
    (u_flt : F.has .flt) (u_rcv : F.has .rcv) (u_ldg : F.has .ldg) (u_tenant : F.has .tenant) : (State.takeRung s rung).blank F
    = s.blank F := by
  unfold State.takeRung
  repeat' (first
      | with_reducible rfl
      | simp only [implies_true, blank_mk, apply_ite (State.blank F), ite_self, or_true, true_or, h_flt, h_rcv, h_ldg, h_vault,
          h_colo, h_sys, h_pwr, h_flue, h_pulses, h_freeCtr, u_flt, u_rcv, u_ldg, u_tenant, rung5_blank, epochDiscard_blank,
          raise_blank, logCase_blank, sendAll_blank, discardWaiting_blank, unit_RCV_EVENT_CHIP, unit_RCV_EVENT_ENGINE,
          unit_RCV_EVENT_PART]
      | (with_reducible refine (foldl_blank _ _ _ ?_).trans ?_)
      | split
      | (intro))

theorem openCase_blank (s : State) (fseq : Nat) (rids : List Nat) (tenant : Nat) (region : Nat) (st : RcvState) (h_rcv : F.rcv)
    (u_rcv : F.has .rcv) : (State.openCase s fseq rids tenant region st).blank F = s.blank F := by
  unfold State.openCase
  repeat' (first
      | with_reducible rfl
      | simp only [blank_mk, or_true, true_or, h_rcv, u_rcv, raise_blank, unit_RCV_EVENT_CASE]
      | split
      | (intro))

theorem joinSets_blank (s : State) (region : Nat) (h_rcv : F.rcv) : (State.joinSets s region).blank F = s.blank F := by
  unfold State.joinSets
  repeat' (first
      | with_reducible rfl
      | simp only [blank_mk, or_true, true_or, h_rcv]
      | (with_reducible refine (foldl_blank _ _ _ ?_).trans ?_)
      | split
      | (intro))

theorem closeCase_blank (s : State) (result : Nat) (guilty : Nat) (ladder : Option Nat) (h_flt : F.flt) (h_rcv : F.rcv)
    (h_flue : F.flue) (u_flt : F.has .flt) (u_rcv : F.has .rcv) : (State.closeCase s result guilty ladder).blank F = s.blank F
    := by
  unfold State.closeCase
  repeat' (first
      | with_reducible rfl
      | simp only [implies_true, blank_mk, or_true, true_or, h_flt, h_rcv, h_flue, u_flt, u_rcv, tellSuspects_blank,
          logCase_blank, openCase_blank, endHandling_blank, joinSets_blank]
      | (with_reducible refine (foldl_blank _ _ _ ?_).trans ?_)
      | split
      | (intro))

theorem grantNext_blank (s : State) (h_flt : F.flt) (h_rcv : F.rcv) (h_flue : F.flue) (u_flt : F.has .flt) (u_rcv : F.has .rcv)
    : (State.grantNext s).blank F = s.blank F := by
  unfold State.grantNext
  repeat' (first
      | with_reducible rfl
      | simp only [implies_true, blank_mk, or_true, true_or, h_flt, h_rcv, h_flue, u_flt, u_rcv, tellSuspects_blank,
          closeCase_blank]
      | (with_reducible refine (foldl_blank _ _ _ ?_).trans ?_)
      | split
      | (intro))

theorem grantedPasses_blank (s : State) (h_flt : F.flt) (h_rcv : F.rcv) (h_flue : F.flue) (u_flt : F.has .flt)
    (u_rcv : F.has .rcv) : (State.grantedPasses s).blank F = s.blank F := by
  unfold State.grantedPasses
  repeat' (first
      | with_reducible rfl
      | simp only [blank_mk, or_true, true_or, h_flt, h_rcv, h_flue, u_flt, u_rcv, grantNext_blank, tellSuspects_blank]
      | split
      | (intro))

theorem suspectLeaves_blank (s : State) (t : Nat) (h_flt : F.flt) (h_rcv : F.rcv) (h_flue : F.flue) (u_flt : F.has .flt)
    (u_rcv : F.has .rcv) : (State.suspectLeaves s t).blank F = s.blank F := by
  unfold State.suspectLeaves
  repeat' (first
      | with_reducible rfl
      | simp only [blank_mk, apply_ite (State.blank F), ite_self, or_true, true_or, h_flt, h_rcv, h_flue, u_flt, u_rcv,
          grantNext_blank, tellSuspects_blank]
      | split
      | (intro))

theorem requestReset_blank (s : State) (t : Nat) (h_hubs : F.hubs) (h_flt : F.flt) (h_fl : F.fl) (h_tally : F.tally)
    (h_link : F.link) (h_colo : F.colo) (h_bru : F.bru) (h_flue : F.flue) (h_pulses : F.pulses) (h_freeCtr : F.freeCtr)
    (u_bru : F.has .bru) (u_flt : F.has .flt) (u_ccd : F.has .ccd) (u_tly : F.has .tly) (u_folio : F.has .folio)
    (u_cat : F.has .cat) (u_clp : F.has .clp) (u_tenant : F.has .tenant) : (State.requestReset s t).blank F = s.blank F := by
  unfold State.requestReset
  repeat' (first
      | with_reducible rfl
      | simp only [apply_ite (State.blank F), ite_self, h_hubs, h_flt, h_fl, h_tally, h_link, h_colo, h_bru, h_flue, h_pulses,
          h_freeCtr, u_bru, u_flt, u_ccd, u_tly, u_folio, u_cat, u_clp, u_tenant, proposeReset_blank]
      | split
      | (intro))

theorem grantedFails_blank (s : State) (t : Nat) (h_hubs : F.hubs) (h_flt : F.flt) (h_fl : F.fl) (h_rcv : F.rcv) (h_ldg : F.ldg)
    (h_tally : F.tally) (h_vault : F.vault) (h_link : F.link) (h_colo : F.colo) (h_sys : F.sys) (h_bru : F.bru) (h_pwr : F.pwr)
    (h_flue : F.flue) (h_pulses : F.pulses) (h_freeCtr : F.freeCtr) (u_bru : F.has .bru) (u_flt : F.has .flt)
    (u_rcv : F.has .rcv) (u_ccd : F.has .ccd) (u_tly : F.has .tly) (u_ldg : F.has .ldg) (u_folio : F.has .folio)
    (u_cat : F.has .cat) (u_clp : F.has .clp) (u_tenant : F.has .tenant) : (State.grantedFails s t).blank F = s.blank F := by
  unfold State.grantedFails
  repeat' (first
      | with_reducible rfl
      | simp only [implies_true, blank_mk, apply_ite (State.blank F), or_true, true_or, h_hubs, h_flt, h_fl, h_rcv, h_ldg,
          h_tally, h_vault, h_link, h_colo, h_sys, h_bru, h_pwr, h_flue, h_pulses, h_freeCtr, u_bru, u_flt, u_rcv, u_ccd, u_tly,
          u_ldg, u_folio, u_cat, u_clp, u_tenant, requestReset_blank, takeRung_blank, raise_blank, tellSuspects_blank,
          closeCase_blank, unit_RCV_EVENT_GUILTY]
      | (with_reducible refine (foldl_blank _ _ _ ?_).trans ?_)
      | split
      | (intro))

theorem clpFault_blank (s : State) (c : Nat) (kind : Nat) (addr : Nat) (notices : List (Nat × Nat × Nat × Nat)) (h_flt : F.flt)
    : (State.clpFault s c kind addr notices).blank F = s.blank F := by
  unfold State.clpFault
  repeat' (first
      | with_reducible rfl
      | simp only [blank_mk, or_true, true_or, h_flt]
      | split
      | (intro))

theorem recallDependents_blank (s : State) (c : Nat) (b : Binding) (e : Nat) (origin : Nat) (rid : Nat) (cause : Nat)
    (h_vault : F.vault) (h_link : F.link) (h_colo : F.colo) (h_sys : F.sys) (h_pulses : F.pulses) (h_freeCtr : F.freeCtr)
    (u_clp : F.has .clp) : (State.recallDependents s c b e origin rid cause).1.blank F = s.blank F := by
  unfold State.recallDependents
  repeat' (first
      | with_reducible rfl
      | simp only [h_vault, h_link, h_colo, h_sys, h_pulses, h_freeCtr, u_clp, recallEpochs_blank]
      | split
      | (intro))

theorem peerDone_blank (s : State) (c : Nat) (number : Nat) (h_hubs : F.hubs) (h_flt : F.flt) (h_fl : F.fl) (h_tally : F.tally)
    (h_link : F.link) (h_colo : F.colo) (h_bru : F.bru) (h_flue : F.flue) (h_pulses : F.pulses) (h_freeCtr : F.freeCtr)
    (u_bru : F.has .bru) (u_flt : F.has .flt) (u_ccd : F.has .ccd) (u_folio : F.has .folio) (u_cat : F.has .cat)
    (u_clp : F.has .clp) (u_tenant : F.has .tenant) : (State.peerDone s c number).blank F = s.blank F := by
  unfold State.peerDone
  repeat' (first
      | with_reducible rfl
      | simp only [apply_ite (State.blank F), ite_self, h_hubs, h_flt, h_fl, h_tally, h_link, h_colo, h_bru, h_flue, h_pulses,
          h_freeCtr, u_bru, u_flt, u_ccd, u_folio, u_cat, u_clp, u_tenant, tryApplied_blank, setFolio_blank]
      | split
      | (intro))

theorem voidPeerFolio_blank (s : State) (number : Nat) (reason : Nat) (voidsrc : Nat) (h_hubs : F.hubs) (h_flt : F.flt)
    (h_fl : F.fl) (h_tally : F.tally) (h_link : F.link) (h_colo : F.colo) (h_bru : F.bru) (h_flue : F.flue)
    (h_pulses : F.pulses) (h_freeCtr : F.freeCtr) (u_bru : F.has .bru) (u_flt : F.has .flt) (u_ccd : F.has .ccd)
    (u_folio : F.has .folio) (u_cat : F.has .cat) (u_clp : F.has .clp) (u_tenant : F.has .tenant) : (State.voidPeerFolio s
    number reason voidsrc).blank F = s.blank F := by
  unfold State.voidPeerFolio
  repeat' (first
      | with_reducible rfl
      | simp only [h_hubs, h_flt, h_fl, h_tally, h_link, h_colo, h_bru, h_flue, h_pulses, h_freeCtr, u_bru, u_flt, u_ccd,
          u_folio, u_cat, u_clp, u_tenant, voidFolio_blank, admitWaiting_blank, setFolio_blank]
      | split
      | (intro))

theorem addInDoubt_blank (s : State) (c : Nat) (e : Nat × Nat) (h_link : F.link) (u_clp : F.has .clp) : (State.addInDoubt s c
    e).blank F = s.blank F := by
  unfold State.addInDoubt
  repeat' (first
      | with_reducible rfl
      | simp only [apply_ite (State.blank F), ite_self, h_link, u_clp, modPort_blank, raise_blank, unit_CCD_EVENT_INDOUBT]
      | split
      | (intro))

theorem portLeavesUp_blank (s : State) (c : Nat) (h_hubs : F.hubs) (h_flt : F.flt) (h_fl : F.fl) (h_tally : F.tally)
    (h_link : F.link) (h_colo : F.colo) (h_bru : F.bru) (h_flue : F.flue) (h_pulses : F.pulses) (h_freeCtr : F.freeCtr)
    (u_bru : F.has .bru) (u_flt : F.has .flt) (u_ccd : F.has .ccd) (u_folio : F.has .folio) (u_cat : F.has .cat)
    (u_clp : F.has .clp) (u_tenant : F.has .tenant) : (State.portLeavesUp s c).blank F = s.blank F := by
  unfold State.portLeavesUp
  repeat' (first
      | with_reducible rfl
      | simp only [implies_true, h_hubs, h_flt, h_fl, h_tally, h_link, h_colo, h_bru, h_flue, h_pulses, h_freeCtr, u_bru, u_flt,
          u_ccd, u_folio, u_cat, u_clp, u_tenant, voidFolio_blank, voidPeerFolio_blank, addInDoubt_blank, admitWaiting_blank,
          setFolio_blank, peerDone_blank]
      | (with_reducible refine (foldl_blank _ _ _ ?_).trans ?_)
      | split
      | (intro))

theorem dispute_blank (s : State) (c : Nat) (cause : Nat) (seq : Nat) (job : Nat) (ref : Nat) (ev1 : Nat) (ev2 : Nat)
    (trusted : Option (Binding × Nat)) (h_hubs : F.hubs) (h_flt : F.flt) (h_fl : F.fl) (h_tally : F.tally) (h_vault : F.vault)
    (h_link : F.link) (h_colo : F.colo) (h_sys : F.sys) (h_bru : F.bru) (h_flue : F.flue) (h_pulses : F.pulses)
    (h_freeCtr : F.freeCtr) (u_bru : F.has .bru) (u_flt : F.has .flt) (u_ccd : F.has .ccd) (u_folio : F.has .folio)
    (u_cat : F.has .cat) (u_clp : F.has .clp) (u_tenant : F.has .tenant) : (State.dispute s c cause seq job ref ev1 ev2
    trusted).blank F = s.blank F := by
  unfold State.dispute
  repeat' (first
      | with_reducible rfl
      | simp only [h_hubs, h_flt, h_fl, h_tally, h_vault, h_link, h_colo, h_sys, h_bru, h_flue, h_pulses, h_freeCtr, u_bru,
          u_flt, u_ccd, u_folio, u_cat, u_clp, u_tenant, modPort_blank, portLeavesUp_blank, clpFault_blank, presentFree_blank,
          recallDependents_blank, raise_blank, takeRid_blank, unit_CCD_EVENT_DISPUTE]
      | split
      | (intro))

theorem newSession_blank (s : State) (c : Nat) (h_link : F.link) : (State.newSession s c).blank F = s.blank F := by
  unfold State.newSession
  repeat' (first
      | with_reducible rfl
      | simp only [h_link, modPort_blank]
      | split
      | (intro))

theorem losePeer_blank (s : State) (c : Nat) (fault : Bool) (h_hubs : F.hubs) (h_flt : F.flt) (h_fl : F.fl) (h_tally : F.tally)
    (h_link : F.link) (h_colo : F.colo) (h_bru : F.bru) (h_flue : F.flue) (h_pulses : F.pulses) (h_freeCtr : F.freeCtr)
    (u_bru : F.has .bru) (u_flt : F.has .flt) (u_ccd : F.has .ccd) (u_tly : F.has .tly) (u_folio : F.has .folio)
    (u_cat : F.has .cat) (u_clp : F.has .clp) (u_tenant : F.has .tenant) : (State.losePeer s c fault).blank F = s.blank F := by
  unfold State.losePeer
  repeat' (first
      | with_reducible rfl
      | simp only [implies_true, apply_ite (State.blank F), ite_self, h_hubs, h_flt, h_fl, h_tally, h_link, h_colo, h_bru,
          h_flue, h_pulses, h_freeCtr, u_bru, u_flt, u_ccd, u_tly, u_folio, u_cat, u_clp, u_tenant, modPort_blank, bump_blank,
          setPort_blank, requestReset_blank, portLeavesUp_blank, clpFault_blank, raise_blank, unit_CCD_EVENT_LOST,
          unit_CCD_LOSTCNT_COUNT]
      | (with_reducible refine (foldl_blank _ _ _ ?_).trans ?_)
      | split
      | (intro))

theorem startPair_blank (s : State) (c : Nat) (h_link : F.link) (h_pulses : F.pulses) (u_clp : F.has .clp) : (State.startPair s
    c).blank F = s.blank F := by
  unfold State.startPair
  repeat' (first
      | with_reducible rfl
      | simp only [h_link, h_pulses, u_clp, modPort_blank, presentFree_blank]
      | split
      | (intro))

theorem enterUp_blank (s : State) (c : Nat) (h_link : F.link) (h_pulses : F.pulses) (u_clp : F.has .clp) : (State.enterUp s
    c).blank F = s.blank F := by
  unfold State.enterUp
  repeat' (first
      | with_reducible rfl
      | simp only [apply_ite (State.blank F), ite_self, h_link, h_pulses, u_clp, startPair_blank, setPort_blank, pump_blank]
      | split
      | (intro))

theorem enablePort_blank (s : State) (c : Nat) (h_link : F.link) : (State.enablePort s c).blank F = s.blank F := by
  unfold State.enablePort
  repeat' (first
      | with_reducible rfl
      | simp only [apply_ite (State.blank F), ite_self, h_link, newSession_blank]
      | split
      | (intro))

theorem disablePort_blank (s : State) (c : Nat) (h_hubs : F.hubs) (h_flt : F.flt) (h_fl : F.fl) (h_tally : F.tally)
    (h_link : F.link) (h_colo : F.colo) (h_bru : F.bru) (h_flue : F.flue) (h_pulses : F.pulses) (h_freeCtr : F.freeCtr)
    (u_bru : F.has .bru) (u_flt : F.has .flt) (u_ccd : F.has .ccd) (u_tly : F.has .tly) (u_folio : F.has .folio)
    (u_cat : F.has .cat) (u_clp : F.has .clp) (u_tenant : F.has .tenant) : (State.disablePort s c).blank F = s.blank F := by
  unfold State.disablePort
  repeat' (first
      | with_reducible rfl
      | simp only [apply_ite (State.blank F), ite_self, h_hubs, h_flt, h_fl, h_tally, h_link, h_colo, h_bru, h_flue, h_pulses,
          h_freeCtr, u_bru, u_flt, u_ccd, u_tly, u_folio, u_cat, u_clp, u_tenant, modPort_blank, losePeer_blank]
      | split
      | (intro))

theorem strikePeers_blank (s : State) (f : FolioRec) (h_hubs : F.hubs) (h_flt : F.flt) (h_fl : F.fl) (h_tally : F.tally)
    (h_vault : F.vault) (h_link : F.link) (h_colo : F.colo) (h_sys : F.sys) (h_bru : F.bru) (h_flue : F.flue)
    (h_pulses : F.pulses) (h_freeCtr : F.freeCtr) (u_bru : F.has .bru) (u_flt : F.has .flt) (u_ccd : F.has .ccd)
    (u_folio : F.has .folio) (u_cat : F.has .cat) (u_clp : F.has .clp) (u_tenant : F.has .tenant) : (State.strikePeers s
    f).blank F = s.blank F := by
  unfold State.strikePeers
  repeat' (first
      | with_reducible rfl
      | simp only [implies_true, apply_ite (State.blank F), ite_self, h_hubs, h_flt, h_fl, h_tally, h_vault, h_link, h_colo,
          h_sys, h_bru, h_flue, h_pulses, h_freeCtr, u_bru, u_flt, u_ccd, u_folio, u_cat, u_clp, u_tenant, modPort_blank,
          dispute_blank]
      | (with_reducible refine (foldl_blank _ _ _ ?_).trans ?_)
      | split
      | (intro))

theorem stopRaise_blank (s : State) (source : Nat) (fseq : Nat) (h_ldg : F.ldg) (h_dbg : F.dbg) (h_pulses : F.pulses)
    (u_ldg : F.has .ldg) (u_dbg : F.has .dbg) : (State.stopRaise s source fseq).blank F = s.blank F := by
  unfold State.stopRaise
  repeat' (first
      | with_reducible rfl
      | simp only [blank_mk, apply_ite (State.blank F), ite_self, or_true, true_or, h_ldg, h_dbg, h_pulses, u_ldg, u_dbg,
          recordOf_blank, kilnStop_blank, set_blank, raise_blank, setAll_blank, List.all_cons, List.all_nil, Bool.and_self,
          event_blank, unit_DBG_EVENT_STOP, unit_DBG_GSSTATUS_SETTLED, unit_DBG_GSSTATUS_SOURCE, unit_DBG_GSSTATUS_STOPPED,
          unit_DBG_GSTIME_GT]
      | split
      | (intro))

theorem stopTrigger_blank (s : State) (kind : Nat) (level : Nat) (fseq : Nat) (h_ldg : F.ldg) (h_dbg : F.dbg)
    (h_pulses : F.pulses) (u_ldg : F.has .ldg) (u_dbg : F.has .dbg) : (State.stopTrigger s kind level fseq).blank F = s.blank F
    := by
  unfold State.stopTrigger
  repeat' (first
      | with_reducible rfl
      | simp only [apply_ite (State.blank F), ite_self, h_ldg, h_dbg, h_pulses, u_ldg, u_dbg, stopRaise_blank, setAll_blank,
          List.all_cons, List.all_nil, Bool.and_self, unit_DBG_GSTRIG_KINDEN, unit_DBG_GSTRIG_LEVELEN]
      | split
      | (intro))

theorem debugUnlock_blank (s : State) (secs : Nat) (keyid : Nat) (h_ldg : F.ldg) (h_dbg : F.dbg) (u_ldg : F.has .ldg)
    (u_dbg : F.has .dbg) : (State.debugUnlock s secs keyid).blank F = s.blank F := by
  unfold State.debugUnlock
  repeat' (first
      | with_reducible rfl
      | simp only [blank_mk, or_true, true_or, h_ldg, h_dbg, u_ldg, u_dbg, recordOf_blank, set_blank, raise_blank,
          unit_DBG_EVENT_UNLOCK, unit_DBG_UNLOCK_SECS]
      | split
      | (intro))

theorem unlockEnd_blank (s : State) (cause : Nat) (h_ldg : F.ldg) (h_dbg : F.dbg) (u_ldg : F.has .ldg) (u_dbg : F.has .dbg) :
    (State.unlockEnd s cause).blank F = s.blank F := by
  unfold State.unlockEnd
  repeat' (first
      | with_reducible rfl
      | simp only [blank_mk, apply_ite (State.blank F), ite_self, or_true, true_or, h_ldg, h_dbg, u_ldg, u_dbg, recordOf_blank,
          set_blank, unit_DBG_UNLOCK_SECS]
      | split
      | (intro))

theorem nextCut_blank (s : State) (h_dbg : F.dbg) (h_flue : F.flue) : (State.nextCut s).blank F = s.blank F := by
  unfold State.nextCut
  repeat' (first
      | with_reducible rfl
      | simp only [blank_mk, apply_ite (State.blank F), or_true, true_or, h_dbg, h_flue, send_blank]
      | split
      | (intro))

theorem wantCut_blank (s : State) (r : Nat) (h_dbg : F.dbg) (h_flue : F.flue) : (State.wantCut s r).blank F = s.blank F := by
  unfold State.wantCut
  repeat' (first
      | with_reducible rfl
      | simp only [blank_mk, or_true, true_or, h_dbg, h_flue, nextCut_blank]
      | split
      | (intro))

theorem freeRun_blank (s : State) (h_dbg : F.dbg) (h_flue : F.flue) : (State.freeRun s).blank F = s.blank F := by
  unfold State.freeRun
  repeat' (first
      | with_reducible rfl
      | simp only [blank_mk, or_true, true_or, h_dbg, h_flue, nextCut_blank, send_blank]
      | split
      | (intro))

theorem pumpTrace_blank (s : State) (h_sys : F.sys) (h_dbg : F.dbg) (h_flue : F.flue) (u_dbg : F.has .dbg) : (State.pumpTrace
    s).blank F = s.blank F := by
  unfold State.pumpTrace
  repeat' (first
      | with_reducible rfl
      | simp only [blank_mk, apply_ite (State.blank F), ite_self, or_true, true_or, h_sys, h_dbg, h_flue, u_dbg, set_blank,
          freeRun_blank, raise_blank, unit_DBG_EVENT_RINGWAIT, unit_DBG_TRSTATUS_WAIT]
      | split
      | (intro))

theorem traceWritten_blank (s : State) (j : SysJob) (h_dbg : F.dbg) (h_flue : F.flue) (u_dbg : F.has .dbg) : (State.traceWritten
    s j).blank F = s.blank F := by
  unfold State.traceWritten
  repeat' (first
      | with_reducible rfl
      | simp only [apply_ite (State.blank F), ite_self, h_dbg, h_flue, u_dbg, set_blank, freeRun_blank, unit_DBG_TRHEAD_OFFSET]
      | split
      | (intro))

theorem caughtUp_blank (s : State) (t : Nat) (h_link : F.link) : (State.caughtUp s t).blank F = s.blank F := by
  unfold State.caughtUp
  repeat' (first
      | with_reducible rfl
      | simp only [h_link, mapPorts_blank]
      | split
      | (intro))

theorem l2Done_blank (s : State) (h_flt : F.flt) (u_flt : F.has .flt) : (State.l2Done s).blank F = s.blank F := by
  unfold State.l2Done
  repeat' (first
      | with_reducible rfl
      | simp only [implies_true, h_flt, u_flt, endHandling_blank]
      | (with_reducible refine (foldl_blank _ _ _ ?_).trans ?_)
      | split
      | (intro))

theorem noteStays_blank (s : State) (r : Nat) (gt : Nat) (before : List Nat) (after : List Nat) (h_colo : F.colo) :
    (State.noteStays s r gt before after).blank F = s.blank F := by
  unfold State.noteStays
  repeat' (first
      | with_reducible rfl
      | simp only [blank_mk, or_true, true_or, h_colo]
      | split
      | (intro))

theorem recvFolio_blank (s : State) (who : Nat) (m : Nat → Msg) (h_flue : F.flue) : (State.recvFolio s who m).blank F = s.blank
    F := by
  unfold State.recvFolio
  repeat' (first
      | with_reducible rfl
      | simp only [apply_ite (State.blank F), ite_self, h_flue, sendAll_blank, recv_blank]
      | split
      | (intro))

theorem unitNoticeOf_blank (s : State) (rid : Nat) (h_flt : F.flt) (u_flt : F.has .flt) : (State.unitNoticeOf s rid).blank F =
    s.blank F := by
  unfold State.unitNoticeOf
  repeat' (first
      | with_reducible rfl
      | simp only [h_flt, u_flt, writeNotices_blank, setReact_blank]
      | split
      | (intro))

end Sys2Proof.Machine
end

