-- ==== Sys2Proof/Laws/FrameProbe.lean ====
section
/-! SUPPORT. For each operation of fault collection and the probes, and each command: which parts of the state it may change (every other part is
kept). -/

namespace Sys2Proof.Machine

open Sys2Proof

variable {F : Fields}

theorem execRfiMessage_blank (region : Nat) (data : Nat) (parOk : Bool) (s : State) (h_hubs : F.hubs) (u_hubFlt : F.has .hubFlt)
    : Keeps F s (execRfiMessage region data parOk s) := by
  unfold execRfiMessage
  repeat' (first
      | with_reducible rfl
      | simp only [apply_ite (State.blank F), ite_self, keeps_next, h_hubs, u_hubFlt, bump_blank, hubFault_blank, raise_blank,
          hubQueue_blank, unit_RH_FLT_EVENT_RFIPAR, unit_RH_FLT_EVENT_RFIUNK, unit_RH_FLT_RFICNT_COUNT]
      | split
      | (intro))

theorem forwardLimited_blank (s : State) (r : Nat) (m : FaultMsg) (h_hubs : F.hubs) (h_flt : F.flt) (u_hubLg : F.has .hubLg) :
    (State.forwardLimited s r m).blank F = s.blank F := by
  unfold State.forwardLimited
  repeat' (first
      | with_reducible rfl
      | simp only [apply_ite (State.blank F), ite_self, h_hubs, h_flt, u_hubLg, bump_blank, toKilnQueue_blank, setHub_blank,
          raise_blank, unit_RH_LG_EVENT_OVF, unit_RH_LG_EVENT_SUPP, unit_RH_LG_SUPP_COUNT]
      | split
      | (intro))

theorem hubCount_blank (s : State) (r : Nat) (key : Nat) (m : FaultMsg) (h_hubs : F.hubs) (u_hubFlt : F.has .hubFlt) :
    (State.hubCount s r key m).1.blank F = s.blank F := by
  unfold State.hubCount
  repeat' (first
      | with_reducible rfl
      | simp only [apply_ite (State.blank F), ite_self, h_hubs, u_hubFlt, bump_blank, setHub_blank, raise_blank,
          unit_RH_FLT_EVENT_EVICT, unit_RH_FLT_EVICT_COUNT]
      | split
      | (intro))

theorem classify_blank (s : State) (r : Nat) (m : FaultMsg) (h_hubs : F.hubs) (h_flt : F.flt) (h_ldg : F.ldg) (h_bru : F.bru)
    (h_flue : F.flue) (h_pulses : F.pulses) (u_ldg : F.has .ldg) (u_hubFl : F.has .hubFl) (u_hubFlt : F.has .hubFlt)
    (u_hubLg : F.has .hubLg) (u_hubTr : F.has .hubTr) : (State.classify s r m).blank F = s.blank F := by
  unfold State.classify
  repeat' (first
      | with_reducible rfl
      | simp only [implies_true, blank_mk, apply_ite (State.blank F), ite_self, or_true, true_or, h_hubs, h_flt, h_ldg, h_bru,
          h_flue, h_pulses, u_ldg, u_hubFl, u_hubFlt, u_hubLg, u_hubTr, toKilnQueue_blank, hubRaiseL1_blank, hubCount_blank,
          forwardLimited_blank]
      | split
      | (rename_i hq; replace hq := congrArg (fun p => State.blank F p.1) hq; simp only [implies_true, blank_mk, apply_ite (State.blank F), ite_self, or_true, true_or, h_hubs, h_flt, h_ldg, h_bru, h_flue,
          h_pulses, u_ldg, u_hubFl, u_hubFlt, u_hubLg, u_hubTr, toKilnQueue_blank, hubRaiseL1_blank, hubCount_blank,
          forwardLimited_blank] at hq; exact hq.symm)
      | (rename_i hq; replace hq := congrArg (fun p => State.blank F p.2) hq; simp only [implies_true, blank_mk, apply_ite (State.blank F), ite_self, or_true, true_or, h_hubs, h_flt, h_ldg, h_bru, h_flue,
          h_pulses, u_ldg, u_hubFl, u_hubFlt, u_hubLg, u_hubTr, toKilnQueue_blank, hubRaiseL1_blank, hubCount_blank,
          forwardLimited_blank] at hq; exact hq.symm)
      | (rename_i hq; replace hq := congrArg (fun p => State.blank F p.2.2) hq; simp only [implies_true, blank_mk, apply_ite (State.blank F), ite_self, or_true, true_or, h_hubs, h_flt, h_ldg, h_bru, h_flue,
          h_pulses, u_ldg, u_hubFl, u_hubFlt, u_hubLg, u_hubTr, toKilnQueue_blank, hubRaiseL1_blank, hubCount_blank,
          forwardLimited_blank] at hq; exact hq.symm)
      | (intro))

theorem execFaultClassify_blank (region : Nat) (s : State) (h_hubs : F.hubs) (h_flt : F.flt) (h_ldg : F.ldg) (h_bru : F.bru)
    (h_flue : F.flue) (h_pulses : F.pulses) (u_ldg : F.has .ldg) (u_hubFl : F.has .hubFl) (u_hubFlt : F.has .hubFlt)
    (u_hubLg : F.has .hubLg) (u_hubTr : F.has .hubTr) : Keeps F s (execFaultClassify region s) := by
  unfold execFaultClassify
  repeat' (first
      | with_reducible rfl
      | simp only [keeps_next, h_hubs, h_flt, h_ldg, h_bru, h_flue, h_pulses, u_ldg, u_hubFl, u_hubFlt, u_hubLg, u_hubTr,
          traceFault_blank, setHub_blank, raise_blank, classify_blank, unit_RH_FLT_FIRSTVAL_VALID]
      | split
      | (intro))

theorem execBucketLeak_blank (region : Option Nat) (key : Nat) (kind : Nat) (s : State) (h_hubs : F.hubs) (h_flt : F.flt) :
    Keeps F s (execBucketLeak region key kind s) := by
  unfold execBucketLeak
  repeat' (first
      | with_reducible rfl
      | simp only [blank_mk, or_true, true_or, keeps_next, h_hubs, h_flt, modHub_blank]
      | split
      | (intro))

theorem escalated_blank (s : State) (met : Reaction) (h_flt : F.flt) (u_flt : F.has .flt) : (State.escalated s met).blank F =
    s.blank F := by
  unfold State.escalated
  repeat' (first
      | with_reducible rfl
      | simp only [h_flt, u_flt, kilnFault_blank, raise_blank, unit_FLT_EVENT_ESC]
      | split
      | (intro))

theorem kilnClassify_blank (s : State) (m : FaultMsg) (h_flt : F.flt) (u_flt : F.has .flt) : (State.kilnClassify s m).blank F =
    s.blank F := by
  unfold State.kilnClassify
  repeat' (first
      | with_reducible rfl
      | simp only [blank_mk, apply_ite (State.blank F), ite_self, or_true, true_or, h_flt, u_flt, raise_blank,
          unit_FLT_EVENT_EVICT]
      | split
      | (intro))

theorem watchdogRegistered_blank (s : State) (m : FaultMsg) (fseq : Nat) (h_hubs : F.hubs) (h_flt : F.flt) (h_fl : F.fl)
    (h_rcv : F.rcv) (h_ldg : F.ldg) (h_tally : F.tally) (h_vault : F.vault) (h_link : F.link) (h_colo : F.colo) (h_sys : F.sys)
    (h_bru : F.bru) (h_pwr : F.pwr) (h_flue : F.flue) (h_pulses : F.pulses) (h_freeCtr : F.freeCtr) (u_bru : F.has .bru)
    (u_flt : F.has .flt) (u_rcv : F.has .rcv) (u_ccd : F.has .ccd) (u_tly : F.has .tly) (u_ldg : F.has .ldg)
    (u_folio : F.has .folio) (u_cat : F.has .cat) (u_clp : F.has .clp) (u_tenant : F.has .tenant) : (State.watchdogRegistered s
    m fseq).blank F = s.blank F := by
  unfold State.watchdogRegistered
  repeat' (first
      | with_reducible rfl
      | simp only [blank_mk, apply_ite (State.blank F), ite_self, or_true, true_or, h_hubs, h_flt, h_fl, h_rcv, h_ldg, h_tally,
          h_vault, h_link, h_colo, h_sys, h_bru, h_pwr, h_flue, h_pulses, h_freeCtr, u_bru, u_flt, u_rcv, u_ccd, u_tly, u_ldg,
          u_folio, u_cat, u_clp, u_tenant, grantedFails_blank, releaseSets_blank, openCase_blank, joinSets_blank]
      | split
      | (intro))

theorem watchdogTie_blank (s : State) (m : FaultMsg) (rid : Nat) (merged : Bool) (h_flt : F.flt) (h_rcv : F.rcv)
    (u_flt : F.has .flt) : (State.watchdogTie s m rid merged).blank F = s.blank F := by
  unfold State.watchdogTie
  repeat' (first
      | with_reducible rfl
      | simp only [blank_mk, apply_ite (State.blank F), ite_self, or_true, true_or, h_flt, h_rcv, u_flt, endWatchdog_blank,
          unitNoticeOf_blank]
      | split
      | (intro))

theorem logFault_blank (s : State) (m : FaultMsg) (fseq : Nat) (arr : Nat) (a : Acted) (h_flt : F.flt) (h_ldg : F.ldg)
    (h_dbg : F.dbg) (h_pulses : F.pulses) (u_flt : F.has .flt) (u_ldg : F.has .ldg) (u_dbg : F.has .dbg) : (State.logFault s m
    fseq arr a).blank F = s.blank F := by
  unfold State.logFault
  repeat' (first
      | with_reducible rfl
      | simp only [blank_mk, or_true, true_or, h_flt, h_ldg, h_dbg, h_pulses, u_flt, u_ldg, u_dbg, bump_blank, set_blank,
          record_blank, stopTrigger_blank, event_blank, unit_FLT_FIRSTVAL_VALID, countField_unit]
      | split
      | (intro))

theorem execFltCount_blank (region : Nat) (src : Nat) (kind : Nat) (tenant : Nat) (addr : Nat) (gtlo : Nat) (s : State)
    (h_hubs : F.hubs) (h_flt : F.flt) (h_ldg : F.ldg) (h_bru : F.bru) (h_flue : F.flue) (h_pulses : F.pulses)
    (u_ldg : F.has .ldg) (u_hubFl : F.has .hubFl) (u_hubFlt : F.has .hubFlt) (u_hubTr : F.has .hubTr) : Keeps F s (execFltCount
    region src kind tenant addr gtlo s) := by
  unfold execFltCount
  repeat' (first
      | with_reducible rfl
      | simp only [implies_true, blank_mk, apply_ite (State.blank F), ite_self, or_true, true_or, keeps_next, h_hubs, h_flt,
          h_ldg, h_bru, h_flue, h_pulses, u_ldg, u_hubFl, u_hubFlt, u_hubTr, hubRaiseL1_blank, hubCount_blank, recv_blank,
          send_blank]
      | split
      | (rename_i hq; replace hq := congrArg (fun p => State.blank F p.1) hq; simp only [implies_true, blank_mk, apply_ite (State.blank F), ite_self, or_true, true_or, keeps_next, h_hubs, h_flt, h_ldg,
          h_bru, h_flue, h_pulses, u_ldg, u_hubFl, u_hubFlt, u_hubTr, hubRaiseL1_blank, hubCount_blank, recv_blank, send_blank] at hq; exact hq.symm)
      | (rename_i hq; replace hq := congrArg (fun p => State.blank F p.2) hq; simp only [implies_true, blank_mk, apply_ite (State.blank F), ite_self, or_true, true_or, keeps_next, h_hubs, h_flt, h_ldg,
          h_bru, h_flue, h_pulses, u_ldg, u_hubFl, u_hubFlt, u_hubTr, hubRaiseL1_blank, hubCount_blank, recv_blank, send_blank] at hq; exact hq.symm)
      | (rename_i hq; replace hq := congrArg (fun p => State.blank F p.2.2) hq; simp only [implies_true, blank_mk, apply_ite (State.blank F), ite_self, or_true, true_or, keeps_next, h_hubs, h_flt, h_ldg,
          h_bru, h_flue, h_pulses, u_ldg, u_hubFl, u_hubFlt, u_hubTr, hubRaiseL1_blank, hubCount_blank, recv_blank, send_blank] at hq; exact hq.symm)
      | (intro))

theorem execFltAckhub_blank (region : Nat) (raised : Bool) (s : State) (h_flue : F.flue) : Keeps F s (execFltAckhub region
    raised s) := by
  unfold execFltAckhub
  repeat' (first
      | with_reducible rfl
      | simp only [keeps_next, h_flue, recv_blank]
      | split
      | (intro))

theorem execFltPhase_blank (region : Nat) (phase : Nat) (s : State) (h_hubs : F.hubs) : Keeps F s (execFltPhase region phase s)
    := by
  unfold execFltPhase
  repeat' (first
      | with_reducible rfl
      | simp only [keeps_next, h_hubs, modHub_blank]
      | split
      | (intro))

theorem writePhase_blank (s : State) (phase : Nat) (h_flt : F.flt) (h_flue : F.flue) (u_flt : F.has .flt) : (State.writePhase s
    phase).blank F = s.blank F := by
  unfold State.writePhase
  repeat' (first
      | with_reducible rfl
      | simp only [blank_mk, apply_ite (State.blank F), ite_self, or_true, true_or, h_flt, h_flue, u_flt, setPhase_blank]
      | split
      | (intro))

theorem execFltPhaseWrite_blank (phase : Nat) (ten : Nat) (tag : Nat) (s : State) (h_flt : F.flt) (h_flue : F.flue)
    (h_pulses : F.pulses) (u_ghp : F.has .ghp) (u_flt : F.has .flt) : Keeps F s (execFltPhaseWrite phase ten tag s) := by
  unfold execFltPhaseWrite
  repeat' (first
      | with_reducible rfl
      | simp only [implies_true, keeps_next, h_flt, h_flue, u_flt, writePhase_blank]
      | (with_reducible refine (hostWrite_blank _ _ _ _ _ _ _ (by first | assumption | exact u_all _) (by first | assumption | exact u_all _) ?_).trans ?_)
      | split
      | (intro))

theorem execL3HoldExpiry_blank (s : State) (h_ldg : F.ldg) (h_pwr : F.pwr) (h_pulses : F.pulses) (u_ldg : F.has .ldg) : Keeps F
    s (execL3HoldExpiry s) := by
  unfold execL3HoldExpiry
  repeat' (first
      | with_reducible rfl
      | simp only [apply_ite (State.blank F), ite_self, keeps_next, h_ldg, h_pwr, h_pulses, u_ldg, trayRequest_blank]
      | split
      | (intro))

theorem count_blank (s : State) (r : Nat) (t : Nat) (code : Nat) (n : Nat) (u_probe : F.has .probe) : (State.count s r t code
    n).blank F = s.blank F := by
  unfold State.count
  repeat' (first
      | with_reducible rfl
      | simp only [apply_ite (State.blank F), ite_self, u_probe, bump_blank, unit_TP_CNT6_COUNT, unit_TP_CNT7_COUNT, cntField_unit, implies_true, blank_mk, or_true, true_or, unit_TP_CNT0_COUNT, unit_TP_CNT1_COUNT, unit_TP_CNT2_COUNT, unit_TP_CNT3_COUNT, unit_TP_CNT4_COUNT, unit_TP_CNT5_COUNT]
      | split)

theorem activity_blank (s : State) (r : Nat) (t : Nat) (i : Nat) (adds : List (Nat × Nat)) (h_probes : F.probes)
    (h_flue : F.flue) : (State.activity s r t i adds).blank F = s.blank F := by
  unfold State.activity
  repeat' (first
      | with_reducible rfl
      | simp only [apply_ite (State.blank F), ite_self, h_probes, h_flue, setProbe_blank, send_blank]
      | (with_reducible refine (foldl_blank _ _ _ ?_).trans ?_)
      | split
      | (intro))

theorem sendActivity_blank (s : State) (r : Nat) (t : Nat) (gt : Nat) (isPartial : Bool) (h_probes : F.probes) (h_flue : F.flue)
    : (State.sendActivity s r t gt isPartial).blank F = s.blank F := by
  unfold State.sendActivity
  repeat' (first
      | with_reducible rfl
      | simp only [h_probes, h_flue, sendAll_blank, setProbe_blank]
      | split
      | (intro))

theorem setSlot_blank (s : State) (r : Nat) (t : Nat) (i : Nat) (x : Slot) (h_probes : F.probes) : (State.setSlot s r t i
    x).blank F = s.blank F := by
  unfold State.setSlot
  repeat' (first
      | with_reducible rfl
      | simp only [h_probes, modProbe_blank]
      | split
      | (intro))

theorem setFence_blank (s : State) (r : Nat) (t : Nat) (f : FenceState) (h_probes : F.probes) (u_probe : F.has .probe) :
    (State.setFence s r t f).blank F = s.blank F := by
  unfold State.setFence
  repeat' (first
      | with_reducible rfl
      | simp only [apply_ite (State.blank F), ite_self, h_probes, u_probe, set_blank, setProbe_blank, unit_TP_CTRL_FENCE_REQ]
      | split
      | (intro))

theorem setBook_blank (s : State) (r : Nat) (t : Nat) (b : TileBook) (h_hubs : F.hubs) : (State.setBook s r t b).blank F =
    s.blank F := by
  unfold State.setBook
  repeat' (first
      | with_reducible rfl
      | simp only [h_hubs, modHub_blank]
      | split
      | (intro))

theorem releaseSlot_blank (s : State) (r : Nat) (t : Nat) (i : Nat) (h_probes : F.probes) (h_hubs : F.hubs)
    (h_pulses : F.pulses) (u_hubIft : F.has .hubIft) (u_probe : F.has .probe) : (State.releaseSlot s r t i).blank F = s.blank F
    := by
  unfold State.releaseSlot
  repeat' (first
      | with_reducible rfl
      | simp only [apply_ite (State.blank F), ite_self, h_probes, h_hubs, h_pulses, u_hubIft, u_probe, raise_blank,
          setBook_blank, count_blank, setProbe_blank, emit_blank, unit_RH_IFT_EVENT_EXPOVF]
      | split
      | (intro))

theorem releaseList_blank (s : State) (r : Nat) (t : Nat) (a3 : List Nat) (h_probes : F.probes) (h_hubs : F.hubs)
    (h_pulses : F.pulses) (u_hubIft : F.has .hubIft) (u_probe : F.has .probe) : (State.releaseList s r t a3).blank F = s.blank F
    := by
  induction a3 generalizing s r t with
  | nil =>
    unfold State.releaseList
    repeat' (first
        | with_reducible rfl
        | simp only [implies_true, blank_mk, apply_ite (State.blank F), ite_self, or_true, true_or, h_probes, h_hubs, h_pulses,
            u_hubIft, u_probe, releaseSlot_blank]
        | split
        | (intro))
  | cons x l ih =>
    unfold State.releaseList
    repeat' (first
        | with_reducible rfl
        | simp only [implies_true, blank_mk, apply_ite (State.blank F), ite_self, or_true, true_or, h_probes, h_hubs, h_pulses,
            u_hubIft, u_probe, ih, releaseSlot_blank]
        | split
        | (intro))

theorem kickRelease_blank (s : State) (r : Nat) (t : Nat) (h_probes : F.probes) (h_hubs : F.hubs) (h_pulses : F.pulses)
    (u_hubIft : F.has .hubIft) (u_probe : F.has .probe) : (State.kickRelease s r t).blank F = s.blank F := by
  unfold State.kickRelease
  repeat' (first
      | with_reducible rfl
      | simp only [apply_ite (State.blank F), ite_self, h_probes, h_hubs, h_pulses, u_hubIft, u_probe, releaseList_blank]
      | split
      | (intro))

theorem checkIdle_blank (s : State) (r : Nat) (t : Nat) (h_probes : F.probes) (h_flue : F.flue) : (State.checkIdle s r t).blank
    F = s.blank F := by
  unfold State.checkIdle
  repeat' (first
      | with_reducible rfl
      | simp only [apply_ite (State.blank F), ite_self, h_probes, h_flue, setProbe_blank, send_blank]
      | split
      | (intro))

theorem discardSlot_blank (s : State) (r : Nat) (t : Nat) (i : Nat) (h_probes : F.probes) (h_pulses : F.pulses) :
    (State.discardSlot s r t i).blank F = s.blank F := by
  unfold State.discardSlot
  repeat' (first
      | with_reducible rfl
      | simp only [h_probes, h_pulses, modProbe_blank, emit_blank]
      | split
      | (intro))

theorem discardSlots_blank (s : State) (r : Nat) (t : Nat) (l : List Nat) (h_probes : F.probes) (h_pulses : F.pulses) :
    (State.discardSlots s r t l).blank F = s.blank F := by
  unfold State.discardSlots
  repeat' (first
      | with_reducible rfl
      | simp only [implies_true, h_probes, h_pulses, discardSlot_blank]
      | (with_reducible refine (foldl_blank _ _ _ ?_).trans ?_)
      | split
      | (intro))

theorem retryPulse_blank (s : State) (r : Nat) (t : Nat) (i : Nat) (h_probes : F.probes) (h_pulses : F.pulses)
    (u_probe : F.has .probe) : (State.retryPulse s r t i).blank F = s.blank F := by
  unfold State.retryPulse
  repeat' (first
      | with_reducible rfl
      | simp only [h_probes, h_pulses, u_probe, count_blank, setProbe_blank, emit_blank]
      | split
      | (intro))

theorem dropSlots_blank (s : State) (r : Nat) (t : Nat) (tenant : Nat) (every : Bool) (h_probes : F.probes) (h_hubs : F.hubs)
    (h_flue : F.flue) (h_pulses : F.pulses) (u_hubIft : F.has .hubIft) (u_probe : F.has .probe) : (State.dropSlots s r t tenant
    every).blank F = s.blank F := by
  unfold State.dropSlots
  repeat' (first
      | with_reducible rfl
      | simp only [apply_ite (State.blank F), ite_self, h_probes, h_hubs, h_flue, h_pulses, u_hubIft, u_probe, modProbe_blank,
          checkIdle_blank, setFence_blank, kickRelease_blank, discardSlots_blank]
      | split
      | (intro))

theorem removeCtx_blank (s : State) (r : Nat) (t : Nat) (tenant : Nat) (h_probes : F.probes) : (State.removeCtx s r t
    tenant).blank F = s.blank F := by
  unfold State.removeCtx
  repeat' (first
      | with_reducible rfl
      | simp only [h_probes, modProbe_blank]
      | split
      | (intro))

theorem reportDigest_blank (s : State) (r : Nat) (t : Nat) (i : Nat) (cut : Bool) (layer : Nat) (h_probes : F.probes)
    (h_flue : F.flue) : (State.reportDigest s r t i cut layer).blank F = s.blank F := by
  unfold State.reportDigest
  repeat' (first
      | with_reducible rfl
      | simp only [h_probes, h_flue, setProbe_blank, send_blank]
      | split
      | (intro))

theorem probeTrace_blank (s : State) (r : Nat) (t : Nat) (recs : List Nat) (h_probes : F.probes) : (State.probeTrace s r t
    recs).blank F = s.blank F := by
  unfold State.probeTrace
  repeat' (first
      | with_reducible rfl
      | simp only [h_probes, modProbe_blank]
      | split
      | (intro))

theorem commitDigest_blank (s : State) (r : Nat) (t : Nat) (i : Nat) (h_probes : F.probes) (h_flue : F.flue) :
    (State.commitDigest s r t i).blank F = s.blank F := by
  unfold State.commitDigest
  repeat' (first
      | with_reducible rfl
      | simp only [apply_ite (State.blank F), ite_self, h_probes, h_flue, probeTrace_blank, reportDigest_blank, setProbe_blank]
      | split
      | (intro))

theorem makeReleasable_blank (s : State) (r : Nat) (t : Nat) (i : Nat) (h_probes : F.probes) (h_hubs : F.hubs) (h_flue : F.flue)
    (h_pulses : F.pulses) (u_hubIft : F.has .hubIft) (u_probe : F.has .probe) : (State.makeReleasable s r t i).blank F = s.blank
    F := by
  unfold State.makeReleasable
  repeat' (first
      | with_reducible rfl
      | simp only [h_probes, h_hubs, h_flue, h_pulses, u_hubIft, u_probe, commitDigest_blank, kickRelease_blank, setSlot_blank]
      | split
      | (intro))

theorem flagMove_blank (s : State) (r : Nat) (t : Nat) (f : MoveState → MoveState) (h_probes : F.probes) : (State.flagMove s r t
    f).blank F = s.blank F := by
  unfold State.flagMove
  repeat' (first
      | with_reducible rfl
      | simp only [h_probes, modProbe_blank]
      | split
      | (intro))

theorem trimBlock_blank (s : State) (r : Nat) (t : Nat) (h_probes : F.probes) (h_flue : F.flue) : (State.trimBlock s r t).blank
    F = s.blank F := by
  unfold State.trimBlock
  repeat' (first
      | with_reducible rfl
      | simp only [implies_true, h_probes, h_flue, modProbe_blank, send_blank]
      | (with_reducible refine (foldl_blank _ _ _ ?_).trans ?_)
      | split
      | (intro))

theorem takeRole_blank (s : State) (r : Nat) (t : Nat) (o : MoveOrder) (busy : Bool) (h_probes : F.probes) (h_flue : F.flue)
    (h_pulses : F.pulses) (u_probe : F.has .probe) : (State.takeRole s r t o busy).blank F = s.blank F := by
  unfold State.takeRole
  repeat' (first
      | with_reducible rfl
      | simp only [apply_ite (State.blank F), ite_self, h_probes, h_flue, h_pulses, u_probe, modProbe_blank, setFence_blank,
          discardSlots_blank, trimBlock_blank, count_blank]
      | split
      | (intro))

theorem atProbe_blank (s : State) (r : Nat) (t : Nat) (acc : Nat) (m : Msg) (act : State → State) (h_probes : F.probes)
    (h_flue : F.flue) (u_hubCat : F.has .hubCat) (hact : ∀ x0, (act x0).blank F = x0.blank F) : (State.atProbe s r t acc m
    act).blank F = s.blank F := by
  unfold State.atProbe
  repeat' (first
      | with_reducible rfl
      | simp only [apply_ite (State.blank F), ite_self, h_probes, h_flue, u_hubCat, hact, probeFault_blank, raise_blank,
          recv_blank, send_blank, unit_RH_CAT_EVENT_AHEAD]
      | split
      | (intro))

theorem modIft_blank (s : State) (r : Nat) (t : Nat) (f : ProbeIft → ProbeIft) (h_probes : F.probes) : (State.modIft s r t
    f).blank F = s.blank F := by
  unfold State.modIft
  repeat' (first
      | with_reducible rfl
      | simp only [h_probes, modProbe_blank]
      | split
      | (intro))

theorem askPattern_blank (s : State) (r : Nat) (t : Nat) (pat : Nat) (h_probes : F.probes) (h_flue : F.flue) : (State.askPattern
    s r t pat).blank F = s.blank F := by
  unfold State.askPattern
  repeat' (first
      | with_reducible rfl
      | simp only [h_probes, h_flue, modIft_blank, send_blank]
      | split
      | (intro))

theorem fillUnit_blank (s : State) (r : Nat) (pat : Nat) (d : Pattern) (u : Nat) (h_freeCtr : F.freeCtr) : (State.fillUnit s r
    pat d u).2.blank F = s.blank F := by
  unfold State.fillUnit
  repeat' (first
      | with_reducible rfl
      | simp only [h_freeCtr, fresh_blank]
      | split
      | (intro))

theorem fillSegment_blank (s : State) (r : Nat) (t : Nat) (d : Pattern) (h_probes : F.probes) (h_flue : F.flue)
    (h_pulses : F.pulses) (h_freeCtr : F.freeCtr) : (State.fillSegment s r t d).blank F = s.blank F := by
  unfold State.fillSegment
  repeat' (first
      | with_reducible rfl
      | simp only [implies_true, h_probes, h_flue, h_pulses, h_freeCtr, modProbe_blank, askPattern_blank, fillUnit_blank,
          emit_blank]
      | (with_reducible refine (foldl_blank _ _ _ ?_).trans ?_)
      | split
      | (intro))

theorem beginSegment_blank (s : State) (r : Nat) (t : Nat) (h_probes : F.probes) (h_flue : F.flue) (h_pulses : F.pulses)
    (h_freeCtr : F.freeCtr) : (State.beginSegment s r t).blank F = s.blank F := by
  unfold State.beginSegment
  repeat' (first
      | with_reducible rfl
      | simp only [apply_ite (State.blank F), ite_self, h_probes, h_flue, h_pulses, h_freeCtr, modProbe_blank,
          fillSegment_blank, modIft_blank]
      | split
      | (intro))

theorem requestSegment_blank (s : State) (r : Nat) (t : Nat) (pat : Nat) (seg : SegKind) (h_probes : F.probes) (h_flue : F.flue)
    (h_pulses : F.pulses) (h_freeCtr : F.freeCtr) : (State.requestSegment s r t pat seg).blank F = s.blank F := by
  unfold State.requestSegment
  repeat' (first
      | with_reducible rfl
      | simp only [apply_ite (State.blank F), ite_self, h_probes, h_flue, h_pulses, h_freeCtr, beginSegment_blank,
          askPattern_blank, modIft_blank]
      | split
      | (intro))

theorem driveCshk_blank (s : State) (r : Nat) (t : Nat) (step : Nat) (h_probes : F.probes) (h_pulses : F.pulses) :
    (State.driveCshk s r t step).blank F = s.blank F := by
  unfold State.driveCshk
  repeat' (first
      | with_reducible rfl
      | simp only [h_probes, h_pulses, modProbe_blank, emit_blank]
      | split
      | (intro))

theorem dropSlot0_blank (s : State) (r : Nat) (t : Nat) (h_probes : F.probes) (h_pulses : F.pulses) : (State.dropSlot0 s r
    t).blank F = s.blank F := by
  unfold State.dropSlot0
  repeat' (first
      | with_reducible rfl
      | simp only [apply_ite (State.blank F), ite_self, h_probes, h_pulses, discardSlot_blank]
      | split
      | (intro))

theorem startPass_blank (s : State) (r : Nat) (t : Nat) (n : Nat) (h_probes : F.probes) (h_flue : F.flue) (h_pulses : F.pulses)
    (h_freeCtr : F.freeCtr) : (State.startPass s r t n).blank F = s.blank F := by
  unfold State.startPass
  repeat' (first
      | with_reducible rfl
      | simp only [h_probes, h_flue, h_pulses, h_freeCtr, requestSegment_blank, modIft_blank]
      | split
      | (intro))

theorem startWalk_blank (s : State) (r : Nat) (t : Nat) (h_probes : F.probes) (h_pulses : F.pulses) : (State.startWalk s r
    t).blank F = s.blank F := by
  unfold State.startWalk
  repeat' (first
      | with_reducible rfl
      | simp only [h_probes, h_pulses, driveCshk_blank, modIft_blank]
      | split
      | (intro))

theorem closeWalk_blank (s : State) (r : Nat) (t : Nat) (valid : Bool) (bandchg : Bool) (cshkto : Bool) (h_probes : F.probes)
    (h_flue : F.flue) (u_probe : F.has .probe) : (State.closeWalk s r t valid bandchg cshkto).blank F = s.blank F := by
  unfold State.closeWalk
  repeat' (first
      | with_reducible rfl
      | simp only [h_probes, h_flue, u_probe, modIft_blank, setAll_blank, List.all_cons, List.all_nil, Bool.and_self,
          send_blank, unit_TP_MW_LAST_B4STOP, unit_TP_MW_LAST_BAND, unit_TP_MW_LAST_BANDCHG, unit_TP_MW_LAST_CSHKTO,
          unit_TP_MW_LAST_MARGIN, unit_TP_MW_LAST_RESTARTS, unit_TP_MW_LAST_VALID, unit_TP_MW_LAST_WOBBLES]
      | split
      | (intro))

theorem endWalk_blank (s : State) (r : Nat) (t : Nat) (valid : Bool) (bandchg : Bool) (cshkto : Bool) (h_probes : F.probes)
    (h_flue : F.flue) (h_pulses : F.pulses) (h_freeCtr : F.freeCtr) (u_probe : F.has .probe) : (State.endWalk s r t valid
    bandchg cshkto).blank F = s.blank F := by
  unfold State.endWalk
  repeat' (first
      | with_reducible rfl
      | simp only [h_probes, h_flue, h_pulses, h_freeCtr, u_probe, closeWalk_blank, startPass_blank]
      | split
      | (intro))

theorem walkRestore_blank (s : State) (r : Nat) (t : Nat) (margin : Nat) (h_probes : F.probes) (h_pulses : F.pulses) :
    (State.walkRestore s r t margin).blank F = s.blank F := by
  unfold State.walkRestore
  repeat' (first
      | with_reducible rfl
      | simp only [h_probes, h_pulses, driveCshk_blank, modIft_blank]
      | split
      | (intro))

theorem walkNext_blank (s : State) (r : Nat) (t : Nat) (h_probes : F.probes) (h_flue : F.flue) (h_pulses : F.pulses)
    (h_freeCtr : F.freeCtr) : (State.walkNext s r t).blank F = s.blank F := by
  unfold State.walkNext
  repeat' (first
      | with_reducible rfl
      | simp only [apply_ite (State.blank F), ite_self, h_probes, h_flue, h_pulses, h_freeCtr, walkRestore_blank,
          requestSegment_blank, driveCshk_blank, modIft_blank]
      | split
      | (intro))

theorem sendPassResult_blank (s : State) (r : Nat) (t : Nat) (h_flue : F.flue) : (State.sendPassResult s r t).blank F = s.blank
    F := by
  unfold State.sendPassResult
  repeat' (first
      | with_reducible rfl
      | simp only [h_flue, send_blank]
      | split
      | (intro))

theorem passNext_blank (s : State) (r : Nat) (t : Nat) (h_probes : F.probes) (h_flue : F.flue) (h_pulses : F.pulses)
    (h_freeCtr : F.freeCtr) : (State.passNext s r t).blank F = s.blank F := by
  unfold State.passNext
  repeat' (first
      | with_reducible rfl
      | simp only [apply_ite (State.blank F), ite_self, h_probes, h_flue, h_pulses, h_freeCtr, requestSegment_blank,
          startWalk_blank, startPass_blank, sendPassResult_blank]
      | split
      | (intro))

theorem stopIft_blank (s : State) (r : Nat) (t : Nat) (h_probes : F.probes) (h_flue : F.flue) (h_pulses : F.pulses) :
    (State.stopIft s r t).blank F = s.blank F := by
  unfold State.stopIft
  repeat' (first
      | with_reducible rfl
      | simp only [apply_ite (State.blank F), ite_self, h_probes, h_flue, h_pulses, modProbe_blank, driveCshk_blank,
          modIft_blank, send_blank, dropSlot0_blank]
      | split
      | (intro))

theorem sendFailResult_blank (s : State) (r : Nat) (t : Nat) (confirmed : Bool) (h_flue : F.flue) : (State.sendFailResult s r t
    confirmed).blank F = s.blank F := by
  unfold State.sendFailResult
  repeat' (first
      | with_reducible rfl
      | simp only [h_flue, send_blank]
      | split
      | (intro))

theorem confirmFailure_blank (s : State) (r : Nat) (t : Nat) (h_probes : F.probes) (h_flue : F.flue) (u_probe : F.has .probe) :
    (State.confirmFailure s r t).blank F = s.blank F := by
  unfold State.confirmFailure
  repeat' (first
      | with_reducible rfl
      | simp only [apply_ite (State.blank F), ite_self, h_probes, h_flue, u_probe, set_blank, closeWalk_blank,
          sendFailResult_blank, modIft_blank, unit_TP_IFT_FAIL_CONFIRMED]
      | split
      | (intro))

theorem segmentPassed_blank (s : State) (r : Nat) (t : Nat) (h_probes : F.probes) (h_flue : F.flue) (h_pulses : F.pulses)
    (h_freeCtr : F.freeCtr) (u_probe : F.has .probe) : (State.segmentPassed s r t).blank F = s.blank F := by
  unfold State.segmentPassed
  repeat' (first
      | with_reducible rfl
      | simp only [apply_ite (State.blank F), ite_self, h_probes, h_flue, h_pulses, h_freeCtr, u_probe, requestSegment_blank,
          endWalk_blank, confirmFailure_blank, walkNext_blank, sendFailResult_blank, modIft_blank, passNext_blank]
      | split
      | (intro))

theorem segmentFailed_blank (s : State) (r : Nat) (t : Nat) (kind : Nat) (h_probes : F.probes) (h_flue : F.flue)
    (h_pulses : F.pulses) (h_freeCtr : F.freeCtr) (u_probe : F.has .probe) : (State.segmentFailed s r t kind).blank F = s.blank
    F := by
  unfold State.segmentFailed
  repeat' (first
      | with_reducible rfl
      | simp only [h_probes, h_flue, h_pulses, h_freeCtr, u_probe, walkRestore_blank, requestSegment_blank,
          confirmFailure_blank, modIft_blank]
      | split
      | (intro))

theorem endSegment_blank (s : State) (r : Nat) (t : Nat) (kind : Nat) (x : Slot) (outcome : Nat) (h_probes : F.probes)
    (h_flue : F.flue) (h_pulses : F.pulses) (h_freeCtr : F.freeCtr) (u_probe : F.has .probe) : (State.endSegment s r t kind x
    outcome).blank F = s.blank F := by
  unfold State.endSegment
  repeat' (first
      | with_reducible rfl
      | simp only [apply_ite (State.blank F), ite_self, h_probes, h_flue, h_pulses, h_freeCtr, u_probe, stopIft_blank,
          segmentPassed_blank, setAll_blank, List.all_cons, List.all_nil, Bool.and_self, segmentFailed_blank, dropSlot0_blank,
          unit_TP_IFT_FAIL_CONFIRMED, unit_TP_IFT_FAIL_KIND, unit_TP_IFT_FAIL_PASS, unit_TP_IFT_FAIL_PAT, unit_TP_IFT_FAIL_STEP,
          unit_TP_IFT_SIG_BEATS, unit_TP_IFT_SIG_OUTCOME, unit_TP_IFT_SIG_PAT, unit_TP_IFT_SIG_SA, unit_TP_IFT_SIG_SB]
      | split
      | (intro))

theorem suspendIft_blank (s : State) (r : Nat) (t : Nat) (h_probes : F.probes) (h_pulses : F.pulses) : (State.suspendIft s r
    t).blank F = s.blank F := by
  unfold State.suspendIft
  repeat' (first
      | with_reducible rfl
      | simp only [apply_ite (State.blank F), ite_self, h_probes, h_pulses, driveCshk_blank, modIft_blank, dropSlot0_blank]
      | split
      | (intro))

theorem resumeIft_blank (s : State) (r : Nat) (t : Nat) (h_probes : F.probes) (h_flue : F.flue) (h_pulses : F.pulses)
    (h_freeCtr : F.freeCtr) : (State.resumeIft s r t).blank F = s.blank F := by
  unfold State.resumeIft
  repeat' (first
      | with_reducible rfl
      | simp only [apply_ite (State.blank F), ite_self, h_probes, h_flue, h_pulses, h_freeCtr, requestSegment_blank,
          driveCshk_blank, modIft_blank]
      | split
      | (intro))

theorem tryPresent_blank (s : State) (r : Nat) (t : Nat) (h_probes : F.probes) (h_pulses : F.pulses) : (State.tryPresent s r
    t).blank F = s.blank F := by
  unfold State.tryPresent
  repeat' (first
      | with_reducible rfl
      | simp only [apply_ite (State.blank F), ite_self, h_probes, h_pulses, setProbe_blank, emit_blank]
      | split
      | (intro))

theorem endReader_blank (s : State) (r : Nat) (t : Nat) (h_probes : F.probes) (h_flue : F.flue) (h_pulses : F.pulses)
    (h_freeCtr : F.freeCtr) : (State.endReader s r t).blank F = s.blank F := by
  unfold State.endReader
  repeat' (first
      | with_reducible rfl
      | simp only [h_probes, h_flue, h_pulses, h_freeCtr, modProbe_blank, resumeIft_blank, dropSlot0_blank]
      | split
      | (intro))

theorem rejectHeader_blank (s : State) (r : Nat) (t : Nat) (h : Hdr) (code : Nat) (h_probes : F.probes) (h_pulses : F.pulses)
    (u_probe : F.has .probe) : (State.rejectHeader s r t h code).blank F = s.blank F := by
  unfold State.rejectHeader
  repeat' (first
      | with_reducible rfl
      | simp only [h_probes, h_pulses, u_probe, probeFault_blank, raise_blank, setAll_blank, List.all_cons, List.all_nil,
          Bool.and_self, emit_blank, unit_TP_EVENT_HDRERR, unit_TP_HDRERR_CODE, unit_TP_HDRERR_HTAG, unit_TP_HDRERR_TENANT]
      | split
      | (intro))

theorem beginSlot_blank (s : State) (r : Nat) (t : Nat) (i : Nat) (h : Hdr) (early : Bool) (h_probes : F.probes)
    (h_pulses : F.pulses) : (State.beginSlot s r t i h early).blank F = s.blank F := by
  unfold State.beginSlot
  repeat' (first
      | with_reducible rfl
      | simp only [apply_ite (State.blank F), ite_self, h_probes, h_pulses, setProbe_blank, emit_blank]
      | split
      | (intro))

theorem execCmdAccept_blank (region : Nat) (tile : Nat) (hdr : Hdr) (early : Bool) (s : State) (h_probes : F.probes)
    (h_pulses : F.pulses) (u_probe : F.has .probe) : Keeps F s (execCmdAccept region tile hdr early s) := by
  unfold execCmdAccept
  repeat' (first
      | with_reducible rfl
      | simp only [keeps_next, h_probes, h_pulses, u_probe, beginSlot_blank, rejectHeader_blank, setProbe_blank, emit_blank]
      | split
      | (intro))

theorem execRotationDrawDone_blank (region : Nat) (tile : Nat) (slot : Nat) (s : State) (h_probes : F.probes)
    (h_pulses : F.pulses) : Keeps F s (execRotationDrawDone region tile slot s) := by
  unfold execRotationDrawDone
  repeat' (first
      | with_reducible rfl
      | simp only [keeps_next, h_probes, h_pulses, setSlot_blank, emit_blank]
      | split
      | (intro))

theorem execOperandBeat_blank (region : Nat) (tile : Nat) (slot : Nat) (kind : Nat) (opa : Nat) (opb : Nat) (sca : Nat)
    (scb : Nat) (s : State) (h_probes : F.probes) (h_flue : F.flue) (u_probe : F.has .probe) : Keeps F s (execOperandBeat region
    tile slot kind opa opb sca scb s) := by
  unfold execOperandBeat
  repeat' (first
      | with_reducible rfl
      | simp only [keeps_next, h_probes, h_flue, u_probe, activity_blank, setSlot_blank, count_blank]
      | split
      | (intro))

theorem tapStray_blank (s : State) (r : Nat) (t : Nat) (h_probes : F.probes) (u_probe : F.has .probe) : (State.tapStray s r
    t).blank F = s.blank F := by
  unfold State.tapStray
  repeat' (first
      | with_reducible rfl
      | simp only [apply_ite (State.blank F), ite_self, h_probes, u_probe, probeFault_blank, setFence_blank, raise_blank,
          unit_TP_EVENT_TAPPAR]
      | split
      | (intro))

theorem execTapReadBeat_blank (region : Nat) (tile : Nat) (acc : Nat) (words : Nat) (first : Bool) (last : Bool)
    (parityBad : Bool) (s : State) (h_probes : F.probes) (u_probe : F.has .probe) : Keeps F s (execTapReadBeat region tile acc
    words first last parityBad s) := by
  unfold execTapReadBeat
  repeat' (first
      | with_reducible rfl
      | simp only [apply_ite (State.blank F), ite_self, keeps_next, h_probes, u_probe, tapStray_blank, setProbe_blank]
      | split
      | (intro))

theorem clipBeat_blank (s : State) (r : Nat) (t : Nat) (f : Fmt) (nel : Nat) (u_probe : F.has .probe) : (State.clipBeat s r t f
    nel).2.blank F = s.blank F := by
  unfold State.clipBeat
  repeat' (first
      | with_reducible rfl
      | simp only [apply_ite (State.blank F), ite_self, u_probe, raise_blank, unit_TP_EVENT_NELCLIP]
      | split
      | (intro))

theorem execEgressBeat_blank (region : Nat) (tile : Nat) (slot : Nat) (data : Nat) (nel : Nat) (lastb : Bool) (lastc : Bool)
    (s : State) (h_probes : F.probes) (h_flue : F.flue) (u_probe : F.has .probe) : Keeps F s (execEgressBeat region tile slot
    data nel lastb lastc s) := by
  unfold execEgressBeat
  repeat' (first
      | with_reducible rfl
      | simp only [keeps_next, h_probes, h_flue, u_probe, modProbe_blank, activity_blank, count_blank, clipBeat_blank]
      | split
      | (intro))

theorem execReleaseTagOut_blank (region : Nat) (tile : Nat) (s : State) (h_probes : F.probes) (h_pulses : F.pulses) : Keeps F s
    (execReleaseTagOut region tile s) := by
  unfold execReleaseTagOut
  repeat' (first
      | with_reducible rfl
      | simp only [keeps_next, h_probes, h_pulses, modProbe_blank, emit_blank]
      | split
      | (intro))

theorem failSlot_blank (s : State) (r : Nat) (t : Nat) (i : Nat) (o : CheckOutcome) (h_probes : F.probes) (h_pulses : F.pulses)
    (u_probe : F.has .probe) : (State.failSlot s r t i o).blank F = s.blank F := by
  unfold State.failSlot
  repeat' (first
      | with_reducible rfl
      | simp only [apply_ite (State.blank F), ite_self, h_probes, h_pulses, u_probe, modProbe_blank, probeFault_blank,
          setFence_blank, retryPulse_blank, raise_blank, unit_TP_EVENT_CHKFAIL, unit_TP_EVENT_TAPPAR]
      | split
      | (intro))

theorem retryOpens_blank (s : State) (r : Nat) (t : Nat) (h_probes : F.probes) (u_probe : F.has .probe) : (State.retryOpens s r
    t).blank F = s.blank F := by
  unfold State.retryOpens
  repeat' (first
      | with_reducible rfl
      | simp only [apply_ite (State.blank F), ite_self, h_probes, u_probe, setFence_blank, raise_blank, setProbe_blank,
          unit_TP_EVENT_RETRYPASS]
      | split
      | (intro))

theorem retryDecided_blank (s : State) (r : Nat) (t : Nat) (i : Nat) (h_probes : F.probes) (u_probe : F.has .probe) :
    (State.retryDecided s r t i).blank F = s.blank F := by
  unfold State.retryDecided
  repeat' (first
      | with_reducible rfl
      | simp only [apply_ite (State.blank F), ite_self, h_probes, u_probe, retryOpens_blank]
      | split
      | (intro))

theorem coverage_blank (s : State) (r : Nat) (t : Nat) (i : Nat) (o : CheckOutcome) (h_probes : F.probes) : (State.coverage s r
    t i o).blank F = s.blank F := by
  unfold State.coverage
  repeat' (first
      | with_reducible rfl
      | simp only [h_probes, setProbe_blank]
      | split
      | (intro))

theorem latchCounters_blank (s : State) (r : Nat) (t : Nat) (i : Nat) (o : CheckOutcome) (u_probe : F.has .probe) :
    (State.latchCounters s r t i o).blank F = s.blank F := by
  unfold State.latchCounters
  repeat' (first
      | with_reducible rfl
      | simp only [u_probe, setAll_blank, List.all_cons, List.all_nil, Bool.and_self, unit_TP_CNT_LAST_D, unit_TP_CNT_LAST_HTAG,
          unit_TP_CNT_LAST_LAYER, unit_TP_CNT_LAST_OPERATOR, unit_TP_CNT_LAST_OUTCOME, unit_TP_CNT_LAST_SLOT,
          unit_TP_CNT_LAST_TENANT, unit_TP_CNT_LAST_VALID]
      | split
      | (intro))

theorem traceCmd_blank (s : State) (r : Nat) (t : Nat) (i : Nat) (o : CheckOutcome) (h_probes : F.probes) : (State.traceCmd s r
    t i o).blank F = s.blank F := by
  unfold State.traceCmd
  repeat' (first
      | with_reducible rfl
      | simp only [apply_ite (State.blank F), ite_self, h_probes, probeTrace_blank, setProbe_blank]
      | split
      | (intro))

theorem capture_blank (s : State) (r : Nat) (t : Nat) (i : Nat) (o : CheckOutcome) (u_probe : F.has .probe) : (State.capture s r
    t i o).blank F = s.blank F := by
  unfold State.capture
  repeat' (first
      | with_reducible rfl
      | simp only [apply_ite (State.blank F), ite_self, u_probe, setAll_blank, List.all_cons, List.all_nil, Bool.and_self,
          unit_TP_CAPTURE_BAND, unit_TP_CAPTURE_CMDCNT, unit_TP_CAPTURE_DATAFLOW, unit_TP_CAPTURE_GTLO, unit_TP_CAPTURE_OUTCOME,
          unit_TP_CAPTURE_PA, unit_TP_CAPTURE_PB, unit_TP_CAPTURE_STEPS, unit_TP_CAPTURE_TA, unit_TP_CAPTURE_TB,
          unit_TP_CAPTURE_TENANT]
      | split
      | (intro))

theorem beginReading_blank (s : State) (r : Nat) (t : Nat) (i : Nat) (h_probes : F.probes) (h_flue : F.flue) :
    (State.beginReading s r t i).blank F = s.blank F := by
  unfold State.beginReading
  repeat' (first
      | with_reducible rfl
      | simp only [h_probes, h_flue, setSlot_blank, send_blank]
      | split
      | (intro))

theorem noteDecision_blank (s : State) (r : Nat) (t : Nat) (i : Nat) (o : CheckOutcome) (h_probes : F.probes)
    (h_pulses : F.pulses) (u_probe : F.has .probe) : (State.noteDecision s r t i o).blank F = s.blank F := by
  unfold State.noteDecision
  repeat' (first
      | with_reducible rfl
      | simp only [h_probes, h_pulses, u_probe, latchCounters_blank, traceCmd_blank, count_blank, setAll_blank, List.all_cons,
          List.all_nil, Bool.and_self, emit_blank, unit_TP_LAST_HTAG, unit_TP_LAST_OUTCOME, unit_TP_LAST_SLOT,
          unit_TP_LAST_TENANT]
      | split
      | (intro))

theorem moveDecided_blank (s : State) (r : Nat) (t : Nat) (i : Nat) (o : CheckOutcome) (h_probes : F.probes) (h_hubs : F.hubs)
    (h_flue : F.flue) (h_pulses : F.pulses) (u_hubIft : F.has .hubIft) (u_probe : F.has .probe) : (State.moveDecided s r t i
    o).blank F = s.blank F := by
  unfold State.moveDecided
  repeat' (first
      | with_reducible rfl
      | simp only [apply_ite (State.blank F), ite_self, h_probes, h_hubs, h_flue, h_pulses, u_hubIft, u_probe,
          makeReleasable_blank, failSlot_blank, setSlot_blank, raise_blank, modHub_blank, retryDecided_blank,
          beginReading_blank, unit_TP_EVENT_BANDSTOP]
      | split
      | (intro))

theorem execGateDecision_blank (region : Nat) (tile : Nat) (slot : Nat) (s : State) (h_probes : F.probes) (h_hubs : F.hubs)
    (h_flue : F.flue) (h_pulses : F.pulses) (u_hubIft : F.has .hubIft) (u_probe : F.has .probe) : Keeps F s (execGateDecision
    region tile slot s) := by
  unfold execGateDecision
  repeat' (first
      | with_reducible rfl
      | simp only [apply_ite (State.blank F), ite_self, keeps_next, h_probes, h_hubs, h_flue, h_pulses, u_hubIft, u_probe,
          coverage_blank, modProbe_blank, moveDecided_blank, noteDecision_blank, raise_blank, capture_blank,
          unit_TP_EVENT_CNTERR]
      | split
      | (intro))

theorem execSlotDrain_blank (region : Nat) (tile : Nat) (slot : Nat) (s : State) (h_probes : F.probes) (h_flue : F.flue)
    (u_probe : F.has .probe) : Keeps F s (execSlotDrain region tile slot s) := by
  unfold execSlotDrain
  repeat' (first
      | with_reducible rfl
      | simp only [keeps_next, h_probes, h_flue, u_probe, checkIdle_blank, raise_blank, setProbe_blank, unit_TP_EVENT_HDRERR]
      | split
      | (intro))

theorem refuseBlock_blank (s : State) (r : Nat) (t : Nat) (src : Nat) (tag : Nat) (reason : Nat) (fmtBad : Bool)
    (h_probes : F.probes) (h_pulses : F.pulses) (u_probe : F.has .probe) : (State.refuseBlock s r t src tag reason fmtBad).blank
    F = s.blank F := by
  unfold State.refuseBlock
  repeat' (first
      | with_reducible rfl
      | simp only [h_probes, h_pulses, u_probe, probeFault_blank, raise_blank, count_blank, setAll_blank, List.all_cons,
          List.all_nil, Bool.and_self, emit_blank, unit_TP_EVENT_OVERLAP, unit_TP_EVENT_TAGBAD, unit_TP_TAGERR_FMTBAD,
          unit_TP_TAGERR_REASON, unit_TP_TAGERR_SRCX, unit_TP_TAGERR_SRCY, unit_TP_TAGERR_TAG]
      | split
      | (intro))

theorem decideBlock_blank (s : State) (r : Nat) (t : Nat) (b : MeshOpen) (tag : Nat) (h_probes : F.probes) (h_pulses : F.pulses)
    (u_probe : F.has .probe) : (State.decideBlock s r t b tag).blank F = s.blank F := by
  unfold State.decideBlock
  repeat' (first
      | with_reducible rfl
      | simp only [apply_ite (State.blank F), ite_self, h_probes, h_pulses, u_probe, refuseBlock_blank, count_blank,
          setProbe_blank, emit_blank]
      | split
      | (intro))

theorem execMeshBlock_blank (region : Nat) (tile : Nat) (first : Bool) (last : Bool) (prot : Bool) (fmt : Nat) (nel : Nat)
    (data : Nat) (tag : Nat) (src : Nat) (line : Nat) (lines : Nat) (s : State) (h_probes : F.probes) (h_flue : F.flue)
    (h_pulses : F.pulses) (u_probe : F.has .probe) : Keeps F s (execMeshBlock region tile first last prot fmt nel data tag src
    line lines s) := by
  unfold execMeshBlock
  repeat' (first
      | with_reducible rfl
      | simp only [apply_ite (State.blank F), ite_self, keeps_next, h_probes, h_flue, h_pulses, u_probe, modProbe_blank,
          activity_blank, decideBlock_blank, clipBeat_blank]
      | split
      | (intro))

theorem execSramEccEvent_blank (region : Nat) (tile : Nat) (uncorrectable : Bool) (line : Nat) (s : State) (h_probes : F.probes)
    (u_probe : F.has .probe) : Keeps F s (execSramEccEvent region tile uncorrectable line s) := by
  unfold execSramEccEvent
  repeat' (first
      | with_reducible rfl
      | simp only [apply_ite (State.blank F), ite_self, keeps_next, h_probes, u_probe, modProbe_blank, probeFault_blank,
          setFence_blank, raise_blank, flagMove_blank, unit_TP_EVENT_ECCC, unit_TP_EVENT_ECCU]
      | split
      | (intro))

theorem fenceReq_blank (s : State) (r : Nat) (t : Nat) (h_probes : F.probes) (u_probe : F.has .probe) : (State.fenceReq s r
    t).blank F = s.blank F := by
  unfold State.fenceReq
  repeat' (first
      | with_reducible rfl
      | simp only [apply_ite (State.blank F), ite_self, h_probes, u_probe, probeFault_blank, setFence_blank, set_blank,
          unit_TP_CTRL_FENCE_REQ]
      | split
      | (intro))

theorem execFenceReq_blank (region : Nat) (tile : Nat) (ten : Nat) (tag : Nat) (s : State) (h_probes : F.probes)
    (h_pulses : F.pulses) (u_ghp : F.has .ghp) (u_probe : F.has .probe) : Keeps F s (execFenceReq region tile ten tag s) := by
  unfold execFenceReq
  repeat' (first
      | with_reducible rfl
      | simp only [implies_true, keeps_next, h_probes, u_probe, fenceReq_blank]
      | (with_reducible refine (hostWrite_blank _ _ _ _ _ _ _ (by first | assumption | exact u_all _) (by first | assumption | exact u_all _) ?_).trans ?_)
      | split
      | (intro))

theorem execRetryTimeout_blank (region : Nat) (tile : Nat) (s : State) (h_probes : F.probes) (u_probe : F.has .probe) : Keeps F
    s (execRetryTimeout region tile s) := by
  unfold execRetryTimeout
  repeat' (first
      | with_reducible rfl
      | simp only [keeps_next, h_probes, u_probe, probeFault_blank, setFence_blank, raise_blank, unit_TP_EVENT_RETRYTO]
      | split
      | (intro))

theorem execFaultFlitDepart_blank (region : Nat) (tile : Nat) (s : State) (h_probes : F.probes) (h_hubs : F.hubs)
    (u_hubFlt : F.has .hubFlt) (u_probe : F.has .probe) : Keeps F s (execFaultFlitDepart region tile s) := by
  unfold execFaultFlitDepart
  repeat' (first
      | with_reducible rfl
      | simp only [apply_ite (State.blank F), ite_self, keeps_next, h_probes, h_hubs, u_hubFlt, u_probe, retryOpens_blank,
          hubQueue_blank, count_blank, setProbe_blank]
      | split
      | (intro))

theorem execProbeGate_blank (region : Nat) (tile : Nat) (s : State) (h_probes : F.probes) (h_flue : F.flue) : Keeps F s
    (execProbeGate region tile s) := by
  unfold execProbeGate
  repeat' (first
      | with_reducible rfl
      | simp only [keeps_next, h_probes, h_flue, modProbe_blank, send_blank, sendActivity_blank]
      | split
      | (intro))

theorem execProbeWake_blank (region : Nat) (tile : Nat) (s : State) (h_probes : F.probes) : Keeps F s (execProbeWake region tile
    s) := by
  unfold execProbeWake
  repeat' (first
      | with_reducible rfl
      | simp only [keeps_next, h_probes, modProbe_blank]
      | split
      | (intro))

theorem copyOut_blank (s : State) (r : Nat) (t : Nat) (c : CopyOrder) (data : List Nat) (h_probes : F.probes) (h_flue : F.flue)
    (h_pulses : F.pulses) : (State.copyOut s r t c data).blank F = s.blank F := by
  unfold State.copyOut
  repeat' (first
      | with_reducible rfl
      | simp only [implies_true, apply_ite (State.blank F), ite_self, h_probes, h_flue, h_pulses, modProbe_blank, send_blank,
          emit_blank]
      | (with_reducible refine (foldl_blank _ _ _ ?_).trans ?_)
      | split
      | (intro))

theorem sendMoved_blank (s : State) (r : Nat) (t : Nat) (m : MoveState) (h_flue : F.flue) : (State.sendMoved s r t m).blank F =
    s.blank F := by
  unfold State.sendMoved
  repeat' (first
      | with_reducible rfl
      | simp only [h_flue, send_blank]
      | split
      | (intro))

theorem execXownAck_blank (region : Nat) (tile : Nat) (data : List Nat) (s : State) (h_probes : F.probes) (h_flue : F.flue)
    (h_pulses : F.pulses) (h_freeCtr : F.freeCtr) : Keeps F s (execXownAck region tile data s) := by
  unfold execXownAck
  repeat' (first
      | with_reducible rfl
      | simp only [implies_true, apply_ite (State.blank F), ite_self, keeps_next, h_probes, h_flue, h_pulses, h_freeCtr,
          fillSegment_blank, copyOut_blank, setProbe_blank, sendMoved_blank, emit_blank]
      | (with_reducible refine (foldl_blank _ _ _ ?_).trans ?_)
      | split
      | (intro))

theorem execMoveXownTimeout_blank (region : Nat) (tile : Nat) (s : State) (h_probes : F.probes) : Keeps F s (execMoveXownTimeout
    region tile s) := by
  unfold execMoveXownTimeout
  repeat' (first
      | with_reducible rfl
      | simp only [keeps_next, h_probes, setProbe_blank]
      | split
      | (intro))

theorem execCopyUnitArrive_blank (region : Nat) (tile : Nat) (beat : Nat) (data : Nat) (s : State) (h_probes : F.probes)
    (h_pulses : F.pulses) : Keeps F s (execCopyUnitArrive region tile beat data s) := by
  unfold execCopyUnitArrive
  repeat' (first
      | with_reducible rfl
      | simp only [keeps_next, h_probes, h_pulses, tryPresent_blank, setProbe_blank, emit_blank]
      | split
      | (intro))

theorem execMoveComplete_blank (region : Nat) (tile : Nat) (s : State) (h_probes : F.probes) (h_flue : F.flue) : Keeps F s
    (execMoveComplete region tile s) := by
  unfold execMoveComplete
  repeat' (first
      | with_reducible rfl
      | simp only [apply_ite (State.blank F), ite_self, keeps_next, h_probes, h_flue, setProbe_blank, sendMoved_blank]
      | split
      | (intro))

theorem execIcmdAccept_blank (region : Nat) (tile : Nat) (s : State) (h_probes : F.probes) (h_pulses : F.pulses) : Keeps F s
    (execIcmdAccept region tile s) := by
  unfold execIcmdAccept
  repeat' (first
      | with_reducible rfl
      | simp only [keeps_next, h_probes, h_pulses, setProbe_blank, emit_blank]
      | split
      | (intro))

theorem execCshkAck_blank (region : Nat) (tile : Nat) (s : State) (h_probes : F.probes) (h_flue : F.flue) (h_pulses : F.pulses)
    : Keeps F s (execCshkAck region tile s) := by
  unfold execCshkAck
  repeat' (first
      | with_reducible rfl
      | simp only [keeps_next, h_probes, h_flue, h_pulses, tryPresent_blank, setProbe_blank, modIft_blank, send_blank]
      | split
      | (intro))

theorem execCshkTimeout_blank (region : Nat) (tile : Nat) (s : State) (h_probes : F.probes) (h_flue : F.flue)
    (h_pulses : F.pulses) (h_freeCtr : F.freeCtr) (u_probe : F.has .probe) : Keeps F s (execCshkTimeout region tile s) := by
  unfold execCshkTimeout
  repeat' (first
      | with_reducible rfl
      | simp only [keeps_next, h_probes, h_flue, h_pulses, h_freeCtr, u_probe, endWalk_blank, driveCshk_blank, modIft_blank]
      | split
      | (intro))

theorem execMwSettleDone_blank (region : Nat) (tile : Nat) (s : State) (h_probes : F.probes) (h_flue : F.flue)
    (h_pulses : F.pulses) (h_freeCtr : F.freeCtr) : Keeps F s (execMwSettleDone region tile s) := by
  unfold execMwSettleDone
  repeat' (first
      | with_reducible rfl
      | simp only [keeps_next, h_probes, h_flue, h_pulses, h_freeCtr, requestSegment_blank, modIft_blank]
      | split
      | (intro))

theorem execStopLeafRise_blank (region : Nat) (tile : Option Nat) (s : State) (h_probes : F.probes) (h_hubs : F.hubs)
    (h_ldg : F.ldg) (h_flue : F.flue) (h_pulses : F.pulses) (u_ldg : F.has .ldg) (u_hubTr : F.has .hubTr) : Keeps F s
    (execStopLeafRise region tile s) := by
  unfold execStopLeafRise
  repeat' (first
      | with_reducible rfl
      | simp only [keeps_next, h_probes, h_hubs, h_ldg, h_flue, h_pulses, u_ldg, u_hubTr, modProbe_blank, traceStop_blank,
          modHub_blank]
      | split
      | (intro))

theorem walkBand_blank (s : State) (r : Nat) (t : Nat) (h_probes : F.probes) (h_flue : F.flue) (h_pulses : F.pulses)
    (h_freeCtr : F.freeCtr) (u_probe : F.has .probe) : (State.walkBand s r t).blank F = s.blank F := by
  unfold State.walkBand
  repeat' (first
      | with_reducible rfl
      | simp only [apply_ite (State.blank F), ite_self, h_probes, h_flue, h_pulses, h_freeCtr, u_probe, endWalk_blank,
          driveCshk_blank, startWalk_blank, modIft_blank, dropSlot0_blank]
      | split
      | (intro))

theorem walkBandSuspended_blank (s : State) (r : Nat) (t : Nat) (was : Nat) (h_probes : F.probes) (h_flue : F.flue)
    (h_pulses : F.pulses) (h_freeCtr : F.freeCtr) (u_probe : F.has .probe) : (State.walkBandSuspended s r t was).blank F =
    s.blank F := by
  unfold State.walkBandSuspended
  repeat' (first
      | with_reducible rfl
      | simp only [apply_ite (State.blank F), ite_self, h_probes, h_flue, h_pulses, h_freeCtr, u_probe, endWalk_blank,
          modIft_blank]
      | split
      | (intro))

theorem bandInput_blank (s : State) (r : Nat) (t : Nat) (band : Nat) (h_probes : F.probes) (h_flue : F.flue)
    (h_pulses : F.pulses) (h_freeCtr : F.freeCtr) (u_probe : F.has .probe) : (State.bandInput s r t band).blank F = s.blank F :=
    by
  unfold State.bandInput
  repeat' (first
      | with_reducible rfl
      | simp only [apply_ite (State.blank F), ite_self, h_probes, h_flue, h_pulses, h_freeCtr, u_probe, walkBand_blank,
          walkBandSuspended_blank, tryPresent_blank, resumeIft_blank, suspendIft_blank, setProbe_blank, modIft_blank]
      | split
      | (intro))

theorem execBandInputChange_blank (region : Nat) (tile : Nat) (band : Nat) (s : State) (h_probes : F.probes) (h_flue : F.flue)
    (h_pulses : F.pulses) (h_freeCtr : F.freeCtr) (u_probe : F.has .probe) : Keeps F s (execBandInputChange region tile band s)
    := by
  unfold execBandInputChange
  repeat' (first
      | with_reducible rfl
      | simp only [keeps_next, h_probes, h_flue, h_pulses, h_freeCtr, u_probe, bandInput_blank]
      | split
      | (intro))

theorem mergeInto_blank (s : State) (r : Reaction) (level : Nat) (src : Nat) (kind : Nat) (addr : Nat) (m : FaultMsg)
    (h_flt : F.flt) (u_flt : F.has .flt) : (State.mergeInto s r level src kind addr m).1.blank F = s.blank F := by
  unfold State.mergeInto
  repeat' (first
      | with_reducible rfl
      | simp only [h_flt, u_flt, setReact_blank, endComplete_blank]
      | split
      | (intro))

theorem takeFlit_blank (s : State) (m : FaultMsg) (h_hubs : F.hubs) (h_flt : F.flt) : (State.takeFlit s m).blank F = s.blank F
    := by
  unfold State.takeFlit
  repeat' (first
      | with_reducible rfl
      | simp only [blank_mk, apply_ite (State.blank F), ite_self, or_true, true_or, h_hubs, h_flt, modHub_blank]
      | split
      | (intro))

end Sys2Proof.Machine
end

