-- ==== Sys2Proof/Laws/FrameCatalogue.lean ====
section
/-! SUPPORT. For each operation of readings, in-field test and the Catalogue, and each command: which parts of the state it may change (every other part is
kept). -/

namespace Sys2Proof.Machine

open Sys2Proof

variable {F : Fields}

theorem setQueue_blank (s : State) (r : Nat) (c : Nat) (l : List ReadRec) (h_hubs : F.hubs) : (State.setQueue s r c l).blank F =
    s.blank F := by
  unfold State.setQueue
  repeat' (first
      | with_reducible rfl
      | simp only [h_hubs, modHub_blank]
      | split
      | (intro))

theorem modReads_blank (s : State) (r : Nat) (t : Nat) (f : ReadCount → ReadCount) (h_hubs : F.hubs) : (State.modReads s r t
    f).blank F = s.blank F := by
  unfold State.modReads
  repeat' (first
      | with_reducible rfl
      | simp only [h_hubs, modHub_blank]
      | split
      | (intro))

theorem dispatch_blank (s : State) (r : Nat) (c : Nat) (h_hubs : F.hubs) (h_flue : F.flue) : (State.dispatch s r c).blank F =
    s.blank F := by
  unfold State.dispatch
  repeat' (first
      | with_reducible rfl
      | simp only [apply_ite (State.blank F), ite_self, h_hubs, h_flue, setQueue_blank, modReads_blank, sendAll_blank,
          modHub_blank]
      | split
      | (intro))

theorem dispatchAll_blank (s : State) (r : Nat) (h_hubs : F.hubs) (h_flue : F.flue) : (State.dispatchAll s r).blank F = s.blank
    F := by
  unfold State.dispatchAll
  repeat' (first
      | with_reducible rfl
      | simp only [implies_true, h_hubs, h_flue, dispatch_blank]
      | (with_reducible refine (foldl_blank _ _ _ ?_).trans ?_)
      | split
      | (intro))

theorem setHubFolio_blank (s : State) (r : Nat) (f : HubFolio) (h_hubs : F.hubs) : (State.setHubFolio s r f).blank F = s.blank F
    := by
  unfold State.setHubFolio
  repeat' (first
      | with_reducible rfl
      | simp only [h_hubs, modHub_blank]
      | split
      | (intro))

theorem tryVote_blank (s : State) (r : Nat) (n : Nat) (h_hubs : F.hubs) (h_ldg : F.ldg) (h_flue : F.flue) (h_pulses : F.pulses)
    (u_ldg : F.has .ldg) (u_hubTr : F.has .hubTr) : (State.tryVote s r n).blank F = s.blank F := by
  unfold State.tryVote
  repeat' (first
      | with_reducible rfl
      | simp only [apply_ite (State.blank F), ite_self, h_hubs, h_ldg, h_flue, h_pulses, u_ldg, u_hubTr, traceFolio_blank,
          setHubFolio_blank, send_blank]
      | split
      | (intro))

theorem tryVotes_blank (s : State) (r : Nat) (h_hubs : F.hubs) (h_ldg : F.ldg) (h_flue : F.flue) (h_pulses : F.pulses)
    (u_ldg : F.has .ldg) (u_hubTr : F.has .hubTr) : (State.tryVotes s r).blank F = s.blank F := by
  unfold State.tryVotes
  repeat' (first
      | with_reducible rfl
      | simp only [implies_true, h_hubs, h_ldg, h_flue, h_pulses, u_ldg, u_hubTr, tryVote_blank]
      | (with_reducible refine (foldl_blank _ _ _ ?_).trans ?_)
      | split
      | (intro))

theorem afterReading_blank (s : State) (r : Nat) (h_hubs : F.hubs) (h_ldg : F.ldg) (h_flue : F.flue) (h_pulses : F.pulses)
    (u_ldg : F.has .ldg) (u_hubTr : F.has .hubTr) : (State.afterReading s r).blank F = s.blank F := by
  unfold State.afterReading
  repeat' (first
      | with_reducible rfl
      | simp only [h_hubs, h_ldg, h_flue, h_pulses, u_ldg, u_hubTr, dispatchAll_blank, tryVotes_blank]
      | split
      | (intro))

theorem execStopLeafFall_blank (region : Nat) (tile : Option Nat) (s : State) (h_probes : F.probes) (h_hubs : F.hubs)
    (h_ldg : F.ldg) (h_flue : F.flue) (h_pulses : F.pulses) (h_freeCtr : F.freeCtr) (u_ldg : F.has .ldg)
    (u_hubTr : F.has .hubTr) : Keeps F s (execStopLeafFall region tile s) := by
  unfold execStopLeafFall
  repeat' (first
      | with_reducible rfl
      | simp only [keeps_next, h_probes, h_hubs, h_ldg, h_flue, h_pulses, h_freeCtr, u_ldg, u_hubTr, afterReading_blank,
          modProbe_blank, traceStop_blank, beginSegment_blank, tryPresent_blank, resumeIft_blank, modHub_blank]
      | split
      | (intro))

theorem modWalk_blank (s : State) (r : Nat) (c : Nat) (f : WalkState → WalkState) (h_hubs : F.hubs) : (State.modWalk s r c
    f).blank F = s.blank F := by
  unfold State.modWalk
  repeat' (first
      | with_reducible rfl
      | simp only [h_hubs, modHub_blank]
      | split
      | (intro))

theorem dropRec_blank (s : State) (r : Nat) (c : Nat) (x : ReadRec) (h_hubs : F.hubs) : (State.dropRec s r c x).blank F =
    s.blank F := by
  unfold State.dropRec
  repeat' (first
      | with_reducible rfl
      | simp only [apply_ite (State.blank F), ite_self, h_hubs, setQueue_blank, modWalk_blank]
      | split
      | (intro))

theorem sendAgree_blank (s : State) (r : Nat) (x : ReadRec) (unread : Bool) (h_hubs : F.hubs) (h_flue : F.flue) :
    (State.sendAgree s r x unread).blank F = s.blank F := by
  unfold State.sendAgree
  repeat' (first
      | with_reducible rfl
      | simp only [h_hubs, h_flue, modHub_blank, send_blank]
      | split
      | (intro))

theorem releaseUnread_blank (s : State) (r : Nat) (x : ReadRec) (h_hubs : F.hubs) (h_flue : F.flue) (u_hubRd : F.has .hubRd) :
    (State.releaseUnread s r x).blank F = s.blank F := by
  unfold State.releaseUnread
  repeat' (first
      | with_reducible rfl
      | simp only [h_hubs, h_flue, u_hubRd, modReads_blank, raise_blank, sendAgree_blank, unit_RH_RD_EVENT_NOREADER]
      | split
      | (intro))

theorem place_blank (s : State) (r : Nat) (x : ReadRec) (front : Bool) (h_hubs : F.hubs) (h_flue : F.flue)
    (u_hubRd : F.has .hubRd) : (State.place s r x front).blank F = s.blank F := by
  unfold State.place
  repeat' (first
      | with_reducible rfl
      | simp only [h_hubs, h_flue, u_hubRd, setQueue_blank, releaseUnread_blank, dispatch_blank]
      | split
      | (intro))

theorem abortAt_blank (s : State) (r : Nat) (l : List Nat) (h_flue : F.flue) : (State.abortAt s r l).blank F = s.blank F := by
  unfold State.abortAt
  repeat' (first
      | with_reducible rfl
      | simp only [h_flue, sendAll_blank]
      | split
      | (intro))

theorem traceReading_blank (s : State) (r : Nat) (x : ReadRec) (e : Nat) (h_hubs : F.hubs) (h_ldg : F.ldg) (h_flue : F.flue)
    (h_pulses : F.pulses) (u_ldg : F.has .ldg) (u_hubTr : F.has .hubTr) : (State.traceReading s r x e).blank F = s.blank F := by
  unfold State.traceReading
  repeat' (first
      | with_reducible rfl
      | simp only [h_hubs, h_ldg, h_flue, h_pulses, u_ldg, u_hubTr, hubTrace_blank]
      | split
      | (intro))

theorem abandon_blank (s : State) (r : Nat) (c : Nat) (x : ReadRec) (toWorker : Bool) (h_hubs : F.hubs) (h_ldg : F.ldg)
    (h_flue : F.flue) (h_pulses : F.pulses) (u_ldg : F.has .ldg) (u_hubRd : F.has .hubRd) (u_hubTr : F.has .hubTr) :
    (State.abandon s r c x toWorker).blank F = s.blank F := by
  unfold State.abandon
  repeat' (first
      | with_reducible rfl
      | simp only [h_hubs, h_ldg, h_flue, h_pulses, u_ldg, u_hubRd, u_hubTr, abortAt_blank, modReads_blank, traceReading_blank,
          raise_blank, dropRec_blank, unit_RH_RD_EVENT_ABANDON]
      | split
      | (intro))

theorem abandonIf_blank (s : State) (r : Nat) (test : ReadRec → Bool) (toWorker : Bool) (h_hubs : F.hubs) (h_ldg : F.ldg)
    (h_flue : F.flue) (h_pulses : F.pulses) (u_ldg : F.has .ldg) (u_hubRd : F.has .hubRd) (u_hubTr : F.has .hubTr) :
    (State.abandonIf s r test toWorker).blank F = s.blank F := by
  unfold State.abandonIf
  repeat' (first
      | with_reducible rfl
      | simp only [implies_true, h_hubs, h_ldg, h_flue, h_pulses, u_ldg, u_hubRd, u_hubTr, abandon_blank]
      | (with_reducible refine (foldl_blank _ _ _ ?_).trans ?_)
      | split
      | (intro))

theorem reapReadings_blank (s : State) (r : Nat) (h_hubs : F.hubs) (h_ldg : F.ldg) (h_flue : F.flue) (h_pulses : F.pulses)
    (u_ldg : F.has .ldg) (u_hubRd : F.has .hubRd) (u_hubTr : F.has .hubTr) : (State.reapReadings s r).blank F = s.blank F := by
  unfold State.reapReadings
  repeat' (first
      | with_reducible rfl
      | simp only [h_hubs, h_ldg, h_flue, h_pulses, u_ldg, u_hubRd, u_hubTr, dispatchAll_blank, abandonIf_blank]
      | split
      | (intro))

theorem agreeReading_blank (s : State) (r : Nat) (x : ReadRec) (h_hubs : F.hubs) (h_flue : F.flue) : (State.agreeReading s r
    x).blank F = s.blank F := by
  unfold State.agreeReading
  repeat' (first
      | with_reducible rfl
      | simp only [h_hubs, h_flue, modReads_blank, setBook_blank, sendAgree_blank]
      | split
      | (intro))

theorem reportWorker_blank (s : State) (r : Nat) (x : ReadRec) (h_flue : F.flue) : (State.reportWorker s r x).blank F = s.blank
    F := by
  unfold State.reportWorker
  repeat' (first
      | with_reducible rfl
      | simp only [h_flue, sendAll_blank]
      | split
      | (intro))

theorem noteDisagreement_blank (s : State) (r : Nat) (x : ReadRec) (third : Option (Nat × Nat × Nat)) (result : Nat)
    (u_hubRd : F.has .hubRd) : (State.noteDisagreement s r x third result).blank F = s.blank F := by
  unfold State.noteDisagreement
  repeat' (first
      | with_reducible rfl
      | simp only [u_hubRd, setAll_blank, List.all_cons, List.all_nil, Bool.and_self, unit_RH_RD_LAST_GROW, unit_RH_RD_LAST_GSA,
          unit_RH_RD_LAST_GSB, unit_RH_RD_LAST_HTAG, unit_RH_RD_LAST_RESULT, unit_RH_RD_LAST_TCOL, unit_RH_RD_LAST_TENANT,
          unit_RH_RD_LAST_TROW, unit_RH_RD_LAST_TSA, unit_RH_RD_LAST_TSB, unit_RH_RD_LAST_TVALID, unit_RH_RD_LAST_WCOL,
          unit_RH_RD_LAST_WROW, unit_RH_RD_LAST_WSA, unit_RH_RD_LAST_WSB]
      | split
      | (intro))

theorem noMajority_blank (s : State) (r : Nat) (x : ReadRec) (third : Option (Nat × Nat × Nat)) (h_hubs : F.hubs)
    (h_ldg : F.ldg) (h_bru : F.bru) (h_flue : F.flue) (h_pulses : F.pulses) (u_ldg : F.has .ldg) (u_hubRd : F.has .hubRd)
    (u_hubFl : F.has .hubFl) (u_hubFlt : F.has .hubFlt) (u_hubTr : F.has .hubTr) : (State.noMajority s r x third).blank F =
    s.blank F := by
  unfold State.noMajority
  repeat' (first
      | with_reducible rfl
      | simp only [apply_ite (State.blank F), ite_self, h_hubs, h_ldg, h_bru, h_flue, h_pulses, u_ldg, u_hubRd, u_hubFl,
          u_hubFlt, u_hubTr, modReads_blank, requestQuench_blank, traceReading_blank, hubFault_blank, raise_blank,
          noteDisagreement_blank, reportWorker_blank, send_blank, unit_RH_RD_EVENT_NOMAJ, unit_RH_RD_EVENT_NOTHIRD]
      | split
      | (intro))

theorem majority_blank (s : State) (r : Nat) (x : ReadRec) (t : Nat × Nat × Nat) (h_hubs : F.hubs) (h_ldg : F.ldg)
    (h_bru : F.bru) (h_flue : F.flue) (h_pulses : F.pulses) (u_ldg : F.has .ldg) (u_hubRd : F.has .hubRd)
    (u_hubFl : F.has .hubFl) (u_hubFlt : F.has .hubFlt) (u_hubTr : F.has .hubTr) : (State.majority s r x t).blank F = s.blank F
    := by
  unfold State.majority
  repeat' (first
      | with_reducible rfl
      | simp only [apply_ite (State.blank F), ite_self, h_hubs, h_ldg, h_bru, h_flue, h_pulses, u_ldg, u_hubRd, u_hubFl,
          u_hubFlt, u_hubTr, noMajority_blank, agreeReading_blank, modReads_blank, traceReading_blank, hubFault_blank,
          raise_blank, noteDisagreement_blank, reportWorker_blank, send_blank, unit_RH_RD_EVENT_RDMIN, unit_RH_RD_EVENT_WKMIN]
      | split
      | (intro))

theorem openThird_blank (s : State) (r : Nat) (x : ReadRec) (h_hubs : F.hubs) (h_ldg : F.ldg) (h_bru : F.bru) (h_flue : F.flue)
    (h_pulses : F.pulses) (u_ldg : F.has .ldg) (u_hubRd : F.has .hubRd) (u_hubFl : F.has .hubFl) (u_hubFlt : F.has .hubFlt)
    (u_hubTr : F.has .hubTr) : (State.openThird s r x).blank F = s.blank F := by
  unfold State.openThird
  repeat' (first
      | with_reducible rfl
      | simp only [h_hubs, h_ldg, h_bru, h_flue, h_pulses, u_ldg, u_hubRd, u_hubFl, u_hubFlt, u_hubTr, setQueue_blank,
          noMajority_blank, dispatch_blank]
      | split
      | (intro))

theorem readerFault_blank (s : State) (r : Nat) (c : Nat) (x : ReadRec) (bounced : Bool) (h_hubs : F.hubs) (h_ldg : F.ldg)
    (h_bru : F.bru) (h_flue : F.flue) (h_pulses : F.pulses) (u_ldg : F.has .ldg) (u_hubRd : F.has .hubRd)
    (u_hubFl : F.has .hubFl) (u_hubFlt : F.has .hubFlt) (u_hubTr : F.has .hubTr) : (State.readerFault s r c x bounced).blank F =
    s.blank F := by
  unfold State.readerFault
  repeat' (first
      | with_reducible rfl
      | simp only [apply_ite (State.blank F), ite_self, h_hubs, h_ldg, h_bru, h_flue, h_pulses, u_ldg, u_hubRd, u_hubFl,
          u_hubFlt, u_hubTr, abortAt_blank, place_blank, openThird_blank, dropRec_blank]
      | split
      | (intro))

theorem reported_blank (s : State) (r : Nat) (c : Nat) (x : ReadRec) (t : Nat × Nat × Nat) (h_hubs : F.hubs) (h_ldg : F.ldg)
    (h_bru : F.bru) (h_flue : F.flue) (h_pulses : F.pulses) (u_ldg : F.has .ldg) (u_hubRd : F.has .hubRd)
    (u_hubFl : F.has .hubFl) (u_hubFlt : F.has .hubFlt) (u_hubTr : F.has .hubTr) : (State.reported s r c x t).blank F = s.blank
    F := by
  unfold State.reported
  repeat' (first
      | with_reducible rfl
      | simp only [apply_ite (State.blank F), ite_self, h_hubs, h_ldg, h_bru, h_flue, h_pulses, u_ldg, u_hubRd, u_hubFl,
          u_hubFlt, u_hubTr, agreeReading_blank, traceReading_blank, raise_blank, openThird_blank, majority_blank,
          dropRec_blank, unit_RH_RD_EVENT_DISAGREE]
      | split
      | (intro))

theorem rehome_blank (s : State) (r : Nat) (h_hubs : F.hubs) (h_ldg : F.ldg) (h_bru : F.bru) (h_flue : F.flue)
    (h_pulses : F.pulses) (u_ldg : F.has .ldg) (u_hubRd : F.has .hubRd) (u_hubFl : F.has .hubFl) (u_hubFlt : F.has .hubFlt)
    (u_hubTr : F.has .hubTr) : (State.rehome s r).blank F = s.blank F := by
  unfold State.rehome
  repeat' (first
      | with_reducible rfl
      | simp only [implies_true, apply_ite (State.blank F), ite_self, h_hubs, h_ldg, h_bru, h_flue, h_pulses, u_ldg, u_hubRd,
          u_hubFl, u_hubFlt, u_hubTr, place_blank, readerFault_blank, openThird_blank, dropRec_blank]
      | (with_reducible refine (foldl_blank _ _ _ ?_).trans ?_)
      | split
      | (intro))

theorem voteVoid_blank (s : State) (r : Nat) (n : Nat) (code : Nat) (h_hubs : F.hubs) (h_ldg : F.ldg) (h_flue : F.flue)
    (h_pulses : F.pulses) (u_ldg : F.has .ldg) (u_hubFl : F.has .hubFl) (u_hubTr : F.has .hubTr) : (State.voteVoid s r n
    code).blank F = s.blank F := by
  unfold State.voteVoid
  repeat' (first
      | with_reducible rfl
      | simp only [apply_ite (State.blank F), ite_self, h_hubs, h_ldg, h_flue, h_pulses, u_ldg, u_hubFl, u_hubTr,
          hubVoteVoid_blank]
      | split
      | (intro))

theorem holdColumn_blank (s : State) (r : Nat) (n : Nat) (a : Act) (h_hubs : F.hubs) (h_flue : F.flue) : (State.holdColumn s r n
    a).blank F = s.blank F := by
  unfold State.holdColumn
  repeat' (first
      | with_reducible rfl
      | simp only [h_hubs, h_flue, modWalk_blank, sendAll_blank, send_blank]
      | split
      | (intro))

theorem startVisitMsg_blank (s : State) (r : Nat) (c : Nat) (h_flue : F.flue) : (State.startVisitMsg s r c).blank F = s.blank F
    := by
  unfold State.startVisitMsg
  repeat' (first
      | with_reducible rfl
      | simp only [h_flue, send_blank]
      | split
      | (intro))

theorem stepVoided_blank (s : State) (r : Nat) (c : Nat) (h_hubs : F.hubs) (u_hubCat : F.has .hubCat) : (State.stepVoided s r
    c).blank F = s.blank F := by
  unfold State.stepVoided
  repeat' (first
      | with_reducible rfl
      | simp only [implies_true, apply_ite (State.blank F), h_hubs, u_hubCat, modWalk_blank, raise_blank, modHub_blank,
          unit_RH_CAT_EVENT_TRMISS]
      | (with_reducible refine (foldl_blank _ _ _ ?_).trans ?_)
      | split
      | (intro))

theorem releaseColumn_blank (s : State) (r : Nat) (a : Act) (h_hubs : F.hubs) (h_flue : F.flue) (u_hubCat : F.has .hubCat) :
    (State.releaseColumn s r a).blank F = s.blank F := by
  unfold State.releaseColumn
  repeat' (first
      | with_reducible rfl
      | simp only [apply_ite (State.blank F), ite_self, h_hubs, h_flue, u_hubCat, modWalk_blank, stepVoided_blank,
          dispatch_blank, sendAll_blank, startVisitMsg_blank]
      | split
      | (intro))

theorem hubPrepare_blank (s : State) (r : Nat) (f : HubFolio) (h_hubs : F.hubs) (h_ldg : F.ldg) (h_flue : F.flue)
    (h_pulses : F.pulses) (u_ldg : F.has .ldg) (u_hubFl : F.has .hubFl) (u_hubTr : F.has .hubTr) : (State.hubPrepare s r
    f).blank F = s.blank F := by
  unfold State.hubPrepare
  repeat' (first
      | with_reducible rfl
      | simp only [implies_true, apply_ite (State.blank F), h_hubs, h_ldg, h_flue, h_pulses, u_ldg, u_hubFl, u_hubTr,
          hubVoteVoid_blank, traceFolio_blank, setHubFolio_blank, tryVote_blank, holdColumn_blank]
      | (with_reducible refine (foldl_blank _ _ _ ?_).trans ?_)
      | split
      | (intro))

theorem hubSeal_blank (s : State) (r : Nat) (f : HubFolio) (t : Nat) (replay : Bool) (h_hubs : F.hubs) (h_ldg : F.ldg)
    (h_flue : F.flue) (h_pulses : F.pulses) (u_ldg : F.has .ldg) (u_hubTr : F.has .hubTr) : (State.hubSeal s r f t replay).blank
    F = s.blank F := by
  unfold State.hubSeal
  repeat' (first
      | with_reducible rfl
      | simp only [h_hubs, h_ldg, h_flue, h_pulses, u_ldg, u_hubTr, traceFolio_blank, setHubFolio_blank, sendAll_blank]
      | split
      | (intro))

theorem endVisitAt_blank (s : State) (r : Nat) (t : Nat) (gt : Nat) (h_hubs : F.hubs) : (State.endVisitAt s r t gt).blank F =
    s.blank F := by
  unfold State.endVisitAt
  repeat' (first
      | with_reducible rfl
      | simp only [h_hubs, setBook_blank]
      | split
      | (intro))

theorem proposeSteps_blank (s : State) (r : Nat) (cols : List Nat) (h_hubs : F.hubs) (h_flue : F.flue) (u_hubRd : F.has .hubRd)
    : (State.proposeSteps s r cols).blank F = s.blank F := by
  unfold State.proposeSteps
  repeat' (first
      | with_reducible rfl
      | simp only [implies_true, apply_ite (State.blank F), ite_self, h_hubs, h_flue, u_hubRd, modWalk_blank, hubPropose_blank,
          raise_blank, unit_RH_RD_EVENT_IFTSHORT]
      | (with_reducible refine (foldl_blank _ _ _ ?_).trans ?_)
      | split
      | (intro))

theorem conseqFault_blank (s : State) (unit : Nat) (kind : Nat) (addr : Nat) (number : Nat)
    (notices : List (Nat × Nat × Nat × Nat)) (h_flt : F.flt) : (State.conseqFault s unit kind addr number notices).blank F =
    s.blank F := by
  unfold State.conseqFault
  repeat' (first
      | with_reducible rfl
      | simp only [blank_mk, or_true, true_or, h_flt]
      | split
      | (intro))

theorem sendCatReport_blank (s : State) (r : Nat) (c : Nat) (h_flue : F.flue) : (State.sendCatReport s r c).blank F = s.blank F
    := by
  unfold State.sendCatReport
  repeat' (first
      | with_reducible rfl
      | simp only [h_flue, send_blank]
      | split
      | (intro))

theorem columnChanged_blank (s : State) (r : Nat) (number : Nat) (old : CatPart) (ch : ColChange) (h_hubs : F.hubs)
    (h_flt : F.flt) (h_flue : F.flue) (u_hubCat : F.has .hubCat) : (State.columnChanged s r number old ch).blank F = s.blank F
    := by
  unfold State.columnChanged
  repeat' (first
      | with_reducible rfl
      | simp only [apply_ite (State.blank F), ite_self, h_hubs, h_flt, h_flue, u_hubCat, modWalk_blank, conseqFault_blank,
          raise_blank, sendCatReport_blank, unit_RH_CAT_EVENT_CLOSE, unit_RH_CAT_EVENT_EXHAUST, unit_RH_CAT_EVENT_PARK]
      | split
      | (intro))

theorem moveVisit_blank (s : State) (r : Nat) (old : CatPart) (ch : ColChange) (gt : Nat) (h_hubs : F.hubs) (h_flue : F.flue) :
    (State.moveVisit s r old ch gt).blank F = s.blank F := by
  unfold State.moveVisit
  repeat' (first
      | with_reducible rfl
      | simp only [apply_ite (State.blank F), h_hubs, h_flue, endVisitAt_blank, setBook_blank, startVisitMsg_blank]
      | split
      | (intro))

theorem applyHubAct_blank (s : State) (r : Nat) (f : HubFolio) (a : Act) (h_hubs : F.hubs) (h_seeds : F.seeds) (h_ldg : F.ldg)
    (h_tally : F.tally) (h_vault : F.vault) (h_colo : F.colo) (h_sys : F.sys) (h_flue : F.flue) (h_pulses : F.pulses)
    (h_freeCtr : F.freeCtr) (u_ldg : F.has .ldg) (u_tenant : F.has .tenant) (u_hubRd : F.has .hubRd) (u_hubTr : F.has .hubTr) :
    (State.applyHubAct s r f a).blank F = s.blank F := by
  unfold State.applyHubAct
  repeat' (first
      | with_reducible rfl
      | simp only [apply_ite (State.blank F), ite_self, h_hubs, h_seeds, h_ldg, h_tally, h_vault, h_colo, h_sys, h_flue,
          h_pulses, h_freeCtr, u_ldg, u_tenant, u_hubRd, u_hubTr, activate_blank, abandonIf_blank, sendAll_blank, modHub_blank,
          sweepHub_blank]
      | split
      | (intro))

theorem tenantDrop_blank (s : State) (r : Nat) (t : Nat) (tenant : Nat) (h_probes : F.probes) (h_hubs : F.hubs)
    (h_flue : F.flue) (h_pulses : F.pulses) (u_hubIft : F.has .hubIft) (u_probe : F.has .probe) : (State.tenantDrop s r t
    tenant).blank F = s.blank F := by
  unfold State.tenantDrop
  repeat' (first
      | with_reducible rfl
      | simp only [h_probes, h_hubs, h_flue, h_pulses, u_hubIft, u_probe, modProbe_blank, removeCtx_blank, dropSlots_blank]
      | split
      | (intro))

theorem dropsAt_blank (s : State) (r : Nat) (gt : Nat) (h_probes : F.probes) (h_hubs : F.hubs) (h_flue : F.flue)
    (h_pulses : F.pulses) (u_hubIft : F.has .hubIft) (u_probe : F.has .probe) : (State.dropsAt s r gt).blank F = s.blank F := by
  unfold State.dropsAt
  repeat' (first
      | with_reducible rfl
      | simp only [implies_true, h_probes, h_hubs, h_flue, h_pulses, u_hubIft, u_probe, modProbe_blank, dropSlots_blank,
          tenantDrop_blank]
      | (with_reducible refine (foldl_blank _ _ _ ?_).trans ?_)
      | split
      | (intro))

theorem takeRoles_blank (s : State) (r : Nat) (gt : Nat) (h_probes : F.probes) (h_flue : F.flue) (h_pulses : F.pulses)
    (u_probe : F.has .probe) : (State.takeRoles s r gt).blank F = s.blank F := by
  unfold State.takeRoles
  repeat' (first
      | with_reducible rfl
      | simp only [implies_true, h_probes, h_flue, h_pulses, u_probe, takeRole_blank]
      | (with_reducible refine (foldl_blank _ _ _ ?_).trans ?_)
      | split
      | (intro))

theorem applyMaster_blank (s : State) (r : Nat) (number : Nat) (acts : List Act) (h_master : F.master) (h_colo : F.colo) :
    (State.applyMaster s r number acts).blank F = s.blank F := by
  unfold State.applyMaster
  repeat' (first
      | with_reducible rfl
      | simp only [blank_mk, apply_ite (State.blank F), ite_self, or_true, true_or, h_master, h_colo, noteStays_blank]
      | split
      | (intro))

theorem countQuenches_blank (s : State) (r : Nat) (old : CatPart) (acts : List Act) (h_hubs : F.hubs) : (State.countQuenches s r
    old acts).blank F = s.blank F := by
  unfold State.countQuenches
  repeat' (first
      | with_reducible rfl
      | simp only [implies_true, h_hubs, modHub_blank]
      | (with_reducible refine (foldl_blank _ _ _ ?_).trans ?_)
      | split
      | (intro))

theorem traceCat_blank (s : State) (r : Nat) (t : Nat) (isPartial : Bool) (h_hubs : F.hubs) (h_ldg : F.ldg) (h_flue : F.flue)
    (h_pulses : F.pulses) (u_ldg : F.has .ldg) (u_hubTr : F.has .hubTr) : (State.traceCat s r t isPartial).blank F = s.blank F
    := by
  unfold State.traceCat
  repeat' (first
      | with_reducible rfl
      | simp only [h_hubs, h_ldg, h_flue, h_pulses, u_ldg, u_hubTr, hubTrace_blank]
      | split
      | (intro))

theorem applyHub_blank (s : State) (r : Nat) (f : HubFolio) (h_probes : F.probes) (h_hubs : F.hubs) (h_master : F.master)
    (h_seeds : F.seeds) (h_flt : F.flt) (h_ldg : F.ldg) (h_tally : F.tally) (h_vault : F.vault) (h_colo : F.colo)
    (h_sys : F.sys) (h_bru : F.bru) (h_flue : F.flue) (h_pulses : F.pulses) (h_freeCtr : F.freeCtr) (u_ldg : F.has .ldg)
    (u_tenant : F.has .tenant) (u_hubRd : F.has .hubRd) (u_hubIft : F.has .hubIft) (u_hubCat : F.has .hubCat)
    (u_hubFl : F.has .hubFl) (u_hubFlt : F.has .hubFlt) (u_hubTr : F.has .hubTr) (u_probe : F.has .probe) : (State.applyHub s r
    f).blank F = s.blank F := by
  unfold State.applyHub
  repeat' (first
      | with_reducible rfl
      | simp only [implies_true, apply_ite (State.blank F), ite_self, h_probes, h_hubs, h_master, h_seeds, h_flt, h_ldg,
          h_tally, h_vault, h_colo, h_sys, h_bru, h_flue, h_pulses, h_freeCtr, u_ldg, u_tenant, u_hubRd, u_hubIft, u_hubCat,
          u_hubFl, u_hubFlt, u_hubTr, u_probe, bump_blank, moveVisit_blank, dispatchAll_blank, applyHubAct_blank,
          applyMaster_blank, rehome_blank, tryVotes_blank, hubFault_blank, columnChanged_blank, traceCat_blank, raise_blank,
          traceFolio_blank, takeRoles_blank, modHub_blank, reapReadings_blank, send_blank, dropsAt_blank, countQuenches_blank,
          unit_RH_FL_EVENT_LATE, unit_RH_FL_EVENT_REPLAY, unit_RH_FL_LATE_COUNT]
      | (with_reducible refine (foldl_blank _ _ _ ?_).trans ?_)
      | split
      | (intro))

theorem execRdReq_blank (region : Nat) (tile : Nat) (slot : Nat) (hdr : Hdr) (sa : Nat) (sb : Nat) (beats : Nat) (u : Nat)
    (dom : Nat) (count : Nat) (gtlo : Nat) (s : State) (h_hubs : F.hubs) (h_flue : F.flue) (u_hubRd : F.has .hubRd) : Keeps F s
    (execRdReq region tile slot hdr sa sb beats u dom count gtlo s) := by
  unfold execRdReq
  repeat' (first
      | with_reducible rfl
      | simp only [keeps_next, h_hubs, h_flue, u_hubRd, place_blank, recv_blank]
      | split
      | (intro))

theorem execRdCopy_blank (region : Nat) (tile : Nat) (acc : Nat) (flue : Bool) (dir : Nat) (slot : Nat) (s : State)
    (h_probes : F.probes) (h_flue : F.flue) (u_hubCat : F.has .hubCat) : Keeps F s (execRdCopy region tile acc flue dir slot s)
    := by
  unfold execRdCopy
  repeat' (first
      | with_reducible rfl
      | simp only [implies_true, apply_ite (State.blank F), ite_self, keeps_next, h_probes, setProbe_blank]
      | (with_reducible refine (atProbe_blank _ _ _ _ _ _ (by first | assumption | exact u_all _) (by first | assumption | exact u_all _) (by first | assumption | exact u_all _) ?_).trans ?_)
      | split
      | (intro))

theorem execRdOrder_blank (region : Nat) (tile : Nat) (acc : Nat) (flue : Bool) (hdr : Hdr) (units : Nat) (hops : Nat)
    (dir : Nat) (count : Nat) (u : Nat) (dom : Nat) (s : State) (h_probes : F.probes) (h_flue : F.flue) (h_pulses : F.pulses)
    (u_hubCat : F.has .hubCat) : Keeps F s (execRdOrder region tile acc flue hdr units hops dir count u dom s) := by
  unfold execRdOrder
  repeat' (first
      | with_reducible rfl
      | simp only [implies_true, keeps_next, h_probes, h_pulses, modProbe_blank, tryPresent_blank, suspendIft_blank]
      | (with_reducible refine (atProbe_blank _ _ _ _ _ _ (by first | assumption | exact u_all _) (by first | assumption | exact u_all _) (by first | assumption | exact u_all _) ?_).trans ?_)
      | split
      | (intro))

theorem execReaderSignatureClose_blank (region : Nat) (tile : Nat) (s : State) (h_probes : F.probes) (h_flue : F.flue)
    (h_pulses : F.pulses) (h_freeCtr : F.freeCtr) : Keeps F s (execReaderSignatureClose region tile s) := by
  unfold execReaderSignatureClose
  repeat' (first
      | with_reducible rfl
      | simp only [keeps_next, h_probes, h_flue, h_pulses, h_freeCtr, send_blank, endReader_blank]
      | split
      | (intro))

theorem execRdReport_blank (region : Nat) (tile : Nat) (sa : Nat) (sb : Nat) (beats : Nat) (readerFault : Bool) (s : State)
    (h_hubs : F.hubs) (h_ldg : F.ldg) (h_bru : F.bru) (h_flue : F.flue) (h_pulses : F.pulses) (u_ldg : F.has .ldg)
    (u_hubRd : F.has .hubRd) (u_hubFl : F.has .hubFl) (u_hubFlt : F.has .hubFlt) (u_hubTr : F.has .hubTr) : Keeps F s
    (execRdReport region tile sa sb beats readerFault s) := by
  unfold execRdReport
  repeat' (first
      | with_reducible rfl
      | simp only [apply_ite (State.blank F), ite_self, keeps_next, h_hubs, h_ldg, h_bru, h_flue, h_pulses, u_ldg, u_hubRd,
          u_hubFl, u_hubFlt, u_hubTr, afterReading_blank, reported_blank, readerFault_blank, recv_blank]
      | split
      | (intro))

theorem execRdAgree_blank (region : Nat) (tile : Nat) (acc : Nat) (slot : SlotTag) (unread : Bool) (s : State)
    (h_probes : F.probes) (h_hubs : F.hubs) (h_flue : F.flue) (h_pulses : F.pulses) (u_hubRd : F.has .hubRd)
    (u_hubIft : F.has .hubIft) (u_hubCat : F.has .hubCat) (u_probe : F.has .probe) : Keeps F s (execRdAgree region tile acc slot
    unread s) := by
  unfold execRdAgree
  repeat' (first
      | with_reducible rfl
      | simp only [implies_true, apply_ite (State.blank F), ite_self, keeps_next, h_probes, h_hubs, h_flue, h_pulses, u_hubRd,
          u_hubIft, u_probe, makeReleasable_blank, setSlot_blank, modReads_blank, raise_blank, unit_RH_RD_EVENT_OVERRUN]
      | (with_reducible refine (atProbe_blank _ _ _ _ _ _ (by first | assumption | exact u_all _) (by first | assumption | exact u_all _) (by first | assumption | exact u_all _) ?_).trans ?_)
      | split
      | (intro))

theorem execRdDiscard_blank (region : Nat) (tile : Nat) (acc : Nat) (slot : SlotTag) (fence : Bool) (reason : Nat)
    (s : State) (h_probes : F.probes) (h_hubs : F.hubs) (h_flue : F.flue) (h_pulses : F.pulses) (u_hubIft : F.has .hubIft)
    (u_hubCat : F.has .hubCat) (u_probe : F.has .probe) : Keeps F s (execRdDiscard region tile acc slot fence reason s) :=
    by
  unfold execRdDiscard
  repeat' (first
      | with_reducible rfl
      | simp only [implies_true, apply_ite (State.blank F), ite_self, keeps_next, h_probes, h_hubs, h_flue, h_pulses, u_hubIft,
          u_probe, modProbe_blank, checkIdle_blank, discardSlot_blank, setFence_blank, kickRelease_blank]
      | (with_reducible refine (atProbe_blank _ _ _ _ _ _ (by first | assumption | exact u_all _) (by first | assumption | exact u_all _) (by first | assumption | exact u_all _) ?_).trans ?_)
      | split
      | (intro))

theorem execRdAbort_blank (region : Nat) (tile : Nat) (acc : Nat) (s : State) (h_probes : F.probes) (h_flue : F.flue)
    (h_pulses : F.pulses) (h_freeCtr : F.freeCtr) (u_hubCat : F.has .hubCat) : Keeps F s (execRdAbort region tile acc s) := by
  unfold execRdAbort
  repeat' (first
      | with_reducible rfl
      | simp only [implies_true, apply_ite (State.blank F), ite_self, keeps_next, h_probes, h_flue, h_pulses, h_freeCtr,
          modProbe_blank, endReader_blank]
      | (with_reducible refine (atProbe_blank _ _ _ _ _ _ (by first | assumption | exact u_all _) (by first | assumption | exact u_all _) (by first | assumption | exact u_all _) ?_).trans ?_)
      | split
      | (intro))

theorem execRdData_blank (region : Nat) (atReader : Option Nat) (worker : Nat) (acc : Nat) (unit : Nat) (data : Nat) (s : State)
    (h_probes : F.probes) (h_hubs : F.hubs) (h_flue : F.flue) (h_pulses : F.pulses) (u_hubCat : F.has .hubCat) : Keeps F s
    (execRdData region atReader worker acc unit data s) := by
  unfold execRdData
  repeat' (first
      | with_reducible rfl
      | simp only [apply_ite (State.blank F), ite_self, keeps_next, h_probes, h_hubs, h_flue, h_pulses, setQueue_blank,
          tryPresent_blank, sendAll_blank, recv_blank, setProbe_blank, emit_blank]
      | (with_reducible refine (atProbe_blank _ _ _ _ _ _ (by first | assumption | exact u_all _) (by first | assumption | exact u_all _) (by first | assumption | exact u_all _) ?_).trans ?_)
      | split
      | (intro))

theorem execPadDeadline_blank (region : Nat) (tile : Nat) (slot : Nat) (s : State) (h_probes : F.probes) (h_hubs : F.hubs)
    (h_flue : F.flue) (h_pulses : F.pulses) (u_hubIft : F.has .hubIft) (u_probe : F.has .probe) : Keeps F s (execPadDeadline
    region tile slot s) := by
  unfold execPadDeadline
  repeat' (first
      | with_reducible rfl
      | simp only [apply_ite (State.blank F), ite_self, keeps_next, h_probes, h_hubs, h_flue, h_pulses, u_hubIft, u_probe,
          makeReleasable_blank]
      | split
      | (intro))

theorem execReadingSettleTimeout_blank (region : Nat) (col : Nat) (s : State) (h_hubs : F.hubs) (h_ldg : F.ldg)
    (h_flue : F.flue) (h_pulses : F.pulses) (u_ldg : F.has .ldg) (u_hubRd : F.has .hubRd) (u_hubFl : F.has .hubFl)
    (u_hubTr : F.has .hubTr) : Keeps F s (execReadingSettleTimeout region col s) := by
  unfold execReadingSettleTimeout
  repeat' (first
      | with_reducible rfl
      | simp only [apply_ite (State.blank F), ite_self, keeps_next, h_hubs, h_ldg, h_flue, h_pulses, u_ldg, u_hubRd, u_hubFl,
          u_hubTr, voteVoid_blank, hubPropose_blank, raise_blank, unit_RH_RD_EVENT_STEPVOID]
      | split
      | (intro))

theorem execIftQuotaTimeout_blank (region : Nat) (col : Nat) (s : State) (h_hubs : F.hubs) (h_flue : F.flue)
    (u_hubRd : F.has .hubRd) : Keeps F s (execIftQuotaTimeout region col s) := by
  unfold execIftQuotaTimeout
  repeat' (first
      | with_reducible rfl
      | simp only [keeps_next, h_hubs, h_flue, u_hubRd, modWalk_blank, proposeSteps_blank]
      | split
      | (intro))

theorem startIft_blank (s : State) (r : Nat) (t : Nat) (f : ProbeIft → ProbeIft) (h_probes : F.probes) (h_flue : F.flue)
    (h_pulses : F.pulses) (h_freeCtr : F.freeCtr) : (State.startIft s r t f).blank F = s.blank F := by
  unfold State.startIft
  repeat' (first
      | with_reducible rfl
      | simp only [h_probes, h_flue, h_pulses, h_freeCtr, resumeIft_blank, modIft_blank]
      | split
      | (intro))

theorem execIftStart_blank (region : Nat) (tile : Nat) (acc : Nat) (mwen : Bool) (s : State) (h_probes : F.probes)
    (h_flue : F.flue) (h_pulses : F.pulses) (h_freeCtr : F.freeCtr) (u_hubCat : F.has .hubCat) (u_probe : F.has .probe) : Keeps
    F s (execIftStart region tile acc mwen s) := by
  unfold execIftStart
  repeat' (first
      | with_reducible rfl
      | simp only [apply_ite (State.blank F), ite_self, keeps_next, h_probes, h_flue, h_pulses, h_freeCtr, u_probe, bump_blank,
          startIft_blank, unit_TP_IFT_VISIT_VISITS]
      | (with_reducible refine (atProbe_blank _ _ _ _ _ _ (by first | assumption | exact u_all _) (by first | assumption | exact u_all _) (by first | assumption | exact u_all _) ?_).trans ?_)
      | split
      | (intro))

theorem execIftGet_blank (region : Nat) (tile : Nat) (index : Nat) (s : State) (h_flue : F.flue) : Keeps F s (execIftGet region
    tile index s) := by
  unfold execIftGet
  repeat' (first
      | with_reducible rfl
      | simp only [keeps_next, h_flue, recv_blank, send_blank]
      | split
      | (intro))

theorem execIftPat_blank (region : Nat) (tile : Nat) (acc : Nat) (index : Nat) (hdr : Hdr) (fill : Nat) (word : Nat)
    (expA : Nat) (expB : Nat) (beats : Nat) (margin : Bool) (cover : Nat) (s : State) (h_probes : F.probes) (h_flue : F.flue)
    (h_pulses : F.pulses) (h_freeCtr : F.freeCtr) (u_hubCat : F.has .hubCat) : Keeps F s (execIftPat region tile acc index hdr
    fill word expA expB beats margin cover s) := by
  unfold execIftPat
  repeat' (first
      | with_reducible rfl
      | simp only [implies_true, apply_ite (State.blank F), ite_self, keeps_next, h_probes, h_flue, h_pulses, h_freeCtr,
          beginSegment_blank, modIft_blank]
      | (with_reducible refine (atProbe_blank _ _ _ _ _ _ (by first | assumption | exact u_all _) (by first | assumption | exact u_all _) (by first | assumption | exact u_all _) ?_).trans ?_)
      | split
      | (intro))

theorem execSegmentClose_blank (region : Nat) (tile : Nat) (s : State) (h_probes : F.probes) (h_flue : F.flue)
    (h_pulses : F.pulses) (h_freeCtr : F.freeCtr) (u_probe : F.has .probe) : Keeps F s (execSegmentClose region tile s) := by
  unfold execSegmentClose
  repeat' (first
      | with_reducible rfl
      | simp only [keeps_next, h_probes, h_flue, h_pulses, h_freeCtr, u_probe, endSegment_blank]
      | split
      | (intro))

theorem execSegmentTimeout_blank (region : Nat) (tile : Nat) (s : State) (h_probes : F.probes) (h_flue : F.flue)
    (h_pulses : F.pulses) (h_freeCtr : F.freeCtr) (u_probe : F.has .probe) : Keeps F s (execSegmentTimeout region tile s) := by
  unfold execSegmentTimeout
  repeat' (first
      | with_reducible rfl
      | simp only [keeps_next, h_probes, h_flue, h_pulses, h_freeCtr, u_probe, endSegment_blank]
      | split
      | (intro))

theorem iftConfirmed_blank (s : State) (r : Nat) (t : Nat) (first : Nat) (kind : Nat) (h_hubs : F.hubs) (h_ldg : F.ldg)
    (h_bru : F.bru) (h_flue : F.flue) (h_pulses : F.pulses) (u_ldg : F.has .ldg) (u_hubRd : F.has .hubRd)
    (u_hubIft : F.has .hubIft) (u_hubFl : F.has .hubFl) (u_hubFlt : F.has .hubFlt) (u_hubTr : F.has .hubTr) :
    (State.iftConfirmed s r t first kind).blank F = s.blank F := by
  unfold State.iftConfirmed
  repeat' (first
      | with_reducible rfl
      | simp only [h_hubs, h_ldg, h_bru, h_flue, h_pulses, u_ldg, u_hubRd, u_hubIft, u_hubFl, u_hubFlt, u_hubTr,
          afterReading_blank, voidSteps_blank, readerFault_blank, hubFault_blank, raise_blank, setBook_blank, sendAll_blank,
          unit_RH_IFT_EVENT_IFTFAIL]
      | split
      | (intro))

theorem stepAfterDwell_blank (s : State) (r : Nat) (c : Nat) (h_hubs : F.hubs) (h_flue : F.flue) (u_hubRd : F.has .hubRd) :
    (State.stepAfterDwell s r c).blank F = s.blank F := by
  unfold State.stepAfterDwell
  repeat' (first
      | with_reducible rfl
      | simp only [apply_ite (State.blank F), ite_self, h_hubs, h_flue, u_hubRd, proposeSteps_blank]
      | split
      | (intro))

theorem execIftResult_blank (region : Nat) (tile : Nat) (pass : Nat) (complete : Bool) (allPassed : Bool) (first : Nat)
    (kind : Nat) (confirmed : Bool) (time : Nat) (s : State) (h_hubs : F.hubs) (h_ldg : F.ldg) (h_bru : F.bru) (h_flue : F.flue)
    (h_pulses : F.pulses) (u_ldg : F.has .ldg) (u_hubRd : F.has .hubRd) (u_hubIft : F.has .hubIft) (u_hubFl : F.has .hubFl)
    (u_hubFlt : F.has .hubFlt) (u_hubTr : F.has .hubTr) : Keeps F s (execIftResult region tile pass complete allPassed first
    kind confirmed time s) := by
  unfold execIftResult
  repeat' (first
      | with_reducible rfl
      | simp only [apply_ite (State.blank F), ite_self, keeps_next, h_hubs, h_ldg, h_bru, h_flue, h_pulses, u_ldg, u_hubRd,
          u_hubIft, u_hubFl, u_hubFlt, u_hubTr, iftConfirmed_blank, hubFault_blank, raise_blank, setBook_blank,
          stepAfterDwell_blank, recv_blank, unit_RH_IFT_EVENT_TRANSIENT]
      | split
      | (intro))

theorem predOf_blank (s : State) (t : Trend) (h_freeCtr : F.freeCtr) : (State.predOf s t).2.blank F = s.blank F := by
  unfold State.predOf
  repeat' (first
      | with_reducible rfl
      | simp only [h_freeCtr, fresh_blank]
      | split
      | (intro))

theorem execMwResult_blank (region : Nat) (tile : Nat) (margin : Nat) (band : Nat) (valid : Bool) (bandchg : Bool)
    (cshkto : Bool) (s : State) (h_hubs : F.hubs) (h_ldg : F.ldg) (h_flue : F.flue) (h_pulses : F.pulses)
    (h_freeCtr : F.freeCtr) (u_ldg : F.has .ldg) (u_hubRd : F.has .hubRd) (u_hubIft : F.has .hubIft) (u_hubFl : F.has .hubFl)
    (u_hubFlt : F.has .hubFlt) (u_hubTr : F.has .hubTr) : Keeps F s (execMwResult region tile margin band valid bandchg cshkto
    s) := by
  unfold execMwResult
  repeat' (first
      | with_reducible rfl
      | simp only [apply_ite (State.blank F), ite_self, keeps_next, h_hubs, h_ldg, h_flue, h_pulses, h_freeCtr, u_ldg, u_hubRd,
          u_hubIft, u_hubFl, u_hubFlt, u_hubTr, voidSteps_blank, hubFault_blank, raise_blank, setBook_blank,
          stepAfterDwell_blank, recv_blank, predOf_blank, unit_RH_IFT_EVENT_BANDCHG, unit_RH_IFT_EVENT_CSHKTO,
          unit_RH_IFT_EVENT_MWLOW, unit_RH_IFT_EVENT_MWTREND]
      | split
      | (intro))

theorem execIftStop_blank (region : Nat) (tile : Nat) (acc : Nat) (abandon : Bool) (s : State) (h_probes : F.probes)
    (h_flue : F.flue) (h_pulses : F.pulses) (u_hubCat : F.has .hubCat) : Keeps F s (execIftStop region tile acc abandon s) := by
  unfold execIftStop
  repeat' (first
      | with_reducible rfl
      | simp only [implies_true, apply_ite (State.blank F), ite_self, keeps_next, h_probes, h_flue, h_pulses, stopIft_blank,
          modIft_blank]
      | (with_reducible refine (atProbe_blank _ _ _ _ _ _ (by first | assumption | exact u_all _) (by first | assumption | exact u_all _) (by first | assumption | exact u_all _) ?_).trans ?_)
      | split
      | (intro))

theorem execIftStopped_blank (region : Nat) (tile : Nat) (s : State) (h_hubs : F.hubs) (h_ldg : F.ldg) (h_flue : F.flue)
    (h_pulses : F.pulses) (u_ldg : F.has .ldg) (u_hubTr : F.has .hubTr) : Keeps F s (execIftStopped region tile s) := by
  unfold execIftStopped
  repeat' (first
      | with_reducible rfl
      | simp only [keeps_next, h_hubs, h_ldg, h_flue, h_pulses, u_ldg, u_hubTr, modWalk_blank, tryVotes_blank, recv_blank]
      | split
      | (intro))

theorem execIftOverdue_blank (region : Nat) (tile : Nat) (dwells : Nat) (s : State) (h_hubs : F.hubs) (u_hubIft : F.has .hubIft)
    (u_hubFlt : F.has .hubFlt) : Keeps F s (execIftOverdue region tile dwells s) := by
  unfold execIftOverdue
  repeat' (first
      | with_reducible rfl
      | simp only [keeps_next, h_hubs, u_hubIft, u_hubFlt, hubFault_blank, raise_blank, unit_RH_IFT_EVENT_OVERDUE]
      | split
      | (intro))

theorem reqResult_blank (s : State) (code : Nat) (u_cat : F.has .cat) : (State.reqResult s code).blank F = s.blank F := by
  unfold State.reqResult
  repeat' (first
      | with_reducible rfl
      | simp only [u_cat, setAll_blank, List.all_cons, List.all_nil, Bool.and_self, unit_CAT_REQST_BUSY, unit_CAT_REQST_RESULT]
      | split
      | (intro))

theorem reqFolio_blank (s : State) (urgent : Bool) (a : Act) (h_hubs : F.hubs) (h_flt : F.flt) (h_fl : F.fl) (h_tally : F.tally)
    (h_link : F.link) (h_colo : F.colo) (h_bru : F.bru) (h_flue : F.flue) (h_pulses : F.pulses) (h_freeCtr : F.freeCtr)
    (u_bru : F.has .bru) (u_flt : F.has .flt) (u_ccd : F.has .ccd) (u_folio : F.has .folio) (u_cat : F.has .cat)
    (u_clp : F.has .clp) (u_tenant : F.has .tenant) : (State.reqFolio s urgent a).blank F = s.blank F := by
  unfold State.reqFolio
  repeat' (first
      | with_reducible rfl
      | simp only [h_hubs, h_flt, h_fl, h_tally, h_link, h_colo, h_bru, h_flue, h_pulses, h_freeCtr, u_bru, u_flt, u_ccd,
          u_folio, u_cat, u_clp, u_tenant, kilnPropose_blank, setAll_blank, List.all_cons, List.all_nil, Bool.and_self,
          unit_CAT_REQFOLIO_FOLIO, unit_CAT_REQST_BUSY, unit_CAT_REQST_RESULT]
      | split
      | (intro))

theorem catWrite_blank (s : State) (op : Nat) (x : Nat) (y : Nat) (count : Nat) (tenant : Nat) (act : State → State)
    (u_cat : F.has .cat) (hact : ∀ x0, (act x0).blank F = x0.blank F) : (State.catWrite s op x y count tenant act).blank F =
    s.blank F := by
  unfold State.catWrite
  repeat' (first
      | with_reducible rfl
      | simp only [apply_ite (State.blank F), ite_self, u_cat, hact, raise_blank, setAll_blank, List.all_cons, List.all_nil,
          Bool.and_self, unit_CAT_REQST_DROPPED, unit_CAT_REQ_COUNT, unit_CAT_REQ_OP, unit_CAT_REQ_TENANT, unit_CAT_REQ_X,
          unit_CAT_REQ_Y]
      | split
      | (intro))

theorem catRequest_blank (s : State) (op : Nat) (x : Nat) (y : Nat) (count : Nat) (tenant : Nat) (ten : Nat) (tag : Nat)
    (act : State → State) (h_pulses : F.pulses) (u_ghp : F.has .ghp) (u_cat : F.has .cat)
    (hact : ∀ x0, (act x0).blank F = x0.blank F) : (State.catRequest s op x y count tenant ten tag act).blank F = s.blank F :=
    by
  unfold State.catRequest
  repeat' (first
      | with_reducible rfl
      | simp only [implies_true, hact]
      | (with_reducible refine (catWrite_blank _ _ _ _ _ _ _ (by first | assumption | exact u_all _) ?_).trans ?_)
      | (with_reducible refine (hostWrite_blank _ _ _ _ _ _ _ (by first | assumption | exact u_all _) (by first | assumption | exact u_all _) ?_).trans ?_)
      | split
      | (intro))

theorem assignRequest_blank (s : State) (act : Nat) (x : Nat) (y : Nat) (count : Nat) (tenant : Nat) (h_hubs : F.hubs)
    (h_flt : F.flt) (h_fl : F.fl) (h_tally : F.tally) (h_link : F.link) (h_colo : F.colo) (h_bru : F.bru) (h_flue : F.flue)
    (h_pulses : F.pulses) (h_freeCtr : F.freeCtr) (u_bru : F.has .bru) (u_flt : F.has .flt) (u_ccd : F.has .ccd)
    (u_folio : F.has .folio) (u_cat : F.has .cat) (u_clp : F.has .clp) (u_tenant : F.has .tenant) : (State.assignRequest s act x
    y count tenant).blank F = s.blank F := by
  unfold State.assignRequest
  repeat' (first
      | with_reducible rfl
      | simp only [apply_ite (State.blank F), ite_self, h_hubs, h_flt, h_fl, h_tally, h_link, h_colo, h_bru, h_flue, h_pulses,
          h_freeCtr, u_bru, u_flt, u_ccd, u_folio, u_cat, u_clp, u_tenant, reqResult_blank, reqFolio_blank]
      | split
      | (intro))

theorem execCatReqAssign_blank (x : Nat) (y : Nat) (count : Nat) (tenant : Nat) (ten : Nat) (tag : Nat) (s : State)
    (h_hubs : F.hubs) (h_flt : F.flt) (h_fl : F.fl) (h_tally : F.tally) (h_link : F.link) (h_colo : F.colo) (h_bru : F.bru)
    (h_flue : F.flue) (h_pulses : F.pulses) (h_freeCtr : F.freeCtr) (u_ghp : F.has .ghp) (u_bru : F.has .bru)
    (u_flt : F.has .flt) (u_ccd : F.has .ccd) (u_folio : F.has .folio) (u_cat : F.has .cat) (u_clp : F.has .clp)
    (u_tenant : F.has .tenant) : Keeps F s (execCatReqAssign x y count tenant ten tag s) := by
  unfold execCatReqAssign
  repeat' (first
      | with_reducible rfl
      | simp only [implies_true, keeps_next, h_hubs, h_flt, h_fl, h_tally, h_link, h_colo, h_bru, h_flue, h_pulses, h_freeCtr,
          u_bru, u_flt, u_ccd, u_folio, u_cat, u_clp, u_tenant, assignRequest_blank]
      | (with_reducible refine (catRequest_blank _ _ _ _ _ _ _ _ _ (by first | assumption | exact u_all _) (by first | assumption | exact u_all _) (by first | assumption | exact u_all _) ?_).trans ?_)
      | split
      | (intro))

theorem execCatReqUnassign_blank (x : Nat) (y : Nat) (count : Nat) (tenant : Nat) (ten : Nat) (tag : Nat) (s : State)
    (h_hubs : F.hubs) (h_flt : F.flt) (h_fl : F.fl) (h_tally : F.tally) (h_link : F.link) (h_colo : F.colo) (h_bru : F.bru)
    (h_flue : F.flue) (h_pulses : F.pulses) (h_freeCtr : F.freeCtr) (u_ghp : F.has .ghp) (u_bru : F.has .bru)
    (u_flt : F.has .flt) (u_ccd : F.has .ccd) (u_folio : F.has .folio) (u_cat : F.has .cat) (u_clp : F.has .clp)
    (u_tenant : F.has .tenant) : Keeps F s (execCatReqUnassign x y count tenant ten tag s) := by
  unfold execCatReqUnassign
  repeat' (first
      | with_reducible rfl
      | simp only [implies_true, keeps_next, h_hubs, h_flt, h_fl, h_tally, h_link, h_colo, h_bru, h_flue, h_pulses, h_freeCtr,
          u_bru, u_flt, u_ccd, u_folio, u_cat, u_clp, u_tenant, assignRequest_blank]
      | (with_reducible refine (catRequest_blank _ _ _ _ _ _ _ _ _ (by first | assumption | exact u_all _) (by first | assumption | exact u_all _) (by first | assumption | exact u_all _) ?_).trans ?_)
      | split
      | (intro))

theorem restoreRequest_blank (s : State) (x : Nat) (y : Nat) (h_hubs : F.hubs) (h_flt : F.flt) (h_fl : F.fl) (h_tally : F.tally)
    (h_link : F.link) (h_colo : F.colo) (h_bru : F.bru) (h_flue : F.flue) (h_pulses : F.pulses) (h_freeCtr : F.freeCtr)
    (u_bru : F.has .bru) (u_flt : F.has .flt) (u_ccd : F.has .ccd) (u_folio : F.has .folio) (u_cat : F.has .cat)
    (u_clp : F.has .clp) (u_tenant : F.has .tenant) : (State.restoreRequest s x y).blank F = s.blank F := by
  unfold State.restoreRequest
  repeat' (first
      | with_reducible rfl
      | simp only [apply_ite (State.blank F), ite_self, h_hubs, h_flt, h_fl, h_tally, h_link, h_colo, h_bru, h_flue, h_pulses,
          h_freeCtr, u_bru, u_flt, u_ccd, u_folio, u_cat, u_clp, u_tenant, reqResult_blank, reqFolio_blank]
      | split
      | (intro))

theorem execCatReqRestore_blank (x : Nat) (y : Nat) (ten : Nat) (tag : Nat) (s : State) (h_hubs : F.hubs) (h_flt : F.flt)
    (h_fl : F.fl) (h_tally : F.tally) (h_link : F.link) (h_colo : F.colo) (h_bru : F.bru) (h_flue : F.flue)
    (h_pulses : F.pulses) (h_freeCtr : F.freeCtr) (u_ghp : F.has .ghp) (u_bru : F.has .bru) (u_flt : F.has .flt)
    (u_ccd : F.has .ccd) (u_folio : F.has .folio) (u_cat : F.has .cat) (u_clp : F.has .clp) (u_tenant : F.has .tenant) : Keeps F
    s (execCatReqRestore x y ten tag s) := by
  unfold execCatReqRestore
  repeat' (first
      | with_reducible rfl
      | simp only [implies_true, keeps_next, h_hubs, h_flt, h_fl, h_tally, h_link, h_colo, h_bru, h_flue, h_pulses, h_freeCtr,
          u_bru, u_flt, u_ccd, u_folio, u_cat, u_clp, u_tenant, restoreRequest_blank]
      | (with_reducible refine (catRequest_blank _ _ _ _ _ _ _ _ _ (by first | assumption | exact u_all _) (by first | assumption | exact u_all _) (by first | assumption | exact u_all _) ?_).trans ?_)
      | split
      | (intro))

theorem quenchRequest_blank (s : State) (x : Nat) (y : Nat) (h_hubs : F.hubs) (h_flt : F.flt) (h_fl : F.fl) (h_tally : F.tally)
    (h_link : F.link) (h_colo : F.colo) (h_bru : F.bru) (h_flue : F.flue) (h_pulses : F.pulses) (h_freeCtr : F.freeCtr)
    (u_bru : F.has .bru) (u_flt : F.has .flt) (u_ccd : F.has .ccd) (u_folio : F.has .folio) (u_cat : F.has .cat)
    (u_clp : F.has .clp) (u_tenant : F.has .tenant) : (State.quenchRequest s x y).blank F = s.blank F := by
  unfold State.quenchRequest
  repeat' (first
      | with_reducible rfl
      | simp only [h_hubs, h_flt, h_fl, h_tally, h_link, h_colo, h_bru, h_flue, h_pulses, h_freeCtr, u_bru, u_flt, u_ccd,
          u_folio, u_cat, u_clp, u_tenant, reqResult_blank, reqFolio_blank]
      | split
      | (intro))

theorem execCatReqQuench_blank (x : Nat) (y : Nat) (ten : Nat) (tag : Nat) (s : State) (h_hubs : F.hubs) (h_flt : F.flt)
    (h_fl : F.fl) (h_tally : F.tally) (h_link : F.link) (h_colo : F.colo) (h_bru : F.bru) (h_flue : F.flue)
    (h_pulses : F.pulses) (h_freeCtr : F.freeCtr) (u_ghp : F.has .ghp) (u_bru : F.has .bru) (u_flt : F.has .flt)
    (u_ccd : F.has .ccd) (u_folio : F.has .folio) (u_cat : F.has .cat) (u_clp : F.has .clp) (u_tenant : F.has .tenant) : Keeps F
    s (execCatReqQuench x y ten tag s) := by
  unfold execCatReqQuench
  repeat' (first
      | with_reducible rfl
      | simp only [implies_true, keeps_next, h_hubs, h_flt, h_fl, h_tally, h_link, h_colo, h_bru, h_flue, h_pulses, h_freeCtr,
          u_bru, u_flt, u_ccd, u_folio, u_cat, u_clp, u_tenant, quenchRequest_blank]
      | (with_reducible refine (catRequest_blank _ _ _ _ _ _ _ _ _ (by first | assumption | exact u_all _) (by first | assumption | exact u_all _) (by first | assumption | exact u_all _) ?_).trans ?_)
      | split
      | (intro))

theorem execGapStepDue_blank (region : Nat) (cols : List Nat) (s : State) (h_hubs : F.hubs) (h_flue : F.flue)
    (u_hubRd : F.has .hubRd) : Keeps F s (execGapStepDue region cols s) := by
  unfold execGapStepDue
  repeat' (first
      | with_reducible rfl
      | simp only [implies_true, keeps_next, h_hubs, h_flue, u_hubRd, modWalk_blank, proposeSteps_blank]
      | (with_reducible refine (foldl_blank _ _ _ ?_).trans ?_)
      | split
      | (intro))

theorem execCatHold_blank (region : Nat) (tile : Nat) (acc : Nat) (hold : Bool) (s : State) (h_probes : F.probes)
    (h_flue : F.flue) (u_hubCat : F.has .hubCat) : Keeps F s (execCatHold region tile acc hold s) := by
  unfold execCatHold
  repeat' (first
      | with_reducible rfl
      | simp only [implies_true, keeps_next, h_probes, h_flue, modProbe_blank, checkIdle_blank]
      | (with_reducible refine (atProbe_blank _ _ _ _ _ _ (by first | assumption | exact u_all _) (by first | assumption | exact u_all _) (by first | assumption | exact u_all _) ?_).trans ?_)
      | split
      | (intro))

theorem execCatIdle_blank (region : Nat) (tile : Nat) (s : State) (h_hubs : F.hubs) (h_ldg : F.ldg) (h_flue : F.flue)
    (h_pulses : F.pulses) (u_ldg : F.has .ldg) (u_hubTr : F.has .hubTr) : Keeps F s (execCatIdle region tile s) := by
  unfold execCatIdle
  repeat' (first
      | with_reducible rfl
      | simp only [keeps_next, h_hubs, h_ldg, h_flue, h_pulses, u_ldg, u_hubTr, modWalk_blank, tryVotes_blank, recv_blank]
      | split
      | (intro))

theorem execCatIdleTimeout_blank (region : Nat) (col : Nat) (s : State) (h_hubs : F.hubs) (h_ldg : F.ldg) (h_flue : F.flue)
    (h_pulses : F.pulses) (u_ldg : F.has .ldg) (u_hubCat : F.has .hubCat) (u_hubFl : F.has .hubFl) (u_hubTr : F.has .hubTr) :
    Keeps F s (execCatIdleTimeout region col s) := by
  unfold execCatIdleTimeout
  repeat' (first
      | with_reducible rfl
      | simp only [apply_ite (State.blank F), ite_self, keeps_next, h_hubs, h_ldg, h_flue, h_pulses, u_ldg, u_hubCat, u_hubFl,
          u_hubTr, voteVoid_blank, hubPropose_blank, raise_blank, unit_RH_CAT_EVENT_HOLDVOID]
      | split
      | (intro))

theorem execCatRole_blank (region : Nat) (tile : Nat) (acc : Nat) (role : Nat) (x : Nat) (y : Nat) (newAcc : Nat) (send : Bool)
    (sendDir : Nat) (recv : Bool) (fromLower : Bool) (hops : Nat) (gt : Nat) (s : State) (h_probes : F.probes) (h_flue : F.flue)
    (h_pulses : F.pulses) (u_hubCat : F.has .hubCat) (u_probe : F.has .probe) : Keeps F s (execCatRole region tile acc role x y
    newAcc send sendDir recv fromLower hops gt s) := by
  unfold execCatRole
  repeat' (first
      | with_reducible rfl
      | simp only [implies_true, apply_ite (State.blank F), ite_self, keeps_next, h_probes, h_flue, h_pulses, u_probe,
          modProbe_blank, takeRole_blank]
      | (with_reducible refine (atProbe_blank _ _ _ _ _ _ (by first | assumption | exact u_all _) (by first | assumption | exact u_all _) (by first | assumption | exact u_all _) ?_).trans ?_)
      | split
      | (intro))

theorem execCatCtx_blank (region : Nat) (tile : Nat) (acc : Nat) (install : Bool) (tenant : Nat) (key : Nat) (d : Nat)
    (s : State) (h_probes : F.probes) (h_flue : F.flue) (u_hubCat : F.has .hubCat) : Keeps F s (execCatCtx region tile acc
    install tenant key d s) := by
  unfold execCatCtx
  repeat' (first
      | with_reducible rfl
      | simp only [implies_true, apply_ite (State.blank F), keeps_next, h_probes, removeCtx_blank, setProbe_blank]
      | (with_reducible refine (atProbe_blank _ _ _ _ _ _ (by first | assumption | exact u_all _) (by first | assumption | exact u_all _) (by first | assumption | exact u_all _) ?_).trans ?_)
      | split
      | (intro))

theorem markSuspect_blank (s : State) (r : Nat) (t : Nat) (h_hubs : F.hubs) (h_master : F.master) : (State.markSuspect s r
    t).blank F = s.blank F := by
  unfold State.markSuspect
  repeat' (first
      | with_reducible rfl
      | simp only [blank_mk, or_true, true_or, h_hubs, h_master, modHub_blank]
      | split
      | (intro))

theorem partialMove_blank (s : State) (r : Nat) (t : Nat) (h_hubs : F.hubs) (h_master : F.master) (u_hubCat : F.has .hubCat)
    (u_hubFlt : F.has .hubFlt) : (State.partialMove s r t).blank F = s.blank F := by
  unfold State.partialMove
  repeat' (first
      | with_reducible rfl
      | simp only [apply_ite (State.blank F), ite_self, h_hubs, h_master, u_hubCat, u_hubFlt, modWalk_blank, hubFault_blank,
          raise_blank, markSuspect_blank, unit_RH_CAT_EVENT_SUSPECT]
      | split
      | (intro))

theorem execCatMoved_blank (region : Nat) (tile : Nat) (whole : Bool) (busy : Bool) (ecc : Bool) (timeout : Bool) (units : Nat)
    (s : State) (h_hubs : F.hubs) (h_master : F.master) (h_ldg : F.ldg) (h_flue : F.flue) (h_pulses : F.pulses)
    (u_ldg : F.has .ldg) (u_hubCat : F.has .hubCat) (u_hubFlt : F.has .hubFlt) (u_hubTr : F.has .hubTr) : Keeps F s
    (execCatMoved region tile whole busy ecc timeout units s) := by
  unfold execCatMoved
  repeat' (first
      | with_reducible rfl
      | simp only [implies_true, apply_ite (State.blank F), ite_self, keeps_next, h_hubs, h_master, h_ldg, h_flue, h_pulses,
          u_ldg, u_hubCat, u_hubFlt, u_hubTr, modWalk_blank, tryVotes_blank, traceCat_blank, dispatch_blank,
          sendCatReport_blank, partialMove_blank, recv_blank]
      | (with_reducible refine (foldl_blank _ _ _ ?_).trans ?_)
      | split
      | (intro))

theorem staleLost_blank (s : State) (r : Nat) (u_hubCat : F.has .hubCat) : (State.staleLost s r).blank F = s.blank F := by
  unfold State.staleLost
  repeat' (first
      | with_reducible rfl
      | simp only [u_hubCat, bump_blank, raise_blank, unit_RH_CAT_EVENT_STALELOST, unit_RH_CAT_STALE_COUNT]
      | split
      | (intro))

theorem resend_blank (s : State) (r : Nat) (t : Nat) (m : Msg) (h_hubs : F.hubs) (h_flue : F.flue) (u_hubCat : F.has .hubCat)
    (u_hubFlt : F.has .hubFlt) : (State.resend s r t m).blank F = s.blank F := by
  unfold State.resend
  repeat' (first
      | with_reducible rfl
      | simp only [apply_ite (State.blank F), ite_self, h_hubs, h_flue, u_hubCat, u_hubFlt, staleLost_blank, hubFault_blank,
          raise_blank, modHub_blank, send_blank, unit_RH_CAT_EVENT_STALE]
      | split
      | (intro))

theorem execCatBounce_blank (region : Nat) (tile : Nat) (probeAcc : Nat) (code : Nat) (header : Flit) (payload : List Flit)
    (s : State) (h_hubs : F.hubs) (h_ldg : F.ldg) (h_bru : F.bru) (h_flue : F.flue) (h_pulses : F.pulses) (u_ldg : F.has .ldg)
    (u_hubRd : F.has .hubRd) (u_hubCat : F.has .hubCat) (u_hubFl : F.has .hubFl) (u_hubFlt : F.has .hubFlt)
    (u_hubTr : F.has .hubTr) : Keeps F s (execCatBounce region tile probeAcc code header payload s) := by
  unfold execCatBounce
  repeat' (first
      | with_reducible rfl
      | simp only [keeps_next, h_hubs, h_ldg, h_bru, h_flue, h_pulses, u_ldg, u_hubRd, u_hubCat, u_hubFl, u_hubFlt, u_hubTr,
          afterReading_blank, staleLost_blank, resend_blank, readerFault_blank, recv_blank, reapReadings_blank]
      | split
      | (intro))

end Sys2Proof.Machine
end

