-- ==== Sys2Proof/Laws/FrameFolio.lean ====
section
/-! SUPPORT. For each operation of Folios, recovery and the Charter, and each command: which parts of the state it may change (every other part is
kept). -/

namespace Sys2Proof.Machine

open Sys2Proof

variable {F : Fields}

theorem markBehind_blank (s : State) (f : FolioRec) (who : Nat) (h_master : F.master) (h_fl : F.fl) (h_colo : F.colo)
    (u_folio : F.has .folio) : (State.markBehind s f who).blank F = s.blank F := by
  unfold State.markBehind
  repeat' (first
      | with_reducible rfl
      | simp only [blank_mk, apply_ite (State.blank F), ite_self, or_true, true_or, h_master, h_fl, h_colo, u_folio,
          applyMaster_blank, raise_blank, unit_FOLIO_EVENT_BEHIND]
      | split
      | (intro))

theorem decide__blank (s : State) (f : FolioRec) (t : Nat) (h_hubs : F.hubs) (h_master : F.master) (h_flt : F.flt) (h_fl : F.fl)
    (h_tally : F.tally) (h_link : F.link) (h_colo : F.colo) (h_bru : F.bru) (h_flue : F.flue) (h_pulses : F.pulses)
    (h_freeCtr : F.freeCtr) (u_bru : F.has .bru) (u_flt : F.has .flt) (u_ccd : F.has .ccd) (u_folio : F.has .folio)
    (u_cat : F.has .cat) (u_clp : F.has .clp) (u_tenant : F.has .tenant) : (State.decide_ s f t).blank F = s.blank F := by
  unfold State.decide_
  repeat' (first
      | with_reducible rfl
      | simp only [implies_true, apply_ite (State.blank F), ite_self, h_hubs, h_master, h_flt, h_fl, h_tally, h_link, h_colo,
          h_bru, h_flue, h_pulses, h_freeCtr, u_bru, u_flt, u_ccd, u_folio, u_cat, u_clp, u_tenant, bump_blank, toParts_blank,
          linkSeal_blank, tryApplied_blank, setFolio_blank, reactSealed_blank, markBehind_blank, event_blank,
          unit_FOLIO_SEALED_COUNT]
      | (with_reducible refine (foldl_blank _ _ _ ?_).trans ?_)
      | split
      | (intro))

theorem tryDecide_blank (s : State) (n : Nat) (h_hubs : F.hubs) (h_master : F.master) (h_flt : F.flt) (h_fl : F.fl)
    (h_tally : F.tally) (h_link : F.link) (h_colo : F.colo) (h_bru : F.bru) (h_flue : F.flue) (h_pulses : F.pulses)
    (h_freeCtr : F.freeCtr) (u_bru : F.has .bru) (u_flt : F.has .flt) (u_ccd : F.has .ccd) (u_folio : F.has .folio)
    (u_cat : F.has .cat) (u_clp : F.has .clp) (u_tenant : F.has .tenant) : (State.tryDecide s n).blank F = s.blank F := by
  unfold State.tryDecide
  repeat' (first
      | with_reducible rfl
      | simp only [apply_ite (State.blank F), ite_self, h_hubs, h_master, h_flt, h_fl, h_tally, h_link, h_colo, h_bru, h_flue,
          h_pulses, h_freeCtr, u_bru, u_flt, u_ccd, u_folio, u_cat, u_clp, u_tenant, linkVoteYes_blank, decide__blank]
      | split
      | (intro))

theorem unitNotice_blank (s : State) (h_flt : F.flt) (u_flt : F.has .flt) : (State.unitNotice s).blank F = s.blank F := by
  unfold State.unitNotice
  repeat' (first
      | with_reducible rfl
      | simp only [implies_true, h_flt, u_flt, unitNoticeOf_blank]
      | (with_reducible refine (foldl_blank _ _ _ ?_).trans ?_)
      | split
      | (intro))

theorem chipCase_blank (s : State) (fseq : Nat) (h_flt : F.flt) (h_rcv : F.rcv) (h_ldg : F.ldg) (h_vault : F.vault)
    (h_colo : F.colo) (h_sys : F.sys) (h_pwr : F.pwr) (h_flue : F.flue) (h_pulses : F.pulses) (h_freeCtr : F.freeCtr)
    (u_flt : F.has .flt) (u_rcv : F.has .rcv) (u_ldg : F.has .ldg) (u_tenant : F.has .tenant) : (State.chipCase s fseq).blank F
    = s.blank F := by
  unfold State.chipCase
  repeat' (first
      | with_reducible rfl
      | simp only [blank_mk, apply_ite (State.blank F), ite_self, or_true, true_or, h_flt, h_rcv, h_ldg, h_vault, h_colo, h_sys,
          h_pwr, h_flue, h_pulses, h_freeCtr, u_flt, u_rcv, u_ldg, u_tenant, takeRung_blank, unitNotice_blank, openCase_blank]
      | split
      | (intro))

theorem runL2_blank (s : State) (a1 : List Nat) (h_flt : F.flt) (h_rcv : F.rcv) (h_ldg : F.ldg) (h_vault : F.vault)
    (h_colo : F.colo) (h_sys : F.sys) (h_bru : F.bru) (h_pwr : F.pwr) (h_flue : F.flue) (h_pulses : F.pulses)
    (h_freeCtr : F.freeCtr) (u_bru : F.has .bru) (u_flt : F.has .flt) (u_rcv : F.has .rcv) (u_ldg : F.has .ldg)
    (u_tenant : F.has .tenant) : (State.runL2 s a1).blank F = s.blank F := by
  induction a1 generalizing s with
  | nil =>
    unfold State.runL2
    repeat' (first
        | with_reducible rfl
        | simp only [implies_true, blank_mk, apply_ite (State.blank F), ite_self, or_true, true_or, h_flt, h_rcv, h_ldg,
            h_vault, h_colo, h_sys, h_bru, h_pwr, h_flue, h_pulses, h_freeCtr, u_bru, u_flt, u_rcv, u_ldg, u_tenant,
            chipCase_blank, bruRefuse_blank]
        | split
        | (intro))
  | cons x l ih =>
    unfold State.runL2
    repeat' (first
        | with_reducible rfl
        | simp only [implies_true, blank_mk, apply_ite (State.blank F), ite_self, or_true, true_or, h_flt, h_rcv, h_ldg,
            h_vault, h_colo, h_sys, h_bru, h_pwr, h_flue, h_pulses, h_freeCtr, u_bru, u_flt, u_rcv, u_ldg, u_tenant, ih,
            chipCase_blank, bruRefuse_blank]
        | split
        | (intro))

theorem kickQueue_blank (s : State) (h_flt : F.flt) (h_rcv : F.rcv) (h_ldg : F.ldg) (h_vault : F.vault) (h_colo : F.colo)
    (h_sys : F.sys) (h_bru : F.bru) (h_pwr : F.pwr) (h_flue : F.flue) (h_pulses : F.pulses) (h_freeCtr : F.freeCtr)
    (u_bru : F.has .bru) (u_flt : F.has .flt) (u_rcv : F.has .rcv) (u_ldg : F.has .ldg) (u_tenant : F.has .tenant) :
    (State.kickQueue s).blank F = s.blank F := by
  unfold State.kickQueue
  repeat' (first
      | with_reducible rfl
      | simp only [h_flt, h_rcv, h_ldg, h_vault, h_colo, h_sys, h_bru, h_pwr, h_flue, h_pulses, h_freeCtr, u_bru, u_flt, u_rcv,
          u_ldg, u_tenant, startQueued_blank, runL2_blank]
      | split
      | (intro))

theorem chipDone_blank (s : State) (h_flt : F.flt) (h_rcv : F.rcv) (h_ldg : F.ldg) (h_vault : F.vault) (h_colo : F.colo)
    (h_sys : F.sys) (h_bru : F.bru) (h_pwr : F.pwr) (h_flue : F.flue) (h_pulses : F.pulses) (h_freeCtr : F.freeCtr)
    (u_bru : F.has .bru) (u_flt : F.has .flt) (u_rcv : F.has .rcv) (u_ldg : F.has .ldg) (u_tenant : F.has .tenant) :
    (State.chipDone s).blank F = s.blank F := by
  unfold State.chipDone
  repeat' (first
      | with_reducible rfl
      | simp only [h_flt, h_rcv, h_ldg, h_vault, h_colo, h_sys, h_bru, h_pwr, h_flue, h_pulses, h_freeCtr, u_bru, u_flt, u_rcv,
          u_ldg, u_tenant, l2Done_blank, closeCase_blank, kickQueue_blank]
      | split
      | (intro))

theorem stopEnd_blank (s : State) (h_hubs : F.hubs) (h_master : F.master) (h_flt : F.flt) (h_fl : F.fl) (h_ldg : F.ldg)
    (h_tally : F.tally) (h_link : F.link) (h_colo : F.colo) (h_dbg : F.dbg) (h_bru : F.bru) (h_flue : F.flue)
    (h_pulses : F.pulses) (h_freeCtr : F.freeCtr) (u_bru : F.has .bru) (u_flt : F.has .flt) (u_ccd : F.has .ccd)
    (u_ldg : F.has .ldg) (u_dbg : F.has .dbg) (u_folio : F.has .folio) (u_cat : F.has .cat) (u_clp : F.has .clp)
    (u_tenant : F.has .tenant) : (State.stopEnd s).blank F = s.blank F := by
  unfold State.stopEnd
  repeat' (first
      | with_reducible rfl
      | simp only [implies_true, apply_ite (State.blank F), h_hubs, h_master, h_flt, h_fl, h_ldg, h_tally, h_link, h_colo,
          h_dbg, h_bru, h_flue, h_pulses, h_freeCtr, u_bru, u_flt, u_ccd, u_ldg, u_dbg, u_folio, u_cat, u_clp, u_tenant,
          recordOf_blank, kilnStop_blank, raise_blank, tryDecide_blank, setAll_blank, List.all_cons, List.all_nil,
          Bool.and_self, event_blank, unit_DBG_EVENT_RELEASE, unit_DBG_GSREL_GT, unit_DBG_GSSTATUS_SETTLED,
          unit_DBG_GSSTATUS_STOPPED]
      | (with_reducible refine (foldl_blank _ _ _ ?_).trans ?_)
      | split
      | (intro))

theorem stopRelease_blank (s : State) (h_hubs : F.hubs) (h_master : F.master) (h_flt : F.flt) (h_fl : F.fl) (h_ldg : F.ldg)
    (h_tally : F.tally) (h_link : F.link) (h_colo : F.colo) (h_dbg : F.dbg) (h_bru : F.bru) (h_flue : F.flue)
    (h_pulses : F.pulses) (h_freeCtr : F.freeCtr) (u_bru : F.has .bru) (u_flt : F.has .flt) (u_ccd : F.has .ccd)
    (u_ldg : F.has .ldg) (u_dbg : F.has .dbg) (u_folio : F.has .folio) (u_cat : F.has .cat) (u_clp : F.has .clp)
    (u_tenant : F.has .tenant) : (State.stopRelease s).blank F = s.blank F := by
  unfold State.stopRelease
  repeat' (first
      | with_reducible rfl
      | simp only [apply_ite (State.blank F), ite_self, h_hubs, h_master, h_flt, h_fl, h_ldg, h_tally, h_link, h_colo, h_dbg,
          h_bru, h_flue, h_pulses, h_freeCtr, u_bru, u_flt, u_ccd, u_ldg, u_dbg, u_folio, u_cat, u_clp, u_tenant, stopEnd_blank,
          set_blank, raise_blank, unit_DBG_EVENT_RELBLOCK, unit_DBG_GSSTATUS_SOURCE]
      | split
      | (intro))

theorem stopPin_blank (s : State) (h_hubs : F.hubs) (h_master : F.master) (h_flt : F.flt) (h_fl : F.fl) (h_ldg : F.ldg)
    (h_tally : F.tally) (h_link : F.link) (h_colo : F.colo) (h_dbg : F.dbg) (h_bru : F.bru) (h_flue : F.flue)
    (h_pulses : F.pulses) (h_freeCtr : F.freeCtr) (u_bru : F.has .bru) (u_flt : F.has .flt) (u_ccd : F.has .ccd)
    (u_ldg : F.has .ldg) (u_dbg : F.has .dbg) (u_folio : F.has .folio) (u_cat : F.has .cat) (u_clp : F.has .clp)
    (u_tenant : F.has .tenant) : (State.stopPin s).blank F = s.blank F := by
  unfold State.stopPin
  repeat' (first
      | with_reducible rfl
      | simp only [apply_ite (State.blank F), ite_self, h_hubs, h_master, h_flt, h_fl, h_ldg, h_tally, h_link, h_colo, h_dbg,
          h_bru, h_flue, h_pulses, h_freeCtr, u_bru, u_flt, u_ccd, u_ldg, u_dbg, u_folio, u_cat, u_clp, u_tenant, stopEnd_blank,
          stopRaise_blank, set_blank, unit_DBG_GSSTATUS_SOURCE]
      | split
      | (intro))

theorem actNew_blank (s : State) (level : Nat) (esc : Bool) (r : Reaction) (qfull : Bool) (h_flt : F.flt) (h_rcv : F.rcv)
    (h_ldg : F.ldg) (h_tally : F.tally) (h_vault : F.vault) (h_colo : F.colo) (h_sys : F.sys) (h_bru : F.bru) (h_pwr : F.pwr)
    (h_flue : F.flue) (h_pulses : F.pulses) (h_freeCtr : F.freeCtr) (u_bru : F.has .bru) (u_flt : F.has .flt)
    (u_rcv : F.has .rcv) (u_vlt : F.has .vlt) (u_ldg : F.has .ldg) (u_tenant : F.has .tenant) : (State.actNew s level esc r
    qfull).1.blank F = s.blank F := by
  unfold State.actNew
  repeat' (first
      | with_reducible rfl
      | simp only [h_flt, h_rcv, h_ldg, h_tally, h_vault, h_colo, h_sys, h_bru, h_pwr, h_flue, h_pulses, h_freeCtr, u_bru,
          u_flt, u_rcv, u_vlt, u_ldg, u_tenant, kilnFault_blank, sealState_blank, raise_blank, runL2_blank, startL2_blank,
          startL1_blank, setReact_blank, unit_FLT_EVENT_QFULL, unit_FLT_EVENT_QUEUED]
      | split
      | (intro))

theorem react_blank (s : State) (level : Nat) (src : Nat) (kind : Nat) (addr : Nat) (fseq : Nat) (m : FaultMsg) (h_flt : F.flt)
    (h_rcv : F.rcv) (h_ldg : F.ldg) (h_tally : F.tally) (h_vault : F.vault) (h_colo : F.colo) (h_sys : F.sys) (h_bru : F.bru)
    (h_pwr : F.pwr) (h_flue : F.flue) (h_pulses : F.pulses) (h_freeCtr : F.freeCtr) (u_bru : F.has .bru) (u_flt : F.has .flt)
    (u_rcv : F.has .rcv) (u_vlt : F.has .vlt) (u_ldg : F.has .ldg) (u_tenant : F.has .tenant) : (State.react s level src kind
    addr fseq m).1.blank F = s.blank F := by
  unfold State.react
  repeat' (first
      | with_reducible rfl
      | simp only [blank_mk, or_true, true_or, h_flt, h_rcv, h_ldg, h_tally, h_vault, h_colo, h_sys, h_bru, h_pwr, h_flue,
          h_pulses, h_freeCtr, u_bru, u_flt, u_rcv, u_vlt, u_ldg, u_tenant, contain_blank, mergeInto_blank, actNew_blank,
          escalated_blank]
      | split
      | (intro))

theorem execFaultRegister_blank (s : State) (h_hubs : F.hubs) (h_flt : F.flt) (h_fl : F.fl) (h_rcv : F.rcv) (h_ldg : F.ldg)
    (h_tally : F.tally) (h_vault : F.vault) (h_link : F.link) (h_colo : F.colo) (h_sys : F.sys) (h_dbg : F.dbg) (h_bru : F.bru)
    (h_pwr : F.pwr) (h_flue : F.flue) (h_pulses : F.pulses) (h_freeCtr : F.freeCtr) (u_bru : F.has .bru) (u_flt : F.has .flt)
    (u_rcv : F.has .rcv) (u_ccd : F.has .ccd) (u_vlt : F.has .vlt) (u_tly : F.has .tly) (u_ldg : F.has .ldg)
    (u_dbg : F.has .dbg) (u_folio : F.has .folio) (u_cat : F.has .cat) (u_clp : F.has .clp) (u_tenant : F.has .tenant) : Keeps F
    s (execFaultRegister s) := by
  unfold execFaultRegister
  repeat' (first
      | with_reducible rfl
      | simp only [blank_mk, apply_ite (State.blank F), ite_self, or_true, true_or, keeps_next, h_hubs, h_flt, h_fl, h_rcv,
          h_ldg, h_tally, h_vault, h_link, h_colo, h_sys, h_dbg, h_bru, h_pwr, h_flue, h_pulses, h_freeCtr, u_bru, u_flt, u_rcv,
          u_ccd, u_vlt, u_tly, u_ldg, u_dbg, u_folio, u_cat, u_clp, u_tenant, react_blank, watchdogRegistered_blank,
          watchdogTie_blank, logFault_blank, kilnClassify_blank, send_blank, takeFlit_blank]
      | split
      | (intro))

theorem ackReaction_blank (s : State) (rid : Nat) (h_flt : F.flt) (h_rcv : F.rcv) (h_ldg : F.ldg) (h_vault : F.vault)
    (h_colo : F.colo) (h_sys : F.sys) (h_bru : F.bru) (h_pwr : F.pwr) (h_flue : F.flue) (h_pulses : F.pulses)
    (h_freeCtr : F.freeCtr) (u_bru : F.has .bru) (u_flt : F.has .flt) (u_rcv : F.has .rcv) (u_ldg : F.has .ldg)
    (u_tenant : F.has .tenant) : (State.ackReaction s rid).blank F = s.blank F := by
  unfold State.ackReaction
  repeat' (first
      | with_reducible rfl
      | simp only [blank_mk, apply_ite (State.blank F), ite_self, or_true, true_or, h_flt, h_rcv, h_ldg, h_vault, h_colo, h_sys,
          h_bru, h_pwr, h_flue, h_pulses, h_freeCtr, u_bru, u_flt, u_rcv, u_ldg, u_tenant, raise_blank, setPhase_blank,
          kickQueue_blank, setReact_blank, unit_FLT_EVENT_ACKBAD]
      | split
      | (intro))

theorem execFltAck_blank (rid : Nat) (ten : Nat) (tag : Nat) (s : State) (h_flt : F.flt) (h_rcv : F.rcv) (h_ldg : F.ldg)
    (h_vault : F.vault) (h_colo : F.colo) (h_sys : F.sys) (h_bru : F.bru) (h_pwr : F.pwr) (h_flue : F.flue)
    (h_pulses : F.pulses) (h_freeCtr : F.freeCtr) (u_ghp : F.has .ghp) (u_bru : F.has .bru) (u_flt : F.has .flt)
    (u_rcv : F.has .rcv) (u_ldg : F.has .ldg) (u_tenant : F.has .tenant) : Keeps F s (execFltAck rid ten tag s) := by
  unfold execFltAck
  repeat' (first
      | with_reducible rfl
      | simp only [implies_true, keeps_next, h_flt, h_rcv, h_ldg, h_vault, h_colo, h_sys, h_bru, h_pwr, h_flue, h_pulses,
          h_freeCtr, u_bru, u_flt, u_rcv, u_ldg, u_tenant, set_blank, ackReaction_blank, unit_FLT_ACK_RID]
      | (with_reducible refine (hostWrite_blank _ _ _ _ _ _ _ (by first | assumption | exact u_all _) (by first | assumption | exact u_all _) ?_).trans ?_)
      | split
      | (intro))

theorem execFltNtailWrite_blank (tail : Nat) (ten : Nat) (tag : Nat) (s : State) (h_flt : F.flt) (h_rcv : F.rcv) (h_ldg : F.ldg)
    (h_vault : F.vault) (h_colo : F.colo) (h_sys : F.sys) (h_bru : F.bru) (h_pwr : F.pwr) (h_flue : F.flue)
    (h_pulses : F.pulses) (h_freeCtr : F.freeCtr) (u_ghp : F.has .ghp) (u_bru : F.has .bru) (u_flt : F.has .flt)
    (u_rcv : F.has .rcv) (u_ldg : F.has .ldg) (u_tenant : F.has .tenant) : Keeps F s (execFltNtailWrite tail ten tag s) := by
  unfold execFltNtailWrite
  repeat' (first
      | with_reducible rfl
      | simp only [implies_true, keeps_next, h_flt, h_rcv, h_ldg, h_vault, h_colo, h_sys, h_bru, h_pwr, h_flue, h_pulses,
          h_freeCtr, u_bru, u_flt, u_rcv, u_ldg, u_tenant, flushNotices_blank, set_blank, kickQueue_blank, unit_FLT_NTAIL_TAIL]
      | (with_reducible refine (hostWrite_blank _ _ _ _ _ _ _ (by first | assumption | exact u_all _) (by first | assumption | exact u_all _) ?_).trans ?_)
      | split
      | (intro))

theorem execL2QueueTimeout_blank (rid : Nat) (s : State) (h_flt : F.flt) (h_rcv : F.rcv) (h_ldg : F.ldg) (h_vault : F.vault)
    (h_colo : F.colo) (h_sys : F.sys) (h_bru : F.bru) (h_pwr : F.pwr) (h_flue : F.flue) (h_pulses : F.pulses)
    (h_freeCtr : F.freeCtr) (u_bru : F.has .bru) (u_flt : F.has .flt) (u_rcv : F.has .rcv) (u_ldg : F.has .ldg)
    (u_tenant : F.has .tenant) : Keeps F s (execL2QueueTimeout rid s) := by
  unfold execL2QueueTimeout
  repeat' (first
      | with_reducible rfl
      | simp only [keeps_next, h_flt, h_rcv, h_ldg, h_vault, h_colo, h_sys, h_bru, h_pwr, h_flue, h_pulses, h_freeCtr, u_bru,
          u_flt, u_rcv, u_ldg, u_tenant, runL2_blank, startL2_blank]
      | split
      | (intro))

theorem execCatReport_blank (region : Nat) (col : Nat) (state : Nat) (q1 : Nat) (q2 : Nat) (isPartial : Bool) (x : Nat)
    (y : Nat) (s : State) (h_flt : F.flt) (h_rcv : F.rcv) (h_ldg : F.ldg) (h_vault : F.vault) (h_colo : F.colo) (h_sys : F.sys)
    (h_bru : F.bru) (h_pwr : F.pwr) (h_flue : F.flue) (h_pulses : F.pulses) (h_freeCtr : F.freeCtr) (u_bru : F.has .bru)
    (u_flt : F.has .flt) (u_rcv : F.has .rcv) (u_ldg : F.has .ldg) (u_tenant : F.has .tenant) : Keeps F s (execCatReport region
    col state q1 q2 isPartial x y s) := by
  unfold execCatReport
  repeat' (first
      | with_reducible rfl
      | simp only [keeps_next, h_flt, h_rcv, h_ldg, h_vault, h_colo, h_sys, h_bru, h_pwr, h_flue, h_pulses, h_freeCtr, u_bru,
          u_flt, u_rcv, u_ldg, u_tenant, reactReport_blank, kickQueue_blank, recv_blank]
      | split
      | (intro))

theorem loadRow_blank (s : State) (r : RegRow) (i : Nat) (mask : Nat) (data : Nat) (u_all : ∀ u, F.has u = true) :
    (State.loadRow s r i mask data).blank F = s.blank F := by
  unfold State.loadRow
  repeat' (first
      | with_reducible rfl
      | simp only [implies_true, apply_ite (State.blank F), ite_self, u_all, set_blank]
      | (with_reducible refine (foldl_blank _ _ _ ?_).trans ?_)
      | split
      | (intro))

theorem loadEntry_blank (s : State) (e : LoadEntry) (only : Win → Nat → Bool) (u_all : ∀ u, F.has u = true) : (State.loadEntry s
    e only).blank F = s.blank F := by
  unfold State.loadEntry
  repeat' (first
      | with_reducible rfl
      | simp only [implies_true, u_all, loadRow_blank]
      | (with_reducible refine (foldl_blank _ _ _ ?_).trans ?_)
      | split
      | (intro))

theorem quiesce_blank (s : State) (h_hubs : F.hubs) (h_flt : F.flt) (h_fl : F.fl) (h_ldg : F.ldg) (h_tally : F.tally)
    (h_link : F.link) (h_colo : F.colo) (h_sys : F.sys) (h_stk : F.stk) (h_bru : F.bru) (h_pwr : F.pwr) (h_flue : F.flue)
    (h_pulses : F.pulses) (h_freeCtr : F.freeCtr) (u_bru : F.has .bru) (u_flt : F.has .flt) (u_ccd : F.has .ccd)
    (u_stk : F.has .stk) (u_channel : F.has .channel) (u_ldg : F.has .ldg) (u_folio : F.has .folio) (u_cat : F.has .cat)
    (u_clp : F.has .clp) (u_tenant : F.has .tenant) : (State.quiesce s).blank F = s.blank F := by
  unfold State.quiesce
  repeat' (first
      | with_reducible rfl
      | simp only [implies_true, blank_mk, apply_ite (State.blank F), ite_self, or_true, true_or, h_hubs, h_flt, h_fl, h_ldg,
          h_tally, h_link, h_colo, h_sys, h_stk, h_bru, h_pwr, h_flue, h_pulses, h_freeCtr, u_bru, u_flt, u_ccd, u_stk,
          u_channel, u_ldg, u_folio, u_cat, u_clp, u_tenant, bankedRecord_blank, voidAll_blank, fenceAll_blank, raise_blank,
          stkDropCh_blank, unit_STK_EVENT_DROP]
      | (with_reducible refine (foldl_blank _ _ _ ?_).trans ?_)
      | split
      | (intro))

theorem subStep_blank (s : State) (go : State → State) (h_hubs : F.hubs) (h_flt : F.flt) (h_fl : F.fl) (h_ldg : F.ldg)
    (h_tally : F.tally) (h_link : F.link) (h_colo : F.colo) (h_sys : F.sys) (h_stk : F.stk) (h_bru : F.bru) (h_pwr : F.pwr)
    (h_flue : F.flue) (h_pulses : F.pulses) (h_freeCtr : F.freeCtr) (u_bru : F.has .bru) (u_flt : F.has .flt)
    (u_ccd : F.has .ccd) (u_stk : F.has .stk) (u_channel : F.has .channel) (u_ldg : F.has .ldg) (u_folio : F.has .folio)
    (u_cat : F.has .cat) (u_clp : F.has .clp) (u_tenant : F.has .tenant) (hgo : ∀ x0, (go x0).blank F = x0.blank F) :
    (State.subStep s go).blank F = s.blank F := by
  unfold State.subStep
  repeat' (first
      | with_reducible rfl
      | simp only [apply_ite (State.blank F), ite_self, h_hubs, h_flt, h_fl, h_ldg, h_tally, h_link, h_colo, h_sys, h_stk,
          h_bru, h_pwr, h_flue, h_pulses, h_freeCtr, u_bru, u_flt, u_ccd, u_stk, u_channel, u_ldg, u_folio, u_cat, u_clp,
          u_tenant, hgo, quiesce_blank]
      | split
      | (intro))

theorem buildCatalogue_blank (s : State) (h_hubs : F.hubs) (h_master : F.master) : (State.buildCatalogue s).blank F = s.blank F
    := by
  unfold State.buildCatalogue
  repeat' (first
      | with_reducible rfl
      | simp only [implies_true, blank_mk, or_true, true_or, h_hubs, h_master, modHub_blank]
      | (with_reducible refine (foldl_blank _ _ _ ?_).trans ?_)
      | split
      | (intro))

theorem hubTakes_blank (s : State) (r : Nat) (tc : List TcoefEntry) (h_hubs : F.hubs) (u_hubIft : F.has .hubIft)
    (u_hubEn : F.has .hubEn) : (State.hubTakes s r tc).blank F = s.blank F := by
  unfold State.hubTakes
  repeat' (first
      | with_reducible rfl
      | simp only [h_hubs, u_hubIft, u_hubEn, set_blank, modHub_blank, unit_RH_IFT_CTRL_NPAT, unit_RH_TH_AMB_AMB]
      | split
      | (intro))

theorem setKbar_blank (s : State) (l : List ChannelEntry) (h_tally : F.tally) : (State.setKbar s l).blank F = s.blank F := by
  unfold State.setKbar
  repeat' (first
      | with_reducible rfl
      | simp only [blank_mk, or_true, true_or, h_tally]
      | (with_reducible refine (foldl_blank _ _ _ ?_).trans ?_)
      | split
      | (intro))

theorem showCharter_blank (s : State) (u_bru : F.has .bru) : (State.showCharter s).blank F = s.blank F := by
  unfold State.showCharter
  repeat' (first
      | with_reducible rfl
      | simp only [u_bru, setAll_blank, List.all_cons, List.all_nil, Bool.and_self, unit_CHR_INFO_AMSEQ, unit_CHR_INFO_EDIGEST,
          unit_CHR_INFO_LENGTH, unit_CHR_INFO_MEKOR, unit_CHR_INFO_SERIAL]
      | split
      | (intro))

theorem sendCharter_blank (s : State) (sections : List Nat) (h_flue : F.flue) : (State.sendCharter s sections).1.blank F =
    s.blank F := by
  unfold State.sendCharter
  repeat' (first
      | with_reducible rfl
      | simp only [h_flue, sendAll_blank]
      | split
      | (intro))

theorem applyCharter_blank (s : State) (i : Image) (h_cfg : F.cfg) (h_hubs : F.hubs) (h_master : F.master) (h_ldg : F.ldg)
    (h_tally : F.tally) (h_link : F.link) (h_bru : F.bru) (h_pwr : F.pwr) (h_flue : F.flue) (h_pulses : F.pulses)
    (u_all : ∀ u, F.has u = true) : (State.applyCharter s i).blank F = s.blank F := by
  unfold State.applyCharter
  repeat' (first
      | with_reducible rfl
      | simp only [implies_true, blank_mk, apply_ite (State.blank F), or_true, true_or, h_cfg, h_hubs, h_master, h_ldg, h_tally,
          h_link, h_bru, h_pwr, h_flue, h_pulses, u_all, showCharter_blank, setKbar_blank, buildCatalogue_blank,
          loadEntry_blank, sendCharter_blank, setAll_blank, List.all_cons, List.all_nil, Bool.and_self, syncBindings_blank,
          hubTakes_blank, bruRefuse_blank]
      | (with_reducible refine (foldl_blank _ _ _ ?_).trans ?_)
      | split
      | (intro))

theorem setPortBit_blank (s : State) (f : RegField) (c : Nat) (v : Bool) (v_f : F.has f.unit) : (State.setPortBit s f c v).blank
    F = s.blank F := by
  unfold State.setPortBit
  repeat' (first
      | with_reducible rfl
      | simp only [v_f, set_blank]
      | split
      | (intro))

theorem driveRoles_blank (s : State) (r : Nat) (h_probes : F.probes) (u_probe : F.has .probe) : (State.driveRoles s r).blank F =
    s.blank F := by
  unfold State.driveRoles
  repeat' (first
      | with_reducible rfl
      | simp only [implies_true, h_probes, u_probe, modProbe_blank, setFence_blank]
      | (with_reducible refine (foldl_blank _ _ _ ?_).trans ?_)
      | split
      | (intro))

theorem bruReady_blank (s : State) (h_probes : F.probes) (h_flt : F.flt) (h_ldg : F.ldg) (h_link : F.link) (h_bru : F.bru)
    (h_pwr : F.pwr) (h_flue : F.flue) (h_pulses : F.pulses) (u_bru : F.has .bru) (u_flt : F.has .flt) (u_ldg : F.has .ldg)
    (u_probe : F.has .probe) : (State.bruReady s).blank F = s.blank F := by
  unfold State.bruReady
  repeat' (first
      | with_reducible rfl
      | simp only [implies_true, blank_mk, or_true, true_or, h_probes, h_flt, h_ldg, h_link, h_bru, h_pwr, h_flue, h_pulses,
          u_bru, u_flt, u_ldg, u_probe, enablePort_blank, recordOf_blank, raise_blank, setPhase_blank, driveRoles_blank,
          rollBackLost_blank, bruEnd_blank, setAll_blank, List.all_cons, List.all_nil, Bool.and_self, event_blank,
          unit_BRU_EVENT_READY, unit_BRU_STATUS_UNPROV, unit_CHR_LOCK_ALLOW, unit_CHR_LOCK_LOCKED]
      | (with_reducible refine (foldl_blank _ _ _ ?_).trans ?_)
      | split
      | (intro))

theorem qualCheck_blank (s : State) (h_probes : F.probes) (h_flt : F.flt) (h_ldg : F.ldg) (h_link : F.link) (h_bru : F.bru)
    (h_pwr : F.pwr) (h_flue : F.flue) (h_pulses : F.pulses) (u_bru : F.has .bru) (u_flt : F.has .flt) (u_ldg : F.has .ldg)
    (u_probe : F.has .probe) : (State.qualCheck s).blank F = s.blank F := by
  unfold State.qualCheck
  repeat' (first
      | with_reducible rfl
      | simp only [apply_ite (State.blank F), ite_self, h_probes, h_flt, h_ldg, h_link, h_bru, h_pwr, h_flue, h_pulses, u_bru,
          u_flt, u_ldg, u_probe, bruReady_blank, bruRefuse_blank]
      | split
      | (intro))

theorem qualify_blank (s : State) (h_probes : F.probes) (h_flt : F.flt) (h_ldg : F.ldg) (h_tally : F.tally) (h_link : F.link)
    (h_bru : F.bru) (h_pwr : F.pwr) (h_flue : F.flue) (h_pulses : F.pulses) (u_bru : F.has .bru) (u_flt : F.has .flt)
    (u_ldg : F.has .ldg) (u_probe : F.has .probe) : (State.qualify s).blank F = s.blank F := by
  unfold State.qualify
  repeat' (first
      | with_reducible rfl
      | simp only [implies_true, blank_mk, or_true, true_or, h_probes, h_flt, h_ldg, h_tally, h_link, h_bru, h_pwr, h_flue,
          h_pulses, u_bru, u_flt, u_ldg, u_probe, modPort_blank, qualCheck_blank, syncSense_blank, emitAll_blank]
      | (with_reducible refine (foldl_blank _ _ _ ?_).trans ?_)
      | split
      | (intro))

theorem bruLoad_blank (s : State) (h_bru : F.bru) : (State.bruLoad s).blank F = s.blank F := by
  unfold State.bruLoad
  repeat' (first
      | with_reducible rfl
      | simp only [blank_mk, or_true, true_or, h_bru]
      | split
      | (intro))

theorem bruNext_blank (s : State) (h_hubs : F.hubs) (h_flt : F.flt) (h_fl : F.fl) (h_ldg : F.ldg) (h_tally : F.tally)
    (h_link : F.link) (h_colo : F.colo) (h_sys : F.sys) (h_stk : F.stk) (h_bru : F.bru) (h_pwr : F.pwr) (h_flue : F.flue)
    (h_pulses : F.pulses) (h_freeCtr : F.freeCtr) (u_bru : F.has .bru) (u_flt : F.has .flt) (u_ccd : F.has .ccd)
    (u_stk : F.has .stk) (u_channel : F.has .channel) (u_ldg : F.has .ldg) (u_folio : F.has .folio) (u_cat : F.has .cat)
    (u_clp : F.has .clp) (u_tenant : F.has .tenant) : (State.bruNext s).blank F = s.blank F := by
  unfold State.bruNext
  repeat' (first
      | with_reducible rfl
      | simp only [implies_true, blank_mk, apply_ite (State.blank F), ite_self, or_true, true_or, h_hubs, h_flt, h_fl, h_ldg,
          h_tally, h_link, h_colo, h_sys, h_stk, h_bru, h_pwr, h_flue, h_pulses, h_freeCtr, bruLoad_blank]
      | (with_reducible refine (subStep_blank _ _ (by first | assumption | exact u_all _) (by first | assumption | exact u_all _) (by first | assumption | exact u_all _) (by first | assumption | exact u_all _) (by first | assumption | exact u_all _) (by first | assumption | exact u_all _) (by first | assumption | exact u_all _) (by first | assumption | exact u_all _) (by first | assumption | exact u_all _) (by first | assumption | exact u_all _) (by first | assumption | exact u_all _) (by first | assumption | exact u_all _) (by first | assumption | exact u_all _) (by first | assumption | exact u_all _) (by first | assumption | exact u_all _) (by first | assumption | exact u_all _) (by first | assumption | exact u_all _) (by first | assumption | exact u_all _) (by first | assumption | exact u_all _) (by first | assumption | exact u_all _) (by first | assumption | exact u_all _) (by first | assumption | exact u_all _) (by first | assumption | exact u_all _) (by first | assumption | exact u_all _) ?_).trans ?_)
      | split
      | (intro))

theorem bruVerified_blank (s : State) (i : Image) (h_cfg : F.cfg) (h_hubs : F.hubs) (h_master : F.master) (h_flt : F.flt)
    (h_fl : F.fl) (h_ldg : F.ldg) (h_tally : F.tally) (h_link : F.link) (h_colo : F.colo) (h_sys : F.sys) (h_stk : F.stk)
    (h_bru : F.bru) (h_pwr : F.pwr) (h_flue : F.flue) (h_pulses : F.pulses) (h_freeCtr : F.freeCtr)
    (u_all : ∀ u, F.has u = true) : (State.bruVerified s i).blank F = s.blank F := by
  unfold State.bruVerified
  repeat' (first
      | with_reducible rfl
      | simp only [implies_true, blank_mk, or_true, true_or, h_cfg, h_hubs, h_master, h_flt, h_fl, h_ldg, h_tally, h_link,
          h_colo, h_sys, h_stk, h_bru, h_pwr, h_flue, h_pulses, h_freeCtr, u_all, applyCharter_blank]
      | (with_reducible refine (subStep_blank _ _ (by first | assumption | exact u_all _) (by first | assumption | exact u_all _) (by first | assumption | exact u_all _) (by first | assumption | exact u_all _) (by first | assumption | exact u_all _) (by first | assumption | exact u_all _) (by first | assumption | exact u_all _) (by first | assumption | exact u_all _) (by first | assumption | exact u_all _) (by first | assumption | exact u_all _) (by first | assumption | exact u_all _) (by first | assumption | exact u_all _) (by first | assumption | exact u_all _) (by first | assumption | exact u_all _) (by first | assumption | exact u_all _) (by first | assumption | exact u_all _) (by first | assumption | exact u_all _) (by first | assumption | exact u_all _) (by first | assumption | exact u_all _) (by first | assumption | exact u_all _) (by first | assumption | exact u_all _) (by first | assumption | exact u_all _) (by first | assumption | exact u_all _) (by first | assumption | exact u_all _) ?_).trans ?_)
      | split
      | (intro))

theorem bruResume_blank (s : State) (h_cfg : F.cfg) (h_probes : F.probes) (h_hubs : F.hubs) (h_master : F.master)
    (h_flt : F.flt) (h_fl : F.fl) (h_ldg : F.ldg) (h_tally : F.tally) (h_link : F.link) (h_colo : F.colo) (h_sys : F.sys)
    (h_stk : F.stk) (h_bru : F.bru) (h_pwr : F.pwr) (h_flue : F.flue) (h_pulses : F.pulses) (h_freeCtr : F.freeCtr)
    (u_all : ∀ u, F.has u = true) : (State.bruResume s).blank F = s.blank F := by
  unfold State.bruResume
  repeat' (first
      | with_reducible rfl
      | simp only [implies_true, blank_mk, apply_ite (State.blank F), ite_self, or_true, true_or, h_cfg, h_probes, h_hubs,
          h_master, h_flt, h_fl, h_ldg, h_tally, h_link, h_colo, h_sys, h_stk, h_bru, h_pwr, h_flue, h_pulses, h_freeCtr, u_all,
          bruNext_blank, qualify_blank, bruVerified_blank, bruLoad_blank]
      | (with_reducible refine (subStep_blank _ _ (by first | assumption | exact u_all _) (by first | assumption | exact u_all _) (by first | assumption | exact u_all _) (by first | assumption | exact u_all _) (by first | assumption | exact u_all _) (by first | assumption | exact u_all _) (by first | assumption | exact u_all _) (by first | assumption | exact u_all _) (by first | assumption | exact u_all _) (by first | assumption | exact u_all _) (by first | assumption | exact u_all _) (by first | assumption | exact u_all _) (by first | assumption | exact u_all _) (by first | assumption | exact u_all _) (by first | assumption | exact u_all _) (by first | assumption | exact u_all _) (by first | assumption | exact u_all _) (by first | assumption | exact u_all _) (by first | assumption | exact u_all _) (by first | assumption | exact u_all _) (by first | assumption | exact u_all _) (by first | assumption | exact u_all _) (by first | assumption | exact u_all _) (by first | assumption | exact u_all _) ?_).trans ?_)
      | split
      | (intro))

theorem bringUpStart_blank (s : State) (h_ldg : F.ldg) (h_vault : F.vault) (h_bru : F.bru) (h_pwr : F.pwr) (h_pulses : F.pulses)
    (u_bru : F.has .bru) (u_ldg : F.has .ldg) : (State.bringUpStart s).blank F = s.blank F := by
  unfold State.bringUpStart
  repeat' (first
      | with_reducible rfl
      | simp only [blank_mk, apply_ite (State.blank F), ite_self, or_true, true_or, h_ldg, h_vault, h_bru, h_pwr, h_pulses,
          u_bru, u_ldg, bruRefuse_blank, emit_blank]
      | split
      | (intro))

theorem amendReject_blank (s : State) (reason : Nat) (seq : Nat) (h_ldg : F.ldg) (u_bru : F.has .bru) (u_ldg : F.has .ldg) :
    (State.amendReject s reason seq).blank F = s.blank F := by
  unfold State.amendReject
  repeat' (first
      | with_reducible rfl
      | simp only [h_ldg, u_bru, u_ldg, recordOf_blank, raise_blank, setAll_blank, List.all_cons, List.all_nil, Bool.and_self,
          unit_BRU_EVENT_AMREJ, unit_CHR_AMST_REASON, unit_CHR_AMST_RESULT]
      | split
      | (intro))

theorem dropPorts_blank (s : State) (l : List PortEntry) (h_hubs : F.hubs) (h_flt : F.flt) (h_fl : F.fl) (h_tally : F.tally)
    (h_link : F.link) (h_colo : F.colo) (h_bru : F.bru) (h_flue : F.flue) (h_pulses : F.pulses) (h_freeCtr : F.freeCtr)
    (u_bru : F.has .bru) (u_flt : F.has .flt) (u_ccd : F.has .ccd) (u_tly : F.has .tly) (u_folio : F.has .folio)
    (u_cat : F.has .cat) (u_clp : F.has .clp) (u_tenant : F.has .tenant) : (State.dropPorts s l).blank F = s.blank F := by
  unfold State.dropPorts
  repeat' (first
      | with_reducible rfl
      | simp only [implies_true, h_hubs, h_flt, h_fl, h_tally, h_link, h_colo, h_bru, h_flue, h_pulses, h_freeCtr, u_bru, u_flt,
          u_ccd, u_tly, u_folio, u_cat, u_clp, u_tenant, disablePort_blank]
      | (with_reducible refine (foldl_blank _ _ _ ?_).trans ?_)
      | split
      | (intro))

theorem rebind_blank (s : State) (l : List TenantEntry) (h_link : F.link) (h_pulses : F.pulses) (u_clp : F.has .clp) :
    (State.rebind s l).blank F = s.blank F := by
  unfold State.rebind
  repeat' (first
      | with_reducible rfl
      | simp only [implies_true, h_link, h_pulses, u_clp, dropBinding_blank, syncBindings_blank]
      | (with_reducible refine (foldl_blank _ _ _ ?_).trans ?_)
      | split
      | (intro))

theorem amendKiln_blank (s : State) (a : Charter) (sect : Nat) (h_cfg : F.cfg) (h_hubs : F.hubs) (h_master : F.master)
    (h_flt : F.flt) (h_fl : F.fl) (h_ldg : F.ldg) (h_tally : F.tally) (h_link : F.link) (h_colo : F.colo) (h_dbg : F.dbg)
    (h_bru : F.bru) (h_flue : F.flue) (h_pulses : F.pulses) (h_freeCtr : F.freeCtr) (u_all : ∀ u, F.has u = true) :
    (State.amendKiln s a sect).blank F = s.blank F := by
  unfold State.amendKiln
  repeat' (first
      | with_reducible rfl
      | simp only [implies_true, blank_mk, apply_ite (State.blank F), ite_self, or_true, true_or, h_cfg, h_hubs, h_master,
          h_flt, h_fl, h_ldg, h_tally, h_link, h_colo, h_dbg, h_bru, h_flue, h_pulses, h_freeCtr, u_all, dropPorts_blank,
          rebind_blank, setKbar_blank, loadEntry_blank, syncSense_blank, stopPin_blank]
      | (with_reducible refine (foldl_blank _ _ _ ?_).trans ?_)
      | split
      | (intro))

theorem amendDone_blank (s : State) (i : Image) (number : Nat) (h_ldg : F.ldg) (h_vault : F.vault) (h_colo : F.colo)
    (h_sys : F.sys) (h_bru : F.bru) (h_freeCtr : F.freeCtr) (u_bru : F.has .bru) (u_ldg : F.has .ldg) (u_tenant : F.has .tenant)
    : (State.amendDone s i number).blank F = s.blank F := by
  unfold State.amendDone
  repeat' (first
      | with_reducible rfl
      | simp only [implies_true, blank_mk, or_true, true_or, h_ldg, h_vault, h_colo, h_sys, h_bru, h_freeCtr, u_bru, u_ldg,
          u_tenant, recordOf_blank, showCharter_blank, settingChanged_blank, raise_blank, setAll_blank, List.all_cons,
          List.all_nil, Bool.and_self, unit_BRU_EVENT_AMEND, unit_CHR_AMST_BUSY, unit_CHR_AMST_REASON, unit_CHR_AMST_RESULT]
      | (with_reducible refine (foldl_blank _ _ _ ?_).trans ?_)
      | split
      | (intro))

theorem amendApply_blank (s : State) (number : Nat) (a : Act) (h_cfg : F.cfg) (h_hubs : F.hubs) (h_master : F.master)
    (h_flt : F.flt) (h_fl : F.fl) (h_ldg : F.ldg) (h_tally : F.tally) (h_vault : F.vault) (h_link : F.link) (h_colo : F.colo)
    (h_sys : F.sys) (h_dbg : F.dbg) (h_bru : F.bru) (h_flue : F.flue) (h_pulses : F.pulses) (h_freeCtr : F.freeCtr)
    (u_all : ∀ u, F.has u = true) : (State.amendApply s number a).blank F = s.blank F := by
  unfold State.amendApply
  repeat' (first
      | with_reducible rfl
      | simp only [implies_true, blank_mk, apply_ite (State.blank F), ite_self, or_true, true_or, h_cfg, h_hubs, h_master,
          h_flt, h_fl, h_ldg, h_tally, h_vault, h_link, h_colo, h_sys, h_dbg, h_bru, h_flue, h_pulses, h_freeCtr, u_all,
          amendDone_blank, amendKiln_blank]
      | split
      | (intro))

theorem hubTraceOn_blank (s : State) (old : State) (r : Nat) (h_hubs : F.hubs) (h_ldg : F.ldg) (h_flue : F.flue)
    (h_pulses : F.pulses) (u_ldg : F.has .ldg) (u_hubTr : F.has .hubTr) : (State.hubTraceOn s old r).blank F = s.blank F := by
  unfold State.hubTraceOn
  repeat' (first
      | with_reducible rfl
      | simp only [apply_ite (State.blank F), ite_self, h_hubs, h_ldg, h_flue, h_pulses, u_ldg, u_hubTr, traceMark_blank]
      | split
      | (intro))

theorem amendHub_blank (s : State) (r : Nat) (a : Act) (h_cfg : F.cfg) (h_hubs : F.hubs) (h_ldg : F.ldg) (h_flue : F.flue)
    (h_pulses : F.pulses) (u_all : ∀ u, F.has u = true) : (State.amendHub s r a).blank F = s.blank F := by
  unfold State.amendHub
  repeat' (first
      | with_reducible rfl
      | simp only [implies_true, blank_mk, or_true, true_or, h_cfg, h_hubs, h_ldg, h_flue, h_pulses, u_all, loadEntry_blank,
          modHub_blank, hubTakes_blank, hubTraceOn_blank]
      | (with_reducible refine (foldl_blank _ _ _ ?_).trans ?_)
      | split
      | (intro))

theorem execFlPropose_blank (region : Nat) (part : Nat) (pid : Nat) (last : Bool) (urgent : Bool) (acts : List Flit) (s : State)
    (h_hubs : F.hubs) (h_flt : F.flt) (h_fl : F.fl) (h_tally : F.tally) (h_link : F.link) (h_colo : F.colo) (h_bru : F.bru)
    (h_flue : F.flue) (h_pulses : F.pulses) (h_freeCtr : F.freeCtr) (u_bru : F.has .bru) (u_flt : F.has .flt)
    (u_ccd : F.has .ccd) (u_folio : F.has .folio) (u_cat : F.has .cat) (u_clp : F.has .clp) (u_tenant : F.has .tenant) : Keeps F
    s (execFlPropose region part pid last urgent acts s) := by
  unfold execFlPropose
  repeat' (first
      | with_reducible rfl
      | simp only [implies_true, blank_mk, apply_ite (State.blank F), or_true, true_or, keeps_next, h_hubs, h_flt, h_fl,
          h_tally, h_link, h_colo, h_bru, h_flue, h_pulses, h_freeCtr, u_bru, u_flt, u_ccd, u_folio, u_cat, u_clp, u_tenant,
          enqueue_blank, reactRefused_blank, urgentVoids_blank, raise_blank, reactLearn_blank, admitWaiting_blank, recv_blank,
          send_blank, unit_FOLIO_EVENT_BUSY]
      | (with_reducible refine (foldl_blank _ _ _ ?_).trans ?_)
      | split
      | (intro))

theorem mapProposed_blank (s : State) (r : Nat) (f : List (Nat × List Act × Bool × Bool) → List (Nat × List Act × Bool × Bool))
    (h_hubs : F.hubs) : (State.mapProposed s r f).blank F = s.blank F := by
  unfold State.mapProposed
  repeat' (first
      | with_reducible rfl
      | simp only [h_hubs, modHub_blank]
      | split
      | (intro))

theorem execFlAccept_blank (region : Nat) (pid : Nat) (result : Nat) (number : Nat) (s : State) (h_hubs : F.hubs)
    (h_flue : F.flue) : Keeps F s (execFlAccept region pid result number s) := by
  unfold execFlAccept
  repeat' (first
      | with_reducible rfl
      | simp only [apply_ite (State.blank F), ite_self, keeps_next, h_hubs, h_flue, mapProposed_blank, recv_blank, modHub_blank]
      | split
      | (intro))

theorem execProposeRetry_blank (region : Nat) (pid : Nat) (s : State) (h_hubs : F.hubs) (h_flue : F.flue) : Keeps F s
    (execProposeRetry region pid s) := by
  unfold execProposeRetry
  repeat' (first
      | with_reducible rfl
      | simp only [keeps_next, h_hubs, h_flue, mapProposed_blank, sendAll_blank]
      | split
      | (intro))

theorem voidAnd_blank (s : State) (n : Nat) (code : Nat) (voidsrc : Nat) (h_hubs : F.hubs) (h_flt : F.flt) (h_fl : F.fl)
    (h_tally : F.tally) (h_link : F.link) (h_colo : F.colo) (h_bru : F.bru) (h_flue : F.flue) (h_pulses : F.pulses)
    (h_freeCtr : F.freeCtr) (u_bru : F.has .bru) (u_flt : F.has .flt) (u_ccd : F.has .ccd) (u_tly : F.has .tly)
    (u_folio : F.has .folio) (u_cat : F.has .cat) (u_clp : F.has .clp) (u_tenant : F.has .tenant) : (State.voidAnd s n code
    voidsrc).blank F = s.blank F := by
  unfold State.voidAnd
  repeat' (first
      | with_reducible rfl
      | simp only [blank_mk, apply_ite (State.blank F), ite_self, or_true, true_or, h_hubs, h_flt, h_fl, h_tally, h_link,
          h_colo, h_bru, h_flue, h_pulses, h_freeCtr, u_bru, u_flt, u_ccd, u_tly, u_folio, u_cat, u_clp, u_tenant,
          proposeReset_blank, voidFolio_blank, treqEnd_blank, kilnPropose_blank, linkVoid_blank, admitWaiting_blank,
          setFolio_blank, setAll_blank, List.all_cons, List.all_nil, Bool.and_self, unit_CAT_REQFOLIO_FOLIO,
          unit_CAT_REQST_BUSY, unit_CAT_REQST_RESULT]
      | split
      | (intro))

theorem execFolioPrepare_blank (number : Nat) (s : State) (h_hubs : F.hubs) (h_master : F.master) (h_seeds : F.seeds)
    (h_flt : F.flt) (h_fl : F.fl) (h_tally : F.tally) (h_vault : F.vault) (h_link : F.link) (h_colo : F.colo) (h_bru : F.bru)
    (h_flue : F.flue) (h_pulses : F.pulses) (h_freeCtr : F.freeCtr) (u_bru : F.has .bru) (u_flt : F.has .flt)
    (u_ccd : F.has .ccd) (u_tly : F.has .tly) (u_folio : F.has .folio) (u_cat : F.has .cat) (u_clp : F.has .clp)
    (u_tenant : F.has .tenant) : Keeps F s (execFolioPrepare number s) := by
  unfold execFolioPrepare
  repeat' (first
      | with_reducible rfl
      | simp only [implies_true, blank_mk, apply_ite (State.blank F), ite_self, or_true, true_or, keeps_next, h_hubs, h_master,
          h_seeds, h_flt, h_fl, h_tally, h_vault, h_link, h_colo, h_bru, h_flue, h_pulses, h_freeCtr, u_bru, u_flt, u_ccd,
          u_tly, u_folio, u_cat, u_clp, u_tenant, ensureSeed_blank, linkPrepare_blank, toParts_blank, admitWaiting_blank,
          tryDecide_blank, setFolio_blank, voidAnd_blank]
      | (with_reducible refine (foldl_blank _ _ _ ?_).trans ?_)
      | split
      | (intro))

theorem setUnitFolio_blank (s : State) (who : Nat) (n : Nat) (f : Option HubFolio) (h_fl : F.fl) : (State.setUnitFolio s who n
    f).blank F = s.blank F := by
  unfold State.setUnitFolio
  repeat' (first
      | with_reducible rfl
      | simp only [blank_mk, or_true, true_or, h_fl]
      | split
      | (intro))

theorem unitPrepare_blank (s : State) (who : Nat) (f : HubFolio) (h_fl : F.fl) (h_flue : F.flue) : (State.unitPrepare s who
    f).blank F = s.blank F := by
  unfold State.unitPrepare
  repeat' (first
      | with_reducible rfl
      | simp only [apply_ite (State.blank F), ite_self, h_fl, h_flue, setUnitFolio_blank, send_blank]
      | split
      | (intro))

theorem amendVotes_blank (s : State) (h_fl : F.fl) (h_flue : F.flue) : (State.amendVotes s).blank F = s.blank F := by
  unfold State.amendVotes
  repeat' (first
      | with_reducible rfl
      | simp only [implies_true, h_fl, h_flue, unitPrepare_blank]
      | (with_reducible refine (foldl_blank _ _ _ ?_).trans ?_)
      | split
      | (intro))

theorem applyUnitAct_blank (s : State) (f : HubFolio) (a : Act) (h_cfg : F.cfg) (h_hubs : F.hubs) (h_master : F.master)
    (h_seeds : F.seeds) (h_flt : F.flt) (h_fl : F.fl) (h_rcv : F.rcv) (h_ldg : F.ldg) (h_tally : F.tally) (h_vault : F.vault)
    (h_link : F.link) (h_colo : F.colo) (h_sys : F.sys) (h_stk : F.stk) (h_dbg : F.dbg) (h_bru : F.bru) (h_flue : F.flue)
    (h_pulses : F.pulses) (h_freeCtr : F.freeCtr) (u_all : ∀ u, F.has u = true) : (State.applyUnitAct s f a).blank F = s.blank F
    := by
  unfold State.applyUnitAct
  repeat' (first
      | with_reducible rfl
      | simp only [implies_true, apply_ite (State.blank F), ite_self, h_cfg, h_hubs, h_master, h_seeds, h_flt, h_fl, h_rcv,
          h_ldg, h_tally, h_vault, h_link, h_colo, h_sys, h_stk, h_dbg, h_bru, h_flue, h_pulses, h_freeCtr, u_all,
          suspectLeaves_blank, amendApply_blank, sweepAggregator_blank, linkApply_blank, stackerDrop_blank, epochReset_blank]
      | split
      | (intro))

theorem modFl_blank (s : State) (f : KFolio → KFolio) (h_fl : F.fl) : (State.modFl s f).blank F = s.blank F := by
  unfold State.modFl
  repeat' (first
      | with_reducible rfl
      | simp only [blank_mk, or_true, true_or, h_fl]
      | split
      | (intro))

theorem notePast_blank (s : State) (who : Nat) (n : Nat) (voided : Bool) (h_fl : F.fl) : (State.notePast s who n voided).blank F
    = s.blank F := by
  unfold State.notePast
  repeat' (first
      | with_reducible rfl
      | simp only [h_fl, setUnitFolio_blank, modFl_blank]
      | split
      | (intro))

theorem applyUnit_blank (s : State) (who : Nat) (f : HubFolio) (h_cfg : F.cfg) (h_hubs : F.hubs) (h_master : F.master)
    (h_seeds : F.seeds) (h_flt : F.flt) (h_fl : F.fl) (h_rcv : F.rcv) (h_ldg : F.ldg) (h_tally : F.tally) (h_vault : F.vault)
    (h_link : F.link) (h_colo : F.colo) (h_sys : F.sys) (h_stk : F.stk) (h_dbg : F.dbg) (h_bru : F.bru) (h_flue : F.flue)
    (h_pulses : F.pulses) (h_freeCtr : F.freeCtr) (u_all : ∀ u, F.has u = true) : (State.applyUnit s who f).blank F = s.blank F
    := by
  unfold State.applyUnit
  repeat' (first
      | with_reducible rfl
      | simp only [implies_true, h_cfg, h_hubs, h_master, h_seeds, h_flt, h_fl, h_rcv, h_ldg, h_tally, h_vault, h_link, h_colo,
          h_sys, h_stk, h_dbg, h_bru, h_flue, h_pulses, h_freeCtr, u_all, applyUnitAct_blank, notePast_blank, send_blank]
      | (with_reducible refine (foldl_blank _ _ _ ?_).trans ?_)
      | split
      | (intro))

theorem applyFolio_blank (s : State) (r : Nat) (f : HubFolio) (h_cfg : F.cfg) (h_probes : F.probes) (h_hubs : F.hubs)
    (h_master : F.master) (h_seeds : F.seeds) (h_flt : F.flt) (h_ldg : F.ldg) (h_tally : F.tally) (h_vault : F.vault)
    (h_colo : F.colo) (h_sys : F.sys) (h_bru : F.bru) (h_flue : F.flue) (h_pulses : F.pulses) (h_freeCtr : F.freeCtr)
    (u_all : ∀ u, F.has u = true) : (State.applyFolio s r f).blank F = s.blank F := by
  unfold State.applyFolio
  repeat' (first
      | with_reducible rfl
      | simp only [implies_true, h_cfg, h_probes, h_hubs, h_master, h_seeds, h_flt, h_ldg, h_tally, h_vault, h_colo, h_sys,
          h_bru, h_flue, h_pulses, h_freeCtr, u_all, amendHub_blank, applyHub_blank]
      | (with_reducible refine (foldl_blank _ _ _ ?_).trans ?_)
      | split
      | (intro))

theorem execFlPrep_blank (who : Nat) (part : Nat) (last : Bool) (replay : Bool) (number : Nat) (tenant : Nat) (count : Nat)
    (gt : Nat) (acts : List Flit) (s : State) (h_cfg : F.cfg) (h_probes : F.probes) (h_hubs : F.hubs) (h_master : F.master)
    (h_seeds : F.seeds) (h_flt : F.flt) (h_fl : F.fl) (h_rcv : F.rcv) (h_ldg : F.ldg) (h_tally : F.tally) (h_vault : F.vault)
    (h_link : F.link) (h_colo : F.colo) (h_sys : F.sys) (h_stk : F.stk) (h_dbg : F.dbg) (h_bru : F.bru) (h_flue : F.flue)
    (h_pulses : F.pulses) (h_freeCtr : F.freeCtr) (u_all : ∀ u, F.has u = true) : Keeps F s (execFlPrep who part last replay
    number tenant count gt acts s) := by
  unfold execFlPrep
  repeat' (first
      | with_reducible rfl
      | simp only [implies_true, apply_ite (State.blank F), ite_self, keeps_next, h_cfg, h_probes, h_hubs, h_master, h_seeds,
          h_flt, h_fl, h_rcv, h_ldg, h_tally, h_vault, h_link, h_colo, h_sys, h_stk, h_dbg, h_bru, h_flue, h_pulses, h_freeCtr,
          u_all, unitPrepare_blank, setUnitFolio_blank, applyUnit_blank, applyFolio_blank, recvFolio_blank, traceFolio_blank,
          modHub_blank, hubPrepare_blank]
      | (with_reducible refine (foldl_blank _ _ _ ?_).trans ?_)
      | split
      | (intro))

theorem execFlVote_blank (who : Nat) (number : Nat) (code : Nat) (gt : Nat) (s : State) (h_hubs : F.hubs) (h_master : F.master)
    (h_flt : F.flt) (h_fl : F.fl) (h_tally : F.tally) (h_link : F.link) (h_colo : F.colo) (h_bru : F.bru) (h_flue : F.flue)
    (h_pulses : F.pulses) (h_freeCtr : F.freeCtr) (u_bru : F.has .bru) (u_flt : F.has .flt) (u_ccd : F.has .ccd)
    (u_tly : F.has .tly) (u_folio : F.has .folio) (u_cat : F.has .cat) (u_clp : F.has .clp) (u_tenant : F.has .tenant) : Keeps F
    s (execFlVote who number code gt s) := by
  unfold execFlVote
  repeat' (first
      | with_reducible rfl
      | simp only [keeps_next, h_hubs, h_master, h_flt, h_fl, h_tally, h_link, h_colo, h_bru, h_flue, h_pulses, h_freeCtr,
          u_bru, u_flt, u_ccd, u_tly, u_folio, u_cat, u_clp, u_tenant, tryDecide_blank, setFolio_blank, recv_blank,
          voidAnd_blank]
      | split
      | (intro))

theorem execFolioPrepareTimeout_blank (number : Nat) (s : State) (h_hubs : F.hubs) (h_flt : F.flt) (h_fl : F.fl)
    (h_tally : F.tally) (h_vault : F.vault) (h_link : F.link) (h_colo : F.colo) (h_sys : F.sys) (h_bru : F.bru)
    (h_flue : F.flue) (h_pulses : F.pulses) (h_freeCtr : F.freeCtr) (u_bru : F.has .bru) (u_flt : F.has .flt)
    (u_ccd : F.has .ccd) (u_tly : F.has .tly) (u_folio : F.has .folio) (u_cat : F.has .cat) (u_clp : F.has .clp)
    (u_tenant : F.has .tenant) : Keeps F s (execFolioPrepareTimeout number s) := by
  unfold execFolioPrepareTimeout
  repeat' (first
      | with_reducible rfl
      | simp only [keeps_next, h_hubs, h_flt, h_fl, h_tally, h_vault, h_link, h_colo, h_sys, h_bru, h_flue, h_pulses, h_freeCtr,
          u_bru, u_flt, u_ccd, u_tly, u_folio, u_cat, u_clp, u_tenant, raise_blank, strikePeers_blank, voidAnd_blank,
          unit_FOLIO_EVENT_TIMEOUT]
      | split
      | (intro))

theorem duplicate_blank (s : State) (r : Nat) (number : Nat) (h_flue : F.flue) (u_hubFl : F.has .hubFl) : (State.duplicate s r
    number).blank F = s.blank F := by
  unfold State.duplicate
  repeat' (first
      | with_reducible rfl
      | simp only [apply_ite (State.blank F), ite_self, h_flue, u_hubFl, raise_blank, send_blank, unit_RH_FL_EVENT_DUP]
      | split
      | (intro))

theorem execFlSeal_blank (who : Nat) (number : Nat) (replay : Bool) (t : Nat) (s : State) (h_hubs : F.hubs) (h_fl : F.fl)
    (h_ldg : F.ldg) (h_flue : F.flue) (h_pulses : F.pulses) (u_ldg : F.has .ldg) (u_hubFl : F.has .hubFl)
    (u_hubTr : F.has .hubTr) : Keeps F s (execFlSeal who number replay t s) := by
  unfold execFlSeal
  repeat' (first
      | with_reducible rfl
      | simp only [apply_ite (State.blank F), ite_self, keeps_next, h_hubs, h_fl, h_ldg, h_flue, h_pulses, u_ldg, u_hubFl,
          u_hubTr, setUnitFolio_blank, hubSeal_blank, duplicate_blank, recvFolio_blank]
      | split
      | (intro))

theorem proposalVoided_blank (s : State) (r : Nat) (number : Nat) (acts : List Act) (h_hubs : F.hubs) (h_flue : F.flue)
    (u_hubCat : F.has .hubCat) : (State.proposalVoided s r number acts).blank F = s.blank F := by
  unfold State.proposalVoided
  repeat' (first
      | with_reducible rfl
      | simp only [implies_true, apply_ite (State.blank F), ite_self, h_hubs, h_flue, u_hubCat, stepVoided_blank,
          hubPropose_blank, modHub_blank]
      | (with_reducible refine (foldl_blank _ _ _ ?_).trans ?_)
      | split
      | (intro))

theorem execFlVoid_blank (who : Nat) (number : Nat) (reason : Nat) (s : State) (h_hubs : F.hubs) (h_fl : F.fl) (h_ldg : F.ldg)
    (h_stk : F.stk) (h_flue : F.flue) (h_pulses : F.pulses) (u_stk : F.has .stk) (u_channel : F.has .channel)
    (u_ldg : F.has .ldg) (u_hubCat : F.has .hubCat) (u_hubFl : F.has .hubFl) (u_hubTr : F.has .hubTr) : Keeps F s (execFlVoid
    who number reason s) := by
  unfold execFlVoid
  repeat' (first
      | with_reducible rfl
      | simp only [implies_true, apply_ite (State.blank F), ite_self, keeps_next, h_hubs, h_fl, h_ldg, h_stk, h_flue, h_pulses,
          u_stk, u_channel, u_ldg, u_hubCat, u_hubFl, u_hubTr, dispatchAll_blank, releaseColumn_blank, duplicate_blank,
          stackerVoid_blank, proposalVoided_blank, recvFolio_blank, traceFolio_blank, notePast_blank, modHub_blank, send_blank]
      | (with_reducible refine (foldl_blank _ _ _ ?_).trans ?_)
      | split
      | (intro))

theorem execFolioApply_blank (who : Nat) (number : Nat) (s : State) (h_cfg : F.cfg) (h_probes : F.probes) (h_hubs : F.hubs)
    (h_master : F.master) (h_seeds : F.seeds) (h_flt : F.flt) (h_fl : F.fl) (h_rcv : F.rcv) (h_ldg : F.ldg) (h_tally : F.tally)
    (h_vault : F.vault) (h_link : F.link) (h_colo : F.colo) (h_sys : F.sys) (h_stk : F.stk) (h_dbg : F.dbg) (h_bru : F.bru)
    (h_flue : F.flue) (h_pulses : F.pulses) (h_freeCtr : F.freeCtr) (u_all : ∀ u, F.has u = true) : Keeps F s (execFolioApply
    who number s) := by
  unfold execFolioApply
  repeat' (first
      | with_reducible rfl
      | simp only [implies_true, apply_ite (State.blank F), ite_self, keeps_next, h_cfg, h_probes, h_hubs, h_master, h_seeds,
          h_flt, h_fl, h_rcv, h_ldg, h_tally, h_vault, h_link, h_colo, h_sys, h_stk, h_dbg, h_bru, h_flue, h_pulses, h_freeCtr,
          u_all, applyUnit_blank, applyFolio_blank]
      | split
      | (intro))

theorem execFlDone_blank (who : Nat) (number : Nat) (late : Bool) (voidAck : Bool) (dup : Bool) (gt : Nat) (s : State)
    (h_hubs : F.hubs) (h_flt : F.flt) (h_fl : F.fl) (h_tally : F.tally) (h_link : F.link) (h_colo : F.colo) (h_bru : F.bru)
    (h_flue : F.flue) (h_pulses : F.pulses) (h_freeCtr : F.freeCtr) (u_bru : F.has .bru) (u_flt : F.has .flt)
    (u_ccd : F.has .ccd) (u_folio : F.has .folio) (u_cat : F.has .cat) (u_clp : F.has .clp) (u_tenant : F.has .tenant) : Keeps F
    s (execFlDone who number late voidAck dup gt s) := by
  unfold execFlDone
  repeat' (first
      | with_reducible rfl
      | simp only [blank_mk, apply_ite (State.blank F), ite_self, or_true, true_or, keeps_next, h_hubs, h_flt, h_fl, h_tally,
          h_link, h_colo, h_bru, h_flue, h_pulses, h_freeCtr, u_bru, u_flt, u_ccd, u_folio, u_cat, u_clp, u_tenant, raise_blank,
          tryApplied_blank, setFolio_blank, recv_blank, unit_FOLIO_EVENT_LATE]
      | split
      | (intro))

theorem execFolioDoneTimeout_blank (number : Nat) (s : State) (h_hubs : F.hubs) (h_master : F.master) (h_flt : F.flt)
    (h_fl : F.fl) (h_tally : F.tally) (h_link : F.link) (h_colo : F.colo) (h_bru : F.bru) (h_flue : F.flue)
    (h_pulses : F.pulses) (h_freeCtr : F.freeCtr) (u_bru : F.has .bru) (u_flt : F.has .flt) (u_ccd : F.has .ccd)
    (u_folio : F.has .folio) (u_cat : F.has .cat) (u_clp : F.has .clp) (u_tenant : F.has .tenant) : Keeps F s
    (execFolioDoneTimeout number s) := by
  unfold execFolioDoneTimeout
  repeat' (first
      | with_reducible rfl
      | simp only [implies_true, keeps_next, h_hubs, h_master, h_flt, h_fl, h_tally, h_link, h_colo, h_bru, h_flue, h_pulses,
          h_freeCtr, u_bru, u_flt, u_ccd, u_folio, u_cat, u_clp, u_tenant, admitWaiting_blank, sendAll_blank, setFolio_blank,
          markBehind_blank]
      | (with_reducible refine (foldl_blank _ _ _ ?_).trans ?_)
      | split
      | (intro))

theorem rebuildHub_blank (s : State) (r : Nat) (number : Nat) (h_hubs : F.hubs) (h_master : F.master) (h_flt : F.flt)
    (h_flue : F.flue) (u_folio : F.has .folio) (u_hubFl : F.has .hubFl) : (State.rebuildHub s r number).blank F = s.blank F :=
    by
  unfold State.rebuildHub
  repeat' (first
      | with_reducible rfl
      | simp only [blank_mk, or_true, true_or, h_hubs, h_master, h_flt, h_flue, u_folio, u_hubFl, conseqFault_blank,
          raise_blank, sendAll_blank, modHub_blank, unit_FOLIO_EVENT_CATCHFAIL, unit_RH_FL_EVENT_REBUILT]
      | (with_reducible refine (foldl_blank _ _ _ ?_).trans ?_)
      | split
      | (intro))

theorem execFlSync_blank (region : Nat) (last : Nat) (s : State) (h_hubs : F.hubs) (h_master : F.master) (h_lost : F.lost)
    (h_flt : F.flt) (h_fl : F.fl) (h_tally : F.tally) (h_colo : F.colo) (h_flue : F.flue) (h_freeCtr : F.freeCtr)
    (u_flt : F.has .flt) (u_tly : F.has .tly) (u_folio : F.has .folio) (u_tenant : F.has .tenant) (u_hubFl : F.has .hubFl) :
    Keeps F s (execFlSync region last s) := by
  unfold execFlSync
  repeat' (first
      | with_reducible rfl
      | simp only [blank_mk, or_true, true_or, keeps_next, h_hubs, h_master, h_lost, h_flt, h_fl, h_tally, h_colo, h_flue,
          h_freeCtr, u_flt, u_tly, u_folio, u_tenant, u_hubFl, discardSweep_blank, rebuildHub_blank, setGap_blank,
          rollBackLost_blank, sendAll_blank, recv_blank, send_blank]
      | split
      | (intro))

theorem execFlSyncack_blank (region : Nat) (count : Nat) (failed : Bool) (s : State) (h_flue : F.flue) : Keeps F s
    (execFlSyncack region count failed s) := by
  unfold execFlSyncack
  repeat' (first
      | with_reducible rfl
      | simp only [keeps_next, h_flue, recv_blank]
      | split
      | (intro))

theorem execFlTdrop_blank (region : Nat) (tile : Nat) (acc : Nat) (tenant : Nat) (instant : Nat) (s : State)
    (h_probes : F.probes) (h_hubs : F.hubs) (h_ldg : F.ldg) (h_flue : F.flue) (h_pulses : F.pulses) (u_ldg : F.has .ldg)
    (u_hubRd : F.has .hubRd) (u_hubIft : F.has .hubIft) (u_hubCat : F.has .hubCat) (u_hubTr : F.has .hubTr)
    (u_probe : F.has .probe) : Keeps F s (execFlTdrop region tile acc tenant instant s) := by
  unfold execFlTdrop
  repeat' (first
      | with_reducible rfl
      | simp only [implies_true, apply_ite (State.blank F), ite_self, keeps_next, h_probes, h_hubs, h_ldg, h_flue, h_pulses,
          u_ldg, u_hubRd, u_hubIft, u_hubTr, u_probe, modProbe_blank, reapReadings_blank, tenantDrop_blank]
      | (with_reducible refine (atProbe_blank _ _ _ _ _ _ (by first | assumption | exact u_all _) (by first | assumption | exact u_all _) (by first | assumption | exact u_all _) ?_).trans ?_)
      | split
      | (intro))

theorem treqWrite_blank (s : State) (tenant : Nat) (h_hubs : F.hubs) (h_flt : F.flt) (h_fl : F.fl) (h_tally : F.tally)
    (h_link : F.link) (h_colo : F.colo) (h_bru : F.bru) (h_flue : F.flue) (h_pulses : F.pulses) (h_freeCtr : F.freeCtr)
    (u_bru : F.has .bru) (u_flt : F.has .flt) (u_ccd : F.has .ccd) (u_tly : F.has .tly) (u_folio : F.has .folio)
    (u_cat : F.has .cat) (u_clp : F.has .clp) (u_tenant : F.has .tenant) : (State.treqWrite s tenant).blank F = s.blank F := by
  unfold State.treqWrite
  repeat' (first
      | with_reducible rfl
      | simp only [blank_mk, apply_ite (State.blank F), ite_self, or_true, true_or, h_hubs, h_flt, h_fl, h_tally, h_link,
          h_colo, h_bru, h_flue, h_pulses, h_freeCtr, u_bru, u_flt, u_ccd, u_tly, u_folio, u_cat, u_clp, u_tenant,
          proposeReset_blank, set_blank, raise_blank, setAll_blank, List.all_cons, List.all_nil, Bool.and_self,
          unit_FOLIO_TREQST_BUSY, unit_FOLIO_TREQST_DROPPED, unit_FOLIO_TREQST_RESULT, unit_FOLIO_TREQ_TENANT]
      | split
      | (intro))

theorem execFolioTreq_blank (tenant : Nat) (ten : Nat) (tag : Nat) (s : State) (h_hubs : F.hubs) (h_flt : F.flt) (h_fl : F.fl)
    (h_tally : F.tally) (h_link : F.link) (h_colo : F.colo) (h_bru : F.bru) (h_flue : F.flue) (h_pulses : F.pulses)
    (h_freeCtr : F.freeCtr) (u_ghp : F.has .ghp) (u_bru : F.has .bru) (u_flt : F.has .flt) (u_ccd : F.has .ccd)
    (u_tly : F.has .tly) (u_folio : F.has .folio) (u_cat : F.has .cat) (u_clp : F.has .clp) (u_tenant : F.has .tenant) : Keeps F
    s (execFolioTreq tenant ten tag s) := by
  unfold execFolioTreq
  repeat' (first
      | with_reducible rfl
      | simp only [implies_true, keeps_next, h_hubs, h_flt, h_fl, h_tally, h_link, h_colo, h_bru, h_flue, h_pulses, h_freeCtr,
          u_bru, u_flt, u_ccd, u_tly, u_folio, u_cat, u_clp, u_tenant, treqWrite_blank]
      | (with_reducible refine (hostWrite_blank _ _ _ _ _ _ _ (by first | assumption | exact u_all _) (by first | assumption | exact u_all _) ?_).trans ?_)
      | split
      | (intro))

theorem fenceOrder_blank (s : State) (r : Nat) (t : Nat) (fence : Bool) (h_probes : F.probes) (h_hubs : F.hubs)
    (h_pulses : F.pulses) (u_hubIft : F.has .hubIft) (u_probe : F.has .probe) : (State.fenceOrder s r t fence).blank F = s.blank
    F := by
  unfold State.fenceOrder
  repeat' (first
      | with_reducible rfl
      | simp only [apply_ite (State.blank F), ite_self, h_probes, h_hubs, h_pulses, u_hubIft, u_probe, modProbe_blank,
          setFence_blank, retryPulse_blank, kickRelease_blank]
      | split
      | (intro))

theorem execFltFence_blank (region : Nat) (tile : Option Nat) (acc : Nat) (fence : Bool) (s : State) (h_probes : F.probes)
    (h_hubs : F.hubs) (h_pwr : F.pwr) (h_flue : F.flue) (h_pulses : F.pulses) (u_hubIft : F.has .hubIft)
    (u_hubCat : F.has .hubCat) (u_probe : F.has .probe) : Keeps F s (execFltFence region tile acc fence s) := by
  unfold execFltFence
  repeat' (first
      | with_reducible rfl
      | simp only [implies_true, blank_mk, apply_ite (State.blank F), ite_self, or_true, true_or, keeps_next, h_probes, h_hubs,
          h_pwr, h_flue, h_pulses, u_hubIft, u_probe, sendAll_blank, recv_blank, fenceOrder_blank]
      | (with_reducible refine (atProbe_blank _ _ _ _ _ _ (by first | assumption | exact u_all _) (by first | assumption | exact u_all _) (by first | assumption | exact u_all _) ?_).trans ?_)
      | split
      | (intro))

theorem modWd_blank (s : State) (r : Nat) (f : HubWd → HubWd) (h_hubs : F.hubs) : (State.modWd s r f).blank F = s.blank F := by
  unfold State.modWd
  repeat' (first
      | with_reducible rfl
      | simp only [h_hubs, modHub_blank]
      | split
      | (intro))

theorem execWatchdogTick_blank (region : Nat) (tile : Nat) (s : State) (h_probes : F.probes) (h_flue : F.flue) : Keeps F s
    (execWatchdogTick region tile s) := by
  unfold execWatchdogTick
  repeat' (first
      | with_reducible rfl
      | simp only [keeps_next, h_probes, h_flue, setProbe_blank, send_blank]
      | split
      | (intro))

theorem parkRun_blank (s : State) (h_flt : F.flt) (h_rcv : F.rcv) (h_ldg : F.ldg) (h_vault : F.vault) (h_colo : F.colo)
    (h_sys : F.sys) (h_bru : F.bru) (h_pwr : F.pwr) (h_flue : F.flue) (h_pulses : F.pulses) (h_freeCtr : F.freeCtr)
    (u_bru : F.has .bru) (u_flt : F.has .flt) (u_rcv : F.has .rcv) (u_ldg : F.has .ldg) (u_tenant : F.has .tenant) :
    (State.parkRun s).blank F = s.blank F := by
  unfold State.parkRun
  repeat' (first
      | with_reducible rfl
      | simp only [blank_mk, apply_ite (State.blank F), ite_self, or_true, true_or, h_flt, h_rcv, h_ldg, h_vault, h_colo, h_sys,
          h_bru, h_pwr, h_flue, h_pulses, h_freeCtr, u_bru, u_flt, u_rcv, u_ldg, u_tenant, raise_blank, closeCase_blank,
          kickQueue_blank, unit_RCV_EVENT_INCONCL]
      | split
      | (intro))

theorem finishCheck_blank (s : State) (r : Nat) (o : RungOrder) (h_hubs : F.hubs) (h_flue : F.flue) (u_hubFlt : F.has .hubFlt)
    (u_hubWd : F.has .hubWd) : (State.finishCheck s r o).blank F = s.blank F := by
  unfold State.finishCheck
  repeat' (first
      | with_reducible rfl
      | simp only [apply_ite (State.blank F), ite_self, h_hubs, h_flue, u_hubFlt, u_hubWd, modWd_blank, hubFault_blank,
          raise_blank, send_blank, unit_RH_WD_EVENT_CLRFAIL]
      | split
      | (intro))

theorem execWdStat_blank (region : Nat) (tile : Nat) (answer : Bool) (owing : Nat) (prog : Nat) (held : Nat) (gated : Bool)
    (s : State) (h_hubs : F.hubs) (h_flt : F.flt) (h_rcv : F.rcv) (h_ldg : F.ldg) (h_vault : F.vault) (h_colo : F.colo)
    (h_sys : F.sys) (h_bru : F.bru) (h_pwr : F.pwr) (h_flue : F.flue) (h_pulses : F.pulses) (h_freeCtr : F.freeCtr)
    (u_bru : F.has .bru) (u_flt : F.has .flt) (u_rcv : F.has .rcv) (u_ldg : F.has .ldg) (u_tenant : F.has .tenant)
    (u_hubFlt : F.has .hubFlt) (u_hubWd : F.has .hubWd) : Keeps F s (execWdStat region tile answer owing prog held gated s) :=
    by
  unfold execWdStat
  repeat' (first
      | with_reducible rfl
      | simp only [keeps_next, h_hubs, h_flt, h_rcv, h_ldg, h_vault, h_colo, h_sys, h_bru, h_pwr, h_flue, h_pulses, h_freeCtr,
          u_bru, u_flt, u_rcv, u_ldg, u_tenant, u_hubFlt, u_hubWd, modWd_blank, parkRun_blank, finishCheck_blank, raise_blank,
          recv_blank, unit_RH_WD_EVENT_PARKRUN]
      | split
      | (intro))

theorem trip_blank (s : State) (r : Nat) (t : Nat) (wt : Nat) (h_hubs : F.hubs) (h_flue : F.flue) (u_hubFlt : F.has .hubFlt)
    (u_hubWd : F.has .hubWd) : (State.trip s r t wt).blank F = s.blank F := by
  unfold State.trip
  repeat' (first
      | with_reducible rfl
      | simp only [apply_ite (State.blank F), ite_self, h_hubs, h_flue, u_hubFlt, u_hubWd, modWd_blank, hubFault_blank,
          raise_blank, send_blank, unit_RH_WD_EVENT_OVF, unit_RH_WD_EVENT_TRIP]
      | (with_reducible refine (foldl_blank _ _ _ ?_).trans ?_)
      | split
      | (intro))

theorem execWatchdogEvaluate_blank (region : Nat) (s : State) (h_hubs : F.hubs) (h_flue : F.flue) (u_hubFlt : F.has .hubFlt)
    (u_hubWd : F.has .hubWd) : Keeps F s (execWatchdogEvaluate region s) := by
  unfold execWatchdogEvaluate
  repeat' (first
      | with_reducible rfl
      | simp only [implies_true, keeps_next, h_hubs, h_flue, u_hubFlt, u_hubWd, modWd_blank, trip_blank, set_blank,
          unit_RH_WD_STATUS_OWING]
      | (with_reducible refine (foldl_blank _ _ _ ?_).trans ?_)
      | split
      | (intro))

theorem execWdSet_blank (region : Nat) (suspects : List Nat) (more : Bool) (s : State) (h_rcv : F.rcv) (h_flue : F.flue) : Keeps
    F s (execWdSet region suspects more s) := by
  unfold execWdSet
  repeat' (first
      | with_reducible rfl
      | simp only [blank_mk, or_true, true_or, keeps_next, h_rcv, h_flue, recv_blank, releaseSet_blank]
      | split
      | (intro))

theorem caseL2_blank (s : State) (h_flt : F.flt) (h_rcv : F.rcv) (h_ldg : F.ldg) (h_tally : F.tally) (h_vault : F.vault)
    (h_colo : F.colo) (h_pwr : F.pwr) (h_flue : F.flue) (h_pulses : F.pulses) (u_flt : F.has .flt) (u_rcv : F.has .rcv)
    (u_vlt : F.has .vlt) (u_ldg : F.has .ldg) (u_tenant : F.has .tenant) : (State.caseL2 s).blank F = s.blank F := by
  unfold State.caseL2
  repeat' (first
      | with_reducible rfl
      | simp only [blank_mk, or_true, true_or, h_flt, h_rcv, h_ldg, h_tally, h_vault, h_colo, h_pwr, h_flue, h_pulses, u_flt,
          u_rcv, u_vlt, u_ldg, u_tenant, sealState_blank, startL2_blank, escalated_blank]
      | split
      | (intro))

theorem climbTo_blank (s : State) (rung : Nat) (h_flt : F.flt) (h_rcv : F.rcv) (h_ldg : F.ldg) (h_tally : F.tally)
    (h_vault : F.vault) (h_colo : F.colo) (h_sys : F.sys) (h_pwr : F.pwr) (h_flue : F.flue) (h_pulses : F.pulses)
    (h_freeCtr : F.freeCtr) (u_flt : F.has .flt) (u_rcv : F.has .rcv) (u_vlt : F.has .vlt) (u_ldg : F.has .ldg)
    (u_tenant : F.has .tenant) : (State.climbTo s rung).blank F = s.blank F := by
  unfold State.climbTo
  repeat' (first
      | with_reducible rfl
      | simp only [apply_ite (State.blank F), ite_self, h_flt, h_rcv, h_ldg, h_tally, h_vault, h_colo, h_sys, h_pwr, h_flue,
          h_pulses, h_freeCtr, u_flt, u_rcv, u_vlt, u_ldg, u_tenant, caseL2_blank, takeRung_blank]
      | split
      | (intro))

theorem execCaseCollectTimeout_blank (s : State) (h_flt : F.flt) (h_rcv : F.rcv) (h_ldg : F.ldg) (h_tally : F.tally)
    (h_vault : F.vault) (h_colo : F.colo) (h_sys : F.sys) (h_pwr : F.pwr) (h_flue : F.flue) (h_pulses : F.pulses)
    (h_freeCtr : F.freeCtr) (u_flt : F.has .flt) (u_rcv : F.has .rcv) (u_vlt : F.has .vlt) (u_ldg : F.has .ldg)
    (u_tenant : F.has .tenant) : Keeps F s (execCaseCollectTimeout s) := by
  unfold execCaseCollectTimeout
  repeat' (first
      | with_reducible rfl
      | simp only [blank_mk, or_true, true_or, keeps_next, h_flt, h_rcv, h_ldg, h_tally, h_vault, h_colo, h_sys, h_pwr, h_flue,
          h_pulses, h_freeCtr, u_flt, u_rcv, u_vlt, u_ldg, u_tenant, unitNotice_blank, climbTo_blank]
      | split
      | (intro))

theorem execRcvOrder_blank (region : Nat) (rung : Nat) (case : Nat) (instant : Nat) (tenants : List Nat) (s : State)
    (h_hubs : F.hubs) (h_flue : F.flue) : Keeps F s (execRcvOrder region rung case instant tenants s) := by
  unfold execRcvOrder
  repeat' (first
      | with_reducible rfl
      | simp only [keeps_next, h_hubs, h_flue, modWd_blank, sendAll_blank, recv_blank]
      | split
      | (intro))

theorem execWdDrop_blank (region : Nat) (tile : Nat) (acc : Nat) (tenant : Nat) (every : Bool) (instant : Nat) (s : State)
    (h_probes : F.probes) (h_hubs : F.hubs) (h_ldg : F.ldg) (h_flue : F.flue) (h_pulses : F.pulses) (u_ldg : F.has .ldg)
    (u_hubRd : F.has .hubRd) (u_hubIft : F.has .hubIft) (u_hubCat : F.has .hubCat) (u_hubTr : F.has .hubTr)
    (u_probe : F.has .probe) : Keeps F s (execWdDrop region tile acc tenant every instant s) := by
  unfold execWdDrop
  repeat' (first
      | with_reducible rfl
      | simp only [implies_true, apply_ite (State.blank F), ite_self, keeps_next, h_probes, h_hubs, h_ldg, h_flue, h_pulses,
          u_ldg, u_hubRd, u_hubIft, u_hubTr, u_probe, modProbe_blank, dropSlots_blank, reapReadings_blank]
      | (with_reducible refine (atProbe_blank _ _ _ _ _ _ (by first | assumption | exact u_all _) (by first | assumption | exact u_all _) (by first | assumption | exact u_all _) ?_).trans ?_)
      | split
      | (intro))

theorem restartSegments_blank (s : State) (r : Nat) (h_probes : F.probes) (h_flue : F.flue) (h_pulses : F.pulses)
    (h_freeCtr : F.freeCtr) : (State.restartSegments s r).blank F = s.blank F := by
  unfold State.restartSegments
  repeat' (first
      | with_reducible rfl
      | simp only [implies_true, h_probes, h_flue, h_pulses, h_freeCtr, resumeIft_blank, suspendIft_blank]
      | (with_reducible refine (foldl_blank _ _ _ ?_).trans ?_)
      | split
      | (intro))

theorem resetHub_blank (s : State) (r : Nat) (o : RungOrder) (h_probes : F.probes) (h_hubs : F.hubs) (h_ldg : F.ldg)
    (h_flue : F.flue) (h_pulses : F.pulses) (h_freeCtr : F.freeCtr) (u_ldg : F.has .ldg) (u_hubRd : F.has .hubRd)
    (u_hubIft : F.has .hubIft) (u_hubTr : F.has .hubTr) (u_probe : F.has .probe) : (State.resetHub s r o).blank F = s.blank F :=
    by
  unfold State.resetHub
  repeat' (first
      | with_reducible rfl
      | simp only [apply_ite (State.blank F), ite_self, h_probes, h_hubs, h_ldg, h_flue, h_pulses, h_freeCtr, u_ldg, u_hubRd,
          u_hubIft, u_hubTr, u_probe, modWd_blank, dispatchAll_blank, restartSegments_blank, abandonIf_blank, dropsAt_blank]
      | split
      | (intro))

theorem resetKiln_blank (s : State) (h_rcv : F.rcv) (h_sys : F.sys) (h_stk : F.stk) (h_freeCtr : F.freeCtr) (u_stk : F.has .stk)
    (u_channel : F.has .channel) : (State.resetKiln s).blank F = s.blank F := by
  unfold State.resetKiln
  repeat' (first
      | with_reducible rfl
      | simp only [blank_mk, apply_ite (State.blank F), ite_self, or_true, true_or, h_rcv, h_sys, h_stk, h_freeCtr, u_stk,
          u_channel, stackerDropTagged_blank]
      | split
      | (intro))

theorem execResetInstant_blank (region : Option Nat) (s : State) (h_probes : F.probes) (h_hubs : F.hubs) (h_rcv : F.rcv)
    (h_ldg : F.ldg) (h_sys : F.sys) (h_stk : F.stk) (h_flue : F.flue) (h_pulses : F.pulses) (h_freeCtr : F.freeCtr)
    (u_stk : F.has .stk) (u_channel : F.has .channel) (u_ldg : F.has .ldg) (u_hubRd : F.has .hubRd) (u_hubIft : F.has .hubIft)
    (u_hubTr : F.has .hubTr) (u_probe : F.has .probe) : Keeps F s (execResetInstant region s) := by
  unfold execResetInstant
  repeat' (first
      | with_reducible rfl
      | simp only [apply_ite (State.blank F), ite_self, keeps_next, h_probes, h_hubs, h_rcv, h_ldg, h_sys, h_stk, h_flue,
          h_pulses, h_freeCtr, u_stk, u_channel, u_ldg, u_hubRd, u_hubIft, u_hubTr, u_probe, resetHub_blank, resetKiln_blank]
      | split
      | (intro))

theorem startCheck_blank (s : State) (r : Nat) (o : RungOrder) (h_hubs : F.hubs) (h_flue : F.flue) (u_hubFlt : F.has .hubFlt)
    (u_hubWd : F.has .hubWd) : (State.startCheck s r o).blank F = s.blank F := by
  unfold State.startCheck
  repeat' (first
      | with_reducible rfl
      | simp only [apply_ite (State.blank F), ite_self, h_hubs, h_flue, u_hubFlt, u_hubWd, modWd_blank, finishCheck_blank,
          sendAll_blank]
      | split
      | (intro))

theorem gapOver_blank (s : State) (r : Nat) (o : RungOrder) (h_hubs : F.hubs) (h_flue : F.flue) (u_hubFlt : F.has .hubFlt)
    (u_hubWd : F.has .hubWd) : (State.gapOver s r o).blank F = s.blank F := by
  unfold State.gapOver
  repeat' (first
      | with_reducible rfl
      | simp only [apply_ite (State.blank F), ite_self, h_hubs, h_flue, u_hubFlt, u_hubWd, modWd_blank, startCheck_blank]
      | split
      | (intro))

theorem holdOver_blank (s : State) (r : Nat) (o : RungOrder) (h_hubs : F.hubs) : (State.holdOver s r o).blank F = s.blank F :=
    by
  unfold State.holdOver
  repeat' (first
      | with_reducible rfl
      | simp only [h_hubs, modWd_blank]
      | split
      | (intro))

theorem execResetHoldEnd_blank (region : Option Nat) (s : State) (h_hubs : F.hubs) (h_rcv : F.rcv) (h_flue : F.flue)
    (u_hubFlt : F.has .hubFlt) (u_hubWd : F.has .hubWd) : Keeps F s (execResetHoldEnd region s) := by
  unfold execResetHoldEnd
  repeat' (first
      | with_reducible rfl
      | simp only [blank_mk, apply_ite (State.blank F), ite_self, or_true, true_or, keeps_next, h_hubs, h_rcv, h_flue, u_hubFlt,
          u_hubWd, gapOver_blank, holdOver_blank]
      | split
      | (intro))

theorem execWdCheck_blank (region : Nat) (tile : Nat) (acc : Nat) (s : State) (h_probes : F.probes) (h_flue : F.flue)
    (u_hubCat : F.has .hubCat) : Keeps F s (execWdCheck region tile acc s) := by
  unfold execWdCheck
  repeat' (first
      | with_reducible rfl
      | simp only [implies_true, keeps_next, h_flue, send_blank]
      | (with_reducible refine (atProbe_blank _ _ _ _ _ _ (by first | assumption | exact u_all _) (by first | assumption | exact u_all _) (by first | assumption | exact u_all _) ?_).trans ?_)
      | split
      | (intro))

theorem scopeClear_blank (s : State) (h_flt : F.flt) (h_rcv : F.rcv) (h_ldg : F.ldg) (h_vault : F.vault) (h_colo : F.colo)
    (h_sys : F.sys) (h_bru : F.bru) (h_pwr : F.pwr) (h_flue : F.flue) (h_pulses : F.pulses) (h_freeCtr : F.freeCtr)
    (u_bru : F.has .bru) (u_flt : F.has .flt) (u_rcv : F.has .rcv) (u_ldg : F.has .ldg) (u_tenant : F.has .tenant) :
    (State.scopeClear s).blank F = s.blank F := by
  unfold State.scopeClear
  repeat' (first
      | with_reducible rfl
      | simp only [apply_ite (State.blank F), ite_self, h_flt, h_rcv, h_ldg, h_vault, h_colo, h_sys, h_bru, h_pwr, h_flue,
          h_pulses, h_freeCtr, u_bru, u_flt, u_rcv, u_ldg, u_tenant, chipDone_blank, grantNext_blank, closeCase_blank,
          kickQueue_blank]
      | split
      | (intro))

theorem execRcvDone_blank (region : Nat) (clear : Bool) (held : Nat) (case : Nat) (s : State) (h_flt : F.flt) (h_rcv : F.rcv)
    (h_ldg : F.ldg) (h_tally : F.tally) (h_vault : F.vault) (h_colo : F.colo) (h_sys : F.sys) (h_bru : F.bru) (h_pwr : F.pwr)
    (h_flue : F.flue) (h_pulses : F.pulses) (h_freeCtr : F.freeCtr) (u_bru : F.has .bru) (u_flt : F.has .flt)
    (u_rcv : F.has .rcv) (u_vlt : F.has .vlt) (u_ldg : F.has .ldg) (u_tenant : F.has .tenant) : Keeps F s (execRcvDone region
    clear held case s) := by
  unfold execRcvDone
  repeat' (first
      | with_reducible rfl
      | simp only [blank_mk, apply_ite (State.blank F), ite_self, or_true, true_or, keeps_next, h_flt, h_rcv, h_ldg, h_tally,
          h_vault, h_colo, h_sys, h_bru, h_pwr, h_flue, h_pulses, h_freeCtr, u_bru, u_flt, u_rcv, u_vlt, u_ldg, u_tenant,
          l2Done_blank, raise_blank, scopeClear_blank, recv_blank, climbTo_blank, unit_RCV_EVENT_CLRFAIL]
      | split
      | (intro))

theorem execRcvDoneTimeout_blank (region : Nat) (s : State) (h_flt : F.flt) (h_rcv : F.rcv) (h_ldg : F.ldg) (h_tally : F.tally)
    (h_vault : F.vault) (h_colo : F.colo) (h_sys : F.sys) (h_pwr : F.pwr) (h_flue : F.flue) (h_pulses : F.pulses)
    (h_freeCtr : F.freeCtr) (u_flt : F.has .flt) (u_rcv : F.has .rcv) (u_vlt : F.has .vlt) (u_ldg : F.has .ldg)
    (u_tenant : F.has .tenant) : Keeps F s (execRcvDoneTimeout region s) := by
  unfold execRcvDoneTimeout
  repeat' (first
      | with_reducible rfl
      | simp only [keeps_next, h_flt, h_rcv, h_ldg, h_tally, h_vault, h_colo, h_sys, h_pwr, h_flue, h_pulses, h_freeCtr, u_flt,
          u_rcv, u_vlt, u_ldg, u_tenant, climbTo_blank]
      | split
      | (intro))

theorem execRcvGrant_blank (region : Nat) (tenant : Nat) (code : Nat) (s : State) (h_hubs : F.hubs) (h_flue : F.flue) : Keeps F
    s (execRcvGrant region tenant code s) := by
  unfold execRcvGrant
  repeat' (first
      | with_reducible rfl
      | simp only [keeps_next, h_hubs, h_flue, modWd_blank, recv_blank]
      | (with_reducible refine (foldl_blank _ _ _ ?_).trans ?_)
      | split
      | (intro))

theorem execReplayTimeout_blank (s : State) (h_flt : F.flt) (h_rcv : F.rcv) (h_flue : F.flue) (u_flt : F.has .flt)
    (u_rcv : F.has .rcv) : Keeps F s (execReplayTimeout s) := by
  unfold execReplayTimeout
  repeat' (first
      | with_reducible rfl
      | simp only [keeps_next, h_flt, h_rcv, h_flue, u_flt, u_rcv, grantedPasses_blank]
      | split
      | (intro))

theorem gapTick_blank (s : State) (r : Nat) (h_hubs : F.hubs) (h_flue : F.flue) (u_hubFlt : F.has .hubFlt)
    (u_hubWd : F.has .hubWd) : (State.gapTick s r).blank F = s.blank F := by
  unfold State.gapTick
  repeat' (first
      | with_reducible rfl
      | simp only [apply_ite (State.blank F), ite_self, h_hubs, h_flue, u_hubFlt, u_hubWd, gapOver_blank, modWd_blank]
      | split
      | (intro))

end Sys2Proof.Machine
end

