-- ==== Sys2Proof/Laws/FrameConcordance.lean ====
section
/-! SUPPORT. For each operation of the Concordance and the Colophon, and each command: which parts of the state it may change (every other part is
kept). -/

namespace Sys2Proof.Machine

open Sys2Proof

variable {F : Fields}

theorem linkDrop_blank (s : State) (c : Nat) (u_clp : F.has .clp) : (State.linkDrop s c).blank F = s.blank F := by
  unfold State.linkDrop
  repeat' (first
      | with_reducible rfl
      | simp only [u_clp, bump_blank, unit_CCD_DROPCNT_COUNT]
      | split
      | (intro))

theorem takeAck_blank (s : State) (c : Nat) (h : ClpHdr) (h_hubs : F.hubs) (h_flt : F.flt) (h_fl : F.fl) (h_tally : F.tally)
    (h_link : F.link) (h_colo : F.colo) (h_bru : F.bru) (h_flue : F.flue) (h_pulses : F.pulses) (h_freeCtr : F.freeCtr)
    (u_bru : F.has .bru) (u_flt : F.has .flt) (u_ccd : F.has .ccd) (u_folio : F.has .folio) (u_cat : F.has .cat)
    (u_clp : F.has .clp) (u_tenant : F.has .tenant) : (State.takeAck s c h).blank F = s.blank F := by
  unfold State.takeAck
  repeat' (first
      | with_reducible rfl
      | simp only [h_hubs, h_flt, h_fl, h_tally, h_link, h_colo, h_bru, h_flue, h_pulses, h_freeCtr, u_bru, u_flt, u_ccd,
          u_folio, u_cat, u_clp, u_tenant, setPort_blank, pump_blank, peerDone_blank]
      | (with_reducible refine (foldl_blank _ _ _ ?_).trans ?_)
      | split
      | (intro))

theorem window_blank (s : State) (c : Nat) (h : ClpHdr) (body : LinkBody) (answer : Bool) (act : State → State)
    (h_hubs : F.hubs) (h_flt : F.flt) (h_fl : F.fl) (h_tally : F.tally) (h_vault : F.vault) (h_link : F.link) (h_colo : F.colo)
    (h_sys : F.sys) (h_bru : F.bru) (h_flue : F.flue) (h_pulses : F.pulses) (h_freeCtr : F.freeCtr) (u_bru : F.has .bru)
    (u_flt : F.has .flt) (u_ccd : F.has .ccd) (u_folio : F.has .folio) (u_cat : F.has .cat) (u_clp : F.has .clp)
    (u_tenant : F.has .tenant) (hact : ∀ x0, (act x0).blank F = x0.blank F) : (State.window s c h body answer act).blank F =
    s.blank F := by
  unfold State.window
  repeat' (first
      | with_reducible rfl
      | simp only [apply_ite (State.blank F), ite_self, h_hubs, h_flt, h_fl, h_tally, h_vault, h_link, h_colo, h_sys, h_bru,
          h_flue, h_pulses, h_freeCtr, u_bru, u_flt, u_ccd, u_folio, u_cat, u_clp, u_tenant, hact, bump_blank, setPort_blank,
          linkDrop_blank, raise_blank, dispute_blank, unit_CCD_EVENT_OOO, unit_CCD_RXCNT_COUNT]
      | split
      | (intro))

theorem unsequenced_blank (s : State) (c : Nat) (act : State → State) (h_link : F.link)
    (hact : ∀ x0, (act x0).blank F = x0.blank F) : (State.unsequenced s c act).blank F = s.blank F := by
  unfold State.unsequenced
  repeat' (first
      | with_reducible rfl
      | simp only [apply_ite (State.blank F), ite_self, h_link, hact, modPort_blank]
      | split
      | (intro))

theorem linkTake_blank (s : State) (c : Nat) (h : ClpHdr) (body : LinkBody) (answer : Bool) (act : State → State)
    (h_hubs : F.hubs) (h_flt : F.flt) (h_fl : F.fl) (h_tally : F.tally) (h_vault : F.vault) (h_link : F.link) (h_colo : F.colo)
    (h_sys : F.sys) (h_bru : F.bru) (h_flue : F.flue) (h_pulses : F.pulses) (h_freeCtr : F.freeCtr) (u_bru : F.has .bru)
    (u_flt : F.has .flt) (u_ccd : F.has .ccd) (u_folio : F.has .folio) (u_cat : F.has .cat) (u_clp : F.has .clp)
    (u_tenant : F.has .tenant) (hact : ∀ x0, (act x0).blank F = x0.blank F) : (State.linkTake s c h body answer act).blank F =
    s.blank F := by
  unfold State.linkTake
  repeat' (first
      | with_reducible rfl
      | simp only [implies_true, apply_ite (State.blank F), ite_self, h_hubs, h_flt, h_fl, h_tally, h_link, h_colo, h_bru,
          h_flue, h_pulses, h_freeCtr, u_bru, u_flt, u_ccd, u_folio, u_cat, u_clp, u_tenant, hact, takeAck_blank,
          linkDrop_blank, raise_blank, unit_CCD_EVENT_STALESESS]
      | (with_reducible refine (window_blank _ _ _ _ _ _ (by first | assumption | exact u_all _) (by first | assumption | exact u_all _) (by first | assumption | exact u_all _) (by first | assumption | exact u_all _) (by first | assumption | exact u_all _) (by first | assumption | exact u_all _) (by first | assumption | exact u_all _) (by first | assumption | exact u_all _) (by first | assumption | exact u_all _) (by first | assumption | exact u_all _) (by first | assumption | exact u_all _) (by first | assumption | exact u_all _) (by first | assumption | exact u_all _) (by first | assumption | exact u_all _) (by first | assumption | exact u_all _) (by first | assumption | exact u_all _) (by first | assumption | exact u_all _) (by first | assumption | exact u_all _) (by first | assumption | exact u_all _) ?_).trans ?_)
      | split
      | (intro))

theorem linkIn_blank (s : State) (c : Nat) (h : ClpHdr) (body : LinkBody) (answer : Bool) (act : State → State)
    (h_hubs : F.hubs) (h_flt : F.flt) (h_fl : F.fl) (h_tally : F.tally) (h_vault : F.vault) (h_link : F.link) (h_colo : F.colo)
    (h_sys : F.sys) (h_bru : F.bru) (h_flue : F.flue) (h_pulses : F.pulses) (h_freeCtr : F.freeCtr) (u_bru : F.has .bru)
    (u_flt : F.has .flt) (u_ccd : F.has .ccd) (u_folio : F.has .folio) (u_cat : F.has .cat) (u_clp : F.has .clp)
    (u_tenant : F.has .tenant) (hact : ∀ x0, (act x0).blank F = x0.blank F) : (State.linkIn s c h body answer act).blank F =
    s.blank F := by
  unfold State.linkIn
  repeat' (first
      | with_reducible rfl
      | simp only [implies_true, apply_ite (State.blank F), hact]
      | (with_reducible refine (unsequenced_blank _ _ _ (by first | assumption | exact u_all _) ?_).trans ?_)
      | (with_reducible refine (linkTake_blank _ _ _ _ _ _ (by first | assumption | exact u_all _) (by first | assumption | exact u_all _) (by first | assumption | exact u_all _) (by first | assumption | exact u_all _) (by first | assumption | exact u_all _) (by first | assumption | exact u_all _) (by first | assumption | exact u_all _) (by first | assumption | exact u_all _) (by first | assumption | exact u_all _) (by first | assumption | exact u_all _) (by first | assumption | exact u_all _) (by first | assumption | exact u_all _) (by first | assumption | exact u_all _) (by first | assumption | exact u_all _) (by first | assumption | exact u_all _) (by first | assumption | exact u_all _) (by first | assumption | exact u_all _) (by first | assumption | exact u_all _) (by first | assumption | exact u_all _) ?_).trans ?_)
      | split
      | (intro))

theorem execHelloTick_blank (clp : Nat) (s : State) (h_link : F.link) (h_pulses : F.pulses) (u_clp : F.has .clp) : Keeps F s
    (execHelloTick clp s) := by
  unfold execHelloTick
  repeat' (first
      | with_reducible rfl
      | simp only [apply_ite (State.blank F), ite_self, keeps_next, h_link, h_pulses, u_clp, presentFree_blank]
      | split
      | (intro))

theorem helloIn_blank (s : State) (clp : Nat) (h : ClpHdr) (rel : Nat) (cr : Nat) (dol : Bool) (h_hubs : F.hubs) (h_flt : F.flt)
    (h_fl : F.fl) (h_ldg : F.ldg) (h_tally : F.tally) (h_vault : F.vault) (h_link : F.link) (h_colo : F.colo) (h_sys : F.sys)
    (h_bru : F.bru) (h_flue : F.flue) (h_pulses : F.pulses) (h_freeCtr : F.freeCtr) (u_bru : F.has .bru) (u_flt : F.has .flt)
    (u_ccd : F.has .ccd) (u_tly : F.has .tly) (u_ldg : F.has .ldg) (u_folio : F.has .folio) (u_cat : F.has .cat)
    (u_clp : F.has .clp) (u_tenant : F.has .tenant) : (State.helloIn s clp h rel cr dol).blank F = s.blank F := by
  unfold State.helloIn
  repeat' (first
      | with_reducible rfl
      | simp only [apply_ite (State.blank F), ite_self, h_hubs, h_flt, h_fl, h_ldg, h_tally, h_vault, h_link, h_colo, h_sys,
          h_bru, h_flue, h_pulses, h_freeCtr, u_bru, u_flt, u_ccd, u_tly, u_ldg, u_folio, u_cat, u_clp, u_tenant, modPort_blank,
          newSession_blank, setPort_blank, recordOf_blank, presentFree_blank, losePeer_blank, linkDrop_blank, raise_blank,
          enterUp_blank, dispute_blank, unit_CCD_EVENT_REFUSED]
      | split
      | (intro))

theorem execHello_blank (clp : Nat) (h : ClpHdr) (rel : Nat) (cr : Nat) (dol : Bool) (s : State) (h_hubs : F.hubs)
    (h_flt : F.flt) (h_fl : F.fl) (h_ldg : F.ldg) (h_tally : F.tally) (h_vault : F.vault) (h_link : F.link) (h_colo : F.colo)
    (h_sys : F.sys) (h_bru : F.bru) (h_flue : F.flue) (h_pulses : F.pulses) (h_freeCtr : F.freeCtr) (u_bru : F.has .bru)
    (u_flt : F.has .flt) (u_ccd : F.has .ccd) (u_tly : F.has .tly) (u_ldg : F.has .ldg) (u_folio : F.has .folio)
    (u_cat : F.has .cat) (u_clp : F.has .clp) (u_tenant : F.has .tenant) : Keeps F s (execHello clp h rel cr dol s) := by
  unfold execHello
  repeat' (first
      | with_reducible rfl
      | simp only [implies_true, keeps_next, h_hubs, h_flt, h_fl, h_ldg, h_tally, h_vault, h_link, h_colo, h_sys, h_bru, h_flue,
          h_pulses, h_freeCtr, u_bru, u_flt, u_ccd, u_tly, u_ldg, u_folio, u_cat, u_clp, u_tenant, helloIn_blank]
      | (with_reducible refine (unsequenced_blank _ _ _ (by first | assumption | exact u_all _) ?_).trans ?_)
      | split
      | (intro))

theorem execHeartbeat_blank (clp : Nat) (h : ClpHdr) (peerSealed : Bool) (s : State) (h_hubs : F.hubs) (h_flt : F.flt)
    (h_fl : F.fl) (h_tally : F.tally) (h_vault : F.vault) (h_link : F.link) (h_colo : F.colo) (h_sys : F.sys) (h_bru : F.bru)
    (h_flue : F.flue) (h_pulses : F.pulses) (h_freeCtr : F.freeCtr) (u_bru : F.has .bru) (u_flt : F.has .flt)
    (u_ccd : F.has .ccd) (u_tly : F.has .tly) (u_folio : F.has .folio) (u_cat : F.has .cat) (u_clp : F.has .clp)
    (u_tenant : F.has .tenant) : Keeps F s (execHeartbeat clp h peerSealed s) := by
  unfold execHeartbeat
  repeat' (first
      | with_reducible rfl
      | simp only [implies_true, apply_ite (State.blank F), ite_self, keeps_next, h_hubs, h_flt, h_fl, h_tally, h_link, h_colo,
          h_bru, h_flue, h_pulses, h_freeCtr, u_bru, u_flt, u_ccd, u_tly, u_folio, u_cat, u_clp, u_tenant, modPort_blank,
          newSession_blank, losePeer_blank]
      | (with_reducible refine (linkIn_blank _ _ _ _ _ _ (by first | assumption | exact u_all _) (by first | assumption | exact u_all _) (by first | assumption | exact u_all _) (by first | assumption | exact u_all _) (by first | assumption | exact u_all _) (by first | assumption | exact u_all _) (by first | assumption | exact u_all _) (by first | assumption | exact u_all _) (by first | assumption | exact u_all _) (by first | assumption | exact u_all _) (by first | assumption | exact u_all _) (by first | assumption | exact u_all _) (by first | assumption | exact u_all _) (by first | assumption | exact u_all _) (by first | assumption | exact u_all _) (by first | assumption | exact u_all _) (by first | assumption | exact u_all _) (by first | assumption | exact u_all _) (by first | assumption | exact u_all _) ?_).trans ?_)
      | split
      | (intro))

theorem execHeartbeatTick_blank (clp : Nat) (s : State) (h_link : F.link) (h_pulses : F.pulses) (u_clp : F.has .clp) : Keeps F s
    (execHeartbeatTick clp s) := by
  unfold execHeartbeatTick
  repeat' (first
      | with_reducible rfl
      | simp only [apply_ite (State.blank F), ite_self, keeps_next, h_link, h_pulses, u_clp, presentFree_blank]
      | split
      | (intro))

theorem execRetransmitTimeout_blank (clp : Nat) (s : State) (h_hubs : F.hubs) (h_flt : F.flt) (h_fl : F.fl) (h_tally : F.tally)
    (h_vault : F.vault) (h_link : F.link) (h_colo : F.colo) (h_sys : F.sys) (h_bru : F.bru) (h_flue : F.flue)
    (h_pulses : F.pulses) (h_freeCtr : F.freeCtr) (u_bru : F.has .bru) (u_flt : F.has .flt) (u_ccd : F.has .ccd)
    (u_folio : F.has .folio) (u_cat : F.has .cat) (u_clp : F.has .clp) (u_tenant : F.has .tenant) : Keeps F s
    (execRetransmitTimeout clp s) := by
  unfold execRetransmitTimeout
  repeat' (first
      | with_reducible rfl
      | simp only [implies_true, keeps_next, h_hubs, h_flt, h_fl, h_tally, h_vault, h_link, h_colo, h_sys, h_bru, h_flue,
          h_pulses, h_freeCtr, u_bru, u_flt, u_ccd, u_folio, u_cat, u_clp, u_tenant, bump_blank, setPort_blank, present_blank,
          raise_blank, dispute_blank, unit_CCD_EVENT_RETX, unit_CCD_RETXCNT_COUNT]
      | (with_reducible refine (foldl_blank _ _ _ ?_).trans ?_)
      | split
      | (intro))

theorem execDispute_blank (clp : Nat) (h : ClpHdr) (cause : Nat) (job : Nat) (ref : Nat) (ev1 : Nat) (ev2 : Nat) (s : State)
    (h_hubs : F.hubs) (h_flt : F.flt) (h_fl : F.fl) (h_tally : F.tally) (h_vault : F.vault) (h_link : F.link) (h_colo : F.colo)
    (h_sys : F.sys) (h_bru : F.bru) (h_flue : F.flue) (h_pulses : F.pulses) (h_freeCtr : F.freeCtr) (u_bru : F.has .bru)
    (u_flt : F.has .flt) (u_ccd : F.has .ccd) (u_folio : F.has .folio) (u_cat : F.has .cat) (u_clp : F.has .clp)
    (u_tenant : F.has .tenant) : Keeps F s (execDispute clp h cause job ref ev1 ev2 s) := by
  unfold execDispute
  repeat' (first
      | with_reducible rfl
      | simp only [implies_true, keeps_next, h_hubs, h_flt, h_fl, h_tally, h_vault, h_link, h_colo, h_sys, h_bru, h_flue,
          h_pulses, h_freeCtr, u_bru, u_flt, u_ccd, u_folio, u_cat, u_clp, u_tenant, dispute_blank]
      | (with_reducible refine (linkIn_blank _ _ _ _ _ _ (by first | assumption | exact u_all _) (by first | assumption | exact u_all _) (by first | assumption | exact u_all _) (by first | assumption | exact u_all _) (by first | assumption | exact u_all _) (by first | assumption | exact u_all _) (by first | assumption | exact u_all _) (by first | assumption | exact u_all _) (by first | assumption | exact u_all _) (by first | assumption | exact u_all _) (by first | assumption | exact u_all _) (by first | assumption | exact u_all _) (by first | assumption | exact u_all _) (by first | assumption | exact u_all _) (by first | assumption | exact u_all _) (by first | assumption | exact u_all _) (by first | assumption | exact u_all _) (by first | assumption | exact u_all _) (by first | assumption | exact u_all _) ?_).trans ?_)
      | split
      | (intro))

theorem execDisputeResend_blank (clp : Nat) (s : State) (h_link : F.link) (h_pulses : F.pulses) (u_clp : F.has .clp) : Keeps F s
    (execDisputeResend clp s) := by
  unfold execDisputeResend
  repeat' (first
      | with_reducible rfl
      | simp only [keeps_next, h_link, h_pulses, u_clp, setPort_blank, presentFree_blank]
      | split
      | (intro))

theorem execPeerLoss_blank (clp : Nat) (s : State) (h_hubs : F.hubs) (h_flt : F.flt) (h_fl : F.fl) (h_tally : F.tally)
    (h_link : F.link) (h_colo : F.colo) (h_bru : F.bru) (h_flue : F.flue) (h_pulses : F.pulses) (h_freeCtr : F.freeCtr)
    (u_bru : F.has .bru) (u_flt : F.has .flt) (u_ccd : F.has .ccd) (u_tly : F.has .tly) (u_folio : F.has .folio)
    (u_cat : F.has .cat) (u_clp : F.has .clp) (u_tenant : F.has .tenant) : Keeps F s (execPeerLoss clp s) := by
  unfold execPeerLoss
  repeat' (first
      | with_reducible rfl
      | simp only [keeps_next, h_hubs, h_flt, h_fl, h_tally, h_link, h_colo, h_bru, h_flue, h_pulses, h_freeCtr, u_bru, u_flt,
          u_ccd, u_tly, u_folio, u_cat, u_clp, u_tenant, modPort_blank, newSession_blank, losePeer_blank]
      | split
      | (intro))

theorem execLinkUpChange_blank (clp : Nat) (up : LinkLines) (ps : Nat) (s : State) (h_link : F.link)
    (h_pulses : F.pulses) (u_clp : F.has .clp) : Keeps F s (execLinkUpChange clp up ps s) := by
  unfold execLinkUpChange
  repeat' (first
      | with_reducible rfl
      | simp only [keeps_next, h_link, h_pulses, u_clp, modPort_blank, pump_blank, flushWait_blank]
      | split
      | (intro))

theorem execClpMessageDropped_blank (clp : Nat) (seq : Nat) (crcFailed : Bool) (s : State) (h_flt : F.flt) (u_clp : F.has .clp)
    : Keeps F s (execClpMessageDropped clp seq crcFailed s) := by
  unfold execClpMessageDropped
  repeat' (first
      | with_reducible rfl
      | simp only [keeps_next, h_flt, u_clp, bump_blank, clpFault_blank, linkDrop_blank, raise_blank, unit_CCD_CRCCNT_COUNT,
          unit_CCD_EVENT_CRC]
      | split
      | (intro))

theorem portRestart_blank (s : State) (clp : Nat) (h_link : F.link) : (State.portRestart s clp).blank F = s.blank F := by
  unfold State.portRestart
  repeat' (first
      | with_reducible rfl
      | simp only [apply_ite (State.blank F), ite_self, h_link, newSession_blank]
      | split
      | (intro))

theorem execCcdRestart_blank (clp : Nat) (ten : Nat) (tag : Nat) (s : State) (h_link : F.link) (h_pulses : F.pulses)
    (u_ghp : F.has .ghp) : Keeps F s (execCcdRestart clp ten tag s) := by
  unfold execCcdRestart
  repeat' (first
      | with_reducible rfl
      | simp only [implies_true, keeps_next, h_link, portRestart_blank]
      | (with_reducible refine (hostWrite_blank _ _ _ _ _ _ _ (by first | assumption | exact u_all _) (by first | assumption | exact u_all _) ?_).trans ?_)
      | split
      | (intro))

theorem putBinding_blank (s : State) (c : Nat) (old : Binding) (new : Binding) (h_link : F.link) : (State.putBinding s c old
    new).blank F = s.blank F := by
  unfold State.putBinding
  repeat' (first
      | with_reducible rfl
      | simp only [h_link, mapBindings_blank]
      | split
      | (intro))

theorem execSeal_blank (clp : Nat) (h : ClpHdr) (job : Nat) (epoch : Nat) (slice : Nat) (digest : Nat) (s : State)
    (h_hubs : F.hubs) (h_flt : F.flt) (h_fl : F.fl) (h_tally : F.tally) (h_vault : F.vault) (h_link : F.link) (h_colo : F.colo)
    (h_sys : F.sys) (h_bru : F.bru) (h_flue : F.flue) (h_pulses : F.pulses) (h_freeCtr : F.freeCtr) (u_bru : F.has .bru)
    (u_flt : F.has .flt) (u_ccd : F.has .ccd) (u_folio : F.has .folio) (u_cat : F.has .cat) (u_clp : F.has .clp)
    (u_tenant : F.has .tenant) : Keeps F s (execSeal clp h job epoch slice digest s) := by
  unfold execSeal
  repeat' (first
      | with_reducible rfl
      | simp only [apply_ite (State.blank F), ite_self, keeps_next, h_hubs, h_flt, h_fl, h_tally, h_vault, h_link, h_colo,
          h_sys, h_bru, h_flue, h_pulses, h_freeCtr, u_bru, u_flt, u_ccd, u_folio, u_cat, u_clp, u_tenant, linkDrop_blank,
          raise_blank, putBinding_blank, dispute_blank, unit_CCD_EVENT_OLDSEAL]
      | (with_reducible refine (linkIn_blank _ _ _ _ _ _ (by first | assumption | exact u_all _) (by first | assumption | exact u_all _) (by first | assumption | exact u_all _) (by first | assumption | exact u_all _) (by first | assumption | exact u_all _) (by first | assumption | exact u_all _) (by first | assumption | exact u_all _) (by first | assumption | exact u_all _) (by first | assumption | exact u_all _) (by first | assumption | exact u_all _) (by first | assumption | exact u_all _) (by first | assumption | exact u_all _) (by first | assumption | exact u_all _) (by first | assumption | exact u_all _) (by first | assumption | exact u_all _) (by first | assumption | exact u_all _) (by first | assumption | exact u_all _) (by first | assumption | exact u_all _) (by first | assumption | exact u_all _) ?_).trans ?_)
      | split
      | (intro))

theorem execRecall_blank (clp : Nat) (h : ClpHdr) (job : Nat) (first : Nat) (last : Nat) (slice : Nat) (origin : Nat)
    (rid : Nat) (cause : Nat) (s : State) (h_hubs : F.hubs) (h_flt : F.flt) (h_fl : F.fl) (h_tally : F.tally)
    (h_vault : F.vault) (h_link : F.link) (h_colo : F.colo) (h_sys : F.sys) (h_bru : F.bru) (h_flue : F.flue)
    (h_pulses : F.pulses) (h_freeCtr : F.freeCtr) (u_bru : F.has .bru) (u_flt : F.has .flt) (u_ccd : F.has .ccd)
    (u_folio : F.has .folio) (u_cat : F.has .cat) (u_clp : F.has .clp) (u_tenant : F.has .tenant) : Keeps F s (execRecall clp h
    job first last slice origin rid cause s) := by
  unfold execRecall
  repeat' (first
      | with_reducible rfl
      | simp only [implies_true, blank_mk, apply_ite (State.blank F), or_true, true_or, keeps_next, h_hubs, h_flt, h_fl,
          h_tally, h_vault, h_link, h_colo, h_sys, h_bru, h_flue, h_pulses, h_freeCtr, u_bru, u_flt, u_ccd, u_folio, u_cat,
          u_clp, u_tenant, notify_blank, recallDependents_blank, linkDrop_blank, putBinding_blank, dispute_blank]
      | (with_reducible refine (foldl_blank _ _ _ ?_).trans ?_)
      | (with_reducible refine (linkIn_blank _ _ _ _ _ _ (by first | assumption | exact u_all _) (by first | assumption | exact u_all _) (by first | assumption | exact u_all _) (by first | assumption | exact u_all _) (by first | assumption | exact u_all _) (by first | assumption | exact u_all _) (by first | assumption | exact u_all _) (by first | assumption | exact u_all _) (by first | assumption | exact u_all _) (by first | assumption | exact u_all _) (by first | assumption | exact u_all _) (by first | assumption | exact u_all _) (by first | assumption | exact u_all _) (by first | assumption | exact u_all _) (by first | assumption | exact u_all _) (by first | assumption | exact u_all _) (by first | assumption | exact u_all _) (by first | assumption | exact u_all _) (by first | assumption | exact u_all _) ?_).trans ?_)
      | split
      | (intro))

theorem execRole_blank (clp : Nat) (h : ClpHdr) (job : Nat) (slice : Nat) (pslice : Nat) (withdraw : Bool) (s : State)
    (h_hubs : F.hubs) (h_flt : F.flt) (h_fl : F.fl) (h_tally : F.tally) (h_vault : F.vault) (h_link : F.link) (h_colo : F.colo)
    (h_sys : F.sys) (h_bru : F.bru) (h_flue : F.flue) (h_pulses : F.pulses) (h_freeCtr : F.freeCtr) (u_bru : F.has .bru)
    (u_flt : F.has .flt) (u_ccd : F.has .ccd) (u_folio : F.has .folio) (u_cat : F.has .cat) (u_clp : F.has .clp)
    (u_tenant : F.has .tenant) : Keeps F s (execRole clp h job slice pslice withdraw s) := by
  unfold execRole
  repeat' (first
      | with_reducible rfl
      | simp only [implies_true, apply_ite (State.blank F), ite_self, keeps_next, h_link, u_clp, raise_blank, mapBindings_blank,
          unit_CCD_EVENT_MISMATCH]
      | (with_reducible refine (linkIn_blank _ _ _ _ _ _ (by first | assumption | exact u_all _) (by first | assumption | exact u_all _) (by first | assumption | exact u_all _) (by first | assumption | exact u_all _) (by first | assumption | exact u_all _) (by first | assumption | exact u_all _) (by first | assumption | exact u_all _) (by first | assumption | exact u_all _) (by first | assumption | exact u_all _) (by first | assumption | exact u_all _) (by first | assumption | exact u_all _) (by first | assumption | exact u_all _) (by first | assumption | exact u_all _) (by first | assumption | exact u_all _) (by first | assumption | exact u_all _) (by first | assumption | exact u_all _) (by first | assumption | exact u_all _) (by first | assumption | exact u_all _) (by first | assumption | exact u_all _) ?_).trans ?_)
      | split
      | (intro))

theorem execEpochTimeout_blank (clp : Nat) (job : Nat) (slice : Nat) (s : State) (h_ldg : F.ldg) (h_link : F.link)
    (u_ldg : F.has .ldg) (u_clp : F.has .clp) : Keeps F s (execEpochTimeout clp job slice s) := by
  unfold execEpochTimeout
  repeat' (first
      | with_reducible rfl
      | simp only [keeps_next, h_ldg, h_link, u_ldg, u_clp, recordOf_blank, raise_blank, putBinding_blank, unit_CCD_EVENT_EPTMO]
      | split
      | (intro))

theorem keepPair_blank (s : State) (c : Nat) (theta : Int) (delta : Nat) (pid : Nat) (stamp : Nat) (h_link : F.link)
    (h_dbg : F.dbg) (h_pulses : F.pulses) : (State.keepPair s c theta delta pid stamp).blank F = s.blank F := by
  unfold State.keepPair
  repeat' (first
      | with_reducible rfl
      | simp only [h_link, h_dbg, h_pulses, modPort_blank, event_blank, tracePair_blank]
      | split
      | (intro))

theorem execTpair_blank (clp : Nat) (h : ClpHdr) (phase : Nat) (pid : Nat) (t1 : Nat) (t2 : Nat) (t3 : Nat) (theta : Nat)
    (delta : Nat) (s : State) (h_hubs : F.hubs) (h_flt : F.flt) (h_fl : F.fl) (h_tally : F.tally) (h_vault : F.vault)
    (h_link : F.link) (h_colo : F.colo) (h_sys : F.sys) (h_dbg : F.dbg) (h_bru : F.bru) (h_flue : F.flue) (h_pulses : F.pulses)
    (h_freeCtr : F.freeCtr) (u_bru : F.has .bru) (u_flt : F.has .flt) (u_ccd : F.has .ccd) (u_folio : F.has .folio)
    (u_cat : F.has .cat) (u_clp : F.has .clp) (u_tenant : F.has .tenant) : Keeps F s (execTpair clp h phase pid t1 t2 t3 theta
    delta s) := by
  unfold execTpair
  repeat' (first
      | with_reducible rfl
      | simp only [implies_true, apply_ite (State.blank F), ite_self, keeps_next, h_link, h_dbg, h_pulses, u_clp, setPort_blank,
          presentFree_blank, keepPair_blank]
      | (with_reducible refine (linkIn_blank _ _ _ _ _ _ (by first | assumption | exact u_all _) (by first | assumption | exact u_all _) (by first | assumption | exact u_all _) (by first | assumption | exact u_all _) (by first | assumption | exact u_all _) (by first | assumption | exact u_all _) (by first | assumption | exact u_all _) (by first | assumption | exact u_all _) (by first | assumption | exact u_all _) (by first | assumption | exact u_all _) (by first | assumption | exact u_all _) (by first | assumption | exact u_all _) (by first | assumption | exact u_all _) (by first | assumption | exact u_all _) (by first | assumption | exact u_all _) (by first | assumption | exact u_all _) (by first | assumption | exact u_all _) (by first | assumption | exact u_all _) (by first | assumption | exact u_all _) ?_).trans ?_)
      | split
      | (intro))

theorem execTpairTick_blank (clp : Nat) (s : State) (h_link : F.link) (h_pulses : F.pulses) (u_clp : F.has .clp) : Keeps F s
    (execTpairTick clp s) := by
  unfold execTpairTick
  repeat' (first
      | with_reducible rfl
      | simp only [apply_ite (State.blank F), ite_self, keeps_next, h_link, h_pulses, u_clp, startPair_blank]
      | split
      | (intro))

theorem execTpairTimeout_blank (clp : Nat) (s : State) (h_link : F.link) : Keeps F s (execTpairTimeout clp s) := by
  unfold execTpairTimeout
  repeat' (first
      | with_reducible rfl
      | simp only [keeps_next, h_link, modPort_blank]
      | split
      | (intro))

theorem execThetaExpiry_blank (clp : Nat) (s : State) (h_link : F.link) : Keeps F s (execThetaExpiry clp s) := by
  unfold execThetaExpiry
  repeat' (first
      | with_reducible rfl
      | simp only [keeps_next, h_link, modPort_blank]
      | split
      | (intro))

theorem prepared_blank (s : State) (c : Nat) (folio : Nat) (nact : Nat) (acts : List Act) (h_hubs : F.hubs) (h_flt : F.flt)
    (h_fl : F.fl) (h_tally : F.tally) (h_link : F.link) (h_colo : F.colo) (h_bru : F.bru) (h_flue : F.flue)
    (h_pulses : F.pulses) (h_freeCtr : F.freeCtr) (u_bru : F.has .bru) (u_flt : F.has .flt) (u_ccd : F.has .ccd)
    (u_folio : F.has .folio) (u_cat : F.has .cat) (u_clp : F.has .clp) (u_tenant : F.has .tenant) : (State.prepared s c folio
    nact acts).blank F = s.blank F := by
  unfold State.prepared
  repeat' (first
      | with_reducible rfl
      | simp only [apply_ite (State.blank F), ite_self, h_hubs, h_flt, h_fl, h_tally, h_link, h_colo, h_bru, h_flue, h_pulses,
          h_freeCtr, u_bru, u_flt, u_ccd, u_folio, u_cat, u_clp, u_tenant, voidFolio_blank, kilnPropose_blank, linkQueue_blank,
          raise_blank, admitWaiting_blank, unit_CCD_EVENT_COLLIDE]
      | split
      | (intro))

theorem execFprep_blank (clp : Nat) (h : ClpHdr) (folio : Nat) (part : Nat) (last : Bool) (nact : Nat) (acts : List Flit)
    (s : State) (h_hubs : F.hubs) (h_flt : F.flt) (h_fl : F.fl) (h_tally : F.tally) (h_vault : F.vault) (h_link : F.link)
    (h_colo : F.colo) (h_sys : F.sys) (h_bru : F.bru) (h_flue : F.flue) (h_pulses : F.pulses) (h_freeCtr : F.freeCtr)
    (u_bru : F.has .bru) (u_flt : F.has .flt) (u_ccd : F.has .ccd) (u_folio : F.has .folio) (u_cat : F.has .cat)
    (u_clp : F.has .clp) (u_tenant : F.has .tenant) : Keeps F s (execFprep clp h folio part last nact acts s) := by
  unfold execFprep
  repeat' (first
      | with_reducible rfl
      | simp only [implies_true, apply_ite (State.blank F), ite_self, keeps_next, h_hubs, h_flt, h_fl, h_tally, h_link, h_colo,
          h_bru, h_flue, h_pulses, h_freeCtr, u_bru, u_flt, u_ccd, u_folio, u_cat, u_clp, u_tenant, prepared_blank,
          setPort_blank]
      | (with_reducible refine (linkIn_blank _ _ _ _ _ _ (by first | assumption | exact u_all _) (by first | assumption | exact u_all _) (by first | assumption | exact u_all _) (by first | assumption | exact u_all _) (by first | assumption | exact u_all _) (by first | assumption | exact u_all _) (by first | assumption | exact u_all _) (by first | assumption | exact u_all _) (by first | assumption | exact u_all _) (by first | assumption | exact u_all _) (by first | assumption | exact u_all _) (by first | assumption | exact u_all _) (by first | assumption | exact u_all _) (by first | assumption | exact u_all _) (by first | assumption | exact u_all _) (by first | assumption | exact u_all _) (by first | assumption | exact u_all _) (by first | assumption | exact u_all _) (by first | assumption | exact u_all _) ?_).trans ?_)
      | split
      | (intro))

theorem execFvote_blank (clp : Nat) (h : ClpHdr) (folio : Nat) (code : Nat) (lnum : Nat) (answer : Bool) (s : State)
    (h_hubs : F.hubs) (h_master : F.master) (h_flt : F.flt) (h_fl : F.fl) (h_tally : F.tally) (h_vault : F.vault)
    (h_link : F.link) (h_colo : F.colo) (h_sys : F.sys) (h_bru : F.bru) (h_flue : F.flue) (h_pulses : F.pulses)
    (h_freeCtr : F.freeCtr) (u_bru : F.has .bru) (u_flt : F.has .flt) (u_ccd : F.has .ccd) (u_folio : F.has .folio)
    (u_cat : F.has .cat) (u_clp : F.has .clp) (u_tenant : F.has .tenant) : Keeps F s (execFvote clp h folio code lnum answer s)
    := by
  unfold execFvote
  repeat' (first
      | with_reducible rfl
      | simp only [apply_ite (State.blank F), ite_self, keeps_next, h_hubs, h_master, h_flt, h_fl, h_tally, h_link, h_colo,
          h_bru, h_flue, h_pulses, h_freeCtr, u_bru, u_flt, u_ccd, u_folio, u_cat, u_clp, u_tenant, modPort_blank,
          voidFolio_blank, admitWaiting_blank, tryDecide_blank, setFolio_blank]
      | (with_reducible refine (linkIn_blank _ _ _ _ _ _ (by first | assumption | exact u_all _) (by first | assumption | exact u_all _) (by first | assumption | exact u_all _) (by first | assumption | exact u_all _) (by first | assumption | exact u_all _) (by first | assumption | exact u_all _) (by first | assumption | exact u_all _) (by first | assumption | exact u_all _) (by first | assumption | exact u_all _) (by first | assumption | exact u_all _) (by first | assumption | exact u_all _) (by first | assumption | exact u_all _) (by first | assumption | exact u_all _) (by first | assumption | exact u_all _) (by first | assumption | exact u_all _) (by first | assumption | exact u_all _) (by first | assumption | exact u_all _) (by first | assumption | exact u_all _) (by first | assumption | exact u_all _) ?_).trans ?_)
      | split
      | (intro))

theorem replaySealed_blank (s : State) (c : Nat) (number : Nat) (t : Nat) (h_fl : F.fl) (h_flue : F.flue) (u_clp : F.has .clp) :
    (State.replaySealed s c number t).blank F = s.blank F := by
  unfold State.replaySealed
  repeat' (first
      | with_reducible rfl
      | simp only [h_fl, h_flue, u_clp, raise_blank, sendAll_blank, setFolio_blank, unit_CCD_EVENT_LATE]
      | split
      | (intro))

theorem execFseal_blank (clp : Nat) (h : ClpHdr) (folio : Nat) (t : Nat) (replay : Bool) (s : State) (h_hubs : F.hubs)
    (h_master : F.master) (h_flt : F.flt) (h_fl : F.fl) (h_tally : F.tally) (h_vault : F.vault) (h_link : F.link)
    (h_colo : F.colo) (h_sys : F.sys) (h_bru : F.bru) (h_flue : F.flue) (h_pulses : F.pulses) (h_freeCtr : F.freeCtr)
    (u_bru : F.has .bru) (u_flt : F.has .flt) (u_ccd : F.has .ccd) (u_folio : F.has .folio) (u_cat : F.has .cat)
    (u_clp : F.has .clp) (u_tenant : F.has .tenant) : Keeps F s (execFseal clp h folio t replay s) := by
  unfold execFseal
  repeat' (first
      | with_reducible rfl
      | simp only [apply_ite (State.blank F), ite_self, keeps_next, h_hubs, h_master, h_flt, h_fl, h_tally, h_link, h_colo,
          h_bru, h_flue, h_pulses, h_freeCtr, u_bru, u_flt, u_ccd, u_folio, u_cat, u_clp, u_tenant, modPort_blank,
          replaySealed_blank, raise_blank, decide__blank, unit_CCD_EVENT_LATE]
      | (with_reducible refine (linkIn_blank _ _ _ _ _ _ (by first | assumption | exact u_all _) (by first | assumption | exact u_all _) (by first | assumption | exact u_all _) (by first | assumption | exact u_all _) (by first | assumption | exact u_all _) (by first | assumption | exact u_all _) (by first | assumption | exact u_all _) (by first | assumption | exact u_all _) (by first | assumption | exact u_all _) (by first | assumption | exact u_all _) (by first | assumption | exact u_all _) (by first | assumption | exact u_all _) (by first | assumption | exact u_all _) (by first | assumption | exact u_all _) (by first | assumption | exact u_all _) (by first | assumption | exact u_all _) (by first | assumption | exact u_all _) (by first | assumption | exact u_all _) (by first | assumption | exact u_all _) ?_).trans ?_)
      | split
      | (intro))

theorem execFvoid_blank (clp : Nat) (h : ClpHdr) (folio : Nat) (reason : Nat) (s : State) (h_hubs : F.hubs) (h_flt : F.flt)
    (h_fl : F.fl) (h_tally : F.tally) (h_vault : F.vault) (h_link : F.link) (h_colo : F.colo) (h_sys : F.sys) (h_bru : F.bru)
    (h_flue : F.flue) (h_pulses : F.pulses) (h_freeCtr : F.freeCtr) (u_bru : F.has .bru) (u_flt : F.has .flt)
    (u_ccd : F.has .ccd) (u_folio : F.has .folio) (u_cat : F.has .cat) (u_clp : F.has .clp) (u_tenant : F.has .tenant) : Keeps F
    s (execFvoid clp h folio reason s) := by
  unfold execFvoid
  repeat' (first
      | with_reducible rfl
      | simp only [keeps_next, h_hubs, h_flt, h_fl, h_tally, h_link, h_colo, h_bru, h_flue, h_pulses, h_freeCtr, u_bru, u_flt,
          u_ccd, u_folio, u_cat, u_clp, u_tenant, voidPeerFolio_blank]
      | (with_reducible refine (linkIn_blank _ _ _ _ _ _ (by first | assumption | exact u_all _) (by first | assumption | exact u_all _) (by first | assumption | exact u_all _) (by first | assumption | exact u_all _) (by first | assumption | exact u_all _) (by first | assumption | exact u_all _) (by first | assumption | exact u_all _) (by first | assumption | exact u_all _) (by first | assumption | exact u_all _) (by first | assumption | exact u_all _) (by first | assumption | exact u_all _) (by first | assumption | exact u_all _) (by first | assumption | exact u_all _) (by first | assumption | exact u_all _) (by first | assumption | exact u_all _) (by first | assumption | exact u_all _) (by first | assumption | exact u_all _) (by first | assumption | exact u_all _) (by first | assumption | exact u_all _) ?_).trans ?_)
      | split
      | (intro))

theorem execIndoubtTimeout_blank (clp : Nat) (folio : Nat) (s : State) (h_link : F.link) : Keeps F s (execIndoubtTimeout clp
    folio s) := by
  unfold execIndoubtTimeout
  repeat' (first
      | with_reducible rfl
      | simp only [apply_ite (State.blank F), ite_self, keeps_next, h_link, modPort_blank]
      | split
      | (intro))

theorem proposeX_blank (s : State) (q : XReq) (h_hubs : F.hubs) (h_flt : F.flt) (h_fl : F.fl) (h_tally : F.tally)
    (h_link : F.link) (h_colo : F.colo) (h_bru : F.bru) (h_flue : F.flue) (h_pulses : F.pulses) (h_freeCtr : F.freeCtr)
    (u_bru : F.has .bru) (u_flt : F.has .flt) (u_ccd : F.has .ccd) (u_folio : F.has .folio) (u_cat : F.has .cat)
    (u_clp : F.has .clp) (u_tenant : F.has .tenant) : (State.proposeX s q).blank F = s.blank F := by
  unfold State.proposeX
  repeat' (first
      | with_reducible rfl
      | simp only [blank_mk, or_true, true_or, h_hubs, h_flt, h_fl, h_tally, h_link, h_colo, h_bru, h_flue, h_pulses, h_freeCtr,
          u_bru, u_flt, u_ccd, u_folio, u_cat, u_clp, u_tenant, kilnPropose_blank, set_blank, unit_CCD_XREQNUM_NUMBER]
      | split
      | (intro))

theorem execCollisionBackoff_blank (s : State) (h_hubs : F.hubs) (h_flt : F.flt) (h_fl : F.fl) (h_tally : F.tally)
    (h_link : F.link) (h_colo : F.colo) (h_bru : F.bru) (h_flue : F.flue) (h_pulses : F.pulses) (h_freeCtr : F.freeCtr)
    (u_bru : F.has .bru) (u_flt : F.has .flt) (u_ccd : F.has .ccd) (u_folio : F.has .folio) (u_cat : F.has .cat)
    (u_clp : F.has .clp) (u_tenant : F.has .tenant) : Keeps F s (execCollisionBackoff s) := by
  unfold execCollisionBackoff
  repeat' (first
      | with_reducible rfl
      | simp only [apply_ite (State.blank F), ite_self, keeps_next, h_hubs, h_flt, h_fl, h_tally, h_link, h_colo, h_bru, h_flue,
          h_pulses, h_freeCtr, u_bru, u_flt, u_ccd, u_folio, u_cat, u_clp, u_tenant, proposeX_blank]
      | split
      | (intro))

theorem xrequest_blank (s : State) (op : Nat) (clp : Nat) (job : Nat) (slice : Nat) (newclp : Nat) (withdraw : Bool)
    (ready : Nat) (h_hubs : F.hubs) (h_flt : F.flt) (h_fl : F.fl) (h_tally : F.tally) (h_link : F.link) (h_colo : F.colo)
    (h_bru : F.bru) (h_flue : F.flue) (h_pulses : F.pulses) (h_freeCtr : F.freeCtr) (u_bru : F.has .bru) (u_flt : F.has .flt)
    (u_ccd : F.has .ccd) (u_folio : F.has .folio) (u_cat : F.has .cat) (u_clp : F.has .clp) (u_tenant : F.has .tenant) :
    (State.xrequest s op clp job slice newclp withdraw ready).blank F = s.blank F := by
  unfold State.xrequest
  repeat' (first
      | with_reducible rfl
      | simp only [apply_ite (State.blank F), ite_self, h_hubs, h_flt, h_fl, h_tally, h_link, h_colo, h_bru, h_flue, h_pulses,
          h_freeCtr, u_bru, u_flt, u_ccd, u_folio, u_cat, u_clp, u_tenant, proposeX_blank, set_blank, raise_blank, setAll_blank,
          List.all_cons, List.all_nil, Bool.and_self, unit_CCD_XREQST_BUSY, unit_CCD_XREQST_DROPPED, unit_CCD_XREQST_RESULT,
          unit_CCD_XREQ_CLP, unit_CCD_XREQ_JOB, unit_CCD_XREQ_NEWCLP, unit_CCD_XREQ_OP, unit_CCD_XREQ_SLICE,
          unit_CCD_XREQ_WITHDRAW]
      | split
      | (intro))

theorem execCcdXreqXrole_blank (clp : Nat) (job : Nat) (slice : Nat) (newclp : Nat) (withdraw : Bool) (ten : Nat) (tag : Nat)
    (s : State) (h_hubs : F.hubs) (h_flt : F.flt) (h_fl : F.fl) (h_tally : F.tally) (h_link : F.link) (h_colo : F.colo)
    (h_bru : F.bru) (h_flue : F.flue) (h_pulses : F.pulses) (h_freeCtr : F.freeCtr) (u_ghp : F.has .ghp) (u_bru : F.has .bru)
    (u_flt : F.has .flt) (u_ccd : F.has .ccd) (u_folio : F.has .folio) (u_cat : F.has .cat) (u_clp : F.has .clp)
    (u_tenant : F.has .tenant) : Keeps F s (execCcdXreqXrole clp job slice newclp withdraw ten tag s) := by
  unfold execCcdXreqXrole
  repeat' (first
      | with_reducible rfl
      | simp only [implies_true, keeps_next, h_hubs, h_flt, h_fl, h_tally, h_link, h_colo, h_bru, h_flue, h_pulses, h_freeCtr,
          u_bru, u_flt, u_ccd, u_folio, u_cat, u_clp, u_tenant, xrequest_blank]
      | (with_reducible refine (hostWrite_blank _ _ _ _ _ _ _ (by first | assumption | exact u_all _) (by first | assumption | exact u_all _) ?_).trans ?_)
      | split
      | (intro))

theorem execCcdXreqXspare_blank (clp : Nat) (job : Nat) (slice : Nat) (newclp : Nat) (ten : Nat) (tag : Nat) (s : State)
    (h_hubs : F.hubs) (h_flt : F.flt) (h_fl : F.fl) (h_tally : F.tally) (h_link : F.link) (h_colo : F.colo) (h_bru : F.bru)
    (h_flue : F.flue) (h_pulses : F.pulses) (h_freeCtr : F.freeCtr) (u_ghp : F.has .ghp) (u_bru : F.has .bru)
    (u_flt : F.has .flt) (u_ccd : F.has .ccd) (u_folio : F.has .folio) (u_cat : F.has .cat) (u_clp : F.has .clp)
    (u_tenant : F.has .tenant) : Keeps F s (execCcdXreqXspare clp job slice newclp ten tag s) := by
  unfold execCcdXreqXspare
  repeat' (first
      | with_reducible rfl
      | simp only [implies_true, keeps_next, h_hubs, h_flt, h_fl, h_tally, h_link, h_colo, h_bru, h_flue, h_pulses, h_freeCtr,
          u_bru, u_flt, u_ccd, u_folio, u_cat, u_clp, u_tenant, xrequest_blank]
      | (with_reducible refine (hostWrite_blank _ _ _ _ _ _ _ (by first | assumption | exact u_all _) (by first | assumption | exact u_all _) ?_).trans ?_)
      | split
      | (intro))

theorem sendParts_blank (s : State) (r : Nat) (t : Nat) (h_hubs : F.hubs) (h_flue : F.flue) : (State.sendParts s r t).blank F =
    s.blank F := by
  unfold State.sendParts
  repeat' (first
      | with_reducible rfl
      | simp only [h_hubs, h_flue, setHub_blank, sendAll_blank]
      | split
      | (intro))

theorem markBarrier_blank (s : State) (r : Nat) (t : Nat) (epoch : Nat) (h_hubs : F.hubs) (h_flue : F.flue)
    (u_hubRd : F.has .hubRd) : (State.markBarrier s r t epoch).blank F = s.blank F := by
  unfold State.markBarrier
  repeat' (first
      | with_reducible rfl
      | simp only [implies_true, h_hubs, h_flue, u_hubRd, modWalk_blank, proposeSteps_blank]
      | (with_reducible refine (foldl_blank _ _ _ ?_).trans ?_)
      | split
      | (intro))

theorem execEpCut_blank (region : Nat) (tenant : Nat) (discard : Bool) (epoch : Nat) (s : State) (h_hubs : F.hubs)
    (h_flue : F.flue) (u_hubRd : F.has .hubRd) : Keeps F s (execEpCut region tenant discard epoch s) := by
  unfold execEpCut
  repeat' (first
      | with_reducible rfl
      | simp only [keeps_next, h_hubs, h_flue, u_hubRd, markBarrier_blank, sendParts_blank, sendAll_blank, modHub_blank]
      | split
      | (intro))

theorem execDgCut_blank (region : Nat) (tile : Nat) (acc : Nat) (tenant : Nat) (discard : Bool) (s : State)
    (h_probes : F.probes) (h_flue : F.flue) (u_hubCat : F.has .hubCat) : Keeps F s (execDgCut region tile acc tenant discard s)
    := by
  unfold execDgCut
  repeat' (first
      | with_reducible rfl
      | simp only [keeps_next, h_probes, h_flue, modProbe_blank, reportDigest_blank, send_blank]
      | (with_reducible refine (atProbe_blank _ _ _ _ _ _ (by first | assumption | exact u_all _) (by first | assumption | exact u_all _) (by first | assumption | exact u_all _) ?_).trans ?_)
      | split
      | (intro))

theorem execDgReport_blank (region : Nat) (tile : Nat) (tenant : Nat) (layer : Nat) (dA : Nat) (dB : Nat) (cut : Bool)
    (nslot : Nat) (nchunk : Nat) (nmvslot : Nat) (nmvchunk : Nat) (s : State) (h_hubs : F.hubs) (h_flue : F.flue) : Keeps F s
    (execDgReport region tile tenant layer dA dB cut nslot nchunk nmvslot nmvchunk s) := by
  unfold execDgReport
  repeat' (first
      | with_reducible rfl
      | simp only [keeps_next, h_hubs, h_flue, recv_blank, modHub_blank]
      | split
      | (intro))

theorem execDgCover_blank (region : Nat) (tile : Nat) (tenant : Nat) (macs : List Nat) (elems : List Nat) (s : State)
    (h_hubs : F.hubs) (h_flue : F.flue) : Keeps F s (execDgCover region tile tenant macs elems s) := by
  unfold execDgCover
  repeat' (first
      | with_reducible rfl
      | simp only [keeps_next, h_hubs, h_flue, sendParts_blank, recv_blank, modHub_blank]
      | split
      | (intro))

theorem laterRecalls_blank (s : State) (t : Nat) (h_vault : F.vault) (h_link : F.link) (h_colo : F.colo) (h_sys : F.sys)
    (h_pulses : F.pulses) (h_freeCtr : F.freeCtr) (u_clp : F.has .clp) : (State.laterRecalls s t).blank F = s.blank F := by
  unfold State.laterRecalls
  repeat' (first
      | with_reducible rfl
      | simp only [implies_true, h_vault, h_link, h_colo, h_sys, h_pulses, h_freeCtr, u_clp, performRecall_blank, modEp_blank]
      | (with_reducible refine (foldl_blank _ _ _ ?_).trans ?_)
      | split
      | (intro))

theorem clearSuspects_blank (s : State) (t : Nat) (h_hubs : F.hubs) (h_master : F.master) : (State.clearSuspects s t).blank F =
    s.blank F := by
  unfold State.clearSuspects
  repeat' (first
      | with_reducible rfl
      | simp only [blank_mk, or_true, true_or, h_hubs, h_master]
      | (with_reducible refine (foldl_blank _ _ _ ?_).trans ?_)
      | split
      | (intro))

theorem trySeal_blank (s : State) (t : Nat) (h_hubs : F.hubs) (h_master : F.master) (h_flt : F.flt) (h_rcv : F.rcv)
    (h_vault : F.vault) (h_link : F.link) (h_colo : F.colo) (h_sys : F.sys) (h_flue : F.flue) (h_pulses : F.pulses)
    (h_freeCtr : F.freeCtr) (u_flt : F.has .flt) (u_rcv : F.has .rcv) (u_clp : F.has .clp) (u_tenant : F.has .tenant) :
    (State.trySeal s t).blank F = s.blank F := by
  unfold State.trySeal
  repeat' (first
      | with_reducible rfl
      | simp only [apply_ite (State.blank F), ite_self, h_hubs, h_master, h_flt, h_rcv, h_vault, h_link, h_colo, h_sys, h_flue,
          h_pulses, h_freeCtr, u_flt, u_rcv, u_clp, u_tenant, endClose_blank, putRec_blank, laterRecalls_blank, makeRec_blank,
          grantedPasses_blank, clearSuspects_blank, queueSeals_blank, setAll_blank, List.all_cons, List.all_nil, Bool.and_self,
          modEp_blank, event_blank, unit_TEN_EP_CHAIN_HEAD, unit_TEN_EP_LAST_EPOCH, unit_TEN_EP_STATUS_OPEN]
      | (with_reducible refine (foldl_blank _ _ _ ?_).trans ?_)
      | split
      | (intro))

theorem tryDiscard_blank (s : State) (t : Nat) (h_vault : F.vault) (h_colo : F.colo) (h_sys : F.sys) (h_flue : F.flue)
    (h_freeCtr : F.freeCtr) (u_tenant : F.has .tenant) : (State.tryDiscard s t).blank F = s.blank F := by
  unfold State.tryDiscard
  repeat' (first
      | with_reducible rfl
      | simp only [apply_ite (State.blank F), ite_self, h_vault, h_colo, h_sys, h_flue, h_freeCtr, u_tenant,
          closeUnsealed_blank, endClose_blank, modEp_blank]
      | split
      | (intro))

theorem retryRing_blank (s : State) (t : Nat) (h_hubs : F.hubs) (h_master : F.master) (h_flt : F.flt) (h_rcv : F.rcv)
    (h_vault : F.vault) (h_link : F.link) (h_colo : F.colo) (h_sys : F.sys) (h_flue : F.flue) (h_pulses : F.pulses)
    (h_freeCtr : F.freeCtr) (u_flt : F.has .flt) (u_rcv : F.has .rcv) (u_clp : F.has .clp) (u_tenant : F.has .tenant) :
    (State.retryRing s t).blank F = s.blank F := by
  unfold State.retryRing
  repeat' (first
      | with_reducible rfl
      | simp only [apply_ite (State.blank F), ite_self, h_hubs, h_master, h_flt, h_rcv, h_vault, h_link, h_colo, h_sys, h_flue,
          h_pulses, h_freeCtr, u_flt, u_rcv, u_clp, u_tenant, tryDiscard_blank, trySeal_blank]
      | split
      | (intro))

theorem cutDone_blank (s : State) (t : Nat) (h_vault : F.vault) (h_colo : F.colo) (h_sys : F.sys) (h_flue : F.flue)
    (h_freeCtr : F.freeCtr) (u_tenant : F.has .tenant) : (State.cutDone s t).blank F = s.blank F := by
  unfold State.cutDone
  repeat' (first
      | with_reducible rfl
      | simp only [apply_ite (State.blank F), h_vault, h_colo, h_sys, h_flue, h_freeCtr, u_tenant, fresh_blank,
          tryDiscard_blank, set_blank, modEp_blank, unit_TEN_EP_STATUS_CUT]
      | split
      | (intro))

theorem settleCut_blank (s : State) (t : Nat) (h_vault : F.vault) (h_colo : F.colo) (h_sys : F.sys) (h_flue : F.flue)
    (h_freeCtr : F.freeCtr) (u_tenant : F.has .tenant) : (State.settleCut s t).blank F = s.blank F := by
  unfold State.settleCut
  repeat' (first
      | with_reducible rfl
      | simp only [apply_ite (State.blank F), ite_self, h_vault, h_colo, h_sys, h_flue, h_freeCtr, u_tenant, cutDone_blank]
      | split
      | (intro))

theorem execEpPart_blank (region : Nat) (tenant : Nat) (part : Nat) (last : Bool) (payload : List Flit) (s : State)
    (h_vault : F.vault) (h_colo : F.colo) (h_sys : F.sys) (h_flue : F.flue) (h_freeCtr : F.freeCtr) (u_tenant : F.has .tenant) :
    Keeps F s (execEpPart region tenant part last payload s) := by
  unfold execEpPart
  repeat' (first
      | with_reducible rfl
      | simp only [keeps_next, h_vault, h_colo, h_sys, h_flue, h_freeCtr, u_tenant, settleCut_blank, recv_blank, modEp_blank]
      | (with_reducible refine (foldl_blank _ _ _ ?_).trans ?_)
      | split
      | (intro))

theorem execEpochHashDone_blank (tenant : Nat) (s : State) (h_hubs : F.hubs) (h_master : F.master) (h_flt : F.flt)
    (h_rcv : F.rcv) (h_vault : F.vault) (h_link : F.link) (h_colo : F.colo) (h_sys : F.sys) (h_flue : F.flue)
    (h_pulses : F.pulses) (h_freeCtr : F.freeCtr) (u_flt : F.has .flt) (u_rcv : F.has .rcv) (u_clp : F.has .clp)
    (u_tenant : F.has .tenant) : Keeps F s (execEpochHashDone tenant s) := by
  unfold execEpochHashDone
  repeat' (first
      | with_reducible rfl
      | simp only [apply_ite (State.blank F), ite_self, keeps_next, h_hubs, h_master, h_flt, h_rcv, h_vault, h_link, h_colo,
          h_sys, h_flue, h_pulses, h_freeCtr, u_flt, u_rcv, u_clp, u_tenant, trySeal_blank]
      | split
      | (intro))

theorem failCut_blank (s : State) (t : Nat) (h_vault : F.vault) (h_link : F.link) (h_colo : F.colo) (h_sys : F.sys)
    (h_flue : F.flue) (h_pulses : F.pulses) (h_freeCtr : F.freeCtr) (u_clp : F.has .clp) (u_tenant : F.has .tenant) :
    (State.failCut s t).blank F = s.blank F := by
  unfold State.failCut
  repeat' (first
      | with_reducible rfl
      | simp only [apply_ite (State.blank F), ite_self, h_vault, h_link, h_colo, h_sys, h_flue, h_pulses, h_freeCtr, u_clp,
          u_tenant, closeUnsealed_blank, endClose_blank, laterRecalls_blank]
      | split
      | (intro))

theorem execEpPartTimeout_blank (tenant : Nat) (s : State) (h_vault : F.vault) (h_link : F.link) (h_colo : F.colo)
    (h_sys : F.sys) (h_flue : F.flue) (h_pulses : F.pulses) (h_freeCtr : F.freeCtr) (u_clp : F.has .clp)
    (u_tenant : F.has .tenant) : Keeps F s (execEpPartTimeout tenant s) := by
  unfold execEpPartTimeout
  repeat' (first
      | with_reducible rfl
      | simp only [apply_ite (State.blank F), ite_self, keeps_next, h_vault, h_link, h_colo, h_sys, h_flue, h_pulses, h_freeCtr,
          u_clp, u_tenant, failCut_blank]
      | split
      | (intro))

theorem execRecordRingTimeout_blank (tenant : Nat) (s : State) (h_vault : F.vault) (h_link : F.link) (h_colo : F.colo)
    (h_sys : F.sys) (h_flue : F.flue) (h_pulses : F.pulses) (h_freeCtr : F.freeCtr) (u_clp : F.has .clp)
    (u_tenant : F.has .tenant) : Keeps F s (execRecordRingTimeout tenant s) := by
  unfold execRecordRingTimeout
  repeat' (first
      | with_reducible rfl
      | simp only [apply_ite (State.blank F), ite_self, keeps_next, h_vault, h_link, h_colo, h_sys, h_flue, h_pulses, h_freeCtr,
          u_clp, u_tenant, endClose_blank, laterRecalls_blank, modEp_blank]
      | split
      | (intro))

theorem recTailWrite_blank (s : State) (tenant : Nat) (offset : Nat) (h_hubs : F.hubs) (h_master : F.master) (h_flt : F.flt)
    (h_rcv : F.rcv) (h_vault : F.vault) (h_link : F.link) (h_colo : F.colo) (h_sys : F.sys) (h_flue : F.flue)
    (h_pulses : F.pulses) (h_freeCtr : F.freeCtr) (u_flt : F.has .flt) (u_rcv : F.has .rcv) (u_clp : F.has .clp)
    (u_tenant : F.has .tenant) : (State.recTailWrite s tenant offset).blank F = s.blank F := by
  unfold State.recTailWrite
  repeat' (first
      | with_reducible rfl
      | simp only [h_hubs, h_master, h_flt, h_rcv, h_vault, h_link, h_colo, h_sys, h_flue, h_pulses, h_freeCtr, u_flt, u_rcv,
          u_clp, u_tenant, flushRecs_blank, set_blank, retryRing_blank, unit_TEN_REC_TAIL_OFFSET]
      | split
      | (intro))

theorem execTenRecTailWrite_blank (tenant : Nat) (offset : Nat) (ten : Nat) (tag : Nat) (s : State) (h_hubs : F.hubs)
    (h_master : F.master) (h_flt : F.flt) (h_rcv : F.rcv) (h_vault : F.vault) (h_link : F.link) (h_colo : F.colo)
    (h_sys : F.sys) (h_flue : F.flue) (h_pulses : F.pulses) (h_freeCtr : F.freeCtr) (u_ghp : F.has .ghp) (u_flt : F.has .flt)
    (u_rcv : F.has .rcv) (u_clp : F.has .clp) (u_tenant : F.has .tenant) : Keeps F s (execTenRecTailWrite tenant offset ten tag
    s) := by
  unfold execTenRecTailWrite
  repeat' (first
      | with_reducible rfl
      | simp only [implies_true, keeps_next, h_hubs, h_master, h_flt, h_rcv, h_vault, h_link, h_colo, h_sys, h_flue, h_pulses,
          h_freeCtr, u_flt, u_rcv, u_clp, u_tenant, recTailWrite_blank]
      | (with_reducible refine (hostWrite_blank _ _ _ _ _ _ _ (by first | assumption | exact u_all _) (by first | assumption | exact u_all _) ?_).trans ?_)
      | split
      | (intro))

theorem closeWrite_blank (s : State) (t : Nat) (epoch : Nat) (op : Nat) (act : State → State) (u_tenant : F.has .tenant)
    (hact : ∀ x0, (act x0).blank F = x0.blank F) : (State.closeWrite s t epoch op act).blank F = s.blank F := by
  unfold State.closeWrite
  repeat' (first
      | with_reducible rfl
      | simp only [apply_ite (State.blank F), ite_self, u_tenant, hact, set_blank, raise_blank, setAll_blank, List.all_cons,
          List.all_nil, Bool.and_self, unit_TEN_EP_CLOSE_EPOCH, unit_TEN_EP_CLOSE_OP, unit_TEN_EP_STATUS_DROPPED,
          unit_TEN_EP_STATUS_RESULT]
      | split
      | (intro))

theorem closeOpen_blank (s : State) (t : Nat) (epoch : Nat) (op : Nat) (h_vault : F.vault) (h_colo : F.colo) (h_sys : F.sys)
    (h_flue : F.flue) (h_freeCtr : F.freeCtr) (u_tenant : F.has .tenant) : (State.closeOpen s t epoch op).blank F = s.blank F :=
    by
  unfold State.closeOpen
  repeat' (first
      | with_reducible rfl
      | simp only [apply_ite (State.blank F), ite_self, h_vault, h_colo, h_sys, h_flue, h_freeCtr, u_tenant, set_blank,
          settleCut_blank, openClose_blank, unit_TEN_EP_STATUS_RESULT]
      | split
      | (intro))

theorem execEpochSeal_blank (tenant : Nat) (epoch : Nat) (ten : Nat) (tag : Nat) (s : State) (h_vault : F.vault)
    (h_colo : F.colo) (h_sys : F.sys) (h_flue : F.flue) (h_pulses : F.pulses) (h_freeCtr : F.freeCtr) (u_ghp : F.has .ghp)
    (u_tenant : F.has .tenant) : Keeps F s (execEpochSeal tenant epoch ten tag s) := by
  unfold execEpochSeal
  repeat' (first
      | with_reducible rfl
      | simp only [implies_true, keeps_next, h_vault, h_colo, h_sys, h_flue, h_freeCtr, u_tenant, closeOpen_blank]
      | (with_reducible refine (closeWrite_blank _ _ _ _ _ (by first | assumption | exact u_all _) ?_).trans ?_)
      | (with_reducible refine (hostWrite_blank _ _ _ _ _ _ _ (by first | assumption | exact u_all _) (by first | assumption | exact u_all _) ?_).trans ?_)
      | split
      | (intro))

theorem execEpochDiscard_blank (tenant : Nat) (epoch : Nat) (ten : Nat) (tag : Nat) (s : State) (h_vault : F.vault)
    (h_colo : F.colo) (h_sys : F.sys) (h_flue : F.flue) (h_pulses : F.pulses) (h_freeCtr : F.freeCtr) (u_ghp : F.has .ghp)
    (u_tenant : F.has .tenant) : Keeps F s (execEpochDiscard tenant epoch ten tag s) := by
  unfold execEpochDiscard
  repeat' (first
      | with_reducible rfl
      | simp only [implies_true, keeps_next, h_vault, h_colo, h_sys, h_flue, h_freeCtr, u_tenant, closeOpen_blank]
      | (with_reducible refine (closeWrite_blank _ _ _ _ _ (by first | assumption | exact u_all _) ?_).trans ?_)
      | (with_reducible refine (hostWrite_blank _ _ _ _ _ _ _ (by first | assumption | exact u_all _) (by first | assumption | exact u_all _) ?_).trans ?_)
      | split
      | (intro))

theorem rewind_blank (s : State) (t : Nat) (epoch : Nat) (tagOk : Bool) (h_flt : F.flt) (h_vault : F.vault) (h_link : F.link)
    (h_colo : F.colo) (h_sys : F.sys) (h_pulses : F.pulses) (h_freeCtr : F.freeCtr) (u_flt : F.has .flt) (u_clp : F.has .clp)
    (u_tenant : F.has .tenant) : (State.rewind s t epoch tagOk).blank F = s.blank F := by
  unfold State.rewind
  repeat' (first
      | with_reducible rfl
      | simp only [apply_ite (State.blank F), ite_self, h_flt, h_vault, h_link, h_colo, h_sys, h_pulses, h_freeCtr, u_flt,
          u_clp, u_tenant, notify_blank, performRecall_blank, unqueueSeals_blank, set_blank, caughtUp_blank, takeRid_blank,
          setAll_blank, List.all_cons, List.all_nil, Bool.and_self, modEp_blank, unit_TEN_EP_CHAIN_HEAD, unit_TEN_EP_LAST_EPOCH,
          unit_TEN_EP_STATUS_OPEN, unit_TEN_EP_STATUS_RESULT]
      | split
      | (intro))

theorem execEpochRewind_blank (tenant : Nat) (epoch : Nat) (tagOk : Bool) (ten : Nat) (tag : Nat) (s : State) (h_flt : F.flt)
    (h_vault : F.vault) (h_link : F.link) (h_colo : F.colo) (h_sys : F.sys) (h_pulses : F.pulses) (h_freeCtr : F.freeCtr)
    (u_ghp : F.has .ghp) (u_flt : F.has .flt) (u_clp : F.has .clp) (u_tenant : F.has .tenant) : Keeps F s (execEpochRewind
    tenant epoch tagOk ten tag s) := by
  unfold execEpochRewind
  repeat' (first
      | with_reducible rfl
      | simp only [implies_true, keeps_next, h_flt, h_vault, h_link, h_colo, h_sys, h_pulses, h_freeCtr, u_flt, u_clp, u_tenant,
          rewind_blank]
      | (with_reducible refine (closeWrite_blank _ _ _ _ _ (by first | assumption | exact u_all _) ?_).trans ?_)
      | (with_reducible refine (hostWrite_blank _ _ _ _ _ _ _ (by first | assumption | exact u_all _) (by first | assumption | exact u_all _) ?_).trans ?_)
      | split
      | (intro))

theorem restartWrite_blank (s : State) (tenant : Nat) (epoch : Nat) (h_vault : F.vault) (h_link : F.link) (h_colo : F.colo)
    (h_sys : F.sys) (h_freeCtr : F.freeCtr) (u_tenant : F.has .tenant) : (State.restartWrite s tenant epoch).blank F = s.blank F
    := by
  unfold State.restartWrite
  repeat' (first
      | with_reducible rfl
      | simp only [implies_true, h_vault, h_link, h_colo, h_sys, h_freeCtr, u_tenant, genesis_blank, set_blank, caughtUp_blank,
          unit_TEN_EP_STATUS_RESULT]
      | (with_reducible refine (closeWrite_blank _ _ _ _ _ (by first | assumption | exact u_all _) ?_).trans ?_)
      | split
      | (intro))

theorem execEpochRestart_blank (tenant : Nat) (epoch : Nat) (ten : Nat) (tag : Nat) (s : State) (h_vault : F.vault)
    (h_link : F.link) (h_colo : F.colo) (h_sys : F.sys) (h_pulses : F.pulses) (h_freeCtr : F.freeCtr) (u_ghp : F.has .ghp)
    (u_tenant : F.has .tenant) : Keeps F s (execEpochRestart tenant epoch ten tag s) := by
  unfold execEpochRestart
  repeat' (first
      | with_reducible rfl
      | simp only [implies_true, keeps_next, h_vault, h_link, h_colo, h_sys, h_freeCtr, u_tenant, restartWrite_blank]
      | (with_reducible refine (hostWrite_blank _ _ _ _ _ _ _ (by first | assumption | exact u_all _) (by first | assumption | exact u_all _) ?_).trans ?_)
      | split
      | (intro))

theorem coloWrite_blank (s : State) (tenant : Nat) (h_hubs : F.hubs) (h_flt : F.flt) (h_fl : F.fl) (h_tally : F.tally)
    (h_link : F.link) (h_colo : F.colo) (h_bru : F.bru) (h_flue : F.flue) (h_pulses : F.pulses) (h_freeCtr : F.freeCtr)
    (u_bru : F.has .bru) (u_flt : F.has .flt) (u_ccd : F.has .ccd) (u_tly : F.has .tly) (u_folio : F.has .folio)
    (u_cat : F.has .cat) (u_clp : F.has .clp) (u_tenant : F.has .tenant) : (State.coloWrite s tenant).blank F = s.blank F := by
  unfold State.coloWrite
  repeat' (first
      | with_reducible rfl
      | simp only [apply_ite (State.blank F), ite_self, h_hubs, h_flt, h_fl, h_tally, h_link, h_colo, h_bru, h_flue, h_pulses,
          h_freeCtr, u_bru, u_flt, u_ccd, u_tly, u_folio, u_cat, u_clp, u_tenant, set_blank, setAll_blank, List.all_cons,
          List.all_nil, Bool.and_self, modEp_blank, wantSweep_blank, unit_TEN_COLO_REQ_REQ, unit_TEN_COLO_STATUS_BUSY,
          unit_TEN_COLO_STATUS_RESULT]
      | split
      | (intro))

theorem execColophonRequest_blank (tenant : Nat) (ten : Nat) (tag : Nat) (s : State) (h_hubs : F.hubs) (h_flt : F.flt)
    (h_fl : F.fl) (h_tally : F.tally) (h_link : F.link) (h_colo : F.colo) (h_bru : F.bru) (h_flue : F.flue)
    (h_pulses : F.pulses) (h_freeCtr : F.freeCtr) (u_ghp : F.has .ghp) (u_bru : F.has .bru) (u_flt : F.has .flt)
    (u_ccd : F.has .ccd) (u_tly : F.has .tly) (u_folio : F.has .folio) (u_cat : F.has .cat) (u_clp : F.has .clp)
    (u_tenant : F.has .tenant) : Keeps F s (execColophonRequest tenant ten tag s) := by
  unfold execColophonRequest
  repeat' (first
      | with_reducible rfl
      | simp only [implies_true, keeps_next, h_hubs, h_flt, h_fl, h_tally, h_link, h_colo, h_bru, h_flue, h_pulses, h_freeCtr,
          u_bru, u_flt, u_ccd, u_tly, u_folio, u_cat, u_clp, u_tenant, coloWrite_blank]
      | (with_reducible refine (hostWrite_blank _ _ _ _ _ _ _ (by first | assumption | exact u_all _) (by first | assumption | exact u_all _) ?_).trans ?_)
      | split
      | (intro))

theorem rollbackWith_blank (s : State) (src : Nat) (n : Nat × Nat × Nat × Nat) (h_flt : F.flt) (u_flt : F.has .flt) :
    (State.rollbackWith s src n).blank F = s.blank F := by
  unfold State.rollbackWith
  repeat' (first
      | with_reducible rfl
      | simp only [blank_mk, apply_ite (State.blank F), ite_self, or_true, true_or, h_flt, u_flt, notify_blank, setReact_blank]
      | split
      | (intro))

theorem exposeTenant_blank (s : State) (src : Nat) (e : ExpEntry) (h_flt : F.flt) (h_vault : F.vault) (h_link : F.link)
    (h_colo : F.colo) (h_sys : F.sys) (h_pulses : F.pulses) (h_freeCtr : F.freeCtr) (u_flt : F.has .flt) (u_clp : F.has .clp) :
    (State.exposeTenant s src e).blank F = s.blank F := by
  unfold State.exposeTenant
  repeat' (first
      | with_reducible rfl
      | simp only [apply_ite (State.blank F), ite_self, h_flt, h_vault, h_link, h_colo, h_sys, h_pulses, h_freeCtr, u_flt,
          u_clp, rollbackWith_blank, recallEpochs_blank, takeRid_blank]
      | split
      | (intro))

theorem execExpReport_blank (region : Nat) (gt0 : Nat) (gt1 : Nat) (x : Nat) (y : Nat) (cover : Nat) (ovf : Bool) (seq : Nat)
    (last : Bool) (cause : Nat) (entries : List Flit) (s : State) (h_flt : F.flt) (h_vault : F.vault) (h_link : F.link)
    (h_colo : F.colo) (h_sys : F.sys) (h_flue : F.flue) (h_pulses : F.pulses) (h_freeCtr : F.freeCtr) (u_flt : F.has .flt)
    (u_clp : F.has .clp) : Keeps F s (execExpReport region gt0 gt1 x y cover ovf seq last cause entries s) := by
  unfold execExpReport
  repeat' (first
      | with_reducible rfl
      | simp only [implies_true, blank_mk, or_true, true_or, keeps_next, h_flt, h_vault, h_link, h_colo, h_sys, h_flue,
          h_pulses, h_freeCtr, u_flt, u_clp, exposeTenant_blank, recv_blank]
      | (with_reducible refine (foldl_blank _ _ _ ?_).trans ?_)
      | split
      | (intro))

end Sys2Proof.Machine
end

