-- ==== Sys2Proof/Laws/FrameMetering.lean ====
section
/-! SUPPORT. For each operation of metering and the Ledger, and each command: which parts of the state it may change (every other part is
kept). -/

namespace Sys2Proof.Machine

open Sys2Proof

variable {F : Fields}

theorem rawFactor_blank (s : State) (k : KInterval) (e : ChannelEntry) (h_freeCtr : F.freeCtr) : (State.rawFactor s k e).2.blank
    F = s.blank F := by
  unfold State.rawFactor
  repeat' (first
      | with_reducible rfl
      | simp only [h_freeCtr, fresh_blank]
      | (with_reducible refine (foldl_blank _ _ _ ?_).trans ?_)
      | split
      | (intro))

theorem factors_blank (s : State) (k : KInterval) (a2 : List ChannelEntry) (h_freeCtr : F.freeCtr) : (State.factors s k
    a2).2.blank F = s.blank F := by
  induction a2 generalizing s with
  | nil =>
    unfold State.factors
    repeat' (first
        | with_reducible rfl
        | simp only [implies_true, blank_mk, apply_ite (State.blank F), ite_self, or_true, true_or, h_freeCtr, rawFactor_blank]
        | split
        | (intro))
  | cons x l ih =>
    unfold State.factors
    repeat' (first
        | with_reducible rfl
        | simp only [implies_true, blank_mk, apply_ite (State.blank F), ite_self, or_true, true_or, h_freeCtr, ih,
            rawFactor_blank]
        | split
        | (intro))

theorem kilnEnergy_blank (s : State) (k : KInterval) (aux : List ChannelEntry) (n : Nat) (h_tally : F.tally)
    (h_freeCtr : F.freeCtr) : (State.kilnEnergy s k aux n).blank F = s.blank F := by
  unfold State.kilnEnergy
  repeat' (first
      | with_reducible rfl
      | simp only [implies_true, blank_mk, apply_ite (State.blank F), ite_self, or_true, true_or, h_tally, h_freeCtr,
          fresh_blank]
      | (with_reducible refine (foldl_blank _ _ _ ?_).trans ?_)
      | (with_reducible refine (foldl_blank_fst _ _ _ ?_).trans ?_)
      | (with_reducible refine (foldl_blank_snd _ _ _ ?_).trans ?_)
      | (with_reducible refine (foldl_blank_trd _ _ _ ?_).trans ?_)
      | split
      | (rename_i hq; replace hq := congrArg (fun p => State.blank F p.1) hq; simp only [implies_true, blank_mk, apply_ite (State.blank F), ite_self, or_true, true_or, h_tally, h_freeCtr, fresh_blank] at hq; exact hq.symm)
      | (rename_i hq; replace hq := congrArg (fun p => State.blank F p.2) hq; simp only [implies_true, blank_mk, apply_ite (State.blank F), ite_self, or_true, true_or, h_tally, h_freeCtr, fresh_blank] at hq; exact hq.symm)
      | (rename_i hq; replace hq := congrArg (fun p => State.blank F p.2.2) hq; simp only [implies_true, blank_mk, apply_ite (State.blank F), ite_self, or_true, true_or, h_tally, h_freeCtr, fresh_blank] at hq; exact hq.symm)
      | (intro))

theorem anchorSweep_blank (s : State) (e : Nat) (flip : Bool) (h_hubs : F.hubs) (h_flt : F.flt) (h_fl : F.fl)
    (h_tally : F.tally) (h_vault : F.vault) (h_link : F.link) (h_colo : F.colo) (h_sys : F.sys) (h_bru : F.bru)
    (h_flue : F.flue) (h_pulses : F.pulses) (h_freeCtr : F.freeCtr) (u_bru : F.has .bru) (u_flt : F.has .flt)
    (u_ccd : F.has .ccd) (u_tly : F.has .tly) (u_folio : F.has .folio) (u_cat : F.has .cat) (u_clp : F.has .clp)
    (u_tenant : F.has .tenant) : (State.anchorSweep s e flip).blank F = s.blank F := by
  unfold State.anchorSweep
  repeat' (first
      | with_reducible rfl
      | simp only [blank_mk, apply_ite (State.blank F), ite_self, or_true, true_or, h_hubs, h_flt, h_fl, h_tally, h_vault,
          h_link, h_colo, h_sys, h_bru, h_flue, h_pulses, h_freeCtr, u_bru, u_flt, u_ccd, u_tly, u_folio, u_cat, u_clp,
          u_tenant, tryCommit_blank]
      | split
      | (intro))

theorem tryAnchor_blank (s : State) (e : Nat) (flip : Bool) (h_hubs : F.hubs) (h_flt : F.flt) (h_fl : F.fl) (h_tally : F.tally)
    (h_vault : F.vault) (h_link : F.link) (h_colo : F.colo) (h_sys : F.sys) (h_bru : F.bru) (h_flue : F.flue)
    (h_pulses : F.pulses) (h_freeCtr : F.freeCtr) (u_bru : F.has .bru) (u_flt : F.has .flt) (u_ccd : F.has .ccd)
    (u_sns : F.has .sns) (u_tly : F.has .tly) (u_folio : F.has .folio) (u_cat : F.has .cat) (u_clp : F.has .clp)
    (u_tenant : F.has .tenant) : (State.tryAnchor s e flip).blank F = s.blank F := by
  unfold State.tryAnchor
  repeat' (first
      | with_reducible rfl
      | simp only [blank_mk, apply_ite (State.blank F), ite_self, or_true, true_or, h_hubs, h_flt, h_fl, h_tally, h_vault,
          h_link, h_colo, h_sys, h_bru, h_flue, h_pulses, h_freeCtr, u_bru, u_flt, u_ccd, u_sns, u_tly, u_folio, u_cat, u_clp,
          u_tenant, factors_blank, anchorSweep_blank, kilnEnergy_blank, raise_blank, send_blank, unit_SNS_EVENT_FAR]
      | (with_reducible refine (foldl_blank _ _ _ ?_).trans ?_)
      | split
      | (intro))

theorem tryAnchors_blank (s : State) (flip : Bool) (l : List Nat) (h_hubs : F.hubs) (h_flt : F.flt) (h_fl : F.fl)
    (h_tally : F.tally) (h_vault : F.vault) (h_link : F.link) (h_colo : F.colo) (h_sys : F.sys) (h_bru : F.bru)
    (h_flue : F.flue) (h_pulses : F.pulses) (h_freeCtr : F.freeCtr) (u_bru : F.has .bru) (u_flt : F.has .flt)
    (u_ccd : F.has .ccd) (u_sns : F.has .sns) (u_tly : F.has .tly) (u_folio : F.has .folio) (u_cat : F.has .cat)
    (u_clp : F.has .clp) (u_tenant : F.has .tenant) : (State.tryAnchors s flip l).blank F = s.blank F := by
  unfold State.tryAnchors
  repeat' (first
      | with_reducible rfl
      | simp only [implies_true, h_hubs, h_flt, h_fl, h_tally, h_vault, h_link, h_colo, h_sys, h_bru, h_flue, h_pulses,
          h_freeCtr, u_bru, u_flt, u_ccd, u_sns, u_tly, u_folio, u_cat, u_clp, u_tenant, tryAnchor_blank]
      | (with_reducible refine (foldl_blank _ _ _ ?_).trans ?_)
      | split
      | (intro))

theorem convert_blank (s : State) (n : Nat) (vsh : Nat) (vbus : Nat) (tvsh : Nat) (tvbus : Nat) (h_flt : F.flt)
    (h_tally : F.tally) (h_freeCtr : F.freeCtr) (u_sns : F.has .sns) : (State.convert s n vsh vbus tvsh tvbus).2.blank F =
    s.blank F := by
  unfold State.convert
  repeat' (first
      | with_reducible rfl
      | simp only [blank_mk, apply_ite (State.blank F), ite_self, or_true, true_or, h_flt, h_tally, h_freeCtr, u_sns,
          kilnFault_blank, fresh_blank, set_blank, unit_SNS_EVENT_OPEN, unit_SNS_EVENT_OVER]
      | split
      | (intro))

theorem convertAll_blank (s : State) (codes : List (Nat × Nat × Nat × Nat × Nat)) (a2 : List Nat) (h_flt : F.flt)
    (h_tally : F.tally) (h_freeCtr : F.freeCtr) (u_sns : F.has .sns) : (State.convertAll s codes a2).2.blank F = s.blank F := by
  induction a2 generalizing s codes with
  | nil =>
    unfold State.convertAll
    repeat' (first
        | with_reducible rfl
        | simp only [implies_true, blank_mk, apply_ite (State.blank F), ite_self, or_true, true_or, h_flt, h_tally, h_freeCtr,
            u_sns, convert_blank]
        | split
        | (intro))
  | cons x l ih =>
    unfold State.convertAll
    repeat' (first
        | with_reducible rfl
        | simp only [implies_true, blank_mk, apply_ite (State.blank F), ite_self, or_true, true_or, h_flt, h_tally, h_freeCtr,
            u_sns, ih, convert_blank]
        | split
        | (intro))

theorem execSenseConversion_blank (codes : List (Nat × Nat × Nat × Nat × Nat)) (s : State) (h_hubs : F.hubs) (h_flt : F.flt)
    (h_fl : F.fl) (h_tally : F.tally) (h_vault : F.vault) (h_link : F.link) (h_colo : F.colo) (h_sys : F.sys) (h_bru : F.bru)
    (h_flue : F.flue) (h_pulses : F.pulses) (h_freeCtr : F.freeCtr) (u_bru : F.has .bru) (u_flt : F.has .flt)
    (u_ccd : F.has .ccd) (u_sns : F.has .sns) (u_tly : F.has .tly) (u_folio : F.has .folio) (u_cat : F.has .cat)
    (u_clp : F.has .clp) (u_tenant : F.has .tenant) : Keeps F s (execSenseConversion codes s) := by
  unfold execSenseConversion
  repeat' (first
      | with_reducible rfl
      | simp only [blank_mk, or_true, true_or, keeps_next, h_hubs, h_flt, h_fl, h_tally, h_vault, h_link, h_colo, h_sys, h_bru,
          h_flue, h_pulses, h_freeCtr, u_bru, u_flt, u_ccd, u_sns, u_tly, u_folio, u_cat, u_clp, u_tenant, tryAnchors_blank,
          convertAll_blank, syncSense_blank]
      | split
      | (intro))

theorem execIntervalEnd_blank (region : Nat) (s : State) (h_probes : F.probes) (h_hubs : F.hubs) (h_flue : F.flue)
    (h_freeCtr : F.freeCtr) : Keeps F s (execIntervalEnd region s) := by
  unfold execIntervalEnd
  repeat' (first
      | with_reducible rfl
      | simp only [implies_true, keeps_next, h_probes, h_hubs, h_flue, h_freeCtr, tryModel_blank, closeInterval_blank,
          sendActivity_blank]
      | (with_reducible refine (foldl_blank _ _ _ ?_).trans ?_)
      | split
      | (intro))

theorem execEnAct_blank (region : Nat) (tile : Nat) (tenant : Nat) (gt : Nat) (isPartial : Bool) (counts : List Nat) (s : State)
    (h_hubs : F.hubs) (h_flue : F.flue) (h_freeCtr : F.freeCtr) : Keeps F s (execEnAct region tile tenant gt isPartial counts s)
    := by
  unfold execEnAct
  repeat' (first
      | with_reducible rfl
      | simp only [keeps_next, h_hubs, h_flue, h_freeCtr, tryModel_blank, recv_blank, modEn_blank]
      | split
      | (intro))

theorem execEnMark_blank (region : Nat) (tile : Nat) (acc : Nat) (instant : Nat) (s : State) (h_probes : F.probes)
    (h_hubs : F.hubs) (h_flue : F.flue) (h_freeCtr : F.freeCtr) (u_hubCat : F.has .hubCat) : Keeps F s (execEnMark region tile
    acc instant s) := by
  unfold execEnMark
  repeat' (first
      | with_reducible rfl
      | simp only [implies_true, keeps_next, h_probes, h_hubs, h_flue, h_freeCtr, tryModel_blank, sendActivity_blank]
      | (with_reducible refine (atProbe_blank _ _ _ _ _ _ (by first | assumption | exact u_all _) (by first | assumption | exact u_all _) (by first | assumption | exact u_all _) ?_).trans ?_)
      | split
      | (intro))

theorem execEnModel_blank (region : Nat) (gt : Nat) (total : Nat) (mv : Nat) (s : State) (h_hubs : F.hubs) (h_flt : F.flt)
    (h_fl : F.fl) (h_tally : F.tally) (h_vault : F.vault) (h_link : F.link) (h_colo : F.colo) (h_sys : F.sys) (h_bru : F.bru)
    (h_flue : F.flue) (h_pulses : F.pulses) (h_freeCtr : F.freeCtr) (u_bru : F.has .bru) (u_flt : F.has .flt)
    (u_ccd : F.has .ccd) (u_sns : F.has .sns) (u_tly : F.has .tly) (u_folio : F.has .folio) (u_cat : F.has .cat)
    (u_clp : F.has .clp) (u_tenant : F.has .tenant) : Keeps F s (execEnModel region gt total mv s) := by
  unfold execEnModel
  repeat' (first
      | with_reducible rfl
      | simp only [blank_mk, or_true, true_or, keeps_next, h_hubs, h_flt, h_fl, h_tally, h_vault, h_link, h_colo, h_sys, h_bru,
          h_flue, h_pulses, h_freeCtr, u_bru, u_flt, u_ccd, u_sns, u_tly, u_folio, u_cat, u_clp, u_tenant, tryAnchor_blank,
          recv_blank]
      | split
      | (intro))

theorem execEnModelTimeout_blank (gt : Nat) (s : State) (h_hubs : F.hubs) (h_flt : F.flt) (h_fl : F.fl) (h_tally : F.tally)
    (h_vault : F.vault) (h_link : F.link) (h_colo : F.colo) (h_sys : F.sys) (h_bru : F.bru) (h_flue : F.flue)
    (h_pulses : F.pulses) (h_freeCtr : F.freeCtr) (u_bru : F.has .bru) (u_flt : F.has .flt) (u_ccd : F.has .ccd)
    (u_sns : F.has .sns) (u_tly : F.has .tly) (u_folio : F.has .folio) (u_cat : F.has .cat) (u_clp : F.has .clp)
    (u_tenant : F.has .tenant) : Keeps F s (execEnModelTimeout gt s) := by
  unfold execEnModelTimeout
  repeat' (first
      | with_reducible rfl
      | simp only [blank_mk, or_true, true_or, keeps_next, h_hubs, h_flt, h_fl, h_tally, h_vault, h_link, h_colo, h_sys, h_bru,
          h_flue, h_pulses, h_freeCtr, u_bru, u_flt, u_ccd, u_sns, u_tly, u_folio, u_cat, u_clp, u_tenant, tryAnchor_blank]
      | split
      | (intro))

theorem freeCounters_blank (s : State) (r : Nat) (h_hubs : F.hubs) : (State.freeCounters s r).blank F = s.blank F := by
  unfold State.freeCounters
  repeat' (first
      | with_reducible rfl
      | simp only [h_hubs, setHub_blank]
      | split
      | (intro))

theorem chargeHub_blank (s : State) (r : Nat) (t : Nat) (nj : Nat) (ua : Bool) (h_hubs : F.hubs) (h_tally : F.tally)
    (u_tly : F.has .tly) (u_hubEn : F.has .hubEn) : (State.chargeHub s r t nj ua).blank F = s.blank F := by
  unfold State.chargeHub
  repeat' (first
      | with_reducible rfl
      | simp only [apply_ite (State.blank F), ite_self, h_hubs, h_tally, u_tly, u_hubEn, setGap_blank, raise_blank, modEn_blank,
          unit_RH_EN_EVENT_ENOVF]
      | split
      | (intro))

theorem reportSweep_blank (s : State) (r : Nat) (number : Nat) (tenant : Option Nat) (h_hubs : F.hubs) (h_flue : F.flue) :
    (State.reportSweep s r number tenant).blank F = s.blank F := by
  unfold State.reportSweep
  repeat' (first
      | with_reducible rfl
      | simp only [apply_ite (State.blank F), ite_self, h_hubs, h_flue, sendAll_blank, modEn_blank, send_blank]
      | split
      | (intro))

theorem execEnAnchor_blank (region : Nat) (gt : Nat) (mask : Nat) (factors : List Nat) (s : State) (h_hubs : F.hubs)
    (h_tally : F.tally) (h_flue : F.flue) (u_tly : F.has .tly) (u_hubEn : F.has .hubEn) : Keeps F s (execEnAnchor region gt mask
    factors s) := by
  unfold execEnAnchor
  repeat' (first
      | with_reducible rfl
      | simp only [implies_true, apply_ite (State.blank F), ite_self, keeps_next, h_hubs, h_tally, h_flue, u_tly, u_hubEn,
          freeCounters_blank, reportSweep_blank, chargeHub_blank, raise_blank, modEn_blank, unit_RH_EN_EVENT_UNANCH]
      | (with_reducible refine (foldl_blank _ _ _ ?_).trans ?_)
      | split
      | (intro))

theorem execTlCommit_blank (region : Nat) (discard : Bool) (_code : Nat) (sweep : Nat) (_single : Bool) (_tenant : Nat)
    (s : State) (h_hubs : F.hubs) : Keeps F s (execTlCommit region discard _code sweep _single _tenant s) := by
  unfold execTlCommit
  repeat' (first
      | with_reducible rfl
      | simp only [keeps_next, h_hubs, freeCounters_blank, modEn_blank]
      | split
      | (intro))

theorem limit_blank (s : State) (r : Nat) (dir : Nat) (field : RegField) (event : RegField) (past : Bool) (h_hubs : F.hubs)
    (u_hubFlt : F.has .hubFlt) (v_field : F.has field.unit) (v_event : F.has event.unit) : (State.limit s r dir field event
    past).blank F = s.blank F := by
  unfold State.limit
  repeat' (first
      | with_reducible rfl
      | simp only [apply_ite (State.blank F), ite_self, h_hubs, u_hubFlt, v_field, v_event, set_blank, hubFault_blank,
          raise_blank]
      | split
      | (intro))

theorem modPw_blank (s : State) (r : Nat) (f : HubPw → HubPw) (h_hubs : F.hubs) : (State.modPw s r f).blank F = s.blank F := by
  unfold State.modPw
  repeat' (first
      | with_reducible rfl
      | simp only [h_hubs, modHub_blank]
      | split
      | (intro))

theorem execSupplyReading_blank (region : Nat) (mv : Nat) (s : State) (h_hubs : F.hubs) (h_pwr : F.pwr) (h_flue : F.flue)
    (u_hubFlt : F.has .hubFlt) (u_hubEn : F.has .hubEn) (u_hubPw : F.has .hubPw) : Keeps F s (execSupplyReading region mv s) :=
    by
  unfold execSupplyReading
  repeat' (first
      | with_reducible rfl
      | simp only [implies_true, blank_mk, apply_ite (State.blank F), ite_self, or_true, true_or, keeps_next, h_hubs, h_pwr,
          h_flue, u_hubFlt, u_hubEn, u_hubPw, limit_blank, set_blank, raise_blank, modPw_blank, sendAll_blank, modEn_blank,
          unit_RH_EN_VLOC_MV, unit_RH_PW_EVENT_NBMISS, unit_RH_PW_EVENT_VEXC, unit_RH_PW_STATUS_TRANS, unit_RH_PW_STATUS_VEXC]
      | (with_reducible refine (foldl_blank _ _ _ ?_).trans ?_)
      | split
      | (intro))

theorem execPwNb_blank (region : Nat) (from_ : Nat) (mv : Nat) (s : State) (h_hubs : F.hubs) (h_flue : F.flue)
    (u_hubFlt : F.has .hubFlt) (u_hubPw : F.has .hubPw) : Keeps F s (execPwNb region from_ mv s) := by
  unfold execPwNb
  repeat' (first
      | with_reducible rfl
      | simp only [keeps_next, h_hubs, h_flue, u_hubFlt, u_hubPw, limit_blank, modPw_blank, recv_blank, unit_RH_PW_EVENT_VEXC,
          unit_RH_PW_STATUS_VEXC]
      | split
      | (intro))

theorem execThNb_blank (region : Nat) (from_ : Nat) (t : Nat) (s : State) (h_hubs : F.hubs) (h_flue : F.flue)
    (u_hubFlt : F.has .hubFlt) (u_hubPw : F.has .hubPw) : Keeps F s (execThNb region from_ t s) := by
  unfold execThNb
  repeat' (first
      | with_reducible rfl
      | simp only [keeps_next, h_hubs, h_flue, u_hubFlt, u_hubPw, limit_blank, modPw_blank, recv_blank, unit_RH_PW_EVENT_TEXC,
          unit_RH_PW_STATUS_TEXC]
      | split
      | (intro))

theorem execBoundaryRepeat_blank (region : Nat) (dir : Nat) (s : State) (h_hubs : F.hubs) (u_hubFlt : F.has .hubFlt) : Keeps F s
    (execBoundaryRepeat region dir s) := by
  unfold execBoundaryRepeat
  repeat' (first
      | with_reducible rfl
      | simp only [apply_ite (State.blank F), ite_self, keeps_next, h_hubs, u_hubFlt, hubFault_blank]
      | split
      | (intro))

theorem syncStages_setStage_blank (s : State) (r : Nat) (d : Nat) (in_ : Bool) (u_hubPw : F.has .hubPw) :
    (State.syncStages.setStage s r d in_).blank F = s.blank F := by
  unfold State.syncStages.setStage
  repeat' (first
      | with_reducible rfl
      | simp only [apply_ite (State.blank F), ite_self, u_hubPw, set_blank, raise_blank, unit_RH_PW_EVENT_STAGE,
          unit_RH_PW_STATUS_STAGE]
      | split
      | (intro))

theorem syncStages_blank (s : State) (r : Nat) (u_hubPw : F.has .hubPw) : (State.syncStages s r).blank F = s.blank F := by
  unfold State.syncStages
  repeat' (first
      | with_reducible rfl
      | simp only [u_hubPw, syncStages_setStage_blank]
      | (with_reducible refine (foldl_blank _ _ _ ?_).trans ?_)
      | split
      | (intro))

theorem bandChange_blank (s : State) (r : Nat) (old : Nat) (new : Nat) (h_probes : F.probes) (h_hubs : F.hubs) (h_flue : F.flue)
    (h_pulses : F.pulses) (h_freeCtr : F.freeCtr) (u_hubFlt : F.has .hubFlt) (u_hubEn : F.has .hubEn) (u_hubPw : F.has .hubPw)
    (u_probe : F.has .probe) : (State.bandChange s r old new).blank F = s.blank F := by
  unfold State.bandChange
  repeat' (first
      | with_reducible rfl
      | simp only [implies_true, apply_ite (State.blank F), ite_self, h_probes, h_hubs, h_flue, h_pulses, h_freeCtr, u_hubFlt,
          u_hubEn, u_hubPw, u_probe, syncStages_blank, set_blank, hubFault_blank, raise_blank, bandInput_blank, sendAll_blank,
          modHub_blank, unit_RH_EN_EVENT_B4, unit_RH_TH_STATUS_BAND]
      | (with_reducible refine (foldl_blank _ _ _ ?_).trans ?_)
      | split
      | (intro))

theorem execThermalStep_blank (region : Nat) (energy : Nat) (s : State) (h_probes : F.probes) (h_hubs : F.hubs)
    (h_flue : F.flue) (h_pulses : F.pulses) (h_freeCtr : F.freeCtr) (u_hubFlt : F.has .hubFlt) (u_hubEn : F.has .hubEn)
    (u_hubPw : F.has .hubPw) (u_probe : F.has .probe) : Keeps F s (execThermalStep region energy s) := by
  unfold execThermalStep
  repeat' (first
      | with_reducible rfl
      | simp only [implies_true, apply_ite (State.blank F), ite_self, keeps_next, h_probes, h_hubs, h_flue, h_pulses, h_freeCtr,
          u_hubFlt, u_hubEn, u_hubPw, u_probe, limit_blank, fresh_blank, bandChange_blank, set_blank, raise_blank, modPw_blank,
          sendAll_blank, modEn_blank, unit_RH_EN_EVENT_NBMISS, unit_RH_PW_EVENT_TEXC, unit_RH_PW_STATUS_TEXC,
          unit_RH_TH_STATUS_THR]
      | (with_reducible refine (foldl_blank _ _ _ ?_).trans ?_)
      | split
      | (intro))

theorem execBhRerun_blank (region : Nat) (tile : Nat) (acc : Nat) (s : State) (h_probes : F.probes) (h_flue : F.flue)
    (u_hubCat : F.has .hubCat) : Keeps F s (execBhRerun region tile acc s) := by
  unfold execBhRerun
  repeat' (first
      | with_reducible rfl
      | simp only [implies_true, keeps_next, h_probes, modProbe_blank]
      | (with_reducible refine (atProbe_blank _ _ _ _ _ _ (by first | assumption | exact u_all _) (by first | assumption | exact u_all _) (by first | assumption | exact u_all _) ?_).trans ?_)
      | split
      | (intro))

theorem execBandheldRetryPulse_blank (region : Nat) (tile : Nat) (s : State) (h_probes : F.probes) (h_pulses : F.pulses) : Keeps
    F s (execBandheldRetryPulse region tile s) := by
  unfold execBandheldRetryPulse
  repeat' (first
      | with_reducible rfl
      | simp only [apply_ite (State.blank F), ite_self, keeps_next, h_probes, h_pulses, setProbe_blank, emit_blank]
      | split
      | (intro))

theorem execSweepPeriod_blank (s : State) (h_hubs : F.hubs) (h_flt : F.flt) (h_fl : F.fl) (h_tally : F.tally) (h_link : F.link)
    (h_colo : F.colo) (h_bru : F.bru) (h_flue : F.flue) (h_pulses : F.pulses) (h_freeCtr : F.freeCtr) (u_bru : F.has .bru)
    (u_flt : F.has .flt) (u_ccd : F.has .ccd) (u_tly : F.has .tly) (u_folio : F.has .folio) (u_cat : F.has .cat)
    (u_clp : F.has .clp) (u_tenant : F.has .tenant) : Keeps F s (execSweepPeriod s) := by
  unfold execSweepPeriod
  repeat' (first
      | with_reducible rfl
      | simp only [apply_ite (State.blank F), ite_self, keeps_next, h_hubs, h_flt, h_fl, h_tally, h_link, h_colo, h_bru, h_flue,
          h_pulses, h_freeCtr, u_bru, u_flt, u_ccd, u_tly, u_folio, u_cat, u_clp, u_tenant, noteSweep_blank, kickSweeps_blank]
      | split
      | (intro))

theorem execTlReport_blank (region : Nat) (part : Nat) (last : Bool) (single : Bool) (sweep : Nat)
    (entries : List (Nat × Bool × Nat)) (flip : Bool) (s : State) (h_hubs : F.hubs) (h_flt : F.flt) (h_fl : F.fl)
    (h_tally : F.tally) (h_vault : F.vault) (h_link : F.link) (h_colo : F.colo) (h_sys : F.sys) (h_bru : F.bru)
    (h_flue : F.flue) (h_pulses : F.pulses) (h_freeCtr : F.freeCtr) (u_bru : F.has .bru) (u_flt : F.has .flt)
    (u_ccd : F.has .ccd) (u_tly : F.has .tly) (u_folio : F.has .folio) (u_cat : F.has .cat) (u_clp : F.has .clp)
    (u_tenant : F.has .tenant) : Keeps F s (execTlReport region part last single sweep entries flip s) := by
  unfold execTlReport
  repeat' (first
      | with_reducible rfl
      | simp only [blank_mk, or_true, true_or, keeps_next, h_hubs, h_flt, h_fl, h_tally, h_vault, h_link, h_colo, h_sys, h_bru,
          h_flue, h_pulses, h_freeCtr, u_bru, u_flt, u_ccd, u_tly, u_folio, u_cat, u_clp, u_tenant, tryCommit_blank, recv_blank]
      | (with_reducible refine (foldl_blank _ _ _ ?_).trans ?_)
      | split
      | (intro))

theorem execSweepTimeout_blank (s : State) (h_hubs : F.hubs) (h_flt : F.flt) (h_fl : F.fl) (h_tally : F.tally) (h_link : F.link)
    (h_colo : F.colo) (h_bru : F.bru) (h_flue : F.flue) (h_pulses : F.pulses) (h_freeCtr : F.freeCtr) (u_bru : F.has .bru)
    (u_flt : F.has .flt) (u_ccd : F.has .ccd) (u_tly : F.has .tly) (u_folio : F.has .folio) (u_cat : F.has .cat)
    (u_clp : F.has .clp) (u_tenant : F.has .tenant) : Keeps F s (execSweepTimeout s) := by
  unfold execSweepTimeout
  repeat' (first
      | with_reducible rfl
      | simp only [apply_ite (State.blank F), ite_self, keeps_next, h_hubs, h_flt, h_fl, h_tally, h_link, h_colo, h_bru, h_flue,
          h_pulses, h_freeCtr, u_bru, u_flt, u_ccd, u_tly, u_folio, u_cat, u_clp, u_tenant, discardSweep_blank,
          kickSweeps_blank]
      | split
      | (intro))

theorem statementWrite_blank (s : State) (tenant : Nat) (reqid : Nat) (h_hubs : F.hubs) (h_flt : F.flt) (h_fl : F.fl)
    (h_tally : F.tally) (h_link : F.link) (h_colo : F.colo) (h_bru : F.bru) (h_flue : F.flue) (h_pulses : F.pulses)
    (h_freeCtr : F.freeCtr) (u_bru : F.has .bru) (u_flt : F.has .flt) (u_ccd : F.has .ccd) (u_tly : F.has .tly)
    (u_folio : F.has .folio) (u_cat : F.has .cat) (u_clp : F.has .clp) (u_tenant : F.has .tenant) : (State.statementWrite s
    tenant reqid).blank F = s.blank F := by
  unfold State.statementWrite
  repeat' (first
      | with_reducible rfl
      | simp only [blank_mk, apply_ite (State.blank F), ite_self, or_true, true_or, h_hubs, h_flt, h_fl, h_tally, h_link,
          h_colo, h_bru, h_flue, h_pulses, h_freeCtr, u_bru, u_flt, u_ccd, u_tly, u_folio, u_cat, u_clp, u_tenant, set_blank,
          noteSweep_blank, raise_blank, kickSweeps_blank, setAll_blank, List.all_cons, List.all_nil, Bool.and_self,
          unit_TEN_TLY_REQ_REQID, unit_TEN_TLY_STATUS_BUSY, unit_TEN_TLY_STATUS_DROPPED, unit_TEN_TLY_STATUS_RESULT,
          unit_TLY_EVENT_QFULL]
      | split
      | (intro))

theorem execStatementRequest_blank (tenant : Nat) (reqid : Nat) (ten : Nat) (tag : Nat) (s : State) (h_hubs : F.hubs)
    (h_flt : F.flt) (h_fl : F.fl) (h_tally : F.tally) (h_link : F.link) (h_colo : F.colo) (h_bru : F.bru) (h_flue : F.flue)
    (h_pulses : F.pulses) (h_freeCtr : F.freeCtr) (u_ghp : F.has .ghp) (u_bru : F.has .bru) (u_flt : F.has .flt)
    (u_ccd : F.has .ccd) (u_tly : F.has .tly) (u_folio : F.has .folio) (u_cat : F.has .cat) (u_clp : F.has .clp)
    (u_tenant : F.has .tenant) : Keeps F s (execStatementRequest tenant reqid ten tag s) := by
  unfold execStatementRequest
  repeat' (first
      | with_reducible rfl
      | simp only [implies_true, keeps_next, h_hubs, h_flt, h_fl, h_tally, h_link, h_colo, h_bru, h_flue, h_pulses, h_freeCtr,
          u_bru, u_flt, u_ccd, u_tly, u_folio, u_cat, u_clp, u_tenant, statementWrite_blank]
      | (with_reducible refine (hostWrite_blank _ _ _ _ _ _ _ (by first | assumption | exact u_all _) (by first | assumption | exact u_all _) ?_).trans ?_)
      | split
      | (intro))

theorem execBatchTimeout_blank (s : State) (h_tally : F.tally) (h_vault : F.vault) (u_tly : F.has .tly) : Keeps F s
    (execBatchTimeout s) := by
  unfold execBatchTimeout
  repeat' (first
      | with_reducible rfl
      | simp only [keeps_next, h_tally, h_vault, u_tly, closeBatch_blank]
      | split
      | (intro))

theorem execBatchClose_blank (ten : Nat) (tag : Nat) (s : State) (h_tally : F.tally) (h_vault : F.vault) (h_pulses : F.pulses)
    (u_ghp : F.has .ghp) (u_tly : F.has .tly) : Keeps F s (execBatchClose ten tag s) := by
  unfold execBatchClose
  repeat' (first
      | with_reducible rfl
      | simp only [implies_true, keeps_next, h_tally, h_vault, u_tly, closeBatch_blank]
      | (with_reducible refine (hostWrite_blank _ _ _ _ _ _ _ (by first | assumption | exact u_all _) (by first | assumption | exact u_all _) ?_).trans ?_)
      | split
      | (intro))

theorem execTlyRtailWrite_blank (offset : Nat) (ten : Nat) (tag : Nat) (s : State) (h_tally : F.tally) (h_vault : F.vault)
    (h_sys : F.sys) (h_pulses : F.pulses) (u_ghp : F.has .ghp) (u_tly : F.has .tly) : Keeps F s (execTlyRtailWrite offset ten
    tag s) := by
  unfold execTlyRtailWrite
  repeat' (first
      | with_reducible rfl
      | simp only [implies_true, keeps_next, h_tally, h_vault, h_sys, u_tly, pumpRing_blank, set_blank, unit_TLY_RTAIL_OFFSET]
      | (with_reducible refine (hostWrite_blank _ _ _ _ _ _ _ (by first | assumption | exact u_all _) (by first | assumption | exact u_all _) ?_).trans ?_)
      | split
      | (intro))

theorem sealPage_blank (s : State) (k : Nat) (early : Bool) (recovered : Bool) (flserr : Bool) (h_vault : F.vault)
    (h_freeCtr : F.freeCtr) (u_ldg : F.has .ldg) : (State.sealPage s k early recovered flserr).2.blank F = s.blank F := by
  unfold State.sealPage
  repeat' (first
      | with_reducible rfl
      | simp only [h_vault, h_freeCtr, u_ldg, set_blank, raise_blank, tagOf_blank, unit_LDG_EVENT_UNSEALED,
          unit_LDG_STATUS_UNSEALED]
      | split
      | (intro))

theorem programTrailer_blank (s : State) (t : Trailer) (h_ldg : F.ldg) (h_pulses : F.pulses) : (State.programTrailer s t).blank
    F = s.blank F := by
  unfold State.programTrailer
  repeat' (first
      | with_reducible rfl
      | simp only [blank_mk, or_true, true_or, h_ldg, h_pulses, emit_blank]
      | split
      | (intro))

theorem finishClose_blank (s : State) (h_ldg : F.ldg) (h_vault : F.vault) (h_pulses : F.pulses) (h_freeCtr : F.freeCtr)
    (u_ldg : F.has .ldg) : (State.finishClose s).blank F = s.blank F := by
  unfold State.finishClose
  repeat' (first
      | with_reducible rfl
      | simp only [apply_ite (State.blank F), ite_self, h_ldg, h_vault, h_pulses, h_freeCtr, u_ldg, programTrailer_blank,
          sealPage_blank]
      | split
      | (intro))

theorem askSeal_blank (s : State) (h_ldg : F.ldg) (h_vault : F.vault) (h_pulses : F.pulses) (h_freeCtr : F.freeCtr)
    (u_ldg : F.has .ldg) : (State.askSeal s).blank F = s.blank F := by
  unfold State.askSeal
  repeat' (first
      | with_reducible rfl
      | simp only [apply_ite (State.blank F), ite_self, h_ldg, h_vault, h_pulses, h_freeCtr, u_ldg, vaultAsk_blank,
          finishClose_blank]
      | split
      | (intro))

theorem closePage_blank (s : State) (early : Bool) (flserr : Bool) (h_ldg : F.ldg) (h_vault : F.vault) (h_pulses : F.pulses)
    (h_freeCtr : F.freeCtr) (u_ldg : F.has .ldg) : (State.closePage s early flserr).blank F = s.blank F := by
  unfold State.closePage
  repeat' (first
      | with_reducible rfl
      | simp only [blank_mk, or_true, true_or, h_ldg, h_vault, h_pulses, h_freeCtr, u_ldg, askSeal_blank]
      | split
      | (intro))

theorem startErase_blank (s : State) (b : Nat) (clear : Bool) (h_ldg : F.ldg) (h_pulses : F.pulses) (u_ldg : F.has .ldg) :
    (State.startErase s b clear).blank F = s.blank F := by
  unfold State.startErase
  repeat' (first
      | with_reducible rfl
      | simp only [blank_mk, apply_ite (State.blank F), ite_self, or_true, true_or, h_ldg, h_pulses, u_ldg, recordOf_blank,
          raise_blank, emit_blank, unit_LDG_EVENT_WRAP]
      | (with_reducible refine (foldl_blank _ _ _ ?_).trans ?_)
      | split
      | (intro))

theorem pumpLedger_blank (s : State) (h_ldg : F.ldg) (h_vault : F.vault) (h_pulses : F.pulses) (h_freeCtr : F.freeCtr)
    (u_ldg : F.has .ldg) : (State.pumpLedger s).blank F = s.blank F := by
  unfold State.pumpLedger
  repeat' (first
      | with_reducible rfl
      | simp only [blank_mk, apply_ite (State.blank F), ite_self, or_true, true_or, h_ldg, h_vault, h_pulses, h_freeCtr, u_ldg,
          set_blank, startErase_blank, closePage_blank, emit_blank, unit_LDG_CTRL_FLUSH]
      | split
      | (intro))

theorem flushLedger_blank (s : State) (h_ldg : F.ldg) (h_vault : F.vault) (h_pulses : F.pulses) (h_freeCtr : F.freeCtr)
    (u_ldg : F.has .ldg) : (State.flushLedger s).blank F = s.blank F := by
  unfold State.flushLedger
  repeat' (first
      | with_reducible rfl
      | simp only [blank_mk, or_true, true_or, h_ldg, h_vault, h_pulses, h_freeCtr, u_ldg, pumpLedger_blank, raise_blank,
          unit_LDG_CTRL_FLUSH]
      | split
      | (intro))

theorem flashError_blank (s : State) (addr : Nat) (h_flt : F.flt) (u_ldg : F.has .ldg) : (State.flashError s addr).blank F =
    s.blank F := by
  unfold State.flashError
  repeat' (first
      | with_reducible rfl
      | simp only [h_flt, u_ldg, kilnFault_blank, raise_blank, unit_LDG_EVENT_FLSERR]
      | split
      | (intro))

theorem pageDone_blank (s : State) (t : Trailer) (h_ldg : F.ldg) (h_pulses : F.pulses) : (State.pageDone s t).blank F = s.blank
    F := by
  unfold State.pageDone
  repeat' (first
      | with_reducible rfl
      | simp only [blank_mk, or_true, true_or, h_ldg, h_pulses, event_blank]
      | split
      | (intro))

theorem closeRecovered_blank (s : State) (a1 : Nat) (h_ldg : F.ldg) (h_vault : F.vault) (h_pulses : F.pulses)
    (h_freeCtr : F.freeCtr) (u_ldg : F.has .ldg) : (State.closeRecovered s a1).2.blank F = s.blank F := by
  induction a1 generalizing s with
  | zero =>
    unfold State.closeRecovered
    repeat' (first
        | with_reducible rfl
        | simp only [implies_true, blank_mk, apply_ite (State.blank F), ite_self, or_true, true_or, h_ldg, h_vault, h_pulses,
            h_freeCtr, u_ldg, pageDone_blank, raise_blank, sealPage_blank, emit_blank, unit_LDG_EVENT_RECOVERED]
        | split
        | (intro))
  | succ n ih =>
    unfold State.closeRecovered
    repeat' (first
        | with_reducible rfl
        | simp only [implies_true, blank_mk, apply_ite (State.blank F), ite_self, or_true, true_or, h_ldg, h_vault, h_pulses,
            h_freeCtr, u_ldg, ih, pageDone_blank, raise_blank, sealPage_blank, emit_blank, unit_LDG_EVENT_RECOVERED]
        | split
        | (intro))

theorem coldRestore_blank (s : State) (h_ldg : F.ldg) (h_pwr : F.pwr) (u_ldg : F.has .ldg) : (State.coldRestore s).blank F =
    s.blank F := by
  unfold State.coldRestore
  repeat' (first
      | with_reducible rfl
      | simp only [blank_mk, or_true, true_or, h_ldg, h_pwr, u_ldg, bankedRecord_blank]
      | split
      | (intro))

theorem recoverLedger_blank (s : State) (h_ldg : F.ldg) (h_vault : F.vault) (h_pulses : F.pulses) (h_freeCtr : F.freeCtr)
    (u_ldg : F.has .ldg) : (State.recoverLedger s).blank F = s.blank F := by
  unfold State.recoverLedger
  repeat' (first
      | with_reducible rfl
      | simp only [blank_mk, apply_ite (State.blank F), ite_self, or_true, true_or, h_ldg, h_vault, h_pulses, h_freeCtr, u_ldg,
          recordOf_blank, pumpLedger_blank, closeRecovered_blank]
      | split
      | (intro))

theorem execLedgerRefill_blank (region : Nat) (s : State) (h_hubs : F.hubs) (h_flue : F.flue) : Keeps F s (execLedgerRefill
    region s) := by
  unfold execLedgerRefill
  repeat' (first
      | with_reducible rfl
      | simp only [keeps_next, h_hubs, h_flue, setHub_blank, sendAll_blank]
      | split
      | (intro))

theorem execLgSupp_blank (region : Nat) (kind : Nat) (count : Nat) (src : Nat) (gt : Nat) (s : State) (h_ldg : F.ldg)
    (h_flue : F.flue) (u_ldg : F.has .ldg) : Keeps F s (execLgSupp region kind count src gt s) := by
  unfold execLgSupp
  repeat' (first
      | with_reducible rfl
      | simp only [keeps_next, h_ldg, h_flue, u_ldg, recordOf_blank, recv_blank]
      | split
      | (intro))

theorem execFoldTimeout_blank (s : State) (h_ldg : F.ldg) (h_vault : F.vault) (h_pulses : F.pulses) (h_freeCtr : F.freeCtr)
    (u_ldg : F.has .ldg) : Keeps F s (execFoldTimeout s) := by
  unfold execFoldTimeout
  repeat' (first
      | with_reducible rfl
      | simp only [blank_mk, or_true, true_or, keeps_next, h_ldg, h_vault, h_pulses, h_freeCtr, u_ldg, pumpLedger_blank]
      | split
      | (intro))

theorem execFlashProgramDone_blank (ok : Bool) (s : State) (h_flt : F.flt) (h_ldg : F.ldg) (h_vault : F.vault)
    (h_pulses : F.pulses) (h_freeCtr : F.freeCtr) (u_ldg : F.has .ldg) : Keeps F s (execFlashProgramDone ok s) := by
  unfold execFlashProgramDone
  repeat' (first
      | with_reducible rfl
      | simp only [blank_mk, or_true, true_or, keeps_next, h_flt, h_ldg, h_vault, h_pulses, h_freeCtr, u_ldg, pageDone_blank,
          lostRecord_blank, pumpLedger_blank, closePage_blank, flashError_blank, emit_blank]
      | split
      | (intro))

theorem execFlashEraseDone_blank (ok : Bool) (s : State) (h_flt : F.flt) (h_ldg : F.ldg) (h_vault : F.vault)
    (h_pulses : F.pulses) (h_freeCtr : F.freeCtr) (u_ldg : F.has .ldg) : Keeps F s (execFlashEraseDone ok s) := by
  unfold execFlashEraseDone
  repeat' (first
      | with_reducible rfl
      | simp only [blank_mk, or_true, true_or, keeps_next, h_flt, h_ldg, h_vault, h_pulses, h_freeCtr, u_ldg, pumpLedger_blank,
          flashError_blank]
      | split
      | (intro))

theorem execLedgerFlush_blank (ten : Nat) (tag : Nat) (s : State) (h_ldg : F.ldg) (h_vault : F.vault) (h_pulses : F.pulses)
    (h_freeCtr : F.freeCtr) (u_ghp : F.has .ghp) (u_ldg : F.has .ldg) : Keeps F s (execLedgerFlush ten tag s) := by
  unfold execLedgerFlush
  repeat' (first
      | with_reducible rfl
      | simp only [implies_true, keeps_next, h_ldg, h_vault, h_pulses, h_freeCtr, u_ldg, flushLedger_blank]
      | (with_reducible refine (hostWrite_blank _ _ _ _ _ _ _ (by first | assumption | exact u_all _) (by first | assumption | exact u_all _) ?_).trans ?_)
      | split
      | (intro))

theorem readPageWrite_blank (s : State) (page : Nat) (verify : Bool) (h_ldg : F.ldg) (u_ldg : F.has .ldg) : (State.readPageWrite
    s page verify).blank F = s.blank F := by
  unfold State.readPageWrite
  repeat' (first
      | with_reducible rfl
      | simp only [blank_mk, apply_ite (State.blank F), ite_self, or_true, true_or, h_ldg, u_ldg, raise_blank, setAll_blank,
          List.all_cons, List.all_nil, Bool.and_self, unit_LDG_RDPAGE_PAGENUM, unit_LDG_RDPAGE_VERIFY, unit_LDG_RDST_BUSY,
          unit_LDG_RDST_DROPPED]
      | split
      | (intro))

theorem execLedgerReadPage_blank (page : Nat) (verify : Bool) (ten : Nat) (tag : Nat) (s : State) (h_ldg : F.ldg)
    (h_pulses : F.pulses) (u_ghp : F.has .ghp) (u_ldg : F.has .ldg) : Keeps F s (execLedgerReadPage page verify ten tag s) := by
  unfold execLedgerReadPage
  repeat' (first
      | with_reducible rfl
      | simp only [implies_true, keeps_next, h_ldg, u_ldg, readPageWrite_blank]
      | (with_reducible refine (hostWrite_blank _ _ _ _ _ _ _ (by first | assumption | exact u_all _) (by first | assumption | exact u_all _) ?_).trans ?_)
      | split
      | (intro))

theorem sealCheck_blank (s : State) (p : Page) (t : Trailer) (h_vault : F.vault) (h_freeCtr : F.freeCtr) (u_ldg : F.has .ldg) :
    (State.sealCheck s p t).2.blank F = s.blank F := by
  unfold State.sealCheck
  repeat' (first
      | with_reducible rfl
      | simp only [h_vault, h_freeCtr, u_ldg, raise_blank, tagOf_blank, unit_LDG_EVENT_VERIFYFAIL]
      | split
      | (intro))

theorem execLedgerReadDone_blank (error : Bool) (s : State) (h_ldg : F.ldg) (h_vault : F.vault) (h_pageBuf : F.pageBuf)
    (h_freeCtr : F.freeCtr) (u_ldg : F.has .ldg) : Keeps F s (execLedgerReadDone error s) := by
  unfold execLedgerReadDone
  repeat' (first
      | with_reducible rfl
      | simp only [blank_mk, or_true, true_or, keeps_next, h_ldg, h_vault, h_pageBuf, h_freeCtr, u_ldg, set_blank, setAll_blank,
          List.all_cons, List.all_nil, Bool.and_self, sealCheck_blank, unit_LDG_RDST_BUSY, unit_LDG_RDST_RESULT,
          unit_LDG_RDST_SEALCHK]
      | split
      | (intro))

theorem appendWrite_blank (s : State) (code : Nat) (h_ldg : F.ldg) (u_ldg : F.has .ldg) : (State.appendWrite s code).blank F =
    s.blank F := by
  unfold State.appendWrite
  repeat' (first
      | with_reducible rfl
      | simp only [apply_ite (State.blank F), ite_self, h_ldg, u_ldg, set_blank, record_blank, raise_blank,
          unit_LDG_APPEND_CODE, unit_LDG_EVENT_APPENDBAD]
      | split
      | (intro))

theorem execLedgerAppend_blank (code : Nat) (ten : Nat) (tag : Nat) (s : State) (h_ldg : F.ldg) (h_pulses : F.pulses)
    (u_ghp : F.has .ghp) (u_ldg : F.has .ldg) : Keeps F s (execLedgerAppend code ten tag s) := by
  unfold execLedgerAppend
  repeat' (first
      | with_reducible rfl
      | simp only [implies_true, keeps_next, h_ldg, u_ldg, appendWrite_blank]
      | (with_reducible refine (hostWrite_blank _ _ _ _ _ _ _ (by first | assumption | exact u_all _) (by first | assumption | exact u_all _) ?_).trans ?_)
      | split
      | (intro))

theorem execLedgerRecovery_blank (sizeMib : Nat) (meets : Bool) (s : State) (h_probes : F.probes) (h_flt : F.flt)
    (h_ldg : F.ldg) (h_vault : F.vault) (h_link : F.link) (h_bru : F.bru) (h_pwr : F.pwr) (h_flue : F.flue)
    (h_pulses : F.pulses) (h_freeCtr : F.freeCtr) (u_bru : F.has .bru) (u_flt : F.has .flt) (u_ldg : F.has .ldg)
    (u_probe : F.has .probe) : Keeps F s (execLedgerRecovery sizeMib meets s) := by
  unfold execLedgerRecovery
  repeat' (first
      | with_reducible rfl
      | simp only [blank_mk, apply_ite (State.blank F), ite_self, or_true, true_or, keeps_next, h_probes, h_flt, h_ldg, h_vault,
          h_link, h_bru, h_pwr, h_flue, h_pulses, h_freeCtr, u_bru, u_flt, u_ldg, u_probe, recoverLedger_blank, qualCheck_blank,
          coldRestore_blank, setAll_blank, List.all_cons, List.all_nil, Bool.and_self, bruRefuse_blank, unit_LDG_FLASH_OK,
          unit_LDG_FLASH_SIZEMIB]
      | split
      | (intro))

end Sys2Proof.Machine
end

