-- ==== Sys2Proof/Laws/FrameDebug.lean ====
section
/-! SUPPORT. For each operation of debug and the Stacker, and each command: which parts of the state it may change (every other part is
kept). -/

namespace Sys2Proof.Machine

open Sys2Proof

variable {F : Fields}

theorem execGstopWrite_blank (ten : Nat) (tag : Nat) (s : State) (h_ldg : F.ldg) (h_dbg : F.dbg) (h_pulses : F.pulses)
    (u_ghp : F.has .ghp) (u_ldg : F.has .ldg) (u_dbg : F.has .dbg) : Keeps F s (execGstopWrite ten tag s) := by
  unfold execGstopWrite
  repeat' (first
      | with_reducible rfl
      | simp only [implies_true, keeps_next, h_ldg, h_dbg, h_pulses, u_ldg, u_dbg, stopRaise_blank]
      | (with_reducible refine (hostWrite_blank _ _ _ _ _ _ _ (by first | assumption | exact u_all _) (by first | assumption | exact u_all _) ?_).trans ?_)
      | split
      | (intro))

theorem execGstopRelease_blank (ten : Nat) (tag : Nat) (s : State) (h_hubs : F.hubs) (h_master : F.master) (h_flt : F.flt)
    (h_fl : F.fl) (h_ldg : F.ldg) (h_tally : F.tally) (h_link : F.link) (h_colo : F.colo) (h_dbg : F.dbg) (h_bru : F.bru)
    (h_flue : F.flue) (h_pulses : F.pulses) (h_freeCtr : F.freeCtr) (u_ghp : F.has .ghp) (u_bru : F.has .bru)
    (u_flt : F.has .flt) (u_ccd : F.has .ccd) (u_ldg : F.has .ldg) (u_dbg : F.has .dbg) (u_folio : F.has .folio)
    (u_cat : F.has .cat) (u_clp : F.has .clp) (u_tenant : F.has .tenant) : Keeps F s (execGstopRelease ten tag s) := by
  unfold execGstopRelease
  repeat' (first
      | with_reducible rfl
      | simp only [implies_true, keeps_next, h_hubs, h_master, h_flt, h_fl, h_ldg, h_tally, h_link, h_colo, h_dbg, h_bru,
          h_flue, h_pulses, h_freeCtr, u_bru, u_flt, u_ccd, u_ldg, u_dbg, u_folio, u_cat, u_clp, u_tenant, stopRelease_blank]
      | (with_reducible refine (hostWrite_blank _ _ _ _ _ _ _ (by first | assumption | exact u_all _) (by first | assumption | exact u_all _) ?_).trans ?_)
      | split
      | (intro))

theorem execStopInChange_blank (level : Bool) (s : State) (h_hubs : F.hubs) (h_master : F.master) (h_flt : F.flt) (h_fl : F.fl)
    (h_ldg : F.ldg) (h_tally : F.tally) (h_link : F.link) (h_colo : F.colo) (h_dbg : F.dbg) (h_bru : F.bru) (h_flue : F.flue)
    (h_pulses : F.pulses) (h_freeCtr : F.freeCtr) (u_bru : F.has .bru) (u_flt : F.has .flt) (u_ccd : F.has .ccd)
    (u_ldg : F.has .ldg) (u_dbg : F.has .dbg) (u_folio : F.has .folio) (u_cat : F.has .cat) (u_clp : F.has .clp)
    (u_tenant : F.has .tenant) : Keeps F s (execStopInChange level s) := by
  unfold execStopInChange
  repeat' (first
      | with_reducible rfl
      | simp only [keeps_next, h_hubs, h_master, h_flt, h_fl, h_ldg, h_tally, h_link, h_colo, h_dbg, h_bru, h_flue, h_pulses,
          h_freeCtr, u_bru, u_flt, u_ccd, u_ldg, u_dbg, u_folio, u_cat, u_clp, u_tenant, set_blank, stopPin_blank,
          unit_DBG_GSSTATUS_PIN]
      | split
      | (intro))

theorem execGstopSettle_blank (s : State) (u_dbg : F.has .dbg) : Keeps F s (execGstopSettle s) := by
  unfold execGstopSettle
  repeat' (first
      | with_reducible rfl
      | simp only [apply_ite (State.blank F), ite_self, keeps_next, u_dbg, set_blank, unit_DBG_GSSTATUS_SETTLED]
      | split
      | (intro))

theorem traceArrive_blank (s : State) (r : Nat) (l : List Flit) (h_hubs : F.hubs) (h_ldg : F.ldg) (h_flue : F.flue)
    (h_pulses : F.pulses) (u_ldg : F.has .ldg) (u_hubTr : F.has .hubTr) : (State.traceArrive s r l).blank F = s.blank F := by
  unfold State.traceArrive
  repeat' (first
      | with_reducible rfl
      | simp only [implies_true, apply_ite (State.blank F), h_hubs, h_ldg, h_flue, h_pulses, u_ldg, u_hubTr, traceStore_blank,
          traceDrop_blank]
      | (with_reducible refine (foldl_blank _ _ _ ?_).trans ?_)
      | split
      | (intro))

theorem execTrRec_blank (region : Nat) (tile : Nat) (s : State) (h_probes : F.probes) (h_hubs : F.hubs) (h_ldg : F.ldg)
    (h_flue : F.flue) (h_pulses : F.pulses) (u_ldg : F.has .ldg) (u_hubTr : F.has .hubTr) : Keeps F s (execTrRec region tile s)
    := by
  unfold execTrRec
  repeat' (first
      | with_reducible rfl
      | simp only [keeps_next, h_probes, h_hubs, h_ldg, h_flue, h_pulses, u_ldg, u_hubTr, setProbe_blank, traceDrop_blank,
          traceArrive_blank]
      | split
      | (intro))

theorem execTraceMark_blank (region : Nat) (s : State) (h_hubs : F.hubs) (h_ldg : F.ldg) (h_dbg : F.dbg) (h_flue : F.flue)
    (h_pulses : F.pulses) (u_ldg : F.has .ldg) (u_hubTr : F.has .hubTr) : Keeps F s (execTraceMark region s) := by
  unfold execTraceMark
  repeat' (first
      | with_reducible rfl
      | simp only [keeps_next, h_hubs, h_ldg, h_dbg, h_flue, h_pulses, u_ldg, u_hubTr, traceMark_blank, kilnTrace_blank]
      | split
      | (intro))

theorem execTrLevel_blank (region : Nat) (held : Nat) (s : State) (h_dbg : F.dbg) (h_flue : F.flue) : Keeps F s (execTrLevel
    region held s) := by
  unfold execTrLevel
  repeat' (first
      | with_reducible rfl
      | simp only [keeps_next, h_dbg, h_flue, wantCut_blank, recv_blank]
      | split
      | (intro))

theorem execTrCut_blank (region : Nat) (s : State) (h_hubs : F.hubs) (h_ldg : F.ldg) (h_flue : F.flue) (h_pulses : F.pulses)
    (u_ldg : F.has .ldg) (u_hubTr : F.has .hubTr) : Keeps F s (execTrCut region s) := by
  unfold execTrCut
  repeat' (first
      | with_reducible rfl
      | simp only [keeps_next, h_hubs, h_ldg, h_flue, h_pulses, u_ldg, u_hubTr, traceMark_blank, recv_blank, send_blank]
      | split
      | (intro))

theorem execTrRun_blank (region : Nat) (first : Nat) (count : Nat) (s : State) (h_sys : F.sys) (h_dbg : F.dbg) (h_flue : F.flue)
    (u_dbg : F.has .dbg) : Keeps F s (execTrRun region first count s) := by
  unfold execTrRun
  repeat' (first
      | with_reducible rfl
      | simp only [blank_mk, or_true, true_or, keeps_next, h_sys, h_dbg, h_flue, u_dbg, pumpTrace_blank, recv_blank]
      | split
      | (intro))

theorem execTrFree_blank (region : Nat) (count : Nat) (s : State) (h_hubs : F.hubs) (h_flue : F.flue) : Keeps F s (execTrFree
    region count s) := by
  unfold execTrFree
  repeat' (first
      | with_reducible rfl
      | simp only [keeps_next, h_hubs, h_flue, modTr_blank, recv_blank]
      | split
      | (intro))

theorem execTraceDrain_blank (ten : Nat) (tag : Nat) (s : State) (h_dbg : F.dbg) (h_flue : F.flue) (h_pulses : F.pulses)
    (u_ghp : F.has .ghp) : Keeps F s (execTraceDrain ten tag s) := by
  unfold execTraceDrain
  repeat' (first
      | with_reducible rfl
      | simp only [implies_true, keeps_next, h_dbg, h_flue, wantCut_blank]
      | (with_reducible refine (foldl_blank _ _ _ ?_).trans ?_)
      | (with_reducible refine (hostWrite_blank _ _ _ _ _ _ _ (by first | assumption | exact u_all _) (by first | assumption | exact u_all _) ?_).trans ?_)
      | split
      | (intro))

theorem enableDrain_blank (s : State) (h_sys : F.sys) (h_dbg : F.dbg) (h_flue : F.flue) (u_dbg : F.has .dbg) :
    (State.enableDrain s).blank F = s.blank F := by
  unfold State.enableDrain
  repeat' (first
      | with_reducible rfl
      | simp only [apply_ite (State.blank F), ite_self, h_sys, h_dbg, h_flue, u_dbg, nextCut_blank, raise_blank,
          pumpTrace_blank, setAll_blank, List.all_cons, List.all_nil, Bool.and_self, unit_DBG_EVENT_BADRING, unit_DBG_TRCTRL_EN,
          unit_DBG_TRSTATUS_BADRING]
      | split
      | (intro))

theorem execTraceEnable_blank (tpen : Bool) (ten : Nat) (tag : Nat) (s : State) (h_sys : F.sys) (h_dbg : F.dbg)
    (h_flue : F.flue) (h_pulses : F.pulses) (u_ghp : F.has .ghp) (u_dbg : F.has .dbg) : Keeps F s (execTraceEnable tpen ten tag
    s) := by
  unfold execTraceEnable
  repeat' (first
      | with_reducible rfl
      | simp only [implies_true, keeps_next, h_sys, h_dbg, h_flue, u_dbg, enableDrain_blank, set_blank, unit_DBG_TRCTRL_TPEN]
      | (with_reducible refine (hostWrite_blank _ _ _ _ _ _ _ (by first | assumption | exact u_all _) (by first | assumption | exact u_all _) ?_).trans ?_)
      | split
      | (intro))

theorem execDbgTrtailWrite_blank (offset : Nat) (ten : Nat) (tag : Nat) (s : State) (h_sys : F.sys) (h_dbg : F.dbg)
    (h_flue : F.flue) (h_pulses : F.pulses) (u_ghp : F.has .ghp) (u_dbg : F.has .dbg) : Keeps F s (execDbgTrtailWrite offset ten
    tag s) := by
  unfold execDbgTrtailWrite
  repeat' (first
      | with_reducible rfl
      | simp only [implies_true, keeps_next, h_sys, h_dbg, h_flue, u_dbg, set_blank, pumpTrace_blank, unit_DBG_TRTAIL_OFFSET]
      | (with_reducible refine (hostWrite_blank _ _ _ _ _ _ _ (by first | assumption | exact u_all _) (by first | assumption | exact u_all _) ?_).trans ?_)
      | split
      | (intro))

theorem execUnlockExpiry_blank (s : State) (h_ldg : F.ldg) (h_dbg : F.dbg) (u_ldg : F.has .ldg) (u_dbg : F.has .dbg) : Keeps F s
    (execUnlockExpiry s) := by
  unfold execUnlockExpiry
  repeat' (first
      | with_reducible rfl
      | simp only [keeps_next, h_ldg, h_dbg, u_ldg, u_dbg, unlockEnd_blank]
      | split
      | (intro))

theorem jobDone_blank (s : State) (n : Nat) (j : SysJob) (h_tally : F.tally) (h_dbg : F.dbg) (h_flue : F.flue)
    (u_tly : F.has .tly) (u_dbg : F.has .dbg) (u_tenant : F.has .tenant) : (State.jobDone s n j).blank F = s.blank F := by
  unfold State.jobDone
  repeat' (first
      | with_reducible rfl
      | simp only [h_tally, h_dbg, h_flue, u_tly, u_dbg, u_tenant, traceWritten_blank, tallyWritten_blank, set_blank,
          unit_TEN_REC_HEAD_OFFSET]
      | split
      | (intro))

theorem readDone_blank (s : State) (r : StkRead) (data : List Nat) (word : Nat) (h_tally : F.tally) (h_sys : F.sys)
    (h_stk : F.stk) (h_dbg : F.dbg) (h_flue : F.flue) (h_pulses : F.pulses) (u_stk : F.has .stk) (u_channel : F.has .channel)
    (u_tly : F.has .tly) (u_dbg : F.has .dbg) (u_tenant : F.has .tenant) : (State.readDone s r data word).blank F = s.blank F :=
    by
  unfold State.readDone
  repeat' (first
      | with_reducible rfl
      | simp only [blank_mk, apply_ite (State.blank F), or_true, true_or, h_tally, h_sys, h_stk, h_dbg, h_flue, h_pulses, u_stk,
          u_channel, u_tly, u_dbg, u_tenant, kickSys_blank, jobDone_blank, stkData_blank]
      | split
      | (intro))

theorem stkFields_blank (s : State) (n : Nat) (value : Nat) (ten : Nat) (u_channel : F.has .channel) : (State.stkFields s n
    value ten).blank F = s.blank F := by
  unfold State.stkFields
  repeat' (first
      | with_reducible rfl
      | simp only [apply_ite (State.blank F), ite_self, u_channel, set_blank, setAll_blank, List.all_cons, List.all_nil,
          Bool.and_self, unit_STK_CH_CTRL_PRIO, unit_STK_CH_CTRL_TENANT, unit_STK_CH_CTRL_WINMASK]
      | split
      | (intro))

theorem stkWriteCtrl_blank (s : State) (n : Nat) (value : Nat) (ten : Nat) (tag : Nat) (act : State → State)
    (h_pulses : F.pulses) (u_ghp : F.has .ghp) (u_channel : F.has .channel) (hact : ∀ x0, (act x0).blank F = x0.blank F) :
    (State.stkWriteCtrl s n value ten tag act).blank F = s.blank F := by
  unfold State.stkWriteCtrl
  repeat' (first
      | with_reducible rfl
      | simp only [implies_true, apply_ite (State.blank F), ite_self, u_channel, hact, stkFields_blank]
      | (with_reducible refine (hostWrite_blank _ _ _ _ _ _ _ (by first | assumption | exact u_all _) (by first | assumption | exact u_all _) ?_).trans ?_)
      | split
      | (intro))

theorem execStkGo_blank (channel : Nat) (value : Nat) (ten : Nat) (tag : Nat) (s : State) (h_stk : F.stk) (h_pulses : F.pulses)
    (u_ghp : F.has .ghp) (u_stk : F.has .stk) (u_channel : F.has .channel) : Keeps F s (execStkGo channel value ten tag s) := by
  unfold execStkGo
  repeat' (first
      | with_reducible rfl
      | simp only [implies_true, keeps_next, h_stk, u_stk, u_channel, stkGo_blank]
      | (with_reducible refine (stkWriteCtrl_blank _ _ _ _ _ _ (by first | assumption | exact u_all _) (by first | assumption | exact u_all _) (by first | assumption | exact u_all _) ?_).trans ?_)
      | split
      | (intro))

theorem stkAbort_blank (s : State) (channel : Nat) (h_sys : F.sys) (h_stk : F.stk) (h_freeCtr : F.freeCtr) (u_stk : F.has .stk)
    (u_channel : F.has .channel) : (State.stkAbort s channel).blank F = s.blank F := by
  unfold State.stkAbort
  repeat' (first
      | with_reducible rfl
      | simp only [apply_ite (State.blank F), ite_self, h_sys, h_stk, h_freeCtr, u_stk, u_channel, raise_blank, stkDropCh_blank,
          unit_STK_EVENT_DROP]
      | split
      | (intro))

theorem execStkAbort_blank (channel : Nat) (value : Nat) (ten : Nat) (tag : Nat) (s : State) (h_sys : F.sys) (h_stk : F.stk)
    (h_pulses : F.pulses) (h_freeCtr : F.freeCtr) (u_ghp : F.has .ghp) (u_stk : F.has .stk) (u_channel : F.has .channel) : Keeps
    F s (execStkAbort channel value ten tag s) := by
  unfold execStkAbort
  repeat' (first
      | with_reducible rfl
      | simp only [implies_true, keeps_next, h_sys, h_stk, h_freeCtr, u_stk, u_channel, stkAbort_blank]
      | (with_reducible refine (stkWriteCtrl_blank _ _ _ _ _ _ (by first | assumption | exact u_all _) (by first | assumption | exact u_all _) (by first | assumption | exact u_all _) ?_).trans ?_)
      | split
      | (intro))

theorem stkDisable_blank (s : State) (h_sys : F.sys) (h_stk : F.stk) (h_freeCtr : F.freeCtr) (u_stk : F.has .stk)
    (u_channel : F.has .channel) : (State.stkDisable s).blank F = s.blank F := by
  unfold State.stkDisable
  repeat' (first
      | with_reducible rfl
      | simp only [implies_true, h_sys, h_stk, h_freeCtr, u_stk, u_channel, set_blank, raise_blank, stkDropCh_blank,
          unit_STK_CH_STATUS_PENDGO, unit_STK_CTRL_EN, unit_STK_EVENT_DISABLED]
      | (with_reducible refine (foldl_blank _ _ _ ?_).trans ?_)
      | split
      | (intro))

theorem execStkDisable_blank (ten : Nat) (tag : Nat) (s : State) (h_sys : F.sys) (h_stk : F.stk) (h_pulses : F.pulses)
    (h_freeCtr : F.freeCtr) (u_ghp : F.has .ghp) (u_stk : F.has .stk) (u_channel : F.has .channel) : Keeps F s (execStkDisable
    ten tag s) := by
  unfold execStkDisable
  repeat' (first
      | with_reducible rfl
      | simp only [implies_true, keeps_next, h_sys, h_stk, h_freeCtr, u_stk, u_channel, stkDisable_blank]
      | (with_reducible refine (hostWrite_blank _ _ _ _ _ _ _ (by first | assumption | exact u_all _) (by first | assumption | exact u_all _) ?_).trans ?_)
      | split
      | (intro))

theorem execStkEnable_blank (ten : Nat) (tag : Nat) (s : State) (h_sys : F.sys) (h_stk : F.stk) (h_pulses : F.pulses)
    (u_ghp : F.has .ghp) (u_stk : F.has .stk) : Keeps F s (execStkEnable ten tag s) := by
  unfold execStkEnable
  repeat' (first
      | with_reducible rfl
      | simp only [implies_true, keeps_next, h_sys, h_stk, u_stk, set_blank, kickSys_blank, unit_STK_CTRL_EN]
      | (with_reducible refine (hostWrite_blank _ _ _ _ _ _ _ (by first | assumption | exact u_all _) (by first | assumption | exact u_all _) ?_).trans ?_)
      | split
      | (intro))

theorem stkClrhalt_blank (s : State) (h_sys : F.sys) (h_stk : F.stk) (u_stk : F.has .stk) : (State.stkClrhalt s).blank F =
    s.blank F := by
  unfold State.stkClrhalt
  repeat' (first
      | with_reducible rfl
      | simp only [apply_ite (State.blank F), ite_self, h_sys, h_stk, u_stk, kickSys_blank, setAll_blank, List.all_cons,
          List.all_nil, Bool.and_self, unit_STK_HALTADDR_ADDR, unit_STK_HALTADDR_TAG, unit_STK_STATUS_HALTED,
          unit_STK_STATUS_HCAUSE, unit_STK_STATUS_HCH]
      | split
      | (intro))

theorem execStkClrhalt_blank (ten : Nat) (tag : Nat) (s : State) (h_sys : F.sys) (h_stk : F.stk) (h_pulses : F.pulses)
    (u_ghp : F.has .ghp) (u_stk : F.has .stk) : Keeps F s (execStkClrhalt ten tag s) := by
  unfold execStkClrhalt
  repeat' (first
      | with_reducible rfl
      | simp only [implies_true, keeps_next, h_sys, h_stk, u_stk, stkClrhalt_blank]
      | (with_reducible refine (hostWrite_blank _ _ _ _ _ _ _ (by first | assumption | exact u_all _) (by first | assumption | exact u_all _) ?_).trans ?_)
      | split
      | (intro))

theorem execBurstGrant_blank (s : State) (h_sys : F.sys) (h_stk : F.stk) (h_flue : F.flue) (h_pulses : F.pulses) : Keeps F s
    (execBurstGrant s) := by
  unfold execBurstGrant
  repeat' (first
      | with_reducible rfl
      | simp only [blank_mk, or_true, true_or, keeps_next, h_sys, h_stk, h_flue, h_pulses, stkGrant_blank, pumpAll_blank,
          kickSys_blank]
      | split
      | (intro))

theorem execDescriptorArrive_blank (channel : Nat) (data : Nat) (s : State) (h_tally : F.tally) (h_sys : F.sys) (h_stk : F.stk)
    (h_dbg : F.dbg) (h_flue : F.flue) (h_pulses : F.pulses) (u_stk : F.has .stk) (u_channel : F.has .channel)
    (u_tly : F.has .tly) (u_dbg : F.has .dbg) (u_tenant : F.has .tenant) : Keeps F s (execDescriptorArrive channel data s) := by
  unfold execDescriptorArrive
  repeat' (first
      | with_reducible rfl
      | simp only [keeps_next, h_tally, h_sys, h_stk, h_dbg, h_flue, h_pulses, u_stk, u_channel, u_tly, u_dbg, u_tenant,
          readDone_blank]
      | split
      | (intro))

theorem execSmpReadBeat_blank (readTag : Nat) (data : Nat) (err : Bool) (parOk : Bool) (s : State) (h_flt : F.flt)
    (h_tally : F.tally) (h_sys : F.sys) (h_stk : F.stk) (h_dbg : F.dbg) (h_flue : F.flue) (h_pulses : F.pulses)
    (u_stk : F.has .stk) (u_channel : F.has .channel) (u_tly : F.has .tly) (u_dbg : F.has .dbg) (u_tenant : F.has .tenant) :
    Keeps F s (execSmpReadBeat readTag data err parOk s) := by
  unfold execSmpReadBeat
  repeat' (first
      | with_reducible rfl
      | simp only [blank_mk, apply_ite (State.blank F), ite_self, or_true, true_or, keeps_next, h_flt, h_tally, h_sys, h_stk,
          h_dbg, h_flue, h_pulses, u_stk, u_channel, u_tly, u_dbg, u_tenant, busError_blank, readDone_blank]
      | split
      | (intro))

theorem execSmpReadTimeout_blank (readTag : Nat) (s : State) (h_flt : F.flt) (h_stk : F.stk) (h_pulses : F.pulses)
    (u_stk : F.has .stk) : Keeps F s (execSmpReadTimeout readTag s) := by
  unfold execSmpReadTimeout
  repeat' (first
      | with_reducible rfl
      | simp only [apply_ite (State.blank F), ite_self, keeps_next, h_flt, h_stk, h_pulses, u_stk, busError_blank]
      | split
      | (intro))

theorem execSmpWriteBeat_blank (s : State) (h_stk : F.stk) (h_pulses : F.pulses) (u_channel : F.has .channel) : Keeps F s
    (execSmpWriteBeat s) := by
  unfold execSmpWriteBeat
  repeat' (first
      | with_reducible rfl
      | simp only [blank_mk, apply_ite (State.blank F), ite_self, or_true, true_or, keeps_next, h_stk, h_pulses, u_channel,
          bump_blank, stkDescDone_blank, setStkCh_blank, emit_blank, unit_STK_CH_PROG_BYTES]
      | split
      | (intro))

theorem execSmpRqCred_blank (s : State) (h_stk : F.stk) (h_pulses : F.pulses) : Keeps F s (execSmpRqCred s) := by
  unfold execSmpRqCred
  repeat' (first
      | with_reducible rfl
      | simp only [blank_mk, or_true, true_or, keeps_next, h_stk, h_pulses, pumpAll_blank]
      | split
      | (intro))

theorem execSmpWdCred_blank (s : State) (h_stk : F.stk) : Keeps F s (execSmpWdCred s) := by
  unfold execSmpWdCred
  repeat' (first
      | with_reducible rfl
      | simp only [blank_mk, or_true, true_or, keeps_next, h_stk]
      | split
      | (intro))

theorem execSmpWriteError_blank (writeTag : Nat) (s : State) (h_flt : F.flt) (h_stk : F.stk) (h_pulses : F.pulses)
    (u_stk : F.has .stk) : Keeps F s (execSmpWriteError writeTag s) := by
  unfold execSmpWriteError
  repeat' (first
      | with_reducible rfl
      | simp only [keeps_next, h_flt, h_stk, h_pulses, u_stk, busError_blank]
      | split
      | (intro))

theorem execSkData_blank (region : Nat) (xferTag : Nat) (status : Nat) (data : List Flit) (s : State) (h_tally : F.tally)
    (h_sys : F.sys) (h_stk : F.stk) (h_dbg : F.dbg) (h_flue : F.flue) (h_pulses : F.pulses) (u_stk : F.has .stk)
    (u_channel : F.has .channel) (u_tly : F.has .tly) (u_dbg : F.has .dbg) (u_tenant : F.has .tenant) : Keeps F s (execSkData
    region xferTag status data s) := by
  unfold execSkData
  repeat' (first
      | with_reducible rfl
      | simp only [keeps_next, h_tally, h_sys, h_stk, h_dbg, h_flue, h_pulses, u_stk, u_channel, u_tly, u_dbg, u_tenant,
          readDone_blank, recv_blank]
      | split
      | (intro))

theorem execSkReadTimeout_blank (xferTag : Nat) (s : State) (h_flt : F.flt) (h_stk : F.stk) (h_pulses : F.pulses)
    (u_stk : F.has .stk) : Keeps F s (execSkReadTimeout xferTag s) := by
  unfold execSkReadTimeout
  repeat' (first
      | with_reducible rfl
      | simp only [blank_mk, or_true, true_or, keeps_next, h_flt, h_stk, h_pulses, u_stk, busError_blank]
      | split
      | (intro))

end Sys2Proof.Machine
end

