-- ==== Sys2Proof/Laws/FrameVault.lean ====
section
/-! SUPPORT. For each operation of the Vault and bring-up, and each command: which parts of the state it may change (every other part is
kept). -/

namespace Sys2Proof.Machine

open Sys2Proof

variable {F : Fields}

theorem deriveKeys_blank (s : State) (h_vault : F.vault) : (State.deriveKeys s).blank F = s.blank F := by
  unfold State.deriveKeys
  repeat' (first
      | with_reducible rfl
      | simp only [blank_mk, or_true, true_or, h_vault]
      | (with_reducible refine (foldl_blank _ _ _ ?_).trans ?_)
      | split
      | (intro))

theorem loadImage_blank (s : State) (i : KeyImage) (blob : Nat) (h_vault : F.vault) (u_vlt : F.has .vlt) : (State.loadImage s i
    blob).blank F = s.blank F := by
  unfold State.loadImage
  repeat' (first
      | with_reducible rfl
      | simp only [blank_mk, or_true, true_or, h_vault, u_vlt, deriveKeys_blank, setAll_blank, List.all_cons, List.all_nil,
          Bool.and_self, unit_VLT_DEVID_DEVID, unit_VLT_STATUS_BLOB]
      | (with_reducible refine (foldl_blank _ _ _ ?_).trans ?_)
      | split
      | (intro))

theorem vaultFault_blank (s : State) (kind : Nat) (code : Nat) (h_flt : F.flt) (h_ldg : F.ldg) (h_tally : F.tally)
    (h_vault : F.vault) (h_colo : F.colo) (h_bru : F.bru) (h_pwr : F.pwr) (h_pulses : F.pulses) (u_bru : F.has .bru)
    (u_vlt : F.has .vlt) (u_ldg : F.has .ldg) (u_tenant : F.has .tenant) : (State.vaultFault s kind code).blank F = s.blank F :=
    by
  unfold State.vaultFault
  repeat' (first
      | with_reducible rfl
      | simp only [apply_ite (State.blank F), ite_self, h_flt, h_ldg, h_tally, h_vault, h_colo, h_bru, h_pwr, h_pulses, u_bru,
          u_vlt, u_ldg, u_tenant, enterError_blank, kilnFault_blank, bruRefuse_blank]
      | split
      | (intro))

theorem chooseStore_blank (s : State) (bankOk : Bool) (aOk : Bool) (bOk : Bool) (h_flt : F.flt) (h_ldg : F.ldg)
    (h_tally : F.tally) (h_vault : F.vault) (h_colo : F.colo) (h_bru : F.bru) (h_pwr : F.pwr) (h_pulses : F.pulses)
    (u_bru : F.has .bru) (u_vlt : F.has .vlt) (u_ldg : F.has .ldg) (u_tenant : F.has .tenant) : (State.chooseStore s bankOk aOk
    bOk).blank F = s.blank F := by
  unfold State.chooseStore
  repeat' (first
      | with_reducible rfl
      | simp only [apply_ite (State.blank F), ite_self, h_flt, h_ldg, h_tally, h_vault, h_colo, h_bru, h_pwr, h_pulses, u_bru,
          u_vlt, u_ldg, u_tenant, vaultFault_blank, loadImage_blank]
      | split
      | (intro))

theorem issueNonce_blank (s : State) (service : Nat) (h_vault : F.vault) (h_freeCtr : F.freeCtr) (u_vlt : F.has .vlt) :
    (State.issueNonce s service).blank F = s.blank F := by
  unfold State.issueNonce
  repeat' (first
      | with_reducible rfl
      | simp only [blank_mk, or_true, true_or, h_vault, h_freeCtr, u_vlt, draw_blank, setAll_blank, List.all_cons, List.all_nil,
          Bool.and_self, unit_VLT_NONCE_NONCE, unit_VLT_NONCE_SLOT]
      | split
      | (intro))

theorem zeroise_blank (s : State) (h_tally : F.tally) (h_vault : F.vault) (h_colo : F.colo) (u_vlt : F.has .vlt)
    (u_tenant : F.has .tenant) : (State.zeroise s).blank F = s.blank F := by
  unfold State.zeroise
  repeat' (first
      | with_reducible rfl
      | simp only [blank_mk, or_true, true_or, h_tally, h_vault, h_colo, u_vlt, u_tenant, deriveKeys_blank, set_blank,
          endRequests_blank, raise_blank, unit_VLT_DEVID_DEVID, unit_VLT_EVENT_ZEROISED]
      | split
      | (intro))

theorem provision_blank (s : State) (h_ldg : F.ldg) (h_tally : F.tally) (h_vault : F.vault) (h_freeCtr : F.freeCtr)
    (u_vlt : F.has .vlt) (u_tly : F.has .tly) : (State.provision s).blank F = s.blank F := by
  unfold State.provision
  repeat' (first
      | with_reducible rfl
      | simp only [blank_mk, or_true, true_or, h_ldg, h_tally, h_vault, h_freeCtr, u_vlt, u_tly, draw_blank, deriveKeys_blank,
          set_blank, signNext_blank, certificate_blank, raise_blank, newPair_blank, writeImage_blank, unit_VLT_DEVID_DEVID,
          unit_VLT_EVENT_PROVISIONED]
      | split
      | (intro))

theorem ledgerClear_blank (s t : State) (a k : Nat) (h_ldg : F.ldg) (h_vault : F.vault) (h_pulses : F.pulses)
    (h_freeCtr : F.freeCtr) (u_ldg : F.has .ldg) (h : s.ledgerClear a k = some t) : t.blank F = s.blank F := by
  unfold State.ledgerClear at h
  split at h
  · cases h
  · injection h with h
    subst h
    simp only [implies_true, blank_mk, apply_ite (State.blank F), ite_self, or_true, true_or, h_ldg, h_vault, h_pulses,
        h_freeCtr, u_ldg, recordOf_blank, pumpLedger_blank, raise_blank, unit_LDG_EVENT_CLEARED]

theorem carryOut_blank (s : State) (service : Nat) (keyid : Nat) (param : Nat) (h_ldg : F.ldg) (h_tally : F.tally)
    (h_vault : F.vault) (h_colo : F.colo) (h_dbg : F.dbg) (h_pulses : F.pulses) (h_freeCtr : F.freeCtr) (u_vlt : F.has .vlt)
    (u_tly : F.has .tly) (u_ldg : F.has .ldg) (u_dbg : F.has .dbg) (u_tenant : F.has .tenant) : (State.carryOut s service keyid
    param).1.blank F = s.blank F := by
  unfold State.carryOut
  repeat' (first
      | with_reducible rfl
      | simp only [blank_mk, or_true, true_or, h_ldg, h_tally, h_vault, h_colo, h_dbg, h_pulses, h_freeCtr, u_vlt, u_tly, u_ldg,
          u_dbg, u_tenant, debugUnlock_blank, provision_blank, rekeyIfDue_blank, closeBatch_blank, writeImage_blank,
          zeroise_blank]
      | (with_reducible refine ledgerClear_blank _ _ _ _ ?_ ?_ ?_ ?_ ?_ ‹_› <;> first | assumption | exact u_all _)
      | split
      | (intro))

theorem tokenReject_blank (s : State) (reason : Nat) (h_flt : F.flt) (u_vlt : F.has .vlt) : (State.tokenReject s reason).blank F
    = s.blank F := by
  unfold State.tokenReject
  repeat' (first
      | with_reducible rfl
      | simp only [h_flt, u_vlt, kilnFault_blank, raise_blank, setAll_blank, List.all_cons, List.all_nil, Bool.and_self,
          unit_VLT_EVENT_TOKREJ, unit_VLT_TOKST_APPROVED, unit_VLT_TOKST_BUSY, unit_VLT_TOKST_REASON, unit_VLT_TOKST_RESULT]
      | split
      | (intro))

theorem tokenDone_blank (s : State) (result : Nat) (u_vlt : F.has .vlt) : (State.tokenDone s result).blank F = s.blank F := by
  unfold State.tokenDone
  repeat' (first
      | with_reducible rfl
      | simp only [apply_ite (State.blank F), ite_self, u_vlt, raise_blank, setAll_blank, List.all_cons, List.all_nil,
          Bool.and_self, unit_VLT_EVENT_TOKOK, unit_VLT_TOKST_APPROVED, unit_VLT_TOKST_BUSY, unit_VLT_TOKST_REASON,
          unit_VLT_TOKST_RESULT]
      | split
      | (intro))

theorem runToken_blank (s : State) (ecOk : Bool) (mlOk : Bool) (h_flt : F.flt) (h_ldg : F.ldg) (h_tally : F.tally)
    (h_vault : F.vault) (h_colo : F.colo) (h_dbg : F.dbg) (h_pulses : F.pulses) (h_freeCtr : F.freeCtr) (u_vlt : F.has .vlt)
    (u_tly : F.has .tly) (u_ldg : F.has .ldg) (u_dbg : F.has .dbg) (u_tenant : F.has .tenant) : (State.runToken s ecOk
    mlOk).blank F = s.blank F := by
  unfold State.runToken
  repeat' (first
      | with_reducible rfl
      | simp only [implies_true, blank_mk, apply_ite (State.blank F), ite_self, or_true, true_or, h_flt, h_ldg, h_tally,
          h_vault, h_colo, h_dbg, h_pulses, h_freeCtr, u_vlt, u_tly, u_ldg, u_dbg, u_tenant, carryOut_blank, tokenReject_blank,
          tokenDone_blank]
      | split
      | (rename_i hq; replace hq := congrArg (fun p => State.blank F p.1) hq; simp only [implies_true, blank_mk, apply_ite (State.blank F), ite_self, or_true, true_or, h_flt, h_ldg, h_tally, h_vault,
          h_colo, h_dbg, h_pulses, h_freeCtr, u_vlt, u_tly, u_ldg, u_dbg, u_tenant, carryOut_blank, tokenReject_blank,
          tokenDone_blank] at hq; exact hq.symm)
      | (rename_i hq; replace hq := congrArg (fun p => State.blank F p.2) hq; simp only [implies_true, blank_mk, apply_ite (State.blank F), ite_self, or_true, true_or, h_flt, h_ldg, h_tally, h_vault,
          h_colo, h_dbg, h_pulses, h_freeCtr, u_vlt, u_tly, u_ldg, u_dbg, u_tenant, carryOut_blank, tokenReject_blank,
          tokenDone_blank] at hq; exact hq.symm)
      | (rename_i hq; replace hq := congrArg (fun p => State.blank F p.2.2) hq; simp only [implies_true, blank_mk, apply_ite (State.blank F), ite_self, or_true, true_or, h_flt, h_ldg, h_tally, h_vault,
          h_colo, h_dbg, h_pulses, h_freeCtr, u_vlt, u_tly, u_ldg, u_dbg, u_tenant, carryOut_blank, tokenReject_blank,
          tokenDone_blank] at hq; exact hq.symm)
      | (intro))

theorem tokenGo_blank (s : State) (ecOk : Bool) (mlOk : Bool) (h_flt : F.flt) (h_ldg : F.ldg) (h_tally : F.tally)
    (h_vault : F.vault) (h_colo : F.colo) (h_dbg : F.dbg) (h_pulses : F.pulses) (h_freeCtr : F.freeCtr) (u_vlt : F.has .vlt)
    (u_tly : F.has .tly) (u_ldg : F.has .ldg) (u_dbg : F.has .dbg) (u_tenant : F.has .tenant) : (State.tokenGo s ecOk
    mlOk).blank F = s.blank F := by
  unfold State.tokenGo
  repeat' (first
      | with_reducible rfl
      | simp only [blank_mk, apply_ite (State.blank F), or_true, true_or, h_flt, h_ldg, h_tally, h_vault, h_colo, h_dbg,
          h_pulses, h_freeCtr, u_vlt, u_tly, u_ldg, u_dbg, u_tenant, runToken_blank, set_blank, raise_blank, setAll_blank,
          List.all_cons, List.all_nil, Bool.and_self, unit_VLT_TOKST_APPROVED, unit_VLT_TOKST_BUSY, unit_VLT_TOKST_DROPPED,
          unit_VLT_TOKST_RESULT]
      | split
      | (intro))

theorem tokenOf_blank (s : State) (service : Nat) (ten : Nat) (tag : Nat) (h_flt : F.flt) (h_ldg : F.ldg) (h_tally : F.tally)
    (h_vault : F.vault) (h_colo : F.colo) (h_dbg : F.dbg) (h_pulses : F.pulses) (h_freeCtr : F.freeCtr) (u_ghp : F.has .ghp)
    (u_vlt : F.has .vlt) (u_tly : F.has .tly) (u_ldg : F.has .ldg) (u_dbg : F.has .dbg) (u_tenant : F.has .tenant) :
    (State.tokenOf s service ten tag).blank F = s.blank F := by
  unfold State.tokenOf
  repeat' (first
      | with_reducible rfl
      | simp only [implies_true, apply_ite (State.blank F), ite_self, h_flt, h_ldg, h_tally, h_vault, h_colo, h_dbg, h_pulses,
          h_freeCtr, u_vlt, u_tly, u_ldg, u_dbg, u_tenant, tokenGo_blank]
      | (with_reducible refine (hostWrite_blank _ _ _ _ _ _ _ (by first | assumption | exact u_all _) (by first | assumption | exact u_all _) ?_).trans ?_)
      | split
      | (intro))

theorem afterTests_blank (s : State) (h_flt : F.flt) (h_ldg : F.ldg) (h_tally : F.tally) (h_vault : F.vault) (h_colo : F.colo)
    (h_dbg : F.dbg) (h_pulses : F.pulses) (h_freeCtr : F.freeCtr) (u_vlt : F.has .vlt) (u_tly : F.has .tly) (u_ldg : F.has .ldg)
    (u_dbg : F.has .dbg) (u_tenant : F.has .tenant) : (State.afterTests s).blank F = s.blank F := by
  unfold State.afterTests
  repeat' (first
      | with_reducible rfl
      | simp only [implies_true, blank_mk, or_true, true_or, h_flt, h_ldg, h_tally, h_vault, h_colo, h_dbg, h_pulses, h_freeCtr,
          u_vlt, u_tly, u_ldg, u_dbg, u_tenant, runToken_blank, issueNonce_blank]
      | (with_reducible refine (foldl_blank _ _ _ ?_).trans ?_)
      | split
      | (intro))

theorem startPeriodic_blank (s : State) (h_vault : F.vault) : (State.startPeriodic s).blank F = s.blank F := by
  unfold State.startPeriodic
  repeat' (first
      | with_reducible rfl
      | simp only [blank_mk, or_true, true_or, h_vault]
      | split
      | (intro))

theorem endRaw_blank (s : State) (h_vault : F.vault) (u_vlt : F.has .vlt) : (State.endRaw s).blank F = s.blank F := by
  unfold State.endRaw
  repeat' (first
      | with_reducible rfl
      | simp only [blank_mk, apply_ite (State.blank F), ite_self, or_true, true_or, h_vault, u_vlt, startPeriodic_blank,
          set_blank, unit_VLT_RAW_SAMPLES]
      | split
      | (intro))

theorem coloSigned_blank (s : State) (t : Nat) (isRecall : Bool) (h_vault : F.vault) (h_colo : F.colo) (h_sys : F.sys)
    (h_pulses : F.pulses) (h_freeCtr : F.freeCtr) (u_tenant : F.has .tenant) : (State.coloSigned s t isRecall).blank F = s.blank
    F := by
  unfold State.coloSigned
  repeat' (first
      | with_reducible rfl
      | simp only [apply_ite (State.blank F), ite_self, h_vault, h_colo, h_sys, h_pulses, h_freeCtr, u_tenant, fresh_blank,
          putRec_blank, set_blank, makeRec_blank, useKey_blank, setAll_blank, List.all_cons, List.all_nil, Bool.and_self,
          modEp_blank, event_blank, unit_TEN_COLO_NUM_COLNUM, unit_TEN_COLO_REQ_REQ, unit_TEN_COLO_STATUS_BUSY,
          unit_TEN_COLO_STATUS_RESULT]
      | split
      | (intro))

theorem keygenDone_blank (s : State) (t : Nat) (h_vault : F.vault) (h_freeCtr : F.freeCtr) : (State.keygenDone s t).blank F =
    s.blank F := by
  unfold State.keygenDone
  repeat' (first
      | with_reducible rfl
      | simp only [blank_mk, or_true, true_or, h_vault, h_freeCtr, certificate_blank, newPair_blank]
      | split
      | (intro))

theorem keydropDone_blank (s : State) (t : Nat) (h_vault : F.vault) : (State.keydropDone s t).blank F = s.blank F := by
  unfold State.keydropDone
  repeat' (first
      | with_reducible rfl
      | simp only [blank_mk, or_true, true_or, h_vault]
      | split
      | (intro))

theorem serveRequest_blank (s : State) (q : VaultReq) (h_ldg : F.ldg) (h_tally : F.tally) (h_vault : F.vault) (h_colo : F.colo)
    (h_sys : F.sys) (h_pulses : F.pulses) (h_freeCtr : F.freeCtr) (u_vlt : F.has .vlt) (u_tly : F.has .tly) (u_ldg : F.has .ldg)
    (u_tenant : F.has .tenant) : (State.serveRequest s q).blank F = s.blank F := by
  unfold State.serveRequest
  repeat' (first
      | with_reducible rfl
      | simp only [blank_mk, or_true, true_or, h_ldg, h_tally, h_vault, h_colo, h_sys, h_pulses, h_freeCtr, u_vlt, u_tly, u_ldg,
          u_tenant, draw_blank, coloSigned_blank, finishClose_blank, keydropDone_blank, keygenDone_blank, rootSigned_blank,
          tagOf_blank]
      | split
      | (intro))

theorem askOnce_blank (s : State) (q : VaultReq) (h_vault : F.vault) : (State.askOnce s q).blank F = s.blank F := by
  unfold State.askOnce
  repeat' (first
      | with_reducible rfl
      | simp only [apply_ite (State.blank F), ite_self, h_vault, vaultAsk_blank]
      | split
      | (intro))

theorem execVaultSelftestDone_blank (kind : Nat) (code : Nat) (bankOk : Bool) (aOk : Bool) (bOk : Bool) (s : State)
    (h_hubs : F.hubs) (h_flt : F.flt) (h_fl : F.fl) (h_ldg : F.ldg) (h_tally : F.tally) (h_vault : F.vault) (h_link : F.link)
    (h_colo : F.colo) (h_sys : F.sys) (h_stk : F.stk) (h_dbg : F.dbg) (h_bru : F.bru) (h_pwr : F.pwr) (h_flue : F.flue)
    (h_pulses : F.pulses) (h_freeCtr : F.freeCtr) (u_bru : F.has .bru) (u_flt : F.has .flt) (u_ccd : F.has .ccd)
    (u_vlt : F.has .vlt) (u_stk : F.has .stk) (u_channel : F.has .channel) (u_tly : F.has .tly) (u_ldg : F.has .ldg)
    (u_dbg : F.has .dbg) (u_folio : F.has .folio) (u_cat : F.has .cat) (u_clp : F.has .clp) (u_tenant : F.has .tenant) : Keeps F
    s (execVaultSelftestDone kind code bankOk aOk bOk s) := by
  unfold execVaultSelftestDone
  repeat' (first
      | with_reducible rfl
      | simp only [apply_ite (State.blank F), ite_self, keeps_next, h_hubs, h_flt, h_fl, h_ldg, h_tally, h_vault, h_link,
          h_colo, h_sys, h_stk, h_dbg, h_bru, h_pwr, h_flue, h_pulses, h_freeCtr, u_bru, u_flt, u_ccd, u_vlt, u_stk, u_channel,
          u_tly, u_ldg, u_dbg, u_folio, u_cat, u_clp, u_tenant, bump_blank, bruNext_blank, vaultFault_blank, chooseStore_blank,
          afterTests_blank, unit_VLT_STCNT_COUNT]
      | split
      | (intro))

theorem execPeriodicTestDue_blank (s : State) (h_vault : F.vault) : Keeps F s (execPeriodicTestDue s) := by
  unfold execPeriodicTestDue
  repeat' (first
      | with_reducible rfl
      | simp only [keeps_next, h_vault, startPeriodic_blank]
      | split
      | (intro))

theorem stnowWrite_blank (s : State) (h_vault : F.vault) (u_vlt : F.has .vlt) : (State.stnowWrite s).blank F = s.blank F := by
  unfold State.stnowWrite
  repeat' (first
      | with_reducible rfl
      | simp only [apply_ite (State.blank F), ite_self, h_vault, u_vlt, startPeriodic_blank, endRaw_blank, raise_blank,
          unit_VLT_CTRL_STNOW]
      | split
      | (intro))

theorem execStnow_blank (ten : Nat) (tag : Nat) (s : State) (h_vault : F.vault) (h_pulses : F.pulses) (u_ghp : F.has .ghp)
    (u_vlt : F.has .vlt) : Keeps F s (execStnow ten tag s) := by
  unfold execStnow
  repeat' (first
      | with_reducible rfl
      | simp only [implies_true, keeps_next, h_vault, u_vlt, stnowWrite_blank]
      | (with_reducible refine (hostWrite_blank _ _ _ _ _ _ _ (by first | assumption | exact u_all _) (by first | assumption | exact u_all _) ?_).trans ?_)
      | split
      | (intro))

theorem execPeriodicTestDone_blank (code : Nat) (s : State) (h_flt : F.flt) (h_ldg : F.ldg) (h_tally : F.tally)
    (h_vault : F.vault) (h_colo : F.colo) (h_dbg : F.dbg) (h_bru : F.bru) (h_pwr : F.pwr) (h_pulses : F.pulses)
    (h_freeCtr : F.freeCtr) (u_bru : F.has .bru) (u_vlt : F.has .vlt) (u_tly : F.has .tly) (u_ldg : F.has .ldg)
    (u_dbg : F.has .dbg) (u_tenant : F.has .tenant) : Keeps F s (execPeriodicTestDone code s) := by
  unfold execPeriodicTestDone
  repeat' (first
      | with_reducible rfl
      | simp only [blank_mk, apply_ite (State.blank F), ite_self, or_true, true_or, keeps_next, h_flt, h_ldg, h_tally, h_vault,
          h_colo, h_dbg, h_bru, h_pwr, h_pulses, h_freeCtr, u_bru, u_vlt, u_tly, u_ldg, u_dbg, u_tenant, bump_blank,
          vaultFault_blank, set_blank, raise_blank, afterTests_blank, unit_VLT_CTRL_STNOW, unit_VLT_EVENT_PERIODIC,
          unit_VLT_STCNT_COUNT]
      | split
      | (intro))

theorem execEntropySample_blank (sample : Nat) (s : State) (h_flt : F.flt) (h_ldg : F.ldg) (h_tally : F.tally)
    (h_vault : F.vault) (h_colo : F.colo) (h_bru : F.bru) (h_pwr : F.pwr) (h_pulses : F.pulses) (u_bru : F.has .bru)
    (u_vlt : F.has .vlt) (u_ldg : F.has .ldg) (u_tenant : F.has .tenant) : Keeps F s (execEntropySample sample s) := by
  unfold execEntropySample
  repeat' (first
      | with_reducible rfl
      | simp only [blank_mk, apply_ite (State.blank F), ite_self, or_true, true_or, keeps_next, h_flt, h_ldg, h_tally, h_vault,
          h_colo, h_bru, h_pwr, h_pulses, u_bru, u_vlt, u_ldg, u_tenant, vaultFault_blank, set_blank, raise_blank,
          unit_VLT_EVENT_HEALTH1, unit_VLT_RAW_SAMPLES]
      | split
      | (intro))

theorem execDrbgReseed_blank (s : State) (h_vault : F.vault) : Keeps F s (execDrbgReseed s) := by
  unfold execDrbgReseed
  repeat' (first
      | with_reducible rfl
      | simp only [blank_mk, apply_ite (State.blank F), ite_self, or_true, true_or, keeps_next, h_vault]
      | split
      | (intro))

theorem execEntropyRawEnd_blank (s : State) (h_vault : F.vault) (u_vlt : F.has .vlt) : Keeps F s (execEntropyRawEnd s) := by
  unfold execEntropyRawEnd
  repeat' (first
      | with_reducible rfl
      | simp only [keeps_next, h_vault, u_vlt, endRaw_blank]
      | split
      | (intro))

theorem execGlitchDetect_blank (s : State) (h_flt : F.flt) (h_ldg : F.ldg) (h_tally : F.tally) (h_vault : F.vault)
    (h_colo : F.colo) (h_bru : F.bru) (h_pwr : F.pwr) (h_pulses : F.pulses) (u_bru : F.has .bru) (u_vlt : F.has .vlt)
    (u_ldg : F.has .ldg) (u_tenant : F.has .tenant) : Keeps F s (execGlitchDetect s) := by
  unfold execGlitchDetect
  repeat' (first
      | with_reducible rfl
      | simp only [keeps_next, h_flt, h_ldg, h_tally, h_vault, h_colo, h_bru, h_pwr, h_pulses, u_bru, u_vlt, u_ldg, u_tenant,
          vaultFault_blank]
      | split
      | (intro))

theorem execScanModeEnable_blank (s : State) (h_flt : F.flt) (h_ldg : F.ldg) (h_tally : F.tally) (h_vault : F.vault)
    (h_colo : F.colo) (h_bru : F.bru) (h_pwr : F.pwr) (h_pulses : F.pulses) (u_bru : F.has .bru) (u_vlt : F.has .vlt)
    (u_ldg : F.has .ldg) (u_tenant : F.has .tenant) : Keeps F s (execScanModeEnable s) := by
  unfold execScanModeEnable
  repeat' (first
      | with_reducible rfl
      | simp only [keeps_next, h_flt, h_ldg, h_tally, h_vault, h_colo, h_bru, h_pwr, h_pulses, u_bru, u_vlt, u_ldg, u_tenant,
          vaultFault_blank]
      | split
      | (intro))

theorem execKeyStorePartitionAccess_blank (s : State) (h_flt : F.flt) (h_ldg : F.ldg) (h_tally : F.tally) (h_vault : F.vault)
    (h_colo : F.colo) (h_bru : F.bru) (h_pwr : F.pwr) (h_pulses : F.pulses) (u_bru : F.has .bru) (u_vlt : F.has .vlt)
    (u_ldg : F.has .ldg) (u_tenant : F.has .tenant) : Keeps F s (execKeyStorePartitionAccess s) := by
  unfold execKeyStorePartitionAccess
  repeat' (first
      | with_reducible rfl
      | simp only [keeps_next, h_flt, h_ldg, h_tally, h_vault, h_colo, h_bru, h_pwr, h_pulses, u_bru, u_vlt, u_ldg, u_tenant,
          vaultFault_blank]
      | split
      | (intro))

theorem execRandom_blank (caller : Nat) (s : State) (h_vault : F.vault) : Keeps F s (execRandom caller s) := by
  unfold execRandom
  repeat' (first
      | with_reducible rfl
      | simp only [keeps_next, h_vault, vaultAsk_blank]
      | split
      | (intro))

theorem execDeriveRotkey_blank (region : Nat) (tenant : Nat) (s : State) (h_vault : F.vault) : Keeps F s (execDeriveRotkey
    region tenant s) := by
  unfold execDeriveRotkey
  repeat' (first
      | with_reducible rfl
      | simp only [keeps_next, h_vault, vaultAsk_blank]
      | split
      | (intro))

theorem execHmacRecord_blank (len : Nat) (data : Nat) (s : State) (h_vault : F.vault) : Keeps F s (execHmacRecord len data s) :=
    by
  unfold execHmacRecord
  repeat' (first
      | with_reducible rfl
      | simp only [keeps_next, h_vault, vaultAsk_blank]
      | split
      | (intro))

theorem execHmacLedger_blank (s : State) (h_ldg : F.ldg) (h_vault : F.vault) (h_pulses : F.pulses) (h_freeCtr : F.freeCtr)
    (u_ldg : F.has .ldg) : Keeps F s (execHmacLedger s) := by
  unfold execHmacLedger
  repeat' (first
      | with_reducible rfl
      | simp only [keeps_next, h_ldg, h_vault, h_pulses, h_freeCtr, u_ldg, askSeal_blank]
      | split
      | (intro))

theorem execVerifyCharter_blank (s : State) (h_vault : F.vault) : Keeps F s (execVerifyCharter s) := by
  unfold execVerifyCharter
  repeat' (first
      | with_reducible rfl
      | simp only [apply_ite (State.blank F), ite_self, keeps_next, h_vault, askOnce_blank]
      | split
      | (intro))

theorem execTenantKeygen_blank (tenant : Nat) (s : State) (h_vault : F.vault) : Keeps F s (execTenantKeygen tenant s) := by
  unfold execTenantKeygen
  repeat' (first
      | with_reducible rfl
      | simp only [keeps_next, h_vault, keydropDone_blank, askOnce_blank]
      | split
      | (intro))

theorem execTenantKeydrop_blank (tenant : Nat) (s : State) (h_vault : F.vault) : Keeps F s (execTenantKeydrop tenant s) := by
  unfold execTenantKeydrop
  repeat' (first
      | with_reducible rfl
      | simp only [keeps_next, h_vault, askOnce_blank]
      | split
      | (intro))

theorem execSignColophon_blank (tenant : Nat) (s : State) (h_vault : F.vault) : Keeps F s (execSignColophon tenant s) := by
  unfold execSignColophon
  repeat' (first
      | with_reducible rfl
      | simp only [apply_ite (State.blank F), ite_self, keeps_next, h_vault, askOnce_blank]
      | split
      | (intro))

theorem execSignRoot_blank (s : State) (h_tally : F.tally) (h_vault : F.vault) (u_tly : F.has .tly) : Keeps F s (execSignRoot s)
    := by
  unfold execSignRoot
  repeat' (first
      | with_reducible rfl
      | simp only [keeps_next, h_tally, h_vault, u_tly, signNext_blank]
      | split
      | (intro))

theorem execVaultServiceDone_blank (pairwise : Nat) (s : State) (h_flt : F.flt) (h_ldg : F.ldg) (h_tally : F.tally)
    (h_vault : F.vault) (h_colo : F.colo) (h_sys : F.sys) (h_bru : F.bru) (h_pwr : F.pwr) (h_pulses : F.pulses)
    (h_freeCtr : F.freeCtr) (u_bru : F.has .bru) (u_vlt : F.has .vlt) (u_tly : F.has .tly) (u_ldg : F.has .ldg)
    (u_tenant : F.has .tenant) : Keeps F s (execVaultServiceDone pairwise s) := by
  unfold execVaultServiceDone
  repeat' (first
      | with_reducible rfl
      | simp only [blank_mk, apply_ite (State.blank F), ite_self, or_true, true_or, keeps_next, h_flt, h_ldg, h_tally, h_vault,
          h_colo, h_sys, h_bru, h_pwr, h_pulses, h_freeCtr, u_bru, u_vlt, u_tly, u_ldg, u_tenant, vaultFault_blank,
          serveRequest_blank]
      | split
      | (intro))

theorem nonceWrite_blank (s : State) (service : Nat) (h_vault : F.vault) (h_freeCtr : F.freeCtr) (u_vlt : F.has .vlt) :
    (State.nonceWrite s service).blank F = s.blank F := by
  unfold State.nonceWrite
  repeat' (first
      | with_reducible rfl
      | simp only [blank_mk, apply_ite (State.blank F), ite_self, or_true, true_or, h_vault, h_freeCtr, u_vlt, set_blank,
          issueNonce_blank, unit_VLT_NONCE_REQ_SERVICE]
      | split
      | (intro))

theorem execNonceRequest_blank (service : Nat) (ten : Nat) (tag : Nat) (s : State) (h_vault : F.vault) (h_pulses : F.pulses)
    (h_freeCtr : F.freeCtr) (u_ghp : F.has .ghp) (u_vlt : F.has .vlt) : Keeps F s (execNonceRequest service ten tag s) := by
  unfold execNonceRequest
  repeat' (first
      | with_reducible rfl
      | simp only [implies_true, keeps_next, h_vault, h_freeCtr, u_vlt, nonceWrite_blank]
      | (with_reducible refine (hostWrite_blank _ _ _ _ _ _ _ (by first | assumption | exact u_all _) (by first | assumption | exact u_all _) ?_).trans ?_)
      | split
      | (intro))

theorem execNonceLifetimeEnd_blank (slot : Nat) (s : State) (h_vault : F.vault) : Keeps F s (execNonceLifetimeEnd slot s) := by
  unfold execNonceLifetimeEnd
  repeat' (first
      | with_reducible rfl
      | simp only [blank_mk, or_true, true_or, keeps_next, h_vault]
      | split
      | (intro))

theorem execLedgerClear_blank (ten : Nat) (tag : Nat) (s : State) (h_flt : F.flt) (h_ldg : F.ldg) (h_tally : F.tally)
    (h_vault : F.vault) (h_colo : F.colo) (h_dbg : F.dbg) (h_pulses : F.pulses) (h_freeCtr : F.freeCtr) (u_ghp : F.has .ghp)
    (u_vlt : F.has .vlt) (u_tly : F.has .tly) (u_ldg : F.has .ldg) (u_dbg : F.has .dbg) (u_tenant : F.has .tenant) : Keeps F s
    (execLedgerClear ten tag s) := by
  unfold execLedgerClear
  repeat' (first
      | with_reducible rfl
      | simp only [keeps_next, h_flt, h_ldg, h_tally, h_vault, h_colo, h_dbg, h_pulses, h_freeCtr, u_ghp, u_vlt, u_tly, u_ldg,
          u_dbg, u_tenant, tokenOf_blank]
      | split
      | (intro))

theorem execZeroise_blank (ten : Nat) (tag : Nat) (s : State) (h_flt : F.flt) (h_ldg : F.ldg) (h_tally : F.tally)
    (h_vault : F.vault) (h_colo : F.colo) (h_dbg : F.dbg) (h_pulses : F.pulses) (h_freeCtr : F.freeCtr) (u_ghp : F.has .ghp)
    (u_vlt : F.has .vlt) (u_tly : F.has .tly) (u_ldg : F.has .ldg) (u_dbg : F.has .dbg) (u_tenant : F.has .tenant) : Keeps F s
    (execZeroise ten tag s) := by
  unfold execZeroise
  repeat' (first
      | with_reducible rfl
      | simp only [keeps_next, h_flt, h_ldg, h_tally, h_vault, h_colo, h_dbg, h_pulses, h_freeCtr, u_ghp, u_vlt, u_tly, u_ldg,
          u_dbg, u_tenant, tokenOf_blank]
      | split
      | (intro))

theorem execProvision_blank (ten : Nat) (tag : Nat) (s : State) (h_flt : F.flt) (h_ldg : F.ldg) (h_tally : F.tally)
    (h_vault : F.vault) (h_colo : F.colo) (h_dbg : F.dbg) (h_pulses : F.pulses) (h_freeCtr : F.freeCtr) (u_ghp : F.has .ghp)
    (u_vlt : F.has .vlt) (u_tly : F.has .tly) (u_ldg : F.has .ldg) (u_dbg : F.has .dbg) (u_tenant : F.has .tenant) : Keeps F s
    (execProvision ten tag s) := by
  unfold execProvision
  repeat' (first
      | with_reducible rfl
      | simp only [keeps_next, h_flt, h_ldg, h_tally, h_vault, h_colo, h_dbg, h_pulses, h_freeCtr, u_ghp, u_vlt, u_tly, u_ldg,
          u_dbg, u_tenant, tokenOf_blank]
      | split
      | (intro))

theorem execRekeyTally_blank (ten : Nat) (tag : Nat) (s : State) (h_flt : F.flt) (h_ldg : F.ldg) (h_tally : F.tally)
    (h_vault : F.vault) (h_colo : F.colo) (h_dbg : F.dbg) (h_pulses : F.pulses) (h_freeCtr : F.freeCtr) (u_ghp : F.has .ghp)
    (u_vlt : F.has .vlt) (u_tly : F.has .tly) (u_ldg : F.has .ldg) (u_dbg : F.has .dbg) (u_tenant : F.has .tenant) : Keeps F s
    (execRekeyTally ten tag s) := by
  unfold execRekeyTally
  repeat' (first
      | with_reducible rfl
      | simp only [keeps_next, h_flt, h_ldg, h_tally, h_vault, h_colo, h_dbg, h_pulses, h_freeCtr, u_ghp, u_vlt, u_tly, u_ldg,
          u_dbg, u_tenant, tokenOf_blank]
      | split
      | (intro))

theorem execRevokeOfficer_blank (ten : Nat) (tag : Nat) (s : State) (h_flt : F.flt) (h_ldg : F.ldg) (h_tally : F.tally)
    (h_vault : F.vault) (h_colo : F.colo) (h_dbg : F.dbg) (h_pulses : F.pulses) (h_freeCtr : F.freeCtr) (u_ghp : F.has .ghp)
    (u_vlt : F.has .vlt) (u_tly : F.has .tly) (u_ldg : F.has .ldg) (u_dbg : F.has .dbg) (u_tenant : F.has .tenant) : Keeps F s
    (execRevokeOfficer ten tag s) := by
  unfold execRevokeOfficer
  repeat' (first
      | with_reducible rfl
      | simp only [keeps_next, h_flt, h_ldg, h_tally, h_vault, h_colo, h_dbg, h_pulses, h_freeCtr, u_ghp, u_vlt, u_tly, u_ldg,
          u_dbg, u_tenant, tokenOf_blank]
      | split
      | (intro))

theorem execDebugUnlock_blank (ten : Nat) (tag : Nat) (s : State) (h_flt : F.flt) (h_ldg : F.ldg) (h_tally : F.tally)
    (h_vault : F.vault) (h_colo : F.colo) (h_dbg : F.dbg) (h_pulses : F.pulses) (h_freeCtr : F.freeCtr) (u_ghp : F.has .ghp)
    (u_vlt : F.has .vlt) (u_tly : F.has .tly) (u_ldg : F.has .ldg) (u_dbg : F.has .dbg) (u_tenant : F.has .tenant) : Keeps F s
    (execDebugUnlock ten tag s) := by
  unfold execDebugUnlock
  repeat' (first
      | with_reducible rfl
      | simp only [keeps_next, h_flt, h_ldg, h_tally, h_vault, h_colo, h_dbg, h_pulses, h_freeCtr, u_ghp, u_vlt, u_tly, u_ldg,
          u_dbg, u_tenant, tokenOf_blank]
      | split
      | (intro))

theorem execEntropyRaw_blank (ten : Nat) (tag : Nat) (s : State) (h_flt : F.flt) (h_ldg : F.ldg) (h_tally : F.tally)
    (h_vault : F.vault) (h_colo : F.colo) (h_dbg : F.dbg) (h_pulses : F.pulses) (h_freeCtr : F.freeCtr) (u_ghp : F.has .ghp)
    (u_vlt : F.has .vlt) (u_tly : F.has .tly) (u_ldg : F.has .ldg) (u_dbg : F.has .dbg) (u_tenant : F.has .tenant) : Keeps F s
    (execEntropyRaw ten tag s) := by
  unfold execEntropyRaw
  repeat' (first
      | with_reducible rfl
      | simp only [keeps_next, h_flt, h_ldg, h_tally, h_vault, h_colo, h_dbg, h_pulses, h_freeCtr, u_ghp, u_vlt, u_tly, u_ldg,
          u_dbg, u_tenant, tokenOf_blank]
      | split
      | (intro))

theorem execTokenReject_blank (ecdsaOk : Bool) (mldsaOk : Bool) (ten : Nat) (tag : Nat) (s : State) (h_flt : F.flt)
    (h_ldg : F.ldg) (h_tally : F.tally) (h_vault : F.vault) (h_colo : F.colo) (h_dbg : F.dbg) (h_pulses : F.pulses)
    (h_freeCtr : F.freeCtr) (u_ghp : F.has .ghp) (u_vlt : F.has .vlt) (u_tly : F.has .tly) (u_ldg : F.has .ldg)
    (u_dbg : F.has .dbg) (u_tenant : F.has .tenant) : Keeps F s (execTokenReject ecdsaOk mldsaOk ten tag s) := by
  unfold execTokenReject
  repeat' (first
      | with_reducible rfl
      | simp only [implies_true, keeps_next, h_flt, h_ldg, h_tally, h_vault, h_colo, h_dbg, h_pulses, h_freeCtr, u_vlt, u_tly,
          u_ldg, u_dbg, u_tenant, tokenGo_blank]
      | (with_reducible refine (hostWrite_blank _ _ _ _ _ _ _ (by first | assumption | exact u_all _) (by first | assumption | exact u_all _) ?_).trans ?_)
      | split
      | (intro))

theorem modHop_blank (s : State) (h : HopId) (f : Hop → Hop) (h_hops : F.hops) : (State.modHop s h f).blank F = s.blank F := by
  unfold State.modHop
  repeat' (first
      | with_reducible rfl
      | simp only [blank_mk, or_true, true_or, h_hops]
      | split
      | (intro))

theorem setLatencies_blank (s : State) (l : List (HopId × Nat)) (h_hops : F.hops) : (State.setLatencies s l).blank F = s.blank F
    := by
  unfold State.setLatencies
  repeat' (first
      | with_reducible rfl
      | simp only [implies_true, h_hops, modHop_blank]
      | (with_reducible refine (foldl_blank _ _ _ ?_).trans ?_)
      | split
      | (intro))

theorem hopPort_blank (s : State) (h : HopId) (h_freeCtr : F.freeCtr) : (State.hopPort s h).2.blank F = s.blank F := by
  unfold State.hopPort
  repeat' (first
      | with_reducible rfl
      | simp only [h_freeCtr, fresh_blank]
      | split
      | (intro))

theorem traceSender_blank (s : State) (h : HopId) (what : Nat) (h_hubs : F.hubs) (h_ldg : F.ldg) (h_flue : F.flue)
    (h_pulses : F.pulses) (h_freeCtr : F.freeCtr) (u_ldg : F.has .ldg) (u_hubTr : F.has .hubTr) : (State.traceSender s h
    what).blank F = s.blank F := by
  unfold State.traceSender
  repeat' (first
      | with_reducible rfl
      | simp only [h_hubs, h_ldg, h_flue, h_pulses, h_freeCtr, u_ldg, u_hubTr, fresh_blank, traceHop_blank]
      | split
      | (intro))

theorem hopDownAt_blank (s : State) (h : HopId) (h_probes : F.probes) (h_hubs : F.hubs) (h_flt : F.flt) (h_freeCtr : F.freeCtr)
    (u_hubFlt : F.has .hubFlt) : (State.hopDownAt s h).blank F = s.blank F := by
  unfold State.hopDownAt
  repeat' (first
      | with_reducible rfl
      | simp only [h_probes, h_hubs, h_flt, h_freeCtr, u_hubFlt, modProbe_blank, kilnFault_blank, hubFault_blank, hopPort_blank]
      | split
      | (intro))

theorem folioLosesHub_blank (s : State) (r : Nat) (n : Nat) (h_hubs : F.hubs) (h_master : F.master) (h_flt : F.flt)
    (h_fl : F.fl) (h_tally : F.tally) (h_link : F.link) (h_colo : F.colo) (h_bru : F.bru) (h_flue : F.flue)
    (h_pulses : F.pulses) (h_freeCtr : F.freeCtr) (u_bru : F.has .bru) (u_flt : F.has .flt) (u_ccd : F.has .ccd)
    (u_tly : F.has .tly) (u_folio : F.has .folio) (u_cat : F.has .cat) (u_clp : F.has .clp) (u_tenant : F.has .tenant) :
    (State.folioLosesHub s r n).blank F = s.blank F := by
  unfold State.folioLosesHub
  repeat' (first
      | with_reducible rfl
      | simp only [apply_ite (State.blank F), ite_self, h_hubs, h_master, h_flt, h_fl, h_tally, h_link, h_colo, h_bru, h_flue,
          h_pulses, h_freeCtr, u_bru, u_flt, u_ccd, u_tly, u_folio, u_cat, u_clp, u_tenant, admitWaiting_blank, setFolio_blank,
          voidAnd_blank, markBehind_blank]
      | split
      | (intro))

theorem undefineMove_blank (s : State) (r : Nat) (t : Nat) (h_probes : F.probes) (h_freeCtr : F.freeCtr) : (State.undefineMove s
    r t).blank F = s.blank F := by
  unfold State.undefineMove
  repeat' (first
      | with_reducible rfl
      | simp only [implies_true, blank_mk, apply_ite (State.blank F), ite_self, or_true, true_or, h_probes, h_freeCtr,
          modProbe_blank, fresh_blank]
      | (with_reducible refine (foldl_blank _ _ _ ?_).trans ?_)
      | (with_reducible refine (foldl_blank_fst _ _ _ ?_).trans ?_)
      | (with_reducible refine (foldl_blank_snd _ _ _ ?_).trans ?_)
      | (with_reducible refine (foldl_blank_trd _ _ _ ?_).trans ?_)
      | split
      | (rename_i hq; replace hq := congrArg (fun p => State.blank F p.1) hq; simp only [implies_true, blank_mk, apply_ite (State.blank F), ite_self, or_true, true_or, h_probes, h_freeCtr, modProbe_blank,
          fresh_blank] at hq; exact hq.symm)
      | (rename_i hq; replace hq := congrArg (fun p => State.blank F p.2) hq; simp only [implies_true, blank_mk, apply_ite (State.blank F), ite_self, or_true, true_or, h_probes, h_freeCtr, modProbe_blank,
          fresh_blank] at hq; exact hq.symm)
      | (rename_i hq; replace hq := congrArg (fun p => State.blank F p.2.2) hq; simp only [implies_true, blank_mk, apply_ite (State.blank F), ite_self, or_true, true_or, h_probes, h_freeCtr, modProbe_blank,
          fresh_blank] at hq; exact hq.symm)
      | (intro))

theorem loseHubState_blank (s : State) (r : Nat) (h_probes : F.probes) (h_hubs : F.hubs) (h_flt : F.flt) (h_pulses : F.pulses)
    (h_freeCtr : F.freeCtr) (u_hubFlt : F.has .hubFlt) : (State.loseHubState s r).blank F = s.blank F := by
  unfold State.loseHubState
  repeat' (first
      | with_reducible rfl
      | simp only [implies_true, blank_mk, apply_ite (State.blank F), ite_self, or_true, true_or, h_probes, h_hubs, h_flt,
          h_pulses, h_freeCtr, u_hubFlt, undefineMove_blank, set_blank, modHub_blank, modIft_blank, dropSlot0_blank,
          unit_RH_FLT_FIRSTVAL_VALID]
      | (with_reducible refine (foldl_blank _ _ _ ?_).trans ?_)
      | split
      | (intro))

theorem loseHub_blank (s : State) (r : Nat) (h_probes : F.probes) (h_hubs : F.hubs) (h_master : F.master) (h_lost : F.lost)
    (h_flt : F.flt) (h_fl : F.fl) (h_tally : F.tally) (h_vault : F.vault) (h_link : F.link) (h_colo : F.colo) (h_sys : F.sys)
    (h_bru : F.bru) (h_flue : F.flue) (h_pulses : F.pulses) (h_freeCtr : F.freeCtr) (u_bru : F.has .bru) (u_flt : F.has .flt)
    (u_ccd : F.has .ccd) (u_tly : F.has .tly) (u_folio : F.has .folio) (u_cat : F.has .cat) (u_clp : F.has .clp)
    (u_tenant : F.has .tenant) (u_hubFlt : F.has .hubFlt) : (State.loseHub s r).blank F = s.blank F := by
  unfold State.loseHub
  repeat' (first
      | with_reducible rfl
      | simp only [implies_true, blank_mk, apply_ite (State.blank F), ite_self, or_true, true_or, h_probes, h_hubs, h_master,
          h_lost, h_flt, h_fl, h_tally, h_vault, h_link, h_colo, h_sys, h_bru, h_flue, h_pulses, h_freeCtr, u_bru, u_flt, u_ccd,
          u_tly, u_folio, u_cat, u_clp, u_tenant, u_hubFlt, failCut_blank, kilnFault_blank, discardSweep_blank,
          loseHubState_blank, folioLosesHub_blank, kickSweeps_blank]
      | (with_reducible refine (foldl_blank _ _ _ ?_).trans ?_)
      | split
      | (intro))

theorem hopDown_blank (s : State) (h : HopId) (h_probes : F.probes) (h_hubs : F.hubs) (h_master : F.master) (h_lost : F.lost)
    (h_hops : F.hops) (h_flt : F.flt) (h_fl : F.fl) (h_ldg : F.ldg) (h_tally : F.tally) (h_vault : F.vault) (h_link : F.link)
    (h_colo : F.colo) (h_sys : F.sys) (h_bru : F.bru) (h_flue : F.flue) (h_pulses : F.pulses) (h_freeCtr : F.freeCtr)
    (u_bru : F.has .bru) (u_flt : F.has .flt) (u_ccd : F.has .ccd) (u_tly : F.has .tly) (u_ldg : F.has .ldg)
    (u_folio : F.has .folio) (u_cat : F.has .cat) (u_clp : F.has .clp) (u_tenant : F.has .tenant) (u_hubFlt : F.has .hubFlt)
    (u_hubTr : F.has .hubTr) : (State.hopDown s h).blank F = s.blank F := by
  unfold State.hopDown
  repeat' (first
      | with_reducible rfl
      | simp only [implies_true, h_probes, h_hubs, h_master, h_lost, h_hops, h_flt, h_fl, h_ldg, h_tally, h_vault, h_link,
          h_colo, h_sys, h_bru, h_flue, h_pulses, h_freeCtr, u_bru, u_flt, u_ccd, u_tly, u_ldg, u_folio, u_cat, u_clp, u_tenant,
          u_hubFlt, u_hubTr, modHop_blank, traceSender_blank, hopDownAt_blank, loseHub_blank]
      | (with_reducible refine (foldl_blank _ _ _ ?_).trans ?_)
      | split
      | (intro))

theorem sendTime_blank (s : State) (h : HopId) (round : Nat) (gt : Nat) (h_flue : F.flue) (h_net : F.net) : (State.sendTime s h
    round gt).blank F = s.blank F := by
  unfold State.sendTime
  repeat' (first
      | with_reducible rfl
      | simp only [blank_mk, apply_ite (State.blank F), ite_self, or_true, true_or, h_flue, h_net, send_blank]
      | split
      | (intro))

theorem execFuseWord_blank (addr : Nat) (data : Nat) (parOk : Bool) (s : State) (h_hubs : F.hubs) (h_flt : F.flt) (h_fl : F.fl)
    (h_ldg : F.ldg) (h_tally : F.tally) (h_link : F.link) (h_colo : F.colo) (h_sys : F.sys) (h_stk : F.stk) (h_bru : F.bru)
    (h_pwr : F.pwr) (h_flue : F.flue) (h_pulses : F.pulses) (h_freeCtr : F.freeCtr) (u_bru : F.has .bru) (u_flt : F.has .flt)
    (u_ccd : F.has .ccd) (u_stk : F.has .stk) (u_channel : F.has .channel) (u_ldg : F.has .ldg) (u_folio : F.has .folio)
    (u_cat : F.has .cat) (u_clp : F.has .clp) (u_tenant : F.has .tenant) : Keeps F s (execFuseWord addr data parOk s) := by
  unfold execFuseWord
  repeat' (first
      | with_reducible rfl
      | simp only [blank_mk, apply_ite (State.blank F), ite_self, or_true, true_or, keeps_next, h_hubs, h_flt, h_fl, h_ldg,
          h_tally, h_link, h_colo, h_sys, h_stk, h_bru, h_pwr, h_flue, h_pulses, h_freeCtr, u_bru, u_flt, u_ccd, u_stk,
          u_channel, u_ldg, u_folio, u_cat, u_clp, u_tenant, bruNext_blank, bruRefuse_blank, emit_blank]
      | split
      | (intro))

theorem execFlueTrainingDone_blank (w : Nat) (h : Nat) (spine : Nat) (hopsOk : Bool) (answered : Bool) (detail : Nat)
    (latencies : List (HopId × Nat)) (s : State) (h_cfg : F.cfg) (h_hubs : F.hubs) (h_hops : F.hops) (h_flt : F.flt)
    (h_fl : F.fl) (h_ldg : F.ldg) (h_tally : F.tally) (h_link : F.link) (h_colo : F.colo) (h_sys : F.sys) (h_stk : F.stk)
    (h_bru : F.bru) (h_pwr : F.pwr) (h_flue : F.flue) (h_pulses : F.pulses) (h_freeCtr : F.freeCtr) (u_bru : F.has .bru)
    (u_flt : F.has .flt) (u_ccd : F.has .ccd) (u_stk : F.has .stk) (u_channel : F.has .channel) (u_ldg : F.has .ldg)
    (u_folio : F.has .folio) (u_cat : F.has .cat) (u_clp : F.has .clp) (u_tenant : F.has .tenant) : Keeps F s
    (execFlueTrainingDone w h spine hopsOk answered detail latencies s) := by
  unfold execFlueTrainingDone
  repeat' (first
      | with_reducible rfl
      | simp only [blank_mk, or_true, true_or, keeps_next, h_cfg, h_hubs, h_hops, h_flt, h_fl, h_ldg, h_tally, h_link, h_colo,
          h_sys, h_stk, h_bru, h_pwr, h_flue, h_pulses, h_freeCtr, u_bru, u_flt, u_ccd, u_stk, u_channel, u_ldg, u_folio, u_cat,
          u_clp, u_tenant, setLatencies_blank, bruNext_blank, bruRefuse_blank]
      | split
      | (intro))

theorem selfTested_blank (s : State) (r : Nat) (t : Nat) (mask : Nat) (h_bru : F.bru) (h_flue : F.flue) : (State.selfTested s r
    t mask).blank F = s.blank F := by
  unfold State.selfTested
  repeat' (first
      | with_reducible rfl
      | simp only [blank_mk, apply_ite (State.blank F), ite_self, or_true, true_or, h_bru, h_flue, sendAll_blank]
      | split
      | (intro))

theorem execPstResult_blank (region : Nat) (tile : Nat) (mask : Nat) (s : State) (h_bru : F.bru) (h_flue : F.flue) : Keeps F s
    (execPstResult region tile mask s) := by
  unfold execPstResult
  repeat' (first
      | with_reducible rfl
      | simp only [blank_mk, or_true, true_or, keeps_next, h_bru, h_flue, selfTested_blank]
      | split
      | (intro))

theorem execPstTimeout_blank (region : Nat) (tile : Nat) (s : State) (h_bru : F.bru) (h_flue : F.flue) (h_freeCtr : F.freeCtr) :
    Keeps F s (execPstTimeout region tile s) := by
  unfold execPstTimeout
  repeat' (first
      | with_reducible rfl
      | simp only [blank_mk, apply_ite (State.blank F), ite_self, or_true, true_or, keeps_next, h_bru, h_flue, h_freeCtr,
          fresh_blank, selfTested_blank]
      | split
      | (intro))

theorem execPstSum_blank (region : Nat) (failures : Nat) (tiles : List Nat) (s : State) (h_hubs : F.hubs) (h_flt : F.flt)
    (h_fl : F.fl) (h_ldg : F.ldg) (h_tally : F.tally) (h_link : F.link) (h_colo : F.colo) (h_sys : F.sys) (h_stk : F.stk)
    (h_bru : F.bru) (h_pwr : F.pwr) (h_flue : F.flue) (h_pulses : F.pulses) (h_freeCtr : F.freeCtr) (u_bru : F.has .bru)
    (u_flt : F.has .flt) (u_ccd : F.has .ccd) (u_stk : F.has .stk) (u_channel : F.has .channel) (u_ldg : F.has .ldg)
    (u_folio : F.has .folio) (u_cat : F.has .cat) (u_clp : F.has .clp) (u_tenant : F.has .tenant) : Keeps F s (execPstSum region
    failures tiles s) := by
  unfold execPstSum
  repeat' (first
      | with_reducible rfl
      | simp only [implies_true, blank_mk, apply_ite (State.blank F), ite_self, or_true, true_or, keeps_next, h_hubs, h_flt,
          h_fl, h_ldg, h_tally, h_link, h_colo, h_sys, h_stk, h_bru, h_pwr, h_flue, h_pulses, h_freeCtr, u_bru, u_flt, u_ccd,
          u_stk, u_channel, u_ldg, u_folio, u_cat, u_clp, u_tenant, bump_blank, bruNext_blank, recordOf_blank, raise_blank,
          recv_blank, unit_BRU_EVENT_PSTFAIL, unit_BRU_PST_FAILS]
      | (with_reducible refine (foldl_blank _ _ _ ?_).trans ?_)
      | split
      | (intro))

theorem goWrite_blank (s : State) (h_bru : F.bru) (u_bru : F.has .bru) : (State.goWrite s).blank F = s.blank F := by
  unfold State.goWrite
  repeat' (first
      | with_reducible rfl
      | simp only [blank_mk, apply_ite (State.blank F), ite_self, or_true, true_or, h_bru, u_bru, raise_blank, bruLoad_blank,
          unit_BRU_EVENT_GOBUSY]
      | split
      | (intro))

theorem execCharterGo_blank (ten : Nat) (tag : Nat) (s : State) (h_bru : F.bru) (h_pulses : F.pulses) (u_ghp : F.has .ghp)
    (u_bru : F.has .bru) : Keeps F s (execCharterGo ten tag s) := by
  unfold execCharterGo
  repeat' (first
      | with_reducible rfl
      | simp only [implies_true, keeps_next, h_bru, u_bru, goWrite_blank]
      | (with_reducible refine (hostWriteIn_blank _ _ _ _ _ _ _ _ (by first | assumption | exact u_all _) (by first | assumption | exact u_all _) ?_).trans ?_)
      | split
      | (intro))

theorem execCharterGoTimeout_blank (s : State) (h_ldg : F.ldg) (h_bru : F.bru) (h_pwr : F.pwr) (h_pulses : F.pulses)
    (u_bru : F.has .bru) (u_ldg : F.has .ldg) : Keeps F s (execCharterGoTimeout s) := by
  unfold execCharterGoTimeout
  repeat' (first
      | with_reducible rfl
      | simp only [apply_ite (State.blank F), ite_self, keeps_next, h_ldg, h_bru, h_pwr, h_pulses, u_bru, u_ldg,
          bruRefuse_blank]
      | split
      | (intro))

theorem execCharterVerifyDone_blank (image : Image) (ckh : Nat) (busErr : Option (Nat × Nat × Nat)) (s : State) (h_cfg : F.cfg)
    (h_hubs : F.hubs) (h_master : F.master) (h_flt : F.flt) (h_fl : F.fl) (h_ldg : F.ldg) (h_tally : F.tally) (h_link : F.link)
    (h_colo : F.colo) (h_sys : F.sys) (h_stk : F.stk) (h_bru : F.bru) (h_pwr : F.pwr) (h_flue : F.flue) (h_pulses : F.pulses)
    (h_freeCtr : F.freeCtr) (u_all : ∀ u, F.has u = true) : Keeps F s (execCharterVerifyDone image ckh busErr s) := by
  unfold execCharterVerifyDone
  repeat' (first
      | with_reducible rfl
      | simp only [implies_true, blank_mk, or_true, true_or, keeps_next, h_cfg, h_hubs, h_master, h_flt, h_fl, h_ldg, h_tally,
          h_link, h_colo, h_sys, h_stk, h_bru, h_pwr, h_flue, h_pulses, h_freeCtr, u_all, busError_blank, bruVerified_blank,
          bruRefuse_blank]
      | split
      | (intro))

theorem execChData_blank (region : Nat) (part : Nat) (last : Bool) (sect : Nat) (s : State) (h_hubs : F.hubs) (h_ldg : F.ldg)
    (h_flue : F.flue) (h_pulses : F.pulses) (u_ldg : F.has .ldg) (u_hubTr : F.has .hubTr) : Keeps F s (execChData region part
    last sect s) := by
  unfold execChData
  repeat' (first
      | with_reducible rfl
      | simp only [keeps_next, h_hubs, h_ldg, h_flue, h_pulses, u_ldg, u_hubTr, tryVotes_blank, recv_blank, modHub_blank,
          send_blank]
      | split
      | (intro))

theorem execChAck_blank (region : Nat) (valid : Bool) (sect : Nat) (s : State) (h_probes : F.probes) (h_hubs : F.hubs)
    (h_flt : F.flt) (h_fl : F.fl) (h_ldg : F.ldg) (h_tally : F.tally) (h_link : F.link) (h_colo : F.colo) (h_sys : F.sys)
    (h_stk : F.stk) (h_bru : F.bru) (h_pwr : F.pwr) (h_flue : F.flue) (h_pulses : F.pulses) (h_freeCtr : F.freeCtr)
    (u_bru : F.has .bru) (u_flt : F.has .flt) (u_ccd : F.has .ccd) (u_stk : F.has .stk) (u_channel : F.has .channel)
    (u_ldg : F.has .ldg) (u_folio : F.has .folio) (u_cat : F.has .cat) (u_clp : F.has .clp) (u_tenant : F.has .tenant)
    (u_probe : F.has .probe) : Keeps F s (execChAck region valid sect s) := by
  unfold execChAck
  repeat' (first
      | with_reducible rfl
      | simp only [implies_true, blank_mk, apply_ite (State.blank F), or_true, true_or, keeps_next, h_probes, h_hubs, h_flt,
          h_fl, h_ldg, h_tally, h_link, h_colo, h_sys, h_stk, h_bru, h_pwr, h_flue, h_pulses, h_freeCtr, u_bru, u_flt, u_ldg,
          u_probe, qualify_blank, recv_blank, modHub_blank, amendVotes_blank]
      | (with_reducible refine (subStep_blank _ _ (by first | assumption | exact u_all _) (by first | assumption | exact u_all _) (by first | assumption | exact u_all _) (by first | assumption | exact u_all _) (by first | assumption | exact u_all _) (by first | assumption | exact u_all _) (by first | assumption | exact u_all _) (by first | assumption | exact u_all _) (by first | assumption | exact u_all _) (by first | assumption | exact u_all _) (by first | assumption | exact u_all _) (by first | assumption | exact u_all _) (by first | assumption | exact u_all _) (by first | assumption | exact u_all _) (by first | assumption | exact u_all _) (by first | assumption | exact u_all _) (by first | assumption | exact u_all _) (by first | assumption | exact u_all _) (by first | assumption | exact u_all _) (by first | assumption | exact u_all _) (by first | assumption | exact u_all _) (by first | assumption | exact u_all _) (by first | assumption | exact u_all _) (by first | assumption | exact u_all _) ?_).trans ?_)
      | split
      | (intro))

theorem execClpQualDone_blank (clp : Nat) (res : Nat) (errs : Nat) (s : State) (h_probes : F.probes) (h_flt : F.flt)
    (h_ldg : F.ldg) (h_link : F.link) (h_bru : F.bru) (h_pwr : F.pwr) (h_flue : F.flue) (h_pulses : F.pulses)
    (u_bru : F.has .bru) (u_flt : F.has .flt) (u_ldg : F.has .ldg) (u_probe : F.has .probe) : Keeps F s (execClpQualDone clp res
    errs s) := by
  unfold execClpQualDone
  repeat' (first
      | with_reducible rfl
      | simp only [blank_mk, apply_ite (State.blank F), ite_self, or_true, true_or, keeps_next, h_probes, h_flt, h_ldg, h_link,
          h_bru, h_pwr, h_flue, h_pulses, u_bru, u_flt, u_ldg, u_probe, modPort_blank, enablePort_blank, recordOf_blank,
          setPortBit_blank, qualCheck_blank, raise_blank, emit_blank, unit_BRU_EVENT_LQFAIL, unit_CHR_LQFAIL_CLP,
          unit_CHR_LQPASS_CLP]
      | split
      | (intro))

theorem requalifyWrite_blank (s : State) (clp : Nat) (h_bru : F.bru) (h_pulses : F.pulses) (u_bru : F.has .bru) :
    (State.requalifyWrite s clp).blank F = s.blank F := by
  unfold State.requalifyWrite
  repeat' (first
      | with_reducible rfl
      | simp only [blank_mk, apply_ite (State.blank F), ite_self, or_true, true_or, h_bru, h_pulses, u_bru, set_blank,
          emit_blank, unit_CHR_LQREQ_CLP]
      | split
      | (intro))

theorem execLinkRequalify_blank (clp : Nat) (ten : Nat) (tag : Nat) (s : State) (h_bru : F.bru) (h_pulses : F.pulses)
    (u_ghp : F.has .ghp) (u_bru : F.has .bru) : Keeps F s (execLinkRequalify clp ten tag s) := by
  unfold execLinkRequalify
  repeat' (first
      | with_reducible rfl
      | simp only [implies_true, keeps_next, h_bru, h_pulses, u_bru, requalifyWrite_blank]
      | (with_reducible refine (hostWrite_blank _ _ _ _ _ _ _ (by first | assumption | exact u_all _) (by first | assumption | exact u_all _) ?_).trans ?_)
      | split
      | (intro))

theorem execAmendGo_blank (image : Image) (busErr : Option (Nat × Nat × Nat)) (ten : Nat) (tag : Nat) (s : State)
    (h_hubs : F.hubs) (h_flt : F.flt) (h_fl : F.fl) (h_ldg : F.ldg) (h_tally : F.tally) (h_link : F.link) (h_colo : F.colo)
    (h_stk : F.stk) (h_bru : F.bru) (h_flue : F.flue) (h_pulses : F.pulses) (h_freeCtr : F.freeCtr) (u_ghp : F.has .ghp)
    (u_bru : F.has .bru) (u_flt : F.has .flt) (u_ccd : F.has .ccd) (u_stk : F.has .stk) (u_ldg : F.has .ldg)
    (u_folio : F.has .folio) (u_cat : F.has .cat) (u_clp : F.has .clp) (u_tenant : F.has .tenant) : Keeps F s (execAmendGo image
    busErr ten tag s) := by
  unfold execAmendGo
  repeat' (first
      | with_reducible rfl
      | simp only [blank_mk, apply_ite (State.blank F), ite_self, or_true, true_or, keeps_next, h_hubs, h_flt, h_fl, h_ldg,
          h_tally, h_link, h_colo, h_stk, h_bru, h_flue, h_pulses, h_freeCtr, u_bru, u_flt, u_ccd, u_stk, u_ldg, u_folio, u_cat,
          u_clp, u_tenant, fresh_blank, busError_blank, amendReject_blank, kilnPropose_blank, raise_blank, sendCharter_blank,
          setAll_blank, List.all_cons, List.all_nil, Bool.and_self, unit_CHR_AMST_BUSY, unit_CHR_AMST_DROPPED,
          unit_CHR_AMST_REASON]
      | (with_reducible refine (hostWrite_blank _ _ _ _ _ _ _ (by first | assumption | exact u_all _) (by first | assumption | exact u_all _) ?_).trans ?_)
      | split
      | (intro))

theorem ageTime_blank (s : State) (e : Nat × HopId × Nat × Nat) (h_flue : F.flue) (h_net : F.net) : (State.ageTime s e).blank F
    = s.blank F := by
  unfold State.ageTime
  repeat' (first
      | with_reducible rfl
      | simp only [blank_mk, apply_ite (State.blank F), ite_self, or_true, true_or, h_flue, h_net]
      | split
      | (intro))

theorem flueSync_blank (s : State) (h_net : F.net) : (State.flueSync s).blank F = s.blank F := by
  unfold State.flueSync
  repeat' (first
      | with_reducible rfl
      | simp only [blank_mk, or_true, true_or, h_net]
      | (with_reducible refine (foldl_blank _ _ _ ?_).trans ?_)
      | split
      | (intro))

theorem grant_blank (s : State) (n : Node) (offers : List Offer) (h : HopId) (h_net : F.net) : (State.grant s n offers h).blank
    F = s.blank F := by
  unfold State.grant
  repeat' (first
      | with_reducible rfl
      | simp only [blank_mk, apply_ite (State.blank F), or_true, true_or, h_net]
      | split
      | (intro))

theorem grantAt_blank (s : State) (n : Node) (offers : List Offer) (h_net : F.net) : (State.grantAt s n offers).blank F =
    s.blank F := by
  unfold State.grantAt
  repeat' (first
      | with_reducible rfl
      | simp only [implies_true, h_net, grant_blank]
      | (with_reducible refine (foldl_blank _ _ _ ?_).trans ?_)
      | split
      | (intro))

theorem flueTick_blank (s : State) (h_flue : F.flue) (h_net : F.net) : (State.flueTick s).blank F = s.blank F := by
  unfold State.flueTick
  repeat' (first
      | with_reducible rfl
      | simp only [implies_true, blank_mk, or_true, true_or, h_flue, h_net, grantAt_blank, ageTime_blank, flueSync_blank]
      | (with_reducible refine (foldl_blank _ _ _ ?_).trans ?_)
      | split
      | (intro))

theorem replay_blank (s : State) (h : HopId) (h_net : F.net) (h_freeCtr : F.freeCtr) : (State.replay s h).blank F = s.blank F :=
    by
  unfold State.replay
  repeat' (first
      | with_reducible rfl
      | simp only [blank_mk, apply_ite (State.blank F), ite_self, or_true, true_or, h_net, h_freeCtr, fresh_blank]
      | split
      | (intro))

theorem tookTime_blank (s : State) (r : Nat) (t : Option Nat) (h_net : F.net) : (State.tookTime s r t).blank F = s.blank F := by
  unfold State.tookTime
  repeat' (first
      | with_reducible rfl
      | simp only [blank_mk, or_true, true_or, h_net]
      | split
      | (intro))

end Sys2Proof.Machine
end

