-- ==== Sys2Proof/Laws/FramePower.lean ====
section
/-! SUPPORT. For each operation of power and the register file, and each command: which parts of the state it may change (every other part is
kept). -/

namespace Sys2Proof.Machine

open Sys2Proof

variable {F : Fields}

theorem vddReset_blank (s : State) (h_cfg : F.cfg) (h_snaps : F.snaps) (h_probes : F.probes) (h_hubs : F.hubs) (h_gt : F.gt)
    (h_timeRounds : F.timeRounds) (h_master : F.master) (h_lost : F.lost) (h_seeds : F.seeds) (h_hops : F.hops) (h_flt : F.flt)
    (h_fl : F.fl) (h_rcv : F.rcv) (h_ldg : F.ldg) (h_tally : F.tally) (h_vault : F.vault) (h_tokbuf : F.tokbuf)
    (h_pageBuf : F.pageBuf) (h_link : F.link) (h_colo : F.colo) (h_sys : F.sys) (h_stk : F.stk) (h_dbg : F.dbg) (h_bru : F.bru)
    (h_pwr : F.pwr) (h_mgt : F.mgt) (h_ghp : F.ghp) (h_flue : F.flue) (h_net : F.net) (h_pulses : F.pulses)
    (h_freeCtr : F.freeCtr) (u_all : ∀ u, F.has u = true) : (State.vddReset s).blank F = s.blank F := by
  unfold State.vddReset
  repeat' (first
      | with_reducible rfl
      | simp only [implies_true, blank_mk, or_true, h_cfg, h_snaps, h_probes, h_hubs, h_gt, h_timeRounds, h_master, h_lost,
          h_seeds, h_hops, h_flt, h_fl, h_rcv, h_ldg, h_tally, h_vault, h_tokbuf, h_pageBuf, h_link, h_colo, h_sys, h_stk,
          h_dbg, h_bru, h_pwr, h_mgt, h_ghp, h_flue, h_net, h_pulses, h_freeCtr, u_all, unlockEnd_blank]
      | split
      | (intro))

theorem startLoss_blank (s : State) (cause : Nat) (half : Bool) (h_cfg : F.cfg) (h_snaps : F.snaps) (h_probes : F.probes)
    (h_hubs : F.hubs) (h_gt : F.gt) (h_timeRounds : F.timeRounds) (h_master : F.master) (h_lost : F.lost) (h_seeds : F.seeds)
    (h_hops : F.hops) (h_flt : F.flt) (h_fl : F.fl) (h_rcv : F.rcv) (h_ldg : F.ldg) (h_tally : F.tally) (h_vault : F.vault)
    (h_tokbuf : F.tokbuf) (h_pageBuf : F.pageBuf) (h_link : F.link) (h_colo : F.colo) (h_sys : F.sys) (h_stk : F.stk)
    (h_dbg : F.dbg) (h_bru : F.bru) (h_pwr : F.pwr) (h_mgt : F.mgt) (h_ghp : F.ghp) (h_flue : F.flue) (h_net : F.net)
    (h_pulses : F.pulses) (h_freeCtr : F.freeCtr) (u_all : ∀ u, F.has u = true) : (State.startLoss s cause half).blank F =
    s.blank F := by
  unfold State.startLoss
  repeat' (first
      | with_reducible rfl
      | simp only [implies_true, blank_mk, or_true, h_cfg, h_snaps, h_probes, h_hubs, h_gt, h_timeRounds, h_master, h_lost,
          h_seeds, h_hops, h_flt, h_fl, h_rcv, h_ldg, h_tally, h_vault, h_tokbuf, h_pageBuf, h_link, h_colo, h_sys, h_stk,
          h_dbg, h_bru, h_pwr, h_mgt, h_ghp, h_flue, h_net, h_pulses, h_freeCtr, u_all, vddReset_blank, flipBank_blank]
      | split
      | (intro))

theorem pwrTry_blank (s : State) (h_pwr : F.pwr) : (State.pwrTry s).blank F = s.blank F := by
  unfold State.pwrTry
  repeat' (first
      | with_reducible rfl
      | simp only [blank_mk, apply_ite (State.blank F), ite_self, or_true, true_or, h_pwr]
      | split
      | (intro))

theorem offRequest_blank (s : State) (source : Nat) (h_hubs : F.hubs) (h_flt : F.flt) (h_fl : F.fl) (h_ldg : F.ldg)
    (h_tally : F.tally) (h_link : F.link) (h_colo : F.colo) (h_sys : F.sys) (h_stk : F.stk) (h_bru : F.bru) (h_pwr : F.pwr)
    (h_flue : F.flue) (h_pulses : F.pulses) (h_freeCtr : F.freeCtr) (u_bru : F.has .bru) (u_flt : F.has .flt)
    (u_ccd : F.has .ccd) (u_stk : F.has .stk) (u_channel : F.has .channel) (u_ldg : F.has .ldg) (u_folio : F.has .folio)
    (u_cat : F.has .cat) (u_clp : F.has .clp) (u_tenant : F.has .tenant) : (State.offRequest s source).blank F = s.blank F := by
  unfold State.offRequest
  repeat' (first
      | with_reducible rfl
      | simp only [blank_mk, apply_ite (State.blank F), ite_self, or_true, true_or, h_hubs, h_flt, h_fl, h_ldg, h_tally, h_link,
          h_colo, h_sys, h_stk, h_bru, h_pwr, h_flue, h_pulses, h_freeCtr, u_bru, u_flt, u_ccd, u_stk, u_channel, u_ldg,
          u_folio, u_cat, u_clp, u_tenant, quiesce_blank, emitAll_blank]
      | split
      | (intro))

theorem onRequest_blank (s : State) (source : Nat) (h_cfg : F.cfg) (h_probes : F.probes) (h_hubs : F.hubs) (h_master : F.master)
    (h_flt : F.flt) (h_fl : F.fl) (h_ldg : F.ldg) (h_tally : F.tally) (h_link : F.link) (h_colo : F.colo) (h_sys : F.sys)
    (h_stk : F.stk) (h_bru : F.bru) (h_pwr : F.pwr) (h_flue : F.flue) (h_pulses : F.pulses) (h_freeCtr : F.freeCtr)
    (u_all : ∀ u, F.has u = true) : (State.onRequest s source).blank F = s.blank F := by
  unfold State.onRequest
  repeat' (first
      | with_reducible rfl
      | simp only [implies_true, blank_mk, apply_ite (State.blank F), ite_self, or_true, true_or, h_cfg, h_probes, h_hubs,
          h_master, h_flt, h_fl, h_ldg, h_tally, h_link, h_colo, h_sys, h_stk, h_bru, h_pwr, h_flue, h_pulses, h_freeCtr, u_all,
          bruResume_blank, fenceAll_blank, admitWaiting_blank, pwrTry_blank]
      | split
      | (intro))

theorem execVaonLost_blank (half : Bool) (s : State) (h_cfg : F.cfg) (h_snaps : F.snaps) (h_probes : F.probes) (h_hubs : F.hubs)
    (h_gt : F.gt) (h_timeRounds : F.timeRounds) (h_master : F.master) (h_lost : F.lost) (h_seeds : F.seeds) (h_hops : F.hops)
    (h_flt : F.flt) (h_fl : F.fl) (h_rcv : F.rcv) (h_ldg : F.ldg) (h_tally : F.tally) (h_vault : F.vault) (h_tokbuf : F.tokbuf)
    (h_pageBuf : F.pageBuf) (h_link : F.link) (h_colo : F.colo) (h_sys : F.sys) (h_stk : F.stk) (h_dbg : F.dbg) (h_bru : F.bru)
    (h_pwr : F.pwr) (h_mgt : F.mgt) (h_ghp : F.ghp) (h_flue : F.flue) (h_net : F.net) (h_pulses : F.pulses)
    (h_freeCtr : F.freeCtr) (u_all : ∀ u, F.has u = true) : Keeps F s (execVaonLost half s) := by
  unfold execVaonLost
  repeat' (first
      | with_reducible rfl
      | simp only [implies_true, blank_mk, or_true, keeps_next, h_cfg, h_snaps, h_probes, h_hubs, h_gt, h_timeRounds, h_master,
          h_lost, h_seeds, h_hops, h_flt, h_fl, h_rcv, h_ldg, h_tally, h_vault, h_tokbuf, h_pageBuf, h_link, h_colo, h_sys,
          h_stk, h_dbg, h_bru, h_pwr, h_mgt, h_ghp, h_flue, h_net, h_pulses, h_freeCtr, u_all, startLoss_blank, raise_blank,
          unit_PWR_EVENT_VBK]
      | split
      | (intro))

theorem execLossFlushDone_blank (s : State) (h_ldg : F.ldg) (h_pwr : F.pwr) (u_pwr : F.has .pwr) : Keeps F s (execLossFlushDone
    s) := by
  unfold execLossFlushDone
  repeat' (first
      | with_reducible rfl
      | simp only [blank_mk, or_true, true_or, keeps_next, h_ldg, h_pwr, u_pwr, raise_blank, pwrTry_blank, setAll_blank,
          List.all_cons, List.all_nil, Bool.and_self, unit_PWR_EVENT_LOSS, unit_PWR_LASTLOSS_LOST, unit_PWR_LASTLOSS_P0,
          unit_PWR_LASTLOSS_P2, unit_PWR_LASTLOSS_SECS]
      | split
      | (intro))

theorem execVaonReturn_blank (s : State) (h_ldg : F.ldg) (h_pwr : F.pwr) (u_ldg : F.has .ldg) : Keeps F s (execVaonReturn s) :=
    by
  unfold execVaonReturn
  repeat' (first
      | with_reducible rfl
      | simp only [blank_mk, or_true, true_or, keeps_next, h_ldg, h_pwr, u_ldg, bankedRecord_blank, pwrTry_blank]
      | split
      | (intro))

theorem execVbkLost_blank (s : State) (h_ldg : F.ldg) (h_tally : F.tally) (h_vault : F.vault) (h_pwr : F.pwr) (h_mgt : F.mgt)
    (u_all : ∀ u, F.has u = true) : Keeps F s (execVbkLost s) := by
  unfold execVbkLost
  repeat' (first
      | with_reducible rfl
      | simp only [implies_true, blank_mk, or_true, true_or, keeps_next, h_ldg, h_tally, h_vault, h_pwr, h_mgt, u_all]
      | split
      | (intro))

theorem execColdStart_blank (s : State) (h_ldg : F.ldg) (h_pwr : F.pwr) (u_pwr : F.has .pwr) (u_ldg : F.has .ldg) : Keeps F s
    (execColdStart s) := by
  unfold execColdStart
  repeat' (first
      | with_reducible rfl
      | simp only [blank_mk, or_true, true_or, keeps_next, h_ldg, h_pwr, u_pwr, u_ldg, raise_blank, pwrTry_blank,
          coldRestore_blank, unit_PWR_EVENT_COLD]
      | split
      | (intro))

theorem execVddLost_blank (half : Bool) (s : State) (h_cfg : F.cfg) (h_snaps : F.snaps) (h_probes : F.probes) (h_hubs : F.hubs)
    (h_gt : F.gt) (h_timeRounds : F.timeRounds) (h_master : F.master) (h_lost : F.lost) (h_seeds : F.seeds) (h_hops : F.hops)
    (h_flt : F.flt) (h_fl : F.fl) (h_rcv : F.rcv) (h_ldg : F.ldg) (h_tally : F.tally) (h_vault : F.vault) (h_tokbuf : F.tokbuf)
    (h_pageBuf : F.pageBuf) (h_link : F.link) (h_colo : F.colo) (h_sys : F.sys) (h_stk : F.stk) (h_dbg : F.dbg) (h_bru : F.bru)
    (h_pwr : F.pwr) (h_mgt : F.mgt) (h_ghp : F.ghp) (h_flue : F.flue) (h_net : F.net) (h_pulses : F.pulses)
    (h_freeCtr : F.freeCtr) (u_all : ∀ u, F.has u = true) : Keeps F s (execVddLost half s) := by
  unfold execVddLost
  repeat' (first
      | with_reducible rfl
      | simp only [implies_true, blank_mk, apply_ite (State.blank F), ite_self, or_true, keeps_next, h_cfg, h_snaps, h_probes,
          h_hubs, h_gt, h_timeRounds, h_master, h_lost, h_seeds, h_hops, h_flt, h_fl, h_rcv, h_ldg, h_tally, h_vault, h_tokbuf,
          h_pageBuf, h_link, h_colo, h_sys, h_stk, h_dbg, h_bru, h_pwr, h_mgt, h_ghp, h_flue, h_net, h_pulses, h_freeCtr, u_all,
          startLoss_blank]
      | split
      | (intro))

theorem execVddGood_blank (s : State) (h_pwr : F.pwr) : Keeps F s (execVddGood s) := by
  unfold execVddGood
  repeat' (first
      | with_reducible rfl
      | simp only [blank_mk, or_true, true_or, keeps_next, h_pwr, pwrTry_blank]
      | split
      | (intro))

theorem execHoldoverEnter_blank (half : Bool) (s : State) (h_cfg : F.cfg) (h_snaps : F.snaps) (h_probes : F.probes)
    (h_hubs : F.hubs) (h_gt : F.gt) (h_timeRounds : F.timeRounds) (h_master : F.master) (h_lost : F.lost) (h_seeds : F.seeds)
    (h_hops : F.hops) (h_flt : F.flt) (h_fl : F.fl) (h_rcv : F.rcv) (h_ldg : F.ldg) (h_tally : F.tally) (h_vault : F.vault)
    (h_tokbuf : F.tokbuf) (h_pageBuf : F.pageBuf) (h_link : F.link) (h_colo : F.colo) (h_sys : F.sys) (h_stk : F.stk)
    (h_dbg : F.dbg) (h_bru : F.bru) (h_pwr : F.pwr) (h_mgt : F.mgt) (h_ghp : F.ghp) (h_flue : F.flue) (h_net : F.net)
    (h_pulses : F.pulses) (h_freeCtr : F.freeCtr) (u_all : ∀ u, F.has u = true) : Keeps F s (execHoldoverEnter half s) := by
  unfold execHoldoverEnter
  repeat' (first
      | with_reducible rfl
      | simp only [implies_true, blank_mk, apply_ite (State.blank F), ite_self, or_true, keeps_next, h_cfg, h_snaps, h_probes,
          h_hubs, h_gt, h_timeRounds, h_master, h_lost, h_seeds, h_hops, h_flt, h_fl, h_rcv, h_ldg, h_tally, h_vault, h_tokbuf,
          h_pageBuf, h_link, h_colo, h_sys, h_stk, h_dbg, h_bru, h_pwr, h_mgt, h_ghp, h_flue, h_net, h_pulses, h_freeCtr, u_all,
          startLoss_blank, bankedRecord_blank, raise_blank, unit_PWR_EVENT_HOLDOVER]
      | split
      | (intro))

theorem execHoldoverExit_blank (s : State) (h_ldg : F.ldg) (h_pwr : F.pwr) (u_pwr : F.has .pwr) (u_ldg : F.has .ldg) : Keeps F s
    (execHoldoverExit s) := by
  unfold execHoldoverExit
  repeat' (first
      | with_reducible rfl
      | simp only [blank_mk, or_true, true_or, keeps_next, h_ldg, h_pwr, u_pwr, u_ldg, bump_blank, bankedRecord_blank,
          pwrTry_blank, unit_PWR_HOLD_US]
      | split
      | (intro))

theorem execPorbAssert_blank (half : Bool) (s : State) (h_cfg : F.cfg) (h_snaps : F.snaps) (h_probes : F.probes)
    (h_hubs : F.hubs) (h_gt : F.gt) (h_timeRounds : F.timeRounds) (h_master : F.master) (h_lost : F.lost) (h_seeds : F.seeds)
    (h_hops : F.hops) (h_flt : F.flt) (h_fl : F.fl) (h_rcv : F.rcv) (h_ldg : F.ldg) (h_tally : F.tally) (h_vault : F.vault)
    (h_tokbuf : F.tokbuf) (h_pageBuf : F.pageBuf) (h_link : F.link) (h_colo : F.colo) (h_sys : F.sys) (h_stk : F.stk)
    (h_dbg : F.dbg) (h_bru : F.bru) (h_pwr : F.pwr) (h_mgt : F.mgt) (h_ghp : F.ghp) (h_flue : F.flue) (h_net : F.net)
    (h_pulses : F.pulses) (h_freeCtr : F.freeCtr) (u_all : ∀ u, F.has u = true) : Keeps F s (execPorbAssert half s) := by
  unfold execPorbAssert
  repeat' (first
      | with_reducible rfl
      | simp only [implies_true, blank_mk, apply_ite (State.blank F), ite_self, or_true, keeps_next, h_cfg, h_snaps, h_probes,
          h_hubs, h_gt, h_timeRounds, h_master, h_lost, h_seeds, h_hops, h_flt, h_fl, h_rcv, h_ldg, h_tally, h_vault, h_tokbuf,
          h_pageBuf, h_link, h_colo, h_sys, h_stk, h_dbg, h_bru, h_pwr, h_mgt, h_ghp, h_flue, h_net, h_pulses, h_freeCtr, u_all,
          vddReset_blank, startLoss_blank]
      | split
      | (intro))

theorem execPorbRelease_blank (s : State) (h_cfg : F.cfg) (h_probes : F.probes) (h_hubs : F.hubs) (h_master : F.master)
    (h_flt : F.flt) (h_fl : F.fl) (h_ldg : F.ldg) (h_tally : F.tally) (h_link : F.link) (h_colo : F.colo) (h_sys : F.sys)
    (h_stk : F.stk) (h_bru : F.bru) (h_pwr : F.pwr) (h_flue : F.flue) (h_pulses : F.pulses) (h_freeCtr : F.freeCtr)
    (u_all : ∀ u, F.has u = true) : Keeps F s (execPorbRelease s) := by
  unfold execPorbRelease
  repeat' (first
      | with_reducible rfl
      | simp only [implies_true, blank_mk, or_true, true_or, keeps_next, h_cfg, h_probes, h_hubs, h_master, h_flt, h_fl, h_ldg,
          h_tally, h_link, h_colo, h_sys, h_stk, h_bru, h_pwr, h_flue, h_pulses, h_freeCtr, u_all, onRequest_blank,
          pwrTry_blank]
      | split
      | (intro))

theorem execPuIsoDone_blank (s : State) (h_ldg : F.ldg) (h_vault : F.vault) (h_bru : F.bru) (h_pwr : F.pwr)
    (h_pulses : F.pulses) (u_bru : F.has .bru) (u_ldg : F.has .ldg) : Keeps F s (execPuIsoDone s) := by
  unfold execPuIsoDone
  repeat' (first
      | with_reducible rfl
      | simp only [blank_mk, or_true, true_or, keeps_next, h_ldg, h_vault, h_bru, h_pwr, h_pulses, u_bru, u_ldg,
          bringUpStart_blank]
      | split
      | (intro))

theorem execQuiesceDone_blank (s : State) (h_hubs : F.hubs) (h_flt : F.flt) (h_fl : F.fl) (h_ldg : F.ldg) (h_tally : F.tally)
    (h_vault : F.vault) (h_link : F.link) (h_colo : F.colo) (h_bru : F.bru) (h_pwr : F.pwr) (h_flue : F.flue)
    (h_pulses : F.pulses) (h_freeCtr : F.freeCtr) (u_bru : F.has .bru) (u_flt : F.has .flt) (u_ccd : F.has .ccd)
    (u_tly : F.has .tly) (u_ldg : F.has .ldg) (u_folio : F.has .folio) (u_cat : F.has .cat) (u_clp : F.has .clp)
    (u_tenant : F.has .tenant) : Keeps F s (execQuiesceDone s) := by
  unfold execQuiesceDone
  repeat' (first
      | with_reducible rfl
      | simp only [blank_mk, apply_ite (State.blank F), ite_self, or_true, true_or, keeps_next, h_hubs, h_flt, h_fl, h_ldg,
          h_tally, h_vault, h_link, h_colo, h_bru, h_pwr, h_flue, h_pulses, h_freeCtr, u_bru, u_flt, u_ccd, u_tly, u_ldg,
          u_folio, u_cat, u_clp, u_tenant, noteSweep_blank, kickSweeps_blank, flushLedger_blank]
      | split
      | (intro))

theorem execFlushCommit_blank (timeLimit : Bool) (s : State) (h_ldg : F.ldg) (h_pwr : F.pwr) (h_pulses : F.pulses)
    (u_pwr : F.has .pwr) (u_ldg : F.has .ldg) : Keeps F s (execFlushCommit timeLimit s) := by
  unfold execFlushCommit
  repeat' (first
      | with_reducible rfl
      | simp only [blank_mk, apply_ite (State.blank F), ite_self, or_true, true_or, keeps_next, h_ldg, h_pwr, h_pulses, u_pwr,
          u_ldg, bankedRecord_blank, ibi_blank, raise_blank, unit_PWR_EVENT_INCOMPLETE]
      | split
      | (intro))

theorem execStopDone_blank (s : State) (h_cfg : F.cfg) (h_snaps : F.snaps) (h_probes : F.probes) (h_hubs : F.hubs) (h_gt : F.gt)
    (h_timeRounds : F.timeRounds) (h_master : F.master) (h_lost : F.lost) (h_seeds : F.seeds) (h_hops : F.hops) (h_flt : F.flt)
    (h_fl : F.fl) (h_rcv : F.rcv) (h_ldg : F.ldg) (h_tally : F.tally) (h_vault : F.vault) (h_tokbuf : F.tokbuf)
    (h_pageBuf : F.pageBuf) (h_link : F.link) (h_colo : F.colo) (h_sys : F.sys) (h_stk : F.stk) (h_dbg : F.dbg) (h_bru : F.bru)
    (h_pwr : F.pwr) (h_mgt : F.mgt) (h_ghp : F.ghp) (h_flue : F.flue) (h_net : F.net) (h_pulses : F.pulses)
    (h_freeCtr : F.freeCtr) (u_all : ∀ u, F.has u = true) : Keeps F s (execStopDone s) := by
  unfold execStopDone
  repeat' (first
      | with_reducible rfl
      | simp only [implies_true, blank_mk, or_true, keeps_next, h_cfg, h_snaps, h_probes, h_hubs, h_gt, h_timeRounds, h_master,
          h_lost, h_seeds, h_hops, h_flt, h_fl, h_rcv, h_ldg, h_tally, h_vault, h_tokbuf, h_pageBuf, h_link, h_colo, h_sys,
          h_stk, h_dbg, h_bru, h_pwr, h_mgt, h_ghp, h_flue, h_net, h_pulses, h_freeCtr, u_all, vddReset_blank, pwrTry_blank]
      | split
      | (intro))

theorem execPwrOff_blank (ten : Nat) (tag : Nat) (s : State) (h_hubs : F.hubs) (h_flt : F.flt) (h_fl : F.fl) (h_ldg : F.ldg)
    (h_tally : F.tally) (h_link : F.link) (h_colo : F.colo) (h_sys : F.sys) (h_stk : F.stk) (h_bru : F.bru) (h_pwr : F.pwr)
    (h_flue : F.flue) (h_pulses : F.pulses) (h_freeCtr : F.freeCtr) (u_ghp : F.has .ghp) (u_bru : F.has .bru)
    (u_flt : F.has .flt) (u_ccd : F.has .ccd) (u_stk : F.has .stk) (u_channel : F.has .channel) (u_ldg : F.has .ldg)
    (u_folio : F.has .folio) (u_cat : F.has .cat) (u_clp : F.has .clp) (u_tenant : F.has .tenant) : Keeps F s (execPwrOff ten
    tag s) := by
  unfold execPwrOff
  repeat' (first
      | with_reducible rfl
      | simp only [implies_true, keeps_next, h_hubs, h_flt, h_fl, h_ldg, h_tally, h_link, h_colo, h_sys, h_stk, h_bru, h_pwr,
          h_flue, h_pulses, h_freeCtr, u_bru, u_flt, u_ccd, u_stk, u_channel, u_ldg, u_folio, u_cat, u_clp, u_tenant,
          offRequest_blank]
      | (with_reducible refine (hostWrite_blank _ _ _ _ _ _ _ (by first | assumption | exact u_all _) (by first | assumption | exact u_all _) ?_).trans ?_)
      | split
      | (intro))

theorem execPwrOn_blank (ten : Nat) (tag : Nat) (s : State) (h_cfg : F.cfg) (h_probes : F.probes) (h_hubs : F.hubs)
    (h_master : F.master) (h_flt : F.flt) (h_fl : F.fl) (h_ldg : F.ldg) (h_tally : F.tally) (h_link : F.link) (h_colo : F.colo)
    (h_sys : F.sys) (h_stk : F.stk) (h_bru : F.bru) (h_pwr : F.pwr) (h_flue : F.flue) (h_pulses : F.pulses)
    (h_freeCtr : F.freeCtr) (u_all : ∀ u, F.has u = true) : Keeps F s (execPwrOn ten tag s) := by
  unfold execPwrOn
  repeat' (first
      | with_reducible rfl
      | simp only [implies_true, keeps_next, h_cfg, h_probes, h_hubs, h_master, h_flt, h_fl, h_ldg, h_tally, h_link, h_colo,
          h_sys, h_stk, h_bru, h_pwr, h_flue, h_pulses, h_freeCtr, u_all, onRequest_blank]
      | (with_reducible refine (hostWrite_blank _ _ _ _ _ _ _ (by first | assumption | exact u_all _) (by first | assumption | exact u_all _) ?_).trans ?_)
      | split
      | (intro))

theorem execPwrPcreq_blank (ten : Nat) (tag : Nat) (s : State) (h_ldg : F.ldg) (h_pwr : F.pwr) (h_pulses : F.pulses)
    (u_ghp : F.has .ghp) (u_ldg : F.has .ldg) : Keeps F s (execPwrPcreq ten tag s) := by
  unfold execPwrPcreq
  repeat' (first
      | with_reducible rfl
      | simp only [implies_true, keeps_next, h_ldg, h_pwr, h_pulses, u_ldg, trayRequest_blank]
      | (with_reducible refine (hostWrite_blank _ _ _ _ _ _ _ (by first | assumption | exact u_all _) (by first | assumption | exact u_all _) ?_).trans ?_)
      | split
      | (intro))

theorem execTrayAck_blank (s : State) (h_hubs : F.hubs) (h_flt : F.flt) (h_fl : F.fl) (h_ldg : F.ldg) (h_tally : F.tally)
    (h_link : F.link) (h_colo : F.colo) (h_sys : F.sys) (h_stk : F.stk) (h_bru : F.bru) (h_pwr : F.pwr) (h_flue : F.flue)
    (h_pulses : F.pulses) (h_freeCtr : F.freeCtr) (u_bru : F.has .bru) (u_flt : F.has .flt) (u_ccd : F.has .ccd)
    (u_stk : F.has .stk) (u_channel : F.has .channel) (u_ldg : F.has .ldg) (u_folio : F.has .folio) (u_cat : F.has .cat)
    (u_clp : F.has .clp) (u_tenant : F.has .tenant) : Keeps F s (execTrayAck s) := by
  unfold execTrayAck
  repeat' (first
      | with_reducible rfl
      | simp only [blank_mk, apply_ite (State.blank F), ite_self, or_true, true_or, keeps_next, h_hubs, h_flt, h_fl, h_ldg,
          h_tally, h_link, h_colo, h_sys, h_stk, h_bru, h_pwr, h_flue, h_pulses, h_freeCtr, u_bru, u_flt, u_ccd, u_stk,
          u_channel, u_ldg, u_folio, u_cat, u_clp, u_tenant, bankedRecord_blank, offRequest_blank]
      | split
      | (intro))

theorem targetWrite_blank (s : State) (region : Nat) (mv : Nat) (h_hubs : F.hubs) (h_pwr : F.pwr) (u_hubPw : F.has .hubPw) :
    (State.targetWrite s region mv).blank F = s.blank F := by
  unfold State.targetWrite
  repeat' (first
      | with_reducible rfl
      | simp only [blank_mk, or_true, true_or, h_hubs, h_pwr, u_hubPw, modHub_blank, setAll_blank, List.all_cons, List.all_nil,
          Bool.and_self, unit_RH_PW_STATUS_TRANS, unit_RH_PW_VTGT_MV]
      | split
      | (intro))

theorem execVoltageTarget_blank (region : Nat) (mv : Nat) (ten : Nat) (tag : Nat) (s : State) (h_hubs : F.hubs) (h_pwr : F.pwr)
    (h_pulses : F.pulses) (u_ghp : F.has .ghp) (u_hubPw : F.has .hubPw) : Keeps F s (execVoltageTarget region mv ten tag s) :=
    by
  unfold execVoltageTarget
  repeat' (first
      | with_reducible rfl
      | simp only [implies_true, keeps_next, h_hubs, h_pwr, u_hubPw, targetWrite_blank]
      | (with_reducible refine (hostWrite_blank _ _ _ _ _ _ _ (by first | assumption | exact u_all _) (by first | assumption | exact u_all _) ?_).trans ?_)
      | split
      | (intro))

theorem hostReset_blank (s : State) (h_probes : F.probes) (h_hubs : F.hubs) (h_ldg : F.ldg) (h_vault : F.vault)
    (h_colo : F.colo) (h_sys : F.sys) (h_stk : F.stk) (h_flue : F.flue) (h_pulses : F.pulses) (h_freeCtr : F.freeCtr)
    (u_stk : F.has .stk) (u_channel : F.has .channel) (u_ldg : F.has .ldg) (u_tenant : F.has .tenant) (u_hubRd : F.has .hubRd)
    (u_hubIft : F.has .hubIft) (u_hubTr : F.has .hubTr) (u_probe : F.has .probe) : (State.hostReset s).blank F = s.blank F := by
  unfold State.hostReset
  repeat' (first
      | with_reducible rfl
      | simp only [implies_true, h_probes, h_hubs, h_ldg, h_vault, h_colo, h_sys, h_stk, h_flue, h_pulses, h_freeCtr, u_stk,
          u_channel, u_ldg, u_tenant, u_hubRd, u_hubIft, u_hubTr, u_probe, stackerDropTagged_blank, dispatchAll_blank,
          epochDiscard_blank, dropSlots_blank, restartSegments_blank, abandonIf_blank]
      | (with_reducible refine (foldl_blank _ _ _ ?_).trans ?_)
      | split
      | (intro))

theorem execHrstb_blank (s : State) (h_probes : F.probes) (h_hubs : F.hubs) (h_ldg : F.ldg) (h_vault : F.vault)
    (h_colo : F.colo) (h_sys : F.sys) (h_stk : F.stk) (h_pwr : F.pwr) (h_flue : F.flue) (h_pulses : F.pulses)
    (h_freeCtr : F.freeCtr) (u_stk : F.has .stk) (u_channel : F.has .channel) (u_ldg : F.has .ldg) (u_tenant : F.has .tenant)
    (u_hubRd : F.has .hubRd) (u_hubIft : F.has .hubIft) (u_hubTr : F.has .hubTr) (u_probe : F.has .probe) : Keeps F s (execHrstb
    s) := by
  unfold execHrstb
  repeat' (first
      | with_reducible rfl
      | simp only [blank_mk, apply_ite (State.blank F), ite_self, or_true, true_or, keeps_next, h_probes, h_hubs, h_ldg,
          h_vault, h_colo, h_sys, h_stk, h_pwr, h_flue, h_pulses, h_freeCtr, u_stk, u_channel, u_ldg, u_tenant, u_hubRd,
          u_hubIft, u_hubTr, u_probe, hostReset_blank]
      | split
      | (intro))

theorem execHrstbRelease_blank (low : Nat) (s : State) (h_ldg : F.ldg) (h_pwr : F.pwr) (u_ldg : F.has .ldg) : Keeps F s
    (execHrstbRelease low s) := by
  unfold execHrstbRelease
  repeat' (first
      | with_reducible rfl
      | simp only [blank_mk, apply_ite (State.blank F), ite_self, or_true, true_or, keeps_next, h_ldg, h_pwr, u_ldg,
          bankedRecord_blank]
      | split
      | (intro))

theorem stuck_blank (s : State) (pressed : Bool) (h_ldg : F.ldg) (h_pwr : F.pwr) (u_pwr : F.has .pwr) (u_ldg : F.has .ldg) :
    (State.stuck s pressed).blank F = s.blank F := by
  unfold State.stuck
  repeat' (first
      | with_reducible rfl
      | simp only [blank_mk, or_true, true_or, h_ldg, h_pwr, u_pwr, u_ldg, bankedRecord_blank, raise_blank,
          unit_PWR_EVENT_BTNSTUCK]
      | split
      | (intro))

theorem execBtnRelease_blank (ms : Nat) (s : State) (h_cfg : F.cfg) (h_probes : F.probes) (h_hubs : F.hubs)
    (h_master : F.master) (h_flt : F.flt) (h_fl : F.fl) (h_rcv : F.rcv) (h_ldg : F.ldg) (h_tally : F.tally) (h_vault : F.vault)
    (h_link : F.link) (h_colo : F.colo) (h_sys : F.sys) (h_stk : F.stk) (h_bru : F.bru) (h_pwr : F.pwr) (h_flue : F.flue)
    (h_pulses : F.pulses) (h_freeCtr : F.freeCtr) (u_all : ∀ u, F.has u = true) : Keeps F s (execBtnRelease ms s) := by
  unfold execBtnRelease
  repeat' (first
      | with_reducible rfl
      | simp only [implies_true, blank_mk, or_true, true_or, keeps_next, h_cfg, h_probes, h_hubs, h_master, h_flt, h_fl, h_rcv,
          h_ldg, h_tally, h_vault, h_link, h_colo, h_sys, h_stk, h_bru, h_pwr, h_flue, h_pulses, h_freeCtr, u_all,
          onRequest_blank, bankedRecord_blank, trayRequest_blank, hostReset_blank, stuck_blank]
      | split
      | (intro))

theorem execBtnStuck_blank (s : State) (h_ldg : F.ldg) (h_pwr : F.pwr) (u_pwr : F.has .pwr) (u_ldg : F.has .ldg) : Keeps F s
    (execBtnStuck s) := by
  unfold execBtnStuck
  repeat' (first
      | with_reducible rfl
      | simp only [keeps_next, h_ldg, h_pwr, u_pwr, u_ldg, stuck_blank]
      | split
      | (intro))

theorem execBtnStuckClear_blank (s : State) (h_pwr : F.pwr) : Keeps F s (execBtnStuckClear s) := by
  unfold execBtnStuckClear
  repeat' (first
      | with_reducible rfl
      | simp only [blank_mk, apply_ite (State.blank F), ite_self, or_true, true_or, keeps_next, h_pwr]
      | split
      | (intro))

theorem rowValue_blank (s : State) (r : RegRow) (i : Nat) (h_freeCtr : F.freeCtr) : (State.rowValue s r i).2.blank F = s.blank F
    := by
  unfold State.rowValue
  repeat' (first
      | with_reducible rfl
      | simp only [h_freeCtr, fresh_blank]
      | split
      | (intro))

theorem captureGroup_blank (s : State) (space : Nat) (i : Nat) (r : RegRow) (h_snaps : F.snaps) (h_freeCtr : F.freeCtr) :
    (State.captureGroup s space i r).blank F = s.blank F := by
  unfold State.captureGroup
  repeat' (first
      | with_reducible rfl
      | simp only [implies_true, blank_mk, or_true, true_or, h_snaps, h_freeCtr, rowValue_blank]
      | (with_reducible refine (foldl_blank _ _ _ ?_).trans ?_)
      | split
      | (intro))

theorem readRow_blank (s : State) (space : Nat) (i : Nat) (r : RegRow) (off : Nat) (h_snaps : F.snaps) (h_freeCtr : F.freeCtr) :
    (State.readRow s space i r off).2.blank F = s.blank F := by
  unfold State.readRow
  repeat' (first
      | with_reducible rfl
      | simp only [apply_ite (State.blank F), ite_self, h_snaps, h_freeCtr, rowValue_blank, captureGroup_blank]
      | split
      | (intro))

theorem readBits_blank (s : State) (space : Nat) (p : Place) (w : Nat) (h_snaps : F.snaps) (h_freeCtr : F.freeCtr) :
    (State.readBits s space p w).2.blank F = s.blank F := by
  unfold State.readBits
  repeat' (first
      | with_reducible rfl
      | simp only [h_snaps, h_freeCtr, readRow_blank]
      | split
      | (intro))

theorem readPlace_blank (s : State) (p : Place) (sz64 : Bool) (h_snaps : F.snaps) (h_freeCtr : F.freeCtr) : (State.readPlace s p
    sz64).2.2.blank F = s.blank F := by
  unfold State.readPlace
  repeat' (first
      | with_reducible rfl
      | simp only [implies_true, blank_mk, apply_ite (State.blank F), ite_self, or_true, true_or, h_snaps, h_freeCtr,
          readBits_blank]
      | split
      | (rename_i hq; replace hq := congrArg (fun p => State.blank F p.1) hq; simp only [implies_true, blank_mk, apply_ite (State.blank F), ite_self, or_true, true_or, h_snaps, h_freeCtr, readBits_blank] at hq; exact hq.symm)
      | (rename_i hq; replace hq := congrArg (fun p => State.blank F p.2) hq; simp only [implies_true, blank_mk, apply_ite (State.blank F), ite_self, or_true, true_or, h_snaps, h_freeCtr, readBits_blank] at hq; exact hq.symm)
      | (rename_i hq; replace hq := congrArg (fun p => State.blank F p.2.2) hq; simp only [implies_true, blank_mk, apply_ite (State.blank F), ite_self, or_true, true_or, h_snaps, h_freeCtr, readBits_blank] at hq; exact hq.symm)
      | (intro))

theorem readReg_blank (s : State) (ten : Nat) (a : Nat) (sz64 : Bool) (h_snaps : F.snaps) (h_freeCtr : F.freeCtr) :
    (State.readReg s ten a sz64).2.2.blank F = s.blank F := by
  unfold State.readReg
  repeat' (first
      | with_reducible rfl
      | simp only [h_snaps, h_freeCtr, readPlace_blank]
      | split
      | (intro))

theorem cellWord_blank (s : State) (c : Cell) (h_snaps : F.snaps) (h_freeCtr : F.freeCtr) : (State.cellWord s c).2.blank F =
    s.blank F := by
  unfold State.cellWord
  repeat' (first
      | with_reducible rfl
      | simp only [h_snaps, h_freeCtr, fresh_blank, readBits_blank]
      | split
      | (intro))

theorem readCell_blank (s : State) (c : Nat → Cell) (o : Nat) (sz64 : Bool) (h_snaps : F.snaps) (h_freeCtr : F.freeCtr) :
    (State.readCell s c o sz64).2.2.blank F = s.blank F := by
  unfold State.readCell
  repeat' (first
      | with_reducible rfl
      | simp only [implies_true, blank_mk, apply_ite (State.blank F), ite_self, or_true, true_or, h_snaps, h_freeCtr,
          cellWord_blank]
      | split
      | (rename_i hq; replace hq := congrArg (fun p => State.blank F p.1) hq; simp only [implies_true, blank_mk, apply_ite (State.blank F), ite_self, or_true, true_or, h_snaps, h_freeCtr, cellWord_blank] at hq; exact hq.symm)
      | (rename_i hq; replace hq := congrArg (fun p => State.blank F p.2) hq; simp only [implies_true, blank_mk, apply_ite (State.blank F), ite_self, or_true, true_or, h_snaps, h_freeCtr, cellWord_blank] at hq; exact hq.symm)
      | (rename_i hq; replace hq := congrArg (fun p => State.blank F p.2.2) hq; simp only [implies_true, blank_mk, apply_ite (State.blank F), ite_self, or_true, true_or, h_snaps, h_freeCtr, cellWord_blank] at hq; exact hq.symm)
      | (intro))

theorem readMirror_blank (s : State) (o : Nat) (sz64 : Bool) (h_snaps : F.snaps) (h_freeCtr : F.freeCtr) : (State.readMirror s o
    sz64).2.2.blank F = s.blank F := by
  unfold State.readMirror
  repeat' (first
      | with_reducible rfl
      | simp only [h_snaps, h_freeCtr, readCell_blank]
      | split
      | (intro))

theorem readAs0_blank (s : State) (a : Nat) (sz64 : Bool) (h_snaps : F.snaps) (h_freeCtr : F.freeCtr) : (State.readAs0 s a
    sz64).2.2.blank F = s.blank F := by
  unfold State.readAs0
  repeat' (first
      | with_reducible rfl
      | simp only [h_snaps, h_freeCtr, readReg_blank, readMirror_blank]
      | split
      | (intro))

theorem storeField_blank (s : State) (f : RegField) (i : Nat) (v : Nat) (v_f : F.has f.unit) : (State.storeField s f i v).blank
    F = s.blank F := by
  unfold State.storeField
  repeat' (first
      | with_reducible rfl
      | simp only [v_f, set_blank]
      | split
      | (intro))

theorem storeRow_blank (s : State) (r : RegRow) (i : Nat) (lo : Nat) (w : Nat) (data : Nat) (u_all : ∀ u, F.has u = true) :
    (State.storeRow s r i lo w data).blank F = s.blank F := by
  unfold State.storeRow
  repeat' (first
      | with_reducible rfl
      | simp only [u_all, storeField_blank]
      | (with_reducible refine (foldl_blank _ _ _ ?_).trans ?_)
      | split
      | (intro))

theorem globalEffect_blank (s : State) (off : Nat) (x : Nat) (h_cfg : F.cfg) (h_probes : F.probes) (h_hubs : F.hubs)
    (h_master : F.master) (h_flt : F.flt) (h_fl : F.fl) (h_rcv : F.rcv) (h_ldg : F.ldg) (h_tally : F.tally) (h_vault : F.vault)
    (h_link : F.link) (h_colo : F.colo) (h_sys : F.sys) (h_stk : F.stk) (h_bru : F.bru) (h_pwr : F.pwr) (h_flue : F.flue)
    (h_pulses : F.pulses) (h_freeCtr : F.freeCtr) (u_all : ∀ u, F.has u = true) : (State.globalEffect s off x).blank F = s.blank
    F := by
  unfold State.globalEffect
  repeat' (first
      | with_reducible rfl
      | simp only [implies_true, apply_ite (State.blank F), ite_self, h_cfg, h_probes, h_hubs, h_master, h_flt, h_fl, h_rcv,
          h_ldg, h_tally, h_vault, h_link, h_colo, h_sys, h_stk, h_bru, h_pwr, h_flue, h_pulses, h_freeCtr, u_all,
          flushNotices_blank, onRequest_blank, goWrite_blank, xrequest_blank, ackReaction_blank, offRequest_blank,
          writePhase_blank, kickQueue_blank, trayRequest_blank, requalifyWrite_blank]
      | split
      | (intro))

theorem unitEffect_blank (s : State) (off : Nat) (x : Nat) (h_hubs : F.hubs) (h_master : F.master) (h_flt : F.flt) (h_fl : F.fl)
    (h_ldg : F.ldg) (h_tally : F.tally) (h_vault : F.vault) (h_link : F.link) (h_colo : F.colo) (h_sys : F.sys) (h_stk : F.stk)
    (h_dbg : F.dbg) (h_bru : F.bru) (h_flue : F.flue) (h_pulses : F.pulses) (h_freeCtr : F.freeCtr) (u_bru : F.has .bru)
    (u_flt : F.has .flt) (u_ccd : F.has .ccd) (u_vlt : F.has .vlt) (u_stk : F.has .stk) (u_channel : F.has .channel)
    (u_tly : F.has .tly) (u_ldg : F.has .ldg) (u_dbg : F.has .dbg) (u_folio : F.has .folio) (u_cat : F.has .cat)
    (u_clp : F.has .clp) (u_tenant : F.has .tenant) : (State.unitEffect s off x).blank F = s.blank F := by
  unfold State.unitEffect
  repeat' (first
      | with_reducible rfl
      | simp only [implies_true, apply_ite (State.blank F), ite_self, h_hubs, h_master, h_flt, h_fl, h_ldg, h_tally, h_vault,
          h_link, h_colo, h_sys, h_stk, h_dbg, h_bru, h_flue, h_pulses, h_freeCtr, u_bru, u_flt, u_ccd, u_vlt, u_stk, u_channel,
          u_tly, u_ldg, u_dbg, u_folio, u_cat, u_clp, u_tenant, stopRelease_blank, restoreRequest_blank, tokenGo_blank,
          stnowWrite_blank, enableDrain_blank, stkClrhalt_blank, stopRaise_blank, pumpRing_blank, readPageWrite_blank,
          set_blank, closeBatch_blank, wantCut_blank, kickSys_blank, raise_blank, appendWrite_blank, stkDisable_blank,
          pumpTrace_blank, treqWrite_blank, assignRequest_blank, nonceWrite_blank, syncSense_blank, stopPin_blank,
          quenchRequest_blank, flushLedger_blank, unit_CAT_REQST_DROPPED, unit_DBG_TRCTRL_EN, unit_DBG_TRCTRL_TPEN,
          unit_STK_CTRL_EN]
      | (with_reducible refine (foldl_blank _ _ _ ?_).trans ?_)
      | (with_reducible refine (catWrite_blank _ _ _ _ _ _ _ (by first | assumption | exact u_all _) ?_).trans ?_)
      | split
      | (intro))

theorem tenantEffect_blank (s : State) (t : Nat) (off : Nat) (x : Nat) (h_hubs : F.hubs) (h_master : F.master) (h_flt : F.flt)
    (h_fl : F.fl) (h_rcv : F.rcv) (h_tally : F.tally) (h_vault : F.vault) (h_link : F.link) (h_colo : F.colo) (h_sys : F.sys)
    (h_bru : F.bru) (h_flue : F.flue) (h_pulses : F.pulses) (h_freeCtr : F.freeCtr) (u_bru : F.has .bru) (u_flt : F.has .flt)
    (u_rcv : F.has .rcv) (u_ccd : F.has .ccd) (u_tly : F.has .tly) (u_folio : F.has .folio) (u_cat : F.has .cat)
    (u_clp : F.has .clp) (u_tenant : F.has .tenant) : (State.tenantEffect s t off x).blank F = s.blank F := by
  unfold State.tenantEffect
  repeat' (first
      | with_reducible rfl
      | simp only [implies_true, apply_ite (State.blank F), ite_self, h_hubs, h_master, h_flt, h_fl, h_rcv, h_tally, h_vault,
          h_link, h_colo, h_sys, h_bru, h_flue, h_pulses, h_freeCtr, u_bru, u_flt, u_rcv, u_ccd, u_tly, u_folio, u_cat, u_clp,
          u_tenant, coloWrite_blank, statementWrite_blank, closeOpen_blank, restartWrite_blank, rewind_blank,
          recTailWrite_blank]
      | (with_reducible refine (closeWrite_blank _ _ _ _ _ (by first | assumption | exact u_all _) ?_).trans ?_)
      | split
      | (intro))

theorem channelEffect_blank (s : State) (ten : Nat) (n : Nat) (off : Nat) (x : Nat) (h_sys : F.sys) (h_stk : F.stk)
    (h_freeCtr : F.freeCtr) (u_stk : F.has .stk) (u_channel : F.has .channel) : (State.channelEffect s ten n off x).blank F =
    s.blank F := by
  unfold State.channelEffect
  repeat' (first
      | with_reducible rfl
      | simp only [apply_ite (State.blank F), ite_self, h_sys, h_stk, h_freeCtr, u_stk, u_channel, stkAbort_blank,
          stkFields_blank, stkGo_blank]
      | split
      | (intro))

theorem effect_blank (s : State) (old : State) (ten : Nat) (p : Place) (x : Nat) (h_cfg : F.cfg) (h_probes : F.probes)
    (h_hubs : F.hubs) (h_master : F.master) (h_flt : F.flt) (h_fl : F.fl) (h_rcv : F.rcv) (h_ldg : F.ldg) (h_tally : F.tally)
    (h_vault : F.vault) (h_link : F.link) (h_colo : F.colo) (h_sys : F.sys) (h_stk : F.stk) (h_dbg : F.dbg) (h_bru : F.bru)
    (h_pwr : F.pwr) (h_flue : F.flue) (h_pulses : F.pulses) (h_freeCtr : F.freeCtr) (u_all : ∀ u, F.has u = true) :
    (State.effect s old ten p x).blank F = s.blank F := by
  unfold State.effect
  repeat' (first
      | with_reducible rfl
      | simp only [implies_true, apply_ite (State.blank F), ite_self, h_cfg, h_probes, h_hubs, h_master, h_flt, h_fl, h_rcv,
          h_ldg, h_tally, h_vault, h_link, h_colo, h_sys, h_stk, h_dbg, h_bru, h_pwr, h_flue, h_pulses, h_freeCtr, u_all,
          unitEffect_blank, targetWrite_blank, portRestart_blank, globalEffect_blank, tenantEffect_blank, channelEffect_blank,
          fenceReq_blank, hubTraceOn_blank]
      | split
      | (intro))

theorem writePlace_blank (s : State) (ten : Nat) (p : Place) (sz64 : Bool) (data : Nat) (h_cfg : F.cfg) (h_probes : F.probes)
    (h_hubs : F.hubs) (h_master : F.master) (h_flt : F.flt) (h_fl : F.fl) (h_rcv : F.rcv) (h_ldg : F.ldg) (h_tally : F.tally)
    (h_vault : F.vault) (h_tokbuf : F.tokbuf) (h_link : F.link) (h_colo : F.colo) (h_sys : F.sys) (h_stk : F.stk)
    (h_dbg : F.dbg) (h_bru : F.bru) (h_pwr : F.pwr) (h_flue : F.flue) (h_pulses : F.pulses) (h_freeCtr : F.freeCtr)
    (u_all : ∀ u, F.has u = true) : (State.writePlace s ten p sz64 data).2.blank F = s.blank F := by
  unfold State.writePlace
  repeat' (first
      | with_reducible rfl
      | simp only [implies_true, blank_mk, apply_ite (State.blank F), ite_self, or_true, true_or, h_cfg, h_probes, h_hubs,
          h_master, h_flt, h_fl, h_rcv, h_ldg, h_tally, h_vault, h_tokbuf, h_link, h_colo, h_sys, h_stk, h_dbg, h_bru, h_pwr,
          h_flue, h_pulses, h_freeCtr, u_all, storeRow_blank, effect_blank]
      | split
      | (intro))

theorem ghpWrite_blank (s : State) (a : Nat) (data : Nat) (sz64 : Bool) (ten : Nat) (tag : Nat) (parOk : Bool) (h_cfg : F.cfg)
    (h_probes : F.probes) (h_hubs : F.hubs) (h_master : F.master) (h_flt : F.flt) (h_fl : F.fl) (h_rcv : F.rcv) (h_ldg : F.ldg)
    (h_tally : F.tally) (h_vault : F.vault) (h_tokbuf : F.tokbuf) (h_link : F.link) (h_colo : F.colo) (h_sys : F.sys)
    (h_stk : F.stk) (h_dbg : F.dbg) (h_bru : F.bru) (h_pwr : F.pwr) (h_ghp : F.ghp) (h_flue : F.flue) (h_pulses : F.pulses)
    (h_freeCtr : F.freeCtr) (u_all : ∀ u, F.has u = true) : (State.ghpWrite s a data sz64 ten tag parOk).blank F = s.blank F :=
    by
  refine ghpAccept_blank _ _ _ (u_all _) ?_
  repeat' (first
      | with_reducible rfl
      | simp only [implies_true, blank_mk, apply_ite (State.blank F), ite_self, or_true, true_or, h_cfg, h_probes, h_hubs, h_master, h_flt, h_fl, h_rcv, h_ldg, h_tally, h_vault, h_tokbuf, h_link, h_colo, h_sys, h_stk, h_dbg, h_bru, h_pwr, h_ghp, h_flue, h_pulses, h_freeCtr, u_all, ghpDone_blank, send_blank, writePlace_blank]
      | split)

theorem ghpEnd_blank (s : State) (tag : Nat) (test : GhpReq → Bool) (st : GhpStatus) (data : Nat) (h_ghp : F.ghp)
    (h_pulses : F.pulses) (u_ghp : F.has .ghp) : (State.ghpEnd s tag test st data).blank F = s.blank F := by
  unfold State.ghpEnd
  repeat' (first
      | with_reducible rfl
      | simp only [blank_mk, or_true, true_or, h_ghp, h_pulses, u_ghp, ghpDone_blank]
      | split
      | (intro))

theorem ghpForward_blank (s : State) (q : GhpReq) (r : Nat) (serve : State → State) (h_ghp : F.ghp) (u_ghp : F.has .ghp)
    (hserve : ∀ x0, (serve x0).blank F = x0.blank F) : (State.ghpForward s q r serve).blank F = s.blank F := by
  refine ghpAccept_blank _ _ _ u_ghp ?_
  simp only [apply_ite (State.blank F), hserve, blank_mk, or_true, true_or, h_ghp, ite_self, implies_true, u_ghp]

end Sys2Proof.Machine
end

