-- ==== Sys2Proof/Laws/FrameHost.lean ====
section
/-! SUPPORT. For each operation of the host port, management, the Flue and the tick, and each command: which parts of the state it may change (every other part is
kept). -/

namespace Sys2Proof.Machine

open Sys2Proof

variable {F : Fields}

theorem execRegisterWrite_blank (addr : Nat) (data : Nat) (sz64 : Bool) (ten : Nat) (tag : Nat) (parOk : Bool) (s : State)
    (h_cfg : F.cfg) (h_probes : F.probes) (h_hubs : F.hubs) (h_master : F.master) (h_flt : F.flt) (h_fl : F.fl) (h_rcv : F.rcv)
    (h_ldg : F.ldg) (h_tally : F.tally) (h_vault : F.vault) (h_tokbuf : F.tokbuf) (h_link : F.link) (h_colo : F.colo)
    (h_sys : F.sys) (h_stk : F.stk) (h_dbg : F.dbg) (h_bru : F.bru) (h_pwr : F.pwr) (h_ghp : F.ghp) (h_flue : F.flue)
    (h_pulses : F.pulses) (h_freeCtr : F.freeCtr) (u_all : ∀ u, F.has u = true) : Keeps F s (execRegisterWrite addr data sz64
    ten tag parOk s) := by
  unfold execRegisterWrite
  repeat' (first
      | with_reducible rfl
      | simp only [implies_true, keeps_next, h_cfg, h_probes, h_hubs, h_master, h_flt, h_fl, h_rcv, h_ldg, h_tally, h_vault,
          h_tokbuf, h_link, h_colo, h_sys, h_stk, h_dbg, h_bru, h_pwr, h_ghp, h_flue, h_pulses, h_freeCtr, u_all,
          ghpWrite_blank]
      | split
      | (intro))

theorem hostRead_blank (s : State) (a : Nat) (sz64 : Bool) (ten : Nat) (h_snaps : F.snaps) (h_freeCtr : F.freeCtr) :
    (State.hostRead s a sz64 ten).2.2.blank F = s.blank F := by
  unfold State.hostRead
  repeat' (first
      | with_reducible rfl
      | simp only [h_snaps, h_freeCtr, readReg_blank, readCell_blank]
      | split
      | (intro))

theorem ghpReadHere_blank (s : State) (a : Nat) (sz64 : Bool) (ten : Nat) (tag : Nat) (h_snaps : F.snaps) (h_pulses : F.pulses)
    (h_freeCtr : F.freeCtr) (u_ghp : F.has .ghp) : (State.ghpReadHere s a sz64 ten tag).blank F = s.blank F := by
  unfold State.ghpReadHere
  repeat' (first
      | with_reducible rfl
      | simp only [implies_true, blank_mk, apply_ite (State.blank F), ite_self, or_true, true_or, h_snaps, h_pulses, h_freeCtr,
          u_ghp, ghpDone_blank, hostRead_blank]
      | (with_reducible refine ghpAccept_blank _ _ _ (by first | assumption | exact u_all _) ?_)
      | split
      | (rename_i hq; replace hq := congrArg (fun p => State.blank F p.1) hq; simp only [implies_true, blank_mk, apply_ite (State.blank F), ite_self, or_true, true_or, h_snaps, h_pulses, h_freeCtr, u_ghp,
          ghpDone_blank, hostRead_blank] at hq; exact hq.symm)
      | (rename_i hq; replace hq := congrArg (fun p => State.blank F p.2) hq; simp only [implies_true, blank_mk, apply_ite (State.blank F), ite_self, or_true, true_or, h_snaps, h_pulses, h_freeCtr, u_ghp,
          ghpDone_blank, hostRead_blank] at hq; exact hq.symm)
      | (rename_i hq; replace hq := congrArg (fun p => State.blank F p.2.2) hq; simp only [implies_true, blank_mk, apply_ite (State.blank F), ite_self, or_true, true_or, h_snaps, h_pulses, h_freeCtr, u_ghp,
          ghpDone_blank, hostRead_blank] at hq; exact hq.symm)
      | dsimp only
      | (intro))

theorem execRgRead_blank (region : Nat) (tile : Option Nat) (off : Nat) (sz64 : Bool) (ten : Nat) (tag : Nat) (s : State)
    (h_snaps : F.snaps) (h_ghp : F.ghp) (h_flue : F.flue) (h_pulses : F.pulses) (h_freeCtr : F.freeCtr) (u_ghp : F.has .ghp) :
    Keeps F s (execRgRead region tile off sz64 ten tag s) := by
  unfold execRgRead
  repeat' (first
      | with_reducible rfl
      | simp only [implies_true, apply_ite (State.blank F), keeps_next, h_snaps, h_flue, h_pulses, h_freeCtr, u_ghp,
          readPlace_blank, recv_blank, send_blank, ghpReadHere_blank]
      | (with_reducible refine (ghpForward_blank _ _ _ _ (by first | assumption | exact u_all _) (by first | assumption | exact u_all _) ?_).trans ?_)
      | split
      | (intro))

theorem execRgWrite_blank (region : Nat) (tile : Option Nat) (off : Nat) (sz64 : Bool) (data : Nat) (ten : Nat) (tag : Nat)
    (s : State) (h_cfg : F.cfg) (h_probes : F.probes) (h_hubs : F.hubs) (h_master : F.master) (h_flt : F.flt) (h_fl : F.fl)
    (h_rcv : F.rcv) (h_ldg : F.ldg) (h_tally : F.tally) (h_vault : F.vault) (h_tokbuf : F.tokbuf) (h_link : F.link)
    (h_colo : F.colo) (h_sys : F.sys) (h_stk : F.stk) (h_dbg : F.dbg) (h_bru : F.bru) (h_pwr : F.pwr) (h_flue : F.flue)
    (h_pulses : F.pulses) (h_freeCtr : F.freeCtr) (u_all : ∀ u, F.has u = true) : Keeps F s (execRgWrite region tile off sz64
    data ten tag s) := by
  unfold execRgWrite
  repeat' (first
      | with_reducible rfl
      | simp only [implies_true, keeps_next, h_cfg, h_probes, h_hubs, h_master, h_flt, h_fl, h_rcv, h_ldg, h_tally, h_vault,
          h_tokbuf, h_link, h_colo, h_sys, h_stk, h_dbg, h_bru, h_pwr, h_flue, h_pulses, h_freeCtr, u_all, writePlace_blank,
          recv_blank, send_blank]
      | split
      | (intro))

theorem execRgRdata_blank (region : Nat) (tile : Option Nat) (tag : Nat) (status : Nat) (data : Nat) (s : State) (h_ghp : F.ghp)
    (h_flue : F.flue) (h_pulses : F.pulses) (u_ghp : F.has .ghp) : Keeps F s (execRgRdata region tile tag status data s) := by
  unfold execRgRdata
  repeat' (first
      | with_reducible rfl
      | simp only [keeps_next, h_ghp, h_flue, h_pulses, u_ghp, ghpEnd_blank, recv_blank]
      | split
      | (intro))

theorem execRgWack_blank (region : Nat) (tile : Option Nat) (tag : Nat) (status : Nat) (s : State) (h_ghp : F.ghp)
    (h_flue : F.flue) (h_pulses : F.pulses) (u_ghp : F.has .ghp) : Keeps F s (execRgWack region tile tag status s) := by
  unfold execRgWack
  repeat' (first
      | with_reducible rfl
      | simp only [keeps_next, h_ghp, h_flue, h_pulses, u_ghp, ghpEnd_blank, recv_blank]
      | split
      | (intro))

theorem execMrRead_blank (region : Nat) (off : Nat) (sz64 : Bool) (lens : Bool) (tag : Nat) (s : State) (h_snaps : F.snaps)
    (h_ghp : F.ghp) (h_flue : F.flue) (h_freeCtr : F.freeCtr) (u_ghp : F.has .ghp) : Keeps F s (execMrRead region off sz64 lens
    tag s) := by
  unfold execMrRead
  repeat' (first
      | with_reducible rfl
      | simp only [implies_true, keeps_next, h_snaps, h_flue, h_freeCtr, readCell_blank, recv_blank, send_blank]
      | (with_reducible refine (ghpForward_blank _ _ _ _ (by first | assumption | exact u_all _) (by first | assumption | exact u_all _) ?_).trans ?_)
      | split
      | (intro))

theorem execGhpTimeout_blank (tag : Nat) (s : State) (h_ghp : F.ghp) (h_pulses : F.pulses) (u_ghp : F.has .ghp) : Keeps F s
    (execGhpTimeout tag s) := by
  unfold execGhpTimeout
  repeat' (first
      | with_reducible rfl
      | simp only [keeps_next, h_ghp, h_pulses, u_ghp, ghpEnd_blank]
      | split
      | (intro))

theorem traceFlit_blank (s : State) (r : Nat) (k : Nat) (h_freeCtr : F.freeCtr) : (State.traceFlit s r k).2.blank F = s.blank F
    := by
  unfold State.traceFlit
  repeat' (first
      | with_reducible rfl
      | simp only [h_freeCtr, fresh_blank]
      | split
      | (intro))

theorem mirrorFlit_blank (s : State) (r : Nat) (lens : Bool) (o : Nat) (h_snaps : F.snaps) (h_freeCtr : F.freeCtr) :
    (State.mirrorFlit s r lens o).2.2.blank F = s.blank F := by
  unfold State.mirrorFlit
  repeat' (first
      | with_reducible rfl
      | simp only [h_snaps, h_freeCtr, cellWord_blank]
      | split
      | (intro))

theorem skFlits_blank (s : State) (r : Nat) (part : Nat) (off : Nat) (a4 : Nat) (h_snaps : F.snaps) (h_freeCtr : F.freeCtr) :
    (State.skFlits s r part off a4).2.2.blank F = s.blank F := by
  induction a4 generalizing s r part off with
  | zero =>
    unfold State.skFlits
    repeat' (first
        | with_reducible rfl
        | simp only [implies_true, blank_mk, apply_ite (State.blank F), ite_self, or_true, true_or, h_snaps, h_freeCtr,
            traceFlit_blank, mirrorFlit_blank]
        | split
        | (intro))
  | succ n ih =>
    unfold State.skFlits
    repeat' (first
        | with_reducible rfl
        | simp only [implies_true, blank_mk, apply_ite (State.blank F), ite_self, or_true, true_or, h_snaps, h_freeCtr, ih,
            traceFlit_blank, mirrorFlit_blank]
        | split
        | (intro))

theorem execSkRead_blank (region : Nat) (xferTag : Nat) (part : Nat) (off : Nat) (flits : Nat) (s : State) (h_snaps : F.snaps)
    (h_flue : F.flue) (h_freeCtr : F.freeCtr) : Keeps F s (execSkRead region xferTag part off flits s) := by
  unfold execSkRead
  repeat' (first
      | with_reducible rfl
      | simp only [keeps_next, h_snaps, h_flue, h_freeCtr, recv_blank, skFlits_blank, send_blank]
      | split
      | (intro))

theorem mgtRequest_blank (s : State) (act : State → Nat × List Nat × State) (h_pulses : F.pulses)
    (hact : ∀ x0, (act x0).2.2.blank F = x0.blank F) : (State.mgtRequest s act).blank F = s.blank F := by
  unfold State.mgtRequest
  split
  · rfl
  · split
    · exact emit_blank _ _ (by assumption)
    · exact ((emit_blank _ _ (by assumption)).trans (ibi_blank _ _ (by assumption))).trans (hact s)

theorem freeBytes_blank (s : State) (n : Nat) (h_freeCtr : F.freeCtr) : (State.freeBytes s n).2.blank F = s.blank F := by
  unfold State.freeBytes
  repeat' (first
      | with_reducible rfl
      | simp only [h_freeCtr, fresh_blank]
      | split
      | (intro))

theorem mirrorWords_blank (s : State) (o : Nat) (a2 : Nat) (h_snaps : F.snaps) (h_freeCtr : F.freeCtr) : (State.mirrorWords s o
    a2).2.2.blank F = s.blank F := by
  induction a2 generalizing s o with
  | zero =>
    unfold State.mirrorWords
    repeat' (first
        | with_reducible rfl
        | simp only [implies_true, blank_mk, apply_ite (State.blank F), ite_self, or_true, true_or, h_snaps, h_freeCtr,
            readMirror_blank]
        | split
        | (intro))
  | succ n ih =>
    unfold State.mirrorWords
    repeat' (first
        | with_reducible rfl
        | simp only [implies_true, blank_mk, apply_ite (State.blank F), ite_self, or_true, true_or, h_snaps, h_freeCtr, ih,
            readMirror_blank]
        | split
        | (intro))

theorem ccc_blank (s : State) (act : Mgt → Option (Mgt × List Nat)) (h_mgt : F.mgt) (h_pulses : F.pulses) : (State.ccc s
    act).blank F = s.blank F := by
  unfold State.ccc
  repeat' (first
      | with_reducible rfl
      | simp only [blank_mk, apply_ite (State.blank F), or_true, true_or, h_mgt, h_pulses, emit_blank]
      | split
      | (intro))

theorem execGetStatus_blank (s : State) (h_pulses : F.pulses) : Keeps F s (execGetStatus s) := by
  unfold execGetStatus
  repeat' (first
      | with_reducible rfl
      | simp only [implies_true, keeps_next]
      | (with_reducible refine (mgtRequest_blank _ _ (by first | assumption | exact u_all _) ?_).trans ?_)
      | split
      | (intro))

theorem execReadReg_blank (addr : Nat) (sz64 : Bool) (s : State) (h_snaps : F.snaps) (h_pulses : F.pulses)
    (h_freeCtr : F.freeCtr) : Keeps F s (execReadReg addr sz64 s) := by
  unfold execReadReg
  repeat' (first
      | with_reducible rfl
      | simp only [implies_true, keeps_next, h_snaps, h_freeCtr, readAs0_blank]
      | (with_reducible refine (mgtRequest_blank _ _ (by first | assumption | exact u_all _) ?_).trans ?_)
      | split
      | (intro))

theorem execReadMirror_blank (offset : Nat) (count : Nat) (s : State) (h_snaps : F.snaps) (h_pulses : F.pulses)
    (h_freeCtr : F.freeCtr) : Keeps F s (execReadMirror offset count s) := by
  unfold execReadMirror
  repeat' (first
      | with_reducible rfl
      | simp only [implies_true, keeps_next, h_snaps, h_freeCtr, mirrorWords_blank]
      | (with_reducible refine (mgtRequest_blank _ _ (by first | assumption | exact u_all _) ?_).trans ?_)
      | split
      | (intro))

theorem execReadLedger_blank (page : Nat) (chunk : Nat) (s : State) (h_pulses : F.pulses) (h_freeCtr : F.freeCtr) : Keeps F s
    (execReadLedger page chunk s) := by
  unfold execReadLedger
  repeat' (first
      | with_reducible rfl
      | simp only [keeps_next, h_freeCtr, freeBytes_blank, fresh_blank]
      | (with_reducible refine (mgtRequest_blank _ _ (by first | assumption | exact u_all _) ?_).trans ?_)
      | split
      | (intro))

theorem execPower_blank (on : Bool) (s : State) (h_cfg : F.cfg) (h_probes : F.probes) (h_hubs : F.hubs) (h_master : F.master)
    (h_flt : F.flt) (h_fl : F.fl) (h_ldg : F.ldg) (h_tally : F.tally) (h_link : F.link) (h_colo : F.colo) (h_sys : F.sys)
    (h_stk : F.stk) (h_bru : F.bru) (h_pwr : F.pwr) (h_flue : F.flue) (h_pulses : F.pulses) (h_freeCtr : F.freeCtr)
    (u_all : ∀ u, F.has u = true) : Keeps F s (execPower on s) := by
  unfold execPower
  repeat' (first
      | with_reducible rfl
      | simp only [implies_true, apply_ite (State.blank F), ite_self, keeps_next, h_cfg, h_probes, h_hubs, h_master, h_flt,
          h_fl, h_ldg, h_tally, h_link, h_colo, h_sys, h_stk, h_bru, h_pwr, h_flue, h_pulses, h_freeCtr, u_all, onRequest_blank,
          offRequest_blank]
      | (with_reducible refine (mgtRequest_blank _ _ (by first | assumption | exact u_all _) ?_).trans ?_)
      | split
      | (intro))

theorem execGstop_blank (stop : Bool) (s : State) (h_hubs : F.hubs) (h_master : F.master) (h_flt : F.flt) (h_fl : F.fl)
    (h_ldg : F.ldg) (h_tally : F.tally) (h_link : F.link) (h_colo : F.colo) (h_dbg : F.dbg) (h_bru : F.bru) (h_flue : F.flue)
    (h_pulses : F.pulses) (h_freeCtr : F.freeCtr) (u_bru : F.has .bru) (u_flt : F.has .flt) (u_ccd : F.has .ccd)
    (u_ldg : F.has .ldg) (u_dbg : F.has .dbg) (u_folio : F.has .folio) (u_cat : F.has .cat) (u_clp : F.has .clp)
    (u_tenant : F.has .tenant) : Keeps F s (execGstop stop s) := by
  unfold execGstop
  repeat' (first
      | with_reducible rfl
      | simp only [keeps_next, h_hubs, h_master, h_flt, h_fl, h_ldg, h_tally, h_link, h_colo, h_dbg, h_bru, h_flue, h_pulses,
          h_freeCtr, u_bru, u_flt, u_ccd, u_ldg, u_dbg, u_folio, u_cat, u_clp, u_tenant, stopRelease_blank, stopRaise_blank]
      | (with_reducible refine (mgtRequest_blank _ _ (by first | assumption | exact u_all _) ?_).trans ?_)
      | split
      | (intro))

theorem execSetAmb_blank (region : Nat) (tamb : Nat) (s : State) (h_pulses : F.pulses) (h_freeCtr : F.freeCtr)
    (u_hubEn : F.has .hubEn) : Keeps F s (execSetAmb region tamb s) := by
  unfold execSetAmb
  repeat' (first
      | with_reducible rfl
      | simp only [implies_true, keeps_next, h_freeCtr, u_hubEn, fresh_blank, set_blank, unit_RH_TH_AMB_AMB]
      | (with_reducible refine (foldl_blank _ _ _ ?_).trans ?_)
      | (with_reducible refine (mgtRequest_blank _ _ (by first | assumption | exact u_all _) ?_).trans ?_)
      | split
      | (intro))

theorem execWakeWrite_blank (s : State) (h_cfg : F.cfg) (h_probes : F.probes) (h_hubs : F.hubs) (h_master : F.master)
    (h_flt : F.flt) (h_fl : F.fl) (h_ldg : F.ldg) (h_tally : F.tally) (h_link : F.link) (h_colo : F.colo) (h_sys : F.sys)
    (h_stk : F.stk) (h_bru : F.bru) (h_pwr : F.pwr) (h_flue : F.flue) (h_pulses : F.pulses) (h_freeCtr : F.freeCtr)
    (u_all : ∀ u, F.has u = true) : Keeps F s (execWakeWrite s) := by
  unfold execWakeWrite
  repeat' (first
      | with_reducible rfl
      | simp only [implies_true, keeps_next, h_cfg, h_probes, h_hubs, h_master, h_flt, h_fl, h_ldg, h_tally, h_link, h_colo,
          h_sys, h_stk, h_bru, h_pwr, h_flue, h_pulses, h_freeCtr, u_all, onRequest_blank, raise_blank, emit_blank,
          unit_MGT_EVENT_WAKE]
      | split
      | (intro))

theorem execSetEndpointId_blank (op : Nat) (eid : Nat) (s : State) (h_mgt : F.mgt) (h_pulses : F.pulses) : Keeps F s
    (execSetEndpointId op eid s) := by
  unfold execSetEndpointId
  repeat' (first
      | with_reducible rfl
      | simp only [implies_true, blank_mk, or_true, true_or, keeps_next, h_mgt, h_pulses]
      | (with_reducible refine (mgtRequest_blank _ _ (by first | assumption | exact u_all _) ?_).trans ?_)
      | split
      | (intro))

theorem execGetEndpointId_blank (s : State) (h_pulses : F.pulses) : Keeps F s (execGetEndpointId s) := by
  unfold execGetEndpointId
  repeat' (first
      | with_reducible rfl
      | simp only [implies_true, keeps_next]
      | (with_reducible refine (mgtRequest_blank _ _ (by first | assumption | exact u_all _) ?_).trans ?_)
      | split
      | (intro))

theorem execGetMctpVersionSupport_blank (type : Nat) (s : State) (h_pulses : F.pulses) (h_freeCtr : F.freeCtr) : Keeps F s
    (execGetMctpVersionSupport type s) := by
  unfold execGetMctpVersionSupport
  repeat' (first
      | with_reducible rfl
      | simp only [implies_true, keeps_next, h_freeCtr, freeBytes_blank]
      | (with_reducible refine (mgtRequest_blank _ _ (by first | assumption | exact u_all _) ?_).trans ?_)
      | split
      | (intro))

theorem execGetMessageTypeSupport_blank (s : State) (h_pulses : F.pulses) : Keeps F s (execGetMessageTypeSupport s) := by
  unfold execGetMessageTypeSupport
  repeat' (first
      | with_reducible rfl
      | simp only [implies_true, keeps_next]
      | (with_reducible refine (mgtRequest_blank _ _ (by first | assumption | exact u_all _) ?_).trans ?_)
      | split
      | (intro))

theorem execGetVendorDefinedMessageSupport_blank (selector : Nat) (s : State) (h_pulses : F.pulses) (h_freeCtr : F.freeCtr) :
    Keeps F s (execGetVendorDefinedMessageSupport selector s) := by
  unfold execGetVendorDefinedMessageSupport
  repeat' (first
      | with_reducible rfl
      | simp only [implies_true, keeps_next, h_freeCtr, freeBytes_blank]
      | (with_reducible refine (mgtRequest_blank _ _ (by first | assumption | exact u_all _) ?_).trans ?_)
      | split
      | (intro))

theorem execGettid_blank (s : State) (h_pulses : F.pulses) (h_freeCtr : F.freeCtr) : Keeps F s (execGettid s) := by
  unfold execGettid
  repeat' (first
      | with_reducible rfl
      | simp only [implies_true, keeps_next, h_freeCtr, freeBytes_blank]
      | (with_reducible refine (mgtRequest_blank _ _ (by first | assumption | exact u_all _) ?_).trans ?_)
      | split
      | (intro))

theorem execGetpldmversion_blank (type : Nat) (s : State) (h_pulses : F.pulses) (h_freeCtr : F.freeCtr) : Keeps F s
    (execGetpldmversion type s) := by
  unfold execGetpldmversion
  repeat' (first
      | with_reducible rfl
      | simp only [implies_true, keeps_next, h_freeCtr, freeBytes_blank]
      | (with_reducible refine (mgtRequest_blank _ _ (by first | assumption | exact u_all _) ?_).trans ?_)
      | split
      | (intro))

theorem execGetpldmtypes_blank (s : State) (h_pulses : F.pulses) : Keeps F s (execGetpldmtypes s) := by
  unfold execGetpldmtypes
  repeat' (first
      | with_reducible rfl
      | simp only [implies_true, keeps_next]
      | (with_reducible refine (mgtRequest_blank _ _ (by first | assumption | exact u_all _) ?_).trans ?_)
      | split
      | (intro))

theorem execGetpldmcommands_blank (type : Nat) (s : State) (h_pulses : F.pulses) : Keeps F s (execGetpldmcommands type s) := by
  unfold execGetpldmcommands
  repeat' (first
      | with_reducible rfl
      | simp only [implies_true, keeps_next]
      | (with_reducible refine (mgtRequest_blank _ _ (by first | assumption | exact u_all _) ?_).trans ?_)
      | split
      | (intro))

theorem execGetpdrrepositoryinfo_blank (s : State) (h_pulses : F.pulses) (h_freeCtr : F.freeCtr) : Keeps F s
    (execGetpdrrepositoryinfo s) := by
  unfold execGetpdrrepositoryinfo
  repeat' (first
      | with_reducible rfl
      | simp only [implies_true, keeps_next, h_freeCtr, freeBytes_blank]
      | (with_reducible refine (mgtRequest_blank _ _ (by first | assumption | exact u_all _) ?_).trans ?_)
      | split
      | (intro))

theorem execGetpdr_blank (_handle : Nat) (s : State) (h_pulses : F.pulses) (h_freeCtr : F.freeCtr) : Keeps F s (execGetpdr
    _handle s) := by
  unfold execGetpdr
  repeat' (first
      | with_reducible rfl
      | simp only [implies_true, keeps_next, h_freeCtr, freeBytes_blank]
      | (with_reducible refine (mgtRequest_blank _ _ (by first | assumption | exact u_all _) ?_).trans ?_)
      | split
      | (intro))

theorem numericSensor_blank (s t : State) (id v : Nat) (h_freeCtr : F.freeCtr) (h : s.numericSensor id = some (v, t)) : t.blank
    F = s.blank F := by
  unfold State.numericSensor at h
  split at h
  · cases h
    exact fresh_blank s 1 (by assumption)
  · split at h
    · cases h
      rfl
    · split at h
      · cases h
        rfl
      · cases h

theorem execGetsensorreading_blank (sensor : Nat) (s : State) (h_pulses : F.pulses) (h_freeCtr : F.freeCtr) : Keeps F s
    (execGetsensorreading sensor s) := by
  refine (keeps_next _ _).mpr (mgtRequest_blank _ _ (by assumption) (fun x => ?_))
  split
  · exact numericSensor_blank _ _ _ _ (by assumption) ‹_›
  · rfl

theorem execGetstatesensorreadings_blank (sensor : Nat) (s : State) (h_pulses : F.pulses) : Keeps F s
    (execGetstatesensorreadings sensor s) := by
  unfold execGetstatesensorreadings
  repeat' (first
      | with_reducible rfl
      | simp only [keeps_next]
      | (with_reducible refine (mgtRequest_blank _ _ (by first | assumption | exact u_all _) ?_).trans ?_)
      | split
      | (intro))

theorem execEntdaa_blank (addr : Nat) (s : State) (h_mgt : F.mgt) (h_pulses : F.pulses) : Keeps F s (execEntdaa addr s) := by
  unfold execEntdaa
  repeat' (first
      | with_reducible rfl
      | simp only [keeps_next, h_mgt, h_pulses, ccc_blank]
      | split
      | (intro))

theorem execSetdasa_blank (sa : Nat) (addr : Nat) (s : State) (h_mgt : F.mgt) (h_pulses : F.pulses) : Keeps F s (execSetdasa sa
    addr s) := by
  unfold execSetdasa
  repeat' (first
      | with_reducible rfl
      | simp only [keeps_next, h_mgt, h_pulses, ccc_blank]
      | split
      | (intro))

theorem execSetnewda_blank (old : Nat) (new : Nat) (s : State) (h_mgt : F.mgt) (h_pulses : F.pulses) : Keeps F s (execSetnewda
    old new s) := by
  unfold execSetnewda
  repeat' (first
      | with_reducible rfl
      | simp only [keeps_next, h_mgt, h_pulses, ccc_blank]
      | split
      | (intro))

theorem execRstdaa_blank (s : State) (h_mgt : F.mgt) (h_pulses : F.pulses) : Keeps F s (execRstdaa s) := by
  unfold execRstdaa
  repeat' (first
      | with_reducible rfl
      | simp only [keeps_next, h_mgt, h_pulses, ccc_blank]
      | split
      | (intro))

theorem execEnec_blank (addr : Option Nat) (events : Nat) (s : State) (h_mgt : F.mgt) (h_pulses : F.pulses) : Keeps F s
    (execEnec addr events s) := by
  unfold execEnec
  repeat' (first
      | with_reducible rfl
      | simp only [keeps_next, h_mgt, h_pulses, ccc_blank]
      | split
      | (intro))

theorem execDisec_blank (addr : Option Nat) (events : Nat) (s : State) (h_mgt : F.mgt) (h_pulses : F.pulses) : Keeps F s
    (execDisec addr events s) := by
  unfold execDisec
  repeat' (first
      | with_reducible rfl
      | simp only [keeps_next, h_mgt, h_pulses, ccc_blank]
      | split
      | (intro))

theorem execGetpid_blank (addr : Nat) (s : State) (h_mgt : F.mgt) (h_pulses : F.pulses) : Keeps F s (execGetpid addr s) := by
  unfold execGetpid
  repeat' (first
      | with_reducible rfl
      | simp only [keeps_next, h_mgt, h_pulses, ccc_blank]
      | split
      | (intro))

theorem execGetbcr_blank (addr : Nat) (s : State) (h_mgt : F.mgt) (h_pulses : F.pulses) : Keeps F s (execGetbcr addr s) := by
  unfold execGetbcr
  repeat' (first
      | with_reducible rfl
      | simp only [keeps_next, h_mgt, h_pulses, ccc_blank]
      | split
      | (intro))

theorem execGetdcr_blank (addr : Nat) (s : State) (h_mgt : F.mgt) (h_pulses : F.pulses) : Keeps F s (execGetdcr addr s) := by
  unfold execGetdcr
  repeat' (first
      | with_reducible rfl
      | simp only [keeps_next, h_mgt, h_pulses, ccc_blank]
      | split
      | (intro))

theorem execGetstatus_blank (addr : Nat) (s : State) (h_mgt : F.mgt) (h_pulses : F.pulses) (h_freeCtr : F.freeCtr) : Keeps F s
    (execGetstatus addr s) := by
  unfold execGetstatus
  repeat' (first
      | with_reducible rfl
      | simp only [keeps_next, h_mgt, h_pulses, h_freeCtr, freeBytes_blank, ccc_blank]
      | split
      | (intro))

theorem execGetmwl_blank (addr : Nat) (s : State) (h_mgt : F.mgt) (h_pulses : F.pulses) : Keeps F s (execGetmwl addr s) := by
  unfold execGetmwl
  repeat' (first
      | with_reducible rfl
      | simp only [keeps_next, h_mgt, h_pulses, ccc_blank]
      | split
      | (intro))

theorem execGetmrl_blank (addr : Nat) (s : State) (h_mgt : F.mgt) (h_pulses : F.pulses) : Keeps F s (execGetmrl addr s) := by
  unfold execGetmrl
  repeat' (first
      | with_reducible rfl
      | simp only [keeps_next, h_mgt, h_pulses, ccc_blank]
      | split
      | (intro))

theorem execSetmwl_blank (addr : Option Nat) (len : Nat) (s : State) (h_mgt : F.mgt) (h_pulses : F.pulses) : Keeps F s
    (execSetmwl addr len s) := by
  unfold execSetmwl
  repeat' (first
      | with_reducible rfl
      | simp only [keeps_next, h_mgt, h_pulses, ccc_blank]
      | split
      | (intro))

theorem execSetmrl_blank (addr : Option Nat) (len : Nat) (s : State) (h_mgt : F.mgt) (h_pulses : F.pulses) : Keeps F s
    (execSetmrl addr len s) := by
  unfold execSetmrl
  repeat' (first
      | with_reducible rfl
      | simp only [keeps_next, h_mgt, h_pulses, ccc_blank]
      | split
      | (intro))

theorem execTimeRound_blank (s : State) (h_timeRounds : F.timeRounds) (h_flue : F.flue) (h_net : F.net) : Keeps F s
    (execTimeRound s) := by
  unfold execTimeRound
  repeat' (first
      | with_reducible rfl
      | simp only [implies_true, blank_mk, apply_ite (State.blank F), or_true, true_or, keeps_next, h_timeRounds, h_flue, h_net,
          sendTime_blank]
      | (with_reducible refine (foldl_blank _ _ _ ?_).trans ?_)
      | split
      | (intro))

theorem execTime_blank (region : Nat) (tile : Option Nat) (round : Nat) (gt : Nat) (s : State) (h_probes : F.probes)
    (h_hubs : F.hubs) (h_flue : F.flue) (h_net : F.net) (h_freeCtr : F.freeCtr) : Keeps F s (execTime region tile round gt s) :=
    by
  unfold execTime
  repeat' (first
      | with_reducible rfl
      | simp only [implies_true, apply_ite (State.blank F), ite_self, keeps_next, h_probes, h_hubs, h_flue, h_net, h_freeCtr,
          tookTime_blank, modProbe_blank, fresh_blank, recv_blank, modHub_blank, send_blank, sendTime_blank]
      | (with_reducible refine (foldl_blank _ _ _ ?_).trans ?_)
      | split
      | (intro))

theorem execFlueNak_blank (hop : HopId) (again : Bool) (s : State) (h_probes : F.probes) (h_hubs : F.hubs) (h_master : F.master)
    (h_lost : F.lost) (h_hops : F.hops) (h_flt : F.flt) (h_fl : F.fl) (h_ldg : F.ldg) (h_tally : F.tally) (h_vault : F.vault)
    (h_link : F.link) (h_colo : F.colo) (h_sys : F.sys) (h_bru : F.bru) (h_flue : F.flue) (h_net : F.net) (h_pulses : F.pulses)
    (h_freeCtr : F.freeCtr) (u_bru : F.has .bru) (u_flt : F.has .flt) (u_ccd : F.has .ccd) (u_tly : F.has .tly)
    (u_ldg : F.has .ldg) (u_folio : F.has .folio) (u_cat : F.has .cat) (u_clp : F.has .clp) (u_tenant : F.has .tenant)
    (u_hubFlt : F.has .hubFlt) (u_hubTr : F.has .hubTr) : Keeps F s (execFlueNak hop again s) := by
  unfold execFlueNak
  repeat' (first
      | with_reducible rfl
      | simp only [apply_ite (State.blank F), ite_self, keeps_next, h_probes, h_hubs, h_master, h_lost, h_hops, h_flt, h_fl,
          h_ldg, h_tally, h_vault, h_link, h_colo, h_sys, h_bru, h_flue, h_net, h_pulses, h_freeCtr, u_bru, u_flt, u_ccd, u_tly,
          u_ldg, u_folio, u_cat, u_clp, u_tenant, u_hubFlt, u_hubTr, modHop_blank, replay_blank, traceSender_blank,
          hopDown_blank]
      | split
      | (intro))

theorem execFlueRetrainDone_blank (hop : HopId) (ok : Bool) (latency : Nat) (s : State) (h_probes : F.probes) (h_hubs : F.hubs)
    (h_master : F.master) (h_lost : F.lost) (h_hops : F.hops) (h_flt : F.flt) (h_fl : F.fl) (h_ldg : F.ldg) (h_tally : F.tally)
    (h_vault : F.vault) (h_link : F.link) (h_colo : F.colo) (h_sys : F.sys) (h_bru : F.bru) (h_flue : F.flue)
    (h_pulses : F.pulses) (h_freeCtr : F.freeCtr) (u_bru : F.has .bru) (u_flt : F.has .flt) (u_ccd : F.has .ccd)
    (u_tly : F.has .tly) (u_ldg : F.has .ldg) (u_folio : F.has .folio) (u_cat : F.has .cat) (u_clp : F.has .clp)
    (u_tenant : F.has .tenant) (u_hubFlt : F.has .hubFlt) (u_hubTr : F.has .hubTr) : Keeps F s (execFlueRetrainDone hop ok
    latency s) := by
  unfold execFlueRetrainDone
  repeat' (first
      | with_reducible rfl
      | simp only [apply_ite (State.blank F), ite_self, keeps_next, h_probes, h_hubs, h_master, h_lost, h_hops, h_flt, h_fl,
          h_ldg, h_tally, h_vault, h_link, h_colo, h_sys, h_bru, h_flue, h_pulses, h_freeCtr, u_bru, u_flt, u_ccd, u_tly, u_ldg,
          u_folio, u_cat, u_clp, u_tenant, u_hubFlt, u_hubTr, modHop_blank, hopDown_blank]
      | split
      | (intro))

theorem execFlueReservedOpcode_blank (region : Nat) (tile : Option Nat) (src : Nat) (tag : Nat) (opcode : Nat) (tenant : Nat)
    (dest : Option Nat) (req : Bool) (s : State) (h_probes : F.probes) (h_hubs : F.hubs) (h_flt : F.flt) (h_flue : F.flue)
    (h_freeCtr : F.freeCtr) (u_hubFlt : F.has .hubFlt) : Keeps F s (execFlueReservedOpcode region tile src tag opcode tenant
    dest req s) := by
  unfold execFlueReservedOpcode
  repeat' (first
      | with_reducible rfl
      | simp only [blank_mk, apply_ite (State.blank F), ite_self, or_true, true_or, keeps_next, h_probes, h_hubs, h_flt, h_flue,
          h_freeCtr, u_hubFlt, fresh_blank, flueProto_blank, send_blank]
      | split
      | (intro))

theorem countCycles_blank (s : State) (r : Nat) (t : Nat) (u_probe : F.has .probe) : (State.countCycles s r t).blank F = s.blank
    F := by
  unfold State.countCycles
  repeat' (first
      | with_reducible rfl
      | simp only [apply_ite (State.blank F), ite_self, u_probe, count_blank]
      | split
      | (intro))

theorem advanceGt_blank (s : State) (h_probes : F.probes) (h_hubs : F.hubs) (h_gt : F.gt) : (State.advanceGt s).blank F =
    s.blank F := by
  unfold State.advanceGt
  repeat' (first
      | with_reducible rfl
      | simp only [blank_mk, or_true, true_or, h_probes, h_hubs, h_gt]
      | split
      | (intro))

theorem kick_blank (s : State) (h_hubs : F.hubs) (h_flt : F.flt) (h_fl : F.fl) (h_ldg : F.ldg) (h_tally : F.tally)
    (h_vault : F.vault) (h_link : F.link) (h_colo : F.colo) (h_sys : F.sys) (h_stk : F.stk) (h_bru : F.bru) (h_pwr : F.pwr)
    (h_flue : F.flue) (h_pulses : F.pulses) (h_freeCtr : F.freeCtr) (u_bru : F.has .bru) (u_flt : F.has .flt)
    (u_ccd : F.has .ccd) (u_stk : F.has .stk) (u_channel : F.has .channel) (u_tly : F.has .tly) (u_ldg : F.has .ldg)
    (u_folio : F.has .folio) (u_cat : F.has .cat) (u_clp : F.has .clp) (u_tenant : F.has .tenant) : (State.kick s).blank F =
    s.blank F := by
  unfold State.kick
  repeat' (first
      | with_reducible rfl
      | simp only [apply_ite (State.blank F), ite_self, h_hubs, h_flt, h_fl, h_ldg, h_tally, h_vault, h_link, h_colo, h_sys,
          h_stk, h_bru, h_pwr, h_flue, h_pulses, h_freeCtr, u_bru, u_flt, u_ccd, u_stk, u_channel, u_tly, u_ldg, u_folio, u_cat,
          u_clp, u_tenant, flipBank_blank, pumpLedger_blank, pumpAll_blank, quiesce_blank, kickSys_blank, mapPorts_blank,
          askSeal_blank, kickSweeps_blank]
      | split
      | (intro))

theorem countBusy_blank (s : State) (r : Nat) (t : Nat) (service : Bool) (h_probes : F.probes) (h_flue : F.flue) :
    (State.countBusy s r t service).blank F = s.blank F := by
  unfold State.countBusy
  repeat' (first
      | with_reducible rfl
      | simp only [apply_ite (State.blank F), ite_self, h_probes, h_flue, activity_blank]
      | split
      | (intro))

theorem tick_blank (s : State) (h_probes : F.probes) (h_hubs : F.hubs) (h_gt : F.gt) (h_flt : F.flt) (h_fl : F.fl)
    (h_ldg : F.ldg) (h_tally : F.tally) (h_vault : F.vault) (h_link : F.link) (h_colo : F.colo) (h_sys : F.sys) (h_stk : F.stk)
    (h_bru : F.bru) (h_pwr : F.pwr) (h_flue : F.flue) (h_net : F.net) (h_pulses : F.pulses) (h_freeCtr : F.freeCtr)
    (u_bru : F.has .bru) (u_flt : F.has .flt) (u_ccd : F.has .ccd) (u_stk : F.has .stk) (u_channel : F.has .channel)
    (u_tly : F.has .tly) (u_ldg : F.has .ldg) (u_folio : F.has .folio) (u_cat : F.has .cat) (u_clp : F.has .clp)
    (u_tenant : F.has .tenant) (u_hubFlt : F.has .hubFlt) (u_hubWd : F.has .hubWd) (u_probe : F.has .probe) : (State.tick
    s).blank F = s.blank F := by
  unfold State.tick
  repeat' (first
      | with_reducible rfl
      | simp only [implies_true, blank_mk, apply_ite (State.blank F), ite_self, or_true, true_or, h_probes, h_hubs, h_gt, h_flt,
          h_fl, h_ldg, h_tally, h_vault, h_link, h_colo, h_sys, h_stk, h_bru, h_pwr, h_flue, h_net, h_pulses, h_freeCtr, u_bru,
          u_flt, u_ccd, u_stk, u_channel, u_tly, u_ldg, u_folio, u_cat, u_clp, u_tenant, u_hubFlt, u_hubWd, u_probe, kick_blank,
          countCycles_blank, countBusy_blank, advanceGt_blank, mapPorts_blank, flueTick_blank, gapTick_blank]
      | (with_reducible refine (foldl_blank _ _ _ ?_).trans ?_)
      | split
      | (intro))

end Sys2Proof.Machine
end

