-- ==== Sys2Proof/Laws/Table.lean ====
section
/-! SUPPORT. Laws of the sparse tables and addressed buffers: a read after a write, writes that leave other keys alone, and the canonical form, which
every write keeps. -/

namespace Sys2Proof.Machine

variable {α : Type}

@[simp] theorem tget_tput_self (k : Nat) (v : α) (t : Table α) : tget k (tput k v t) = some v := by
  induction t with
  | nil => simp [tput, tget]
  | cons e t ih =>
    obtain ⟨k', v'⟩ := e
    simp only [tput]
    split
    · simp [tget]
    · split
      · simp [tget]
      · rename_i h
        simp [tget, h, ih]

theorem tget_tput_ne {k j : Nat} (h : j ≠ k) (v : α) (t : Table α) : tget j (tput k v t) = tget j t := by
  induction t with
  | nil => simp [tput, tget, h]
  | cons e t ih =>
    obtain ⟨k', v'⟩ := e
    simp only [tput]
    split
    · simp [tget, h]
    · split
      · rename_i e
        subst e
        simp [tget, h]
      · simp [tget, ih]

@[simp] theorem tgetD_tput_self (d : α) (k : Nat) (v : α) (t : Table α) : tgetD d k (tput k v t) = v := by simp [tgetD]

theorem tgetD_tput_ne {k j : Nat} (h : j ≠ k) (d v : α) (t : Table α) : tgetD d j (tput k v t) = tgetD d j t := by
  simp [tgetD, tget_tput_ne h]

/-- Every key of a table is above `lo`, where `lo` is given. -/
theorem tsorted_tput (lo : Option Nat) (k : Nat) (v : α) (t : Table α) (h : tsorted lo t = true) (hk : ∀ l, lo = some l → l < k) :
    tsorted lo (tput k v t) = true := by
  induction t generalizing lo with
  | nil => cases lo <;> simp_all [tput, tsorted]
  | cons e t ih =>
    obtain ⟨k', v'⟩ := e
    simp only [tsorted, Bool.and_eq_true] at h
    simp only [tput]
    split
    · rename_i hlt
      simp only [tsorted, Bool.and_eq_true, decide_eq_true_eq]
      refine ⟨?_, hlt, h.2⟩
      cases lo <;> simp_all
    · split
      · rename_i e
        subst e
        simpa only [tsorted, Bool.and_eq_true] using h
      · rename_i h1 h2
        simp only [tsorted, Bool.and_eq_true]
        refine ⟨h.1, ih (some k') h.2 ?_⟩
        intro l e
        cases e
        omega

theorem tsorted_weaken {lo : Option Nat} {k : Nat} {t : Table α} (h : tsorted (some k) t = true) (hk : ∀ l, lo = some l → l < k) :
    tsorted lo t = true := by
  cases t with
  | nil => cases lo <;> rfl
  | cons e t =>
    obtain ⟨k', v'⟩ := e
    simp only [tsorted, Bool.and_eq_true, decide_eq_true_eq] at h ⊢
    refine ⟨?_, h.2⟩
    cases lo with
    | none => rfl
    | some l => exact decide_eq_true (Nat.lt_trans (hk l rfl) h.1)

theorem tsorted_tdel (lo : Option Nat) (k : Nat) (t : Table α) (h : tsorted lo t = true) : tsorted lo (tdel k t) = true := by
  induction t generalizing lo with
  | nil => rfl
  | cons e t ih =>
    obtain ⟨k', v'⟩ := e
    simp only [tsorted, Bool.and_eq_true] at h
    simp only [tdel]
    split
    · refine tsorted_weaken (ih (some k') h.2) ?_
      intro l e
      subst e
      simpa using h.1
    · simp only [tsorted, Bool.and_eq_true]
      exact ⟨h.1, ih (some k') h.2⟩

@[simp] theorem tget_tdel_self (k : Nat) (t : Table α) : tget k (tdel k t) = none := by
  induction t with
  | nil => rfl
  | cons e t ih =>
    obtain ⟨k', v'⟩ := e
    simp only [tdel]
    split
    · exact ih
    · rename_i hne
      simpa only [tget, if_neg hne] using ih

theorem tget_tdel_ne {k j : Nat} (h : j ≠ k) (t : Table α) : tget j (tdel k t) = tget j t := by
  induction t with
  | nil => rfl
  | cons e t ih =>
    obtain ⟨k', v'⟩ := e
    simp only [tdel]
    split
    · rename_i e
      subst e
      simp [tget, h, ih]
    · simp [tget, ih]

/-! ## Addressed buffers -/

theorem mem_tput {k : Nat} {v : α} {t : Table α} {e : Nat × α} (h : e ∈ tput k v t) : e = (k, v) ∨ e ∈ t := by
  induction t with
  | nil => simpa [tput] using h
  | cons x t ih =>
    obtain ⟨k', v'⟩ := x
    simp only [tput] at h
    split at h
    · simpa using h
    · split at h
      · rcases List.mem_cons.mp h with h | h
        · exact Or.inl h
        · exact Or.inr (List.mem_cons_of_mem _ h)
      · rcases List.mem_cons.mp h with h | h
        · exact Or.inr (h ▸ List.mem_cons_self)
        · rcases ih h with h | h
          · exact Or.inl h
          · exact Or.inr (List.mem_cons_of_mem _ h)

theorem mem_tdel {k : Nat} {t : Table α} {e : Nat × α} (h : e ∈ tdel k t) : e ∈ t := by
  induction t with
  | nil => simp [tdel] at h
  | cons x t ih =>
    obtain ⟨k', v'⟩ := x
    simp only [tdel] at h
    split at h
    · exact List.mem_cons_of_mem _ (ih h)
    · rcases List.mem_cons.mp h with h | h
      · exact h ▸ List.mem_cons_self
      · exact List.mem_cons_of_mem _ (ih h)

/-- Writing through `tset` keeps the canonical form of a table. -/
theorem twf_tset [DecidableEq α] (d : α) (k : Nat) (v : α) (t : Table α) (h : twf d t = true) : twf d (tset d k v t) = true := by
  simp only [twf, Bool.and_eq_true, List.all_eq_true, decide_eq_true_eq] at h ⊢
  simp only [tset]
  split
  · exact ⟨tsorted_tdel _ _ _ h.1, fun e he => h.2 e (mem_tdel he)⟩
  · rename_i hv
    refine ⟨tsorted_tput _ _ _ _ h.1 (by simp), fun e he => ?_⟩
    rcases mem_tput he with rfl | he
    · exact hv
    · exact h.2 e he

theorem wf_writeByte (b : Buffer) (a : Nat) (v : Byte) (h : Buffer.wf b = true) : Buffer.wf (writeByte b a v) = true := twf_tset _ _ _ _ h

/-- Every buffer write keeps the canonical form. -/
theorem wf_writeBytes (l : List Byte) (b : Buffer) (a : Nat) (h : Buffer.wf b = true) : Buffer.wf (writeBytes b a l) = true := by
  induction l generalizing b a with
  | nil => exact h
  | cons v l ih => exact ih _ _ (wf_writeByte b a v h)

@[simp] theorem readByte_writeByte_self (b : Buffer) (a : Nat) (v : Byte) : readByte (writeByte b a v) a = v := by
  simp only [readByte, writeByte, tset]
  split
  · rename_i e
    simp [tgetD, e]
  · simp

theorem readByte_writeByte_ne {a c : Nat} (hc : c ≠ a) (b : Buffer) (v : Byte) : readByte (writeByte b a v) c = readByte b c := by
  simp only [readByte, writeByte, tset]
  split
  · simp [tgetD, tget_tdel_ne hc]
  · simp [tgetD, tget_tput_ne hc]

/-- A write of several bytes leaves every other address alone. -/
theorem readByte_writeBytes_ne (l : List Byte) (b : Buffer) (a c : Nat) (hc : c < a ∨ a + l.length ≤ c) :
    readByte (writeBytes b a l) c = readByte b c := by
  induction l generalizing b a with
  | nil => rfl
  | cons v l ih =>
    simp only [List.length_cons] at hc
    rw [writeBytes, ih _ _ (by omega), readByte_writeByte_ne (by omega)]

/-- The bytes of a write read back. -/
theorem readByte_writeBytes_self (l : List Byte) (b : Buffer) (a i : Nat) (hi : i < l.length) :
    readByte (writeBytes b a l) (a + i) = l[i] := by
  induction l generalizing b a i with
  | nil => simp at hi
  | cons v l ih =>
    cases i with
    | zero =>
      rw [writeBytes, Nat.add_zero, readByte_writeBytes_ne _ _ _ _ (by omega)]
      exact readByte_writeByte_self b a v
    | succ i =>
      rw [writeBytes, show a + (i + 1) = a + 1 + i by omega]
      simpa using ih _ _ i (by simpa using hi)

theorem tget_tmap (f : Nat → α → α) (k : Nat) (t : Table α) : tget k (tmap f t) = (tget k t).map (f k) := by
  induction t with
  | nil => rfl
  | cons e t ih =>
    obtain ⟨k', v'⟩ := e
    simp only [tmap, List.map_cons, tget]
    split
    · rename_i e
      simp [e]
    · exact ih

end Sys2Proof.Machine
end

