-- ==== Sys2Proof/Laws/Ops.lean ====
section
/-! SUPPORT. What the shared operations leave to be read: register fields, probes and hubs after a write of the same or of another. -/

namespace Sys2Proof.Machine

open Sys2Proof

/-! ## Register fields -/

@[simp] theorem get_set_self (s : State) (f : RegField) (i v : Nat) : (s.set f i v).get f i = wrap f.w v := by
  simp [State.get, State.set]

theorem get_set_ne {f g : RegField} {i j : Nat} (h : g.key j ≠ f.key i) (s : State) (v : Nat) : (s.set f i v).get g j = s.get g j := by
  simp [State.get, State.set, tgetD_tput_ne h]

@[simp] theorem get_raise_self (s : State) (f : RegField) (i : Nat) : (s.raise f i).get f i = wrap f.w 1 := get_set_self s f i 1

theorem get_raise_ne {f g : RegField} {i j : Nat} (h : g.key j ≠ f.key i) (s : State) : (s.raise f i).get g j = s.get g j := get_set_ne h s 1

@[simp] theorem get_bump_self (s : State) (f : RegField) (i n : Nat) : (s.bump f i n).get f i = wrap f.w (s.get f i + n) := get_set_self s f i _

theorem get_bump_ne {f g : RegField} {i j : Nat} (h : g.key j ≠ f.key i) (s : State) (n : Nat) : (s.bump f i n).get g j = s.get g j :=
  get_set_ne h s _

/-- A field reads the same where the register store is the same. -/
theorem get_congr {s t : State} (h : t.regs = s.regs) (f : RegField) (i : Nat) : t.get f i = s.get f i := by
  simp [State.get, h]

section

variable (s : State) (f : RegField) (i : Nat)

@[simp] theorem get_setProbe (r k : Nat) (p : Probe) : (s.setProbe r k p).get f i = s.get f i := rfl
@[simp] theorem get_modProbe (r k : Nat) (g : Probe → Probe) : (s.modProbe r k g).get f i = s.get f i := rfl
@[simp] theorem get_setHub (r : Nat) (h : Hub) : (s.setHub r h).get f i = s.get f i := rfl
@[simp] theorem get_modHub (r : Nat) (g : Hub → Hub) : (s.modHub r g).get f i = s.get f i := rfl
@[simp] theorem get_send (m : Msg) : (s.send m).get f i = s.get f i := rfl
@[simp] theorem get_sendAll (l : List Msg) : (s.sendAll l).get f i = s.get f i := rfl
@[simp] theorem get_recv (m : Msg) : (s.recv m).get f i = s.get f i := rfl
@[simp] theorem get_emit (p : Pulse) : (s.emit p).get f i = s.get f i := rfl
@[simp] theorem get_emitAll (l : List Pulse) : (s.emitAll l).get f i = s.get f i := rfl
@[simp] theorem get_fresh (w : Nat) : (s.fresh w).2.get f i = s.get f i := rfl
@[simp] theorem get_ibi (m : Nat) : (s.ibi m).get f i = s.get f i := by unfold State.ibi; split <;> rfl

end

/-! ## Probes and hubs -/

@[simp] theorem probe_setProbe_self (s : State) (r k : Nat) (p : Probe) : (s.setProbe r k p).probe r k = p := by
  simp [State.probe, State.setProbe]

theorem probe_setProbe_ne {r k r' k' : Nat} (h : pid r' k' ≠ pid r k) (s : State) (p : Probe) : (s.setProbe r k p).probe r' k' = s.probe r' k' := by
  simp [State.probe, State.setProbe, tgetD_tput_ne h]

@[simp] theorem probe_modProbe_self (s : State) (r k : Nat) (g : Probe → Probe) : (s.modProbe r k g).probe r k = g (s.probe r k) :=
  probe_setProbe_self s r k _

theorem probe_modProbe_ne {r k r' k' : Nat} (h : pid r' k' ≠ pid r k) (s : State) (g : Probe → Probe) :
    (s.modProbe r k g).probe r' k' = s.probe r' k' := probe_setProbe_ne h s _

@[simp] theorem hub_setHub_self (s : State) (r : Nat) (h : Hub) : (s.setHub r h).hub r = h := by simp [State.hub, State.setHub]

theorem hub_setHub_ne {r r' : Nat} (h : r' ≠ r) (s : State) (x : Hub) : (s.setHub r x).hub r' = s.hub r' := by
  simp [State.hub, State.setHub, tgetD_tput_ne h]

@[simp] theorem hub_modHub_self (s : State) (r : Nat) (g : Hub → Hub) : (s.modHub r g).hub r = g (s.hub r) := hub_setHub_self s r _

theorem hub_modHub_ne {r r' : Nat} (h : r' ≠ r) (s : State) (g : Hub → Hub) : (s.modHub r g).hub r' = s.hub r' := hub_setHub_ne h s _

theorem probe_congr {s t : State} (h : t.probes = s.probes) (r k : Nat) : t.probe r k = s.probe r k := by simp [State.probe, h]

theorem hub_congr {s t : State} (h : t.hubs = s.hubs) (r : Nat) : t.hub r = s.hub r := by simp [State.hub, h]

/-! ## Values -/

theorem wrap_of_lt {w x : Nat} (h : x < 2 ^ w) : wrap w x = x := Nat.mod_eq_of_lt h

theorem wrap_lt (w x : Nat) : wrap w x < 2 ^ w := Nat.mod_lt _ (Nat.two_pow_pos w)

@[simp] theorem wrap_wrap (w x : Nat) : wrap w (wrap w x) = wrap w x := Nat.mod_mod _ _

/-- A position's number is its own: regions and tiles below 2,048 are read back from it. -/
theorem pid_inj {r k r' k' : Nat} (hk : k < 2048) (hk' : k' < 2048) (h : pid r k = pid r' k') : r = r' ∧ k = k' := by
  unfold pid at h
  omega

end Sys2Proof.Machine
end

