-- ==== Sys2Proof/Laws/Step.lean ====
section
/-! SUPPORT. What a step does: the front command on the rest of the queue, or a tick; and what a tick keeps. -/

namespace Sys2Proof.Machine

open Sys2Proof

theorem step_cons {s : State} {c : Instr} {rest : List Instr} (h : s.pending = c :: rest) : step s = exec c { s with pending := rest } := by
  simp [step, h]

theorem step_nil {s : State} (h : s.pending = []) : step s = .next s.tick := by simp [step, h]

/-- No tick touches the queue. -/
theorem tick_pending (s : State) : s.tick.pending = s.pending := by
  refine pending_of_blank (F := Fields.all) ?_
  apply tick_blank <;> rfl

end Sys2Proof.Machine
end

