-- ==== Sys2Proof/Tests/Slice0.lean ====
section
/-! SUPPORT. Tests: ill-formed commands are refused, worked examples of the spec, single steps, and a witness for the hypotheses of every statement. -/

namespace Sys2Proof.Tests

open Sys2Proof Sys2Proof.Machine

/-! ## Ill-formed commands, one for each check -/

theorem test_wf_region : (Instr.chData 1152 0 true 0).wellFormed = false := by decide
theorem test_wf_region_last : (Instr.chData 1151 0 true 0).wellFormed = true := by decide
theorem test_wf_kilnOrRegion : (Instr.traceMark 0x7FE).wellFormed = false := by decide
theorem test_wf_kiln : (Instr.traceMark 0x7FF).wellFormed = true := by decide
theorem test_wf_tile : (Instr.probeWake 0 1056).wellFormed = false := by decide
theorem test_wf_column : (Instr.catIdleTimeout 0 32).wellFormed = false := by decide
theorem test_wf_tenant : (Instr.tenantKeygen 4096).wellFormed = false := by decide
theorem test_wf_tag : (Instr.stkEnable 0 64).wellFormed = false := by decide
theorem test_wf_slot : (Instr.slotDrain 0 0 4).wellFormed = false := by decide
theorem test_wf_clp : (Instr.helloTick 32).wellFormed = false := by decide
theorem test_wf_accession : (Instr.rdAbort 0 0 (2 ^ 20)).wellFormed = false := by decide
theorem test_wf_hop : (Instr.flueNak (.hub 0 5) false).wellFormed = false := by decide

/-! ## Worked examples of the spec -/

/-- The example of R198. -/
theorem test_fault_flit :
    ({ src := probeSrc 109 168, kind := 0x001, tenant := 0x011, addr := checkAddr 0x5C 3 1 0x0012 0x0007 1, gtlo := 0x05F2C4 } : FaultMsg).flit
      = 0x05F2C42000E0024B5C0110010DA2A000 := by decide

/-- Region 109, tile 168 (R197). -/
theorem test_source_id : probeSrc 109 168 = 0x0DA2A000 := by decide

/-- The Tap's reduction of −0.5 in the BF16 example of the residue chapter, and the folded sum of the lane B products with its end-around carry. -/
theorem test_tap_reduction : rot (reduceWord 64 0xFFFFFFFFFFFF8000) 15 = 0x3FFFFFFF := by decide
theorem test_end_around : addp 0x7FE860BC 0x00303101 = 0x001891BE := by decide

/-! ## Single steps -/

/-- A command in front runs (R501: RSTDAA drops the dynamic address). -/
theorem test_step_rstdaa : (match step { pending := [.rstdaa], mgt := { da := some 9 } } with | .next t => t.mgt.da | _ => some 0) = none := by decide

/-- The host port of a block that is off takes no request (R488). -/
theorem test_off_takes_nothing : exec (.stkEnable 0 5) State.reset = .next State.reset := by rfl

/-- The row of the table spells no word. -/
theorem test_no_word : decodeTableWord 32 0 = none := rfl

/-! ## A burst is granted whatever the order of the slots (assumption 60) -/

/-- One channel of level 0 waits. -/
def burstEx : State := State.set { stk := { rqCred := 1, chans := [(4, { st := .fetch })] } } Reg.STK_CTRL_EN 0 1

theorem grant_none (i : Nat) (h : i ≠ 0) : ((burstEx.kickSys.pumpAll).stkPick i).isSome = false := by
  have hl : ∀ n ∈ List.range 32, (burstEx.kickSys.pumpAll).stkPrio n = 0 ∨ (burstEx.kickSys.pumpAll).stkWants n = none := by decide +kernel
  unfold State.stkPick
  rw [Option.isSome_eq_false_iff, Option.isNone_iff_eq_none, List.find?_eq_none]
  intro n hn
  have : n ∈ List.range 32 := by
    simp only [List.mem_map, List.mem_range] at hn ⊢
    obtain ⟨k, _, rfl⟩ := hn
    omega
  rcases hl n this with h0 | h0 <;> simp [h0]
  omega

theorem grant_level (l : Nat) : slotLevel (fun l => ((burstEx.kickSys.pumpAll).stkPick l).isSome) l = some 0 := by
  have h0 : ((burstEx.kickSys.pumpAll).stkPick 0).isSome = true := by decide +kernel
  have hm : 0 ∈ (List.range (l + 1)).reverse ++ (List.range (4 - (l + 1))).map (fun i => l + 1 + i) := by simp
  unfold slotLevel
  cases h : List.find? (fun l => ((burstEx.kickSys.pumpAll).stkPick l).isSome) ((List.range (l + 1)).reverse ++ (List.range (4 - (l + 1))).map (fun i => l + 1 + i)) with
  | none => exact absurd h0 (List.find?_eq_none.mp h 0 hm)
  | some i =>
    by_cases hi : i = 0
    · rw [hi]
    · exact absurd (List.find?_some h) (by simp only [grant_none i hi]; decide)

/-! ## Values of the witnesses -/

/-- A value for the witnesses. -/
def hdrEx : Hdr := BitVec.ofNat 256 (2 ^ 137 + 2 ^ 102 + 2 * 2 ^ 12)
/-- A value for the witnesses. -/
def mvEx : MoveState := { order := { role := .service, x := 0, y := 0, acc := 0, send := false, sendDir := 0, recv := true, fromLower := true, hops := 1, gt := 0 } }
/-- A value for the witnesses. -/
def roEx : ReadOrder := { hdr := 0, flue := false, units := 0, hops := 0, dir := 0, count := 0, u := 0, dom := 0, key := 0, x := 0, y := 0 }
/-- A value for the witnesses. -/
def rrEx : ReadRec := { st := .copy, worker := 0, slot := 1, hdr := 0, sa := 7, sb := 8, beats := 9, u := 0, dom := 0, count := 0, gt := 0, x := 0, y := 0, key := 0, reader := some 32, running := true }
/-- A value for the witnesses. -/
def patEx : Pattern := { hdr := 0, fill := 0, fillWord := 0, expA := 0, expB := 0, expBeats := 0, margin := false, cover := 0 }
/-- A value for the witnesses. -/
def raEx : Reaction := { rid := 5, level := 1, st := .handling, src := 0, kind := 0x104, fseq := 1, domain := .column 0 3, reports := [(0, 3), (0, 4)], quench := true }
/-- A value for the witnesses. -/
def tenEx : TenantEntry := { tenant := 5, valid := true, standby := false, seedGiven := false, job := 1, slice := 0, d := 8, recBase := 0, recSize := 0, seed := 0, bindings := [] }
/-- A value for the witnesses. -/
def lhEx : ClpHdr := { retx := false, prim := false, seen := true, fresh := false, seq := 0, ack := 0, crret := 0, arret := 0, ord := 9, pclp := 3, sess := 0, psess := 0 }
/-- A value for the witnesses. -/
def bdEx : Binding := { job := 6, tenant := 5, slice := 1, pslice := 2 }
/-- A value for the witnesses. -/
def tokBytes (service : Nat) (param : Nat) : Buffer := writeBytes [] 0 [4, 3, BitVec.ofNat 8 service, 1] ++ (if param = 0 then [] else [(48, BitVec.ofNat 8 param)])
/-- A value for the witnesses. -/
def ofcEx : OfficerEntry := { keyid := 1, key := 77 }
/-- A value for the witnesses. -/
def vltEx (st : VaultState) (service param : Nat) : State :=
  { pwr := { state := .on }, cfg := { officers := [ofcEx, { keyid := 2, key := 78 }] }, vault := { st := st, cache := true, slots := [(0, { nonce := 0, service := service, gt := 0, order := 0 })] }, tokbuf := tokBytes service param }
/-- A value for the witnesses. -/
def trEx : Trailer := { nrec := 1, pagenum := 0, prevpage := 0 }
/-- A value for the witnesses. -/
def folEx (parts yes : List Nat) : FolioRec := { number := 3, acts := [], st := .prepared, parts := parts, yes := yes }

/-! ## Witnesses: the hypotheses of every statement can be met -/

theorem witness_StepWithoutACommandTicks : ∃ s : State, s.pending = [] ∧ s.pwr.stopped = true :=
  ⟨{ pwr := { stopped := true } }, by decide⟩

theorem witness_StepWithoutACommandTicks_2 : ∃ s : State, s.pending = [] ∧ s.pwr.stopped = false ∧ s.pwr.running = true :=
  ⟨{ pwr := { state := .on } }, by decide⟩

theorem witness_StepWithoutACommandTicks_3 : ∃ s : State, s.pending = [] ∧ s.pwr.stopped = false ∧ s.pwr.running = false :=
  ⟨State.reset, by decide⟩

theorem witness_CommandChangesOnlyItsParts : ∃ (c : Instr) (s t : State), exec c s = .next t :=
  ⟨.getEndpointId, {}, _, rfl⟩

theorem witness_StepKeepsTheInvariant : ∃ s t : State, s.Inv ∧ step s = .next t :=
  ⟨{ pending := [.rstdaa] }, _, ⟨by decide, by decide, by decide, by decide, by decide⟩, rfl⟩

theorem witness_SealedWritesRefused : ∃ (c : Instr) (ten tag : Nat) (s : State), hostWriteOf c = some (ten, tag) ∧ wrap 12 ten = 0 ∧ s.takes tag = true ∧ s.bru.state ≠ .refused ∧ s.isSealed = true :=
  ⟨.stkEnable 0 5, 0, 5, { pwr := { state := .on, sealedLatch := true } }, by decide⟩

theorem witness_DuplicateTagDiscarded : ∃ (s : State) (tag : Nat) (c : Instr) (ten : Nat), s.pwr.running = true ∧ s.ghp.length < 64 ∧ s.ghp.any (fun q => q.tag == wrap 6 tag) = true ∧ hostWriteOf c = some (ten, tag) :=
  ⟨{ pwr := { state := .on }, ghp := [{ tag := 5, ten := 0, addr := 0, wr := false, sz64 := false, gt := 0 }] }, 5, .stkEnable 0 5, 0, by decide⟩

theorem witness_RegisterWriteStatuses : (∃ (tag : Nat) (s : State), s.takes tag = true) ∧ (∃ a, misaligned (wrap 32 a) false = true) ∧ (∃ a, misaligned (wrap 32 a) false = false ∧ inMirror (wrap 32 a) = true) :=
  ⟨⟨5, { pwr := { state := .on } }, by decide⟩, ⟨2, by decide⟩, ⟨0x40000000, by decide⟩⟩

theorem witness_RegisterWriteStatuses_2 : ∃ (a tag : Nat) (s : State), s.takes tag = true ∧ misaligned (wrap 32 a) false = false ∧ inMirror (wrap 32 a) = false ∧ s.mayWrite 0 (placeOf (wrap 32 a)) = true ∧ s.bru.state ≠ .refused ∧ s.isSealed = true :=
  ⟨0, 5, { pwr := { state := .on, sealedLatch := true } }, by decide⟩

theorem witness_RegisterWriteStatuses_3 : ∃ (a tag : Nat) (s : State), s.takes tag = true ∧ misaligned (wrap 32 a) false = false ∧ inMirror (wrap 32 a) = false ∧ s.mayWrite 0 (placeOf (wrap 32 a)) = true ∧ s.bru.state ≠ .refused ∧ s.isSealed = false ∧ inWindow (wrap 32 a) = false :=
  ⟨0x00F00000, 5, { pwr := { state := .on } }, by decide⟩

theorem witness_SealedLatchHolds : ∃ (c : Instr) (s t : State), exec c s = .next t ∧ c ≠ .vbkLost ∧ s.pwr.sealedLatch = true ∧ (s.pwr.acked && s.pwr.ackLoss) = false :=
  ⟨.rstdaa, { pwr := { sealedLatch := true } }, _, rfl, by decide⟩

theorem witness_VaultErrorHolds : ∃ (c : Instr) (s t : State), exec c s = .next t ∧ s.vault.st = .error ∧ (∀ half, c ≠ .vaonLost half) ∧ (∀ half, c ≠ .vddLost half) ∧ (∀ half, c ≠ .holdoverEnter half) ∧ (∀ half, c ≠ .porbAssert half) ∧ c ≠ .stopDone ∧ c ≠ .puIsoDone :=
  ⟨.rstdaa, { vault := { st := .error } }, _, rfl, rfl, by simp, by simp, by simp, by simp, by simp, by simp⟩

theorem witness_TokenBufferWrites : ∃ (off tag : Nat) (s : State), s.admits 0 tag none = true ∧ off < 0xE00 ∧ off % 8 = 0 ∧ off % 4 = 0 :=
  ⟨0xDF8, 5, { pwr := { state := .on } }, by decide⟩

theorem witness_ResidueArithmetic : ∃ x y : Nat, x < 2 ^ 31 ∧ y < 2 ^ 31 :=
  ⟨0x7FFFFFFF, 0x7FFFFFFF, by decide⟩

theorem witness_SealInstantOfAFolio : ∃ (number who : Nat) (f : FolioRec) (s : State), s.folio number = some f ∧ f.number = number ∧ f.st = .prepared ∧ f.parts.contains who = true ∧ f.parts.all (fun p => p == who || f.yes.contains p) = true ∧ f.peernum = 0 ∧ s.stopped = false ∧ s.isSealed = false ∧ f.parts.all (fun p => decide (p < 4096)) = true :=
  ⟨3, 0, folEx [0, 2051] [2051], { fl := { log := [(3, folEx [0, 2051] [2051])] } }, by decide⟩

theorem witness_SealInstantOfAFolio_2 : ∃ (number who : Nat) (f : FolioRec) (s : State), s.folio number = some f ∧ f.number = number ∧ f.st = .prepared ∧ f.parts.contains who = true ∧ f.parts.all (fun p => p == who || f.yes.contains p) = true ∧ f.peernum = 0 ∧ s.stopped = false ∧ s.isSealed = false ∧ f.parts.any (fun p => decide (4096 ≤ p)) = true ∧ 2000 ≤ s.get Reg.FOLIO_CTRL_XLEAD 0 :=
  ⟨3, 0, folEx [0, 4096] [4096], { fl := { log := [(3, folEx [0, 4096] [4096])] } }, by decide⟩

theorem witness_SealInstantOfAFolio_3 : ∃ (clp number : Nat) (h : ClpHdr) (f : FolioRec) (s : State), s.linkInTurn clp h false = true ∧ s.folio number = some f ∧ f.number = number ∧ f.st = .prepared ∧ f.peernum = 0 ∧ f.parts.contains (peerPart clp) = true ∧ f.parts.all (fun p => p == peerPart clp || f.yes.contains p) = true ∧ s.stopped = false ∧ 2000 ≤ s.get Reg.FOLIO_CTRL_XLEAD 0 :=
  ⟨31, 3, lhEx, folEx [0, peerPart 31] [0], { fl := { log := [(3, folEx [0, peerPart 31] [0])] }, link := { ports := [(31, { st := .up })] } }, by decide⟩

theorem witness_LayerEntryLayout : ∃ e : LayerEntry, e.dA < 2 ^ 31 ∧ e.dB < 2 ^ 31 ∧ e.nslot < 2 ^ 32 ∧ e.nchunk < 2 ^ 40 ∧ e.nmvslot < 2 ^ 32 ∧ e.nmvchunk < 2 ^ 40 :=
  ⟨{ dA := 2 ^ 31 - 1, dB := 2 ^ 31 - 1, nslot := 2 ^ 32 - 1, nchunk := 2 ^ 40 - 1, nmvslot := 2 ^ 32 - 1, nmvchunk := 2 ^ 40 - 1, ovf := true }, by decide⟩

theorem witness_ThrottleAfterAStep : ∃ (region : Nat) (s : State), s.get Reg.RH_TH_STATUS_BAND region < 8 ∧ s.get Reg.RH_TH_STATUS_THR region < 16 :=
  ⟨0, {}, by decide⟩

theorem witness_SuppressionReport : ∃ (l : HubLg) (kind : Nat) (e : TokenEntry), l.entries.find? (fun e => e.kind == kind) = some e ∧ e.tokens = 0 :=
  ⟨{ entries := [{ kind := 7, tokens := 0 }] }, 7, { kind := 7, tokens := 0 }, by decide⟩

theorem witness_SuppressionReport_2 : ∃ (region : Nat) (e : TokenEntry) (s : State), e ∈ (s.hub region).lg.entries ∧ 0 < e.supp :=
  ⟨0, { kind := 7, tokens := 0, supp := 2 }, { hubs := [(0, { lg := { entries := [{ kind := 7, tokens := 0, supp := 2 }] } })] }, by decide⟩

/-- A flit of a REQ and one of a BULK message at a port. -/
def reqEx : Offer := { input := 1, flit := { parcel := .msg (msgIftGet 0 0 0), index := 0, left := [], ready := 0 } }
def bulkEx : Offer := { input := 0, flit := { parcel := .msg (msgRdData 0 0 0 0), index := 1, left := [], ready := 0 } }

theorem witness_FlueGrantOrder : ∃ (p : HopPort) (offers : List Offer) (x y : Offer), p.pick offers = some x ∧ y ∈ p.eligible offers ∧
    p.bulkWait < 15 ∧ p.recent.count true < 8 ∧ x ≠ y :=
  ⟨{}, [reqEx, bulkEx], reqEx, bulkEx, by decide⟩

theorem witness_FlueGrantOrder_2 : ∃ (p : HopPort) (rounds : List (List HopFlit × List Offer)) (i : Nat),
    ∀ j < 16, ∃ g, (p.run rounds)[i + j]? = some g ∧ g.1.any (· != .fault) = true :=
  ⟨{}, List.replicate 16 ([], [reqEx, bulkEx]), 0, by decide⟩

theorem witness_FlueGrantOrder_3 : ∃ (p : HopPort) (rounds : List (List HopFlit × List Offer)) (i : Nat),
    ∀ j < 16, ∃ g, (p.run rounds)[i + j]? = some g ∧ .bulk ∈ g.1 :=
  ⟨{}, List.replicate 16 ([], [reqEx, bulkEx]), 0, by decide⟩

theorem witness_FlueGrantOrder_4 : ∃ (p : HopPort) (offers : List Offer) (x y : Offer), p.pick offers = some x ∧ y ∈ p.eligible offers ∧
    y.flit.vc = x.flit.vc :=
  ⟨{}, [reqEx], reqEx, reqEx, by decide⟩

/-- The hypotheses of SpineAndTimeCommands, clause by clause. -/
theorem witness_SpineAndTimeCommands :
    (∃ (s : State), s.bru.trained = true) ∧
    (∃ (region : Nat) (s : State), (s.hub region).gtValid = false) ∧
    (∃ (region : Nat) (tile : Nat) (s : State), (s.probe region tile).gtValid = false) ∧
    (∃ (hop : HopId) (s : State), (s.hop hop).down = false ∧ (s.hop hop).retraining = false) ∧
    (∃ (hop : HopId) (s : State), (s.hop hop).retraining = true) ∧
    (∃ (opcode : Nat), opcodeDefined (wrap 8 opcode) = false) :=
  ⟨⟨{ bru := { trained := true } }, by decide⟩,
   ⟨0, {}, by decide⟩,
   ⟨0, 0, {}, by decide⟩,
   ⟨.kiln 0, {}, by decide⟩,
   ⟨.kiln 0, { hops := [(hopKey (.kiln 0), { retraining := true })] }, by decide⟩,
   ⟨0xFF, by decide⟩⟩

/-- The hypotheses of ProbeSlotCommands, clause by clause. -/
theorem witness_ProbeSlotCommands :
    (∃ (region : Nat) (tile : Nat) (hdr : Hdr) (s : State), (s.probe region tile).ready hdr = true ∧ (s.probe region tile).rejectCode hdr ≠ 0) ∧
    (∃ (region : Nat) (tile : Nat) (i : Nat) (hdr : Hdr) (s : State), (s.probe region tile).ready hdr = true ∧ (s.probe region tile).rejectCode hdr = 0 ∧ (s.probe region tile).target hdr = some i ∧ hdr.cont = false) ∧
    (∃ (region : Nat) (tile : Nat) (slot : Nat) (s : State), ((s.probe region tile).slot slot).st = .active ∧ ((s.probe region tile).slot slot).job = .tenant ∧ ((s.probe region tile).slot slot).first.matrix = true ∧ ((s.probe region tile).slot slot).drawn = false) ∧
    (∃ (region : Nat) (tile : Nat) (slot : Nat) (s : State), ((s.probe region tile).slot slot).st = .active) ∧
    (∃ (region : Nat) (tile : Nat) (i : Nat) (s : State), (s.probe region tile).readSlot = some i) ∧
    (∃ (region : Nat) (tile : Nat) (slot : Nat) (s : State), ((s.probe region tile).slot slot).st = .active) ∧
    (∃ (region : Nat) (tile : Nat) (tag : Nat) (rest : List Nat) (s : State), (s.probe region tile).etag = tag :: rest) ∧
    (∃ (region : Nat) (tile : Nat) (slot : Nat) (s : State), ((s.probe region tile).slot slot).decidable_ = true ∧ ((s.probe region tile).slot slot).job = .tenant) ∧
    (∃ (region : Nat) (tile : Nat) (slot : Nat) (s : State), ((s.probe region tile).slot slot).st = .released) :=
  ⟨⟨0, 0, 0, { probes := [(0, { fence := .opened })] }, by decide⟩,
   ⟨0, 0, 0, hdrEx, { probes := [(0, { fence := .opened, ctx := [(0, { valid := true, tenant := 0 })] })] }, by decide⟩,
   ⟨0, 0, 0, { probes := [(0, { slots := [(0, { st := .active, first := 0 })] })] }, by decide⟩,
   ⟨0, 0, 0, { probes := [(0, { slots := [(0, { st := .active, first := 0 })] })] }, by decide⟩,
   ⟨0, 0, 0, { probes := [(0, { readSlot := some 0 })] }, by decide⟩,
   ⟨0, 0, 0, { probes := [(0, { slots := [(0, { st := .active, first := 0 })] })] }, by decide⟩,
   ⟨0, 0, 7, [], { probes := [(0, { etag := [7] })] }, by decide⟩,
   ⟨0, 0, 0, { probes := [(0, { slots := [(0, { st := .active, first := hdrEx, lastc := true })] })] }, by decide⟩,
   ⟨0, 0, 0, { probes := [(0, { slots := [(0, { st := .released })] })] }, by decide⟩⟩

/-- The hypotheses of ProbeFenceCommands, clause by clause. -/
theorem witness_ProbeFenceCommands :
    (∃ (region : Nat) (tile : Nat) (s : State), (s.probe region tile).fence = .opened) ∧
    (∃ (region : Nat) (tile : Nat) (ten : Nat) (tag : Nat) (s : State), s.admits ten tag none = true ∧ s.hasTile region tile = true ∧ (s.probe region tile).fence = .opened) ∧
    (∃ (region : Nat) (tile : Nat) (i : Nat) (s : State), (s.probe region tile).fence = .retry ∧ (s.probe region tile).retrySlot = some i ∧ (s.probe region tile).retryTaken = false) ∧
    (∃ (region : Nat) (tile : Nat) (m : FaultMsg) (rest : List FaultMsg) (s : State), (s.probe region tile).faultOut = m :: rest ∧ (s.hub region).flt.queue.length < 64) ∧
    (∃ (region : Nat) (tile : Nat) (s : State), (s.probe region tile).mayGate = true) ∧
    (∃ (region : Nat) (tile : Nat) (s : State), (s.probe region tile).fence = .stopped ∧ (s.probe region tile).remembered = .opened) :=
  ⟨⟨0, 0, { probes := [(0, { fence := .opened })] }, by decide⟩,
   ⟨0, 0, 0, 3, { pwr := { state := .on }, cfg := { w := 1, h := 1 }, probes := [(0, { fence := .opened })] }, by decide⟩,
   ⟨0, 0, 1, { probes := [(0, { fence := .retry, retrySlot := some 1 })] }, by decide⟩,
   ⟨0, 0, { src := 0, kind := 1, tenant := 0, addr := 0, gtlo := 0 }, [], { probes := [(0, { faultOut := [{ src := 0, kind := 1, tenant := 0, addr := 0, gtlo := 0 }] })] }, by decide⟩,
   ⟨0, 0, { probes := [(0, { fence := .opened })] }, by decide⟩,
   ⟨0, 0, { probes := [(0, { fence := .stopped, remembered := .opened, stopLeaf := true })] }, by decide⟩⟩

/-- The hypotheses of CopyPortCommands, clause by clause. -/
theorem witness_CopyPortCommands :
    (∃ (region : Nat) (tile : Nat) (s : State), (s.probe region tile).xown = true ∧ (s.probe region tile).xownAck = false ∧ (s.probe region tile).stopLeaf = false ∧ (s.probe region tile).copies = [] ∧ (s.probe region tile).ift.desc = none) ∧
    (∃ (region : Nat) (tile : Nat) (m : MoveState) (s : State), (s.probe region tile).xown = true ∧ (s.probe region tile).xownAck = false ∧ (s.probe region tile).stopLeaf = false ∧ (s.probe region tile).move = some m ∧ m.timeout = true) ∧
    (∃ (region : Nat) (tile : Nat) (m : MoveState) (s : State), (s.probe region tile).move = some m ∧ (s.probe region tile).xown = true ∧ (s.probe region tile).xownAck = false ∧ (s.probe region tile).stopLeaf = false) ∧
    (∃ (region : Nat) (tile : Nat) (beat : Nat) (m : MoveState) (s : State), (s.probe region tile).move = some m ∧ m.order.recv = true ∧ beat < 768 ∧ (s.probe region tile).stopLeaf = false) ∧
    (∃ (region : Nat) (tile : Nat) (m : MoveState) (s : State), (s.probe region tile).move = some m ∧ m.order.recv = true ∧ (s.probe region tile).xownAck = true ∧ (s.probe region tile).stopLeaf = false ∧ m.timeout = false) ∧
    (∃ (region : Nat) (tile : Nat) (s : State), (s.probe region tile).ift.inLoop = true ∧ (s.probe region tile).ift.cshkWait = true ∧ (s.probe region tile).ift.suspended = false ∧ (s.probe region tile).stopLeaf = false) ∧
    (∃ (region : Nat) (tile : Nat) (s : State), (s.probe region tile).ift.inLoop = true ∧ (s.probe region tile).ift.cshkWait = false ∧ (s.probe region tile).ift.settled = false ∧ (s.probe region tile).ift.suspended = false ∧ (s.probe region tile).stopLeaf = false) :=
  ⟨⟨0, 0, { probes := [(0, { xown := true })] }, by decide⟩,
   ⟨0, 0, { mvEx with timeout := true }, { probes := [(0, { xown := true, move := some { mvEx with timeout := true } })] }, by decide⟩,
   ⟨0, 0, mvEx, { probes := [(0, { move := some mvEx, xown := true })] }, by decide⟩,
   ⟨0, 0, 767, mvEx, { probes := [(0, { move := some mvEx })] }, by decide⟩,
   ⟨0, 0, mvEx, { probes := [(0, { move := some mvEx, xownAck := true })] }, by decide⟩,
   ⟨0, 0, { probes := [(0, { ift := { walking := true, seg := .step, cshkWait := true } })] }, by decide⟩,
   ⟨0, 0, { probes := [(0, { ift := { walking := true, seg := .step } })] }, by decide⟩⟩

/-- The hypotheses of SecondReadingCommands, clause by clause. -/
theorem witness_SecondReadingCommands :
    (∃ (region : Nat) (tile : Nat) (o : ReadOrder) (s : State), (s.probe region tile).readOrder = some o ∧ o.presented = true ∧ o.started = false) ∧
    (∃ (region : Nat) (tile : Nat) (g : Nat) (s : State), (s.hub region).readerOf (tileCol tile) = some g ∧ (s.hub region).stopLeaf = true) ∧
    (∃ (region : Nat) (tile : Nat) (acc : Nat) (slot : Nat) (s : State), s.reaches region tile acc = true ∧ ((s.probe region tile).slot slot).st = .reading ∧ copyUnits ((s.probe region tile).slot slot).first ≠ []) ∧
    (∃ (region : Nat) (tile : Nat) (acc : Nat) (s : State), s.reaches region tile acc = true) ∧
    (∃ (region : Nat) (tile : Nat) (o : ReadOrder) (s : State), (s.probe region tile).readOrder = some o ∧ o.started = true ∧ ((s.probe region tile).slot 0).job = .reading ∧ ((s.probe region tile).slot 0).lastc = true) ∧
    (∃ (region : Nat) (tile : Nat) (sa : Nat) (sb : Nat) (beats : Nat) (x : ReadRec) (s : State), (s.hub region).queueOf (tileCol tile) = [x] ∧ x.running = true ∧ x.reader = some tile ∧ x.st = .copy ∧ (sa, sb, beats) = (x.sa, x.sb, x.beats)) ∧
    (∃ (region : Nat) (tile : Nat) (acc : Nat) (slot : Nat) (htag : Nat) (s : State), s.reaches region tile acc = true ∧ ((s.probe region tile).slot slot).readingOf htag = true ∧ s.on Reg.RH_RD_CTRL_PADEN region = true ∧ (s.hub region).gt < ((s.probe region tile).slot slot).gtDecision + s.get Reg.RH_RD_PAD_PADLEN region) ∧
    (∃ (region : Nat) (tile : Nat) (acc : Nat) (slot : Nat) (htag : Nat) (s : State), s.reaches region tile acc = true ∧ ((s.probe region tile).slot slot).readingOf htag = true ∧ (s.on Reg.RH_RD_CTRL_PADEN region = false ∨ ((s.probe region tile).slot slot).gtDecision + s.get Reg.RH_RD_PAD_PADLEN region ≤ (s.hub region).gt) ∧ (s.probe region tile).relHold = true) ∧
    (∃ (region : Nat) (tile : Nat) (acc : Nat) (slot : Nat) (htag : Nat) (s : State), s.reaches region tile acc = true ∧ ((s.probe region tile).slot slot).readingOf htag = true ∧ (s.probe region tile).fence = .opened) ∧
    (∃ (region : Nat) (tile : Nat) (acc : Nat) (s : State), s.reaches region tile acc = true ∧ (s.probe region tile).copies ≠ [] ∧ (s.probe region tile).readOrder = none) ∧
    (∃ (region : Nat) (g : Nat) (acc : Nat) (o : ReadOrder) (s : State), s.reaches region g acc = true ∧ (s.probe region g).readOrder = some o ∧ o.flue = true ∧ o.got + 1 < o.units) ∧
    (∃ (region : Nat) (tile : Nat) (slot : Nat) (s : State), ((s.probe region tile).slot slot).st = .reading ∧ ((s.probe region tile).slot slot).agreed = true ∧ (s.probe region tile).relHold = true) ∧
    (∃ (region : Nat) (col : Nat) (n : Nat) (f : HubFolio) (s : State), ((s.hub region).walkOf col).folio = some n ∧ (s.hub region).folioOf n = some f ∧ f.st = .preparing ∧ f.number = n ∧ ((s.hub region).queueOf col).any ReadRec.unsettled = true) :=
  ⟨⟨0, 0, { roEx with presented := true }, { probes := [(0, { readOrder := some { roEx with presented := true } })] }, by decide⟩,
   ⟨0, 0, 0, { hubs := [(0, { stopLeaf := true, cat := { pos := [(0, { role := .gap })] } })] }, by decide⟩,
   ⟨0, 0, 0, 1, { probes := [(0, { slots := [(1, { st := .reading, first := hdrEx })] })] }, by decide +kernel⟩,
   ⟨0, 0, 0, {}, by decide⟩,
   ⟨0, 0, { roEx with started := true }, { probes := [(0, { readOrder := some { roEx with started := true }, slots := [(0, { job := .reading, st := .active, lastc := true, sa := 4 })] })] }, by decide⟩,
   ⟨0, 32, 7, 8, 9, rrEx, { hubs := [(0, { readings := [(0, [rrEx])] })] }, by decide⟩,
   ⟨0, 0, 0, 2, 0, State.set (State.set { probes := [(0, { slots := [(2, { st := .reading })] })] } Reg.RH_RD_CTRL_PADEN 0 1) Reg.RH_RD_PAD_PADLEN 0 9, by decide⟩,
   ⟨0, 0, 0, 2, 0, { probes := [(0, { slots := [(2, { st := .reading })], relHold := true })] }, by decide⟩,
   ⟨0, 0, 0, 2, 0, { probes := [(0, { slots := [(2, { st := .reading })], fence := .opened })] }, by decide⟩,
   ⟨0, 0, 0, { probes := [(0, { copies := [{ flue := true, dir := 0, slot := 1, left := [0] }] })] }, by decide⟩,
   ⟨0, 0, 0, { roEx with flue := true, units := 2 }, { probes := [(0, { readOrder := some { roEx with flue := true, units := 2 } })] }, by decide⟩,
   ⟨0, 0, 2, { probes := [(0, { slots := [(2, { st := .reading, agreed := true })], relHold := true })] }, by decide⟩,
   ⟨0, 0, 4, { number := 4, st := .preparing }, { hubs := [(0, { walk := [(0, { folio := some 4 })], fl := { open_ := [{ number := 4, st := .preparing }] }, readings := [(0, [rrEx])] })] }, by decide⟩⟩

/-- The hypotheses of InFieldTestCommands, clause by clause. -/
theorem witness_InFieldTestCommands :
    (∃ (region : Nat) (tile : Nat) (acc : Nat) (s : State), s.reaches region tile acc = true ∧ (s.probe region tile).ift.state = .idle ∧ (s.probe region tile).band ≠ 4 ∧ (s.probe region tile).readOrder = none ∧ (s.probe region tile).fence ≠ .stopped) ∧
    (∃ (region : Nat) (tile : Nat) (acc : Nat) (s : State), s.reaches region tile acc = true ∧ (s.probe region tile).ift.state = .idle ∧ ((s.probe region tile).band = 4 ∨ (s.probe region tile).readOrder.isSome = true ∨ (s.probe region tile).fence = .stopped)) ∧
    (∃ (region : Nat) (index : Nat) (d : Pattern) (s : State), (s.hub region).patterns[index]? = some d) ∧
    (∃ (region : Nat) (tile : Nat) (acc : Nat) (index : Nat) (hdr : Hdr) (s : State), s.reaches region tile acc = true ∧ (s.probe region tile).ift.asked = some index ∧ (s.probe region tile).ift.running = true ∧ (s.probe region tile).ift.pat = index ∧ (s.probe region tile).ift.desc = none ∧ (s.probe region tile).stopLeaf = false ∧ copyUnits hdr ≠ []) ∧
    (∃ (region : Nat) (tile : Nat) (acc : Nat) (index : Nat) (s : State), s.reaches region tile acc = true ∧ (s.probe region tile).ift.asked = some index ∧ (s.probe region tile).ift.desc.isSome = true) ∧
    (∃ (region : Nat) (tile : Nat) (d : Pattern) (s : State), (s.probe region tile).ift.desc = some d ∧ (s.probe region tile).ift.running = true ∧ (s.probe region tile).stopLeaf = false ∧ ((s.probe region tile).slot 0).st ≠ .free ∧ ((s.probe region tile).slot 0).job = .ift ∧ ((s.probe region tile).slot 0).lastc = true ∧ (s.probe region tile).ift.stopping = false ∧ (s.probe region tile).ift.seg = .pass ∧ (s.probe region tile).ift.pat + 1 < (s.hub region).patterns.length ∧ segmentKind ((s.probe region tile).slot 0) d (((s.probe region tile).slot 0).decide_ false) = 0) ∧
    (∃ (region : Nat) (tile : Nat) (d : Pattern) (s : State), (s.probe region tile).ift.desc = some d ∧ (s.probe region tile).ift.running = true ∧ (s.probe region tile).stopLeaf = false ∧ ((s.probe region tile).slot 0).st ≠ .free ∧ ((s.probe region tile).slot 0).job = .ift ∧ ((s.probe region tile).slot 0).lastc = true ∧ (s.probe region tile).ift.stopping = false ∧ (s.probe region tile).ift.seg = .pass ∧ segmentKind ((s.probe region tile).slot 0) d (((s.probe region tile).slot 0).decide_ false) ≠ 0) ∧
    (∃ (region : Nat) (tile : Nat) (d : Pattern) (s : State), (s.probe region tile).ift.desc = some d ∧ (s.probe region tile).ift.running = true ∧ (s.probe region tile).stopLeaf = false ∧ ((s.probe region tile).slot 0).st ≠ .free ∧ ((s.probe region tile).slot 0).job = .ift ∧ ((s.probe region tile).slot 0).lastc = true ∧ (s.probe region tile).ift.stopping = true) ∧
    (∃ (region : Nat) (tile : Nat) (s : State), (s.probe region tile).ift.running = true ∧ (s.probe region tile).stopLeaf = false ∧ ((s.probe region tile).slot 0).st ≠ .free ∧ ((s.probe region tile).slot 0).job = .ift ∧ ((s.probe region tile).slot 0).lastc = false ∧ (s.probe region tile).ift.stopping = false ∧ (s.probe region tile).ift.seg = .pass ∧ ((s.probe region tile).slot 0).tapPar = false ∧ ((s.probe region tile).slot 0).cntErr = false ∧ ((s.probe region tile).slot 0).readDone = false) ∧
    (∃ (region : Nat) (tile : Nat) (s : State), (s.probe region tile).ift.running = true ∧ (s.probe region tile).stopLeaf = false ∧ ((s.probe region tile).slot 0).st ≠ .free ∧ ((s.probe region tile).slot 0).job = .ift ∧ ((s.probe region tile).slot 0).lastc = false ∧ (s.probe region tile).ift.stopping = true) ∧
    (∃ (region : Nat) (tile : Nat) (complete : Bool) (s : State), (complete && (s.book region tile).passTransient) = false ∧ (s.hub region).flt.queue.length < 64) ∧
    (∃ (region : Nat) (tile : Nat) (acc : Nat) (s : State), s.reaches region tile acc = true) ∧
    (∃ (region : Nat) (s : State), (s.hub region).fl.open_ = []) ∧
    (∃ (region : Nat) (tile : Nat) (s : State), ((s.hub region).cat.at tile).role = .service ∧ (s.hub region).flt.queue.length < 64) :=
  ⟨⟨0, 0, 0, {}, by decide⟩,
   ⟨0, 0, 0, { probes := [(0, { band := 4 })] }, by decide⟩,
   ⟨0, 0, patEx, { hubs := [(0, { patterns := [patEx] })] }, by decide⟩,
   ⟨0, 0, 0, 0, hdrEx, { probes := [(0, { ift := { state := .run, asked := some 0 } })] }, by decide +kernel⟩,
   ⟨0, 0, 0, 1, { probes := [(0, { ift := { state := .run, asked := some 1, desc := some patEx } })] }, by decide⟩,
   ⟨0, 0, patEx, { hubs := [(0, { patterns := [patEx, patEx] })], probes := [(0, { ift := { state := .run, desc := some patEx }, slots := [(0, { st := .active, job := .ift, lastc := true })] })] }, by decide⟩,
   ⟨0, 0, { patEx with expBeats := 1 }, { probes := [(0, { ift := { state := .run, desc := some { patEx with expBeats := 1 } }, slots := [(0, { st := .active, job := .ift, lastc := true })] })] }, by decide⟩,
   ⟨0, 0, patEx, { probes := [(0, { ift := { state := .run, desc := some patEx, stopping := true }, slots := [(0, { st := .active, job := .ift, lastc := true })] })] }, by decide⟩,
   ⟨0, 0, { probes := [(0, { ift := { state := .run }, slots := [(0, { st := .active, job := .ift })] })] }, by decide⟩,
   ⟨0, 0, { probes := [(0, { ift := { state := .run, stopping := true }, slots := [(0, { st := .active, job := .ift })] })] }, by decide⟩,
   ⟨0, 0, true, {}, by decide⟩,
   ⟨0, 0, 0, { probes := [(0, { ift := { state := .run } })] }, by decide⟩,
   ⟨0, { hubs := [(0, { walk := [(0, { awaitIft := true })] })] }, by decide⟩,
   ⟨0, 0, {}, by decide⟩⟩

/-- The hypotheses of CatalogueCommands, clause by clause. -/
theorem witness_CatalogueCommands :
    (∃ (x : Nat) (y : Nat) (count : Nat) (tenant : Nat) (ten : Nat) (tag : Nat) (r : Nat) (s : State), s.admits ten tag none = true ∧ s.on Reg.CAT_REQST_BUSY 0 = false ∧ s.regionOfShelf (wrap 11 x) (wrap 11 y) = some r ∧ s.tenantActive (wrap 12 tenant) = true ∧ wrap 11 y % 32 + wrap 5 count < 32 ∧ s.hasPlace false = true ∧ s.fl.waiting = []) ∧
    (∃ (x : Nat) (y : Nat) (count : Nat) (tenant : Nat) (ten : Nat) (tag : Nat) (r : Nat) (s : State), s.admits ten tag none = true ∧ s.on Reg.CAT_REQST_BUSY 0 = false ∧ s.regionOfShelf (wrap 11 x) (wrap 11 y) = some r ∧ s.tenantActive (wrap 12 tenant) = true ∧ wrap 11 y % 32 + wrap 5 count < 32 ∧ s.hasPlace false = true ∧ s.fl.waiting = []) ∧
    (∃ (x : Nat) (y : Nat) (ten : Nat) (tag : Nat) (s : State), s.admits ten tag none = true ∧ s.on Reg.CAT_REQST_BUSY 0 = false ∧ wrap 11 x / 32 < s.cfg.w ∧ wrap 11 y / 33 < s.cfg.h ∧ s.restoreRefused (wrap 11 y / 33 * s.cfg.w + wrap 11 x / 32) (wrap 11 y % 33) (wrap 11 x % 32) = false ∧ s.hasPlace false = true ∧ s.fl.waiting = []) ∧
    (∃ (x : Nat) (y : Nat) (ten : Nat) (tag : Nat) (r : Nat) (row : Nat) (s : State), s.admits ten tag none = true ∧ s.on Reg.CAT_REQST_BUSY 0 = false ∧ s.regionOfShelf (wrap 11 x) (wrap 11 y) = some r ∧ (s.masterOf r).rowOf (wrap 11 x % 32) (wrap 11 y % 32) = some row ∧ s.hasPlace true = true ∧ s.fl.waiting = []) ∧
    (∃ (region : Nat) (tile : Nat) (acc : Nat) (s : State), s.reaches region tile acc = true) ∧
    (∃ (region : Nat) (s : State), (s.hub region).fl.open_ = []) ∧
    (∃ (region : Nat) (col : Nat) (n : Nat) (f : HubFolio) (s : State), ((s.hub region).walkOf col).folio = some n ∧ (s.hub region).folioOf n = some f ∧ f.st = .preparing ∧ f.number = n ∧ ((s.hub region).walkOf col).awaitIdle ≠ []) ∧
    (∃ (region : Nat) (tile : Nat) (acc : Nat) (newAcc : Nat) (s : State), s.reaches region tile acc = true ∧ s.accOf region tile ≠ newAcc) ∧
    (∃ (region : Nat) (tile : Nat) (acc : Nat) (tenant : Nat) (i : Nat) (s : State), s.reaches region tile acc = true ∧ (s.probe region tile).ctxOf tenant = none ∧ (s.probe region tile).freeCtx = some i) ∧
    (∃ (region : Nat) (tile : Nat) (acc : Nat) (tenant : Nat) (i : Nat) (s : State), s.reaches region tile acc = true ∧ (s.probe region tile).ctxOf tenant = some i) ∧
    (∃ (region : Nat) (tile : Nat) (s : State), ((s.hub region).walkOf (tileCol tile)).moving.contains tile = true ∧ ((s.hub region).walkOf (tileCol tile)).moving.filter (· != tile) ≠ [] ∧ ((s.hub region).walkOf (tileCol tile)).partials.contains (((s.hub region).cat.lrowOf (tileCol tile) (tileRow tile)).getD 0) = false) ∧
    (∃ (region : Nat) (tile : Nat) (s : State), ((s.hub region).walkOf (tileCol tile)).moving.contains tile = true ∧ ((s.hub region).walkOf (tileCol tile)).moving.filter (· != tile) ≠ []) ∧
    (∃ (region : Nat) (col : Nat) (r : Reaction) (s : State), s.flt.reacts = [(r.rid % 1024, r)] ∧ r.heldBy r.folio = true ∧ r.reports.filter (· != (region, col)) ≠ []) ∧
    (∃ (region : Nat) (tile : Nat) (l : Nat) (row : Nat) (header : Flit) (payload : List Flit) (s : State), shelfBound.contains (Msg.ofFlits header payload).op = true ∧ (s.hub region).shelfAt tile (bits (Msg.ofFlits header payload).arg 0 20) = some l ∧ (s.hub region).cat.rowOf (tileCol tile) l = some row ∧ (s.hub region).cat.holdersOf (tileCol tile) l ≠ [] ∧ (s.hub region).bounces = []) :=
  ⟨⟨3, 4, 2, 5, 0, 1, 0, { pwr := { state := .on }, cfg := { w := 1, h := 1, tenants := [tenEx] } }, by decide⟩,
   ⟨3, 4, 2, 5, 0, 1, 0, { pwr := { state := .on }, cfg := { w := 1, h := 1, tenants := [tenEx] } }, by decide⟩,
   ⟨3, 4, 0, 1, { pwr := { state := .on }, cfg := { w := 1, h := 1, tenants := [tenEx] }, master := [(0, { pos := [(131, { role := .quenched })] })] }, by decide⟩,
   ⟨3, 4, 0, 1, 0, 4, { pwr := { state := .on }, cfg := { w := 1, h := 1, tenants := [tenEx] } }, by decide⟩,
   ⟨0, 0, 0, {}, by decide⟩,
   ⟨0, { hubs := [(0, { walk := [(0, { awaitIdle := [0, 32] })] })] }, by decide⟩,
   ⟨0, 0, 4, { number := 4, st := .preparing }, { hubs := [(0, { walk := [(0, { folio := some 4, awaitIdle := [0] })], fl := { open_ := [{ number := 4, st := .preparing }] } })] }, by decide⟩,
   ⟨0, 0, 0, 1, {}, by decide⟩,
   ⟨0, 0, 0, 5, 0, {}, by decide⟩,
   ⟨0, 0, 0, 5, 2, { probes := [(0, { ctx := [(2, { valid := true, tenant := 5 })] })] }, by decide⟩,
   ⟨0, 0, { hubs := [(0, { walk := [(0, { moving := [0, 32] })] })] }, by decide⟩,
   ⟨0, 0, { hubs := [(0, { walk := [(0, { moving := [0, 32] })] })] }, by decide⟩,
   ⟨0, 3, { raEx with folio := 7 }, { flt := { reacts := [(5, { raEx with folio := 7 })] } }, by decide⟩,
   ⟨0, 64, 1, 2, BitVec.ofNat 128 (0x61 * 2 ^ 40), [], { hubs := [(0, { roles := [(64, [{ accession := 0, role := .service, lrow := 1, shelf := some 1 }])], cat := { pos := [(0, { role := .gap })], holders := [(1, [5])] } })] }, by decide⟩⟩

/-- The hypotheses of FolioProposalsAndVotes, clause by clause. -/
theorem witness_FolioProposalsAndVotes :
    (∃ (acts : List Flit) (s : State), s.proposalResult false (acts.map Act.ofFlit) = 0 ∧ s.fl.waiting = []) ∧
    (∃ (number : Nat), number ≠ 0) ∧
    (∃ (region : Nat) (pid : Nat) (acts : List Act) (urgent : Bool) (s : State), (s.hub region).fl.proposed = [(pid, acts, urgent, true)]) ∧
    (∃ (number : Nat) (f : FolioRec) (s : State), s.folio number = some f ∧ f.number = number ∧ s.mayPrepare f = true ∧ s.masterCheck f = 0 ∧ f.xchip = false ∧ f.acts.filter (fun a => a.act == 0x04) = [] ∧ f.yes = [] ∧ s.folioParts { f with acts := s.withKeys f.acts } ≠ [] ∧ s.fl.waiting = []) ∧
    (∃ (who : Nat), who < 2048) ∧
    (∃ (who : Nat), 2048 ≤ who ∧ who ≠ unitPart 3 ∧ who ≠ unitPart 4) ∧
    (∃ (who : Nat) (number : Nat) (f : FolioRec) (s : State), s.folio number = some f ∧ f.number = number ∧ f.st = .prepared ∧ f.parts = [who] ∧ f.yes = [] ∧ f.xchip = false ∧ s.stopped = false ∧ s.isSealed = false) ∧
    (∃ (number : Nat) (f : FolioRec) (s : State), s.folio number = some f ∧ f.number = number ∧ f.st = .prepared ∧ f.link = none ∧ f.xchip = false ∧ f.origin = 0 ∧ f.allYes = false ∧ s.stopped = false ∧ s.fl.waiting = []) ∧
    (∃ (tenant : Nat) (ten : Nat) (tag : Nat) (s : State), s.admits ten tag none = true ∧ wrap 12 tenant ≠ 0 ∧ s.on Reg.FOLIO_TREQST_BUSY 0 = false ∧ s.fl.log = [] ∧ s.fl.waiting = [] ∧ s.hasPlace true = true) :=
  ⟨⟨[1], {}, by decide⟩,
   ⟨9, by decide⟩,
   ⟨0, 3, [], false, { hubs := [(0, { fl := { proposed := [(3, [], false, true)] } })] }, by decide⟩,
   ⟨7, { number := 7, acts := [{ act := 1, region := 0 }] }, { fl := { next := 8, log := [(7, { number := 7, acts := [{ act := 1, region := 0 }] })] } }, by decide⟩,
   ⟨0, by decide⟩,
   ⟨2049, by decide⟩,
   ⟨0, 7, { number := 7, st := .prepared, parts := [0], acts := [] }, { fl := { next := 8, log := [(7, { number := 7, st := .prepared, parts := [0], acts := [] })] } }, by decide⟩,
   ⟨7, { number := 7, st := .prepared, parts := [0], acts := [] }, { fl := { next := 8, log := [(7, { number := 7, st := .prepared, parts := [0], acts := [] })] } }, by decide⟩,
   ⟨5, 0, 1, { pwr := { state := .on } }, by decide⟩⟩

/-- The hypotheses of FolioSealsAndApplies, clause by clause. -/
theorem witness_FolioSealsAndApplies :
    (∃ (who : Nat) (number : Nat) (f : HubFolio) (s : State), who < 2048 ∧ (s.hub who).folioOf number = some f ∧ f.st = .yes) ∧
    (∃ (who : Nat) (number : Nat) (f : HubFolio) (s : State), 2048 ≤ who ∧ s.fl.unitOf who number = some f ∧ f.number = number ∧ f.st = .yes) ∧
    (∃ (who : Nat) (number : Nat) (f : HubFolio) (s : State), who < 2048 ∧ (s.hub who).folioOf number = some f ∧ f.st = .yes) ∧
    (∃ (who : Nat) (number : Nat) (f : HubFolio) (s : State), who < 2048 ∧ (s.hub who).folioOf number = some f ∧ f.st = .sealed) ∧
    (∃ (who : Nat) (number : Nat) (f : HubFolio) (s : State), 2048 ≤ who ∧ s.fl.unitOf who number = some f ∧ f.number = number ∧ f.st = .sealed) ∧
    (∃ (who : Nat) (number : Nat) (f : FolioRec) (s : State), s.folio number = some f ∧ f.number = number ∧ f.st = .decided ∧ f.parts = [who] ∧ f.done = [] ∧ f.origin = 0 ∧ s.fl.waiting = []) ∧
    (∃ (number : Nat) (f : FolioRec) (s : State), s.folio number = some f ∧ f.number = number ∧ f.st = .decided ∧ f.resends < 3) ∧
    (∃ (region : Nat) (s : State), tgetD [] region s.fl.behind = [] ∧ s.fl.overflowed.contains region = false) ∧
    (∃ (region : Nat) (tile : Nat) (acc : Nat) (instant : Nat) (s : State), s.reaches region tile acc = true ∧ (s.hub region).fl.open_.any (fun f => f.st == .sealed && f.sealt == instant) = true) :=
  ⟨⟨0, 4, { number := 4, st := .yes }, { hubs := [(0, { fl := { open_ := [{ number := 4, st := .yes }] } })] }, by decide⟩,
   ⟨2049, 4, { number := 4, st := .yes }, { fl := { units := [(2049, { number := 4, st := .yes })] } }, by decide⟩,
   ⟨0, 4, { number := 4, st := .yes }, { hubs := [(0, { fl := { open_ := [{ number := 4, st := .yes }] } })] }, by decide⟩,
   ⟨0, 4, { number := 4, st := .sealed, sealt := 90 }, { hubs := [(0, { fl := { open_ := [{ number := 4, st := .sealed, sealt := 90 }] } })] }, by decide⟩,
   ⟨2049, 4, { number := 4, st := .sealed }, { fl := { units := [(2049, { number := 4, st := .sealed })] } }, by decide⟩,
   ⟨0, 7, { number := 7, st := .decided, parts := [0], acts := [] }, { fl := { next := 8, log := [(7, { number := 7, st := .decided, parts := [0], acts := [] })] } }, by decide⟩,
   ⟨7, { number := 7, st := .decided, parts := [0], acts := [] }, { fl := { next := 8, log := [(7, { number := 7, st := .decided, parts := [0], acts := [] })] } }, by decide⟩,
   ⟨0, { lost := [0] }, by decide⟩,
   ⟨0, 0, 0, 90, { hubs := [(0, { fl := { open_ := [{ number := 4, st := .sealed, sealt := 90 }] } })] }, by decide⟩⟩

/-- The hypotheses of FaultCollection, clause by clause. -/
theorem witness_FaultCollection :
    (∃ (region : Nat) (data : Nat) (s : State), bits data 0 3 ≤ 4 ∧ (s.hub region).flt.queue.length < 64) ∧
    (∃ (region : Nat) (m : FaultMsg) (rest : List FaultMsg) (s : State), (s.hub region).flt.queue = m :: rest ∧ rest.length < 64 ∧ (s.hub region).flt.out = [] ∧ s.kilnFull = false ∧ (s.hub region).flt.held = []) ∧
    (∃ (region : Nat) (m : FaultMsg) (x : FaultMsg) (rest : List FaultMsg) (more : List FaultMsg) (s : State), (s.hub region).flt.queue = m :: rest ∧ rest.length < 64 ∧ (s.hub region).flt.out = [] ∧ s.kilnFull = false ∧ (s.hub region).flt.held = x :: more) ∧
    (∃ (region : Nat) (key : Nat) (kind : Nat) (i : Nat) (b : Bucket) (s : State), bucketIndex key kind (s.hub region).flt.buckets = some i ∧ tget i (s.hub region).flt.buckets = some b ∧ 1 < b.level) ∧
    (∃ (key : Nat) (kind : Nat) (i : Nat) (b : Bucket) (s : State), bucketIndex key kind s.flt.buckets = some i ∧ tget i s.flt.buckets = some b ∧ b.level = 1) ∧
    (∃ (m : FaultMsg) (s : State), s.nextFlit = some m ∧ isHostKind m.kind = true) ∧
    (∃ (region : Nat) (s : State), (s.hub region).flt.phase = .service) ∧
    (∃ (region : Nat) (s : State), (s.hub region).flt.phase ≠ .service) ∧
    (∃ (ten : Nat) (tag : Nat) (s : State), s.admits ten tag none = true ∧ s.flt.phase = .service) ∧
    (∃ (region : Nat) (tile : Nat) (acc : Nat) (s : State), s.reaches region tile acc = true ∧ (s.probe region tile).fence = .opened) ∧
    (∃ (rid : Nat) (ten : Nat) (tag : Nat) (r : Reaction) (s : State), s.admits ten tag none = true ∧ s.flt.reacts = [(rid % 1024, r)] ∧ r.rid = rid ∧ r.st = .awaitAck ∧ s.flt.phase ≠ .recovery) ∧
    (∃ (ten : Nat) (tag : Nat) (s : State), s.admits ten tag none = true) ∧
    (∃ (rid : Nat) (r : Reaction) (s : State), s.reaction rid = some r ∧ r.st = .queued ∧ r.level = 2 ∧ s.stopped = false ∧ (s.flt.phase = .service ∨ s.flt.phase = .test)) ∧
    (∃ (s : State), s.flt.l3 = true ∧ s.get Reg.FLT_CTRL_L3HOLD 0 ≠ 0 ∧ s.pwr.pcreq = false) :=
  ⟨⟨0, 2, {}, by decide⟩,
   ⟨0, { src := 0, kind := 0x00A, tenant := 0, addr := 0, gtlo := 0 }, [], { hubs := [(0, { flt := { queue := [{ src := 0, kind := 0x00A, tenant := 0, addr := 0, gtlo := 0 }] } })] }, by decide⟩,
   ⟨0, { src := 0, kind := 0x00A, tenant := 0, addr := 0, gtlo := 0 }, { src := 0, kind := 0x00A, tenant := 0, addr := 0, gtlo := 0 }, [], [], { hubs := [(0, { flt := { queue := [{ src := 0, kind := 0x00A, tenant := 0, addr := 0, gtlo := 0 }], held := [{ src := 0, kind := 0x00A, tenant := 0, addr := 0, gtlo := 0 }] } })] }, by decide⟩,
   ⟨0, 3, 7, 2, { key := 3, kind := 7, level := 4, alloc := 0, latest := 0 }, { hubs := [(0, { flt := { buckets := [(2, { key := 3, kind := 7, level := 4, alloc := 0, latest := 0 })] } })] }, by decide⟩,
   ⟨3, 7, 2, { key := 3, kind := 7, level := 1, alloc := 0, latest := 0 }, { flt := { buckets := [(2, { key := 3, kind := 7, level := 1, alloc := 0, latest := 0 })] } }, by decide⟩,
   ⟨{ src := 0, kind := 0x812, tenant := 0, addr := 0, gtlo := 0 }, { flt := { queue := [{ src := 0, kind := 0x812, tenant := 0, addr := 0, gtlo := 0 }] } }, by decide⟩,
   ⟨0, { hubs := [(0, { flt := { phase := .service } })] }, by decide⟩,
   ⟨0, { hubs := [(0, { flt := { phase := .test, buckets := [(2, { key := 3, kind := 7, level := 4, alloc := 0, latest := 0 })] } })] }, by decide⟩,
   ⟨0, 1, { pwr := { state := .on }, flt := { phase := .service } }, by decide⟩,
   ⟨0, 0, 0, { probes := [(0, { fence := .opened })] }, by decide⟩,
   ⟨5, 0, 1, { raEx with st := .awaitAck }, { pwr := { state := .on }, flt := { reacts := [(5, { raEx with st := .awaitAck })] } }, by decide⟩,
   ⟨0, 1, { pwr := { state := .on } }, by decide⟩,
   ⟨5, { raEx with st := .queued, level := 2 }, { flt := { phase := .service, reacts := [(5, { raEx with st := .queued, level := 2 })] } }, by decide⟩,
   ⟨{ flt := { l3 := true } }, by decide⟩⟩

/-- The hypotheses of WatchdogCommands, clause by clause. -/
theorem witness_WatchdogCommands :
    (∃ (region : Nat) (tile : Nat) (s : State), (s.probe region tile).powered = true) ∧
    (∃ (region : Nat) (tile : Nat) (prog : Nat) (s : State), (((s.probe region tile).maskTenants prog).any (fun u => ((s.hub region).wd.ctxOf u).parked)) = false) ∧
    (∃ (s : State), s.rcv.st = .collect) ∧
    (∃ (s : State), s.rcv.st = .collect ∧ s.stopped = false ∧ s.reactions.all (fun x => !(x.unack && x.level == 2)) = true) ∧
    (∃ (region : Nat) (tile : Nat) (acc : Nat) (instant : Nat) (o : RungOrder) (s : State), s.reaches region tile acc = true ∧ (s.hub region).wd.order = some o ∧ o.instant = instant ∧ o.st = .waitInstant) ∧
    (∃ (region : Nat) (tile : Nat) (acc : Nat) (s : State), s.reaches region tile acc = true) :=
  ⟨⟨0, 0, { probes := [(0, { progress := [5] })] }, by decide⟩,
   ⟨0, 0, 1, { probes := [(0, { ctx := [(0, { valid := true, tenant := 5 })] })] }, by decide⟩,
   ⟨{ rcv := { st := .collect, suspects := [(5, 0, .parked)] } }, by decide⟩,
   ⟨{ rcv := { st := .collect } }, by decide⟩,
   ⟨0, 0, 0, 90, { rung := 2, case := 1, instant := 90, tenants := [] }, { hubs := [(0, { wd := { order := some { rung := 2, case := 1, instant := 90, tenants := [] } } })] }, by decide⟩,
   ⟨0, 0, 0, {}, by decide⟩⟩

/-- The hypotheses of RecoveryCommands, clause by clause. -/
theorem witness_RecoveryCommands :
    (∃ (region : Nat) (o : RungOrder) (s : State), (s.hub region).wd.order = some o ∧ o.st = .waitInstant) ∧
    (∃ (s : State), s.rcv.st = .reset ∧ s.rcv.armed = true ∧ s.rcv.rung = 3) ∧
    (∃ (s : State), s.stopped = false) ∧
    (∃ (region : Nat) (o : RungOrder) (s : State), (s.hub region).wd.order = some o ∧ (s.hub region).stopLeaf = false ∧ o.st = .holding) ∧
    (∃ (region : Nat) (case : Nat) (other : Nat) (s : State), s.rcv.st = .reset ∧ s.rcv.case = case ∧ s.rcv.scope.contains region = true ∧ s.rcv.rung < 5 ∧ s.rcv.scope.contains other = true ∧ (union s.rcv.doneFrom [region]).contains other = false) ∧
    (∃ (region : Nat) (s : State), s.rcv.st = .reset ∧ s.stopped = false ∧ s.rcv.rung < 3 ∧ s.rcv.scope.contains region = true ∧ s.rcv.doneFrom.contains region = false) ∧
    (∃ (region : Nat) (tenant : Nat) (s : State), (s.contextsOf region).contains tenant = true) ∧
    (∃ (u : Nat) (region : Nat) (s : State), s.rcv.st = .replay ∧ s.rcv.granted = some u ∧ s.rcv.suspects = [(u, region, .granted)] ∧ s.rcv.waiting = [] ∧ s.stopped = false) :=
  ⟨⟨0, { rung := 2, case := 1, instant := 90, tenants := [] }, { hubs := [(0, { wd := { order := some { rung := 2, case := 1, instant := 90, tenants := [] } } })] }, by decide⟩,
   ⟨{ rcv := { st := .reset, armed := true, rung := 3, scope := [0] } }, by decide⟩,
   ⟨{ rcv := { rstChip := true } }, by decide⟩,
   ⟨0, { rung := 1, case := 1, instant := 90, tenants := [5], left := [5], st := .holding }, { hubs := [(0, { wd := { order := some { rung := 1, case := 1, instant := 90, tenants := [5], left := [5], st := .holding } } })] }, by decide⟩,
   ⟨0, 1, 1, { rcv := { st := .reset, case := 1, scope := [0, 1], rung := 2 } }, by decide⟩,
   ⟨0, { rcv := { st := .reset, case := 1, scope := [0], rung := 1 } }, by decide⟩,
   ⟨0, 5, { probes := [(0, { ctx := [(0, { valid := true, tenant := 5 })] })] }, by decide⟩,
   ⟨5, 0, { rcv := { st := .replay, granted := some 5, suspects := [(5, 0, .granted)] } }, by decide⟩⟩

/-- The hypotheses of LinkSessionCommands, clause by clause. -/
theorem witness_LinkSessionCommands :
    (∃ (clp : Nat) (s : State), (s.port clp).st = .hello ∧ s.isSealed = false ∧ (s.port clp).linkUp = true ∧ (s.port clp).txReady = true ∧ (s.port clp).wait = [] ∧ s.pwr.state ≠ .pdStop) ∧
    (∃ (clp : Nat) (cr : Nat) (h : ClpHdr) (s : State), (s.port clp).st = .hello ∧ s.isSealed = false ∧ s.helloValid clp h cr = true ∧ h.seen = true ∧ h.psess = (s.port clp).sess ∧ (s.port clp).unseq < 2) ∧
    (∃ (clp : Nat) (h : ClpHdr) (s : State), s.linkHears clp h = true) ∧
    (∃ (clp : Nat) (h : ClpHdr) (s : State), s.linkHears clp h = true) ∧
    (∃ (clp : Nat) (s : State), ((s.port clp).st = .up ∨ (s.port clp).st = .disputed) ∧ (s.port clp).linkUp = true ∧ (s.port clp).txReady = true ∧ (s.port clp).wait = [] ∧ s.pwr.state ≠ .pdStop ∧ ¬ (s.rcv.rung = 5 ∧ s.rcv.st = .reset)) ∧
    (∃ (clp : Nat) (s : State), (s.port clp).st = .up ∧ (s.port clp).unacked ≠ [] ∧ s.isSealed = false ∧ (s.port clp).rounds < 8) ∧
    (∃ (clp : Nat) (ten : Nat) (tag : Nat) (s : State), s.admits ten tag none = true ∧ ((s.port clp).st = .disputed ∨ (s.port clp).st = .refused)) ∧
    (∃ (clp : Nat) (s : State), (s.port clp).st ≠ .disabled) ∧
    (∃ (clp : Nat) (s : State), (s.port clp).st ≠ .disabled ∧ s.get Reg.CCD_DROPCNT_COUNT clp = 0) :=
  ⟨⟨3, { link := { ports := [(3, { st := .hello, linkUp := true, txReady := true })] } }, by decide⟩,
   ⟨3, 8, lhEx, { link := { ports := [(3, { st := .hello })] }, cfg := { ports := [{ clp := 3, enabled := true, peer := 9, reserved := false, qualmax := 0 }] } }, by decide⟩,
   ⟨3, lhEx, { link := { ports := [(3, { st := .up })] } }, by decide⟩,
   ⟨3, lhEx, { link := { ports := [(3, { st := .up })] } }, by decide⟩,
   ⟨3, { link := { ports := [(3, { st := .up, linkUp := true, txReady := true })] } }, by decide⟩,
   ⟨3, { link := { ports := [(3, { st := .up, linkUp := true, unacked := [{ seq := 0, body := .heartbeat false, answer := false }] })] } }, by decide⟩,
   ⟨3, 0, 1, { pwr := { state := .on }, link := { ports := [(3, { st := .disputed })] } }, by decide⟩,
   ⟨3, { link := { ports := [(3, { st := .up })] } }, by decide⟩,
   ⟨3, { link := { ports := [(3, { st := .up })] } }, by decide⟩⟩

/-- The hypotheses of ConcordanceMessages, clause by clause. -/
theorem witness_ConcordanceMessages :
    (∃ (clp : Nat) (job : Nat) (slice : Nat) (h : ClpHdr) (b : Binding) (s : State), s.linkInTurn clp h false = true ∧ (s.port clp).matchedBinding job slice = some b ∧ b.history = []) ∧
    (∃ (clp : Nat) (job : Nat) (first : Nat) (last : Nat) (slice : Nat) (origin : Nat) (rid : Nat) (h : ClpHdr) (b : Binding) (s : State), s.linkInTurn clp h false = true ∧ (s.port clp).matchedBinding job slice = some b ∧ first ≤ last ∧ last ≤ b.highe ∧ s.link.recalls.contains (origin, rid) = false ∧ s.dependents b first = []) ∧
    (∃ (clp : Nat) (job : Nat) (slice : Nat) (pslice : Nat) (h : ClpHdr) (s : State), s.linkInTurn clp h false = true ∧ (s.port clp).bindings.any (fun b => b.job == job && b.slice == pslice && b.pslice == slice) = true) ∧
    (∃ (clp : Nat) (h : ClpHdr) (s : State), s.linkInTurn clp h false = true) ∧
    (∃ (clp : Nat) (acts : List Flit) (h : ClpHdr) (s : State), s.linkInTurn clp h false = true ∧ (s.port clp).thetaValid = true ∧ acts ≠ [] ∧ (acts.map Act.ofFlit).all (fun a => a.act == 0x30 || a.act == 0x31) = true ∧ s.collidingFolio clp = none ∧ s.hasPlace false = true ∧ s.fl.waiting = []) ∧
    (∃ (clp : Nat) (folio : Nat) (other : Nat) (f : FolioRec) (h : ClpHdr) (answer : Bool) (s : State), s.linkInTurn clp h answer = true ∧ s.folio folio = some f ∧ f.number = folio ∧ f.st = .prepared ∧ f.peernum = 0 ∧ f.parts.contains (peerPart clp) = true ∧ f.yes.contains (peerPart clp) = false ∧ f.parts.contains other = true ∧ f.yes.contains other = false ∧ other ≠ peerPart clp) ∧
    (∃ (clp : Nat) (folio : Nat) (code : Nat) (f : FolioRec) (h : ClpHdr) (answer : Bool) (s : State), s.linkInTurn clp h answer = true ∧ s.folio folio = some f ∧ f.number = folio ∧ f.st = .prepared ∧ f.peernum = 0 ∧ f.parts = [peerPart clp] ∧ f.origin = 0 ∧ code ≠ 0 ∧ s.fl.waiting = []) ∧
    (∃ (clp : Nat) (folio : Nat) (f : FolioRec) (h : ClpHdr) (s : State), s.linkInTurn clp h false = true ∧ s.folios.find? (fun f => f.link == some clp && f.peernum == folio && f.st == .prepared && (f.answered || f.xvoid)) = some f ∧ f.parts.all f.coordinator.contains = false) ∧
    (∃ (clp : Nat) (folio : Nat) (f : FolioRec) (h : ClpHdr) (s : State), s.linkInTurn clp h false = true ∧ (s.peerFolios clp).find? (fun f => f.peernum == folio) = some f ∧ f.origin = 0 ∧ s.folio f.number = some f ∧ s.fl.waiting = []) :=
  ⟨⟨3, 6, 2, lhEx, { bdEx with st := .matched }, { link := { ports := [(3, { st := .up, bindings := [{ bdEx with st := .matched }] })] } }, by decide⟩,
   ⟨3, 6, 4, 4, 2, 9, 1, lhEx, { bdEx with st := .matched, highe := 4, history := [(4, 1), (3, 1)] }, { link := { ports := [(3, { st := .up, bindings := [{ bdEx with st := .matched, highe := 4, history := [(4, 1), (3, 1)] }] })] } }, by decide⟩,
   ⟨3, 6, 2, 1, lhEx, { link := { ports := [(3, { st := .up, bindings := [bdEx] })] } }, by decide⟩,
   ⟨3, lhEx, { link := { ports := [(3, { st := .up })] } }, by decide⟩,
   ⟨3, [(0x30 : Flit)], lhEx, { link := { ports := [(3, { st := .up, thetaValid := true })] } }, by decide⟩,
   ⟨3, 7, 0, { number := 7, st := .prepared, parts := [0, 4099], acts := [] }, lhEx, false, { fl := { next := 8, log := [(7, { number := 7, st := .prepared, parts := [0, 4099], acts := [] })] }, link := { ports := [(3, { st := .up, strikes := [2] })] } }, by decide⟩,
   ⟨3, 7, 4, { number := 7, st := .prepared, parts := [4099], acts := [] }, lhEx, false, { fl := { next := 8, log := [(7, { number := 7, st := .prepared, parts := [4099], acts := [] })] }, link := { ports := [(3, { st := .up, strikes := [2] })] } }, by decide⟩,
   ⟨3, 4, { number := 7, st := .prepared, answered := true, xchip := true, peernum := 4, link := some 3, parts := [0], acts := [] }, lhEx, { fl := { next := 8, log := [(7, { number := 7, st := .prepared, answered := true, xchip := true, peernum := 4, link := some 3, parts := [0], acts := [] })] }, link := { ports := [(3, { st := .up })] } }, by decide⟩,
   ⟨3, 4, { number := 7, st := .prepared, xchip := true, peernum := 4, link := some 3, acts := [] }, lhEx, { fl := { next := 8, log := [(7, { number := 7, st := .prepared, xchip := true, peernum := 4, link := some 3, acts := [] })] }, link := { ports := [(3, { st := .up })] } }, by decide⟩⟩

/-- The hypotheses of LinkClockAndDispute, clause by clause. -/
theorem witness_LinkClockAndDispute :
    (∃ (clp : Nat) (h : ClpHdr) (s : State), s.linkHears clp h = true) ∧
    (∃ (clp : Nat) (pid : Nat) (t1 : Nat) (t2 : Nat) (t3 : Nat) (h : ClpHdr) (s : State), s.linkHears clp h = true ∧ (s.port clp).unacked = [] ∧ (s.port clp).queue = [] ∧ (s.port clp).pairT1 = some t1 ∧ (s.port clp).pairId = pid ∧ (Int.ofNat s.gt - Int.ofNat t1) - (Int.ofNat t3 - Int.ofNat t2) ≤ Int.ofNat (s.get Reg.CCD_TPCTRL_TPMAX 0)) ∧
    (∃ (clp : Nat) (pid : Nat) (delta : Nat) (h : ClpHdr) (s : State), s.linkHears clp h = true ∧ (s.port clp).unacked = [] ∧ (s.port clp).queue = [] ∧ (s.port clp).pairWait = some pid ∧ delta ≤ s.get Reg.CCD_TPCTRL_TPMAX 0) ∧
    (∃ (clp : Nat) (s : State), (s.port clp).st = .up ∧ s.isPrimary clp = true ∧ s.isSealed = false ∧ (s.port clp).linkUp = true ∧ (s.port clp).txReady = true ∧ (s.port clp).wait = [] ∧ s.pwr.state ≠ .pdStop) ∧
    (∃ (clp : Nat) (h : ClpHdr) (s : State), s.linkHears clp h = true) ∧
    (∃ (clp : Nat) (s : State), (s.port clp).st = .disputed ∧ 0 < (s.port clp).disputeLeft ∧ s.isSealed = false) ∧
    (∃ (clp : Nat) (s : State), (s.port clp).st = .up) ∧
    (∃ (clp : Nat) (s : State), (s.port clp).st = .disputed) ∧
    (∃ (clp : Nat) (job : Nat) (slice : Nat) (b : Binding) (s : State), (s.port clp).bindings.find? (fun b => b.isOf job slice) = some b ∧ s.lagging b = true ∧ b.waiting = false) ∧
    (∃ (q : XReq) (s : State), s.link.req = some q ∧ q.backoff = true) ∧
    (∃ (clp : Nat) (s : State), (s.port clp).st = .up) ∧
    (∃ (clp : Nat) (newclp : Nat) (ten : Nat) (tag : Nat) (withdraw : Bool) (s : State), s.admits ten tag none = true ∧ s.on Reg.CCD_XREQST_BUSY 0 = false ∧ (withdraw = true ∨ wrap 5 clp ≠ wrap 5 newclp) ∧ s.linkReady (wrap 5 clp) = true ∧ s.hasPlace false = true ∧ s.fl.waiting = []) ∧
    (∃ (clp : Nat) (newclp : Nat) (ten : Nat) (tag : Nat) (s : State), s.admits ten tag none = true ∧ s.on Reg.CCD_XREQST_BUSY 0 = false ∧ s.on Reg.CCD_GCTRL_DOLMODE 0 = false ∧ wrap 5 clp ≠ wrap 5 newclp ∧ s.linkReady (wrap 5 newclp) = true ∧ s.hasPlace false = true ∧ s.fl.waiting = []) :=
  ⟨⟨3, lhEx, { link := { ports := [(3, { st := .up })] } }, by decide⟩,
   ⟨3, 2, 100, 160, 170, lhEx, { link := { ports := [(3, { st := .up, pairT1 := some 100, pairId := 2 })] }, gt := 130 }, by decide⟩,
   ⟨3, 2, 1, lhEx, { link := { ports := [(3, { st := .up, pairWait := some 2 })] } }, by decide⟩,
   ⟨3, { link := { ports := [(3, { st := .up, peerOrd := 9, linkUp := true, txReady := true })] } }, by decide⟩,
   ⟨3, lhEx, { link := { ports := [(3, { st := .up, bindings := [bdEx] })] } }, by decide⟩,
   ⟨3, { link := { ports := [(3, { st := .disputed, disputeLeft := 2 })] } }, by decide⟩,
   ⟨3, { link := { ports := [(3, { st := .up, psess := 4, bindings := [bdEx] })] } }, by decide⟩,
   ⟨3, { link := { ports := [(3, { st := .disputed })] } }, by decide⟩,
   ⟨3, 6, 1, bdEx, State.set { link := { ports := [(3, { st := .up, bindings := [bdEx] })] }, colo := { tenants := [(5, { hasSealed := true })] } } Reg.TEN_EP_LAST_EPOCH 5 900, by decide⟩,
   ⟨{ acts := [], clp := 3, backoff := true }, { link := { req := some { acts := [], clp := 3, backoff := true } } }, by decide⟩,
   ⟨3, { link := { ports := [(3, { st := .up, inDoubt := [(4, 7), (5, 8)] })] } }, by decide⟩,
   ⟨3, 4, 0, 1, false, { pwr := { state := .on }, link := { ports := [(3, { st := .up, thetaValid := true })] } }, by decide⟩,
   ⟨4, 3, 0, 1, { pwr := { state := .on }, link := { ports := [(3, { st := .up, thetaValid := true })] } }, by decide⟩⟩

/-- The hypotheses of EpochRequests, clause by clause. -/
theorem witness_EpochRequests :
    (∃ (tenant : Nat) (epoch : Nat) (ten : Nat) (tag : Nat) (s : State), s.admits ten tag (some tenant) = true ∧ s.tenantActive tenant = true ∧ s.on Reg.TEN_EP_STATUS_BUSY tenant = false ∧ (s.ep tenant).active = true ∧ wrap 32 epoch = s.get Reg.TEN_EP_STATUS_OPEN tenant ∧ ((s.regionsOfTenant tenant).filter (fun r => !s.lost.contains r)) ≠ []) ∧
    (∃ (tenant : Nat) (epoch : Nat) (ten : Nat) (tag : Nat) (s : State), s.admits ten tag (some tenant) = true ∧ s.tenantActive tenant = true ∧ s.on Reg.TEN_EP_STATUS_BUSY tenant = false ∧ (s.ep tenant).active = true ∧ wrap 32 epoch = s.get Reg.TEN_EP_STATUS_OPEN tenant ∧ ((s.regionsOfTenant tenant).filter (fun r => !s.lost.contains r)) ≠ []) ∧
    (∃ (tenant : Nat) (epoch : Nat) (top : Nat) (ten : Nat) (tag : Nat) (r : RingRec) (s : State), s.admits ten tag (some tenant) = true ∧ s.tenantActive tenant = true ∧ s.on Reg.TEN_EP_STATUS_BUSY tenant = false ∧ (s.ep tenant).active = true ∧ s.lastSealed tenant = some top ∧ wrap 32 epoch ≤ top ∧ (s.ep tenant).first ≤ wrap 32 epoch ∧ (s.ep tenant).epochRec (wrap 32 epoch) = some r ∧ s.recInRing tenant r = true) ∧
    (∃ (tenant : Nat) (ten : Nat) (tag : Nat) (s : State), s.admits ten tag (some tenant) = true ∧ s.tenantActive tenant = true ∧ s.on Reg.TEN_EP_STATUS_BUSY tenant = false ∧ (s.ep tenant).active = true) ∧
    (∃ (tenant : Nat) (ten : Nat) (tag : Nat) (s : State), s.admits ten tag (some tenant) = true ∧ s.tenantActive tenant = true ∧ (s.ep tenant).close = none) ∧
    (∃ (tenant : Nat) (a : Nat) (b : Nat) (ten : Nat) (tag : Nat) (s : State), s.admits ten tag (some tenant) = true ∧ s.tenantActive tenant = true ∧ s.on Reg.TEN_COLO_STATUS_BUSY tenant = false ∧ s.coloRange tenant = some (a, b) ∧ s.vault.st ≠ .error) :=
  ⟨⟨5, 0, 5, 1, { pwr := { state := .on }, colo := { tenants := [(5, { active := true })] }, cfg := { w := 1, h := 1, tenants := [tenEx] }, master := [(0, { holders := [(99, [5])] })] }, by decide⟩,
   ⟨5, 0, 5, 1, { pwr := { state := .on }, colo := { tenants := [(5, { active := true })] }, cfg := { w := 1, h := 1, tenants := [tenEx] }, master := [(0, { holders := [(99, [5])] })] }, by decide⟩,
   ⟨5, 3, 3, 5, 1, { type := 2, e1 := 3, e2 := 0, flags := 0, gtOpen := 0, gtClose := 0, pos := 0, len := 64, chain := 77, cover := {}, data := 0 }, State.set { pwr := { state := .on }, colo := { tenants := [(5, { active := true, hasSealed := true, recs := [{ type := 2, e1 := 3, e2 := 0, flags := 0, gtOpen := 0, gtClose := 0, pos := 0, len := 64, chain := 77, cover := {}, data := 0 }] })] }, cfg := { w := 1, h := 1, tenants := [tenEx] } } Reg.TEN_EP_LAST_EPOCH 5 3, by decide⟩,
   ⟨5, 5, 1, { pwr := { state := .on }, colo := { tenants := [(5, { active := true })] }, cfg := { w := 1, h := 1, tenants := [tenEx] } }, by decide⟩,
   ⟨5, 5, 1, { pwr := { state := .on }, colo := { tenants := [(5, { active := true })] }, cfg := { w := 1, h := 1, tenants := [tenEx] } }, by decide⟩,
   ⟨5, 2, 3, 5, 1, State.set { pwr := { state := .on }, colo := { tenants := [(5, { active := true, hasSealed := true, coloNext := 2 })] }, cfg := { w := 1, h := 1, tenants := [tenEx] } } Reg.TEN_EP_LAST_EPOCH 5 3, by decide⟩⟩

/-- The hypotheses of EpochContributions, clause by clause. -/
theorem witness_EpochContributions :
    (∃ (region : Nat) (tenant : Nat) (s : State), (s.hub region).cat.holders.any (fun e => e.2.contains tenant) = true ∧ s.probesOf region tenant ≠ []) ∧
    (∃ (region : Nat) (tenant : Nat) (s : State), (s.hub region).cat.holders.any (fun e => e.2.contains tenant) = false) ∧
    (∃ (region : Nat) (tile : Nat) (acc : Nat) (tenant : Nat) (i : Nat) (s : State), s.reaches region tile acc = true ∧ (s.probe region tile).ctxOf tenant = some i) ∧
    (∃ (region : Nat) (tile : Nat) (acc : Nat) (tenant : Nat) (s : State), s.reaches region tile acc = true ∧ (s.probe region tile).ctxOf tenant = none) ∧
    (∃ (region : Nat) (tenant : Nat) (layer : Nat) (nslot : Nat) (nmvslot : Nat) (s : State), (nslot ≠ 0 ∨ nmvslot ≠ 0) ∧ tget (65536 * wrap 12 tenant + wrap 16 layer) (s.hub region).ep.layers = none ∧ (s.hub region).ep.layers.length < 512) ∧
    (∃ (region : Nat) (tenant : Nat) (n : Nat) (s : State), tget tenant (s.hub region).ep.cuts = some n ∧ 1 < n) ∧
    (∃ (region : Nat) (tenant : Nat) (s : State), tget tenant (s.hub region).ep.cuts = some 1) ∧
    (∃ (region : Nat) (tenant : Nat) (other : Nat) (c : EpClose) (s : State), (s.ep tenant).close = some c ∧ c.phase = .cutting ∧ c.await.contains region = true ∧ c.await.contains other = true ∧ other ≠ region) ∧
    (∃ (region : Nat) (tenant : Nat) (c : EpClose) (s : State), (s.ep tenant).close = some c ∧ c.phase = .cutting ∧ c.await = [region] ∧ c.op = 0) ∧
    (∃ (tenant : Nat) (c : EpClose) (s : State), (s.ep tenant).close = some c ∧ c.phase = .hashing ∧ (s.ep tenant).waiting = [] ∧ s.recFits tenant ((128 + (128 + 32 * c.layers.length + 16 * (s.dependencyWord tenant).1) + 63) / 64 * 64) = true ∧ s.bindingsOf tenant = [] ∧ s.colo.order = [] ∧ s.rcv.granted = none ∧ (s.ep tenant).later = []) ∧
    (∃ (tenant : Nat) (c : EpClose) (s : State), (s.ep tenant).close = some c ∧ c.phase = .cutting ∧ s.stopped = false ∧ s.colo.order = [] ∧ (s.ep tenant).later = []) ∧
    (∃ (tenant : Nat) (c : EpClose) (s : State), (s.ep tenant).close = some c ∧ c.phase = .ring ∧ s.colo.order = [] ∧ (s.ep tenant).later = []) :=
  ⟨⟨0, 5, { hubs := [(0, { cat := { holders := [(99, [5])] } })], probes := [(33, { ctx := [(1, { valid := true, tenant := 5 })] })] }, by decide⟩,
   ⟨0, 5, {}, by decide⟩,
   ⟨0, 0, 0, 5, 1, { probes := [(0, { ctx := [(1, { valid := true, tenant := 5 })] })] }, by decide⟩,
   ⟨0, 0, 0, 5, {}, by decide⟩,
   ⟨0, 5, 2, 1, 0, {}, by decide⟩,
   ⟨0, 5, 2, { hubs := [(0, { ep := { cuts := [(5, 2)] } })] }, by decide⟩,
   ⟨0, 5, { hubs := [(0, { ep := { cuts := [(5, 1)] } })] }, by decide⟩,
   ⟨0, 5, 1, { op := 0, epoch := 3, phase := .cutting, await := [0, 1] }, { colo := { tenants := [(5, { active := true, close := some { op := 0, epoch := 3, phase := .cutting, await := [0, 1] } })] } }, by decide⟩,
   ⟨0, 5, { op := 0, epoch := 3, phase := .cutting, await := [0] }, { colo := { tenants := [(5, { active := true, close := some { op := 0, epoch := 3, phase := .cutting, await := [0] } })] } }, by decide⟩,
   ⟨5, { op := 0, epoch := 3, phase := .hashing, await := [] }, { colo := { tenants := [(5, { active := true, close := some { op := 0, epoch := 3, phase := .hashing, await := [] } })] }, cfg := { w := 1, h := 1, tenants := [{ tenEx with recSize := 4096 }] } }, by decide⟩,
   ⟨5, { op := 0, epoch := 3, phase := .cutting, await := [0] }, { colo := { tenants := [(5, { active := true, close := some { op := 0, epoch := 3, phase := .cutting, await := [0] } })] } }, by decide⟩,
   ⟨5, { op := 0, epoch := 3, phase := .ring, await := [0] }, { colo := { tenants := [(5, { active := true, close := some { op := 0, epoch := 3, phase := .ring, await := [0] } })] } }, by decide⟩⟩

/-- The hypotheses of EnergyCommands, clause by clause. -/
theorem witness_EnergyCommands :
    (∃ (codes : List (Nat × Nat × Nat × Nat × Nat)) (n : Nat) (vsh : Nat) (vbus : Nat) (tvsh : Nat) (tvbus : Nat) (s : State), n < 8 ∧ (tgetD ({} : SenseCh) n s.syncSense.tally.channels).st ≠ .off ∧ codes.find? (fun c => c.1 == n) = some (n, vsh, vbus, tvsh, tvbus) ∧ s.tally.cuts = [] ∧ s.gt / s.period % 16 ≠ 0) ∧
    (∃ (region : Nat) (s : State), ((tget ((s.hub region).gt / (16 * s.period) * (16 * s.period)) (s.hub region).en.intervals).map (·.closed)).getD false = false) ∧
    (∃ (region : Nat) (gt : Nat) (s : State), (tgetD {} gt (s.hub region).en.intervals).closed = false ∧ (tgetD {} gt (s.hub region).en.intervals).done = false) ∧
    (∃ (gt : Nat) (s : State), s.tally.lastAnchor < gt ∧ (tgetD {} gt s.tally.intervals).measured = false) ∧
    (∃ (gt : Nat) (s : State), s.tally.lastAnchor < gt ∧ (tgetD {} gt s.tally.intervals).measured = false) ∧
    (∃ (gt : Nat) (k : KInterval) (s : State), tget gt s.tally.intervals = some k ∧ k.measured = true ∧ s.tally.sweep = none) ∧
    (∃ (region : Nat) (gt : Nat) (x : HubInterval) (s : State), tget gt (s.hub region).en.intervals = some x ∧ x.done = true ∧ x.sweep = none ∧ s.channelFor region = none) ∧
    (∃ (region : Nat) (gt : Nat) (n : Nat) (x : HubInterval) (s : State), tget gt (s.hub region).en.intervals = some x ∧ x.done = true ∧ x.sweep = none ∧ s.channelFor region = some n) ∧
    (∃ (region : Nat) (tile : Nat) (acc : Nat) (instant : Nat) (s : State), s.reaches region tile acc = true ∧ tget instant (s.hub region).en.intervals = none) :=
  ⟨⟨[(2, 40, 900, 1, 1)], 2, 40, 900, 1, 1, State.set { gt := 100000 } Reg.SNS_CTRL_EN 0 4, by decide⟩,
   ⟨0, {}, by decide⟩,
   ⟨0, 160, {}, by decide⟩,
   ⟨160, {}, by decide⟩,
   ⟨160, {}, by decide⟩,
   ⟨160, { measured := true }, { tally := { intervals := [(160, { measured := true })] } }, by decide⟩,
   ⟨0, 160, { done := true, closed := true, energy := [(5, 2000)] }, { hubs := [(0, { en := { intervals := [(160, { done := true, closed := true, energy := [(5, 2000)] })] } })] }, by decide⟩,
   ⟨0, 160, 0, { done := true, closed := true }, { hubs := [(0, { en := { intervals := [(160, { done := true, closed := true })] } })], cfg := { channels := [{ channel := 0, kind := 1, apportion := false, rshunt := 1, offset := 0, gain := 1, kbar := 0, regions := [0] }] } }, by decide⟩,
   ⟨0, 0, 0, 90, { probes := [(0, { act := [(5, [1])] })] }, by decide⟩⟩

/-- The hypotheses of HeatAndNeighbourCommands, clause by clause. -/
theorem witness_HeatAndNeighbourCommands :
    (∃ (region : Nat) (from_ : Nat) (d : Nat) (s : State), s.dirTo region from_ = some d ∧ d < (s.hub region).pw.vnb.length) ∧
    (∃ (region : Nat) (energy : Nat) (s : State), -32768 ≤ s.nextEstimate region energy ∧ s.nextEstimate region energy ≤ 32767) ∧
    (∃ (region : Nat) (from_ : Nat) (d : Nat) (s : State), s.dirTo region from_ = some d ∧ d < (s.hub region).pw.tnb.length) ∧
    (∃ (region : Nat) (dir : Nat) (s : State), (bit (s.get Reg.RH_PW_STATUS_VEXC region) dir = true ∨ bit (s.get Reg.RH_PW_STATUS_TEXC region) dir = true) ∧ (s.hub region).flt.queue.length < 64) ∧
    (∃ (region : Nat) (tile : Nat) (acc : Nat) (s : State), s.reaches region tile acc = true) ∧
    (∃ (region : Nat) (tile : Nat) (i : Nat) (rest : List Nat) (s : State), (s.probe region tile).bandRerun = i :: rest ∧ ((s.probe region tile).slot i).st = .bandheld) :=
  ⟨⟨0, 1, 1, { cfg := { w := 2, h := 2 } }, by decide⟩,
   ⟨0, 0, { cfg := { w := 2, h := 2 } }, by decide⟩,
   ⟨0, 1, 1, { cfg := { w := 2, h := 2 } }, by decide⟩,
   ⟨0, 1, State.set {} Reg.RH_PW_STATUS_VEXC 0 2, by decide⟩,
   ⟨0, 0, 0, { probes := [(0, { slots := [(3, { st := .bandheld })] })] }, by decide⟩,
   ⟨0, 0, 3, [], { probes := [(0, { bandRerun := [3], slots := [(3, { st := .bandheld })] })] }, by decide⟩⟩

/-- The hypotheses of TallyCommands, clause by clause. -/
theorem witness_TallyCommands :
    (∃ (s : State), s.get Reg.TLY_CTRL_PERIODMS 0 ≠ 0 ∧ s.tally.sweep = none ∧ s.isSealed = false ∧ s.tally.wants = [] ∧ s.tally.proposed = []) ∧
    (∃ (region : Nat) (other : Nat) (w : Sweep) (s : State), s.tally.sweep = some w ∧ w.await.contains region = true ∧ w.await.contains other = true ∧ other ≠ region) ∧
    (∃ (region : Nat) (w : Sweep) (s : State), s.tally.sweep = some w ∧ w.await = [region] ∧ w.anchored = true ∧ w.want.tenant = some 0 ∧ w.want.purpose = 2 ∧ s.tally.flipDue = false ∧ s.tally.bank ≤ 1 ∧ s.tally.banks.length = 2) ∧
    (∃ (region : Nat) (sweep : Nat) (c : EnCounter) (s : State), tget 0 (s.hub region).en.counters = some c ∧ c.pending = some (sweep, c.count)) ∧
    (∃ (w : Sweep) (s : State), s.tally.sweep = some w ∧ w.await ≠ [] ∧ s.stopped = false ∧ w.want.tenant = none ∧ s.tally.wants = []) ∧
    (∃ (tenant : Nat) (ten : Nat) (tag : Nat) (s : State), s.admits ten tag (some tenant) = true ∧ s.tenantActive tenant = true ∧ s.on Reg.TEN_TLY_STATUS_BUSY tenant = false ∧ (s.ep tenant).active = true ∧ s.tally.reserved < 256) ∧
    (∃ (b : Batch) (s : State), s.tally.batch = some b) ∧
    (∃ (ten : Nat) (tag : Nat) (b : Batch) (s : State), s.admits ten tag none = true ∧ s.tally.batch = some b) ∧
    (∃ (ten : Nat) (tag : Nat) (s : State), s.admits ten tag none = true) ∧
    (∃ (b : Batch) (rest : List Batch) (s : State), s.asksVault = true ∧ s.tally.unsigned = b :: rest ∧ s.tally.signing = none ∧ s.canSignRoot = true) :=
  ⟨⟨State.set {} Reg.TLY_CTRL_PERIODMS 0 5, by decide⟩,
   ⟨0, 1, { number := 2, want := { tenant := none }, t := 9, await := [0, 1] }, { tally := { sweep := some { number := 2, want := { tenant := none }, t := 9, await := [0, 1] } } }, by decide⟩,
   ⟨0, { number := 2, want := { tenant := some 0, purpose := 2 }, t := 9, await := [0], anchored := true }, { tally := { sweep := some { number := 2, want := { tenant := some 0, purpose := 2 }, t := 9, await := [0], anchored := true } } }, by decide⟩,
   ⟨0, 2, { count := 9, pending := some (2, 9) }, { hubs := [(0, { en := { counters := [(0, { count := 9, pending := some (2, 9) })] } })] }, by decide⟩,
   ⟨{ number := 2, want := { tenant := none }, t := 9, await := [0, 1] }, { tally := { sweep := some { number := 2, want := { tenant := none }, t := 9, await := [0, 1] } } }, by decide⟩,
   ⟨5, 5, 1, { pwr := { state := .on }, colo := { tenants := [(5, { active := true })] }, cfg := { w := 1, h := 1, tenants := [tenEx] } }, by decide⟩,
   ⟨{ number := 3, seq := 1, gt0 := 0, leaves := [] }, { tally := { batch := some { number := 3, seq := 1, gt0 := 0, leaves := [] } } }, by decide⟩,
   ⟨0, 1, { number := 3, seq := 1, gt0 := 0, leaves := [] }, { pwr := { state := .on }, tally := { batch := some { number := 3, seq := 1, gt0 := 0, leaves := [] } } }, by decide⟩,
   ⟨0, 1, { pwr := { state := .on } }, by decide⟩,
   ⟨{ number := 3, seq := 1, gt0 := 0, leaves := [] }, [], { vault := { st := .operational, cache := true, keys := [(hTally, { st := 1 })] }, tally := { unsigned := [{ number := 3, seq := 1, gt0 := 0, leaves := [] }] } }, by decide⟩⟩

/-- The hypotheses of VaultTests, clause by clause. -/
theorem witness_VaultTests :
    (∃ (s : State), s.vault.st = .selftest ∧ s.vault.banked = none ∧ s.vault.blobs = [none, none] ∧ s.vault.token = none ∧ s.vault.nonceDue = []) ∧
    (∃ (i : KeyImage) (s : State), s.vault.st = .selftest ∧ s.vault.banked = some i ∧ s.vault.token = none ∧ s.vault.nonceDue = []) ∧
    (∃ (kind : Nat) (s : State), s.vault.st = .selftest ∧ kind ≠ 0) ∧
    (∃ (s : State), (s.vault.st = .operational ∨ s.vault.st = .unprovisioned)) ∧
    (∃ (ten : Nat) (tag : Nat) (s : State), s.admits ten tag none = true ∧ (s.vault.st = .operational ∨ s.vault.st = .unprovisioned)) ∧
    (∃ (ten : Nat) (tag : Nat) (s : State), s.admits ten tag none = true ∧ s.vault.st = .entropyRaw ∧ s.vault.testDue = false) ∧
    (∃ (s : State), s.vault.st = .periodic ∧ s.vault.token = none ∧ s.vault.nonceDue = []) ∧
    (∃ (code : Nat) (s : State), s.vault.st = .periodic ∧ code ≠ 0) :=
  ⟨⟨{ vault := { st := .selftest } }, by decide⟩,
   ⟨{ gen := 4 }, { vault := { st := .selftest, banked := some { gen := 4 } } }, by decide⟩,
   ⟨0x701, { vault := { st := .selftest } }, by decide⟩,
   ⟨{ vault := { st := .operational, cache := true } }, by decide⟩,
   ⟨0, 1, { pwr := { state := .on }, vault := { st := .operational, cache := true } }, by decide⟩,
   ⟨0, 1, { pwr := { state := .on }, vault := { st := .entropyRaw, cache := true, back := .operational } }, by decide⟩,
   ⟨{ vault := { st := .periodic, cache := true, back := .operational } }, by decide⟩,
   ⟨3, { vault := { st := .periodic, cache := true, back := .operational } }, by decide⟩⟩

/-- The hypotheses of VaultEntropyAndTamper, clause by clause. -/
theorem witness_VaultEntropyAndTamper :
    (∃ (sample : Nat) (s : State), s.vault.st ≠ .off ∧ s.vault.st ≠ .error ∧ (s.vault.health (wrap 1 sample)).2 = none) ∧
    (∃ (sample : Nat) (code : Nat) (s : State), s.vault.st ≠ .off ∧ s.vault.st ≠ .error ∧ (s.vault.health (wrap 1 sample)).2 = some code ∧ s.vault.failGt = none) ∧
    (∃ (sample : Nat) (code : Nat) (g : Nat) (s : State), s.vault.st ≠ .off ∧ s.vault.st ≠ .error ∧ (s.vault.health (wrap 1 sample)).2 = some code ∧ s.vault.failGt = some g ∧ s.gt ≤ g + 250 * s.cfg.rclk) ∧
    (∃ (s : State), s.vaultServes = true ∧ s.vault.mayReseed = true) ∧
    (∃ (s : State), s.vault.st = .entropyRaw ∧ s.vault.testDue = false) ∧
    (∃ (s : State), s.vault.st ≠ .off ∧ s.vault.st ≠ .error) ∧
    (∃ (s : State), s.vault.st ≠ .off ∧ s.vault.st ≠ .error) ∧
    (∃ (s : State), s.vault.st ≠ .off ∧ s.vault.st ≠ .error) :=
  ⟨⟨1, { vault := { st := .operational, cache := true } }, by decide⟩,
   ⟨1, 0x11, { vault := { st := .operational, cache := true, rct := some (1, 40) } }, by decide⟩,
   ⟨1, 0x11, 0, { vault := { st := .operational, cache := true, rct := some (1, 40), failGt := some 0 } }, by decide⟩,
   ⟨{ vault := { st := .operational, cache := true, generates := 9 } }, by decide⟩,
   ⟨{ vault := { st := .entropyRaw, cache := true, back := .operational } }, by decide⟩,
   ⟨{ vault := { st := .operational, cache := true } }, by decide⟩,
   ⟨{ vault := { st := .operational, cache := true } }, by decide⟩,
   ⟨{ vault := { st := .operational, cache := true } }, by decide⟩⟩

/-- The hypotheses of VaultRequests, clause by clause. -/
theorem witness_VaultRequests :
    (∃ (s : State), s.asksVault = true) ∧
    (∃ (s : State), s.asksVault = true) ∧
    (∃ (s : State), s.asksVault = true) ∧
    (∃ (s : State), s.asksVault = true ∧ s.ldg.closing.isSome = true ∧ s.ldg.trailer = none ∧ s.vault.queue.contains (.hmacLedger s.ldg.page) = false) ∧
    (∃ (s : State), s.asksVault = true ∧ s.bru.state = .load ∧ s.vault.queue.contains .verifyCharter = false) ∧
    (∃ (tenant : Nat) (s : State), s.asksVault = true ∧ s.vault.queue.contains (.keygen tenant) = false) ∧
    (∃ (tenant : Nat) (s : State), s.asksVault = true ∧ s.vault.queue.contains (.keydrop tenant) = false) ∧
    (∃ (tenant : Nat) (s : State), s.asksVault = true ∧ (((s.ep tenant).colo.map (·.swept)).getD false) = true ∧ s.vault.queue.contains (.signColophon tenant false) = false) ∧
    (∃ (caller : Nat) (s : State), s.vaultServes = true ∧ s.vault.st ≠ .periodic ∧ s.nextRequest = some (.random caller) ∧ s.vault.outside = [] ∧ s.vault.generates < 1048575) ∧
    (∃ (region : Nat) (tenant : Nat) (s : State), s.vaultServes = true ∧ s.vault.st ≠ .periodic ∧ s.nextRequest = some (.deriveRotkey region tenant)) ∧
    (∃ (tenant : Nat) (s : State), s.vaultServes = true ∧ s.vault.st ≠ .periodic ∧ s.nextRequest = some (.keygen tenant)) ∧
    (∃ (pairwise : Nat) (tenant : Nat) (s : State), s.vaultServes = true ∧ s.vault.st ≠ .periodic ∧ s.nextRequest = some (.keygen tenant) ∧ pairwise ≠ 0) :=
  ⟨⟨{ vault := { st := .operational, cache := true } }, by decide⟩,
   ⟨{ vault := { st := .operational, cache := true } }, by decide⟩,
   ⟨{ vault := { st := .operational, cache := true } }, by decide⟩,
   ⟨{ vault := { st := .operational, cache := true }, ldg := { closing := some (true, false, false) } }, by decide⟩,
   ⟨{ vault := { st := .operational, cache := true }, bru := { state := .load } }, by decide⟩,
   ⟨5, { vault := { st := .operational, cache := true } }, by decide⟩,
   ⟨5, { vault := { st := .operational, cache := true } }, by decide⟩,
   ⟨5, { vault := { st := .operational, cache := true }, colo := { tenants := [(5, { colo := some { a := 1, b := 2, swept := true } })] } }, by decide⟩,
   ⟨2, { vault := { st := .operational, cache := true, queue := [.random 2] } }, by decide⟩,
   ⟨2, 5, { vault := { st := .operational, cache := true, queue := [.deriveRotkey 2 5] } }, by decide⟩,
   ⟨5, { vault := { st := .operational, cache := true, queue := [.keygen 5] } }, by decide⟩,
   ⟨7, 5, { vault := { st := .operational, cache := true, queue := [.keygen 5] } }, by decide⟩⟩

/-- The hypotheses of VaultTokens, clause by clause. -/
theorem witness_VaultTokens :
    (∃ (service : Nat) (ten : Nat) (tag : Nat) (s : State), s.admits ten tag none = true ∧ tokenService service = true ∧ s.vaultServes = true ∧ s.vault.st ≠ .periodic) ∧
    (∃ (slot : Nat) (n : NonceSlot) (s : State), tget slot s.vault.slots = some n) ∧
    (∃ (ten : Nat) (tag : Nat) (s : State), s.admits ten tag none = true ∧ s.tokenFits 1 = true ∧ s.ldg.clearing = none) ∧
    (∃ (ten : Nat) (tag : Nat) (s : State), s.admits ten tag none = true ∧ s.tokenFits 2 = true) ∧
    (∃ (ten : Nat) (tag : Nat) (s : State), s.admits ten tag none = true ∧ s.tokenFits 3 = true) ∧
    (∃ (ten : Nat) (tag : Nat) (s : State), s.admits ten tag none = true ∧ s.tokenFits 4 = true ∧ s.tally.batch = none ∧ s.tally.unsigned = []) ∧
    (∃ (ten : Nat) (tag : Nat) (b : Batch) (s : State), s.admits ten tag none = true ∧ s.tokenFits 4 = true ∧ s.tally.batch = some b) ∧
    (∃ (ten : Nat) (tag : Nat) (o : OfficerEntry) (s : State), s.admits ten tag none = true ∧ s.tokenFits 5 = true ∧ s.cfg.officers.find? (fun o => o.keyid == (tokenIn s.tokbuf).param) = some o ∧ s.officers.filter (fun x => x.key != o.key) ≠ [] ∧ s.vault.image.revoked.contains o.key = false) ∧
    (∃ (ten : Nat) (tag : Nat) (s : State), s.admits ten tag none = true ∧ s.tokenFits 6 = true) ∧
    (∃ (ten : Nat) (tag : Nat) (s : State), s.admits ten tag none = true ∧ s.tokenFits 7 = true) ∧
    (∃ (service : Nat) (ten : Nat) (tag : Nat) (s : State), s.admits ten tag none = true ∧ s.tokenFits service = true) ∧
    (∃ (service : Nat) (ten : Nat) (tag : Nat) (s : State), s.admits ten tag none = true ∧ s.tokenFits service = true) ∧
    (∃ (ten : Nat) (tag : Nat) (s : State), s.admits ten tag none = true ∧ s.on Reg.VLT_TOKST_BUSY 0 = false ∧ s.vault.st = .operational ∧ (tokenIn s.tokbuf).format ≠ 0x0304) :=
  ⟨⟨6, 0, 1, { pwr := { state := .on }, vault := { st := .operational, cache := true } }, by decide⟩,
   ⟨2, { nonce := 7, service := 6, gt := 0, order := 0 }, { vault := { slots := [(2, { nonce := 7, service := 6, gt := 0, order := 0 })] } }, by decide⟩,
   ⟨0, 1, { vltEx .operational 1 0 with ldg := { page := 1 } }, by decide⟩,
   ⟨0, 1, vltEx .operational 2 0, by decide⟩,
   ⟨0, 1, vltEx .unprovisioned 3 0, by decide⟩,
   ⟨0, 1, vltEx .operational 4 0, by decide⟩,
   ⟨0, 1, { number := 3, seq := 1, gt0 := 0, leaves := [] }, { vltEx .operational 4 0 with tally := { batch := some { number := 3, seq := 1, gt0 := 0, leaves := [] } } }, by decide⟩,
   ⟨0, 1, { keyid := 2, key := 78 }, vltEx .operational 5 2, by decide⟩,
   ⟨0, 1, vltEx .operational 6 9, by decide⟩,
   ⟨0, 1, vltEx .operational 7 9, by decide⟩,
   ⟨6, 0, 1, vltEx .operational 6 9, by decide⟩,
   ⟨6, 0, 1, vltEx .operational 6 9, by decide⟩,
   ⟨0, 1, { pwr := { state := .on }, vault := { st := .operational, cache := true } }, by decide⟩⟩

/-- The hypotheses of StackerChannels, clause by clause. -/
theorem witness_StackerChannels :
    (∃ (channel : Nat) (ten : Nat) (tag : Nat) (s : State), s.admits ten tag (some (s.stkTag channel)) = true ∧ 4 ≤ channel ∧ channel < 32 ∧ s.on Reg.STK_CTRL_EN 0 = true ∧ s.on Reg.STK_STATUS_HALTED 0 = false ∧ ((s.stkCh channel).st = .idle ∨ (s.stkCh channel).st = .error ∨ (s.stkCh channel).st = .halted) ∧ s.fl.units = []) ∧
    (∃ (channel : Nat) (ten : Nat) (tag : Nat) (s : State), s.admits ten tag (some (s.stkTag channel)) = true ∧ 4 ≤ channel ∧ channel < 32 ∧ ((s.stkCh channel).st = .fetch ∨ (s.stkCh channel).st = .run ∨ (s.stkCh channel).st = .flush)) ∧
    (∃ (channel : Nat) (data : Nat) (r : StkRead) (s : State), s.stk.reads.find? (fun r => r.ch == channel && r.kind == .desc && !r.dead) = some r ∧ s.descCheck channel r.addr data = 0) ∧
    (∃ (channel : Nat) (data : Nat) (r : StkRead) (s : State), s.stk.reads.find? (fun r => r.ch == channel && r.kind == .desc && !r.dead) = some r ∧ s.descCheck channel r.addr data ≠ 0) ∧
    (∃ (l : Nat) (n : Nat) (s : State), s.on Reg.STK_CTRL_EN 0 = true ∧ s.on Reg.STK_STATUS_HALTED 0 = false ∧ s.stopped = false ∧ slotLevel (fun l => ((s.kickSys.pumpAll).stkPick l).isSome) (slotPattern.getD (s.kickSys.pumpAll).stk.slot 0) = some l ∧ (s.kickSys.pumpAll).stkPick l = some n) ∧
    (∃ (ten : Nat) (tag : Nat) (s : State), s.admits ten tag none = true) ∧
    (∃ (ten : Nat) (tag : Nat) (s : State), s.admits ten tag none = true) ∧
    (∃ (ten : Nat) (tag : Nat) (s : State), s.admits ten tag none = true ∧ s.busReaction = false) :=
  ⟨⟨4, 0, 1, State.set { pwr := { state := .on } } Reg.STK_CTRL_EN 0 1, by decide⟩,
   ⟨4, 0, 1, { pwr := { state := .on }, stk := { chans := [(4, { st := .run })] } }, by decide⟩,
   ⟨4, pack [(64, 48, 256), (240, 16, 1), (384, 2, 1), (386, 1, 1)], { tag := 3, ch := 4, kind := .desc, pos := 0, addr := 0, n := 64 }, State.set { stk := { reads := [{ tag := 3, ch := 4, kind := .desc, pos := 0, addr := 0, n := 64 }], chans := [(4, { st := .fetch, asked := true })] }, cfg := { windows := [{ index := 0, read := true, write := true, tenant := 0, base := 0, size := 4096 }] } } Reg.STK_CH_CTRL_WINMASK 4 1, by decide⟩,
   ⟨4, 3 * 2 ^ 384, { tag := 3, ch := 4, kind := .desc, pos := 0, addr := 0, n := 64 }, { stk := { reads := [{ tag := 3, ch := 4, kind := .desc, pos := 0, addr := 0, n := 64 }], chans := [(4, { st := .fetch, asked := true })] } }, by decide⟩,
   ⟨0, 4, State.set { stk := { rqCred := 1, chans := [(4, { st := .fetch })] } } Reg.STK_CTRL_EN 0 1, by decide, by decide, by decide, grant_level _, by decide +kernel⟩,
   ⟨0, 1, { pwr := { state := .on }, stk := { chans := [(4, { st := .run })] } }, by decide⟩,
   ⟨0, 1, { pwr := { state := .on } }, by decide⟩,
   ⟨0, 1, State.set { pwr := { state := .on } } Reg.STK_STATUS_HALTED 0 1, by decide⟩⟩

/-- The hypotheses of StackerBus, clause by clause. -/
theorem witness_StackerBus :
    (∃ (readTag : Nat) (r : StkRead) (s : State), s.stk.reads.find? (fun r => r.tag == readTag && r.region.isNone) = some r ∧ r.beats.length + 1 < beatsOf r.addr r.n) ∧
    (∃ (readTag : Nat) (r : StkRead) (s : State), s.stk.reads.find? (fun r => r.tag == readTag && r.region.isNone) = some r ∧ beatsOf r.addr r.n ≤ r.beats.length + 1) ∧
    (∃ (readTag : Nat) (r : StkRead) (s : State), s.stk.reads.find? (fun r => r.tag == readTag && r.region.isNone) = some r ∧ s.on Reg.STK_STATUS_HALTED 0 = false ∧ r.beats.length + 1 < beatsOf r.addr r.n) ∧
    (∃ (data : Nat) (strb : Nat) (n : Nat) (w : StkWrite) (ws : List StkWrite) (rest : List (Nat × Nat × Nat)) (s : State), s.stk.writes = w :: ws ∧ w.beats = (data, strb, n) :: rest ∧ s.stk.wdCred ≠ 0) ∧
    (∃ (s : State), s.stk.chans.all (fun e => e.2.st != .run) = true) ∧
    (∃ (writeTag : Nat) (ch : Nat) (addr : Nat) (s : State), tget writeTag s.stk.wrAddr = some (ch, addr) ∧ s.on Reg.STK_STATUS_HALTED 0 = false) ∧
    (∃ (readTag : Nat) (r : StkRead) (s : State), s.stk.reads.find? (fun r => r.tag == readTag && r.region.isNone) = some r ∧ s.stopped = false ∧ s.on Reg.STK_STATUS_HALTED 0 = false) ∧
    (∃ (region : Nat) (xferTag : Nat) (r : StkRead) (s : State), s.stk.reads.find? (fun r => r.tag == xferTag && r.region == some region) = some r) ∧
    (∃ (xferTag : Nat) (r : StkRead) (s : State), s.stk.reads.find? (fun r => r.tag == xferTag && r.region.isSome) = some r ∧ s.stopped = false ∧ s.on Reg.STK_STATUS_HALTED 0 = false) :=
  ⟨⟨3, { tag := 3, ch := 4, kind := .desc, pos := 0, addr := 0, n := 128 }, { stk := { reads := [{ tag := 3, ch := 4, kind := .desc, pos := 0, addr := 0, n := 128 }] } }, by decide⟩,
   ⟨3, { tag := 3, ch := 4, kind := .desc, pos := 0, addr := 0, n := 64 }, { stk := { reads := [{ tag := 3, ch := 4, kind := .desc, pos := 0, addr := 0, n := 64 }] } }, by decide⟩,
   ⟨3, { tag := 3, ch := 4, kind := .desc, pos := 0, addr := 0, n := 128 }, { stk := { reads := [{ tag := 3, ch := 4, kind := .desc, pos := 0, addr := 0, n := 128 }] } }, by decide⟩,
   ⟨5, 15, 4, { tag := 64, ch := 4, gen := 1, addr := 0, beats := [(5, 15, 4), (6, 15, 4)], last := true }, [], [(6, 15, 4)], { stk := { wdCred := 2, writes := [{ tag := 64, ch := 4, gen := 1, addr := 0, beats := [(5, 15, 4), (6, 15, 4)], last := true }] } }, by decide⟩,
   ⟨{}, by decide⟩,
   ⟨64, 4, 640, { stk := { wrAddr := [(64, (4, 640))], chans := [(4, { st := .run })] } }, by decide⟩,
   ⟨3, { tag := 3, ch := 4, kind := .desc, pos := 0, addr := 0, n := 64 }, { stk := { reads := [{ tag := 3, ch := 4, kind := .desc, pos := 0, addr := 0, n := 64 }] } }, by decide⟩,
   ⟨0, 3, { tag := 3, ch := 2, kind := .src, pos := 0, addr := 0, n := 64, region := some 0 }, { stk := { reads := [{ tag := 3, ch := 2, kind := .src, pos := 0, addr := 0, n := 64, region := some 0 }], chans := [(2, { st := .run, desc := { dst := { len := 64 } } })] } }, by decide⟩,
   ⟨3, { tag := 3, ch := 2, kind := .src, pos := 0, addr := 0, n := 64, region := some 0 }, { stk := { reads := [{ tag := 3, ch := 2, kind := .src, pos := 0, addr := 0, n := 64, region := some 0 }] } }, by decide⟩⟩

/-- The hypotheses of LedgerRecords, clause by clause. -/
theorem witness_LedgerRecords :
    (∃ (s : State), s.ledgerOpen = true) ∧
    (∃ (s : State), (s.ldg.op ≠ .idle ∨ s.ldg.blocks = 0 ∨ ({ s.ldg with foldOpen := false } : Ledger).eraseNeeded = none)) ∧
    (∃ (ten : Nat) (tag : Nat) (s : State), s.admits ten tag none = true ∧ (s.ldg.op ≠ .idle ∨ s.ldg.blocks = 0)) ∧
    (∃ (ten : Nat) (tag : Nat) (s : State), s.admits ten tag none = true ∧ s.on Reg.LDG_RDST_BUSY 0 = false) ∧
    (∃ (p : Page) (r : Trailer) (s : State), s.ldg.reading = some (some p, false) ∧ p.trailer = some r) ∧
    (∃ (found : Option Page) (verify : Bool) (s : State), s.ldg.reading = some (found, verify)) ∧
    (∃ (code : Nat) (ten : Nat) (tag : Nat) (s : State), s.admits ten tag none = true ∧ s.ledgerOpen = true ∧ 0xF000 ≤ wrap 16 code) ∧
    (∃ (code : Nat) (ten : Nat) (tag : Nat) (s : State), s.admits ten tag none = true ∧ wrap 16 code < 0xF000) :=
  ⟨⟨{}, by decide⟩,
   ⟨{ ldg := { foldOpen := true } }, by decide⟩,
   ⟨0, 1, { pwr := { state := .on } }, by decide⟩,
   ⟨0, 1, { pwr := { state := .on } }, by decide⟩,
   ⟨{ recs := [7], trailer := some { nrec := 0, pagenum := 4, prevpage := 3, unsealed := true } }, { nrec := 0, pagenum := 4, prevpage := 3, unsealed := true }, { ldg := { reading := some (some { recs := [7], trailer := some { nrec := 0, pagenum := 4, prevpage := 3, unsealed := true } }, false) } }, by decide⟩,
   ⟨none, true, { ldg := { reading := some (none, true) } }, by decide⟩,
   ⟨0xF001, 0, 1, { pwr := { state := .on } }, by decide⟩,
   ⟨0x1000, 0, 1, { pwr := { state := .on } }, by decide⟩⟩

/-- The hypotheses of LedgerFlash, clause by clause. -/
theorem witness_LedgerFlash :
    (∃ (n : Nat) (retry : Bool) (s : State), s.ldg.op = .programming n retry ∧ s.ldg.trailer = none) ∧
    (∃ (n : Nat) (retry : Bool) (r : Trailer) (s : State), s.ldg.op = .programming n retry ∧ s.ldg.trailer = some r) ∧
    (∃ (n : Nat) (s : State), s.ldg.op = .programming n false) ∧
    (∃ (n : Nat) (s : State), s.ldg.op = .programming n true) ∧
    (∃ (b : Nat) (s : State), s.ldg.op = .erasing b) ∧
    (∃ (b : Nat) (s : State), s.ldg.op = .erasing b) ∧
    (∃ (s : State), s.vault.st ≠ .off ∧ s.vault.st ≠ .selftest) :=
  ⟨⟨1, false, { ldg := { op := .programming 1 false, buf := [{ code := 7, src := 1, time := 0 }] } }, by decide⟩,
   ⟨0, false, { nrec := 0, pagenum := 4, prevpage := 3, unsealed := true }, { ldg := { op := .programming 0 false, trailer := some { nrec := 0, pagenum := 4, prevpage := 3, unsealed := true } } }, by decide⟩,
   ⟨1, { ldg := { op := .programming 1 false } }, by decide⟩,
   ⟨1, { ldg := { op := .programming 1 true } }, by decide⟩,
   ⟨2, { ldg := { op := .erasing 2 } }, by decide⟩,
   ⟨2, { ldg := { op := .erasing 2 } }, by decide⟩,
   ⟨{ vault := { st := .unprovisioned, cache := true } }, by decide⟩⟩

/-- The hypotheses of BringUpCommands, clause by clause. -/
theorem witness_BringUpCommands :
    (∃ (addr : Nat) (data : Nat) (s : State), s.bru.state = .selftest ∧ s.bru.fuseDone = false ∧ s.bru.nextFuse = some addr ∧ fuseBad addr (wrap 32 data) = false) ∧
    (∃ (addr : Nat) (s : State), s.bru.state = .selftest ∧ s.bru.fuseDone = false ∧ s.bru.nextFuse = some addr ∧ s.bru.reread = none) ∧
    (∃ (addr : Nat) (s : State), s.bru.state = .selftest ∧ s.bru.fuseDone = false ∧ s.bru.nextFuse = some addr ∧ s.bru.reread = some addr) ∧
    (∃ (addr : Nat) (data : Nat) (s : State), s.bru.state = .selftest ∧ s.bru.fuseDone = false ∧ s.bru.nextFuse = some addr ∧ fuseBad addr (wrap 32 data) = true) ∧
    (∃ (s : State), s.bru.state = .selftest ∧ s.bru.trained = false) ∧
    (∃ (s : State), s.bru.state = .selftest ∧ s.bru.trained = false) ∧
    (∃ (region : Nat) (tile : Nat) (s : State), s.bru.inBringUp = true ∧ tile < 1056 ∧ bit (tgetD 0 region s.bru.pstDone) tile = false) ∧
    (∃ (region : Nat) (tile : Nat) (s : State), s.bru.inBringUp = true ∧ tile < 1056 ∧ bit (tgetD 0 region s.bru.pstDone) tile = false) :=
  ⟨⟨0, 0x10001, {}, by decide⟩,
   ⟨0, {}, by decide⟩,
   ⟨0, { bru := { reread := some 0 } }, by decide⟩,
   ⟨0, 0, {}, by decide⟩,
   ⟨{}, by decide⟩,
   ⟨{}, by decide⟩,
   ⟨0, 7, {}, by decide⟩,
   ⟨0, 7, {}, by decide⟩⟩

/-- The hypotheses of CharterCommands, clause by clause. -/
theorem witness_CharterCommands :
    (∃ (ten : Nat) (tag : Nat) (s : State), s.admits ten tag none = true ∧ s.bru.state = .waitch ∧ s.bru.paused = false) ∧
    (∃ (ten : Nat) (tag : Nat) (s : State), s.admits ten tag none = true ∧ s.bru.state = .selftest) ∧
    (∃ (ten : Nat) (tag : Nat) (s : State), s.admits ten tag none = true ∧ (s.bru.state = .load ∨ s.bru.state = .apply ∨ s.bru.state = .qualify)) ∧
    (∃ (ten : Nat) (tag : Nat) (s : State), s.takes tag = true ∧ wrap 12 ten = 0 ∧ s.isSealed = false ∧ s.bru.state = .refused ∧ s.bru.classH = false ∧ s.bru.code ≠ 0x10 ∧ s.bru.code ≠ 0x11) ∧
    (∃ (s : State), s.bru.state = .waitch ∧ s.stopped = false ∧ s.bru.paused = false) ∧
    (∃ (ckh : Nat) (image : Image) (s : State), s.bru.state = .load ∧ State.imageCheck { s with bru := { s.bru with ckh := ckh } } image false ckh = 0 ∧ image.patternsOk = true ∧ charterHostFits image.content s.bru.variant = true ∧ charterFits image.content (image.content.w * image.content.h) = true ∧ s.bru.paused = false ∧ s.pwr.offLatch = false) ∧
    (∃ (ckh : Nat) (image : Image) (s : State), s.bru.state = .load ∧ State.imageCheck { s with bru := { s.bru with ckh := ckh } } image false ckh ≠ 0) ∧
    (∃ (s : State), s.bru.state = .load) ∧
    (∃ (region : Nat) (sect : Nat) (other : Nat × Nat) (s : State), s.bru.state = .apply ∧ s.bru.hubAcks.contains (region, sect) = true ∧ s.bru.hubAcks.contains other = true ∧ other ≠ (region, sect)) ∧
    (∃ (region : Nat) (sect : Nat) (other : Nat × Nat) (a : AmendState) (s : State), s.bru.state = .ready ∧ s.bru.amend = some a ∧ a.await.contains other = true ∧ other ≠ (region, sect) ∧ s.lost = []) ∧
    (∃ (clp : Nat) (errs : Nat) (s : State), s.bru.state = .ready ∧ s.bru.requal.contains clp = true ∧ saturate 32 errs ≤ ((s.portEntry clp).map (·.qualmax)).getD 0 ∧ (s.port clp).st = .disabled) ∧
    (∃ (clp : Nat) (res : Nat) (s : State), s.bru.state = .ready ∧ s.bru.requal.contains clp = true ∧ wrap 2 res ≠ 0) ∧
    (∃ (image : Image) (ten : Nat) (tag : Nat) (s : State), s.admits ten tag none = true ∧ s.on Reg.CHR_AMST_BUSY 0 = false ∧ s.bru.state = .ready ∧ s.readable (64 * s.get Reg.CHR_SRC_ADDR 0) image.length = true ∧ s.amendReason image = 0 ∧ s.hasPlace false = true ∧ s.fl.waiting = []) ∧
    (∃ (image : Image) (ten : Nat) (tag : Nat) (s : State), s.admits ten tag none = true ∧ s.on Reg.CHR_AMST_BUSY 0 = false ∧ s.bru.state = .ready ∧ s.readable (64 * s.get Reg.CHR_SRC_ADDR 0) image.length = true ∧ s.amendReason image ≠ 0) ∧
    (∃ (clp : Nat) (ten : Nat) (tag : Nat) (p : PortEntry) (s : State), s.admits ten tag none = true ∧ s.bru.state = .ready ∧ (s.port (wrap 5 clp)).st = .disabled ∧ s.portEntry (wrap 5 clp) = some p ∧ p.enabled = true ∧ p.reserved = false ∧ s.bru.requal.contains (wrap 5 clp) = false) :=
  ⟨⟨0, 1, { pwr := { state := .on }, bru := { state := .waitch } }, by decide⟩,
   ⟨0, 1, { pwr := { state := .on }, bru := { state := .selftest } }, by decide⟩,
   ⟨0, 1, { pwr := { state := .on }, bru := { state := .load } }, by decide⟩,
   ⟨0, 1, { pwr := { state := .on }, bru := { state := .refused, code := 5 } }, by decide⟩,
   ⟨{ bru := { state := .waitch } }, by decide⟩,
   ⟨5, { headerOk := true, isAmendment := false, length := 64, release := State.get {} Reg.KILN_ID_VERSION 0, variant := 0, vmask := 0, serial := 9, mekor := 0, base := 0, digest := 8, keyHash := 5, ecdsaOk := true, mldsaOk := true, structureOk := true, patternsOk := true, offset := 0, content := { w := 1, h := 1, spine := 0, sections := [1, 2], accW := 64, accWords := 1, rclk := 2000000 } }, { bru := { state := .load, trained := true, trainW := 1, trainH := 1, fuses := [(0, 0x10001)] }, cfg := { w := 1, h := 1 } }, by decide +kernel⟩,
   ⟨0, { headerOk := true, isAmendment := false, length := 64, release := State.get {} Reg.KILN_ID_VERSION 0, variant := 0, vmask := 0, serial := 9, mekor := 0, base := 0, digest := 8, keyHash := 5, ecdsaOk := true, mldsaOk := true, structureOk := true, patternsOk := true, offset := 0, content := { w := 1, h := 1, spine := 0, sections := [1, 2], accW := 64, accWords := 1, rclk := 2000000 } }, { bru := { state := .load } }, by decide⟩,
   ⟨{ bru := { state := .load } }, by decide⟩,
   ⟨0, 1, (1, 1), { bru := { state := .apply, hubAcks := [(0, 1), (1, 1)] } }, by decide⟩,
   ⟨0, 1, (1, 1), { image := { headerOk := true, isAmendment := false, length := 64, release := State.get {} Reg.KILN_ID_VERSION 0, variant := 0, vmask := 0, serial := 9, mekor := 0, base := 0, digest := 8, keyHash := 5, ecdsaOk := true, mldsaOk := true, structureOk := true, patternsOk := true, offset := 0, content := { w := 1, h := 1, spine := 0, sections := [1, 2], accW := 64, accWords := 1, rclk := 2000000 } }, await := [(0, 1), (1, 1)] }, { bru := { state := .ready, amend := some { image := { headerOk := true, isAmendment := false, length := 64, release := State.get {} Reg.KILN_ID_VERSION 0, variant := 0, vmask := 0, serial := 9, mekor := 0, base := 0, digest := 8, keyHash := 5, ecdsaOk := true, mldsaOk := true, structureOk := true, patternsOk := true, offset := 0, content := { w := 1, h := 1, spine := 0, sections := [1, 2], accW := 64, accWords := 1, rclk := 2000000 } }, await := [(0, 1), (1, 1)] } } }, by decide⟩,
   ⟨3, 0, { bru := { state := .ready, requal := [3] } }, by decide⟩,
   ⟨3, 1, { bru := { state := .ready, requal := [3] } }, by decide⟩,
   ⟨{ ({ headerOk := true, isAmendment := false, length := 64, release := State.get {} Reg.KILN_ID_VERSION 0, variant := 0, vmask := 0, serial := 9, mekor := 0, base := 0, digest := 8, keyHash := 5, ecdsaOk := true, mldsaOk := true, structureOk := true, patternsOk := true, offset := 0, content := { w := 1, h := 1, spine := 0, sections := [1, 2], accW := 64, accWords := 1, rclk := 2000000 } } : Image) with isAmendment := true, serial := 1, content := { sections := [] } }, 0, 1, { pwr := { state := .on }, bru := { state := .ready, ckh := 5 }, cfg := { w := 1, h := 1, sections := [1, 2], accW := 64, accWords := 1, rclk := 2000000, windows := [{ index := 0, read := true, write := true, tenant := 0, base := 0, size := 4096 }] } }, by decide⟩,
   ⟨{ ({ headerOk := true, isAmendment := false, length := 64, release := State.get {} Reg.KILN_ID_VERSION 0, variant := 0, vmask := 0, serial := 9, mekor := 0, base := 0, digest := 8, keyHash := 5, ecdsaOk := true, mldsaOk := true, structureOk := true, patternsOk := true, offset := 0, content := { w := 1, h := 1, spine := 0, sections := [1, 2], accW := 64, accWords := 1, rclk := 2000000 } } : Image) with isAmendment := true, serial := 1, content := { sections := [] } }, 0, 1, { pwr := { state := .on }, bru := { state := .ready }, cfg := { windows := [{ index := 0, read := true, write := true, tenant := 0, base := 0, size := 4096 }] } }, by decide⟩,
   ⟨3, 0, 1, { clp := 3, enabled := true, peer := 9, reserved := false, qualmax := 0 }, { pwr := { state := .on }, bru := { state := .ready }, cfg := { ports := [{ clp := 3, enabled := true, peer := 9, reserved := false, qualmax := 0 }] } }, by decide⟩⟩

/-- The hypotheses of SupplyCommands, clause by clause. -/
theorem witness_SupplyCommands :
    (∃ (s : State), s.pwr.stopped = false ∧ s.pwr.onBk = false ∧ s.pwr.flush = none) ∧
    (∃ (c : LossCapture) (s : State), s.pwr.flush = some c) ∧
    (∃ (s : State), s.pwr.onBk = true ∧ s.pwr.flush = none ∧ s.pwr.stopped = false) ∧
    (∃ (s : State), s.pwr.onBk = true) ∧
    (∃ (s : State), s.pwr.stopped = true) ∧
    (∃ (s : State), s.pwr.stopped = false ∧ s.pwr.cold = true ∧ s.bru.ledgerDone = true) ∧
    (∃ (s : State), s.pwr.stopped = false ∧ s.pwr.safe = false) ∧
    (∃ (s : State), s.pwr.safe = true ∧ s.pwr.flush = none) ∧
    (∃ (s : State), s.pwr.stopped = false ∧ s.pwr.state = .puWait ∧ s.pwr.rclkPresent = true ∧ s.pwr.porb = true) :=
  ⟨⟨{ pwr := { state := .on } }, by decide⟩,
   ⟨{ cause := 1, state := 4, trans := 0, lowest := 0, depth := 0, flipped := false, half := false }, { pwr := { flush := some { cause := 1, state := 4, trans := 0, lowest := 0, depth := 0, flipped := false, half := false } } }, by decide⟩,
   ⟨{ pwr := { onBk := true, retention := true } }, by decide⟩,
   ⟨{ pwr := { onBk := true, secs := 7 } }, by decide⟩,
   ⟨{ pwr := { stopped := true, cold := true } }, by decide⟩,
   ⟨{ pwr := { cold := true }, bru := { ledgerDone := true } }, by decide⟩,
   ⟨{ pwr := { state := .on } }, by decide⟩,
   ⟨{ pwr := { state := .off } }, by decide⟩,
   ⟨{ pwr := { state := .puWait, vddGood := false, porb := true, vddLost := true } }, by decide⟩⟩

/-- The hypotheses of HoldoverAndResets, clause by clause. -/
theorem witness_HoldoverAndResets :
    (∃ (s : State), s.pwr.stopped = false ∧ s.pwr.holdover = false) ∧
    (∃ (s : State), s.pwr.holdover = true) ∧
    (∃ (s : State), s.pwr.stopped = false ∧ s.pwr.safe = false) ∧
    (∃ (s : State), s.pwr.safe = true ∧ s.pwr.flush = none) ∧
    (∃ (s : State), s.pwr.stopped = false ∧ s.pwr.state = .off ∧ s.pwr.vddGood = true ∧ s.pwr.rclkPresent = true) ∧
    (∃ (s : State), s.pwr.working = true) ∧
    (∃ (s : State), s.pwr.working = false) ∧
    (∃ (s : State), s.pwr.hrstb = true ∧ s.ledgerOpen = true) :=
  ⟨⟨{ pwr := { state := .on } }, by decide⟩,
   ⟨{ pwr := { holdover := true, rclkPresent := false } }, by decide⟩,
   ⟨{ pwr := { state := .on, porb := true } }, by decide⟩,
   ⟨{ pwr := { state := .off, porb := true } }, by decide⟩,
   ⟨{ pwr := { state := .off } }, by decide⟩,
   ⟨State.set { pwr := { state := .on }, stk := { chans := [(4, { st := .run })] } } Reg.STK_CH_CTRL_TENANT 4 5, by decide⟩,
   ⟨{}, by decide⟩,
   ⟨{ pwr := { hrstb := true } }, by decide⟩⟩

/-- The hypotheses of PowerSequence, clause by clause. -/
theorem witness_PowerSequence :
    (∃ (s : State), s.pwr.state = .puIso ∧ s.pwr.flush = none ∧ s.pwr.onBk = false ∧ s.pwr.offLatch = false ∧ s.pwr.sealedLatch = false) ∧
    (∃ (s : State), s.pwr.state = .puIso ∧ s.pwr.flush = none ∧ s.pwr.onBk = false ∧ s.pwr.offLatch = false ∧ s.pwr.sealedLatch = true) ∧
    (∃ (s : State), s.pwr.state = .pdQuiesce ∧ s.pwr.quiesceAwait = [] ∧ s.folios.any (fun f => f.st == .decided) = false ∧ s.stopped = false) ∧
    (∃ (timeLimit : Bool) (s : State), s.pwr.state = .pdFlush ∧ (timeLimit = true ∨ (s.flushed = true ∧ s.stopped = false))) ∧
    (∃ (s : State), s.pwr.state = .pdStop ∧ s.pwr.onLatch = false ∧ s.pwr.restart = false) ∧
    (∃ (ten : Nat) (tag : Nat) (s : State), s.admits ten tag none = true ∧ s.pwr.state = .on) ∧
    (∃ (ten : Nat) (tag : Nat) (s : State), s.admits ten tag none = true ∧ (s.pwr.state = .pdQuiesce ∨ s.pwr.state = .pdFlush) ∧ s.bru.paused = false) :=
  ⟨⟨{ pwr := { state := .puIso } }, by decide⟩,
   ⟨{ pwr := { state := .puIso, sealedLatch := true } }, by decide⟩,
   ⟨{ pwr := { state := .pdQuiesce, back := .on } }, by decide⟩,
   ⟨true, { pwr := { state := .pdFlush }, ldg := { flushing := true } }, by decide⟩,
   ⟨{ pwr := { state := .pdStop, committed := true, pcreq := true }, hubs := [(0, {})] }, by decide⟩,
   ⟨0, 1, { pwr := { state := .on } }, by decide⟩,
   ⟨0, 1, { pwr := { state := .pdQuiesce, back := .on } }, by decide⟩⟩

/-- The hypotheses of PowerRequests, clause by clause. -/
theorem witness_PowerRequests :
    (∃ (ten : Nat) (tag : Nat) (s : State), s.admits ten tag none = true ∧ s.pwr.pcreq = false) ∧
    (∃ (region : Nat) (ten : Nat) (tag : Nat) (s : State), s.admits ten tag none = true ∧ s.windowExists .hub region = true) ∧
    (∃ (ms : Nat) (s : State), s.pwr.btnStuck = false ∧ s.pwr.stopped = false ∧ 4000 ≤ ms ∧ ms ≤ 30000 ∧ s.pwr.pcreq = false) ∧
    (∃ (ms : Nat) (s : State), s.pwr.btnStuck = false ∧ s.pwr.stopped = false ∧ ms < 4000 ∧ s.pwr.state = .on ∧ s.rcv.rstChip = false ∧ s.rcv.st ≠ .reset) ∧
    (∃ (ms : Nat) (s : State), s.pwr.btnStuck = false ∧ s.pwr.stopped = false ∧ ms < 4000 ∧ s.pwr.state = .off ∧ s.pwr.vddGood = true) ∧
    (∃ (ms : Nat) (s : State), s.pwr.btnStuck = false ∧ s.pwr.stopped = false ∧ 30000 < ms) ∧
    (∃ (s : State), s.pwr.btnStuck = false ∧ s.pwr.stopped = false) ∧
    (∃ (s : State), s.pwr.btnStuck = true) ∧
    (∃ (s : State), s.pwr.stopped = false ∧ s.pwr.state = .on) :=
  ⟨⟨0, 1, { pwr := { state := .on } }, by decide⟩,
   ⟨0, 0, 1, { pwr := { state := .on }, cfg := { w := 1, h := 1, sections := [1] }, bru := { state := .ready } }, by decide⟩,
   ⟨5000, { pwr := { state := .on, btnPressed := true } }, by decide⟩,
   ⟨90, { pwr := { state := .on, btnPressed := true } }, by decide⟩,
   ⟨90, { pwr := { state := .off, btnPressed := true } }, by decide⟩,
   ⟨30001, { pwr := { state := .on } }, by decide⟩,
   ⟨{}, by decide⟩,
   ⟨{ pwr := { btnStuck := true } }, by decide⟩,
   ⟨{ pwr := { state := .on } }, by decide⟩⟩

/-- The hypotheses of GlobalStopCommands, clause by clause. -/
theorem witness_GlobalStopCommands :
    (∃ (ten : Nat) (tag : Nat) (s : State), s.admits ten tag none = true ∧ s.stopped = false) ∧
    (∃ (ten : Nat) (tag : Nat) (s : State), s.admits ten tag none = true ∧ s.stopped = true ∧ s.get Reg.DBG_GSSTATUS_SOURCE 0 &&& 2 = 0) ∧
    (∃ (ten : Nat) (tag : Nat) (s : State), s.admits ten tag none = true ∧ s.stopped = true ∧ s.get Reg.DBG_GSSTATUS_SOURCE 0 &&& 2 ≠ 0) ∧
    (∃ (s : State), s.on Reg.DBG_GSCTRL_EXTEN 0 = true ∧ s.stopped = false ∧ bit (s.get Reg.DBG_GSSTATUS_SOURCE 0) 1 = false) ∧
    (∃ (s : State), s.stopped = true) :=
  ⟨⟨0, 1, { pwr := { state := .on } }, by decide⟩,
   ⟨0, 1, State.setAll { pwr := { state := .on } } 0 [(Reg.DBG_GSSTATUS_STOPPED, 1), (Reg.DBG_GSSTATUS_SOURCE, 1)], by decide⟩,
   ⟨0, 1, State.setAll { pwr := { state := .on } } 0 [(Reg.DBG_GSSTATUS_STOPPED, 1), (Reg.DBG_GSSTATUS_SOURCE, 3)], by decide⟩,
   ⟨State.set {} Reg.DBG_GSCTRL_EXTEN 0 1, by decide⟩,
   ⟨State.set {} Reg.DBG_GSSTATUS_STOPPED 0 1, by decide⟩⟩

/-- The hypotheses of TraceCommands, clause by clause. -/
theorem witness_TraceCommands :
    (∃ (region : Nat) (tile : Nat) (s : State), takeTrace (s.probe region tile).traceOut ≠ [] ∧ (s.probe region tile).traceDrops = 0 ∧ (s.hub region).tr.recs.length + 2 < 2047) ∧
    (∃ (region : Nat) (s : State), region ≠ kilnRegion ∧ bit (s.get Reg.RH_TR_CTRL_CLASSEN region) 0 = true ∧ (s.hub region).tr.recs.length < 2047) ∧
    (∃ (s : State), s.dbg.recs.length < 256) ∧
    (∃ (region : Nat) (count : Nat) (s : State), s.dbg.cutting = some region ∧ s.dbg.run = none ∧ wrap 13 count ≠ 0) ∧
    (∃ (region : Nat) (s : State), s.dbg.cutting = some region ∧ s.dbg.run = none ∧ s.dbg.copying = false) ∧
    (∃ (ten : Nat) (tag : Nat) (s : State), s.admits ten tag none = true) ∧
    (∃ (ten : Nat) (tag : Nat) (s : State), s.admits ten tag none = true ∧ s.writable s.traceRing.1 (16 * s.traceRing.2) = true) ∧
    (∃ (ten : Nat) (tag : Nat) (s : State), s.admits ten tag none = true ∧ s.writable s.traceRing.1 (16 * s.traceRing.2) = false) ∧
    (∃ (ten : Nat) (tag : Nat) (s : State), s.admits ten tag none = true) :=
  ⟨⟨0, 0, { probes := [(0, { traceOut := [2, 3] })] }, by decide⟩,
   ⟨0, State.set {} Reg.RH_TR_CTRL_CLASSEN 0 1, by decide⟩,
   ⟨{}, by decide⟩,
   ⟨0, 9, { dbg := { cutting := some 0 } }, by decide⟩,
   ⟨0, { dbg := { cutting := some 0 } }, by decide⟩,
   ⟨0, 1, { pwr := { state := .on }, cfg := { w := 2, h := 1 } }, by decide⟩,
   ⟨0, 1, { pwr := { state := .on }, cfg := { windows := [{ index := 0, read := true, write := true, tenant := 0, base := 0, size := 4294967296 }] } }, by decide⟩,
   ⟨0, 1, { pwr := { state := .on } }, by decide⟩,
   ⟨0, 1, { pwr := { state := .on } }, by decide⟩⟩

/-- The hypotheses of HostPortCommands, clause by clause. -/
theorem witness_HostPortCommands :
    (∃ (region : Nat) (off : Nat) (ten : Nat) (tag : Nat) (sz64 : Bool) (s : State), s.takes tag = true ∧ s.lost.contains region = false ∧ placeOf (ghpReadAddr region none off) = ⟨.hub, region, wrap 16 off⟩ ∧ s.readStatus (wrap 12 ten) (ghpReadAddr region none off) sz64 = .ok) ∧
    (∃ (tag : Nat) (s : State), s.takes tag = true ∧ s.lost.contains 0 = false ∧ s.readStatus 0 (ghpReadAddr 0 none 0xE00) false = .ok) ∧
    (∃ (region : Nat) (off : Nat) (ten : Nat) (tag : Nat) (sz64 : Bool) (s : State), s.takes tag = true ∧ s.lost.contains region = true ∧ placeOf (ghpReadAddr region none off) = ⟨.hub, region, wrap 16 off⟩ ∧ s.readStatus (wrap 12 ten) (ghpReadAddr region none off) sz64 = .ok) ∧
    (∃ (off : Nat) (ten : Nat) (tag : Nat) (sz64 : Bool) (s : State), s.takes tag = true ∧ inMirror (wrap 32 off) = false ∧ s.readStatus (wrap 12 ten) (wrap 32 off) sz64 = .rsvd) ∧
    (∃ (region : Nat) (s : State), s.lost.contains region = false ∧ s.windowExists .hub region = true) ∧
    (∃ (region : Nat) (s : State), s.lost.contains region = true) ∧
    (∃ (tag : Nat) (q : GhpReq) (s : State), s.ghp.find? (fun q => q.tag == wrap 6 tag && !q.wr) = some q) ∧
    (∃ (tag : Nat) (q : GhpReq) (s : State), s.ghp.find? (fun q => q.tag == wrap 6 tag && !q.wr) = some q) ∧
    (∃ (tag : Nat) (q : GhpReq) (s : State), s.ghp.find? (fun q => q.tag == wrap 6 tag && q.wr) = some q) ∧
    (∃ (tag : Nat) (q : GhpReq) (s : State), s.ghp.find? (fun q => q.tag == wrap 6 tag && q.wr) = some q) ∧
    (∃ (region : Nat) (tag : Nat) (s : State), s.takes tag = true ∧ s.lost.contains region = false) ∧
    (∃ (tag : Nat) (q : GhpReq) (s : State), s.ghp.find? (fun q => q.tag == wrap 6 tag && true) = some q) ∧
    (∃ (tag : Nat) (s : State), s.takes tag = true) ∧
    (∃ (addr : Nat) (tag : Nat) (s : State), s.takes tag = true ∧ addr % 4 = 2) ∧
    (∃ (tag : Nat) (s : State), s.admits 0 tag none = true) ∧
    (∃ (tag : Nat) (s : State), s.admits 0 tag none = true ∧ s.windowExists .hub 0 = true) :=
  ⟨⟨0, 0xE00, 0, 5, false, { pwr := { state := .on }, cfg := { w := 1, h := 1, sections := [1] } }, by decide⟩,
   ⟨5, { pwr := { state := .on }, cfg := { w := 1, h := 1, sections := [1] } }, by decide⟩,
   ⟨0, 0xE00, 0, 5, false, { pwr := { state := .on }, cfg := { w := 1, h := 1, sections := [1] }, lost := [0] }, by decide⟩,
   ⟨0x00F00000, 0, 5, false, { pwr := { state := .on } }, by decide⟩,
   ⟨0, { pwr := { state := .on }, cfg := { w := 1, h := 1, sections := [1] }, bru := { state := .ready } }, by decide⟩,
   ⟨0, { lost := [0] }, by decide⟩,
   ⟨1, { tag := 1, ten := 0, addr := 0, wr := false, sz64 := true, gt := 0 }, { ghp := [{ tag := 1, ten := 0, addr := 0, wr := false, sz64 := true, gt := 0 }] }, by decide⟩,
   ⟨1, { tag := 1, ten := 0, addr := 0, wr := false, sz64 := true, gt := 0 }, { ghp := [{ tag := 1, ten := 0, addr := 0, wr := false, sz64 := true, gt := 0 }] }, by decide⟩,
   ⟨1, { tag := 1, ten := 0, addr := 0, wr := true, sz64 := true, gt := 0 }, { ghp := [{ tag := 1, ten := 0, addr := 0, wr := true, sz64 := true, gt := 0 }] }, by decide⟩,
   ⟨1, { tag := 1, ten := 0, addr := 0, wr := true, sz64 := true, gt := 0 }, { ghp := [{ tag := 1, ten := 0, addr := 0, wr := true, sz64 := true, gt := 0 }] }, by decide⟩,
   ⟨0, 1, { pwr := { state := .on }, cfg := { w := 1, h := 1 } }, by decide⟩,
   ⟨1, { tag := 1, ten := 0, addr := 0, wr := true, sz64 := true, gt := 0 }, { ghp := [{ tag := 1, ten := 0, addr := 0, wr := true, sz64 := true, gt := 0 }] }, by decide⟩,
   ⟨1, { pwr := { state := .on } }, by decide⟩,
   ⟨4098, 1, { pwr := { state := .on } }, by decide⟩,
   ⟨1, { pwr := { state := .on } }, by decide⟩,
   ⟨1, { pwr := { state := .on }, cfg := { w := 1, h := 1, sections := [1] } }, by decide⟩⟩

/-- The hypotheses of ManagementCommands, clause by clause. -/
theorem witness_ManagementCommands :
    (∃ (s : State), s.pwr.running = true) ∧
    (∃ (s : State), s.pwr.stopped = false ∧ s.pwr.running = false) ∧
    (∃ (s : State), s.pwr.running = true) ∧
    (∃ (offset : Nat) (count : Nat) (s : State), s.pwr.running = true ∧ 1 ≤ count ∧ count ≤ 6 ∧ wrap 32 offset < 0x40000000) ∧
    (∃ (count : Nat) (s : State), s.pwr.running = true ∧ (count = 0 ∨ 6 < count)) ∧
    (∃ (page : Nat) (chunk : Nat) (p : Page) (s : State), s.pwr.running = true ∧ s.ldg.find (wrap 32 page) = some p ∧ chunk < 176) ∧
    (∃ (s : State), s.pwr.running = true ∧ s.pwr.state = .on) ∧
    (∃ (s : State), s.pwr.running = true ∧ (s.pwr.state = .pdQuiesce ∨ s.pwr.state = .pdFlush) ∧ s.bru.paused = false) ∧
    (∃ (s : State), s.pwr.running = true ∧ s.isSealed = false ∧ s.stopped = false) ∧
    (∃ (s : State), s.pwr.running = true ∧ s.isSealed = true) ∧
    (∃ (region : Nat) (s : State), s.pwr.running = true ∧ s.isSealed = false ∧ wrap 16 region ≠ 0xFFFF ∧ s.inGrid (wrap 16 region) = true) ∧
    (∃ (s : State), s.pwr.stopped = false ∧ s.pwr.running = false ∧ s.pwr.state = .off ∧ s.pwr.vddGood = true) ∧
    (∃ (s : State), s.pwr.stopped = false ∧ s.pwr.state = .pdStop) :=
  ⟨⟨{ pwr := { state := .on } }, by decide⟩,
   ⟨{}, by decide⟩,
   ⟨{ pwr := { state := .on } }, by decide⟩,
   ⟨0, 2, { pwr := { state := .on } }, by decide⟩,
   ⟨7, { pwr := { state := .on } }, by decide⟩,
   ⟨0, 0, { recs := [5], trailer := some trEx }, { pwr := { state := .on }, ldg := { flash := [(0, { recs := [5], trailer := some trEx })] } }, by decide⟩,
   ⟨{ pwr := { state := .on } }, by decide⟩,
   ⟨{ pwr := { state := .pdFlush, back := .on } }, by decide⟩,
   ⟨{ pwr := { state := .on } }, by decide⟩,
   ⟨{ pwr := { state := .on, sealedLatch := true } }, by decide⟩,
   ⟨0, { pwr := { state := .on }, cfg := { w := 1, h := 1, sections := [1] } }, by decide⟩,
   ⟨{}, by decide⟩,
   ⟨{ pwr := { state := .pdStop } }, by decide⟩⟩

/-- The hypotheses of MctpAndPldmCommands, clause by clause. -/
theorem witness_MctpAndPldmCommands :
    (∃ (op : Nat) (eid : Nat) (s : State), s.pwr.running = true ∧ op % 4 < 2 ∧ wrap 8 eid ≠ 0 ∧ wrap 8 eid ≠ 0xFF) ∧
    (∃ (s : State), s.pwr.running = true) ∧
    (∃ (type : Nat) (s : State), s.pwr.running = true ∧ [0xFF, 0x00, 0x01, 0x7F].contains (wrap 8 type) = true) ∧
    (∃ (type : Nat) (s : State), s.pwr.running = true ∧ [0xFF, 0x00, 0x01, 0x7F].contains (wrap 8 type) = false) ∧
    (∃ (s : State), s.pwr.running = true) ∧
    (∃ (s : State), s.pwr.running = true) ∧
    (∃ (s : State), s.pwr.running = true) ∧
    (∃ (type : Nat) (s : State), s.pwr.running = true ∧ (wrap 8 type = 0 ∨ wrap 8 type = 2)) ∧
    (∃ (s : State), s.pwr.running = true) ∧
    (∃ (s : State), s.pwr.running = true) ∧
    (∃ (s : State), s.pwr.running = true) ∧
    (∃ (s : State), s.pwr.running = true) ∧
    (∃ (s : State), s.pwr.running = true) ∧
    (∃ (sensor : Nat) (s : State), s.pwr.running = true ∧ 0x20 ≤ wrap 16 sensor ∧ wrap 16 sensor < 0x28) ∧
    (∃ (sensor : Nat) (s : State), s.pwr.running = true ∧ 0x100 ≤ wrap 16 sensor ∧ s.inGrid (wrap 16 sensor - 0x100) = true) ∧
    (∃ (sensor : Nat) (s : State), s.pwr.running = true ∧ wrap 16 sensor < 0x10) ∧
    (∃ (s : State), s.pwr.running = true) ∧
    (∃ (sensor : Nat) (s : State), s.pwr.running = true ∧ (wrap 16 sensor = 2 ∨ wrap 16 sensor = 3 ∨ wrap 16 sensor = 4)) :=
  ⟨⟨0, 9, { pwr := { state := .on } }, by decide⟩,
   ⟨{ pwr := { state := .on } }, by decide⟩,
   ⟨1, { pwr := { state := .on } }, by decide⟩,
   ⟨5, { pwr := { state := .on } }, by decide⟩,
   ⟨{ pwr := { state := .on } }, by decide⟩,
   ⟨{ pwr := { state := .on } }, by decide⟩,
   ⟨{ pwr := { state := .on } }, by decide⟩,
   ⟨2, { pwr := { state := .on } }, by decide⟩,
   ⟨{ pwr := { state := .on } }, by decide⟩,
   ⟨{ pwr := { state := .on } }, by decide⟩,
   ⟨{ pwr := { state := .on } }, by decide⟩,
   ⟨{ pwr := { state := .on } }, by decide⟩,
   ⟨{ pwr := { state := .on } }, by decide⟩,
   ⟨0x21, { pwr := { state := .on } }, by decide⟩,
   ⟨0x100, { pwr := { state := .on }, cfg := { w := 1, h := 1, sections := [1] } }, by decide⟩,
   ⟨0x1, { pwr := { state := .on } }, by decide⟩,
   ⟨{ pwr := { state := .on } }, by decide⟩,
   ⟨3, { pwr := { state := .on } }, by decide⟩⟩

/-- The hypotheses of I3cCommands, clause by clause. -/
theorem witness_I3cCommands :
    (∃ (s : State), s.pwr.stopped = false ∧ s.mgt.da = none) ∧
    (∃ (sa : Nat) (s : State), s.pwr.stopped = false ∧ s.mgt.da = none ∧ wrap 7 sa = wrap 7 Config.staticAddress) ∧
    (∃ (old : Nat) (s : State), s.pwr.stopped = false ∧ s.mgt.da = some (wrap 7 old)) ∧
    (∃ (s : State), s.pwr.stopped = false) ∧
    (∃ (s : State), s.pwr.stopped = false) ∧
    (∃ (addr : Nat) (s : State), s.pwr.stopped = false ∧ s.mgt.da = some (wrap 7 addr)) ∧
    (∃ (s : State), s.pwr.stopped = false) ∧
    (∃ (addr : Nat) (s : State), s.pwr.stopped = false ∧ s.mgt.da = some (wrap 7 addr)) ∧
    (∃ (addr : Nat) (s : State), s.pwr.stopped = false ∧ s.mgt.da = some (wrap 7 addr)) ∧
    (∃ (addr : Nat) (s : State), s.pwr.stopped = false ∧ s.mgt.da = some (wrap 7 addr)) ∧
    (∃ (addr : Nat) (s : State), s.pwr.stopped = false ∧ s.mgt.da = some (wrap 7 addr)) ∧
    (∃ (addr : Nat) (s : State), s.pwr.stopped = false ∧ s.mgt.da = some (wrap 7 addr)) ∧
    (∃ (addr : Nat) (s : State), s.pwr.stopped = false ∧ s.mgt.da = some (wrap 7 addr)) ∧
    (∃ (addr : Nat) (s : State), s.pwr.stopped = false ∧ s.mgt.da = some (wrap 7 addr)) ∧
    (∃ (s : State), s.pwr.stopped = false) ∧
    (∃ (addr : Nat) (s : State), s.pwr.stopped = false ∧ s.mgt.da = some (wrap 7 addr)) ∧
    (∃ (s : State), s.pwr.stopped = false) ∧
    (∃ (addr : Nat) (s : State), s.pwr.stopped = false ∧ s.mgt.da = some (wrap 7 addr)) :=
  ⟨⟨{}, by decide⟩,
   ⟨wrap 7 Config.staticAddress, {}, rfl, rfl, by simp [wrap]⟩,
   ⟨9, { mgt := { da := some 9 } }, by decide⟩,
   ⟨{ mgt := { da := some 9 } }, by decide⟩,
   ⟨{}, by decide⟩,
   ⟨9, { mgt := { da := some 9 } }, by decide⟩,
   ⟨{}, by decide⟩,
   ⟨9, { mgt := { da := some 9 } }, by decide⟩,
   ⟨9, { mgt := { da := some 9 } }, by decide⟩,
   ⟨9, { mgt := { da := some 9 } }, by decide⟩,
   ⟨9, { mgt := { da := some 9 } }, by decide⟩,
   ⟨9, { mgt := { da := some 9 } }, by decide⟩,
   ⟨9, { mgt := { da := some 9 } }, by decide⟩,
   ⟨9, { mgt := { da := some 9 } }, by decide⟩,
   ⟨{}, by decide⟩,
   ⟨9, { mgt := { da := some 9 } }, by decide⟩,
   ⟨{}, by decide⟩,
   ⟨9, { mgt := { da := some 9 } }, by decide⟩⟩

end Sys2Proof.Tests
end

section
/-! SUPPORT. The seal instant of a Folio (R181): what a sequenced link message in turn leaves for its action, what DECIDED leaves in the log, and the last
yes vote by FL_VOTE and by FVOTE. -/

namespace Sys2Proof.Machine

open Sys2Proof

/-! ## What conditions and leads read -/

section

variable {F : Fields} {s t : State}

theorem folio_congr (h : t.fl = s.fl) (n : Nat) : t.folio n = s.folio n := by simp [State.folio, h]

theorem folio_of_blank (h : t.blank F = s.blank F) (hf : F.fl = false) (n : Nat) : t.folio n = s.folio n :=
  folio_congr (fl_of_blank h hf) n

theorem stopped_of_blank (h : t.blank F = s.blank F) (hf : F.has .dbg = false) : t.stopped = s.stopped := by
  simp [State.stopped, State.on, get_of_blank h (f := Reg.DBG_GSSTATUS_STOPPED) hf]

theorem isSealed_of_blank (h : t.blank F = s.blank F) (hp : F.pwr = false) (hf : F.flt = false) : t.isSealed = s.isSealed := by
  simp [State.isSealed, pwr_of_blank h hp, flt_of_blank h hf]

theorem leadOf_of_blank (h : t.blank F = s.blank F) (hf : F.has .folio = false) (f : FolioRec) : t.leadOf f = s.leadOf f := by
  simp [State.leadOf, get_of_blank h (f := Reg.FOLIO_CTRL_XLEAD) hf, get_of_blank h (f := Reg.FOLIO_CTRL_LEAD) hf]

end

/-- Without a peer participant the lead is LEAD, at least 2,000 (R181). -/
theorem leadOf_of_no_peer {f : FolioRec} (s : State) (h : f.parts.all (fun p => decide (p < 4096)) = true) :
    s.leadOf f = max 2000 (s.get Reg.FOLIO_CTRL_LEAD 0) := by
  have hno : f.parts.any (fun p => decide (4096 ≤ p)) = false := by simpa using h
  simp [State.leadOf, hno]

/-- With a peer participant the lead is XLEAD (R181). -/
theorem leadOf_of_peer {f : FolioRec} {s : State} (h : f.parts.any (fun p => decide (4096 ≤ p)) = true)
    (hx : 2000 ≤ s.get Reg.FOLIO_CTRL_XLEAD 0) : s.leadOf f = s.get Reg.FOLIO_CTRL_XLEAD 0 := by
  rw [State.leadOf, if_pos h, Nat.max_eq_right hx]

/-! ## The log of Folios -/

@[simp] theorem folio_setFolio_self (s : State) (f : FolioRec) : (s.setFolio f).folio f.number = some f := by
  simp [State.folio, State.setFolio]

/-- Votes are complete once the vote of `who` joins those that were there, where only it was missing. -/
theorem allYes_of_last_vote {f g : FolioRec} {who : Nat} (hparts : g.parts = f.parts)
    (hyes : g.yes = if f.yes.contains who then f.yes else f.yes ++ [who])
    (h : f.parts.all (fun p => p == who || f.yes.contains p) = true) : g.allYes = true := by
  simp only [FolioRec.allYes, List.all_eq_true, Bool.or_eq_true, List.contains_iff_mem, beq_iff_eq, hparts, hyes] at h ⊢
  intro p hp
  left
  split
  next hw => exact (h p hp).elim (fun e => e ▸ hw) id
  next => exact List.mem_append.mpr ((h p hp).symm.imp id (fun e => by simp [e]))

/-- A Folio to which a participant owes FL_DONE is not APPLIED yet (R179). -/
theorem tryApplied_of_owing {s : State} {n p : Nat} {f : FolioRec} (hf : s.folio n = some f) (hp : f.parts.contains p = true)
    (hd : f.done.contains p = false) : s.tryApplied n = s := by
  have howe : ¬ f.parts.all (fun p => f.done.contains p) = true := fun h =>
    absurd (List.all_eq_true.mp h p (List.contains_iff_mem.mp hp)) (by simp only [hd, Bool.false_eq_true, not_false_eq_true])
  rw [State.tryApplied, hf]
  exact if_neg (fun h => howe h.2)

theorem linkSeal_fl (s : State) (f : FolioRec) : (s.linkSeal f).fl = s.fl :=
  fl_of_blank (linkSeal_blank (F := { regs := [.clp], link := true, pulses := true }) s f rfl rfl rfl) rfl

/-- What follows the entry of a seal in the log, up to the test for APPLIED, leaves the log alone (R179, R213). -/
theorem exists_decide_eq_tryApplied (s : State) (f : FolioRec) (t : Nat) : ∃ u : State, s.decide_ f t = u.tryApplied f.number ∧
    u.folio f.number = some { f with st := .decided, sealt := t, done := f.coordinator, behind := s.missedHubs f } := by
  refine ⟨_, rfl, ?_⟩
  split
  next => exact (folio_congr (linkSeal_fl _ _) _).trans (tget_tput_self _ _ _)
  next => exact tget_tput_self _ _ _

/-- A Folio of this coordinator with a participant stands in the log as DECIDED, with the instant given, once it is decided (R179, R181). -/
theorem folio_decide_ {s : State} {f : FolioRec} {who : Nat} (t : Nat) (hpeer : f.peernum = 0) (hwho : f.parts.contains who = true) :
    ((s.decide_ f t).folio f.number).map (fun x => (x.st, x.sealt)) = some (.decided, t) := by
  have hcoord : f.coordinator = [] := by simp [FolioRec.coordinator, hpeer]
  obtain ⟨u, hu, hlog⟩ := exists_decide_eq_tryApplied s f t
  rw [hu, tryApplied_of_owing hlog hwho (by simp [hcoord]), hlog]
  rfl

/-- With its votes complete, and neither global stop nor the sealed state in the way, a Folio of this coordinator is DECIDED at the Kiln's GT and its lead
(R179, R181, R191, R214). -/
theorem folio_setFolio_tryDecide {s : State} {f : FolioRec} {who : Nat} (hst : f.st = .prepared) (hpeer : f.peernum = 0)
    (hwho : f.parts.contains who = true) (hyes : f.allYes = true) (hstop : s.stopped = false) (hseal : s.isSealed = false) :
    (((s.setFolio f).tryDecide f.number).folio f.number).map (fun x => (x.st, x.sealt)) = some (.decided, s.gt + s.leadOf f) := by
  have hgo : f.st = .prepared ∧ f.allYes ∧ ¬ (s.setFolio f).stopped ∧ ¬ (s.setFolio f).isSealed :=
    ⟨hst, hyes, ne_true_of_eq_false hstop, ne_true_of_eq_false hseal⟩
  have hown : ¬ (f.xchip = true ∧ f.peernum ≠ 0) := fun h => h.2 hpeer
  rw [State.tryDecide, folio_setFolio_self]
  simp only [if_pos hgo, if_neg hown]
  exact folio_decide_ _ hpeer hwho

/-! ## A sequenced message in turn -/

/-- A port with nothing queued sends nothing. -/
theorem pump_of_queue_nil {s : State} {c : Nat} (h : (s.port c).queue = []) (n : Nat) : s.pump c n = s := by
  cases n with
  | zero => rfl
  | succ n =>
    simp only [State.pump, h, List.find?_nil]
    split
    next => rfl
    next => split <;> rfl

@[simp] theorem port_setPort_self (s : State) (c : Nat) (p : Port) : (s.setPort c p).port c = p := by simp [State.port, State.setPort]

/-- A port's buffers are as free as its counts of them say (R254). -/
theorem bufferFree_setPort {s : State} {c : Nat} {p : Port} {answer : Bool} (hpool : p.rxPool = (s.port c).rxPool)
    (hans : p.rxAns = (s.port c).rxAns) : (s.setPort c p).bufferFree c answer = s.bufferFree c answer := by
  have hcr : (s.setPort c p).offeredCr c = s.offeredCr c := rfl
  simp [State.bufferFree, hcr, hpool, hans]

/-- A port that waits for no acknowledgement and has nothing queued takes the credits of a message and does no more (R254, R255). -/
theorem takeAck_of_idle {s : State} {c : Nat} (h : ClpHdr) (hu : (s.port c).unacked = []) (hq : (s.port c).queue = []) :
    s.takeAck c h = s.setPort c { s.port c with unacked := [], crretIn := h.crret, arretIn := h.arret } := by
  have hl : (s.port c).ackedBy h.ack = [] := by simp [Port.ackedBy, hu]
  simp only [State.takeAck, hl, hu, List.foldl_nil, List.drop_nil, if_pos]
  exact pump_of_queue_nil (by simpa using hq) _

/-- A sequenced message with the next SEQ and a free buffer comes to its action, on a state that differs in its port alone (R256). -/
theorem window_of_next {s : State} {c : Nat} {h : ClpHdr} {answer : Bool} (body : LinkBody) (act : State → State)
    (hseq : wrap 16 (h.seq + 65536 - (s.port c).rxNext) = 0) (hbuf : s.bufferFree c answer = true) :
    ∃ u, s.window c h body answer act = act u ∧ Unchanged { regs := [.clp], link := true } s u := by
  have hfree : ¬ (wrap 16 (h.seq + 65536 - (s.port c).rxNext) = 0 ∧ s.bufferFree c answer = false) := by simp [hbuf]
  rw [State.window]
  simp only [if_neg hfree, if_pos hseq]
  exact ⟨_, rfl, (bump_blank _ _ _ _ rfl).trans (setPort_blank _ _ _ rfl)⟩

/-- The sealed state takes no message of a link (R279). -/
theorem isSealed_of_inTurn {s : State} {c : Nat} {h : ClpHdr} {answer : Bool} (hturn : s.linkInTurn c h answer = true) : s.isSealed = false := by
  simp only [State.linkInTurn, State.linkSession, Bool.and_eq_true, Bool.not_eq_true'] at hturn
  obtain ⟨⟨⟨⟨⟨⟨hseal, -⟩, -⟩, -⟩, -⟩, -⟩, -⟩ := hturn
  exact hseal

/-- A sequenced message in turn comes to its action, on a state that differs in its port alone (R251, R254–R256). -/
theorem linkIn_of_inTurn {s : State} {c : Nat} {h : ClpHdr} {body : LinkBody} {answer : Bool} (act : State → State)
    (hbody : body.sequenced = true) (hturn : s.linkInTurn c h answer = true) :
    ∃ u, s.linkIn c h body answer act = act u ∧ Unchanged { regs := [.clp], link := true } s u := by
  simp only [State.linkInTurn, State.linkSession, Bool.and_eq_true, Bool.not_eq_true', beq_iff_eq, List.isEmpty_iff] at hturn
  obtain ⟨⟨⟨⟨⟨⟨hseal, hup⟩, hsess⟩, hseq⟩, hbuf⟩, hunacked⟩, hqueue⟩ := hturn
  have hin : s.linkIn c h body answer act = (s.takeAck c h).window c h body answer act := by
    simp [State.linkIn, State.linkTake, hbody, hseal, hup, hsess]
  rw [hin, takeAck_of_idle h hunacked hqueue]
  have hbuf' := (bufferFree_setPort (p := { s.port c with unacked := [], crretIn := h.crret, arretIn := h.arret }) rfl rfl).trans hbuf
  obtain ⟨u, hu, hkept⟩ := window_of_next body act (by simpa using hseq) hbuf'
  exact ⟨u, hu, hkept.trans (setPort_blank _ _ _ rfl)⟩

/-! ## The last yes vote -/

/-- FL_VOTE with the last yes, whatever its participants (R177, R179). -/
theorem folio_flVote_last {s : State} {f : FolioRec} {who : Nat} (gt : Nat) (hf : s.folio f.number = some f) (hst : f.st = .prepared)
    (hwho : f.parts.contains who = true) (hyes : f.parts.all (fun p => p == who || f.yes.contains p) = true) (hpeer : f.peernum = 0)
    (hstop : s.stopped = false) (hseal : s.isSealed = false) :
    ∃ t, exec (.flVote who f.number 0 gt) s = .next t ∧
      (t.folio f.number).map (fun x => (x.st, x.sealt)) = some (.decided, s.gt + s.leadOf f) := by
  change ∃ t, execFlVote who f.number 0 gt s = .next t ∧ _
  have hf' : (s.recv (msgFlVote who f.number 0 gt)).folio f.number = some f := hf
  have hgo : ¬ (f.st ≠ .prepared ∨ f.parts.contains who = false) := by simp [hst, List.contains_iff_mem.mp hwho]
  simp only [execFlVote, hf', if_neg hgo, if_true]
  exact ⟨_, rfl, folio_setFolio_tryDecide (s := s.recv (msgFlVote who f.number 0 gt)) hst hpeer hwho
    (allYes_of_last_vote (f := f) rfl rfl hyes) hstop hseal⟩

/-- FVOTE with the last yes, in turn and with a buffer of its own class free (R256, R269). -/
theorem folio_fvote_last {s : State} {f : FolioRec} {clp : Nat} {h : ClpHdr} {answer : Bool} (lnum : Nat)
    (hturn : s.linkInTurn clp h answer = true) (hf : s.folio f.number = some f) (hst : f.st = .prepared)
    (hwho : f.parts.contains (peerPart clp) = true) (hyes : f.parts.all (fun p => p == peerPart clp || f.yes.contains p) = true)
    (hpeer : f.peernum = 0) (hstop : s.stopped = false) :
    ∃ t, exec (.fvote clp h f.number 0 lnum answer) s = .next t ∧
      (t.folio f.number).map (fun x => (x.st, x.sealt)) = some (.decided, s.gt + s.leadOf f) := by
  obtain ⟨u, hu, hkept⟩ := linkIn_of_inTurn (body := .fvote f.number 0 lnum) _ rfl hturn
  refine ⟨_, congrArg Host.Outcome.next hu, ?_⟩
  have hkept' : Unchanged { regs := [.clp], link := true } s (u.modPort clp (fun p => { p with strikes := [] })) :=
    (modPort_blank u clp _ rfl).trans hkept
  generalize u.modPort clp (fun p => { p with strikes := [] }) = v at hkept' ⊢
  have hgo : ¬ (f.st ≠ .prepared ∨ f.peernum ≠ 0 ∨ f.parts.contains (peerPart clp) = false) := by
    simp [hst, hpeer, List.contains_iff_mem.mp hwho]
  simp only [(folio_of_blank hkept' rfl _).trans hf, if_neg hgo, if_true]
  rw [← gt_of_blank hkept' rfl, ← leadOf_of_blank hkept' rfl]
  exact folio_setFolio_tryDecide hst hpeer hwho (allYes_of_last_vote (f := f) rfl rfl hyes) ((stopped_of_blank hkept' rfl).trans hstop)
    ((isSealed_of_blank hkept' rfl rfl).trans (isSealed_of_inTurn hturn))

/-! ## What holds of the statement `SealInstantOfAFolio` -/

/-- The clause about FL_VOTE holds as it stands. -/
theorem sealInstant_of_flVote (number who gt : Nat) (f : FolioRec) (s : State) (hf : s.folio number = some f) (hnum : f.number = number)
    (hst : f.st = .prepared) (hwho : f.parts.contains who = true) (hyes : f.parts.all (fun p => p == who || f.yes.contains p) = true)
    (hpeer : f.peernum = 0) (hstop : s.stopped = false) (hseal : s.isSealed = false) :
    ∃ t, exec (.flVote who number 0 gt) s = .next t ∧ (t.folio number).map (·.st) = some .decided ∧
      (f.parts.all (fun p => decide (p < 4096)) = true →
        (t.folio number).map (·.sealt) = some (s.gt + max 2000 (s.get Reg.FOLIO_CTRL_LEAD 0))) ∧
      (f.parts.any (fun p => decide (4096 ≤ p)) = true → 2000 ≤ s.get Reg.FOLIO_CTRL_XLEAD 0 →
        (t.folio number).map (·.sealt) = some (s.gt + s.get Reg.FOLIO_CTRL_XLEAD 0)) := by
  subst hnum
  obtain ⟨t, ht, hlog⟩ := folio_flVote_last gt hf hst hwho hyes hpeer hstop hseal
  obtain ⟨x, hx, hxs⟩ := Option.map_eq_some_iff.mp hlog
  obtain ⟨hdecided, hsealt⟩ := Prod.mk.inj hxs
  refine ⟨t, ht, by simp [hx, hdecided], fun hown => ?_, fun hpeers hlead => ?_⟩
  · simp [hx, hsealt, leadOf_of_no_peer s hown]
  · simp [hx, hsealt, leadOf_of_peer hpeers hlead]

/-- The clause about FVOTE holds where the buffer that is free is the one that the message uses. -/
theorem sealInstant_of_fvote (clp number lnum : Nat) (h : ClpHdr) (answer : Bool) (f : FolioRec) (s : State)
    (hturn : s.linkInTurn clp h answer = true) (hf : s.folio number = some f) (hnum : f.number = number) (hst : f.st = .prepared)
    (hpeer : f.peernum = 0) (hwho : f.parts.contains (peerPart clp) = true)
    (hyes : f.parts.all (fun p => p == peerPart clp || f.yes.contains p) = true) (hstop : s.stopped = false)
    (hlead : 2000 ≤ s.get Reg.FOLIO_CTRL_XLEAD 0) :
    ∃ t, exec (.fvote clp h number 0 lnum answer) s = .next t ∧
      (t.folio number).map (fun x => (x.st, x.sealt)) = some (.decided, s.gt + s.get Reg.FOLIO_CTRL_XLEAD 0) := by
  subst hnum
  have hpeers : f.parts.any (fun p => decide (4096 ≤ p)) = true :=
    List.any_eq_true.mpr ⟨peerPart clp, List.contains_iff_mem.mp hwho, by simp [peerPart]⟩
  rw [← leadOf_of_peer hpeers hlead]
  exact folio_fvote_last lnum hturn hf hst hwho hyes hpeer hstop

/-! ## An FVOTE that finds its answer buffer taken -/

/-- A Folio of this coordinator, PREPARED, whose only missing vote is that of the peer on port 31. -/
def folioOwedByPeer : FolioRec := { number := 3, st := .prepared, acts := [], parts := [0, peerPart 31], yes := [0] }

/-- Port 31 is UP with its pool of receive buffers free and its one answer buffer taken (R254). -/
def answerBufferTaken : State :=
  { fl := { log := [(3, folioOwedByPeer)] }, link := { ports := [(31, { st := .up, rxAns := 1 })] } }

/-- The header of that port's next sequenced message. -/
def nextHeader : ClpHdr :=
  { retx := false, prim := false, seen := true, fresh := false, seq := 0, ack := 0, crret := 0, arret := 0, ord := 9, pclp := 3, sess := 0,
    psess := 0 }

/-- An FVOTE that claims the taken answer buffer is no vote: it puts the port into DISPUTED, which voids the Folio (R256, R269, R274). -/
theorem execFvote_answerBufferTaken_void :
    ∃ t, exec (.fvote 31 nextHeader 3 0 0 true) answerBufferTaken = .next t ∧ (t.folio 3).map (·.st) = some .void :=
  ⟨_, rfl, by decide⟩

/-- Refutes O15: its last clause asks only for a free pool buffer, yet speaks also of an FVOTE that uses the answer buffer (R254). With that buffer taken
the last yes vote is a dispute, and the Folio becomes VOID. -/
theorem not_sealInstantOfAFolio : ¬ Obligations.SealInstantOfAFolio := by
  unfold Obligations.SealInstantOfAFolio
  rintro ⟨-, -, -, hvote⟩
  obtain ⟨t, ht, hdecided⟩ := hvote 31 3 0 nextHeader true folioOwedByPeer answerBufferTaken (by decide) rfl rfl rfl rfl (by decide)
    (by decide) (by decide) (by decide)
  obtain ⟨u, hu, hvoid⟩ := execFvote_answerBufferTaken_void
  obtain rfl : t = u := by simpa [ht] using hu
  obtain ⟨x, hx, hxs⟩ := Option.map_eq_some_iff.mp hdecided
  simp [hx, (Prod.mk.inj hxs).1] at hvoid

end Sys2Proof.Machine
end

section
/-! SUPPORT. Fields packed in rising order into a word (R6), and the 32 B of a layer entry (R295). -/

namespace Sys2Proof.Machine

open Sys2Proof

/-! ## Words packed of fields in rising order -/

/-- The fields lie between bits `base` and `top`, each at or above the end of the one before it. -/
def FieldsInOrder (top : Nat) : Nat → List (Nat × Nat × Nat) → Prop
  | base, [] => base ≤ top
  | base, (lo, w, _) :: rest => base ≤ lo ∧ FieldsInOrder top (lo + w) rest

theorem FieldsInOrder.base_le_top {top base : Nat} {l : List (Nat × Nat × Nat)} (h : FieldsInOrder top base l) : base ≤ top := by
  induction l generalizing base with
  | nil => exact h
  | cons f rest ih =>
    obtain ⟨hbase, hrest⟩ := h
    exact Nat.le_trans hbase (Nat.le_trans (Nat.le_add_right _ _) (ih hrest))

theorem FieldsInOrder.base_le_of_mem {top base lo w v : Nat} {l : List (Nat × Nat × Nat)} (h : FieldsInOrder top base l)
    (hmem : (lo, w, v) ∈ l) : base ≤ lo := by
  induction l generalizing base with
  | nil => cases hmem
  | cons f rest ih =>
    obtain ⟨hbase, hrest⟩ := h
    cases hmem with
    | head => exact hbase
    | tail _ hmem => exact Nat.le_trans hbase (Nat.le_trans (Nat.le_add_right _ _) (ih hrest hmem))

/-- One field stays below its own end. -/
theorem wrap_shiftLeft_lt (lo w v : Nat) : wrap w v <<< lo < 2 ^ (lo + w) := by
  rw [Nat.shiftLeft_eq, Nat.add_comm, Nat.pow_add]
  exact Nat.mul_lt_mul_of_pos_right (wrap_lt w v) (Nat.two_pow_pos lo)

/-- Fields in order leave every bit below the first of them clear. -/
theorem two_pow_dvd_pack {top base : Nat} {l : List (Nat × Nat × Nat)} (h : FieldsInOrder top base l) : 2 ^ base ∣ pack l := by
  induction l generalizing base with
  | nil => exact Nat.dvd_zero _
  | cons f rest ih =>
    obtain ⟨lo, w, v⟩ := f
    obtain ⟨hbase, hrest⟩ := h
    have hfield : 2 ^ base ∣ wrap w v <<< lo := by
      rw [Nat.shiftLeft_eq]
      exact Nat.dvd_mul_left_of_dvd (Nat.pow_dvd_pow 2 hbase) _
    have hrest' : 2 ^ base ∣ pack rest :=
      Nat.dvd_trans (Nat.pow_dvd_pow 2 (Nat.le_trans hbase (Nat.le_add_right _ _))) (ih hrest)
    exact Nat.dvd_add hfield hrest'

/-- Fields in order leave every bit from `top` on clear. -/
theorem pack_lt_two_pow {top base : Nat} {l : List (Nat × Nat × Nat)} (h : FieldsInOrder top base l) : pack l < 2 ^ top := by
  induction l generalizing base with
  | nil => exact Nat.two_pow_pos top
  | cons f rest ih =>
    obtain ⟨lo, w, v⟩ := f
    obtain ⟨-, hrest⟩ := h
    obtain ⟨q, hq⟩ := two_pow_dvd_pack hrest
    have hfield := wrap_shiftLeft_lt lo w v
    calc pack ((lo, w, v) :: rest) = 2 ^ (lo + w) * q + wrap w v <<< lo := by rw [pack, hq, Nat.add_comm]
      _ = pack rest ||| wrap w v <<< lo := by rw [Nat.two_pow_add_eq_or_of_lt hfield, hq]
      _ < 2 ^ top := Nat.or_lt_two_pow (ih hrest) (Nat.lt_of_lt_of_le hfield (Nat.pow_le_pow_right Nat.two_pos hrest.base_le_top))

/-- A field's own bits are not touched by what lies above it. -/
theorem bits_shiftLeft_add (lo w v q : Nat) : bits (wrap w v <<< lo + 2 ^ (lo + w) * q) lo w = wrap w v := by
  have hsplit : wrap w v <<< lo + 2 ^ (lo + w) * q = (wrap w v + 2 ^ w * q) * 2 ^ lo := by
    rw [Nat.shiftLeft_eq, Nat.pow_add, Nat.add_mul, Nat.mul_right_comm (2 ^ w), Nat.mul_comm (2 ^ w)]
  rw [bits, hsplit, Nat.shiftRight_eq_div_pow, Nat.mul_div_cancel _ (Nat.two_pow_pos lo), Nat.add_mul_mod_self_left]
  exact wrap_wrap w v

/-- A field's bits are not touched by what lies below it. -/
theorem bits_add_of_lt {a m lo : Nat} (w q : Nat) (ha : a < 2 ^ m) (hm : m ≤ lo) : bits (a + 2 ^ m * q) lo w = bits (2 ^ m * q) lo w := by
  obtain ⟨k, rfl⟩ := Nat.exists_eq_add_of_le hm
  have hpos := Nat.two_pow_pos m
  simp only [bits, Nat.shiftRight_eq_div_pow, Nat.pow_add, ← Nat.div_div_eq_div_mul]
  rw [Nat.add_mul_div_left _ _ hpos, Nat.div_eq_of_lt ha, Nat.zero_add, Nat.mul_div_cancel_left _ hpos]

/-- Every field of a word packed in order reads back, reduced to its width. -/
theorem bits_pack_of_mem {top base lo w v : Nat} {l : List (Nat × Nat × Nat)} (h : FieldsInOrder top base l) (hmem : (lo, w, v) ∈ l) :
    bits (pack l) lo w = wrap w v := by
  induction l generalizing base with
  | nil => cases hmem
  | cons f rest ih =>
    obtain ⟨lo₀, w₀, v₀⟩ := f
    obtain ⟨-, hrest⟩ := h
    obtain ⟨q, hq⟩ := two_pow_dvd_pack hrest
    have hword : pack ((lo₀, w₀, v₀) :: rest) = wrap w₀ v₀ <<< lo₀ + 2 ^ (lo₀ + w₀) * q := by rw [pack, hq]
    rw [hword]
    cases hmem with
    | head => exact bits_shiftLeft_add lo w v q
    | tail _ hmem =>
      rw [bits_add_of_lt w q (wrap_shiftLeft_lt lo₀ w₀ v₀) (hrest.base_le_of_mem hmem), ← hq]
      exact ih hrest hmem

@[simp] theorem wrap_zero (w : Nat) : wrap w 0 = 0 := Nat.zero_mod _

/-- One bit wide, a flag reads back as itself. -/
@[simp] theorem wrap_one_flag (b : Bool) : (wrap 1 (flag b) == 1) = b := by cases b <;> rfl

/-! ## The layer entry -/

/-- R295's table whole, the rows that are 0 among them. -/
def LayerEntry.rows (e : LayerEntry) (layer : Nat) : List (Nat × Nat × Nat) :=
  [(0, 16, layer), (16, 1, flag e.ovf), (17, 15, 0), (32, 31, e.dA), (63, 1, 0), (64, 31, e.dB), (95, 1, 0), (96, 32, e.nslot),
    (128, 40, e.nchunk), (168, 32, e.nmvslot), (200, 40, e.nmvchunk)]

theorem LayerEntry.word_eq_pack_rows (e : LayerEntry) (layer : Nat) : e.word layer = pack (e.rows layer) := by
  simp [LayerEntry.word, LayerEntry.rows, pack]

theorem LayerEntry.fieldsInOrder_rows (e : LayerEntry) (layer : Nat) : FieldsInOrder 240 0 (e.rows layer) := by
  simp [LayerEntry.rows, FieldsInOrder]

theorem LayerEntry.word_lt (e : LayerEntry) (layer : Nat) : e.word layer < 2 ^ 240 :=
  e.word_eq_pack_rows layer ▸ pack_lt_two_pow (e.fieldsInOrder_rows layer)

/-- Each row of R295's table reads back from the entry's word. -/
theorem LayerEntry.bits_word_of_mem_rows {e : LayerEntry} {layer lo w v : Nat} (hrow : (lo, w, v) ∈ e.rows layer) :
    bits (e.word layer) lo w = wrap w v :=
  e.word_eq_pack_rows layer ▸ bits_pack_of_mem (e.fieldsInOrder_rows layer) hrow

section Fields

variable (e : LayerEntry) (layer : Nat)

@[simp] theorem LayerEntry.word_layer : bits (e.word layer) 0 16 = wrap 16 layer := bits_word_of_mem_rows (by simp [rows])

@[simp] theorem LayerEntry.word_ovf : bit (e.word layer) 16 = e.ovf := by
  have hflag : bits (e.word layer) 16 1 = wrap 1 (flag e.ovf) := bits_word_of_mem_rows (by simp [rows])
  rw [bit, hflag, wrap_one_flag]

@[simp] theorem LayerEntry.word_dA : bits (e.word layer) 32 31 = wrap 31 e.dA := bits_word_of_mem_rows (by simp [rows])

@[simp] theorem LayerEntry.word_dB : bits (e.word layer) 64 31 = wrap 31 e.dB := bits_word_of_mem_rows (by simp [rows])

@[simp] theorem LayerEntry.word_nslot : bits (e.word layer) 96 32 = wrap 32 e.nslot := bits_word_of_mem_rows (by simp [rows])

@[simp] theorem LayerEntry.word_nchunk : bits (e.word layer) 128 40 = wrap 40 e.nchunk := bits_word_of_mem_rows (by simp [rows])

@[simp] theorem LayerEntry.word_nmvslot : bits (e.word layer) 168 32 = wrap 32 e.nmvslot := bits_word_of_mem_rows (by simp [rows])

@[simp] theorem LayerEntry.word_nmvchunk : bits (e.word layer) 200 40 = wrap 40 e.nmvchunk := bits_word_of_mem_rows (by simp [rows])

/-- The rows between the fields are clear (R295). -/
theorem LayerEntry.word_zeros : bits (e.word layer) 17 15 = 0 ∧ bits (e.word layer) 63 1 = 0 ∧ bits (e.word layer) 95 1 = 0 := by
  refine ⟨?_, ?_, ?_⟩ <;> exact (bits_word_of_mem_rows (v := 0) (by simp [rows])).trans (wrap_zero _)

end Fields

/-- An entry's word spells the entry with each count reduced to its width. -/
theorem LayerEntry.ofWord_word (e : LayerEntry) (layer : Nat) :
    LayerEntry.ofWord (e.word layer) =
      { dA := wrap 31 e.dA, dB := wrap 31 e.dB, nslot := wrap 32 e.nslot, nchunk := wrap 40 e.nchunk, nmvslot := wrap 32 e.nmvslot,
        nmvchunk := wrap 40 e.nmvchunk, ovf := e.ovf } := by
  simp [LayerEntry.ofWord]

/-- Settles O16: R295's rows lie in rising order below bit 240, so each reads back from the packed word. -/
theorem layerEntryLayout : Obligations.LayerEntryLayout := by
  unfold Obligations.LayerEntryLayout
  refine ⟨fun e layer => ?_, fun e layer hdA hdB hnslot hnchunk hnmvslot hnmvchunk => ?_⟩
  · obtain ⟨h17, h63, h95⟩ := e.word_zeros layer
    exact ⟨e.word_lt layer, e.word_layer layer, e.word_ovf layer, h17, e.word_dA layer, h63, e.word_dB layer, h95, e.word_nslot layer,
      e.word_nchunk layer, e.word_nmvslot layer, e.word_nmvchunk layer⟩
  · rw [LayerEntry.ofWord_word, wrap_of_lt hdA, wrap_of_lt hdB, wrap_of_lt hnslot, wrap_of_lt hnchunk, wrap_of_lt hnmvslot,
      wrap_of_lt hnmvchunk]

end Sys2Proof.Machine
end

section
/-! SUPPORT. A thermal step in its parts (R320–R323, R454): the estimate kept at the hub, then BAND and THR; and what each part leaves of the hub's thermal
registers. -/

namespace Sys2Proof.Machine

open Sys2Proof

/-! ## Register fields of one window -/

theorem RegUnit.code_lt (u : RegUnit) : u.code < 32 := by cases u <;> decide

/-- Two places of one window have keys of their own. -/
theorem key_ne_of_place_ne {f g : RegField} (i : Nat)
    (hplace : f.win = g.win ∧ f.lo < 1024 ∧ g.lo < 1024 ∧ (f.off, f.lo) ≠ (g.off, g.lo)) : f.key i ≠ g.key i := by
  obtain ⟨hwin, hf, hg, hne⟩ := hplace
  intro hkey
  have hfu := f.unit.code_lt
  have hgu := g.unit.code_lt
  unfold RegField.key at hkey
  rw [hwin] at hkey
  exact hne (Prod.ext (show f.off = g.off by omega) (show f.lo = g.lo by omega))

/-! ## The energy part of a hub -/

theorem hub_en_setHub {s : State} {r : Nat} {h : Hub} (hen : h.en = (s.hub r).en) (r' : Nat) : ((s.setHub r h).hub r').en = (s.hub r').en := by
  by_cases hr : r' = r
  · subst hr
    rw [hub_setHub_self, hen]
  · rw [hub_setHub_ne hr]

theorem hub_en_modHub {s : State} {r : Nat} {g : Hub → Hub} (hen : ∀ h, (g h).en = h.en) (r' : Nat) :
    ((s.modHub r g).hub r').en = (s.hub r').en := hub_en_setHub (hen _) r'

@[simp] theorem hub_set (s : State) (f : RegField) (i v r : Nat) : (s.set f i v).hub r = s.hub r := rfl

@[simp] theorem hub_raise (s : State) (f : RegField) (i r : Nat) : (s.raise f i).hub r = s.hub r := rfl

/-- A fault goes to the hub's FAULT part. -/
@[simp] theorem hub_en_hubQueue (s : State) (r r' : Nat) (m : FaultMsg) : ((s.hubQueue r m).hub r').en = (s.hub r').en := by
  have hkept (x : HubFlt) : ((s.setHub r { s.hub r with flt := x }).hub r').en = (s.hub r').en :=
    hub_en_modHub (g := fun h => { h with flt := x }) (fun _ => rfl) r'
  unfold State.hubQueue
  dsimp only
  split
  · split <;> exact hkept _
  · exact hkept _

@[simp] theorem hub_en_hubFault (s : State) (r src kind tenant addr r' : Nat) :
    ((s.hubFault r src kind tenant addr).hub r').en = (s.hub r').en := hub_en_hubQueue s r r' _

@[simp] theorem hub_en_limit (s : State) (r dir : Nat) (field event : RegField) (past : Bool) (r' : Nat) :
    ((s.limit r dir field event past).hub r').en = (s.hub r').en := by
  unfold State.limit
  dsimp only
  split
  · split
    · rfl
    · simp
  · split <;> rfl

theorem hub_en_foldl {α : Type} (l : List α) (f : State → α → State) (r : Nat) (hf : ∀ s a, ((f s a).hub r).en = (s.hub r).en) (s : State) :
    ((l.foldl f s).hub r).en = (s.hub r).en := by
  induction l generalizing s with
  | nil => rfl
  | cons a l ih => rw [List.foldl_cons, ih, hf]

/-! ## The two halves of a thermal step -/

/-- The estimate that a step takes, and the state whose free value it may have used. -/
def State.drawEstimate (s : State) (r energy : Nat) : Nat × State :=
  let x := s.nextEstimate r energy
  if x < -32768 ∨ 32767 < x then s.fresh 16 else (unsigned 16 x, s)

/-- The state with the estimate kept and the neighbours' estimates aged; a neighbour left out raises NBMISS and exceeds no limit (R321, R455). -/
def State.keepEstimate (s : State) (r t : Nat) : State :=
  let s := s.modEn r (fun n => { n with est := some t })
  let s := s.modPw r (fun p => { p with tnb := age p.tnb })
  let gone := s.missing r (s.hub r).pw.tnb
  let s := if gone = [] then s else s.raise Reg.RH_EN_EVENT_NBMISS r
  gone.foldl (fun s d => s.limit r d Reg.RH_PW_STATUS_TEXC Reg.RH_PW_EVENT_TEXC false) s

/-- The state with THR and the band set from an estimate (R322, R323). -/
def State.setHeat (s : State) (r t : Nat) : State :=
  let old := s.get Reg.RH_TH_STATUS_BAND r
  let new := nextBand old (signed 16 t) (s.get Reg.RH_TH_CTRL_HYST r)
  let thr := nextThr new (signed 16 t) (s.get Reg.RH_TH_CTRL_TTHR r) (s.get Reg.RH_TH_CTRL_GAIN r) (s.get Reg.RH_TH_STATUS_THR r)
  (s.set Reg.RH_TH_STATUS_THR r thr).bandChange r old new

theorem execThermalStep_eq (r energy : Nat) (s : State) : execThermalStep r energy s =
    let d := s.drawEstimate r energy
    let u := (d.2.keepEstimate r d.1).setHeat r d.1
    .next (u.sendAll ((u.neighbours r).map (fun n => msgThNb r n d.1))) := rfl

@[simp] theorem get_drawEstimate (s : State) (r energy : Nat) (f : RegField) (i : Nat) : (s.drawEstimate r energy).2.get f i = s.get f i := by
  unfold State.drawEstimate
  dsimp only
  split <;> rfl

/-! ## The estimate is kept -/

@[simp] theorem est_keepEstimate (s : State) (r t : Nat) : ((s.keepEstimate r t).hub r).en.est = some t := by
  unfold State.keepEstimate
  dsimp only
  rw [hub_en_foldl _ _ _ (fun s d => hub_en_limit s r d _ _ false r)]
  split <;> simp [State.modPw, State.modEn]

/-- Of the hub's energy and thermal registers only the event NBMISS may change. -/
theorem get_keepEstimate (s : State) (r t : Nat) {f : RegField} (hunit : f.unit = .hubEn) (hkey : f.key r ≠ Reg.RH_EN_EVENT_NBMISS.key r) :
    (s.keepEstimate r t).get f r = s.get f r := by
  have hlimits (u : State) (l : List Nat) :
      (l.foldl (fun s d => s.limit r d Reg.RH_PW_STATUS_TEXC Reg.RH_PW_EVENT_TEXC false) u).get f r = u.get f r :=
    get_of_blank (F := { hubs := true, regs := [.hubFlt, .hubPw] })
      (foldl_blank _ _ _ (fun s d => limit_blank s r d _ _ false rfl rfl rfl rfl)) (by rw [hunit]; rfl) r
  unfold State.keepEstimate
  dsimp only
  rw [hlimits]
  split
  · rfl
  · exact get_raise_ne hkey _

/-! ## A new band -/

/-- The hub's own part of a band change: BAND, the watchdog's pause and the report of B4 (R322, R325). -/
def State.noteBand (s : State) (r old new : Nat) : State :=
  let s := s.set Reg.RH_TH_STATUS_BAND r new
  let s := if old = 4 ∨ new = 4 then s.modHub r (fun h => { h with wd := { h.wd with paused := true } }) else s
  if new = 4 then (s.hubFault r (hubSrc r) 0x401 0 old).raise Reg.RH_EN_EVENT_B4 r else s

/-- The rest of a band change is at the probes, on the Flue and at the boundary stages. -/
theorem bandChange_unchanged_noteBand (s : State) (r : Nat) {old new : Nat} (hne : old ≠ new) :
    Unchanged { regs := [.probe, .hubPw], probes := true, flue := true, pulses := true, freeCtr := true } (s.noteBand r old new)
      (s.bandChange r old new) := by
  unfold State.bandChange
  rw [if_neg hne]
  refine (syncStages_blank _ r rfl).trans ?_
  have hprobes (u : State) := foldl_blank (F := { regs := [.probe, .hubPw], probes := true, flue := true, pulses := true, freeCtr := true })
    (List.range 1056) (fun s t => s.bandInput r t new) u (fun s t => bandInput_blank s r t new rfl rfl rfl rfl rfl)
  dsimp only
  split
  · exact (sendAll_blank _ _ rfl).trans (hprobes (s.noteBand r old new))
  · exact hprobes (s.noteBand r old new)

@[simp] theorem hub_en_noteBand (s : State) (r old new : Nat) : ((s.noteBand r old new).hub r).en = (s.hub r).en := by
  unfold State.noteBand
  dsimp only
  split <;> split <;> simp

/-- Of the hub's energy and thermal registers only BAND and the event B4 may change. -/
theorem get_noteBand (s : State) (r old new : Nat) {f : RegField} (hunit : f.unit = .hubEn) (hb4 : f.key r ≠ Reg.RH_EN_EVENT_B4.key r) :
    (s.noteBand r old new).get f r = (s.set Reg.RH_TH_STATUS_BAND r new).get f r := by
  have hfault (u : State) : (u.hubFault r (hubSrc r) 0x401 0 old).get f r = u.get f r :=
    get_of_blank (F := { hubs := true, regs := [.hubFlt] }) (hubFault_blank u r _ _ _ _ rfl rfl) (by rw [hunit]; rfl) r
  unfold State.noteBand
  dsimp only
  split <;> split <;> simp [get_raise_ne hb4, hfault]

@[simp] theorem hub_en_bandChange (s : State) (r old new : Nat) : ((s.bandChange r old new).hub r).en = (s.hub r).en := by
  by_cases hband : old = new
  · simp [State.bandChange, hband]
  · rw [hub_congr (hubs_of_blank (bandChange_unchanged_noteBand s r hband) rfl), hub_en_noteBand]

theorem get_bandChange (s : State) (r : Nat) {old new : Nat} (hne : old ≠ new) {f : RegField} (hunit : f.unit = .hubEn)
    (hb4 : f.key r ≠ Reg.RH_EN_EVENT_B4.key r) : (s.bandChange r old new).get f r = (s.set Reg.RH_TH_STATUS_BAND r new).get f r := by
  rw [get_of_blank (bandChange_unchanged_noteBand s r hne) (by rw [hunit]; rfl), get_noteBand s r old new hunit hb4]

/-- BAND is the new band, also where that is the old one. -/
theorem get_band_bandChange {s : State} {r old new : Nat} (hold : s.get Reg.RH_TH_STATUS_BAND r = old) (hnew : new < 8) :
    (s.bandChange r old new).get Reg.RH_TH_STATUS_BAND r = new := by
  by_cases hband : old = new
  · simp [State.bandChange, hband, hold]
  · rw [get_bandChange s r hband (f := Reg.RH_TH_STATUS_BAND) rfl (key_ne_of_place_ne r (by decide)), get_set_self]
    exact wrap_of_lt hnew

@[simp] theorem get_thr_bandChange (s : State) (r old new : Nat) :
    (s.bandChange r old new).get Reg.RH_TH_STATUS_THR r = s.get Reg.RH_TH_STATUS_THR r := by
  by_cases hband : old = new
  · simp [State.bandChange, hband]
  · rw [get_bandChange s r hband (f := Reg.RH_TH_STATUS_THR) rfl (key_ne_of_place_ne r (by decide)),
      get_set_ne (key_ne_of_place_ne r (by decide))]

/-! ## The next band and the next THR -/

theorem bandReached_le (t : Int) : bandReached t ≤ 4 := by
  have hmax (l : List Nat) (m : Nat) (hm : m ≤ 4) (hl : ∀ b ∈ l, b ≤ 4) : l.foldl max m ≤ 4 := by
    induction l generalizing m with
    | nil => exact hm
    | cons b l ih =>
      obtain ⟨hb, hl⟩ := List.forall_mem_cons.mp hl
      exact ih _ (Nat.max_le.mpr ⟨hm, hb⟩) hl
  refine hmax _ 0 (Nat.zero_le 4) (fun b hb => ?_)
  have := List.mem_range.mp (List.mem_filter.mp hb).1
  omega

theorem nextBand_lt {band : Nat} (hband : band < 8) (t : Int) (hyst : Nat) : nextBand band t hyst < 8 := by
  have := bandReached_le t
  unfold nextBand
  dsimp only
  split
  · omega
  · split <;> omega

/-- R323's target: the degrees above TTHR times GAIN, rounded down and held within 0 and 15. -/
def thrTarget (t : Int) (tthr gain : Nat) : Int := max 0 (min 15 (Int.fdiv ((t - 64 * (tthr : Int)) * (gain : Int)) 1024))

theorem thrTarget_toNat_le (t : Int) (tthr gain : Nat) : (thrTarget t tthr gain).toNat ≤ 15 := by
  unfold thrTarget
  omega

theorem nextThr_eq (band : Nat) (t : Int) (tthr gain thr : Nat) : nextThr band t tthr gain thr =
    if band = 4 then 15 else if thr ≤ (thrTarget t tthr gain).toNat then (thrTarget t tthr gain).toNat else thr - 1 := by
  unfold nextThr thrTarget
  rw [Int.fdiv_eq_ediv_of_nonneg _ (by decide)]

theorem nextThr_lt {thr : Nat} (hthr : thr < 16) (band : Nat) (t : Int) (tthr gain : Nat) : nextThr band t tthr gain thr < 16 := by
  have := thrTarget_toNat_le t tthr gain
  rw [nextThr_eq]
  split
  · decide
  · split <;> omega

/-! ## THR after a step -/

@[simp] theorem hub_en_setHeat (s : State) (r t : Nat) : ((s.setHeat r t).hub r).en = (s.hub r).en := by
  simp [State.setHeat]

/-- THR follows the band that is set with it. -/
theorem get_thr_setHeat {s : State} {r : Nat} (t : Nat) (hband : s.get Reg.RH_TH_STATUS_BAND r < 8) (hthr : s.get Reg.RH_TH_STATUS_THR r < 16) :
    (s.setHeat r t).get Reg.RH_TH_STATUS_THR r = nextThr ((s.setHeat r t).get Reg.RH_TH_STATUS_BAND r) (signed 16 t)
      (s.get Reg.RH_TH_CTRL_TTHR r) (s.get Reg.RH_TH_CTRL_GAIN r) (s.get Reg.RH_TH_STATUS_THR r) := by
  have hkept (v : Nat) : (s.set Reg.RH_TH_STATUS_THR r v).get Reg.RH_TH_STATUS_BAND r = s.get Reg.RH_TH_STATUS_BAND r :=
    get_set_ne (key_ne_of_place_ne r (by decide)) s v
  unfold State.setHeat
  dsimp only
  rw [get_band_bandChange (hkept _) (nextBand_lt hband _ _), get_thr_bandChange, get_set_self]
  exact wrap_of_lt (nextThr_lt hthr _ _ _ _)

/-- Settles O17: neither the estimate's record nor the band's spread touches what THR is computed from, and BAND is left as THR took it. -/
theorem throttleAfterAStep : Obligations.ThrottleAfterAStep := by
  unfold Obligations.ThrottleAfterAStep
  refine ⟨rfl, rfl, by decide, by decide, fun region energy s hband hthr => ?_⟩
  let d := s.drawEstimate region energy
  have hkept {f : RegField} (hunit : f.unit = .hubEn) (hkey : f.key region ≠ Reg.RH_EN_EVENT_NBMISS.key region) :
      (d.2.keepEstimate region d.1).get f region = s.get f region := by
    rw [get_keepEstimate d.2 region d.1 hunit hkey, get_drawEstimate]
  have hb := hkept (f := Reg.RH_TH_STATUS_BAND) rfl (key_ne_of_place_ne region (by decide))
  have ht := hkept (f := Reg.RH_TH_STATUS_THR) rfl (key_ne_of_place_ne region (by decide))
  have hc := hkept (f := Reg.RH_TH_CTRL_TTHR) rfl (key_ne_of_place_ne region (by decide))
  have hg := hkept (f := Reg.RH_TH_CTRL_GAIN) rfl (key_ne_of_place_ne region (by decide))
  refine ⟨_, d.1, execThermalStep_eq region energy s, ?_, ?_⟩
  · rw [hub_congr (sendAll_hubs _ _), hub_en_setHeat, est_keepEstimate]
  · simp only [get_sendAll]
    rw [get_thr_setHeat d.1 (hb ▸ hband) (ht ▸ hthr), nextThr_eq, hc, hg, ht]
    rfl

end Sys2Proof.Machine
end

section
/-! SUPPORT. What a message's flits and Source IDs hold (R6, R21, R196), and suppressed messages at a hub (R394, R395, R409): their count, the report of a
refill, and LG_SUPP. -/

namespace Sys2Proof.Machine

open Sys2Proof

/-! ## Fields of flits, headers and Source IDs -/

/-- A word does not depend on the order its fields are listed in. -/
theorem pack_perm {l l' : List (Nat × Nat × Nat)} (h : l.Perm l') : pack l = pack l' := by
  induction h with
  | nil => rfl
  | cons f _ ih => rw [pack, pack, ih]
  | swap f g l => simp only [pack, Nat.add_left_comm]
  | trans _ _ ih ih' => exact ih.trans ih'

/-- `bits_pack_of_mem` for fields listed from the highest down, as headers and Source IDs list theirs. -/
theorem bits_pack_of_mem_reverse {top base lo w v : Nat} {l : List (Nat × Nat × Nat)} (h : FieldsInOrder top base l.reverse)
    (hmem : (lo, w, v) ∈ l) : bits (pack l) lo w = wrap w v :=
  pack_perm (List.reverse_perm l) ▸ bits_pack_of_mem h (List.mem_reverse.mpr hmem)

/-- A flit loses nothing of a word that fits in it. -/
theorem toNat_flit_of_lt {l : List (Nat × Nat × Nat)} (h : pack l < 2 ^ 128) : (flit l).toNat = pack l :=
  (BitVec.toNat_ofNat _ _).trans (Nat.mod_eq_of_lt h)

/-- LEN of a header (R21). -/
theorem Msg.bits_header_len (m : Msg) : bits m.header.toNat 37 3 = wrap 3 m.payload.length := by
  have horder : FieldsInOrder 128 0 [(96, 32, m.dest), (64, 32, m.src), (48, 16, m.tag), (40, 8, m.op), (37, 3, m.payload.length),
      (25, 12, m.tenant), (0, 25, m.arg)].reverse := by simp [FieldsInOrder]
  have hfits := pack_perm (List.reverse_perm _) ▸ pack_lt_two_pow horder
  rw [Msg.header, toNat_flit_of_lt hfits]
  exact bits_pack_of_mem_reverse horder (by simp)

@[simp] theorem srcRegion_sourceId (region tile unit inst : Nat) : srcRegion (sourceId region tile unit inst) = wrap 11 region :=
  bits_pack_of_mem_reverse (top := 32) (base := 0) (by simp [FieldsInOrder]) (by simp)

/-- Units of the Kiln are in the Kiln's region (R196). -/
theorem srcRegion_kilnSrc (unit inst : Nat) : srcRegion (kilnSrc unit inst) = 0x7FF :=
  srcRegion_sourceId kilnRegion noTile unit inst

/-! ## LG_SUPP -/

/-- The fields of R409's flit. -/
def lgSuppFields (kind count src gt : Nat) : List (Nat × Nat × Nat) := [(0, 12, kind), (12, 32, count), (44, 32, src), (76, 32, gt)]

theorem payload_msgLgSupp (r kind count src gt : Nat) : (msgLgSupp r kind count src gt).payload = [flit (lgSuppFields kind count src gt)] := rfl

theorem pack_lgSuppFields_lt (kind count src gt : Nat) : pack (lgSuppFields kind count src gt) < 2 ^ 108 :=
  pack_lt_two_pow (base := 0) (by simp [lgSuppFields, FieldsInOrder])

theorem toNat_flit_lgSuppFields (kind count src gt : Nat) : (flit (lgSuppFields kind count src gt)).toNat = pack (lgSuppFields kind count src gt) :=
  toNat_flit_of_lt (Nat.lt_trans (pack_lgSuppFields_lt kind count src gt) (by decide))

/-- Each of R409's fields reads back from the flit. -/
theorem bits_flit_of_mem_lgSuppFields {kind count src gt lo w v : Nat} (hmem : (lo, w, v) ∈ lgSuppFields kind count src gt) :
    bits (flit (lgSuppFields kind count src gt)).toNat lo w = wrap w v :=
  toNat_flit_lgSuppFields kind count src gt ▸
    bits_pack_of_mem (top := 108) (base := 0) (by simp [lgSuppFields, FieldsInOrder]) hmem

/-! ## Suppressed messages at a hub -/

/-- An entry once one more message of its kind is suppressed: SRC is the last one's, GT stays the first one's (R394). -/
def TokenEntry.suppress (e : TokenEntry) (src gt : Nat) : TokenEntry :=
  { e with supp := e.supp + 1, src := src, gt := if e.supp = 0 then gt else e.gt }

/-- The entry found for a kind is of that kind. -/
theorem TokenEntry.kind_of_find {l : List TokenEntry} {kind : Nat} {e : TokenEntry} (hfind : l.find? (fun e => e.kind == kind) = some e) :
    e.kind = kind := by
  simpa using List.find?_some hfind

/-- Without a token left, asking for one counts a suppressed message in the kind's entry. -/
theorem HubLg.entries_ask_of_no_token {l : HubLg} {kind : Nat} {e : TokenEntry} (hfind : l.entries.find? (fun e => e.kind == kind) = some e)
    (htokens : e.tokens = 0) (burst src gt : Nat) :
    (l.ask burst kind src gt).1.entries = l.entries.map (fun x => if x.kind = kind then e.suppress src gt else x) := by
  simp [HubLg.ask, hfind, htokens, TokenEntry.suppress]

theorem HubLg.suppress_mem_ask {l : HubLg} {kind : Nat} {e : TokenEntry} (hfind : l.entries.find? (fun e => e.kind == kind) = some e)
    (htokens : e.tokens = 0) (burst src gt : Nat) : e.suppress src gt ∈ (l.ask burst kind src gt).1.entries := by
  rw [entries_ask_of_no_token hfind htokens]
  exact List.mem_map.mpr ⟨e, List.mem_of_find?_eq_some hfind, if_pos (TokenEntry.kind_of_find hfind)⟩

/-- A refill reports every entry with suppressed messages (R395). -/
theorem HubLg.report_mem_refill {l : HubLg} {e : TokenEntry} (he : e ∈ l.entries) (hsupp : 0 < e.supp) (burst : Nat) :
    (e.kind, e.supp, e.src, e.gt) ∈ (l.refill burst).2 :=
  List.mem_map.mpr ⟨e, List.mem_filter.mpr ⟨List.mem_append_left _ he, decide_eq_true hsupp⟩, rfl⟩

theorem mem_flue_sendAll {m : Msg} {l : List Msg} (s : State) (h : m ∈ l) : m ∈ (s.sendAll l).flue := List.mem_append_right _ h

/-- A refill sends LG_SUPP for each report. -/
theorem exec_ledgerRefill (region : Nat) (s : State) : exec (.ledgerRefill region) s =
    .next ((s.setHub region { s.hub region with lg := ((s.hub region).lg.refill (s.burst region)).1 }).sendAll
      (((s.hub region).lg.refill (s.burst region)).2.map (fun e => msgLgSupp region e.1 e.2.1 e.2.2.1 e.2.2.2))) := rfl

/-- Settles O18: R409's fields lie in rising order below bit 108, and an entry's kind, count, SRC and GT go from the last suppressed message to the report
of the next refill. -/
theorem suppressionReport : Obligations.SuppressionReport := by
  unfold Obligations.SuppressionReport
  refine ⟨fun r kind count src gt => ?_, by decide, fun l burst kind src gt e hfind htokens => ?_, fun region e s he hsupp => ?_⟩
  · have hlen : bits (msgLgSupp r kind count src gt).header.toNat 37 3 = 1 := Msg.bits_header_len _
    have hfield {lo w v : Nat} (hmem : (lo, w, v) ∈ lgSuppFields kind count src gt) := bits_flit_of_mem_lgSuppFields hmem
    have hbelow := toNat_flit_lgSuppFields kind count src gt ▸ pack_lgSuppFields_lt kind count src gt
    exact ⟨rfl, rfl, srcRegion_kilnSrc 0x1F 0, rfl, hlen, _, payload_msgLgSupp r kind count src gt, hfield (by simp [lgSuppFields]),
      hfield (by simp [lgSuppFields]), hfield (by simp [lgSuppFields]), hfield (by simp [lgSuppFields]), hbelow⟩
  · exact ⟨e.suppress src gt, HubLg.suppress_mem_ask hfind htokens burst src gt, TokenEntry.kind_of_find (e := e) hfind, rfl, rfl, rfl⟩
  · have hreport := HubLg.report_mem_refill he hsupp (s.burst region)
    exact ⟨_, exec_ledgerRefill region s, mem_flue_sendAll _ (List.mem_map.mpr ⟨_, hreport, rfl⟩)⟩

end Sys2Proof.Machine
end

section
/-! SUPPORT. The frame of the dispatcher: every command's own frame law with the parts that `mayChange` gives it, and the parts that stay whichever command runs. -/

namespace Sys2Proof.Machine

open Sys2Proof

theorem has_of_all_units {F : Fields} (h : F.regs = RegUnit.list) (u : RegUnit) : F.has u = true := by
  rw [Fields.has, h]
  cases u <;> rfl

/-- Each command answers states that agree with the one it ran in outside the parts that `mayChange` names for it. -/
theorem exec_keeps (c : Instr) (s : State) : Keeps (mayChange c) s (exec c s) := by
  cases c with
  | timeRound => exact execTimeRound_blank _ rfl rfl rfl
  | time => exact execTime_blank _ _ _ _ _ rfl rfl rfl rfl rfl
  | flueNak => exact execFlueNak_blank _ _ _ rfl rfl rfl rfl rfl rfl rfl rfl rfl rfl rfl rfl rfl rfl rfl rfl rfl rfl rfl rfl rfl rfl rfl rfl rfl rfl rfl rfl rfl
  | flueRetrainDone => exact execFlueRetrainDone_blank _ _ _ _ rfl rfl rfl rfl rfl rfl rfl rfl rfl rfl rfl rfl rfl rfl rfl rfl rfl rfl rfl rfl rfl rfl rfl rfl rfl rfl rfl rfl
  | flueReservedOpcode => exact execFlueReservedOpcode_blank _ _ _ _ _ _ _ _ _ rfl rfl rfl rfl rfl rfl
  | cmdAccept => exact execCmdAccept_blank _ _ _ _ _ rfl rfl rfl
  | rotationDrawDone => exact execRotationDrawDone_blank _ _ _ _ rfl rfl
  | operandBeat => exact execOperandBeat_blank _ _ _ _ _ _ _ _ _ rfl rfl rfl
  | tapReadBeat => exact execTapReadBeat_blank _ _ _ _ _ _ _ _ rfl rfl
  | egressBeat => exact execEgressBeat_blank _ _ _ _ _ _ _ _ rfl rfl rfl
  | releaseTagOut => exact execReleaseTagOut_blank _ _ _ rfl rfl
  | gateDecision => exact execGateDecision_blank _ _ _ _ rfl rfl rfl rfl rfl rfl
  | slotDrain => exact execSlotDrain_blank _ _ _ _ rfl rfl rfl
  | meshBlock => exact execMeshBlock_blank _ _ _ _ _ _ _ _ _ _ _ _ _ rfl rfl rfl rfl
  | sramEccEvent => exact execSramEccEvent_blank _ _ _ _ _ rfl rfl
  | fenceReq => exact execFenceReq_blank _ _ _ _ _ rfl rfl rfl rfl
  | retryTimeout => exact execRetryTimeout_blank _ _ _ rfl rfl
  | faultFlitDepart => exact execFaultFlitDepart_blank _ _ _ rfl rfl rfl rfl
  | probeGate => exact execProbeGate_blank _ _ _ rfl rfl
  | probeWake => exact execProbeWake_blank _ _ _ rfl
  | xownAck => exact execXownAck_blank _ _ _ _ rfl rfl rfl rfl
  | moveXownTimeout => exact execMoveXownTimeout_blank _ _ _ rfl
  | copyUnitArrive => exact execCopyUnitArrive_blank _ _ _ _ _ rfl rfl
  | moveComplete => exact execMoveComplete_blank _ _ _ rfl rfl
  | icmdAccept => exact execIcmdAccept_blank _ _ _ rfl rfl
  | cshkAck => exact execCshkAck_blank _ _ _ rfl rfl rfl
  | cshkTimeout => exact execCshkTimeout_blank _ _ _ rfl rfl rfl rfl rfl
  | mwSettleDone => exact execMwSettleDone_blank _ _ _ rfl rfl rfl rfl
  | stopLeafRise => exact execStopLeafRise_blank _ _ _ rfl rfl rfl rfl rfl rfl rfl
  | stopLeafFall => exact execStopLeafFall_blank _ _ _ rfl rfl rfl rfl rfl rfl rfl rfl
  | bandInputChange => exact execBandInputChange_blank _ _ _ _ rfl rfl rfl rfl rfl
  | rdReq => exact execRdReq_blank _ _ _ _ _ _ _ _ _ _ _ _ rfl rfl rfl
  | rdCopy => exact execRdCopy_blank _ _ _ _ _ _ _ rfl rfl rfl
  | rdOrder => exact execRdOrder_blank _ _ _ _ _ _ _ _ _ _ _ _ rfl rfl rfl rfl
  | readerSignatureClose => exact execReaderSignatureClose_blank _ _ _ rfl rfl rfl rfl
  | rdReport => exact execRdReport_blank _ _ _ _ _ _ _ rfl rfl rfl rfl rfl rfl rfl rfl rfl rfl
  | rdAgree => exact execRdAgree_blank _ _ _ _ _ _ rfl rfl rfl rfl rfl rfl rfl rfl
  | rdDiscard => exact execRdDiscard_blank _ _ _ _ _ _ _ rfl rfl rfl rfl rfl rfl rfl
  | rdAbort => exact execRdAbort_blank _ _ _ _ rfl rfl rfl rfl rfl
  | rdData => exact execRdData_blank _ _ _ _ _ _ _ rfl rfl rfl rfl rfl
  | padDeadline => exact execPadDeadline_blank _ _ _ _ rfl rfl rfl rfl rfl rfl
  | readingSettleTimeout => exact execReadingSettleTimeout_blank _ _ _ rfl rfl rfl rfl rfl rfl rfl rfl
  | iftQuotaTimeout => exact execIftQuotaTimeout_blank _ _ _ rfl rfl rfl
  | iftStart => exact execIftStart_blank _ _ _ _ _ rfl rfl rfl rfl rfl rfl
  | iftGet => exact execIftGet_blank _ _ _ _ rfl
  | iftPat => exact execIftPat_blank _ _ _ _ _ _ _ _ _ _ _ _ _ rfl rfl rfl rfl rfl
  | segmentClose => exact execSegmentClose_blank _ _ _ rfl rfl rfl rfl rfl
  | segmentTimeout => exact execSegmentTimeout_blank _ _ _ rfl rfl rfl rfl rfl
  | iftResult => exact execIftResult_blank _ _ _ _ _ _ _ _ _ _ rfl rfl rfl rfl rfl rfl rfl rfl rfl rfl rfl
  | mwResult => exact execMwResult_blank _ _ _ _ _ _ _ _ rfl rfl rfl rfl rfl rfl rfl rfl rfl rfl rfl
  | iftStop => exact execIftStop_blank _ _ _ _ _ rfl rfl rfl rfl
  | iftStopped => exact execIftStopped_blank _ _ _ rfl rfl rfl rfl rfl rfl
  | expReport => exact execExpReport_blank _ _ _ _ _ _ _ _ _ _ _ _ rfl rfl rfl rfl rfl rfl rfl rfl rfl rfl
  | iftOverdue => exact execIftOverdue_blank _ _ _ _ rfl rfl rfl
  | catReqAssign => exact execCatReqAssign_blank _ _ _ _ _ _ _ rfl rfl rfl rfl rfl rfl rfl rfl rfl rfl rfl rfl rfl rfl rfl rfl rfl rfl
  | catReqUnassign => exact execCatReqUnassign_blank _ _ _ _ _ _ _ rfl rfl rfl rfl rfl rfl rfl rfl rfl rfl rfl rfl rfl rfl rfl rfl rfl rfl
  | catReqRestore => exact execCatReqRestore_blank _ _ _ _ _ rfl rfl rfl rfl rfl rfl rfl rfl rfl rfl rfl rfl rfl rfl rfl rfl rfl rfl
  | catReqQuench => exact execCatReqQuench_blank _ _ _ _ _ rfl rfl rfl rfl rfl rfl rfl rfl rfl rfl rfl rfl rfl rfl rfl rfl rfl rfl
  | gapStepDue => exact execGapStepDue_blank _ _ _ rfl rfl rfl
  | catHold => exact execCatHold_blank _ _ _ _ _ rfl rfl rfl
  | catIdle => exact execCatIdle_blank _ _ _ rfl rfl rfl rfl rfl rfl
  | catIdleTimeout => exact execCatIdleTimeout_blank _ _ _ rfl rfl rfl rfl rfl rfl rfl rfl
  | catRole => exact execCatRole_blank _ _ _ _ _ _ _ _ _ _ _ _ _ _ rfl rfl rfl rfl rfl
  | catCtx => exact execCatCtx_blank _ _ _ _ _ _ _ _ rfl rfl rfl
  | catMoved => exact execCatMoved_blank _ _ _ _ _ _ _ _ rfl rfl rfl rfl rfl rfl rfl rfl rfl
  | catReport => exact execCatReport_blank _ _ _ _ _ _ _ _ _ rfl rfl rfl rfl rfl rfl rfl rfl rfl rfl rfl rfl rfl rfl rfl rfl
  | catBounce => exact execCatBounce_blank _ _ _ _ _ _ _ rfl rfl rfl rfl rfl rfl rfl rfl rfl rfl rfl
  | flPropose => exact execFlPropose_blank _ _ _ _ _ _ _ rfl rfl rfl rfl rfl rfl rfl rfl rfl rfl rfl rfl rfl rfl rfl rfl rfl
  | flAccept => exact execFlAccept_blank _ _ _ _ _ rfl rfl
  | proposeRetry => exact execProposeRetry_blank _ _ _ rfl rfl
  | folioPrepare => exact execFolioPrepare_blank _ _ rfl rfl rfl rfl rfl rfl rfl rfl rfl rfl rfl rfl rfl rfl rfl rfl rfl rfl rfl rfl rfl
  | flPrep => exact execFlPrep_blank _ _ _ _ _ _ _ _ _ _ rfl rfl rfl rfl rfl rfl rfl rfl rfl rfl rfl rfl rfl rfl rfl rfl rfl rfl rfl rfl (has_of_all_units rfl)
  | flVote => exact execFlVote_blank _ _ _ _ _ rfl rfl rfl rfl rfl rfl rfl rfl rfl rfl rfl rfl rfl rfl rfl rfl rfl rfl rfl
  | folioPrepareTimeout => exact execFolioPrepareTimeout_blank _ _ rfl rfl rfl rfl rfl rfl rfl rfl rfl rfl rfl rfl rfl rfl rfl rfl rfl rfl rfl rfl
  | flSeal => exact execFlSeal_blank _ _ _ _ _ rfl rfl rfl rfl rfl rfl rfl rfl
  | flVoid => exact execFlVoid_blank _ _ _ _ rfl rfl rfl rfl rfl rfl rfl rfl rfl rfl rfl rfl
  | folioApply => exact execFolioApply_blank _ _ _ rfl rfl rfl rfl rfl rfl rfl rfl rfl rfl rfl rfl rfl rfl rfl rfl rfl rfl rfl rfl (has_of_all_units rfl)
  | flDone => exact execFlDone_blank _ _ _ _ _ _ _ rfl rfl rfl rfl rfl rfl rfl rfl rfl rfl rfl rfl rfl rfl rfl rfl rfl
  | folioDoneTimeout => exact execFolioDoneTimeout_blank _ _ rfl rfl rfl rfl rfl rfl rfl rfl rfl rfl rfl rfl rfl rfl rfl rfl rfl rfl
  | flSync => exact execFlSync_blank _ _ _ rfl rfl rfl rfl rfl rfl rfl rfl rfl rfl rfl rfl rfl rfl
  | flSyncack => exact execFlSyncack_blank _ _ _ _ rfl
  | flTdrop => exact execFlTdrop_blank _ _ _ _ _ _ rfl rfl rfl rfl rfl rfl rfl rfl rfl rfl rfl
  | folioTreq => exact execFolioTreq_blank _ _ _ _ rfl rfl rfl rfl rfl rfl rfl rfl rfl rfl rfl rfl rfl rfl rfl rfl rfl rfl rfl
  | rfiMessage => exact execRfiMessage_blank _ _ _ _ rfl rfl
  | faultClassify => exact execFaultClassify_blank _ _ rfl rfl rfl rfl rfl rfl rfl rfl rfl rfl rfl
  | bucketLeak => exact execBucketLeak_blank _ _ _ _ rfl rfl
  | faultRegister => exact execFaultRegister_blank _ rfl rfl rfl rfl rfl rfl rfl rfl rfl rfl rfl rfl rfl rfl rfl rfl rfl rfl rfl rfl rfl rfl rfl rfl rfl rfl rfl rfl
  | fltCount => exact execFltCount_blank _ _ _ _ _ _ _ rfl rfl rfl rfl rfl rfl rfl rfl rfl rfl
  | fltAckhub => exact execFltAckhub_blank _ _ _ rfl
  | fltPhase => exact execFltPhase_blank _ _ _ rfl
  | fltPhaseWrite => exact execFltPhaseWrite_blank _ _ _ _ rfl rfl rfl rfl rfl
  | fltFence => exact execFltFence_blank _ _ _ _ _ rfl rfl rfl rfl rfl rfl rfl rfl
  | fltAck => exact execFltAck_blank _ _ _ _ rfl rfl rfl rfl rfl rfl rfl rfl rfl rfl rfl rfl rfl rfl rfl rfl rfl
  | fltNtailWrite => exact execFltNtailWrite_blank _ _ _ _ rfl rfl rfl rfl rfl rfl rfl rfl rfl rfl rfl rfl rfl rfl rfl rfl rfl
  | l2QueueTimeout => exact execL2QueueTimeout_blank _ _ rfl rfl rfl rfl rfl rfl rfl rfl rfl rfl rfl rfl rfl rfl rfl rfl
  | l3HoldExpiry => exact execL3HoldExpiry_blank _ rfl rfl rfl rfl
  | watchdogTick => exact execWatchdogTick_blank _ _ _ rfl rfl
  | wdStat => exact execWdStat_blank _ _ _ _ _ _ _ _ rfl rfl rfl rfl rfl rfl rfl rfl rfl rfl rfl rfl rfl rfl rfl rfl rfl rfl rfl
  | watchdogEvaluate => exact execWatchdogEvaluate_blank _ _ rfl rfl rfl rfl
  | wdSet => exact execWdSet_blank _ _ _ _ rfl rfl
  | caseCollectTimeout => exact execCaseCollectTimeout_blank _ rfl rfl rfl rfl rfl rfl rfl rfl rfl rfl rfl rfl rfl rfl rfl rfl
  | rcvOrder => exact execRcvOrder_blank _ _ _ _ _ _ rfl rfl
  | wdDrop => exact execWdDrop_blank _ _ _ _ _ _ _ rfl rfl rfl rfl rfl rfl rfl rfl rfl rfl rfl
  | resetInstant => exact execResetInstant_blank _ _ rfl rfl rfl rfl rfl rfl rfl rfl rfl rfl rfl rfl rfl rfl rfl rfl
  | resetHoldEnd => exact execResetHoldEnd_blank _ _ rfl rfl rfl rfl rfl
  | wdCheck => exact execWdCheck_blank _ _ _ _ rfl rfl rfl
  | rcvDone => exact execRcvDone_blank _ _ _ _ _ rfl rfl rfl rfl rfl rfl rfl rfl rfl rfl rfl rfl rfl rfl rfl rfl rfl rfl
  | rcvDoneTimeout => exact execRcvDoneTimeout_blank _ _ rfl rfl rfl rfl rfl rfl rfl rfl rfl rfl rfl rfl rfl rfl rfl rfl
  | rcvGrant => exact execRcvGrant_blank _ _ _ _ rfl rfl
  | replayTimeout => exact execReplayTimeout_blank _ rfl rfl rfl rfl rfl
  | helloTick => exact execHelloTick_blank _ _ rfl rfl rfl
  | hello => exact execHello_blank _ _ _ _ _ _ rfl rfl rfl rfl rfl rfl rfl rfl rfl rfl rfl rfl rfl rfl rfl rfl rfl rfl rfl rfl rfl rfl
  | heartbeat => exact execHeartbeat_blank _ _ _ _ rfl rfl rfl rfl rfl rfl rfl rfl rfl rfl rfl rfl rfl rfl rfl rfl rfl rfl rfl rfl
  | heartbeatTick => exact execHeartbeatTick_blank _ _ rfl rfl rfl
  | retransmitTimeout => exact execRetransmitTimeout_blank _ _ rfl rfl rfl rfl rfl rfl rfl rfl rfl rfl rfl rfl rfl rfl rfl rfl rfl rfl rfl
  | sealMsg => exact execSeal_blank _ _ _ _ _ _ _ rfl rfl rfl rfl rfl rfl rfl rfl rfl rfl rfl rfl rfl rfl rfl rfl rfl rfl rfl
  | recallMsg => exact execRecall_blank _ _ _ _ _ _ _ _ _ _ rfl rfl rfl rfl rfl rfl rfl rfl rfl rfl rfl rfl rfl rfl rfl rfl rfl rfl rfl
  | role => exact execRole_blank _ _ _ _ _ _ _ rfl rfl rfl rfl rfl rfl rfl rfl rfl rfl rfl rfl rfl rfl rfl rfl rfl rfl rfl
  | fprep => exact execFprep_blank _ _ _ _ _ _ _ _ rfl rfl rfl rfl rfl rfl rfl rfl rfl rfl rfl rfl rfl rfl rfl rfl rfl rfl rfl
  | fvote => exact execFvote_blank _ _ _ _ _ _ _ rfl rfl rfl rfl rfl rfl rfl rfl rfl rfl rfl rfl rfl rfl rfl rfl rfl rfl rfl rfl
  | fseal => exact execFseal_blank _ _ _ _ _ _ rfl rfl rfl rfl rfl rfl rfl rfl rfl rfl rfl rfl rfl rfl rfl rfl rfl rfl rfl rfl
  | fvoid => exact execFvoid_blank _ _ _ _ _ rfl rfl rfl rfl rfl rfl rfl rfl rfl rfl rfl rfl rfl rfl rfl rfl rfl rfl rfl
  | tpair => exact execTpair_blank _ _ _ _ _ _ _ _ _ _ rfl rfl rfl rfl rfl rfl rfl rfl rfl rfl rfl rfl rfl rfl rfl rfl rfl rfl rfl rfl
  | tpairTick => exact execTpairTick_blank _ _ rfl rfl rfl
  | tpairTimeout => exact execTpairTimeout_blank _ _ rfl
  | thetaExpiry => exact execThetaExpiry_blank _ _ rfl
  | dispute => exact execDispute_blank _ _ _ _ _ _ _ _ rfl rfl rfl rfl rfl rfl rfl rfl rfl rfl rfl rfl rfl rfl rfl rfl rfl rfl rfl
  | disputeResend => exact execDisputeResend_blank _ _ rfl rfl rfl
  | peerLoss => exact execPeerLoss_blank _ _ rfl rfl rfl rfl rfl rfl rfl rfl rfl rfl rfl rfl rfl rfl rfl rfl rfl rfl
  | linkUpChange => exact execLinkUpChange_blank _ _ _ _ rfl rfl rfl
  | epochTimeout => exact execEpochTimeout_blank _ _ _ _ rfl rfl rfl rfl
  | collisionBackoff => exact execCollisionBackoff_blank _ rfl rfl rfl rfl rfl rfl rfl rfl rfl rfl rfl rfl rfl rfl rfl rfl rfl
  | indoubtTimeout => exact execIndoubtTimeout_blank _ _ _ rfl
  | ccdRestart => exact execCcdRestart_blank _ _ _ _ rfl rfl rfl
  | ccdXreqXrole => exact execCcdXreqXrole_blank _ _ _ _ _ _ _ _ rfl rfl rfl rfl rfl rfl rfl rfl rfl rfl rfl rfl rfl rfl rfl rfl rfl rfl
  | ccdXreqXspare => exact execCcdXreqXspare_blank _ _ _ _ _ _ _ rfl rfl rfl rfl rfl rfl rfl rfl rfl rfl rfl rfl rfl rfl rfl rfl rfl rfl
  | epochSeal => exact execEpochSeal_blank _ _ _ _ _ rfl rfl rfl rfl rfl rfl rfl rfl
  | epochDiscard => exact execEpochDiscard_blank _ _ _ _ _ rfl rfl rfl rfl rfl rfl rfl rfl
  | epochRewind => exact execEpochRewind_blank _ _ _ _ _ _ rfl rfl rfl rfl rfl rfl rfl rfl rfl rfl rfl
  | epochRestart => exact execEpochRestart_blank _ _ _ _ _ rfl rfl rfl rfl rfl rfl rfl rfl
  | epCut => exact execEpCut_blank _ _ _ _ _ rfl rfl rfl
  | dgCut => exact execDgCut_blank _ _ _ _ _ _ rfl rfl rfl
  | dgReport => exact execDgReport_blank _ _ _ _ _ _ _ _ _ _ _ _ rfl rfl
  | dgCover => exact execDgCover_blank _ _ _ _ _ _ rfl rfl
  | epPart => exact execEpPart_blank _ _ _ _ _ _ rfl rfl rfl rfl rfl rfl
  | epochHashDone => exact execEpochHashDone_blank _ _ rfl rfl rfl rfl rfl rfl rfl rfl rfl rfl rfl rfl rfl rfl rfl
  | epPartTimeout => exact execEpPartTimeout_blank _ _ rfl rfl rfl rfl rfl rfl rfl rfl rfl
  | recordRingTimeout => exact execRecordRingTimeout_blank _ _ rfl rfl rfl rfl rfl rfl rfl rfl rfl
  | tenRecTailWrite => exact execTenRecTailWrite_blank _ _ _ _ _ rfl rfl rfl rfl rfl rfl rfl rfl rfl rfl rfl rfl rfl rfl rfl rfl
  | colophonRequest => exact execColophonRequest_blank _ _ _ _ rfl rfl rfl rfl rfl rfl rfl rfl rfl rfl rfl rfl rfl rfl rfl rfl rfl rfl rfl
  | senseConversion => exact execSenseConversion_blank _ _ rfl rfl rfl rfl rfl rfl rfl rfl rfl rfl rfl rfl rfl rfl rfl rfl rfl rfl rfl rfl rfl
  | intervalEnd => exact execIntervalEnd_blank _ _ rfl rfl rfl rfl
  | enAct => exact execEnAct_blank _ _ _ _ _ _ _ rfl rfl rfl
  | enModel => exact execEnModel_blank _ _ _ _ _ rfl rfl rfl rfl rfl rfl rfl rfl rfl rfl rfl rfl rfl rfl rfl rfl rfl rfl rfl rfl rfl
  | enModelTimeout => exact execEnModelTimeout_blank _ _ rfl rfl rfl rfl rfl rfl rfl rfl rfl rfl rfl rfl rfl rfl rfl rfl rfl rfl rfl rfl rfl
  | enAnchor => exact execEnAnchor_blank _ _ _ _ _ rfl rfl rfl rfl rfl
  | enMark => exact execEnMark_blank _ _ _ _ _ rfl rfl rfl rfl rfl
  | supplyReading => exact execSupplyReading_blank _ _ _ rfl rfl rfl rfl rfl rfl
  | pwNb => exact execPwNb_blank _ _ _ _ rfl rfl rfl rfl
  | thermalStep => exact execThermalStep_blank _ _ _ rfl rfl rfl rfl rfl rfl rfl rfl rfl
  | thNb => exact execThNb_blank _ _ _ _ rfl rfl rfl rfl
  | boundaryRepeat => exact execBoundaryRepeat_blank _ _ _ rfl rfl
  | bhRerun => exact execBhRerun_blank _ _ _ _ rfl rfl rfl
  | bandheldRetryPulse => exact execBandheldRetryPulse_blank _ _ _ rfl rfl
  | sweepPeriod => exact execSweepPeriod_blank _ rfl rfl rfl rfl rfl rfl rfl rfl rfl rfl rfl rfl rfl rfl rfl rfl rfl rfl
  | tlReport => exact execTlReport_blank _ _ _ _ _ _ _ _ rfl rfl rfl rfl rfl rfl rfl rfl rfl rfl rfl rfl rfl rfl rfl rfl rfl rfl rfl rfl
  | tlCommit region discard code sweep single tenant => exact execTlCommit_blank region discard code sweep single tenant s rfl
  | sweepTimeout => exact execSweepTimeout_blank _ rfl rfl rfl rfl rfl rfl rfl rfl rfl rfl rfl rfl rfl rfl rfl rfl rfl rfl
  | statementRequest => exact execStatementRequest_blank _ _ _ _ _ rfl rfl rfl rfl rfl rfl rfl rfl rfl rfl rfl rfl rfl rfl rfl rfl rfl rfl rfl
  | batchTimeout => exact execBatchTimeout_blank _ rfl rfl rfl
  | batchClose => exact execBatchClose_blank _ _ _ rfl rfl rfl rfl rfl
  | tlyRtailWrite => exact execTlyRtailWrite_blank _ _ _ _ rfl rfl rfl rfl rfl rfl
  | vaultSelftestDone => exact execVaultSelftestDone_blank _ _ _ _ _ _ rfl rfl rfl rfl rfl rfl rfl rfl rfl rfl rfl rfl rfl rfl rfl rfl rfl rfl rfl rfl rfl rfl rfl rfl rfl rfl rfl rfl rfl
  | periodicTestDue => exact execPeriodicTestDue_blank _ rfl
  | stnow => exact execStnow_blank _ _ _ rfl rfl rfl rfl
  | entropySample => exact execEntropySample_blank _ _ rfl rfl rfl rfl rfl rfl rfl rfl rfl rfl rfl rfl
  | drbgReseed => exact execDrbgReseed_blank _ rfl
  | entropyRawEnd => exact execEntropyRawEnd_blank _ rfl rfl
  | glitchDetect => exact execGlitchDetect_blank _ rfl rfl rfl rfl rfl rfl rfl rfl rfl rfl rfl rfl
  | scanModeEnable => exact execScanModeEnable_blank _ rfl rfl rfl rfl rfl rfl rfl rfl rfl rfl rfl rfl
  | random => exact execRandom_blank _ _ rfl
  | deriveRotkey => exact execDeriveRotkey_blank _ _ _ rfl
  | hmacRecord => exact execHmacRecord_blank _ _ _ rfl
  | hmacLedger => exact execHmacLedger_blank _ rfl rfl rfl rfl rfl
  | verifyCharter => exact execVerifyCharter_blank _ rfl
  | tenantKeygen => exact execTenantKeygen_blank _ _ rfl
  | tenantKeydrop => exact execTenantKeydrop_blank _ _ rfl
  | signColophon => exact execSignColophon_blank _ _ rfl
  | signRoot => exact execSignRoot_blank _ rfl rfl rfl
  | vaultServiceDone => exact execVaultServiceDone_blank _ _ rfl rfl rfl rfl rfl rfl rfl rfl rfl rfl rfl rfl rfl rfl rfl
  | nonceRequest => exact execNonceRequest_blank _ _ _ _ rfl rfl rfl rfl rfl
  | nonceLifetimeEnd => exact execNonceLifetimeEnd_blank _ _ rfl
  | ledgerClear => exact execLedgerClear_blank _ _ _ rfl rfl rfl rfl rfl rfl rfl rfl rfl rfl rfl rfl rfl rfl
  | zeroise => exact execZeroise_blank _ _ _ rfl rfl rfl rfl rfl rfl rfl rfl rfl rfl rfl rfl rfl rfl
  | provision => exact execProvision_blank _ _ _ rfl rfl rfl rfl rfl rfl rfl rfl rfl rfl rfl rfl rfl rfl
  | rekeyTally => exact execRekeyTally_blank _ _ _ rfl rfl rfl rfl rfl rfl rfl rfl rfl rfl rfl rfl rfl rfl
  | revokeOfficer => exact execRevokeOfficer_blank _ _ _ rfl rfl rfl rfl rfl rfl rfl rfl rfl rfl rfl rfl rfl rfl
  | debugUnlock => exact execDebugUnlock_blank _ _ _ rfl rfl rfl rfl rfl rfl rfl rfl rfl rfl rfl rfl rfl rfl
  | entropyRaw => exact execEntropyRaw_blank _ _ _ rfl rfl rfl rfl rfl rfl rfl rfl rfl rfl rfl rfl rfl rfl
  | stkGo => exact execStkGo_blank _ _ _ _ _ rfl rfl rfl rfl rfl
  | stkAbort => exact execStkAbort_blank _ _ _ _ _ rfl rfl rfl rfl rfl rfl rfl
  | descriptorArrive => exact execDescriptorArrive_blank _ _ _ rfl rfl rfl rfl rfl rfl rfl rfl rfl rfl rfl
  | burstGrant => exact execBurstGrant_blank _ rfl rfl rfl rfl
  | smpReadBeat => exact execSmpReadBeat_blank _ _ _ _ _ rfl rfl rfl rfl rfl rfl rfl rfl rfl rfl rfl rfl
  | smpWriteBeat => exact execSmpWriteBeat_blank _ rfl rfl rfl
  | smpRqCred => exact execSmpRqCred_blank _ rfl rfl
  | smpWdCred => exact execSmpWdCred_blank _ rfl
  | smpWriteError => exact execSmpWriteError_blank _ _ rfl rfl rfl rfl
  | smpReadTimeout => exact execSmpReadTimeout_blank _ _ rfl rfl rfl rfl
  | stkDisable => exact execStkDisable_blank _ _ _ rfl rfl rfl rfl rfl rfl rfl
  | stkEnable => exact execStkEnable_blank _ _ _ rfl rfl rfl rfl rfl
  | stkClrhalt => exact execStkClrhalt_blank _ _ _ rfl rfl rfl rfl rfl
  | skRead => exact execSkRead_blank _ _ _ _ _ _ rfl rfl rfl
  | skData => exact execSkData_blank _ _ _ _ _ rfl rfl rfl rfl rfl rfl rfl rfl rfl rfl rfl
  | skReadTimeout => exact execSkReadTimeout_blank _ _ rfl rfl rfl rfl
  | ledgerRefill => exact execLedgerRefill_blank _ _ rfl rfl
  | lgSupp => exact execLgSupp_blank _ _ _ _ _ _ rfl rfl rfl
  | foldTimeout => exact execFoldTimeout_blank _ rfl rfl rfl rfl rfl
  | flashProgramDone => exact execFlashProgramDone_blank _ _ rfl rfl rfl rfl rfl rfl
  | flashEraseDone => exact execFlashEraseDone_blank _ _ rfl rfl rfl rfl rfl rfl
  | ledgerFlush => exact execLedgerFlush_blank _ _ _ rfl rfl rfl rfl rfl rfl
  | ledgerReadPage => exact execLedgerReadPage_blank _ _ _ _ _ rfl rfl rfl rfl
  | ledgerReadDone => exact execLedgerReadDone_blank _ _ rfl rfl rfl rfl rfl
  | ledgerAppend => exact execLedgerAppend_blank _ _ _ _ rfl rfl rfl rfl
  | ledgerRecovery => exact execLedgerRecovery_blank _ _ _ rfl rfl rfl rfl rfl rfl rfl rfl rfl rfl rfl rfl rfl rfl
  | fuseWord => exact execFuseWord_blank _ _ _ _ rfl rfl rfl rfl rfl rfl rfl rfl rfl rfl rfl rfl rfl rfl rfl rfl rfl rfl rfl rfl rfl rfl rfl rfl
  | flueTrainingDone => exact execFlueTrainingDone_blank _ _ _ _ _ _ _ _ rfl rfl rfl rfl rfl rfl rfl rfl rfl rfl rfl rfl rfl rfl rfl rfl rfl rfl rfl rfl rfl rfl rfl rfl rfl rfl
  | pstResult => exact execPstResult_blank _ _ _ _ rfl rfl
  | pstTimeout => exact execPstTimeout_blank _ _ _ rfl rfl rfl
  | pstSum => exact execPstSum_blank _ _ _ _ rfl rfl rfl rfl rfl rfl rfl rfl rfl rfl rfl rfl rfl rfl rfl rfl rfl rfl rfl rfl rfl rfl rfl rfl
  | charterGo => exact execCharterGo_blank _ _ _ rfl rfl rfl rfl
  | charterGoTimeout => exact execCharterGoTimeout_blank _ rfl rfl rfl rfl rfl rfl
  | charterVerifyDone => exact execCharterVerifyDone_blank _ _ _ _ rfl rfl rfl rfl rfl rfl rfl rfl rfl rfl rfl rfl rfl rfl rfl rfl (has_of_all_units rfl)
  | chData => exact execChData_blank _ _ _ _ _ rfl rfl rfl rfl rfl rfl
  | chAck => exact execChAck_blank _ _ _ _ rfl rfl rfl rfl rfl rfl rfl rfl rfl rfl rfl rfl rfl rfl rfl rfl rfl rfl rfl rfl rfl rfl rfl rfl rfl rfl
  | clpQualDone => exact execClpQualDone_blank _ _ _ _ rfl rfl rfl rfl rfl rfl rfl rfl rfl rfl rfl rfl
  | amendGo => exact execAmendGo_blank _ _ _ _ _ rfl rfl rfl rfl rfl rfl rfl rfl rfl rfl rfl rfl rfl rfl rfl rfl rfl rfl rfl rfl rfl rfl
  | linkRequalify => exact execLinkRequalify_blank _ _ _ _ rfl rfl rfl rfl
  | vaonLost => exact execVaonLost_blank _ _ rfl rfl rfl rfl rfl rfl rfl rfl rfl rfl rfl rfl rfl rfl rfl rfl rfl rfl rfl rfl rfl rfl rfl rfl rfl rfl rfl rfl rfl rfl rfl (has_of_all_units rfl)
  | lossFlushDone => exact execLossFlushDone_blank _ rfl rfl rfl
  | vaonReturn => exact execVaonReturn_blank _ rfl rfl rfl
  | vbkLost => exact execVbkLost_blank _ rfl rfl rfl rfl rfl (has_of_all_units rfl)
  | coldStart => exact execColdStart_blank _ rfl rfl rfl rfl
  | vddLost => exact execVddLost_blank _ _ rfl rfl rfl rfl rfl rfl rfl rfl rfl rfl rfl rfl rfl rfl rfl rfl rfl rfl rfl rfl rfl rfl rfl rfl rfl rfl rfl rfl rfl rfl rfl (has_of_all_units rfl)
  | vddGood => exact execVddGood_blank _ rfl
  | holdoverEnter => exact execHoldoverEnter_blank _ _ rfl rfl rfl rfl rfl rfl rfl rfl rfl rfl rfl rfl rfl rfl rfl rfl rfl rfl rfl rfl rfl rfl rfl rfl rfl rfl rfl rfl rfl rfl rfl (has_of_all_units rfl)
  | holdoverExit => exact execHoldoverExit_blank _ rfl rfl rfl rfl
  | porbAssert => exact execPorbAssert_blank _ _ rfl rfl rfl rfl rfl rfl rfl rfl rfl rfl rfl rfl rfl rfl rfl rfl rfl rfl rfl rfl rfl rfl rfl rfl rfl rfl rfl rfl rfl rfl rfl (has_of_all_units rfl)
  | porbRelease => exact execPorbRelease_blank _ rfl rfl rfl rfl rfl rfl rfl rfl rfl rfl rfl rfl rfl rfl rfl rfl rfl (has_of_all_units rfl)
  | puIsoDone => exact execPuIsoDone_blank _ rfl rfl rfl rfl rfl rfl rfl
  | quiesceDone => exact execQuiesceDone_blank _ rfl rfl rfl rfl rfl rfl rfl rfl rfl rfl rfl rfl rfl rfl rfl rfl rfl rfl rfl rfl rfl rfl
  | flushCommit => exact execFlushCommit_blank _ _ rfl rfl rfl rfl rfl
  | stopDone => exact execStopDone_blank _ rfl rfl rfl rfl rfl rfl rfl rfl rfl rfl rfl rfl rfl rfl rfl rfl rfl rfl rfl rfl rfl rfl rfl rfl rfl rfl rfl rfl rfl rfl rfl (has_of_all_units rfl)
  | pwrOff => exact execPwrOff_blank _ _ _ rfl rfl rfl rfl rfl rfl rfl rfl rfl rfl rfl rfl rfl rfl rfl rfl rfl rfl rfl rfl rfl rfl rfl rfl rfl
  | pwrOn => exact execPwrOn_blank _ _ _ rfl rfl rfl rfl rfl rfl rfl rfl rfl rfl rfl rfl rfl rfl rfl rfl rfl (has_of_all_units rfl)
  | pwrPcreq => exact execPwrPcreq_blank _ _ _ rfl rfl rfl rfl rfl
  | voltageTarget => exact execVoltageTarget_blank _ _ _ _ _ rfl rfl rfl rfl rfl
  | hrstb => exact execHrstb_blank _ rfl rfl rfl rfl rfl rfl rfl rfl rfl rfl rfl rfl rfl rfl rfl rfl rfl rfl rfl
  | btnRelease => exact execBtnRelease_blank _ _ rfl rfl rfl rfl rfl rfl rfl rfl rfl rfl rfl rfl rfl rfl rfl rfl rfl rfl rfl (has_of_all_units rfl)
  | btnStuck => exact execBtnStuck_blank _ rfl rfl rfl rfl
  | trayAck => exact execTrayAck_blank _ rfl rfl rfl rfl rfl rfl rfl rfl rfl rfl rfl rfl rfl rfl rfl rfl rfl rfl rfl rfl rfl rfl rfl rfl
  | gstopWrite => exact execGstopWrite_blank _ _ _ rfl rfl rfl rfl rfl rfl
  | gstopRelease => exact execGstopRelease_blank _ _ _ rfl rfl rfl rfl rfl rfl rfl rfl rfl rfl rfl rfl rfl rfl rfl rfl rfl rfl rfl rfl rfl rfl rfl
  | stopInChange => exact execStopInChange_blank _ _ rfl rfl rfl rfl rfl rfl rfl rfl rfl rfl rfl rfl rfl rfl rfl rfl rfl rfl rfl rfl rfl rfl
  | gstopSettle => exact execGstopSettle_blank _ rfl
  | trRec => exact execTrRec_blank _ _ _ rfl rfl rfl rfl rfl rfl rfl
  | traceMark => exact execTraceMark_blank _ _ rfl rfl rfl rfl rfl rfl rfl
  | trLevel => exact execTrLevel_blank _ _ _ rfl rfl
  | trCut => exact execTrCut_blank _ _ rfl rfl rfl rfl rfl rfl
  | trRun => exact execTrRun_blank _ _ _ _ rfl rfl rfl rfl
  | trFree => exact execTrFree_blank _ _ _ rfl rfl
  | traceDrain => exact execTraceDrain_blank _ _ _ rfl rfl rfl rfl
  | traceEnable => exact execTraceEnable_blank _ _ _ _ rfl rfl rfl rfl rfl rfl
  | unlockExpiry => exact execUnlockExpiry_blank _ rfl rfl rfl rfl
  | rgRead => exact execRgRead_blank _ _ _ _ _ _ _ rfl rfl rfl rfl rfl rfl
  | rgWrite => exact execRgWrite_blank _ _ _ _ _ _ _ _ rfl rfl rfl rfl rfl rfl rfl rfl rfl rfl rfl rfl rfl rfl rfl rfl rfl rfl rfl rfl rfl (has_of_all_units rfl)
  | rgRdata => exact execRgRdata_blank _ _ _ _ _ _ rfl rfl rfl rfl
  | rgWack => exact execRgWack_blank _ _ _ _ _ rfl rfl rfl rfl
  | mrRead => exact execMrRead_blank _ _ _ _ _ _ rfl rfl rfl rfl rfl
  | ghpTimeout => exact execGhpTimeout_blank _ _ rfl rfl rfl
  | registerWrite => exact execRegisterWrite_blank _ _ _ _ _ _ _ rfl rfl rfl rfl rfl rfl rfl rfl rfl rfl rfl rfl rfl rfl rfl rfl rfl rfl rfl rfl rfl rfl (has_of_all_units rfl)
  | getStatus => exact execGetStatus_blank _ rfl
  | readReg => exact execReadReg_blank _ _ _ rfl rfl rfl
  | readMirror => exact execReadMirror_blank _ _ _ rfl rfl rfl
  | readLedger => exact execReadLedger_blank _ _ _ rfl rfl
  | power => exact execPower_blank _ _ rfl rfl rfl rfl rfl rfl rfl rfl rfl rfl rfl rfl rfl rfl rfl rfl rfl (has_of_all_units rfl)
  | gstop => exact execGstop_blank _ _ rfl rfl rfl rfl rfl rfl rfl rfl rfl rfl rfl rfl rfl rfl rfl rfl rfl rfl rfl rfl rfl rfl
  | setAmb => exact execSetAmb_blank _ _ _ rfl rfl rfl
  | wakeWrite => exact execWakeWrite_blank _ rfl rfl rfl rfl rfl rfl rfl rfl rfl rfl rfl rfl rfl rfl rfl rfl rfl (has_of_all_units rfl)
  | setEndpointId => exact execSetEndpointId_blank _ _ _ rfl rfl
  | getEndpointId => exact execGetEndpointId_blank _ rfl
  | getMctpVersionSupport => exact execGetMctpVersionSupport_blank _ _ rfl rfl
  | getMessageTypeSupport => exact execGetMessageTypeSupport_blank _ rfl
  | getVendorDefinedMessageSupport => exact execGetVendorDefinedMessageSupport_blank _ _ rfl rfl
  | gettid => exact execGettid_blank _ rfl rfl
  | getpldmversion => exact execGetpldmversion_blank _ _ rfl rfl
  | getpldmtypes => exact execGetpldmtypes_blank _ rfl
  | getpldmcommands => exact execGetpldmcommands_blank _ _ rfl
  | getpdrrepositoryinfo => exact execGetpdrrepositoryinfo_blank _ rfl rfl
  | getpdr handle => exact execGetpdr_blank handle s rfl rfl
  | getsensorreading => exact execGetsensorreading_blank _ _ rfl rfl
  | getstatesensorreadings => exact execGetstatesensorreadings_blank _ _ rfl
  | entdaa => exact execEntdaa_blank _ _ rfl rfl
  | setdasa => exact execSetdasa_blank _ _ _ rfl rfl
  | setnewda => exact execSetnewda_blank _ _ _ rfl rfl
  | rstdaa => exact execRstdaa_blank _ rfl rfl
  | enec => exact execEnec_blank _ _ _ rfl rfl
  | disec => exact execDisec_blank _ _ _ rfl rfl
  | getpid => exact execGetpid_blank _ _ rfl rfl
  | getbcr => exact execGetbcr_blank _ _ rfl rfl
  | getdcr => exact execGetdcr_blank _ _ rfl rfl
  | getstatus => exact execGetstatus_blank _ _ rfl rfl rfl
  | getmwl => exact execGetmwl_blank _ _ rfl rfl
  | getmrl => exact execGetmrl_blank _ _ rfl rfl
  | setmwl => exact execSetmwl_blank _ _ _ rfl rfl
  | setmrl => exact execSetmrl_blank _ _ _ rfl rfl
  | clpMessageDropped => exact execClpMessageDropped_blank _ _ _ _ rfl rfl
  | tokenReject => exact execTokenReject_blank _ _ _ _ _ rfl rfl rfl rfl rfl rfl rfl rfl rfl rfl rfl rfl rfl rfl
  | periodicTestDone => exact execPeriodicTestDone_blank _ _ rfl rfl rfl rfl rfl rfl rfl rfl rfl rfl rfl rfl rfl rfl rfl rfl
  | btnStuckClear => exact execBtnStuckClear_blank _ rfl
  | hrstbRelease => exact execHrstbRelease_blank _ _ rfl rfl rfl
  | dbgTrtailWrite => exact execDbgTrtailWrite_blank _ _ _ _ rfl rfl rfl rfl rfl rfl
  | keyStorePartitionAccess => exact execKeyStorePartitionAccess_blank _ rfl rfl rfl rfl rfl rfl rfl rfl rfl rfl rfl rfl

/-- Settles O6, from the frame law of each command. -/
theorem commandChangesOnlyItsParts : Obligations.CommandChangesOnlyItsParts := by
  unfold Obligations.CommandChangesOnlyItsParts
  exact fun c s => exec_keeps c s

end Sys2Proof.Machine
end

section
/-! SUPPORT. Every command answers a next state: a meaning that chooses between outcomes chooses between next states. -/

namespace Sys2Proof.Machine

open Sys2Proof

theorem execEpCut_completes (region tenant : Nat) (discard : Bool) (epoch : Nat) (s : State) :
    ∃ t, execEpCut region tenant discard epoch s = .next t := by
  unfold execEpCut
  split
  · exact ⟨_, rfl⟩
  · dsimp only
    generalize (if discard = true then s else s.markBarrier region tenant epoch) = u
    by_cases hnone : u.probesOf region tenant = []
    · exact ⟨_, if_pos hnone⟩
    · exact ⟨_, if_neg hnone⟩

theorem execBurstGrant_completes (s : State) : ∃ t, execBurstGrant s = .next t := by
  unfold execBurstGrant
  split
  · exact ⟨_, rfl⟩
  · dsimp only
    generalize s.kickSys.pumpAll = u
    cases slotLevel (fun l => (u.stkPick l).isSome) (slotPattern.getD u.stk.slot 0) with
    | none => exact ⟨_, rfl⟩
    | some l =>
      dsimp only
      cases u.stkPick l <;> exact ⟨_, rfl⟩

theorem execEntropySample_completes (sample : Nat) (s : State) : ∃ t, execEntropySample sample s = .next t := by
  unfold execEntropySample
  dsimp only
  repeat' first
    | with_reducible exact ⟨_, rfl⟩
    | split

theorem execFolioPrepare_completes (number : Nat) (s : State) : ∃ t, execFolioPrepare number s = .next t := by
  unfold execFolioPrepare
  dsimp only
  repeat' first
    | with_reducible exact ⟨_, rfl⟩
    | split

theorem execFlSync_completes (region last : Nat) (s : State) : ∃ t, execFlSync region last s = .next t := by
  unfold execFlSync
  dsimp only
  repeat' first
    | with_reducible exact ⟨_, rfl⟩
    | split

theorem execBtnRelease_completes (ms : Nat) (s : State) : ∃ t, execBtnRelease ms s = .next t := by
  unfold execBtnRelease
  dsimp only
  repeat' first
    | with_reducible exact ⟨_, rfl⟩
    | split

/-- The commands in the long list choose between outcomes by their conditions; each of the remaining ones has one outcome. -/
theorem exec_completes (c : Instr) (s : State) : ∃ t, exec c s = .next t := by
  cases c
  case epCut region tenant discard epoch => exact execEpCut_completes region tenant discard epoch s
  case burstGrant => exact execBurstGrant_completes s
  case entropySample sample => exact execEntropySample_completes sample s
  case folioPrepare number => exact execFolioPrepare_completes number s
  case flSync region last => exact execFlSync_completes region last s
  case btnRelease ms => exact execBtnRelease_completes ms s
  case cmdAccept | rotationDrawDone | operandBeat | tapReadBeat | egressBeat | releaseTagOut | gateDecision | slotDrain | meshBlock | sramEccEvent |
      retryTimeout | faultFlitDepart | probeGate | xownAck | moveXownTimeout | copyUnitArrive | moveComplete | icmdAccept | cshkAck | cshkTimeout |
      mwSettleDone | stopLeafRise | stopLeafFall | readerSignatureClose | rdReport | rdData | readingSettleTimeout | iftGet | segmentClose |
      segmentTimeout | expReport | iftOverdue | catIdleTimeout | catMoved | catBounce | flPropose | flAccept | proposeRetry | flPrep | flVote |
      folioPrepareTimeout | flSeal | flVoid | folioApply | flDone | folioDoneTimeout | rfiMessage | faultClassify | bucketLeak | faultRegister |
      fltCount | fltFence | l2QueueTimeout | watchdogTick | wdStat | wdSet | caseCollectTimeout | resetInstant | resetHoldEnd | rcvDone |
      rcvDoneTimeout | replayTimeout | retransmitTimeout | disputeResend | peerLoss | epochTimeout | collisionBackoff | dgReport | dgCover | epPart |
      epochHashDone | epPartTimeout | recordRingTimeout | intervalEnd | enAct | enModel | enModelTimeout | enAnchor | pwNb | thNb | bandheldRetryPulse
      | tlReport | vaultSelftestDone | vaultServiceDone | nonceLifetimeEnd | descriptorArrive | smpReadBeat | smpWriteBeat | smpWriteError |
      smpReadTimeout | skData | skReadTimeout | flashProgramDone | flashEraseDone | ledgerReadDone | ledgerRecovery | fuseWord | flueTrainingDone |
      charterVerifyDone | chData | chAck | clpQualDone | vaonLost | lossFlushDone | vaonReturn | vbkLost | coldStart | holdoverEnter | holdoverExit |
      puIsoDone | quiesceDone | flushCommit | stopDone | btnStuck | trayAck | trRec | traceMark | trRun | rgWrite | wakeWrite | clpMessageDropped |
      periodicTestDone =>
    dsimp only [exec, execCmdAccept, execRotationDrawDone, execOperandBeat, execTapReadBeat, execEgressBeat, execReleaseTagOut, execGateDecision,
      execSlotDrain, execMeshBlock, execSramEccEvent, execRetryTimeout, execFaultFlitDepart, execProbeGate, execXownAck, execMoveXownTimeout,
      execCopyUnitArrive, execMoveComplete, execIcmdAccept, execCshkAck, execCshkTimeout, execMwSettleDone, execStopLeafRise, execStopLeafFall,
      execReaderSignatureClose, execRdReport, execRdData, execReadingSettleTimeout, execIftGet, execSegmentClose, execSegmentTimeout, execExpReport,
      execIftOverdue, execCatIdleTimeout, execCatMoved, execCatBounce, execFlPropose, execFlAccept, execProposeRetry, execFlPrep, execFlVote,
      execFolioPrepareTimeout, execFlSeal, execFlVoid, execFolioApply, execFlDone, execFolioDoneTimeout, execRfiMessage, execFaultClassify,
      execBucketLeak, execFaultRegister, execFltCount, execFltFence, execL2QueueTimeout, execWatchdogTick, execWdStat, execWdSet,
      execCaseCollectTimeout, execResetInstant, execResetHoldEnd, execRcvDone, execRcvDoneTimeout, execReplayTimeout, execRetransmitTimeout,
      execDisputeResend, execPeerLoss, execEpochTimeout, execCollisionBackoff, execDgReport, execDgCover, execEpPart, execEpochHashDone,
      execEpPartTimeout, execRecordRingTimeout, execIntervalEnd, execEnAct, execEnModel, execEnModelTimeout, execEnAnchor, execPwNb, execThNb,
      execBandheldRetryPulse, execTlReport, execVaultSelftestDone, execVaultServiceDone, execNonceLifetimeEnd, execDescriptorArrive, execSmpReadBeat,
      execSmpWriteBeat, execSmpWriteError, execSmpReadTimeout, execSkData, execSkReadTimeout, execFlashProgramDone, execFlashEraseDone,
      execLedgerReadDone, execLedgerRecovery, execFuseWord, execFlueTrainingDone, execCharterVerifyDone, execChData, execChAck, execClpQualDone,
      execVaonLost, execLossFlushDone, execVaonReturn, execVbkLost, execColdStart, execHoldoverEnter, execHoldoverExit, execPuIsoDone,
      execQuiesceDone, execFlushCommit, execStopDone, execBtnStuck, execTrayAck, execTrRec, execTraceMark, execTrRun, execRgWrite, execWakeWrite,
      execClpMessageDropped, execPeriodicTestDone]
    repeat' first
      | with_reducible exact ⟨_, rfl⟩
      | split
  all_goals exact ⟨_, rfl⟩

/-- Settles O5. -/
theorem everyCommandCompletes : Obligations.EveryCommandCompletes := by
  unfold Obligations.EveryCommandCompletes
  exact exec_completes

end Sys2Proof.Machine
end

section
/-! SUPPORT. The invariant of the block: which commands reach GT, the time round, the outstanding host requests, the management fields or the addressed
buffers, and what these leave there; and the tick. -/

namespace Sys2Proof.Machine

open Sys2Proof

theorem next_inj {σ φ ρ : Type} {a b : σ} (h : (.next a : Host.Outcome σ φ ρ) = .next b) : a = b := Host.Outcome.next.inj h

/-! ## What the invariant reads -/

section

variable {F : Fields} {s t : State}

theorem queueOk_of_blank (h : t.blank F = s.blank F) : t.queueOk = s.queueOk := by
  rw [State.queueOk, State.queueOk, pending_of_blank h]

theorem timeOk_of_blank (h : t.blank F = s.blank F) (hgt : F.gt = false) (hrounds : F.timeRounds = false) : t.timeOk = s.timeOk := by
  rw [State.timeOk, State.timeOk, gt_of_blank h hgt, timeRounds_of_blank h hrounds]

theorem ghpOk_of_blank (h : t.blank F = s.blank F) (hghp : F.ghp = false) : t.ghpOk = s.ghpOk := by
  rw [State.ghpOk, State.ghpOk, ghp_of_blank h hghp]

theorem mgtOk_of_blank (h : t.blank F = s.blank F) (hmgt : F.mgt = false) : t.mgtOk = s.mgtOk := by
  rw [State.mgtOk, State.mgtOk, mgt_of_blank h hmgt]

theorem bufOk_of_blank (h : t.blank F = s.blank F) (htok : F.tokbuf = false) (hpage : F.pageBuf = false) : t.bufOk = s.bufOk := by
  rw [State.bufOk, State.bufOk, tokbuf_of_blank h htok, pageBuf_of_blank h hpage]

/-- The invariant needs a new proof for those of its parts that `F` names. -/
theorem inv_of_blank (h : t.blank F = s.blank F) (hs : s.Inv)
    (htime : (F.gt || F.timeRounds) = true → t.timeOk = true) (hghp : F.ghp = true → t.ghpOk = true)
    (hmgt : F.mgt = true → t.mgtOk = true) (hbuf : (F.tokbuf || F.pageBuf) = true → t.bufOk = true) : t.Inv := by
  obtain ⟨squeue, stime, sghp, smgt, sbuf⟩ := hs
  refine ⟨(queueOk_of_blank h).trans squeue, ?_, ?_, ?_, ?_⟩
  · cases hf : F.gt || F.timeRounds with
    | true => exact htime hf
    | false => exact (timeOk_of_blank h (Bool.or_eq_false_iff.mp hf).1 (Bool.or_eq_false_iff.mp hf).2).trans stime
  · cases hf : F.ghp with
    | true => exact hghp hf
    | false => exact (ghpOk_of_blank h hf).trans sghp
  · cases hf : F.mgt with
    | true => exact hmgt hf
    | false => exact (mgtOk_of_blank h hf).trans smgt
  · cases hf : F.tokbuf || F.pageBuf with
    | true => exact hbuf hf
    | false => exact (bufOk_of_blank h (Bool.or_eq_false_iff.mp hf).1 (Bool.or_eq_false_iff.mp hf).2).trans sbuf

/-- The parts that the invariant reads. -/
def Fields.inInv (F : Fields) : Bool := F.gt || F.timeRounds || F.ghp || F.mgt || F.tokbuf || F.pageBuf

theorem inv_of_outside (h : t.blank F = s.blank F) (hF : F.inInv = false) (hs : s.Inv) : t.Inv := by
  simp only [Fields.inInv, Bool.or_eq_false_iff] at hF
  obtain ⟨⟨⟨⟨⟨hgt, hrounds⟩, hghp⟩, hmgt⟩, htok⟩, hpage⟩ := hF
  exact inv_of_blank h hs (by simp [hgt, hrounds]) (by simp [hghp]) (by simp [hmgt]) (by simp [htok, hpage])

end

/-! ## The reset of the VDD side -/

theorem mgtOk_banked {s : State} (h : s.mgtOk = true) {t : State} (ht : t.mgt = s.mgt.banked) : t.mgtOk = true := by
  simp only [State.mgtOk, Bool.and_eq_true] at h ⊢
  obtain ⟨⟨⟨hda, -⟩, hmwl⟩, hmrl⟩ := h
  rw [ht]
  exact ⟨⟨⟨hda, rfl⟩, hmwl⟩, hmrl⟩

theorem inv_vddReset {s : State} (h : s.Inv) : s.vddReset.Inv := by
  obtain ⟨hqueue, -, -, hmgt, -⟩ := h
  have hlock := unlockEnd_blank (F := { regs := [.ldg, .dbg], ldg := true, dbg := true }) s 1 rfl rfl rfl rfl
  have hpending : s.vddReset.pending = s.pending := show (s.unlockEnd 1).pending = s.pending from pending_of_blank hlock
  have hport : s.vddReset.mgt = s.mgt.banked := congrArg Mgt.banked (mgt_of_blank hlock rfl)
  exact ⟨by rw [State.queueOk, hpending]; exact hqueue, rfl, rfl, mgtOk_banked hmgt hport, rfl⟩

theorem inv_startLoss {s : State} (cause : Nat) (half : Bool) (h : s.Inv) : (s.startLoss cause half).Inv := by
  unfold State.startLoss
  split
  · exact h
  · have hflip : s.flipBank.Inv :=
      inv_of_outside (F := mayChange (.folioPrepareTimeout 0)) (by apply flipBank_blank <;> rfl) rfl h
    exact inv_vddReset (s := { s.flipBank with ldg := s.flipBank.ldg.lossBegins }) hflip

theorem inv_raise {s : State} (f : RegField) (i : Nat) (h : s.Inv) : (s.raise f i).Inv := h

theorem inv_bankedRecord {s : State} (code p0 p1 p2 : Nat) (h : s.Inv) : (s.bankedRecord code p0 p1 p2).Inv :=
  inv_of_outside (F := { regs := [.ldg], ldg := true }) (bankedRecord_blank s code p0 p1 p2 rfl rfl) rfl h

theorem inv_pwrTry {s : State} (h : s.Inv) : s.pwrTry.Inv := inv_of_outside (F := { pwr := true }) (pwrTry_blank s rfl) rfl h

section

variable {s t : State}

theorem inv_execVaonLost (half : Bool) (h : s.Inv) (ht : execVaonLost half s = .next t) : t.Inv := by
  unfold execVaonLost at ht
  split at ht
  · cases ht
    exact h
  · split at ht <;> cases ht
    · exact h
    · exact inv_startLoss 0 half h

theorem inv_execVddLost (half : Bool) (h : s.Inv) (ht : execVddLost half s = .next t) : t.Inv := by
  unfold execVddLost at ht
  cases ht
  split
  · exact h
  · exact inv_startLoss 1 half h

theorem inv_execHoldoverEnter (half : Bool) (h : s.Inv) (ht : execHoldoverEnter half s = .next t) : t.Inv := by
  unfold execHoldoverEnter at ht
  split at ht <;> cases ht
  · exact h
  · have hloss (lost : Bool) : (if lost = true then s.startLoss 3 half else s).Inv := by
      split
      · exact inv_startLoss 3 half h
      · exact h
    exact inv_raise _ _ (inv_bankedRecord _ _ _ _ (hloss _))

theorem inv_execPorbAssert (half : Bool) (h : s.Inv) (ht : execPorbAssert half s = .next t) : t.Inv := by
  unfold execPorbAssert at ht
  cases ht
  split
  · exact h
  · split
    · exact inv_vddReset (s := { s with pwr := { s.pwr with porb := false } }) h
    · exact inv_startLoss 4 half h

theorem inv_execStopDone (h : s.Inv) (ht : execStopDone s = .next t) : t.Inv := by
  unfold execStopDone at ht
  split at ht <;> cases ht
  · exact h
  · exact inv_pwrTry (inv_vddReset h)

end

/-! ## Outstanding requests of the host port -/

section

variable {s t : State}

theorem ghpOk_iff : s.ghpOk = true ↔ s.ghp.length ≤ 64 ∧ (∀ q ∈ s.ghp, q.tag < 64) ∧ (s.ghp.map (·.tag)).Nodup := by
  simp [State.ghpOk, and_assoc]

/-- A request joins the outstanding ones under a tag that none of them holds. -/
theorem ghpOk_append {q : GhpReq} (h : s.ghpOk = true) (hlen : s.ghp.length < 64) (hnew : s.ghp.any (fun x => x.tag == q.tag) = false)
    (hq : q.tag < 64) (ht : t.ghp = s.ghp ++ [q]) : t.ghpOk = true := by
  obtain ⟨-, htags, hnodup⟩ := ghpOk_iff.mp h
  have hfresh : ∀ x ∈ s.ghp, x.tag ≠ q.tag := by simpa using hnew
  refine ghpOk_iff.mpr ⟨?_, ?_, ?_⟩
  · rw [ht, List.length_append, List.length_singleton]
    exact hlen
  · rw [ht]
    exact fun x hx => (List.mem_append.mp hx).elim (htags x) (fun e => List.mem_singleton.mp e ▸ hq)
  · rw [ht, List.map_append]
    refine List.nodup_append.mpr ⟨hnodup, List.pairwise_singleton _ _, fun n hn m hm => ?_⟩
    obtain ⟨x, hx, rfl⟩ := List.mem_map.mp hn
    exact List.mem_singleton.mp hm ▸ hfresh x hx

theorem ghpOk_filter {p : GhpReq → Bool} (h : s.ghpOk = true) (ht : t.ghp = s.ghp.filter p) : t.ghpOk = true := by
  obtain ⟨hlen, htags, hnodup⟩ := ghpOk_iff.mp h
  refine ghpOk_iff.mpr ⟨?_, ?_, ?_⟩ <;> rw [ht]
  · exact Nat.le_trans (List.length_filter_le _ _) hlen
  · exact fun q hq => htags q (List.mem_filter.mp hq).1
  · exact hnodup.sublist (List.filter_sublist.map _)

/-- What the port does with a request that it accepts decides whether its outstanding requests stay in order. -/
theorem ghpOk_ghpAccept {tag : Nat} {go : State} (h : s.ghpOk = true)
    (hgo : s.ghp.length < 64 → s.ghp.any (fun q => q.tag == tag) = false → go.ghpOk = true) : (s.ghpAccept tag go).ghpOk = true := by
  unfold State.ghpAccept
  split
  next => exact h
  next hrun =>
    split
    next => exact h
    next hdup =>
      obtain ⟨-, hlen⟩ := not_or.mp hrun
      exact hgo (Nat.lt_of_not_le hlen) (Bool.eq_false_iff.mpr hdup)

theorem ghp_ghpDone (s : State) (ten tag addr : Nat) (wr sz64 : Bool) (st : GhpStatus) (data : Nat) :
    (s.ghpDone ten tag addr wr sz64 st data).ghp = s.ghp :=
  ghp_of_blank (ghpDone_blank (F := { regs := [.ghp], pulses := true }) s ten tag addr wr sz64 st data rfl rfl) rfl

theorem ghpOk_ghpDone (ten tag addr : Nat) (wr sz64 : Bool) (st : GhpStatus) (data : Nat) (h : s.ghpOk = true) :
    (s.ghpDone ten tag addr wr sz64 st data).ghpOk = true := by
  rw [State.ghpOk, ghp_ghpDone]
  exact h

theorem ghpOk_ghpEnd (tag : Nat) (test : GhpReq → Bool) (st : GhpStatus) (data : Nat) (h : s.ghpOk = true) :
    (s.ghpEnd tag test st data).ghpOk = true := by
  unfold State.ghpEnd
  split
  · exact h
  · exact ghpOk_ghpDone _ _ _ _ _ _ _ (ghpOk_filter h rfl)

theorem ghpOk_ghpForward {q : GhpReq} (r : Nat) {serve : State → State} (hq : q.tag < 64) (hserve : ∀ u : State, (serve u).ghp = u.ghp)
    (h : s.ghpOk = true) : (s.ghpForward q r serve).ghpOk = true := by
  refine ghpOk_ghpAccept h (fun hlen hnew => ?_)
  dsimp only
  split
  · exact ghpOk_append h hlen hnew hq rfl
  · exact ghpOk_append h hlen hnew hq (hserve _)

theorem ghpOk_ghpReadHere (a : Nat) (sz64 : Bool) (ten tag : Nat) (h : s.ghpOk = true) : (s.ghpReadHere a sz64 ten tag).ghpOk = true := by
  rw [ghpOk_of_blank (ghpReadHere_blank (F := { regs := [.ghp], snaps := true, pulses := true, freeCtr := true }) s a sz64 ten tag rfl rfl rfl rfl) rfl]
  exact h

/-- The parts of the state that a register write may change at its target. -/
def writeParts : Fields := { Fields.all with snaps := false, gt := false, timeRounds := false, lost := false, seeds := false, hops := false, pageBuf := false, mgt := false, ghp := false, net := false }

theorem writePlace_unchanged (s : State) (ten : Nat) (p : Place) (sz64 : Bool) (data : Nat) :
    Unchanged writeParts s (s.writePlace ten p sz64 data).2 :=
  writePlace_blank s ten p sz64 data rfl rfl rfl rfl rfl rfl rfl rfl rfl rfl rfl rfl rfl rfl rfl rfl rfl rfl rfl rfl rfl (has_of_all_units rfl)

theorem ghpOk_ghpWrite (a data : Nat) (sz64 : Bool) (ten : Nat) {tag : Nat} (parOk : Bool) (htag : tag < 64) (h : s.ghpOk = true) :
    (s.ghpWrite a data sz64 ten tag parOk).ghpOk = true := by
  refine ghpOk_ghpAccept h (fun hlen hnew => ?_)
  split
  · exact ghpOk_ghpDone _ _ _ _ _ _ _ h
  · split
    · exact ghpOk_append (q := { tag := tag, ten := ten, addr := a, wr := true, sz64 := sz64, gt := s.gt }) h hlen hnew htag rfl
    · exact ghpOk_ghpDone _ _ _ _ _ _ _ ((ghpOk_of_blank (writePlace_unchanged s ten (placeOf a) sz64 data) rfl).trans h)

theorem ghpOk_execRgRead (region : Nat) (tile : Option Nat) (off : Nat) (sz64 : Bool) (ten tag : Nat) (h : s.ghpOk = true)
    (ht : execRgRead region tile off sz64 ten tag s = .next t) : t.ghpOk = true := by
  unfold execRgRead at ht
  cases ht
  split
  · exact ghpOk_ghpReadHere _ _ _ _ h
  · refine ghpOk_ghpForward region (wrap_lt 6 tag) (fun u => ?_) h
    change (u.readPlace _ sz64).2.2.ghp = u.ghp
    exact ghp_of_blank (F := { snaps := true, freeCtr := true }) (readPlace_blank u _ sz64 rfl rfl) rfl

theorem ghpOk_execMrRead (region off : Nat) (sz64 lens : Bool) (tag : Nat) (h : s.ghpOk = true)
    (ht : execMrRead region off sz64 lens tag s = .next t) : t.ghpOk = true := by
  unfold execMrRead at ht
  cases ht
  refine ghpOk_ghpForward region (wrap_lt 6 tag) (fun u => ?_) h
  change (u.readCell _ _ sz64).2.2.ghp = u.ghp
  exact ghp_of_blank (F := { snaps := true, freeCtr := true }) (readCell_blank u _ _ sz64 rfl rfl) rfl

end

/-! ## The management fields -/

/-- The fields of the management port fit. -/
def Mgt.fits (m : Mgt) : Bool := m.da.all (fun a => decide (a < 2 ^ 7)) && decide (m.eid < 2 ^ 8) && decide (m.mwl < 2 ^ 16) && decide (m.mrl < 2 ^ 16)

theorem mgtOk_eq (s : State) : s.mgtOk = s.mgt.fits := rfl

theorem Mgt.fits_iff {m : Mgt} : m.fits = true ↔ (∀ a, m.da = some a → a < 2 ^ 7) ∧ m.eid < 2 ^ 8 ∧ m.mwl < 2 ^ 16 ∧ m.mrl < 2 ^ 16 := by
  simp [Mgt.fits, Option.all_eq_true, and_assoc]

section

variable {s t : State}

/-- What a common command code does to the fields keeps them in their widths. -/
def KeepsFit (act : Mgt → Option (Mgt × List Nat)) : Prop := ∀ m m' l, m.fits = true → act m = some (m', l) → m'.fits = true

theorem mgtOk_ccc {act : Mgt → Option (Mgt × List Nat)} (hact : KeepsFit act) (h : s.mgtOk = true) : (s.ccc act).mgtOk = true := by
  unfold State.ccc
  split
  · exact h
  · split
    next m l hm => exact hact s.mgt m l h hm
    next => exact h

/-- A direct code acts on the fields only where the address is the port's own. -/
theorem keepsFit_direct (addr : Nat) {act : Mgt → Mgt → Mgt × List Nat} (hact : ∀ m, m.fits = true → (act m m).1.fits = true) :
    KeepsFit (fun m => m.direct addr (act m)) := by
  intro m m' l h hm
  simp only [Mgt.direct] at hm
  split at hm
  · obtain rfl : (act m m).1 = m' := congrArg Prod.fst (Option.some.inj hm)
    exact hact m h
  · cases hm

theorem keepsFit_some {act : Mgt → Mgt} {l : List Nat} (hact : ∀ m, m.fits = true → (act m).fits = true) : KeepsFit (fun m => some (act m, l)) := by
  intro m m' k h hm
  obtain rfl : act m = m' := congrArg Prod.fst (Option.some.inj hm)
  exact hact m h

theorem Mgt.fits_da {m : Mgt} (h : m.fits = true) (a : Nat) : ({ m with da := some (wrap 7 a) } : Mgt).fits = true := by
  obtain ⟨-, heid, hmwl, hmrl⟩ := Mgt.fits_iff.mp h
  refine Mgt.fits_iff.mpr ⟨fun b hb => ?_, heid, hmwl, hmrl⟩
  cases hb
  exact wrap_lt 7 a

theorem Mgt.fits_no_da {m : Mgt} (h : m.fits = true) : ({ m with da := none } : Mgt).fits = true := by
  obtain ⟨-, heid, hmwl, hmrl⟩ := Mgt.fits_iff.mp h
  exact Mgt.fits_iff.mpr ⟨nofun, heid, hmwl, hmrl⟩

theorem Mgt.fits_eid {m : Mgt} (h : m.fits = true) (e : Nat) : ({ m with eid := wrap 8 e } : Mgt).fits = true := by
  obtain ⟨hda, -, hmwl, hmrl⟩ := Mgt.fits_iff.mp h
  exact Mgt.fits_iff.mpr ⟨hda, wrap_lt 8 e, hmwl, hmrl⟩

theorem Mgt.fits_mwl {m : Mgt} (h : m.fits = true) (n : Nat) : ({ m with mwl := wrap 16 n } : Mgt).fits = true := by
  obtain ⟨hda, heid, -, hmrl⟩ := Mgt.fits_iff.mp h
  exact Mgt.fits_iff.mpr ⟨hda, heid, wrap_lt 16 n, hmrl⟩

theorem Mgt.fits_mrl {m : Mgt} (h : m.fits = true) (n : Nat) : ({ m with mrl := wrap 16 n } : Mgt).fits = true := by
  obtain ⟨hda, heid, hmwl, -⟩ := Mgt.fits_iff.mp h
  exact Mgt.fits_iff.mpr ⟨hda, heid, hmwl, wrap_lt 16 n⟩

theorem Mgt.fits_ibi {m : Mgt} (h : m.fits = true) (b : Bool) : ({ m with ibi := b } : Mgt).fits = true := h

theorem keepsFit_entdaa (addr : Nat) (id : List Nat) :
    KeepsFit (fun m => if m.da.isNone then some ({ m with da := some (wrap 7 addr) }, id) else none) := by
  intro m m' l h hm
  dsimp only at hm
  split at hm
  · obtain rfl := congrArg Prod.fst (Option.some.inj hm)
    exact Mgt.fits_da h addr
  · cases hm

theorem keepsFit_setdasa (addr : Nat) (p : Prop) [Decidable p] :
    KeepsFit (fun m => if m.da.isNone ∧ p then some ({ m with da := some (wrap 7 addr) }, []) else none) := by
  intro m m' l h hm
  dsimp only at hm
  split at hm
  · obtain rfl := congrArg Prod.fst (Option.some.inj hm)
    exact Mgt.fits_da h addr
  · cases hm

theorem mgtOk_execGetstatus (addr : Nat) (h : s.mgtOk = true) (ht : execGetstatus addr s = .next t) : t.mgtOk = true := by
  have hfree : (s.freeBytes 2).2.mgtOk = s.mgtOk := mgtOk_of_blank (freeBytes_blank (F := { freeCtr := true }) s 2 rfl) rfl
  exact next_inj ht ▸ mgtOk_ccc (keepsFit_direct addr (fun m hm => hm)) (hfree.trans h)

theorem mgtOk_execVbkLost (h : s.mgtOk = true) (ht : execVbkLost s = .next t) : t.mgtOk = true := by
  unfold execVbkLost at ht
  split at ht
  · exact next_inj ht ▸ h
  · exact next_inj ht ▸ (rfl : Mgt.fits {} = true)

theorem mgtOk_mgtRequest {act : State → Nat × List Nat × State} (hact : (act s).2.2.mgtOk = true) (h : s.mgtOk = true) :
    (s.mgtRequest act).mgtOk = true := by
  unfold State.mgtRequest
  split
  · exact h
  · split
    · exact h
    · change ((act s).2.2.ibi 0xA0).mgtOk = true
      unfold State.ibi
      split <;> exact hact

theorem mgtOk_execSetEndpointId (op eid : Nat) (h : s.mgtOk = true) (ht : execSetEndpointId op eid s = .next t) : t.mgtOk = true := by
  unfold execSetEndpointId at ht
  cases ht
  refine mgtOk_mgtRequest ?_ h
  dsimp only
  split
  · exact Mgt.fits_eid (m := s.mgt) h eid
  · exact h

end

/-! ## The addressed buffers -/

section

variable {s t : State}

theorem bufOk_iff : s.bufOk = true ↔ Buffer.wf s.tokbuf = true ∧ Buffer.wf s.pageBuf = true := by
  simp [State.bufOk, Buffer.wf]

theorem bufOk_writePlace (ten : Nat) (p : Place) (sz64 : Bool) (data : Nat) (h : s.bufOk = true) : (s.writePlace ten p sz64 data).2.bufOk = true := by
  obtain ⟨htok, hpage⟩ := bufOk_iff.mp h
  have hstore (r : RegRow) (i lo w : Nat) (b : Bool) : (if b then s else s.storeRow r i lo w data).bufOk = s.bufOk := by
    split
    · rfl
    · exact bufOk_of_blank (F := { regs := RegUnit.list }) (storeRow_blank s r i lo w data (has_of_all_units rfl)) rfl rfl
  have heffect (u old : State) (q : Place) (x : Nat) : (u.effect old ten q x).bufOk = u.bufOk := by
    refine bufOk_of_blank (F := { writeParts with tokbuf := false }) ?_ rfl rfl
    apply effect_blank <;> first | rfl | exact has_of_all_units rfl
  unfold State.writePlace
  generalize (if sz64 then 64 else 32) = w
  dsimp only
  split
  · exact bufOk_iff.mpr ⟨wf_writeBytes _ _ _ htok, hpage⟩
  · split
    · exact h
    · split
      · exact h
      · rw [heffect, hstore]
        exact h

theorem bufOk_ghpWrite (a data : Nat) (sz64 : Bool) (ten tag : Nat) (parOk : Bool) (h : s.bufOk = true) :
    (s.ghpWrite a data sz64 ten tag parOk).bufOk = true := by
  have hdone (u : State) (st : GhpStatus) : (u.ghpDone ten tag a true sz64 st 0).bufOk = u.bufOk :=
    bufOk_of_blank (F := { regs := [.ghp], pulses := true }) (ghpDone_blank u ten tag a true sz64 st 0 rfl rfl) rfl rfl
  unfold State.ghpWrite State.ghpAccept
  dsimp only
  split
  · exact h
  · split
    · exact h
    · split
      · exact (hdone _ _).trans h
      · split
        · exact h
        · exact (hdone _ _).trans (bufOk_writePlace ten (placeOf a) sz64 data h)

theorem bufOk_execRgWrite (region : Nat) (tile : Option Nat) (off : Nat) (sz64 : Bool) (data ten tag : Nat) (h : s.bufOk = true)
    (ht : execRgWrite region tile off sz64 data ten tag s = .next t) : t.bufOk = true := by
  unfold execRgWrite at ht
  generalize (if sz64 then 64 else 32) = w at ht
  dsimp only at ht
  split at ht <;> cases ht
  · exact h
  · exact bufOk_writePlace (s := s.recv _) _ _ _ _ h

theorem bufOk_setAll (i : Nat) (l : List (RegField × Nat)) (h : s.bufOk = true) : (s.setAll i l).bufOk = true := by
  rw [bufOk_of_blank (setAll_blank (F := { regs := RegUnit.list }) s i l (List.all_eq_true.mpr (fun _ _ => has_of_all_units rfl _))) rfl rfl]
  exact h

theorem tokbuf_sealCheck (s : State) (p : Page) (r : Trailer) : (s.sealCheck p r).2.tokbuf = s.tokbuf :=
  tokbuf_of_blank (sealCheck_blank (F := { regs := [.ldg], vault := true, freeCtr := true }) s p r rfl rfl rfl) rfl

theorem bufOk_execLedgerReadDone (error : Bool) (h : s.bufOk = true) (ht : execLedgerReadDone error s = .next t) : t.bufOk = true := by
  unfold execLedgerReadDone at ht
  split at ht
  next => exact next_inj ht ▸ h
  next found verify _ =>
    split at ht
    · exact next_inj ht ▸ bufOk_setAll _ _ h
    · split at ht
      next => exact next_inj ht ▸ bufOk_setAll _ _ h
      next p _ =>
        split at ht
        next => exact next_inj ht ▸ bufOk_setAll _ _ h
        next r _ =>
          have hcheck (u : State) : (if verify then u.sealCheck p r else (0, u)).2.tokbuf = u.tokbuf := by
            cases verify
            · rfl
            · exact tokbuf_sealCheck u p r
          refine next_inj ht ▸ bufOk_setAll _ _ (bufOk_iff.mpr ⟨?_, wf_writeBytes _ _ _ rfl⟩)
          exact (congrArg Buffer.wf (hcheck _)).trans (bufOk_iff.mp h).1

end

/-! ## The tick -/

/-- What a running tick does once GT has advanced. -/
def State.tickAfterGt (s : State) : State :=
  let s := s.flueTick
  let s := s.mapPorts (fun p => { p with unseq := 0 })
  let s := (s.probes.map (·.1)).foldl (fun (s : State) (k : Nat) => s.countCycles (k / 2048) (k % 2048)) s
  let s := s.busyTiles.foldl (fun (s : State) e => s.countBusy e.1 e.2.1 e.2.2) s
  let s := (s.hubs.map (·.1)).foldl (fun (s : State) (r : Nat) => s.gapTick r) s
  let s := if s.gt % 64 = 0 then { s with pwr := s.pwr.advance s.pwr.tickLength } else s
  if s.gt % 4 = 0 then s.kick else s

theorem tick_of_running {s : State} (hstopped : s.pwr.stopped = false) (hrunning : s.pwr.running = true) : s.tick = s.advanceGt.tickAfterGt := by
  simp only [State.tick, hstopped, hrunning, Bool.false_eq_true, if_false, if_true]
  rfl

theorem tick_of_not_running {s : State} (hstopped : s.pwr.stopped = false) (hrunning : s.pwr.running = false) :
    s.tick = { s with pwr := s.pwr.advance s.pwr.tickLength } := by
  simp [State.tick, hstopped, hrunning]

theorem tick_of_stopped {s : State} (hstopped : s.pwr.stopped = true) : s.tick = s := by simp [State.tick, hstopped]

theorem tickAfterGt_unchanged (s : State) : Unchanged { Fields.all with gt := false } s s.tickAfterGt := by
  have hkick (u : State) : Unchanged { Fields.all with gt := false } u (if u.gt % 4 = 0 then u.kick else u) := by
    split
    · exact kick_blank u rfl rfl rfl rfl rfl rfl rfl rfl rfl rfl rfl rfl rfl rfl rfl rfl rfl rfl rfl rfl rfl rfl rfl rfl rfl rfl
    · rfl
  have hclock (u : State) : Unchanged { Fields.all with gt := false } u
      (if u.gt % 64 = 0 then { u with pwr := u.pwr.advance u.pwr.tickLength } else u) := by
    split <;> rfl
  unfold State.tickAfterGt
  dsimp only
  refine (hkick _).trans ((hclock _).trans ?_)
  refine (foldl_blank _ _ _ (fun u r => gapTick_blank u r rfl rfl rfl rfl)).trans ?_
  refine (foldl_blank _ _ _ (fun u e => countBusy_blank u _ _ _ rfl rfl)).trans ?_
  refine (foldl_blank _ _ _ (fun u k => countCycles_blank u _ _ rfl)).trans ?_
  exact (mapPorts_blank _ _ rfl).trans (flueTick_blank s rfl rfl)

/-- Where the VDD side runs a tick is one HCLK of GT (R29). -/
theorem gt_tick {s : State} (hstopped : s.pwr.stopped = false) (hrunning : s.pwr.running = true) : s.tick.gt = wrap 64 (s.gt + 1) := by
  rw [tick_of_running hstopped hrunning]
  exact gt_of_blank (tickAfterGt_unchanged s.advanceGt) rfl

theorem inv_tick {s : State} (h : s.Inv) : s.tick.Inv := by
  cases hstopped : s.pwr.stopped with
  | true => exact (tick_of_stopped hstopped).symm ▸ h
  | false =>
    cases hrunning : s.pwr.running with
    | false =>
      rw [tick_of_not_running hstopped hrunning]
      exact h
    | true =>
      have hframe : Unchanged { Fields.all with timeRounds := false, ghp := false, mgt := false, tokbuf := false, pageBuf := false } s s.tick := by
        apply tick_blank <;> rfl
      refine inv_of_blank hframe h (fun _ => ?_) nofun nofun nofun
      obtain ⟨-, htime, -⟩ := h
      simp only [State.timeOk, Bool.and_eq_true, decide_eq_true_eq] at htime ⊢
      rw [gt_tick hstopped hrunning, timeRounds_of_blank hframe rfl]
      exact ⟨wrap_lt 64 _, htime.2⟩

/-! ## Every step -/

theorem timeOk_execTimeRound {s t : State} (h : s.timeOk = true) (ht : execTimeRound s = .next t) : t.timeOk = true := by
  simp only [State.timeOk, Bool.and_eq_true, decide_eq_true_eq] at h ⊢
  unfold execTimeRound at ht
  cases ht
  split
  · exact h
  · refine ⟨?_, wrap_lt 25 _⟩
    change (List.foldl _ s _).gt < 2 ^ 64
    rw [gt_of_blank (F := { flue := true, net := true, freeCtr := true }) (foldl_blank _ _ _ (fun u y => sendTime_blank u _ _ _ rfl rfl)) rfl]
    exact h.1

/-- The commands named reach a part that the invariant reads; every other command stays outside of them. -/
theorem inv_exec {c : Instr} {s t : State} (h : s.Inv) (ht : exec c s = .next t) : t.Inv := by
  have hframe := exec_keeps c s t ht
  have hparts := h
  obtain ⟨-, htime, hghp, hmgt, hbuf⟩ := hparts
  cases c
  case timeRound => exact inv_of_blank hframe h (fun _ => timeOk_execTimeRound htime ht) nofun nofun nofun
  case vaonLost half => exact inv_execVaonLost half h ht
  case vddLost half => exact inv_execVddLost half h ht
  case holdoverEnter half => exact inv_execHoldoverEnter half h ht
  case porbAssert half => exact inv_execPorbAssert half h ht
  case stopDone => exact inv_execStopDone h ht
  case rgRead => exact inv_of_blank hframe h nofun (fun _ => ghpOk_execRgRead _ _ _ _ _ _ hghp ht) nofun nofun
  case mrRead => exact inv_of_blank hframe h nofun (fun _ => ghpOk_execMrRead _ _ _ _ _ hghp ht) nofun nofun
  case rgRdata | rgWack | ghpTimeout =>
    exact inv_of_blank hframe h nofun (fun _ => next_inj ht ▸ ghpOk_ghpEnd _ _ _ _ hghp) nofun nofun
  case registerWrite =>
    exact inv_of_blank hframe h nofun (fun _ => next_inj ht ▸ ghpOk_ghpWrite _ _ _ _ _ (wrap_lt 6 _) hghp) nofun
      (fun _ => next_inj ht ▸ bufOk_ghpWrite _ _ _ _ _ _ hbuf)
  case rgWrite => exact inv_of_blank hframe h nofun nofun nofun (fun _ => bufOk_execRgWrite _ _ _ _ _ _ _ hbuf ht)
  case ledgerReadDone => exact inv_of_blank hframe h nofun nofun nofun (fun _ => bufOk_execLedgerReadDone _ hbuf ht)
  case setEndpointId => exact inv_of_blank hframe h nofun nofun (fun _ => mgtOk_execSetEndpointId _ _ hmgt ht) nofun
  case entdaa addr => exact inv_of_blank hframe h nofun nofun (fun _ => next_inj ht ▸ mgtOk_ccc (keepsFit_entdaa addr _) hmgt) nofun
  case setdasa sa addr => exact inv_of_blank hframe h nofun nofun (fun _ => next_inj ht ▸ mgtOk_ccc (keepsFit_setdasa addr _) hmgt) nofun
  case setnewda old new =>
    exact inv_of_blank hframe h nofun nofun (fun _ => next_inj ht ▸ mgtOk_ccc (keepsFit_direct old (fun m hm => Mgt.fits_da hm new)) hmgt) nofun
  case rstdaa => exact inv_of_blank hframe h nofun nofun (fun _ => next_inj ht ▸ mgtOk_ccc (keepsFit_some (fun m hm => Mgt.fits_no_da hm)) hmgt) nofun
  case enec addr events | disec addr events =>
    refine inv_of_blank hframe h nofun nofun (fun _ => ?_) nofun
    cases addr
    · exact next_inj ht ▸ mgtOk_ccc (keepsFit_some (fun m hm => Mgt.fits_ibi hm _)) hmgt
    · exact next_inj ht ▸ mgtOk_ccc (keepsFit_direct _ (fun m hm => Mgt.fits_ibi hm _)) hmgt
  case setmwl addr len =>
    refine inv_of_blank hframe h nofun nofun (fun _ => ?_) nofun
    cases addr
    · exact next_inj ht ▸ mgtOk_ccc (keepsFit_some (fun m hm => Mgt.fits_mwl hm len)) hmgt
    · exact next_inj ht ▸ mgtOk_ccc (keepsFit_direct _ (fun m hm => Mgt.fits_mwl hm len)) hmgt
  case setmrl addr len =>
    refine inv_of_blank hframe h nofun nofun (fun _ => ?_) nofun
    cases addr
    · exact next_inj ht ▸ mgtOk_ccc (keepsFit_some (fun m hm => Mgt.fits_mrl hm len)) hmgt
    · exact next_inj ht ▸ mgtOk_ccc (keepsFit_direct _ (fun m hm => Mgt.fits_mrl hm len)) hmgt
  case getpid addr | getbcr addr | getdcr addr | getmwl addr | getmrl addr =>
    exact inv_of_blank hframe h nofun nofun (fun _ => next_inj ht ▸ mgtOk_ccc (keepsFit_direct addr (fun m hm => hm)) hmgt) nofun
  case getstatus addr => exact inv_of_blank hframe h nofun nofun (fun _ => mgtOk_execGetstatus addr hmgt ht) nofun
  case vbkLost => exact inv_of_blank hframe h nofun nofun (fun _ => mgtOk_execVbkLost hmgt ht) nofun
  all_goals exact inv_of_outside hframe rfl h

/-- Settles O7, by the commands that reach a part of the invariant and the tick. -/
theorem stepKeepsTheInvariant : Obligations.StepKeepsTheInvariant := by
  unfold Obligations.StepKeepsTheInvariant
  intro s t h ht
  cases hpending : s.pending with
  | nil =>
    rw [step_nil hpending] at ht
    cases ht
    exact inv_tick h
  | cons c rest =>
    rw [step_cons hpending] at ht
    obtain ⟨hqueue, hparts⟩ := h
    refine inv_exec (s := { s with pending := rest }) ⟨?_, hparts⟩ ht
    rw [State.queueOk, hpending, List.all_cons, Bool.and_eq_true] at hqueue
    exact hqueue.2

/-- Settles O4: the state after reset is empty but for the two lengths of the management port. -/
theorem resetMeetsTheInvariant : Obligations.ResetMeetsTheInvariant := by
  unfold Obligations.ResetMeetsTheInvariant
  exact ⟨rfl, rfl, rfl, rfl, rfl⟩

/-- Settles O1. -/
theorem stepRunsTheFrontCommand : Obligations.StepRunsTheFrontCommand := by
  unfold Obligations.StepRunsTheFrontCommand
  intro c rest s
  rfl

/-- Settles O2, by the three cases of the tick. -/
theorem stepWithoutACommandTicks : Obligations.StepWithoutACommandTicks := by
  unfold Obligations.StepWithoutACommandTicks
  intro s hpending
  rw [step_nil hpending]
  refine ⟨fun hstopped => ?_, fun hstopped hrunning => ?_, fun hstopped hrunning => ?_⟩
  · rw [tick_of_stopped hstopped]
  · exact ⟨s.tick, rfl, gt_tick hstopped hrunning, (tick_pending s).trans hpending⟩
  · rw [tick_of_not_running hstopped hrunning]

end Sys2Proof.Machine
end

section
/-! SUPPORT. Register fields after a write of another field, and host writes (R488, R490): what each row that is one does with its request, and what a
completion leaves. -/

namespace Sys2Proof.Machine

open Sys2Proof

/-! ## Fields that a write of another leaves alone -/

/-- Two fields never share a key: their units differ, or they lie at different places of one window. -/
def RegField.apart (g f : RegField) : Bool :=
  g.unit != f.unit || (g.win == f.win && decide (g.lo < 1024) && decide (f.lo < 1024) && (g.off, g.lo) != (f.off, f.lo))

theorem key_ne_of_unit_ne {f g : RegField} (h : g.unit ≠ f.unit) (i j : Nat) : g.key j ≠ f.key i := by
  intro hkey
  exact h (by rw [← ofCode_key g j, ← ofCode_key f i, hkey])

theorem key_ne_of_apart {f g : RegField} (h : g.apart f = true) (i : Nat) : g.key i ≠ f.key i := by
  simp only [RegField.apart, Bool.or_eq_true, bne_iff_ne, Bool.and_eq_true, beq_iff_eq, decide_eq_true_eq] at h
  rcases h with hunit | ⟨⟨⟨hwin, hg⟩, hf⟩, hplace⟩
  · exact key_ne_of_unit_ne hunit i i
  · exact key_ne_of_place_ne i ⟨hwin, hg, hf, hplace⟩

theorem get_set_apart {f g : RegField} (h : g.apart f = true) (s : State) (i v : Nat) : (s.set f i v).get g i = s.get g i :=
  get_set_ne (key_ne_of_apart h i) s v

theorem get_raise_apart {f g : RegField} (h : g.apart f = true) (s : State) (i : Nat) : (s.raise f i).get g i = s.get g i :=
  get_set_apart h s i 1

theorem get_bump_apart {f g : RegField} (h : g.apart f = true) (s : State) (i n : Nat) : (s.bump f i n).get g i = s.get g i :=
  get_set_apart h s i _

theorem get_setAll_apart {g : RegField} {i : Nat} (l : List (RegField × Nat)) (h : l.all (fun e => g.apart e.1) = true) (s : State) :
    (s.setAll i l).get g i = s.get g i := by
  induction l generalizing s with
  | nil => rfl
  | cons e l ih =>
    obtain ⟨f, v⟩ := e
    rw [List.all_cons, Bool.and_eq_true] at h
    rw [State.setAll, ih h.2, get_set_apart h.1]

/-! ## Completions -/

section

variable {st : GhpStatus} {e : RegField} (he : st.event = some e) (s : State) (ten tag addr : Nat) (wr sz64 : Bool) (data : Nat)

/-- The fields that a completion writes when its status has an event. -/
def ghpLog (ten tag addr : Nat) (wr sz64 : Bool) (st : GhpStatus) (gt : Nat) : List (RegField × Nat) :=
  [(Reg.GHP_ERRLOG_ADDR, addr), (Reg.GHP_ERRLOG_TEN, ten), (Reg.GHP_ERRLOG_TAG, tag), (Reg.GHP_ERRLOG_WR, flag wr),
    (Reg.GHP_ERRLOG_SZ, flag sz64), (Reg.GHP_ERRLOG_STATUS, st.code), (Reg.GHP_ERRLOG_GT, gt)]

include he

theorem get_ghpDone_of_event (f : RegField) : (s.ghpDone ten tag addr wr sz64 st data).get f 0 =
    ((s.raise e 0).setAll 0 (ghpLog ten tag addr wr sz64 st s.gt)).get f 0 := by
  simp [State.ghpDone, he, ghpLog]

/-- The event of a completion other than OK, and its entry in the log (R490, R506). -/
theorem get_event_ghpDone : (s.ghpDone ten tag addr wr sz64 st data).get e 0 = 1 := by
  rw [get_ghpDone_of_event he]
  have hone : e.w = 1 ∧ (ghpLog ten tag addr wr sz64 st s.gt).all (fun x => e.apart x.1) = true := by
    cases st <;> cases he <;> exact ⟨rfl, rfl⟩
  rw [get_setAll_apart _ hone.2, get_raise_self, hone.1]
  rfl

theorem get_errlogAddr_ghpDone : (s.ghpDone ten tag addr wr sz64 st data).get Reg.GHP_ERRLOG_ADDR 0 = wrap 32 addr := by
  rw [get_ghpDone_of_event he]
  simp (disch := decide) only [ghpLog, State.setAll, get_set_apart, get_set_self]
  rfl

theorem get_errlogStatus_ghpDone : (s.ghpDone ten tag addr wr sz64 st data).get Reg.GHP_ERRLOG_STATUS 0 = st.code := by
  rw [get_ghpDone_of_event he]
  simp (disch := decide) only [ghpLog, State.setAll, get_set_apart, get_set_self]
  cases st <;> rfl

end

theorem pulses_ghpDone (s : State) (ten tag addr : Nat) (wr sz64 : Bool) (st : GhpStatus) (data : Nat) :
    (s.ghpDone ten tag addr wr sz64 st data).pulses = s.pulses ++ [.ghpRs tag st.code (if st = .ok ∨ st = .locked then wrap 64 data else 0)] := by
  have hregs (i : Nat) (l : List (RegField × Nat)) (u : State) : (u.setAll i l).pulses = u.pulses := by
    induction l generalizing u with
    | nil => rfl
    | cons x l ih => exact ih _
  unfold State.ghpDone
  cases st.event <;> simp [State.emit, hregs]

/-- A completion touches the port's own registers and gives its response. -/
theorem ghpDone_unchanged (s : State) (ten tag addr : Nat) (wr sz64 : Bool) (st : GhpStatus) (data : Nat) :
    Unchanged { regs := [.ghp], pulses := true } s (s.ghpDone ten tag addr wr sz64 st data) :=
  ghpDone_blank s ten tag addr wr sz64 st data rfl rfl

/-! ## Acceptance and judgement -/

section

variable {s : State} {tag : Nat}

theorem takes_iff : s.takes tag = true ↔ s.pwr.running = true ∧ s.ghp.length < 64 ∧ s.ghp.any (fun q => q.tag == wrap 6 tag) = false := by
  simp [State.takes, and_assoc]

theorem ghpAccept_of_takes (h : s.takes tag = true) (go : State) : s.ghpAccept (wrap 6 tag) go = go := by
  obtain ⟨hrun, hlen, hnew⟩ := takes_iff.mp h
  simp [State.ghpAccept, hrun, hnew, Nat.not_le.mpr hlen]

theorem ghpAccept_of_duplicate (hrun : s.pwr.running = true) (hlen : s.ghp.length < 64) (hdup : s.ghp.any (fun q => q.tag == tag) = true) (go : State) :
    s.ghpAccept tag go = s.raise Reg.GHP_EVENT_TAGDUP 0 := by
  simp [State.ghpAccept, hrun, hdup, Nat.not_le.mpr hlen]

/-- A host write that the port takes is judged, carried out where its status is OK, and answered. -/
theorem hostWriteIn_of_takes (h : s.takes tag = true) (refusedOk : Bool) (ten addr : Nat) (owner : Option Nat) (declared : Bool) (act : State → State) :
    s.hostWriteIn refusedOk ten tag addr owner declared act =
      (if s.judgeWrite (wrap 12 ten) owner refusedOk declared = .ok then act s else s).ghpDone (wrap 12 ten) (wrap 6 tag) addr true false
        (s.judgeWrite (wrap 12 ten) owner refusedOk declared) 0 :=
  ghpAccept_of_takes h _

theorem judgeWrite_of_sealed (hseal : s.isSealed = true) (href : s.bru.state ≠ .refused) (owner : Option Nat) (refusedOk declared : Bool) :
    s.judgeWrite 0 owner refusedOk declared = .sealed_ := by
  simp [State.judgeWrite, hseal, href]

end

/-! ## The rows that are host writes -/

theorem catRequest_eq (s : State) (op x y count tenant ten tag : Nat) (act : State → State) : s.catRequest op x y count tenant ten tag act =
    s.hostWriteIn false ten tag 0x340000 none true (fun s => s.catWrite op x y count tenant act) := rfl

theorem stkWriteCtrl_eq (s : State) (n value ten tag : Nat) (act : State → State) : s.stkWriteCtrl n value ten tag act =
    s.hostWriteIn false ten tag (0x140408 + 0x40 * n) (some (s.stkTag n)) true
      (fun s => if n < 4 ∨ 32 ≤ n then s else act (s.stkFields n value ten)) := rfl

/-- Each row of R487's host writes is one host write of its requester under its tag. -/
theorem exec_of_hostWriteOf {c : Instr} {ten tag : Nat} (h : hostWriteOf c = some (ten, tag)) (s : State) :
    ∃ refusedOk addr owner declared act, exec c s = .next (s.hostWriteIn refusedOk ten tag addr owner declared act) := by
  unfold hostWriteOf at h
  cases c
  case catReqAssign | catReqUnassign | catReqRestore | catReqQuench =>
    cases h
    exact ⟨_, _, _, _, _, congrArg _ (catRequest_eq _ _ _ _ _ _ _ _ _)⟩
  case stkGo | stkAbort =>
    cases h
    exact ⟨_, _, _, _, _, congrArg _ (stkWriteCtrl_eq _ _ _ _ _ _)⟩
  all_goals first
    | cases h
      exact ⟨_, _, _, _, _, rfl⟩
    | cases h

/-- Settles O8. -/
theorem sealedWritesRefused : Obligations.SealedWritesRefused := by
  unfold Obligations.SealedWritesRefused
  intro c ten tag s hrow hten htakes href hseal
  obtain ⟨refusedOk, addr, owner, declared, act, hexec⟩ := exec_of_hostWriteOf hrow s
  refine ⟨_, hexec, ?_⟩
  rw [hostWriteIn_of_takes htakes, hten, judgeWrite_of_sealed hseal href]
  refine ⟨?_, get_event_ghpDone rfl _ _ _ _ _ _ _, ghpDone_unchanged _ _ _ _ _ _ _ _⟩
  rw [pulses_ghpDone]
  exact List.mem_append_right _ (List.mem_singleton.mpr rfl)

/-! ## A tag that is outstanding -/

section

variable {s : State} {tag : Nat} (hrun : s.pwr.running = true) (hlen : s.ghp.length < 64) (hdup : s.ghp.any (fun q => q.tag == wrap 6 tag) = true)

include hrun hlen hdup

/-- A read that is not answered by the Kiln itself is discarded alike; the message that its row may take off the Flue is gone. -/
theorem execRgRead_of_duplicate (region : Nat) (tile : Option Nat) (off : Nat) (sz64 : Bool) (ten : Nat) :
    ∃ m, execRgRead region tile off sz64 ten tag s = .next ((s.recv m).raise Reg.GHP_EVENT_TAGDUP 0) := by
  refine ⟨msgRgRead (placeOf (ghpReadAddr region tile off)).unitSrc (wrap 6 tag) (wrap 12 ten) (placeOf (ghpReadAddr region tile off)).off sz64, ?_⟩
  unfold execRgRead State.ghpReadHere State.ghpForward
  simp only [ghpAccept_of_duplicate (s := s.recv _) (tag := wrap 6 tag) hrun hlen hdup, ite_self]

theorem execMrRead_of_duplicate (region off : Nat) (sz64 lens : Bool) :
    ∃ m, execMrRead region off sz64 lens tag s = .next ((s.recv m).raise Reg.GHP_EVENT_TAGDUP 0) := by
  refine ⟨msgMrRead region (wrap 6 tag) (wrap 23 off) sz64 lens, ?_⟩
  unfold execMrRead State.ghpForward
  simp only [ghpAccept_of_duplicate (s := s.recv _) (tag := wrap 6 tag) hrun hlen hdup]

end

/-- Settles O9. -/
theorem duplicateTagDiscarded : Obligations.DuplicateTagDiscarded := by
  unfold Obligations.DuplicateTagDiscarded
  intro s tag hrun hlen hdup
  refine ⟨fun c ten hrow => ?_, fun addr data ten sz64 parOk => ?_, fun region off ten tile sz64 => ?_, fun region off sz64 lens => ?_⟩
  · obtain ⟨refusedOk, addr, owner, declared, act, hexec⟩ := exec_of_hostWriteOf hrow s
    rw [hexec]
    exact congrArg _ (ghpAccept_of_duplicate hrun hlen hdup _)
  · exact congrArg _ (ghpAccept_of_duplicate hrun hlen hdup _)
  · obtain ⟨m, hexec⟩ := execRgRead_of_duplicate hrun hlen hdup region tile off sz64 ten
    exact ⟨_, hexec, rfl, rfl, get_raise_self _ _ _⟩
  · obtain ⟨m, hexec⟩ := execMrRead_of_duplicate hrun hlen hdup region off sz64 lens
    exact ⟨_, hexec, rfl, rfl, get_raise_self _ _ _⟩

/-! ## Register writes -/

theorem exec_registerWrite (addr data ten tag : Nat) (sz64 parOk : Bool) (s : State) : exec (.registerWrite addr data sz64 ten tag parOk) s =
    .next (s.ghpWrite (wrap 32 addr) data sz64 (wrap 12 ten) (wrap 6 tag) parOk) := rfl

/-- A register write whose status is not OK is answered with it and goes no further. -/
theorem ghpWrite_of_refused {s : State} {tag ten a : Nat} {sz64 parOk : Bool} {st : GhpStatus} (h : s.takes tag = true)
    (hst : s.writeStatus parOk ten a sz64 = st) (hne : st ≠ .ok) (data : Nat) :
    s.ghpWrite a data sz64 ten (wrap 6 tag) parOk = s.ghpDone ten (wrap 6 tag) a true sz64 st 0 := by
  unfold State.ghpWrite
  rw [ghpAccept_of_takes h, hst]
  exact if_pos hne

section

variable {s : State} {parOk sz64 : Bool} {ten a : Nat}

/-- The requester has no right to the place: the mirror, a place that is not its own, or one that REFUSED keeps closed (R428, R486, R490). -/
def State.noRight (s : State) (ten a : Nat) : Prop :=
  inMirror a = true ∨ (inWindow a = true ∧ s.mayWrite ten (placeOf a) = false) ∨ (s.bru.state = .refused ∧ refusedWritable a = false)

theorem writeStatus_of_no_right (hpar : parOk = true) (halign : misaligned a sz64 = false) (hright : s.noRight ten a) :
    s.writeStatus parOk ten a sz64 = .denied := by
  unfold State.writeStatus
  simp only [hpar, halign, Bool.true_eq_false, Bool.false_eq_true, if_false]
  exact if_pos hright

theorem writeStatus_of_right (hpar : parOk = true) (halign : misaligned a sz64 = false) (hright : ¬ s.noRight ten a) :
    s.writeStatus parOk ten a sz64 = if s.isSealed = true then .sealed_
      else if inWindow a = false ∨ s.placeExists (placeOf a) = false ∨
        (rowAt (placeOf a).win (placeOf a).off = none ∧ s.arrayWord (placeOf a).word = none) then .rsvd else .ok := by
  unfold State.writeStatus
  simp only [hpar, halign, Bool.true_eq_false, Bool.false_eq_true, if_false]
  refine (if_neg hright).trans ?_
  simp only [Bool.and_eq_true, Option.isNone_iff_eq_none]

end

/-- Settles O10: the status of a write follows the response table from the top. -/
theorem registerWriteStatuses : Obligations.RegisterWriteStatuses := by
  unfold Obligations.RegisterWriteStatuses
  intro addr data ten tag sz64 parOk s htakes a p refused noRight noRegister
  have hrefused (st : GhpStatus) (e : RegField) (he : st.event = some e) (hlocked : st ≠ .locked)
      (hst : s.writeStatus parOk (wrap 12 ten) a sz64 = st) : refused st.code := by
    have hne : st ≠ .ok := fun hok => by simp [hok, GhpStatus.event] at he
    refine ⟨_, exec_registerWrite addr data ten tag sz64 parOk s, ?_⟩
    rw [ghpWrite_of_refused htakes hst hne]
    refine ⟨?_, (get_errlogAddr_ghpDone he _ _ _ _ _ _ _).trans (wrap_wrap 32 addr), get_errlogStatus_ghpDone he _ _ _ _ _ _ _,
      ghpDone_unchanged _ _ _ _ _ _ _ _⟩
    rw [pulses_ghpDone, if_neg (not_or.mpr ⟨hne, hlocked⟩)]
    exact List.mem_append_right _ (List.mem_singleton.mpr rfl)
  refine ⟨fun hpar => ?_, fun hpar halign => ?_, fun hpar halign hright => ?_, fun hpar halign hright hseal => ?_,
    fun hpar halign hright hseal hreg => ?_⟩
  · exact hrefused .parity _ rfl nofun (by simp [State.writeStatus, hpar])
  · exact hrefused .align _ rfl nofun (by simp [State.writeStatus, hpar, halign])
  · exact hrefused .denied _ rfl nofun (writeStatus_of_no_right hpar halign hright)
  · exact hrefused .sealed_ _ rfl nofun (by rw [writeStatus_of_right hpar halign hright, if_pos hseal])
  · have hopen : ¬ s.isSealed = true := by simp [hseal]
    exact hrefused .rsvd _ rfl nofun (by rw [writeStatus_of_right hpar halign hright, if_neg hopen, if_pos hreg])

end Sys2Proof.Machine
end

section
/-! SUPPORT. Writes to the Vault's token buffer through the host port (R358, R486, R490): their place, their status and the bytes they leave. -/

namespace Sys2Proof.Machine

open Sys2Proof

/-! ## Bytes of a word -/

theorem length_bytesLE (n x : Nat) : (bytesLE n x).length = n := by
  induction n generalizing x with
  | zero => rfl
  | succ n ih => rw [bytesLE, List.length_cons, ih]

theorem getElem_bytesLE {n i : Nat} (x : Nat) (hi : i < (bytesLE n x).length) : (bytesLE n x)[i] = BitVec.ofNat 8 (x / 256 ^ i) := by
  induction n generalizing x i with
  | zero => cases hi
  | succ n ih =>
    cases i with
    | zero => simp [bytesLE]
    | succ i =>
      simp only [bytesLE, List.getElem_cons_succ]
      rw [ih, Nat.div_div_eq_div_mul, Nat.pow_succ']

/-! ## Requests of tenant 0 that are allowed -/

theorem admits_iff {s : State} {ten tag : Nat} {owner : Option Nat} : s.admits ten tag owner = true ↔
    s.takes tag = true ∧ (wrap 12 ten = 0 ∨ owner = some (wrap 12 ten)) ∧ s.bru.state ≠ .refused ∧ s.isSealed = false := by
  simp [State.admits, and_assoc]

/-! ## The place -/

section

variable {off : Nat} (hoff : off < 0xE00)

include hoff

theorem placeOf_tokenBuffer : placeOf (0x101000 + off) = ⟨.kiln, 0, 0x101000 + off⟩ := by
  unfold placeOf
  simp only [show ¬ (0x140100 ≤ 0x101000 + off ∧ 0x101000 + off < 0x140200) by omega, show ¬ (0x140400 ≤ 0x101000 + off ∧ 0x101000 + off < 0x140C00) by omega,
    show ¬ (0x180000 ≤ 0x101000 + off ∧ 0x101000 + off < 0x1C0000) by omega, show ¬ (0x1000000 ≤ 0x101000 + off ∧ 0x101000 + off < 0x2000000) by omega,
    show ¬ (0x8000000 ≤ 0x101000 + off ∧ 0x101000 + off < 0xC800000) by omega,
    show ¬ (0x10000000 ≤ 0x101000 + off ∧ 0x101000 + off < 0x34000000) by omega, if_false]

/-- The buffer lies apart from every register of the Kiln. -/
theorem rowAt_tokenBuffer : rowAt .kiln (0x101000 + off) = none := by
  have hrows : kilnRows.all (fun r => decide (r.off + r.size ≤ 0x101000 ∨ 0x101E00 ≤ r.off)) = true := by decide
  refine List.find?_eq_none.mpr (fun r hr => ?_)
  have hr' := List.all_eq_true.mp hrows r hr
  simp only [decide_eq_true_eq] at hr' ⊢
  omega

theorem arrayWord_tokenBuffer (s : State) : (s.arrayWord (⟨.kiln, 0, 0x101000 + off⟩ : Place).word).isSome = true := by
  have hlo : ¬ (0x2000 ≤ 0x101000 + off - (0x101000 + off) % 8 ∧ 0x101000 + off - (0x101000 + off) % 8 < 0x4000) := by omega
  have hin : 0x101000 ≤ 0x101000 + off - (0x101000 + off) % 8 ∧ 0x101000 + off - (0x101000 + off) % 8 < 0x101E00 := by omega
  unfold State.arrayWord Place.word
  simp only [if_neg hlo, if_pos hin, Option.isSome_some]

theorem misaligned_tokenBuffer {sz64 : Bool} (halign : off % (if sz64 then 8 else 4) = 0) : misaligned (0x101000 + off) sz64 = false := by
  have hmod : (0x101000 + off) % (if sz64 then 8 else 4) = 0 := by
    cases sz64 <;> simp only [Bool.false_eq_true, if_false, if_true] at halign ⊢ <;> omega
  simp [misaligned, hmod, placeOf_tokenBuffer hoff, rowAt_tokenBuffer hoff]

theorem writeStatus_tokenBuffer {s : State} {sz64 : Bool} (halign : off % (if sz64 then 8 else 4) = 0) (href : s.bru.state ≠ .refused)
    (hseal : s.isSealed = false) : s.writeStatus true 0 (0x101000 + off) sz64 = .ok := by
  have hright : ¬ s.noRight 0 (0x101000 + off) := by
    simp only [State.noRight, inMirror, decide_eq_true_eq, State.mayWrite, href, false_and, or_false]
    rintro (h | ⟨-, h⟩)
    · omega
    · simp at h
  have hwindow : inWindow (0x101000 + off) = true := by
    simp only [inWindow, decide_eq_true_eq]
    omega
  have hexists : s.placeExists ⟨.kiln, 0, 0x101000 + off⟩ = true := rfl
  have harray : s.arrayWord (⟨.kiln, 0, 0x101000 + off⟩ : Place).word ≠ none := Option.isSome_iff_ne_none.mp (arrayWord_tokenBuffer hoff s)
  rw [writeStatus_of_right rfl (misaligned_tokenBuffer hoff halign) hright, if_neg (by simp [hseal]), placeOf_tokenBuffer hoff, if_neg]
  simp [hwindow, hexists, harray]

theorem writePlace_tokenBuffer (s : State) (ten : Nat) (sz64 : Bool) (data : Nat) :
    s.writePlace ten ⟨.kiln, 0, 0x101000 + off⟩ sz64 data =
      (.ok, { s with tokbuf := writeBytes s.tokbuf off (bytesLE (if sz64 then 8 else 4) data) }) := by
  have hin : (Win.kiln = .kiln ∧ 0x101000 ≤ 0x101000 + off ∧ 0x101000 + off < 0x101E00) := ⟨rfl, by omega, by omega⟩
  unfold State.writePlace
  refine (if_pos hin).trans ?_
  simp only [Nat.add_sub_cancel_left]
  cases sz64 <;> rfl

/-- An admitted write of the buffer is carried out and answered OK. -/
theorem exec_registerWrite_tokenBuffer {s : State} {tag : Nat} {sz64 : Bool} (data : Nat) (h : s.admits 0 tag none = true)
    (halign : off % (if sz64 then 8 else 4) = 0) :
    exec (.registerWrite (0x101000 + off) data sz64 0 tag true) s =
      .next (({ s with tokbuf := writeBytes s.tokbuf off (bytesLE (if sz64 then 8 else 4) data) } : State).ghpDone 0 (wrap 6 tag) (0x101000 + off) true sz64 .ok 0) := by
  obtain ⟨htakes, -, href, hseal⟩ := admits_iff.mp h
  have haddr : wrap 32 (0x101000 + off) = 0x101000 + off := wrap_of_lt (by omega)
  rw [exec_registerWrite, haddr, wrap_zero]
  unfold State.ghpWrite
  rw [ghpAccept_of_takes htakes, writeStatus_tokenBuffer hoff halign href hseal, placeOf_tokenBuffer hoff, writePlace_tokenBuffer hoff]
  simp

end

/-- Settles O13. -/
theorem tokenBufferWrites : Obligations.TokenBufferWrites := by
  unfold Obligations.TokenBufferWrites
  intro off data tag sz64 s hadmits n hoff halign
  have hlen : (bytesLE n data).length = n := length_bytesLE n data
  refine ⟨_, exec_registerWrite_tokenBuffer hoff data hadmits halign, ?_⟩
  rw [tokbuf_of_blank (ghpDone_unchanged _ _ _ _ _ _ _ _) rfl, pulses_ghpDone]
  refine ⟨fun i hi => ?_, fun a ha => ?_, wf_writeBytes _ _ _, List.mem_append_right _ (List.mem_singleton.mpr rfl)⟩
  · exact (readByte_writeBytes_self _ _ _ _ (hlen.symm ▸ hi)).trans (getElem_bytesLE data _)
  · exact readByte_writeBytes_ne _ _ _ _ (hlen.symm ▸ ha)

end Sys2Proof.Machine
end

section
/-! SUPPORT. The grants of an output port of the Flue (R23, R24): the channel and the offer that are picked, and what a run of grants leaves behind. -/

namespace Sys2Proof.Machine

open Sys2Proof

/-! ## The offer next in turn -/

/-- The better of the best so far and one more offer. -/
def Offer.better (last : Nat) (best : Option Offer) (x : Offer) : Option Offer :=
  match best with
  | none => some x
  | some b => if x.round last < b.round last then some x else some b

theorem nextInRound_eq (last : Nat) (l : List Offer) : nextInRound last l = l.foldl (Offer.better last) none := rfl

/-- The fold's result is one of the offers, or the best that it began with, and none of them comes earlier in the turn. -/
theorem foldl_better_spec (last : Nat) (l : List Offer) (b : Offer) :
    ∃ x, l.foldl (Offer.better last) (some b) = some x ∧ (x = b ∨ x ∈ l) ∧ x.round last ≤ b.round last ∧ ∀ y ∈ l, x.round last ≤ y.round last := by
  induction l generalizing b with
  | nil => exact ⟨b, rfl, .inl rfl, Nat.le_refl _, nofun⟩
  | cons a l ih =>
    by_cases hless : a.round last < b.round last
    · obtain ⟨x, hx, hmem, hle, hall⟩ := ih a
      refine ⟨x, by simpa [Offer.better, hless] using hx, .inr ?_, by omega, ?_⟩
      · exact hmem.elim (fun e => e ▸ List.mem_cons_self) (List.mem_cons_of_mem _)
      · exact List.forall_mem_cons.mpr ⟨hle, hall⟩
    · obtain ⟨x, hx, hmem, hle, hall⟩ := ih b
      refine ⟨x, by simpa [Offer.better, hless] using hx, hmem.imp id (List.mem_cons_of_mem _), hle, ?_⟩
      exact List.forall_mem_cons.mpr ⟨by omega, hall⟩

theorem nextInRound_spec {last : Nat} {l : List Offer} {x : Offer} (h : nextInRound last l = some x) :
    x ∈ l ∧ ∀ y ∈ l, x.round last ≤ y.round last := by
  cases l with
  | nil => cases h
  | cons a l =>
    obtain ⟨z, hz, hmem, hle, hall⟩ := foldl_better_spec last l a
    obtain rfl : z = x := Option.some.inj (hz.symm.trans h)
    exact ⟨hmem.elim (fun e => e ▸ List.mem_cons_self) (List.mem_cons_of_mem _), List.forall_mem_cons.mpr ⟨hle, hall⟩⟩

theorem isSome_nextInRound {last : Nat} {l : List Offer} (h : l ≠ []) : (nextInRound last l).isSome = true := by
  cases l with
  | nil => exact absurd rfl h
  | cons a l =>
    obtain ⟨z, hz, -⟩ := foldl_better_spec last l a
    exact Option.isSome_iff_exists.mpr ⟨z, hz⟩

/-! ## The channel -/

section

variable {p : HopPort} {waiting : List Vc} {v : Vc}

theorem mem_of_channel (h : p.channel waiting = some v) : v ∈ waiting := by
  unfold HopPort.channel at h
  split at h
  next hbulk =>
    cases h
    exact List.contains_iff_mem.mp hbulk.1
  next =>
    split at h
    next hfault =>
      cases h
      exact List.contains_iff_mem.mp hfault.1
    next => exact List.contains_iff_mem.mp (List.find?_some h)

/-- Some channel is granted wherever one waits. -/
theorem isSome_channel (h : waiting ≠ []) : (p.channel waiting).isSome = true := by
  unfold HopPort.channel
  split
  · rfl
  · split
    next => rfl
    next hfault =>
      obtain ⟨v, hv, hne⟩ : ∃ v ∈ waiting, v ≠ .fault := by
        refine Classical.byContradiction (fun hnone => ?_)
        have hall : ∀ v ∈ waiting, v = .fault := fun v hv => Classical.byContradiction (fun hne => hnone ⟨v, hv, hne⟩)
        obtain ⟨v, hv⟩ := List.exists_mem_of_ne_nil _ h
        exact hfault ⟨List.contains_iff_mem.mpr (hall v hv ▸ hv), .inr (by simpa using hall)⟩
      refine List.find?_isSome.mpr ⟨v, ?_, List.contains_iff_mem.mpr hv⟩
      cases v <;> simp_all

/-- The place of a channel in the order of R24. -/
def Vc.place (v : Vc) : Nat := [Vc.fault, .rsp, .req, .bulk].idxOf v

/-- While neither limit is reached the first channel of the order that waits is granted (R24, 1). -/
theorem place_channel_le (h : p.channel waiting = some v) (hbulk : p.bulkWait < 15) (hrecent : p.recent.count true < 8) {w : Vc} (hw : w ∈ waiting) :
    v.place ≤ w.place := by
  unfold HopPort.channel at h
  rw [if_neg (fun hb => absurd hb.2 (by omega))] at h
  split at h
  next =>
    cases h
    exact Nat.zero_le _
  next hfault =>
    have hno : Vc.fault ∉ waiting := fun hf => hfault ⟨List.contains_iff_mem.mpr hf, .inl hrecent⟩
    by_cases hrsp : Vc.rsp ∈ waiting
    · simp [List.find?, hrsp] at h
      subst h
      cases w
      case fault => exact absurd hw hno
      all_goals decide
    · by_cases hreq : Vc.req ∈ waiting
      · simp [List.find?, hrsp, hreq] at h
        subst h
        cases w
        case fault => exact absurd hw hno
        case rsp => exact absurd hw hrsp
        all_goals decide
      · cases w
        · exact absurd hw hreq
        · exact absurd hw hrsp
        · exact absurd hw hno
        · cases v <;> decide

/-- FAULT is granted only where it has had fewer than 8 of the latest 15 grants, or nothing else waits (R24, 3). -/
theorem count_lt_of_channel_fault (h : p.channel waiting = some .fault) (hothers : waiting.any (· != .fault) = true) : p.recent.count true < 8 := by
  unfold HopPort.channel at h
  split at h
  next => cases h
  next =>
    split at h
    next hfault =>
      refine hfault.2.resolve_right (fun hall => ?_)
      obtain ⟨v, hv, hne⟩ := List.any_eq_true.mp hothers
      exact absurd (List.all_eq_true.mp hall v hv) (by simpa using hne)
    next =>
      have hmem := List.mem_of_find?_eq_some h
      simp at hmem

/-- After 15 grants to others BULK comes next (R24, 2). -/
theorem channel_of_bulkWait (hw : Vc.bulk ∈ waiting) (hwait : 15 ≤ p.bulkWait) : p.channel waiting = some .bulk :=
  if_pos ⟨List.contains_iff_mem.mpr hw, hwait⟩

end

/-! ## The pick -/

section

variable {p : HopPort} {offers : List Offer} {x y : Offer}

theorem pick_spec (h : p.pick offers = some x) : x ∈ p.eligible offers ∧ p.channel ((p.eligible offers).map (·.flit.vc)) = some x.flit.vc ∧
    ∀ y ∈ p.eligible offers, y.flit.vc = x.flit.vc → x.round (tgetD 63 x.flit.vc.code p.turn) ≤ y.round (tgetD 63 x.flit.vc.code p.turn) := by
  obtain ⟨v, hv, hnext⟩ := Option.bind_eq_some_iff.mp h
  obtain ⟨hmem, hfirst⟩ := nextInRound_spec hnext
  obtain ⟨hx, hvc⟩ := List.mem_filter.mp hmem
  obtain rfl : x.flit.vc = v := by simpa using hvc
  exact ⟨hx, hv, fun y hy hyv => hfirst y (List.mem_filter.mpr ⟨hy, by simpa using hyv⟩)⟩

theorem isSome_pick (h : p.eligible offers ≠ []) : (p.pick offers).isSome = true := by
  obtain ⟨v, hv⟩ := Option.isSome_iff_exists.mp (isSome_channel (p := p) (waiting := (p.eligible offers).map (·.flit.vc)) (by simpa using h))
  obtain ⟨y, hy, hyv⟩ := List.mem_map.mp (mem_of_channel hv)
  have hsome : (nextInRound (tgetD 63 v.code p.turn) ((p.eligible offers).filter (fun x => x.flit.vc == v))).isSome = true :=
    isSome_nextInRound (List.ne_nil_of_mem (List.mem_filter.mpr ⟨hy, by simpa using hyv⟩))
  obtain ⟨z, hz⟩ := Option.isSome_iff_exists.mp hsome
  exact Option.isSome_iff_exists.mpr ⟨z, Option.bind_eq_some_iff.mpr ⟨v, hv, hz⟩⟩

/-- The input just served comes last in its channel's turn (R24, 4). -/
theorem round_granted (waiting : List Vc) : x.round (tgetD 63 x.flit.vc.code (p.granted x waiting).turn) = 63 := by
  simp only [HopPort.granted, tgetD_tput_self, Offer.round]
  omega

/-- A LAST flit frees its channel; any other holds it for its message on its input (R24, 6). -/
theorem admits_granted (waiting : List Vc) (hvc : y.flit.vc = x.flit.vc) :
    (p.granted x waiting).admits y = true ↔ x.flit.isLast = true ∨ (y.input = x.input ∧ y.flit.parcel = x.flit.parcel) := by
  unfold HopPort.admits HopPort.granted
  cases hlast : x.flit.isLast
  · rw [hvc]
    simp only [Bool.false_eq_true, if_false, tget_tput_self, false_or, Bool.and_eq_true, beq_iff_eq]
    exact and_congr eq_comm eq_comm
  · rw [hvc]
    simp only [if_true, tget_tdel_self, true_or]

/-- Every channel that could be granted is one that waits. -/
theorem vc_mem_of_eligible (hy : y ∈ p.eligible offers) : y.flit.vc ∈ offers.map (·.flit.vc) :=
  List.mem_map.mpr ⟨y, (List.mem_filter.mp hy).1, rfl⟩

end

/-! ## Runs of grants -/

section

variable {p : HopPort}

/-- What is left of a run after some grants is a run. -/
theorem exists_run_eq_drop (rounds : List (List HopFlit × List Offer)) (i : Nat) : ∃ q rest, (p.run rounds).drop i = HopPort.run q rest := by
  induction rounds generalizing p i with
  | nil => exact ⟨p, [], List.drop_nil⟩
  | cons r rest ih =>
    cases i with
    | zero => exact ⟨p, r :: rest, rfl⟩
    | succ i =>
      obtain ⟨held, offers⟩ := r
      conv in HopPort.run p _ => unfold HopPort.run
      dsimp only
      split
      · exact ih i
      · exact ih (i + 1)

/-- The first grant of a run is a pick by a port with the same history, and the rest is the run after it. -/
theorem run_eq_cons {rounds : List (List HopFlit × List Offer)} {g : List Vc × Vc} {l : List (List Vc × Vc)} (h : p.run rounds = g :: l) :
    ∃ (q : HopPort) (offers : List Offer) (x : Offer) (rest : List (List HopFlit × List Offer)), q.recent = p.recent ∧ q.bulkWait = p.bulkWait ∧
      q.pick offers = some x ∧ g = ((q.eligible offers).map (·.flit.vc), x.flit.vc) ∧ l = (q.granted x (offers.map (·.flit.vc))).run rest := by
  induction rounds generalizing p with
  | nil => cases h
  | cons r rest ih =>
    obtain ⟨held, offers⟩ := r
    unfold HopPort.run at h
    dsimp only at h
    split at h
    next x hx =>
      obtain ⟨rfl, rfl⟩ := List.cons.inj h
      exact ⟨{ p with buffers := held }, offers, x, rest, rfl, rfl, hx, rfl, rfl⟩
    next => exact ih (p := { p with buffers := held }) h

/-- Grants that other channels could have had record FAULT's among them: with `c` of the latest `m` its own, and `n` more to come, 16 in all, it has no
more than 8 (R24, 3). -/
theorem fault_le_eight (n m c : Nat) (rounds : List (List HopFlit × List Offer)) (hnm : m + n ≤ 16) (hc : c ≤ 8) (hrecent : c ≤ (p.recent.take m).count true)
    (hothers : ∀ j < n, ∃ g, (p.run rounds)[j]? = some g ∧ g.1.any (· != .fault) = true) :
    c + ((p.run rounds).take n).countP (fun g => g.2 == .fault) ≤ 8 := by
  induction n generalizing p m c rounds with
  | zero => simpa using hc
  | succ n ih =>
    obtain ⟨g, hg, hany⟩ := hothers 0 (by omega)
    obtain ⟨l, hl⟩ : ∃ l, p.run rounds = g :: l := by
      cases hrun : p.run rounds with
      | nil => simp [hrun] at hg
      | cons a l => exact ⟨l, by simpa [hrun] using hg⟩
    obtain ⟨q, offers, x, rest, hq, -, hpick, rfl, hrest⟩ := run_eq_cons hl
    obtain ⟨-, hchannel, -⟩ := pick_spec hpick
    have hcount : (p.recent.take m).count true ≤ p.recent.count true := (List.take_sublist _ _).count_le _
    have hlimit : x.flit.vc = .fault → c + 1 ≤ 8 := fun hv => by
      have := count_lt_of_channel_fault (hv ▸ hchannel) hany
      rw [hq] at this
      omega
    have hwaiting : (offers.map (·.flit.vc)).any (· != .fault) = true := by
      obtain ⟨v, hv, hne⟩ := List.any_eq_true.mp hany
      obtain ⟨y, hy, rfl⟩ := List.mem_map.mp hv
      exact List.any_eq_true.mpr ⟨_, vc_mem_of_eligible hy, hne⟩
    have hhere : c + (if x.flit.vc = .fault then 1 else 0) ≤ 8 := by
      split
      next hv => exact hlimit hv
      next => exact hc
    rw [hl, List.take_succ_cons, List.countP_cons]
    simp only [beq_iff_eq]
    cases n with
    | zero =>
      simp only [List.take_zero, List.countP_nil, Nat.zero_add]
      exact hhere
    | succ n =>
      have hnext := ih (p := q.granted x (offers.map (·.flit.vc))) (m + 1) (c + (if x.flit.vc = .fault then 1 else 0)) rest (by omega) hhere ?_ ?_
      · rw [hrest]
        omega
      · simp only [HopPort.granted, hwaiting, Bool.and_true, hq, List.take_succ_cons, List.take_take, Nat.min_eq_left (show m ≤ 14 by omega), List.count_cons]
        by_cases hv : x.flit.vc = .fault <;> simpa [hv] using hrecent
      · intro j hj
        obtain ⟨g, hg, hany⟩ := hothers (j + 1) (by omega)
        exact ⟨g, by simpa [hl, hrest] using hg, hany⟩

/-- A BULK flit that could go in every one of the grants is granted by the time its wait is 15 (R24, 2). -/
theorem one_le_bulk (n : Nat) (rounds : List (List HopFlit × List Offer)) (hwait : 15 < n + p.bulkWait) (hn : 0 < n)
    (hbulk : ∀ j < n, ∃ g, (p.run rounds)[j]? = some g ∧ .bulk ∈ g.1) : 1 ≤ ((p.run rounds).take n).countP (fun g => g.2 == .bulk) := by
  induction n generalizing p rounds with
  | zero => cases hn
  | succ n ih =>
    obtain ⟨g, hg, hmem⟩ := hbulk 0 (by omega)
    obtain ⟨l, hl⟩ : ∃ l, p.run rounds = g :: l := by
      cases hrun : p.run rounds with
      | nil => simp [hrun] at hg
      | cons a l => exact ⟨l, by simpa [hrun] using hg⟩
    obtain ⟨q, offers, x, rest, -, hq, hpick, rfl, hrest⟩ := run_eq_cons hl
    obtain ⟨-, hchannel, -⟩ := pick_spec hpick
    rw [hl, List.take_succ_cons, List.countP_cons]
    by_cases hv : x.flit.vc = .bulk
    · simp [hv]
    · have hless : q.bulkWait < 15 := by
        refine Nat.lt_of_not_le (fun hge => ?_)
        exact hv (Option.some.inj (hchannel.symm.trans (channel_of_bulkWait hmem (by omega))))
      have hcontains : (offers.map (·.flit.vc)).contains .bulk = true := by
        obtain ⟨y, hy, hyv⟩ := List.mem_map.mp hmem
        exact List.contains_iff_mem.mpr (hyv ▸ vc_mem_of_eligible hy)
      have hnext : (q.granted x (offers.map (·.flit.vc))).bulkWait = q.bulkWait + 1 := by
        simp only [HopPort.granted, hv, hcontains, Bool.true_eq_false, or_self, if_false]
      rw [hrest]
      refine Nat.le_add_right_of_le (ih rest (by omega) (by omega) (fun j hj => ?_))
      obtain ⟨g, hg, hmem⟩ := hbulk (j + 1) (by omega)
      exact ⟨g, by simpa [hl, hrest] using hg, hmem⟩

end

/-- Settles O59. -/
theorem flueGrantOrder : Obligations.FlueGrantOrder := by
  unfold Obligations.FlueGrantOrder
  refine ⟨fun p offers x hx => (pick_spec hx).1, fun p offers h => isSome_pick h, fun p offers x y hx hy hbulk hrecent => ?_, fun p rounds i hothers => ?_,
    fun p rounds i hbulk => ?_, fun p offers x y waiting hx hy hvc => ?_, fun p x y waiting hvc => admits_granted waiting hvc⟩
  · obtain ⟨-, hchannel, -⟩ := pick_spec hx
    exact place_channel_le hchannel hbulk hrecent (List.mem_map.mpr ⟨y, hy, rfl⟩)
  · obtain ⟨q, rest, hrun⟩ := exists_run_eq_drop (p := p) rounds i
    rw [hrun]
    have := fault_le_eight (p := q) 16 0 0 rest (by omega) (by omega) (by omega) (fun j hj => by
      obtain ⟨g, hg, hany⟩ := hothers j hj
      exact ⟨g, by rw [← hrun, List.getElem?_drop]; exact hg, hany⟩)
    omega
  · obtain ⟨q, rest, hrun⟩ := exists_run_eq_drop (p := p) rounds i
    rw [hrun]
    refine one_le_bulk 16 rest (by omega) (by omega) (fun j hj => ?_)
    obtain ⟨g, hg, hmem⟩ := hbulk j hj
    exact ⟨g, by rw [← hrun, List.getElem?_drop]; exact hg, hmem⟩
  · obtain ⟨-, -, hfirst⟩ := pick_spec hx
    exact ⟨hfirst y hy hvc, round_granted waiting⟩

end Sys2Proof.Machine
end

section
/-! SUPPORT. The residue arithmetic (R47, R48, R54): rotation as multiplication, the end-around fold, and the map from the integers. -/

namespace Sys2Proof.Machine

open Sys2Proof

theorem canon_lt (x : Nat) : canon x < 2 ^ 31 - 1 := Nat.mod_lt _ (by decide)

/-- What overflows 31 bits counts again from the bottom, as 2^31 is 1 modulo p. -/
theorem canon_fold (x : Nat) : canon (x % 2 ^ 31 + x / 2 ^ 31) = canon x := by
  unfold canon mersenne
  omega

/-! ## Rotation -/

theorem shiftLeft_mod_or_shiftRight {x k : Nat} (hx : x < 2 ^ 31) (hk : k < 31) :
    (x <<< k ||| x >>> (31 - k)) % 2 ^ 31 = (x * 2 ^ k) % 2 ^ 31 + x * 2 ^ k / 2 ^ 31 := by
  have hpow : 2 ^ 31 = 2 ^ (31 - k) * 2 ^ k := by rw [← Nat.pow_add, Nat.sub_add_cancel (Nat.le_of_lt hk)]
  have hlow : x * 2 ^ k % 2 ^ 31 = (x % 2 ^ (31 - k)) <<< k := by rw [hpow, Nat.mul_mod_mul_right, Nat.shiftLeft_eq]
  have hhigh : x * 2 ^ k / 2 ^ 31 = x >>> (31 - k) := by
    rw [hpow, Nat.mul_div_mul_right _ _ (Nat.two_pow_pos k), Nat.shiftRight_eq_div_pow]
  have hless : x >>> (31 - k) < 2 ^ k := by
    rw [Nat.shiftRight_eq_div_pow, Nat.div_lt_iff_lt_mul (Nat.two_pow_pos _), Nat.mul_comm, ← hpow]
    exact hx
  rw [Nat.or_mod_two_pow, Nat.shiftLeft_eq x, hlow, hhigh, Nat.mod_eq_of_lt (Nat.lt_trans hless (Nat.pow_lt_pow_right (by decide) hk)),
    Nat.shiftLeft_add_eq_or_of_lt hless]

theorem rot_eq_canon (x k : Nat) (hx : x < 2 ^ 31) : rot x k = canon ((x <<< (k % 31) ||| x >>> (31 - k % 31)) % 2 ^ 31) := by
  rw [shiftLeft_mod_or_shiftRight hx (Nat.mod_lt _ (by decide)), canon_fold]
  rfl

theorem canon_canon_mul (x y : Nat) : canon (canon x * y) = canon (x * y) := Nat.mod_mul_mod _ _ _

theorem canon_mul_canon (x y : Nat) : canon (x * canon y) = canon (x * y) := by rw [Nat.mul_comm, canon_canon_mul, Nat.mul_comm]

/-- A rotation by 31 is none, as 2^31 is 1 modulo p. -/
theorem canon_two_pow_mod (k : Nat) : canon (2 ^ (k % 31)) = canon (2 ^ k) := by
  have hturn : canon ((2 ^ 31) ^ (k / 31)) = 1 := by
    rw [canon, Nat.pow_mod, show 2 ^ 31 % mersenne = 1 from rfl, Nat.one_pow]
    rfl
  have hpow : 2 ^ k = 2 ^ (k % 31) * (2 ^ 31) ^ (k / 31) := by rw [← Nat.pow_mul, ← Nat.pow_add, Nat.mod_add_div]
  rw [hpow, ← canon_mul_canon, hturn, Nat.mul_one]

theorem rot_eq_canon_mul (x k : Nat) : rot x k = canon (x * 2 ^ k) :=
  calc rot x k = canon (x * 2 ^ (k % 31)) := rfl
    _ = canon (x * canon (2 ^ (k % 31))) := (canon_mul_canon _ _).symm
    _ = canon (x * 2 ^ k) := by rw [canon_two_pow_mod, canon_mul_canon]

theorem rot_addp (x y k : Nat) : rot (addp x y) k = addp (rot x k) (rot y k) :=
  calc rot (addp x y) k = canon (canon (x + y) * 2 ^ k) := rot_eq_canon_mul _ _
    _ = canon (x * 2 ^ k + y * 2 ^ k) := by rw [canon_canon_mul, Nat.add_mul]
    _ = canon (canon (x * 2 ^ k) + canon (y * 2 ^ k)) := Nat.add_mod _ _ _
    _ = addp (rot x k) (rot y k) := by rw [← rot_eq_canon_mul, ← rot_eq_canon_mul]; rfl

theorem mulp_rot_rot (x y j k : Nat) : mulp (rot x j) (rot y k) = rot (mulp x y) (j + k) :=
  calc mulp (rot x j) (rot y k) = canon (canon (x * 2 ^ j) * canon (y * 2 ^ k)) := by rw [← rot_eq_canon_mul, ← rot_eq_canon_mul]; rfl
    _ = canon (x * 2 ^ j * (y * 2 ^ k)) := (Nat.mul_mod _ _ _).symm
    _ = canon (x * y * 2 ^ (j + k)) := by rw [Nat.pow_add, Nat.mul_mul_mul_comm]
    _ = canon (canon (x * y) * 2 ^ (j + k)) := (canon_canon_mul _ _).symm
    _ = rot (mulp x y) (j + k) := (rot_eq_canon_mul _ _).symm

/-! ## The residue map -/

theorem cast_residueInt (v : Int) : (residueInt v : Int) = v % mersenne :=
  Int.toNat_of_nonneg (Int.emod_nonneg _ (by decide))

theorem residueInt_add (v w : Int) : residueInt (v + w) = addp (residueInt v) (residueInt w) := by
  rw [← Int.ofNat_inj, cast_residueInt, addp, Int.natCast_emod, Int.natCast_add, cast_residueInt, cast_residueInt, ← Int.add_emod]

theorem residueInt_mul (v w : Int) : residueInt (v * w) = mulp (residueInt v) (residueInt w) := by
  rw [← Int.ofNat_inj, cast_residueInt, mulp, Int.natCast_emod, Int.natCast_mul, cast_residueInt, cast_residueInt, ← Int.mul_emod]

theorem residueInt_neg (v : Int) : residueInt (-v) = negp (residueInt v) := by
  unfold residueInt negp mersenne
  omega

/-- Settles O14. -/
theorem residueArithmetic : Obligations.ResidueArithmetic := by
  unfold Obligations.ResidueArithmetic
  refine ⟨rot_eq_canon, fun x hx => ?_, fun x y _ _ => (canon_fold (x + y)).symm,
    fun x y k => ⟨canon_lt _, canon_lt _, canon_lt _, canon_lt _⟩,
    fun v w => ⟨residueInt_add v w, residueInt_mul v w, residueInt_neg v⟩, fun x y j k => ⟨rot_addp x y k, mulp_rot_rot x y j k⟩⟩
  unfold negp canon mersenne
  omega

end Sys2Proof.Machine
end

section
/-! SUPPORT. The spine and time commands (R22, R27, R29, R30): the round number, the GT of a hub and of a probe, a hop's NAKs and its latency. -/

namespace Sys2Proof.Machine

open Sys2Proof

@[simp] theorem hop_modHop_self (s : State) (h : HopId) (f : Hop → Hop) : (s.modHop h f).hop h = f (s.hop h) := tgetD_tput_self _ _ _ _

theorem hop_of_blank {F : Fields} {s t : State} (h : t.blank F = s.blank F) (hf : F.hops = false) (x : HopId) : t.hop x = s.hop x := by
  simp [State.hop, hops_of_blank h hf]

theorem probe_sendTime (s : State) (h : HopId) (round gt r k : Nat) : (s.sendTime h round gt).probe r k = s.probe r k :=
  probe_congr (probes_of_blank (sendTime_blank (F := { flue := true, net := true }) s h round gt rfl rfl) rfl) r k

theorem hub_sendTime (s : State) (h : HopId) (round gt r : Nat) : (s.sendTime h round gt).hub r = s.hub r :=
  hub_congr (hubs_of_blank (sendTime_blank (F := { flue := true, net := true }) s h round gt rfl rfl) rfl) r

theorem hub_foldl_sendTime (l : List HopId) (round gt r : Nat) (s : State) : (l.foldl (fun s h => s.sendTime h round gt) s).hub r = s.hub r := by
  induction l generalizing s with
  | nil => rfl
  | cons h l ih => exact (ih _).trans (hub_sendTime s h round gt r)

/-- The first TIME loads GT as it comes (R30). -/
theorem Hub.takeTime_first {h : Hub} (hfirst : h.gtValid = false) (round gt : Nat) :
    (h.takeTime round gt).gt = wrap 64 gt ∧ (h.takeTime round gt).timeRound = some (wrap 25 round) := by
  simp [Hub.takeTime, hfirst]

theorem Probe.takeTime_first {p : Probe} (hfirst : p.gtValid = false) (round gt : Nat) :
    (p.takeTime round gt).gt24 = wrap 24 gt ∧ (p.takeTime round gt).gtValid = true := by
  simp [Probe.takeTime, hfirst]

theorem execTimeRound_of_trained {s : State} (h : s.bru.trained = true) :
    ∃ t, execTimeRound s = .next t ∧ t.timeRounds = wrap 25 (s.timeRounds + 1) := by
  simp [execTimeRound, h]

theorem execTime_of_first_at_hub (region round gt : Nat) {s : State} (h : (s.hub region).gtValid = false) :
    ∃ t, execTime region none round gt s = .next t ∧ (t.hub region).gt = wrap 64 gt ∧ (t.hub region).timeRound = some (wrap 25 round) := by
  refine ⟨_, rfl, ?_⟩
  dsimp only
  rw [hub_foldl_sendTime, hub_modHub_self]
  exact Hub.takeTime_first h round gt

theorem execTime_of_first_at_probe (region tile round gt : Nat) {s : State} (h : (s.probe region tile).gtValid = false) :
    ∃ t, execTime region (some tile) round gt s = .next t ∧ (t.probe region tile).gt24 = wrap 24 gt ∧ (t.probe region tile).gtValid = true := by
  have hgtValid : ((s.recv (msgTime round (wrap 64 gt))).tookTime region (some tile)).probe region tile = s.probe region tile := rfl
  refine ⟨_, rfl, ?_⟩
  simp only [hgtValid, h, Bool.not_false, if_true]
  have hlast : ∀ (u : State) (m : Msg), ((u.fresh 8).2.send m).probe region tile = u.probe region tile := fun _ _ => rfl
  rw [hlast, apply_ite (fun (u : State) => u.probe region tile), probe_sendTime, ite_self, probe_modProbe_self]
  exact Probe.takeTime_first h round gt

theorem execFlueNak_of_first {hop : HopId} {s : State} (hup : (s.hop hop).down = false) (htrained : (s.hop hop).retraining = false) :
    ∃ t, execFlueNak hop false s = .next t ∧ (t.hop hop).naks = 1 ∧ (t.hop hop).replays = (s.hop hop).replays + 1 := by
  have htrace : ∀ u : State, (u.traceSender hop 1).hop hop = u.hop hop := fun u =>
    hop_of_blank (F := { hubs := true, ldg := true, flue := true, pulses := true, freeCtr := true, regs := [.ldg, .hubTr] })
      (by apply traceSender_blank <;> rfl) rfl hop
  have hreplay : ∀ u : State, (u.replay hop).hop hop = u.hop hop := fun u =>
    hop_of_blank (F := { net := true, freeCtr := true }) (by apply replay_blank <;> rfl) rfl hop
  simp [execFlueNak, hup, htrained, htrace, hreplay]

theorem execFlueRetrainDone_of_ok {hop : HopId} {s : State} (latency : Nat) (h : (s.hop hop).retraining = true) :
    ∃ t, execFlueRetrainDone hop true latency s = .next t ∧ (t.hop hop).retraining = false ∧ (t.hop hop).latency = latency := by
  simp [execFlueRetrainDone, h]

theorem execFlueReservedOpcode_at_probe (region tile src tag tenant : Nat) {opcode : Nat} (s : State) (h : opcodeDefined (wrap 8 opcode) = false) :
    ∃ t, execFlueReservedOpcode region (some tile) src tag opcode tenant none false s = .next t ∧
      (t.probe region tile).faultOut.map (·.kind) = (s.probe region tile).faultOut.map (·.kind) ++ [0x302] := by
  have hreserved : wrap 8 opcode ∉ probeOps := by simp_all [opcodeDefined]
  have hflue : ∀ l : List Msg, ({ s with flue := l } : State).probe region tile = s.probe region tile := fun _ => rfl
  simp [execFlueReservedOpcode, opcodeTaken, hreserved, State.flueProto, State.probeFault, hflue]

/-- Settles O19. -/
theorem spineAndTimeCommands : Obligations.SpineAndTimeCommands :=
  ⟨fun _ h => execTimeRound_of_trained h, fun region round gt _ h => execTime_of_first_at_hub region round gt h,
    fun region tile round gt _ h => execTime_of_first_at_probe region tile round gt h, fun _ _ hup htrained => execFlueNak_of_first hup htrained,
    fun _ latency _ h => execFlueRetrainDone_of_ok latency h,
    fun region tile src tag _ tenant s h => execFlueReservedOpcode_at_probe region tile src tag tenant s h⟩

end Sys2Proof.Machine
end

section
/-! SUPPORT. Rules of the state's operations that the commands of a tile use: what a probe and a hub read after an operation elsewhere, and that pulses stay. -/

namespace Sys2Proof.Machine

open Sys2Proof

section

variable (s : State) (r k : Nat)

@[simp] theorem probe_set (f : RegField) (i v : Nat) : (s.set f i v).probe r k = s.probe r k := rfl
@[simp] theorem probe_raise (f : RegField) (i : Nat) : (s.raise f i).probe r k = s.probe r k := rfl
@[simp] theorem probe_bump (f : RegField) (i n : Nat) : (s.bump f i n).probe r k = s.probe r k := rfl
@[simp] theorem probe_setHub (x : Nat) (h : Hub) : (s.setHub x h).probe r k = s.probe r k := rfl
@[simp] theorem probe_modHub (x : Nat) (g : Hub → Hub) : (s.modHub x g).probe r k = s.probe r k := rfl
@[simp] theorem probe_send (m : Msg) : (s.send m).probe r k = s.probe r k := rfl
@[simp] theorem probe_sendAll (l : List Msg) : (s.sendAll l).probe r k = s.probe r k := rfl
@[simp] theorem probe_recv (m : Msg) : (s.recv m).probe r k = s.probe r k := rfl
@[simp] theorem probe_emit (p : Pulse) : (s.emit p).probe r k = s.probe r k := rfl
@[simp] theorem probe_emitAll (l : List Pulse) : (s.emitAll l).probe r k = s.probe r k := rfl
@[simp] theorem probe_fresh (w : Nat) : (s.fresh w).2.probe r k = s.probe r k := rfl

@[simp] theorem hub_bump (f : RegField) (i n : Nat) : (s.bump f i n).hub r = s.hub r := rfl
@[simp] theorem hub_setProbe (x y : Nat) (p : Probe) : (s.setProbe x y p).hub r = s.hub r := rfl
@[simp] theorem hub_modProbe (x y : Nat) (g : Probe → Probe) : (s.modProbe x y g).hub r = s.hub r := rfl
@[simp] theorem hub_send (m : Msg) : (s.send m).hub r = s.hub r := rfl
@[simp] theorem hub_sendAll (l : List Msg) : (s.sendAll l).hub r = s.hub r := rfl
@[simp] theorem hub_recv (m : Msg) : (s.recv m).hub r = s.hub r := rfl
@[simp] theorem hub_emit (p : Pulse) : (s.emit p).hub r = s.hub r := rfl
@[simp] theorem hub_emitAll (l : List Pulse) : (s.emitAll l).hub r = s.hub r := rfl
@[simp] theorem hub_fresh (w : Nat) : (s.fresh w).2.hub r = s.hub r := rfl

@[simp] theorem pulses_emit (p : Pulse) : (s.emit p).pulses = s.pulses ++ [p] := rfl
@[simp] theorem pulses_emitAll (l : List Pulse) : (s.emitAll l).pulses = s.pulses ++ l := rfl
@[simp] theorem flue_send (m : Msg) : (s.send m).flue = s.flue ++ [m] := rfl
@[simp] theorem flue_sendAll (l : List Msg) : (s.sendAll l).flue = s.flue ++ l := rfl

/-- Writing registers changes the register store alone. -/
theorem exists_setAll_eq (i : Nat) (l : List (RegField × Nat)) : ∃ regs, s.setAll i l = { s with regs := regs } := by
  induction l generalizing s with
  | nil => exact ⟨s.regs, rfl⟩
  | cons e l ih => exact ih (s.set e.1 i e.2)

@[simp] theorem probe_setAll (i : Nat) (l : List (RegField × Nat)) : (s.setAll i l).probe r k = s.probe r k := by
  obtain ⟨regs, h⟩ := exists_setAll_eq s i l
  rw [h]
  rfl

@[simp] theorem hub_setAll (i : Nat) (l : List (RegField × Nat)) : (s.setAll i l).hub r = s.hub r := by
  obtain ⟨regs, h⟩ := exists_setAll_eq s i l
  rw [h]
  rfl

@[simp] theorem pulses_setAll (i : Nat) (l : List (RegField × Nat)) : (s.setAll i l).pulses = s.pulses := by
  obtain ⟨regs, h⟩ := exists_setAll_eq s i l
  rw [h]

@[simp] theorem flue_setAll (i : Nat) (l : List (RegField × Nat)) : (s.setAll i l).flue = s.flue := by
  obtain ⟨regs, h⟩ := exists_setAll_eq s i l
  rw [h]

end

@[simp] theorem Probe.slot_setSlot_self (p : Probe) (i : Nat) (x : Slot) : (p.setSlot i x).slot i = x := tgetD_tput_self _ _ _ _

@[simp] theorem Probe.slot_progressed (p : Probe) (tenant i : Nat) : (p.progressed tenant).slot i = p.slot i := rfl

@[simp] theorem Probe.accum_progressed (p : Probe) (tenant i : Nat) : (p.progressed tenant).accum i = p.accum i := rfl

/-! ## What counting and activity leave -/

@[simp] theorem probe_count (s : State) (r t code n r' k : Nat) : (s.count r t code n).probe r' k = s.probe r' k :=
  probe_congr (probes_of_blank (F := { regs := [.probe] }) (count_blank s r t code n rfl) rfl) r' k

@[simp] theorem pulses_count (s : State) (r t code n : Nat) : (s.count r t code n).pulses = s.pulses :=
  pulses_of_blank (F := { regs := [.probe] }) (count_blank s r t code n rfl) rfl

@[simp] theorem slot_activity (s : State) (r t i : Nat) (adds : List (Nat × Nat)) (j : Nat) :
    ((s.activity r t i adds).probe r t).slot j = (s.probe r t).slot j := by
  unfold State.activity
  dsimp only
  split <;> simp [Probe.slot]

/-! ## Pulses stay -/


theorem pulses_subset_releaseSlot (s : State) (r t i : Nat) : s.pulses ⊆ (s.releaseSlot r t i).pulses := by
  unfold State.releaseSlot
  dsimp only
  split <;> simp [State.setBook]

theorem pulses_subset_releaseList (r t : Nat) (l : List Nat) (s : State) : s.pulses ⊆ (s.releaseList r t l).pulses := by
  induction l generalizing s with
  | nil => exact List.Subset.refl _
  | cons i rest ih =>
    unfold State.releaseList
    split
    · exact ih s
    · exact List.Subset.trans (pulses_subset_releaseSlot s r t i) (ih _)
    · exact List.Subset.refl _

theorem pulses_subset_kickRelease (s : State) (r t : Nat) : s.pulses ⊆ (s.kickRelease r t).pulses := by
  unfold State.kickRelease
  split
  · exact List.Subset.refl _
  · exact pulses_subset_releaseList r t _ s

theorem pulses_commitDigest (s : State) (r t i : Nat) : (s.commitDigest r t i).pulses = s.pulses :=
  pulses_of_blank (F := { probes := true, flue := true }) (commitDigest_blank s r t i rfl rfl) rfl

theorem pulses_subset_makeReleasable (s : State) (r t i : Nat) : s.pulses ⊆ (s.makeReleasable r t i).pulses := by
  refine List.Subset.trans ?_ (pulses_subset_kickRelease _ r t)
  simp [State.setSlot, pulses_commitDigest]

@[simp] theorem pulses_retryDecided (s : State) (r t i : Nat) : (s.retryDecided r t i).pulses = s.pulses :=
  pulses_of_blank (F := { probes := true, regs := [.probe] }) (retryDecided_blank s r t i rfl rfl) rfl

@[simp] theorem pulses_setFence (s : State) (r t : Nat) (f : FenceState) : (s.setFence r t f).pulses = s.pulses :=
  pulses_of_blank (F := { probes := true, regs := [.probe] }) (setFence_blank s r t f rfl rfl) rfl

theorem pulses_subset_failSlot (s : State) (r t i : Nat) (o : CheckOutcome) : s.pulses ⊆ (s.failSlot r t i o).pulses := by
  unfold State.failSlot
  dsimp only
  generalize (if (o == CheckOutcome.tapParity) = true then Reg.TP_EVENT_TAPPAR else Reg.TP_EVENT_CHKFAIL) = e
  split
  · simp [State.retryPulse, State.probeFault]
  · simp [State.probeFault, apply_ite State.pulses]

theorem pulses_subset_moveDecided (s : State) (r t i : Nat) (o : CheckOutcome) : s.pulses ⊆ (s.moveDecided r t i o).pulses := by
  unfold State.moveDecided
  dsimp only
  split
  case h_1 => simp [State.setSlot]
  case h_2 => simpa using pulses_subset_makeReleasable s r t i
  case h_3 | h_4 =>
    split
    · split
      · simp [State.beginReading, State.setSlot]
      · simpa using pulses_subset_makeReleasable s r t i
    · simpa using pulses_subset_makeReleasable (s.modHub r _) r t i
  case h_5 => exact pulses_subset_failSlot (s.setSlot r t i _) r t i o

/-! ## A command's way through a slot -/

theorem Probe.rejectCode_lt (p : Probe) (h : Hdr) : p.rejectCode h < 2 ^ 4 := by
  unfold Probe.rejectCode
  extract_lets chain offChain
  repeat' split
  all_goals decide

section

variable (x : Slot)

@[simp] theorem Slot.drawn_drawAmounts (h : Hdr) (g : Trivium) : (x.drawAmounts h g).drawn = true := by
  unfold Slot.drawAmounts
  split <;> rfl

@[simp] theorem Slot.st_drawAmounts (h : Hdr) (g : Trivium) : (x.drawAmounts h g).st = x.st := by
  unfold Slot.drawAmounts
  split <;> rfl

@[simp] theorem Slot.first_drawAmounts (h : Hdr) (g : Trivium) : (x.drawAmounts h g).first = x.first := by
  unfold Slot.drawAmounts
  split <;> rfl

/-- What the egress folds of a beat leave of a slot. -/
theorem Slot.foldChunks_keeps (k : Kappa) (l : List Nat) : (x.foldChunks k l).1.ebeats = x.ebeats ∧ (x.foldChunks k l).1.lastc = x.lastc := by
  induction l generalizing x k with
  | nil => exact ⟨rfl, rfl⟩
  | cons c rest ih => exact ih _ _

@[simp] theorem Slot.ebeats_foldDigest (k : Kappa) (f : Fmt) (nel data : Nat) : (x.foldDigest k f nel data).ebeats = x.ebeats :=
  (x.foldChunks_keeps k _).1

@[simp] theorem Slot.lastc_foldDigest (k : Kappa) (f : Fmt) (nel data : Nat) : (x.foldDigest k f nel data).lastc = x.lastc :=
  (x.foldChunks_keeps k _).2

@[simp] theorem Slot.ebeats_foldSig (k : Kappa) (f : Fmt) (nel data : Nat) : (x.foldSig k f nel data).ebeats = x.ebeats := rfl

@[simp] theorem Slot.lastc_foldSig (k : Kappa) (f : Fmt) (nel data : Nat) : (x.foldSig k f nel data).lastc = x.lastc := rfl

end

theorem mem_pulses_noteDecision {s : State} {r t i htag : Nat} (o : CheckOutcome) (hhtag : ((s.probe r t).slot i).first.htag = htag) :
    .outValid r t o.code htag ∈ (s.noteDecision r t i o).pulses := by
  have htrace : ∀ u : State, (u.traceCmd r t i o).pulses = u.pulses := fun u =>
    pulses_of_blank (F := { probes := true }) (traceCmd_blank u r t i o rfl) rfl
  unfold State.noteDecision
  dsimp only
  rw [htrace, hhtag]
  cases o <;> simp [State.latchCounters]

theorem pulses_coverage (s : State) (r t i : Nat) (o : CheckOutcome) : (s.coverage r t i o).pulses = s.pulses :=
  pulses_of_blank (F := { probes := true }) (coverage_blank s r t i o rfl) rfl

theorem pulses_capture (s : State) (r t i : Nat) (o : CheckOutcome) : (s.capture r t i o).pulses = s.pulses :=
  pulses_of_blank (F := { regs := [.probe] }) (capture_blank s r t i o rfl) rfl

@[simp] theorem slot_checkIdle (s : State) (r t i : Nat) : ((s.checkIdle r t).probe r t).slot i = (s.probe r t).slot i := by
  unfold State.checkIdle
  dsimp only
  split <;> simp [Probe.slot]

theorem execCmdAccept_of_rejected {region tile : Nat} {hdr : Hdr} (early : Bool) {s : State} (hready : (s.probe region tile).ready hdr = true)
    (hcode : (s.probe region tile).rejectCode hdr ≠ 0) : ∃ t, execCmdAccept region tile hdr early s = .next t ∧ .cmdErr region tile ∈ t.pulses ∧
      t.get Reg.TP_HDRERR_CODE (pid region tile) = (s.probe region tile).rejectCode hdr ∧
      (t.probe region tile).slots = (s.probe region tile).slots := by
  refine ⟨s.rejectHeader region tile hdr ((s.probe region tile).rejectCode hdr), by simp [execCmdAccept, hready, hcode], ?_, ?_, ?_⟩
  · simp [State.rejectHeader, State.probeFault]
  · have hwidth : (s.probe region tile).rejectCode hdr < 2 ^ 4 := Probe.rejectCode_lt _ _
    simp (disch := decide) only [State.rejectHeader, State.probeFault, get_modProbe, get_raise_apart, State.setAll, get_set_apart, get_set_self]
    exact wrap_of_lt hwidth
  · simp [State.rejectHeader, State.probeFault]

theorem beginSlot_begun (s : State) (r t i : Nat) (h : Hdr) (early : Bool) : .cmdSlot r t i ∈ (s.beginSlot r t i h early).pulses ∧
    (((s.beginSlot r t i h early).probe r t).slot i).st = .active ∧ (((s.beginSlot r t i h early).probe r t).slot i).first = h := by
  unfold State.beginSlot
  extract_lets p rerun q k c begun x base y u
  have hactive : x.st = .active ∧ x.first = h := by
    have hbegun : begun.st = .active ∧ begun.first = h := ⟨rfl, rfl⟩
    clear_value begun
    unfold x
    split <;> simp [hbegun, Probe.drawSlot]
  have hslot : y.slot i = x := tgetD_tput_self _ _ _ _
  clear_value x y
  split <;> simp [u, hslot, hactive]

theorem execCmdAccept_of_begun {region tile i : Nat} {hdr : Hdr} (early : Bool) {s : State} (hready : (s.probe region tile).ready hdr = true)
    (hcode : (s.probe region tile).rejectCode hdr = 0) (htarget : (s.probe region tile).target hdr = some i) (hcont : hdr.cont = false) :
    ∃ t, execCmdAccept region tile hdr early s = .next t ∧ .cmdSlot region tile i ∈ t.pulses ∧ ((t.probe region tile).slot i).st = .active ∧
      ((t.probe region tile).slot i).first = hdr :=
  ⟨s.beginSlot region tile i hdr early, by simp [execCmdAccept, hready, hcode, htarget, hcont], beginSlot_begun s region tile i hdr early⟩

theorem execRotationDrawDone_of_active {region tile slot : Nat} {s : State} (hst : ((s.probe region tile).slot slot).st = .active)
    (hjob : ((s.probe region tile).slot slot).job = .tenant) (hmatrix : ((s.probe region tile).slot slot).first.matrix = true)
    (hdrawn : ((s.probe region tile).slot slot).drawn = false) : ∃ t, execRotationDrawDone region tile slot s = .next t ∧
      ((t.probe region tile).slot slot).drawn = true ∧ .opReady region tile ∈ t.pulses := by
  simp [execRotationDrawDone, hst, hjob, hmatrix, hdrawn, State.setSlot, Probe.drawSlot, Slot.drawn_drawAmounts]

theorem execOperandBeat_of_active {region tile slot : Nat} (kind opa opb sca scb : Nat) {s : State}
    (hst : ((s.probe region tile).slot slot).st = .active) : ∃ t, execOperandBeat region tile slot kind opa opb sca scb s = .next t ∧
      (t.probe region tile).slot slot = ((s.probe region tile).slot slot).operand kind opa opb sca scb := by
  simp [execOperandBeat, hst, State.setSlot]

theorem execTapReadBeat_of_last {region tile i : Nat} (acc words : Nat) (parityBad : Bool) {s : State} (h : (s.probe region tile).readSlot = some i) :
    ∃ t, execTapReadBeat region tile acc words false true parityBad s = .next t ∧ ((t.probe region tile).slot i).readDone = true ∧
      (t.probe region tile).readSlot = none ∧ (t.probe region tile).tapReading = false := by
  simp [execTapReadBeat, h, Probe.slot, Probe.setSlot]

theorem execEgressBeat_of_active {region tile slot : Nat} (data nel : Nat) (lastb lastc : Bool) {s : State}
    (hst : ((s.probe region tile).slot slot).st = .active) : ∃ t, execEgressBeat region tile slot data nel lastb lastc s = .next t ∧
      ((t.probe region tile).slot slot).ebeats = ((s.probe region tile).slot slot).ebeats + 1 ∧
      ((t.probe region tile).slot slot).lastc = (((s.probe region tile).slot slot).lastc || lastc) := by
  unfold execEgressBeat
  extract_lets p x f
  rw [if_neg (Classical.not_not.mpr hst)]
  obtain ⟨n, u⟩ := s.clipBeat region tile f nel
  dsimp -zeta only
  extract_lets y z tag w v oc
  have hz : z.ebeats = x.ebeats ∧ z.lastc = x.lastc := by
    unfold z
    split <;> simp [y]
  have hw : w.ebeats = x.ebeats + 1 ∧ w.lastc = (x.lastc || lastc) := by simp [w, hz]
  clear_value w
  refine ⟨_, rfl, ?_⟩
  rw [slot_activity, probe_count, probe_modProbe_self]
  simp only [Probe.slot, Probe.setSlot, tgetD_tput_self]
  exact hw

theorem execReleaseTagOut_of_tag {region tile tag : Nat} {rest : List Nat} {s : State} (h : (s.probe region tile).etag = tag :: rest) :
    ∃ t, execReleaseTagOut region tile s = .next t ∧ (t.probe region tile).etag = rest ∧ t.pulses = s.pulses ++ [.etag region tile tag] := by
  simp [execReleaseTagOut, h]

theorem execGateDecision_of_tenant {region tile slot : Nat} {s : State} (hdecidable : ((s.probe region tile).slot slot).decidable_ = true)
    (hjob : ((s.probe region tile).slot slot).job = .tenant) : ∃ t, execGateDecision region tile slot s = .next t ∧
      .outValid region tile (((s.probe region tile).slot slot).decide_ (((s.probe region tile).slot slot).sawB4 || (s.probe region tile).band == 4)).code
        ((s.probe region tile).slot slot).first.htag ∈ t.pulses := by
  refine ⟨_, if_pos ⟨hdecidable, hjob⟩, pulses_subset_moveDecided _ _ _ _ _ ?_⟩
  rw [pulses_capture, pulses_coverage]
  exact mem_pulses_noteDecision _ (by simp)

theorem execSlotDrain_of_released {region tile slot : Nat} {s : State} (h : ((s.probe region tile).slot slot).st = .released) :
    ∃ t, execSlotDrain region tile slot s = .next t ∧ ((t.probe region tile).slot slot).st = .free := by
  simp [execSlotDrain, h]

/-- Settles O20. -/
theorem probeSlotCommands : Obligations.ProbeSlotCommands :=
  ⟨fun _ _ _ early _ hready hcode => execCmdAccept_of_rejected early hready hcode,
    fun _ _ _ _ early _ hready hcode htarget hcont => execCmdAccept_of_begun early hready hcode htarget hcont,
    fun _ _ _ _ hst hjob hmatrix hdrawn => execRotationDrawDone_of_active hst hjob hmatrix hdrawn,
    fun _ _ _ kind opa opb sca scb _ hst => execOperandBeat_of_active kind opa opb sca scb hst,
    fun _ _ acc words _ parityBad _ h => execTapReadBeat_of_last acc words parityBad h,
    fun _ _ _ data nel lastb lastc _ hst => execEgressBeat_of_active data nel lastb lastc hst,
    fun _ _ _ _ _ h => execReleaseTagOut_of_tag h, fun _ _ _ _ hdecidable hjob => execGateDecision_of_tenant hdecidable hjob,
    fun _ _ _ _ h => execSlotDrain_of_released h⟩

end Sys2Proof.Machine
end

section
/-! SUPPORT. An admitted host write, and the fence of a probe: what closes it, what leaves it, and what a fault adds to the probe's queue. -/

namespace Sys2Proof.Machine

open Sys2Proof

/-! ## An admitted host write -/

/-- A completion with status OK is its response alone. -/
@[simp] theorem ghpDone_ok (s : State) (ten tag addr : Nat) (wr sz64 : Bool) (data : Nat) :
    s.ghpDone ten tag addr wr sz64 .ok data = s.emit (.ghpRs tag 0 (wrap 64 data)) := rfl

theorem hostWriteIn_of_admits {s : State} {ten tag : Nat} {owner : Option Nat} (h : s.admits ten tag owner = true) (refusedOk : Bool) (addr : Nat)
    (act : State → State) : s.hostWriteIn refusedOk ten tag addr owner true act = (act s).emit (.ghpRs (wrap 6 tag) 0 0) := by
  obtain ⟨htakes, howner, href, hseal⟩ := admits_iff.mp h
  have hok : s.judgeWrite (wrap 12 ten) owner refusedOk true = .ok := by
    rcases howner with hzero | hten
    · simp [State.judgeWrite, hzero, href, hseal]
    · simp [State.judgeWrite, hten, href, hseal]
  rw [hostWriteIn_of_takes htakes, hok, if_pos rfl, ghpDone_ok, wrap_zero]

theorem hostWrite_of_admits {s : State} {ten tag : Nat} {owner : Option Nat} (h : s.admits ten tag owner = true) (addr : Nat) (act : State → State) :
    s.hostWrite ten tag addr owner true act = (act s).emit (.ghpRs (wrap 6 tag) 0 0) :=
  hostWriteIn_of_admits h false addr act

/-! ## What an in-field test leaves of a probe -/

/-- The parts of a probe that let commands in: the fence, the stop leaf and the band. -/
def Probe.gate (p : Probe) : FenceState × Bool × Nat := (p.fence, p.stopLeaf, p.band)

section

variable (s : State) (r t : Nat)

theorem gate_modProbe {g : Probe → Probe} (h : ∀ p, (g p).gate = p.gate) : ((s.modProbe r t g).probe r t).gate = (s.probe r t).gate := by
  rw [probe_modProbe_self, h]

@[simp] theorem gate_modIft (g : ProbeIft → ProbeIft) : ((s.modIft r t g).probe r t).gate = (s.probe r t).gate := gate_modProbe s r t (fun _ => rfl)

@[simp] theorem gate_askPattern (pat : Nat) : ((s.askPattern r t pat).probe r t).gate = (s.probe r t).gate := by
  simp [State.askPattern]

@[simp] theorem gate_driveCshk (step : Nat) : ((s.driveCshk r t step).probe r t).gate = (s.probe r t).gate := by
  simp [State.driveCshk, Probe.gate]

theorem probe_fillUnit (pat : Nat) (d : Pattern) (u : Nat) : (s.fillUnit r pat d u).2.probe r t = s.probe r t := by
  unfold State.fillUnit
  split <;> rfl

theorem probe_foldl_fillUnit (pat : Nat) (d : Pattern) (l : List Nat) :
    (l.foldl (fun s u => let (w, s) := s.fillUnit r pat d u; s.emit (.xwr r t u w)) s).probe r t = s.probe r t := by
  induction l generalizing s with
  | nil => rfl
  | cons u l ih => exact (ih _).trans (probe_fillUnit s r t pat d u)

@[simp] theorem gate_fillSegment (d : Pattern) : ((s.fillSegment r t d).probe r t).gate = (s.probe r t).gate := by
  unfold State.fillSegment
  dsimp only
  rw [gate_askPattern, probe_emit, gate_modProbe _ r t (by intro; rfl)]
  exact congrArg Probe.gate (probe_foldl_fillUnit s r t _ d _)

@[simp] theorem gate_beginSegment : ((s.beginSegment r t).probe r t).gate = (s.probe r t).gate := by
  unfold State.beginSegment
  dsimp only
  split
  · split
    · split
      · simp
      · exact (gate_modProbe _ r t (by intro; rfl)).trans (gate_modIft s r t _)
    · rfl
  · rfl

@[simp] theorem gate_requestSegment (pat : Nat) (seg : SegKind) : ((s.requestSegment r t pat seg).probe r t).gate = (s.probe r t).gate := by
  unfold State.requestSegment
  dsimp only
  split
  · simp
  · split <;> simp

@[simp] theorem gate_tryPresent : ((s.tryPresent r t).probe r t).gate = (s.probe r t).gate := by
  unfold State.tryPresent
  dsimp only
  split
  · rfl
  · split
    · rfl
    · simp [Probe.gate]

@[simp] theorem gate_resumeIft : ((s.resumeIft r t).probe r t).gate = (s.probe r t).gate := by
  unfold State.resumeIft
  dsimp only
  split
  · split <;> simp
  · rfl

@[simp] theorem gate_dropSlot0 : ((s.dropSlot0 r t).probe r t).gate = (s.probe r t).gate := by
  unfold State.dropSlot0 State.discardSlot
  split
  · rfl
  · simp [Probe.gate, Probe.setSlot]

@[simp] theorem gate_suspendIft : ((s.suspendIft r t).probe r t).gate = (s.probe r t).gate := by
  unfold State.suspendIft
  dsimp only
  split
  · split <;> simp
  · rfl

@[simp] theorem gate_endWalk (valid bandchg cshkto : Bool) : ((s.endWalk r t valid bandchg cshkto).probe r t).gate = (s.probe r t).gate := by
  simp [State.endWalk, State.startPass, State.closeWalk]

@[simp] theorem gate_walkBand : ((s.walkBand r t).probe r t).gate = (s.probe r t).gate := by
  unfold State.walkBand
  dsimp only
  split <;> simp [State.startWalk]

@[simp] theorem gate_walkBandSuspended (was : Nat) : ((s.walkBandSuspended r t was).probe r t).gate = (s.probe r t).gate := by
  unfold State.walkBandSuspended
  dsimp only
  split
  · simp
  · split <;> simp

theorem band_bandInput (band : Nat) : ((s.bandInput r t band).probe r t).band = wrap 3 band := by
  unfold State.bandInput
  extract_lets p slots u v w
  have hu : (u.probe r t).gate.2.2 = wrap 3 band := by simp [u, Probe.gate]
  suffices h : ∀ x : State, (x.probe r t).gate = (u.probe r t).gate → (x.probe r t).band = wrap 3 band by
    apply h
    split
    · split <;> simp [v]
    · split
      · simp
      · simp only [gate_resumeIft, gate_tryPresent]
        unfold w
        split <;> simp
  exact fun x hx => (congrArg (·.2.2) hx).trans hu

/-! ## The fence -/

theorem fence_setFence (f : FenceState) (h : (s.probe r t).fence ≠ .stopped) : ((s.setFence r t f).probe r t).fence = f := by
  unfold State.setFence
  dsimp only
  rw [if_neg h]
  split <;> split <;> simp

@[simp] theorem faultOut_setFence (f : FenceState) : ((s.setFence r t f).probe r t).faultOut = (s.probe r t).faultOut := by
  unfold State.setFence
  dsimp only
  split <;> split <;> split <;> simp

@[simp] theorem fence_probeFault (kind tenant addr : Nat) : ((s.probeFault r t kind tenant addr).probe r t).fence = (s.probe r t).fence := by
  simp [State.probeFault]

@[simp] theorem kind_faultOut_probeFault (kind tenant addr : Nat) :
    ((s.probeFault r t kind tenant addr).probe r t).faultOut.getLast?.map (·.kind) = some kind := by
  simp [State.probeFault]

theorem get_setFence (f : FenceState) {g : RegField} (h : g.apart Reg.TP_CTRL_FENCE_REQ = true) :
    (s.setFence r t f).get g (pid r t) = s.get g (pid r t) := by
  unfold State.setFence
  dsimp only
  split
  · exact get_set_apart h _ _ _
  · rfl

@[simp] theorem faultOut_retryOpens : ((s.retryOpens r t).probe r t).faultOut = (s.probe r t).faultOut := by
  unfold State.retryOpens
  dsimp only
  split <;> simp

@[simp] theorem hub_retryOpens (x : Nat) : (s.retryOpens r t).hub x = s.hub x :=
  hub_congr (hubs_of_blank (F := { probes := true, regs := [.probe] }) (retryOpens_blank s r t rfl rfl) rfl) x

@[simp] theorem hub_count (code n x : Nat) : (s.count r t code n).hub x = s.hub x :=
  hub_congr (hubs_of_blank (F := { regs := [.probe] }) (count_blank s r t code n rfl) rfl) x

/-- A fault message enters a hub's queue while there is room (R26). -/
theorem queue_hubQueue (m : FaultMsg) (h : (s.hub r).flt.queue.length < 64) : ((s.hubQueue r m).hub r).flt.queue = (s.hub r).flt.queue ++ [m] := by
  unfold State.hubQueue
  dsimp only
  rw [if_pos h]
  split <;> simp

@[simp] theorem probe_hubQueue (m : FaultMsg) (x y : Nat) : (s.hubQueue r m).probe x y = s.probe x y := by
  unfold State.hubQueue
  dsimp only
  split
  · split <;> simp
  · simp

@[simp] theorem get_probeFault (kind tenant addr : Nat) (f : RegField) (i : Nat) : (s.probeFault r t kind tenant addr).get f i = s.get f i := rfl

end

/-! ## The commands -/

theorem execMeshBlock_first (region tile fmt nel data tag src line lines : Nat) (prot : Bool) (s : State) :
    ∃ t, execMeshBlock region tile true false prot fmt nel data tag src line lines s = .next t ∧
      ∃ b ∈ (t.probe region tile).meshOpen, b.src = src ∧ b.prot = prot ∧ b.line = line ∧ b.lines = lines := by
  simp [execMeshBlock]

theorem execSramEccEvent_corrected (region tile line : Nat) (s : State) : ∃ t, execSramEccEvent region tile false line s = .next t ∧
    t.get Reg.TP_EVENT_ECCC (pid region tile) = 1 ∧ (t.probe region tile).faultOut.getLast?.map (·.kind) = some 0x008 := by
  refine ⟨_, rfl, ?_, kind_faultOut_probeFault _ _ _ _ _ _⟩
  rw [get_probeFault, get_raise_self]
  rfl

/-- An event of a memory is noted in a move of another tile alone (R93, R134). -/
theorem fence_flagMove (s : State) (r t : Nat) (f : MoveState → MoveState) : ((s.flagMove r t f).probe r t).fence = (s.probe r t).fence := by
  unfold State.flagMove
  split
  next d _ =>
    by_cases hd : pid r t = pid r d
    · simp [State.probe, State.modProbe, State.setProbe, hd]
    · rw [probe_modProbe_ne hd]
  next => rfl

theorem execSramEccEvent_uncorrectable (region tile line : Nat) (s : State) (hfence : (s.probe region tile).fence = .opened) :
    ∃ t, execSramEccEvent region tile true line s = .next t ∧ t.get Reg.TP_EVENT_ECCU (pid region tile) = 1 ∧
      (t.probe region tile).fence = .fenced ∧ (t.probe region tile).faultOut.getLast?.map (·.kind) = some 0x009 := by
  unfold execSramEccEvent
  extract_lets p s' marked closed
  have hfence' : (s'.probe region tile).fence = .opened := by
    unfold s'
    split
    · split
      · exact (fence_flagMove s region tile _).trans hfence
      · exact hfence
    · exact hfence
  have heff : p.eff = .opened := by simp [Probe.eff, p, hfence]
  have hclosed : closed = marked.setFence region tile .fenced := if_pos (.inl heff)
  refine ⟨_, rfl, ?_, ?_, kind_faultOut_probeFault _ _ _ _ _ _⟩
  · rw [get_probeFault, hclosed, get_setFence _ _ _ _ (by decide), get_modProbe, get_raise_self]
    rfl
  · rw [fence_probeFault, hclosed, fence_setFence _ _ _ _ (by simp [marked, hfence'])]

theorem execFenceReq_of_opened (region tile ten tag : Nat) (s : State) (hadmits : s.admits ten tag none = true)
    (htile : s.hasTile region tile = true) (hfence : (s.probe region tile).fence = .opened) : ∃ t, execFenceReq region tile ten tag s = .next t ∧
      (t.probe region tile).fence = .fenced ∧ t.get Reg.TP_CTRL_FENCE_REQ (pid region tile) = 1 ∧ .ghpRs (wrap 6 tag) 0 0 ∈ t.pulses := by
  have hclosed : ((s.setFence region tile .fenced).probe region tile).fence = .fenced := fence_setFence _ _ _ _ (by simp [hfence])
  simp [execFenceReq, htile, hostWrite_of_admits hadmits, State.fenceReq, Probe.eff, hfence, hclosed]
  rfl

theorem execRetryTimeout_of_waiting (region tile i : Nat) (s : State) (hfence : (s.probe region tile).fence = .retry)
    (hslot : (s.probe region tile).retrySlot = some i) (htaken : (s.probe region tile).retryTaken = false) : ∃ t, execRetryTimeout region tile s = .next t ∧
      (t.probe region tile).fence = .fenced ∧ t.get Reg.TP_EVENT_RETRYTO (pid region tile) = 1 ∧
      (t.probe region tile).faultOut.getLast?.map (·.kind) = some 0x005 := by
  refine ⟨_, by simp only [execRetryTimeout, Probe.eff, hfence, hslot, htaken, reduceCtorEq, if_false, and_self, if_true]; rfl, ?_, ?_,
    kind_faultOut_probeFault _ _ _ _ _ _⟩
  · rw [fence_probeFault, fence_setFence _ _ _ _ (by simp [hfence])]
  · rw [get_probeFault, get_setFence _ _ _ _ (by decide), get_raise_self]
    rfl

theorem execFaultFlitDepart_of_room (region tile : Nat) (m : FaultMsg) (rest : List FaultMsg) (s : State)
    (hout : (s.probe region tile).faultOut = m :: rest) (hroom : (s.hub region).flt.queue.length < 64) : ∃ t, execFaultFlitDepart region tile s = .next t ∧
      (t.probe region tile).faultOut = rest ∧ (t.hub region).flt.queue = (s.hub region).flt.queue ++ [m] := by
  unfold execFaultFlitDepart
  simp only [hout, Nat.not_le.mpr hroom, if_false, Host.Outcome.next.injEq, exists_eq_left']
  have hqueue : ∀ p : Probe, (((s.setProbe region tile p).hubQueue region m).hub region).flt.queue = (s.hub region).flt.queue ++ [m] :=
    fun p => queue_hubQueue (s.setProbe region tile p) region m hroom
  split <;> simp [hqueue]

theorem execProbeGate_of_mayGate (region tile : Nat) (s : State) (h : (s.probe region tile).mayGate = true) : ∃ t, execProbeGate region tile s = .next t ∧
    (t.probe region tile).idle = true ∧ (t.probe region tile).powered = false ∧ (t.probe region tile).act = [] := by
  simp [execProbeGate, h, State.sendActivity]

theorem execProbeWake_powers (region tile : Nat) (s : State) : ∃ t, execProbeWake region tile s = .next t ∧ (t.probe region tile).idle = false ∧
    (t.probe region tile).powered = true := by
  simp [execProbeWake]

theorem execStopLeafRise_at_probe (region tile : Nat) (s : State) : ∃ t, execStopLeafRise region (some tile) s = .next t ∧
    (t.probe region tile).stopLeaf = true ∧ (t.probe region tile).fence = .stopped := by
  simp [execStopLeafRise]

theorem execStopLeafFall_of_opened (region tile : Nat) (s : State) (hfence : (s.probe region tile).fence = .stopped)
    (hremembered : (s.probe region tile).remembered = .opened) : ∃ t, execStopLeafFall region (some tile) s = .next t ∧
      (t.probe region tile).stopLeaf = false ∧ (t.probe region tile).fence = .opened := by
  refine ⟨_, rfl, ?_⟩
  suffices h : ∀ p : Probe, p.gate.1 = .opened ∧ p.gate.2.1 = false → p.stopLeaf = false ∧ p.fence = .opened by
    apply h
    rw [gate_beginSegment, gate_resumeIft, gate_tryPresent]
    simp [Probe.gate, hfence, hremembered]
  exact fun p hp => hp.symm

theorem execBandInputChange_sets_band (region tile band : Nat) (s : State) : ∃ t, execBandInputChange region tile band s = .next t ∧
    (t.probe region tile).band = wrap 3 band :=
  ⟨_, rfl, band_bandInput s region tile band⟩

/-- Settles O21. -/
theorem probeFenceCommands : Obligations.ProbeFenceCommands :=
  ⟨execMeshBlock_first, execSramEccEvent_corrected, execSramEccEvent_uncorrectable, execFenceReq_of_opened, execRetryTimeout_of_waiting,
    execFaultFlitDepart_of_room, execProbeGate_of_mayGate, execProbeWake_powers, execStopLeafRise_at_probe, execStopLeafFall_of_opened,
    execBandInputChange_sets_band⟩

end Sys2Proof.Machine
end

section
/-! SUPPORT. The copy port of a probe (R73, R148) and the clock shift of its margin walk (R126, R134). -/

namespace Sys2Proof.Machine

open Sys2Proof

/-- What each step of a fold leaves, the fold leaves. -/
theorem apply_foldl {α β : Type} (view : State → β) (f : State → α → State) (h : ∀ s a, view (f s a) = view s) (l : List α) (s : State) :
    view (l.foldl f s) = view s := by
  induction l generalizing s with
  | nil => rfl
  | cons a l ih => exact (ih _).trans (h s a)

/-- The parts of a probe that the margin walk moves: the walk, whether it is done, the settling and the step of the clock shift. -/
def Probe.walk (p : Probe) : Bool × Bool × Bool × Nat := (p.ift.walking, p.ift.walkDone, p.ift.settled, p.cshkStep)

section

variable (s : State) (r t : Nat)

theorem walk_modProbe {g : Probe → Probe} (h : ∀ p, (g p).walk = p.walk) : ((s.modProbe r t g).probe r t).walk = (s.probe r t).walk := by
  rw [probe_modProbe_self, h]

@[simp] theorem walk_askPattern (pat : Nat) : ((s.askPattern r t pat).probe r t).walk = (s.probe r t).walk := by
  simp [State.askPattern, State.modIft, Probe.walk]

@[simp] theorem walk_fillSegment (d : Pattern) : ((s.fillSegment r t d).probe r t).walk = (s.probe r t).walk := by
  unfold State.fillSegment
  dsimp only
  rw [walk_askPattern, probe_emit, walk_modProbe _ r t (by intro; rfl)]
  exact congrArg Probe.walk (probe_foldl_fillUnit s r t _ d _)

@[simp] theorem walk_beginSegment : ((s.beginSegment r t).probe r t).walk = (s.probe r t).walk := by
  unfold State.beginSegment
  dsimp only
  split
  · split
    · split
      · exact (walk_fillSegment _ r t _).trans (walk_modProbe s r t (by intro; rfl))
      · exact (walk_modProbe _ r t (by intro; rfl)).trans (walk_modProbe s r t (by intro; rfl))
    · rfl
  · rfl

@[simp] theorem walk_requestSegment (pat : Nat) (seg : SegKind) : ((s.requestSegment r t pat seg).probe r t).walk = (s.probe r t).walk := by
  have hmod : ∀ g : ProbeIft → ProbeIft, (∀ i, (g i).walking = i.walking ∧ (g i).walkDone = i.walkDone ∧ (g i).settled = i.settled) →
      ((s.modIft r t g).probe r t).walk = (s.probe r t).walk := fun g hg => by simp [State.modIft, Probe.walk, hg]
  unfold State.requestSegment
  dsimp only
  split
  · rw [walk_beginSegment, hmod _ (by simp)]
  · split
    · rw [hmod _ (by simp)]
    · rw [walk_askPattern, hmod _ (by simp)]

theorem get_requestSegment (pat : Nat) (seg : SegKind) (f : RegField) (i : Nat) : (s.requestSegment r t pat seg).get f i = s.get f i :=
  get_of_blank (F := { probes := true, flue := true, pulses := true, freeCtr := true }) (by apply requestSegment_blank <;> rfl) rfl i

/-- A walk that ends is done, and its result stands in TP_MW_LAST (R126, R134). -/
theorem walk_endWalk (valid bandchg cshkto : Bool) : ((s.endWalk r t valid bandchg cshkto).probe r t).ift.walking = false ∧
    ((s.endWalk r t valid bandchg cshkto).probe r t).ift.walkDone = true ∧
    ((s.endWalk r t valid bandchg cshkto).probe r t).cshkStep = (s.probe r t).cshkStep := by
  have hwalk : ((s.endWalk r t valid bandchg cshkto).probe r t).walk = (false, true, (s.probe r t).ift.settled, (s.probe r t).cshkStep) := by
    unfold State.endWalk State.startPass
    rw [walk_requestSegment]
    simp [State.closeWalk, State.modIft, Probe.walk]
  simp only [Probe.walk, Prod.mk.injEq] at hwalk
  obtain ⟨hwalking, hdone, -, hstep⟩ := hwalk
  exact ⟨hwalking, hdone, hstep⟩

theorem get_endWalk (valid bandchg cshkto : Bool) : (s.endWalk r t valid bandchg cshkto).get Reg.TP_MW_LAST_VALID (pid r t) = flag valid ∧
    (s.endWalk r t valid bandchg cshkto).get Reg.TP_MW_LAST_CSHKTO (pid r t) = flag cshkto := by
  unfold State.endWalk State.startPass State.closeWalk
  simp only [get_requestSegment, State.modIft, get_modProbe, get_send]
  simp (disch := decide) only [State.setAll, get_set_apart, get_set_self]
  cases valid <;> cases cshkto <;> exact ⟨rfl, rfl⟩

end

/-- A move's order is carried out over the port: units leave as pulses, and a late one is reported (R148). -/
theorem execXownAck_of_move (region tile : Nat) (data : List Nat) {m : MoveState} (s : State) (hxown : (s.probe region tile).xown = true)
    (hack : (s.probe region tile).xownAck = false) (hleaf : (s.probe region tile).stopLeaf = false) (hmove : (s.probe region tile).move = some m) :
    ∃ t, execXownAck region tile data s = .next t ∧ t.probe region tile = { s.probe region tile with xownAck := true } ∧
      t.flue = (if m.timeout then s.sendMoved region tile m else s).flue := by
  simp only [execXownAck, hxown, hack, hleaf, hmove]
  cases m.order.send
  · cases m.timeout <;> simp [State.sendMoved]
  · simp only [Bool.true_eq_false, Bool.false_eq_true, or_self, if_false, if_true, Host.Outcome.next.injEq, exists_eq_left']
    refine ⟨(apply_foldl (fun s => s.probe region tile) _ (by intros; rfl) _ _).trans
      ((apply_foldl (fun s => s.probe region tile) _ (by intros; rfl) _ _).trans ?_),
      (apply_foldl State.flue _ (by intros; rfl) _ _).trans ((apply_foldl State.flue _ (by intros; rfl) _ _).trans ?_)⟩
    all_goals cases m.timeout <;> simp [State.sendMoved]

theorem execXownAck_of_no_copy (region tile : Nat) (data : List Nat) (s : State) (hxown : (s.probe region tile).xown = true)
    (hack : (s.probe region tile).xownAck = false) (hleaf : (s.probe region tile).stopLeaf = false) (hcopies : (s.probe region tile).copies = [])
    (hdesc : (s.probe region tile).ift.desc = none) : ∃ t, execXownAck region tile data s = .next t ∧ (t.probe region tile).xownAck = true := by
  cases hmove : (s.probe region tile).move with
  | none => simp [execXownAck, hxown, hack, hleaf, hcopies, hdesc, hmove]
  | some m => exact (execXownAck_of_move region tile data s hxown hack hleaf hmove).imp fun t ht => ⟨ht.1, by rw [ht.2.1]⟩

theorem execXownAck_of_late_move (region tile : Nat) (data : List Nat) (m : MoveState) (s : State) (hxown : (s.probe region tile).xown = true)
    (hack : (s.probe region tile).xownAck = false) (hleaf : (s.probe region tile).stopLeaf = false) (hmove : (s.probe region tile).move = some m)
    (htimeout : m.timeout = true) : ∃ t, execXownAck region tile data s = .next t ∧ (t.probe region tile).xownAck = true ∧
      msgCatMoved region tile false m.busy m.ecc true (saturate 10 m.eccUnits) ∈ t.flue := by
  obtain ⟨t, ht, hprobe, hflue⟩ := execXownAck_of_move region tile data s hxown hack hleaf hmove
  exact ⟨t, ht, by rw [hprobe], hflue ▸ by simp [htimeout, State.sendMoved]⟩

theorem execMoveXownTimeout_of_waiting (region tile : Nat) (m : MoveState) (s : State) (hmove : (s.probe region tile).move = some m)
    (hxown : (s.probe region tile).xown = true) (hack : (s.probe region tile).xownAck = false) (hleaf : (s.probe region tile).stopLeaf = false) :
    ∃ t, execMoveXownTimeout region tile s = .next t ∧ (t.probe region tile).move = some { m with timeout := true } := by
  simp [execMoveXownTimeout, hmove, hxown, hack, hleaf]

theorem execCopyUnitArrive_of_unit (region tile beat data : Nat) (m : MoveState) (s : State) (hmove : (s.probe region tile).move = some m)
    (hrecv : m.order.recv = true) (hbeat : beat < 768) (hleaf : (s.probe region tile).stopLeaf = false) :
    ∃ t, execCopyUnitArrive region tile beat data s = .next t ∧ ((t.probe region tile).move.map (·.received)) = some (m.received + 1) ∧
      .xwr region tile beat data ∈ t.pulses := by
  simp [execCopyUnitArrive, hmove, hrecv, hbeat, hleaf]

theorem execMoveComplete_of_acked (region tile : Nat) (m : MoveState) (s : State) (hmove : (s.probe region tile).move = some m)
    (hrecv : m.order.recv = true) (hack : (s.probe region tile).xownAck = true) (hleaf : (s.probe region tile).stopLeaf = false)
    (htimeout : m.timeout = false) : ∃ t, execMoveComplete region tile s = .next t ∧ (t.probe region tile).move = none ∧
      (t.probe region tile).xown = false ∧ msgCatMoved region tile (!(m.busy || m.ecc)) m.busy m.ecc false (saturate 10 m.eccUnits) ∈ t.flue := by
  simp [execMoveComplete, hmove, hrecv, hack, hleaf, htimeout, State.sendMoved]

theorem ift_tryPresent (s : State) (r t : Nat) : ((s.tryPresent r t).probe r t).ift = (s.probe r t).ift := by
  unfold State.tryPresent
  dsimp only
  split
  · rfl
  · split <;> simp

theorem execCshkAck_ends_wait (region tile : Nat) (s : State) : ∃ t, execCshkAck region tile s = .next t ∧ (t.probe region tile).ift.cshkWait = false := by
  unfold execCshkAck
  extract_lets p ift u
  have hu : (u.probe region tile).ift.cshkWait = false := by simp [u, ift]
  split
  · exact ⟨_, rfl, by simpa [State.modIft] using hu⟩
  · refine ⟨_, rfl, ?_⟩
    rw [ift_tryPresent]
    exact hu

theorem execCshkTimeout_of_waiting (region tile : Nat) (s : State) (hloop : (s.probe region tile).ift.inLoop = true)
    (hwait : (s.probe region tile).ift.cshkWait = true) (hsuspended : (s.probe region tile).ift.suspended = false)
    (hleaf : (s.probe region tile).stopLeaf = false) : ∃ t, execCshkTimeout region tile s = .next t ∧ (t.probe region tile).ift.walking = false ∧
      (t.probe region tile).ift.walkDone = true ∧ (t.probe region tile).cshkStep = 0 ∧ t.get Reg.TP_MW_LAST_VALID (pid region tile) = 0 ∧
      t.get Reg.TP_MW_LAST_CSHKTO (pid region tile) = 1 := by
  refine ⟨_, if_pos ⟨hloop, hwait, hsuspended, hleaf⟩, ?_⟩
  obtain ⟨hwalking, hdone, hstep⟩ := walk_endWalk ((s.modIft region tile (fun i => { i with tmoStep := i.step, cshkWait := false })).driveCshk region tile 0)
    region tile false false true
  exact ⟨hwalking, hdone, hstep.trans (by simp [State.driveCshk]), get_endWalk _ _ _ _ _ _⟩

theorem execMwSettleDone_of_loop (region tile : Nat) (s : State) (hloop : (s.probe region tile).ift.inLoop = true)
    (hwait : (s.probe region tile).ift.cshkWait = false) (hsettled : (s.probe region tile).ift.settled = false)
    (hsuspended : (s.probe region tile).ift.suspended = false) (hleaf : (s.probe region tile).stopLeaf = false) :
    ∃ t, execMwSettleDone region tile s = .next t ∧ (t.probe region tile).ift.settled = true := by
  have hu : ((s.modIft region tile (fun i => { i with settled := true })).probe region tile).walk.2.2.1 = true := by simp [State.modIft, Probe.walk]
  refine ⟨_, if_pos ⟨hloop, hwait, hsettled, hsuspended, hleaf⟩, ?_⟩
  split
  · exact (congrArg (·.2.2.1) (walk_requestSegment _ region tile _ _)).trans hu
  · exact hu

/-- Settles O22. -/
theorem copyPortCommands : Obligations.CopyPortCommands :=
  ⟨execXownAck_of_no_copy, execXownAck_of_late_move, execMoveXownTimeout_of_waiting, execCopyUnitArrive_of_unit, execMoveComplete_of_acked,
    execCshkAck_ends_wait, execCshkTimeout_of_waiting, execMwSettleDone_of_loop⟩

end Sys2Proof.Machine
end

section
/-! SUPPORT. The second readings (R106–R116): messages at a probe that its accession number admits, what a hub sends stays on the Flue, and what the commands of a reading do. -/

namespace Sys2Proof.Machine

open Sys2Proof

/-- A message that carries the probe's accession number is acted on (R146). -/
theorem atProbe_of_reaches {s : State} {r t acc : Nat} (h : s.reaches r t acc = true) (m : Msg) (act : State → State) :
    s.atProbe r t acc m act = act (s.recv m) := by
  simp only [State.reaches, Bool.and_eq_true, beq_iff_eq, Bool.not_eq_true', Bool.and_eq_false_iff] at h
  obtain ⟨hnow, hstays⟩ := h
  rw [State.atProbe, if_pos hnow, if_neg]
  rintro ⟨hmove, hport⟩
  rcases hstays with h | h
  · exact absurd (hmove.symm.trans h) (by decide)
  · exact absurd (hport.symm.trans h) (by decide)

/-! ## Messages stay on the Flue -/

/-- What each step of a fold leaves on the Flue, the fold leaves. -/
theorem flue_subset_foldl {α : Type} (f : State → α → State) (h : ∀ s a, s.flue ⊆ (f s a).flue) (l : List α) (s : State) : s.flue ⊆ (l.foldl f s).flue := by
  induction l generalizing s with
  | nil => exact List.Subset.refl _
  | cons a l ih => exact List.Subset.trans (h s a) (ih _)

section

variable (s : State) (r : Nat)

theorem flue_recordOf (code src p0 p1 p2 : Nat) : (s.recordOf code src p0 p1 p2).flue = s.flue :=
  flue_of_blank (F := { ldg := true, pulses := true, regs := [.ldg] }) (by apply recordOf_blank <;> rfl) rfl

theorem flue_traceDrop (n : Nat) : (s.traceDrop r n).flue = s.flue :=
  flue_of_blank (F := { hubs := true, ldg := true, pulses := true, regs := [.ldg, .hubTr] }) (by apply traceDrop_blank <;> rfl) rfl

theorem flue_subset_hubTrace (cls tenant payload : Nat) : s.flue ⊆ (s.hubTrace r cls tenant payload).flue := by
  unfold State.hubTrace State.traceStore
  dsimp only
  split
  · split
    · rw [flue_traceDrop]
      exact List.Subset.refl _
    · split <;> simp [State.modTr, State.event]
  · exact List.Subset.refl _

theorem flue_subset_traceFolio (number state code : Nat) (late : Bool) : s.flue ⊆ (s.traceFolio r number state code late).flue :=
  flue_subset_hubTrace s r _ _ _

theorem flue_subset_dispatch (c : Nat) : s.flue ⊆ (s.dispatch r c).flue := by
  unfold State.dispatch
  dsimp only
  split
  · exact List.Subset.refl _
  · split
    · split <;> simp [State.modReads, State.setQueue]
    · exact List.Subset.refl _

theorem flue_subset_tryVote (n : Nat) : s.flue ⊆ (s.tryVote r n).flue := by
  unfold State.tryVote
  dsimp only
  split
  · exact List.Subset.refl _
  · split
    · refine List.Subset.trans ?_ (flue_subset_traceFolio _ r n 1 0 false)
      simp [State.setHubFolio]
    · exact List.Subset.refl _

theorem flue_subset_dispatchAll : s.flue ⊆ (s.dispatchAll r).flue := by
  unfold State.dispatchAll
  exact flue_subset_foldl _ (fun s c => flue_subset_dispatch s r c) _ s

theorem flue_subset_tryVotes : s.flue ⊆ (s.tryVotes r).flue := by
  unfold State.tryVotes
  exact flue_subset_foldl _ (fun s (f : HubFolio) => flue_subset_tryVote s r f.number) _ s

theorem flue_subset_afterReading : s.flue ⊆ (s.afterReading r).flue :=
  List.Subset.trans (flue_subset_dispatchAll s r) (flue_subset_tryVotes _ r)

theorem flue_subset_hubPropose (urgent : Bool) (acts : List Act) : s.flue ⊆ (s.hubPropose r urgent acts).flue := by
  exact List.subset_append_left _ _

end

/-- A void vote leaves for the Kiln (R177). -/
theorem msgFlVote_mem_voteVoid {s : State} {r n : Nat} {f : HubFolio} (hf : (s.hub r).folioOf n = some f) (hnumber : f.number = n)
    (hst : f.st = .preparing ∨ f.st = .yes) (code : Nat) : msgFlVote r n code (s.hub r).gt ∈ (s.voteVoid r f.number code).flue := by
  simp only [State.voteVoid, hnumber, hf, if_pos hst]
  exact flue_subset_traceFolio _ _ _ _ _ _ (by simp)

/-- What allows a step of a gap walk: the dwell has passed, and a short quota is allowed. -/
def WalkState.allowed (w : WalkState) : Bool × Bool := (w.shortAllowed, w.dwellPassed)

theorem allowed_modWalk (s : State) (r c : Nat) {f : WalkState → WalkState} (h : ∀ w, (f w).allowed = w.allowed) (col : Nat) :
    (((s.modWalk r c f).hub r).walkOf col).allowed = ((s.hub r).walkOf col).allowed := by
  by_cases hcol : col = c
  · subst hcol
    simp [State.modWalk, Hub.walkOf, h]
  · simp [State.modWalk, Hub.walkOf, tgetD_tput_ne hcol]

theorem allowed_proposeSteps (s : State) (r : Nat) (cols : List Nat) (col : Nat) :
    (((s.proposeSteps r cols).hub r).walkOf col).allowed = ((s.hub r).walkOf col).allowed := by
  unfold State.proposeSteps
  extract_lets l short u v
  have hu : ((u.hub r).walkOf col).allowed = ((s.hub r).walkOf col).allowed :=
    apply_foldl (fun s => ((s.hub r).walkOf col).allowed) _ (by intro s c; exact allowed_modWalk s r c (by intro; rfl) col) _ _
  split
  · rfl
  · have hv : ((v.hub r).walkOf col).allowed = ((u.hub r).walkOf col).allowed := by
      unfold v
      split <;> simp
    refine Eq.trans ?_ (hv.trans hu)
    simp [State.hubPropose, Hub.walkOf]

/-! ## Slots and orders of a reading -/

theorem tryPresent_of_units {s : State} {r t : Nat} {o : ReadOrder} (ho : (s.probe r t).readOrder = some o) (h : o.got < o.units) :
    s.tryPresent r t = s := by
  simp [State.tryPresent, ho, h]

/-- Presenting an order changes nothing of it but that it is presented. -/
theorem readOrder_tryPresent {s : State} {r t : Nat} {o : ReadOrder} (ho : (s.probe r t).readOrder = some o) :
    ∃ b, ((s.tryPresent r t).probe r t).readOrder = some { o with presented := b } := by
  unfold State.tryPresent
  simp only [ho]
  split
  · exact ⟨o.presented, ho⟩
  · exact ⟨true, by simp⟩

/-- A probe without its accumulation and its trace records. -/
def Probe.uncommitted (p : Probe) : Probe := { p with acc := [], traceOut := [], traceDrops := 0 }

theorem uncommitted_probeTrace (s : State) (r t : Nat) (recs : List Nat) : ((s.probeTrace r t recs).probe r t).uncommitted = (s.probe r t).uncommitted := by
  rw [State.probeTrace, probe_modProbe_self]
  split <;> rfl

/-- Committing a digest changes a probe's accumulation and its trace records alone (R282). -/
theorem uncommitted_commitDigest (s : State) (r t i : Nat) : ((s.commitDigest r t i).probe r t).uncommitted = (s.probe r t).uncommitted := by
  have hacc : ∀ (u : State) acc, ((u.setProbe r t { u.probe r t with acc := acc }).probe r t).uncommitted = (u.probe r t).uncommitted := fun u acc => by
    rw [probe_setProbe_self]
    rfl
  unfold State.commitDigest
  extract_lets p x k d layer a u q base b b' v
  have hu : (u.probe r t).uncommitted = (s.probe r t).uncommitted := by
    unfold u
    split
    · exact hacc s _
    · rfl
  have hv : (v.probe r t).uncommitted = (s.probe r t).uncommitted := (hacc u _).trans hu
  split
  · exact (uncommitted_probeTrace v r t _).trans hv
  · exact hv

theorem slot_commitDigest (s : State) (r t i j : Nat) : ((s.commitDigest r t i).probe r t).slot j = (s.probe r t).slot j :=
  (congrArg (Probe.slot · j) (uncommitted_commitDigest s r t i) :)

theorem relHold_commitDigest (s : State) (r t i : Nat) : ((s.commitDigest r t i).probe r t).relHold = (s.probe r t).relHold :=
  (congrArg Probe.relHold (uncommitted_commitDigest s r t i) :)

/-- A probe without the parts that an in-field test moves: its copy port, its test and its clock shift. -/
def Probe.untested (p : Probe) : Probe := { p with xown := false, xownAck := false, ift := {}, cshkStep := 0, cshkAck := false }

section

variable (s : State) (r t : Nat)

theorem untested_modProbe {g : Probe → Probe} (h : ∀ p, (g p).untested = p.untested) : ((s.modProbe r t g).probe r t).untested = (s.probe r t).untested := by
  rw [probe_modProbe_self, h]

@[simp] theorem untested_modIft (g : ProbeIft → ProbeIft) : ((s.modIft r t g).probe r t).untested = (s.probe r t).untested :=
  untested_modProbe s r t (by intro; rfl)

@[simp] theorem untested_askPattern (pat : Nat) : ((s.askPattern r t pat).probe r t).untested = (s.probe r t).untested := by
  simp [State.askPattern]

@[simp] theorem untested_driveCshk (step : Nat) : ((s.driveCshk r t step).probe r t).untested = (s.probe r t).untested := by
  rw [State.driveCshk, probe_emit, untested_modProbe s r t (by intro; rfl)]

@[simp] theorem untested_fillSegment (d : Pattern) : ((s.fillSegment r t d).probe r t).untested = (s.probe r t).untested := by
  unfold State.fillSegment
  dsimp only
  rw [untested_askPattern, probe_emit, untested_modProbe _ r t (by intro; rfl)]
  exact congrArg Probe.untested (probe_foldl_fillUnit s r t _ d _)

@[simp] theorem untested_beginSegment : ((s.beginSegment r t).probe r t).untested = (s.probe r t).untested := by
  unfold State.beginSegment
  dsimp only
  split
  · split
    · split
      · simp
      · exact (untested_modProbe _ r t (by intro; rfl)).trans (untested_modIft s r t _)
    · rfl
  · rfl

@[simp] theorem untested_requestSegment (pat : Nat) (seg : SegKind) : ((s.requestSegment r t pat seg).probe r t).untested = (s.probe r t).untested := by
  unfold State.requestSegment
  dsimp only
  split
  · simp
  · split <;> simp

@[simp] theorem untested_resumeIft : ((s.resumeIft r t).probe r t).untested = (s.probe r t).untested := by
  unfold State.resumeIft
  dsimp only
  split
  · split <;> simp
  · rfl

end

theorem kickRelease_of_hold {s : State} {r t : Nat} (h : (s.probe r t).relHold = true) : s.kickRelease r t = s := if_pos h

@[simp] theorem fence_checkIdle (s : State) (r t : Nat) : ((s.checkIdle r t).probe r t).fence = (s.probe r t).fence := by
  unfold State.checkIdle
  dsimp only
  split <;> simp

@[simp] theorem pulses_checkIdle (s : State) (r t : Nat) : (s.checkIdle r t).pulses = s.pulses :=
  pulses_of_blank (F := { probes := true, flue := true }) (checkIdle_blank s r t rfl rfl) rfl

section

variable (s : State) (r t i : Nat)

@[simp] theorem slot_discardSlot_self : ((s.discardSlot r t i).probe r t).slot i = {} := by
  simp [State.discardSlot, Probe.slot, Probe.setSlot]

@[simp] theorem fence_discardSlot : ((s.discardSlot r t i).probe r t).fence = (s.probe r t).fence := by simp [State.discardSlot, Probe.setSlot]

@[simp] theorem relHold_discardSlot : ((s.discardSlot r t i).probe r t).relHold = (s.probe r t).relHold := by simp [State.discardSlot, Probe.setSlot]

theorem mem_pulses_discardSlot : .disc r t i ∈ (s.discardSlot r t i).pulses := by simp [State.discardSlot]

end

/-- While releases are held, a releasable slot stays. -/
theorem st_makeReleasable_of_hold {s : State} {r t i : Nat} (h : (s.probe r t).relHold = true) :
    (((s.makeReleasable r t i).probe r t).slot i).st = .releasable := by
  have hkick : (((s.commitDigest r t i).setSlot r t i { ((s.commitDigest r t i).probe r t).slot i with st := .releasable }).probe r t).relHold = true := by
    simpa [State.setSlot, Probe.setSlot, relHold_commitDigest] using h
  rw [State.makeReleasable, kickRelease_of_hold hkick]
  simp [State.setSlot]

/-! ## The commands -/

theorem execIcmdAccept_of_presented (region tile : Nat) (o : ReadOrder) (s : State) (ho : (s.probe region tile).readOrder = some o)
    (hpresented : o.presented = true) (hstarted : o.started = false) : ∃ t, execIcmdAccept region tile s = .next t ∧
      ((t.probe region tile).slot 0).st = .active ∧ ((t.probe region tile).slot 0).job = .reading ∧
      (t.probe region tile).readOrder = some { o with started := true } ∧ .opReady region tile ∈ t.pulses := by
  simp [execIcmdAccept, ho, hpresented, hstarted, Slot.begin_, Probe.slot, Probe.setSlot]

theorem execRdReq_of_reader (region tile slot sa sb beats u dom count gtlo g : Nat) (hdr : Hdr) (s : State)
    (hreader : (s.hub region).readerOf (tileCol tile) = some g) (hleaf : (s.hub region).stopLeaf = true) :
    ∃ t, execRdReq region tile slot hdr sa sb beats u dom count gtlo s = .next t ∧ ∃ x ∈ (t.hub region).queueOf (tileCol tile),
      x.worker = tile ∧ x.slot = slot ∧ x.hdr = hdr ∧ x.sa = sa ∧ x.sb = sb ∧ x.beats = beats := by
  simp [execRdReq, State.place, Hub.serving, hreader, State.setQueue, State.dispatch, hleaf, Hub.queueOf]

theorem execRdCopy_of_reading (region tile acc slot dir : Nat) (flue : Bool) (s : State) (hreaches : s.reaches region tile acc = true)
    (hst : ((s.probe region tile).slot slot).st = .reading) (hunits : copyUnits ((s.probe region tile).slot slot).first ≠ []) :
    ∃ t, execRdCopy region tile acc flue dir slot s = .next t ∧ (t.probe region tile).xown = true ∧
      (t.probe region tile).copies = (s.probe region tile).copies.filter (fun c => c.slot != slot) ++
        [{ flue := flue, dir := dir, slot := slot, left := copyUnits ((s.probe region tile).slot slot).first }] := by
  simp [execRdCopy, atProbe_of_reaches hreaches, hst, hunits]

theorem execRdOrder_of_reaches (region tile acc units hops dir count u dom : Nat) (flue : Bool) (hdr : Hdr) (s : State)
    (hreaches : s.reaches region tile acc = true) : ∃ t, execRdOrder region tile acc flue hdr units hops dir count u dom s = .next t ∧
      (t.probe region tile).readOrder.any (fun o => decide (o.hdr = hdr ∧ o.flue = flue ∧ o.units = units ∧ o.hops = hops ∧ o.dir = dir ∧
        o.count = count ∧ o.u = u ∧ o.dom = dom)) = true := by
  unfold execRdOrder
  rw [atProbe_of_reaches hreaches]
  refine ⟨_, rfl, ?_⟩
  extract_lets v rec_ k o w
  obtain ⟨b, hb⟩ := readOrder_tryPresent (s := w) (r := region) (t := tile) (o := o) (by simp [w])
  simp [hb, o]

theorem execReaderSignatureClose_of_last (region tile : Nat) (o : ReadOrder) (s : State) (ho : (s.probe region tile).readOrder = some o)
    (hstarted : o.started = true) (hjob : ((s.probe region tile).slot 0).job = .reading) (hlastc : ((s.probe region tile).slot 0).lastc = true) :
    ∃ t, execReaderSignatureClose region tile s = .next t ∧ msgRdReport region tile ((s.probe region tile).slot 0).sa ((s.probe region tile).slot 0).sb
      ((s.probe region tile).slot 0).ebeats o.fault ∈ t.flue ∧ (t.probe region tile).readOrder = none := by
  simp [execReaderSignatureClose, ho, hstarted, hjob, hlastc]
  refine (congrArg Probe.readOrder (untested_resumeIft _ region tile)).trans ?_
  simp [Probe.untested]

theorem execRdReport_of_equal (region tile sa sb beats : Nat) (x : ReadRec) (s : State) (hqueue : (s.hub region).queueOf (tileCol tile) = [x])
    (hrunning : x.running = true) (hreader : x.reader = some tile) (hst : x.st = .copy) (hequal : (sa, sb, beats) = (x.sa, x.sb, x.beats)) :
    ∃ t, execRdReport region tile sa sb beats false s = .next t ∧
      msgRdAgree region x.worker (s.accOf region x.worker) x.slot x.hdr.htag false ∈ t.flue := by
  have hagree : ∀ u : State, u.accOf region x.worker = s.accOf region x.worker →
      msgRdAgree region x.worker (s.accOf region x.worker) x.slot x.hdr.htag false ∈ (u.agreeReading region x).flue := fun u hu => by
    simp [State.agreeReading, State.sendAgree, State.modReads, State.setBook, hu]
  simp only [execRdReport, hub_recv, hqueue, List.find?_cons, hrunning, hreader, Bool.true_and, beq_self_eq_true, Bool.false_eq_true, if_false,
    Host.Outcome.next.injEq, exists_eq_left']
  refine flue_subset_afterReading _ _ ?_
  rw [State.reported, if_neg (by simp [hst]), if_pos hequal]
  refine flue_subset_hubTrace _ _ _ _ _ (hagree _ ?_)
  simp [State.dropRec, hrunning, State.modWalk, State.setQueue, State.accOf]

theorem execRdAgree_of_early (region tile acc slot htag : Nat) (unread : Bool) (s : State) (hreaches : s.reaches region tile acc = true)
    (hreading : ((s.probe region tile).slot slot).readingOf htag = true) (hpad : s.on Reg.RH_RD_CTRL_PADEN region = true)
    (hearly : (s.hub region).gt < ((s.probe region tile).slot slot).gtDecision + s.get Reg.RH_RD_PAD_PADLEN region) :
    ∃ t, execRdAgree region tile acc ⟨slot, htag⟩ unread s = .next t ∧ ((t.probe region tile).slot slot).agreed = true := by
  have hon : (s.recv (msgRdAgree region tile acc slot htag unread)).on Reg.RH_RD_CTRL_PADEN region = true := hpad
  simp [execRdAgree, atProbe_of_reaches hreaches, hreading, hon, hearly, State.setSlot]

theorem execRdAgree_of_due (region tile acc slot htag : Nat) (unread : Bool) (s : State) (hreaches : s.reaches region tile acc = true)
    (hreading : ((s.probe region tile).slot slot).readingOf htag = true)
    (hdue : s.on Reg.RH_RD_CTRL_PADEN region = false ∨
      ((s.probe region tile).slot slot).gtDecision + s.get Reg.RH_RD_PAD_PADLEN region ≤ (s.hub region).gt)
    (hhold : (s.probe region tile).relHold = true) :
    ∃ t, execRdAgree region tile acc ⟨slot, htag⟩ unread s = .next t ∧ ((t.probe region tile).slot slot).st = .releasable := by
  unfold execRdAgree
  rw [atProbe_of_reaches hreaches]
  refine ⟨_, rfl, ?_⟩
  extract_lets x gt pad due u
  have hreading' : x.readingOf htag = true := hreading
  have hwait : ¬(pad ∧ gt < due) := by
    rintro ⟨hpad, hearly⟩
    rcases hdue with hoff | hlate
    · exact absurd (hoff.symm.trans hpad) (by decide)
    · exact absurd hearly (Nat.not_lt.mpr hlate)
  rw [if_neg (by simp [hreading']), if_neg hwait]
  apply st_makeReleasable_of_hold
  unfold u
  split <;> simp [State.modReads, hhold]

theorem execRdDiscard_with_fence (region tile acc slot htag reason : Nat) (s : State) (hreaches : s.reaches region tile acc = true)
    (hreading : ((s.probe region tile).slot slot).readingOf htag = true) (hfence : (s.probe region tile).fence = .opened) :
    ∃ t, execRdDiscard region tile acc ⟨slot, htag⟩ true reason s = .next t ∧ (t.probe region tile).fence = .fenced ∧
      ((t.probe region tile).slot slot).st = .free ∧ .disc region tile slot ∈ t.pulses := by
  unfold execRdDiscard
  rw [atProbe_of_reaches hreaches]
  refine ⟨_, rfl, ?_⟩
  extract_lets p u
  have hreading' : (p.slot slot).readingOf htag = true := hreading
  have hopened : p.fence = .opened := hfence
  have hu : (u.probe region tile).fence = .fenced ∧ (u.probe region tile).relHold = true := by
    rw [show u = _ from if_pos ⟨rfl, .inl (by simp [Probe.eff, hopened])⟩, probe_modProbe_self]
    exact ⟨fence_setFence _ _ _ _ (by simp [hfence]), rfl⟩
  obtain ⟨hclosed, hheld⟩ := hu
  rw [if_neg (by simp [hreading']), kickRelease_of_hold (by simpa using hheld)]
  simp [hclosed, mem_pulses_discardSlot]

theorem execRdAbort_of_copies (region tile acc : Nat) (s : State) (hreaches : s.reaches region tile acc = true)
    (hcopies : (s.probe region tile).copies ≠ []) (ho : (s.probe region tile).readOrder = none) :
    ∃ t, execRdAbort region tile acc s = .next t ∧ (t.probe region tile).copies = [] ∧ (t.probe region tile).xown = false := by
  simp [execRdAbort, atProbe_of_reaches hreaches, hcopies, ho]

theorem execRdData_of_room (region g worker acc unit data : Nat) (o : ReadOrder) (s : State) (hreaches : s.reaches region g acc = true)
    (ho : (s.probe region g).readOrder = some o) (hflue : o.flue = true) (hroom : o.got + 1 < o.units) :
    ∃ t, execRdData region (some g) worker acc unit data s = .next t ∧ (t.probe region g).readOrder = some { o with got := o.got + 1 } ∧
      .xwr region g unit data ∈ t.pulses := by
  have hpresent : ∀ u : State, (u.probe region g).readOrder = some { o with got := o.got + 1 } → u.tryPresent region g = u :=
    fun u hu => tryPresent_of_units hu hroom
  simp [execRdData, atProbe_of_reaches hreaches, ho, hflue, Nat.lt_of_succ_lt hroom, hpresent]

theorem execPadDeadline_of_agreed (region tile slot : Nat) (s : State) (hst : ((s.probe region tile).slot slot).st = .reading)
    (hagreed : ((s.probe region tile).slot slot).agreed = true) (hhold : (s.probe region tile).relHold = true) :
    ∃ t, execPadDeadline region tile slot s = .next t ∧ ((t.probe region tile).slot slot).st = .releasable := by
  simp [execPadDeadline, hst, hagreed, st_makeReleasable_of_hold hhold]

theorem execReadingSettleTimeout_of_unsettled (region col n : Nat) (f : HubFolio) (s : State) (hfolio : ((s.hub region).walkOf col).folio = some n)
    (hf : (s.hub region).folioOf n = some f) (hst : f.st = .preparing) (hnumber : f.number = n)
    (hunsettled : ((s.hub region).queueOf col).any ReadRec.unsettled = true) :
    ∃ t, execReadingSettleTimeout region col s = .next t ∧ t.get Reg.RH_RD_EVENT_STEPVOID region = 1 ∧
      msgFlVote region n 2 (s.hub region).gt ∈ t.flue := by
  simp only [execReadingSettleTimeout, hfolio, Option.bind_some, hf, hst, hunsettled, and_self, if_true, Host.Outcome.next.injEq, exists_eq_left']
  have hproposed : ∀ (u : State) (acts : List Act), let v := if acts = [] then u else u.hubPropose region true acts
      v.get Reg.RH_RD_EVENT_STEPVOID region = u.get Reg.RH_RD_EVENT_STEPVOID region ∧ u.flue ⊆ v.flue := fun u acts => by
    dsimp only
    split
    · exact ⟨rfl, List.Subset.refl _⟩
    · exact ⟨rfl, flue_subset_hubPropose u region true acts⟩
  obtain ⟨hget, hflue⟩ := hproposed ((s.voteVoid region f.number 2).raise Reg.RH_RD_EVENT_STEPVOID region) (f.acts.filter (fun a => a.act == 0x02))
  refine ⟨hget.trans (by rw [get_raise_self]; rfl), hflue ?_⟩
  exact msgFlVote_mem_voteVoid hf hnumber (.inl hst) 2

theorem execIftQuotaTimeout_allows (region col : Nat) (s : State) : ∃ t, execIftQuotaTimeout region col s = .next t ∧
    ((t.hub region).walkOf col).shortAllowed = true ∧ ((t.hub region).walkOf col).dwellPassed = true := by
  have hwalk := allowed_proposeSteps (s.modWalk region col (fun w => { w with shortAllowed := true, dwellPassed := true })) region [col] col
  refine ⟨_, rfl, ?_⟩
  simpa [WalkState.allowed, State.modWalk, Hub.walkOf] using hwalk

/-- Settles O23. -/
theorem secondReadingCommands : Obligations.SecondReadingCommands :=
  ⟨execIcmdAccept_of_presented, execRdReq_of_reader, execRdCopy_of_reading, execRdOrder_of_reaches, execReaderSignatureClose_of_last,
    execRdReport_of_equal, execRdAgree_of_early, execRdAgree_of_due, execRdDiscard_with_fence, execRdAbort_of_copies, execRdData_of_room,
    execPadDeadline_of_agreed, execReadingSettleTimeout_of_unsettled, execIftQuotaTimeout_allows⟩

end Sys2Proof.Machine
end

section
/-! SUPPORT. Reactions keep what columns have reported (R213) while the Kiln starts what waits: the notices, the phases and the reset of a case change other parts of them. -/

namespace Sys2Proof.Machine

open Sys2Proof

/-- The columns whose report the reaction at a place of the table still awaits. -/
def State.reportsAt (s : State) (k : Nat) : Option (List (Nat × Nat)) := (tget k s.flt.reacts).map (·.reports)

theorem reportsAt_of_blank {F : Fields} {s t : State} (h : t.blank F = s.blank F) (hf : F.flt = false) (k : Nat) : t.reportsAt k = s.reportsAt k := by
  simp [State.reportsAt, flt_of_blank h hf]

theorem tget_of_reaction {s : State} {rid : Nat} {r : Reaction} (h : s.reaction rid = some r) :
    tget (rid % 1024) s.flt.reacts = some r ∧ r.rid = rid := by
  unfold State.reaction at h
  split at h
  next x hx =>
    split at h
    next hrid =>
      cases h
      exact ⟨hx, hrid⟩
    next => cases h
  next => cases h

section

variable (s : State)

/-- Replacing a reaction by one that awaits the same reports. -/
theorem reportsAt_setReact {s : State} {r : Reaction} (h : s.reportsAt (r.rid % 1024) = some r.reports) (k : Nat) :
    (s.setReact r).reportsAt k = s.reportsAt k := by
  by_cases hk : k = r.rid % 1024
  · subst hk
    rw [h]
    simp [State.reportsAt, State.setReact]
  · simp [State.reportsAt, State.setReact, tget_tput_ne hk]

theorem reportsAt_setReact_of_reaction {s : State} {rid : Nat} {r q : Reaction} (h : s.reaction rid = some r) (hrid : q.rid = r.rid)
    (hreports : q.reports = r.reports) (k : Nat) : (s.setReact q).reportsAt k = s.reportsAt k := by
  obtain ⟨hget, hr⟩ := tget_of_reaction h
  exact reportsAt_setReact (by simp [State.reportsAt, hrid, hr, hget, hreports]) k

theorem Reaction.after_reports (r : Reaction) : r.after.reports = r.reports := by
  unfold Reaction.after
  split
  · rfl
  · split <;> rfl

theorem Reaction.after_rid (r : Reaction) : r.after.rid = r.rid := by
  unfold Reaction.after
  split
  · rfl
  · split <;> rfl

@[simp] theorem reportsAt_raise (f : RegField) (i k : Nat) : (s.raise f i).reportsAt k = s.reportsAt k := rfl

@[simp] theorem reportsAt_set (f : RegField) (i v k : Nat) : (s.set f i v).reportsAt k = s.reportsAt k := rfl

@[simp] theorem reportsAt_send (m : Msg) (k : Nat) : (s.send m).reportsAt k = s.reportsAt k := rfl

@[simp] theorem reportsAt_emitAll (l : List Pulse) (k : Nat) : (s.emitAll l).reportsAt k = s.reportsAt k := rfl

theorem reportsAt_writeNotices (rid : Nat) (l : List (Nat × Nat × Nat × Nat)) (k : Nat) : (s.writeNotices rid l).reportsAt k = s.reportsAt k := by
  induction l generalizing s with
  | nil => rfl
  | cons x rest ih =>
    obtain ⟨ty, ten, a, b⟩ := x
    unfold State.writeNotices
    split
    next => rfl
    next r hr =>
      split
      · exact reportsAt_setReact_of_reaction hr (by rfl) (by rfl) k
      · exact (ih _).trans (reportsAt_setReact_of_reaction hr (by rfl) (by rfl) k)

theorem reportsAt_endHandling (rid k : Nat) : (s.endHandling rid).reportsAt k = s.reportsAt k := by
  unfold State.endHandling
  split
  next => rfl
  next r hr =>
    split
    · rfl
    · split
      · rfl
      · have hwritten := (reportsAt_writeNotices (s.setReact { r with ended := true }) rid (s.noticesOf r) k).trans
          (reportsAt_setReact_of_reaction hr (by rfl) (by rfl) k)
        dsimp only
        split
        next => exact hwritten
        next r' hr' =>
          split
          · exact (reportsAt_setReact_of_reaction hr' (Reaction.after_rid r') (Reaction.after_reports r') k).trans hwritten
          · exact hwritten

theorem reportsAt_unitNoticeOf (rid k : Nat) : (s.unitNoticeOf rid).reportsAt k = s.reportsAt k := by
  unfold State.unitNoticeOf
  split
  next r hr => exact (reportsAt_writeNotices _ rid _ k).trans (reportsAt_setReact_of_reaction hr (by rfl) (by rfl) k)
  next => rfl

theorem reportsAt_unitNotice (k : Nat) : s.unitNotice.reportsAt k = s.reportsAt k :=
  apply_foldl (State.reportsAt · k) _ (fun s rid => reportsAt_unitNoticeOf s rid k) _ s

theorem reportsAt_endWatchdog (rid tenant region k : Nat) : (s.endWatchdog rid tenant region).reportsAt k = s.reportsAt k :=
  (reportsAt_endHandling _ rid k).trans (reportsAt_writeNotices s rid _ k)

theorem reportsAt_discardWaiting (scope : List Nat) (k : Nat) : (s.discardWaiting scope).reportsAt k = s.reportsAt k := by
  unfold State.discardWaiting
  refine (apply_foldl (State.reportsAt · k) _ (by intro s w; exact reportsAt_endWatchdog s _ _ _ k) _ _).trans ?_
  exact reportsAt_of_blank (F := { rcv := true, flue := true }) (by apply releaseSets_blank <;> rfl) rfl k

theorem reportsAt_rung5 (k : Nat) : s.rung5.reportsAt k = s.reportsAt k :=
  reportsAt_of_blank (F := { rcv := true, ldg := true, pwr := true, pulses := true, regs := [.rcv, .ldg] }) (by apply rung5_blank <;> rfl) rfl k

theorem reportsAt_epochDiscard (t k : Nat) : (s.epochDiscard t).reportsAt k = s.reportsAt k :=
  reportsAt_of_blank (F := { vault := true, colo := true, sys := true, flue := true, freeCtr := true, regs := [.tenant] })
    (by apply epochDiscard_blank <;> rfl) rfl k

theorem reportsAt_takeRung (rung k : Nat) : (s.takeRung rung).reportsAt k = s.reportsAt k := by
  unfold State.takeRung
  split
  · exact (reportsAt_rung5 _ k).trans (reportsAt_of_blank (F := { rcv := true, regs := [.rcv] }) (logCase_blank _ _ _ rfl) rfl k)
  · extract_lets t scope base u v dropped w x
    have hv : v.reportsAt k = s.reportsAt k := by
      unfold v
      split <;> rfl
    have hw : w.reportsAt k = v.reportsAt k := apply_foldl (State.reportsAt · k) _ (fun s t => reportsAt_epochDiscard s t k) _ _
    have hx : x.reportsAt k = w.reportsAt k := by
      unfold x
      split
      · rfl
      · exact reportsAt_discardWaiting w scope k
    exact hx.trans (hw.trans hv)

theorem reportsAt_chipCase (fseq k : Nat) : (s.chipCase fseq).reportsAt k = s.reportsAt k := by
  unfold State.chipCase
  split
  · exact reportsAt_takeRung _ 4 k
  · split
    · rfl
    · split
      · exact (reportsAt_takeRung _ 4 k).trans (reportsAt_unitNotice _ k)
      · exact reportsAt_takeRung s 4 k

theorem reportsAt_runL2 (l : List Nat) (k : Nat) : (s.runL2 l).reportsAt k = s.reportsAt k := by
  induction l generalizing s with
  | nil => rfl
  | cons rid rest ih =>
    refine (ih _).trans ?_
    split
    · exact reportsAt_of_blank (F := { ldg := true, bru := true, pwr := true, pulses := true, regs := [.bru, .ldg] }) (by apply bruRefuse_blank <;> rfl) rfl k
    · split
      · exact reportsAt_chipCase s _ k
      · rfl

theorem reportsAt_contain (src kind region k : Nat) : (s.contain src kind region).reportsAt k = s.reportsAt k := by
  unfold State.contain
  split <;> rfl

theorem reportsAt_startL1 {s : State} {r : Reaction} (h : s.reportsAt (r.rid % 1024) = some r.reports) (k : Nat) :
    (s.startL1 r).reportsAt k = s.reportsAt k := by
  unfold State.startL1
  extract_lets q u
  have hu : u.reportsAt k = s.reportsAt k := (reportsAt_contain _ _ _ _ k).trans (reportsAt_setReact (r := q) h k)
  split
  · split
    · exact (reportsAt_endHandling u _ k).trans hu
    · exact hu
  · split
    · exact hu
    · exact (reportsAt_endHandling u _ k).trans hu

theorem reportsAt_startL2 {s : State} {r : Reaction} (h : s.reportsAt (r.rid % 1024) = some r.reports) (k : Nat) :
    (s.startL2 r).reportsAt k = s.reportsAt k := by
  unfold State.startL2
  extract_lets u
  have hu : u.reportsAt k = s.reportsAt k := reportsAt_setReact (r := { r with st := .handling, ntype := 7 }) h k
  split
  · exact hu
  · exact hu

/-- Where one reaction stands alone, starting what waits leaves what it awaits. -/
theorem reportsAt_kickQueue {s : State} {r : Reaction} (h : s.flt.reacts = [(r.rid % 1024, r)]) (k : Nat) : s.kickQueue.reportsAt k = s.reportsAt k := by
  have hr : s.reportsAt (r.rid % 1024) = some r.reports := by simp [State.reportsAt, h, tget]
  unfold State.kickQueue
  refine (reportsAt_runL2 _ _ k).trans ?_
  simp only [State.reactions, h, List.map_cons, List.map_nil]
  by_cases hst : r.st = .queued
  · simp only [hst, beq_self_eq_true, List.filter_cons_of_pos, List.filter_nil, List.foldl_cons, List.foldl_nil]
    split
    · rfl
    · split
      · exact reportsAt_startL1 hr k
      · exact reportsAt_startL2 hr k
  · simp [hst]

end

end Sys2Proof.Machine
end

section
/-! SUPPORT. The Catalogue's requests and messages (R146–R165): a request becomes a Folio, and what a hub and a probe make of the orders of a walk. -/

namespace Sys2Proof.Machine

open Sys2Proof

/-- Proposing again, or not at all, keeps the registers and what stands on the Flue. -/
theorem proposedAgain (s : State) (r : Nat) (acts : List Act) (f : RegField) (i : Nat) :
    (if acts = [] then s else s.hubPropose r true acts).get f i = s.get f i ∧ s.flue ⊆ (if acts = [] then s else s.hubPropose r true acts).flue := by
  split
  · exact ⟨rfl, List.Subset.refl _⟩
  · exact ⟨rfl, flue_subset_hubPropose s r true acts⟩

/-! ## A request becomes a Folio -/

/-- A proposal that finds a place is queued under the next number (R172, R173); an urgent one then voids what it displaces. -/
theorem kilnPropose_of_place {s : State} {p : Proposal} (hseal : s.isSealed = false) (hplace : s.hasPlace p.urgent = true) (hwait : s.fl.waiting = [])
    (horigin : p.origin ≠ 3) : s.kilnPropose p = (s.fl.next, (s.enqueue p none).2.urgentVoids s.fl.next) := by
  rw [State.kilnPropose, if_neg (by simp [hseal]), if_neg (fun h => horigin h.2), if_pos ⟨hplace, by simp [hwait]⟩]
  rfl

theorem folio_enqueue (s : State) (p : Proposal) : ∃ f, (s.enqueue p none).2.folio s.fl.next = some f ∧ f.st = .queued ∧ f.acts = p.acts ∧
    f.urgent = p.urgent :=
  ⟨_, tget_tput_self _ _ _, rfl, rfl, rfl⟩

/-- A proposal that is not urgent voids nothing (R175). -/
theorem urgentVoids_of_not_urgent {s : State} {n : Nat} {f : FolioRec} (hf : s.folio n = some f) (hurgent : f.urgent = false) : s.urgentVoids n = s := by
  simp [State.urgentVoids, hf, hurgent]

/-- What a request shows once its Folio has taken a number (R146). -/
theorem reqFolio_of_place {s : State} {urgent : Bool} (a : Act) (hseal : s.isSealed = false) (hplace : s.hasPlace urgent = true)
    (hwait : s.fl.waiting = []) : (s.reqFolio urgent a).get Reg.CAT_REQST_BUSY 0 = 1 ∧ (s.reqFolio urgent a).get Reg.CAT_REQST_RESULT 0 = 0 ∧
      (s.reqFolio urgent a).get Reg.CAT_REQFOLIO_FOLIO 0 = wrap 32 s.fl.next := by
  rw [State.reqFolio, kilnPropose_of_place hseal hplace hwait (by simp)]
  simp (disch := decide) only [State.setAll, get_set_apart, get_set_self]
  exact ⟨rfl, rfl, rfl⟩

theorem folio_reqFolio_of_place {s : State} (a : Act) (hseal : s.isSealed = false) (hplace : s.hasPlace false = true) (hwait : s.fl.waiting = []) :
    ((s.reqFolio false a).folio s.fl.next).map (fun f => (f.st, f.acts)) = some (.queued, [a]) := by
  obtain ⟨f, hf, hst, hacts, hurgent⟩ := folio_enqueue s { acts := [a], urgent := false, origin := 1 }
  rw [State.reqFolio, kilnPropose_of_place hseal hplace hwait (by simp), urgentVoids_of_not_urgent hf hurgent]
  obtain ⟨regs, hregs⟩ := exists_setAll_eq (s.enqueue { acts := [a], urgent := false, origin := 1 } none).2 0
    [(Reg.CAT_REQST_BUSY, 1), (Reg.CAT_REQST_RESULT, 0), (Reg.CAT_REQFOLIO_FOLIO, s.fl.next)]
  dsimp only
  rw [hregs, show ∀ u : State, ({ u with regs := regs } : State).folio s.fl.next = u.folio s.fl.next from fun _ => rfl, hf]
  simp [hst, hacts]

/-- An admitted write of CAT_REQ while no request is in progress is carried out on a state that differs in its registers alone (R146). -/
theorem catRequest_of_idle {s : State} {ten tag : Nat} (hadmits : s.admits ten tag none = true) (hidle : s.on Reg.CAT_REQST_BUSY 0 = false)
    (op x y count tenant : Nat) (act : State → State) :
    ∃ regs, s.catRequest op x y count tenant ten tag act = (act { s with regs := regs }).emit (.ghpRs (wrap 6 tag) 0 0) := by
  have hidle' : ∀ l : List (RegField × Nat), l.all (fun e => Reg.CAT_REQST_BUSY.apart e.1) = true → (s.setAll 0 l).on Reg.CAT_REQST_BUSY 0 = false :=
    fun l hl => by rw [← hidle, State.on, State.on, get_setAll_apart l hl]
  rw [State.catRequest, hostWrite_of_admits hadmits, State.catWrite]
  obtain ⟨regs, hregs⟩ := exists_setAll_eq s 0
    [(Reg.CAT_REQ_OP, op), (Reg.CAT_REQ_X, x), (Reg.CAT_REQ_Y, y), (Reg.CAT_REQ_COUNT, count), (Reg.CAT_REQ_TENANT, tenant)]
  exact ⟨regs, by rw [hidle' _ (by rfl), if_neg (by decide), ← hregs]⟩

theorem isSealed_of_admits {s : State} {ten tag : Nat} {owner : Option Nat} (h : s.admits ten tag owner = true) : s.isSealed = false :=
  (admits_iff.mp h).2.2.2

/-- The run of ASSIGN and of UNASSIGN (R146), by the code of its action. -/
theorem catRequest_assign {s : State} {x y count tenant ten tag r : Nat} (op code : Nat) (hadmits : s.admits ten tag none = true)
    (hidle : s.on Reg.CAT_REQST_BUSY 0 = false) (hregion : s.regionOfShelf (wrap 11 x) (wrap 11 y) = some r)
    (hactive : s.tenantActive (wrap 12 tenant) = true) (hrun : wrap 11 y % 32 + wrap 5 count < 32) (hplace : s.hasPlace false = true)
    (hwait : s.fl.waiting = []) : let t := s.catRequest op x y count tenant ten tag (fun s =>
        s.assignRequest code (wrap 11 x) (wrap 11 y) (wrap 5 count) (wrap 12 tenant))
      t.get Reg.CAT_REQST_BUSY 0 = 1 ∧ t.get Reg.CAT_REQFOLIO_FOLIO 0 = wrap 32 s.fl.next ∧
      (t.folio s.fl.next).map (fun f => (f.st, f.acts)) =
        some (.queued, [{ act := code, region := r, col := wrap 11 x % 32, tenant := wrap 12 tenant, row := wrap 11 y % 32, arg := wrap 5 count }]) ∧
      .ghpRs (wrap 6 tag) 0 0 ∈ t.pulses := by
  obtain ⟨regs, hregs⟩ := catRequest_of_idle hadmits hidle op x y count tenant (fun s =>
    s.assignRequest code (wrap 11 x) (wrap 11 y) (wrap 5 count) (wrap 12 tenant))
  have hseal : ({ s with regs := regs } : State).isSealed = false := isSealed_of_admits hadmits
  have hregion' : ({ s with regs := regs } : State).regionOfShelf (wrap 11 x) (wrap 11 y) = some r := hregion
  have hactive' : ({ s with regs := regs } : State).tenantActive (wrap 12 tenant) = true := hactive
  have hplace' : ({ s with regs := regs } : State).hasPlace false = true := hplace
  rw [hregs]
  simp only [State.assignRequest, hregion', hactive', hrun, and_self, if_true]
  obtain ⟨hbusy, -, hfolio⟩ := reqFolio_of_place
    { act := code, region := r, col := wrap 11 x % 32, tenant := wrap 12 tenant, row := wrap 11 y % 32, arg := wrap 5 count } hseal hplace' hwait
  exact ⟨hbusy, hfolio, folio_reqFolio_of_place _ hseal hplace' hwait, by simp⟩

theorem execCatReqAssign_of_run (x y count tenant ten tag r : Nat) (s : State) (hadmits : s.admits ten tag none = true)
    (hidle : s.on Reg.CAT_REQST_BUSY 0 = false) (hregion : s.regionOfShelf (wrap 11 x) (wrap 11 y) = some r)
    (hactive : s.tenantActive (wrap 12 tenant) = true) (hrun : wrap 11 y % 32 + wrap 5 count < 32) (hplace : s.hasPlace false = true)
    (hwait : s.fl.waiting = []) : ∃ t, execCatReqAssign x y count tenant ten tag s = .next t ∧ t.get Reg.CAT_REQST_BUSY 0 = 1 ∧
      t.get Reg.CAT_REQFOLIO_FOLIO 0 = wrap 32 s.fl.next ∧ (t.folio s.fl.next).map (fun f => (f.st, f.acts)) =
        some (.queued, [{ act := 0x04, region := r, col := wrap 11 x % 32, tenant := wrap 12 tenant, row := wrap 11 y % 32, arg := wrap 5 count }]) ∧
      .ghpRs (wrap 6 tag) 0 0 ∈ t.pulses :=
  ⟨_, rfl, catRequest_assign 1 0x04 hadmits hidle hregion hactive hrun hplace hwait⟩

theorem execCatReqUnassign_of_run (x y count tenant ten tag r : Nat) (s : State) (hadmits : s.admits ten tag none = true)
    (hidle : s.on Reg.CAT_REQST_BUSY 0 = false) (hregion : s.regionOfShelf (wrap 11 x) (wrap 11 y) = some r)
    (hactive : s.tenantActive (wrap 12 tenant) = true) (hrun : wrap 11 y % 32 + wrap 5 count < 32) (hplace : s.hasPlace false = true)
    (hwait : s.fl.waiting = []) : ∃ t, execCatReqUnassign x y count tenant ten tag s = .next t ∧ t.get Reg.CAT_REQST_BUSY 0 = 1 ∧
      t.get Reg.CAT_REQFOLIO_FOLIO 0 = wrap 32 s.fl.next ∧ (t.folio s.fl.next).map (fun f => (f.st, f.acts)) =
        some (.queued, [{ act := 0x05, region := r, col := wrap 11 x % 32, tenant := wrap 12 tenant, row := wrap 11 y % 32, arg := wrap 5 count }]) ∧
      .ghpRs (wrap 6 tag) 0 0 ∈ t.pulses :=
  ⟨_, rfl, catRequest_assign 2 0x05 hadmits hidle hregion hactive hrun hplace hwait⟩

theorem execCatReqRestore_of_allowed (x y ten tag : Nat) (s : State) (hadmits : s.admits ten tag none = true)
    (hidle : s.on Reg.CAT_REQST_BUSY 0 = false) (hx : wrap 11 x / 32 < s.cfg.w) (hy : wrap 11 y / 33 < s.cfg.h)
    (hallowed : s.restoreRefused (wrap 11 y / 33 * s.cfg.w + wrap 11 x / 32) (wrap 11 y % 33) (wrap 11 x % 32) = false)
    (hplace : s.hasPlace false = true) (hwait : s.fl.waiting = []) : ∃ t, execCatReqRestore x y ten tag s = .next t ∧
      t.get Reg.CAT_REQST_BUSY 0 = 1 ∧ t.get Reg.CAT_REQFOLIO_FOLIO 0 = wrap 32 s.fl.next ∧ (t.folio s.fl.next).map (fun f => (f.st, f.acts)) =
        some (.queued, [{ act := 0x03, region := wrap 11 y / 33 * s.cfg.w + wrap 11 x / 32, col := wrap 11 x % 32, row := wrap 11 y % 33 }]) ∧
      .ghpRs (wrap 6 tag) 0 0 ∈ t.pulses := by
  obtain ⟨regs, hregs⟩ := catRequest_of_idle hadmits hidle 3 x y 0 0 (fun s => s.restoreRequest x y)
  have hseal : ({ s with regs := regs } : State).isSealed = false := isSealed_of_admits hadmits
  have hallowed' : ({ s with regs := regs } : State).restoreRefused (wrap 11 y / 33 * s.cfg.w + wrap 11 x / 32) (wrap 11 y % 33) (wrap 11 x % 32) = false :=
    hallowed
  have hplace' : ({ s with regs := regs } : State).hasPlace false = true := hplace
  refine ⟨_, rfl, ?_⟩
  rw [hregs]
  simp only [State.restoreRequest, hx, hy, hallowed', and_self, if_true, Bool.false_eq_true, if_false]
  obtain ⟨hbusy, -, hfolio⟩ := reqFolio_of_place
    { act := 0x03, region := wrap 11 y / 33 * s.cfg.w + wrap 11 x / 32, col := wrap 11 x % 32, row := wrap 11 y % 33 } hseal hplace' hwait
  exact ⟨hbusy, hfolio, folio_reqFolio_of_place _ hseal hplace' hwait, by simp⟩

theorem execCatReqQuench_of_held (x y ten tag r row : Nat) (s : State) (hadmits : s.admits ten tag none = true)
    (hidle : s.on Reg.CAT_REQST_BUSY 0 = false) (hregion : s.regionOfShelf (wrap 11 x) (wrap 11 y) = some r)
    (hrow : (s.masterOf r).rowOf (wrap 11 x % 32) (wrap 11 y % 32) = some row) (hplace : s.hasPlace true = true) (hwait : s.fl.waiting = []) :
    ∃ t, execCatReqQuench x y ten tag s = .next t ∧ t.get Reg.CAT_REQST_BUSY 0 = 1 ∧ t.get Reg.CAT_REQST_RESULT 0 = 0 ∧
      t.get Reg.CAT_REQFOLIO_FOLIO 0 = wrap 32 s.fl.next ∧ .ghpRs (wrap 6 tag) 0 0 ∈ t.pulses := by
  obtain ⟨regs, hregs⟩ := catRequest_of_idle hadmits hidle 4 x y 0 0 (fun s => s.quenchRequest x y)
  have hseal : ({ s with regs := regs } : State).isSealed = false := isSealed_of_admits hadmits
  have hregion' : ({ s with regs := regs } : State).regionOfShelf (wrap 11 x) (wrap 11 y) = some r := hregion
  have hrow' : (({ s with regs := regs } : State).masterOf r).rowOf (wrap 11 x % 32) (wrap 11 y % 32) = some row := hrow
  have hplace' : ({ s with regs := regs } : State).hasPlace true = true := hplace
  refine ⟨_, rfl, ?_⟩
  rw [hregs]
  simp only [State.quenchRequest, hregion', hrow']
  obtain ⟨hbusy, hresult, hfolio⟩ := reqFolio_of_place { act := 0x02, region := r, col := wrap 11 x % 32, row := row, arg := 7 } hseal hplace' hwait
  exact ⟨hbusy, hresult, hfolio, by simp⟩

/-! ## What a trace record leaves of a hub -/

/-- A hub without its trace ring. -/
def Hub.untraced (h : Hub) : Hub := { h with tr := {} }

section

variable (s : State) (r x : Nat)

theorem untraced_modTr (f : HubTr → HubTr) : ((s.modTr r f).hub x).untraced = (s.hub x).untraced := by
  by_cases hx : x = r
  · subst hx
    simp [State.modTr, Hub.untraced]
  · rw [State.modTr, hub_modHub_ne hx]

theorem hub_recordOf (code src p0 p1 p2 : Nat) : (s.recordOf code src p0 p1 p2).hub x = s.hub x :=
  hub_congr (hubs_of_blank (F := { ldg := true, pulses := true, regs := [.ldg] }) (by apply recordOf_blank <;> rfl) rfl) x

theorem untraced_traceDrop (n : Nat) : ((s.traceDrop r n).hub x).untraced = (s.hub x).untraced := by
  unfold State.traceDrop
  split
  · rfl
  · extract_lets u t due
    have hu : (u.hub x).untraced = (s.hub x).untraced := untraced_modTr _ r x _
    split
    · rw [untraced_modTr, hub_recordOf, hu]
    · exact hu

theorem untraced_hubTrace (cls tenant payload : Nat) : ((s.hubTrace r cls tenant payload).hub x).untraced = (s.hub x).untraced := by
  unfold State.hubTrace State.traceStore
  split
  · dsimp only
    split
    · exact untraced_traceDrop s r x 1
    · split
      · simp only [State.event, hub_emitAll, hub_send, hub_raise, untraced_modTr]
      · exact untraced_modTr s r x _
  · rfl

theorem hub_walk_hubTrace (cls tenant payload : Nat) : ((s.hubTrace r cls tenant payload).hub x).walk = (s.hub x).walk :=
  (congrArg Hub.walk (untraced_hubTrace s r x cls tenant payload) :)

theorem get_hubTrace (cls tenant payload : Nat) {f : RegField} (h : ([.ldg, .hubTr] : List RegUnit).contains f.unit = false) (i : Nat) :
    (s.hubTrace r cls tenant payload).get f i = s.get f i :=
  get_of_blank (F := { hubs := true, ldg := true, flue := true, pulses := true, regs := [.ldg, .hubTr] }) (by apply hubTrace_blank <;> rfl) h i

end

/-! ## Walks and holds -/

theorem walkOf_modWalk_self (s : State) (r c : Nat) (f : WalkState → WalkState) : ((s.modWalk r c f).hub r).walkOf c = f ((s.hub r).walkOf c) := by
  simp [State.modWalk, Hub.walkOf]

/-- The dwell of a column, once passed. -/
def State.dwelt (s : State) (r c : Nat) : Bool := ((s.hub r).walkOf c).dwellPassed

/-- The state with a column's dwell passed. -/
def State.passDwell (s : State) (r c : Nat) : State := s.modWalk r c (fun w => { w with dwellPassed := true })

theorem dwelt_passDwell {s : State} {r a c : Nat} (h : c = a ∨ s.dwelt r c = true) : (s.passDwell r a).dwelt r c = true := by
  by_cases hc : c = a
  · rw [hc, State.dwelt, State.passDwell, walkOf_modWalk_self]
  · simpa [State.dwelt, State.passDwell, State.modWalk, Hub.walkOf, tgetD_tput_ne hc] using h.resolve_left hc

theorem dwelt_foldl_passDwell {r c : Nat} (l : List Nat) (s : State) (h : c ∈ l ∨ s.dwelt r c = true) :
    (l.foldl (fun s a => s.passDwell r a) s).dwelt r c = true := by
  induction l generalizing s with
  | nil => exact h.resolve_left List.not_mem_nil
  | cons a l ih =>
    refine ih _ ?_
    rcases h with h | h
    · rcases List.mem_cons.mp h with rfl | h
      · exact .inr (dwelt_passDwell (.inl rfl))
      · exact .inl h
    · exact .inr (dwelt_passDwell (.inr h))

theorem execGapStepDue_passes (region : Nat) (cols : List Nat) (s : State) : ∃ t, execGapStepDue region cols s = .next t ∧
    ∀ c ∈ cols, ((t.hub region).walkOf c).dwellPassed = true := by
  refine ⟨(cols.foldl (fun s a => s.passDwell region a) s).proposeSteps region cols, by simp only [execGapStepDue, State.passDwell], fun c hc => ?_⟩
  exact (congrArg Prod.snd (allowed_proposeSteps _ region cols c) :).trans (dwelt_foldl_passDwell cols s (.inl hc))

theorem execCatHold_of_reaches (region tile acc : Nat) (hold : Bool) (s : State) (hreaches : s.reaches region tile acc = true) :
    ∃ t, execCatHold region tile acc hold s = .next t ∧ (t.probe region tile).hold = hold := by
  have hidle : ∀ u : State, ((u.checkIdle region tile).probe region tile).hold = (u.probe region tile).hold := fun u => by
    unfold State.checkIdle
    dsimp only
    split <;> simp
  simp [execCatHold, atProbe_of_reaches hreaches, hidle]

theorem execCatIdle_removes (region tile : Nat) (s : State) (hopen : (s.hub region).fl.open_ = []) : ∃ t, execCatIdle region tile s = .next t ∧
    ((t.hub region).walkOf (tileCol tile)).awaitIdle = ((s.hub region).walkOf (tileCol tile)).awaitIdle.filter (· != tile) := by
  have hvotes : ∀ u : State, (u.hub region).fl.open_ = [] → u.tryVotes region = u := fun u hu => by simp [State.tryVotes, hu]
  refine ⟨_, rfl, ?_⟩
  rw [hvotes _ (by simpa [State.modWalk] using hopen), walkOf_modWalk_self]
  rfl

theorem execCatIdleTimeout_of_preparing (region col n : Nat) (f : HubFolio) (s : State) (hfolio : ((s.hub region).walkOf col).folio = some n)
    (hf : (s.hub region).folioOf n = some f) (hst : f.st = .preparing) (hnumber : f.number = n)
    (hawait : ((s.hub region).walkOf col).awaitIdle ≠ []) : ∃ t, execCatIdleTimeout region col s = .next t ∧
      t.get Reg.RH_CAT_EVENT_HOLDVOID region = 1 ∧ msgFlVote region n 1 (s.hub region).gt ∈ t.flue := by
  simp only [execCatIdleTimeout, hfolio, Option.bind_some, hf, hst, hawait, ne_eq, not_false_eq_true, and_self, if_true, Host.Outcome.next.injEq,
    exists_eq_left']
  obtain ⟨hget, hflue⟩ := proposedAgain ((s.voteVoid region f.number 1).raise Reg.RH_CAT_EVENT_HOLDVOID region) region
    (f.acts.filter (fun a => a.act == 0x02)) Reg.RH_CAT_EVENT_HOLDVOID region
  exact ⟨hget.trans (by rw [get_raise_self]; rfl), hflue (msgFlVote_mem_voteVoid hf hnumber (.inl hst) 1)⟩

theorem execCatRole_of_later (region tile acc role x y newAcc sendDir hops gt : Nat) (send recv fromLower : Bool) (s : State)
    (hreaches : s.reaches region tile acc = true) (hlater : s.accOf region tile ≠ newAcc) :
    ∃ t, execCatRole region tile acc role x y newAcc send sendDir recv fromLower hops gt s = .next t ∧
      (t.probe region tile).roleNext =
        some { role := Role.ofCode role, x := x, y := y, acc := newAcc, send := send, sendDir := sendDir, recv := recv, fromLower := fromLower, hops := hops, gt := gt } := by
  have hlater' : ∀ m : Msg, (s.recv m).accOf region tile ≠ newAcc := fun _ => hlater
  simp [execCatRole, atProbe_of_reaches hreaches, hlater']

theorem execCatCtx_install (region tile acc tenant key d i : Nat) (s : State) (hreaches : s.reaches region tile acc = true)
    (hnone : (s.probe region tile).ctxOf tenant = none) (hfree : (s.probe region tile).freeCtx = some i) :
    ∃ t, execCatCtx region tile acc true tenant key d s = .next t ∧
      tget i (t.probe region tile).ctx = some { valid := true, tenant := tenant, key := key, d := d } := by
  simp [execCatCtx, atProbe_of_reaches hreaches, hnone, hfree]

theorem execCatCtx_remove (region tile acc tenant key d i : Nat) (s : State) (hreaches : s.reaches region tile acc = true)
    (hctx : (s.probe region tile).ctxOf tenant = some i) : ∃ t, execCatCtx region tile acc false tenant key d s = .next t ∧
      tget i (t.probe region tile).ctx = none ∧ tget i (t.probe region tile).acc = none ∧ tget i (t.probe region tile).act = none := by
  simp [execCatCtx, atProbe_of_reaches hreaches, State.removeCtx, hctx]

/-! ## Moves, reports and bounces -/

/-- A suspect position is marked in the Catalogue's parts alone. -/
theorem walkOf_markSuspect (s : State) (r t c : Nat) : ((s.markSuspect r t).hub r).walkOf c = ((s.hub r).walkOf c) := by
  have hmaster : ∀ (u : State) (m : Table CatPart), ({ u with master := m } : State).hub r = u.hub r := fun _ _ => rfl
  rw [State.markSuspect, hmaster, hub_modHub_self]
  rfl

theorem walkOf_hubFault (s : State) (r src kind tenant addr c : Nat) : ((s.hubFault r src kind tenant addr).hub r).walkOf c = (s.hub r).walkOf c := by
  unfold State.hubFault State.hubQueue
  dsimp only
  split
  · split <;> simp [Hub.walkOf]
  · simp [Hub.walkOf]

theorem get_hubFault (s : State) (r src kind tenant addr : Nat) {f : RegField} (h : f.unit ≠ .hubFlt) (i : Nat) :
    (s.hubFault r src kind tenant addr).get f i = s.get f i :=
  get_of_blank (F := { hubs := true, regs := [.hubFlt] }) (by apply hubFault_blank <;> rfl) (by simpa [Fields.has] using h) i

/-- A move that did not arrive whole leaves its row partial, and the Catalogue's event stands (R150). -/
theorem partialMove_of_new {s : State} {r t l : Nat} (hl : ((s.hub r).cat.lrowOf (tileCol t) (tileRow t)).getD 0 = l)
    (hnew : ((s.hub r).walkOf (tileCol t)).partials.contains l = false) :
    ((s.partialMove r t).hub r).walkOf (tileCol t) = { (s.hub r).walkOf (tileCol t) with partials := ((s.hub r).walkOf (tileCol t)).partials ++ [l] } ∧
      (s.partialMove r t).get Reg.RH_CAT_EVENT_SUSPECT r = 1 := by
  subst hl
  rw [State.partialMove, if_neg (by rw [hnew]; decide)]
  constructor
  · rw [walkOf_hubFault, hub_raise, walkOf_markSuspect, walkOf_modWalk_self]
  · rw [get_hubFault _ _ _ _ _ _ (by decide), get_raise_self]
    rfl

theorem walkOf_traceCat (s : State) (r t : Nat) (isPartial : Bool) (c : Nat) : ((s.traceCat r t isPartial).hub r).walkOf c = (s.hub r).walkOf c := by
  rw [Hub.walkOf, State.traceCat, hub_walk_hubTrace]
  rfl

theorem execCatMoved_of_partial (region tile units : Nat) (busy ecc : Bool) (s : State)
    (hmoving : ((s.hub region).walkOf (tileCol tile)).moving.contains tile = true)
    (hothers : ((s.hub region).walkOf (tileCol tile)).moving.filter (· != tile) ≠ [])
    (hnew : ((s.hub region).walkOf (tileCol tile)).partials.contains (((s.hub region).cat.lrowOf (tileCol tile) (tileRow tile)).getD 0) = false) :
    ∃ t, execCatMoved region tile false busy ecc false units s = .next t ∧
      ((t.hub region).walkOf (tileCol tile)).moving = ((s.hub region).walkOf (tileCol tile)).moving.filter (· != tile) ∧
      ((t.hub region).walkOf (tileCol tile)).partials.contains (((s.hub region).cat.lrowOf (tileCol tile) (tileRow tile)).getD 0) = true ∧
      t.get Reg.RH_CAT_EVENT_SUSPECT region = 1 := by
  obtain ⟨hwalk, hevent⟩ := partialMove_of_new (s := s.recv (msgCatMoved region tile false busy ecc false units)) rfl hnew
  simp only [execCatMoved, hub_recv, hmoving, Bool.true_eq_false, Bool.false_eq_true, if_false, walkOf_modWalk_self, hwalk, hothers,
    Host.Outcome.next.injEq, exists_eq_left', walkOf_traceCat]
  refine ⟨trivial, by simp, ?_⟩
  rw [State.traceCat, get_hubTrace _ _ _ _ _ (by decide)]
  exact hevent

theorem execCatMoved_of_whole (region tile units : Nat) (s : State) (hmoving : ((s.hub region).walkOf (tileCol tile)).moving.contains tile = true)
    (hothers : ((s.hub region).walkOf (tileCol tile)).moving.filter (· != tile) ≠ []) :
    ∃ t, execCatMoved region tile true false false false units s = .next t ∧
      ((t.hub region).walkOf (tileCol tile)).moving = ((s.hub region).walkOf (tileCol tile)).moving.filter (· != tile) ∧
      ((t.hub region).walkOf (tileCol tile)).partials = ((s.hub region).walkOf (tileCol tile)).partials := by
  simp only [execCatMoved, hub_recv, hmoving, Bool.true_eq_false, Bool.false_eq_true, if_false, if_true, walkOf_modWalk_self, hothers,
    Host.Outcome.next.injEq, exists_eq_left', walkOf_traceCat, and_self]

/-- The report of a column is struck from what its quench awaits, and the quench is not complete while others are (R213). -/
theorem reacts_reactReport {s : State} {region col : Nat} {r : Reaction} (hreacts : s.flt.reacts = [(r.rid % 1024, r)])
    (hheld : r.heldBy r.folio = true) (hothers : r.reports.filter (· != (region, col)) ≠ []) :
    ∃ q, (s.reactReport region col false).flt.reacts = [(r.rid % 1024, q)] ∧ q.rid = r.rid ∧ q.reports = r.reports.filter (· != (region, col)) := by
  have hcomplete : ∀ (u : State) (q : Reaction), u.flt.reacts = [(r.rid % 1024, q)] → q.reports ≠ [] → u.endComplete = u := fun u q hu hq => by
    simp [State.endComplete, State.reactions, hu, Reaction.complete, hq]
  by_cases hcol : (region, col) ∈ r.reports
  · refine ⟨{ r with reports := r.reports.filter (· != (region, col)) }, ?_, rfl, rfl⟩
    rw [State.reactReport, hcomplete _ { r with reports := r.reports.filter (· != (region, col)) }] <;>
      simp [State.mapReacts, hreacts, tmap, hheld, hcol, hothers]
  · have hself : r.reports.filter (· != (region, col)) = r.reports :=
      List.filter_eq_self.mpr (fun a ha => bne_iff_ne.mpr (fun h => hcol (h ▸ ha)))
    rw [hself] at hothers ⊢
    refine ⟨r, ?_, rfl, rfl⟩
    rw [State.reactReport, hcomplete _ r] <;> simp [State.mapReacts, hreacts, tmap, hheld, hcol, hothers]

theorem execCatReport_of_awaited (region col state q1 q2 x y : Nat) (r : Reaction) (s : State) (hreacts : s.flt.reacts = [(r.rid % 1024, r)])
    (hheld : r.heldBy r.folio = true) (hothers : r.reports.filter (· != (region, col)) ≠ []) :
    ∃ t, execCatReport region col state q1 q2 false x y s = .next t ∧
      (tget (r.rid % 1024) t.flt.reacts).map (·.reports) = some (r.reports.filter (· != (region, col))) := by
  obtain ⟨q, hq, hrid, hreports⟩ := reacts_reactReport (s := s.recv (msgCatReport region col state q1 q2 false x y)) hreacts hheld hothers
  refine ⟨_, rfl, (reportsAt_kickQueue (r := q) (by rw [hq, hrid]) (r.rid % 1024)).trans ?_⟩
  simp [State.reportsAt, hq, tget, hreports]

theorem execCatBounce_of_held (region tile probeAcc code l row : Nat) (header : Flit) (payload : List Flit) (s : State)
    (hop : shelfBound.contains (Msg.ofFlits header payload).op = true)
    (hshelf : (s.hub region).shelfAt tile (bits (Msg.ofFlits header payload).arg 0 20) = some l)
    (hrow : (s.hub region).cat.rowOf (tileCol tile) l = some row) (hholders : (s.hub region).cat.holdersOf (tileCol tile) l ≠ [])
    (hfirst : (s.hub region).bounces = []) : ∃ t, execCatBounce region tile probeAcc code header payload s = .next t ∧
      t.get Reg.RH_CAT_EVENT_STALE region = 1 ∧ (t.flue.getLast?.map (·.dest)) = some (probeSrc region (tileAt row (tileCol tile))) := by
  simp only [execCatBounce, hub_recv, hop, hshelf, hrow, hholders, false_and, if_true, if_false, Host.Outcome.next.injEq, exists_eq_left',
    State.resend, hfirst, List.find?_nil, Option.map_none, Option.getD_none, Nat.reduceLeDiff]
  simp
  rfl

/-- Settles O25. -/
theorem catalogueCommands : Obligations.CatalogueCommands :=
  ⟨execCatReqAssign_of_run, execCatReqUnassign_of_run, execCatReqRestore_of_allowed, execCatReqQuench_of_held, execGapStepDue_passes,
    execCatHold_of_reaches, execCatIdle_removes, execCatIdleTimeout_of_preparing, execCatRole_of_later, execCatCtx_install, execCatCtx_remove,
    execCatMoved_of_partial, execCatMoved_of_whole, execCatReport_of_awaited, execCatBounce_of_held⟩

end Sys2Proof.Machine
end

section
/-! SUPPORT. Folios at their participants and at the Kiln (R179–R192): seal, void, apply, done, resend and catch-up. -/

namespace Sys2Proof.Machine

open Sys2Proof

/-- A view of a hub that a change keeps at every hub is kept by the change of one. -/
theorem view_modHub {β : Type} (view : Hub → β) {g : Hub → Hub} (h : ∀ y, view (g y) = view y) (s : State) (r x : Nat) :
    view ((s.modHub r g).hub x) = view (s.hub x) := by
  by_cases hx : x = r
  · rw [hx, hub_modHub_self, h]
  · rw [hub_modHub_ne hx]

/-! ## Hubs as participants (R180) -/

@[simp] theorem hub_recvFolio (s : State) (who : Nat) (m : Nat → Msg) (r : Nat) : (s.recvFolio who m).hub r = s.hub r := by
  unfold State.recvFolio
  split <;> rfl

@[simp] theorem fl_recvFolio (s : State) (who : Nat) (m : Nat → Msg) : (s.recvFolio who m).fl = s.fl := by
  unfold State.recvFolio
  split <;> rfl

@[simp] theorem gt_recvFolio (s : State) (who : Nat) (m : Nat → Msg) : (s.recvFolio who m).gt = s.gt := by
  unfold State.recvFolio
  split <;> rfl

theorem Hub.number_of_folioOf {h : Hub} {n : Nat} {f : HubFolio} (hf : h.folioOf n = some f) : f.number = n := by
  simpa using List.find?_some hf

/-- A Folio that is replaced under its number reads as replaced. -/
theorem folioOf_setHubFolio {s : State} {r n : Nat} {f g : HubFolio} (hf : (s.hub r).folioOf n = some f) (hg : g.number = n) :
    ((s.setHubFolio r g).hub r).folioOf n = some g := by
  have hreplaced : ∀ x : HubFolio, (if x.number = g.number then g else x).number = x.number := fun x => by split <;> simp [*]
  have hfun : (fun x : HubFolio => (x.number == n)) ∘ (fun x => if x.number = g.number then g else x) = fun x => x.number == n :=
    funext fun x => by simp only [Function.comp, hreplaced]
  rw [Hub.folioOf] at hf
  rw [State.setHubFolio, hub_modHub_self, Hub.folioOf, List.find?_map, hfun, hf, Option.map_some, if_pos ((Hub.number_of_folioOf hf).trans hg.symm)]

theorem fl_hub_traceFolio (s : State) (r number state code : Nat) (late : Bool) (x : Nat) :
    ((s.traceFolio r number state code late).hub x).fl = (s.hub x).fl :=
  (congrArg Hub.fl (untraced_hubTrace s r x _ _ _) :)

theorem execFlSeal_at_hub (who number instant : Nat) (f : HubFolio) (s : State) (hwho : who < 2048)
    (hfolio : (s.hub who).folioOf number = some f) (hst : f.st = .yes) : ∃ t, execFlSeal who number false instant s = .next t ∧
      ((t.hub who).folioOf number).map (fun g => (g.st, g.sealt)) =
        some (.sealed, if instant < (s.hub who).gt + 48 then (s.hub who).gt + 48 else instant) := by
  simp only [execFlSeal, hub_recvFolio, hwho, if_true, hfolio, hst, true_or]
  refine ⟨_, rfl, ?_⟩
  unfold State.hubSeal
  extract_lets gt late g u
  have hu : (u.hub who).folioOf number = some g := by
    rw [Hub.folioOf, fl_hub_traceFolio]
    exact folioOf_setHubFolio (f := f) (by rwa [hub_recvFolio]) (Hub.number_of_folioOf (f := f) hfolio)
  rw [hub_sendAll, hu]
  simp [g, gt, late]

/-- A hub's part in Folios, and its time. -/
def Hub.folios (h : Hub) : HubFl × Nat := (h.fl, h.gt)

section

variable (s : State) (r x : Nat)

theorem folios_modHub {g : Hub → Hub} (h : ∀ y, (g y).folios = y.folios) : ((s.modHub r g).hub x).folios = (s.hub x).folios :=
  view_modHub Hub.folios h s r x

theorem folios_modWalk (c : Nat) (f : WalkState → WalkState) : ((s.modWalk r c f).hub x).folios = (s.hub x).folios :=
  folios_modHub s r x (by intro; rfl)

theorem folios_dispatch (c : Nat) : ((s.dispatch r c).hub x).folios = (s.hub x).folios := by
  unfold State.dispatch
  dsimp only
  split
  · rfl
  · split
    · have hqueue : ∀ (l : List ReadRec) (m : List Msg), ((((s.setQueue r c l).modHub r (fun h => { h with rdOrders := h.rdOrders + 1 })).sendAll m).hub x).folios =
          (s.hub x).folios := fun l m => by
        rw [hub_sendAll, folios_modHub _ r x (by intro; rfl)]
        exact folios_modHub s r x (by intro; rfl)
      split
      · exact hqueue _ _
      · exact (folios_modHub _ r x (by intro; rfl)).trans (hqueue _ _)
    · rfl

theorem folios_dispatchAll : ((s.dispatchAll r).hub x).folios = (s.hub x).folios :=
  apply_foldl (fun s : State => (s.hub x).folios) _ (fun s c => folios_dispatch s r x c) _ s

theorem folios_traceFolio (number state code : Nat) (late : Bool) : ((s.traceFolio r number state code late).hub x).folios = (s.hub x).folios :=
  (congrArg Hub.folios (untraced_hubTrace s r x _ _ _) :)

theorem folios_foldl_misses (l : List Nat) : ∀ s : State, ((l.foldl (fun s t => s.modHub r (fun h =>
    { h with misses := tput t (tgetD 0 t h.misses + 1) h.misses })) s).hub x).folios = (s.hub x).folios :=
  apply_foldl (fun s : State => (s.hub x).folios) _ (by intros; exact folios_modHub _ r x (by intro; rfl)) l

theorem folios_stepVoided (c : Nat) : ((s.stepVoided r c).hub x).folios = (s.hub x).folios := by
  unfold State.stepVoided
  dsimp only
  split
  · rw [folios_foldl_misses, hub_raise]
    exact folios_modWalk s r x c _
  · exact folios_modWalk s r x c _

theorem folios_startVisitMsg (c : Nat) : ((s.startVisitMsg r c).hub x).folios = (s.hub x).folios := by
  unfold State.startVisitMsg
  split <;> rfl

theorem folios_releaseColumn (a : Act) : ((s.releaseColumn r a).hub x).folios = (s.hub x).folios := by
  unfold State.releaseColumn
  extract_lets h held u v w y
  have hv : (v.hub x).folios = (s.hub x).folios := by
    simp only [v, hub_sendAll]
    exact folios_modWalk s r x a.col _
  have hw : (w.hub x).folios = (s.hub x).folios := by
    simp only [w]
    split
    · exact hv
    · exact (folios_startVisitMsg v r x a.col).trans hv
  rw [folios_dispatch]
  simp only [y]
  split
  · exact (folios_stepVoided w r x a.col).trans hw
  · exact hw

end

/-- A void at a hub leaves the Folio neither open nor waiting, and is reported as done (R180). -/
theorem execFlVoid_at_hub (who number reason : Nat) (f : HubFolio) (s : State) (hwho : who < 2048)
    (hfolio : (s.hub who).folioOf number = some f) (hst : f.st = .yes) : ∃ t, execFlVoid who number reason s = .next t ∧
      (t.hub who).folioOf number = none ∧ msgFlDone who number false true false (s.hub who).gt ∈ t.flue := by
  unfold execFlVoid
  extract_lets s' u y
  have hs' : (s'.hub who).folioOf number = some f := by rwa [hub_recvFolio]
  simp -zeta only [hwho, if_true, hs', hst, reduceCtorEq, if_false]
  extract_lets held v w
  refine ⟨_, rfl, ?_⟩
  have hw : (w.hub who).folios = (u.hub who).folios :=
    (folios_traceFolio v who who _ _ _ _).trans
      (apply_foldl (fun s : State => (s.hub who).folios) _ (fun s a => folios_releaseColumn s who who a) held u)
  have hgt : (w.hub who).gt = (s.hub who).gt := (congrArg Prod.snd hw).trans (by simp [u, s', Hub.folios])
  refine ⟨?_, flue_subset_dispatchAll _ _ (by simp [hgt])⟩
  have hopen : (((w.send (msgFlDone who number false true false (w.hub who).gt)).dispatchAll who).hub who).folios = (u.hub who).folios :=
    (folios_dispatchAll _ who who).trans hw
  replace hopen := congrArg Prod.fst hopen
  dsimp only [Hub.folios] at hopen
  simp [Hub.folioOf, hopen, u, s']

/-! ## Applying (R182) -/

theorem flue_subset_traceStore (s : State) (r w : Nat) : s.flue ⊆ (s.traceStore r w).flue := by
  unfold State.traceStore
  dsimp only
  split
  · rw [flue_traceDrop]
    exact List.Subset.refl _
  · split <;> simp [State.modTr, State.event]

theorem flue_subset_traceMark (s : State) (r : Nat) : s.flue ⊆ (s.traceMark r).flue := by
  unfold State.traceMark
  dsimp only
  split
  · exact flue_subset_traceStore (s.modTr r _) r _
  · exact flue_subset_traceStore s r _

theorem flue_loadEntry (s : State) (e : LoadEntry) (only : Win → Nat → Bool) : (s.loadEntry e only).flue = s.flue := by
  unfold State.loadEntry
  dsimp only
  split
  · rfl
  · exact flue_of_blank (F := { regs := RegUnit.list }) (by apply foldl_blank; intros; exact loadRow_blank _ _ _ _ _ (has_of_all_units rfl)) rfl

/-- A hub that takes its part of an amendment sends nothing but trace (R432). -/
theorem flue_subset_amendHub (s : State) (r : Nat) (a : Act) : s.flue ⊆ (s.amendHub r a).flue := by
  unfold State.amendHub
  split
  · exact List.Subset.refl _
  · extract_lets sect c l m
    have hl : l.flue = s.flue := apply_foldl State.flue _ (fun s e => flue_loadEntry s e _) _ s
    have hm : m.flue = s.flue := by
      refine Eq.trans ?_ hl
      exact flue_of_blank (F := { hubs := true, regs := [.hubIft, .hubEn] }) (s := { l with cfg := mergeSection s.cfg c sect }) (by apply hubTakes_blank <;> rfl) rfl
    unfold State.hubTraceOn
    split
    · exact fun _ h => flue_subset_traceMark _ _ (by simpa [hm] using h)
    · simp [hm]

theorem execFolioApply_at_hub (who number : Nat) (f : HubFolio) (s : State) (hwho : who < 2048) (hfolio : (s.hub who).folioOf number = some f)
    (hst : f.st = .sealed) : ∃ t, execFolioApply who number s = .next t ∧ msgFlDone who number f.late false false f.sealt ∈ t.flue := by
  simp only [execFolioApply, hwho, if_true, hfolio, hst]
  refine ⟨_, rfl, flue_subset_foldl _ (fun u a => flue_subset_amendHub u who a) _ _ ?_⟩
  unfold State.applyHub
  extract_lets
  refine flue_subset_tryVotes _ _ (flue_subset_dispatchAll _ _ (flue_subset_traceFolio _ _ _ _ _ _ ?_))
  simp [Hub.number_of_folioOf hfolio]

/-! ## Kiln units as participants (R180, R182) -/

theorem unitOf_setUnitFolio {g : HubFolio} {n : Nat} (h : g.number = n) (s : State) (who : Nat) :
    (s.setUnitFolio who n (some g)).fl.unitOf who n = some g := by
  have hnone : (s.fl.units.filter (fun e => !(e.1 == who && e.2.number == n))).find? (fun e => e.1 == who && e.2.number == n) = none :=
    List.find?_eq_none.mpr (fun e he => by simpa only [Bool.not_eq_true, Bool.not_eq_eq_eq_not, Bool.not_true] using (List.mem_filter.mp he).2)
  rw [State.setUnitFolio, KFolio.unitOf, List.find?_append, hnone]
  simp [h]

theorem execFlSeal_at_unit (who number instant : Nat) (f : HubFolio) (s : State) (hwho : 2048 ≤ who) (hfolio : s.fl.unitOf who number = some f)
    (hnumber : f.number = number) (hst : f.st = .yes) : ∃ t, execFlSeal who number false instant s = .next t ∧
      (t.fl.unitOf who number).map (fun g => (g.st, g.sealt)) = some (.sealed, if instant < s.gt + 48 then s.gt + 48 else instant) := by
  simp only [execFlSeal, fl_recvFolio, gt_recvFolio, if_neg (by omega : ¬ who < 2048), hfolio, hst, true_or, if_true]
  exact ⟨_, rfl, by simp [unitOf_setUnitFolio, hnumber]⟩

theorem execFolioApply_at_unit (who number : Nat) (f : HubFolio) (s : State) (hwho : 2048 ≤ who) (hfolio : s.fl.unitOf who number = some f)
    (hnumber : f.number = number) (hst : f.st = .sealed) : ∃ t, execFolioApply who number s = .next t ∧
      msgFlDone who number f.late false false f.sealt ∈ t.flue := by
  simp [execFolioApply, if_neg (by omega : ¬ who < 2048), hfolio, hst, State.applyUnit, hnumber]

/-! ## The Kiln (R179) -/

theorem fl_reactApplied (s : State) (number : Nat) : (s.reactApplied number).fl = s.fl :=
  fl_of_blank (F := { flt := true, regs := [.flt] }) (by apply reactApplied_blank <;> rfl) rfl

theorem admitWaiting_of_none {s : State} (h : s.fl.waiting = []) : s.admitWaiting = s := by
  simp [State.admitWaiting, h]

/-- A Folio of the Kiln's own whose last participant has reported is applied (R179). -/
theorem folio_tryApplied {s : State} {f : FolioRec} (hf : s.folio f.number = some f) (hst : f.st = .decided)
    (hall : f.parts.all (fun p => f.done.contains p) = true) (horigin : f.origin = 0) (hwaiting : s.fl.waiting = []) :
    (s.tryApplied f.number).folio f.number = some { f with st := .applied, gtdone := s.gt } := by
  have horig : ∀ u : State, u.appliedOrigin f = u.reactApplied f.number := fun u => by simp only [State.appliedOrigin, horigin]
  have hfl := fl_reactApplied (s.setFolio { f with st := .applied, gtdone := s.gt }) f.number
  rw [State.tryApplied, hf]
  dsimp only
  rw [if_pos ⟨hst, hall⟩, horig, admitWaiting_of_none (by rw [hfl]; exact hwaiting), State.folio, hfl]
  exact folio_setFolio_self s { f with st := .applied, gtdone := s.gt }

theorem execFlDone_last (who number gt : Nat) (f : FolioRec) (s : State) (hfolio : s.folio number = some f) (hnumber : f.number = number)
    (hst : f.st = .decided) (hparts : f.parts = [who]) (hdone : f.done = []) (horigin : f.origin = 0) (hwaiting : s.fl.waiting = []) :
    ∃ t, execFlDone who number false false false gt s = .next t ∧ (t.folio number).map (·.st) = some .applied := by
  subst hnumber
  unfold execFlDone
  extract_lets u drop
  have hu : u.folio f.number = some f := hfolio
  rw [hu]
  dsimp -zeta only
  extract_lets g v0 v1 v w
  have hlog : v.folio f.number = some g := folio_setFolio_self u g
  refine ⟨_, rfl, ?_⟩
  have happlied := folio_tryApplied (s := v) (f := g) hlog hst (by simp [g, hparts, hdone]) horigin hwaiting
  exact congrArg (Option.map (·.st)) happlied

theorem execFolioDoneTimeout_resends (number : Nat) (f : FolioRec) (s : State) (hfolio : s.folio number = some f) (hnumber : f.number = number)
    (hst : f.st = .decided) (hresends : f.resends < 3) : ∃ t, execFolioDoneTimeout number s = .next t ∧
      (t.folio number).map (·.resends) = some (f.resends + 1) := by
  subst hnumber
  rw [execFolioDoneTimeout, hfolio]
  dsimp only
  rw [if_neg (by simp [hst]), if_pos hresends]
  have hself := folio_setFolio_self s { f with resends := f.resends + 1 }
  exact ⟨_, rfl, congrArg (Option.map (·.resends)) hself⟩

/-! ## Catch-up (R186) -/

theorem execFlSync_of_current (region last : Nat) (s : State) (hbehind : tgetD [] region s.fl.behind = [])
    (hoverflowed : s.fl.overflowed.contains region = false) : ∃ t, execFlSync region last s = .next t ∧ t.lost.contains region = false ∧
      msgFlSyncack region 0 false ∈ t.flue := by
  unfold execFlSync
  extract_lets u l v w x y failed k z fs z'
  have hl : l = [] := hbehind
  have hv : v.fl = s.fl := by
    simp only [v]
    split
    · exact fl_of_blank (F := { tally := true, colo := true, flue := true, freeCtr := true, regs := [.tly, .tenant] }) (by apply discardSweep_blank <;> rfl) rfl
    · rfl
  have hw : w.fl = s.fl := by
    refine Eq.trans ?_ hv
    simp only [w]
    split
    · exact fl_of_blank (F := { tally := true, regs := [.tly] }) (by apply setGap_blank <;> rfl) rfl
    · rfl
  have hx : x.blank { flt := true, regs := [.flt] } = ({ w with lost := w.lost.filter (· != region) } : State).blank { flt := true, regs := [.flt] } := by
    apply rollBackLost_blank <;> rfl
  have hfl : x.fl = s.fl := (fl_of_blank hx rfl).trans hw
  have hlost : x.lost = w.lost.filter (· != region) := lost_of_blank hx rfl
  have hy : y = [] := by simp [y, hl, inNumberOrder]
  have hfailed : failed = false := by
    simp only [failed, hfl, hoverflowed, hy]
    rfl
  rw [if_neg (by simp [hfailed])]
  refine ⟨_, rfl, ?_, ?_⟩
  · simp [z', hlost]
  · simp [z', hy]

theorem execFlTdrop_of_sealed (region tile acc tenant instant : Nat) (s : State) (hreaches : s.reaches region tile acc = true)
    (hsealed : (s.hub region).fl.open_.any (fun f => f.st == .sealed && f.sealt == instant) = true) :
    ∃ t, execFlTdrop region tile acc tenant instant s = .next t ∧
      (t.probe region tile).resets = (s.probe region tile).resets ++ [(tenant, instant)] := by
  rw [execFlTdrop, atProbe_of_reaches hreaches, hub_recv, if_pos hsealed]
  exact ⟨_, rfl, by simp⟩

/-- Settles O27. -/
theorem folioSealsAndApplies : Obligations.FolioSealsAndApplies :=
  ⟨execFlSeal_at_hub, execFlSeal_at_unit, execFlVoid_at_hub, execFolioApply_at_hub, execFolioApply_at_unit, execFlDone_last,
    execFolioDoneTimeout_resends, execFlSync_of_current, fun _ _ _ _ => ⟨_, rfl, rfl⟩, execFlTdrop_of_sealed⟩

end Sys2Proof.Machine
end

section
/-! SUPPORT. Fault collection (R200–R217): a hub's queue and buckets, registration at the Kiln, phases, fences, acknowledges and the notice ring. -/

namespace Sys2Proof.Machine

open Sys2Proof

/-! ## A hub's queue, capture and buckets (R200–R206) -/

/-- A hub's part in fault collection but for what waits for a place at the Kiln. -/
def Hub.faults (h : Hub) : HubFlt := { h.flt with out := [] }

section

variable (s : State) (r x : Nat)

theorem faults_modHub {g : Hub → Hub} (h : ∀ y, (g y).faults = y.faults) : ((s.modHub r g).hub x).faults = (s.hub x).faults :=
  view_modHub Hub.faults h s r x

theorem faults_setHub {h : Hub} (hh : h.faults = (s.hub r).faults) : ((s.setHub r h).hub x).faults = (s.hub x).faults := by
  by_cases hx : x = r
  · rw [hx, hub_setHub_self, hh]
  · rw [hub_setHub_ne hx]

theorem faults_toKilnQueue (m : FaultMsg) : ((s.toKilnQueue r m).hub x).faults = (s.hub x).faults := by
  unfold State.toKilnQueue
  dsimp only
  split
  · exact faults_modHub s r x (by intro; rfl)
  · rfl

theorem faults_forwardLimited (m : FaultMsg) : ((s.forwardLimited r m).hub x).faults = (s.hub x).faults := by
  unfold State.forwardLimited
  extract_lets h
  split
  next lg ok ovf hask =>
    dsimp only
    have hlg : ((s.setHub r { h with lg := lg }).hub x).faults = (s.hub x).faults := faults_setHub s r x (by rfl)
    split
    · refine (faults_toKilnQueue _ r x m).trans (Eq.trans ?_ hlg)
      split <;> rfl
    · rw [hub_bump, hub_raise]
      split <;> exact hlg

theorem faults_hubVoteVoid (n code : Nat) : ((s.hubVoteVoid r n code).hub x).faults = (s.hub x).faults := by
  unfold State.hubVoteVoid
  extract_lets h open_
  refine (congrArg Hub.faults (untraced_hubTrace _ r x _ _ _) :).trans ?_
  rw [hub_raise, hub_send]
  exact faults_setHub s r x (by rfl)

theorem faults_requestQuench (t cause : Nat) : ((s.requestQuench r t cause).hub x).faults = (s.hub x).faults := by
  unfold State.requestQuench
  split
  · rfl
  · have hvoid : ((s.voidSteps r (tileCol t)).hub x).faults = (s.hub x).faults :=
      apply_foldl (fun s : State => (s.hub x).faults) _ (fun s n => faults_hubVoteVoid s r x n 3) _ s
    refine Eq.trans ?_ hvoid
    rw [State.hubPropose, hub_sendAll]
    exact faults_setHub _ r x (by rfl)

theorem faults_hubRaiseL1 (m : FaultMsg) (key cause level : Nat) : ((s.hubRaiseL1 r m key cause level).hub x).faults = (s.hub x).faults := by
  unfold State.hubRaiseL1
  extract_lets l1
  split
  · split <;> rfl
  · have hput : (((s.raise Reg.RH_FLT_EVENT_L1RAISED r).toKilnQueue r l1).hub x).faults = (s.hub x).faults := faults_toKilnQueue _ r x l1
    split
    · exact (faults_requestQuench _ r x _ _).trans hput
    · exact hput

/-- A count of a fault moves the buckets and their clock (R203). -/
theorem faults_hubCount (key : Nat) (m : FaultMsg) : ((s.hubCount r key m).1.hub r).faults =
    { (s.hub r).faults with buckets := ((s.hubCount r key m).1.hub r).flt.buckets, bucketClock := (s.hub r).flt.bucketClock + 1 } := by
  unfold State.hubCount
  dsimp only
  split <;> simp [Hub.faults]

end

/-- A hub's queue of faults, and its mark of a first capture. -/
def State.captured (s : State) (r : Nat) : List FaultMsg × Nat := ((s.hub r).flt.queue, s.get Reg.RH_FLT_FIRSTVAL_VALID r)

section

variable (s : State) (r : Nat) (m : FaultMsg)

theorem captured_of_faults {s t : State} {r : Nat} (hfaults : (t.hub r).faults = (s.hub r).faults)
    (hget : t.get Reg.RH_FLT_FIRSTVAL_VALID r = s.get Reg.RH_FLT_FIRSTVAL_VALID r) : t.captured r = s.captured r :=
  Prod.ext (congrArg HubFlt.queue hfaults :) hget

theorem captured_toKilnQueue : (s.toKilnQueue r m).captured r = s.captured r :=
  captured_of_faults (faults_toKilnQueue s r r m) (by unfold State.toKilnQueue; dsimp only; split <;> rfl)

theorem captured_raise {f : RegField} (h : Reg.RH_FLT_FIRSTVAL_VALID.apart f = true) : (s.raise f r).captured r = s.captured r :=
  captured_of_faults rfl (get_raise_apart h s r)

theorem captured_bump {f : RegField} (h : Reg.RH_FLT_FIRSTVAL_VALID.apart f = true) (n : Nat) : (s.bump f r n).captured r = s.captured r :=
  captured_of_faults rfl (get_bump_apart h s r n)

theorem captured_forwardLimited : (s.forwardLimited r m).captured r = s.captured r := by
  refine captured_of_faults (faults_forwardLimited s r r m) ?_
  exact get_of_blank (F := { hubs := true, flt := true, regs := [.hubLg] }) (by apply forwardLimited_blank <;> rfl) rfl r

theorem captured_hubCount (key : Nat) : (s.hubCount r key m).1.captured r = s.captured r := by
  refine Prod.ext (congrArg HubFlt.queue (faults_hubCount s r key m) :) ?_
  unfold State.captured State.hubCount
  dsimp only
  split
  · rw [get_bump_apart (by decide), get_raise_apart (by decide)]
    rfl
  · rfl

theorem captured_hubRaiseL1 (key cause level : Nat) : (s.hubRaiseL1 r m key cause level).captured r = s.captured r := by
  refine captured_of_faults (faults_hubRaiseL1 s r r m key cause level) ?_
  unfold State.hubRaiseL1
  extract_lets l1
  split
  · split <;> rfl
  · have hput : ((s.raise Reg.RH_FLT_EVENT_L1RAISED r).toKilnQueue r l1).get Reg.RH_FLT_FIRSTVAL_VALID r = s.get Reg.RH_FLT_FIRSTVAL_VALID r :=
      congrArg Prod.snd ((captured_toKilnQueue _ r l1).trans (captured_raise s r (by decide)))
    split
    · refine Eq.trans ?_ hput
      exact get_of_blank (F := { hubs := true, ldg := true, bru := true, flue := true, pulses := true, regs := [.ldg, .hubFl, .hubTr] })
        (by apply requestQuench_blank <;> rfl) rfl r
    · exact hput

/-- Classifying a fault leaves the faults that wait and the first capture. -/
theorem captured_classify : (s.classify r m).captured r = s.captured r := by
  unfold State.classify
  extract_lets phase level key
  split
  · exact captured_toKilnQueue s r m
  · split
    · split
      · split
        · exact captured_toKilnQueue s r m
        · have hcount := captured_hubCount s r m key
          split
          next u lv hu =>
            rw [hu] at hcount
            exact (captured_hubRaiseL1 _ r m key 0 lv).trans ((captured_toKilnQueue u r m).trans hcount)
          next u hu =>
            rw [hu] at hcount
            exact (captured_forwardLimited u r m).trans hcount
      · exact captured_forwardLimited s r m
    · split
      · exact (captured_hubRaiseL1 _ r m m.src 1 0).trans (captured_toKilnQueue s r m)
      · split
        · exact (captured_toKilnQueue _ r _).trans (captured_toKilnQueue s r m)
        · exact captured_toKilnQueue s r m

theorem captured_traceFault : (s.traceFault r m).captured r = s.captured r := by
  unfold State.traceFault
  split
  · exact captured_of_faults (congrArg Hub.faults (untraced_hubTrace s r r _ _ _) :) (get_hubTrace s r _ _ _ (by decide) r)
  · rfl

end

/-- What a classification takes from the queue, and where the first capture is marked (R204). -/
theorem execFaultClassify_captured {region : Nat} {m : FaultMsg} {rest : List FaultMsg} {s : State} (hqueue : (s.hub region).flt.queue = m :: rest)
    (hout : (s.hub region).flt.out = []) (hroom : s.kilnFull = false) : ∃ t first, execFaultClassify region s = .next t ∧
      t.captured region = ((HubFlt.refill { (s.hub region).flt with queue := rest, first := first }).queue, 1) := by
  simp only [execFaultClassify, hqueue, hout, hroom, ne_eq, not_true, Bool.false_eq_true, or_self, if_false, Host.Outcome.next.injEq]
  refine ⟨_, if s.on Reg.RH_FLT_FIRSTVAL_VALID region = true then (s.hub region).flt.first else some (m, (s.hub region).gt), rfl, (captured_classify _ _ _).trans ((captured_traceFault _ _ _).trans ?_)⟩
  simp only [State.captured, hub_raise, hub_setHub_self, get_raise_self]
  rfl

theorem execRfiMessage_of_whole (region data : Nat) (s : State) (hclass : bits data 0 3 ≤ 4) (hroom : (s.hub region).flt.queue.length < 64) :
    ∃ t, execRfiMessage region data true s = .next t ∧ (t.hub region).flt.queue.getLast?.map (fun m => (m.kind, m.tenant, m.addr, m.corr)) =
      some (0x800 + 0x100 * bits data 0 3 + bits data 19 8, bits data 28 12, bits data 40 48, bit data 27) := by
  have hready : s.rfiReady region = true := decide_eq_true hroom
  simp only [execRfiMessage, hready, Bool.true_eq_false, if_false, false_or, if_neg (by omega : ¬ bits data 0 3 > 4), Host.Outcome.next.injEq, exists_eq_left']
  rw [queue_hubQueue _ _ _ (by split <;> simpa using hroom)]
  simp

theorem execBucketLeak_at_hub (region key kind i : Nat) (b : Bucket) (s : State) (hindex : bucketIndex key kind (s.hub region).flt.buckets = some i)
    (hb : tget i (s.hub region).flt.buckets = some b) (hlevel : 1 < b.level) : ∃ t, execBucketLeak (some region) key kind s = .next t ∧
      (tget i (t.hub region).flt.buckets).map (·.level) = some (b.level - 1) := by
  simp [execBucketLeak, bucketLeak, hindex, hb, Nat.not_le.mpr hlevel]

theorem execBucketLeak_of_last (key kind i : Nat) (b : Bucket) (s : State) (hindex : bucketIndex key kind s.flt.buckets = some i)
    (hb : tget i s.flt.buckets = some b) (hlevel : b.level = 1) : ∃ t, execBucketLeak none key kind s = .next t ∧ tget i t.flt.buckets = none := by
  simp [execBucketLeak, bucketLeak, hindex, hb, hlevel]

theorem execFaultClassify_of_first (region : Nat) (m : FaultMsg) (rest : List FaultMsg) (s : State) (hqueue : (s.hub region).flt.queue = m :: rest)
    (_hlength : rest.length < 64) (hout : (s.hub region).flt.out = []) (hroom : s.kilnFull = false) (hheld : (s.hub region).flt.held = []) :
    ∃ t, execFaultClassify region s = .next t ∧ (t.hub region).flt.queue = rest ∧ t.get Reg.RH_FLT_FIRSTVAL_VALID region = 1 := by
  obtain ⟨t, first, ht, hcaptured⟩ := execFaultClassify_captured hqueue hout hroom
  refine ⟨t, ht, (congrArg Prod.fst hcaptured).trans ?_, congrArg Prod.snd hcaptured⟩
  simp [HubFlt.refill, hheld]

theorem execFaultClassify_refills (region : Nat) (m x : FaultMsg) (rest more : List FaultMsg) (s : State)
    (hqueue : (s.hub region).flt.queue = m :: rest) (hlength : rest.length < 64) (hout : (s.hub region).flt.out = []) (hroom : s.kilnFull = false)
    (hheld : (s.hub region).flt.held = x :: more) : ∃ t, execFaultClassify region s = .next t ∧ (t.hub region).flt.queue = rest ++ [x] := by
  obtain ⟨t, first, ht, hcaptured⟩ := execFaultClassify_captured hqueue hout hroom
  refine ⟨t, ht, (congrArg Prod.fst hcaptured).trans ?_⟩
  simp [HubFlt.refill, hheld, hlength]

theorem execFltCount_in_service (region src kind tenant addr gtlo : Nat) (s : State) (hphase : (s.hub region).flt.phase = .service) :
    ∃ t, execFltCount region src kind tenant addr gtlo s = .next t ∧ ((t.hub region).flt.bucketClock = (s.hub region).flt.bucketClock + 1 ∧
      (msgFltAckhub region true ∈ t.flue ∨ msgFltAckhub region false ∈ t.flue)) := by
  unfold execFltCount
  extract_lets m u key
  have hclock := congrArg HubFlt.bucketClock (faults_hubCount u region key m)
  rw [if_neg (by simpa [u] using hphase)]
  split
  next v lv hv =>
    rw [hv] at hclock
    refine ⟨_, rfl, ?_, Or.inl (by simp)⟩
    exact (congrArg HubFlt.bucketClock (faults_hubRaiseL1 v region region m key 0 lv)).trans hclock
  next v hv =>
    rw [hv] at hclock
    exact ⟨_, rfl, hclock, Or.inr (by simp)⟩

theorem execFltPhase_to_service (region : Nat) (s : State) (hphase : (s.hub region).flt.phase ≠ .service) : ∃ t, execFltPhase region 1 s = .next t ∧
    (t.hub region).flt.phase = .service ∧ (t.hub region).flt.buckets = [] := by
  simp [execFltPhase, hphase, Phase.ofCode]

/-! ## Registration (R208) -/

/-- The number of the next fault and the log of those registered (R208). -/
def State.registered (s : State) : Nat × Table LogEntry := (s.flt.nextSeq, s.flt.log)

theorem registered_kilnClassify (s : State) (m : FaultMsg) : (s.kilnClassify m).registered = s.registered := by
  unfold State.kilnClassify
  split
  · rfl
  · split
    · rfl
    · split
      · dsimp only
        split <;> split <;> rfl
      · rfl

theorem registered_logFault (s : State) (m : FaultMsg) (fseq arr : Nat) (a : Acted) : (s.logFault m fseq arr a).registered =
    (s.flt.nextSeq, tput (fseq % 4096) { msg := m, arr := arr, fseq := fseq, level := a.level, esc := a.esc, merged := a.merged, queued := a.queued,
                                         rid := a.rid } s.flt.log) := by
  unfold State.logFault
  extract_lets e valid first k u v w
  have hw : w.flt = u.flt := flt_of_blank (F := { ldg := true, regs := [.ldg] }) (s := v) (record_blank _ _ rfl rfl) rfl
  have ht : (((w.bump (countField a.level) 0 1).event 8).stopTrigger m.kind a.level fseq).flt = w.flt :=
    flt_of_blank (F := { ldg := true, dbg := true, pulses := true, regs := [.ldg, .dbg] }) (s := (w.bump (countField a.level) 0 1).event 8)
      (by apply stopTrigger_blank <;> rfl) rfl
  rw [State.registered, ht, hw]

theorem execFaultRegister_of_host_kind (m : FaultMsg) (s : State) (hnext : s.nextFlit = some m) (hkind : isHostKind m.kind = true) :
    ∃ t, execFaultRegister s = .next t ∧ t.flt.nextSeq = nextSkipZero 32 s.flt.nextSeq ∧
      (tget (s.flt.nextSeq % 4096) t.flt.log).map (fun e => (e.msg, e.fseq, e.arr, e.level)) = some (m, s.flt.nextSeq, s.gt, 0) := by
  have hrange : 0x800 ≤ m.kind ∧ m.kind ≤ 0xCFF := of_decide_eq_true hkind
  have h306 : ¬ m.kind = 0x306 := by omega
  have h309 : ¬ m.kind = 0x309 := by omega
  have h308 : ¬ m.kind = 0x308 := by omega
  have h007 : ¬ m.kind = 0x007 := by omega
  unfold execFaultRegister
  rw [hnext]
  simp only [h306, h309, h308, h007, hkind, Bool.true_eq_false, if_false, false_and, if_true]
  refine ⟨_, rfl, ?_⟩
  have hreg := (registered_kilnClassify _ m).trans (registered_logFault { s.takeFlit m with flt := { (s.takeFlit m).flt with nextSeq := nextSkipZero 32 s.flt.nextSeq } } m s.flt.nextSeq s.gt {})
  refine ⟨congrArg Prod.fst hreg, ?_⟩
  refine (congrArg (fun x : Nat × Table LogEntry => (tget (s.flt.nextSeq % 4096) x.2).map (fun e => (e.msg, e.fseq, e.arr, e.level))) hreg).trans ?_
  simp

/-! ## Phases, fences and holds (R206, R214, R217) -/

theorem execFltPhaseWrite_of_service (ten tag : Nat) (s : State) (hadmits : s.admits ten tag none = true) (hphase : s.flt.phase = .service) :
    ∃ t, execFltPhaseWrite 2 ten tag s = .next t ∧ t.flt.phase = .test ∧ t.get Reg.FLT_PHASE_PHASE 0 = 2 ∧ msgFltPhase 2 ∈ t.flue ∧
      .ghpRs (wrap 6 tag) 0 0 ∈ t.pulses := by
  simp [execFltPhaseWrite, hostWrite_of_admits hadmits, State.writePhase, hphase, State.setPhase, Phase.code]
  rfl

theorem execFltFence_closes (region tile acc : Nat) (s : State) (hreaches : s.reaches region tile acc = true)
    (hfence : (s.probe region tile).fence = .opened) : ∃ t, execFltFence region (some tile) acc true s = .next t ∧
      (t.probe region tile).fence = .fenced := by
  simp [execFltFence, atProbe_of_reaches hreaches, State.fenceOrder, Probe.eff, hfence, fence_setFence]

/-- A request to the tray stands with its cause (R458). -/
theorem pwr_trayRequest {s : State} (h : s.pwr.pcreq = false) (cause : Nat) :
    (s.trayRequest cause).pwr.pcreq = true ∧ (s.trayRequest cause).pwr.trayCause = cause := by
  have hpwr : (s.trayRequest cause).pwr = { s.pwr with pcreq := true, trayCause := cause } := by
    rw [State.trayRequest, if_neg (by simp [h])]
    refine (pwr_of_blank (F := { pulses := true }) (by apply ibi_blank; rfl) rfl).trans ?_
    exact pwr_of_blank (F := { ldg := true, regs := [.ldg] }) (bankedRecord_blank _ _ _ _ _ rfl rfl) rfl
  rw [hpwr]
  exact ⟨rfl, rfl⟩

theorem execL3HoldExpiry_of_held (s : State) (hl3 : s.flt.l3 = true) (hhold : s.get Reg.FLT_CTRL_L3HOLD 0 ≠ 0) (hpcreq : s.pwr.pcreq = false) :
    ∃ t, execL3HoldExpiry s = .next t ∧ t.pwr.pcreq = true ∧ t.pwr.trayCause = 1 := by
  rw [execL3HoldExpiry, if_pos ⟨hl3, hhold⟩]
  exact ⟨_, rfl, pwr_trayRequest hpcreq 1⟩

/-! ## Acknowledges and the notice ring (R212, R213, R215) -/

theorem runL2_nil (s : State) : s.runL2 [] = s := rfl

/-- Where the one reaction that stands does not wait, nothing starts. -/
theorem kickQueue_of_not_queued {s : State} {k : Nat} {r : Reaction} (h : s.flt.reacts = [(k, r)]) (hst : r.st ≠ .queued) : s.kickQueue = s := by
  simp [State.kickQueue, State.startQueued, State.reactions, h, hst, runL2_nil]

theorem ackReaction_of_awaited {s : State} {r : Reaction} (h : s.flt.reacts = [(r.rid % 1024, r)]) (hst : r.st = .awaitAck)
    (hphase : s.flt.phase ≠ .recovery) : s.ackReaction r.rid = s.setReact { r with st := .done } := by
  have hr : s.reaction r.rid = some r := by simp [State.reaction, h, tget]
  have hdone : (s.setReact { r with st := .done }).flt.reacts = [(r.rid % 1024, { r with st := .done })] := by simp [State.setReact, h, tput]
  rw [State.ackReaction, hr]
  dsimp only
  rw [if_neg (by simp [hst]), kickQueue_of_not_queued hdone (by simp), if_neg (fun hrec => hphase hrec.1)]

theorem execFltAck_of_awaited (rid ten tag : Nat) (r : Reaction) (s : State) (hadmits : s.admits ten tag none = true)
    (hreacts : s.flt.reacts = [(rid % 1024, r)]) (hrid : r.rid = rid) (hst : r.st = .awaitAck) (hphase : s.flt.phase ≠ .recovery) :
    ∃ t, execFltAck rid ten tag s = .next t ∧ (t.reaction rid).map (·.st) = some .done ∧ t.get Reg.FLT_ACK_RID 0 = wrap 16 rid ∧
      .ghpRs (wrap 6 tag) 0 0 ∈ t.pulses := by
  subst hrid
  have hack : (s.set Reg.FLT_ACK_RID 0 r.rid).ackReaction r.rid = _ := ackReaction_of_awaited (s := s.set Reg.FLT_ACK_RID 0 r.rid) hreacts hst hphase
  rw [execFltAck, hostWrite_of_admits hadmits, hack]
  exact ⟨_, rfl, by simp [State.reaction, State.setReact], get_set_self s _ 0 r.rid, by simp⟩

/-- What the Kiln's reactions have left in the phase, the mark of L2 and the notice tail. -/
def State.noted (s : State) : Phase × Nat × Nat := (s.flt.phase, s.get Reg.FLT_EVENT_L2 0, s.get Reg.FLT_NTAIL_TAIL 0)

section

variable (s : State)

theorem noted_of_blank {F : Fields} {s t : State} (h : t.blank F = s.blank F) (hf : F.flt = false) (hr : F.has .flt = false) : t.noted = s.noted := by
  rw [State.noted, State.noted, flt_of_blank h hf, get_of_blank (f := Reg.FLT_EVENT_L2) h hr, get_of_blank (f := Reg.FLT_NTAIL_TAIL) h hr]

theorem noted_raise {f : RegField} (hl : Reg.FLT_EVENT_L2.apart f = true) (ht : Reg.FLT_NTAIL_TAIL.apart f = true) (i : Nat) (hi : i = 0) :
    (s.raise f i).noted = s.noted := by
  subst hi
  rw [State.noted, State.noted, get_raise_apart hl, get_raise_apart ht]
  rfl

theorem noted_writeNotices (rid : Nat) (l : List (Nat × Nat × Nat × Nat)) : (s.writeNotices rid l).noted = s.noted := by
  induction l generalizing s with
  | nil => rfl
  | cons x rest ih =>
    obtain ⟨ty, ten, a, b⟩ := x
    unfold State.writeNotices
    split
    next => rfl
    next r hr =>
      split
      · exact noted_raise _ (by decide) (by decide) 0 rfl
      · exact ih _

theorem noted_endHandling (rid : Nat) : (s.endHandling rid).noted = s.noted := by
  unfold State.endHandling
  split
  next => rfl
  next r hr =>
    split
    · rfl
    · split
      · rfl
      · have hwritten : ((s.setReact { r with ended := true }).writeNotices rid (s.noticesOf r)).noted = s.noted := noted_writeNotices _ _ _
        dsimp only
        split
        next => exact hwritten
        next r' hr' => split <;> exact hwritten

theorem noted_unitNoticeOf (rid : Nat) : (s.unitNoticeOf rid).noted = s.noted := by
  unfold State.unitNoticeOf
  split
  next r hr => exact noted_writeNotices _ _ _
  next => rfl

theorem noted_discardWaiting (scope : List Nat) : (s.discardWaiting scope).noted = s.noted := by
  unfold State.discardWaiting
  refine (apply_foldl State.noted _ (fun s w => (noted_endHandling _ _).trans (noted_writeNotices s _ _)) _ _).trans ?_
  exact noted_of_blank (F := { rcv := true, flue := true }) (by apply releaseSets_blank <;> rfl) rfl rfl

theorem noted_takeRung (rung : Nat) : (s.takeRung rung).noted = s.noted := by
  unfold State.takeRung
  split
  · refine (noted_of_blank (F := { rcv := true, ldg := true, pwr := true, pulses := true, regs := [.rcv, .ldg] }) (by apply rung5_blank <;> rfl) rfl rfl).trans ?_
    exact noted_of_blank (F := { rcv := true, regs := [.rcv] }) (logCase_blank _ _ _ rfl) rfl rfl
  · extract_lets t scope base u v dropped w x
    have hv : v.noted = s.noted := by
      unfold v
      split <;> first | exact noted_raise _ (by decide) (by decide) 0 rfl | rfl
    have hw : w.noted = v.noted := apply_foldl State.noted _ (fun s t => noted_of_blank
      (F := { vault := true, colo := true, sys := true, flue := true, freeCtr := true, regs := [.tenant] }) (by apply epochDiscard_blank <;> rfl) rfl rfl) _ _
    have hx : x.noted = w.noted := by
      unfold x
      split
      · rfl
      · exact noted_discardWaiting w scope
    exact hx.trans (hw.trans hv)

theorem noted_chipCase (fseq : Nat) : (s.chipCase fseq).noted = s.noted := by
  unfold State.chipCase
  split
  · exact (noted_takeRung _ 4).trans (noted_raise _ (by decide) (by decide) 0 rfl)
  · split
    · rfl
    · split
      · exact (noted_takeRung _ 4).trans (apply_foldl State.noted _ (fun s rid => noted_unitNoticeOf s rid) _ _)
      · exact noted_takeRung s 4

theorem noted_runL2 (l : List Nat) : (s.runL2 l).noted = s.noted := by
  induction l generalizing s with
  | nil => rfl
  | cons rid rest ih =>
    refine (ih _).trans ?_
    split
    · exact noted_of_blank (F := { ldg := true, bru := true, pwr := true, pulses := true, regs := [.bru, .ldg] }) (by apply bruRefuse_blank <;> rfl) rfl rfl
    · split
      · exact noted_chipCase s _
      · rfl

end

theorem execL2QueueTimeout_of_queued (rid : Nat) (r : Reaction) (s : State) (hrid : s.reaction rid = some r) (hst : r.st = .queued) (hlevel : r.level = 2)
    (hstopped : s.stopped = false) (hphase : s.flt.phase = .service ∨ s.flt.phase = .test) : ∃ t, execL2QueueTimeout rid s = .next t ∧
      t.flt.phase = .recovery ∧ t.get Reg.FLT_EVENT_L2 0 = 1 := by
  have hnoted := noted_runL2 (s.startL2 r) [rid]
  simp only [execL2QueueTimeout, hrid, hst, hlevel, hstopped, Bool.false_eq_true, not_false_eq_true, and_self, if_true, Host.Outcome.next.injEq, exists_eq_left']
  have hphase' : (s.startL2 r).flt.phase = .recovery := by
    simp only [State.startL2]
    rw [if_pos (by exact hphase)]
    rfl
  have hl2 : (s.startL2 r).get Reg.FLT_EVENT_L2 0 = 1 := by
    have hraised : ((s.setReact { r with st := .handling, ntype := 7 }).raise Reg.FLT_EVENT_L2 0).get Reg.FLT_EVENT_L2 0 = 1 := get_raise_self _ _ 0
    rw [State.startL2]
    split
    · exact (get_set_apart (by decide) _ 0 _).trans hraised
    · exact hraised
  exact ⟨(congrArg Prod.fst hnoted).trans hphase', (congrArg (·.2.1) hnoted).trans hl2⟩

/-! ## The notice ring's tail (R215) -/

section

variable (s : State)

theorem noted_contain (src kind region : Nat) : (s.contain src kind region).noted = s.noted := by
  unfold State.contain
  split <;> rfl

theorem noted_startL1 (r : Reaction) : (s.startL1 r).noted = s.noted := by
  unfold State.startL1
  extract_lets q u
  have hu : u.noted = s.noted := (noted_contain _ _ _ _).trans (noted_raise (s.setReact q) (by decide) (by decide) 0 rfl)
  split
  · split
    · exact (noted_endHandling u _).trans hu
    · exact hu
  · split
    · exact hu
    · exact (noted_endHandling u _).trans hu

theorem ntail_startL2 (r : Reaction) : (s.startL2 r).get Reg.FLT_NTAIL_TAIL 0 = s.get Reg.FLT_NTAIL_TAIL 0 := by
  have hraised : ((s.setReact { r with st := .handling, ntype := 7 }).raise Reg.FLT_EVENT_L2 0).get Reg.FLT_NTAIL_TAIL 0 = s.get Reg.FLT_NTAIL_TAIL 0 :=
    get_raise_apart (by decide) _ 0
  unfold State.startL2
  extract_lets u
  split
  · exact (get_set_apart (by decide) _ 0 _).trans hraised
  · exact hraised

theorem ntail_startQueued : s.startQueued.1.get Reg.FLT_NTAIL_TAIL 0 = s.get Reg.FLT_NTAIL_TAIL 0 := by
  unfold State.startQueued
  generalize s.reactions.filter (fun r => r.st == .queued) = l
  generalize hacc : (s, ([] : List Nat)) = acc
  rw [show s = acc.1 from congrArg Prod.fst hacc]
  clear hacc
  induction l generalizing acc with
  | nil => rfl
  | cons r l ih =>
    refine (ih _).trans ?_
    dsimp only
    split
    · rfl
    · split
      · exact congrArg (·.2.2) (noted_startL1 acc.1 r)
      · exact ntail_startL2 acc.1 r

theorem ntail_kickQueue : s.kickQueue.get Reg.FLT_NTAIL_TAIL 0 = s.get Reg.FLT_NTAIL_TAIL 0 :=
  (congrArg (·.2.2) (noted_runL2 s.startQueued.1 s.startQueued.2)).trans (ntail_startQueued s)

theorem noted_writeLoose (l : List (Nat × Nat × Nat × Nat)) : (s.writeLoose l).noted = s.noted := by
  induction l generalizing s with
  | nil => rfl
  | cons x rest ih =>
    obtain ⟨ty, ten, a, b⟩ := x
    unfold State.writeLoose
    split
    · exact noted_raise _ (by decide) (by decide) 0 rfl
    · exact ih _

theorem noted_flushNotices : s.flushNotices.noted = s.noted := by
  unfold State.flushNotices
  refine (noted_writeLoose _ _).trans (apply_foldl State.noted _ (fun s r => ?_) _ s)
  have hwritten := noted_writeNotices s r.rid r.notices
  dsimp only
  split
  · exact hwritten
  · split <;> exact hwritten

end

theorem execFltNtailWrite_of_admits (tail ten tag : Nat) (s : State) (hadmits : s.admits ten tag none = true) :
    ∃ t, execFltNtailWrite tail ten tag s = .next t ∧ t.get Reg.FLT_NTAIL_TAIL 0 = wrap Reg.FLT_NTAIL_TAIL.w tail ∧ .ghpRs (wrap 6 tag) 0 0 ∈ t.pulses := by
  rw [execFltNtailWrite, hostWrite_of_admits hadmits]
  refine ⟨_, rfl, ?_, by simp⟩
  refine (ntail_kickQueue _).trans ((congrArg (·.2.2) (noted_flushNotices (s.set Reg.FLT_NTAIL_TAIL 0 tail))).trans ?_)
  exact get_set_self s _ 0 tail

/-- Settles O28. -/
theorem faultCollection : Obligations.FaultCollection :=
  ⟨execRfiMessage_of_whole, execFaultClassify_of_first, execFaultClassify_refills, execBucketLeak_at_hub, execBucketLeak_of_last,
    execFaultRegister_of_host_kind, execFltCount_in_service, fun _ _ _ => ⟨_, rfl, rfl⟩, execFltPhase_to_service, execFltPhaseWrite_of_service,
    execFltFence_closes, execFltAck_of_awaited, execFltNtailWrite_of_admits, execL2QueueTimeout_of_queued, execL3HoldExpiry_of_held⟩

end Sys2Proof.Machine
end

section
/-! SUPPORT. The watchdog and recovery (R222–R234): statuses, suspects, orders and checks, the reset of a rung, its end and the replay. -/

namespace Sys2Proof.Machine

open Sys2Proof

/-! ## What readings, drops and resets leave of a hub -/

/-- A hub without its readings, books, walks and trace ring. -/
def Hub.unread (h : Hub) : Hub := { h with readings := [], readCounts := [], rdOrders := 0, books := [], walk := [], tr := {} }

section

variable (s : State) (r x : Nat)

theorem unread_modHub {g : Hub → Hub} (h : ∀ y, (g y).unread = y.unread) : ((s.modHub r g).hub x).unread = (s.hub x).unread :=
  view_modHub Hub.unread h s r x

theorem unread_dispatch (c : Nat) : ((s.dispatch r c).hub x).unread = (s.hub x).unread := by
  unfold State.dispatch
  dsimp only
  split
  · rfl
  · split
    · have hqueue : ∀ (l : List ReadRec) (m : List Msg), ((((s.setQueue r c l).modHub r (fun h => { h with rdOrders := h.rdOrders + 1 })).sendAll m).hub x).unread =
          (s.hub x).unread := fun l m => by
        rw [hub_sendAll, unread_modHub _ r x (by intro; rfl)]
        exact unread_modHub s r x (by intro; rfl)
      split
      · exact hqueue _ _
      · exact (unread_modHub _ r x (by intro; rfl)).trans (hqueue _ _)
    · rfl

theorem unread_dispatchAll : ((s.dispatchAll r).hub x).unread = (s.hub x).unread :=
  apply_foldl (fun s : State => (s.hub x).unread) _ (fun s c => unread_dispatch s r x c) _ s

theorem rcv_recv (m : Msg) : (s.recv m).rcv = s.rcv := rfl

theorem unread_hubTrace (cls tenant payload : Nat) : ((s.hubTrace r cls tenant payload).hub x).unread = (s.hub x).unread :=
  (congrArg Hub.unread (untraced_hubTrace s r x cls tenant payload) :)

theorem unread_dropRec (c : Nat) (y : ReadRec) : ((s.dropRec r c y).hub x).unread = (s.hub x).unread := by
  have hqueue : ∀ l : List ReadRec, ((s.setQueue r c l).hub x).unread = (s.hub x).unread := fun l => unread_modHub s r x (by intro; rfl)
  unfold State.dropRec
  dsimp only
  split
  · exact (unread_modHub _ r x (by intro; rfl)).trans (hqueue _)
  · exact hqueue _

theorem unread_abandon (c : Nat) (y : ReadRec) (toWorker : Bool) : ((s.abandon r c y toWorker).hub x).unread = (s.hub x).unread := by
  unfold State.abandon
  extract_lets probes
  refine (unread_hubTrace _ r x _ _ _).trans ?_
  rw [hub_raise, State.modReads, unread_modHub _ r x (by intro; rfl)]
  exact unread_dropRec s r x c y

theorem unread_abandonIf (test : ReadRec → Bool) (toWorker : Bool) : ((s.abandonIf r test toWorker).hub x).unread = (s.hub x).unread := by
  unfold State.abandonIf
  refine apply_foldl (fun s : State => (s.hub x).unread) _ (fun u e => ?_) _ s
  exact apply_foldl (fun s : State => (s.hub x).unread) _ (fun v y => unread_abandon v r x e.1 y toWorker) _ u

theorem unread_releaseSlot (t i : Nat) : ((s.releaseSlot r t i).hub x).unread = (s.hub x).unread := by
  unfold State.releaseSlot
  extract_lets p y tenant u e
  split
  next b ovf hb =>
    have hbook : ∀ k : TileBook, ((u.setBook r t k).hub x).unread = (s.hub x).unread := fun k =>
      (unread_modHub u r x (by intro; rfl)).trans (congrArg Hub.unread (hub_count _ _ _ _ _ _) :)
    dsimp only
    split
    · exact hbook _
    · exact hbook _

theorem unread_releaseList (t : Nat) (l : List Nat) : ((s.releaseList r t l).hub x).unread = (s.hub x).unread := by
  induction l generalizing s with
  | nil => rfl
  | cons i rest ih =>
    unfold State.releaseList
    split
    · exact ih s
    · exact (ih _).trans (unread_releaseSlot s r x t i)
    · rfl

theorem unread_kickRelease (t : Nat) : ((s.kickRelease r t).hub x).unread = (s.hub x).unread := by
  unfold State.kickRelease
  split
  · rfl
  · exact unread_releaseList s r x t _

theorem unread_dropSlots (t tenant : Nat) (every : Bool) : ((s.dropSlots r t tenant every).hub x).unread = (s.hub x).unread := by
  unfold State.dropSlots
  extract_lets p l lost u v
  have hu : u.hub x = s.hub x := hub_congr (hubs_of_blank (F := { probes := true, pulses := true }) (by apply discardSlots_blank <;> rfl) rfl) x
  have hv : v.hub x = s.hub x := by
    refine Eq.trans ?_ hu
    unfold v
    split
    · exact hub_congr (hubs_of_blank (F := { probes := true, regs := [.probe] }) (by apply setFence_blank <;> rfl) rfl) x
    · rfl
  rw [show ((v.kickRelease r t).checkIdle r t).hub x = (v.kickRelease r t).hub x from
    hub_congr (hubs_of_blank (F := { probes := true, flue := true }) (by apply checkIdle_blank <;> rfl) rfl) x, unread_kickRelease, hv]

theorem unread_tenantDrop (t tenant : Nat) : ((s.tenantDrop r t tenant).hub x).unread = (s.hub x).unread := by
  unfold State.tenantDrop
  extract_lets u
  rw [show ((u.dropSlots r t tenant false).removeCtx r t tenant).hub x = (u.dropSlots r t tenant false).hub x from
    hub_congr (hubs_of_blank (F := { probes := true }) (by apply removeCtx_blank; rfl) rfl) x]
  exact unread_dropSlots u r x t tenant false

theorem unread_dropsAt (gt : Nat) : ((s.dropsAt r gt).hub x).unread = (s.hub x).unread := by
  unfold State.dropsAt
  refine apply_foldl (fun s : State => (s.hub x).unread) _ (fun u e => ?_) _ s
  dsimp only
  refine (apply_foldl (fun s : State => (s.hub x).unread) _ ?_ _ _).trans (apply_foldl (fun s : State => (s.hub x).unread) _ ?_ _ u)
  · intro v d
    exact unread_tenantDrop v r x _ d.1
  · intro v d
    exact (unread_dropSlots _ r x _ d.1 d.2.1).trans (congrArg Hub.unread (hub_modProbe v x r _ _))

theorem hub_restartSegments : (s.restartSegments r).hub x = s.hub x :=
  hub_congr (hubs_of_blank (F := { probes := true, flue := true, pulses := true, freeCtr := true }) (by apply restartSegments_blank <;> rfl) rfl) x

theorem wd_resetHub (o : RungOrder) : ((s.resetHub r o).hub r).wd =
    { (s.hub r).wd with order := some { o with st := .holding }, rstCtx := if o.rung = 1 then o.left.head? else none, rstEng := o.rung == 2 || o.rung == 3 } := by
  unfold State.resetHub
  extract_lets u v w y
  have hw : (w.hub r).unread = (u.hub r).unread := (unread_abandonIf v r r _ true).trans (unread_dropsAt u r r o.instant)
  have hy : (y.hub r).unread = (u.hub r).unread := by
    refine Eq.trans ?_ hw
    unfold y
    split
    · rfl
    · exact congrArg Hub.unread (hub_restartSegments w r r)
  have hwd := congrArg Hub.wd ((unread_dispatchAll y r r).trans hy)
  dsimp only [Hub.unread] at hwd
  rw [hwd]
  exact congrArg Hub.wd (hub_modHub_self s r _)

end

/-! ## The watchdog (R222, R223) -/

theorem execWatchdogTick_of_powered (region tile : Nat) (s : State) (hpowered : (s.probe region tile).powered = true) :
    ∃ t, execWatchdogTick region tile s = .next t ∧ (t.probe region tile).progress = [] ∧ msgWdStat region tile false (s.probe region tile).wdMasks.1
      (s.probe region tile).wdMasks.2.1 (s.probe region tile).wdMasks.2.2 false ∈ t.flue := by
  simp [execWatchdogTick, hpowered]

theorem execWdStat_merges (region tile owing prog held : Nat) (gated : Bool) (s : State)
    (hparked : (((s.probe region tile).maskTenants prog).any (fun u => ((s.hub region).wd.ctxOf u).parked)) = false) :
    ∃ t, execWdStat region tile false owing prog held gated s = .next t ∧
      (t.hub region).wd.owing = union (s.hub region).wd.owing ((s.probe region tile).maskTenants owing) ∧
      (t.hub region).wd.prog = union (s.hub region).wd.prog ((s.probe region tile).maskTenants prog) := by
  have hctx : ∀ f : HubWd → HubWd, (∀ w, (f w).ctx = w.ctx) → ∀ u : State, u.hub region = s.hub region →
      (((s.probe region tile).maskTenants prog).any (fun v => (((u.modWd region f).hub region).wd.ctxOf v).parked)) = false := by
    intro f hf u hu
    simpa [State.modWd, HubWd.ctxOf, hf, hu] using hparked
  unfold execWdStat
  extract_lets u p l v
  have hl : l.any (fun t => ((v.hub region).wd.ctxOf t).parked) = false := hctx _ (by intro; rfl) u (by simp [u])
  rw [if_pos rfl, if_neg (by rw [hl]; decide)]
  exact ⟨_, rfl, by simp [v, State.modWd, u, p], by simp [v, State.modWd, u, p, l]⟩

theorem execWatchdogEvaluate_begins (region : Nat) (s : State) : ∃ t, execWatchdogEvaluate region s = .next t ∧ (t.hub region).wd.owing = [] ∧
    (t.hub region).wd.prog = [] ∧ (t.hub region).wd.agreed = [] ∧ (t.hub region).wd.paused = false := by
  simp [execWatchdogEvaluate, State.modWd]

/-! ## Hang cases (R227, R229) -/

theorem execWdSet_of_collect (region : Nat) (suspects : List Nat) (more : Bool) (s : State) (hst : s.rcv.st = .collect) :
    ∃ t, execWdSet region suspects more s = .next t ∧ t.rcv.more = (s.rcv.more || more) ∧
      ∀ u ∈ suspects, t.rcv.suspects.any (fun x => x.1 == u && x.2.1 == region) = true := by
  have hst' : ∀ m, (s.recv m).rcv.st = .collect := fun _ => hst
  simp only [execWdSet, hst', if_true, Host.Outcome.next.injEq, exists_eq_left']
  refine ⟨rfl, fun v hv => ?_⟩
  by_cases hknown : s.rcv.suspects.any (fun x => x.1 == v && x.2.1 == region) = true
  · simp only [KRcv.join, List.any_append, rcv_recv, hknown, Bool.true_or]
  · refine List.any_eq_true.mpr ⟨(v, region, .parked), List.mem_append_right _ (List.mem_map.mpr ⟨v, List.mem_filter.mpr ⟨hv, ?_⟩, rfl⟩), by simp⟩
    rw [Bool.not_eq_true] at hknown
    rw [rcv_recv, hknown]
    rfl

/-- How far a case has come: its state and its rung. -/
def State.reached (s : State) : RcvState × Nat := (s.rcv.st, s.rcv.rung)

theorem reached_of_blank {F : Fields} {s t : State} (h : t.blank F = s.blank F) (hf : F.rcv = false) : t.reached = s.reached := by
  rw [State.reached, State.reached, rcv_of_blank h hf]

theorem reached_releaseSets (s : State) (regions : List Nat) : (s.releaseSets regions).reached = s.reached :=
  apply_foldl State.reached State.releaseSet (by intros; rfl) _ s

theorem reached_discardWaiting (s : State) (scope : List Nat) : (s.discardWaiting scope).reached = s.reached := by
  unfold State.discardWaiting
  refine (apply_foldl State.reached _ (fun s w => reached_of_blank (F := { flt := true, regs := [.flt] }) (by apply endWatchdog_blank <;> rfl) rfl) _ _).trans ?_
  exact reached_releaseSets _ _

/-- Taking a rung leaves the case in its reset at that rung (R229). -/
theorem reached_takeRung (s : State) (rung : Nat) : (s.takeRung rung).reached = (.reset, min 5 rung) := by
  unfold State.takeRung
  split
  next h =>
    rw [Nat.min_eq_left h]
    unfold State.rung5
    refine (reached_of_blank (F := { ldg := true, pwr := true, pulses := true, regs := [.ldg] }) (trayRequest_blank _ 2 rfl rfl rfl rfl) rfl).trans ?_
    rfl
  next h =>
    rw [Nat.min_eq_right (by omega)]
    extract_lets t scope base u v dropped w x
    have hv : v.reached = (.reset, rung) := by
      unfold v
      split <;> rfl
    have hw : w.reached = v.reached := apply_foldl State.reached _ (fun s t => reached_of_blank
      (F := { vault := true, colo := true, sys := true, flue := true, freeCtr := true, regs := [.tenant] }) (by apply epochDiscard_blank <;> rfl) rfl) _ _
    have hx : x.reached = w.reached := by
      unfold x
      split
      · rfl
      · exact reached_discardWaiting w scope
    exact hx.trans (hw.trans hv)

theorem climbTo_of_not_l2 {s : State} {rung : Nat} (hrung : rung ≠ 4) (hst : s.rcv.st ≠ .idle) : s.climbTo rung = s.takeRung rung := by
  simp only [State.climbTo, if_neg hrung, if_neg hst]

/-- No reaction of level 2 waits for its end or its acknowledge. -/
def State.freeOfL2 (s : State) : Prop := ∀ x ∈ s.reactions, (x.unack && x.level == 2) = false

theorem mem_of_tget {α : Type} {k : Nat} {v : α} {l : Table α} (h : tget k l = some v) : (k, v) ∈ l := by
  induction l with
  | nil => simp [tget] at h
  | cons e l ih =>
    obtain ⟨k', v'⟩ := e
    rw [tget] at h
    split at h
    next hk =>
      cases h
      rw [hk]
      exact List.mem_cons_self
    next => exact List.mem_cons_of_mem _ (ih h)

theorem freeOfL2_setReact {s : State} (h : s.freeOfL2) {rid : Nat} {r q : Reaction} (hr : s.reaction rid = some r) (hst : q.st = r.st)
    (hlevel : q.level = r.level) : (s.setReact q).freeOfL2 := by
  have hmem : r ∈ s.reactions := List.mem_map.mpr ⟨_, mem_of_tget (tget_of_reaction hr).1, rfl⟩
  intro x hx
  obtain ⟨e, he, rfl⟩ := List.mem_map.mp hx
  rcases mem_tput he with rfl | he
  · simpa only [Reaction.unack, hst, hlevel] using h r hmem
  · exact h e.2 (List.mem_map.mpr ⟨e, he, rfl⟩)

theorem freeOfL2_writeNotices (rid : Nat) (l : List (Nat × Nat × Nat × Nat)) {s : State} (h : s.freeOfL2) : (s.writeNotices rid l).freeOfL2 := by
  induction l generalizing s with
  | nil => exact h
  | cons x rest ih =>
    obtain ⟨ty, ten, a, b⟩ := x
    unfold State.writeNotices
    split
    next => exact h
    next r hr =>
      split
      · exact freeOfL2_setReact h hr (by rfl) (by rfl)
      · exact ih (freeOfL2_setReact (s := { s with flt := { s.flt with notices := _, head := _ } }) h hr (by rfl) (by rfl))

theorem freeOfL2_unitNoticeOf (rid : Nat) {s : State} (h : s.freeOfL2) : (s.unitNoticeOf rid).freeOfL2 := by
  unfold State.unitNoticeOf
  split
  next r hr => exact freeOfL2_writeNotices rid _ (freeOfL2_setReact h hr (by rfl) (by rfl))
  next => exact h

theorem freeOfL2_unitNotice {s : State} (h : s.freeOfL2) : s.unitNotice.freeOfL2 := by
  unfold State.unitNotice
  generalize s.rcv.rids = l
  induction l generalizing s with
  | nil => exact h
  | cons rid rest ih => exact ih (freeOfL2_unitNoticeOf rid h)

/-- A case's level 2 reaction starts where none stands, and leaves the case as it is. -/
theorem reached_caseL2 {s : State} (h : s.freeOfL2) : s.caseL2.reached = s.reached := by
  unfold State.caseL2
  extract_lets u rid k v r
  have hu : u.reached = s.reached ∧ u.reactions = s.reactions := by
    unfold u
    split <;> exact ⟨rfl, rfl⟩
  have hnone : v.reactions.find? (fun x => x.unack && x.level == 2) = none :=
    List.find?_eq_none.mpr (fun x hx => by rw [h x (hu.2 ▸ hx)]; decide)
  rw [hnone]
  refine (reached_of_blank (F := { flt := true, flue := true, pulses := true, regs := [.flt] }) (t := v.startL2 r) (by apply startL2_blank <;> rfl) rfl).trans ?_
  exact hu.1

theorem execCaseCollectTimeout_resets (s : State) (hst : s.rcv.st = .collect) (hstopped : s.stopped = false)
    (hlevel : s.reactions.all (fun x => !(x.unack && x.level == 2)) = true) : ∃ t, execCaseCollectTimeout s = .next t ∧ t.rcv.st = .reset := by
  have hfree : s.freeOfL2 := fun x hx => by simpa only [Bool.not_eq_true'] using List.all_eq_true.mp hlevel x hx
  unfold execCaseCollectTimeout
  extract_lets rung top k
  rw [if_neg (by simp [hst, hstopped])]
  generalize hstart : ({ s with rcv := { k with startRung := top } } : State) = u
  have hu : u.freeOfL2 := hstart ▸ hfree
  have hust : u.rcv.st = .collect := hstart ▸ hst
  have hnotice : u.unitNotice.reached = u.reached := reached_of_blank (F := { flt := true, regs := [.flt] }) (by apply unitNotice_blank <;> rfl) rfl
  have hcollect : u.unitNotice.rcv.st = .collect := (congrArg Prod.fst hnotice).trans hust
  refine ⟨_, rfl, ?_⟩
  unfold State.climbTo
  extract_lets v
  have hv : v.rcv.st = .collect := by
    refine Eq.trans ?_ hcollect
    unfold v
    split
    · exact congrArg Prod.fst (reached_caseL2 (freeOfL2_unitNotice hu))
    · rfl
  rw [if_neg (by rw [hv]; decide)]
  exact congrArg Prod.fst (reached_takeRung v top)

/-! ## Orders, drops and checks (R232) -/

theorem execRcvOrder_stands (region rung case instant : Nat) (tenants : List Nat) (s : State) :
    ∃ t, execRcvOrder region rung case instant tenants s = .next t ∧ (t.hub region).wd.order.map (fun o => (o.rung, o.case, o.instant, o.tenants, o.st)) =
      some (rung, case, instant, (List.range 4096).filter tenants.contains, .waitInstant) := by
  simp [execRcvOrder, State.modWd]

theorem execWdDrop_of_waiting (region tile acc tenant instant : Nat) (every : Bool) (o : RungOrder) (s : State)
    (hreaches : s.reaches region tile acc = true) (horder : (s.hub region).wd.order = some o) (hinstant : o.instant = instant)
    (hst : o.st = .waitInstant) : ∃ t, execWdDrop region tile acc tenant every instant s = .next t ∧
      (t.probe region tile).drops = (s.probe region tile).drops ++ [(tenant, every, instant)] := by
  simp [execWdDrop, atProbe_of_reaches hreaches, horder, hinstant, hst]

theorem execWdCheck_of_reaches (region tile acc : Nat) (s : State) (hreaches : s.reaches region tile acc = true) :
    ∃ t, execWdCheck region tile acc s = .next t ∧ msgWdStat region tile true (s.probe region tile).wdMasks.1 (s.probe region tile).wdMasks.2.1
      (s.probe region tile).wdMasks.2.2 false ∈ t.flue := by
  simp [execWdCheck, atProbe_of_reaches hreaches]

/-! ## The reset of a rung (R229, R230) -/

theorem execResetInstant_at_hub (region : Nat) (o : RungOrder) (s : State) (horder : (s.hub region).wd.order = some o) (hst : o.st = .waitInstant) :
    ∃ t, execResetInstant (some region) s = .next t ∧ (t.hub region).wd.order.map (·.st) = some .holding ∧
      (t.hub region).wd.rstEng = (o.rung == 2 || o.rung == 3) := by
  have hwd := wd_resetHub s region o
  simp only [execResetInstant, horder, hst, if_true, Host.Outcome.next.injEq, exists_eq_left', hwd]
  exact ⟨rfl, trivial⟩

theorem execResetInstant_of_rung3 (s : State) (_hst : s.rcv.st = .reset) (harmed : s.rcv.armed = true) (hrung : s.rcv.rung = 3) :
    ∃ t, execResetInstant none s = .next t ∧ t.rcv.armed = false ∧ t.rcv.rstPart = maskOf (s.rcv.scope.map s.partitionOf).eraseDups := by
  simp [execResetInstant, harmed, State.resetKiln, hrung]

theorem execResetHoldEnd_at_kiln (s : State) (hstopped : s.stopped = false) : ∃ t, execResetHoldEnd none s = .next t ∧ t.rcv.rstPart = 0 ∧
    t.rcv.rstChip = false := by
  simp [execResetHoldEnd, hstopped]

theorem execResetHoldEnd_at_hub (region : Nat) (o : RungOrder) (s : State) (horder : (s.hub region).wd.order = some o)
    (hstopLeaf : (s.hub region).stopLeaf = false) (hst : o.st = .holding) : ∃ t, execResetHoldEnd (some region) s = .next t ∧
      (t.hub region).wd.rstCtx = none ∧ (t.hub region).wd.rstEng = false ∧ (t.hub region).wd.order.map (fun x => (x.st, x.left)) =
        some (if o.rung = 1 ∧ o.left.drop 1 ≠ [] then .gap else .settle, o.left.drop 1) := by
  simp [execResetHoldEnd, horder, hstopLeaf, hst, State.holdOver, State.modWd]

theorem execRcvDone_of_some_owing (region held case other : Nat) (s : State) (hst : s.rcv.st = .reset) (hcase : s.rcv.case = case)
    (hregion : s.rcv.scope.contains region = true) (hrung : s.rcv.rung < 5) (hother : s.rcv.scope.contains other = true)
    (howing : (union s.rcv.doneFrom [region]).contains other = false) : ∃ t, execRcvDone region true held case s = .next t ∧
      t.rcv.doneFrom = union s.rcv.doneFrom [region] := by
  have hsome : s.rcv.scope.all (union s.rcv.doneFrom [region]).contains = false :=
    List.all_eq_false.mpr ⟨other, List.contains_iff_mem.mp hother, by rw [howing]; decide⟩
  unfold execRcvDone
  extract_lets u k v
  have hguard : ¬ (u.rcv.case ≠ case ∨ u.rcv.scope.contains region = false ∨ u.rcv.rung ≥ 5 ∨
      (u.rcv.st ≠ .reset ∧ ¬ (u.rcv.st = .idle ∧ u.flt.l3 ∧ u.rcv.rung = 4))) := by
    rintro (h | h | h | h)
    · exact h hcase
    · exact absurd (hregion.symm.trans h) (by decide)
    · exact absurd hrung (Nat.not_lt.mpr h)
    · exact h.1 hst
  rw [if_neg hguard, if_pos rfl, if_neg (by rw [show v.rcv.scope.all v.rcv.doneFrom.contains = false from hsome]; decide)]
  exact ⟨_, rfl, rfl⟩

theorem execRcvDoneTimeout_climbs (region : Nat) (s : State) (hst : s.rcv.st = .reset) (hstopped : s.stopped = false) (hrung : s.rcv.rung < 3)
    (hregion : s.rcv.scope.contains region = true) (howing : s.rcv.doneFrom.contains region = false) : ∃ t, execRcvDoneTimeout region s = .next t ∧
      t.rcv.rung = s.rcv.rung + 1 := by
  have hguard : ¬ (s.rcv.st ≠ .reset ∨ s.stopped = true ∨ s.rcv.rung ≥ 5 ∨ s.rcv.scope.contains region = false ∨ s.rcv.doneFrom.contains region = true) := by
    rw [hst, hstopped, hregion, howing]
    simp only [ne_eq, not_true, Bool.false_eq_true, Bool.true_eq_false, or_false, false_or]
    omega
  rw [execRcvDoneTimeout, if_neg hguard, climbTo_of_not_l2 (by omega) (by simp [hst])]
  refine ⟨_, rfl, (congrArg Prod.snd (reached_takeRung s _)).trans ?_⟩
  exact Nat.min_eq_right (by omega)

/-! ## Grants and the end of a replay (R233, R234) -/

theorem execRcvGrant_parks (region tenant : Nat) (s : State) (hcontext : (s.contextsOf region).contains tenant = true) :
    ∃ t, execRcvGrant region tenant 1 s = .next t ∧ ((t.hub region).wd.ctxOf tenant).parked = true ∧
      ((t.hub region).wd.ctxOf tenant).granted = false ∧ ((t.hub region).wd.ctxOf tenant).suspect = true := by
  have hmem : ∀ m, tenant ∈ (s.recv m).contextsOf region := fun _ => List.contains_iff_mem.mp hcontext
  simp [execRcvGrant, State.modWd, HubWd.ctxOf, List.filter, hmem]

theorem tellSuspects_foldl (l : List Nat) (code : Nat) (s : State) : (l.foldl (fun s t => s.tellSuspects t code) s).rcv = s.rcv ∧
    s.flue ⊆ (l.foldl (fun s t => s.tellSuspects t code) s).flue ∧ (l.foldl (fun s t => s.tellSuspects t code) s).regs = s.regs :=
  ⟨apply_foldl State.rcv (fun s t => s.tellSuspects t code) (by intros; rfl) l s,
    flue_subset_foldl _ (fun s t => by simp [State.tellSuspects]) l s,
    apply_foldl State.regs (fun s t => s.tellSuspects t code) (by intros; rfl) l s⟩

/-- Closing a case that no other waits for leaves the unit idle, with the result in RCV_LAST (R229). -/
theorem closeCase_of_none_waiting {s : State} (h : s.rcv.waiting = []) (result guilty : Nat) (rung : Nat) :
    (s.closeCase result guilty (some rung)).rcv.st = .idle ∧ (s.closeCase result guilty (some rung)).rcv.granted = none ∧
      (s.closeCase result guilty (some rung)).get Reg.RCV_LAST_RESULT 0 = wrap Reg.RCV_LAST_RESULT.w result ∧
      s.flue ⊆ (s.closeCase result guilty (some rung)).flue := by
  unfold State.closeCase
  extract_lets u tenants v k w rids y z
  have hu : u.rcv = s.rcv ∧ u.flue = s.flue ∧ u.get Reg.RCV_LAST_RESULT 0 = wrap Reg.RCV_LAST_RESULT.w result := by
    obtain ⟨regs, hregs⟩ := exists_setAll_eq s 0 _
    refine ⟨(congrArg State.rcv hregs :), (congrArg State.flue hregs :), ?_⟩
    simp (disch := decide) only [u, State.logCase, State.setAll, get_set_apart, get_set_self]
  obtain ⟨hrcv, hflue, hregs⟩ := tellSuspects_foldl tenants 2 u
  have hz : (rids.foldl (fun s rid => s.endHandling rid) z).blank { flt := true, regs := [.flt] } = z.blank { flt := true, regs := [.flt] } :=
    foldl_blank _ _ _ (fun s rid => by apply endHandling_blank <;> rfl)
  have hwait : (rids.foldl (fun s rid => s.endHandling rid) z).rcv = z.rcv := rcv_of_blank hz rfl
  have hnone : z.rcv.waiting = [] := (congrArg KRcv.waiting (hrcv.trans hu.1)).trans h
  rw [hwait, hnone]
  refine ⟨congrArg KRcv.st hwait, congrArg KRcv.granted hwait, ?_, ?_⟩
  · refine (get_of_blank hz (by rfl) 0).trans (Eq.trans ?_ hu.2.2)
    exact congrArg (fun regs => ({ z with regs := regs } : State).get Reg.RCV_LAST_RESULT 0) hregs
  · rw [flue_of_blank hz rfl, ← hu.2.1]
    exact hflue

/-- The state once the tenant that was granted has passed its replay. -/
def State.passed (s : State) (u : Nat) : State := { s with rcv := { (s.rcv.mark u .passed) with granted := none } }.tellSuspects u 2

theorem toGrant_passed {s : State} {u region : Nat} (hsuspects : s.rcv.suspects = [(u, region, .granted)]) : (s.passed u).rcv.toGrant = [] := by
  rw [KRcv.toGrant, List.filter_eq_nil_iff]
  intro t _
  simp [State.passed, State.tellSuspects, KRcv.mark, hsuspects]

theorem grantedPasses_of_last {s : State} {u region : Nat} (hgranted : s.rcv.granted = some u) (hsuspects : s.rcv.suspects = [(u, region, .granted)]) :
    s.grantedPasses = (s.passed u).closeCase 0 0 (some 1) := by
  have hpasses : s.grantedPasses = (s.passed u).grantNext := by
    rw [State.grantedPasses, hgranted, State.passed]
  have hlast : (s.passed u).grantNext = (s.passed u).closeCase 0 0 (some 1) := by
    unfold State.grantNext
    simp only [toGrant_passed hsuspects]
  exact hpasses.trans hlast

theorem execReplayTimeout_ends (u region : Nat) (s : State) (hst : s.rcv.st = .replay) (hgranted : s.rcv.granted = some u)
    (hsuspects : s.rcv.suspects = [(u, region, .granted)]) (hwaiting : s.rcv.waiting = []) (hstopped : s.stopped = false) :
    ∃ t, execReplayTimeout s = .next t ∧ t.rcv.st = .idle ∧ t.rcv.granted = none ∧ t.get Reg.RCV_LAST_RESULT 0 = 0 ∧ msgRcvGrant region u 2 ∈ t.flue := by
  have hwait : (s.passed u).rcv.waiting = [] := hwaiting
  obtain ⟨hidle, hnone, hresult, hflue⟩ := closeCase_of_none_waiting hwait 0 0 1
  have hsent : msgRcvGrant region u 2 ∈ (s.passed u).flue := by simp [State.passed, State.tellSuspects, KRcv.mark, hsuspects, List.eraseDups_cons]
  rw [execReplayTimeout, if_pos ⟨hst, by simp [hgranted], by simp [hstopped]⟩, grantedPasses_of_last hgranted hsuspects]
  exact ⟨_, rfl, hidle, hnone, hresult, hflue hsent⟩

/-- Settles O29. -/
theorem watchdogCommands : Obligations.WatchdogCommands :=
  ⟨execWatchdogTick_of_powered, execWdStat_merges, execWatchdogEvaluate_begins, execWdSet_of_collect, execCaseCollectTimeout_resets,
    execRcvOrder_stands, execWdDrop_of_waiting, execWdCheck_of_reaches⟩

/-- Settles O30. -/
theorem recoveryCommands : Obligations.RecoveryCommands :=
  ⟨execResetInstant_at_hub, execResetInstant_of_rung3, execResetHoldEnd_at_kiln, execResetHoldEnd_at_hub, execRcvDone_of_some_owing,
    execRcvDoneTimeout_climbs, execRcvGrant_parks, execReplayTimeout_ends⟩

end Sys2Proof.Machine
end

section
/-! SUPPORT. Concordance ports (R249–R257): what a message that is presented leaves of its port, sessions, heartbeats and retransmission. -/

namespace Sys2Proof.Machine

open Sys2Proof

/-! ## What sending leaves of a port -/

/-- A port without what waits for the line and the marks of what has left. -/
def Port.unwaited (p : Port) : Port := { p with wait := [], ackDue := false, pairT1 := none }

/-- The state of a port, its receive window, its peer's session and its lines. -/
def Port.line (p : Port) : PortState × Nat × Nat × Bool × Bool × Nat := (p.st, p.rxNext, p.psess, p.linkUp, p.txReady, p.linkPs)

section

variable (s : State) (c : Nat)

@[simp] theorem port_bump (f : RegField) (i n : Nat) : (s.bump f i n).port c = s.port c := rfl
@[simp] theorem port_raise (f : RegField) (i : Nat) : (s.raise f i).port c = s.port c := rfl
@[simp] theorem port_emit (p : Pulse) : (s.emit p).port c = s.port c := rfl
@[simp] theorem port_modPort_self (f : Port → Port) : (s.modPort c f).port c = f (s.port c) := port_setPort_self s c _

@[simp] theorem pulses_modPort (f : Port → Port) : (s.modPort c f).pulses = s.pulses := rfl

theorem unwaited_accept (w : LinkWait) : ((s.accept c w).port c).unwaited = (s.port c).unwaited := by
  simp [State.accept, Port.unwaited]

theorem unwaited_present (w : LinkWait) : ((s.present c w).port c).unwaited = (s.port c).unwaited := by
  unfold State.present
  dsimp only
  split
  · rfl
  · split
    · exact unwaited_accept s c w
    · simp [Port.unwaited]

theorem get_present (w : LinkWait) : (s.present c w).get Reg.CCD_EVENT_RETX c = s.get Reg.CCD_EVENT_RETX c := by
  unfold State.present
  dsimp only
  split
  · rfl
  · split
    · exact (get_bump_apart (by decide) _ c 1).trans rfl
    · rfl

/-- A round of retransmission presents every message that waits for its acknowledgement (R255). -/
theorem foldl_present (l : List LinkSent) : ((l.foldl (fun s m => s.present c { body := m.body, seq := some m.seq, retx := true }) s).port c).unwaited =
    (s.port c).unwaited ∧ (l.foldl (fun s m => s.present c { body := m.body, seq := some m.seq, retx := true }) s).get Reg.CCD_EVENT_RETX c =
      s.get Reg.CCD_EVENT_RETX c :=
  ⟨apply_foldl (fun s : State => (s.port c).unwaited) _ (fun s _ => unwaited_present s c _) l s,
    apply_foldl (fun s : State => s.get Reg.CCD_EVENT_RETX c) _ (fun s _ => get_present s c _) l s⟩

theorem line_of_unwaited {p q : Port} (h : p.unwaited = q.unwaited) : p.line = q.line := (congrArg Port.line h :)

theorem line_transmit (body : LinkBody) (answer : Bool) : ((s.transmit c body answer).port c).line = (s.port c).line := by
  unfold State.transmit
  extract_lets p seq u v
  have hv : (v.port c).line = (s.port c).line := (line_of_unwaited (unwaited_present u c _)).trans (by simp [u, p, Port.line])
  split
  · refine Eq.trans ?_ hv
    simp [State.mapBindings, Port.line]
  · exact hv

theorem line_pump (n : Nat) : ((s.pump c n).port c).line = (s.port c).line := by
  induction n generalizing s with
  | zero => rfl
  | succ n ih =>
    unfold State.pump
    dsimp only
    split
    · rfl
    · split
      · split
        · rfl
        · exact (ih _).trans (line_transmit s c _ false)
      · split
        · split
          · exact (ih _).trans (line_transmit s c _ true)
          · rfl
        · rfl

theorem line_startPair : ((s.startPair c).port c).line = (s.port c).line := by
  unfold State.startPair
  extract_lets pid
  exact (line_of_unwaited (unwaited_present _ c _)).trans (by simp [Port.line])

theorem line_flushWait : ((s.flushWait c).port c).line = (s.port c).line := by
  unfold State.flushWait
  dsimp only
  split
  · refine (apply_foldl (fun s : State => (s.port c).line) _ (fun s w => line_of_unwaited (unwaited_accept s c w)) _ _).trans ?_
    simp [Port.line]
  · rfl

/-- A port that enters UP begins its windows anew and keeps its peer's session (R252). -/
theorem line_enterUp : ((s.enterUp c).port c).line =
    (.up, 0, (s.port c).psess, (s.port c).linkUp, (s.port c).txReady, (s.port c).linkPs) := by
  unfold State.enterUp
  extract_lets p q roles again u v
  have hu : (u.port c).line = (.up, 0, (s.port c).psess, (s.port c).linkUp, (s.port c).txReady, (s.port c).linkPs) := by
    simp only [u, port_setPort_self, Port.line, q]
    split <;> rfl
  refine (line_pump v c 192).trans (Eq.trans ?_ hu)
  unfold v
  split
  · exact line_startPair u c
  · rfl

/-- A free message goes to the line at once where the line takes it. -/
theorem presentFree_of_ready {body : LinkBody} (hstate : s.pwr.state ≠ .pdStop) (hup : (s.port c).linkUp = true) (hready : (s.port c).txReady = true)
    (hwait : (s.port c).wait = []) : s.presentFree c body = s.accept c { body := body } := by
  simp [State.presentFree, State.present, hstate, hup, hready, hwait]

end

/-! ## Sessions (R252) -/

theorem execHelloTick_of_hello (clp : Nat) (s : State) (hst : (s.port clp).st = .hello) (hsealed : s.isSealed = false)
    (hlinkUp : (s.port clp).linkUp = true) (htxReady : (s.port clp).txReady = true) (hwait : (s.port clp).wait = []) (hstate : s.pwr.state ≠ .pdStop) :
    ∃ t, execHelloTick clp s = .next t ∧ .clp clp (s.linkMessage clp (.hello (s.get Reg.KILN_ID_VERSION 0) (s.offeredCr clp)
      (s.on Reg.CCD_GCTRL_DOLMODE 0)) (s.port clp).txNext false) ∈ t.pulses := by
  rw [execHelloTick, if_pos ⟨hst, hlinkUp, by simp [hsealed]⟩, presentFree_of_ready s clp hstate hlinkUp htxReady hwait]
  exact ⟨_, rfl, by simp [State.accept]⟩

theorem execHello_enters_up (clp rel cr : Nat) (h : ClpHdr) (dol : Bool) (s : State) (hst : (s.port clp).st = .hello) (hsealed : s.isSealed = false)
    (hvalid : s.helloValid clp h cr = true) (hseen : h.seen = true) (hpsess : h.psess = (s.port clp).sess) (hunseq : (s.port clp).unseq < 2) :
    ∃ t, execHello clp h rel cr dol s = .next t ∧ (t.port clp).st = .up ∧ (t.port clp).rxNext = 0 ∧ (t.port clp).psess = h.sess := by
  rw [execHello, State.unsequenced, if_neg (by omega)]
  generalize hu : s.modPort clp (fun p => { p with unseq := p.unseq + 1 }) = u
  have hport : u.port clp = { s.port clp with unseq := (s.port clp).unseq + 1 } := by rw [← hu, port_modPort_self]
  have hsealed' : u.isSealed = false := hu ▸ hsealed
  have hvalid' : u.helloValid clp h cr = true := hu ▸ hvalid
  refine ⟨_, rfl, ?_⟩
  unfold State.helloIn
  extract_lets p reply v
  have hpst : p.st = .hello := by simp only [p, hport, hst]
  have hpsess' : h.psess = p.sess := by simp only [p, hport, hpsess]
  rw [if_neg (by rw [hsealed']; decide), hpst]
  dsimp only
  rw [if_neg (by rw [hvalid']; decide), if_pos ⟨hseen, hpsess'⟩]
  have hreply : ((reply v).port clp).line = (v.port clp).line := line_of_unwaited (unwaited_present v clp _)
  have hline := line_enterUp (reply v) clp
  simp only [Port.line, Prod.mk.injEq] at hline hreply
  refine ⟨hline.1, hline.2.1, hline.2.2.1.trans (hreply.2.2.1.trans ?_)⟩
  simp [v]

theorem execLinkUpChange_records (clp ps : Nat) (up ready : Bool) (s : State) : ∃ t, execLinkUpChange clp ⟨up, ready⟩ ps s = .next t ∧
    (t.port clp).linkUp = up ∧ (t.port clp).txReady = ready ∧ (t.port clp).linkPs = wrap 2 ps ∧ (t.port clp).st = (s.port clp).st := by
  have hline := (line_pump (((s.modPort clp (fun p => { p with linkUp := up, txReady := ready, linkPs := wrap 2 ps })).flushWait clp)) clp 192).trans (line_flushWait _ clp)
  rw [port_modPort_self] at hline
  simp only [Port.line, Prod.mk.injEq] at hline
  obtain ⟨hst, -, -, hup, hready, hps⟩ := hline
  exact ⟨_, rfl, hup, hready, hps, hst⟩

theorem execCcdRestart_of_disputed (clp ten tag : Nat) (s : State) (hadmits : s.admits ten tag none = true)
    (hst : (s.port clp).st = .disputed ∨ (s.port clp).st = .refused) : ∃ t, execCcdRestart clp ten tag s = .next t ∧ (t.port clp).st = .hello ∧
      (t.port clp).sess = nextSkipZero 8 (s.port clp).sess ∧ (t.port clp).psess = 0 ∧ .ghpRs (wrap 6 tag) 0 0 ∈ t.pulses := by
  simp [execCcdRestart, hostWrite_of_admits hadmits, State.portRestart, hst, State.newSession]

/-! ## Heartbeats and retransmission (R255, R257) -/

/-- A message that a port hears and that carries no number is acted on once the acknowledgement it carries is taken (R257). -/
theorem linkIn_of_hears {s : State} {clp : Nat} {h : ClpHdr} (hhears : s.linkHears clp h = true) {body : LinkBody} (hbody : body.sequenced = false)
    (answer : Bool) (act : State → State) :
    s.linkIn clp h body answer act = act ((s.modPort clp (fun p => { p with unseq := p.unseq + 1 })).takeAck clp h) := by
  simp only [State.linkHears, State.linkSession, Bool.and_eq_true, Bool.not_eq_true', beq_iff_eq, decide_eq_true_eq] at hhears
  obtain ⟨⟨⟨hsealed, hst⟩, hsession⟩, hunseq⟩ := hhears
  rw [State.linkIn, hbody, if_neg (by decide), State.unsequenced, if_neg (by omega), State.linkTake]
  generalize hu : s.modPort clp (fun p => { p with unseq := p.unseq + 1 }) = u
  have hport : u.port clp = { s.port clp with unseq := (s.port clp).unseq + 1 } := by rw [← hu, port_modPort_self]
  have hsealed' : u.isSealed = false := hu ▸ hsealed
  have hsession' : (u.port clp).session h = true := by rw [hport]; exact hsession
  rw [if_neg (by rw [hsealed']; decide), hport, hst]
  dsimp only
  rw [← hport, if_pos hsession', hbody]
  rfl

theorem execHeartbeat_hears (clp : Nat) (h : ClpHdr) (s : State) (hhears : s.linkHears clp h = true) : ∃ t, execHeartbeat clp h false s = .next t ∧
    (t.port clp).heard = true ∧ (t.port clp).heardInRounds = true := by
  rw [execHeartbeat, linkIn_of_hears hhears (body := .heartbeat false) rfl]
  exact ⟨_, rfl, by simp, by simp⟩

theorem execHeartbeat_of_sealed_peer (clp : Nat) (h : ClpHdr) (s : State) (hhears : s.linkHears clp h = true) :
    ∃ t, execHeartbeat clp h true s = .next t ∧ (t.port clp).st = .hello ∧ (t.port clp).psess = 0 := by
  rw [execHeartbeat, linkIn_of_hears hhears (body := .heartbeat true) rfl]
  exact ⟨_, rfl, by simp [State.newSession], by simp [State.newSession]⟩

theorem execHeartbeatTick_sends (clp : Nat) (s : State) (hst : (s.port clp).st = .up ∨ (s.port clp).st = .disputed)
    (hlinkUp : (s.port clp).linkUp = true) (htxReady : (s.port clp).txReady = true) (hwait : (s.port clp).wait = []) (hstate : s.pwr.state ≠ .pdStop)
    (hrung : ¬ (s.rcv.rung = 5 ∧ s.rcv.st = .reset)) : ∃ t, execHeartbeatTick clp s = .next t ∧
      .clp clp (s.linkMessage clp (.heartbeat s.isSealed) (s.port clp).txNext false) ∈ t.pulses ∧ (t.port clp).ackDue = false := by
  simp only [execHeartbeatTick]
  rw [if_pos ⟨hst, hrung⟩, presentFree_of_ready s clp hstate hlinkUp htxReady hwait]
  exact ⟨_, rfl, by simp [State.accept], by simp [State.accept]⟩

theorem execRetransmitTimeout_of_round (clp : Nat) (s : State) (hst : (s.port clp).st = .up) (hunacked : (s.port clp).unacked ≠ [])
    (hsealed : s.isSealed = false) (hrounds : (s.port clp).rounds < 8) : ∃ t, execRetransmitTimeout clp s = .next t ∧
      (t.port clp).rounds = (s.port clp).rounds + 1 ∧ (t.port clp).unacked = (s.port clp).unacked ∧ t.get Reg.CCD_EVENT_RETX clp = 1 := by
  unfold execRetransmitTimeout
  extract_lets p u v
  rw [if_neg (by simp [p, hst, hunacked, hsealed]), if_neg (by simp only [p]; omega)]
  have hport := foldl_present v clp p.unacked
  have hv : (v.port clp).unwaited = { (s.port clp).unwaited with rounds := (s.port clp).rounds + 1, heardInRounds := if p.rounds = 0 then false else p.heardInRounds } := by
    simp [v, u, p, Port.unwaited]
  have hevent : v.get Reg.CCD_EVENT_RETX clp = 1 := (get_bump_apart (by decide) _ clp 1).trans (get_raise_self _ _ clp)
  exact ⟨_, rfl, congrArg Port.rounds (hport.1.trans hv), (congrArg Port.unacked (hport.1.trans hv) :), hport.2.trans hevent⟩

/-! ## Dropped messages (R249) -/

theorem execClpMessageDropped_of_crc (clp seq : Nat) (s : State) (hst : (s.port clp).st ≠ .disabled) : ∃ t, execClpMessageDropped clp seq true s = .next t ∧
    t.get Reg.CCD_EVENT_CRC clp = 1 ∧ t.flt.queue.getLast?.map (fun m => (m.kind, m.addr)) = some (0x501, wrap 48 (wrap 16 seq)) := by
  rw [execClpMessageDropped, if_neg hst, if_pos rfl]
  refine ⟨_, rfl, ?_, by simp [State.clpFault]⟩
  have hcrc : ((s.raise Reg.CCD_EVENT_CRC clp).bump Reg.CCD_CRCCNT_COUNT clp 1).get Reg.CCD_EVENT_CRC clp = 1 :=
    (get_bump_apart (by decide) _ clp 1).trans (get_raise_self _ _ clp)
  exact hcrc

theorem execClpMessageDropped_counts (clp seq : Nat) (s : State) (hst : (s.port clp).st ≠ .disabled) (hcount : s.get Reg.CCD_DROPCNT_COUNT clp = 0) :
    ∃ t, execClpMessageDropped clp seq false s = .next t ∧ t.get Reg.CCD_DROPCNT_COUNT clp = 1 ∧ t.flt = s.flt := by
  simp [execClpMessageDropped, hst, State.linkDrop, State.bump, hcount]
  rfl

/-- Settles O31. -/
theorem linkSessionCommands : Obligations.LinkSessionCommands :=
  ⟨execHelloTick_of_hello, execHello_enters_up, execHeartbeat_hears, execHeartbeat_of_sealed_peer, execHeartbeatTick_sends,
    execRetransmitTimeout_of_round, execLinkUpChange_records, execCcdRestart_of_disputed, execClpMessageDropped_of_crc, execClpMessageDropped_counts⟩

end Sys2Proof.Machine
end

section
/-! SUPPORT. Concordance messages (R259–R270): bindings and seals, and cross-chip Folios. -/

namespace Sys2Proof.Machine

open Sys2Proof

/-! ## What a message in turn leaves of its port -/

/-- A port without its windows and buffers. -/
def Port.unwindowed (p : Port) : Port :=
  { p with unacked := [], crretIn := 0, arretIn := 0, rxNext := 0, ackDue := false, checks := [], rxPool := 0, rxAns := 0 }

/-- What a sequenced message in turn comes to: a state that differs in its port's windows alone, with RXNEXT one further (R256). -/
structure Turned (clp : Nat) (s u : State) : Prop where
  kept : Unchanged { regs := [.clp], link := true } s u
  port : (u.port clp).unwindowed = (s.port clp).unwindowed
  recalls : u.link.recalls = s.link.recalls
  rxNext : (u.port clp).rxNext = wrap 16 ((s.port clp).rxNext + 1)

theorem turned_of_inTurn {s : State} {clp : Nat} {h : ClpHdr} {body : LinkBody} {answer : Bool} (act : State → State)
    (hbody : body.sequenced = true) (hturn : s.linkInTurn clp h answer = true) : ∃ u, s.linkIn clp h body answer act = act u ∧ Turned clp s u := by
  simp only [State.linkInTurn, State.linkSession, Bool.and_eq_true, Bool.not_eq_true', beq_iff_eq, List.isEmpty_iff] at hturn
  obtain ⟨⟨⟨⟨⟨⟨hseal, hup⟩, hsess⟩, hseq⟩, hbuf⟩, hunacked⟩, hqueue⟩ := hturn
  have hin : s.linkIn clp h body answer act = (s.takeAck clp h).window clp h body answer act := by
    simp [State.linkIn, State.linkTake, hbody, hseal, hup, hsess]
  rw [hin, takeAck_of_idle h hunacked hqueue]
  have hbuf' := (bufferFree_setPort (p := { s.port clp with unacked := [], crretIn := h.crret, arretIn := h.arret }) rfl rfl).trans hbuf
  generalize hv : s.setPort clp { s.port clp with unacked := [], crretIn := h.crret, arretIn := h.arret } = v at hbuf' ⊢
  have hport : v.port clp = { s.port clp with unacked := [], crretIn := h.crret, arretIn := h.arret } := by rw [← hv, port_setPort_self]
  have hnext : wrap 16 (h.seq + 65536 - (v.port clp).rxNext) = 0 := by rw [hport]; exact hseq
  rw [State.window]
  dsimp only
  rw [if_neg (by simp [hbuf']), if_pos hnext]
  refine ⟨_, rfl, ?_, ?_, ?_, ?_⟩
  · exact (bump_blank _ _ _ _ rfl).trans ((setPort_blank _ _ _ rfl).trans (hv ▸ setPort_blank _ _ _ rfl))
  · simp [Port.unwindowed, hport]
  · rw [← hv]; rfl
  · simp [hport]

section

variable {s u : State} {clp : Nat} (h : Turned clp s u)

include h

theorem Turned.bindings : (u.port clp).bindings = (s.port clp).bindings := (congrArg Port.bindings h.port :)

theorem Turned.preps : (u.port clp).preps = (s.port clp).preps := (congrArg Port.preps h.port :)

theorem Turned.theta : (u.port clp).theta = (s.port clp).theta := (congrArg Port.theta h.port :)

theorem Turned.ready : u.linkReady clp = s.linkReady clp := by
  have hst : (u.port clp).st = (s.port clp).st := (congrArg Port.st h.port :)
  have htheta : (u.port clp).thetaValid = (s.port clp).thetaValid := (congrArg Port.thetaValid h.port :)
  rw [State.linkReady, State.linkReady, hst, htheta]

theorem Turned.matchedBinding (job slice : Nat) : (u.port clp).matchedBinding job slice = (s.port clp).matchedBinding job slice := by
  rw [Port.matchedBinding, Port.matchedBinding, h.bindings]

theorem Turned.folio (n : Nat) : u.folio n = s.folio n := folio_of_blank h.kept rfl n

end

/-! ## Bindings and seals (R259–R263) -/

theorem mem_bindings_putBinding {s : State} {clp : Nat} {b new : Binding} {P : Binding → Bool} (hb : b ∈ (s.port clp).bindings)
    (hnew : ∀ w, P { new with waiting := w } = true) : ((s.putBinding clp b new).port clp).bindings.any P = true := by
  refine List.any_eq_true.mpr ⟨{ new with waiting := new.waiting && s.lagging new }, ?_, hnew _⟩
  rw [State.putBinding, State.mapBindings, port_modPort_self]
  exact List.mem_map.mpr ⟨b, hb, by simp [Binding.isOf]⟩

theorem mem_bindings_of_matched {p : Port} {job slice : Nat} {b : Binding} (h : p.matchedBinding job slice = some b) : b ∈ p.bindings :=
  List.mem_of_find?_eq_some h

theorem execSeal_of_first (clp job epoch slice digest : Nat) (h : ClpHdr) (b : Binding) (s : State) (hturn : s.linkInTurn clp h false = true)
    (hb : (s.port clp).matchedBinding job slice = some b) (hhistory : b.history = []) : ∃ t, execSeal clp h job epoch slice digest s = .next t ∧
      (t.port clp).bindings.any (fun x => x.isOf b.job b.slice && x.history == [(epoch, digest >>> 192)] && x.newest == some digest &&
        x.highe == max b.highe epoch) = true ∧ (t.port clp).rxNext = wrap 16 ((s.port clp).rxNext + 1) := by
  obtain ⟨u, hu, hturned⟩ := turned_of_inTurn (body := .sealMsg job epoch slice digest) _ rfl hturn
  refine ⟨_, congrArg Host.Outcome.next hu, ?_⟩
  have hbu := (hturned.matchedBinding job slice).trans hb
  simp only [hbu, hhistory, List.find?_nil, or_true, if_true]
  refine ⟨mem_bindings_putBinding (mem_bindings_of_matched hbu) (fun w => by simp [Binding.isOf]), ?_⟩
  rw [← hturned.rxNext]
  simp [State.putBinding, State.mapBindings]

theorem recallEpochs_nil (s : State) (t origin rid cause : Nat) (from_ : Option (Nat × Binding)) : s.recallEpochs t [] origin rid cause from_ = (s, none) := by
  unfold State.recallEpochs
  split
  · rfl
  · have hnone : ∀ l : List Nat, l.filter ([] : List Nat).contains = [] := fun l => List.filter_eq_nil_iff.mpr (fun x _ => by simp)
    simp only [hnone, List.head?_nil]

theorem lastSealed_of_blank {F : Fields} {s u : State} (h : u.blank F = s.blank F) (hf : F.colo = false) (hr : F.has .tenant = false) (t : Nat) :
    u.lastSealed t = s.lastSealed t := by
  have hep : u.ep t = s.ep t := by rw [State.ep, State.ep, colo_of_blank h hf]
  rw [State.lastSealed, State.lastSealed, hep, get_of_blank h (f := Reg.TEN_EP_LAST_EPOCH) hr]

theorem execRecall_without_dependents (clp job first last slice origin rid cause : Nat) (h : ClpHdr) (b : Binding) (s : State)
    (hturn : s.linkInTurn clp h false = true) (hb : (s.port clp).matchedBinding job slice = some b) (hfirst : first ≤ last) (hlast : last ≤ b.highe)
    (hnew : s.link.recalls.contains (origin, rid) = false) (hdependents : s.dependents b first = []) :
    ∃ t, execRecall clp h job first last slice origin rid cause s = .next t ∧ t.link.recalls = ((origin, rid) :: s.link.recalls).take 64 ∧
      (t.port clp).bindings.any (fun x => x.isOf b.job b.slice &&
        x.history == b.history.filter (fun e => !decide (first ≤ e.1 ∧ e.1 ≤ last))) = true := by
  obtain ⟨u, hu, hturned⟩ := turned_of_inTurn (body := .recallMsg job first last slice origin rid cause) _ rfl hturn
  refine ⟨_, congrArg Host.Outcome.next hu, ?_⟩
  have hbu := (hturned.matchedBinding job slice).trans hb
  have hdep : u.dependents b first = [] := by
    rw [← hdependents]
    unfold State.dependents
    rw [get_of_blank hturned.kept (f := Reg.CCD_GCTRL_DEPG) rfl, lastSealed_of_blank hturned.kept rfl rfl]
  have hnone : ∀ v : State, v.dependents b first = [] → v.recallDependents clp b first origin rid 2 = (v, []) := fun v hv => by
    simp [State.recallDependents, hv, recallEpochs_nil]
  simp only [hbu]
  rw [if_neg (by omega), hturned.recalls, if_neg (by rw [hnew]; decide)]
  rw [hnone]
  · exact ⟨rfl, mem_bindings_putBinding (mem_bindings_of_matched hbu) (fun w => by simp [Binding.isOf])⟩
  · exact hdep

theorem execRole_of_fit (clp job slice pslice : Nat) (withdraw : Bool) (h : ClpHdr) (s : State) (hturn : s.linkInTurn clp h false = true)
    (hfits : (s.port clp).bindings.any (fun b => b.job == job && b.slice == pslice && b.pslice == slice) = true) :
    ∃ t, execRole clp h job slice pslice withdraw s = .next t ∧ (t.port clp).bindings = (s.port clp).bindings.map (fun b =>
      if (fun b => b.job == job && b.slice == pslice && b.pslice == slice) b then { b with st := if withdraw then .declared else .matched } else b) := by
  obtain ⟨u, hu, hturned⟩ := turned_of_inTurn (body := .role job slice pslice withdraw) _ rfl hturn
  refine ⟨_, congrArg Host.Outcome.next hu, ?_⟩
  rw [← hturned.bindings] at hfits ⊢
  cases withdraw
  · simp [hfits, State.mapBindings]
  · simp [State.mapBindings]

/-! ## Cross-chip Folios (R269, R270) -/

theorem execFprep_of_part (clp folio nact : Nat) (acts : List Flit) (h : ClpHdr) (s : State) (hturn : s.linkInTurn clp h false = true) :
    ∃ t, execFprep clp h folio 0 false nact acts s = .next t ∧ (folio, acts.map Act.ofFlit) ∈ (t.port clp).preps := by
  obtain ⟨u, hu, -⟩ := turned_of_inTurn (body := .fprep folio 0 false acts.length nact ((acts.getD 0 0).toNat) ((acts.getD 1 0).toNat)) _ rfl hturn
  refine ⟨_, congrArg Host.Outcome.next hu, ?_⟩
  simp

/-- What the Kiln proposes for a Folio that a peer has prepared (R270). -/
def peerProposal (clp folio : Nat) (acts : List Act) : Proposal :=
  let onLink := acts.map (fun a => { a with region := 0x7FF, col := 4 })
  { acts := onLink, urgent := false, origin := 5, xchip := true, peernum := folio, peer := some clp }

theorem folio_enqueue_shape (s : State) (p : Proposal) : ∃ f, (s.enqueue p none).2.folio s.fl.next = some f ∧ f.urgent = p.urgent ∧
    (f.peernum, f.link, f.xchip) = (p.peernum, p.peer, p.xchip) :=
  ⟨_, tget_tput_self _ _ _, rfl, rfl⟩

theorem execFprep_of_last (clp folio : Nat) (acts : List Flit) (h : ClpHdr) (s : State) (hturn : s.linkInTurn clp h false = true)
    (htheta : (s.port clp).thetaValid = true) (hacts : acts ≠ []) (hall : (acts.map Act.ofFlit).all (fun a => a.act == 0x30 || a.act == 0x31) = true)
    (hcolliding : s.collidingFolio clp = none) (hplace : s.hasPlace false = true) (hwaiting : s.fl.waiting = []) :
    ∃ t, execFprep clp h folio 0 true acts.length acts s = .next t ∧
      (t.folio s.fl.next).map (fun f => (f.peernum, f.link, f.xchip)) = some (folio, some clp, true) := by
  obtain ⟨u, hu, hturned⟩ := turned_of_inTurn (body := .fprep folio 0 true acts.length acts.length ((acts.getD 0 0).toNat) ((acts.getD 1 0).toNat)) _ rfl hturn
  refine ⟨_, congrArg Host.Outcome.next hu, ?_⟩
  have hready : u.linkReady clp = true := by
    rw [hturned.ready]
    simp only [State.linkInTurn, State.linkSession, Bool.and_eq_true, beq_iff_eq] at hturn
    simp [State.linkReady, hturn, htheta]
  have hfl : u.fl = s.fl := fl_of_blank hturned.kept rfl
  have hcolliding' : u.collidingFolio clp = none := by
    have hkeys : ∀ a, u.actKeys a = s.actKeys a := fun a => by
      rw [State.actKeys, State.actKeys, State.columnsOfTenant, State.columnsOfTenant, master_of_blank hturned.kept rfl]
    rw [← hcolliding, State.collidingFolio, State.collidingFolio, State.folios, State.folios, hfl]
    simp only [State.folioKeys, funext hkeys]
  have hplace' : u.hasPlace false = true := by
    rw [← hplace, State.hasPlace, State.hasPlace, State.queuedCount, State.queuedCount, State.folios, State.folios, hfl, pwr_of_blank hturned.kept rfl]
  have hseal : u.isSealed = false := (isSealed_of_blank hturned.kept rfl rfl).trans (isSealed_of_inTurn hturn)
  simp only [if_true, List.nil_append]
  generalize hv : u.setPort clp { u.port clp with preps := (u.port clp).preps.filter (fun e => e.1 != folio) } = v
  have hready' : v.linkReady clp = true := by
    rw [← hready, ← hv, State.linkReady, State.linkReady, port_setPort_self]
  have hcolliding'' : v.collidingFolio clp = none := hv ▸ hcolliding'
  have hnext : v.fl = s.fl := by rw [← hfl, ← hv]; rfl
  have hall' : ¬ (acts.map Act.ofFlit).any (fun a => a.act != 0x30 && a.act != 0x31) = true := by
    simpa [Decidable.or_iff_not_imp_left] using hall
  rw [State.prepared, if_neg (by rw [hready']; decide), if_neg (by simp only [List.length_map, ne_eq, not_true, List.map_eq_nil_iff, hacts, false_or]; exact hall'), hcolliding'']
  dsimp only
  rw [kilnPropose_of_place (by rw [← hv]; exact hseal) (by rw [← hv]; exact hplace') (by rw [hnext]; exact hwaiting) (by simp)]
  dsimp only
  obtain ⟨g, hg, hurgent, hshape⟩ := folio_enqueue_shape v (peerProposal clp folio (acts.map Act.ofFlit))
  change Option.map _ ((State.urgentVoids (v.enqueue (peerProposal clp folio (acts.map Act.ofFlit)) none).2 v.fl.next).folio s.fl.next) = _
  rw [urgentVoids_of_not_urgent hg hurgent, ← hnext, hg]
  exact congrArg some hshape

/-- A Folio to which a participant owes its yes is not decided (R179). -/
theorem tryDecide_of_owing {s : State} {n p : Nat} {f : FolioRec} (hf : s.folio n = some f) (hp : f.parts.contains p = true)
    (hyes : f.yes.contains p = false) (hcoord : f.coordinator.contains p = false) : s.tryDecide n = s := by
  have hall : ¬ f.allYes = true := fun h => by
    have := List.all_eq_true.mp h p (List.contains_iff_mem.mp hp)
    rw [hyes, hcoord] at this
    exact absurd this (by decide)
  rw [State.tryDecide, hf]
  exact if_neg (fun h => hall h.2.1)

theorem execFvote_of_owing (clp folio lnum other : Nat) (f : FolioRec) (h : ClpHdr) (answer : Bool) (s : State)
    (hturn : s.linkInTurn clp h answer = true) (hfolio : s.folio folio = some f) (hnumber : f.number = folio) (hst : f.st = .prepared)
    (hpeernum : f.peernum = 0) (hpart : f.parts.contains (peerPart clp) = true) (hfirst : f.yes.contains (peerPart clp) = false)
    (hother : f.parts.contains other = true) (howing : f.yes.contains other = false) (hne : other ≠ peerPart clp) :
    ∃ t, execFvote clp h folio 0 lnum answer s = .next t ∧ (t.folio folio).map (·.yes) = some (f.yes ++ [peerPart clp]) ∧ (t.port clp).strikes = [] := by
  subst hnumber
  obtain ⟨u, hu, hturned⟩ := turned_of_inTurn (body := .fvote f.number 0 lnum) _ rfl hturn
  refine ⟨_, congrArg Host.Outcome.next hu, ?_⟩
  dsimp only
  generalize hv : u.modPort clp (fun p => { p with strikes := [] }) = v
  have hfolio' : v.folio f.number = some f := by rw [← hv]; exact (hturned.folio f.number).trans hfolio
  have hstrikes : (v.port clp).strikes = [] := by rw [← hv, port_modPort_self]
  rw [hfolio']
  dsimp only
  rw [if_neg (by simp [hst, hpeernum, List.contains_iff_mem.mp hpart]), if_pos rfl, if_neg (by rw [hfirst]; decide)]
  rw [tryDecide_of_owing (folio_setFolio_self v { f with yes := f.yes ++ [peerPart clp] }) hother]
  · exact ⟨congrArg (Option.map (·.yes)) (folio_setFolio_self v { f with yes := f.yes ++ [peerPart clp] }), hstrikes⟩
  · simpa [hne] using howing
  · simp [FolioRec.coordinator, hpeernum]

/-- A Folio that is voided before it is decided stands in the log as VOID with its reason (R179). -/
theorem voidFolio_of_undecided {s : State} {f : FolioRec} (hf : s.folio f.number = some f) (hst : f.st = .queued ∨ f.st = .prepared)
    (horigin : f.origin = 0) (reason voidsrc : Nat) :
    (s.voidFolio f.number reason voidsrc).fl = (s.setFolio { f with st := .void, vreason := reason, voidsrc := voidsrc, gtvote := s.gt }).fl ∧
      (s.voidFolio f.number reason voidsrc).get Reg.FOLIO_EVENT_VOID 0 = 1 := by
  unfold State.voidFolio
  rw [hf]
  dsimp -zeta only
  rw [if_pos hst]
  extract_lets told u v w x
  have hv : v.fl = u.fl := by
    unfold v
    split <;> rfl
  have hw : w.fl = v.fl ∧ w.get Reg.FOLIO_EVENT_VOID 0 = 1 := ⟨rfl, (get_bump_apart (by decide) _ 0 1).trans (get_raise_self _ _ 0)⟩
  have hx : x.fl = w.fl ∧ x.get Reg.FOLIO_EVENT_VOID 0 = w.get Reg.FOLIO_EVENT_VOID 0 := by
    unfold x
    split
    · have hlink := linkVoid_blank (F := { link := true, pulses := true, regs := [.clp] }) (w.raise Reg.FOLIO_EVENT_XVOID 0) { f with vreason := reason } rfl rfl rfl
      exact ⟨(fl_of_blank hlink rfl :), (get_of_blank hlink (f := Reg.FOLIO_EVENT_VOID) rfl 0).trans (get_raise_apart (by decide) w 0)⟩
    · exact ⟨rfl, rfl⟩
  have ho : (x.voidOrigin f reason).blank { flt := true, regs := [.flt] } = x.blank { flt := true, regs := [.flt] } := by
    simp only [State.voidOrigin, horigin]
    apply reactVoid_blank <;> rfl
  exact ⟨(fl_of_blank ho rfl).trans (hx.1.trans (hw.1.trans hv)), (get_of_blank ho (f := Reg.FOLIO_EVENT_VOID) rfl 0).trans (hx.2.trans hw.2)⟩

theorem folio_admitWaiting_voidFolio {s : State} {f : FolioRec} (hf : s.folio f.number = some f) (hst : f.st = .queued ∨ f.st = .prepared)
    (horigin : f.origin = 0) (hwaiting : s.fl.waiting = []) (reason voidsrc : Nat) :
    ((s.voidFolio f.number reason voidsrc).admitWaiting).folio f.number =
        some { f with st := .void, vreason := reason, voidsrc := voidsrc, gtvote := s.gt } ∧
      ((s.voidFolio f.number reason voidsrc).admitWaiting).get Reg.FOLIO_EVENT_VOID 0 = 1 := by
  obtain ⟨hfl, hget⟩ := voidFolio_of_undecided hf hst horigin reason voidsrc
  rw [admitWaiting_of_none (by rw [hfl]; exact hwaiting)]
  exact ⟨(folio_congr hfl f.number).trans (folio_setFolio_self s { f with st := .void, vreason := reason, voidsrc := voidsrc, gtvote := s.gt }), hget⟩

theorem execFvote_of_void (clp folio code lnum : Nat) (f : FolioRec) (h : ClpHdr) (answer : Bool) (s : State)
    (hturn : s.linkInTurn clp h answer = true) (hfolio : s.folio folio = some f) (hnumber : f.number = folio) (hst : f.st = .prepared)
    (hpeernum : f.peernum = 0) (hparts : f.parts = [peerPart clp]) (horigin : f.origin = 0) (hcode : code ≠ 0) (hwaiting : s.fl.waiting = []) :
    ∃ t, execFvote clp h folio code lnum answer s = .next t ∧ (t.folio folio).map (fun x => (x.st, x.vreason, x.voidlink)) = some (.void, code, clp) ∧
      t.get Reg.FOLIO_EVENT_VOID 0 = 1 := by
  subst hnumber
  obtain ⟨u, hu, hturned⟩ := turned_of_inTurn (body := .fvote f.number code lnum) _ rfl hturn
  refine ⟨_, congrArg Host.Outcome.next hu, ?_⟩
  dsimp only
  generalize hv : u.modPort clp (fun p => { p with strikes := [] }) = v
  have hfl : v.fl = s.fl := by rw [← hv]; exact (fl_of_blank hturned.kept rfl : u.fl = s.fl)
  rw [(folio_congr hfl f.number).trans hfolio]
  dsimp only
  rw [if_neg (by simp [hst, hpeernum, hparts]), if_neg hcode]
  obtain ⟨hvoid, hget⟩ := folio_admitWaiting_voidFolio (s := v.setFolio { f with voidlink := clp }) (f := { f with voidlink := clp })
    (folio_setFolio_self v { f with voidlink := clp }) (.inr hst) horigin (by rw [← hwaiting, ← hfl]; rfl) code 0x7FE
  exact ⟨congrArg (Option.map (fun x : FolioRec => (x.st, x.vreason, x.voidlink))) hvoid, hget⟩

theorem execFseal_of_answered (clp folio t0 : Nat) (replay : Bool) (f : FolioRec) (h : ClpHdr) (s : State) (hturn : s.linkInTurn clp h false = true)
    (hfind : s.folios.find? (fun f => f.link == some clp && f.peernum == folio && f.st == .prepared && (f.answered || f.xvoid)) = some f)
    (howing : f.parts.all f.coordinator.contains = false) : ∃ t, execFseal clp h folio t0 replay s = .next t ∧
      (t.folio f.number).map (fun x => (x.st, x.sealt)) = some (.decided, s.localT clp t0) := by
  obtain ⟨u, hu, hturned⟩ := turned_of_inTurn (body := .fseal folio t0 replay) _ rfl hturn
  refine ⟨_, congrArg Host.Outcome.next hu, ?_⟩
  have hfolios : u.folios = s.folios := by rw [State.folios, State.folios, fl_of_blank hturned.kept rfl]
  have htheta : u.localT clp t0 = s.localT clp t0 := by rw [State.localT, State.localT, hturned.theta]
  obtain ⟨p, hp, hdone⟩ := List.all_eq_false.mp howing
  rw [hfolios, hfind, htheta]
  dsimp only
  obtain ⟨v, hv, hlog⟩ := exists_decide_eq_tryApplied (if s.localT clp t0 < u.gt + 48 then u.raise Reg.CCD_EVENT_LATE clp else u) f (s.localT clp t0)
  rw [hv, tryApplied_of_owing hlog (List.contains_iff_mem.mpr hp) (by simpa using hdone), hlog]
  rfl

theorem execFvoid_of_undecided (clp folio reason : Nat) (f : FolioRec) (h : ClpHdr) (s : State) (hturn : s.linkInTurn clp h false = true)
    (hfind : (s.peerFolios clp).find? (fun f => f.peernum == folio) = some f) (horigin : f.origin = 0) (hnumber : s.folio f.number = some f)
    (hwaiting : s.fl.waiting = []) : ∃ t, execFvoid clp h folio reason s = .next t ∧
      (t.folio f.number).map (fun x => (x.st, x.vreason)) = some (.void, reason) ∧ t.get Reg.FOLIO_EVENT_VOID 0 = 1 := by
  obtain ⟨u, hu, hturned⟩ := turned_of_inTurn (body := .fvoid folio reason) _ rfl hturn
  refine ⟨_, congrArg Host.Outcome.next hu, ?_⟩
  have hfl : u.fl = s.fl := fl_of_blank hturned.kept rfl
  have hfolios : u.peerFolios clp = s.peerFolios clp := by rw [State.peerFolios, State.peerFolios, State.folios, State.folios, hfl]
  have hst : f.st = .queued ∨ f.st = .prepared := by
    have := (List.mem_filter.mp (List.mem_of_find?_eq_some hfind)).2
    simp only [Bool.and_eq_true, Bool.or_eq_true, beq_iff_eq] at this
    exact this.2
  rw [hfolios, hfind]
  dsimp only
  rw [State.voidPeerFolio, (folio_congr hfl f.number).trans hnumber]
  obtain ⟨hvoid, hget⟩ := folio_admitWaiting_voidFolio (s := u.setFolio { f with link := none }) (f := { f with link := none })
    (folio_setFolio_self u { f with link := none }) hst horigin (by rw [← hwaiting, ← hfl]; rfl) reason 0x7FE
  exact ⟨congrArg (Option.map (fun x : FolioRec => (x.st, x.vreason))) hvoid, hget⟩

/-- Settles O32. -/
theorem concordanceMessages : Obligations.ConcordanceMessages :=
  ⟨execSeal_of_first, execRecall_without_dependents, execRole_of_fit, execFprep_of_part, execFprep_of_last, execFvote_of_owing, execFvote_of_void,
    execFseal_of_answered, execFvoid_of_undecided⟩

end Sys2Proof.Machine
end

section
/-! SUPPORT. Concordance ports (R252–R278): the clock pair, disputes, loss, and the requests for cross-chip Folios. -/

namespace Sys2Proof.Machine

open Sys2Proof

theorem port_congr {s t : State} (h : t.link = s.link) (c : Nat) : t.port c = s.port c := by simp [State.port, h]

/-! ## The clock pair (R265, R266) -/

/-- A message that an idle port hears is acted on with its credits taken, and no more. -/
theorem exists_linkIn_of_idle {s : State} {clp : Nat} {h : ClpHdr} (hhears : s.linkHears clp h = true) (hunacked : (s.port clp).unacked = [])
    (hqueue : (s.port clp).queue = []) {body : LinkBody} (hbody : body.sequenced = false) (answer : Bool) (act : State → State) :
    ∃ u, s.linkIn clp h body answer act = act u ∧ Unchanged { link := true } s u ∧
      u.port clp = { s.port clp with unseq := (s.port clp).unseq + 1, unacked := [], crretIn := h.crret, arretIn := h.arret } := by
  rw [linkIn_of_hears hhears hbody, takeAck_of_idle h (by simpa using hunacked) (by simpa using hqueue)]
  exact ⟨_, rfl, (setPort_blank _ _ _ rfl).trans (modPort_blank _ _ _ rfl), by simp⟩

theorem port_keepPair (s : State) (c : Nat) (theta : Int) (delta pid stamp : Nat) : (s.keepPair c theta delta pid stamp).port c =
    { s.port c with theta := theta, delta := delta, pairGt := s.gt, pairKept := true, thetaValid := true } := by
  have hlink : ∀ u : State, (u.tracePair c pid stamp theta delta).link = u.link := fun u =>
    link_of_blank (F := { dbg := true }) (by apply tracePair_blank; rfl) rfl
  have hport : (s.keepPair c theta delta pid stamp).port c =
      (s.modPort c (fun p => { p with theta := theta, delta := delta, pairGt := s.gt, pairKept := true, thetaValid := true })).port c :=
    port_congr (hlink _) c
  rw [hport, port_modPort_self]

/-- A view of a port that waiting for the line does not touch is kept where a free message is presented. -/
theorem view_presentFree {β : Type} (view : Port → β) (h : ∀ p : Port, view p.unwaited = view p) (s : State) (c : Nat) (body : LinkBody) :
    view ((s.presentFree c body).port c) = view (s.port c) :=
  (h _).symm.trans ((congrArg view (unwaited_present s c { body := body })).trans (h _))

/-- Only the first message of a pair keeps the instant at which it leaves. -/
theorem pairT1_presentFree (s : State) (c pid t1 t2 t3 theta delta : Nat) :
    ((s.presentFree c (.tpair 2 pid t1 t2 t3 theta delta)).port c).pairT1 = (s.port c).pairT1 := by
  unfold State.presentFree State.present
  dsimp only
  split
  · rfl
  · split <;> simp [State.accept]

theorem execTpair_of_first (clp pid t1 t2 t3 theta delta : Nat) (h : ClpHdr) (s : State) (hhears : s.linkHears clp h = true) :
    ∃ t, execTpair clp h 0 pid t1 t2 t3 theta delta s = .next t ∧ (t.port clp).pairWait = some pid := by
  rw [execTpair, linkIn_of_hears hhears (body := .tpair 0 pid t1 t2 t3 theta delta) rfl]
  refine ⟨_, rfl, ?_⟩
  rw [if_pos (by decide)]
  rw [view_presentFree Port.pairWait (by intro; rfl), port_setPort_self]

theorem execTpair_of_reply (clp pid t1 t2 t3 theta delta : Nat) (h : ClpHdr) (s : State) (hhears : s.linkHears clp h = true)
    (hunacked : (s.port clp).unacked = []) (hqueue : (s.port clp).queue = []) (hpairT1 : (s.port clp).pairT1 = some t1)
    (hpairId : (s.port clp).pairId = pid)
    (hdelta : (Int.ofNat s.gt - Int.ofNat t1) - (Int.ofNat t3 - Int.ofNat t2) ≤ Int.ofNat (s.get Reg.CCD_TPCTRL_TPMAX 0)) :
    ∃ t, execTpair clp h 1 pid t1 t2 t3 theta delta s = .next t ∧
      (t.port clp).theta = (((Int.ofNat t2 - Int.ofNat t1) + (Int.ofNat t3 - Int.ofNat s.gt)) / 2) ∧ (t.port clp).thetaValid = true ∧
      (t.port clp).pairT1 = none := by
  obtain ⟨u, hu, hkept, hport⟩ := exists_linkIn_of_idle hhears hunacked hqueue (body := .tpair 1 pid t1 t2 t3 theta delta) rfl false _
  refine ⟨_, congrArg Host.Outcome.next hu, ?_⟩
  have hgt : u.gt = s.gt := gt_of_blank hkept rfl
  have hmax : u.get Reg.CCD_TPCTRL_TPMAX 0 = s.get Reg.CCD_TPCTRL_TPMAX 0 := get_of_blank hkept rfl 0
  dsimp only
  rw [if_neg (by decide), if_pos (by decide), if_pos (by simp [hport, hpairT1, hpairId])]
  generalize hv : u.setPort clp { u.port clp with pairT1 := none } = v
  have hvgt : v.gt = s.gt := by rw [← hv, ← hgt]; rfl
  have hvmax : v.get Reg.CCD_TPCTRL_TPMAX 0 = s.get Reg.CCD_TPCTRL_TPMAX 0 := by rw [← hv, ← hmax]; rfl
  have hvT1 : (v.port clp).pairT1 = none := by rw [← hv, port_setPort_self]
  rw [hvgt, hvmax, if_pos hdelta]
  refine ⟨?_, ?_, ?_⟩
  · rw [view_presentFree Port.theta (by intro; rfl), port_keepPair]
  · rw [view_presentFree Port.thetaValid (by intro; rfl), port_keepPair]
  · rw [pairT1_presentFree, port_keepPair]
    exact hvT1

theorem execTpair_of_result (clp pid t1 t2 t3 theta delta : Nat) (h : ClpHdr) (s : State) (hhears : s.linkHears clp h = true)
    (hunacked : (s.port clp).unacked = []) (hqueue : (s.port clp).queue = []) (hpairWait : (s.port clp).pairWait = some pid)
    (hdelta : delta ≤ s.get Reg.CCD_TPCTRL_TPMAX 0) : ∃ t, execTpair clp h 2 pid t1 t2 t3 theta delta s = .next t ∧
      (t.port clp).theta = - signed 64 theta ∧ (t.port clp).delta = delta ∧ (t.port clp).thetaValid = true ∧ (t.port clp).pairWait = none := by
  obtain ⟨u, hu, hkept, hport⟩ := exists_linkIn_of_idle hhears hunacked hqueue (body := .tpair 2 pid t1 t2 t3 theta delta) rfl false _
  refine ⟨_, congrArg Host.Outcome.next hu, ?_⟩
  have hmax : u.get Reg.CCD_TPCTRL_TPMAX 0 = s.get Reg.CCD_TPCTRL_TPMAX 0 := get_of_blank hkept rfl 0
  dsimp only
  rw [if_neg (by decide), if_neg (by decide), if_pos (by decide), hmax, if_pos ⟨by rw [hport]; exact hpairWait, hdelta⟩, port_keepPair]
  simp

theorem execTpairTick_of_primary (clp : Nat) (s : State) (hst : (s.port clp).st = .up) (hprimary : s.isPrimary clp = true)
    (hsealed : s.isSealed = false) (hlinkUp : (s.port clp).linkUp = true) (htxReady : (s.port clp).txReady = true)
    (hwait : (s.port clp).wait = []) (hstate : s.pwr.state ≠ .pdStop) : ∃ t, execTpairTick clp s = .next t ∧ (t.port clp).pairT1 = some s.gt ∧
      (t.port clp).pairId = wrap 8 ((s.port clp).pairId + 1) := by
  rw [execTpairTick, if_pos ⟨hst, hprimary, by simp [hsealed]⟩, State.startPair]
  rw [presentFree_of_ready _ clp (by exact hstate) (by simpa using hlinkUp) (by simpa using htxReady) (by simpa using hwait)]
  refine ⟨_, rfl, ?_⟩
  simp [State.accept]
  rfl

theorem execTpairTimeout_ends (clp : Nat) (s : State) : ∃ t, execTpairTimeout clp s = .next t ∧ (t.port clp).pairT1 = none ∧
    (t.port clp).pairWait = none := by
  simp [execTpairTimeout]

theorem execThetaExpiry_keeps_theta (clp : Nat) (s : State) : ∃ t, execThetaExpiry clp s = .next t ∧ (t.port clp).thetaValid = false ∧
    (t.port clp).theta = (s.port clp).theta := by
  simp [execThetaExpiry]

/-! ## Disputes and loss (R252, R270, R274, R275) -/

theorem execDispute_of_heard (clp cause job ref ev1 ev2 : Nat) (h : ClpHdr) (s : State) (hhears : s.linkHears clp h = true) :
    ∃ t, execDispute clp h cause job ref ev1 ev2 s = .next t ∧ (t.port clp).st = .disputed ∧ (t.port clp).dcause = 7 ∧
      (t.port clp).disp.seq = h.seq ∧ t.get Reg.CCD_EVENT_DISPUTE clp = 1 := by
  rw [execDispute, linkIn_of_hears hhears (body := .dispute cause job ref ev1 ev2) rfl]
  refine ⟨_, rfl, ?_⟩
  generalize (s.modPort clp (fun p => { p with unseq := p.unseq + 1 })).takeAck clp h = u
  have hraised : ∀ a : State, (a.raise Reg.CCD_EVENT_DISPUTE clp).get Reg.CCD_EVENT_DISPUTE clp = 1 := fun a => get_raise_self a _ clp
  unfold State.dispute
  extract_lets v w x y z
  have hport : z.port clp = y.port clp := port_raise y clp Reg.CCD_EVENT_DISPUTE clp
  have hfault : ∀ (a : State) (l : List (Nat × Nat × Nat × Nat)), (a.clpFault clp 0x503 7 l).port clp = a.port clp := fun _ _ => rfl
  have hy : (y.port clp).st = .disputed ∧ (y.port clp).dcause = 7 ∧ (y.port clp).disp.seq = h.seq := by
    simp only [y, port_modPort_self, and_self]
  dsimp only
  have hfaultGet : ∀ (a : State) (l : List (Nat × Nat × Nat × Nat)), (a.clpFault clp 0x503 7 l).get Reg.CCD_EVENT_DISPUTE clp = a.get Reg.CCD_EVENT_DISPUTE clp := fun _ _ => rfl
  rw [hfault, hport, hfaultGet]
  exact ⟨hy.1, hy.2.1, hy.2.2, hraised y⟩

theorem execDisputeResend_of_left (clp : Nat) (s : State) (hst : (s.port clp).st = .disputed) (hleft : 0 < (s.port clp).disputeLeft)
    (hsealed : s.isSealed = false) : ∃ t, execDisputeResend clp s = .next t ∧ (t.port clp).disputeLeft = (s.port clp).disputeLeft - 1 ∧
      (t.port clp).st = .disputed := by
  unfold execDisputeResend
  extract_lets p
  rw [if_pos ⟨hst, hleft, by simp [hsealed]⟩]
  refine ⟨_, rfl, ?_, ?_⟩
  · rw [view_presentFree Port.disputeLeft (by intro; rfl), port_setPort_self]
  · rw [view_presentFree Port.st (by intro; rfl), port_setPort_self]
    exact hst

theorem execPeerLoss_of_up (clp : Nat) (s : State) (hst : (s.port clp).st = .up) : ∃ t, execPeerLoss clp s = .next t ∧ (t.port clp).st = .hello ∧
    (t.port clp).psess = 0 ∧ (t.port clp).thetaValid = false := by
  simp [execPeerLoss, hst, State.newSession]

theorem execPeerLoss_of_disputed (clp : Nat) (s : State) (hst : (s.port clp).st = .disputed) : ∃ t, execPeerLoss clp s = .next t ∧
    (t.port clp).st = .disputed ∧ (t.port clp).peerGone = true := by
  simp [execPeerLoss, hst]

theorem execEpochTimeout_of_lagging (clp job slice : Nat) (b : Binding) (s : State)
    (hb : (s.port clp).bindings.find? (fun b => b.isOf job slice) = some b) (hlagging : s.lagging b = true) (hwaiting : b.waiting = false) :
    ∃ t, execEpochTimeout clp job slice s = .next t ∧ (t.port clp).bindings.any (fun x => x.isOf job slice && x.waiting) = true ∧
      t.get Reg.CCD_EVENT_EPTMO clp = 1 := by
  have hof : b.isOf job slice = true := by simpa using List.find?_some hb
  have hrec : ∀ u : State, (u.recordOf 0x1102 (kilnSrc 0x1B clp) clp job b.tenant).blank { ldg := true, regs := [.ldg] } = u.blank { ldg := true, regs := [.ldg] } :=
    fun u => recordOf_blank _ _ _ _ _ _ rfl rfl
  simp only [execEpochTimeout, hb, hlagging, hwaiting, and_self, if_true, Host.Outcome.next.injEq, exists_eq_left']
  refine ⟨?_, (get_of_blank (hrec _) (by rfl) clp).trans (get_raise_self _ _ clp)⟩
  have hport : ∀ u : State, (u.recordOf 0x1102 (kilnSrc 0x1B clp) clp job b.tenant).port clp = u.port clp := fun u =>
    port_congr (link_of_blank (hrec u) rfl) clp
  rw [hport, port_raise, State.putBinding, State.mapBindings, port_modPort_self]
  refine List.any_eq_true.mpr ⟨{ b with waiting := true && s.lagging { b with waiting := true } }, List.mem_map.mpr ⟨b, List.mem_of_find?_eq_some hb, by simp [Binding.isOf]⟩, ?_⟩
  have hstill : s.lagging { b with waiting := true } = true := hlagging
  rw [hstill]
  simpa [Binding.isOf] using hof

theorem execIndoubtTimeout_of_up (clp folio : Nat) (s : State) (hst : (s.port clp).st = .up) : ∃ t, execIndoubtTimeout clp folio s = .next t ∧
    (t.port clp).inDoubt = (s.port clp).inDoubt.filter (fun e => e.1 != folio) := by
  simp [execIndoubtTimeout, hst]

/-! ## Requests for cross-chip Folios (R268, R272, R278) -/

theorem execCollisionBackoff_proposes (q : XReq) (s : State) (hreq : s.link.req = some q) (hbackoff : q.backoff = true) :
    ∃ t, execCollisionBackoff s = .next t ∧ t.link.req = some { q with backoff := false } := by
  simp only [execCollisionBackoff, hreq, hbackoff, if_true, Host.Outcome.next.injEq, exists_eq_left']
  rfl

theorem folio_enqueue_request (s : State) (p : Proposal) : ∃ f, (s.enqueue p none).2.folio s.fl.next = some f ∧ f.urgent = p.urgent ∧ f.st = .queued ∧
    (f.xchip, f.acts) = (p.xchip, p.acts) :=
  ⟨_, tget_tput_self _ _ _, rfl, rfl, rfl⟩

theorem xrequest_of_ready {s : State} {op clp job slice newclp ready : Nat} {withdraw : Bool} (hbusy : s.on Reg.CCD_XREQST_BUSY 0 = false)
    (hdol : ¬ (op = 2 ∧ s.on Reg.CCD_GCTRL_DOLMODE 0 = true)) (hne : withdraw = true ∨ clp ≠ newclp) (hready : s.linkReady ready = true)
    (hseal : s.isSealed = false) (hplace : s.hasPlace false = true) (hwait : s.fl.waiting = []) :
    (s.xrequest op clp job slice newclp withdraw ready).get Reg.CCD_XREQST_BUSY 0 = 1 ∧
      ((s.xrequest op clp job slice newclp withdraw ready).folio s.fl.next).map (fun f => (f.st, f.xchip, f.acts)) =
        some (.queued, true, [{ act := 0x2F + op, region := 0x7FF, col := 4, row := wrap 5 clp,
                                arg := pack [(0, 32, job), (32, 12, slice), (44, 5, newclp), (49, 1, flag withdraw)] }]) := by
  unfold State.xrequest
  obtain ⟨regs, hregs⟩ := exists_setAll_eq s 0 [(Reg.CCD_XREQ_OP, op), (Reg.CCD_XREQ_CLP, clp), (Reg.CCD_XREQ_JOB, job), (Reg.CCD_XREQ_SLICE, slice),
    (Reg.CCD_XREQ_NEWCLP, newclp), (Reg.CCD_XREQ_WITHDRAW, flag withdraw)]
  extract_lets u a
  have hbusy' : u.on Reg.CCD_XREQST_BUSY 0 = false := by rw [← hbusy, State.on, State.on, get_setAll_apart _ (by rfl)]
  have hdol' : u.on Reg.CCD_GCTRL_DOLMODE 0 = s.on Reg.CCD_GCTRL_DOLMODE 0 := by rw [State.on, State.on, get_setAll_apart _ (by rfl)]
  have hu : u = { s with regs := regs } := hregs
  rw [if_neg (by rw [hbusy']; decide), if_neg (by rw [hdol']; exact hdol), if_neg (fun hsame => hne.elim (fun hw => absurd (hw.symm.trans hsame.1) (by decide)) (fun hw => hw hsame.2)), if_neg (by rw [hu, show ({ s with regs := regs } : State).linkReady ready = s.linkReady ready from rfl, hready]; decide)]
  obtain ⟨regs', hregs'⟩ := exists_setAll_eq u 0 [(Reg.CCD_XREQST_BUSY, 1), (Reg.CCD_XREQST_RESULT, 0)]
  generalize hv : u.setAll 0 [(Reg.CCD_XREQST_BUSY, 1), (Reg.CCD_XREQST_RESULT, 0)] = v at hregs'
  have hvbusy : v.get Reg.CCD_XREQST_BUSY 0 = 1 := by
    rw [← hv]
    simp (disch := decide) only [State.setAll, get_set_apart, get_set_self]
    rfl
  obtain ⟨g, hg, hurgent, hst, hshape⟩ := folio_enqueue_request v { acts := [a], urgent := false, origin := 5, xchip := true }
  have hfl : v.fl = s.fl := by rw [hregs', hu]
  have hnext : v.fl.next = s.fl.next := by rw [hfl]
  rw [State.proposeX, kilnPropose_of_place (by rw [hregs', hu]; exact hseal) (by rw [hregs', hu]; exact hplace) (by rw [hfl]; exact hwait) (by simp)]
  dsimp only
  rw [urgentVoids_of_not_urgent hg hurgent, ← hnext]
  refine ⟨(get_set_apart (by decide) _ 0 _).trans hvbusy, ?_⟩
  rw [show ∀ (w : State) (l : Link) (f : RegField) (n : Nat), ({ w.set f 0 n with link := l } : State).folio v.fl.next = w.folio v.fl.next from fun _ _ _ _ => rfl, hg]
  simp [hst, hshape, a]

theorem execCcdXreqXrole_of_ready (clp job slice newclp ten tag : Nat) (withdraw : Bool) (s : State) (hadmits : s.admits ten tag none = true)
    (hbusy : s.on Reg.CCD_XREQST_BUSY 0 = false) (hne : withdraw = true ∨ wrap 5 clp ≠ wrap 5 newclp) (hready : s.linkReady (wrap 5 clp) = true)
    (hplace : s.hasPlace false = true) (hwaiting : s.fl.waiting = []) : ∃ t, execCcdXreqXrole clp job slice newclp withdraw ten tag s = .next t ∧
      t.get Reg.CCD_XREQST_BUSY 0 = 1 ∧ (t.folio s.fl.next).map (fun f => (f.st, f.xchip, f.acts)) =
        some (.queued, true, [{ act := 0x30, region := 0x7FF, col := 4, row := wrap 5 clp,
                                arg := pack [(0, 32, job), (32, 12, slice), (44, 5, wrap 5 newclp), (49, 1, flag withdraw)] }]) ∧
      .ghpRs (wrap 6 tag) 0 0 ∈ t.pulses := by
  rw [execCcdXreqXrole, hostWrite_of_admits hadmits]
  obtain ⟨hbusy', hfolio⟩ := xrequest_of_ready (op := 1) (clp := wrap 5 clp) (job := job) (slice := slice) hbusy (by simp) hne hready
    (isSealed_of_admits hadmits) hplace hwaiting
  rw [show wrap 5 (wrap 5 clp) = wrap 5 clp by simp [wrap]] at hfolio
  exact ⟨_, rfl, hbusy', hfolio, by simp⟩

theorem execCcdXreqXspare_of_ready (clp job slice newclp ten tag : Nat) (s : State) (hadmits : s.admits ten tag none = true)
    (hbusy : s.on Reg.CCD_XREQST_BUSY 0 = false) (hdol : s.on Reg.CCD_GCTRL_DOLMODE 0 = false) (hne : wrap 5 clp ≠ wrap 5 newclp)
    (hready : s.linkReady (wrap 5 newclp) = true) (hplace : s.hasPlace false = true) (hwaiting : s.fl.waiting = []) :
    ∃ t, execCcdXreqXspare clp job slice newclp ten tag s = .next t ∧ t.get Reg.CCD_XREQST_BUSY 0 = 1 ∧
      (t.folio s.fl.next).map (fun f => (f.st, f.xchip, f.acts)) =
        some (.queued, true, [{ act := 0x31, region := 0x7FF, col := 4, row := wrap 5 clp,
                                arg := pack [(0, 32, job), (32, 12, slice), (44, 5, wrap 5 newclp), (49, 1, 0)] }]) ∧
      .ghpRs (wrap 6 tag) 0 0 ∈ t.pulses := by
  rw [execCcdXreqXspare, hostWrite_of_admits hadmits]
  obtain ⟨hbusy', hfolio⟩ := xrequest_of_ready (op := 2) (clp := wrap 5 clp) (job := job) (slice := slice) (withdraw := false) hbusy (by simp [hdol])
    (.inr hne) hready (isSealed_of_admits hadmits) hplace hwaiting
  rw [show wrap 5 (wrap 5 clp) = wrap 5 clp by simp [wrap]] at hfolio
  exact ⟨_, rfl, hbusy', hfolio, by simp⟩

/-- Settles O33. -/
theorem linkClockAndDispute : Obligations.LinkClockAndDispute :=
  ⟨execTpair_of_first, execTpair_of_reply, execTpair_of_result, execTpairTick_of_primary, execTpairTimeout_ends, execThetaExpiry_keeps_theta,
    execDispute_of_heard, execDisputeResend_of_left, execPeerLoss_of_up, execPeerLoss_of_disputed, execEpochTimeout_of_lagging,
    execCollisionBackoff_proposes, execIndoubtTimeout_of_up, execCcdXreqXrole_of_ready, execCcdXreqXspare_of_ready⟩

end Sys2Proof.Machine
end

section
/-! SUPPORT. Requests of a tenant (R287–R300): the close of an epoch, REWIND and RESTART, the record tail, and the request of a Colophon. -/

namespace Sys2Proof.Machine

open Sys2Proof

/-! ## What the record of a tenant's epochs reads after a change elsewhere -/

section

variable (s : State) (t : Nat)

theorem ep_congr {s u : State} (h : u.colo = s.colo) (t : Nat) : u.ep t = s.ep t := by simp [State.ep, h]

@[simp] theorem ep_setEp_self (e : TenantEp) : (s.setEp t e).ep t = e := tgetD_tput_self _ _ _ _
@[simp] theorem ep_modEp_self (f : TenantEp → TenantEp) : (s.modEp t f).ep t = f (s.ep t) := ep_setEp_self s t _
@[simp] theorem ep_set (f : RegField) (i v : Nat) : (s.set f i v).ep t = s.ep t := rfl
@[simp] theorem ep_raise (f : RegField) (i : Nat) : (s.raise f i).ep t = s.ep t := rfl
@[simp] theorem ep_emit (p : Pulse) : (s.emit p).ep t = s.ep t := rfl
@[simp] theorem ep_send (m : Msg) : (s.send m).ep t = s.ep t := rfl
@[simp] theorem ep_setAll (i : Nat) (l : List (RegField × Nat)) : (s.setAll i l).ep t = s.ep t := by
  obtain ⟨regs, h⟩ := exists_setAll_eq s i l
  rw [h]
  rfl
@[simp] theorem get_modEp (f : TenantEp → TenantEp) (r : RegField) (i : Nat) : (s.modEp t f).get r i = s.get r i := rfl

/-- A view of a tenant's record that no change of the record touches survives the change. -/
theorem view_modEp {β : Type} (view : TenantEp → β) {f : TenantEp → TenantEp} (h : ∀ e, view (f e) = view e) : view ((s.modEp t f).ep t) = view (s.ep t) := by
  rw [ep_modEp_self, h]

end

/-! ## The close of an open epoch (R290) -/

theorem closeWrite_of_idle {s : State} {t : Nat} (hbusy : s.on Reg.TEN_EP_STATUS_BUSY t = false) (hactive : (s.ep t).active = true) (epoch op : Nat)
    (act : State → State) : ∃ regs, (s.closeWrite t epoch op act) = act { s with regs := regs } ∧ (∀ f, f.apart Reg.TEN_EP_CLOSE_EPOCH = true →
      f.apart Reg.TEN_EP_CLOSE_OP = true → ({ s with regs := regs } : State).get f t = s.get f t) := by
  obtain ⟨regs, hregs⟩ := exists_setAll_eq s t [(Reg.TEN_EP_CLOSE_EPOCH, epoch), (Reg.TEN_EP_CLOSE_OP, op)]
  refine ⟨regs, ?_, fun f hepoch hop => ?_⟩
  · rw [State.closeWrite, if_neg (by simp [hbusy])]
    dsimp only
    rw [if_neg (by simp [hactive]), hregs]
  · rw [← hregs, get_setAll_apart]
    simp [hepoch, hop]

/-- A close of the open epoch of a tenant with regions is under way (R290): it waits for a place, or its hubs have been asked. -/
theorem closeOpen_of_open {s : State} {t epoch : Nat} (hepoch : wrap 32 epoch = s.get Reg.TEN_EP_STATUS_OPEN t) (hregions : s.regionsOfTenant t ≠ [])
    (op : Nat) : (((s.closeOpen t epoch op).ep t).close.map (fun c => (c.op, c.epoch)) = some (op, wrap 32 epoch)) ∧
      ((((s.closeOpen t epoch op).ep t).close.map (·.phase) = some .cutting) ∨ t ∈ (s.closeOpen t epoch op).colo.order) ∧
      (s.closeOpen t epoch op).get Reg.TEN_EP_STATUS_BUSY t = 1 := by
  rw [State.closeOpen, if_neg (fun h => h hepoch), State.openClose]
  generalize hu : (s.modEp t (fun x => { x with close := some { op := op, epoch := wrap 32 epoch } })).setAll t [(Reg.TEN_EP_STATUS_BUSY, 1), (Reg.TEN_EP_STATUS_RESULT, 0), (Reg.TEN_EP_STATUS_CUT, 0)] = u
  have hclose : (u.ep t).close = some { op := op, epoch := wrap 32 epoch } := by simp [← hu]
  have hbusy : u.get Reg.TEN_EP_STATUS_BUSY t = 1 := by
    rw [← hu]
    simp (disch := decide) only [State.setAll, get_set_apart, get_set_self]
    rfl
  have hmaster : u.regionsOfTenant t = s.regionsOfTenant t := by
    obtain ⟨regs, hregs⟩ := exists_setAll_eq (s.modEp t (fun x => { x with close := some { op := op, epoch := wrap 32 epoch } })) t
      [(Reg.TEN_EP_STATUS_BUSY, 1), (Reg.TEN_EP_STATUS_RESULT, 0), (Reg.TEN_EP_STATUS_CUT, 0)]
    rw [← hu, hregs]
    rfl
  dsimp only
  split
  case isTrue =>
    have hcut : ((u.startCut t).ep t).close = some { op := op, epoch := wrap 32 epoch, phase := .cutting, await := u.regionsOfTenant t, layers := (u.ep t).kept, cover := (u.ep t).keptCover } := by
      rw [State.startCut, hclose]
      exact congrArg TenantEp.close (ep_modEp_self u t (fun x => { x with close := some { op := op, epoch := wrap 32 epoch, phase := .cutting, await := u.regionsOfTenant t, layers := x.kept, cover := x.keptCover } }))
    rw [State.settleCut, hcut]
    dsimp only
    rw [if_neg (by simp [hmaster, hregions]), hcut]
    refine ⟨rfl, Or.inl rfl, ?_⟩
    rw [State.startCut, hclose]
    dsimp only
    exact (get_set_apart (by decide) _ t 0).trans hbusy
  case isFalse =>
    have hwaiting : ∀ o : List Nat, ({ u with colo := { u.colo with order := o } } : State).ep t = u.ep t := fun _ => rfl
    rw [State.settleCut, hwaiting, hclose]
    dsimp only
    rw [if_neg (by simp), hwaiting, hclose]
    exact ⟨rfl, Or.inr (by simp), hbusy⟩

theorem regionsOfTenant_ne_nil {s : State} {t : Nat} (h : ((s.regionsOfTenant t).filter (fun r => !s.lost.contains r)) ≠ []) :
    s.regionsOfTenant t ≠ [] := fun hnil => h (by rw [hnil]; rfl)

/-- An admitted close of the open epoch answers OK with the close under way (R290). -/
theorem hostWrite_closeOpen {tenant epoch ten tag : Nat} {s : State} (op addr : Nat) (hadmits : s.admits ten tag (some tenant) = true)
    (hidle : s.on Reg.TEN_EP_STATUS_BUSY tenant = false) (hactive : (s.ep tenant).active = true)
    (hepoch : wrap 32 epoch = s.get Reg.TEN_EP_STATUS_OPEN tenant) (hregions : ((s.regionsOfTenant tenant).filter (fun r => !s.lost.contains r)) ≠ [])
    (t : State) (ht : s.hostWrite ten tag addr (some tenant) true (fun s => s.closeWrite tenant epoch op (fun s => s.closeOpen tenant epoch op)) = t) :
    (t.ep tenant).close.map (fun c => (c.op, c.epoch)) = some (op, wrap 32 epoch) ∧
      ((t.ep tenant).close.map (·.phase) = some .cutting ∨ tenant ∈ t.colo.order) ∧ t.get Reg.TEN_EP_STATUS_BUSY tenant = 1 ∧
      .ghpRs (wrap 6 tag) 0 0 ∈ t.pulses := by
  rw [hostWrite_of_admits hadmits] at ht
  obtain ⟨regs, hact, hget⟩ := closeWrite_of_idle hidle hactive epoch op (fun s => s.closeOpen tenant epoch op)
  rw [hact] at ht
  obtain ⟨hclose, hphase, hbusy⟩ := closeOpen_of_open (s := { s with regs := regs }) (hepoch.trans (hget _ (by decide) (by decide)).symm)
    (regionsOfTenant_ne_nil hregions) op
  rw [← ht]
  exact ⟨hclose, hphase, hbusy, by simp [State.emit]⟩

theorem execEpochSeal_of_open (tenant epoch ten tag : Nat) (s : State) (hadmits : s.admits ten tag (some tenant) = true)
    (htenant : s.tenantActive tenant = true) (hidle : s.on Reg.TEN_EP_STATUS_BUSY tenant = false) (hactive : (s.ep tenant).active = true)
    (hepoch : wrap 32 epoch = s.get Reg.TEN_EP_STATUS_OPEN tenant) (hregions : ((s.regionsOfTenant tenant).filter (fun r => !s.lost.contains r)) ≠ []) :
    ∃ t, execEpochSeal tenant epoch ten tag s = .next t ∧ ((t.ep tenant).close.map (fun c => (c.op, c.epoch)) = some (0, wrap 32 epoch) ∧
      ((t.ep tenant).close.map (·.phase) = some .cutting ∨ tenant ∈ t.colo.order) ∧ t.get Reg.TEN_EP_STATUS_BUSY tenant = 1 ∧
      .ghpRs (wrap 6 tag) 0 0 ∈ t.pulses) := by
  rw [execEpochSeal, htenant]
  exact ⟨_, rfl, hostWrite_closeOpen 0 _ hadmits hidle hactive hepoch hregions _ rfl⟩

theorem execEpochDiscard_of_open (tenant epoch ten tag : Nat) (s : State) (hadmits : s.admits ten tag (some tenant) = true)
    (htenant : s.tenantActive tenant = true) (hidle : s.on Reg.TEN_EP_STATUS_BUSY tenant = false) (hactive : (s.ep tenant).active = true)
    (hepoch : wrap 32 epoch = s.get Reg.TEN_EP_STATUS_OPEN tenant) (hregions : ((s.regionsOfTenant tenant).filter (fun r => !s.lost.contains r)) ≠ []) :
    ∃ t, execEpochDiscard tenant epoch ten tag s = .next t ∧ ((t.ep tenant).close.map (fun c => (c.op, c.epoch)) = some (1, wrap 32 epoch) ∧
      ((t.ep tenant).close.map (·.phase) = some .cutting ∨ tenant ∈ t.colo.order) ∧ t.get Reg.TEN_EP_STATUS_BUSY tenant = 1 ∧
      .ghpRs (wrap 6 tag) 0 0 ∈ t.pulses) := by
  rw [execEpochDiscard, htenant]
  exact ⟨_, rfl, hostWrite_closeOpen 1 _ hadmits hidle hactive hepoch hregions _ rfl⟩

/-! ## REWIND and RESTART (R292, R300) -/

theorem get_caughtUp (s : State) (t : Nat) (f : RegField) (i : Nat) : (s.caughtUp t).get f i = s.get f i := rfl

/-- Whether a record still stands in the ring depends on the tenant's record, its entry and its tail alone. -/
theorem recInRing_congr {s u : State} {t : Nat} (hcolo : u.colo = s.colo) (hcfg : u.cfg = s.cfg)
    (htail : u.get Reg.TEN_REC_TAIL_OFFSET t = s.get Reg.TEN_REC_TAIL_OFFSET t) (r : RingRec) : u.recInRing t r = s.recInRing t r := by
  simp only [State.recInRing, State.ringUsed, State.ep, State.tenantEntry, hcolo, hcfg, htail]
  rfl

theorem rewind_of_sealed {s : State} {t epoch top : Nat} {r : RingRec} (htop : s.lastSealed t = some top) (hle : epoch ≤ top)
    (hfirst : (s.ep t).first ≤ epoch) (hrec : (s.ep t).epochRec epoch = some r) (hring : s.recInRing t r = true) (u : State)
    (hu : s.rewind t epoch true = u) : u.get Reg.TEN_EP_LAST_EPOCH t = wrap 32 epoch ∧ u.get Reg.TEN_EP_STATUS_OPEN t = wrap 32 (epoch + 1) ∧
      u.get Reg.TEN_EP_CHAIN_HEAD t = wrap Reg.TEN_EP_CHAIN_HEAD.w r.chain ∧ u.get Reg.TEN_EP_STATUS_RESULT t = 0 := by
  rw [State.rewind, htop] at hu
  dsimp -zeta only at hu
  rw [if_neg (by omega), hrec] at hu
  dsimp -zeta only at hu
  rw [if_neg (by simp [hring])] at hu
  extract_lets v w at hu
  rw [← hu, get_caughtUp, get_caughtUp, get_caughtUp, get_caughtUp]
  generalize w = x
  simp (disch := decide) only [State.setAll, get_set_apart, get_set_self]
  exact ⟨rfl, rfl, trivial, rfl⟩

theorem execEpochRewind_of_sealed (tenant epoch top ten tag : Nat) (r : RingRec) (s : State) (hadmits : s.admits ten tag (some tenant) = true)
    (htenant : s.tenantActive tenant = true) (hidle : s.on Reg.TEN_EP_STATUS_BUSY tenant = false) (hactive : (s.ep tenant).active = true)
    (htop : s.lastSealed tenant = some top) (hle : wrap 32 epoch ≤ top) (hfirst : (s.ep tenant).first ≤ wrap 32 epoch)
    (hrec : (s.ep tenant).epochRec (wrap 32 epoch) = some r) (hring : s.recInRing tenant r = true) :
    ∃ t, execEpochRewind tenant epoch true ten tag s = .next t ∧ t.get Reg.TEN_EP_LAST_EPOCH tenant = wrap 32 epoch ∧
      t.get Reg.TEN_EP_STATUS_OPEN tenant = wrap 32 (wrap 32 epoch + 1) ∧ t.get Reg.TEN_EP_CHAIN_HEAD tenant = wrap Reg.TEN_EP_CHAIN_HEAD.w r.chain ∧
      t.get Reg.TEN_EP_STATUS_RESULT tenant = 0 ∧ .ghpRs (wrap 6 tag) 0 0 ∈ t.pulses := by
  rw [execEpochRewind, htenant, hostWrite_of_admits hadmits]
  refine ⟨_, rfl, ?_⟩
  obtain ⟨regs, hact, hget⟩ := closeWrite_of_idle hidle hactive epoch 2 (fun s => s.rewind tenant (wrap 32 epoch) true)
  rw [hact]
  have htop' : ({ s with regs := regs } : State).lastSealed tenant = some top := by
    rw [← htop, State.lastSealed, State.lastSealed, hget _ (by decide) (by decide)]
    rfl
  have hring' : ({ s with regs := regs } : State).recInRing tenant r = true := by
    exact (recInRing_congr (s := s) (u := { s with regs := regs }) rfl rfl (hget Reg.TEN_REC_TAIL_OFFSET (by decide) (by decide)) r).trans hring
  obtain ⟨hlast, hopen, hchain, hresult⟩ := rewind_of_sealed htop' hle hfirst hrec hring' _ rfl
  exact ⟨hlast.trans (wrap_wrap 32 epoch), hopen, hchain, hresult, by simp [State.emit]⟩

theorem ep_writeRec (s : State) (t : Nat) (r : RingRec) : (s.writeRec t r).ep t =
    { s.ep t with recs := (s.ep t).recs ++ [{ r with pos := (s.ep t).pos }], pos := (s.ep t).pos + r.len } :=
  ep_modEp_self s t (fun x => { x with recs := x.recs ++ [{ r with pos := x.pos }], pos := x.pos + r.len })

/-- What of a tenant's record the writing of its records leaves (R293). -/
theorem view_flushRecs {β : Type} (view : TenantEp → β) (h : ∀ (e : TenantEp) rs pos w, view { e with recs := rs, pos := pos, waiting := w } = view e)
    (t : Nat) (l : List RingRec) (s : State) : view ((s.flushRecs t l).ep t) = view (s.ep t) := by
  have hwaiting : ∀ (u : State) (w : List RingRec), view ((u.modEp t (fun e => { e with waiting := w })).ep t) = view (u.ep t) := fun u w => by
    rw [ep_modEp_self]
    exact h (u.ep t) _ _ w
  induction l generalizing s with
  | nil => exact hwaiting s []
  | cons r rest ih =>
    rw [State.flushRecs]
    split
    case isTrue =>
      rw [ih, ep_writeRec]
      exact h (s.ep t) _ _ _
    case isFalse => exact hwaiting s _

theorem get_flushRecs (t : Nat) (l : List RingRec) (s : State) (f : RegField) (i : Nat) : (s.flushRecs t l).get f i = s.get f i :=
  get_of_blank (F := { colo := true, sys := true }) (by apply flushRecs_blank <;> rfl) rfl i

theorem ep_vaultAsk (s : State) (q : VaultReq) (t : Nat) : (s.vaultAsk q).ep t = s.ep t :=
  ep_congr (colo_of_blank (F := { vault := true }) (by apply vaultAsk_blank; rfl) rfl) t

theorem get_vaultAsk (s : State) (q : VaultReq) (f : RegField) (i : Nat) : (s.vaultAsk q).get f i = s.get f i :=
  get_of_blank (F := { vault := true }) (by apply vaultAsk_blank; rfl) rfl i

/-- A chain that starts again has its first epoch open and none sealed (R292). -/
theorem genesis_starts (s : State) (t first : Nat) : ((s.genesis t first).ep t).first = first ∧ ((s.genesis t first).ep t).hasSealed = false ∧
    (s.genesis t first).get Reg.TEN_EP_STATUS_OPEN t = wrap 32 first := by
  unfold State.genesis
  extract_lets e job slice v h body
  generalize s.makeRec t 1 (s.recFlags t [] 0) 0 0 0 s.gt body 128 h {} = p
  obtain ⟨r, u⟩ := p
  dsimp only
  generalize hz : (u.modEp t _).putRec t r = z
  have hfirst : (z.ep t).first = first := by
    rw [← hz, State.putRec, view_flushRecs TenantEp.first (by intros; rfl), ep_modEp_self]
  have hsealed : (z.ep t).hasSealed = false := by
    rw [← hz, State.putRec, view_flushRecs TenantEp.hasSealed (by intros; rfl), ep_modEp_self]
  rw [ep_vaultAsk, get_vaultAsk, ep_setAll]
  simp (disch := decide) only [State.setAll, get_set_apart, get_set_self]
  exact ⟨hfirst, hsealed, rfl⟩

theorem execEpochRestart_starts (tenant epoch ten tag : Nat) (s : State) (hadmits : s.admits ten tag (some tenant) = true)
    (htenant : s.tenantActive tenant = true) (hidle : s.on Reg.TEN_EP_STATUS_BUSY tenant = false) (hactive : (s.ep tenant).active = true) :
    ∃ t, execEpochRestart tenant epoch ten tag s = .next t ∧ (t.ep tenant).first = wrap 32 epoch ∧ (t.ep tenant).hasSealed = false ∧
      t.get Reg.TEN_EP_STATUS_OPEN tenant = wrap 32 epoch ∧ t.get Reg.TEN_EP_STATUS_RESULT tenant = 0 ∧ .ghpRs (wrap 6 tag) 0 0 ∈ t.pulses := by
  rw [execEpochRestart, htenant, hostWrite_of_admits hadmits, State.restartWrite]
  refine ⟨_, rfl, ?_⟩
  obtain ⟨regs, hact, -⟩ := closeWrite_of_idle hidle hactive epoch 3
    (fun s => ((s.genesis tenant (wrap 32 epoch)).set Reg.TEN_EP_STATUS_RESULT tenant 0).caughtUp tenant)
  obtain ⟨hfirst, hsealed, hopen⟩ := genesis_starts { s with regs := regs } tenant (wrap 32 epoch)
  rw [hact]
  refine ⟨hfirst, hsealed, ?_, ?_, by simp [State.emit]⟩
  · exact (get_set_apart (by decide) _ tenant 0).trans (hopen.trans (wrap_wrap 32 epoch))
  · generalize State.genesis { s with regs := regs } tenant (wrap 32 epoch) = u
    rw [get_emit, get_caughtUp, get_set_self] <;> rfl

/-! ## The tail of the record ring, and the request of a Colophon (R293, R297) -/

theorem retryRing_of_no_close {s : State} {t : Nat} (hclose : (s.ep t).close = none) : s.retryRing t = s := by rw [State.retryRing, hclose]

theorem execTenRecTailWrite_stores (tenant offset ten tag : Nat) (s : State) (hadmits : s.admits ten tag (some tenant) = true)
    (htenant : s.tenantActive tenant = true) (hclose : (s.ep tenant).close = none) : ∃ t, execTenRecTailWrite tenant offset ten tag s = .next t ∧
      t.get Reg.TEN_REC_TAIL_OFFSET tenant = wrap Reg.TEN_REC_TAIL_OFFSET.w offset ∧ .ghpRs (wrap 6 tag) 0 0 ∈ t.pulses := by
  rw [execTenRecTailWrite, htenant, hostWrite_of_admits hadmits, State.recTailWrite]
  refine ⟨_, rfl, ?_, by simp [State.emit]⟩
  rw [retryRing_of_no_close (by rw [view_flushRecs TenantEp.close (by intros; rfl)]; exact hclose)]
  exact (get_flushRecs _ _ _ _ _).trans (get_set_self _ _ _ _)

/-- What a tenant's request of a Colophon reads. -/
def State.coloAsked (s : State) (t : Nat) : Option ColoReq × Nat := ((s.ep t).colo, s.get Reg.TEN_COLO_STATUS_BUSY t)

theorem coloAsked_of_blank {F : Fields} {s u : State} (h : u.blank F = s.blank F) (hcolo : F.colo = false) (hregs : F.has .tenant = false) (t : Nat) :
    u.coloAsked t = s.coloAsked t := by
  rw [State.coloAsked, State.coloAsked, ep_congr (colo_of_blank h hcolo), get_of_blank (f := Reg.TEN_COLO_STATUS_BUSY) h hregs]

/-- A proposal that is not urgent changes the Folios alone (R175). -/
theorem kilnPropose_blank_of_not_urgent {F : Fields} (s : State) {p : Proposal} (hurgent : p.urgent = false) (h_fl : F.fl) :
    (s.kilnPropose p).2.blank F = s.blank F := by
  have henqueue : (s.enqueue p none).2.blank F = s.blank F := enqueue_blank _ _ _ h_fl
  obtain ⟨f, hf, -, -, hfu⟩ := folio_enqueue s p
  rw [State.kilnPropose]
  split
  · rfl
  split
  · exact henqueue
  split
  · change ((s.enqueue p none).2.urgentVoids s.fl.next).blank _ = _
    rw [urgentVoids_of_not_urgent hf (hfu.trans hurgent)]
    exact henqueue
  · simp [State.blank, h_fl]

/-- The proposals of sweeps change the Tally's registers and state and the Folios alone (R327). -/
theorem kickSweeps_blank_proposals (s : State) :
    s.kickSweeps.blank { regs := [.tly], fl := true, tally := true } = s.blank { regs := [.tly], fl := true, tally := true } := by
  rw [State.kickSweeps]
  split
  · rfl
  · refine foldl_blank _ _ _ (fun u w => ?_)
    exact (kilnPropose_blank_of_not_urgent _ rfl rfl).trans (set_blank u Reg.TLY_SWNUM_NEXT 0 _ rfl)

theorem execColophonRequest_of_range (tenant a b ten tag : Nat) (s : State) (hadmits : s.admits ten tag (some tenant) = true)
    (htenant : s.tenantActive tenant = true) (hidle : s.on Reg.TEN_COLO_STATUS_BUSY tenant = false) (hrange : s.coloRange tenant = some (a, b))
    (hst : s.vault.st ≠ .error) : ∃ t, execColophonRequest tenant ten tag s = .next t ∧ (t.ep tenant).colo = some { a := a, b := b } ∧
      t.get Reg.TEN_COLO_STATUS_BUSY tenant = 1 ∧ .ghpRs (wrap 6 tag) 0 0 ∈ t.pulses := by
  rw [execColophonRequest, htenant, hostWrite_of_admits hadmits, State.coloWrite, if_neg (by simp [hidle]), hrange]
  dsimp only
  rw [if_neg hst, State.wantSweep]
  refine ⟨_, rfl, ?_⟩
  generalize hu : (s.modEp tenant (fun x => { x with colo := some { a := a, b := b } })).setAll tenant [(Reg.TEN_COLO_REQ_REQ, 1), (Reg.TEN_COLO_STATUS_BUSY, 1), (Reg.TEN_COLO_STATUS_RESULT, 0)] = u
  have hasked : u.coloAsked tenant = (some { a := a, b := b }, 1) := by
    rw [← hu, State.coloAsked, ep_setAll, ep_modEp_self]
    simp (disch := decide) only [State.setAll, get_set_apart, get_set_self]
    rfl
  have hkept : (u.noteSweep (some tenant) 1).kickSweeps.coloAsked tenant = (some { a := a, b := b }, 1) :=
    (coloAsked_of_blank (kickSweeps_blank_proposals _) rfl rfl tenant).trans hasked
  exact ⟨congrArg Prod.fst hkept, congrArg Prod.snd hkept, by simp [State.emit]⟩

/-- Settles O34. -/
theorem epochRequests : Obligations.EpochRequests := ⟨execEpochSeal_of_open, execEpochDiscard_of_open, execEpochRewind_of_sealed,
    execEpochRestart_starts, execTenRecTailWrite_stores, execColophonRequest_of_range⟩

end Sys2Proof.Machine
end

section
/-! SUPPORT. The close of an epoch (R287, R290, R291): cuts at hubs and probes, layers and coverage, parts, the seal, and the two timeouts. -/

namespace Sys2Proof.Machine

open Sys2Proof

/-! ## The cut at a hub (R290) -/

theorem cat_modWalk (s : State) (r c : Nat) (f : WalkState → WalkState) : ((s.modWalk r c f).hub r).cat = (s.hub r).cat :=
  view_modHub Hub.cat (by intro; rfl) s r r

/-- Proposed gap steps change nothing of the hub's record of its tiles. -/
theorem cat_proposeSteps (s : State) (r : Nat) (cols : List Nat) : ((s.proposeSteps r cols).hub r).cat = (s.hub r).cat := by
  unfold State.proposeSteps
  extract_lets l short u v
  have hu : (u.hub r).cat = (s.hub r).cat := apply_foldl (fun s => (s.hub r).cat) _ (by intro s c; exact cat_modWalk s r c _) _ _
  split
  · rfl
  · have hv : (v.hub r).cat = (u.hub r).cat := by
      unfold v
      split <;> simp
    refine Eq.trans ?_ (hv.trans hu)
    simp [State.hubPropose]

theorem cat_markBarrier (s : State) (r t epoch : Nat) : ((s.markBarrier r t epoch).hub r).cat = (s.hub r).cat := by
  unfold State.markBarrier
  rw [cat_proposeSteps]
  exact apply_foldl (fun s => (s.hub r).cat) _ (by intro s c; exact cat_modWalk s r c _) _ _

theorem probesOf_congr {s u : State} (h : u.probes = s.probes) (r tenant : Nat) : u.probesOf r tenant = s.probesOf r tenant := by
  simp [State.probesOf, h]

theorem execEpCut_asks (region tenant epoch : Nat) (discard : Bool) (s : State)
    (hholds : (s.hub region).cat.holders.any (fun e => e.2.contains tenant) = true) (hprobes : s.probesOf region tenant ≠ []) :
    ∃ t, execEpCut region tenant discard epoch s = .next t ∧ tget tenant (t.hub region).ep.cuts = some (s.probesOf region tenant).length ∧
      ∀ p ∈ s.probesOf region tenant, msgDgCut region p (s.accOf region p) tenant discard ∈ t.flue := by
  rw [execEpCut, if_neg (by rw [hholds]; decide)]
  generalize hu : (if discard then s else s.markBarrier region tenant epoch) = u
  have hprobesOf : u.probesOf region tenant = s.probesOf region tenant := by
    rw [← hu]
    split
    · rfl
    · exact probesOf_congr (probes_of_blank (F := { hubs := true, flue := true, regs := [.hubRd] }) (by apply markBarrier_blank <;> rfl) rfl) _ _
  have hcat : (u.hub region).cat = (s.hub region).cat := by
    rw [← hu]
    split
    · rfl
    · exact cat_markBarrier s region tenant epoch
  dsimp only
  rw [hprobesOf, if_neg hprobes]
  refine ⟨_, rfl, by simp, fun p hp => ?_⟩
  have hacc : ∀ x : State, (x.hub region).cat = (s.hub region).cat → x.accOf region p = s.accOf region p := fun x h => by rw [State.accOf, State.accOf, h]
  simp only [State.sendAll, List.mem_append, List.mem_map]
  refine Or.inr ⟨p, hp, ?_⟩
  rw [hacc _ hcat]

theorem execEpCut_of_absent (region tenant epoch : Nat) (discard : Bool) (s : State)
    (hholds : (s.hub region).cat.holders.any (fun e => e.2.contains tenant) = false) : ∃ t, execEpCut region tenant discard epoch s = .next t ∧ t = s :=
  ⟨s, by rw [execEpCut, if_pos hholds], rfl⟩

/-! ## The cut at a probe (R290) -/

theorem execDgCut_of_context (region tile acc tenant i : Nat) (discard : Bool) (s : State) (hreaches : s.reaches region tile acc = true)
    (hctx : (s.probe region tile).ctxOf tenant = some i) : ∃ t, execDgCut region tile acc tenant discard s = .next t ∧
      (t.probe region tile).accum i = { layer := ((s.probe region tile).accum i).layer } ∧
      msgDgCover region tile tenant ((s.probe region tile).accum i).macs ((s.probe region tile).accum i).elems ∈ t.flue := by
  rw [execDgCut, atProbe_of_reaches hreaches]
  refine ⟨_, rfl, ?_⟩
  rw [probe_recv, hctx]
  dsimp only
  constructor
  · rw [probe_send, probe_modProbe_self]
    simp [Probe.accum]
  · simp [State.send]

theorem execDgCut_of_no_context (region tile acc tenant : Nat) (discard : Bool) (s : State) (hreaches : s.reaches region tile acc = true)
    (hctx : (s.probe region tile).ctxOf tenant = none) : ∃ t, execDgCut region tile acc tenant discard s = .next t ∧
      msgDgReport region tile tenant 0 0 0 true 0 0 0 0 ∈ t.flue ∧ msgDgCover region tile tenant [0, 0, 0, 0] [0, 0, 0, 0] ∈ t.flue := by
  rw [execDgCut, atProbe_of_reaches hreaches]
  refine ⟨_, rfl, ?_⟩
  rw [probe_recv, hctx]
  simp [State.send]

/-! ## Layers, coverage and parts (R287, R290) -/

theorem execDgReport_adds_layer (region tile tenant layer dA dB nslot nchunk nmvslot nmvchunk : Nat) (cut : Bool) (s : State)
    (hcount : nslot ≠ 0 ∨ nmvslot ≠ 0) (hnew : tget (65536 * wrap 12 tenant + wrap 16 layer) (s.hub region).ep.layers = none)
    (hroom : (s.hub region).ep.layers.length < 512) : ∃ t, execDgReport region tile tenant layer dA dB cut nslot nchunk nmvslot nmvchunk s = .next t ∧
      tget (65536 * wrap 12 tenant + wrap 16 layer) (t.hub region).ep.layers =
        some (LayerEntry.add {} { dA := dA, dB := dB, nslot := nslot, nchunk := nchunk, nmvslot := nmvslot, nmvchunk := nmvchunk }) := by
  rw [execDgReport]
  dsimp only
  rw [if_neg (by omega)]
  refine ⟨_, rfl, ?_⟩
  simp [addLayer, hnew, hroom, tgetD]

theorem execDgCover_of_more (region tile tenant n : Nat) (macs elems : List Nat) (s : State) (hcuts : tget tenant (s.hub region).ep.cuts = some n)
    (hmore : 1 < n) : ∃ t, execDgCover region tile tenant macs elems s = .next t ∧ tget tenant (t.hub region).ep.cuts = some (n - 1) ∧
      tget tenant (t.hub region).ep.cover =
        some ((tgetD {} tenant (s.hub region).ep.cover).add { macs := macs ++ [0], elems := elems ++ [0, 0] }) := by
  rw [execDgCover]
  simp [hcuts, Nat.not_le.mpr hmore]

theorem execDgCover_of_last (region tile tenant : Nat) (macs elems : List Nat) (s : State) (hcuts : tget tenant (s.hub region).ep.cuts = some 1) :
    ∃ t, execDgCover region tile tenant macs elems s = .next t ∧ tget tenant (t.hub region).ep.cuts = none ∧
      tget tenant (t.hub region).ep.cover = none ∧ t.flue.any (fun m => m.op == (msgEpPart region tenant 0 true []).op) = true := by
  unfold execDgCover
  extract_lets u d v
  have hv : tget tenant (v.hub region).ep.cuts = some 1 := by
    simp only [v, u, hub_modHub_self, hub_recv]
    exact hcuts
  rw [hv]
  refine ⟨_, rfl, ?_⟩
  unfold State.sendParts
  dsimp only
  refine ⟨?_, ?_, ?_⟩
  · rw [hub_sendAll, hub_setHub_self]
    exact tget_tdel_self _ _
  · rw [hub_sendAll, hub_setHub_self]
    exact tget_tdel_self _ _
  · simp only [State.sendAll, List.any_append, List.any_cons, Bool.or_eq_true]
    exact Or.inr (Or.inl rfl)

theorem execEpPart_of_others (region tenant part other : Nat) (last : Bool) (payload : List Flit) (c : EpClose) (s : State)
    (hclose : (s.ep tenant).close = some c) (hphase : c.phase = .cutting) (hawaits : c.await.contains region = true)
    (hother : c.await.contains other = true) (hne : other ≠ region) : ∃ t, execEpPart region tenant part last payload s = .next t ∧
      (t.ep tenant).close.map (fun x => (x.phase, x.await, x.cover)) = some (.cutting, if last then c.await.filter (· != region) else c.await,
        if part = 0 then c.cover.add (coverOfFlits payload) else c.cover) := by
  have hclose' : ((s.recv (msgEpPart region tenant part last payload)).ep tenant).close = some c := hclose
  have hleft : c.await.filter (· != region) ≠ [] := by
    refine List.ne_nil_of_mem (List.mem_filter.mpr ⟨List.contains_iff_mem.mp hother, ?_⟩)
    exact bne_iff_ne.mpr hne
  have hawait : c.await ≠ [] := by
    rintro h
    simp [h] at hother
  rw [execEpPart]
  dsimp only
  rw [hclose']
  dsimp only
  rw [if_neg (by simp only [hphase, hawaits]; decide)]
  refine ⟨_, rfl, ?_⟩
  rw [State.settleCut, ep_modEp_self]
  by_cases hpart : part = 0 <;> cases last <;> simp [hpart, hphase, hleft, hawait]

theorem execEpPart_of_last (region tenant : Nat) (payload : List Flit) (c : EpClose) (s : State) (hclose : (s.ep tenant).close = some c)
    (hphase : c.phase = .cutting) (hawait : c.await = [region]) (hop : c.op = 0) : ∃ t, execEpPart region tenant 0 true payload s = .next t ∧
      (t.ep tenant).close.map (·.phase) = some .hashing ∧ t.get Reg.TEN_EP_STATUS_CUT tenant = 1 := by
  have hclose' : ((s.recv (msgEpPart region tenant 0 true payload)).ep tenant).close = some c := hclose
  rw [execEpPart]
  dsimp only
  rw [hclose']
  dsimp only
  rw [if_neg (by simp [hphase, hawait])]
  refine ⟨_, rfl, ?_⟩
  simp only [reduceIte]
  rw [State.settleCut, ep_modEp_self]
  dsimp only
  rw [if_pos (by simp [hphase, hawait]), State.cutDone, ep_modEp_self]
  dsimp only
  rw [if_pos hop]
  split <;> exact ⟨by simp [State.fresh], get_set_self _ _ _ _⟩

/-! ## The end of a close (R290, R291) -/

theorem laterRecalls_of_none {s : State} {t : Nat} (h : (s.ep t).later = []) : s.laterRecalls t = s.modEp t (fun x => { x with later := [] }) := by
  simp [State.laterRecalls, h]

theorem endClose_of_no_order {s : State} (h : s.colo.order = []) (t result : Nat) :
    s.endClose t result = (s.modEp t (fun x => { x with close := none })).setAll t [(Reg.TEN_EP_STATUS_BUSY, 0), (Reg.TEN_EP_STATUS_RESULT, result)] := by
  obtain ⟨regs, hregs⟩ := exists_setAll_eq (s.modEp t (fun x => { x with close := none })) t [(Reg.TEN_EP_STATUS_BUSY, 0), (Reg.TEN_EP_STATUS_RESULT, result)]
  rw [State.endClose, hregs]
  dsimp only
  rw [show (s.modEp t (fun x => { x with close := none })).colo.order = [] from h]

/-- A close that ends with no other waiting, nothing recalled since, is gone, and its result stands (R290, R291). -/
theorem endClose_then_laterRecalls {s : State} {t result : Nat} (horder : s.colo.order = []) (hlater : (s.ep t).later = []) (u : State)
    (hu : (s.endClose t result).laterRecalls t = u) : (u.ep t).close = none ∧ (u.ep t).hasSealed = (s.ep t).hasSealed ∧
      u.get Reg.TEN_EP_STATUS_BUSY t = 0 ∧ u.get Reg.TEN_EP_STATUS_RESULT t = wrap Reg.TEN_EP_STATUS_RESULT.w result ∧
      u.get Reg.TEN_EP_LAST_EPOCH t = s.get Reg.TEN_EP_LAST_EPOCH t := by
  rw [← hu, endClose_of_no_order horder, laterRecalls_of_none (by simp [hlater])]
  rw [ep_modEp_self, ep_setAll, ep_modEp_self]
  simp (disch := decide) only [State.setAll, get_set_apart, get_set_self, get_modEp]
  exact ⟨trivial, trivial, rfl, trivial, trivial⟩

theorem order_flushRecs (t : Nat) (l : List RingRec) (s : State) : (s.flushRecs t l).colo.order = s.colo.order := by
  induction l generalizing s with
  | nil => rfl
  | cons r rest ih =>
    rw [State.flushRecs]
    split
    · exact ih _
    · rfl

/-- What the making of a record leaves (R293): all but the Vault and the free values. -/
theorem exists_makeRec_eq (s : State) (t type flags nlayer e1 e2 gtOpen body n chain : Nat) (cover : Coverage) :
    ∃ r u, s.makeRec t type flags nlayer e1 e2 gtOpen body n chain cover = (r, u) ∧ u.blank { vault := true, freeCtr := true } = s.blank { vault := true, freeCtr := true } :=
  ⟨_, _, rfl, makeRec_blank s t type flags nlayer e1 e2 gtOpen body n chain cover rfl rfl⟩

theorem closeUnsealed_keeps (s : State) (t epoch : Nat) : (s.closeUnsealed t epoch).colo.order = s.colo.order ∧
    ((s.closeUnsealed t epoch).ep t).later = (s.ep t).later := by
  rw [State.closeUnsealed]
  obtain ⟨r, u, hmake, hkept⟩ := exists_makeRec_eq s t 5 (s.recFlags t [] 0) 0 epoch 0 (s.ep t).gtOpen 0 0 (s.chainHead t) {}
  have hcolo : u.colo = s.colo := colo_of_blank hkept rfl
  rw [hmake]
  dsimp only
  constructor
  · change ((State.flushRecs _ t _).colo.order) = _
    rw [order_flushRecs]
    rw [← hcolo]
    rfl
  · rw [ep_set, State.putRec, view_flushRecs TenantEp.later (by intros; rfl), ep_modEp_self]
    dsimp only
    rw [ep_congr hcolo]

theorem execEpPartTimeout_of_cutting (tenant : Nat) (c : EpClose) (s : State) (hclose : (s.ep tenant).close = some c) (hphase : c.phase = .cutting)
    (hstopped : s.stopped = false) (horder : s.colo.order = []) (hlater : (s.ep tenant).later = []) : ∃ t, execEpPartTimeout tenant s = .next t ∧
      (t.ep tenant).close = none ∧ t.get Reg.TEN_EP_STATUS_BUSY tenant = 0 ∧ t.get Reg.TEN_EP_STATUS_RESULT tenant = 2 := by
  rw [execEpPartTimeout, hclose]
  refine ⟨_, rfl, ?_⟩
  rw [if_pos ⟨hphase, by simp [hstopped]⟩, State.failCut, hclose]
  dsimp only
  rw [if_pos hphase]
  have hcolo : (s.closeUnsealed tenant c.epoch).colo.order = [] := (closeUnsealed_keeps s tenant c.epoch).1.trans horder
  have hlater' : ((s.closeUnsealed tenant c.epoch).ep tenant).later = [] := (closeUnsealed_keeps s tenant c.epoch).2.trans hlater
  obtain ⟨hnone, -, hbusy, hresult, -⟩ := endClose_then_laterRecalls hcolo hlater' (result := 2) _ rfl
  exact ⟨hnone, hbusy, hresult⟩

theorem execRecordRingTimeout_of_ring (tenant : Nat) (c : EpClose) (s : State) (hclose : (s.ep tenant).close = some c) (hphase : c.phase = .ring)
    (horder : s.colo.order = []) (hlater : (s.ep tenant).later = []) : ∃ t, execRecordRingTimeout tenant s = .next t ∧ (t.ep tenant).close = none ∧
      t.get Reg.TEN_EP_STATUS_BUSY tenant = 0 ∧ t.get Reg.TEN_EP_STATUS_RESULT tenant = 3 := by
  rw [execRecordRingTimeout, hclose]
  refine ⟨_, rfl, ?_⟩
  rw [if_pos hphase]
  have hlater' : ((s.modEp tenant (fun x => if c.op = 0 then { x with kept := c.layers, keptCover := c.cover } else x)).ep tenant).later = [] := by
    rw [view_modEp s tenant TenantEp.later (fun e => by split <;> rfl)]
    exact hlater
  obtain ⟨hnone, -, hbusy, hresult, -⟩ := endClose_then_laterRecalls (s := s.modEp tenant _) horder hlater' (result := 3) _ rfl
  exact ⟨hnone, hbusy, hresult⟩

/-- The state in which the record of a seal has been written, from the making of the record on (R290, R293). -/
theorem recorded_seal {s v : State} {t : Nat} (hkept : v.blank { vault := true, freeCtr := true } = s.blank { vault := true, freeCtr := true })
    (r : RingRec) (horder : s.colo.order = []) (hlater : (s.ep t).later = []) (u : State)
    (hu : ((v.modEp t (fun e => { e with hasSealed := true, gtOpen := v.gt, kept := [], keptCover := {} })).putRec t r).event 11 = u) :
    u.colo.order = [] ∧ (u.ep t).later = [] ∧ (u.ep t).hasSealed = true ∧ u.link = s.link ∧ u.rcv = s.rcv := by
  have hcolo : v.colo = s.colo := colo_of_blank hkept rfl
  have hevent : u.blank { pulses := true, colo := true, sys := true } = v.blank { pulses := true, colo := true, sys := true } := by
    rw [← hu]
    exact (event_blank _ _ rfl).trans ((putRec_blank _ _ _ rfl rfl).trans (modEp_blank _ _ _ rfl))
  have hput : u.colo = ((v.modEp t (fun e => { e with hasSealed := true, gtOpen := v.gt, kept := [], keptCover := {} })).putRec t r).colo := by
    rw [← hu]
    exact colo_of_blank (F := { pulses := true }) (event_blank _ _ rfl) rfl
  refine ⟨?_, ?_, ?_, (link_of_blank hevent rfl).trans (link_of_blank hkept rfl), (rcv_of_blank hevent rfl).trans (rcv_of_blank hkept rfl)⟩
  · rw [hput, State.putRec, order_flushRecs, ← horder, ← hcolo]
    rfl
  · rw [ep_congr hput, State.putRec, view_flushRecs TenantEp.later (by intros; rfl), ep_modEp_self]
    dsimp only
    rw [ep_congr hcolo, hlater]
  · rw [ep_congr hput, State.putRec, view_flushRecs TenantEp.hasSealed (by intros; rfl), ep_modEp_self]

/-- A seal of an epoch whose record fits in the ring ends the close with result 0 (R290). -/
theorem trySeal_of_room {s : State} {t : Nat} {c : EpClose} (hclose : (s.ep t).close = some c) (hwaiting : (s.ep t).waiting = [])
    (hfits : s.recFits t ((128 + (128 + 32 * c.layers.length + 16 * (s.dependencyWord t).1) + 63) / 64 * 64) = true) (hbindings : s.bindingsOf t = [])
    (horder : s.colo.order = []) (hgranted : s.rcv.granted = none) (hlater : (s.ep t).later = []) (u : State) (hu : s.trySeal t = u) :
    (u.ep t).hasSealed = true ∧ (u.ep t).close = none ∧ u.get Reg.TEN_EP_LAST_EPOCH t = wrap 32 c.epoch ∧ u.get Reg.TEN_EP_STATUS_BUSY t = 0 ∧
      u.get Reg.TEN_EP_STATUS_RESULT t = 0 := by
  rw [State.trySeal, hclose] at hu
  dsimp -zeta only at hu
  extract_lets n h deps lw body w x y z at hu
  rw [if_neg (by simp only [n, hwaiting, hfits]; decide)] at hu
  obtain ⟨r, v, hmake, hkept⟩ := exists_makeRec_eq s t 2 (s.recFlags t c.layers c.cover.marks) c.layers.length c.epoch deps.1 (s.ep t).gtOpen body n h c.cover
  have hw : w = ((v.modEp t (fun e => { e with hasSealed := true, gtOpen := v.gt, kept := [], keptCover := {} })).putRec t r).event 11 := by
    simp only [w, hmake]
  obtain ⟨horder', hlater', hsealed, hlink, hrcv⟩ := recorded_seal hkept r horder hlater w hw.symm
  obtain ⟨regs, hregs⟩ := exists_setAll_eq w t [(Reg.TEN_EP_CHAIN_HEAD, h), (Reg.TEN_EP_LAST_EPOCH, c.epoch), (Reg.TEN_EP_STATUS_OPEN, c.epoch + 1)]
  have hqueue : x.queueSeals t c.epoch (h >>> 128) = x := by
    rw [State.queueSeals, show x.bindingsOf t = [] from by simp only [x, hregs, State.bindingsOf, hlink]; exact hbindings]
    rfl
  have hclear : (x.clearSuspects t).colo = w.colo := by
    simp only [x, hregs]
    rfl
  have hlast : (x.clearSuspects t).get Reg.TEN_EP_LAST_EPOCH t = wrap 32 c.epoch := by
    rw [get_of_blank (f := Reg.TEN_EP_LAST_EPOCH) (F := { hubs := true, master := true }) (by apply clearSuspects_blank <;> rfl) rfl]
    simp (disch := decide) only [x, State.setAll, get_set_apart, get_set_self]
    rfl
  have hz : z = (x.clearSuspects t).endClose t 0 := by
    have hy : y = (x.clearSuspects t).endClose t 0 := by simp only [y, hqueue]
    have hgranted' : y.rcv.granted = none := by
      rw [hy, rcv_of_blank (F := { colo := true, flue := true, regs := [.tenant] }) (by apply endClose_blank <;> rfl) rfl, ← hgranted, ← hrcv]
      simp only [x, hregs]
      rfl
    have hnot : ¬ y.rcv.granted = some t := by simp [hgranted']
    exact (if_neg hnot).trans hy
  rw [hz] at hu
  obtain ⟨hnone, hsealed', hbusy, hresult, hlast'⟩ := endClose_then_laterRecalls (s := x.clearSuspects t) ((congrArg KColo.order hclear).trans horder')
    ((congrArg TenantEp.later (ep_congr hclear t)).trans hlater') u hu
  exact ⟨hsealed'.trans ((congrArg TenantEp.hasSealed (ep_congr hclear t)).trans hsealed), hnone, hlast'.trans hlast, hbusy, hresult⟩

theorem execEpochHashDone_seals (tenant : Nat) (c : EpClose) (s : State) (hclose : (s.ep tenant).close = some c) (hphase : c.phase = .hashing)
    (hwaiting : (s.ep tenant).waiting = [])
    (hfits : s.recFits tenant ((128 + (128 + 32 * c.layers.length + 16 * (s.dependencyWord tenant).1) + 63) / 64 * 64) = true)
    (hbindings : s.bindingsOf tenant = []) (horder : s.colo.order = []) (hgranted : s.rcv.granted = none) (hlater : (s.ep tenant).later = []) :
    ∃ t, execEpochHashDone tenant s = .next t ∧ (t.ep tenant).hasSealed = true ∧ (t.ep tenant).close = none ∧
      t.get Reg.TEN_EP_LAST_EPOCH tenant = wrap 32 c.epoch ∧ t.get Reg.TEN_EP_STATUS_BUSY tenant = 0 ∧ t.get Reg.TEN_EP_STATUS_RESULT tenant = 0 := by
  rw [execEpochHashDone, hclose]
  refine ⟨_, rfl, ?_⟩
  rw [if_pos hphase]
  exact trySeal_of_room hclose hwaiting hfits hbindings horder hgranted hlater _ rfl

/-- Settles O35. -/
theorem epochContributions : Obligations.EpochContributions := ⟨execEpCut_asks, execEpCut_of_absent, execDgCut_of_context, execDgCut_of_no_context,
    execDgReport_adds_layer, execDgCover_of_more, execDgCover_of_last, execEpPart_of_others, execEpPart_of_last, execEpochHashDone_seals,
    execEpPartTimeout_of_cutting, execRecordRingTimeout_of_ring⟩

end Sys2Proof.Machine
end

section
/-! SUPPORT. Metering (R310–R319, R328, R314): conversions, intervals, models, anchors, marks, and the supply of a region. -/

namespace Sys2Proof.Machine

open Sys2Proof

/-! ## A conversion of the sense channels (R310) -/

/-- What the Tally keeps of one of its sense channels. -/
def State.senseCh (s : State) (n : Nat) : SenseCh := tgetD {} n s.tally.channels

theorem convert_of_off {s : State} {m : Nat} (h : (s.senseCh m).st = .off) (vsh vbus tvsh tvbus : Nat) : s.convert m vsh vbus tvsh tvbus = (none, s) := by
  rw [State.convert]
  exact if_pos h

/-- A conversion changes nothing of the Tally but its channel (R310). -/
theorem tally_convert {s : State} {m : Nat} (h : (s.senseCh m).st ≠ .off) (vsh vbus tvsh tvbus : Nat) : ∃ c : SenseCh,
    (s.convert m vsh vbus tvsh tvbus).2.tally = { s.tally with channels := tput m { c with vsh := vsh, vbus := vbus } s.tally.channels } := by
  unfold State.convert
  extract_lets c pass past
  rw [if_neg (show ¬ c.st = .off from h)]
  generalize c.test past pass = q
  obtain ⟨c', commit⟩ := q
  dsimp only
  generalize (s.channelOf m).bind _ = o
  cases o with
  | some x => exact ⟨{ c' with eper := if commit = true then saturate 32 x else c'.eper }, by dsimp only; split <;> split <;> rfl⟩
  | none =>
    cases commit with
    | true => exact ⟨{ c' with eper := saturate 32 (s.fresh 32).1 }, by dsimp only; split <;> split <;> rfl⟩
    | false => exact ⟨c', by dsimp only; split <;> split <;> rfl⟩

theorem senseCh_convert_ne {n m : Nat} (h : m ≠ n) (s : State) (vsh vbus tvsh tvbus : Nat) :
    (s.convert m vsh vbus tvsh tvbus).2.senseCh n = s.senseCh n ∧ (s.convert m vsh vbus tvsh tvbus).2.tally.cuts = s.tally.cuts := by
  by_cases hst : (s.senseCh m).st = .off
  · rw [convert_of_off hst]
    exact ⟨rfl, rfl⟩
  · obtain ⟨c, hput⟩ := tally_convert hst vsh vbus tvsh tvbus
    rw [State.senseCh, hput, State.senseCh]
    exact ⟨tgetD_tput_ne h.symm _ _ _, rfl⟩

theorem senseCh_convert_self {n : Nat} {s : State} (h : (s.senseCh n).st ≠ .off) (vsh vbus tvsh tvbus : Nat) :
    ((s.convert n vsh vbus tvsh tvbus).2.senseCh n).vsh = vsh ∧ ((s.convert n vsh vbus tvsh tvbus).2.senseCh n).vbus = vbus ∧
      (s.convert n vsh vbus tvsh tvbus).2.tally.cuts = s.tally.cuts := by
  obtain ⟨c, hput⟩ := tally_convert h vsh vbus tvsh tvbus
  rw [State.senseCh, hput]
  simp

/-- The channels of a list are converted one by one; one that is not listed stays (R310). -/
theorem convertAll_of_not_mem (codes : List (Nat × Nat × Nat × Nat × Nat)) {n : Nat} (l : List Nat) (s : State) (hn : n ∉ l) :
    (s.convertAll codes l).2.senseCh n = s.senseCh n ∧ (s.convertAll codes l).2.tally.cuts = s.tally.cuts := by
  induction l generalizing s with
  | nil => exact ⟨rfl, rfl⟩
  | cons m rest ih =>
    have hm : m ≠ n := fun h => hn (by simp [h])
    have hrest : n ∉ rest := fun h => hn (List.mem_cons_of_mem m h)
    rw [State.convertAll]
    cases codes.find? (fun c => c.1 == m) with
    | none => exact ih s hrest
    | some c =>
      obtain ⟨hch, hcuts⟩ := ih (s.convert m c.2.1 c.2.2.1 c.2.2.2.1 c.2.2.2.2).2 hrest
      obtain ⟨hch', hcuts'⟩ := senseCh_convert_ne hm s c.2.1 c.2.2.1 c.2.2.2.1 c.2.2.2.2
      exact ⟨hch.trans hch', hcuts.trans hcuts'⟩

theorem convertAll_of_mem {codes : List (Nat × Nat × Nat × Nat × Nat)} {n vsh vbus tvsh tvbus : Nat}
    (hfind : codes.find? (fun c => c.1 == n) = some (n, vsh, vbus, tvsh, tvbus)) (l : List Nat) (s : State) (hnodup : l.Nodup) (hmem : n ∈ l)
    (hst : (s.senseCh n).st ≠ .off) : ((s.convertAll codes l).2.senseCh n).vsh = vsh ∧ ((s.convertAll codes l).2.senseCh n).vbus = vbus ∧
      (s.convertAll codes l).2.tally.cuts = s.tally.cuts := by
  induction l generalizing s with
  | nil => exact absurd hmem List.not_mem_nil
  | cons m rest ih =>
    obtain ⟨hm, hrest⟩ := List.nodup_cons.mp hnodup
    rw [State.convertAll]
    by_cases hmn : m = n
    · subst hmn
      rw [hfind]
      obtain ⟨hch, hcuts⟩ := convertAll_of_not_mem codes rest (s.convert m vsh vbus tvsh tvbus).2 hm
      obtain ⟨hvsh, hvbus, hcuts'⟩ := senseCh_convert_self hst vsh vbus tvsh tvbus
      exact ⟨(congrArg SenseCh.vsh hch).trans hvsh, (congrArg SenseCh.vbus hch).trans hvbus, hcuts.trans hcuts'⟩
    · have hin : n ∈ rest := (List.mem_cons.mp hmem).resolve_left (fun h => hmn h.symm)
      cases codes.find? (fun c => c.1 == m) with
      | none => exact ih s hrest hin hst
      | some c =>
        obtain ⟨hch, hcuts⟩ := senseCh_convert_ne hmn s c.2.1 c.2.2.1 c.2.2.2.1 c.2.2.2.2
        obtain ⟨hvsh, hvbus, hcuts'⟩ := ih (s.convert m c.2.1 c.2.2.1 c.2.2.2.1 c.2.2.2.2).2 hrest hin (by rw [hch]; exact hst)
        exact ⟨hvsh, hvbus, hcuts'.trans hcuts⟩

/-- A period that starts inside an interval ends none (R313). -/
theorem start_of_inside {g p : Nat} (h : g / p % 16 ≠ 0) : ¬ g / p * p % (16 * p) = 0 := by
  have hp : 0 < p := Nat.pos_of_ne_zero (fun h0 => h (by simp [h0]))
  rw [Nat.mul_mod_mul_right]
  exact fun h0 => h ((Nat.mul_eq_zero.mp h0).resolve_right (Nat.ne_of_gt hp))

theorem execSenseConversion_records (codes : List (Nat × Nat × Nat × Nat × Nat)) (n vsh vbus tvsh tvbus : Nat) (s : State) (hn : n < 8)
    (hst : (tgetD ({} : SenseCh) n s.syncSense.tally.channels).st ≠ .off)
    (hfind : codes.find? (fun c => c.1 == n) = some (n, vsh, vbus, tvsh, tvbus)) (hcuts : s.tally.cuts = []) (hinside : s.gt / s.period % 16 ≠ 0) :
    ∃ t, execSenseConversion codes s = .next t ∧ (tgetD ({} : SenseCh) n t.tally.channels).vsh = vsh ∧
      (tgetD ({} : SenseCh) n t.tally.channels).vbus = vbus := by
  obtain ⟨hvsh, hvbus, hkept⟩ := convertAll_of_mem hfind (List.range 8) s.syncSense List.nodup_range (List.mem_range.mpr hn) hst
  have hgt : s.syncSense.gt / s.syncSense.period * s.syncSense.period % (16 * s.syncSense.period) ≠ 0 := start_of_inside hinside
  have hnone : (s.syncSense.convertAll codes (List.range 8)).2.tally.cuts = [] := hkept.trans hcuts
  rw [execSenseConversion]
  generalize s.syncSense.convertAll codes (List.range 8) = p at hvsh hvbus hnone ⊢
  obtain ⟨l, u⟩ := p
  dsimp only at hvsh hvbus hnone ⊢
  rw [hnone, if_neg hgt]
  exact ⟨_, rfl, hvsh, hvbus⟩

/-! ## Intervals and models at a hub (R313, R314) -/

/-- When an interval of a hub is closed, and where the last one ended. -/
def Hub.closedAt (h : Hub) (gt : Nat) : Bool × Nat := (((tget gt h.en.intervals).map (·.closed)).getD false, h.en.lastEnd)

theorem hub_sendActivity (s : State) (r t gt : Nat) (isPartial : Bool) (x : Nat) : (s.sendActivity r t gt isPartial).hub x = s.hub x :=
  hub_congr (hubs_of_blank (F := { probes := true, flue := true }) (by apply sendActivity_blank <;> rfl) rfl) x

/-- The model of an interval that is not closed waits. -/
theorem tryModel_of_open {s : State} {r gt : Nat} (h : (tgetD {} gt (s.hub r).en.intervals).closed = false) : s.tryModel r gt = s := by
  rw [State.tryModel]
  cases hi : tget gt (s.hub r).en.intervals with
  | none => rfl
  | some x =>
    have hclosed : x.closed = false := by simpa [tgetD, hi] using h
    exact if_pos (Or.inl hclosed)

theorem closedAt_tryModel (s : State) (r gt : Nat) : ((s.tryModel r gt).hub r).closedAt gt = (s.hub r).closedAt gt := by
  rw [State.tryModel]
  cases hi : tget gt (s.hub r).en.intervals with
  | none => rfl
  | some x =>
    dsimp only
    split
    · rfl
    · have hleak : ∀ y, (s.leakAt r x.tstart).2.hub y = s.hub y := fun y => hub_congr (hubs_of_blank (F := { freeCtr := true }) (by apply leakAt_blank; rfl) rfl) y
      simp [State.modEn, Hub.closedAt, hleak, hi]

theorem closedAt_closeInterval {s : State} {r gt : Nat} (h : (tgetD {} gt (s.hub r).en.intervals).closed = false) (sweep : Option (Nat × Option Nat)) :
    ((s.closeInterval r gt sweep).hub r).closedAt gt = (true, gt) := by
  simp [State.closeInterval, State.modEn, Hub.closedAt, h]

theorem execIntervalEnd_closes (region : Nat) (s : State)
    (hopen : ((tget ((s.hub region).gt / (16 * s.period) * (16 * s.period)) (s.hub region).en.intervals).map (·.closed)).getD false = false) :
    ∃ t, execIntervalEnd region s = .next t ∧
      ((tget ((s.hub region).gt / (16 * s.period) * (16 * s.period)) (t.hub region).en.intervals).map (·.closed)).getD false = true ∧
      (t.hub region).en.lastEnd = (s.hub region).gt / (16 * s.period) * (16 * s.period) := by
  rw [execIntervalEnd]
  generalize (s.hub region).gt / (16 * s.period) * (16 * s.period) = gt at hopen ⊢
  dsimp only
  rw [if_neg (by rw [hopen]; decide)]
  refine ⟨_, rfl, ?_⟩
  generalize hu : List.foldl _ s _ = u
  have hhub : u.hub region = s.hub region := by
    rw [← hu]
    exact apply_foldl (fun s => s.hub region) _ (by intro s t; exact hub_sendActivity s region t gt false region) _ _
  have hclosed : (tgetD {} gt (u.hub region).en.intervals).closed = false := by
    rw [hhub, tgetD]
    cases hi : tget gt (s.hub region).en.intervals with
    | none => rfl
    | some x => simpa [hi] using hopen
  have hat := (closedAt_tryModel (u.closeInterval region gt none) region gt).trans (closedAt_closeInterval hclosed none)
  exact ⟨congrArg Prod.fst hat, congrArg Prod.snd hat⟩

theorem execEnAct_adds (region tile tenant gt : Nat) (isPartial : Bool) (counts : List Nat) (s : State)
    (hclosed : (tgetD {} gt (s.hub region).en.intervals).closed = false) (hdone : (tgetD {} gt (s.hub region).en.intervals).done = false) :
    ∃ t, execEnAct region tile tenant gt isPartial counts s = .next t ∧ tget tenant (tgetD {} gt (t.hub region).en.intervals).counts =
      some (sumCounts (tgetD zeroAct tenant (tgetD {} gt (s.hub region).en.intervals).counts) counts) := by
  rw [execEnAct]
  dsimp only
  rw [hub_recv, if_neg (by simp [hdone])]
  refine ⟨_, rfl, ?_⟩
  rw [tryModel_of_open (by simp [State.modEn, hclosed])]
  simp [State.modEn]

/-! ## Anchors at the Kiln (R317–R319) -/

theorem tryAnchor_of_unmeasured {s : State} {gt : Nat} {flip : Bool} (h : (tgetD {} gt s.tally.intervals).measured = false) : s.tryAnchor gt flip = s := by
  rw [State.tryAnchor]
  cases hi : tget gt s.tally.intervals with
  | none => rfl
  | some k =>
    have hk : k.measured = false := by simpa [tgetD, hi] using h
    exact if_pos (Or.inl hk)

theorem execEnModel_keeps (region gt total mv : Nat) (s : State) (hlast : s.tally.lastAnchor < gt)
    (hmeasured : (tgetD {} gt s.tally.intervals).measured = false) : ∃ t, execEnModel region gt total mv s = .next t ∧
      tget region (tgetD {} gt t.tally.intervals).models = some total := by
  rw [execEnModel]
  dsimp only
  rw [if_neg (by intro h; exact absurd h.1 (Nat.not_le.mpr hlast))]
  refine ⟨_, rfl, ?_⟩
  rw [tryAnchor_of_unmeasured]
  · simp
  · rw [tgetD_tput_self]
    exact hmeasured

theorem execEnModelTimeout_of_unmeasured (gt : Nat) (s : State) (hlast : s.tally.lastAnchor < gt)
    (hmeasured : (tgetD {} gt s.tally.intervals).measured = false) : ∃ t, execEnModelTimeout gt s = .next t ∧
      (tgetD {} gt t.tally.intervals).late = true := by
  rw [execEnModelTimeout, if_neg (by intro h; exact absurd h.1 (Nat.not_le.mpr hlast))]
  refine ⟨_, rfl, ?_⟩
  rw [tryAnchor_of_unmeasured]
  · simp
  · rw [tgetD_tput_self]
    exact hmeasured

/-- The parts of the Tally that say how far anchoring has come: the sweep under way, the latest anchor, and the intervals that wait. -/
def Tally.anchors (y : Tally) : Option Sweep × Nat × Table KInterval := (y.sweep, y.lastAnchor, y.intervals)

theorem anchors_kilnEnergy (s : State) (k : KInterval) (aux : List ChannelEntry) (n : Nat) : (s.kilnEnergy k aux n).tally.anchors = s.tally.anchors := by
  unfold State.kilnEnergy
  extract_lets fixed
  generalize hp : List.foldl _ (fixed, false, s) aux = p
  have htally : p.2.2.tally = s.tally := by
    rw [← hp]
    refine tally_of_blank (F := { freeCtr := true }) (foldl_blank_trd aux _ (fixed, false, s) (fun q c => ?_)) rfl
    dsimp only
    split
    · rfl
    · exact fresh_blank q.2.2 32 rfl
  obtain ⟨nj, ua, u⟩ := p
  dsimp only at htally ⊢
  rw [← htally]
  split <;> rfl

theorem anchorSweep_of_none {s : State} (h : s.tally.sweep = none) (e : Nat) (flip : Bool) : s.anchorSweep e flip = s := by
  rw [State.anchorSweep, h]

/-- An anchor that waits for no sweep ends its interval (R318). -/
theorem tryAnchor_of_late {s : State} {gt : Nat} {k : KInterval} {flip : Bool} (hk : tget gt s.tally.intervals = some k) (hmeasured : k.measured = true)
    (hlate : k.late = true) (hsweep : s.tally.sweep = none) : (s.tryAnchor gt flip).tally.lastAnchor = max gt s.tally.lastAnchor ∧
      tget gt (s.tryAnchor gt flip).tally.intervals = none := by
  rw [State.tryAnchor, hk]
  dsimp -zeta only
  rw [if_neg (by simp [hmeasured, hlate])]
  extract_lets chans aux spreadAux auxBad a m fs mask allMask chs chs' factorOf gone src freed marked sent metered src' ended
  have hfactors : (s.factors k (chans.filter (fun c => c.kind == 1))).2.tally = s.tally :=
    tally_of_blank (F := { freeCtr := true }) (by apply factors_blank; rfl) rfl
  have hfreed : freed.tally.anchors = (none, s.tally.lastAnchor, tdel gt s.tally.intervals) := by
    rw [← hsweep]
    simp only [Tally.anchors, freed, src, hfactors]
  have hsent : sent.tally = freed.tally := by
    simp only [sent, marked]
    split <;> rfl
  have hmetered : metered.tally.anchors = (none, s.tally.lastAnchor, tdel gt s.tally.intervals) := by
    rw [← hfreed, ← hsent]
    exact anchors_kilnEnergy sent k _ _
  simp only [Tally.anchors, Prod.mk.injEq] at hmetered
  obtain ⟨hnone, hlast, hintervals⟩ := hmetered
  rw [anchorSweep_of_none (s := ended) hnone]
  exact ⟨congrArg (max gt) hlast, (congrArg (tget gt) hintervals).trans (tget_tdel_self gt _)⟩

theorem execEnModelTimeout_of_measured (gt : Nat) (k : KInterval) (s : State) (hk : tget gt s.tally.intervals = some k) (hmeasured : k.measured = true)
    (hsweep : s.tally.sweep = none) : ∃ t, execEnModelTimeout gt s = .next t ∧ t.tally.lastAnchor = max gt s.tally.lastAnchor ∧
      tget gt t.tally.intervals = none := by
  rw [execEnModelTimeout, if_neg (by simp [hk])]
  refine ⟨_, rfl, ?_⟩
  have hk' : tgetD {} gt s.tally.intervals = k := by simp [tgetD, hk]
  dsimp only
  rw [hk']
  exact tryAnchor_of_late (k := { k with late := true }) (tget_tput_self _ _ _) hmeasured rfl hsweep

/-! ## Anchors at a hub (R319) -/

theorem intervals_modEn {f : HubEn → HubEn} (h : ∀ e, (f e).intervals = e.intervals) (s : State) (r x : Nat) :
    ((s.modEn r f).hub x).en.intervals = (s.hub x).en.intervals := view_modHub (fun y => y.en.intervals) (by intro y; exact h y.en) s r x

theorem en_freeCounters (s : State) (r : Nat) : ((s.freeCounters r).hub r).en.intervals = (s.hub r).en.intervals ∧
    ((s.freeCounters r).hub r).en.factor = (s.hub r).en.factor := by
  simp [State.freeCounters]

theorem execEnAnchor_takes (region gt mask : Nat) (factors : List Nat) (x : HubInterval) (s : State) (hinterval : tget gt (s.hub region).en.intervals = some x)
    (hdone : x.done = true) (hsweep : x.sweep = none) : ∃ t, execEnAnchor region gt mask factors s = .next t ∧ tget gt (t.hub region).en.intervals = none ∧
      (t.hub region).en.factor = (match s.channelFor region with | some n => factors.getD n (2 ^ 20) | none => 2 ^ 20) ∧
      (s.channelFor region = none → t.get Reg.RH_EN_EVENT_UNANCH region = 1) := by
  rw [execEnAnchor, hinterval]
  dsimp only
  rw [if_neg (by simp [hdone])]
  refine ⟨_, rfl, ?_⟩
  rw [hsweep]
  dsimp only
  generalize hu : List.foldl _ s _ = u
  refine ⟨?_, ?_, fun hnone => ?_⟩
  · rw [(en_freeCounters _ _).1, State.modEn, hub_modHub_self]
    exact tget_tdel_self _ _
  · rw [(en_freeCounters _ _).2, State.modEn, hub_modHub_self] <;> rfl
  · rw [hnone]
    exact get_raise_self _ _ _

theorem execEnAnchor_of_no_channel (region gt mask : Nat) (factors : List Nat) (x : HubInterval) (s : State)
    (hinterval : tget gt (s.hub region).en.intervals = some x) (hdone : x.done = true) (hsweep : x.sweep = none)
    (hchannel : s.channelFor region = none) : ∃ t, execEnAnchor region gt mask factors s = .next t ∧ tget gt (t.hub region).en.intervals = none ∧
      (t.hub region).en.factor = 2 ^ 20 ∧ t.get Reg.RH_EN_EVENT_UNANCH region = 1 := by
  obtain ⟨t, ht, hgone, hfactor, hunanch⟩ := execEnAnchor_takes region gt mask factors x s hinterval hdone hsweep
  rw [hchannel] at hfactor
  exact ⟨t, ht, hgone, hfactor, hunanch hchannel⟩

theorem execEnAnchor_of_channel (region gt mask n : Nat) (factors : List Nat) (x : HubInterval) (s : State)
    (hinterval : tget gt (s.hub region).en.intervals = some x) (hdone : x.done = true) (hsweep : x.sweep = none)
    (hchannel : s.channelFor region = some n) : ∃ t, execEnAnchor region gt mask factors s = .next t ∧ tget gt (t.hub region).en.intervals = none ∧
      (t.hub region).en.factor = factors.getD n (2 ^ 20) := by
  obtain ⟨t, ht, hgone, hfactor, -⟩ := execEnAnchor_takes region gt mask factors x s hinterval hdone hsweep
  rw [hchannel] at hfactor
  exact ⟨t, ht, hgone, hfactor⟩

theorem execEnMark_clears (region tile acc instant : Nat) (s : State) (hreaches : s.reaches region tile acc = true)
    (hnone : tget instant (s.hub region).en.intervals = none) : ∃ t, execEnMark region tile acc instant s = .next t ∧
      (t.probe region tile).act = [] := by
  rw [execEnMark, atProbe_of_reaches hreaches]
  refine ⟨_, rfl, ?_⟩
  rw [State.tryModel, hub_sendActivity, hub_recv, hnone]
  simp [State.sendActivity]

/-! ## The supply of a region (R314) -/

theorem neighbours_congr {s u : State} (h : u.cfg = s.cfg) (r : Nat) : u.neighbours r = s.neighbours r := by
  have hdir : u.neighbour r = s.neighbour r := by
    funext d
    simp only [State.neighbour, State.gridOf, h]
    rfl
  rw [State.neighbours, hdir, State.neighbours]

/-- What a hub keeps of the supply of its region: the register, and what it keeps for metering; and the configuration. -/
def State.supplied (s : State) (r : Nat) : Nat × HubEn × Charter := (s.get Reg.RH_EN_VLOC_MV r, (s.hub r).en, s.cfg)

theorem supplied_modPw (s : State) (r : Nat) (f : HubPw → HubPw) : (s.modPw r f).supplied r = s.supplied r :=
  congrArg (fun n => (s.get Reg.RH_EN_VLOC_MV r, n, s.cfg)) (view_modHub Hub.en (g := fun h => { h with pw := f h.pw }) (by intro; rfl) s r r)

theorem supplied_set {f : RegField} (h : Reg.RH_EN_VLOC_MV.apart f = true) (s : State) (r v : Nat) : (s.set f r v).supplied r = s.supplied r :=
  congrArg (fun x => (x, (s.hub r).en, s.cfg)) (get_set_apart h s r v)

theorem supplied_limit_of_within (s : State) (r d : Nat) :
    (s.limit r d Reg.RH_PW_STATUS_VEXC Reg.RH_PW_EVENT_VEXC false).supplied r = s.supplied r := by
  rw [State.limit, if_neg (by decide)]
  split
  · exact supplied_set (by decide) s r _
  · rfl

theorem execSupplyReading_keeps (region mv : Nat) (s : State) : ∃ t, execSupplyReading region mv s = .next t ∧
    t.get Reg.RH_EN_VLOC_MV region = wrap 12 mv ∧ (t.hub region).en.vnum = (s.hub region).en.vnum + 1 ∧
    (t.hub region).en.vsum = (s.hub region).en.vsum + wrap 12 mv ∧ ∀ n ∈ s.neighbours region, msgPwNb region n (wrap 12 mv) ∈ t.flue := by
  unfold execSupplyReading
  extract_lets v u tgt near pwr x aged gone y z
  have hu : u.supplied region = (wrap 12 mv, { (s.hub region).en with vsum := (s.hub region).en.vsum + v, vnum := (s.hub region).en.vnum + 1 }, s.cfg) := by
    simp only [State.supplied, u, State.modEn, hub_modHub_self]
    exact congrArg (fun n => (n, _, _)) ((get_set_self s Reg.RH_EN_VLOC_MV region v).trans (wrap_wrap 12 mv))
  have hx : x.supplied region = u.supplied region := by
    simp only [x]
    split
    · rw [supplied_modPw, supplied_set (by decide)]
      rfl
    · exact supplied_modPw _ _ _
  have hy : y.supplied region = aged.supplied region := by
    simp only [y]
    split
    · rfl
    · exact supplied_set (by decide) _ _ _
  have hz : z.supplied region = (wrap 12 mv, { (s.hub region).en with vsum := (s.hub region).en.vsum + v, vnum := (s.hub region).en.vnum + 1 }, s.cfg) :=
    (apply_foldl (fun s => s.supplied region) _ (by intro s d; exact supplied_limit_of_within s region d) gone y).trans
      (hy.trans ((supplied_modPw x region _).trans (hx.trans hu)))
  have hcfg : z.cfg = s.cfg := congrArg (fun p => p.2.2) hz
  have hnear : z.neighbours region = s.neighbours region := neighbours_congr hcfg region
  refine ⟨_, rfl, congrArg Prod.fst hz, congrArg (fun p => p.2.1.vnum) hz, congrArg (fun p => p.2.1.vsum) hz, fun n hn => ?_⟩
  simp only [State.sendAll, List.mem_append, List.mem_map]
  exact Or.inr ⟨n, by rw [hnear]; exact hn, rfl⟩

/-- Settles O36. -/
theorem energyCommands : Obligations.EnergyCommands := ⟨execSenseConversion_records, execIntervalEnd_closes, execEnAct_adds, execEnModel_keeps,
    execEnModelTimeout_of_unmeasured, execEnModelTimeout_of_measured, execEnAnchor_of_no_channel, execEnAnchor_of_channel, execEnMark_clears,
    execSupplyReading_keeps⟩

end Sys2Proof.Machine
end

section
/-! SUPPORT. Heat and neighbours (R320, R321, R326, R455): readings of neighbours, a thermal step, boundary repeats, and re-execution after B4. -/

namespace Sys2Proof.Machine

open Sys2Proof

/-! ## Neighbours (R321, R455) -/

/-- What a hub keeps for its power and its neighbours is no fault. -/
theorem hub_pw_hubQueue (s : State) (r x : Nat) (m : FaultMsg) : ((s.hubQueue r m).hub x).pw = (s.hub x).pw := by
  have hkept (f : HubFlt) : ((s.setHub r { s.hub r with flt := f }).hub x).pw = (s.hub x).pw :=
    view_modHub Hub.pw (g := fun h => { h with flt := f }) (by intro; rfl) s r x
  unfold State.hubQueue
  dsimp only
  split
  · split <;> exact hkept _
  · exact hkept _

theorem hub_pw_limit (s : State) (r d : Nat) (field event : RegField) (past : Bool) (x : Nat) :
    ((s.limit r d field event past).hub x).pw = (s.hub x).pw := by
  unfold State.limit
  dsimp only
  split
  · split
    · rfl
    · exact hub_pw_hubQueue _ r x _
  · split <;> rfl

theorem execPwNb_keeps (region from_ mv d : Nat) (s : State) (hdir : s.dirTo region from_ = some d) (hd : d < (s.hub region).pw.vnb.length) :
    ∃ t, execPwNb region from_ mv s = .next t ∧ (t.hub region).pw.vnb[d]? = some (some (wrap 12 mv), 0) := by
  have hdir' : (s.recv (msgPwNb from_ region mv)).dirTo region from_ = some d := hdir
  rw [execPwNb]
  dsimp only
  rw [hdir']
  refine ⟨_, rfl, ?_⟩
  rw [hub_pw_limit]
  simp [State.modPw, hd]

theorem execThNb_keeps (region from_ x d : Nat) (s : State) (hdir : s.dirTo region from_ = some d) (hd : d < (s.hub region).pw.tnb.length) :
    ∃ t, execThNb region from_ x s = .next t ∧ (t.hub region).pw.tnb[d]? = some (some (wrap 16 x), 0) := by
  have hdir' : (s.recv (msgThNb from_ region x)).dirTo region from_ = some d := hdir
  rw [execThNb]
  dsimp only
  rw [hdir']
  refine ⟨_, rfl, ?_⟩
  rw [hub_pw_limit]
  simp [State.modPw, hd]

/-! ## A thermal step (R320) -/

theorem cfg_keepEstimate (s : State) (r t : Nat) : (s.keepEstimate r t).cfg = s.cfg := by
  unfold State.keepEstimate
  extract_lets u v gone w
  have hw : w.cfg = s.cfg := by
    simp only [w]
    split <;> rfl
  exact (apply_foldl State.cfg _ (by intro s d; exact cfg_of_blank (F := { hubs := true, regs := RegUnit.list }) (limit_blank s r d _ _ false rfl rfl rfl rfl) rfl) gone w).trans hw

theorem cfg_setHeat (s : State) (r t : Nat) : (s.setHeat r t).cfg = s.cfg := by
  unfold State.setHeat
  dsimp only
  rw [cfg_of_blank (F := { probes := true, hubs := true, flue := true, pulses := true, freeCtr := true, regs := RegUnit.list }) (by apply bandChange_blank <;> rfl) rfl]
  rfl

theorem execThermalStep_of_fitting (region energy : Nat) (s : State) (hlow : -32768 ≤ s.nextEstimate region energy)
    (hhigh : s.nextEstimate region energy ≤ 32767) : ∃ t, execThermalStep region energy s = .next t ∧
      (t.hub region).en.est = some (unsigned 16 (s.nextEstimate region energy)) ∧
      ∀ n ∈ s.neighbours region, msgThNb region n (unsigned 16 (s.nextEstimate region energy)) ∈ t.flue := by
  have hdraw : s.drawEstimate region energy = (unsigned 16 (s.nextEstimate region energy), s) := if_neg (by omega)
  rw [execThermalStep_eq, hdraw]
  refine ⟨_, rfl, ?_, fun n hn => ?_⟩
  · rw [hub_congr (sendAll_hubs _ _), hub_en_setHeat, est_keepEstimate]
  · simp only [State.sendAll, List.mem_append, List.mem_map]
    exact Or.inr ⟨n, by rw [neighbours_congr ((cfg_setHeat _ _ _).trans (cfg_keepEstimate _ _ _))]; exact hn, rfl⟩

/-! ## Boundary repeats, and re-execution after B4 (R326, R455) -/

theorem execBoundaryRepeat_of_excess (region dir : Nat) (s : State)
    (hexcess : bit (s.get Reg.RH_PW_STATUS_VEXC region) dir = true ∨ bit (s.get Reg.RH_PW_STATUS_TEXC region) dir = true)
    (hroom : (s.hub region).flt.queue.length < 64) : ∃ t, execBoundaryRepeat region dir s = .next t ∧
      (t.hub region).flt.queue.getLast?.map (fun m => (m.kind, m.addr)) = some (0x307, wrap 2 dir) := by
  rw [execBoundaryRepeat, if_pos hexcess]
  refine ⟨_, rfl, ?_⟩
  rw [State.hubFault, queue_hubQueue _ _ _ hroom, List.getLast?_concat]
  have hdir : wrap 48 (wrap 2 dir) = wrap 2 dir := wrap_of_lt (Nat.lt_trans (wrap_lt 2 dir) (by decide))
  simp [hdir]

theorem execBhRerun_lists (region tile acc : Nat) (s : State) (hreaches : s.reaches region tile acc = true) :
    ∃ t, execBhRerun region tile acc s = .next t ∧
      (t.probe region tile).bandRerun = (s.probe region tile).inOrder.filter (fun i => ((s.probe region tile).slot i).st == .bandheld) := by
  rw [execBhRerun, atProbe_of_reaches hreaches]
  exact ⟨_, rfl, by simp⟩

theorem execBandheldRetryPulse_retries (region tile i : Nat) (rest : List Nat) (s : State) (hlist : (s.probe region tile).bandRerun = i :: rest)
    (hst : ((s.probe region tile).slot i).st = .bandheld) : ∃ t, execBandheldRetryPulse region tile s = .next t ∧
      (t.probe region tile).bandRerun = rest ∧ .retry region tile ((s.probe region tile).slot i).first.htag ∈ t.pulses := by
  simp only [execBandheldRetryPulse, hlist, hst, if_true]
  exact ⟨_, rfl, by rw [probe_emit, probe_setProbe_self], by simp [State.emit]⟩

/-- Settles O37. -/
theorem heatAndNeighbourCommands : Obligations.HeatAndNeighbourCommands := ⟨execPwNb_keeps, execThermalStep_of_fitting, execThNb_keeps,
    execBoundaryRepeat_of_excess, execBhRerun_lists, execBandheldRetryPulse_retries⟩

end Sys2Proof.Machine
end

section
/-! SUPPORT. The Tally (R328–R335): sweeps and their commits, requests of statements, batches and their roots, and the tail of its ring. -/

namespace Sys2Proof.Machine

open Sys2Proof

/-! ## Proposals of sweeps (R328) -/

theorem nextSkipZero_lt (x : Nat) : nextSkipZero 32 x < 2 ^ 32 := by
  rw [nextSkipZero]
  split
  · decide
  · exact wrap_lt _ _

theorem tally_kilnPropose_of_not_urgent (s : State) {p : Proposal} (hurgent : p.urgent = false) : (s.kilnPropose p).2.tally = s.tally :=
  tally_of_blank (F := { fl := true }) (kilnPropose_blank_of_not_urgent s hurgent rfl) rfl

/-- Proposed sweeps change nothing of the Tally but what waits and what is proposed (R328). -/
theorem exists_kickSweeps_tally (s : State) : ∃ w p, s.kickSweeps.tally = { s.tally with wants := w, proposed := p } := by
  rw [State.kickSweeps]
  split
  case isTrue => exact ⟨_, _, rfl⟩
  case isFalse h =>
    clear h
    generalize s.tally.wants = l
    induction l generalizing s with
    | nil => exact ⟨_, _, rfl⟩
    | cons a l ih =>
      obtain ⟨w, p, h⟩ := ih _
      refine ⟨w, p, h.trans ?_⟩
      rw [tally_kilnPropose_of_not_urgent _ rfl]
      rfl

theorem kickSweeps_of_no_wants {s : State} (h : s.tally.wants = []) : s.kickSweeps = s := by
  rw [State.kickSweeps, h]
  exact ite_self s

theorem execSweepPeriod_proposes (s : State) (hperiod : s.get Reg.TLY_CTRL_PERIODMS 0 ≠ 0) (hsweep : s.tally.sweep = none) (hseal : s.isSealed = false)
    (hwants : s.tally.wants = []) (hproposed : s.tally.proposed = []) : ∃ t, execSweepPeriod s = .next t ∧
      t.tally.proposed = [(s.get Reg.TLY_SWNUM_NEXT 0, { tenant := none })] ∧ t.tally.wants = [] ∧
      t.get Reg.TLY_SWNUM_NEXT 0 = nextSkipZero 32 (s.get Reg.TLY_SWNUM_NEXT 0) := by
  have hseal' : (s.noteSweep none 0).isSealed = false := hseal
  have hone : (s.noteSweep none 0).tally.wants = [{ tenant := none }] := by simp [State.noteSweep, hwants]
  have hidle : (s.noteSweep none 0).sweepBusy = false := by simp [State.noteSweep, State.sweepBusy, hsweep]
  rw [execSweepPeriod, if_neg hperiod, State.kickSweeps, if_neg (by simp [hidle, hseal']), hone]
  refine ⟨_, rfl, ?_⟩
  simp only [List.foldl_cons, List.foldl_nil]
  rw [tally_kilnPropose_of_not_urgent _ rfl, get_of_blank (F := { fl := true }) (kilnPropose_blank_of_not_urgent _ rfl rfl) rfl]
  refine ⟨?_, ?_, ?_⟩
  · change s.tally.proposed ++ _ = _
    rw [hproposed]
    rfl
  · change List.drop 1 (s.noteSweep none 0).tally.wants = _
    rw [hone]
    rfl
  · exact (get_set_self _ Reg.TLY_SWNUM_NEXT 0 _).trans (wrap_of_lt (nextSkipZero_lt _))

/-! ## Reports, commits and discards (R328, R329) -/

theorem execTlReport_of_others (region part other : Nat) (last single flip : Bool) (entries : List (Nat × Bool × Nat)) (w : Sweep) (s : State)
    (hsweep : s.tally.sweep = some w) (hawaits : w.await.contains region = true) (hother : w.await.contains other = true) (hne : other ≠ region) :
    ∃ t, execTlReport region part last single w.number entries flip s = .next t ∧
      t.tally.sweep.map (·.await) = some (if last then w.await.filter (· != region) else w.await) := by
  have hleft : (if last then w.await.filter (· != region) else w.await) ≠ [] := by
    have hmem : other ∈ (if last then w.await.filter (· != region) else w.await) := by
      cases last <;> simpa [hne] using hother
    exact List.ne_nil_of_mem hmem
  have hsweep' : (s.recv (msgTlReport region part last single w.number entries)).tally.sweep = some w := hsweep
  rw [execTlReport]
  dsimp only
  rw [hsweep']
  dsimp only
  rw [if_neg (by rw [hawaits]; simp)]
  refine ⟨_, rfl, ?_⟩
  rw [State.tryCommit]
  dsimp only
  rw [if_neg (fun h => hleft h.1)]
  rfl

theorem execTlReport_of_last (region part : Nat) (single : Bool) (entries : List (Nat × Bool × Nat)) (w : Sweep) (s : State)
    (hsweep : s.tally.sweep = some w) (hawait : w.await = [region]) (hanchored : w.anchored = true) (htenant : w.want.tenant = some 0)
    (hpurpose : w.want.purpose = 2) (hflip : s.tally.flipDue = false) (hbank : s.tally.bank ≤ 1) (hbanks : s.tally.banks.length = 2) :
    ∃ t, execTlReport region part true single w.number entries false s = .next t ∧ t.tally.flipDue = true ∧
      (t.tally.banks.getD (1 - s.tally.bank) {}).sweep = w.number ∧ t.tally.bank = s.tally.bank := by
  have hsweep' : (s.recv (msgTlReport region part true single w.number entries)).tally.sweep = some w := hsweep
  rw [execTlReport]
  dsimp only
  rw [hsweep']
  dsimp only
  rw [if_neg (by simp [hawait])]
  refine ⟨_, rfl, ?_⟩
  rw [State.tryCommit]
  dsimp only
  rw [if_pos ⟨by simp [hawait], hanchored, hflip⟩, if_neg (by decide), State.writeBank]
  simp only [htenant]
  rw [if_neg (by simp [hpurpose]), if_neg (by simp [hpurpose])]
  refine ⟨trivial, ?_, rfl⟩
  simp [List.getD_eq_getElem?_getD, hbanks, show 1 - s.tally.bank < 2 by omega]

/-- A filter that keeps every entry of a key keeps what is read under it. -/
theorem tget_filter_of_kept {α : Type} {p : Nat × α → Bool} {k : Nat} (h : ∀ v, p (k, v) = true) (l : Table α) : tget k (l.filter p) = tget k l := by
  induction l with
  | nil => rfl
  | cons e l ih =>
    rw [List.filter_cons]
    by_cases hk : k = e.1
    · rw [if_pos (by rw [show e = (k, e.2) from by rw [hk]]; exact h e.2)]
      simp [tget, hk]
    · split
      · simp [tget, hk, ih]
      · simp [tget, hk, ih]

theorem execTlCommit_of_pending (region code sweep tenant : Nat) (single discard : Bool) (c : EnCounter) (s : State)
    (hcounter : tget 0 (s.hub region).en.counters = some c) (hpending : c.pending = some (sweep, c.count)) :
    ∃ t, execTlCommit region discard code sweep single tenant s = .next t ∧ tget 0 (t.hub region).en.counters =
      some (if discard then { c with pending := none } else { c with base := c.count, ua := false, pending := none }) := by
  rw [execTlCommit]
  refine ⟨_, rfl, ?_⟩
  rw [State.freeCounters]
  dsimp only
  rw [hub_setHub_self]
  dsimp only
  rw [tget_filter_of_kept (by simp), State.modEn, hub_modHub_self, tget_tmap, hcounter]
  simp [hpending]

theorem execSweepTimeout_discards (w : Sweep) (s : State) (hsweep : s.tally.sweep = some w) (hawait : w.await ≠ []) (hstopped : s.stopped = false)
    (htenant : w.want.tenant = none) (hwants : s.tally.wants = []) : ∃ t, execSweepTimeout s = .next t ∧ t.tally.sweep = none ∧
      t.get Reg.TLY_EVENT_DISCARD 0 = 1 ∧ t.get Reg.TLY_LAST_COMPLETE 0 = 0 ∧ t.get Reg.TLY_LAST_CAUSE 0 = 1 := by
  rw [execSweepTimeout, hsweep]
  refine ⟨_, rfl, ?_⟩
  dsimp only
  rw [if_neg (by simp [hawait, hstopped]), State.discardSweep, hsweep]
  dsimp only
  rw [State.sweepAgain, if_pos (by simp [htenant]), State.showSweep]
  generalize hv : { s with tally := { s.tally with sweep := none, counters := tmap (fun _ (c : EnCounter) => { c with pending := none }) s.tally.counters } } = v
  have hnone : v.tally.sweep = none := by rw [← hv]
  obtain ⟨regs, hregs⟩ := exists_setAll_eq v 0 [(Reg.TLY_LAST_SWEEP, w.number), (Reg.TLY_LAST_COMPLETE, flag (1 == 0)),
    (Reg.TLY_LAST_SINGLE, flag w.want.tenant.isSome), (Reg.TLY_LAST_TENANT, w.want.tenant.getD 0), (Reg.TLY_LAST_CAUSE, 1), (Reg.TLY_LAST_T, w.t)]
  rw [kickSweeps_of_no_wants (by rw [hregs, ← hv]; exact hwants)]
  refine ⟨by rw [hregs]; exact hnone, get_raise_self _ _ _, ?_, ?_⟩
  · simp (disch := decide) only [State.setAll, get_send, get_raise_apart, get_set_apart, get_set_self]
    rfl
  · simp (disch := decide) only [State.setAll, get_send, get_raise_apart, get_set_apart, get_set_self]
    rfl

/-! ## Statements and batches (R332, R334, R335) -/

theorem execStatementRequest_queues (tenant reqid ten tag : Nat) (s : State) (hadmits : s.admits ten tag (some tenant) = true)
    (htenant : s.tenantActive tenant = true) (hidle : s.on Reg.TEN_TLY_STATUS_BUSY tenant = false) (hactive : (s.ep tenant).active = true)
    (hroom : s.tally.reserved < 256) : ∃ t, execStatementRequest tenant reqid ten tag s = .next t ∧ (tenant, wrap 64 reqid) ∈ t.tally.requests ∧
      t.get Reg.TEN_TLY_STATUS_BUSY tenant = 1 ∧ t.get Reg.TEN_TLY_REQ_REQID tenant = wrap Reg.TEN_TLY_REQ_REQID.w reqid ∧
      .ghpRs (wrap 6 tag) 0 0 ∈ t.pulses := by
  rw [execStatementRequest, htenant, hostWrite_of_admits hadmits, State.statementWrite, if_neg (by simp [hidle])]
  refine ⟨_, rfl, ?_⟩
  dsimp only
  rw [ep_set, if_neg (by simp [hactive]), if_neg (by exact Nat.not_le.mpr hroom)]
  generalize hu : State.setAll _ tenant _ = u
  have hbusy : u.get Reg.TEN_TLY_STATUS_BUSY tenant = 1 ∧ u.get Reg.TEN_TLY_REQ_REQID tenant = wrap Reg.TEN_TLY_REQ_REQID.w reqid := by
    rw [← hu]
    simp (disch := decide) only [State.setAll, get_set_apart, get_set_self]
    exact ⟨rfl, trivial⟩
  generalize hv : State.noteSweep _ (some tenant) 0 = v
  obtain ⟨w, p, htally⟩ := exists_kickSweeps_tally v
  have hkept : ∀ f : RegField, ({ regs := [.tly], fl := true, tally := true } : Fields).has f.unit = false → v.kickSweeps.get f tenant = u.get f tenant :=
    fun f hf => (get_of_blank (kickSweeps_blank_proposals v) hf tenant).trans (by rw [← hv]; rfl)
  refine ⟨?_, (hkept _ (by decide)).trans hbusy.1, (hkept _ (by decide)).trans hbusy.2, by simp [State.emit]⟩
  change _ ∈ v.kickSweeps.tally.requests
  rw [htally, ← hv]
  simp [State.noteSweep]

/-- Offering a root to the Vault changes no batch, and of the registers only NOSIGN (R335). -/
theorem signNext_keeps (s : State) : s.signNext.tally.batch = s.tally.batch ∧ s.signNext.tally.unsigned = s.tally.unsigned ∧
    ∀ f : RegField, f.apart Reg.TLY_STATUS_NOSIGN = true → s.signNext.get f 0 = s.get f 0 := by
  rw [State.signNext]
  split
  · exact ⟨rfl, rfl, fun f hf => get_set_apart hf _ 0 _⟩
  · next b _ _ =>
    have htally := tally_of_blank (vaultAsk_blank (F := { vault := true }) { s with tally := { s.tally with signing := some b.number } } (.signRoot b.number) rfl) rfl
    split
    · exact ⟨rfl, rfl, fun _ _ => rfl⟩
    · split
      · exact ⟨(congrArg Tally.batch htally :), (congrArg Tally.unsigned htally :), fun f hf => (get_set_apart hf _ 0 _).trans (get_vaultAsk _ _ f 0)⟩
      · exact ⟨rfl, rfl, fun f hf => get_set_apart hf _ 0 _⟩

theorem closeBatch_of_open {s : State} {b : Batch} (hbatch : s.tally.batch = some b) : s.closeBatch.tally.batch = none ∧
    { b with gt1 := s.gt } ∈ s.closeBatch.tally.unsigned ∧ s.closeBatch.get Reg.TLY_BATCHNUM_BATCH 0 = wrap Reg.TLY_BATCHNUM_BATCH.w b.number := by
  rw [State.closeBatch, hbatch]
  dsimp only
  obtain ⟨hnone, hunsigned, hkept⟩ := signNext_keeps
    (State.set { s with tally := { s.tally with batch := none, unsigned := s.tally.unsigned ++ [{ b with gt1 := s.gt }] } } Reg.TLY_BATCHNUM_BATCH 0 b.number)
  exact ⟨hnone, by rw [hunsigned]; simp [State.set], (hkept _ (by decide)).trans (get_set_self _ _ _ _)⟩

theorem execBatchTimeout_closes (b : Batch) (s : State) (hbatch : s.tally.batch = some b) : ∃ t, execBatchTimeout s = .next t ∧ t.tally.batch = none ∧
    { b with gt1 := s.gt } ∈ t.tally.unsigned ∧ t.get Reg.TLY_BATCHNUM_BATCH 0 = wrap Reg.TLY_BATCHNUM_BATCH.w b.number :=
  ⟨_, rfl, closeBatch_of_open hbatch⟩

theorem execBatchClose_closes (ten tag : Nat) (b : Batch) (s : State) (hadmits : s.admits ten tag none = true) (hbatch : s.tally.batch = some b) :
    ∃ t, execBatchClose ten tag s = .next t ∧ t.tally.batch = none ∧ { b with gt1 := s.gt } ∈ t.tally.unsigned ∧
      t.get Reg.TLY_BATCHNUM_BATCH 0 = wrap Reg.TLY_BATCHNUM_BATCH.w b.number ∧ .ghpRs (wrap 6 tag) 0 0 ∈ t.pulses := by
  obtain ⟨hnone, hunsigned, hnumber⟩ := closeBatch_of_open hbatch
  rw [execBatchClose, hostWrite_of_admits hadmits]
  exact ⟨_, rfl, hnone, hunsigned, hnumber, by simp [State.emit]⟩

/-- The tail of the Tally's ring, which the host alone moves (R334). -/
def State.ringTail (s : State) : Nat := s.get Reg.TLY_RTAIL_OFFSET 0

theorem tail_closeBatch (s : State) : s.closeBatch.ringTail = s.ringTail := by
  rw [State.closeBatch]
  split
  · rfl
  · exact ((signNext_keeps _).2.2 Reg.TLY_RTAIL_OFFSET (by decide)).trans (get_set_apart (by decide) _ 0 _)

theorem tail_ringWrite (s : State) (n data seq : Nat) : (s.ringWrite n data seq).ringTail = s.ringTail :=
  get_of_blank (F := { tally := true, sys := true }) (by apply ringWrite_blank <;> rfl) rfl 0

theorem tail_joinBatch (s : State) (x : Statement) : (s.joinBatch x).ringTail = s.ringTail := by
  unfold State.joinBatch
  extract_lets leaf b y u
  split
  · exact tail_closeBatch _
  · rfl

theorem tail_pumpRoots (l : List Nat) (s : State) : (s.pumpRoots l).ringTail = s.ringTail := by
  induction l generalizing s with
  | nil => rfl
  | cons x rest ih =>
    rw [State.pumpRoots]
    split
    · exact (ih _).trans (tail_ringWrite _ _ _ _)
    · exact get_raise_apart (by decide) s 0

theorem tail_pumpStatements (l : List Statement) (s : State) : (s.pumpStatements l).ringTail = s.ringTail := by
  induction l generalizing s with
  | nil => rfl
  | cons x rest ih =>
    rw [State.pumpStatements]
    split
    · exact (ih _).trans ((tail_joinBatch _ _).trans (tail_ringWrite _ _ _ _))
    · exact get_raise_apart (by decide) s 0

theorem tail_pumpRing (s : State) : s.pumpRing.ringTail = s.ringTail := by
  rw [State.pumpRing]
  split
  · exact (tail_pumpStatements _ _).trans (tail_pumpRoots _ _)
  · exact tail_pumpRoots _ _

theorem execTlyRtailWrite_stores (offset ten tag : Nat) (s : State) (hadmits : s.admits ten tag none = true) : ∃ t,
    execTlyRtailWrite offset ten tag s = .next t ∧ t.get Reg.TLY_RTAIL_OFFSET 0 = wrap Reg.TLY_RTAIL_OFFSET.w offset ∧
      .ghpRs (wrap 6 tag) 0 0 ∈ t.pulses := by
  rw [execTlyRtailWrite, hostWrite_of_admits hadmits]
  exact ⟨_, rfl, (tail_pumpRing _).trans (get_set_self _ _ _ _), by simp [State.emit]⟩

theorem execSignRoot_asks (b : Batch) (rest : List Batch) (s : State) (hasks : s.asksVault = true) (hunsigned : s.tally.unsigned = b :: rest)
    (hsigning : s.tally.signing = none) (hkey : s.canSignRoot = true) : ∃ t, execSignRoot s = .next t ∧ t.tally.signing = some b.number ∧
      t.vault.queue = s.vault.queue ++ [.signRoot b.number] ∧ t.get Reg.TLY_STATUS_NOSIGN 0 = 0 := by
  simp only [State.asksVault, Bool.and_eq_true, decide_eq_true_eq, List.isEmpty_iff] at hasks
  obtain ⟨⟨hserves, hroom⟩, houtside⟩ := hasks
  rw [execSignRoot, State.signNext, hunsigned]
  dsimp only
  rw [hsigning, if_neg (by decide), if_pos hkey, State.vaultAsk, if_pos (by exact hserves)]
  have htake : (s.vault.outside ++ [VaultReq.signRoot b.number]).take (32 - s.vault.queue.length) = [.signRoot b.number] := by
    rw [houtside, List.nil_append, List.take_of_length_le]
    rw [List.length_singleton]
    omega
  exact ⟨_, rfl, rfl, congrArg (s.vault.queue ++ ·) htake, get_set_self _ _ _ _⟩

/-- Settles O38. -/
theorem tallyCommands : Obligations.TallyCommands := ⟨execSweepPeriod_proposes, execTlReport_of_others, execTlReport_of_last, execTlCommit_of_pending,
    execSweepTimeout_discards, execStatementRequest_queues, execBatchTimeout_closes, execBatchClose_closes, execTlyRtailWrite_stores, execSignRoot_asks⟩

end Sys2Proof.Machine
end

section
/-! SUPPORT. The Vault (R345, R354, R361, R362): its error state, its self-tests, its noise source and its tamper inputs. -/

namespace Sys2Proof.Machine

open Sys2Proof

/-! ## The error state (R362) -/

/-- Ending requests leaves the state and the cache of the Vault (R362). -/
theorem endRequests_keeps (s : State) : s.endRequests.vault.st = s.vault.st ∧ s.endRequests.vault.cache = s.vault.cache := by
  unfold State.endRequests
  extract_lets hadToken u csrc v vsrc tsrc w
  have hu : u.vault = s.vault := apply_foldl State.vault _ (by
    intro s e
    split
    · exact vault_of_blank (F := { colo := true, regs := [.tenant] }) (by apply coloRefused_blank <;> rfl) rfl
    · rfl) _ _
  have hw : ∀ x : State, x.vault = w.vault → x.vault.st = s.vault.st ∧ x.vault.cache = s.vault.cache := fun x hx => by
    rw [hx, ← hu]
    exact ⟨rfl, rfl⟩
  split
  · obtain ⟨regs, hregs⟩ := exists_setAll_eq w 0 [(Reg.VLT_TOKST_BUSY, 0), (Reg.VLT_TOKST_RESULT, 3), (Reg.VLT_TOKST_APPROVED, 0)]
    rw [hregs]
    exact hw _ rfl
  · exact hw _ rfl

/-- The parts of the state that show the Vault in its error state. -/
def State.vaultError (s : State) : VaultState × Bool × Nat × Nat :=
  (s.vault.st, s.vault.cache, s.get Reg.VLT_STATUS_ERRCODE 0, s.get Reg.VLT_STATUS_ERRKIND 0)

theorem vaultError_enterError {s : State} (hoff : s.vault.st ≠ .off) (herror : s.vault.st ≠ .error) (code kind : Nat) :
    (s.enterError code kind).vaultError = (.error, false, wrap Reg.VLT_STATUS_ERRCODE.w code, wrap Reg.VLT_STATUS_ERRKIND.w kind) := by
  rw [State.enterError, if_neg (by simp [hoff, herror])]
  extract_lets v u
  obtain ⟨hst, hcache⟩ : u.vault.st = .error ∧ u.vault.cache = false := endRequests_keeps _
  obtain ⟨regs, hregs⟩ := exists_setAll_eq u 0 [(Reg.VLT_STATUS_ERRCODE, code), (Reg.VLT_STATUS_ERRKIND, kind), (Reg.VLT_CTRL_STNOW, 0)]
  have hvault : (u.setAll 0 [(Reg.VLT_STATUS_ERRCODE, code), (Reg.VLT_STATUS_ERRKIND, kind), (Reg.VLT_CTRL_STNOW, 0)]).vault = u.vault := by rw [hregs]
  rw [State.vaultError, hvault, hst, hcache]
  simp (disch := decide) only [State.setAll, get_set_apart, get_set_self]

theorem vaultError_of_blank {F : Fields} {s t : State} (h : t.blank F = s.blank F) (hvault : F.vault = false) (hvlt : F.has .vlt = false) :
    t.vaultError = s.vaultError := by
  rw [State.vaultError, State.vaultError, vault_of_blank h hvault, get_of_blank (f := Reg.VLT_STATUS_ERRCODE) h hvlt,
    get_of_blank (f := Reg.VLT_STATUS_ERRKIND) h hvlt]

/-- A fault of the Vault leads to ERROR with its code and the class of its kind (R362). -/
theorem vaultError_vaultFault {s : State} (hoff : s.vault.st ≠ .off) (herror : s.vault.st ≠ .error) (kind code : Nat) :
    (s.vaultFault kind code).vaultError = (.error, false, wrap Reg.VLT_STATUS_ERRCODE.w code,
      wrap Reg.VLT_STATUS_ERRKIND.w (if kind = 0x701 then 1 else if kind = 0x702 then 2 else 3)) := by
  rw [State.vaultFault, if_neg (by simp [hoff, herror])]
  extract_lets u
  have hu : u.vaultError = _ := vaultError_enterError hoff herror code (if kind = 0x701 then 1 else if kind = 0x702 then 2 else 3)
  rw [← hu]
  split
  · exact vaultError_of_blank (F := { ldg := true, bru := true, pwr := true, pulses := true, regs := [.bru, .ldg] }) (by apply bruRefuse_blank <;> rfl) rfl rfl
  · rfl

/-! ## Self-tests (R345, R361) -/

/-- With no token in hand and no nonce due, the end of a test does nothing more. -/
theorem afterTests_of_idle {s : State} (htoken : s.vault.token = none) (hdue : s.vault.nonceDue = []) : s.afterTests = { s with vault := { s.vault with nonceDue := [] } } := by
  rw [State.afterTests, hdue]
  dsimp only [List.foldl_nil]
  rw [htoken]

theorem bruNext_keeps (s : State) : s.bruNext.vault = s.vault ∧ ∀ i, s.bruNext.get Reg.VLT_STATUS_BLOB i = s.get Reg.VLT_STATUS_BLOB i := by
  have hnext := bruNext_blank (F := { hubs := true, flt := true, fl := true, ldg := true, tally := true, link := true, colo := true, sys := true, stk := true, bru := true, pwr := true, flue := true, pulses := true, freeCtr := true, regs := [.bru, .flt, .ccd, .stk, .channel, .ldg, .folio, .cat, .clp, .tenant] }) s rfl rfl rfl rfl rfl rfl rfl rfl rfl rfl rfl rfl rfl rfl rfl rfl rfl rfl rfl rfl rfl rfl rfl rfl
  exact ⟨vault_of_blank hnext rfl, get_of_blank hnext rfl⟩

/-- A key store that is taken fills the cache and shows its place; without a device key the Vault is unprovisioned (R345). -/
theorem loadImage_fills (s : State) (i : KeyImage) (blob : Nat) : (s.loadImage i blob).vault.image = i ∧ (s.loadImage i blob).vault.cache = true ∧
    (s.loadImage i blob).vault.token = s.vault.token ∧ (s.loadImage i blob).vault.nonceDue = s.vault.nonceDue ∧
    (s.loadImage i blob).vault.st = (if (tgetD {} hDevid i.keys).st = 0 then .unprovisioned else .operational) ∧
    (s.loadImage i blob).get Reg.VLT_STATUS_BLOB 0 = wrap Reg.VLT_STATUS_BLOB.w blob := by
  obtain ⟨regs, hregs⟩ := exists_setAll_eq (State.deriveKeys { s with vault := { s.vault with image := i, keys := i.keys.foldl (fun (t : Table VaultKey) e => tput e.1 e.2 t) s.vault.keys, st := if (tgetD {} hDevid i.keys).st = 0 then .unprovisioned else .operational } })
    0 [(Reg.VLT_STATUS_BLOB, blob), (Reg.VLT_DEVID_DEVID, i.devid)]
  have hblob : (s.loadImage i blob).get Reg.VLT_STATUS_BLOB 0 = wrap Reg.VLT_STATUS_BLOB.w blob := by
    rw [State.loadImage]
    simp (disch := decide) only [State.setAll, get_set_apart, get_set_self]
  refine ⟨?_, ?_, ?_, ?_, ?_, hblob⟩ <;> (rw [State.loadImage, hregs]; rfl)

theorem execVaultSelftestDone_of_no_store (s : State) (code : Nat) (bankOk aOk bOk : Bool) (hst : s.vault.st = .selftest) (hbanked : s.vault.banked = none)
    (hblobs : s.vault.blobs = [none, none]) (htoken : s.vault.token = none) (hdue : s.vault.nonceDue = []) :
    ∃ t, execVaultSelftestDone 0 code bankOk aOk bOk s = .next t ∧ t.vault.st = .unprovisioned ∧ t.vault.cache = true ∧
      t.get Reg.VLT_STATUS_BLOB 0 = 0 := by
  rw [execVaultSelftestDone, if_neg (by simp [hst])]
  refine ⟨_, rfl, ?_⟩
  rw [if_pos rfl]
  generalize hu : s.bump Reg.VLT_STCNT_COUNT 0 1 = u
  have hvault : u.vault = s.vault := by rw [← hu]; rfl
  have hstore : u.chooseStore bankOk aOk bOk = u.loadImage {} 0 := by
    rw [State.chooseStore]
    simp [hvault, hbanked, hblobs]
  obtain ⟨-, hcache, htok, hnd, hst', hblob⟩ := loadImage_fills u {} 0
  obtain ⟨hnext, hget⟩ := bruNext_keeps (u.chooseStore bankOk aOk bOk).afterTests
  rw [hnext, hget, hstore, afterTests_of_idle (by rw [htok, hvault, htoken]) (by rw [hnd, hvault, hdue])]
  exact ⟨hst', hcache, hblob⟩

theorem execVaultSelftestDone_of_banked (i : KeyImage) (code : Nat) (aOk bOk : Bool) (s : State) (hst : s.vault.st = .selftest)
    (hbanked : s.vault.banked = some i) (htoken : s.vault.token = none) (hdue : s.vault.nonceDue = []) :
    ∃ t, execVaultSelftestDone 0 code true aOk bOk s = .next t ∧ t.vault.image = i ∧ t.vault.cache = true ∧ t.get Reg.VLT_STATUS_BLOB 0 = 3 := by
  rw [execVaultSelftestDone, if_neg (by simp [hst])]
  refine ⟨_, rfl, ?_⟩
  rw [if_pos rfl]
  generalize hu : s.bump Reg.VLT_STCNT_COUNT 0 1 = u
  have hvault : u.vault = s.vault := by rw [← hu]; rfl
  have hstore : u.chooseStore true aOk bOk = u.loadImage i 3 := by
    rw [State.chooseStore]
    simp [hvault, hbanked]
  obtain ⟨himage, hcache, htok, hnd, -, hblob⟩ := loadImage_fills u i 3
  obtain ⟨hnext, hget⟩ := bruNext_keeps (u.chooseStore true aOk bOk).afterTests
  rw [hnext, hget, hstore, afterTests_of_idle (by rw [htok, hvault, htoken]) (by rw [hnd, hvault, hdue])]
  exact ⟨himage, hcache, hblob⟩

theorem execVaultSelftestDone_of_failure (kind code : Nat) (bankOk aOk bOk : Bool) (s : State) (hst : s.vault.st = .selftest) (hkind : kind ≠ 0) :
    ∃ t, execVaultSelftestDone kind code bankOk aOk bOk s = .next t ∧ t.vault.st = .error ∧
      t.get Reg.VLT_STATUS_ERRCODE 0 = wrap Reg.VLT_STATUS_ERRCODE.w code := by
  rw [execVaultSelftestDone, if_neg (by simp [hst])]
  refine ⟨_, rfl, ?_⟩
  have hst' : (s.bump Reg.VLT_STCNT_COUNT 0 1).vault.st = .selftest := hst
  have herror := vaultError_vaultFault (s := s.bump Reg.VLT_STCNT_COUNT 0 1) (by rw [hst']; decide) (by rw [hst']; decide) kind code
  rw [if_neg hkind]
  exact ⟨congrArg Prod.fst herror, congrArg (fun p => p.2.2.1) herror⟩

theorem startPeriodic_of_serving {s : State} (hst : s.vault.st = .operational ∨ s.vault.st = .unprovisioned) :
    s.startPeriodic = { s with vault := { s.vault with back := s.vault.st, st := .periodic, testDue := false } } := by
  rcases hst with h | h <;> rw [State.startPeriodic, h]

theorem execPeriodicTestDue_starts (s : State) (hst : s.vault.st = .operational ∨ s.vault.st = .unprovisioned) : ∃ t, execPeriodicTestDue s = .next t ∧
    t.vault.st = .periodic ∧ t.vault.back = s.vault.st := by
  rw [execPeriodicTestDue, startPeriodic_of_serving hst]
  exact ⟨_, rfl, rfl, rfl⟩

theorem execStnow_starts (ten tag : Nat) (s : State) (hadmits : s.admits ten tag none = true)
    (hst : s.vault.st = .operational ∨ s.vault.st = .unprovisioned) : ∃ t, execStnow ten tag s = .next t ∧ t.vault.st = .periodic ∧
      t.vault.back = s.vault.st ∧ t.get Reg.VLT_CTRL_STNOW 0 = 1 ∧ .ghpRs (wrap 6 tag) 0 0 ∈ t.pulses := by
  rw [execStnow, hostWrite_of_admits hadmits, State.stnowWrite, if_neg (by rcases hst with h | h <;> simp [h]), if_pos hst,
    startPeriodic_of_serving (s := s.raise Reg.VLT_CTRL_STNOW 0) hst]
  exact ⟨_, rfl, rfl, rfl, get_raise_self s _ 0, by simp [State.emit]⟩

/-- ENTROPY_RAW ends where it began, with the start-up samples to be taken again (R345). -/
theorem endRaw_of_raw {s : State} (hst : s.vault.st = .entropyRaw) (hdue : s.vault.testDue = false) : s.endRaw.vault.st = s.vault.back ∧
    s.endRaw.vault.samples = 0 ∧ s.endRaw.get Reg.VLT_RAW_SAMPLES 0 = 0 := by
  rw [State.endRaw, if_pos hst]
  extract_lets src u
  have hnot : ¬ u.vault.testDue = true := by
    change ¬ s.vault.testDue = true
    simp [hdue]
  rw [if_neg hnot]
  exact ⟨rfl, rfl, get_set_self _ _ _ _⟩

theorem execStnow_ends_raw (ten tag : Nat) (s : State) (hadmits : s.admits ten tag none = true) (hst : s.vault.st = .entropyRaw)
    (hdue : s.vault.testDue = false) : ∃ t, execStnow ten tag s = .next t ∧ t.vault.st = s.vault.back ∧ t.vault.samples = 0 ∧
      .ghpRs (wrap 6 tag) 0 0 ∈ t.pulses := by
  obtain ⟨hback, hsamples, -⟩ := endRaw_of_raw hst hdue
  rw [execStnow, hostWrite_of_admits hadmits, State.stnowWrite, if_pos hst]
  exact ⟨_, rfl, hback, hsamples, by simp [State.emit]⟩

theorem execPeriodicTestDone_of_pass (s : State) (hst : s.vault.st = .periodic) (htoken : s.vault.token = none) (hdue : s.vault.nonceDue = []) :
    ∃ t, execPeriodicTestDone 0 s = .next t ∧ t.vault.st = s.vault.back ∧ t.get Reg.VLT_EVENT_PERIODIC 0 = 1 ∧ t.get Reg.VLT_CTRL_STNOW 0 = 0 := by
  rw [execPeriodicTestDone, if_neg (by simp [hst])]
  refine ⟨_, rfl, ?_⟩
  rw [if_pos rfl, afterTests_of_idle (by exact htoken) (by exact hdue)]
  exact ⟨rfl, get_raise_self _ _ _, (get_raise_apart (by decide) _ 0).trans (get_set_self _ _ _ _)⟩

theorem execPeriodicTestDone_of_failure (code : Nat) (s : State) (hst : s.vault.st = .periodic) (hcode : code ≠ 0) :
    ∃ t, execPeriodicTestDone code s = .next t ∧ t.vault.st = .error ∧ t.get Reg.VLT_STATUS_ERRCODE 0 = wrap Reg.VLT_STATUS_ERRCODE.w code ∧
      t.get Reg.VLT_STATUS_ERRKIND 0 = 1 := by
  rw [execPeriodicTestDone, if_neg (by simp [hst])]
  refine ⟨_, rfl, ?_⟩
  generalize hu : ((s.bump Reg.VLT_STCNT_COUNT 0 1).set Reg.VLT_CTRL_STNOW 0 0).raise Reg.VLT_EVENT_PERIODIC 0 = u
  have hst' : u.vault.st = .periodic := by rw [← hu]; exact hst
  have herror := vaultError_vaultFault (s := u) (by simp [hst']) (by simp [hst']) 0x701 code
  rw [if_neg hcode]
  exact ⟨congrArg Prod.fst herror, congrArg (fun p => p.2.2.1) herror, congrArg (fun p => p.2.2.2) herror⟩

/-- Settles O39. -/
theorem vaultTests : Obligations.VaultTests := ⟨execVaultSelftestDone_of_no_store, execVaultSelftestDone_of_banked, execVaultSelftestDone_of_failure,
    execPeriodicTestDue_starts, execStnow_starts, execStnow_ends_raw, execPeriodicTestDone_of_pass, execPeriodicTestDone_of_failure⟩

/-! ## The noise source (R354) -/

/-- The state in which a sample has been taken, whatever the health tests say of it (R354). -/
def State.takeSample (s : State) (x : Nat) : State :=
  let v := (s.vault.health x).1
  let raw := if v.st = .entropyRaw then v.raw ++ [x] else []
  let u := { s with vault := { v with raw := if raw.length ≥ 64 then [] else raw } }
  if raw.length ≥ 64 then u.set Reg.VLT_RAW_SAMPLES 0 (pack (raw.zipIdx.map (fun e => (e.2, 1, e.1)))) else u

theorem exists_takeSample (s : State) (x : Nat) : ∃ raw, (s.takeSample x).vault = { (s.vault.health x).1 with raw := raw } ∧
    (s.takeSample x).gt = s.gt ∧ (s.takeSample x).cfg = s.cfg := by
  unfold State.takeSample
  extract_lets v raw u
  refine ⟨if raw.length ≥ 64 then [] else raw, ?_⟩
  by_cases h : raw.length ≥ 64
  · rw [if_pos h]
    exact ⟨rfl, rfl, rfl⟩
  · rw [if_neg h]
    exact ⟨rfl, rfl, rfl⟩

/-- What a sample does, by what the health tests say of it and by how long ago they failed last (R354). -/
theorem execEntropySample_eq {s : State} (hoff : s.vault.st ≠ .off) (herror : s.vault.st ≠ .error) (sample : Nat) : execEntropySample sample s =
    let u := s.takeSample (wrap 1 sample)
    match (s.vault.health (wrap 1 sample)).2 with
    | none => .next (if u.vault.retest ∧ 4096 ≤ u.vault.samples then { u with vault := { u.vault with retest := false, generates := 0 } } else u)
    | some code =>
      if (match u.vault.failGt with | some g => decide (u.gt ≤ g + 250 * u.cfg.rclk) | none => false) then
        .next (u.vaultFault 0x701 (if decide (s.vault.samples < 4096) then 0x10 else code))
      else .next ({ u with vault := { u.vault with samples := 0, rct := none, apt := none, raw := [], failGt := some u.gt } }.raise Reg.VLT_EVENT_HEALTH1 0) := by
  rw [execEntropySample, if_neg (by simp [hoff, herror])]
  rfl

theorem execEntropySample_of_healthy (sample : Nat) (s : State) (hoff : s.vault.st ≠ .off) (herror : s.vault.st ≠ .error)
    (hhealth : (s.vault.health (wrap 1 sample)).2 = none) : ∃ t, execEntropySample sample s = .next t ∧ t.vault.samples = s.vault.samples + 1 ∧
      t.vault.rct = (s.vault.health (wrap 1 sample)).1.rct ∧ t.vault.apt = (s.vault.health (wrap 1 sample)).1.apt := by
  obtain ⟨raw, hvault, -, -⟩ := exists_takeSample s (wrap 1 sample)
  have hkept : ∀ v : Vault, (v.samples, v.rct, v.apt) = ((s.takeSample (wrap 1 sample)).vault.samples, (s.takeSample (wrap 1 sample)).vault.rct,
      (s.takeSample (wrap 1 sample)).vault.apt) → v.samples = s.vault.samples + 1 ∧ v.rct = (s.vault.health (wrap 1 sample)).1.rct ∧
      v.apt = (s.vault.health (wrap 1 sample)).1.apt := fun v hv => by
    rw [hvault] at hv
    exact ⟨congrArg Prod.fst hv, congrArg (fun p => p.2.1) hv, congrArg (fun p => p.2.2) hv⟩
  rw [execEntropySample_eq hoff herror, hhealth]
  refine ⟨_, rfl, ?_⟩
  split <;> exact hkept _ rfl

theorem execEntropySample_of_first_failure (sample code : Nat) (s : State) (hoff : s.vault.st ≠ .off) (herror : s.vault.st ≠ .error)
    (hhealth : (s.vault.health (wrap 1 sample)).2 = some code) (hfirst : s.vault.failGt = none) : ∃ t, execEntropySample sample s = .next t ∧
      t.vault.samples = 0 ∧ t.vault.failGt = some s.gt ∧ t.get Reg.VLT_EVENT_HEALTH1 0 = 1 ∧ t.vault.st = s.vault.st := by
  obtain ⟨raw, hvault, hgt, -⟩ := exists_takeSample s (wrap 1 sample)
  have hfail : (s.takeSample (wrap 1 sample)).vault.failGt = none := by rw [hvault]; exact hfirst
  rw [execEntropySample_eq hoff herror, hhealth]
  dsimp only
  rw [hfail, if_neg (by simp), hgt]
  refine ⟨_, rfl, rfl, rfl, get_raise_self _ _ _, ?_⟩
  change (s.takeSample (wrap 1 sample)).vault.st = _
  rw [hvault]
  rfl

theorem execEntropySample_of_second_failure (sample code g : Nat) (s : State) (hoff : s.vault.st ≠ .off) (herror : s.vault.st ≠ .error)
    (hhealth : (s.vault.health (wrap 1 sample)).2 = some code) (hfirst : s.vault.failGt = some g) (hwindow : s.gt ≤ g + 250 * s.cfg.rclk) :
    ∃ t, execEntropySample sample s = .next t ∧ t.vault.st = .error ∧ t.get Reg.VLT_STATUS_ERRKIND 0 = 1 := by
  obtain ⟨raw, hvault, hgt, hcfg⟩ := exists_takeSample s (wrap 1 sample)
  have hfail : (s.takeSample (wrap 1 sample)).vault.failGt = some g := by rw [hvault]; exact hfirst
  have hst : (s.takeSample (wrap 1 sample)).vault.st = s.vault.st := by rw [hvault]; rfl
  have hfault := vaultError_vaultFault (s := s.takeSample (wrap 1 sample)) (by rw [hst]; exact hoff) (by rw [hst]; exact herror) 0x701
    (if decide (s.vault.samples < 4096) then 0x10 else code)
  rw [execEntropySample_eq hoff herror, hhealth]
  dsimp only
  rw [hfail, hgt, hcfg, if_pos (by simpa using hwindow)]
  exact ⟨_, rfl, congrArg Prod.fst hfault, congrArg (fun p => p.2.2.2) hfault⟩

theorem execDrbgReseed_restarts (s : State) (hserves : s.vaultServes = true) (hmay : s.vault.mayReseed = true) : ∃ t, execDrbgReseed s = .next t ∧
    t.vault.generates = 0 := by
  rw [execDrbgReseed, if_pos ⟨hserves, hmay⟩]
  exact ⟨_, rfl, rfl⟩

theorem execEntropyRawEnd_ends (s : State) (hst : s.vault.st = .entropyRaw) (hdue : s.vault.testDue = false) : ∃ t, execEntropyRawEnd s = .next t ∧
    t.vault.st = s.vault.back ∧ t.vault.samples = 0 ∧ t.get Reg.VLT_RAW_SAMPLES 0 = 0 :=
  ⟨_, rfl, endRaw_of_raw hst hdue⟩

/-! ## Tamper inputs (R362) -/

/-- A tamper input leads to ERROR with its code, with the cache cleared (R362). -/
theorem vaultFault_of_tamper {s : State} (hoff : s.vault.st ≠ .off) (herror : s.vault.st ≠ .error) (code : Nat) :
    (s.vaultFault 0x702 code).vault.st = .error ∧ (s.vaultFault 0x702 code).vault.cache = false ∧
      (s.vaultFault 0x702 code).get Reg.VLT_STATUS_ERRCODE 0 = wrap Reg.VLT_STATUS_ERRCODE.w code ∧
      (s.vaultFault 0x702 code).get Reg.VLT_STATUS_ERRKIND 0 = 2 := by
  have h := vaultError_vaultFault hoff herror 0x702 code
  exact ⟨congrArg Prod.fst h, congrArg (fun p => p.2.1) h, congrArg (fun p => p.2.2.1) h, congrArg (fun p => p.2.2.2) h⟩

theorem execGlitchDetect_errs (s : State) (hoff : s.vault.st ≠ .off) (herror : s.vault.st ≠ .error) : ∃ t, execGlitchDetect s = .next t ∧
    t.vault.st = .error ∧ t.vault.cache = false ∧ t.get Reg.VLT_STATUS_ERRCODE 0 = 2 ∧ t.get Reg.VLT_STATUS_ERRKIND 0 = 2 :=
  ⟨_, rfl, vaultFault_of_tamper hoff herror 2⟩

theorem execScanModeEnable_errs (s : State) (hoff : s.vault.st ≠ .off) (herror : s.vault.st ≠ .error) : ∃ t, execScanModeEnable s = .next t ∧
    t.vault.st = .error ∧ t.vault.cache = false ∧ t.get Reg.VLT_STATUS_ERRCODE 0 = 1 ∧ t.get Reg.VLT_STATUS_ERRKIND 0 = 2 :=
  ⟨_, rfl, vaultFault_of_tamper hoff herror 1⟩

theorem execKeyStorePartitionAccess_errs (s : State) (hoff : s.vault.st ≠ .off) (herror : s.vault.st ≠ .error) :
    ∃ t, execKeyStorePartitionAccess s = .next t ∧ t.vault.st = .error ∧ t.vault.cache = false ∧ t.get Reg.VLT_STATUS_ERRCODE 0 = 4 ∧
      t.get Reg.VLT_STATUS_ERRKIND 0 = 2 :=
  ⟨_, rfl, vaultFault_of_tamper hoff herror 4⟩

/-- Settles O40. -/
theorem vaultEntropyAndTamper : Obligations.VaultEntropyAndTamper := ⟨execEntropySample_of_healthy, execEntropySample_of_first_failure,
    execEntropySample_of_second_failure, execDrbgReseed_restarts, execEntropyRawEnd_ends, execGlitchDetect_errs, execScanModeEnable_errs,
    execKeyStorePartitionAccess_errs⟩

end Sys2Proof.Machine
end

section
/-! SUPPORT. Requests to the Vault and how they are served (R347, R352, R365), and tokens (R355–R358). -/

namespace Sys2Proof.Machine

open Sys2Proof

/-! ## Requests (R347) -/

theorem asksVault_iff {s : State} : s.asksVault = true ↔ s.vaultServes = true ∧ s.vault.queue.length < 32 ∧ s.vault.outside = [] := by
  simp [State.asksVault, and_assoc]

/-- A request finds a place in the Vault's queue while fewer than 32 wait (R347). -/
theorem queue_vaultAsk {s : State} (h : s.asksVault = true) (q : VaultReq) : (s.vaultAsk q).vault.queue = s.vault.queue ++ [q] := by
  obtain ⟨hserves, hroom, houtside⟩ := asksVault_iff.mp h
  rw [State.vaultAsk, if_pos hserves]
  simp only [Vault.refill, houtside, List.nil_append]
  rw [List.take_of_length_le (by simp; omega)]

theorem asked_eq_contains {s : State} (h : s.asksVault = true) (q : VaultReq) : s.vault.asked q = s.vault.queue.contains q := by
  obtain ⟨-, -, houtside⟩ := asksVault_iff.mp h
  simp [Vault.asked, houtside]

theorem queue_askOnce {s : State} (h : s.asksVault = true) {q : VaultReq} (hq : s.vault.queue.contains q = false) :
    (s.askOnce q).vault.queue = s.vault.queue ++ [q] := by
  rw [State.askOnce, asked_eq_contains h, hq]
  exact queue_vaultAsk h q

theorem execRandom_queues (caller : Nat) (s : State) (h : s.asksVault = true) : ∃ t, execRandom caller s = .next t ∧
    t.vault.queue = s.vault.queue ++ [.random caller] := ⟨_, rfl, queue_vaultAsk h _⟩

theorem execDeriveRotkey_queues (region tenant : Nat) (s : State) (h : s.asksVault = true) : ∃ t, execDeriveRotkey region tenant s = .next t ∧
    t.vault.queue = s.vault.queue ++ [.deriveRotkey region tenant] := ⟨_, rfl, queue_vaultAsk h _⟩

theorem execHmacRecord_queues (len data : Nat) (s : State) (h : s.asksVault = true) : ∃ t, execHmacRecord len data s = .next t ∧
    t.vault.queue = s.vault.queue ++ [.hmacRecord len data] := ⟨_, rfl, queue_vaultAsk h _⟩

theorem execHmacLedger_queues (s : State) (h : s.asksVault = true) (hclosing : s.ldg.closing.isSome = true) (htrailer : s.ldg.trailer = none)
    (hq : s.vault.queue.contains (.hmacLedger s.ldg.page) = false) : ∃ t, execHmacLedger s = .next t ∧
      t.vault.queue = s.vault.queue ++ [.hmacLedger s.ldg.page] := by
  have hserves := (asksVault_iff.mp h).1
  have hopen : ¬ (s.ldg.closing.isNone = true ∨ s.ldg.trailer.isSome = true) := by
    rw [htrailer]
    cases hc : s.ldg.closing with
    | none => simp [hc] at hclosing
    | some c => simp
  refine ⟨_, rfl, ?_⟩
  rw [State.askSeal, if_neg hopen, if_neg (by simp [hserves]), if_neg (by rw [asked_eq_contains h, hq]; decide)]
  exact queue_vaultAsk h _

theorem execVerifyCharter_queues (s : State) (h : s.asksVault = true) (hstate : s.bru.state = .load)
    (hq : s.vault.queue.contains .verifyCharter = false) : ∃ t, execVerifyCharter s = .next t ∧ t.vault.queue = s.vault.queue ++ [.verifyCharter] := by
  rw [execVerifyCharter, if_pos hstate]
  exact ⟨_, rfl, queue_askOnce h hq⟩

theorem execTenantKeygen_queues (tenant : Nat) (s : State) (h : s.asksVault = true) (hq : s.vault.queue.contains (.keygen tenant) = false) :
    ∃ t, execTenantKeygen tenant s = .next t ∧ t.vault.queue = s.vault.queue ++ [.keygen tenant] :=
  ⟨_, rfl, queue_askOnce (s := s.keydropDone tenant) h hq⟩

theorem execTenantKeydrop_queues (tenant : Nat) (s : State) (h : s.asksVault = true) (hq : s.vault.queue.contains (.keydrop tenant) = false) :
    ∃ t, execTenantKeydrop tenant s = .next t ∧ t.vault.queue = s.vault.queue ++ [.keydrop tenant] := ⟨_, rfl, queue_askOnce h hq⟩

theorem execSignColophon_queues (tenant : Nat) (s : State) (h : s.asksVault = true) (hswept : (((s.ep tenant).colo.map (·.swept)).getD false) = true)
    (hq : s.vault.queue.contains (.signColophon tenant false) = false) : ∃ t, execSignColophon tenant s = .next t ∧
      t.vault.queue = s.vault.queue ++ [.signColophon tenant false] := by
  rw [execSignColophon, if_pos hswept]
  exact ⟨_, rfl, queue_askOnce h hq⟩

/-! ## Services (R352, R365) -/

/-- The state in which a request has left the queue and those outside have moved up. -/
def State.dequeued (s : State) (q : VaultReq) : State := { s with vault := { s.vault with queue := s.vault.queue.erase q }.refill }

theorem execVaultServiceDone_of_next {s : State} {q : VaultReq} (hserves : s.vaultServes = true) (hst : s.vault.st ≠ .periodic)
    (hnext : s.nextRequest = some q) (pairwise : Nat) : execVaultServiceDone pairwise s = match (generalizing := false) q with
      | .keygen _ => .next (if pairwise ≠ 0 then (s.dequeued q).vaultFault 0x701 pairwise else (s.dequeued q).serveRequest q)
      | _ => .next ((s.dequeued q).serveRequest q) := by
  rw [execVaultServiceDone, if_neg (by simp [hserves, hst]), hnext] <;> rfl

theorem execVaultServiceDone_draws (pairwise caller : Nat) (s : State) (hserves : s.vaultServes = true) (hst : s.vault.st ≠ .periodic)
    (hnext : s.nextRequest = some (.random caller)) (houtside : s.vault.outside = []) (hgenerates : s.vault.generates < 1048575) :
    ∃ t, execVaultServiceDone pairwise s = .next t ∧ t.vault.answer.map (fun a => (a.1, a.2.1)) = some (.random caller, true) ∧
      t.vault.queue = s.vault.queue.erase (.random caller) ∧ t.vault.generates = s.vault.generates + 1 := by
  have hkept : (s.dequeued (.random caller)).vault.generates = s.vault.generates := rfl
  have hbelow : ¬ (2 ^ 20 ≤ s.vault.generates + 1 ∧ (s.dequeued (.random caller)).vault.mayReseed = true) := by omega
  rw [execVaultServiceDone_of_next hserves hst hnext]
  refine ⟨_, rfl, rfl, ?_, ?_⟩
  · change (s.dequeued (.random caller)).vault.queue = _
    simp [State.dequeued, Vault.refill, houtside]
  · exact if_neg hbelow

theorem execVaultServiceDone_derives (pairwise region tenant : Nat) (s : State) (hserves : s.vaultServes = true) (hst : s.vault.st ≠ .periodic)
    (hnext : s.nextRequest = some (.deriveRotkey region tenant)) : ∃ t, execVaultServiceDone pairwise s = .next t ∧
      t.vault.answer = some (.deriveRotkey region tenant, true, s.rotationKey region tenant) := by
  rw [execVaultServiceDone_of_next hserves hst hnext]
  exact ⟨_, rfl, rfl⟩

theorem execVaultServiceDone_generates (tenant : Nat) (s : State) (hserves : s.vaultServes = true) (hst : s.vault.st ≠ .periodic)
    (hnext : s.nextRequest = some (.keygen tenant)) : ∃ t, execVaultServiceDone 0 s = .next t ∧ (tgetD {} (hColophon tenant) t.vault.keys).st = 1 ∧
      (tgetD {} (hColophon tenant) t.vault.keys).gen = (tgetD {} (hColophon tenant) s.vault.keys).gen + 1 := by
  rw [execVaultServiceDone_of_next hserves hst hnext]
  refine ⟨_, rfl, ?_⟩
  rw [if_neg (by simp), State.serveRequest]
  simp only [State.keygenDone, tgetD_tput_self]
  exact ⟨rfl, rfl⟩

theorem execVaultServiceDone_of_failed_pair (pairwise tenant : Nat) (s : State) (hserves : s.vaultServes = true) (hst : s.vault.st ≠ .periodic)
    (hnext : s.nextRequest = some (.keygen tenant)) (hpairwise : pairwise ≠ 0) : ∃ t, execVaultServiceDone pairwise s = .next t ∧
      t.vault.st = .error ∧ t.get Reg.VLT_STATUS_ERRKIND 0 = 1 := by
  have hlive : s.vault.st ≠ .off ∧ s.vault.st ≠ .error := by
    constructor <;> (intro h; simp [State.vaultServes, h] at hserves)
  have hfault := vaultError_vaultFault (s := s.dequeued (.keygen tenant)) hlive.1 hlive.2 0x701 pairwise
  rw [execVaultServiceDone_of_next hserves hst hnext]
  dsimp only
  rw [if_pos hpairwise]
  exact ⟨_, rfl, congrArg Prod.fst hfault, congrArg (fun p => p.2.2.2) hfault⟩

/-- Settles O41. -/
theorem vaultRequests : Obligations.VaultRequests := ⟨execRandom_queues, execDeriveRotkey_queues, execHmacRecord_queues, execHmacLedger_queues,
    execVerifyCharter_queues, execTenantKeygen_queues, execTenantKeydrop_queues, execSignColophon_queues, execVaultServiceDone_draws,
    execVaultServiceDone_derives, execVaultServiceDone_generates, execVaultServiceDone_of_failed_pair⟩

end Sys2Proof.Machine
end

section
/-! SUPPORT. Tokens (R355–R358): nonces, the work of the seven services, and rejections. -/

namespace Sys2Proof.Machine

open Sys2Proof

/-! ## Nonces (R357) -/

theorem execNonceRequest_issues (service ten tag : Nat) (s : State) (hadmits : s.admits ten tag none = true) (hservice : tokenService service = true)
    (hserves : s.vaultServes = true) (hst : s.vault.st ≠ .periodic) : ∃ t, execNonceRequest service ten tag s = .next t ∧
      (tget s.vault.nextSlot t.vault.slots).map (fun n => (n.service, n.gt, n.ended)) = some (service, s.gt, false) ∧
      t.get Reg.VLT_NONCE_SLOT 0 = wrap Reg.VLT_NONCE_SLOT.w s.vault.nextSlot ∧ .ghpRs (wrap 6 tag) 0 0 ∈ t.pulses := by
  have hserves' : (s.set Reg.VLT_NONCE_REQ_SERVICE 0 service).vaultServes = true := hserves
  have hst' : ¬ (s.set Reg.VLT_NONCE_REQ_SERVICE 0 service).vault.st = .periodic := hst
  rw [execNonceRequest, hostWrite_of_admits hadmits, State.nonceWrite]
  refine ⟨_, rfl, ?_⟩
  dsimp only
  rw [if_neg (by simp [hservice, hserves']), if_neg hst', State.issueNonce]
  dsimp only
  obtain ⟨n, u, hdraw, hslot, hgt⟩ : ∃ n u, (s.set Reg.VLT_NONCE_REQ_SERVICE 0 service).draw 128 = (n, u) ∧ u.vault.nextSlot = s.vault.nextSlot ∧ u.gt = s.gt :=
    ⟨_, _, rfl, rfl, rfl⟩
  rw [hdraw, hslot]
  dsimp only
  refine ⟨?_, ?_, by simp [State.emit]⟩
  · obtain ⟨regs, hregs⟩ := exists_setAll_eq { u with vault := { u.vault with slots := tput s.vault.nextSlot { nonce := n, service := service, gt := u.gt, order := u.vault.issued } u.vault.slots, issued := u.vault.issued + 1 } }
      0 [(Reg.VLT_NONCE_NONCE, n), (Reg.VLT_NONCE_SLOT, s.vault.nextSlot)]
    rw [hregs]
    change (tget s.vault.nextSlot (tput s.vault.nextSlot _ _)).map _ = _
    rw [tget_tput_self, hgt]
    rfl
  · exact get_set_self _ _ _ _

theorem execNonceLifetimeEnd_ends (slot : Nat) (n : NonceSlot) (s : State) (hslot : tget slot s.vault.slots = some n) :
    ∃ t, execNonceLifetimeEnd slot s = .next t ∧ tget slot t.vault.slots = some { n with ended := true } := by
  rw [execNonceLifetimeEnd, hslot]
  exact ⟨_, rfl, tget_tput_self _ _ _⟩

/-! ## A token that fits (R355, R358) -/

/-- The state in which a token is being carried out: the Vault is busy, and the token's nonce is used up. -/
def State.tokenTaken (s : State) (slots : Table NonceSlot) : State := { s.set Reg.VLT_TOKST_BUSY 0 1 with vault := { s.vault with slots := slots } }

/-- A service is carried out in a Vault that serves (R356). -/
theorem serving_of_serviceIn {service : Nat} {st : VaultState} (h : serviceIn service st = true) : st = .operational ∨ st = .unprovisioned := by
  revert h
  unfold serviceIn
  split <;> simp +contextual

theorem tokenGo_of_fits {s : State} {service : Nat} (h : s.tokenFits service = true) : (tokenIn s.tokbuf).service = service ∧
    serviceIn service s.vault.st = true ∧ ∃ slots, ∀ ecOk mlOk, s.tokenGo ecOk mlOk =
      if ecOk = false then (s.tokenTaken slots).tokenReject 6 else if mlOk = false then (s.tokenTaken slots).tokenReject 7
      else match (s.tokenTaken slots).carryOut service (tokenIn s.tokbuf).keyid (tokenIn s.tokbuf).param with
        | (s, some r) => s.tokenDone r
        | (s, none) => s := by
  simp only [State.tokenFits, Bool.and_eq_true, beq_iff_eq] at h
  obtain ⟨⟨⟨⟨⟨⟨⟨⟨⟨hbusy, hservice⟩, hknown⟩, hformat⟩, hreserved⟩, hdevid⟩, hofficer⟩, hslot⟩, hin⟩, hparam⟩ := h
  refine ⟨hservice, hin, ?_⟩
  obtain ⟨i, slot, hfound, hended⟩ : ∃ i slot, s.vault.slotOf (tokenIn s.tokbuf).nonce service = some (i, slot) ∧ slot.ended = false := by
    cases hs : s.vault.slotOf (tokenIn s.tokbuf).nonce service with
    | none => simp [hs] at hslot
    | some e => exact ⟨e.1, e.2, rfl, by simpa [hs] using hslot⟩
  refine ⟨tdel i s.vault.slots, fun ecOk mlOk => ?_⟩
  have hgo : s.tokenGo ecOk mlOk = (s.set Reg.VLT_TOKST_BUSY 0 1).runToken ecOk mlOk := by
    rw [State.tokenGo, if_neg (by simp [hbusy])]
    rcases serving_of_serviceIn hin with hst | hst <;> rw [hst]
  have hdevid' : (tokenIn s.tokbuf).devid = (s.set Reg.VLT_TOKST_BUSY 0 1).get Reg.VLT_DEVID_DEVID 0 := by rw [get_set_apart (by decide), hdevid]
  have hofficer' : (s.set Reg.VLT_TOKST_BUSY 0 1).officers.any (fun o => o.keyid == (tokenIn s.tokbuf).keyid) = true := hofficer
  have hfound' : (s.set Reg.VLT_TOKST_BUSY 0 1).vault.slotOf (tokenIn s.tokbuf).nonce service = some (i, slot) := hfound
  have hin' : ¬ serviceIn service (s.tokenTaken (tdel i s.vault.slots)).vault.st = false := by rw [show serviceIn service (s.tokenTaken (tdel i s.vault.slots)).vault.st = true from hin]; decide
  have hparam' : ¬ (s.tokenTaken (tdel i s.vault.slots)).paramOk service (tokenIn s.tokbuf).param = false := by rw [show (s.tokenTaken (tdel i s.vault.slots)).paramOk service (tokenIn s.tokbuf).param = true from hparam]; decide
  rw [hgo, State.runToken, show (s.set Reg.VLT_TOKST_BUSY 0 1).tokbuf = s.tokbuf from rfl]
  dsimp only
  rw [if_neg (by simp [hformat, hservice, hknown, hreserved]), if_neg (Classical.not_not.mpr hdevid'), if_neg (by simp [hofficer']), hservice, hfound']
  dsimp only
  rw [if_neg (by simp [hended])]
  cases ecOk
  · rfl
  cases mlOk
  · rfl
  simp only [reduceCtorEq, if_false]
  exact (if_neg hin').trans (if_neg hparam')

/-- What the completion of a token with result 0 shows (R358). -/
theorem tokenDone_ok (u : State) : (u.tokenDone 0).get Reg.VLT_TOKST_BUSY 0 = 0 ∧ (u.tokenDone 0).get Reg.VLT_TOKST_RESULT 0 = 0 ∧
    (u.tokenDone 0).get Reg.VLT_TOKST_APPROVED 0 = 1 ∧ ∃ regs, u.tokenDone 0 = { u with regs := regs } := by
  rw [State.tokenDone, if_pos rfl]
  refine ⟨?_, ?_, ?_, ?_⟩
  · simp (disch := decide) only [State.setAll, get_raise_apart, get_set_apart, get_set_self]
    rfl
  · simp (disch := decide) only [State.setAll, get_raise_apart, get_set_apart, get_set_self]
    rfl
  · simp (disch := decide) only [State.setAll, get_raise_apart, get_set_self]
    rfl
  · obtain ⟨regs, hregs⟩ := exists_setAll_eq u 0 [(Reg.VLT_TOKST_BUSY, 0), (Reg.VLT_TOKST_RESULT, 0), (Reg.VLT_TOKST_REASON, 0), (Reg.VLT_TOKST_APPROVED, if 0 = 0 then 1 else 0)]
    rw [hregs]
    exact ⟨_, rfl⟩

/-- The state after the host's write of a token that fits: what its service does with the token taken (R356, R358). -/
theorem tokenOf_of_fits {s : State} {service ten tag : Nat} (hadmits : s.admits ten tag none = true) (hfits : s.tokenFits service = true) :
    ∃ slots, s.tokenOf service ten tag = (match (s.tokenTaken slots).carryOut service (tokenIn s.tokbuf).keyid (tokenIn s.tokbuf).param with
      | (s, some r) => s.tokenDone r
      | (s, none) => s).emit (.ghpRs (wrap 6 tag) 0 0) := by
  obtain ⟨hservice, -, slots, hgo⟩ := tokenGo_of_fits hfits
  refine ⟨slots, ?_⟩
  rw [State.tokenOf, hostWrite_of_admits hadmits, if_pos hservice, hgo true true]
  rfl

/-- A token whose service ends with result 0 answers APPROVED and leaves the rest of what its service did (R358). -/
theorem tokenOf_of_work {s : State} {service ten tag : Nat} (P : State → Prop) (hadmits : s.admits ten tag none = true)
    (hfits : s.tokenFits service = true) (hwork : ∀ slots, ∃ u, (s.tokenTaken slots).carryOut service (tokenIn s.tokbuf).keyid (tokenIn s.tokbuf).param =
      (u, some 0) ∧ P ((u.tokenDone 0).emit (.ghpRs (wrap 6 tag) 0 0))) : (s.tokenOf service ten tag).get Reg.VLT_TOKST_BUSY 0 = 0 ∧
      (s.tokenOf service ten tag).get Reg.VLT_TOKST_RESULT 0 = 0 ∧ (s.tokenOf service ten tag).get Reg.VLT_TOKST_APPROVED 0 = 1 ∧
      P (s.tokenOf service ten tag) ∧ .ghpRs (wrap 6 tag) 0 0 ∈ (s.tokenOf service ten tag).pulses := by
  obtain ⟨slots, h⟩ := tokenOf_of_fits (ten := ten) (tag := tag) hadmits hfits
  obtain ⟨u, hu, hP⟩ := hwork slots
  obtain ⟨hbusy, hresult, happroved, -⟩ := tokenDone_ok u
  rw [hu] at h
  dsimp only at h
  rw [h]
  exact ⟨hbusy, hresult, happroved, hP, by simp [State.emit]⟩

/-! ## The seven services (R356, R363, R406, R477) -/

/-- A ledger without its staging queue, its write buffer and what it says of records lost: what a record that enters leaves. -/
def Ledger.unbuffered (l : Ledger) : Ledger := { l with stage := [], buf := [], foldOpen := false, lost0 := 0, lost1 := 0, depth := 0 }

theorem unbuffered_enter (l : Ledger) (r : LedgerRec) : (l.enter r).1.unbuffered = l.unbuffered := by
  have hmove : ∀ x : Ledger, x.move.unbuffered = x.unbuffered := fun _ => rfl
  have hnewest : ∀ (f : LedgerRec → LedgerRec) (x : Ledger), (x.mapNewest f).unbuffered = x.unbuffered := fun f x => by
    rw [Ledger.mapNewest]
    split
    · rfl
    · split <;> rfl
  rw [Ledger.enter]
  split
  · split
    · exact hnewest _ _
    · split
      · exact hmove _
      · split <;> rfl
  · split
    · exact hmove _
    · split <;> rfl

theorem unbuffered_record (s : State) (r : LedgerRec) : (s.record r).ldg.unbuffered = s.ldg.unbuffered := by
  have hlost : s.lostRecord.ldg.unbuffered = s.ldg.unbuffered := by
    rw [State.lostRecord]
    split
    · exact unbuffered_enter s.ldg _
    · rfl
  rw [State.record]
  dsimp only
  split <;> exact (unbuffered_enter _ r).trans hlost

theorem unbuffered_recordOf (s : State) (code src p0 p1 p2 : Nat) : (s.recordOf code src p0 p1 p2).ldg.unbuffered = s.ldg.unbuffered :=
  unbuffered_record s _

/-- The number of clears so far, which a clear alone counts (R406). -/
def State.clears (s : State) : Nat := s.ldg.cleargen

theorem clears_recordOf (s : State) (code src p0 p1 p2 : Nat) : (s.recordOf code src p0 p1 p2).clears = s.clears :=
  (congrArg Ledger.cleargen (unbuffered_recordOf s code src p0 p1 p2) :)

theorem clears_startErase (s : State) (b : Nat) (clear : Bool) : (s.startErase b clear).clears = s.clears := by
  rw [State.startErase]
  dsimp only
  split
  · rfl
  · split
    · rfl
    · exact clears_recordOf _ _ _ _ _ _

theorem clears_askSeal (s : State) : s.askSeal.clears = s.clears := by
  have hfinish : s.finishClose.clears = s.clears := by
    rw [State.finishClose]
    split
    · rfl
    · next early recovered flserr _ =>
      split
      · rfl
      · exact (congrArg Ledger.cleargen (ldg_of_blank (sealPage_blank (F := { vault := true, freeCtr := true, regs := [.ldg] }) s s.ldg.slot early recovered flserr rfl rfl rfl) rfl) :)
  rw [State.askSeal]
  split
  · rfl
  split
  · exact hfinish
  split
  · rfl
  · exact congrArg Ledger.cleargen (ldg_of_blank (F := { vault := true }) (by apply vaultAsk_blank; rfl) rfl)

theorem clears_pumpLedger (s : State) : s.pumpLedger.clears = s.clears := by
  rw [State.pumpLedger]
  dsimp only
  split
  · rfl
  split
  · exact clears_startErase _ _ _
  split
  · exact clears_askSeal _
  split
  · exact clears_startErase _ _ _
  split
  · rfl
  split
  · split
    · rfl
    · exact clears_askSeal _
  · split
    · exact clears_startErase _ _ _
    · rfl

theorem ledgerClear_of_idle {s : State} (hclearing : s.ldg.clearing = none) (archived keyid : Nat) : ∃ u, s.ledgerClear archived keyid = some u ∧
    u.ldg.cleargen = wrap 16 (s.ldg.cleargen + 1) := by
  rw [State.ledgerClear, if_neg (by simp [hclearing])]
  refine ⟨_, rfl, ?_⟩
  refine (clears_pumpLedger _).trans ?_
  exact congrArg (fun n => wrap 16 (n + 1)) (clears_recordOf s _ _ _ _ _)

theorem vaultAsk_serves (s : State) (q : VaultReq) : (s.vaultAsk q).vault.st = s.vault.st ∧ (s.vaultAsk q).vault.rekey = s.vault.rekey := by
  rw [State.vaultAsk]
  split <;> exact ⟨rfl, rfl⟩

/-- Offering a root to the Vault changes neither its state nor what it owes, nor the Ledger (R335). -/
theorem signNext_serves (s : State) : s.signNext.vault.st = s.vault.st ∧ s.signNext.vault.rekey = s.vault.rekey ∧ s.signNext.ldg = s.ldg := by
  have hldg : s.signNext.ldg = s.ldg := ldg_of_blank (F := { tally := true, vault := true, regs := [.tly] }) (by apply signNext_blank <;> rfl) rfl
  refine ⟨?_, ?_, hldg⟩ <;> rw [State.signNext] <;> split
  · rfl
  · split
    · rfl
    · split
      · exact (vaultAsk_serves _ _).1
      · rfl
  · rfl
  · split
    · rfl
    · split
      · exact (vaultAsk_serves _ _).2
      · rfl

/-- Provisioning leaves an operational Vault and a Ledger that begins at page 1 (R356, log 109). -/
theorem provision_provisions (s : State) : s.provision.vault.st = .operational ∧ s.provision.ldg.page = 1 := by
  obtain ⟨v, hv, hst, hpage⟩ : ∃ v : State, s.provision = v.signNext ∧ v.vault.st = .operational ∧ v.ldg.page = 1 := ⟨_, rfl, rfl, rfl⟩
  obtain ⟨hst', -, hldg⟩ := signNext_serves v
  rw [hv, hst', hldg]
  exact ⟨hst, hpage⟩

theorem execLedgerClear_clears (ten tag : Nat) (s : State) (hadmits : s.admits ten tag none = true) (hfits : s.tokenFits 1 = true)
    (hclearing : s.ldg.clearing = none) : ∃ t, execLedgerClear ten tag s = .next t ∧ t.get Reg.VLT_TOKST_BUSY 0 = 0 ∧ t.get Reg.VLT_TOKST_RESULT 0 = 0 ∧
      t.get Reg.VLT_TOKST_APPROVED 0 = 1 ∧ t.ldg.cleargen = wrap 16 (s.ldg.cleargen + 1) ∧ .ghpRs (wrap 6 tag) 0 0 ∈ t.pulses := by
  refine ⟨_, rfl, tokenOf_of_work (fun t => t.ldg.cleargen = wrap 16 (s.ldg.cleargen + 1)) hadmits hfits (fun slots => ?_)⟩
  obtain ⟨u, hu, hgen⟩ := ledgerClear_of_idle (s := s.tokenTaken slots) hclearing (bits (tokenIn s.tokbuf).param 0 32) (tokenIn s.tokbuf).keyid
  obtain ⟨-, -, -, regs, hregs⟩ := tokenDone_ok u
  refine ⟨u, ?_, ?_⟩
  · simp only [State.carryOut, hu]
  · rw [hregs]
    exact hgen

theorem execZeroise_zeroises (ten tag : Nat) (s : State) (hadmits : s.admits ten tag none = true) (hfits : s.tokenFits 2 = true) :
    ∃ t, execZeroise ten tag s = .next t ∧ t.get Reg.VLT_TOKST_BUSY 0 = 0 ∧ t.get Reg.VLT_TOKST_RESULT 0 = 0 ∧ t.get Reg.VLT_TOKST_APPROVED 0 = 1 ∧
      t.vault.st = .unprovisioned ∧ t.vault.image = {} ∧ t.vault.banked = none ∧ t.vault.slots = [] ∧ .ghpRs (wrap 6 tag) 0 0 ∈ t.pulses := by
  obtain ⟨hbusy, hresult, happroved, ⟨hst, himage, hbanked, hslots⟩, hpulse⟩ := tokenOf_of_work (ten := ten) (tag := tag)
    (fun t => t.vault.st = .unprovisioned ∧ t.vault.image = {} ∧ t.vault.banked = none ∧ t.vault.slots = []) hadmits hfits (fun slots => by
      obtain ⟨-, -, -, regs, hregs⟩ := tokenDone_ok (s.tokenTaken slots).zeroise
      refine ⟨_, rfl, ?_⟩
      rw [hregs]
      exact ⟨rfl, rfl, rfl, rfl⟩)
  exact ⟨_, rfl, hbusy, hresult, happroved, hst, himage, hbanked, hslots, hpulse⟩

theorem execProvision_provisions (ten tag : Nat) (s : State) (hadmits : s.admits ten tag none = true) (hfits : s.tokenFits 3 = true) :
    ∃ t, execProvision ten tag s = .next t ∧ t.get Reg.VLT_TOKST_BUSY 0 = 0 ∧ t.get Reg.VLT_TOKST_RESULT 0 = 0 ∧ t.get Reg.VLT_TOKST_APPROVED 0 = 1 ∧
      t.vault.st = .operational ∧ t.ldg.page = 1 ∧ .ghpRs (wrap 6 tag) 0 0 ∈ t.pulses := by
  obtain ⟨hbusy, hresult, happroved, ⟨hst, hpage⟩, hpulse⟩ := tokenOf_of_work (ten := ten) (tag := tag)
    (fun t => t.vault.st = .operational ∧ t.ldg.page = 1) hadmits hfits (fun slots => by
      obtain ⟨-, -, -, regs, hregs⟩ := tokenDone_ok (s.tokenTaken slots).provision
      refine ⟨_, rfl, ?_⟩
      rw [hregs]
      exact provision_provisions _)
  exact ⟨_, rfl, hbusy, hresult, happroved, hst, hpage, hpulse⟩

/-- The state in which a new Tally key is owed: the batch that is open has still to be signed under the old one (R356). -/
def State.rekeyOwed (s : State) (slots : Table NonceSlot) : State := { s.tokenTaken slots with vault := { (s.tokenTaken slots).vault with rekey := true } }

theorem tokenOf_rekey {s : State} {ten tag : Nat} (hadmits : s.admits ten tag none = true) (hfits : s.tokenFits 4 = true) :
    ∃ slots, s.tokenOf 4 ten tag = (s.rekeyOwed slots).closeBatch.rekeyIfDue.emit (.ghpRs (wrap 6 tag) 0 0) :=
  tokenOf_of_fits hadmits hfits

/-- What a new Tally key shows (R356). -/
theorem rekeyTally_shows (s : State) : s.rekeyTally.get Reg.VLT_TOKST_BUSY 0 = 0 ∧ s.rekeyTally.get Reg.VLT_TOKST_RESULT 0 = 0 ∧
    s.rekeyTally.get Reg.VLT_TOKST_APPROVED 0 = 1 ∧ s.rekeyTally.vault.rekey = false ∧ s.rekeyTally.get Reg.VLT_EVENT_TALLYKEY 0 = 1 := by
  unfold State.rekeyTally
  generalize s.newPair (tgetD {} hTally s.vault.image.keys) = p
  obtain ⟨k, w⟩ := p
  dsimp only
  generalize w.certificate 1 0 0 0 w.vault.image.devid 0 k = q
  obtain ⟨c, u⟩ := q
  dsimp only
  generalize hv : State.writeImage { u with vault := { u.vault with rekey := false } } _ = v
  have hrekey : v.vault.rekey = false := by
    rw [← hv]
    rfl
  obtain ⟨regs, hregs⟩ := exists_setAll_eq v 0 [(Reg.VLT_TOKST_BUSY, 0), (Reg.VLT_TOKST_RESULT, 0), (Reg.VLT_TOKST_REASON, 0), (Reg.VLT_TOKST_APPROVED, 1)]
  refine ⟨?_, ?_, ?_, by rw [hregs]; exact hrekey, get_raise_self _ _ _⟩
  · simp (disch := decide) only [State.setAll, get_raise_apart, get_set_apart, get_set_self]
    rfl
  · simp (disch := decide) only [State.setAll, get_raise_apart, get_set_apart, get_set_self]
    rfl
  · simp (disch := decide) only [State.setAll, get_raise_apart, get_set_self]
    rfl

theorem execRekeyTally_of_no_batch (ten tag : Nat) (s : State) (hadmits : s.admits ten tag none = true) (hfits : s.tokenFits 4 = true)
    (hbatch : s.tally.batch = none) (hunsigned : s.tally.unsigned = []) : ∃ t, execRekeyTally ten tag s = .next t ∧
      t.get Reg.VLT_TOKST_BUSY 0 = 0 ∧ t.get Reg.VLT_TOKST_RESULT 0 = 0 ∧ t.get Reg.VLT_TOKST_APPROVED 0 = 1 ∧ t.vault.rekey = false ∧
      t.get Reg.VLT_EVENT_TALLYKEY 0 = 1 ∧ .ghpRs (wrap 6 tag) 0 0 ∈ t.pulses := by
  obtain ⟨slots, h⟩ := tokenOf_rekey (ten := ten) (tag := tag) hadmits hfits
  have howed : (s.rekeyOwed slots).vault.rekey = true := rfl
  have hnone : (s.rekeyOwed slots).tally.batch = none := hbatch
  have hnil : (s.rekeyOwed slots).tally.unsigned = [] := hunsigned
  rw [execRekeyTally, h]
  generalize s.rekeyOwed slots = u at howed hnone hnil
  have hclose : u.closeBatch = u := by rw [State.closeBatch, hnone]
  have hdue : u.rekeyIfDue = u.rekeyTally := by rw [State.rekeyIfDue, if_pos ⟨howed, hnil⟩]
  obtain ⟨hbusy, hresult, happroved, hrekey, hevent⟩ := rekeyTally_shows u
  rw [hclose, hdue]
  generalize u.rekeyTally = z at hbusy hresult happroved hrekey hevent
  exact ⟨_, rfl, hbusy, hresult, happroved, hrekey, hevent, by simp [State.emit]⟩

theorem execRekeyTally_of_batch (ten tag : Nat) (b : Batch) (s : State) (hadmits : s.admits ten tag none = true) (hfits : s.tokenFits 4 = true)
    (hbatch : s.tally.batch = some b) : ∃ t, execRekeyTally ten tag s = .next t ∧ t.vault.rekey = true ∧ t.tally.batch = none ∧
      t.get Reg.VLT_TOKST_BUSY 0 = 1 ∧ .ghpRs (wrap 6 tag) 0 0 ∈ t.pulses := by
  obtain ⟨slots, h⟩ := tokenOf_rekey (ten := ten) (tag := tag) hadmits hfits
  obtain ⟨hnone, hunsigned, -⟩ := closeBatch_of_open (s := s.rekeyOwed slots) hbatch
  have hwaits : (s.rekeyOwed slots).closeBatch.rekeyIfDue = (s.rekeyOwed slots).closeBatch := by
    rw [State.rekeyIfDue, if_neg]
    rintro ⟨-, hnil⟩
    rw [hnil] at hunsigned
    exact List.not_mem_nil hunsigned
  have hkept : (s.rekeyOwed slots).closeBatch.vault.rekey = true ∧ (s.rekeyOwed slots).closeBatch.get Reg.VLT_TOKST_BUSY 0 = 1 := by
    rw [State.closeBatch, show (s.rekeyOwed slots).tally.batch = some b from hbatch]
    refine ⟨(signNext_serves _).2.1, ?_⟩
    exact ((signNext_keeps _).2.2 Reg.VLT_TOKST_BUSY (by decide)).trans ((get_set_apart (by decide) _ 0 _).trans (get_set_self s Reg.VLT_TOKST_BUSY 0 1))
  rw [execRekeyTally, h, hwaits]
  exact ⟨_, rfl, hkept.1, hnone, hkept.2, by simp [State.emit]⟩

theorem execRevokeOfficer_revokes (ten tag : Nat) (o : OfficerEntry) (s : State) (hadmits : s.admits ten tag none = true) (hfits : s.tokenFits 5 = true)
    (hfound : s.cfg.officers.find? (fun o => o.keyid == (tokenIn s.tokbuf).param) = some o) (hothers : s.officers.filter (fun x => x.key != o.key) ≠ [])
    (hnew : s.vault.image.revoked.contains o.key = false) : ∃ t, execRevokeOfficer ten tag s = .next t ∧ t.get Reg.VLT_TOKST_BUSY 0 = 0 ∧
      t.get Reg.VLT_TOKST_RESULT 0 = 0 ∧ t.get Reg.VLT_TOKST_APPROVED 0 = 1 ∧ t.vault.image.revoked = s.vault.image.revoked ++ [o.key] ∧
      t.vault.image.gen = s.vault.image.gen + 1 ∧ .ghpRs (wrap 6 tag) 0 0 ∈ t.pulses := by
  obtain ⟨hbusy, hresult, happroved, ⟨hrevoked, hgen⟩, hpulse⟩ := tokenOf_of_work (ten := ten) (tag := tag)
    (fun t => t.vault.image.revoked = s.vault.image.revoked ++ [o.key] ∧ t.vault.image.gen = s.vault.image.gen + 1) hadmits hfits (fun slots => by
      obtain ⟨-, -, -, regs, hregs⟩ := tokenDone_ok ((s.tokenTaken slots).writeImage { s.vault.image with revoked := s.vault.image.revoked ++ [o.key] })
      have hothers' : ¬ (s.tokenTaken slots).officers.filter (fun x => x.key != o.key) = [] := hothers
      have hnew' : ¬ (s.tokenTaken slots).vault.image.revoked.contains o.key = true := by
        rw [show (s.tokenTaken slots).vault.image.revoked.contains o.key = false from hnew]
        decide
      refine ⟨(s.tokenTaken slots).writeImage { s.vault.image with revoked := s.vault.image.revoked ++ [o.key] }, ?_, ?_⟩
      · simp only [State.carryOut, show (s.tokenTaken slots).cfg = s.cfg from rfl, hfound]
        rw [if_neg hothers', if_neg hnew']
        rfl
      · rw [hregs]
        exact ⟨rfl, rfl⟩)
  exact ⟨_, rfl, hbusy, hresult, happroved, hrevoked, hgen, hpulse⟩

/-- An unlock of the debug functions counts from now and is recorded (R477). -/
theorem debugUnlock_unlocks (s : State) (secs keyid : Nat) : (s.debugUnlock secs keyid).dbg.unlock = some (s.pwr.secs + secs) ∧
    (s.debugUnlock secs keyid).get Reg.DBG_UNLOCK_SECS 0 = wrap Reg.DBG_UNLOCK_SECS.w secs := by
  have hrecord := recordOf_blank (F := { ldg := true, regs := [.ldg] })
    (({ s with dbg := { s.dbg with unlock := some (s.pwr.secs + secs) } } : State).set Reg.DBG_UNLOCK_SECS 0 secs) 0x1503 dbgSrc secs keyid 0 rfl rfl
  have hset := get_set_self { s with dbg := { s.dbg with unlock := some (s.pwr.secs + secs) } } Reg.DBG_UNLOCK_SECS 0 secs
  have hget := (get_of_blank (f := Reg.DBG_UNLOCK_SECS) hrecord rfl 0).trans hset
  have hdbg := dbg_of_blank hrecord rfl
  unfold State.debugUnlock
  dsimp only
  refine ⟨?_, ?_⟩
  · rw [raise_dbg, hdbg] <;> rfl
  · rw [get_raise_apart (by decide), hget]

theorem execDebugUnlock_unlocks (ten tag : Nat) (s : State) (hadmits : s.admits ten tag none = true) (hfits : s.tokenFits 6 = true) :
    ∃ t, execDebugUnlock ten tag s = .next t ∧ t.get Reg.VLT_TOKST_BUSY 0 = 0 ∧ t.get Reg.VLT_TOKST_RESULT 0 = 0 ∧
      t.get Reg.VLT_TOKST_APPROVED 0 = 1 ∧ t.dbg.unlock = some (s.pwr.secs + (tokenIn s.tokbuf).param) ∧
      t.get Reg.DBG_UNLOCK_SECS 0 = wrap Reg.DBG_UNLOCK_SECS.w (tokenIn s.tokbuf).param ∧ .ghpRs (wrap 6 tag) 0 0 ∈ t.pulses := by
  obtain ⟨hbusy, hresult, happroved, ⟨hunlock, hsecs⟩, hpulse⟩ := tokenOf_of_work (ten := ten) (tag := tag)
    (fun t => t.dbg.unlock = some (s.pwr.secs + (tokenIn s.tokbuf).param) ∧
      t.get Reg.DBG_UNLOCK_SECS 0 = wrap Reg.DBG_UNLOCK_SECS.w (tokenIn s.tokbuf).param) hadmits hfits (fun slots => by
      have hdone := tokenDone_blank (F := { regs := [.vlt] }) ((s.tokenTaken slots).debugUnlock (tokenIn s.tokbuf).param (tokenIn s.tokbuf).keyid) 0 rfl
      obtain ⟨hunlock, hsecs⟩ := debugUnlock_unlocks (s.tokenTaken slots) (tokenIn s.tokbuf).param (tokenIn s.tokbuf).keyid
      refine ⟨(s.tokenTaken slots).debugUnlock (tokenIn s.tokbuf).param (tokenIn s.tokbuf).keyid, rfl, ?_⟩
      generalize (s.tokenTaken slots).debugUnlock (tokenIn s.tokbuf).param (tokenIn s.tokbuf).keyid = u at hdone hunlock hsecs
      have hdbg := dbg_of_blank hdone rfl
      have hget := get_of_blank (f := Reg.DBG_UNLOCK_SECS) hdone rfl 0
      rw [emit_dbg, get_emit, hdbg, hget]
      exact ⟨hunlock, hsecs⟩)
  exact ⟨_, rfl, hbusy, hresult, happroved, hunlock, hsecs, hpulse⟩

theorem vault_emit_tokenDone (u : State) (p : Pulse) : ((u.tokenDone 0).emit p).vault = u.vault := by
  obtain ⟨-, -, -, regs, hregs⟩ := tokenDone_ok u
  rw [hregs]
  rfl

theorem execEntropyRaw_starts (ten tag : Nat) (s : State) (hadmits : s.admits ten tag none = true) (hfits : s.tokenFits 7 = true) :
    ∃ t, execEntropyRaw ten tag s = .next t ∧ t.get Reg.VLT_TOKST_BUSY 0 = 0 ∧ t.get Reg.VLT_TOKST_RESULT 0 = 0 ∧
      t.get Reg.VLT_TOKST_APPROVED 0 = 1 ∧ t.vault.st = .entropyRaw ∧ t.vault.back = s.vault.st ∧ t.vault.rawSecs = (tokenIn s.tokbuf).param ∧
      .ghpRs (wrap 6 tag) 0 0 ∈ t.pulses := by
  obtain ⟨hbusy, hresult, happroved, ⟨hst, hback, hsecs⟩, hpulse⟩ := tokenOf_of_work (ten := ten) (tag := tag)
    (fun t => t.vault.st = .entropyRaw ∧ t.vault.back = s.vault.st ∧ t.vault.rawSecs = (tokenIn s.tokbuf).param) hadmits hfits (fun slots => by
      refine ⟨_, rfl, ?_⟩
      dsimp only
      rw [vault_emit_tokenDone]
      exact ⟨rfl, rfl, rfl⟩)
  exact ⟨_, rfl, hbusy, hresult, happroved, hst, hback, hsecs, hpulse⟩

/-! ## Rejections (R358) -/

/-- What a rejected token shows, with the fault it raises (R358). -/
theorem tokenReject_shows (u : State) (reason : Nat) : (u.tokenReject reason).get Reg.VLT_TOKST_RESULT 0 = 1 ∧
    (u.tokenReject reason).get Reg.VLT_TOKST_REASON 0 = wrap Reg.VLT_TOKST_REASON.w reason ∧ (u.tokenReject reason).get Reg.VLT_TOKST_BUSY 0 = 0 ∧
    (u.tokenReject reason).get Reg.VLT_EVENT_TOKREJ 0 = 1 ∧ (u.tokenReject reason).flt.queue.getLast?.map (·.kind) = some 0x704 := by
  refine ⟨?_, ?_, ?_, ?_, ?_⟩
  case refine_5 => simp [State.tokenReject, State.kilnFault]
  all_goals
    rw [State.tokenReject]
    change State.get (State.raise _ _ _) _ _ = _
    simp (disch := decide) only [State.setAll, get_raise_apart, get_raise_self, get_set_apart, get_set_self] <;> rfl

theorem execTokenReject_of_ecdsa (service ten tag : Nat) (mldsaOk : Bool) (s : State) (hadmits : s.admits ten tag none = true)
    (hfits : s.tokenFits service = true) : ∃ t, execTokenReject false mldsaOk ten tag s = .next t ∧ t.get Reg.VLT_TOKST_RESULT 0 = 1 ∧
      t.get Reg.VLT_TOKST_REASON 0 = 6 ∧ t.get Reg.VLT_TOKST_BUSY 0 = 0 ∧ t.get Reg.VLT_EVENT_TOKREJ 0 = 1 ∧
      t.flt.queue.getLast?.map (·.kind) = some 0x704 ∧ .ghpRs (wrap 6 tag) 0 0 ∈ t.pulses := by
  obtain ⟨-, -, slots, hgo⟩ := tokenGo_of_fits hfits
  obtain ⟨hresult, hreason, hbusy, hevent, hfault⟩ := tokenReject_shows (s.tokenTaken slots) 6
  rw [execTokenReject, hostWrite_of_admits hadmits, hgo, if_pos rfl]
  exact ⟨_, rfl, hresult, hreason, hbusy, hevent, hfault, by simp [State.emit]⟩

theorem execTokenReject_of_mldsa (service ten tag : Nat) (s : State) (hadmits : s.admits ten tag none = true) (hfits : s.tokenFits service = true) :
    ∃ t, execTokenReject true false ten tag s = .next t ∧ t.get Reg.VLT_TOKST_RESULT 0 = 1 ∧ t.get Reg.VLT_TOKST_REASON 0 = 7 ∧
      t.get Reg.VLT_TOKST_BUSY 0 = 0 ∧ t.get Reg.VLT_EVENT_TOKREJ 0 = 1 ∧ t.flt.queue.getLast?.map (·.kind) = some 0x704 ∧
      .ghpRs (wrap 6 tag) 0 0 ∈ t.pulses := by
  obtain ⟨-, -, slots, hgo⟩ := tokenGo_of_fits hfits
  obtain ⟨hresult, hreason, hbusy, hevent, hfault⟩ := tokenReject_shows (s.tokenTaken slots) 7
  rw [execTokenReject, hostWrite_of_admits hadmits, hgo, if_neg (by decide), if_pos rfl]
  exact ⟨_, rfl, hresult, hreason, hbusy, hevent, hfault, by simp [State.emit]⟩

theorem execTokenReject_of_format (ten tag : Nat) (ecdsaOk mldsaOk : Bool) (s : State) (hadmits : s.admits ten tag none = true)
    (hidle : s.on Reg.VLT_TOKST_BUSY 0 = false) (hst : s.vault.st = .operational) (hformat : (tokenIn s.tokbuf).format ≠ 0x0304) :
    ∃ t, execTokenReject ecdsaOk mldsaOk ten tag s = .next t ∧ t.get Reg.VLT_TOKST_RESULT 0 = 1 ∧ t.get Reg.VLT_TOKST_REASON 0 = 1 ∧
      t.get Reg.VLT_TOKST_BUSY 0 = 0 ∧ t.get Reg.VLT_EVENT_TOKREJ 0 = 1 ∧ t.flt.queue.getLast?.map (·.kind) = some 0x704 ∧
      .ghpRs (wrap 6 tag) 0 0 ∈ t.pulses := by
  obtain ⟨hresult, hreason, hbusy, hevent, hfault⟩ := tokenReject_shows (s.set Reg.VLT_TOKST_BUSY 0 1) 1
  have hgo : s.tokenGo ecdsaOk mldsaOk = (s.set Reg.VLT_TOKST_BUSY 0 1).tokenReject 1 := by
    rw [State.tokenGo, if_neg (by simp [hidle]), hst]
    dsimp only
    rw [State.runToken]
    exact if_pos (Or.inl hformat)
  rw [execTokenReject, hostWrite_of_admits hadmits, hgo]
  exact ⟨_, rfl, hresult, hreason, hbusy, hevent, hfault, by simp [State.emit]⟩

/-- Settles O42. -/
theorem vaultTokens : Obligations.VaultTokens := ⟨execNonceRequest_issues, execNonceLifetimeEnd_ends, execLedgerClear_clears, execZeroise_zeroises,
    execProvision_provisions, execRekeyTally_of_no_batch, execRekeyTally_of_batch, execRevokeOfficer_revokes, execDebugUnlock_unlocks,
    execEntropyRaw_starts, execTokenReject_of_ecdsa, execTokenReject_of_mldsa, execTokenReject_of_format⟩

end Sys2Proof.Machine
end

section
/-! SUPPORT. O43: the channels of the Stacker. -/
namespace Sys2Proof.Machine
open Sys2Proof

/-! ## The channels of the Stacker -/

theorem stkCh_setStkCh_self (s : State) (n : Nat) (c : StkCh) : (s.setStkCh n c).stkCh n = c := tgetD_tput_self ({} : StkCh) n c s.stk.chans

theorem stkCh_setStkCh_ne {n m : Nat} (h : m ≠ n) (s : State) (c : StkCh) : (s.setStkCh n c).stkCh m = s.stkCh m := tgetD_tput_ne h ({} : StkCh) c s.stk.chans

/-- A channel depends on the Stacker's own state alone. -/
theorem stkCh_congr {s t : State} (h : t.stk = s.stk) (n : Nat) : t.stkCh n = s.stkCh n := congrArg (fun k : Stacker => tgetD ({} : StkCh) n k.chans) h

@[simp] theorem stkCh_set (s : State) (f : RegField) (i v n : Nat) : (s.set f i v).stkCh n = s.stkCh n := rfl

@[simp] theorem stkCh_raise (s : State) (f : RegField) (i n : Nat) : (s.raise f i).stkCh n = s.stkCh n := rfl

@[simp] theorem stkCh_emit (s : State) (p : Pulse) (n : Nat) : (s.emit p).stkCh n = s.stkCh n := rfl

theorem get_setStkCh (s : State) (n : Nat) (c : StkCh) (f : RegField) (i : Nat) : (s.setStkCh n c).get f i = s.get f i := rfl

@[simp] theorem stkCh_send (s : State) (m : Msg) (n : Nat) : (s.send m).stkCh n = s.stkCh n := rfl

@[simp] theorem stkCh_setAll (s : State) (i : Nat) (l : List (RegField × Nat)) (n : Nat) : (s.setAll i l).stkCh n = s.stkCh n := by
  obtain ⟨regs, h⟩ := exists_setAll_eq s i l
  rw [h]
  rfl

@[simp] theorem stkCh_stkForget (s : State) (m n : Nat) : (s.stkForget m).stkCh n = s.stkCh n := rfl

@[simp] theorem stkCh_stkCountsFree (s : State) (m n : Nat) : (s.stkCountsFree m).stkCh n = s.stkCh n :=
  stkCh_congr (stk_of_blank (F := { freeCtr := true, regs := [.channel] }) (by apply stkCountsFree_blank <;> rfl) rfl) n

/-! ## GO and ABORT (R378) -/

theorem stk_stkFields (s : State) (n value ten : Nat) : (s.stkFields n value ten).stk = s.stk :=
  stk_of_blank (F := { regs := [.channel] }) (by apply stkFields_blank; rfl) rfl

theorem fl_stkFields (s : State) (n value ten : Nat) : (s.stkFields n value ten).fl = s.fl :=
  fl_of_blank (F := { regs := [.channel] }) (by apply stkFields_blank; rfl) rfl

theorem on_stkFields (s : State) (n value ten : Nat) {f : RegField} (hf : f.unit = .stk) (i : Nat) : (s.stkFields n value ten).on f i = s.on f i := by
  have h := get_of_blank (F := { regs := [.channel] }) (t := s.stkFields n value ten) (s := s) (f := f) (by apply stkFields_blank; rfl) (by rw [hf]; rfl) i
  rw [State.on, State.on, h]

theorem descAddr_stkFields (s : State) (n value ten : Nat) : (s.stkFields n value ten).get Reg.STK_CH_DESC_ADDR n = s.get Reg.STK_CH_DESC_ADDR n := by
  rw [State.stkFields]
  split
  case isTrue => rfl
  case isFalse =>
    dsimp only
    split
    case isTrue => rw [get_setAll_apart _ (by rfl), get_set_apart (by decide)]
    case isFalse => rw [get_set_apart (by decide)]

/-- A channel that starts fetches its first descriptor and counts from zero (R378). -/
theorem stkStart_fetches (s : State) (n : Nat) : ((s.stkStart n).stkCh n).st = .fetch ∧
    ((s.stkStart n).stkCh n).at_ = 64 * s.get Reg.STK_CH_DESC_ADDR n ∧ (s.stkStart n).get Reg.STK_CH_PROG_BYTES n = 0 := by
  rw [State.stkStart, stkCh_setStkCh_self, get_setStkCh]
  refine ⟨rfl, ?_, ?_⟩
  · rw [get_setAll_apart _ (by rfl)]
  · simp (disch := decide) only [State.setAll, get_set_apart, get_set_self]
    rfl

theorem stkGo_of_ready {s : State} {n : Nat} (hen : s.on Reg.STK_CTRL_EN 0 = true) (hrun : s.on Reg.STK_STATUS_HALTED 0 = false)
    (hst : (s.stkCh n).st = .idle ∨ (s.stkCh n).st = .error ∨ (s.stkCh n).st = .halted) (hunits : s.fl.units = []) : s.stkGo n = s.stkStart n := by
  rw [State.stkGo, if_neg (by simp [hen, hrun])]
  dsimp only
  rw [if_pos hst, if_neg (by simp [State.stkHeld, hunits])]

theorem execStkGo_fetches (channel value ten tag : Nat) (s : State) (hadmits : s.admits ten tag (some (s.stkTag channel)) = true) (hlow : 4 ≤ channel)
    (hhigh : channel < 32) (hen : s.on Reg.STK_CTRL_EN 0 = true) (hrun : s.on Reg.STK_STATUS_HALTED 0 = false)
    (hst : (s.stkCh channel).st = .idle ∨ (s.stkCh channel).st = .error ∨ (s.stkCh channel).st = .halted) (hunits : s.fl.units = []) :
    ∃ t, execStkGo channel value ten tag s = .next t ∧ (t.stkCh channel).st = .fetch ∧
      (t.stkCh channel).at_ = 64 * s.get Reg.STK_CH_DESC_ADDR channel ∧ t.get Reg.STK_CH_PROG_BYTES channel = 0 ∧
      .ghpRs (wrap 6 tag) 0 0 ∈ t.pulses := by
  have hch : (s.stkFields channel value ten).stkCh channel = s.stkCh channel := stkCh_congr (stk_stkFields s channel value ten) channel
  have hgo : (s.stkFields channel value ten).stkGo channel = (s.stkFields channel value ten).stkStart channel :=
    stkGo_of_ready ((on_stkFields s channel value ten rfl 0).trans hen) ((on_stkFields s channel value ten rfl 0).trans hrun) (by rwa [hch])
      (by rw [fl_stkFields]; exact hunits)
  obtain ⟨hfetch, hat, hbytes⟩ := stkStart_fetches (s.stkFields channel value ten) channel
  rw [execStkGo, State.stkWriteCtrl, hostWrite_of_admits hadmits, if_neg (by omega), hgo]
  generalize (s.stkFields channel value ten).stkStart channel = u at hfetch hat hbytes
  exact ⟨_, rfl, hfetch, hat.trans (congrArg (64 * ·) (descAddr_stkFields s channel value ten)), hbytes, by simp [State.emit]⟩

/-- A dropped channel is idle (R378, R381). -/
theorem stkDropCh_idles (s : State) (n : Nat) : ((s.stkDropCh n).stkCh n).st = .idle := by
  unfold State.stkDropCh
  extract_lets c u
  rw [stkCh_stkCountsFree, stkCh_set, stkCh_stkForget, stkCh_setStkCh_self]

theorem stkCh_stkDropCh_ne {n m : Nat} (h : m ≠ n) (s : State) : (s.stkDropCh n).stkCh m = s.stkCh m := by
  unfold State.stkDropCh
  extract_lets c u
  have hu : u.stk = s.stk := by
    unfold u
    split <;> rfl
  rw [stkCh_stkCountsFree, stkCh_set, stkCh_stkForget, stkCh_setStkCh_ne h, stkCh_congr hu]

theorem dropped_stkDropCh (s : State) (n : Nat) : (s.stkDropCh n).get Reg.STK_CH_STATUS_DROPPED n = 1 := by
  unfold State.stkDropCh
  extract_lets c u
  generalize (u.setStkCh n _).stkForget n = v
  rw [State.stkCountsFree]
  dsimp only
  rw [get_setAll_apart _ (by rfl)]
  change State.get (State.set v _ _ _) _ _ = _
  rw [get_set_self] <;> rfl

theorem execStkAbort_drops (channel value ten tag : Nat) (s : State) (hadmits : s.admits ten tag (some (s.stkTag channel)) = true) (hlow : 4 ≤ channel)
    (hhigh : channel < 32) (hst : (s.stkCh channel).st = .fetch ∨ (s.stkCh channel).st = .run ∨ (s.stkCh channel).st = .flush) :
    ∃ t, execStkAbort channel value ten tag s = .next t ∧ (t.stkCh channel).st = .idle ∧ t.get Reg.STK_CH_STATUS_DROPPED channel = 1 ∧
      t.get Reg.STK_EVENT_DROP 0 = 1 ∧ .ghpRs (wrap 6 tag) 0 0 ∈ t.pulses := by
  have hch : (s.stkFields channel value ten).stkCh channel = s.stkCh channel := stkCh_congr (stk_stkFields s channel value ten) channel
  rw [execStkAbort, State.stkWriteCtrl, hostWrite_of_admits hadmits, if_neg (by omega), State.stkAbort]
  rw [hch, if_pos hst]
  have hidle := stkDropCh_idles (s.stkFields channel value ten) channel
  have hdropped := dropped_stkDropCh (s.stkFields channel value ten) channel
  generalize (s.stkFields channel value ten).stkDropCh channel = u at hidle hdropped
  exact ⟨_, rfl, hidle, (get_set_ne (key_ne_of_unit_ne (by decide) 0 channel) u 1).trans hdropped, get_raise_self u Reg.STK_EVENT_DROP 0, by simp [State.emit]⟩

/-! ## Descriptors (R374) -/

/-- The read that a descriptor's beats complete is done with that descriptor. -/
theorem readDone_of_desc {s : State} {r : StkRead} (hdesc : r.kind = .desc) (hlive : r.dead = false) (data : List Nat) (word : Nat) :
    s.readDone r data word = ({ s with stk := { s.stk with reads := s.stk.reads.filter (fun x => x.tag != r.tag) } } : State).stkData r data word := by
  rw [State.readDone]
  dsimp only
  rw [if_neg (by simp [hlive]), hdesc]

theorem descCheck_readsOf (s : State) (l : List StkRead) (n addr word : Nat) :
    ({ s with stk := { s.stk with reads := l } } : State).descCheck n addr word = s.descCheck n addr word := rfl

theorem stkData_of_good {s : State} {r : StkRead} (hdesc : r.kind = .desc) {word : Nat} (hgood : s.descCheck r.ch r.addr word = 0) (data : List Nat) :
    ((s.stkData r data word).stkCh r.ch).st = .run ∧ ((s.stkData r data word).stkCh r.ch).desc = StkDesc.ofWord word ∧
      (s.stkData r data word).get Reg.STK_CH_PROG_CURDESC r.ch = wrap Reg.STK_CH_PROG_CURDESC.w r.addr ∧
      (s.stkData r data word).get Reg.STK_CH_PROG_TAG r.ch = wrap 32 (StkDesc.ofWord word).tag := by
  rw [State.stkData, hdesc]
  dsimp only
  rw [if_neg (by simp [hgood]), stkCh_setAll, stkCh_setStkCh_self]
  refine ⟨rfl, rfl, ?_, ?_⟩
  all_goals
    generalize s.setStkCh r.ch _ = u
    simp (disch := decide) only [State.setAll, get_set_apart, get_set_self] <;> rfl

theorem stkData_of_bad {s : State} {r : StkRead} (hdesc : r.kind = .desc) {word : Nat} (hbad : s.descCheck r.ch r.addr word ≠ 0) (data : List Nat) :
    ((s.stkData r data word).stkCh r.ch).st = .error ∧
      (s.stkData r data word).get Reg.STK_CH_STATUS_ERRCODE r.ch = wrap Reg.STK_CH_STATUS_ERRCODE.w (s.descCheck r.ch r.addr word) ∧
      (s.stkData r data word).get Reg.STK_EVENT_DESCERR 0 = 1 := by
  rw [State.stkData, hdesc]
  dsimp only
  rw [if_pos hbad, stkCh_raise, stkCh_set, stkCh_setStkCh_self]
  generalize s.setStkCh r.ch _ = u
  exact ⟨rfl, (get_set_ne (key_ne_of_unit_ne (by decide) 0 r.ch) _ 1).trans (get_set_self u Reg.STK_CH_STATUS_ERRCODE r.ch _), get_raise_self _ Reg.STK_EVENT_DESCERR 0⟩

theorem execDescriptorArrive_of_good (channel data : Nat) (r : StkRead) (s : State)
    (hfind : s.stk.reads.find? (fun r => r.ch == channel && r.kind == .desc && !r.dead) = some r) (hgood : s.descCheck channel r.addr data = 0) :
    ∃ t, execDescriptorArrive channel data s = .next t ∧ (t.stkCh channel).st = .run ∧ (t.stkCh channel).desc = StkDesc.ofWord data ∧
      t.get Reg.STK_CH_PROG_CURDESC channel = wrap Reg.STK_CH_PROG_CURDESC.w r.addr ∧
      t.get Reg.STK_CH_PROG_TAG channel = wrap 32 (StkDesc.ofWord data).tag := by
  obtain ⟨⟨rfl, hdesc⟩, hlive⟩ : (r.ch = channel ∧ r.kind = .desc) ∧ r.dead = false := by simpa using List.find?_some hfind
  rw [execDescriptorArrive, hfind]
  dsimp only
  rw [readDone_of_desc hdesc hlive]
  exact ⟨_, rfl, stkData_of_good hdesc ((descCheck_readsOf s _ r.ch r.addr data).trans hgood) []⟩

theorem execDescriptorArrive_of_bad (channel data : Nat) (r : StkRead) (s : State)
    (hfind : s.stk.reads.find? (fun r => r.ch == channel && r.kind == .desc && !r.dead) = some r) (hbad : s.descCheck channel r.addr data ≠ 0) :
    ∃ t, execDescriptorArrive channel data s = .next t ∧ (t.stkCh channel).st = .error ∧
      t.get Reg.STK_CH_STATUS_ERRCODE channel = wrap Reg.STK_CH_STATUS_ERRCODE.w (s.descCheck channel r.addr data) ∧
      t.get Reg.STK_EVENT_DESCERR 0 = 1 := by
  obtain ⟨⟨rfl, hdesc⟩, hlive⟩ : (r.ch = channel ∧ r.kind = .desc) ∧ r.dead = false := by simpa using List.find?_some hfind
  rw [execDescriptorArrive, hfind]
  dsimp only
  rw [readDone_of_desc hdesc hlive]
  have hcheck := descCheck_readsOf s (s.stk.reads.filter (fun x => x.tag != r.tag)) r.ch r.addr data
  refine ⟨_, rfl, ?_⟩
  rw [← hcheck] at hbad ⊢
  exact stkData_of_bad hdesc hbad []

/-! ## Bursts (R377) -/

theorem slot_stkRead (s : State) (n : Nat) (kind : StkReadKind) (pos addr len : Nat) (region : Option Nat) :
    (s.stkRead n kind pos addr len region).stk.slot = s.stk.slot ∧ (s.stkRead n kind pos addr len region).stk.lastCh = s.stk.lastCh := by
  unfold State.stkRead
  dsimp only
  split <;> exact ⟨rfl, rfl⟩

/-- A burst leaves the place in the slot pattern and the channels last served. -/
theorem slot_stkGrant (s : State) (n : Nat) : (s.stkGrant n).stk.slot = s.stk.slot ∧ (s.stkGrant n).stk.lastCh = s.stk.lastCh := by
  rw [State.stkGrant]
  dsimp only
  split
  · exact ⟨rfl, rfl⟩
  · exact ⟨rfl, rfl⟩
  all_goals exact slot_stkRead _ _ _ _ _ _ _

theorem execBurstGrant_grants (l n : Nat) (s : State) (hen : s.on Reg.STK_CTRL_EN 0 = true) (hrun : s.on Reg.STK_STATUS_HALTED 0 = false)
    (hstopped : s.stopped = false)
    (hlevel : slotLevel (fun l => ((s.kickSys.pumpAll).stkPick l).isSome) (slotPattern.getD (s.kickSys.pumpAll).stk.slot 0) = some l)
    (hpick : (s.kickSys.pumpAll).stkPick l = some n) : ∃ t, execBurstGrant s = .next t ∧ t.stk.slot = ((s.kickSys.pumpAll).stk.slot + 1) % 15 ∧
      t.stk.lastCh = (s.kickSys.pumpAll).stk.lastCh.set l n := by
  rw [execBurstGrant, if_neg (by simp [hen, hrun, hstopped])]
  generalize s.kickSys.pumpAll = u at hlevel hpick
  dsimp only
  rw [hlevel]
  dsimp only
  rw [hpick]
  exact ⟨_, rfl, slot_stkGrant _ n⟩

/-! ## Disable, enable and CLRHALT (R381, R383) -/

theorem dropAll_idles (l : List Nat) (s : State) {n : Nat} (h : n ∈ l ∨ (s.stkCh n).st = .idle) :
    ((l.foldl (fun (s : State) n => (s.stkDropCh n).set Reg.STK_CH_STATUS_PENDGO n 0) s).stkCh n).st = .idle := by
  induction l generalizing s with
  | nil => exact h.resolve_left List.not_mem_nil
  | cons m l ih =>
    refine ih _ ?_
    by_cases hm : n = m
    case pos =>
      rw [hm, stkCh_set]
      exact .inr (stkDropCh_idles s m)
    case neg =>
      rw [stkCh_set, stkCh_stkDropCh_ne hm]
      exact h.imp_left (List.mem_of_ne_of_mem hm)

theorem execStkDisable_drops (ten tag : Nat) (s : State) (hadmits : s.admits ten tag none = true) : ∃ t, execStkDisable ten tag s = .next t ∧
    t.get Reg.STK_CTRL_EN 0 = 0 ∧ t.get Reg.STK_EVENT_DISABLED 0 = 1 ∧ (∀ n ∈ List.range 32, (t.stkCh n).st = .idle) ∧
      .ghpRs (wrap 6 tag) 0 0 ∈ t.pulses := by
  rw [execStkDisable, hostWrite_of_admits hadmits, State.stkDisable]
  have hidle := fun n hn => dropAll_idles (List.range 32) s (n := n) (.inl hn)
  generalize List.foldl _ s _ = u at hidle
  refine ⟨_, rfl, ?_, ?_, hidle, by simp [State.emit]⟩
  · exact (get_raise_apart (by decide) _ 0).trans (get_set_self u Reg.STK_CTRL_EN 0 0)
  · exact get_raise_self _ Reg.STK_EVENT_DISABLED 0

/-- A job of the system channels changes no register. -/
theorem get_kickSys (s : State) (f : RegField) (i : Nat) : s.kickSys.get f i = s.get f i :=
  get_of_blank (F := { sys := true, stk := true }) (by apply kickSys_blank <;> rfl) rfl i

theorem execStkEnable_enables (ten tag : Nat) (s : State) (hadmits : s.admits ten tag none = true) : ∃ t, execStkEnable ten tag s = .next t ∧
    t.get Reg.STK_CTRL_EN 0 = 1 ∧ .ghpRs (wrap 6 tag) 0 0 ∈ t.pulses := by
  rw [execStkEnable, hostWrite_of_admits hadmits]
  exact ⟨_, rfl, (get_kickSys _ _ _).trans (get_set_self s Reg.STK_CTRL_EN 0 1), by simp [State.emit]⟩

theorem execStkClrhalt_clears (ten tag : Nat) (s : State) (hadmits : s.admits ten tag none = true) (hbus : s.busReaction = false) :
    ∃ t, execStkClrhalt ten tag s = .next t ∧ t.get Reg.STK_STATUS_HALTED 0 = 0 ∧ t.get Reg.STK_STATUS_HCAUSE 0 = 0 ∧
      t.get Reg.STK_HALTADDR_ADDR 0 = 0 ∧ .ghpRs (wrap 6 tag) 0 0 ∈ t.pulses := by
  rw [execStkClrhalt, hostWrite_of_admits hadmits, State.stkClrhalt, if_neg (by simp [hbus])]
  refine ⟨_, rfl, ?_, ?_, ?_, by simp [State.emit]⟩
  all_goals
    rw [get_emit, get_kickSys]
    simp (disch := decide) only [State.setAll, get_set_apart, get_set_self] <;> rfl

/-- Settles O43. -/
theorem stackerChannels : Obligations.StackerChannels := ⟨execStkGo_fetches, execStkAbort_drops, execDescriptorArrive_of_good,
    execDescriptorArrive_of_bad, execBurstGrant_grants, execStkDisable_drops, execStkEnable_enables, execStkClrhalt_clears⟩

end Sys2Proof.Machine
end

section
/-! SUPPORT. O44: the buses of the Stacker. -/
namespace Sys2Proof.Machine
open Sys2Proof

/-! ## The reads that stand out -/

/-- The tags of the reads that the Stacker has out. -/
def State.readTags (s : State) : List Nat := s.stk.reads.map (·.tag)

theorem readTags_congr {s t : State} (h : t.stk = s.stk) : t.readTags = s.readTags := congrArg (fun k : Stacker => k.reads.map (fun r : StkRead => r.tag)) h

theorem readTags_setStkCh (s : State) (n : Nat) (c : StkCh) : (s.setStkCh n c).readTags = s.readTags := rfl

theorem readTags_setAll (s : State) (i : Nat) (l : List (RegField × Nat)) : (s.setAll i l).readTags = s.readTags := by
  obtain ⟨regs, h⟩ := exists_setAll_eq s i l
  rw [h]
  rfl

theorem readTags_stkForget (s : State) (n : Nat) : (s.stkForget n).readTags = s.readTags := by
  simp only [State.stkForget, State.readTags, List.map_map]
  refine List.map_congr_left (fun r _ => ?_)
  dsimp only [Function.comp_apply]
  split <;> rfl

theorem readTags_stkNext (s : State) (n : Nat) : (s.stkNext n).readTags = s.readTags := by
  unfold State.stkNext
  dsimp only
  split <;> rfl

theorem readTags_stkDescDone (s : State) (n : Nat) : (s.stkDescDone n).readTags = s.readTags := by
  unfold State.stkDescDone
  extract_lets c s₁ s₂ s₃
  split
  case isTrue => exact (readTags_stkForget _ n).trans rfl
  case isFalse =>
    have hpulse : s₃.readTags = s₂.readTags := by
      unfold s₃
      split <;> rfl
    rw [readTags_stkNext, hpulse]
    exact readTags_stkForget _ n

theorem readTags_pumpWrites (n fuel : Nat) (s : State) : (s.pumpWrites n fuel).readTags = s.readTags := by
  induction fuel generalizing s with
  | zero => rfl
  | succ fuel ih =>
    rw [State.pumpWrites]
    dsimp only
    split
    case isTrue => exact (ih _).trans rfl
    case isFalse => rfl

theorem readTags_pumpCompare (n fuel : Nat) (s : State) : (s.pumpCompare n fuel).readTags = s.readTags := by
  induction fuel generalizing s with
  | zero => rfl
  | succ fuel ih =>
    unfold State.pumpCompare
    extract_lets c k ds units s₁ s₂ c' s₃
    have hcount : s₂.readTags = s.readTags := by
      unfold s₂
      clear_value ds
      cases ds with
      | nil => rfl
      | cons d l =>
        dsimp only
        split <;> rfl
    clear_value s₂
    split
    case isTrue =>
      split
      case isTrue => exact (readTags_stkDescDone _ n).trans hcount
      case isFalse => exact (ih _).trans hcount
    case isFalse => rfl

theorem readTags_stkData (s : State) (r : StkRead) (data : List Nat) (word : Nat) : (s.stkData r data word).readTags = s.readTags := by
  rw [State.stkData]
  dsimp only
  split
  case h_1 =>
    split
    case isTrue => rfl
    case isFalse => exact readTags_setAll _ _ _
  case h_2 => exact (readTags_pumpCompare _ _ _).trans (readTags_pumpWrites _ _ _)
  case h_3 => exact readTags_pumpCompare _ _ _
  case h_4 =>
    rw [readTags_stkNext]
    split <;> rfl

theorem readTags_jobDone (s : State) (n : Nat) (j : SysJob) : (s.jobDone n j).readTags = s.readTags :=
  readTags_congr (stk_of_blank (F := { tally := true, dbg := true, flue := true, regs := [.tly, .dbg, .tenant] }) (by apply jobDone_blank <;> rfl) rfl)

theorem readTags_kickSys (s : State) : s.kickSys.readTags = s.readTags := by
  rw [State.kickSys]
  split
  case isTrue => rfl
  case isFalse =>
    refine apply_foldl State.readTags _ (fun u n => ?_) _ s
    dsimp only
    split
    case isTrue => split <;> (split <;> rfl)
    case isFalse => rfl

/-- A read that is done no longer stands out (R387). -/
theorem readDone_frees (s : State) (r : StkRead) (data : List Nat) (word : Nat) :
    (s.readDone r data word).stk.reads.all (fun x => x.tag != r.tag) = true := by
  have htags : (s.readDone r data word).readTags = ({ s with stk := { s.stk with reads := s.stk.reads.filter (fun x => x.tag != r.tag) } } : State).readTags := by
    rw [State.readDone]
    dsimp only
    split
    case isTrue => rfl
    case isFalse =>
      split
      case h_1 => exact (readTags_kickSys _).trans ((readTags_jobDone _ _ _).trans (readTags_stkData _ _ _ _))
      case h_2 => exact readTags_stkData _ _ _ _
  have hgone : ∀ x ∈ (s.readDone r data word).readTags, x ≠ r.tag := by
    rw [htags]
    simp only [State.readTags, List.mem_map, List.mem_filter, bne_iff_ne]
    rintro _ ⟨x, ⟨-, hx⟩, rfl⟩
    exact hx
  simpa [State.readTags] using hgone

/-! ## Read beats and bus errors (R382, R387) -/

theorem execSmpReadBeat_keeps (readTag data : Nat) (r : StkRead) (s : State)
    (hfind : s.stk.reads.find? (fun r => r.tag == readTag && r.region.isNone) = some r) (hmore : r.beats.length + 1 < beatsOf r.addr r.n) :
    ∃ t, execSmpReadBeat readTag data false true s = .next t ∧ { r with beats := r.beats ++ [wrap 512 data] } ∈ t.stk.reads := by
  rw [execSmpReadBeat, hfind]
  dsimp only
  rw [if_neg Bool.false_ne_true, if_pos (by simpa using hmore)]
  refine ⟨_, rfl, List.mem_map.mpr ⟨r, List.mem_of_find?_eq_some hfind, ?_⟩⟩
  simp

theorem execSmpReadBeat_ends (readTag data : Nat) (r : StkRead) (s : State)
    (hfind : s.stk.reads.find? (fun r => r.tag == readTag && r.region.isNone) = some r) (hlast : beatsOf r.addr r.n ≤ r.beats.length + 1) :
    ∃ t, execSmpReadBeat readTag data false true s = .next t ∧ t.stk.reads.all (fun x => x.tag != r.tag) = true := by
  rw [execSmpReadBeat, hfind]
  dsimp only
  rw [if_neg Bool.false_ne_true, if_neg (by simpa using hlast)]
  exact ⟨_, rfl, readDone_frees _ _ _ _⟩

theorem get_haltAll (l : List Nat) (s : State) (f : RegField) (i : Nat) : (l.foldl (fun (s : State) n =>
    let c := s.stkCh n
    if c.st = .idle ∨ c.st = .error then s else (s.setStkCh n { c with st := .halted, asked := false }).stkForget n) s).get f i = s.get f i := by
  refine apply_foldl (fun u => u.get f i) _ (fun u n => ?_) l s
  dsimp only
  split <;> rfl

/-- The first bus error halts the Stacker, names its cause and channel, and is a fault (R382). -/
theorem busError_halts {s : State} (hrun : s.on Reg.STK_STATUS_HALTED 0 = false) (cause ch addr tag : Nat) :
    (s.busError cause ch addr tag).get Reg.STK_STATUS_HALTED 0 = 1 ∧
      (s.busError cause ch addr tag).get Reg.STK_STATUS_HCAUSE 0 = wrap Reg.STK_STATUS_HCAUSE.w cause ∧
      (s.busError cause ch addr tag).get Reg.STK_STATUS_HCH 0 = wrap Reg.STK_STATUS_HCH.w ch ∧
      (s.busError cause ch addr tag).get Reg.STK_EVENT_BUSERR 0 = 1 ∧
      (s.busError cause ch addr tag).flt.queue.getLast?.map (·.kind) = some 0x601 := by
  unfold State.busError
  extract_lets s₁ s₂
  have hs₁ : s₁ = s.setAll 0 [(Reg.STK_STATUS_HALTED, 1), (Reg.STK_STATUS_HCH, ch), (Reg.STK_STATUS_HCAUSE, cause), (Reg.STK_HALTADDR_ADDR, addr),
      (Reg.STK_HALTADDR_TAG, tag)] := if_neg (by simp [hrun])
  have hget : ∀ f i, s₂.get f i = s₁.get f i := fun f i => get_haltAll _ s₁ f i
  clear_value s₂
  have hkeep : ∀ f : RegField, f.apart Reg.STK_EVENT_BUSERR = true →
      (((s₂.raise Reg.STK_EVENT_BUSERR 0).kilnFault 0x1C ch 0x601 (s₂.stkTag ch) addr).event 14).get f 0 = s₁.get f 0 :=
    fun f hf => (get_raise_apart hf s₂ 0).trans (hget f 0)
  refine ⟨?_, ?_, ?_, ?_, by simp [State.kilnFault, State.event]⟩
  · rw [hkeep _ (by decide), hs₁]
    simp (disch := decide) only [State.setAll, get_set_apart, get_set_self] <;> rfl
  · rw [hkeep _ (by decide), hs₁]
    simp (disch := decide) only [State.setAll, get_set_apart, get_set_self]
  · rw [hkeep _ (by decide), hs₁]
    simp (disch := decide) only [State.setAll, get_set_apart, get_set_self]
  · exact get_raise_self s₂ Reg.STK_EVENT_BUSERR 0

theorem execSmpReadBeat_of_error (readTag data : Nat) (parOk : Bool) (r : StkRead) (s : State)
    (hfind : s.stk.reads.find? (fun r => r.tag == readTag && r.region.isNone) = some r) (hrun : s.on Reg.STK_STATUS_HALTED 0 = false)
    (hmore : r.beats.length + 1 < beatsOf r.addr r.n) : ∃ t, execSmpReadBeat readTag data true parOk s = .next t ∧
      t.get Reg.STK_STATUS_HALTED 0 = 1 ∧ t.get Reg.STK_STATUS_HCAUSE 0 = 1 ∧ t.get Reg.STK_EVENT_BUSERR 0 = 1 ∧
      t.flt.queue.getLast?.map (·.kind) = some 0x601 := by
  rw [execSmpReadBeat, hfind]
  dsimp only
  rw [if_pos rfl, if_pos (by simpa using hmore)]
  generalize hu : ({ s with stk := _ } : State) = u
  have hrun' : u.on Reg.STK_STATUS_HALTED 0 = false := by
    rw [← hu]
    exact hrun
  obtain ⟨hhalted, hcause, -, hevent, hfault⟩ := busError_halts hrun' 1 r.ch (r.addr - r.addr % 64) r.tag
  exact ⟨_, rfl, hhalted, hcause, hevent, hfault⟩

theorem execSmpWriteError_halts (writeTag ch addr : Nat) (s : State) (hwrite : tget writeTag s.stk.wrAddr = some (ch, addr))
    (hrun : s.on Reg.STK_STATUS_HALTED 0 = false) : ∃ t, execSmpWriteError writeTag s = .next t ∧ t.get Reg.STK_STATUS_HALTED 0 = 1 ∧
      t.get Reg.STK_STATUS_HCAUSE 0 = 2 ∧ t.get Reg.STK_STATUS_HCH 0 = wrap Reg.STK_STATUS_HCH.w ch ∧ t.get Reg.STK_EVENT_BUSERR 0 = 1 ∧
      t.flt.queue.getLast?.map (·.kind) = some 0x601 := by
  rw [execSmpWriteError, hwrite]
  exact ⟨_, rfl, busError_halts hrun 2 ch (addr - addr % 64) writeTag⟩

theorem execSmpReadTimeout_halts (readTag : Nat) (r : StkRead) (s : State)
    (hfind : s.stk.reads.find? (fun r => r.tag == readTag && r.region.isNone) = some r) (hstopped : s.stopped = false)
    (hrun : s.on Reg.STK_STATUS_HALTED 0 = false) : ∃ t, execSmpReadTimeout readTag s = .next t ∧ t.get Reg.STK_STATUS_HALTED 0 = 1 ∧
      t.get Reg.STK_STATUS_HCAUSE 0 = 4 ∧ t.get Reg.STK_STATUS_HCH 0 = wrap Reg.STK_STATUS_HCH.w r.ch ∧ t.get Reg.STK_EVENT_BUSERR 0 = 1 ∧
      t.flt.queue.getLast?.map (·.kind) = some 0x601 := by
  rw [execSmpReadTimeout, hfind]
  dsimp only
  rw [if_neg (by simp [hstopped])]
  exact ⟨_, rfl, busError_halts hrun 4 r.ch (r.addr - r.addr % 64) r.tag⟩

/-! ## Write beats and credits (R386) -/

/-- A finished descriptor leaves the writes and the write credits, and every pulse that stands. -/
theorem stkDescDone_keeps (s : State) (n : Nat) : (s.stkDescDone n).stk.writes = s.stk.writes ∧ (s.stkDescDone n).stk.wdCred = s.stk.wdCred ∧
    ∀ p ∈ s.pulses, p ∈ (s.stkDescDone n).pulses := by
  unfold State.stkDescDone
  extract_lets c s₁ s₂ s₃
  have hnext : ∀ u : State, (u.stkNext n).stk.writes = u.stk.writes ∧ (u.stkNext n).stk.wdCred = u.stk.wdCred ∧ (u.stkNext n).pulses = u.pulses := fun u => by
    unfold State.stkNext
    dsimp only
    split <;> exact ⟨rfl, rfl, rfl⟩
  have hpulse : s₃.stk = s₂.stk ∧ ∀ p ∈ s.pulses, p ∈ s₃.pulses := by
    unfold s₃
    split
    case isTrue => exact ⟨rfl, fun p hp => List.mem_append_left _ hp⟩
    case isFalse => exact ⟨rfl, fun p hp => hp⟩
  split
  case isTrue => exact ⟨rfl, rfl, fun p hp => hp⟩
  case isFalse =>
    obtain ⟨hwrites, hcred, hpulses⟩ := hnext s₃
    rw [hwrites, hcred, hpulses, hpulse.1]
    exact ⟨rfl, rfl, hpulse.2⟩

theorem execSmpWriteBeat_takes (data strb n : Nat) (w : StkWrite) (ws : List StkWrite) (rest : List (Nat × Nat × Nat)) (s : State)
    (hwrites : s.stk.writes = w :: ws) (hbeats : w.beats = (data, strb, n) :: rest) (hcred : s.stk.wdCred ≠ 0) : ∃ t, execSmpWriteBeat s = .next t ∧
      .smpWd w.tag data strb rest.isEmpty ∈ t.pulses ∧ t.stk.wdCred = s.stk.wdCred - 1 ∧
      t.stk.writes = (if rest = [] then ws else { w with beats := rest } :: ws) := by
  rw [execSmpWriteBeat, hwrites]
  dsimp only
  rw [hbeats]
  dsimp only
  rw [if_neg hcred]
  generalize hu : State.emit _ (.smpWd w.tag data strb rest.isEmpty) = u
  have hbeat : .smpWd w.tag data strb rest.isEmpty ∈ u.pulses ∧ u.stk.wdCred = s.stk.wdCred - 1 ∧
      u.stk.writes = (if rest = [] then ws else { w with beats := rest } :: ws) := by
    rw [← hu]
    exact ⟨List.mem_append_right _ List.mem_cons_self, rfl, rfl⟩
  split
  case isTrue => exact ⟨_, rfl, hbeat⟩
  case isFalse =>
    generalize hv : State.bump _ Reg.STK_CH_PROG_BYTES w.ch n = v
    obtain ⟨hkpulses, hkcred, hkwrites⟩ : v.pulses = u.pulses ∧ v.stk.wdCred = u.stk.wdCred ∧ v.stk.writes = u.stk.writes := by
      rw [← hv]
      exact ⟨rfl, rfl, rfl⟩
    rw [← hkpulses, ← hkcred, ← hkwrites] at hbeat
    obtain ⟨hpulse, hcred, hwrites⟩ := hbeat
    split
    case isTrue =>
      obtain ⟨hwrites', hcred', hpulses'⟩ := stkDescDone_keeps v w.ch
      exact ⟨_, rfl, hpulses' _ hpulse, hcred'.trans hcred, hwrites'.trans hwrites⟩
    case isFalse => exact ⟨_, rfl, hpulse, hcred, hwrites⟩

theorem pumpWrites_of_not_running {s : State} {n : Nat} (h : (s.stkCh n).st ≠ .run) (fuel : Nat) : s.pumpWrites n fuel = s := by
  cases fuel with
  | zero => rfl
  | succ fuel =>
    rw [State.pumpWrites]
    exact if_neg (fun hrun => h hrun.1)

/-- Where no channel runs, no channel has a write to give. -/
theorem pumpAll_of_none_running {s : State} (h : s.stk.chans.all (fun e => e.2.st != .run) = true) : s.pumpAll = s := by
  have hst : ∀ n, (s.stkCh n).st ≠ .run := fun n => by
    rw [State.stkCh, tgetD]
    cases hn : tget n s.stk.chans with
    | none => simp
    | some c => simpa using List.all_eq_true.mp h _ (mem_of_tget hn)
  have hfold : ∀ l : List Nat, l.foldl (fun s n => s.pumpWrites n 64) s = s := fun l => by
    induction l with
    | nil => rfl
    | cons n l ih => rw [List.foldl_cons, pumpWrites_of_not_running (hst n), ih]
  exact hfold _

theorem execSmpRqCred_credits (s : State) (hall : s.stk.chans.all (fun e => e.2.st != .run) = true) :
    ∃ t, execSmpRqCred s = .next t ∧ t.stk.rqCred = s.stk.rqCred + 1 := by
  have hidle := pumpAll_of_none_running (s := { s with stk := { s.stk with rqCred := s.stk.rqCred + 1 } }) hall
  rw [execSmpRqCred, hidle]
  exact ⟨_, rfl, rfl⟩

theorem execSmpWdCred_credits (s : State) : ∃ t, execSmpWdCred s = .next t ∧ t.stk.wdCred = s.stk.wdCred + 1 := ⟨_, rfl, rfl⟩

/-! ## Reads of space 1 over the Flue (R371) -/

theorem execSkRead_answers (region xferTag part off flits : Nat) (s : State) : ∃ t, execSkRead region xferTag part off flits s = .next t ∧
    msgSkData region (wrap 8 xferTag) ((s.recv (msgSkRead region (wrap 8 xferTag) (wrap 2 part) (wrap 23 off) flits)).skFlits region (wrap 2 part)
      (wrap 23 off) (max 1 (min 7 flits))).2.1 ((s.recv (msgSkRead region (wrap 8 xferTag) (wrap 2 part) (wrap 23 off) flits)).skFlits region
      (wrap 2 part) (wrap 23 off) (max 1 (min 7 flits))).1 ∈ t.flue :=
  ⟨_, rfl, by simp [State.send]⟩

theorem execSkData_ends (region xferTag status : Nat) (data : List Flit) (r : StkRead) (s : State)
    (hfind : s.stk.reads.find? (fun r => r.tag == xferTag && r.region == some region) = some r) :
    ∃ t, execSkData region xferTag status data s = .next t ∧ t.stk.reads.all (fun x => x.tag != r.tag) = true := by
  rw [execSkData]
  dsimp only
  rw [recv_stk, hfind]
  exact ⟨_, rfl, readDone_frees _ _ _ _⟩

theorem execSkReadTimeout_halts (xferTag : Nat) (r : StkRead) (s : State)
    (hfind : s.stk.reads.find? (fun r => r.tag == xferTag && r.region.isSome) = some r) (hstopped : s.stopped = false)
    (hrun : s.on Reg.STK_STATUS_HALTED 0 = false) : ∃ t, execSkReadTimeout xferTag s = .next t ∧ t.get Reg.STK_STATUS_HALTED 0 = 1 ∧
      t.get Reg.STK_STATUS_HCAUSE 0 = 4 ∧ t.get Reg.STK_STATUS_HCH 0 = wrap Reg.STK_STATUS_HCH.w r.ch ∧ t.get Reg.STK_EVENT_BUSERR 0 = 1 ∧
      t.flt.queue.getLast?.map (·.kind) = some 0x601 ∧ t.stk.reads.all (fun x => x.tag != r.tag) = true := by
  obtain ⟨hhalted, hcause, hch, hevent, hfault⟩ := busError_halts hrun 4 r.ch r.addr r.tag
  rw [execSkReadTimeout, hfind]
  dsimp only
  rw [if_neg (by simp [hstopped])]
  generalize s.busError 4 r.ch r.addr r.tag = u at hhalted hcause hch hevent hfault
  exact ⟨_, rfl, hhalted, hcause, hch, hevent, hfault, by simp⟩

/-- Settles O44. -/
theorem stackerBus : Obligations.StackerBus := ⟨execSmpReadBeat_keeps, execSmpReadBeat_ends, execSmpReadBeat_of_error, execSmpWriteBeat_takes,
    execSmpRqCred_credits, execSmpWdCred_credits, execSmpWriteError_halts, execSmpReadTimeout_halts, execSkRead_answers, execSkData_ends,
    execSkReadTimeout_halts⟩

end Sys2Proof.Machine
end

section
/-! SUPPORT. O46: the flash of the Ledger. -/
namespace Sys2Proof.Machine
open Sys2Proof

/-! ## What the Ledger's own work leaves of its registers -/

/-- A register field of the Ledger that neither a record, nor a page close, nor an erase writes. -/
def RegField.steady (f : RegField) : Bool :=
  [Reg.LDG_EVENT_LOST, Reg.LDG_LOSTCNT_COUNT, Reg.LDG_STATUS_UNSEALED, Reg.LDG_EVENT_UNSEALED, Reg.LDG_CTRL_FLUSH, Reg.LDG_EVENT_WRAP,
    Reg.LDG_EVENT_RECOVERED].all (fun g => f.apart g)

theorem apart_of_steady {f g : RegField} (h : f.steady = true) (hg : g ∈ [Reg.LDG_EVENT_LOST, Reg.LDG_LOSTCNT_COUNT, Reg.LDG_STATUS_UNSEALED,
    Reg.LDG_EVENT_UNSEALED, Reg.LDG_CTRL_FLUSH, Reg.LDG_EVENT_WRAP, Reg.LDG_EVENT_RECOVERED]) : f.apart g = true :=
  List.all_eq_true.mp h g hg

section
variable {f : RegField} (hf : f.steady = true)
include hf

theorem get_record_of_steady (s : State) (r : LedgerRec) : (s.record r).get f 0 = s.get f 0 := by
  have hlost : s.lostRecord.get f 0 = s.get f 0 := by
    rw [State.lostRecord]
    split <;> rfl
  rw [State.record]
  dsimp only
  split
  case isTrue => exact hlost
  case isFalse =>
    rw [get_bump_apart (apart_of_steady hf (by decide)), get_raise_apart (apart_of_steady hf (by decide))]
    exact hlost

theorem get_recordOf_of_steady (s : State) (code src p0 p1 p2 : Nat) : (s.recordOf code src p0 p1 p2).get f 0 = s.get f 0 :=
  get_record_of_steady hf s _

theorem get_startErase_of_steady (s : State) (b : Nat) (clear : Bool) : (s.startErase b clear).get f 0 = s.get f 0 := by
  unfold State.startErase
  extract_lets nums src u
  clear_value nums
  cases nums with
  | nil => rfl
  | cons x rest =>
    dsimp only
    split
    case isTrue => rfl
    case isFalse => exact (get_raise_apart (apart_of_steady hf (by decide)) _ 0).trans ((get_recordOf_of_steady hf _ _ _ _ _ _).trans rfl)

theorem get_sealPage_of_steady (s : State) (k : Nat) (early recovered flserr : Bool) : (s.sealPage k early recovered flserr).2.get f 0 = s.get f 0 := by
  unfold State.sealPage
  split
  case isTrue =>
    have htag := tagOf_blank (F := { vault := true, freeCtr := true }) s "GL3-LDG" hLedger
      (leBytes 64 (s.makeTrailer k early recovered flserr false).head ++ (s.ldg.pageAt k).bytes) rfl rfl
    exact (get_set_apart (apart_of_steady hf (by decide)) _ 0 0).trans (get_of_blank htag rfl 0)
  case isFalse => rw [get_raise_apart (apart_of_steady hf (by decide)), get_raise_apart (apart_of_steady hf (by decide))]

theorem get_finishClose_of_steady (s : State) : s.finishClose.get f 0 = s.get f 0 := by
  rw [State.finishClose]
  split
  · rfl
  · split
    case isTrue => rfl
    case isFalse => exact get_sealPage_of_steady hf s _ _ _ _

theorem get_askSeal_of_steady (s : State) : s.askSeal.get f 0 = s.get f 0 := by
  rw [State.askSeal]
  split
  case isTrue => rfl
  case isFalse =>
    split
    case isTrue => exact get_finishClose_of_steady hf s
    case isFalse =>
      split
      case isTrue => rfl
      case isFalse => exact get_vaultAsk s _ f 0

theorem get_closePage_of_steady (s : State) (early flserr : Bool) : (s.closePage early flserr).get f 0 = s.get f 0 :=
  get_askSeal_of_steady hf _

theorem get_pumpLedger_of_steady (s : State) : s.pumpLedger.get f 0 = s.get f 0 := by
  unfold State.pumpLedger
  extract_lets l used n
  split
  case isTrue => rfl
  case isFalse =>
    split
    · exact get_startErase_of_steady hf _ _ _
    · split
      case isTrue => exact get_closePage_of_steady hf s _ _
      case isFalse =>
        split
        · exact get_startErase_of_steady hf _ _ _
        · split
          case isTrue => rfl
          case isFalse =>
            split
            case isTrue =>
              split
              case isTrue => exact get_set_apart (apart_of_steady hf (by decide)) _ 0 0
              case isFalse => exact get_closePage_of_steady hf s _ _
            case isFalse =>
              split
              · exact get_startErase_of_steady hf _ _ _
              · rfl

end

/-! ## What the Ledger's own work leaves of the flash -/

/-- The Ledger without its buffer, the operation of its flash and what that operation is part of. -/
def Ledger.stored (l : Ledger) : Ledger :=
  { l.unbuffered with op := .idle, eraseAgain := none, closing := none, trailer := none, flushing := false, wrapped := false }

theorem stored_of_unbuffered {l m : Ledger} (h : l.unbuffered = m.unbuffered) : l.stored = m.stored :=
  congrArg (fun l : Ledger => ({ l with op := .idle, eraseAgain := none, closing := none, trailer := none, flushing := false, wrapped := false } : Ledger)) h

theorem flash_of_stored {l m : Ledger} (h : l.stored = m.stored) : l.flash = m.flash ∧ l.page = m.page ∧ l.erased = m.erased ∧ l.failed = m.failed :=
  ⟨(congrArg Ledger.flash h :), (congrArg Ledger.page h :), (congrArg Ledger.erased h :), (congrArg Ledger.failed h :)⟩

theorem stored_startErase (s : State) (b : Nat) (clear : Bool) : (s.startErase b clear).ldg.stored = s.ldg.stored := by
  unfold State.startErase
  extract_lets nums src u
  clear_value nums
  cases nums with
  | nil => rfl
  | cons x rest =>
    dsimp only
    split
    case isTrue => rfl
    case isFalse => exact (stored_of_unbuffered (unbuffered_recordOf u _ _ _ _ _)).trans rfl

theorem ldg_sealPage (s : State) (k : Nat) (early recovered flserr : Bool) : (s.sealPage k early recovered flserr).2.ldg = s.ldg :=
  ldg_of_blank (sealPage_blank (F := { vault := true, freeCtr := true, regs := [.ldg] }) s k early recovered flserr rfl rfl rfl) rfl

theorem stored_finishClose (s : State) : s.finishClose.ldg.stored = s.ldg.stored := by
  rw [State.finishClose]
  split
  · rfl
  · split
    case isTrue => rfl
    case isFalse =>
      change Ledger.stored (State.sealPage _ _ _ _ _).2.ldg = _
      rw [ldg_sealPage]

theorem stored_askSeal (s : State) : s.askSeal.ldg.stored = s.ldg.stored := by
  rw [State.askSeal]
  split
  case isTrue => rfl
  case isFalse =>
    split
    case isTrue => exact stored_finishClose s
    case isFalse =>
      split
      case isTrue => rfl
      case isFalse =>
        have hask : (s.vaultAsk (.hmacLedger s.ldg.page)).ldg = s.ldg := ldg_of_blank (F := { vault := true }) (by apply vaultAsk_blank; rfl) rfl
        rw [hask]

theorem stored_closePage (s : State) (early flserr : Bool) : (s.closePage early flserr).ldg.stored = s.ldg.stored := (stored_askSeal _).trans rfl

theorem stored_pumpLedger (s : State) : s.pumpLedger.ldg.stored = s.ldg.stored := by
  unfold State.pumpLedger
  extract_lets l used n
  split
  case isTrue => rfl
  case isFalse =>
    split
    · exact (stored_startErase _ _ _).trans rfl
    · split
      case isTrue => exact stored_closePage s _ _
      case isFalse =>
        split
        · exact stored_startErase _ _ _
        · split
          case isTrue => rfl
          case isFalse =>
            split
            case isTrue =>
              split
              case isTrue => rfl
              case isFalse => exact stored_closePage s _ _
            case isFalse =>
              split
              · exact stored_startErase _ _ _
              · rfl

/-- What the Ledger goes on to do leaves the pages of its flash, and the blocks that are free and that failed. -/
theorem flash_pumpLedger (s : State) : s.pumpLedger.ldg.flash = s.ldg.flash ∧ s.pumpLedger.ldg.page = s.ldg.page ∧
    s.pumpLedger.ldg.erased = s.ldg.erased ∧ s.pumpLedger.ldg.failed = s.ldg.failed :=
  flash_of_stored (stored_pumpLedger s)

theorem flt_pumpLedger (s : State) : s.pumpLedger.flt = s.flt :=
  flt_of_blank (F := { ldg := true, vault := true, pulses := true, freeCtr := true, regs := [.ldg] }) (by apply pumpLedger_blank <;> rfl) rfl

theorem pageAt_congr {l m : Ledger} (h : l.flash = m.flash) (k : Nat) : l.pageAt k = m.pageAt k := congrArg (tgetD ({} : Page) k) h

/-! ## Programming (R401) -/

theorem pageAt_programmed (l : Ledger) (n : Nat) : ((l.programmed n).pageAt l.slot).recs = (l.pageAt l.slot).recs ++ (l.buf.take n).map LedgerRec.word :=
  congrArg Page.recs (tgetD_tput_self ({} : Page) l.slot _ l.flash)

theorem flash_lostRecord (s : State) : s.lostRecord.ldg.flash = s.ldg.flash := by
  rw [State.lostRecord]
  split
  case isTrue => exact (congrArg Ledger.flash (unbuffered_enter s.ldg _) :)
  case isFalse => rfl

theorem execFlashProgramDone_of_records (n : Nat) (retry : Bool) (s : State) (hop : s.ldg.op = .programming n retry) (htrailer : s.ldg.trailer = none) :
    ∃ t, execFlashProgramDone true s = .next t ∧
      (t.ldg.pageAt s.ldg.slot).recs = (s.ldg.pageAt s.ldg.slot).recs ++ (s.ldg.buf.take n).map LedgerRec.word := by
  have hflash : ({ s with ldg := s.ldg.programmed n } : State).lostRecord.pumpLedger.ldg.flash = (s.ldg.programmed n).flash :=
    (flash_pumpLedger _).1.trans (flash_lostRecord _)
  rw [execFlashProgramDone, hop]
  dsimp only
  rw [if_pos rfl, htrailer]
  exact ⟨_, rfl, (congrArg Page.recs (pageAt_congr hflash s.ldg.slot)).trans (pageAt_programmed s.ldg n)⟩

theorem pageAt_pageClosed (l : Ledger) (t : Trailer) : ((l.pageClosed t).pageAt l.slot).trailer = some t ∧ (l.pageClosed t).page = wrap 32 (l.page + 1) := by
  have hflash : (l.pageClosed t).flash = tput l.slot { l.pageAt l.slot with trailer := some t } l.flash ∧ (l.pageClosed t).page = wrap 32 (l.page + 1) := by
    rw [Ledger.pageClosed]
    dsimp only
    split <;> exact ⟨rfl, rfl⟩
  rw [Ledger.pageAt, hflash.1, tgetD_tput_self]
  exact ⟨rfl, hflash.2⟩

theorem execFlashProgramDone_of_trailer (n : Nat) (retry : Bool) (r : Trailer) (s : State) (hop : s.ldg.op = .programming n retry)
    (htrailer : s.ldg.trailer = some r) : ∃ t, execFlashProgramDone true s = .next t ∧ (t.ldg.pageAt s.ldg.slot).trailer = some r ∧
      t.ldg.page = wrap 32 (s.ldg.page + 1) := by
  obtain ⟨htrailer', hpage'⟩ := pageAt_pageClosed s.ldg r
  rw [execFlashProgramDone, hop]
  dsimp only
  rw [if_pos rfl, htrailer]
  dsimp only
  refine ⟨_, rfl, ?_⟩
  generalize hu : ({ s.pageDone r with ldg := _ } : State) = u
  have hu' : u.ldg.flash = (s.ldg.pageClosed r).flash ∧ u.ldg.page = (s.ldg.pageClosed r).page := by
    rw [← hu]
    exact ⟨rfl, rfl⟩
  obtain ⟨hflash, hpage, -, -⟩ := flash_pumpLedger u
  exact ⟨(congrArg Page.trailer (pageAt_congr (hflash.trans hu'.1) s.ldg.slot)).trans htrailer', (hpage.trans hu'.2).trans hpage'⟩

theorem execFlashProgramDone_retries (n : Nat) (s : State) (hop : s.ldg.op = .programming n false) : ∃ t, execFlashProgramDone false s = .next t ∧
    t.ldg.op = .programming n true ∧ t.ldg.flash = s.ldg.flash := by
  rw [execFlashProgramDone, hop]
  exact ⟨_, rfl, rfl, rfl⟩

/-- A flash error sets its event and is a fault (R408). -/
theorem flashError_shows (s : State) (addr : Nat) : (s.flashError addr).get Reg.LDG_EVENT_FLSERR 0 = 1 ∧
    (s.flashError addr).flt.queue.getLast?.map (·.kind) = some 0x602 :=
  ⟨get_raise_self (s.kilnFault 0x1F 2 0x602 0 (wrap 26 addr)) Reg.LDG_EVENT_FLSERR 0, by simp [State.flashError, State.kilnFault]⟩

theorem execFlashProgramDone_fails (n : Nat) (s : State) (hop : s.ldg.op = .programming n true) : ∃ t, execFlashProgramDone false s = .next t ∧
    t.get Reg.LDG_EVENT_FLSERR 0 = 1 ∧ t.flt.queue.getLast?.map (·.kind) = some 0x602 := by
  rw [execFlashProgramDone, hop]
  dsimp only
  rw [if_neg Bool.false_ne_true, if_neg (by decide)]
  split
  · obtain ⟨hevent, hfault⟩ := flashError_shows s (trailerAddr s.ldg.slot)
    generalize s.flashError (trailerAddr s.ldg.slot) = u at hevent hfault
    refine ⟨_, rfl, (get_pumpLedger_of_steady (by decide) _).trans hevent, ?_⟩
    rw [flt_pumpLedger]
    exact hfault
  · obtain ⟨hevent, hfault⟩ := flashError_shows s (slotAddr s.ldg.slot (s.ldg.pageAt s.ldg.slot).recs.length)
    generalize s.flashError (slotAddr s.ldg.slot (s.ldg.pageAt s.ldg.slot).recs.length) = u at hevent hfault
    refine ⟨_, rfl, (get_closePage_of_steady (by decide) _ _ _).trans hevent, ?_⟩
    have hclose := closePage_blank (F := { ldg := true, vault := true, pulses := true, freeCtr := true, regs := [.ldg] })
      { u with ldg := { u.ldg with op := .idle } } true true rfl rfl rfl rfl rfl
    rw [flt_of_blank hclose rfl]
    exact hfault

/-! ## Erasing (R400) -/

theorem contains_blockErased (l : Ledger) (b : Nat) : (l.blockErased b).erased.contains b = true := by
  rw [Ledger.blockErased]
  dsimp only
  split
  case isTrue h => exact h
  case isFalse => simp

theorem contains_eraseFailed (l : Ledger) (b : Nat) : (l.eraseFailed b).failed.contains b = true := by
  rw [Ledger.eraseFailed]
  dsimp only
  rw [apply_ite Ledger.failed]
  simp

theorem execFlashEraseDone_frees (b : Nat) (s : State) (hop : s.ldg.op = .erasing b) : ∃ t, execFlashEraseDone true s = .next t ∧
    t.ldg.erased.contains b = true ∧ t.ldg.flash = s.ldg.flash.filter (fun e => e.1 / 7 != b) := by
  obtain ⟨hflash, -, herased, -⟩ := flash_pumpLedger { s with ldg := s.ldg.blockErased b }
  rw [execFlashEraseDone, hop]
  exact ⟨_, rfl, by rw [herased]; exact contains_blockErased s.ldg b, hflash⟩

theorem execFlashEraseDone_fails (b : Nat) (s : State) (hop : s.ldg.op = .erasing b) : ∃ t, execFlashEraseDone false s = .next t ∧
    t.ldg.failed.contains b = true ∧ t.get Reg.LDG_EVENT_FLSERR 0 = 1 := by
  obtain ⟨hevent, -⟩ := flashError_shows s (slotAddr (7 * b) 0)
  rw [execFlashEraseDone, hop]
  dsimp only
  rw [if_neg Bool.false_ne_true]
  generalize s.flashError (slotAddr (7 * b) 0) = u at hevent
  obtain ⟨-, -, -, hfailed⟩ := flash_pumpLedger { u with ldg := u.ldg.eraseFailed b }
  exact ⟨_, rfl, by rw [hfailed]; exact contains_eraseFailed u.ldg b, (get_pumpLedger_of_steady (by decide) _).trans hevent⟩

/-! ## Recovery (R405) -/

section
variable {f : RegField} (hf : f.steady = true) (hunit : f.unit = .ldg)
include hf

theorem get_closeRecovered_of_steady (n : Nat) (s : State) : (s.closeRecovered n).2.get f 0 = s.get f 0 := by
  induction n generalizing s with
  | zero => rfl
  | succ n ih =>
    rw [State.closeRecovered]
    dsimp only
    split
    case isTrue => rfl
    case isFalse =>
      refine (ih _).trans ((get_raise_apart (apart_of_steady hf (by decide)) _ 0).trans ?_)
      exact get_sealPage_of_steady hf s _ _ _ _

theorem get_recoverLedger_of_steady (s : State) : s.recoverLedger.get f 0 = s.get f 0 := by
  unfold State.recoverLedger
  extract_lets u src v
  have hv : v.get f 0 = s.get f 0 := by
    unfold v u
    split <;> rfl
  clear_value v
  rw [get_pumpLedger_of_steady hf, get_recordOf_of_steady hf]
  exact (get_closeRecovered_of_steady hf 3 v).trans hv

theorem get_coldRestore_of_steady (s : State) : s.coldRestore.get f 0 = s.get f 0 := get_record_of_steady hf _ _

include hunit

theorem get_bruEnd_of_steady (s : State) : s.bruEnd.get f 0 = s.get f 0 := by
  have htime : ((s.set Reg.BRU_TIME_US 0 ((s.gt - s.bru.start) * 4000 / s.cfg.rclk)).ibi 0xA4).get f 0 = s.get f 0 :=
    (get_of_blank (F := { pulses := true }) (by apply ibi_blank; rfl) rfl 0).trans (get_set_ne (key_ne_of_unit_ne (by rw [hunit]; decide) 0 0) s _)
  rw [State.bruEnd]
  dsimp only
  split
  case isTrue => exact (get_record_of_steady hf _ _).trans htime
  case isFalse => exact htime

theorem get_bruRefuse_of_steady (s : State) (code detail : Nat) : (s.bruRefuse code detail).get f 0 = s.get f 0 := by
  rw [State.bruRefuse]
  dsimp only
  rw [get_bruEnd_of_steady hf hunit, get_recordOf_of_steady hf]
  exact (get_set_ne (key_ne_of_unit_ne (by rw [hunit]; decide) 0 0) _ 1).trans (get_set_ne (key_ne_of_unit_ne (by rw [hunit]; decide) 0 0) _ _)

theorem get_bruReady_of_steady (s : State) : s.bruReady.get f 0 = s.get f 0 := by
  unfold State.bruReady
  generalize s.cfg.policy.getD (0xFFFF, 0) = p
  obtain ⟨lock, allow⟩ := p
  dsimp -zeta only
  extract_lets src u v w x quenched us
  have hv : v.get f 0 = s.get f 0 := (get_of_blank (F := { regs := [.bru] }) (setAll_blank u 0 _ rfl) (by rw [hunit]; rfl) 0).trans rfl
  have hw : w.get f 0 = v.get f 0 := by
    have hroles : (v.liveRegions.foldl (fun s r => s.driveRoles r) v).get f 0 = v.get f 0 :=
      apply_foldl (fun t => t.get f 0) _ (fun t r => get_of_blank (F := { probes := true, regs := [.probe] }) (by apply driveRoles_blank <;> rfl)
        (by rw [hunit]; rfl) 0) _ v
    have hphase : ∀ y : State, ((y.setPhase .service).rollBackLost none).get f 0 = y.get f 0 := fun y =>
      get_of_blank ((rollBackLost_blank (F := { flt := true, flue := true, regs := [.flt] }) (y.setPhase .service) none rfl rfl).trans
        (setPhase_blank y .service rfl rfl rfl)) (by rw [hunit]; rfl) 0
    exact (hphase _).trans hroles
  have hx : x.get f 0 = w.get f 0 := apply_foldl (fun t => t.get f 0) _ (fun t c => get_of_blank (F := { link := true }) (by apply enablePort_blank; rfl)
    rfl 0) _ w
  have hevent : ∀ t : State, (t.event 13).get f 0 = t.get f 0 := fun t => rfl
  clear_value x
  rw [get_bruEnd_of_steady hf hunit, hevent, get_recordOf_of_steady hf]
  exact (get_of_blank (F := { regs := [.bru] }) (raise_blank x Reg.BRU_EVENT_READY 0 rfl) (by rw [hunit]; rfl) 0).trans (hx.trans (hw.trans hv))

theorem get_qualCheck_of_steady (s : State) : s.qualCheck.get f 0 = s.get f 0 := by
  rw [State.qualCheck]
  split
  case isTrue => rfl
  case isFalse =>
    split
    case isTrue => exact get_bruRefuse_of_steady hf hunit s _ _
    case isFalse =>
      split
      case isTrue => exact get_bruReady_of_steady hf hunit s
      case isFalse => rfl

end

theorem bru_bruEnd (s : State) : s.bruEnd.bru = s.bru := by
  rw [State.bruEnd]
  dsimp only
  have hibi : ∀ (t : State) (n : Nat), (t.ibi n).bru = t.bru := fun t n => bru_of_blank (F := { pulses := true }) (by apply ibi_blank; rfl) rfl
  split
  case isTrue =>
    exact (bru_of_blank (F := { ldg := true, regs := [.ldg] }) (bankedRecord_blank _ 0x1201 4 5 0 rfl rfl) rfl).trans (hibi _ _)
  case isFalse => exact hibi _ _

theorem bru_recordOf (s : State) (code src p0 p1 p2 : Nat) : (s.recordOf code src p0 p1 p2).bru = s.bru :=
  bru_of_blank (recordOf_blank (F := { ldg := true, regs := [.ldg] }) s code src p0 p1 p2 rfl rfl) rfl

theorem ledgerDone_bruRefuse (s : State) (code detail : Nat) : (s.bruRefuse code detail).bru.ledgerDone = s.bru.ledgerDone := by
  rw [State.bruRefuse]
  dsimp only
  rw [bru_bruEnd, bru_recordOf]
  rfl

theorem ledgerDone_bruReady (s : State) : s.bruReady.bru.ledgerDone = s.bru.ledgerDone := by
  unfold State.bruReady
  generalize s.cfg.policy.getD (0xFFFF, 0) = p
  obtain ⟨lock, allow⟩ := p
  dsimp -zeta only
  extract_lets src u v w x quenched us
  have hw : w.bru = v.bru := by
    have hroles : (v.liveRegions.foldl (fun s r => s.driveRoles r) v).bru = v.bru :=
      apply_foldl State.bru _ (fun t r => bru_of_blank (F := { probes := true, regs := [.probe] }) (by apply driveRoles_blank <;> rfl) rfl) _ v
    have hphase : ∀ y : State, ((y.setPhase .service).rollBackLost none).bru = y.bru := fun y =>
      bru_of_blank ((rollBackLost_blank (F := { flt := true, flue := true, regs := [.flt] }) (y.setPhase .service) none rfl rfl).trans
        (setPhase_blank y .service rfl rfl rfl)) rfl
    exact (hphase _).trans hroles
  have hx : x.bru = w.bru := apply_foldl State.bru _ (fun t c => bru_of_blank (F := { link := true }) (by apply enablePort_blank; rfl) rfl) _ w
  clear_value x
  rw [bru_bruEnd, show ∀ t : State, (t.event 13).bru = t.bru from fun _ => rfl, bru_recordOf, raise_bru, hx, hw]
  rfl

theorem ledgerDone_qualCheck (s : State) : s.qualCheck.bru.ledgerDone = s.bru.ledgerDone := by
  rw [State.qualCheck]
  split
  case isTrue => rfl
  case isFalse =>
    split
    case isTrue => exact ledgerDone_bruRefuse s _ _
    case isFalse =>
      split
      case isTrue => exact ledgerDone_bruReady s
      case isFalse => rfl

theorem execLedgerRecovery_takes (sizeMib : Nat) (meets : Bool) (s : State) (hon : s.vault.st ≠ .off) (htested : s.vault.st ≠ .selftest) :
    ∃ t, execLedgerRecovery sizeMib meets s = .next t ∧ t.get Reg.LDG_FLASH_SIZEMIB 0 = wrap Reg.LDG_FLASH_SIZEMIB.w sizeMib ∧
      t.get Reg.LDG_FLASH_OK 0 = flag meets ∧ t.bru.ledgerDone = true := by
  unfold execLedgerRecovery
  rw [if_neg (by simp [hon, htested])]
  extract_lets s₁ l b s₂ s₃ s₄
  have hsize : s₁.get Reg.LDG_FLASH_SIZEMIB 0 = wrap Reg.LDG_FLASH_SIZEMIB.w sizeMib :=
    (get_set_apart (by decide) _ 0 _).trans (get_set_self s Reg.LDG_FLASH_SIZEMIB 0 sizeMib)
  have hok : s₁.get Reg.LDG_FLASH_OK 0 = flag meets := by
    refine (get_set_self _ Reg.LDG_FLASH_OK 0 (flag meets)).trans ?_
    cases meets <;> rfl
  have hkeep : ∀ f : RegField, f.steady = true → s₄.get f 0 = s₁.get f 0 := fun f hf => by
    have hrecover := get_recoverLedger_of_steady hf s₂
    unfold s₄
    split
    case isTrue => exact (get_coldRestore_of_steady hf _).trans hrecover
    case isFalse => exact hrecover
  have hbru : s₄.bru = s₂.bru := by
    have hrecover : s₃.bru = s₂.bru :=
      bru_of_blank (F := { ldg := true, vault := true, pulses := true, freeCtr := true, regs := [.ldg] }) (by apply recoverLedger_blank <;> rfl) rfl
    unfold s₄
    split
    case isTrue => exact (bru_of_blank (F := { ldg := true, pwr := true, regs := [.ldg] }) (by apply coldRestore_blank <;> rfl) rfl).trans hrecover
    case isFalse => exact hrecover
  have hdone : s₄.bru.ledgerDone = true := by
    rw [hbru]
  have hsize₄ := (hkeep Reg.LDG_FLASH_SIZEMIB (by decide)).trans hsize
  have hok₄ := (hkeep Reg.LDG_FLASH_OK (by decide)).trans hok
  refine ⟨_, rfl, ?_⟩
  split
  case isTrue => exact ⟨(get_bruRefuse_of_steady (by decide) rfl s₄ _ _).trans hsize₄, (get_bruRefuse_of_steady (by decide) rfl s₄ _ _).trans hok₄,
      (ledgerDone_bruRefuse s₄ _ _).trans hdone⟩
  case isFalse => exact ⟨(get_qualCheck_of_steady (by decide) rfl s₄).trans hsize₄, (get_qualCheck_of_steady (by decide) rfl s₄).trans hok₄,
      (ledgerDone_qualCheck s₄).trans hdone⟩

/-- Settles O46. -/
theorem ledgerFlash : Obligations.LedgerFlash := ⟨execFlashProgramDone_of_records, execFlashProgramDone_of_trailer, execFlashProgramDone_retries,
    execFlashProgramDone_fails, execFlashEraseDone_frees, execFlashEraseDone_fails, execLedgerRecovery_takes⟩

end Sys2Proof.Machine
end

section
/-! SUPPORT. O47: bring-up. -/
namespace Sys2Proof.Machine
open Sys2Proof

/-! ## What a refusal shows (R428) -/

theorem bruRefuse_shows (s : State) (code detail : Nat) : (s.bruRefuse code detail).bru.state = .refused ∧ (s.bruRefuse code detail).bru.code = code ∧
    (s.bruRefuse code detail).get Reg.BRU_EVENT_REFUSED 0 = 1 := by
  have hend : ∀ u : State, u.bruEnd.get Reg.BRU_EVENT_REFUSED 0 = u.get Reg.BRU_EVENT_REFUSED 0 := fun u => by
    have htime : ((u.set Reg.BRU_TIME_US 0 ((u.gt - u.bru.start) * 4000 / u.cfg.rclk)).ibi 0xA4).get Reg.BRU_EVENT_REFUSED 0 =
        u.get Reg.BRU_EVENT_REFUSED 0 :=
      (get_of_blank (F := { pulses := true }) (by apply ibi_blank; rfl) rfl 0).trans (get_set_apart (by decide) u 0 _)
    rw [State.bruEnd]
    dsimp only
    split
    case isTrue => exact (get_of_blank (F := { ldg := true, regs := [.ldg] }) (bankedRecord_blank _ 0x1201 4 5 0 rfl rfl) rfl 0).trans htime
    case isFalse => exact htime
  unfold State.bruRefuse
  extract_lets b u
  rw [bru_bruEnd, bru_recordOf, hend]
  refine ⟨rfl, rfl, ?_⟩
  exact (get_of_blank (F := { ldg := true, regs := [.ldg] }) (recordOf_blank _ 0x1302 (kilnSrc 0x1F 5) code detail 0 rfl rfl) rfl 0).trans
    (get_raise_self (u.set Reg.BRU_DETAIL_DETAIL 0 detail) Reg.BRU_EVENT_REFUSED 0)

/-! ## What bring-up has learned so far -/

/-- Every part but the bring-up unit. -/
def Fields.allButBru : Fields := { Fields.all with bru := false }

/-- The bring-up unit without an amendment in hand: what a void leaves. -/
def Bru.unamended (b : Bru) : Bru := { b with amend := none }

/-- The bring-up unit without its state, GO, a pause and an amendment in hand: what the next step of the sequence leaves. -/
def Bru.learned (b : Bru) : Bru := { b with state := .selftest, code := 0, classH := false, go := false, paused := false, amend := none }

theorem unamended_voidOrigin (s : State) (f : FolioRec) (reason : Nat) : (s.voidOrigin f reason).bru.unamended = s.bru.unamended := by
  have hreact : (s.reactVoid f.number).bru = s.bru := bru_of_blank (F := .allButBru) (by apply reactVoid_blank <;> rfl) rfl
  unfold State.voidOrigin
  extract_lets u
  have hu : u.bru.unamended = s.bru.unamended := congrArg Bru.unamended hreact
  clear_value u
  split
  · rw [bru_of_blank (F := .allButBru) (setAll_blank u 0 _ rfl) rfl]
    exact hu
  · rw [bru_of_blank (F := .allButBru) (sweepVoided_blank u f.acts rfl rfl rfl rfl) rfl]
    exact hu
  · rw [bru_of_blank (F := .allButBru) (setAll_blank _ 0 _ rfl) rfl]
    exact hu
  · rw [bru_of_blank (F := .allButBru) (linkDone_blank u _ false rfl rfl rfl) rfl]
    exact hu
  · exact hu

theorem unamended_voidFolio (s : State) (n reason voidsrc : Nat) : (s.voidFolio n reason voidsrc).bru.unamended = s.bru.unamended := by
  rw [State.voidFolio]
  split
  case h_1 => rfl
  case h_2 =>
    split
    case isFalse => rfl
    case isTrue =>
      extract_lets told u v w x
      have hv : v.bru = s.bru := by
        unfold v
        split <;> rfl
      have hx : x.bru = s.bru := by
        unfold x
        split
        case isTrue => exact (bru_of_blank (F := .allButBru) (linkVoid_blank _ _ rfl rfl rfl) rfl).trans hv
        case isFalse => exact hv
      rw [unamended_voidOrigin, hx]

theorem unamended_voidAll (s : State) (reason : Nat) (l : List Nat) : (s.voidAll reason l).bru.unamended = s.bru.unamended :=
  apply_foldl (fun u => u.bru.unamended) _ (fun u n => unamended_voidFolio u n reason 0x7FF) l s

theorem learned_quiesce (s : State) : s.quiesce.bru.learned = s.bru.learned := by
  unfold State.quiesce
  extract_lets p b u v w x
  have hv : v.bru.learned = s.bru.learned := by
    unfold v
    split
    case isTrue => exact (congrArg Bru.learned (bru_of_blank (F := .allButBru) (bankedRecord_blank _ _ _ _ _ rfl rfl) rfl)).trans rfl
    case isFalse => rfl
  have hw : w.bru.learned = v.bru.learned := by
    unfold w
    exact (congrArg Bru.learned (unamended_voidAll v 10 _) :)
  have hx : x.bru = w.bru := apply_foldl State.bru _ (fun t n => by
    dsimp only
    split
    case isTrue =>
      rw [raise_bru]
      exact bru_of_blank (F := .allButBru) (stkDropCh_blank t n rfl rfl rfl rfl) rfl
    case isFalse => rfl) _ w
  clear_value x
  rw [← hv, ← hw, ← hx]
  split <;> rfl

theorem learned_bruNext (s : State) : s.bruNext.bru.learned = s.bru.learned := by
  unfold State.bruNext
  extract_lets waits out sums
  split
  case isFalse => rfl
  case isTrue =>
    rw [State.subStep]
    split
    case isTrue => rfl
    case isFalse =>
      split
      case isTrue => exact learned_quiesce s
      case isFalse =>
        unfold waits
        split <;> rfl

theorem fuses_bruNext (s : State) : s.bruNext.bru.fuses = s.bru.fuses := (congrArg Bru.fuses (learned_bruNext s) :)

theorem pstKnown_bruNext (s : State) : s.bruNext.bru.pstKnown = s.bru.pstKnown := (congrArg Bru.pstKnown (learned_bruNext s) :)

theorem cfg_bruNext (s : State) : s.bruNext.cfg = s.cfg :=
  cfg_of_blank (F := { Fields.all with cfg := false }) (by apply bruNext_blank <;> rfl) rfl

/-! ## Fuse words (R419) -/

theorem execFuseWord_of_good (addr data : Nat) (s : State) (hstate : s.bru.state = .selftest) (hopen : s.bru.fuseDone = false)
    (hnext : s.bru.nextFuse = some addr) (hgood : fuseBad addr (wrap 32 data) = false) :
    ∃ t, execFuseWord addr data true s = .next t ∧ tget addr t.bru.fuses = some (wrap 32 data) := by
  have hkept : tget addr (tput addr (wrap 32 data) s.bru.fuses) = some (wrap 32 data) := tget_tput_self addr _ s.bru.fuses
  unfold execFuseWord
  extract_lets b d c u
  rw [if_neg (by simp [b, hstate, hopen, hnext]), if_neg (by decide), if_neg (by simp [d, hgood])]
  refine ⟨_, rfl, ?_⟩
  split
  · exact hkept
  · rw [fuses_bruNext]
    exact hkept

theorem execFuseWord_rereads (addr data : Nat) (s : State) (hstate : s.bru.state = .selftest) (hopen : s.bru.fuseDone = false)
    (hnext : s.bru.nextFuse = some addr) (hfirst : s.bru.reread = none) : ∃ t, execFuseWord addr data false s = .next t ∧
      t.bru.reread = some addr ∧ .fuseRd addr ∈ t.pulses ∧ t.bru.fuses = s.bru.fuses := by
  unfold execFuseWord
  extract_lets b d c u
  rw [if_neg (by simp [b, hstate, hopen, hnext]), if_pos rfl, if_neg (by simp [b, hfirst])]
  exact ⟨_, rfl, rfl, by simp [State.emit], rfl⟩

theorem execFuseWord_of_second_error (addr data : Nat) (s : State) (hstate : s.bru.state = .selftest) (hopen : s.bru.fuseDone = false)
    (hnext : s.bru.nextFuse = some addr) (hsecond : s.bru.reread = some addr) : ∃ t, execFuseWord addr data false s = .next t ∧
      t.bru.state = .refused ∧ t.bru.code = 0x12 ∧ t.get Reg.BRU_EVENT_REFUSED 0 = 1 := by
  unfold execFuseWord
  extract_lets b d c u
  rw [if_neg (by simp [b, hstate, hopen, hnext]), if_pos rfl, if_pos hsecond]
  exact ⟨_, rfl, bruRefuse_shows _ 0x12 0⟩

theorem execFuseWord_of_bad (addr data : Nat) (s : State) (hstate : s.bru.state = .selftest) (hopen : s.bru.fuseDone = false)
    (hnext : s.bru.nextFuse = some addr) (hbad : fuseBad addr (wrap 32 data) = true) : ∃ t, execFuseWord addr data true s = .next t ∧
      t.bru.state = .refused ∧ t.bru.code = 0x12 ∧ t.get Reg.BRU_EVENT_REFUSED 0 = 1 := by
  unfold execFuseWord
  extract_lets b d c u
  rw [if_neg (by simp [b, hstate, hopen, hnext]), if_neg (by decide), if_pos hbad]
  exact ⟨_, rfl, bruRefuse_shows _ 0x12 0⟩

/-! ## Training of the Flue (R421) -/

theorem execFlueTrainingDone_of_answered (w h spine detail : Nat) (hopsOk : Bool) (latencies : List (HopId × Nat)) (s : State)
    (hstate : s.bru.state = .selftest) (htrained : s.bru.trained = false) : ∃ t, execFlueTrainingDone w h spine hopsOk true detail latencies s = .next t ∧
      t.bru.trained = true ∧ t.bru.hopsOk = (hopsOk && latencies.all (fun e => decide (e.2 ≤ hopAllowance e.1))) ∧ t.cfg.w = w ∧ t.cfg.h = h ∧
      t.cfg.spine = spine := by
  unfold execFlueTrainingDone
  rw [if_neg (by simp [hstate, htrained]), if_neg (by decide)]
  extract_lets b c u
  have hbru : (u.setLatencies latencies).bru = u.bru := bru_of_blank (F := .allButBru) (by apply setLatencies_blank; rfl) rfl
  have hcfg : (u.setLatencies latencies).cfg = u.cfg := cfg_of_blank (F := { Fields.all with cfg := false }) (by apply setLatencies_blank; rfl) rfl
  have hlearned := (learned_bruNext (u.setLatencies latencies)).trans (congrArg Bru.learned hbru)
  refine ⟨_, rfl, (congrArg Bru.trained hlearned :), (congrArg Bru.hopsOk hlearned :), ?_⟩
  rw [cfg_bruNext, hcfg]
  exact ⟨rfl, rfl, rfl⟩

theorem execFlueTrainingDone_of_silent (w h spine detail : Nat) (hopsOk : Bool) (latencies : List (HopId × Nat)) (s : State)
    (hstate : s.bru.state = .selftest) (htrained : s.bru.trained = false) : ∃ t, execFlueTrainingDone w h spine hopsOk false detail latencies s = .next t ∧
      t.bru.state = .refused ∧ t.bru.code = 0x22 ∧ t.get Reg.BRU_EVENT_REFUSED 0 = 1 := by
  rw [execFlueTrainingDone, if_neg (by simp [hstate, htrained]), if_pos rfl]
  exact ⟨_, rfl, bruRefuse_shows s 0x22 detail⟩

/-! ## Results of the probes' self-tests (R424, R435) -/

theorem bit_or_two_pow (x n : Nat) : bit (x ||| 2 ^ n) n = true := by
  have h : (x ||| 2 ^ n).testBit n = true := by simp [Nat.testBit_two_pow_self]
  rw [Nat.testBit, Nat.one_and_eq_mod_two] at h
  simpa [bit, bits] using h

/-- A first result of a probe is noted, and its failed tests with its position (R424). -/
theorem selfTested_notes {s : State} {r t : Nat} (hbring : s.bru.inBringUp = true) (ht : t < 1056) (hfirst : bit (tgetD 0 r s.bru.pstDone) t = false)
    (mask : Nat) : bit (tgetD 0 r (s.selfTested r t mask).bru.pstDone) t = true ∧
      (s.selfTested r t mask).bru.pstFailed = (if mask = 0 then s.bru.pstFailed else s.bru.pstFailed ++ [(r, t, mask)]) := by
  unfold State.selfTested
  extract_lets done done' fails b u
  rw [if_neg (by simp [hbring, done, hfirst, ht])]
  have hu : bit (tgetD 0 r u.bru.pstDone) t = true ∧ u.bru.pstFailed = (if mask = 0 then s.bru.pstFailed else s.bru.pstFailed ++ [(r, t, mask)]) := by
    refine ⟨?_, rfl⟩
    change bit (tgetD 0 r (tput r done' s.bru.pstDone)) t = true
    rw [tgetD_tput_self]
    exact bit_or_two_pow done t
  split <;> exact hu

theorem execPstResult_notes (region tile mask : Nat) (s : State) (hbring : s.bru.inBringUp = true) (htile : tile < 1056)
    (hfirst : bit (tgetD 0 region s.bru.pstDone) tile = false) : ∃ t, execPstResult region tile mask s = .next t ∧
      bit (tgetD 0 region t.bru.pstDone) tile = true ∧
      t.bru.pstFailed = (if wrap 8 mask = 0 then s.bru.pstFailed else s.bru.pstFailed ++ [(region, tile, wrap 8 mask)]) := by
  refine ⟨_, rfl, ?_⟩
  generalize hu : ({ s with flue := _ } : State) = u
  have hbru : u.bru = s.bru := by rw [← hu]
  rw [← hbru] at hbring hfirst ⊢
  exact selfTested_notes hbring htile hfirst (wrap 8 mask)

theorem execPstTimeout_notes (region tile : Nat) (s : State) (hbring : s.bru.inBringUp = true) (htile : tile < 1056)
    (hfirst : bit (tgetD 0 region s.bru.pstDone) tile = false) : ∃ t, execPstTimeout region tile s = .next t ∧
      bit (tgetD 0 region t.bru.pstDone) tile = true ∧
      t.bru.pstFailed.map (fun e => (e.1, e.2.1)) = s.bru.pstFailed.map (fun e => (e.1, e.2.1)) ++ [(region, tile)] := by
  rw [execPstTimeout]
  dsimp only
  rw [if_neg (by simp [hbring, hfirst])]
  split
  case isTrue =>
    obtain ⟨hdone, hfailed⟩ := selfTested_notes (s := { (s.fresh 8).2 with bru := { (s.fresh 8).2.bru with pstFailed := s.bru.pstFailed ++ [(region, tile, 0)] } })
      hbring htile hfirst 0
    refine ⟨_, rfl, hdone, (congrArg (List.map (fun e : Nat × Nat × Nat => (e.1, e.2.1))) hfailed).trans ?_⟩
    simp
  case isFalse hmask =>
    obtain ⟨hdone, hfailed⟩ := selfTested_notes (s := (s.fresh 8).2) hbring htile hfirst (s.fresh 8).1
    refine ⟨_, rfl, hdone, ?_⟩
    rw [hfailed, if_neg hmask]
    simp

theorem execPstSum_knows (region failures : Nat) (tiles : List Nat) (s : State) : ∃ t, execPstSum region failures tiles s = .next t ∧
    ∀ n ∈ tiles, (region, n) ∈ t.bru.pstKnown := by
  unfold execPstSum
  extract_lets u new maskOfTile v known full b w x
  have hv : v.bru = s.bru := apply_foldl State.bru _ (fun t e => bru_recordOf t _ _ _ _ _) new u
  have hknown : ∀ n ∈ tiles, (region, n) ∈ known := fun n hn => by
    unfold known new
    by_cases h : (region, n) ∈ s.bru.pstKnown
    case pos => exact List.mem_append_left _ (by rw [hv]; exact h)
    case neg => exact List.mem_append_right _ (List.mem_filter.mpr ⟨List.mem_map_of_mem hn, by simpa using fun hmem : (region, n) ∈ u.bru.pstKnown => h hmem⟩)
  refine ⟨_, rfl, fun n hn => ?_⟩
  rw [pstKnown_bruNext]
  split <;> exact hknown n hn

/-- Settles O47. -/
theorem bringUpCommands : Obligations.BringUpCommands := ⟨execFuseWord_of_good, execFuseWord_rereads, execFuseWord_of_second_error, execFuseWord_of_bad,
    execFlueTrainingDone_of_answered, execFlueTrainingDone_of_silent, execPstResult_notes, execPstTimeout_notes, execPstSum_knows⟩

end Sys2Proof.Machine
end

section
/-! SUPPORT. O48: the Charter. -/
namespace Sys2Proof.Machine
open Sys2Proof

/-! ## GO (R420) -/

theorem execCharterGo_loads (ten tag : Nat) (s : State) (hadmits : s.admits ten tag none = true) (hstate : s.bru.state = .waitch)
    (hpaused : s.bru.paused = false) : ∃ t, execCharterGo ten tag s = .next t ∧ t.bru.state = .load ∧ .ghpRs (wrap 6 tag) 0 0 ∈ t.pulses := by
  rw [execCharterGo, hostWriteIn_of_admits hadmits, State.goWrite, hstate]
  dsimp only
  rw [if_neg (by simp [hpaused])]
  exact ⟨_, rfl, rfl, by simp [State.emit]⟩

theorem execCharterGo_of_early (ten tag : Nat) (s : State) (hadmits : s.admits ten tag none = true) (hstate : s.bru.state = .selftest) :
    ∃ t, execCharterGo ten tag s = .next t ∧ t.bru.go = true ∧ t.bru.state = .selftest ∧ .ghpRs (wrap 6 tag) 0 0 ∈ t.pulses := by
  rw [execCharterGo, hostWriteIn_of_admits hadmits, State.goWrite, hstate]
  exact ⟨_, rfl, rfl, hstate, by simp [State.emit]⟩

theorem execCharterGo_of_busy (ten tag : Nat) (s : State) (hadmits : s.admits ten tag none = true)
    (hstate : s.bru.state = .load ∨ s.bru.state = .apply ∨ s.bru.state = .qualify) : ∃ t, execCharterGo ten tag s = .next t ∧
      t.get Reg.BRU_EVENT_GOBUSY 0 = 1 ∧ t.bru = s.bru ∧ .ghpRs (wrap 6 tag) 0 0 ∈ t.pulses := by
  have hgo : s.goWrite = s.raise Reg.BRU_EVENT_GOBUSY 0 := by
    rcases hstate with h | h | h <;> rw [State.goWrite, h]
  rw [execCharterGo, hostWriteIn_of_admits hadmits, hgo]
  exact ⟨_, rfl, get_raise_self s Reg.BRU_EVENT_GOBUSY 0, rfl, by simp [State.emit]⟩

theorem execCharterGo_of_refused (ten tag : Nat) (s : State) (htakes : s.takes tag = true) (hten : wrap 12 ten = 0) (hseal : s.isSealed = false)
    (hstate : s.bru.state = .refused) (hclass : s.bru.classH = false) (hlatch : s.bru.code ≠ 0x10) (hvault : s.bru.code ≠ 0x11) :
    ∃ t, execCharterGo ten tag s = .next t ∧ t.bru.state = .load ∧ .ghpRs (wrap 6 tag) 0 0 ∈ t.pulses := by
  have hok : s.judgeWrite (wrap 12 ten) none true true = .ok := by simp [State.judgeWrite, hten, hseal]
  have hgo : s.goWrite = s.bruLoad := by
    rw [State.goWrite, hstate]
    exact if_neg (by simp [hclass, hlatch, hvault])
  rw [execCharterGo, hostWriteIn_of_takes htakes, hok, if_pos rfl, ghpDone_ok, hgo]
  exact ⟨_, rfl, rfl, by simp [State.emit]⟩

theorem execCharterGoTimeout_refuses (s : State) (hstate : s.bru.state = .waitch) (hstopped : s.stopped = false) (hpaused : s.bru.paused = false) :
    ∃ t, execCharterGoTimeout s = .next t ∧ t.bru.state = .refused ∧ t.bru.code = 0x0A ∧ t.get Reg.BRU_EVENT_REFUSED 0 = 1 := by
  rw [execCharterGoTimeout, if_pos (by simp [hstate, hstopped, hpaused])]
  exact ⟨_, rfl, bruRefuse_shows s 0x0A 0⟩

/-! ## Verification and taking over (R417, R422) -/

/-- What a bring-up unit holds of the Charter it takes over. -/
def Bru.held (b : Bru) : Nat × Nat × Nat := (b.ckh, b.serial, b.edigest)

theorem held_bruRefuse (s : State) (code detail : Nat) : (s.bruRefuse code detail).bru.held = s.bru.held := by
  unfold State.bruRefuse
  extract_lets b u
  rw [bru_bruEnd, bru_recordOf]
  rfl

/-- A Charter that is applied is held, and the state is APPLY, or REFUSED where it does not fit what was found (R422). -/
theorem applyCharter_holds (s : State) (i : Image) : (s.applyCharter i).bru.held = (s.bru.ckh, i.serial, i.digest) ∧
    ((s.applyCharter i).bru.state = .apply ∨ (s.applyCharter i).bru.state = .refused) := by
  have hrefuse : ∀ (v : State) (code detail : Nat), v.bru.held = (s.bru.ckh, i.serial, i.digest) → (v.bruRefuse code detail).bru.held = (s.bru.ckh, i.serial, i.digest) ∧
      ((v.bruRefuse code detail).bru.state = .apply ∨ (v.bruRefuse code detail).bru.state = .refused) := fun v code detail hv =>
    ⟨(held_bruRefuse v code detail).trans hv, .inr (bruRefuse_shows v code detail).1⟩
  unfold State.applyCharter
  extract_lets b u p v w x y
  split
  case isTrue => exact hrefuse u _ _ rfl
  case isFalse =>
    split
    case isTrue => exact hrefuse u _ _ rfl
    case isFalse =>
      have hw : w.bru = u.bru :=
        (bru_of_blank (F := .allButBru) (((buildCatalogue_blank _ rfl rfl).trans (showCharter_blank _ rfl)).trans (setAll_blank v 0 _ rfl)) rfl).trans rfl
      split
      case isTrue => exact hrefuse w _ _ (congrArg Bru.held hw)
      case isFalse =>
        have hx : x.bru = w.bru := apply_foldl State.bru _ (fun t e => bru_of_blank (F := .allButBru) (loadEntry_blank t e _ (fun r => by cases r <;> rfl)) rfl) _ w
        have hy : y.bru = x.bru := by
          have htakes := apply_foldl State.bru _ (fun t r => bru_of_blank (F := .allButBru) (hubTakes_blank t r t.cfg.tcoefs rfl rfl rfl) rfl) (List.range x.regionCount) x
          exact (bru_of_blank (F := .allButBru) (setKbar_blank _ _ rfl) rfl).trans htakes
        have hz : (y.syncBindings.sendCharter y.cfg.sections).1.bru = y.bru :=
          bru_of_blank (F := .allButBru) ((sendCharter_blank _ _ rfl).trans (syncBindings_blank y rfl rfl rfl)) rfl
        generalize y.syncBindings.sendCharter y.cfg.sections = z at hz
        obtain ⟨z, l⟩ := z
        dsimp only at hz ⊢
        rw [hz, hy, hx, hw]
        exact ⟨rfl, .inl rfl⟩

theorem execCharterVerifyDone_of_good (ckh : Nat) (image : Image) (s : State) (hstate : s.bru.state = .load)
    (hcheck : State.imageCheck { s with bru := { s.bru with ckh := ckh } } image false ckh = 0) (hpatterns : image.patternsOk = true)
    (hvariant : charterHostFits image.content s.bru.variant = true) (hfits : charterFits image.content (image.content.w * image.content.h) = true)
    (hpaused : s.bru.paused = false) (hoff : s.pwr.offLatch = false) : ∃ t, execCharterVerifyDone image ckh none s = .next t ∧
      (t.bru.ckh = ckh ∧ t.bru.serial = image.serial ∧ t.bru.edigest = image.digest ∧ (t.bru.state = .apply ∨ t.bru.state = .refused)) := by
  unfold execCharterVerifyDone
  rw [if_neg (by simp [hstate])]
  extract_lets b u c
  rw [if_neg (by simpa [c] using hcheck), if_pos ⟨hpatterns, hvariant, hfits⟩, State.bruVerified, State.subStep,
    if_neg (by simp [u, b, hpaused]), if_neg (by simp [u, hoff])]
  obtain ⟨hheld, hnext⟩ := applyCharter_holds { u with bru := { u.bru with image := none } } image
  exact ⟨_, rfl, congrArg (fun p => p.1) hheld, congrArg (fun p => p.2.1) hheld, congrArg (fun p => p.2.2) hheld, hnext⟩

theorem execCharterVerifyDone_of_bad (ckh : Nat) (image : Image) (s : State) (hstate : s.bru.state = .load)
    (hcheck : State.imageCheck { s with bru := { s.bru with ckh := ckh } } image false ckh ≠ 0) : ∃ t, execCharterVerifyDone image ckh none s = .next t ∧
      t.bru.state = .refused ∧ t.bru.code = State.imageCheck { s with bru := { s.bru with ckh := ckh } } image false ckh ∧
      t.get Reg.BRU_EVENT_REFUSED 0 = 1 := by
  unfold execCharterVerifyDone
  rw [if_neg (by simp [hstate])]
  extract_lets b u c
  rw [if_pos hcheck]
  exact ⟨_, rfl, bruRefuse_shows u c _⟩

theorem exec_charterVerifyDone_of_bus_error (ckh cause addr tag : Nat) (image : Image) (s : State) (hstate : s.bru.state = .load) :
    ∃ t, exec (.charterVerifyDone image ckh (some (cause, addr, tag))) s = .next t ∧ t.bru.state = .refused ∧ t.bru.code = 0x0B ∧
      t.get Reg.BRU_EVENT_REFUSED 0 = 1 := by
  refine ⟨(s.busError cause 3 addr tag).bruRefuse 0x0B 0, ?_, bruRefuse_shows (s.busError cause 3 addr tag) 0x0B 0⟩
  change execCharterVerifyDone image ckh (some (cause, addr, tag)) s = _
  rw [execCharterVerifyDone, if_neg (by simp [hstate])]

/-! ## Parts and acknowledges (R422, R435) -/

theorem parts_setHubFolio (s : State) (r : Nat) (f : HubFolio) (x : Nat) : ((s.setHubFolio r f).hub x).parts = (s.hub x).parts :=
  view_modHub (g := fun h => { h with fl := { h.fl with open_ := h.fl.open_.map (fun g => if g.number = f.number then f else g) } }) Hub.parts (fun _ => rfl) s r x

theorem parts_tryVotes (s : State) (r x : Nat) : ((s.tryVotes r).hub x).parts = (s.hub x).parts := by
  refine apply_foldl (fun u => (u.hub x).parts) _ (fun u f => ?_) _ s
  rw [State.tryVote]
  dsimp only
  split
  · rfl
  · split
    case isTrue => exact ((congrArg Hub.parts (untraced_hubTrace _ r x _ _ _) :)).trans (parts_setHubFolio u r _ x)
    case isFalse => rfl

theorem execChData_keeps (region part sect : Nat) (s : State) : ∃ t, execChData region part true sect s = .next t ∧
    (t.hub region).parts.contains sect = true := by
  rw [execChData]
  dsimp only
  rw [if_neg (by decide)]
  refine ⟨_, rfl, ?_⟩
  rw [parts_tryVotes, hub_send, hub_modHub_self]
  dsimp only
  split
  case isTrue h => exact h
  case isFalse => simp

theorem execChAck_of_apply (region sect : Nat) (other : Nat × Nat) (s : State) (hstate : s.bru.state = .apply)
    (hawaited : s.bru.hubAcks.contains (region, sect) = true) (hother : s.bru.hubAcks.contains other = true) (hne : other ≠ (region, sect)) :
    ∃ t, execChAck region true sect s = .next t ∧ t.bru.hubAcks = s.bru.hubAcks.filter (· != (region, sect)) ∧ t.bru.state = .apply := by
  have hmore : s.bru.hubAcks.filter (· != (region, sect)) ≠ [] :=
    List.ne_nil_of_mem (List.mem_filter.mpr ⟨List.contains_iff_mem.mp hother, by simpa using hne⟩)
  rw [execChAck]
  dsimp only
  rw [if_neg (by decide), recv_bru, if_pos ⟨hstate, hawaited⟩, if_neg hmore]
  exact ⟨_, rfl, rfl, hstate⟩

theorem bru_amendVotes (s : State) : s.amendVotes.bru = s.bru := bru_of_blank (F := .allButBru) (by apply amendVotes_blank <;> rfl) rfl

theorem execChAck_of_amendment (region sect : Nat) (other : Nat × Nat) (a : AmendState) (s : State) (hstate : s.bru.state = .ready)
    (hamend : s.bru.amend = some a) (_hother : a.await.contains other = true) (_hne : other ≠ (region, sect)) (_hlost : s.lost = []) :
    ∃ t, execChAck region true sect s = .next t ∧ t.bru.amend = some { a with await := a.await.filter (· != (region, sect)) } := by
  rw [execChAck]
  dsimp only
  rw [if_neg (by decide), recv_bru, if_neg (by simp [hstate]), hamend]
  refine ⟨_, rfl, ?_⟩
  rw [bru_amendVotes]

/-! ## Qualification of links (R426) -/

theorem port_setPortBit (s : State) (f : RegField) (c : Nat) (v : Bool) (x : Nat) : (s.setPortBit f c v).port x = s.port x := rfl

theorem port_recordOf (s : State) (code src p0 p1 p2 x : Nat) : (s.recordOf code src p0 p1 p2).port x = s.port x :=
  port_congr (link_of_blank (F := { ldg := true, regs := [.ldg] }) (recordOf_blank s code src p0 p1 p2 rfl rfl) rfl) x

theorem pulses_recordOf (s : State) (code src p0 p1 p2 : Nat) : (s.recordOf code src p0 p1 p2).pulses = s.pulses :=
  pulses_of_blank (F := { ldg := true, regs := [.ldg] }) (recordOf_blank s code src p0 p1 p2 rfl rfl) rfl

/-- What a result of a qualification shows of its link before the link is taken into service (R426). -/
theorem qualified_setPortBits {s : State} {clp : Nat} {ok : Bool} (u : State) (hu : u = (s.emit (.qualReq clp false)).modPort clp (fun p => { p with qualified := ok }))
    (code src p0 p1 p2 : Nat) (v : State)
    (hv : v = (((u.setPortBit Reg.CHR_LQPASS_CLP clp ok).setPortBit Reg.CHR_LQFAIL_CLP clp (!ok)).recordOf code src p0 p1 p2)) :
    (v.port clp).qualified = ok ∧ (v.port clp).st = (s.port clp).st ∧ .qualReq clp false ∈ v.pulses := by
  rw [hv, port_recordOf, pulses_recordOf]
  change (u.port clp).qualified = ok ∧ (u.port clp).st = (s.port clp).st ∧ .qualReq clp false ∈ u.pulses
  rw [hu, port_modPort_self]
  exact ⟨rfl, rfl, by simp [State.emit]⟩

theorem execClpQualDone_of_pass (clp errs : Nat) (s : State) (hstate : s.bru.state = .ready) (hrequal : s.bru.requal.contains clp = true)
    (herrs : saturate 32 errs ≤ ((s.portEntry clp).map (·.qualmax)).getD 0) (hst : (s.port clp).st = .disabled) :
    ∃ t, execClpQualDone clp 0 errs s = .next t ∧ (t.port clp).qualified = true ∧ (t.port clp).st = .hello ∧ .qualReq clp false ∈ t.pulses := by
  unfold execClpQualDone
  extract_lets inBring again e ok u v w x b y
  have hbring : inBring = false := by simp [inBring, hstate]
  have hok : ok = true := by simp [ok, e, herrs, wrap]
  obtain ⟨hqual, hst', hpulse⟩ := qualified_setPortBits u rfl _ _ _ _ _ w rfl
  have hy : (y.port clp).qualified = true ∧ (y.port clp).st = .disabled ∧ .qualReq clp false ∈ y.pulses := by
    have hx : x = w := if_pos hok
    change (x.port clp).qualified = true ∧ (x.port clp).st = .disabled ∧ .qualReq clp false ∈ x.pulses
    rw [hx]
    exact ⟨hqual.trans hok, hst'.trans hst, hpulse⟩
  obtain ⟨hyqual, hyst, hypulse⟩ := hy
  rw [if_neg (by simpa [again] using fun _ => hrequal), if_neg (by rw [hbring]; decide), if_pos hok, State.enablePort, if_pos hyst, State.newSession]
  refine ⟨_, rfl, ?_⟩
  rw [port_modPort_self]
  exact ⟨hyqual, rfl, hypulse⟩

theorem execClpQualDone_of_failure (clp res errs : Nat) (s : State) (hstate : s.bru.state = .ready) (hrequal : s.bru.requal.contains clp = true)
    (hres : wrap 2 res ≠ 0) : ∃ t, execClpQualDone clp res errs s = .next t ∧ (t.port clp).qualified = false ∧ (t.port clp).st = (s.port clp).st ∧
      t.get Reg.BRU_EVENT_LQFAIL 0 = 1 := by
  unfold execClpQualDone
  extract_lets inBring again e ok u v w x b y
  have hbring : inBring = false := by simp [inBring, hstate]
  have hok : ok = false := by simp [ok, hres]
  obtain ⟨hqual, hst', -⟩ := qualified_setPortBits u rfl _ _ _ _ _ w rfl
  have hx : x = w.raise Reg.BRU_EVENT_LQFAIL 0 := if_neg (by simp [hok])
  have hy : (y.port clp).qualified = false ∧ (y.port clp).st = (s.port clp).st ∧ y.get Reg.BRU_EVENT_LQFAIL 0 = 1 := by
    change (x.port clp).qualified = false ∧ (x.port clp).st = (s.port clp).st ∧ x.get Reg.BRU_EVENT_LQFAIL 0 = 1
    rw [hx]
    exact ⟨hqual.trans hok, hst', get_raise_self w Reg.BRU_EVENT_LQFAIL 0⟩
  rw [if_neg (by simpa [again] using fun _ => hrequal), if_neg (by rw [hbring]; decide), if_neg (by simp [hok])]
  exact ⟨_, rfl, hy⟩

theorem execLinkRequalify_starts (clp ten tag : Nat) (p : PortEntry) (s : State) (hadmits : s.admits ten tag none = true) (hstate : s.bru.state = .ready)
    (hst : (s.port (wrap 5 clp)).st = .disabled) (hentry : s.portEntry (wrap 5 clp) = some p) (henabled : p.enabled = true)
    (hreserved : p.reserved = false) (hnew : s.bru.requal.contains (wrap 5 clp) = false) : ∃ t, execLinkRequalify clp ten tag s = .next t ∧
      t.bru.requal = s.bru.requal ++ [wrap 5 clp] ∧ .qualReq (wrap 5 clp) true ∈ t.pulses ∧ .ghpRs (wrap 6 tag) 0 0 ∈ t.pulses := by
  rw [execLinkRequalify, hostWrite_of_admits hadmits]
  unfold State.requalifyWrite
  extract_lets c u enabled
  have hentry' : u.portEntry c = some p := hentry
  rw [if_pos ⟨hstate, hst, by simp [enabled, hentry', henabled, hreserved], by rw [show u.bru.requal = s.bru.requal from rfl, hnew]; decide⟩]
  exact ⟨_, rfl, rfl, by simp [State.emit, c], by simp [State.emit]⟩

/-! ## Amendments (R431) -/

/-- What a rejected amendment shows (R431). -/
theorem amendReject_shows (s : State) (reason seq : Nat) : (s.amendReject reason seq).get Reg.CHR_AMST_RESULT 0 = 2 ∧
    (s.amendReject reason seq).get Reg.CHR_AMST_REASON 0 = wrap Reg.CHR_AMST_REASON.w reason ∧ (s.amendReject reason seq).get Reg.BRU_EVENT_AMREJ 0 = 1 ∧
    (s.amendReject reason seq).bru = s.bru := by
  have hrecord : ∀ (u : State) (f : RegField), f.unit = .bru → (u.recordOf 0x1304 bruSrc reason seq 0).get f 0 = u.get f 0 := fun u f hf =>
    get_of_blank (F := { ldg := true, regs := [.ldg] }) (recordOf_blank u 0x1304 bruSrc reason seq 0 rfl rfl) (by rw [hf]; rfl) 0
  obtain ⟨regs, hregs⟩ := exists_setAll_eq s 0 [(Reg.CHR_AMST_RESULT, 2), (Reg.CHR_AMST_REASON, reason)]
  refine ⟨?_, ?_, ?_, ?_⟩
  · rw [State.amendReject, hrecord _ _ rfl]
    simp (disch := decide) only [State.setAll, get_raise_apart, get_set_apart, get_set_self]
    rfl
  · rw [State.amendReject, hrecord _ _ rfl]
    simp (disch := decide) only [State.setAll, get_raise_apart, get_set_self]
  · rw [State.amendReject, hrecord _ _ rfl]
    exact get_raise_self _ Reg.BRU_EVENT_AMREJ 0
  · rw [State.amendReject, bru_recordOf, raise_bru, hregs]

theorem execAmendGo_of_bad (image : Image) (ten tag : Nat) (s : State) (hadmits : s.admits ten tag none = true)
    (hidle : s.on Reg.CHR_AMST_BUSY 0 = false) (hstate : s.bru.state = .ready) (hread : s.readable (64 * s.get Reg.CHR_SRC_ADDR 0) image.length = true)
    (hreason : s.amendReason image ≠ 0) : ∃ t, execAmendGo image none ten tag s = .next t ∧ t.get Reg.CHR_AMST_RESULT 0 = 2 ∧
      t.get Reg.CHR_AMST_REASON 0 = wrap Reg.CHR_AMST_REASON.w (s.amendReason image) ∧ t.get Reg.BRU_EVENT_AMREJ 0 = 1 ∧ t.bru = s.bru ∧
      .ghpRs (wrap 6 tag) 0 0 ∈ t.pulses := by
  rw [execAmendGo, hostWrite_of_admits hadmits, if_neg (by simp [hidle]), if_neg (by simp [hstate]), hread]
  dsimp only
  rw [if_pos hreason]
  obtain ⟨hresult, hcode, hevent, hbru⟩ := amendReject_shows s (s.amendReason image) image.serial
  generalize s.amendReject (s.amendReason image) image.serial = u at hresult hcode hevent hbru
  exact ⟨_, rfl, hresult, hcode, hevent, hbru, by simp [State.emit]⟩

/-- A proposal of the Kiln's own that finds a place becomes a queued Folio, and changes neither registers nor bring-up. -/
theorem kilnPropose_queues {s : State} {p : Proposal} (hseal : s.isSealed = false) (hplace : s.hasPlace false = true) (hwait : s.fl.waiting = [])
    (hurgent : p.urgent = false) (horigin : p.origin ≠ 3) : ((s.kilnPropose p).2.folio s.fl.next).map (fun f => (f.st, f.acts)) = some (.queued, p.acts) ∧
      (s.kilnPropose p).2.bru = s.bru ∧ ∀ f i, (s.kilnPropose p).2.get f i = s.get f i := by
  obtain ⟨f, hf, hst, hacts, hfurgent⟩ := folio_enqueue s p
  rw [kilnPropose_of_place hseal (by rwa [hurgent]) hwait horigin, urgentVoids_of_not_urgent hf (hfurgent.trans hurgent)]
  have hqueue := enqueue_blank (F := { fl := true }) s p none rfl
  dsimp only
  rw [hf]
  exact ⟨by simp [hst, hacts], bru_of_blank hqueue rfl, fun f i => get_of_blank hqueue rfl i⟩

theorem execAmendGo_of_good (image : Image) (ten tag : Nat) (s : State) (hadmits : s.admits ten tag none = true)
    (hidle : s.on Reg.CHR_AMST_BUSY 0 = false) (hstate : s.bru.state = .ready) (hread : s.readable (64 * s.get Reg.CHR_SRC_ADDR 0) image.length = true)
    (hreason : s.amendReason image = 0) (hplace : s.hasPlace false = true) (hwait : s.fl.waiting = []) :
    ∃ t, execAmendGo image none ten tag s = .next t ∧ t.get Reg.CHR_AMST_BUSY 0 = 1 ∧
      t.bru.amend.map (fun a => (a.image, a.left)) = some (image, image.content.sections) ∧
      (t.folio s.fl.next).map (fun f => (f.st, f.acts)) = some (.queued, amendActs image) ∧ .ghpRs (wrap 6 tag) 0 0 ∈ t.pulses := by
  have hseal := isSealed_of_admits hadmits
  rw [execAmendGo, hostWrite_of_admits hadmits, if_neg (by simp [hidle]), if_neg (by simp [hstate]), hread]
  dsimp only
  rw [if_neg (by simp [hreason])]
  generalize hv : State.setAll _ 0 [(Reg.CHR_AMST_BUSY, 1), (Reg.CHR_AMST_REASON, 0)] = v
  have hbusy : v.get Reg.CHR_AMST_BUSY 0 = 1 := by
    rw [← hv]
    simp (disch := decide) only [State.setAll, get_set_apart, get_set_self] <;> rfl
  have hv' : v.isSealed = s.isSealed ∧ v.hasPlace false = s.hasPlace false ∧ v.fl = s.fl ∧
      v.bru.amend.map (fun a => (a.image, a.left)) = some (image, image.content.sections) := by
    obtain ⟨regs, hregs⟩ := exists_setAll_eq { (s.sendCharter (image.content.sections.filter (toHubs image.content))).1 with
      bru := { (s.sendCharter (image.content.sections.filter (toHubs image.content))).1.bru with
        amend := some { image := image, await := (s.sendCharter (image.content.sections.filter (toHubs image.content))).2, left := image.content.sections } } } 0
      [(Reg.CHR_AMST_BUSY, 1), (Reg.CHR_AMST_REASON, 0)]
    rw [← hv, hregs]
    exact ⟨rfl, rfl, rfl, rfl⟩
  obtain ⟨hvseal, hvplace, hvfl, hvamend⟩ := hv'
  obtain ⟨hfolio, hbru, hget⟩ := kilnPropose_queues (s := v) (p := { acts := amendActs image, urgent := false, origin := 4 }) (hvseal.trans hseal)
    (hvplace.trans hplace) (by rw [hvfl]; exact hwait) rfl (by simp)
  generalize (v.kilnPropose { acts := amendActs image, urgent := false, origin := 4 }).2 = w at hfolio hbru hget
  exact ⟨_, rfl, (hget _ _).trans hbusy, (congrArg (fun b : Bru => b.amend.map (fun a => (a.image, a.left))) hbru).trans hvamend,
    by rw [hvfl] at hfolio; exact hfolio, by simp [State.emit]⟩

/-- Settles O48. -/
theorem charterCommands : Obligations.CharterCommands := ⟨execCharterGo_loads, execCharterGo_of_early, execCharterGo_of_busy, execCharterGo_of_refused,
    execCharterGoTimeout_refuses, execCharterVerifyDone_of_good, execCharterVerifyDone_of_bad, exec_charterVerifyDone_of_bus_error, execChData_keeps,
    execChAck_of_apply, execChAck_of_amendment, execClpQualDone_of_pass, execClpQualDone_of_failure, execAmendGo_of_good, execAmendGo_of_bad,
    execLinkRequalify_starts⟩

end Sys2Proof.Machine
end

section
/-! SUPPORT. O49: the supplies. -/
namespace Sys2Proof.Machine
open Sys2Proof

/-! ## What a power step and a loss leave of the power state -/

/-- Every part but the power state. -/
def Fields.allButPwr : Fields := { Fields.all with pwr := false }

theorem exists_pwrTry_eq (s : State) : ∃ p, s.pwrTry = { s with pwr := p } := by
  rw [State.pwrTry]
  dsimp only
  split
  case isTrue => exact ⟨s.pwr, rfl⟩
  case isFalse => exact ⟨_, rfl⟩

/-- The power state without what the power-up of R445 changes. -/
def Pwr.supplied (p : Pwr) : Pwr :=
  { p with state := .off, onLatch := false, restart := false, acked := false, ackLoss := false, sealedLatch := false, cycles := 0, vddLost := false }

theorem supplied_pwrTry (s : State) : s.pwrTry.pwr.supplied = s.pwr.supplied := by
  unfold State.pwrTry
  extract_lets p q q' r
  have hq : q.supplied = p.supplied := by
    unfold q
    split <;> rfl
  have hr : r.supplied = q.supplied := by
    unfold r
    split
    case isTrue =>
      have hq' : q'.supplied = q.supplied := by
        unfold q'
        split <;> rfl
      exact Eq.trans rfl hq'
    case isFalse => rfl
  split
  case isTrue => rfl
  case isFalse => exact hr.trans hq

/-- A domain that waits, or is asked on while OFF, powers up where its rail, its clock and PORB allow (R445). -/
theorem pwrTry_powers_up {s : State} (hstopped : s.pwr.stopped = false) (hstate : s.pwr.state = .puWait ∨ s.pwr.state = .off ∧ s.pwr.onLatch = true)
    (hvdd : s.pwr.vddGood = true) (hrclk : s.pwr.rclkPresent = true) (hporb : s.pwr.porb = true) : s.pwrTry.pwr.state = .puIso ∧
      s.pwrTry.pwr.vddLost = false ∧ s.pwrTry.pwr.cycles = (if s.pwr.vddLost then wrap 24 (s.pwr.cycles + 1) else s.pwr.cycles) := by
  unfold State.pwrTry
  extract_lets p q q' r
  have hq : q.state = .puWait ∧ q.vddGood = true ∧ q.rclkPresent = true ∧ q.porb = true ∧ q.vddLost = p.vddLost ∧ q.cycles = p.cycles := by
    rcases hstate with h | ⟨hoff, hon⟩
    · have hq : q = p := if_neg (fun hoff => PwrState.noConfusion (h.symm.trans hoff.1))
      rw [hq]
      exact ⟨h, hvdd, hrclk, hporb, rfl, rfl⟩
    · have hq : q = { p with state := .puWait, onLatch := false, restart := false } := if_pos ⟨hoff, hvdd, .inl hon⟩
      rw [hq]
      exact ⟨rfl, hvdd, hrclk, hporb, rfl, rfl⟩
  obtain ⟨hwait, hqvdd, hqrclk, hqporb, hlost, hcycles⟩ := hq
  have hr : r = { q' with state := .puIso, cycles := if q.vddLost then wrap 24 (q.cycles + 1) else q.cycles, vddLost := false } :=
    if_pos ⟨hwait, hqvdd, hqrclk, hqporb⟩
  rw [if_neg (fun h => Bool.false_ne_true (hstopped.symm.trans h))]
  dsimp only
  rw [hr, hlost, hcycles]
  exact ⟨rfl, rfl, rfl⟩

theorem pwr_unlockEnd (s : State) (cause : Nat) : (s.unlockEnd cause).pwr = s.pwr :=
  pwr_of_blank (F := .allButPwr) (by apply unlockEnd_blank <;> rfl) rfl

theorem pwr_vddReset (s : State) : s.vddReset.pwr = { s.pwr with transitions := [], quiesceAwait := [] } := by
  rw [← pwr_unlockEnd s 1]
  rfl

theorem pwr_flipBank (s : State) : s.flipBank.pwr = s.pwr := pwr_of_blank (F := .allButPwr) (by apply flipBank_blank <;> rfl) rfl

/-- A loss that no flush is already part of begins one, with the domain OFF (R440). -/
theorem startLoss_of_no_flush {s : State} (hflush : s.pwr.flush = none) (cause : Nat) (half : Bool) : ∃ c restart, (s.startLoss cause half).pwr =
    { s.pwr with transitions := [], quiesceAwait := [], state := .off, flush := some c, restart := restart, offLatch := false, committed := false, pcreq := false } := by
  rw [State.startLoss, hflush]
  dsimp only
  rw [pwr_vddReset]
  dsimp only
  rw [pwr_flipBank]
  exact ⟨_, _, rfl⟩

theorem startLoss_of_flush {s : State} {c : LossCapture} (hflush : s.pwr.flush = some c) (cause : Nat) (half : Bool) :
    s.startLoss cause half = { s with pwr := { s.pwr with flush := some { c with cause := s.pwr.lossCause cause } } } := by
  rw [State.startLoss, hflush]

/-! ## VAON and the banked supply (R439, R440) -/

theorem execVaonLost_captures (half : Bool) (s : State) (hstopped : s.pwr.stopped = false) (hbk : s.pwr.onBk = false) (hflush : s.pwr.flush = none) :
    ∃ t, execVaonLost half s = .next t ∧ t.pwr.onBk = true ∧ t.pwr.vaonGood = false ∧ t.pwr.state = .off ∧ t.pwr.flush.isSome = true ∧
      t.get Reg.PWR_EVENT_VBK 0 = 1 := by
  obtain ⟨c, restart, hpwr⟩ := startLoss_of_no_flush hflush 0 half
  rw [execVaonLost, if_neg (by simp [hstopped]), if_neg (by simp [hbk])]
  generalize s.startLoss 0 half = u at hpwr
  refine ⟨_, rfl, rfl, rfl, ?_, ?_, get_raise_self u Reg.PWR_EVENT_VBK 0⟩
  · exact congrArg Pwr.state hpwr
  · exact congrArg (fun p : Pwr => p.flush.isSome) hpwr

theorem execLossFlushDone_ends (c : LossCapture) (s : State) (hflush : s.pwr.flush = some c) : ∃ t, execLossFlushDone s = .next t ∧
    t.pwr.flush = none ∧ t.pwr.retention = s.pwr.onBk ∧ t.get Reg.PWR_EVENT_LOSS 0 = 1 ∧
    t.get Reg.PWR_LASTLOSS_SECS 0 = wrap Reg.PWR_LASTLOSS_SECS.w s.pwr.secs := by
  rw [execLossFlushDone, hflush]
  dsimp only
  generalize hu : State.setAll _ 0 _ = u
  have hsecs : u.get Reg.PWR_LASTLOSS_SECS 0 = wrap Reg.PWR_LASTLOSS_SECS.w s.pwr.secs := by
    rw [← hu]
    simp only [State.setAll, get_set_self]
  have hpwr : u.pwr.flush = none ∧ u.pwr.retention = s.pwr.onBk := by
    rw [← hu, pwr_of_blank (F := .allButPwr) (setAll_blank _ 0 _ rfl) rfl]
    exact ⟨rfl, rfl⟩
  have htry := supplied_pwrTry (u.raise Reg.PWR_EVENT_LOSS 0)
  obtain ⟨p, hp⟩ := exists_pwrTry_eq (u.raise Reg.PWR_EVENT_LOSS 0)
  refine ⟨_, rfl, (congrArg Pwr.flush htry :).trans hpwr.1, (congrArg Pwr.retention htry :).trans hpwr.2, ?_⟩
  rw [hp]
  exact ⟨get_raise_self u Reg.PWR_EVENT_LOSS 0, (get_raise_apart (by decide) u 0).trans hsecs⟩

theorem execVaonReturn_returns (s : State) (hbk : s.pwr.onBk = true) (hflush : s.pwr.flush = none) (hstopped : s.pwr.stopped = false) :
    ∃ t, execVaonReturn s = .next t ∧ t.pwr.onBk = false ∧ t.pwr.vaonGood = true ∧ t.pwr.retention = false := by
  rw [execVaonReturn, if_neg (by simp [hbk, hflush, hstopped])]
  refine ⟨_, rfl, ?_⟩
  generalize hu : ({ s with pwr := { s.pwr with onBk := false, vaonGood := true, retention := false } } : State) = u
  have hrecord : (u.bankedRecord 0x1205 ((s.pwr.us - s.pwr.bkAt) / 1000) 0 0).pwr = u.pwr :=
    pwr_of_blank (F := .allButPwr) (bankedRecord_blank u _ _ _ _ rfl rfl) rfl
  have hpwr := (supplied_pwrTry (u.bankedRecord 0x1205 ((s.pwr.us - s.pwr.bkAt) / 1000) 0 0)).trans (congrArg Pwr.supplied hrecord)
  rw [← hu] at hpwr
  rw [← hu]
  exact ⟨(congrArg Pwr.onBk hpwr :), (congrArg Pwr.vaonGood hpwr :), (congrArg Pwr.retention hpwr :)⟩

theorem execVbkLost_clears (s : State) (hbk : s.pwr.onBk = true) : ∃ t, execVbkLost s = .next t ∧ t.pwr.stopped = true ∧ t.pwr.cold = true ∧
    t.ldg.flash = s.ldg.flash ∧ t.ldg.buf = [] ∧ t.tally = {} ∧ t.vault.banked = none ∧ t.vault.blobs = s.vault.blobs ∧ t.pwr.secs = 0 ∧
    t.pwr.cycles = 0 := by
  rw [execVbkLost, if_neg (by simp [hbk])]
  exact ⟨_, rfl, rfl, rfl, rfl, rfl, rfl, rfl, rfl, rfl, rfl⟩

/-! ## The cold start (R452) -/

theorem execColdStart_of_stopped (s : State) (hstopped : s.pwr.stopped = true) : ∃ t, execColdStart s = .next t ∧ t.pwr.stopped = false ∧
    t.pwr.onBk = false ∧ t.pwr.vaonGood = true ∧ t.get Reg.PWR_EVENT_COLD 0 = 1 := by
  rw [execColdStart, if_pos hstopped]
  refine ⟨_, rfl, ?_⟩
  generalize hu : ({ s with pwr := { s.pwr with stopped := false, onBk := false, vaonGood := true, restart := true } } : State) = u
  have hpwr : u.pwr.stopped = false ∧ u.pwr.onBk = false ∧ u.pwr.vaonGood = true := by
    rw [← hu]
    exact ⟨rfl, rfl, rfl⟩
  have htry := supplied_pwrTry (u.raise Reg.PWR_EVENT_COLD 0)
  obtain ⟨p, hp⟩ := exists_pwrTry_eq (u.raise Reg.PWR_EVENT_COLD 0)
  refine ⟨(congrArg Pwr.stopped htry :).trans hpwr.1, (congrArg Pwr.onBk htry :).trans hpwr.2.1, (congrArg Pwr.vaonGood htry :).trans hpwr.2.2, ?_⟩
  rw [hp]
  exact get_raise_self u Reg.PWR_EVENT_COLD 0

theorem execColdStart_of_recovered (s : State) (hstopped : s.pwr.stopped = false) (hcold : s.pwr.cold = true) (hdone : s.bru.ledgerDone = true) :
    ∃ t, execColdStart s = .next t ∧ t.pwr.cold = false ∧
      t.pwr.secs = wrap 32 (bits ((s.ldg.newestTrailer.map (·.tlast)).getD 0) 20 32 + 1) ∧
      t.pwr.cycles = wrap 24 (bits ((s.ldg.newestTrailer.map (·.tlast)).getD 0) 52 24 + 1) := by
  rw [execColdStart, if_neg (by simp [hstopped]), if_pos ⟨hcold, hdone⟩]
  refine ⟨_, rfl, ?_⟩
  rw [State.coldRestore, pwr_of_blank (F := .allButPwr) (bankedRecord_blank _ _ _ _ _ rfl rfl) rfl]
  exact ⟨rfl, rfl, rfl⟩

/-! ## VDD (R440, R445) -/

theorem execVddLost_captures (half : Bool) (s : State) (hstopped : s.pwr.stopped = false) (hsafe : s.pwr.safe = false) :
    ∃ t, execVddLost half s = .next t ∧ t.pwr.vddGood = false ∧ t.pwr.vddLost = true ∧ (s.pwr.flush = none → t.pwr.state = .off) ∧
      t.pwr.flush.isSome = true := by
  unfold execVddLost
  extract_lets safe flushing p u
  rw [if_neg (by simp [safe, u, p, hsafe, hstopped])]
  refine ⟨_, rfl, ?_⟩
  cases hflush : s.pwr.flush with
  | none =>
    obtain ⟨c, restart, hpwr⟩ := startLoss_of_no_flush (s := u) hflush 1 half
    rw [hpwr]
    exact ⟨rfl, rfl, fun _ => rfl, rfl⟩
  | some c =>
    rw [startLoss_of_flush (s := u) hflush]
    exact ⟨rfl, rfl, fun h => (Option.some_ne_none c h).elim, rfl⟩

theorem execVddLost_of_safe (half : Bool) (s : State) (hsafe : s.pwr.safe = true) (hflush : s.pwr.flush = none) : ∃ t, execVddLost half s = .next t ∧
    t.pwr.vddGood = false ∧ t.pwr.vddLost = true ∧ t.pwr.state = s.pwr.state ∧ t.pwr.flush = none ∧ t.ldg = s.ldg := by
  unfold execVddLost
  extract_lets safe flushing p u
  rw [if_pos (Or.inr ⟨hsafe, by simp [flushing, hflush]⟩)]
  exact ⟨_, rfl, rfl, rfl, rfl, hflush, rfl⟩

theorem execVddGood_sets (s : State) : ∃ t, execVddGood s = .next t ∧ t.pwr.vddGood = true :=
  ⟨_, rfl, (congrArg Pwr.vddGood (supplied_pwrTry { s with pwr := { s.pwr with vddGood := true } }) :)⟩

theorem execVddGood_powers_up (s : State) (hstopped : s.pwr.stopped = false) (hstate : s.pwr.state = .puWait) (hrclk : s.pwr.rclkPresent = true)
    (hporb : s.pwr.porb = true) : ∃ t, execVddGood s = .next t ∧ t.pwr.vddGood = true ∧ t.pwr.state = .puIso ∧ t.pwr.vddLost = false ∧
      t.pwr.cycles = (if s.pwr.vddLost then wrap 24 (s.pwr.cycles + 1) else s.pwr.cycles) := by
  have hup := pwrTry_powers_up (s := { s with pwr := { s.pwr with vddGood := true } }) hstopped (.inl hstate) rfl hrclk hporb
  exact ⟨_, rfl, (congrArg Pwr.vddGood (supplied_pwrTry { s with pwr := { s.pwr with vddGood := true } }) :), hup⟩

/-- Settles O49. -/
theorem supplyCommands : Obligations.SupplyCommands := ⟨execVaonLost_captures, execLossFlushDone_ends, execVaonReturn_returns, execVbkLost_clears,
    execColdStart_of_stopped, execColdStart_of_recovered, execVddLost_captures, execVddLost_of_safe, execVddGood_sets, execVddGood_powers_up⟩

end Sys2Proof.Machine
end

section
/-! SUPPORT. What commands leave of the sealed latch (R214), of the tray's acknowledge and of PORB. -/
namespace Sys2Proof.Machine
open Sys2Proof

/-! ## States that agree on the latch -/

/-- The tray's acknowledge, its loss of power and PORB are as before, and the sealed latch holds where it held (R214). -/
structure LatchKept (s t : State) : Prop where
  acked : t.pwr.acked = s.pwr.acked
  ackLoss : t.pwr.ackLoss = s.pwr.ackLoss
  porb : t.pwr.porb = s.pwr.porb
  latch : s.pwr.sealedLatch = true → t.pwr.sealedLatch = true

theorem LatchKept.refl (s : State) : LatchKept s s := ⟨rfl, rfl, rfl, id⟩

theorem LatchKept.trans {s t u : State} (h : LatchKept s t) (g : LatchKept t u) : LatchKept s u :=
  ⟨g.acked.trans h.acked, g.ackLoss.trans h.ackLoss, g.porb.trans h.porb, fun hs => g.latch (h.latch hs)⟩

theorem LatchKept.of_pwr {s t : State} (h : t.pwr = s.pwr) : LatchKept s t :=
  ⟨congrArg Pwr.acked h, congrArg Pwr.ackLoss h, congrArg Pwr.porb h, fun hs => (congrArg Pwr.sealedLatch h).trans hs⟩

/-- What a law says changes no power state leaves the latch. -/
theorem LatchKept.of_blank {s t : State} (h : t.blank .allButPwr = s.blank .allButPwr) : LatchKept s t := .of_pwr (pwr_of_blank h rfl)

theorem latchKept_foldl {α : Type} (f : State → α → State) (h : ∀ s a, LatchKept s (f s a)) (l : List α) (s : State) : LatchKept s (l.foldl f s) := by
  induction l generalizing s with
  | nil => exact .refl s
  | cons a l ih => exact (h s a).trans (ih _)

theorem latchKept_bankedRecord (s : State) (code p0 p1 p2 : Nat) : LatchKept s (s.bankedRecord code p0 p1 p2) :=
  .of_blank (bankedRecord_blank s code p0 p1 p2 rfl rfl)

theorem latchKept_recordOf (s : State) (code src p0 p1 p2 : Nat) : LatchKept s (s.recordOf code src p0 p1 p2) :=
  .of_blank (recordOf_blank s code src p0 p1 p2 rfl rfl)

theorem latchKept_ibi (s : State) (mdb : Nat) : LatchKept s (s.ibi mdb) := .of_blank (ibi_blank s mdb rfl)

/-! ## Bring-up and the power-down -/

theorem latchKept_quiesce (s : State) : LatchKept s s.quiesce := by
  unfold State.quiesce
  extract_lets p b u v w x
  have hu : LatchKept s u := ⟨rfl, rfl, rfl, id⟩
  have hv : LatchKept u v := by
    unfold v
    split
    case isTrue => exact latchKept_bankedRecord _ _ _ _ _
    case isFalse => exact .refl _
  have hw : LatchKept v w := .of_blank (by apply voidAll_blank <;> rfl)
  have hx : LatchKept w x := latchKept_foldl _ (fun t n => by
    dsimp only
    split
    case isTrue => exact (LatchKept.of_blank (stkDropCh_blank t n rfl rfl rfl rfl)).trans ⟨rfl, rfl, rfl, id⟩
    case isFalse => exact .refl t) _ w
  have hlast : LatchKept s x := hu.trans (hv.trans (hw.trans hx))
  clear_value x
  split
  case isTrue => exact hlast.trans ⟨rfl, rfl, rfl, id⟩
  case isFalse => exact hlast

theorem latchKept_bruEnd (s : State) : LatchKept s s.bruEnd := by
  rw [State.bruEnd]
  dsimp only
  have htime : LatchKept s ((s.set Reg.BRU_TIME_US 0 ((s.gt - s.bru.start) * 4000 / s.cfg.rclk)).ibi 0xA4) :=
    LatchKept.trans (t := s.set Reg.BRU_TIME_US 0 ((s.gt - s.bru.start) * 4000 / s.cfg.rclk)) ⟨rfl, rfl, rfl, id⟩ (latchKept_ibi _ _)
  split
  case isTrue =>
    refine htime.trans (LatchKept.trans ?_ (latchKept_bankedRecord _ 0x1201 4 5 0))
    exact ⟨rfl, rfl, rfl, id⟩
  case isFalse => exact htime

theorem latchKept_bruRefuse (s : State) (code detail : Nat) : LatchKept s (s.bruRefuse code detail) := by
  unfold State.bruRefuse
  extract_lets b u
  have hu : LatchKept s ((u.set Reg.BRU_DETAIL_DETAIL 0 detail).raise Reg.BRU_EVENT_REFUSED 0) := ⟨rfl, rfl, rfl, id⟩
  exact hu.trans ((latchKept_recordOf _ _ _ _ _ _).trans (latchKept_bruEnd _))

theorem latchKept_bruReady (s : State) : LatchKept s s.bruReady := by
  unfold State.bruReady
  generalize s.cfg.policy.getD (0xFFFF, 0) = p
  obtain ⟨lock, allow⟩ := p
  dsimp -zeta only
  extract_lets src u v w x quenched us
  have hv : LatchKept s v := LatchKept.trans (t := u) ⟨rfl, rfl, rfl, id⟩ (.of_blank (setAll_blank u 0 _ rfl))
  have hw : LatchKept v w := by
    have hroles : LatchKept v (v.liveRegions.foldl (fun s r => s.driveRoles r) v) :=
      latchKept_foldl _ (fun t r => .of_blank (by apply driveRoles_blank <;> rfl)) _ v
    exact hroles.trans (.of_blank ((rollBackLost_blank _ none rfl rfl).trans (setPhase_blank _ .service rfl rfl rfl)))
  have hx : LatchKept w x := latchKept_foldl _ (fun t c => .of_blank (by apply enablePort_blank; rfl)) _ w
  have hrecord := latchKept_recordOf (x.raise Reg.BRU_EVENT_READY 0) 0x1301 bruSrc us x.bru.serial quenched
  have hevent : ∀ t : State, LatchKept t (t.event 13) := fun t => ⟨rfl, rfl, rfl, id⟩
  have hraise : LatchKept x (x.raise Reg.BRU_EVENT_READY 0) := ⟨rfl, rfl, rfl, id⟩
  exact hv.trans (hw.trans (hx.trans (hraise.trans (hrecord.trans ((hevent _).trans (latchKept_bruEnd _))))))

theorem latchKept_qualCheck (s : State) : LatchKept s s.qualCheck := by
  rw [State.qualCheck]
  split
  case isTrue => exact .refl s
  case isFalse =>
    split
    case isTrue => exact latchKept_bruRefuse s _ _
    case isFalse =>
      split
      case isTrue => exact latchKept_bruReady s
      case isFalse => exact .refl s

theorem latchKept_qualify (s : State) : LatchKept s s.qualify := by
  unfold State.qualify
  extract_lets l b u
  have hports : LatchKept u (l.foldl (fun s c => s.modPort c (fun p => { p with qualified := false })) u) :=
    latchKept_foldl (fun s c => s.modPort c (fun p => { p with qualified := false })) (fun t c => ⟨rfl, rfl, rfl, id⟩) l u
  have hu : LatchKept s u := ⟨rfl, rfl, rfl, id⟩
  generalize l.foldl (fun s c => s.modPort c (fun p => { p with qualified := false })) u = v at hports
  have hemit : LatchKept v (v.emitAll (l.map (fun c => .qualReq c true))) := ⟨rfl, rfl, rfl, id⟩
  exact hu.trans (hports.trans (hemit.trans ((LatchKept.of_blank (by apply syncSense_blank; rfl)).trans (latchKept_qualCheck _))))

theorem latchKept_applyCharter (s : State) (i : Image) : LatchKept s (s.applyCharter i) := by
  unfold State.applyCharter
  extract_lets b u p v w x y
  have hu : LatchKept s u := ⟨rfl, rfl, rfl, id⟩
  split
  case isTrue => exact hu.trans (latchKept_bruRefuse _ _ _)
  case isFalse =>
    split
    case isTrue => exact hu.trans (latchKept_bruRefuse _ _ _)
    case isFalse =>
      have hv : LatchKept s v := ⟨rfl, rfl, rfl, id⟩
      have hw : LatchKept v w := .of_blank ((buildCatalogue_blank _ rfl rfl).trans ((showCharter_blank _ rfl).trans (setAll_blank v 0 _ rfl)))
      split
      case isTrue => exact hv.trans (hw.trans (latchKept_bruRefuse _ _ _))
      case isFalse =>
        have hx : LatchKept w x := latchKept_foldl _ (fun t e => .of_blank (loadEntry_blank t e _ (fun r => by cases r <;> rfl))) _ w
        have hy : LatchKept x y :=
          (latchKept_foldl (fun s r => s.hubTakes r s.cfg.tcoefs) (fun t r => .of_blank (hubTakes_blank t r t.cfg.tcoefs rfl rfl rfl)) (List.range x.regionCount) x).trans
            (.of_blank (setKbar_blank _ _ rfl))
        have hz : LatchKept y (y.syncBindings.sendCharter y.cfg.sections).1 :=
          .of_blank ((sendCharter_blank _ _ rfl).trans (syncBindings_blank y rfl rfl rfl))
        generalize y.syncBindings.sendCharter y.cfg.sections = z at hz
        obtain ⟨z, l⟩ := z
        have hacks : LatchKept z { z with bru := { z.bru with hubAcks := l } } := ⟨rfl, rfl, rfl, id⟩
        exact hv.trans (hw.trans (hx.trans (hy.trans (hz.trans hacks))))

theorem latchKept_subStep (s : State) {go : State → State} (h : ∀ u, LatchKept u (go u)) : LatchKept s (s.subStep go) := by
  rw [State.subStep]
  split
  case isTrue => exact .refl s
  case isFalse =>
    split
    case isTrue => exact latchKept_quiesce s
    case isFalse => exact h s

theorem latchKept_bruNext (s : State) : LatchKept s s.bruNext := by
  unfold State.bruNext
  extract_lets waits out sums
  split
  case isFalse => exact .refl s
  case isTrue =>
    refine latchKept_subStep s (fun u => ?_)
    unfold waits
    split
    case isTrue => exact ⟨rfl, rfl, rfl, id⟩
    case isFalse => exact ⟨rfl, rfl, rfl, id⟩

theorem latchKept_bruVerified (s : State) (i : Image) : LatchKept s (s.bruVerified i) := by
  have hu : LatchKept s { s with bru := { s.bru with image := some i } } := ⟨rfl, rfl, rfl, id⟩
  refine hu.trans (latchKept_subStep _ (fun u => ?_))
  exact LatchKept.trans (t := { u with bru := { u.bru with image := none } }) ⟨rfl, rfl, rfl, id⟩ (latchKept_applyCharter _ i)

theorem latchKept_bruResume (s : State) : LatchKept s s.bruResume := by
  unfold State.bruResume
  extract_lets b u
  have hu : LatchKept s u := ⟨rfl, rfl, rfl, id⟩
  split
  · exact hu.trans (latchKept_bruNext u)
  · split
    · exact hu.trans ⟨rfl, rfl, rfl, id⟩
    · exact hu
  · split
    · exact hu.trans (latchKept_bruVerified u _)
    · exact hu
  · split
    · exact hu.trans (latchKept_subStep u latchKept_qualify)
    · exact hu
  · exact hu.trans (latchKept_qualify u)
  · exact hu
  · exact hu

theorem latchKept_admitWaiting (s : State) : LatchKept s s.admitWaiting := .of_blank (by apply admitWaiting_blank <;> rfl)

theorem latchKept_offRequest (s : State) (source : Nat) : LatchKept s (s.offRequest source) := by
  unfold State.offRequest
  split
  · exact ⟨rfl, rfl, rfl, id⟩
  · exact ⟨rfl, rfl, rfl, id⟩
  · extract_lets p u b
    have hu : LatchKept s u := ⟨rfl, rfl, rfl, id⟩
    split
    · exact hu.trans (latchKept_quiesce u)
    · split
      · refine hu.trans (LatchKept.trans ?_ (latchKept_quiesce _))
        exact ⟨rfl, rfl, rfl, id⟩
      · exact hu
  · refine LatchKept.trans ?_ (latchKept_quiesce _)
    exact ⟨rfl, rfl, rfl, id⟩
  all_goals exact .refl s

/-! ## The power step, which alone leaves the latch (R214) -/

/-- The latch is set and nothing has yet been recorded that the next power-up would take as the power cycle of R214. -/
def State.latched (s : State) : Prop := s.pwr.sealedLatch = true ∧ (s.pwr.acked && s.pwr.ackLoss) = false

theorem latched_of_kept {s t : State} (hs : s.latched) (h : LatchKept s t) : t.latched := by
  refine ⟨h.latch hs.1, ?_⟩
  rw [h.acked, h.ackLoss]
  exact hs.2

theorem latched_pwrTry {s : State} (hs : s.latched) : s.pwrTry.latched := by
  unfold State.pwrTry
  extract_lets p q q' r
  have hq : (q.acked && q.ackLoss) = false ∧ q.sealedLatch = true := by
    unfold q
    split <;> exact ⟨hs.2, hs.1⟩
  have hq' : q' = q := if_neg (fun h => Bool.false_ne_true (hq.1.symm.trans (by rw [h.1, h.2]; rfl)))
  have hr : (r.acked && r.ackLoss) = false ∧ r.sealedLatch = true := by
    unfold r
    split
    case isTrue =>
      rw [hq']
      exact hq
    case isFalse => exact hq
  split
  case isTrue => exact hs
  case isFalse => exact ⟨hr.2, hr.1⟩

/-- An on request to a domain that is not OFF leaves the latch. -/
theorem latchKept_onRequest {s : State} (h : s.pwr.state ≠ .off) (source : Nat) : LatchKept s (s.onRequest source) := by
  have hback : LatchKept s (let s := { s with pwr := { s.pwr with state := s.pwr.back, source := source, quiesceAwait := [] } }
      let s := if s.bru.state = .ready then s.fenceAll false else s
      let s := s.admitWaiting
      if s.bru.paused then s.bruResume else s) := by
    extract_lets p u v w
    have hu : LatchKept s u := ⟨rfl, rfl, rfl, id⟩
    have hv : LatchKept u v := by
      unfold v
      split
      case isTrue => exact ⟨rfl, rfl, rfl, id⟩
      case isFalse => exact .refl u
    have hw : LatchKept s w := hu.trans (hv.trans (latchKept_admitWaiting v))
    split
    case isTrue => exact hw.trans (latchKept_bruResume w)
    case isFalse => exact hw
  unfold State.onRequest
  split
  case h_1 hoff => exact (h hoff).elim
  case h_2 => exact ⟨rfl, rfl, rfl, id⟩
  case h_3 => exact hback
  case h_4 => exact hback
  all_goals exact .refl s

theorem latched_onRequest {s : State} (hs : s.latched) (source : Nat) : (s.onRequest source).latched := by
  by_cases hoff : s.pwr.state = .off
  case pos =>
    rw [State.onRequest, hoff]
    exact latched_pwrTry hs
  case neg => exact latched_of_kept hs (latchKept_onRequest hoff source)

theorem porb_pwrTry (s : State) : s.pwrTry.pwr.porb = s.pwr.porb := (congrArg Pwr.porb (supplied_pwrTry s) :)

theorem porb_onRequest (s : State) (source : Nat) : (s.onRequest source).pwr.porb = s.pwr.porb := by
  by_cases hoff : s.pwr.state = .off
  case pos =>
    rw [State.onRequest, hoff]
    exact porb_pwrTry _
  case neg => exact (latchKept_onRequest hoff source).porb

end Sys2Proof.Machine
end

section
/-! SUPPORT. O50, O51: holdover, the reset inputs and the power sequence. -/
namespace Sys2Proof.Machine
open Sys2Proof

/-! ## Holdover (R450) -/

theorem pwr_bankedRecord (s : State) (code p0 p1 p2 : Nat) : (s.bankedRecord code p0 p1 p2).pwr = s.pwr :=
  pwr_of_blank (F := .allButPwr) (bankedRecord_blank s code p0 p1 p2 rfl rfl) rfl

theorem execHoldoverEnter_starts (half : Bool) (s : State) (hstopped : s.pwr.stopped = false) (hhold : s.pwr.holdover = false) :
    ∃ t, execHoldoverEnter half s = .next t ∧ t.pwr.holdover = true ∧ t.pwr.rclkPresent = false ∧ t.get Reg.PWR_EVENT_HOLDOVER 0 = 1 := by
  unfold execHoldoverEnter
  extract_lets lost u p v
  rw [if_neg (by simp [hstopped, hhold])]
  refine ⟨_, rfl, ?_, ?_, get_raise_self (v.bankedRecord 0x1204 1 0 0) Reg.PWR_EVENT_HOLDOVER 0⟩
  all_goals rw [raise_pwr, pwr_bankedRecord]

theorem execHoldoverExit_ends (s : State) (hhold : s.pwr.holdover = true) : ∃ t, execHoldoverExit s = .next t ∧ t.pwr.holdover = false ∧
    t.pwr.rclkPresent = true := by
  unfold execHoldoverExit
  extract_lets us p u
  rw [if_neg (by simp [hhold])]
  have hpwr := supplied_pwrTry ((u.bankedRecord 0x1204 0 us 0).bump Reg.PWR_HOLD_US 0 us)
  rw [bump_pwr, pwr_bankedRecord] at hpwr
  exact ⟨_, rfl, (congrArg Pwr.holdover hpwr :), (congrArg Pwr.rclkPresent hpwr :)⟩

/-! ## PORB (R456) -/

theorem execPorbAssert_captures (half : Bool) (s : State) (hstopped : s.pwr.stopped = false) (hsafe : s.pwr.safe = false) :
    ∃ t, execPorbAssert half s = .next t ∧ t.pwr.porb = false ∧ (s.pwr.flush = none → t.pwr.state = .off) ∧ t.pwr.flush.isSome = true := by
  unfold execPorbAssert
  extract_lets safe flushing p u
  rw [if_neg (by simp [u, p, hstopped]), if_neg (by simp [safe, hsafe])]
  refine ⟨_, rfl, ?_⟩
  cases hflush : s.pwr.flush with
  | none =>
    obtain ⟨c, restart, hpwr⟩ := startLoss_of_no_flush (s := u) hflush 4 half
    rw [hpwr]
    exact ⟨rfl, fun _ => rfl, rfl⟩
  | some c =>
    rw [startLoss_of_flush (s := u) hflush]
    exact ⟨rfl, fun h => (Option.some_ne_none c h).elim, rfl⟩

theorem execPorbAssert_of_safe (half : Bool) (s : State) (hsafe : s.pwr.safe = true) (hflush : s.pwr.flush = none) :
    ∃ t, execPorbAssert half s = .next t ∧ t.pwr.porb = false ∧ t.pwr.flush = none ∧ t.pwr.state = s.pwr.state := by
  unfold execPorbAssert
  extract_lets safe flushing p u
  refine ⟨_, rfl, ?_⟩
  split
  case isTrue => exact ⟨rfl, hflush, rfl⟩
  case isFalse =>
    rw [if_pos ⟨hsafe, by simp [flushing, hflush]⟩, pwr_vddReset]
    exact ⟨rfl, hflush, rfl⟩

theorem execPorbRelease_releases (s : State) : ∃ t, execPorbRelease s = .next t ∧ t.pwr.porb = true :=
  ⟨_, rfl, (porb_pwrTry _).trans (porb_onRequest _ 4)⟩

/-- A domain that has come up stays up. -/
theorem pwrTry_of_up {s : State} (h : s.pwr.state = .puIso) : s.pwrTry = s := by
  unfold State.pwrTry
  extract_lets p q q' r
  have hq : q = p := if_neg (fun hoff => PwrState.noConfusion (h.symm.trans hoff.1))
  have hr : r = q := if_neg (fun hwait => PwrState.noConfusion (h.symm.trans ((congrArg Pwr.state hq).symm.trans hwait.1)))
  split
  case isTrue => rfl
  case isFalse =>
    rw [hr, hq]

theorem execPorbRelease_powers_up (s : State) (hstopped : s.pwr.stopped = false) (hstate : s.pwr.state = .off) (hvdd : s.pwr.vddGood = true)
    (hrclk : s.pwr.rclkPresent = true) : ∃ t, execPorbRelease s = .next t ∧ t.pwr.porb = true ∧ t.pwr.state = .puIso ∧ t.pwr.source = 4 := by
  have hon : ({ s with pwr := { s.pwr with porb := true } } : State).onRequest 4 =
      ({ s with pwr := { s.pwr with porb := true, onLatch := true, source := 4 } } : State).pwrTry := by
    rw [State.onRequest]
    dsimp only
    rw [hstate]
  obtain ⟨hup, -, -⟩ := pwrTry_powers_up (s := { s with pwr := { s.pwr with porb := true, onLatch := true, source := 4 } }) hstopped (.inr ⟨hstate, rfl⟩)
    hvdd hrclk rfl
  have hkept := supplied_pwrTry { s with pwr := { s.pwr with porb := true, onLatch := true, source := 4 } }
  rw [execPorbRelease, hon, pwrTry_of_up hup]
  exact ⟨_, rfl, (congrArg Pwr.porb hkept :), hup, (congrArg Pwr.source hkept :)⟩

/-! ## HRSTB (R457, R461) -/

theorem execHrstb_of_off (s : State) (hoff : s.pwr.working = false) : ∃ t, execHrstb s = .next t ∧ t = { s with pwr := { s.pwr with hrstb := true } } := by
  rw [execHrstb]
  dsimp only
  rw [if_neg (by rw [show ({ s.pwr with hrstb := true } : Pwr).working = s.pwr.working from rfl, hoff]; decide)]
  exact ⟨_, rfl, rfl⟩

/-- Fields of different rows of the channels' windows have different places, whatever the channels. -/
theorem channelKey_ne {f g : RegField} (hf : f.win = .channel) (hg : g.win = .channel) (hoff : f.off < 64 ∧ g.off < 64 ∧ f.off ≠ g.off)
    (hlo : f.lo < 1024 ∧ g.lo < 1024) (i j : Nat) : g.key j ≠ f.key i := by
  have hcode : g.unit.code = f.unit.code := by simp [RegField.unit, hf, hg]
  simp only [RegField.key, hf, hg, hcode, Win.base]
  omega

theorem get_setAll_other_row {g : RegField} (hg : g.win = .channel ∧ g.off < 64 ∧ g.lo < 1024) (i j : Nat) (l : List (RegField × Nat)) (s : State)
    (h : l.all (fun e => e.1.win == .channel && decide (e.1.off < 64) && decide (e.1.lo < 1024) && e.1.off != g.off) = true) :
    (s.setAll i l).get g j = s.get g j := by
  induction l generalizing s with
  | nil => rfl
  | cons e l ih =>
    simp only [List.all_cons, Bool.and_eq_true, beq_iff_eq, decide_eq_true_eq, bne_iff_ne] at h
    obtain ⟨⟨⟨⟨hwin, hoff⟩, hlo⟩, hne⟩, hl⟩ := h
    refine (ih _ (by simpa using hl)).trans (get_set_ne (channelKey_ne hwin hg.1 ⟨hoff, hg.2.1, hne⟩ ⟨hlo, hg.2.2⟩ i j) s e.2)

theorem tenant_stkDropCh (s : State) (n m : Nat) : (s.stkDropCh n).get Reg.STK_CH_CTRL_TENANT m = s.get Reg.STK_CH_CTRL_TENANT m := by
  unfold State.stkDropCh
  extract_lets c u
  have hu : u.regs = s.regs := by
    unfold u
    split <;> rfl
  have hcounts : ∀ v : State, (v.stkCountsFree n).get Reg.STK_CH_CTRL_TENANT m = v.get Reg.STK_CH_CTRL_TENANT m := fun v =>
    get_setAll_other_row (by decide) n m _ (v.fresh 160).2 rfl
  rw [hcounts]
  refine (get_set_ne (channelKey_ne rfl rfl (by decide) (by decide) n m) _ 1).trans ?_
  change u.get Reg.STK_CH_CTRL_TENANT m = _
  rw [State.get, State.get, hu]

/-- Dropping channels leaves the tenants of all, and every channel that is named is idle (R457). -/
theorem dropTagged_idles (l : List Nat) (s : State) :
    let t := l.foldl (fun s n =>
      let s := s.set Reg.STK_CH_STATUS_PENDGO n 0
      if (s.stkCh n).st = .idle then s else (s.stkDropCh n).raise Reg.STK_EVENT_DROP 0) s
    (∀ m, t.get Reg.STK_CH_CTRL_TENANT m = s.get Reg.STK_CH_CTRL_TENANT m) ∧ ∀ n, n ∈ l ∨ (s.stkCh n).st = .idle → (t.stkCh n).st = .idle := by
  induction l generalizing s with
  | nil => exact ⟨fun _ => rfl, fun n h => h.resolve_left List.not_mem_nil⟩
  | cons m l ih =>
    obtain ⟨htenant, hidle⟩ := ih (let s := s.set Reg.STK_CH_STATUS_PENDGO m 0
      if (s.stkCh m).st = .idle then s else (s.stkDropCh m).raise Reg.STK_EVENT_DROP 0)
    refine ⟨fun k => (htenant k).trans ?_, fun n h => hidle n ?_⟩
    · have hpend : (s.set Reg.STK_CH_STATUS_PENDGO m 0).get Reg.STK_CH_CTRL_TENANT k = s.get Reg.STK_CH_CTRL_TENANT k :=
        get_set_ne (channelKey_ne rfl rfl (by decide) (by decide) m k) s 0
      dsimp only
      split
      case isTrue => exact hpend
      case isFalse =>
        exact (get_raise_ne (key_ne_of_unit_ne (by decide) 0 k) _).trans ((tenant_stkDropCh _ m k).trans hpend)
    · dsimp only
      by_cases hn : n = m
      case pos =>
        refine .inr ?_
        rw [hn]
        split
        case isTrue hidle => exact hidle
        case isFalse =>
          rw [stkCh_raise]
          exact stkDropCh_idles _ m
      case neg =>
        refine (h.imp_left (List.mem_of_ne_of_mem hn)).imp_right (fun hst => ?_)
        split
        case isTrue => exact hst
        case isFalse =>
          rw [stkCh_raise, stkCh_stkDropCh_ne hn]
          exact hst

theorem execHrstb_idles (s : State) (hworking : s.pwr.working = true) : ∃ t, execHrstb s = .next t ∧ t.pwr.hrstb = true ∧ ∀ n ∈ List.range 32, 4 ≤ n →
    t.stkTag n ≠ 0 → (t.stkCh n).st = .idle := by
  unfold execHrstb
  extract_lets p u
  have hpwr : u.hostReset.pwr = u.pwr := pwr_of_blank (F := .allButPwr) (by apply hostReset_blank <;> rfl) rfl
  have hworking' : u.pwr.working = true := hworking
  rw [if_pos hworking']
  refine ⟨_, rfl, by rw [hpwr], ?_⟩
  unfold State.hostReset
  extract_lets v w
  rw [State.stackerDropTagged, State.stkDropWhere]
  intro n hn hlow htag
  obtain ⟨htenant, hidle⟩ := dropTagged_idles ((List.range 32).filter (fun n => decide (4 ≤ n) && (w.stkTag n != 0))) w
  refine hidle n (.inl (List.mem_filter.mpr ⟨hn, ?_⟩))
  have hsame : ∀ t : State, (∀ m, t.get Reg.STK_CH_CTRL_TENANT m = w.get Reg.STK_CH_CTRL_TENANT m) → t.stkTag n = w.stkTag n := fun t ht => by
    rw [State.stkTag, State.stkTag, ht]
  rw [hsame _ htenant] at htag
  simp [hlow, htag]

/-- A record that finds the Ledger open stands last in its write buffer. -/
theorem buf_record_of_open {s : State} (hopen : s.ledgerOpen = true) (r : LedgerRec) : (s.record r).ldg.buf = s.ldg.buf ++ [r] := by
  simp only [State.ledgerOpen, Bool.and_eq_true, Bool.not_eq_true', beq_iff_eq, List.isEmpty_iff, decide_eq_true_eq] at hopen
  obtain ⟨⟨⟨⟨hfold, hlost0⟩, hlost1⟩, hstage⟩, hroom⟩ := hopen
  have hlost : s.lostRecord = s := if_neg (by simp [hlost0, hlost1])
  have hplace : s.ldg.hasPlace r.level = true := by simp [Ledger.hasPlace, hroom, hstage]
  have henter : s.ldg.enter r = (({ s.ldg with stage := s.ldg.stage ++ [r], foldOpen := !s.ldg.flushing } : Ledger).move, true) := by
    rw [Ledger.enter, hfold]
    exact if_pos hplace
  have hmove : min (64 - s.ldg.buf.length) 1 = 1 := by omega
  rw [State.record, hlost, henter]
  simp [Ledger.move, hstage, hmove]

theorem execHrstbRelease_records (low : Nat) (s : State) (hhrstb : s.pwr.hrstb = true) (hopen : s.ledgerOpen = true) :
    ∃ t, execHrstbRelease low s = .next t ∧ t.pwr.hrstb = false ∧
      t.ldg.buf.getLast?.map (fun r => (r.code, r.p0)) = some (0x1206, wrap 32 (saturate 32 low)) := by
  rw [execHrstbRelease, if_pos hhrstb]
  refine ⟨_, rfl, by rw [pwr_bankedRecord], ?_⟩
  rw [State.bankedRecord, buf_record_of_open (show ({ s with pwr := { s.pwr with hrstb := false } } : State).ledgerOpen = true from hopen)]
  simp

/-- Settles O50. -/
theorem holdoverAndResets : Obligations.HoldoverAndResets := ⟨execHoldoverEnter_starts, execHoldoverExit_ends, execPorbAssert_captures,
    execPorbAssert_of_safe, execPorbRelease_releases, execPorbRelease_powers_up, execHrstb_idles, execHrstb_of_off, execHrstbRelease_records⟩

/-! ## Bring-up and the power-down (R444, R445) -/

theorem execPuIsoDone_brings_up (s : State) (hstate : s.pwr.state = .puIso) (hflush : s.pwr.flush = none) (hbk : s.pwr.onBk = false)
    (hoff : s.pwr.offLatch = false) (hlatch : s.pwr.sealedLatch = false) : ∃ t, execPuIsoDone s = .next t ∧ t.pwr.state = .puBring ∧
      t.bru.state = .selftest ∧ t.vault.st = .selftest ∧ .fuseRd 0 ∈ t.pulses := by
  rw [execPuIsoDone, if_neg (by simp [hstate, hflush, hbk]), if_neg (by simp [hoff]), State.bringUpStart]
  dsimp only
  rw [if_neg (by simp [hlatch])]
  exact ⟨_, rfl, rfl, rfl, rfl, by simp [State.emit]⟩

/-- A refused bring-up is over: the domain is ON (R428). -/
theorem pwrState_bruRefuse {s : State} (h : s.pwr.state = .puBring) (code detail : Nat) : (s.bruRefuse code detail).pwr.state = .on := by
  have hend : ∀ u : State, u.pwr = s.pwr → u.bruEnd.pwr.state = .on := fun u hu => by
    have hpwr : ((u.set Reg.BRU_TIME_US 0 ((u.gt - u.bru.start) * 4000 / u.cfg.rclk)).ibi 0xA4).pwr = s.pwr :=
      (pwr_of_blank (F := .allButPwr) (ibi_blank _ _ rfl) rfl).trans hu
    rw [State.bruEnd]
    dsimp only
    rw [if_pos (by rw [hpwr]; exact h), pwr_bankedRecord]
  unfold State.bruRefuse
  extract_lets b u
  exact hend _ ((pwr_of_blank (F := .allButPwr) (recordOf_blank _ 0x1302 (kilnSrc 0x1F 5) code detail 0 rfl rfl) rfl).trans rfl)

theorem execPuIsoDone_of_latch (s : State) (hstate : s.pwr.state = .puIso) (hflush : s.pwr.flush = none) (hbk : s.pwr.onBk = false)
    (hoff : s.pwr.offLatch = false) (hlatch : s.pwr.sealedLatch = true) : ∃ t, execPuIsoDone s = .next t ∧ t.bru.state = .refused ∧
      t.bru.code = 0x10 ∧ t.pwr.state = .on := by
  rw [execPuIsoDone, if_neg (by simp [hstate, hflush, hbk]), if_neg (by simp [hoff]), State.bringUpStart]
  dsimp only
  rw [if_pos hlatch]
  refine ⟨_, rfl, (bruRefuse_shows _ 0x10 0).1, (bruRefuse_shows _ 0x10 0).2.1, pwrState_bruRefuse ?_ 0x10 0⟩
  rfl

theorem execQuiesceDone_flushes (s : State) (hstate : s.pwr.state = .pdQuiesce) (hawait : s.pwr.quiesceAwait = [])
    (hdecided : s.folios.any (fun f => f.st == .decided) = false) (hstopped : s.stopped = false) :
    ∃ t, execQuiesceDone s = .next t ∧ t.pwr.state = .pdFlush := by
  unfold execQuiesceDone
  extract_lets p u
  rw [if_neg (by simp [hstate, hawait, hdecided, hstopped])]
  refine ⟨_, rfl, ?_⟩
  have hsweeps : (u.noteSweep none 0).kickSweeps.pwr = u.pwr :=
    pwr_of_blank (F := .allButPwr) ((by apply kickSweeps_blank <;> rfl : State.blank _ (u.noteSweep none 0).kickSweeps = _).trans (noteSweep_blank u none 0 rfl)) rfl
  rw [pwr_of_blank (F := .allButPwr) (by apply flushLedger_blank <;> rfl) rfl]
  split
  case isTrue => rw [hsweeps]
  case isFalse => rfl

theorem execFlushCommit_commits (timeLimit : Bool) (s : State) (hstate : s.pwr.state = .pdFlush)
    (hdone : timeLimit = true ∨ (s.flushed = true ∧ s.stopped = false)) : ∃ t, execFlushCommit timeLimit s = .next t ∧ t.pwr.state = .pdStop ∧
      t.pwr.committed = true ∧ (timeLimit = true → s.flushed = false → t.get Reg.PWR_EVENT_INCOMPLETE 0 = 1) := by
  unfold execFlushCommit
  extract_lets late p u v
  have hcond : ¬ (s.pwr.state ≠ .pdFlush ∨ (timeLimit = false ∧ (s.flushed = false ∨ s.stopped = true))) := by
    rcases hdone with h | ⟨hflushed, hrun⟩
    · simp [hstate, h]
    · simp [hstate, hflushed, hrun]
  have hv : v.pwr = u.pwr := pwr_bankedRecord u _ _ _ _
  rw [if_neg hcond]
  refine ⟨_, rfl, ?_⟩
  have hibi : ∀ w : State, (w.ibi 0xA1).pwr = w.pwr ∧ ∀ f i, (w.ibi 0xA1).get f i = w.get f i := fun w =>
    ⟨pwr_of_blank (F := .allButPwr) (ibi_blank w _ rfl) rfl, fun f i => get_of_blank (F := { pulses := true }) (ibi_blank w _ rfl) rfl i⟩
  rw [(hibi _).1, (hibi _).2]
  split
  case isTrue =>
    rw [raise_pwr, hv]
    exact ⟨rfl, rfl, fun _ _ => get_raise_self v Reg.PWR_EVENT_INCOMPLETE 0⟩
  case isFalse hlate =>
    rw [hv]
    exact ⟨rfl, rfl, fun htime hflushed => (hlate (by simp [late, htime, hflushed])).elim⟩

/-! ## Requests (R444) -/

theorem quiesce_power (s : State) : s.quiesce.pwr.state = .pdQuiesce ∧ s.quiesce.pwr.back = s.pwr.state ∧ s.quiesce.pwr.source = s.pwr.source := by
  unfold State.quiesce
  extract_lets p b u v w x
  have hv : v.pwr = u.pwr := by
    unfold v
    split
    case isTrue => exact pwr_bankedRecord _ _ _ _ _
    case isFalse => rfl
  have hw : w.pwr = v.pwr := pwr_of_blank (F := .allButPwr) (by apply voidAll_blank <;> rfl) rfl
  have hx : x.pwr = w.pwr := apply_foldl State.pwr _ (fun t n => by
    dsimp only
    split
    case isTrue =>
      rw [raise_pwr]
      exact pwr_of_blank (F := .allButPwr) (stkDropCh_blank t n rfl rfl rfl rfl) rfl
    case isFalse => rfl) _ w
  clear_value x
  have hlast : (if x.bru.trained then x.fenceAll true else x).pwr = u.pwr := by
    refine Eq.trans ?_ (hx.trans (hw.trans hv))
    split <;> rfl
  rw [hlast]
  exact ⟨rfl, rfl, rfl⟩

theorem execPwrOff_quiesces (ten tag : Nat) (s : State) (hadmits : s.admits ten tag none = true) (hstate : s.pwr.state = .on) :
    ∃ t, execPwrOff ten tag s = .next t ∧ t.pwr.state = .pdQuiesce ∧ t.pwr.back = .on ∧ t.pwr.source = 0 ∧ .ghpRs (wrap 6 tag) 0 0 ∈ t.pulses := by
  rw [execPwrOff, hostWrite_of_admits hadmits, State.offRequest, hstate]
  dsimp only
  obtain ⟨hquiesce, hback, hsource⟩ := quiesce_power { s with pwr := { s.pwr with source := 0 } }
  generalize State.quiesce _ = u at hquiesce hback hsource
  exact ⟨_, rfl, hquiesce, hback.trans hstate, hsource, by simp [State.emit]⟩

theorem unamended_admitWaiting (s : State) : s.admitWaiting.bru.unamended = s.bru.unamended := by
  have hvoids : ∀ (u : State) (n : Nat), (u.urgentVoids n).bru.unamended = u.bru.unamended := fun u n => by
    rw [State.urgentVoids]
    split
    · rfl
    · dsimp only
      split
      case isTrue => rw [unamended_voidAll, unamended_voidAll]
      case isFalse => rfl
  rw [State.admitWaiting]
  split
  case isTrue => rfl
  case isFalse =>
    refine apply_foldl (fun u => u.bru.unamended) _ (fun u p => ?_) _ s
    dsimp only
    split
    case isTrue =>
      have hqueue : ∀ v : State, ((v.enqueue p none).2.urgentVoids (v.enqueue p none).1).bru.unamended = v.bru.unamended := fun v => hvoids _ _
      split
      case isTrue => exact (hqueue _).trans rfl
      case isFalse =>
        split
        case isTrue => exact (hqueue _).trans rfl
        case isFalse =>
          split
          case isTrue => exact (hqueue _).trans rfl
          case isFalse => exact (hqueue _).trans rfl
    case isFalse => rfl

/-- An on request during the quiesce or the flush goes back to the state before it (R445). -/
theorem onRequest_goes_back {s : State} (hstate : s.pwr.state = .pdQuiesce ∨ s.pwr.state = .pdFlush) (hpaused : s.bru.paused = false) (source : Nat) :
    (s.onRequest source).pwr = { s.pwr with state := s.pwr.back, source := source, quiesceAwait := [] } := by
  have hback : ∀ (u v : State), u = { s with pwr := { s.pwr with state := s.pwr.back, source := source, quiesceAwait := [] } } → v.bru = u.bru → v.pwr = u.pwr →
      (if v.admitWaiting.bru.paused then v.admitWaiting.bruResume else v.admitWaiting).pwr = u.pwr := fun u v hu hbru hpwr => by
    have hpause : v.admitWaiting.bru.paused = false :=
      (congrArg Bru.paused (unamended_admitWaiting v) :).trans ((congrArg Bru.paused hbru).trans (by rw [hu]; exact hpaused))
    rw [hpause, if_neg Bool.false_ne_true, pwr_of_blank (F := .allButPwr) (by apply admitWaiting_blank <;> rfl) rfl, hpwr]
  rcases hstate with h | h
  all_goals
    rw [State.onRequest, h]
    refine hback { s with pwr := { s.pwr with state := s.pwr.back, source := source, quiesceAwait := [] } } _ rfl ?_ ?_
    all_goals split <;> rfl

theorem execPwrOn_goes_back (ten tag : Nat) (s : State) (hadmits : s.admits ten tag none = true)
    (hstate : s.pwr.state = .pdQuiesce ∨ s.pwr.state = .pdFlush) (hpaused : s.bru.paused = false) : ∃ t, execPwrOn ten tag s = .next t ∧
      t.pwr.state = s.pwr.back ∧ t.pwr.source = 0 ∧ t.pwr.quiesceAwait = [] ∧ .ghpRs (wrap 6 tag) 0 0 ∈ t.pulses := by
  have hpwr := onRequest_goes_back hstate hpaused 0
  rw [execPwrOn, hostWrite_of_admits hadmits]
  generalize s.onRequest 0 = u at hpwr
  exact ⟨_, rfl, congrArg Pwr.state hpwr, congrArg Pwr.source hpwr, congrArg Pwr.quiesceAwait hpwr, by simp [State.emit]⟩

theorem pwrTry_of_off {s : State} (hoff : s.pwr.state = .off) (hlatch : s.pwr.onLatch = false) (hrestart : s.pwr.restart = false) : s.pwrTry = s := by
  unfold State.pwrTry
  extract_lets p q q' r
  have hq : q = p := if_neg (by
    rintro ⟨-, -, h | h⟩
    · exact Bool.false_ne_true (hlatch.symm.trans h)
    · exact Bool.false_ne_true (hrestart.symm.trans h.1))
  have hr : r = q := if_neg (fun hwait => PwrState.noConfusion (hoff.symm.trans ((congrArg Pwr.state hq).symm.trans hwait.1)))
  split
  case isTrue => rfl
  case isFalse => rw [hr, hq]

theorem flash_unlockEnd (s : State) (cause : Nat) : (s.unlockEnd cause).ldg.flash = s.ldg.flash := by
  rw [State.unlockEnd]
  split
  case isTrue => exact (congrArg Ledger.flash (unbuffered_recordOf _ 0x1504 dbgSrc cause 0 0) :)
  case isFalse => rfl

theorem execStopDone_stops (s : State) (hstate : s.pwr.state = .pdStop) (hlatch : s.pwr.onLatch = false) (hrestart : s.pwr.restart = false) :
    ∃ t, execStopDone s = .next t ∧ t.pwr.state = .off ∧ t.pwr.committed = false ∧ t.pwr.pcreq = false ∧ t.hubs = [] ∧ t.probes = [] ∧
      t.ldg.flash = s.ldg.flash := by
  have hpwr := pwr_vddReset s
  unfold execStopDone
  extract_lets u l p
  have hp : p.onLatch = s.pwr.onLatch ∧ p.restart = s.pwr.restart := ⟨(congrArg Pwr.onLatch hpwr :), (congrArg Pwr.restart hpwr :)⟩
  have hkept := pwrTry_of_off (s := { u with ldg := { l with blocks := 0 }, pwr := { p with state := .off, committed := false, pcreq := false } }) rfl
    (hp.1.trans hlatch) (hp.2.trans hrestart)
  rw [if_neg (by simp [hstate]), hkept]
  exact ⟨_, rfl, rfl, rfl, rfl, rfl, rfl, flash_unlockEnd s 1⟩

/-- Settles O51. -/
theorem powerSequence : Obligations.PowerSequence := ⟨execPuIsoDone_brings_up, execPuIsoDone_of_latch, execQuiesceDone_flushes, execFlushCommit_commits,
    execStopDone_stops, execPwrOff_quiesces, execPwrOn_goes_back⟩

end Sys2Proof.Machine
end

section
/-! SUPPORT. O52: the global stop. -/
namespace Sys2Proof.Machine
open Sys2Proof

/-- Every part but the registers of one unit. -/
def Fields.allButRegs (u : RegUnit) : Fields := { Fields.all with regs := RegUnit.list.filter (· != u) }

theorem bit_eq_testBit (x i : Nat) : bit x i = x.testBit i := by
  rw [Nat.testBit, Nat.one_and_eq_mod_two]
  rcases Nat.mod_two_eq_zero_or_one (x >>> i) with h | h <;> simp [bit, bits, h]

/-! ## Stops (R473) -/

theorem get_event (s : State) (code : Nat) (f : RegField) (i : Nat) : (s.event code).get f i = s.get f i := rfl

/-- A record and a trace of the stop leave the registers of the debug unit. -/
theorem get_stopTold {f : RegField} (hf : f.unit = .dbg) (u : State) (code p0 p1 p2 src : Nat) (seen : Bool) (i : Nat) :
    ((u.recordOf code dbgSrc p0 p1 p2).kilnStop seen src).get f i = u.get f i :=
  get_of_blank (F := { ldg := true, dbg := true, regs := [.ldg] }) ((kilnStop_blank _ seen src rfl).trans (recordOf_blank u code dbgSrc p0 p1 p2 rfl rfl))
    (by rw [hf]; rfl) i

/-- What a first stop shows: its source, its GT and its event, while the pin's level stays (R473). -/
theorem stopRaise_shows {s : State} (hrun : s.stopped = false) (source fseq : Nat) : (s.stopRaise source fseq).get Reg.DBG_GSSTATUS_STOPPED 0 = 1 ∧
    (s.stopRaise source fseq).get Reg.DBG_GSSTATUS_SETTLED 0 = 0 ∧
    (s.stopRaise source fseq).get Reg.DBG_GSSTATUS_SOURCE 0 = wrap 4 (s.get Reg.DBG_GSSTATUS_SOURCE 0 ||| 2 ^ source) ∧
    (s.stopRaise source fseq).get Reg.DBG_GSTIME_GT 0 = wrap 64 s.gt ∧ (s.stopRaise source fseq).get Reg.DBG_EVENT_STOP 0 = 1 ∧
    (s.stopRaise source fseq).get Reg.DBG_GSSTATUS_PIN 0 = s.get Reg.DBG_GSSTATUS_PIN 0 := by
  unfold State.stopRaise
  extract_lets src a d u v d' w
  have hrun' : u.stopped = false := by
    rw [← hrun, State.stopped, State.stopped, State.on, State.on]
    exact congrArg (fun n => n == 1) (get_set_apart (f := Reg.DBG_GSSTATUS_SOURCE) (by decide) s 0 src)
  rw [if_neg (by simp [hrun'])]
  have htold : ∀ f : RegField, f.unit = .dbg → f.apart Reg.DBG_EVENT_STOP = true →
      ((((w.recordOf 0x1501 dbgSrc src w.gt fseq).kilnStop true src).raise Reg.DBG_EVENT_STOP 0).event 1).get f 0 = v.get f 0 := fun f hf hstop =>
    (get_event _ _ _ _).trans <| (get_raise_apart hstop _ 0).trans ((get_stopTold hf w 0x1501 src w.gt fseq src true 0).trans rfl)
  have hu : ∀ f : RegField, f.apart Reg.DBG_GSSTATUS_SOURCE = true → u.get f 0 = s.get f 0 := fun f hf => get_set_apart hf s 0 src
  have hsrc : u.get Reg.DBG_GSSTATUS_SOURCE 0 = wrap 4 src := get_set_self s Reg.DBG_GSSTATUS_SOURCE 0 src
  have hgt : u.gt = s.gt := rfl
  clear_value u
  refine ⟨?_, ?_, ?_, ?_, (get_event _ _ _ _).trans (get_raise_self _ Reg.DBG_EVENT_STOP 0), ?_⟩
  · rw [htold _ rfl (by decide)]
    simp (disch := decide) only [v, State.setAll, get_set_apart, get_set_self]
    rfl
  · rw [htold _ rfl (by decide)]
    simp (disch := decide) only [v, State.setAll, get_set_apart, get_set_self]
    rfl
  · rw [htold _ rfl (by decide)]
    simp (disch := decide) only [v, State.setAll, get_set_apart, hsrc]
    rfl
  · rw [htold _ rfl (by decide)]
    simp (disch := decide) only [v, State.setAll, get_set_self, hgt]
    rfl
  · rw [htold _ rfl (by decide)]
    simp (disch := decide) only [v, State.setAll, get_set_apart, hu]

theorem execGstopWrite_stops (ten tag : Nat) (s : State) (hadmits : s.admits ten tag none = true) (hrun : s.stopped = false) :
    ∃ t, execGstopWrite ten tag s = .next t ∧ t.get Reg.DBG_GSSTATUS_STOPPED 0 = 1 ∧ t.get Reg.DBG_GSSTATUS_SETTLED 0 = 0 ∧
      bit (t.get Reg.DBG_GSSTATUS_SOURCE 0) 0 = true ∧ t.get Reg.DBG_GSTIME_GT 0 = wrap 64 s.gt ∧ t.get Reg.DBG_EVENT_STOP 0 = 1 ∧
      .ghpRs (wrap 6 tag) 0 0 ∈ t.pulses := by
  obtain ⟨hstopped, hsettled, hsource, htime, hevent, -⟩ := stopRaise_shows hrun 0 0
  rw [execGstopWrite, hostWrite_of_admits hadmits]
  generalize s.stopRaise 0 0 = u at hstopped hsettled hsource htime hevent
  refine ⟨_, rfl, hstopped, hsettled, ?_, htime, hevent, by simp [State.emit]⟩
  rw [get_emit, hsource, bit_eq_testBit, wrap, Nat.testBit_mod_two_pow]
  simp

theorem execStopInChange_of_high (s : State) (hext : s.on Reg.DBG_GSCTRL_EXTEN 0 = true) (hrun : s.stopped = false)
    (hsource : bit (s.get Reg.DBG_GSSTATUS_SOURCE 0) 1 = false) : ∃ t, execStopInChange true s = .next t ∧ t.get Reg.DBG_GSSTATUS_PIN 0 = 1 ∧
      t.get Reg.DBG_GSSTATUS_STOPPED 0 = 1 ∧ t.get Reg.DBG_GSSTATUS_SETTLED 0 = 0 ∧ bit (t.get Reg.DBG_GSSTATUS_SOURCE 0) 1 = true ∧
      t.get Reg.DBG_GSTIME_GT 0 = wrap 64 s.gt ∧ t.get Reg.DBG_EVENT_STOP 0 = 1 := by
  have hpin : (s.set Reg.DBG_GSSTATUS_PIN 0 (flag true)).get Reg.DBG_GSSTATUS_PIN 0 = 1 := get_set_self s Reg.DBG_GSSTATUS_PIN 0 1
  have hkeep : ∀ f : RegField, f.apart Reg.DBG_GSSTATUS_PIN = true → (s.set Reg.DBG_GSSTATUS_PIN 0 (flag true)).get f 0 = s.get f 0 := fun f hf =>
    get_set_apart hf s 0 _
  have hgt : (s.set Reg.DBG_GSSTATUS_PIN 0 (flag true)).gt = s.gt := rfl
  rw [execStopInChange, State.stopPin]
  generalize s.set Reg.DBG_GSSTATUS_PIN 0 (flag true) = u at hpin hkeep hgt
  have hrun' : u.stopped = false := by
    rw [← hrun, State.stopped, State.stopped, State.on, State.on, hkeep _ (by decide)]
  have hext' : u.on Reg.DBG_GSCTRL_EXTEN 0 = true := by
    rw [← hext, State.on, State.on, hkeep _ (by decide)]
  obtain ⟨hstopped, hsettled, hsource', htime, hevent, hpin'⟩ := stopRaise_shows hrun' 1 0
  rw [if_pos ⟨by simp [State.on, hpin], hext'⟩, if_neg (by simp [hkeep _ (show Reg.DBG_GSSTATUS_SOURCE.apart Reg.DBG_GSSTATUS_PIN = true by decide), hsource])]
  refine ⟨_, rfl, hpin'.trans hpin, hstopped, hsettled, ?_, htime.trans (by rw [hgt]), hevent⟩
  rw [hsource', bit_eq_testBit, wrap, Nat.testBit_mod_two_pow]
  simp [Nat.testBit_or, show Nat.testBit 2 1 = true by decide]

/-! ## Release (R476) -/

/-- The Folios that the end of a stop lets go on change no register of the debug unit. -/
theorem get_tryDecides {f : RegField} (hf : f.unit = .dbg) (l : List Nat) (s : State) (i : Nat) : (l.foldl (fun s n => s.tryDecide n) s).get f i = s.get f i :=
  apply_foldl (fun u => u.get f i) _ (fun u n => get_of_blank (F := .allButRegs .dbg) (by apply tryDecide_blank <;> rfl) (by rw [hf]; rfl) i) l s

/-- What the end of a stop shows, where no source stands (R476). -/
theorem stopEnd_shows {s : State} (hstopped : s.stopped = true) (hsource : s.get Reg.DBG_GSSTATUS_SOURCE 0 = 0) :
    s.stopEnd.get Reg.DBG_GSSTATUS_STOPPED 0 = 0 ∧ s.stopEnd.get Reg.DBG_GSREL_GT 0 = wrap 64 s.gt ∧ s.stopEnd.get Reg.DBG_EVENT_RELEASE 0 = 1 := by
  unfold State.stopEnd
  rw [if_neg (by simp [hstopped, hsource])]
  extract_lets us u v
  have hv : ∀ f : RegField, f.unit = .dbg → f.apart Reg.DBG_EVENT_RELEASE = true → v.get f 0 = u.get f 0 := fun f hf hapart =>
    (get_event _ _ _ _).trans <| (get_raise_apart hapart _ 0).trans (get_stopTold hf u 0x1502 (saturate 32 us) u.dbg.seen 0 0 false 0)
  have hevent : v.get Reg.DBG_EVENT_RELEASE 0 = 1 := (get_event _ _ _ _).trans (get_raise_self _ Reg.DBG_EVENT_RELEASE 0)
  clear_value v
  rw [get_tryDecides rfl, get_tryDecides rfl, get_tryDecides rfl, hv _ rfl (by decide), hv _ rfl (by decide)]
  refine ⟨?_, ?_, hevent⟩
  · simp (disch := decide) only [u, State.setAll, get_set_apart, get_set_self]
    rfl
  · simp (disch := decide) only [u, State.setAll, get_set_self]
    rfl

theorem execGstopRelease_ends (ten tag : Nat) (s : State) (hadmits : s.admits ten tag none = true) (hstopped : s.stopped = true)
    (hpin : s.get Reg.DBG_GSSTATUS_SOURCE 0 &&& 2 = 0) : ∃ t, execGstopRelease ten tag s = .next t ∧ t.get Reg.DBG_GSSTATUS_STOPPED 0 = 0 ∧
      t.get Reg.DBG_GSREL_GT 0 = wrap 64 s.gt ∧ t.get Reg.DBG_EVENT_RELEASE 0 = 1 ∧ .ghpRs (wrap 6 tag) 0 0 ∈ t.pulses := by
  have hsource : (s.set Reg.DBG_GSSTATUS_SOURCE 0 0).get Reg.DBG_GSSTATUS_SOURCE 0 = 0 := get_set_self s Reg.DBG_GSSTATUS_SOURCE 0 0
  have hstopped' : (s.set Reg.DBG_GSSTATUS_SOURCE 0 0).stopped = true := by
    rw [← hstopped, State.stopped, State.stopped, State.on, State.on, get_set_apart (by decide)]
  obtain ⟨hoff, hgt, hevent⟩ := stopEnd_shows hstopped' hsource
  rw [execGstopRelease, hostWrite_of_admits hadmits, State.stopRelease, if_neg (by simp [hstopped]), hpin, if_neg (by decide)]
  generalize (s.set Reg.DBG_GSSTATUS_SOURCE 0 0).stopEnd = u at hoff hgt hevent
  exact ⟨_, rfl, hoff, hgt, hevent, by simp [State.emit]⟩

theorem execGstopRelease_of_pin (ten tag : Nat) (s : State) (hadmits : s.admits ten tag none = true) (hstopped : s.stopped = true)
    (hpin : s.get Reg.DBG_GSSTATUS_SOURCE 0 &&& 2 ≠ 0) : ∃ t, execGstopRelease ten tag s = .next t ∧ t.get Reg.DBG_GSSTATUS_STOPPED 0 = 1 ∧
      t.get Reg.DBG_EVENT_RELBLOCK 0 = 1 ∧ .ghpRs (wrap 6 tag) 0 0 ∈ t.pulses := by
  have hone : s.get Reg.DBG_GSSTATUS_STOPPED 0 = 1 := by simpa [State.stopped, State.on] using hstopped
  rw [execGstopRelease, hostWrite_of_admits hadmits, State.stopRelease, if_neg (by simp [hstopped])]
  dsimp only
  rw [if_pos hpin]
  refine ⟨_, rfl, ?_, get_raise_self (s.set Reg.DBG_GSSTATUS_SOURCE 0 _) Reg.DBG_EVENT_RELBLOCK 0, by simp [State.emit]⟩
  exact (get_raise_apart (by decide) (s.set Reg.DBG_GSSTATUS_SOURCE 0 _) 0).trans ((get_set_apart (by decide) s 0 _).trans hone)

theorem get_stopEnd_apart {f : RegField} (hf : f.unit = .dbg)
    (hapart : [Reg.DBG_GSSTATUS_STOPPED, Reg.DBG_GSSTATUS_SETTLED, Reg.DBG_GSREL_GT, Reg.DBG_EVENT_RELEASE].all (fun g => f.apart g) = true) (s : State) :
    s.stopEnd.get f 0 = s.get f 0 := by
  simp only [List.all_cons, List.all_nil, Bool.and_true, Bool.and_eq_true] at hapart
  obtain ⟨hstopped, hsettled, hrel, hevent⟩ := hapart
  unfold State.stopEnd
  split
  case isTrue => rfl
  case isFalse =>
    extract_lets us u v
    have hv : v.get f 0 = u.get f 0 := (get_event _ _ _ _).trans <| (get_raise_apart hevent _ 0).trans (get_stopTold hf u 0x1502 (saturate 32 us) u.dbg.seen 0 0 false 0)
    clear_value v
    rw [get_tryDecides hf, hv]
    simp only [u, State.setAll, get_set_apart hstopped, get_set_apart hsettled, get_set_apart hrel]

theorem execStopInChange_of_low (s : State) : ∃ t, execStopInChange false s = .next t ∧ t.get Reg.DBG_GSSTATUS_PIN 0 = 0 ∧
    bit (t.get Reg.DBG_GSSTATUS_SOURCE 0) 1 = false := by
  have hpin : (s.set Reg.DBG_GSSTATUS_PIN 0 (flag false)).get Reg.DBG_GSSTATUS_PIN 0 = 0 := get_set_self s Reg.DBG_GSSTATUS_PIN 0 0
  rw [execStopInChange, State.stopPin]
  generalize s.set Reg.DBG_GSSTATUS_PIN 0 (flag false) = u at hpin
  rw [if_neg (by simp [State.on, hpin])]
  refine ⟨_, rfl, ?_, ?_⟩
  · rw [get_stopEnd_apart rfl (by decide), get_set_apart (by decide)]
    exact hpin
  · rw [get_stopEnd_apart rfl (by decide), get_set_self, bit_eq_testBit, wrap, Nat.testBit_mod_two_pow, Nat.testBit_and]
    simp [show Nat.testBit 13 1 = false by decide]

theorem execGstopSettle_settles (s : State) (hstopped : s.stopped = true) : ∃ t, execGstopSettle s = .next t ∧ t.get Reg.DBG_GSSTATUS_SETTLED 0 = 1 := by
  rw [execGstopSettle, if_pos hstopped]
  exact ⟨_, rfl, get_set_self s Reg.DBG_GSSTATUS_SETTLED 0 1⟩

/-! ## The end of an unlock (R477) -/

theorem execUnlockExpiry_ends (s : State) : ∃ t, execUnlockExpiry s = .next t ∧ t.dbg.unlock = none ∧
    (s.dbg.unlock.isSome = true → t.get Reg.DBG_UNLOCK_SECS 0 = 0) := by
  rw [execUnlockExpiry]
  refine ⟨_, rfl, ?_⟩
  rw [State.unlockEnd]
  split
  case isTrue =>
    generalize hu : ({ s with dbg := { s.dbg with unlock := none } } : State) = u
    have hunlock : u.dbg.unlock = none := by rw [← hu]
    have hrecord := recordOf_blank (F := { ldg := true, regs := [.ldg] }) (u.set Reg.DBG_UNLOCK_SECS 0 0) 0x1504 dbgSrc 0 0 0 rfl rfl
    refine ⟨?_, fun _ => ?_⟩
    · rw [dbg_of_blank hrecord rfl]
      exact hunlock
    · rw [get_of_blank (f := Reg.DBG_UNLOCK_SECS) hrecord rfl 0, get_set_self]
      rfl
  case isFalse h => exact ⟨by simpa using h, fun hsome => (h hsome).elim⟩

/-- Settles O52. -/
theorem globalStopCommands : Obligations.GlobalStopCommands := ⟨execGstopWrite_stops, execGstopRelease_ends, execGstopRelease_of_pin,
    execStopInChange_of_high, execStopInChange_of_low, execGstopSettle_settles, execUnlockExpiry_ends⟩

end Sys2Proof.Machine
end

section
/-! SUPPORT. O53: trace. -/
namespace Sys2Proof.Machine
open Sys2Proof

/-! ## Records of a hub (R470) -/

theorem tr_modTr_self (s : State) (r : Nat) (f : HubTr → HubTr) : ((s.modTr r f).hub r).tr = f (s.hub r).tr := by
  rw [State.modTr, hub_modHub_self]

/-- A record that finds place in the hub's ring below its half is its last (R470). -/
theorem traceStore_appends {s : State} {r : Nat} (hroom : (s.hub r).tr.recs.length < 2047) (w : Nat) :
    ((s.traceStore r w).hub r).tr = { (s.hub r).tr with recs := (s.hub r).tr.recs ++ [w], head := wrap 12 ((s.hub r).tr.head + 1) } := by
  rw [State.traceStore]
  dsimp only
  rw [if_neg (by omega), if_neg (by omega), tr_modTr_self]

theorem probe_traceStore (s : State) (r w x k : Nat) : (s.traceStore r w).probe x k = s.probe x k :=
  probe_congr (probes_of_blank (F := { Fields.all with probes := false }) (by apply traceStore_blank <;> rfl) rfl) x k

theorem recs_traceStores (r : Nat) (l : List Flit) (s : State) (hroom : (s.hub r).tr.recs.length + l.length < 2048) :
    ((l.foldl (fun (s : State) (x : Flit) => s.traceStore r x.toNat) s).hub r).tr.recs = (s.hub r).tr.recs ++ l.map (·.toNat) := by
  induction l generalizing s with
  | nil => simp
  | cons x l ih =>
    rw [List.length_cons] at hroom
    have hstore := traceStore_appends (s := s) (r := r) (by omega) x.toNat
    rw [List.foldl_cons, ih _ (by rw [hstore]; simp; omega), hstore]
    simp

theorem takeTrace_length (l : List Flit) : (takeTrace l).length ≤ 2 := by
  cases l with
  | nil => simp [takeTrace]
  | cons x rest =>
    rw [takeTrace]
    split
    · simp only [List.length_cons, List.length_take]
      omega
    · simp

/-- Records that arrive at a hub with room for them are its last, and its probes stay (R470). -/
theorem traceArrive_stores {s : State} {r : Nat} {l : List Flit} (hroom : (s.hub r).tr.recs.length + l.length < 2048) :
    ((s.traceArrive r l).hub r).tr.recs = (s.hub r).tr.recs ++ l.map (·.toNat) ∧ ∀ x k, (s.traceArrive r l).probe x k = s.probe x k := by
  rw [State.traceArrive, if_pos (by omega)]
  refine ⟨recs_traceStores r l s hroom, fun x k => ?_⟩
  exact apply_foldl (fun v : State => v.probe x k) (fun (s : State) (f : Flit) => s.traceStore r f.toNat) (fun v f => probe_traceStore v r f.toNat x k) l s

theorem execTrRec_stores (region tile : Nat) (s : State) (hout : takeTrace (s.probe region tile).traceOut ≠ [])
    (hdrops : (s.probe region tile).traceDrops = 0) (hroom : (s.hub region).tr.recs.length + 2 < 2047) : ∃ t, execTrRec region tile s = .next t ∧
      (t.probe region tile).traceOut = (s.probe region tile).traceOut.drop (takeTrace (s.probe region tile).traceOut).length ∧
      (t.hub region).tr.recs = (s.hub region).tr.recs ++ (takeTrace (s.probe region tile).traceOut).map (·.toNat) := by
  have hlen := takeTrace_length (s.probe region tile).traceOut
  unfold execTrRec
  extract_lets p l drops u
  have hnone : drops = 0 := by
    simp only [drops, p, hdrops]
    rfl
  have hhub : (u.hub region).tr.recs = (s.hub region).tr.recs := rfl
  have hprobe : (u.probe region tile).traceOut = p.traceOut.drop l.length := by
    rw [probe_setProbe_self]
  have hroom' : (u.hub region).tr.recs.length + l.length < 2048 := by
    have hl : l.length ≤ 2 := hlen
    rw [hhub]
    omega
  obtain ⟨hrecs, hkept⟩ := traceArrive_stores hroom'
  rw [hhub] at hrecs
  rw [if_neg hout, hnone, State.traceDrop, if_pos rfl]
  exact ⟨_, rfl, (congrArg Probe.traceOut (hkept region tile)).trans hprobe, hrecs⟩

theorem execTraceMark_of_hub (region : Nat) (s : State) (hregion : region ≠ kilnRegion) (hclass : bit (s.get Reg.RH_TR_CTRL_CLASSEN region) 0 = true)
    (hroom : (s.hub region).tr.recs.length < 2047) : ∃ t, execTraceMark region s = .next t ∧
      (t.hub region).tr.recs.length = (s.hub region).tr.recs.length + 1 ∧ (t.hub region).tr.drops = 0 ∧
      (t.hub region).tr.head = wrap 12 ((s.hub region).tr.head + 1) := by
  have hclear := tr_modTr_self s region (fun t => { t with drops := 0 })
  rw [execTraceMark, if_neg hregion, if_pos hclass, State.traceMark]
  rw [if_pos (by omega)]
  refine ⟨_, rfl, ?_⟩
  rw [traceStore_appends (by rw [hclear]; exact hroom), hclear]
  exact ⟨by simp, rfl, rfl⟩

theorem execTraceMark_of_kiln (s : State) (hroom : s.dbg.recs.length < 256) : ∃ t, execTraceMark kilnRegion s = .next t ∧
    t.dbg.recs = s.dbg.recs ++ [traceHead 0 0 s.gt + pack [(48, 64, s.gt), (112, 11, kilnRegion)]] := by
  rw [execTraceMark, if_pos rfl, State.kilnTrace]
  refine ⟨_, rfl, ?_⟩
  dsimp only
  rw [show (s.dbg.recs ++ [traceHead 0 0 s.gt + pack [(48, 64, s.gt), (112, 11, kilnRegion)]]).length - 256 = 0 by simp; omega, List.drop_zero]

/-! ## Cuts (R471) -/

/-- The run of a region is wanted or being cut. -/
def State.cutWanted (s : State) (r : Nat) : Prop := s.dbg.cuts.contains r = true ∨ s.dbg.cutting = some r

theorem cutWanted_nextCut {s : State} {r : Nat} (h : s.cutWanted r) : s.nextCut.cutWanted r := by
  rw [State.nextCut]
  split
  case isTrue hfree =>
    split
    case h_1 => exact h
    case h_2 x rest hcuts =>
      rcases h with hmem | hcutting
      · rw [hcuts, List.contains_cons, Bool.or_eq_true, beq_iff_eq] at hmem
        rcases hmem with rfl | hrest
        · exact .inr rfl
        · exact .inl hrest
      · exact (Option.some_ne_none r (hcutting.symm.trans hfree.2)).elim
  case isFalse => exact h

theorem wantCut_wants (s : State) (r : Nat) : (s.wantCut r).cutWanted r := by
  refine cutWanted_nextCut (.inl ?_)
  dsimp only
  split
  case isTrue h => exact h
  case isFalse => simp

theorem cutWanted_wantCut {s : State} {r : Nat} (h : s.cutWanted r) (x : Nat) : (s.wantCut x).cutWanted r := by
  refine cutWanted_nextCut (h.imp_left (fun hcuts => ?_))
  dsimp only
  split
  case isTrue => exact hcuts
  case isFalse => simpa using .inl (by simpa using hcuts)

theorem execTrLevel_cuts (region held : Nat) (s : State) : ∃ t, execTrLevel region held s = .next t ∧
    (t.dbg.cuts.contains region = true ∨ t.dbg.cutting = some region) := ⟨_, rfl, wantCut_wants _ region⟩

theorem execTrCut_answers (region : Nat) (s : State) : ∃ t, execTrCut region s = .next t ∧
    msgTrRun region (wrap 12 ((s.hub region).tr.head + 4096 - (s.hub region).tr.recs.length % 4096)) (s.hub region).tr.recs.length ∈ t.flue := by
  rw [execTrCut]
  rw [hub_recv]
  exact ⟨_, rfl, flue_subset_traceMark _ region (by simp)⟩

/-- A run whose records are yet to be copied stays the run in hand. -/
theorem run_pumpTrace {s : State} {r first n : Nat} (hrun : s.dbg.run = some (r, first, n)) (hn : n ≠ 0) : s.pumpTrace.dbg.run = some (r, first, n) := by
  rw [State.pumpTrace, hrun]
  dsimp only
  split
  case isTrue => exact hrun
  case isFalse => split <;> exact hrun

theorem execTrRun_of_records (region first count : Nat) (s : State) (hcutting : s.dbg.cutting = some region) (hrun : s.dbg.run = none)
    (hcount : wrap 13 count ≠ 0) : ∃ t, execTrRun region first count s = .next t ∧ t.dbg.run = some (region, wrap 12 first, wrap 13 count) := by
  rw [execTrRun]
  dsimp only
  rw [if_pos ⟨hcutting, hrun⟩]
  exact ⟨_, rfl, run_pumpTrace rfl hcount⟩

theorem pumpTrace_of_empty {s : State} {r first : Nat} (hrun : s.dbg.run = some (r, first, 0)) (hcopying : s.dbg.copying = false) :
    s.pumpTrace = s.freeRun := by
  rw [State.pumpTrace, hrun]
  exact if_neg (by simp [hcopying])

theorem run_nextCut (s : State) : s.nextCut.dbg.run = s.dbg.run := by
  rw [State.nextCut]
  split
  case isTrue => split <;> rfl
  case isFalse => rfl

theorem flue_subset_nextCut (s : State) : s.flue ⊆ s.nextCut.flue := by
  rw [State.nextCut]
  split
  case isTrue =>
    split
    · exact List.Subset.refl _
    · exact List.subset_append_left _ _
  case isFalse => exact List.Subset.refl _

theorem execTrRun_of_empty (region first : Nat) (s : State) (hcutting : s.dbg.cutting = some region) (hrun : s.dbg.run = none)
    (hcopying : s.dbg.copying = false) : ∃ t, execTrRun region first 0 s = .next t ∧ t.dbg.run = none ∧ msgTrFree region 0 ∈ t.flue := by
  rw [execTrRun]
  dsimp only
  rw [if_pos ⟨hcutting, hrun⟩]
  generalize hu : ({ s.recv (msgTrRun region first 0) with dbg := _ } : State) = u
  have hurun : u.dbg.run = some (region, wrap 12 first, 0) := by
    rw [← hu]
    rfl
  have hucopying : u.dbg.copying = false := by
    rw [← hu]
    exact hcopying
  rw [pumpTrace_of_empty hurun hucopying, State.freeRun, hurun]
  refine ⟨_, rfl, (run_nextCut _).trans rfl, flue_subset_nextCut _ ?_⟩
  exact List.mem_append_right _ (List.mem_singleton_self _)

theorem execTrFree_drops (region count : Nat) (s : State) : ∃ t, execTrFree region count s = .next t ∧
    (t.hub region).tr.recs = (s.hub region).tr.recs.drop (wrap 13 count) := by
  refine ⟨_, rfl, ?_⟩
  rw [tr_modTr_self, hub_recv]

/-! ## The drain (R471) -/

theorem cutWanted_wantCuts (l : List Nat) (s : State) {r : Nat} (h : r ∈ l ∨ s.cutWanted r) : (l.foldl (fun s r => s.wantCut r) s).cutWanted r := by
  induction l generalizing s with
  | nil => exact h.resolve_left List.not_mem_nil
  | cons x l ih =>
    refine ih _ ?_
    rcases h with hmem | hs
    · rcases List.mem_cons.mp hmem with rfl | hl
      · exact .inr (wantCut_wants s r)
      · exact .inl hl
    · exact .inr (cutWanted_wantCut hs x)

theorem execTraceDrain_cuts (ten tag : Nat) (s : State) (hadmits : s.admits ten tag none = true) : ∃ t, execTraceDrain ten tag s = .next t ∧
    ((∀ r ∈ s.liveRegions, t.dbg.cuts.contains r = true ∨ t.dbg.cutting = some r) ∧ .ghpRs (wrap 6 tag) 0 0 ∈ t.pulses) := by
  have hwanted := fun r (hr : r ∈ s.liveRegions) => cutWanted_wantCuts s.liveRegions s (r := r) (.inl hr)
  rw [execTraceDrain, hostWrite_of_admits hadmits]
  generalize List.foldl _ s s.liveRegions = u at hwanted
  exact ⟨_, rfl, hwanted, by simp [State.emit]⟩

/-- Copying a run to the ring writes WAIT and RINGWAIT alone. -/
theorem get_pumpTrace {f : RegField} (hf : (f.apart Reg.DBG_TRSTATUS_WAIT && f.apart Reg.DBG_EVENT_RINGWAIT) = true) (s : State) :
    s.pumpTrace.get f 0 = s.get f 0 := by
  obtain ⟨hwait, hevent⟩ := (Bool.and_eq_true _ _).mp hf
  rw [State.pumpTrace]
  split
  · rfl
  · split
    case isTrue => rfl
    case isFalse =>
      split
      case isTrue => exact get_of_blank (F := { dbg := true, flue := true }) (by apply freeRun_blank <;> rfl) rfl 0
      case isFalse =>
        dsimp only
        split
        case isTrue => exact get_set_apart hwait _ 0 0
        case isFalse => rw [get_raise_apart hevent, get_set_apart hwait]

theorem get_nextCut (s : State) (f : RegField) (i : Nat) : s.nextCut.get f i = s.get f i :=
  get_of_blank (F := { dbg := true, flue := true }) (by apply nextCut_blank <;> rfl) rfl i

theorem traceRing_set (s : State) (tpen : Nat) : (s.set Reg.DBG_TRCTRL_TPEN 0 tpen).traceRing = s.traceRing := by
  rw [State.traceRing, State.traceRing, get_set_apart (by decide), get_set_apart (by decide)]

theorem execTraceEnable_of_ring (ten tag : Nat) (tpen : Bool) (s : State) (hadmits : s.admits ten tag none = true)
    (hring : s.writable s.traceRing.1 (16 * s.traceRing.2) = true) : ∃ t, execTraceEnable tpen ten tag s = .next t ∧ t.get Reg.DBG_TRCTRL_EN 0 = 1 ∧
      t.get Reg.DBG_TRCTRL_TPEN 0 = flag tpen ∧ t.get Reg.DBG_TRSTATUS_BADRING 0 = 0 ∧ .ghpRs (wrap 6 tag) 0 0 ∈ t.pulses := by
  have hflag : wrap Reg.DBG_TRCTRL_TPEN.w (flag tpen) = flag tpen := by cases tpen <;> rfl
  have hring' : (s.set Reg.DBG_TRCTRL_TPEN 0 (flag tpen)).writable s.traceRing.1 (16 * s.traceRing.2) = true := hring
  rw [execTraceEnable, hostWrite_of_admits hadmits, State.enableDrain]
  dsimp only
  rw [traceRing_set, if_pos hring']
  generalize hu : State.setAll _ 0 _ = u
  have hget : u.get Reg.DBG_TRCTRL_EN 0 = 1 ∧ u.get Reg.DBG_TRCTRL_TPEN 0 = flag tpen ∧ u.get Reg.DBG_TRSTATUS_BADRING 0 = 0 := by
    rw [← hu]
    simp (disch := decide) only [State.setAll, get_set_apart, get_set_self]
    exact ⟨rfl, hflag, rfl⟩
  have hkeep : ∀ f : RegField, (f.apart Reg.DBG_TRSTATUS_WAIT && f.apart Reg.DBG_EVENT_RINGWAIT) = true → u.nextCut.pumpTrace.get f 0 = u.get f 0 :=
    fun f hf => (get_pumpTrace hf _).trans (get_nextCut u f 0)
  generalize u.nextCut.pumpTrace = v at hkeep
  exact ⟨_, rfl, (hkeep _ (by decide)).trans hget.1, (hkeep _ (by decide)).trans hget.2.1, (hkeep _ (by decide)).trans hget.2.2, by simp [State.emit]⟩

theorem execTraceEnable_of_bad_ring (ten tag : Nat) (tpen : Bool) (s : State) (hadmits : s.admits ten tag none = true)
    (hring : s.writable s.traceRing.1 (16 * s.traceRing.2) = false) : ∃ t, execTraceEnable tpen ten tag s = .next t ∧ t.get Reg.DBG_TRCTRL_EN 0 = 0 ∧
      t.get Reg.DBG_TRSTATUS_BADRING 0 = 1 ∧ t.get Reg.DBG_EVENT_BADRING 0 = 1 ∧ .ghpRs (wrap 6 tag) 0 0 ∈ t.pulses := by
  have hring' : ¬ (s.set Reg.DBG_TRCTRL_TPEN 0 (flag tpen)).writable s.traceRing.1 (16 * s.traceRing.2) = true :=
    fun h => Bool.false_ne_true (hring.symm.trans h)
  rw [execTraceEnable, hostWrite_of_admits hadmits, State.enableDrain]
  dsimp only
  rw [traceRing_set, if_neg hring']
  refine ⟨_, rfl, ?_, ?_, ?_, by simp [State.emit]⟩
  all_goals
    rw [get_emit]
    simp (disch := decide) only [State.setAll, get_raise_apart, get_raise_self, get_set_apart, get_set_self]
    rfl

theorem execDbgTrtailWrite_stores (offset ten tag : Nat) (s : State) (hadmits : s.admits ten tag none = true) :
    ∃ t, execDbgTrtailWrite offset ten tag s = .next t ∧ t.get Reg.DBG_TRTAIL_OFFSET 0 = wrap Reg.DBG_TRTAIL_OFFSET.w offset ∧
      .ghpRs (wrap 6 tag) 0 0 ∈ t.pulses := by
  rw [execDbgTrtailWrite, hostWrite_of_admits hadmits]
  exact ⟨_, rfl, (get_pumpTrace (by decide) _).trans (get_set_self s Reg.DBG_TRTAIL_OFFSET 0 offset), by simp [State.emit]⟩

/-- Settles O53. -/
theorem traceCommands : Obligations.TraceCommands := ⟨execTrRec_stores, execTraceMark_of_hub, execTraceMark_of_kiln, execTrLevel_cuts,
    execTrCut_answers, execTrRun_of_records, execTrRun_of_empty, execTrFree_drops, execTraceDrain_cuts, execTraceEnable_of_ring,
    execTraceEnable_of_bad_ring, execDbgTrtailWrite_stores⟩

end Sys2Proof.Machine
end

section
/-! SUPPORT. O54: a read of a hub's register through the host port. -/
namespace Sys2Proof.Machine
open Sys2Proof

/-! ## Reads of a unit (R495) -/

/-- A request that the port forwards becomes outstanding, and its unit serves it unless it is lost. -/
theorem ghpForward_of_takes {s : State} {tag : Nat} (htakes : s.takes tag = true) {q : GhpReq} (htag : q.tag = wrap 6 tag) (r : Nat) (serve : State → State) :
    s.ghpForward q r serve = if s.lost.contains r then { s with ghp := s.ghp ++ [q] } else serve { s with ghp := s.ghp ++ [q] } := by
  rw [State.ghpForward, htag, ghpAccept_of_takes htakes]

/-- A read of a hub's register that its requester may make is answered by the hub. -/
theorem execRgRead_of_hub {region off ten tag : Nat} {sz64 : Bool} {s : State} (htakes : s.takes tag = true) (hlost : s.lost.contains region = false)
    (hplace : placeOf (ghpReadAddr region none off) = ⟨.hub, region, wrap 16 off⟩)
    (hstatus : s.readStatus (wrap 12 ten) (ghpReadAddr region none off) sz64 = .ok) :
    ∃ u : State, u.regs = s.regs ∧ u.flue = arrive (msgRgRead (hubSrc region) (wrap 6 tag) (wrap 12 ten) (wrap 16 off) sz64) s.flue ∧
      execRgRead region none off sz64 ten tag s = .next ((u.readPlace ⟨.hub, region, wrap 16 off⟩ sz64).2.2.send
        (msgRgRdata (hubSrc region) (wrap 6 tag) (u.readPlace ⟨.hub, region, wrap 16 off⟩ sz64).1.code (u.readPlace ⟨.hub, region, wrap 16 off⟩ sz64).2.1)) := by
  have hstatus' (m : Msg) : (s.recv m).readStatus (wrap 12 ten) (ghpReadAddr region none off) sz64 = .ok := hstatus
  have hlost' (m : Msg) : (s.recv m).lost.contains region = false := hlost
  refine ⟨{ s.recv (msgRgRead (hubSrc region) (wrap 6 tag) (wrap 12 ten) (wrap 16 off) sz64) with
    ghp := s.ghp ++ [{ tag := wrap 6 tag, ten := wrap 12 ten, addr := ghpReadAddr region none off, wr := false, sz64 := sz64, gt := s.gt }] }, rfl, rfl, ?_⟩
  unfold execRgRead
  dsimp only
  rw [hplace, if_neg (by simp [hstatus']), ghpForward_of_takes (s := s.recv _) htakes rfl, hlost', if_neg Bool.false_ne_true]
  rfl

/-! ## The voltage target (R464) -/

/-- The row of a hub's voltage target. -/
def targetRow : RegRow := ⟨.hub, 0xE00, 4, [Reg.RH_PW_VTGT_MV]⟩

theorem rowAt_target : rowAt .hub 0xE00 = some targetRow := by decide

theorem rowValue_target (s : State) (region : Nat) : s.rowValue targetRow region = (wrap 12 (s.get Reg.RH_PW_VTGT_MV region), s) := by
  have hview : s.view targetRow.win region targetRow.off = none := rfl
  have hnothing : s.nothing targetRow.win region targetRow.off = none := rfl
  rw [State.rowValue, hnothing, hview]
  simp [targetRow, RegRow.assemble, pack, Reg.RH_PW_VTGT_MV]

/-- A read of the row gives no more than the 12 bits of its field. -/
theorem readPlace_target (s : State) (region : Nat) :
    s.readPlace ⟨.hub, region, 0xE00⟩ false = (.ok, wrap 12 (s.get Reg.RH_PW_VTGT_MV region), s) := by
  have hsnap : targetRow.isSnap = false := by decide
  have hbits : bits (wrap 12 (s.get Reg.RH_PW_VTGT_MV region)) 0 32 = wrap 12 (s.get Reg.RH_PW_VTGT_MV region) := by
    simp only [bits, wrap, Nat.shiftRight_zero]
    omega
  have harray : s.arrayWord (⟨.hub, region, 0xE00⟩ : Place).word = none := by
    simp [State.arrayWord, Place.word]
  unfold State.readPlace State.readBits
  simp only [harray, rowAt_target, State.readRow, hsnap, rowValue_target]
  exact congrArg (fun v => (GhpStatus.ok, v, s)) hbits

/-- A region with a hub, no lost one, and a stored target of 2^12, one above what the field can be written with. -/
def overfullTarget : State :=
  { cfg := { sections := [1], w := 1, h := 1 }, pwr := { state := .on }, regs := [(Reg.RH_PW_VTGT_MV.key 0, 0x1000)] }

/-- Refutes O54: the clause on a read of RH_PW_VTGT demands the value that the table of registers holds, and a state of the type may hold more there than
the field's 12 bits, which are all that a read gives. -/
theorem not_hostPortCommands : ¬ Obligations.HostPortCommands := by
  rintro ⟨-, hread, -⟩
  have htakes : overfullTarget.takes 0 = true := by decide
  have hlost : overfullTarget.lost.contains 0 = false := rfl
  have hstatus : overfullTarget.readStatus 0 (ghpReadAddr 0 none 0xE00) false = .ok := by decide
  have hget : overfullTarget.get Reg.RH_PW_VTGT_MV 0 = 0x1000 := by decide
  obtain ⟨t, hexec, hmem⟩ := hread 0 overfullTarget htakes hlost hstatus
  obtain ⟨u, hregs, hflue, hanswer⟩ := execRgRead_of_hub (off := 0xE00) (ten := 0) htakes hlost (by decide) hstatus
  have hgetu : u.get Reg.RH_PW_VTGT_MV 0 = 0x1000 := by rw [← hget, State.get, hregs, ← State.get]
  rw [show wrap 16 0xE00 = 0xE00 from rfl, readPlace_target, hgetu] at hanswer
  have ht : t = u.send (msgRgRdata (hubSrc 0) (wrap 6 0) 0 (wrap 12 0x1000)) := by
    injection hexec.symm.trans hanswer
  rw [ht, hget, flue_send, hflue] at hmem
  revert hmem
  decide

end Sys2Proof.Machine
end

section
/-! SUPPORT. O55: the management port. -/
namespace Sys2Proof.Machine
open Sys2Proof

/-! ## A request of the port (R504) -/

theorem pwr_ibi (s : State) (m : Nat) : (s.ibi m).pwr = s.pwr := pwr_of_blank (F := .allButPwr) (ibi_blank s m rfl) rfl

/-- While the block runs, a request acts and is answered with its code and data. -/
theorem mgtRequest_of_running {s : State} (hrun : s.pwr.running = true) (act : State → Nat × List Nat × State) :
    s.mgtRequest act = ((act s).2.2.ibi 0xA0).emit (.mgtRs (act s).1 (act s).2.1) := by
  have hgo : s.pwr.stopped = false := by
    rw [Pwr.running, Bool.and_eq_true] at hrun
    simpa using hrun.1
  rw [State.mgtRequest, hgo, if_neg Bool.false_ne_true, if_neg (by simp [hrun])]

theorem answer_mem_pulses (s : State) (p : Pulse) : p ∈ (s.emit p).pulses := List.mem_append_right _ (List.mem_singleton.mpr rfl)

theorem any_pulses_of_answer (s : State) (p : Pulse) {f : Pulse → Bool} (h : f p = true) : (s.emit p).pulses.any f = true :=
  List.any_eq_true.mpr ⟨p, answer_mem_pulses s p, h⟩

theorem length_leBytes (n x : Nat) : (leBytes n x).length = n := by
  simp [leBytes, bytesBE]

/-! ## Status, registers, mirror and Ledger -/

theorem execGetStatus_answers (s : State) (hrun : s.pwr.running = true) : ∃ t, execGetStatus s = .next t ∧
    .mgtRs 0 (s.statusWord 0 ++ s.statusWord 0x900 ++ s.statusWord 0x800 ++ s.statusWord 0x100C ++ s.statusWord 0x100004) ∈ t.pulses := by
  have hlist : [0x0, 0x900, 0x800, 0x100C, 0x100004].flatMap s.statusWord =
      s.statusWord 0 ++ s.statusWord 0x900 ++ s.statusWord 0x800 ++ s.statusWord 0x100C ++ s.statusWord 0x100004 := by
    simp only [List.flatMap_cons, List.flatMap_nil, List.append_nil, List.append_assoc]
  rw [execGetStatus, mgtRequest_of_running hrun, hlist]
  exact ⟨_, rfl, answer_mem_pulses _ _⟩

theorem execGetStatus_of_asleep (s : State) (hgo : s.pwr.stopped = false) (hrun : s.pwr.running = false) :
    ∃ t, execGetStatus s = .next t ∧ t = s.emit (.i3c false []) := by
  rw [execGetStatus, State.mgtRequest, hgo, if_neg Bool.false_ne_true, if_pos hrun]
  exact ⟨_, rfl, rfl⟩

theorem execReadReg_answers (addr : Nat) (sz64 : Bool) (s : State) (hrun : s.pwr.running = true) : ∃ t, execReadReg addr sz64 s = .next t ∧
    t.pulses.any (fun p => match p with | .mgtRs c l => c == 0 && l.length == 9 | _ => false) = true := by
  rw [execReadReg, mgtRequest_of_running hrun]
  exact ⟨_, rfl, any_pulses_of_answer _ _ (by simp [length_leBytes])⟩

theorem length_mirrorWords (s : State) (o n : Nat) : (s.mirrorWords o n).2.1.length = 8 * n := by
  induction n generalizing s o with
  | zero => rfl
  | succ n ih =>
    rw [State.mirrorWords]
    simp only [List.length_append, length_leBytes, ih]
    omega

theorem execReadMirror_answers (offset count : Nat) (s : State) (hrun : s.pwr.running = true) (hsome : 1 ≤ count) (hcount : count ≤ 6)
    (hoffset : wrap 32 offset < 0x40000000) : ∃ t, execReadMirror offset count s = .next t ∧
      t.pulses.any (fun p => match p with | .mgtRs c l => c == 0 && l.length == 1 + 8 * count | _ => false) = true := by
  rw [execReadMirror, mgtRequest_of_running hrun, if_neg (by omega), if_neg (by omega)]
  refine ⟨_, rfl, any_pulses_of_answer _ _ ?_⟩
  simp [length_mirrorWords, Nat.add_comm]

theorem execReadMirror_of_bad_count (offset count : Nat) (s : State) (hrun : s.pwr.running = true) (hcount : count = 0 ∨ 6 < count) :
    ∃ t, execReadMirror offset count s = .next t ∧ .mgtRs 1 ([]) ∈ t.pulses := by
  rw [execReadMirror, mgtRequest_of_running hrun, if_pos hcount]
  exact ⟨_, rfl, answer_mem_pulses _ _⟩

theorem execReadLedger_answers (page chunk : Nat) (p : Page) (s : State) (hrun : s.pwr.running = true) (hfind : s.ldg.find (wrap 32 page) = some p)
    (hchunk : chunk < 176) : ∃ t, execReadLedger page chunk s = .next t ∧
      .mgtRs 0 (((p.bytes ++ (p.trailer.map (·.bytes)).getD []).drop (48 * chunk)).take 48) ∈ t.pulses := by
  rw [execReadLedger, mgtRequest_of_running hrun]
  simp only [hfind, if_pos hchunk]
  exact ⟨_, rfl, answer_mem_pulses _ _⟩

/-! ## Power, stop and ambient temperature -/

theorem execPower_off (s : State) (hrun : s.pwr.running = true) (hstate : s.pwr.state = .on) : ∃ t, execPower false s = .next t ∧
    .mgtRs 0 ([]) ∈ t.pulses ∧ t.pwr.state = .pdQuiesce ∧ t.pwr.source = 1 := by
  obtain ⟨hquiesce, -, hsource⟩ := quiesce_power { s with pwr := { s.pwr with source := 1 } }
  rw [execPower, mgtRequest_of_running hrun, if_neg Bool.false_ne_true, State.offRequest, hstate]
  dsimp only
  generalize State.quiesce _ = u at hquiesce hsource
  exact ⟨_, rfl, answer_mem_pulses _ _, (congrArg Pwr.state (pwr_ibi u 0xA0)).trans hquiesce, (congrArg Pwr.source (pwr_ibi u 0xA0)).trans hsource⟩

theorem execPower_on (s : State) (hrun : s.pwr.running = true) (hstate : s.pwr.state = .pdQuiesce ∨ s.pwr.state = .pdFlush) (hpaused : s.bru.paused = false) :
    ∃ t, execPower true s = .next t ∧ .mgtRs 0 ([]) ∈ t.pulses ∧ t.pwr.state = s.pwr.back ∧ t.pwr.source = 1 := by
  have hpwr := onRequest_goes_back hstate hpaused 1
  rw [execPower, mgtRequest_of_running hrun, if_pos rfl]
  generalize s.onRequest 1 = u at hpwr
  replace hpwr := (pwr_ibi u 0xA0).trans hpwr
  exact ⟨_, rfl, answer_mem_pulses _ _, congrArg Pwr.state hpwr, congrArg Pwr.source hpwr⟩

theorem execGstop_stops (s : State) (hrun : s.pwr.running = true) (hopen : s.isSealed = false) (hgo : s.stopped = false) : ∃ t, execGstop true s = .next t ∧
    t.pulses.any (fun p => match p with | .mgtRs c l => c == 0 && l.length == 4 | _ => false) = true ∧ t.get Reg.DBG_GSSTATUS_STOPPED 0 = 1 ∧
    t.get Reg.DBG_GSSTATUS_SETTLED 0 = 0 ∧ bit (t.get Reg.DBG_GSSTATUS_SOURCE 0) 3 = true ∧ t.get Reg.DBG_GSTIME_GT 0 = wrap 64 s.gt ∧
    t.get Reg.DBG_EVENT_STOP 0 = 1 := by
  obtain ⟨hstopped, hsettled, hsource, htime, hevent, -⟩ := stopRaise_shows hgo 3 0
  rw [execGstop, mgtRequest_of_running hrun, hopen, if_neg Bool.false_ne_true, if_pos rfl]
  generalize s.stopRaise 3 0 = u at hstopped hsettled hsource htime hevent
  have hget (f : RegField) : ((u.ibi 0xA0).emit (.mgtRs 0 (u.statusWord 0x204004))).get f 0 = u.get f 0 := (get_emit _ _ _ _).trans (get_ibi _ _ _ _)
  refine ⟨_, rfl, any_pulses_of_answer _ _ (by simp [State.statusWord, length_leBytes]), (hget _).trans hstopped, (hget _).trans hsettled, ?_,
    (hget _).trans htime, (hget _).trans hevent⟩
  rw [hget, hsource, bit_eq_testBit, wrap, Nat.testBit_mod_two_pow]
  simp [Nat.testBit_or, show Nat.testBit 8 3 = true by decide]

theorem execGstop_of_sealed (stop : Bool) (s : State) (hrun : s.pwr.running = true) (hseal : s.isSealed = true) : ∃ t, execGstop stop s = .next t ∧
    .mgtRs 4 ([]) ∈ t.pulses ∧ t.regs = s.regs := by
  rw [execGstop, mgtRequest_of_running hrun, if_pos hseal]
  refine ⟨_, rfl, answer_mem_pulses _ _, ?_⟩
  dsimp only [State.emit, State.ibi]
  split <;> rfl

theorem execSetAmb_sets (region tamb : Nat) (s : State) (hrun : s.pwr.running = true) (hopen : s.isSealed = false) (hone : wrap 16 region ≠ 0xFFFF)
    (hgrid : s.inGrid (wrap 16 region) = true) : ∃ t, execSetAmb region tamb s = .next t ∧ .mgtRs 0 ([]) ∈ t.pulses ∧
      t.get Reg.RH_TH_AMB_AMB (wrap 16 region) = wrap Reg.RH_TH_AMB_AMB.w tamb := by
  rw [execSetAmb, mgtRequest_of_running hrun, hopen, if_neg Bool.false_ne_true, if_neg hone, if_pos hgrid]
  exact ⟨_, rfl, answer_mem_pulses _ _, (get_emit _ _ _ _).trans ((get_ibi _ _ _ _).trans (get_set_self _ _ _ _))⟩

/-! ## Wake (R505) -/

/-- An OFF domain that is asked on while VDD is good waits for its clock and PORB, or has left the wait. -/
theorem pwrTry_leaves_off {s : State} (hgo : s.pwr.stopped = false) (hoff : s.pwr.state = .off) (hvdd : s.pwr.vddGood = true) (hlatch : s.pwr.onLatch = true) :
    s.pwrTry.pwr.state = .puWait ∨ s.pwrTry.pwr.state = .puIso := by
  unfold State.pwrTry
  extract_lets p q q' r
  have hq : q = { p with state := .puWait, onLatch := false, restart := false } := if_pos ⟨hoff, hvdd, .inl hlatch⟩
  rw [if_neg (by simp [p, hgo])]
  dsimp only [r]
  split
  case isTrue => exact .inr rfl
  case isFalse => exact .inl (congrArg Pwr.state hq)

theorem onRequest_of_off {s : State} (hoff : s.pwr.state = .off) (source : Nat) :
    s.onRequest source = ({ s with pwr := { s.pwr with onLatch := true, source := source } } : State).pwrTry := by
  rw [State.onRequest, hoff]

/-- A write to a sleeping block sets its event, is taken, and asks the block on (R505). -/
theorem execWakeWrite_of_asleep {s : State} (hgo : s.pwr.stopped = false) (hrun : s.pwr.running = false) : ∃ u : State, u.pwr = s.pwr ∧
    u.get Reg.MGT_EVENT_WAKE 0 = 1 ∧ .i3c true [] ∈ u.pulses ∧ execWakeWrite s = .next (u.onRequest 1) := by
  refine ⟨(s.raise Reg.MGT_EVENT_WAKE 0).emit (.i3c true []), rfl, get_raise_self s Reg.MGT_EVENT_WAKE 0, answer_mem_pulses _ _, ?_⟩
  rw [execWakeWrite, if_neg (by simp [hgo, hrun])]

theorem execWakeWrite_of_off (s : State) (hgo : s.pwr.stopped = false) (hrun : s.pwr.running = false) (hoff : s.pwr.state = .off)
    (hvdd : s.pwr.vddGood = true) : ∃ t, execWakeWrite s = .next t ∧ (t.get Reg.MGT_EVENT_WAKE 0 = 1 ∧ .i3c true [] ∈ t.pulses ∧ t.pwr.source = 1 ∧
      (t.pwr.state = .puWait ∨ t.pwr.state = .puIso)) := by
  obtain ⟨u, hpwr, hevent, htaken, hexec⟩ := execWakeWrite_of_asleep hgo hrun
  rw [hexec, onRequest_of_off (hpwr ▸ hoff)]
  have hup := pwrTry_leaves_off (s := { u with pwr := { u.pwr with onLatch := true, source := 1 } }) (hpwr ▸ hgo) (hpwr ▸ hoff) (hpwr ▸ hvdd) rfl
  have hkept := supplied_pwrTry { u with pwr := { u.pwr with onLatch := true, source := 1 } }
  obtain ⟨p, hp⟩ := exists_pwrTry_eq { u with pwr := { u.pwr with onLatch := true, source := 1 } }
  rw [hp] at hup hkept ⊢
  exact ⟨_, rfl, hevent, htaken, (congrArg Pwr.source hkept :), hup⟩

theorem execWakeWrite_of_stopping (s : State) (hgo : s.pwr.stopped = false) (hstate : s.pwr.state = .pdStop) : ∃ t, execWakeWrite s = .next t ∧
    t.get Reg.MGT_EVENT_WAKE 0 = 1 ∧ .i3c true [] ∈ t.pulses ∧ t.pwr.onLatch = true := by
  have hrun : s.pwr.running = false := by
    rw [Pwr.running, hgo, hstate]
    rfl
  obtain ⟨u, hpwr, hevent, htaken, hexec⟩ := execWakeWrite_of_asleep hgo hrun
  rw [hexec, State.onRequest, hpwr, hstate]
  exact ⟨_, rfl, hevent, htaken, rfl⟩

/-- Settles O55. -/
theorem managementCommands : Obligations.ManagementCommands :=
  ⟨execGetStatus_answers, execGetStatus_of_asleep, execReadReg_answers, execReadMirror_answers, execReadMirror_of_bad_count, execReadLedger_answers,
    execPower_off, execPower_on, execGstop_stops, execGstop_of_sealed, execSetAmb_sets, execWakeWrite_of_off, execWakeWrite_of_stopping⟩

end Sys2Proof.Machine
end

section
/-! SUPPORT. O56: MCTP control and PLDM. -/
namespace Sys2Proof.Machine
open Sys2Proof

theorem length_freeBytes (s : State) (n : Nat) : (s.freeBytes n).1.length = n := length_leBytes n _

/-! ## Answers of fixed content or length (R502, R503) -/

section

variable {s : State} (hrun : s.pwr.running = true)

include hrun

/-- A request whose answer leaves the state of the port gives its code and data. -/
theorem answers_of_running (act : State → Nat × List Nat × State) {code : Nat} {data : List Nat} (hcode : (act s).1 = code) (hdata : (act s).2.1 = data) :
    .mgtRs code data ∈ (s.mgtRequest act).pulses := by
  rw [mgtRequest_of_running hrun, hcode, hdata]
  exact answer_mem_pulses _ _

theorem answers_length_of_running (act : State → Nat × List Nat × State) {n : Nat} (hcode : (act s).1 = 0) (hlen : (act s).2.1.length = n) :
    (s.mgtRequest act).pulses.any (fun p => match p with | .mgtRs c l => c == 0 && l.length == n | _ => false) = true := by
  rw [mgtRequest_of_running hrun]
  exact any_pulses_of_answer _ _ (by simp [hcode, hlen])

theorem mgt_mgtRequest (act : State → Nat × List Nat × State) : (s.mgtRequest act).mgt = (act s).2.2.mgt := by
  rw [mgtRequest_of_running hrun]
  exact mgt_of_blank (F := { Fields.all with mgt := false }) (ibi_blank _ _ rfl) rfl

end

/-! ## MCTP control (R502) -/

theorem execSetEndpointId_sets (op eid : Nat) (s : State) (hrun : s.pwr.running = true) (hop : op % 4 < 2) (hzero : wrap 8 eid ≠ 0) (hall : wrap 8 eid ≠ 0xFF) :
    ∃ t, execSetEndpointId op eid s = .next t ∧ .mgtRs 0 ([0, wrap 8 eid, 0]) ∈ t.pulses ∧ t.mgt = { s.mgt with eid := wrap 8 eid } := by
  refine ⟨_, rfl, answers_of_running hrun _ ?_ ?_, (mgt_mgtRequest hrun _).trans ?_⟩
  all_goals rw [if_pos ⟨hop, hzero, hall⟩]

theorem execGetEndpointId_answers (s : State) (hrun : s.pwr.running = true) : ∃ t, execGetEndpointId s = .next t ∧ .mgtRs 0 ([s.mgt.eid, 0, 0]) ∈ t.pulses ∧
    t.mgt = s.mgt :=
  ⟨_, rfl, answers_of_running hrun _ rfl rfl, mgt_mgtRequest hrun _⟩

theorem execGetMctpVersionSupport_answers (type : Nat) (s : State) (hrun : s.pwr.running = true)
    (htype : [0xFF, 0x00, 0x01, 0x7F].contains (wrap 8 type) = true) : ∃ t, execGetMctpVersionSupport type s = .next t ∧
      t.pulses.any (fun p => match p with | .mgtRs c l => c == 0 && l.length == 5 | _ => false) = true := by
  refine ⟨_, rfl, answers_length_of_running hrun _ ?_ ?_⟩
  · rw [if_pos htype]
  · rw [if_pos htype]
    exact congrArg (· + 1) (length_freeBytes s 4)

theorem execGetMctpVersionSupport_of_unknown (type : Nat) (s : State) (hrun : s.pwr.running = true)
    (htype : [0xFF, 0x00, 0x01, 0x7F].contains (wrap 8 type) = false) : ∃ t, execGetMctpVersionSupport type s = .next t ∧ .mgtRs 0x80 ([]) ∈ t.pulses := by
  have hother : ¬ [0xFF, 0x00, 0x01, 0x7F].contains (wrap 8 type) = true := fun h => Bool.false_ne_true (htype.symm.trans h)
  refine ⟨_, rfl, answers_of_running hrun _ ?_ ?_⟩
  all_goals rw [if_neg hother]

theorem execGetMessageTypeSupport_answers (s : State) (hrun : s.pwr.running = true) : ∃ t, execGetMessageTypeSupport s = .next t ∧
    .mgtRs 0 ([2, 0x01, 0x7F]) ∈ t.pulses :=
  ⟨_, rfl, answers_of_running hrun _ rfl rfl⟩

theorem execGetVendorDefinedMessageSupport_answers (s : State) (hrun : s.pwr.running = true) : ∃ t, execGetVendorDefinedMessageSupport 0 s = .next t ∧
    t.pulses.any (fun p => match p with | .mgtRs c l => c == 0 && l.take 6 == [0xFF, 0x01] ++ (leBytes 4 Config.iana).reverse | _ => false) = true := by
  have hlen : ([0xFF, 0x01] ++ (leBytes 4 Config.iana).reverse).length = 6 := by simp [length_leBytes]
  rw [execGetVendorDefinedMessageSupport, mgtRequest_of_running hrun, show wrap 8 0 = 0 from rfl, if_pos rfl]
  refine ⟨_, rfl, any_pulses_of_answer _ _ ?_⟩
  dsimp only
  rw [← hlen, List.take_left]
  simp

/-! ## PLDM (R503) -/

theorem execGettid_answers (s : State) (hrun : s.pwr.running = true) : ∃ t, execGettid s = .next t ∧
    t.pulses.any (fun p => match p with | .mgtRs c l => c == 0 && l.length == 1 | _ => false) = true :=
  ⟨_, rfl, answers_length_of_running hrun _ rfl (length_freeBytes s 1)⟩

theorem execGetpldmversion_answers (type : Nat) (s : State) (hrun : s.pwr.running = true) (htype : wrap 8 type = 0 ∨ wrap 8 type = 2) :
    ∃ t, execGetpldmversion type s = .next t ∧
      t.pulses.any (fun p => match p with | .mgtRs c l => c == 0 && l.length == 4 | _ => false) = true := by
  refine ⟨_, rfl, answers_length_of_running hrun _ ?_ ?_⟩
  · rw [if_pos htype]
  · rw [if_pos htype]
    exact length_freeBytes s 4

theorem execGetpldmtypes_answers (s : State) (hrun : s.pwr.running = true) : ∃ t, execGetpldmtypes s = .next t ∧ .mgtRs 0 ([5, 0, 0, 0, 0, 0, 0, 0]) ∈ t.pulses :=
  ⟨_, rfl, answers_of_running hrun _ rfl (by decide : leBytes 8 5 = _)⟩

theorem execGetpldmcommands_answers (s : State) (hrun : s.pwr.running = true) : ∃ t, execGetpldmcommands 2 s = .next t ∧
    .mgtRs 0 (leBytes 32 (2 ^ 0x11 + 2 ^ 0x21 + 2 ^ 0x50 + 2 ^ 0x51)) ∈ t.pulses :=
  ⟨_, rfl, answers_of_running hrun _ rfl (congrArg (leBytes 32) (by decide : maskOf [0x11, 0x21, 0x50, 0x51] = _))⟩

theorem execGetpldmcommands_answers_base (s : State) (hrun : s.pwr.running = true) : ∃ t, execGetpldmcommands 0 s = .next t ∧
    .mgtRs 0 (60 :: List.replicate 31 0) ∈ t.pulses :=
  ⟨_, rfl, answers_of_running hrun _ rfl (by decide : leBytes 32 (maskOf [2, 3, 4, 5]) = _)⟩

theorem execGetpdrrepositoryinfo_answers (s : State) (hrun : s.pwr.running = true) : ∃ t, execGetpdrrepositoryinfo s = .next t ∧
    t.pulses.any (fun p => match p with | .mgtRs c l => c == 0 && l.head? == some 0 && (l.drop 27).take 4 == leBytes 4 s.sensorCount | _ => false) = true := by
  rw [execGetpdrrepositoryinfo, mgtRequest_of_running hrun]
  refine ⟨_, rfl, any_pulses_of_answer _ _ ?_⟩
  have hsensors : ((s.freeBytes 26).2.freeBytes 9).2.sensorCount = s.sensorCount := rfl
  have hhead : (0 :: (s.freeBytes 26).1).length = 27 := congrArg (· + 1) (length_freeBytes s 26)
  have hcount : (leBytes 4 s.sensorCount).length = 4 := length_leBytes 4 _
  dsimp only
  rw [hsensors]
  generalize (s.freeBytes 26).1 = l at hhead
  generalize (State.freeBytes _ 9).1 = tail
  generalize leBytes 4 s.sensorCount = count at hcount
  rw [List.append_assoc, ← hhead, List.drop_left, ← hcount, List.take_left]
  simp

theorem execGetpdr_answers (handle : Nat) (s : State) (hrun : s.pwr.running = true) : ∃ t, execGetpdr handle s = .next t ∧
    t.pulses.any (fun p => match p with | .mgtRs c l => c == 0 && l.length == 64 | _ => false) = true :=
  ⟨_, rfl, answers_length_of_running hrun _ rfl (length_freeBytes s 64)⟩

/-! ## Sensors (R503) -/

theorem execGetsensorreading_of_some {sensor v : Nat} {s u : State} (hrun : s.pwr.running = true) (hsensor : s.numericSensor (wrap 16 sensor) = some (v, u)) :
    ∃ t, execGetsensorreading sensor s = .next t ∧ .mgtRs 0 (leBytes 4 v) ∈ t.pulses := by
  refine ⟨_, rfl, answers_of_running hrun _ ?_ ?_⟩
  all_goals simp only [hsensor]

theorem execGetsensorreading_voltage (sensor : Nat) (s : State) (hrun : s.pwr.running = true) (hlow : 0x20 ≤ wrap 16 sensor) (hhigh : wrap 16 sensor < 0x28) :
    ∃ t, execGetsensorreading sensor s = .next t ∧ .mgtRs 0 (leBytes 4 (s.sense (wrap 16 sensor - 0x20)).vbus) ∈ t.pulses := by
  refine execGetsensorreading_of_some (u := s) hrun ?_
  rw [State.numericSensor, if_neg (by omega), if_pos ⟨hlow, hhigh⟩]

theorem execGetsensorreading_temperature (sensor : Nat) (s : State) (hrun : s.pwr.running = true) (hlow : 0x100 ≤ wrap 16 sensor)
    (hgrid : s.inGrid (wrap 16 sensor - 0x100) = true) : ∃ t, execGetsensorreading sensor s = .next t ∧
      .mgtRs 0 (leBytes 4 (unsigned 16 (s.estimate (wrap 16 sensor - 0x100)))) ∈ t.pulses := by
  refine execGetsensorreading_of_some (u := s) hrun ?_
  rw [State.numericSensor, if_neg (by omega), if_neg (by omega), if_pos ⟨hlow, hgrid⟩]

theorem execGetsensorreading_of_none (sensor : Nat) (s : State) (hrun : s.pwr.running = true) (hsensor : wrap 16 sensor < 0x10) :
    ∃ t, execGetsensorreading sensor s = .next t ∧ .mgtRs 0x80 ([]) ∈ t.pulses := by
  have hnone : s.numericSensor (wrap 16 sensor) = none := by
    rw [State.numericSensor, if_neg (by omega), if_neg (by omega), if_neg (by omega)]
  refine ⟨_, rfl, answers_of_running hrun _ ?_ ?_⟩
  all_goals simp only [hnone]

theorem execGetstatesensorreadings_of_some {sensor v : Nat} {s : State} (hrun : s.pwr.running = true) (hsensor : s.stateSensor (wrap 16 sensor) = some v) :
    ∃ t, execGetstatesensorreadings sensor s = .next t ∧ .mgtRs 0 ([1, 0, v]) ∈ t.pulses := by
  refine ⟨_, rfl, answers_of_running hrun _ ?_ ?_⟩
  all_goals simp only [hsensor]

theorem execGetstatesensorreadings_power (s : State) (hrun : s.pwr.running = true) : ∃ t, execGetstatesensorreadings 1 s = .next t ∧
    .mgtRs 0 ([1, 0, s.pwr.state.code]) ∈ t.pulses :=
  execGetstatesensorreadings_of_some hrun rfl

theorem execGetstatesensorreadings_unit (sensor : Nat) (s : State) (hrun : s.pwr.running = true)
    (hsensor : wrap 16 sensor = 2 ∨ wrap 16 sensor = 3 ∨ wrap 16 sensor = 4) : ∃ t, execGetstatesensorreadings sensor s = .next t ∧
      .mgtRs 0 ([1, 0, if wrap 16 sensor = 2 then s.bru.state.code else if wrap 16 sensor = 4 then s.vault.st.code else if s.isSealed then 4 else s.flt.phase.code]) ∈
        t.pulses := by
  refine execGetstatesensorreadings_of_some hrun ?_
  rcases hsensor with h | h | h
  all_goals
    rw [h]
    rfl

/-- Settles O56. -/
theorem mctpAndPldmCommands : Obligations.MctpAndPldmCommands :=
  ⟨execSetEndpointId_sets, execGetEndpointId_answers, execGetMctpVersionSupport_answers, execGetMctpVersionSupport_of_unknown, execGetMessageTypeSupport_answers,
    execGetVendorDefinedMessageSupport_answers, execGettid_answers, execGetpldmversion_answers, execGetpldmtypes_answers, execGetpldmcommands_answers,
    execGetpldmcommands_answers_base, execGetpdrrepositoryinfo_answers, execGetpdr_answers, execGetsensorreading_voltage,
    execGetsensorreading_temperature, execGetsensorreading_of_none, execGetstatesensorreadings_power, execGetstatesensorreadings_unit⟩

end Sys2Proof.Machine
end

section
/-! SUPPORT. O57: I3C common command codes. -/
namespace Sys2Proof.Machine
open Sys2Proof

/-! ## A common command code (R501) -/

/-- A code that the port takes changes its fields and gives its data. -/
theorem ccc_of_some {s : State} (hgo : s.pwr.stopped = false) {act : Mgt → Option (Mgt × List Nat)} {m : Mgt} {data : List Nat}
    (hact : act s.mgt = some (m, data)) : s.ccc act = { s with mgt := m }.emit (.i3c true data) := by
  rw [State.ccc, hgo, if_neg Bool.false_ne_true, hact] <;> rfl

/-- A direct code is taken under the port's own address. -/
theorem ccc_direct {s : State} (hgo : s.pwr.stopped = false) {addr : Nat} (hda : s.mgt.da = some (wrap 7 addr)) (act : Mgt → Mgt × List Nat) :
    s.ccc (fun m => m.direct addr act) = { s with mgt := (act s.mgt).1 }.emit (.i3c true (act s.mgt).2) :=
  ccc_of_some hgo (if_pos hda)

/-! ## Addresses -/

theorem execEntdaa_takes (addr : Nat) (s : State) (hgo : s.pwr.stopped = false) (hda : s.mgt.da = none) : ∃ t, execEntdaa addr s = .next t ∧
    t = { s with mgt := { s.mgt with da := some (wrap 7 addr) } }.emit
      (.i3c true ((leBytes 6 Config.i3cPid).reverse ++ [wrap 8 Config.i3cBcr, wrap 8 Config.i3cDcr])) :=
  ⟨_, rfl, ccc_of_some hgo (if_pos (by simp [hda]))⟩

theorem execSetdasa_takes (sa addr : Nat) (s : State) (hgo : s.pwr.stopped = false) (hda : s.mgt.da = none) (hsa : wrap 7 sa = wrap 7 Config.staticAddress) :
    ∃ t, execSetdasa sa addr s = .next t ∧ t = { s with mgt := { s.mgt with da := some (wrap 7 addr) } }.emit (.i3c true ([])) :=
  ⟨_, rfl, ccc_of_some hgo (if_pos ⟨by simp [hda], hsa⟩)⟩

theorem execSetnewda_takes (old new : Nat) (s : State) (hgo : s.pwr.stopped = false) (hda : s.mgt.da = some (wrap 7 old)) :
    ∃ t, execSetnewda old new s = .next t ∧ t = { s with mgt := { s.mgt with da := some (wrap 7 new) } }.emit (.i3c true ([])) :=
  ⟨_, rfl, ccc_direct hgo hda _⟩

theorem execRstdaa_drops (s : State) (hgo : s.pwr.stopped = false) :
    ∃ t, execRstdaa s = .next t ∧ t = { s with mgt := { s.mgt with da := none } }.emit (.i3c true ([])) :=
  ⟨_, rfl, ccc_of_some hgo rfl⟩

/-! ## In-band interrupts -/

theorem execEnec_all (events : Nat) (s : State) (hgo : s.pwr.stopped = false) : ∃ t, execEnec none events s = .next t ∧
    t = { s with mgt := { s.mgt with ibi := s.mgt.ibi || bit events 0 } }.emit (.i3c true ([])) :=
  ⟨_, rfl, ccc_of_some hgo rfl⟩

theorem execEnec_direct (addr events : Nat) (s : State) (hgo : s.pwr.stopped = false) (hda : s.mgt.da = some (wrap 7 addr)) :
    ∃ t, execEnec (some addr) events s = .next t ∧ t = { s with mgt := { s.mgt with ibi := s.mgt.ibi || bit events 0 } }.emit (.i3c true ([])) :=
  ⟨_, rfl, ccc_of_some hgo (if_pos hda)⟩

theorem execDisec_all (events : Nat) (s : State) (hgo : s.pwr.stopped = false) : ∃ t, execDisec none events s = .next t ∧
    t = { s with mgt := { s.mgt with ibi := s.mgt.ibi && !bit events 0 } }.emit (.i3c true ([])) :=
  ⟨_, rfl, ccc_of_some hgo rfl⟩

theorem execDisec_direct (addr events : Nat) (s : State) (hgo : s.pwr.stopped = false) (hda : s.mgt.da = some (wrap 7 addr)) :
    ∃ t, execDisec (some addr) events s = .next t ∧ t = { s with mgt := { s.mgt with ibi := s.mgt.ibi && !bit events 0 } }.emit (.i3c true ([])) :=
  ⟨_, rfl, ccc_of_some hgo (if_pos hda)⟩

/-! ## Identity, status and lengths -/

section

variable (addr : Nat) (s : State) (hgo : s.pwr.stopped = false) (hda : s.mgt.da = some (wrap 7 addr))

include hgo hda

theorem execGetpid_answers : ∃ t, execGetpid addr s = .next t ∧ t = { s with mgt := s.mgt }.emit (.i3c true ((leBytes 6 Config.i3cPid).reverse)) :=
  ⟨_, rfl, ccc_direct hgo hda _⟩

theorem execGetbcr_answers : ∃ t, execGetbcr addr s = .next t ∧ t = { s with mgt := s.mgt }.emit (.i3c true ([wrap 8 Config.i3cBcr])) :=
  ⟨_, rfl, ccc_direct hgo hda _⟩

theorem execGetdcr_answers : ∃ t, execGetdcr addr s = .next t ∧ t = { s with mgt := s.mgt }.emit (.i3c true ([wrap 8 Config.i3cDcr])) :=
  ⟨_, rfl, ccc_direct hgo hda _⟩

theorem execGetstatus_answers : ∃ t, execGetstatus addr s = .next t ∧ t.mgt = s.mgt ∧
    t.pulses.any (fun p => match p with | .i3c a l => a && l.length == 2 | _ => false) = true := by
  have hanswer := ccc_direct (s := (s.freeBytes 2).2) hgo hda (fun m => (m, (s.freeBytes 2).1))
  refine ⟨_, congrArg Host.Outcome.next hanswer, rfl, any_pulses_of_answer _ _ ?_⟩
  simp [length_freeBytes]

theorem execGetmwl_answers : ∃ t, execGetmwl addr s = .next t ∧
    t = { s with mgt := s.mgt }.emit (.i3c true ([s.mgt.mwl / 256 % 256, s.mgt.mwl % 256])) :=
  ⟨_, rfl, ccc_direct hgo hda _⟩

theorem execGetmrl_answers : ∃ t, execGetmrl addr s = .next t ∧
    t = { s with mgt := s.mgt }.emit (.i3c true ([s.mgt.mrl / 256 % 256, s.mgt.mrl % 256])) :=
  ⟨_, rfl, ccc_direct hgo hda _⟩

theorem execSetmwl_direct (len : Nat) : ∃ t, execSetmwl (some addr) len s = .next t ∧
    t = { s with mgt := { s.mgt with mwl := wrap 16 len } }.emit (.i3c true ([])) :=
  ⟨_, rfl, ccc_of_some hgo (if_pos hda)⟩

theorem execSetmrl_direct (len : Nat) : ∃ t, execSetmrl (some addr) len s = .next t ∧
    t = { s with mgt := { s.mgt with mrl := wrap 16 len } }.emit (.i3c true ([])) :=
  ⟨_, rfl, ccc_of_some hgo (if_pos hda)⟩

end

theorem execSetmwl_all (len : Nat) (s : State) (hgo : s.pwr.stopped = false) : ∃ t, execSetmwl none len s = .next t ∧
    t = { s with mgt := { s.mgt with mwl := wrap 16 len } }.emit (.i3c true ([])) :=
  ⟨_, rfl, ccc_of_some hgo rfl⟩

theorem execSetmrl_all (len : Nat) (s : State) (hgo : s.pwr.stopped = false) : ∃ t, execSetmrl none len s = .next t ∧
    t = { s with mgt := { s.mgt with mrl := wrap 16 len } }.emit (.i3c true ([])) :=
  ⟨_, rfl, ccc_of_some hgo rfl⟩

/-- Settles O57. -/
theorem i3cCommands : Obligations.I3cCommands :=
  ⟨execEntdaa_takes, execSetdasa_takes, execSetnewda_takes, execRstdaa_drops, execEnec_all, execEnec_direct, execDisec_all, execDisec_direct,
    execGetpid_answers, execGetbcr_answers, execGetdcr_answers, execGetstatus_answers, execGetmwl_answers, execGetmrl_answers, execSetmwl_all,
    fun addr len s hgo hda => execSetmwl_direct addr s hgo hda len, execSetmrl_all, fun addr len s hgo hda => execSetmrl_direct addr s hgo hda len⟩

end Sys2Proof.Machine
end

section
/-! SUPPORT. O58: requests for power. -/
namespace Sys2Proof.Machine
open Sys2Proof

/-! ## The tray and the voltage target (R442, R459) -/

/-- A request to the tray that none stands before is asserted with its cause (R459). -/
theorem trayRequest_asserts {s : State} (hnone : s.pwr.pcreq = false) (cause : Nat) :
    (s.trayRequest cause).pwr = { s.pwr with pcreq := true, trayCause := cause } := by
  rw [State.trayRequest, hnone, if_neg Bool.false_ne_true, pwr_ibi, pwr_bankedRecord]

theorem execPwrPcreq_requests (ten tag : Nat) (s : State) (hadmits : s.admits ten tag none = true) (hnone : s.pwr.pcreq = false) :
    ∃ t, execPwrPcreq ten tag s = .next t ∧ t.pwr.pcreq = true ∧ t.pwr.trayCause = 3 ∧ .ghpRs (wrap 6 tag) 0 0 ∈ t.pulses := by
  have hpwr := trayRequest_asserts hnone 3
  rw [execPwrPcreq, hostWrite_of_admits hadmits]
  generalize s.trayRequest 3 = u at hpwr
  exact ⟨_, rfl, congrArg Pwr.pcreq hpwr, congrArg Pwr.trayCause hpwr, answer_mem_pulses _ _⟩

theorem targetWrite_shows (s : State) (region mv : Nat) : (s.targetWrite region mv).get Reg.RH_PW_VTGT_MV region = wrap 12 mv ∧
    (s.targetWrite region mv).get Reg.RH_PW_STATUS_TRANS region = 1 ∧ (s.targetWrite region mv).pwr.transitions = insertRegion region s.pwr.transitions := by
  unfold State.targetWrite
  extract_lets p u
  refine ⟨?_, ?_, rfl⟩
  · simp (disch := decide) only [State.setAll, get_set_apart, get_set_self]
    rfl
  · simp (disch := decide) only [State.setAll, get_set_self]
    rfl

theorem execVoltageTarget_stores (region mv ten tag : Nat) (s : State) (hadmits : s.admits ten tag none = true) (hhub : s.windowExists .hub region = true) :
    ∃ t, execVoltageTarget region mv ten tag s = .next t ∧ t.get Reg.RH_PW_VTGT_MV region = wrap Reg.RH_PW_VTGT_MV.w mv ∧
      t.get Reg.RH_PW_STATUS_TRANS region = 1 ∧ t.pwr.transitions = insertRegion region s.pwr.transitions ∧ .ghpRs (wrap 6 tag) 0 0 ∈ t.pulses := by
  obtain ⟨hmv, htrans, hlist⟩ := targetWrite_shows s region mv
  rw [execVoltageTarget, hhub, hostWrite_of_admits hadmits]
  generalize s.targetWrite region mv = u at hmv htrans hlist
  exact ⟨_, rfl, hmv, htrans, hlist, answer_mem_pulses _ _⟩

/-! ## The button (R458) -/

section

variable {ms : Nat} {s : State} (hfree : s.pwr.btnStuck = false) (hgo : s.pwr.stopped = false)

include hfree hgo

/-- A release within the limits is no longer a press, and does what its length and the power state say. -/
theorem execBtnRelease_within (hms : ms ≤ 30000) (u : State) (hu : u = { s with pwr := { s.pwr with btnPressed := false } }) : execBtnRelease ms s =
    if 4000 ≤ ms then .next ((u.bankedRecord 0x1202 ms 2 0).trayRequest 0)
    else if s.pwr.state = .on then
      (if s.rcv.rstChip ∨ (s.rcv.st = .reset ∧ s.rcv.rung = 4) then .next (u.bankedRecord 0x1202 ms 3 0)
       else
        .next { (u.bankedRecord 0x1202 ms 0 0).hostReset with rcv := { (u.bankedRecord 0x1202 ms 0 0).hostReset.rcv with rstChip := true } })
    else if s.pwr.state = .off ∧ s.pwr.vddGood then .next ((u.bankedRecord 0x1202 ms 1 0).onRequest 3)
    else .next (u.bankedRecord 0x1202 ms 3 0) := by
  rw [execBtnRelease, if_neg (by simp [hfree, hgo]), if_neg (by omega), hu]

end

theorem execBtnRelease_cycles (ms : Nat) (s : State) (hfree : s.pwr.btnStuck = false) (hgo : s.pwr.stopped = false) (hlow : 4000 ≤ ms) (hhigh : ms ≤ 30000)
    (hnone : s.pwr.pcreq = false) : ∃ t, execBtnRelease ms s = .next t ∧ t.pwr.btnPressed = false ∧ t.pwr.pcreq = true ∧ t.pwr.trayCause = 0 := by
  rw [execBtnRelease_within hfree hgo hhigh _ rfl, if_pos hlow]
  generalize hu : ({ s with pwr := { s.pwr with btnPressed := false } } : State) = u
  have hpwr : u.pwr = { s.pwr with btnPressed := false } := by rw [← hu]
  have hask := trayRequest_asserts (s := u.bankedRecord 0x1202 ms 2 0) (by rw [pwr_bankedRecord, hpwr, hnone]) 0
  rw [pwr_bankedRecord, hpwr] at hask
  exact ⟨_, rfl, congrArg Pwr.btnPressed hask, congrArg Pwr.pcreq hask, congrArg Pwr.trayCause hask⟩

theorem execBtnRelease_resets (ms : Nat) (s : State) (hfree : s.pwr.btnStuck = false) (hgo : s.pwr.stopped = false) (hms : ms < 4000) (hstate : s.pwr.state = .on)
    (hchip : s.rcv.rstChip = false) (hst : s.rcv.st ≠ .reset) : ∃ t, execBtnRelease ms s = .next t ∧ t.rcv.rstChip = true ∧ t.pwr.btnPressed = false := by
  have hpwr (v : State) : v.hostReset.pwr = v.pwr := pwr_of_blank (F := .allButPwr) (by apply hostReset_blank <;> rfl) rfl
  have hreset : ∀ u : State, u.pwr.btnPressed = false → (u.bankedRecord 0x1202 ms 0 0).hostReset.pwr.btnPressed = false := fun u hu => by
    rw [hpwr, pwr_bankedRecord, hu]
  rw [execBtnRelease_within hfree hgo (by omega) _ rfl, if_neg (by omega), if_pos hstate, if_neg (by simp [hchip, hst])]
  generalize hu : ({ s with pwr := { s.pwr with btnPressed := false } } : State) = u
  replace hreset := hreset u (by rw [← hu])
  generalize (u.bankedRecord 0x1202 ms 0 0).hostReset = v at hreset
  exact ⟨_, rfl, rfl, hreset⟩

theorem execBtnRelease_asks_on (ms : Nat) (s : State) (hfree : s.pwr.btnStuck = false) (hgo : s.pwr.stopped = false) (hms : ms < 4000) (hoff : s.pwr.state = .off)
    (hvdd : s.pwr.vddGood = true) : ∃ t, execBtnRelease ms s = .next t ∧ (t.pwr.source = 3 ∧ t.pwr.btnPressed = false ∧
      (t.pwr.state = .puWait ∨ t.pwr.state = .puIso)) := by
  rw [execBtnRelease_within hfree hgo (by omega) _ rfl, if_neg (by omega), if_neg (by rw [hoff]; nofun), if_pos ⟨hoff, hvdd⟩]
  generalize hu : State.bankedRecord _ 0x1202 ms 1 0 = u
  have hpwr : u.pwr = { s.pwr with btnPressed := false } := by rw [← hu, pwr_bankedRecord]
  rw [onRequest_of_off (by rw [hpwr]; exact hoff)]
  generalize hv : ({ u with pwr := { u.pwr with onLatch := true, source := 3 } } : State) = v
  have hpwr' : v.pwr = { s.pwr with btnPressed := false, onLatch := true, source := 3 } := by rw [← hv, hpwr]
  have hkept := (supplied_pwrTry v).trans (congrArg Pwr.supplied hpwr')
  have hup := pwrTry_leaves_off (s := v) (by rw [hpwr']; exact hgo) (by rw [hpwr']; exact hoff) (by rw [hpwr']; exact hvdd) (by rw [hpwr'])
  exact ⟨_, rfl, (congrArg Pwr.source hkept :), (congrArg Pwr.btnPressed hkept :), hup⟩

/-- A stuck button is latched and shown; the rest of the power state and the recovery stay (R458). -/
theorem stuck_shows (s : State) (pressed : Bool) : (s.stuck pressed).pwr = { s.pwr with btnStuck := true, btnPressed := pressed } ∧
    (s.stuck pressed).rcv = s.rcv ∧ (s.stuck pressed).get Reg.PWR_EVENT_BTNSTUCK 0 = 1 := by
  have hrcv (u : State) : (u.bankedRecord 0x1203 30000 0 0).rcv = u.rcv :=
    rcv_of_blank (F := { Fields.all with rcv := false }) (bankedRecord_blank u _ _ _ _ rfl rfl) rfl
  exact ⟨pwr_bankedRecord _ _ _ _ _, hrcv _, get_raise_self _ _ _⟩

theorem execBtnRelease_stuck (ms : Nat) (s : State) (hfree : s.pwr.btnStuck = false) (hgo : s.pwr.stopped = false) (hms : 30000 < ms) :
    ∃ t, execBtnRelease ms s = .next t ∧ t.pwr.btnStuck = true ∧ t.get Reg.PWR_EVENT_BTNSTUCK 0 = 1 ∧ t.pwr.pcreq = s.pwr.pcreq ∧ t.rcv = s.rcv := by
  obtain ⟨hpwr, hrcv, hevent⟩ := stuck_shows s false
  rw [execBtnRelease, if_neg (by simp [hfree, hgo]), if_pos hms]
  generalize s.stuck false = u at hpwr hrcv hevent
  exact ⟨_, rfl, congrArg Pwr.btnStuck hpwr, hevent, (congrArg Pwr.pcreq hpwr :), hrcv⟩

theorem execBtnStuck_latches (s : State) (hfree : s.pwr.btnStuck = false) (hgo : s.pwr.stopped = false) : ∃ t, execBtnStuck s = .next t ∧
    t.pwr.btnStuck = true ∧ t.pwr.btnPressed = true ∧ t.get Reg.PWR_EVENT_BTNSTUCK 0 = 1 := by
  obtain ⟨hpwr, -, hevent⟩ := stuck_shows s true
  rw [execBtnStuck, if_neg (by simp [hfree, hgo])]
  generalize s.stuck true = u at hpwr hevent
  exact ⟨_, rfl, congrArg Pwr.btnStuck hpwr, congrArg Pwr.btnPressed hpwr, hevent⟩

theorem execBtnStuckClear_clears (s : State) (hstuck : s.pwr.btnStuck = true) : ∃ t, execBtnStuckClear s = .next t ∧
    t = { s with pwr := { s.pwr with btnStuck := false, btnPressed := false } } :=
  ⟨_, congrArg Host.Outcome.next (if_pos hstuck), rfl⟩

/-! ## The tray's acknowledge (R459) -/

theorem execTrayAck_powers_down (s : State) (hgo : s.pwr.stopped = false) (hstate : s.pwr.state = .on) : ∃ t, execTrayAck s = .next t ∧
    t.pwr.acked = true ∧ t.pwr.ackLoss = false ∧ t.pwr.state = .pdQuiesce ∧ t.pwr.source = 2 := by
  rw [execTrayAck, if_neg (by simp [hgo])]
  dsimp only
  generalize hu : State.bankedRecord _ 0x1208 0 s.pwr.trayCause 0 = u
  have hpwr : u.pwr = { s.pwr with acked := true, ackLoss := false } := by rw [← hu, pwr_bankedRecord]
  have hon : u.pwr.state = .on := by rw [hpwr]; exact hstate
  have hdown : (u.offRequest 2).pwr.state = .pdQuiesce ∧ (u.offRequest 2).pwr.source = 2 := by
    obtain ⟨hquiesce, -, hsource⟩ := quiesce_power { u with pwr := { u.pwr with source := 2 } }
    rw [State.offRequest, hon]
    dsimp only
    generalize State.quiesce _ = v at hquiesce hsource
    exact ⟨hquiesce, hsource⟩
  have hkept := latchKept_offRequest u 2
  rw [if_neg (by rw [hon]; nofun)]
  generalize u.offRequest 2 = v at hdown hkept
  exact ⟨_, rfl, hkept.acked.trans (by rw [hpwr]), hkept.ackLoss.trans (by rw [hpwr]), hdown⟩

/-- Settles O58. -/
theorem powerRequests : Obligations.PowerRequests :=
  ⟨execPwrPcreq_requests, execVoltageTarget_stores, execBtnRelease_cycles, execBtnRelease_resets, execBtnRelease_asks_on, execBtnRelease_stuck,
    execBtnStuck_latches, execBtnStuckClear_clears, execTrayAck_powers_down⟩

end Sys2Proof.Machine
end

section
/-! SUPPORT. O11: what reactions, recovery, the Vault and the loss of a supply leave of the sealed latch. -/
namespace Sys2Proof.Machine
open Sys2Proof

/-! ## Reactions (R207–R216) -/

theorem latchKept_ite {c : Prop} [Decidable c] {s a b : State} (ha : c → LatchKept s a) (hb : ¬ c → LatchKept s b) : LatchKept s (if c then a else b) := by
  split
  case isTrue h => exact ha h
  case isFalse h => exact hb h

/-- The same composition with the last step first, which fixes the state between the two. -/
theorem LatchKept.after {s t u : State} (g : LatchKept t u) (h : LatchKept s t) : LatchKept s u := h.trans g

theorem LatchKept.of_pwr_eq {s t : State} {p : Pwr} (h : t.pwr = p)
    (hkept : (p.acked, p.ackLoss, p.porb, p.sealedLatch) = (s.pwr.acked, s.pwr.ackLoss, s.pwr.porb, s.pwr.sealedLatch)) : LatchKept s t := by
  simp only [Prod.mk.injEq] at hkept
  obtain ⟨hacked, hloss, hporb, hlatch⟩ := hkept
  subst h
  exact ⟨hacked, hloss, hporb, hlatch.trans⟩

theorem latchKept_trayRequest (s : State) (cause : Nat) : LatchKept s (s.trayRequest cause) := by
  rw [State.trayRequest]
  refine latchKept_ite (fun _ => .refl s) (fun _ => (latchKept_ibi _ _).after ((latchKept_bankedRecord _ _ _ _ _).after ?_))
  exact ⟨rfl, rfl, rfl, id⟩

/-- The sealed state sets the latch, and nothing of it clears it (R214). -/
theorem latchKept_sealState (s : State) (r : Reaction) : LatchKept s (s.sealState r) := by
  unfold State.sealState
  extract_lets f p u v w x
  have hu : LatchKept s u := ⟨rfl, rfl, rfl, fun _ => rfl⟩
  have hv : LatchKept u v := (LatchKept.of_blank (setReact_blank u _ rfl)).trans
    ((LatchKept.of_blank (by apply vaultCommandError_blank <;> rfl)).trans (.of_blank (fenceAll_blank _ _ rfl)))
  have hw : LatchKept v w := .of_blank (event_blank _ _ rfl)
  have hx : LatchKept w x := (LatchKept.of_blank (by apply caseEndsSealed_blank <;> rfl)).trans (.of_blank (by apply writeNotices_blank <;> rfl))
  clear_value x
  exact hu.trans (hv.trans (hw.trans (hx.trans ((latchKept_ibi _ _).after (.of_pwr rfl)))))

theorem latchKept_rung5 (s : State) : LatchKept s s.rung5 := (latchKept_trayRequest _ 2).after (.of_pwr rfl)

theorem latchKept_takeRung (s : State) (rung : Nat) : LatchKept s (s.takeRung rung) := by
  unfold State.takeRung
  refine latchKept_ite (fun _ => (latchKept_rung5 _).after ?_) (fun _ => ?_)
  · exact (LatchKept.of_blank (logCase_blank _ _ _ rfl)).after (.of_pwr rfl)
  · extract_lets t scope r u v dropped w x
    have hv : LatchKept s v := by
      unfold v
      split <;> exact .of_pwr rfl
    have hw : LatchKept v w := latchKept_foldl _ (fun t n => .of_blank (by apply epochDiscard_blank <;> rfl)) _ v
    have hx : LatchKept w x := latchKept_ite (fun _ => .refl w) (fun _ => .of_blank (by apply discardWaiting_blank <;> rfl))
    exact hv.trans (hw.trans (hx.trans (.of_blank (sendAll_blank _ _ rfl))))

theorem latchKept_closeCase (s : State) (result guilty : Nat) (ladder : Option Nat) : LatchKept s (s.closeCase result guilty ladder) :=
  .of_blank (by apply closeCase_blank <;> rfl)

theorem latchKept_openCase (s : State) (fseq : Nat) (rids : List Nat) (tenant region : Nat) (st : RcvState) :
    LatchKept s (s.openCase fseq rids tenant region st) := .of_blank (by apply openCase_blank <;> rfl)

theorem latchKept_joinSets (s : State) (region : Nat) : LatchKept s (s.joinSets region) := .of_blank (joinSets_blank s region rfl)

theorem latchKept_releaseSets (s : State) (regions : List Nat) : LatchKept s (s.releaseSets regions) := .of_blank (by apply releaseSets_blank <;> rfl)

theorem latchKept_unitNotice (s : State) : LatchKept s s.unitNotice := .of_blank (by apply unitNotice_blank <;> rfl)

theorem latchKept_grantedFails (s : State) (t : Nat) : LatchKept s (s.grantedFails t) := by
  unfold State.grantedFails
  extract_lets u v
  have hu : LatchKept s u := .of_pwr rfl
  refine latchKept_ite (fun _ => hu.trans (.after (latchKept_takeRung v 2) ?_)) (fun _ => hu.trans ?_)
  · refine latchKept_foldl _ (fun w n => ?_) _ u
    exact (LatchKept.of_blank (tellSuspects_blank _ n 2 rfl)).after (.of_pwr rfl)
  · exact (LatchKept.of_blank (by apply requestReset_blank <;> rfl)).after (latchKept_closeCase u _ _ _)

theorem latchKept_watchdogRegistered (s : State) (m : FaultMsg) (fseq : Nat) : LatchKept s (s.watchdogRegistered m fseq) := by
  unfold State.watchdogRegistered
  extract_lets region mine w
  refine latchKept_ite (fun _ => .refl s) (fun _ => latchKept_ite (fun _ => ?_) (fun _ => latchKept_ite (fun _ => latchKept_joinSets s _)
    (fun _ => latchKept_ite (fun _ => ?_) (fun _ => latchKept_ite (fun _ => latchKept_releaseSets s _) (fun _ => .of_pwr rfl)))))
  · exact (latchKept_joinSets _ _).after (latchKept_openCase _ _ _ _ _ _)
  · exact (latchKept_grantedFails _ _).after (latchKept_releaseSets _ _)

theorem latchKept_chipCase (s : State) (fseq : Nat) : LatchKept s (s.chipCase fseq) := by
  rw [State.chipCase]
  refine latchKept_ite (fun _ => (latchKept_takeRung _ 4).after (latchKept_openCase _ _ _ _ _ _)) (fun _ => latchKept_ite (fun _ => .refl s)
    (fun _ => latchKept_ite (fun _ => (latchKept_takeRung _ 4).after ((latchKept_unitNotice _).after (.of_pwr rfl))) (fun _ => latchKept_takeRung s 4)))

theorem latchKept_runL2 (l : List Nat) (s : State) : LatchKept s (s.runL2 l) := by
  induction l generalizing s with
  | nil => exact .refl s
  | cons rid rest ih =>
    rw [State.runL2]
    refine (ih _).after (latchKept_ite (fun _ => latchKept_bruRefuse s _ _) (fun _ => ?_))
    split
    · exact latchKept_chipCase s _
    · exact .refl s

theorem latchKept_startL2 (s : State) (r : Reaction) : LatchKept s (s.startL2 r) := .of_blank (by apply startL2_blank <;> rfl)

theorem latchKept_kickQueue (s : State) : LatchKept s s.kickQueue :=
  (latchKept_runL2 _ _).after (.of_blank (by apply startQueued_blank <;> rfl))

theorem latchKept_l2Done (s : State) : LatchKept s s.l2Done := .of_blank (by apply l2Done_blank <;> rfl)

theorem latchKept_chipDone (s : State) : LatchKept s s.chipDone :=
  (latchKept_kickQueue _).after ((latchKept_closeCase _ _ _ _).after (latchKept_l2Done s))

theorem latchKept_setReact (s : State) (r : Reaction) : LatchKept s (s.setReact r) := .of_pwr rfl

theorem latchKept_actNew (s : State) (level : Nat) (esc : Bool) (r : Reaction) (qfull : Bool) : LatchKept s (s.actNew level esc r qfull).1 := by
  unfold State.actNew
  extract_lets queued
  split
  · exact latchKept_sealState s r
  · split
    · split
      · exact latchKept_sealState s _
      · split
        · exact (LatchKept.of_blank (kilnFault_blank _ _ _ _ _ _ rfl)).after (.of_pwr rfl)
        · exact .of_pwr rfl
    · split
      · exact .of_blank (by apply startL1_blank <;> rfl)
      · exact (latchKept_runL2 _ _).after (latchKept_startL2 s r)

theorem latchKept_escalated (s : State) (met : Reaction) : LatchKept s (s.escalated met) := .of_blank (by apply escalated_blank <;> rfl)

theorem latchKept_react (s : State) (level src kind addr fseq : Nat) (m : FaultMsg) : LatchKept s (s.react level src kind addr fseq m).1 := by
  unfold State.react
  split
  · exact .of_blank (by apply mergeInto_blank <;> rfl)
  · extract_lets dom1 met1 u level2 met2 v level3 esc rid f w tags notes q f' x
    have hu : LatchKept s u := by
      unfold u
      cases met1 with
      | none => exact .refl s
      | some r => exact (LatchKept.of_blank (contain_blank _ _ _ _ rfl)).after (latchKept_escalated s _)
    have hv : LatchKept u v := by
      unfold v
      cases met2 with
      | none => exact .refl u
      | some r => exact latchKept_escalated u r
    have hx : LatchKept v x := .of_pwr rfl
    clear_value x
    split
    exact hu.trans (hv.trans (hx.trans (latchKept_actNew x _ _ _ _)))

theorem latchKept_ackReaction (s : State) (rid : Nat) : LatchKept s (s.ackReaction rid) := by
  rw [State.ackReaction]
  split
  · exact .of_pwr rfl
  · refine latchKept_ite (fun _ => .of_pwr rfl) (fun _ => ?_)
    extract_lets u v f
    have hu : LatchKept s u := (latchKept_kickQueue _).after (latchKept_setReact s _)
    have hv : LatchKept u v := .of_blank (setPhase_blank u .service rfl rfl rfl)
    exact latchKept_ite (fun _ => hu.trans (hv.trans (.of_pwr rfl))) (fun _ => hu)

theorem latchKept_bringUpStart (s : State) : LatchKept s s.bringUpStart := by
  rw [State.bringUpStart]
  exact latchKept_ite (fun _ => (latchKept_bruRefuse _ _ _).after (.of_pwr rfl)) (fun _ => .of_pwr rfl)

/-! ## Recovery (R224–R233) -/

theorem latchKept_parkRun (s : State) : LatchKept s s.parkRun := by
  rw [State.parkRun]
  refine latchKept_ite (fun _ => .refl s) (fun _ => latchKept_ite (fun _ => ?_) (fun _ => .of_pwr rfl))
  exact (latchKept_kickQueue _).after ((latchKept_closeCase _ _ _ _).after (.of_pwr rfl))

theorem latchKept_caseL2 (s : State) : LatchKept s s.caseL2 := by
  unfold State.caseL2
  extract_lets u rid f v r
  have hu : LatchKept s u := by
    unfold u
    split
    · exact latchKept_escalated s _
    · exact .refl s
  have hv : LatchKept u v := .of_pwr rfl
  refine hu.trans (hv.trans ?_)
  clear_value v
  split
  · exact (latchKept_sealState _ _).after (latchKept_escalated v _)
  · exact latchKept_startL2 v r

theorem latchKept_climbTo (s : State) (rung : Nat) : LatchKept s (s.climbTo rung) := by
  rw [State.climbTo]
  have hcase : LatchKept s (if rung = 4 then s.caseL2 else s) := latchKept_ite (fun _ => latchKept_caseL2 s) (fun _ => .refl s)
  exact (latchKept_ite (fun _ => .refl _) (fun _ => latchKept_takeRung _ rung)).after hcase

theorem latchKept_scopeClear (s : State) : LatchKept s s.scopeClear := by
  rw [State.scopeClear]
  refine latchKept_ite (fun _ => .of_blank (by apply grantNext_blank <;> rfl)) (fun _ => latchKept_ite (fun _ => latchKept_chipDone s) (fun _ => ?_))
  exact (latchKept_kickQueue _).after (latchKept_closeCase s _ _ _)

/-! ## The Ledger, the Vault and the supplies -/

theorem latchKept_coldRestore (s : State) : LatchKept s s.coldRestore := by
  refine (latchKept_bankedRecord _ _ _ _ _).after ?_
  exact ⟨rfl, rfl, rfl, id⟩

theorem latchKept_vaultFault (s : State) (kind code : Nat) : LatchKept s (s.vaultFault kind code) := by
  rw [State.vaultFault]
  refine latchKept_ite (fun _ => .refl s) (fun _ => ?_)
  have herror : ∀ c k : Nat, LatchKept s ((s.enterError code k).kilnFault 0x1E 0 kind 0 c) := fun c k =>
    (LatchKept.of_blank (kilnFault_blank _ _ _ _ _ _ rfl)).after (.of_blank (by apply enterError_blank <;> rfl))
  exact (latchKept_ite (fun _ => latchKept_bruRefuse _ _ _) (fun _ => .refl _)).after (herror _ _)

theorem latchKept_vddReset (s : State) : LatchKept s s.vddReset := by
  have hpwr := pwr_vddReset s
  generalize s.vddReset = u at hpwr
  exact .of_pwr_eq hpwr rfl

theorem latchKept_startLoss (s : State) (cause : Nat) (half : Bool) : LatchKept s (s.startLoss cause half) := by
  cases hflush : s.pwr.flush with
  | none =>
    obtain ⟨c, restart, hpwr⟩ := startLoss_of_no_flush hflush cause half
    generalize s.startLoss cause half = u at hpwr
    exact .of_pwr_eq hpwr rfl
  | some c =>
    rw [startLoss_of_flush hflush]
    exact ⟨rfl, rfl, rfl, id⟩

theorem latchKept_targetWrite (s : State) (region mv : Nat) : LatchKept s (s.targetWrite region mv) := ⟨rfl, rfl, rfl, id⟩

theorem latchKept_stuck (s : State) (pressed : Bool) : LatchKept s (s.stuck pressed) := by
  have hpwr := (stuck_shows s pressed).1
  generalize s.stuck pressed = u at hpwr
  exact .of_pwr_eq hpwr rfl

theorem latchKept_chooseStore (s : State) (bankOk aOk bOk : Bool) : LatchKept s (s.chooseStore bankOk aOk bOk) := by
  have hload : ∀ (i : KeyImage) (n : Nat), LatchKept s (s.loadImage i n) := fun i n => .of_blank (by apply loadImage_blank <;> rfl)
  unfold State.chooseStore
  extract_lets v a b
  clear_value a b
  split
  · exact latchKept_ite (fun _ => hload _ _) (fun _ => latchKept_vaultFault s _ _)
  · split
    · exact latchKept_ite (fun _ => hload _ _) (fun _ => hload _ _)
    · exact hload _ _
    · exact hload _ _
    · exact latchKept_ite (fun _ => hload _ _) (fun _ => latchKept_vaultFault s _ _)

end Sys2Proof.Machine
end

section
/-! SUPPORT. O11: every command but the loss of the banked supply leaves the sealed latch set. -/
namespace Sys2Proof.Machine
open Sys2Proof

/-- An outcome whose next state has the latch set, where it was set and no power cycle of R214 stood recorded. -/
def Latches (s : State) (o : Host.Outcome State Fault Refusal) : Prop := s.latched → ∀ t, o = .next t → t.pwr.sealedLatch = true

theorem latches_of_latched {s t : State} (h : s.latched → t.latched) : Latches s (.next t) := by
  rintro hs u hu
  cases hu
  exact (h hs).1

theorem latches_of_kept {s t : State} (h : LatchKept s t) : Latches s (.next t) := latches_of_latched (fun hs => latched_of_kept hs h)

theorem latches_ite {c : Prop} [Decidable c] {s : State} {a b : Host.Outcome State Fault Refusal} (ha : c → Latches s a) (hb : ¬ c → Latches s b) :
    Latches s (if c then a else b) := by
  split
  case isTrue h => exact ha h
  case isFalse h => exact hb h

theorem latches_after {s u : State} {o : Host.Outcome State Fault Refusal} (h : LatchKept s u) (g : Latches u o) : Latches s o :=
  fun hs => g (latched_of_kept hs h)

/-! ## Requests of the host and of the management port -/

theorem latchKept_ghpDone (s : State) (ten tag addr : Nat) (wr sz64 : Bool) (st : GhpStatus) (data : Nat) :
    LatchKept s (s.ghpDone ten tag addr wr sz64 st data) := .of_blank (ghpDone_blank s ten tag addr wr sz64 st data rfl rfl)

theorem latched_ghpAccept {s go : State} (tag : Nat) (hs : s.latched) (hgo : go.latched) : (s.ghpAccept tag go).latched := by
  rw [State.ghpAccept]
  split
  · exact hs
  · split
    · exact latched_of_kept hs (.of_pwr rfl)
    · exact hgo

theorem latched_hostWriteIn {s : State} {act : State → State} (hact : s.latched → (act s).latched) (hs : s.latched) (refusedOk : Bool) (ten tag addr : Nat)
    (owner : Option Nat) (declared : Bool) : (s.hostWriteIn refusedOk ten tag addr owner declared act).latched := by
  refine latched_ghpAccept _ hs (latched_of_kept ?_ (latchKept_ghpDone _ _ _ _ _ _ _ _))
  split
  · exact hact hs
  · exact hs

theorem latches_hostWrite {s : State} {act : State → State} (hact : LatchKept s (act s)) (ten tag addr : Nat) (owner : Option Nat) (declared : Bool) :
    Latches s (.next (s.hostWrite ten tag addr owner declared act)) :=
  latches_of_latched (fun hs => latched_hostWriteIn (fun hs => latched_of_kept hs hact) hs _ _ _ _ _ _)

theorem latched_mgtRequest {s : State} {act : State → Nat × List Nat × State} (hact : s.latched → (act s).2.2.latched) (hs : s.latched) :
    (s.mgtRequest act).latched := by
  rw [State.mgtRequest]
  split
  · exact hs
  · split
    · exact latched_of_kept hs (.of_pwr rfl)
    · exact latched_of_kept (hact hs) (LatchKept.after (t := (act s).2.2.ibi 0xA0) (.of_pwr rfl) (latchKept_ibi _ _))

/-! ## Register writes (R488, R496) -/

theorem latched_globalEffect {s : State} (hs : s.latched) (off x : Nat) : (s.globalEffect off x).latched := by
  unfold State.globalEffect
  split
  · refine latched_of_kept hs (latchKept_ite (fun _ => .of_blank (by apply goWrite_blank <;> rfl)) (fun _ => .refl s))
  · refine latched_of_kept hs (latchKept_ite (fun _ => .of_blank (by apply requalifyWrite_blank <;> rfl)) (fun _ => .refl s))
  · extract_lets u v
    have hu : u.latched := latched_of_kept hs (latchKept_ite (fun _ => latchKept_offRequest s 0) (fun _ => .refl s))
    have hv : v.latched := by
      unfold v
      split
      · exact latched_onRequest hu 0
      · exact hu
    exact latched_of_kept hv (latchKept_ite (fun _ => latchKept_trayRequest v 3) (fun _ => .refl v))
  · exact latched_of_kept hs (.of_blank (by apply writePhase_blank <;> rfl))
  · exact latched_of_kept hs (latchKept_ackReaction s _)
  · exact latched_of_kept hs ((latchKept_kickQueue _).after (.of_blank (by apply flushNotices_blank <;> rfl)))
  · extract_lets op clp new
    refine latched_of_kept hs (latchKept_ite (fun _ => .of_blank (by apply xrequest_blank <;> rfl))
      (fun _ => latchKept_ite (fun _ => .of_blank (by apply xrequest_blank <;> rfl)) (fun _ => .refl s)))
  · exact hs

theorem latched_effect {s : State} (hs : s.latched) (old : State) (ten : Nat) (p : Place) (x : Nat) : (s.effect old ten p x).latched := by
  unfold State.effect
  split
  · split
    · exact latched_globalEffect hs _ _
    · exact latched_of_kept hs (.of_blank (by apply unitEffect_blank <;> rfl))
  · exact latched_of_kept hs (latchKept_ite (fun _ => .of_blank (portRestart_blank s _ rfl)) (fun _ => .refl s))
  · exact latched_of_kept hs (.of_blank (by apply channelEffect_blank <;> rfl))
  · exact hs
  · exact latched_of_kept hs (.of_blank (by apply tenantEffect_blank <;> rfl))
  · refine latched_of_kept hs (latchKept_ite (fun _ => latchKept_targetWrite s _ _) (fun _ => latchKept_ite (fun _ => ?_) (fun _ => .refl s)))
    exact .of_blank (by apply hubTraceOn_blank <;> rfl)
  · exact latched_of_kept hs (latchKept_ite (fun _ => .of_blank (fenceReq_blank s _ _ rfl rfl)) (fun _ => .refl s))

theorem latched_writePlace {s : State} (hs : s.latched) (ten : Nat) (p : Place) (sz64 : Bool) (data : Nat) : (s.writePlace ten p sz64 data).2.latched := by
  unfold State.writePlace
  extract_lets w
  split
  · exact hs
  · split
    · exact hs
    · extract_lets lo x q
      split
      · exact hs
      · refine latched_effect ?_ _ _ _ _
        split
        · exact hs
        · exact latched_of_kept hs (.of_blank (storeRow_blank s _ _ _ _ _ (fun r => by cases r <;> rfl)))

theorem latched_ghpWrite {s : State} (hs : s.latched) (a data : Nat) (sz64 : Bool) (ten tag : Nat) (parOk : Bool) :
    (s.ghpWrite a data sz64 ten tag parOk).latched := by
  unfold State.ghpWrite
  extract_lets p st q
  refine latched_ghpAccept _ hs ?_
  split
  · exact latched_of_kept hs (latchKept_ghpDone _ _ _ _ _ _ _ _)
  · split
    · exact latched_of_kept hs (.of_pwr rfl)
    · exact latched_of_kept (latched_writePlace hs _ _ _ _) (latchKept_ghpDone _ _ _ _ _ _ _ _)

/-! ## Faults, recovery and the watchdog -/

theorem latches_execFaultRegister (s : State) : Latches s (execFaultRegister s) := by
  unfold execFaultRegister
  split
  · exact latches_of_kept (.refl s)
  · rename_i m hflit
    extract_lets fseq arr u f v
    have hv : LatchKept s v := LatchKept.after (.of_pwr rfl) (t := u) (.of_blank (takeFlit_blank s m rfl rfl))
    clear_value v
    split
    rename_i w a hreact
    have hw : LatchKept v (w, a).1 := by
      rw [← hreact]
      split
      · exact LatchKept.trans (latchKept_react v _ _ _ _ _ _) (.of_pwr rfl)
      · split
        · exact latchKept_react v _ _ _ _ _ _
        · split
          · exact latchKept_react v _ _ _ _ _ _
          · exact .refl v
    extract_lets x y z z' key
    have hx : LatchKept w x := .of_blank (by apply logFault_blank <;> rfl)
    have hy : LatchKept x y := latchKept_ite (fun _ => .of_blank (by apply watchdogTie_blank <;> rfl)) (fun _ => .refl x)
    have hz : LatchKept y z := latchKept_ite (fun _ => latchKept_watchdogRegistered y m fseq) (fun _ => .refl y)
    have hz' : LatchKept z z' := latchKept_ite (fun _ => .of_blank (by apply kilnClassify_blank <;> rfl)) (fun _ => .refl z)
    exact latches_of_kept (hv.trans (hw.trans (hx.trans (hy.trans (hz.trans (hz'.trans (latchKept_ite (fun _ => .of_pwr rfl) (fun _ => .refl z'))))))))

theorem latches_execFltAck (rid ten tag : Nat) (s : State) : Latches s (execFltAck rid ten tag s) :=
  latches_hostWrite (act := fun s => (s.set Reg.FLT_ACK_RID 0 rid).ackReaction rid) ((latchKept_ackReaction _ rid).after (.of_pwr rfl)) _ _ _ _ _

theorem latches_execFltNtailWrite (tail ten tag : Nat) (s : State) : Latches s (execFltNtailWrite tail ten tag s) := by
  have hset : LatchKept s (s.set Reg.FLT_NTAIL_TAIL 0 tail) := .of_pwr rfl
  have hflush (u : State) : LatchKept u u.flushNotices := .of_blank (by apply flushNotices_blank <;> rfl)
  exact latches_hostWrite (act := fun s => (s.set Reg.FLT_NTAIL_TAIL 0 tail).flushNotices.kickQueue)
    (hset.trans ((hflush _).trans (latchKept_kickQueue _))) _ _ _ _ _

theorem latches_execL2QueueTimeout (rid : Nat) (s : State) : Latches s (execL2QueueTimeout rid s) := by
  unfold execL2QueueTimeout
  split
  · exact latches_ite (fun _ => latches_of_kept ((latchKept_runL2 _ _).after (latchKept_startL2 s _))) (fun _ => latches_of_kept (.refl s))
  · exact latches_of_kept (.refl s)

theorem latches_execCatReport (region col state q1 q2 : Nat) (isPartial : Bool) (x y : Nat) (s : State) :
    Latches s (execCatReport region col state q1 q2 isPartial x y s) :=
  latches_of_kept ((latchKept_kickQueue _).after (LatchKept.after (.of_blank (by apply reactReport_blank <;> rfl)) (.of_pwr rfl)))

theorem latches_execFltFence (region : Nat) (tile : Option Nat) (acc : Nat) (fence : Bool) (s : State) : Latches s (execFltFence region tile acc fence s) := by
  unfold execFltFence
  split
  · exact latches_of_kept (.of_blank (atProbe_blank _ _ _ _ _ _ rfl rfl rfl (fun u => fenceOrder_blank u _ _ _ rfl rfl rfl rfl rfl)))
  · extract_lets u p v
    have hu : LatchKept s u := .of_pwr rfl
    have hv : LatchKept u v := latchKept_ite (fun _ => ⟨rfl, rfl, rfl, id⟩) (fun _ => .refl u)
    exact latches_of_kept (hu.trans (hv.trans (.of_blank (sendAll_blank v _ rfl))))

theorem latches_execWdStat (region tile : Nat) (answer : Bool) (owing prog held : Nat) (gated : Bool) (s : State) :
    Latches s (execWdStat region tile answer owing prog held gated s) := by
  unfold execWdStat
  extract_lets u p l v shelf
  have hu : LatchKept s u := .of_pwr rfl
  have hv : LatchKept u v := .of_pwr rfl
  refine latches_ite (fun _ => ?_) (fun _ => latches_after hu ?_)
  · exact latches_ite (fun _ => latches_of_kept (hu.trans (hv.trans ((latchKept_parkRun _).after (.of_pwr rfl))))) (fun _ => latches_of_kept (hu.trans hv))
  · split
    · refine latches_ite (fun _ => ?_) (fun _ => latches_of_kept (.refl u))
      exact latches_ite (fun _ => latches_of_kept (.of_blank (by apply finishCheck_blank <;> rfl))) (fun _ => latches_of_kept (.of_pwr rfl))
    · exact latches_of_kept (.refl u)

theorem latches_execCaseCollectTimeout (s : State) : Latches s (execCaseCollectTimeout s) := by
  refine latches_ite (fun _ => latches_of_kept (.refl s)) (fun _ => latches_of_kept ?_)
  exact (latchKept_climbTo _ _).after ((latchKept_unitNotice _).after (.of_pwr rfl))

theorem latches_execRcvDone (region : Nat) (clear : Bool) (held case : Nat) (s : State) : Latches s (execRcvDone region clear held case s) := by
  unfold execRcvDone
  extract_lets u r v
  have hu : LatchKept s u := .of_pwr rfl
  have hv : LatchKept u v := .of_pwr rfl
  refine latches_ite (fun _ => latches_of_kept hu) (fun _ => latches_ite (fun _ => latches_of_kept (hu.trans (hv.trans ?_))) (fun _ =>
    latches_ite (fun _ => latches_of_kept (hu.trans ((latchKept_climbTo _ _).after (.of_pwr rfl)))) (fun _ => latches_of_kept hu)))
  exact latchKept_ite (fun _ => latchKept_ite (fun _ => latchKept_scopeClear v) (fun _ => latchKept_l2Done v)) (fun _ => .refl v)

theorem latches_execRcvDoneTimeout (region : Nat) (s : State) : Latches s (execRcvDoneTimeout region s) :=
  latches_ite (fun _ => latches_of_kept (.refl s)) (fun _ => latches_of_kept (latchKept_climbTo s _))

/-! ## The Vault, the Ledger and bring-up -/

theorem latches_execVaultSelftestDone (kind code : Nat) (bankOk aOk bOk : Bool) (s : State) :
    Latches s (execVaultSelftestDone kind code bankOk aOk bOk s) := by
  unfold execVaultSelftestDone
  refine latches_ite (fun _ => latches_of_kept (.refl s)) (fun _ => ?_)
  extract_lets u
  have hu : LatchKept s u := .of_pwr rfl
  refine latches_of_kept (hu.trans (latchKept_ite (fun _ => ?_) (fun _ => latchKept_vaultFault u _ _)))
  exact (latchKept_bruNext _).after (LatchKept.after (.of_blank (by apply afterTests_blank <;> rfl)) (latchKept_chooseStore u _ _ _))

theorem latches_execPeriodicTestDone (code : Nat) (s : State) : Latches s (execPeriodicTestDone code s) := by
  unfold execPeriodicTestDone
  refine latches_ite (fun _ => latches_of_kept (.refl s)) (fun _ => ?_)
  extract_lets u v
  have hu : LatchKept s u := .of_pwr rfl
  refine latches_of_kept (hu.trans (latchKept_ite (fun _ => ?_) (fun _ => latchKept_vaultFault u _ _)))
  exact LatchKept.after (.of_blank (by apply afterTests_blank <;> rfl)) (.of_pwr rfl)

theorem latches_execEntropySample (sample : Nat) (s : State) : Latches s (execEntropySample sample s) := by
  unfold execEntropySample
  refine latches_ite (fun _ => latches_of_kept (.refl s)) (fun _ => ?_)
  dsimp -zeta only
  extract_lets x startUp raw u w v again
  have hu : LatchKept s u := .of_pwr rfl
  have hw : LatchKept u w := latchKept_ite (fun _ => .of_pwr rfl) (fun _ => .refl u)
  refine latches_after (hu.trans hw) ?_
  clear_value again
  clear_value w
  split
  · exact latches_of_kept (latchKept_ite (fun _ => .of_pwr rfl) (fun _ => .refl w))
  · exact latches_ite (fun _ => latches_of_kept (latchKept_vaultFault w _ _)) (fun _ => latches_of_kept (.of_pwr rfl))

theorem latches_vaultFault (s : State) (kind code : Nat) : Latches s (.next (s.vaultFault kind code)) := latches_of_kept (latchKept_vaultFault s kind code)

theorem latches_execVaultServiceDone (pairwise : Nat) (s : State) : Latches s (execVaultServiceDone pairwise s) := by
  have hserve : ∀ (u : State) (q : VaultReq), LatchKept u (u.serveRequest q) := fun u q => .of_blank (by apply serveRequest_blank <;> rfl)
  unfold execVaultServiceDone
  refine latches_ite (fun _ => latches_of_kept (.refl s)) (fun _ => ?_)
  split
  · exact latches_of_kept (.refl s)
  · extract_lets v u
    have hu : LatchKept s u := .of_pwr rfl
    split
    · exact latches_of_kept (hu.trans (latchKept_ite (fun _ => latchKept_vaultFault u _ _) (fun _ => hserve u _)))
    · exact latches_of_kept (hu.trans (hserve u _))

theorem latches_execLedgerRecovery (sizeMib : Nat) (meets : Bool) (s : State) : Latches s (execLedgerRecovery sizeMib meets s) := by
  unfold execLedgerRecovery
  refine latches_ite (fun _ => latches_of_kept (.refl s)) (fun _ => ?_)
  extract_lets u l b v w x
  have hv : LatchKept s v := .of_pwr rfl
  have hw : LatchKept v w := .of_blank (by apply recoverLedger_blank <;> rfl)
  have hx : LatchKept w x := latchKept_ite (fun _ => latchKept_coldRestore w) (fun _ => .refl w)
  exact latches_of_kept (hv.trans (hw.trans (hx.trans (latchKept_ite (fun _ => latchKept_bruRefuse x _ _) (fun _ => latchKept_qualCheck x)))))

theorem latches_execFuseWord (addr data : Nat) (parOk : Bool) (s : State) : Latches s (execFuseWord addr data parOk s) := by
  unfold execFuseWord
  extract_lets b d b' u
  have hu : LatchKept s u := .of_pwr rfl
  refine latches_ite (fun _ => latches_of_kept (.refl s)) (fun _ => latches_ite (fun _ => latches_of_kept ?_) (fun _ =>
    latches_ite (fun _ => latches_of_kept (hu.trans ((latchKept_bruRefuse _ _ _).after (.of_pwr rfl)))) (fun _ => latches_of_kept (hu.trans ?_))))
  · exact latchKept_ite (fun _ => (latchKept_bruRefuse _ _ _).after (.of_pwr rfl)) (fun _ => .of_pwr rfl)
  · split
    · exact .of_pwr rfl
    · exact (latchKept_bruNext _).after (.of_pwr rfl)

theorem latches_execFlueTrainingDone (w h spine : Nat) (hopsOk answered : Bool) (detail : Nat) (latencies : List (HopId × Nat)) (s : State) :
    Latches s (execFlueTrainingDone w h spine hopsOk answered detail latencies s) := by
  refine latches_ite (fun _ => latches_of_kept (.refl s)) (fun _ => latches_ite (fun _ => latches_of_kept (latchKept_bruRefuse s _ _)) (fun _ => latches_of_kept ?_))
  exact (latchKept_bruNext _).after (LatchKept.after (.of_blank (setLatencies_blank _ latencies rfl)) (.of_pwr rfl))

theorem latches_execPstSum (region failures : Nat) (tiles : List Nat) (s : State) : Latches s (execPstSum region failures tiles s) := by
  unfold execPstSum
  extract_lets u new mask v known full b w x
  have hu : LatchKept s u := .of_pwr rfl
  have hv : LatchKept u v := latchKept_foldl _ (fun t e => latchKept_recordOf _ _ _ _ _ _) _ u
  have hx : LatchKept v x := .of_pwr rfl
  exact latches_of_kept (hu.trans (hv.trans (hx.trans ((latchKept_bruNext _).after (latchKept_ite (fun _ => .refl x) (fun _ => .of_pwr rfl))))))

theorem latches_execCharterGoTimeout (s : State) : Latches s (execCharterGoTimeout s) :=
  latches_of_kept (latchKept_ite (fun _ => latchKept_bruRefuse s _ _) (fun _ => .refl s))

theorem latches_execCharterVerifyDone (image : Image) (ckh : Nat) (busErr : Option (Nat × Nat × Nat)) (s : State) :
    Latches s (execCharterVerifyDone image ckh busErr s) := by
  unfold execCharterVerifyDone
  refine latches_ite (fun _ => latches_of_kept (.refl s)) (fun _ => ?_)
  split
  · exact latches_of_kept ((latchKept_bruRefuse _ _ _).after (.of_blank (by apply busError_blank <;> rfl)))
  · extract_lets b u c
    have hu : LatchKept s u := .of_pwr rfl
    refine latches_ite (fun _ => latches_of_kept (hu.trans (latchKept_bruRefuse u _ _))) (fun _ =>
      latches_ite (fun _ => latches_of_kept (hu.trans (latchKept_bruVerified u image))) (fun _ => latches_of_kept (hu.trans (latchKept_bruRefuse u _ _))))

theorem latches_execChAck (region : Nat) (valid : Bool) (sect : Nat) (s : State) : Latches s (execChAck region valid sect s) := by
  unfold execChAck
  extract_lets u l b v w
  have hu : LatchKept s u := .of_pwr rfl
  have hw : LatchKept u w := .of_pwr rfl
  refine latches_ite (fun _ => latches_of_kept hu) (fun _ => latches_ite (fun _ => latches_of_kept (hu.trans (hw.trans ?_))) (fun _ => ?_))
  · exact latchKept_ite (fun _ => latchKept_subStep w latchKept_qualify) (fun _ => .refl w)
  · split
    · exact latches_of_kept (hu.trans (LatchKept.after (.of_blank (amendVotes_blank _ rfl rfl)) (.of_pwr rfl)))
    · exact latches_of_kept hu

theorem latches_execClpQualDone (clp res errs : Nat) (s : State) : Latches s (execClpQualDone clp res errs s) := by
  unfold execClpQualDone
  extract_lets inBring again e ok u v w x b y
  refine latches_ite (fun _ => latches_of_kept (.refl s)) (fun _ => latches_of_kept ?_)
  have hv : LatchKept s v := .of_pwr rfl
  have hw : LatchKept v w := latchKept_recordOf v _ _ _ _ _
  have hx : LatchKept w x := latchKept_ite (fun _ => .refl w) (fun _ => .of_pwr rfl)
  have hy : LatchKept x y := .of_pwr rfl
  exact hv.trans (hw.trans (hx.trans (hy.trans (latchKept_ite (fun _ => latchKept_qualCheck y)
    (fun _ => latchKept_ite (fun _ => .of_blank (enablePort_blank y clp rfl)) (fun _ => .refl y))))))

/-! ## Supplies, power requests and register writes -/

theorem latches_execSupplyReading (region mv : Nat) (s : State) : Latches s (execSupplyReading region mv s) := by
  unfold execSupplyReading
  extract_lets v u tgt near p w x gone y z
  have hu : LatchKept s u := .of_pwr rfl
  have hw : LatchKept u w := latchKept_ite (fun _ => ⟨rfl, rfl, rfl, id⟩) (fun _ => .of_pwr rfl)
  have hx : LatchKept w x := .of_pwr rfl
  have hy : LatchKept x y := latchKept_ite (fun _ => .refl x) (fun _ => .of_pwr rfl)
  have hz : LatchKept y z := latchKept_foldl _ (fun t d => .of_blank (limit_blank t _ _ _ _ _ rfl rfl rfl rfl)) gone y
  exact latches_of_kept (hu.trans (hw.trans (hx.trans (hy.trans (hz.trans (.of_blank (sendAll_blank z _ rfl)))))))

theorem latches_execL3HoldExpiry (s : State) : Latches s (execL3HoldExpiry s) :=
  latches_of_kept (latchKept_ite (fun _ => latchKept_trayRequest s 1) (fun _ => .refl s))

theorem latches_execVaonLost (half : Bool) (s : State) : Latches s (execVaonLost half s) := by
  unfold execVaonLost
  refine latches_ite (fun _ => latches_of_kept (.refl s)) (fun _ => latches_ite (fun _ => latches_of_kept ⟨rfl, rfl, rfl, id⟩) (fun _ => ?_))
  extract_lets u p
  have hu : LatchKept s u := LatchKept.after (t := s.startLoss 0 half) (.of_pwr rfl) (latchKept_startLoss s 0 half)
  exact latches_of_kept (hu.trans ⟨rfl, rfl, rfl, id⟩)

theorem latches_execLossFlushDone (s : State) : Latches s (execLossFlushDone s) := by
  unfold execLossFlushDone
  split
  · exact latches_of_kept (.refl s)
  · extract_lets r l p u v
    have hu : LatchKept s u := ⟨rfl, rfl, rfl, id⟩
    have hv : LatchKept u v := .of_pwr rfl
    exact latches_of_latched (fun hs => latched_pwrTry (latched_of_kept hs (hu.trans (hv.trans (.of_pwr rfl)))))

theorem latches_execVaonReturn (s : State) : Latches s (execVaonReturn s) := by
  unfold execVaonReturn
  refine latches_ite (fun _ => latches_of_kept (.refl s)) (fun _ => ?_)
  extract_lets ms p u
  have hu : LatchKept s u := ⟨rfl, rfl, rfl, id⟩
  exact latches_of_latched (fun hs => latched_pwrTry (latched_of_kept hs (hu.trans (latchKept_bankedRecord _ _ _ _ _))))

theorem latches_execColdStart (s : State) : Latches s (execColdStart s) := by
  unfold execColdStart
  refine latches_ite (fun _ => ?_) (fun _ => latches_ite (fun _ => latches_of_kept (latchKept_coldRestore s)) (fun _ => latches_of_kept (.refl s)))
  extract_lets p u
  have hu : LatchKept s u := ⟨rfl, rfl, rfl, id⟩
  exact latches_of_latched (fun hs => latched_pwrTry (latched_of_kept hs (hu.trans (.of_pwr rfl))))

/-- The loss of VDD records itself with the tray's acknowledge, and leaves the latch for the next power-up to clear. -/
theorem latches_execVddLost (half : Bool) (s : State) : Latches s (execVddLost half s) := by
  unfold execVddLost
  extract_lets safe flushing p u
  rintro hs t ht
  have hu : u.pwr.sealedLatch = true := hs.1
  injection ht with ht
  rw [← ht]
  split
  · exact hu
  · exact (latchKept_startLoss u 1 half).latch hu

theorem latches_execVddGood (s : State) : Latches s (execVddGood s) :=
  latches_of_latched (fun hs => latched_pwrTry (s := { s with pwr := { s.pwr with vddGood := true } }) hs)

theorem latches_execHoldoverEnter (half : Bool) (s : State) : Latches s (execHoldoverEnter half s) := by
  unfold execHoldoverEnter
  refine latches_ite (fun _ => latches_of_kept (.refl s)) (fun _ => ?_)
  extract_lets lost u p v
  have hu : LatchKept s u := latchKept_ite (fun _ => latchKept_startLoss s 3 half) (fun _ => .refl s)
  have hv : LatchKept u v := ⟨rfl, rfl, rfl, id⟩
  exact latches_of_kept (hu.trans (hv.trans (LatchKept.trans (latchKept_bankedRecord v _ _ _ _) (.of_pwr rfl))))

theorem latches_execHoldoverExit (s : State) : Latches s (execHoldoverExit s) := by
  unfold execHoldoverExit
  refine latches_ite (fun _ => latches_of_kept (.refl s)) (fun _ => ?_)
  extract_lets us p u
  have hu : LatchKept s u := ⟨rfl, rfl, rfl, id⟩
  exact latches_of_latched (fun hs => latched_pwrTry (latched_of_kept hs (hu.trans (LatchKept.trans (latchKept_bankedRecord u _ _ _ _) (.of_pwr rfl)))))

/-- PORB itself is no part of what a power cycle needs. -/
theorem latched_porb {s : State} (hs : s.latched) (b : Bool) : ({ s with pwr := { s.pwr with porb := b } } : State).latched := hs

theorem latches_execPorbAssert (half : Bool) (s : State) : Latches s (execPorbAssert half s) := by
  unfold execPorbAssert
  extract_lets safe flushing p u
  refine latches_of_latched (fun hs => ?_)
  have hu : u.latched := latched_porb hs false
  exact latched_of_kept hu (latchKept_ite (fun _ => .refl u) (fun _ => latchKept_ite (fun _ => latchKept_vddReset u) (fun _ => latchKept_startLoss u 4 half)))

theorem latches_execPorbRelease (s : State) : Latches s (execPorbRelease s) :=
  latches_of_latched (fun hs => latched_pwrTry (latched_onRequest (latched_porb hs true) 4))

theorem latches_execPuIsoDone (s : State) : Latches s (execPuIsoDone s) := by
  refine latches_ite (fun _ => latches_of_kept (.refl s)) (fun _ => latches_ite (fun _ => latches_of_kept ⟨rfl, rfl, rfl, id⟩) (fun _ => latches_of_kept ?_))
  exact (latchKept_bringUpStart _).after ⟨rfl, rfl, rfl, id⟩

theorem latches_execQuiesceDone (s : State) : Latches s (execQuiesceDone s) := by
  unfold execQuiesceDone
  refine latches_ite (fun _ => latches_of_kept (.refl s)) (fun _ => ?_)
  extract_lets p u
  have hu : LatchKept s u := ⟨rfl, rfl, rfl, id⟩
  have hsweep : LatchKept u (if u.bru.state = .ready then (u.noteSweep none 0).kickSweeps else u) :=
    latchKept_ite (fun _ => (LatchKept.of_blank (by apply kickSweeps_blank <;> rfl)).after (.of_blank (noteSweep_blank u none 0 rfl))) (fun _ => .refl u)
  exact latches_of_kept (hu.trans (hsweep.trans (.of_blank (by apply flushLedger_blank <;> rfl))))

theorem latches_execFlushCommit (timeLimit : Bool) (s : State) : Latches s (execFlushCommit timeLimit s) := by
  unfold execFlushCommit
  refine latches_ite (fun _ => latches_of_kept (.refl s)) (fun _ => ?_)
  extract_lets late p u v
  have hu : LatchKept s u := ⟨rfl, rfl, rfl, id⟩
  have hv : LatchKept u v := latchKept_bankedRecord u _ _ _ _
  exact latches_of_kept (hu.trans (hv.trans ((latchKept_ibi _ _).after (latchKept_ite (fun _ => .of_pwr rfl) (fun _ => .refl v)))))

theorem latches_execStopDone (s : State) : Latches s (execStopDone s) := by
  unfold execStopDone
  refine latches_ite (fun _ => latches_of_kept (.refl s)) (fun _ => ?_)
  extract_lets u l p
  have hu : LatchKept s u := latchKept_vddReset s
  exact latches_of_latched (fun hs => latched_pwrTry (latched_of_kept (latched_of_kept hs hu) ⟨rfl, rfl, rfl, id⟩))

theorem latches_execPwrOn (ten tag : Nat) (s : State) : Latches s (execPwrOn ten tag s) :=
  latches_of_latched (fun hs => latched_hostWriteIn (fun hs => latched_onRequest hs 0) hs _ _ _ _ _ _)

theorem latches_execTrayAck (s : State) : Latches s (execTrayAck s) := by
  unfold execTrayAck
  refine latches_ite (fun _ => latches_of_kept (.refl s)) (fun _ => ?_)
  extract_lets p u v
  refine latches_of_latched (fun hs => ?_)
  have hu : u.latched := ⟨hs.1, rfl⟩
  have hv : LatchKept u v := latchKept_bankedRecord u _ _ _ _
  exact latched_of_kept hu (hv.trans (latchKept_ite (fun _ => .refl v) (fun _ => latchKept_offRequest v 2)))

theorem latches_execHrstb (s : State) : Latches s (execHrstb s) := by
  unfold execHrstb
  extract_lets p u
  have hu : LatchKept s u := ⟨rfl, rfl, rfl, id⟩
  exact latches_of_kept (hu.trans (latchKept_ite (fun _ => .of_blank (by apply hostReset_blank <;> rfl)) (fun _ => .refl u)))

theorem latches_execHrstbRelease (low : Nat) (s : State) : Latches s (execHrstbRelease low s) :=
  latches_of_kept (latchKept_ite (fun _ => (latchKept_bankedRecord _ _ _ _ _).after ⟨rfl, rfl, rfl, id⟩) (fun _ => .refl s))

theorem latches_execBtnRelease (ms : Nat) (s : State) : Latches s (execBtnRelease ms s) := by
  unfold execBtnRelease
  refine latches_ite (fun _ => latches_of_kept (.refl s)) (fun _ => latches_ite (fun _ => latches_of_kept (latchKept_stuck s false)) (fun _ => ?_))
  extract_lets p u v r
  have hu : LatchKept s u := ⟨rfl, rfl, rfl, id⟩
  have hlog : ∀ n : Nat, LatchKept u (u.bankedRecord 0x1202 ms n 0) := fun n => latchKept_bankedRecord u _ _ _ _
  have hreset (x : State) : LatchKept x x.hostReset := .of_blank (by apply hostReset_blank <;> rfl)
  have hv : LatchKept u v := (hlog 0).trans (hreset _)
  clear_value v
  refine latches_after hu (latches_ite (fun _ => latches_of_kept ((latchKept_trayRequest _ 0).after (hlog 2))) (fun _ => latches_ite (fun _ => ?_) (fun _ =>
    latches_ite (fun _ => ?_) (fun _ => latches_of_kept (hlog 3)))))
  · exact latches_ite (fun _ => latches_of_kept (hlog 3)) (fun _ => latches_of_kept (hv.trans (.of_pwr rfl)))
  · exact latches_of_latched (fun hs => latched_onRequest (latched_of_kept hs (hlog 1)) 3)

theorem latches_execBtnStuck (s : State) : Latches s (execBtnStuck s) :=
  latches_ite (fun _ => latches_of_kept (.refl s)) (fun _ => latches_of_kept (latchKept_stuck s true))

theorem latches_execBtnStuckClear (s : State) : Latches s (execBtnStuckClear s) :=
  latches_of_kept (latchKept_ite (fun _ => ⟨rfl, rfl, rfl, id⟩) (fun _ => .refl s))

theorem latches_execRgWrite (region : Nat) (tile : Option Nat) (off : Nat) (sz64 : Bool) (data ten tag : Nat) (s : State) :
    Latches s (execRgWrite region tile off sz64 data ten tag s) := by
  unfold execRgWrite
  extract_lets p ten' tag' data' u
  have hu : LatchKept s u := .of_pwr rfl
  refine latches_after hu (latches_ite (fun _ => latches_of_kept (.refl u)) (fun _ => latches_of_latched (fun hs => ?_)))
  exact latched_of_kept (latched_writePlace hs ten' p sz64 data') (.of_pwr rfl)

theorem latches_execPower (on : Bool) (s : State) : Latches s (execPower on s) := by
  refine latches_of_latched (fun hs => latched_mgtRequest (fun hs => ?_) hs)
  cases on
  · exact latched_of_kept hs (latchKept_offRequest s 1)
  · exact latched_onRequest hs 1

theorem latches_execWakeWrite (s : State) : Latches s (execWakeWrite s) :=
  latches_ite (fun _ => latches_of_kept (.refl s)) (fun _ => latches_of_latched (fun hs => latched_onRequest (s := (s.raise Reg.MGT_EVENT_WAKE 0).emit (.i3c true [])) hs 1))

/-- Settles O11: the commands that may change the power state one by one, and the others by their frame. -/
theorem sealedLatchHolds : Obligations.SealedLatchHolds := by
  unfold Obligations.SealedLatchHolds
  intro c s t hexec hbank hlatch hcycle
  have hlatches : Latches s (exec c s) := by
    by_cases hpwr : (mayChange c).pwr = true
    case neg =>
      intro hs t ht
      rw [pwr_of_blank (exec_keeps c s t ht) (by simpa using hpwr)]
      exact hs.1
    case pos =>
      cases c
      case catReport => exact latches_execCatReport _ _ _ _ _ _ _ _ s
      case faultRegister => exact latches_execFaultRegister s
      case fltFence => exact latches_execFltFence _ _ _ _ s
      case fltAck => exact latches_execFltAck _ _ _ s
      case fltNtailWrite => exact latches_execFltNtailWrite _ _ _ s
      case l2QueueTimeout => exact latches_execL2QueueTimeout _ s
      case l3HoldExpiry => exact latches_execL3HoldExpiry s
      case wdStat => exact latches_execWdStat _ _ _ _ _ _ _ s
      case caseCollectTimeout => exact latches_execCaseCollectTimeout s
      case rcvDone => exact latches_execRcvDone _ _ _ _ s
      case rcvDoneTimeout => exact latches_execRcvDoneTimeout _ s
      case supplyReading => exact latches_execSupplyReading _ _ s
      case vaultSelftestDone => exact latches_execVaultSelftestDone _ _ _ _ _ s
      case entropySample => exact latches_execEntropySample _ s
      case glitchDetect | scanModeEnable | keyStorePartitionAccess => exact latches_vaultFault s _ _
      case vaultServiceDone => exact latches_execVaultServiceDone _ s
      case ledgerRecovery => exact latches_execLedgerRecovery _ _ s
      case fuseWord => exact latches_execFuseWord _ _ _ s
      case flueTrainingDone => exact latches_execFlueTrainingDone _ _ _ _ _ _ _ s
      case pstSum => exact latches_execPstSum _ _ _ s
      case charterGoTimeout => exact latches_execCharterGoTimeout s
      case charterVerifyDone => exact latches_execCharterVerifyDone _ _ _ s
      case chAck => exact latches_execChAck _ _ _ s
      case clpQualDone => exact latches_execClpQualDone _ _ _ s
      case vaonLost => exact latches_execVaonLost _ s
      case lossFlushDone => exact latches_execLossFlushDone s
      case vaonReturn => exact latches_execVaonReturn s
      case vbkLost => exact absurd rfl hbank
      case coldStart => exact latches_execColdStart s
      case vddLost => exact latches_execVddLost _ s
      case vddGood => exact latches_execVddGood s
      case holdoverEnter => exact latches_execHoldoverEnter _ s
      case holdoverExit => exact latches_execHoldoverExit s
      case porbAssert => exact latches_execPorbAssert _ s
      case porbRelease => exact latches_execPorbRelease s
      case puIsoDone => exact latches_execPuIsoDone s
      case quiesceDone => exact latches_execQuiesceDone s
      case flushCommit => exact latches_execFlushCommit _ s
      case stopDone => exact latches_execStopDone s
      case pwrOff => exact latches_hostWrite (latchKept_offRequest s 0) _ _ _ _ _
      case pwrOn => exact latches_execPwrOn _ _ s
      case pwrPcreq => exact latches_hostWrite (latchKept_trayRequest s 3) _ _ _ _ _
      case voltageTarget => exact latches_hostWrite (latchKept_targetWrite s _ _) _ _ _ _ _
      case hrstb => exact latches_execHrstb s
      case btnRelease => exact latches_execBtnRelease _ s
      case btnStuck => exact latches_execBtnStuck s
      case trayAck => exact latches_execTrayAck s
      case rgWrite => exact latches_execRgWrite _ _ _ _ _ _ _ s
      case registerWrite => exact latches_of_latched (fun hs => latched_ghpWrite hs _ _ _ _ _ _)
      case power => exact latches_execPower _ s
      case wakeWrite => exact latches_execWakeWrite s
      case periodicTestDone => exact latches_execPeriodicTestDone _ s
      case btnStuckClear => exact latches_execBtnStuckClear s
      case hrstbRelease => exact latches_execHrstbRelease _ s
      all_goals cases hpwr
  exact hlatches ⟨hlatch, hcycle⟩ t hexec

end Sys2Proof.Machine
end

section
/-! SUPPORT. O12: what epochs, the Tally and the Vault's own work leave of the state of a Vault in ERROR (R345, R362). -/
namespace Sys2Proof.Machine
open Sys2Proof

/-! ## States that agree on ERROR -/

/-- A Vault in ERROR before is in ERROR after. -/
def ErrorKept (s t : State) : Prop := s.vault.st = .error → t.vault.st = .error

theorem ErrorKept.refl (s : State) : ErrorKept s s := id

theorem ErrorKept.trans {s t u : State} (h : ErrorKept s t) (g : ErrorKept t u) : ErrorKept s u := fun hs => g (h hs)

/-- The same composition with the last step first, which fixes the state between the two. -/
theorem ErrorKept.after {s t u : State} (g : ErrorKept t u) (h : ErrorKept s t) : ErrorKept s u := h.trans g

theorem ErrorKept.of_st {s t : State} (h : t.vault.st = s.vault.st) : ErrorKept s t := h.trans

/-- Every part but the Vault. -/
def Fields.allButVault : Fields := { Fields.all with vault := false }

/-- What a law says changes no part of the Vault leaves ERROR. -/
theorem ErrorKept.of_blank {s t : State} (h : t.blank .allButVault = s.blank .allButVault) : ErrorKept s t := .of_st (congrArg Vault.st (vault_of_blank h rfl))

theorem errorKept_foldl {α : Type} (f : State → α → State) (h : ∀ s a, ErrorKept s (f s a)) (l : List α) (s : State) : ErrorKept s (l.foldl f s) := by
  induction l generalizing s with
  | nil => exact .refl s
  | cons a l ih => exact (h s a).trans (ih _)

theorem errorKept_ite {c : Prop} [Decidable c] {s a b : State} (ha : c → ErrorKept s a) (hb : ¬ c → ErrorKept s b) : ErrorKept s (if c then a else b) := by
  split
  case isTrue h => exact ha h
  case isFalse h => exact hb h

/-- The state that an operation answers next to a value. -/
theorem ErrorKept.of_pair {α : Type} {s u : State} {p : α × State} {a : α} (h : ErrorKept s p.2) (hp : p = (a, u)) : ErrorKept s u := by
  subst hp
  exact h

theorem errorKept_set (s : State) (f : RegField) (i v : Nat) : ErrorKept s (s.set f i v) := .of_st rfl

theorem errorKept_raise (s : State) (f : RegField) (i : Nat) : ErrorKept s (s.raise f i) := .of_st rfl

theorem errorKept_setAll (s : State) (i : Nat) (l : List (RegField × Nat)) : ErrorKept s (s.setAll i l) := by
  obtain ⟨regs, hregs⟩ := exists_setAll_eq s i l
  rw [hregs]
  exact .refl s

theorem errorKept_event (s : State) (code : Nat) : ErrorKept s (s.event code) := .of_st rfl

theorem errorKept_send (s : State) (m : Msg) : ErrorKept s (s.send m) := .of_st rfl

/-! ## Keys, draws and requests -/

theorem errorKept_tagOf (s : State) (label : String) (h : Nat) (m : List Nat) : ErrorKept s (s.tagOf label h m).2 := by
  rw [State.tagOf]
  split <;> exact .of_st rfl

theorem errorKept_vaultAsk (s : State) (q : VaultReq) : ErrorKept s (s.vaultAsk q) := .of_st (vaultAsk_serves s q).1

theorem errorKept_writeImage (s : State) (i : KeyImage) : ErrorKept s (s.writeImage i) := .of_st rfl

theorem errorKept_rekeyTally (s : State) : ErrorKept s s.rekeyTally := by
  unfold State.rekeyTally
  dsimp -zeta only
  extract_lets keys v u
  have hpair : ErrorKept s (s.newPair (tgetD {} hTally s.vault.image.keys)).2 := .of_blank (newPair_blank s _ rfl)
  exact hpair.trans (.of_st rfl)

theorem errorKept_endRequests (s : State) : ErrorKept s s.endRequests := .of_st (endRequests_keeps s).1

theorem errorKept_enterError (s : State) (code kind : Nat) : ErrorKept s (s.enterError code kind) := by
  intro herror
  rw [State.enterError, if_pos (.inr herror)]
  exact herror

theorem errorKept_vaultCommandError (s : State) : ErrorKept s s.vaultCommandError := errorKept_enterError s 0 3

/-! ## Records and epochs (R292, R297) -/

theorem errorKept_makeRec (s : State) (t type flags nlayer e1 e2 gtOpen body n chain : Nat) (cover : Coverage) :
    ErrorKept s (s.makeRec t type flags nlayer e1 e2 gtOpen body n chain cover).2 := errorKept_tagOf s _ _ _

theorem errorKept_putRec (s : State) (t : Nat) (r : RingRec) : ErrorKept s (s.putRec t r) := .of_blank (by apply putRec_blank <;> rfl)

theorem errorKept_genesis (s : State) (t first : Nat) : ErrorKept s (s.genesis t first) := by
  unfold State.genesis
  extract_lets e job slice v h body
  split
  rename_i r u hrec
  have hu : ErrorKept s u := (errorKept_makeRec _ _ _ _ _ _ _ _ _ _ _ _).of_pair hrec
  extract_lets w v' x
  have hw : ErrorKept u w := (errorKept_putRec _ _ _).after (.of_st rfl)
  exact hu.trans (hw.trans ((errorKept_vaultAsk _ _).after (.of_st rfl)))

theorem errorKept_ensureSeed (s : State) (t : Nat) : ErrorKept s (s.ensureSeed t) := by
  rw [State.ensureSeed]
  refine errorKept_ite (fun _ => .refl s) (fun _ => ?_)
  split
  rename_i v u hseed
  have hu : ErrorKept s u := by
    refine ErrorKept.of_pair ?_ hseed
    split
    · split <;> exact .of_st rfl
    · exact .of_st rfl
  exact hu.trans (.of_st rfl)

theorem errorKept_activate (s : State) (t : Nat) : ErrorKept s (s.activate t) :=
  errorKept_ite (fun _ => .refl s) (fun _ => (errorKept_genesis _ _ _).after ((errorKept_ensureSeed _ _).after (.of_blank (noteSweep_blank s _ _ rfl))))

theorem errorKept_settingChanged (s : State) (t : Nat) : ErrorKept s (s.settingChanged t) := by
  unfold State.settingChanged
  extract_lets v
  refine errorKept_ite (fun _ => .refl s) (fun _ => ?_)
  split
  rename_i r u hrec
  have hu : ErrorKept s u := (errorKept_makeRec _ _ _ _ _ _ _ _ _ _ _ _).of_pair hrec
  exact hu.trans ((errorKept_set _ _ _ _).after ((errorKept_putRec _ t r).after (.of_st rfl)))

theorem errorKept_closeUnsealed (s : State) (t epoch : Nat) : ErrorKept s (s.closeUnsealed t epoch) := by
  unfold State.closeUnsealed
  split
  rename_i r u hrec
  have hu : ErrorKept s u := (errorKept_makeRec _ _ _ _ _ _ _ _ _ _ _ _).of_pair hrec
  exact hu.trans ((errorKept_set _ _ _ _).after ((errorKept_putRec _ t r).after (.of_st rfl)))

theorem errorKept_endClose (s : State) (t result : Nat) : ErrorKept s (s.endClose t result) := .of_blank (by apply endClose_blank <;> rfl)

theorem errorKept_openClose (s : State) (t : Nat) (c : EpClose) : ErrorKept s (s.openClose t c) := .of_blank (by apply openClose_blank <;> rfl)

theorem errorKept_epochDiscard (s : State) (t : Nat) : ErrorKept s (s.epochDiscard t) := by
  rw [State.epochDiscard]
  refine errorKept_ite (fun _ => .refl s) (fun _ => ?_)
  split
  · refine errorKept_ite (fun _ => .refl s) (fun _ => ?_)
    exact (errorKept_openClose _ _ _).after ((errorKept_endClose _ _ _).after ((errorKept_closeUnsealed _ _ _).after (.of_st rfl)))
  · exact errorKept_openClose s _ _

theorem errorKept_epochReset (s : State) (t : Nat) : ErrorKept s (s.epochReset t) := by
  unfold State.epochReset
  extract_lets e u c v w
  refine errorKept_ite (fun _ => .refl s) (fun _ => ?_)
  have hu : ErrorKept s u := errorKept_closeUnsealed s t _
  have hv : ErrorKept u v := errorKept_ite (fun _ => (errorKept_endClose _ _ _).after (.of_st rfl)) (fun _ => .refl u)
  have hrefused (x : State) : ErrorKept x (x.coloRefused t) := .of_blank (by apply coloRefused_blank <;> rfl)
  have hw : ErrorKept v w := (hrefused _).after (.of_st rfl)
  exact hu.trans (hv.trans (hw.trans (.of_st rfl)))

theorem errorKept_recordRecall (s : State) (t : Nat) (run : Nat × Nat) : ErrorKept s (s.recordRecall t run) := by
  unfold State.recordRecall
  extract_lets e l fresh hit
  split
  rename_i r u hrec
  have hu : ErrorKept s u := (errorKept_makeRec _ _ _ _ _ _ _ _ _ _ _ _).of_pair hrec
  extract_lets v w
  have hv : ErrorKept u v := errorKept_putRec u t r
  have hw : ErrorKept v w := .of_st rfl
  refine hu.trans (hv.trans (hw.trans ?_))
  clear_value w
  split
  · exact (errorKept_vaultAsk _ _).after (.of_st rfl)
  · exact .refl w

theorem errorKept_performRecall (s : State) (t : Nat) (l : List Nat) (origin rid cause : Nat) (source : Option (Nat × Binding)) :
    ErrorKept s (s.performRecall t l origin rid cause source) := by
  rw [State.performRecall]
  split
  · exact ErrorKept.after (.of_blank (by apply queueRecalls_blank <;> rfl)) (errorKept_foldl _ (fun u run => errorKept_recordRecall u t run) _ s)
  · exact .refl s

theorem errorKept_recallEpochs (s : State) (t : Nat) (l : List Nat) (origin rid cause : Nat) (source : Option (Nat × Binding)) :
    ErrorKept s (s.recallEpochs t l origin rid cause source).1 := by
  rw [State.recallEpochs]
  split
  · exact .refl s
  · extract_lets l'
    split
    · exact .refl s
    · split
      · exact .of_st rfl
      · exact errorKept_performRecall s _ _ _ _ _ _

theorem errorKept_laterRecalls (s : State) (t : Nat) : ErrorKept s (s.laterRecalls t) :=
  (errorKept_foldl _ (fun u (e : LaterRecall) => errorKept_performRecall u t e.epochs e.origin e.rid e.cause e.source) _ _).after (.of_st rfl)

/-! ## Closing an epoch (R298) -/

theorem errorKept_trySeal (s : State) (t : Nat) : ErrorKept s (s.trySeal t) := by
  unfold State.trySeal
  split
  · exact .refl s
  · refine errorKept_ite (fun _ => .of_st rfl) (fun _ => ?_)
    extract_lets h deps lw body
    split
    rename_i r u hrec
    have hu : ErrorKept s u := (errorKept_makeRec _ _ _ _ _ _ _ _ _ _ _ _).of_pair hrec
    extract_lets v w x y
    have hv : ErrorKept u v := (errorKept_event _ 11).after ((errorKept_putRec _ t r).after (.of_st rfl))
    have hw : ErrorKept v w := errorKept_setAll v t _
    have hx : ErrorKept w x := (errorKept_endClose _ t 0).after
      ((ErrorKept.of_blank (clearSuspects_blank _ t rfl rfl)).after (.of_blank (by apply queueSeals_blank <;> rfl)))
    have hy : ErrorKept x y := errorKept_ite (fun _ => .of_blank (by apply grantedPasses_blank <;> rfl)) (fun _ => .refl x)
    exact hu.trans (hv.trans (hw.trans (hx.trans (hy.trans (errorKept_laterRecalls y t)))))

theorem errorKept_tryDiscard (s : State) (t : Nat) : ErrorKept s (s.tryDiscard t) := by
  rw [State.tryDiscard]
  split
  · exact .refl s
  · exact errorKept_ite (fun _ => .of_st rfl) (fun _ => (errorKept_endClose _ _ _).after (errorKept_closeUnsealed s _ _))

theorem errorKept_retryRing (s : State) (t : Nat) : ErrorKept s (s.retryRing t) := by
  rw [State.retryRing]
  split
  · exact errorKept_ite (fun _ => errorKept_ite (fun _ => errorKept_trySeal s t) (fun _ => errorKept_tryDiscard s t)) (fun _ => .refl s)
  · exact .refl s

theorem errorKept_cutDone (s : State) (t : Nat) : ErrorKept s (s.cutDone t) := by
  unfold State.cutDone
  split
  · exact .refl s
  · extract_lets u
    have hu : ErrorKept s u := .of_st rfl
    refine hu.trans (errorKept_ite (fun _ => ?_) (fun _ => errorKept_tryDiscard u t))
    split
    rename_i v w hfresh
    have hw : ErrorKept u w := by
      refine ErrorKept.of_pair ?_ hfresh
      split <;> exact .of_st rfl
    exact hw.trans (.of_st rfl)

theorem errorKept_settleCut (s : State) (t : Nat) : ErrorKept s (s.settleCut t) := by
  rw [State.settleCut]
  split
  · exact errorKept_ite (fun _ => errorKept_cutDone s t) (fun _ => .refl s)
  · exact .refl s

theorem errorKept_failCut (s : State) (t : Nat) : ErrorKept s (s.failCut t) := by
  rw [State.failCut]
  split
  · exact errorKept_ite (fun _ => (errorKept_laterRecalls _ _).after ((errorKept_endClose _ _ _).after (errorKept_closeUnsealed s _ _))) (fun _ => .refl s)
  · exact .refl s

theorem errorKept_recTailWrite (s : State) (tenant offset : Nat) : ErrorKept s (s.recTailWrite tenant offset) :=
  (errorKept_retryRing _ _).after (ErrorKept.after (.of_blank (flushRecs_blank _ tenant _ rfl rfl)) (errorKept_set s Reg.TEN_REC_TAIL_OFFSET tenant offset))

theorem errorKept_closeOpen (s : State) (t epoch op : Nat) : ErrorKept s (s.closeOpen t epoch op) :=
  errorKept_ite (fun _ => .of_st rfl) (fun _ => (errorKept_settleCut _ _).after (errorKept_openClose s _ _))

theorem errorKept_rewind (s : State) (t epoch : Nat) (tagOk : Bool) : ErrorKept s (s.rewind t epoch tagOk) := by
  unfold State.rewind
  split
  · exact errorKept_set s _ _ _
  · refine errorKept_ite (fun _ => errorKept_set s _ _ _) (fun _ => ?_)
    split
    · exact errorKept_set s _ _ _
    · refine errorKept_ite (fun _ => errorKept_set s _ _ _) (fun _ => ?_)
      extract_lets u v
      have hunqueue : ErrorKept s ((s.unqueueSeals t epoch).takeRid).2 :=
        (ErrorKept.of_blank (takeRid_blank _ rfl)).after (.of_blank (unqueueSeals_blank s t epoch rfl))
      have hu : ErrorKept s u := by
        refine errorKept_ite (fun _ => ?_) (fun _ => .refl s)
        exact (ErrorKept.of_blank (notify_blank _ _ rfl rfl)).after ((errorKept_performRecall _ _ _ _ _ _ _).after hunqueue)
      have hv : ErrorKept u v := .of_st rfl
      exact hu.trans (hv.trans ((ErrorKept.of_blank (caughtUp_blank _ t rfl)).after (errorKept_setAll v t _)))

theorem errorKept_closeWrite {act : State → State} (hact : ∀ u, ErrorKept u (act u)) (s : State) (t epoch op : Nat) :
    ErrorKept s (s.closeWrite t epoch op act) := by
  rw [State.closeWrite]
  exact errorKept_ite (fun _ => errorKept_raise s _ _) (fun _ =>
    (errorKept_ite (fun _ => errorKept_set _ _ _ _) (fun _ => hact _)).after (errorKept_setAll s t _))

theorem errorKept_restartWrite (s : State) (tenant epoch : Nat) : ErrorKept s (s.restartWrite tenant epoch) := by
  rw [State.restartWrite]
  refine errorKept_closeWrite (fun u => ?_) s tenant epoch 3
  exact (ErrorKept.of_blank (caughtUp_blank _ tenant rfl)).after ((errorKept_set _ _ _ _).after (errorKept_genesis u tenant _))

theorem errorKept_exposeTenant (s : State) (src : Nat) (e : ExpEntry) : ErrorKept s (s.exposeTenant src e) := by
  unfold State.exposeTenant
  have hroll : ∀ (u : State) (n : Nat × Nat × Nat × Nat), ErrorKept u (u.rollbackWith src n) := fun u n => .of_blank (by apply rollbackWith_blank <;> rfl)
  extract_lets last
  split
  rename_i rid u hrid
  split
  rename_i v first hrecall
  have hu : ErrorKept s u := (ErrorKept.of_blank (takeRid_blank s rfl)).of_pair hrid
  have hv : ErrorKept u v := by
    have h := errorKept_recallEpochs u e.tenant (((s.lastSealed e.tenant).map (epochRange e.efirst ∘ min e.elast)).getD []) s.cfg.ordinal rid 0 none
    rw [hrecall] at h
    exact h
  split
  · exact hu.trans (hv.trans (hroll v _))
  · exact errorKept_ite (fun _ => hroll s _) (fun _ => .refl s)

theorem errorKept_coloSigned (s : State) (t : Nat) (isRecall : Bool) : ErrorKept s (s.coloSigned t isRecall) := by
  unfold State.coloSigned
  extract_lets e c
  clear_value c
  split
  · exact .refl s
  · extract_lets body
    split
    rename_i ec u hec
    split
    rename_i ml v hml
    split
    rename_i r w hrec
    have hu : ErrorKept s u := ErrorKept.of_pair (p := s.fresh 768) (.of_st rfl) hec
    have hv : ErrorKept u v := ErrorKept.of_pair (p := u.fresh 26472) (.of_st rfl) hml
    have hw : ErrorKept v w := (errorKept_makeRec _ _ _ _ _ _ _ _ _ _ _ _).of_pair hrec
    extract_lets x y
    have hx : ErrorKept w x := .of_st rfl
    have hrec : ∀ f : TenantEp → TenantEp, ErrorKept x ((x.modEp t f).putRec t r) := fun f => (errorKept_putRec _ t r).after (.of_st rfl)
    refine hu.trans (hv.trans (hw.trans (hx.trans (errorKept_ite (fun _ => ?_) (fun _ => errorKept_ite (fun _ => ?_) (fun _ => ?_))))))
    · exact (errorKept_event _ 12).after ((errorKept_set _ _ _ _).after (hrec _))
    · exact (errorKept_setAll _ t _).after (.of_st rfl)
    · exact (errorKept_event _ 12).after ((errorKept_setAll _ t _).after (hrec _))

/-! ## The Tally (R329–R340) -/

theorem errorKept_signNext (s : State) : ErrorKept s s.signNext := .of_st (signNext_serves s).1

theorem errorKept_closeBatch (s : State) : ErrorKept s s.closeBatch := by
  rw [State.closeBatch]
  split
  · exact .refl s
  · exact (errorKept_signNext _).after (.of_st rfl)

theorem errorKept_joinBatch (s : State) (st : Statement) : ErrorKept s (s.joinBatch st) := by
  unfold State.joinBatch
  extract_lets leaf b y u
  have hu : ErrorKept s u := .of_st rfl
  exact hu.trans (errorKept_ite (fun _ => errorKept_closeBatch u) (fun _ => .refl u))

theorem errorKept_pumpStatements (l : List Statement) (s : State) : ErrorKept s (s.pumpStatements l) := by
  induction l generalizing s with
  | nil => exact .refl s
  | cons x rest ih =>
    rw [State.pumpStatements]
    refine errorKept_ite (fun _ => (ih _).after ((errorKept_joinBatch _ x).after ?_)) (fun _ => errorKept_raise s _ _)
    exact ErrorKept.of_blank (ringWrite_blank _ _ _ _ rfl rfl)

theorem errorKept_pumpRing (s : State) : ErrorKept s s.pumpRing := by
  have hroots : ErrorKept s (s.pumpRoots s.tally.roots) := .of_blank (by apply pumpRoots_blank <;> rfl)
  exact hroots.trans (errorKept_ite (fun _ => errorKept_pumpStatements _ _) (fun _ => .refl _))

theorem errorKept_rekeyIfDue (s : State) : ErrorKept s s.rekeyIfDue := errorKept_ite (fun _ => errorKept_rekeyTally s) (fun _ => .refl s)

theorem errorKept_rootSigned (s : State) : ErrorKept s s.rootSigned := by
  rw [State.rootSigned]
  split
  · exact .refl s
  · exact (errorKept_signNext _).after ((errorKept_rekeyIfDue _).after ((errorKept_pumpRing _).after (.of_st rfl)))

theorem errorKept_sweepServed (s : State) (w : Sweep) (old new : TallyEntry) : ErrorKept s (s.sweepServed w old new) := by
  unfold State.sweepServed
  split
  · exact .refl s
  · refine errorKept_ite (fun _ => .of_st rfl) (fun _ => errorKept_ite (fun _ => ?_) (fun _ => .refl s))
    split
    · exact .refl s
    · refine errorKept_ite (fun _ => .of_blank (by apply coloRefused_blank <;> rfl)) (fun _ => (errorKept_vaultAsk _ _).after (.of_st rfl))

theorem errorKept_flipBank (s : State) : ErrorKept s s.flipBank := by
  unfold State.flipBank
  refine errorKept_ite (fun _ => .refl s) (fun _ => ?_)
  split
  · exact .refl s
  · extract_lets t old y u v w base y' x z
    have hu : ErrorKept s u := .of_st rfl
    have hv : ErrorKept u v := errorKept_foldl _ (fun u x => .of_blank (issueStatement_blank u x rfl rfl)) _ u
    have hw : ErrorKept v w := errorKept_sweepServed v _ old _
    have hx : ErrorKept w x := .of_st rfl
    have hz : ErrorKept x z := (errorKept_pumpRing _).after ((errorKept_send _ _).after (.of_blank (showSweep_blank x _ 0 rfl)))
    have hkick (u : State) : ErrorKept u u.kickSweeps := .of_blank (by apply kickSweeps_blank <;> rfl)
    exact hu.trans (hv.trans (hw.trans (hx.trans (hz.trans ((hkick _).after (errorKept_ite (fun _ => errorKept_closeBatch z) (fun _ => .refl z)))))))

theorem errorKept_tryCommit (s : State) (flip : Bool) : ErrorKept s (s.tryCommit flip) := by
  rw [State.tryCommit]
  split
  · exact .refl s
  · refine errorKept_ite (fun _ => ?_) (fun _ => .refl s)
    have hbank : ∀ w : Sweep, ErrorKept s (s.writeBank w) := fun w => .of_blank (by apply writeBank_blank <;> rfl)
    exact (errorKept_ite (fun _ => errorKept_flipBank _) (fun _ => .refl _)).after (hbank _)

theorem errorKept_anchorSweep (s : State) (e : Nat) (flip : Bool) : ErrorKept s (s.anchorSweep e flip) := by
  rw [State.anchorSweep]
  split
  · exact errorKept_ite (fun _ => (errorKept_tryCommit _ flip).after (.of_st rfl)) (fun _ => .refl s)
  · exact .refl s

theorem errorKept_tryAnchor (s : State) (e : Nat) (flip : Bool) : ErrorKept s (s.tryAnchor e flip) := by
  unfold State.tryAnchor
  split
  · exact .refl s
  · refine errorKept_ite (fun _ => .refl s) (fun _ => ?_)
    extract_lets chans aux
    split
    rename_i fs u hfactors
    have hu : ErrorKept s u := (ErrorKept.of_blank (factors_blank s _ _ rfl)).of_pair hfactors
    extract_lets auxBad m fs' mask allMask chs chs' factorOf gone y v w x z y' last
    have hv : ErrorKept u v := .of_st rfl
    have hw : ErrorKept v w := errorKept_ite (fun _ => errorKept_raise v _ _) (fun _ => .refl v)
    have hx : ErrorKept w x := errorKept_send w _
    have hz : ErrorKept x z := .of_blank (by apply kilnEnergy_blank <;> rfl)
    have hlast : ErrorKept z last := .of_st rfl
    exact hu.trans (hv.trans (hw.trans (hx.trans (hz.trans (hlast.trans (errorKept_anchorSweep last e flip))))))

theorem errorKept_tryAnchors (s : State) (flip : Bool) (l : List Nat) : ErrorKept s (s.tryAnchors flip l) :=
  errorKept_foldl _ (fun u e => errorKept_tryAnchor u e flip) l s

end Sys2Proof.Machine
end

section
/-! SUPPORT. O12: what Folios, the Concordance, reactions, recovery and a lost hub leave of ERROR. -/
namespace Sys2Proof.Machine
open Sys2Proof

/-! ## Folios that apply (R187) -/

theorem errorKept_sendAll (s : State) (l : List Msg) : ErrorKept s (s.sendAll l) := .of_blank (sendAll_blank s l rfl)

theorem errorKept_recordOf (s : State) (code src p0 p1 p2 : Nat) : ErrorKept s (s.recordOf code src p0 p1 p2) := .of_blank (recordOf_blank s code src p0 p1 p2 rfl rfl)

theorem errorKept_applyHubAct (s : State) (r : Nat) (f : HubFolio) (a : Act) : ErrorKept s (s.applyHubAct r f a) := by
  rw [State.applyHubAct]
  refine errorKept_ite (fun _ => (errorKept_activate _ _).after (errorKept_sendAll s _)) (fun _ => errorKept_ite (fun _ => errorKept_sendAll s _) (fun _ =>
    errorKept_ite (fun _ => .of_st rfl) (fun _ => errorKept_ite (fun _ => ?_) (fun _ => errorKept_ite (fun _ => ?_) (fun _ => .refl s)))))
  · have habandon (test : ReadRec → Bool) : ErrorKept s (s.abandonIf r test true) := .of_blank (by apply abandonIf_blank <;> rfl)
    exact (habandon _).trans (.of_st rfl)
  · exact errorKept_ite (fun _ => .refl s) (fun _ => .of_blank (by apply sweepHub_blank <;> rfl))

theorem errorKept_applyHub (s : State) (r : Nat) (f : HubFolio) : ErrorKept s (s.applyHub r f) := by
  unfold State.applyHub
  extract_lets old master
  split
  rename_i new chs hall
  extract_lets a b c still d e g h i j k
  have ha : ErrorKept s a := .of_blank ((modHub_blank _ _ _ rfl).trans ((countQuenches_blank _ _ _ _ rfl).trans (applyMaster_blank _ _ _ _ rfl rfl)))
  have hb : ErrorKept a b := .of_blank ((dropsAt_blank _ _ _ rfl rfl rfl rfl rfl rfl).trans (takeRoles_blank _ _ _ rfl rfl rfl rfl))
  have hc : ErrorKept b c := errorKept_foldl _ (fun u ch =>
    .of_blank ((moveVisit_blank _ _ _ _ _ rfl rfl).trans (columnChanged_blank u _ _ _ _ rfl rfl rfl rfl))) chs b
  have hd : ErrorKept c d := errorKept_foldl _ (fun u t => .of_blank (traceCat_blank u _ _ _ rfl rfl rfl rfl rfl rfl)) still c
  have he : ErrorKept d e := errorKept_foldl _ (fun u a => errorKept_applyHubAct u r f a) f.acts d
  have hg : ErrorKept e g := .of_blank ((by apply rehome_blank <;> rfl : g.blank .allButVault = (e.reapReadings r).blank .allButVault).trans
    (by apply reapReadings_blank <;> rfl))
  have hh : ErrorKept g h := .of_blank (modHub_blank g r _ rfl)
  have hi : ErrorKept h i := errorKept_ite (fun _ => .of_blank ((hubFault_blank _ _ _ _ _ _ rfl rfl).trans ((bump_blank _ _ _ _ rfl).trans (raise_blank h _ _ rfl))))
    (fun _ => .refl h)
  have hj : ErrorKept i j := errorKept_ite (fun _ => errorKept_raise i _ _) (fun _ => .refl i)
  have hk : ErrorKept j k := ErrorKept.after (.of_blank (traceFolio_blank _ _ _ _ _ _ rfl rfl rfl rfl rfl rfl)) (errorKept_send j _)
  have hlast : ErrorKept k ((k.dispatchAll r).tryVotes r) := .of_blank ((tryVotes_blank _ _ rfl rfl rfl rfl rfl rfl).trans (dispatchAll_blank _ _ rfl rfl))
  exact ha.trans (hb.trans (hc.trans (hd.trans (he.trans (hg.trans (hh.trans (hi.trans (hj.trans (hk.trans hlast)))))))))

theorem errorKept_applyFolio (s : State) (r : Nat) (f : HubFolio) : ErrorKept s (s.applyFolio r f) :=
  (errorKept_foldl _ (fun u a => .of_blank (amendHub_blank u r a rfl rfl rfl rfl rfl (fun r => by cases r <;> rfl))) _ _).after (errorKept_applyHub s r f)

theorem errorKept_amendDone (s : State) (i : Image) (number : Nat) : ErrorKept s (s.amendDone i number) := by
  unfold State.amendDone
  extract_lets e b u v w
  have hu : ErrorKept s u := .of_st rfl
  have hv : ErrorKept u v := ErrorKept.after (.of_blank (showCharter_blank _ rfl)) ((errorKept_raise _ _ _).after (errorKept_setAll u 0 _))
  have hw : ErrorKept v w := errorKept_recordOf v _ _ _ _ _
  exact hu.trans (hv.trans (hw.trans (errorKept_foldl _ (fun u (t : TenantEntry) => errorKept_settingChanged u t.tenant) _ w)))

theorem errorKept_amendApply (s : State) (number : Nat) (a : Act) : ErrorKept s (s.amendApply number a) := by
  unfold State.amendApply
  split
  · exact .refl s
  · extract_lets sect b u v
    have hu : ErrorKept s u := .of_st rfl
    have hv : ErrorKept u v := .of_blank (by apply amendKiln_blank <;> first | rfl | exact fun r => by cases r <;> rfl)
    exact hu.trans (hv.trans (errorKept_ite (fun _ => errorKept_amendDone v _ number) (fun _ => .refl v)))

theorem errorKept_applyUnitAct (s : State) (f : HubFolio) (a : Act) : ErrorKept s (s.applyUnitAct f a) := by
  rw [State.applyUnitAct]
  refine errorKept_ite (fun _ => ?_) (fun _ => errorKept_ite (fun _ => .of_st rfl) (fun _ => errorKept_ite (fun _ => errorKept_amendApply s _ _)
    (fun _ => errorKept_ite (fun _ => .of_blank (by apply linkApply_blank <;> rfl)) (fun _ => .refl s))))
  exact ErrorKept.after (.of_blank (suspectLeaves_blank _ _ rfl rfl rfl rfl rfl)) ((errorKept_epochReset _ _).after (.of_blank (by apply stackerDrop_blank <;> rfl)))

theorem errorKept_applyUnit (s : State) (who : Nat) (f : HubFolio) : ErrorKept s (s.applyUnit who f) :=
  (errorKept_send _ _).after ((errorKept_foldl _ (fun u a => errorKept_applyUnitAct u f a) _ _).after (.of_blank (notePast_blank s who _ _ rfl)))

/-! ## The Concordance (R243–R262) -/

theorem errorKept_recallDependents (s : State) (c : Nat) (b : Binding) (e origin rid cause : Nat) :
    ErrorKept s (s.recallDependents c b e origin rid cause).1 := errorKept_recallEpochs s _ _ _ _ _ _

theorem errorKept_dispute (s : State) (c cause seq job ref ev1 ev2 : Nat) (trusted : Option (Binding × Nat)) :
    ErrorKept s (s.dispute c cause seq job ref ev1 ev2 trusted) := by
  unfold State.dispute
  extract_lets u v w x y
  have hu : ErrorKept s u := .of_st rfl
  have hv : ErrorKept u v := .of_blank (by apply portLeavesUp_blank <;> rfl)
  have hw : ErrorKept v w := .of_blank (by apply presentFree_blank <;> rfl)
  have hy : ErrorKept w y := .of_st rfl
  split
  rename_i z l hrecall
  have hz : ErrorKept y z := by
    have h : ErrorKept y (z, l).1 := by
      rw [← hrecall]
      cases trusted with
      | none => exact .refl y
      | some t => exact (errorKept_recallDependents _ _ _ _ _ _ _).after (.of_blank (takeRid_blank y rfl))
    exact h
  exact hu.trans (hv.trans (hw.trans (hy.trans (hz.trans (.of_blank (clpFault_blank z _ _ _ _ rfl))))))

theorem errorKept_strikePeers (s : State) (f : FolioRec) : ErrorKept s (s.strikePeers f) := by
  refine errorKept_foldl _ (fun u c => ?_) _ s
  extract_lets l v
  have hv : ErrorKept u v := .of_st rfl
  exact hv.trans (errorKept_ite (fun _ => errorKept_dispute v _ _ _ _ _ _ _ _) (fun _ => .refl v))

theorem errorKept_window {act : State → State} (hact : ∀ u, ErrorKept u (act u)) (s : State) (c : Nat) (h : ClpHdr) (body : LinkBody) (answer : Bool) :
    ErrorKept s (s.window c h body answer act) := by
  unfold State.window
  extract_lets p d job u stored
  refine errorKept_ite (fun _ => errorKept_dispute s _ _ _ _ _ _ _ _) (fun _ => errorKept_ite (fun _ => ?_) (fun _ => errorKept_ite (fun _ => ?_)
    (fun _ => errorKept_ite (fun _ => .of_st rfl) (fun _ => errorKept_dispute s _ _ _ _ _ _ _ _))))
  · exact (hact _).after (.of_st rfl)
  · exact errorKept_ite (fun _ => .of_st rfl) (fun _ => errorKept_dispute s _ _ _ _ _ _ _ _)

theorem errorKept_linkTake {act : State → State} (hact : ∀ u, ErrorKept u (act u)) (s : State) (c : Nat) (h : ClpHdr) (body : LinkBody) (answer : Bool) :
    ErrorKept s (s.linkTake c h body answer act) := by
  unfold State.linkTake
  extract_lets p u
  have hu : ErrorKept s u := .of_blank (by apply takeAck_blank <;> rfl)
  refine errorKept_ite (fun _ => .refl s) (fun _ => ?_)
  split
  · exact .refl s
  · exact .refl s
  · exact errorKept_ite (fun _ => .refl s) (fun _ => .of_st rfl)
  · exact errorKept_ite (fun _ => .of_st rfl) (fun _ => .refl s)
  · refine errorKept_ite (fun _ => hu.trans ?_) (fun _ => errorKept_ite (fun _ => .of_st rfl) (fun _ => .refl s))
    exact errorKept_ite (fun _ => errorKept_window hact u _ _ _ _) (fun _ => hact u)

theorem errorKept_linkIn {act : State → State} (hact : ∀ u, ErrorKept u (act u)) (s : State) (c : Nat) (h : ClpHdr) (body : LinkBody) (answer : Bool) :
    ErrorKept s (s.linkIn c h body answer act) := by
  rw [State.linkIn]
  exact errorKept_ite (fun _ => errorKept_linkTake hact s _ _ _ _) (fun _ =>
    errorKept_ite (fun _ => .refl s) (fun _ => (errorKept_linkTake hact _ _ _ _ _).after (.of_st rfl)))

theorem errorKept_helloIn (s : State) (clp : Nat) (h : ClpHdr) (rel cr : Nat) (dol : Bool) : ErrorKept s (s.helloIn clp h rel cr dol) := by
  unfold State.helloIn
  extract_lets p reply u
  have hreply : ∀ v : State, ErrorKept v (reply v) := fun v => .of_blank (by apply presentFree_blank <;> rfl)
  refine errorKept_ite (fun _ => .refl s) (fun _ => ?_)
  split
  · exact .refl s
  · exact .refl s
  · exact .of_st rfl
  · refine errorKept_ite (fun _ => (errorKept_recordOf _ _ _ _ _ _).after (.of_st rfl)) (fun _ => ?_)
    have hu : ErrorKept s u := .of_st rfl
    have hup (v : State) : ErrorKept v (v.enterUp clp) := .of_blank (by apply enterUp_blank <;> rfl)
    exact hu.trans (errorKept_ite (fun _ => (hup _).after (hreply u)) (fun _ => .refl u))
  · refine errorKept_ite (fun _ => .refl s) (fun _ => errorKept_ite (fun _ => ?_) (fun _ => errorKept_ite (fun _ => hreply s)
      (fun _ => errorKept_dispute s _ _ _ _ _ _ _ _)))
    exact ErrorKept.after (.of_blank (newSession_blank _ _ rfl)) (.of_blank (by apply losePeer_blank <;> rfl))

/-! ## Reactions and recovery (R207–R233) -/

theorem errorKept_sealState (s : State) (r : Reaction) : ErrorKept s (s.sealState r) := by
  unfold State.sealState
  extract_lets f p u v w x
  have hu : ErrorKept s u := .of_st rfl
  have hv : ErrorKept u v := ErrorKept.after (.of_blank (fenceAll_blank _ _ rfl)) ((errorKept_vaultCommandError _).after (.of_blank (setReact_blank u _ rfl)))
  have hw : ErrorKept v w := errorKept_event v 5
  have hx : ErrorKept w x := .of_blank ((by apply writeNotices_blank <;> rfl : x.blank .allButVault = w.caseEndsSealed.blank .allButVault).trans
    (by apply caseEndsSealed_blank <;> rfl))
  clear_value x
  exact hu.trans (hv.trans (hw.trans (hx.trans (ErrorKept.after (.of_blank (ibi_blank _ _ rfl)) (.of_st rfl)))))

theorem errorKept_takeRung (s : State) (rung : Nat) : ErrorKept s (s.takeRung rung) := by
  unfold State.takeRung
  refine errorKept_ite (fun _ => ?_) (fun _ => ?_)
  · have hcase : ErrorKept s ({ s with rcv := { s.rcv with highest := 5 } } : State) := .of_st rfl
    have hlog (u : State) : ErrorKept u (u.logCase 4 0) := .of_blank (logCase_blank u _ _ rfl)
    have htray (u : State) : ErrorKept u u.rung5 := .of_blank (by apply rung5_blank <;> rfl)
    exact hcase.trans ((hlog _).trans (htray _))
  · extract_lets t scope r u v dropped w x
    have hv : ErrorKept s v := by
      unfold v
      split <;> exact .of_st rfl
    have hw : ErrorKept v w := errorKept_foldl _ (fun t n => errorKept_epochDiscard t n) _ v
    have hx : ErrorKept w x := errorKept_ite (fun _ => .refl w) (fun _ => .of_blank (by apply discardWaiting_blank <;> rfl))
    exact hv.trans (hw.trans (hx.trans (errorKept_sendAll x _)))

theorem errorKept_closeCase (s : State) (result guilty : Nat) (ladder : Option Nat) : ErrorKept s (s.closeCase result guilty ladder) :=
  .of_blank (by apply closeCase_blank <;> rfl)

theorem errorKept_openCase (s : State) (fseq : Nat) (rids : List Nat) (tenant region : Nat) (st : RcvState) :
    ErrorKept s (s.openCase fseq rids tenant region st) := .of_blank (by apply openCase_blank <;> rfl)

theorem errorKept_joinSets (s : State) (region : Nat) : ErrorKept s (s.joinSets region) := .of_blank (joinSets_blank s region rfl)

theorem errorKept_releaseSets (s : State) (regions : List Nat) : ErrorKept s (s.releaseSets regions) := .of_blank (by apply releaseSets_blank <;> rfl)

theorem errorKept_unitNotice (s : State) : ErrorKept s s.unitNotice := .of_blank (by apply unitNotice_blank <;> rfl)

theorem errorKept_grantedFails (s : State) (t : Nat) : ErrorKept s (s.grantedFails t) := by
  unfold State.grantedFails
  extract_lets u v
  have hu : ErrorKept s u := .of_st rfl
  refine errorKept_ite (fun _ => hu.trans (.after (errorKept_takeRung v 2) ?_)) (fun _ => hu.trans ?_)
  · refine errorKept_foldl _ (fun w n => ?_) _ u
    exact (ErrorKept.of_blank (tellSuspects_blank _ n 2 rfl)).after (.of_st rfl)
  · exact (ErrorKept.of_blank (by apply requestReset_blank <;> rfl)).after (errorKept_closeCase u _ _ _)

theorem errorKept_watchdogRegistered (s : State) (m : FaultMsg) (fseq : Nat) : ErrorKept s (s.watchdogRegistered m fseq) := by
  unfold State.watchdogRegistered
  extract_lets region mine w
  refine errorKept_ite (fun _ => .refl s) (fun _ => errorKept_ite (fun _ => ?_) (fun _ => errorKept_ite (fun _ => errorKept_joinSets s _)
    (fun _ => errorKept_ite (fun _ => ?_) (fun _ => errorKept_ite (fun _ => errorKept_releaseSets s _) (fun _ => .of_st rfl)))))
  · exact (errorKept_joinSets _ _).after (errorKept_openCase _ _ _ _ _ _)
  · exact (errorKept_grantedFails _ _).after (errorKept_releaseSets _ _)

theorem errorKept_chipCase (s : State) (fseq : Nat) : ErrorKept s (s.chipCase fseq) := by
  rw [State.chipCase]
  refine errorKept_ite (fun _ => (errorKept_takeRung _ 4).after (errorKept_openCase _ _ _ _ _ _)) (fun _ => errorKept_ite (fun _ => .refl s)
    (fun _ => errorKept_ite (fun _ => (errorKept_takeRung _ 4).after ((errorKept_unitNotice _).after (.of_st rfl))) (fun _ => errorKept_takeRung s 4)))

theorem errorKept_bruRefuse (s : State) (code detail : Nat) : ErrorKept s (s.bruRefuse code detail) := .of_blank (by apply bruRefuse_blank <;> rfl)

theorem errorKept_runL2 (l : List Nat) (s : State) : ErrorKept s (s.runL2 l) := by
  induction l generalizing s with
  | nil => exact .refl s
  | cons rid rest ih =>
    rw [State.runL2]
    refine (ih _).after (errorKept_ite (fun _ => errorKept_bruRefuse s _ _) (fun _ => ?_))
    split
    · exact errorKept_chipCase s _
    · exact .refl s

theorem errorKept_startL2 (s : State) (r : Reaction) : ErrorKept s (s.startL2 r) := .of_blank (by apply startL2_blank <;> rfl)

theorem errorKept_kickQueue (s : State) : ErrorKept s s.kickQueue :=
  (errorKept_runL2 _ _).after (.of_blank (by apply startQueued_blank <;> rfl))

theorem errorKept_l2Done (s : State) : ErrorKept s s.l2Done := .of_blank (by apply l2Done_blank <;> rfl)

theorem errorKept_chipDone (s : State) : ErrorKept s s.chipDone :=
  (errorKept_kickQueue _).after ((errorKept_closeCase _ _ _ _).after (errorKept_l2Done s))

theorem errorKept_setReact (s : State) (r : Reaction) : ErrorKept s (s.setReact r) := .of_st rfl

theorem errorKept_actNew (s : State) (level : Nat) (esc : Bool) (r : Reaction) (qfull : Bool) : ErrorKept s (s.actNew level esc r qfull).1 := by
  unfold State.actNew
  extract_lets queued
  split
  · exact errorKept_sealState s r
  · split
    · split
      · exact errorKept_sealState s _
      · split
        · exact (ErrorKept.of_blank (kilnFault_blank _ _ _ _ _ _ rfl)).after (.of_st rfl)
        · exact .of_st rfl
    · split
      · exact .of_blank (by apply startL1_blank <;> rfl)
      · exact (errorKept_runL2 _ _).after (errorKept_startL2 s r)

theorem errorKept_escalated (s : State) (met : Reaction) : ErrorKept s (s.escalated met) := .of_blank (by apply escalated_blank <;> rfl)

theorem errorKept_react (s : State) (level src kind addr fseq : Nat) (m : FaultMsg) : ErrorKept s (s.react level src kind addr fseq m).1 := by
  unfold State.react
  split
  · exact .of_blank (by apply mergeInto_blank <;> rfl)
  · extract_lets dom1 met1 u level2 met2 v level3 esc rid f w tags notes q f' x
    have hu : ErrorKept s u := by
      unfold u
      cases met1 with
      | none => exact .refl s
      | some r => exact (ErrorKept.of_blank (contain_blank _ _ _ _ rfl)).after (errorKept_escalated s _)
    have hv : ErrorKept u v := by
      unfold v
      cases met2 with
      | none => exact .refl u
      | some r => exact errorKept_escalated u r
    have hx : ErrorKept v x := .of_st rfl
    clear_value x
    split
    exact hu.trans (hv.trans (hx.trans (errorKept_actNew x _ _ _ _)))

theorem errorKept_ackReaction (s : State) (rid : Nat) : ErrorKept s (s.ackReaction rid) := by
  rw [State.ackReaction]
  split
  · exact errorKept_raise s _ _
  · refine errorKept_ite (fun _ => errorKept_raise s _ _) (fun _ => ?_)
    extract_lets u v f
    have hu : ErrorKept s u := (errorKept_kickQueue _).after (errorKept_setReact s _)
    have hv : ErrorKept u v := .of_blank (setPhase_blank u .service rfl rfl rfl)
    exact errorKept_ite (fun _ => hu.trans (hv.trans (.of_st rfl))) (fun _ => hu)

theorem errorKept_parkRun (s : State) : ErrorKept s s.parkRun := by
  rw [State.parkRun]
  refine errorKept_ite (fun _ => .refl s) (fun _ => errorKept_ite (fun _ => ?_) (fun _ => .of_st rfl))
  exact (errorKept_kickQueue _).after ((errorKept_closeCase _ _ _ _).after (errorKept_raise s _ _))

theorem errorKept_caseL2 (s : State) : ErrorKept s s.caseL2 := by
  unfold State.caseL2
  extract_lets u rid f v r
  have hu : ErrorKept s u := by
    unfold u
    split
    · exact errorKept_escalated s _
    · exact .refl s
  have hv : ErrorKept u v := .of_st rfl
  refine hu.trans (hv.trans ?_)
  clear_value v
  split
  · exact (errorKept_sealState _ _).after (errorKept_escalated v _)
  · exact errorKept_startL2 v r

theorem errorKept_climbTo (s : State) (rung : Nat) : ErrorKept s (s.climbTo rung) := by
  rw [State.climbTo]
  have hcase : ErrorKept s (if rung = 4 then s.caseL2 else s) := errorKept_ite (fun _ => errorKept_caseL2 s) (fun _ => .refl s)
  exact (errorKept_ite (fun _ => .refl _) (fun _ => errorKept_takeRung _ rung)).after hcase

theorem errorKept_scopeClear (s : State) : ErrorKept s s.scopeClear := by
  rw [State.scopeClear]
  refine errorKept_ite (fun _ => .of_blank (by apply grantNext_blank <;> rfl)) (fun _ => errorKept_ite (fun _ => errorKept_chipDone s) (fun _ => ?_))
  exact (errorKept_kickQueue _).after (errorKept_closeCase s _ _ _)

/-! ## A hub that is lost (R28) -/

theorem errorKept_loseHub (s : State) (r : Nat) : ErrorKept s (s.loseHub r) := by
  unfold State.loseHub
  refine errorKept_ite (fun _ => .refl s) (fun _ => ?_)
  extract_lets u v w
  have hu : ErrorKept s u := ErrorKept.after (.of_blank (kilnFault_blank _ _ _ _ _ _ rfl)) (ErrorKept.after (.of_blank (loseHubState_blank _ r rfl rfl rfl rfl rfl rfl)) (.of_st rfl))
  have hv : ErrorKept u v := errorKept_foldl _ (fun x n => .of_blank (by apply folioLosesHub_blank <;> rfl)) _ u
  have hw : ErrorKept v w := errorKept_foldl _ (fun x t => errorKept_failCut x t) _ v
  refine hu.trans (hv.trans (hw.trans (errorKept_ite (fun _ => ?_) (fun _ => .refl w))))
  have hkick (x : State) : ErrorKept x x.kickSweeps := .of_blank (by apply kickSweeps_blank <;> rfl)
  exact (hkick _).after (.of_blank (by apply discardSweep_blank <;> rfl))

theorem errorKept_hopDown (s : State) (h : HopId) : ErrorKept s (s.hopDown h) := by
  unfold State.hopDown
  extract_lets u v
  have hdown (x : State) (h : HopId) : ErrorKept x (x.hopDownAt h) := .of_blank (by apply hopDownAt_blank <;> rfl)
  have hu : ErrorKept s u := (hdown _ h).after (ErrorKept.after (.of_blank (traceSender_blank _ _ _ rfl rfl rfl rfl rfl rfl rfl)) (.of_st rfl))
  have hv : ErrorKept u v := by
    unfold v
    split
    · exact hdown u _
    · exact .refl u
  exact hu.trans (hv.trans (errorKept_foldl _ (fun x r => errorKept_loseHub x r) _ v))

end Sys2Proof.Machine
end

section
/-! SUPPORT. O12: what the Ledger, the Vault's own services and a register write leave of the state of a Vault in ERROR (R345, R362). -/
namespace Sys2Proof.Machine
open Sys2Proof

/-! ## The Ledger (R402, R405) -/

theorem errorKept_sealPage (s : State) (k : Nat) (early recovered flserr : Bool) : ErrorKept s (s.sealPage k early recovered flserr).2 := by
  unfold State.sealPage
  split
  · extract_lets t
    split
    rename_i m u htag
    have hu : ErrorKept s u := (errorKept_tagOf s _ _ _).of_pair htag
    exact hu.trans (.of_st rfl)
  · exact .of_st rfl

theorem errorKept_finishClose (s : State) : ErrorKept s s.finishClose := by
  rw [State.finishClose]
  split
  · exact .refl s
  · refine errorKept_ite (fun _ => .refl s) (fun _ => ?_)
    split
    rename_i t u hseal
    have hu : ErrorKept s u := (errorKept_sealPage s _ _ _ _).of_pair hseal
    exact hu.trans (.of_blank (programTrailer_blank u t rfl rfl))

theorem errorKept_askSeal (s : State) : ErrorKept s s.askSeal :=
  errorKept_ite (fun _ => .refl s) (fun _ => errorKept_ite (fun _ => errorKept_finishClose s) (fun _ =>
    errorKept_ite (fun _ => .refl s) (fun _ => errorKept_vaultAsk s _)))

theorem errorKept_closePage (s : State) (early flserr : Bool) : ErrorKept s (s.closePage early flserr) := (errorKept_askSeal _).after (.of_st rfl)

theorem errorKept_startErase (s : State) (b : Nat) (clear : Bool) : ErrorKept s (s.startErase b clear) := .of_blank (by apply startErase_blank <;> rfl)

theorem errorKept_pumpLedger (s : State) : ErrorKept s s.pumpLedger := by
  unfold State.pumpLedger
  extract_lets l
  refine errorKept_ite (fun _ => .refl s) (fun _ => ?_)
  split
  · exact (errorKept_startErase _ _ true).after (.of_st rfl)
  · refine errorKept_ite (fun _ => errorKept_closePage s _ _) (fun _ => ?_)
    split
    · exact errorKept_startErase s _ _
    · refine errorKept_ite (fun _ => .of_st rfl) (fun _ => errorKept_ite (fun _ => ?_) (fun _ => ?_))
      · exact errorKept_ite (fun _ => .of_st rfl) (fun _ => errorKept_closePage s _ _)
      · split
        · exact errorKept_startErase s _ _
        · exact .refl s

theorem errorKept_flushLedger (s : State) : ErrorKept s s.flushLedger := (errorKept_pumpLedger _).after (.of_st rfl)

theorem errorKept_closeRecovered (fuel : Nat) (s : State) : ErrorKept s (s.closeRecovered fuel).2 := by
  induction fuel generalizing s with
  | zero => exact .refl s
  | succ fuel ih =>
    unfold State.closeRecovered
    extract_lets p
    split
    · exact .refl s
    · split
      rename_i t u hseal
      have hu : ErrorKept s u := (errorKept_sealPage s _ _ _ _).of_pair hseal
      extract_lets v
      have hv : ErrorKept u v := ErrorKept.after (t := u.pageDone t) (.of_st rfl) (.of_blank (pageDone_blank u t rfl rfl))
      split
      rename_i n w hrest
      exact hu.trans (hv.trans ((ih v).of_pair hrest))

theorem errorKept_recoverLedger (s : State) : ErrorKept s s.recoverLedger := by
  unfold State.recoverLedger
  extract_lets u l v
  have hu : ErrorKept s u := errorKept_ite (fun _ => .refl s) (fun _ => .of_st rfl)
  have hv : ErrorKept u v := .of_st rfl
  split
  rename_i n w hclose
  have hw : ErrorKept v w := (errorKept_closeRecovered 3 v).of_pair hclose
  exact hu.trans (hv.trans (hw.trans ((errorKept_pumpLedger _).after ((errorKept_recordOf _ _ _ _ _ _).after (.of_st rfl)))))

theorem errorKept_sealCheck (s : State) (p : Page) (t : Trailer) : ErrorKept s (s.sealCheck p t).2 := by
  unfold State.sealCheck
  split
  · exact .refl s
  · split
    · exact .refl s
    · split
      rename_i m u htag
      have hu : ErrorKept s u := (errorKept_tagOf s _ _ _).of_pair htag
      split
      · exact hu
      · exact hu.trans (.of_st rfl)

/-! ## The Vault (R345, R357, R360, R362) -/

/-- A Vault in ERROR takes no further fault. -/
theorem errorKept_vaultFault (s : State) (kind code : Nat) : ErrorKept s (s.vaultFault kind code) := by
  intro herror
  rw [State.vaultFault, if_pos (.inr herror)]
  exact herror

theorem errorKept_draw (s : State) (w : Nat) : ErrorKept s (s.draw w).2 := .of_st rfl

theorem errorKept_issueNonce (s : State) (service : Nat) : ErrorKept s (s.issueNonce service) := by
  unfold State.issueNonce
  split
  rename_i n u hdraw
  have hu : ErrorKept s u := (errorKept_draw s 128).of_pair hdraw
  exact hu.trans ((errorKept_setAll _ 0 _).after (.of_st rfl))

/-- A Vault in ERROR answers a token with result 3 and runs nothing (R357). -/
theorem errorKept_tokenGo (s : State) (ecOk mlOk : Bool) : ErrorKept s (s.tokenGo ecOk mlOk) := by
  intro herror
  rw [State.tokenGo]
  split
  · exact herror
  · rw [herror]
    exact errorKept_setAll s 0 _ herror

theorem errorKept_startPeriodic (s : State) : ErrorKept s s.startPeriodic := by
  intro herror
  rw [State.startPeriodic, herror]
  exact herror

theorem errorKept_endRaw (s : State) : ErrorKept s s.endRaw := by
  intro herror
  rw [State.endRaw, if_neg (by simp [herror])]
  exact herror

theorem errorKept_stnowWrite (s : State) : ErrorKept s s.stnowWrite := by
  intro herror
  rw [State.stnowWrite, if_neg (by simp [herror]), if_neg (by simp [herror])]
  exact herror

theorem errorKept_nonceWrite (s : State) (service : Nat) : ErrorKept s (s.nonceWrite service) := by
  unfold State.nonceWrite
  extract_lets u
  have hu : ErrorKept s u := errorKept_set s _ _ _
  exact hu.trans (errorKept_ite (fun _ => .refl u) (fun _ => errorKept_ite (fun _ => .of_st rfl) (fun _ => errorKept_issueNonce u service)))

theorem errorKept_askOnce (s : State) (q : VaultReq) : ErrorKept s (s.askOnce q) := errorKept_ite (fun _ => .refl s) (fun _ => errorKept_vaultAsk s q)

/-- No service is given in ERROR. -/
theorem not_serves_of_error {s : State} (herror : s.vault.st = .error) : s.vaultServes = false := by
  rw [State.vaultServes, herror]
  exact Bool.and_false _

/-! ## The reset of the host (R457) -/

theorem errorKept_hostReset (s : State) : ErrorKept s s.hostReset := by
  unfold State.hostReset
  have hdrop : ∀ (r : Nat) (u : State) (t : Nat), ErrorKept u (u.dropSlots r t 0 true) := fun r u t => .of_blank (by apply dropSlots_blank <;> rfl)
  have hregion : ∀ (u : State) (r : Nat), ErrorKept u (((u.abandonIf r (fun _ => true) true).restartSegments r).dispatchAll r) := fun u r =>
    (ErrorKept.of_blank (dispatchAll_blank _ r rfl rfl)).after ((ErrorKept.of_blank (by apply restartSegments_blank <;> rfl)).after
      (.of_blank (by apply abandonIf_blank <;> rfl)))
  extract_lets u v
  have hu : ErrorKept s u := errorKept_foldl _ (fun w r => (hregion _ r).after (errorKept_foldl _ (hdrop r) _ w)) _ s
  have hv : ErrorKept u v := errorKept_foldl _ errorKept_epochDiscard _ u
  exact hu.trans (hv.trans (.of_blank (by apply stackerDropTagged_blank <;> rfl)))

/-! ## Register writes (R490, R493) -/

theorem errorKept_ghpAccept {s go : State} (tag : Nat) (hgo : ErrorKept s go) : ErrorKept s (s.ghpAccept tag go) :=
  errorKept_ite (fun _ => .refl s) (fun _ => errorKept_ite (fun _ => errorKept_raise s _ _) (fun _ => hgo))

theorem errorKept_ghpDone (s : State) (ten tag addr : Nat) (wr sz64 : Bool) (st : GhpStatus) (data : Nat) :
    ErrorKept s (s.ghpDone ten tag addr wr sz64 st data) := .of_blank (ghpDone_blank s ten tag addr wr sz64 st data rfl rfl)

theorem errorKept_hostWriteIn {s : State} {act : State → State} (hact : ErrorKept s (act s)) (refusedOk : Bool) (ten tag addr : Nat)
    (owner : Option Nat) (declared : Bool) : ErrorKept s (s.hostWriteIn refusedOk ten tag addr owner declared act) :=
  errorKept_ghpAccept _ ((errorKept_ghpDone _ _ _ _ _ _ _ _).after (errorKept_ite (fun _ => hact) (fun _ => .refl s)))

theorem errorKept_onRequest (s : State) (source : Nat) : ErrorKept s (s.onRequest source) := by
  refine .of_blank ?_
  apply onRequest_blank
  case u_all => exact fun r => by cases r <;> rfl
  all_goals rfl

theorem errorKept_globalEffect (s : State) (off x : Nat) : ErrorKept s (s.globalEffect off x) := by
  unfold State.globalEffect
  split
  · exact errorKept_ite (fun _ => .of_blank (by apply goWrite_blank <;> rfl)) (fun _ => .refl s)
  · exact errorKept_ite (fun _ => .of_blank (by apply requalifyWrite_blank <;> rfl)) (fun _ => .refl s)
  · extract_lets u v
    have hu : ErrorKept s u := errorKept_ite (fun _ => .of_blank (by apply offRequest_blank <;> rfl)) (fun _ => .refl s)
    have hv : ErrorKept u v := errorKept_ite (fun _ => errorKept_onRequest u 0) (fun _ => .refl u)
    exact hu.trans (hv.trans (errorKept_ite (fun _ => .of_blank (by apply trayRequest_blank <;> rfl)) (fun _ => .refl v)))
  · exact .of_blank (by apply writePhase_blank <;> rfl)
  · exact errorKept_ackReaction s _
  · exact (errorKept_kickQueue _).after (.of_blank (by apply flushNotices_blank <;> rfl))
  · extract_lets op clp new
    exact errorKept_ite (fun _ => .of_blank (by apply xrequest_blank <;> rfl))
      (fun _ => errorKept_ite (fun _ => .of_blank (by apply xrequest_blank <;> rfl)) (fun _ => .refl s))
  · exact .refl s

theorem errorKept_catWrite {act : State → State} (hact : ∀ u, ErrorKept u (act u)) (s : State) (op x y count tenant : Nat) :
    ErrorKept s (s.catWrite op x y count tenant act) :=
  (errorKept_ite (fun _ => errorKept_raise _ _ _) (fun _ => hact _)).after (errorKept_setAll s 0 _)

theorem errorKept_unitEffect (s : State) (off x : Nat) : ErrorKept s (s.unitEffect off x) := by
  unfold State.unitEffect
  split
  · exact errorKept_ite (fun _ => errorKept_stnowWrite s) (fun _ => .refl s)
  · exact errorKept_nonceWrite s _
  · exact errorKept_ite (fun _ => errorKept_tokenGo s _ _) (fun _ => .refl s)
  · extract_lets u
    have hkick (u : State) : ErrorKept u u.kickSys := .of_blank (kickSys_blank u rfl rfl)
    have hu : ErrorKept s u := errorKept_ite (fun _ => (hkick _).after (errorKept_set s _ _ _)) (fun _ => .of_blank (by apply stkDisable_blank <;> rfl))
    exact hu.trans (errorKept_ite (fun _ => .of_blank (by apply stkClrhalt_blank <;> rfl)) (fun _ => .refl u))
  · exact .of_st rfl
  · exact errorKept_ite (fun _ => errorKept_closeBatch s) (fun _ => .refl s)
  · exact errorKept_pumpRing s
  · exact errorKept_ite (fun _ => errorKept_flushLedger s) (fun _ => .refl s)
  · exact .of_blank (readPageWrite_blank s _ _ rfl rfl)
  · exact .of_blank (appendWrite_blank s _ rfl rfl)
  · have hpin (u : State) : ErrorKept u u.stopPin := .of_blank (by apply stopPin_blank <;> rfl)
    refine (hpin _).after (errorKept_ite (fun _ => .of_blank (by apply stopRaise_blank <;> rfl)) (fun _ => errorKept_ite (fun _ => ?_) (fun _ => .refl s)))
    exact .of_blank (by apply stopRelease_blank <;> rfl)
  · exact .of_blank (by apply pumpTrace_blank <;> rfl)
  · extract_lets u v
    have hu : ErrorKept s u := errorKept_set s _ _ _
    have hv : ErrorKept u v := errorKept_ite (fun _ => .of_blank (by apply enableDrain_blank <;> rfl)) (fun _ => errorKept_set u _ _ _)
    have hcut (w : State) (r : Nat) : ErrorKept w (w.wantCut r) := .of_blank (wantCut_blank w r rfl rfl)
    exact hu.trans (hv.trans (errorKept_ite (fun _ => errorKept_foldl _ hcut _ v) (fun _ => .refl v)))
  · exact .of_blank (by apply treqWrite_blank <;> rfl)
  · extract_lets x' y count tenant
    split
    · exact errorKept_catWrite (fun u => .of_blank (by apply assignRequest_blank <;> rfl)) s _ _ _ _ _
    · exact errorKept_catWrite (fun u => .of_blank (by apply assignRequest_blank <;> rfl)) s _ _ _ _ _
    · exact errorKept_catWrite (fun u => .of_blank (by apply restoreRequest_blank <;> rfl)) s _ _ _ _ _
    · exact errorKept_catWrite (fun u => .of_blank (by apply quenchRequest_blank <;> rfl)) s _ _ _ _ _
    · exact errorKept_ite (fun _ => errorKept_raise s _ _) (fun _ => .refl s)
  · exact .refl s

theorem errorKept_tenantEffect (s : State) (t off x : Nat) : ErrorKept s (s.tenantEffect t off x) := by
  unfold State.tenantEffect
  extract_lets e
  split
  · split
    · exact errorKept_closeWrite (fun u => errorKept_closeOpen u t e 0) s _ _ _
    · exact errorKept_closeWrite (fun u => errorKept_closeOpen u t e 1) s _ _ _
    · exact errorKept_closeWrite (fun u => errorKept_rewind u t e true) s _ _ _
    · exact errorKept_restartWrite s t e
  · exact errorKept_ite (fun _ => .of_blank (by apply coloWrite_blank <;> rfl)) (fun _ => .refl s)
  · exact errorKept_recTailWrite s t e
  · exact .of_blank (by apply statementWrite_blank <;> rfl)
  · exact .refl s

theorem errorKept_effect (s old : State) (ten : Nat) (p : Place) (x : Nat) : ErrorKept s (s.effect old ten p x) := by
  unfold State.effect
  split
  · exact errorKept_ite (fun _ => errorKept_globalEffect s _ _) (fun _ => errorKept_unitEffect s _ _)
  · exact errorKept_ite (fun _ => .of_blank (portRestart_blank s _ rfl)) (fun _ => .refl s)
  · exact .of_blank (by apply channelEffect_blank <;> rfl)
  · exact .refl s
  · exact errorKept_tenantEffect s _ _ _
  · refine errorKept_ite (fun _ => .of_blank (by apply targetWrite_blank <;> rfl)) (fun _ => errorKept_ite (fun _ => ?_) (fun _ => .refl s))
    exact .of_blank (by apply hubTraceOn_blank <;> rfl)
  · exact errorKept_ite (fun _ => .of_blank (fenceReq_blank s _ _ rfl rfl)) (fun _ => .refl s)

theorem errorKept_writePlace (s : State) (ten : Nat) (p : Place) (sz64 : Bool) (data : Nat) : ErrorKept s (s.writePlace ten p sz64 data).2 := by
  unfold State.writePlace
  extract_lets w
  split
  · exact .of_st rfl
  · split
    · exact .refl s
    · extract_lets lo x q
      split
      · exact .refl s
      · refine (errorKept_effect _ s ten q x).after (errorKept_ite (fun _ => .refl s) (fun _ => ?_))
        exact .of_blank (storeRow_blank s _ _ _ _ _ (fun r => by cases r <;> rfl))

theorem errorKept_ghpWrite (s : State) (a data : Nat) (sz64 : Bool) (ten tag : Nat) (parOk : Bool) : ErrorKept s (s.ghpWrite a data sz64 ten tag parOk) := by
  unfold State.ghpWrite
  extract_lets p st q
  refine errorKept_ghpAccept _ (errorKept_ite (fun _ => errorKept_ghpDone s _ _ _ _ _ _ _) (fun _ => errorKept_ite (fun _ => .of_st rfl) (fun _ => ?_)))
  exact (errorKept_ghpDone _ _ _ _ _ _ _ _).after (errorKept_writePlace s _ _ _ _)

end Sys2Proof.Machine
end

section
/-! SUPPORT. O12: the commands of faults, recovery, Folios, Concordance and epochs leave a Vault in ERROR there (R345, R362). -/
namespace Sys2Proof.Machine
open Sys2Proof

/-- An outcome keeps ERROR where every next state it answers does. -/
def KeepsError (s : State) (o : Host.Outcome State Fault Refusal) : Prop := s.vault.st = .error → ∀ t, o = .next t → t.vault.st = .error

theorem keepsError_of_kept {s t : State} (h : ErrorKept s t) : KeepsError s (.next t) := by
  rintro hs u hu
  cases hu
  exact h hs

theorem keepsError_ite {c : Prop} [Decidable c] {s : State} {a b : Host.Outcome State Fault Refusal} (ha : c → KeepsError s a) (hb : ¬ c → KeepsError s b) :
    KeepsError s (if c then a else b) := by
  split
  case isTrue h => exact ha h
  case isFalse h => exact hb h

theorem keepsError_after {s u : State} {o : Host.Outcome State Fault Refusal} (h : ErrorKept s u) (g : KeepsError u o) : KeepsError s o := fun hs => g (h hs)

theorem keepsError_hostWrite {s : State} {act : State → State} (hact : ErrorKept s (act s)) (ten tag addr : Nat) (owner : Option Nat) (declared : Bool) :
    KeepsError s (.next (s.hostWrite ten tag addr owner declared act)) := keepsError_of_kept (errorKept_hostWriteIn hact _ _ _ _ _ _)

/-! ## Faults, recovery and the watchdog -/

theorem keepsError_execFaultRegister (s : State) : KeepsError s (execFaultRegister s) := by
  unfold execFaultRegister
  split
  · exact keepsError_of_kept (.refl s)
  · rename_i m hflit
    extract_lets fseq arr u f v
    have hv : ErrorKept s v := ErrorKept.after (.of_st rfl) (t := u) (.of_blank (takeFlit_blank s m rfl rfl))
    clear_value v
    split
    rename_i w a hreact
    have hw : ErrorKept v (w, a).1 := by
      rw [← hreact]
      split
      · exact ErrorKept.trans (errorKept_react v _ _ _ _ _ _) (.of_st rfl)
      · split
        · exact errorKept_react v _ _ _ _ _ _
        · split
          · exact errorKept_react v _ _ _ _ _ _
          · exact .refl v
    extract_lets x y z z' key
    have hx : ErrorKept w x := .of_blank (by apply logFault_blank <;> rfl)
    have hy : ErrorKept x y := errorKept_ite (fun _ => .of_blank (by apply watchdogTie_blank <;> rfl)) (fun _ => .refl x)
    have hz : ErrorKept y z := errorKept_ite (fun _ => errorKept_watchdogRegistered y m fseq) (fun _ => .refl y)
    have hz' : ErrorKept z z' := errorKept_ite (fun _ => .of_blank (by apply kilnClassify_blank <;> rfl)) (fun _ => .refl z)
    have hlast := errorKept_ite (c := m.kind = 0x007 ∧ srcRegion key ≠ srcRegion m.src ∧ z'.flt.phase = .service)
      (fun _ => errorKept_send z' (msgFltCount (srcRegion key) m)) (fun _ => .refl z')
    exact keepsError_of_kept (hv.trans (hw.trans (hx.trans (hy.trans (hz.trans (hz'.trans hlast))))))

theorem keepsError_execFltAck (rid ten tag : Nat) (s : State) : KeepsError s (execFltAck rid ten tag s) :=
  keepsError_hostWrite (act := fun s => (s.set Reg.FLT_ACK_RID 0 rid).ackReaction rid) ((errorKept_ackReaction _ rid).after (errorKept_set s _ _ _)) _ _ _ _ _

theorem keepsError_execFltNtailWrite (tail ten tag : Nat) (s : State) : KeepsError s (execFltNtailWrite tail ten tag s) := by
  have hflush (u : State) : ErrorKept u u.flushNotices := .of_blank (by apply flushNotices_blank <;> rfl)
  exact keepsError_hostWrite (act := fun s => (s.set Reg.FLT_NTAIL_TAIL 0 tail).flushNotices.kickQueue)
    ((errorKept_kickQueue _).after ((hflush _).after (errorKept_set s _ _ _))) _ _ _ _ _

theorem keepsError_execL2QueueTimeout (rid : Nat) (s : State) : KeepsError s (execL2QueueTimeout rid s) := by
  unfold execL2QueueTimeout
  split
  · exact keepsError_ite (fun _ => keepsError_of_kept ((errorKept_runL2 _ _).after (errorKept_startL2 s _))) (fun _ => keepsError_of_kept (.refl s))
  · exact keepsError_of_kept (.refl s)

theorem errorKept_recv (s : State) (m : Msg) : ErrorKept s (s.recv m) := .of_st rfl

theorem keepsError_execCatReport (region col state q1 q2 : Nat) (isPartial : Bool) (x y : Nat) (s : State) :
    KeepsError s (execCatReport region col state q1 q2 isPartial x y s) :=
  keepsError_of_kept ((errorKept_kickQueue _).after (ErrorKept.after (.of_blank (by apply reactReport_blank <;> rfl)) (errorKept_recv s _)))

theorem keepsError_execWdStat (region tile : Nat) (answer : Bool) (owing prog held : Nat) (gated : Bool) (s : State) :
    KeepsError s (execWdStat region tile answer owing prog held gated s) := by
  unfold execWdStat
  extract_lets u p l v shelf
  have hu : ErrorKept s u := errorKept_recv s _
  have hv : ErrorKept u v := .of_st rfl
  refine keepsError_ite (fun _ => ?_) (fun _ => keepsError_after hu ?_)
  · exact keepsError_ite (fun _ => keepsError_of_kept (hu.trans (hv.trans ((errorKept_parkRun _).after (errorKept_raise _ _ _))))) (fun _ => keepsError_of_kept (hu.trans hv))
  · split
    · refine keepsError_ite (fun _ => ?_) (fun _ => keepsError_of_kept (.refl u))
      exact keepsError_ite (fun _ => keepsError_of_kept (.of_blank (by apply finishCheck_blank <;> rfl))) (fun _ => keepsError_of_kept (.of_st rfl))
    · exact keepsError_of_kept (.refl u)

theorem keepsError_execCaseCollectTimeout (s : State) : KeepsError s (execCaseCollectTimeout s) :=
  keepsError_ite (fun _ => keepsError_of_kept (.refl s)) (fun _ => keepsError_of_kept ((errorKept_climbTo _ _).after ((errorKept_unitNotice _).after (.of_st rfl))))

theorem keepsError_execRcvDone (region : Nat) (clear : Bool) (held case : Nat) (s : State) : KeepsError s (execRcvDone region clear held case s) := by
  unfold execRcvDone
  extract_lets u r v
  have hu : ErrorKept s u := errorKept_recv s _
  have hv : ErrorKept u v := .of_st rfl
  refine keepsError_ite (fun _ => keepsError_of_kept hu) (fun _ => keepsError_ite (fun _ => keepsError_of_kept (hu.trans (hv.trans ?_))) (fun _ =>
    keepsError_ite (fun _ => keepsError_of_kept (hu.trans ((errorKept_climbTo _ _).after (errorKept_raise _ _ _)))) (fun _ => keepsError_of_kept hu)))
  exact errorKept_ite (fun _ => errorKept_ite (fun _ => errorKept_scopeClear v) (fun _ => errorKept_l2Done v)) (fun _ => .refl v)

theorem keepsError_execRcvDoneTimeout (region : Nat) (s : State) : KeepsError s (execRcvDoneTimeout region s) :=
  keepsError_ite (fun _ => keepsError_of_kept (.refl s)) (fun _ => keepsError_of_kept (errorKept_climbTo s _))

/-! ## Hops of the Flue -/

theorem errorKept_modHop (s : State) (h : HopId) (f : Hop → Hop) : ErrorKept s (s.modHop h f) := .of_st rfl

theorem errorKept_traceSender (s : State) (h : HopId) (what : Nat) : ErrorKept s (s.traceSender h what) := .of_blank (by apply traceSender_blank <;> rfl)

theorem keepsError_execFlueNak (hop : HopId) (again : Bool) (s : State) : KeepsError s (execFlueNak hop again s) := by
  refine keepsError_of_kept (errorKept_ite (fun _ => .refl s) (fun _ => ?_))
  extract_lets naks spent u
  have hu : ErrorKept s u := (ErrorKept.of_blank (by apply replay_blank <;> rfl)).after ((errorKept_traceSender _ _ _).after (errorKept_modHop s _ _))
  exact hu.trans (errorKept_ite (fun _ => .refl u) (fun _ => errorKept_ite (fun _ => errorKept_hopDown u _) (fun _ =>
    (errorKept_traceSender _ _ _).after (errorKept_modHop u _ _))))

theorem keepsError_execFlueRetrainDone (hop : HopId) (ok : Bool) (latency : Nat) (s : State) : KeepsError s (execFlueRetrainDone hop ok latency s) :=
  keepsError_of_kept (errorKept_ite (fun _ => .refl s) (fun _ => errorKept_ite (fun _ => errorKept_modHop s _ _) (fun _ => errorKept_hopDown s _)))

/-! ## Folios -/

theorem errorKept_voidAnd (s : State) (n code voidsrc : Nat) : ErrorKept s (s.voidAnd n code voidsrc) := .of_blank (by apply voidAnd_blank <;> rfl)

theorem errorKept_tryDecide (s : State) (n : Nat) : ErrorKept s (s.tryDecide n) := .of_blank (by apply tryDecide_blank <;> rfl)

theorem errorKept_admitWaiting (s : State) : ErrorKept s s.admitWaiting := .of_blank (by apply admitWaiting_blank <;> rfl)

theorem keepsError_execFolioPrepare (number : Nat) (s : State) : KeepsError s (execFolioPrepare number s) := by
  unfold execFolioPrepare
  split
  · exact keepsError_of_kept (.refl s)
  · rename_i f hfolio
    refine keepsError_ite (fun _ => keepsError_of_kept (.refl s)) (fun _ => keepsError_ite (fun _ => keepsError_of_kept (errorKept_voidAnd s _ _ _)) (fun _ =>
      keepsError_ite (fun _ => keepsError_of_kept (errorKept_voidAnd s _ _ _)) (fun _ => ?_)))
    extract_lets u acts more f' v w x y
    have hu : ErrorKept s u := errorKept_foldl _ (fun w (a : Act) => errorKept_ensureSeed w a.tenant) _ s
    have hv : ErrorKept u v := .of_st rfl
    have hw : ErrorKept v w := (errorKept_admitWaiting _).after (errorKept_ite (fun _ => .of_st rfl) (fun _ => .refl v))
    have hx : ErrorKept w x := .of_blank (toParts_blank w _ _ _ rfl)
    have hy : ErrorKept x y := errorKept_ite (fun _ => .of_blank (by apply linkPrepare_blank <;> rfl)) (fun _ => .refl x)
    exact keepsError_of_kept (hu.trans (hv.trans (hw.trans (hx.trans (hy.trans (errorKept_tryDecide y number))))))

theorem keepsError_execFlPrep (who part : Nat) (last replay : Bool) (number tenant count gt : Nat) (acts : List Flit) (s : State) :
    KeepsError s (execFlPrep who part last replay number tenant count gt acts s) := by
  unfold execFlPrep
  extract_lets u f due v w x f' due' v' w'
  have hu : ErrorKept s u := .of_blank (recvFolio_blank s _ _ rfl)
  refine keepsError_after hu (keepsError_ite (fun _ => keepsError_of_kept ?_) (fun _ => keepsError_of_kept ?_))
  · have hv : ErrorKept u v := errorKept_foldl _ (fun z g => errorKept_applyFolio z who g) _ u
    have hw : ErrorKept v w := .of_st rfl
    have hx : ErrorKept w x := errorKept_ite (fun _ => .of_blank (by apply traceFolio_blank <;> rfl)) (fun _ => .refl w)
    exact hv.trans (hw.trans (hx.trans (errorKept_ite (fun _ => .of_blank (by apply hubPrepare_blank <;> rfl)) (fun _ => .refl x))))
  · have hv : ErrorKept u v' := errorKept_foldl _ (fun z g => errorKept_applyUnit z who g) _ u
    have hw : ErrorKept v' w' := .of_st rfl
    exact hv.trans (hw.trans (errorKept_ite (fun _ => .of_blank (unitPrepare_blank w' _ _ rfl rfl)) (fun _ => .refl w')))

theorem keepsError_execFolioPrepareTimeout (number : Nat) (s : State) : KeepsError s (execFolioPrepareTimeout number s) := by
  unfold execFolioPrepareTimeout
  split
  · exact keepsError_of_kept (.refl s)
  · exact keepsError_ite (fun _ => keepsError_of_kept ((errorKept_strikePeers _ _).after ((errorKept_voidAnd _ _ _ _).after (errorKept_raise s _ _))))
      (fun _ => keepsError_of_kept (.refl s))

theorem keepsError_execFolioApply (who number : Nat) (s : State) : KeepsError s (execFolioApply who number s) := by
  refine keepsError_ite (fun _ => ?_) (fun _ => ?_)
  · split
    · exact keepsError_ite (fun _ => keepsError_of_kept (errorKept_applyFolio s _ _)) (fun _ => keepsError_of_kept (.refl s))
    · exact keepsError_of_kept (.refl s)
  · split
    · exact keepsError_of_kept (errorKept_ite (fun _ => errorKept_applyUnit s _ _) (fun _ => .refl s))
    · exact keepsError_of_kept (.refl s)

/-! ## Concordance -/

theorem keepsError_linkIn {act : State → State} (hact : ∀ u, ErrorKept u (act u)) (s : State) (c : Nat) (h : ClpHdr) (body : LinkBody) (answer : Bool) :
    KeepsError s (.next (s.linkIn c h body answer act)) := keepsError_of_kept (errorKept_linkIn hact s c h body answer)

theorem errorKept_modPort (s : State) (c : Nat) (f : Port → Port) : ErrorKept s (s.modPort c f) := .of_st rfl

theorem errorKept_bump (s : State) (f : RegField) (i n : Nat) : ErrorKept s (s.bump f i n) := .of_st rfl

theorem errorKept_setPort (s : State) (c : Nat) (p : Port) : ErrorKept s (s.setPort c p) := .of_st rfl

theorem keepsError_execHello (clp : Nat) (h : ClpHdr) (rel cr : Nat) (dol : Bool) (s : State) : KeepsError s (execHello clp h rel cr dol s) :=
  keepsError_of_kept (errorKept_ite (fun _ => .refl s) (fun _ => (errorKept_helloIn _ clp h rel cr dol).after (errorKept_modPort s _ _)))

theorem keepsError_execHeartbeat (clp : Nat) (h : ClpHdr) (peerSealed : Bool) (s : State) : KeepsError s (execHeartbeat clp h peerSealed s) := by
  have hlose (u : State) : ErrorKept u (u.losePeer clp true) := .of_blank (by apply losePeer_blank <;> rfl)
  refine keepsError_linkIn (fun u => errorKept_ite (fun _ => ?_) (fun _ => errorKept_modPort u _ _)) s _ _ _ _
  exact (ErrorKept.of_blank (newSession_blank _ clp rfl)).after (hlose u)

theorem keepsError_execRetransmitTimeout (clp : Nat) (s : State) : KeepsError s (execRetransmitTimeout clp s) := by
  unfold execRetransmitTimeout
  extract_lets p u v
  refine keepsError_ite (fun _ => keepsError_of_kept (.refl s)) (fun _ => keepsError_ite (fun _ => keepsError_of_kept (errorKept_dispute s _ _ _ _ _ _ _ _)) (fun _ => ?_))
  have hu : ErrorKept s u := .of_st rfl
  have hv : ErrorKept u v := (errorKept_bump _ _ _ _).after (errorKept_raise u _ _)
  have hpresent (z : State) (w : LinkWait) : ErrorKept z (z.present clp w) := .of_blank (by apply present_blank <;> rfl)
  exact keepsError_of_kept (hu.trans (hv.trans (errorKept_foldl _ (fun z _ => hpresent z _) _ v)))

theorem keepsError_execDispute (clp : Nat) (h : ClpHdr) (cause job ref ev1 ev2 : Nat) (s : State) : KeepsError s (execDispute clp h cause job ref ev1 ev2 s) :=
  keepsError_linkIn (fun u => errorKept_dispute u _ _ _ _ _ _ _ _) s _ _ _ _

theorem errorKept_linkDrop (s : State) (c : Nat) : ErrorKept s (s.linkDrop c) := errorKept_bump s _ _ _

theorem keepsError_execSeal (clp : Nat) (h : ClpHdr) (job epoch slice digest : Nat) (s : State) : KeepsError s (execSeal clp h job epoch slice digest s) := by
  refine keepsError_linkIn (fun u => ?_) s _ _ _ _
  split
  · exact errorKept_linkDrop u clp
  · split
    · exact errorKept_ite (fun _ => errorKept_dispute u _ _ _ _ _ _ _ _) (fun _ => .refl u)
    · exact errorKept_ite (fun _ => .of_st rfl) (fun _ => errorKept_raise u _ _)

theorem keepsError_execRecall (clp : Nat) (h : ClpHdr) (job first last slice origin rid cause : Nat) (s : State) :
    KeepsError s (execRecall clp h job first last slice origin rid cause s) := by
  refine keepsError_linkIn (fun u => ?_) s _ _ _ _
  split
  · exact errorKept_linkDrop u clp
  · rename_i b hbinding
    refine errorKept_ite (fun _ => errorKept_dispute u _ _ _ _ _ _ _ _) (fun _ => errorKept_ite (fun _ => .refl u) (fun _ => ?_))
    extract_lets lk v gone w
    have hw : ErrorKept u w := .of_st rfl
    split
    rename_i x l hdeps
    have hx : ErrorKept w (x, l).1 := by
      rw [← hdeps]
      exact errorKept_recallDependents w _ _ _ _ _ _
    have hnotify (z : State) (n : Nat × Nat × Nat × Nat) : ErrorKept z (z.notify n) := .of_blank (notify_blank z n rfl rfl)
    exact hw.trans (hx.trans (errorKept_foldl _ hnotify l x))

theorem errorKept_mapBindings (s : State) (c : Nat) (f : Binding → Binding) : ErrorKept s (s.mapBindings c f) := .of_blank (mapBindings_blank s c f rfl)

theorem keepsError_execRole (clp : Nat) (h : ClpHdr) (job slice pslice : Nat) (withdraw : Bool) (s : State) :
    KeepsError s (execRole clp h job slice pslice withdraw s) := by
  refine keepsError_linkIn (fun u => errorKept_ite (fun _ => errorKept_mapBindings u _ _) (fun _ =>
    errorKept_ite (fun _ => errorKept_mapBindings u _ _) (fun _ => ?_))) s _ _ _ _
  exact errorKept_ite (fun _ => (errorKept_raise _ _ _).after (errorKept_mapBindings u _ _)) (fun _ => .refl u)

theorem keepsError_execTpair (clp : Nat) (h : ClpHdr) (phase pid t1 t2 t3 theta delta : Nat) (s : State) :
    KeepsError s (execTpair clp h phase pid t1 t2 t3 theta delta s) := by
  have hkeep (u : State) (th : Int) (de id stamp : Nat) : ErrorKept u (u.keepPair clp th de id stamp) := .of_blank (by apply keepPair_blank <;> rfl)
  have hpresent (u : State) (b : LinkBody) : ErrorKept u (u.presentFree clp b) := .of_blank (by apply presentFree_blank <;> rfl)
  refine keepsError_linkIn (fun u => ?_) s _ _ _ _
  extract_lets p v th de
  have hv : ErrorKept u v := errorKept_setPort u _ _
  refine errorKept_ite (fun _ => (hpresent _ _).after (errorKept_setPort u _ _)) (fun _ => errorKept_ite (fun _ => errorKept_ite (fun _ => ?_) (fun _ => .refl u)) (fun _ =>
    errorKept_ite (fun _ => errorKept_ite (fun _ => (hkeep _ _ _ _ _).after (errorKept_setPort u _ _)) (fun _ => errorKept_setPort u _ _)) (fun _ => .refl u)))
  exact hv.trans (errorKept_ite (fun _ => (hpresent _ _).after (hkeep v _ _ _ _)) (fun _ => .refl v))

theorem keepsError_execFprep (clp : Nat) (h : ClpHdr) (folio part : Nat) (last : Bool) (nact : Nat) (acts : List Flit) (s : State) :
    KeepsError s (execFprep clp h folio part last nact acts s) := by
  have hprepared (u : State) (l : List Act) : ErrorKept u (u.prepared clp folio nact l) := .of_blank (by apply prepared_blank <;> rfl)
  refine keepsError_linkIn (fun u => ?_) s _ _ _ _
  extract_lets p before all rest
  exact errorKept_ite (fun _ => (hprepared _ all).after (errorKept_setPort u _ _)) (fun _ => errorKept_setPort u _ _)

theorem keepsError_execFvote (clp : Nat) (h : ClpHdr) (folio code lnum : Nat) (answer : Bool) (s : State) :
    KeepsError s (execFvote clp h folio code lnum answer s) := by
  have hvoid (u : State) (n r src : Nat) : ErrorKept u (u.voidFolio n r src) := .of_blank (by apply voidFolio_blank <;> rfl)
  refine keepsError_linkIn (fun u => ?_) s _ _ _ _
  extract_lets v
  have hv : ErrorKept u v := errorKept_modPort u _ _
  clear_value v
  split
  · exact hv
  · refine hv.trans (errorKept_ite (fun _ => .refl v) (fun _ => errorKept_ite (fun _ => (errorKept_tryDecide _ _).after (.of_st rfl)) (fun _ => ?_)))
    exact (errorKept_admitWaiting _).after ((hvoid _ _ _ _).after (.of_st rfl))

theorem keepsError_execFseal (clp : Nat) (h : ClpHdr) (folio t : Nat) (replay : Bool) (s : State) : KeepsError s (execFseal clp h folio t replay s) := by
  have hdecide (u : State) (f : FolioRec) (n : Nat) : ErrorKept u (u.decide_ f n) := .of_blank (by apply decide__blank <;> rfl)
  have hreplay (u : State) (n m : Nat) : ErrorKept u (u.replaySealed clp n m) := .of_blank (by apply replaySealed_blank <;> rfl)
  refine keepsError_linkIn (fun u => ?_) s _ _ _ _
  extract_lets tl
  clear_value tl
  split
  · rename_i f hfind
    exact (hdecide _ f tl).after (errorKept_ite (fun _ => errorKept_raise u _ _) (fun _ => .refl u))
  · split
    · exact errorKept_ite (fun _ => (hreplay _ _ _).after (errorKept_modPort u _ _)) (fun _ => .refl u)
    · exact .refl u

theorem keepsError_execFvoid (clp : Nat) (h : ClpHdr) (folio reason : Nat) (s : State) : KeepsError s (execFvoid clp h folio reason s) := by
  refine keepsError_linkIn (fun u => ?_) s _ _ _ _
  split
  · exact .of_blank (by apply voidPeerFolio_blank <;> rfl)
  · exact .refl u

/-! ## Epochs -/

theorem keepsError_execEpPart (region tenant part : Nat) (last : Bool) (payload : List Flit) (s : State) :
    KeepsError s (execEpPart region tenant part last payload s) := by
  unfold execEpPart
  extract_lets u
  have hu : ErrorKept s u := errorKept_recv s _
  clear_value u
  split
  · exact keepsError_of_kept hu
  · exact keepsError_ite (fun _ => keepsError_of_kept hu) (fun _ => keepsError_of_kept (hu.trans ((errorKept_settleCut _ tenant).after (.of_st rfl))))

theorem keepsError_execEpochHashDone (tenant : Nat) (s : State) : KeepsError s (execEpochHashDone tenant s) := by
  unfold execEpochHashDone
  split
  · exact keepsError_of_kept (errorKept_ite (fun _ => errorKept_trySeal s tenant) (fun _ => .refl s))
  · exact keepsError_of_kept (.refl s)

theorem keepsError_execEpPartTimeout (tenant : Nat) (s : State) : KeepsError s (execEpPartTimeout tenant s) := by
  unfold execEpPartTimeout
  split
  · exact keepsError_of_kept (errorKept_ite (fun _ => errorKept_failCut s tenant) (fun _ => .refl s))
  · exact keepsError_of_kept (.refl s)

theorem keepsError_execRecordRingTimeout (tenant : Nat) (s : State) : KeepsError s (execRecordRingTimeout tenant s) := by
  unfold execRecordRingTimeout
  split
  · exact keepsError_of_kept (errorKept_ite (fun _ => (errorKept_laterRecalls _ tenant).after ((errorKept_endClose _ tenant 3).after (.of_st rfl))) (fun _ => .refl s))
  · exact keepsError_of_kept (.refl s)

theorem keepsError_execTenRecTailWrite (tenant offset ten tag : Nat) (s : State) : KeepsError s (execTenRecTailWrite tenant offset ten tag s) :=
  keepsError_hostWrite (act := fun s => s.recTailWrite tenant offset) (errorKept_recTailWrite s tenant offset) _ _ _ _ _

theorem keepsError_execEpochSeal (tenant epoch ten tag : Nat) (s : State) : KeepsError s (execEpochSeal tenant epoch ten tag s) :=
  keepsError_hostWrite (act := fun s => s.closeWrite tenant epoch 0 (fun s => s.closeOpen tenant epoch 0))
    (errorKept_closeWrite (fun u => errorKept_closeOpen u tenant epoch 0) s _ _ _) _ _ _ _ _

theorem keepsError_execEpochDiscard (tenant epoch ten tag : Nat) (s : State) : KeepsError s (execEpochDiscard tenant epoch ten tag s) :=
  keepsError_hostWrite (act := fun s => s.closeWrite tenant epoch 1 (fun s => s.closeOpen tenant epoch 1))
    (errorKept_closeWrite (fun u => errorKept_closeOpen u tenant epoch 1) s _ _ _) _ _ _ _ _

theorem keepsError_execEpochRewind (tenant epoch : Nat) (tagOk : Bool) (ten tag : Nat) (s : State) :
    KeepsError s (execEpochRewind tenant epoch tagOk ten tag s) :=
  keepsError_hostWrite (act := fun s => s.closeWrite tenant epoch 2 (fun s => s.rewind tenant (wrap 32 epoch) tagOk))
    (errorKept_closeWrite (fun u => errorKept_rewind u tenant _ tagOk) s _ _ _) _ _ _ _ _

theorem keepsError_execEpochRestart (tenant epoch ten tag : Nat) (s : State) : KeepsError s (execEpochRestart tenant epoch ten tag s) :=
  keepsError_hostWrite (act := fun s => s.restartWrite tenant epoch) (errorKept_restartWrite s tenant epoch) _ _ _ _ _

theorem keepsError_execExpReport (region gt0 gt1 x y cover : Nat) (ovf : Bool) (seq : Nat) (last : Bool) (cause : Nat) (entries : List Flit) (s : State) :
    KeepsError s (execExpReport region gt0 gt1 x y cover ovf seq last cause entries s) := by
  refine keepsError_after (errorKept_recv s (msgExpReport region gt0 gt1 x y cover ovf seq last cause entries)) ?_
  refine keepsError_ite (fun _ => keepsError_of_kept (.of_st rfl)) (fun _ => keepsError_of_kept ?_)
  exact (errorKept_foldl _ (fun z (e : ExpEntry) => errorKept_exposeTenant z _ e) _ _).after (.of_st rfl)

end Sys2Proof.Machine
end

section
/-! O12: a Vault in ERROR stays there through every command but those by which the VDD side goes off or comes up again (R345, R362). -/
namespace Sys2Proof.Machine
open Sys2Proof

/-! ## Energy and the Tally -/

theorem keepsError_execSenseConversion (codes : List (Nat × Nat × Nat × Nat × Nat)) (s : State) : KeepsError s (execSenseConversion codes s) := by
  unfold execSenseConversion
  extract_lets u p b
  have hu : ErrorKept s u := .of_st rfl
  clear_value u
  split
  rename_i l v hconvert
  have hv : ErrorKept u v := (ErrorKept.of_blank (by apply convertAll_blank <;> rfl)).of_pair hconvert
  extract_lets ends l' w
  have hw : ErrorKept v w := .of_st rfl
  exact keepsError_of_kept (hu.trans (hv.trans (hw.trans (errorKept_tryAnchors w true ends))))

theorem keepsError_execEnModel (region gt total mv : Nat) (s : State) : KeepsError s (execEnModel region gt total mv s) := by
  refine keepsError_after (errorKept_recv s (msgEnModel region gt total mv)) (keepsError_ite (fun _ => keepsError_of_kept (.refl _)) (fun _ => ?_))
  exact keepsError_of_kept ((errorKept_tryAnchor _ gt true).after (.of_st rfl))

theorem keepsError_execEnModelTimeout (gt : Nat) (s : State) : KeepsError s (execEnModelTimeout gt s) :=
  keepsError_ite (fun _ => keepsError_of_kept (.refl s)) (fun _ => keepsError_of_kept ((errorKept_tryAnchor _ gt true).after (.of_st rfl)))

theorem keepsError_execTlReport (region part : Nat) (last single : Bool) (sweep : Nat) (entries : List (Nat × Bool × Nat)) (flip : Bool) (s : State) :
    KeepsError s (execTlReport region part last single sweep entries flip s) := by
  unfold execTlReport
  extract_lets u
  have hu : ErrorKept s u := errorKept_recv s _
  refine keepsError_after hu ?_
  split
  · exact keepsError_of_kept (.refl u)
  · exact keepsError_ite (fun _ => keepsError_of_kept (.refl u)) (fun _ => keepsError_of_kept ((errorKept_tryCommit _ flip).after (.of_st rfl)))

theorem keepsError_execBatchTimeout (s : State) : KeepsError s (execBatchTimeout s) := keepsError_of_kept (errorKept_closeBatch s)

theorem keepsError_execBatchClose (ten tag : Nat) (s : State) : KeepsError s (execBatchClose ten tag s) :=
  keepsError_hostWrite (act := State.closeBatch) (errorKept_closeBatch s) _ _ _ _ _

theorem keepsError_execTlyRtailWrite (offset ten tag : Nat) (s : State) : KeepsError s (execTlyRtailWrite offset ten tag s) :=
  keepsError_hostWrite (act := fun s => (s.set Reg.TLY_RTAIL_OFFSET 0 offset).pumpRing) ((errorKept_pumpRing _).after (errorKept_set s _ _ _)) _ _ _ _ _

/-! ## The Ledger -/

theorem keepsError_execFoldTimeout (s : State) : KeepsError s (execFoldTimeout s) := keepsError_of_kept ((errorKept_pumpLedger _).after (.of_st rfl))

theorem errorKept_flashError (s : State) (addr : Nat) : ErrorKept s (s.flashError addr) := .of_blank (flashError_blank s addr rfl rfl)

theorem keepsError_execFlashProgramDone (ok : Bool) (s : State) : KeepsError s (execFlashProgramDone ok s) := by
  unfold execFlashProgramDone
  split
  · refine keepsError_ite (fun _ => ?_) (fun _ => keepsError_ite (fun _ => keepsError_of_kept (.of_st rfl)) (fun _ => ?_))
    · split
      · rename_i t htrailer
        have hdone : ErrorKept s (s.pageDone t) := .of_blank (pageDone_blank s t rfl rfl)
        exact keepsError_of_kept (hdone.trans ((errorKept_pumpLedger _).after (.of_st rfl)))
      · have hlost (u : State) : ErrorKept u u.lostRecord := .of_blank (lostRecord_blank u rfl)
        exact keepsError_of_kept ((errorKept_pumpLedger _).after ((hlost _).after (.of_st rfl)))
    · split
      · exact keepsError_of_kept ((errorKept_flashError s (trailerAddr s.ldg.slot)).trans ((errorKept_pumpLedger _).after (.of_st rfl)))
      · exact keepsError_of_kept ((errorKept_flashError s (slotAddr s.ldg.slot (s.ldg.pageAt s.ldg.slot).recs.length)).trans ((errorKept_closePage _ _ _).after (.of_st rfl)))
  · exact keepsError_of_kept (.refl s)

theorem keepsError_execFlashEraseDone (ok : Bool) (s : State) : KeepsError s (execFlashEraseDone ok s) := by
  unfold execFlashEraseDone
  split
  · rename_i b hop
    refine keepsError_ite (fun _ => keepsError_of_kept ((errorKept_pumpLedger _).after (.of_st rfl))) (fun _ => ?_)
    exact keepsError_of_kept ((errorKept_flashError s (slotAddr (7 * b) 0)).trans ((errorKept_pumpLedger _).after (.of_st rfl)))
  · exact keepsError_of_kept (.refl s)

theorem keepsError_execLedgerFlush (ten tag : Nat) (s : State) : KeepsError s (execLedgerFlush ten tag s) :=
  keepsError_hostWrite (act := State.flushLedger) (errorKept_flushLedger s) _ _ _ _ _

theorem keepsError_execLedgerReadDone (error : Bool) (s : State) : KeepsError s (execLedgerReadDone error s) := by
  unfold execLedgerReadDone
  split
  · exact keepsError_of_kept (.refl s)
  · rename_i found verify hreading
    extract_lets l u
    have hu : ErrorKept s u := .of_st rfl
    refine keepsError_after hu (keepsError_ite (fun _ => keepsError_of_kept (errorKept_setAll u 0 _)) (fun _ => ?_))
    split
    · exact keepsError_of_kept (errorKept_setAll u 0 _)
    · split
      · exact keepsError_of_kept (errorKept_setAll u 0 _)
      · rename_i p _ t htrailer
        split
        rename_i chk v hcheck
        have hv : ErrorKept u v := by
          refine ErrorKept.of_pair ?_ hcheck
          split
          · exact errorKept_sealCheck u p t
          · exact .refl u
        exact keepsError_of_kept (hv.trans ((errorKept_setAll _ 0 _).after (.of_st rfl)))

theorem keepsError_execLedgerRecovery (sizeMib : Nat) (meets : Bool) (s : State) : KeepsError s (execLedgerRecovery sizeMib meets s) := by
  unfold execLedgerRecovery
  refine keepsError_ite (fun _ => keepsError_of_kept (.refl s)) (fun _ => ?_)
  extract_lets u l b v w x
  have hv : ErrorKept s v := ErrorKept.after (t := u) (.of_st rfl) (errorKept_setAll s 0 _)
  have hw : ErrorKept v w := errorKept_recoverLedger v
  have hx : ErrorKept w x := errorKept_ite (fun _ => .of_blank (by apply coldRestore_blank <;> rfl)) (fun _ => .refl w)
  exact keepsError_of_kept (hv.trans (hw.trans (hx.trans (errorKept_ite (fun _ => errorKept_bruRefuse x _ _) (fun _ => .of_blank (by apply qualCheck_blank <;> rfl))))))

/-! ## The Vault: its tests, its noise source and its services -/

theorem keepsError_execVaultSelftestDone (kind code : Nat) (bankOk aOk bOk : Bool) (s : State) :
    KeepsError s (execVaultSelftestDone kind code bankOk aOk bOk s) := by
  refine keepsError_ite (fun _ => keepsError_of_kept (.refl s)) (fun hst herror => ?_)
  exact absurd (herror.symm.trans (Classical.not_not.mp hst)) (by decide)

theorem keepsError_execPeriodicTestDone (code : Nat) (s : State) : KeepsError s (execPeriodicTestDone code s) := by
  refine keepsError_ite (fun _ => keepsError_of_kept (.refl s)) (fun hst herror => ?_)
  exact absurd (herror.symm.trans (Classical.not_not.mp hst)) (by decide)

theorem keepsError_execPeriodicTestDue (s : State) : KeepsError s (execPeriodicTestDue s) := keepsError_of_kept (errorKept_startPeriodic s)

theorem keepsError_execStnow (ten tag : Nat) (s : State) : KeepsError s (execStnow ten tag s) :=
  keepsError_hostWrite (act := fun s => s.stnowWrite) (errorKept_stnowWrite s) _ _ _ _ _

theorem keepsError_execEntropySample (sample : Nat) (s : State) : KeepsError s (execEntropySample sample s) :=
  keepsError_ite (fun _ => keepsError_of_kept (.refl s)) (fun hst herror => absurd (.inr herror) hst)

theorem keepsError_execDrbgReseed (s : State) : KeepsError s (execDrbgReseed s) :=
  keepsError_of_kept (errorKept_ite (fun _ => .of_st rfl) (fun _ => .refl s))

theorem keepsError_execEntropyRawEnd (s : State) : KeepsError s (execEntropyRawEnd s) := keepsError_of_kept (errorKept_endRaw s)

theorem keepsError_vaultFault (s : State) (kind code : Nat) : KeepsError s (.next (s.vaultFault kind code)) := keepsError_of_kept (errorKept_vaultFault s kind code)

theorem keepsError_vaultAsk (s : State) (q : VaultReq) : KeepsError s (.next (s.vaultAsk q)) := keepsError_of_kept (errorKept_vaultAsk s q)

theorem keepsError_execHmacLedger (s : State) : KeepsError s (execHmacLedger s) := keepsError_of_kept (errorKept_askSeal s)

theorem keepsError_execVerifyCharter (s : State) : KeepsError s (execVerifyCharter s) :=
  keepsError_of_kept (errorKept_ite (fun _ => errorKept_askOnce s _) (fun _ => .refl s))

theorem keepsError_execTenantKeygen (tenant : Nat) (s : State) : KeepsError s (execTenantKeygen tenant s) :=
  keepsError_of_kept ((errorKept_askOnce _ _).after (.of_st rfl))

theorem keepsError_execTenantKeydrop (tenant : Nat) (s : State) : KeepsError s (execTenantKeydrop tenant s) := keepsError_of_kept (errorKept_askOnce s _)

theorem keepsError_execSignColophon (tenant : Nat) (s : State) : KeepsError s (execSignColophon tenant s) :=
  keepsError_of_kept (errorKept_ite (fun _ => errorKept_askOnce s _) (fun _ => .refl s))

theorem keepsError_execSignRoot (s : State) : KeepsError s (execSignRoot s) := keepsError_of_kept (errorKept_signNext s)

theorem keepsError_execVaultServiceDone (pairwise : Nat) (s : State) : KeepsError s (execVaultServiceDone pairwise s) :=
  keepsError_ite (fun _ => keepsError_of_kept (.refl s)) (fun hserves herror => absurd (.inl (not_serves_of_error herror)) hserves)

/-! ## Nonces and tokens -/

theorem keepsError_execNonceRequest (service ten tag : Nat) (s : State) : KeepsError s (execNonceRequest service ten tag s) :=
  keepsError_hostWrite (act := fun s => s.nonceWrite service) (errorKept_nonceWrite s service) _ _ _ _ _

theorem keepsError_execNonceLifetimeEnd (slot : Nat) (s : State) : KeepsError s (execNonceLifetimeEnd slot s) := by
  unfold execNonceLifetimeEnd
  split
  · exact keepsError_of_kept (.of_st rfl)
  · exact keepsError_of_kept (.refl s)

theorem keepsError_tokenOf (s : State) (service ten tag : Nat) : KeepsError s (.next (s.tokenOf service ten tag)) :=
  keepsError_hostWrite (act := fun s => if (tokenIn s.tokbuf).service = service then s.tokenGo true true else s)
    (errorKept_ite (fun _ => errorKept_tokenGo s _ _) (fun _ => .refl s)) _ _ _ _ _

theorem keepsError_execTokenReject (ecdsaOk mldsaOk : Bool) (ten tag : Nat) (s : State) : KeepsError s (execTokenReject ecdsaOk mldsaOk ten tag s) :=
  keepsError_hostWrite (act := fun s => s.tokenGo ecdsaOk mldsaOk) (errorKept_tokenGo s _ _) _ _ _ _ _

/-! ## Power, resets and the host port -/

theorem keepsError_execVbkLost (s : State) : KeepsError s (execVbkLost s) :=
  keepsError_ite (fun _ => keepsError_of_kept (.refl s)) (fun _ => keepsError_of_kept (.of_st rfl))

theorem keepsError_execQuiesceDone (s : State) : KeepsError s (execQuiesceDone s) := by
  unfold execQuiesceDone
  extract_lets p u
  have hu : ErrorKept s u := .of_st rfl
  have hkick (v : State) : ErrorKept v v.kickSweeps := .of_blank (by apply kickSweeps_blank <;> rfl)
  have hsweep : ErrorKept u (if u.bru.state = .ready then (u.noteSweep none 0).kickSweeps else u) :=
    errorKept_ite (fun _ => (hkick _).after (.of_st rfl)) (fun _ => .refl u)
  exact keepsError_ite (fun _ => keepsError_of_kept (.refl s)) (fun _ => keepsError_of_kept (hu.trans (hsweep.trans (errorKept_flushLedger _))))

theorem keepsError_execHrstb (s : State) : KeepsError s (execHrstb s) :=
  keepsError_of_kept (ErrorKept.trans (t := { s with pwr := { s.pwr with hrstb := true } }) (.of_st rfl)
    (errorKept_ite (fun _ => errorKept_hostReset _) (fun _ => .refl _)))

theorem keepsError_execBtnRelease (ms : Nat) (s : State) : KeepsError s (execBtnRelease ms s) := by
  have hrecord (u : State) (how : Nat) : ErrorKept u (u.bankedRecord 0x1202 ms how 0) := .of_blank (bankedRecord_blank u _ _ _ _ rfl rfl)
  unfold execBtnRelease
  extract_lets p u v
  have hu : ErrorKept s u := .of_st rfl
  have hv : ErrorKept u v := (errorKept_hostReset _).after (hrecord u 0)
  clear_value v
  refine keepsError_ite (fun _ => keepsError_of_kept (.refl s)) (fun _ => keepsError_ite (fun _ => keepsError_of_kept (.of_blank (by apply stuck_blank <;> rfl)))
    (fun _ => keepsError_after hu (keepsError_ite (fun _ => keepsError_of_kept ?_) (fun _ => keepsError_ite (fun _ => ?_) (fun _ =>
      keepsError_ite (fun _ => keepsError_of_kept ((errorKept_onRequest _ 3).after (hrecord u 1))) (fun _ => keepsError_of_kept (hrecord u 3)))))))
  · exact ErrorKept.after (.of_blank (by apply trayRequest_blank <;> rfl)) (hrecord u 2)
  · exact keepsError_ite (fun _ => keepsError_of_kept (hrecord u 3)) (fun _ => keepsError_of_kept (hv.trans (.of_st rfl)))

theorem keepsError_execRegisterWrite (addr data : Nat) (sz64 : Bool) (ten tag : Nat) (parOk : Bool) (s : State) :
    KeepsError s (execRegisterWrite addr data sz64 ten tag parOk s) := keepsError_of_kept (errorKept_ghpWrite s _ _ _ _ _ _)

theorem keepsError_execRgWrite (region : Nat) (tile : Option Nat) (off : Nat) (sz64 : Bool) (data ten tag : Nat) (s : State) :
    KeepsError s (execRgWrite region tile off sz64 data ten tag s) := by
  unfold execRgWrite
  extract_lets p ten' tag' data' u
  have hu : ErrorKept s u := errorKept_recv s _
  exact keepsError_ite (fun _ => keepsError_of_kept hu) (fun _ => keepsError_of_kept (hu.trans ((errorKept_send _ _).after (errorKept_writePlace u ten' p sz64 data'))))

/-- Settles O12: most commands change no part of the Vault, and each that may keeps ERROR. -/
theorem vaultErrorHolds : Obligations.VaultErrorHolds := by
  unfold Obligations.VaultErrorHolds
  intro c s t hexec herror hvaon hvdd hhold hporb hstop hiso
  have hkeeps : KeepsError s (exec c s) := by
    by_cases hvault : (mayChange c).vault = true
    case neg =>
      intro hs u hu
      rw [vault_of_blank (exec_keeps c s u hu) (by simpa using hvault)]
      exact hs
    case pos =>
      cases c
      case vaonLost half => exact absurd rfl (hvaon half)
      case vddLost half => exact absurd rfl (hvdd half)
      case holdoverEnter half => exact absurd rfl (hhold half)
      case porbAssert half => exact absurd rfl (hporb half)
      case stopDone => exact absurd rfl hstop
      case puIsoDone => exact absurd rfl hiso
      case faultRegister => exact keepsError_execFaultRegister s
      case fltAck => exact keepsError_execFltAck _ _ _ s
      case fltNtailWrite => exact keepsError_execFltNtailWrite _ _ _ s
      case l2QueueTimeout => exact keepsError_execL2QueueTimeout _ s
      case catReport => exact keepsError_execCatReport _ _ _ _ _ _ _ _ s
      case wdStat => exact keepsError_execWdStat _ _ _ _ _ _ _ s
      case caseCollectTimeout => exact keepsError_execCaseCollectTimeout s
      case rcvDone => exact keepsError_execRcvDone _ _ _ _ s
      case rcvDoneTimeout => exact keepsError_execRcvDoneTimeout _ s
      case flueNak => exact keepsError_execFlueNak _ _ s
      case flueRetrainDone => exact keepsError_execFlueRetrainDone _ _ _ s
      case folioPrepare => exact keepsError_execFolioPrepare _ s
      case flPrep => exact keepsError_execFlPrep _ _ _ _ _ _ _ _ _ s
      case folioPrepareTimeout => exact keepsError_execFolioPrepareTimeout _ s
      case folioApply => exact keepsError_execFolioApply _ _ s
      case hello => exact keepsError_execHello _ _ _ _ _ s
      case heartbeat => exact keepsError_execHeartbeat _ _ _ s
      case retransmitTimeout => exact keepsError_execRetransmitTimeout _ s
      case dispute => exact keepsError_execDispute _ _ _ _ _ _ _ s
      case sealMsg => exact keepsError_execSeal _ _ _ _ _ _ s
      case recallMsg => exact keepsError_execRecall _ _ _ _ _ _ _ _ _ s
      case role => exact keepsError_execRole _ _ _ _ _ _ s
      case tpair => exact keepsError_execTpair _ _ _ _ _ _ _ _ _ s
      case fprep => exact keepsError_execFprep _ _ _ _ _ _ _ s
      case fvote => exact keepsError_execFvote _ _ _ _ _ _ s
      case fseal => exact keepsError_execFseal _ _ _ _ _ s
      case fvoid => exact keepsError_execFvoid _ _ _ _ s
      case epPart => exact keepsError_execEpPart _ _ _ _ _ s
      case epochHashDone => exact keepsError_execEpochHashDone _ s
      case epPartTimeout => exact keepsError_execEpPartTimeout _ s
      case recordRingTimeout => exact keepsError_execRecordRingTimeout _ s
      case tenRecTailWrite => exact keepsError_execTenRecTailWrite _ _ _ _ s
      case epochSeal => exact keepsError_execEpochSeal _ _ _ _ s
      case epochDiscard => exact keepsError_execEpochDiscard _ _ _ _ s
      case epochRewind => exact keepsError_execEpochRewind _ _ _ _ _ s
      case epochRestart => exact keepsError_execEpochRestart _ _ _ _ s
      case expReport => exact keepsError_execExpReport _ _ _ _ _ _ _ _ _ _ _ s
      case senseConversion => exact keepsError_execSenseConversion _ s
      case enModel => exact keepsError_execEnModel _ _ _ _ s
      case enModelTimeout => exact keepsError_execEnModelTimeout _ s
      case tlReport => exact keepsError_execTlReport _ _ _ _ _ _ _ s
      case batchTimeout => exact keepsError_execBatchTimeout s
      case batchClose => exact keepsError_execBatchClose _ _ s
      case tlyRtailWrite => exact keepsError_execTlyRtailWrite _ _ _ s
      case foldTimeout => exact keepsError_execFoldTimeout s
      case flashProgramDone => exact keepsError_execFlashProgramDone _ s
      case flashEraseDone => exact keepsError_execFlashEraseDone _ s
      case ledgerFlush => exact keepsError_execLedgerFlush _ _ s
      case ledgerReadDone => exact keepsError_execLedgerReadDone _ s
      case ledgerRecovery => exact keepsError_execLedgerRecovery _ _ s
      case vaultSelftestDone => exact keepsError_execVaultSelftestDone _ _ _ _ _ s
      case periodicTestDue => exact keepsError_execPeriodicTestDue s
      case stnow => exact keepsError_execStnow _ _ s
      case periodicTestDone => exact keepsError_execPeriodicTestDone _ s
      case entropySample => exact keepsError_execEntropySample _ s
      case drbgReseed => exact keepsError_execDrbgReseed s
      case entropyRawEnd => exact keepsError_execEntropyRawEnd s
      case glitchDetect | scanModeEnable | keyStorePartitionAccess => exact keepsError_vaultFault s _ _
      case random | deriveRotkey | hmacRecord => exact keepsError_vaultAsk s _
      case hmacLedger => exact keepsError_execHmacLedger s
      case verifyCharter => exact keepsError_execVerifyCharter s
      case tenantKeygen => exact keepsError_execTenantKeygen _ s
      case tenantKeydrop => exact keepsError_execTenantKeydrop _ s
      case signColophon => exact keepsError_execSignColophon _ s
      case signRoot => exact keepsError_execSignRoot s
      case vaultServiceDone => exact keepsError_execVaultServiceDone _ s
      case nonceRequest => exact keepsError_execNonceRequest _ _ _ s
      case nonceLifetimeEnd => exact keepsError_execNonceLifetimeEnd _ s
      case ledgerClear | zeroise | provision | rekeyTally | revokeOfficer | debugUnlock | entropyRaw => exact keepsError_tokenOf s _ _ _
      case tokenReject => exact keepsError_execTokenReject _ _ _ _ s
      case vbkLost => exact keepsError_execVbkLost s
      case quiesceDone => exact keepsError_execQuiesceDone s
      case hrstb => exact keepsError_execHrstb s
      case btnRelease => exact keepsError_execBtnRelease _ s
      case registerWrite => exact keepsError_execRegisterWrite _ _ _ _ _ _ s
      case rgWrite => exact keepsError_execRgWrite _ _ _ _ _ _ _ s
      all_goals cases hvault
  exact hkeeps herror t hexec

end Sys2Proof.Machine
end
